-- ==== Sys2Proof/Word.lean ====
section
/-!
DEFINITION. The word types of the engines and of memory, and the unit in which the model counts instants.
-/

namespace Sys2Proof

/-- A byte of memory. -/
abbrev Byte := BitVec 8
/-- An X register, a data-SRAM word (05). -/
abbrev W16 := BitVec 16
/-- A port word, a program-SRAM word (05). -/
abbrev W32 := BitVec 32
/-- An engine accumulator (05). -/
abbrev W40 := BitVec 40

/-- An instant of the device: it counts 2^-32 ns since the release of RST_N (log entry 2). One PLL-A period is
0.625 ns, which is the whole number `edgeTick` of these units. -/
abbrev Instant := Nat

/-- One nanosecond. -/
def ns (n : Nat) : Nat := n * 4294967296
/-- One microsecond. -/
def us (n : Nat) : Nat := ns (n * 1000)
/-- One millisecond. -/
def ms (n : Nat) : Nat := ns (n * 1000000)
/-- One second. -/
def sec (n : Nat) : Nat := ns (n * 1000000000)
/-- One edge tick, 0.625 ns (00, "Numbers, units and bits"). -/
def edgeTick : Nat := 2684354560
/-- A sixteenth of an edge tick, the resolution of edge timing (00). -/
def sixteenth : Nat := 167772160
/-- One periphery tick, 5 ns (00). -/
def perTick : Nat := 21474836480

end Sys2Proof
end

