-- ==== Sys2Proof/Machine/ObjTypes.lean ====
section
/-!
DEFINITION. The types in which the object dictionary is written down: the data types of Table 0-3, the access codes of
Table 0-5, how a row states its range and its default, and a bit field of a register.
-/

namespace Sys2Proof.Machine

/-- The data types of Table 0-3 (R4), in the table's order. -/
inductive Ty where
  | bool | u8 | u16 | u32 | u64 | i16 | i32 | q15 | q31 | angle16 | time64 | string
  deriving DecidableEq, Repr

/-- The access codes of Table 0-5 (R12). -/
inductive Acc where
  | ro | rw | wo | rws | const | cmd
  deriving DecidableEq, Repr

/-- How an object row states the values it accepts (R5, R14). -/
inductive Rng where
  /-- Every value of the type. -/
  | all
  /-- 0 or 1 (BOOL). -/
  | bool
  /-- The signed or unsigned value lies between the bounds. -/
  | rng (lo hi : Int)
  /-- Between the bounds, or one other value. -/
  | orVal (lo hi other : Int)
  /-- A multiple, between the bounds. -/
  | mult (lo hi m : Int)
  /-- One of the listed values. -/
  | oneOf (l : List Nat)
  /-- Reserved bits zero (R13). -/
  | mask (m : Nat)
  /-- Reserved bits zero and each listed field (low bit, width, least, greatest) in its range. -/
  | fields (m : Nat) (l : List (Nat × Nat × Nat × Nat))
  /-- A status word: reserved bits zero; a written 1 clears the bits of `w1c`; other bits are read-only. -/
  | w1c (m w1c : Nat)
  /-- The range is a code table or depends on the index: see `specialRange`. -/
  | special
  deriving DecidableEq, Repr

/-- The default of a row. -/
inductive Dflt where
  /-- One value for every entry of the row. -/
  | c (v : Nat)
  /-- One value per subindex. -/
  | lst (l : List Nat)
  /-- One value per index. -/
  | byIdxL (l : List Nat)
  /-- Base plus index times step. -/
  | byIdx (base step : Nat)
  /-- Identity of the particular device: the spec gives none (see `devDefault`). -/
  | dev (k : Nat)
  /-- A formula over the index and subindex: see `specialDefault`. -/
  | special
  deriving DecidableEq, Repr

/-- A row of the object tables: `idxN` indexes from `idx`, each with `subN` subindexes from `sub`. -/
structure Obj where
  idx : Nat
  idxN : Nat
  sub : Nat
  subN : Nat
  ty : Ty
  acc : Acc
  dflt : Dflt
  rng : Rng
  deriving DecidableEq, Repr

/-- A field of a register: its lowest bit and its width. -/
structure Fld where
  lo : Nat
  w : Nat
  deriving DecidableEq, Repr

end Sys2Proof.Machine
end

