-- ==== Sys2Proof/Machine/Bits.lean ====
section
/-!
DEFINITION. Bit fields of numbers, signed readings of codes, sparse tables, and byte order: the helpers every family
of commands uses.
-/

namespace Sys2Proof.Machine

/-! ## Bits and fields -/

/-- Bit `i` of `v`. -/
def bit (v i : Nat) : Bool := v / 2 ^ i % 2 == 1

/-- A Boolean as a number. -/
def b2n (b : Bool) : Nat := if b then 1 else 0

/-- The field of `v`. -/
def fget (f : Fld) (v : Nat) : Nat := v / 2 ^ f.lo % 2 ^ f.w

/-- `v` with the field set to `x` (the bits of `x` beyond the field's width are dropped). -/
def fset (f : Fld) (v x : Nat) : Nat :=
  v / 2 ^ (f.lo + f.w) * 2 ^ (f.lo + f.w) + x % 2 ^ f.w * 2 ^ f.lo + v % 2 ^ f.lo

/-- `v` with bit `i` set or cleared. -/
def setBit (v i : Nat) (b : Bool) : Nat := fset ⟨i, 1⟩ v (b2n b)

/-- The bits of `v` that are not in `m`. -/
def clearMask (v m : Nat) : Nat := v - (v &&& m)

/-- The two's complement reading of the low `w` bits. -/
def sget (w v : Nat) : Int :=
  let u := v % 2 ^ w
  if u < 2 ^ (w - 1) then (u : Int) else (u : Int) - (2 ^ w : Nat)

/-- The code of a signed number in `w` bits (wraps). -/
def sput (w : Nat) (x : Int) : Nat := (x % ((2 ^ w : Nat) : Int)).toNat

/-- A signed number limited to `w` bits. -/
def satS (w : Nat) (x : Int) : Int :=
  max (-((2 ^ (w - 1) : Nat) : Int)) (min (((2 ^ (w - 1) : Nat) : Int) - 1) x)

/-- The number clamped between two bounds. -/
def clampI (lo hi x : Int) : Int := max lo (min hi x)

/-- The number of set bits among the low `n`. -/
def popCount : Nat → Nat → Nat
  | 0, _ => 0
  | n + 1, v => popCount n v + b2n (bit v n)

/-- The numbers below `n` whose bit is set in `v`, ascending. -/
def bitsOf (n v : Nat) : List Nat := (List.range n).filter (bit v ·)

/-- The number whose set bits are the listed ones. -/
def maskOf (l : List Nat) : Nat := l.foldl (fun m i => setBit m i true) 0

/-! ## Sparse tables -/

/-- A sparse table: what is not listed has the table's default value. -/
abbrev Tab (α : Type) := List (Nat × α)

/-- The entry at `i`, `d` where none is listed. -/
def tabGet {α : Type} (d : α) : Tab α → Nat → α
  | [], _ => d
  | (k, v) :: t, i => if k = i then v else tabGet d t i

/-- The table without the entries at `i`. -/
def tabErase {α : Type} : Tab α → Nat → Tab α
  | [], _ => []
  | (k, v) :: t, i => if k = i then tabErase t i else (k, v) :: tabErase t i

/-- The table with an entry added before the first greater key. -/
def tabInsert {α : Type} : Tab α → Nat → α → Tab α
  | [], i, v => [(i, v)]
  | (k, w) :: t, i, v => if i < k then (i, v) :: (k, w) :: t else (k, w) :: tabInsert t i v

/-- The table with the entry at `i` set; the default value is not listed. -/
def tabSet {α : Type} [DecidableEq α] (d : α) (t : Tab α) (i : Nat) (v : α) : Tab α :=
  if v = d then tabErase t i else tabInsert (tabErase t i) i v

/-- Keys strictly rising from `lo` on, no entry equal to the default. -/
def tabWfFrom {α : Type} [DecidableEq α] (d : α) (lo : Nat) : Tab α → Bool
  | [] => true
  | (k, v) :: t => decide (lo ≤ k) && decide (v ≠ d) && tabWfFrom d (k + 1) t

/-- The canonical form of a sparse table: keys strictly rising, no entry equal to the default. -/
def tabWf {α : Type} [DecidableEq α] (d : α) (t : Tab α) : Bool := tabWfFrom d 0 t

/-! ## Lists -/

/-- The list with entry `i` replaced (unchanged where there is none). -/
def listSet {α : Type} : List α → Nat → α → List α
  | [], _, _ => []
  | _ :: t, 0, v => v :: t
  | x :: t, i + 1, v => x :: listSet t i v

/-- The entry at `i`, `d` past the end. -/
def listGet {α : Type} (d : α) (l : List α) (i : Nat) : α := (l[i]?).getD d

/-! ## Byte order (R3: least significant byte first) -/

/-- The `n` bytes of a value, least significant first. -/
def toBytes : Nat → Nat → List Byte
  | 0, _ => []
  | n + 1, v => BitVec.ofNat 8 v :: toBytes n (v / 256)

/-- The value of bytes, least significant first. -/
def ofBytes : List Byte → Nat
  | [] => 0
  | b :: t => b.toNat + 256 * ofBytes t

/-! ## CRC-32 of IEEE 802.3 -/

/-- One bit of the reflected CRC-32. -/
def crcStep (c : Nat) : Nat := if c % 2 = 1 then (c / 2) ^^^ 0xEDB88320 else c / 2

/-- One byte of the reflected CRC-32. -/
def crcByte (c : Nat) (b : Byte) : Nat :=
  crcStep (crcStep (crcStep (crcStep (crcStep (crcStep (crcStep (crcStep (c ^^^ b.toNat))))))))

/-- CRC-32 of IEEE 802.3 over a list of bytes. -/
def crc32 (l : List Byte) : Nat := (l.foldl crcByte 0xFFFFFFFF) ^^^ 0xFFFFFFFF

/-! ## CRC-16/CCITT of the gate links (R184): polynomial 0x1021, initial value 0xFFFF, not reflected, no final XOR -/

/-- One bit of the CRC-16. -/
def crc16Step (c : Nat) : Nat :=
  if c / 0x8000 % 2 = 1 then ((c * 2) % 0x10000) ^^^ 0x1021 else (c * 2) % 0x10000

/-- One byte of the CRC-16. -/
def crc16Byte (c b : Nat) : Nat :=
  crc16Step (crc16Step (crc16Step (crc16Step (crc16Step (crc16Step (crc16Step (crc16Step (c ^^^ (b % 256 * 256)))))))))

/-- CRC-16/CCITT over bytes. -/
def crc16 (l : List Nat) : Nat := l.foldl crc16Byte 0xFFFF

/-- The `n` bytes of a value, most significant first (R183). -/
def beBytes : Nat → Nat → List Nat
  | 0, _ => []
  | n + 1, v => (v / 256 ^ n % 256) :: beBytes n v

/-- The value of bytes, most significant first. -/
def ofBE (l : List Nat) : Nat := l.foldl (fun v b => v * 256 + b % 256) 0

/-- The bytes from position `i` on, `n` of them. -/
def slice {α : Type} (l : List α) (i n : Nat) : List α := (l.drop i).take n

end Sys2Proof.Machine
end

