-- ==== Sys2Proof/Machine/Operands.lean ====
section
/-!
DEFINITION. The operand forms of the Octyr engines and their exact arithmetic (05_octyr_engines.md, R123, R125, R126,
Tables 5-2 and 5-4): accumulators, address forming, immediates, saturation, division, sine and cosine. Every result is
computed exactly on integers and narrowed at the end.
-/

namespace Sys2Proof.Machine

/-- The address modes AM of format M (Table 5-2). -/
inductive AddrMode where
  /-- 00: the absolute address [ADDR]. -/
  | absolute (addr : BitVec 14)
  /-- 01: [Pn + OFF8]. -/
  | indexed (p : Fin 8) (off : BitVec 8)
  /-- 10: [Pn], then Pn += OFF8. -/
  | postModified (p : Fin 8) (off : BitVec 8)
  deriving DecidableEq, Repr

/-- The port operand of format P: PORT, or (PORT + Pn) modulo 4,096 when IX is set (Table 5-2). -/
inductive PortRef where
  | direct (port : BitVec 12)
  | plusP (port : BitVec 12) (p : Fin 8)
  deriving DecidableEq, Repr

/-- A PTP message of IEEE 1588 as the rules of 11 use it (R316 to R319). A sender is clockIdentity · 65,536 + port number; times
and corrections count 2^-16 ns. -/
inductive PtpMsg where
  /-- Announce: priority1, clockClass, clockAccuracy, offsetScaledLogVariance, priority2, grandmaster identity, stepsRemoved. -/
  | announce (p1 cls acc var p2 gm steps : Nat)
  /-- Sync: two-step flag, originTimestamp, correctionField. -/
  | sync (seq : Nat) (twoStep : Bool) (origin corr : Int)
  | followUp (seq : Nat) (origin corr : Int)
  | pdelayReq (seq : Nat)
  /-- Pdelay_Resp to a requester: two-step flag, requestReceiptTimestamp, correctionField. -/
  | pdelayResp (seq to_ : Nat) (twoStep : Bool) (receipt corr : Int)
  | pdelayRespFollowUp (seq to_ : Nat) (origin corr : Int)
  deriving DecidableEq, Repr

/-- What a step of in-service test finds (R398, Table 15-2). -/
inductive IstStep where
  /-- Shared SRAM words marched: first address, how many bytes, the address of a mismatch. -/
  | march (a : Nat) (n : Fin 65) (bad : Option Nat)
  /-- A spare row marched: its address, whether it failed. -/
  | spareRow (a : Nat) (bad : Bool)
  /-- A segment of an engine's self-test, with a mismatching signature or not. -/
  | segment (e : Fin 16) (seg : Fin 64) (bad : Bool)
  /-- The reference converted by a slice at −90 %, 0 and +90 %: its largest error in codes. -/
  | slice (k : Fin 17) (err : Nat)
  /-- The gate-link check of a lane starts. -/
  | gateCheck (k : Fin 64)
  /-- An item completes a pass. -/
  | pass (item : Fin 5)
  /-- The resource is claimed: the step is abandoned. -/
  | abandoned
  deriving DecidableEq, Repr

/-- The blocks with a start-up or a shutdown of Table 1-7. -/
inductive Block where
  | filterLane (k : Fin 40)
  | gateLink (k : Fin 64)
  | localDriver (n : Fin 8)
  | staticSwitch (n : Fin 4)
  | recorder (n : Fin 4)
  | engine (e : Fin 16)
  | adc
  | domain (d : Fin 12)
  deriving DecidableEq, Repr

/-- The IPv4 and UDP headers around an NDP frame: destination address, source address and port, whether it is a fragment. -/
structure UdpIn where
  dst : BitVec 32 := 0
  src : BitVec 32 := 0
  port : BitVec 16 := 0
  fragment : Bool := false
  deriving DecidableEq, Repr

/-- What an Ethernet frame carries beside its payload: VID of its VLAN tag (0: untagged), and, where ETH0 and ETH1 are a redundant pair,
the LAN or ring port of arrival with source address and sequence number of the redundancy tag (R364, R365). A frame of another port
has no such values and the fields are not read. -/
structure EthIn where
  vid : BitVec 12
  lan : Fin 2
  src : BitVec 48
  seq : BitVec 16
  udp : UdpIn := {}
  deriving DecidableEq, Repr

/-- A PTP message in its Ethernet frame: VLAN identifier and priority (0 untagged), message. -/
structure PtpFrame where
  vid : BitVec 12
  pcp : BitVec 3
  msg : PtpMsg
  deriving DecidableEq, Repr

/-- A record of eMRAM (R422): a configuration slot (0 A, 1 B), a delta by its sequence number, a journal item by its key, the claim of the
baton, an engine image, a coefficient bank, the trained codes of a lane, a patch slot (0 A, 1 B). -/
inductive RecId where
  | slot (n : Fin 2)
  | delta (seq : Nat)
  | item (port session seq : Nat)
  | claim
  | image (e : Fin 16)
  | coefs (k : Fin 40) (bank : Fin 2)
  | codes (k : Fin 64)
  | patch (n : Fin 2)
  deriving DecidableEq, Repr

/-- A copy of a record as it reads (Table 16-3). -/
structure RecCopy where
  header : BitVec 128
  payload : List (BitVec 8)
  sum : BitVec 64
  commit : BitVec 64
  deriving DecidableEq, Repr

/-- A record of which not both copies read as they were written; none is a copy with an uncorrectable error (Table 12-3). -/
structure RecRead where
  id : RecId
  a : Option RecCopy
  b : Option RecCopy
  deriving DecidableEq, Repr

/-- What start-up finds outside (Table 16-1): the samples of the straps, 1 µs apart ([1:0] BOOT, [3:2] CMP, [4] DUPLEX_ID), whether
the ROM passes its check, VDRV in mV, and the records whose copies do not both read as they were written (R423). -/
structure StartIn where
  straps : List (BitVec 5)
  romOk : Bool
  vdrv : BitVec 16
  reads : List RecRead := []
  deriving DecidableEq, Repr

/-- Black start and cadence (04). -/
structure Cad where
  deadSince : Option Instant := none
  extDeadSince : Option Instant := none
  stageAt : Instant := 0
  startAt : Instant := 0
  volt : Rat := 0
  /-- REVERSE has ended: the next inner cycle begins RAMP; that cycle keeps θ at 90° (R99). -/
  rampDue : Bool := false
  rampFirst : Bool := false
  fromForm : Bool := false
  /-- CAD_EN was 1 at a command from FORM to SYNC: DONE follows at its end (R119). -/
  owesDone : Bool := false
  heldFor : Rat := 0
  ilimSince : Option Instant := none
  settleSince : Option Instant := none
  settled : Bool := false
  ramped : Rat := 0
  inWinSince : Option Instant := none
  clearedAt : Option Instant := none
  extLostSince : Option Instant := none
  theta : Rat := 0
  wext : Rat := 1
  wextInt : Rat := 0
  vext : Rat := 0
  xsv : Rat := 0
  e0 : Rat := 0
  /-- Receiver: running, slot reference, a frame start detected since it, units heard, READY decoded since start. -/
  rx : Bool := false
  slotRef : Instant := 0
  frameAt : Option Instant := none
  lastStart : Option Instant := none
  heard : Nat := 0
  readyHeard : Bool := false
  /-- Transmitter: queue of message codes, start of the frame in progress, collisions of the oldest frame. -/
  queue : List Nat := []
  txAt : Option Instant := none
  collisions : Nat := 0
  /-- A frame of this unit has been sent, or is being sent, and its own decoding is awaited. -/
  own : Bool := false
  /-- The turn master owes ENERGISE_NEXT after a HOLD (R118). -/
  owed : Bool := false
  holdUntil : Instant := 0
  resyncBy : Nat := 0
  resyncUntil : Instant := 0
  joinBy : Option Instant := none
  offset : Rat := 0
  baseline : Rat := 0
  /-- The source frequency in Hz at the outer cycles since the receiver started, newest first (R112). -/
  samples : List (Instant × Rat) := []
  /-- CAD_EN has been cleared: it acts at the next outer-cycle start (R121). -/
  offDue : Bool := false
  deriving DecidableEq, Repr

/-- The payload of a STATE_VECTOR (R378): inner cycle, the states of Table 2-13, the dictionary objects it carries (0x3200 setpoints
in use, HELD_MODE, chosen values, I_LIM_CHOSEN, BRK_STATE, cadence) by key, ports 0x780–0x7EF, mode, MODE_SEQ, the ramps of the chosen
values (from, to, time since its start), CRC of the active parameter set, entry to the mode and to LIMIT, cadence state; instants are those
of the timebase. -/
structure StateVec where
  cycle : Nat := 0
  law : List Rat := []
  objs : List (Nat × Nat) := []
  ports : List Nat := []
  mode : Nat := 0
  modeSeq : Nat := 0
  ramp : Option (List Rat × List Rat × Nat × Nat) := none
  paramCrc : Nat := 0
  modeAt : Nat := 0
  limitAt : Nat := 0
  cad : Cad := {}
  deriving DecidableEq, Repr

/-- What a TIME frame carries (R380), in units of 2^-16 ns: the instant at which it was sent, and the one at which its sender received the last
frame of this device, in the sender's time. -/
structure TimeIn where
  tx : Int
  rx : Option Int
  deriving DecidableEq, Repr

/-- A part of JOIN (R375): stored configuration (staged and running values by key, active set), engine images and coefficient
banks, journal items and sessions, carrier starts. -/
inductive JoinPart where
  /-- RWS values and the active law set by key. -/
  | config (vals active : List (Nat × Nat))
  /-- Engine images: engine, program words, data words by address. -/
  | image (e : Fin 16) (prog data : List (Nat × Nat))
  /-- The coefficients of a bank: lane, bank, descriptor (0x2624, 0x2625), coefficients. -/
  | bank (k : Fin 40) (b : Fin 2) (desc : Nat) (coefs : List Nat)
  /-- Configuration, images and banks are complete. -/
  | configEnd
  /-- An item of the journal: port, session, sequence number, object, value, recorded outcome. -/
  | item (port session seq obj val : Nat) (result : Option Nat)
  /-- An open session: port, identifier, LAST_SEQ. -/
  | session (port id last : Nat)
  | journalEnd
  /-- The carriers of a mask start at a look-ahead instant (START_AT with its fraction, in 2^-32 ns) that the active device chooses. -/
  | carriers (mask : BitVec 16) (startAt : Nat)
  | carriersEnd
  deriving DecidableEq, Repr

/-- The address that an address register of value `p` and modulus exponent `k` forms with an offset (R125). -/
def formAddr (p : BitVec 14) (k : BitVec 4) (off : Int) : BitVec 14 :=
  if k = 0 then BitVec.ofInt 14 (p.toNat + off)
  else
    let m : Int := 2 ^ k.toNat
    BitVec.ofInt 14 ((p.toNat : Int) / m * m + ((p.toNat : Int) + off) % m)

/-- An integer saturated to 16 bits, and whether it saturated. -/
def sat16 (v : Int) : W16 × Bool :=
  if v > 32767 then (0x7FFF#16, true) else if v < -32768 then (0x8000#16, true) else (BitVec.ofInt 16 v, false)

/-- The Q31 code of the Q15 product, 2 · Xs · Xt (R123). -/
def mulQ (s t : W16) : Int := 2 * s.toInt * t.toInt

/-- ADDAS: the sum saturated to ±2^39, and whether it saturated. -/
def sat40 (v : Int) : W40 × Bool :=
  if v > 549755813887 then (BitVec.ofInt 40 549755813887, true)
  else if v < -549755813888 then (BitVec.ofInt 40 (-549755813888), true) else (BitVec.ofInt 40 v, false)

/-- v · 2^sh, rounded toward minus infinity when `sh` is negative. -/
def shiftI (v : Int) (sh : Int) : Int :=
  if 0 ≤ sh then v * 2 ^ sh.toNat else v / 2 ^ (-sh).toNat

/-- v · 2^sh, a right shift rounding to nearest with ties upward (SHA.R). -/
def shiftRoundI (v : Int) (sh : Int) : Int :=
  if 0 ≤ sh then v * 2 ^ sh.toNat else (v + 2 ^ ((-sh).toNat - 1)) / 2 ^ (-sh).toNat

/-- SATR: floor((Aa · 2^SH + 2^15) / 2^16), before saturation (R123). -/
def satrI (a : W40) (sh : Int) : Int :=
  if 0 ≤ sh then (a.toInt * 2 ^ sh.toNat + 32768) / 65536
  else (a.toInt + 32768 * 2 ^ (-sh).toNat) / (65536 * 2 ^ (-sh).toNat)

/-- PRESET's rounding: floor(Aa / 2^16 + 1/2). -/
def roundQ (a : W40) : Int := (a.toInt + 32768) / 65536

/-- DIVQ for a divisor that is not zero: the quotient in Q15 truncated toward zero, saturated when |Xs| ≥ |Xt|; the
exact quotient −1.0 does not set SAT (Table 5-4, 0x0E). -/
def divQ (s t : W16) : W16 × Bool :=
  if s.toInt.natAbs < t.toInt.natAbs then (BitVec.ofInt 16 (Int.tdiv (s.toInt * 32768) t.toInt), false)
  else if s.toInt = -t.toInt then (0x8000#16, false)
  else if decide (s.toInt < 0) = decide (t.toInt < 0) then (0x7FFF#16, true) else (0x8000#16, true)

/-! ## Sine and cosine (SCOS): error at most 2 LSB -/

/-- 2^60 · π / 2, rounded down. -/
def halfPi60 : Int := 1811004864519280710

/-- The Taylor terms of the cosine at x = `x` / 2^60 from term `k` on: `t` is the present term, `n` terms follow. -/
def cosTerms : Nat → Nat → Int → Int → Int
  | 0, _, _, t => t
  | n + 1, k, x2, t => t + cosTerms n (k + 2) x2 (-(t * x2) / 1152921504606846976 / ((k + 1) * (k + 2)))

/-- floor(32,768 · cos) of an angle of the first quadrant, 0 < `a` < 16,384 counts. -/
def cosQuad (a : Nat) : Int :=
  let x := halfPi60 * a / 16384
  cosTerms 12 0 (x * x / 1152921504606846976) 1152921504606846976 / 35184372088832

/-- floor(32,768 · cos) of an ANGLE16 (R8: 65,536 counts per turn). -/
def cosFloor (a : Nat) : Int :=
  let a := a % 65536
  if a = 0 then 32768
  else if a < 16384 then cosQuad a
  else if a = 16384 then 0
  else if a < 32768 then -cosQuad (32768 - a) - 1
  else if a = 32768 then -32768
  else if a < 49152 then -cosQuad (a - 32768) - 1
  else if a = 49152 then 0
  else cosQuad (65536 - a)

/-- A Q15 code within 2 LSB of 32,768 · cos of the angle: which of the codes from floor − 1 to floor + 2 it is, the
choice `c` says; the spec bounds the error and says no more. -/
def cosWithin (a c : Nat) : W16 := (sat16 (cosFloor a - 1 + (c % 4 : Nat))).1

end Sys2Proof.Machine
end

