-- ==== Sys2Proof/Syntax.lean ====
section
/-!
DEFINITION. The commands of the VG4860: one constructor per row of spec/opcode_table.json, in the table's order, with the
operands its row and its rule speak of. A command is an event at a pin or a link, an instant that a timer of the device
reaches, an operation a client asks for, or one instruction of an Octyr engine. An operand `t` is the instant of the
event (see `Instant`); numbered units carry their number as a `Fin`, so that a command names only a unit that exists.
-/

namespace Sys2Proof

open Machine (AddrMode PortRef PtpMsg PtpFrame IstStep Block StateVec JoinPart TimeIn EthIn StartIn)



/-- The commands (spec/opcode_table.json). -/
inductive Instr where
  /-- REGISTER_WRITE (R12). A dictionary write to an object that has no row of its own is checked and takes effect as its access code states. -/
  | registerWrite (port : Fin 10) (idx : BitVec 16) (sub : BitVec 8) (v : BitVec 64)
  /-- RESET_RELEASE (R418). The rising edge of RST_N starts the boot sequence, which runs through PLL lock, ROM check, patch, configuration load and journal replay to BASECAMP. -/
  | resetRelease (start : StartIn)
  /-- RST_N_RESET (R403). A low level on RST_N lasting 1 µs or more resets the device, and the DRAM enters self-refresh. -/
  | rstNReset (t : Instant)
  /-- VDD_UNDERVOLTAGE_RESET (R401). VDD stays below 0.62 V for 2 µs and the device takes a power-up reset. -/
  | vddUndervoltageReset (t : Instant)
  /-- SCA_LOCKSTEP_MISMATCH (R24). An SCA lockstep mismatch forces ALL_OFF frames on every live link and BASECAMP, restarts SCA from ROM and reports a fault to the partner. -/
  | scaLockstepMismatch (t : Instant)
  /-- SCB_LOCKSTEP_MISMATCH (R25). An SCB lockstep mismatch restarts SCB from ROM and drops the transport state of the network sessions. -/
  | scbLockstepMismatch (t : Instant)
  /-- SCB_RESUME (R25). SCB answers again after its restart and applies the committed journal items in commit order. -/
  | scbResume (t : Instant)
  /-- BLOCK_SHUTDOWN_COMPLETE (R30). A block's shutdown sequence completes, and a pending enable restarts the block as from off. -/
  | blockShutdownComplete (b : Block) (t : Instant)
  /-- BLOCK_STARTUP_COMPLETE (R32). A block's start-up completes, and a pending disable then starts its shutdown. -/
  | blockStartupComplete (b : Block) (t : Instant)
  /-- TIME_ALARM (R320). A time alarm instance is delivered at the first PLL-A tick at or past its value and starts its engines and triggers. -/
  | timeAlarm (n : Fin 16) (t : Instant)
  /-- DEADLINE_PASS (R17). A cycle's deadline tick passes without END; its PWM writes and LOAD_ALL are invalidated, and MISS is set and counted. -/
  | deadlinePass (e : Fin 16) (t : Instant)
  /-- END_REGISTERED (R132). END is registered after both write queues drain, which completes the cycle and makes its writes final. -/
  | endRegistered (e : Fin 16) (t : Instant)
  /-- PORT_WRITE_DELIVER (R130). At a periphery tick an engine's timed-port or fabric queue delivers its head writes to their ports. -/
  | portWriteDeliver (e : Fin 16) (fabric : Bool) (t : Instant)
  /-- MPY (R123). Multiplies two X registers into an accumulator. -/
  | mpy (e : Fin 16) (a : Fin 4) (xs : Fin 16) (xt : Fin 16)
  /-- MAC (R123). Multiplies two X registers and adds the product to an accumulator. -/
  | mac (e : Fin 16) (a : Fin 4) (xs : Fin 16) (xt : Fin 16)
  /-- MSU (R123). Multiplies two X registers and subtracts the product from an accumulator. -/
  | msu (e : Fin 16) (a : Fin 4) (xs : Fin 16) (xt : Fin 16)
  /-- MACM (R125). Multiplies an X register by a memory word and accumulates, applying the address mode. -/
  | macm (e : Fin 16) (a : Fin 4) (d : Fin 16) (m : AddrMode)
  /-- ADDA (R123). Adds one accumulator to another. -/
  | adda (e : Fin 16) (a : Fin 4) (b : Fin 4)
  /-- SUBA (R123). Subtracts one accumulator from another. -/
  | suba (e : Fin 16) (a : Fin 4) (b : Fin 4)
  /-- ADDAS (R123). Adds one accumulator to another, saturating to ±2^39. -/
  | addas (e : Fin 16) (a : Fin 4) (b : Fin 4)
  /-- MOVA (R123). Copies one accumulator into another. -/
  | mova (e : Fin 16) (a : Fin 4) (b : Fin 4)
  /-- NEGA (R123). Negates an accumulator. -/
  | nega (e : Fin 16) (a : Fin 4)
  /-- ABSA (R123). Takes the absolute value of an accumulator. -/
  | absa (e : Fin 16) (a : Fin 4)
  /-- CLRA (R123). Clears an accumulator. -/
  | clra (e : Fin 16) (a : Fin 4)
  /-- SATR (R123). Rounds, shifts and saturates an accumulator into an X register and sets SAT. -/
  | satr (e : Fin 16) (d : Fin 16) (a : Fin 4) (sh : BitVec 8)
  /-- LDA (R123). Loads an accumulator from a sign-extended, shifted X register. -/
  | lda (e : Fin 16) (a : Fin 4) (xs : Fin 16) (sh : BitVec 8)
  /-- SHA (R123). Shifts an accumulator, with optional rounding of a right shift. -/
  | sha (e : Fin 16) (a : Fin 4) (sh : BitVec 8) (round : Bool)
  /-- ADD (R450). Adds two X registers with wrap and sets the flags. -/
  | add (e : Fin 16) (d : Fin 16) (xs : Fin 16) (xt : Fin 16)
  /-- SUB (R450). Subtracts two X registers with wrap and sets the flags. -/
  | sub (e : Fin 16) (d : Fin 16) (xs : Fin 16) (xt : Fin 16)
  /-- ADDS (R450). Adds two X registers with saturation and sets SAT. -/
  | adds (e : Fin 16) (d : Fin 16) (xs : Fin 16) (xt : Fin 16)
  /-- SUBS (R450). Subtracts two X registers with saturation and sets SAT. -/
  | subs (e : Fin 16) (d : Fin 16) (xs : Fin 16) (xt : Fin 16)
  /-- AND (R450). Forms the bitwise AND of two X registers. -/
  | andX (e : Fin 16) (d : Fin 16) (xs : Fin 16) (xt : Fin 16)
  /-- OR (R450). Forms the bitwise OR of two X registers. -/
  | orX (e : Fin 16) (d : Fin 16) (xs : Fin 16) (xt : Fin 16)
  /-- XOR (R450). Forms the bitwise XOR of two X registers. -/
  | xorX (e : Fin 16) (d : Fin 16) (xs : Fin 16) (xt : Fin 16)
  /-- MIN (R450). Takes the minimum of two X registers. -/
  | minX (e : Fin 16) (d : Fin 16) (xs : Fin 16) (xt : Fin 16)
  /-- MAX (R450). Takes the maximum of two X registers. -/
  | maxX (e : Fin 16) (d : Fin 16) (xs : Fin 16) (xt : Fin 16)
  /-- NEG (R450). Negates an X register. -/
  | negX (e : Fin 16) (d : Fin 16) (xs : Fin 16)
  /-- ABS (R450). Takes the absolute value of an X register. -/
  | absX (e : Fin 16) (d : Fin 16) (xs : Fin 16)
  /-- NOT (R450). Inverts an X register bitwise. -/
  | notX (e : Fin 16) (d : Fin 16) (xs : Fin 16)
  /-- ALU_MOV (R450). Copies one X register to another through the ALU. -/
  | aluMov (e : Fin 16) (d : Fin 16) (xs : Fin 16)
  /-- ASR (R450). Shifts an X register right arithmetically. -/
  | asr (e : Fin 16) (d : Fin 16) (xs : Fin 16) (n : BitVec 8)
  /-- LSR (R450). Shifts an X register right logically. -/
  | lsr (e : Fin 16) (d : Fin 16) (xs : Fin 16) (n : BitVec 8)
  /-- LSL (R450). Shifts an X register left. -/
  | lsl (e : Fin 16) (d : Fin 16) (xs : Fin 16) (n : BitVec 8)
  /-- LSLS (R450). Shifts an X register left with saturation. -/
  | lsls (e : Fin 16) (d : Fin 16) (xs : Fin 16) (n : BitVec 8)
  /-- LIMIT (R450). Clamps an X register between two bounds and sets LIM. -/
  | limit (e : Fin 16) (d : Fin 16) (xs : Fin 16) (xt : Fin 16)
  /-- LIMA (R450). Clamps an accumulator between two scaled bounds and sets LIM. -/
  | lima (e : Fin 16) (a : Fin 4) (xs : Fin 16) (xt : Fin 16)
  /-- SLEW (R450). Moves a residual toward zero by a step and sets RES. -/
  | slew (e : Fin 16) (d : Fin 16) (xs : Fin 16)
  /-- PRESET (R450). Splits a rounded accumulator into a clamped value and a residual and sets LIM and RES. -/
  | preset (e : Fin 16) (d : Fin 16) (a : Fin 4) (xs : Fin 16) (xt : Fin 16)
  /-- DIVQ (R450). Divides in Q15 with saturation, setting DZ on a zero divisor. -/
  | divq (e : Fin 16) (d : Fin 16) (xs : Fin 16) (xt : Fin 16)
  /-- SCOS (R450). Computes the cosine and sine of an ANGLE16 value. -/
  | scos (e : Fin 16) (d : Fin 16) (xs : Fin 16)
  /-- LDI (R126). Loads an immediate into an X register. -/
  | ldi (e : Fin 16) (d : Fin 16) (imm : BitVec 16)
  /-- ADDI (R450). Adds an immediate to an X register with wrap. -/
  | addi (e : Fin 16) (d : Fin 16) (imm : BitVec 16)
  /-- CMPI (R450). Sets the flags from an X register minus an immediate. -/
  | cmpi (e : Fin 16) (d : Fin 16) (imm : BitVec 16)
  /-- LDAI (R123). Loads an accumulator from a shifted immediate. -/
  | ldai (e : Fin 16) (a : Fin 4) (imm : BitVec 16)
  /-- LDPI (R125). Loads an address register from an immediate. -/
  | ldpi (e : Fin 16) (p : Fin 8) (imm : BitVec 16)
  /-- LDPI_K (R125). Sets the modulus exponent k of an address register. -/
  | ldpiK (e : Fin 16) (p : Fin 8) (k : BitVec 16)
  /-- ADDPI (R125). Adds a signed immediate to an address register under the modulus rule. -/
  | addpi (e : Fin 16) (p : Fin 8) (imm : BitVec 16)
  /-- MOV_X_P (R126). Copies an address register into an X register. -/
  | movXP (e : Fin 16) (d : Fin 16) (p : Fin 8)
  /-- MOV_P_X (R126). Copies an X register into an address register. -/
  | movPX (e : Fin 16) (p : Fin 8) (xs : Fin 16)
  /-- MOV_X_ALOW (R126). Copies accumulator bits [15:0] into an X register. -/
  | movXAlow (e : Fin 16) (d : Fin 16) (a : Fin 4)
  /-- MOV_X_AHIGH (R126). Copies accumulator bits [31:16] into an X register. -/
  | movXAhigh (e : Fin 16) (d : Fin 16) (a : Fin 4)
  /-- MOV_X_AGUARD (R126). Copies the sign-extended accumulator guard bits into an X register. -/
  | movXAguard (e : Fin 16) (d : Fin 16) (a : Fin 4)
  /-- MOV_ALOW_X (R126). Writes an X register into accumulator bits [15:0]. -/
  | movAlowX (e : Fin 16) (a : Fin 4) (xs : Fin 16)
  /-- MOV_AHIGH_X (R126). Writes an X register into accumulator bits [31:16]. -/
  | movAhighX (e : Fin 16) (a : Fin 4) (xs : Fin 16)
  /-- MOV_AGUARD_X (R126). Writes the low byte of an X register into the accumulator guard bits. -/
  | movAguardX (e : Fin 16) (a : Fin 4) (xs : Fin 16)
  /-- MOV_X_FLAGS (R450). Copies FLAGS, zero-extended, into an X register. -/
  | movXFlags (e : Fin 16) (d : Fin 16)
  /-- CMP (R450). Sets the flags from the difference of two X registers. -/
  | cmp (e : Fin 16) (xs : Fin 16) (xt : Fin 16)
  /-- LD (R125). Loads an X register from data SRAM. -/
  | ld (e : Fin 16) (d : Fin 16) (m : AddrMode)
  /-- ST (R125). Stores an X register to data SRAM. -/
  | st (e : Fin 16) (d : Fin 16) (m : AddrMode)
  /-- LDD (R125). Loads a register pair from two consecutive data words. -/
  | ldd (e : Fin 16) (d : Fin 16) (m : AddrMode)
  /-- STD (R125). Stores a register pair to two consecutive data words. -/
  | std (e : Fin 16) (d : Fin 16) (m : AddrMode)
  /-- LDACC (R125). Loads an accumulator from three data words. -/
  | ldacc (e : Fin 16) (a : Fin 4) (m : AddrMode)
  /-- STACC (R125). Stores an accumulator as three data words. -/
  | stacc (e : Fin 16) (a : Fin 4) (m : AddrMode)
  /-- IN (R130). Reads the low half of a port word. -/
  | inPort (e : Fin 16) (d : Fin 16) (port : PortRef)
  /-- INH (R130). Reads the high half of a port word. -/
  | inh (e : Fin 16) (d : Fin 16) (port : PortRef)
  /-- IND (R130). Reads a whole port word into a register pair. -/
  | ind (e : Fin 16) (d : Fin 16) (port : PortRef)
  /-- INW (R130). Waits until the port word has been written in this cycle, then reads it. -/
  | inw (e : Fin 16) (d : Fin 16) (port : PortRef)
  /-- INW_COMPLETE (R130). The awaited port word is registered and the waiting INW returns it. -/
  | inwComplete (e : Fin 16) (t : Instant)
  /-- OUT (R130). Queues a sign-extended X register as a port write. -/
  | out (e : Fin 16) (d : Fin 16) (port : PortRef)
  /-- OUTD (R130). Queues a register pair as a port write. -/
  | outd (e : Fin 16) (d : Fin 16) (port : PortRef)
  /-- OUTA (R130). Queues accumulator bits [31:0] as a port write. -/
  | outa (e : Fin 16) (a : Fin 4) (port : PortRef)
  /-- PORT_QUEUE_ROOM (R130). A full write queue frees an entry, and the waiting port write enters it. -/
  | portQueueRoom (e : Fin 16) (t : Instant)
  /-- ATADD (R133). Atomically adds to a fabric-memory port and returns the old value. -/
  | atadd (e : Fin 16) (d : Fin 16) (port : PortRef)
  /-- WAITP (R133). Waits until a fabric-memory port meets a condition. -/
  | waitp (e : Fin 16) (d : Fin 16) (port : PortRef) (cond : BitVec 4)
  /-- WAITP_COMPLETE (R133). The awaited fabric-memory condition holds, and the waiting WAITP continues. -/
  | waitpComplete (e : Fin 16) (t : Instant)
  /-- B (R128). Branches to a target when its condition holds. -/
  | branch (e : Fin 16) (cond : BitVec 4) (target : BitVec 13)
  /-- CALL (R128). Pushes the return address and jumps. -/
  | call (e : Fin 16) (target : BitVec 13)
  /-- RET (R128). Pops the return address. -/
  | ret (e : Fin 16)
  /-- LOOP (R128). Runs the following block a fixed number of times. -/
  | loop (e : Fin 16) (n : BitVec 9) (target : BitVec 13)
  /-- FENCE (R132). Waits until every earlier write of the engine is registered. -/
  | fence (e : Fin 16)
  /-- FENCE_COMPLETE (R132). Every earlier write is registered, and the waiting FENCE completes. -/
  | fenceComplete (e : Fin 16) (t : Instant)
  /-- END (R132). Ends the cycle program and starts the drain of both write queues. -/
  | endCycle (e : Fin 16)
  /-- NOP (R126). Does nothing for one step. -/
  | nop (e : Fin 16)
  /-- TRAP (R143). Raises ENGINE_FAULT with a trap code, ending the cycle as missed and faulting the engine. -/
  | trap (e : Fin 16) (code : BitVec 8)
  /-- ILLEGAL_INSTRUCTION (R127). An unlisted opcode, reserved field or odd D makes the engine trap. -/
  | illegalInstruction (e : Fin 16) (w : BitVec 32)
  /-- LOAD (R149). Copies the committed image into the engine SRAM, zeroes the registers and clears ENGINE_FAULT. -/
  | engineLoad (e : Fin 16)
  /-- LOAD_COMPLETE (R149). An engine LOAD completes within 25 µs. -/
  | loadComplete (e : Fin 16) (t : Instant)
  /-- ENGINE_ENABLE (R150). ENABLE = 1 starts cycles from the next alarm instance, or is refused. -/
  | engineEnable (e : Fin 16)
  /-- ENGINE_DISABLE (R150). ENABLE = 0 starts the engine's shutdown at the current cycle's END or deadline. -/
  | engineDisable (e : Fin 16)
  /-- ENGINE_STATUS_READ (R142). At behaviour level 0, reading the engine status object clears MISS. -/
  | engineStatusRead (e : Fin 16)
  /-- ENGINE_CLEAR (R142). Zeroes the engine's miss, overrun, late-write and ECC counters and restarts SLACK_MIN. -/
  | engineClear (e : Fin 16)
  /-- LAW_BUILTIN_SET (R151). Setting LAW_BUILTIN in BASECAMP loads the Zeset law into OE0–OE7 and restores its resources. -/
  | lawBuiltinSet
  /-- LAW_BUILTIN_CLEAR (R151). Clearing LAW_BUILTIN stops OE0–OE7, zeroes their SRAM, releases the law resources and loads user images. -/
  | lawBuiltinClear
  /-- IMG_WRITE (R148). Copies IMG_BLOCK into the staged engine image in eMRAM. -/
  | imgWrite
  /-- IMG_COMMIT (R148). Checks the staged image CRC and commits the image. -/
  | imgCommit
  /-- MB_IN_WRITE (R147). A dictionary write to an inbound mailbox word is registered and IN_SEQ is incremented. -/
  | mbInWrite (m : Fin 16) (i : Fin 6) (v : BitVec 32)
  /-- APPLY (R40). Checks the staged law parameter set and schedules it, or reports the first refusal. -/
  | applyStaged
  /-- BASE_WRITE (R41). A base write in BASECAMP takes effect at once and updates the derived bases. -/
  | baseWrite (side : Fin 2) (sub : Fin 3) (v : BitVec 32)
  /-- OUTER_CYCLE_START (R62). At each TA1 instant, policy evaluates its causes in order and executes the oldest pending command. -/
  | outerCycleStart (t : Instant)
  /-- MODE_CMD_BASECAMP (R56). Queues a journaled command to BASECAMP. -/
  | modeCmdBasecamp
  /-- MODE_CMD_ARMED (R56). Queues a journaled command to ARMED, which from a switching mode starts a soft stop. -/
  | modeCmdArmed
  /-- MODE_CMD_FORM (R56). Queues a journaled command to FORM. -/
  | modeCmdForm
  /-- MODE_CMD_START (R56). Queues a journaled command to START. -/
  | modeCmdStart
  /-- MODE_CMD_SYNC (R56). Queues a journaled command to SYNC. -/
  | modeCmdSync
  /-- ARM_TIMEOUT (R186). The gate units have not reported readiness within ARM_TIMEOUT; the lanes return to idle and the ARMED command is refused. -/
  | armTimeout (t : Instant)
  /-- DETECTOR_CONFIRM (R67). A LIMIT detector's condition has held for its confirmation time, and OE1 enters LIMIT. -/
  | detectorConfirm (t : Instant)
  /-- LIMIT_RECOVERY (R81). Every recovery condition has held for REC_T, and the law returns to FORM with presets. -/
  | limitRecovery (t : Instant)
  /-- OV_TRIP_TIMEOUT (R80). V1 above OV_TRIP for OV_TRIP_T sends the converter from LIMIT to BASECAMP. -/
  | ovTripTimeout (t : Instant)
  /-- LIMIT_MAX_TIMEOUT (R80). LIMIT lasting LIMIT_MAX_T sends the converter to BASECAMP. -/
  | limitMaxTimeout (t : Instant)
  /-- HOLDOVER_TIMEOUT (R80). The holdover bound exceeded for HOLDOVER_T sends the converter to BASECAMP. -/
  | holdoverTimeout (t : Instant)
  /-- PJ_FOLLOW_END (R77). Angle following ends after PJ_TIME and PJ_FOLLOW clears. -/
  | pjFollowEnd (t : Instant)
  /-- KVI_RETURN_END (R74). The virtual-impedance factor reaches 1 after KVI_RET and KVI_ACTIVE clears. -/
  | kviReturnEnd (t : Instant)
  /-- SOFT_STOP_COMPLETE (R65). The current-limit ramp reaches zero over STOP_RAMP, and static-off is written to every law channel. -/
  | softStopComplete (t : Instant)
  /-- DC_LINK_TRIP (R60). v_dc lies outside its trip limits for 4 consecutive inner cycles, and the converter goes to BASECAMP. -/
  | dcLinkTrip (t : Instant)
  /-- BRK_STATE_AGED (R63). BRK_STATE older than BRK_MAXAGE reads as unknown. -/
  | brkStateAged (t : Instant)
  /-- MISS_RUN_LIMIT (R86). MISS_RUN reaches MISS_N, or OUTER_MISS_N outer misses occur, and the converter enters HOLD. -/
  | missRunLimit (t : Instant)
  /-- HOLD_MISSES_LIMIT (R88). HOLD_MISSES reaches MISS_M and the converter goes to BASECAMP. -/
  | holdMissesLimit (t : Instant)
  /-- HOLD_TIME_EXPIRY (R88). HOLD_TIME passes since HOLD entry and the converter goes to BASECAMP. -/
  | holdTimeExpiry (t : Instant)
  /-- HOLD_RECOVER (R89). The HOLD_RECOVER-th consecutive on-time inner cycle ends HOLD and returns to the mode held. -/
  | holdRecover (t : Instant)
  /-- ENGINE_ROM_RELOAD (R90). Policy reloads a faulted law engine from ROM and clears the fault. -/
  | engineRomReload (e : Fin 8) (t : Instant)
  /-- ESTIMATE_WINDOW_END (R51). A probe window ends; an accepted estimate updates the retuning targets, and a failing one is discarded. -/
  | estimateWindowEnd (t : Instant)
  /-- ESTIMATE_STALE (R52). No estimate has been accepted for STALE_S, and EST_STALE is set. -/
  | estimateStale (t : Instant)
  /-- SETTLE_COMPLETE (R100). V1 has stayed within V_SET ± V_TOL for SETTLE_T, and START ends in FORM at the next outer-cycle start. -/
  | settleComplete (t : Instant)
  /-- START_ABORT (R101). START aborts to ARMED on its first failing condition, with static-off written at once. -/
  | startAbort (t : Instant)
  /-- SYNC_HOLD_EXPIRY (R104). The three synchronising conditions have held for SYNC_HOLD; IN_SYNC is set and the stage is CLOSE_WAIT. -/
  | syncHoldExpiry (t : Instant)
  /-- CLOSE_WIN_EXPIRY (R105). IN_SYNC has been clear for CLOSE_WIN and the stage returns to MATCH. -/
  | closeWinExpiry (t : Instant)
  /-- SYNC_ABORT (R106). SYNC aborts to ARMED on its first failing condition. -/
  | syncAbort (t : Instant)
  /-- FRAME_START_DETECT (R113). The deviation stays above +T_dec for 100 ms after 800 ms idle, and a frame start is detected. -/
  | frameStartDetect (t : Instant)
  /-- CAD_SLOT_START (R114). The unit's own slot begins and it starts a queued frame if it may transmit. -/
  | cadSlotStart (t : Instant)
  /-- READY (R117). A valid READY frame makes the sender turn master, adds it to JOINED and sets ISLANDED. -/
  | cadReady (u : Fin 16) (t : Instant)
  /-- ENERGISE_NEXT (R117). A valid ENERGISE_NEXT frame moves TURN_PTR and sets HAS_TURN or ALL_JOINED. -/
  | cadEnergiseNext (u : Fin 16) (t : Instant)
  /-- HOLD (R117). A valid HOLD frame sets HOLD_HEARD, holds RAMP and clears IN_SYNC. -/
  | cadHold (u : Fin 16) (t : Instant)
  /-- RESYNC (R117). A valid RESYNC frame sets RESYNC_ACTIVE and suspends the other senders. -/
  | cadResync (u : Fin 16) (t : Instant)
  /-- DONE (R117). A valid DONE frame adds the sender to JOINED and may end RESYNC and clear ISLANDED. -/
  | cadDone (u : Fin 16) (t : Instant)
  /-- FRAME_DISCARD (R113). A decoded frame that fails its checks or comes from an unknown unit is discarded and counted. -/
  | frameDiscard (t : Instant)
  /-- HOLD_T_EXPIRY (R117). HOLD_HEARD clears after HOLD_T. -/
  | holdTExpiry (t : Instant)
  /-- RESYNC_T_EXPIRY (R117). RESYNC_ACTIVE clears after RESYNC_T. -/
  | resyncTExpiry (t : Instant)
  /-- JOIN_T_EXPIRY (R118). No DONE has arrived within JOIN_T, and the turn master queues ENERGISE_NEXT again. -/
  | joinTExpiry (t : Instant)
  /-- CAD_CMD_READY (R120). Queues a READY frame. -/
  | cadCmdReady
  /-- CAD_CMD_ENERGISE_NEXT (R120). Queues an ENERGISE_NEXT frame. -/
  | cadCmdEnergiseNext
  /-- CAD_CMD_HOLD (R120). Queues a HOLD frame. -/
  | cadCmdHold
  /-- CAD_CMD_RESYNC (R120). Queues a RESYNC frame. -/
  | cadCmdResync
  /-- CAD_CMD_DONE (R120). Queues a DONE frame. -/
  | cadCmdDone
  /-- CAD_EN_CLEAR (R121). Clearing CAD_EN ends any frame, empties the queue, stops the receiver and clears the turn flags. -/
  | cadEnClear
  /-- CG_START (R153). Schedules the masked carriers to start together at START_AT. -/
  | cgStart (mask : BitVec 16)
  /-- CARRIER_START (R153). The carriers start at T_s with their counts preset from PH. -/
  | carrierStart (ts : Instant)
  /-- CG_STOP (R154). Stops the masked carriers, ends their holds, transfers waiting snapshots and cancels placed alarms. -/
  | cgStop (mask : BitVec 16)
  /-- CARRIER_WRAP (R152). A carrier count reaches PER and wraps to 0, starting a new period. -/
  | carrierWrap (n : Fin 16)
  /-- CG_EVT_MATCH (R156). A carrier count equals CG_EVT and produces an acquisition event. -/
  | cgEvtMatch (n : Fin 16)
  /-- CARRIER_EVENT_DELIVER (R156). A carrier wrap or match event is delivered as a trigger at look-ahead instant plus EDGE_OFS_ACT in TIME64. -/
  | carrierEventDeliver
  /-- COMPARE_MATCH (R157). The requested level of a channel changes at a compare and a turn-on or turn-off request enters the output stages. -/
  | compareMatch (c : Fin 256) (t : Instant)
  /-- DEAD_TIME_EXPIRY (R169). A turn-on delayed by DT reaches the minimum-pulse stage. -/
  | deadTimeExpiry (c : Fin 256)
  /-- INTERLOCK_RELEASE (R170). The partner has been off for DT and a held turn-on proceeds. -/
  | interlockRelease (c : Fin 256) (t : Instant)
  /-- LOAD_ALL (R160). A LOAD_ALL takes a snapshot of each masked group's shadow set, or is refused as TORN or in HOLD. -/
  | loadAll (e : Fin 16) (mask : BitVec 8)
  /-- SW_WRITE (R160). Writes SW_VALUE to the shadow port SW_PORT. -/
  | swWrite
  /-- SW_LOAD_ALL (R160). Issues a LOAD_ALL for the masked groups from the dictionary. -/
  | swLoadAll (mask : BitVec 8)
  /-- PWM_CLEAR (R182). Zeroes the generator counters and PAIR_SHOOT. -/
  | pwmClear
  /-- TRIP_DECISION (R176). A trip input's filtered state becomes active; the trip fault forces its mapped channels off and may latch. -/
  | tripDecision (i : Fin 32) (t : Instant)
  /-- TRIP_AUTO_CLEAR (R179). An unlatched trip fault clears TRETRY after its decision once the input is inactive, counting a try. -/
  | tripAutoClear (i : Fin 32) (t : Instant)
  /-- TRIP_CLEAR (R180). Clears latched trip faults of inactive inputs and empties their histories. -/
  | tripClear (mask : BitVec 32)
  /-- TRIP_CFG_WRITE (R181). A write enabling a trip input or changing FILTER or POL restarts its filter. -/
  | tripCfgWrite (i : Fin 32) (v : BitVec 32)
  /-- FORCE_OFF_WRITE (R177). Setting or clearing a FORCE_OFF bit starts or ends the forcing of a channel. -/
  | forceOffWrite (j : Fin 8) (v : BitVec 32)
  /-- EDGE_EVENT_ENQUEUE (R189). An edge event leaving the generator enters its lane queue, or is discarded on a device without the baton. -/
  | edgeEventEnqueue
  /-- DOWNLINK_FRAME (R189). At each assembly point a live lane builds and sends a frame with its event slots, baton and management field. -/
  | downlinkFrame (k : Fin 64) (t : Instant)
  /-- UPLINK_FRAME (R196). An uplink frame is accepted or refused, updates the ports and status, and drives fault, baton and delay handling. -/
  | uplinkFrame (k : Fin 64) (bytes : List (BitVec 8)) (t : Instant)
  /-- UPLINK_TIMEOUT (R208). No uplink is accepted for UPLINK_TO, and UPLINK_LOST is decided. -/
  | uplinkTimeout (k : Fin 64) (t : Instant)
  /-- LANE_FAULT_RELEASE (R210). TRETRY after an unlatched lane fault, FAULT_RELEASE is sent to the unit. -/
  | laneFaultRelease (k : Fin 64) (t : Instant)
  /-- GL_CLEAR (R210). Clears latched faults of lanes whose causes are gone and empties their histories. -/
  | glClear (mask : BitVec 64)
  /-- GU_ACCESS_TIMEOUT (R193). A register access unanswered for 20 µs times out. -/
  | guAccessTimeout (k : Fin 64) (t : Instant)
  /-- GU_SETUP_RETRY (R194). A timed-out set-up register write is made again 1 ms later. -/
  | guSetupRetry (k : Fin 64) (t : Instant)
  /-- GU_WRITE (R193). Starts a register write to a gate unit. -/
  | guWrite
  /-- GU_READ (R193). Starts a register read from a gate unit into GU_VALUE. -/
  | guRead
  /-- LANE_ENABLE (R185). GL_CFG.EN = 1 starts the lane transmitter in STARTING. -/
  | laneEnable (k : Fin 64)
  /-- LANE_DISABLE (R185). GL_CFG.EN = 0 starts the lane shutdown. -/
  | laneDisable (k : Fin 64)
  /-- LANE_START_COMPLETE (R185). The lane transmitter settles and the lane enters IDLE or LIVE. -/
  | laneStartComplete (k : Fin 64) (t : Instant)
  /-- TRAIN_RESET (R215). Returns the codes of the masked lanes to their SET values. -/
  | trainReset (mask : BitVec 64)
  /-- TRAIN_CODE_STORE (R215). Every 60 min the chosen drive codes are stored in eMRAM. -/
  | trainCodeStore (t : Instant)
  /-- LD_ENABLE (R220). Enabling a local driver starts the trickle pump and the bootstrap start sequence. -/
  | ldEnable (n : Fin 8) (t : Instant)
  /-- LD_BOOTSTRAP_READY (R220). VBST reaches VDRV − REF_TH and the start sequence completes. -/
  | ldBootstrapReady (n : Fin 8) (vbst : BitVec 16) (t : Instant)
  /-- LD_BOOTSTRAP_TIMEOUT (R220). The bootstrap is not charged within 1 ms and BSTUV is raised. -/
  | ldBootstrapTimeout (n : Fin 8) (t : Instant)
  /-- LD_MODE_WRITE (R218). A write of MODE takes effect at once through dead time and interlock. -/
  | ldModeWrite (n : Fin 8) (m : BitVec 2) (t : Instant)
  /-- LD_FOLLOW_EDGE (R218). In FOLLOW, a side switches when TIME64 reaches the channel edge's look-ahead instant. -/
  | ldFollowEdge (n : Fin 8)
  /-- LD_REFRESH (R221). At a period boundary with low VBST, a refresh pulse recharges the bootstrap. -/
  | ldRefresh (n : Fin 8) (vbst : BitVec 16) (t : Instant)
  /-- LD_BSTUV (R222). VBST falls too low while the high side is on; it turns off and BSTUV is raised. -/
  | ldBstuv (n : Fin 8) (vbst : BitVec 16) (t : Instant)
  /-- LD_FAULT_RETRY (R222). TRETRY after an unlatched BSTUV, the start sequence runs again. -/
  | ldFaultRetry (n : Fin 8) (t : Instant)
  /-- SD_ENABLE (R223). Enabling a static switch driver starts its charge pump. -/
  | sdEnable (n : Fin 4) (t : Instant)
  /-- SD_CP_READY (R223). The charge pump sets CP_OK and the output follows ON. -/
  | sdCpReady (n : Fin 4) (t : Instant)
  /-- SD_CPUV (R223). The pump output falls below its OK level, the output turns off and CPUV is raised. -/
  | sdCpuv (n : Fin 4) (t : Instant)
  /-- SD_FAULT_RETRY (R223). TRETRY after an unlatched CPUV, the pump restarts. -/
  | sdFaultRetry (n : Fin 4) (t : Instant)
  /-- DRV_CLEAR (R224). Clears latched driver faults of the masked drivers and empties their histories. -/
  | drvClear (mask : BitVec 12)
  /-- VDRV_UNDERVOLTAGE (R225). VDRV falls below 9.0 V and every driver turns both sides off. -/
  | vdrvUndervoltage (mv : BitVec 16) (t : Instant)
  /-- VDRV_RECOVER (R225). VDRV rises above 9.5 V and each enabled driver restarts. -/
  | vdrvRecover (mv : BitVec 16) (t : Instant)
  /-- ADC_TRIGGER (R232). A trigger starts a regular or injected round, or is dropped as an overrun. -/
  | adcTrigger
  /-- SWTRIG_REGULAR (R232). A software trigger starts the group's regular round. -/
  | swtrigRegular (n : Fin 8)
  /-- SWTRIG_INJECTED (R232). A software trigger starts the group's injected round. -/
  | swtrigInjected (n : Fin 8)
  /-- STEP_START (R236). A pending step starts when enough logical slices are free and samples its inputs. -/
  | stepStart
  /-- CONVERSION_END (R231). A step's conversions end 200 ns after sampling, freeing the slices and making the next step pending. -/
  | conversionEnd
  /-- RESULT_REGISTERED (R228). A result with its hygiene flags is registered at its port and offered to lanes and recorders. -/
  | resultRegistered (a : Fin 64) (nv : Int) (raw : BitVec 16) (t : Instant)
  /-- ADC_TRG_DECISION (R234). An ADC_TRG pin's filtered state changes in the selected direction and triggers its sequences. -/
  | adcTrgDecision (p : Fin 4) (rising : Bool) (t : Instant)
  /-- TRG_TIMEOUT (R235). TRG_TO passes without a decision and the pin's TRG_LOST bit is set. -/
  | trgTimeout (p : Fin 4) (t : Instant)
  /-- INPUT_STALE (R240). STALE_TO passes since an input's last sample, and it shows STALE and FAULT. -/
  | inputStale (a : Fin 64) (t : Instant)
  /-- OW_TEST_START (R242). An open-wire test starts on an input once its groups allow and a slice is free. -/
  | owTestStart (a : Fin 64) (t : Instant)
  /-- OW_PHASE_END (R242). An OW_SETTLE phase of a test ends, leading to a conversion, a reversal or the test result. -/
  | owPhaseEnd (a : Fin 64) (nv : Int) (t : Instant)
  /-- OW_PERIOD_EXPIRY (R243). An input completes no test within OW_PERIOD, and OW_MISSED is set. -/
  | owPeriodExpiry (a : Fin 64) (t : Instant)
  /-- CAL_STARTUP_COMPLETE (R245). The start-up calibration of all slices ends and READY is set. -/
  | calStartupComplete (offs : List (BitVec 16)) (gains : List (BitVec 32)) (t : Instant)
  /-- CAL_TURN_END (R246). A rotation turn ends; the slice returns with new coefficients or is retired, and the next turn begins. -/
  | calTurnEnd (off : BitVec 16) (gain : BitVec 32) (ppm : BitVec 32) (t : Instant)
  /-- CAL_FORCE (R249). Requests a forced calibration of a slice, which waits as CAL_WAIT. -/
  | calForce (mask : BitVec 17)
  /-- CAL_FORCE_WITHDRAW (R249). No injected step remains, and the requested slice is withdrawn and calibrated. -/
  | calForceWithdraw (t : Instant)
  /-- ADC_ENABLE (R254). ADC_EN = 1 starts the block, which then runs the start-up calibration. -/
  | adcEnable
  /-- ADC_DISABLE (R254). ADC_EN = 0 starts the slice shutdown and ends running rounds incomplete. -/
  | adcDisable
  /-- ADC_CLEAR (R255). Zeroes the acquisition counters. -/
  | adcClear
  /-- TRG_CFG_WRITE (R255). A TRG_CFG write restarts the pin filter from its next sample. -/
  | trgCfgWrite (p : Fin 4) (v : BitVec 32)
  /-- SDC_CFG_WRITE (R255). An SDC_CFG write restarts the pin's clock check. -/
  | sdcCfgWrite (p : Fin 6) (v : BitVec 32)
  /-- SDC_FREQ_MEASURE (R250). Every 256 periods the clock frequency is measured and CLK_BAD is evaluated. -/
  | sdcFreqMeasure (p : Fin 6) (khz : BitVec 32) (t : Instant)
  /-- SDC_CLOCK_STALE (R252). No clock edge for 8 expected periods sets CLK_STALE and marks the pin's SDIs stale. -/
  | sdcClockStale (p : Fin 6) (t : Instant)
  /-- SDC_CLOCK_RESUME (R252). 16 good clock periods clear CLK_STALE and restart the lanes. -/
  | sdcClockResume (p : Fin 6) (t : Instant)
  /-- SDI_STUCK (R253). An SDI's data holds one value for STUCK_N periods and STUCK is set. -/
  | sdiStuck (i : Fin 24) (t : Instant)
  /-- SDI_UNSTUCK (R253). A stuck SDI's data changes; STUCK clears and its lanes restart. -/
  | sdiUnstuck (i : Fin 24) (t : Instant)
  /-- CIC_OUTPUT (R257). After M inputs the CIC produces an output, which waits for the FIR or overflows it. -/
  | cicOutput (k : Fin 40) (bits : List Bool) (t : Instant)
  /-- LANE_OUTPUT (R262). The FIR computation completes and the lane output is scaled, saturated and registered. -/
  | laneOutput (k : Fin 40) (t : Instant)
  /-- LANE_CFG_WRITE (R265). A LANE_CFG write enables, disables or restarts the lane. -/
  | laneCfgWrite (k : Fin 40) (v : BitVec 32)
  /-- COEF_WRITE (R268). Copies COEF_BLOCK into the coefficient staging buffer. -/
  | coefWrite
  /-- COEF_COMMIT (R268). Checks the staged coefficients by CRC and commits them to a bank. -/
  | coefCommit
  /-- BANK_SEL (R271). Requests a coefficient bank, starting or queuing a fade, or is refused. -/
  | bankSel (k : Fin 40) (b : Fin 2)
  /-- FILT_CLEAR (R275). Zeroes the saturation, overflow and restart counters of every lane. -/
  | filtClear
  /-- RECORDER_SAMPLE (R276). At each multiple of SPER an instance samples its channels, writes reduction rows and evaluates triggers. -/
  | recorderSample (n : Fin 4) (t : Instant)
  /-- RC_SWTRIG (R284). A software trigger of a recorder instance. -/
  | rcSwtrig (n : Fin 4)
  /-- RELEASE (R289). Frees CLOSED slots and clears their index entries. -/
  | rcRelease (n : Fin 4) (mask : BitVec 16)
  /-- ARM (R286). Arms a slot of a FULL instance. -/
  | rcArm (n : Fin 4)
  /-- RC_ENABLE (R281). EN = 1 checks the area, keeps valid records and arms a slot. -/
  | rcEnable (n : Fin 4)
  /-- RC_DISABLE (R298). EN = 0 stops triggers, truncates a POST slot and frees an ARMED slot. -/
  | rcDisable (n : Fin 4)
  /-- IX_READ (R296). Copies an index entry into IX_DATA. -/
  | ixRead
  /-- RD_READ (R297). Copies up to 256 bytes of a closed record region into RD_DATA. -/
  | rdRead
  /-- TRG_PULSE_RECEIVED (R293). A pulse on a trigger-bus line is classified by width as a trigger, a calibration pulse or discarded. -/
  | trgPulseReceived (l : Fin 4) (cap : Nat) (width : Nat)
  /-- TRG_LINE_STUCK (R293). A trigger-bus line active for more than 1 µs sets STUCK. -/
  | trgLineStuck (l : Fin 4) (t : Instant)
  /-- TB_CAL (R294). Starts the delay measurement of the masked trigger-bus lines. -/
  | tbCal (mask : BitVec 4)
  /-- TB_CAL_ECHO (R294). A calibration echo is captured and a round is completed. -/
  | tbCalEcho (cap : Nat)
  /-- TB_CAL_ROUND_TIMEOUT (R294). No echo arrives within 2 µs and the round fails. -/
  | tbCalRoundTimeout (t : Instant)
  /-- PLL_LOCKED (R300). A PLL's phase error stays within ±50 ps for 256 periods and it is LOCKED. -/
  | pllLocked (p : Fin 3) (band : BitVec 16) (t : Instant)
  /-- PLL_LOSS_OF_LOCK (R303). A PLL loses lock and its DCO enters holdover. -/
  | pllLossOfLock (p : Fin 3) (t : Instant)
  /-- XIN_LOST (R304). No XIN edge arrives for 200 ns; XIN_LOST is set and the PLLs enter holdover. -/
  | xinLost (t : Instant)
  /-- XIN_RESTORED (R304). XIN edges have arrived for 1 ms without a gap and XIN_LOST clears. -/
  | xinRestored (t : Instant)
  /-- FREQ_WINDOW_END (R305). A 1 ms frequency window ends; FREQ_ERR and HOLDOVER_EXCEEDED are updated and PLLs may re-engage. -/
  | freqWindowEnd (a : Nat) (b : Nat) (c0 : Nat) (c1 : Nat) (limits : BitVec 3) (t : Instant)
  /-- RELOCK (R307). Runs a full lock on the masked PLLs in BASECAMP. -/
  | relock (mask : BitVec 3)
  /-- TIMEBASE_STEP (R309). At the first tick at which the conditions hold, the timebase is stepped once. -/
  | timebaseStep (t : Instant)
  /-- TIME_SET (R309). Requests the single timebase step to TIME_SET_VAL. -/
  | timeSet
  /-- RESTEP (R311). Steps the timebase again by the present PTP offset. -/
  | restep
  /-- PTP_OFFSET (R312). A valid PTP offset updates the servo rate and the time state. -/
  | ptpOffset
  /-- PTP_MESSAGE (R316). A received PTP message is processed by its port. -/
  | ptpMessage (k : Fin 4) (dom : Nat) (src : Nat) (m : PtpFrame) (res : Nat) (t : Instant)
  /-- PTP_MESSAGE_SEND (R316). A PTP port sends its periodic message at its one-second interval. -/
  | ptpMessageSend (k : Fin 4) (kind : Fin 3) (t : Instant)
  /-- PTP_ANNOUNCE_TIMEOUT (R313). No valid offset for ANN_TO × 1 s puts the timebase in HOLDOVER and sets PTP_LOST. -/
  | ptpAnnounceTimeout (t : Instant)
  /-- PTP_CONFIG_WRITE (R317). A write to a 0x2230 object restarts every PTP port in LISTENING. -/
  | ptpConfigWrite (i : Fin 7) (v : BitVec 16)
  /-- EDGE_ALIGN_STEP (R314). Every 100 ns the alignment servo may issue a fine phase step of PLL-B. -/
  | edgeAlignStep (err : BitVec 16) (t : Instant)
  /-- RTC_SET (R324). At every whole second the RTC is set from TIME64. -/
  | rtcSet (t : Instant)
  /-- TA_ENABLE (R321). Enabling a time alarm places its first instance by its mode. -/
  | taEnable (n : Fin 16)
  /-- TA_DISABLE (R320). Clearing EN cancels the scheduled alarm instance. -/
  | taDisable (n : Fin 16)
  /-- DRAM_INIT_DONE (R328). The background DRAM initialisation completes and INIT_DONE is set. -/
  | dramInitDone (t : Instant)
  /-- SCRUB_START (R333). Starts a scrubber pass over the given range. -/
  | scrubStart
  /-- SCRUB_STOP (R334). Stops a scrubber pass after the code word in progress. -/
  | scrubStop (n : Nat)
  /-- SCRUB_PASS_END (R334). A scrubber pass reaches the end of its range. -/
  | scrubPassEnd (t : Instant)
  /-- ECC_CLEAR (R331). Zeroes ECC_CORR and ECC_UNCORR. -/
  | eccClear
  /-- DMA_START (R336). A START or doorbell starts a DMA channel after the address checks, or halts or ignores it. -/
  | dmaStart (c : Fin 16)
  /-- DMA_BEAT (R339). The highest-priority channel that can proceed moves its next beat. -/
  | dmaBeat (t : Instant)
  /-- DMA_DONE (R338). The destination acknowledges the last write; DONE is set and the done event is raised. -/
  | dmaDone (c : Fin 16)
  /-- DMA_STREAM_TIMEOUT (R337). A stream port stays empty for TIMEOUT and the channel halts with cause 4. -/
  | dmaStreamTimeout (c : Fin 16) (t : Instant)
  /-- DMA_DISABLE (R340). Clearing EN drops the channel at once with cause 5. -/
  | dmaDisable (c : Fin 16)
  /-- MEM_READ (R343). Reads memory into MEM_DATA with cache invalidation. -/
  | memRead
  /-- MEM_WRITE (R343). Writes MEM_DATA to memory and cleans the cache lines. -/
  | memWrite
  /-- NDP_READ (R351). An NDP READ request is checked and answered with the value or a refusal. -/
  | ndpRead (port : Fin 10) (frame : List (BitVec 8)) (eth : EthIn) (t : Instant)
  /-- NDP_WRITE (R357). An NDP WRITE is checked and either applied directly or journaled with its session sequence. -/
  | ndpWrite (port : Fin 10) (frame : List (BitVec 8)) (eth : EthIn) (t : Instant)
  /-- OPEN (R357). Opens or resumes an NDP session and returns its LAST_SEQ. -/
  | openSession (port : Fin 10) (frame : List (BitVec 8)) (eth : EthIn) (t : Instant)
  /-- CLOSE (R357). Closes an NDP session. -/
  | closeSession (port : Fin 10) (frame : List (BitVec 8)) (eth : EthIn) (t : Instant)
  /-- PDO (R355). An NDP PDO operation writes the mapped values of an RPDO. -/
  | ndpPdo (port : Fin 10) (frame : List (BitVec 8)) (eth : EthIn) (t : Instant)
  /-- NDP_FRAME_DISCARD (R356). A malformed or rate-limited NDP frame is discarded and counted in RX_DROPPED. -/
  | ndpFrameDiscard (port : Fin 10) (frame : List (BitVec 8)) (eth : EthIn) (t : Instant)
  /-- JOURNAL_APPLY (R359). A committed journal item is applied in commit order and its RESULT recorded. -/
  | journalApply (start : StartIn) (t : Instant)
  /-- SESSION_EXPIRY (R357). A session expires after SESSION_TO without a request. -/
  | sessionExpiry (port : Fin 10) (id : BitVec 32) (t : Instant)
  /-- SDO_READ (R352). A CANopen SDO read request is answered or aborted. -/
  | sdoRead (can : Fin 4) (client : BitVec 7) (idx : BitVec 16) (sub : BitVec 8) (t : Instant)
  /-- SDO_WRITE (R352). A CANopen SDO write is checked and applied or journaled, or recognised as a retransmission. -/
  | sdoWrite (can : Fin 4) (client : BitVec 7) (idx : BitVec 16) (sub : BitVec 8) (data : List (BitVec 8)) (t : Instant)
  /-- RPDO (R355). A received RPDO frame writes its mapped objects newest-wins. -/
  | rpdo (can : Fin 4) (ext : Bool) (id : BitVec 29) (data : List (BitVec 8)) (t : Instant)
  /-- RPDO_LATE (R355). No RPDO frame arrives within its event timer and RPDO_LATE is set. -/
  | rpdoLate (i : Fin 16) (t : Instant)
  /-- TPDO_SEND (R352). A TPDO is transmitted on its event timer or SYNC. -/
  | tpdoSend (i : Fin 16) (t : Instant)
  /-- CAN_SYNC (R352). A CANopen SYNC message drives the synchronous PDOs. -/
  | canSync (can : Fin 4) (t : Instant)
  /-- HEARTBEAT_PRODUCE (R352). A CAN controller sends its heartbeat at the 0x1017 period. -/
  | heartbeatProduce (can : Fin 4) (t : Instant)
  /-- NMT_RESET_NODE (R352). NMT Reset Node restarts the communication of that controller only. -/
  | nmtResetNode (can : Fin 4) (node : BitVec 8) (t : Instant)
  /-- NMT_RESET_COMMUNICATION (R352). NMT Reset Communication restarts the controller's communication and applies CAN_CFG. -/
  | nmtResetCommunication (can : Fin 4) (node : BitVec 8) (t : Instant)
  /-- NMT_STATE_COMMAND (R352). An NMT command moves the controller between pre-operational, operational and stopped. -/
  | nmtStateCommand (can : Fin 4) (cmd : BitVec 8) (node : BitVec 8) (t : Instant)
  /-- BUS_OFF (R353). A CAN controller reaches bus-off and falls silent. -/
  | busOff (can : Fin 4) (t : Instant)
  /-- BUS_OFF_RESTART (R353). After 128 × 11 recessive bits the controller restarts and BUS_OFF_COUNT increments. -/
  | busOffRestart (can : Fin 4) (t : Instant)
  /-- SERVICE_EN_FALL (R348). The filtered SERVICE_EN falls; SVC stops and closes its sessions. -/
  | serviceEnFall (t : Instant)
  /-- SERVICE_EN_RISE (R348). The filtered SERVICE_EN rises and the SVC receiver runs. -/
  | serviceEnRise (t : Instant)
  /-- ETH_APPLY (R366). Applies the pending address and configuration of the masked Ethernet ports. -/
  | ethApply (mask : BitVec 4)
  /-- REDUND_WRITE (R365). A change of REDUND in BASECAMP restarts ETH0 and ETH1 in the new mode. -/
  | redundWrite (v : BitVec 8)
  /-- ARP_REQUEST (R364). An ARP request is answered. -/
  | arpRequest (port : Fin 4) (target : BitVec 32) (sender : BitVec 48) (senderIp : BitVec 32) (eth : EthIn) (t : Instant)
  /-- ICMP_ECHO_REQUEST (R364). An ICMP echo request is answered. -/
  | icmpEchoRequest (port : Fin 4) (dst : BitVec 32) (src : BitVec 32) (fragment : Bool) (data : List (BitVec 8)) (eth : EthIn) (t : Instant)
  /-- PRP_SUPERVISION_SEND (R365). A redundancy supervision frame is sent every 2,000 ms. -/
  | prpSupervisionSend (t : Instant)
  /-- BEHAVIOUR_LEVEL_WRITE (R432). A write of BEHAVIOUR_LEVEL in BASECAMP changes the level at once. -/
  | behaviourLevelWrite (v : BitVec 8)
  /-- HEARTBEAT (R383). A received belay HEARTBEAT updates the partner state, known baton and DCRC comparison. -/
  | partnerHeartbeat (lane : Fin 2) (frame : List (BitVec 8)) (t : Instant)
  /-- STATE_VECTOR (R378). A received state vector aligns the standby's law states and discrete state. -/
  | partnerStateVector (lane : Fin 2) (bseq : BitVec 32) (v : StateVec) (t : Instant)
  /-- FAULT (R383). A received FAULT frame is a failover cause for the standby. -/
  | partnerFault (lane : Fin 2) (bseq : BitVec 32) (cause : BitVec 8) (t : Instant)
  /-- J_ITEM (R381). The standby commits a mirrored journal item and answers J_ACK. -/
  | jItem (lane : Fin 2) (bseq : BitVec 32) (jport : Fin 10) (session : BitVec 32) (seq : BitVec 32) (idx : BitVec 16) (sub : BitVec 8) (v : BitVec 64) (rec : Option (Nat × List Nat)) (t : Instant)
  /-- J_ACK (R381). The standby's J_ACK lets the active device acknowledge the client. -/
  | jAck (lane : Fin 2) (bseq : BitVec 32) (jport : Fin 10) (session : BitVec 32) (seq : BitVec 32) (t : Instant)
  /-- J_ACK_TIMEOUT (R381). J_ACK is missing for 300 µs; the item is voided, refused with BUSY and MIRROR_LOST is set. -/
  | jAckTimeout (t : Instant)
  /-- J_VOID (R381). A received J_VOID withdraws a mirrored item. -/
  | jVoid (lane : Fin 2) (bseq : BitVec 32) (jport : Fin 10) (session : BitVec 32) (seq : BitVec 32) (t : Instant)
  /-- DICT (R350). A dictionary request from the partner over the belay link is handled on port 9. -/
  | partnerDict (lane : Fin 2) (bseq : BitVec 32) (frame : List (BitVec 8)) (t : Instant)
  /-- TIME (R380). A TIME exchange gives the standby a timebase offset that the servo takes as a valid offset. -/
  | partnerTime (lane : Fin 2) (bseq : BitVec 32) (x : TimeIn) (t : Instant)
  /-- TIME_EXCHANGE_SEND (R380). Every 1 ms the devices exchange TIME frames. -/
  | timeExchangeSend (t : Instant)
  /-- JOIN (R375). A received JOIN block gives the joining device configuration, images or journal. -/
  | partnerJoin (lane : Fin 2) (bseq : BitVec 32) (part : JoinPart) (t : Instant)
  /-- JOIN_COMPLETE (R375). All joining parts are taken and PAIR_TIME_ERR has held within ±1 ns for 100 ms; the device enters STANDBY. -/
  | joinComplete (t : Instant)
  /-- BATON (R371). A received BATON frame updates the known baton number and may fence the device. -/
  | partnerBaton (lane : Fin 2) (bseq : BitVec 32) (number : BitVec 16) (renum : Bool) (t : Instant)
  /-- PAIR_FORMATION (R375). With the link up and no holder, device 0 claims and the other joins. -/
  | pairFormation (idDiffers : Bool) (sameSw : Bool) (sameLevel : Bool) (pEn : Bool) (t : Instant)
  /-- BELAY_LANE_DOWN (R369). A belay lane has no valid code groups for 10 µs and leaves UP. -/
  | belayLaneDown (lane : Fin 2) (t : Instant)
  /-- HEARTBEAT_MISS_LIMIT (R383). HB_MISS_N consecutive heartbeats are missing. -/
  | heartbeatMissLimit (t : Instant)
  /-- BATON_COMMIT (R372). A baton claim commit completes, and BATON_TX takes the new number. -/
  | batonCommit (ok : Bool) (t : Instant)
  /-- SOLO_CLAIM (R376). No up link for PARTNER_WAIT leads to a solo claim when SOLO_ALLOW is set. -/
  | soloClaim (t : Instant)
  /-- SOLO_DELAY_EXPIRY (R381). PARTNER_ALIVE clear for SOLO_DELAY sets SOLO and lets the active device accept work alone. -/
  | soloDelayExpiry (t : Instant)
  /-- SWITCHOVER (R385). Hands the baton to a SYNCED standby without a fault. -/
  | switchover
  /-- BATON_RENUMBER (R374). Resets the baton numbering in BASECAMP. -/
  | batonRenumber
  /-- PD_SWITCH_ON (R389). Setting a PD_REQ bit switches on a power domain, or is refused. -/
  | pdSwitchOn (mask : BitVec 12)
  /-- PD_SWITCH_OFF (R389). Clearing a PD_REQ bit starts a domain's shutdown, or is refused. -/
  | pdSwitchOff (mask : BitVec 12)
  /-- PD_ON_COMPLETE (R390). A domain is on within 200 µs of its request. -/
  | pdOnComplete (d : Fin 12) (t : Instant)
  /-- STANDBY (R391). Enters standby from BASECAMP in the stated order of actions. -/
  | standby
  /-- STANDBY_COMPLETE (R391). Standby entry completes and only PD0 remains on. -/
  | standbyComplete (t : Instant)
  /-- WAKE (R392). A WAKE_N decision or the RTC reaching WAKE_TIME wakes the device through start-up. -/
  | wake (rtc : Bool) (start : StartIn) (t : Instant)
  /-- ARBITER_EVALUATE (R393). Every 100 ns the arbiter grants the budget to floors, control and background clients and throttles the rest. -/
  | arbiterEvaluate (fixedMw : BitVec 16) (powerMw : BitVec 16) (ctl : List Nat) (bg : List Nat) (t : Instant)
  /-- VID_STEP (R396). At most every 1 ms policy moves VDD_CHOSEN by one VID step. -/
  | vidStep (t : Instant)
  /-- IST_STEP (R398). An in-service test step runs in idle time, or is abandoned when its resource is claimed. -/
  | istStep (r : IstStep)
  /-- IST_PERIOD_EXPIRY (R398). A test item has not completed a pass within IST_PERIOD and IST_LATE is set. -/
  | istPeriodExpiry (item : Fin 4) (t : Instant)
  /-- SUPPLY_SAMPLE (R401). Every 10 µs each supply is sampled and its warning state filtered. -/
  | supplySample (i : Fin 6) (mv : BitVec 16) (mv2 : BitVec 16) (t : Instant)
  /-- TJ_SAMPLE (R402). Every 1 ms the die sensors report TJ and TJ_HOT is evaluated. -/
  | tjSample (tj : List (BitVec 16))
  /-- RING_MEASURE (R404). Every 1 s the ageing rings are measured and RING_LOSS updated. -/
  | ringMeasure (loss : List (BitVec 16)) (step : BitVec 16 × BitVec 16) (t : Instant)
  /-- MRAM_MARGIN_CHECK (R406). Every 24 h the eMRAM word lines are read at shifted references and failing lines are retired. -/
  | mramMarginCheck (margin : BitVec 16) (lines : List Nat) (t : Instant)
  /-- THERMAL_ESTIMATE (R409). At 1 kHz the junction temperature is estimated and rainflow cycles are counted. -/
  | thermalEstimate (t : Instant)
  /-- DVDT_DRIFT_TEST (R408). Once per DRIFT_PERIOD in FORM, 64 turn-offs at CODE_BASE measure the dv/dt drift. -/
  | dvdtDriftTest (k : Fin 64) (t : Instant)
  /-- MOD_BASELINE (R410). Clears the module baselines, bins and LIFE_USED of the masked lanes. -/
  | modBaseline (mask : BitVec 64)
  /-- REPLAN_EVALUATE (R412). Hourly and at BASECAMP entry, policy re-plans the margins and journals each change. -/
  | replanEvaluate (droops : List (Option Nat)) (t : Instant)
  /-- COMPACTION_COMPLETE (R427). The new slot's commit word is written and the included deltas are released. -/
  | compactionComplete (t : Instant)
  /-- FACTORY_RESET (R428). Value 0x01 returns the RWS objects, except the pair-local ones, to their defaults and stores a new slot. -/
  | factoryReset (port : Fin 10)
  /-- FACTORY_RESET_FULL (R428). Value 0x02 from SVC also resets the pair-local objects, images, banks, codes and port levels. -/
  | factoryResetFull (port : Fin 10)
  /-- PATCH_WRITE (R429). Copies PATCH_BLOCK into the staging patch slot. -/
  | patchWrite
  /-- PATCH_COMMIT (R429). Checks and commits the staged patch slot. -/
  | patchCommit
  /-- PATCH_SELECT (R430). Chooses a patch slot to try at the next start. -/
  | patchSelect (n : Fin 2)
  /-- PATCH_RESTART (R430). Restarts the device from step 1 in BASECAMP. -/
  | patchRestart (start : StartIn)
  /-- PATCH_CONFIRM (R431). Confirms the running trial patch. -/
  | patchConfirm
  /-- BELAY_LANE_UP (R369). A belay lane that was down receives a valid frame or idle code groups again and returns to UP, bringing the link up. -/
  | belayLaneUp (lane : Fin 2) (t : Instant)
  /-- TRIP_INPUT_INACTIVE (R179). A trip input's filtered state becomes inactive at the FILTER-th consecutive inactive sample, clearing TRIP_ACTIVE and enabling an automatic clear or TRIP_CLEAR. -/
  | tripInputInactive (i : Fin 32) (t : Instant)
  /-- TRG_LINE_UNSTUCK (R293). A stuck trigger-bus line has been inactive for 1 µs, its STUCK bit clears and it produces events again. -/
  | trgLineUnstuck (l : Fin 4) (t : Instant)
  /-- TRGCLK_RISING_EDGE (R295). A TRGCLK rising edge arrives and updates the averaged TB_OFFSET and the CLK_OK state. -/
  | trgclkRisingEdge (t : Instant)
  /-- VDDQ_LOSS (R329). PD0 sees VDDQ leave its range while the DRAM is in self-refresh, so the next start does not set KEPT and initialises the DRAM. -/
  | vddqLoss (t : Instant)
  /-- HSR_RING_FRAME (R365). In HSR mode a ring frame arriving on ETH0 or ETH1 that is not for the device is forwarded to the other port, with duplicates discarded. -/
  | hsrRingFrame (arrival : Fin 2) (src : BitVec 48) (seq : BitVec 16) (data : List (BitVec 8)) (t : Instant)
  deriving DecidableEq, Repr

end Sys2Proof
end

