-- ==== Sys2Proof/Decode.lean ====
section
/-!
DEFINITION. The command that a word spells. No row of spec/opcode_table.json gives a command bits: commands come as
events at pins and links, as instants, as requests of a client; an Octyr word is read from an image by its engine
and `Machine.decodeWord` (EngOps.lean) says which command it spells.
-/

namespace Sys2Proof

/-- The command that an `nbits`-bit word spells by the table's bits: none, as no row has bits. -/
def decodeTableWord (_nbits _w : Nat) : Option Instr := none

end Sys2Proof
end

