-- ==== Sys2Proof/Config.lean ====
section
/-!
DEFINITION. What an implementation fixes and what the spec leaves open: constants without a body, so that no proof can
lean on a value of them (log entry 3). Nothing here is a number that the model chose.
-/

namespace Sys2Proof.Config

/-- A fresh free value: what the machine holds where the spec states no value. Applied to the counter `free` of the
state, which every use advances. -/
opaque freeVal : Nat → Nat

/-- The identity of the particular device (serial number, MAC addresses, clock identity, installed DRAM, version
string), by the number of the row of the object table and the unit. -/
opaque deviceId : Nat → Nat → Nat

/-- The bytes of the boot ROM, and of the law that an engine's program SRAM holds from it, by address. -/
opaque romByte : Nat → BitVec 8

/-- The byte at an eMRAM address, for what the device has stored there: how Zeset lays its records out the spec does not give. It
changes only with the stored contents. -/
opaque storedByte : (α : Type) → α → Nat → BitVec 8

/-- Where in its bracket the value of a real function lies that is no rational number (Machine/Real.lean, log entry 14): the square
root, cosine and sine of an angle in turns, the angle of a vector (q, d), and π. -/
opaque sqrtRest : Rat → Rat
opaque cosRest : Rat → Rat
opaque sinRest : Rat → Rat
opaque atanRest : Rat → Rat → Rat
opaque piRest : Rat

/-- CRC-32 over the discrete state of a device (R378): how the state is laid out in bytes is internal to Zeset. -/
opaque discreteCrc : List Nat → Nat

/-- The patch in these bytes names the running ROM version (R429), and the version it carries; the format of a patch is internal to
Zeset. -/
opaque patchFits : List (BitVec 8) → Bool
opaque patchVersion : List (BitVec 8) → Nat

/-- The text of a patch version in SW_VERSION, 0 for the ROM alone, as a number with its first character lowest. -/
opaque patchText : Nat → Nat

end Sys2Proof.Config
end

