-- ==== Sys2Proof/Machine/Fields.lean ====
section
/-!
DEFINITION. Names of the fields of the spec's field maps: lowest bit and width, under <object>_<field>.
-/

namespace Sys2Proof.Machine.F

/-- Table 2-15. -/ def LAW_STATUS_BASES_UNSET : Fld := ⟨15, 1⟩
/-- Table 2-15. -/ def LAW_STATUS_STAGED_DIFFERS : Fld := ⟨14, 1⟩
/-- Table 2-15. -/ def LAW_STATUS_SENSOR_FAULT : Fld := ⟨13, 1⟩
/-- Table 2-15. -/ def LAW_STATUS_SIGNAL_HOLD : Fld := ⟨12, 1⟩
/-- Table 2-15. -/ def LAW_STATUS_OUTER_MISS : Fld := ⟨11, 1⟩
/-- Table 2-15. -/ def LAW_STATUS_EST_SUSPENDED : Fld := ⟨10, 1⟩
/-- Table 2-15. -/ def LAW_STATUS_EST_STALE : Fld := ⟨9, 1⟩
/-- Table 2-15. -/ def LAW_STATUS_RETUNE_RAMP : Fld := ⟨8, 1⟩
/-- Table 2-15. -/ def LAW_STATUS_V_SAT : Fld := ⟨7, 1⟩
/-- Table 2-15. -/ def LAW_STATUS_DC_LIMIT : Fld := ⟨6, 1⟩
/-- Table 2-15. -/ def LAW_STATUS_MACH_LIMIT : Fld := ⟨5, 1⟩
/-- Table 2-15. -/ def LAW_STATUS_E_LIM : Fld := ⟨4, 1⟩
/-- Table 2-15. -/ def LAW_STATUS_P_LIM : Fld := ⟨3, 1⟩
/-- Table 2-15. -/ def LAW_STATUS_FREQ_LIM : Fld := ⟨2, 1⟩
/-- Table 2-15. -/ def LAW_STATUS_THREAD_REMOVED : Fld := ⟨1, 1⟩
/-- Table 2-15. -/ def LAW_STATUS_LAW_RUNNING : Fld := ⟨0, 1⟩
/-- Table 3-10. -/ def MODE_STATUS_FAULT_PRESENT : Fld := ⟨10, 1⟩
/-- Table 3-10. -/ def MODE_STATUS_HOLDOVER : Fld := ⟨9, 1⟩
/-- Table 3-10. -/ def MODE_STATUS_APPLY_DEFERRED : Fld := ⟨8, 1⟩
/-- Table 3-10. -/ def MODE_STATUS_STOPPING : Fld := ⟨7, 1⟩
/-- Table 3-10. -/ def MODE_STATUS_PJ_FOLLOW : Fld := ⟨6, 1⟩
/-- Table 3-10. -/ def MODE_STATUS_KVI_ACTIVE : Fld := ⟨5, 1⟩
/-- Table 3-10. -/ def MODE_STATUS_NEG_SEQ : Fld := ⟨4, 1⟩
/-- Table 3-10. -/ def MODE_STATUS_CBC_ACTIVE : Fld := ⟨3, 1⟩
/-- Table 3-10. -/ def MODE_STATUS_ILIM : Fld := ⟨2, 1⟩
/-- Table 3-10. -/ def MODE_STATUS_HANDOVER_SLEW : Fld := ⟨1, 1⟩
/-- Table 3-10. -/ def MODE_STATUS_SWITCHING : Fld := ⟨0, 1⟩
/-- Table 4-13. -/ def BS_STATUS_RAMP_HELD : Fld := ⟨12, 1⟩
/-- Table 4-13. -/ def BS_STATUS_CAD_FAIL : Fld := ⟨11, 1⟩
/-- Table 4-13. -/ def BS_STATUS_DUP_UNIT : Fld := ⟨10, 1⟩
/-- Table 4-13. -/ def BS_STATUS_TX_ACTIVE : Fld := ⟨9, 1⟩
/-- Table 4-13. -/ def BS_STATUS_RESYNC_ACTIVE : Fld := ⟨8, 1⟩
/-- Table 4-13. -/ def BS_STATUS_HOLD_HEARD : Fld := ⟨7, 1⟩
/-- Table 4-13. -/ def BS_STATUS_ALL_JOINED : Fld := ⟨6, 1⟩
/-- Table 4-13. -/ def BS_STATUS_MASTER : Fld := ⟨5, 1⟩
/-- Table 4-13. -/ def BS_STATUS_HAS_TURN : Fld := ⟨4, 1⟩
/-- Table 4-13. -/ def BS_STATUS_IN_SYNC : Fld := ⟨3, 1⟩
/-- Table 4-13. -/ def BS_STATUS_EXT_LIVE : Fld := ⟨2, 1⟩
/-- Table 4-13. -/ def BS_STATUS_EXT_DEAD : Fld := ⟨1, 1⟩
/-- Table 4-13. -/ def BS_STATUS_DEAD : Fld := ⟨0, 1⟩
/-- Table 5-15. -/ def ENG_STATUS_PENDING_ENABLE : Fld := ⟨15, 1⟩
/-- Table 5-15. -/ def ENG_STATUS_SELFTEST : Fld := ⟨14, 1⟩
/-- Table 5-15. -/ def ENG_STATUS_LOADING : Fld := ⟨13, 1⟩
/-- Table 5-15. -/ def ENG_STATUS_IMAGE_VALID : Fld := ⟨12, 1⟩
/-- Table 5-15. -/ def ENG_STATUS_GUARD : Fld := ⟨11, 1⟩
/-- Table 5-15. -/ def ENG_STATUS_ECC_CORRECTED : Fld := ⟨10, 1⟩
/-- Table 5-15. -/ def ENG_STATUS_LATE_WRITE : Fld := ⟨9, 1⟩
/-- Table 5-15. -/ def ENG_STATUS_OVERRUN : Fld := ⟨8, 1⟩
/-- Table 5-15. -/ def ENG_STATUS_ENGINE_FAULT : Fld := ⟨7, 1⟩
/-- Table 5-15. -/ def ENG_STATUS_MISS : Fld := ⟨6, 1⟩
/-- Table 5-15. -/ def ENG_STATUS_IN_CYCLE : Fld := ⟨5, 1⟩
/-- Table 5-15. -/ def ENG_STATUS_WAITING : Fld := ⟨4, 1⟩
/-- Table 5-15. -/ def ENG_STATUS_STATE : Fld := ⟨0, 2⟩
/-- Table 6-9. -/ def PWM_STATUS_BASECAMP_FORCE : Fld := ⟨7, 1⟩
/-- Table 6-9. -/ def PWM_STATUS_TRIP_LATCHED : Fld := ⟨6, 1⟩
/-- Table 6-9. -/ def PWM_STATUS_TRIP_FAULT : Fld := ⟨5, 1⟩
/-- Table 6-9. -/ def PWM_STATUS_CBC_BLIND : Fld := ⟨4, 1⟩
/-- Table 6-9. -/ def PWM_STATUS_SHOOT : Fld := ⟨3, 1⟩
/-- Table 6-9. -/ def PWM_STATUS_CLAMP : Fld := ⟨2, 1⟩
/-- Table 6-9. -/ def PWM_STATUS_CARRY_LOST : Fld := ⟨1, 1⟩
/-- Table 6-9. -/ def PWM_STATUS_DROP : Fld := ⟨0, 1⟩
/-- Table 6-10. -/ def CG_CFG_ARM_PH : Fld := ⟨9, 1⟩
/-- Table 6-10. -/ def CG_CFG_ARM_PER : Fld := ⟨8, 1⟩
/-- Table 6-10. -/ def CG_CFG_GROUP : Fld := ⟨0, 3⟩
/-- Table 6-11. -/ def LG_CFG_REQUIRE_COMPLETE : Fld := ⟨8, 1⟩
/-- Table 6-11. -/ def LG_CFG_REF : Fld := ⟨0, 4⟩
/-- Table 6-12. -/ def LG_STATUS_REPLACED : Fld := ⟨7, 1⟩
/-- Table 6-12. -/ def LG_STATUS_CLAMP : Fld := ⟨6, 1⟩
/-- Table 6-12. -/ def LG_STATUS_HELD : Fld := ⟨5, 1⟩
/-- Table 6-12. -/ def LG_STATUS_CANCELLED : Fld := ⟨4, 1⟩
/-- Table 6-12. -/ def LG_STATUS_TORN : Fld := ⟨3, 1⟩
/-- Table 6-12. -/ def LG_STATUS_TRANSFERRED : Fld := ⟨2, 1⟩
/-- Table 6-12. -/ def LG_STATUS_REF_RUNNING : Fld := ⟨1, 1⟩
/-- Table 6-12. -/ def LG_STATUS_PENDING : Fld := ⟨0, 1⟩
/-- Table 6-13. -/ def CH_MINPULSE_POLICY : Fld := ⟨30, 2⟩
/-- Table 6-13. -/ def CH_MINPULSE_MINOFF : Fld := ⟨15, 15⟩
/-- Table 6-13. -/ def CH_MINPULSE_MINON : Fld := ⟨0, 15⟩
/-- Table 6-14. -/ def CH_CFG_ARM_MODE : Fld := ⟨10, 1⟩
/-- Table 6-14. -/ def CH_CFG_ARM_CMPB : Fld := ⟨9, 1⟩
/-- Table 6-14. -/ def CH_CFG_ARM_CMPA : Fld := ⟨8, 1⟩
/-- Table 6-14. -/ def CH_CFG_EN : Fld := ⟨4, 1⟩
/-- Table 6-14. -/ def CH_CFG_CARRIER : Fld := ⟨0, 4⟩
/-- Table 6-15. -/ def CH_STATUS_STRETCHED : Fld := ⟨8, 1⟩
/-- Table 6-15. -/ def CH_STATUS_FORCED : Fld := ⟨7, 1⟩
/-- Table 6-15. -/ def CH_STATUS_CBC : Fld := ⟨6, 1⟩
/-- Table 6-15. -/ def CH_STATUS_SHOOT : Fld := ⟨5, 1⟩
/-- Table 6-15. -/ def CH_STATUS_CLAMP : Fld := ⟨4, 1⟩
/-- Table 6-15. -/ def CH_STATUS_DROPPED : Fld := ⟨3, 1⟩
/-- Table 6-15. -/ def CH_STATUS_CARRY : Fld := ⟨2, 1⟩
/-- Table 6-15. -/ def CH_STATUS_TRIPPED : Fld := ⟨1, 1⟩
/-- Table 6-15. -/ def CH_STATUS_LEVEL : Fld := ⟨0, 1⟩
/-- Table 6-16. -/ def PAIR_DT_LEG : Fld := ⟨31, 1⟩
/-- Table 6-16. -/ def PAIR_DT_DT_TICKS : Fld := ⟨4, 14⟩
/-- Table 6-16. -/ def PAIR_DT_DT_FRAC : Fld := ⟨0, 4⟩
/-- Table 6-17. -/ def CH_CBC_THRESHOLD : Fld := ⟨16, 16⟩
/-- Table 6-17. -/ def CH_CBC_EN : Fld := ⟨15, 1⟩
/-- Table 6-17. -/ def CH_CBC_DIR : Fld := ⟨14, 1⟩
/-- Table 6-17. -/ def CH_CBC_LANE : Fld := ⟨0, 6⟩
/-- Table 6-18. -/ def TRIP_CFG_NO_RETRY : Fld := ⟨18, 1⟩
/-- Table 6-18. -/ def TRIP_CFG_POL : Fld := ⟨17, 1⟩
/-- Table 6-18. -/ def TRIP_CFG_EN : Fld := ⟨16, 1⟩
/-- Table 6-18. -/ def TRIP_CFG_FILTER : Fld := ⟨0, 16⟩
/-- Table 7-13. -/ def GL_CFG_VON_POS : Fld := ⟨20, 2⟩
/-- Table 7-13. -/ def GL_CFG_VON_DLY : Fld := ⟨12, 8⟩
/-- Table 7-13. -/ def GL_CFG_PROFILE : Fld := ⟨10, 2⟩
/-- Table 7-13. -/ def GL_CFG_TRAIN_EN : Fld := ⟨9, 1⟩
/-- Table 7-13. -/ def GL_CFG_NO_RETRY : Fld := ⟨8, 1⟩
/-- Table 7-13. -/ def GL_CFG_FE_OT : Fld := ⟨3, 1⟩
/-- Table 7-13. -/ def GL_CFG_FE_GS : Fld := ⟨2, 1⟩
/-- Table 7-13. -/ def GL_CFG_FE_FL : Fld := ⟨1, 1⟩
/-- Table 7-13. -/ def GL_CFG_EN : Fld := ⟨0, 1⟩
/-- Table 7-14. -/ def GL_STATUS_PENDING_ENABLE : Fld := ⟨31, 1⟩
/-- Table 7-14. -/ def GL_STATUS_STATE : Fld := ⟨28, 3⟩
/-- Table 7-14. -/ def GL_STATUS_LATCHED : Fld := ⟨27, 1⟩
/-- Table 7-14. -/ def GL_STATUS_FAULT : Fld := ⟨26, 1⟩
/-- Table 7-14. -/ def GL_STATUS_CAUSE : Fld := ⟨19, 7⟩
/-- Table 7-14. -/ def GL_STATUS_LANE_READY : Fld := ⟨18, 1⟩
/-- Table 7-14. -/ def GL_STATUS_BATON_HIGHER : Fld := ⟨17, 1⟩
/-- Table 7-14. -/ def GL_STATUS_BATON_OK : Fld := ⟨16, 1⟩
/-- Table 7-14. -/ def GL_STATUS_DELAY_DRIFT : Fld := ⟨15, 1⟩
/-- Table 7-14. -/ def GL_STATUS_TRAIN_FROZEN : Fld := ⟨14, 1⟩
/-- Table 7-14. -/ def GL_STATUS_LATE : Fld := ⟨13, 1⟩
/-- Table 7-14. -/ def GL_STATUS_SHOOT : Fld := ⟨12, 1⟩
/-- Table 7-14. -/ def GL_STATUS_CRC_ERR : Fld := ⟨11, 1⟩
/-- Table 7-14. -/ def GL_STATUS_INPUT_B : Fld := ⟨10, 1⟩
/-- Table 7-14. -/ def GL_STATUS_LINK_OK : Fld := ⟨9, 1⟩
/-- Table 7-14. -/ def GL_STATUS_GS_OK : Fld := ⟨8, 1⟩
/-- Table 7-17. -/ def LD_CFG_NO_RETRY : Fld := ⟨13, 1⟩
/-- Table 7-17. -/ def LD_CFG_SRC : Fld := ⟨5, 8⟩
/-- Table 7-17. -/ def LD_CFG_REFRESH_EN : Fld := ⟨4, 1⟩
/-- Table 7-17. -/ def LD_CFG_MODE : Fld := ⟨1, 2⟩
/-- Table 7-17. -/ def LD_CFG_EN : Fld := ⟨0, 1⟩
/-- Table 7-18. -/ def LD_STATUS_PENDING_ENABLE : Fld := ⟨8, 1⟩
/-- Table 7-18. -/ def LD_STATUS_LATCHED : Fld := ⟨7, 1⟩
/-- Table 7-18. -/ def LD_STATUS_BSTUV : Fld := ⟨6, 1⟩
/-- Table 7-18. -/ def LD_STATUS_VDRV_UV : Fld := ⟨5, 1⟩
/-- Table 7-18. -/ def LD_STATUS_BST_WAIT : Fld := ⟨4, 1⟩
/-- Table 7-18. -/ def LD_STATUS_REFRESH_LOW : Fld := ⟨3, 1⟩
/-- Table 7-18. -/ def LD_STATUS_SHOOT : Fld := ⟨2, 1⟩
/-- Table 7-18. -/ def LD_STATUS_HIGH_ON : Fld := ⟨1, 1⟩
/-- Table 7-18. -/ def LD_STATUS_LOW_ON : Fld := ⟨0, 1⟩
/-- Table 7-19. -/ def SD_CFG_SRC : Fld := ⟨12, 4⟩
/-- Table 7-19. -/ def SD_CFG_SNK : Fld := ⟨8, 4⟩
/-- Table 7-19. -/ def SD_CFG_NO_RETRY : Fld := ⟨2, 1⟩
/-- Table 7-19. -/ def SD_CFG_ON : Fld := ⟨1, 1⟩
/-- Table 7-19. -/ def SD_CFG_EN : Fld := ⟨0, 1⟩
/-- Table 7-20. -/ def SD_STATUS_PENDING_ENABLE : Fld := ⟨5, 1⟩
/-- Table 7-20. -/ def SD_STATUS_LATCHED : Fld := ⟨4, 1⟩
/-- Table 7-20. -/ def SD_STATUS_CPUV : Fld := ⟨3, 1⟩
/-- Table 7-20. -/ def SD_STATUS_VDRV_UV : Fld := ⟨2, 1⟩
/-- Table 7-20. -/ def SD_STATUS_CP_OK : Fld := ⟨1, 1⟩
/-- Table 7-20. -/ def SD_STATUS_OUT_ON : Fld := ⟨0, 1⟩
/-- Table 8-7. -/ def ADC_STATUS_PENDING_ENABLE : Fld := ⟨3, 1⟩
/-- Table 8-7. -/ def ADC_STATUS_DEGRADED : Fld := ⟨2, 1⟩
/-- Table 8-7. -/ def ADC_STATUS_CAL_STOPPED : Fld := ⟨1, 1⟩
/-- Table 8-7. -/ def ADC_STATUS_READY : Fld := ⟨0, 1⟩
/-- Table 8-8. -/ def SLICE_STATUS_SERVES : Fld := ⟨8, 5⟩
/-- Table 8-8. -/ def SLICE_STATUS_CAL_WAIT : Fld := ⟨3, 1⟩
/-- Table 8-8. -/ def SLICE_STATUS_STATE : Fld := ⟨0, 3⟩
/-- Table 8-9. -/ def TRG_CFG_EDGE : Fld := ⟨17, 2⟩
/-- Table 8-9. -/ def TRG_CFG_EN : Fld := ⟨16, 1⟩
/-- Table 8-9. -/ def TRG_CFG_FILTER : Fld := ⟨0, 8⟩
/-- Table 8-10. -/ def SQ_CFG_CONT : Fld := ⟨17, 1⟩
/-- Table 8-10. -/ def SQ_CFG_EN : Fld := ⟨16, 1⟩
/-- Table 8-10. -/ def SQ_CFG_INJ_LEN : Fld := ⟨8, 4⟩
/-- Table 8-10. -/ def SQ_CFG_REG_LEN : Fld := ⟨0, 7⟩
/-- Table 8-11. -/ def SQ_STATUS_REG_BUSY : Fld := ⟨6, 1⟩
/-- Table 8-11. -/ def SQ_STATUS_INJ_BUSY : Fld := ⟨5, 1⟩
/-- Table 8-11. -/ def SQ_STATUS_REG_OVR : Fld := ⟨4, 1⟩
/-- Table 8-11. -/ def SQ_STATUS_INJ_OVR : Fld := ⟨3, 1⟩
/-- Table 8-11. -/ def SQ_STATUS_DELAYED : Fld := ⟨2, 1⟩
/-- Table 8-11. -/ def SQ_STATUS_SKIPPED : Fld := ⟨1, 1⟩
/-- Table 8-12. -/ def ENTRY_NEW_STEP : Fld := ⟨15, 1⟩
/-- Table 8-12. -/ def ENTRY_AIN : Fld := ⟨0, 6⟩
/-- Table 8-13. -/ def OW_CFG_OW_THRESH : Fld := ⟨16, 16⟩
/-- Table 8-13. -/ def OW_CFG_ISEL : Fld := ⟨0, 2⟩
/-- Table 8-14. -/ def SDC_CFG_DIR : Fld := ⟨26, 1⟩
/-- Table 8-14. -/ def SDC_CFG_EN : Fld := ⟨25, 1⟩
/-- Table 8-14. -/ def SDC_CFG_DIV : Fld := ⟨16, 9⟩
/-- Table 8-14. -/ def SDC_CFG_EXPECT : Fld := ⟨0, 16⟩
/-- Table 8-15. -/ def SDC_STATUS_CLK_BAD : Fld := ⟨2, 1⟩
/-- Table 8-15. -/ def SDC_STATUS_CLK_STALE : Fld := ⟨1, 1⟩
/-- Table 8-15. -/ def SDC_STATUS_RUNNING : Fld := ⟨0, 1⟩
/-- Table 8-16. -/ def SDI_CFG_EN : Fld := ⟨7, 1⟩
/-- Table 8-16. -/ def SDI_CFG_EDGE : Fld := ⟨6, 1⟩
/-- Table 8-16. -/ def SDI_CFG_CLK : Fld := ⟨0, 3⟩
/-- Table 8-17. -/ def SDI_STATUS_STUCK : Fld := ⟨2, 1⟩
/-- Table 8-17. -/ def SDI_STATUS_STALE : Fld := ⟨1, 1⟩
/-- Table 8-17. -/ def SDI_STATUS_ACTIVE : Fld := ⟨0, 1⟩
/-- Table 9-5. -/ def LANE_CFG_EN : Fld := ⟨31, 1⟩
/-- Table 9-5. -/ def LANE_CFG_SRC_TYPE : Fld := ⟨30, 1⟩
/-- Table 9-5. -/ def LANE_CFG_SRC : Fld := ⟨24, 6⟩
/-- Table 9-5. -/ def LANE_CFG_START_BANK : Fld := ⟨23, 1⟩
/-- Table 9-5. -/ def LANE_CFG_ORDER : Fld := ⟨20, 3⟩
/-- Table 9-5. -/ def LANE_CFG_DECIM : Fld := ⟨8, 9⟩
/-- Table 9-5. -/ def LANE_CFG_OUT_SHIFT : Fld := ⟨0, 5⟩
/-- Table 9-6. -/ def LANE_STATUS_PENDING_ENABLE : Fld := ⟨31, 1⟩
/-- Table 9-6. -/ def LANE_STATUS_STATE : Fld := ⟨28, 3⟩
/-- Table 9-6. -/ def LANE_STATUS_BANK : Fld := ⟨27, 1⟩
/-- Table 9-6. -/ def LANE_STATUS_FADE : Fld := ⟨26, 1⟩
/-- Table 9-6. -/ def LANE_STATUS_SWAP_PENDING : Fld := ⟨25, 1⟩
/-- Table 9-6. -/ def LANE_STATUS_QUEUED_BANK : Fld := ⟨24, 1⟩
/-- Table 9-6. -/ def LANE_STATUS_UNSETTLED : Fld := ⟨7, 1⟩
/-- Table 9-6. -/ def LANE_STATUS_STALE : Fld := ⟨6, 1⟩
/-- Table 9-6. -/ def LANE_STATUS_FIR_OVR : Fld := ⟨5, 1⟩
/-- Table 9-6. -/ def LANE_STATUS_SAT : Fld := ⟨4, 1⟩
/-- Table 9-6. -/ def LANE_STATUS_RESTARTED : Fld := ⟨3, 1⟩
/-- Table 9-7. -/ def BANK_VALID : Fld := ⟨31, 1⟩
/-- Table 9-7. -/ def BANK_LINEAR : Fld := ⟨30, 1⟩
/-- Table 9-7. -/ def BANK_FIR_DELAY : Fld := ⟨16, 13⟩
/-- Table 9-7. -/ def BANK_TAPS : Fld := ⟨0, 10⟩
/-- Table 10-9. -/ def RC_CFG_EN : Fld := ⟨31, 1⟩
/-- Table 10-9. -/ def RC_CFG_AUTO_REARM : Fld := ⟨30, 1⟩
/-- Table 10-9. -/ def RC_CFG_OVERWRITE : Fld := ⟨29, 1⟩
/-- Table 10-9. -/ def RC_CFG_KEEP : Fld := ⟨28, 1⟩
/-- Table 10-9. -/ def RC_CFG_SLOTS : Fld := ⟨16, 5⟩
/-- Table 10-9. -/ def RC_CFG_NCH : Fld := ⟨0, 6⟩
/-- Table 10-10. -/ def TRIG_EN : Fld := ⟨31, 1⟩
/-- Table 10-10. -/ def TRIG_EDGE : Fld := ⟨29, 2⟩
/-- Table 10-10. -/ def TRIG_CH : Fld := ⟨24, 5⟩
/-- Table 10-11. -/ def RC_STATUS_PENDING_ENABLE : Fld := ⟨9, 1⟩
/-- Table 10-11. -/ def RC_STATUS_KEPT : Fld := ⟨8, 1⟩
/-- Table 10-11. -/ def RC_STATUS_GAP : Fld := ⟨7, 1⟩
/-- Table 10-11. -/ def RC_STATUS_IGNORED : Fld := ⟨6, 1⟩
/-- Table 10-11. -/ def RC_STATUS_TRIGGERED : Fld := ⟨5, 1⟩
/-- Table 10-11. -/ def RC_STATUS_TRUNC : Fld := ⟨4, 1⟩
/-- Table 10-11. -/ def RC_STATUS_STATE : Fld := ⟨0, 4⟩
/-- Table 10-12. -/ def TB_CFG_REF : Fld := ⟨1, 1⟩
/-- Table 10-12. -/ def TB_CFG_EN : Fld := ⟨0, 1⟩
/-- Table 10-13. -/ def TB_STATUS_STUCK : Fld := ⟨8, 4⟩
/-- Table 10-13. -/ def TB_STATUS_CAL_FAIL : Fld := ⟨4, 4⟩
/-- Table 10-13. -/ def TB_STATUS_CAL_BUSY : Fld := ⟨1, 1⟩
/-- Table 10-13. -/ def TB_STATUS_CLK_OK : Fld := ⟨0, 1⟩
/-- Table 11-7. -/ def CLK_STATUS_RELOCK_BUSY : Fld := ⟨4, 1⟩
/-- Table 11-7. -/ def CLK_STATUS_HOLDOVER_EXCEEDED : Fld := ⟨3, 1⟩
/-- Table 11-7. -/ def CLK_STATUS_ALL_LOCKED : Fld := ⟨2, 1⟩
/-- Table 11-7. -/ def CLK_STATUS_XIN_LOST : Fld := ⟨1, 1⟩
/-- Table 11-7. -/ def CLK_STATUS_XIN_SEEN : Fld := ⟨0, 1⟩
/-- Table 11-8. -/ def PLL_STATUS_BAND_LIMIT : Fld := ⟨7, 1⟩
/-- Table 11-8. -/ def PLL_STATUS_DITHER_ON : Fld := ⟨6, 1⟩
/-- Table 11-8. -/ def PLL_STATUS_LOCK_LOST : Fld := ⟨5, 1⟩
/-- Table 11-8. -/ def PLL_STATUS_LOL_SEEN : Fld := ⟨4, 1⟩
/-- Table 11-8. -/ def PLL_STATUS_STATE : Fld := ⟨0, 3⟩
/-- Table 11-9. -/ def TIME_FLAGS_RTC_LOADED : Fld := ⟨8, 1⟩
/-- Table 11-9. -/ def TIME_FLAGS_SW_STAMP : Fld := ⟨7, 1⟩
/-- Table 11-9. -/ def TIME_FLAGS_EDGE_ALIGN_ERR : Fld := ⟨6, 1⟩
/-- Table 11-9. -/ def TIME_FLAGS_PTP_LOST : Fld := ⟨5, 1⟩
/-- Table 11-9. -/ def TIME_FLAGS_SLEWING : Fld := ⟨4, 1⟩
/-- Table 11-9. -/ def TIME_FLAGS_LOCKED : Fld := ⟨3, 1⟩
/-- Table 11-9. -/ def TIME_FLAGS_STEP_DEFERRED : Fld := ⟨2, 1⟩
/-- Table 11-9. -/ def TIME_FLAGS_STEPPED : Fld := ⟨1, 1⟩
/-- Table 11-9. -/ def TIME_FLAGS_PTP_VALID : Fld := ⟨0, 1⟩
/-- Table 11-10. -/ def TA_CFG_EN : Fld := ⟨31, 1⟩
/-- Table 11-10. -/ def TA_CFG_MODE : Fld := ⟨29, 2⟩
/-- Table 11-10. -/ def TA_CFG_CG : Fld := ⟨24, 4⟩
/-- Table 11-10. -/ def TA_CFG_DIV : Fld := ⟨16, 8⟩
/-- Table 11-10. -/ def TA_CFG_PHASE : Fld := ⟨8, 8⟩
/-- Table 11-10. -/ def TA_STATUS_LATE : Fld := ⟨1, 1⟩
/-- Table 11-10. -/ def TA_STATUS_SCHEDULED : Fld := ⟨0, 1⟩
/-- Table 12-8. -/ def DRAM_STATUS_KEPT : Fld := ⟨3, 1⟩
/-- Table 12-8. -/ def DRAM_STATUS_SELF_REFRESH : Fld := ⟨2, 1⟩
/-- Table 12-8. -/ def DRAM_STATUS_INIT_DONE : Fld := ⟨1, 1⟩
/-- Table 12-8. -/ def DRAM_STATUS_TRAINED : Fld := ⟨0, 1⟩
/-- Table 12-9. -/ def DMA_CFG_EN : Fld := ⟨31, 1⟩
/-- Table 12-9. -/ def DMA_CFG_PRIO : Fld := ⟨29, 2⟩
/-- Table 12-9. -/ def DMA_CFG_SRC_CONT : Fld := ⟨28, 1⟩
/-- Table 12-9. -/ def DMA_CFG_DST_CONT : Fld := ⟨27, 1⟩
/-- Table 12-9. -/ def DMA_CFG_SRC_WRAP : Fld := ⟨18, 6⟩
/-- Table 12-9. -/ def DMA_CFG_DST_WRAP : Fld := ⟨12, 6⟩
/-- Table 12-9. -/ def DMA_CFG_ELEM : Fld := ⟨10, 2⟩
/-- Table 12-10. -/ def DMA_STATUS_STREAM_OVR : Fld := ⟨9, 1⟩
/-- Table 12-10. -/ def DMA_STATUS_DB_IGNORED : Fld := ⟨8, 1⟩
/-- Table 12-10. -/ def DMA_STATUS_HALT_CAUSE : Fld := ⟨4, 4⟩
/-- Table 12-10. -/ def DMA_STATUS_TIMEOUT : Fld := ⟨3, 1⟩
/-- Table 12-10. -/ def DMA_STATUS_HALTED : Fld := ⟨2, 1⟩
/-- Table 12-10. -/ def DMA_STATUS_DONE : Fld := ⟨1, 1⟩
/-- Table 12-10. -/ def DMA_STATUS_BUSY : Fld := ⟨0, 1⟩
/-- Table 13-12. -/ def DEVICE_STATUS_STANDBY_ROLE : Fld := ⟨7, 1⟩
/-- Table 13-12. -/ def DEVICE_STATUS_ENGINE_FAULT : Fld := ⟨6, 1⟩
/-- Table 13-12. -/ def DEVICE_STATUS_LANE_LATCHED : Fld := ⟨5, 1⟩
/-- Table 13-12. -/ def DEVICE_STATUS_TRIP_LATCHED : Fld := ⟨4, 1⟩
/-- Table 13-12. -/ def DEVICE_STATUS_LAW_ERROR : Fld := ⟨3, 1⟩
/-- Table 13-12. -/ def DEVICE_STATUS_CLOCK : Fld := ⟨2, 1⟩
/-- Table 13-12. -/ def DEVICE_STATUS_JOURNAL : Fld := ⟨1, 1⟩
/-- Table 13-12. -/ def DEVICE_STATUS_BOOT_DONE : Fld := ⟨0, 1⟩
/-- Table 13-13. -/ def J_STATUS_MIRROR_LOST : Fld := ⟨3, 1⟩
/-- Table 13-13. -/ def J_STATUS_ONE_COPY : Fld := ⟨2, 1⟩
/-- Table 13-13. -/ def J_STATUS_REPLAYING : Fld := ⟨1, 1⟩
/-- Table 13-13. -/ def J_STATUS_READY : Fld := ⟨0, 1⟩
/-- Table 13-14. -/ def ETH_CFG_VID : Fld := ⟨16, 12⟩
/-- Table 13-14. -/ def ETH_CFG_PCP : Fld := ⟨13, 3⟩
/-- Table 13-14. -/ def ETH_CFG_EN : Fld := ⟨0, 1⟩
/-- Table 13-15. -/ def ETH_STATUS_SPEED : Fld := ⟨2, 2⟩
/-- Table 13-15. -/ def ETH_STATUS_RED_MEMBER : Fld := ⟨1, 1⟩
/-- Table 13-15. -/ def ETH_STATUS_LINK : Fld := ⟨0, 1⟩
/-- Table 13-16. -/ def CAN_CFG_EN : Fld := ⟨31, 1⟩
/-- Table 13-16. -/ def CAN_CFG_DBR : Fld := ⟨24, 3⟩
/-- Table 13-16. -/ def CAN_CFG_NBR : Fld := ⟨20, 2⟩
/-- Table 13-16. -/ def CAN_CFG_NODE_ID : Fld := ⟨0, 7⟩
/-- Table 14-8. -/ def PAIR_STATUS_BATON_COMMIT_FAIL : Fld := ⟨17, 1⟩
/-- Table 14-8. -/ def PAIR_STATUS_BATON_EXHAUSTED : Fld := ⟨16, 1⟩
/-- Table 14-8. -/ def PAIR_STATUS_TAKEOVER_BLOCKED : Fld := ⟨15, 1⟩
/-- Table 14-8. -/ def PAIR_STATUS_VERSION_CLASH : Fld := ⟨14, 1⟩
/-- Table 14-8. -/ def PAIR_STATUS_ID_CLASH : Fld := ⟨13, 1⟩
/-- Table 14-8. -/ def PAIR_STATUS_PARTNER_ALIVE : Fld := ⟨12, 1⟩
/-- Table 14-8. -/ def PAIR_STATUS_BL1_UP : Fld := ⟨11, 1⟩
/-- Table 14-8. -/ def PAIR_STATUS_BL0_UP : Fld := ⟨10, 1⟩
/-- Table 14-8. -/ def PAIR_STATUS_TIME_OK : Fld := ⟨9, 1⟩
/-- Table 14-8. -/ def PAIR_STATUS_DIVERGED : Fld := ⟨8, 1⟩
/-- Table 14-8. -/ def PAIR_STATUS_MIRROR_LOST : Fld := ⟨7, 1⟩
/-- Table 14-8. -/ def PAIR_STATUS_SOLO : Fld := ⟨6, 1⟩
/-- Table 14-8. -/ def PAIR_STATUS_FENCED : Fld := ⟨5, 1⟩
/-- Table 14-8. -/ def PAIR_STATUS_SYNCED : Fld := ⟨4, 1⟩
/-- Table 14-8. -/ def PAIR_STATUS_STATE : Fld := ⟨0, 4⟩
/-- Table 15-10. -/ def SUP_STATUS_SPARES_LOW : Fld := ⟨13, 1⟩
/-- Table 15-10. -/ def SUP_STATUS_REFRESH_TIGHT : Fld := ⟨12, 1⟩
/-- Table 15-10. -/ def SUP_STATUS_FSW_OVER : Fld := ⟨11, 1⟩
/-- Table 15-10. -/ def SUP_STATUS_REF_DRIFT_HIGH : Fld := ⟨10, 1⟩
/-- Table 15-10. -/ def SUP_STATUS_IST_LATE : Fld := ⟨9, 1⟩
/-- Table 15-10. -/ def SUP_STATUS_IST_FAIL : Fld := ⟨8, 1⟩
/-- Table 15-10. -/ def SUP_STATUS_STRAP_UNSTABLE : Fld := ⟨7, 1⟩
/-- Table 15-10. -/ def SUP_STATUS_SUPPLY_WARN : Fld := ⟨6, 1⟩
/-- Table 15-10. -/ def SUP_STATUS_TJ_HOT : Fld := ⟨5, 1⟩
/-- Table 15-10. -/ def SUP_STATUS_SLOW_CORNER : Fld := ⟨4, 1⟩
/-- Table 15-10. -/ def SUP_STATUS_GUARD_LOST : Fld := ⟨3, 1⟩
/-- Table 15-10. -/ def SUP_STATUS_FLOOR_LOW : Fld := ⟨2, 1⟩
/-- Table 15-10. -/ def SUP_STATUS_THROTTLING : Fld := ⟨1, 1⟩
/-- Table 15-10. -/ def SUP_STATUS_OVER_BUDGET : Fld := ⟨0, 1⟩
/-- Table 16-7. -/ def CFG_STATUS_RWS_LOCKED : Fld := ⟨4, 1⟩
/-- Table 16-7. -/ def CFG_STATUS_COMPACTING : Fld := ⟨3, 1⟩
/-- Table 16-7. -/ def CFG_STATUS_COPY_REPAIRED : Fld := ⟨2, 1⟩
/-- Table 16-7. -/ def CFG_STATUS_CFG_DEFAULTED : Fld := ⟨1, 1⟩
/-- Table 16-7. -/ def CFG_STATUS_LOADED : Fld := ⟨0, 1⟩

end Sys2Proof.Machine.F
end

