-- ==== Sys2Proof/Machine/Objects.lean ====
section
/-!
DEFINITION. The object dictionary as data: one row per row of the spec's object tables (index, number of indexes,
subindex, number of subindexes, type, access code, default, range), in index order, one list per index page.
Each group's comment names the table of spec/ it comes from.
-/

namespace Sys2Proof.Machine

/-- 13_object_dictionary.md Table 13-8. -/
def objPage10 : List Obj := [
  ⟨0x1000, 1, 0x00, 1, .u32, .const, .c 0, .all⟩ /- DEVICE_TYPE -/,
  ⟨0x1001, 1, 0x00, 1, .u8, .ro, .c 0, .all⟩ /- ERROR_REG -/,
  ⟨0x1008, 1, 0x00, 1, .string, .const, .c 0x303638344756, .all⟩ /- DEVICE_NAME -/,
  ⟨0x1009, 1, 0x00, 1, .string, .const, .c 0x42, .all⟩ /- HW_VERSION -/,
  ⟨0x100A, 1, 0x00, 1, .string, .ro, .dev 2, .all⟩ /- SW_VERSION -/,
  ⟨0x1017, 1, 0x00, 1, .u16, .rws, .c 0x3e8, .all⟩ /- HEARTBEAT_MS -/,
  ⟨0x1018, 1, 0x01, 1, .u32, .const, .c 0xa47, .all⟩ /- VENDOR_ID -/,
  ⟨0x1018, 1, 0x02, 1, .u32, .const, .c 0x4860, .all⟩ /- PRODUCT_CODE -/,
  ⟨0x1018, 1, 0x03, 1, .u32, .const, .c 0x20000, .all⟩ /- REVISION -/,
  ⟨0x1018, 1, 0x04, 1, .u32, .const, .dev 0, .all⟩ /- SERIAL -/]

/-- 13_object_dictionary.md Table 13-4. -/
def objPage14 : List Obj := [
  ⟨0x1400, 16, 0x01, 1, .u32, .rw, .c 0x80000000, .all⟩ /- RPDO_COBID -/,
  ⟨0x1400, 16, 0x02, 1, .u8, .rw, .c 0xff, .special⟩ /- RPDO_TYPE -/,
  ⟨0x1400, 16, 0x05, 1, .u16, .rw, .c 0, .all⟩ /- RPDO_TIMER -/]

/-- 13_object_dictionary.md Table 13-4. -/
def objPage16 : List Obj := [
  ⟨0x1600, 16, 0x00, 1, .u8, .rw, .c 0, .rng 0 16⟩ /- RPDO_N -/,
  ⟨0x1600, 16, 0x01, 16, .u32, .rw, .c 0, .special⟩ /- RPDO_MAP -/]

/-- 13_object_dictionary.md Table 13-4. -/
def objPage18 : List Obj := [
  ⟨0x1800, 16, 0x01, 1, .u32, .rw, .c 0x80000000, .all⟩ /- TPDO_COBID -/,
  ⟨0x1800, 16, 0x02, 1, .u8, .rw, .c 0xff, .special⟩ /- TPDO_TYPE -/,
  ⟨0x1800, 16, 0x03, 1, .u16, .rw, .c 0, .all⟩ /- TPDO_INHIBIT -/,
  ⟨0x1800, 16, 0x05, 1, .u16, .rw, .c 0, .all⟩ /- TPDO_TIMER -/]

/-- 13_object_dictionary.md Table 13-4. -/
def objPage1A : List Obj := [
  ⟨0x1A00, 16, 0x00, 1, .u8, .rw, .c 0, .rng 0 16⟩ /- TPDO_N -/,
  ⟨0x1A00, 16, 0x01, 16, .u32, .rw, .c 0, .special⟩ /- TPDO_MAP -/]

/-- 13_object_dictionary.md Table 13-9. -/
def objPage20 : List Obj := [
  ⟨0x2000, 1, 0x01, 1, .u32, .ro, .c 0, .all⟩ /- DEVICE_STATUS -/,
  ⟨0x2000, 1, 0x02, 1, .u32, .ro, .c 0, .all⟩ /- UPTIME -/,
  ⟨0x2000, 1, 0x03, 1, .u8, .ro, .c 0, .all⟩ /- RESET_CAUSE -/,
  ⟨0x2000, 1, 0x04, 1, .u8, .ro, .c 0, .all⟩ /- STRAPS -/,
  ⟨0x2010, 1, 0x01, 1, .u8, .rw, .c 1, .rng 0 1⟩ /- BEHAVIOUR_LEVEL -/]

/-- 15_supervision_and_health.md Table 15-7; 15_supervision_and_health.md Table 15-8. -/
def objPage21_0 : List Obj := [
  ⟨0x2100, 1, 0x01, 1, .u16, .rw, .c 0xfff, .mask 0xfff⟩ /- PD_REQ -/,
  ⟨0x2100, 1, 0x02, 1, .u16, .ro, .c 0, .all⟩ /- PD_ON -/,
  ⟨0x2100, 1, 0x03, 1, .u16, .ro, .c 0, .all⟩ /- PD_PENDING -/,
  ⟨0x2100, 1, 0x04, 1, .u16, .ro, .c 0, .all⟩ /- PD_REFUSED -/,
  ⟨0x2100, 1, 0x05, 1, .u8, .cmd, .c 0, .rng 1 1⟩ /- STANDBY -/,
  ⟨0x2100, 1, 0x06, 1, .u8, .rws, .c 1, .mask 0x3⟩ /- WAKE_CFG -/,
  ⟨0x2100, 1, 0x07, 1, .time64, .rw, .c 0, .all⟩ /- WAKE_TIME -/,
  ⟨0x2100, 1, 0x08, 1, .u8, .ro, .c 0, .all⟩ /- WAKE_CAUSE -/,
  ⟨0x2100, 1, 0x09, 1, .u32, .ro, .c 0, .all⟩ /- STANDBY_COUNT -/,
  ⟨0x2110, 1, 0x01, 1, .u16, .rws, .c 0x2af8, .rng 6000 13000⟩ /- BUDGET -/,
  ⟨0x2110, 1, 0x02, 1, .u8, .rws, .c 0x3c, .rng 30 100⟩ /- FLOOR -/,
  ⟨0x2110, 1, 0x03, 1, .u16, .ro, .c 0, .all⟩ /- POWER_MEAS -/,
  ⟨0x2110, 1, 0x04, 1, .u16, .ro, .c 0, .all⟩ /- POWER_COMMIT -/,
  ⟨0x2110, 1, 0x05, 1, .u32, .ro, .c 0, .all⟩ /- SUP_STATUS -/,
  ⟨0x2110, 1, 0x06, 1, .u8, .ro, .c 0, .all⟩ /- THROTTLE -/,
  ⟨0x2110, 1, 0x07, 1, .u32, .ro, .c 0, .all⟩ /- THROTTLE_MS -/,
  ⟨0x2110, 1, 0x08, 1, .u64, .rws, .c 0, .mask 0xffffffffff⟩ /- FILT_PROTECT -/,
  ⟨0x2118, 1, 0x01, 1, .u16, .rws, .c 0x28a, .rng 650 850⟩ /- VDD_MIN -/,
  ⟨0x2118, 1, 0x02, 1, .u16, .rws, .c 0x352, .rng 650 850⟩ /- VDD_MAX -/,
  ⟨0x2118, 1, 0x03, 1, .u16, .ro, .c 0x2ee, .all⟩ /- VDD_CHOSEN -/,
  ⟨0x2118, 1, 0x04, 1, .u16, .ro, .c 0x28a, .all⟩ /- VDD_FLOOR -/,
  ⟨0x2118, 1, 0x05, 1, .u8, .rws, .c 0xa, .rng 0 30⟩ /- GUARD_PCT -/,
  ⟨0x2120, 1, 0x01, 1, .u8, .rws, .c 0x1f, .mask 0x1f⟩ /- IST_EN -/,
  ⟨0x2120, 1, 0x02, 1, .u16, .rws, .c 0x3c, .rng 10 86400⟩ /- IST_PERIOD -/,
  ⟨0x2120, 1, 0x03, 1, .u64, .rws, .c 0, .all⟩ /- IST_SRAM_LO -/,
  ⟨0x2120, 1, 0x04, 1, .u64, .rws, .c 0, .all⟩ /- IST_SRAM_HI -/,
  ⟨0x2120, 1, 0x05, 1, .u64, .ro, .c 0xffffffffff, .all⟩ /- IST_FAIL_ADDR -/,
  ⟨0x2120, 1, 0x06, 1, .u16, .ro, .c 0, .all⟩ /- ST_FAILED -/,
  ⟨0x2120, 1, 0x07, 1, .u64, .ro, .c 0, .all⟩ /- GL_CHECK_FAIL -/,
  ⟨0x2121, 1, 0x01, 5, .u32, .ro, .c 0, .all⟩ /- IST_PASS -/]

/-- 15_supervision_and_health.md Table 15-8; 15_supervision_and_health.md Table 15-9. -/
def objPage21_1 : List Obj := [
  ⟨0x2122, 1, 0x01, 5, .u32, .ro, .c 0, .all⟩ /- IST_FAILS -/,
  ⟨0x2130, 1, 0x01, 1, .i16, .rws, .c 0x47e, .rng 850 1250⟩ /- TJ_HOT -/,
  ⟨0x2130, 1, 0x02, 1, .u8, .ro, .c 0, .all⟩ /- STRAP_RAW -/,
  ⟨0x2131, 1, 0x01, 6, .u16, .ro, .c 0, .all⟩ /- SUPPLY_MEAS -/,
  ⟨0x2132, 1, 0x01, 8, .i16, .ro, .c 0, .all⟩ /- TJ -/,
  ⟨0x2140, 1, 0x01, 5, .u16, .ro, .c 0, .all⟩ /- RING_LOSS -/,
  ⟨0x2140, 1, 0x06, 1, .i32, .ro, .c 0, .all⟩ /- REF_DRIFT -/,
  ⟨0x2140, 1, 0x07, 1, .u16, .ro, .c 0, .all⟩ /- MRAM_MARGIN -/,
  ⟨0x2140, 1, 0x08, 1, .u16, .rws, .c 0x28, .rng 10 200⟩ /- MARGIN_MIN -/,
  ⟨0x2140, 1, 0x09, 1, .u16, .ro, .c 0, .all⟩ /- WL_RETIRED -/,
  ⟨0x2150, 1, 0x01, 64, .u16, .rws, .c 0, .rng 0 10000⟩ /- MOD_IREF -/,
  ⟨0x2151, 1, 0x01, 64, .u8, .rws, .c 0xff, .rng 0 63⟩ /- MOD_IAIN -/,
  ⟨0x2152, 1, 0x01, 64, .u32, .rws, .c 0, .all⟩ /- MOD_IFS -/,
  ⟨0x2153, 1, 0x01, 64, .i16, .ro, .c 0, .all⟩ /- VON_DRIFT -/,
  ⟨0x2154, 1, 0x01, 64, .i16, .ro, .c 0, .all⟩ /- DVDT_DRIFT -/,
  ⟨0x2155, 1, 0x01, 64, .u16, .ro, .c 0, .all⟩ /- LIFE_USED -/,
  ⟨0x2156, 1, 0x01, 64, .u16, .ro, .c 0, .all⟩ /- AGE_FACTOR -/,
  ⟨0x2157, 1, 0x01, 1, .u64, .cmd, .c 0, .all⟩ /- MOD_BASELINE -/,
  ⟨0x2158, 1, 0x01, 1, .u8, .rws, .c 0xa, .rng 1 50⟩ /- I_BAND -/,
  ⟨0x2158, 1, 0x02, 1, .i16, .rws, .c 0x258, .all⟩ /- T_REF -/,
  ⟨0x2158, 1, 0x03, 1, .u16, .rws, .c 0x32, .rng 10 200⟩ /- T_BAND -/,
  ⟨0x2158, 1, 0x04, 1, .u16, .rws, .c 0x1e, .rng 1 1000⟩ /- RTH -/,
  ⟨0x2158, 1, 0x05, 1, .u16, .rws, .c 0x64, .rng 1 10000⟩ /- TAU_TH -/,
  ⟨0x2158, 1, 0x06, 1, .u16, .rws, .c 0, .all⟩ /- ESW -/,
  ⟨0x2158, 1, 0x07, 1, .u32, .rws, .c 0xf4240, .all⟩ /- N_REF -/,
  ⟨0x2158, 1, 0x08, 1, .u8, .rws, .c 0x28, .rng 5 150⟩ /- DT_REF -/,
  ⟨0x2158, 1, 0x09, 1, .u8, .rws, .c 5, .rng 1 15⟩ /- LIFE_EXP -/,
  ⟨0x2158, 1, 0x0A, 1, .u16, .rws, .c 0x18, .rng 1 720⟩ /- DRIFT_PERIOD -/,
  ⟨0x2159, 1, 0x01, 1, .u8, .rw, .c 0, .rng 0 63⟩ /- RF_LANE -/,
  ⟨0x215A, 1, 0x01, 16, .u32, .ro, .c 0, .all⟩ /- RF_BIN -/]

/-- 15_supervision_and_health.md Table 15-9. -/
def objPage21_2 : List Obj := [
  ⟨0x2160, 1, 0x01, 1, .bool, .rws, .c 1, .bool⟩ /- REPLAN_EN -/,
  ⟨0x2160, 1, 0x02, 1, .u16, .rws, .c 0x32, .rng 0 500⟩ /- DRIFT_START -/,
  ⟨0x2160, 1, 0x03, 1, .u16, .rws, .c 0xc8, .rng 10 1000⟩ /- DRIFT_END -/,
  ⟨0x2160, 1, 0x04, 1, .u16, .rws, .c 0x1388, .all⟩ /- LIFE_START -/,
  ⟨0x2160, 1, 0x05, 1, .u16, .rws, .c 0x2710, .all⟩ /- LIFE_END -/,
  ⟨0x2160, 1, 0x06, 1, .u16, .rws, .c 0x9c4, .rng 500 50000⟩ /- FSW_REF -/,
  ⟨0x2160, 1, 0x07, 1, .u16, .rws, .c 0x1f4, .rng 500 50000⟩ /- FSW_FLOOR -/,
  ⟨0x2160, 1, 0x08, 1, .u16, .ro, .c 0x9c4, .all⟩ /- FSW_CEIL -/,
  ⟨0x2161, 1, 0x01, 8, .u32, .ro, .c 0xffffffff, .all⟩ /- REF_MARGIN -/,
  ⟨0x2162, 1, 0x01, 16, .u32, .ro, .c 0, .all⟩ /- REPLAN_LOG -/,
  ⟨0x2163, 1, 0x01, 16, .time64, .ro, .c 0, .all⟩ /- REPLAN_TIME -/]

/-- The rows of index page 0x21. -/
def objPage21 : List Obj := objPage21_0 ++ objPage21_1 ++ objPage21_2

/-- 11_clocks_and_time.md Table 11-3; 11_clocks_and_time.md Table 11-4. -/
def objPage22_0 : List Obj := [
  ⟨0x2200, 1, 0x01, 1, .u32, .rw, .c 0, .w1c 0x1f 0x1⟩ /- CLK_STATUS -/,
  ⟨0x2200, 1, 0x02, 1, .u16, .rws, .c 0x32, .rng 1 200⟩ /- HOLDOVER_BOUND -/,
  ⟨0x2200, 1, 0x03, 1, .u8, .cmd, .c 0, .mask 0x7⟩ /- RELOCK -/,
  ⟨0x2200, 1, 0x04, 1, .u32, .ro, .c 0, .all⟩ /- XIN_LOSSES -/,
  ⟨0x2200, 1, 0x05, 1, .u32, .ro, .c 0, .all⟩ /- HOLDOVER_COUNT -/,
  ⟨0x2210, 3, 0x01, 1, .u32, .rw, .c 0, .w1c 0xf7 0x10⟩ /- PLL_STATUS -/,
  ⟨0x2210, 3, 0x02, 1, .u16, .ro, .c 0, .all⟩ /- PLL_BAND -/,
  ⟨0x2210, 3, 0x03, 1, .i32, .ro, .c 0, .all⟩ /- FREQ_ERR -/,
  ⟨0x2210, 3, 0x04, 1, .bool, .rws, .c 1, .bool⟩ /- DITHER_EN -/,
  ⟨0x2210, 3, 0x05, 1, .u16, .rws, .byIdxL [0x1D87, 0x4AF3, 0x7B52], .rng 1 65535⟩ /- DITHER_SEED -/,
  ⟨0x2210, 3, 0x06, 1, .u32, .ro, .c 0, .all⟩ /- LOCK_COUNT -/,
  ⟨0x2210, 3, 0x07, 1, .u32, .ro, .c 0, .all⟩ /- LOL_COUNT -/,
  ⟨0x2210, 3, 0x08, 1, .u32, .ro, .c 0, .all⟩ /- HOLDOVER_MS -/,
  ⟨0x2218, 1, 0x01, 1, .i16, .rws, .c 0, .rng (-4096) 4096⟩ /- EDGE_OFS -/,
  ⟨0x2218, 1, 0x02, 1, .i16, .ro, .c 0, .all⟩ /- EDGE_OFS_ACT -/,
  ⟨0x2218, 1, 0x03, 1, .i16, .ro, .c 0, .all⟩ /- ALIGN_ERR -/,
  ⟨0x2218, 1, 0x04, 1, .u32, .ro, .c 0, .all⟩ /- FINE_STEPS -/,
  ⟨0x2220, 1, 0x01, 1, .time64, .ro, .c 0, .all⟩ /- TIME_NOW -/,
  ⟨0x2220, 1, 0x02, 1, .u16, .ro, .c 0, .all⟩ /- TIME_FRAC -/,
  ⟨0x2220, 1, 0x03, 1, .u8, .ro, .c 0, .all⟩ /- TIME_STATE -/,
  ⟨0x2220, 1, 0x04, 1, .i32, .ro, .c 0, .all⟩ /- RATE -/,
  ⟨0x2220, 1, 0x05, 1, .u32, .rws, .c 0x186a0, .rng 1000 200000⟩ /- SLEW_RATE -/,
  ⟨0x2220, 1, 0x06, 1, .u16, .rws, .c 0x10, .rng 2 1000⟩ /- SERVO_TC -/,
  ⟨0x2220, 1, 0x07, 1, .u16, .rws, .c 0xfa, .rng 10 10000⟩ /- LOCK_TH -/,
  ⟨0x2220, 1, 0x08, 1, .time64, .rw, .c 0, .all⟩ /- TIME_SET_VAL -/,
  ⟨0x2220, 1, 0x09, 1, .u8, .cmd, .c 0, .rng 1 1⟩ /- TIME_SET -/,
  ⟨0x2220, 1, 0x0A, 1, .u8, .cmd, .c 0, .rng 1 1⟩ /- RESTEP -/,
  ⟨0x2220, 1, 0x0B, 1, .u32, .ro, .c 0, .all⟩ /- TIME_FLAGS -/,
  ⟨0x2220, 1, 0x0C, 1, .u32, .ro, .c 0, .all⟩ /- STEP_COUNT -/,
  ⟨0x2220, 1, 0x0D, 1, .time64, .ro, .c 0, .all⟩ /- STEP_OLD -/]

/-- 11_clocks_and_time.md Table 11-4; 11_clocks_and_time.md Table 11-5; 11_clocks_and_time.md Table 11-6. -/
def objPage22_1 : List Obj := [
  ⟨0x2220, 1, 0x0E, 1, .time64, .ro, .c 0, .all⟩ /- STEP_NEW -/,
  ⟨0x2230, 1, 0x01, 1, .u8, .rws, .c 3, .mask 0xf⟩ /- PTP_PORTS -/,
  ⟨0x2230, 1, 0x02, 1, .u8, .rws, .c 0, .rng 0 127⟩ /- DOMAIN -/,
  ⟨0x2230, 1, 0x03, 1, .u8, .rws, .c 0, .rng 0 1⟩ /- CLOCK_MODE -/,
  ⟨0x2230, 1, 0x04, 1, .u8, .rws, .c 0x80, .all⟩ /- PRIORITY1 -/,
  ⟨0x2230, 1, 0x05, 1, .u8, .rws, .c 0x80, .all⟩ /- PRIORITY2 -/,
  ⟨0x2230, 1, 0x06, 1, .u16, .rws, .c 0, .mask 0xefff⟩ /- VLAN -/,
  ⟨0x2230, 1, 0x07, 1, .u8, .rws, .c 3, .rng 2 10⟩ /- ANN_TO -/,
  ⟨0x2230, 1, 0x08, 1, .i32, .ro, .c 0, .all⟩ /- OFFSET -/,
  ⟨0x2230, 1, 0x09, 1, .u32, .ro, .c 0, .all⟩ /- PATH_DELAY -/,
  ⟨0x2230, 1, 0x0A, 1, .u64, .ro, .c 0, .all⟩ /- GM_ID -/,
  ⟨0x2230, 1, 0x0B, 1, .u8, .ro, .c 0xff, .all⟩ /- SLAVE_PORT -/,
  ⟨0x2230, 1, 0x0C, 1, .u16, .ro, .c 0x3333, .all⟩ /- PORT_STATE -/,
  ⟨0x2230, 1, 0x0D, 1, .u64, .ro, .dev 5, .all⟩ /- CLOCK_ID -/,
  ⟨0x2231, 1, 0x01, 4, .u16, .rws, .c 0, .rng 0 2000⟩ /- RX_LAT -/,
  ⟨0x2232, 1, 0x01, 4, .u16, .rws, .c 0, .rng 0 2000⟩ /- TX_LAT -/,
  ⟨0x2233, 1, 0x01, 4, .u32, .ro, .c 0, .all⟩ /- SYNC_RX -/,
  ⟨0x2240, 16, 0x01, 1, .u32, .rws, .c 0x10000, .fields 0xefffff00 [(29, 2, 0, 2), (16, 8, 1, 255)]⟩ /- TA_CFG -/,
  ⟨0x2240, 16, 0x02, 1, .time64, .rw, .c 0, .all⟩ /- TA_START -/,
  ⟨0x2240, 16, 0x03, 1, .u16, .rw, .c 0, .all⟩ /- TA_START_FRAC -/,
  ⟨0x2240, 16, 0x04, 1, .u32, .rws, .c 0x4e20, .rng 1000 4000000000⟩ /- TA_PERIOD -/,
  ⟨0x2240, 16, 0x05, 1, .u16, .rws, .c 0, .all⟩ /- TA_PERIOD_FRAC -/,
  ⟨0x2240, 16, 0x06, 1, .u32, .rws, .c 0x640, .rng 0 1000000⟩ /- TA_ADV -/,
  ⟨0x2240, 16, 0x07, 1, .time64, .ro, .c 0, .all⟩ /- TA_NEXT -/,
  ⟨0x2240, 16, 0x08, 1, .u32, .ro, .c 0, .all⟩ /- TA_COUNT -/,
  ⟨0x2240, 16, 0x09, 1, .u32, .rw, .c 0, .w1c 0x3 0x2⟩ /- TA_STATUS -/]

/-- The rows of index page 0x22. -/
def objPage22 : List Obj := objPage22_0 ++ objPage22_1

/-- 12_memory_ecc_dma.md Table 12-5; 12_memory_ecc_dma.md Table 12-6. -/
def objPage23_0 : List Obj := [
  ⟨0x2300, 1, 0x01, 1, .u64, .ro, .dev 6, .all⟩ /- DRAM_INSTALLED -/,
  ⟨0x2300, 1, 0x02, 1, .u64, .ro, .special, .all⟩ /- DRAM_SIZE -/,
  ⟨0x2300, 1, 0x03, 1, .u32, .ro, .c 0, .all⟩ /- DRAM_STATUS -/,
  ⟨0x2300, 1, 0x04, 1, .u8, .ro, .c 0, .all⟩ /- INIT_PROG -/,
  ⟨0x2300, 1, 0x05, 1, .u8, .cmd, .c 0, .rng 1 1⟩ /- ECC_CLEAR -/,
  ⟨0x2300, 1, 0x06, 1, .u64, .ro, .dev 8, .all⟩ /- SRAM_FREE -/,
  ⟨0x2301, 1, 0x01, 6, .u32, .ro, .c 0, .all⟩ /- ECC_CORR -/,
  ⟨0x2302, 1, 0x01, 6, .u32, .ro, .c 0, .all⟩ /- ECC_UNCORR -/,
  ⟨0x2303, 1, 0x01, 6, .u64, .ro, .c 0xffffffffff, .all⟩ /- LAST_CE_ADDR -/,
  ⟨0x2304, 1, 0x01, 6, .u64, .ro, .c 0xffffffffff, .all⟩ /- LAST_UE_ADDR -/,
  ⟨0x2310, 1, 0x01, 1, .u64, .rw, .c 0x10000000, .all⟩ /- SCRUB_ADDR -/,
  ⟨0x2310, 1, 0x02, 1, .u64, .rw, .c 0, .all⟩ /- SCRUB_LEN -/,
  ⟨0x2310, 1, 0x03, 1, .u8, .cmd, .c 0, .rng 1 2⟩ /- SCRUB_CMD -/,
  ⟨0x2310, 1, 0x04, 1, .u64, .ro, .c 0, .all⟩ /- WORDS_CHECKED -/,
  ⟨0x2310, 1, 0x05, 1, .u32, .ro, .c 0, .all⟩ /- CORRECTED -/,
  ⟨0x2310, 1, 0x06, 1, .u32, .ro, .c 0, .all⟩ /- UNCORRECTABLE -/,
  ⟨0x2310, 1, 0x07, 1, .u64, .ro, .c 0xffffffffff, .all⟩ /- FIRST_UE -/,
  ⟨0x2310, 1, 0x08, 1, .u64, .ro, .c 0xffffffffff, .all⟩ /- LAST_UE -/,
  ⟨0x2310, 1, 0x09, 1, .u64, .ro, .c 0, .all⟩ /- SCRUB_NEXT -/,
  ⟨0x2320, 16, 0x01, 1, .u32, .rw, .c 0xa28800, .fields 0xf8fffc00 []⟩ /- DMA_CFG -/,
  ⟨0x2320, 16, 0x02, 1, .u64, .rw, .c 0, .all⟩ /- SRC -/,
  ⟨0x2320, 16, 0x03, 1, .u64, .rw, .c 0, .all⟩ /- DST -/,
  ⟨0x2320, 16, 0x04, 1, .u32, .rw, .c 1, .rng 1 4294967295⟩ /- COUNT -/,
  ⟨0x2320, 16, 0x05, 1, .u16, .rw, .c 0x64, .rng 1 65535⟩ /- TIMEOUT -/,
  ⟨0x2320, 16, 0x06, 1, .u8, .cmd, .c 0, .rng 1 1⟩ /- START -/,
  ⟨0x2320, 16, 0x07, 1, .u32, .rw, .c 0, .w1c 0x3ff 0x300⟩ /- DMA_STATUS -/,
  ⟨0x2320, 16, 0x08, 1, .u32, .ro, .c 0, .all⟩ /- REMAIN -/,
  ⟨0x2320, 16, 0x09, 1, .u64, .ro, .c 0, .all⟩ /- CUR_SRC -/,
  ⟨0x2320, 16, 0x0A, 1, .u64, .ro, .c 0, .all⟩ /- CUR_DST -/,
  ⟨0x2320, 16, 0x0B, 1, .u32, .ro, .c 0, .all⟩ /- DONE_COUNT -/]

/-- 12_memory_ecc_dma.md Table 12-6; 12_memory_ecc_dma.md Table 12-7. -/
def objPage23_1 : List Obj := [
  ⟨0x2330, 1, 0x01, 1, .u16, .rw, .c 0, .w1c 0xffff 0xffff⟩ /- DMA_DONE_EVT -/,
  ⟨0x2340, 1, 0x01, 1, .u64, .rw, .c 0, .all⟩ /- MEM_ADDR -/,
  ⟨0x2340, 1, 0x02, 1, .u16, .rw, .c 4, .rng 1 256⟩ /- MEM_LEN -/,
  ⟨0x2340, 1, 0x03, 1, .u8, .cmd, .c 0, .rng 1 1⟩ /- MEM_READ -/,
  ⟨0x2340, 1, 0x04, 1, .u8, .cmd, .c 0, .rng 1 1⟩ /- MEM_WRITE -/,
  ⟨0x2340, 1, 0x05, 1, .u8, .ro, .c 0, .all⟩ /- MEM_RESULT -/,
  ⟨0x2341, 1, 0x01, 64, .u32, .rw, .c 0, .all⟩ /- MEM_DATA -/]

/-- The rows of index page 0x23. -/
def objPage23 : List Obj := objPage23_0 ++ objPage23_1

/-- 08_analogue_acquisition.md Table 8-4; 08_analogue_acquisition.md Table 8-5; 08_analogue_acquisition.md Table 8-6. -/
def objPage24_0 : List Obj := [
  ⟨0x2400, 1, 0x01, 1, .bool, .rws, .c 1, .bool⟩ /- ADC_EN -/,
  ⟨0x2400, 1, 0x02, 1, .u32, .ro, .c 0, .all⟩ /- ADC_STATUS -/,
  ⟨0x2400, 1, 0x03, 1, .u16, .rws, .c 0x14, .rng 5 200⟩ /- CAL_TIME -/,
  ⟨0x2400, 1, 0x04, 1, .bool, .rws, .c 1, .bool⟩ /- CAL_EN -/,
  ⟨0x2400, 1, 0x05, 1, .u32, .cmd, .c 0, .mask 0x1ffff⟩ /- CAL_FORCE -/,
  ⟨0x2400, 1, 0x06, 1, .u32, .ro, .c 0, .all⟩ /- ROT_COUNT -/,
  ⟨0x2400, 1, 0x07, 1, .u8, .cmd, .c 0, .rng 1 1⟩ /- ADC_CLEAR -/,
  ⟨0x2401, 1, 0x01, 17, .u32, .ro, .c 0, .all⟩ /- SLICE_STATUS -/,
  ⟨0x2402, 1, 0x01, 17, .i16, .ro, .c 0, .all⟩ /- SLICE_OFFSET -/,
  ⟨0x2403, 1, 0x01, 17, .i32, .ro, .c 0, .all⟩ /- SLICE_GAIN -/,
  ⟨0x2404, 1, 0x01, 17, .time64, .ro, .c 0, .all⟩ /- SLICE_CAL_TIME -/,
  ⟨0x2408, 1, 0x01, 4, .u32, .rws, .c 4, .fields 0x700ff [(17, 2, 0, 2), (0, 8, 1, 255)]⟩ /- TRG_CFG -/,
  ⟨0x2409, 1, 0x01, 4, .u32, .rws, .c 0, .rng 0 10000000⟩ /- TRG_TO -/,
  ⟨0x240A, 1, 0x01, 4, .u32, .ro, .c 0, .all⟩ /- TRG_COUNT -/,
  ⟨0x240B, 1, 0x01, 1, .u8, .ro, .c 0, .all⟩ /- TRG_LOST -/,
  ⟨0x2410, 8, 0x01, 1, .u32, .rws, .c 0, .fields 0x30f7f [(8, 4, 0, 8), (0, 7, 0, 64)]⟩ /- SQ_CFG -/,
  ⟨0x2410, 8, 0x02, 1, .u8, .rws, .c 0, .special⟩ /- REG_TRIG -/,
  ⟨0x2410, 8, 0x03, 1, .u8, .rws, .c 0, .special⟩ /- INJ_TRIG -/,
  ⟨0x2410, 8, 0x04, 1, .u8, .cmd, .c 0, .rng 1 2⟩ /- SQ_SWTRIG -/,
  ⟨0x2410, 8, 0x05, 1, .u32, .rw, .c 0, .w1c 0x7e 0x1e⟩ /- SQ_STATUS -/,
  ⟨0x2410, 8, 0x06, 1, .u32, .ro, .c 0, .all⟩ /- REG_ROUNDS -/,
  ⟨0x2410, 8, 0x07, 1, .u32, .ro, .c 0, .all⟩ /- INJ_ROUNDS -/,
  ⟨0x2410, 8, 0x08, 1, .u32, .ro, .c 0, .all⟩ /- SQ_OVR_COUNT -/,
  ⟨0x2410, 8, 0x09, 1, .u32, .ro, .c 0, .all⟩ /- DELAY_MAX -/,
  ⟨0x2410, 8, 0x0A, 1, .u32, .ro, .c 0, .all⟩ /- DELAYED_COUNT -/,
  ⟨0x2420, 8, 0x01, 64, .u16, .rws, .c 0, .fields 0x803f []⟩ /- REG_ENTRY -/,
  ⟨0x2430, 8, 0x01, 8, .u16, .rws, .c 0, .fields 0x803f []⟩ /- INJ_ENTRY -/,
  ⟨0x2440, 1, 0x01, 64, .i16, .rws, .c 0x8000, .all⟩ /- WIN_LO -/,
  ⟨0x2441, 1, 0x01, 64, .i16, .rws, .c 0x7fff, .all⟩ /- WIN_HI -/,
  ⟨0x2442, 1, 0x01, 64, .u16, .rws, .c 0, .all⟩ /- RATE_MAX -/]

/-- 08_analogue_acquisition.md Table 8-6. -/
def objPage24_1 : List Obj := [
  ⟨0x2443, 1, 0x01, 64, .u32, .rws, .c 0, .rng 0 10000000⟩ /- STALE_TO -/,
  ⟨0x2444, 1, 0x01, 64, .u32, .rws, .c 0x10000000, .fields 0xffff0003 []⟩ /- OW_CFG -/,
  ⟨0x2445, 1, 0x01, 64, .u32, .ro, .c 0, .all⟩ /- RESULT -/,
  ⟨0x2446, 1, 0x01, 64, .time64, .ro, .c 0, .all⟩ /- SAMPLE_TIME -/,
  ⟨0x2447, 1, 0x01, 64, .u32, .ro, .c 0, .all⟩ /- FAULT_COUNT -/,
  ⟨0x2448, 1, 0x01, 64, .u16, .ro, .c 0, .all⟩ /- OW_DIFF -/,
  ⟨0x2450, 1, 0x01, 1, .u16, .rws, .c 0x14, .rng 1 1000⟩ /- OW_SETTLE -/,
  ⟨0x2450, 1, 0x02, 1, .u16, .rws, .c 0x3e8, .rng 10 60000⟩ /- OW_PERIOD -/,
  ⟨0x2450, 1, 0x03, 1, .u32, .ro, .c 0, .all⟩ /- OW_ABORTS -/,
  ⟨0x2450, 1, 0x04, 1, .u64, .ro, .c 0, .all⟩ /- OW_MISSED -/,
  ⟨0x2450, 1, 0x05, 1, .u64, .ro, .c 0, .all⟩ /- OPEN_MASK -/,
  ⟨0x2480, 1, 0x01, 6, .u32, .rws, .c 0x4504e20, .fields 0x7ffffff [(16, 9, 64, 320), (0, 16, 5000, 25000)]⟩ /- SDC_CFG -/,
  ⟨0x2481, 1, 0x01, 6, .u32, .ro, .c 0, .all⟩ /- SDC_FREQ -/,
  ⟨0x2482, 1, 0x01, 6, .u32, .ro, .c 0, .all⟩ /- SDC_STATUS -/,
  ⟨0x2490, 1, 0x01, 24, .u32, .rws, .c 0, .fields 0xc7 [(0, 3, 0, 5)]⟩ /- SDI_CFG -/,
  ⟨0x2491, 1, 0x01, 24, .u32, .ro, .c 0, .all⟩ /- SDI_STATUS -/,
  ⟨0x2492, 1, 0x01, 24, .u32, .ro, .c 0, .all⟩ /- SDI_STALE_COUNT -/,
  ⟨0x2493, 1, 0x01, 1, .u16, .rws, .c 0x40, .rng 16 4096⟩ /- STUCK_N -/]

/-- The rows of index page 0x24. -/
def objPage24 : List Obj := objPage24_0 ++ objPage24_1

/-- 09_filter_chain.md Table 9-4. -/
def objPage26 : List Obj := [
  ⟨0x2600, 1, 0x01, 1, .u64, .ro, .c 0, .all⟩ /- LANES_ACTIVE -/,
  ⟨0x2600, 1, 0x02, 1, .u8, .cmd, .c 0, .rng 1 1⟩ /- FILT_CLEAR -/,
  ⟨0x2601, 1, 0x01, 40, .u32, .rws, .special, .fields 0xfff1ff1f [(20, 3, 1, 5), (8, 9, 4, 256)]⟩ /- LANE_CFG -/,
  ⟨0x2602, 1, 0x01, 40, .u32, .rw, .c 0, .w1c 0xff0000f8 0x38⟩ /- LANE_STATUS -/,
  ⟨0x2603, 1, 0x01, 40, .u32, .ro, .c 0xffffffff, .all⟩ /- DELAY -/,
  ⟨0x2604, 1, 0x01, 40, .u32, .ro, .c 0x80000000, .all⟩ /- OUTPUT -/,
  ⟨0x2605, 1, 0x01, 40, .time64, .ro, .c 0, .all⟩ /- OUT_TIME -/,
  ⟨0x2606, 1, 0x01, 40, .u32, .ro, .c 0, .all⟩ /- CIC_GAIN -/,
  ⟨0x2607, 1, 0x01, 40, .u32, .ro, .c 0, .all⟩ /- SAT_COUNT -/,
  ⟨0x2608, 1, 0x01, 40, .u32, .ro, .c 0, .all⟩ /- LANE_OVR_COUNT -/,
  ⟨0x2609, 1, 0x01, 40, .u32, .ro, .c 0, .all⟩ /- RESTART_COUNT -/,
  ⟨0x2610, 1, 0x01, 40, .u32, .ro, .c 3221225473, .all⟩ /- BANK_A -/,
  ⟨0x2611, 1, 0x01, 40, .u32, .ro, .c 0, .all⟩ /- BANK_B -/,
  ⟨0x2612, 1, 0x01, 40, .u8, .cmd, .c 0, .rng 0 1⟩ /- BANK_SEL -/,
  ⟨0x2613, 1, 0x01, 40, .u16, .rws, .c 0x40, .rng 1 1024⟩ /- FADE_LEN -/,
  ⟨0x2614, 1, 0x01, 40, .u16, .ro, .c 0, .all⟩ /- FADE_POS -/,
  ⟨0x2620, 1, 0x01, 1, .u8, .rw, .c 0xc, .rng 0 39⟩ /- COEF_LANE -/,
  ⟨0x2620, 1, 0x02, 1, .u8, .rw, .c 0, .rng 0 1⟩ /- COEF_BANK -/,
  ⟨0x2620, 1, 0x03, 1, .u16, .rw, .c 0, .mult 0 448 64⟩ /- COEF_ADDR -/,
  ⟨0x2620, 1, 0x04, 1, .u8, .cmd, .c 0, .rng 1 1⟩ /- COEF_WRITE -/,
  ⟨0x2620, 1, 0x05, 1, .u16, .rw, .c 1, .rng 1 512⟩ /- COEF_TAPS -/,
  ⟨0x2620, 1, 0x06, 1, .u16, .rw, .c 0, .rng 0 8176⟩ /- COEF_DELAY -/,
  ⟨0x2620, 1, 0x07, 1, .u32, .rw, .c 0, .all⟩ /- COEF_CRC -/,
  ⟨0x2620, 1, 0x08, 1, .u8, .cmd, .c 0, .rng 1 1⟩ /- COEF_COMMIT -/,
  ⟨0x2620, 1, 0x09, 1, .u8, .ro, .c 0, .all⟩ /- COEF_STATUS -/,
  ⟨0x2621, 1, 0x01, 32, .u32, .rw, .c 0, .all⟩ /- COEF_BLOCK -/]

/-- 10_disturbance_recorder.md Table 10-6; 10_disturbance_recorder.md Table 10-7. -/
def objPage27_0 : List Obj := [
  ⟨0x2710, 4, 0x01, 1, .u32, .rws, .c 0x10001, .fields 0xf01f003f [(16, 5, 1, 16), (0, 6, 1, 32)]⟩ /- RC_CFG -/,
  ⟨0x2710, 4, 0x02, 1, .u64, .rws, .byIdx 0x100000000 0x8000000, .mult 0 18446744073709551615 4096⟩ /- RC_BASE -/,
  ⟨0x2710, 4, 0x03, 1, .u32, .rws, .c 0x186a0, .mult 200 1000000000 5⟩ /- SPER -/,
  ⟨0x2710, 4, 0x04, 4, .u16, .rws, .lst [1, 100, 1000, 1000], .rng 1 65535⟩ /- D_RED -/,
  ⟨0x2710, 4, 0x08, 4, .u32, .rws, .c 0, .all⟩ /- ROWS -/,
  ⟨0x2710, 4, 0x0C, 4, .u32, .rws, .c 0, .all⟩ /- POST -/,
  ⟨0x2710, 4, 0x10, 1, .u32, .rws, .c 0, .fields 0xff000000 [(29, 2, 0, 2)]⟩ /- TRIG -/,
  ⟨0x2710, 4, 0x11, 1, .i16, .rws, .c 0, .all⟩ /- LEVEL -/,
  ⟨0x2710, 4, 0x12, 1, .u16, .rws, .c 0, .rng 0 32767⟩ /- HYST -/,
  ⟨0x2710, 4, 0x13, 1, .u32, .rws, .c 0, .fields 0xff000000 [(29, 2, 0, 2)]⟩ /- TRIG -/,
  ⟨0x2710, 4, 0x14, 1, .i16, .rws, .c 0, .all⟩ /- LEVEL -/,
  ⟨0x2710, 4, 0x15, 1, .u16, .rws, .c 0, .rng 0 32767⟩ /- HYST -/,
  ⟨0x2710, 4, 0x16, 1, .u8, .rws, .c 0, .mask 0xf⟩ /- TRG_IN -/,
  ⟨0x2710, 4, 0x17, 1, .u8, .rws, .c 0xff, .orVal 0 3 255⟩ /- TRG_OUT -/,
  ⟨0x2710, 4, 0x18, 1, .u8, .cmd, .c 0, .rng 1 1⟩ /- RC_SWTRIG -/,
  ⟨0x2710, 4, 0x19, 1, .u16, .cmd, .c 0, .all⟩ /- RELEASE -/,
  ⟨0x2710, 4, 0x1A, 1, .u16, .rws, .c 0, .all⟩ /- PROTECT -/,
  ⟨0x2710, 4, 0x1B, 1, .u8, .cmd, .c 0, .rng 1 1⟩ /- ARM -/,
  ⟨0x2720, 4, 0x01, 32, .u16, .rws, .c 0, .special⟩ /- CH_SRC -/,
  ⟨0x2730, 4, 0x01, 1, .u32, .rw, .c 0, .w1c 0x3ff 0xf0⟩ /- RC_STATUS -/,
  ⟨0x2730, 4, 0x02, 1, .u32, .ro, .c 0, .all⟩ /- SLOT_STATE -/,
  ⟨0x2730, 4, 0x03, 1, .u8, .ro, .c 0xff, .all⟩ /- CUR_SLOT -/,
  ⟨0x2730, 4, 0x04, 1, .u32, .ro, .c 0, .all⟩ /- PRE_AVAIL -/,
  ⟨0x2730, 4, 0x05, 1, .u32, .ro, .c 0, .all⟩ /- TRIG_COUNT -/,
  ⟨0x2730, 4, 0x06, 1, .u32, .ro, .c 0, .all⟩ /- TRIG_IGNORED -/,
  ⟨0x2730, 4, 0x07, 1, .u32, .ro, .c 0, .all⟩ /- GAP_COUNT -/,
  ⟨0x2730, 4, 0x08, 1, .u32, .ro, .c 0, .all⟩ /- RECORDS -/,
  ⟨0x2730, 4, 0x09, 1, .time64, .ro, .c 0, .all⟩ /- LAST_TRIG -/,
  ⟨0x2730, 4, 0x0A, 1, .u16, .ro, .c 0, .all⟩ /- LAST_FRAC -/,
  ⟨0x2730, 4, 0x0B, 1, .u8, .ro, .c 0, .all⟩ /- LAST_SRC -/]

/-- 10_disturbance_recorder.md Table 10-8. -/
def objPage27_1 : List Obj := [
  ⟨0x2740, 1, 0x01, 1, .u32, .rws, .c 0, .fields 0x3 []⟩ /- TB_CFG -/,
  ⟨0x2740, 1, 0x02, 4, .u16, .rws, .c 0, .all⟩ /- TRG_DELAY -/,
  ⟨0x2740, 1, 0x06, 1, .u8, .cmd, .c 0, .mask 0xf⟩ /- TB_CAL -/,
  ⟨0x2740, 1, 0x07, 1, .u32, .ro, .c 0, .all⟩ /- TB_STATUS -/,
  ⟨0x2740, 1, 0x08, 1, .i32, .ro, .c 0, .all⟩ /- TB_OFFSET -/,
  ⟨0x2740, 1, 0x09, 4, .u32, .ro, .c 0, .all⟩ /- TRG_EVENTS -/,
  ⟨0x2740, 1, 0x0D, 1, .u32, .ro, .c 0, .all⟩ /- TRG_DISCARD -/,
  ⟨0x2750, 1, 0x01, 1, .u8, .rw, .c 0, .rng 0 3⟩ /- IX_INST -/,
  ⟨0x2750, 1, 0x02, 1, .u8, .rw, .c 0, .rng 0 15⟩ /- IX_SLOT -/,
  ⟨0x2750, 1, 0x03, 1, .u8, .cmd, .c 0, .rng 1 1⟩ /- IX_READ -/,
  ⟨0x2751, 1, 0x01, 32, .u32, .ro, .c 0, .all⟩ /- IX_DATA -/,
  ⟨0x2760, 1, 0x01, 1, .u8, .rw, .c 0, .rng 0 3⟩ /- RD_INST -/,
  ⟨0x2760, 1, 0x02, 1, .u8, .rw, .c 0, .rng 0 15⟩ /- RD_SLOT -/,
  ⟨0x2760, 1, 0x03, 1, .u8, .rw, .c 0, .rng 0 3⟩ /- RD_REGION -/,
  ⟨0x2760, 1, 0x04, 1, .u32, .rw, .c 0, .mult 0 4294967295 8⟩ /- RD_OFS -/,
  ⟨0x2760, 1, 0x05, 1, .u8, .cmd, .c 0, .rng 1 1⟩ /- RD_READ -/,
  ⟨0x2760, 1, 0x06, 1, .u8, .ro, .c 0, .all⟩ /- RD_STATUS -/,
  ⟨0x2760, 1, 0x07, 1, .u16, .ro, .c 0, .all⟩ /- RD_LEN -/,
  ⟨0x2761, 1, 0x01, 64, .u32, .ro, .c 0, .all⟩ /- RD_DATA -/]

/-- The rows of index page 0x27. -/
def objPage27 : List Obj := objPage27_0 ++ objPage27_1

/-- 06_pwm_generator.md Table 6-7; 06_pwm_generator.md Table 6-8. -/
def objPage28_0 : List Obj := [
  ⟨0x2800, 1, 0x01, 1, .u32, .rw, .c 0x80, .w1c 0xff 0xf⟩ /- PWM_STATUS -/,
  ⟨0x2800, 1, 0x02, 1, .u16, .const, .c 0x271, .all⟩ /- TICK -/,
  ⟨0x2800, 1, 0x03, 1, .u32, .ro, .c 0, .all⟩ /- SHOOT_COUNT -/,
  ⟨0x2800, 1, 0x04, 1, .u32, .ro, .c 0, .all⟩ /- CLAMP_COUNT -/,
  ⟨0x2800, 1, 0x05, 1, .u32, .ro, .c 0, .all⟩ /- DROP_COUNT -/,
  ⟨0x2800, 1, 0x06, 1, .u32, .ro, .c 0, .all⟩ /- CARRY_LOST -/,
  ⟨0x2800, 1, 0x07, 1, .u8, .cmd, .c 0, .rng 1 1⟩ /- PWM_CLEAR -/,
  ⟨0x2801, 1, 0x01, 1, .u16, .cmd, .c 0, .all⟩ /- CG_START -/,
  ⟨0x2801, 1, 0x02, 1, .time64, .rw, .c 0, .all⟩ /- START_AT -/,
  ⟨0x2801, 1, 0x03, 1, .u16, .cmd, .c 0, .all⟩ /- CG_STOP -/,
  ⟨0x2801, 1, 0x04, 1, .u16, .ro, .c 0, .all⟩ /- CG_RUNNING -/,
  ⟨0x2804, 1, 0x01, 16, .u32, .rws, .lst [0, 0, 1, 1, 2, 2, 3, 3, 4, 4, 5, 5, 6, 6, 7, 7], .fields 0x307 []⟩ /- CG_CFG -/,
  ⟨0x2805, 1, 0x01, 16, .u32, .rws, .c 0, .rng 0 268435455⟩ /- CG_EVT -/,
  ⟨0x2806, 1, 0x01, 16, .u32, .ro, .c 0x640, .all⟩ /- CG_PER_ACT -/,
  ⟨0x2807, 1, 0x01, 16, .u32, .ro, .c 0, .all⟩ /- CG_PH_ACT -/,
  ⟨0x2808, 1, 0x01, 16, .u32, .ro, .c 0, .all⟩ /- CG_COUNT -/,
  ⟨0x280A, 1, 0x01, 8, .u32, .rws, .lst [0, 2, 4, 6, 8, 10, 12, 14], .fields 0x10f []⟩ /- LG_CFG -/,
  ⟨0x280B, 1, 0x01, 8, .u32, .rw, .c 0, .w1c 0xff 0xfc⟩ /- LG_STATUS -/,
  ⟨0x280C, 1, 0x01, 8, .u32, .ro, .c 0, .all⟩ /- LG_TRANSFERS -/,
  ⟨0x280D, 1, 0x01, 1, .u16, .rw, .c 0x200, .special⟩ /- SW_PORT -/,
  ⟨0x280D, 1, 0x02, 1, .u32, .rw, .c 0, .all⟩ /- SW_VALUE -/,
  ⟨0x280D, 1, 0x03, 1, .u8, .cmd, .c 0, .rng 1 1⟩ /- SW_WRITE -/,
  ⟨0x280D, 1, 0x04, 1, .u8, .cmd, .c 0, .all⟩ /- SW_LOAD_ALL -/,
  ⟨0x2810, 2, 0x01, 128, .u32, .rws, .c 0, .fields 0xffffffff [(30, 2, 0, 2)]⟩ /- CH_MINPULSE -/,
  ⟨0x2812, 2, 0x01, 128, .u32, .rws, .special, .fields 0x71f []⟩ /- CH_CFG -/,
  ⟨0x2814, 2, 0x01, 128, .u32, .rw, .c 0x80, .w1c 0x1ff 0x138⟩ /- CH_STATUS -/,
  ⟨0x2818, 1, 0x01, 128, .u32, .rws, .c 0, .fields 0x8003ffff []⟩ /- PAIR_DT -/,
  ⟨0x2819, 1, 0x01, 128, .u32, .ro, .c 0, .all⟩ /- PAIR_SHOOT -/,
  ⟨0x2820, 2, 0x01, 128, .u32, .rw, .c 0, .fields 0xffffc03f [(0, 6, 0, 39)]⟩ /- CH_CBC -/,
  ⟨0x2824, 1, 0x01, 8, .u32, .rw, .c 0, .all⟩ /- FORCE_OFF -/]

/-- 06_pwm_generator.md Table 6-8. -/
def objPage28_1 : List Obj := [
  ⟨0x2840, 1, 0x01, 32, .u32, .rws, .c 0x14, .fields 0x7ffff [(0, 16, 1, 65535)]⟩ /- TRIP_CFG -/,
  ⟨0x2841, 1, 0x01, 1, .u16, .rws, .c 0xa, .rng 1 60000⟩ /- TRETRY -/,
  ⟨0x2841, 1, 0x02, 1, .u8, .rws, .c 3, .rng 0 15⟩ /- NTRY -/,
  ⟨0x2841, 1, 0x03, 1, .u16, .rws, .c 0xa, .rng 1 3600⟩ /- TWIN -/,
  ⟨0x2841, 1, 0x04, 1, .u32, .cmd, .c 0, .all⟩ /- TRIP_CLEAR -/,
  ⟨0x2841, 1, 0x05, 1, .u32, .ro, .c 0, .all⟩ /- TRIP_ACTIVE -/,
  ⟨0x2841, 1, 0x06, 1, .u32, .ro, .c 0, .all⟩ /- TRIP_FAULT -/,
  ⟨0x2841, 1, 0x07, 1, .u32, .ro, .c 0, .all⟩ /- TRIP_LATCHED -/,
  ⟨0x2842, 1, 0x01, 32, .u32, .ro, .c 0, .all⟩ /- TRIP_COUNT -/,
  ⟨0x2843, 1, 0x01, 32, .time64, .ro, .c 0, .all⟩ /- TRIP_TIME -/,
  ⟨0x2844, 1, 0x01, 32, .u8, .ro, .c 0, .all⟩ /- TRIP_TRIES -/,
  ⟨0x2850, 32, 0x01, 8, .u32, .rws, .c 0, .all⟩ /- TRIP_MAP -/]

/-- The rows of index page 0x28. -/
def objPage28 : List Obj := objPage28_0 ++ objPage28_1

/-- 07_gate_links_and_drivers.md Table 7-12; 07_gate_links_and_drivers.md Table 7-15. -/
def objPage2A_0 : List Obj := [
  ⟨0x2A00, 1, 0x01, 1, .u16, .rws, .c 0x258, .rng 400 2000⟩ /- LEAD -/,
  ⟨0x2A00, 1, 0x02, 1, .u16, .rws, .c 0xbb8, .rng 2000 20000⟩ /- UPLINK_TO -/,
  ⟨0x2A00, 1, 0x03, 1, .u64, .ro, .c 0, .all⟩ /- LANES_LIVE -/,
  ⟨0x2A00, 1, 0x04, 1, .u64, .ro, .c 0, .all⟩ /- LANE_FAULT -/,
  ⟨0x2A00, 1, 0x05, 1, .u64, .ro, .c 0, .all⟩ /- LANE_LATCHED -/,
  ⟨0x2A00, 1, 0x06, 1, .u64, .cmd, .c 0, .all⟩ /- GL_CLEAR -/,
  ⟨0x2A00, 1, 0x07, 1, .u64, .cmd, .c 0, .all⟩ /- TRAIN_RESET -/,
  ⟨0x2A00, 1, 0x08, 1, .u16, .ro, .c 0, .all⟩ /- BATON_TX -/,
  ⟨0x2A01, 1, 0x01, 64, .u32, .rws, .c 0x1400e, .fields 0x3fff0f [(12, 8, 1, 255)]⟩ /- GL_CFG -/,
  ⟨0x2A02, 1, 0x01, 64, .u32, .rw, .c 0, .w1c 0xffffff00 0x3800⟩ /- GL_STATUS -/,
  ⟨0x2A03, 1, 0x01, 64, .u32, .ro, .c 0, .all⟩ /- LINK_DELAY -/,
  ⟨0x2A04, 1, 0x01, 64, .u32, .ro, .c 0, .all⟩ /- CRC_UP -/,
  ⟨0x2A05, 1, 0x01, 64, .u32, .ro, .c 0, .all⟩ /- LOST_DN -/,
  ⟨0x2A06, 1, 0x01, 64, .u32, .ro, .c 0, .all⟩ /- LATE_TX -/,
  ⟨0x2A07, 1, 0x01, 64, .u8, .ro, .c 0, .all⟩ /- FAULT_TRIES -/,
  ⟨0x2A08, 1, 0x01, 64, .u16, .ro, .c 0, .all⟩ /- UP_BATON -/,
  ⟨0x2A09, 1, 0x01, 64, .u32, .ro, .c 0, .all⟩ /- GU_IDENT -/,
  ⟨0x2A10, 1, 0x01, 1, .u8, .rw, .c 0, .rng 0 63⟩ /- GU_LANE -/,
  ⟨0x2A10, 1, 0x02, 1, .u8, .rw, .c 0, .rng 0 255⟩ /- GU_REG -/,
  ⟨0x2A10, 1, 0x03, 1, .u32, .rw, .c 0, .all⟩ /- GU_VALUE -/,
  ⟨0x2A10, 1, 0x04, 1, .u8, .cmd, .c 0, .rng 1 1⟩ /- GU_WRITE -/,
  ⟨0x2A10, 1, 0x05, 1, .u8, .cmd, .c 0, .rng 1 1⟩ /- GU_READ -/,
  ⟨0x2A10, 1, 0x06, 1, .u8, .ro, .c 0, .all⟩ /- GU_RESULT -/,
  ⟨0x2A20, 4, 0x01, 1, .u16, .rws, .c 0x32, .rng 5 600⟩ /- DVDT_ON_TGT -/,
  ⟨0x2A20, 4, 0x02, 1, .u16, .rws, .c 0x32, .rng 5 600⟩ /- DVDT_OFF_TGT -/,
  ⟨0x2A20, 4, 0x03, 1, .u8, .rws, .c 0xa, .rng 1 50⟩ /- TP_BAND -/,
  ⟨0x2A20, 4, 0x04, 1, .u16, .rws, .c 0x190, .rng 10 1275⟩ /- OVS_LIM -/,
  ⟨0x2A20, 4, 0x05, 1, .u8, .rws, .c 2, .rng 0 15⟩ /- CODE_MIN -/,
  ⟨0x2A20, 4, 0x06, 1, .u8, .rws, .c 0xd, .rng 0 15⟩ /- CODE_MAX -/,
  ⟨0x2A20, 4, 0x07, 1, .u8, .rws, .c 8, .rng 0 15⟩ /- CODE_ON_SET -/]

/-- 07_gate_links_and_drivers.md Table 7-15. -/
def objPage2A_1 : List Obj := [
  ⟨0x2A20, 4, 0x08, 1, .u8, .rws, .c 8, .rng 0 15⟩ /- CODE_OFF_SET -/,
  ⟨0x2A20, 4, 0x09, 1, .u16, .rws, .c 0x40, .rng 8 4096⟩ /- TRAIN_N -/,
  ⟨0x2A20, 4, 0x0A, 1, .u16, .rws, .c 0xc8, .rng 0 5000⟩ /- IMIN -/,
  ⟨0x2A20, 4, 0x0B, 1, .u16, .rws, .c 0x320, .rng 500 1000⟩ /- SCALE_MIN -/,
  ⟨0x2A40, 1, 0x01, 64, .u32, .ro, .c 0, .all⟩ /- CODES -/,
  ⟨0x2A41, 1, 0x01, 64, .u16, .ro, .c 0x3e8, .all⟩ /- TGT_SCALE -/,
  ⟨0x2A42, 1, 0x01, 64, .u32, .ro, .c 0, .all⟩ /- TRAIN_STEPS -/]

/-- The rows of index page 0x2A. -/
def objPage2A : List Obj := objPage2A_0 ++ objPage2A_1

/-- 07_gate_links_and_drivers.md Table 7-16. -/
def objPage2B : List Obj := [
  ⟨0x2B00, 1, 0x01, 8, .u32, .rws, .c 0x10, .fields 0x3ff7 [(1, 2, 0, 2)]⟩ /- LD_CFG -/,
  ⟨0x2B01, 1, 0x01, 8, .u16, .rws, .c 0x7777, .all⟩ /- LD_DRIVE -/,
  ⟨0x2B02, 1, 0x01, 8, .u32, .rws, .c 0xa00, .fields 0x3ffff []⟩ /- LD_DT -/,
  ⟨0x2B03, 1, 0x01, 8, .u8, .rws, .c 0x19, .rng 10 50⟩ /- REF_TH -/,
  ⟨0x2B04, 1, 0x01, 8, .u16, .rws, .c 0x1f4, .rng 100 4000⟩ /- TREF -/,
  ⟨0x2B05, 1, 0x01, 8, .u16, .rws, .c 0x64, .rng 10 4000⟩ /- RPER -/,
  ⟨0x2B06, 1, 0x01, 8, .u32, .rw, .c 0, .w1c 0x1ff 0x4⟩ /- LD_STATUS -/,
  ⟨0x2B07, 1, 0x01, 8, .u16, .ro, .c 0, .all⟩ /- VBST -/,
  ⟨0x2B08, 1, 0x01, 8, .u32, .ro, .c 0, .all⟩ /- REFRESH_COUNT -/,
  ⟨0x2B10, 1, 0x01, 4, .u32, .rws, .c 0x7700, .fields 0xff07 []⟩ /- SD_CFG -/,
  ⟨0x2B11, 1, 0x01, 4, .u32, .ro, .c 0, .all⟩ /- SD_STATUS -/,
  ⟨0x2B20, 1, 0x01, 1, .u16, .ro, .c 0, .all⟩ /- VDRV -/,
  ⟨0x2B20, 1, 0x02, 1, .u16, .cmd, .c 0, .mask 0xfff⟩ /- DRV_CLEAR -/,
  ⟨0x2B20, 1, 0x03, 1, .u16, .ro, .c 0, .all⟩ /- DRV_LATCHED -/]

/-- 05_octyr_engines.md Table 5-14. -/
def objPage2C_0 : List Obj := [
  ⟨0x2C00, 1, 0x01, 1, .bool, .rws, .c 1, .bool⟩ /- LAW_BUILTIN -/,
  ⟨0x2C00, 1, 0x02, 1, .u16, .const, .c 0x683, .all⟩ /- STEP_SLOW -/,
  ⟨0x2C00, 1, 0x03, 1, .u16, .ro, .c 0, .all⟩ /- STEP_MEAS -/,
  ⟨0x2C00, 1, 0x04, 1, .u16, .ro, .c 0, .all⟩ /- RUNNING -/,
  ⟨0x2C00, 1, 0x05, 1, .u16, .ro, .c 0, .all⟩ /- FAULTED -/,
  ⟨0x2C00, 1, 0x06, 1, .u16, .ro, .c 0, .all⟩ /- MISSED -/,
  ⟨0x2C00, 1, 0x07, 1, .u16, .rws, .c 0x32, .rng 0 10000⟩ /- SLACK_WARN -/,
  ⟨0x2C10, 16, 0x01, 1, .bool, .rws, .c 0, .bool⟩ /- ENABLE -/,
  ⟨0x2C10, 16, 0x02, 1, .u8, .rws, .c 0xff, .orVal 0 15 255⟩ /- ALARM -/,
  ⟨0x2C10, 16, 0x03, 1, .u16, .rws, .c 0, .rng 0 8191⟩ /- ENTRY -/,
  ⟨0x2C10, 16, 0x04, 1, .u32, .rws, .c 0x3e8, .mult 20 1000000000 5⟩ /- DEADLINE_OFS -/,
  ⟨0x2C10, 16, 0x05, 1, .bool, .rws, .c 1, .bool⟩ /- AUTO_LOAD -/,
  ⟨0x2C10, 16, 0x06, 1, .u8, .cmd, .c 0, .rng 1 1⟩ /- LOAD -/,
  ⟨0x2C20, 16, 0x01, 1, .u32, .rw, .c 0, .w1c 0xfff3 0x740⟩ /- ENG_STATUS -/,
  ⟨0x2C20, 16, 0x02, 1, .u32, .ro, .c 0, .all⟩ /- MISS_COUNT -/,
  ⟨0x2C20, 16, 0x03, 1, .u32, .ro, .c 0, .all⟩ /- OVERRUN_COUNT -/,
  ⟨0x2C20, 16, 0x04, 1, .u32, .ro, .c 0, .all⟩ /- LATE_WRITES -/,
  ⟨0x2C20, 16, 0x05, 1, .u32, .ro, .c 0, .all⟩ /- CYCLES -/,
  ⟨0x2C20, 16, 0x06, 1, .u8, .ro, .c 0, .all⟩ /- FAULT_CODE -/,
  ⟨0x2C20, 16, 0x07, 1, .u16, .ro, .c 0, .all⟩ /- FAULT_PC -/,
  ⟨0x2C20, 16, 0x08, 1, .time64, .ro, .c 0, .all⟩ /- FAULT_TIME -/,
  ⟨0x2C20, 16, 0x09, 1, .i32, .ro, .c 0, .all⟩ /- SLACK_LAST -/,
  ⟨0x2C20, 16, 0x0A, 1, .i32, .ro, .c 0, .all⟩ /- SLACK_MIN -/,
  ⟨0x2C20, 16, 0x0B, 1, .u32, .ro, .c 0, .all⟩ /- ENG_ECC_CORR -/,
  ⟨0x2C20, 16, 0x0C, 1, .u8, .cmd, .c 0, .rng 1 1⟩ /- ENG_CLEAR -/,
  ⟨0x2C30, 1, 0x01, 1, .u8, .rw, .c 8, .rng 0 15⟩ /- IMG_ENGINE -/,
  ⟨0x2C30, 1, 0x02, 1, .u8, .rw, .c 0, .rng 0 1⟩ /- IMG_SPACE -/,
  ⟨0x2C30, 1, 0x03, 1, .u16, .rw, .c 0, .all⟩ /- IMG_ADDR -/,
  ⟨0x2C30, 1, 0x04, 1, .u8, .cmd, .c 0, .rng 1 1⟩ /- IMG_WRITE -/,
  ⟨0x2C30, 1, 0x05, 1, .u32, .rw, .c 0, .all⟩ /- IMG_CRC -/]

/-- 05_octyr_engines.md Table 5-14. -/
def objPage2C_1 : List Obj := [
  ⟨0x2C30, 1, 0x06, 1, .u8, .cmd, .c 0, .rng 1 1⟩ /- IMG_COMMIT -/,
  ⟨0x2C30, 1, 0x07, 1, .u8, .ro, .c 0, .all⟩ /- IMG_STATUS -/,
  ⟨0x2C31, 1, 0x01, 64, .u32, .rw, .c 0, .all⟩ /- IMG_BLOCK -/,
  ⟨0x2C32, 1, 0x01, 16, .u32, .ro, .c 0, .all⟩ /- IMG_INFO -/]

/-- The rows of index page 0x2C. -/
def objPage2C : List Obj := objPage2C_0 ++ objPage2C_1

/-- 05_octyr_engines.md Table 5-14. -/
def objPage2D : List Obj := [
  ⟨0x2D00, 16, 0x01, 8, .u32, .ro, .c 0, .all⟩ /- MB_OUT -/,
  ⟨0x2D00, 16, 0x09, 6, .u32, .rw, .c 0, .all⟩ /- MB_IN -/,
  ⟨0x2D00, 16, 0x0F, 1, .u32, .ro, .c 0, .all⟩ /- MB_OUT_SEQ -/,
  ⟨0x2D00, 16, 0x10, 1, .u32, .ro, .c 0, .all⟩ /- MB_IN_SEQ -/]

/-- 14_duplex_pair.md Table 14-7. -/
def objPage2E : List Obj := [
  ⟨0x2E00, 1, 0x01, 1, .bool, .rws, .c 0, .bool⟩ /- PAIR_EN -/,
  ⟨0x2E00, 1, 0x02, 1, .u32, .ro, .c 0, .all⟩ /- PAIR_STATUS -/,
  ⟨0x2E00, 1, 0x03, 1, .u16, .ro, .c 0, .all⟩ /- BATON_HELD -/,
  ⟨0x2E00, 1, 0x04, 1, .u16, .ro, .c 0, .all⟩ /- BATON_KNOWN -/,
  ⟨0x2E00, 1, 0x05, 1, .u8, .rws, .c 3, .rng 2 16⟩ /- HB_MISS_N -/,
  ⟨0x2E00, 1, 0x06, 1, .u8, .rws, .c 0xf, .mask 0xf⟩ /- FAILOVER_MASK -/,
  ⟨0x2E00, 1, 0x07, 1, .bool, .rws, .c 0, .bool⟩ /- SOLO_ALLOW -/,
  ⟨0x2E00, 1, 0x08, 1, .u16, .rws, .c 0x7d0, .rng 500 60000⟩ /- PARTNER_WAIT -/,
  ⟨0x2E00, 1, 0x09, 1, .u16, .rws, .c 0xa, .rng 1 3600⟩ /- SOLO_DELAY -/,
  ⟨0x2E00, 1, 0x0A, 1, .u16, .rws, .c 0x1388, .rng 1000 60000⟩ /- PAIR_JOIN_T -/,
  ⟨0x2E00, 1, 0x0B, 1, .u8, .rws, .c 0xff, .orVal 0 15 255⟩ /- HB_ALARM -/,
  ⟨0x2E00, 1, 0x0C, 1, .u8, .rws, .c 5, .rng 1 255⟩ /- VEC_DIV -/,
  ⟨0x2E00, 1, 0x0D, 1, .u8, .cmd, .c 0, .rng 1 1⟩ /- SWITCHOVER -/,
  ⟨0x2E00, 1, 0x0E, 1, .u8, .cmd, .c 0, .rng 1 1⟩ /- BATON_RENUMBER -/,
  ⟨0x2E00, 1, 0x0F, 1, .u32, .ro, .c 0, .all⟩ /- TAKEOVER_COUNT -/,
  ⟨0x2E00, 1, 0x10, 1, .time64, .ro, .c 0, .all⟩ /- LAST_TAKEOVER -/,
  ⟨0x2E00, 1, 0x11, 1, .u8, .ro, .c 0, .all⟩ /- TAKEOVER_CAUSE -/,
  ⟨0x2E00, 1, 0x12, 1, .i32, .ro, .c 0, .all⟩ /- PAIR_TIME_ERR -/,
  ⟨0x2E00, 1, 0x13, 1, .u32, .ro, .c 0, .all⟩ /- HB_MISSED -/,
  ⟨0x2E00, 1, 0x14, 1, .u32, .ro, .c 0, .all⟩ /- RESYNC_COUNT -/,
  ⟨0x2E01, 1, 0x01, 2, .u32, .ro, .c 0, .all⟩ /- BL_DOWN -/,
  ⟨0x2E02, 1, 0x01, 2, .u32, .ro, .c 0, .all⟩ /- BL_CRC_ERR -/]

/-- 13_object_dictionary.md Table 13-10; 16_startup_and_persistence.md Table 16-5. -/
def objPage2F_0 : List Obj := [
  ⟨0x2F00, 1, 0x01, 8, .u8, .rws, .lst [2, 2, 0, 0, 1, 0, 0, 0], .rng 0 3⟩ /- PORT_LEVEL -/,
  ⟨0x2F00, 1, 0x09, 2, .u8, .const, .lst [3, 2], .all⟩ /- PORT_LEVEL -/,
  ⟨0x2F02, 1, 0x01, 10, .u32, .ro, .c 0, .all⟩ /- RX_FRAMES -/,
  ⟨0x2F03, 1, 0x01, 10, .u32, .ro, .c 0, .all⟩ /- RX_DROPPED -/,
  ⟨0x2F04, 1, 0x01, 10, .u32, .ro, .c 0, .all⟩ /- REFUSED -/,
  ⟨0x2F10, 1, 0x01, 1, .u16, .rw, .c 0x1000, .all⟩ /- Q_INDEX -/,
  ⟨0x2F10, 1, 0x02, 1, .u8, .rw, .c 0, .all⟩ /- Q_SUB -/,
  ⟨0x2F10, 1, 0x03, 1, .u32, .ro, .c 0, .all⟩ /- ACCESS_QUERY -/,
  ⟨0x2F20, 1, 0x01, 1, .u32, .ro, .c 0, .all⟩ /- J_STATUS -/,
  ⟨0x2F20, 1, 0x02, 1, .u64, .ro, .c 0, .all⟩ /- J_COMMITTED -/,
  ⟨0x2F20, 1, 0x03, 1, .u32, .ro, .c 0, .all⟩ /- J_REPLAYS -/,
  ⟨0x2F20, 1, 0x04, 1, .u16, .ro, .c 0, .all⟩ /- J_PENDING -/,
  ⟨0x2F20, 1, 0x05, 1, .u32, .rws, .c 0xe10, .rng 60 604800⟩ /- SESSION_TO -/,
  ⟨0x2F20, 1, 0x06, 1, .u16, .rws, .c 0x3e8, .rng 100 10000⟩ /- RETRY_WIN -/,
  ⟨0x2F20, 1, 0x07, 1, .u8, .ro, .c 0, .all⟩ /- J_SESSIONS -/,
  ⟨0x2F28, 1, 0x01, 1, .u8, .rw, .c 0, .rng 0 9⟩ /- JQ_PORT -/,
  ⟨0x2F28, 1, 0x02, 1, .u32, .rw, .c 0, .all⟩ /- JQ_SESSION -/,
  ⟨0x2F28, 1, 0x03, 1, .u32, .ro, .c 0, .all⟩ /- JQ_LAST_SEQ -/,
  ⟨0x2F28, 1, 0x04, 1, .u8, .ro, .c 0xff, .all⟩ /- JQ_LAST_RESULT -/,
  ⟨0x2F30, 1, 0x01, 1, .u8, .ro, .c 0, .all⟩ /- CFG_SLOT -/,
  ⟨0x2F30, 1, 0x02, 1, .u32, .ro, .c 0, .all⟩ /- CFG_GEN -/,
  ⟨0x2F30, 1, 0x03, 1, .u32, .ro, .c 0, .all⟩ /- CFG_SEQ -/,
  ⟨0x2F30, 1, 0x04, 1, .u32, .ro, .c 0, .all⟩ /- CFG_STATUS -/,
  ⟨0x2F30, 1, 0x05, 1, .u16, .ro, .c 0, .all⟩ /- CFG_UNKNOWN -/,
  ⟨0x2F30, 1, 0x06, 1, .u8, .cmd, .c 0, .oneOf [1, 2]⟩ /- FACTORY_RESET -/,
  ⟨0x2F40, 1, 0x01, 1, .u8, .ro, .c 0, .all⟩ /- PATCH_RUN -/,
  ⟨0x2F40, 1, 0x02, 1, .u32, .ro, .c 0, .all⟩ /- PATCH_VER_A -/,
  ⟨0x2F40, 1, 0x03, 1, .u32, .ro, .c 0, .all⟩ /- PATCH_VER_B -/,
  ⟨0x2F40, 1, 0x04, 1, .u32, .rw, .c 0, .mult 0 4294967295 256⟩ /- PATCH_ADDR -/,
  ⟨0x2F40, 1, 0x05, 1, .u8, .cmd, .c 0, .rng 1 1⟩ /- PATCH_WRITE -/]

/-- 16_startup_and_persistence.md Table 16-5. -/
def objPage2F_1 : List Obj := [
  ⟨0x2F40, 1, 0x06, 1, .u32, .rw, .c 0, .rng 1 1048576⟩ /- PATCH_LEN -/,
  ⟨0x2F40, 1, 0x07, 1, .u32, .rw, .c 0, .all⟩ /- PATCH_CRC -/,
  ⟨0x2F40, 1, 0x08, 1, .u8, .cmd, .c 0, .rng 1 1⟩ /- PATCH_COMMIT -/,
  ⟨0x2F40, 1, 0x09, 1, .u8, .cmd, .c 0, .rng 0 1⟩ /- PATCH_SELECT -/,
  ⟨0x2F40, 1, 0x0A, 1, .u8, .cmd, .c 0, .rng 1 1⟩ /- PATCH_RESTART -/,
  ⟨0x2F40, 1, 0x0B, 1, .u8, .cmd, .c 0, .rng 1 1⟩ /- PATCH_CONFIRM -/,
  ⟨0x2F40, 1, 0x0C, 1, .u8, .ro, .c 0, .all⟩ /- BOOT_RESULT -/,
  ⟨0x2F41, 1, 0x01, 64, .u32, .rw, .c 0, .all⟩ /- PATCH_BLOCK -/]

/-- The rows of index page 0x2F. -/
def objPage2F : List Obj := objPage2F_0 ++ objPage2F_1

/-- 02_grid_forming_law.md Table 2-4; 02_grid_forming_law.md Table 2-6; 02_grid_forming_law.md Table 2-7; 02_grid_forming_law.md Table 2-9. -/
def objPage30_0 : List Obj := [
  ⟨0x3000, 2, 0x01, 1, .u32, .rws, .c 0, .orVal 100000 100000000 0⟩ /- S_BASE -/,
  ⟨0x3000, 2, 0x02, 1, .u32, .rws, .c 0, .orVal 100 40000 0⟩ /- V_BASE -/,
  ⟨0x3000, 2, 0x03, 1, .u8, .rws, .c 0x32, .special⟩ /- F_BASE -/,
  ⟨0x3000, 2, 0x04, 1, .u32, .ro, .c 0, .all⟩ /- I_BASE -/,
  ⟨0x3000, 2, 0x05, 1, .u32, .ro, .c 0, .all⟩ /- Z_BASE -/,
  ⟨0x3000, 2, 0x06, 1, .u32, .ro, .c 0, .all⟩ /- VDC_BASE -/,
  ⟨0x3010, 1, 0x01, 1, .u16, .rws, .c 0x2710, .rng 1000 20000⟩ /- OUTER_RATE -/,
  ⟨0x3010, 1, 0x02, 1, .u32, .rws, .c 0xc350, .rng 10000 100000⟩ /- INNER_RATE -/,
  ⟨0x3010, 1, 0x03, 1, .u8, .rws, .c 1, .rng 0 2⟩ /- LEG_TYPE -/,
  ⟨0x3010, 1, 0x04, 1, .u16, .rws, .c 0x9c4, .rng 500 50000⟩ /- CARRIER_FREQ -/,
  ⟨0x3010, 1, 0x05, 1, .u8, .rws, .c 1, .rng 0 1⟩ /- INTERLEAVE -/,
  ⟨0x3010, 1, 0x06, 1, .u8, .rws, .c 0xf, .all⟩ /- THREAD_MASK -/,
  ⟨0x3012, 1, 0x01, 1, .u8, .cmd, .c 0, .rng 1 1⟩ /- APPLY -/,
  ⟨0x3012, 1, 0x02, 1, .u16, .ro, .c 0, .all⟩ /- APPLY_RESULT -/,
  ⟨0x3020, 1, 0x01, 1, .u16, .rws, .c 0x1388, .rng 50 20000⟩ /- H -/,
  ⟨0x3020, 1, 0x02, 1, .u16, .rws, .c 0x1388, .rng 0 50000⟩ /- D_SET -/,
  ⟨0x3020, 1, 0x03, 1, .u16, .rws, .c 0x3e8, .rng 0 50000⟩ /- D_MIN -/,
  ⟨0x3020, 1, 0x04, 1, .u16, .rws, .c 0x4e20, .rng 0 50000⟩ /- D_MAX -/,
  ⟨0x3020, 1, 0x05, 1, .u16, .ro, .c 0, .all⟩ /- D_CHOSEN -/,
  ⟨0x3020, 1, 0x06, 1, .u16, .rws, .c 0x190, .rng 10 2000⟩ /- MP -/,
  ⟨0x3020, 1, 0x07, 1, .u16, .rws, .c 0x3e8, .rng 0 10000⟩ /- TG -/,
  ⟨0x3020, 1, 0x08, 1, .u16, .rws, .c 0x1388, .rng 100 65000⟩ /- TPQ -/,
  ⟨0x3020, 1, 0x09, 1, .q31, .rws, .c 0x3ccccccd, .rng 858993460 1073741824⟩ /- W_MIN -/,
  ⟨0x3020, 1, 0x0A, 1, .q31, .rws, .c 0x43333333, .rng 1073741824 1288490188⟩ /- W_MAX -/,
  ⟨0x3020, 1, 0x0B, 1, .q15, .rws, .c 0xc000, .rng (-24576) 0⟩ /- P_MIN -/,
  ⟨0x3020, 1, 0x0C, 1, .q15, .rws, .c 0x4000, .rng 0 24576⟩ /- P_MAX -/,
  ⟨0x3028, 1, 0x01, 1, .u16, .rws, .c 0x32, .rng 5 200⟩ /- BW_F -/,
  ⟨0x3030, 1, 0x01, 1, .u16, .rws, .c 0x190, .rng 0 2000⟩ /- MQ -/,
  ⟨0x3030, 1, 0x02, 1, .u8, .rws, .c 1, .rng 0 1⟩ /- VR_MODE -/,
  ⟨0x3030, 1, 0x03, 1, .u16, .rws, .c 0x1f4, .rng 0 10000⟩ /- KP_VR -/]

/-- 02_grid_forming_law.md Table 2-7; 02_grid_forming_law.md Table 2-8; 02_grid_forming_law.md Table 2-9. -/
def objPage30_1 : List Obj := [
  ⟨0x3030, 1, 0x04, 1, .u16, .rws, .c 0xc8, .rng 0 10000⟩ /- KI_VR -/,
  ⟨0x3030, 1, 0x05, 1, .q15, .rws, .c 0xccd, .rng 0 8192⟩ /- DE_MAX -/,
  ⟨0x3030, 1, 0x06, 1, .q15, .rws, .c 0x3333, .rng 8192 16384⟩ /- E_MIN -/,
  ⟨0x3030, 1, 0x07, 1, .q15, .rws, .c 0x4ccd, .rng 16384 24576⟩ /- E_MAX -/,
  ⟨0x3040, 1, 0x01, 1, .q15, .rws, .c 0x148, .rng 0 8192⟩ /- RV_SET -/,
  ⟨0x3040, 1, 0x02, 1, .q15, .rws, .c 0, .rng 0 8192⟩ /- RV_MIN -/,
  ⟨0x3040, 1, 0x03, 1, .q15, .rws, .c 0xccd, .rng 0 8192⟩ /- RV_MAX -/,
  ⟨0x3040, 1, 0x04, 1, .q15, .ro, .c 0, .all⟩ /- RV_CHOSEN -/,
  ⟨0x3040, 1, 0x05, 1, .q15, .rws, .c 0x99a, .rng 0 13107⟩ /- XV_SET -/,
  ⟨0x3040, 1, 0x06, 1, .q15, .rws, .c 0x333, .rng 0 13107⟩ /- XV_MIN -/,
  ⟨0x3040, 1, 0x07, 1, .q15, .rws, .c 0x199a, .rng 0 13107⟩ /- XV_MAX -/,
  ⟨0x3040, 1, 0x08, 1, .q15, .ro, .c 0, .all⟩ /- XV_CHOSEN -/,
  ⟨0x3040, 1, 0x09, 1, .u16, .rws, .c 0x1f4, .rng 0 10000⟩ /- TVI -/,
  ⟨0x3048, 1, 0x01, 1, .u8, .rws, .c 3, .mask 0xf⟩ /- HVI_MASK -/,
  ⟨0x3048, 1, 0x02, 1, .q15, .rws, .c 0x666, .rng 0 8192⟩ /- RH5 -/,
  ⟨0x3048, 1, 0x03, 1, .q15, .rws, .c 0x666, .rng 0 8192⟩ /- RH7 -/,
  ⟨0x3048, 1, 0x04, 1, .q15, .rws, .c 0x333, .rng 0 8192⟩ /- RH11 -/,
  ⟨0x3048, 1, 0x05, 1, .q15, .rws, .c 0x333, .rng 0 8192⟩ /- RH13 -/,
  ⟨0x3048, 1, 0x06, 1, .u16, .rws, .c 0x14, .rng 1 1000⟩ /- THV -/,
  ⟨0x3050, 1, 0x01, 1, .u16, .rws, .c 0x64, .rng 0 20000⟩ /- KP_V -/,
  ⟨0x3050, 1, 0x02, 1, .u16, .rws, .c 0xc8, .all⟩ /- KI_V -/,
  ⟨0x3050, 1, 0x03, 1, .q15, .rws, .c 0x333, .rng 0 8192⟩ /- BC -/,
  ⟨0x3050, 1, 0x04, 1, .q15, .rws, .c 0x2000, .rng 0 16384⟩ /- IV_INT_MAX -/,
  ⟨0x3060, 2, 0x01, 1, .u16, .rws, .c 0x776, .rng 0 20000⟩ /- KP -/,
  ⟨0x3060, 2, 0x02, 1, .u16, .rws, .c 0x3c, .all⟩ /- KI -/,
  ⟨0x3060, 2, 0x03, 1, .q15, .rws, .c 0x2666, .rng 0 32604⟩ /- XF -/,
  ⟨0x3060, 2, 0x04, 1, .q15, .rws, .c 0x62, .rng 0 8192⟩ /- RF -/,
  ⟨0x3060, 2, 0x05, 1, .q15, .rws, .c 0x1333, .rng 0 16384⟩ /- UI_MAX -/,
  ⟨0x3060, 2, 0x06, 1, .u8, .rws, .c 1, .rng 0 1⟩ /- DELAY_COMP -/,
  ⟨0x3070, 1, 0x01, 4, .u16, .rws, .c 0x3e8, .rng 0 1000⟩ /- W_L -/]

/-- 02_grid_forming_law.md Table 2-11; 02_grid_forming_law.md Table 2-12; 02_grid_forming_law.md Table 2-9. -/
def objPage30_2 : List Obj := [
  ⟨0x3070, 1, 0x05, 4, .u16, .rws, .c 0x3e8, .rng 0 1000⟩ /- W_M -/,
  ⟨0x3070, 1, 0x09, 1, .u16, .rws, .c 0xc8, .rng 0 10000⟩ /- KP0 -/,
  ⟨0x3070, 1, 0x0A, 1, .u16, .rws, .c 0x64, .all⟩ /- KI0 -/,
  ⟨0x3070, 1, 0x0B, 1, .q15, .rws, .c 0x666, .rng 0 3276⟩ /- U0_MAX -/,
  ⟨0x3080, 1, 0x01, 1, .u8, .rws, .c 1, .rng 0 1⟩ /- ZSI -/,
  ⟨0x3080, 1, 0x02, 1, .u16, .rws, .c 0x1f4, .rng 0 10000⟩ /- KNP -/,
  ⟨0x3080, 1, 0x03, 1, .q15, .rws, .c 0x333, .rng 0 3276⟩ /- UNP_MAX -/,
  ⟨0x3090, 1, 0x01, 1, .u8, .rws, .c 1, .rng 0 2⟩ /- EC_MODE -/,
  ⟨0x3090, 1, 0x02, 1, .u32, .rws, .c 0x2710, .rng 1 1000000⟩ /- C_DC -/,
  ⟨0x3090, 1, 0x03, 1, .q15, .rws, .c 0x4282, .rng 8192 24576⟩ /- VDC_REF -/,
  ⟨0x3090, 1, 0x04, 1, .u16, .rws, .c 0x32, .rng 1 1000⟩ /- ALPHA_W -/,
  ⟨0x3090, 1, 0x05, 1, .q15, .rws, .c 0x3ccd, .rng 8192 24576⟩ /- VDC_LO -/,
  ⟨0x3090, 1, 0x06, 1, .q15, .rws, .c 0x4666, .rng 8192 24576⟩ /- VDC_HI -/,
  ⟨0x3090, 1, 0x07, 1, .q15, .rws, .c 0x333, .rng 164 3276⟩ /- VDC_BAND -/,
  ⟨0x3090, 1, 0x08, 1, .u32, .ro, .c 0, .all⟩ /- H_DC -/,
  ⟨0x30A0, 1, 0x01, 1, .q15, .rws, .c 0x4000, .rng 3277 24576⟩ /- PSI_PM -/,
  ⟨0x30A0, 1, 0x02, 1, .q15, .rws, .c 0x199a, .rng 0 32604⟩ /- LD -/,
  ⟨0x30A0, 1, 0x03, 1, .q15, .rws, .c 0x199a, .rng 0 32604⟩ /- LQ -/,
  ⟨0x30A0, 1, 0x04, 1, .q15, .rws, .c 0xa4, .rng 0 3276⟩ /- RS -/,
  ⟨0x30A0, 1, 0x05, 1, .q15, .rws, .c 0, .rng (-16384) 0⟩ /- ID_REF -/,
  ⟨0x30A0, 1, 0x06, 1, .u16, .rws, .c 0xc8, .rng 10 2000⟩ /- OBS_BW -/,
  ⟨0x30A0, 1, 0x07, 1, .q15, .rws, .c 0x666, .rng 328 8192⟩ /- W_MIN_OP -/,
  ⟨0x30C0, 1, 0x01, 1, .bool, .rws, .c 1, .bool⟩ /- EST_EN -/,
  ⟨0x30C0, 1, 0x02, 1, .bool, .rws, .c 0, .bool⟩ /- RETUNE_EN -/,
  ⟨0x30C0, 1, 0x03, 1, .q15, .rws, .c 0x52, .rng 17 327⟩ /- PROBE_AMP -/,
  ⟨0x30C0, 1, 0x04, 1, .u16, .rws, .c 0xa, .rng 2 100⟩ /- CHIP -/,
  ⟨0x30C0, 1, 0x05, 1, .u16, .rws, .c 0xc8, .rng 50 1000⟩ /- WINDOW -/,
  ⟨0x30C0, 1, 0x06, 1, .u8, .rws, .c 0x50, .rng 50 100⟩ /- Q_MIN -/,
  ⟨0x30C0, 1, 0x07, 1, .q15, .rws, .c 0x199a, .rng 1639 16384⟩ /- X_TOT_TGT -/,
  ⟨0x30C0, 1, 0x08, 1, .u16, .rws, .c 0x32, .rng 10 200⟩ /- XR_TGT -/]

/-- 02_grid_forming_law.md Table 2-12. -/
def objPage30_3 : List Obj := [
  ⟨0x30C0, 1, 0x09, 1, .u16, .rws, .c 0x2bc, .rng 100 2000⟩ /- ZETA_TGT -/,
  ⟨0x30C0, 1, 0x0A, 1, .q15, .rws, .c 0x4000, .rng 0 24576⟩ /- P_DES -/,
  ⟨0x30C0, 1, 0x0B, 1, .u16, .rws, .c 0x7d0, .rng 100 60000⟩ /- RAMP -/,
  ⟨0x30C0, 1, 0x0C, 1, .u16, .rws, .c 0x3c, .rng 10 3600⟩ /- STALE_S -/,
  ⟨0x30C0, 1, 0x0D, 1, .q15, .rws, .c 0x333, .rng 164 8192⟩ /- DP_WIN -/,
  ⟨0x30C8, 1, 0x01, 1, .q15, .ro, .c 0, .all⟩ /- R_G -/,
  ⟨0x30C8, 1, 0x02, 1, .q15, .ro, .c 0, .all⟩ /- X_G -/,
  ⟨0x30C8, 1, 0x03, 1, .u16, .ro, .c 0, .all⟩ /- SCR -/,
  ⟨0x30C8, 1, 0x04, 1, .u8, .ro, .c 0, .all⟩ /- QUALITY -/,
  ⟨0x30C8, 1, 0x05, 1, .u32, .ro, .c 0, .all⟩ /- EST_COUNT -/,
  ⟨0x30C8, 1, 0x06, 1, .u32, .ro, .c 0, .all⟩ /- EST_AGE -/,
  ⟨0x30C8, 1, 0x07, 1, .u8, .ro, .c 0, .all⟩ /- EST_STATE -/,
  ⟨0x30C8, 1, 0x08, 1, .time64, .ro, .c 0, .all⟩ /- RETUNE_TIME -/,
  ⟨0x30C8, 1, 0x09, 1, .u8, .ro, .c 0, .all⟩ /- RETUNE_CAUSE -/]

/-- The rows of index page 0x30. -/
def objPage30 : List Obj := objPage30_0 ++ objPage30_1 ++ objPage30_2 ++ objPage30_3

/-- 02_grid_forming_law.md Table 2-14. -/
def objPage31 : List Obj := [
  ⟨0x3100, 1, 0x01, 1, .u32, .ro, .c 0x8000, .all⟩ /- LAW_STATUS -/,
  ⟨0x3100, 1, 0x02, 1, .q15, .ro, .c 0, .all⟩ /- P_E -/,
  ⟨0x3100, 1, 0x03, 1, .q15, .ro, .c 0, .all⟩ /- Q_E -/,
  ⟨0x3100, 1, 0x04, 1, .q31, .ro, .c 0, .all⟩ /- OMEGA -/,
  ⟨0x3100, 1, 0x05, 1, .q31, .ro, .c 0, .all⟩ /- OMEGA_BUS -/,
  ⟨0x3100, 1, 0x06, 1, .angle16, .ro, .c 0, .all⟩ /- THETA -/,
  ⟨0x3100, 1, 0x07, 1, .q15, .ro, .c 0, .all⟩ /- E -/,
  ⟨0x3100, 1, 0x08, 1, .q15, .ro, .c 0, .all⟩ /- V_C -/,
  ⟨0x3100, 1, 0x09, 1, .q15, .ro, .c 0, .all⟩ /- VDC -/,
  ⟨0x3100, 1, 0x0A, 1, .q15, .ro, .c 0, .all⟩ /- P_M -/,
  ⟨0x3100, 1, 0x0B, 1, .q15, .ro, .c 0, .all⟩ /- P_MACH_REF -/,
  ⟨0x3101, 1, 0x01, 8, .q15, .ro, .c 0, .all⟩ /- I_THREAD -/]

/-- 02_grid_forming_law.md Table 2-14. -/
def objPage32 : List Obj := [
  ⟨0x3200, 1, 0x01, 1, .q15, .rw, .c 0, .rng (-24576) 24576⟩ /- P_SET -/,
  ⟨0x3200, 1, 0x02, 1, .q15, .rw, .c 0, .rng (-24576) 24576⟩ /- Q_SET -/,
  ⟨0x3200, 1, 0x03, 1, .q15, .rw, .c 0x4000, .rng 13108 19660⟩ /- V_SET -/,
  ⟨0x3200, 1, 0x04, 1, .q31, .rw, .c 0x40000000, .rng 1020054733 1127428915⟩ /- F_SET -/,
  ⟨0x3200, 1, 0x05, 1, .u16, .rws, .c 0x64, .rng 1 65535⟩ /- P_SLEW -/,
  ⟨0x3200, 1, 0x06, 1, .q15, .rw, .c 0x4000, .rng 0 24576⟩ /- P_MACH_MAX -/,
  ⟨0x3200, 1, 0x07, 1, .q15, .rw, .c 0, .rng (-24576) 0⟩ /- P_MACH_MIN -/]

/-- 02_grid_forming_law.md Table 2-5. -/
def objPage33 : List Obj := [
  ⟨0x3300, 1, 0x01, 12, .u8, .rws, .c 0xff, .orVal 0 63 255⟩ /- I_L -/,
  ⟨0x3300, 1, 0x0D, 3, .u8, .rws, .c 0xff, .rng 0 63⟩ /- V_CAP -/,
  ⟨0x3300, 1, 0x10, 3, .u8, .rws, .c 0xff, .rng 0 63⟩ /- I_G -/,
  ⟨0x3300, 1, 0x13, 2, .u8, .rws, .c 0xff, .rng 0 63⟩ /- V_DC_SRC -/,
  ⟨0x3300, 1, 0x15, 1, .u32, .rws, .c 0, .all⟩ /- I_FS -/,
  ⟨0x3300, 1, 0x16, 1, .u32, .rws, .c 0, .all⟩ /- V_FS -/,
  ⟨0x3300, 1, 0x17, 1, .u32, .rws, .c 0, .all⟩ /- VDC_FS -/,
  ⟨0x3301, 1, 0x01, 8, .u8, .rws, .c 0xff, .rng 0 63⟩ /- I_M -/,
  ⟨0x3301, 1, 0x09, 1, .u32, .rws, .c 0, .all⟩ /- I_M_FS -/]

/-- 03_ride_through_and_modes.md Table 3-11; 03_ride_through_and_modes.md Table 3-9. -/
def objPage34_0 : List Obj := [
  ⟨0x3400, 1, 0x01, 1, .u8, .cmd, .c 0, .oneOf [0, 1, 2, 4, 5]⟩ /- MODE_CMD -/,
  ⟨0x3400, 1, 0x02, 1, .u8, .ro, .c 0, .all⟩ /- MODE -/,
  ⟨0x3400, 1, 0x03, 1, .u8, .ro, .c 0, .all⟩ /- MODE_PREV -/,
  ⟨0x3400, 1, 0x04, 1, .u8, .ro, .c 0, .all⟩ /- CAUSE -/,
  ⟨0x3400, 1, 0x05, 1, .time64, .ro, .c 0, .all⟩ /- MODE_TIME -/,
  ⟨0x3400, 1, 0x06, 1, .u8, .ro, .c 0xff, .all⟩ /- HELD_MODE -/,
  ⟨0x3400, 1, 0x07, 1, .u32, .ro, .c 0, .all⟩ /- MODE_STATUS -/,
  ⟨0x3400, 1, 0x08, 1, .u16, .rws, .c 0x7d0, .rng 100 65535⟩ /- HO_SLEW -/,
  ⟨0x3400, 1, 0x09, 1, .u32, .ro, .c 0, .all⟩ /- TRANS_COUNT -/,
  ⟨0x3400, 1, 0x0A, 1, .u8, .ro, .c 0, .all⟩ /- CMD_REFUSAL -/,
  ⟨0x3410, 1, 0x01, 16, .u32, .ro, .c 0, .all⟩ /- TRANS_LOG -/,
  ⟨0x3411, 1, 0x01, 16, .time64, .ro, .c 0, .all⟩ /- TRANS_LOG_TIME -/,
  ⟨0x3420, 1, 0x01, 1, .q15, .rws, .c 0x3666, .rng 8192 15564⟩ /- UV_ENTER -/,
  ⟨0x3420, 1, 0x02, 1, .q15, .rws, .c 0x399a, .rng 8192 16384⟩ /- UV_EXIT -/,
  ⟨0x3420, 1, 0x03, 1, .q15, .rws, .c 0x499a, .rng 17204 24576⟩ /- OV_ENTER -/,
  ⟨0x3420, 1, 0x04, 1, .q15, .rws, .c 0x4666, .rng 16384 24576⟩ /- OV_EXIT -/,
  ⟨0x3420, 1, 0x05, 1, .q15, .rws, .c 0x333, .rng 164 8192⟩ /- V2_ENTER -/,
  ⟨0x3420, 1, 0x06, 1, .q15, .rws, .c 0x1ec, .rng 0 8192⟩ /- V2_EXIT -/,
  ⟨0x3420, 1, 0x07, 1, .angle16, .rws, .c 0x71c, .rng 364 16384⟩ /- PJ_ENTER -/,
  ⟨0x3420, 1, 0x08, 1, .u16, .rws, .c 0xc8, .rng 20 5000⟩ /- T_DET -/,
  ⟨0x3420, 1, 0x09, 1, .u16, .rws, .c 0x14, .rng 1 1000⟩ /- REC_T -/,
  ⟨0x3420, 1, 0x0A, 1, .u16, .rws, .c 0x3e8, .rng 20 65000⟩ /- ILIM_T -/,
  ⟨0x3420, 1, 0x0B, 1, .u8, .rws, .c 2, .rng 1 100⟩ /- CBC_ENTER -/,
  ⟨0x3420, 1, 0x0C, 1, .u8, .rws, .c 0x7f, .mask 0x7f⟩ /- DET_MASK -/,
  ⟨0x3430, 1, 0x01, 1, .u16, .rws, .c 0xfa, .rng 100 1000⟩ /- KVI_FAULT -/,
  ⟨0x3430, 1, 0x02, 1, .u16, .rws, .c 0x32, .rng 1 1000⟩ /- KVI_RET -/,
  ⟨0x3430, 1, 0x03, 1, .q31, .rws, .c 0x51eb85, .rng 1073742 53687091⟩ /- DW_LIM -/,
  ⟨0x3430, 1, 0x04, 1, .u16, .rws, .c 0xc8, .rng 0 1000⟩ /- K2 -/,
  ⟨0x3430, 1, 0x05, 1, .q15, .rws, .c 0x2000, .rng 0 16384⟩ /- I2_MAX -/,
  ⟨0x3430, 1, 0x06, 1, .u8, .rws, .c 0, .rng 0 1⟩ /- NEG_PRIO -/]

/-- 03_ride_through_and_modes.md Table 3-11; 03_ride_through_and_modes.md Table 3-12; 03_ride_through_and_modes.md Table 3-13; 03_ride_through_and_modes.md Table 3-14. -/
def objPage34_1 : List Obj := [
  ⟨0x3430, 1, 0x07, 1, .u8, .rws, .c 1, .rng 0 1⟩ /- PJ_MODE -/,
  ⟨0x3430, 1, 0x08, 1, .angle16, .rws, .c 0xe39, .rng 0 16384⟩ /- PJ_KEEP -/,
  ⟨0x3430, 1, 0x09, 1, .u16, .rws, .c 0x7d0, .rng 100 50000⟩ /- PJ_TIME -/,
  ⟨0x3430, 1, 0x0A, 1, .u16, .rws, .c 0x3e8, .rng 10 60000⟩ /- HOLDOVER_T -/,
  ⟨0x3438, 1, 0x01, 1, .q15, .rws, .c 0x4666, .rng 1639 24576⟩ /- I_LIM -/,
  ⟨0x3438, 1, 0x02, 1, .q15, .rws, .c 0x3333, .rng 1639 24576⟩ /- I_LIM_FLOOR -/,
  ⟨0x3438, 1, 0x03, 1, .q15, .ro, .c 0, .all⟩ /- I_LIM_CHOSEN -/,
  ⟨0x3438, 1, 0x04, 1, .u16, .rws, .c 0x64, .rng 1 10000⟩ /- STOP_RAMP -/,
  ⟨0x3438, 1, 0x05, 1, .u32, .ro, .c 0, .all⟩ /- ILIM_COUNT -/,
  ⟨0x3440, 1, 0x01, 6, .u16, .rws, .lst [0, 150, 150, 700, 1500, 3000], .rng 0 60000⟩ /- PT_TIME -/,
  ⟨0x3440, 1, 0x07, 6, .q15, .rws, .lst [0, 0, 3277, 8192, 13926, 13926], .rng 0 16384⟩ /- PT_V -/,
  ⟨0x3440, 1, 0x0D, 1, .q15, .rws, .c 0x5333, .rng 18023 26214⟩ /- OV_TRIP -/,
  ⟨0x3440, 1, 0x0E, 1, .u16, .rws, .c 0x64, .rng 1 10000⟩ /- OV_TRIP_T -/,
  ⟨0x3440, 1, 0x0F, 1, .u16, .rws, .c 0xbb8, .rng 100 60000⟩ /- LIMIT_MAX_T -/,
  ⟨0x3450, 1, 0x01, 1, .u8, .rws, .c 3, .rng 1 100⟩ /- MISS_N -/,
  ⟨0x3450, 1, 0x02, 1, .u8, .rws, .c 5, .rng 1 100⟩ /- MISS_M -/,
  ⟨0x3450, 1, 0x03, 1, .u16, .rws, .c 0x14, .rng 1 1000⟩ /- HOLD_TIME -/,
  ⟨0x3450, 1, 0x04, 1, .u8, .rws, .c 0xa, .rng 1 255⟩ /- HOLD_RECOVER -/,
  ⟨0x3450, 1, 0x05, 1, .u8, .rws, .c 3, .rng 1 100⟩ /- OUTER_MISS_N -/,
  ⟨0x3450, 1, 0x06, 1, .u16, .rws, .c 0xff, .all⟩ /- LAW_ENGINES -/,
  ⟨0x3450, 1, 0x07, 1, .u8, .ro, .c 0, .all⟩ /- MISS_RUN -/,
  ⟨0x3450, 1, 0x08, 1, .u8, .ro, .c 0, .all⟩ /- HOLD_MISSES -/,
  ⟨0x3450, 1, 0x09, 1, .u32, .ro, .c 0, .all⟩ /- HOLD_COUNT -/,
  ⟨0x3450, 1, 0x0A, 1, .u8, .rws, .c 1, .all⟩ /- LAW_GROUPS -/,
  ⟨0x3460, 1, 0x01, 1, .bool, .rws, .c 0, .bool⟩ /- CBC_EN -/,
  ⟨0x3460, 1, 0x02, 1, .u16, .rws, .c 0x7d, .rng 100 300⟩ /- CBC_K -/,
  ⟨0x3460, 1, 0x03, 1, .u32, .rws, .c 0, .all⟩ /- CBC_FS -/,
  ⟨0x3460, 1, 0x04, 1, .u32, .ro, .c 0, .all⟩ /- CBC_COUNT -/,
  ⟨0x3461, 1, 0x01, 12, .u8, .rws, .c 0xff, .orVal 0 23 255⟩ /- CBC_SRC -/,
  ⟨0x3470, 1, 0x01, 1, .u8, .rws, .c 0, .all⟩ /- KEEP_LD -/]

/-- 03_ride_through_and_modes.md Table 3-14. -/
def objPage34_2 : List Obj := [
  ⟨0x3470, 1, 0x02, 1, .u8, .rws, .c 0, .mask 0xf⟩ /- KEEP_SD -/,
  ⟨0x3470, 1, 0x03, 1, .u16, .rws, .c 0xc8, .rng 10 5000⟩ /- ARM_TIMEOUT -/,
  ⟨0x3470, 1, 0x04, 1, .q15, .rws, .c 0x5000, .rng 18023 24576⟩ /- VDC_TRIP_HI -/,
  ⟨0x3470, 1, 0x05, 1, .q15, .rws, .c 0x2666, .rng 4916 14745⟩ /- VDC_TRIP_LO -/,
  ⟨0x3470, 1, 0x06, 1, .q15, .rws, .c 0x399a, .rng 8192 19660⟩ /- VDC_MIN_FORM -/,
  ⟨0x3470, 1, 0x07, 1, .q15, .rws, .c 0x3333, .rng 8192 16384⟩ /- LIVE_V -/,
  ⟨0x3470, 1, 0x08, 1, .u8, .rw, .c 0xff, .oneOf [0, 1, 255]⟩ /- BRK_STATE -/,
  ⟨0x3470, 1, 0x09, 1, .u16, .rws, .c 0x3e8, .rng 0 60000⟩ /- BRK_MAXAGE -/,
  ⟨0x3480, 1, 0x01, 1, .u32, .ro, .c 0, .all⟩ /- LIMIT_COUNT -/,
  ⟨0x3480, 1, 0x02, 1, .u32, .ro, .c 0, .all⟩ /- LIMIT_LAST -/,
  ⟨0x3480, 1, 0x03, 1, .q15, .ro, .c 0, .all⟩ /- V1_MIN -/,
  ⟨0x3480, 1, 0x04, 1, .angle16, .ro, .c 0, .all⟩ /- PJ_LAST -/,
  ⟨0x3480, 1, 0x05, 1, .q15, .ro, .c 0, .all⟩ /- V1 -/,
  ⟨0x3480, 1, 0x06, 1, .q15, .ro, .c 0, .all⟩ /- V2 -/,
  ⟨0x3480, 1, 0x07, 1, .u8, .ro, .c 0, .all⟩ /- LIMIT_CAUSES -/]

/-- The rows of index page 0x34. -/
def objPage34 : List Obj := objPage34_0 ++ objPage34_1 ++ objPage34_2

/-- 04_black_start_and_cadence.md Table 4-10; 04_black_start_and_cadence.md Table 4-11; 04_black_start_and_cadence.md Table 4-8; 04_black_start_and_cadence.md Table 4-9. -/
def objPage36_0 : List Obj := [
  ⟨0x3600, 1, 0x01, 1, .q15, .rws, .c 0x666, .rng 328 4915⟩ /- DEAD_V -/,
  ⟨0x3600, 1, 0x02, 1, .u16, .rws, .c 0x7d0, .rng 100 60000⟩ /- DEAD_T -/,
  ⟨0x3600, 1, 0x03, 1, .bool, .rws, .c 1, .bool⟩ /- PRE_EN -/,
  ⟨0x3600, 1, 0x04, 1, .q15, .rws, .c 0x333, .rng 164 3276⟩ /- V_PC -/,
  ⟨0x3600, 1, 0x05, 1, .q15, .rws, .c 0x333, .rng 164 8192⟩ /- I_PC -/,
  ⟨0x3600, 1, 0x06, 1, .q15, .rws, .c 0x499a, .rng 13108 26214⟩ /- KNEE -/,
  ⟨0x3600, 1, 0x07, 1, .u16, .rws, .c 0x1f4, .rng 50 5000⟩ /- PRE_TMAX -/,
  ⟨0x3600, 1, 0x08, 1, .q15, .rws, .c 0x1333, .rng 820 13107⟩ /- V_POW -/,
  ⟨0x3600, 1, 0x09, 1, .u16, .rws, .c 0x7d0, .rng 100 60000⟩ /- RAMP_T -/,
  ⟨0x3600, 1, 0x0A, 1, .u16, .rws, .c 0x1f4, .rng 10 10000⟩ /- SETTLE_T -/,
  ⟨0x3600, 1, 0x0B, 1, .q15, .rws, .c 0x333, .rng 164 3276⟩ /- V_TOL -/,
  ⟨0x3600, 1, 0x0C, 1, .u16, .rws, .c 0x1f4, .rng 10 10000⟩ /- START_ILIM_T -/,
  ⟨0x3600, 1, 0x0D, 1, .u16, .rws, .c 0x1e, .rng 1 600⟩ /- START_MAX_T -/,
  ⟨0x3604, 1, 0x01, 1, .u8, .rws, .c 0xff, .orVal 0 63 255⟩ /- VB_AB -/,
  ⟨0x3604, 1, 0x02, 1, .u8, .rws, .c 0xff, .orVal 0 63 255⟩ /- VB_BC -/,
  ⟨0x3604, 1, 0x03, 1, .u32, .rws, .c 0, .all⟩ /- VB_FS -/,
  ⟨0x3604, 1, 0x04, 1, .angle16, .rws, .c 0, .all⟩ /- VG_SHIFT -/,
  ⟨0x3610, 1, 0x01, 1, .u16, .rws, .c 0x7d0, .rng 100 20000⟩ /- K_PH -/,
  ⟨0x3610, 1, 0x02, 1, .q31, .rws, .c 0x20c49c, .rng 214749 10737418⟩ /- DW_SYNC -/,
  ⟨0x3610, 1, 0x03, 1, .u16, .rws, .c 0xc8, .rng 0 10000⟩ /- KI_SV -/,
  ⟨0x3610, 1, 0x04, 1, .angle16, .rws, .c 0x38e, .rng 91 5461⟩ /- SYNC_PHI -/,
  ⟨0x3610, 1, 0x05, 1, .q15, .rws, .c 0x1ec, .rng 82 1638⟩ /- SYNC_DV -/,
  ⟨0x3610, 1, 0x06, 1, .q31, .rws, .c 0x10624e, .rng 107375 5368709⟩ /- SYNC_DW -/,
  ⟨0x3610, 1, 0x07, 1, .u16, .rws, .c 0xc8, .rng 10 5000⟩ /- SYNC_HOLD -/,
  ⟨0x3610, 1, 0x08, 1, .u16, .rws, .c 0x1f4, .rng 0 5000⟩ /- CLOSE_WIN -/,
  ⟨0x3610, 1, 0x09, 1, .u16, .rws, .c 0x78, .rng 5 3600⟩ /- SYNC_MAX_T -/,
  ⟨0x3610, 1, 0x0A, 1, .bool, .rws, .c 1, .bool⟩ /- REQUIRE_TURN -/,
  ⟨0x3620, 1, 0x01, 1, .bool, .rws, .c 0, .bool⟩ /- CAD_EN -/,
  ⟨0x3620, 1, 0x02, 1, .u8, .rws, .c 0, .rng 0 15⟩ /- UNIT_ID -/,
  ⟨0x3620, 1, 0x03, 1, .u16, .rws, .c 0, .all⟩ /- PEER_MASK -/]

/-- 04_black_start_and_cadence.md Table 4-11; 04_black_start_and_cadence.md Table 4-12. -/
def objPage36_1 : List Obj := [
  ⟨0x3620, 1, 0x04, 1, .u16, .rws, .c 0x32, .rng 20 200⟩ /- DF -/,
  ⟨0x3620, 1, 0x05, 1, .u8, .rws, .c 0x28, .rng 20 80⟩ /- DEC_K -/,
  ⟨0x3620, 1, 0x06, 1, .bool, .rws, .c 0, .bool⟩ /- CAD_FORM_EN -/,
  ⟨0x3620, 1, 0x07, 1, .u8, .rws, .c 3, .rng 1 10⟩ /- CAD_RETRY -/,
  ⟨0x3620, 1, 0x08, 1, .u16, .rws, .c 0x78, .rng 10 3600⟩ /- JOIN_T -/,
  ⟨0x3620, 1, 0x09, 1, .u16, .rws, .c 0x1e, .rng 1 3600⟩ /- HOLD_T -/,
  ⟨0x3620, 1, 0x0A, 1, .u16, .rws, .c 0x78, .rng 10 3600⟩ /- RESYNC_T -/,
  ⟨0x3620, 1, 0x0B, 1, .bool, .rws, .c 1, .bool⟩ /- AUTO_MASTER -/,
  ⟨0x3628, 1, 0x01, 1, .u8, .cmd, .c 0, .rng 1 5⟩ /- CAD_CMD -/,
  ⟨0x3630, 1, 0x01, 1, .u32, .ro, .c 0, .all⟩ /- BS_STATUS -/,
  ⟨0x3630, 1, 0x02, 1, .u8, .ro, .c 0, .all⟩ /- BS_STAGE -/,
  ⟨0x3630, 1, 0x03, 1, .u8, .ro, .c 0, .all⟩ /- COND_FAIL -/,
  ⟨0x3630, 1, 0x04, 1, .q15, .ro, .c 0, .all⟩ /- V_EXT -/,
  ⟨0x3630, 1, 0x05, 1, .q31, .ro, .c 0, .all⟩ /- OMEGA_EXT -/,
  ⟨0x3630, 1, 0x06, 1, .angle16, .ro, .c 0, .all⟩ /- DPHI -/,
  ⟨0x3630, 1, 0x07, 1, .u8, .ro, .c 0xff, .all⟩ /- TURN_PTR -/,
  ⟨0x3630, 1, 0x08, 1, .u16, .ro, .c 0, .all⟩ /- JOINED -/,
  ⟨0x3630, 1, 0x09, 1, .u8, .ro, .c 1, .all⟩ /- N_FORM -/,
  ⟨0x3630, 1, 0x0A, 1, .u32, .ro, .c 0, .all⟩ /- RX_VALID -/,
  ⟨0x3630, 1, 0x0B, 1, .u32, .ro, .c 0, .all⟩ /- RX_DISCARD -/,
  ⟨0x3630, 1, 0x0C, 1, .u32, .ro, .c 0, .all⟩ /- TX_COUNT -/,
  ⟨0x3630, 1, 0x0D, 1, .u32, .ro, .c 0, .all⟩ /- TX_COLLIDE -/,
  ⟨0x3630, 1, 0x0E, 1, .u16, .ro, .c 0, .all⟩ /- LAST_RX -/,
  ⟨0x3630, 1, 0x0F, 1, .time64, .ro, .c 0, .all⟩ /- LAST_RX_TIME -/,
  ⟨0x3630, 1, 0x10, 1, .u8, .rw, .c 0, .rng 0 1⟩ /- ISLANDED -/]

/-- The rows of index page 0x36. -/
def objPage36 : List Obj := objPage36_0 ++ objPage36_1

/-- 13_object_dictionary.md Table 13-11. -/
def objPage37 : List Obj := [
  ⟨0x3700, 1, 0x01, 4, .u64, .const, .dev 1, .all⟩ /- ETH_MAC -/,
  ⟨0x3701, 1, 0x01, 4, .u32, .rws, .lst [0xc0a8303c, 0xc0a8303d, 0xc0a8303e, 0xc0a8303f], .all⟩ /- ETH_IP -/,
  ⟨0x3702, 1, 0x01, 4, .u32, .rws, .c 0xffffff00, .all⟩ /- ETH_MASK -/,
  ⟨0x3703, 1, 0x01, 4, .u32, .rws, .c 0, .all⟩ /- ETH_GW -/,
  ⟨0x3704, 1, 0x01, 4, .u32, .rws, .c 1, .fields 0xfffe001 []⟩ /- ETH_CFG -/,
  ⟨0x3705, 1, 0x01, 4, .u32, .ro, .c 0, .all⟩ /- ETH_STATUS -/,
  ⟨0x3706, 1, 0x01, 1, .u8, .cmd, .c 0, .mask 0xf⟩ /- ETH_APPLY -/,
  ⟨0x3708, 1, 0x01, 1, .u8, .rws, .c 0, .rng 0 2⟩ /- REDUND -/,
  ⟨0x3708, 1, 0x02, 1, .u32, .ro, .c 0, .all⟩ /- DUP_DISCARD -/,
  ⟨0x3708, 1, 0x03, 1, .u32, .ro, .c 0, .all⟩ /- LAN_ERR -/,
  ⟨0x3710, 1, 0x01, 32, .u8, .rws, .c 1, .mask 0xf⟩ /- PDO_PORTS -/,
  ⟨0x3711, 1, 0x01, 16, .u8, .ro, .c 0, .all⟩ /- RPDO_STATUS -/,
  ⟨0x3712, 1, 0x01, 4, .u32, .rws, .lst [0x1200010, 0x1200011, 0x1200012, 0x1200013], .fields 0x8730007f [(24, 3, 0, 3), (0, 7, 1, 127)]⟩ /- CAN_CFG -/,
  ⟨0x3713, 1, 0x01, 4, .u8, .ro, .c 0, .all⟩ /- CAN_STATE -/,
  ⟨0x3714, 1, 0x01, 4, .u32, .ro, .c 0, .all⟩ /- BUS_OFF_COUNT -/,
  ⟨0x3720, 1, 0x01, 1, .u32, .rws, .c 0x1c200, .rng 9600 3000000⟩ /- SVC_BAUD -/,
  ⟨0x3730, 1, 0x01, 1, .u16, .const, .c 0x12fc, .all⟩ /- NDP_PORT -/,
  ⟨0x3730, 1, 0x02, 1, .u16, .rws, .c 0x7d0, .rng 100 10000⟩ /- NDP_RATE -/]

/-- The rows whose index has the given high byte. -/
def objPage (hi : Nat) : List Obj :=
  match hi with
  | 0x10 => objPage10
  | 0x14 => objPage14
  | 0x16 => objPage16
  | 0x18 => objPage18
  | 0x1A => objPage1A
  | 0x20 => objPage20
  | 0x21 => objPage21
  | 0x22 => objPage22
  | 0x23 => objPage23
  | 0x24 => objPage24
  | 0x26 => objPage26
  | 0x27 => objPage27
  | 0x28 => objPage28
  | 0x2A => objPage2A
  | 0x2B => objPage2B
  | 0x2C => objPage2C
  | 0x2D => objPage2D
  | 0x2E => objPage2E
  | 0x2F => objPage2F
  | 0x30 => objPage30
  | 0x31 => objPage31
  | 0x32 => objPage32
  | 0x33 => objPage33
  | 0x34 => objPage34
  | 0x36 => objPage36
  | 0x37 => objPage37
  | _ => []

end Sys2Proof.Machine
end

