-- ==== Sys2Proof/Machine/Regs.lean ====
section
/-!
DEFINITION. Names of the dictionary objects: the key (index * 256 + subindex) of each object of the spec's object
tables, under the spec's own name. An object that a table repeats (per engine, lane, channel, port, ...) takes the
number of its unit, counted from 0 as the spec counts it.
-/

namespace Sys2Proof.Machine.Reg

/-- The key of an object. -/
def key (idx sub : Nat) : Nat := idx * 256 + sub

/-- 0x1000:00, 13 Table 13-8. -/
def DEVICE_TYPE : Nat := key 0x1000 0x00
/-- 0x1001:00, 13 Table 13-8. -/
def ERROR_REG : Nat := key 0x1001 0x00
/-- 0x1008:00, 13 Table 13-8. -/
def DEVICE_NAME : Nat := key 0x1008 0x00
/-- 0x1009:00, 13 Table 13-8. -/
def HW_VERSION : Nat := key 0x1009 0x00
/-- 0x100A:00, 13 Table 13-8. -/
def SW_VERSION : Nat := key 0x100A 0x00
/-- 0x1017:00, 13 Table 13-8. -/
def HEARTBEAT_MS : Nat := key 0x1017 0x00
/-- 0x1018:01, 13 Table 13-8. -/
def VENDOR_ID : Nat := key 0x1018 0x01
/-- 0x1018:02, 13 Table 13-8. -/
def PRODUCT_CODE : Nat := key 0x1018 0x02
/-- 0x1018:03, 13 Table 13-8. -/
def REVISION : Nat := key 0x1018 0x03
/-- 0x1018:04, 13 Table 13-8. -/
def SERIAL : Nat := key 0x1018 0x04
/-- 0x1400:01, 13 Table 13-4. -/
def RPDO_COBID (n : Nat) : Nat := key (0x1400 + n) 0x01
/-- 0x1400:02, 13 Table 13-4. -/
def RPDO_TYPE (n : Nat) : Nat := key (0x1400 + n) 0x02
/-- 0x1400:05, 13 Table 13-4. -/
def RPDO_TIMER (n : Nat) : Nat := key (0x1400 + n) 0x05
/-- 0x1600:00, 13 Table 13-4. -/
def RPDO_N (n : Nat) : Nat := key (0x1600 + n) 0x00
/-- 0x1600:01, 13 Table 13-4. -/
def RPDO_MAP (n k : Nat) : Nat := key (0x1600 + n) (0x01 + k)
/-- 0x1800:01, 13 Table 13-4. -/
def TPDO_COBID (n : Nat) : Nat := key (0x1800 + n) 0x01
/-- 0x1800:02, 13 Table 13-4. -/
def TPDO_TYPE (n : Nat) : Nat := key (0x1800 + n) 0x02
/-- 0x1800:03, 13 Table 13-4. -/
def TPDO_INHIBIT (n : Nat) : Nat := key (0x1800 + n) 0x03
/-- 0x1800:05, 13 Table 13-4. -/
def TPDO_TIMER (n : Nat) : Nat := key (0x1800 + n) 0x05
/-- 0x1A00:00, 13 Table 13-4. -/
def TPDO_N (n : Nat) : Nat := key (0x1A00 + n) 0x00
/-- 0x1A00:01, 13 Table 13-4. -/
def TPDO_MAP (n k : Nat) : Nat := key (0x1A00 + n) (0x01 + k)
/-- 0x2000:01, 13 Table 13-9. -/
def DEVICE_STATUS : Nat := key 0x2000 0x01
/-- 0x2000:02, 13 Table 13-9. -/
def UPTIME : Nat := key 0x2000 0x02
/-- 0x2000:03, 13 Table 13-9. -/
def RESET_CAUSE : Nat := key 0x2000 0x03
/-- 0x2000:04, 13 Table 13-9. -/
def STRAPS : Nat := key 0x2000 0x04
/-- 0x2010:01, 13 Table 13-9. -/
def BEHAVIOUR_LEVEL : Nat := key 0x2010 0x01
/-- 0x2100:01, 15 Table 15-7. -/
def PD_REQ : Nat := key 0x2100 0x01
/-- 0x2100:02, 15 Table 15-7. -/
def PD_ON : Nat := key 0x2100 0x02
/-- 0x2100:03, 15 Table 15-7. -/
def PD_PENDING : Nat := key 0x2100 0x03
/-- 0x2100:04, 15 Table 15-7. -/
def PD_REFUSED : Nat := key 0x2100 0x04
/-- 0x2100:05, 15 Table 15-7. -/
def STANDBY : Nat := key 0x2100 0x05
/-- 0x2100:06, 15 Table 15-7. -/
def WAKE_CFG : Nat := key 0x2100 0x06
/-- 0x2100:07, 15 Table 15-7. -/
def WAKE_TIME : Nat := key 0x2100 0x07
/-- 0x2100:08, 15 Table 15-7. -/
def WAKE_CAUSE : Nat := key 0x2100 0x08
/-- 0x2100:09, 15 Table 15-7. -/
def STANDBY_COUNT : Nat := key 0x2100 0x09
/-- 0x2110:01, 15 Table 15-7. -/
def BUDGET : Nat := key 0x2110 0x01
/-- 0x2110:02, 15 Table 15-7. -/
def FLOOR : Nat := key 0x2110 0x02
/-- 0x2110:03, 15 Table 15-7. -/
def POWER_MEAS : Nat := key 0x2110 0x03
/-- 0x2110:04, 15 Table 15-7. -/
def POWER_COMMIT : Nat := key 0x2110 0x04
/-- 0x2110:05, 15 Table 15-7. -/
def SUP_STATUS : Nat := key 0x2110 0x05
/-- 0x2110:06, 15 Table 15-7. -/
def THROTTLE : Nat := key 0x2110 0x06
/-- 0x2110:07, 15 Table 15-7. -/
def THROTTLE_MS : Nat := key 0x2110 0x07
/-- 0x2110:08, 15 Table 15-7. -/
def FILT_PROTECT : Nat := key 0x2110 0x08
/-- 0x2118:01, 15 Table 15-7. -/
def VDD_MIN : Nat := key 0x2118 0x01
/-- 0x2118:02, 15 Table 15-7. -/
def VDD_MAX : Nat := key 0x2118 0x02
/-- 0x2118:03, 15 Table 15-7. -/
def VDD_CHOSEN : Nat := key 0x2118 0x03
/-- 0x2118:04, 15 Table 15-7. -/
def VDD_FLOOR : Nat := key 0x2118 0x04
/-- 0x2118:05, 15 Table 15-7. -/
def GUARD_PCT : Nat := key 0x2118 0x05
/-- 0x2120:01, 15 Table 15-8. -/
def IST_EN : Nat := key 0x2120 0x01
/-- 0x2120:02, 15 Table 15-8. -/
def IST_PERIOD : Nat := key 0x2120 0x02
/-- 0x2120:03, 15 Table 15-8. -/
def IST_SRAM_LO : Nat := key 0x2120 0x03
/-- 0x2120:04, 15 Table 15-8. -/
def IST_SRAM_HI : Nat := key 0x2120 0x04
/-- 0x2120:05, 15 Table 15-8. -/
def IST_FAIL_ADDR : Nat := key 0x2120 0x05
/-- 0x2120:06, 15 Table 15-8. -/
def ST_FAILED : Nat := key 0x2120 0x06
/-- 0x2120:07, 15 Table 15-8. -/
def GL_CHECK_FAIL : Nat := key 0x2120 0x07
/-- 0x2121:01, 15 Table 15-8. -/
def IST_PASS (k : Nat) : Nat := key 0x2121 (0x01 + k)
/-- 0x2122:01, 15 Table 15-8. -/
def IST_FAILS (k : Nat) : Nat := key 0x2122 (0x01 + k)
/-- 0x2130:01, 15 Table 15-8. -/
def TJ_HOT : Nat := key 0x2130 0x01
/-- 0x2130:02, 15 Table 15-8. -/
def STRAP_RAW : Nat := key 0x2130 0x02
/-- 0x2131:01, 15 Table 15-8. -/
def SUPPLY_MEAS (k : Nat) : Nat := key 0x2131 (0x01 + k)
/-- 0x2132:01, 15 Table 15-8. -/
def TJ (k : Nat) : Nat := key 0x2132 (0x01 + k)
/-- 0x2140:01, 15 Table 15-9. -/
def RING_LOSS (k : Nat) : Nat := key 0x2140 (0x01 + k)
/-- 0x2140:06, 15 Table 15-9. -/
def REF_DRIFT : Nat := key 0x2140 0x06
/-- 0x2140:07, 15 Table 15-9. -/
def MRAM_MARGIN : Nat := key 0x2140 0x07
/-- 0x2140:08, 15 Table 15-9. -/
def MARGIN_MIN : Nat := key 0x2140 0x08
/-- 0x2140:09, 15 Table 15-9. -/
def WL_RETIRED : Nat := key 0x2140 0x09
/-- 0x2150:01, 15 Table 15-9. -/
def MOD_IREF (k : Nat) : Nat := key 0x2150 (0x01 + k)
/-- 0x2151:01, 15 Table 15-9. -/
def MOD_IAIN (k : Nat) : Nat := key 0x2151 (0x01 + k)
/-- 0x2152:01, 15 Table 15-9. -/
def MOD_IFS (k : Nat) : Nat := key 0x2152 (0x01 + k)
/-- 0x2153:01, 15 Table 15-9. -/
def VON_DRIFT (k : Nat) : Nat := key 0x2153 (0x01 + k)
/-- 0x2154:01, 15 Table 15-9. -/
def DVDT_DRIFT (k : Nat) : Nat := key 0x2154 (0x01 + k)
/-- 0x2155:01, 15 Table 15-9. -/
def LIFE_USED (k : Nat) : Nat := key 0x2155 (0x01 + k)
/-- 0x2156:01, 15 Table 15-9. -/
def AGE_FACTOR (k : Nat) : Nat := key 0x2156 (0x01 + k)
/-- 0x2157:01, 15 Table 15-9. -/
def MOD_BASELINE : Nat := key 0x2157 0x01
/-- 0x2158:01, 15 Table 15-9. -/
def I_BAND : Nat := key 0x2158 0x01
/-- 0x2158:02, 15 Table 15-9. -/
def T_REF : Nat := key 0x2158 0x02
/-- 0x2158:03, 15 Table 15-9. -/
def T_BAND : Nat := key 0x2158 0x03
/-- 0x2158:04, 15 Table 15-9. -/
def RTH : Nat := key 0x2158 0x04
/-- 0x2158:05, 15 Table 15-9. -/
def TAU_TH : Nat := key 0x2158 0x05
/-- 0x2158:06, 15 Table 15-9. -/
def ESW : Nat := key 0x2158 0x06
/-- 0x2158:07, 15 Table 15-9. -/
def N_REF : Nat := key 0x2158 0x07
/-- 0x2158:08, 15 Table 15-9. -/
def DT_REF : Nat := key 0x2158 0x08
/-- 0x2158:09, 15 Table 15-9. -/
def LIFE_EXP : Nat := key 0x2158 0x09
/-- 0x2158:0A, 15 Table 15-9. -/
def DRIFT_PERIOD : Nat := key 0x2158 0x0A
/-- 0x2159:01, 15 Table 15-9. -/
def RF_LANE : Nat := key 0x2159 0x01
/-- 0x215A:01, 15 Table 15-9. -/
def RF_BIN (k : Nat) : Nat := key 0x215A (0x01 + k)
/-- 0x2160:01, 15 Table 15-9. -/
def REPLAN_EN : Nat := key 0x2160 0x01
/-- 0x2160:02, 15 Table 15-9. -/
def DRIFT_START : Nat := key 0x2160 0x02
/-- 0x2160:03, 15 Table 15-9. -/
def DRIFT_END : Nat := key 0x2160 0x03
/-- 0x2160:04, 15 Table 15-9. -/
def LIFE_START : Nat := key 0x2160 0x04
/-- 0x2160:05, 15 Table 15-9. -/
def LIFE_END : Nat := key 0x2160 0x05
/-- 0x2160:06, 15 Table 15-9. -/
def FSW_REF : Nat := key 0x2160 0x06
/-- 0x2160:07, 15 Table 15-9. -/
def FSW_FLOOR : Nat := key 0x2160 0x07
/-- 0x2160:08, 15 Table 15-9. -/
def FSW_CEIL : Nat := key 0x2160 0x08
/-- 0x2161:01, 15 Table 15-9. -/
def REF_MARGIN (k : Nat) : Nat := key 0x2161 (0x01 + k)
/-- 0x2162:01, 15 Table 15-9. -/
def REPLAN_LOG (k : Nat) : Nat := key 0x2162 (0x01 + k)
/-- 0x2163:01, 15 Table 15-9. -/
def REPLAN_TIME (k : Nat) : Nat := key 0x2163 (0x01 + k)
/-- 0x2200:01, 11 Table 11-3. -/
def CLK_STATUS : Nat := key 0x2200 0x01
/-- 0x2200:02, 11 Table 11-3. -/
def HOLDOVER_BOUND : Nat := key 0x2200 0x02
/-- 0x2200:03, 11 Table 11-3. -/
def RELOCK : Nat := key 0x2200 0x03
/-- 0x2200:04, 11 Table 11-3. -/
def XIN_LOSSES : Nat := key 0x2200 0x04
/-- 0x2200:05, 11 Table 11-3. -/
def HOLDOVER_COUNT : Nat := key 0x2200 0x05
/-- 0x2210:01, 11 Table 11-3. -/
def PLL_STATUS (n : Nat) : Nat := key (0x2210 + n) 0x01
/-- 0x2210:02, 11 Table 11-3. -/
def PLL_BAND (n : Nat) : Nat := key (0x2210 + n) 0x02
/-- 0x2210:03, 11 Table 11-3. -/
def FREQ_ERR (n : Nat) : Nat := key (0x2210 + n) 0x03
/-- 0x2210:04, 11 Table 11-3. -/
def DITHER_EN (n : Nat) : Nat := key (0x2210 + n) 0x04
/-- 0x2210:05, 11 Table 11-3. -/
def DITHER_SEED (n : Nat) : Nat := key (0x2210 + n) 0x05
/-- 0x2210:06, 11 Table 11-3. -/
def LOCK_COUNT (n : Nat) : Nat := key (0x2210 + n) 0x06
/-- 0x2210:07, 11 Table 11-3. -/
def LOL_COUNT (n : Nat) : Nat := key (0x2210 + n) 0x07
/-- 0x2210:08, 11 Table 11-3. -/
def HOLDOVER_MS (n : Nat) : Nat := key (0x2210 + n) 0x08
/-- 0x2218:01, 11 Table 11-3. -/
def EDGE_OFS : Nat := key 0x2218 0x01
/-- 0x2218:02, 11 Table 11-3. -/
def EDGE_OFS_ACT : Nat := key 0x2218 0x02
/-- 0x2218:03, 11 Table 11-3. -/
def ALIGN_ERR : Nat := key 0x2218 0x03
/-- 0x2218:04, 11 Table 11-3. -/
def FINE_STEPS : Nat := key 0x2218 0x04
/-- 0x2220:01, 11 Table 11-4. -/
def TIME_NOW : Nat := key 0x2220 0x01
/-- 0x2220:02, 11 Table 11-4. -/
def TIME_FRAC : Nat := key 0x2220 0x02
/-- 0x2220:03, 11 Table 11-4. -/
def TIME_STATE : Nat := key 0x2220 0x03
/-- 0x2220:04, 11 Table 11-4. -/
def RATE : Nat := key 0x2220 0x04
/-- 0x2220:05, 11 Table 11-4. -/
def SLEW_RATE : Nat := key 0x2220 0x05
/-- 0x2220:06, 11 Table 11-4. -/
def SERVO_TC : Nat := key 0x2220 0x06
/-- 0x2220:07, 11 Table 11-4. -/
def LOCK_TH : Nat := key 0x2220 0x07
/-- 0x2220:08, 11 Table 11-4. -/
def TIME_SET_VAL : Nat := key 0x2220 0x08
/-- 0x2220:09, 11 Table 11-4. -/
def TIME_SET : Nat := key 0x2220 0x09
/-- 0x2220:0A, 11 Table 11-4. -/
def RESTEP : Nat := key 0x2220 0x0A
/-- 0x2220:0B, 11 Table 11-4. -/
def TIME_FLAGS : Nat := key 0x2220 0x0B
/-- 0x2220:0C, 11 Table 11-4. -/
def STEP_COUNT : Nat := key 0x2220 0x0C
/-- 0x2220:0D, 11 Table 11-4. -/
def STEP_OLD : Nat := key 0x2220 0x0D
/-- 0x2220:0E, 11 Table 11-4. -/
def STEP_NEW : Nat := key 0x2220 0x0E
/-- 0x2230:01, 11 Table 11-5. -/
def PTP_PORTS : Nat := key 0x2230 0x01
/-- 0x2230:02, 11 Table 11-5. -/
def DOMAIN : Nat := key 0x2230 0x02
/-- 0x2230:03, 11 Table 11-5. -/
def CLOCK_MODE : Nat := key 0x2230 0x03
/-- 0x2230:04, 11 Table 11-5. -/
def PRIORITY1 : Nat := key 0x2230 0x04
/-- 0x2230:05, 11 Table 11-5. -/
def PRIORITY2 : Nat := key 0x2230 0x05
/-- 0x2230:06, 11 Table 11-5. -/
def VLAN : Nat := key 0x2230 0x06
/-- 0x2230:07, 11 Table 11-5. -/
def ANN_TO : Nat := key 0x2230 0x07
/-- 0x2230:08, 11 Table 11-5. -/
def OFFSET : Nat := key 0x2230 0x08
/-- 0x2230:09, 11 Table 11-5. -/
def PATH_DELAY : Nat := key 0x2230 0x09
/-- 0x2230:0A, 11 Table 11-5. -/
def GM_ID : Nat := key 0x2230 0x0A
/-- 0x2230:0B, 11 Table 11-5. -/
def SLAVE_PORT : Nat := key 0x2230 0x0B
/-- 0x2230:0C, 11 Table 11-5. -/
def PORT_STATE : Nat := key 0x2230 0x0C
/-- 0x2230:0D, 11 Table 11-5. -/
def CLOCK_ID : Nat := key 0x2230 0x0D
/-- 0x2231:01, 11 Table 11-5. -/
def RX_LAT (k : Nat) : Nat := key 0x2231 (0x01 + k)
/-- 0x2232:01, 11 Table 11-5. -/
def TX_LAT (k : Nat) : Nat := key 0x2232 (0x01 + k)
/-- 0x2233:01, 11 Table 11-5. -/
def SYNC_RX (k : Nat) : Nat := key 0x2233 (0x01 + k)
/-- 0x2240:01, 11 Table 11-6. -/
def TA_CFG (n : Nat) : Nat := key (0x2240 + n) 0x01
/-- 0x2240:02, 11 Table 11-6. -/
def TA_START (n : Nat) : Nat := key (0x2240 + n) 0x02
/-- 0x2240:03, 11 Table 11-6. -/
def TA_START_FRAC (n : Nat) : Nat := key (0x2240 + n) 0x03
/-- 0x2240:04, 11 Table 11-6. -/
def TA_PERIOD (n : Nat) : Nat := key (0x2240 + n) 0x04
/-- 0x2240:05, 11 Table 11-6. -/
def TA_PERIOD_FRAC (n : Nat) : Nat := key (0x2240 + n) 0x05
/-- 0x2240:06, 11 Table 11-6. -/
def TA_ADV (n : Nat) : Nat := key (0x2240 + n) 0x06
/-- 0x2240:07, 11 Table 11-6. -/
def TA_NEXT (n : Nat) : Nat := key (0x2240 + n) 0x07
/-- 0x2240:08, 11 Table 11-6. -/
def TA_COUNT (n : Nat) : Nat := key (0x2240 + n) 0x08
/-- 0x2240:09, 11 Table 11-6. -/
def TA_STATUS (n : Nat) : Nat := key (0x2240 + n) 0x09
/-- 0x2300:01, 12 Table 12-5. -/
def DRAM_INSTALLED : Nat := key 0x2300 0x01
/-- 0x2300:02, 12 Table 12-5. -/
def DRAM_SIZE : Nat := key 0x2300 0x02
/-- 0x2300:03, 12 Table 12-5. -/
def DRAM_STATUS : Nat := key 0x2300 0x03
/-- 0x2300:04, 12 Table 12-5. -/
def INIT_PROG : Nat := key 0x2300 0x04
/-- 0x2300:05, 12 Table 12-5. -/
def ECC_CLEAR : Nat := key 0x2300 0x05
/-- 0x2300:06, 12 Table 12-5. -/
def SRAM_FREE : Nat := key 0x2300 0x06
/-- 0x2301:01, 12 Table 12-5. -/
def ECC_CORR (k : Nat) : Nat := key 0x2301 (0x01 + k)
/-- 0x2302:01, 12 Table 12-5. -/
def ECC_UNCORR (k : Nat) : Nat := key 0x2302 (0x01 + k)
/-- 0x2303:01, 12 Table 12-5. -/
def LAST_CE_ADDR (k : Nat) : Nat := key 0x2303 (0x01 + k)
/-- 0x2304:01, 12 Table 12-5. -/
def LAST_UE_ADDR (k : Nat) : Nat := key 0x2304 (0x01 + k)
/-- 0x2310:01, 12 Table 12-5. -/
def SCRUB_ADDR : Nat := key 0x2310 0x01
/-- 0x2310:02, 12 Table 12-5. -/
def SCRUB_LEN : Nat := key 0x2310 0x02
/-- 0x2310:03, 12 Table 12-5. -/
def SCRUB_CMD : Nat := key 0x2310 0x03
/-- 0x2310:04, 12 Table 12-5. -/
def WORDS_CHECKED : Nat := key 0x2310 0x04
/-- 0x2310:05, 12 Table 12-5. -/
def CORRECTED : Nat := key 0x2310 0x05
/-- 0x2310:06, 12 Table 12-5. -/
def UNCORRECTABLE : Nat := key 0x2310 0x06
/-- 0x2310:07, 12 Table 12-5. -/
def FIRST_UE : Nat := key 0x2310 0x07
/-- 0x2310:08, 12 Table 12-5. -/
def LAST_UE : Nat := key 0x2310 0x08
/-- 0x2310:09, 12 Table 12-5. -/
def SCRUB_NEXT : Nat := key 0x2310 0x09
/-- 0x2320:01, 12 Table 12-6. -/
def DMA_CFG (n : Nat) : Nat := key (0x2320 + n) 0x01
/-- 0x2320:02, 12 Table 12-6. -/
def SRC (n : Nat) : Nat := key (0x2320 + n) 0x02
/-- 0x2320:03, 12 Table 12-6. -/
def DST (n : Nat) : Nat := key (0x2320 + n) 0x03
/-- 0x2320:04, 12 Table 12-6. -/
def COUNT (n : Nat) : Nat := key (0x2320 + n) 0x04
/-- 0x2320:05, 12 Table 12-6. -/
def TIMEOUT (n : Nat) : Nat := key (0x2320 + n) 0x05
/-- 0x2320:06, 12 Table 12-6. -/
def START (n : Nat) : Nat := key (0x2320 + n) 0x06
/-- 0x2320:07, 12 Table 12-6. -/
def DMA_STATUS (n : Nat) : Nat := key (0x2320 + n) 0x07
/-- 0x2320:08, 12 Table 12-6. -/
def REMAIN (n : Nat) : Nat := key (0x2320 + n) 0x08
/-- 0x2320:09, 12 Table 12-6. -/
def CUR_SRC (n : Nat) : Nat := key (0x2320 + n) 0x09
/-- 0x2320:0A, 12 Table 12-6. -/
def CUR_DST (n : Nat) : Nat := key (0x2320 + n) 0x0A
/-- 0x2320:0B, 12 Table 12-6. -/
def DONE_COUNT (n : Nat) : Nat := key (0x2320 + n) 0x0B
/-- 0x2330:01, 12 Table 12-6. -/
def DMA_DONE_EVT : Nat := key 0x2330 0x01
/-- 0x2340:01, 12 Table 12-7. -/
def MEM_ADDR : Nat := key 0x2340 0x01
/-- 0x2340:02, 12 Table 12-7. -/
def MEM_LEN : Nat := key 0x2340 0x02
/-- 0x2340:03, 12 Table 12-7. -/
def MEM_READ : Nat := key 0x2340 0x03
/-- 0x2340:04, 12 Table 12-7. -/
def MEM_WRITE : Nat := key 0x2340 0x04
/-- 0x2340:05, 12 Table 12-7. -/
def MEM_RESULT : Nat := key 0x2340 0x05
/-- 0x2341:01, 12 Table 12-7. -/
def MEM_DATA (k : Nat) : Nat := key 0x2341 (0x01 + k)
/-- 0x2400:01, 08 Table 8-4. -/
def ADC_EN : Nat := key 0x2400 0x01
/-- 0x2400:02, 08 Table 8-4. -/
def ADC_STATUS : Nat := key 0x2400 0x02
/-- 0x2400:03, 08 Table 8-4. -/
def CAL_TIME : Nat := key 0x2400 0x03
/-- 0x2400:04, 08 Table 8-4. -/
def CAL_EN : Nat := key 0x2400 0x04
/-- 0x2400:05, 08 Table 8-4. -/
def CAL_FORCE : Nat := key 0x2400 0x05
/-- 0x2400:06, 08 Table 8-4. -/
def ROT_COUNT : Nat := key 0x2400 0x06
/-- 0x2400:07, 08 Table 8-4. -/
def ADC_CLEAR : Nat := key 0x2400 0x07
/-- 0x2401:01, 08 Table 8-4. -/
def SLICE_STATUS (k : Nat) : Nat := key 0x2401 (0x01 + k)
/-- 0x2402:01, 08 Table 8-4. -/
def SLICE_OFFSET (k : Nat) : Nat := key 0x2402 (0x01 + k)
/-- 0x2403:01, 08 Table 8-4. -/
def SLICE_GAIN (k : Nat) : Nat := key 0x2403 (0x01 + k)
/-- 0x2404:01, 08 Table 8-4. -/
def SLICE_CAL_TIME (k : Nat) : Nat := key 0x2404 (0x01 + k)
/-- 0x2408:01, 08 Table 8-4. -/
def TRG_CFG (k : Nat) : Nat := key 0x2408 (0x01 + k)
/-- 0x2409:01, 08 Table 8-4. -/
def TRG_TO (k : Nat) : Nat := key 0x2409 (0x01 + k)
/-- 0x240A:01, 08 Table 8-4. -/
def TRG_COUNT (k : Nat) : Nat := key 0x240A (0x01 + k)
/-- 0x240B:01, 08 Table 8-4. -/
def TRG_LOST : Nat := key 0x240B 0x01
/-- 0x2410:01, 08 Table 8-5. -/
def SQ_CFG (n : Nat) : Nat := key (0x2410 + n) 0x01
/-- 0x2410:02, 08 Table 8-5. -/
def REG_TRIG (n : Nat) : Nat := key (0x2410 + n) 0x02
/-- 0x2410:03, 08 Table 8-5. -/
def INJ_TRIG (n : Nat) : Nat := key (0x2410 + n) 0x03
/-- 0x2410:04, 08 Table 8-5. -/
def SQ_SWTRIG (n : Nat) : Nat := key (0x2410 + n) 0x04
/-- 0x2410:05, 08 Table 8-5. -/
def SQ_STATUS (n : Nat) : Nat := key (0x2410 + n) 0x05
/-- 0x2410:06, 08 Table 8-5. -/
def REG_ROUNDS (n : Nat) : Nat := key (0x2410 + n) 0x06
/-- 0x2410:07, 08 Table 8-5. -/
def INJ_ROUNDS (n : Nat) : Nat := key (0x2410 + n) 0x07
/-- 0x2410:08, 08 Table 8-5. -/
def SQ_OVR_COUNT (n : Nat) : Nat := key (0x2410 + n) 0x08
/-- 0x2410:09, 08 Table 8-5. -/
def DELAY_MAX (n : Nat) : Nat := key (0x2410 + n) 0x09
/-- 0x2410:0A, 08 Table 8-5. -/
def DELAYED_COUNT (n : Nat) : Nat := key (0x2410 + n) 0x0A
/-- 0x2420:01, 08 Table 8-5. -/
def REG_ENTRY (n k : Nat) : Nat := key (0x2420 + n) (0x01 + k)
/-- 0x2430:01, 08 Table 8-5. -/
def INJ_ENTRY (n k : Nat) : Nat := key (0x2430 + n) (0x01 + k)
/-- 0x2440:01, 08 Table 8-6. -/
def WIN_LO (k : Nat) : Nat := key 0x2440 (0x01 + k)
/-- 0x2441:01, 08 Table 8-6. -/
def WIN_HI (k : Nat) : Nat := key 0x2441 (0x01 + k)
/-- 0x2442:01, 08 Table 8-6. -/
def RATE_MAX (k : Nat) : Nat := key 0x2442 (0x01 + k)
/-- 0x2443:01, 08 Table 8-6. -/
def STALE_TO (k : Nat) : Nat := key 0x2443 (0x01 + k)
/-- 0x2444:01, 08 Table 8-6. -/
def OW_CFG (k : Nat) : Nat := key 0x2444 (0x01 + k)
/-- 0x2445:01, 08 Table 8-6. -/
def RESULT (k : Nat) : Nat := key 0x2445 (0x01 + k)
/-- 0x2446:01, 08 Table 8-6. -/
def SAMPLE_TIME (k : Nat) : Nat := key 0x2446 (0x01 + k)
/-- 0x2447:01, 08 Table 8-6. -/
def FAULT_COUNT (k : Nat) : Nat := key 0x2447 (0x01 + k)
/-- 0x2448:01, 08 Table 8-6. -/
def OW_DIFF (k : Nat) : Nat := key 0x2448 (0x01 + k)
/-- 0x2450:01, 08 Table 8-6. -/
def OW_SETTLE : Nat := key 0x2450 0x01
/-- 0x2450:02, 08 Table 8-6. -/
def OW_PERIOD : Nat := key 0x2450 0x02
/-- 0x2450:03, 08 Table 8-6. -/
def OW_ABORTS : Nat := key 0x2450 0x03
/-- 0x2450:04, 08 Table 8-6. -/
def OW_MISSED : Nat := key 0x2450 0x04
/-- 0x2450:05, 08 Table 8-6. -/
def OPEN_MASK : Nat := key 0x2450 0x05
/-- 0x2480:01, 08 Table 8-6. -/
def SDC_CFG (k : Nat) : Nat := key 0x2480 (0x01 + k)
/-- 0x2481:01, 08 Table 8-6. -/
def SDC_FREQ (k : Nat) : Nat := key 0x2481 (0x01 + k)
/-- 0x2482:01, 08 Table 8-6. -/
def SDC_STATUS (k : Nat) : Nat := key 0x2482 (0x01 + k)
/-- 0x2490:01, 08 Table 8-6. -/
def SDI_CFG (k : Nat) : Nat := key 0x2490 (0x01 + k)
/-- 0x2491:01, 08 Table 8-6. -/
def SDI_STATUS (k : Nat) : Nat := key 0x2491 (0x01 + k)
/-- 0x2492:01, 08 Table 8-6. -/
def SDI_STALE_COUNT (k : Nat) : Nat := key 0x2492 (0x01 + k)
/-- 0x2493:01, 08 Table 8-6. -/
def STUCK_N : Nat := key 0x2493 0x01
/-- 0x2600:01, 09 Table 9-4. -/
def LANES_ACTIVE : Nat := key 0x2600 0x01
/-- 0x2600:02, 09 Table 9-4. -/
def FILT_CLEAR : Nat := key 0x2600 0x02
/-- 0x2601:01, 09 Table 9-4. -/
def LANE_CFG (k : Nat) : Nat := key 0x2601 (0x01 + k)
/-- 0x2602:01, 09 Table 9-4. -/
def LANE_STATUS (k : Nat) : Nat := key 0x2602 (0x01 + k)
/-- 0x2603:01, 09 Table 9-4. -/
def DELAY (k : Nat) : Nat := key 0x2603 (0x01 + k)
/-- 0x2604:01, 09 Table 9-4. -/
def OUTPUT (k : Nat) : Nat := key 0x2604 (0x01 + k)
/-- 0x2605:01, 09 Table 9-4. -/
def OUT_TIME (k : Nat) : Nat := key 0x2605 (0x01 + k)
/-- 0x2606:01, 09 Table 9-4. -/
def CIC_GAIN (k : Nat) : Nat := key 0x2606 (0x01 + k)
/-- 0x2607:01, 09 Table 9-4. -/
def SAT_COUNT (k : Nat) : Nat := key 0x2607 (0x01 + k)
/-- 0x2608:01, 09 Table 9-4. -/
def LANE_OVR_COUNT (k : Nat) : Nat := key 0x2608 (0x01 + k)
/-- 0x2609:01, 09 Table 9-4. -/
def RESTART_COUNT (k : Nat) : Nat := key 0x2609 (0x01 + k)
/-- 0x2610:01, 09 Table 9-4. -/
def BANK_A (k : Nat) : Nat := key 0x2610 (0x01 + k)
/-- 0x2611:01, 09 Table 9-4. -/
def BANK_B (k : Nat) : Nat := key 0x2611 (0x01 + k)
/-- 0x2612:01, 09 Table 9-4. -/
def BANK_SEL (k : Nat) : Nat := key 0x2612 (0x01 + k)
/-- 0x2613:01, 09 Table 9-4. -/
def FADE_LEN (k : Nat) : Nat := key 0x2613 (0x01 + k)
/-- 0x2614:01, 09 Table 9-4. -/
def FADE_POS (k : Nat) : Nat := key 0x2614 (0x01 + k)
/-- 0x2620:01, 09 Table 9-4. -/
def COEF_LANE : Nat := key 0x2620 0x01
/-- 0x2620:02, 09 Table 9-4. -/
def COEF_BANK : Nat := key 0x2620 0x02
/-- 0x2620:03, 09 Table 9-4. -/
def COEF_ADDR : Nat := key 0x2620 0x03
/-- 0x2620:04, 09 Table 9-4. -/
def COEF_WRITE : Nat := key 0x2620 0x04
/-- 0x2620:05, 09 Table 9-4. -/
def COEF_TAPS : Nat := key 0x2620 0x05
/-- 0x2620:06, 09 Table 9-4. -/
def COEF_DELAY : Nat := key 0x2620 0x06
/-- 0x2620:07, 09 Table 9-4. -/
def COEF_CRC : Nat := key 0x2620 0x07
/-- 0x2620:08, 09 Table 9-4. -/
def COEF_COMMIT : Nat := key 0x2620 0x08
/-- 0x2620:09, 09 Table 9-4. -/
def COEF_STATUS : Nat := key 0x2620 0x09
/-- 0x2621:01, 09 Table 9-4. -/
def COEF_BLOCK (k : Nat) : Nat := key 0x2621 (0x01 + k)
/-- 0x2710:01, 10 Table 10-6. -/
def RC_CFG (n : Nat) : Nat := key (0x2710 + n) 0x01
/-- 0x2710:02, 10 Table 10-6. -/
def RC_BASE (n : Nat) : Nat := key (0x2710 + n) 0x02
/-- 0x2710:03, 10 Table 10-6. -/
def SPER (n : Nat) : Nat := key (0x2710 + n) 0x03
/-- 0x2710:04, 10 Table 10-6. -/
def D_RED (n k : Nat) : Nat := key (0x2710 + n) (0x04 + k)
/-- 0x2710:08, 10 Table 10-6. -/
def ROWS (n k : Nat) : Nat := key (0x2710 + n) (0x08 + k)
/-- 0x2710:0C, 10 Table 10-6. -/
def POST (n k : Nat) : Nat := key (0x2710 + n) (0x0C + k)
/-- 0x2710:10, 10 Table 10-6. -/
def TRIG (n k : Nat) : Nat := key (0x2710 + n) (0x10 + 3 * k)
/-- 0x2710:11, 10 Table 10-6. -/
def LEVEL (n k : Nat) : Nat := key (0x2710 + n) (0x11 + 3 * k)
/-- 0x2710:12, 10 Table 10-6. -/
def HYST (n k : Nat) : Nat := key (0x2710 + n) (0x12 + 3 * k)
/-- 0x2710:16, 10 Table 10-6. -/
def TRG_IN (n : Nat) : Nat := key (0x2710 + n) 0x16
/-- 0x2710:17, 10 Table 10-6. -/
def TRG_OUT (n : Nat) : Nat := key (0x2710 + n) 0x17
/-- 0x2710:18, 10 Table 10-6. -/
def RC_SWTRIG (n : Nat) : Nat := key (0x2710 + n) 0x18
/-- 0x2710:19, 10 Table 10-6. -/
def RELEASE (n : Nat) : Nat := key (0x2710 + n) 0x19
/-- 0x2710:1A, 10 Table 10-6. -/
def PROTECT (n : Nat) : Nat := key (0x2710 + n) 0x1A
/-- 0x2710:1B, 10 Table 10-6. -/
def ARM (n : Nat) : Nat := key (0x2710 + n) 0x1B
/-- 0x2720:01, 10 Table 10-6. -/
def CH_SRC (n k : Nat) : Nat := key (0x2720 + n) (0x01 + k)
/-- 0x2730:01, 10 Table 10-7. -/
def RC_STATUS (n : Nat) : Nat := key (0x2730 + n) 0x01
/-- 0x2730:02, 10 Table 10-7. -/
def SLOT_STATE (n : Nat) : Nat := key (0x2730 + n) 0x02
/-- 0x2730:03, 10 Table 10-7. -/
def CUR_SLOT (n : Nat) : Nat := key (0x2730 + n) 0x03
/-- 0x2730:04, 10 Table 10-7. -/
def PRE_AVAIL (n : Nat) : Nat := key (0x2730 + n) 0x04
/-- 0x2730:05, 10 Table 10-7. -/
def TRIG_COUNT (n : Nat) : Nat := key (0x2730 + n) 0x05
/-- 0x2730:06, 10 Table 10-7. -/
def TRIG_IGNORED (n : Nat) : Nat := key (0x2730 + n) 0x06
/-- 0x2730:07, 10 Table 10-7. -/
def GAP_COUNT (n : Nat) : Nat := key (0x2730 + n) 0x07
/-- 0x2730:08, 10 Table 10-7. -/
def RECORDS (n : Nat) : Nat := key (0x2730 + n) 0x08
/-- 0x2730:09, 10 Table 10-7. -/
def LAST_TRIG (n : Nat) : Nat := key (0x2730 + n) 0x09
/-- 0x2730:0A, 10 Table 10-7. -/
def LAST_FRAC (n : Nat) : Nat := key (0x2730 + n) 0x0A
/-- 0x2730:0B, 10 Table 10-7. -/
def LAST_SRC (n : Nat) : Nat := key (0x2730 + n) 0x0B
/-- 0x2740:01, 10 Table 10-8. -/
def TB_CFG : Nat := key 0x2740 0x01
/-- 0x2740:02, 10 Table 10-8. -/
def TRG_DELAY (k : Nat) : Nat := key 0x2740 (0x02 + k)
/-- 0x2740:06, 10 Table 10-8. -/
def TB_CAL : Nat := key 0x2740 0x06
/-- 0x2740:07, 10 Table 10-8. -/
def TB_STATUS : Nat := key 0x2740 0x07
/-- 0x2740:08, 10 Table 10-8. -/
def TB_OFFSET : Nat := key 0x2740 0x08
/-- 0x2740:09, 10 Table 10-8. -/
def TRG_EVENTS (k : Nat) : Nat := key 0x2740 (0x09 + k)
/-- 0x2740:0D, 10 Table 10-8. -/
def TRG_DISCARD : Nat := key 0x2740 0x0D
/-- 0x2750:01, 10 Table 10-8. -/
def IX_INST : Nat := key 0x2750 0x01
/-- 0x2750:02, 10 Table 10-8. -/
def IX_SLOT : Nat := key 0x2750 0x02
/-- 0x2750:03, 10 Table 10-8. -/
def IX_READ : Nat := key 0x2750 0x03
/-- 0x2751:01, 10 Table 10-8. -/
def IX_DATA (k : Nat) : Nat := key 0x2751 (0x01 + k)
/-- 0x2760:01, 10 Table 10-8. -/
def RD_INST : Nat := key 0x2760 0x01
/-- 0x2760:02, 10 Table 10-8. -/
def RD_SLOT : Nat := key 0x2760 0x02
/-- 0x2760:03, 10 Table 10-8. -/
def RD_REGION : Nat := key 0x2760 0x03
/-- 0x2760:04, 10 Table 10-8. -/
def RD_OFS : Nat := key 0x2760 0x04
/-- 0x2760:05, 10 Table 10-8. -/
def RD_READ : Nat := key 0x2760 0x05
/-- 0x2760:06, 10 Table 10-8. -/
def RD_STATUS : Nat := key 0x2760 0x06
/-- 0x2760:07, 10 Table 10-8. -/
def RD_LEN : Nat := key 0x2760 0x07
/-- 0x2761:01, 10 Table 10-8. -/
def RD_DATA (k : Nat) : Nat := key 0x2761 (0x01 + k)
/-- 0x2800:01, 06 Table 6-7. -/
def PWM_STATUS : Nat := key 0x2800 0x01
/-- 0x2800:02, 06 Table 6-7. -/
def TICK : Nat := key 0x2800 0x02
/-- 0x2800:03, 06 Table 6-7. -/
def SHOOT_COUNT : Nat := key 0x2800 0x03
/-- 0x2800:04, 06 Table 6-7. -/
def CLAMP_COUNT : Nat := key 0x2800 0x04
/-- 0x2800:05, 06 Table 6-7. -/
def DROP_COUNT : Nat := key 0x2800 0x05
/-- 0x2800:06, 06 Table 6-7. -/
def CARRY_LOST : Nat := key 0x2800 0x06
/-- 0x2800:07, 06 Table 6-7. -/
def PWM_CLEAR : Nat := key 0x2800 0x07
/-- 0x2801:01, 06 Table 6-7. -/
def CG_START : Nat := key 0x2801 0x01
/-- 0x2801:02, 06 Table 6-7. -/
def START_AT : Nat := key 0x2801 0x02
/-- 0x2801:03, 06 Table 6-7. -/
def CG_STOP : Nat := key 0x2801 0x03
/-- 0x2801:04, 06 Table 6-7. -/
def CG_RUNNING : Nat := key 0x2801 0x04
/-- 0x2804:01, 06 Table 6-7. -/
def CG_CFG (k : Nat) : Nat := key 0x2804 (0x01 + k)
/-- 0x2805:01, 06 Table 6-7. -/
def CG_EVT (k : Nat) : Nat := key 0x2805 (0x01 + k)
/-- 0x2806:01, 06 Table 6-7. -/
def CG_PER_ACT (k : Nat) : Nat := key 0x2806 (0x01 + k)
/-- 0x2807:01, 06 Table 6-7. -/
def CG_PH_ACT (k : Nat) : Nat := key 0x2807 (0x01 + k)
/-- 0x2808:01, 06 Table 6-7. -/
def CG_COUNT (k : Nat) : Nat := key 0x2808 (0x01 + k)
/-- 0x280A:01, 06 Table 6-7. -/
def LG_CFG (k : Nat) : Nat := key 0x280A (0x01 + k)
/-- 0x280B:01, 06 Table 6-7. -/
def LG_STATUS (k : Nat) : Nat := key 0x280B (0x01 + k)
/-- 0x280C:01, 06 Table 6-7. -/
def LG_TRANSFERS (k : Nat) : Nat := key 0x280C (0x01 + k)
/-- 0x280D:01, 06 Table 6-7. -/
def SW_PORT : Nat := key 0x280D 0x01
/-- 0x280D:02, 06 Table 6-7. -/
def SW_VALUE : Nat := key 0x280D 0x02
/-- 0x280D:03, 06 Table 6-7. -/
def SW_WRITE : Nat := key 0x280D 0x03
/-- 0x280D:04, 06 Table 6-7. -/
def SW_LOAD_ALL : Nat := key 0x280D 0x04
/-- 0x2810:01, 06 Table 6-8. -/
def CH_MINPULSE (c : Nat) : Nat := key (0x2810 + c / 128) (1 + c % 128)
/-- 0x2812:01, 06 Table 6-8. -/
def CH_CFG (c : Nat) : Nat := key (0x2812 + c / 128) (1 + c % 128)
/-- 0x2814:01, 06 Table 6-8. -/
def CH_STATUS (c : Nat) : Nat := key (0x2814 + c / 128) (1 + c % 128)
/-- 0x2818:01, 06 Table 6-8. -/
def PAIR_DT (k : Nat) : Nat := key 0x2818 (0x01 + k)
/-- 0x2819:01, 06 Table 6-8. -/
def PAIR_SHOOT (k : Nat) : Nat := key 0x2819 (0x01 + k)
/-- 0x2820:01, 06 Table 6-8. -/
def CH_CBC (c : Nat) : Nat := key (0x2820 + c / 128) (1 + c % 128)
/-- 0x2824:01, 06 Table 6-8. -/
def FORCE_OFF (k : Nat) : Nat := key 0x2824 (0x01 + k)
/-- 0x2840:01, 06 Table 6-8. -/
def TRIP_CFG (k : Nat) : Nat := key 0x2840 (0x01 + k)
/-- 0x2841:01, 06 Table 6-8. -/
def TRETRY : Nat := key 0x2841 0x01
/-- 0x2841:02, 06 Table 6-8. -/
def NTRY : Nat := key 0x2841 0x02
/-- 0x2841:03, 06 Table 6-8. -/
def TWIN : Nat := key 0x2841 0x03
/-- 0x2841:04, 06 Table 6-8. -/
def TRIP_CLEAR : Nat := key 0x2841 0x04
/-- 0x2841:05, 06 Table 6-8. -/
def TRIP_ACTIVE : Nat := key 0x2841 0x05
/-- 0x2841:06, 06 Table 6-8. -/
def TRIP_FAULT : Nat := key 0x2841 0x06
/-- 0x2841:07, 06 Table 6-8. -/
def TRIP_LATCHED : Nat := key 0x2841 0x07
/-- 0x2842:01, 06 Table 6-8. -/
def TRIP_COUNT (k : Nat) : Nat := key 0x2842 (0x01 + k)
/-- 0x2843:01, 06 Table 6-8. -/
def TRIP_TIME (k : Nat) : Nat := key 0x2843 (0x01 + k)
/-- 0x2844:01, 06 Table 6-8. -/
def TRIP_TRIES (k : Nat) : Nat := key 0x2844 (0x01 + k)
/-- 0x2850:01, 06 Table 6-8. -/
def TRIP_MAP (n k : Nat) : Nat := key (0x2850 + n) (0x01 + k)
/-- 0x2A00:01, 07 Table 7-12. -/
def LEAD : Nat := key 0x2A00 0x01
/-- 0x2A00:02, 07 Table 7-12. -/
def UPLINK_TO : Nat := key 0x2A00 0x02
/-- 0x2A00:03, 07 Table 7-12. -/
def LANES_LIVE : Nat := key 0x2A00 0x03
/-- 0x2A00:04, 07 Table 7-12. -/
def LANE_FAULT : Nat := key 0x2A00 0x04
/-- 0x2A00:05, 07 Table 7-12. -/
def LANE_LATCHED : Nat := key 0x2A00 0x05
/-- 0x2A00:06, 07 Table 7-12. -/
def GL_CLEAR : Nat := key 0x2A00 0x06
/-- 0x2A00:07, 07 Table 7-12. -/
def TRAIN_RESET : Nat := key 0x2A00 0x07
/-- 0x2A00:08, 07 Table 7-12. -/
def BATON_TX : Nat := key 0x2A00 0x08
/-- 0x2A01:01, 07 Table 7-12. -/
def GL_CFG (k : Nat) : Nat := key 0x2A01 (0x01 + k)
/-- 0x2A02:01, 07 Table 7-12. -/
def GL_STATUS (k : Nat) : Nat := key 0x2A02 (0x01 + k)
/-- 0x2A03:01, 07 Table 7-12. -/
def LINK_DELAY (k : Nat) : Nat := key 0x2A03 (0x01 + k)
/-- 0x2A04:01, 07 Table 7-12. -/
def CRC_UP (k : Nat) : Nat := key 0x2A04 (0x01 + k)
/-- 0x2A05:01, 07 Table 7-12. -/
def LOST_DN (k : Nat) : Nat := key 0x2A05 (0x01 + k)
/-- 0x2A06:01, 07 Table 7-12. -/
def LATE_TX (k : Nat) : Nat := key 0x2A06 (0x01 + k)
/-- 0x2A07:01, 07 Table 7-12. -/
def FAULT_TRIES (k : Nat) : Nat := key 0x2A07 (0x01 + k)
/-- 0x2A08:01, 07 Table 7-12. -/
def UP_BATON (k : Nat) : Nat := key 0x2A08 (0x01 + k)
/-- 0x2A09:01, 07 Table 7-12. -/
def GU_IDENT (k : Nat) : Nat := key 0x2A09 (0x01 + k)
/-- 0x2A10:01, 07 Table 7-12. -/
def GU_LANE : Nat := key 0x2A10 0x01
/-- 0x2A10:02, 07 Table 7-12. -/
def GU_REG : Nat := key 0x2A10 0x02
/-- 0x2A10:03, 07 Table 7-12. -/
def GU_VALUE : Nat := key 0x2A10 0x03
/-- 0x2A10:04, 07 Table 7-12. -/
def GU_WRITE : Nat := key 0x2A10 0x04
/-- 0x2A10:05, 07 Table 7-12. -/
def GU_READ : Nat := key 0x2A10 0x05
/-- 0x2A10:06, 07 Table 7-12. -/
def GU_RESULT : Nat := key 0x2A10 0x06
/-- 0x2A20:01, 07 Table 7-15. -/
def DVDT_ON_TGT (n : Nat) : Nat := key (0x2A20 + n) 0x01
/-- 0x2A20:02, 07 Table 7-15. -/
def DVDT_OFF_TGT (n : Nat) : Nat := key (0x2A20 + n) 0x02
/-- 0x2A20:03, 07 Table 7-15. -/
def TP_BAND (n : Nat) : Nat := key (0x2A20 + n) 0x03
/-- 0x2A20:04, 07 Table 7-15. -/
def OVS_LIM (n : Nat) : Nat := key (0x2A20 + n) 0x04
/-- 0x2A20:05, 07 Table 7-15. -/
def CODE_MIN (n : Nat) : Nat := key (0x2A20 + n) 0x05
/-- 0x2A20:06, 07 Table 7-15. -/
def CODE_MAX (n : Nat) : Nat := key (0x2A20 + n) 0x06
/-- 0x2A20:07, 07 Table 7-15. -/
def CODE_ON_SET (n : Nat) : Nat := key (0x2A20 + n) 0x07
/-- 0x2A20:08, 07 Table 7-15. -/
def CODE_OFF_SET (n : Nat) : Nat := key (0x2A20 + n) 0x08
/-- 0x2A20:09, 07 Table 7-15. -/
def TRAIN_N (n : Nat) : Nat := key (0x2A20 + n) 0x09
/-- 0x2A20:0A, 07 Table 7-15. -/
def IMIN (n : Nat) : Nat := key (0x2A20 + n) 0x0A
/-- 0x2A20:0B, 07 Table 7-15. -/
def SCALE_MIN (n : Nat) : Nat := key (0x2A20 + n) 0x0B
/-- 0x2A40:01, 07 Table 7-15. -/
def CODES (k : Nat) : Nat := key 0x2A40 (0x01 + k)
/-- 0x2A41:01, 07 Table 7-15. -/
def TGT_SCALE (k : Nat) : Nat := key 0x2A41 (0x01 + k)
/-- 0x2A42:01, 07 Table 7-15. -/
def TRAIN_STEPS (k : Nat) : Nat := key 0x2A42 (0x01 + k)
/-- 0x2B00:01, 07 Table 7-16. -/
def LD_CFG (k : Nat) : Nat := key 0x2B00 (0x01 + k)
/-- 0x2B01:01, 07 Table 7-16. -/
def LD_DRIVE (k : Nat) : Nat := key 0x2B01 (0x01 + k)
/-- 0x2B02:01, 07 Table 7-16. -/
def LD_DT (k : Nat) : Nat := key 0x2B02 (0x01 + k)
/-- 0x2B03:01, 07 Table 7-16. -/
def REF_TH (k : Nat) : Nat := key 0x2B03 (0x01 + k)
/-- 0x2B04:01, 07 Table 7-16. -/
def TREF (k : Nat) : Nat := key 0x2B04 (0x01 + k)
/-- 0x2B05:01, 07 Table 7-16. -/
def RPER (k : Nat) : Nat := key 0x2B05 (0x01 + k)
/-- 0x2B06:01, 07 Table 7-16. -/
def LD_STATUS (k : Nat) : Nat := key 0x2B06 (0x01 + k)
/-- 0x2B07:01, 07 Table 7-16. -/
def VBST (k : Nat) : Nat := key 0x2B07 (0x01 + k)
/-- 0x2B08:01, 07 Table 7-16. -/
def REFRESH_COUNT (k : Nat) : Nat := key 0x2B08 (0x01 + k)
/-- 0x2B10:01, 07 Table 7-16. -/
def SD_CFG (k : Nat) : Nat := key 0x2B10 (0x01 + k)
/-- 0x2B11:01, 07 Table 7-16. -/
def SD_STATUS (k : Nat) : Nat := key 0x2B11 (0x01 + k)
/-- 0x2B20:01, 07 Table 7-16. -/
def VDRV : Nat := key 0x2B20 0x01
/-- 0x2B20:02, 07 Table 7-16. -/
def DRV_CLEAR : Nat := key 0x2B20 0x02
/-- 0x2B20:03, 07 Table 7-16. -/
def DRV_LATCHED : Nat := key 0x2B20 0x03
/-- 0x2C00:01, 05 Table 5-14. -/
def LAW_BUILTIN : Nat := key 0x2C00 0x01
/-- 0x2C00:02, 05 Table 5-14. -/
def STEP_SLOW : Nat := key 0x2C00 0x02
/-- 0x2C00:03, 05 Table 5-14. -/
def STEP_MEAS : Nat := key 0x2C00 0x03
/-- 0x2C00:04, 05 Table 5-14. -/
def RUNNING : Nat := key 0x2C00 0x04
/-- 0x2C00:05, 05 Table 5-14. -/
def FAULTED : Nat := key 0x2C00 0x05
/-- 0x2C00:06, 05 Table 5-14. -/
def MISSED : Nat := key 0x2C00 0x06
/-- 0x2C00:07, 05 Table 5-14. -/
def SLACK_WARN : Nat := key 0x2C00 0x07
/-- 0x2C10:01, 05 Table 5-14. -/
def ENABLE (n : Nat) : Nat := key (0x2C10 + n) 0x01
/-- 0x2C10:02, 05 Table 5-14. -/
def ALARM (n : Nat) : Nat := key (0x2C10 + n) 0x02
/-- 0x2C10:03, 05 Table 5-14. -/
def ENTRY (n : Nat) : Nat := key (0x2C10 + n) 0x03
/-- 0x2C10:04, 05 Table 5-14. -/
def DEADLINE_OFS (n : Nat) : Nat := key (0x2C10 + n) 0x04
/-- 0x2C10:05, 05 Table 5-14. -/
def AUTO_LOAD (n : Nat) : Nat := key (0x2C10 + n) 0x05
/-- 0x2C10:06, 05 Table 5-14. -/
def LOAD (n : Nat) : Nat := key (0x2C10 + n) 0x06
/-- 0x2C20:01, 05 Table 5-14. -/
def ENG_STATUS (n : Nat) : Nat := key (0x2C20 + n) 0x01
/-- 0x2C20:02, 05 Table 5-14. -/
def MISS_COUNT (n : Nat) : Nat := key (0x2C20 + n) 0x02
/-- 0x2C20:03, 05 Table 5-14. -/
def OVERRUN_COUNT (n : Nat) : Nat := key (0x2C20 + n) 0x03
/-- 0x2C20:04, 05 Table 5-14. -/
def LATE_WRITES (n : Nat) : Nat := key (0x2C20 + n) 0x04
/-- 0x2C20:05, 05 Table 5-14. -/
def CYCLES (n : Nat) : Nat := key (0x2C20 + n) 0x05
/-- 0x2C20:06, 05 Table 5-14. -/
def FAULT_CODE (n : Nat) : Nat := key (0x2C20 + n) 0x06
/-- 0x2C20:07, 05 Table 5-14. -/
def FAULT_PC (n : Nat) : Nat := key (0x2C20 + n) 0x07
/-- 0x2C20:08, 05 Table 5-14. -/
def FAULT_TIME (n : Nat) : Nat := key (0x2C20 + n) 0x08
/-- 0x2C20:09, 05 Table 5-14. -/
def SLACK_LAST (n : Nat) : Nat := key (0x2C20 + n) 0x09
/-- 0x2C20:0A, 05 Table 5-14. -/
def SLACK_MIN (n : Nat) : Nat := key (0x2C20 + n) 0x0A
/-- 0x2C20:0B, 05 Table 5-14. -/
def ENG_ECC_CORR (n : Nat) : Nat := key (0x2C20 + n) 0x0B
/-- 0x2C20:0C, 05 Table 5-14. -/
def ENG_CLEAR (n : Nat) : Nat := key (0x2C20 + n) 0x0C
/-- 0x2C30:01, 05 Table 5-14. -/
def IMG_ENGINE : Nat := key 0x2C30 0x01
/-- 0x2C30:02, 05 Table 5-14. -/
def IMG_SPACE : Nat := key 0x2C30 0x02
/-- 0x2C30:03, 05 Table 5-14. -/
def IMG_ADDR : Nat := key 0x2C30 0x03
/-- 0x2C30:04, 05 Table 5-14. -/
def IMG_WRITE : Nat := key 0x2C30 0x04
/-- 0x2C30:05, 05 Table 5-14. -/
def IMG_CRC : Nat := key 0x2C30 0x05
/-- 0x2C30:06, 05 Table 5-14. -/
def IMG_COMMIT : Nat := key 0x2C30 0x06
/-- 0x2C30:07, 05 Table 5-14. -/
def IMG_STATUS : Nat := key 0x2C30 0x07
/-- 0x2C31:01, 05 Table 5-14. -/
def IMG_BLOCK (k : Nat) : Nat := key 0x2C31 (0x01 + k)
/-- 0x2C32:01, 05 Table 5-14. -/
def IMG_INFO (k : Nat) : Nat := key 0x2C32 (0x01 + k)
/-- 0x2D00:01, 05 Table 5-14. -/
def MB_OUT (n k : Nat) : Nat := key (0x2D00 + n) (0x01 + k)
/-- 0x2D00:09, 05 Table 5-14. -/
def MB_IN (n k : Nat) : Nat := key (0x2D00 + n) (0x09 + k)
/-- 0x2D00:0F, 05 Table 5-14. -/
def MB_OUT_SEQ (n : Nat) : Nat := key (0x2D00 + n) 0x0F
/-- 0x2D00:10, 05 Table 5-14. -/
def MB_IN_SEQ (n : Nat) : Nat := key (0x2D00 + n) 0x10
/-- 0x2E00:01, 14 Table 14-7. -/
def PAIR_EN : Nat := key 0x2E00 0x01
/-- 0x2E00:02, 14 Table 14-7. -/
def PAIR_STATUS : Nat := key 0x2E00 0x02
/-- 0x2E00:03, 14 Table 14-7. -/
def BATON_HELD : Nat := key 0x2E00 0x03
/-- 0x2E00:04, 14 Table 14-7. -/
def BATON_KNOWN : Nat := key 0x2E00 0x04
/-- 0x2E00:05, 14 Table 14-7. -/
def HB_MISS_N : Nat := key 0x2E00 0x05
/-- 0x2E00:06, 14 Table 14-7. -/
def FAILOVER_MASK : Nat := key 0x2E00 0x06
/-- 0x2E00:07, 14 Table 14-7. -/
def SOLO_ALLOW : Nat := key 0x2E00 0x07
/-- 0x2E00:08, 14 Table 14-7. -/
def PARTNER_WAIT : Nat := key 0x2E00 0x08
/-- 0x2E00:09, 14 Table 14-7. -/
def SOLO_DELAY : Nat := key 0x2E00 0x09
/-- 0x2E00:0A, 14 Table 14-7. -/
def PAIR_JOIN_T : Nat := key 0x2E00 0x0A
/-- 0x2E00:0B, 14 Table 14-7. -/
def HB_ALARM : Nat := key 0x2E00 0x0B
/-- 0x2E00:0C, 14 Table 14-7. -/
def VEC_DIV : Nat := key 0x2E00 0x0C
/-- 0x2E00:0D, 14 Table 14-7. -/
def SWITCHOVER : Nat := key 0x2E00 0x0D
/-- 0x2E00:0E, 14 Table 14-7. -/
def BATON_RENUMBER : Nat := key 0x2E00 0x0E
/-- 0x2E00:0F, 14 Table 14-7. -/
def TAKEOVER_COUNT : Nat := key 0x2E00 0x0F
/-- 0x2E00:10, 14 Table 14-7. -/
def LAST_TAKEOVER : Nat := key 0x2E00 0x10
/-- 0x2E00:11, 14 Table 14-7. -/
def TAKEOVER_CAUSE : Nat := key 0x2E00 0x11
/-- 0x2E00:12, 14 Table 14-7. -/
def PAIR_TIME_ERR : Nat := key 0x2E00 0x12
/-- 0x2E00:13, 14 Table 14-7. -/
def HB_MISSED : Nat := key 0x2E00 0x13
/-- 0x2E00:14, 14 Table 14-7. -/
def RESYNC_COUNT : Nat := key 0x2E00 0x14
/-- 0x2E01:01, 14 Table 14-7. -/
def BL_DOWN (k : Nat) : Nat := key 0x2E01 (0x01 + k)
/-- 0x2E02:01, 14 Table 14-7. -/
def BL_CRC_ERR (k : Nat) : Nat := key 0x2E02 (0x01 + k)
/-- 0x2F00:01, 13 Table 13-10. -/
def PORT_LEVEL (k : Nat) : Nat := key 0x2F00 (0x01 + k)
/-- 0x2F02:01, 13 Table 13-10. -/
def RX_FRAMES (k : Nat) : Nat := key 0x2F02 (0x01 + k)
/-- 0x2F03:01, 13 Table 13-10. -/
def RX_DROPPED (k : Nat) : Nat := key 0x2F03 (0x01 + k)
/-- 0x2F04:01, 13 Table 13-10. -/
def REFUSED (k : Nat) : Nat := key 0x2F04 (0x01 + k)
/-- 0x2F10:01, 13 Table 13-10. -/
def Q_INDEX : Nat := key 0x2F10 0x01
/-- 0x2F10:02, 13 Table 13-10. -/
def Q_SUB : Nat := key 0x2F10 0x02
/-- 0x2F10:03, 13 Table 13-10. -/
def ACCESS_QUERY : Nat := key 0x2F10 0x03
/-- 0x2F20:01, 13 Table 13-10. -/
def J_STATUS : Nat := key 0x2F20 0x01
/-- 0x2F20:02, 13 Table 13-10. -/
def J_COMMITTED : Nat := key 0x2F20 0x02
/-- 0x2F20:03, 13 Table 13-10. -/
def J_REPLAYS : Nat := key 0x2F20 0x03
/-- 0x2F20:04, 13 Table 13-10. -/
def J_PENDING : Nat := key 0x2F20 0x04
/-- 0x2F20:05, 13 Table 13-10. -/
def SESSION_TO : Nat := key 0x2F20 0x05
/-- 0x2F20:06, 13 Table 13-10. -/
def RETRY_WIN : Nat := key 0x2F20 0x06
/-- 0x2F20:07, 13 Table 13-10. -/
def J_SESSIONS : Nat := key 0x2F20 0x07
/-- 0x2F28:01, 13 Table 13-10. -/
def JQ_PORT : Nat := key 0x2F28 0x01
/-- 0x2F28:02, 13 Table 13-10. -/
def JQ_SESSION : Nat := key 0x2F28 0x02
/-- 0x2F28:03, 13 Table 13-10. -/
def JQ_LAST_SEQ : Nat := key 0x2F28 0x03
/-- 0x2F28:04, 13 Table 13-10. -/
def JQ_LAST_RESULT : Nat := key 0x2F28 0x04
/-- 0x2F30:01, 16 Table 16-5. -/
def CFG_SLOT : Nat := key 0x2F30 0x01
/-- 0x2F30:02, 16 Table 16-5. -/
def CFG_GEN : Nat := key 0x2F30 0x02
/-- 0x2F30:03, 16 Table 16-5. -/
def CFG_SEQ : Nat := key 0x2F30 0x03
/-- 0x2F30:04, 16 Table 16-5. -/
def CFG_STATUS : Nat := key 0x2F30 0x04
/-- 0x2F30:05, 16 Table 16-5. -/
def CFG_UNKNOWN : Nat := key 0x2F30 0x05
/-- 0x2F30:06, 16 Table 16-5. -/
def FACTORY_RESET : Nat := key 0x2F30 0x06
/-- 0x2F40:01, 16 Table 16-5. -/
def PATCH_RUN : Nat := key 0x2F40 0x01
/-- 0x2F40:02, 16 Table 16-5. -/
def PATCH_VER_A : Nat := key 0x2F40 0x02
/-- 0x2F40:03, 16 Table 16-5. -/
def PATCH_VER_B : Nat := key 0x2F40 0x03
/-- 0x2F40:04, 16 Table 16-5. -/
def PATCH_ADDR : Nat := key 0x2F40 0x04
/-- 0x2F40:05, 16 Table 16-5. -/
def PATCH_WRITE : Nat := key 0x2F40 0x05
/-- 0x2F40:06, 16 Table 16-5. -/
def PATCH_LEN : Nat := key 0x2F40 0x06
/-- 0x2F40:07, 16 Table 16-5. -/
def PATCH_CRC : Nat := key 0x2F40 0x07
/-- 0x2F40:08, 16 Table 16-5. -/
def PATCH_COMMIT : Nat := key 0x2F40 0x08
/-- 0x2F40:09, 16 Table 16-5. -/
def PATCH_SELECT : Nat := key 0x2F40 0x09
/-- 0x2F40:0A, 16 Table 16-5. -/
def PATCH_RESTART : Nat := key 0x2F40 0x0A
/-- 0x2F40:0B, 16 Table 16-5. -/
def PATCH_CONFIRM : Nat := key 0x2F40 0x0B
/-- 0x2F40:0C, 16 Table 16-5. -/
def BOOT_RESULT : Nat := key 0x2F40 0x0C
/-- 0x2F41:01, 16 Table 16-5. -/
def PATCH_BLOCK (k : Nat) : Nat := key 0x2F41 (0x01 + k)
/-- 0x3000:01, 02 Table 2-4. -/
def S_BASE (n : Nat) : Nat := key (0x3000 + n) 0x01
/-- 0x3000:02, 02 Table 2-4. -/
def V_BASE (n : Nat) : Nat := key (0x3000 + n) 0x02
/-- 0x3000:03, 02 Table 2-4. -/
def F_BASE (n : Nat) : Nat := key (0x3000 + n) 0x03
/-- 0x3000:04, 02 Table 2-4. -/
def I_BASE (n : Nat) : Nat := key (0x3000 + n) 0x04
/-- 0x3000:05, 02 Table 2-4. -/
def Z_BASE (n : Nat) : Nat := key (0x3000 + n) 0x05
/-- 0x3000:06, 02 Table 2-4. -/
def VDC_BASE (n : Nat) : Nat := key (0x3000 + n) 0x06
/-- 0x3010:01, 02 Table 2-9. -/
def OUTER_RATE : Nat := key 0x3010 0x01
/-- 0x3010:02, 02 Table 2-9. -/
def INNER_RATE : Nat := key 0x3010 0x02
/-- 0x3010:03, 02 Table 2-9. -/
def LEG_TYPE : Nat := key 0x3010 0x03
/-- 0x3010:04, 02 Table 2-9. -/
def CARRIER_FREQ : Nat := key 0x3010 0x04
/-- 0x3010:05, 02 Table 2-9. -/
def INTERLEAVE : Nat := key 0x3010 0x05
/-- 0x3010:06, 02 Table 2-9. -/
def THREAD_MASK : Nat := key 0x3010 0x06
/-- 0x3012:01, 02 Table 2-9. -/
def APPLY : Nat := key 0x3012 0x01
/-- 0x3012:02, 02 Table 2-9. -/
def APPLY_RESULT : Nat := key 0x3012 0x02
/-- 0x3020:01, 02 Table 2-6. -/
def H : Nat := key 0x3020 0x01
/-- 0x3020:02, 02 Table 2-6. -/
def D_SET : Nat := key 0x3020 0x02
/-- 0x3020:03, 02 Table 2-6. -/
def D_MIN : Nat := key 0x3020 0x03
/-- 0x3020:04, 02 Table 2-6. -/
def D_MAX : Nat := key 0x3020 0x04
/-- 0x3020:05, 02 Table 2-6. -/
def D_CHOSEN : Nat := key 0x3020 0x05
/-- 0x3020:06, 02 Table 2-6. -/
def MP : Nat := key 0x3020 0x06
/-- 0x3020:07, 02 Table 2-6. -/
def TG : Nat := key 0x3020 0x07
/-- 0x3020:08, 02 Table 2-6. -/
def TPQ : Nat := key 0x3020 0x08
/-- 0x3020:09, 02 Table 2-6. -/
def W_MIN : Nat := key 0x3020 0x09
/-- 0x3020:0A, 02 Table 2-6. -/
def W_MAX : Nat := key 0x3020 0x0A
/-- 0x3020:0B, 02 Table 2-6. -/
def P_MIN : Nat := key 0x3020 0x0B
/-- 0x3020:0C, 02 Table 2-6. -/
def P_MAX : Nat := key 0x3020 0x0C
/-- 0x3028:01, 02 Table 2-6. -/
def BW_F : Nat := key 0x3028 0x01
/-- 0x3030:01, 02 Table 2-7. -/
def MQ : Nat := key 0x3030 0x01
/-- 0x3030:02, 02 Table 2-7. -/
def VR_MODE : Nat := key 0x3030 0x02
/-- 0x3030:03, 02 Table 2-7. -/
def KP_VR : Nat := key 0x3030 0x03
/-- 0x3030:04, 02 Table 2-7. -/
def KI_VR : Nat := key 0x3030 0x04
/-- 0x3030:05, 02 Table 2-7. -/
def DE_MAX : Nat := key 0x3030 0x05
/-- 0x3030:06, 02 Table 2-7. -/
def E_MIN : Nat := key 0x3030 0x06
/-- 0x3030:07, 02 Table 2-7. -/
def E_MAX : Nat := key 0x3030 0x07
/-- 0x3040:01, 02 Table 2-8. -/
def RV_SET : Nat := key 0x3040 0x01
/-- 0x3040:02, 02 Table 2-8. -/
def RV_MIN : Nat := key 0x3040 0x02
/-- 0x3040:03, 02 Table 2-8. -/
def RV_MAX : Nat := key 0x3040 0x03
/-- 0x3040:04, 02 Table 2-8. -/
def RV_CHOSEN : Nat := key 0x3040 0x04
/-- 0x3040:05, 02 Table 2-8. -/
def XV_SET : Nat := key 0x3040 0x05
/-- 0x3040:06, 02 Table 2-8. -/
def XV_MIN : Nat := key 0x3040 0x06
/-- 0x3040:07, 02 Table 2-8. -/
def XV_MAX : Nat := key 0x3040 0x07
/-- 0x3040:08, 02 Table 2-8. -/
def XV_CHOSEN : Nat := key 0x3040 0x08
/-- 0x3040:09, 02 Table 2-8. -/
def TVI : Nat := key 0x3040 0x09
/-- 0x3048:01, 02 Table 2-8. -/
def HVI_MASK : Nat := key 0x3048 0x01
/-- 0x3048:02, 02 Table 2-8. -/
def RH5 : Nat := key 0x3048 0x02
/-- 0x3048:03, 02 Table 2-8. -/
def RH7 : Nat := key 0x3048 0x03
/-- 0x3048:04, 02 Table 2-8. -/
def RH11 : Nat := key 0x3048 0x04
/-- 0x3048:05, 02 Table 2-8. -/
def RH13 : Nat := key 0x3048 0x05
/-- 0x3048:06, 02 Table 2-8. -/
def THV : Nat := key 0x3048 0x06
/-- 0x3050:01, 02 Table 2-9. -/
def KP_V : Nat := key 0x3050 0x01
/-- 0x3050:02, 02 Table 2-9. -/
def KI_V : Nat := key 0x3050 0x02
/-- 0x3050:03, 02 Table 2-9. -/
def BC : Nat := key 0x3050 0x03
/-- 0x3050:04, 02 Table 2-9. -/
def IV_INT_MAX : Nat := key 0x3050 0x04
/-- 0x3060:01, 02 Table 2-9. -/
def KP (n : Nat) : Nat := key (0x3060 + n) 0x01
/-- 0x3060:02, 02 Table 2-9. -/
def KI (n : Nat) : Nat := key (0x3060 + n) 0x02
/-- 0x3060:03, 02 Table 2-9. -/
def XF (n : Nat) : Nat := key (0x3060 + n) 0x03
/-- 0x3060:04, 02 Table 2-9. -/
def RF (n : Nat) : Nat := key (0x3060 + n) 0x04
/-- 0x3060:05, 02 Table 2-9. -/
def UI_MAX (n : Nat) : Nat := key (0x3060 + n) 0x05
/-- 0x3060:06, 02 Table 2-9. -/
def DELAY_COMP (n : Nat) : Nat := key (0x3060 + n) 0x06
/-- 0x3070:01, 02 Table 2-9. -/
def W_L (k : Nat) : Nat := key 0x3070 (0x01 + k)
/-- 0x3070:05, 02 Table 2-9. -/
def W_M (k : Nat) : Nat := key 0x3070 (0x05 + k)
/-- 0x3070:09, 02 Table 2-9. -/
def KP0 : Nat := key 0x3070 0x09
/-- 0x3070:0A, 02 Table 2-9. -/
def KI0 : Nat := key 0x3070 0x0A
/-- 0x3070:0B, 02 Table 2-9. -/
def U0_MAX : Nat := key 0x3070 0x0B
/-- 0x3080:01, 02 Table 2-9. -/
def ZSI : Nat := key 0x3080 0x01
/-- 0x3080:02, 02 Table 2-9. -/
def KNP : Nat := key 0x3080 0x02
/-- 0x3080:03, 02 Table 2-9. -/
def UNP_MAX : Nat := key 0x3080 0x03
/-- 0x3090:01, 02 Table 2-11. -/
def EC_MODE : Nat := key 0x3090 0x01
/-- 0x3090:02, 02 Table 2-11. -/
def C_DC : Nat := key 0x3090 0x02
/-- 0x3090:03, 02 Table 2-11. -/
def VDC_REF : Nat := key 0x3090 0x03
/-- 0x3090:04, 02 Table 2-11. -/
def ALPHA_W : Nat := key 0x3090 0x04
/-- 0x3090:05, 02 Table 2-11. -/
def VDC_LO : Nat := key 0x3090 0x05
/-- 0x3090:06, 02 Table 2-11. -/
def VDC_HI : Nat := key 0x3090 0x06
/-- 0x3090:07, 02 Table 2-11. -/
def VDC_BAND : Nat := key 0x3090 0x07
/-- 0x3090:08, 02 Table 2-11. -/
def H_DC : Nat := key 0x3090 0x08
/-- 0x30A0:01, 02 Table 2-9. -/
def PSI_PM : Nat := key 0x30A0 0x01
/-- 0x30A0:02, 02 Table 2-9. -/
def LD : Nat := key 0x30A0 0x02
/-- 0x30A0:03, 02 Table 2-9. -/
def LQ : Nat := key 0x30A0 0x03
/-- 0x30A0:04, 02 Table 2-9. -/
def RS : Nat := key 0x30A0 0x04
/-- 0x30A0:05, 02 Table 2-9. -/
def ID_REF : Nat := key 0x30A0 0x05
/-- 0x30A0:06, 02 Table 2-9. -/
def OBS_BW : Nat := key 0x30A0 0x06
/-- 0x30A0:07, 02 Table 2-9. -/
def W_MIN_OP : Nat := key 0x30A0 0x07
/-- 0x30C0:01, 02 Table 2-12. -/
def EST_EN : Nat := key 0x30C0 0x01
/-- 0x30C0:02, 02 Table 2-12. -/
def RETUNE_EN : Nat := key 0x30C0 0x02
/-- 0x30C0:03, 02 Table 2-12. -/
def PROBE_AMP : Nat := key 0x30C0 0x03
/-- 0x30C0:04, 02 Table 2-12. -/
def CHIP : Nat := key 0x30C0 0x04
/-- 0x30C0:05, 02 Table 2-12. -/
def WINDOW : Nat := key 0x30C0 0x05
/-- 0x30C0:06, 02 Table 2-12. -/
def Q_MIN : Nat := key 0x30C0 0x06
/-- 0x30C0:07, 02 Table 2-12. -/
def X_TOT_TGT : Nat := key 0x30C0 0x07
/-- 0x30C0:08, 02 Table 2-12. -/
def XR_TGT : Nat := key 0x30C0 0x08
/-- 0x30C0:09, 02 Table 2-12. -/
def ZETA_TGT : Nat := key 0x30C0 0x09
/-- 0x30C0:0A, 02 Table 2-12. -/
def P_DES : Nat := key 0x30C0 0x0A
/-- 0x30C0:0B, 02 Table 2-12. -/
def RAMP : Nat := key 0x30C0 0x0B
/-- 0x30C0:0C, 02 Table 2-12. -/
def STALE_S : Nat := key 0x30C0 0x0C
/-- 0x30C0:0D, 02 Table 2-12. -/
def DP_WIN : Nat := key 0x30C0 0x0D
/-- 0x30C8:01, 02 Table 2-12. -/
def R_G : Nat := key 0x30C8 0x01
/-- 0x30C8:02, 02 Table 2-12. -/
def X_G : Nat := key 0x30C8 0x02
/-- 0x30C8:03, 02 Table 2-12. -/
def SCR : Nat := key 0x30C8 0x03
/-- 0x30C8:04, 02 Table 2-12. -/
def QUALITY : Nat := key 0x30C8 0x04
/-- 0x30C8:05, 02 Table 2-12. -/
def EST_COUNT : Nat := key 0x30C8 0x05
/-- 0x30C8:06, 02 Table 2-12. -/
def EST_AGE : Nat := key 0x30C8 0x06
/-- 0x30C8:07, 02 Table 2-12. -/
def EST_STATE : Nat := key 0x30C8 0x07
/-- 0x30C8:08, 02 Table 2-12. -/
def RETUNE_TIME : Nat := key 0x30C8 0x08
/-- 0x30C8:09, 02 Table 2-12. -/
def RETUNE_CAUSE : Nat := key 0x30C8 0x09
/-- 0x3100:01, 02 Table 2-14. -/
def LAW_STATUS : Nat := key 0x3100 0x01
/-- 0x3100:02, 02 Table 2-14. -/
def P_E : Nat := key 0x3100 0x02
/-- 0x3100:03, 02 Table 2-14. -/
def Q_E : Nat := key 0x3100 0x03
/-- 0x3100:04, 02 Table 2-14. -/
def OMEGA : Nat := key 0x3100 0x04
/-- 0x3100:05, 02 Table 2-14. -/
def OMEGA_BUS : Nat := key 0x3100 0x05
/-- 0x3100:06, 02 Table 2-14. -/
def THETA : Nat := key 0x3100 0x06
/-- 0x3100:07, 02 Table 2-14. -/
def E : Nat := key 0x3100 0x07
/-- 0x3100:08, 02 Table 2-14. -/
def V_C : Nat := key 0x3100 0x08
/-- 0x3100:09, 02 Table 2-14. -/
def VDC : Nat := key 0x3100 0x09
/-- 0x3100:0A, 02 Table 2-14. -/
def P_M : Nat := key 0x3100 0x0A
/-- 0x3100:0B, 02 Table 2-14. -/
def P_MACH_REF : Nat := key 0x3100 0x0B
/-- 0x3101:01, 02 Table 2-14. -/
def I_THREAD (k : Nat) : Nat := key 0x3101 (0x01 + k)
/-- 0x3200:01, 02 Table 2-14. -/
def P_SET : Nat := key 0x3200 0x01
/-- 0x3200:02, 02 Table 2-14. -/
def Q_SET : Nat := key 0x3200 0x02
/-- 0x3200:03, 02 Table 2-14. -/
def V_SET : Nat := key 0x3200 0x03
/-- 0x3200:04, 02 Table 2-14. -/
def F_SET : Nat := key 0x3200 0x04
/-- 0x3200:05, 02 Table 2-14. -/
def P_SLEW : Nat := key 0x3200 0x05
/-- 0x3200:06, 02 Table 2-14. -/
def P_MACH_MAX : Nat := key 0x3200 0x06
/-- 0x3200:07, 02 Table 2-14. -/
def P_MACH_MIN : Nat := key 0x3200 0x07
/-- 0x3300:01, 02 Table 2-5. -/
def I_L (k : Nat) : Nat := key 0x3300 (0x01 + k)
/-- 0x3300:0D, 02 Table 2-5. -/
def V_CAP (k : Nat) : Nat := key 0x3300 (0x0D + k)
/-- 0x3300:10, 02 Table 2-5. -/
def I_G (k : Nat) : Nat := key 0x3300 (0x10 + k)
/-- 0x3300:13, 02 Table 2-5. -/
def V_DC_SRC (k : Nat) : Nat := key 0x3300 (0x13 + k)
/-- 0x3300:15, 02 Table 2-5. -/
def I_FS : Nat := key 0x3300 0x15
/-- 0x3300:16, 02 Table 2-5. -/
def V_FS : Nat := key 0x3300 0x16
/-- 0x3300:17, 02 Table 2-5. -/
def VDC_FS : Nat := key 0x3300 0x17
/-- 0x3301:01, 02 Table 2-5. -/
def I_M (k : Nat) : Nat := key 0x3301 (0x01 + k)
/-- 0x3301:09, 02 Table 2-5. -/
def I_M_FS : Nat := key 0x3301 0x09
/-- 0x3400:01, 03 Table 3-9. -/
def MODE_CMD : Nat := key 0x3400 0x01
/-- 0x3400:02, 03 Table 3-9. -/
def MODE : Nat := key 0x3400 0x02
/-- 0x3400:03, 03 Table 3-9. -/
def MODE_PREV : Nat := key 0x3400 0x03
/-- 0x3400:04, 03 Table 3-9. -/
def CAUSE : Nat := key 0x3400 0x04
/-- 0x3400:05, 03 Table 3-9. -/
def MODE_TIME : Nat := key 0x3400 0x05
/-- 0x3400:06, 03 Table 3-9. -/
def HELD_MODE : Nat := key 0x3400 0x06
/-- 0x3400:07, 03 Table 3-9. -/
def MODE_STATUS : Nat := key 0x3400 0x07
/-- 0x3400:08, 03 Table 3-9. -/
def HO_SLEW : Nat := key 0x3400 0x08
/-- 0x3400:09, 03 Table 3-9. -/
def TRANS_COUNT : Nat := key 0x3400 0x09
/-- 0x3400:0A, 03 Table 3-9. -/
def CMD_REFUSAL : Nat := key 0x3400 0x0A
/-- 0x3410:01, 03 Table 3-9. -/
def TRANS_LOG (k : Nat) : Nat := key 0x3410 (0x01 + k)
/-- 0x3411:01, 03 Table 3-9. -/
def TRANS_LOG_TIME (k : Nat) : Nat := key 0x3411 (0x01 + k)
/-- 0x3420:01, 03 Table 3-11. -/
def UV_ENTER : Nat := key 0x3420 0x01
/-- 0x3420:02, 03 Table 3-11. -/
def UV_EXIT : Nat := key 0x3420 0x02
/-- 0x3420:03, 03 Table 3-11. -/
def OV_ENTER : Nat := key 0x3420 0x03
/-- 0x3420:04, 03 Table 3-11. -/
def OV_EXIT : Nat := key 0x3420 0x04
/-- 0x3420:05, 03 Table 3-11. -/
def V2_ENTER : Nat := key 0x3420 0x05
/-- 0x3420:06, 03 Table 3-11. -/
def V2_EXIT : Nat := key 0x3420 0x06
/-- 0x3420:07, 03 Table 3-11. -/
def PJ_ENTER : Nat := key 0x3420 0x07
/-- 0x3420:08, 03 Table 3-11. -/
def T_DET : Nat := key 0x3420 0x08
/-- 0x3420:09, 03 Table 3-11. -/
def REC_T : Nat := key 0x3420 0x09
/-- 0x3420:0A, 03 Table 3-11. -/
def ILIM_T : Nat := key 0x3420 0x0A
/-- 0x3420:0B, 03 Table 3-11. -/
def CBC_ENTER : Nat := key 0x3420 0x0B
/-- 0x3420:0C, 03 Table 3-11. -/
def DET_MASK : Nat := key 0x3420 0x0C
/-- 0x3430:01, 03 Table 3-11. -/
def KVI_FAULT : Nat := key 0x3430 0x01
/-- 0x3430:02, 03 Table 3-11. -/
def KVI_RET : Nat := key 0x3430 0x02
/-- 0x3430:03, 03 Table 3-11. -/
def DW_LIM : Nat := key 0x3430 0x03
/-- 0x3430:04, 03 Table 3-11. -/
def K2 : Nat := key 0x3430 0x04
/-- 0x3430:05, 03 Table 3-11. -/
def I2_MAX : Nat := key 0x3430 0x05
/-- 0x3430:06, 03 Table 3-11. -/
def NEG_PRIO : Nat := key 0x3430 0x06
/-- 0x3430:07, 03 Table 3-11. -/
def PJ_MODE : Nat := key 0x3430 0x07
/-- 0x3430:08, 03 Table 3-11. -/
def PJ_KEEP : Nat := key 0x3430 0x08
/-- 0x3430:09, 03 Table 3-11. -/
def PJ_TIME : Nat := key 0x3430 0x09
/-- 0x3430:0A, 03 Table 3-11. -/
def HOLDOVER_T : Nat := key 0x3430 0x0A
/-- 0x3438:01, 03 Table 3-11. -/
def I_LIM : Nat := key 0x3438 0x01
/-- 0x3438:02, 03 Table 3-11. -/
def I_LIM_FLOOR : Nat := key 0x3438 0x02
/-- 0x3438:03, 03 Table 3-11. -/
def I_LIM_CHOSEN : Nat := key 0x3438 0x03
/-- 0x3438:04, 03 Table 3-11. -/
def STOP_RAMP : Nat := key 0x3438 0x04
/-- 0x3438:05, 03 Table 3-11. -/
def ILIM_COUNT : Nat := key 0x3438 0x05
/-- 0x3440:01, 03 Table 3-12. -/
def PT_TIME (k : Nat) : Nat := key 0x3440 (0x01 + k)
/-- 0x3440:07, 03 Table 3-12. -/
def PT_V (k : Nat) : Nat := key 0x3440 (0x07 + k)
/-- 0x3440:0D, 03 Table 3-12. -/
def OV_TRIP : Nat := key 0x3440 0x0D
/-- 0x3440:0E, 03 Table 3-12. -/
def OV_TRIP_T : Nat := key 0x3440 0x0E
/-- 0x3440:0F, 03 Table 3-12. -/
def LIMIT_MAX_T : Nat := key 0x3440 0x0F
/-- 0x3450:01, 03 Table 3-13. -/
def MISS_N : Nat := key 0x3450 0x01
/-- 0x3450:02, 03 Table 3-13. -/
def MISS_M : Nat := key 0x3450 0x02
/-- 0x3450:03, 03 Table 3-13. -/
def HOLD_TIME : Nat := key 0x3450 0x03
/-- 0x3450:04, 03 Table 3-13. -/
def HOLD_RECOVER : Nat := key 0x3450 0x04
/-- 0x3450:05, 03 Table 3-13. -/
def OUTER_MISS_N : Nat := key 0x3450 0x05
/-- 0x3450:06, 03 Table 3-13. -/
def LAW_ENGINES : Nat := key 0x3450 0x06
/-- 0x3450:07, 03 Table 3-13. -/
def MISS_RUN : Nat := key 0x3450 0x07
/-- 0x3450:08, 03 Table 3-13. -/
def HOLD_MISSES : Nat := key 0x3450 0x08
/-- 0x3450:09, 03 Table 3-13. -/
def HOLD_COUNT : Nat := key 0x3450 0x09
/-- 0x3450:0A, 03 Table 3-13. -/
def LAW_GROUPS : Nat := key 0x3450 0x0A
/-- 0x3460:01, 03 Table 3-14. -/
def CBC_EN : Nat := key 0x3460 0x01
/-- 0x3460:02, 03 Table 3-14. -/
def CBC_K : Nat := key 0x3460 0x02
/-- 0x3460:03, 03 Table 3-14. -/
def CBC_FS : Nat := key 0x3460 0x03
/-- 0x3460:04, 03 Table 3-14. -/
def CBC_COUNT : Nat := key 0x3460 0x04
/-- 0x3461:01, 03 Table 3-14. -/
def CBC_SRC (k : Nat) : Nat := key 0x3461 (0x01 + k)
/-- 0x3470:01, 03 Table 3-14. -/
def KEEP_LD : Nat := key 0x3470 0x01
/-- 0x3470:02, 03 Table 3-14. -/
def KEEP_SD : Nat := key 0x3470 0x02
/-- 0x3470:03, 03 Table 3-14. -/
def ARM_TIMEOUT : Nat := key 0x3470 0x03
/-- 0x3470:04, 03 Table 3-14. -/
def VDC_TRIP_HI : Nat := key 0x3470 0x04
/-- 0x3470:05, 03 Table 3-14. -/
def VDC_TRIP_LO : Nat := key 0x3470 0x05
/-- 0x3470:06, 03 Table 3-14. -/
def VDC_MIN_FORM : Nat := key 0x3470 0x06
/-- 0x3470:07, 03 Table 3-14. -/
def LIVE_V : Nat := key 0x3470 0x07
/-- 0x3470:08, 03 Table 3-14. -/
def BRK_STATE : Nat := key 0x3470 0x08
/-- 0x3470:09, 03 Table 3-14. -/
def BRK_MAXAGE : Nat := key 0x3470 0x09
/-- 0x3480:01, 03 Table 3-14. -/
def LIMIT_COUNT : Nat := key 0x3480 0x01
/-- 0x3480:02, 03 Table 3-14. -/
def LIMIT_LAST : Nat := key 0x3480 0x02
/-- 0x3480:03, 03 Table 3-14. -/
def V1_MIN : Nat := key 0x3480 0x03
/-- 0x3480:04, 03 Table 3-14. -/
def PJ_LAST : Nat := key 0x3480 0x04
/-- 0x3480:05, 03 Table 3-14. -/
def V1 : Nat := key 0x3480 0x05
/-- 0x3480:06, 03 Table 3-14. -/
def V2 : Nat := key 0x3480 0x06
/-- 0x3480:07, 03 Table 3-14. -/
def LIMIT_CAUSES : Nat := key 0x3480 0x07
/-- 0x3600:01, 04 Table 4-8. -/
def DEAD_V : Nat := key 0x3600 0x01
/-- 0x3600:02, 04 Table 4-8. -/
def DEAD_T : Nat := key 0x3600 0x02
/-- 0x3600:03, 04 Table 4-8. -/
def PRE_EN : Nat := key 0x3600 0x03
/-- 0x3600:04, 04 Table 4-8. -/
def V_PC : Nat := key 0x3600 0x04
/-- 0x3600:05, 04 Table 4-8. -/
def I_PC : Nat := key 0x3600 0x05
/-- 0x3600:06, 04 Table 4-8. -/
def KNEE : Nat := key 0x3600 0x06
/-- 0x3600:07, 04 Table 4-8. -/
def PRE_TMAX : Nat := key 0x3600 0x07
/-- 0x3600:08, 04 Table 4-8. -/
def V_POW : Nat := key 0x3600 0x08
/-- 0x3600:09, 04 Table 4-8. -/
def RAMP_T : Nat := key 0x3600 0x09
/-- 0x3600:0A, 04 Table 4-8. -/
def SETTLE_T : Nat := key 0x3600 0x0A
/-- 0x3600:0B, 04 Table 4-8. -/
def V_TOL : Nat := key 0x3600 0x0B
/-- 0x3600:0C, 04 Table 4-8. -/
def START_ILIM_T : Nat := key 0x3600 0x0C
/-- 0x3600:0D, 04 Table 4-8. -/
def START_MAX_T : Nat := key 0x3600 0x0D
/-- 0x3604:01, 04 Table 4-9. -/
def VB_AB : Nat := key 0x3604 0x01
/-- 0x3604:02, 04 Table 4-9. -/
def VB_BC : Nat := key 0x3604 0x02
/-- 0x3604:03, 04 Table 4-9. -/
def VB_FS : Nat := key 0x3604 0x03
/-- 0x3604:04, 04 Table 4-9. -/
def VG_SHIFT : Nat := key 0x3604 0x04
/-- 0x3610:01, 04 Table 4-10. -/
def K_PH : Nat := key 0x3610 0x01
/-- 0x3610:02, 04 Table 4-10. -/
def DW_SYNC : Nat := key 0x3610 0x02
/-- 0x3610:03, 04 Table 4-10. -/
def KI_SV : Nat := key 0x3610 0x03
/-- 0x3610:04, 04 Table 4-10. -/
def SYNC_PHI : Nat := key 0x3610 0x04
/-- 0x3610:05, 04 Table 4-10. -/
def SYNC_DV : Nat := key 0x3610 0x05
/-- 0x3610:06, 04 Table 4-10. -/
def SYNC_DW : Nat := key 0x3610 0x06
/-- 0x3610:07, 04 Table 4-10. -/
def SYNC_HOLD : Nat := key 0x3610 0x07
/-- 0x3610:08, 04 Table 4-10. -/
def CLOSE_WIN : Nat := key 0x3610 0x08
/-- 0x3610:09, 04 Table 4-10. -/
def SYNC_MAX_T : Nat := key 0x3610 0x09
/-- 0x3610:0A, 04 Table 4-10. -/
def REQUIRE_TURN : Nat := key 0x3610 0x0A
/-- 0x3620:01, 04 Table 4-11. -/
def CAD_EN : Nat := key 0x3620 0x01
/-- 0x3620:02, 04 Table 4-11. -/
def UNIT_ID : Nat := key 0x3620 0x02
/-- 0x3620:03, 04 Table 4-11. -/
def PEER_MASK : Nat := key 0x3620 0x03
/-- 0x3620:04, 04 Table 4-11. -/
def DF : Nat := key 0x3620 0x04
/-- 0x3620:05, 04 Table 4-11. -/
def DEC_K : Nat := key 0x3620 0x05
/-- 0x3620:06, 04 Table 4-11. -/
def CAD_FORM_EN : Nat := key 0x3620 0x06
/-- 0x3620:07, 04 Table 4-11. -/
def CAD_RETRY : Nat := key 0x3620 0x07
/-- 0x3620:08, 04 Table 4-11. -/
def JOIN_T : Nat := key 0x3620 0x08
/-- 0x3620:09, 04 Table 4-11. -/
def HOLD_T : Nat := key 0x3620 0x09
/-- 0x3620:0A, 04 Table 4-11. -/
def RESYNC_T : Nat := key 0x3620 0x0A
/-- 0x3620:0B, 04 Table 4-11. -/
def AUTO_MASTER : Nat := key 0x3620 0x0B
/-- 0x3628:01, 04 Table 4-11. -/
def CAD_CMD : Nat := key 0x3628 0x01
/-- 0x3630:01, 04 Table 4-12. -/
def BS_STATUS : Nat := key 0x3630 0x01
/-- 0x3630:02, 04 Table 4-12. -/
def BS_STAGE : Nat := key 0x3630 0x02
/-- 0x3630:03, 04 Table 4-12. -/
def COND_FAIL : Nat := key 0x3630 0x03
/-- 0x3630:04, 04 Table 4-12. -/
def V_EXT : Nat := key 0x3630 0x04
/-- 0x3630:05, 04 Table 4-12. -/
def OMEGA_EXT : Nat := key 0x3630 0x05
/-- 0x3630:06, 04 Table 4-12. -/
def DPHI : Nat := key 0x3630 0x06
/-- 0x3630:07, 04 Table 4-12. -/
def TURN_PTR : Nat := key 0x3630 0x07
/-- 0x3630:08, 04 Table 4-12. -/
def JOINED : Nat := key 0x3630 0x08
/-- 0x3630:09, 04 Table 4-12. -/
def N_FORM : Nat := key 0x3630 0x09
/-- 0x3630:0A, 04 Table 4-12. -/
def RX_VALID : Nat := key 0x3630 0x0A
/-- 0x3630:0B, 04 Table 4-12. -/
def RX_DISCARD : Nat := key 0x3630 0x0B
/-- 0x3630:0C, 04 Table 4-12. -/
def TX_COUNT : Nat := key 0x3630 0x0C
/-- 0x3630:0D, 04 Table 4-12. -/
def TX_COLLIDE : Nat := key 0x3630 0x0D
/-- 0x3630:0E, 04 Table 4-12. -/
def LAST_RX : Nat := key 0x3630 0x0E
/-- 0x3630:0F, 04 Table 4-12. -/
def LAST_RX_TIME : Nat := key 0x3630 0x0F
/-- 0x3630:10, 04 Table 4-12. -/
def ISLANDED : Nat := key 0x3630 0x10
/-- 0x3700:01, 13 Table 13-11. -/
def ETH_MAC (k : Nat) : Nat := key 0x3700 (0x01 + k)
/-- 0x3701:01, 13 Table 13-11. -/
def ETH_IP (k : Nat) : Nat := key 0x3701 (0x01 + k)
/-- 0x3702:01, 13 Table 13-11. -/
def ETH_MASK (k : Nat) : Nat := key 0x3702 (0x01 + k)
/-- 0x3703:01, 13 Table 13-11. -/
def ETH_GW (k : Nat) : Nat := key 0x3703 (0x01 + k)
/-- 0x3704:01, 13 Table 13-11. -/
def ETH_CFG (k : Nat) : Nat := key 0x3704 (0x01 + k)
/-- 0x3705:01, 13 Table 13-11. -/
def ETH_STATUS (k : Nat) : Nat := key 0x3705 (0x01 + k)
/-- 0x3706:01, 13 Table 13-11. -/
def ETH_APPLY : Nat := key 0x3706 0x01
/-- 0x3708:01, 13 Table 13-11. -/
def REDUND : Nat := key 0x3708 0x01
/-- 0x3708:02, 13 Table 13-11. -/
def DUP_DISCARD : Nat := key 0x3708 0x02
/-- 0x3708:03, 13 Table 13-11. -/
def LAN_ERR : Nat := key 0x3708 0x03
/-- 0x3710:01, 13 Table 13-11. -/
def PDO_PORTS (k : Nat) : Nat := key 0x3710 (0x01 + k)
/-- 0x3711:01, 13 Table 13-11. -/
def RPDO_STATUS (k : Nat) : Nat := key 0x3711 (0x01 + k)
/-- 0x3712:01, 13 Table 13-11. -/
def CAN_CFG (k : Nat) : Nat := key 0x3712 (0x01 + k)
/-- 0x3713:01, 13 Table 13-11. -/
def CAN_STATE (k : Nat) : Nat := key 0x3713 (0x01 + k)
/-- 0x3714:01, 13 Table 13-11. -/
def BUS_OFF_COUNT (k : Nat) : Nat := key 0x3714 (0x01 + k)
/-- 0x3720:01, 13 Table 13-11. -/
def SVC_BAUD : Nat := key 0x3720 0x01
/-- 0x3730:01, 13 Table 13-11. -/
def NDP_PORT : Nat := key 0x3730 0x01
/-- 0x3730:02, 13 Table 13-11. -/
def NDP_RATE : Nat := key 0x3730 0x02

end Sys2Proof.Machine.Reg
end

