-- ==== Sys2Proof/Machine/State.lean ====
section
/-!
DEFINITION. The state of the VG4860 as plain data, and the state right after reset.

Every object of the object dictionary has its home in `regs` (a sparse table over the reset values of Objects.lean); what
the spec gives the machine beside the dictionary stands in the structures below, chapter by chapter. Instants are
counted as `Instant` says. "Look-ahead" instants (R19) are counted in the same unit and run LEAD ahead of `now`.
-/

namespace Sys2Proof.Machine

/-! ## Octyr engines (05) -/

/-- A queued port write. -/
structure PortWrite where
  port : Nat
  val : Nat
  deriving DecidableEq, Repr

/-- What an engine waits for inside its cycle (R130, R132, R133). -/
inductive Wait where
  /-- It executes. -/
  | none
  /-- INW: until the port word has been written in this cycle. -/
  | inw (port : Nat) (d : Fin 16)
  /-- WAITP: until the fabric word meets the condition. -/
  | waitp (port : Nat) (d : Fin 16) (cond : BitVec 4)
  /-- A port write that found its queue full. -/
  | room (w : PortWrite)
  /-- FENCE: until every earlier write is registered. -/
  | fence
  /-- END: until both queues are empty. -/
  | ending
  deriving DecidableEq, Repr

/-- A level of the loop stack: start, end (the TARGET of its LOOP) and remaining count (Table 5-1). -/
structure LoopLevel where
  start : BitVec 13
  fin : BitVec 13
  left : Nat
  deriving DecidableEq, Repr

/-- A shadow register of the PWM generator (06): its value (`none`: the value after reset, R158), its WRITTEN flag
(R161), and the engine and cycle of its latest write (`none`: the dictionary, or no write). -/
structure Shadow where
  val : Option Nat := none
  written : Bool := false
  author : Option (Nat × Nat) := none
  /-- Serial number of the latest write. -/
  seq : Nat := 0
  deriving DecidableEq, Repr

/-- An Octyr engine: the state of Table 5-1 (the SRAMs stand in `mem`) and where it stands in its cycle. -/
structure Engine where
  x : Tab W16 := []
  a : Tab W40 := []
  p : Tab (BitVec 14) := []
  pk : Tab (BitVec 4) := []
  pc : BitVec 13 := 0
  flags : BitVec 8 := 0
  calls : List (BitVec 13) := []
  loops : List LoopLevel := []
  /-- The control phase is in progress (R129). -/
  inCycle : Bool := false
  wait : Wait := .none
  timedQ : List PortWrite := []
  fabQ : List PortWrite := []
  /-- Alarm instant of the present cycle (ports 0x602, 0x603). -/
  alarmAt : Instant := 0
  /-- Deadline tick of the present cycle (ports 0x604, 0x605). -/
  deadline : Instant := 0
  /-- The deadline of the present cycle has passed without END. -/
  late : Bool := false
  /-- Cycles started since reset, and at the last ENABLE (port 0x606 counts from there). -/
  cycleNo : Nat := 0
  cycle0 : Nat := 0
  /-- Port 0x608: previous cycle missed, overrun, ECC corrected. -/
  last : BitVec 3 := 0
  /-- An ECC correction or an overrun occurred in the present cycle. -/
  eccNow : Bool := false
  missNow : Bool := false
  ovrNow : Bool := false
  /-- TIME64[63:32] latched by the last read of port 0x600. -/
  timeHi : W32 := 0
  /-- Value of the port-write serial number when the cycle started (INW). -/
  serial0 : Nat := 0
  /-- Shadow records before this engine's first write to them in the present cycle (R139). -/
  before : Tab Shadow := []
  /-- An image is loaded (IMAGE_VALID); a LOAD is in progress; a shutdown is in progress (R150). -/
  valid : Bool := false
  loading : Bool := false
  stopping : Bool := false
  pendEnable : Bool := false
  faulted : Bool := false
  /-- In-service self-test in idle time (R136). -/
  selftest : Bool := false
  /-- SLACK_MIN holds a value since the last clear. -/
  slackValid : Bool := false
  /-- The port and tick of the last timed delivery (R130: one run per tick). -/
  lastTick : Instant := 0
  deriving DecidableEq, Repr

/-! ## PWM generator (06) -/

/-- New values waiting for a carrier's own wrap after a transfer (R164). -/
structure CarrierPend where
  per : Nat
  ph : Nat
  vals : List (Nat × Nat)
  deriving DecidableEq, Repr

/-- A carrier. -/
structure Carrier where
  running : Bool := false
  /-- Scheduled start instant T_s (look-ahead). -/
  startAt : Option Instant := none
  /-- Look-ahead instant of the next wrap. -/
  wrapAt : Instant := 0
  /-- Look-ahead instant of the last wrap, or of the start; those of the last wraps, newest first, of which LEAD keeps some ahead. -/
  lastWrap : Instant := 0
  recent : List Instant := []
  /-- Wraps since T_s (R321: wrap w). -/
  wraps : Nat := 0
  /-- Look-ahead instant from which a match of CG_EVT counts: after the last match, from the last change of CG_EVT (R156). -/
  evtFrom : Instant := 0
  pend : Option CarrierPend := none
  deriving DecidableEq, Repr

/-- A pending LOAD_ALL snapshot of a group: the shadow records of its set, the engine and cycle that wrote the LOAD_ALL,
the look-ahead instant at which it became eligible, and whether the LOAD_ALL was registered at behaviour level 1 (R433). -/
structure Snapshot where
  vals : List (Nat × Shadow)
  author : Option (Nat × Nat)
  eligible : Option Instant
  level1 : Bool
  deriving DecidableEq, Repr

/-- An edge channel between its requested level and its output (Table 6-2). -/
structure Chan where
  /-- Requested level (stage 1 and 2). -/
  req : Bool := false
  /-- Level that stage 4 has passed. -/
  lvl4 : Bool := false
  /-- Output level after stage 7. -/
  out : Bool := false
  /-- Look-ahead instant of the last turn-off of the output. -/
  offAt : Instant := 0
  /-- On-carry and off-carry in sixteenths of a tick, and wraps since each rose from zero (R172). -/
  onCarry : Nat := 0
  offCarry : Nat := 0
  onWraps : Nat := 0
  offWraps : Nat := 0
  /-- The later half of a spent carry: by how much the coming turn-off, turn-on moves later. -/
  extOff : Nat := 0
  extOn : Nat := 0
  /-- By how much the turn-on of the present on-interval, the turn-off of the present notch came before its compare. -/
  preOn : Nat := 0
  preOff : Nat := 0
  /-- Edges that stage 4 has passed and delays (dead time, STRETCH, R173): instant and level, in order. -/
  plan : List (Instant × Bool) := []
  /-- The stage-4 interval passed lasts at least until here (R173). -/
  minOnUntil : Instant := 0
  minOffUntil : Instant := 0
  /-- A turn-on held by the interlock (R170), and the turn-off of its interval. -/
  held : Bool := false
  /-- Held off by the comparator until the next wrap (R174). -/
  cbc : Bool := false
  /-- Forcing has ended or is in effect; the channel waits for its next requested turn-on (R178). -/
  await : Bool := false
  /-- Minimum-pulse settings the stage acts on (R182). -/
  minpulse : Nat := 0
  deriving DecidableEq, Repr

/-- An edge event that left the generator: channel, polarity, time tag (look-ahead instant). -/
structure EdgeEv where
  ch : Nat
  on : Bool
  tag : Instant
  deriving DecidableEq, Repr

/-- An acquisition event of a carrier waiting for delivery (R156): carrier, wrap or match, look-ahead instant. -/
structure CarrierEv where
  cg : Nat
  isMatch : Bool
  at_ : Instant
  deriving DecidableEq, Repr

/-- Retry bookkeeping of a protective input: instant of the last decision and of the automatic clears (R179, R208). -/
structure Retry where
  decision : Instant := 0
  clears : List Instant := []
  deriving DecidableEq, Repr

/-- The PWM generator beside its objects. -/
structure Pwm where
  carriers : Tab Carrier := []
  shadows : Tab Shadow := []
  /-- Effective compares and modes, by port number. -/
  eff : Tab (Option Nat) := []
  snaps : Tab (Option Snapshot) := []
  chans : Tab Chan := []
  /-- Dead time each channel acts on (R182), in sixteenths of a tick. -/
  dtAct : Tab Nat := []
  /-- TORN, CANCELLED and HELD of port 0x221. -/
  loadStatus : Nat := 0
  edges : List EdgeEv := []
  /-- Edges that have left for the links and whose instant has not come, which a local driver may follow (R218). -/
  sent : List EdgeEv := []
  events : List CarrierEv := []
  trips : Tab Retry := []
  /-- The last restart or change of each trip input's filter (R176, R181; log entry 13). -/
  tripAt : Tab Instant := []
  pwmTick : Instant := 0
  pwmCount : Nat := 0
  /-- The latest tick at which each port block registered a write, and the place of its latest writer in the order of that tick:
  the engine's number, 16 for the dictionary (R131, R160). -/
  order : Tab (Instant × Nat) := []
  deriving DecidableEq, Repr

/-! ## The whole machine -/

/-- A time alarm (11): its placed instances with the LATE mark, soonest first, and the number of the next PERIODIC one. -/
structure Alarm where
  insts : List (Instant × Bool) := []
  n : Nat := 0
  deriving DecidableEq, Repr


/-! ## Gate links and local drivers (07) -/

/-- An edge event in a lane's queue: position, polarity, time tag, drive codes (Table 7-4). -/
structure QEdge where
  pos : Nat
  on : Bool
  tag : Instant
  src : Nat
  snk : Nat
  deriving DecidableEq, Repr

/-- What a register access of a lane serves (R193, R194, R210). -/
inductive AccKind where
  | setup
  | ident
  | release
  | object
  | check
  deriving DecidableEq, Repr

/-- A register access of a lane. -/
structure Access where
  reg : Nat
  write : Bool
  value : Nat
  kind : AccKind
  /-- Instant at which it started. -/
  at_ : Instant
  deriving DecidableEq, Repr

/-- Partial sums of the edge trainer for one position and polarity (R213). -/
structure Trainer where
  n : Nat := 0
  sum : Nat := 0
  ovs : Nat := 0
  deriving DecidableEq, Repr

/-- A gate-link lane beside its objects. -/
structure Lane where
  queue : List QEdge := []
  /-- SLOT0 of the previous frame. -/
  slot : Option QEdge := none
  /-- SEQ of the next frame. -/
  seq : Nat := 0
  /-- SEQ and departure of the last frames, newest first. -/
  sent : List (Nat × Instant) := []
  liveAt : Instant := 0
  upAt : Instant := 0
  /-- FAULT byte of the last accepted uplink, causes it shows (bits as CAUSE). -/
  held : Nat := 0
  causesNow : Nat := 0
  /-- The last 64 round trips, newest first, in fifths of the unit of time, and how many came since LIVE entry. -/
  trips : List Nat := []
  tripN : Nat := 0
  /-- Latched LINK_DELAY; it stays over a new LIVE entry until it is latched anew. -/
  delay : Option Nat := none
  /-- Set-up registers not yet answered, each with the instant before which it is not tried again. -/
  setup : List (Nat × Instant) := []
  access : Option Access := none
  /-- Accesses that wait. -/
  waiting : List Access := []
  retry : Retry := {}
  /-- FAULT_RELEASE has been sent since the decision; by GL_CLEAR. -/
  released : Bool := false
  manual : Bool := false
  /-- ECNT last seen of each position. -/
  ecnt : Tab Nat := []
  train : Tab Trainer := []
  /-- Frames with ALL_OFF until here, then the idle pattern (R185). -/
  offUntil : Option Instant := none
  /-- A disable written in STARTING (R32). -/
  pendDisable : Bool := false
  /-- Bytes of the last accepted uplink (Table 7-8). -/
  up : List Nat := []
  /-- Readbacks of the gate-link check still to come (Table 15-2, item 3). -/
  checkLeft : Nat := 0
  deriving DecidableEq, Repr

/-- A side of a local driver: commanded level and the instant from which it holds. -/
structure Side where
  on : Bool := false
  at_ : Instant := 0
  deriving DecidableEq, Repr

/-- A local driver beside its objects (R217 to R225). -/
structure Ldrv where
  run : Bool := false
  stopping : Bool := false
  pendDisable : Bool := false
  high : Side := {}
  low : Side := {}
  /-- Level of the followed channel at the driver. -/
  level : Bool := false
  /-- Edges of the followed channel on their way. -/
  edges : List EdgeEv := []
  /-- Start of the sequence of R220, and of the refresh in progress. -/
  waitAt : Instant := 0
  refreshAt : Option Instant := none
  /-- Since when the low side was off as the refresh began. -/
  lowOff : Instant := 0
  retry : Retry := {}
  deriving DecidableEq, Repr

/-- A static switch driver beside its objects (R223). -/
structure Sdrv where
  run : Bool := false
  stopping : Bool := false
  pendDisable : Bool := false
  /-- The charge pump runs. -/
  pump : Bool := false
  retry : Retry := {}
  deriving DecidableEq, Repr


/-! ## Life of the device (16) -/

/-- What the device as a whole does. -/
inductive Phase where
  /-- RST_N is low. -/
  | reset
  /-- Started: BASECAMP has been reached. -/
  | running
  /-- Standby: only PD0 is on (R391). -/
  | standby
  /-- The ROM check failed (R421). -/
  | halted
  deriving DecidableEq, Repr


/-! ## Grid-forming law and modes (02, 03, 04) -/

/-- A vector on a rotating angle, in pu. -/
structure Dq where
  d : Rat := 0
  q : Rat := 0
  deriving DecidableEq, Repr

/-- A thread of the law (Table 2-13): L0–L3 are 0–3, M0–M3 are 4–7. -/
structure Thread where
  /-- Current-loop integrators, positive and negative sequence; circulating integrator. -/
  xp : Dq := {}
  xn : Dq := {}
  x0 : Rat := 0
  /-- Converter voltage of the last cycle, positive and negative sequence, and zero sequence. -/
  u : Dq := {}
  un : Dq := {}
  u0 : Rat := 0
  vsat : Bool := false
  removed : Bool := false
  /-- Thread current of the last cycle, on its angle. -/
  i : Dq := {}
  /-- Flux observer: flux estimate, rotor angle in turns, speed in pu. -/
  flux : Dq := {}
  rotor : Rat := 0
  speed : Rat := 0
  /-- Compares and modes the law wants for the thread, by port: written at END of its engine. -/
  writes : List (Nat × Nat) := []
  deriving DecidableEq, Repr

/-- What OE0 hands to the inner engines (R39). -/
structure OuterSet where
  omega : Rat := 1
  e : Rat := 0
  rv : Rat := 0
  xv : Rat := 0
  vh : List Dq := []
  pmach : Rat := 0
  probe : Dq := {}
  deriving DecidableEq, Repr

/-- The grid-strength estimator (R50): chips of the window in progress. -/
structure Estimator where
  on : Bool := false
  startAt : Instant := 0
  /-- Setpoints at the window's start. -/
  p0 : Rat := 0
  q0 : Rat := 0
  /-- Shift registers, chips finished, chip start, sums of the chip in progress and its count. -/
  lfsrD : Nat := 0x155
  lfsrQ : Nat := 0x2AA
  chips : List (Dq × Dq × Dq) := []
  chipAt : Instant := 0
  sumV : Dq := {}
  sumI : Dq := {}
  n : Nat := 0
  lastAt : Option Instant := none
  deriving DecidableEq, Repr

/-- A linear move of the chosen values (R51): from, to, start, duration. -/
structure Ramp where
  from_ : Rat × Rat × Rat
  to_ : Rat × Rat × Rat
  at_ : Instant
  dur : Instant
  deriving DecidableEq, Repr

/-- The built-in law beside its objects. -/
structure Law where
  /-- The active parameter set (R40): what differs from the Default column. -/
  active : Tab Nat := []
  /-- A checked set waits for the next outer cycle; the set that was checked. -/
  applying : Bool := false
  checked : Tab Nat := []
  /-- Inner cycles since the law started. -/
  cycle : Nat := 0
  theta : Nat := 0
  thetaBus : Rat := 0
  omega : Rat := 1
  wbus : Rat := 1
  wbusInt : Rat := 0
  pm : Rat := 0
  pf : Rat := 0
  qf : Rat := 0
  vcf : Rat := 0
  /-- V_c: |v| averaged over the last outer period. -/
  vc : Rat := 0
  psetr : Rat := 0
  xvr : Rat := 0
  ih : List Dq := [{}, {}, {}, {}]
  xv : Dq := {}
  igf : Dq := {}
  /-- Present inner quantities: voltage, grid current, reference, on θ; |v|, p, q sums of the outer period. -/
  v : Dq := {}
  ig : Dq := {}
  iref : Dq := {}
  iref2 : Dq := {}
  vab : Dq := {}
  sumP : Rat := 0
  sumQ : Rat := 0
  sumV : Rat := 0
  sumPhi : Rat := 0
  nSum : Nat := 0
  phiRef : Rat := 0
  vdc : Rat := 0
  /-- Samples of v_αβ for delayed-signal cancellation, newest first. -/
  hist : List Dq := []
  v1 : Rat := 0
  v2 : Dq := {}
  v2m : Rat := 0
  threads : Tab Thread := []
  use : OuterSet := {}
  next : OuterSet := {}
  /-- Threads and engines whose work of this inner cycle is complete (R38). -/
  done : Nat := 0
  /-- Residuals of R83 by block number. -/
  resid : Tab Rat := []
  /-- Consecutive flagged samples and last valid code of each AIN (R43). -/
  flagged : Tab Nat := []
  lastCode : Tab Nat := []
  /-- Consecutive inner cycles in which each detector's condition has held; since when each recovery holds. -/
  det : Tab Nat := []
  recSince : Tab Instant := []
  limitAt : Instant := 0
  ovSince : Option Instant := none
  holdoverSince : Option Instant := none
  /-- Angle following: what is left in turns, cycles left. -/
  pjLeft : Rat := 0
  pjN : Nat := 0
  /-- Virtual-impedance factor returns since (R74). -/
  kviAt : Option Instant := none
  stopAt : Option Instant := none
  /-- A snapshot of static-off for ARMED waits (R65). -/
  stopWait : Bool := false
  /-- The ramp of the chosen values in progress (R51). -/
  ramp : Option Ramp := none
  est : Estimator := {}
  /-- Entry to HOLD (R88). -/
  holdAt : Instant := 0
  /-- On-time inner cycles in a row in HOLD (R89). -/
  recRun : Nat := 0
  /-- An outer cycle in HOLD has ended on time (R89). -/
  outerOk : Bool := false
  /-- Outer periods with OUTER_MISS in a row (R86). -/
  outerMissRun : Nat := 0
  /-- Inner cycles in a row with the DC link outside its trip limits (Table 3-2). -/
  vdcTrip : Nat := 0
  /-- OE1 has taken its samples in this inner cycle. -/
  sensed : Bool := false
  /-- The inner cycles in progress whose deadline has not been dealt with: the time alarm that started each, and its deadline. -/
  innerDue : List (Nat × Instant) := []
  /-- Those of them, by their alarm, that have missed. -/
  missed : List Nat := []
  /-- Comparator actions (R67): carriers acted in the present period, in the last one, runs of such periods, wraps seen. -/
  cbcActed : Nat := 0
  cbcLast : Nat := 0
  cbcRun : Tab Nat := []
  cbcSeen : Tab Nat := []
  /-- Hand-over presets still to be made (R83): bit t for thread t, bit 8 for OE1; which hand-over of Table 3-7. -/
  preset : Nat := 0
  presetKind : Nat := 0
  /-- Mode commands that wait: value, whether journal replay gave it, the mode in which it was accepted and the automatic transitions up to
  then. -/
  cmds : List (Nat × Bool × Nat × Nat) := []
  /-- Automatic transitions since reset: those with another cause than a command. -/
  autoSeq : Nat := 0
  modeSeq : Nat := 0
  /-- The comparators and lanes of R71 are owned by the law. -/
  cbcOwned : Bool := false
  /-- Instant of the last write of BRK_STATE, and of the write whose value the law acts on. -/
  brkAt : Instant := 0
  brkUse : Instant := 0
  /-- A re-planned I_LIM_CHOSEN that waits for its outer cycle (R412). -/
  ilimNext : Option Nat := none
  /-- Values written to 0x3200–0x36FF as of the last outer-cycle start. -/
  seen : Tab Nat := []
  modeAt : Instant := 0
  deriving DecidableEq, Repr

/-! ## What eMRAM keeps (13, 16) -/

/-- A session of a port (R357); on CAN the client's node-ID (port 4 + controller). -/
structure Session where
  port : Nat
  id : Nat
  last : Nat
  /-- Instant of the last request. -/
  at_ : Instant
  deriving DecidableEq, Repr

/-- An item of journaled work (R359): key, object, value, instant of commit and of acknowledgement. -/
structure JItem where
  port : Nat
  session : Nat
  seq : Nat
  obj : Nat
  val : Nat
  at_ : Instant
  /-- Source of the request: IPv4 address, UDP port. -/
  from_ : Nat × Nat := (0, 0)
  /-- Recorded outcome once applied. -/
  result : Option Nat := none
  /-- A void record has been committed (R381). -/
  void : Bool := false
  /-- The active device still waits for J_ACK. -/
  unacked : Bool := false
  /-- Committed on the standby as a mirror; applied only as the active device shows (R382). -/
  mirror : Bool := false
  /-- On the standby: the RESULT that the active device has recorded, once its record has been mirrored. -/
  told : Option Nat := none
  deriving DecidableEq, Repr

/-- A configuration slot (R424): RWS values that differ from their defaults, active law set. -/
structure Slot where
  gen : Nat
  last : Nat
  vals : Tab Nat
  active : Tab Nat
  deriving DecidableEq, Repr

/-- A configuration delta (R424): an RWS value with the journal key of its item, or a whole active set. -/
structure Delta where
  seq : Nat
  obj : Nat
  val : Nat
  active : Option (Tab Nat)
  port : Nat
  session : Nat
  jseq : Nat
  deriving DecidableEq, Repr

/-- An internal record of the journal (R413): what, instant, values. -/
structure Note where
  what : Nat
  at_ : Instant
  vals : List Nat
  deriving DecidableEq, Repr

/-- An engine image (R148): words by address, 0 where not listed. -/
structure Image where
  prog : Tab Nat := []
  data : Tab Nat := []
  deriving DecidableEq, Repr

/-- A patch slot (R429): bytes, and what its commit recorded. -/
structure PatchSlot where
  bytes : List Host.Cell := []
  committed : Bool := false
  len : Nat := 0
  crc : Nat := 0
  selected : Bool := false
  started : Bool := false
  deriving DecidableEq, Repr

/-- The stored records. -/
structure Store where
  journal : List JItem := []
  sessions : List Session := []
  /-- Internal records. -/
  notes : List Note := []
  slotA : Option Slot := none
  slotB : Option Slot := none
  deltas : List Delta := []
  deltaSeq : Nat := 0
  /-- A compaction runs since this instant (R427). -/
  compactAt : Option Instant := none
  /-- The last delta that the running compaction includes. -/
  compactSeq : Nat := 0
  codes : Tab Nat := []
  codeProf : Tab (List Nat) := []
  images : Tab Image := []
  staged : Tab Image := []
  hasImage : Tab Bool := []
  patchA : PatchSlot := {}
  patchB : PatchSlot := {}
  /-- Confirmed patch slot: 0 A, 1 B. -/
  confirmed : Option Nat := none
  /-- A committed claim exists. -/
  claimed : Bool := false
  /-- Journal items applied since manufacture (J_APPLIED). -/
  applied : Nat := 0
  deriving DecidableEq, Repr


/-! ## Analogue acquisition (08) -/

/-- A conversion between its sampling instant and the registration of its result. -/
structure Conv where
  ain : Nat
  sq : Nat
  inj : Bool
  at_ : Instant
  /-- Converted by the slice that stands in. -/
  spare : Bool
  /-- It belongs to the last step of its round. -/
  last : Bool
  /-- Its round is still to be completed by it (R254). -/
  counts : Bool
  deriving DecidableEq, Repr

/-- A round in progress: entry at which its next step begins, instant at which that step became pending, sampling instant and
logical slices of the step that converts, results of the last step still to come. -/
structure Round where
  next : Nat := 0
  pendAt : Option Instant := none
  convAt : Option Instant := none
  slices : List Nat := []
  left : Nat := 0
  deriving DecidableEq, Repr

/-- An open-wire test: start, phase 0 to 2, first code; the logical slice and the sampling instant of its last conversion. -/
structure OwTest where
  at_ : Instant
  phase : Nat := 0
  code : Int := 0
  conv : Option (Nat × Instant) := none
  deriving DecidableEq, Repr

/-- The acquisition block beside its objects. -/
structure Adc where
  /-- Triggers that have arisen and are still to be acted on: source code of Table 8-1, instant. -/
  trigs : List (Nat × Instant) := []
  /-- Rounds in progress, by 2 · group + 1 for an injected one. -/
  rounds : Tab (Option Round) := []
  convs : List Conv := []
  /-- Instant since which each logical slice is free. -/
  freeAt : Tab Instant := []
  /-- Changes of service that wait for the end of a conversion: logical slice, physical slice. -/
  handOver : List (Nat × Nat) := []
  /-- Calibration in progress: slice, start, forced. -/
  cal : Option (Nat × Instant × Bool) := none
  /-- Next slice of the rotation. -/
  turn : Nat := 0
  /-- Failed test of each slice in its last calibration turn (15, item 2). -/
  testFails : Tab Nat := []
  /-- Start-up calibration since. -/
  startAt : Option Instant := none
  stopping : Bool := false
  pendDisable : Bool := false
  /-- Last sampling instant and result of each input. -/
  lastRes : Tab (Option (Instant × Int)) := []
  /-- Last sampling instant of each input (R240). -/
  lastSamp : Tab (Option Instant) := []
  /-- Sampling instant of the last step that started: a step held behind it starts no earlier (R236). -/
  lastStart : Instant := 0
  /-- Conversions of open-wire tests in progress: logical slice, sampling instant (R242). -/
  owConvs : List (Nat × Instant) := []
  /-- Start of TRG_TO of each ADC_TRG pin. -/
  trgRef : Tab Instant := []
  /-- Filtered level of each ADC_TRG pin, none since a restart, and the instant of its last change or restart (R234, R255). -/
  trgFilt : Tab (Option Bool × Instant) := []
  ow : Tab (Option OwTest) := []
  owDone : Tab Instant := []
  /-- STALE_TO in effect of an input whose written one waits for its next result (R255). -/
  staleOld : Tab (Option Nat) := []
  /-- Clock pins that have met the resume condition since their check restarted: bits. -/
  sdcGood : Nat := 0
  deriving DecidableEq, Repr

/-! ## Filter lanes (09) -/

/-- A CIC output: FIR input, its number since the restart, sampling instant of its last input, whether it waited. -/
structure CicOut where
  x : Int
  j : Nat
  at_ : Instant
  waited : Bool := false
  deriving DecidableEq, Repr

/-- A FIR computation in progress: its accumulator, sampling instant of its last input, start if it waited, FIR ticks, marks
of its output (unsettled, bank shown, fade output number or 0, whether it is the last of its fade), group delay. -/
structure FirJob where
  acc : Int
  at_ : Instant
  from_ : Option Instant
  ticks : Nat
  unsettled : Bool
  bank : Nat
  k : Nat
  endsFade : Bool
  delay : Nat
  deriving DecidableEq, Repr

/-- A filter lane beside its objects. -/
structure Flane where
  stopping : Bool := false
  integ : List Nat := []
  comb : List Nat := []
  /-- Inputs since the last CIC output, oldest first (AIN lanes). -/
  ins : List Int := []
  /-- Sampling instants of the last inputs, newest first, at most 256. -/
  inTimes : List Instant := []
  j : Nat := 0
  line : List Int := []
  waiting : Option CicOut := none
  busy : Option FirJob := none
  bank : Nat := 0
  /-- A fade: outputs begun so far, and its length. -/
  fade : Option (Nat × Nat) := none
  queued : Option Nat := none
  stale : Bool := false
  deriving DecidableEq, Repr

/-- The filter chain beside its objects. -/
structure Filt where
  lanes : Tab Flane := []
  /-- Stored LANE_CFG of the lanes the law owns (R71). -/
  saved : Tab Nat := []
  /-- Stored coefficients by 2 · lane + bank; the staging buffer at 80. -/
  coefs : Tab (List Nat) := []
  deriving DecidableEq, Repr

/-! ## Memory and DMA (12) -/

/-- A DMA channel beside its objects. -/
structure Dma where
  /-- Bases of the run and elements written. -/
  src : Nat := 0
  dst : Nat := 0
  i : Nat := 0
  /-- The previous run ended DONE or halted, so that SRC_CONT and DST_CONT apply. -/
  cont : Bool := false
  /-- Every element has been written and the last write is not yet acknowledged. -/
  acking : Bool := false
  /-- Instant of the last disable: a doorbell of its tick comes before it (R340). -/
  disAt : Option Instant := none
  /-- Since when its stream port is found empty, and how long TIMEOUT had run before the channel was throttled. -/
  emptyAt : Option Instant := none
  spent : Instant := 0
  deriving DecidableEq, Repr

/-- Who has written a part of a DRAM granule that the interface holds: a DMA channel, the rows of a recorder instance, Zeset. -/
inductive Master where
  | dma (c : Nat)
  | rows (n : Nat)
  | zeset
  deriving DecidableEq, Repr

/-- A partly written DRAM granule that the interface holds for a merge (R330): first byte, since when, bytes written (bit k for
byte k), who has written them. -/
structure Held where
  addr : Nat
  since : Instant
  mask : Nat
  owners : List Master
  deriving DecidableEq, Repr

/-- An access that waits for the initialisation of its DRAM address (R328): MEM_READ and MEM_WRITE of bytes from an address, an
index entry, bytes of a region (instance, slot, reduction, offset). -/
inductive MemWait where
  | read (a n : Nat)
  | write (a : Nat) (l : List Byte)
  | index (a : Nat)
  | region (n i r ofs : Nat)
  deriving DecidableEq, Repr

/-- Memory beside its contents. -/
structure Mem where
  /-- Code words with an error, by address: 1 correctable, 2 uncorrectable. -/
  ecc : Tab Nat := []
  dmas : Tab Dma := []
  /-- Channel served last, per priority. -/
  lastDma : Tab Nat := []
  /-- DRAM: its contents are kept (no loss seen); its initialisation began when 4 bytes per ns since reset were this many. -/
  kept : Bool := false
  initTo : Nat := 0
  /-- A scrubber pass: end address. -/
  scrubEnd : Option Nat := none
  /-- Granules held for a merge, the oldest first; accesses that wait, the oldest first; words of the stream ports, oldest first. -/
  held : List Held := []
  waits : List MemWait := []
  ports : Tab (List Nat) := []
  deriving DecidableEq, Repr


/-! ## Disturbance recorder (10) -/

/-- A reduction of the record being written: next row of its region, rows valid, rows still to be written once row 0 is known,
interval in progress (its number), first sample, samples, fault bits, and per channel the minimum and maximum, or the sum. -/
structure Red where
  pos : Nat := 0
  count : Nat := 0
  left : Option Nat := none
  iv : Option Nat := none
  first : Nat := 0
  n : Nat := 0
  mask : Nat := 0
  acc : List (Int × Int) := []
  deriving DecidableEq, Repr

/-- An accepted trigger: sources (bits of TRIG_SRC), instant (TIME64 and FRAC16 together), the instant from which a sample
is its trigger sample, that sample, PRE_SHORT, and whether it has been driven on the bus. -/
structure RecTrig where
  src : Nat
  at_ : Nat
  reg : Instant
  sample : Option Nat := none
  short : Bool := false
  driven : Bool := false
  deriving DecidableEq, Repr

/-- A recorder instance beside its objects. -/
structure Rec where
  on : Bool := false
  stopping : Bool := false
  /-- The record of a shutdown still waits for DRAM (R328). -/
  closing : Bool := false
  /-- It arms a slot at its next sample (R282). -/
  armNext : Bool := false
  /-- Slot armed last; CLOSED slots, earliest closed first. -/
  lastSlot : Nat := 15
  closed : List Nat := []
  /-- Instant of the last sample and its values with their fault bits. -/
  lastAt : Option Instant := none
  prev : List (Int × Bool) := []
  /-- Conditions that are ready: bit 2·k rising, 2·k + 1 falling, for TRIG_A (0) and TRIG_B (1). -/
  ready : Nat := 0
  reds : Tab Red := []
  trig : Option RecTrig := none
  gap : Bool := false
  /-- TRG_IN and TRG_OUT as of the last sample (R299). -/
  trgIn : Nat := 0
  trgOut : Nat := 0xFF
  /-- Rows in the write buffer, oldest first: address, bytes. -/
  buf : List (Nat × List Byte) := []
  deriving DecidableEq, Repr

/-- A calibration of trigger-bus lines: lines still to measure (the first is being measured), rounds, good and failed ones, sum
of the round trips less 400 ns in sixteenths of a tick, start of the present pulse, whether a line has failed. -/
structure TbCal where
  lines : List Nat
  good : Nat := 0
  fails : Nat := 0
  sum : Int := 0
  t0 : Instant
  bad : Bool := false
  deriving DecidableEq, Repr

/-- The trigger bus beside its objects. -/
structure TrigBus where
  cal : Option TbCal := none
  /-- Start and end of the pulses driven lately on each line, the latest first (R292). -/
  pulses : Tab (List (Instant × Instant)) := []
  /-- Last TRGCLK edge; sum of the offsets and edges since the last average. -/
  clkAt : Option Instant := none
  clkSum : Int := 0
  clkN : Nat := 0
  deriving DecidableEq, Repr


/-! ## Clocks and network time (11) -/

/-- PLLs and timebase beside their objects. -/
structure Clk where
  /-- Start of the lock in progress, and of the present or last holdover, of each PLL. -/
  lockAt : Tab Instant := []
  holdAt : Tab Instant := []
  /-- PLLs that a RELOCK still locks. -/
  relock : Nat := 0
  /-- Servo: frequency estimate and rate correction r in ppb; last offset (2^-16 ns) with its instant. -/
  rf : Rat := 0
  rate : Rat := 0
  oPrev : Option (Int × Instant) := none
  /-- The valid offset of R309, and the instant of the last valid offset. -/
  ofs : Option Int := none
  ofsAt : Option Instant := none
  /-- An offset that the slave port has formed and the servo has not used yet. -/
  ofsNew : Option (Int × Instant) := none
  /-- TIME_SET has been written. -/
  setReq : Option Nat := none
  lockRun : Nat := 0
  lossRun : Nat := 0
  alignAt : Instant := 0
  /-- INC: what TIME64 + FRAC16 advances by at a PLL-A tick, in 2^-32 ns (R308); a periphery tick on the grid that it has been adding to,
  and the number of that tick. -/
  inc : Nat := 2684354560
  tickAt : Instant := 0
  tickN : Nat := 0
  /-- The dither registers of the PLLs (R302). -/
  dither : Tab Nat := []
  /-- The RTC: value of TIME64 and the instant at which it was set. -/
  rtc : Nat := 0
  rtcAt : Instant := 0
  deriving DecidableEq, Repr

/-- A master heard on a port: sender (clockIdentity · 65,536 + port number), data set in the order in which it is compared,
steps removed, instants of its last two Announce messages. -/
structure Foreign where
  port : Nat
  src : Nat
  ds : List Nat
  steps : Nat
  times : List Instant
  deriving DecidableEq, Repr

/-- A PTP port. -/
structure PtpPort where
  /-- It entered LISTENING. -/
  since : Instant := 0
  /-- The exchange in progress: sequence number, egress time, ingress time of the response, receipt time at the peer with the
  corrections received (all in 2^-16 ns). -/
  seq : Nat := 0
  t1 : Option Int := none
  t4 : Option Int := none
  t2 : Int := 0
  /-- Completed exchanges and meanLinkDelay. -/
  exchanges : Nat := 0
  mean : Int := 0
  /-- Master followed; a two-step Sync that waits for its Follow_Up: sequence number, ingress time, correction. -/
  parent : Option Nat := none
  sync : Option (Nat × Int × Int) := none
  /-- Instants of the last message of each kind sent, and sequence numbers. -/
  sentAt : Tab Instant := []
  sendSeq : Tab Nat := []
  deriving DecidableEq, Repr

/-- The device's PTP clock. -/
structure Ptp where
  foreign : List Foreign := []
  ports : Tab PtpPort := []
  /-- Two-step Sync messages forwarded in the ring whose Follow_Up is to come: port of arrival, sender, sequence number, residence time in
  2^-16 ns (R318). -/
  resid : List (Nat × Nat × Nat × Nat) := []
  deriving DecidableEq, Repr


/-! ## Supervision and ageing (15) -/

/-- The module record of a gate-link lane (R407 to R410). -/
structure Module where
  /-- VON samples of the set in progress and their sum in mV; VON_BASE. -/
  n : Nat := 0
  sum : Nat := 0
  base : Option Rat := none
  /-- CODE_BASE; the mean DVDT taken at the baseline. -/
  code : Option Nat := none
  dvdt : Option Rat := none
  /-- A drift test: edges still to be sent and still to be reported, qualifying ones and the sum of their DVDT; its start. -/
  toSend : Nat := 0
  toReport : Nat := 0
  dn : Nat := 0
  dsum : Nat := 0
  testAt : Option Instant := none
  /-- Temperature rise in K; direction of T_j (1 rising, 2 falling), present extremum, turning points, newest first. -/
  dT : Rat := 0
  dir : Nat := 0
  ext : Option Rat := none
  turns : List Rat := []
  bins : Tab Nat := []
  life : Rat := 0
  /-- MOD_BASELINE has been written since the last evaluation of Table 15-5. -/
  fresh : Bool := false
  deriving DecidableEq, Repr

/-- Supervision beside its objects. -/
structure Sup where
  mods : Tab Module := []
  /-- Domains that start up, that shut down, and that have a disable pending: bits (R30 to R32). -/
  pdStart : Nat := 0
  pdStop : Nat := 0
  pdDis : Nat := 0
  /-- Standby entry is in progress since. -/
  standbyAt : Option Instant := none
  /-- Retention SRAM: WAKE_CAUSE, entry instant, STANDBY_COUNT (R391). -/
  retained : Option (Nat × Nat × Nat) := none
  /-- Last VID step; since when the step time has been below 95 % of its target. -/
  vidAt : Instant := 0
  lowSince : Option Instant := none
  /-- Step times in ps that the ring monitors gave: domain (3 or 4), instant, value, newest first; those that count in the last
  second (R129). -/
  steps : List (Nat × Instant × Nat) := []
  /-- Supplies whose filtered state is outside the window: bits; consecutive samples on the other side. -/
  supOut : Nat := 0
  supRun : Tab Nat := []
  /-- Start of the pass in progress of each test item; segments whose last signature mismatched, by 64 · engine + segment. -/
  istAt : Tab Instant := []
  segBad : Tab Bool := []
  /-- Spare rows of the SRAMs that have been retired. -/
  spareRows : List Nat := []
  /-- Last arbiter evaluation, and the time throttled. -/
  arbAt : Instant := 0
  /-- Measured draw of the fixed clients in mW. -/
  fixedMw : Nat := 0
  throttled : Instant := 0
  deriving DecidableEq, Repr


/-! ## Duplex pair (14) -/

/-- The HEARTBEAT received last (Table 14-3), and whether SYNCED was set when it arrived. -/
structure Beat where
  cycle : Nat
  tx : Nat
  known : Nat
  mode : Nat
  state : Nat
  flags : Nat
  modeSeq : Nat
  applied : Nat
  dcrc : Nat
  synced : Bool
  deriving DecidableEq, Repr

/-- A claim that is being committed (R372): number, cause of TAKEOVER_CAUSE (11: none is stated), decision. -/
structure Claim where
  number : Nat
  cause : Nat
  at_ : Instant
  deriving DecidableEq, Repr

/-- The duplex pair beside its objects. -/
structure Pair where
  /-- Instant of the last valid reception on each belay lane; BSEQ of the frames accepted last; BSEQ of the next frame sent. -/
  laneAt : Tab Instant := []
  seqs : List Nat := []
  sendSeq : Nat := 0
  /-- The link has been down since; the last uplink with a non-zero BATON. -/
  downSince : Instant := 0
  batonSeen : Option Instant := none
  /-- The partner's data as found at pair formation fits (R368). -/
  peerOk : Bool := false
  beat : Option Beat := none
  /-- A heartbeat has arrived since the last inner deadline; heartbeats missed in a row; PARTNER_ALIVE has been clear since. -/
  beatSeen : Bool := false
  missed : Nat := 0
  deadAt : Instant := 0
  /-- Instances of HB_ALARM. -/
  hbCount : Nat := 0
  /-- Failover cause that a FAULT frame brought, as TAKEOVER_CAUSE codes it; failover causes reported to the partner. -/
  fault : Option Nat := none
  reported : Nat := 0
  claim : Option Claim := none
  /-- Parts of joining that are complete (bits 0 to 4), its start, and since when PAIR_TIME_ERR has held within ±1 ns. -/
  joined : Nat := 0
  joinAt : Instant := 0
  errSince : Option Instant := none
  /-- Own law states at the end of the last inner cycles, newest first; a state vector that waits for the next inner cycle. -/
  snaps : List (Nat × List Rat) := []
  vec : Option StateVec := none
  /-- CYCLE of this device is that of the active one; the CRC of the active parameter set that the last vector brought. -/
  aligned : Bool := false
  paramCrc : Nat := 0
  /-- A standby that is not SYNCED asks for a vector (R379). -/
  vecWanted : Bool := false
  /-- Own DCRC of the last cycles, newest first; mismatches and matches in a row. -/
  dcrcs : List (Nat × Nat) := []
  bad : Nat := 0
  good : Nat := 0
  /-- Last TIME frame sent, as an instant and as its timestamp while no exchange has used it; reception of the partner's last one (R380). -/
  timeAt : Instant := 0
  timeTx : Option Int := none
  timeRx : Option Int := none
  /-- Baton numbers up to this one were known before a renumbering and are ignored (R374); 0: none. -/
  ignore : Nat := 0
  deriving DecidableEq, Repr

/-! ## Ports and networks (13) -/

/-- A CAN controller beside its objects. -/
structure Can where
  /-- CAN_CFG in effect (R366: taken over at Reset Communication). -/
  cfg : Nat := 0
  busOff : Bool := false
  /-- Instant of the last bus-off (R353). -/
  offAt : Instant := 0
  /-- Last heartbeat sent. -/
  hbAt : Instant := 0
  deriving DecidableEq, Repr

/-- A PDO, a TPDO per controller: last transmission or reception, SYNC messages since, the newest values received of a synchronous type and
the controllers on which they wait for SYNC (R352, R355). -/
structure Pdo where
  at_ : Option Instant := none
  syncs : Nat := 0
  held : Option (List Byte) := none
  waits : Nat := 0
  /-- Bytes sent last (a change triggers event-driven types). -/
  last : List Byte := []
  deriving DecidableEq, Repr

/-- A frame of the redundant pair in the duplicate table (R365): source, sequence number, instant, LANs on which it has arrived. -/
structure Dup where
  src : Nat
  seq : Nat
  at_ : Instant
  lans : Nat
  deriving DecidableEq, Repr

/-- Ports and networks beside their objects. -/
structure Net where
  /-- Instants of the requests processed in the last second, by port (R358). -/
  reqs : Tab (List Instant) := []
  cans : Tab Can := []
  rpdos : Tab Pdo := []
  /-- By 16 · controller + number. -/
  tpdos : Tab Pdo := []
  /-- Address, mask, gateway and configuration in effect, by 4 · port + 0 to 3. -/
  eth : Tab Nat := []
  /-- The filtered SERVICE_EN is high; instant of its last change. -/
  svc : Bool := false
  svcAt : Instant := 0
  /-- Source of the NDP request taken last on each port: IPv4 address, UDP port (R356). -/
  peer : Tab (Nat × Nat) := []
  /-- SCB restarts since. -/
  scbAt : Option Instant := none
  /-- Redundancy: duplicate table, newest first, next sequence number, last supervision frame. -/
  dups : List Dup := []
  redSeq : Nat := 0
  supAt : Instant := 0
  deriving DecidableEq, Repr

/-! ## Start-up (16) -/

/-- What start-up found beside its objects. -/
structure BootInfo where
  /-- DUPLEX_ID was unstable (R400). -/
  idUnstable : Bool := false
  /-- Patch slot running; it runs as a trial. -/
  run : Option Nat := none
  trial : Bool := false
  /-- PATCH_RESTART has been asked for. -/
  restart : Bool := false
  /-- RESET_CAUSE of the next start. -/
  cause : Nat := 0
  /-- Instant at which RST_N fell, while it is low (R329). -/
  fellAt : Option Instant := none
  /-- Instant of the last release of RST_N, or of the restart that stands for it. -/
  bootAt : Instant := 0
  /-- Instant from which the next 60 min of R215 run. -/
  codesAt : Instant := 0
  deriving DecidableEq, Repr


/-- What frames an Ethernet frame that the device sends: the VLAN tag (PCP and VID, 0 untagged), and the sequence number of the redundancy
control trailer or HSR tag in a redundant pair (R316, R364, R365). -/
structure EthHdr where
  tag : Nat := 0
  red : Option Nat := none
  deriving DecidableEq, Repr

/-- The frame of a PTP message: destination address, EtherType, domainNumber (R316). -/
structure PtpHdr where
  eth : EthHdr
  dst : Nat
  etherType : Nat
  domain : Nat
  deriving DecidableEq, Repr

/-- What the device sends or drives at its pins, newest first: the model's own log of its outputs (log entry 5). -/
inductive Out where
  /-- A pulse or level at a pin of the device, with the instant of its start. -/
  | pin (name : String) (level : Bool) (at_ : Instant)
  /-- A downlink frame: lane, departure, bytes (Table 7-2; the comma as 0xBC). -/
  | downlink (lane : Nat) (at_ : Instant) (bytes : List Nat)
  /-- A belay frame: type of Table 14-2 and what it carries. -/
  | belay (typ : Nat) (vals : List Nat) (at_ : Instant)
  /-- A PTP message: port, kind (0 Sync, 2 Pdelay_Req, 3 Pdelay_Resp, 8 Follow_Up, 10 Pdelay_Resp_Follow_Up, 11 Announce), what it
  carries. -/
  | ptp (port kind : Nat) (hdr : PtpHdr) (vals : List Int) (at_ : Instant)
  /-- A code at VID[4:0] with its strobe (R437). -/
  | vid (code : Nat) (at_ : Instant)
  /-- A STATE_VECTOR sent to the standby: BSEQ, what it carries (R378). -/
  | vector (bseq : Nat) (v : StateVec) (at_ : Instant)
  /-- A JOIN frame sent to a device that joins: BSEQ, what it carries (R375). -/
  | join (bseq : Nat) (part : JoinPart) (at_ : Instant)
  /-- An NDP frame (Table 13-5): port, on an Ethernet port its frame and the IPv4 address and UDP port it goes to, bytes; on SVC as they are
  sent on the line. -/
  | ndp (port : Nat) (hdr : EthHdr) (to_ : Nat × Nat) (bytes : List Byte)
  /-- An SDO answer on a CAN controller to a client: object, abort code or 0, data. -/
  | sdo (can client obj abort : Nat) (data : List Byte)
  /-- A CAN frame other than an SDO: controller, identifier, data. -/
  | can (can id : Nat) (data : List Byte)
  /-- An Ethernet answer or frame of the device: port, kind (0 ARP reply, 1 ICMP echo reply, 2 supervision frame, 3 HSR frame
  forwarded), what it carries. -/
  | eth (port kind : Nat) (hdr : EthHdr) (vals : List Nat)
  deriving DecidableEq, Repr

/-- The state of the device. -/
structure State where
  /-- Commands that are waiting, first in, first out. -/
  pending : List Instr := []
  /-- Time since the release of RST_N, timebase rate included (log entry 2). -/
  now : Instant := 0
  /-- What TIME64 + FRAC16 is ahead of `now`, in the units of `now`, modulo 2^96 (R309). -/
  epoch : Nat := 0
  /-- The model's own counter of free values used (log entry 3). -/
  free : Nat := 0
  /-- The object dictionary: what differs from the reset value of Objects.lean. -/
  regs : Tab Nat := []
  /-- The physical address space (12, Table 12-1): bytes that differ from 0. -/
  mem : List Host.Cell := []
  /-- Serial number of the last write of each port word, and the count of all of them (INW). -/
  portSerial : Tab Nat := []
  serial : Nat := 0
  engines : Tab Engine := []
  pwm : Pwm := {}
  alarms : Tab Alarm := []
  lanes : Tab Lane := []
  lds : Tab Ldrv := []
  sds : Tab Sdrv := []
  phase : Phase := .reset
  /-- The device holds the baton (14). -/
  holds : Bool := false
  /-- An ARMED command is in execution since this instant (R186). -/
  arming : Option Instant := none
  law : Law := {}
  cad : Cad := {}
  /-- Read-only timed port words 0x000–0x1FF (Tables 5-10, 5-11): what differs from the reset value. -/
  words : Tab Nat := []
  mram : Store := {}
  adc : Adc := {}
  filt : Filt := {}
  memo : Mem := {}
  recs : Tab Rec := []
  tb : TrigBus := {}
  clk : Clk := {}
  ptp : Ptp := {}
  sup : Sup := {}
  pair : Pair := {}
  net : Net := {}
  bootInfo : BootInfo := {}
  outs : List Out := []
  deriving DecidableEq, Repr

/-- The reasons a step can stop with a fault. No command of the model raises one: every refusal and every error the spec
names is an answer or a status in the state. -/
inductive Fault where
  /-- Raised by no command: a state the model's own invariants rule out. Safe. -/
  | outOfModel
  deriving DecidableEq, Repr

/-- The reasons a command can be refused. -/
inductive Refusal where
  /-- The command has no meaning in the model yet (Dispatch.lean alone raises it). Safe: nothing can be proved of it. -/
  | notModelled (mnemonic : String)
  deriving DecidableEq, Repr

/-- The device right after reset: RST_N is held low and is released by RESET_RELEASE; every object has its reset value
(`regs` lists nothing), memory lists nothing, no command waits (log entries 4 and 6). -/
def State.reset : State := {}

end Sys2Proof.Machine
end

