-- ==== Sys2Proof/Machine/Ops.lean ====
section
/-!
DEFINITION. The named operations every family of commands uses: the registers of the object dictionary, time, free
values, the physical memory.
-/

namespace Sys2Proof.Machine

/-! ## Objects and their reset values -/

/-- The row of an object. -/
def objFind (idx sub : Nat) : Option Obj :=
  (objPage (idx / 256)).find? fun o =>
    o.idx ≤ idx && idx < o.idx + o.idxN && o.sub ≤ sub && sub < o.sub + o.subN

/-- The highest subindex in use of an index (13, "Structure"). -/
def objHighest (idx : Nat) : Nat :=
  ((objPage (idx / 256)).filter fun o => o.idx ≤ idx && idx < o.idx + o.idxN).foldl
    (fun m o => max m (o.sub + o.subN - 1)) 0

/-- Defaults that are formulas: CH_CFG (EN = 1, CARRIER = ⌊n/16⌋), LANE_CFG (Table 9-5), DRAM_SIZE (7/8 of the installed DRAM). -/
def specialDefault (idx sub : Nat) : Nat :=
  if idx = 0x2812 ∨ idx = 0x2813 then 0x10 + ((idx - 0x2812) * 128 + (sub - 1)) / 16
  else if idx = 0x2601 then (sub - 1) % 24 * 0x1000000 + 0x301001
  else if idx = 0x2300 then Config.deviceId 6 0 * 7 / 8
  else 0

/-- The reset value of an object. -/
def objReset (k : Nat) : Nat :=
  let idx := k / 256
  let sub := k % 256
  match objFind idx sub with
  | none => 0
  | some o =>
    match o.dflt with
    | .c v => v
    | .lst l => listGet 0 l (sub - o.sub)
    | .byIdxL l => listGet 0 l (idx - o.idx)
    | .byIdx b st => b + st * (idx - o.idx)
    | .dev d => Config.deviceId d ((idx - o.idx) * 256 + (sub - o.sub))
    | .special => specialDefault idx sub

/-- The present value of a register. -/
def State.reg (s : State) (k : Nat) : Nat := tabGet (objReset k) s.regs k

/-- The state with a register set. A register at its reset value is not listed. -/
def State.setReg (s : State) (k v : Nat) : State := { s with regs := tabSet (objReset k) s.regs k v }

/-- A field of a register. -/
def State.fld (s : State) (k : Nat) (f : Fld) : Nat := fget f (s.reg k)

/-- The state with a field of a register set. -/
def State.setFld (s : State) (k : Nat) (f : Fld) (x : Nat) : State := s.setReg k (fset f (s.reg k) x)

/-- A one-bit field of a register. -/
def State.flag (s : State) (k : Nat) (f : Fld) : Bool := s.fld k f == 1

/-- The state with a one-bit field set or cleared. -/
def State.setFlag (s : State) (k : Nat) (f : Fld) (b : Bool) : State := s.setFld k f (b2n b)

/-- Bit `i` of a register. -/
def State.regBit (s : State) (k i : Nat) : Bool := bit (s.reg k) i

/-- The state with bit `i` of a register set or cleared. -/
def State.setRegBit (s : State) (k i : Nat) (b : Bool) : State := s.setReg k (setBit (s.reg k) i b)

/-- A register read as a signed code of `w` bits. -/
def State.sreg (s : State) (w k : Nat) : Int := sget w (s.reg k)

/-! ## Values that act from the next outer-cycle start (R53, R91, R121) -/

/-- The objects of 0x3200–0x36FF that a client writes: the law and policy act on a value from the next outer-cycle start. -/
def actsNextCycle (k : Nat) : Bool :=
  decide (0x3200 ≤ k / 256 ∧ k / 256 ≤ 0x36FF) &&
    match objFind (k / 256) (k % 256) with
    | some o => o.acc == .rws || o.acc == .rw
    | none => false

/-- The value of a register that the law and policy act on. -/
def State.lreg (s : State) (k : Nat) : Nat := if actsNextCycle k then tabGet (objReset k) s.law.seen k else s.reg k

/-- A bit of such a register. -/
def State.lbit (s : State) (k i : Nat) : Bool := bit (s.lreg k) i

/-- An outer-cycle start: the law and policy take up the values written since the last one. -/
def seeRegs (s : State) : State :=
  { s with law := { s.law with seen := s.regs.filter fun e => actsNextCycle e.1, brkUse := s.law.brkAt } }

/-- The law writes such an object itself (ISLANDED): its own value acts at once. -/
def State.setOwn (s : State) (k v : Nat) : State :=
  let s := s.setReg k v
  { s with law := { s.law with seen := tabSet (objReset k) s.law.seen k v } }

/-! ## Free values -/

/-- A fresh free value below 2^w. -/
def State.freeVal (s : State) (w : Nat) : Nat := Config.freeVal s.free % 2 ^ w

/-- The state after a free value has been used. -/
def State.useFree (s : State) : State := { s with free := s.free + 1 }

/-- A counter register of 32 bits incremented; what follows its greatest value the spec does not state, so it is a
free value there (log entry 3). -/
def State.bump (s : State) (k : Nat) : State :=
  if s.reg k + 1 < 4294967296 then s.setReg k (s.reg k + 1) else (s.setReg k (s.freeVal 32)).useFree

/-- A counter register incremented `n` times. -/
def State.bumpBy (s : State) (k n : Nat) : State :=
  if s.reg k + n < 4294967296 then s.setReg k (s.reg k + n) else (s.setReg k (s.freeVal 32)).useFree

/-- A result of which the spec does not say how it is rounded: one of the two nearest whole numbers. -/
def State.openRound (s : State) (q : Rat) : Int × State :=
  if q.den = 1 then (q.num, s) else (q.floor + (s.freeVal 1 : Nat), s.useFree)

/-! ## Time -/

/-- The state at an instant: time never runs back. -/
def State.advance (s : State) (t : Instant) : State := { s with now := max s.now t }

/-- TIME64 and FRAC16 together, in units of 2^-32 ns modulo 2^96, at an instant (R9). -/
def State.ptpAt (s : State) (t : Instant) : Nat := (t + s.epoch) % 2 ^ 96

/-- TIME64 at an instant. -/
def State.time64At (s : State) (t : Instant) : Nat := s.ptpAt t / 2 ^ 32

/-- A periphery tick: eight PLL-A ticks, 5 ns × (1 + r) of TIME64 (R308). -/
def State.tickLen (s : State) : Instant := 8 * s.clk.inc

/-- The latest periphery tick at or before an instant. -/
def State.tickFloor (s : State) (t : Instant) : Instant :=
  if s.clk.tickAt ≤ t then t - (t - s.clk.tickAt) % s.tickLen
  else s.clk.tickAt - (s.clk.tickAt - t + s.tickLen - 1) / s.tickLen * s.tickLen

/-- Its number. -/
def State.tickNo (s : State) (t : Instant) : Nat :=
  if s.clk.tickAt ≤ t then s.clk.tickN + (t - s.clk.tickAt) / s.tickLen
  else s.clk.tickN - (s.clk.tickAt - t + s.tickLen - 1) / s.tickLen

/-- The instant is a periphery tick. -/
def State.onTick (s : State) (t : Instant) : Bool := s.tickFloor t == t

/-- The first periphery tick at or after an instant (R15). -/
def State.tickCeil (s : State) (t : Instant) : Instant := if s.onTick t then t else s.tickFloor t + s.tickLen

/-- The last periphery tick before an instant. -/
def State.tickBefore (s : State) (t : Instant) : Instant := s.tickCeil t - s.tickLen

/-- The last instant at which the timebase has added: a PLL-A tick, during a RELOCK of PLL-A an edge of XIN (R307, R308). -/
def State.timeTick (s : State) (t : Instant) : Instant :=
  if s.clk.tickAt ≤ t then t - (t - s.clk.tickAt) % (if bit s.clk.relock 0 then 64 * s.clk.inc else s.clk.inc) else t

/-- TIME64 now. -/
def State.time64 (s : State) : Nat := s.time64At (s.timeTick s.now)

/-- The instant (in the device's own count) at which TIME64 + FRAC16 has a given value, taken in the half turn of the
modulus around now; a value before the release of RST_N gives 0. -/
def State.instantOf (s : State) (t64 frac : Nat) : Instant :=
  ((s.now : Int) + sget 96 (sput 96 ((t64 : Int) * 2 ^ 32 + frac * 2 ^ 16 - s.ptpAt s.now))).toNat

/-- LEAD as a duration. -/
def State.lead (s : State) : Instant := ns (s.reg Reg.LEAD)

/-- The look-ahead instant of now (01, "Look-ahead time"). -/
def State.la (s : State) : Instant := s.now + s.lead

/-! ## Outputs -/

/-- The state after an output has been emitted. -/
def State.emit (s : State) (o : Out) : State := { s with outs := o :: s.outs }

/-! ## Physical memory (12) -/

/-- The canonical form of memory: addresses strictly rising, no byte equal to what an unlisted address reads as. -/
def Memory.wf (m : List Host.Cell) : Bool := tabWf (0 : Byte) m

/-- A byte of memory; an unlisted address reads 0 (log entry 7). -/
def memByte (m : List Host.Cell) (a : Nat) : Byte := tabGet 0 m a

/-- Memory with a byte written. -/
def memSet (m : List Host.Cell) (a : Nat) (b : Byte) : List Host.Cell := tabSet 0 m a b

/-- The `n` bytes from `a` on. -/
def memRead : Nat → List Host.Cell → Nat → List Byte
  | 0, _, _ => []
  | n + 1, m, a => memByte m a :: memRead n m (a + 1)

/-- Memory with bytes written from `a` on. -/
def memWrite : List Byte → List Host.Cell → Nat → List Host.Cell
  | [], m, _ => m
  | b :: t, m, a => memWrite t (memSet m a b) (a + 1)

/-- A value of `n` bytes in memory, least significant byte first. -/
def State.load (s : State) (n a : Nat) : Nat := ofBytes (memRead n s.mem a)

/-- The state with a value of `n` bytes stored, least significant byte first. -/
def State.store (s : State) (n a v : Nat) : State := { s with mem := memWrite (toBytes n v) s.mem a }

/-- A whole range of memory set to zero: its bytes are no longer listed. -/
def memZero (lo hi : Nat) (m : List Host.Cell) : List Host.Cell := m.filter fun c => c.1 < lo || hi ≤ c.1

/-- The state after a bulk operation on each number of a list, in its order. -/
def State.forEach {α : Type} (s : State) (l : List α) (f : α → State → State) : State := l.foldl (fun s x => f x s) s

/-! ## Port words -/

/-- Reset value of a read-only timed port word (Table 5-11). -/
def wordReset (p : Nat) : Nat := if 0x100 ≤ p ∧ p < 0x128 then 0x80000000 else 0

/-- A read-only timed port word 0x000–0x1FF. -/
def State.word (s : State) (p : Nat) : Nat := tabGet (wordReset p) s.words p

/-- A port word has been written: INW waits for this (R132). -/
def State.portWritten (s : State) (p : Nat) : State :=
  { s with serial := s.serial + 1, portSerial := tabSet 0 s.portSerial p (s.serial + 1) }

/-- The device writes a port word. -/
def State.setWord (s : State) (p v : Nat) : State := { s with words := tabSet (wordReset p) s.words p v }.portWritten p

/-! ## Units by number -/

/-- An engine. -/
def State.engine (s : State) (e : Nat) : Engine := tabGet {} s.engines e
/-- The state with an engine set. -/
def State.setEngine (s : State) (e : Nat) (x : Engine) : State := { s with engines := tabSet {} s.engines e x }

/-- STATE of Table 5-15: 0 stopped, 1 idle, 2 running (a control phase is in progress), 3 faulted. -/
def State.engState (s : State) (e : Nat) : Nat :=
  if (s.engine e).faulted then 3 else if (s.engine e).inCycle then 2 else if s.reg (Reg.ENABLE e) = 1 then 1 else 0

/-- While the built-in law is enabled it owns CG0–CG9, EC0–EC95, LG0, SQ0, SQ1, TA0–TA2 and GL0–GL23 (R34). -/
def State.builtin (s : State) : Bool := s.reg Reg.LAW_BUILTIN == 1

/-! ## The belay link (R369, R413) -/

/-- A flag of PAIR_STATUS. -/
def State.ps (s : State) (f : Fld) : Bool := s.flag Reg.PAIR_STATUS f
def State.setPs (s : State) (f : Fld) (b : Bool) : State := s.setFlag Reg.PAIR_STATUS f b

/-- The pair state of Table 14-4. -/
def State.pairState (s : State) : Nat := s.fld Reg.PAIR_STATUS F.PAIR_STATUS_STATE

/-- A belay lane is up. -/
def State.linkUp (s : State) : Bool := s.ps F.PAIR_STATUS_BL0_UP || s.ps F.PAIR_STATUS_BL1_UP

/-- A belay frame, which BSEQ numbers, is sent on both lanes (R369, Table 14-1). -/
def belayOut (f : Nat → Out) (s : State) : State :=
  { s with pair := { s.pair with sendSeq := (s.pair.sendSeq + 1) % 2 ^ 32 } }.emit (f s.pair.sendSeq)

/-- A belay frame of a type is sent. -/
def belaySend (typ : Nat) (vals : List Nat) (s : State) : State := belayOut (fun q => .belay typ (q :: vals) s.now) s

/-! ## Conditions of the timebase step (R309) -/

/-- No carrier runs and no CG_START is pending. -/
def State.carriersIdle (s : State) : Bool :=
  (List.range 16).all fun n => let c := tabGet {} s.pwm.carriers n; !c.running && c.startAt.isNone

def State.tf (s : State) (f : Fld) : Bool := s.flag Reg.TIME_FLAGS f
def State.setTf (s : State) (f : Fld) (b : Bool) : State := s.setFlag Reg.TIME_FLAGS f b

/-- The third and fourth condition of R309. -/
def State.stepAllowed (s : State) : Bool := s.reg Reg.MODE == 0 && s.carriersIdle

/-- TIME_STATE. -/
def setTimeState (n : Nat) (s : State) : State := (s.setReg Reg.TIME_STATE n).setTf F.TIME_FLAGS_LOCKED (n == 3)

/-- STEP_DEFERRED is set while the first condition of R309 holds without the last two; with a valid offset the timebase is then SYNTONISED
(R313). -/
def stepDeferred (s : State) : State :=
  if !s.tf F.TIME_FLAGS_STEPPED && (s.clk.ofs.isSome || s.clk.setReq.isSome) && !s.stepAllowed then
    let s := s.setTf F.TIME_FLAGS_STEP_DEFERRED true
    if s.clk.ofs.isSome then setTimeState 1 s else s
  else s

/-! ## Internal records of the journal -/

/-- An internal record is written to the journal and mirrored in a pair (R413, R398, R401, R384, R421). -/
def State.note (s : State) (what : Nat) (vals : List Nat) : State :=
  let s := { s with mram := { s.mram with notes := ⟨what, s.now, vals⟩ :: s.mram.notes } }
  if s.reg Reg.PAIR_EN = 1 ∧ s.holds then belaySend 0x10 (what :: vals) s else s

/-- Kinds of internal records. -/
def noteReplan : Nat := 1
def noteTest : Nat := 2
def noteSupply : Nat := 3
def noteTakeover : Nat := 4
/-- The RESULT recorded for an item: port, session, sequence number, RESULT. -/
def noteResult : Nat := 9
def noteConfig : Nat := 5
def noteWordLine : Nat := 6
def noteSlice : Nat := 7

/-- A failure of an in-service test item is counted and journaled with the unit that failed (R398). -/
def istFail (item unit : Nat) (s : State) : State :=
  ((s.bump (Reg.IST_FAILS item)).setFlag Reg.SUP_STATUS F.SUP_STATUS_IST_FAIL true).note noteTest [item, unit]

/-- The state with a register set to a result whose rounding the spec leaves open; a result outside the register's range has no
stated value. -/
def setOpen (k w : Nat) (signed : Bool) (q : Rat) (s : State) : State :=
  let r := s.openRound q
  let lo : Int := if signed then -(2 ^ (w - 1) : Nat) else 0
  let hi : Int := if signed then (2 ^ (w - 1) : Nat) else (2 ^ w : Nat)
  if lo ≤ r.1 ∧ r.1 < hi then r.2.setReg k (sput w r.1) else (r.2.setReg k (r.2.freeVal w)).useFree

/-! ## Failover causes (R383) -/

/-- A law engine: OE0–OE7 of the built-in law, else those that LAW_ENGINES names (03). -/
def State.lawEngine (s : State) (e : Nat) : Bool :=
  if s.builtin then decide (e < 8) else bit (s.lreg Reg.LAW_ENGINES) e

/-- The failover causes present, bits as FAILOVER_MASK. -/
def State.failover (s : State) : Nat :=
  b2n ((List.range 16).any fun e => s.lawEngine e && (s.engine e).faulted) + 2 * b2n (s.reg Reg.MODE == 6)
    + 4 * b2n (s.flag Reg.CLK_STATUS F.CLK_STATUS_HOLDOVER_EXCEEDED) + 8 * b2n (s.flag Reg.LAW_STATUS F.LAW_STATUS_SENSOR_FAULT)

/-- The active device of a pair reports each new failover cause that FAILOVER_MASK enables with a FAULT frame, as TAKEOVER_CAUSE
codes it. -/
def reportFaults (s : State) : State :=
  let now := s.failover &&& s.reg Reg.FAILOVER_MASK
  let s := if s.reg Reg.PAIR_EN = 1 ∧ s.holds then
      s.forEach (bitsOf 4 (clearMask now s.pair.reported)) fun i s => belaySend 0x03 [3 + i] s
    else s
  { s with pair := { s.pair with reported := now } }

/-! ## The budget (R394) -/

/-- The floor of one engine in mW: a share of 40 tokens of 10 mA at VDD. -/
def State.floorMw (s : State) (pct : Nat) : Rat := (40 * pct : Rat) / 100 * s.reg Reg.VDD_CHOSEN / 100

/-- POWER_COMMIT with `n` enabled engines and a floor: the measured fixed draw plus the floors. -/
def State.commitMw (s : State) (n pct : Nat) : Rat := s.sup.fixedMw + n * s.floorMw pct

/-- The enabled engines. -/
def State.enabledEngines (s : State) : Nat := ((List.range 16).filter fun e => s.reg (Reg.ENABLE e) == 1).length

/-! ## Enabling an engine (R150) -/

/-- The power domain of an engine is on (PD3 for OE0–OE7, PD4 for OE8–OE15). -/
def State.enginePower (s : State) (e : Nat) : Bool := s.regBit Reg.PD_ON (if e < 8 then 3 else 4)

/-- An engine that is off starts on an enable: an image loaded, its domain on, ALARM named, its floor within BUDGET (R150, R394). The
built-in law's engines are not enabled by a write, and R394 does not refuse them. -/
def State.engStarts (s : State) (e : Nat) : Bool :=
  (s.engine e).valid && s.enginePower e && s.reg (Reg.ALARM e) != 0xFF
    && (s.builtin && decide (e < 8) || decide (s.commitMw (s.enabledEngines + 1) (s.reg Reg.FLOOR) ≤ (s.reg Reg.BUDGET : Rat)))

/-- The engine is enabled from off: CYCLE_NO counts from here (Table 5-13). -/
def engEnabled (e : Nat) (s : State) : State :=
  let x := s.engine e
  (s.setEngine e { x with cycle0 := x.cycleNo }).setReg (Reg.ENABLE e) 1

/-! ## Persistent configuration values written by policy or APPLY (R424) -/

/-- The slot with the higher generation among those that exist, with its number: 0 A, 1 B (R425). -/
def Store.newest (m : Store) : Option (Nat × Slot) :=
  match m.slotA, m.slotB with
  | some a, some b => if b.gen > a.gen then some (1, b) else some (0, a)
  | some a, none => some (0, a)
  | none, some b => some (1, b)
  | none, none => none

/-- The delta records beyond the LAST_SEQ of the newest slot (R427). -/
def Store.beyond (m : Store) : List Delta :=
  match m.newest with
  | some x => m.deltas.filter fun d => decide (x.2.last < d.seq)
  | none => m.deltas

/-- A log of 1,024 records starts a compaction in the background (R427). -/
def compactStart (s : State) : State :=
  if s.mram.compactAt = none ∧ 1024 ≤ s.mram.beyond.length then
    { s with mram := { s.mram with compactAt := some s.now, compactSeq := s.mram.deltaSeq } }.setFlag Reg.CFG_STATUS
      F.CFG_STATUS_COMPACTING true
  else s

/-- Without a valid slot the first RWS write creates slot A with generation 1 (R421). -/
def firstSlot (s : State) : State :=
  if s.mram.newest = none then
    { s with mram := { s.mram with slotA := some ⟨1, s.mram.deltaSeq, [], []⟩ } }.setReg Reg.CFG_GEN 1
  else s

/-- A delta record is appended (R424). -/
def addDelta (d : Delta) (s : State) : State :=
  let s := firstSlot s
  compactStart ({ s with mram := { s.mram with deltas := s.mram.deltas ++ [d], deltaSeq := d.seq } }.setReg Reg.CFG_SEQ d.seq)

/-- RWS writes are refused by the BOOT strap (R420). -/
def State.rwsLocked (s : State) : Bool := s.flag Reg.CFG_STATUS F.CFG_STATUS_RWS_LOCKED

/-- An RWS value written by a command of its own is stored (R424). -/
def storeRws (k v : Nat) (s : State) : State :=
  if s.rwsLocked then s else addDelta ⟨s.mram.deltaSeq + 1, k, v, none, 0xFF, 0, 0⟩ s

/-- An RWS object written by a command of its own is stored where the write was taken: its status is OK, 0. -/
def stored (k v : Nat) (r : State × Nat) : State := if r.2 = 0 then storeRws k v r.1 else r.1

/-! ## Step time (R129) -/

/-- Measured values of one ring that count at an instant: those of the last second, and the one that held when it began. -/
def inSecond (now : Instant) : List (Nat × Instant × Nat) → List (Nat × Instant × Nat)
  | [] => []
  | e :: t => if e.2.1 + sec 1 ≤ now then [e] else e :: inSecond now t

/-- STEP_MEAS: the longest step time over the last second of the rings whose domain is on; 0 while both are off (R129). -/
def State.stepMeas (s : State) : Nat :=
  let of (d : Nat) : List Nat :=
    if s.regBit Reg.PD_ON d then (inSecond s.now (s.sup.steps.filter fun e => e.1 == d)).map fun e => e.2.2 else []
  (of 3 ++ of 4).foldl max 0

end Sys2Proof.Machine
end

