-- ==== Sys2Proof/Machine/ObjCheck.lean ====
section
/-!
DEFINITION. The checks of a value against its object row: type size, Unit/Range, reserved fields (R5, R13, R14), and the
statuses of Table 13-3.
-/

namespace Sys2Proof.Machine

/-! ## Statuses of Table 13-3 -/
def stOK : Nat := 0
def stNoObject : Nat := 1
def stAccess : Nat := 2
def stLevel : Nat := 3
def stLength : Nat := 4
def stRange : Nat := 5
def stState : Nat := 6
def stBusy : Nat := 7
def stNotActive : Nat := 8
def stSequence : Nat := 9
def stMalformed : Nat := 10

/-- Width of a type in bits (Table 0-3); a STRING has none. -/
def tyBits : Ty → Nat
  | .bool | .u8 => 8
  | .u16 | .i16 | .q15 | .angle16 => 16
  | .u32 | .i32 | .q31 => 32
  | .u64 | .time64 => 64
  | .string => 0

/-- Whether a type reads as a signed number. -/
def tySigned : Ty → Bool
  | .i16 | .i32 | .q15 | .q31 => true
  | _ => false

/-- The number that a code of the type stands for. -/
def tyVal (t : Ty) (v : Nat) : Int := if tySigned t then sget (tyBits t) v else (v : Int)

/-- Trigger source codes of Table 8-1. -/
def trigCodeOk (v : Nat) : Bool := v ≤ 4 || (16 ≤ v && v ≤ 63)

/-- Channel sources of Table 10-1 (R277). -/
def chSrcOk (v : Nat) : Bool :=
  match v / 4096 with
  | 0 => v % 4096 = 0
  | 1 => v % 4096 < 64
  | 2 => v % 4096 < 40
  | 3 => v % 4096 < 0x1E
  | 4 => v % 64 < 16
  | 5 => v % 4096 < 256
  | _ => false

/-- Ranges that are code tables, or that depend on the index. -/
def specialRange (idx _sub v : Nat) : Bool :=
  if idx = 0x3000 then v = 50 || v = 60
  else if idx = 0x3001 then 1 ≤ v && v ≤ 200
  else if 0x2410 ≤ idx && idx < 0x2418 then trigCodeOk v
  else if 0x2720 ≤ idx && idx < 0x2724 then chSrcOk v
  else if idx = 0x280D then 0x200 ≤ v && v ≤ 0x5FF && !(0x220 ≤ v && v ≤ 0x2FF)
  else if (0x1400 ≤ idx && idx < 0x1410) || (0x1800 ≤ idx && idx < 0x1810) then v = 254 || v = 255 || (1 ≤ v && v ≤ 240)
  else true

/-- Conditions between the fields of one value: LANE_CFG.SRC by its type (Table 9-5), TA_CFG.PHASE < DIV (R323), DMA_CFG
wrap exponents ELEM–40 (Table 12-9). -/
def crossFields (idx v : Nat) : Bool :=
  if idx = 0x2601 then fget F.LANE_CFG_SRC_TYPE v = 1 || fget F.LANE_CFG_SRC v ≤ 23
  else if 0x2240 ≤ idx && idx < 0x2250 then fget F.TA_CFG_PHASE v < fget F.TA_CFG_DIV v
  else if 0x2320 ≤ idx && idx < 0x2330 then
    let e := fget F.DMA_CFG_ELEM v
    decide (e ≤ fget F.DMA_CFG_SRC_WRAP v) && decide (fget F.DMA_CFG_SRC_WRAP v ≤ 40)
      && decide (e ≤ fget F.DMA_CFG_DST_WRAP v) && decide (fget F.DMA_CFG_DST_WRAP v ≤ 40)
  else true

/-- Whether a value lies in the range of its row. -/
def rngOk (o : Obj) (idx sub v : Nat) : Bool :=
  let x := tyVal o.ty v
  match o.rng with
  | .all => true
  | .bool => v ≤ 1
  | .rng lo hi => decide (lo ≤ x) && decide (x ≤ hi)
  | .orVal lo hi w => (decide (lo ≤ x) && decide (x ≤ hi)) || x == w
  | .mult lo hi m => decide (lo ≤ x) && decide (x ≤ hi) && x % m == 0
  | .oneOf l => l.contains v
  | .mask m => clearMask v m == 0
  | .fields m l => clearMask v m == 0 && (l.all fun f =>
      let y := fget ⟨f.1, f.2.1⟩ v
      decide (f.2.2.1 ≤ y) && decide (y ≤ f.2.2.2)) && crossFields idx v
  | .w1c m _ => clearMask v m == 0
  | .special => specialRange idx sub v

/-- Whether a value may be written to the object of a key as far as its row says (R5, R13). -/
def valueOk (k v : Nat) : Bool :=
  match objFind (k / 256) (k % 256) with
  | none => false
  | some o => decide (v < 2 ^ tyBits o.ty) && rngOk o (k / 256) (k % 256) v

/-- What a direct write makes of the old value: a status word keeps its read-only bits and loses the W1C bits written 1. -/
def writeResult (k old v : Nat) : Nat :=
  match objFind (k / 256) (k % 256) with
  | some o => match o.rng with
    | .w1c _ w => clearMask old (v &&& w)
    | _ => v
  | none => v

end Sys2Proof.Machine
end

