-- ==== Sys2Proof/Machine/MemOps.lean ====
section
/-!
DEFINITION. The operations of the physical memory (12_memory_ecc_dma.md): the address map, error correction, DMA channels
and their stream ports, the scrubber.
-/

namespace Sys2Proof.Machine

/-! ## Address map (R326, Tables 12-1 and 12-2) -/

def dramBase : Nat := 0x100000000
def sramBase : Nat := 0x10000000
def fabricBase : Nat := 0x10FFF000
def engineBase : Nat := 0x41000000
def flStream : Nat := 0x42000000
def sqStream : Nat := 0x42004000

/-- Memory code of Table 12-2 of an address. -/
def State.memCode (s : State) (a : Nat) : Option Nat :=
  if a < 0x40000 then some 5
  else if sramBase ≤ a ∧ a < fabricBase + 0x400 ∨ fabricBase + 0x800 ≤ a ∧ a < fabricBase + 0xC00 then some 0
  else if 0x20000000 ≤ a ∧ a < 0x22000000 then some 1
  else if engineBase ≤ a ∧ a < 0x41100000 then (if a / 0x8000 % 2 = 0 then some 3 else some 4)
  else if dramBase ≤ a ∧ a < dramBase + s.reg Reg.DRAM_SIZE then some 2
  else none

/-- Data bytes of a code word (Table 12-2). -/
def codeBytes : Nat → Nat
  | 1 | 2 => 8
  | 4 => 2
  | _ => 4

/-- Byte address of a fabric-memory port (R134). -/
def fabricAddr (p : Nat) : Nat := if p < 0x900 then fabricBase + 4 * (p - 0x700) else fabricBase + 0x800 + 4 * (p - 0x900)
/-- Byte addresses of a program word and of a data word of an engine (12). -/
def progAddr (e w : Nat) : Nat := engineBase + e * 0x10000 + 4 * w
def dataAddr (e w : Nat) : Nat := engineBase + e * 0x10000 + 0x8000 + 2 * w

/-- Policy words 0x7F0 to 0x7F3 (Table 5-13); the others are reserved. -/
def State.policyWord (s : State) (p : Nat) : Nat :=
  if p = 0x7F0 then s.reg Reg.MODE
  else if p = 0x7F1 then s.law.modeSeq
  else if p = 0x7F2 then s.reg Reg.HELD_MODE
  else if p = 0x7F3 then b2n s.holds
  else 0

/-- A byte as a device-side reader finds it: policy words are live; the ROM and the law in the program SRAM of OE0 to OE7 read the
same at every read, the eMRAM as long as what is stored there stays (R327; log entry 118); what the law holds in their data SRAM is
free. -/
def State.physByte (s : State) (j a : Nat) : Byte :=
  if a < 0x40000 then Config.romByte a
  else if 0x20000000 ≤ a ∧ a < 0x22000000 then Config.storedByte (Store × Tab (List Nat)) (s.mram, s.filt.coefs) a
  else if s.builtin ∧ engineBase ≤ a ∧ a < engineBase + 0x80000 then
    if a / 0x8000 % 2 = 0 then Config.romByte a else BitVec.ofNat 8 (Config.freeVal (s.free + j))
  else if fabricBase + 0x3C0 ≤ a ∧ a < fabricBase + 0x400 then
    BitVec.ofNat 8 (s.policyWord (0x700 + (a - fabricBase) / 4) / 256 ^ (a % 4))
  else memByte s.mem a

/-- `n` bytes from an address; the free values among them are used up. -/
def State.physRead (s : State) (n a : Nat) : List Byte × State :=
  ((List.range n).map fun j => s.physByte j (a + j), { s with free := s.free + n })

/-! ## Error correction (R330 to R332) -/

/-- The code words that `n` bytes from `a` touch, by their first address. -/
def State.codeWords (s : State) (n a : Nat) : List Nat :=
  match s.memCode a with
  | none => []
  | some m =>
    let w := codeBytes m
    (List.range ((a % w + n + w - 1) / w)).map fun i => a / w * w + i * w

def State.eccAt (s : State) (a : Nat) : Nat := tabGet 0 s.memo.ecc a
def setEcc (a v : Nat) (s : State) : State := { s with memo := { s.memo with ecc := tabSet 0 s.memo.ecc a v } }

/-- A correctable error delivered, an uncorrectable one found: counter and address of its memory. -/
def countCe (a : Nat) (s : State) : State :=
  match s.memCode a with
  | some m => (s.bump (Reg.ECC_CORR m)).setReg (Reg.LAST_CE_ADDR m) a
  | none => s
def countUe (a : Nat) (s : State) : State :=
  match s.memCode a with
  | some m => (s.bump (Reg.ECC_UNCORR m)).setReg (Reg.LAST_UE_ADDR m) a
  | none => s

/-- The error checks of a read of `n` bytes: the counters, and the first uncorrectable code word. -/
def State.eccCheck (s : State) (n a : Nat) : Option Nat × State :=
  (s.codeWords n a).foldl (fun r w =>
    match r.2.eccAt w with
    | 0 => r
    | 1 => (r.1, countCe w r.2)
    | _ => (r.1 <|> some w, countUe w r.2)) (none, s)

def State.dma (s : State) (c : Nat) : Dma := tabGet {} s.memo.dmas c
def State.setDma (s : State) (c : Nat) (d : Dma) : State := { s with memo := { s.memo with dmas := tabSet {} s.memo.dmas c d } }
def State.dmaFlag (s : State) (c : Nat) (f : Fld) : Bool := s.flag (Reg.DMA_STATUS c) f
def State.dmaElem (s : State) (c : Nat) : Nat := 2 ^ s.fld (Reg.DMA_CFG c) F.DMA_CFG_ELEM

/-- A(B, k, i) of R335 for elements of `e` bytes. -/
def dmaAddr (b k e i : Nat) : Nat := b / 2 ^ k * 2 ^ k + (b + i * e) % 2 ^ k

def State.dmaSrc (s : State) (c i : Nat) : Nat := dmaAddr (s.dma c).src (s.fld (Reg.DMA_CFG c) F.DMA_CFG_SRC_WRAP) (s.dmaElem c) i
def State.dmaDst (s : State) (c i : Nat) : Nat := dmaAddr (s.dma c).dst (s.fld (Reg.DMA_CFG c) F.DMA_CFG_DST_WRAP) (s.dmaElem c) i

/-- A channel halts with a cause of Table 12-10. -/
def dmaHalt (c cause : Nat) (s : State) : State :=
  let s := (s.setFlag (Reg.DMA_STATUS c) F.DMA_STATUS_BUSY false).setFlag (Reg.DMA_STATUS c) F.DMA_STATUS_HALTED true
  let s := s.setFld (Reg.DMA_STATUS c) F.DMA_STATUS_HALT_CAUSE cause
  s.setDma c { s.dma c with cont := true, acking := false, emptyAt := none, spent := 0 }

/-- The addresses and the count of elements not yet written are reported. -/
def dmaReport (c : Nat) (s : State) : State :=
  let i := (s.dma c).i
  ((s.setReg (Reg.REMAIN c) (s.reg (Reg.COUNT c) - i)).setReg (Reg.CUR_SRC c) (s.dmaSrc c i)).setReg (Reg.CUR_DST c) (s.dmaDst c i)

/-- An error that cannot be corrected under a write: a DMA channel halts with cause 2, a record has a gap (Table 12-3). -/
def writeFailed (m : Master) (s : State) : State :=
  match m with
  | .dma c => if s.dmaFlag c F.DMA_STATUS_BUSY then dmaHalt c 2 (dmaReport c s) else s
  | .rows n => { s with recs := tabSet {} s.recs n { tabGet {} s.recs n with gap := true } }
  | .zeset => s

/-- The bytes of the granule at `g` that `n` bytes from `a` cover, bit k for byte k. -/
def granuleMask (g a n : Nat) : Nat := if a + n ≤ g then 0 else 2 ^ min 64 (a + n - g) - 2 ^ (a - g)

/-- The k-th code word of a granule is covered as a whole. -/
def wordWhole (mask k : Nat) : Bool := mask / 2 ^ (8 * k) % 256 == 255

/-- Bytes of a granule are written (R330): the interface holds it from its first partial write on; a granule that has been written
whole goes to DRAM with no read-modify-write. A code word written whole loses its error. -/
def heldWrite (m : Master) (a n : Nat) (s : State) (g : Nat) : State :=
  let old := s.memo.held.find? (·.addr == g)
  let mask := (old.map (·.mask)).getD 0 ||| granuleMask g a n
  let s := s.forEach ((List.range 8).filter (wordWhole mask)) fun k s => setEcc (g + 8 * k) 0 s
  let rest := s.memo.held.filter (·.addr != g)
  let h : Held := ⟨g, (old.map (·.since)).getD s.now, mask, m :: ((old.map (·.owners)).getD []).erase m⟩
  { s with memo := { s.memo with held := if mask = 2 ^ 64 - 1 then rest else rest ++ [h] } }

/-- The read-modify-write of a held granule: its code words that were not written whole are read; a correctable error is counted
and corrected, an uncorrectable one stays and acts on who wrote (R330 to R332; log entry 112). The answer is the first of these. -/
def heldRmw (h : Held) (s : State) : Option Nat × State :=
  let s := { s with memo := { s.memo with held := s.memo.held.erase h } }
  let r := ((List.range 8).filter fun k => !wordWhole h.mask k).foldl (fun (r : Option Nat × State) k =>
    let w := h.addr + 8 * k
    match r.2.eccAt w with
    | 0 => r
    | 1 => (r.1, setEcc w 0 (countCe w r.2))
    | _ => (r.1 <|> some w, countUe w r.2)) (none, s)
  (r.1, if r.1.isSome then r.2.forEach h.owners writeFailed else r.2)

/-- The held granules of a kind are written now. -/
def heldFlush (p : Held → Bool) (s : State) : Option Nat × State :=
  (s.memo.held.filter p).foldl (fun r h => let q := heldRmw h r.2; (r.1 <|> q.1, q.2)) (none, s)

/-- The granules held for 200 ns are written (R330). -/
def heldExpire (s : State) : State := (heldFlush (fun h => decide (h.since + ns 200 ≤ s.now)) s).2

/-- The granules that a master has written parts of are written. -/
def heldOf (m : Master) (s : State) : State := (heldFlush (fun h => h.owners.contains m) s).2

/-- The granules that `n` bytes from `a` touch. -/
def granules (a n : Nat) : List Nat := (List.range ((a % 64 + n + 63) / 64)).map fun i => a / 64 * 64 + 64 * i

/-- Bytes written by a device-side master (R330). In DRAM the interface merges them into granules; elsewhere a code word written
whole, or read and corrected, loses its error, and one that stays uncorrectable under a narrow write is answered. -/
def State.physWriteBy (s : State) (m : Master) (a : Nat) (l : List Byte) : Option Nat × State :=
  let n := l.length
  if s.memCode a = some 2 then
    let s := (granules a n).foldl (heldWrite m a n) (heldExpire s)
    (none, { s with mem := memWrite l s.mem a })
  else
  let r := (s.codeWords n a).foldl (fun (r : Option Nat × State) w =>
    let size := match r.2.memCode w with
      | some m => codeBytes m
      | none => 1
    let whole := decide (a ≤ w) && decide (w + size ≤ a + n)
    match r.2.eccAt w with
    | 0 => r
    | 1 => (r.1, setEcc w 0 (if whole then r.2 else countCe w r.2))
    | _ => if whole then (r.1, setEcc w 0 r.2) else (r.1 <|> some w, countUe w r.2)) (none, s)
  (r.1, { r.2 with mem := memWrite l r.2.mem a })

/-- Bytes written by Zeset, whose write is acknowledged before it goes on: the granules it touches are written at once. -/
def State.physWrite (s : State) (a : Nat) (l : List Byte) : Option Nat × State :=
  let r := s.physWriteBy .zeset a l
  let q := heldFlush (fun h => (granules a l.length).contains h.addr && h.owners.contains .zeset) r.2
  (r.1 <|> q.1, q.2)

/-- The fabric-memory ports whose words `n` bytes from `a` on touch (R134). -/
def fabricPorts (a n : Nat) : List Nat :=
  if a + n ≤ fabricBase ∨ fabricBase + 0x1000 ≤ a then []
  else (List.range ((a % 4 + n + 3) / 4)).filterMap fun i =>
    let w := (a / 4 + i) - fabricBase / 4
    if a / 4 + i < fabricBase / 4 then none
    else if w < 0x100 then some (0x700 + w)
    else if 0x200 ≤ w ∧ w < 0x300 then some (0x900 + (w - 0x200))
    else none

/-- The fabric-memory ports among `n` bytes from `a` have been written (Table 5-6). -/
def portsWritten (a n : Nat) (s : State) : State := (fabricPorts a n).foldl State.portWritten s

/-- Bytes written by MEM_WRITE. -/
def devWrite (a : Nat) (l : List Byte) (s : State) : Option Nat × State :=
  let w := s.physWrite a l
  (w.1, portsWritten a l.length w.2)

/-- A word of fabric memory is registered at its port. -/
def fabricStore (p v : Nat) (s : State) : State := ((s.physWrite (fabricAddr p) (toBytes 4 v)).2).portWritten p

/-! ## Who may reach what (Table 12-4) -/

/-- The address ranges a DMA channel may read, and write. -/
def State.dmaRanges (s : State) (write : Bool) : List (Nat × Nat) :=
  let dram := (dramBase, dramBase + s.reg Reg.DRAM_SIZE)
  let fab := if write && s.builtin then [(fabricBase + 0x200, fabricBase + 0x3C0)] else [(fabricBase, fabricBase + 0x3C0)]
  let eng := if write && s.builtin then (engineBase + 0x80000, engineBase + 0x100000) else (engineBase, engineBase + 0x100000)
  [(sramBase, fabricBase)] ++ fab ++ [eng, dram]
    ++ if write then []
       else [(0, 0x40000), (fabricBase + 0x3C0, fabricBase + 0x400), (fabricBase + 0x800, fabricBase + 0xC00), (0x20000000, 0x22000000)]

/-- A range of addresses lies wholly in a list of ranges. -/
def covered (l : List (Nat × Nat)) : Nat → Nat → Nat → Bool
  | 0, lo, hi => decide (hi ≤ lo)
  | f + 1, lo, hi =>
    if hi ≤ lo then true
    else match l.find? (fun r => decide (r.1 ≤ lo) && decide (lo < r.2)) with
      | none => false
      | some r => covered l f r.2 hi

def State.dmaOk (s : State) (write : Bool) (lo hi : Nat) : Bool := covered (s.dmaRanges write) 9 lo hi

/-- The stream port at an address: filter lanes 0–39, then sequence groups 40–47 (Table 12-1). -/
def streamOf (a : Nat) : Option Nat :=
  if flStream ≤ a ∧ a < flStream + 0x2800 then some ((a - flStream) / 0x100)
  else if sqStream ≤ a ∧ a < sqStream + 0x800 then some (40 + (a - sqStream) / 0x100)
  else none

/-! ## DMA channels (R335 to R341) -/

/-- The stream port a BUSY channel reads. -/
def State.dmaStream (s : State) (c : Nat) : Option Nat :=
  if s.dmaFlag c F.DMA_STATUS_BUSY then streamOf (s.dma c).src else none

/-- Words of a stream port, the oldest first. -/
def State.port (s : State) (p : Nat) : List Nat := tabGet [] s.memo.ports p
def State.setPort (s : State) (p : Nat) (l : List Nat) : State := { s with memo := { s.memo with ports := tabSet [] s.memo.ports p l } }
/-- The words that wait at a channel's stream port. -/
def State.dmaWords (s : State) (c : Nat) : List Nat := (streamOf (s.dma c).src).elim [] s.port

/-- The addresses a run can touch: the aligned block, or the plain range. -/
def dmaSpan (b k e n : Nat) : Nat × Nat :=
  if k < 40 then (b / 2 ^ k * 2 ^ k, b / 2 ^ k * 2 ^ k + 2 ^ k) else (b, b + n * e)

/-- The checks of step 3 of R336, with R330 for program SRAM. -/
def State.dmaCheck (s : State) (c src dst : Nat) : Bool :=
  let e := s.dmaElem c
  let ks := s.fld (Reg.DMA_CFG c) F.DMA_CFG_SRC_WRAP
  let kd := s.fld (Reg.DMA_CFG c) F.DMA_CFG_DST_WRAP
  let n := s.reg (Reg.COUNT c)
  let a := dmaSpan src ks e n
  let b := dmaSpan dst kd e n
  let srcOk := if (streamOf src).isSome then e == 4 && ks == 2 else s.dmaOk false a.1 a.2
  let prog := (List.range 16).any fun x =>
    decide (b.1 < engineBase + x * 0x10000 + 0x8000) && decide (engineBase + x * 0x10000 < b.2)
  srcOk && s.dmaOk true b.1 b.2 && (!prog || decide (4 ≤ e)) && src % e == 0 && dst % e == 0

/-- `n` bytes from `a` on take free values. -/
def freeBytes (n a : Nat) (s : State) : State :=
  { s with mem := memWrite ((List.range n).map fun j => BitVec.ofNat 8 (Config.freeVal (s.free + j))) s.mem a, free := s.free + n }

/-- Clearing EN drops the channel at once: BUSY clears, HALTED is set with cause 5; REMAIN, CUR_SRC, CUR_DST and the destination range
of a run in progress are then undefined, so they are free values, and the next start ignores SRC_CONT and DST_CONT (R340). -/
def dmaDrop (c : Nat) (s : State) : State :=
  let s := s.setFlag (Reg.DMA_CFG c) F.DMA_CFG_EN false
  let r := dmaSpan (s.dma c).dst (s.fld (Reg.DMA_CFG c) F.DMA_CFG_DST_WRAP) (s.dmaElem c) (s.reg (Reg.COUNT c))
  let s := if s.dmaFlag c F.DMA_STATUS_BUSY then freeBytes (r.2 - r.1) r.1 s else s
  let s := dmaHalt c 5 s
  let s := (s.setReg (Reg.REMAIN c) (s.freeVal 32)).useFree
  let s := (s.setReg (Reg.CUR_SRC c) (s.freeVal 40)).useFree
  let s := (s.setReg (Reg.CUR_DST c) (s.freeVal 40)).useFree
  s.setDma c { disAt := some s.now }

/-- Steps 2 to 4 of a start (R336). -/
def dmaBegin (c : Nat) (s : State) : State :=
  let s := heldOf (.dma c) s
  let d := s.dma c
  let src := if d.cont && s.flag (Reg.DMA_CFG c) F.DMA_CFG_SRC_CONT then s.reg (Reg.CUR_SRC c) else s.reg (Reg.SRC c)
  let dst := if d.cont && s.flag (Reg.DMA_CFG c) F.DMA_CFG_DST_CONT then s.reg (Reg.CUR_DST c) else s.reg (Reg.DST c)
  let s := [F.DMA_STATUS_DONE, F.DMA_STATUS_HALTED, F.DMA_STATUS_TIMEOUT].foldl (fun s f => s.setFlag (Reg.DMA_STATUS c) f false) s
  let s := s.setFld (Reg.DMA_STATUS c) F.DMA_STATUS_HALT_CAUSE 0
  let s := s.setDma c { src := src, dst := dst, emptyAt := some s.now }
  let s := match streamOf src with
    | some p => s.setPort p []
    | none => s
  let s := dmaReport c s
  if s.dmaCheck c src dst then s.setFlag (Reg.DMA_STATUS c) F.DMA_STATUS_BUSY true else dmaHalt c 3 s

/-- A start (R336). -/
def dmaStart (c : Nat) (s : State) : State :=
  if s.dmaFlag c F.DMA_STATUS_BUSY || !s.flag (Reg.DMA_CFG c) F.DMA_CFG_EN then
    s.setFlag (Reg.DMA_STATUS c) F.DMA_STATUS_DB_IGNORED true
  else dmaBegin c s

/-- A doorbell: a disable registered at its tick takes effect after it, so that the start it makes is dropped (R340). -/
def dmaDoorbell (c : Nat) (s : State) : State :=
  if !s.flag (Reg.DMA_CFG c) F.DMA_CFG_EN && (s.dma c).disAt.any fun x => s.tickCeil x == s.tickCeil s.now then
    dmaDrop c (dmaBegin c s)
  else dmaStart c s

/-- An output word of a filter lane, a result word of a sequence group reaches its stream port, which collects while a BUSY channel has
it as source and holds 64 words; one that is dropped sets STREAM_OVR of these channels (R337). -/
def streamPush (port w : Nat) (s : State) : State :=
  let on := (List.range 16).filter fun c => s.dmaStream c == some port
  if on = [] then s
  else if (s.port port).length < 64 then
    (s.setPort port (s.port port ++ [w])).forEach on fun c s => s.setDma c { s.dma c with emptyAt := none, spent := 0 }
  else s.forEach on fun c s => s.setFlag (Reg.DMA_STATUS c) F.DMA_STATUS_STREAM_OVR true

/-- The engine whose SRAM an address lies in. -/
def engineOf (a : Nat) : Option Nat := if engineBase ≤ a ∧ a < engineBase + 0x100000 then some ((a - engineBase) / 0x10000) else none

/-- An access to engine SRAM waits while the engine is in its control phase or loads (R134). -/
def State.sramFree (s : State) (a : Nat) : Bool :=
  match engineOf a with
  | none => true
  | some e => !(s.engine e).inCycle && !(s.engine e).loading

/-- Throttled ranks (R395, 0x2110:06). -/
def State.throttled (s : State) (rank : Nat) : Bool := s.regBit Reg.THROTTLE rank

/-- An access to DRAM waits until its address is initialised, which proceeds at 4 bytes per ns or faster from BASECAMP on
(R328). -/
def State.dramReady (s : State) (a : Nat) : Bool :=
  decide (a < dramBase) || s.flag Reg.DRAM_STATUS F.DRAM_STATUS_INIT_DONE || decide (a - dramBase < s.now / 1073741824 - s.memo.initTo)

/-- A channel that reads a stream port is throttled: its transfer touches DRAM (R339). -/
def State.dmaPaused (s : State) (c : Nat) : Bool := s.throttled 3 && decide (dramBase ≤ s.dmaDst c (s.dma c).i)

/-- The rank of DRAM transfers loses its grant, or has it again: TIMEOUT does not run meanwhile (R339). -/
def dmaPause (on : Bool) (s : State) : State :=
  s.forEach ((List.range 16).filter fun c => decide (dramBase ≤ s.dmaDst c (s.dma c).i)) fun c s =>
    let d := s.dma c
    match d.emptyAt with
    | some x => s.setDma c (if on then { d with spent := d.spent + (s.now - x) } else { d with emptyAt := some s.now })
    | none => s

/-- Whether the next beat of a channel can proceed (R339). -/
def State.dmaCan (s : State) (c : Nat) : Bool :=
  let d := s.dma c
  let a := s.dmaSrc c d.i
  let b := s.dmaDst c d.i
  s.dmaFlag c F.DMA_STATUS_BUSY && !d.acking
    && ((streamOf d.src).isNone || !(s.dmaWords c).isEmpty)
    && s.sramFree a && s.sramFree b && s.dramReady a && s.dramReady b
    && !(s.throttled 3 && (decide (dramBase ≤ a) || decide (dramBase ≤ b)))

/-- One element: source read, destination write; the answer is the halt cause, 0 for none. DESIGN CHOICE (log entry 29): R23 refuses the
start of a channel into the SRAM of OE0–OE7 while the built-in law is enabled; a channel that was BUSY when it was enabled goes on. -/
def dmaElement (c : Nat) (s : State) : Nat × State :=
  let d := s.dma c
  let e := s.dmaElem c
  let a := s.dmaSrc c d.i
  let b := s.dmaDst c d.i
  let r : Option (List Byte) × State :=
    match streamOf d.src with
    | some p => ((s.port p).head?.map (toBytes 4), s.setPort p ((s.port p).drop 1))
    | none =>
      let q := s.eccCheck e a
      if q.1.isSome then (none, q.2) else (some (q.2.physRead e a).1, (q.2.physRead e a).2)
  match r.1 with
  | none => (1, r.2)
  | some l =>
    let w := r.2.physWriteBy (.dma c) b l
    let s := portsWritten b l.length w.2
    (if w.1.isSome then 2 else 0, s.setDma c { s.dma c with i := d.i + 1 })

/-- The elements of a beat, until one halts or must wait (R134, R339). -/
def dmaBurst (c : Nat) : Nat → State → State
  | 0, s => s
  | n + 1, s =>
    if s.reg (Reg.COUNT c) ≤ (s.dma c).i || !s.dmaCan c then s
    else
      let r := dmaElement c s
      if r.1 = 0 then dmaBurst c n r.2 else dmaHalt c r.1 (dmaReport c r.2)

/-- One beat of a channel: up to 32 bytes (R338). -/
def dmaBeat (c : Nat) (s : State) : State :=
  let s := dmaBurst c (32 / s.dmaElem c) (heldExpire s)
  if s.dmaFlag c F.DMA_STATUS_BUSY then
    let s := dmaReport c s
    let d := s.dma c
    if s.reg (Reg.COUNT c) ≤ d.i then s.setDma c { d with acking := true }
    else if (streamOf d.src).isSome && (s.dmaWords c).isEmpty then s.setDma c { d with emptyAt := some s.now, spent := 0 }
    else s
  else s

/-- The channel that takes the next beat: highest priority, then in turn (R339). -/
def State.dmaNext (s : State) : Option Nat :=
  let can := (List.range 16).filter s.dmaCan
  let pr (c : Nat) : Nat := s.fld (Reg.DMA_CFG c) F.DMA_CFG_PRIO
  let top := can.foldl (fun m c => max m (pr c)) 0
  let l := can.filter fun c => pr c == top
  let last := tabGet 15 s.memo.lastDma top
  (l.find? (fun c => decide (last < c))) <|> l.head?

/-! ## Scrubber (R333, R334) -/

/-- Granularity of a pass: the code word, or the DRAM granule. -/
def scrubUnit (m : Nat) : Nat := if m = 2 then 64 else codeBytes m

/-- Boundaries of the memory of an address (Table 12-1); the rest of the page of the fabric-memory ports is reserved. -/
def State.memSpan (s : State) (a : Nat) : Option (Nat × Nat) :=
  match s.memCode a with
  | some 5 => some (0, 0x40000)
  | some 0 =>
    if a < fabricBase then some (sramBase, fabricBase)
    else if a < fabricBase + 0x400 then some (fabricBase, fabricBase + 0x400)
    else if fabricBase + 0x800 ≤ a ∧ a < fabricBase + 0xC00 then some (fabricBase + 0x800, fabricBase + 0xC00)
    else none
  | some 1 => some (0x20000000, 0x22000000)
  | some 2 => some (dramBase, dramBase + s.reg Reg.DRAM_SIZE)
  | some _ => some (a / 0x8000 * 0x8000, a / 0x8000 * 0x8000 + 0x8000)
  | none => none

/-- The addresses that a pass from `lo` on may have read by now: all, or in DRAM those that are initialised (R328). -/
def State.scrubFront (s : State) (lo : Nat) : Nat :=
  if lo < dramBase ∨ s.flag Reg.DRAM_STATUS F.DRAM_STATUS_INIT_DONE then 2 ^ 40
  else max lo (dramBase + (s.now / 1073741824 - s.memo.initTo) / 64 * 64)

/-- The pass over the addresses from `lo` up to `hi`. -/
def scrubRun (lo hi : Nat) (s : State) : State :=
  let m := (s.memCode lo).getD 0
  let s := s.setReg Reg.WORDS_CHECKED ((hi - lo) / codeBytes m)
  let s := s.forEach (s.memo.ecc.filter fun x => decide (lo ≤ x.1) && decide (x.1 < hi)) fun x s =>
    if x.2 = 1 then
      if m = 5 then s else (setEcc x.1 0 s).setReg Reg.CORRECTED (s.reg Reg.CORRECTED + 1)
    else
      let s := (countUe x.1 s).setReg Reg.UNCORRECTABLE (s.reg Reg.UNCORRECTABLE + 1)
      let s := if s.reg Reg.FIRST_UE = 0xFFFFFFFFFF then s.setReg Reg.FIRST_UE x.1 else s
      s.setReg Reg.LAST_UE x.1
  { s.setReg Reg.SCRUB_NEXT hi with memo := { s.memo with scrubEnd := none } }

/-! ## The memory-access objects (R328, R343) -/

/-- An access waits. -/
def memWait (w : MemWait) (s : State) : State := { s with memo := { s.memo with waits := s.memo.waits ++ [w] } }

/-- MEM_DATA takes bytes, and the bytes MEM_DATA holds. -/
def setMemData (l : List Byte) (s : State) : State :=
  s.forEach (List.range 64) fun i s =>
    let b := slice l (4 * i) 4
    if b.isEmpty then s else s.setReg (Reg.MEM_DATA i) (ofBytes b)
def State.memData (s : State) (n : Nat) : List Byte :=
  ((List.range 64).flatMap fun i => toBytes 4 (s.reg (Reg.MEM_DATA i))).take n

/-- An access has met an uncorrectable error: MEM_RESULT is 4 and MEM_DATA reads zero (Table 12-3). -/
def memFailed (s : State) : State :=
  (s.forEach (List.range 64) fun i s => s.setReg (Reg.MEM_DATA i) 0).setReg Reg.MEM_RESULT 4

/-- The access of MEM_READ, and of MEM_WRITE. -/
def memReadAt (a n : Nat) (s : State) : State :=
  let q := s.eccCheck n a
  if q.1.isSome then memFailed q.2
  else
    let r := q.2.physRead n a
    (setMemData r.1 r.2).setReg Reg.MEM_RESULT 2

def memWriteAt (a : Nat) (l : List Byte) (s : State) : State :=
  let w := devWrite a l s
  if w.1.isSome then memFailed w.2 else w.2.setReg Reg.MEM_RESULT 2

/-! ## Errors in the eMRAM (Table 12-3) -/

/-- What a load of a stored record meets: where the record lies the spec does not give, so whether a code word with an error belongs
to it is free. The first uncorrectable one is answered. -/
def State.mramCheck (s : State) : Option Nat × State :=
  (s.memo.ecc.filter fun x => s.memCode x.1 == some 1).foldl (fun r x =>
    let hit := r.2.freeVal 1 == 1
    let s := r.2.useFree
    if !hit then (r.1, s) else if x.2 = 1 then (r.1, countCe x.1 s) else (r.1 <|> some x.1, countUe x.1 s)) (none, s)

end Sys2Proof.Machine
end

