-- ==== Sys2Proof/Machine/AlarmOps.lean ====
section
/-!
DEFINITION. Placing and cancelling time-alarm instances (11_clocks_and_time.md, R320 to R322), and limiting the deadlines
of the engines that an alarm starts (05, R136).
-/

namespace Sys2Proof.Machine

/-- A time alarm. -/
def State.alarm (s : State) (n : Nat) : Alarm := tabGet {} s.alarms n
/-- The state with a time alarm set. -/
def State.setAlarm (s : State) (n : Nat) (a : Alarm) : State := { s with alarms := tabSet {} s.alarms n a }

/-- One unit of EDGE_OFS_ACT and ALIGN_ERR: 5 ns / 1,024, written 4.883 ps (11, Table 11-3). -/
def edgeUnit : Nat := perTick / 1024

/-- EDGE_OFS_ACT as a duration. -/
def State.edgeOfs (s : State) : Int := s.sreg 16 Reg.EDGE_OFS_ACT * (edgeUnit : Nat)

/-- An instance put in its place among those already placed. -/
def insertInst : Instant × Bool → List (Instant × Bool) → List (Instant × Bool)
  | x, [] => [x]
  | x, y :: t => if x.1 < y.1 then x :: y :: t else y :: insertInst x t

/-- The state with an instance of alarm `n` placed. -/
def placeInst (n : Nat) (at_ : Instant) (late : Bool) (s : State) : State :=
  let a := s.alarm n
  s.setAlarm n { a with insts := insertInst (at_, late) a.insts }

/-- R136: every engine in a cycle that alarm `n` started has its deadline limited to the tick before the instance. -/
def limitDeadlines (n : Nat) (at_ : Instant) (s : State) : State :=
  s.forEach (List.range 16) fun e s =>
    let x := s.engine e
    if x.inCycle && s.reg (Reg.ALARM e) == n then
      s.setEngine e { x with deadline := min x.deadline (s.tickBefore at_) }
    else s

/-- Alarm `n` is enabled in CARRIER mode on a carrier. -/
def State.alarmOn (s : State) (n cg : Nat) : Bool :=
  let cfg := s.reg (Reg.TA_CFG n)
  fget F.TA_CFG_EN cfg == 1 && fget F.TA_CFG_MODE cfg == 1 && fget F.TA_CFG_CG cfg == cg

/-- R322: the instant of wrap number `w` of carrier `cg` at look-ahead instant `wAt` is fixed at the moment `m`: alarm `n`, if its
DIV and PHASE name the wrap, gets its instance, 50 ns after the moment and LATE if it would fall sooner. -/
def alarmFix (n w : Nat) (wAt m : Instant) (s : State) : State :=
  let cfg := s.reg (Reg.TA_CFG n)
  if w % max 1 (fget F.TA_CFG_DIV cfg) = fget F.TA_CFG_PHASE cfg then
    let i : Instant := ((wAt : Int) + s.edgeOfs - (ns (s.reg (Reg.TA_ADV n)) : Nat)).toNat
    let late := decide (i < m + ns 50)
    let i := if late then m + ns 50 else i
    limitDeadlines n i (placeInst n i late s)
  else s

/-- R322 for every alarm of the carrier. -/
def carrierAlarmFix (cg w : Nat) (wAt m : Instant) (s : State) : State :=
  s.forEach (List.range 16) fun n s => if s.alarmOn n cg then alarmFix n w wAt m s else s

/-- R154, R322: a stopped carrier's instances that are placed and not yet delivered are cancelled. -/
def carrierAlarmCancel (cg : Nat) (s : State) : State :=
  s.forEach (List.range 16) fun n s =>
    if s.alarmOn n cg then s.setAlarm n { s.alarm n with insts := [] } else s

end Sys2Proof.Machine
end

