-- ==== Sys2Proof/Machine/PwmOps.lean ====
section
/-!
DEFINITION. The operations of the PWM generator (06_pwm_generator.md): shadows and snapshots, the requested level of a
channel, the output stages of Table 6-2, forcing, and the wrap of a carrier.
-/

namespace Sys2Proof.Machine

/-! ## Carriers, channels and shadows by number -/

def State.carrier (s : State) (n : Nat) : Carrier := tabGet {} s.pwm.carriers n
def State.setCarrier (s : State) (n : Nat) (c : Carrier) : State :=
  { s with pwm := { s.pwm with carriers := tabSet {} s.pwm.carriers n c } }
def State.chan (s : State) (c : Nat) : Chan := tabGet {} s.pwm.chans c
def State.setChan (s : State) (c : Nat) (x : Chan) : State :=
  { s with pwm := { s.pwm with chans := tabSet {} s.pwm.chans c x } }
def State.shadow (s : State) (p : Nat) : Shadow := tabGet {} s.pwm.shadows p
def State.setShadow (s : State) (p : Nat) (x : Shadow) : State :=
  { s with pwm := { s.pwm with shadows := tabSet {} s.pwm.shadows p x } }
def State.snap (s : State) (g : Nat) : Option Snapshot := tabGet none s.pwm.snaps g
def State.setSnap (s : State) (g : Nat) (x : Option Snapshot) : State :=
  { s with pwm := { s.pwm with snaps := tabSet none s.pwm.snaps g x } }

/-- Ports of the shadows (Table 5-10). -/
def perPort (n : Nat) : Nat := 0x200 + 2 * n
def phPort (n : Nat) : Nat := 0x201 + 2 * n
def cmpaPort (c : Nat) : Nat := 0x300 + 2 * c
def cmpbPort (c : Nat) : Nat := 0x301 + 2 * c
def modePort (c : Nat) : Nat := 0x500 + c

/-- The value of a shadow and of an effective value after reset (R158): PER 1,600 ticks, mode static-off, else 0. -/
def shadowReset (p : Nat) : Nat :=
  if 0x200 ≤ p ∧ p < 0x220 then (if p % 2 = 0 then 1600 else 0) else if 0x500 ≤ p then 1 else 0

/-- The value a shadow holds. -/
def State.shadowVal (s : State) (p : Nat) : Nat := (s.shadow p).val.getD (shadowReset p)

/-- An effective compare or mode. -/
def State.effVal (s : State) (p : Nat) : Nat := (tabGet none s.pwm.eff p).getD (shadowReset p)
def State.setEff (s : State) (p v : Nat) : State :=
  { s with pwm := { s.pwm with eff := tabSet none s.pwm.eff p (if v = shadowReset p then none else some v) } }

/-- The carrier a channel is bound to (R157). -/
def State.chCarrier (s : State) (c : Nat) : Nat := s.fld (Reg.CH_CFG c) F.CH_CFG_CARRIER
/-- The load group of a carrier (R159). -/
def State.cgGroup (s : State) (n : Nat) : Nat := s.fld (Reg.CG_CFG n) F.CG_CFG_GROUP
/-- The reference carrier of a group (R159). -/
def State.lgRef (s : State) (g : Nat) : Nat := s.fld (Reg.LG_CFG g) F.LG_CFG_REF
/-- The channels bound to a carrier. -/
def State.chansOf (s : State) (n : Nat) : List Nat := (List.range 256).filter fun c => s.chCarrier c == n
/-- The effective PER of a carrier, in sixteenths of a tick. -/
def State.per16 (s : State) (n : Nat) : Nat := s.reg (Reg.CG_PER_ACT n) * 16
/-- The effective PER of a carrier as a duration. -/
def State.perDur (s : State) (n : Nat) : Instant := s.reg (Reg.CG_PER_ACT n) * edgeTick

/-- The channel whose shadow a port is. -/
def portChan (p : Nat) : Nat := if p < 0x500 then (p - 0x300) / 2 else p - 0x500
/-- The group of the shadow at a port (R159). -/
def State.portGroup (s : State) (p : Nat) : Nat :=
  s.cgGroup (if p < 0x220 then (p - 0x200) / 2 else s.chCarrier (portChan p))

/-- Shadow ports the built-in law owns (R34). -/
def State.lawPort (s : State) (p : Nat) : Bool :=
  s.builtin && (if p < 0x220 then (p - 0x200) / 2 < 10 else portChan p < 96)

/-- Count of a carrier at a look-ahead instant, in sixteenths of a tick (R152); a hold after a PH change reads 0. -/
def State.countAt (s : State) (n : Nat) (la : Instant) : Nat :=
  let c := s.carrier n
  if !c.running then 0
  else
    let left := (c.wrapAt - la + sixteenth - 1) / sixteenth
    if 0 < left ∧ left ≤ s.per16 n then s.per16 n - left else 0

/-- The number and the look-ahead instant of the next wrap of a carrier that runs or is to start (R153). -/
def State.nextWrap (s : State) (cg : Nat) : Option (Nat × Instant) :=
  let c := s.carrier cg
  if c.running then some (c.wraps, c.wrapAt)
  else c.startAt.map fun ts => (0, ts + s.reg (Reg.CG_PH_ACT cg) % (max 1 (s.per16 cg)) * sixteenth)

/-- The look-ahead instant at which the count of a carrier equals CG_EVT in its present period (R156); count 0 is reached at the wrap,
where a hold follows it. -/
def State.evtAt (s : State) (n : Nat) : Instant :=
  let c := s.carrier n
  let start := c.wrapAt - s.perDur n
  let evt := s.reg (Reg.CG_EVT n)
  if evt = 0 ∧ c.lastWrap ≤ start then c.lastWrap else start + evt * edgeTick

/-- A match of CG_EVT lies ahead in the present period: within PER and the run, not before the last match or change of CG_EVT. -/
def State.evtAhead (s : State) (n : Nat) : Bool :=
  let c := s.carrier n
  c.running && decide (s.reg (Reg.CG_EVT n) < s.reg (Reg.CG_PER_ACT n)) && decide (c.lastWrap ≤ s.evtAt n) && decide (c.evtFrom ≤ s.evtAt n)

/-- The look-ahead instant of the next match of CG_EVT that is known: in the present period, in the next, in the first after a scheduled
start. -/
def State.nextMatch (s : State) (n : Nat) : Option Instant :=
  let evt := s.reg (Reg.CG_EVT n)
  if s.reg (Reg.CG_PER_ACT n) ≤ evt then none
  else if s.evtAhead n then some (s.evtAt n)
  else (s.nextWrap n).map fun w =>
    let first := w.2 + evt * edgeTick - s.perDur n
    if (s.carrier n).startAt.any fun ts => decide (ts ≤ first) then first else w.2 + evt * edgeTick

/-- The wrap of a running carrier is due at a look-ahead instant. -/
def State.wrapDue (s : State) (n : Nat) (la : Instant) : Bool :=
  let c := s.carrier n
  c.running && decide (c.wrapAt ≤ la)

/-- New values for a channel are due at a look-ahead instant: its carrier's wrap, or the transfer of its group's snapshot (R167). -/
def State.changeDue (s : State) (c : Nat) (la : Instant) : Bool :=
  let n := s.chCarrier c
  let g := s.cgGroup n
  s.wrapDue n la || (s.wrapDue (s.lgRef g) la && (s.snap g).any fun sn => sn.eligible.any fun e => decide (e ≤ (s.carrier (s.lgRef g)).wrapAt))

/-! ## The requested level (R157, R172) -/

/-- The turn-on compare of a channel, in sixteenths: of the coming on-interval as the carries move it, of the present one where it
came (R172; log entry 34). -/
def State.onEdge (s : State) (c : Nat) : Nat :=
  let a := s.effVal (cmpaPort c)
  let x := s.chan c
  min (s.per16 (s.chCarrier c)) (if x.req then a - x.preOn else a - x.onCarry / 2 + x.extOn)
/-- The turn-off compare, likewise. -/
def State.offEdge (s : State) (c : Nat) : Nat :=
  let b := s.effVal (cmpbPort c)
  let x := s.chan c
  min (s.per16 (s.chCarrier c)) (if x.req then b - x.offCarry / 2 + x.extOff else b - x.preOff)

/-- The requested level of a channel at a look-ahead instant (Table 6-1). -/
def State.requested (s : State) (c : Nat) (la : Instant) : Bool :=
  let n := s.chCarrier c
  if s.fld (Reg.CH_CFG c) F.CH_CFG_EN = 0 || !(s.carrier n).running then false
  else
    let cnt := s.countAt n la
    let a := s.effVal (cmpaPort c)
    let b := s.effVal (cmpbPort c)
    match s.effVal (modePort c) with
    | 0 =>
      if a < b then decide (s.onEdge c ≤ cnt) && decide (cnt < s.offEdge c)
      else if b < a then decide (s.onEdge c ≤ cnt) || decide (cnt < s.offEdge c)
      else false
    | 2 => true
    | _ => false

/-! ## Output stages (Table 6-2) -/

/-- Whether a channel is forced off (Table 6-5, R209). -/
def State.forced (s : State) (c : Nat) : Bool :=
  s.flag Reg.PWM_STATUS F.PWM_STATUS_BASECAMP_FORCE
  || s.regBit (Reg.FORCE_OFF (c / 32)) (c % 32)
  || s.regBit Reg.LANE_FAULT (c / 4)
  || (bitsOf 32 (s.reg Reg.TRIP_FAULT)).any fun i => s.regBit (Reg.TRIP_MAP i (c / 32)) (c % 32)

/-- The dead time a channel acts on, in sixteenths (R169, R182). -/
def State.dt (s : State) (c : Nat) : Nat := tabGet 0 s.pwm.dtAct c
/-- The partner in the pair. -/
def pairOf (c : Nat) : Nat := if c % 2 = 0 then c + 1 else c - 1
/-- Minimum on-interval and off-notch the channel acts on, in sixteenths, and its policy (Table 6-13). -/
def State.minOn (s : State) (c : Nat) : Nat := fget F.CH_MINPULSE_MINON (s.chan c).minpulse * 16
def State.minOff (s : State) (c : Nat) : Nat := fget F.CH_MINPULSE_MINOFF (s.chan c).minpulse * 16
def State.policy (s : State) (c : Nat) : Nat := fget F.CH_MINPULSE_POLICY (s.chan c).minpulse

/-- The law's pairs are legs whatever PAIR_DT says (R182). -/
def State.isLeg (s : State) (c : Nat) : Bool :=
  s.flag (Reg.PAIR_DT (c / 2)) F.PAIR_DT_LEG || (s.builtin && decide (c < 96))

/-- An output changes: the edge leaves the generator with its look-ahead instant as time tag (R158). -/
def setOutput (c : Nat) (on : Bool) (la : Instant) (s : State) : State :=
  let x := s.chan c
  if x.out = on then s
  else
    let x := { x with out := on, offAt := if on then x.offAt else la }
    { s.setChan c x with pwm := { (s.setChan c x).pwm with edges := s.pwm.edges ++ [⟨c, on, la⟩] } }

/-- An interval is omitted (R171). -/
def dropInterval (c : Nat) (s : State) : State :=
  ((s.bump Reg.DROP_COUNT).setFlag (Reg.CH_STATUS c) F.CH_STATUS_DROPPED true).setFlag Reg.PWM_STATUS F.PWM_STATUS_DROP true

/-- A carry or part of one is discarded (R172). -/
def carryLost (s : State) : State := (s.bump Reg.CARRY_LOST).setFlag Reg.PWM_STATUS F.PWM_STATUS_CARRY_LOST true

/-- A carry grows by a width, limited to one PER (R172); `on` says which of the two. -/
def addCarry (c : Nat) (on : Bool) (w : Nat) (s : State) : State :=
  let x := s.chan c
  let per := s.per16 (s.chCarrier c)
  let old := if on then x.onCarry else x.offCarry
  let new := min per (old + w)
  let x := if on then { x with onCarry := new, onWraps := if old = 0 then 0 else x.onWraps }
    else { x with offCarry := new, offWraps := if old = 0 then 0 else x.offWraps }
  let s := s.setChan c x
  if old + w > per then carryLost s else s

/-- Both carries become zero (R172, R177). -/
def zeroCarries (c : Nat) (s : State) : State :=
  s.setChan c { s.chan c with onCarry := 0, offCarry := 0, onWraps := 0, offWraps := 0, extOn := 0, extOff := 0, preOn := 0, preOff := 0 }

/-- A turn-on held by the interlock sets and counts SHOOT (R170). -/
def holdShoot (c : Nat) (s : State) : State :=
  let s := s.setChan c { s.chan c with held := true }
  let s := (s.setFlag (Reg.CH_STATUS c) F.CH_STATUS_SHOOT true).setFlag Reg.PWM_STATUS F.PWM_STATUS_SHOOT true
  (s.bump Reg.SHOOT_COUNT).bump (Reg.PAIR_SHOOT (c / 2))

/-- Whether the interlock lets the turn-on of a channel pass at an instant (R170): the partner's output is off and has
been for DT. Of two turn-ons of one instant the even channel's comes first (`duePair`, `evalPair`, `yieldOdd`). -/
def State.interlockFree (s : State) (c : Nat) (la : Instant) : Bool :=
  let p := s.chan (pairOf c)
  !p.out && decide (p.offAt + s.dt c * sixteenth ≤ la || p.offAt = 0)

/-- A turn-on that stage 5 has passed reaches the comparator and forcing stages. -/
def stage67 (c : Nat) (la : Instant) (s : State) : State :=
  if (s.chan c).cbc || s.forced c then s else setOutput c true la s

/-- Both turn-ons of a leg arrive at one instant, and the odd channel's has been passed first: the even channel's comes before it (R170). -/
def State.oddFirst (s : State) (c : Nat) (la : Instant) : Bool :=
  let x := s.chan c
  let o := s.chan (c + 1)
  c % 2 == 0 && s.isLeg c && o.out && s.pwm.edges.contains ⟨c + 1, true, la⟩ && !x.cbc && !s.forced c
    && decide (o.offAt + s.dt c * sixteenth ≤ la || o.offAt = 0)

/-- The odd channel's turn-on of this instant is held instead. -/
def yieldOdd (c : Nat) (la : Instant) (s : State) : State :=
  if s.oddFirst c la then
    let s := s.setChan (c + 1) { s.chan (c + 1) with out := false }
    holdShoot (c + 1) { s with pwm := { s.pwm with edges := s.pwm.edges.erase ⟨c + 1, true, la⟩ } }
  else s

/-- A turn-on passed by stage 4 reaches the interlock. -/
def stage5On (c : Nat) (la : Instant) (s : State) : State :=
  let s := yieldOdd c la (s.setChan c { s.chan c with lvl4 := true })
  if s.isLeg c && !s.interlockFree c la then holdShoot c s else stage67 c la s

/-- A turn-off that stage 4 has passed ends the on-interval; one whose turn-on was held to its end is omitted (R170). -/
def stage5Off (c : Nat) (la : Instant) (s : State) : State :=
  let mf := s.minOff c
  let s := if (s.chan c).held && s.effVal (modePort c) == 0 && decide (0 < s.minOn c) then dropInterval c s else s
  let s := s.setChan c { s.chan c with lvl4 := false, held := false, minOffUntil := if mf = 0 then 0 else la + mf * sixteenth }
  setOutput c false la s

/-- An edge that stage 4 has passed reaches stage 5: its instant, its level, its channel. -/
def stage5 (e : Instant × Bool × Nat) (s : State) : State :=
  if e.2.1 then stage5On e.2.2 e.1 s else stage5Off e.2.2 e.1 s

/-- Edges in order: of one instant turn-offs first, then the even channel's turn-on (R170). -/
def insertDue (x : Instant × Bool × Nat) : List (Instant × Bool × Nat) → List (Instant × Bool × Nat)
  | [] => [x]
  | y :: t =>
    if x.1 < y.1 ∨ (x.1 = y.1 ∧ ((x.2.1 = false ∧ y.2.1 = true) ∨ (x.2.1 = y.2.1 ∧ x.2.2 ≤ y.2.2))) then x :: y :: t
    else y :: insertDue x t

/-- The channels of a pair. -/
def pairChans (k : Nat) : List Nat := [2 * k, 2 * k + 1]

/-- The delayed edges of a pair that are due at a look-ahead instant. -/
def duePair (k : Nat) (la : Instant) (s : State) : State :=
  let due := (pairChans k).flatMap fun c => ((s.chan c).plan.filter fun e => decide (e.1 ≤ la)).map fun e => (e.1, e.2, c)
  let s := s.forEach (pairChans k) fun c s =>
    s.setChan c { s.chan c with plan := (s.chan c).plan.filter fun e => !decide (e.1 ≤ la) }
  s.forEach (due.foldr insertDue []) stage5

/-- The level of stage 4 after the edges it delays. -/
def Chan.level4 (x : Chan) : Bool := (x.plan.getLast?.map (·.2)).getD x.lvl4

/-- A turn-on of stage 4 at an instant: it joins a turn-off that would come no earlier. -/
def Chan.planOn (at_ : Instant) (x : Chan) : List (Instant × Bool) :=
  match x.plan.getLast? with
  | some (d, false) => if at_ ≤ d then x.plan.dropLast else x.plan ++ [(at_, true)]
  | _ => x.plan ++ [(at_, true)]

/-- A turn-off of stage 4 at an instant: a turn-on that would come no earlier delivers no on-time (R169). -/
def Chan.planOff (at_ : Instant) (x : Chan) : List (Instant × Bool) :=
  match x.plan.getLast? with
  | some (d, true) => if at_ ≤ d then x.plan.dropLast else x.plan ++ [(at_, false)]
  | _ => x.plan ++ [(at_, false)]

/-- Until when the notch before a turn-on lasts (R173). -/
def Chan.notchEnd (mf : Nat) (x : Chan) : Instant :=
  match x.plan.getLast? with
  | some (d, false) => if mf = 0 then 0 else d + mf * sixteenth
  | _ => x.minOffUntil

/-- What is requested of an on-interval from a count on, in sixteenths, with its turn-off at `off`; one that holds across every wrap
has no end. -/
def onSpan (per a b cnt off : Nat) : Nat :=
  if a < b then (if a = 0 ∧ per ≤ off then 2 * per else off - cnt)
  else if b < a then (if cnt < b then off - cnt else per - cnt + off)
  else 0

/-- What is requested of a notch from a count on, with its turn-on at `on`. -/
def offSpan (per a b cnt on : Nat) : Nat :=
  if a < b then (if cnt < a then on - cnt else per - cnt + on)
  else if b < a then on - cnt
  else 2 * per

/-- A turn-on request enters stages 2 to 5 (R169 to R173). -/
def turnOnRequest (c : Nat) (la : Instant) (s : State) : State :=
  let x := s.chan c
  let n := s.chCarrier c
  let per := s.per16 n
  let a := s.effVal (cmpaPort c)
  let b := s.effVal (cmpbPort c)
  let cnt := s.countAt n la
  -- stage 2: the on-carry is spent; what would cross a wrap stays
  let cmp := s.effVal (modePort c) == 0
  let edge := cmp && (decide (a < b) || decide (b ≤ cnt))
  let h1 := if edge then min (x.onCarry / 2) (a + x.extOn - cnt) else 0
  let h2 := if cmp then min (x.onCarry - x.onCarry / 2) (per - b) else 0
  let w := onSpan per a b cnt (b + h2)
  let x := { x with onCarry := if cmp then x.onCarry - h1 - h2 else 0, preOn := if edge then a - cnt else 0, preOff := 0,
                    extOff := h2, extOn := 0, await := false }
  let s := s.setChan c x
  if x.level4 then s  -- the notch was omitted: stage 4 is still on
  else
    let dt := s.dt c
    let mn := s.minOn c
    let short := cmp && decide (0 < mn) && decide (w < dt + mn)
    if short && (s.policy c != 1 || decide (w ≤ dt)) then
      let s := dropInterval c (s.setChan c { x with extOff := 0 })
      if s.policy c = 0 then addCarry c true w s else s
    else
      let s := if short then s.setFlag (Reg.CH_STATUS c) F.CH_STATUS_STRETCHED true else s
      let at_ := max (la + dt * sixteenth) (x.notchEnd (s.minOff c))
      let x := { x with plan := x.planOn at_, minOnUntil := if mn = 0 then 0 else at_ + mn * sixteenth }
      duePair (c / 2) la (s.setChan c x)

/-- A turn-off request enters stages 2 to 5. -/
def turnOffRequest (c : Nat) (la : Instant) (s : State) : State :=
  let x := s.chan c
  let n := s.chCarrier c
  let per := s.per16 n
  let a := s.effVal (cmpaPort c)
  let b := s.effVal (cmpbPort c)
  let cnt := s.countAt n la
  let cmp := s.effVal (modePort c) == 0 && (s.carrier n).running && s.fld (Reg.CH_CFG c) F.CH_CFG_EN == 1
  let edge := cmp && ((decide (a < b) && decide (a ≤ cnt)) || (decide (b < a) && decide (cnt < a)))
  let h1 := if edge then min (x.offCarry / 2) (b + x.extOff - cnt) else 0
  let h2 := if cmp then min (x.offCarry - x.offCarry / 2) (per - a) else 0
  let w := offSpan per a b cnt (a + h2)
  let x := { x with offCarry := if cmp then x.offCarry - h1 - h2 else 0, preOff := if edge then b - cnt else 0, preOn := 0,
                    extOn := h2, extOff := 0 }
  let s := s.setChan c x
  if !x.level4 then s
  else
    let mf := s.minOff c
    let short := cmp && decide (0 < mf) && decide (w + s.dt c < mf)
    if short && s.policy c != 1 then
      let s := dropInterval c (s.setChan c { x with extOn := 0 })
      if s.policy c = 0 then addCarry c false w s else s
    else
      let s := if short then s.setFlag (Reg.CH_STATUS c) F.CH_STATUS_STRETCHED true else s
      let at_ := if x.held then la else max la x.minOnUntil
      duePair (c / 2) la (s.setChan c { x with plan := x.planOff at_ })

/-- The requested level of a channel is evaluated at a look-ahead instant; a change is a request (R157, R167). -/
def chanEval (c : Nat) (la : Instant) (s : State) : State :=
  let x := s.chan c
  let r := s.requested c la
  if r = x.req then s
  else
    let s := s.setChan c { x with req := r }
    if s.forced c then s else if r then turnOnRequest c la s else turnOffRequest c la s

/-- The requested levels of a pair at a look-ahead instant: turn-off requests first, then the even channel's turn-on (R170). A channel
for which new values are due is evaluated with them alone (R167). -/
def evalPair (k : Nat) (la : Instant) (s : State) : State :=
  let cs := (pairChans k).filter fun c => !s.changeDue c la
  let s := s.forEach (cs.filter fun c => (s.chan c).req && !s.requested c la) fun c s => chanEval c la s
  s.forEach cs fun c s => chanEval c la s

/-! ## Forcing (R177, R178) -/

/-- A forced channel turns off within 40 ns of the decision, without dead time or minimum-pulse check, and its carries
become zero. How much of the 40 ns passes the spec leaves open: a free value. -/
def forceOff (c : Nat) (s : State) : State :=
  if s.forced c then
    let la := s.la + s.freeVal 64 % (ns 40 + 1)
    let s := zeroCarries c s
    let s := setOutput c false la s
    s.setChan c { s.chan c with lvl4 := false, plan := [], held := false, minOnUntil := 0, await := true }
  else s

/-- Forcing is applied to channels after a source has changed; one free value serves the one decision. -/
def forceOffAll (l : List Nat) (s : State) : State := (s.forEach l forceOff).useFree

/-- The channels a trip input's map names. -/
def State.tripChans (s : State) (i : Nat) : List Nat :=
  (List.range 256).filter fun c => s.regBit (Reg.TRIP_MAP i (c / 32)) (c % 32)

/-! ## Effective values -/

/-- R166: the compares of a channel are checked against the effective PER. -/
def clampCompares (c : Nat) (s : State) : State :=
  let n := s.chCarrier c
  let per := s.per16 n
  [cmpaPort c, cmpbPort c].foldl (fun s p =>
    if per ≤ s.effVal p then
      let s := s.setEff p per
      let s := (s.setFlag (Reg.CH_STATUS c) F.CH_STATUS_CLAMP true).setFlag (Reg.LG_STATUS (s.cgGroup n)) F.LG_STATUS_CLAMP true
      (s.setFlag Reg.PWM_STATUS F.PWM_STATUS_CLAMP true).bump Reg.CLAMP_COUNT
    else s) s

/-- The compares and modes of a channel that a list of port values holds take effect (R166, R167); entering a static
mode zeroes the carries (R172), and a moved edge is no longer where it came. -/
def setVals (vals : List (Nat × Nat)) (c : Nat) (s : State) : State :=
  let ps := [cmpaPort c, cmpbPort c, modePort c]
  let mine := vals.filter fun v => ps.contains v.1
  let old := (s.effVal (cmpaPort c), s.effVal (cmpbPort c))
  let s := s.forEach mine fun v s => s.setEff v.1 v.2
  let s := clampCompares c s
  let x := s.chan c
  let s := if old = (s.effVal (cmpaPort c), s.effVal (cmpbPort c)) then s else s.setChan c { x with preOn := 0, preOff := 0 }
  if s.effVal (modePort c) = 0 then s else zeroCarries c s

/-- The channels among some for which a list of port values holds one. -/
def valChans (vals : List (Nat × Nat)) (l : List Nat) : List Nat :=
  l.filter fun c => vals.any fun v => v.1 == cmpaPort c || v.1 == cmpbPort c || v.1 == modePort c

/-- A smaller PER has taken effect: each carry of a channel is limited to it, the excess is discarded and counted (R172). -/
def limitCarries (c : Nat) (s : State) : State :=
  let x := s.chan c
  let per := s.per16 (s.chCarrier c)
  let s := if per < x.onCarry then carryLost s else s
  let s := if per < x.offCarry then carryLost s else s
  s.setChan c { x with onCarry := min per x.onCarry, offCarry := min per x.offCarry }

/-- A carrier's waiting PER, PH, compares and modes take effect together at its wrap, or at once when it is stopped; the answer is the
hold ΔPH in sixteenths (R164 to R166). -/
def applyPend (n : Nat) (s : State) : State × Nat :=
  match (s.carrier n).pend with
  | none => (s, 0)
  | some p =>
    let old := s.reg (Reg.CG_PH_ACT n)
    let per := p.per * 16
    let dph := ((p.ph : Int) - old) % (max 1 per : Nat)
    let s := s.setCarrier n { s.carrier n with pend := none }
    let s := (s.setReg (Reg.CG_PER_ACT n) p.per).setReg (Reg.CG_PH_ACT n) p.ph
    (s.forEach (s.chansOf n) fun c s => setVals p.vals c (limitCarries c s), dph.toNat)

/-- What a snapshot brings to one carrier (R164): without a change of PER or PH its compares and modes take effect; with one they
wait with it for the carrier's wrap, those that wait already among them unless replaced; on a stopped carrier all take effect. -/
def carrierTake (vals : List (Nat × Nat)) (n : Nat) (s : State) : State :=
  let base := (s.carrier n).pend.getD ⟨s.reg (Reg.CG_PER_ACT n), s.reg (Reg.CG_PH_ACT n), []⟩
  let per := (vals.find? (·.1 == perPort n)).elim base.per (·.2)
  let ph := (vals.find? (·.1 == phPort n)).elim base.ph (·.2) % (max 1 per * 16)
  let chv := vals.filter fun v => decide (0x300 ≤ v.1) && s.chCarrier (portChan v.1) == n
  let all := chv ++ base.vals.filter fun v => !chv.any (·.1 == v.1)
  if per ≠ s.reg (Reg.CG_PER_ACT n) ∨ ph ≠ s.reg (Reg.CG_PH_ACT n) then
    let s := s.setCarrier n { s.carrier n with pend := some ⟨per, ph, all⟩ }
    if (s.carrier n).running then s else (applyPend n s).1
  else
    let s := s.setCarrier n { s.carrier n with pend := none }
    s.forEach (valChans all (s.chansOf n)) (setVals all)

/-- An eligible snapshot of a group transfers at a look-ahead instant (R164); shadows whose latest write it holds lose
WRITTEN (R161); the levels are evaluated with the new values (R167). -/
def transfer (g : Nat) (la : Instant) (s : State) : State :=
  match s.snap g with
  | none => s
  | some sn =>
    let s := s.setSnap g none
    let s := (s.bump (Reg.LG_TRANSFERS g)).setFlag (Reg.LG_STATUS g) F.LG_STATUS_TRANSFERRED true
    let s := s.forEach sn.vals fun v s =>
      let h := s.shadow v.1
      if h.seq = v.2.seq then s.setShadow v.1 { h with written := false } else s
    let vals := sn.vals.map fun v => (v.1, v.2.val.getD (shadowReset v.1))
    let members := (List.range 16).filter fun n => s.cgGroup n == g
    let s := s.forEach members (carrierTake vals)
    s.forEach (members.flatMap s.chansOf) fun c s => evalPair (c / 2) la s

/-! ## LOAD_ALL and shadow writes -/

/-- The port block of a port (R131): fabric memory, the sequencers' software triggers, the PWM ports, the DMA channels. -/
def portBlock (p : Nat) : Nat :=
  if p < 0x200 then 1 else if p < 0x600 then 2 else if 0x800 ≤ p ∧ p < 0x840 then 3 else 0

/-- A writer may register a write at a block at a tick: none that comes after it in the order of the tick has (R131, R160). -/
def State.inOrder (s : State) (block place : Nat) (t : Instant) : Bool :=
  let o := tabGet (0, 0) s.pwm.order block
  !(o.1 == t && decide (place < o.2))

/-- A writer registers a write at a block at a tick. -/
def takePlace (block place : Nat) (t : Instant) (s : State) : State :=
  { s with pwm := { s.pwm with order := tabSet (0, 0) s.pwm.order block (t, place) } }

/-- A cycle whose shadow writes are still provisional (R17, R18). -/
def State.openCycle (s : State) (a : Option (Nat × Nat)) : Bool :=
  match a with
  | none => false
  | some (e, c) => let x := s.engine e; x.inCycle && !x.late && x.cycleNo == c

/-- A pending snapshot becomes eligible once every contributing engine has ended on time or passed its deadline (R18), at the
look-ahead instant of the tick `t` of the event that decides it; while the reference carrier is stopped it transfers at once
(R164). -/
def snapshotEligible (t : Instant) (g : Nat) (s : State) : State :=
  match s.snap g with
  | none => s
  | some sn =>
    if sn.eligible.isSome || s.openCycle sn.author || sn.vals.any (fun v => s.openCycle v.2.author) then s
    else
      let la := t + s.lead
      let s := s.setSnap g (some { sn with eligible := some la })
      if (s.carrier (s.lgRef g)).running then s else transfer g la s

/-- Ports of a group whose arm bit is set (R162). -/
def State.armedPorts (s : State) (g : Nat) : List Nat :=
  ((List.range 16).filter fun n => s.cgGroup n == g).flatMap fun n =>
    (if s.flag (Reg.CG_CFG n) F.CG_CFG_ARM_PER then [perPort n] else []) ++
    (if s.flag (Reg.CG_CFG n) F.CG_CFG_ARM_PH then [phPort n] else []) ++
    (s.chansOf n).flatMap fun c =>
      (if s.flag (Reg.CH_CFG c) F.CH_CFG_ARM_CMPA then [cmpaPort c] else []) ++
      (if s.flag (Reg.CH_CFG c) F.CH_CFG_ARM_CMPB then [cmpbPort c] else []) ++
      (if s.flag (Reg.CH_CFG c) F.CH_CFG_ARM_MODE then [modePort c] else [])

/-- Behaviour level 1. -/
def State.level1 (s : State) : Bool := s.reg Reg.BEHAVIOUR_LEVEL == 1
/-- REQUIRE_COMPLETE of a group; behaviour level 0 treats it as 0 (R162, R433). -/
def State.requireComplete (s : State) (g : Nat) : Bool :=
  s.flag (Reg.LG_CFG g) F.LG_CFG_REQUIRE_COMPLETE && s.level1

/-- Bits of port 0x221 that a LOAD_ALL or its loss sets per group (Table 5-12). -/
def setLoadStatus (i : Nat) (b : Bool) (s : State) : State :=
  { s with pwm := { s.pwm with loadStatus := setBit s.pwm.loadStatus i b } }
/-- A LOAD_ALL of the group is refused as TORN. -/
def tornGroup (g : Nat) (s : State) : State :=
  (setLoadStatus (8 + g) true s).setFlag (Reg.LG_STATUS g) F.LG_STATUS_TORN true
/-- The group's snapshot is cancelled (R140). -/
def cancelSnapshot (g : Nat) (s : State) : State :=
  ((setLoadStatus (16 + g) true s).setSnap g none).setFlag (Reg.LG_STATUS g) F.LG_STATUS_CANCELLED true

/-- The groups HOLD freezes (R87). -/
def State.holdGroups (s : State) : Nat := if s.builtin then 1 else s.reg Reg.LAW_GROUPS

/-- One group of a LOAD_ALL (R160, R162, R163, R87): refused in HOLD or when incomplete, else a snapshot of the group's
shadow set at this place in the order of writes. -/
def loadGroup (author : Option (Nat × Nat)) (g : Nat) (s : State) : State :=
  if s.reg Reg.MODE = 6 && bit s.holdGroups g then
    (setLoadStatus (24 + g) true s).setFlag (Reg.LG_STATUS g) F.LG_STATUS_HELD true
  else if s.requireComplete g && !(s.armedPorts g).all (fun p => (s.shadow p).written) then tornGroup g s
  else
    let s := if (s.snap g).isSome then s.setFlag (Reg.LG_STATUS g) F.LG_STATUS_REPLACED true else s
    let s := setLoadStatus (8 + g) false (setLoadStatus (16 + g) false (setLoadStatus (24 + g) false s))
    let vals := s.pwm.shadows.filter fun v => s.portGroup v.1 == g
    snapshotEligible (s.tickCeil s.now) g (s.setSnap g (some ⟨vals, author, none, s.level1⟩))

/-- A LOAD_ALL for the groups of a mask, in ascending order. -/
def loadAllGroups (author : Option (Nat × Nat)) (mask : Nat) (s : State) : State :=
  s.forEach (bitsOf 8 mask) (loadGroup author)

/-- A shadow write is registered (R161): it sets WRITTEN; an engine's first write of a shadow in its cycle keeps the
record it replaces (R139). -/
def writeShadow (author : Option (Nat × Nat)) (p v : Nat) (s : State) : State :=
  let old := s.shadow p
  let s := match author with
    | none => s
    | some (e, _) =>
      let x := s.engine e
      if x.before.any (·.1 == p) then s
      else s.setEngine e { x with before := tabInsert x.before p old }
  let s := { s with serial := s.serial + 1 }
  s.setShadow p { val := if v = shadowReset p then none else some v, written := true, author := author, seq := s.serial }

/-- R139, R18: the shadow writes of a missed cycle are undone wherever they are still the latest, and leave every pending
snapshot; a snapshot that loses an armed shadow under REQUIRE_COMPLETE is discarded as TORN. -/
def invalidateWrites (e : Nat) (s : State) : State :=
  let x := s.engine e
  let me := some (e, x.cycleNo)
  let s := s.forEach x.before fun b s => if (s.shadow b.1).author = me then s.setShadow b.1 b.2 else s
  let s := s.forEach (List.range 8) fun g s =>
    match s.snap g with
    | none => s
    | some sn =>
      if sn.vals.any (fun v => v.2.author == me) then
        let gone := sn.vals.filter fun v => v.2.author == me
        if s.flag (Reg.LG_CFG g) F.LG_CFG_REQUIRE_COMPLETE && sn.level1 && gone.any (fun v => (s.armedPorts g).contains v.1) then
          tornGroup g (s.setSnap g none)
        else s.setSnap g (some { sn with vals := sn.vals.filter fun v => v.2.author != me })
      else s
  s.setEngine e { s.engine e with before := [] }

/-- R140: the pending snapshots whose LOAD_ALL the missed cycle wrote are cancelled. -/
def cancelLoads (e : Nat) (s : State) : State :=
  let me := some (e, (s.engine e).cycleNo)
  s.forEach (List.range 8) fun g s =>
    match s.snap g with
    | some sn => if sn.author = me then cancelSnapshot g s else s
    | none => s

/-- Every pending snapshot is looked at again after a cycle has closed at a tick (R18). -/
def snapshotsEligible (t : Instant) (s : State) : State := s.forEach (List.range 8) (snapshotEligible t)

/-- LOAD_STATUS, port 0x221 (Table 5-12). -/
def State.loadStatus (s : State) : Nat :=
  s.pwm.loadStatus / 256 * 256 + maskOf ((List.range 8).filter fun g => (s.snap g).isSome)

/-! ## Wraps, starts and stops -/

/-- What a wrap does to a channel of the carrier before its level is evaluated: carries age and are discarded at the fourth wrap
(R172), a comparator hold ends (R174), new minimum-pulse and dead-time settings take effect (R182). -/
def wrapChan (c : Nat) (s : State) : State :=
  let x := s.chan c
  let x := { x with onWraps := if x.onCarry = 0 then 0 else x.onWraps + 1, offWraps := if x.offCarry = 0 then 0 else x.offWraps + 1 }
  let lostOn := x.onCarry != 0 && decide (4 ≤ x.onWraps)
  let lostOff := x.offCarry != 0 && decide (4 ≤ x.offWraps)
  let x := { x with onCarry := if lostOn then 0 else x.onCarry, offCarry := if lostOff then 0 else x.offCarry }
  let newMp := s.reg (Reg.CH_MINPULSE c)
  let s := s.setChan c { x with cbc := false, minpulse := newMp }
  let s := if lostOn then carryLost s else s
  let s := if lostOff then carryLost s else s
  let s := if newMp / 2 ^ 30 = x.minpulse / 2 ^ 30 then s else zeroCarries c s
  { s with pwm := { s.pwm with dtAct := tabSet 0 s.pwm.dtAct c (s.reg (Reg.PAIR_DT (c / 2)) % 2 ^ 18) } }

/-- After the evaluation at a wrap: a static-on channel whose forcing has ended turns on (R178); a channel whose comparator hold has
ended (`cut`) turns on, through the interlock, if its request is on, and else its cut interval is over (R174). -/
def wrapResume (la : Instant) (cut : List Nat) (c : Nat) (s : State) : State :=
  let x := s.chan c
  if s.forced c then s
  else if x.await && x.req && s.effVal (modePort c) = 2 && !x.level4 then turnOnRequest c la s
  else if cut.contains c && x.lvl4 && !x.out && !x.held then
    if x.req then stage5On c la s else s.setChan c { x with lvl4 := false, plan := [] }
  else s

/-- The groups whose eligible snapshot transfers at a wrap of a carrier: those it is the reference of, and those of its own whose
reference wraps at the same instant (R164). -/
def State.groupsAt (s : State) (n : Nat) (w : Instant) : List Nat :=
  (List.range 8).filter fun g =>
    (s.lgRef g == n || (s.cgGroup n == g && (s.carrier (s.lgRef g)).running && (s.carrier (s.lgRef g)).wrapAt == w))
      && (s.snap g).any fun sn => sn.eligible.any fun e => decide (e ≤ w)

/-- A carrier wraps at its wrap instant (R152, R164, R165, R322): eligible snapshots transfer, its own waiting values take effect, the
period begins after the hold, the next wrap is fixed, and its channels are evaluated at count 0. -/
def wrapCarrier (n : Nat) (s : State) : State :=
  let w := (s.carrier n).wrapAt
  let s := s.forEach (s.groupsAt n w) fun g s => transfer g w s
  let r := applyPend n s
  let s := r.1
  let next := w + r.2 * sixteenth + s.perDur n
  let c := s.carrier n
  let s := s.setCarrier n { c with wrapAt := next, lastWrap := w, wraps := c.wraps + 1, recent := (w :: c.recent).take 4 }
  let s := { s with pwm := { s.pwm with events := s.pwm.events ++ [⟨n, false, w⟩] } }
  let s := carrierAlarmFix n (s.carrier n).wraps next (w - s.lead) s
  let chans := s.chansOf n
  let cut := chans.filter fun c => (s.chan c).cbc
  let s := s.forEach chans wrapChan
  let s := s.forEach chans fun c s => evalPair (c / 2) w (duePair (c / 2) w s)
  s.forEach chans (wrapResume w cut)

/-- The carriers scheduled for T_s start there (R153): count (−PH) mod PER, so that the first wrap lies PH mod PER later. -/
def startCarrier (ts : Instant) (n : Nat) (s : State) : State :=
  let ph := s.reg (Reg.CG_PH_ACT n) % (max 1 (s.per16 n))
  let s := s.setCarrier n { s.carrier n with running := true, startAt := none, wraps := 0, lastWrap := ts,
                                             wrapAt := ts + ph * sixteenth, evtFrom := ts }
  let s := s.setRegBit Reg.CG_RUNNING n true
  if ph = 0 then wrapCarrier n s else s.forEach (s.chansOf n) fun c s => evalPair (c / 2) ts s

/-- A carrier stops at a look-ahead instant (R154): its channels request off, comparator holds on them end, carries become
zero, waiting snapshots of its groups transfer, placed alarm instances are cancelled. -/
def stopCarrier (la : Instant) (n : Nat) (s : State) : State :=
  let s := s.setCarrier n { s.carrier n with running := false, startAt := none }
  let s := s.setRegBit Reg.CG_RUNNING n false
  let s := (applyPend n s).1
  let s := s.forEach ((List.range 8).filter fun g => s.lgRef g == n) fun g s =>
    match s.snap g with
    | some sn => if sn.eligible.isSome then transfer g la s else s
    | none => s
  let s := s.forEach (s.chansOf n) fun c s => s.setChan c { s.chan c with cbc := false }
  let s := s.forEach (s.chansOf n) fun c s => evalPair (c / 2) la s
  carrierAlarmCancel n (s.forEach (s.chansOf n) zeroCarries)

end Sys2Proof.Machine
end

