-- ==== Sys2Proof/Machine/FiltOps.lean ====
section
/-!
DEFINITION. The operations of the filter lanes (09_filter_chain.md): CIC, normaliser, FIR, fades, output stage, restarts,
and the cycle-by-cycle comparators that a lane output drives (06, R174, R175).
-/

namespace Sys2Proof.Machine

def State.fl (s : State) (k : Nat) : Flane := tabGet {} s.filt.lanes k
def State.setFl (s : State) (k : Nat) (x : Flane) : State := { s with filt := { s.filt with lanes := tabSet {} s.filt.lanes k x } }
def State.laneCfg (s : State) (k : Nat) (f : Fld) : Nat := s.fld (Reg.LANE_CFG k) f
def State.laneIsAin (s : State) (k : Nat) : Bool := s.laneCfg k F.LANE_CFG_SRC_TYPE == 1
def State.laneSrc (s : State) (k : Nat) : Nat := s.laneCfg k F.LANE_CFG_SRC
def State.laneRuns (s : State) (k : Nat) : Bool :=
  let st := s.fld (Reg.LANE_STATUS k) F.LANE_STATUS_STATE
  st == 1 || st == 2 || st == 3

/-! ## Coefficients -/

/-- Descriptor register of a bank. -/
def bankReg (k b : Nat) : Nat := if b = 0 then Reg.BANK_A k else Reg.BANK_B k
/-- Coefficient codes of a bank; factory bank A holds the single coefficient 0x4000. -/
def State.coefs (s : State) (k b : Nat) : List Nat := tabGet (if b = 0 then [0x4000] else []) s.filt.coefs (2 * k + b)
def State.taps (s : State) (k b : Nat) : Nat := s.fld (bankReg k b) F.BANK_TAPS
def State.bankValid (s : State) (k b : Nat) : Bool := s.flag (bankReg k b) F.BANK_VALID

/-! ## CIC and normaliser (R257 to R259) -/

def cicMod : Nat := 2199023255552

/-- The integrators take one input. -/
def integStep : List Nat → Nat → List Nat
  | [], _ => []
  | i :: t, v => ((i + v) % cicMod) :: integStep t ((i + v) % cicMod)

/-- The combs take one decimated sample: their new registers and the output. -/
def combStep : List Nat → Nat → List Nat × Nat
  | [], v => ([], v)
  | c :: t, v => let r := combStep t ((v + cicMod - c) % cicMod); (v :: r.1, r.2)

/-- S = ceil(log2 x), for x up to 2^40. -/
def clog2 (x : Nat) : Nat := ((List.range 41).find? fun n => decide (x ≤ 2 ^ n)).getD 41

/-- The normaliser (R259). -/
def normalise (ain : Bool) (g c : Nat) : Int :=
  let sh := clog2 g
  let half : Int := if sh = 0 then 0 else 2 ^ (sh - 1)
  if ain then (sget 41 c + half) / 2 ^ sh
  else min 32767 (((2 * (c : Int) - g) * 32768 + half) / 2 ^ sh)

/-! ## Timing (R260 to R264) -/

/-- Expected clock period of a clock pin in edge ticks (R250). -/
def State.sdcPeriod (s : State) (p : Nat) : Rat :=
  let c := s.reg (Reg.SDC_CFG p)
  if fget F.SDC_CFG_DIR c = 1 then (fget F.SDC_CFG_DIV c : Rat) else 1600000 / (max 1 (fget F.SDC_CFG_EXPECT c) : Nat)

/-- The clock pin of an SDI. -/
def State.sdiPin (s : State) (i : Nat) : Nat := s.fld (Reg.SDI_CFG i) F.SDI_CFG_CLK

def ceil8 (n : Nat) : Nat := (n + 7) / 8

/-- FIR ticks of an output: both banks during a fade. -/
def State.firTicks (s : State) (k : Nat) (fading : Bool) : Nat :=
  let b := (s.fl k).bank
  ceil8 (s.taps k b) + if fading then ceil8 (s.taps k (1 - b)) else 0

/-- T_lat in ns for a number of FIR ticks (R263). -/
def State.tLat (s : State) (k ticks : Nat) : Nat := (if s.laneIsAin k then 280 else 20) + 10 + 5 * ticks

/-- T_in in edge ticks; an AIN lane has none until 256 inputs have arrived (R264). -/
def State.tIn (s : State) (k : Nat) : Option Rat :=
  if s.laneIsAin k then
    let l := (s.fl k).inTimes
    if l.length < 256 then none
    else some (((l.headD 0 - l.getLastD 0 : Nat) : Rat) / 255 / (edgeTick : Rat))
  else some (s.sdcPeriod (s.sdiPin (s.laneSrc k)))

/-- DELAY in edge ticks for an output of these banks (R264): both of them during a fade, the new one from its last output on (Table 9-3). -/
def State.laneDelay (s : State) (k : Nat) (banks : List Nat) : Nat :=
  match s.tIn k with
  | none => 0xFFFFFFFF
  | some tin =>
    let n : Rat := s.laneCfg k F.LANE_CFG_ORDER
    let m : Rat := s.laneCfg k F.LANE_CFG_DECIM
    let gf : Rat := banks.foldl (fun m x => max m ((s.fld (bankReg k x) F.BANK_FIR_DELAY : Rat) / 16)) 0
    let lat : Rat := (s.tLat k ((banks.map fun x => ceil8 (s.taps k x)).sum) : Rat) * 8 / 5
    ((n * (m - 1) / 2 + m * gf) * tin + lat + 1 / 2).floor.toNat

/-- The check of R261 for an SDI lane under a configuration and the taps of its valid banks. -/
def State.firFits (s : State) (cfg la lb : Nat) : Bool :=
  fget F.LANE_CFG_SRC_TYPE cfg == 1
    || decide (((8 * (ceil8 la + ceil8 lb) : Nat) : Rat) ≤ (fget F.LANE_CFG_DECIM cfg : Rat) * s.sdcPeriod (s.sdiPin (fget F.LANE_CFG_SRC cfg)))

/-- CIC_GAIN of a configuration in units of 2^-31; its rounding, where it is no whole number, is a free value. -/
def State.cicGain (s : State) (cfg : Nat) : Nat :=
  let g := fget F.LANE_CFG_DECIM cfg ^ fget F.LANE_CFG_ORDER cfg
  let v := g * 2147483648
  let d := 2 ^ clog2 g
  v / d + if v % d = 0 then 0 else s.freeVal 1

/-! ## Restarts (R265, R266, R272) -/

/-- LANES_ACTIVE and STATE follow. -/
def setFlState (k st : Nat) (s : State) : State :=
  (s.setFld (Reg.LANE_STATUS k) F.LANE_STATUS_STATE st).setRegBit Reg.LANES_ACTIVE k (decide (1 ≤ st) && decide (st ≤ 3))

/-- The bank in use becomes `b` with no fade running and nothing queued. -/
def flBank (k b : Nat) (s : State) : State :=
  let s := s.setFl k { s.fl k with bank := b, fade := none, queued := none }
  let s := (s.setFld (Reg.LANE_STATUS k) F.LANE_STATUS_BANK b).setFlag (Reg.LANE_STATUS k) F.LANE_STATUS_FADE false
  let s := (s.setFlag (Reg.LANE_STATUS k) F.LANE_STATUS_SWAP_PENDING false).setReg (Reg.FADE_POS k) 0
  s.setFld (Reg.LANE_STATUS k) F.LANE_STATUS_QUEUED_BANK 0

/-- The output being computed, its fade having ended. -/
def FirJob.plain (j : FirJob) : FirJob := { j with k := 0, endsFade := false }

/-- Whether a lane is throttled: lanes of the law and of FILT_PROTECT are not (15, Table 15-1). -/
def State.laneThrottled (s : State) (k : Nat) : Bool :=
  s.throttled 5 && !s.regBit Reg.FILT_PROTECT k && !(s.law.cbcOwned && decide (k < 12))

/-- The input of a lane is stale (R267). -/
def State.inputStale (s : State) (k : Nat) : Bool :=
  if s.laneIsAin k then bit (s.word (s.laneSrc k)) 27 else s.flag (Reg.SDI_STATUS (s.laneSrc k)) F.SDI_STATUS_STALE

/-- A restart of a running lane: CIC, delay line, phase and waiting output are cleared; a fade ends with the new bank, a
queued request applies without a fade, and the output being computed belongs to no fade any more (R265, R272); DELAY of an AIN lane is
open until 256 inputs have arrived (R264). -/
def flRestart (k : Nat) (s : State) : State :=
  let x := s.fl k
  let b := x.queued.getD (if x.fade.isSome then 1 - x.bank else x.bank)
  let was := x.fade.isSome || x.queued.isSome
  let n := s.laneCfg k F.LANE_CFG_ORDER
  let s := s.setFl k { x with integ := List.replicate n 0, comb := List.replicate n 0, ins := [], inTimes := [], j := 0,
                              line := [], waiting := none, stale := false
                              busy := x.busy.map fun j => { j.plain with delay := if s.laneIsAin k then 0xFFFFFFFF else j.delay } }
  let s := if s.laneIsAin k then s.setReg (Reg.DELAY k) 0xFFFFFFFF else s
  let s := flBank k b s
  let s := if was then s.setReg (Reg.BANK_SEL k) 2 else s
  let s := (s.setFlag (Reg.LANE_STATUS k) F.LANE_STATUS_RESTARTED true).bump (Reg.RESTART_COUNT k)
  setFlState k 1 (s.setFlag (Reg.LANE_STATUS k) F.LANE_STATUS_STALE false)

/-- The lane becomes stale: its word and OUTPUT show STALE with the last output unchanged (R267). -/
def flStale (k : Nat) (s : State) : State :=
  if s.laneRuns k && !(s.fl k).stale then
    let s := s.setFl k { s.fl k with stale := true }
    let s := setFlState k 3 (s.setFlag (Reg.LANE_STATUS k) F.LANE_STATUS_STALE true)
    let w := setBit (s.word (0x100 + k)) 30 true
    { s with words := tabSet (wordReset (0x100 + k)) s.words (0x100 + k) w }.setReg (Reg.OUTPUT k) w
  else s

/-- A running lane restarts on an input that may be stale (R265, R267). -/
def flFresh (k : Nat) (s : State) : State :=
  let s := flRestart k s
  if s.inputStale k then flStale k s else s

/-! ## Enable and shutdown (R272, R273) -/

/-- PD6 is on. -/
def State.filtPower (s : State) : Bool := s.regBit Reg.PD_ON 6

/-- The lane starts on its START_BANK. -/
def flStart (k : Nat) (s : State) : State :=
  let s := s.setFl k {}
  flFresh k (flBank k (s.laneCfg k F.LANE_CFG_START_BANK) s)

/-- The lane starts its shutdown; a fade and a queued request are discarded. -/
def flShutdown (k : Nat) (s : State) : State :=
  let busy := (s.fl k).fade.isSome || (s.fl k).queued.isSome
  let s := flBank k (s.fl k).bank s
  let s := if busy then s.setReg (Reg.BANK_SEL k) 2 else s
  let s := s.setFl k { s.fl k with stopping := true, waiting := none, busy := (s.fl k).busy.map FirJob.plain }
  (setFlState k 4 s).setReg (Reg.DELAY k) 0xFFFFFFFF

/-- EN has been written: R30 to R32 for a lane. -/
def flEnable (k : Nat) (on : Bool) (s : State) : State :=
  if (s.fl k).stopping then s.setFlag (Reg.LANE_STATUS k) F.LANE_STATUS_PENDING_ENABLE on
  else if on then (if s.laneRuns k || !s.filtPower then s else flStart k s)
  else if s.laneRuns k then flShutdown k s
  else s

/-- The shutdown completes: state cleared, off, and a pending enable starts the lane (R30). -/
def flOff (k : Nat) (s : State) : State :=
  let pend := s.flag (Reg.LANE_STATUS k) F.LANE_STATUS_PENDING_ENABLE
  let s := setFlState k 0 ((s.setFl k {}).setFlag (Reg.LANE_STATUS k) F.LANE_STATUS_PENDING_ENABLE false)
  if pend && s.filtPower then flStart k s else s

/-! ## Inputs and outputs -/

/-- An input of an AIN lane (R256): the first one after recovery restarts the lane. -/
def flInput (k : Nat) (v : Int) (at_ : Instant) (s : State) : State :=
  if !s.laneRuns k || s.laneThrottled k then s
  else
    let s := if (s.fl k).stale then flRestart k s else s
    let x := s.fl k
    s.setFl k { x with ins := x.ins ++ [v], inTimes := (at_ :: x.inTimes).take 256 }

/-- Whether an output at CIC output `j` is unsettled for a bank of `l` taps (R266). -/
def unsettled (n j l : Nat) : Bool := decide (j + 1 < n + l)

/-- Σ h[k] · x[n − k] (R260). -/
def firAcc (h : List Nat) (line : List Int) : Int :=
  ((List.zip h line).map fun p => sget 16 p.1 * p.2).foldl (· + ·) 0

/-- The FIR starts on a CIC output: its delay line takes it; a fade that is due takes its next output (R260, R270). -/
def firStart (k : Nat) (o : CicOut) (from_ : Option Instant) (s : State) : State :=
  let x := s.fl k
  let line := (o.x :: x.line).take 512
  let n := s.laneCfg k F.LANE_CFG_ORDER
  let old := firAcc (s.coefs k x.bank) line
  let un (b : Nat) : Bool := unsettled n o.j (s.taps k b)
  let job : FirJob :=
    match x.fade with
    | none => ⟨old, o.at_, from_, s.firTicks k false, un x.bank, x.bank, 0, false, s.laneDelay k [x.bank]⟩
    | some (i, f) =>
      let kk := i + 1
      let new := firAcc (s.coefs k (1 - x.bank)) line
      let w := 65536 * kk / max 1 f
      let b := old + (new - old) * w / 65536
      ⟨b, o.at_, from_, s.firTicks k true, un (1 - x.bank) || (decide (kk < f) && un x.bank), 1 - x.bank, kk, decide (f ≤ kk),
        s.laneDelay k (if f ≤ kk then [1 - x.bank] else [x.bank, 1 - x.bank])⟩
  s.setFl k { x with line := line, busy := some job, fade := x.fade.map fun f => (f.1 + 1, f.2) }

/-- A CIC output arrives (R261): the FIR takes it, or it waits, or the lane overflows and restarts. -/
def cicArrive (k : Nat) (o : CicOut) (s : State) : State :=
  let x := s.fl k
  if x.waiting.isSome then
    let s := (s.setFlag (Reg.LANE_STATUS k) F.LANE_STATUS_FIR_OVR true).bump (Reg.LANE_OVR_COUNT k)
    flRestart k s
  else if x.busy.isSome then s.setFl k { x with waiting := some { o with waited := true } }
  else firStart k o none s

/-- M inputs pass the CIC stage, the last of them sampled at `at_` (R257). -/
def cicBlock (k : Nat) (ins : List Nat) (at_ : Instant) (s : State) : State :=
  let x := s.fl k
  let integ := ins.foldl integStep x.integ
  let r := combStep x.comb (integ.getLastD 0)
  let g := s.laneCfg k F.LANE_CFG_DECIM ^ s.laneCfg k F.LANE_CFG_ORDER
  let o : CicOut := { x := normalise (s.laneIsAin k) g r.2, j := x.j + 1, at_ := at_ }
  cicArrive k o (s.setFl k { x with integ := integ, comb := r.1, j := x.j + 1 })

/-! ## Cycle-by-cycle comparators (R174) -/

/-- The comparator of a channel acts on a lane output. -/
def State.cbcActs (s : State) (c k : Nat) (y : Int) : Bool :=
  let v := s.reg (Reg.CH_CBC c)
  fget F.CH_CBC_EN v == 1 && fget F.CH_CBC_LANE v == k && (s.carrier (s.chCarrier c)).running
    && (if fget F.CH_CBC_DIR v = 0 then decide (sget 16 (fget F.CH_CBC_THRESHOLD v) < y) else decide (y < sget 16 (fget F.CH_CBC_THRESHOLD v)))

/-- The comparators that act end their on-intervals within 40 ns (how much of it passes is a free value) and hold turn-ons
off until the next wrap; the law's actions are counted by carrier (R67, R71). -/
def cbcLane (k : Nat) (y : Int) (s : State) : State :=
  let l := (List.range 256).filter fun c => s.cbcActs c k y
  if l.isEmpty then s
  else
    let la := s.la + s.freeVal 64 % (ns 40 + 1)
    (s.forEach l fun c s =>
      let s := setOutput c false la s
      let s := s.setChan c { s.chan c with cbc := true }
      if s.law.cbcOwned && decide (c < 48) then
        let s := s.bump Reg.CBC_COUNT
        { s with law := { s.law with cbcActed := setBit s.law.cbcActed (s.chCarrier c) true } }
      else s).useFree

/-- The scaled output: floor(acc · 2^(SH − 15) + 1/2), and whether it saturates (R262). -/
def outScale (acc : Int) (sh : Int) : Int × Bool :=
  let n := 15 - sh
  let y : Int := if n ≤ 0 then acc * 2 ^ (-n).toNat else (acc + 2 ^ (n.toNat - 1)) / 2 ^ n.toNat
  (max (-32768) (min 32767 y), decide (y < -32768) || decide (32767 < y))

/-- A fade has delivered its last output: the new bank is in use and a queued request is looked at (R271). -/
def fadeEnd (k : Nat) (s : State) : State :=
  let x := s.fl k
  let q := x.queued
  let new := 1 - x.bank
  let s := (flBank k new s).setReg (Reg.BANK_SEL k) 2
  match q with
  | some b => if b = new then s
      else (s.setFl k { s.fl k with fade := some (0, s.reg (Reg.FADE_LEN k)) }).setReg (Reg.BANK_SEL k) 1
  | none => s

/-- What a lane output does beside its word and registers (R262, R266, R270, R271, R174). -/
def laneOutputEffects (k : Nat) (j : FirJob) (sc : Int × Bool) (stale : Bool) (w : Nat) (s : State) : State :=
  let s := if sc.2 then (s.setFlag (Reg.LANE_STATUS k) F.LANE_STATUS_SAT true).bump (Reg.SAT_COUNT k) else s
  let s := s.setFlag (Reg.LANE_STATUS k) F.LANE_STATUS_UNSETTLED j.unsettled
  let s := if stale || (s.fl k).stopping then s else setFlState k (if j.unsettled then 1 else 2) s
  let s := if 0 < j.k then
      ((s.setFld (Reg.LANE_STATUS k) F.LANE_STATUS_BANK j.bank).setFlag (Reg.LANE_STATUS k) F.LANE_STATUS_FADE true).setReg (Reg.FADE_POS k) j.k
    else s
  let s := s.setFl k { s.fl k with busy := none }
  let s := if j.endsFade then fadeEnd k s else s
  let s := streamPush k w s
  let s := if j.unsettled || stale then s else cbcLane k sc.1 s
  match (s.fl k).waiting with
  | some o => firStart k o (some s.now) (s.setFl k { s.fl k with waiting := none })
  | none => s

/-- A lane output is registered at an instant (R262 to R264, R270). -/
def laneOutput (k : Nat) (j : FirJob) (s : State) : State :=
  let sc := outScale j.acc (sget 5 (s.laneCfg k F.LANE_CFG_OUT_SHIFT))
  let p := 0x100 + k
  let tag := (s.word p / 65536 + 1) % 256
  let stale := (s.fl k).stale
  let fading := decide (0 < j.k) && !j.endsFade
  let w := b2n j.unsettled * 2 ^ 31 + b2n stale * 2 ^ 30 + b2n sc.2 * 2 ^ 29 + j.bank * 2 ^ 28 + b2n fading * 2 ^ 27
    + tag * 65536 + sput 16 sc.1
  let s := laneOutputEffects k j sc stale w s
  let s := (s.setWord p w).setWord (0x128 + k) (s.time64 % 2 ^ 32)
  let s := (s.setReg (Reg.OUTPUT k) w).setReg (Reg.OUT_TIME k) s.time64
  if (s.fl k).stopping then s else s.setReg (Reg.DELAY k) j.delay

/-! ## Configuration (R258, R261, R272, R274, R275) -/

/-- A LANE_CFG value passes the checks of its fields. -/
def State.laneCfgOk (s : State) (k v : Nat) : Bool :=
  let g := fget F.LANE_CFG_DECIM v ^ fget F.LANE_CFG_ORDER v
  let l (b : Nat) : Nat := if s.bankValid k b then s.taps k b else 0
  valueOk (Reg.LANE_CFG k) v && (fget F.LANE_CFG_SRC_TYPE v == 0 || decide (g ≤ 33554432)) && s.firFits v (l 0) (l 1)
    && (fget F.LANE_CFG_EN v == 0 || s.bankValid k (fget F.LANE_CFG_START_BANK v))

/-- A LANE_CFG value takes effect (R265, R273). -/
def laneCfgApply (k v : Nat) (s : State) : State :=
  let old := s.reg (Reg.LANE_CFG k)
  let on := fget F.LANE_CFG_EN v == 1
  let moved := [F.LANE_CFG_SRC_TYPE, F.LANE_CFG_SRC, F.LANE_CFG_ORDER, F.LANE_CFG_DECIM].any fun f => fget f v != fget f old
  let s := (s.setReg (Reg.CIC_GAIN k) (s.cicGain v)).useFree
  let s := s.setReg (Reg.LANE_CFG k) v
  if on && s.laneRuns k then (if moved then flFresh k s else s) else flEnable k on s

end Sys2Proof.Machine
end

