-- ==== Sys2Proof/Machine/AdcOps.lean ====
section
/-!
DEFINITION. The operations of the analogue acquisition (08_analogue_acquisition.md): slices, rounds and steps, triggers, the
result word, calibration, sigma-delta inputs.
-/

namespace Sys2Proof.Machine

def State.setAdc (s : State) (a : Adc) : State := { s with adc := a }

/-! ## Slices (R227, Table 8-8) -/

def sliceOff : Nat := 0
def sliceHome : Nat := 1
def sliceStandIn : Nat := 2
def sliceCal : Nat := 3
def sliceSpare : Nat := 4
def sliceRetired : Nat := 5

def State.sliceState (s : State) (k : Nat) : Nat := s.fld (Reg.SLICE_STATUS k) F.SLICE_STATUS_STATE
/-- A slice takes a state and the logical slice it serves (0x1F none). -/
def setSlice (k st serves : Nat) (s : State) : State :=
  (s.setFld (Reg.SLICE_STATUS k) F.SLICE_STATUS_STATE st).setFld (Reg.SLICE_STATUS k) F.SLICE_STATUS_SERVES serves
/-- The physical slice that serves a logical one. -/
def State.server (s : State) (l : Nat) : Option Nat :=
  (List.range 17).find? fun k => s.fld (Reg.SLICE_STATUS k) F.SLICE_STATUS_SERVES == l
    && (s.sliceState k == sliceHome || s.sliceState k == sliceStandIn)
/-- The number of served logical slices: sixteen until a second retirement, then one less for each (R248). -/
def State.served (s : State) : Nat := min 16 (17 - ((List.range 17).filter fun k => s.sliceState k == sliceRetired).length)

/-! ## Sequences (R230, Table 8-12) -/

/-- A sequence: 2 · group + 1 for the injected one. -/
def seqInj (q : Nat) : Bool := q % 2 == 1
def State.seqLen (s : State) (q : Nat) : Nat :=
  s.fld (Reg.SQ_CFG (q / 2)) (if seqInj q then F.SQ_CFG_INJ_LEN else F.SQ_CFG_REG_LEN)
def State.seqEntry (s : State) (q i : Nat) : Nat := s.reg (if seqInj q then Reg.INJ_ENTRY (q / 2) i else Reg.REG_ENTRY (q / 2) i)
def State.seqTrig (s : State) (q : Nat) : Nat := s.reg (if seqInj q then Reg.INJ_TRIG (q / 2) else Reg.REG_TRIG (q / 2))
def State.seqEntries (s : State) (q : Nat) : List Nat := (List.range (s.seqLen q)).map (s.seqEntry q)
/-- The inputs of a sequence. -/
def State.seqInputs (s : State) (q : Nat) : List Nat := (s.seqEntries q).map (fget F.ENTRY_AIN)
/-- Inputs of the step that begins at an entry. -/
def stepOf (l : List Nat) (i : Nat) : List Nat :=
  match l.drop i with
  | [] => []
  | e :: t => (e :: t.takeWhile fun x => fget F.ENTRY_NEW_STEP x == 0).map (fget F.ENTRY_AIN)
def State.step_ (s : State) (q i : Nat) : List Nat := stepOf (s.seqEntries q) i

/-- All steps of a list of entries. -/
def stepsOf : Nat → List Nat → List (List Nat)
  | 0, _ => []
  | f + 1, l =>
    if l.isEmpty then []
    else let n := (stepOf l 0).length; stepOf l 0 :: stepsOf f (l.drop n)

/-- A list names an input twice. -/
def dupIn : List Nat → Bool
  | [] => false
  | x :: t => t.contains x || dupIn t

/-- No step of the entries holds too many of them or an input twice (R230). -/
def State.stepsOk (s : State) (l : List Nat) : Bool :=
  (stepsOf 64 l).all fun st => decide (st.length ≤ max 1 s.served) && decide (st.length ≤ 16) && !dupIn st

/-! ## Rounds and changes of service (R227) -/

def State.round (s : State) (q : Nat) : Option Round := tabGet none s.adc.rounds q
def State.setRound (s : State) (q : Nat) (r : Option Round) : State := s.setAdc { s.adc with rounds := tabSet none s.adc.rounds q r }

/-- Logical slices that convert now, for a step or for an open-wire test. -/
def State.busySlices (s : State) : List Nat :=
  s.adc.owConvs.map Prod.fst ++ (List.range 16).flatMap fun q => match s.round q with
    | some r => if r.convAt.isSome then r.slices else []
    | none => []

def State.freeSince (s : State) (l : Nat) : Instant := tabGet 0 s.adc.freeAt l

/-- A slice leaves service; a calibration that waited for it begins (R246). -/
def sliceLeaves (k : Nat) (s : State) : State :=
  match s.adc.cal with
  | some (j, _, forced) =>
    if j = k then
      ((setSlice k sliceCal 0x1F s).setFlag (Reg.SLICE_STATUS k) F.SLICE_STATUS_CAL_WAIT false).setAdc { s.adc with cal := some (k, s.now, forced) }
    else setSlice k (if k = 16 then sliceSpare else sliceCal) 0x1F s
  | none => setSlice k (if k = 16 then sliceSpare else sliceCal) 0x1F s

/-- A waiting change of service of a logical slice takes effect (R227); S16 first ends its service of another one. -/
def handOne (l : Nat) (s : State) : State :=
  match s.adc.handOver.find? (·.1 == l) with
  | none => s
  | some h =>
    let other := s.fld (Reg.SLICE_STATUS 16) F.SLICE_STATUS_SERVES
    if h.2 = 16 && s.sliceState 16 == sliceStandIn && other != l && s.adc.handOver.any (·.1 == other) then s
    else
      let s := s.setAdc { s.adc with handOver := s.adc.handOver.filter fun x => x.1 != l }
      let s := match s.server l with
        | some k => if k = h.2 then s else sliceLeaves k s
        | none => s
      setSlice h.2 (if h.2 = 16 then sliceStandIn else sliceHome) l s

/-- The changes that a logical slice, now idle, has waited for, and those that waited for S16. -/
def handOver (l : Nat) (s : State) : State :=
  (handOne l s).forEach ((handOne l s).adc.handOver.filter fun h => h.2 == 16 && !(handOne l s).busySlices.contains h.1) fun h s => handOne h.1 s

/-- Slice `k` is to serve logical slice `l`: at once if it is idle, else when its conversion ends. -/
def changeServer (l k : Nat) (s : State) : State :=
  let s := s.setAdc { s.adc with handOver := s.adc.handOver.filter (fun x => x.1 != l) ++ [(l, k)] }
  if s.busySlices.contains l then s else handOver l s

/-! ## Rounds and triggers (R231 to R233, R244) -/

def State.sqFlag (s : State) (q : Nat) (reg inj : Fld) (b : Bool) : State :=
  s.setFlag (Reg.SQ_STATUS (q / 2)) (if seqInj q then inj else reg) b

/-- The tests of open wire on inputs of a round that starts at `t` are abandoned (R244): a conversion in progress ends with its test, so
that the step runs undelayed. -/
def owAbort (l : List Nat) (t : Instant) (s : State) : State :=
  s.forEach (s.adc.ow.filter fun e => e.2.isSome && l.contains e.1) fun e s =>
    let s := (s.setAdc { s.adc with ow := tabSet none s.adc.ow e.1 none }).bump Reg.OW_ABORTS
    match e.2.bind (·.conv) with
    | some c =>
      if s.adc.owConvs.contains c then
        handOver c.1 (s.setAdc { s.adc with owConvs := s.adc.owConvs.erase c, freeAt := tabSet 0 s.adc.freeAt c.1 t })
      else s
    | none => s

/-- A trigger of a sequence at an instant: ignored, dropped as an overrun, or a new round with its first step pending. -/
def trigSeq (q : Nat) (t : Instant) (s : State) : State :=
  if !s.flag (Reg.SQ_CFG (q / 2)) F.SQ_CFG_EN || s.seqLen q == 0 || !s.flag Reg.ADC_STATUS F.ADC_STATUS_READY || s.adc.stopping then s
  else if (s.round q).isSome then
    (s.sqFlag q F.SQ_STATUS_REG_OVR F.SQ_STATUS_INJ_OVR true).bump (Reg.SQ_OVR_COUNT (q / 2))
  else
    let s := owAbort (s.seqInputs q) t s
    (s.setRound q (some { pendAt := some t })).sqFlag q F.SQ_STATUS_REG_BUSY F.SQ_STATUS_INJ_BUSY true

/-- A source of Table 8-1 triggers every sequence that names it. -/
def trigSource (code : Nat) (t : Instant) (s : State) : State :=
  s.forEach (List.range 16) fun q s => if s.seqTrig q == code && code != 0 then trigSeq q t s else s

/-- A trigger has arisen and waits for ADC_TRIGGER. -/
def raiseTrig (code : Nat) (t : Instant) (s : State) : State :=
  if (List.range 16).any (fun q => s.seqTrig q == code) then s.setAdc { s.adc with trigs := s.adc.trigs ++ [(code, t)] } else s

/-- A round is complete: counters, port 0x080 + n, and CONT (R231). -/
def roundComplete (q : Nat) (s : State) : State :=
  let n := q / 2
  let s := (s.setRound q none).sqFlag q F.SQ_STATUS_REG_BUSY F.SQ_STATUS_INJ_BUSY false
  let s := s.bump (if seqInj q then Reg.INJ_ROUNDS n else Reg.REG_ROUNDS n)
  let w := s.word (0x80 + n)
  let w := if seqInj q then w / 65536 * 65536 + (w + 1) % 65536 else (w / 65536 + 1) % 65536 * 65536 + w % 65536
  let s := s.setWord (0x80 + n) w
  if !seqInj q && s.flag (Reg.SQ_CFG n) F.SQ_CFG_CONT then trigSeq q s.now s else s

/-! ## Steps (R236, R237) -/

/-- The first instant of PLL-A's grid at or after an instant. -/
def gridCeil (t : Instant) : Instant := (t + edgeTick - 1) / edgeTick * edgeTick

/-- The law's rounds A and B (R236). -/
def State.lawSeq (s : State) (q : Nat) : Bool := s.builtin && (q == 1 || q == 3)

/-- One pending step comes before another: the law's, injected, earlier, lower group. -/
def State.stepBefore (s : State) (a b : Nat × Instant) : Bool :=
  let key (x : Nat × Instant) : Nat × Nat × Nat := (if s.lawSeq x.1 then 0 else if seqInj x.1 then 1 else 2, x.2, x.1 / 2)
  let x := key a
  let y := key b
  if x.1 ≠ y.1 then decide (x.1 < y.1) else if x.2.1 ≠ y.2.1 then decide (x.2.1 < y.2.1) else decide (x.2.2 < y.2.2)

/-- Pending steps: sequence and pending instant. -/
def State.pendingSteps (s : State) : List (Nat × Instant) :=
  (List.range 16).filterMap fun q => match s.round q with
    | some r => r.pendAt.map fun t => (q, t)
    | none => none

/-- Insertion of an instant in a rising list. -/
def insertNat (x : Nat) : List Nat → List Nat
  | [] => [x]
  | y :: t => if x ≤ y then x :: y :: t else y :: insertNat x t

/-- The sampling instant of a step of `n` entries pending since `p`, and its logical slices: the instant at which enough are
free, then the lowest-numbered ones. -/
def State.stepAt (s : State) (n : Nat) (p : Instant) : Option (Instant × List Nat) :=
  -- a step that the served slices can hold takes none that is not served (R248)
  let free := (List.range 16).filter fun l => !s.busySlices.contains l && (decide (s.served < n) || (s.server l).isSome)
  if free.length < n ∨ n = 0 then none
  else
    let times := free.foldl (fun l x => insertNat (s.freeSince x) l) []
    let t := gridCeil (max (max p s.adc.lastStart) (listGet 0 times (n - 1)))
    some (t, (free.filter fun l => decide (s.freeSince l ≤ t)).take n)

/-- The number of entries of the step of a sequence that is pending. -/
def State.stepLen (s : State) (q : Nat) : Nat :=
  match s.round q with
  | some r => (s.step_ q r.next).length
  | none => 0

/-- The law's steps that are pending, or that their time alarms make due, within 200 ns from `t`: entries, instant (R236). An alarm that has
been delivered has a trigger that waits, then a pending step. -/
def State.lawDue (s : State) (t : Instant) : List (Nat × Instant) :=
  let soon (d : Instant) : Bool := decide (t ≤ d) && decide (d < t + ns 200)
  [1, 3].filterMap fun lq =>
    let code := s.seqTrig lq
    let pend := ((s.pendingSteps.find? fun y => y.1 == lq && soon y.2).map (·.2))
    let trig := ((s.adc.trigs.find? fun y => y.1 == code && soon y.2).map (·.2))
    let alarm := if code < 0x10 ∨ 0x20 ≤ code then none else ((s.alarm (code - 0x10)).insts.map (·.1)).find? soon
    match pend with
    | some d => some (s.stepLen lq, d)
    | none => (trig <|> alarm).map fun d => ((s.step_ lq 0).length, d)

/-- Slices that convert now and still do at `d`. -/
def State.busyAt (s : State) (d : Instant) : Nat :=
  (s.adc.owConvs.filter fun x => decide (d < x.2 + ns 200)).length +
    ((List.range 16).map fun q => match s.round q with
      | some r => if r.convAt.any fun c => decide (d < c + ns 200) then r.slices.length else 0
      | none => 0).sum

/-- Starting `n` entries at `t` leaves the law's steps due within 200 ns the slices they need, each beside the law's step before it (R236). -/
def State.lawRoom (s : State) (q n : Nat) (t : Instant) : Bool :=
  !s.builtin || s.lawSeq q || (s.lawDue t).all fun x =>
    let law := (((s.lawDue t).filter fun y => decide (y.2 ≤ x.2) && decide (x.2 < y.2 + ns 200)).map Prod.fst).sum
    decide (law + n + s.busyAt x.2 ≤ 16)

/-- The pending step that starts first: the head of the order, unless a step that comes before it becomes pending by the instant at which it
could start (R236). -/
def State.headStep (s : State) : Nat → Nat × Instant → Nat × Instant
  | 0, x => x
  | f + 1, x =>
    let due (y : Nat × Instant) : Bool := match s.stepAt (s.stepLen x.1) x.2 with
      | some (t, _) => decide (y.2 ≤ t) || s.lawSeq y.1 && !s.lawRoom x.1 (s.stepLen x.1) t
      | none => true
    match (s.pendingSteps.filter fun y => s.stepBefore y x && due y).foldl (fun m y => match m with
        | none => some y
        | some z => if y.2 < z.2 ∨ (y.2 = z.2 ∧ s.stepBefore y z) then some y else some z) none with
    | some y => State.headStep s f y
    | none => x

/-- The pending step that starts next. -/
def State.firstStep (s : State) : Option (Nat × Instant) :=
  (s.pendingSteps.foldl (fun m y => match m with
    | none => some y
    | some z => if y.2 < z.2 ∨ (y.2 = z.2 ∧ s.stepBefore y z) then some y else some z) none).map (s.headStep 16)

/-- A step samples (R236, R237, R248): its conversions begin, a wait is its delay. -/
def startStep (q : Nat) (p : Instant) (s : State) : State :=
  match s.round q with
  | none => s
  | some r =>
    let l := s.step_ q r.next
    match s.stepAt l.length p with
    | none => s
    | some (t, slices) =>
      if !s.lawRoom q l.length t then s
      else
        let s := s.advance t
        let last := decide (s.seqLen q ≤ r.next + l.length)
        let made := (List.zip l slices).filter fun x => (s.server x.2).isSome
        let convs := made.map fun x => (⟨x.1, q / 2, seqInj q, t, s.server x.2 == some 16, last, true⟩ : Conv)
        let s := s.setRound q (some { next := r.next + l.length, convAt := some t, slices := slices,
                                      left := if last then made.length else 0 })
        let s := s.setAdc { s.adc with convs := s.adc.convs ++ convs, lastStart := t,
                                       lastSamp := made.foldl (fun m x => tabSet none m x.1 (some t)) s.adc.lastSamp }
        let s := if made.length < l.length then
            (s.setFlag (Reg.SQ_STATUS (q / 2)) F.SQ_STATUS_SKIPPED true).setFlag Reg.ADC_STATUS F.ADC_STATUS_DEGRADED true
          else s
        let d := t - gridCeil p
        if d = 0 then s
        else
          let dn := d / ns 1 + (if d % ns 1 = 0 then 0 else s.freeVal 1)
          let s := if d % ns 1 = 0 then s else s.useFree
          let s := (s.bump (Reg.DELAYED_COUNT (q / 2))).setFlag (Reg.SQ_STATUS (q / 2)) F.SQ_STATUS_DELAYED true
          s.setReg (Reg.DELAY_MAX (q / 2)) (max (s.reg (Reg.DELAY_MAX (q / 2))) dn)

/-- The open-wire conversion on a logical slice ends 200 ns after its sampling instant. -/
def endOw (l : Nat) (t : Instant) (s : State) : State :=
  let s := s.advance (t + ns 200)
  handOver l (s.setAdc { s.adc with owConvs := s.adc.owConvs.erase (l, t), freeAt := tabSet 0 s.adc.freeAt l (t + ns 200) })

/-- The conversions of a step end 200 ns after its sampling instant (R231). -/
def endStep (q : Nat) (s : State) : State :=
  match s.round q with
  | none => s
  | some r =>
    match r.convAt with
    | none => s
    | some t =>
      let e := t + ns 200
      let s := s.advance e
      let s := s.setAdc { s.adc with freeAt := r.slices.foldl (fun m l => tabSet 0 m l e) s.adc.freeAt }
      let more := decide (r.next < s.seqLen q) && !s.adc.stopping
      let cut := decide (r.next < s.seqLen q) && s.adc.stopping
      let s := s.setRound q (if cut then none else some { r with convAt := none, slices := [], pendAt := if more then some e else none })
      let s := s.forEach r.slices handOver
      if !more && !cut && r.left == 0 then roundComplete q s else s

/-! ## Results (R228, R229, R238 to R241) -/

/-- The differential voltage in nV as a code, before it is limited (R229). -/
def adcCode (nv : Int) : Int := (nv * 32768 * 2 + 2500000000) / (2 * 2500000000)

/-- A result of a conversion: the voltage at the input, the raw code of the slice. -/
def result (c : Conv) (nv : Int) (raw : Nat) (s : State) : State :=
  let a := c.ain
  let y0 := adcCode nv
  let y := max (-32768) (min 32767 y0)
  let clip := y != y0 || raw % 65536 == 0x7FFF || raw % 65536 == 0x8000
  let win := decide (y < s.sreg 16 (Reg.WIN_LO a)) || decide (s.sreg 16 (Reg.WIN_HI a) < y)
  let rate := s.reg (Reg.RATE_MAX a) != 0 && match tabGet none s.adc.lastRes a with
    | none => false
    | some (t, v) => decide ((s.reg (Reg.RATE_MAX a) : Int) * (c.at_ - t : Nat) < (y - v).natAbs * 1000 * (ns 1 : Nat))
  let open_ := s.regBit Reg.OPEN_MASK a
  let fault := open_ || win || rate || clip
  let tag := (s.word a / 65536 + 1) % 256
  let w := b2n fault * 2 ^ 31 + b2n open_ * 2 ^ 30 + b2n win * 2 ^ 29 + b2n rate * 2 ^ 28 + b2n clip * 2 ^ 26
    + b2n c.spare * 2 ^ 25 + b2n c.inj * 2 ^ 24 + tag * 65536 + sput 16 y
  let st := s.time64At c.at_
  let s := if fault then s.bump (Reg.FAULT_COUNT a) else s
  let s := s.setAdc { s.adc with lastRes := tabSet none s.adc.lastRes a (some (c.at_, y)), staleOld := tabSet none s.adc.staleOld a none }
  let s := s.forEach ((List.range 40).filter fun k => s.laneIsAin k && s.laneSrc k == a) fun k s => flInput k y c.at_ s
  let s := streamPush (40 + c.sq) w s
  let s := (s.setWord a w).setWord (0x40 + a) (st % 2 ^ 32)
  (s.setReg (Reg.RESULT a) w).setReg (Reg.SAMPLE_TIME a) st

/-- The round of a registered result loses one of the results it waits for (R231). -/
def resultCounts (c : Conv) (s : State) : State :=
  let q := 2 * c.sq + b2n c.inj
  match s.round q with
  | some r =>
    if c.last && c.counts then
      let s := s.setRound q (some { r with left := r.left - 1 })
      if r.left ≤ 1 && r.convAt.isNone then roundComplete q s else s
    else s
  | none => s

/-! ## Calibration (R245 to R249) -/

/-- The turn of a slice begins: S16 stands in for a home slice. The slice is calibrated from the instant at which it serves no logical slice:
at once, or when the conversion ends that the change of service waits for (R227, R246). -/
def calBegin (k : Nat) (forced : Bool) (t : Instant) (s : State) : State :=
  let s := s.setAdc { s.adc with cal := some (k, t, forced) }
  if k < 16 then changeServer k 16 s
  else if s.sliceState 16 = sliceStandIn then s
  else (setSlice 16 sliceCal 0x1F s).setFlag (Reg.SLICE_STATUS 16) F.SLICE_STATUS_CAL_WAIT false

/-- No spare is left, or the block is not ready. -/
def State.spareLeft (s : State) : Bool := (List.range 17).all fun k => s.sliceState k != sliceRetired

/-- The rotation begins its next turn. -/
def calNext (t : Instant) (s : State) : State :=
  if s.adc.cal.isSome || s.reg Reg.CAL_EN != 1 || !s.spareLeft || !s.flag Reg.ADC_STATUS F.ADC_STATUS_READY then s
  else calBegin (s.adc.turn % 17) false t s

/-- A slice is retired (R247, R248). -/
def sliceRetire (k : Nat) (s : State) : State :=
  let s := setSlice k sliceRetired 0x1F s
  let s := if k < 16 ∧ s.sliceState 16 ≠ sliceRetired ∧ (s.sliceState 16 = sliceSpare ∨ s.server k = some 16) then
      setSlice 16 sliceStandIn k s else s
  let s := if s.served < 16 then s.setFlag Reg.ADC_STATUS F.ADC_STATUS_DEGRADED true else s
  let s := s.setFlag Reg.ADC_STATUS F.ADC_STATUS_CAL_STOPPED true
  s.note noteSlice [k]

/-- Whether an injected step is pending or converting (R249). -/
def State.injectedWaits (s : State) : Bool :=
  (List.range 8).any fun n => match s.round (2 * n + 1) with
    | some r => r.pendAt.isSome || r.convAt.isSome
    | none => false

/-! ## Enable and shutdown (R254) -/

/-- The block starts its start-up calibration with every slice that is not retired (R245, R247). -/
def adcStart (s : State) : State :=
  let s := s.forEach (List.range 17) fun k s => if s.sliceState k = sliceRetired then s else setSlice k sliceCal 0x1F s
  s.setAdc { s.adc with startAt := some s.now, stopping := false, pendDisable := false, rounds := [], convs := [], freeAt := [],
                        handOver := [], cal := none, turn := 0, lastRes := [], owConvs := [] }

/-- The block starts its shutdown: pending steps, and the later steps of a round whose step converts, are not made, and their rounds end
incomplete; a round whose last step converts or awaits its results completes (R254). -/
def adcShutdown (s : State) : State :=
  let s := s.setFlag Reg.ADC_STATUS F.ADC_STATUS_READY false
  let s := s.forEach (List.range 16) fun q s =>
    match s.round q with
    | none => s
    | some r =>
      if r.pendAt.isNone && decide (s.seqLen q ≤ r.next) then s
      else
        let s := s.sqFlag q F.SQ_STATUS_REG_BUSY F.SQ_STATUS_INJ_BUSY false
        if r.convAt.isSome then s.setRound q (some { r with pendAt := none }) else s.setRound q none
  -- a forced calibration that is cut off waits again (R249)
  let s := match s.adc.cal with
    | some (k, _, true) => s.setFlag (Reg.SLICE_STATUS k) F.SLICE_STATUS_CAL_WAIT true
    | _ => s
  s.setAdc { s.adc with stopping := true, startAt := none, cal := none, ow := [], trigs := [] }

/-- Conversions are in progress, or have results to deliver: the shutdown waits for them (Table 1-7, R254). -/
def State.adcBusy (s : State) : Bool := !s.busySlices.isEmpty || !s.adc.convs.isEmpty

/-- PD5 feeds the acquisition; the block may start. -/
def State.adcPower (s : State) : Bool := s.regBit Reg.PD_ON 5

/-- The shutdown of the slices completes (R30). -/
def adcOff (s : State) : State :=
  let pend := s.flag Reg.ADC_STATUS F.ADC_STATUS_PENDING_ENABLE
  let s := s.setFlag Reg.ADC_STATUS F.ADC_STATUS_PENDING_ENABLE false
  let s := s.forEach (List.range 17) fun k s => if s.sliceState k = sliceRetired then s else setSlice k sliceOff 0x1F s
  let s := s.setAdc { s.adc with stopping := false, rounds := [], owConvs := [] }
  if pend && s.adcPower then adcStart s else s

/-! ## Sigma-delta inputs (R250 to R253) -/

/-- The filter lanes on an SDI. -/
def State.sdiLanes (s : State) (i : Nat) : List Nat := (List.range 40).filter fun k => !s.laneIsAin k && s.laneSrc k == i

/-- STALE and ACTIVE of the SDIs follow their clock pins: an enabled SDI on a pin that is disabled or stale is stale, and so are its lanes
(R252). -/
def sdiRefresh (s : State) : State :=
  s.forEach (List.range 24) fun i s =>
    let en := s.flag (Reg.SDI_CFG i) F.SDI_CFG_EN
    let p := s.sdiPin i
    let s := if !en then (s.setFlag (Reg.SDI_STATUS i) F.SDI_STATUS_STALE false).setFlag (Reg.SDI_STATUS i) F.SDI_STATUS_STUCK false
      else if !s.flag (Reg.SDC_CFG p) F.SDC_CFG_EN || s.flag (Reg.SDC_STATUS p) F.SDC_STATUS_CLK_STALE then
        (s.setFlag (Reg.SDI_STATUS i) F.SDI_STATUS_STALE true).forEach (s.sdiLanes i) flStale
      else s
    s.setFlag (Reg.SDI_STATUS i) F.SDI_STATUS_ACTIVE (en && bit s.adc.sdcGood p && !s.flag (Reg.SDI_STATUS i) F.SDI_STATUS_STALE)

/-- An SDI becomes stale. -/
def sdiStale (i : Nat) (s : State) : State :=
  let s := s.setFlag (Reg.SDI_STATUS i) F.SDI_STATUS_STALE true
  sdiRefresh (s.forEach (s.sdiLanes i) flStale)

/-- An SDI resumes: its lanes restart (R252, R253). -/
def sdiResume (i : Nat) (s : State) : State :=
  let was := s.flag (Reg.SDI_STATUS i) F.SDI_STATUS_STALE
  let s := s.setFlag (Reg.SDI_STATUS i) F.SDI_STATUS_STALE false
  let s := if was then s.bump (Reg.SDI_STALE_COUNT i) else s
  sdiRefresh (s.forEach (s.sdiLanes i) fun k s => if s.laneRuns k && !s.laneThrottled k then flRestart k s else s)

/-- The enabled SDIs on a clock pin. -/
def State.pinSdis (s : State) (p : Nat) : List Nat :=
  (List.range 24).filter fun i => s.flag (Reg.SDI_CFG i) F.SDI_CFG_EN && s.sdiPin i == p

end Sys2Proof.Machine
end

