-- ==== Sys2Proof/Machine/Adc.lean ====
section
/-!
DEFINITION. The commands of the analogue acquisition (08_analogue_acquisition.md).
-/

namespace Sys2Proof.Machine

/-! ## Triggers and rounds -/

/-- ADC_TRIGGER: the oldest trigger that has arisen starts the rounds of the sequences that name its source, or is dropped
or ignored (R232, R233). -/
def execAdcTrigger (s : State) : Host.Outcome State Fault Refusal :=
  match s.adc.trigs with
  | [] => .next s
  | (code, t) :: rest => .next (trigSource code t ((s.setAdc { s.adc with trigs := rest }).advance t))

/-- A software trigger, by SWTRIG or port 0x088 + n, at the periphery tick at which the write registers: 1 regular, 2 injected (R232). -/
def swTrig (n v : Nat) (s : State) : State :=
  if v % 4 = 1 then trigSeq (2 * n) (s.tickCeil s.now) s else if v % 4 = 2 then trigSeq (2 * n + 1) (s.tickCeil s.now) s else s

/-- SWTRIG = 1. -/
def actSwtrigRegular (n : Nat) (s : State) : State × Nat := (swTrig n 1 s, stOK)

def execSwtrigRegular (n : Fin 8) (s : State) : Host.Outcome State Fault Refusal := .next (actSwtrigRegular n s).1

/-- SWTRIG = 2. -/
def actSwtrigInjected (n : Nat) (s : State) : State × Nat := (swTrig n 2 s, stOK)

def execSwtrigInjected (n : Fin 8) (s : State) : Host.Outcome State Fault Refusal := .next (actSwtrigInjected n s).1

/-- STEP_START: the first pending step in the order of R236 samples its inputs once its slices are free. -/
def execStepStart (s : State) : Host.Outcome State Fault Refusal :=
  match s.firstStep with
  | none => .next s
  | some (q, p) => .next (startStep q p s)

/-- The sequence whose conversions end first. -/
def State.firstConv (s : State) : Option Nat :=
  ((List.range 16).filterMap fun q => match s.round q with
    | some r => r.convAt.map fun t => (q, t)
    | none => none).foldl (fun (m : Option (Nat × Instant)) x => match m with
      | none => some x
      | some y => if x.2 < y.2 then some x else some y) none |>.map (·.1)

/-- The sampling instant of the step of a sequence that converts. -/
def State.convAt (s : State) (q : Nat) : Instant :=
  match s.round q with
  | some r => r.convAt.getD 0
  | none => 0

/-- CONVERSION_END: the conversions of the earliest step end (R231), or the open-wire conversion that ends before them. -/
def execConversionEnd (s : State) : Host.Outcome State Fault Refusal :=
  match s.firstConv, s.adc.owConvs with
  | none, [] => .next s
  | some q, [] => .next (endStep q s)
  | none, (l, t) :: _ => .next (endOw l t s)
  | some q, (l, t) :: _ => .next (if t < s.convAt q then endOw l t s else endStep q s)

/-- RESULT_REGISTERED: the oldest conversion of an input yields its result, 200 ns to 280 ns after its sampling instant; `nv` is
the differential voltage in nV, `raw` the slice's raw code (R228, R229, R231, R238 to R241). -/
def execResultRegistered (a : Fin 64) (nv : Int) (raw : BitVec 16) (t : Instant) (s : State) : Host.Outcome State Fault Refusal :=
  match s.adc.convs.find? (fun c => c.ain == a.1) with
  | none => .next s
  | some c =>
    if c.at_ + ns 200 ≤ t ∧ t ≤ c.at_ + ns 280 then
      let s := (s.advance t).setAdc { s.adc with convs := s.adc.convs.erase c }
      .next (result c nv raw.toNat (resultCounts c s))
    else .next s

/-- TRG_CFG.EDGE of a pin selects a direction. -/
def State.trgEdge (s : State) (p : Nat) (rising : Bool) : Bool :=
  let e := s.fld (Reg.TRG_CFG p) F.TRG_CFG_EDGE
  e == 2 || (e == 0 && rising) || (e == 1 && !rising)

/-- The consecutive samples that a change of a pin's filtered state takes after its last change or restart: FILTER of the new level; after
a restart one more that gives the level; where the level is the new one already, FILTER more for the change back, which is no decision where
EDGE does not select it (R234, R255). -/
def State.trgSamples (s : State) (p : Nat) (rising : Bool) : Option Nat :=
  let n := max 1 (s.fld (Reg.TRG_CFG p) F.TRG_CFG_FILTER)
  match (tabGet (none, 0) s.adc.trgFilt p).1 with
  | none => some (n + 1)
  | some b => if b ≠ rising then some n else if s.trgEdge p (!rising) then none else some (2 * n)

/-- The filtered state of a pin may change at an instant: a periphery tick that leaves the samples it takes (R234; log entry 107). -/
def State.trgRun (s : State) (p : Nat) (rising : Bool) (t : Instant) : Bool :=
  match s.trgSamples p rising with
  | some n => s.onTick t && decide (s.tickNo (tabGet (none, 0) s.adc.trgFilt p).2 + n ≤ s.tickNo t)
  | none => false

/-- ADC_TRG_DECISION: the filtered state of a pin changes in a selected direction; it triggers one tick later (R234, R235). -/
def execAdcTrgDecision (p : Fin 4) (rising : Bool) (t : Instant) (s : State) : Host.Outcome State Fault Refusal :=
  if s.flag (Reg.TRG_CFG p) F.TRG_CFG_EN && s.trgEdge p rising && s.trgRun p rising t then
    let s := ((s.advance t).bump (Reg.TRG_COUNT p)).setRegBit Reg.TRG_LOST p false
    let s := s.setAdc { s.adc with trgRef := tabSet 0 s.adc.trgRef p t, trgFilt := tabSet (none, 0) s.adc.trgFilt p (some rising, t) }
    .next (raiseTrig (1 + p) (t + ns 5) s)
  else .next s

/-- TRG_TIMEOUT: TRG_TO has passed without a decision (R235). -/
def execTrgTimeout (p : Fin 4) (t : Instant) (s : State) : Host.Outcome State Fault Refusal :=
  let lim := s.reg (Reg.TRG_TO p)
  if s.flag (Reg.TRG_CFG p) F.TRG_CFG_EN && lim != 0 && decide (tabGet 0 s.adc.trgRef p + us lim ≤ t) then
    .next ((s.advance t).setRegBit Reg.TRG_LOST p true)
  else .next s

/-- TRG_CFG_WRITE: the pin's filter restarts, and TRG_TO runs anew; a disabled pin's TRG_LOST bit is clear (R235, R255). -/
def actTrgCfg (p v : Nat) (s : State) : State × Nat :=
  if !valueOk (Reg.TRG_CFG p) v then (s, stRange)
  else
    let s := s.setReg (Reg.TRG_CFG p) v
    let s := s.setAdc { s.adc with trgRef := tabSet 0 s.adc.trgRef p s.now, trgFilt := tabSet (none, 0) s.adc.trgFilt p (none, s.now) }
    (if fget F.TRG_CFG_EN v = 0 then s.setRegBit Reg.TRG_LOST p false else s, stOK)

def execTrgCfgWrite (p : Fin 4) (v : BitVec 32) (s : State) : Host.Outcome State Fault Refusal := .next (stored (Reg.TRG_CFG p) v.toNat (actTrgCfg p v.toNat s))

/-- INPUT_STALE: STALE_TO has passed since the input's last sampling instant; its word and RESULT show STALE and FAULT, and its
lanes are stale (R240, R267). -/
def execInputStale (a : Fin 64) (t : Instant) (s : State) : Host.Outcome State Fault Refusal :=
  let lim := (tabGet none s.adc.staleOld a).getD (s.reg (Reg.STALE_TO a))
  match tabGet none s.adc.lastSamp a with
  | none => .next s
  | some t0 =>
    if lim ≠ 0 ∧ t0 + us lim ≤ t then
      let s := s.advance t
      let w := setBit (setBit (s.word a) 27 true) 31 true
      let s := s.forEach ((List.range 40).filter fun k => s.laneIsAin k && s.laneSrc k == a.1) flStale
      .next ({ s with words := tabSet (wordReset a) s.words a w }.setReg (Reg.RESULT a) w)
    else .next s

/-! ## Open-wire test (R242, R243) -/

def State.owDur (s : State) : Instant := 3 * us (s.reg Reg.OW_SETTLE) + ns 400

/-- The next instance of a CARRIER alarm that is not yet placed: the first of the wraps to come that DIV and PHASE name (R321). -/
def State.carrierInst (s : State) (n : Nat) : Option Instant :=
  let cfg := s.reg (Reg.TA_CFG n)
  let cg := fget F.TA_CFG_CG cfg
  if !s.alarmOn n cg then none
  else (s.nextWrap cg).map fun w =>
    let div := max 1 (fget F.TA_CFG_DIV cfg)
    let more := (fget F.TA_CFG_PHASE cfg + div - w.1 % div) % div
    (((w.2 + more * s.perDur cg : Nat) : Int) + s.edgeOfs - (ns (s.reg (Reg.TA_ADV n)) : Nat)).toNat

/-- The instant of the next trigger of a source, where the device knows it: a time alarm; a carrier event that waits for its delivery,
or the next one that the carrier will produce (R156). -/
def State.nextTrig (s : State) (code : Nat) : Option Instant :=
  let n := code % 16
  let real (la : Instant) : Instant := ((la : Int) + s.edgeOfs).toNat
  let waits (m : Bool) : Option Instant := (s.pwm.events.find? fun e => e.cg == n && e.isMatch == m).map fun e => real e.at_
  if 0x10 ≤ code ∧ code < 0x20 then ((s.alarm n).insts.head?).map (·.1) <|> s.carrierInst n
  else if 0x20 ≤ code ∧ code < 0x30 then waits false <|> (s.nextWrap n).map fun w => real w.2
  else if 0x30 ≤ code ∧ code < 0x40 then waits true <|> (s.nextMatch n).map real
  else none

/-- The groups allow a test of an input to start at `t` (R243). -/
def State.owAllowed (s : State) (a : Nat) (t : Instant) : Bool :=
  (List.range 16).all fun q =>
    !s.flag (Reg.SQ_CFG (q / 2)) F.SQ_CFG_EN || !(s.seqInputs q).contains a ||
      ((s.round q).isNone && match s.nextTrig (s.seqTrig q) with
        | some x => decide (t + s.owDur ≤ x)
        | none => false)

/-- OW_TEST_START: a test starts where its groups allow it (R242, R243). -/
def execOwTestStart (a : Fin 64) (t : Instant) (s : State) : Host.Outcome State Fault Refusal :=
  if s.fld (Reg.OW_CFG a) F.OW_CFG_ISEL ≠ 0 && (tabGet none s.adc.ow a).isNone && s.flag Reg.ADC_STATUS F.ADC_STATUS_READY && s.owAllowed a t then
    let s := s.advance t
    .next (s.setAdc { s.adc with ow := tabSet none s.adc.ow a (some { at_ := s.now }) })
  else .next s

/-- A logical slice that is free at an instant and served. -/
def State.freeSlice (s : State) (t : Instant) : Option Nat :=
  (List.range 16).find? fun l => !s.busySlices.contains l && decide (s.freeSince l ≤ t) && (s.server l).isSome

/-- OW_PHASE_END: an OW_SETTLE phase ends: a conversion on a free slice and the next phase, or the result (R241, R242); with
no slice free the test is abandoned (R243). `nv` is the voltage in nV at the conversion. -/
def execOwPhaseEnd (a : Fin 64) (nv : Int) (t : Instant) (s : State) : Host.Outcome State Fault Refusal :=
  match tabGet none s.adc.ow a with
  | none => .next s
  | some w =>
    let settle := us (s.reg Reg.OW_SETTLE)
    let due := w.at_ + settle + w.phase * (settle + ns 200)
    if t < due then .next s
    else
      let s := s.advance t
      let set (x : Option OwTest) (s : State) : State := s.setAdc { s.adc with ow := tabSet none s.adc.ow a x }
      let code := max (-32768) (min 32767 (adcCode nv))
      if w.phase = 2 then
        let d := w.code.toNat
        let s := set none ((s.setReg (Reg.OW_DIFF a) d).setRegBit Reg.OPEN_MASK a (decide (s.fld (Reg.OW_CFG a) F.OW_CFG_OW_THRESH < d)))
        let s := if s.regBit Reg.OPEN_MASK a && s.regBit Reg.IST_EN 4 then istFail 4 a s else s
        .next ((s.setAdc { s.adc with owDone := tabSet 0 s.adc.owDone a s.now }).setRegBit Reg.OW_MISSED a false)
      else
        match s.freeSlice s.now with
        | none => .next (set none s)
        | some l =>
          let s := s.setAdc { s.adc with owConvs := s.adc.owConvs ++ [(l, s.now)] }
          .next (set (some { w with phase := w.phase + 1,
                                    code := if w.phase = 0 then code else max 0 (min 65535 (w.code - code))
                                    conv := some (l, s.now) }) s)

/-- OW_PERIOD_EXPIRY: no complete test within OW_PERIOD (R243). -/
def execOwPeriodExpiry (a : Fin 64) (t : Instant) (s : State) : Host.Outcome State Fault Refusal :=
  if s.fld (Reg.OW_CFG a) F.OW_CFG_ISEL ≠ 0 && decide (tabGet 0 s.adc.owDone a + ms (s.reg Reg.OW_PERIOD) ≤ t) then
    .next ((s.advance t).setRegBit Reg.OW_MISSED a true)
  else .next s

/-! ## Calibration -/

/-- An offset in codes and a gain error in ppm pass the limits of R247. -/
def calOk (off : BitVec 16) (gain : BitVec 32) : Bool := decide (off.toInt.natAbs ≤ 256) && decide (gain.toInt.natAbs ≤ 20000)

/-- New coefficients of a slice. -/
def calCoefs (k : Nat) (off : BitVec 16) (gain : BitVec 32) (s : State) : State :=
  ((s.setReg (Reg.SLICE_OFFSET k) off.toNat).setReg (Reg.SLICE_GAIN k) gain.toNat).setReg (Reg.SLICE_CAL_TIME k) s.time64

/-- CAL_STARTUP_COMPLETE: CAL_TIME after its start the start-up calibration ends with the offsets and gain errors it found;
READY is set and the rotation begins; a disable that waited takes effect (R32, R245 to R247). -/
def execCalStartupComplete (offs : List (BitVec 16)) (gains : List (BitVec 32)) (t : Instant) (s : State) :
    Host.Outcome State Fault Refusal :=
  match s.adc.startAt with
  | none => .next s
  | some t0 =>
    if t < t0 + ms (s.reg Reg.CAL_TIME) then .next s
    else
      let s := s.advance t
      let live := (List.range 17).filter fun k => s.sliceState k != sliceRetired
      let s := s.forEach live fun k s =>
        let s := setSlice k (if k = 16 then sliceSpare else sliceHome) (if k = 16 then 0x1F else k) s
        let o := listGet 0#16 offs k
        let g := listGet 0#32 gains k
        if calOk o g then calCoefs k o g s else s
      let s := match (List.range 16).find? fun k => s.sliceState k == sliceRetired with
        | some k => if s.sliceState 16 = sliceRetired then s else setSlice 16 sliceStandIn k s
        | none => s
      let s := s.forEach (live.filter fun k => !calOk (listGet 0#16 offs k) (listGet 0#32 gains k)) sliceRetire
      let s := (s.setAdc { s.adc with startAt := none }).setFlag Reg.ADC_STATUS F.ADC_STATUS_READY true
      if s.adc.pendDisable then .next (adcShutdown (s.setAdc { s.adc with pendDisable := false })) else .next (calNext s.now s)

/-- The requests for forced calibration as CAL_FORCE reads them. -/
def calForceClear (k : Nat) (s : State) : State :=
  (s.setRegBit Reg.CAL_FORCE k false).setFlag (Reg.SLICE_STATUS k) F.SLICE_STATUS_CAL_WAIT false

/-- The drift found in a turn of S16 (R405). -/
def refDrift (ppm : Nat) (s : State) : State :=
  (s.setReg Reg.REF_DRIFT ppm).setFlag Reg.SUP_STATUS F.SUP_STATUS_REF_DRIFT_HIGH (decide (500 < (sget 32 ppm).natAbs))

/-- CAL_TURN_END: a calibration ends CAL_TIME after its slice left service, with the offset and gain error found; the slice returns or is
retired, and the rotation goes on (R246, R247, R249). A turn of S16 compares the reference with the unloaded one (R405). -/
def execCalTurnEnd (off : BitVec 16) (gain : BitVec 32) (ppm : BitVec 32) (t : Instant) (s : State) : Host.Outcome State Fault Refusal :=
  match s.adc.cal with
  | none => .next s
  | some (k, t0, forced) =>
    if s.sliceState k ≠ sliceCal ∨ t < t0 + ms (s.reg Reg.CAL_TIME) then .next s
    else
      let s := calForceClear k ((s.advance t).setAdc { s.adc with cal := none })
      let s := if forced then s else
        let s := if k = 16 then refDrift ppm.toNat (s.bump Reg.ROT_COUNT) else s
        s.setAdc { s.adc with turn := (k + 1) % 17 }
      if calOk off gain then
        let s := calCoefs k off gain s
        let s := if k = 16 then setSlice 16 sliceSpare 0x1F s else changeServer k k s
        .next (calNext s.now s)
      else .next (sliceRetire k s)

/-- CAL_FORCE: the written bits request forced calibrations (R249); refused with no spare left (R247). -/
def actCalForce (mask : Nat) (s : State) : State × Nat :=
  if !s.spareLeft then (s, stState)
  else (s.forEach (bitsOf 17 mask) fun k s =>
    let s := s.setRegBit Reg.CAL_FORCE k true
    if s.adc.cal.any (·.1 == k) then s else s.setFlag (Reg.SLICE_STATUS k) F.SLICE_STATUS_CAL_WAIT true, stOK)

def execCalForce (mask : BitVec 17) (s : State) : Host.Outcome State Fault Refusal := .next (actCalForce mask.toNat s).1

/-- CAL_FORCE_WITHDRAW: no injected step is pending or converting; the lowest requested slice is withdrawn, a calibration of
the rotation is abandoned, but for one of this very slice, which completes the request (R249). -/
def execCalForceWithdraw (t : Instant) (s : State) : Host.Outcome State Fault Refusal :=
  match (List.range 17).find? fun k => s.flag (Reg.SLICE_STATUS k) F.SLICE_STATUS_CAL_WAIT with
  | none => .next s
  | some k =>
    if s.injectedWaits || s.adc.cal.any (·.2.2) || !s.flag Reg.ADC_STATUS F.ADC_STATUS_READY || !s.spareLeft then .next s
    else if s.adc.cal.any (·.1 == k) then .next (s.advance t)
    else
      let s := s.advance t
      let s := match s.adc.cal with
        | some (j, _, _) =>
          let s := s.setAdc { s.adc with cal := none }
          if j < 16 then changeServer j j s else if s.sliceState 16 = sliceCal then setSlice 16 sliceSpare 0x1F s else s
        | none => s
      .next (calBegin k true s.now s)

/-! ## Block enable -/

/-- ADC_ENABLE: ADC_EN = 1 (R30, R32, R245, R254). -/
def actAdcEnable (s : State) : State × Nat :=
  let s := s.setReg Reg.ADC_EN 1
  if s.adc.stopping then (s.setFlag Reg.ADC_STATUS F.ADC_STATUS_PENDING_ENABLE true, stOK)
  else if s.adc.startAt.isSome then (s.setAdc { s.adc with pendDisable := false }, stOK)
  else if s.flag Reg.ADC_STATUS F.ADC_STATUS_READY || !s.adcPower then (s, stOK)
  else (adcStart s, stOK)

def execAdcEnable (s : State) : Host.Outcome State Fault Refusal := .next (storeRws Reg.ADC_EN 1 (actAdcEnable s).1)

/-- ADC_DISABLE: ADC_EN = 0 (R31, R32, R254). -/
def actAdcDisable (s : State) : State × Nat :=
  let s := s.setReg Reg.ADC_EN 0
  if s.adc.stopping then (s.setFlag Reg.ADC_STATUS F.ADC_STATUS_PENDING_ENABLE false, stOK)
  else if s.adc.startAt.isSome then (s.setAdc { s.adc with pendDisable := true }, stOK)
  else if s.flag Reg.ADC_STATUS F.ADC_STATUS_READY then (adcShutdown s, stOK)
  else (s, stOK)

def execAdcDisable (s : State) : Host.Outcome State Fault Refusal := .next (storeRws Reg.ADC_EN 0 (actAdcDisable s).1)

/-- ADC_CLEAR (Table 8-4). -/
def actAdcClear (s : State) : State × Nat :=
  let s := s.forEach (List.range 8) fun n s => [Reg.SQ_OVR_COUNT n, Reg.DELAYED_COUNT n, Reg.DELAY_MAX n].foldl (fun s k => s.setReg k 0) s
  let s := s.forEach (List.range 64) fun a s => s.setReg (Reg.FAULT_COUNT a) 0
  let s := s.forEach (List.range 4) fun p s => s.setReg (Reg.TRG_COUNT p) 0
  (s.setReg Reg.OW_ABORTS 0, stOK)

def execAdcClear (s : State) : Host.Outcome State Fault Refusal := .next (actAdcClear s).1

/-! ## Sigma-delta inputs -/

/-- SDC_CFG_WRITE: the pin's check restarts; its SDIs deliver bits once the resume condition has been met; a disabled pin runs
no check and its SDIs are stale (R252, R255). -/
def actSdcCfg (p v : Nat) (s : State) : State × Nat :=
  if !valueOk (Reg.SDC_CFG p) v then (s, stRange)
  else
    let s := s.setReg (Reg.SDC_CFG p) v
    let s := s.setAdc { s.adc with sdcGood := setBit s.adc.sdcGood p false }
    let s := s.setReg (Reg.SDC_STATUS p) 0
    let s := if fget F.SDC_CFG_EN v = 0 then s.forEach (s.pinSdis p) sdiStale else s
    (sdiRefresh s, stOK)

def execSdcCfgWrite (p : Fin 6) (v : BitVec 32) (s : State) : Host.Outcome State Fault Refusal := .next (stored (Reg.SDC_CFG p) v.toNat (actSdcCfg p v.toNat s))

/-- SDC_FREQ_MEASURE: 256 periods have passed and the frequency measured is `khz` (R250). -/
def execSdcFreqMeasure (p : Fin 6) (khz : BitVec 32) (t : Instant) (s : State) : Host.Outcome State Fault Refusal :=
  if s.flag (Reg.SDC_CFG p) F.SDC_CFG_EN then
    let s := ((s.advance t).setReg (Reg.SDC_FREQ p) khz.toNat).setFlag (Reg.SDC_STATUS p) F.SDC_STATUS_RUNNING true
    let e : Rat := 1600000 / s.sdcPeriod p
    .next (s.setFlag (Reg.SDC_STATUS p) F.SDC_STATUS_CLK_BAD (decide (e * 5 / 100 < (khz.toNat : Rat) - e) || decide (e * 5 / 100 < e - khz.toNat)))
  else .next s

/-- SDC_CLOCK_STALE: no edge for 8 expected periods (R252). -/
def execSdcClockStale (p : Fin 6) (t : Instant) (s : State) : Host.Outcome State Fault Refusal :=
  if s.flag (Reg.SDC_CFG p) F.SDC_CFG_EN && !s.flag (Reg.SDC_STATUS p) F.SDC_STATUS_CLK_STALE then
    let s := (s.advance t).setFlag (Reg.SDC_STATUS p) F.SDC_STATUS_CLK_STALE true
    let s := s.setFlag (Reg.SDC_STATUS p) F.SDC_STATUS_RUNNING false
    let s := s.setAdc { s.adc with sdcGood := setBit s.adc.sdcGood p false }
    .next (s.forEach (s.pinSdis p) sdiStale)
  else .next s

/-- SDC_CLOCK_RESUME: 16 good periods in a row; the pin's SDIs deliver again and their lanes restart, except those that are
stuck (R252, R253). -/
def execSdcClockResume (p : Fin 6) (t : Instant) (s : State) : Host.Outcome State Fault Refusal :=
  if s.flag (Reg.SDC_CFG p) F.SDC_CFG_EN && !bit s.adc.sdcGood p then
    let s := (s.advance t).setFlag (Reg.SDC_STATUS p) F.SDC_STATUS_CLK_STALE false
    let s := s.setFlag (Reg.SDC_STATUS p) F.SDC_STATUS_RUNNING true
    let s := s.setAdc { s.adc with sdcGood := setBit s.adc.sdcGood p true }
    .next (sdiRefresh (s.forEach ((s.pinSdis p).filter fun i => !s.flag (Reg.SDI_STATUS i) F.SDI_STATUS_STUCK) sdiResume))
  else .next s

/-- SDI_STUCK: the data has held one value for STUCK_N periods (R253). -/
def execSdiStuck (i : Fin 24) (t : Instant) (s : State) : Host.Outcome State Fault Refusal :=
  if s.flag (Reg.SDI_CFG i) F.SDI_CFG_EN && bit s.adc.sdcGood (s.sdiPin i) && !s.flag (Reg.SDI_STATUS i) F.SDI_STATUS_STUCK then
    .next (sdiStale i ((s.advance t).setFlag (Reg.SDI_STATUS i) F.SDI_STATUS_STUCK true))
  else .next s

/-- SDI_UNSTUCK: the data changes again while the clock pin is not stale (R253). -/
def execSdiUnstuck (i : Fin 24) (t : Instant) (s : State) : Host.Outcome State Fault Refusal :=
  if s.flag (Reg.SDI_STATUS i) F.SDI_STATUS_STUCK && bit s.adc.sdcGood (s.sdiPin i) then
    .next (sdiResume i ((s.advance t).setFlag (Reg.SDI_STATUS i) F.SDI_STATUS_STUCK false))
  else .next s

end Sys2Proof.Machine
end

