-- ==== Sys2Proof/Machine/ClockOps.lean ====
section
/-!
DEFINITION. The operations of the clocks, the timebase, network time and the time alarms (11_clocks_and_time.md).
-/

namespace Sys2Proof.Machine

def State.setClk (s : State) (c : Clk) : State := { s with clk := c }
def noteStep : Nat := 8

/-! ## PLLs (R300 to R307) -/

/-- STATE of a PLL: 0 off, 1 band search, 2 acquiring, 3 LOCKED, 4 holdover, 5 re-engaging. -/
def State.pll (s : State) (p : Nat) : Nat := s.fld (Reg.PLL_STATUS p) F.PLL_STATUS_STATE
def setPll (p v : Nat) (s : State) : State := s.setFld (Reg.PLL_STATUS p) F.PLL_STATUS_STATE v
def State.clkFlag (s : State) (f : Fld) : Bool := s.flag Reg.CLK_STATUS f

/-- ALL_LOCKED. -/
def allLocked (s : State) : State :=
  s.setFlag Reg.CLK_STATUS F.CLK_STATUS_ALL_LOCKED ((List.range 3).all fun p => s.pll p == 3)

/-- A lock begins: band search (R300). -/
def pllStart (p : Nat) (s : State) : State :=
  allLocked (setPll p 1 (s.setClk { s.clk with lockAt := tabSet 0 s.clk.lockAt p s.now }))

/-- The DCO of a PLL enters holdover (R303). -/
def pllHoldover (p : Nat) (s : State) : State :=
  let s := s.setClk { s.clk with holdAt := tabSet 0 s.clk.holdAt p s.now }
  let s := (setPll p 4 s).setFlag (Reg.PLL_STATUS p) F.PLL_STATUS_LOCK_LOST true
  allLocked ((s.bump Reg.HOLDOVER_COUNT).setReg (Reg.HOLDOVER_MS p) 0)

/-- A PLL loses lock (R303). -/
def pllLose (p : Nat) (s : State) : State :=
  pllHoldover p ((s.setFlag (Reg.PLL_STATUS p) F.PLL_STATUS_LOL_SEEN true).bump (Reg.LOL_COUNT p))

/-- BAND: the six bits of a PLL's core; PLL-C has two (Table 11-3). -/
def bandOf (p v : Nat) : Nat := if p = 2 then v % 64 + v / 256 % 64 * 256 else v % 64

/-- A step of the 16-bit maximal-length shift register with the polynomial x^16 + x^14 + x^13 + x^11 + 1 (R302). -/
def ditherStep (x : Nat) : Nat :=
  x / 2 % 2 ^ 15 + (x + x / 4 + x / 8 + x / 32) % 2 * 2 ^ 15

/-- A number of steps. -/
def ditherRun : Nat → Nat → Nat
  | 0, x => x
  | n + 1, x => ditherRun n (ditherStep x)

/-- The dither registers run: how often the modulator steps the spec does not say, so that by how many steps is free. -/
def ditherMoves (s : State) : State :=
  s.forEach ((List.range 3).filter fun p => s.flag (Reg.PLL_STATUS p) F.PLL_STATUS_DITHER_ON) fun p s =>
    (s.setClk { s.clk with dither := tabSet 0 s.clk.dither p (ditherRun (s.freeVal 16) (tabGet 0 s.clk.dither p)) }).useFree

/-- The RELOCK of PLL-A ends: TIME64 is at PLL-A resolution again with an error of at most 1 ns, which is free (R307). -/
def timeRejoins (s : State) : State :=
  { s with epoch := ((s.epoch : Int) + s.freeVal 33 - 2 ^ 32).emod (2 ^ 96) |>.toNat }.useFree

/-- A PLL becomes LOCKED: a lock of R300 counts, takes the band found, the dither setting and its seed (R302); a re-engagement does not
(R306). -/
def pllLocked (p band : Nat) (s : State) : State :=
  let fresh := s.pll p != 5
  let s := (setPll p 3 s).setFlag (Reg.PLL_STATUS p) F.PLL_STATUS_LOCK_LOST false
  let s := if fresh then
      let s := (s.bump (Reg.LOCK_COUNT p)).setReg (Reg.PLL_BAND p) (bandOf p band)
      let s := s.setFlag (Reg.PLL_STATUS p) F.PLL_STATUS_DITHER_ON (s.reg (Reg.DITHER_EN p) == 1)
      let s := if p = 0 ∧ bit s.clk.relock 0 then timeRejoins s else s
      let left := setBit s.clk.relock p false
      let s := if s.clk.relock ≠ 0 ∧ left = 0 then
          (s.setReg Reg.RELOCK 2).setFlag Reg.CLK_STATUS F.CLK_STATUS_RELOCK_BUSY false
        else s
      s.setClk { s.clk with relock := left, dither := tabSet 0 s.clk.dither p (s.reg (Reg.DITHER_SEED p)) }
    else s
  let s := if p = 1 ∧ fresh then (s.setReg Reg.ALIGN_ERR 0).setFlag Reg.TIME_FLAGS F.TIME_FLAGS_EDGE_ALIGN_ERR false else s
  allLocked s

/-- HOLDOVER_EXCEEDED, which MODE_STATUS.HOLDOVER shows (R305, R92). -/
def setHoldover (b : Bool) (s : State) : State :=
  reportFaults ((s.setFlag Reg.CLK_STATUS F.CLK_STATUS_HOLDOVER_EXCEEDED b).setFlag Reg.MODE_STATUS F.MODE_STATUS_HOLDOVER b)

/-- HOLDOVER_EXCEEDED is set where XIN_LOST is set and a PLL is in holdover (R305). -/
def holdoverNoRef (s : State) : State :=
  if s.clkFlag F.CLK_STATUS_XIN_LOST && (List.range 3).any fun p => s.pll p == 4 then
    setHoldover true s
  else s

/-- HOLDOVER_MS: the length of a holdover in progress, else of the last one (Table 11-3). -/
def State.holdoverMs (s : State) (p : Nat) : Nat :=
  if s.pll p = 4 then (s.now - tabGet 0 s.clk.holdAt p) / ms 1 else s.reg (Reg.HOLDOVER_MS p)

/-- A PLL in holdover re-engages (R306): the length of the holdover stays in HOLDOVER_MS. -/
def pllReengage (p : Nat) (s : State) : State := setPll p 5 (s.setReg (Reg.HOLDOVER_MS p) (s.holdoverMs p))

/-! ## Timebase (R308 to R313) -/

/-- A step of the timebase by `d` units of 2^-32 ns (R310). Instants are counted beside the timebase, so what moves with TIME64
(periodic alarms, deadlines) stays as it is; a SINGLE alarm keeps its TIME64. -/
def stepTime (d : Int) (s : State) : State :=
  let old := s.time64
  let s := { s with epoch := ((s.epoch : Int) + d).emod (2 ^ 96) |>.toNat }
  let s := ((s.setReg Reg.STEP_OLD old).setReg Reg.STEP_NEW s.time64).bump Reg.STEP_COUNT
  let s := s.forEach ((List.range 16).filter fun n => s.fld (Reg.TA_CFG n) F.TA_CFG_MODE == 2) fun n s =>
    s.setAlarm n { s.alarm n with insts := (s.alarm n).insts.map fun i => (((i.1 : Int) - d).toNat, i.2) }
  let s := s.setClk { s.clk with oPrev := none, ofs := none, setReq := none }
  s.note noteStep [old, s.time64]

/-- The single step of R309 is made: Δ from TIME_SET or from PTP. -/
def stepOnce (s : State) : State :=
  let set := s.clk.setReq
  let d : Option Int := match set, s.clk.ofs with
    | some v, _ => some ((v : Int) * 2 ^ 32 - s.ptpAt (s.timeTick s.now))
    | none, some o => some (-o * 65536)
    | none, none => none
  match d with
  | none => s
  | some d =>
    let s := ((stepTime d s).setTf F.TIME_FLAGS_STEPPED true).setTf F.TIME_FLAGS_STEP_DEFERRED false
    let s := if set.isSome then s.setReg Reg.TIME_SET 2 else s
    setTimeState (if s.clk.ofsAt.isSome then 2 else 0) s

/-- ±limit. -/
def clampQ (l x : Rat) : Rat := max (-l) (min l x)

/-- The timebase adds another INC from the present PLL-A tick on: 0.625 ns and `d` steps of 2^-32 ns; every eighth PLL-A tick stays a
periphery tick. -/
def setInc (d : Int) (s : State) : State :=
  let p := s.tickFloor s.now
  let k := (s.now - p) / s.clk.inc
  let inc := (2684354560 + d).toNat
  s.setClk { s.clk with inc := inc, tickAt := p + k * s.clk.inc - k * inc, tickN := s.tickNo p }

/-- The rate correction r (ppb) takes the nearest step of 2^-32 ns per PLL-A tick within ±200 ppm (R308), which RATE shows; how a fraction
is rounded the spec does not say. -/
def setRate (r : Rat) (s : State) : State :=
  let q := s.openRound (r * 2684354560 / 1000000000)
  let d : Int := max (-536870) (min 536870 q.1)
  let r : Rat := (d : Rat) * 1000000000 / 2684354560
  let v := q.2.openRound r
  setInc d ((v.2.setReg Reg.RATE (sput 32 v.1)).setClk { v.2.clk with rate := r })

/-- The servo of R312 for an offset `o` (2^-16 ns) formed at an instant. -/
def servo (o : Int) (at_ : Instant) (s : State) : State :=
  let c := s.clk
  let ons : Rat := (o : Rat) / 65536
  let tau : Rat := match c.ofsAt with
    | some t => ((at_ - t : Nat) : Rat) / (sec 1 : Rat)
    | none => 0
  if !s.tf F.TIME_FLAGS_STEPPED then
    let rf := match c.oPrev with
      | some (p, t) =>
        let d : Rat := ((at_ - t : Nat) : Rat) / (sec 1 : Rat)
        if d = 0 then c.rf else c.rf - (ons - (p : Rat) / 65536) / d
      | none => c.rf
    setRate (clampQ 200000 rf) (s.setClk { c with rf := rf, oPrev := some (o, at_) })
  else
    let tc : Rat := s.reg Reg.SERVO_TC
    let slew : Rat := s.reg Reg.SLEW_RATE
    let p := -2 * ons / tc
    let s := if p < -slew ∨ slew < p then
        let p := if p < 0 then -slew else slew
        setRate (clampQ 200000 (c.rf + p)) (s.setTf F.TIME_FLAGS_SLEWING true)
      else
        let rf := c.rf - ons * tau / (tc * tc)
        setRate (clampQ 200000 (rf + p)) ((s.setTf F.TIME_FLAGS_SLEWING false).setClk { c with rf := rf })
    s.setClk { s.clk with oPrev := some (o, at_) }

/-- LOCKED after 16 offsets within LOCK_TH, TRACKING after 4 beyond it (R313). -/
def lockRuns (o : Int) (s : State) : State :=
  let inside := decide (o.natAbs ≤ s.reg Reg.LOCK_TH * 65536)
  let s := s.setClk { s.clk with lockRun := if inside then s.clk.lockRun + 1 else 0, lossRun := if inside then 0 else s.clk.lossRun + 1 }
  if s.reg Reg.TIME_STATE = 2 ∧ 16 ≤ s.clk.lockRun then setTimeState 3 s
  else if s.reg Reg.TIME_STATE = 3 ∧ 4 ≤ s.clk.lossRun then setTimeState 2 s
  else s

/-- A valid offset (R309, R312, R313). -/
def validOffset (o : Int) (at_ : Instant) (s : State) : State :=
  let s := servo o at_ s
  let s := s.setClk { s.clk with ofs := some o, ofsAt := some at_, ofsNew := none }
  let s := ((s.setTf F.TIME_FLAGS_PTP_VALID true).setTf F.TIME_FLAGS_PTP_LOST false).setReg Reg.OFFSET (sput 32 (satS 32 (o / 65536)))
  if s.tf F.TIME_FLAGS_STEPPED then
    let s := if s.reg Reg.TIME_STATE = 2 ∨ s.reg Reg.TIME_STATE = 3 then s else setTimeState 2 (s.setClk { s.clk with lockRun := 0, lossRun := 0 })
    lockRuns o s
  else stepDeferred s

/-! ## PTP ports (R316 to R319) -/

def State.ptpPort (s : State) (k : Nat) : PtpPort := tabGet {} s.ptp.ports k
def State.setPtpPort (s : State) (k : Nat) (p : PtpPort) : State := { s with ptp := { s.ptp with ports := tabSet {} s.ptp.ports k p } }
/-- portState of IEEE 1588 as PORT_STATE shows it. -/
def State.portState (s : State) (k : Nat) : Nat := s.fld Reg.PORT_STATE ⟨4 * k, 4⟩
def setPortState (k v : Nat) (s : State) : State := s.setFld Reg.PORT_STATE ⟨4 * k, 4⟩ v
def State.ptpRuns (s : State) (k : Nat) : Bool := s.regBit Reg.PTP_PORTS k
/-- The EUI-64 formed from the MAC address of ETH0 (R316). -/
def State.clockId (s : State) : Nat :=
  let m := s.reg (Reg.ETH_MAC 0)
  m / 2 ^ 24 % 2 ^ 24 * 2 ^ 40 + 0xFFFE * 2 ^ 24 + m % 2 ^ 24
/-- TIME64 and FRAC16 of the PLL-A tick of an instant in 2^-16 ns (R319). -/
def State.stamp (s : State) (t : Instant) : Int := (s.ptpAt (s.timeTick t) / 65536 : Nat)

/-- An offset is valid only while its port is SLAVE (R319). -/
def dropOffset (s : State) : State := s.setClk { s.clk with ofs := none, ofsNew := none }

/-- Address, mask, gateway and configuration in effect on a port; the redundant pair has those of ETH0 (R365, R366). -/
def State.ethCfg (s : State) (p i : Nat) : Nat := tabGet 0 s.net.eth (4 * (if s.reg Reg.REDUND ≠ 0 ∧ p < 2 then 0 else p) + i)

/-- The destination of a message: peer delay messages stay on the link (R316). -/
def ptpDst (kind : Nat) : Nat := if kind = 2 ∨ kind = 3 ∨ kind = 10 then 0x0180C200000E else 0x011B19000000

/-- A PTP message is sent: untagged, or with the tag in VLAN; an HSR node inserts its tag (R316, R365). -/
def ptpSend (k kind : Nat) (vals : List Int) (t : Instant) (s : State) : State :=
  let ring := s.reg Reg.REDUND == 2 && decide (k < 2)
  let hdr : PtpHdr := ⟨⟨s.reg Reg.VLAN, if ring then some s.net.redSeq else none⟩, ptpDst kind, 0x88F7, s.reg Reg.DOMAIN⟩
  let s := if ring then { s with net := { s.net with redSeq := (s.net.redSeq + 1) % 65536 } } else s
  s.emit (.ptp k kind hdr vals t)

/-- Every PTP port restarts in LISTENING, or is DISABLED (R317). -/
def ptpRestart (s : State) : State :=
  let s := dropOffset { s with ptp := {} }
  let s := s.forEach (List.range 4) fun k s =>
    if s.ptpRuns k then setPortState k 4 (s.setPtpPort k { since := s.now }) else setPortState k 3 s
  ((s.setReg Reg.SLAVE_PORT 0xFF).setReg Reg.GM_ID 0).setTf F.TIME_FLAGS_SW_STAMP false

/-- One list comes before another. -/
def listLt : List Nat → List Nat → Bool
  | [], [] => false
  | [], _ => true
  | _, [] => false
  | a :: t, b :: u => if a < b then true else if b < a then false else listLt t u

/-- The order of the best master clock algorithm: data set, then steps removed, then sender (log entry 50). -/
def foreignLt (a b : Foreign) : Bool := listLt (a.ds ++ [a.steps, a.src, a.port]) (b.ds ++ [b.steps, b.src, b.port])

/-- The better of a list. -/
def bestForeign (l : List Foreign) : Option Foreign :=
  l.foldl (fun m x => match m with
    | none => some x
    | some y => if foreignLt x y then some x else some y) none

/-- Masters that count: two Announce messages in the last four seconds, none older than ANN_TO seconds. -/
def State.qualified (s : State) : List Foreign :=
  s.ptp.foreign.filter fun f => match f.times with
    | a :: b :: _ => decide (s.now ≤ a + sec (s.reg Reg.ANN_TO)) && decide (a ≤ b + sec 4)
    | _ => false

/-- The device's own data set (R317). -/
def State.ownDs (s : State) : List Nat := [s.reg Reg.PRIORITY1, 248, 0xFE, 0xFFFF, s.reg Reg.PRIORITY2, s.clockId]

/-- meanLinkDelay of a port in ns. -/
def State.pathDelay (s : State) (k : Nat) : Nat := min 4294967295 ((s.ptpPort k).mean / 65536).toNat

/-- A port takes a recommended state; a port that leaves SLAVE, or follows another master, has no valid offset any more. -/
def ptpTake (k : Nat) (v : Nat) (parent : Option Nat) (s : State) : State :=
  let p := s.ptpPort k
  let old := s.portState k
  let stays := decide (v = 9) && decide (p.parent = parent) && (old == 8 || old == 9)
  let s := if old = 9 ∧ !stays then dropOffset s else s
  if v = 9 then
    if stays then s
    else setPortState k 8 (s.setPtpPort k { p with parent := parent, sync := none })
  else setPortState k v (s.setPtpPort k { p with parent := none, sync := none })

/-- The ports take the states that the best master clock algorithm recommends (R317). -/
def ptpDecide (s : State) : State :=
  let q := s.qualified
  let best := bestForeign q
  let canLead (k : Nat) : Bool := s.reg Reg.CLOCK_MODE == 1 && decide (k < 2)
    && decide ((s.ptpPort k).since + sec (s.reg Reg.ANN_TO) ≤ s.now)
  let leads := match best with
    | none => true
    | some b => s.reg Reg.CLOCK_MODE == 1 && listLt s.ownDs b.ds
  let s := s.forEach ((List.range 4).filter s.ptpRuns) fun k s =>
    let own := bestForeign (q.filter (·.port == k))
    match best, own with
    | some b, some o =>
      if leads then ptpTake k (if canLead k then 6 else 7) none s
      else if b.port = k then ptpTake k 9 (some o.src) s
      else ptpTake k (if canLead k ∧ o.ds ≠ b.ds ∧ listLt s.ownDs o.ds then 6 else 7) none s
    | _, _ => ptpTake k (if canLead k then 6 else 4) none s
  let sl := (List.range 4).find? fun k => s.portState k == 8 || s.portState k == 9
  -- PATH_DELAY is that of the slave port (R319)
  let s := match sl with
    | some k => if s.reg Reg.SLAVE_PORT = k then s else s.setReg Reg.PATH_DELAY (s.pathDelay k)
    | none => s
  let s := s.setReg Reg.SLAVE_PORT (sl.getD 0xFF)
  let s := s.setReg Reg.GM_ID (match sl, best with
    | some _, some b => listGet 0 b.ds 5
    | _, _ => 0)
  s.setTf F.TIME_FLAGS_SW_STAMP (sl.any fun k => decide (2 ≤ k))

/-- An Announce message: the sender's record is renewed. -/
def announceIn (k src : Nat) (ds : List Nat) (steps : Nat) (s : State) : State :=
  let old := s.ptp.foreign.find? fun f => f.port == k && f.src == src
  let times := s.now :: ((old.map fun f => f.times.take 1).getD [])
  let rest := s.ptp.foreign.filter fun f => !(f.port == k && f.src == src)
  ptpDecide { s with ptp := { s.ptp with foreign := rest ++ [⟨k, src, ds, steps, times⟩] } }

/-- A Sync with all its corrections: an offset, valid while the port is SLAVE with four delay exchanges (R319). -/
def syncDone (k : Nat) (rx origin corr : Int) (s : State) : State :=
  let p := s.ptpPort k
  if s.portState k = 9 ∧ 4 ≤ p.exchanges then
    let half : Int := 2 ^ 79
    let o := (rx - (origin + corr) - p.mean + half).emod (2 ^ 80) - half
    s.setClk { s.clk with ofsNew := some (o, s.now) }
  else s

/-- A peer delay exchange is complete: meanLinkDelay from its four times and corrections. -/
def exchangeDone (k : Nat) (t1 t4 turn : Int) (s : State) : State :=
  let p := s.ptpPort k
  let mean := (t4 - t1 - turn) / 2
  let s := s.setPtpPort k { p with exchanges := p.exchanges + 1, mean := mean, t1 := none, t4 := none }
  if s.reg Reg.SLAVE_PORT = k then s.setReg Reg.PATH_DELAY (s.pathDelay k) else s

/-- A received message at a port; `rx` is its ingress time (R316 to R319). -/
def ptpIn (k src : Nat) (m : PtpMsg) (rx : Int) (s : State) : State :=
  let p := s.ptpPort k
  let me := s.clockId * 65536 + k + 1
  match m with
  | .announce p1 cls acc var p2 gm steps => announceIn k src [p1, cls, acc, var, p2, gm] steps s
  | .sync seq two origin corr =>
    if p.parent = some src then
      let s := s.bump (Reg.SYNC_RX k)
      let s := if s.portState k = 8 then setPortState k 9 s else s
      if two then s.setPtpPort k { p with sync := some (seq, rx, corr) } else syncDone k rx origin corr (s.setPtpPort k { p with sync := none })
    else s
  | .followUp seq origin corr =>
    match p.sync with
    | some (q, t, c) =>
      if p.parent = some src ∧ q = seq then syncDone k t origin (c + corr) (s.setPtpPort k { p with sync := none }) else s
    | none => s
  | .pdelayReq seq =>
    let s := ptpSend k 3 [me, seq, src, rx] s.now s
    ptpSend k 10 [me, seq, src, s.stamp s.now + s.reg (Reg.TX_LAT k) * 65536] s.now s
  | .pdelayResp seq to_ two receipt corr =>
    match p.t1 with
    | some t1 =>
      if seq ≠ p.seq ∨ to_ ≠ me then s
      else if two then s.setPtpPort k { p with t4 := some rx, t2 := receipt - corr }
      else exchangeDone k t1 rx corr s
    | none => s
  | .pdelayRespFollowUp seq to_ origin corr =>
    match p.t1, p.t4 with
    | some t1, some t4 => if seq ≠ p.seq ∨ to_ ≠ me then s else exchangeDone k t1 t4 (origin + corr - p.t2) s
    | _, _ => s

/-! ## Time alarms (R320 to R323) -/

/-- An alarm value (units of 2^-32 ns of TIME64) as an instant: now plus what it lies ahead. -/
def State.alarmInstant (s : State) (v : Nat) : Instant := s.now + (v - s.ptpAt s.now)

/-- TA_START and TA_PERIOD with their fractions. -/
def State.taStart (s : State) (n : Nat) : Nat := s.reg (Reg.TA_START n) * 2 ^ 32 + s.reg (Reg.TA_START_FRAC n) * 65536
def State.taPeriod (s : State) (n : Nat) : Nat := s.reg (Reg.TA_PERIOD n) * 2 ^ 32 + s.reg (Reg.TA_PERIOD_FRAC n) * 65536

/-- The first instance at enable (R321, R322). -/
def alarmEnable (n : Nat) (s : State) : State :=
  let p := s.ptpAt s.now
  let soon := p + us 1
  match s.fld (Reg.TA_CFG n) F.TA_CFG_MODE with
  | 0 =>
    let b := s.taStart n
    let per := s.taPeriod n
    let v := if soon ≤ b then b else b + (soon - b + per - 1) / per * per
    placeInst n (s.alarmInstant v) false s
  | 2 => placeInst n (if s.taStart n ≤ p then s.now + us 1 else s.alarmInstant (s.taStart n)) false s
  | _ =>
    let cg := s.fld (Reg.TA_CFG n) F.TA_CFG_CG
    let c := tabGet {} s.pwm.carriers cg
    let ph := s.reg (Reg.CG_PH_ACT cg) % (max 1 (s.reg (Reg.CG_PER_ACT cg) * 16)) * sixteenth
    if c.running then (if c.wraps = 0 ∧ s.la < c.wrapAt then alarmFix n 0 c.wrapAt s.now s else s)
    else match c.startAt with
      | some ts => alarmFix n 0 (ts + ph) s.now s
      | none => s

/-- Clearing EN cancels the scheduled instance at once (R320). -/
def alarmDisable (n : Nat) (s : State) : State := s.setAlarm n {}

/-- A write of TA_CFG (R321, R323). -/
def actTaCfg (n v : Nat) (s : State) : State × Nat :=
  let old := s.reg (Reg.TA_CFG n)
  if s.builtin ∧ n < 3 then (s, stState)
  else if !valueOk (Reg.TA_CFG n) v then (s, stRange)
  else if fget F.TA_CFG_EN old = 1 then
    if v = fset F.TA_CFG_EN old 0 then (alarmDisable n (s.setReg (Reg.TA_CFG n) v), stOK) else (s, stState)
  else
    let s := s.setReg (Reg.TA_CFG n) v
    (if fget F.TA_CFG_EN v = 1 then alarmEnable n s else s, stOK)

end Sys2Proof.Machine
end

