-- ==== Sys2Proof/Machine/Pwm.lean ====
section
/-!
DEFINITION. The commands of the PWM generator (06_pwm_generator.md): carriers, channels, shadows, trips and forcing.
-/

namespace Sys2Proof.Machine

/-! ## Carriers -/

/-- CG_START (R153): refused as a whole if a carrier of the mask runs or is owned by the built-in law; otherwise T_s is
START_AT, or LEAD after the first periphery tick at least 1 µs ahead when START_AT is 0 or too near. Wrap 0 is fixed for
the time alarms (R322). -/
def actCgStart (mask : Nat) (s : State) : State × Nat :=
  let l := bitsOf 16 mask
  if l.any (fun n => (s.carrier n).running || (s.builtin && decide (n < 10))) then (s.setReg Reg.CG_START 3, stState)
  else
    let want := s.instantOf (s.reg Reg.START_AT) 0
    let ts := if s.reg Reg.START_AT = 0 ∨ want < s.la + us 1 then s.tickCeil (s.now + us 1) + s.lead else want
    let s := s.forEach l fun n s =>
      let s := s.setCarrier n { s.carrier n with startAt := some ts }
      carrierAlarmFix n 0 (ts + s.reg (Reg.CG_PH_ACT n) % (max 1 (s.per16 n)) * sixteenth) s.now s
    (stepDeferred (s.setReg Reg.CG_START 1), stOK)

def execCgStart (mask : BitVec 16) (s : State) : Host.Outcome State Fault Refusal := .next (actCgStart mask.toNat s).1

/-- The carriers whose start is scheduled for a look-ahead instant. -/
def State.startingAt (s : State) (ts : Instant) : List Nat :=
  (List.range 16).filter fun n => (s.carrier n).startAt == some ts

/-- CG_STOP (R154): refused for carriers owned by the built-in law. -/
def actCgStop (mask : Nat) (s : State) : State × Nat :=
  let l := bitsOf 16 mask
  if s.builtin && l.any (fun n => decide (n < 10)) then (s, stState)
  else (s.forEach l fun n s =>
    if (s.carrier n).running then stopCarrier s.la n s
    else carrierAlarmCancel n (s.setCarrier n { s.carrier n with startAt := none }), stOK)

def execCgStop (mask : BitVec 16) (s : State) : Host.Outcome State Fault Refusal := .next (actCgStop mask.toNat s).1

/-- CG_EVT_MATCH: the count of a running carrier equals CG_EVT; a CG_EVT at or beyond PER produces no event (R156). -/
def execCgEvtMatch (n : Fin 16) (s : State) : Host.Outcome State Fault Refusal :=
  if s.evtAhead n then
    let la := s.evtAt n
    let s := (s.advance (la - s.lead)).setCarrier n { s.carrier n with evtFrom := la + 1 }
    .next { s with pwm := { s.pwm with events := s.pwm.events ++ [⟨n, true, la⟩] } }
  else .next s

/-! ## Channels -/

/-- The delayed edges of a channel's pair that are due, then its requested levels (R157, R171, R173). -/
def matchAt (c : Nat) (s : State) : State := evalPair (c / 2) s.la (duePair (c / 2) s.la s)

/-- COMPARE_MATCH: at an instant at which look-ahead time reaches a compare of the channel, its requested level is evaluated. -/
def execCompareMatch (c : Fin 256) (t : Instant) (s : State) : Host.Outcome State Fault Refusal := .next (matchAt c (s.advance t))

/-- The instant at which a delayed turn-on of a channel is due. -/
def Chan.onAt (x : Chan) : Option Instant := (x.plan.find? (·.2)).map (·.1)

/-- DEAD_TIME_EXPIRY: a turn-on delayed by DT reaches the following stages at its own instant (R169). -/
def execDeadTimeExpiry (c : Fin 256) (s : State) : Host.Outcome State Fault Refusal :=
  match (s.chan c).onAt with
  | some d => .next (duePair (c.1 / 2) d (s.advance (d - s.lead)))
  | none => .next s

/-- What is left of a channel's on-interval at a look-ahead instant, in sixteenths. -/
def State.onLeft (s : State) (c : Nat) (la : Instant) : Nat :=
  let n := s.chCarrier c
  match (s.chan c).plan.find? (!·.2) with
  | some e => (e.1 - la) / sixteenth
  | none => onSpan (s.per16 n) (s.effVal (cmpaPort c)) (s.effVal (cmpbPort c)) (s.countAt n la) (s.offEdge c)

/-- INTERLOCK_RELEASE: the partner has been off for DT and the held turn-on proceeds; an interval of which less than MINON is
left is omitted without carry (R170). -/
def execInterlockRelease (c : Fin 256) (t : Instant) (s : State) : Host.Outcome State Fault Refusal :=
  let s := s.advance t
  let x := s.chan c
  if x.held && s.interlockFree c s.la then
    let s := s.setChan c { x with held := false }
    if s.effVal (modePort c) = 0 && decide (0 < s.minOn c) && decide (s.onLeft c s.la < s.minOn c) then
      .next (dropInterval c (s.setChan c { s.chan c with lvl4 := false, plan := [] }))
    else .next (stage67 c s.la s)
  else .next s

/-! ## LOAD_ALL and the dictionary's shadow writes -/

/-- Whether a value may be written to a shadow port (R155, Table 5-12). -/
def shadowOk (p v : Nat) : Bool :=
  if p < 0x220 then (if p % 2 = 0 then decide (1600 ≤ v) && decide (v ≤ 268435455) else true)
  else if p < 0x500 then true else decide (v ≤ 2)

/-- SW_WRITE (R160): SW_VALUE goes to the shadow port SW_PORT, after every engine write of the tick; refused for shadows of the built-in law (R182). -/
def actSwWrite (s : State) : State × Nat :=
  let p := s.reg Reg.SW_PORT
  let v := s.reg Reg.SW_VALUE
  if !shadowOk p v then (s, stRange)
  else if s.lawPort p then (s, stState)
  else (writeShadow none p v (takePlace 2 16 (s.tickCeil s.now) s), stOK)

def execSwWrite (s : State) : Host.Outcome State Fault Refusal := .next (actSwWrite s).1

/-- SW_LOAD_ALL: refused with bit 0 set while the built-in law is enabled (R182). -/
def actSwLoadAll (mask : Nat) (s : State) : State × Nat :=
  if s.builtin && bit mask 0 then (s, stState) else (loadAllGroups none mask (takePlace 2 16 (s.tickCeil s.now) s), stOK)

def execSwLoadAll (mask : BitVec 8) (s : State) : Host.Outcome State Fault Refusal := .next (actSwLoadAll mask.toNat s).1

/-- PWM_CLEAR zeroes 0x2800:03–06 and PAIR_SHOOT (Table 6-7). -/
def actPwmClear (s : State) : State × Nat :=
  let s := [Reg.SHOOT_COUNT, Reg.CLAMP_COUNT, Reg.DROP_COUNT, Reg.CARRY_LOST].foldl (fun s k => s.setReg k 0) s
  (s.forEach (List.range 128) fun k s => s.setReg (Reg.PAIR_SHOOT k) 0, stOK)

def execPwmClear (s : State) : Host.Outcome State Fault Refusal := .next (actPwmClear s).1

/-! ## Trips -/

def State.retry (s : State) (i : Nat) : Retry := tabGet {} s.pwm.trips i
def State.setRetry (s : State) (i : Nat) (r : Retry) : State :=
  { s with pwm := { s.pwm with trips := tabSet {} s.pwm.trips i r } }

/-- The automatic clears within the TWIN before an instant (R179). -/
def State.triesAt (s : State) (r : Retry) (t : Instant) : Nat :=
  (r.clears.filter fun c => decide (t < c + sec (s.reg Reg.TWIN))).length

/-- The latch check of a decision (R179): NTRY automatic clears within TWIN, or NO_RETRY. -/
def State.latches (s : State) (r : Retry) (t : Instant) (noRetry : Bool) : Bool :=
  noRetry || decide (s.reg Reg.NTRY ≤ s.triesAt r t)

/-- An automatic clear counted in a history; clears older than TWIN are forgotten. -/
def State.countTry (s : State) (r : Retry) (t : Instant) : Retry :=
  { r with clears := t :: r.clears.filter fun c => decide (t < c + sec (s.reg Reg.TWIN)) }

/-- A change of a trip input's filtered state at an instant: the FILTER-th consecutive sample, taken at periphery ticks, after the last
change or restart at the earliest (R176, R181; log entry 13). -/
def State.tripRun (s : State) (i : Nat) (t : Instant) : Bool :=
  s.onTick t && decide (s.tickNo (tabGet 0 s.pwm.tripAt i) + max 1 (s.fld (Reg.TRIP_CFG i) F.TRIP_CFG_FILTER) ≤ s.tickNo t)

/-- The filtered state of a trip input. -/
def tripSee (i : Nat) (b : Bool) (s : State) : State :=
  { s.setRegBit Reg.TRIP_ACTIVE i b with pwm := { s.pwm with tripAt := tabSet 0 s.pwm.tripAt i s.now } }

/-- TRIP_DECISION: the filtered state of a trip input becomes active (R176); of an enabled one the fault is set, may latch (R179), and
forces the mapped channels off (R177). -/
def execTripDecision (i : Fin 32) (t : Instant) (s : State) : Host.Outcome State Fault Refusal :=
  if !s.regBit Reg.TRIP_ACTIVE i && s.tripRun i t then
    let s := tripSee i true (s.advance t)
    if s.flag (Reg.TRIP_CFG i) F.TRIP_CFG_EN then
      let s := (s.bump (Reg.TRIP_COUNT i)).setReg (Reg.TRIP_TIME i) s.time64
      let r := s.retry i
      let s := s.setRetry i { r with decision := s.now }
      let s := s.setRegBit Reg.TRIP_FAULT i true
      let s := if s.latches r s.now (s.flag (Reg.TRIP_CFG i) F.TRIP_CFG_NO_RETRY) then s.setRegBit Reg.TRIP_LATCHED i true else s
      .next (forceOffAll (s.tripChans i) s)
    else .next s
  else .next s

/-- TRIP_INPUT_INACTIVE: the filtered state becomes inactive (R176). -/
def execTripInputInactive (i : Fin 32) (t : Instant) (s : State) : Host.Outcome State Fault Refusal :=
  if s.regBit Reg.TRIP_ACTIVE i && s.tripRun i t then .next (tripSee i false (s.advance t)) else .next s

/-- TRIP_AUTO_CLEAR: an unlatched fault clears TRETRY after its latest decision once the input is inactive, and counts one try
(R179); the forced channels wait for their next requested turn-on (R178). -/
def execTripAutoClear (i : Fin 32) (t : Instant) (s : State) : Host.Outcome State Fault Refusal :=
  let r := s.retry i
  if s.regBit Reg.TRIP_FAULT i && !s.regBit Reg.TRIP_LATCHED i && !s.regBit Reg.TRIP_ACTIVE i
      && decide (r.decision + ms (s.reg Reg.TRETRY) ≤ t) then
    let s := s.advance t
    let s := s.setRetry i (s.countTry r s.now)
    .next ((s.setRegBit Reg.TRIP_FAULT i false).setReg (Reg.TRIP_TRIES i) (min 15 (s.triesAt (s.retry i) s.now)))
  else .next s

/-- TRIP_CLEAR (R180): latched faults of inactive inputs clear and their histories empty; the others read back. -/
def actTripClear (mask : Nat) (s : State) : State × Nat :=
  let keep := maskOf ((bitsOf 32 mask).filter fun i => s.regBit Reg.TRIP_LATCHED i && s.regBit Reg.TRIP_ACTIVE i)
  let s := s.forEach ((bitsOf 32 mask).filter fun i => s.regBit Reg.TRIP_LATCHED i && !s.regBit Reg.TRIP_ACTIVE i) fun i s =>
    let s := (s.setRegBit Reg.TRIP_FAULT i false).setRegBit Reg.TRIP_LATCHED i false
    (s.setRetry i { s.retry i with clears := [] }).setReg (Reg.TRIP_TRIES i) 0
  (s.setReg Reg.TRIP_CLEAR keep, stOK)

def execTripClear (mask : BitVec 32) (s : State) : Host.Outcome State Fault Refusal := .next (actTripClear mask.toNat s).1

/-- TRIP_CFG_WRITE: a write that enables the input or changes FILTER or POL restarts the filter, whose state is then inactive
(R181); a value outside its range is refused (R5). -/
def actTripCfg (i v : Nat) (s : State) : State × Nat :=
  let old := s.reg (Reg.TRIP_CFG i)
  if !valueOk (Reg.TRIP_CFG i) v then (s, stRange)
  else
    let s := s.setReg (Reg.TRIP_CFG i) v
    let en := fget F.TRIP_CFG_EN v = 1 ∧ fget F.TRIP_CFG_EN old = 0
    if en ∨ fget F.TRIP_CFG_FILTER v ≠ fget F.TRIP_CFG_FILTER old ∨ fget F.TRIP_CFG_POL v ≠ fget F.TRIP_CFG_POL old then
      (tripSee i false s, stOK)
    else (s, stOK)

def execTripCfgWrite (i : Fin 32) (v : BitVec 32) (s : State) : Host.Outcome State Fault Refusal :=
  .next (stored (Reg.TRIP_CFG i) v.toNat (actTripCfg i v.toNat s))

/-- FORCE_OFF_WRITE: a written bit forces its channel off, a cleared one ends the forcing (Table 6-5); for the law's channels
in BASECAMP only (R182). -/
def actForceOff (j v : Nat) (s : State) : State × Nat :=
  let old := s.reg (Reg.FORCE_OFF j)
  if s.builtin && decide (j < 3) && s.reg Reg.MODE != 0 then (s, stState)
  else
    let s := s.setReg (Reg.FORCE_OFF j) (v % 2 ^ 32)
    (forceOffAll ((bitsOf 32 (clearMask (v % 2 ^ 32) old)).map (32 * j + ·)) s, stOK)

def execForceOffWrite (j : Fin 8) (v : BitVec 32) (s : State) : Host.Outcome State Fault Refusal :=
  .next (actForceOff j v.toNat s).1

end Sys2Proof.Machine
end

