-- ==== Sys2Proof/Machine/GateOps.lean ====
section
/-!
DEFINITION. The operations of the gate links (07_gate_links_and_drivers.md): lane states, drive codes and the edge trainer,
set-up registers, the downlink frame, and lane faults with their retry policy.
-/

namespace Sys2Proof.Machine

def State.lane (s : State) (k : Nat) : Lane := tabGet {} s.lanes k
def State.setLane (s : State) (k : Nat) (l : Lane) : State := { s with lanes := tabSet {} s.lanes k l }

/-! ## Lane states (Table 7-1) -/
def laneOff : Nat := 0
def laneStarting : Nat := 1
def laneIdle : Nat := 2
def laneLive : Nat := 3
def laneStopping : Nat := 4

def State.laneState (s : State) (k : Nat) : Nat := s.fld (Reg.GL_STATUS k) F.GL_STATUS_STATE

/-- The lane enters a state; LANES_LIVE follows. -/
def setLaneState (k st : Nat) (s : State) : State :=
  (s.setFld (Reg.GL_STATUS k) F.GL_STATUS_STATE st).setRegBit Reg.LANES_LIVE k (st == laneLive)

/-- The trainer profile of a lane. -/
def State.laneProfile (s : State) (k : Nat) : Nat := s.fld (Reg.GL_CFG k) F.GL_CFG_PROFILE

/-! ## Channels, lanes and the law (R34, R449) -/

/-- The channels bound to carriers whose load group LAW_GROUPS names, or EC0–EC95 under the built-in law. -/
def State.lawChannel (s : State) (c : Nat) : Bool :=
  if s.builtin then decide (c < 96) else bit (s.reg Reg.LAW_GROUPS) (s.cgGroup (s.chCarrier c))

/-- A law parameter of the active set (R40). -/
def State.par (s : State) (k : Nat) : Nat := tabGet (objReset k) s.law.active k

/-- Threads in service: bits of THREAD_MASK (L0–L3, then M0–M3). -/
def State.threadIn (s : State) (t : Nat) : Bool := bit (s.par Reg.THREAD_MASK) t

/-- The thread of a law lane under the built-in law (R35): GL0–GL11 line threads, GL12–GL23 machine threads. -/
def laneThread (k : Nat) : Nat := if k < 12 then k / 3 else 4 + (k - 12) / 3

/-- The law lanes: GL0–GL23 under the built-in law, else the enabled lanes with a law channel (R449). -/
def State.lawLane (s : State) (k : Nat) : Bool :=
  if s.builtin then decide (k < 24)
  else s.fld (Reg.GL_CFG k) F.GL_CFG_EN == 1 && (List.range 4).any fun q => s.lawChannel (4 * k + q)

/-- The lanes of the in-service gate units of the law (R186, R449). -/
def State.lawUnits (s : State) : List Nat :=
  (List.range 64).filter fun k => s.lawLane k && (!s.builtin || s.threadIn (laneThread k))

/-! ## Drive codes (R212, R215) -/

/-- Chosen code of a position of a lane (Table 7-15, CODES): `on` for turn-on. -/
def State.code (s : State) (k p : Nat) (on : Bool) : Nat :=
  fget ⟨8 * p + (if on then 4 else 0), 4⟩ (s.reg (Reg.CODES k))

/-- The state with a chosen code set. -/
def setCode (k p : Nat) (on : Bool) (v : Nat) (s : State) : State :=
  s.setFld (Reg.CODES k) ⟨8 * p + (if on then 4 else 0), 4⟩ v

/-- A code clamped to the bounds of the lane's profile. -/
def State.clampCode (s : State) (k v : Nat) : Nat :=
  let p := s.laneProfile k
  max (s.reg (Reg.CODE_MIN p)) (min (s.reg (Reg.CODE_MAX p)) v)

/-- The SET values of a lane in the format of CODES. -/
def State.setCodes (s : State) (k : Nat) : Nat :=
  let p := s.laneProfile k
  let b := s.clampCode k (s.reg (Reg.CODE_ON_SET p)) * 16 + s.clampCode k (s.reg (Reg.CODE_OFF_SET p))
  b * 0x01010101

/-- The codes of a lane return to their SET values. -/
def resetCodes (k : Nat) (s : State) : State := s.setReg (Reg.CODES k) (s.setCodes k)

/-- The trainer of a lane drops its partial sums and freezes (R214). -/
def freezeTrainer (k : Nat) (s : State) : State :=
  (s.setLane k { s.lane k with train := [] }).setFlag (Reg.GL_STATUS k) F.GL_STATUS_TRAIN_FROZEN true

/-- The codes follow the lane's profile and TRAIN_EN (R212): SET values without training, else the codes moved to the
nearest bound (R27). -/
def refreshCodes (k : Nat) (s : State) : State :=
  if s.flag (Reg.GL_CFG k) F.GL_CFG_TRAIN_EN then
    s.forEach (List.range 4) fun p s =>
      setCode k p true (s.clampCode k (s.code k p true)) (setCode k p false (s.clampCode k (s.code k p false)) s)
  else resetCodes k s

/-- One qualifying edge of position `p` reaches the edge trainer (R213). -/
def trainStep (k p : Nat) (on : Bool) (dvdt ovs : Nat) (s : State) : State :=
  let i := 2 * p + b2n on
  let l := s.lane k
  let tr := tabGet {} l.train i
  let tr : Trainer := { n := tr.n + 1, sum := tr.sum + dvdt, ovs := max tr.ovs ovs }
  let s := s.setFlag (Reg.GL_STATUS k) F.GL_STATUS_TRAIN_FROZEN false
  let pr := s.laneProfile k
  if tr.n < s.reg (Reg.TRAIN_N pr) then s.setLane k { l with train := tabSet {} l.train i tr }
  else
    -- DVDT counts 0.25 kV/µs, the target 0.1 kV/µs, TGT_SCALE 0.1 %, BAND 1 %
    let mean2 := tr.sum * 25 * 1000 * 100
    let tgt := (if on then s.reg (Reg.DVDT_ON_TGT pr) else s.reg (Reg.DVDT_OFF_TGT pr)) * 10 * s.reg (Reg.TGT_SCALE k) * tr.n
    let band := s.reg (Reg.TP_BAND pr)
    let old := s.code k p on
    let new : Int :=
      if tr.ovs * 5 > s.reg (Reg.OVS_LIM pr) then (old : Int) - 1
      else if mean2 > tgt * (100 + band) then (old : Int) - 1
      else if mean2 < tgt * (100 - band) then (old : Int) + 1
      else old
    let new := (clampI (s.reg (Reg.CODE_MIN pr)) (s.reg (Reg.CODE_MAX pr)) new).toNat
    let s := s.setLane k { l with train := tabSet {} l.train i {} }
    if new = old then s else (setCode k p on new s).bump (Reg.TRAIN_STEPS k)

/-! ## Set-up registers and accesses (R193, R194) -/

/-- The value written to a set-up register (R194); the law's pairs are legs whatever PAIR_DT says (R182). -/
def State.setupValue (s : State) (k r : Nat) : Nat :=
  let dt (p : Nat) : Nat := s.reg (Reg.PAIR_DT p) % 2 ^ 18 + (if s.isLeg (2 * p) then 2 ^ 31 else 0)
  match r with
  | 1 => dt (2 * k)
  | 2 => dt (2 * k + 1)
  | 3 => s.fld (Reg.GL_CFG k) F.GL_CFG_VON_POS * 256 + s.fld (Reg.GL_CFG k) F.GL_CFG_VON_DLY
  | 4 => s.reg (Reg.IMIN (s.laneProfile k))
  | _ => 0

/-- LANE_READY follows the set-up list and LINK_DELAY (R194). -/
def refreshReady (k : Nat) (s : State) : State :=
  s.setFlag (Reg.GL_STATUS k) F.GL_STATUS_LANE_READY
    (s.laneState k == laneLive && (s.lane k).setup.isEmpty && decide (64 ≤ (s.lane k).tripN))

/-- A source of a set-up register changed: a LIVE lane writes it again (R194). -/
def requestSetup (k r : Nat) (s : State) : State :=
  if s.laneState k = laneLive then
    let l := s.lane k
    refreshReady k (s.setLane k { l with setup := (r, 0) :: l.setup.filter fun x => x.1 != r })
  else s

/-- FAULT_RELEASE for the positions the unit holds (R210, Table 7-6). -/
def sendRelease (k : Nat) (s : State) : State :=
  let l := s.lane k
  let held := (l.held / 16 ||| l.held) % 16
  let s := s.setLane k { l with
    released := true
    waiting := if held = 0 then l.waiting else l.waiting ++ [{ reg := 5, write := true, value := held, kind := .release, at_ := s.now }] }
  s

/-- The lane enters LIVE: its set-up registers are written, GU_ID is read, LINK_DELAY is measured anew (R194, R197); a release that
GL_CLEAR asked for and that is not sent follows (R210). -/
def enterLive (k : Nat) (s : State) : State :=
  let s := setLaneState k laneLive s
  let s := s.setLane k { s.lane k with
    liveAt := s.now, tripN := 0, slot := none, queue := [], offUntil := none, access := none, released := false,
    setup := [(1, 0), (2, 0), (3, 0), (4, 0)],
    waiting := [{ reg := 0, write := false, value := 0, kind := .ident, at_ := s.now }] }
  refreshReady k (if (s.lane k).manual then sendRelease k s else s)

/-- The lane leaves LIVE for another state: no access goes on, a release cut off is sent again once the lane is LIVE (R210), a lane that
is not LIVE raises no lane fault. -/
def leaveLive (k st : Nat) (s : State) : State :=
  let busy := ((s.lane k).access.any (·.kind == .object)) || ((s.lane k).waiting.any (·.kind == .object))
  let s := setLaneState k st s
  let s := s.setLane k { s.lane k with queue := [], slot := none, offUntil := none, access := none, waiting := [], setup := [], released := false }
  let s := if busy then s.setReg Reg.GU_RESULT 4 else s
  refreshReady k s

/-- Every idle enabled lane enters LIVE (Table 7-1); a lane still sending its all-off frames stays LIVE. -/
def lanesLive (s : State) : State :=
  s.forEach (List.range 64) fun k s =>
    if s.laneState k = laneIdle then enterLive k s
    else if s.laneState k = laneLive then s.setLane k { s.lane k with offUntil := none }
    else s

/-- Every LIVE lane sends frames with ALL_OFF = 1 for 4 µs and then the idle pattern (R185). -/
def lanesAllOff (s : State) : State :=
  s.forEach (List.range 64) fun k s =>
    if s.laneState k = laneLive then s.setLane k { s.lane k with offUntil := some (s.now + us 4) } else s

/-- Every LIVE lane returns to the idle pattern (R186). -/
def lanesIdle (s : State) : State :=
  s.forEach (List.range 64) fun k s => if s.laneState k = laneLive then leaveLive k laneIdle s else s

/-- The next access of a lane at an instant: a release first, then a set-up write that is due, then what waits (R193,
R194). -/
def nextAccess (k : Nat) (t : Instant) (s : State) : State :=
  let l := s.lane k
  if l.access.isSome then s
  else
    match l.waiting.find? (·.kind == .release) with
    | some a => s.setLane k { l with access := some { a with at_ := t }, waiting := l.waiting.filter (·.kind != .release) }
    | none =>
      match l.setup.find? (fun x => decide (x.2 ≤ t)) with
      | some (r, _) => s.setLane k { l with access := some ⟨r, true, s.setupValue k r, .setup, t⟩ }
      | none =>
        match l.waiting with
        | a :: rest => s.setLane k { l with access := some { a with at_ := t }, waiting := rest }
        | [] => s

/-! ## Downlink frame (Tables 7-2 to 7-5) -/

/-- An instant in sixteenths of an edge tick of edge-clock time (R314): EDGE_OFS_ACT behind the timebase. -/
def State.edgeClock16 (s : State) (t : Instant) : Int :=
  ((s.ptpAt t : Nat) - s.edgeOfs : Int) / (sixteenth : Nat)

/-- A look-ahead instant in sixteenths of an edge tick: tags carry it without rewriting (R315). -/
def State.tag16 (s : State) (tag : Instant) : Nat := s.ptpAt tag / sixteenth

/-- An event slot (Table 7-4). -/
def State.slotBytes (s : State) (e : Option QEdge) : List Nat :=
  match e with
  | none => [0, 0, 0, 0, 0]
  | some e =>
    beBytes 5 (2 ^ 39 + e.pos % 4 * 2 ^ 37 + b2n e.on * 2 ^ 36 + s.tag16 e.tag / 16 % 2 ^ 24 * 2 ^ 12
      + s.tag16 e.tag % 16 * 2 ^ 8 + e.src % 16 * 16 + e.snk % 16)

/-- ALL_OFF of a lane's frame (R185 to R187, R191). -/
def State.laneAllOff (s : State) (k : Nat) : Bool :=
  s.reg Reg.MODE == 0 || s.arming.isSome || !s.holds || (s.lane k).offUntil.isSome
    || !s.flag (Reg.GL_STATUS k) F.GL_STATUS_LANE_READY || (List.range 4).all fun q => s.forced (4 * k + q)

/-- The management field of a frame that departs at `t` (Table 7-5, R192). -/
def State.mgmt (s : State) (k : Nat) (t : Instant) : List Nat :=
  if s.ptpAt t % us 1 = 0 then
    let v := (s.edgeClock16 t).toNat + ((s.lane k).delay.getD 0) / sixteenth
    beBytes 6 (2 ^ 44 + v / 16 % 2 ^ 40 * 16 + v % 16)
  else
    match (s.lane k).access with
    | none => [0, 0, 0, 0, 0, 0]
    | some a => beBytes 6 ((if a.write then 2 else 3) * 2 ^ 44 + a.reg % 256 * 2 ^ 36 + (if a.write then a.value % 2 ^ 32 else 0))

/-- Insertion in the lane's queue: by look-ahead instant, then turn-off before turn-on, then the lower position (R189). -/
def insertEdge (e : QEdge) : List QEdge → List QEdge
  | [] => [e]
  | x :: t =>
    if e.tag < x.tag || (e.tag == x.tag && ((!e.on && x.on) || (e.on == x.on && decide (e.pos < x.pos)))) then e :: x :: t
    else x :: insertEdge e t

/-! ## Lane faults (R208 to R210) -/

/-- Causes in the bit order of GL_STATUS.CAUSE (Table 7-14). -/
def cDESAT : Nat := 1
def cOC : Nat := 2
def cUPLINK : Nat := 4
def cOVF : Nat := 8
def cGS : Nat := 16
def cFL : Nat := 32
def cOT : Nat := 64

/-- The causes that act under the lane's FAULT_EN mask (Table 7-11). -/
def State.unmasked (s : State) (k c : Nat) : Nat :=
  let cfg := s.reg (Reg.GL_CFG k)
  let off := (if fget F.GL_CFG_FE_GS cfg = 1 then 0 else cGS) + (if fget F.GL_CFG_FE_FL cfg = 1 then 0 else cFL)
    + (if fget F.GL_CFG_FE_OT cfg = 1 then 0 else cOT)
  clearMask c off

/-- The latch check of a lane at an instant (R210, R179). -/
def State.laneLatches (s : State) (k : Nat) : Bool :=
  s.latches (s.lane k).retry s.now (s.flag (Reg.GL_CFG k) F.GL_CFG_NO_RETRY)

/-- The lane fault latches. -/
def latchLane (k : Nat) (s : State) : State :=
  (s.setFlag (Reg.GL_STATUS k) F.GL_STATUS_LATCHED true).setRegBit Reg.LANE_LATCHED k true

/-- The four channels of a lane. -/
def laneChans (k : Nat) : List Nat := [4 * k, 4 * k + 1, 4 * k + 2, 4 * k + 3]

/-- Causes shown on a lane: a decision while none is set (R208), which forces its channels off (R209) and may latch
(R210); a further cause is added. -/
def laneFault (k c : Nat) (s : State) : State :=
  if c = 0 || s.laneState k != laneLive then s
  else if s.regBit Reg.LANE_FAULT k then
    s.setFld (Reg.GL_STATUS k) F.GL_STATUS_CAUSE (s.fld (Reg.GL_STATUS k) F.GL_STATUS_CAUSE ||| c)
  else
    let s := (s.setFlag (Reg.GL_STATUS k) F.GL_STATUS_FAULT true).setFld (Reg.GL_STATUS k) F.GL_STATUS_CAUSE c
    let s := s.setRegBit Reg.LANE_FAULT k true
    let s := s.setLane k { s.lane k with retry := { (s.lane k).retry with decision := s.now }, released := false, manual := false }
    let s := if s.laneLatches k then latchLane k s else s
    forceOffAll (laneChans k) (freezeTrainer k s)

/-- One automatic try counted (R210). -/
def laneTry (k : Nat) (s : State) : State :=
  let s := s.setLane k { s.lane k with retry := s.countTry (s.lane k).retry s.now }
  s.setReg (Reg.FAULT_TRIES k) (min 15 (s.triesAt (s.lane k).retry s.now))

/-- The lane fault clears; its channels wait for their next requested turn-on (R178, R209). -/
def clearLaneFault (k : Nat) (s : State) : State :=
  let manual := (s.lane k).manual
  let s := (s.setFlag (Reg.GL_STATUS k) F.GL_STATUS_FAULT false).setFlag (Reg.GL_STATUS k) F.GL_STATUS_LATCHED false
  let s := (s.setRegBit Reg.LANE_FAULT k false).setRegBit Reg.LANE_LATCHED k false
  let s := s.setLane k { s.lane k with released := false, manual := false }
  if manual then
    let s := s.setLane k { s.lane k with retry := { (s.lane k).retry with clears := [] } }
    (s.setReg (Reg.FAULT_TRIES k) 0).setRegBit Reg.GL_CLEAR k false
  else laneTry k s

/-- A failed release counts a try and makes the latch check; unless it latches, the next comes TRETRY later (R210). -/
def releaseFailed (k : Nat) (s : State) : State :=
  let latched := s.regBit Reg.LANE_LATCHED k
  let s := laneTry k s
  let s := s.setLane k { s.lane k with retry := { (s.lane k).retry with decision := s.now }, released := false, manual := false }
  if !latched && s.laneLatches k then latchLane k s else s

/-! ## Enabling and disabling a lane (Table 7-1, R30 to R32) -/

/-- An enable of a lane: from OFF the transmitter starts if PD7 is on; in STOPPING it is held. -/
def laneEnable (k : Nat) (s : State) : State :=
  let st := s.laneState k
  if st = laneStopping then s.setFlag (Reg.GL_STATUS k) F.GL_STATUS_PENDING_ENABLE true
  else if st = laneStarting then s.setLane k { s.lane k with pendDisable := false }
  else if st = laneOff ∧ s.regBit Reg.PD_ON 7 then
    setLaneState k laneStarting (s.setLane k { s.lane k with pendDisable := false })
  else s

/-- A disable of a lane: while it starts it is held, a lane that stops loses its pending enable. -/
def laneDisable (k : Nat) (s : State) : State :=
  let st := s.laneState k
  if st = laneStopping then s.setFlag (Reg.GL_STATUS k) F.GL_STATUS_PENDING_ENABLE false
  else if st = laneStarting then s.setLane k { s.lane k with pendDisable := true }
  else if st = laneIdle ∨ st = laneLive then leaveLive k laneStopping s
  else s

/-- The shutdown of a lane completes. -/
def laneOffDone (k : Nat) (s : State) : State :=
  if s.laneState k = laneStopping then
    let pend := s.flag (Reg.GL_STATUS k) F.GL_STATUS_PENDING_ENABLE
    let s := setLaneState k laneOff (s.setFlag (Reg.GL_STATUS k) F.GL_STATUS_PENDING_ENABLE false)
    if pend then laneEnable k s else s
  else s

/-- The start of a lane completes: a pending disable stops it again; it is LIVE where the mode or an ARMED command in execution
asks for frames, else IDLE. -/
def laneStarted (k : Nat) (s : State) : State :=
  if s.laneState k = laneStarting then
    if (s.lane k).pendDisable then leaveLive k laneStopping (s.setLane k { s.lane k with pendDisable := false })
    else if s.reg Reg.MODE != 0 || s.arming.isSome then enterLive k s
    else setLaneState k laneIdle s
  else s

/-- A lane's enable bit is set or cleared by the law or by a write. -/
def laneSetEn (k : Nat) (on : Bool) (s : State) : State :=
  let s := s.setFlag (Reg.GL_CFG k) F.GL_CFG_EN on
  if on then laneEnable k s else laneDisable k s

end Sys2Proof.Machine
end

