-- ==== Sys2Proof/Machine/DriverOps.lean ====
section
/-!
DEFINITION. The operations of the local drivers LD0–LD7 and the static switch drivers SD0–SD3 (07_gate_links_and_drivers.md,
R217 to R225).
-/

namespace Sys2Proof.Machine

def State.ld (s : State) (n : Nat) : Ldrv := tabGet {} s.lds n
def State.setLd (s : State) (n : Nat) (d : Ldrv) : State := { s with lds := tabSet {} s.lds n d }
def State.sd (s : State) (n : Nat) : Sdrv := tabGet {} s.sds n
def State.setSd (s : State) (n : Nat) (d : Sdrv) : State := { s with sds := tabSet {} s.sds n d }

/-! ## Local drivers -/

/-- LD_DT as a duration. -/
def State.ldDt (s : State) (n : Nat) : Instant := s.reg (Reg.LD_DT n) * sixteenth

/-- VDRV − REF_TH in mV. -/
def State.ldRefresh (s : State) (n : Nat) : Nat := s.reg Reg.VDRV - s.reg (Reg.REF_TH n) * 100

/-- The level that LD_CFG.MODE asks of the high side (R218). -/
def State.ldLevel (s : State) (n : Nat) : Bool :=
  match s.fld (Reg.LD_CFG n) F.LD_CFG_MODE with
  | 0 => (s.ld n).level
  | 1 => true
  | _ => false

/-- What both sides are commanded to (R218, R220, R222, R224, R225): high side, low side. -/
def State.ldWant (s : State) (n : Nat) : Bool × Bool :=
  let st := s.reg (Reg.LD_STATUS n)
  if !(s.ld n).run || fget F.LD_STATUS_VDRV_UV st = 1 || fget F.LD_STATUS_LATCHED st = 1 then (false, false)
  else if fget F.LD_STATUS_BST_WAIT st = 1 then (false, true)
  else
    let h := s.ldLevel n
    (h && fget F.LD_STATUS_BSTUV st = 0, !h)

/-- A side turns on at an instant, delayed by LD_DT and held while the other side is on or has been off for less than
LD_DT (R219); whether it was held is the second part. -/
def ldOn (x other : Side) (dt t : Instant) : Side × Bool :=
  if x.on then (x, false)
  else if !other.on && other.at_ + dt ≤ t + dt then ({ on := true, at_ := t + dt }, false)
  else ({ on := true, at_ := max (t + dt) (other.at_ + dt) }, true)

/-- The low side at an instant: in a refresh it is on for TREF, LD_DT after the high side has turned off (R221). -/
def State.ldLow (s : State) (n : Nat) (t : Instant) : Side :=
  let d := s.ld n
  match d.refreshAt with
  | some r =>
    let on := r + s.ldDt n
    if t < on then { on := false, at_ := d.lowOff } else if t < on + ns (s.reg (Reg.TREF n)) then { on := true, at_ := on } else d.low
  | none => d.low

/-- The high side at an instant: a refresh turns it off, and on again after its end. -/
def State.ldHigh (s : State) (n : Nat) (t : Instant) : Side :=
  let d := s.ld n
  match d.refreshAt with
  | some r => if t < d.high.at_ then { on := false, at_ := r } else d.high
  | none => d.high

/-- Both sides follow what they are commanded to at an instant; turn-offs act at once (R218, R219). A refresh in progress goes on while
the high side stays commanded on, and else ends as it stands. -/
def ldApply (n : Nat) (t : Instant) (s : State) : State :=
  let w := s.ldWant n
  let d := s.ld n
  let dt := s.ldDt n
  let hi0 := if w.1 then d.high else s.ldHigh n t
  let lo0 := if w.1 then d.low else s.ldLow n t
  let hi : Side := if hi0.on && !w.1 then { on := false, at_ := t } else hi0
  let lo : Side := if lo0.on && !w.2 then { on := false, at_ := t } else lo0
  let h := if w.1 then ldOn hi lo dt t else (hi, false)
  let l := if w.2 then ldOn lo h.1 dt t else (lo, false)
  let s := s.setLd n { d with high := h.1, low := l.1, refreshAt := if w.1 then d.refreshAt else none }
  if h.2 || l.2 then s.setFlag (Reg.LD_STATUS n) F.LD_STATUS_SHOOT true else s

/-- An edge whose look-ahead instant TIME64 has not reached (R218, R315). -/
def State.ahead (s : State) (e : EdgeEv) : Bool := decide ((s.now : Int) < e.tag + s.edgeOfs)

/-- The followed channel of a driver as it stands in real time, and its edges on their way to the driver (R218). -/
def followTake (n : Nat) (s : State) : State :=
  let c := s.fld (Reg.LD_CFG n) F.LD_CFG_SRC
  let mine (e : EdgeEv) : Bool := e.ch == c && s.ahead e
  let level := match (s.pwm.sent ++ s.pwm.edges).find? mine with
    | some e => !e.on
    | none => (s.chan c).out
  s.setLd n { s.ld n with level := level, edges := s.pwm.sent.filter mine }

/-- A change of MODE or SRC takes effect at once (R218). -/
def ldModeTake (n : Nat) (s : State) : State := ldApply n s.now (followTake n s)

/-- The start sequence of R220 at an instant: a mode with the high side waits for the bootstrap capacitor. -/
def ldStart (n : Nat) (t : Instant) (s : State) : State :=
  let wait := s.fld (Reg.LD_CFG n) F.LD_CFG_MODE != 2 && !s.flag (Reg.LD_STATUS n) F.LD_STATUS_VDRV_UV
  let s := followTake n (s.setLd n { s.ld n with run := true, waitAt := t })
  ldApply n t (s.setFlag (Reg.LD_STATUS n) F.LD_STATUS_BST_WAIT wait)

/-- Whether the drivers' power domain is on and this driver may run in the present mode (Table 3-1, R64). -/
def State.ldAllowed (s : State) (n : Nat) : Bool :=
  s.regBit Reg.PD_ON 10 && (s.reg Reg.MODE != 0 || s.lbit Reg.KEEP_LD n)

/-- The driver starts its shutdown: both sides off (Table 1-7). -/
def ldShutdown (n : Nat) (s : State) : State :=
  if (s.ld n).run then
    let s := s.setLd n { s.ld n with run := false, stopping := true, pendDisable := false, refreshAt := none }
    ldApply n s.now (s.setFlag (Reg.LD_STATUS n) F.LD_STATUS_BST_WAIT false)
  else s

/-- An enable of a driver (R30, R32). -/
def ldEnable (n : Nat) (s : State) : State :=
  let d := s.ld n
  if d.stopping then s.setFlag (Reg.LD_STATUS n) F.LD_STATUS_PENDING_ENABLE true
  else if d.run then s.setLd n { d with pendDisable := false }
  else if s.ldAllowed n && !s.flag (Reg.LD_STATUS n) F.LD_STATUS_LATCHED then ldStart n s.now s
  else s

/-- A disable of a driver (R31, R32): in the start sequence it is held. -/
def ldDisable (n : Nat) (s : State) : State :=
  let d := s.ld n
  if d.stopping then s.setFlag (Reg.LD_STATUS n) F.LD_STATUS_PENDING_ENABLE false
  else if d.run && s.flag (Reg.LD_STATUS n) F.LD_STATUS_BST_WAIT then s.setLd n { d with pendDisable := true }
  else ldShutdown n s

/-- DRV_LATCHED follows a driver's latched fault; the driver turns off (R224). -/
def ldLatch (n : Nat) (s : State) : State :=
  ldApply n s.now ((s.setFlag (Reg.LD_STATUS n) F.LD_STATUS_LATCHED true).setRegBit Reg.DRV_LATCHED n true)

/-- A start sequence has succeeded (R222, R224): a BSTUV being retried clears with one try. -/
def ldSuccess (n : Nat) (s : State) : State :=
  let s := s.setFlag (Reg.LD_STATUS n) F.LD_STATUS_BST_WAIT false
  if s.flag (Reg.LD_STATUS n) F.LD_STATUS_BSTUV then
    (s.setLd n { s.ld n with retry := s.countTry (s.ld n).retry s.now }).setFlag (Reg.LD_STATUS n) F.LD_STATUS_BSTUV false
  else s

/-- A decision of BSTUV with its latch check (R222, R224). -/
def ldBstuv (n : Nat) (s : State) : State :=
  let s := s.setFlag (Reg.LD_STATUS n) F.LD_STATUS_BSTUV true
  let r : Retry := { (s.ld n).retry with decision := s.now }
  let s := s.setLd n { s.ld n with retry := r, refreshAt := none }
  let s := ldApply n s.now (s.setFlag (Reg.LD_STATUS n) F.LD_STATUS_BST_WAIT false)
  if s.latches r s.now (s.flag (Reg.LD_CFG n) F.LD_CFG_NO_RETRY) then ldLatch n s else s

/-! ## Static switch drivers -/

/-- The output is on while ON = 1 and CP_OK = 1 (R223). -/
def sdApply (n : Nat) (s : State) : State :=
  let st := s.reg (Reg.SD_STATUS n)
  s.setFlag (Reg.SD_STATUS n) F.SD_STATUS_OUT_ON
    ((s.sd n).run && s.flag (Reg.SD_CFG n) F.SD_CFG_ON && fget F.SD_STATUS_CP_OK st == 1
      && fget F.SD_STATUS_VDRV_UV st == 0 && fget F.SD_STATUS_LATCHED st == 0)

def State.sdAllowed (s : State) (n : Nat) : Bool :=
  s.regBit Reg.PD_ON 10 && (s.reg Reg.MODE != 0 || s.lbit Reg.KEEP_SD n)

/-- The charge pump starts (R223). -/
def sdStart (n : Nat) (s : State) : State :=
  sdApply n (s.setSd n { s.sd n with run := true, pump := !s.flag (Reg.SD_STATUS n) F.SD_STATUS_VDRV_UV })

def sdShutdown (n : Nat) (s : State) : State :=
  if (s.sd n).run then
    let s := s.setSd n { s.sd n with run := false, stopping := true, pump := false, pendDisable := false }
    sdApply n (s.setFlag (Reg.SD_STATUS n) F.SD_STATUS_CP_OK false)
  else s

/-- An enable of a static switch driver (R30, R32). -/
def sdEnable (n : Nat) (s : State) : State :=
  let d := s.sd n
  if d.stopping then s.setFlag (Reg.SD_STATUS n) F.SD_STATUS_PENDING_ENABLE true
  else if d.run then s.setSd n { d with pendDisable := false }
  else if s.sdAllowed n && !s.flag (Reg.SD_STATUS n) F.SD_STATUS_LATCHED then sdStart n s
  else s

/-- A disable of a static switch driver (R31, R32): while the pump starts it is held. -/
def sdDisable (n : Nat) (s : State) : State :=
  let d := s.sd n
  if d.stopping then s.setFlag (Reg.SD_STATUS n) F.SD_STATUS_PENDING_ENABLE false
  else if d.run && d.pump && !s.flag (Reg.SD_STATUS n) F.SD_STATUS_CP_OK then s.setSd n { d with pendDisable := true }
  else sdShutdown n s

/-! ## All drivers -/

/-- R64: drivers not kept in BASECAMP start their shutdown. -/
def driversBasecamp (s : State) : State :=
  let s := s.forEach (List.range 8) fun n s => if s.lbit Reg.KEEP_LD n then s else ldShutdown n s
  s.forEach (List.range 4) fun n s => if s.lbit Reg.KEEP_SD n then s else sdShutdown n s

/-- Drivers whose EN is 1 and that may run in the present mode start (R64, R418 step 9). -/
def driversStart (s : State) : State :=
  let s := s.forEach (List.range 8) fun n s => if s.flag (Reg.LD_CFG n) F.LD_CFG_EN then ldEnable n s else s
  s.forEach (List.range 4) fun n s => if s.flag (Reg.SD_CFG n) F.SD_CFG_EN then sdEnable n s else s

/-- VDRV in range or not: every driver turns both sides off, or each enabled driver without a latched fault restarts (R224, R225). -/
def driversUv (uv : Bool) (s : State) : State :=
  let s := s.forEach (List.range 8) fun n s =>
    let s := s.setFlag (Reg.LD_STATUS n) F.LD_STATUS_VDRV_UV uv
    if uv then ldApply n s.now (s.setFlag (Reg.LD_STATUS n) F.LD_STATUS_BST_WAIT false)
    else if (s.ld n).run && !s.flag (Reg.LD_STATUS n) F.LD_STATUS_LATCHED then ldStart n s.now s else s
  s.forEach (List.range 4) fun n s =>
    let s := s.setFlag (Reg.SD_STATUS n) F.SD_STATUS_VDRV_UV uv
    if uv then sdApply n ((s.setSd n { s.sd n with pump := false }).setFlag (Reg.SD_STATUS n) F.SD_STATUS_CP_OK false)
    else if (s.sd n).run && !s.flag (Reg.SD_STATUS n) F.SD_STATUS_LATCHED then sdStart n s else s

end Sys2Proof.Machine
end

