-- ==== Sys2Proof/Machine/LawRun.lean ====
section
/-!
DEFINITION. The start and the stop of the built-in law's resources with the mode (02, R33 to R35; 03, R62, Table 3-1): in BASECAMP the
law is stopped and TA1 alone marks the outer-cycle starts. Log entry 60 lists the choices of configuration.
-/

namespace Sys2Proof.Machine

/-- PER of a frequency in edge ticks (R35). The spec does not say how a period that is no whole number of ticks is rounded; the model floors it
(DESIGN CHOICE, log entry 58). -/
def perTicks (f : Nat) : Nat := 1600000000 / max 1 f

/-- PER and PH in sixteenths of the law's carrier `n` (R35); a PH that is no whole number of sixteenths is floored (DESIGN CHOICE, log
entry 58). -/
def State.lawCarrier (s : State) (n : Nat) : Nat × Nat :=
  if n = 0 then (perTicks (s.par Reg.INNER_RATE), 0)
  else
    let per := perTicks (s.par Reg.CARRIER_FREQ)
    if n < 2 then (per, 0)
    else
      let t := n - 2
      let side := t / 4
      let n := ((List.range 4).filter fun i => s.threadIn (4 * side + i)).length
      (per, if s.par Reg.INTERLEAVE = 1 ∧ 0 < n then t % 4 * per * 16 / n % (per * 16) else 0)

/-- A carrier of the law at its PER and PH, stopped. -/
def lawCarrierSet (n : Nat) (s : State) : State :=
  let s := if (s.carrier n).running then stopCarrier s.la n s
    else carrierAlarmCancel n (s.setCarrier n { s.carrier n with startAt := none })
  let v := s.lawCarrier n
  let s := (s.setReg (Reg.CG_PER_ACT n) v.1).setReg (Reg.CG_PH_ACT n) v.2
  s.forEach (s.chansOf n) clampCompares

/-- TA1 marks the outer-cycle starts at OUTER_RATE without a carrier. -/
def outerPeriodic (s : State) : State :=
  let rate := max 1 (s.par Reg.OUTER_RATE)
  let s := alarmDisable 1 s
  let s := (s.setReg (Reg.TA_PERIOD 1) (1000000000 / rate)).setReg (Reg.TA_PERIOD_FRAC 1) (1000000000 % rate * 65536 / rate)
  let s := (s.setReg (Reg.TA_START 1) (s.time64 + 1001)).setReg (Reg.TA_START_FRAC 1) 0
  alarmEnable 1 (s.setReg (Reg.TA_CFG 1) (fset F.TA_CFG_EN (fset F.TA_CFG_DIV 0 1) 1))

/-- The law stops: no carrier of it runs, no engine cycle of it starts, its rounds end. -/
def lawStop (s : State) : State :=
  let s := s.forEach (List.range 10) lawCarrierSet
  let s := s.forEach [0, 2] fun n s => (alarmDisable n s).setFld (Reg.TA_CFG n) F.TA_CFG_EN 0
  let s := s.forEach [0, 1] fun q s => s.setFld (Reg.SQ_CFG q) F.SQ_CFG_EN 0
  let s := s.forEach (List.range 8) fun e s =>
    (s.setEngine e { s.engine e with stopping := (s.engine e).inCycle, pendEnable := false }).setReg (Reg.ENABLE e) 0
  outerPeriodic { s with law := { s.law with innerDue := [], missed := [] } }

/-- The law's carriers start together; a device that has started some of them to wrap with those of the active device (R375) keeps these. -/
def lawCarriersStart (s : State) : State :=
  let l := (List.range 10).filter fun n => s.holds || !((s.carrier n).running || (s.carrier n).startAt.isSome)
  let s := s.forEach (List.range 3) fun n s => (alarmDisable n s).setFld (Reg.TA_CFG n) F.TA_CFG_EN 0
  let s := s.forEach l lawCarrierSet
  let ts := s.tickCeil (s.now + us 1) + s.lead
  -- wrap 0 of each, which starts at count (-PH) mod PER, is fixed for the time alarms on it (R321, R322)
  stepDeferred (s.forEach l fun n s =>
    carrierAlarmFix n 0 (ts + s.reg (Reg.CG_PH_ACT n) % (max 1 (s.per16 n)) * sixteenth) s.now
      (s.setCarrier n { s.carrier n with startAt := some ts }))

/-- TA0 to TA2 follow CG0. -/
def lawAlarms (s : State) : State :=
  let adv := 1000 + s.reg Reg.LEAD
  let div := s.par Reg.INNER_RATE / max 1 (s.par Reg.OUTER_RATE)
  let ta (d : Nat) : Nat := fset F.TA_CFG_EN (fset F.TA_CFG_MODE (fset F.TA_CFG_DIV 0 d) 1) 1
  let s := ((s.setReg (Reg.TA_ADV 0) adv).setReg (Reg.TA_ADV 1) adv).setReg (Reg.TA_ADV 2) (adv + 200)
  let s := ((s.setReg (Reg.TA_CFG 0) (ta 1)).setReg (Reg.TA_CFG 1) (ta div)).setReg (Reg.TA_CFG 2) (ta 1)
  alarmEnable 2 (alarmEnable 1 (alarmEnable 0 s))

/-- The law's engines are enabled. -/
def lawEngines (s : State) : State :=
  s.forEach (List.range 8) fun e s =>
    let x := s.engine e
    if x.stopping then s.setEngine e { x with pendEnable := true }
    else engEnabled e s

/-- The law starts: its carriers start together, TA0 to TA2 follow CG0, its rounds and engines are enabled. -/
def lawStart (s : State) : State :=
  let s := lawAlarms (lawCarriersStart s)
  lawEngines (s.forEach [0, 1] fun q s => s.setFld (Reg.SQ_CFG q) F.SQ_CFG_EN 1)

end Sys2Proof.Machine
end

