-- ==== Sys2Proof/Machine/LawBase.lean ====
section
/-!
DEFINITION. What the modes and the law share (02_grid_forming_law.md, 03_ride_through_and_modes.md): mode codes, the staged and the active
law parameters with their per-unit readings, and the chosen values with their ramps.
-/

namespace Sys2Proof.Machine

/-! ## Mode codes (Table 3-1) -/
def mBASECAMP : Nat := 0
def mARMED : Nat := 1
def mFORM : Nat := 2
def mLIMIT : Nat := 3
def mSTART : Nat := 4
def mSYNC : Nat := 5
def mHOLD : Nat := 6

def State.mode (s : State) : Nat := s.reg Reg.MODE
def State.setLaw (s : State) (l : Law) : State := { s with law := l }
def State.setCad (s : State) (c : Cad) : State := { s with cad := c }
/-- FORM, LIMIT, START or SYNC. -/
def State.switching (s : State) : Bool := decide (2 ≤ s.mode) && decide (s.mode ≤ 5)
def State.setMs (s : State) (f : Fld) (b : Bool) : State := s.setFlag Reg.MODE_STATUS f b
def State.ms (s : State) (f : Fld) : Bool := s.flag Reg.MODE_STATUS f
def State.setLs (s : State) (f : Fld) (b : Bool) : State := s.setFlag Reg.LAW_STATUS f b
def State.ls (s : State) (f : Fld) : Bool := s.flag Reg.LAW_STATUS f
/-- The PLL holdover bound is exceeded (R305). -/
def State.holdover (s : State) : Bool := s.flag Reg.CLK_STATUS F.CLK_STATUS_HOLDOVER_EXCEEDED

/-! ## The active law parameters (R40) -/

/-- The objects with a staged and an active copy: RWS objects in 0x3010–0x30DF and 0x3300–0x3301. -/
def isLawParam (k : Nat) : Bool :=
  let i := k / 256
  (decide (0x3010 ≤ i ∧ i ≤ 0x30DF) || i == 0x3300 || i == 0x3301) &&
    match objFind i (k % 256) with
    | some o => o.acc == .rws
    | none => false

/-- The staged set, as what differs from the Default column. -/
def State.stagedSet (s : State) : Tab Nat := s.regs.filter fun e => isLawParam e.1

/-- STAGED_DIFFERS (R40). -/
def refreshStaged (s : State) : State := s.setLs F.LAW_STATUS_STAGED_DIFFERS (s.stagedSet != s.law.active)

/-! ## Readings -/

/-- The nearest whole number. -/
def roundR (x : Rat) : Int := (x + 1 / 2).floor
/-- A rational clamped between two bounds. -/
def clampR (lo hi x : Rat) : Rat := max lo (min hi x)
def absR (x : Rat) : Rat := if x < 0 then -x else x

/-- The code of a pu value in a Q15 object (R6), and in a Q31 object; saturated. -/
def q15Code (x : Rat) : Nat := sput 16 (satS 16 (roundR (x * 16384)))
def q31Code (x : Rat) : Nat := sput 32 (satS 32 (roundR (x * 1073741824)))

/-- A Q15 or Q31 pu parameter of the active set; a register of the same kind. -/
def State.q15 (s : State) (k : Nat) : Rat := (sget 16 (s.par k) : Rat) / 16384
def State.q31 (s : State) (k : Nat) : Rat := (sget 32 (s.par k) : Rat) / 1073741824
def State.q15r (s : State) (k : Nat) : Rat := (sget 16 (s.lreg k) : Rat) / 16384
def State.q31r (s : State) (k : Nat) : Rat := (sget 32 (s.lreg k) : Rat) / 1073741824
/-- A whole-number parameter of the active set with its unit. -/
def State.parU (s : State) (k : Nat) (unit : Rat) : Rat := (s.par k : Rat) * unit
/-- An ANGLE16 code in turns. -/
def turns (c : Nat) : Rat := (c : Rat) / 65536
def turnsS (c : Nat) : Rat := (sget 16 c : Rat) / 65536
/-- An angle in turns as ANGLE16. -/
def angleCode (x : Rat) : Nat := sput 16 (roundR (x * 65536))
/-- The representative of an angle difference in [−1/2, 1/2). -/
def wrapTurn (x : Rat) : Rat := x - ((x + 1 / 2).floor : Int)

/-- T_i and T_o in seconds. -/
def State.ti (s : State) : Rat := 1 / (s.par Reg.INNER_RATE : Rat)
def State.to (s : State) : Rat := 1 / (s.par Reg.OUTER_RATE : Rat)
def State.fBase (s : State) : Rat := (s.reg (Reg.F_BASE 0) : Rat)
/-- Durations in seconds of instants. -/
def seconds (t : Nat) : Rat := (t : Rat) / (sec 1 : Rat)

/-! ## Chosen values (R51, R26, R27) -/

/-- R_v, X_v and D within their bounds. -/
def State.inBounds (s : State) (c : Rat × Rat × Rat) : Rat × Rat × Rat :=
  (clampR (s.q15 Reg.RV_MIN) (s.q15 Reg.RV_MAX) c.1, clampR (s.q15 Reg.XV_MIN) (s.q15 Reg.XV_MAX) c.2.1,
   clampR (s.parU Reg.D_MIN (1 / 100)) (s.parU Reg.D_MAX (1 / 100)) c.2.2)

/-- The SET values within their bounds. -/
def State.setTargets (s : State) : Rat × Rat × Rat :=
  s.inBounds (s.q15 Reg.RV_SET, s.q15 Reg.XV_SET, s.parU Reg.D_SET (1 / 100))

/-- The values in use at an instant: along the ramp, or where it ended; from the start on those of the SET objects. -/
def State.chosen (s : State) : Rat × Rat × Rat :=
  match s.law.ramp with
  | none => s.setTargets
  | some r =>
    let f := if r.dur = 0 then 1 else clampR 0 1 (seconds (s.now - r.at_) / seconds r.dur)
    let mv (a b : Rat) : Rat := a + (b - a) * f
    (mv r.from_.1 r.to_.1, mv r.from_.2.1 r.to_.2.1, mv r.from_.2.2 r.to_.2.2)

/-- Where they move to. -/
def State.target (s : State) : Rat × Rat × Rat :=
  match s.law.ramp with
  | none => s.setTargets
  | some r => r.to_

/-- The reporting objects of the chosen values and RETUNE_RAMP. -/
def reportChosen (s : State) : State :=
  let c := s.chosen
  let s := (s.setReg Reg.RV_CHOSEN (q15Code c.1)).setReg Reg.XV_CHOSEN (q15Code c.2.1)
  let s := s.setReg Reg.D_CHOSEN (roundR (c.2.2 * 100)).toNat
  s.setLs F.LAW_STATUS_RETUNE_RAMP (s.law.ramp.any fun r => decide (s.now < r.at_ + r.dur) && r.from_ != r.to_)

/-- A new target: the values move from where they are over RAMP; its time and cause are recorded (R52). A target that stays as it was is no
new one. -/
def newTarget (tgt : Rat × Rat × Rat) (cause : Nat) (s : State) : State :=
  if tgt = s.target then s else
  let s := s.setLaw { s.law with ramp := some ⟨s.chosen, tgt, s.now, ms (s.par Reg.RAMP)⟩ }
  reportChosen ((s.setReg Reg.RETUNE_TIME s.time64).setReg Reg.RETUNE_CAUSE cause)

/-- New bounds: a chosen value that they exclude moves to the nearest bound at once (R27), and the ramps of the others go on; a target that
they exclude is a new one, and that alone is recorded (R52). -/
def boundsMove (s : State) : State :=
  let c := s.chosen
  let b := s.inBounds c
  let t := s.inBounds s.target
  let left := match s.law.ramp with
    | some r => r.at_ + r.dur - s.now
    | none => 0
  let moved (s : State) : State :=
    if b = c then s
    else
      reportChosen (s.setLaw { s.law with ramp := some ⟨b, s.target, s.now, left⟩ })
  newTarget t 2 (moved s)

/-- A set becomes the active one: bounds move values at once, the SET values are new targets without retuning (R51, R27). Table 2-12 lists no
cause for a set that FACTORY_RESET, a start or a partner's configuration brings: it is recorded as that of APPLY (DESIGN CHOICE, log
entry 114). -/
def setActive (a : Tab Nat) (s : State) : State :=
  let c := s.chosen
  let t := s.target
  let ramp := s.law.ramp.getD ⟨c, t, s.now, 0⟩
  let s := boundsMove (s.setLaw { s.law with active := a, ramp := some ramp })
  if s.par Reg.RETUNE_EN = 0 then newTarget s.setTargets 3 s else s

/-- The set that APPLY has checked becomes active; outside the DEFAULTS starts it is stored as one record (R40, R420, R424). -/
def applySet (s : State) : State :=
  let a := s.law.checked
  let s := setActive a (s.setLaw { s.law with applying := false })
  let s := if s.rwsLocked then s else addDelta ⟨s.mram.deltaSeq + 1, 0, 0, some a, 0xFF, 0, 0⟩ s
  let s := (s.setReg Reg.APPLY 2).setMs F.MODE_STATUS_APPLY_DEFERRED false
  refreshStaged s

end Sys2Proof.Machine
end

