-- ==== Sys2Proof/Machine/ModeOps.lean ====
section
/-!
DEFINITION. The operations of the modes (03_ride_through_and_modes.md): transitions and their log,
entry to BASECAMP and to ARMED, and the internal records of the journal.
-/

namespace Sys2Proof.Machine

/-! ## Logs with the newest entry first -/

/-- A log of `n` registers takes a new entry at its first subindex. -/
def pushLog (f : Nat → Nat) (n v : Nat) (s : State) : State :=
  let old := (List.range (n - 1)).map fun i => s.reg (f i)
  (List.zip (List.range n) (v :: old)).foldl (fun s x => s.setReg (f x.1) x.2) s

/-! ## Trained codes (R215) -/

/-- What of a lane's profile decides whether stored codes still apply. -/
def State.profileValues (s : State) (k : Nat) : List Nat :=
  let p := s.laneProfile k
  p :: (List.range 11).map fun i => s.reg (Reg.DVDT_ON_TGT p + i)

/-- The chosen codes of every lane are stored in eMRAM. -/
def storeCodes (s : State) : State :=
  s.forEach (List.range 64) fun k s =>
    { s with mram := { s.mram with
        codes := tabSet 0 s.mram.codes k (s.reg (Reg.CODES k))
        codeProf := tabSet [] s.mram.codeProf k (s.profileValues k) } }

/-- They are restored, or the SET values where the profile has changed. -/
def restoreCodes (s : State) : State :=
  s.forEach (List.range 64) fun k s =>
    if s.flag (Reg.GL_CFG k) F.GL_CFG_TRAIN_EN && tabGet [] s.mram.codeProf k == s.profileValues k then
      s.setReg (Reg.CODES k) (tabGet 0 s.mram.codes k)
    else resetCodes k s

/-! ## Transitions (R60) -/

/-- A LIMIT period ends where LIMIT, or a HOLD that was entered from it, goes to another mode: its duration in whole ms (Table 3-14). The
spec states no rounding; the model floors it (DESIGN CHOICE, log entry 114). -/
def limitEnds (old new : Nat) (s : State) : State :=
  let held := if old = mHOLD then s.reg Reg.HELD_MODE else old
  if held = mLIMIT ∧ new ≠ mHOLD ∧ new ≠ mLIMIT then s.setReg Reg.LIMIT_LAST ((s.now - s.law.limitAt) / Sys2Proof.ms 1) else s

/-- Whether the estimator may run. -/
def State.estRuns (s : State) : Bool := s.mode == mFORM && s.par Reg.EST_EN == 1 && s.lreg Reg.CAD_EN == 0

/-- Outside FORM, with EST_EN = 0 or with cadence signalling enabled the estimator stops, EST_SUSPENDED is set and no probe voltage is
added (R50). -/
def estGate (s : State) : State :=
  let s := s.setLs F.LAW_STATUS_EST_SUSPENDED (!s.estRuns)
  if s.estRuns then s
  else
    let s := s.setReg Reg.EST_STATE (if s.par Reg.EST_EN = 1 then 4 else 0)
    let l := s.law
    s.setLaw { l with est := { lastAt := l.est.lastAt }, use := { l.use with probe := {} }, next := { l.next with probe := {} } }

/-- A transition from mode `old` is recorded (R60): mode, cause, time, log, MODE_SEQ; SWITCHING shows the new
mode; in LIMIT and HOLD the edge trainers freeze (R214); the estimator of the built-in law stops outside FORM (R50); no recovery condition
of LIMIT has been held (R81). -/
def logMode (old new cause : Nat) (s : State) : State :=
  let s := ((s.setReg Reg.MODE_PREV old).setReg Reg.MODE new).setReg Reg.CAUSE cause
  let s := (s.setReg Reg.MODE_TIME s.time64).bump Reg.TRANS_COUNT
  let s := pushLog Reg.TRANS_LOG 16 (old * 2 ^ 24 + new * 2 ^ 16 + cause * 256 + s.reg Reg.TRANS_COUNT % 256) s
  let s := pushLog Reg.TRANS_LOG_TIME 16 s.time64 s
  let s := s.setLaw { s.law with modeSeq := (s.law.modeSeq + 1) % 2 ^ 32, modeAt := s.now
                                 autoSeq := s.law.autoSeq + b2n (cause != 1), recSince := [] }
  let s := s.setMs F.MODE_STATUS_SWITCHING (decide (2 ≤ new))
  let s := if new = mLIMIT ∨ new = mHOLD then s.forEach (List.range 64) freezeTrainer else s
  let s := limitEnds old new s
  let s := if s.builtin then estGate s else s
  stepDeferred (s.setReg Reg.HELD_MODE (if new = mHOLD then old else 0xFF))

/-- A transition from the present mode is recorded. -/
def recordMode (new cause : Nat) (s : State) : State := logMode s.mode new cause s

/-- The law channels. -/
def State.lawChans (s : State) : List Nat := (List.range 256).filter s.lawChannel

/-- Static-off in the mode shadow and effective mode of every law channel at a look-ahead instant. -/
def lawStaticOff (s : State) : State :=
  s.forEach s.lawChans fun c s =>
    let s := s.setShadow (modePort c) { s.shadow (modePort c) with val := some 1 }
    chanEval c s.la (zeroCarries c (s.setEff (modePort c) 1))

/-- Flags of the law and the modes that end when the law switches no more (R54, R92), and what stands behind them. -/
def clearLawFlags (s : State) : State :=
  let s := [F.MODE_STATUS_STOPPING, F.MODE_STATUS_PJ_FOLLOW, F.MODE_STATUS_KVI_ACTIVE, F.MODE_STATUS_NEG_SEQ,
    F.MODE_STATUS_CBC_ACTIVE, F.MODE_STATUS_ILIM, F.MODE_STATUS_HANDOVER_SLEW, F.MODE_STATUS_FAULT_PRESENT].foldl
      (fun s f => s.setMs f false) s
  let s := [F.LAW_STATUS_V_SAT, F.LAW_STATUS_E_LIM, F.LAW_STATUS_P_LIM, F.LAW_STATUS_FREQ_LIM, F.LAW_STATUS_DC_LIMIT,
    F.LAW_STATUS_MACH_LIMIT].foldl (fun s f => s.setLs f false) s
  s.setLaw { s.law with
    threads := s.law.threads.map fun e => (e.1, { e.2 with vsat := false })
    stopAt := none, stopWait := false, pjLeft := 0, pjN := 0, kviAt := none, resid := [], det := [], recSince := [] }

/-- The stage of START and SYNC (Table 4-2). -/
def setStage (n : Nat) (s : State) : State := (s.setReg Reg.BS_STAGE n).setCad { s.cad with stageAt := s.now }

/-- The outcome of a mode command (R56): 2 done, 3 refused with a code of Table 3-4. -/
def cmdDone (s : State) : State := (s.setReg Reg.MODE_CMD 2).setReg Reg.CMD_REFUSAL 0
def cmdRefused (code : Nat) (s : State) : State := (s.setReg Reg.MODE_CMD 3).setReg Reg.CMD_REFUSAL code

/-- An automatic transition ends a soft stop: its ARMED command is refused with code 11 (log entry 43). -/
def stopLost (cause : Nat) (s : State) : State :=
  if s.ms F.MODE_STATUS_STOPPING && cause != 1 then cmdRefused 11 s else s

/-- A frame in progress ends without being counted and stays queued (R115); one that is complete still waits for its own decoding (R116). -/
def txStop (s : State) : State :=
  (s.setCad { s.cad with txAt := none, own := s.cad.own && s.cad.txAt.isNone, offset := 0 }).setFlag Reg.BS_STATUS F.BS_STATUS_TX_ACTIVE false

/-- The law that evaluates the bus states and IN_SYNC has stopped: no state holds, none has been held (R96, R97, R104), and the receiver
stops (R111). -/
def busIdle (s : State) : State :=
  let s := [F.BS_STATUS_DEAD, F.BS_STATUS_EXT_DEAD, F.BS_STATUS_EXT_LIVE, F.BS_STATUS_IN_SYNC, F.BS_STATUS_RAMP_HELD].foldl
    (fun s f => s.setFlag Reg.BS_STATUS f false) s
  s.setCad { s.cad with rx := false, own := false, deadSince := none, extDeadSince := none, extLostSince := none, clearedAt := none, rampDue := false }

/-- What entry to BASECAMP does beside the record of the transition (R64): every channel forced off, all-off frames and then the idle
pattern, drivers not kept shut down, the law stopped, a pending APPLY applied (R82), the codes stored (R215), the cadence receiver
stopped (R111). -/
def basecampEffects (s : State) : State :=
  let s := s.setFlag Reg.PWM_STATUS F.PWM_STATUS_BASECAMP_FORCE true
  let s := forceOffAll (List.range 256) s
  let s := driversBasecamp (lanesAllOff s)
  let s := [F.LAW_STATUS_LAW_RUNNING, F.LAW_STATUS_SIGNAL_HOLD, F.LAW_STATUS_OUTER_MISS].foldl (fun s f => s.setLs f false) (clearLawFlags s)
  let s := busIdle (txStop (setStage 0 s))
  let s := if s.law.applying then applySet s else s
  let s := if s.builtin then lawStop s else s
  storeCodes { s with arming := none }

/-- Entry to BASECAMP. -/
def enterBasecamp (cause : Nat) (s : State) : State :=
  if s.mode = mBASECAMP then s
  else logMode s.mode mBASECAMP cause (basecampEffects ((stopLost cause s).setReg Reg.MODE mBASECAMP))

/-- What leaving BASECAMP does beside the record of the transition (R55, R186, Table 6-5): BASECAMP forcing ends, the built-in
law's channels are static-off, the law starts; SENSOR_FAULT clears (R43); thread removals end with the law's restart. -/
def armedEffects (s : State) : State :=
  let s := if s.builtin then lawStaticOff s else s
  let s := s.setFlag Reg.PWM_STATUS F.PWM_STATUS_BASECAMP_FORCE false
  let s := ((s.setLs F.LAW_STATUS_LAW_RUNNING true).setLs F.LAW_STATUS_SENSOR_FAULT false).setLs F.LAW_STATUS_THREAD_REMOVED false
  let s := s.setLaw { s.law with cycle := 0, flagged := [], missed := if s.builtin then [] else s.law.missed, outerMissRun := 0, vdcTrip := 0,
                                 threads := s.law.threads.map fun e => (e.1, { e.2 with removed := false }) }
  let s := if s.builtin then lawStart s else s
  driversStart (lanesLive s)

/-- Entry to ARMED from BASECAMP. -/
def enterArmed (s : State) : State := logMode s.mode mARMED 1 (armedEffects ({ s with arming := none }.setReg Reg.MODE mARMED))

/-- A transition to ARMED from a switching mode: after a soft stop (cause 1) or an abort (cause 26, static-off at once), which overtakes a soft
stop. -/
def backToArmed (cause : Nat) (s : State) : State :=
  let s := stopLost cause s
  let r := txStop (setStage 0 (clearLawFlags (if cause = 26 then lawStaticOff s else s)))
  let r := [F.BS_STATUS_IN_SYNC, F.BS_STATUS_RAMP_HELD].foldl (fun s f => s.setFlag Reg.BS_STATUS f false) r
  logMode s.mode mARMED cause (r.setCad { r.cad with rampDue := false, clearedAt := none })

/-- An ARMED command in execution is refused: the lanes return to the idle pattern (R186). -/
def armRefused (code : Nat) (s : State) : State :=
  if s.arming.isSome then cmdRefused code (lanesIdle { s with arming := none }) else s

/-- Every in-service gate unit of the law reports gate-supply OK and the device's own baton number (R186, R449); a unit whose uplink is lost
reports nothing. -/
def State.unitsReady (s : State) : Bool :=
  s.lawUnits.all fun k => [F.GL_STATUS_LINK_OK, F.GL_STATUS_GS_OK, F.GL_STATUS_BATON_OK].all fun f => s.flag (Reg.GL_STATUS k) f

/-- A request to switch a power domain on (R30 to R32). -/
def pdOnBegin (d : Nat) (s : State) : State :=
  if bit s.sup.pdStop d then s.setRegBit Reg.PD_PENDING d true
  else if bit s.sup.pdStart d then { s with sup := { s.sup with pdDis := setBit s.sup.pdDis d false } }
  else if s.regBit Reg.PD_ON d then s
  else { s with sup := { s.sup with pdStart := setBit s.sup.pdStart d true } }

/-- PD3 is on where the built-in law needs it outside BASECAMP (R28). -/
def State.lawPower (s : State) : Bool := !s.builtin || s.regBit Reg.PD_ON 3

/-- An ARMED command is being executed: the lanes go LIVE at once (R186). PD3 that was switched off in BASECAMP is switched on with it
(R28; log entry 28). -/
def armBegin (s : State) : State :=
  let s := lanesLive { s with arming := some s.now }
  if s.lawPower then s else pdOnBegin 3 (s.setRegBit Reg.PD_REQ 3 true)

/-- The transition to ARMED completes when the gate units are ready and no claim is awaited (R186, R387), PD3 is on where the law
needs it (R28) and the device is not on its way to standby (R29; log entry 94). -/
def armIfReady (s : State) : State :=
  if s.arming.isSome && s.holds && s.unitsReady && s.lawPower && s.sup.standbyAt.isNone then cmdDone (enterArmed s) else s

/-- A latched protection fault for Table 3-2 (R211, R449). -/
def State.protectionLatched (s : State) : Bool :=
  ((bitsOf 32 (s.reg Reg.TRIP_LATCHED)).any fun i => (s.tripChans i).any s.lawChannel)
    || (bitsOf 64 (s.reg Reg.LANE_LATCHED)).any s.lawLane

/-- A lane fault of a law lane that latches while an ARMED command executes refuses it with code 5 (R186). -/
def armLatchCheck (k : Nat) (s : State) : State :=
  if s.arming.isSome && s.lawLane k && s.regBit Reg.LANE_LATCHED k then armRefused 5 s else s

/-- Entry to HOLD (R86): from FORM, LIMIT, START and SYNC only, by the device that holds the baton
(R59). -/
def enterHold (cause : Nat) (s : State) : State :=
  if s.switching && s.holds then
    let held := s.mode
    let s := (recordMode mHOLD cause (stopLost cause s)).setReg Reg.HELD_MODE held
    let s := (s.bump Reg.HOLD_COUNT).setReg Reg.HOLD_MISSES 0
    reportFaults ((s.setLaw { s.law with holdAt := s.now, recRun := 0, outerOk := false, stopAt := none, stopWait := false }).setMs F.MODE_STATUS_STOPPING false)
  else s

end Sys2Proof.Machine
end

