-- ==== Sys2Proof/Machine/Real.lean ====
section
/-!
DEFINITION. The real functions of the law's equations (R7, R11): square root, π, cosine and sine of an angle in turns, the angle of
a vector. A value that is a rational number is computed exactly. Any other is a rational inside a bracket that also holds the real
number: the bracket is computed here, the place inside it is free (Config, log entry 14), so no statement can rest on digits the
spec does not give.
-/

namespace Sys2Proof.Machine

/-- A free place in a bracket, from 0 to 1. -/
def unit01 (x : Rat) : Rat := max 0 (min 1 x)

/-- The integer square root by bisection, from bit `n` down. -/
def isqrtGo : Nat → Nat → Nat → Nat
  | 0, _, r => r
  | n + 1, x, r => if (r + 2 ^ n) * (r + 2 ^ n) ≤ x then isqrtGo n x (r + 2 ^ n) else isqrtGo n x r
def isqrt (x : Nat) : Nat := isqrtGo (Nat.log2 x / 2 + 1) x 0
/-- The whole number nearest to the square root of a quotient. -/
def sqrtNear (a b : Nat) : Nat := if b = 0 then 0 else (isqrt (4 * a / b) + 1) / 2

/-- The square root: exact where numerator and denominator are squares, else between two neighbouring multiples of 2^-64; of a
negative number, which has none, free. -/
def sqrtR (x : Rat) : Rat :=
  if x < 0 then Config.sqrtRest x
  else
    let n := x.num.toNat
    if isqrt n * isqrt n = n ∧ isqrt x.den * isqrt x.den = x.den then (isqrt n : Rat) / (isqrt x.den : Rat)
    else ((isqrt (n * 2 ^ 128 / x.den) : Rat) + unit01 (Config.sqrtRest x)) / 2 ^ 64

/-- π, between two neighbouring multiples of 10^-39. -/
def piR : Rat := (3141592653589793238462643383279502884197 + unit01 Config.piRest) / 10 ^ 39

/-- Sum of a power series in 2^-128: `t` is the term `k` reached, with the sign of the terms that follow alternating; every second
term belongs to the series. -/
def trigSum : Nat → Nat → Int → Int → Int → Int
  | 0, _, _, _, acc => acc
  | n + 1, k, y, t, acc =>
    let t2 := -(t * y / 2 ^ 128 * y / 2 ^ 128) / (((k + 1) * (k + 2) : Nat) : Int)
    trigSum n (k + 2) y t2 (acc + t2)
/-- An angle of less than a quarter turn in radians, and its cosine and sine, in 2^-128. -/
def radians (r : Rat) : Int := (2 * (3141592653589793238462643383279502884197 : Rat) / 10 ^ 39 * r * 2 ^ 128).floor
def cosFix (r : Rat) : Int := trigSum 20 0 (radians r) (2 ^ 128) (2 ^ 128)
def sinFix (r : Rat) : Int := trigSum 20 1 (radians r) (radians r) (radians r)

/-- Cosine and sine of an angle in turns: exact at whole quarter turns, else within 2^-100 of the series. -/
def trigR (fix : Rat → Int) (rest r : Rat) : Rat := (fix r : Rat) / 2 ^ 128 + (2 * unit01 rest - 1) / 2 ^ 100
def cosR (x : Rat) : Rat :=
  let q := (4 * x).floor
  let r := x - (q : Rat) / 4
  let c := if r = 0 then 1 else trigR cosFix (Config.cosRest x) r
  let n := if r = 0 then 0 else trigR sinFix (Config.cosRest x) r
  match (q % 4).toNat with
  | 0 => c
  | 1 => -n
  | 2 => -c
  | _ => n
def sinR (x : Rat) : Rat :=
  let q := (4 * x).floor
  let r := x - (q : Rat) / 4
  let c := if r = 0 then 1 else trigR cosFix (Config.sinRest x) r
  let n := if r = 0 then 0 else trigR sinFix (Config.sinRest x) r
  match (q % 4).toNat with
  | 0 => n
  | 1 => c
  | 2 => -n
  | _ => -c

/-- The largest multiple of 2^-62 turns, found bit by bit, whose direction is not past the vector (x, y) of the first quadrant. -/
def atanGo : Nat → Rat → Rat → Rat → Rat → Rat
  | 0, _, a, _, _ => a
  | n + 1, st, a, y, x =>
    if x * (sinFix (a + st) : Rat) ≤ y * (cosFix (a + st) : Rat) then atanGo n (st / 2) (a + st) y x else atanGo n (st / 2) a y x
/-- The angle of a vector in turns in (−1/2, 1/2]: exact on the axes and the diagonals, else between two neighbouring multiples of
2^-60; of the zero vector, which has none, free. -/
def atan2R (y x : Rat) : Rat :=
  let ay := if y < 0 then -y else y
  let ax := if x < 0 then -x else x
  let a :=
    if ax = 0 ∧ ay = 0 then Config.atanRest y x
    else if ay = 0 then 0
    else if ax = 0 then 1 / 4
    else if ax = ay then 1 / 8
    else ((atanGo 60 (1 / 8) 0 ay ax * 2 ^ 60).floor + unit01 (Config.atanRest y x)) / 2 ^ 60
  let h := if x < 0 then 1 / 2 - a else a
  if y < 0 then -h else h

end Sys2Proof.Machine
end

