-- ==== Sys2Proof/Machine/LawOps.lean ====
section
/-!
DEFINITION. The quantities of the grid-forming law (02_grid_forming_law.md): per-unit readings, bases, transforms, measured
signals, the modulator, and the presets of a hand-over (03, R83). The equations of the spec are computed exactly on
rationals; square roots and trigonometric functions are those of Real.lean.
-/

namespace Sys2Proof.Machine

/-! ## Bases (Table 0-4) -/

/-- The derived bases follow S_BASE and V_BASE at once (R7, R41). A Z_BASE beyond U32, for which the spec states no value, is kept whole
(DESIGN CHOICE, log entry 114). -/
def deriveBases (side : Nat) (s : State) : State :=
  let sb := s.reg (Reg.S_BASE side)
  let vb := s.reg (Reg.V_BASE side)
  let s := s.setReg (Reg.I_BASE side) (if vb = 0 then 0 else sqrtNear (100 * sb * sb) (3 * vb * vb))
  let s := s.setReg (Reg.Z_BASE side) (if sb = 0 then 0 else (2 * vb * vb * 1000000 + sb) / (2 * sb))
  s.setReg (Reg.VDC_BASE side) (sqrtNear (8 * vb * vb) 3)

/-- V̂_base and Î_base of a side. -/
def State.vHat (s : State) (side : Nat) : Rat := (s.reg (Reg.V_BASE side) : Rat) * sqrtR (2 / 3)
def State.iHat (s : State) (side : Nat) : Rat :=
  (s.reg (Reg.S_BASE side) : Rat) / (s.reg (Reg.V_BASE side) : Rat) * sqrtR (2 / 3)

/-- A side with an in-service thread: 0 line, 1 machine. -/
def State.sideIn (s : State) (side : Nat) : Bool := (List.range 4).any fun t => s.threadIn (4 * side + t)
/-- A base of a side is unset (R41). -/
def State.sideUnset (s : State) (side : Nat) : Bool := s.reg (Reg.S_BASE side) == 0 || s.reg (Reg.V_BASE side) == 0
/-- BASES_UNSET (R41). -/
def refreshBases (s : State) : State :=
  s.setLs F.LAW_STATUS_BASES_UNSET ((s.sideIn 0 && s.sideUnset 0) || (s.sideIn 1 && s.sideUnset 1))

/-! ## Transforms (R11) -/
def Dq.add (a b : Dq) : Dq := ⟨a.d + b.d, a.q + b.q⟩
def Dq.sub (a b : Dq) : Dq := ⟨a.d - b.d, a.q - b.q⟩
def Dq.scale (k : Rat) (a : Dq) : Dq := ⟨k * a.d, k * a.q⟩
/-- j · a. -/
def Dq.rot90 (a : Dq) : Dq := ⟨-a.q, a.d⟩
def Dq.mag (a : Dq) : Rat := sqrtR (a.d * a.d + a.q * a.q)
def Dq.clamp (m : Rat) (a : Dq) : Dq := ⟨clampR (-m) m a.d, clampR (-m) m a.q⟩
/-- αβ onto an angle in turns, and back. -/
def Dq.park (th : Rat) (a : Dq) : Dq :=
  ⟨a.d * cosR th + a.q * sinR th, -(a.d * sinR th) + a.q * cosR th⟩
def Dq.unpark (th : Rat) (a : Dq) : Dq :=
  ⟨a.d * cosR th - a.q * sinR th, a.d * sinR th + a.q * cosR th⟩
def clarke (a b c : Rat) : Dq := ⟨(2 * a - b - c) / 3, (b - c) * sqrtR (1 / 3)⟩
/-- The three phases of αβ. -/
def Dq.abc (a : Dq) : List Rat :=
  let h := a.q * sqrtR 3 / 2
  [a.d, -(a.d / 2) + h, -(a.d / 2) - h]

/-- θ in turns. -/
def State.thetaT (s : State) : Rat := (s.law.theta : Rat) / 4294967296

/-! ## Measured signals (R42, R43) -/

/-- Rounds A (`false`) and B: the mapped inputs of each (Table 2-1). -/
def State.roundInputs (s : State) (b : Bool) : List Nat :=
  let th (l : List Nat) (f : Nat → List Nat) : List Nat := (l.filter s.threadIn).flatMap f
  let l := if b then (List.range 3).map (fun i => s.par (Reg.V_CAP i))
      ++ th [0, 1, 2, 3] fun t => (List.range 3).map fun p => s.par (Reg.I_L (3 * t + p))
    else (List.range 3).map (fun i => s.par (Reg.I_G i)) ++ (List.range 2).map (fun i => s.par (Reg.V_DC_SRC i))
      ++ [s.lreg Reg.VB_AB, s.lreg Reg.VB_BC] ++ th [4, 5, 6, 7] fun t => (List.range 2).map fun p => s.par (Reg.I_M (2 * (t - 4) + p))
  l.filter (· < 64)

/-- One mapped input is taken for the cycle: a flagged result holds the last valid sample, the third in a row latches
SENSOR_FAULT (R43). -/
def sampleInput (a : Nat) (s : State) : State :=
  let w := s.word a
  let l := s.law
  if bit w 31 then
    let n := tabGet 0 l.flagged a + 1
    let s := s.setLaw { l with flagged := tabSet 0 l.flagged a n }
    if 3 ≤ n then s.setLs F.LAW_STATUS_SENSOR_FAULT true else s
  else s.setLaw { l with flagged := tabSet 0 l.flagged a 0, lastCode := tabSet 0 l.lastCode a (w % 65536) }

/-- The inputs of one round of an inner cycle; SIGNAL_HOLD shows whether a held sample is in use (R43, R54). -/
def sampleRound (b : Bool) (s : State) : State :=
  let s := s.forEach (s.roundInputs b) sampleInput
  reportFaults (s.setLs F.LAW_STATUS_SIGNAL_HOLD ((s.roundInputs false ++ s.roundInputs true).any fun a => tabGet 0 s.law.flagged a != 0))

/-- The sample of a mapped AIN as code / 32,767 × full scale; an input mapped to 0xFF reads zero. -/
def State.sig (s : State) (ain fs : Nat) : Rat :=
  if ain < 64 then (sget 16 (tabGet 0 s.law.lastCode ain) : Rat) / 32767 * fs else 0

def State.vCap (s : State) (p : Nat) : Rat := s.sig (s.par (Reg.V_CAP p)) (s.par Reg.V_FS) / s.vHat 0
def State.iGrid (s : State) (p : Nat) : Rat := s.sig (s.par (Reg.I_G p)) (s.par Reg.I_FS) / s.iHat 0
def State.vDcHalf (s : State) (h : Nat) : Rat := s.sig (s.par (Reg.V_DC_SRC h)) (s.par Reg.VDC_FS) / (2 * s.vHat 0)
/-- Phase current of a thread: i_c = −i_a − i_b on machine threads (R42). -/
def State.iThread (s : State) (t p : Nat) : Rat :=
  if t < 4 then s.sig (s.par (Reg.I_L (3 * t + p))) (s.par Reg.I_FS) / s.iHat 0
  else
    let m (x : Nat) : Rat := s.sig (s.par (Reg.I_M (2 * (t - 4) + x))) (s.par Reg.I_M_FS) / s.iHat 1
    if p < 2 then m p else -(m 0) - m 1

/-! ## Threads and sharing (R47) -/
def State.thread (s : State) (t : Nat) : Thread := tabGet {} s.law.threads t
def State.setThread (s : State) (t : Nat) (x : Thread) : State := s.setLaw { s.law with threads := tabSet {} s.law.threads t x }
/-- A thread of the sharing sum. -/
def State.shares (s : State) (t : Nat) : Bool := s.threadIn t && !(s.thread t).removed
/-- Weight of a thread. -/
def State.weight (s : State) (t : Nat) : Rat := (s.par (if t < 4 then Reg.W_L t else Reg.W_M (t - 4)) : Rat)
def State.weightSum (s : State) (side : Nat) (f : Nat → Bool) : Rat :=
  ((List.range 4).map (4 * side + ·)).foldl (fun a t => if f t then a + s.weight t else a) 0
/-- w_t,eff, and I_LIM's scaling. Where every weight of a side is zero they are quotients by zero that the spec does not state; the model takes
0 (DESIGN CHOICE, log entry 114). -/
def State.wEff (s : State) (t : Nat) : Rat := if s.shares t then s.weight t / s.weightSum (t / 4) s.shares else 0
/-- Sum of the remaining weights divided by the sum before removals. -/
def State.remaining (s : State) (side : Nat) : Rat := s.weightSum side s.shares / s.weightSum side s.threadIn

/-- Protection has latched a fault on a leg of the thread: its gate links, or a trip input of its channels. -/
def State.legLatched (s : State) (t : Nat) : Bool :=
  let lanes := (List.range 3).map fun p => if t < 4 then 3 * t + p else 12 + 3 * (t - 4) + p
  lanes.any (s.regBit Reg.LANE_LATCHED ·)
    || (bitsOf 32 (s.reg Reg.TRIP_LATCHED)).any fun i => (s.tripChans i).any fun c => lanes.contains (c / 4)

/-- Threads with a latched leg fault leave the sum (R47). -/
def removeThreads (s : State) : State :=
  s.forEach (List.range 8) fun t s =>
    if s.shares t && s.legLatched t then
      (s.setThread t { s.thread t with removed := true }).setLs F.LAW_STATUS_THREAD_REMOVED true
    else s

/-- No thread is left: every in-service line thread removed, or every machine thread while EC_MODE = 1 (Table 3-2). -/
def State.noThreadLeft (s : State) : Bool :=
  let gone (side : Nat) : Bool := s.sideIn side && !((List.range 4).any fun t => s.shares (4 * side + t))
  gone 0 || (s.par Reg.EC_MODE == 1 && gone 1)

/-- I_LIM_eff (R69): I_LIM_CHOSEN scaled after a removal and ramped down during a soft stop (R65). -/
def State.iLimEff (s : State) : Rat :=
  let base := s.q15r Reg.I_LIM_CHOSEN * s.remaining 0
  match s.law.stopAt with
  | none => base
  | some t => base * clampR 0 1 (1 - seconds (s.now - t) / ((s.lreg Reg.STOP_RAMP : Rat) / 1000))

/-! ## Residuals of a hand-over (R83 to R85) -/
def State.resid (s : State) (b : Nat) : Rat := tabGet 0 s.law.resid b
def State.setResid (s : State) (b : Nat) (r : Rat) : State :=
  let s := s.setLaw { s.law with resid := tabSet 0 s.law.resid b r }
  s.setMs F.MODE_STATUS_HANDOVER_SLEW (!s.law.resid.isEmpty)
/-- A residual moves toward zero by HO_SLEW · T; in HOLD it is frozen. -/
def decayResid (b : Nat) (period : Rat) (s : State) : State :=
  if s.mode = mHOLD then s
  else
    let r := s.resid b
    let step := (s.lreg Reg.HO_SLEW : Rat) / 1000 * period
    s.setResid b (if absR r ≤ step then 0 else if r < 0 then r + step else r - step)

/-- The preset of one block (R83): its integrator, and its residual under the block's number. -/
def presetBlock (b : Nat) (yOut yIn0 bound : Rat) (s : State) : Rat × State :=
  let x := clampR (-bound) bound (yOut - yIn0)
  (x, s.setResid b (yOut - yIn0 - x))

/-- Block numbers: governor, voltage regulator, ω, voltage loop d and q, per thread u* d and q, negative d and q, u_0. -/
def bPm : Nat := 0
def bE : Nat := 1
def bOmega : Nat := 2
def bVd : Nat := 3
def bVq : Nat := 4
def bT (t j : Nat) : Nat := 16 + 8 * t + j

/-! ## Modulation (R36, R37) -/

/-- Compares in sixteenths of a tick for a duty strictly between 0 and 1. -/
def dutyCmps (per : Nat) (d : Rat) : Nat × Nat :=
  ((roundR (per * 16 * (1 - d) / 2)).toNat, (roundR (per * 16 * (1 + d) / 2)).toNat)

/-- Whether a compare may move from one value to another (R37): at the transfer instant of the update, both edges lie at
least T_i ahead within the same period of the channel's carrier (log entry 40). -/
def State.mayMove (s : State) (c old new : Nat) : Bool :=
  let n := s.chCarrier c
  let w := (s.carrier 0).wrapAt
  let cnt := s.countAt n w
  let ti := (roundR (s.ti * 1000000000 * 16 / (5 / 8))).toNat
  (decide (cnt + ti ≤ old) && decide (cnt + ti ≤ new))
    || (decide (old < cnt) && decide (new < cnt) && decide (cnt + ti ≤ s.per16 n + min old new))

/-- The port writes for one channel with a duty: static modes at 0 and 1, else centred compares, exchanged for the
complementary channel; a compare that may not move is rewritten with its old value. -/
def State.dutyWrites (s : State) (c : Nat) (d : Rat) (comp : Bool) : List (Nat × Nat) :=
  if d ≤ 0 then [(modePort c, if comp then 2 else 1)]
  else if 1 ≤ d then [(modePort c, if comp then 1 else 2)]
  else
    let ab := dutyCmps (s.reg (Reg.CG_PER_ACT (s.chCarrier c))) d
    let ab := if comp then (ab.2, ab.1) else ab
    let keep (p v : Nat) : Nat := if s.mayMove c (s.effVal p) v then v else s.effVal p
    [(cmpaPort c, keep (cmpaPort c) ab.1), (cmpbPort c, keep (cmpbPort c) ab.2), (modePort c, 0)]

/-- The writes of a phase leg of gate link `k` for a modulating signal (Table 2-2, R36); unused positions are static-off. -/
def State.legWrites (s : State) (k : Nat) (m : Rat) : List (Nat × Nat) :=
  if s.par Reg.LEG_TYPE = 0 then
    let d := (1 + m) / 2
    s.dutyWrites (4 * k) d false ++ s.dutyWrites (4 * k + 1) d true ++ [(modePort (4 * k + 2), 1), (modePort (4 * k + 3), 1)]
  else
    let d1 := if 0 ≤ m then m else 0
    let d2 := if 0 ≤ m then 1 else 1 + m
    s.dutyWrites (4 * k) d1 false ++ s.dutyWrites (4 * k + 1) d1 true
      ++ s.dutyWrites (4 * k + 2) d2 false ++ s.dutyWrites (4 * k + 3) d2 true

/-- The min–max offset of three modulating signals. -/
def State.zsiOffset (s : State) (m : List Rat) : Rat :=
  if s.par Reg.ZSI = 1 then -(m.foldl max (-1000) + m.foldl min 1000) / 2 else 0

/-- The neutral-point offset for a thread's instantaneous power; two-level legs have none (02, "Modulation"). -/
def State.npOffset (s : State) (p : Rat) : Rat :=
  if s.par Reg.LEG_TYPE = 0 then 0
  else
    clampR (-(s.q15 Reg.UNP_MAX)) (s.q15 Reg.UNP_MAX)
      (-((s.par Reg.KNP : Rat) / 1000) * (s.vDcHalf 0 - s.vDcHalf 1) * (if p < 0 then -1 else if p = 0 then 0 else 1))

/-- The DC-link voltage that a thread's modulating signals are related to, in pu of its side: OE1's, or what the machine engines have from
round A themselves (Table 2-1). For v_dc = 0 the spec states no m_x; the model
divides by 1 (DESIGN CHOICE, log entry 78). -/
def State.vdcMod (s : State) (t : Nat) : Rat :=
  let v := if t < 4 then s.law.vdc else (s.vDcHalf 0 + s.vDcHalf 1) * s.vHat 0 / s.vHat 1
  if v = 0 then 1 else v

/-- The first gate link of a thread (R35). -/
def threadLink (t : Nat) : Nat := if t < 4 then 3 * t else 12 + 3 * (t - 4)

/-- A thread's phase voltages become writes of its three legs; V_SAT while a clamp acts (R36). `unp` is the neutral-point
offset. -/
def modulate (t : Nat) (u : List Rat) (u0 unp : Rat) (s : State) : State :=
  let m := u.map (· / s.vdcMod t)
  let zsi := s.zsiOffset m
  let m := m.map fun x => x + zsi + u0 + unp
  let sat := m.any fun x => decide (1 < x) || decide (x < -1)
  let m := m.map (clampR (-1) 1)
  let w := (List.zip (List.range 3) m).flatMap fun x => s.legWrites (threadLink t + x.1) x.2
  s.setThread t { s.thread t with vsat := sat, writes := w }

/-! ## The converter voltage of the last transferred compares (Table 3-7) -/

/-- The duty of a channel by its effective mode and compares. -/
def State.effDuty (s : State) (c : Nat) : Rat :=
  match s.effVal (modePort c) with
  | 1 => 0
  | 2 => 1
  | _ => ((s.effVal (cmpbPort c) : Rat) - (s.effVal (cmpaPort c) : Rat)) / (max 1 (s.per16 (s.chCarrier c)) : Nat)

/-- The modulating signal of a leg that its effective duties make: the inverse of Table 2-2 and R36. -/
def State.effLeg (s : State) (k : Nat) : Rat :=
  if s.par Reg.LEG_TYPE = 0 then 2 * s.effDuty (4 * k) - 1 else s.effDuty (4 * k) + s.effDuty (4 * k + 2) - 1

/-- u_held of a thread: its αβ voltage, and its zero-sequence offset without the min–max injection. -/
def State.uHeld (s : State) (t : Nat) : Dq × Rat :=
  let m := (List.range 3).map fun p => s.effLeg (threadLink t + p)
  let mean := (listGet 0 m 0 + listGet 0 m 1 + listGet 0 m 2) / 3
  ((clarke (listGet 0 m 0) (listGet 0 m 1) (listGet 0 m 2)).scale (s.vdcMod t), mean - s.zsiOffset (m.map (· - mean)))

end Sys2Proof.Machine
end

