-- ==== Sys2Proof/Machine/LawInner.lean ====
section
/-!
DEFINITION. The inner rate of the law (02_grid_forming_law.md, 03, 04): what OE1 does at each inner cycle, and the current
loops and modulation of OE2 to OE7. Each part takes effect when its engine registers END on time.
-/

namespace Sys2Proof.Machine

/-! ## Measurement (02 "Measured power", 03 "Grid measurements") -/

/-- N_q = round(INNER_RATE / (4 · f_base)). -/
def State.nq (s : State) : Nat := (roundR ((s.par Reg.INNER_RATE : Rat) / (4 * s.fBase))).toNat

/-- The carriers of the line threads in service. -/
def State.threadCarriers (s : State) : List Nat :=
  ((List.range 8).filter s.threadIn).map (2 + ·)

/-- Comparator actions counted by carrier periods (R67, Table 3-5). -/
def cbcPeriods (s : State) : State :=
  let s := s.forEach s.threadCarriers fun n s =>
    let l := s.law
    let w := (s.carrier n).wraps
    if tabGet 0 l.cbcSeen n = w then s
    else
      let acted := bit l.cbcActed n
      s.setLaw { l with
        cbcSeen := tabSet 0 l.cbcSeen n w
        cbcRun := tabSet 0 l.cbcRun n (if acted then tabGet 0 l.cbcRun n + 1 else 0)
        cbcLast := setBit l.cbcLast n acted
        cbcActed := setBit l.cbcActed n false }
  s.setMs F.MODE_STATUS_CBC_ACTIVE (s.threadCarriers.any (bit s.law.cbcLast ·))

/-- φ, the angle of v on θ, in turns. -/
def State.phi (s : State) : Rat := atan2R s.law.v.q s.law.v.d

/-- The samples of round A are taken, once a cycle, by the first of OE1, OE6 and OE7 that uses them (Table 2-1). -/
def roundA (s : State) : State :=
  if bit s.law.done 9 then s else sampleRound false (s.setLaw { s.law with done := setBit s.law.done 9 true })

/-- OE1 takes the samples of the cycle and forms the measured quantities. -/
def innerMeasure (s : State) : State :=
  let s := cbcPeriods (removeThreads (sampleRound true (roundA s)))
  let th := s.thetaT
  let vab := clarke (s.vCap 0) (s.vCap 1) (s.vCap 2)
  let v := vab.park th
  let ig := (clarke (s.iGrid 0) (s.iGrid 1) (s.iGrid 2)).park th
  let l := s.law
  let hist := (vab :: l.hist).take (s.nq + 1)
  let old := (listGet {} hist s.nq).rot90
  let v1 := (vab.add old).scale (1 / 2)
  let v2 := (vab.sub old).scale (1 / 2)
  let s := s.setLaw { l with
    vab := vab, v := v, ig := ig, hist := hist, v1 := v1.mag, v2 := v2.park (-th), v2m := v2.mag
    vdc := s.vDcHalf 0 + s.vDcHalf 1
    sumP := l.sumP + (v.d * ig.d + v.q * ig.q), sumQ := l.sumQ + (v.q * ig.d - v.d * ig.q)
    sumV := l.sumV + v.mag, sumPhi := l.sumPhi + atan2R v.q v.d, nSum := l.nSum + 1 }
  let tvi := (s.par Reg.TVI : Rat) / 1000000
  s.setLaw { s.law with
    igf := if tvi = 0 then ig else s.law.igf.add ((ig.sub s.law.igf).scale (min 1 (s.ti / tvi))) }

/-! ## Virtual impedance, references of the voltage loop, limiter -/

/-- The mode whose program the law runs: in HOLD the mode held (R87). -/
def State.lawMode (s : State) : Nat := if s.mode = mHOLD then s.reg Reg.HELD_MODE else s.mode

/-- SATURATE and REVERSE hold θ and force E = V_PC with no virtual impedance. -/
def State.precond (s : State) : Bool :=
  (s.lawMode == mSTART || s.lawMode == mSYNC) && (s.reg Reg.BS_STAGE == 1 || s.reg Reg.BS_STAGE == 2)

/-- The factor on R_v and X_v (R74); in HOLD that of the mode held. -/
def State.kvi (s : State) : Rat :=
  let f := (s.lreg Reg.KVI_FAULT : Rat) / 100
  if s.lawMode = mLIMIT then f
  else
    match s.law.kviAt with
    | none => 1
    | some t => max 1 (f - (f - 1) * seconds (s.now - t) / ((s.lreg Reg.KVI_RET : Rat) / 1000))

/-- v* of the capacitor (02 "Virtual impedance"), with harmonic and probe voltages. -/
def State.vRef (s : State) : Dq :=
  let u := s.law.use
  if s.precond then ⟨s.q15r Reg.V_PC, 0⟩
  else
    let rv := u.rv * s.kvi
    let xv := u.xv * s.kvi * u.omega
    let i := s.law.igf
    let base : Dq := ⟨u.e - rv * i.d + xv * i.q, -(rv * i.q) - xv * i.d⟩
    let orders : List (Nat × Rat) := [(0, -5), (1, 7), (2, -11), (3, 13)]
    let vh := orders.foldl (fun (a : Dq) o =>
      -- each v_h is rotated back to θ: from the angle s_h·h·θ
      a.add (((listGet {} u.vh o.1).unpark (o.2 * s.thetaT)).park s.thetaT)) {}
    (base.add vh).add u.probe

/-- Whether any line thread has V_SAT. -/
def State.lineSat (s : State) : Bool := (List.range 4).any fun t => s.threadIn t && (s.thread t).vsat

/-- The references limited to |i*_1| + |i*_2| ≤ I_LIM_eff (R69): the two vectors and whether a scaling acts. -/
def State.limitRefs (s : State) (i1 i2 : Dq) : Dq × Dq × Bool :=
  let lim := s.iLimEff
  let cut (m : Rat) (i : Dq) : Dq × Bool :=
    let a := i.mag
    if a ≤ m then (i, false) else (i.scale (max 0 m / a), true)
  if s.lreg Reg.NEG_PRIO = 0 then
    let a := cut lim i1
    let b := cut (lim - a.1.mag) i2
    (a.1, b.1, a.2 || b.2)
  else
    let b := cut (min (s.q15r Reg.I2_MAX) lim) i2
    let a := cut (lim - b.1.mag) i1
    (a.1, b.1, a.2 || b.2)

/-- i*_1 of the voltage loop with x = 0 and no residual. -/
def State.vLoopBase (s : State) : Dq :=
  let v := s.law.v
  let ig := s.law.ig
  let w := s.law.use.omega
  let vr := s.vRef
  let kp := (s.par Reg.KP_V : Rat) / 1000
  let bc := s.q15 Reg.BC
  ⟨ig.d + kp * (vr.d - v.d) - w * bc * v.q, ig.q + kp * (vr.q - v.q) + w * bc * v.d⟩

/-- The references before the limiter: i*_1 with the integrator as the last cycle left it (log entry 95), and i*_2, which is zero outside
LIMIT (R76). -/
def State.vLoopRefs (s : State) : Dq × Dq :=
  let k2 := (s.lreg Reg.K2 : Rat) / 100
  (s.vLoopBase.add (s.law.xv.add ⟨s.resid bVd, s.resid bVq⟩),
   if s.mode = mLIMIT then ⟨k2 * s.law.v2.q, -(k2 * s.law.v2.d)⟩ else {})

/-- The law's loops run: in the switching modes and HOLD. -/
def State.loopsRun (s : State) : Bool := s.switching || s.mode == mHOLD

/-- The limiter acts in this inner cycle (R69). -/
def State.limiting (s : State) : Bool := s.loopsRun && (s.limitRefs s.vLoopRefs.1 s.vLoopRefs.2).2.2

/-- The residuals of the voltage loop in a later cycle (R83). -/
def decayVoltage (s : State) : State := if s.loopsRun then decayResid bVd s.ti (decayResid bVq s.ti s) else s

/-- The preset of the voltage loop in the first inner cycle after a hand-over (Table 3-7). -/
def presetVoltage (s : State) : State :=
  if bit s.law.preset 8 && s.loopsRun then
    let bound := s.q15 Reg.IV_INT_MAX
    let y0 := s.vLoopBase
    let out : Dq := if s.law.presetKind = 1 then {} else s.law.iref
    let a := presetBlock bVd out.d y0.d bound s
    let b := presetBlock bVq out.q y0.q bound a.2
    b.2.setLaw { b.2.law with xv := ⟨a.1, b.1⟩, preset := setBit b.2.law.preset 8 false }
  else s

/-! ## Detectors (R67, Table 3-5) -/

/-- The entry condition of a detector; 7 is the holdover bound. -/
def State.detCond (s : State) (d : Nat) : Bool :=
  let l := s.law
  match d with
  | 0 => decide (l.vab.mag < s.q15r Reg.UV_ENTER)
  | 1 => decide (l.v1 < s.q15r Reg.UV_ENTER)
  | 2 => decide (s.q15r Reg.OV_ENTER < l.v1)
  | 3 => decide (s.q15r Reg.V2_ENTER < l.v2m)
  | 4 => decide (turns (s.lreg Reg.PJ_ENTER) < absR (wrapTurn (s.phi - l.phiRef)))
  | 5 => s.limiting
  | 6 => s.threadCarriers.any fun n => decide (0 < tabGet 0 l.cbcRun n)
  | _ => s.holdover

/-- The number of inner cycles, or of carrier periods, for which the condition must hold. -/
def State.detNeed (s : State) (d : Nat) : Nat :=
  let cyc (us : Nat) : Nat := (us * s.par Reg.INNER_RATE + 999999) / 1000000
  match d with
  | 5 => cyc (s.lreg Reg.ILIM_T)
  | 6 => s.lreg Reg.CBC_ENTER
  | 7 => 1
  | _ => cyc (s.lreg Reg.T_DET)

/-- How long it has held. -/
def State.detHeld (s : State) (d : Nat) : Nat :=
  if d = 6 then (s.threadCarriers.map (tabGet 0 s.law.cbcRun ·)).foldl max 0 else tabGet 0 s.law.det d

/-- A detector confirms; the holdover detector has no mask bit. During a soft stop the detectors are disabled (R65). -/
def State.detConfirmed (s : State) (d : Nat) : Bool :=
  s.law.stopAt.isNone && (d == 7 || s.lbit Reg.DET_MASK d) && decide (0 < s.detNeed d) && decide (s.detNeed d ≤ s.detHeld d)

/-- The recovery condition of a detector. -/
def State.recCond (s : State) (d : Nat) : Bool :=
  let l := s.law
  match d with
  | 0 | 1 => decide (s.q15r Reg.UV_EXIT ≤ l.v1)
  | 2 => decide (l.v1 ≤ s.q15r Reg.OV_EXIT)
  | 3 => decide (l.v2m ≤ s.q15r Reg.V2_EXIT)
  | 4 => l.pjN == 0
  | 5 => !s.limiting
  | 6 => !s.ms F.MODE_STATUS_CBC_ACTIVE
  | _ => !s.holdover

/-- Every detector's count, the recovery instants of LIMIT, and FAULT_PRESENT. -/
def detectorsStep (s : State) : State :=
  let live := (s.mode = mFORM || s.mode = mLIMIT) && s.law.stopAt.isNone
  let s := s.setMs F.MODE_STATUS_FAULT_PRESENT ((List.range 8).any s.detCond)
  let s := s.forEach (List.range 8) fun d s =>
    let l := s.law
    s.setLaw { l with det := tabSet 0 l.det d (if live && s.detCond d then tabGet 0 l.det d + 1 else 0) }
  if s.mode = mLIMIT then
    let restart := (List.range 8).any fun d => s.detConfirmed d && s.detHeld d == s.detNeed d
    s.forEach (List.range 8) fun d s =>
      let l := s.law
      let since := tabGet 0 l.recSince d
      let since := if !s.recCond d then 0 else if since = 0 || restart then max 1 s.now else since
      let s := s.setLaw { l with recSince := tabSet 0 l.recSince d since }
      if s.detConfirmed d then s.setReg Reg.LIMIT_CAUSES (setBit (s.reg Reg.LIMIT_CAUSES) d true) else s
  else s

/-- Consecutive inner cycles with v_dc outside its trip limits in a switching mode or HOLD (03, "No thread left …"). -/
def vdcTripStep (s : State) : State :=
  let bad := (s.switching || s.mode = mHOLD)
    && (decide (s.q15r Reg.VDC_TRIP_HI < s.law.vdc) || decide (s.law.vdc < s.q15r Reg.VDC_TRIP_LO))
  s.setLaw { s.law with vdcTrip := if bad then s.law.vdcTrip + 1 else 0 }

/-! ## Stages of START and SYNC at the inner rate (R98, R99) -/

/-- E of the set in use, and of the set that the next inner cycle takes. -/
def setE (e : Rat) (s : State) : State :=
  s.setLaw { s.law with use := { s.law.use with e := e }, next := { s.law.next with e := e } }

/-- RAMP begins at θ = 90° and E = V_POW (R99): θ has that value in the first inner cycle of RAMP. -/
def startRamp (s : State) : State :=
  let s := setStage 3 s
  let s := setE (s.q15r Reg.V_POW) (s.setLaw { s.law with theta := 0x40000000 })
  s.setCad { s.cad with ramped := s.q15r Reg.V_POW, rampDue := false, rampFirst := true }

/-- The inner-rate ends of SATURATE and REVERSE; RAMP begins in the inner cycle after REVERSE has ended (R99). -/
def stageInner (s : State) : State :=
  if s.precond then
    if s.reg Reg.BS_STAGE = 1 then
      if s.iGrid 0 < -(s.q15r Reg.I_PC) then
        (setStage 2 (s.setLaw { s.law with theta := 0 })).setCad { s.cad with volt := 0, stageAt := s.now }
      else s
    else
      let volt := s.cad.volt + 2 * piR * s.fBase * s.law.vab.d * s.ti
      let s := s.setCad { s.cad with volt := volt }
      if s.q15r Reg.KNEE + s.q15r Reg.V_POW ≤ volt then s.setCad { s.cad with rampDue := true } else s
  else s

/-- The voltage loop and limiter of OE1 in a mode with the law switching. The integrator is held while the limiter acts or a line thread has
V_SAT (R48, R69). -/
def voltageLoop (s : State) : State :=
  let ir := s.vLoopRefs
  let r := s.limitRefs ir.1 ir.2
  let bound := s.q15 Reg.IV_INT_MAX
  let ki := (s.par Reg.KI_V : Rat) / 10
  let xv := if r.2.2 || s.lineSat then s.law.xv
    else ((s.law.xv).add ((s.vRef.sub s.law.v).scale (ki * s.ti))).clamp bound
  let s := s.setLaw { s.law with xv := xv, iref := r.1, iref2 := r.2.1 }
  let s := s.setMs F.MODE_STATUS_NEG_SEQ (decide (r.2.1 ≠ {}))
  let s := s.setMs F.MODE_STATUS_KVI_ACTIVE (decide (1 < s.kvi))
  let s := s.setMs F.MODE_STATUS_ILIM r.2.2
  if r.2.2 then s.bump Reg.ILIM_COUNT else s

/-- Two Q15 codes in one word, the first low. -/
def twoQ15 (a b : Rat) : Nat := q15Code a + 65536 * q15Code b

/-- OE1 publishes the words 0x740 to 0x744 (R146). -/
def publish (s : State) : State :=
  let l := s.law
  let s := fabricStore 0x741 (q31Code l.use.omega) (fabricStore 0x740 l.theta s)
  let s := fabricStore 0x743 (twoQ15 l.iref.d l.iref.q) (fabricStore 0x742 (twoQ15 l.v.d l.v.q) s)
  fabricStore 0x744 (l.cycle % 2 ^ 32) s

/-- The comparator thresholds of EC0–EC47 while the law owns them (R72): ±CBC_K × w_t,eff × I_LIM_eff × Î_base in lane codes of
CBC_FS; a CBC_FS of 0 gives no code, so the threshold is a free value then. -/
def cbcThresholds (s : State) : State :=
  if !s.law.cbcOwned then s
  else
    let fs : Rat := s.lreg Reg.CBC_FS
    let code (t : Nat) : Int :=
      if s.lreg Reg.CBC_FS = 0 then sget 16 (s.freeVal 16)
      else satS 16 (roundR ((s.lreg Reg.CBC_K : Rat) / 100 * s.wEff t * s.iLimEff * s.iHat 0 / fs * 32767))
    (s.forEach (List.range 12) fun k s =>
      let neg := if s.par Reg.LEG_TYPE = 0 then 1 else 3
      let c := code (k / 3)
      let s := s.setFld (Reg.CH_CBC (4 * k)) F.CH_CBC_THRESHOLD (sput 16 c)
      s.setFld (Reg.CH_CBC (4 * k + neg)) F.CH_CBC_THRESHOLD (sput 16 (-c))).useFree

/-- The first part of OE1's inner cycle: measured quantities, detectors, DC-link limits. It is done once a cycle. -/
def innerSense (s : State) : State :=
  if s.law.sensed then s
  else
    let s := vdcTripStep (detectorsStep (presetVoltage (decayVoltage (innerMeasure s))))
    s.setLaw { s.law with sensed := true }

/-- The second part: stages, voltage loop, limiter, published words, comparator thresholds. It is done once a cycle. -/
def innerAct (s : State) : State :=
  if bit s.law.done 8 then s
  else
    let s := s.setLaw { s.law with done := setBit s.law.done 8 true }
    publish (cbcThresholds (if s.loopsRun then voltageLoop (stageInner s) else s))

/-! ## Threads: current loops and modulation (R45, R48, R42) -/

/-- θ_c of R45 in turns. The rule names one ω and one ω_base: machine threads are compensated with the speed of the virtual machine and the
line side's F_BASE too (DESIGN CHOICE, log entry 59). -/
def State.thetaC (s : State) (t : Nat) : Rat :=
  if s.par (Reg.DELAY_COMP (t / 4)) = 1 then
    s.law.use.omega * s.fBase * ((1000 + (s.reg Reg.LEAD : Rat)) / 1000000000 + s.ti / 2)
  else 0

/-- What one loop makes in a cycle: its integrator in this cycle and, unless it is held, in the next one, and its output. -/
structure LoopOut where
  x : Rat
  next : Rat
  out : Rat

/-- One current loop: `y0` is the output with x = 0, `err` what it integrates. -/
def loopStep (t j : Nat) (x y0 err : Rat) (preset : Option Rat) (s : State) : LoopOut × State :=
  let bound := s.q15 (Reg.UI_MAX (t / 4))
  let p := match preset with
    | some y => presetBlock (bT t j) y y0 bound s
    | none => (x, decayResid (bT t j) s.ti s)
  (⟨p.1, clampR (-bound) bound (p.1 + (s.par (Reg.KI (t / 4)) : Rat) / 10 * s.ti * err), y0 + p.1 + p.2.resid (bT t j)⟩, p.2)

/-- The circulating-current control of a line thread (02). -/
def circStep (t : Nat) (i0 x : Rat) (preset : Option Rat) (s : State) : LoopOut × State :=
  let bound := s.q15 Reg.U0_MAX
  let y0 := -((s.par Reg.KP0 : Rat) / 1000 * i0)
  let p := match preset with
    | some y => presetBlock (bT t 4) y y0 bound s
    | none => (x, decayResid (bT t 4) s.ti s)
  (⟨p.1, clampR (-bound) bound (p.1 - (s.par Reg.KI0 : Rat) / 10 * s.ti * i0), y0 + p.1 + p.2.resid (bT t 4)⟩, p.2)

/-- What a hand-over presets a thread's outputs to (Table 3-7): from ARMED u* = v (`emf`, what a thread without switching has at its
terminals) and no offset, from START and SYNC the last outputs, after HOLD the voltage of the last transferred compares, of which the negative
sequence makes `neg`; `th` is the angle of the output. -/
def State.threadPreset (s : State) (t : Nat) (th : Rat) (emf neg : Dq) : Option (Dq × Rat) :=
  let x := s.thread t
  if !bit s.law.preset t then none
  else
    match s.law.presetKind with
    | 1 => some (emf, 0)
    | 2 => some (x.u, x.u0)
    | 4 => some ((((s.uHeld t).1).sub neg).park th, (s.uHeld t).2)
    | _ => none

/-- The line thread `t` (OE2–OE5): positive- and negative-sequence current loops, circulating-current control, neutral
point and modulation. Its integrators are held while the thread has V_SAT (R48). -/
def lineThread (t : Nat) (s : State) : State :=
  let th := s.thetaT
  let ia := s.iThread t 0
  let ib := s.iThread t 1
  let ic := s.iThread t 2
  let iab := clarke ia ib ic
  let i := iab.park th
  let inn := iab.park (-th)
  let w := s.wEff t
  let r := s.law.iref.scale w
  let r2 := s.law.iref2.scale w
  let kp := (s.par (Reg.KP 0) : Rat) / 1000
  let wx := s.law.use.omega * s.q15 (Reg.XF 0)
  let v := s.law.v
  let x := s.thread t
  let tc := th + s.thetaC t
  let i0 := (ia + ib + ic) / 3
  -- without switching the thread delivers v alone, else what its negative-sequence loop last gave (Table 3-7)
  let outN (u : Rat) : Option Rat :=
    if !bit s.law.preset t || s.law.presetKind = 4 then none else some (if s.law.presetKind = 1 then 0 else u)
  let c := loopStep t 2 x.xn.d (kp * (r2.d - inn.d) + wx * inn.q) (r2.d - inn.d) (outN x.un.d) s
  let d := loopStep t 3 x.xn.q (kp * (r2.q - inn.q) - wx * inn.d) (r2.q - inn.q) (outN x.un.q) c.2
  let un : Dq := ⟨c.1.out, d.1.out⟩
  let neg := un.unpark (-tc)
  let pre := s.threadPreset t tc v neg
  let a := loopStep t 0 x.xp.d (v.d + kp * (r.d - i.d) - wx * i.q) (r.d - i.d) (pre.map (·.1.d)) d.2
  let b := loopStep t 1 x.xp.q (v.q + kp * (r.q - i.q) + wx * i.d) (r.q - i.q) (pre.map (·.1.q)) a.2
  let u : Dq := ⟨a.1.out, b.1.out⟩
  let uab := (u.unpark tc).add neg
  let unp := s.npOffset (uab.d * iab.d + uab.q * iab.q)
  -- the offset of the held compares holds u_np too
  let z := circStep t i0 x.x0 (pre.map fun y => if s.law.presetKind = 4 then y.2 - unp else y.2) b.2
  let s := z.2
  let s := s.setThread t { x with u := u, un := un, u0 := z.1.out, i := i }
  let s := s.setLaw { s.law with preset := setBit s.law.preset t false }
  let s := s.setReg (Reg.I_THREAD t) (q15Code i.mag)
  let s := modulate t uab.abc z.1.out unp s
  let y := s.thread t
  let f (l : LoopOut) : Rat := if y.vsat then l.x else l.next
  s.setThread t { y with xp := ⟨f a.1, f b.1⟩, xn := ⟨f c.1, f d.1⟩, x0 := f z.1 }

/-- A machine thread below W_MIN_OP has P_mach* = 0 and MACH_LIMIT set (R48); the threads of one machine turn together (log entry 57). -/
def machineSlow (s : State) : State :=
  let s := (s.setLs F.LAW_STATUS_MACH_LIMIT true).setReg Reg.P_MACH_REF (q15Code 0)
  s.setLaw { s.law with use := { s.law.use with pmach := 0 }, next := { s.law.next with pmach := 0 } }

/-- A machine thread (OE6, OE7): the same loop in the rotor frame. The spec gives the flux observer by its bandwidth only, so the angle and
speed it finds are free values (log entry 41). The current is positive into the converter (R10): the resistive, decoupling and back-EMF terms
and KP · (i* − i) keep the signs of the line side's loop, and p_t is u · i with that current (DESIGN CHOICE, log entry 57). -/
def machineThread (t : Nat) (s : State) : State :=
  let x := s.thread t
  let rotor : Rat := (s.freeVal 32 : Rat) / 4294967296
  let s := s.useFree
  let speed : Rat := (sget 32 (s.freeVal 32) : Rat) / 1073741824
  let s := s.useFree
  let s := if absR speed < s.q15 Reg.W_MIN_OP then machineSlow s else s
  let i := (clarke (s.iThread t 0) (s.iThread t 1) (s.iThread t 2)).park rotor
  let psi := s.q15 Reg.PSI_PM
  let r : Dq := ⟨s.q15 Reg.ID_REF, if speed = 0 then 0 else s.law.use.pmach * s.wEff t / (speed * psi)⟩
  let kp := (s.par (Reg.KP 1) : Rat) / 1000
  let rs := s.q15 Reg.RS
  let tc := rotor + s.thetaC t
  let pre := (s.threadPreset t tc ⟨0, speed * psi⟩ {}).map (·.1)
  let a := loopStep t 0 x.xp.d (rs * i.d + kp * (r.d - i.d) - speed * s.q15 Reg.LQ * i.q) (r.d - i.d) (pre.map (·.d)) s
  let b := loopStep t 1 x.xp.q (rs * i.q + speed * psi + kp * (r.q - i.q) + speed * s.q15 Reg.LD * i.d) (r.q - i.q) (pre.map (·.q)) a.2
  let s := b.2
  let u : Dq := ⟨a.1.out, b.1.out⟩
  let unp := s.npOffset (u.d * i.d + u.q * i.q)
  let s := s.setThread t { x with u := u, i := i, rotor := rotor, speed := speed }
  let s := s.setLaw { s.law with preset := setBit s.law.preset t false }
  let s := s.setReg (Reg.I_THREAD t) (q15Code i.mag)
  let s := modulate t (u.unpark tc).abc 0 unp s
  let y := s.thread t
  let f (l : LoopOut) : Rat := if y.vsat then l.x else l.next
  s.setThread t { y with xp := ⟨f a.1, f b.1⟩ }

/-- The threads of a law engine: OE2–OE5 one line thread each, OE6 M0 and M1, OE7 M2 and M3 (Table 2-1). -/
def engineThreads (e : Nat) : List Nat :=
  if e = 6 then [4, 5] else if e = 7 then [6, 7] else if 2 ≤ e ∧ e ≤ 5 then [e - 2] else []

/-- The completion count of R38 is complete: every in-service thread has been counted. -/
def State.innerComplete (s : State) : Bool := (List.range 8).all fun t => !s.threadIn t || bit s.law.done t

/-- Whether the law writes compares in the present mode: it switches, or runs out a soft stop. -/
def State.lawWrites (s : State) : Bool := s.switching

/-- V_SAT shows whether a clamp acts on a thread in service (R36, R54). -/
def showVsat (s : State) : State :=
  s.setLs F.LAW_STATUS_V_SAT ((List.range 8).any fun t => s.threadIn t && (s.thread t).vsat)

/-- The threads of an engine that have not been counted in this inner cycle. -/
def State.engineDue (s : State) (e : Nat) : List Nat :=
  (engineThreads e).filter fun t => s.threadIn t && !bit s.law.done t

/-- The loops of an engine's threads in an inner cycle. -/
def threadLoops (ts : List Nat) (s : State) : State :=
  let s := if ts.any (4 ≤ ·) then roundA s else s
  showVsat (s.forEach ts fun t s => if s.loopsRun then (if t < 4 then lineThread t s else machineThread t s) else s)

/-- What a thread engine does in its inner cycle: its threads' loops, the shadow writes under its own number and cycle, its
increment of the completion count, and the LOAD_ALL of LG0 by the engine whose increment completes it (R38); none in HOLD (R87). -/
def threadEngine (e : Nat) (s : State) : State :=
  let author := some (e, (s.engine e).cycleNo)
  let ts := s.engineDue e
  if ts.isEmpty then s
  else
    let s := threadLoops ts s
    let s := s.forEach ts fun t s =>
      let s := if s.lawWrites && !s.law.stopWait then
          (s.thread t).writes.foldl (fun s w => writeShadow author w.1 w.2 s) s else s
      s.setLaw { s.law with done := setBit s.law.done t true }
    if s.lawWrites && s.innerComplete && !s.law.stopWait then loadAllGroups author 1 s else s

/-- An inner cycle starts: it takes the outer set that the last switch of the buffers has left (R39), and θ advances with its speed (R45) and
by the angle following of R77; not during preconditioning, nor into the first cycle of RAMP (R99). -/
def advanceTheta (s : State) : State :=
  let s := if s.cad.rampDue then startRamp s else s
  let first := s.cad.rampFirst
  let l := s.law
  let s := s.setLaw { l with cycle := l.cycle + 1, done := 0, sensed := false, use := l.next }
  let s := s.setCad { s.cad with rampFirst := false }
  if s.precond then s.setLaw { s.law with theta := if s.reg Reg.BS_STAGE = 1 then 0x80000000 else 0 }
  else if first then s
  else
    let inc := roundR (s.law.use.omega * s.fBase * 4294967296 * s.ti)
    let pj := if l.pjN = 0 then 0 else l.pjLeft / l.pjN
    s.setLaw { s.law with
      theta := sput 32 ((l.theta : Int) + inc + roundR (pj * 4294967296))
      pjLeft := l.pjLeft - pj, pjN := l.pjN - 1 }

end Sys2Proof.Machine
end

