-- ==== Sys2Proof/Machine/LawOuter.lean ====
section
/-!
DEFINITION. The outer rate of the law (02_grid_forming_law.md, 03, 04): what OE0 does at each outer cycle, the chosen values
and their ramps, the grid-strength estimator, and the presets at a hand-over (Table 3-7).
-/

namespace Sys2Proof.Machine

/-! ## DC-link coordination (R49, Table 2-10) -/

/-- H_dc in µs: C_DC · V_dc,base² / (2 · S_base) with V_dc,base² = 8 · V_base² / 3; with S_BASE = 0 the spec states none, and it is 0
(DESIGN CHOICE, log entry 114). -/
def State.hdc (s : State) : Rat :=
  let vb := (s.reg (Reg.V_BASE 0) : Rat)
  (s.par Reg.C_DC : Rat) * 8 * vb * vb / 3 / (2 * (s.reg (Reg.S_BASE 0) : Rat))

/-- P_max,eff and P_min,eff, and whether a band acts. -/
def State.pBand (s : State) : Rat × Rat × Bool :=
  let v := s.law.vdc
  let band := s.q15 Reg.VDC_BAND
  let lo := clampR 0 1 ((v - (s.q15 Reg.VDC_LO - band)) / band)
  let hi := clampR 0 1 (((s.q15 Reg.VDC_HI + band) - v) / band)
  (s.q15 Reg.P_MIN * hi, s.q15 Reg.P_MAX * lo, decide (lo < 1) || decide (hi < 1))

/-- α_w · e_W. -/
def State.dcTerm (s : State) : Rat :=
  let r := s.q15 Reg.VDC_REF
  (s.par Reg.ALPHA_W : Rat) * (s.hdc / 1000000) * (s.law.vdc * s.law.vdc - r * r)

/-! ## Bus-frequency loops (02, R95) -/

/-- One step of a phase-locked loop on v_αβ: angle in turns, frequency and its integrator in pu; `lim` keeps the last two within their
bounds. At |v| = 0 the spec states no e_θ; the model takes 0 (DESIGN CHOICE, log entry 114). -/
def pllStep (s : State) (lim : Rat → Rat) (v : Dq) (th w wi : Rat) : Rat × Rat × Rat :=
  let bw := (s.par Reg.BW_F : Rat) / 10
  let m := v.mag
  let e := if m = 0 then 0 else (v.park th).q / m
  let wi := lim (wi + 2 * piR * bw * bw / s.fBase * s.to * e)
  let w' := lim (wi + 1414 / 1000 * bw / s.fBase * e)
  let th := th + w * s.fBase * s.to
  (th - (th.floor : Int), w', wi)

/-- The bus-side inputs are mapped (R95). -/
def State.extMapped (s : State) : Bool := s.lreg Reg.VB_AB != 0xFF && s.lreg Reg.VB_BC != 0xFF

/-- v_ext,αβ from two line-to-line voltages. -/
def State.vExt (s : State) : Dq :=
  let ab := s.sig (s.lreg Reg.VB_AB) (s.lreg Reg.VB_FS) / s.vHat 0
  let bc := s.sig (s.lreg Reg.VB_BC) (s.lreg Reg.VB_FS) / s.vHat 0
  let a := (2 * ab + bc) / 3
  let b := (bc - ab) / 3
  clarke a b (-a - b)

def State.setBs (s : State) (f : Fld) (b : Bool) : State := s.setFlag Reg.BS_STATUS f b
def State.bs (s : State) (f : Fld) : Bool := s.flag Reg.BS_STATUS f

/-- Since when a condition holds. -/
def sinceWhen (old : Option Instant) (now : Instant) (c : Bool) : Option Instant :=
  if c then some (old.getD now) else none

/-- The frequency that cadence signalling decodes, in Hz: ω_ext where the bus-side inputs are mapped, else ω_bus (R111). -/
def State.cadSource (s : State) : Rat := (if s.extMapped then s.cad.wext else s.law.wbus) * s.fBase

/-- The bus states of Table 4-1, and the cadence receiver that follows its source (R96, R111). -/
def busStates (s : State) : State :=
  let dead := decide (s.law.v1 < s.q15r Reg.DEAD_V) && decide (s.law.vab.mag < s.q15r Reg.DEAD_V)
  let xd := s.extMapped && decide (s.cad.vext < s.q15r Reg.DEAD_V)
  let xl := s.extMapped && decide (s.q15r Reg.LIVE_V ≤ s.cad.vext) && decide (s.q31 Reg.W_MIN ≤ s.cad.wext)
    && decide (s.cad.wext ≤ s.q31 Reg.W_MAX)
  let s := ((s.setBs F.BS_STATUS_DEAD dead).setBs F.BS_STATUS_EXT_DEAD xd).setBs F.BS_STATUS_EXT_LIVE xl
  let c := s.cad
  let s := s.setCad { c with
    deadSince := sinceWhen c.deadSince s.now dead, extDeadSince := sinceWhen c.extDeadSince s.now xd
    extLostSince := sinceWhen c.extLostSince s.now (!xl) }
  let live := s.lreg Reg.CAD_EN == 1 && s.mode != mBASECAMP
    && (if s.extMapped then xl else decide (s.q15r Reg.LIVE_V ≤ s.law.v1))
  if live then
    let s := if s.cad.rx then s
      else s.setCad { s.cad with rx := true, slotRef := s.now, frameAt := none, heard := 0, readyHeard := false, samples := [] }
    -- what a frame and the idle time before it need is kept
    s.setCad { s.cad with
      samples := (s.now, s.cadSource) :: s.cad.samples.takeWhile fun x => decide (s.now < x.1 + sec 8) }
  else if s.cad.rx then s.setCad { s.cad with rx := false, frameAt := none, own := false }
  else s

/-! ## Voltage regulator -/

/-- The voltage reference of the Q–V droop. -/
def State.eRef (s : State) : Rat := s.q15r Reg.V_SET - (s.par Reg.MQ : Rat) / 10000 * (s.law.qf - s.q15r Reg.Q_SET)

/-- E for a value of x_vr, and whether the clamp acts (02, "Reactive power and voltage"). -/
def State.eOut (s : State) (x : Rat) : Rat × Bool :=
  if s.par Reg.VR_MODE = 0 then (s.eRef, false)
  else
    let e := s.eRef + (s.par Reg.KP_VR : Rat) / 1000 * (s.eRef - s.law.vcf) + x
    let c := clampR (s.q15 Reg.E_MIN) (s.q15 Reg.E_MAX) e
    (c, c != e)

/-- The next x_vr: it is held while the clamp on E acts and in LIMIT (R46, R75). -/
def State.xvrNext (s : State) : Rat :=
  if s.par Reg.VR_MODE = 0 ∨ (s.eOut s.law.xvr).2 = true ∨ s.lawMode = mLIMIT then s.law.xvr
  else
    clampR (-(s.q15 Reg.DE_MAX)) (s.q15 Reg.DE_MAX) (s.law.xvr + (s.par Reg.KI_VR : Rat) / 10 * s.to * (s.eRef - s.law.vcf))

/-! ## Outer cycle -/

/-- Averages over the outer period, their filters and the bus loops. H_DC is renewed here, at OE0's END (DESIGN CHOICE, log entry 114). -/
def outerMeasure (s : State) : State :=
  let l := s.law
  let n : Rat := max 1 (l.nSum : Rat)
  let a := min 1 (s.to / ((s.par Reg.TPQ : Rat) / 1000000))
  let pe := l.sumP / n
  let qe := l.sumQ / n
  let vc := l.sumV / n
  -- ω_bus and its integrator stay within W_MIN and W_MAX (Table 2-13); ω_ext has no such bound (R95, R96)
  let b := pllStep s (clampR (s.q31 Reg.W_MIN) (s.q31 Reg.W_MAX)) l.vab l.thetaBus l.wbus l.wbusInt
  let c := s.cad
  let x := pllStep s id s.vExt c.theta c.wext c.wextInt
  let s := s.setCad { c with theta := x.1, wext := x.2.1, wextInt := x.2.2, vext := s.vExt.mag }
  let s := s.setLaw { l with
    pf := l.pf + a * (pe - l.pf), qf := l.qf + a * (qe - l.qf), vcf := l.vcf + a * (vc - l.vcf), vc := vc
    thetaBus := b.1, wbus := b.2.1, wbusInt := b.2.2
    phiRef := l.sumPhi / n, sumP := 0, sumQ := 0, sumV := 0, sumPhi := 0, nSum := 0 }
  let s := ((s.setReg Reg.P_E (q15Code pe)).setReg Reg.Q_E (q15Code qe)).setReg Reg.V_C (q15Code vc)
  let s := ((s.setReg Reg.V1 (q15Code l.v1)).setReg Reg.V2 (q15Code l.v2m)).setReg Reg.VDC (q15Code l.vdc)
  let s := (s.setReg Reg.V_EXT (q15Code s.vExt.mag)).setReg Reg.OMEGA_EXT (q31Code s.cad.wext)
  setOpen Reg.H_DC 32 false s.hdc (s.setReg Reg.OMEGA_BUS (q31Code b.2.1))

/-- The harmonic voltages v_h = −RH_h · i_h of the enabled orders (02 "Virtual impedance"). -/
def harmonics (s : State) : List Dq × List Dq :=
  let orders : List (Nat × Rat × Nat) := [(0, -5, Reg.RH5), (1, 7, Reg.RH7), (2, -11, Reg.RH11), (3, 13, Reg.RH13)]
  let a := min 1 (s.to / ((s.par Reg.THV : Rat) / 1000))
  let iab := s.law.ig.unpark s.thetaT
  let ih := orders.map fun o =>
    let old := listGet {} s.law.ih o.1
    if bit (s.par Reg.HVI_MASK) o.1 then old.add (((iab.park (o.2.1 * s.thetaT)).sub old).scale a) else {}
  (ih, (List.zip orders ih).map fun x => x.2.scale (-(s.q15 x.1.2.2)))

/-- Δφ of the synchronising controller in turns: the capacitor voltage against v_ext with VG_SHIFT (04). -/
def State.dPhi (s : State) : Rat :=
  wrapTurn (atan2R s.law.vab.q s.law.vab.d - (atan2R s.vExt.q s.vExt.d + turns (s.lreg Reg.VG_SHIFT)))

/-- MATCH or CLOSE_WAIT. -/
def State.matching (s : State) : Bool := s.lawMode == mSYNC && (s.reg Reg.BS_STAGE == 6 || s.reg Reg.BS_STAGE == 7)

/-- The speed, E and governor power of an outer cycle (R44, R75, R99, R109, SYNC controller). -/
def pacer (s : State) : State :=
  let l := s.law
  let mp := (s.par Reg.MP : Rat) / 10000
  let wref := s.q31r Reg.F_SET
  let pdc := if s.par Reg.EC_MODE = 0 then s.dcTerm else 0
  let target := s.q15r Reg.P_SET + pdc
  let step := (s.lreg Reg.P_SLEW : Rat) / 1000 * s.to
  let psetr := clampR (l.psetr - step) (l.psetr + step) target
  let band := s.pBand
  let tg := (s.par Reg.TG : Rat) / 1000
  let gov := psetr + (wref - l.omega) / mp
  let pm := if s.matching then l.pf else if tg = 0 then gov else l.pm + min 1 (s.to / tg) * (gov - l.pm)
  let pmc := clampR band.1 band.2.1 pm
  let s := ((s.setLs F.LAW_STATUS_P_LIM (pmc != pm)).setLs F.LAW_STATUS_DC_LIMIT band.2.2)
  let out := pmc + s.resid bPm + s.cad.offset / mp
  let s := decayResid bPm s.to s
  let d := s.chosen.2.2
  let h := (s.par Reg.H : Rat) / 1000
  let dw := s.to / (2 * h) * (out - l.pf - d * (l.omega - l.wbus))
  let w0 := if s.matching then
      let dphi := s.dPhi * 2 * piR
      let lim := s.q31r Reg.DW_SYNC
      clampR (s.cad.wext - lim) (s.cad.wext + lim) (s.cad.wext - (s.lreg Reg.K_PH : Rat) / 1000000 * dphi)
    else l.omega + dw
  let w1 := if s.lawMode = mLIMIT then clampR (l.wbus - s.q31r Reg.DW_LIM) (l.wbus + s.q31r Reg.DW_LIM) w0 else w0
  let w := clampR (s.q31 Reg.W_MIN) (s.q31 Reg.W_MAX) w1
  let s := s.setLs F.LAW_STATUS_FREQ_LIM (w != w1)
  let s := s.setLaw { s.law with psetr := psetr, pm := pmc, omega := w }
  (s.setReg Reg.P_M (q15Code out)).setReg Reg.OMEGA (q31Code w)

/-- E of RAMP: it rises to V_SET at (V_SET − V_POW) / RAMP_T, not while HOLD is heard (R99). -/
def rampE (s : State) : Rat × State :=
  let held := s.bs F.BS_STATUS_HOLD_HEARD
  let s := s.setBs F.BS_STATUS_RAMP_HELD held
  let vset := s.q15r Reg.V_SET
  let rate := (vset - s.q15r Reg.V_POW) / ((s.lreg Reg.RAMP_T : Rat) / 1000)
  let e := if held then s.cad.ramped else min vset (s.cad.ramped + rate * s.to)
  let s := s.setCad { s.cad with ramped := e, heldFor := s.cad.heldFor + (if held then s.to else 0) }
  if vset ≤ e then (e, (setStage (if s.lawMode = mSTART then 4 else 5) s).setBs F.BS_STATUS_RAMP_HELD false) else (e, s)

/-- E of the synchronising controller (R103), and whether the clamp acts. -/
def syncE (s : State) : Rat × State :=
  let e := s.cad.e0 + s.cad.xsv
  let c := clampR (s.q15 Reg.E_MIN) (s.q15 Reg.E_MAX) e
  let x := clampR (-(s.q15 Reg.DE_MAX)) (s.q15 Reg.DE_MAX) (s.cad.xsv + (s.lreg Reg.KI_SV : Rat) / 10 * s.to * (s.cad.vext - s.law.vcf))
  (c, (s.setCad { s.cad with xsv := x }).setLs F.LAW_STATUS_E_LIM (c != e))

/-- E of the Q–V droop and the voltage regulator with the residual of a hand-over; E_LIM shows the clamp (R46). -/
def droopE (s : State) : Rat × State :=
  let r := s.eOut s.law.xvr
  let s := (s.setLaw { s.law with xvr := s.xvrNext }).setLs F.LAW_STATUS_E_LIM r.2
  let e := r.1 + s.resid bE
  (e, decayResid bE s.to s)

/-- E of the outer cycle, by mode and stage: V_PC in SATURATE and REVERSE (R98). -/
def outerE (s : State) : Rat × State :=
  let st := s.reg Reg.BS_STAGE
  if (s.lawMode = mSTART || s.lawMode = mSYNC) && decide (1 ≤ st) && decide (st ≤ 4) then
    let s := s.setLs F.LAW_STATUS_E_LIM false
    if st = 3 then rampE s else (if s.precond then s.q15r Reg.V_PC else s.law.next.e, s)
  else if s.matching then syncE s
  else droopE s

/-- An in-service machine thread turns below W_MIN_OP (R48; log entry 57). -/
def State.slow (s : State) : Bool :=
  s.loopsRun && (List.range 4).any fun i => s.threadIn (4 + i) && decide (absR (s.thread (4 + i)).speed < s.q15 Reg.W_MIN_OP)

/-- P_mach* (Table 2-10): mode 0 takes the power available from the turbine controller; below W_MIN_OP it is 0 (R48). -/
def State.pMach (s : State) : Rat × Bool :=
  if s.slow then (0, true)
  else if s.par Reg.EC_MODE = 1 then
    let p := s.law.pf - s.dcTerm
    let c := clampR (s.q15r Reg.P_MACH_MIN) (s.q15r Reg.P_MACH_MAX) p
    (c, c != p)
  else if s.par Reg.EC_MODE = 0 then (s.q15r Reg.P_MACH_MAX, false)
  else (0, false)

/-! ## Estimator (R50) -/

/-- A window starts. -/
def estStart (s : State) : State :=
  s.setLaw { s.law with est := { on := true, startAt := s.now, p0 := s.q15r Reg.P_SET, q0 := s.q15r Reg.Q_SET,
                                 chipAt := s.now, lastAt := s.law.est.lastAt } }

/-- One step of a 10-bit shift register with taps 10 and k. -/
def lfsr (k x : Nat) : Nat := (x * 2) % 1024 + (x / 512 + x / 2 ^ (k - 1)) % 2

/-- ±1 from the register's last stage. -/
def chipSign (x : Nat) : Rat := if x / 512 % 2 = 1 then 1 else -1

/-- The probe voltages of the present chip. -/
def State.probe (s : State) : Dq :=
  if s.law.est.on then
    (⟨chipSign s.law.est.lfsrD, chipSign s.law.est.lfsrQ⟩ : Dq).scale (s.q15 Reg.PROBE_AMP)
  else {}

/-- The estimator at an outer cycle: it starts and stops, drops a window that the setpoints disturb, averages each chip. -/
def estStep (s : State) : State :=
  let s := estGate s
  if !s.estRuns then s
  else
    let e := s.law.est
    let moved := decide (s.q15 Reg.DP_WIN < absR (s.q15r Reg.P_SET - e.p0)) || decide (s.q15 Reg.DP_WIN < absR (s.q15r Reg.Q_SET - e.q0))
    let s := s.setReg Reg.EST_STATE (if s.ls F.LAW_STATUS_EST_STALE then 3 else if e.lastAt.isSome then 2 else 1)
    if !e.on || moved then estStart s
    else
      let e := { e with sumV := e.sumV.add s.law.v, sumI := e.sumI.add s.law.ig, n := e.n + 1 }
      let e := if e.chipAt + ms (s.par Reg.CHIP) ≤ s.now then
          let k : Rat := 1 / (max 1 e.n : Nat)
          { e with
            chips := (⟨chipSign e.lfsrD, chipSign e.lfsrQ⟩, e.sumV.scale k, e.sumI.scale k) :: e.chips
            sumV := {}, sumI := {}, n := 0, chipAt := s.now, lfsrD := lfsr 7 e.lfsrD, lfsrQ := lfsr 3 e.lfsrQ }
        else e
      s.setLaw { s.law with est := e }

/-- A window is discarded and a new one starts. -/
def estDiscard (s : State) : State := if s.law.est.on then estStart s else s

/-! ## The outer cycle as a whole -/

/-- IN_SYNC clears in the outer cycle in which a condition fails (R104). -/
def syncDrop (s : State) : State :=
  if s.bs F.BS_STATUS_IN_SYNC && s.cad.inWinSince.isNone then
    (s.setBs F.BS_STATUS_IN_SYNC false).setCad { s.cad with clearedAt := some s.now }
  else s

/-- What OE0 does in an outer cycle; the buffers switch at its END on time (R39). V1_MIN takes V1 once an outer cycle: Table 3-14 does not say
at which rate (DESIGN CHOICE, log entry 114). -/
def outerLaw (s : State) : State :=
  let s := busStates (outerMeasure s)
  if s.mode = mBASECAMP then s
  else
    let s := estStep s
    -- in HOLD the program runs on (R87)
    let r := if s.loopsRun then outerE (pacer s) else (s.law.next.e, s)
    let s := r.2
    let pmc := s.pMach
    let s := s.setLs F.LAW_STATUS_MACH_LIMIT pmc.2
    let hv := harmonics s
    let c := s.chosen
    let set : OuterSet := { omega := s.law.omega + s.resid bOmega, e := r.1, rv := c.1, xv := c.2.1, vh := hv.2, pmach := pmc.1, probe := s.probe }
    let s := decayResid bOmega s.to s
    let s := s.setLaw { s.law with ih := hv.1, next := set }
    let s := (s.setReg Reg.E (q15Code r.1)).setReg Reg.P_MACH_REF (q15Code pmc.1)
    let s := s.setReg Reg.THETA (s.law.theta / 65536)
    let s := s.setReg Reg.DPHI (angleCode s.dPhi)
    let s := if s.mode = mLIMIT then s.setReg Reg.V1_MIN (min (s.reg Reg.V1_MIN) (q15Code s.law.v1)) else s
    let c := s.cad
    let s := s.setCad { c with
      settleSince := sinceWhen c.settleSince s.now (s.mode == mSTART && s.reg Reg.BS_STAGE == 4
        && decide (absR (s.law.v1 - s.q15r Reg.V_SET) ≤ s.q15r Reg.V_TOL))
      ilimSince := sinceWhen c.ilimSince s.now (s.ms F.MODE_STATUS_ILIM)
      inWinSince := sinceWhen c.inWinSince s.now (s.matching && !s.bs F.BS_STATUS_HOLD_HEARD
        && decide (absR s.dPhi ≤ turns (s.lreg Reg.SYNC_PHI)) && decide (absR (s.cad.vext - s.law.vcf) ≤ s.q15r Reg.SYNC_DV)
        && decide (absR (s.law.omega - s.cad.wext) ≤ s.q31r Reg.SYNC_DW)) }
    syncDrop (reportChosen s)

/-! ## Hand-over presets (R83, R84, Table 3-7) -/

/-- The preset of ω within its limits, the rest as a residual (R84). -/
def presetOmega (w : Rat) (s : State) : State :=
  let c := clampR (s.q31 Reg.W_MIN) (s.q31 Reg.W_MAX) w
  let s := s.setResid bOmega (w - c)
  s.setLaw { s.law with omega := c, use := { s.law.use with omega := w }, next := { s.law.next with omega := w } }

/-- The outer blocks at entry to FORM: P_set,r, P_m, x_vr; `pOut` and `eOut` are the outgoing P_m and E. Without the regulator E has no
integrator. -/
def presetOuter (pOut eOut : Rat) (s : State) : State :=
  let band := s.pBand
  let pm := clampR band.1 band.2.1 pOut
  let s := s.setResid bPm (pOut - pm)
  let s := s.setLaw { s.law with psetr := s.law.pf, pm := pm }
  let r := presetBlock bE eOut (s.eOut 0).1 (if s.par Reg.VR_MODE = 0 then 0 else s.q15 Reg.DE_MAX) s
  setE eOut (r.2.setLaw { r.2.law with xvr := r.1 })

/-- The inner blocks are preset at their first cycle. -/
def presetInner (kind : Nat) (s : State) : State :=
  s.setLaw { s.law with preset := if kind = 3 then 0xFF else if kind = 4 then 0xFF else 0x1FF, presetKind := kind }

/-- The hand-over into FORM from ARMED, START or SYNC (Table 3-7). -/
def handoverForm (fromArmed : Bool) (s : State) : State :=
  let s := if fromArmed then
      let th := atan2R s.law.vab.q s.law.vab.d
      presetOmega s.law.wbus (s.setLaw { s.law with theta := sput 32 (roundR (th * 4294967296)) })
    else s
  -- P_m of START and SYNC goes on from what its governor delivered, with its residual (R85)
  presetInner (if fromArmed then 1 else 2)
    (presetOuter (if fromArmed then s.law.pf else s.law.pm + s.resid bPm) (if fromArmed then s.law.vcf else s.law.next.e) s)

end Sys2Proof.Machine
end

