-- ==== Sys2Proof/Machine/ModeChecks.lean ====
section
/-!
DEFINITION. The conditions of the mode transitions (03_ride_through_and_modes.md, Table 3-2; 04_black_start_and_cadence.md,
Tables 4-1 to 4-4), the entries into FORM, LIMIT, START and SYNC, and the checks of APPLY (Table 2-3).
-/

namespace Sys2Proof.Machine

/-! ## APPLY (R40, Table 2-3) -/

/-- Signal-map entries of the staged set. -/
def State.mapEntries (s : State) : List Nat :=
  ((List.range 20).map (fun i => s.reg (0x330000 + i + 1)) ++ (List.range 8).map fun i => s.reg (0x330100 + i + 1)).filter (· != 0xFF)

/-- A list names a number twice. -/
def hasDup : List Nat → Bool
  | [] => false
  | x :: t => t.contains x || hasDup t

/-- Whether a staged value differs from the active one. -/
def State.changed (s : State) (k : Nat) : Bool := s.reg k != s.par k

/-- The first failing check of the staged set. -/
def State.applyCheck (s : State) : Nat :=
  let r := s.reg
  let fixed := (List.range 6).map (fun i => 0x301000 + i + 1) ++ (List.range 23).map (fun i => 0x330000 + i + 1)
    ++ (List.range 9).map fun i => 0x330100 + i + 1
  let sg (k : Nat) : Int := sget 16 (r k)
  let sg32 (k : Nat) : Int := sget 32 (r k)
  let orders : List (Nat × Nat) := [(0, 5), (1, 7), (2, 11), (3, 13)]
  let inSide (side : Nat) : Bool := r Reg.THREAD_MASK / 16 ^ side % 16 != 0
  if s.mode != mBASECAMP && fixed.any s.changed then 1
  else if r Reg.INNER_RATE % max 1 (r Reg.OUTER_RATE) != 0 || r Reg.INNER_RATE % max 1 (2 * r Reg.CARRIER_FREQ) != 0 then 2
  else if r Reg.D_MIN > r Reg.D_MAX || sg32 Reg.W_MIN > sg32 Reg.W_MAX || sg Reg.P_MIN > sg Reg.P_MAX
      || sg Reg.E_MIN > sg Reg.E_MAX || sg Reg.RV_MIN > sg Reg.RV_MAX || sg Reg.XV_MIN > sg Reg.XV_MAX then 3
  else if r Reg.TPQ * r Reg.OUTER_RATE < 1000000 then 4
  else if orders.any fun o => bit (r Reg.HVI_MASK) o.1 && decide (r Reg.OUTER_RATE < 4 * o.2 * r (Reg.F_BASE 0)) then 5
  else if r Reg.EC_MODE == 1 && !inSide 1 then 6
  else if hasDup s.mapEntries then 7
  else if (inSide 0 && s.sideUnset 0) || (inSide 1 && s.sideUnset 1) then 8
  else 0

/-! ## Breaker (R63) -/

/-- A value of BRK_STATE written at `at_` is older than `age` ms, where there is a limit. -/
def brkAged (at_ age now : Nat) : Bool := age != 0 && decide (at_ + Sys2Proof.ms age < now)
/-- BRK_STATE as it reads back: the value written last, unknown past the age in use (R63, R91). -/
def State.brkRead (s : State) : Nat :=
  if brkAged s.law.brkAt (s.lreg Reg.BRK_MAXAGE) s.now then 0xFF else s.reg Reg.BRK_STATE
/-- BRK_STATE as policy acts on it: unknown past its age (R63, R91). -/
def State.brk (s : State) : Nat :=
  if brkAged s.law.brkUse (s.lreg Reg.BRK_MAXAGE) s.now then 0xFF else s.lreg Reg.BRK_STATE

/-! ## Conditions of START and SYNC (R97, R103, Table 4-4) -/

/-- A condition has held for a time. -/
def heldFor (since : Option Instant) (d now : Instant) : Bool := since.any fun t => decide (t + d ≤ now)

def State.dcLow (s : State) : Bool := decide (s.law.vdc < s.q15r Reg.VDC_MIN_FORM)

/-- The lowest failing code of Table 4-4 for a START command. Table 4-4 has none for a frame start that was heard; it counts as 2, DEAD not
held (DESIGN CHOICE, log entry 92). -/
def State.startFail (s : State) : Nat :=
  let d := Sys2Proof.ms (s.lreg Reg.DEAD_T)
  let heard := s.lreg Reg.CAD_EN == 1 && (s.cad.frameAt.any fun t => decide (s.now < t + d))
    || s.lreg Reg.CAD_EN == 1 && s.cad.lastStart.any fun t => decide (s.now < t + d)
  if s.brk != 1 then 1
  else if !heldFor s.cad.deadSince d s.now || heard then 2
  else if s.extMapped && !heldFor s.cad.extDeadSince d s.now then 3
  else if s.dcLow then 5
  else 0

/-- The lowest failing code for a SYNC command from ARMED or from FORM. Without bus-side inputs EXT_LIVE is false (R96), so that code 4 comes
before code 8. -/
def State.syncFail (s : State) (fromForm : Bool) : Nat :=
  if s.brk != 0 then 1
  else if !s.bs F.BS_STATUS_EXT_LIVE then 4
  else if !fromForm && s.dcLow then 5
  else if !fromForm && s.lreg Reg.CAD_EN == 1 && s.lreg Reg.REQUIRE_TURN == 1
      && !(s.bs F.BS_STATUS_HAS_TURN && !s.bs F.BS_STATUS_RESYNC_ACTIVE) then 6
  else if fromForm && s.lreg Reg.ISLANDED != 1 then 7
  else if !s.extMapped then 8
  else 0

/-- The refusal code of Table 3-4 for a condition code of Table 4-4. -/
def condCode (c : Nat) : Nat := match c with | 1 => 6 | 2 | 3 | 4 => 7 | 5 => 8 | _ => 1

/-- The abort code of START at an outer cycle (R101). -/
def State.startAbort (s : State) : Nat :=
  let st := s.reg Reg.BS_STAGE
  let early := decide (st ≤ 2)
  let maxT := sec (s.lreg Reg.START_MAX_T) + (roundR (s.cad.heldFor * (sec 1 : Nat))).toNat
  if s.mode != mSTART then 0
  else if early && (s.cad.deadSince.isNone || (s.extMapped && s.cad.extDeadSince.isNone)) then 9
  else if st == 1 && decide (s.cad.stageAt + Sys2Proof.ms (s.lreg Reg.PRE_TMAX) < s.now) then 10
  else if heldFor s.cad.ilimSince (Sys2Proof.ms (s.lreg Reg.START_ILIM_T)) s.now then 11
  else if s.cad.startAt + maxT < s.now then 12
  else if s.brk != 1 then 13
  else if s.holdover then 16
  else 0

/-- The abort code of SYNC (R106). -/
def State.syncAbort (s : State) : Nat :=
  let st := s.reg Reg.BS_STAGE
  let raising := decide (1 ≤ st) && decide (st ≤ 3)
  let inWin := st == 7 && (s.bs F.BS_STATUS_IN_SYNC
    || s.cad.clearedAt.any fun t => decide (s.now ≤ t + Sys2Proof.ms (s.lreg Reg.CLOSE_WIN)))
  if s.mode != mSYNC then 0
  else if raising && st == 1 && decide (s.cad.stageAt + Sys2Proof.ms (s.lreg Reg.PRE_TMAX) < s.now) then 10
  else if raising && heldFor s.cad.ilimSince (Sys2Proof.ms (s.lreg Reg.START_ILIM_T)) s.now then 11
  else if s.cad.startAt + sec (s.lreg Reg.SYNC_MAX_T) < s.now then 12
  else if raising && s.brk != 0 then 13
  else if !raising && s.brk == 1 && !inWin then 14
  else if heldFor s.cad.extLostSince (Sys2Proof.ms 100) s.now then 15
  else if s.holdover then 16
  else 0

/-- An abort of START or SYNC to ARMED with static-off at once (R102, R107). -/
def abortTo (code : Nat) (s : State) : State := (backToArmed 26 s).setReg Reg.COND_FAIL code

/-! ## Cadence queue (R118 to R120) -/

/-- A message is queued: up to four frames. -/
def cadQueue (m : Nat) (s : State) : State :=
  if s.cad.queue.length < 4 then
    let s := s.setCad { s.cad with queue := s.cad.queue ++ [m] }
    s.setReg Reg.CAD_CMD s.cad.queue.length
  else s

/-! ## Entries -/

/-- Entry into FORM. -/
def enterForm (cause : Nat) (s : State) : State :=
  let fromArmed := s.mode == mARMED
  estDiscard (setStage 0 (handoverForm fromArmed (recordMode mFORM cause s)))

/-- START begins (R97 to R99) with ω at F_SET, for which the spec gives no preset (DESIGN CHOICE, log entry 92); P_set,r, P_m, x_vr and the
integrators of the inner loops, for which Table 3-7 has no row, stay as they were (DESIGN CHOICE, log entry 114); SYNC from ARMED runs the same stages on the unit's own transformer (R103). -/
def enterStart (mode : Nat) (s : State) : State :=
  let s := recordMode mode 1 s
  let s := s.setCad { s.cad with startAt := s.now, heldFor := 0, settled := false, settleSince := none, ilimSince := none, fromForm := false }
  let s := presetOmega (s.q31r Reg.F_SET) s
  if s.lreg Reg.PRE_EN = 1 then setStage 1 (setE (s.q15r Reg.V_PC) (s.setLaw { s.law with theta := 0x80000000 }))
  else startRamp s

/-- SYNC from FORM begins at TX_WAIT (R103); with cadence enabled it queues RESYNC (R119). -/
def enterSyncFromForm (s : State) : State :=
  let s := recordMode mSYNC 1 s
  let s := s.setCad { s.cad with startAt := s.now, heldFor := 0, xsv := 0, fromForm := true, owesDone := s.lreg Reg.CAD_EN == 1, inWinSince := none, clearedAt := none }
  let s := if s.lreg Reg.CAD_EN = 1 then cadQueue 4 s else s
  setStage 5 s

/-- START ends in FORM (R100); the turn master's first frames are queued (R118), with cadence signalling enabled only (DESIGN CHOICE, log
entry 92). -/
def startComplete (s : State) : State :=
  let s := (enterForm 25 s).setOwn Reg.ISLANDED 1
  if s.lreg Reg.CAD_EN = 1 && s.lreg Reg.AUTO_MASTER = 1 then cadQueue 2 (cadQueue 1 s) else s

/-- SYNC ends in FORM (R105, R119). -/
def syncComplete (s : State) : State :=
  let s := if !s.cad.fromForm && s.cad.readyHeard then s.setOwn Reg.ISLANDED 1 else s
  let owes := s.cad.fromForm && s.cad.owesDone
  let s := (enterForm 25 s).setBs F.BS_STATUS_IN_SYNC false
  if s.lreg Reg.ISLANDED = 1 ∨ owes = true then cadQueue 5 s else s

/-- BRK_STATE has become 1 in synchronism (R105). -/
def State.syncDone (s : State) : Bool :=
  s.mode == mSYNC && s.reg Reg.BS_STAGE == 7 && s.brk == 1
    && (s.bs F.BS_STATUS_IN_SYNC || s.cad.clearedAt.any fun t => decide (s.now ≤ t + Sys2Proof.ms (s.lreg Reg.CLOSE_WIN)))

/-- Entry into LIMIT with the lowest-numbered confirming detector (R67). -/
def enterLimit (s : State) : State :=
  match (List.range 8).find? s.detConfirmed with
  | none => s
  | some d =>
    let mask := maskOf ((List.range 8).filter s.detConfirmed)
    let s := (recordMode mLIMIT (d + 2) s).bump Reg.LIMIT_COUNT
    let s := (s.setReg Reg.LIMIT_CAUSES mask).setReg Reg.V1_MIN (q15Code s.law.v1)
    (s.setLaw { s.law with limitAt := s.now, kviAt := none, ovSince := none, holdoverSince := none })

/-- A confirmed phase jump is recorded and, with PJ_MODE = 1, its excess is followed (R77); what is left of an earlier jump's excess is given
up, which the spec does not state (DESIGN CHOICE, log entry 114). -/
def phaseJump (s : State) : State :=
  let dphi := wrapTurn (s.phi - s.law.phiRef)
  let s := s.setReg Reg.PJ_LAST (angleCode dphi)
  let keep := turns (s.lreg Reg.PJ_KEEP)
  if s.lreg Reg.PJ_MODE = 1 ∧ keep < absR dphi then
    let ex := absR dphi - keep
    let n := max 1 ((s.lreg Reg.PJ_TIME * s.par Reg.INNER_RATE + 999999) / 1000000)
    (s.setLaw { s.law with pjLeft := if dphi < 0 then -ex else ex, pjN := n }).setMs F.MODE_STATUS_PJ_FOLLOW true
  else s

/-- LIMIT is entered in the inner cycle in which a detector confirms in FORM; a confirmed phase jump is recorded and followed,
in LIMIT too (R67, R77). -/
def limitEntry (s : State) : State :=
  let jump := (s.mode == mFORM || s.mode == mLIMIT) && s.detConfirmed 4 && s.detHeld 4 == s.detNeed 4
  let s := if s.mode = mFORM && s.holds then enterLimit s else s
  if jump then phaseJump s else s

/-- What OE1 does in an inner cycle. -/
def innerLaw (s : State) : State := innerAct (limitEntry (innerSense s))

/-- Every recovery condition has held for REC_T (R81). -/
def State.recovered (s : State) : Bool :=
  s.mode == mLIMIT && (List.range 8).all fun d =>
    let t := tabGet 0 s.law.recSince d
    t != 0 && decide (t + Sys2Proof.ms (s.lreg Reg.REC_T) ≤ s.now)

/-- Return from LIMIT to FORM (R81): the impedance factor starts to ramp, the negative-sequence
integrators are preset. -/
def leaveLimit (s : State) : State :=
  let s := presetInner 3 (recordMode mFORM 10 s)
  s.setLaw { s.law with kviAt := some s.now, ovSince := none, holdoverSince := none }

/-- The ride-through profile at a time since LIMIT entry in ms (R78): piecewise linear through the six points; from a time that points share
on the curve starts at the highest of them; the last voltage after the last point. Before the first point's time the spec states no value;
the model takes that point's voltage (DESIGN CHOICE, log entry 79). -/
def State.profile (s : State) (t : Rat) : Rat :=
  let pt (i : Nat) : Rat × Rat := ((s.lreg (Reg.PT_TIME i) : Rat), s.q15r (Reg.PT_V i))
  -- the voltage that the curve has from the time of point i on
  let from_ (i : Nat) : Rat := ((List.range 6).filter fun j => (pt j).1 == (pt i).1).foldl (fun v j => max v (pt j).2) (pt i).2
  let seg (i : Nat) : Option Rat :=
    let a := pt i
    let b := pt (i + 1)
    if a.1 ≤ t ∧ t < b.1 then some (from_ i + (b.2 - from_ i) * (t - a.1) / (b.1 - a.1)) else none
  match (List.range 5).findSome? seg with
  | some v => v
  | none => if t < (pt 0).1 then (pt 0).2 else from_ 5

/-- Below the profile (cause 11). -/
def State.belowProfile (s : State) : Bool :=
  s.mode == mLIMIT && decide (s.law.v1 < s.profile (seconds (s.now - s.law.limitAt) * 1000))

/-- Engine faults on law engines. -/
def State.lawFaulted (s : State) : Bool := (List.range 16).any fun e => s.lawEngine e && (s.engine e).faulted

/-- The cause of HOLD (R86): 17, 15 or 16. -/
def State.holdCause (s : State) : Nat :=
  if !s.switching then 0
  else if s.lawFaulted then 17
  else if s.lreg Reg.MISS_N ≤ s.reg Reg.MISS_RUN then 15
  else if s.lreg Reg.OUTER_MISS_N ≤ s.law.outerMissRun then 16
  else 0

/-- The cause of BASECAMP among those of policy (Table 3-2, R88). -/
def State.basecampCause (s : State) : Nat :=
  if s.mode = mBASECAMP then 0
  else if s.ls F.LAW_STATUS_SENSOR_FAULT then 21
  else if s.noThreadLeft then 23
  else if 4 ≤ s.law.vdcTrip then 24
  else if s.mode = mHOLD ∧ s.law.holdAt + Sys2Proof.ms (s.lreg Reg.HOLD_TIME) ≤ s.now then 20
  else 0

/-- The cause of LIMIT to BASECAMP (R78, R80). -/
def State.limitCause (s : State) : Nat :=
  if s.mode != mLIMIT then 0
  else if s.belowProfile then 11
  else if heldFor s.law.ovSince (Sys2Proof.ms (s.lreg Reg.OV_TRIP_T)) s.now then 12
  else if s.law.limitAt + Sys2Proof.ms (s.lreg Reg.LIMIT_MAX_T) ≤ s.now then 13
  else if heldFor s.law.holdoverSince (Sys2Proof.ms (s.lreg Reg.HOLDOVER_T)) s.now then 14
  else 0

/-- OV_TRIP and the holdover bound are timed while in LIMIT. -/
def limitTimers (s : State) : State :=
  let l := s.law
  s.setLaw { l with
    ovSince := sinceWhen l.ovSince s.now (s.mode == mLIMIT && decide (s.q15r Reg.OV_TRIP < l.v1))
    holdoverSince := sinceWhen l.holdoverSince s.now (s.mode == mLIMIT && s.holdover) }

/-- HOLD ends (R89): the recovery run, one outer cycle on time, no ENGINE_FAULT outstanding. -/
def State.holdEnds (s : State) : Bool :=
  s.mode == mHOLD && decide (s.lreg Reg.HOLD_RECOVER ≤ s.law.recRun) && s.law.outerOk && !s.lawFaulted

def leaveHold (s : State) : State :=
  let held := s.reg Reg.HELD_MODE
  presetInner 4 (recordMode held 18 s)

/-! ## Mode commands (R56 to R58, Table 3-2) -/

/-- The three PLLs are locked. -/
def State.pllsLocked (s : State) : Bool := (List.range 3).all fun p => s.fld (Reg.PLL_STATUS p) F.PLL_STATUS_STATE == 3

/-- VDRV in range: no driver holds VDRV_UV. -/
def State.vdrvOk (s : State) : Bool := !s.flag (Reg.LD_STATUS 0) F.LD_STATUS_VDRV_UV

/-- The refusal code of an ARMED command in BASECAMP (Table 3-2); VDRV out of range counts as gate supply (log entry 42). -/
def State.armFail (s : State) : Nat :=
  if s.ls F.LAW_STATUS_BASES_UNSET || (!s.builtin && s.lreg Reg.LAW_ENGINES == 0) then 2
  else if !s.pllsLocked then 3
  else if s.protectionLatched then 5
  else if !s.vdrvOk then 4
  else 0

/-- V_c, ω_bus, the DC link and the bus conditions as policy sees them at a command. They are the built-in law's measurements; while it is
disabled no rule says where policy has them from, and they are free (log entry 93). -/
def measured (s : State) : State :=
  if s.builtin then s
  else
    let pu (s : State) : Rat := (sget 32 (s.freeVal 32) : Rat) / 65536
    let s := (s.setLaw { s.law with vc := pu s }).useFree
    let s := (s.setLaw { s.law with wbus := pu s }).useFree
    let s := (s.setLaw { s.law with vdc := pu s }).useFree
    let s := (s.setCad { s.cad with deadSince := if s.freeVal 1 = 1 then some 0 else none }).useFree
    let s := (s.setCad { s.cad with extDeadSince := if s.freeVal 1 = 1 then some 0 else none }).useFree
    (s.setBs F.BS_STATUS_EXT_LIVE (decide (s.freeVal 1 = 1))).useFree

/-- Table 3-2 has a row from a mode to a commanded mode that a command starts. -/
def rowFrom (m v : Nat) : Bool :=
  if v = mBASECAMP then m != mBASECAMP
  else if v = mARMED then m == mBASECAMP || (decide (mFORM ≤ m) && decide (m ≤ mSYNC))
  else if v = mFORM ∨ v = mSTART then m == mARMED
  else v == mSYNC && (m == mARMED || m == mFORM)

/-- A command to FORM, START or SYNC for which Table 3-2 has a row. A START or SYNC that fails a condition of Table 4-4 records its code
in COND_FAIL (R107); one refused for another reason leaves COND_FAIL alone (DESIGN CHOICE, log entry 92). -/
def runSwitching (v : Nat) (s : State) : State :=
  let m := s.mode
  if v = mFORM then
    if s.brk != 1 then cmdRefused 6 s
    else if s.law.vc < s.q15r Reg.LIVE_V || s.law.wbus < s.q31 Reg.W_MIN || s.q31 Reg.W_MAX < s.law.wbus then cmdRefused 7 s
    else if s.dcLow then cmdRefused 8 s
    else cmdDone (enterForm 1 s)
  else if v = mSTART then
    if s.startFail != 0 then cmdRefused (condCode s.startFail) (s.setReg Reg.COND_FAIL s.startFail)
    else cmdDone (enterStart mSTART s)
  else
    let f := s.syncFail (m == mFORM)
    if f != 0 then cmdRefused (condCode f) (s.setReg Reg.COND_FAIL f)
    else cmdDone (if m = mFORM then enterSyncFromForm s else enterStart mSYNC s)

/-- The refusal of a command without a row (R57, Table 3-4): code 11 where an automatic transition after its acceptance took away the row it
then had, else 1. -/
def State.noRowCode (s : State) (v : Nat) (seen : Nat × Nat) : Nat :=
  if seen.2 ≠ s.law.autoSeq ∧ rowFrom seen.1 v = true then 11 else 1

/-- Policy executes a command (R56 to R58); `seen` is the mode in which it was accepted, and the automatic transitions up to then. A soft
stop refuses a command to the present mode too, as R58 says of every other command (log entry 44). -/
def runCommand (v : Nat) (seen : Nat × Nat) (s : State) : State :=
  let m := s.mode
  if !s.holds then cmdRefused 10 s
  else if v ≠ mBASECAMP ∧ (m = mHOLD ∨ s.ms F.MODE_STATUS_STOPPING = true) then cmdRefused 9 s
  else if v = m then cmdDone s
  else if !rowFrom m v then cmdRefused (s.noRowCode v seen) s
  else if v = mBASECAMP then cmdDone (enterBasecamp 1 s)
  else if v = mARMED then
    if m = mBASECAMP then
      if s.armFail != 0 then cmdRefused s.armFail s
      else armIfReady (armBegin s)
    else (s.setMs F.MODE_STATUS_STOPPING true).setLaw { s.law with stopAt := some s.now, stopWait := false }
  else runSwitching v (measured s)

/-- The oldest pending command, once the one in execution has ended; commands of a journal replay are refused with code 12
(R62). -/
def nextCommand (s : State) : State :=
  let s := if s.law.cmds.any (·.2.1) then
      cmdRefused 12 (s.setLaw { s.law with cmds := s.law.cmds.filter fun c => !c.2.1 }) else s
  -- on the way to standby no command is executed: it would leave BASECAMP (R29; log entry 94)
  if s.arming.isSome || s.sup.standbyAt.isSome then s
  else
    match s.law.cmds with
    | [] => s
    | (v, _, seen) :: rest => runCommand v seen (s.setLaw { s.law with cmds := rest })

/-- A mode command enters the policy queue (R56). -/
def queueCommand (v : Nat) (replay : Bool) (s : State) : State :=
  (s.setReg Reg.MODE_CMD 1).setLaw { s.law with cmds := s.law.cmds ++ [(v, replay, s.mode, s.law.autoSeq)] }

end Sys2Proof.Machine
end

