-- ==== Sys2Proof/Machine/CadOps.lean ====
section
/-!
DEFINITION. Cadence signalling (04_black_start_and_cadence.md, R108 to R121): the symbols of a frame, who may send, what a valid
frame does, the turn master.
-/

namespace Sys2Proof.Machine

/-! ## Frames (R109, R110, R115) -/

/-- The 12 symbols of a frame of unit `u` with message `m` (Table 4-5). -/
def cadSymbols (u m : Nat) : List Bool :=
  let b (v i : Nat) : Bool := bit v i
  [true, false, b u 3, b u 2, b u 1, b u 0, b m 3, b m 2, b m 1, b m 0,
    xor (xor (b u 3) (b u 1)) (xor (b m 3) (b m 1)), xor (xor (b u 2) (b u 0)) (xor (b m 2) (b m 0))]

/-- The queue of messages with CAD_CMD, which reads its length. -/
def setCadQueue (q : List Nat) (s : State) : State := (s.setCad { s.cad with queue := q }).setReg Reg.CAD_CMD q.length

/-- Own unit number. -/
def State.unitId (s : State) : Nat := s.lreg Reg.UNIT_ID

/-- Modes in which a unit may transmit (R115). -/
def State.mayTransmit (s : State) : Bool :=
  s.mode == mSTART || s.mode == mSYNC
    || (s.mode == mFORM && s.lreg Reg.ISLANDED == 1 && s.lreg Reg.CAD_FORM_EN == 1)

/-- The offset at an outer-cycle start: the symbol of the frame in progress, or zero; a frame of 12 symbols is complete after 4.8 s
(R109, R115). -/
def cadOffset (s : State) : State :=
  match s.cad.txAt, s.cad.queue with
  | some t, m :: _ =>
    if !s.mayTransmit then txStop s
    else
      let k := (s.now - t) / Sys2Proof.ms 400
      if 12 ≤ k then
        ((s.setCad { s.cad with txAt := none, offset := 0 }).setBs F.BS_STATUS_TX_ACTIVE false).bump Reg.TX_COUNT
      else
        let df : Rat := (s.lreg Reg.DF : Rat) / 1000 / s.fBase
        s.setCad { s.cad with offset := if listGet false (cadSymbols s.unitId m) k then df else -df }
  | some _, [] => txStop s
  | none, _ => s.setCad { s.cad with offset := 0 }

/-! ## Receiver (R111, R112, R114) -/

/-- N_FORM: units heard since the receiver started, one more while this unit forms, at least 1. -/
def refreshNForm (s : State) : State :=
  let own := if s.mode = mFORM ∨ s.mode = mSTART ∨ s.mode = mSYNC then 1 else 0
  s.setReg Reg.N_FORM (max 1 (popCount 16 s.cad.heard + own))

/-- A frame start has been detected since the slot reference. -/
def State.frameSince (s : State) : Bool := s.cad.frameAt.any fun t => decide (s.cad.slotRef ≤ t)

/-- The frame whose start was detected has ended: it is the slot reference. -/
def frameEnded (t : Instant) (s : State) : State := s.setCad { s.cad with slotRef := t, frameAt := none, lastStart := s.cad.frameAt }

/-! ## Decoding from the source frequency (R112, R113; log entry 99) -/

/-- The decision threshold T_dec in Hz (R112). -/
def State.tDec (s : State) : Rat := (s.lreg Reg.DEC_K : Rat) / 100 * (s.lreg Reg.DF : Rat) / 1000 / (max 1 (s.reg Reg.N_FORM) : Nat)

/-- The mean of the samples in an interval of time; none without one. -/
def meanIn (l : List (Instant × Rat)) (a b : Instant) : Option Rat :=
  let x := (l.filter fun y => decide (a ≤ y.1) && decide (y.1 < b)).map Prod.snd
  if x.isEmpty then none else some (x.foldl (· + ·) 0 / (x.length : Rat))

/-- Whether a sample is the first one of a frame: for 800 ms before it the deviation from their mean stayed within ±T_dec, and from it on
above +T_dec for 100 ms, which have passed. It answers the instant of detection and the baseline. -/
def frameFirst (T : Rat) (now : Instant) (later : List (Instant × Rat)) (x : Instant × Rat) (before : List (Instant × Rat)) :
    Option (Instant × Rat) :=
  let idle := before.filter fun y => decide (x.1 ≤ y.1 + Sys2Proof.ms 800)
  match meanIn idle 0 x.1 with
  | none => none
  | some b =>
    let quiet := idle.all fun y => decide (y.2 - b ≤ T) && decide (-T ≤ y.2 - b)
    let above := (x :: later.filter fun y => decide (y.1 ≤ x.1 + Sys2Proof.ms 100)).all fun y => decide (T < y.2 - b)
    if quiet && above && (before.any fun y => decide (y.1 + Sys2Proof.ms 800 ≤ x.1)) && decide (x.1 + Sys2Proof.ms 100 ≤ now) then
      some (x.1 + Sys2Proof.ms 100, b) else none

/-- The latest frame start among samples, newest first. -/
def frameSearch (T : Rat) (now : Instant) : List (Instant × Rat) → List (Instant × Rat) → Option (Instant × Rat)
  | _, [] => none
  | later, x :: t => match frameFirst T now later x t with
    | some r => some r
    | none => frameSearch T now (x :: later) t

/-- A frame start that the deviation shows: its detection and baseline. -/
def State.frameSeen (s : State) : Option (Instant × Rat) := frameSearch s.tDec s.now [] s.cad.samples

/-- The first zero crossing from above among samples, oldest first. -/
def zeroFall : List (Instant × Rat) → Option Instant
  | x :: y :: t => if 0 < x.2 ∧ y.2 ≤ 0 then some y.1 else zeroFall (y :: t)
  | _ => none

/-- t_x of the frame in progress: between 200 ms and 800 ms after its detection at `d`. -/
def State.frameTx (s : State) (d : Instant) : Option Instant :=
  let dev := s.cad.samples.reverse.map fun y => (y.1, y.2 - s.cad.baseline)
  zeroFall (dev.filter fun y => decide (d + Sys2Proof.ms 200 ≤ y.1) && decide (y.1 ≤ d + Sys2Proof.ms 800))

/-- Symbol k of a frame with t_x; none is an erasure. -/
def State.frameSymbol (s : State) (tx : Instant) (k : Nat) : Option Bool :=
  let start := tx + k * Sys2Proof.ms 400
  match meanIn s.cad.samples (start + Sys2Proof.ms 200 - Sys2Proof.ms 400) (start + Sys2Proof.ms 380 - Sys2Proof.ms 400) with
  | none => none
  | some v => if s.tDec < v - s.cad.baseline then some true else if v - s.cad.baseline < -s.tDec then some false else none

/-- Unit and message of a frame: without an erasure, with its sync pair and its check. -/
def State.frameDecode (s : State) (tx : Instant) : Option (Nat × Nat) :=
  let y := (List.range 12).map (s.frameSymbol tx)
  let num (a : Nat) : Nat := ((List.range 4).map fun i => 2 ^ (3 - i) * b2n (listGet none y (a + i) == some true)).foldl (· + ·) 0
  if y == (cadSymbols (num 2) (num 6)).map some then some (num 2, num 6) else none

/-- The frame in progress where it has ended: the instant of its end, t_x + 4.4 s, and what it reads. Without a zero crossing it ends 800 ms
after its detection, and nothing is read. -/
def State.frameRead (s : State) : Option (Instant × Option (Nat × Nat)) :=
  match s.cad.frameAt with
  | none => none
  | some d =>
    if !s.cad.rx || !s.frameSince then none
    else
      match s.frameTx d with
      | some tx => if tx + Sys2Proof.ms 4400 ≤ s.now then some (tx + Sys2Proof.ms 4400, s.frameDecode tx) else none
      | none => if d + Sys2Proof.ms 800 < s.now then some (d + Sys2Proof.ms 800, none) else none

/-- A frame that is read is discarded where its code is reserved or its unit is not in PEER_MASK (R113). -/
def State.frameBad (s : State) (u m : Nat) : Bool := m == 0 || decide (6 ≤ m) || !bit (s.lreg Reg.PEER_MASK) u

/-! ## Access (R116, R118) -/

/-- A collision of the oldest frame; after CAD_RETRY of them it is dropped (R116). -/
def cadCollision (s : State) : State :=
  let n := s.cad.collisions + 1
  let s := (s.setCad { s.cad with own := false, collisions := n }).bump Reg.TX_COLLIDE
  if s.lreg Reg.CAD_RETRY ≤ n then
    (setCadQueue (s.cad.queue.drop 1) (s.setCad { s.cad with collisions := 0 })).setBs F.BS_STATUS_CAD_FAIL true
  else s

/-- The turn master with AUTO_MASTER and units left. -/
def State.leads (s : State) : Bool :=
  s.lreg Reg.CAD_EN == 1 && s.lreg Reg.AUTO_MASTER == 1 && s.bs F.BS_STATUS_MASTER && !s.bs F.BS_STATUS_ALL_JOINED

/-- The turn master queues ENERGISE_NEXT, or HOLD in its place while DC_LIMIT or MACH_LIMIT is set (R118). -/
def queueNext (s : State) : State :=
  if !s.leads then s
  else if s.ls F.LAW_STATUS_DC_LIMIT || s.ls F.LAW_STATUS_MACH_LIMIT then
    cadQueue 3 (s.setCad { s.cad with owed := true })
  else cadQueue 2 (s.setCad { s.cad with owed := false })

/-- ENERGISE_NEXT follows a HOLD once both flags are clear and HOLD_T has passed. -/
def queueOwed (s : State) : State :=
  if s.cad.owed && !s.bs F.BS_STATUS_HOLD_HEARD && !s.ls F.LAW_STATUS_DC_LIMIT && !s.ls F.LAW_STATUS_MACH_LIMIT
      && !s.cad.queue.contains 3 then queueNext s
  else s

/-! ## What a valid frame does (R117, Table 4-6) -/

/-- JOINED with a unit added; the unit counts as heard. -/
def joined (u : Nat) (s : State) : State :=
  let s := s.setRegBit Reg.JOINED u true
  refreshNForm (s.setCad { s.cad with heard := setBit s.cad.heard u true })

/-- READY from `u`. -/
def hearReady (u : Nat) (s : State) : State :=
  let s := s.setCad { s.cad with readyHeard := true }
  let s := (joined u s).setBs F.BS_STATUS_MASTER (u == s.unitId)
  (s.setReg Reg.TURN_PTR u).setOwn Reg.ISLANDED 1

/-- ENERGISE_NEXT: the turn goes to the lowest peer above TURN_PTR that has not joined. -/
def hearNext (u : Nat) (s : State) : State :=
  let p := s.reg Reg.TURN_PTR
  let next := (List.range 16).find? fun v =>
    decide (p < v) && bit (s.lreg Reg.PEER_MASK) v && !s.regBit Reg.JOINED v
  let s := if u = s.unitId then s.setCad { s.cad with joinBy := some (s.now + Sys2Proof.sec (s.lreg Reg.JOIN_T)) } else s
  match next with
  | some v => (s.setReg Reg.TURN_PTR v).setBs F.BS_STATUS_HAS_TURN (v == s.unitId)
  | none =>
    let s := (s.setReg Reg.TURN_PTR 0xFF).setBs F.BS_STATUS_ALL_JOINED true
    (s.setBs F.BS_STATUS_HAS_TURN false).setCad { s.cad with joinBy := none, owed := false }

/-- HOLD: HOLD_HEARD for HOLD_T, a ramp is held, IN_SYNC clears. -/
def hearHold (s : State) : State :=
  let s := (s.setBs F.BS_STATUS_HOLD_HEARD true).setCad { s.cad with holdUntil := s.now + Sys2Proof.sec (s.lreg Reg.HOLD_T), inWinSince := none }
  let ramp := (s.mode == mSTART || s.mode == mSYNC) && s.reg Reg.BS_STAGE == 3
  syncDrop (if ramp then s.setBs F.BS_STATUS_RAMP_HELD true else s)

/-- RESYNC from `u`. -/
def hearResync (u : Nat) (s : State) : State :=
  (s.setBs F.BS_STATUS_RESYNC_ACTIVE true).setCad { s.cad with resyncBy := u, resyncUntil := s.now + Sys2Proof.sec (s.lreg Reg.RESYNC_T) }

/-- DONE from `u`: it has joined; it ends its own RESYNC. The turn master goes on after a DONE of the unit with the turn (R118). -/
def hearDone (u : Nat) (s : State) : State :=
  let turn := s.reg Reg.TURN_PTR == u
  let s := joined u s
  let s := if s.bs F.BS_STATUS_RESYNC_ACTIVE && s.cad.resyncBy == u then
      (s.setBs F.BS_STATUS_RESYNC_ACTIVE false).setOwn Reg.ISLANDED 0 else s
  if turn then queueNext (s.setCad { s.cad with joinBy := none }) else s

/-- The frame in progress ends at `e` and is discarded; while an own frame is judged, that is a collision (R113, R116). -/
def frameDrop (e : Instant) (s : State) : State :=
  let s := (frameEnded e s).bump Reg.RX_DISCARD
  if s.cad.own then cadCollision s else s

/-- The frame in progress ends at `e` with message `m` of unit `u`. While an own frame is judged, another frame is a collision; the own one
leaves the queue (R116, R117). -/
def frameTake (m u : Nat) (e : Instant) (apply_ : State → State) (s : State) : State :=
  let s := frameEnded e s
  let s := (((s.bump Reg.RX_VALID).setReg Reg.LAST_RX (u * 256 + m)).setReg Reg.LAST_RX_TIME (s.time64At e))
  let mine := s.cad.own && u == s.unitId && s.cad.queue.head? == some m
  if s.cad.own && !mine then
    let s := cadCollision s
    if u = s.unitId then s else apply_ s
  else if mine then
    apply_ (setCadQueue (s.cad.queue.drop 1) (s.setCad { s.cad with own := false, collisions := 0 }))
  else apply_ (if u = s.unitId then s.setBs F.BS_STATUS_DUP_UNIT true else s)

/-- A frame of message `m` from unit `u`: it acts where the frame in progress has ended and reads so (R113, R117); one of a unit outside
PEER_MASK is discarded. -/
def cadFrame (m u : Nat) (t : Instant) (apply_ : State → State) (s : State) : State :=
  let n := s.advance t
  match n.frameRead with
  | some (e, some r) => if r = (u, m) then (if n.frameBad u m then frameDrop e n else frameTake m u e apply_ n) else s
  | _ => s

/-- A frame that fails its checks, carries a reserved code or comes from a unit outside PEER_MASK has ended (R113, R116). -/
def cadDiscard (t : Instant) (s : State) : State :=
  let n := s.advance t
  match n.frameRead with
  | some (e, none) => frameDrop e n
  | some (e, some r) => if n.frameBad r.1 r.2 then frameDrop e n else s
  | none => s

/-- A command that queues a message (R120): refused while the queue is full; it clears CAD_FAIL. -/
def actCadCmd (m : Nat) (s : State) : State × Nat :=
  if s.cad.queue.length < 4 then (cadQueue m (s.setBs F.BS_STATUS_CAD_FAIL false), 0) else (s, 6)

/-- CAD_EN = 0 at an outer-cycle start (R121). -/
def cadOff (s : State) : State :=
  let s := setCadQueue [] (txStop s)
  let s := s.setCad { s.cad with rx := false, own := false, offDue := false, frameAt := none, collisions := 0, owed := false, joinBy := none }
  [F.BS_STATUS_HAS_TURN, F.BS_STATUS_MASTER, F.BS_STATUS_RESYNC_ACTIVE, F.BS_STATUS_HOLD_HEARD, F.BS_STATUS_RAMP_HELD].foldl
    (fun s f => s.setBs f false) s

end Sys2Proof.Machine
end

