-- ==== Sys2Proof/Machine/Cadence.lean ====
section
/-!
DEFINITION. The commands of cadence signalling (04_black_start_and_cadence.md, R111 to R121).
-/

namespace Sys2Proof.Machine

/-- FRAME_START_DETECT: the deviation has stayed above +T_dec for 100 ms, after 800 ms within ±T_dec (R113). -/
def execFrameStartDetect (t : Instant) (s : State) : Host.Outcome State Fault Refusal :=
  let n := s.advance t
  match n.frameSeen with
  | some (d, b) => if s.cad.rx && !s.frameSince && decide (s.cad.slotRef ≤ d) then .next (n.setCad { n.cad with frameAt := some d, baseline := b }) else .next s
  | none => .next s

/-- CAD_SLOT_START: the unit's own slot begins; it starts its oldest frame if it may transmit, has detected no frame start since the
slot reference, and no RESYNC of another unit is active (R114, R115, R117, R118). -/
def execCadSlotStart (t : Instant) (s : State) : Host.Outcome State Fault Refusal :=
  let slot := Sys2Proof.ms 400
  let from_ := s.cad.slotRef + Sys2Proof.ms 800 + s.unitId * slot
  let at_ := decide (from_ ≤ t) && (t - from_) % (16 * slot) == 0
  let blocked := (s.bs F.BS_STATUS_RESYNC_ACTIVE && s.cad.resyncBy != s.unitId)
    || (s.cad.queue.head? == some 2 && s.bs F.BS_STATUS_HOLD_HEARD)
  if at_ && decide (s.now ≤ t) && s.cad.rx && s.lreg Reg.CAD_EN == 1 && s.mayTransmit && !s.frameSince && s.cad.txAt.isNone
      && !s.cad.queue.isEmpty && !blocked then
    let s := s.advance t
    .next ((s.setCad { s.cad with txAt := some t, own := true }).setBs F.BS_STATUS_TX_ACTIVE true)
  else .next s

/-- READY from `u`, whose frame ends at `t`. -/
def execCadReady (u : Fin 16) (t : Instant) (s : State) : Host.Outcome State Fault Refusal := .next (cadFrame 1 u t (hearReady u) s)
def execCadEnergiseNext (u : Fin 16) (t : Instant) (s : State) : Host.Outcome State Fault Refusal := .next (cadFrame 2 u t (hearNext u) s)
def execCadHold (u : Fin 16) (t : Instant) (s : State) : Host.Outcome State Fault Refusal := .next (cadFrame 3 u t hearHold s)
def execCadResync (u : Fin 16) (t : Instant) (s : State) : Host.Outcome State Fault Refusal := .next (cadFrame 4 u t (hearResync u) s)
def execCadDone (u : Fin 16) (t : Instant) (s : State) : Host.Outcome State Fault Refusal := .next (cadFrame 5 u t (hearDone u) s)

/-- FRAME_DISCARD: the decoded frame fails its checks. -/
def execFrameDiscard (t : Instant) (s : State) : Host.Outcome State Fault Refusal := .next (cadDiscard t s)

/-- HOLD_T_EXPIRY: HOLD_HEARD clears (R117). -/
def execHoldTExpiry (t : Instant) (s : State) : Host.Outcome State Fault Refusal :=
  let s' := s.advance t
  if s.bs F.BS_STATUS_HOLD_HEARD && decide (s.cad.holdUntil ≤ s'.now) then
    .next (queueOwed ((s'.setBs F.BS_STATUS_HOLD_HEARD false).setBs F.BS_STATUS_RAMP_HELD false))
  else .next s

/-- RESYNC_T_EXPIRY: RESYNC_ACTIVE clears (R117). -/
def execResyncTExpiry (t : Instant) (s : State) : Host.Outcome State Fault Refusal :=
  let s' := s.advance t
  if s.bs F.BS_STATUS_RESYNC_ACTIVE && decide (s.cad.resyncUntil ≤ s'.now) then .next (s'.setBs F.BS_STATUS_RESYNC_ACTIVE false) else .next s

/-- JOIN_T_EXPIRY: the unit with the turn has not joined; the turn master queues ENERGISE_NEXT again (R118). -/
def execJoinTExpiry (t : Instant) (s : State) : Host.Outcome State Fault Refusal :=
  let s' := s.advance t
  if s.cad.joinBy.any fun d => decide (d ≤ s'.now) then .next (queueNext (s'.setCad { s'.cad with joinBy := none })) else .next s

def execCadCmdReady (s : State) : Host.Outcome State Fault Refusal := .next (actCadCmd 1 s).1
def execCadCmdEnergiseNext (s : State) : Host.Outcome State Fault Refusal := .next (actCadCmd 2 s).1
def execCadCmdHold (s : State) : Host.Outcome State Fault Refusal := .next (actCadCmd 3 s).1
def execCadCmdResync (s : State) : Host.Outcome State Fault Refusal := .next (actCadCmd 4 s).1
def execCadCmdDone (s : State) : Host.Outcome State Fault Refusal := .next (actCadCmd 5 s).1

/-- A write of CAD_EN (R116, R121): it clears CAD_FAIL; setting it is refused outside BASECAMP and ARMED. Its effects follow at the
next outer-cycle start. -/
def actCadEn (v : Nat) (s : State) : State × Nat :=
  if v = 1 ∧ s.mode ≠ mBASECAMP ∧ s.mode ≠ mARMED then (s, stState)
  else
    let off := s.cad.offDue || (v == 0 && s.reg Reg.CAD_EN == 1)
    (((s.setReg Reg.CAD_EN v).setBs F.BS_STATUS_CAD_FAIL false).setCad { s.cad with offDue := off }, stOK)

/-- CAD_EN_CLEAR: CAD_EN = 0, accepted in every mode. -/
def execCadEnClear (s : State) : Host.Outcome State Fault Refusal := .next (stored Reg.CAD_EN 0 (actCadEn 0 s))

end Sys2Proof.Machine
end

