-- ==== Sys2Proof/Machine/Clocks.lean ====
section
/-!
DEFINITION. The commands of the clocks, the timebase, network time and the time alarms (11_clocks_and_time.md). TIME_ALARM
itself stands with the engines.
-/

namespace Sys2Proof.Machine

/-- PLL_LOCKED: the criterion of R300 is met, 256 reference periods of 40 ns after the band search of 6 µs at the earliest and 100 µs after
the start at the latest, or after a re-engagement, with a reference on XIN; `band` is the band found. -/
def execPllLocked (p : Fin 3) (band : BitVec 16) (t : Instant) (s : State) : Host.Outcome State Fault Refusal :=
  let st := s.pll p
  let from_ := tabGet 0 s.clk.lockAt p
  if s.clkFlag F.CLK_STATUS_XIN_LOST then .next s
  else if (st = 1 ∨ st = 2) ∧ from_ + ns 16240 ≤ t ∧ t ≤ from_ + us 100 then .next (pllLocked p band.toNat (s.advance t))
  else if st = 5 then .next (pllLocked p 0 (s.advance t))
  else .next s

/-- PLL_LOSS_OF_LOCK (R303). -/
def execPllLossOfLock (p : Fin 3) (t : Instant) (s : State) : Host.Outcome State Fault Refusal :=
  if s.pll p = 3 then .next (holdoverNoRef (pllLose p (s.advance t))) else .next s

/-- XIN_LOST: no edge for 200 ns; every PLL enters holdover (R303 to R305). -/
def execXinLost (t : Instant) (s : State) : Host.Outcome State Fault Refusal :=
  if s.clkFlag F.CLK_STATUS_XIN_LOST then .next s
  else
    let s := ((s.advance t).setFlag Reg.CLK_STATUS F.CLK_STATUS_XIN_LOST true).setFlag Reg.CLK_STATUS F.CLK_STATUS_XIN_SEEN true
    let s := s.bump Reg.XIN_LOSSES
    let s := s.forEach (List.range 3) fun p s => if s.pll p = 3 then pllLose p s else if s.pll p = 5 then pllHoldover p s else s
    .next (holdoverNoRef s)

/-- XIN_RESTORED: edges for 1 ms without a gap (R304). -/
def execXinRestored (t : Instant) (s : State) : Host.Outcome State Fault Refusal :=
  .next ((s.advance t).setFlag Reg.CLK_STATUS F.CLK_STATUS_XIN_LOST false)

/-- The frequency error of a window in steps of 625 ppb (R305): DCO edges counted over 25,000 XIN periods, feedback ratio. -/
def windowError (count : Nat) (ratio : Rat) (s : State) : Int × State :=
  let q := s.openRound (((count : Rat) / (ratio * 25000) - 1) * 1600000)
  (q.1 * 625, q.2)

/-- FREQ_WINDOW_END: the DCO edges counted in a window by PLL-A, PLL-B and the cores of PLL-C; `limits` names the PLLs whose loop
would need a word outside the held band (R305, R306). -/
def execFreqWindowEnd (a b c0 c1 : Nat) (limits : BitVec 3) (t : Instant) (s : State) : Host.Outcome State Fault Refusal :=
  if s.clkFlag F.CLK_STATUS_XIN_LOST then .next s
  else
    let s := s.advance t
    let ea := windowError a 64 s
    let eb := windowError b (64 * (1 + s.clk.rate / 1000000000)) ea.2
    let e0 := windowError c0 250 eb.2
    let e1 := windowError c1 64 e0.2
    let s := e1.2
    let ec := if e0.1.natAbs < e1.1.natAbs then e1.1 else e0.1
    let errs : List Int := [ea.1, eb.1, ec]
    let s := s.forEach (List.range 3) fun p s => s.setReg (Reg.FREQ_ERR p) (sput 32 (listGet 0 errs p))
    let inside (p : Nat) : Bool := decide ((listGet 0 errs p).natAbs ≤ s.reg Reg.HOLDOVER_BOUND * 1000)
    let held := (List.range 3).filter fun p => s.pll p == 4
    let s := ditherMoves s
    let s := setHoldover (!held.all inside) s
    .next (s.forEach (held.filter inside) fun p s =>
      if s.flag (Reg.PLL_STATUS p) F.PLL_STATUS_BAND_LIMIT then s
      else if bit limits.toNat p then s.setFlag (Reg.PLL_STATUS p) F.PLL_STATUS_BAND_LIMIT true
      else pllReengage p s)

/-- RELOCK (R307). -/
def actRelock (mask : Nat) (s : State) : State × Nat :=
  let ab := bit mask 0 || bit mask 1
  let engines := (List.range 16).any fun e => s.reg (Reg.ENABLE e) == 1
  let carriers := (List.range 16).any fun n => (tabGet {} s.pwm.carriers n).running
  let groups := (List.range 8).any fun n => s.flag (Reg.SQ_CFG n) F.SQ_CFG_EN
  let recs := (List.range 4).any fun n => s.flag (Reg.RC_CFG n) F.RC_CFG_EN
  let live := (List.range 64).any fun k => s.fld (Reg.GL_STATUS k) F.GL_STATUS_STATE == 3
  if s.reg Reg.MODE ≠ 0 ∨ (ab ∧ (engines ∨ carriers ∨ groups)) ∨ (bit mask 2 ∧ (recs ∨ live)) then (s.setReg Reg.RELOCK 3, stState)
  else
    let l := bitsOf 3 mask
    -- a RELOCK in progress goes on beside the PLLs named now
    let left := s.clk.relock ||| maskOf l
    let s := (s.setReg Reg.RELOCK (if left = 0 then 2 else 1)).setFlag Reg.CLK_STATUS F.CLK_STATUS_RELOCK_BUSY (left != 0)
    let s := s.setClk { s.clk with relock := left }
    (s.forEach l fun p s =>
      -- the length of a holdover that the lock ends stays in HOLDOVER_MS (R325)
      pllStart p ((s.setReg (Reg.HOLDOVER_MS p) (s.holdoverMs p)).setFlag (Reg.PLL_STATUS p) F.PLL_STATUS_BAND_LIMIT false), stOK)

def execRelock (mask : BitVec 3) (s : State) : Host.Outcome State Fault Refusal := .next (actRelock mask.toNat s).1

/-- TIMEBASE_STEP: the single step, at the first periphery tick at which its conditions hold (R309, R310). -/
def execTimebaseStep (t : Instant) (s : State) : Host.Outcome State Fault Refusal :=
  if !s.tf F.TIME_FLAGS_STEPPED && s.stepAllowed then .next (stepOnce (s.advance t)) else .next s

/-- TIME_SET (R309). -/
def actTimeSet (s : State) : State × Nat :=
  if s.tf F.TIME_FLAGS_STEPPED || !s.stepAllowed then (s.setReg Reg.TIME_SET 3, stState)
  else (s.setClk { s.clk with setReq := some (s.reg Reg.TIME_SET_VAL) }, stOK)

def execTimeSet (s : State) : Host.Outcome State Fault Refusal := .next (actTimeSet s).1

/-- RESTEP: steps the timebase again by −o (R311). -/
def actRestep (s : State) : State × Nat :=
  match s.clk.ofs with
  | some o =>
    if s.stepAllowed && s.tf F.TIME_FLAGS_PTP_VALID then ((stepTime (-o * 65536) s).setReg Reg.RESTEP 2, stOK)
    else (s.setReg Reg.RESTEP 3, stState)
  | none => (s.setReg Reg.RESTEP 3, stState)

def execRestep (s : State) : Host.Outcome State Fault Refusal := .next (actRestep s).1

/-- PTP_OFFSET: the offset that the slave port has formed reaches the servo (R309, R312, R313); a device that joins or stands by does
not use its slave port (R380). -/
def execPtpOffset (s : State) : Host.Outcome State Fault Refusal :=
  match s.clk.ofsNew with
  | some (o, t) =>
    if s.pairState = 2 ∨ s.pairState = 3 then .next (s.setClk { s.clk with ofsNew := none }) else .next (validOffset o t s)
  | none => .next s

/-- A node of the ring forwards a message as a peer-to-peer transparent clock: the residence time is added in the one-step message, or in
the Follow_Up that matches a two-step Sync (R318). -/
def ptpForward (k dom src : Nat) (m : PtpFrame) (res : Nat) (s : State) : State :=
  if s.reg Reg.REDUND ≠ 2 ∨ 2 ≤ k then s
  else
    let tag := if m.vid = 0 then 0 else m.pcp.toNat * 8192 + m.vid.toNat
    let out (kind : Nat) (vals : List Int) (s : State) : State :=
      s.emit (.ptp (1 - k) kind ⟨⟨tag, none⟩, ptpDst kind, 0x88F7, dom⟩ ((dom : Int) :: (src : Int) :: vals) s.now)
    match m.msg with
    | .announce p1 cls acc var p2 gm steps => out 11 [p1, cls, acc, var, p2, gm, steps] s
    | .sync seq two origin corr =>
      let s := if two then { s with ptp := { s.ptp with
          resid := (k, src, seq, res) :: s.ptp.resid.filter fun x => !(x.1 == k && x.2.1 == src) } } else s
      out 0 [seq, b2n two, origin, if two then corr else corr + res] s
    | .followUp seq origin corr =>
      let mine (x : Nat × Nat × Nat × Nat) : Bool := x.1 == k && x.2.1 == src && x.2.2.1 == seq
      let add : Int := (s.ptp.resid.find? mine).elim 0 fun x => (x.2.2.2 : Int)
      out 8 [seq, origin, corr + add] { s with ptp := { s.ptp with resid := s.ptp.resid.filter fun x => !mine x } }
    | _ => s

/-- PTP frames reach a port: SGMII runs, and the VID is the port's (R307, R364). -/
def State.ptpHears (s : State) (k : Nat) (vid : Nat) : Bool :=
  !(decide (k < 2) && bit s.clk.relock 2) && vid == fget F.ETH_CFG_VID (s.ethCfg k 3)

/-- PTP_MESSAGE: a message of domain `dom` from `src`, whose frame start was captured at `t`, with residence time `res` (2^-16 ns)
where an HSR node forwards it (R316 to R319). -/
def execPtpMessage (k : Fin 4) (dom src : Nat) (m : PtpFrame) (res : Nat) (t : Instant) (s : State) : Host.Outcome State Fault Refusal :=
  let k : Nat := k
  let s := s.advance t
  if !s.ptpHears k m.vid.toNat then .next s
  else
    let s := ptpForward k dom src m res s
    if s.ptpRuns k ∧ dom = s.reg Reg.DOMAIN ∧ src / 65536 ≠ s.clockId then
      .next (ptpIn k src m.msg (s.stamp t - (s.reg (Reg.RX_LAT k) * 65536 : Nat)) s)
    else .next s

/-- PTP_MESSAGE_SEND: the periodic messages of a port, once a second: Pdelay_Req from every running port, Announce and a two-step
Sync with its Follow_Up from a MASTER (R316, R317). -/
def execPtpMessageSend (k : Fin 4) (kind : Fin 3) (t : Instant) (s : State) : Host.Outcome State Fault Refusal :=
  let k : Nat := k
  let due := match (s.ptpPort k).sentAt.find? (·.1 == kind.1) with
    | some x => decide (x.2 + sec 1 ≤ t)
    | none => true
  if !s.ptpRuns k || !due then .next s
  else
    let s := s.advance t
    let p := s.ptpPort k
    let seq := (tabGet 0 p.sendSeq kind + 1) % 65536
    let p := { p with sentAt := (kind.1, t) :: p.sentAt.filter (·.1 ≠ kind.1), sendSeq := tabSet 0 p.sendSeq kind seq }
    let me : Int := s.clockId * 65536 + k + 1
    let tx := s.stamp t + (s.reg (Reg.TX_LAT k) * 65536 : Nat)
    if kind = 0 then
      .next (ptpSend k 2 [me, seq] t (s.setPtpPort k { p with seq := seq, t1 := some tx, t4 := none }))
    else if s.portState k ≠ 6 then .next s
    -- a master's own data set is no step removed from the grandmaster
    else if kind = 1 then .next (ptpSend k 11 (me :: seq :: (s.ownDs ++ [0]).map fun (x : Nat) => (x : Int)) t (s.setPtpPort k p))
    else .next (ptpSend k 8 [me, seq, tx] t (ptpSend k 0 [me, seq] t (s.setPtpPort k p)))

/-- PTP_ANNOUNCE_TIMEOUT: masters not heard for ANN_TO seconds no longer count; with no valid offset for that time the timebase
enters HOLDOVER with r = r_f (R313, R316, R317). -/
def execPtpAnnounceTimeout (t : Instant) (s : State) : Host.Outcome State Fault Refusal :=
  let s := s.advance t
  let to_ := sec (s.reg Reg.ANN_TO)
  let s := ptpDecide { s with ptp := { s.ptp with foreign := s.ptp.foreign.filter fun f => f.times.head?.any fun x => decide (s.now ≤ x + to_) } }
  match s.clk.ofsAt with
  | some x =>
    if x + to_ ≤ s.now ∧ s.tf F.TIME_FLAGS_PTP_VALID then
      let s := ((s.setTf F.TIME_FLAGS_PTP_VALID false).setTf F.TIME_FLAGS_STEP_DEFERRED false).setClk { s.clk with ofs := none }
      if s.reg Reg.TIME_STATE = 0 then .next s
      else .next (setRate (clampQ 200000 s.clk.rf) ((setTimeState 4 s).setTf F.TIME_FLAGS_PTP_LOST true))
    else .next s
  | none => .next s

/-- The register of a configuration object of PTP, 0x2230:01 to 07. -/
def ptpReg (i : Nat) : Nat := Reg.PTP_PORTS + i

/-- PTP_CONFIG_WRITE (R317). -/
def actPtpConfig (i v : Nat) (s : State) : State × Nat :=
  if !valueOk (ptpReg i) v then (s, stRange) else (ptpRestart (s.setReg (ptpReg i) v), stOK)

def execPtpConfigWrite (i : Fin 7) (v : BitVec 16) (s : State) : Host.Outcome State Fault Refusal :=
  .next (stored (ptpReg i) v.toNat (actPtpConfig i v.toNat s))

/-- EDGE_ALIGN_STEP: every 100 ns at most one fine step of PLL-B: EDGE_OFS_ACT walks towards EDGE_OFS, else the alignment error
`err` (units of 4.883 ps) is reduced (R314, R315). -/
def execEdgeAlignStep (err : BitVec 16) (t : Instant) (s : State) : Host.Outcome State Fault Refusal :=
  if t < s.clk.alignAt + ns 100 then .next s
  else
    let s := (s.advance t).setClk { s.clk with alignAt := t }
    let want := s.sreg 16 Reg.EDGE_OFS
    let act := s.sreg 16 Reg.EDGE_OFS_ACT
    let e := err.toInt
    let r : State × Int :=
      if act ≠ want then ((s.setReg Reg.EDGE_OFS_ACT (sput 16 (if act < want then act + 1 else act - 1))).bump Reg.FINE_STEPS, e)
      else if e ≠ 0 then (s.bump Reg.FINE_STEPS, if 0 < e then e - 1 else e + 1)
      else (s, e)
    .next ((r.1.setReg Reg.ALIGN_ERR (sput 16 r.2)).setTf F.TIME_FLAGS_EDGE_ALIGN_ERR (decide (16 < r.2.natAbs)))

/-- RTC_SET: at a whole second of TIME64, while PD11 is on (R324). -/
def execRtcSet (t : Instant) (s : State) : Host.Outcome State Fault Refusal :=
  if s.regBit Reg.PD_ON 11 && s.ptpAt t % sec 1 == 0 && decide (s.now ≤ t) then
    let s := s.advance t
    .next (s.setClk { s.clk with rtc := s.time64At s.now, rtcAt := s.now })
  else .next s

/-- TA_ENABLE: EN = 1 (R321, R323). -/
def execTaEnable (n : Fin 16) (s : State) : Host.Outcome State Fault Refusal :=
  let v := fset F.TA_CFG_EN (s.reg (Reg.TA_CFG n)) 1
  .next (stored (Reg.TA_CFG n) v (actTaCfg n v s))

/-- TA_DISABLE: EN = 0 (R320). -/
def execTaDisable (n : Fin 16) (s : State) : Host.Outcome State Fault Refusal :=
  let v := fset F.TA_CFG_EN (s.reg (Reg.TA_CFG n)) 0
  .next (stored (Reg.TA_CFG n) v (actTaCfg n v s))

end Sys2Proof.Machine
end

