-- ==== Sys2Proof/Machine/Filters.lean ====
section
/-!
DEFINITION. The commands of the filter lanes (09_filter_chain.md).
-/

namespace Sys2Proof.Machine

/-- The SDI of a lane delivers bits: enabled, not stale (R251 to R253). -/
def State.sdiActive (s : State) (i : Nat) : Bool :=
  s.flag (Reg.SDI_CFG i) F.SDI_CFG_EN && bit s.adc.sdcGood (s.sdiPin i) && !s.flag (Reg.SDI_STATUS i) F.SDI_STATUS_STALE

/-- CIC_OUTPUT: M inputs of the lane have passed since the last output (R257). For an SDI lane `bits` are its M bits and `t` the
clock edge of the last one; an AIN lane has its own inputs. -/
def execCicOutput (k : Fin 40) (bits : List Bool) (t : Instant) (s : State) : Host.Outcome State Fault Refusal :=
  let k : Nat := k
  let m := s.laneCfg k F.LANE_CFG_DECIM
  if !s.laneRuns k then .next s
  else if s.laneIsAin k then
    let x := s.fl k
    if x.ins.length < m then .next s
    else
      let at_ := listGet 0 x.inTimes (x.ins.length - m)
      let ins := (x.ins.take m).map (sput 41)
      .next (cicBlock k ins at_ (s.setFl k { x with ins := x.ins.drop m }))
  else if s.sdiActive (s.laneSrc k) && !s.laneThrottled k && decide (bits.length = m) then
    let s := s.advance t
    let s := if (s.fl k).stale then flRestart k s else s
    .next (cicBlock k (bits.map b2n) t s)
  else .next s

/-- LANE_OUTPUT: the FIR computation completes and the output is registered at `t`, T_lat after the last input or up to 10 ns
sooner; an output that waited for the FIR comes no sooner than its own FIR time, and at that instant where it lies later (R262, R263; log
entry 116). -/
def execLaneOutput (k : Fin 40) (t : Instant) (s : State) : Host.Outcome State Fault Refusal :=
  match (s.fl k).busy with
  | none => .next s
  | some j =>
    let lat := s.tLat k j.ticks
    let own := match j.from_ with
      | none => 0
      | some f => f + ns (5 * j.ticks)
    if j.at_ + ns lat ≤ t + ns 10 ∧ own ≤ t ∧ t ≤ max (j.at_ + ns lat) own then .next (laneOutput k j (s.advance t)) else .next s

/-- Whether the law owns a lane (R274). -/
def State.lawFl (s : State) (k : Nat) : Bool := s.law.cbcOwned && decide (k < 12)

/-- LANE_CFG_WRITE (R258, R261, R265, R272 to R275). -/
def actLaneCfg (k v : Nat) (s : State) : State × Nat :=
  if s.lawFl k then (s, stState)
  else if !valueOk (Reg.LANE_CFG k) v then (s, stRange)
  else if !s.laneCfgOk k v then (s, stState)
  else (laneCfgApply k v s, stOK)

def execLaneCfgWrite (k : Fin 40) (v : BitVec 32) (s : State) : Host.Outcome State Fault Refusal :=
  .next (stored (Reg.LANE_CFG k) v.toNat (actLaneCfg k v.toNat s))

/-- The staging buffer of 512 coefficients. -/
def State.staging (s : State) : List Nat := tabGet (List.replicate 512 0) s.filt.coefs 80

/-- COEF_WRITE: COEF_BLOCK goes to the staging buffer at COEF_ADDR (R268). -/
def actCoefWrite (s : State) : State × Nat :=
  let a := s.reg Reg.COEF_ADDR
  if a % 64 ≠ 0 ∨ 448 < a then (s.setReg Reg.COEF_STATUS 4, stState)
  else
    let w := (List.range 32).flatMap fun i => [s.reg (Reg.COEF_BLOCK i) % 65536, s.reg (Reg.COEF_BLOCK i) / 65536]
    let old := s.staging
    let new := old.take a ++ w ++ old.drop (a + 64)
    ({ s with filt := { s.filt with coefs := tabSet (List.replicate 512 0) s.filt.coefs 80 new } }, stOK)

def execCoefWrite (s : State) : Host.Outcome State Fault Refusal := .next (actCoefWrite s).1

/-- A bank is in use (R269): the one the lane delivers from, both while it fades; the target of a swap that is due or queued is not. -/
def State.bankInUse (s : State) (k b : Nat) : Bool :=
  let x := s.fl k
  s.laneRuns k && match x.fade with
    | some (_ + 1, _) => !(b == x.bank && x.queued == some b)
    | _ => x.bank == b

/-- COEF_COMMIT (R261, R268, R269, R274). -/
def actCoefCommit (s : State) : State × Nat :=
  let k := s.reg Reg.COEF_LANE
  let b := s.reg Reg.COEF_BANK
  let n := s.reg Reg.COEF_TAPS
  let h := s.staging.take n
  let other := if s.bankValid k (1 - b) then s.taps k (1 - b) else 0
  if s.lawFl k then (s, stState)
  else if s.bankInUse k b then (s.setReg Reg.COEF_STATUS 5, stState)
  else if crc32 (h.flatMap (toBytes 2)) ≠ s.reg Reg.COEF_CRC then (s.setReg Reg.COEF_STATUS 3, stOK)
  else if !s.firFits (s.reg (Reg.LANE_CFG k)) n other then (s, stState)
  else
    let r := h.reverse
    let lin := h == r || h.map (sget 16) == r.map (fun c => -(sget 16 c))
    let d := 2 ^ 31 + b2n lin * 2 ^ 30 + (if lin then 8 * (n - 1) else s.reg Reg.COEF_DELAY) * 65536 + n
    let s := { s with filt := { s.filt with coefs := tabSet (if b = 0 then [0x4000] else []) s.filt.coefs (2 * k + b) h } }
    ((s.setReg (bankReg k b) d).setReg Reg.COEF_STATUS 2, stOK)

def execCoefCommit (s : State) : Host.Outcome State Fault Refusal := .next (actCoefCommit s).1

/-- The two banks of a lane still pass the check of R261, which a slower clock of its pin would not. -/
def State.banksFit (s : State) (k : Nat) : Bool :=
  s.firFits (s.reg (Reg.LANE_CFG k)) (if s.bankValid k 0 then s.taps k 0 else 0) (if s.bankValid k 1 then s.taps k 1 else 0)

/-- BANK_SEL (R261, R271). -/
def actBankSel (k b : Nat) (s : State) : State × Nat :=
  let x := s.fl k
  if s.lawFl k || !s.bankValid k b || !s.laneRuns k || !s.banksFit k then (s.setReg (Reg.BANK_SEL k) 3, stState)
  else if x.fade.isSome then
    let s := s.setFl k { x with queued := some b }
    let s := (s.setFlag (Reg.LANE_STATUS k) F.LANE_STATUS_SWAP_PENDING true).setFld (Reg.LANE_STATUS k) F.LANE_STATUS_QUEUED_BANK b
    (s.setReg (Reg.BANK_SEL k) 1, stOK)
  else if x.bank = b then (s.setReg (Reg.BANK_SEL k) 2, stOK)
  else ((s.setFl k { x with fade := some (0, s.reg (Reg.FADE_LEN k)) }).setReg (Reg.BANK_SEL k) 1, stOK)

def execBankSel (k : Fin 40) (b : Fin 2) (s : State) : Host.Outcome State Fault Refusal := .next (actBankSel k b s).1

/-- FILT_CLEAR (Table 9-4). -/
def actFiltClear (s : State) : State × Nat :=
  (s.forEach (List.range 40) fun k s =>
    ((s.setReg (Reg.SAT_COUNT k) 0).setReg (Reg.LANE_OVR_COUNT k) 0).setReg (Reg.RESTART_COUNT k) 0, stOK)

def execFiltClear (s : State) : Host.Outcome State Fault Refusal := .next (actFiltClear s).1

end Sys2Proof.Machine
end

