-- ==== Sys2Proof/Machine/RecOps.lean ====
section
/-!
DEFINITION. The operations of the disturbance recorder (10_disturbance_recorder.md): channel values, rows and their layout,
slots, triggers, the trigger bus.
-/

namespace Sys2Proof.Machine

def State.rc (s : State) (n : Nat) : Rec := tabGet {} s.recs n
def State.setRc (s : State) (n : Nat) (r : Rec) : State := { s with recs := tabSet {} s.recs n r }
def State.rcCfg (s : State) (n : Nat) (f : Fld) : Nat := s.fld (Reg.RC_CFG n) f
def State.rcSlots (s : State) (n : Nat) : Nat := s.rcCfg n F.RC_CFG_SLOTS
def State.nch (s : State) (n : Nat) : Nat := s.rcCfg n F.RC_CFG_NCH
/-- STATE of Table 10-11. -/
def State.rcState (s : State) (n : Nat) : Nat := s.fld (Reg.RC_STATUS n) F.RC_STATUS_STATE
def setRcState (n v : Nat) (s : State) : State := s.setFld (Reg.RC_STATUS n) F.RC_STATUS_STATE v
def setRcFlag (n : Nat) (f : Fld) (s : State) : State := s.setFlag (Reg.RC_STATUS n) f true
/-- State of a slot: 0 FREE, 1 ARMED, 2 POST, 3 CLOSED. -/
def State.slotState (s : State) (n i : Nat) : Nat := s.fld (Reg.SLOT_STATE n) ⟨2 * i, 2⟩
def setSlot (n i v : Nat) (s : State) : State := s.setFld (Reg.SLOT_STATE n) ⟨2 * i, 2⟩ v
/-- An instance needs PD6 and PD9. -/
def State.rcPower (s : State) : Bool := s.regBit Reg.PD_ON 6 && s.regBit Reg.PD_ON 9
/-- The trigger of the rule R287: level 0. -/
def State.level0 (s : State) : Bool := s.reg Reg.BEHAVIOUR_LEVEL == 0

/-! ## Channel values (R277, Tables 10-1 and 10-2) -/

/-- The register of a law variable. -/
def lawVarReg (c : Nat) : Nat :=
  if 0x10 ≤ c ∧ c < 0x18 then Reg.I_THREAD (c - 0x10)
  else listGet 0 [Reg.P_E, Reg.Q_E, Reg.OMEGA, Reg.OMEGA_BUS, Reg.THETA, Reg.E, Reg.V_C, Reg.VDC, Reg.P_M, Reg.P_MACH_REF,
    Reg.V1, Reg.V2] c

/-- The code of a law variable. -/
def State.lawVar (s : State) (c : Nat) : Nat :=
  if c = 2 ∨ c = 3 then s.reg (lawVarReg c) / 65536
  else if c < 0x0C ∨ (0x10 ≤ c ∧ c < 0x18) then s.reg (lawVarReg c)
  else if c < 0x10 then s.load 4 (fabricAddr (0x742 + (c - 0x0C) / 2)) / 65536 ^ (c % 2)
  else if c = 0x18 then s.reg Reg.MODE + 256 * s.reg Reg.BS_STAGE
  else if c = 0x19 then s.reg Reg.LAW_STATUS
  else if c = 0x1A then s.reg Reg.MODE_STATUS
  else if c = 0x1B then s.reg Reg.V_EXT
  else if c = 0x1C then s.reg Reg.DPHI
  else s.reg Reg.I_LIM_CHOSEN

/-- A field of the last accepted uplink of a lane. -/
def State.upField (s : State) (k f : Nat) : Nat :=
  let b (i : Nat) : Nat := listGet 0 (tabGet {} s.lanes k).up i
  if f = 0 then b 10 * 256 + b 11
  else if f = 1 then b 12 * 256 + b 13
  else if f = 2 then b 6 * 256 + b 7
  else if f = 3 then b 8 * 256 + b 9
  else if f < 8 then b (15 + 4 * (f - 4))
  else if f < 12 then b (16 + 4 * (f - 8))
  else b (18 + 4 * (f - 12)) * 256 + b (17 + 4 * (f - 12))

/-- The fabric-memory word that a channel source reads: a mailbox word, or a law variable that the law writes there. -/
def rcFabric (src : Nat) : Option Nat :=
  let a := src % 4096
  if src / 4096 = 5 then some (fabricAddr (0x900 + 16 * (a / 16) + a % 8))
  else if src / 4096 = 3 ∧ 0x0C ≤ a ∧ a < 0x10 then some (fabricAddr (0x742 + (a - 0x0C) / 2))
  else none

/-- Value and fault bit of a channel source. -/
def State.rcValue (s : State) (src : Nat) : Int × Bool :=
  let a := src % 4096
  match src / 4096 with
  | 1 => let w := s.reg (Reg.RESULT a); (sget 16 w, bit w 31)
  | 2 => let w := s.reg (Reg.OUTPUT a); (sget 16 w, bit w 31 || bit w 30 || bit w 29)
  | 3 => (sget 16 (s.lawVar a), !s.flag Reg.LAW_STATUS F.LAW_STATUS_LAW_RUNNING)
  | 4 => (sget 16 (s.upField (a / 64) (a % 64)), !s.flag (Reg.GL_STATUS (a / 64)) F.GL_STATUS_LINK_OK)
  | 5 =>
    let w := s.load 4 (fabricAddr (0x900 + 16 * (a / 16) + a % 8))
    (sget 16 (w / 65536 ^ (a / 8 % 2)), s.engState (a / 16) != 2)
  | _ => (0, false)

/-- The sample of a channel: a read of fabric memory is checked and counted (R331, R332); with an uncorrectable error, for which
Table 12-3 names no effect on it, its value is free (log entry 117). -/
def rcRead (src : Nat) (s : State) : (Int × Bool) × State :=
  let v := s.rcValue src
  match rcFabric src with
  | none => (v, s)
  | some a =>
    let q := s.eccCheck 4 a
    if q.1.isSome then ((sget 16 (q.2.freeVal 16), v.2), q.2.useFree) else (v, q.2)

/-- The samples of an instance's channels, in their order. -/
def rcReadAll (n : Nat) (s : State) : List (Int × Bool) × State :=
  (List.range (s.nch n)).foldl (fun (r : List (Int × Bool) × State) c =>
    let q := rcRead (r.2.reg (Reg.CH_SRC n c)) r.2
    (r.1 ++ [q.1], q.2)) ([], s)

/-! ## Layout (R279, R280) -/

/-- Reductions 0 RAW, 1 EXT, 2 AVG, 3 RMS. -/
def rowSize (nch r : Nat) : Nat := (16 + (if r = 1 then 4 else 2) * nch + 7) / 8 * 8
def State.rcRow (s : State) (n r : Nat) : Nat := rowSize (s.nch n) r
def State.rcRows (s : State) (n r : Nat) : Nat := s.reg (Reg.ROWS n r)
def State.redOn (s : State) (n r : Nat) : Bool := s.rcRows n r != 0
def State.regionSize (s : State) (n r : Nat) : Nat := (s.rcRows n r * s.rcRow n r + 63) / 64 * 64
def State.slotSize (s : State) (n : Nat) : Nat :=
  (s.regionSize n 0 + s.regionSize n 1 + s.regionSize n 2 + s.regionSize n 3 + 4095) / 4096 * 4096
/-- First byte of a region of a slot. -/
def State.regionBase (s : State) (n i r : Nat) : Nat :=
  s.reg (Reg.RC_BASE n) + 4096 + i * s.slotSize n + ((List.range r).map (s.regionSize n)).foldl (· + ·) 0
/-- The area of an instance: first byte, first byte behind it. -/
def State.rcArea (s : State) (n : Nat) : Nat × Nat :=
  (s.reg (Reg.RC_BASE n), s.reg (Reg.RC_BASE n) + 4096 + s.rcSlots n * s.slotSize n)
/-- First byte of the index entry of a slot. -/
def State.ixAddr (s : State) (n i : Nat) : Nat := s.reg (Reg.RC_BASE n) + 128 * i

/-- A row (Table 10-3). -/
def rowBytes (nch r first mask n : Nat) (data : List Int) : List Byte :=
  let b := toBytes 8 first ++ toBytes 4 mask ++ toBytes 2 n ++ toBytes 2 0 ++ data.flatMap fun x => toBytes 2 (sput 16 x)
  b ++ List.replicate (rowSize nch r - b.length) 0#8

/-! ## The write buffer (R288) -/

/-- A row can go to DRAM now: no throttle, and its address is initialised (R328). -/
def State.rcCanWrite (s : State) (a : Nat) : Bool := !s.throttled 3 && !s.throttled 4 && s.dramReady a

/-- A row goes to DRAM; a code word that stays uncorrectable under it sets FLAGS.GAP of the record (Table 12-3). -/
def rcWrite (n : Nat) (a : Nat) (b : List Byte) (s : State) : State :=
  let w := s.physWriteBy (.rows n) a b
  if w.1.isSome then w.2.setRc n { w.2.rc n with gap := true } else w.2

/-- Rows of the buffer go to DRAM as long as they can. -/
def drainRows (n : Nat) : List (Nat × List Byte) → State → List (Nat × List Byte) × State
  | [], s => ([], s)
  | (a, b) :: t, s => if s.rcCanWrite a then drainRows n t (rcWrite n a b s) else ((a, b) :: t, s)

def rcDrain (n : Nat) (s : State) : State :=
  let r := drainRows n (s.rc n).buf s
  r.2.setRc n { r.2.rc n with buf := r.1 }

/-- All rows of the buffer are written (at a close). -/
def rcFlush (n : Nat) (s : State) : State :=
  let s := (s.rc n).buf.foldl (fun s r => rcWrite n r.1 r.2 s) s
  let s := s.setRc n { s.rc n with buf := [] }
  heldOf (.rows n) s

/-- Bytes in the buffer. -/
def bufSize (l : List (Nat × List Byte)) : Nat := (l.map fun r => r.2.length).foldl (· + ·) 0

/-! ## Rows (R278, R282, R286) -/

def State.red (s : State) (n r : Nat) : Red := tabGet {} (s.rc n).reds r
def setRed (n r : Nat) (x : Red) (s : State) : State := s.setRc n { s.rc n with reds := tabSet {} (s.rc n).reds r x }

/-- A reduction writes a row at its next place; a lost row leaves its place free (R288). It counts among the rows after the
trigger in either case. -/
def writeRow (n r first mask cnt : Nat) (data : List Int) (s : State) : State :=
  let x := s.red n r
  let s := setRed n r { x with left := x.left.map (· - 1) } s
  let row := rowBytes (s.nch n) r first mask cnt data
  let s := rcDrain n s
  if (s.rc n).buf ≠ [] ∧ 65536 < bufSize (s.rc n).buf + row.length then
    let s := setRcFlag n F.RC_STATUS_GAP (s.bump (Reg.GAP_COUNT n))
    s.setRc n { s.rc n with gap := true }
  else
    let a := s.regionBase n (s.reg (Reg.CUR_SLOT n)) r + x.pos * s.rcRow n r
    let s := s.setRc n { s.rc n with buf := (s.rc n).buf ++ [(a, row)] }
    let s := setRed n r { s.red n r with pos := (x.pos + 1) % s.rcRows n r
                                         count := min (x.count + 1) (s.rcRows n r) } s
    let s := if r = 0 ∧ s.rcState n = 1 then
        s.setReg (Reg.PRE_AVAIL n) (min (s.reg (Reg.PRE_AVAIL n) + 1) (s.rcRows n 0 - s.reg (Reg.POST n 0) - 1))
      else s
    rcDrain n s

/-- The reduction has stopped: its last row after the trigger has been written. -/
def State.redDone (s : State) (n r : Nat) : Bool := !s.redOn n r || (s.red n r).left == some 0

/-- The greatest r with (r − 1/2)² ≤ q / n: floor(√(q / n) + 1/2). -/
def rmsRound (q n : Nat) : Nat := (Nat.sqrt (4 * q / n) + 1) / 2

/-- The values of the row of an interval. -/
def redValues (r : Nat) (x : Red) : List Int :=
  x.acc.flatMap fun a =>
    if r = 1 then [a.1, a.2]
    else if r = 2 then [(2 * a.1 + x.n) / (2 * x.n)]
    else [(rmsRound a.1.toNat x.n : Int)]

/-- The row of the interval in progress of EXT, AVG or RMS is written. -/
def endInterval (n r : Nat) (s : State) : State :=
  let x := s.red n r
  if x.n = 0 ∨ s.redDone n r then setRed n r { x with iv := none, n := 0, mask := 0, acc := [] } s
  else
    let s := writeRow n r x.first x.mask x.n (redValues r x) s
    setRed n r { s.red n r with iv := none, n := 0, mask := 0, acc := [] } s

/-- The fault bits of a sample. -/
def faultMask (vals : List (Int × Bool)) : Nat := maskOf ((List.range vals.length).filter fun i => (listGet (0, false) vals i).2)

/-- A sample enters a reduction (R278). -/
def redSample (n : Nat) (sn : Nat) (vals : List (Int × Bool)) (r : Nat) (s : State) : State :=
  let d := s.reg (Reg.D_RED n r)
  if s.redDone n r then s
  else if r = 0 then
    if sn % d = 0 then writeRow n 0 sn (faultMask vals) 1 (vals.map (·.1)) s else s
  else
    let x := s.red n r
    let new (v : Int) : Int × Int := if r = 1 then (v, v) else if r = 2 then (v, 0) else (v * v, 0)
    let join (a : Int × Int) (v : Int) : Int × Int :=
      if r = 1 then (min a.1 v, max a.2 v) else if r = 2 then (a.1 + v, 0) else (a.1 + v * v, 0)
    let x' := if x.n = 0 then { x with iv := some (sn / d), first := sn, n := 1, mask := faultMask vals, acc := vals.map fun v => new v.1 }
      else { x with n := x.n + 1, mask := x.mask ||| faultMask vals, acc := (List.zip x.acc vals).map fun p => join p.1 p.2.1 }
    let s := setRed n r x' s
    if sn % d = d - 1 then endInterval n r s else s

/-- The rows of intervals whose last sample has passed (the sample numbers have jumped). -/
def endPassed (n sn : Nat) (s : State) : State :=
  s.forEach [1, 2, 3] fun r s =>
    match (s.red n r).iv with
    | some i => if i = sn / s.reg (Reg.D_RED n r) then s else endInterval n r s
    | none => s

/-! ## Slots (R282, R286, R289) -/

/-- No slot can be armed. -/
def rcFull (n : Nat) (s : State) : State := setRcState n 3 (s.setReg (Reg.CUR_SLOT n) 0xFF)

/-- A slot is armed. -/
def armSlot (n i : Nat) (s : State) : State :=
  let s := setRcState n 1 ((setSlot n i 1 s).setReg (Reg.CUR_SLOT n) i)
  let r := s.rc n
  (s.setReg (Reg.PRE_AVAIL n) 0).setRc n
    { r with lastSlot := i, closed := r.closed.erase i, ready := 0, reds := [], trig := none, gap := false }

/-- The next slot in ascending order, wrapping, else the CLOSED slot that closed earliest and is not protected (R286). -/
def rearm (n : Nat) (s : State) : State :=
  let k := s.rcSlots n
  let l := (s.rc n).lastSlot
  match ((List.range k).map fun i => (l + 1 + i) % k).find? fun i => s.slotState n i == 0 with
  | some i => armSlot n i s
  | none =>
    match if s.rcCfg n F.RC_CFG_OVERWRITE = 1 then (s.rc n).closed.find? (fun i => !s.regBit (Reg.PROTECT n) i) else none with
    | some i => armSlot n i s
    | none => rcFull n s

/-- The first eight bytes (S) of the oldest row of a record: of RAW, or of the first reduction that is on. -/
def State.oldestS (s : State) (n i : Nat) : Nat :=
  match (List.range 4).find? fun r => s.redOn n r && (s.red n r).count != 0 with
  | none => 0
  | some r =>
    let x := s.red n r
    let p := if x.count < s.rcRows n r then 0 else x.pos
    s.load 8 (s.regionBase n i r + p * s.rcRow n r)

/-- Bytes 0 to 123 of an index entry and its CRC (Table 10-4). -/
def State.indexEntry (s : State) (n i : Nat) (flags tt tf tsn : Nat) : List Byte :=
  let b := toBytes 4 (0x01030000 + n * 256 + i) ++ toBytes 4 flags ++ toBytes 8 tt ++ toBytes 2 tf ++ toBytes 2 (s.nch n)
    ++ toBytes 4 (s.reg (Reg.SPER n)) ++ toBytes 8 tsn
    ++ ((List.range 4).flatMap fun r =>
        let x := s.red n r
        toBytes 4 (if x.count < s.rcRows n r then 0 else x.pos) ++ toBytes 4 x.count)
    ++ toBytes 8 s.time64
    ++ ((List.range 4).flatMap fun r => toBytes 2 (s.reg (Reg.D_RED n r)))
    ++ toBytes 4 (s.reg (Reg.RECORDS n)) ++ List.replicate 40 0#8
  b ++ toBytes 4 (crc32 b)

/-- The record of the POST slot is closed (R286, R287, R298). -/
def closeRecord (n : Nat) (trunc : Bool) (s : State) : State :=
  let i := s.reg (Reg.CUR_SLOT n)
  let s := rcFlush n s
  match (s.rc n).trig with
  | none => s
  | some t =>
    let sn := t.sample.getD (s.time64 / s.reg (Reg.SPER n) + 1)
    let tt := if s.level0 then s.oldestS n i * s.reg (Reg.SPER n) % 2 ^ 64 else t.at_ / 2 ^ 32 % 2 ^ 64
    let tf := if s.level0 then 0 else t.at_ / 65536 % 65536
    let s := if s.level0 then (s.setReg (Reg.LAST_TRIG n) tt).setReg (Reg.LAST_FRAC n) 0 else s
    let flags := t.src * 65536 + 8 * b2n s.level0 + 4 * b2n t.short + 2 * b2n (s.rc n).gap + b2n trunc
    let s := (s.physWrite (s.ixAddr n i) (s.indexEntry n i flags tt tf sn)).2
    let s := (setSlot n i 3 s).bump (Reg.RECORDS n)
    let s := if trunc then setRcFlag n F.RC_STATUS_TRUNC s else s
    (s.setReg (Reg.CUR_SLOT n) 0xFF).setRc n { s.rc n with closed := (s.rc n).closed ++ [i], trig := none }

/-- What the close writes can go to DRAM now: the rows of the buffer and the index entry (R328). -/
def State.rcCanClose (s : State) (n : Nat) : Bool :=
  s.dramReady (s.ixAddr n (s.reg (Reg.CUR_SLOT n)) + 127) && (s.rc n).buf.all fun r => s.dramReady (r.1 + r.2.length - 1)

/-- Every reduction has stopped and the buffer is empty: the record closes and the next slot is armed (R286). -/
def closeCheck (n : Nat) (s : State) : State :=
  if s.rcState n = 2 ∧ ((s.rc n).trig.any fun t => t.sample.isSome) ∧ (List.range 4).all (s.redDone n) ∧ (s.rc n).buf = []
      ∧ s.rcCanClose n then
    let s := closeRecord n false s
    if s.rcCfg n F.RC_CFG_AUTO_REARM = 1 then rearm n s else rcFull n s
  else s

/-! ## Triggers (R283 to R285, R292) -/

/-- A trigger is not accepted. -/
def trigIgnored (n : Nat) (s : State) : State := setRcFlag n F.RC_STATUS_IGNORED (s.bump (Reg.TRIG_IGNORED n))

/-- LAST_TRIG, LAST_FRAC and LAST_SRC of a trigger; at level 0 the instant follows at the close (R287). -/
def lastTrig (n : Nat) (t : RecTrig) (s : State) : State :=
  let s := s.setReg (Reg.LAST_SRC n) t.src
  if s.level0 then s else (s.setReg (Reg.LAST_TRIG n) (t.at_ / 2 ^ 32 % 2 ^ 64)).setReg (Reg.LAST_FRAC n) (t.at_ / 65536 % 65536)

/-- Number of the first sample at or after an instant (R276, R285). -/
def State.sampleFrom (s : State) (n : Nat) (t : Instant) : Nat :=
  let p := s.reg (Reg.SPER n) * 2 ^ 32
  (s.ptpAt t + p - 1) / p

/-- A trigger of source bit `b` with instant `at_`, whose trigger sample is the first one from `reg` on, meets an instance. The
answer says whether it has been accepted or has joined an accepted trigger of the same trigger sample. Of two triggers with
different trigger samples the earlier one is accepted; the other meets a slot in POST and is not (R285). -/
def rcTrigger (n b at_ : Nat) (reg : Instant) (s : State) : Bool × State :=
  let fresh (s : State) (new : Bool) : State :=
    let short := decide (s.reg (Reg.PRE_AVAIL n) < s.rcRows n 0 - s.reg (Reg.POST n 0) - 1)
    let t : RecTrig := { src := 2 ^ b, at_ := at_, reg := reg, short := short }
    let s := if new then setRcFlag n F.RC_STATUS_TRIGGERED ((setRcState n 2 (setSlot n (s.reg (Reg.CUR_SLOT n)) 2 s)).bump (Reg.TRIG_COUNT n)) else s
    lastTrig n t (s.setRc n { s.rc n with trig := some t })
  match s.rcState n, (s.rc n).trig with
  | 1, _ => (true, fresh s true)
  | 2, some t =>
    if t.sample.isSome ∨ s.sampleFrom n t.reg < s.sampleFrom n reg then (false, trigIgnored n s)
    else if s.sampleFrom n reg < s.sampleFrom n t.reg then (true, trigIgnored n (fresh s false))
    else
      let t := { t with src := t.src ||| 2 ^ b, at_ := min t.at_ at_ }
      (true, lastTrig n t (s.setRc n { s.rc n with trig := some t }))
  | 2, none => (false, trigIgnored n s)
  | 3, _ => (false, trigIgnored n s)
  | _, _ => (false, s)

/-- Instances that a line of the bus triggers. -/
def State.rcOnLine (s : State) (l : Nat) : List Nat := (List.range 4).filter fun n => bit (s.rc n).trgIn l && (s.rc n).on

/-- A line of the bus is being measured (R294). -/
def State.tbMeasured (s : State) (l : Nat) : Bool := s.tb.cal.any fun c => c.lines.head? == some l

/-- The pulses of a line that the device has driven. -/
def State.pulsesOn (s : State) (l : Nat) : List (Instant × Instant) := tabGet [] s.tb.pulses l

/-- The device drives a line with a pulse from `t0` on, `width` long. A pulse is forgotten when no capture of it can be undecided
any more. -/
def drivePulse (l : Nat) (t0 width : Instant) (s : State) : State :=
  let old := (s.pulsesOn l).filter fun p => decide (s.now ≤ p.2 + us 1)
  ({ s with tb := { s.tb with pulses := tabSet [] s.tb.pulses l ((t0, t0 + width) :: old) } }).emit (.pin ("TRG" ++ toString l) true t0)

/-- A capture on a line is that of the device's own pulse: its rising edge lies in one of them (R292). -/
def State.ownPulse (s : State) (l : Nat) (t : Instant) : Bool :=
  (s.pulsesOn l).any fun p => decide (p.1 ≤ t) && decide (t < p.2)

/-- An accepted trigger of the device's own, registered at `reg`, drives the line of TRG_OUT with a 100 ns pulse from the next tick
on, one per line and tick, and reaches the other instances that name the line (R292). -/
def driveTrig (n : Nat) (reg : Instant) (s : State) : State :=
  let l := (s.rc n).trgOut
  if !s.flag Reg.TB_CFG F.TB_CFG_EN || decide (3 < l) || ((s.rc n).trig.any fun t => t.driven) then s
  else
    let t0 := s.tickFloor reg + s.tickLen
    let s := s.setRc n { s.rc n with trig := (s.rc n).trig.map fun t => { t with driven := true } }
    let s := if (s.pulsesOn l).any (·.1 == t0) then s else drivePulse l t0 (ns 100) s
    if s.tbMeasured l then s
    else s.forEach ((s.rcOnLine l).filter (· ≠ n)) fun m s => (rcTrigger m (3 + l) (s.ptpAt (t0 + s.reg (Reg.TRG_DELAY l) * sixteenth)) t0 s).2

/-- A channel condition or software triggers an instance. -/
def ownTrigger (n b at_ : Nat) (reg : Instant) (s : State) : State :=
  let r := rcTrigger n b at_ reg s
  if r.1 then driveTrig n reg r.2 else r.2

/-- The instant of a condition that fires at sample `sn` (R284), in units of 2^-32 ns: interpolated to the nearest FRAC16 step;
what a tie rounds to the spec does not say, so `tie` decides. -/
def crossing (sper sn : Nat) (prev x lvl : Int) (tie : Bool) : Nat :=
  let t1 : Int := ((sn : Int) - 1) * sper * 65536
  let num : Int := sper * 65536 * (lvl - prev)
  let den := x - prev
  let (num, den) := if den < 0 then (-num, -den) else (num, den)
  let q := (2 * num + den - (if (2 * num + den) % (2 * den) = 0 ∧ !tie then 1 else 0)) / (2 * den)
  ((t1 + q) % 2 ^ 80).toNat * 65536

/-- TRIG_A (0) or TRIG_B (1) looks at a sample: which directions fire; the ready marks after it (R283). -/
def State.condition (s : State) (n k : Nat) (vals : List (Int × Bool)) : Bool × Nat :=
  let c := s.reg (Reg.TRIG n k)
  let old := (s.rc n).ready
  let v := listGet (0, true) vals (fget F.TRIG_CH c)
  if fget F.TRIG_EN c = 0 ∨ v.2 then (false, old)
  else
    let lvl := s.sreg 16 (Reg.LEVEL n k)
    let hy : Int := s.reg (Reg.HYST n k)
    let e := fget F.TRIG_EDGE c
    let up := decide (e ≠ 1)
    let down := decide (e ≠ 0)
    let fireUp := up && bit old (2 * k) && decide (lvl ≤ v.1)
    let fireDown := down && bit old (2 * k + 1) && decide (v.1 ≤ lvl)
    let rUp := !fireUp && (bit old (2 * k) || (up && decide (v.1 < lvl - hy)))
    let rDown := !fireDown && (bit old (2 * k + 1) || (down && decide (lvl + hy < v.1)))
    (fireUp || fireDown, setBit (setBit old (2 * k) rUp) (2 * k + 1) rDown)

/-- A condition is not ready after a write of its TRIG, LEVEL or HYST (R283, R299). -/
def condReset (n k : Nat) (s : State) : State :=
  s.setRc n { s.rc n with ready := setBit (setBit (s.rc n).ready (2 * k) false) (2 * k + 1) false }

/-- A condition of an instance at sample `sn`. -/
def condSample (n sn : Nat) (vals : List (Int × Bool)) (k : Nat) (s : State) : State :=
  let r := s.condition n k vals
  let s := s.setRc n { s.rc n with ready := r.2 }
  if r.1 then
    let ch := fget F.TRIG_CH (s.reg (Reg.TRIG n k))
    let x := listGet (0, true) vals ch
    let p := listGet (0, true) (s.rc n).prev ch
    let sper := s.reg (Reg.SPER n)
    let at_ := if p.2 ∨ p.1 = x.1 then sn * sper * 2 ^ 32 % 2 ^ 96 else crossing sper sn p.1 x.1 (s.sreg 16 (Reg.LEVEL n k)) (s.freeVal 1 == 1)
    ownTrigger n k at_ s.now s.useFree
  else s

/-- The trigger sample of an accepted trigger: rows after it are counted from row 0, the row whose interval contains it (R285,
R286). A RAW row of that interval that has been written is row 0. -/
def trigSample (n sn : Nat) (s : State) : State :=
  match (s.rc n).trig with
  | some t =>
    if t.sample.isNone ∧ t.reg ≤ s.now then
      let s := s.setRc n { s.rc n with trig := some { t with sample := some sn } }
      s.forEach (List.range 4) fun r s =>
        let post := s.reg (Reg.POST n r)
        setRed n r { s.red n r with left := some (if r = 0 ∧ sn % s.reg (Reg.D_RED n 0) ≠ 0 then post else post + 1) } s
    else s
  | none => s

/-- One sample of an instance (R276 to R287). -/
def rcSample (n : Nat) (s : State) : State :=
  let sn := s.time64At s.now / s.reg (Reg.SPER n)
  let s := s.setRc n { s.rc n with trgIn := s.reg (Reg.TRG_IN n), trgOut := s.reg (Reg.TRG_OUT n) }
  let q := rcReadAll n (heldExpire s)
  let vals := q.1
  let s := rcDrain n q.2
  let s := if (s.rc n).armNext then
      let s := s.setRc n { s.rc n with armNext := false }
      match (List.range (s.rcSlots n)).find? fun i => s.slotState n i == 0 with
      | some i => armSlot n i s
      | none => rcFull n s
    else s
  let s := endPassed n sn s
  let s := condSample n sn vals 1 (condSample n sn vals 0 s)
  let s := trigSample n sn s
  let s := if s.rcState n = 1 ∨ s.rcState n = 2 then s.forEach (List.range 4) (redSample n sn vals) else s
  let s := closeCheck n s
  s.setRc n { s.rc n with lastAt := some s.now, prev := vals }

/-! ## Enable and shutdown (R281, R290, R298) -/

/-- The rate of row bytes of an instance per µs. -/
def State.rcRate (s : State) (n : Nat) : Rat :=
  (((List.range 4).filter (s.redOn n)).map fun r =>
    (s.rcRow n r * 1000 : Nat) / ((s.reg (Reg.D_RED n r) * s.reg (Reg.SPER n) : Nat) : Rat)).foldl (· + ·) 0

/-- R281. -/
def State.rcAllowed (s : State) (n : Nat) : Bool :=
  let a := s.rcArea n
  let others := (List.range 4).filter fun m => m != n && s.flag (Reg.RC_CFG m) F.RC_CFG_EN
  decide (dramBase ≤ a.1) && decide (a.2 ≤ dramBase + s.reg Reg.DRAM_SIZE)
    && (others.all fun m => decide ((s.rcArea m).2 ≤ a.1) || decide (a.2 ≤ (s.rcArea m).1))
    && (List.range 4).any (s.redOn n)
    && ((List.range 4).all fun r => !s.redOn n r || decide (s.reg (Reg.POST n r) < s.rcRows n r))
    && decide ((((n :: others).map s.rcRate).foldl (· + ·) 0) ≤ 2000)

/-- The index entry of a slot still holds a record of the present configuration (R290). The entry has no ROWS_r: a region whose
oldest row is not at position 0 has wrapped, so that its rows valid are its ROWS_r; a reduction without a row in a record that has
neither lost one nor been closed early was off (DEDUCED, log entry 117). -/
def State.slotKept (s : State) (n i : Nat) : Bool :=
  let b := memRead 128 s.mem (s.ixAddr n i)
  let u (p w : Nat) : Nat := ofBytes (slice b p w)
  u 124 4 == crc32 (b.take 124) && u 2 1 == 3 && u 20 4 == s.reg (Reg.SPER n) && u 18 1 == s.nch n
    && ((List.range 4).all fun r => u (72 + 2 * r) 2 == s.reg (Reg.D_RED n r)
      && decide (u (36 + 8 * r) 4 ≤ s.rcRows n r)
      && (u (32 + 8 * r) 4 == 0 || (u (36 + 8 * r) 4 == s.rcRows n r && decide (u (32 + 8 * r) 4 < s.rcRows n r)))
      && (!s.redOn n r || u (36 + 8 * r) 4 != 0 || u 4 1 % 4 != 0))

/-- An index entry is read at enable; one with an uncorrectable error counts as having no valid checksum (R331, R332). -/
def slotRead (n i : Nat) (s : State) : Bool × State :=
  let q := s.eccCheck 128 (s.ixAddr n i)
  (q.1.isNone && q.2.slotKept n i, q.2)

/-- The slots that are kept at a start. -/
def slotsKept (n : Nat) (s : State) : List Nat × State :=
  (List.range (s.rcSlots n)).foldl (fun (r : List Nat × State) i =>
    let q := slotRead n i r.2
    (if q.1 then r.1 ++ [i] else r.1, q.2)) ([], s)

/-- CLOSE_TIME of a slot's index entry. -/
def State.closeTime (s : State) (n i : Nat) : Nat := s.load 8 (s.ixAddr n i + 64)

/-- The instance starts: kept records, then a slot is armed at the next sample (R282, R290). -/
def rcStart (n : Nat) (s : State) : State :=
  let q := if s.rcCfg n F.RC_CFG_KEEP = 1 then slotsKept n s else ([], s)
  let kept := q.1
  let s := q.2
  let order := kept.mergeSort fun i j => decide (s.closeTime n i ≤ s.closeTime n j)
  let s := s.setReg (Reg.SLOT_STATE n) 0
  let s := s.forEach kept fun i s => setSlot n i 3 s
  let s := s.setFlag (Reg.RC_STATUS n) F.RC_STATUS_KEPT !kept.isEmpty
  let s := setRcState n 0 (s.setReg (Reg.CUR_SLOT n) 0xFF)
  s.setRc n { on := true, armNext := true, closed := order, lastSlot := s.rcSlots n - 1 }

/-- What a shutdown leaves of an instance. -/
def rcStopped (n : Nat) (s : State) : State :=
  let s := s.setReg (Reg.CUR_SLOT n) 0xFF
  s.setRc n { s.rc n with on := false, stopping := true, closing := false, armNext := false, ready := 0, reds := [], trig := none, buf := []
                          lastAt := none }

/-- The shutdown: triggers stop, a POST slot is closed as it stands, an ARMED slot becomes FREE (R298). A record whose rows or index
wait for the initialisation of DRAM closes when the shutdown completes. -/
def rcShutdown (n : Nat) (s : State) : State :=
  let i := s.reg (Reg.CUR_SLOT n)
  if s.rcState n = 2 then
    if s.rcCanClose n then rcStopped n (setRcState n 4 (closeRecord n true s))
    else (setRcState n 4 s).setRc n { s.rc n with on := false, stopping := true, closing := true, ready := 0, lastAt := none }
  else
    let s := if s.rcState n = 1 then setSlot n i 0 s else s
    rcStopped n (setRcState n 4 s)

/-- EN has been written (R30, R31, R298). -/
def rcEnable (n : Nat) (on : Bool) (s : State) : State :=
  if (s.rc n).stopping then s.setFlag (Reg.RC_STATUS n) F.RC_STATUS_PENDING_ENABLE on
  else if on then (if (s.rc n).on || !s.rcPower then s else rcStart n s)
  else if (s.rc n).on then rcShutdown n s
  else s

/-- The shutdown completes, once its record is closed; a pending enable starts the instance (R30). -/
def rcOff (n : Nat) (s : State) : State :=
  if (s.rc n).closing && !s.rcCanClose n then s
  else
  let s := if (s.rc n).closing then rcStopped n (closeRecord n true s) else s
  let pend := s.flag (Reg.RC_STATUS n) F.RC_STATUS_PENDING_ENABLE
  let s := setRcState n 0 (s.setFlag (Reg.RC_STATUS n) F.RC_STATUS_PENDING_ENABLE false)
  let s := s.setRc n { s.rc n with stopping := false }
  if pend && s.rcPower then rcStart n s else s

/-! ## Calibration of the trigger bus (R294) -/

/-- The 40 ns pulse of the next round starts at the next tick. -/
def calPulse (c : TbCal) (s : State) : State :=
  let t0 := s.tickFloor s.now + s.tickLen
  let s := { s with tb := { s.tb with cal := some { c with t0 := t0 } } }
  match c.lines with
  | l :: _ => drivePulse l t0 (ns 40) s
  | [] => s

/-- The next line is measured, or the calibration ends: 2 done, 3 failed. -/
def calNextLine (lines : List Nat) (bad : Bool) (s : State) : State :=
  match lines with
  | [] =>
    let s := { s with tb := { s.tb with cal := none } }
    (s.setReg Reg.TB_CAL (if bad then 3 else 2)).setFlag Reg.TB_STATUS F.TB_STATUS_CAL_BUSY false
  | l :: _ => calPulse { lines := lines, t0 := 0, bad := bad } (s.setFld Reg.TB_STATUS ⟨4 + l, 1⟩ 0)

/-- A round of the line in progress has ended. -/
def calRound (c : TbCal) (s : State) : State :=
  match c.lines with
  | [] => s
  | l :: rest =>
    if c.fails ≥ 4 then calNextLine rest true (s.setFld Reg.TB_STATUS ⟨4 + l, 1⟩ 1)
    else if c.good + c.fails ≥ 16 then
      let d := 2 * (c.good : Int)
      let r := c.sum % d
      let q := c.sum / d + (if 2 * r > d ∨ (2 * r = d ∧ s.freeVal 1 = 1) then 1 else 0)
      let s := s.useFree
      let v := if 0 ≤ q ∧ q ≤ 65535 then q.toNat else s.freeVal 16
      calNextLine rest c.bad (storeRws (Reg.TRG_DELAY l) v (s.useFree.setReg (Reg.TRG_DELAY l) v))
    else calPulse c s

/-! ## Retrieval (R296, R297) -/

/-- IX_READ's access. -/
def ixReadAt (a : Nat) (s : State) : State :=
  let q := s.eccCheck 128 a
  let r := q.2.physRead 128 a
  r.2.forEach (List.range 32) fun i s => s.setReg (Reg.IX_DATA i) (ofBytes (slice r.1 (4 * i) 4))

/-- RD_DATA takes bytes; the words behind them read zero. -/
def setRdData (l : List Byte) (s : State) : State :=
  s.forEach (List.range 64) fun i s => s.setReg (Reg.RD_DATA i) (ofBytes (slice l (4 * i) 4))

/-- The bytes of a circular region in time order, from `ofs` on (R297). -/
def State.regionBytes (s : State) (base size pos row ofs n : Nat) : List Byte :=
  (List.range n).map fun j => memByte s.mem (base + (pos * row + ofs + j) % size)

/-- The position and the rows of a region in the index entry of a slot, which is read for it (R331). -/
def State.regionIndex (s : State) (n i r : Nat) : Option Nat × State := s.eccCheck 8 (s.ixAddr n i + 32 + 8 * r)

/-- RD_READ has met an uncorrectable error (R332). -/
def rdFailed (s : State) : State := ((setRdData [] s).setReg Reg.RD_LEN 0).setReg Reg.RD_STATUS 4

/-- RD_READ's access: up to 256 bytes of a region of a CLOSED slot in time order (R297, R332). -/
def rdReadAt (n i r ofs : Nat) (s : State) : State × Nat :=
  let row := s.rcRow n r
  let x := if s.slotState n i = 3 then s.regionIndex n i r else (none, s)
  let pos := s.load 4 (s.ixAddr n i + 32 + 8 * r)
  let valid := s.load 4 (s.ixAddr n i + 36 + 8 * r) * row
  if x.1.isSome then (rdFailed x.2, stOK)
  else if s.slotState n i ≠ 3 ∨ ofs % 8 ≠ 0 ∨ valid ≤ ofs then (x.2.setReg Reg.RD_STATUS 3, stState)
  else
    let s := x.2
    let len := min 256 (valid - ofs)
    let base := s.regionBase n i r
    let size := s.rcRows n r * row
    let start := (pos * row + ofs) % size
    let head := min len (size - start)
    let q := s.eccCheck head (base + start)
    let q2 := if head < len then q.2.eccCheck (len - head) base else (none, q.2)
    if (q.1 <|> q2.1).isSome then (rdFailed q2.2, stOK)
    else
      let s := q2.2
      (((setRdData (s.regionBytes base size pos row ofs len) s).setReg Reg.RD_LEN len).setReg Reg.RD_STATUS 2, stOK)

/-- The last address that RD_READ reads, for the initialisation of DRAM. -/
def State.regionEnd (s : State) (n i r : Nat) : Nat := max (s.ixAddr n i + 127) (s.regionBase n i r + s.regionSize n r)

/-! ## Accesses that wait (R328) -/

/-- The last address of a waiting access. -/
def State.waitEnd (s : State) : MemWait → Nat
  | .read a n => a + n - 1
  | .write a l => a + l.length - 1
  | .index a => a + 127
  | .region n i r _ => s.regionEnd n i r

/-- A waiting access proceeds. -/
def waitDone (w : MemWait) (s : State) : State :=
  match w with
  | .read a n => memReadAt a n s
  | .write a l => memWriteAt a l s
  | .index a => ixReadAt a s
  | .region n i r ofs => (rdReadAt n i r ofs s).1

/-- The granules held long enough are written, and the accesses whose DRAM is initialised by now proceed, the oldest first. -/
def memServe (s : State) : State :=
  let s := heldExpire s
  let l := s.memo.waits
  let s := { s with memo := { s.memo with waits := l.filter fun w => !s.dramReady (s.waitEnd w) } }
  s.forEach (l.filter fun w => s.dramReady (s.waitEnd w)) waitDone

end Sys2Proof.Machine
end

