-- ==== Sys2Proof/Machine/AgeOps.lean ====
section
/-!
DEFINITION. The ageing monitors of the power modules and the re-planning of margins (15_supervision_and_health.md, R407 to R413;
R216, R397).
-/

namespace Sys2Proof.Machine

/-! ## Module records -/

def State.mod (s : State) (k : Nat) : Module := tabGet {} s.sup.mods k
def State.setMod (s : State) (k : Nat) (m : Module) : State := { s with sup := { s.sup with mods := tabSet {} s.sup.mods k m } }

/-- A lane is monitored. -/
def State.monitored (s : State) (k : Nat) : Bool := s.reg (Reg.MOD_IREF k) != 0

/-- The phase current of a lane in A: by the signal map for the law's lanes, else the AIN of MOD_IAIN. -/
def State.laneCurrent (s : State) (k : Nat) : Rat :=
  if s.builtin && decide (k < 24) then
    let p := k % 3
    if k < 12 then s.sig (s.par (Reg.I_L k)) (s.par Reg.I_FS)
    else
      let t := (k - 12) / 3
      let m (x : Nat) : Rat := s.sig (s.par (Reg.I_M (2 * t + x))) (s.par Reg.I_M_FS)
      if p < 2 then m p else -(m 0) - m 1
  else
    let a := s.reg (Reg.MOD_IAIN k)
    if a < 64 then (sget 16 (s.reg (Reg.RESULT a)) : Rat) / 32767 * s.reg (Reg.MOD_IFS k) else 0

/-- The position whose VON the last uplink shows. -/
def State.vonPos (s : State) (k : Nat) : Nat := listGet 0 (s.lane k).up 14 / 64 % 4

/-- The current lies in its band and the position conducts forward. -/
def State.currentQualifies (s : State) (k p : Nat) : Bool :=
  let i := s.laneCurrent k
  let r : Rat := s.reg (Reg.MOD_IREF k)
  decide (absR (absR i - r) ≤ r * s.reg Reg.I_BAND / 100) && (if p % 2 = 0 then decide (0 < i) else decide (i < 0))

/-- TEMP of the last uplink in 0.1 °C. -/
def State.modTemp (s : State) (k : Nat) : Int := sget 16 (s.upField k 0)

/-- A VON sample qualifies. -/
def State.vonQualifies (s : State) (k : Nat) : Bool :=
  s.monitored k && s.currentQualifies k (s.vonPos k)
    && decide ((s.modTemp k - s.sreg 16 Reg.T_REF).natAbs ≤ s.reg Reg.T_BAND)

/-- A VON sample of an accepted uplink: sets of 1,024 qualifying samples form VON_BASE, then VON_AVG and VON_DRIFT (R407). CODE_BASE
is the chosen turn-off code when VON_BASE is formed. -/
def vonSample (k : Nat) (s : State) : State :=
  if !s.vonQualifies k then s
  else
    let m := s.mod k
    let m := { m with n := m.n + 1, sum := m.sum + s.upField k 1 }
    if m.n < 1024 then s.setMod k m
    else
      let mean : Rat := (m.sum : Rat) / 1024
      let m := { m with n := 0, sum := 0 }
      match m.base with
      | none => s.setMod k { m with base := some mean, code := some (s.code k (s.fld (Reg.GL_CFG k) F.GL_CFG_VON_POS) false) }
      | some b =>
        let s := s.setMod k m
        if b = 0 then (s.setReg (Reg.VON_DRIFT k) (s.freeVal 16)).useFree
        else setOpen (Reg.VON_DRIFT k) 16 true ((mean / b - 1) * 1000) s

/-! ## Drift test (R408) -/

/-- A test may start on a lane at an instant. -/
def State.driftDue (s : State) (k : Nat) (t : Instant) : Bool :=
  let m := s.mod k
  s.monitored k && s.mode == mFORM && m.code.isSome && m.toReport == 0
    && (m.testAt.all fun a => decide (a + sec (3600 * s.reg Reg.DRIFT_PERIOD) ≤ t))

/-- CODE_BASE clamped to the present bounds. -/
def State.baseCode (s : State) (k : Nat) : Nat := s.clampCode k ((s.mod k).code.getD 0)

/-- Whether the next edge of a position goes out with CODE_BASE. -/
def State.driftEdge (s : State) (k p : Nat) (on : Bool) : Bool :=
  !on && p == s.fld (Reg.GL_CFG k) F.GL_CFG_VON_POS && (s.mod k).toSend != 0 && s.mode == mFORM

/-- A test of a lane ends with its last report: the mean of the qualifying edges against the one taken at the baseline. -/
def driftEnd (k : Nat) (s : State) : State :=
  let m := s.mod k
  if m.toReport ≠ 0 ∨ m.dn = 0 then s
  else
    let mean : Rat := (m.dsum : Rat) / m.dn
    let m' := { m with dn := 0, dsum := 0 }
    match m.dvdt with
    | none => s.setMod k { m' with dvdt := some mean }
    | some b =>
      let s := s.setMod k m'
      if b = 0 then (s.setReg (Reg.DVDT_DRIFT k) (s.freeVal 16)).useFree
      else setOpen (Reg.DVDT_DRIFT k) 16 true ((mean / b - 1) * 1000) s

/-- An uplink reports `n` new edges of a position, the last one with a polarity, a code and a dv/dt. -/
def driftReport (k p n : Nat) (on : Bool) (code dvdt : Nat) (s : State) : State :=
  let m := s.mod k
  if on || p != s.fld (Reg.GL_CFG k) F.GL_CFG_VON_POS || decide (m.toReport ≤ m.toSend) || code != s.baseCode k then s
  else
    let ok := s.currentQualifies k p
    let left := max m.toSend (m.toReport - n)
    driftEnd k (s.setMod k { m with toReport := left, dn := m.dn + b2n ok, dsum := m.dsum + (if ok then dvdt else 0) })

/-! ## Junction temperature and rainflow count (R409) -/

/-- The four-point method: while the inner range is no larger than both its neighbours, it is a closed cycle. Newest turning point
first; the ranges that close. -/
def fourPoint : Nat → List Rat → List Rat → List Rat × List Rat
  | n + 1, d :: c :: b :: a :: rest, acc =>
    if absR (c - b) ≤ absR (b - a) ∧ absR (c - b) ≤ absR (d - c) then fourPoint n (d :: a :: rest) (absR (c - b) :: acc)
    else (d :: c :: b :: a :: rest, acc)
  | _, l, acc => (l, acc)

/-- The two half cycles of a closed range are counted in its bin and in LIFE_USED. The spec gives bin 15 no centre: a free value from
75 K on; neither does it say what N_REF = 0 means: a free value. -/
def countCycle (k : Nat) (r : Rat) (s : State) : State :=
  let i := min 15 (r / 5).floor.toNat
  let c : Rat := if i < 15 then 5 * i + 5 / 2 else 75 + (s.freeVal 8 : Nat)
  let s := if i < 15 then s else s.useFree
  let n := s.reg Reg.N_REF
  let half : Rat := if n = 0 then (s.freeVal 16 : Nat) else 1 / (2 * n * ((s.reg Reg.DT_REF : Rat) / c) ^ s.reg Reg.LIFE_EXP)
  let s := if n = 0 then s.useFree else s
  let m := s.mod k
  s.setMod k { m with bins := tabSet 0 m.bins i (tabGet 0 m.bins i + 2), life := m.life + 2 * half }

/-- A value of T_j reaches the rainflow count: an extremum left by 1 K is a turning point. -/
def rainflow (k : Nat) (tj : Rat) (s : State) : State :=
  let m := s.mod k
  match m.ext with
  | none => s.setMod k { m with ext := some tj }
  | some e =>
    let up := decide (e < tj)
    if m.dir = 0 then
      if absR (tj - e) < 1 then s
      else s.setMod k { m with dir := if up then 1 else 2, turns := [e], ext := some tj }
    else if (m.dir = 1 ∧ e ≤ tj) ∨ (m.dir = 2 ∧ tj ≤ e) then s.setMod k { m with ext := some tj }
    else if absR (tj - e) < 1 then s
    else
      let l := e :: m.turns
      let r := fourPoint l.length l []
      let s := s.setMod k { m with dir := 3 - m.dir, ext := some tj, turns := r.1 }
      r.2.foldl (fun s x => countCycle k x s) s

/-- One millisecond of a module: losses, temperature rise, turning points, LIFE_USED. -/
def thermalStep (k : Nat) (s : State) : State :=
  if !s.monitored k then s
  else
    let i := absR (s.laneCurrent k)
    let fc : Rat := 1 / seconds (s.perDur (s.chCarrier (4 * k)))
    -- VON in mV, ESW in mJ, RTH in K/kW
    let p : Rat := (s.upField k 1 : Rat) / 1000 * i / 2 + (s.reg Reg.ESW : Rat) / 1000 * fc * i / s.reg (Reg.MOD_IREF k)
    let m := s.mod k
    let dT := m.dT + 1 / (s.reg Reg.TAU_TH : Rat) * ((s.reg Reg.RTH : Rat) / 1000 * p - m.dT)
    let life := m.life
    let s := rainflow k ((s.modTemp k : Rat) / 10 + dT) (s.setMod k { m with dT := dT })
    if (s.mod k).life = life then s else setOpen (Reg.LIFE_USED k) 16 false ((s.mod k).life * 10000) s

/-- MOD_BASELINE: baselines, bins and LIFE_USED of a lane are cleared (R410). -/
def baselineReset (k : Nat) (s : State) : State :=
  let m := s.mod k
  (s.setMod k { m with n := 0, sum := 0, base := none, code := none, dvdt := none, toSend := 0, toReport := 0, dn := 0, dsum := 0,
                       bins := [], life := 0, fresh := true }).setReg (Reg.LIFE_USED k) 0

/-! ## Re-planning (R411 to R413) -/

/-- f of R411. -/
def ageF (x a b : Rat) : Rat := clampR 0 1 ((x - a) / (b - a))

/-- The three factors of a lane: VON drift, dv/dt drift, life used. -/
def State.ageFactors (s : State) (k : Nat) : List Rat :=
  let a : Rat := s.reg Reg.DRIFT_START
  let b : Rat := s.reg Reg.DRIFT_END
  [ageF (s.sreg 16 (Reg.VON_DRIFT k)) a b, ageF (absR (s.sreg 16 (Reg.DVDT_DRIFT k))) a b,
    ageF (s.reg (Reg.LIFE_USED k)) (s.reg Reg.LIFE_START) (s.reg Reg.LIFE_END)]

/-- The ageing factor A of a lane; 0 for a lane that is not monitored. -/
def State.ageA (s : State) (k : Nat) : Rat := if s.monitored k then (s.ageFactors k).foldl max 0 else 0

/-- The in-service lanes of the built-in law. -/
def State.ageLanes (s : State) : List Nat := if s.builtin then (List.range 24).filter fun k => s.threadIn (laneThread k) else []

/-- A_law, and the lane that gives it. -/
def State.ageLaw (s : State) : Rat × Nat :=
  s.ageLanes.foldl (fun b k => if b.1 < s.ageA k then (s.ageA k, k) else b) (0, s.ageLanes.headD 0)

/-- The reason of Table 15-6 for a value that a lane's factor sets: the factor that is largest; without one, a baseline reset or a
bound. -/
def State.ageReason (s : State) (k : Nat) : Nat :=
  let a := s.ageA k
  if a = 0 then (if (s.mod k).fresh then 8 else 5)
  else ((s.ageFactors k).findIdx fun x => decide (x = a)) + 1

/-- A change of a chosen value is journaled and logged (R413). -/
def planRecord (item reason old new : Nat) (s : State) : State :=
  if old = new then s
  else
    let l := s.ageLaw.2
    let s := s.note noteReplan ([item, old, new, reason] ++ [s.reg (Reg.VON_DRIFT l), s.reg (Reg.DVDT_DRIFT l), s.reg (Reg.LIFE_USED l)]
      ++ (List.range 5).map fun i => s.reg (Reg.RING_LOSS i))
    let s := pushLog Reg.REPLAN_LOG 16 (item * 2 ^ 24 + reason * 2 ^ 16 + new % 2 ^ 16) s
    pushLog Reg.REPLAN_TIME 16 s.time64 s

/-- Item 1, the deadline guard: VDD_FLOOR only rises, except after a write of VDD_MIN (R397). -/
def planGuard (reason : Nat) (s : State) : State :=
  let ring := (List.range 5).foldl (fun m i => max m (s.reg (Reg.RING_LOSS i))) 0
  let v := max (s.reg Reg.VDD_MIN) (min (s.reg Reg.VDD_MAX) (s.reg Reg.VDD_MIN + 10 * ((ring + 99) / 100)))
  let old := s.reg Reg.VDD_FLOOR
  let v := if reason = 5 then v else max old v
  planRecord 1 reason old v (s.setReg Reg.VDD_FLOOR v)

/-- Item 2, the current limit: it takes effect at an outer-cycle start (R412). -/
def planLimit (reason : Nat) (s : State) : State :=
  let hi : Rat := s.sreg 16 Reg.I_LIM
  let lo : Rat := s.sreg 16 Reg.I_LIM_FLOOR
  let r := s.openRound (hi - (hi - lo) * s.ageLaw.1)
  let v := sput 16 r.1
  let old := s.law.ilimNext.getD (s.reg Reg.I_LIM_CHOSEN)
  if v = old then s else planRecord 2 reason old v (r.2.setLaw { r.2.law with ilimNext := some v })

/-- Item 3, the trainer target of a lane (R216, R214). -/
def planScale (k reason : Nat) (s : State) : State :=
  let lo : Rat := s.reg (Reg.SCALE_MIN (s.laneProfile k))
  let r := s.openRound (1000 - (1000 - lo) * s.ageA k)
  let old := s.reg (Reg.TGT_SCALE k)
  let v := r.1.toNat
  if v = old then s else planRecord 3 reason old v (freezeTrainer k (r.2.setReg (Reg.TGT_SCALE k) v))

/-- Item 4, the switching-frequency ceiling. -/
def planFsw (reason : Nat) (s : State) : State :=
  let r := s.openRound (max (s.reg Reg.FSW_FLOOR : Rat) (s.reg Reg.FSW_REF * (1 - s.ageLaw.1 / 2)))
  let old := s.reg Reg.FSW_CEIL
  let v := r.1.toNat
  if v = old then s else planRecord 4 reason old v (r.2.setReg Reg.FSW_CEIL v)

/-- Item 5, the refresh margin of a local driver from its measured VBST droop rate in mV/s. -/
def planRefresh (n rate : Nat) (s : State) : State :=
  let v : Rat := max 0 (s.reg Reg.VDRV - s.reg (Reg.REF_TH n) * 100 - 6500 : Int)
  let old := s.reg (Reg.REF_MARGIN n)
  let s := if rate = 0 then (s.setReg (Reg.REF_MARGIN n) (s.freeVal 32)).useFree
    else setOpen (Reg.REF_MARGIN n) 32 false (v * 1000000 / rate) s
  planRecord 5 7 old (s.reg (Reg.REF_MARGIN n)) s

/-- AGE_FACTOR of the monitored lanes. -/
def ageReport (s : State) : State :=
  s.forEach ((List.range 64).filter s.monitored) fun k s => setOpen (Reg.AGE_FACTOR k) 16 false (s.ageA k * 1000) s

/-- Table 15-5 is evaluated, with the measured droop rates of the local drivers. -/
def replan (droops : List (Option Nat)) (s : State) : State :=
  let s := ageReport s
  if s.reg Reg.REPLAN_EN = 0 then s
  else
    let l := s.ageLaw.2
    let s := planFsw (s.ageReason l) (planLimit (s.ageReason l) (planGuard 4 s))
    let s := s.forEach ((List.range 64).filter s.monitored) fun k s => planScale k (s.ageReason k) s
    let s := s.forEach (List.range 8) fun n s =>
      match listGet none droops n with
      | some r => planRefresh n r s
      | none => s
    s.forEach (List.range 64) fun k s => if (s.mod k).fresh then s.setMod k { s.mod k with fresh := false } else s

/-- FSW_OVER and REFRESH_TIGHT (Table 15-5). -/
def State.fswOver (s : State) : Bool := decide (s.reg Reg.FSW_CEIL < s.par Reg.CARRIER_FREQ)
def State.refreshTight (s : State) : Bool :=
  (List.range 8).any fun n =>
    let cfg := s.reg (Reg.LD_CFG n)
    let m := us (s.reg (Reg.REF_MARGIN n))
    fget F.LD_CFG_EN cfg == 1 &&
      (if fget F.LD_CFG_MODE cfg = 0 then decide (m < 4 * s.perDur (s.chCarrier (fget F.LD_CFG_SRC cfg)))
       else decide (m < 4 * us (s.reg (Reg.RPER n))))

/-- TGT_SCALE of a lane whose SCALE_MIN now excludes it moves to that bound (R216, R27). -/
def scaleBound (k : Nat) (s : State) : State :=
  let lo := s.reg (Reg.SCALE_MIN (s.laneProfile k))
  let old := s.reg (Reg.TGT_SCALE k)
  if old < lo then planRecord 3 5 old lo (freezeTrainer k (s.setReg (Reg.TGT_SCALE k) lo)) else s

/-- VDD_MIN and VDD_MAX bind VDD_CHOSEN as they are written; the steps of R396 are those of policy's own moves (log entry 26). -/
def vddBound (s : State) : State :=
  let old := s.reg Reg.VDD_CHOSEN
  let v := max (s.reg Reg.VDD_MIN) (min (s.reg Reg.VDD_MAX) old)
  if v = old then s else (s.setReg Reg.VDD_CHOSEN v).emit (.vid ((v - 650) / 10) s.now)

/-- VDD_MIN has been written: the guard is set anew (R397); VDD_MAX: it stays below that. -/
def vddMinWritten (s : State) : State := vddBound (planGuard 5 s)
def vddMaxWritten (s : State) : State :=
  let old := s.reg Reg.VDD_FLOOR
  let v := min old (s.reg Reg.VDD_MAX)
  vddBound (planRecord 1 5 old v (s.setReg Reg.VDD_FLOOR v))

/-- I_LIM or I_LIM_FLOOR has been written; `old` is I_LIM before. I_LIM_CHOSEN follows I_LIM unless a re-plan has lowered it (R70); a
value that the new bounds exclude moves to the nearest one (R27), with the next outer-cycle start. -/
def limitBound (old : Nat) (s : State) : State :=
  let chosen := s.law.ilimNext.getD (s.reg Reg.I_LIM_CHOSEN)
  let v := if chosen = old then s.reg Reg.I_LIM else max (s.reg Reg.I_LIM_FLOOR) (min (s.reg Reg.I_LIM) chosen)
  if v = chosen then s else planRecord 2 5 chosen v (s.setLaw { s.law with ilimNext := some v })

/-- FSW_REF or FSW_FLOOR has been written: a ceiling they exclude moves to the nearest of the two (R27). -/
def fswBound (s : State) : State :=
  let old := s.reg Reg.FSW_CEIL
  let v := max (s.reg Reg.FSW_FLOOR) (min (s.reg Reg.FSW_REF) old)
  if v = old then s else planRecord 4 5 old v (s.setReg Reg.FSW_CEIL v)

end Sys2Proof.Machine
end

