-- ==== Sys2Proof/Machine/Drivers.lean ====
section
/-!
DEFINITION. The commands of the local and static switch drivers (07_gate_links_and_drivers.md, R217 to R225).
-/

namespace Sys2Proof.Machine

/-- LD_ENABLE: EN = 1 is written (R220). -/
def execLdEnable (n : Fin 8) (t : Instant) (s : State) : Host.Outcome State Fault Refusal :=
  let s := (s.advance t).setFlag (Reg.LD_CFG n) F.LD_CFG_EN true
  .next (ldEnable n (storeRws (Reg.LD_CFG n) (s.reg (Reg.LD_CFG n)) s))

/-- LD_BOOTSTRAP_READY: VBST has reached VDRV − REF_TH; the start sequence ends, a fault being retried clears with one try
(R220, R222), and a disable that waited takes effect (R32). -/
def execLdBootstrapReady (n : Fin 8) (vbst : BitVec 16) (t : Instant) (s : State) : Host.Outcome State Fault Refusal :=
  if s.flag (Reg.LD_STATUS n) F.LD_STATUS_BST_WAIT && decide (s.ldRefresh n ≤ vbst.toNat) then
    let s := (s.advance t).setReg (Reg.VBST n) vbst.toNat
    let s := ldSuccess n (s.setFlag (Reg.LD_STATUS n) F.LD_STATUS_REFRESH_LOW false)
    if (s.ld n).pendDisable then .next (ldShutdown n s) else .next (ldApply n s.now s)
  else .next s

/-- LD_BOOTSTRAP_TIMEOUT: 1 ms after the start of the sequence BSTUV is raised (R220); a failed retry counts a try (R224). -/
def execLdBootstrapTimeout (n : Fin 8) (t : Instant) (s : State) : Host.Outcome State Fault Refusal :=
  if s.flag (Reg.LD_STATUS n) F.LD_STATUS_BST_WAIT && decide ((s.ld n).waitAt + ms 1 ≤ t) then
    let s := s.advance t
    let s := if s.flag (Reg.LD_STATUS n) F.LD_STATUS_BSTUV then
        s.setLd n { s.ld n with retry := s.countTry (s.ld n).retry s.now } else s
    let s := ldBstuv n s
    if (s.ld n).pendDisable then .next (ldShutdown n s) else .next s
  else .next s

/-- LD_MODE_WRITE: MODE takes effect at once, through dead time and interlock (R218). The value 3 is reserved. -/
def actLdMode (n m : Nat) (s : State) : State × Nat :=
  if 3 ≤ m then (s, stRange)
  else (ldModeTake n (s.setFld (Reg.LD_CFG n) F.LD_CFG_MODE m), stOK)

def execLdModeWrite (n : Fin 8) (m : BitVec 2) (t : Instant) (s : State) : Host.Outcome State Fault Refusal :=
  .next (stored (Reg.LD_CFG n) (fset F.LD_CFG_MODE (s.reg (Reg.LD_CFG n)) m.toNat) (actLdMode n m.toNat (s.advance t)))

/-- LD_FOLLOW_EDGE: TIME64 reaches the look-ahead instant (plus EDGE_OFS_ACT, R315) of the oldest edge of the followed
channel, and the driver follows it (R218, R219). -/
def execLdFollowEdge (n : Fin 8) (s : State) : Host.Outcome State Fault Refusal :=
  let d := s.ld n
  match d.edges with
  | [] => .next s
  | e :: rest =>
    let t : Instant := ((e.tag : Int) + s.edgeOfs).toNat
    let s := s.advance t
    .next (ldApply n t (s.setLd n { d with edges := rest, level := e.on }))

/-- The period boundaries of a driver (R221): real-time wraps of the followed channel's carrier, or multiples of RPER. -/
def State.ldBoundary (s : State) (n : Nat) (t : Instant) : Bool :=
  if s.fld (Reg.LD_CFG n) F.LD_CFG_MODE = 0 then
    let c := s.carrier (s.chCarrier (s.fld (Reg.LD_CFG n) F.LD_CFG_SRC))
    c.running && (c.wrapAt :: c.recent).any fun w => decide ((w : Int) + s.edgeOfs = t)
  else s.ptpAt t % us (max 1 (s.reg (Reg.RPER n))) == 0

/-- LD_REFRESH: at a period boundary at which the high side is on and VBST is low, a refresh runs: high side off, the low
side on for TREF after LD_DT, the high side on again after another LD_DT (R221). -/
def execLdRefresh (n : Fin 8) (vbst : BitVec 16) (t : Instant) (s : State) : Host.Outcome State Fault Refusal :=
  let s := s.setReg (Reg.VBST n) vbst.toNat
  let low := decide (vbst.toNat < s.ldRefresh n)
  let s := s.setFlag (Reg.LD_STATUS n) F.LD_STATUS_REFRESH_LOW low
  let d := s.ld n
  if low && s.flag (Reg.LD_CFG n) F.LD_CFG_REFRESH_EN && d.high.on && decide (d.high.at_ ≤ t) && s.ldBoundary n t then
    let s := (s.advance t).bump (Reg.REFRESH_COUNT n)
    let dt := s.ldDt n
    .next (s.setLd n { d with
      refreshAt := some t
      lowOff := d.low.at_
      low := { on := false, at_ := t + dt + ns (s.reg (Reg.TREF n)) }
      high := { on := true, at_ := t + dt + ns (s.reg (Reg.TREF n)) + dt } })
  else .next s

/-- LD_BSTUV: with the high side on, VBST falls below 6.5 V, or below VDRV − REF_TH with REFRESH_EN = 0 (R222). -/
def execLdBstuv (n : Fin 8) (vbst : BitVec 16) (t : Instant) (s : State) : Host.Outcome State Fault Refusal :=
  let v := vbst.toNat
  if (s.ld n).high.on && decide ((s.ld n).high.at_ ≤ t) && (decide (v < 6500) || (!s.flag (Reg.LD_CFG n) F.LD_CFG_REFRESH_EN && decide (v < s.ldRefresh n))) then
    let s := (s.advance t).setReg (Reg.VBST n) v
    .next (ldBstuv n (s.setFlag (Reg.LD_STATUS n) F.LD_STATUS_REFRESH_LOW (decide (v < s.ldRefresh n))))
  else .next s

/-- LD_FAULT_RETRY: TRETRY after the decision of an unlatched BSTUV the start sequence runs again, which in STATIC_LOW waits for nothing;
while VDRV is too low no driver starts (R220, R222, R225). -/
def execLdFaultRetry (n : Fin 8) (t : Instant) (s : State) : Host.Outcome State Fault Refusal :=
  let st := s.reg (Reg.LD_STATUS n)
  if fget F.LD_STATUS_BSTUV st = 1 ∧ fget F.LD_STATUS_LATCHED st = 0 ∧ fget F.LD_STATUS_BST_WAIT st = 0 ∧ fget F.LD_STATUS_VDRV_UV st = 0
      ∧ (s.ld n).run ∧ (s.ld n).retry.decision + ms (s.reg Reg.TRETRY) ≤ t then
    let s := ldStart n (s.advance t).now (s.advance t)
    .next (if s.flag (Reg.LD_STATUS n) F.LD_STATUS_BST_WAIT then s else ldApply n s.now (ldSuccess n s))
  else .next s

/-- SD_ENABLE: EN = 1 is written and the charge pump starts (R223). -/
def execSdEnable (n : Fin 4) (t : Instant) (s : State) : Host.Outcome State Fault Refusal :=
  let s := (s.advance t).setFlag (Reg.SD_CFG n) F.SD_CFG_EN true
  .next (sdEnable n (storeRws (Reg.SD_CFG n) (s.reg (Reg.SD_CFG n)) s))

/-- SD_CP_READY: the pump sets CP_OK; a fault being retried clears with one try, and the output follows ON (R223). -/
def execSdCpReady (n : Fin 4) (t : Instant) (s : State) : Host.Outcome State Fault Refusal :=
  if (s.sd n).run && (s.sd n).pump && !s.flag (Reg.SD_STATUS n) F.SD_STATUS_CP_OK then
    let s := (s.advance t).setFlag (Reg.SD_STATUS n) F.SD_STATUS_CP_OK true
    let s := if s.flag (Reg.SD_STATUS n) F.SD_STATUS_CPUV then
        (s.setSd n { s.sd n with retry := s.countTry (s.sd n).retry s.now }).setFlag (Reg.SD_STATUS n) F.SD_STATUS_CPUV false
      else s
    if (s.sd n).pendDisable then .next (sdShutdown n s) else .next (sdApply n s)
  else .next s

/-- SD_CPUV: the pump output falls below its OK level; the output turns off at once and CPUV is raised (R223, R224). -/
def execSdCpuv (n : Fin 4) (t : Instant) (s : State) : Host.Outcome State Fault Refusal :=
  if s.flag (Reg.SD_STATUS n) F.SD_STATUS_CP_OK then
    let s := s.advance t
    let s := (s.setFlag (Reg.SD_STATUS n) F.SD_STATUS_CP_OK false).setFlag (Reg.SD_STATUS n) F.SD_STATUS_CPUV true
    let r : Retry := { (s.sd n).retry with decision := s.now }
    let s := s.setSd n { s.sd n with retry := r, pump := false }
    let s := if s.latches r s.now (s.flag (Reg.SD_CFG n) F.SD_CFG_NO_RETRY) then
        (s.setFlag (Reg.SD_STATUS n) F.SD_STATUS_LATCHED true).setRegBit Reg.DRV_LATCHED (8 + n) true else s
    .next (sdApply n s)
  else .next s

/-- SD_FAULT_RETRY: TRETRY after the decision of an unlatched CPUV the pump restarts (R223). -/
def execSdFaultRetry (n : Fin 4) (t : Instant) (s : State) : Host.Outcome State Fault Refusal :=
  if s.flag (Reg.SD_STATUS n) F.SD_STATUS_CPUV && !s.flag (Reg.SD_STATUS n) F.SD_STATUS_LATCHED && (s.sd n).run
      && decide ((s.sd n).retry.decision + ms (s.reg Reg.TRETRY) ≤ t) then .next (sdStart n (s.advance t))
  else .next s

/-- DRV_CLEAR: latched faults of the masked drivers clear, and the histories of all of them empty; a driver whose fault clears starts
again if it is enabled (R224). The object then reads the drivers not cleared: none, since no condition bars the clear. -/
def actDrvClear (mask : Nat) (s : State) : State × Nat :=
  let s := s.forEach (bitsOf 8 mask) fun n s =>
    let s := s.setLd n { s.ld n with retry := { (s.ld n).retry with clears := [] } }
    if s.flag (Reg.LD_STATUS n) F.LD_STATUS_LATCHED then
      let s := (s.setFlag (Reg.LD_STATUS n) F.LD_STATUS_LATCHED false).setFlag (Reg.LD_STATUS n) F.LD_STATUS_BSTUV false
      let s := s.setRegBit Reg.DRV_LATCHED n false
      if (s.ld n).run then ldStart n s.now s else if s.flag (Reg.LD_CFG n) F.LD_CFG_EN then ldEnable n s else s
    else s
  let s := s.forEach (bitsOf 4 (mask / 256)) fun n s =>
    let s := s.setSd n { s.sd n with retry := { (s.sd n).retry with clears := [] } }
    if s.flag (Reg.SD_STATUS n) F.SD_STATUS_LATCHED then
      let s := (s.setFlag (Reg.SD_STATUS n) F.SD_STATUS_LATCHED false).setFlag (Reg.SD_STATUS n) F.SD_STATUS_CPUV false
      let s := s.setRegBit Reg.DRV_LATCHED (8 + n) false
      if (s.sd n).run then sdStart n s else if s.flag (Reg.SD_CFG n) F.SD_CFG_EN then sdEnable n s else s
    else s
  (s.setReg Reg.DRV_CLEAR 0, stOK)

def execDrvClear (mask : BitVec 12) (s : State) : Host.Outcome State Fault Refusal := .next (actDrvClear mask.toNat s).1

/-- VDRV_UNDERVOLTAGE: VDRV falls below 9.0 V; every driver turns both sides off at once (R225). -/
def execVdrvUndervoltage (mv : BitVec 16) (t : Instant) (s : State) : Host.Outcome State Fault Refusal :=
  if mv.toNat < 9000 then .next (driversUv true ((s.advance t).setReg Reg.VDRV mv.toNat)) else .next s

/-- VDRV_RECOVER: VDRV rises above 9.5 V; each enabled driver restarts (R225). -/
def execVdrvRecover (mv : BitVec 16) (t : Instant) (s : State) : Host.Outcome State Fault Refusal :=
  if 9500 < mv.toNat then
    let s := (s.advance t).setReg Reg.VDRV mv.toNat
    if s.flag (Reg.LD_STATUS 0) F.LD_STATUS_VDRV_UV then .next (driversUv false s) else .next s
  else .next s

end Sys2Proof.Machine
end

