-- ==== Sys2Proof/Machine/Flags.lean ====
section
/-!
DEFINITION. The flags of the Octyr engines (05_octyr_engines.md, R450, Table 5-3): where each stands in FLAGS, which
instruction sets which, and the conditions that read them.
-/

namespace Sys2Proof.Machine

/-- FLAGS with Z and N of the 16-bit result and V as given; the other flags keep their values (R450). -/
def setZNV (fl : BitVec 8) (r : W16) (v : Bool) : BitVec 8 :=
  (fl &&& 0xF8#8) ||| BitVec.ofNat 8 (b2n (r == 0) + 2 * b2n r.msb + 4 * b2n v)

/-- FLAGS with one flag set to `b`. -/
def setFlag (fl : BitVec 8) (i : Nat) (b : Bool) : BitVec 8 :=
  if b then fl ||| (1#8 <<< i) else fl &&& ~~~(1#8 <<< i)

/-- FLAGS with a sticky flag set where `b` holds (SAT, DZ). -/
def stickFlag (fl : BitVec 8) (i : Nat) (b : Bool) : BitVec 8 := if b then fl ||| (1#8 <<< i) else fl

/-- Bit numbers of R450. -/
def flZ : Nat := 0
def flN : Nat := 1
def flV : Nat := 2
def flSAT : Nat := 3
def flLIM : Nat := 4
def flRES : Nat := 5
def flDZ : Nat := 6

/-- A wrapping result: the 16-bit code, and whether it differs from the true signed value (V). -/
def wrap16 (v : Int) : W16 × Bool := (BitVec.ofInt 16 v, decide ((BitVec.ofInt 16 v).toInt ≠ v))

/-- A condition of Table 5-3, codes 0x0 to 0xC; a reserved code is never true. -/
def condHolds (fl : BitVec 8) (c : BitVec 4) : Bool :=
  let z := fl.getLsbD flZ
  let lt := fl.getLsbD flN != fl.getLsbD flV
  match c.toNat with
  | 0 => true
  | 1 => z
  | 2 => !z
  | 3 => lt
  | 4 => !lt
  | 5 => !z && !lt
  | 6 => z || lt
  | 7 => fl.getLsbD flSAT
  | 8 => !fl.getLsbD flSAT
  | 9 => fl.getLsbD flLIM
  | 10 => !fl.getLsbD flLIM
  | 11 => fl.getLsbD flRES
  | 12 => !fl.getLsbD flRES
  | _ => false

/-- WAITP's condition: port[15:0] − Xd satisfies COND 0x1 to 0x6 (Table 5-4, 0x28). -/
def waitpHolds (port x : W16) (c : BitVec 4) : Bool :=
  let r := wrap16 (port.toInt - x.toInt)
  condHolds (setZNV 0#8 r.1 r.2) c

end Sys2Proof.Machine
end

