-- ==== Sys2Proof/Machine/EngOps.lean ====
section
/-!
DEFINITION. The operations of the Octyr engines (05_octyr_engines.md): registers, program flow, data SRAM, ports and their
queues, traps, missed deadlines, the start and the end of a cycle.
-/

namespace Sys2Proof.Machine

/-! ## Registers (Table 5-1) -/

def Engine.xr (x : Engine) (i : Nat) : W16 := tabGet 0 x.x i
def Engine.ar (x : Engine) (i : Nat) : W40 := tabGet 0 x.a i
def Engine.pr (x : Engine) (i : Nat) : BitVec 14 := tabGet 0 x.p i
def Engine.kr (x : Engine) (i : Nat) : BitVec 4 := tabGet 0 x.pk i
def Engine.setX (i : Nat) (v : W16) (x : Engine) : Engine := { x with x := tabSet 0 x.x i v }
def Engine.setA (i : Nat) (v : W40) (x : Engine) : Engine := { x with a := tabSet 0 x.a i v }
def Engine.setP (i : Nat) (v : BitVec 14) (x : Engine) : Engine := { x with p := tabSet 0 x.p i v }
def Engine.setK (i : Nat) (v : BitVec 4) (x : Engine) : Engine := { x with pk := tabSet 0 x.pk i v }
def Engine.setF (f : BitVec 8) (x : Engine) : Engine := { x with flags := f }
/-- A 16-bit result with Z, N and V (R450). -/
def Engine.setXF (i : Nat) (r : W16) (v : Bool) (x : Engine) : Engine := (x.setX i r).setF (setZNV x.flags r v)
/-- SAT, LIM, RES of FLAGS. -/
def Engine.stick (i : Nat) (b : Bool) (x : Engine) : Engine := x.setF (stickFlag x.flags i b)
def Engine.flag (i : Nat) (b : Bool) (x : Engine) : Engine := x.setF (setFlag x.flags i b)

/-! ## Missed deadlines and traps (R137 to R143) -/

/-- The engine of the outer cycle is the built-in law's OE0; a replaced law has none (log entry 62). -/
def State.outerEngine (s : State) (e : Nat) : Bool := s.builtin && e == 0

/-- The alarm of the inner cycle to which a cycle of a law engine belongs: TA0, or without the built-in law the alarm that starts the
engine (log entry 62). -/
def State.innerAlarm (s : State) (e : Nat) : Nat := if s.builtin then 0 else s.reg (Reg.ALARM e)

/-- The inner cycle of a law engine has missed; it counts once, however many engines missed. -/
def innerMissed (e : Nat) (s : State) : State :=
  if s.law.missed.contains (s.innerAlarm e) then s else s.setLaw { s.law with missed := s.innerAlarm e :: s.law.missed }

/-- MISS is set and counted (R142); a law engine's miss is a miss of the inner cycle in progress (03, "HOLD"), one of OE0 leaves the
outer set as it was (R39). -/
def countMiss (e : Nat) (s : State) : State :=
  let s := (s.bump (Reg.MISS_COUNT e)).setFlag (Reg.ENG_STATUS e) F.ENG_STATUS_MISS true
  let s := if s.lawEngine e then innerMissed e s else s
  if s.outerEngine e then (s.setLs F.LAW_STATUS_OUTER_MISS true).setLaw { s.law with outerMissRun := s.law.outerMissRun + 1 }
  else s

/-- The cycle of an engine passes its deadline without END (R17, R138 to R140, R142), or misses it before by a trap or an overrun.
DESIGN CHOICE (log entry 27): where R18 discards a snapshot as TORN at the deadline at which R140 cancels it too, TORN alone shows. -/
def missDeadline (e : Nat) (s : State) : State :=
  let t := min (s.engine e).deadline (s.tickCeil s.now)
  let s := cancelLoads e (invalidateWrites e s)
  countMiss e (snapshotsEligible t (s.setEngine e { s.engine e with late := true, missNow := true }))

/-- A shutdown that waited for the end of the cycle completes; a pending enable enables the engine exactly as from off (R150, R30). -/
def engStopped (e : Nat) (s : State) : State :=
  let x := s.engine e
  if x.stopping then
    let s := (s.setEngine e { x with stopping := false, pendEnable := false }).setReg (Reg.ENABLE e) 0
    if x.pendEnable && s.engStarts e then engEnabled e s else s
  else s

/-- The control phase of an engine ends: nothing of its queues is delivered any more. -/
def endPhase (e : Nat) (s : State) : State :=
  let s := s.setEngine e { s.engine e with inCycle := false, wait := .none, timedQ := [], fabQ := [], before := [] }
  engStopped e (snapshotsEligible (s.tickCeil s.now) s)

/-- A trap (R143): the cycle ends as missed, the engine is faulted; on a law engine HOLD follows at once (R86). -/
def engTrap (e code : Nat) (s : State) : State :=
  let x := s.engine e
  let law := s.lawEngine e
  let s := if x.late then s else missDeadline e s
  let s := endPhase e (s.setEngine e { s.engine e with faulted := true })
  let s := ((s.setReg (Reg.FAULT_CODE e) code).setReg (Reg.FAULT_PC e) x.pc.toNat).setReg (Reg.FAULT_TIME e) s.time64
  reportFaults (if law then enterHold 17 s else s)

/-- A port write registered after the deadline is dropped (R137). -/
def lateWrite (e : Nat) (s : State) : State := (s.bump (Reg.LATE_WRITES e)).setFlag (Reg.ENG_STATUS e) F.ENG_STATUS_LATE_WRITE true

/-! ## SRAM (R125, R144) -/

/-- A corrected read of engine SRAM. -/
def sramCe (e a : Nat) (s : State) : State :=
  let s := ((countCe a s).bump (Reg.ENG_ECC_CORR e)).setFlag (Reg.ENG_STATUS e) F.ENG_STATUS_ECC_CORRECTED true
  s.setEngine e { s.engine e with eccNow := true }

/-- An instruction of an engine in its control phase that waits for nothing: its word is fetched, then it acts (R144). -/
def engExec (e : Nat) (act : State → State) (s : State) : State :=
  let x := s.engine e
  if x.inCycle && x.wait == .none then
    let a := progAddr e x.pc.toNat
    match s.eccAt a with
    | 0 => act s
    | 1 => act (sramCe e a s)
    | _ => engTrap e 3 (countUe a s)
  else s

/-- The address an address mode forms for its j-th word (R125). -/
def Engine.addr (x : Engine) (m : AddrMode) (j : Nat) : BitVec 14 :=
  match m with
  | .absolute a => a + BitVec.ofNat 14 j
  | .indexed p off => formAddr (x.pr p) (x.kr p) (off.toInt + j)
  | .postModified p _ => formAddr (x.pr p) (x.kr p) j

/-- Pn += OFF8 of the post-modified mode. -/
def Engine.postMod (m : AddrMode) (x : Engine) : Engine :=
  match m with
  | .postModified p off => x.setP p (formAddr (x.pr p) (x.kr p) off.toInt)
  | _ => x

/-- The words at data addresses; an uncorrectable one answers none. -/
def dataWords (e : Nat) : List (BitVec 14) → State → Option (List W16) × State
  | [], s => (some [], s)
  | a :: t, s =>
    let p := dataAddr e a.toNat
    match s.eccAt p with
    | 0 | 1 =>
      let w : W16 := BitVec.ofNat 16 (s.load 2 p)
      let r := dataWords e t (if s.eccAt p = 1 then sramCe e p s else s)
      (r.1.map (w :: ·), r.2)
    | _ => (none, countUe p s)

/-- Words stored at data addresses: at once, without a queue (R133, R137). -/
def dataStore (e : Nat) (l : List (BitVec 14 × W16)) (s : State) : State :=
  s.forEach l fun w s => (s.physWrite (dataAddr e w.1.toNat) (toBytes 2 w.2.toNat)).2

/-! ## Program flow (R128) -/

/-- Where the flow goes on when it reaches an address in sequence: back to the start of the loop that ends there, or on. -/
def loopEnd : List LoopLevel → BitVec 13 → BitVec 13 × List LoopLevel
  | [], n => (n, [])
  | l :: t, n =>
    if l.fin = n then (if 1 < l.left then (l.start, { l with left := l.left - 1 } :: t) else loopEnd t n) else (n, l :: t)

/-- The flow reaches an address in sequence. -/
def Engine.goOn (n : BitVec 13) (x : Engine) : Engine :=
  let r := loopEnd x.loops n
  { x with pc := r.1, loops := r.2 }

/-- The next instruction. -/
def Engine.next (x : Engine) : Engine := x.goOn (x.pc + 1)

/-- A taken branch, call or return: the loop levels whose body the target leaves are discarded. -/
def Engine.jump (t : BitVec 13) (x : Engine) : Engine :=
  { x with pc := t, loops := x.loops.filter fun l => decide (l.start ≤ t) && decide (t < l.fin) }

def engSet (e : Nat) (f : Engine → Engine) (s : State) : State := s.setEngine e (f (s.engine e))

/-- An instruction that acts on the registers alone. -/
def regOp (e : Nat) (f : Engine → Engine) (s : State) : State := engExec e (engSet e fun x => (f x).next) s

/-- An instruction whose operand is reserved where `ok` does not hold: it traps with FAULT_CODE 0x02 (R127). -/
def needs (e : Nat) (ok : Bool) (act : State → State) (s : State) : State := if ok then act s else engTrap e 2 s

/-! ## Ports (R130 to R133, R145 to R147) -/

def isFabric (p : Nat) : Bool := (decide (0x700 ≤ p) && decide (p < 0x800)) || (decide (0x900 ≤ p) && decide (p < 0xA00))

/-- The port an operand names. -/
def Engine.port (x : Engine) (r : PortRef) : Nat :=
  match r with
  | .direct p => p.toNat
  | .plusP p i => (p.toNat + (x.pr i).toNat) % 4096

/-- TA_NEXT: the instant of the next instance; without one the spec gives no value. -/
def State.taNext (s : State) (n : Nat) : Nat :=
  match (s.alarm n).insts with
  | i :: _ => s.time64At i.1
  | [] => s.freeVal 64

/-- What an engine reads from a timed port (Tables 5-10 to 5-13); a write-only port answers a free value. -/
def State.timedPort (s : State) (e p : Nat) : Nat :=
  let x := s.engine e
  if p < 0x088 then s.word p
  else if p < 0x090 then s.freeVal 32
  else if p < 0x100 then 0
  else if p < 0x150 then s.word p
  else if p < 0x180 then 0
  else if p < 0x200 then s.word p
  else if p < 0x221 then s.freeVal 32
  else if p = 0x221 then s.loadStatus
  else if p < 0x300 then 0
  else if p < 0x600 then s.freeVal 32
  else if p = 0x600 then s.time64At (s.tickCeil s.now)
  else if p = 0x601 then x.timeHi.toNat
  else if p = 0x602 then s.time64At x.alarmAt
  else if p = 0x603 then s.time64At x.alarmAt / 2 ^ 32
  else if p = 0x604 then s.time64At x.deadline
  else if p = 0x605 then s.time64At x.deadline / 2 ^ 32
  else if p = 0x606 then x.cycleNo - x.cycle0
  else if p = 0x607 then e
  else if p = 0x608 then x.last.toNat
  else if 0x610 ≤ p ∧ p < 0x620 then s.taNext (p - 0x610)
  else if p = 0x630 then s.reg Reg.LEAD
  else if 0x800 ≤ p ∧ p < 0x840 then
    let c := (p - 0x800) / 4
    match p % 4 with
    | 0 => s.freeVal 32
    | 1 => maskOf ((if s.dmaFlag c F.DMA_STATUS_BUSY then [0] else []) ++ (if s.dmaFlag c F.DMA_STATUS_DONE then [1] else [])
        ++ (if s.dmaFlag c F.DMA_STATUS_HALTED then [2] else []) ++ (if s.dmaFlag c F.DMA_STATUS_TIMEOUT then [3] else []))
    | 2 => s.reg (Reg.REMAIN c)
    | _ => 0
  else 0

/-- A read of a port word by an engine: none where fabric memory holds an uncorrectable error. -/
def portRead (e p : Nat) (s : State) : Option W32 × State :=
  if 0x7F0 ≤ p ∧ p < 0x800 then (some (BitVec.ofNat 32 (s.policyWord p)), s)
  else if isFabric p then
    if s.builtin && decide (8 ≤ e) && decide (p < 0x780) && !(decide (0x740 ≤ p) && decide (p ≤ 0x744)) then (some 0, s)
    else
      let q := s.eccCheck 4 (fabricAddr p)
      if q.1.isSome then (none, q.2) else (some (BitVec.ofNat 32 (q.2.load 4 (fabricAddr p))), q.2)
  else
    let v : W32 := BitVec.ofNat 32 (s.timedPort e p)
    let s := if p = 0x600 then engSet e (fun x => { x with timeHi := BitVec.ofNat 32 (s.time64At (s.tickCeil s.now) / 2 ^ 32) }) s else s
    (some v, s.useFree)

/-- The trap code of a write of a value to a port by an engine, 0 for none (R145 to R147, R155). -/
def State.writeTrap (s : State) (e p : Nat) (v : W32) : Nat :=
  let foreign := s.builtin && decide (8 ≤ e)
  let n := v.toNat
  if 0x088 ≤ p ∧ p < 0x090 then (if n ≠ 1 ∧ n ≠ 2 then 8 else if foreign && decide (p < 0x08A) then 9 else 0)
  else if 0x200 ≤ p ∧ p < 0x220 then (if !shadowOk p n then 8 else if foreign && s.lawPort p then 9 else 0)
  else if p = 0x220 then (if 256 ≤ n then 8 else if foreign && bit n 0 then 9 else 0)
  else if 0x300 ≤ p ∧ p < 0x600 then (if !shadowOk p n then 8 else if foreign && s.lawPort p then 9 else 0)
  else if 0x700 ≤ p ∧ p < 0x7F0 then (if foreign && decide (p < 0x780) then 9 else 0)
  else if 0x800 ≤ p ∧ p < 0x840 ∧ p % 4 = 0 then 0
  else if 0x900 ≤ p ∧ p < 0xA00 then (if (p - 0x900) / 16 = e ∧ (p % 16 < 8 ∨ p % 16 = 14) then 0 else 8)
  else 8

/-- A word of fabric memory is registered; a change of OUT_SEQ copies the outbound words to MB_OUT in one piece (R147). -/
def fabricWrite (p : Nat) (v : W32) (s : State) : State :=
  let old := s.load 4 (fabricAddr p)
  let s := fabricStore p v.toNat s
  if 0x900 ≤ p ∧ p % 16 = 14 ∧ old ≠ v.toNat then
    let m := (p - 0x900) / 16
    (s.forEach (List.range 8) fun i s => s.setReg (Reg.MB_OUT m i) (s.load 4 (fabricAddr (0x900 + 16 * m + i)))).setReg
      (Reg.MB_OUT_SEQ m) v.toNat
  else s

/-- A write of an engine reaches its port (R130, R137, R147). -/
def deliver (e : Nat) (w : PortWrite) (s : State) : State :=
  let x := s.engine e
  if x.late || decide (x.deadline < s.now) then lateWrite e s
  else if isFabric w.port then fabricWrite w.port (BitVec.ofNat 32 w.val) s
  else if w.port < 0x090 then swTrig (w.port - 0x088) w.val s
  else if w.port = 0x220 then loadAllGroups (some (e, x.cycleNo)) w.val s
  else if w.port < 0x600 then writeShadow (some (e, x.cycleNo)) w.port w.val s
  else dmaDoorbell ((w.port - 0x800) / 4) s

/-- A port write of an engine enters its queue, and the engine goes on, or waits for room (R130). -/
def portWrite (e p : Nat) (v : W32) (s : State) : State :=
  match s.writeTrap e p v with
  | 0 =>
    let x := s.engine e
    let w : PortWrite := ⟨p, v.toNat⟩
    if isFabric p then
      if x.fabQ.length < 8 then s.setEngine e { x with fabQ := x.fabQ ++ [w] }.next else s.setEngine e { x with wait := .room w }
    else if x.timedQ.length < 8 then s.setEngine e { x with timedQ := x.timedQ ++ [w] }.next
    else s.setEngine e { x with wait := .room w }
  | c => engTrap e c s

/-- Both queues of an engine are empty. -/
def Engine.drained (x : Engine) : Bool := x.timedQ.isEmpty && x.fabQ.isEmpty

/-- An instruction that uses the word of a port; an uncorrectable error traps with 0x04. -/
def withPort (e p : Nat) (f : W32 → Engine → Engine) (s : State) : State :=
  let r := portRead e p s
  match r.1 with
  | some v => engSet e (fun x => (f v x).next) r.2
  | none => engTrap e 4 r.2

/-- Low half to Xd, high half to X(d+1). -/
def Engine.setPair (d : Nat) (v : W32) (x : Engine) : Engine := (x.setX d (v.setWidth 16)).setX (d + 1) ((v >>> 16).setWidth 16)
/-- X(d+1) · 2^16 + Xd. -/
def Engine.pair (x : Engine) (d : Nat) : W32 := BitVec.ofNat 32 ((x.xr (d + 1)).toNat * 65536 + (x.xr d).toNat)

/-- The port word has been written since the cycle started (R130, INW). -/
def State.inwReady (s : State) (e p : Nat) : Bool := decide ((s.engine e).serial0 < tabGet 0 s.portSerial p)

/-! ## Illegal words (R127) -/

/-- The reserved bits of a format R word: bits of fields that the operation uses are given. -/
def reservedR (w used : Nat) : Bool := clearMask (w % 2 ^ 26) used != 0

/-- Field masks of format R: D, S, T, A, SUB, IMM8. -/
def mD : Nat := 0x3C00000
def mS : Nat := 0x3C0000
def mT : Nat := 0x3C000
def mA : Nat := 0x3000
def mSub : Nat := 0xF00
def mImm : Nat := 0xFF

/-- A signed shift count outside its range. -/
def shiftBad (w : Nat) (lo hi : Int) : Bool := let n := sget 8 w; decide (n < lo) || decide (hi < n)

/-- A format M word that is not well formed: `acc` for operations on an accumulator, `dUsed` for those on Xd, `even` for pairs. -/
def badM (w : Nat) (acc dUsed even : Bool) : Bool :=
  let am := w / 2 ^ 17 % 4
  am == 3 || bit w 14 || (!acc && w / 2 ^ 15 % 4 != 0) || (!dUsed && w / 2 ^ 22 % 16 != 0) || (even && bit w 22)
    || (am == 0 && w / 2 ^ 19 % 8 != 0) || (am != 0 && w / 256 % 64 != 0)

/-- A format P word that is not well formed. -/
def badP (w : Nat) (acc dUsed even : Bool) : Bool :=
  (!bit w 18 && w / 2 ^ 19 % 8 != 0) || (!acc && w / 2 ^ 16 % 4 != 0) || (!dUsed && w / 2 ^ 22 % 16 != 0) || (even && bit w 22)

/-- Used bits of MOV by SUB. -/
def movUsed : Nat → Nat
  | 0 => mD + 0x1C0000
  | 1 => 0x1C00000 + mS
  | 2 | 3 | 4 => mD + mA
  | 5 | 6 | 7 => mA + mS
  | _ => mD

/-- Why a program word traps: 1 for an opcode that Table 5-4 does not list, 2 for a reserved field, SUB, COND, AM or k value or an
odd D; none for a well-formed word. -/
def illegalCode (w : Nat) : Option Nat :=
  let sub := w / 256 % 16
  let bad (b : Bool) : Option Nat := if b then some 2 else none
  let cond := w / 2 ^ 22 % 16
  match w / 2 ^ 26 with
  | 0x01 | 0x02 | 0x03 => bad (reservedR w (mS + mT + mA))
  | 0x04 => bad (badM w true true false)
  | 0x05 => bad (decide (6 < sub) || reservedR w (mA + mSub + if sub < 4 then 0xC0000 else 0))
  | 0x06 => bad (reservedR w (mD + mA + mImm) || shiftBad w (-8) 7)
  | 0x07 => bad (reservedR w (mA + mS + mImm) || shiftBad w (-16) 7)
  | 0x08 => bad (reservedR w (mA + 0x100 + mImm) || shiftBad w (-32) 31)
  | 0x09 => bad (decide (0xC < sub) || reservedR w (mD + mS + mSub + if sub < 9 then mT else 0))
  | 0x0A => bad (decide (3 < sub) || reservedR w (mD + mS + mSub + mImm) || decide (16 < w % 256))
  | 0x0B => bad (decide (1 < sub) || reservedR w ((if sub = 0 then mD else mA) + mS + mT + mSub))
  | 0x0C => bad (reservedR w (mD + mS))
  | 0x0D => bad (reservedR w (mD + mA + mS + mT) || bit w 22)
  | 0x0E => bad (reservedR w (mD + mS + mT))
  | 0x0F => bad (reservedR w (mD + mS) || bit w 22)
  | 0x10 | 0x11 | 0x12 => bad (reservedR w (mD + 0xFFFF))
  | 0x13 => bad (reservedR w (0x60000 + 0xFFFF))
  | 0x14 => bad (reservedR w (0x400000 + 0x380000 + if bit w 22 then 0xF else 0x3FFF) || (bit w 22 && w % 16 == 15))
  | 0x15 => bad (reservedR w (0x380000 + 0xFFFF))
  | 0x16 => bad (decide (8 < sub) || reservedR w (mSub + movUsed sub))
  | 0x17 => bad (reservedR w (mS + mT))
  | 0x18 | 0x19 => bad (badM w false true false)
  | 0x1A | 0x1B => bad (badM w false true true)
  | 0x1C | 0x1D => bad (badM w true false false)
  | 0x20 | 0x21 | 0x24 => bad (badP w false true false || w / 2 ^ 12 % 16 != 0)
  | 0x22 | 0x23 | 0x25 | 0x27 => bad (badP w false true true || w / 2 ^ 12 % 16 != 0)
  | 0x26 => bad (badP w true false false || w / 2 ^ 12 % 16 != 0)
  | 0x28 => bad (badP w false true false || !(decide (1 ≤ w / 2 ^ 12 % 16) && decide (w / 2 ^ 12 % 16 ≤ 6)))
  | 0x30 => bad (decide (0xC < cond) || w / 2 ^ 13 % 512 != 0)
  | 0x31 => bad (cond != 0 || w / 2 ^ 13 % 512 != 0)
  | 0x33 => bad (cond != 0)
  | 0x32 | 0x38 | 0x39 | 0x3A => bad (w % 2 ^ 26 != 0)
  | 0x3B => bad (reservedR w 0x7F)
  | _ => some 1

/-! ## Program words as operations (R126) -/

/-- A field of a word that names one of 16 X registers, 4 accumulators or 8 address registers. -/
def fX (w lo : Nat) : Fin 16 := Fin.ofNat 16 (w / 2 ^ lo)
def fA (w lo : Nat) : Fin 4 := Fin.ofNat 4 (w / 2 ^ lo)
def fP (w lo : Nat) : Fin 8 := Fin.ofNat 8 (w / 2 ^ lo)

/-- AM with ADDR, or P and OFF8, of a format M word. -/
def memRef (w : Nat) : AddrMode :=
  match w / 2 ^ 17 % 4 with
  | 0 => .absolute (BitVec.ofNat 14 w)
  | 1 => .indexed (fP w 19) (BitVec.ofNat 8 w)
  | _ => .postModified (fP w 19) (BitVec.ofNat 8 w)

/-- IX with PORT and P of a format P word. -/
def portRef (w : Nat) : PortRef :=
  if bit w 18 then .plusP (BitVec.ofNat 12 w) (fP w 19) else .direct (BitVec.ofNat 12 w)

/-- ACC.op Aa, Ab. -/
def accWord (e : Fin 16) (w : Nat) : Instr :=
  let a := fA w 12
  let b := fA w 18
  match w / 256 % 16 with
  | 0 => .adda e a b
  | 1 => .suba e a b
  | 2 => .addas e a b
  | 3 => .mova e a b
  | 4 => .nega e a
  | 5 => .absa e a
  | _ => .clra e a

/-- ALU.op Xd, Xs, Xt. -/
def aluWord (e : Fin 16) (w : Nat) : Instr :=
  let d := fX w 22
  let xs := fX w 18
  let xt := fX w 14
  match w / 256 % 16 with
  | 0 => .add e d xs xt
  | 1 => .sub e d xs xt
  | 2 => .adds e d xs xt
  | 3 => .subs e d xs xt
  | 4 => .andX e d xs xt
  | 5 => .orX e d xs xt
  | 6 => .xorX e d xs xt
  | 7 => .minX e d xs xt
  | 8 => .maxX e d xs xt
  | 9 => .negX e d xs
  | 10 => .absX e d xs
  | 11 => .notX e d xs
  | _ => .aluMov e d xs

/-- SHX.op Xd, Xs, #n. -/
def shxWord (e : Fin 16) (w : Nat) : Instr :=
  let d := fX w 22
  let xs := fX w 18
  let n := BitVec.ofNat 8 w
  match w / 256 % 16 with
  | 0 => .asr e d xs n
  | 1 => .lsr e d xs n
  | 2 => .lsl e d xs n
  | _ => .lsls e d xs n

/-- MOV.op. -/
def movWord (e : Fin 16) (w : Nat) : Instr :=
  let d := fX w 22
  let xs := fX w 18
  let a := fA w 12
  match w / 256 % 16 with
  | 0 => .movXP e d (fP w 18)
  | 1 => .movPX e (fP w 22) xs
  | 2 => .movXAlow e d a
  | 3 => .movXAhigh e d a
  | 4 => .movXAguard e d a
  | 5 => .movAlowX e a xs
  | 6 => .movAhighX e a xs
  | 7 => .movAguardX e a xs
  | _ => .movXFlags e d

/-- The command that a program word of an engine spells (R126, Tables 5-2 and 5-4): its operation with the fields of its format, or
the trap of a word that is not well formed (R127). -/
def decodeWord (e : Fin 16) (w : BitVec 32) : Instr :=
  let n := w.toNat
  let d := fX n 22
  let xs := fX n 18
  let xt := fX n 14
  let a := fA n 12
  let imm := BitVec.ofNat 16 n
  let sh := BitVec.ofNat 8 n
  if (illegalCode n).isSome then .illegalInstruction e w
  else
    match n / 2 ^ 26 with
    | 0x01 => .mpy e a xs xt
    | 0x02 => .mac e a xs xt
    | 0x03 => .msu e a xs xt
    | 0x04 => .macm e (fA n 15) d (memRef n)
    | 0x05 => accWord e n
    | 0x06 => .satr e d a sh
    | 0x07 => .lda e a xs sh
    | 0x08 => .sha e a sh (bit n 8)
    | 0x09 => aluWord e n
    | 0x0A => shxWord e n
    | 0x0B => if bit n 8 then .lima e a xs xt else .limit e d xs xt
    | 0x0C => .slew e d xs
    | 0x0D => .preset e d a xs xt
    | 0x0E => .divq e d xs xt
    | 0x0F => .scos e d xs
    | 0x10 => .ldi e d imm
    | 0x11 => .addi e d imm
    | 0x12 => .cmpi e d imm
    | 0x13 => .ldai e (fA n 17) imm
    | 0x14 => if bit n 22 then .ldpiK e (fP n 19) imm else .ldpi e (fP n 19) imm
    | 0x15 => .addpi e (fP n 19) imm
    | 0x16 => movWord e n
    | 0x17 => .cmp e xs xt
    | 0x18 => .ld e d (memRef n)
    | 0x19 => .st e d (memRef n)
    | 0x1A => .ldd e d (memRef n)
    | 0x1B => .std e d (memRef n)
    | 0x1C => .ldacc e (fA n 15) (memRef n)
    | 0x1D => .stacc e (fA n 15) (memRef n)
    | 0x20 => .inPort e d (portRef n)
    | 0x21 => .inh e d (portRef n)
    | 0x22 => .ind e d (portRef n)
    | 0x23 => .inw e d (portRef n)
    | 0x24 => .out e d (portRef n)
    | 0x25 => .outd e d (portRef n)
    | 0x26 => .outa e (fA n 16) (portRef n)
    | 0x27 => .atadd e d (portRef n)
    | 0x28 => .waitp e d (portRef n) (BitVec.ofNat 4 (n / 2 ^ 12))
    | 0x30 => .branch e (BitVec.ofNat 4 (n / 2 ^ 22)) (BitVec.ofNat 13 n)
    | 0x31 => .call e (BitVec.ofNat 13 n)
    | 0x32 => .ret e
    | 0x33 => .loop e (BitVec.ofNat 9 (n / 2 ^ 13)) (BitVec.ofNat 13 n)
    | 0x38 => .fence e
    | 0x39 => .endCycle e
    | 0x3A => .nop e
    | 0x3B => .trap e sh
    | _ => .illegalInstruction e w

/-- The command that the next word of an engine's program spells: what the engine executes (R126; log entry 100). -/
def State.nextWord (s : State) (e : Fin 16) : Instr :=
  decodeWord e (BitVec.ofNat 32 (s.load 4 (progAddr e (s.engine e).pc.toNat)))

/-! ## The start of a cycle (R124, R136, R141, R143) -/

/-- The instant at which the next instance of an alarm would fall with the present values (R136): the placed one; in CARRIER mode,
where the instance of the next wrap has been delivered or none is, that of the first named wrap after it, with the present effective
PER and PH and the present TA_ADV. -/
def State.nextInstance (s : State) (n : Nat) : Option Instant :=
  match (s.alarm n).insts with
  | i :: _ => some i.1
  | [] =>
    let cfg := s.reg (Reg.TA_CFG n)
    let cg := fget F.TA_CFG_CG cfg
    let div := max 1 (fget F.TA_CFG_DIV cfg)
    if s.alarmOn n cg then
      (s.nextWrap cg).map fun w =>
        let k := (fget F.TA_CFG_PHASE cfg + div - (w.1 + 1) % div) % div + 1
        (((w.2 + k * s.perDur cg : Nat) : Int) + s.edgeOfs - (ns (s.reg (Reg.TA_ADV n)) : Nat)).toNat
    else none

/-- The deadline of a cycle that an alarm starts at `at_` (R136). -/
def State.deadlineOf (s : State) (e n : Nat) (at_ : Instant) : Instant :=
  let d := s.tickFloor (at_ + ns (s.reg (Reg.DEADLINE_OFS e)))
  match s.nextInstance n with
  | some i => if i ≤ d then s.tickBefore i else d
  | none => d

/-- An alarm instance reaches an enabled engine. A faulted one counts a missed cycle; a cycle that still executes is aborted as an
overrun; then the new cycle begins (R124, R136, R141, R143). -/
def startCycle (e n : Nat) (at_ : Instant) (s : State) : State :=
  let x := s.engine e
  if x.faulted then countMiss e s
  else if !x.valid || x.loading || x.stopping then s
  else
    let s := if x.inCycle then
        let s := if x.late then s else missDeadline e s
        let s := endPhase e s
        let s := (s.bump (Reg.OVERRUN_COUNT e)).setFlag (Reg.ENG_STATUS e) F.ENG_STATUS_OVERRUN true
        s.setEngine e { s.engine e with ovrNow := true }
      else s
    let x := s.engine e
    let last : BitVec 3 := BitVec.ofNat 3 (b2n x.missNow + 2 * b2n x.ovrNow + 4 * b2n x.eccNow)
    let s := s.bump (Reg.CYCLES e)
    s.setEngine e { x with
      pc := BitVec.ofNat 13 (s.reg (Reg.ENTRY e)), flags := 0, calls := [], loops := [], inCycle := true, wait := .none
      timedQ := [], fabQ := [], alarmAt := at_, deadline := s.deadlineOf e n at_, late := false
      cycleNo := x.cycleNo + 1, last := last, eccNow := false, missNow := false, ovrNow := false
      serial0 := s.serial, before := [], selftest := false }

/-- The measured slack of a cycle whose END is registered (Table 5-14). -/
def slack (e : Nat) (s : State) : State :=
  let x := s.engine e
  let d : Int := ((s.time64At x.deadline : Int) - s.time64At (s.tickCeil s.now))
  let v := sput 32 (satS 32 d)
  let s := s.setReg (Reg.SLACK_LAST e) v
  let low := x.slackValid && decide (s.sreg 32 (Reg.SLACK_MIN e) ≤ d)
  if low then s else (s.setReg (Reg.SLACK_MIN e) v).setEngine e { s.engine e with slackValid := true }

end Sys2Proof.Machine
end

