-- ==== Sys2Proof/Machine/LawSetup.lean ====
section
/-!
DEFINITION. The resources that the built-in law owns and how it configures them (02, R33 to R35; 03, R71; 05, R151; 09, R274),
loading an engine, and the stored value of an object (16, R424). Log entry 60 lists the choices of configuration.
-/

namespace Sys2Proof.Machine

/-! ## Stored values (R424) -/

/-- The configuration slot of the highest generation. -/
def State.newestSlot (s : State) : Option Slot :=
  match s.mram.slotA, s.mram.slotB with
  | some a, some b => some (if a.gen < b.gen then b else a)
  | some a, none => some a
  | none, b => b

/-- The stored value of an RWS object: its newest delta, else the newest slot's value, else its default. -/
def State.storedVal (s : State) (k : Nat) : Nat :=
  match s.mram.deltas.reverse.find? (fun d => d.obj == k && d.active.isNone) with
  | some d => d.val
  | none =>
    match s.newestSlot with
    | some sl => tabGet (objReset k) sl.vals k
    | none => objReset k

/-! ## Engine images (R148, R149) -/

/-- The SRAM of an engine is zeroed; its code words hold no error. -/
def sramClear (e : Nat) (s : State) : State :=
  let lo := engineBase + e * 0x10000
  let hi := lo + 0x10000
  { s with
    mem := memZero lo hi s.mem
    memo := { s.memo with ecc := s.memo.ecc.filter fun x => decide (x.1 < lo) || decide (hi ≤ x.1) } }

/-- Every register of an engine at zero, no fault; what counts its cycles stays. -/
def Engine.cleared (x : Engine) (valid : Bool) : Engine :=
  { valid := valid, cycleNo := x.cycleNo, cycle0 := x.cycle0, slackValid := x.slackValid, lastTick := x.lastTick
    missNow := x.missNow, ovrNow := x.ovrNow, eccNow := x.eccNow, stopping := x.stopping, pendEnable := x.pendEnable
    selftest := x.selftest }

/-- The words of an image go to the engine's SRAM. -/
def imageLoad (e : Nat) (s : State) : State :=
  let im := tabGet {} s.mram.images e
  let s := sramClear e s
  let s := s.forEach im.prog fun w s => s.store 4 (progAddr e w.1) w.2
  let s := s.forEach im.data fun w s => s.store 2 (dataAddr e w.1) w.2
  s.setEngine e ((s.engine e).cleared true)

/-- The law of an engine comes from the ROM: what its SRAM then holds the spec does not give (R90, R151). -/
def romLoad (e : Nat) (s : State) : State :=
  let s := sramClear e s
  s.setEngine e ((s.engine e).cleared true)


/-- An engine stops at once: its cycle ends without effect on what is registered. -/
def engStop (e : Nat) (s : State) : State :=
  let s := if (s.engine e).inCycle then endPhase e (if (s.engine e).late then s else missDeadline e s) else s
  (s.setEngine e { s.engine e with stopping := false, pendEnable := false }).setReg (Reg.ENABLE e) 0

/-! ## What the law owns (R34) -/

/-- The law's registers: time alarms, sequence groups, carriers, channels, load group, gate links, engines. -/
def lawRegs : List Nat :=
  ((List.range 3).flatMap fun n =>
    [Reg.TA_CFG n, Reg.TA_START n, Reg.TA_START_FRAC n, Reg.TA_PERIOD n, Reg.TA_PERIOD_FRAC n, Reg.TA_ADV n])
  ++ ((List.range 2).flatMap fun n => [Reg.SQ_CFG n, Reg.REG_TRIG n, Reg.INJ_TRIG n]
    ++ (List.range 64).map (Reg.REG_ENTRY n) ++ (List.range 15).map (Reg.INJ_ENTRY n))
  ++ ((List.range 10).flatMap fun n => [Reg.CG_CFG n, Reg.CG_EVT n])
  ++ (List.range 96).map Reg.CH_CFG ++ [Reg.LG_CFG 0] ++ (List.range 24).map Reg.GL_CFG
  ++ ((List.range 8).flatMap fun e => [Reg.ENABLE e, Reg.ALARM e, Reg.ENTRY e, Reg.DEADLINE_OFS e])

/-- One of the law's rounds as an injected sequence of one step. -/
def lawRound (q : Nat) (trig : Nat) (l : List Nat) (s : State) : State :=
  let s := s.forEach (List.zip (List.range l.length) l) fun x s =>
    s.setReg (Reg.INJ_ENTRY q x.1) (fset F.ENTRY_NEW_STEP x.2 (if x.1 = 0 then 1 else 0))
  let cfg := fset F.SQ_CFG_EN (fset F.SQ_CFG_INJ_LEN 0 l.length) (b2n (s.reg Reg.MODE != 0))
  (s.setReg (Reg.SQ_CFG q) cfg).setReg (Reg.INJ_TRIG q) trig

/-- The law configures its resources while it is stopped (R33 to R35): TA1 at OUTER_RATE, rounds, carriers, channels, load group,
links, engines. The outer deadline is T_o − T_i after TA1; the spec does not say how a period that is no whole number of ns is rounded, and the
model floors each (DESIGN CHOICE, log entry 58). -/
def lawSetup (s : State) : State :=
  let s := s.forEach (List.range 10) fun n s => (lawCarrierSet n s).setReg (Reg.CG_CFG n) 0
  let s := s.setReg (Reg.LG_CFG 0) 0
  let s := s.forEach (List.range 96) fun c s =>
    s.setReg (Reg.CH_CFG c) (fset F.CH_CFG_EN (fset F.CH_CFG_CARRIER 0 (2 + laneThread (c / 4))) 1)
  let s := lawRound 1 0x10 (s.roundInputs true) (lawRound 0 0x12 (s.roundInputs false) s)
  let ofs (e : Nat) : Nat :=
    if e = 0 then 1000000000 / max 1 (s.par Reg.OUTER_RATE) - 1000000000 / max 1 (s.par Reg.INNER_RATE) else if e < 6 then 1000 else 1200
  let s := s.forEach (List.range 8) fun e s =>
    ((s.setReg (Reg.ALARM e) (if e = 0 then 1 else if e < 6 then 0 else 2)).setReg (Reg.ENTRY e) 0).setReg (Reg.DEADLINE_OFS e) (ofs e)
  let s := s.forEach (List.range 24) fun k s =>
    let on := s.threadIn (laneThread k)
    if s.flag (Reg.GL_CFG k) F.GL_CFG_EN = on then s else laneSetEn k on s
  if s.reg Reg.MODE = 0 then lawStop s else s

/-- The alarms of the law follow a new LEAD (R22): from the next instance that is fixed. -/
def lawLead (s : State) : State :=
  if s.builtin then
    let adv := 1000 + s.reg Reg.LEAD
    ((s.setReg (Reg.TA_ADV 0) adv).setReg (Reg.TA_ADV 1) adv).setReg (Reg.TA_ADV 2) (adv + 200)
  else s

/-! ## The comparators and lanes of the cycle-by-cycle limit (R71, R274) -/

/-- Lane k, thread k/3, phase k mod 3: configuration of R274. -/
def State.cbcLaneCfg (s : State) (k : Nat) : Nat :=
  let src := s.reg (Reg.CBC_SRC k)
  let v := fset F.LANE_CFG_OUT_SHIFT (fset F.LANE_CFG_DECIM (fset F.LANE_CFG_ORDER 0 3) 16) 1
  if src < 24 then fset F.LANE_CFG_EN (fset F.LANE_CFG_SRC v src) 1 else v

/-- Positions of a leg that a comparator watches: 0, and 1 or 3 by the leg type (R72). -/
def State.cbcNeg (s : State) : Nat := if s.par Reg.LEG_TYPE = 0 then 1 else 3

/-- Bank A of a lane holds its factory set, the single coefficient of unit gain (R71, R274). -/
def bankFactory (k : Nat) (s : State) : State :=
  { s with filt := { s.filt with coefs := tabErase s.filt.coefs (2 * k) } }.setReg (bankReg k 0) (objReset (bankReg k 0))

/-- Lane k and the comparators of its leg as the law sets them (R71, R274): the factory set in bank A, on which a lane that runs restarts. -/
def cbcLaneSet (k : Nat) (s : State) : State :=
  let runs := s.laneRuns k
  let s := laneCfgApply k (s.cbcLaneCfg k) (bankFactory k s)
  let s := if runs && s.laneRuns k then flFresh k (flBank k 0 s) else s
  let on := if s.reg (Reg.CBC_SRC k) < 24 then 1 else 0
  let v := fset F.CH_CBC_EN (fset F.CH_CBC_LANE 0 k) on
  let s := s.forEach (List.range 4) fun p s => s.setReg (Reg.CH_CBC (4 * k + p)) 0
  (s.setReg (Reg.CH_CBC (4 * k)) v).setReg (Reg.CH_CBC (4 * k + s.cbcNeg)) (fset F.CH_CBC_DIR v 1)

/-- The law takes FL0–FL11 and the comparators of EC0–EC47. -/
def cbcTake (s : State) : State :=
  let s := s.setLaw { s.law with cbcOwned := true }
  let s := s.forEach (List.range 12) fun k s =>
    cbcLaneSet k { s with filt := { s.filt with saved := tabInsert (tabErase s.filt.saved k) k (s.reg (Reg.LANE_CFG k)) } }
  cbcThresholds s

/-- The lane or a comparator of leg k is not as the law would set it now. -/
def State.cbcStale (s : State) (k : Nat) : Bool :=
  let neg := s.reg (Reg.CH_CBC (4 * k + s.cbcNeg))
  s.reg (Reg.LANE_CFG k) != s.cbcLaneCfg k || fget F.CH_CBC_DIR neg != 1 || fget F.CH_CBC_EN neg != b2n (s.reg (Reg.CBC_SRC k) < 24)

/-- A source of 0x3461 or a leg type that has changed while the law owns the lanes takes effect with its lane (R71 to R73). -/
def cbcFollow (s : State) : State :=
  let l := (List.range 12).filter s.cbcStale
  if l.isEmpty then s else cbcThresholds (s.forEach l cbcLaneSet)

/-- Ownership ends: the lanes are disabled, the comparators cleared, and the stored LANE_CFG takes effect. -/
def cbcRelease (s : State) : State :=
  if !s.law.cbcOwned then s
  else
    let s := s.setLaw { s.law with cbcOwned := false }
    let s := s.forEach (List.range 48) fun c s => s.setReg (Reg.CH_CBC c) 0
    s.forEach (List.range 12) fun k s =>
      let old := tabGet 0 s.filt.saved k
      let s := laneCfgApply k (fset F.LANE_CFG_EN (s.reg (Reg.LANE_CFG k)) 0) s
      laneCfgApply k old { s with filt := { s.filt with saved := tabErase s.filt.saved k } }

/-- Ownership at an outer-cycle start (R71). -/
def cbcOwnership (s : State) : State :=
  let want := s.builtin && s.lreg Reg.CBC_EN == 1
  if want && !s.law.cbcOwned && s.mode == mBASECAMP then cbcTake s
  else if !want && s.law.cbcOwned then cbcRelease s
  else if s.law.cbcOwned && s.mode == mBASECAMP then cbcFollow s
  else s

/-! ## LAW_BUILTIN (R151) -/

/-- The law is loaded into OE0–OE7 and its resources are configured. -/
def lawTake (s : State) : State :=
  let s := s.forEach (List.range 8) fun e s => romLoad e (engStop e s)
  lawSetup (s.setReg Reg.LAW_BUILTIN 1)

/-- The law leaves OE0–OE7: they stop, their SRAM is zeroed, the resources return to their stored configuration, and images
with AUTO_LOAD = 1 are loaded. -/
def lawLeave (s : State) : State :=
  let s := s.forEach (List.range 8) fun e s =>
    let s := sramClear e (engStop e s)
    -- ENGINE_FAULT ends with a load (R143)
    s.setEngine e { (s.engine e).cleared false with faulted := (s.engine e).faulted }
  let s := cbcRelease s
  let s := s.forEach (List.range 3) fun n s => alarmDisable n s
  let s := s.forEach (List.range 10) fun n s =>
    if (s.carrier n).running then stopCarrier s.la n s
    else carrierAlarmCancel n (s.setCarrier n { s.carrier n with startAt := none })
  let lanes := (List.range 24).map fun k => s.flag (Reg.GL_CFG k) F.GL_CFG_EN
  let s := s.setReg Reg.LAW_BUILTIN 0
  let s := s.forEach lawRegs fun k s => s.setReg k (s.storedVal k)
  let s := s.forEach (List.range 3) fun n s => if s.flag (Reg.TA_CFG n) F.TA_CFG_EN then alarmEnable n s else s
  let s := s.forEach (List.zip (List.range 24) lanes) fun x s =>
    let on := s.flag (Reg.GL_CFG x.1) F.GL_CFG_EN
    if on = x.2 then s else if on then laneEnable x.1 s else laneDisable x.1 s
  s.forEach (List.range 8) fun e s =>
    let s := if s.reg (Reg.AUTO_LOAD e) = 1 ∧ tabGet false s.mram.hasImage e then imageLoad e s else s
    -- an ENABLE stored without a loaded image is refused as a write would be (R150)
    if s.reg (Reg.ENABLE e) = 1 then
      (if (s.engine e).valid && s.enginePower e && s.reg (Reg.ALARM e) != 0xFF then engEnabled e s else s.setReg (Reg.ENABLE e) 0)
    else s

end Sys2Proof.Machine
end

