-- ==== Sys2Proof/Machine/OuterCycle.lean ====
section
/-!
DEFINITION. What policy does at an outer-cycle start (03_ride_through_and_modes.md, R61, R62): the effects that wait for it, the
causes of a transition in their order, and the oldest pending command; and the estimator's window (02, R50, R51).
-/

namespace Sys2Proof.Machine

/-! ## Soft stop (R65) -/

/-- The load groups of the law. -/
def State.lawGroups (s : State) : Nat := if s.builtin then 1 else s.reg Reg.LAW_GROUPS

/-- ARMED is reached at the transfer of the static-off snapshot. -/
def softStopCheck (s : State) : State :=
  if s.law.stopWait && (bitsOf 8 s.lawGroups).all (fun g => (s.snap g).isNone) then cmdDone (backToArmed 1 s) else s

/-- Static-off is written to every law channel and loaded; the limit stays at zero until the transfer. -/
def softStopWrite (s : State) : State :=
  let s := s.forEach s.lawChans fun c s => writeShadow none (modePort c) 1 s
  let s := loadAllGroups none s.lawGroups (s.setLaw { s.law with stopWait := true })
  softStopCheck s

/-! ## APPLY (R40, R82) -/

/-- Objects whose change asks the law to configure its resources anew. -/
def setupParams : List Nat :=
  (List.range 6).map (fun i => 0x301000 + i + 1) ++ (List.range 20).map (fun i => 0x330000 + i + 1) ++ (List.range 8).map fun i => 0x330100 + i + 1

/-- The checked set becomes active; a window in progress is discarded (R50), the law's resources follow. -/
def takeSet (s : State) : State :=
  let old := s
  let s := estDiscard (refreshBases (applySet s))
  let setup := s.builtin && setupParams.any fun k => old.par k != s.par k
  if setup && s.mode == mBASECAMP then lawSetup s else s

/-- A checked set is taken outside LIMIT and HOLD; one that was deferred there, in FORM and ARMED (R82). A set that was checked before LIMIT
or HOLD was entered waits there too (log entry 96). -/
def applyTake (s : State) : State :=
  if !s.law.applying then s
  else if s.mode = mLIMIT ∨ s.mode = mHOLD then s.setMs F.MODE_STATUS_APPLY_DEFERRED true
  else if s.ms F.MODE_STATUS_APPLY_DEFERRED && (s.mode == mSTART || s.mode == mSYNC) then s
  else takeSet s

/-! ## Other effects that wait for an outer-cycle start -/

/-- Drivers follow KEEP_LD and KEEP_SD in BASECAMP (R64, R91). -/
def keepDrivers (s : State) : State :=
  if s.mode != mBASECAMP then s
  else
    let s := s.forEach (List.range 8) fun n s =>
      let d := s.ld n
      if d.run && !s.ldAllowed n then ldShutdown n s
      else if !d.run && !d.stopping && s.ldAllowed n && s.flag (Reg.LD_CFG n) F.LD_CFG_EN then ldEnable n s
      else s
    s.forEach (List.range 4) fun n s =>
      let d := s.sd n
      if d.run && !s.sdAllowed n then sdShutdown n s
      else if !d.run && !d.stopping && s.sdAllowed n && s.flag (Reg.SD_CFG n) F.SD_CFG_EN then sdEnable n s
      else s

/-- A re-planned current limit takes effect in BASECAMP, ARMED and FORM (R412); bounds that exclude the limit in use move it in any
mode (R27). -/
def ilimTake (s : State) : State :=
  let s := match s.law.ilimNext with
    | none => s
    | some v =>
      if s.mode = mBASECAMP ∨ s.mode = mARMED ∨ s.mode = mFORM then
        (s.setReg Reg.I_LIM_CHOSEN v).setLaw { s.law with ilimNext := none }
      else s
  s.setReg Reg.I_LIM_CHOSEN (max (s.lreg Reg.I_LIM_FLOOR) (min (s.lreg Reg.I_LIM) (s.reg Reg.I_LIM_CHOSEN)))

/-- Cadence at an outer-cycle start: a write that has cleared CAD_EN ends it, the symbol of the frame in progress, TX_WAIT ends with the queue (R103,
R109, R121). -/
def cadCycle (s : State) : State :=
  let s := if s.cad.offDue then cadOff s else s
  let s := if s.lreg Reg.CAD_EN = 1 then queueOwed (cadOffset s) else s
  let s := refreshNForm s
  if s.mode = mSYNC && s.reg Reg.BS_STAGE == 5 && s.cad.queue.isEmpty && s.cad.txAt.isNone then
    (setStage 6 s).setCad { (setStage 6 s).cad with e0 := s.law.use.e, xsv := 0, inWinSince := none, clearedAt := none }
  else s

/-! ## The causes in their order (R61) -/

/-- The automatic exits of the law at an outer-cycle start: recovery, completion and abort of START and SYNC. -/
def State.autoExit (s : State) : Option (State → State) :=
  if s.recovered then some leaveLimit
  else if s.startAbort != 0 then some (abortTo s.startAbort)
  else if s.syncAbort != 0 then some (abortTo s.syncAbort)
  else if s.mode == mSTART && s.cad.settled then some startComplete
  else if s.syncDone then some syncComplete
  else none

/-- The first cause that holds decides; without one, the oldest pending command is executed. The counts of misses are evaluated at the
inner deadlines only (R61, R86). -/
def policyCauses (s : State) : State :=
  if !s.holds then nextCommand s
  else if s.basecampCause != 0 then enterBasecamp s.basecampCause s
  else if s.switching && s.lawFaulted then enterHold 17 s
  else if s.limitCause != 0 then enterBasecamp s.limitCause s
  else
    match s.autoExit with
    | some f => f s
    | none => nextCommand s

/-- An ARMED command in execution completes or runs out of time (R186). -/
def armCheck (s : State) : State :=
  if s.arming.any fun a => decide (a + Sys2Proof.ms (s.lreg Reg.ARM_TIMEOUT) ≤ s.now) then armRefused 4 s else armIfReady s

/-- Without the built-in law the outer cycle that has just ended had no engine that could be late (R89, log entry 62). -/
def outerEnds (s : State) : State :=
  if !s.builtin && s.mode == mHOLD then s.setLaw { s.law with outerOk := true } else s

/-- The bus-side inputs have changed in BASECAMP: round A converts what is mapped (R95, R121). -/
def roundFollow (old : List Nat) (s : State) : State :=
  if s.builtin && s.mode == mBASECAMP && old != s.roundInputs false then lawRound 0 0x12 (s.roundInputs false) s else s

/-- An outer-cycle start. -/
def outerCycle (s : State) : State :=
  let s := roundFollow (s.roundInputs false) (seeRegs (outerEnds s))
  let s := if s.law.cmds.any (·.2.1) then
      cmdRefused 12 (s.setLaw { s.law with cmds := s.law.cmds.filter fun c => !c.2.1 }) else s
  let s := ilimTake (cbcOwnership (keepDrivers s))
  let s := armCheck (limitTimers (applyTake s))
  -- a set that was deferred is taken at the first outer cycle in FORM or ARMED (R82); a frame ends with the mode that may send it (R115)
  let s := cadCycle (applyTake (policyCauses s))
  reportChosen (if s.builtin then estGate s else s)

/-! ## The estimator's window (R50, R51) -/

/-- A 2 × 2 matrix as its rows. -/
structure M2 where
  a : Rat
  b : Rat
  c : Rat
  d : Rat

/-- Correlation of averages about their mean against the probe signs. -/
def correlate (l : List (Dq × Dq)) : M2 :=
  let n : Rat := max 1 l.length
  let m := (l.foldl (fun (x : Dq) y => x.add y.2) {}).scale (1 / n)
  l.foldl (fun (x : M2) y =>
    let v := y.2.sub m
    ⟨x.a + v.d * y.1.d, x.b + v.d * y.1.q, x.c + v.q * y.1.d, x.d + v.q * y.1.q⟩) ⟨0, 0, 0, 0⟩

/-- Z = C_v · C_i^−1 as R_g, X_g, |Z_g| and QUALITY; none where C_i is singular or Z is zero. -/
def State.estimate (s : State) : Option (Rat × Rat × Rat × Rat) :=
  let ch := s.law.est.chips
  let cv := correlate (ch.map fun x => (x.1, x.2.1))
  let ci := correlate (ch.map fun x => (x.1, x.2.2))
  let det := ci.a * ci.d - ci.b * ci.c
  if det = 0 then none
  else
    let z11 := (cv.a * ci.d - cv.b * ci.c) / det
    let z12 := (cv.b * ci.a - cv.a * ci.b) / det
    let z21 := (cv.c * ci.d - cv.d * ci.c) / det
    let z22 := (cv.d * ci.a - cv.c * ci.b) / det
    let rg := (z11 + z22) / 2
    let xg := (z21 - z12) / 2
    let zg := sqrtR (rg * rg + xg * xg)
    if zg = 0 then none
    else some (rg, xg, zg, clampR 0 1 (1 - (absR (z11 - z22) + absR (z12 + z21)) / (2 * zg)))

/-- The targets of an accepted estimate (R51). -/
def State.targets (s : State) (rg xg : Rat) : Rat × Rat × Rat :=
  let xv := clampR (s.q15 Reg.XV_MIN) (s.q15 Reg.XV_MAX) (s.q15 Reg.X_TOT_TGT - xg)
  let xtot := xv + xg
  let rv := clampR (s.q15 Reg.RV_MIN) (s.q15 Reg.RV_MAX) (xtot / s.parU Reg.XR_TGT (1 / 10) - rg)
  let sn := min (s.q15 Reg.P_DES * xtot) (95 / 100)
  let ks := sqrtR (1 - sn * sn) / xtot
  let h := s.parU Reg.H (1 / 1000)
  let wn := sqrtR (2 * piR * s.fBase * ks / (2 * h))
  let tw := s.parU Reg.TG (1 / 1000) * wn
  let d := 4 * h * s.parU Reg.ZETA_TGT (1 / 1000) * wn - 1 / s.parU Reg.MP (1 / 10000) / (1 + tw * tw)
  (rv, xv, clampR (s.parU Reg.D_MIN (1 / 100)) (s.parU Reg.D_MAX (1 / 100)) d)

/-- A window of WINDOW chips ends: an estimate of enough QUALITY is accepted and updates the targets; another is discarded. A new
window starts. -/
def windowEnd (s : State) : State :=
  match s.estimate with
  | none => estStart s
  | some (rg, xg, zg, q) =>
    let r := s.openRound (q * 100)
    let s := r.2.setReg Reg.QUALITY r.1.toNat
    if q * 100 < (s.par Reg.Q_MIN : Rat) then estStart s
    else
      let s := setOpen Reg.SCR 16 false (100 / zg) s
      let s := ((s.setReg Reg.R_G (q15Code rg)).setReg Reg.X_G (q15Code xg)).bump Reg.EST_COUNT
      let s := (s.setLaw { s.law with est := { s.law.est with lastAt := some s.now } }).setLs F.LAW_STATUS_EST_STALE false
      let s := s.setReg Reg.EST_STATE 2
      let s := if s.par Reg.RETUNE_EN = 1 then newTarget (s.targets rg xg) 1 s else s
      estStart s

end Sys2Proof.Machine
end

