-- ==== Sys2Proof/Machine/PairOps.lean ====
section
/-!
DEFINITION. The operations of the duplex pair (14_duplex_pair.md): baton numbers and claims, fencing, the discrete state and the state
vector, decisions at the inner deadline.
-/

namespace Sys2Proof.Machine

def State.setPair (s : State) (p : Pair) : State := { s with pair := p }

/-- Pair states (Table 14-4). -/
def pSINGLE : Nat := 0
def pWAITING : Nat := 1
def pJOINING : Nat := 2
def pSTANDBY : Nat := 3
def pACTIVE : Nat := 4

/-- The device is one of a pair. -/
def State.paired (s : State) : Bool := s.reg Reg.PAIR_EN == 1

/-- DUPLEX_ID as sampled at start-up. -/
def State.duplexId (s : State) : Nat := s.reg Reg.STRAPS / 16 % 2

/-- The pair enters a state; the link-down time that a solo claim needs counts from entry to WAITING (R376). -/
def setPairState (n : Nat) (s : State) : State :=
  let s := s.setFld Reg.PAIR_STATUS F.PAIR_STATUS_STATE n
  if n = pWAITING then s.setPair { s.pair with downSince := s.now, joined := 0, errSince := none, vec := none, peerOk := false } else s

/-- SYNCED is set or cleared; every clearing is counted (R379). -/
def setSynced (b : Bool) (s : State) : State :=
  let was := s.ps F.PAIR_STATUS_SYNCED
  let s := s.setPs F.PAIR_STATUS_SYNCED b
  if was && !b then s.bump Reg.RESYNC_COUNT else s

/-- MIRROR_LOST in PAIR_STATUS and J_STATUS. -/
def setMirrorLost (b : Bool) (s : State) : State :=
  (s.setPs F.PAIR_STATUS_MIRROR_LOST b).setFlag Reg.J_STATUS F.J_STATUS_MIRROR_LOST b

/-! ## Baton numbers (R371 to R374, R386, R387) -/

/-- BATON_OK and BATON_HIGHER of a lane compare what its last accepted uplink reports with the device's own number (R198). -/
def refreshBatonOk (k : Nat) (s : State) : State :=
  if (s.lane k).up.isEmpty then s
  else
    let own := s.reg Reg.BATON_TX
    let b := s.reg (Reg.UP_BATON k)
    (s.setFlag (Reg.GL_STATUS k) F.GL_STATUS_BATON_OK (b == own)).setFlag (Reg.GL_STATUS k) F.GL_STATUS_BATON_HIGHER (decide (own < b))

/-- The smallest number of the device's parity that is at least 2 and above every number known. -/
def State.claimNumber (s : State) : Option Nat :=
  let k := max 1 (s.reg Reg.BATON_KNOWN)
  let n := if (k + 1) % 2 = s.duplexId then k + 1 else k + 2
  if n < 65536 then some n else none

/-- What follows from the numbers held and known: BATON_TX is the number held, without the baton one below the highest number known, never 0
(R373, R187); BATON_EXHAUSTED is set while no number is left for a claim (R374). -/
def refreshBatonTx (s : State) : State :=
  let s := s.setPs F.PAIR_STATUS_BATON_EXHAUSTED s.claimNumber.isNone
  (s.setReg Reg.BATON_TX (if s.holds then s.reg Reg.BATON_HELD else max 1 (s.reg Reg.BATON_KNOWN - 1))).forEach (List.range 64) refreshBatonOk

/-- A claim is decided: its commit begins. -/
def startClaim (cause : Nat) (s : State) : State :=
  if s.pair.claim.isSome then s
  else
    match s.claimNumber with
    | none => s.setPs F.PAIR_STATUS_BATON_EXHAUSTED true
    | some n => s.setPair { s.pair with claim := some ⟨n, cause, s.now⟩ }

/-- A holder that learns of a higher number stops its edges, takes its law to BASECAMP and waits (R386); a single device then claims
(R387). -/
def fence (s : State) : State :=
  let s := { s with holds := false }
  let s := if s.reg Reg.SWITCHOVER = 1 then s.setReg Reg.SWITCHOVER 2 else s
  let s := enterBasecamp 27 (armRefused 10 ((s.setPs F.PAIR_STATUS_FENCED true).setPs F.PAIR_STATUS_SOLO false))
  if s.paired then setPairState pWAITING s else startClaim 11 (setPairState pSINGLE s)

/-- A baton number is learned from the partner or from an uplink (`up`); after a renumbering the numbers known before are ignored (R374).
A device that hands the baton over goes on driving until an uplink shows the higher number (R385). -/
def learnBaton (up : Bool) (n : Nat) (s : State) : State :=
  if s.reg Reg.BATON_KNOWN < n ∧ n ≤ s.pair.ignore then s
  else
    let s := s.setReg Reg.BATON_KNOWN (max n (s.reg Reg.BATON_KNOWN))
    let s :=
      if s.reg Reg.BATON_HELD < n then
        -- a single device in BASECAMP or ARMED claims instead (R387)
        if !s.paired && (s.mode == mBASECAMP || s.mode == mARMED) then startClaim 11 s
        else if s.holds && (up || s.reg Reg.SWITCHOVER != 1) then fence s
        else s
      else s
    refreshBatonTx s

/-- The commit of a claim completes (R372, R384): the number is held and sent, fencing ends, items the partner has not shown as
applied are applied here (R382). -/
def claimDone (c : Claim) (s : State) : State :=
  let s := s.setPair { s.pair with claim := none, missed := 0, fault := none }
  let s := { s with holds := true, mram := { s.mram with claimed := true } }
  let s := s.setReg Reg.BATON_HELD c.number
  let s := if c.cause = 10 then
      ((s.setPair { s.pair with ignore := s.reg Reg.BATON_KNOWN }).setReg Reg.BATON_KNOWN c.number).setPs F.PAIR_STATUS_BATON_EXHAUSTED false
    else s.setReg Reg.BATON_KNOWN (max c.number (s.reg Reg.BATON_KNOWN))
  let s := (s.setPs F.PAIR_STATUS_FENCED false).setPs F.PAIR_STATUS_BATON_COMMIT_FAIL false
  let s := (s.bump Reg.TAKEOVER_COUNT).setReg Reg.LAST_TAKEOVER s.time64
  -- which cause the claim of a single device under R387 records the spec does not say
  let s := if c.cause = 11 then (s.setReg Reg.TAKEOVER_CAUSE (s.freeVal 8 % 11)).useFree else s.setReg Reg.TAKEOVER_CAUSE c.cause
  let s := if c.cause = 10 then s.setReg Reg.BATON_RENUMBER 2 else s
  -- a device that takes the baton beside a partner mirrors; alone only a solo claim does not (R376, R381)
  let s := s.setPs F.PAIR_STATUS_SOLO (c.cause == 9)
  let s := setPairState (if s.paired then pACTIVE else pSINGLE) (setSynced false (s.setPs F.PAIR_STATUS_TAKEOVER_BLOCKED false))
  let s := { s with mram := { s.mram with journal := s.mram.journal.map fun i => { i with mirror := false } } }
  -- HOLD_TIME restarts at a takeover (R59)
  let s := if s.mode = mHOLD then s.setLaw { s.law with holdAt := s.now } else s
  let s := (refreshBatonTx s).note noteTakeover [c.cause, c.number]
  if s.paired then belaySend 0x50 [c.number, b2n (c.cause = 10)] s else s

/-! ## Discrete state and state vector (R378) -/

/-- The states of Table 2-13 as numbers, in a fixed order. -/
def State.lawStates (s : State) : List Rat :=
  let l := s.law
  [(l.theta : Rat), l.omega, l.pm, l.pf, l.qf, l.vcf, l.psetr, l.xvr, l.wbus, l.wbusInt, l.xv.d, l.xv.q]
  ++ ((List.range 4).flatMap fun i => [(listGet {} l.ih i).d, (listGet {} l.ih i).q])
  ++ ((List.range 8).flatMap fun t =>
    let x := s.thread t
    [x.xp.d, x.xp.q, x.xn.d, x.xn.q, x.x0, x.flux.d, x.flux.q, x.rotor, x.speed])

/-- The state with each of these states moved by a difference; θ modulo one turn. -/
def addLawStates (d : List Rat) (s : State) : State :=
  let g (i : Nat) : Rat := listGet 0 d i
  let dq (i : Nat) (x : Dq) : Dq := ⟨x.d + g i, x.q + g (i + 1)⟩
  let l := s.law
  let s := s.setLaw { l with
    theta := sput 32 ((l.theta : Int) + (g 0).floor), omega := l.omega + g 1, pm := l.pm + g 2, pf := l.pf + g 3, qf := l.qf + g 4,
    vcf := l.vcf + g 5, psetr := l.psetr + g 6, xvr := l.xvr + g 7, wbus := l.wbus + g 8, wbusInt := l.wbusInt + g 9,
    xv := dq 10 l.xv, ih := (List.range 4).map fun i => dq (12 + 2 * i) (listGet {} l.ih i) }
  s.forEach (List.range 8) fun t s =>
    let b := 20 + 9 * t
    let x := s.thread t
    s.setThread t { x with xp := dq b x.xp, xn := dq (b + 2) x.xn, x0 := x.x0 + g (b + 4), flux := dq (b + 5) x.flux,
                           rotor := x.rotor + g (b + 7), speed := x.speed + g (b + 8) }

/-- The dictionary objects that a state vector carries. -/
def vectorKeys : List Nat :=
  [Reg.P_SET, Reg.Q_SET, Reg.V_SET, Reg.F_SET, Reg.P_MACH_MAX, Reg.P_MACH_MIN, Reg.HELD_MODE, Reg.RV_CHOSEN, Reg.XV_CHOSEN,
    Reg.D_CHOSEN, Reg.I_LIM_CHOSEN, Reg.BRK_STATE, Reg.ISLANDED, Reg.BS_STATUS, Reg.BS_STAGE, Reg.COND_FAIL, Reg.TURN_PTR, Reg.JOINED,
    Reg.N_FORM]

/-- The objects in a vector: the setpoints, which come first, go with the law's states (R378). -/
def State.vectorObjs (s : State) : List Nat := if s.builtin then vectorKeys else vectorKeys.drop 6

/-- Ports 0x780–0x7EF. -/
def vectorPorts : List Nat := (List.range 112).map (0x780 + ·)

/-- The CRC of the active parameter set; how the set is laid out in bytes is internal to Zeset. -/
def State.paramCrc (s : State) : Nat := Config.discreteCrc (s.law.active.flatMap fun e => [e.1, e.2]) % 2 ^ 32

/-- A cadence state with each of its instants mapped. -/
def Cad.mapAt (f : Instant → Instant) (c : Cad) : Cad :=
  { c with
    deadSince := c.deadSince.map f, extDeadSince := c.extDeadSince.map f, stageAt := f c.stageAt, startAt := f c.startAt
    ilimSince := c.ilimSince.map f, settleSince := c.settleSince.map f, inWinSince := c.inWinSince.map f
    clearedAt := c.clearedAt.map f, extLostSince := c.extLostSince.map f, slotRef := f c.slotRef, frameAt := c.frameAt.map f
    lastStart := c.lastStart.map f, txAt := c.txAt.map f, holdUntil := f c.holdUntil, resyncUntil := f c.resyncUntil
    joinBy := c.joinBy.map f, samples := c.samples.map fun x => (f x.1, x.2) }

/-- An instant on the timebase, which the devices of a pair share (R380), and back. -/
def State.toShared (s : State) (t : Instant) : Nat := (t + s.epoch) % 2 ^ 96
def State.ofShared (s : State) (v : Nat) : Instant := (v + (2 ^ 96 - s.epoch % 2 ^ 96)) % 2 ^ 96

/-- The cadence state that a device takes from a vector: what it has measured on its own samples it keeps. -/
def Cad.taken (own v : Cad) : Cad :=
  { v with
    theta := own.theta, wext := own.wext, wextInt := own.wextInt, vext := own.vext, samples := own.samples, rx := own.rx
    slotRef := own.slotRef, frameAt := own.frameAt, lastStart := own.lastStart }

/-- The state vector of the present cycle; while the built-in law is disabled it carries ports and discrete state only. -/
def State.vector (s : State) : StateVec :=
  { cycle := s.law.cycle
    law := if s.builtin then s.lawStates else []
    objs := s.vectorObjs.map fun k => (k, s.lreg k)
    ports := vectorPorts.map fun p => s.load 4 (fabricAddr p)
    mode := s.mode
    modeSeq := s.law.modeSeq
    ramp := s.law.ramp.map fun r => ([r.from_.1, r.from_.2.1, r.from_.2.2], [r.to_.1, r.to_.2.1, r.to_.2.2], s.now - r.at_, r.dur)
    paramCrc := s.paramCrc
    modeAt := s.toShared s.law.modeAt
    limitAt := s.toShared s.law.limitAt
    cad := s.cad.mapAt s.toShared }

/-- The discrete state (R378). -/
def State.discrete (s : State) : List Nat :=
  let rat (x : Rat) : List Nat := [sput 64 x.num, x.den]
  [s.mode, s.reg Reg.HELD_MODE, s.law.modeSeq, s.paramCrc]
    ++ ([Reg.RV_CHOSEN, Reg.XV_CHOSEN, Reg.D_CHOSEN, Reg.I_LIM_CHOSEN, Reg.BRK_STATE, Reg.BS_STATUS, Reg.BS_STAGE, Reg.TURN_PTR,
      Reg.JOINED].map s.reg)
    ++ (match s.law.ramp with
      | some r => rat r.from_.1 ++ rat r.from_.2.1 ++ rat r.from_.2.2 ++ rat r.to_.1 ++ rat r.to_.2.1 ++ rat r.to_.2.2
      | none => [])
    ++ s.cad.queue

/-- The device without the baton reports the active device's mode (R59, R373), and does what the mode asks of its own law: it starts and stops
with BASECAMP; where the active device's soft stop or abort has ended in ARMED, its law has written static-off too (R377; log entry 115). -/
def followMode (m seq : Nat) (s : State) : State :=
  let old := s.mode
  let s := s.setLaw { s.law with modeSeq := seq }
  if m = old then s
  else
    let s := ((stepDeferred (s.setReg Reg.MODE m)).setMs F.MODE_STATUS_SWITCHING (decide (2 ≤ m))).setLaw { s.law with recSince := [] }
    let s :=
      if m = mBASECAMP then basecampEffects s
      else if old = mBASECAMP then armedEffects (s.setPair { s.pair with aligned := false })
      else if m = mARMED then txStop (setStage 0 (clearLawFlags (lawStaticOff s)))
      -- the edge trainers freeze in LIMIT and HOLD (R214)
      else if m = mLIMIT ∨ m = mHOLD then s.forEach (List.range 64) freezeTrainer
      else s
    if s.builtin then estGate s else s

/-- The law's states move by the difference between the active device's and the own ones at the end of cycle n (R378); where this device has
not yet counted a cycle with the active one, its present states stand for them (log entry 115). -/
def alignStates (v : StateVec) (s : State) : State :=
  if v.law.isEmpty then s
  else
    match s.pair.snaps.find? (·.1 == v.cycle) with
    | some (_, own) => addLawStates (List.zipWith (· - ·) v.law own) s
    | none => if s.pair.aligned then s else addLawStates (List.zipWith (· - ·) v.law s.lawStates) s

/-- A received vector is applied (R378): differences to the own state at the end of the same cycle, the rest overwritten. -/
def applyVector (v : StateVec) (s : State) : State :=
  let s := alignStates v (followMode v.mode v.modeSeq s)
  let s := v.objs.foldl (fun s x => if vectorKeys.contains x.1 then s.setReg x.1 x.2 else s) s
  let s := s.setLaw { s.law with seen := v.objs.foldl (fun t x =>
    if actsNextCycle x.1 && vectorKeys.contains x.1 then tabSet (objReset x.1) t x.1 x.2 else t) s.law.seen }
  let s := (List.zip vectorPorts v.ports).foldl (fun s x => fabricWrite x.1 (BitVec.ofNat 32 x.2) s) s
  let tri (l : List Rat) : Rat × Rat × Rat := (listGet 0 l 0, listGet 0 l 1, listGet 0 l 2)
  let s := s.setLaw { s.law with
    ramp := v.ramp.map fun r => ⟨tri r.1, tri r.2.1, s.now - r.2.2.1, r.2.2.2⟩
    modeAt := s.ofShared v.modeAt, limitAt := s.ofShared v.limitAt }
  let s := s.setCad (s.cad.taken (v.cad.mapAt s.ofShared))
  -- the matches that set SYNCED again count from the vector that was asked for (R379)
  let s := if bit s.pair.joined 4 then s else s.setPair { s.pair with bad := 0, good := 0 }
  s.setPair { s.pair with vec := none, joined := setBit s.pair.joined 4 true, paramCrc := v.paramCrc }

/-- The start of an inner cycle: a vector that waits is applied. -/
def vectorDue (s : State) : State :=
  match s.pair.vec with
  | some v => if s.holds then s.setPair { s.pair with vec := none } else applyVector v s
  | none => s

/-! ## Heartbeats and takeover (R370, R379, R383) -/

/-- HB_FLAGS. -/
def State.hbFlags (s : State) : Nat :=
  b2n s.holds * 32768 + b2n (s.ps F.PAIR_STATUS_SYNCED) * 16384 + s.failover

/-- Items applied since manufacture. -/
def State.applied (s : State) : Nat := s.mram.applied

/-- The payload of a HEARTBEAT (Table 14-3). -/
def State.heartbeat (s : State) (dcrc : Nat) : List Nat :=
  beBytes 4 (if s.builtin then s.law.cycle else s.pair.hbCount) ++ beBytes 2 (s.reg Reg.BATON_TX) ++ beBytes 2 (s.reg Reg.BATON_KNOWN)
    ++ [s.mode, s.pairState] ++ beBytes 2 s.hbFlags ++ beBytes 4 s.law.modeSeq ++ beBytes 8 s.applied ++ beBytes 4 dcrc

/-- A takeover is decided where it is allowed, else TAKEOVER_BLOCKED is set. -/
def takeover (cause : Nat) (s : State) : State :=
  if s.pairState ≠ pSTANDBY ∨ s.pair.claim.isSome then s
  else if (s.pair.beat.any (·.synced)) && s.ps F.PAIR_STATUS_TIME_OK && s.claimNumber.isSome then startClaim cause s
  else
    let s := if s.claimNumber.isNone then s.setPs F.PAIR_STATUS_BATON_EXHAUSTED true else s
    (s.setPs F.PAIR_STATUS_TAKEOVER_BLOCKED true).setPair { s.pair with fault := none }

/-- The cause of a takeover that holds at an inner deadline. -/
def State.takeoverCause (s : State) : Nat :=
  match s.pair.fault with
  | some c => c
  | none =>
    match s.pair.beat with
    | some b =>
      let m := b.flags % 16 &&& s.reg Reg.FAILOVER_MASK
      if m ≠ 0 then 3 + ((bitsOf 4 m).headD 0) else if s.reg Reg.HB_MISS_N ≤ s.pair.missed then 1 else 0
    | none => if s.reg Reg.HB_MISS_N ≤ s.pair.missed then 1 else 0

/-- DCRC is compared for the cycle of the last heartbeat: two mismatches in a row clear SYNCED, ten matches after a new vector set it
again (R379). -/
def dcrcCheck (b : Beat) (s : State) : State :=
  match s.pair.dcrcs.find? (·.1 == b.cycle) with
  | none => s
  | some (_, own) =>
    if own = b.dcrc then
      let n := s.pair.good + 1
      let s := s.setPair { s.pair with bad := 0, good := n }
      if s.ps F.PAIR_STATUS_DIVERGED && decide (10 ≤ n) && bit s.pair.joined 4 then
        setSynced true (s.setPs F.PAIR_STATUS_DIVERGED false)
      else s
    else
      let n := s.pair.bad + 1
      let s := s.setPair { s.pair with bad := n, good := 0 }
      -- a new vector is asked for, by SYNCED clear in HB_FLAGS (log entry 115): its part of `joined` is open until it has been applied
      if n = 2 then
        setSynced false ((s.setPs F.PAIR_STATUS_DIVERGED true).setPair { s.pair with joined := setBit s.pair.joined 4 false })
      else s

/-- An inner deadline of a paired device: its HEARTBEAT is sent, its states are kept for the next vector, heartbeats missing are counted,
a takeover is decided. -/
def pairDeadline (s : State) : State :=
  if !s.paired || s.pairState == pSINGLE then s
  else
    let dcrc := Config.discreteCrc s.discrete % 2 ^ 32
    let s := belaySend 0x01 (s.heartbeat dcrc) s
    let n := if s.builtin then s.law.cycle else s.pair.hbCount
    let s := s.setPair { s.pair with
      snaps := (n, s.lawStates) :: s.pair.snaps.take 7, dcrcs := (n, dcrc) :: s.pair.dcrcs.take 7 }
    let s := match s.pair.beat with
      | some b => if s.pairState = pSTANDBY && s.pair.beatSeen then dcrcCheck b s else s
      | none => s
    let s :=
      if s.pair.beatSeen then s.setPair { s.pair with missed := 0, beatSeen := false }
      else (s.bump Reg.HB_MISSED).setPair { s.pair with missed := s.pair.missed + 1 }
    let s :=
      if s.ps F.PAIR_STATUS_PARTNER_ALIVE && decide (s.reg Reg.HB_MISS_N ≤ s.pair.missed) then
        (s.setPs F.PAIR_STATUS_PARTNER_ALIVE false).setPair { s.pair with deadAt := s.now }
      else s
    let c := s.takeoverCause
    if s.pairState = pSTANDBY ∧ c ≠ 0 then takeover c s else s

/-- An outer deadline that ends on time: the active device sends a state vector (R378). -/
def sendVector (s : State) : State :=
  if s.paired && s.holds then belayOut (fun q => .vector q s.vector s.now) (s.setPair { s.pair with vecWanted := false }) else s

end Sys2Proof.Machine
end

