-- ==== Sys2Proof/Machine/Gate.lean ====
section
/-!
DEFINITION. The gate links (07_gate_links_and_drivers.md, R183 to R216): edge events, downlink and uplink frames, lane faults,
register accesses, lane states and drive codes.
-/

namespace Sys2Proof.Machine

/-! ## Edge events (R189 to R191) -/

/-- An edge event feeds the local drivers that follow its channel (R218). -/
def feedDrivers (e : EdgeEv) (s : State) : State :=
  s.forEach (List.range 8) fun n s =>
    let cfg := s.reg (Reg.LD_CFG n)
    if (s.ld n).run && fget F.LD_CFG_MODE cfg == 0 && fget F.LD_CFG_SRC cfg == e.ch then
      s.setLd n { s.ld n with edges := (s.ld n).edges ++ [e] }
    else s

/-- An edge event enters its lane's queue with the codes of its position; a full queue is a lane fault (R190). -/
def enqueueEdge (e : EdgeEv) (s : State) : State :=
  let k := e.ch / 4
  let p := e.ch % 4
  if !s.holds || s.laneState k != laneLive then s
  else if 8 ≤ (s.lane k).queue.length then
    armLatchCheck k (laneFault k cOVF (s.setLane k { s.lane k with queue := [] }))
  else
    let drift := s.driftEdge k p e.on
    let q : QEdge := ⟨p, e.on, e.tag, s.code k p true, if drift then s.baseCode k else s.code k p false⟩
    let s := if drift then s.setMod k { s.mod k with toSend := (s.mod k).toSend - 1 } else s
    s.setLane k { s.lane k with queue := insertEdge q (s.lane k).queue }

/-- EDGE_EVENT_ENQUEUE: the oldest edge event that has left the generator. -/
def execEdgeEventEnqueue (s : State) : Host.Outcome State Fault Refusal :=
  match s.pwm.edges with
  | [] => .next s
  | e :: rest =>
    let sent := s.pwm.sent.filter fun x => decide ((s.now : Int) < x.tag + s.edgeOfs)
    .next (enqueueEdge e (feedDrivers e { s with pwm := { s.pwm with edges := rest, sent := sent ++ [e] } }))

/-! ## Downlink (R185 to R192, R195) -/

/-- The SLOT0 event of a frame that departs at `t` is late where it would be scheduled after its tag (R195). -/
def State.lateTx (s : State) (k : Nat) (e : QEdge) (t : Instant) : Bool :=
  decide ((e.tag : Int) + s.edgeOfs < (t + ns 156 + ((s.lane k).delay.getD 0) : Nat))

/-- The frame of a lane that departs at an instant `t`, put together at the assembly point. -/
def sendFrame (k : Nat) (t : Instant) (s : State) : State :=
  let s := nextAccess k t s
  let l := s.lane k
  let mute := s.arming.isSome || !s.holds
  let slot0 : Option QEdge := if mute then none else l.queue.head?
  let slot1 : Option QEdge := if mute then none else l.slot
  let ctrl := b2n (s.laneAllOff k) * 128 + 16
  let body := [ctrl] ++ beBytes 2 (s.reg Reg.BATON_TX) ++ [l.seq % 256] ++ s.slotBytes slot0 ++ s.slotBytes slot1
  let m := s.mgmt k t
  let late := slot0.any fun e => s.lateTx k e t
  let s := s.setLane k { l with
    queue := if mute then l.queue else l.queue.drop 1
    slot := slot0
    seq := (l.seq + 1) % 256
    sent := (l.seq, t) :: l.sent.take 255 }
  let s := if late then (s.bump (Reg.LATE_TX k)).setFlag (Reg.GL_STATUS k) F.GL_STATUS_LATE true else s
  s.emit (.downlink k t ([0xBC] ++ body ++ beBytes 2 (crc16 body) ++ m ++ beBytes 2 (crc16 m)))

/-- DOWNLINK_FRAME: a frame departs at each multiple of 200 ns of TIME64, `t`; it is put together at its assembly point, 8 ns before,
which is the instant of the command (R188, R189, R195; log entry 102). After the all-off frames of R185 the lane is idle. -/
def execDownlinkFrame (k : Fin 64) (t : Instant) (s : State) : Host.Outcome State Fault Refusal :=
  if s.laneState k ≠ laneLive ∨ s.ptpAt t % ns 200 ≠ 0 then .next s
  else
    let s := s.advance (t - ns 8)
    if (s.lane k).offUntil.any fun u => decide (u ≤ t) then .next (leaveLive k laneIdle s)
    else .next (sendFrame k t s)

/-! ## Uplink (R196 to R198, R208 to R213) -/

/-- A lane shown by the gate-link check fails it (Table 15-2, item 3). -/
def checkFail (k : Nat) (s : State) : State := istFail 3 k (s.setRegBit Reg.GL_CHECK_FAIL k true)

/-- A refused uplink frame. -/
def refuseUplink (k : Nat) (s : State) : State :=
  let s := (s.bump (Reg.CRC_UP k)).setFlag (Reg.GL_STATUS k) F.GL_STATUS_CRC_ERR true
  if (s.lane k).checkLeft ≠ 0 then checkFail k s else s

/-- Whether a frame is accepted (R196): CRC_U over bytes 1–36 and UVER. -/
def uplinkOk (b : List Nat) : Bool :=
  decide (39 ≤ b.length) && crc16 (slice b 1 36) == ofBE (slice b 37 2) && listGet 0 b 1 / 16 == 1

/-- The edge tick at or before an instant (R197; log entry 103). -/
def edgeFloor (t : Instant) (s : State) : Instant := t - (((s.ptpAt t : Int) - s.edgeOfs).emod (edgeTick : Nat)).toNat

/-- The round trip of an accepted frame and LINK_DELAY (R197): CRC_U ends 312 ns, 39 bytes of 8 ns, after the comma arrived; 0.8 ns are
four fifths of a ns. -/
def roundTrip (k : Nat) (echo dly : Nat) (t : Instant) (s : State) : State :=
  match (s.lane k).sent.find? (·.1 == echo) with
  | none => s
  | some (_, dep) =>
    let trip := 5 * (edgeFloor (t - ns 312) s - dep) - dly * ns 4
    let l := s.lane k
    let trips := (trip :: l.trips).take 64
    let n := l.tripN + 1
    let run := trips.foldl (· + ·) 0 / (10 * trips.length)
    let old := l.delay
    let new := if n = 64 ∨ (64 < n ∧ s.mode = mARMED) then some run else old
    let s := s.setLane k { l with trips := trips, tripN := n, delay := new }
    let s := match new with
      | some d =>
        let drift := decide (ns 2 < ((run : Int) - d).natAbs)
        (if new = old then s else setOpen (Reg.LINK_DELAY k) 32 false ((d : Rat) * 1000 / (ns 1 : Nat)) s).setFlag
          (Reg.GL_STATUS k) F.GL_STATUS_DELAY_DRIFT drift
      | none => s
    refreshReady k s

/-- A readback answers the access in progress (R193, R194); `bad`: the frame still shows DESAT or OC. -/
def readback (k : Nat) (reg stat val : Nat) (bad : Bool) (s : State) : State :=
  match (s.lane k).access with
  | none => s
  | some a =>
    if stat = 0xFF ∨ a.reg ≠ reg then s
    else
      let s := s.setLane k { s.lane k with access := none }
      match a.kind with
      | .setup =>
        -- the source may have changed since: then the write is made again (R194)
        if a.value = s.setupValue k reg then refreshReady k (s.setLane k { s.lane k with setup := (s.lane k).setup.filter (·.1 != reg) })
        else s
      | .ident => if stat = 1 then s.setReg (Reg.GU_IDENT k) val else s
      | .release => if bad then releaseFailed k s else s
      | .object =>
        if stat = 2 then s.setReg Reg.GU_RESULT 3
        else (if !a.write && stat == 1 then s.setReg Reg.GU_VALUE val else s).setReg Reg.GU_RESULT 2
      | .check =>
        let s := if val ≠ s.reg (Reg.GU_IDENT k) ∨ stat ≠ 1 then checkFail k s else s
        let l := s.lane k
        let left := l.checkLeft - 1
        s.setLane k { l with
          checkLeft := left
          waiting := if left = 0 then l.waiting
            else l.waiting ++ [{ reg := 0, write := false, value := 0, kind := .check, at_ := s.now }] }

/-- One position block: a new ECNT is an edge for the drift test and for the trainer (R213, R214, R408). -/
def positionBlock (k p : Nat) (b : List Nat) (s : State) : State :=
  let at_ := 15 + 4 * p
  let dvdt := listGet 0 b at_
  let ovs := listGet 0 b (at_ + 1)
  let ecnt := listGet 0 b (at_ + 2)
  let c := listGet 0 b (at_ + 3)
  let code := c / 16 % 16
  let on := bit c 3
  let old := tabGet 0 (s.lane k).ecnt p
  if ecnt = old then s
  else
    let s := s.setLane k { s.lane k with ecnt := tabSet 0 (s.lane k).ecnt p ecnt }
    let s := driftReport k p ((ecnt + 256 - old) % 256) on code dvdt s
    let frozen := s.mode == mLIMIT || s.mode == mHOLD || s.regBit Reg.LANE_FAULT k
    if s.flag (Reg.GL_CFG k) F.GL_CFG_TRAIN_EN && bit c 2 && code == s.code k p on && !frozen then trainStep k p on dvdt ovs s else s

/-- The causes of Table 7-11 that a frame shows. -/
def uplinkCauses (b : List Nat) : Nat :=
  let st := listGet 0 b 6
  let f := listGet 0 b 7
  (if f / 16 ≠ 0 then cDESAT else 0) + (if f % 16 ≠ 0 then cOC else 0) + (if bit st 6 then 0 else cGS) + (if bit st 0 then cFL else 0)
    + (if bit st 5 then cOT else 0)

/-- The engine port words of a lane (Table 5-11). -/
def uplinkWords (k : Nat) (b : List Nat) (ok : Bool) (s : State) : State :=
  let g (i : Nat) : Nat := listGet 0 b i
  let f := g 7
  let tag := (s.word (0x180 + 2 * k) / 2 ^ 16 + 1) % 256
  let w := 2 ^ 31 + b2n (bit (g 6) 6) * 2 ^ 30 + b2n (f / 16 != 0) * 2 ^ 29 + b2n (f % 16 != 0) * 2 ^ 28 + b2n (bit (g 6) 5) * 2 ^ 27
    + b2n ok * 2 ^ 26 + g 14 / 64 % 4 * 2 ^ 24 + tag * 2 ^ 16 + g 10 * 256 + g 11
  (s.setWord (0x180 + 2 * k) w).setWord (0x181 + 2 * k) (ofBE (slice b 12 2) * 65536 + ofBE (slice b 8 2))

/-- An accepted uplink frame whose comma arrived at `t`. -/
def acceptUplink (k : Nat) (b : List Nat) (t : Instant) (s : State) : State :=
  let g (i : Nat) : Nat := listGet 0 b i
  let st := g 6
  let baton := ofBE (slice b 8 2)
  let own := s.reg Reg.BATON_TX
  let lost := g 1 % 16
  let key := Reg.GL_STATUS k
  let s := uplinkWords k b (baton == own) s
  let s := s.setLane k { s.lane k with up := b.take 39, upAt := t, held := g 7, causesNow := s.unmasked k (uplinkCauses b) }
  let s := ((s.setFlag key F.GL_STATUS_LINK_OK true).setFlag key F.GL_STATUS_GS_OK (bit st 6)).setFlag key F.GL_STATUS_INPUT_B (bit st 4)
  let s := (s.setFlag key F.GL_STATUS_BATON_OK (baton == own)).setFlag key F.GL_STATUS_BATON_HIGHER (decide (own < baton))
  let s := if bit st 2 then s.setFlag key F.GL_STATUS_LATE true else s
  let s := if bit st 1 then s.setFlag key F.GL_STATUS_SHOOT true else s
  let s := (s.setReg (Reg.UP_BATON k) baton).bumpBy (Reg.LOST_DN k) lost
  let s := if lost ≠ 0 ∧ (s.lane k).checkLeft ≠ 0 then checkFail k s else s
  let s := if ofBE (slice b 4 2) ≠ 0xFFFF then roundTrip k (g 3) (ofBE (slice b 4 2)) t s else s
  let s := readback k (g 31) (g 32) (ofBE (slice b 33 4)) (g 7 != 0) s
  let s := vonSample k (s.forEach (List.range 4) fun p s => positionBlock k p b s)
  let c := (s.lane k).causesNow
  let s := armLatchCheck k (laneFault k c s)
  let s :=
    if c = 0 ∧ s.regBit Reg.LANE_FAULT k ∧ (s.lane k).released then
      if s.regBit Reg.LANE_LATCHED k && !(s.lane k).manual then s else clearLaneFault k s
    else s
  let s := if baton = 0 then s else learnBaton true baton (s.setPair { s.pair with batonSeen := some s.now })
  armIfReady s

/-- UPLINK_FRAME: the bytes of a frame whose CRC_U is checked at `t`, where an accepted one is registered (R196, R208). -/
def execUplinkFrame (k : Fin 64) (bytes : List (BitVec 8)) (t : Instant) (s : State) : Host.Outcome State Fault Refusal :=
  if s.laneState k ≠ laneIdle ∧ s.laneState k ≠ laneLive then .next s
  else
    let b := bytes.map (·.toNat)
    let s := s.advance t
    .next (if uplinkOk b then acceptUplink k b t s else refuseUplink k s)

/-- UPLINK_TIMEOUT: LINK_OK ends UPLINK_TO after the last accepted uplink (R196); a LIVE lane has lost its uplink UPLINK_TO after the
later of LIVE entry and that (R208). -/
def execUplinkTimeout (k : Fin 64) (t : Instant) (s : State) : Host.Outcome State Fault Refusal :=
  let l := s.lane k
  let lost (from_ : Instant) : Bool := decide (from_ + ns (s.reg Reg.UPLINK_TO) ≤ t)
  if !lost l.upAt then .next s
  else
    let live := s.laneState k == laneLive && lost (max l.liveAt l.upAt)
    let s := (s.advance t).setFlag (Reg.GL_STATUS k) F.GL_STATUS_LINK_OK false
    let p := 0x180 + 2 * k.val
    let s := if bit (s.word p) 31 then s.setWord p (setBit (s.word p) 31 false) else s
    .next (if live then armLatchCheck k (laneFault k cUPLINK s) else s)

/-! ## Retry and clearing (R210) -/

/-- LANE_FAULT_RELEASE: TRETRY after the decision of an unlatched fault, on a LIVE lane. -/
def execLaneFaultRelease (k : Fin 64) (t : Instant) (s : State) : Host.Outcome State Fault Refusal :=
  if s.laneState k == laneLive && s.regBit Reg.LANE_FAULT k && !s.regBit Reg.LANE_LATCHED k && !(s.lane k).released
      && decide ((s.lane k).retry.decision + ms (s.reg Reg.TRETRY) ≤ t) then
    .next (sendRelease k (s.advance t))
  else .next s

/-- GL_CLEAR: latched lanes of the mask whose causes, the unit's own holds apart, are gone are released and clear at the first clean
uplink with an empty history; the others read back. -/
def actGlClear (mask : Nat) (s : State) : State × Nat :=
  let want := (bitsOf 64 mask).filter fun k => s.regBit Reg.LANE_LATCHED k
  let s := s.setReg Reg.GL_CLEAR (maskOf want)
  (s.forEach want fun k s =>
    if clearMask (s.lane k).causesNow (cDESAT + cOC) = 0 then
      let s := s.setLane k { s.lane k with manual := true }
      if s.laneState k = laneLive then sendRelease k s else s
    else s, stOK)

def execGlClear (mask : BitVec 64) (s : State) : Host.Outcome State Fault Refusal := .next (actGlClear mask.toNat s).1

/-! ## Register accesses (R193, R194) -/

/-- GU_ACCESS_TIMEOUT: an access not answered for 20 µs. -/
def execGuAccessTimeout (k : Fin 64) (t : Instant) (s : State) : Host.Outcome State Fault Refusal :=
  match (s.lane k).access with
  | none => .next s
  | some a =>
    if t < a.at_ + us 20 then .next s
    else
      let s := s.advance t
      let l := { s.lane k with access := none }
      match a.kind with
      | .setup => .next (s.setLane k { l with setup := l.setup.map fun x => if x.1 = a.reg then (x.1, s.now + ms 1) else x })
      | .object => .next ((s.setLane k l).setReg Reg.GU_RESULT 4)
      | .release | .check => .next (s.setLane k { l with waiting := l.waiting ++ [a] })
      | .ident => .next (s.setLane k l)

/-- GU_SETUP_RETRY: a set-up write that timed out is made again 1 ms later. -/
def execGuSetupRetry (k : Fin 64) (t : Instant) (s : State) : Host.Outcome State Fault Refusal :=
  if s.laneState k = laneLive ∧ (s.lane k).setup.any (fun x => x.2 != 0 && decide (x.2 ≤ t)) then
    .next (nextAccess k (s.advance t).now (s.advance t))
  else .next s

/-- GU_WRITE and GU_READ: accesses travel in frames, one at a time; GU_WRITE to 0x01–0x05 is refused (R226). -/
def actGu (write : Bool) (s : State) : State × Nat :=
  let k := s.reg Reg.GU_LANE
  let r := s.reg Reg.GU_REG
  if (write && decide (1 ≤ r) && decide (r ≤ 5)) || s.laneState k != laneLive || s.reg Reg.GU_RESULT == 1 then (s, stState)
  else
    let a : Access := { reg := r, write := write, value := s.reg Reg.GU_VALUE, kind := .object, at_ := s.now }
    ((s.setLane k { s.lane k with waiting := (s.lane k).waiting ++ [a] }).setReg Reg.GU_RESULT 1, stOK)

def execGuWrite (s : State) : Host.Outcome State Fault Refusal := .next (actGu true s).1
def execGuRead (s : State) : Host.Outcome State Fault Refusal := .next (actGu false s).1

/-! ## Lane states (R185, R30 to R32) and codes (R215) -/

/-- LANE_ENABLE and LANE_DISABLE: writes of GL_CFG.EN; the law's lanes are its own (R226). -/
def actLaneEn (k : Nat) (on : Bool) (s : State) : State × Nat :=
  if s.builtin ∧ k < 24 then (s, stState) else (laneSetEn k on s, stOK)

def execLaneEnable (k : Fin 64) (s : State) : Host.Outcome State Fault Refusal :=
  .next (stored (Reg.GL_CFG k) (fset F.GL_CFG_EN (s.reg (Reg.GL_CFG k)) 1) (actLaneEn k true s))

def execLaneDisable (k : Fin 64) (s : State) : Host.Outcome State Fault Refusal :=
  .next (stored (Reg.GL_CFG k) (fset F.GL_CFG_EN (s.reg (Reg.GL_CFG k)) 0) (actLaneEn k false s))

/-- LANE_START_COMPLETE. -/
def execLaneStartComplete (k : Fin 64) (t : Instant) (s : State) : Host.Outcome State Fault Refusal :=
  if s.laneState k = laneStarting then .next (laneStarted k (s.advance t)) else .next s

/-- TRAIN_RESET: the codes of the masked lanes return to their SET values. -/
def actTrainReset (mask : Nat) (s : State) : State × Nat :=
  (s.forEach (bitsOf 64 mask) fun k s => resetCodes k (s.setLane k { s.lane k with train := [] }), stOK)

def execTrainReset (mask : BitVec 64) (s : State) : Host.Outcome State Fault Refusal := .next (actTrainReset mask.toNat s).1

/-- TRAIN_CODE_STORE: every 60 min, counted from start-up (R215). -/
def execTrainCodeStore (t : Instant) (s : State) : Host.Outcome State Fault Refusal :=
  if s.bootInfo.codesAt + sec 3600 ≤ t then
    let s := s.advance t
    .next (storeCodes { s with bootInfo := { s.bootInfo with codesAt := s.now } })
  else .next s

end Sys2Proof.Machine
end

