-- ==== Sys2Proof/Machine/Memory.lean ====
section
/-!
DEFINITION. The commands of the memories (12_memory_ecc_dma.md): DRAM initialisation, the scrubber, DMA channels, the
memory-access objects.
-/

namespace Sys2Proof.Machine

/-- DRAM_INIT_DONE: the background initialisation completes, and no access waits for it any more (R328). -/
def execDramInitDone (t : Instant) (s : State) : Host.Outcome State Fault Refusal :=
  if s.flag Reg.DRAM_STATUS F.DRAM_STATUS_TRAINED && !s.flag Reg.DRAM_STATUS F.DRAM_STATUS_INIT_DONE then
    .next (memServe ((s.advance t).setFlag Reg.DRAM_STATUS F.DRAM_STATUS_INIT_DONE true |>.setReg Reg.INIT_PROG 100))
  else .next s

/-- SCRUB_START: SCRUB_CMD = 1 is checked and starts a pass with a zeroed summary (R333, R334). -/
def actScrubStart (s : State) : State × Nat :=
  let a := s.reg Reg.SCRUB_ADDR
  let n := s.reg Reg.SCRUB_LEN
  let ok := match s.memCode a, s.memSpan a with
    | some m, some r => decide (a + n ≤ r.2) && a % scrubUnit m == 0 && n % scrubUnit m == 0 && n != 0 && s.memo.scrubEnd.isNone
    | _, _ => false
  if ok then
    let s := [Reg.WORDS_CHECKED, Reg.CORRECTED, Reg.UNCORRECTABLE].foldl (fun s k => s.setReg k 0) s
    let s := (s.setReg Reg.FIRST_UE 0xFFFFFFFFFF).setReg Reg.LAST_UE 0xFFFFFFFFFF
    let s := { s with memo := { s.memo with scrubEnd := some (a + n) } }
    ((s.setReg Reg.SCRUB_NEXT a).setReg Reg.SCRUB_CMD 1, stOK)
  else (if s.memo.scrubEnd.isSome then s else s.setReg Reg.SCRUB_CMD 3, stState)

def execScrubStart (s : State) : Host.Outcome State Fault Refusal := .next (actScrubStart s).1

/-- SCRUB_STOP: the pass ends after the code word in progress, the `n`-th of the pass (R334); it has not
reached DRAM that is not initialised. -/
def actScrubStop (n : Nat) (s : State) : State × Nat :=
  match s.memo.scrubEnd with
  | none => (s, stState)
  | some e =>
    let lo := s.reg Reg.SCRUB_NEXT
    let hi := min e (min (lo + n * scrubUnit ((s.memCode lo).getD 0)) (s.scrubFront lo))
    ((scrubRun lo hi s).setReg Reg.SCRUB_CMD 4, stOK)

def execScrubStop (n : Nat) (s : State) : Host.Outcome State Fault Refusal := .next (actScrubStop n s).1

/-- SCRUB_PASS_END: the pass reaches the end of its range (R334). It waits out the control phase and the LOAD of the engine whose SRAM it
reads, the initialisation of DRAM, and throttling (R328, R333, R395). -/
def execScrubPassEnd (t : Instant) (s : State) : Host.Outcome State Fault Refusal :=
  match s.memo.scrubEnd with
  | none => .next s
  | some e =>
    let s1 := s.advance t
    if s1.scrubFront (s.reg Reg.SCRUB_NEXT) < e || !s1.sramFree (s.reg Reg.SCRUB_NEXT) || s1.throttled 2 then .next s
    else .next ((scrubRun (s.reg Reg.SCRUB_NEXT) e s1).setReg Reg.SCRUB_CMD 2)

/-- ECC_CLEAR (R331). -/
def actEccClear (s : State) : State × Nat :=
  (s.forEach (List.range 6) fun m s => (s.setReg (Reg.ECC_CORR m) 0).setReg (Reg.ECC_UNCORR m) 0, stOK)

def execEccClear (s : State) : Host.Outcome State Fault Refusal := .next (actEccClear s).1

/-- DMA_START: START of a channel, or its doorbell (R336). -/
def actDmaStart (c : Nat) (s : State) : State × Nat := (dmaStart c s, stOK)

def execDmaStart (c : Fin 16) (s : State) : Host.Outcome State Fault Refusal := .next (actDmaStart c s).1

/-- DMA_BEAT: the next beat at an instant (R339). -/
def execDmaBeat (t : Instant) (s : State) : Host.Outcome State Fault Refusal :=
  match s.dmaNext with
  | none => .next s
  | some c =>
    let s := s.advance t
    let p := s.fld (Reg.DMA_CFG c) F.DMA_CFG_PRIO
    .next (dmaBeat c { s with memo := { s.memo with lastDma := tabSet 15 s.memo.lastDma p c } })

/-- DMA_DONE: the destination acknowledges the last write (R338), for which the granules that the channel has written in part are
written; one that stays uncorrectable halts the channel instead (Table 12-3). -/
def execDmaDone (c : Fin 16) (s : State) : Host.Outcome State Fault Refusal :=
  let s := if (s.dma c).acking then heldOf (.dma c) s else s
  if (s.dma c).acking then
    let s := (s.setFlag (Reg.DMA_STATUS c) F.DMA_STATUS_BUSY false).setFlag (Reg.DMA_STATUS c) F.DMA_STATUS_DONE true
    let s := (s.bump (Reg.DONE_COUNT c)).setRegBit Reg.DMA_DONE_EVT c true
    .next (s.setDma c { s.dma c with cont := true, acking := false, emptyAt := none, spent := 0 })
  else .next s

/-- DMA_STREAM_TIMEOUT: the port has stayed empty for TIMEOUT; the channel halts with cause 4 (R337); TIMEOUT does not
run while the channel is throttled (R339). -/
def execDmaStreamTimeout (c : Fin 16) (t : Instant) (s : State) : Host.Outcome State Fault Refusal :=
  let d := s.dma c
  if (s.dmaStream c).isSome && (s.dmaWords c).isEmpty && !d.acking && !s.dmaPaused c
      && d.emptyAt.any fun x => decide (x + us (s.reg (Reg.TIMEOUT c)) ≤ t + d.spent) then
    let s := dmaHalt c 4 (dmaReport c (s.advance t))
    .next (s.setFlag (Reg.DMA_STATUS c) F.DMA_STATUS_TIMEOUT true)
  else .next s

/-- DMA_DISABLE: clearing EN (R340). -/
def actDmaDisable (c : Nat) (s : State) : State × Nat := (if s.flag (Reg.DMA_CFG c) F.DMA_CFG_EN then dmaDrop c s else s, stOK)

def execDmaDisable (c : Fin 16) (s : State) : Host.Outcome State Fault Refusal := .next (actDmaDisable c s).1

/-- MEM_READ (R343, R344): refused where a DMA may not read; it waits for DRAM that is not initialised (R328). -/
def actMemRead (s : State) : State × Nat :=
  let a := s.reg Reg.MEM_ADDR
  let n := s.reg Reg.MEM_LEN
  if !s.dmaOk false a (a + n) then (s.setReg Reg.MEM_RESULT 3, stState)
  else if !s.dramReady (a + n - 1) then ((memWait (.read a n) s).setReg Reg.MEM_RESULT 1, stOK)
  else (memReadAt a n s, stOK)

def execMemRead (s : State) : Host.Outcome State Fault Refusal := .next (actMemRead s).1

/-- MEM_WRITE (R343, R344): refused where a DMA may not write; it waits for DRAM that is not initialised (R328). -/
def actMemWrite (s : State) : State × Nat :=
  let a := s.reg Reg.MEM_ADDR
  let n := s.reg Reg.MEM_LEN
  if !s.dmaOk true a (a + n) then (s.setReg Reg.MEM_RESULT 3, stState)
  else if !s.dramReady (a + n - 1) then ((memWait (.write a (s.memData n)) s).setReg Reg.MEM_RESULT 1, stOK)
  else (memWriteAt a (s.memData n) s, stOK)

def execMemWrite (s : State) : Host.Outcome State Fault Refusal := .next (actMemWrite s).1

end Sys2Proof.Machine
end

