-- ==== Sys2Proof/Machine/Modes.lean ====
section
/-!
DEFINITION. The commands of the law and of the modes (02_grid_forming_law.md, 03_ride_through_and_modes.md,
04_black_start_and_cadence.md): parameters and bases, outer-cycle starts, mode commands, and the events that end a mode, a stage or
a window. An event acts where its condition holds at its instant.
-/

namespace Sys2Proof.Machine

/-! ## Parameters and bases -/

/-- APPLY (R40, R82): the staged set is checked as a whole; it waits for the next outer cycle, or the first failing check is
reported. A later APPLY replaces a pending one. -/
def actApply (s : State) : State × Nat :=
  let c := s.applyCheck
  if c != 0 then
    ((((s.setReg Reg.APPLY 3).setReg Reg.APPLY_RESULT c).setLaw { s.law with applying := false }).setMs F.MODE_STATUS_APPLY_DEFERRED false, 0)
  else
    let s := ((s.setReg Reg.APPLY 1).setReg Reg.APPLY_RESULT 0).setLaw { s.law with applying := true, checked := s.stagedSet }
    (s.setMs F.MODE_STATUS_APPLY_DEFERRED (s.mode == mLIMIT || s.mode == mHOLD), 0)

def execApplyStaged (s : State) : Host.Outcome State Fault Refusal := .next (actApply s).1

/-- The base objects of a side: S_BASE, V_BASE, F_BASE. -/
def baseReg (side sub : Nat) : Nat := 0x300000 + 256 * side + sub + 1

/-- A base write (R41): in BASECAMP only; the derived bases follow at once. -/
def actBase (side sub v : Nat) (s : State) : State × Nat :=
  let k := baseReg side sub
  if s.mode ≠ mBASECAMP then (s, stState)
  else if !valueOk k v then (s, stRange)
  else (refreshBases (deriveBases side (s.setReg k v)), stOK)

def execBaseWrite (side : Fin 2) (sub : Fin 3) (v : BitVec 32) (s : State) : Host.Outcome State Fault Refusal :=
  .next (stored (baseReg side sub) v.toNat (actBase side sub v.toNat s))

/-! ## Outer cycles and mode commands (R56, R61, R62) -/

/-- OUTER_CYCLE_START: an instance of TA1. -/
def execOuterCycleStart (t : Instant) (s : State) : Host.Outcome State Fault Refusal :=
  if s.phase = .running then .next (outerCycle (s.advance t)) else .next s

/-- A write of MODE_CMD is journaled work; its application places the command in the policy queue. A device without the baton
refuses it (R59). -/
def actModeCmd (v : Nat) (replay : Bool) (s : State) : State × Nat :=
  if !s.holds && !replay then (s, stNotActive) else (queueCommand v replay s, stOK)

def execModeCmdBasecamp (s : State) : Host.Outcome State Fault Refusal := .next (actModeCmd mBASECAMP false s).1
def execModeCmdArmed (s : State) : Host.Outcome State Fault Refusal := .next (actModeCmd mARMED false s).1
def execModeCmdForm (s : State) : Host.Outcome State Fault Refusal := .next (actModeCmd mFORM false s).1
def execModeCmdStart (s : State) : Host.Outcome State Fault Refusal := .next (actModeCmd mSTART false s).1
def execModeCmdSync (s : State) : Host.Outcome State Fault Refusal := .next (actModeCmd mSYNC false s).1

/-- ARM_TIMEOUT: the gate units were not ready in time (R186). -/
def execArmTimeout (t : Instant) (s : State) : Host.Outcome State Fault Refusal :=
  let s' := s.advance t
  if s.arming.any fun a => decide (a + Sys2Proof.ms (s.lreg Reg.ARM_TIMEOUT) ≤ s'.now) then .next (armRefused 4 s') else .next s

/-! ## LIMIT (R67, R74, R77, R80, R81) -/

/-- DETECTOR_CONFIRM: OE1 has sampled; a detector whose condition has held long enough enters LIMIT in this inner cycle. -/
def execDetectorConfirm (t : Instant) (s : State) : Host.Outcome State Fault Refusal :=
  let s := s.advance t
  .next (limitEntry (if (s.engine 1).inCycle then innerSense s else s))

/-- LIMIT_RECOVERY: the recovery conditions have held for REC_T. -/
def execLimitRecovery (t : Instant) (s : State) : Host.Outcome State Fault Refusal :=
  let s' := s.advance t
  if s.holds && s'.recovered then .next (leaveLimit s') else .next s

/-- A timed exit from LIMIT to BASECAMP. -/
def limitExit (cause : Nat) (due : State → Bool) (t : Instant) (s : State) : State :=
  let s' := s.advance t
  if s.holds && s.mode == mLIMIT && due s' then enterBasecamp cause s' else s

/-- OV_TRIP_TIMEOUT (R80). -/
def execOvTripTimeout (t : Instant) (s : State) : Host.Outcome State Fault Refusal :=
  .next (limitExit 12 (fun s => heldFor s.law.ovSince (Sys2Proof.ms (s.lreg Reg.OV_TRIP_T)) s.now) t s)

/-- LIMIT_MAX_TIMEOUT (R80). -/
def execLimitMaxTimeout (t : Instant) (s : State) : Host.Outcome State Fault Refusal :=
  .next (limitExit 13 (fun s => decide (s.law.limitAt + Sys2Proof.ms (s.lreg Reg.LIMIT_MAX_T) ≤ s.now)) t s)

/-- HOLDOVER_TIMEOUT (R80). -/
def execHoldoverTimeout (t : Instant) (s : State) : Host.Outcome State Fault Refusal :=
  .next (limitExit 14 (fun s => heldFor s.law.holdoverSince (Sys2Proof.ms (s.lreg Reg.HOLDOVER_T)) s.now) t s)

/-- PJ_FOLLOW_END: the excess of a phase jump has been followed (R77). -/
def execPjFollowEnd (t : Instant) (s : State) : Host.Outcome State Fault Refusal :=
  if s.ms F.MODE_STATUS_PJ_FOLLOW && s.law.pjN == 0 then .next ((s.advance t).setMs F.MODE_STATUS_PJ_FOLLOW false) else .next s

/-- KVI_RETURN_END: the virtual-impedance factor has returned to 1 (R74). -/
def execKviReturnEnd (t : Instant) (s : State) : Host.Outcome State Fault Refusal :=
  let s' := s.advance t
  if s.lawMode != mLIMIT && heldFor s.law.kviAt (Sys2Proof.ms (s.lreg Reg.KVI_RET)) s'.now then
    .next ((s'.setLaw { s'.law with kviAt := none }).setMs F.MODE_STATUS_KVI_ACTIVE false)
  else .next s

/-! ## Soft stop, DC link, breaker (R60, R63, R65) -/

/-- SOFT_STOP_COMPLETE: the limit has reached zero; static-off is written to every law channel. -/
def execSoftStopComplete (t : Instant) (s : State) : Host.Outcome State Fault Refusal :=
  let s' := s.advance t
  if s.ms F.MODE_STATUS_STOPPING && !s.law.stopWait && heldFor s.law.stopAt (Sys2Proof.ms (s.lreg Reg.STOP_RAMP)) s'.now then .next (softStopWrite s') else .next s

/-- DC_LINK_TRIP: four inner cycles in a row outside the trip limits. -/
def execDcLinkTrip (t : Instant) (s : State) : Host.Outcome State Fault Refusal :=
  if s.holds && decide (4 ≤ s.law.vdcTrip) && s.mode != mBASECAMP then .next (enterBasecamp 24 (s.advance t)) else .next s

/-- BRK_STATE_AGED: a value older than BRK_MAXAGE is unknown. -/
def execBrkStateAged (t : Instant) (s : State) : Host.Outcome State Fault Refusal :=
  let s' := s.advance t
  if brkAged s.law.brkAt (s.lreg Reg.BRK_MAXAGE) s'.now then .next (s'.setReg Reg.BRK_STATE 0xFF) else .next s

/-! ## Miss policy (R86 to R90) -/

/-- MISS_RUN_LIMIT: enough inner or outer cycles in a row have missed. -/
def execMissRunLimit (t : Instant) (s : State) : Host.Outcome State Fault Refusal :=
  if s.holdCause != 0 then .next (enterHold s.holdCause (s.advance t)) else .next s

/-- HOLD_MISSES_LIMIT: MISS_M misses in HOLD. -/
def execHoldMissesLimit (t : Instant) (s : State) : Host.Outcome State Fault Refusal :=
  if s.holds && s.mode == mHOLD && decide (s.lreg Reg.MISS_M ≤ s.reg Reg.HOLD_MISSES) then .next (enterBasecamp 19 (s.advance t)) else .next s

/-- HOLD_TIME_EXPIRY: HOLD has lasted HOLD_TIME. -/
def execHoldTimeExpiry (t : Instant) (s : State) : Host.Outcome State Fault Refusal :=
  let s' := s.advance t
  if s.holds && s.mode == mHOLD && decide (s.law.holdAt + Sys2Proof.ms (s.lreg Reg.HOLD_TIME) ≤ s'.now) then .next (enterBasecamp 20 s')
  else .next s

/-- HOLD_RECOVER: the run of on-time cycles ends HOLD. -/
def execHoldRecover (t : Instant) (s : State) : Host.Outcome State Fault Refusal :=
  if s.holds && s.holdEnds then .next (leaveHold (s.advance t)) else .next s

/-- ENGINE_ROM_RELOAD: policy reloads a faulted law engine from the ROM. -/
def execEngineRomReload (e : Fin 8) (t : Instant) (s : State) : Host.Outcome State Fault Refusal :=
  if s.builtin && (s.engine e).faulted then .next (romLoad e (s.advance t)) else .next s

/-! ## Estimator (R50 to R52) -/

/-- ESTIMATE_WINDOW_END: the window's last chip is complete. -/
def execEstimateWindowEnd (t : Instant) (s : State) : Host.Outcome State Fault Refusal :=
  if s.estRuns && s.law.est.on && decide (s.par Reg.WINDOW ≤ s.law.est.chips.length) then .next (windowEnd (s.advance t)) else .next s

/-- ESTIMATE_STALE: STALE_S without an accepted estimate. Before the first one the spec does not say from when the time runs: it runs from the
start of the device (DESIGN CHOICE, log entry 114). -/
def execEstimateStale (t : Instant) (s : State) : Host.Outcome State Fault Refusal :=
  let s' := s.advance t
  if s.law.est.lastAt.getD s.bootInfo.bootAt + Sys2Proof.sec (s.par Reg.STALE_S) ≤ s'.now then
    let s := s'.setLs F.LAW_STATUS_EST_STALE true
    .next (if s.estRuns then s.setReg Reg.EST_STATE 3 else s)
  else .next s

/-! ## START and SYNC (R100 to R106) -/

/-- SETTLE_COMPLETE: V1 has stayed within its band for SETTLE_T; START ends in FORM at the next outer-cycle start. -/
def execSettleComplete (t : Instant) (s : State) : Host.Outcome State Fault Refusal :=
  let s' := s.advance t
  if s.mode == mSTART && s.reg Reg.BS_STAGE == 4 && heldFor s.cad.settleSince (Sys2Proof.ms (s.lreg Reg.SETTLE_T)) s'.now then
    .next (s'.setCad { s'.cad with settled := true })
  else .next s

/-- START_ABORT. -/
def execStartAbort (t : Instant) (s : State) : Host.Outcome State Fault Refusal :=
  let s' := s.advance t
  if s.holds && s'.startAbort != 0 then .next (abortTo s'.startAbort s') else .next s

/-- SYNC_HOLD_EXPIRY: the three conditions have held for SYNC_HOLD. -/
def execSyncHoldExpiry (t : Instant) (s : State) : Host.Outcome State Fault Refusal :=
  let s' := s.advance t
  if s.matching && !s.bs F.BS_STATUS_IN_SYNC && heldFor s.cad.inWinSince (Sys2Proof.ms (s.lreg Reg.SYNC_HOLD)) s'.now then
    .next ((setStage 7 s').setBs F.BS_STATUS_IN_SYNC true)
  else .next s

/-- CLOSE_WIN_EXPIRY: IN_SYNC has been clear for CLOSE_WIN. -/
def execCloseWinExpiry (t : Instant) (s : State) : Host.Outcome State Fault Refusal :=
  let s' := s.advance t
  if s.mode == mSYNC && s.reg Reg.BS_STAGE == 7 && !s.bs F.BS_STATUS_IN_SYNC
      && heldFor s.cad.clearedAt (Sys2Proof.ms (s.lreg Reg.CLOSE_WIN)) s'.now then .next (setStage 6 s')
  else .next s

/-- SYNC_ABORT. -/
def execSyncAbort (t : Instant) (s : State) : Host.Outcome State Fault Refusal :=
  let s' := s.advance t
  if s.holds && s'.syncAbort != 0 then .next (abortTo s'.syncAbort s') else .next s

end Sys2Proof.Machine
end

