-- ==== Sys2Proof/Machine/Persist.lean ====
section
/-!
DEFINITION. Stored records (16_startup_and_persistence.md): the configuration in slots and deltas, its compaction, loading it, the patch
slots and the choice of the patch at start-up.
-/

namespace Sys2Proof.Machine

/-! ## The two copies of a record (R422, R423) -/

/-- The fields of a copy's header that its check uses (Table 16-3). -/
def RecCopy.gen (c : RecCopy) : Nat := c.header.toNat / 2 ^ 64 % 2 ^ 32
def RecCopy.len (c : RecCopy) : Nat := c.header.toNat % 2 ^ 32
/-- The checksum over header and payload. -/
def RecCopy.crc (c : RecCopy) : Nat := crc32 (toBytes 16 c.header.toNat ++ c.payload.take c.len)

/-- The copy is valid: its commit word has the fixed upper half and the header's generation, and its checksum is correct. -/
def RecCopy.valid (c : RecCopy) : Bool :=
  c.commit.toNat / 2 ^ 32 == 0x434D4954 && c.commit.toNat % 2 ^ 32 == c.gen && c.sum.toNat == c.crc

/-- The record has been written. -/
def State.hasRec (s : State) : RecId → Bool
  | .slot n => if n = 0 then s.mram.slotA.isSome else s.mram.slotB.isSome
  | .delta q => s.mram.deltas.any (·.seq == q)
  | .item p i q => s.mram.journal.any fun x => x.port == p && x.session == i && x.seq == q
  | .claim => s.mram.claimed
  | .image e => tabGet false s.mram.hasImage e
  | .coefs k b => s.bankValid k b
  | .codes k => tabGet [] s.mram.codeProf k != []
  | .patch n => if n = 0 then s.mram.patchA.committed else s.mram.patchB.committed

/-- A record without a valid copy does not exist. -/
def loseRec (r : RecId) (s : State) : State :=
  let m := s.mram
  match r with
  | .slot n => { s with mram := if n = 0 then { m with slotA := none } else { m with slotB := none } }
  | .delta q => { s with mram := { m with deltas := m.deltas.filter fun d => d.seq != q } }
  | .item p i q => { s with mram := { m with journal := m.journal.filter fun x => !(x.port == p && x.session == i && x.seq == q) } }
  | .claim => { s with mram := { m with claimed := false } }.setReg Reg.BATON_HELD 0
  | .image e => { s with mram := { m with hasImage := tabSet false m.hasImage e false, images := tabSet {} m.images e {} } }
  | .coefs k b => { s with filt := { s.filt with coefs := tabSet [] s.filt.coefs (2 * k + b) [] } }.setReg (bankReg k b) 0
  | .codes k => { s with mram := { m with codes := tabSet 0 m.codes k 0, codeProf := tabSet [] m.codeProf k [] } }
  | .patch n => { s with mram :=
      if n = 0 then { m with patchA := { m.patchA with committed := false } } else { m with patchB := { m.patchB with committed := false } } }

/-- A copy reads with an uncorrectable error, which is counted; where in the eMRAM it lies the spec does not give (R332). -/
def recUe (s : State) : State := (countUe (0x20000000 + s.freeVal 22 * 8) s).useFree

/-- A record is read at start-up: the copy that is not valid is rewritten from the valid one; with none the record does not exist. -/
def readRec (x : RecRead) (s : State) : State :=
  if !s.hasRec x.id then s
  else
  let s := (if x.a.isNone then recUe s else s)
  let s := (if x.b.isNone then recUe s else s)
  match x.a.any RecCopy.valid, x.b.any RecCopy.valid with
    | true, true => s
    | false, false => loseRec x.id s
    | _, _ => s.setFlag Reg.CFG_STATUS F.CFG_STATUS_COPY_REPAIRED true

/-- The last delta in use: the one before the first gap above the newest slot's LAST_SEQ (R425). -/
def deltaEnd : Nat → List Delta → Nat
  | n, [] => n
  | n, d :: t => if d.seq = n + 1 then deltaEnd (n + 1) t else if d.seq ≤ n then deltaEnd n t else n

/-- The deltas above a gap, which are never applied, are given up, and the log goes on at the gap (log entry 110); the items whose keys they hold
are applied ones (R426). -/
def closeGap (s : State) : State :=
  let m := s.mram
  match m.newest with
  | none => s
  | some x =>
    let z := deltaEnd x.2.last m.deltas
    let gone := m.deltas.filter fun d => decide (z < d.seq)
    { s with mram := { m with
        deltas := m.deltas.filter fun d => decide (d.seq ≤ z)
        deltaSeq := z
        journal := m.journal.map fun i =>
          if i.result.isNone && gone.any fun d => d.port == i.port && d.session == i.session && d.jseq == i.seq && d.port != 0xFF then
            { i with result := some 0 }
          else i } }

/-- What start-up finds of the records whose copies do not both read as written. -/
def readRecs (l : List RecRead) (s : State) : State := if l.isEmpty then s else closeGap (s.forEach l readRec)

/-! ## Configuration (R424, R425, R427) -/

/-- The configuration after one more delta: values that differ from their defaults, and the active law set. -/
def applyDelta (c : Tab Nat × Tab Nat) (d : Delta) : Tab Nat × Tab Nat :=
  match d.active with
  | some a => (c.1, a)
  | none => (tabSet (objReset d.obj) c.1 d.obj d.val, c.2)

/-- The deltas that are loaded on a slot: in ascending order from LAST_SEQ on, up to the first gap. -/
def deltaRun : Nat → List Delta → List Delta
  | _, [] => []
  | n, d :: t => if d.seq = n + 1 then d :: deltaRun (n + 1) t else if d.seq ≤ n then deltaRun n t else []

/-- The stored configuration: the newest slot with its deltas (R425); none where no slot exists. -/
def Store.config (m : Store) : Option (Tab Nat × Tab Nat) :=
  match m.newest with
  | some x => some ((deltaRun x.2.last m.deltas).foldl applyDelta (x.2.vals, x.2.active))
  | none => none

/-- A full image is written into the slot that is not the newest, with generation + 1; the records it includes are released. -/
def writeSlot (vals active : Tab Nat) (upTo : Nat) (s : State) : State :=
  let m := s.mram
  let n : Nat × Nat := match m.newest with
    | some x => (1 - x.1, x.2.gen + 1)
    | none => (0, 1)
  let slot : Slot := ⟨n.2, upTo, vals, active⟩
  let m := if n.1 = 0 then { m with slotA := some slot } else { m with slotB := some slot }
  { s with mram := { m with deltas := m.deltas.filter fun d => decide (upTo < d.seq) } }.setReg Reg.CFG_GEN n.2

/-- The compaction completes (R427); a log that is at 1,024 records again starts the next one. A slot that FACTORY_RESET has written
meanwhile includes later deltas: its LAST_SEQ stays the bound. -/
def compactDone (s : State) : State :=
  let m := s.mram
  let upTo := match m.newest with
    | some x => max m.compactSeq x.2.last
    | none => m.compactSeq
  let c := ({ m with deltas := m.deltas.filter fun d => decide (d.seq ≤ upTo) }).config.getD ([], [])
  let s := writeSlot c.1 c.2 upTo s
  compactStart ({ s with mram := { s.mram with compactAt := none } }.setFlag Reg.CFG_STATUS F.CFG_STATUS_COMPACTING false)

/-- The log is full: RWS application waits for the running compaction (R427). -/
def State.logFull (s : State) : Bool := decide (4096 ≤ s.mram.beyond.length)

/-- COMPACTION_COMPLETE: within 100 ms of its start. -/
def execCompactionComplete (t : Instant) (s : State) : Host.Outcome State Fault Refusal :=
  match s.mram.compactAt with
  | some a => if t ≤ a + ms 100 then .next (compactDone (s.advance t)) else .next s
  | none => .next s

/-- What a loaded configuration enables runs from now: TRG_TO and the filters of the ADC_TRG pins, OW_PERIOD of the inputs (R235, R243). -/
def periodsStart (s : State) : State :=
  { s with adc := { s.adc with
      trgRef := (List.range 4).foldl (fun t p => tabSet 0 t p s.now) s.adc.trgRef
      trgFilt := (List.range 4).foldl (fun t p => tabSet (none, 0) t p (none, s.now)) s.adc.trgFilt
      owDone := (List.range 64).foldl (fun t a => if s.fld (Reg.OW_CFG a) F.OW_CFG_ISEL = 0 then t else tabSet 0 t a s.now) s.adc.owDone } }

/-- Step 6 of start-up: the stored configuration is loaded. Objects that the running firmware does not define are ignored and counted; no
valid slot is journaled (R420, R421, R425). -/
def loadConfig (s : State) : State :=
  let s := (s.setReg Reg.CFG_GEN ((s.mram.newest.map fun x => x.2.gen).getD 0)).setReg Reg.CFG_SEQ s.mram.deltaSeq
  match s.mram.config with
  | none => ((s.setReg Reg.CFG_SLOT 0xFF).setFlag Reg.CFG_STATUS F.CFG_STATUS_CFG_DEFAULTED true).note noteConfig []
  | some c =>
    let known := c.1.filter fun e => (objFind (e.1 / 256) (e.1 % 256)).isSome
    let s := (s.setReg Reg.CFG_UNKNOWN (c.1.length - known.length)).setReg Reg.CFG_SLOT ((s.mram.newest.map Prod.fst).getD 0xFF)
    let s := s.setFlag Reg.CFG_STATUS F.CFG_STATUS_LOADED true
    periodsStart (refreshStaged ((known.foldl (fun s e => s.setReg e.1 e.2) s).setLaw { s.law with active := c.2 }))

/-! ## Patch slots (R429 to R431) -/

def patchSize : Nat := 1048576

/-- The slot in which a patch is staged: the one that is not running. With no patch running it is slot A, or slot B where A is the
confirmed one (log entry 63). -/
def State.stagingSlot (s : State) : Nat :=
  match s.bootInfo.run with
  | some r => 1 - r
  | none => if s.mram.confirmed = some 0 then 1 else 0

def Store.patch (m : Store) (n : Nat) : PatchSlot := if n = 0 then m.patchA else m.patchB
def State.setPatch (s : State) (n : Nat) (p : PatchSlot) : State :=
  if n = 0 then { s with mram := { s.mram with patchA := p } } else { s with mram := { s.mram with patchB := p } }

/-- The bytes of a patch slot that its commit covers. -/
def PatchSlot.text (p : PatchSlot) (len : Nat) : List Byte := memRead len p.bytes 0

/-- PATCH_WRITE and PATCH_COMMIT are refused while the running patch is unconfirmed or PATCH_LEN exceeds 1 MiB. -/
def State.patchRefused (s : State) : Bool := s.bootInfo.trial || decide (patchSize < s.reg Reg.PATCH_LEN)

/-- PATCH_BLOCK is copied into the staging slot; an address outside the slot or not a multiple of 256 is refused. -/
def actPatchWrite (s : State) : State × Nat :=
  let a := s.reg Reg.PATCH_ADDR
  if s.patchRefused ∨ a % 256 ≠ 0 ∨ patchSize ≤ a then (s, stState)
  else
    let n := s.stagingSlot
    let p := s.mram.patch n
    let block := (List.range 64).flatMap fun i => toBytes 4 (s.reg (Reg.PATCH_BLOCK i))
    (s.setPatch n { p with bytes := memWrite block p.bytes a }, stOK)

/-- PATCH_COMMIT: the staging slot is committed where its CRC is PATCH_CRC and it names the running ROM version; the commit erases any
selection of the slot, and the slot is a confirmed one no longer. -/
def actPatchCommit (s : State) : State × Nat :=
  if s.patchRefused then (s.setReg Reg.PATCH_COMMIT 4, stState)
  else
    let n := s.stagingSlot
    let p := s.mram.patch n
    let len := s.reg Reg.PATCH_LEN
    let txt := p.text len
    if crc32 txt ≠ s.reg Reg.PATCH_CRC then (s.setReg Reg.PATCH_COMMIT 3, stOK)
    else if !Config.patchFits txt then (s.setReg Reg.PATCH_COMMIT 4, stOK)
    else
      let s := s.setPatch n { p with committed := true, len := len, crc := s.reg Reg.PATCH_CRC, selected := false, started := false }
      let s := if s.mram.confirmed = some n then { s with mram := { s.mram with confirmed := none } } else s
      ((s.setReg (if n = 0 then Reg.PATCH_VER_A else Reg.PATCH_VER_B) (Config.patchVersion txt % 2 ^ 32)).setReg Reg.PATCH_COMMIT 2, stOK)

/-- PATCH_SELECT: the slot runs at the next start, as a trial that has not been started; the other slot's selection ends. -/
def actPatchSelect (n : Nat) (s : State) : State × Nat :=
  let s := s.setPatch n { s.mram.patch n with selected := true, started := false }
  (s.setPatch (1 - n) { s.mram.patch (1 - n) with selected := false }, stOK)

/-- PATCH_RESTART is accepted only in BASECAMP; the restart itself follows the recording of the item's outcome. -/
def actPatchRestart (s : State) : State × Nat :=
  if s.mode ≠ mBASECAMP then (s, stState) else ({ s with bootInfo := { s.bootInfo with restart := true } }, stOK)

/-- PATCH_CONFIRM while a trial runs makes it the confirmed slot. -/
def actPatchConfirm (s : State) : State × Nat :=
  match s.bootInfo.run with
  | some n =>
    if s.bootInfo.trial then
      let s := s.setPatch n { s.mram.patch n with selected := false, started := false }
      ({ s with bootInfo := { s.bootInfo with trial := false }, mram := { s.mram with confirmed := some n } }, stOK)
    else (s, stState)
  | none => (s, stState)

/-- The slot exists and passes its CRC. -/
def PatchSlot.passes (p : PatchSlot) : Bool := p.committed && crc32 (p.text p.len) == p.crc

/-- The selected trial slot. -/
def Store.trialSlot (m : Store) : Option Nat := if m.patchA.selected then some 0 else if m.patchB.selected then some 1 else none

/-- Step 5 of start-up (R431, Table 16-6): the slot that runs, whether as a trial, and BOOT_RESULT. -/
def Store.choosePatch (m : Store) : Option Nat × Bool × Nat :=
  let conf : Option Nat := match m.confirmed with
    | some c => if (m.patch c).passes then some c else none
    | none => none
  match m.trialSlot with
  | some n =>
    if (m.patch n).started then (conf, false, 2)
    else if (m.patch n).passes then (some n, true, 1)
    else (conf, false, if conf.isSome then 3 else 4)
  | none => (conf, false, if conf.isSome then 0 else 4)

/-- The patch is verified and applied, unless the BOOT strap says otherwise. A trial that runs is marked as started; a start that finds it
started and unconfirmed ends its selection. -/
def bootPatch (noPatch : Bool) (s : State) : State :=
  let set (run : Option Nat) (trial : Bool) (result : Nat) (s : State) : State :=
    ({ s with bootInfo := { s.bootInfo with run := run, trial := trial } }.setReg Reg.PATCH_RUN (run.getD 0xFF)).setReg Reg.BOOT_RESULT result
  if noPatch then set none false 5 s
  else
    let c := s.mram.choosePatch
    let s := match s.mram.trialSlot with
      | some n =>
        let p := s.mram.patch n
        s.setPatch n (if p.started then { p with selected := false, started := false } else { p with started := p.passes })
      | none => s
    set c.1 c.2.1 c.2.2 s

def execPatchWrite (s : State) : Host.Outcome State Fault Refusal := .next (actPatchWrite s).1
def execPatchCommit (s : State) : Host.Outcome State Fault Refusal := .next (actPatchCommit s).1
def execPatchSelect (n : Fin 2) (s : State) : Host.Outcome State Fault Refusal := .next (actPatchSelect n.val s).1
def execPatchConfirm (s : State) : Host.Outcome State Fault Refusal := .next (actPatchConfirm s).1

end Sys2Proof.Machine
end

