-- ==== Sys2Proof/Machine/NetOps.lean ====
section
/-!
DEFINITION. Operations of the networks and of the pair that the dictionary starts: CAN controllers, Ethernet configuration and
redundancy (R352, R364 to R366), SWITCHOVER and BATON_RENUMBER (R374, R385).
-/

namespace Sys2Proof.Machine

def State.setNet (s : State) (n : Net) : State := { s with net := n }

/-! ## CAN (R352, R353, R419) -/

def State.can (s : State) (k : Nat) : Can := tabGet {} s.net.cans k
def State.setCan (s : State) (k : Nat) (c : Can) : State := s.setNet { s.net with cans := tabSet {} s.net.cans k c }
/-- The node-ID of a controller, from the configuration in effect. -/
def State.nodeId (s : State) (k : Nat) : Nat := fget F.CAN_CFG_NODE_ID (s.can k).cfg
/-- The controller is enabled, not in bus-off, and its port answers. -/
def State.canOn (s : State) (k : Nat) : Bool := fget F.CAN_CFG_EN (s.can k).cfg == 1 && !(s.can k).busOff

/-- What a controller has of its PDOs is forgotten: values that wait for SYNC, SYNC counts, inhibit times (R352). -/
def pdosForget (k : Nat) (s : State) : State :=
  let f (e : Nat × Pdo) : Nat × Pdo :=
    let w := setBit e.2.waits k false
    (e.1, { e.2 with waits := w, held := if w = 0 then none else e.2.held })
  s.setNet { s.net with rpdos := s.net.rpdos.map f, tpdos := s.net.tpdos.filter fun e => e.1 / 16 != k }

/-- The communication of a controller starts: CAN_CFG takes effect, the boot-up message is sent, the controller is pre-operational. -/
def canStart (k : Nat) (s : State) : State :=
  let s := pdosForget k (s.setCan k { s.can k with cfg := s.reg (Reg.CAN_CFG k), hbAt := s.now })
  if s.canOn k then (s.setReg (Reg.CAN_STATE k) 1).emit (.can k (0x700 + s.nodeId k) [0]) else s.setReg (Reg.CAN_STATE k) 0

/-! ## Ethernet (R364 to R366) -/

/-- Address, mask, gateway and configuration in effect on a port; the redundant pair has those of ETH0. -/
def State.ethNow (s : State) (p i : Nat) : Nat := s.ethCfg p i

/-- A frame is sent on an Ethernet port with the port's VLAN tag; on the redundant pair it leaves on both LANs with the redundancy control
trailer or the HSR tag, whose sequence number it takes (R364, R365). -/
def ethSend (p : Nat) (f : Nat → EthHdr → Out) (s : State) : State :=
  let cfg := s.ethNow p 3
  let tag := if fget F.ETH_CFG_VID cfg = 0 then 0 else fget F.ETH_CFG_PCP cfg * 8192 + fget F.ETH_CFG_VID cfg
  if s.reg Reg.REDUND = 0 ∨ 2 ≤ p then s.emit (f p ⟨tag, none⟩)
  else
    let n := s.net.redSeq
    let s := s.setNet { s.net with redSeq := (n + 1) % 65536 }
    (s.emit (f 0 ⟨tag, some n⟩)).emit (f 1 ⟨tag, some n⟩)

/-- A port takes up its configuration. -/
def ethPort (p : Nat) (s : State) : State :=
  [Reg.ETH_IP p, Reg.ETH_MASK p, Reg.ETH_GW p, Reg.ETH_CFG p].zipIdx.foldl
    (fun s x => s.setNet { s.net with eth := tabSet 0 s.net.eth (4 * p + x.2) (s.reg x.1) }) s

/-- ETH_APPLY: the masked ports take up their configuration; sessions stay open. -/
def actEthApply (mask : Nat) (s : State) : State × Nat := (s.forEach (bitsOf 4 mask) ethPort, stOK)

/-- The redundant pair starts, or its ports start as independent ones: the duplicate table is empty. -/
def redundStart (s : State) : State :=
  let on := s.reg Reg.REDUND != 0
  let s := s.setNet { s.net with dups := [], redSeq := 0, supAt := s.now }
  s.forEach [0, 1] fun p s => s.setReg (Reg.ETH_STATUS p) (fset F.ETH_STATUS_RED_MEMBER 0 (b2n on))

/-- A change of REDUND is accepted only in BASECAMP and restarts both ports. -/
def actRedund (v : Nat) (s : State) : State × Nat :=
  if !valueOk Reg.REDUND v then (s, stRange)
  else if v = s.reg Reg.REDUND then (s, stOK)
  else if s.mode ≠ mBASECAMP then (s, stState)
  else (redundStart (s.setReg Reg.REDUND v), stOK)

/-! ## The pair (R374, R385, R388) -/

/-- The partner is SYNCED, as its last heartbeat says. -/
def State.partnerSynced (s : State) : Bool := s.pair.beat.any (fun b => bit b.flags 14) && s.ps F.PAIR_STATUS_PARTNER_ALIVE

/-- SWITCHOVER: the standby is asked by a FAULT frame with cause 7; the device goes on driving until it learns of the higher number. -/
def actSwitchover (s : State) : State × Nat :=
  if !s.holds || !s.partnerSynced || s.mode == mLIMIT || s.mode == mHOLD then (s.setReg Reg.SWITCHOVER 3, stState)
  else (belaySend 0x03 [7] (s.setReg Reg.SWITCHOVER 1), stOK)

/-- BATON_RENUMBER: 2 or 3 is claimed, by the device's parity, and the higher numbers known before are ignored. -/
def actBatonRenumber (s : State) : State × Nat :=
  let both := s.mode == mBASECAMP && s.pair.beat.any (fun b => b.mode == mBASECAMP)
  if !s.holds || !both || !s.partnerSynced || !s.linkUp || s.pair.claim.isSome then (s.setReg Reg.BATON_RENUMBER 3, stState)
  else (s.setPair { s.pair with claim := some ⟨2 + s.duplexId, 10, s.now⟩ }, stOK)

def execSwitchover (s : State) : Host.Outcome State Fault Refusal := .next (actSwitchover s).1
def execBatonRenumber (s : State) : Host.Outcome State Fault Refusal := .next (actBatonRenumber s).1
def execEthApply (mask : BitVec 4) (s : State) : Host.Outcome State Fault Refusal := .next (actEthApply mask.toNat s).1

end Sys2Proof.Machine
end

