-- ==== Sys2Proof/Machine/Recorder.lean ====
section
/-!
DEFINITION. The commands of the disturbance recorder and the trigger bus (10_disturbance_recorder.md).
-/

namespace Sys2Proof.Machine

/-- RECORDER_SAMPLE: `t` is an instant at which TIME64 is a multiple of SPER (R276). -/
def execRecorderSample (n : Fin 4) (t : Instant) (s : State) : Host.Outcome State Fault Refusal :=
  let n : Nat := n
  if (s.rc n).on && decide (s.now ≤ t) && s.ptpAt t % (s.reg (Reg.SPER n) * 2 ^ 32) == 0
      && (match (s.rc n).lastAt with
          | some x => decide (x < t)
          | none => true) then
    .next (rcSample n (s.advance t))
  else .next s

/-- RC_SWTRIG: a software trigger; its instant is the tick at which SWTRIG registers (R284, R285). -/
def actRcSwtrig (n : Nat) (s : State) : State × Nat :=
  let r := s.tickCeil s.now
  (ownTrigger n 2 (s.ptpAt r) r s, stOK)

def execRcSwtrig (n : Fin 4) (s : State) : Host.Outcome State Fault Refusal := .next (actRcSwtrig n s).1

/-- RELEASE (R289): CLOSED slots become FREE and their index entries are cleared; an ARMED or POST slot refuses it. A FULL
instance with AUTO_REARM arms a slot that has become free (R286). -/
def actRelease (n mask : Nat) (s : State) : State × Nat :=
  let l := bitsOf 16 mask
  if l.any fun i => s.slotState n i == 1 || s.slotState n i == 2 then (s, stState)
  else
    let freed := l.filter fun i => s.slotState n i == 3
    let s := s.forEach freed fun i s =>
      let s := (setSlot n i 0 s).setRc n { s.rc n with closed := (s.rc n).closed.erase i }
      if s.dmaOk true (s.ixAddr n i) (s.ixAddr n i + 128) then (s.physWrite (s.ixAddr n i) (List.replicate 128 0#8)).2 else s
    (if freed ≠ [] ∧ s.rcState n = 3 ∧ s.rcCfg n F.RC_CFG_AUTO_REARM = 1 then rearm n s else s, stOK)

def execRcRelease (n : Fin 4) (mask : BitVec 16) (s : State) : Host.Outcome State Fault Refusal := .next (actRelease n mask.toNat s).1

/-- ARM: arms a slot of a FULL instance (R286). -/
def actArm (n : Nat) (s : State) : State × Nat := (if s.rcState n = 3 then rearm n s else s, stOK)

def execRcArm (n : Fin 4) (s : State) : Host.Outcome State Fault Refusal := .next (actArm n s).1

/-- A write of RC_CFG: while EN = 1 only EN may change (R299); EN = 1 is checked against R281. -/
def actRcCfg (n v : Nat) (s : State) : State × Nat :=
  let old := s.reg (Reg.RC_CFG n)
  let en := fget F.RC_CFG_EN v = 1
  if !valueOk (Reg.RC_CFG n) v then (s, stRange)
  else if fget F.RC_CFG_EN old = 1 ∧ fset F.RC_CFG_EN v 0 ≠ fset F.RC_CFG_EN old 0 then (s, stState)
  else
    let s' := s.setReg (Reg.RC_CFG n) v
    if en ∧ fget F.RC_CFG_EN old = 0 ∧ !s'.rcAllowed n then (s, stState)
    else if en = (fget F.RC_CFG_EN old = 1) ∧ (s.rc n).stopping = false then (s', stOK)
    else (rcEnable n en s', stOK)

/-- RC_ENABLE: EN = 1 with the layout written before (R281, R290). -/
def execRcEnable (n : Fin 4) (s : State) : Host.Outcome State Fault Refusal :=
  let v := fset F.RC_CFG_EN (s.reg (Reg.RC_CFG n)) 1
  let r := actRcCfg n v s
  .next (if r.2 = stOK then storeRws (Reg.RC_CFG n) v r.1 else r.1)

/-- RC_DISABLE: EN = 0 (R298). -/
def execRcDisable (n : Fin 4) (s : State) : Host.Outcome State Fault Refusal :=
  let v := fset F.RC_CFG_EN (s.reg (Reg.RC_CFG n)) 0
  let r := actRcCfg n v s
  .next (if r.2 = stOK then storeRws (Reg.RC_CFG n) v r.1 else r.1)

/-- IX_READ: the index entry of a slot in any state (R296); refused where Table 12-4 permits no read (R326). -/
def actIxRead (s : State) : State × Nat :=
  let a := s.ixAddr (s.reg Reg.IX_INST) (s.reg Reg.IX_SLOT)
  if !s.dmaOk false a (a + 128) then (s, stState)
  else if !s.dramReady (a + 127) then (memWait (.index a) s, stOK)
  else (ixReadAt a s, stOK)

def execIxRead (s : State) : Host.Outcome State Fault Refusal := .next (actIxRead s).1

/-- RD_READ (R297); it waits for DRAM that is not initialised (R328). -/
def actRdRead (s : State) : State × Nat :=
  let n := s.reg Reg.RD_INST
  let i := s.reg Reg.RD_SLOT
  let r := s.reg Reg.RD_REGION
  let ofs := s.reg Reg.RD_OFS
  if s.slotState n i = 3 ∧ !s.dramReady (s.regionEnd n i r) then ((memWait (.region n i r ofs) s).setReg Reg.RD_STATUS 1, stOK)
  else rdReadAt n i r ofs s

def execRdRead (s : State) : Host.Outcome State Fault Refusal := .next (actRdRead s).1

/-- TRG_PULSE_RECEIVED: a pulse on a line, captured at `cap` sixteenths of a tick, `width` long (R292 to R294);
the capture of the device's own pulse is ignored. -/
def execTrgPulseReceived (l : Fin 4) (cap width : Nat) (s : State) : Host.Outcome State Fault Refusal :=
  let l : Nat := l
  let t := cap * sixteenth + width + ns 10
  if !s.flag Reg.TB_CFG F.TB_CFG_EN || s.fld Reg.TB_STATUS ⟨8 + l, 1⟩ == 1 || s.ownPulse l (cap * sixteenth) || decide (t < s.now) then .next s
  else
    let s := s.advance t
    if ns 80 ≤ width ∧ width ≤ ns 200 then
      if s.tbMeasured l then .next s
      else
        let at_ := (((s.ptpAt (cap * sixteenth) : Nat) : Int) - (s.reg (Reg.TRG_DELAY l) * sixteenth : Nat)) % 2 ^ 96
        let s := s.bump (Reg.TRG_EVENTS l)
        .next (s.forEach (s.rcOnLine l) fun n s => (rcTrigger n (3 + l) at_.toNat s.now s).2)
    else if ns 20 ≤ width ∧ width ≤ ns 60 then
      .next (if s.flag Reg.TB_CFG F.TB_CFG_REF then drivePulse l (cap * sixteenth + ns 400) (ns 40) s else s)
    else .next (s.bump Reg.TRG_DISCARD)

/-- TRG_LINE_STUCK: a line stays active for more than 1 µs (R293). -/
def execTrgLineStuck (l : Fin 4) (t : Instant) (s : State) : Host.Outcome State Fault Refusal :=
  if s.flag Reg.TB_CFG F.TB_CFG_EN then .next ((s.advance t).setFld Reg.TB_STATUS ⟨8 + l, 1⟩ 1) else .next s

/-- TRG_LINE_UNSTUCK: it has been inactive for 1 µs (R293). -/
def execTrgLineUnstuck (l : Fin 4) (t : Instant) (s : State) : Host.Outcome State Fault Refusal :=
  .next ((s.advance t).setFld Reg.TB_STATUS ⟨8 + l, 1⟩ 0)

/-- TB_CAL: measures the delay of the masked lines, one at a time (R294). -/
def actTbCal (mask : Nat) (s : State) : State × Nat :=
  if s.flag Reg.TB_CFG F.TB_CFG_REF || s.tb.cal.isSome then
    (if s.tb.cal.isSome then s else s.setReg Reg.TB_CAL 3, stState)
  else (calNextLine (bitsOf 4 mask) false ((s.setReg Reg.TB_CAL 1).setFlag Reg.TB_STATUS F.TB_STATUS_CAL_BUSY true), stOK)

def execTbCal (mask : BitVec 4) (s : State) : Host.Outcome State Fault Refusal := .next (actTbCal mask.toNat s).1

/-- TB_CAL_ECHO: the echo of the pulse in progress is captured at `cap` sixteenths of a tick, within 2 µs of it (R294). -/
def execTbCalEcho (cap : Nat) (s : State) : Host.Outcome State Fault Refusal :=
  match s.tb.cal with
  | none => .next s
  | some c =>
    let t1 := cap * sixteenth
    if t1 < c.t0 ∨ c.t0 + us 2 < t1 ∨ t1 < s.now then .next s
    else .next (calRound { c with good := c.good + 1, sum := c.sum + (((t1 - c.t0) / sixteenth : Nat) : Int) - 10240 } (s.advance t1))

/-- TB_CAL_ROUND_TIMEOUT: no echo within 2 µs (R294). -/
def execTbCalRoundTimeout (t : Instant) (s : State) : Host.Outcome State Fault Refusal :=
  match s.tb.cal with
  | none => .next s
  | some c => if c.t0 + us 2 < t then .next (calRound { c with fails := c.fails + 1 } (s.advance t)) else .next s

/-- TRGCLK_RISING_EDGE: TRGCLK within 1 % of 25 MHz sets CLK_OK; 1,024 edges are averaged into TB_OFFSET (R295). How the mean
is rounded the spec does not say. -/
def execTrgclkRisingEdge (t : Instant) (s : State) : Host.Outcome State Fault Refusal :=
  if !s.flag Reg.TB_CFG F.TB_CFG_EN || s.flag Reg.TB_CFG F.TB_CFG_REF || decide (t < s.now) then .next s
  else
    let s := s.advance t
    let ok := match s.tb.clkAt with
      | some p => decide (us 4 ≤ (t - p) * 101) && decide ((t - p) * 99 ≤ us 4)
      | none => false
    let s := { s with tb := { s.tb with clkAt := some t } }.setFlag Reg.TB_STATUS F.TB_STATUS_CLK_OK ok
    if !ok then .next ({ s with tb := { s.tb with clkSum := 0, clkN := 0 } }.setReg Reg.TB_OFFSET 0)
    else
      let o := sget 10 (sput 10 (((s.ptpAt t / sixteenth : Nat) : Int) - s.reg (Reg.TRG_DELAY 0)))
      let sum := s.tb.clkSum + o
      if s.tb.clkN + 1 < 1024 then .next { s with tb := { s.tb with clkSum := sum, clkN := s.tb.clkN + 1 } }
      else
        let q := sum / 1024 + (if sum % 1024 ≠ 0 ∧ s.freeVal 1 = 1 then 1 else 0)
        let s := { s with tb := { s.tb with clkSum := 0, clkN := 0 } }
        .next (s.useFree.setReg Reg.TB_OFFSET (sput 32 q))

end Sys2Proof.Machine
end

