-- ==== Sys2Proof/Machine/EngAdmin.lean ====
section
/-!
DEFINITION. The commands that load, enable and report engines, switch the built-in law, stage and commit images, and write the
inbound mailboxes (05_octyr_engines.md, R142, R147 to R151).
-/

namespace Sys2Proof.Machine

/-- Writes to an engine's configuration that the law or the mode shuts out (R150, R151). -/
def State.engLocked (s : State) (e : Nat) : Bool :=
  if s.builtin then decide (e < 8) else bit (s.reg Reg.LAW_ENGINES) e && s.reg Reg.MODE != 0

/-! ## LOAD, ENABLE (R149, R150) -/

/-- LOAD: refused for OE0–OE7 under the law, while the engine is enabled and not faulted, and without a committed image. -/
def actEngineLoad (e : Nat) (s : State) : State × Nat :=
  let x := s.engine e
  if s.engLocked e || (s.reg (Reg.ENABLE e) == 1 && !x.faulted) || !tabGet false s.mram.hasImage e then
    (s.setReg (Reg.LOAD e) 3, stState)
  else ((s.setEngine e { x with loading := true, valid := false }).setReg (Reg.LOAD e) 1, stOK)

/-- LOAD. -/
def execEngineLoad (e : Fin 16) (s : State) : Host.Outcome State Fault Refusal := .next (actEngineLoad e s).1

/-- The committed image is read from the eMRAM; one with an uncorrectable error counts as having no valid checksum, and LOAD reports
it as it does where no image exists (Table 12-3). -/
def imageRead (e : Nat) (s : State) : State :=
  let q := s.mramCheck
  if q.1.isSome then (q.2.setEngine e { q.2.engine e with loading := false }).setReg (Reg.LOAD e) 3
  else (imageLoad e q.2).setReg (Reg.LOAD e) 2

/-- LOAD_COMPLETE: the committed image is in the SRAM, the registers are zero, ENGINE_FAULT is clear. -/
def execLoadComplete (e : Fin 16) (t : Instant) (s : State) : Host.Outcome State Fault Refusal :=
  if (s.engine e).loading then .next (imageRead e (s.advance t)) else .next s

/-- ENABLE = 1: cycles start at the first instance of ALARM after the write; in a shutdown it is held (R150, R30). It
is refused where it would raise POWER_COMMIT above BUDGET (R394). -/
def actEngineEnable (e : Nat) (s : State) : State × Nat :=
  let x := s.engine e
  if s.engLocked e || !x.valid || !s.enginePower e || s.reg (Reg.ALARM e) == 0xFF then (s, stState)
  else if x.stopping then (s.setEngine e { x with pendEnable := true }, stOK)
  else if s.reg (Reg.ENABLE e) = 1 then (s, stOK)
  else if (s.reg Reg.BUDGET : Rat) < s.commitMw (s.enabledEngines + 1) (s.reg Reg.FLOOR) then (s, stState)
  else (engEnabled e s, stOK)

def execEngineEnable (e : Fin 16) (s : State) : Host.Outcome State Fault Refusal :=
  .next (stored (Reg.ENABLE e) 1 (actEngineEnable e s))

/-- ENABLE = 0: the shutdown completes at the END or the deadline of the present cycle, at once without a cycle or in one that is past
its deadline, which is aborted (R150, R31). -/
def actEngineDisable (e : Nat) (s : State) : State × Nat :=
  let x := s.engine e
  if s.engLocked e then (s, stState)
  else if x.stopping then (s.setEngine e { x with pendEnable := false }, stOK)
  else
    let s := (s.setEngine e { x with stopping := x.inCycle, pendEnable := false }).setReg (Reg.ENABLE e) 0
    (if x.inCycle && x.late then endPhase e s else s, stOK)

def execEngineDisable (e : Fin 16) (s : State) : Host.Outcome State Fault Refusal :=
  .next (stored (Reg.ENABLE e) 0 (actEngineDisable e s))

/-! ## Status (R142, Table 5-14) -/

/-- ENGINE_STATUS_READ: at behaviour level 0 the read clears MISS. -/
def execEngineStatusRead (e : Fin 16) (s : State) : Host.Outcome State Fault Refusal :=
  if s.reg Reg.BEHAVIOUR_LEVEL = 0 then .next (s.setFlag (Reg.ENG_STATUS e) F.ENG_STATUS_MISS false) else .next s

/-- CLEAR zeroes the counters and restarts SLACK_MIN. -/
def actEngineClear (e : Nat) (s : State) : State × Nat :=
  let s := (((s.setReg (Reg.MISS_COUNT e) 0).setReg (Reg.OVERRUN_COUNT e) 0).setReg (Reg.LATE_WRITES e) 0).setReg (Reg.ENG_ECC_CORR e) 0
  (s.setEngine e { s.engine e with slackValid := false }, stOK)

def execEngineClear (e : Fin 16) (s : State) : Host.Outcome State Fault Refusal := .next (actEngineClear e s).1

/-! ## LAW_BUILTIN (R151) -/

/-- A write of LAW_BUILTIN: in BASECAMP only. -/
def actLawBuiltin (v : Nat) (s : State) : State × Nat :=
  if s.reg Reg.MODE ≠ 0 then (s, stState)
  else if v = s.reg Reg.LAW_BUILTIN then (s, stOK)
  else (refreshBases (if v = 1 then lawTake s else lawLeave s), stOK)

def execLawBuiltinSet (s : State) : Host.Outcome State Fault Refusal := .next (stored Reg.LAW_BUILTIN 1 (actLawBuiltin 1 s))
def execLawBuiltinClear (s : State) : Host.Outcome State Fault Refusal := .next (stored Reg.LAW_BUILTIN 0 (actLawBuiltin 0 s))

/-! ## Images (R148) -/

/-- The words of IMG_BLOCK as entries of the staged part. -/
def State.imgWords (s : State) (data : Bool) (a : Nat) : List (Nat × Nat) :=
  (List.range 64).flatMap fun i =>
    let w := s.reg (Reg.IMG_BLOCK i)
    if data then [(a + 2 * i, w % 65536), (a + 2 * i + 1, w / 65536)] else [(a + i, w)]

/-- IMG_WRITE: a block at an address that is a multiple of its size and lies within the part is stored; any other address writes
nothing and shows in IMG_STATUS. -/
def actImgWrite (s : State) : State × Nat :=
  let e := s.reg Reg.IMG_ENGINE
  let data := s.reg Reg.IMG_SPACE == 1
  let a := s.reg Reg.IMG_ADDR
  let n := if data then 128 else 64
  let size := if data then 16384 else 8192
  if s.builtin ∧ e < 8 then (s, stState)
  else if a % n ≠ 0 ∨ size < a + n then (s.setReg Reg.IMG_STATUS 4, stOK)
  else
    let im := tabGet {} s.mram.staged e
    let put (t : Tab Nat) : Tab Nat := (s.imgWords data a).foldl (fun t w => tabSet 0 t w.1 w.2) t
    let im : Image := if data then { im with data := put im.data } else { im with prog := put im.prog }
    ({ s with mram := { s.mram with staged := tabSet {} s.mram.staged e im } }.setReg Reg.IMG_STATUS 0, stOK)

def execImgWrite (s : State) : Host.Outcome State Fault Refusal := .next (actImgWrite s).1

/-- The bytes of an image in the order of its CRC. -/
def imageBytes (im : Image) : List Byte :=
  ((List.range 8192).flatMap fun i => toBytes 4 (tabGet 0 im.prog i)) ++ (List.range 16384).flatMap fun i => toBytes 2 (tabGet 0 im.data i)

/-- IMG_COMMIT: the staged image becomes the committed one when its CRC-32 is IMG_CRC; the staged words read zero again. -/
def actImgCommit (s : State) : State × Nat :=
  let e := s.reg Reg.IMG_ENGINE
  let im := tabGet {} s.mram.staged e
  let c := crc32 (imageBytes im)
  if s.builtin ∧ e < 8 then (s, stState)
  else if c = s.reg Reg.IMG_CRC then
    let m := s.mram
    (({ s with mram := { m with
        images := tabSet {} m.images e im, staged := tabErase m.staged e, hasImage := tabSet false m.hasImage e true } }.setReg
      Reg.IMG_STATUS 2).setReg (Reg.IMG_INFO e) c, stOK)
  else (s.setReg Reg.IMG_STATUS 3, stOK)

def execImgCommit (s : State) : Host.Outcome State Fault Refusal := .next (actImgCommit s).1

/-! ## Mailboxes (R147) -/

/-- MB_IN: the inbound word takes the value and IN_SEQ is incremented afterwards. -/
def actMbIn (m i v : Nat) (s : State) : State × Nat :=
  let p := 0x900 + 16 * m
  let s := s.setReg (Reg.MB_IN m i) v
  let s := fabricWrite (p + 8 + i) (BitVec.ofNat 32 v) s
  let n := s.load 4 (fabricAddr (p + 15)) + 1
  let s := fabricWrite (p + 15) (BitVec.ofNat 32 n) s
  (s.setReg (Reg.MB_IN_SEQ m) (n % 2 ^ 32), stOK)

def execMbInWrite (m : Fin 16) (i : Fin 6) (v : BitVec 32) (s : State) : Host.Outcome State Fault Refusal :=
  .next (actMbIn m i v.toNat s).1

end Sys2Proof.Machine
end

