-- ==== Sys2Proof/Machine/Supervision.lean ====
section
/-!
DEFINITION. Supervision and ageing (15_supervision_and_health.md): power domains, entry to standby, the budget arbiter, core voltage,
in-service test, supply and temperature monitors, ageing monitors and re-planning.
-/

namespace Sys2Proof.Machine

/-! ## Power domains (R28, R389, R390; Tables 1-6 and 1-7) -/

/-- The domain that a block's counters and status live in, by object. -/
def pdOfReg (k : Nat) : Option Nat :=
  let i := k / 256
  let b := k % 256
  if 0x2400 ≤ i ∧ i < 0x2500 ∧ !(0x2401 ≤ i ∧ i ≤ 0x2404) then some 5
  else if (0x2600 ≤ i ∧ i ≤ 0x2609 ∧ i ≠ 0x2606) ∨ i = 0x2614 ∨ (0x2730 ≤ i ∧ i < 0x2734) then some 6
  else if (0x2A02 ≤ i ∧ i ≤ 0x2A09) ∨ (i = 0x2A00 ∧ 3 ≤ b ∧ b ≤ 5) ∨ i = 0x2A42 then some 7
  else if i = 0x2300 ∧ (b = 3 ∨ b = 4) then some 9
  else if (0x2B06 ≤ i ∧ i ≤ 0x2B08) ∨ i = 0x2B11 ∨ (i = 0x2B20 ∧ b = 3) then some 10
  else if 0x2C20 ≤ i ∧ i < 0x2C30 then some (if i < 0x2C28 then 3 else 4)
  else none

/-- Counters and status: read-only objects and status words. -/
def isStatus (k : Nat) : Bool :=
  match objFind (k / 256) (k % 256) with
  | some o => o.acc == .ro || (match o.rng with | .w1c _ _ => true | _ => false)
  | none => false

/-- Counters and status of a domain are not kept (R390). -/
def pdForget (d : Nat) (s : State) : State :=
  { s with regs := s.regs.filter fun e => !(pdOfReg e.1 == some d && isStatus e.1) }

/-- The engines of PD3 or PD4. -/
def pdEngines (d : Nat) : List Nat := if d = 3 then List.range 8 else if d = 4 then (List.range 8).map (8 + ·) else []

/-- The DRAM goes into self-refresh; its contents are kept while VDDQ holds (R329). -/
def dramSleep (s : State) : State :=
  { s with memo := { s.memo with kept := true } }.setFlag Reg.DRAM_STATUS F.DRAM_STATUS_SELF_REFRESH true

/-- The DRAM interface starts: contents kept are shown by KEPT, else initialisation begins (R328, R329). -/
def dramStart (s : State) : State :=
  let s := (s.setFlag Reg.DRAM_STATUS F.DRAM_STATUS_SELF_REFRESH false).setFlag Reg.DRAM_STATUS F.DRAM_STATUS_TRAINED true
  if s.memo.kept then
    ((s.setFlag Reg.DRAM_STATUS F.DRAM_STATUS_KEPT true).setFlag Reg.DRAM_STATUS F.DRAM_STATUS_INIT_DONE true).setReg Reg.INIT_PROG 100
  else
    { s with
      mem := s.mem.filter fun c => decide (c.1 < dramBase)
      memo := { s.memo with
        initTo := s.now / 1073741824
        ecc := s.memo.ecc.filter fun e => decide (e.1 < dramBase) } }

/-- Every recorder instance that runs is shut down (R298). -/
def rcShutdowns (s : State) : State := s.forEach (List.range 4) fun n s => if (s.rc n).on then rcShutdown n s else s

/-- A domain begins to switch off: its blocks start their shutdown. -/
def pdShutdown (d : Nat) (s : State) : State :=
  let s := (s.setRegBit Reg.PD_ON d false)
  let s := { s with sup := { s.sup with pdStop := setBit s.sup.pdStop d true } }
  match d with
  | 6 => rcShutdowns s |> fun s => s.forEach (List.range 40) fun k s => if s.laneRuns k then flShutdown k s else s
  | 7 => s.forEach (List.range 64) fun k s =>
      if s.laneState k = laneIdle ∨ s.laneState k = laneLive then leaveLive k laneStopping s else s
  | 9 => dramSleep (rcShutdowns s)
  | _ => s

/-- A request to switch a domain off. -/
def pdOffBegin (d : Nat) (s : State) : State :=
  if s.regBit Reg.PD_PENDING d then s.setRegBit Reg.PD_PENDING d false
  else if bit s.sup.pdStart d then { s with sup := { s.sup with pdDis := setBit s.sup.pdDis d true } }
  else if s.regBit Reg.PD_ON d then pdShutdown d s
  else s

/-- A domain is on: its blocks with their enable set start as from off (R390). -/
def pdOnDone (d : Nat) (s : State) : State :=
  let s := { s with sup := { s.sup with pdStart := setBit s.sup.pdStart d false } }
  let s := s.setRegBit Reg.PD_ON d true
  if bit s.sup.pdDis d then pdShutdown d { s with sup := { s.sup with pdDis := setBit s.sup.pdDis d false } }
  else
    let rcs (s : State) : State := s.forEach (List.range 4) fun n s =>
      if s.rcCfg n F.RC_CFG_EN == 1 && s.rcPower then rcEnable n true s else s
    match d with
    | 3 => if s.builtin then s.forEach (List.range 8) romLoad else s
    | 5 => if s.reg Reg.ADC_EN = 1 then adcStart s else s
    | 6 => rcs (s.forEach (List.range 40) fun k s => if s.laneCfg k F.LANE_CFG_EN == 1 then flStart k s else s)
    | 7 => s.forEach (List.range 64) fun k s => if s.flag (Reg.GL_CFG k) F.GL_CFG_EN then laneEnable k s else s
    | 9 => rcs (dramStart s)
    -- until VDRV exceeds 9.5 V no driver starts (R225, R415)
    | 10 => driversStart (driversUv (s.reg Reg.VDRV ≤ 9500) s)
    | _ => s

/-- A block of a domain has not yet delivered what its shutdown delivers (Table 1-7). -/
def State.pdFlushes (s : State) (d : Nat) : Bool :=
  match d with
  | 5 => s.adcBusy
  | 6 => (List.range 40).any fun k => (s.fl k).stopping && (s.fl k).busy.isSome
  | 9 => (List.range 4).any fun n => (s.rc n).closing
  | _ => false

/-- The shutdown of a domain completes: what it does not keep is lost; a pending enable restarts it (R30, R390). -/
def pdOffDone (d : Nat) (s : State) : State :=
  if !bit s.sup.pdStop d || s.pdFlushes d then s
  else
    let s := { s with sup := { s.sup with pdStop := setBit s.sup.pdStop d false, steps := s.sup.steps.filter fun e => e.1 != d } }
    let s := s.forEach (pdEngines d) fun e s => (sramClear e s).setEngine e {}
    let s := match d with
      | 5 => adcOff s
      | 6 => (s.forEach (List.range 40) fun k s => s.setFl k {}).forEach (List.range 4) fun n s => s.setRc n {}
      | 7 => s.forEach (List.range 64) fun k s => s.setLane k {}
      | 10 => (s.forEach (List.range 8) fun n s => s.setLd n {}).forEach (List.range 4) fun n s => s.setSd n {}
      | _ => s
    let s := pdForget d s
    let s := if d = 9 then s.setFlag Reg.DRAM_STATUS F.DRAM_STATUS_SELF_REFRESH true else s
    if s.regBit Reg.PD_PENDING d then pdOnBegin d (s.setRegBit Reg.PD_PENDING d false) else s

/-- The switch-offs that R28 and R389 refuse. -/
def State.pdOffRefused (s : State) (d : Nat) : Bool :=
  match d with
  | 3 => (pdEngines 3).any (fun e => s.reg (Reg.ENABLE e) == 1) || (s.builtin && s.mode != mBASECAMP)
  | 4 => (pdEngines 4).any fun e => s.reg (Reg.ENABLE e) == 1
  | 5 => s.reg Reg.ADC_EN == 1
  | 6 => s.builtin && s.law.cbcOwned && s.mode != mBASECAMP
  | 7 => s.mode != mBASECAMP
  | 9 => (List.range 16).any fun c => s.dmaFlag c F.DMA_STATUS_BUSY &&
      (decide (dramBase ≤ (s.dma c).src) || decide (dramBase ≤ (s.dma c).dst))
  | 10 => ((List.range 8).any fun n => s.flag (Reg.LD_CFG n) F.LD_CFG_EN) || (List.range 4).any fun n => s.flag (Reg.SD_CFG n) F.SD_CFG_EN
  | _ => true

/-- The domains that PD_REQ switches. -/
def pdSwitched : List Nat := [3, 4, 5, 6, 7, 9, 10]

/-- A write of PD_REQ: refused as a whole, with its changed bits in PD_REFUSED, or acted on (R389). -/
def actPdReq (v : Nat) (s : State) : State × Nat :=
  let old := s.reg Reg.PD_REQ
  let diff := old ^^^ v
  let bad := (bitsOf 12 diff).any fun d =>
    !pdSwitched.contains d || (!bit v d && s.pdOffRefused d) || (bit v d && !(s.regBit Reg.PD_ON 1 && s.regBit Reg.PD_ON 11))
  if bad then (s.setReg Reg.PD_REFUSED diff, stState)
  else ((s.setReg Reg.PD_REQ v).forEach (bitsOf 12 diff) fun d s => if bit v d then pdOnBegin d s else pdOffBegin d s, stOK)

def execPdSwitchOn (mask : BitVec 12) (s : State) : Host.Outcome State Fault Refusal :=
  .next (actPdReq (s.reg Reg.PD_REQ ||| mask.toNat) s).1

def execPdSwitchOff (mask : BitVec 12) (s : State) : Host.Outcome State Fault Refusal :=
  .next (actPdReq (clearMask (s.reg Reg.PD_REQ) mask.toNat) s).1

/-- PD_ON_COMPLETE. -/
def execPdOnComplete (d : Fin 12) (t : Instant) (s : State) : Host.Outcome State Fault Refusal :=
  if bit s.sup.pdStart d then .next (pdOnDone d (s.advance t)) else .next s

/-! ## Entry to standby (R391) -/

/-- STANDBY: in BASECAMP with no item pending; codes stored, DRAM in self-refresh, RTC set, retention SRAM written. -/
def actStandby (s : State) : State × Nat :=
  if s.mode ≠ mBASECAMP ∨ s.reg Reg.J_PENDING ≠ 0 ∨ s.sup.standbyAt.isSome then (s.setReg Reg.STANDBY 3, stState)
  else
    let s := dramSleep (storeCodes (s.bump Reg.STANDBY_COUNT))
    let s := s.setClk { s.clk with rtc := s.time64At s.now, rtcAt := s.now }
    ({ s with sup := { s.sup with standbyAt := some s.now, retained := some (0, s.time64, s.reg Reg.STANDBY_COUNT) } }, stOK)

def execStandby (s : State) : Host.Outcome State Fault Refusal := .next (actStandby s).1

/-! ## The budget arbiter (R393 to R395) -/

/-- Whole tokens granted of a request: the tokens that the remaining power pays for. -/
def tokensFor (avail per : Rat) (req : Nat) : Nat := if per ≤ 0 then req else min req (avail / per).floor.toNat

/-- The largest request of a background rank (Table 15-1). -/
def State.rankMost (s : State) (rank : Nat) : Nat :=
  match rank with
  | 5 => 2 * ((List.range 40).filter fun k => s.laneRuns k && !s.regBit Reg.FILT_PROTECT k && !(s.law.cbcOwned && decide (k < 12))).length
  | 4 => 5 * ((List.range 4).filter fun n => (s.rc n).on).length
  | 3 => 100
  | _ => 10

/-- Grants to engines in their control phase above their floors, in ascending number: the power left. -/
def State.grantControl (s : State) (ctl : List Nat) (avail per : Rat) : Rat :=
  (List.range 16).foldl (fun a e =>
    if (s.engine e).inCycle then
      let floor : Rat := (40 * s.reg Reg.FLOOR : Rat) / 100
      let want : Rat := max 0 ((min 40 (listGet 0 ctl e) : Nat) - floor)
      a - min a (want * per)
    else a) avail

/-- Grants to the background ranks, the highest first: the mask of those without a grant. -/
def State.grantBackground (s : State) (bg : List Nat) (avail vdd vddq : Rat) : Nat :=
  ([5, 4, 3, 2, 1].foldl (fun (r : Rat × Nat) rank =>
    let per := if rank = 3 then vddq else vdd
    let req := min (s.rankMost rank) (listGet 0 bg (5 - rank))
    let got := tokensFor r.1 per req
    (r.1 - got * per, if req ≠ 0 ∧ got = 0 then setBit r.2 rank true else r.2)) (avail, 0)).2

/-- The throttle mask takes effect: a background lane that loses its grant takes a stale input, waiting rows go on (R395). -/
def throttle (m : Nat) (s : State) : State :=
  let old := s.reg Reg.THROTTLE
  let s := s.setReg Reg.THROTTLE m
  let s := s.setFlag Reg.SUP_STATUS F.SUP_STATUS_THROTTLING (m != 0)
  let s := if bit m 5 && !bit old 5 then
      s.forEach (List.range 40) fun k s => if s.laneRuns k && s.laneThrottled k then flStale k s else s
    else s
  let s := if bit m 3 = bit old 3 then s else dmaPause (bit m 3) s
  if m ≠ old then s.forEach (List.range 4) rcDrain else s

/-- ARBITER_EVALUATE with the measured draw of the fixed clients and of the device, and the requests in tokens of the engines and of
the ranks 5 to 1. -/
def execArbiterEvaluate (fixedMw powerMw : BitVec 16) (ctl bg : List Nat) (t : Instant) (s : State) :
    Host.Outcome State Fault Refusal :=
  let s := s.advance t
  let on := s.reg Reg.THROTTLE != 0
  let sum := s.sup.throttled + (if on then s.now - s.sup.arbAt else 0)
  let s := { s with sup := { s.sup with arbAt := s.now, throttled := sum, fixedMw := fixedMw.toNat } }
  let n := sum / ms 1
  let s := if n < 2 ^ 32 then s.setReg Reg.THROTTLE_MS n else (s.setReg Reg.THROTTLE_MS (s.freeVal 32)).useFree
  let s := s.setReg Reg.POWER_MEAS powerMw.toNat
  let commit := s.commitMw s.enabledEngines (s.reg Reg.FLOOR)
  let s := setOpen Reg.POWER_COMMIT 16 false commit s
  let avail := (s.reg Reg.BUDGET : Rat) - commit
  let s := if avail < 0 then s.setFlag Reg.SUP_STATUS F.SUP_STATUS_OVER_BUDGET true else s
  let vdd : Rat := (s.reg Reg.VDD_CHOSEN : Rat) / 100
  -- DRAM traffic draws from VDDQ and VDD: at which of the two its tokens are counted the spec does not say
  let vddq : Rat := if s.freeVal 1 = 0 then vdd else (s.reg (Reg.SUPPLY_MEAS 4) : Rat) / 100
  let s := s.useFree
  let left := s.grantControl ctl (max 0 avail) vdd
  let m := if s.flag Reg.SUP_STATUS F.SUP_STATUS_TJ_HOT then 0x3E else s.grantBackground bg left vdd vddq
  .next (throttle m s)

/-! ## Core voltage (R396, R437) -/

/-- VDD moves by one step. -/
def vidMove (up : Bool) (s : State) : State :=
  let v := if up then s.reg Reg.VDD_CHOSEN + 10 else s.reg Reg.VDD_CHOSEN - 10
  let s := { s with sup := { s.sup with vidAt := s.now, lowSince := none } }
  (s.setReg Reg.VDD_CHOSEN v).emit (.vid ((v - 650) / 10) s.now)

/-- VID_STEP: no more than one step per 1 ms, within [VDD_FLOOR, VDD_MAX]. -/
def execVidStep (t : Instant) (s : State) : Host.Outcome State Fault Refusal :=
  if s.phase ≠ .running ∨ t < s.sup.vidAt + ms 1 then .next s
  else
    let s := s.advance t
    let step := s.stepMeas * 100
    let target := s.reg Reg.STEP_SLOW * (100 - s.reg Reg.GUARD_PCT)
    let v := s.reg Reg.VDD_CHOSEN
    let low := sinceWhen s.sup.lowSince s.now (decide (step * 100 < target * 95))
    let s := { s with sup := { s.sup with lowSince := low } }
    if v < s.reg Reg.VDD_FLOOR && decide (v + 10 ≤ s.reg Reg.VDD_MAX) then .next (vidMove true s)
    else if s.reg Reg.VDD_MAX < v then .next (vidMove false s)
    else if target < step then
      if v + 10 ≤ s.reg Reg.VDD_MAX then .next (vidMove true s)
      else
        let s := s.setFlag Reg.SUP_STATUS F.SUP_STATUS_GUARD_LOST true
        .next (if s.reg Reg.STEP_SLOW * 100 < step then s.setFlag Reg.SUP_STATUS F.SUP_STATUS_SLOW_CORNER true else s)
    else if heldFor low (sec 10) s.now && decide (s.reg Reg.VDD_FLOOR + 10 ≤ v) then .next (vidMove false s)
    else .next s

/-! ## In-service test (R398, R399; Table 15-2) -/

/-- An item may run: enabled and not throttled. -/
def State.istRuns (s : State) (item : Nat) : Bool := s.phase == .running && s.regBit Reg.IST_EN item && !s.throttled 1

/-- IST_STEP. -/
def execIstStep (r : IstStep) (s : State) : Host.Outcome State Fault Refusal :=
  match r with
  | .march a n bad =>
    let lo := s.reg Reg.IST_SRAM_LO
    if s.istRuns 0 && lo != 0 && decide (lo ≤ a) && decide (a + n ≤ s.reg Reg.IST_SRAM_HI) && s.memCode a == some 0
        && (s.memSpan a).any (fun x => decide (a + n ≤ x.2)) then
      -- the march leaves in these words what the spec does not state
      let s := s.forEach (List.range n) fun i s =>
        (setEcc (a + i) 0 { s with mem := memSet s.mem (a + i) (BitVec.ofNat 8 (s.freeVal 8)) }).useFree
      match bad with
      | some x => .next (istFail 0 x (s.setReg Reg.IST_FAIL_ADDR (x % 2 ^ 40)))
      | none => .next s
    else .next s
  | .spareRow a bad =>
    if s.istRuns 0 && bad && !s.sup.spareRows.contains a then
      .next (istFail 0 a ({ s with sup := { s.sup with spareRows := a :: s.sup.spareRows } }.setReg Reg.IST_FAIL_ADDR (a % 2 ^ 40)))
    else .next s
  | .segment e g bad =>
    if s.istRuns 1 && s.enginePower e && !(s.engine e).inCycle then
      let i := 64 * e.val + g
      let was := tabGet false s.sup.segBad i
      let s := s.setEngine e { s.engine e with selftest := true }
      let s := { s with sup := { s.sup with segBad := tabSet false s.sup.segBad i bad } }
      .next (if bad && was then istFail 1 e (s.setRegBit Reg.ST_FAILED e true) else s)
    else .next s
  | .slice k err =>
    if s.istRuns 2 && s.sliceState k != sliceOff && s.sliceState k != sliceRetired then
      let bad := decide (8 < err)
      let n := if bad then tabGet 0 s.adc.testFails k + 1 else 0
      let s := s.setAdc { s.adc with testFails := tabSet 0 s.adc.testFails k n }
      let s := if bad then istFail 2 k s else s
      .next (if 2 ≤ n then sliceRetire k s else s)
    else .next s
  | .gateCheck k =>
    if s.istRuns 3 && s.mode == mARMED && s.laneState k == laneLive && (s.lane k).checkLeft == 0 then
      let l := s.lane k
      .next (s.setLane k { l with
        checkLeft := 1024, waiting := l.waiting ++ [{ reg := 0, write := false, value := 0, kind := .check, at_ := s.now }] })
    else .next s
  | .pass i =>
    if s.istRuns i then .next ({ s with sup := { s.sup with istAt := tabSet 0 s.sup.istAt i s.now } }.bump (Reg.IST_PASS i)) else .next s
  | .abandoned => .next s

/-- IST_PERIOD_EXPIRY: an enabled item has not completed its pass in time. -/
def execIstPeriodExpiry (item : Fin 4) (t : Instant) (s : State) : Host.Outcome State Fault Refusal :=
  if s.regBit Reg.IST_EN item && decide (tabGet 0 s.sup.istAt item + sec (s.reg Reg.IST_PERIOD) ≤ t) then
    .next ((s.advance t).setFlag Reg.SUP_STATUS F.SUP_STATUS_IST_LATE true)
  else .next s

/-! ## Supplies and die temperature (R401, R402) -/

/-- Whether a sample lies in the warning window of its supply (Table 15-4); VDDQ has two rails. -/
def State.supplyOk (s : State) (i mv mv2 : Nat) : Bool :=
  match i with
  | 0 => decide ((s.reg Reg.VDD_CHOSEN * 95 ≤ mv * 100) ∧ mv * 100 ≤ s.reg Reg.VDD_CHOSEN * 105)
  | 1 => decide (1710 ≤ mv ∧ mv ≤ 1890)
  | 2 => decide (1710 ≤ mv ∧ mv ≤ 1890)
  | 3 => decide (3135 ≤ mv ∧ mv ≤ 3465)
  | 4 => decide (570 ≤ mv ∧ mv ≤ 650 ∧ 1060 ≤ mv2 ∧ mv2 ≤ 1170)
  | _ => decide (2000 ≤ mv ∧ mv ≤ 3600)

/-- SUPPLY_SAMPLE: a sample of a supply in mV (`mv2` is the second rail of VDDQ); the filtered state changes at the 16th consecutive
sample on the other side. -/
def execSupplySample (i : Fin 6) (mv mv2 : BitVec 16) (t : Instant) (s : State) : Host.Outcome State Fault Refusal :=
  let s := s.advance t
  -- which of VDDQ's rails SUPPLY_MEAS shows the spec does not say
  let s := if i.val = 4 then (s.setReg (Reg.SUPPLY_MEAS 4) (if s.freeVal 1 = 0 then mv.toNat else mv2.toNat)).useFree
    else s.setReg (Reg.SUPPLY_MEAS i) mv.toNat
  let out := !s.supplyOk i mv.toNat mv2.toNat
  let was := bit s.sup.supOut i
  let n := if out = was then 0 else tabGet 0 s.sup.supRun i + 1
  if n < 16 then .next { s with sup := { s.sup with supRun := tabSet 0 s.sup.supRun i n } }
  else
    let s := { s with sup := { s.sup with supRun := tabSet 0 s.sup.supRun i 0, supOut := setBit s.sup.supOut i out } }
    .next (if out then (s.setFlag Reg.SUP_STATUS F.SUP_STATUS_SUPPLY_WARN true).note noteSupply [i, mv.toNat, mv2.toNat] else s)

/-- TJ_SAMPLE: the eight die sensors in 0.1 °C. -/
def execTjSample (tj : List (BitVec 16)) (s : State) : Host.Outcome State Fault Refusal :=
  if tj.length ≠ 8 then .next s
  else
    let s := s.forEach (List.range 8) fun i s => s.setReg (Reg.TJ i) (listGet 0#16 tj i).toNat
    let lim := s.sreg 16 Reg.TJ_HOT
    if tj.any fun x => decide (lim < x.toInt) then .next (s.setFlag Reg.SUP_STATUS F.SUP_STATUS_TJ_HOT true)
    else if tj.all fun x => decide (x.toInt ≤ lim - 50) then .next (s.setFlag Reg.SUP_STATUS F.SUP_STATUS_TJ_HOT false)
    else .next s

/-! ## Ageing (R404, R406 to R410) and re-planning -/

/-- The step time that the ring of a domain gives now, with those that still count (R129). -/
def ringStep (d v : Nat) (s : State) : State :=
  if s.regBit Reg.PD_ON d then
    let own := s.sup.steps.filter fun e => e.1 == d
    let other := s.sup.steps.filter fun e => e.1 != d
    { s with sup := { s.sup with steps := inSecond s.now ((d, s.now, v) :: own) ++ other } }
  else s

/-- RING_MEASURE: the loss of each ring, and the step times in ps that the PD3 and PD4 rings give. -/
def execRingMeasure (loss : List (BitVec 16)) (step : BitVec 16 × BitVec 16) (t : Instant) (s : State) : Host.Outcome State Fault Refusal :=
  if loss.length ≠ 5 then .next s
  else
    let s := (s.advance t).forEach (List.range 5) fun i s => s.setReg (Reg.RING_LOSS i) (listGet 0#16 loss i).toNat
    .next (ringStep 4 step.2.toNat (ringStep 3 step.1.toNat s))

/-- A word line that fails is copied to a spare and retired (R406, R413). The item number of its log entry the spec does not give: a
free value. -/
def retireLine (l : Nat) (s : State) : State :=
  if s.reg Reg.WL_RETIRED < 256 then
    let s := s.setReg Reg.WL_RETIRED (s.reg Reg.WL_RETIRED + 1)
    let s := (s.setFlag Reg.J_STATUS F.J_STATUS_ONE_COPY true).note noteWordLine [l, 6, s.reg Reg.WL_RETIRED]
    let s := (pushLog Reg.REPLAN_LOG 16 (s.freeVal 8 * 2 ^ 24 + 6 * 2 ^ 16 + s.reg Reg.WL_RETIRED) s).useFree
    let s := pushLog Reg.REPLAN_TIME 16 s.time64 s
    if 256 - s.reg Reg.WL_RETIRED < 32 then s.setFlag Reg.SUP_STATUS F.SUP_STATUS_SPARES_LOW true else s
  else s

/-- MRAM_MARGIN_CHECK: the smallest margin found in mV and the word lines that fail. -/
def execMramMarginCheck (margin : BitVec 16) (lines : List Nat) (t : Instant) (s : State) : Host.Outcome State Fault Refusal :=
  .next (((s.advance t).setReg Reg.MRAM_MARGIN margin.toNat).forEach lines retireLine)

/-- THERMAL_ESTIMATE: one millisecond of every monitored module. -/
def execThermalEstimate (t : Instant) (s : State) : Host.Outcome State Fault Refusal :=
  .next ((s.advance t).forEach (List.range 64) thermalStep)

/-- DVDT_DRIFT_TEST: the next 64 turn-offs of the monitored position go out with CODE_BASE. -/
def execDvdtDriftTest (k : Fin 64) (t : Instant) (s : State) : Host.Outcome State Fault Refusal :=
  if s.driftDue k t then
    let s := s.advance t
    .next (s.setMod k { s.mod k with toSend := 64, toReport := 64, dn := 0, dsum := 0, testAt := some s.now })
  else .next s

/-- MOD_BASELINE. -/
def actModBaseline (mask : Nat) (s : State) : State × Nat := (s.forEach (bitsOf 64 mask) baselineReset, stOK)
def execModBaseline (mask : BitVec 64) (s : State) : Host.Outcome State Fault Refusal := .next (actModBaseline mask.toNat s).1

/-- REPLAN_EVALUATE, with the measured VBST droop rate of each local driver where there is one. -/
def execReplanEvaluate (droops : List (Option Nat)) (t : Instant) (s : State) : Host.Outcome State Fault Refusal :=
  .next (replan droops (s.advance t))

end Sys2Proof.Machine
end

