-- ==== Sys2Proof/Machine/DictOps.lean ====
section
/-!
DEFINITION. What a write of an object does beside storing its value, and in which states it is refused: one operation per group of
indexes, each answering the state after the write and a status of Table 13-3. The range of the value has been checked before.
-/

namespace Sys2Proof.Machine

/-- The object takes the value; a status word loses the flags written 1 (R12). -/
def plain (k v : Nat) (s : State) : State := s.setReg k (writeResult k (s.reg k) v)

/-- The write has an effect where a condition holds, else it is refused with STATE. -/
def writeIf (c : Bool) (s' s : State) : State × Nat := if c then (s', stOK) else (s, stState)

/-- The device is in BASECAMP. -/
def State.inBase (s : State) : Bool := s.mode == mBASECAMP

/-- Value of a signed object of 16 bits. -/
def s16 (v : Nat) : Int := sget 16 v

/-! ## Levels (Table 13-2) and existence -/

/-- The row of an object, subindex 00 of an index with subindices above 00 included (13, "Structure"). -/
def objAt (k : Nat) : Option Obj :=
  match objFind (k / 256) (k % 256) with
  | some o => some o
  | none =>
    let n := objHighest (k / 256)
    if k % 256 = 0 ∧ n ≠ 0 then some ⟨k / 256, 1, 0, 1, .u8, .const, .c n, .all⟩ else none

/-- Access levels (R346). -/
def lvOBSERVE : Nat := 0
def lvOPERATE : Nat := 1
def lvENGINEER : Nat := 2
def lvSERVICE : Nat := 3

/-- The minimum level for a write. -/
def writeLevel (k : Nat) : Nat :=
  let i := k / 256
  if 0x2F00 ≤ i ∧ i ≤ 0x2FFF then lvSERVICE
  else if i = 0x3200 ∨ k = Reg.MODE_CMD ∨ k = Reg.BRK_STATE ∨ k = Reg.CAD_CMD ∨ k = Reg.ISLANDED then lvOPERATE
  else if 0x2D00 ≤ i ∧ i ≤ 0x2D0F ∧ 9 ≤ k % 256 ∧ k % 256 ≤ 0x0E then lvOPERATE
  else lvENGINEER

/-! ## PDO mapping (R354) -/

/-- The ports that a PDO's controllers are (Table 13-1), as levels. -/
def State.pdoLevel (s : State) (ports : Nat) : Nat :=
  (bitsOf 4 ports).foldl (fun m c => min m (s.reg (Reg.PORT_LEVEL (4 + c)))) lvSERVICE

/-- Whether an entry maps a whole object: for an RPDO one with access RW that every port of the PDO may write. -/
def mapOk (rx : Bool) (level e : Nat) : Bool :=
  if e = 0 then true
  else
    let k := e / 256
    match objAt k with
    | some o => tyBits o.ty == e % 256 && tyBits o.ty != 0 && (!rx || (o.acc == .rw && decide (writeLevel k ≤ level)))
        && o.acc != .wo
    | none => false

/-- The mapped objects of a PDO, in order: `base` is the key of its sub 00. -/
def State.pdoEntries (s : State) (base : Nat) : List Nat :=
  (List.range (s.reg base)).map fun i => s.reg (base + 1 + i)

/-- The mapping as a whole: at most 64 bytes, every entry of an RPDO within the levels of its ports. -/
def State.mappingOk (s : State) (rx : Bool) (i : Nat) : Bool :=
  let l := s.pdoEntries (if rx then Reg.RPDO_MAP i 0 - 1 else Reg.TPDO_MAP i 0 - 1)
  decide ((l.map fun e => e % 256).foldl (· + ·) 0 ≤ 512)
    && l.all (mapOk rx (s.pdoLevel (s.reg (Reg.PDO_PORTS (if rx then i else 16 + i)))))

/-- 0x1400–0x1AFF: mapping changes only while bit 31 of the COB-ID is set; a COB-ID write starts the PDO's timing anew. -/
def writePdo (k v : Nat) (s : State) : State × Nat :=
  let i := k / 256 % 16
  let p := plain k v s
  match k / 65536 with
  | 0x16 => writeIf (bit (s.reg (Reg.RPDO_COBID i)) 31 && mapOk true (s.pdoLevel (s.reg (Reg.PDO_PORTS i))) (if k % 256 = 0 then 0 else v)
      && p.mappingOk true i) p s
  | 0x1A => writeIf (bit (s.reg (Reg.TPDO_COBID i)) 31 && mapOk false lvSERVICE (if k % 256 = 0 then 0 else v) && p.mappingOk false i) p s
  | 0x14 => (if k % 256 = 1 then p.setNet { p.net with rpdos := tabSet {} p.net.rpdos i {} } else p, stOK)
  | _ => (if k % 256 = 1 then p.setNet { p.net with tpdos := tabSet {} p.net.tpdos i {} } else p, stOK)

/-! ## 0x2100–0x21FF: power, budget, ageing (R389, R394, R397, R411) -/

def writePower (k v : Nat) (s : State) : State × Nat :=
  let p := plain k v s
  let lt (a b : Nat) : Bool := decide (p.reg a < p.reg b)
  if k = Reg.PD_REQ then actPdReq v s
  else if k = Reg.BUDGET then writeIf (decide (s.commitMw s.enabledEngines (s.reg Reg.FLOOR) ≤ (v : Rat))) p s
  else if k = Reg.FLOOR then
    writeIf (decide (v ≤ s.reg Reg.FLOOR) || decide (s.commitMw s.enabledEngines v ≤ (s.reg Reg.BUDGET : Rat))) p s
  else if k = Reg.VDD_MIN then writeIf (!lt Reg.VDD_MAX Reg.VDD_MIN) (vddMinWritten p) s
  else if k = Reg.VDD_MAX then writeIf (!lt Reg.VDD_MAX Reg.VDD_MIN) (vddMaxWritten p) s
  else if k = Reg.DRIFT_START ∨ k = Reg.DRIFT_END then writeIf (lt Reg.DRIFT_START Reg.DRIFT_END) p s
  else if k = Reg.LIFE_START ∨ k = Reg.LIFE_END then writeIf (lt Reg.LIFE_START Reg.LIFE_END) p s
  else if k = Reg.FSW_REF ∨ k = Reg.FSW_FLOOR then (fswBound p, stOK)
  else (p, stOK)

/-! ## 0x2200–0x22FF: clocks and time (R317, R323) -/

def writeClock (k v : Nat) (s : State) : State × Nat :=
  let i := k / 256
  let p := plain k v s
  if i = 0x2230 then actPtpConfig (k % 256 - 1) v s
  else if 0x2240 ≤ i ∧ i < 0x2250 then
    let n := i - 0x2240
    if k % 256 = 1 then actTaCfg n v s
    else writeIf (!(s.builtin && decide (n < 3)) && (k == Reg.TA_STATUS n || !s.flag (Reg.TA_CFG n) F.TA_CFG_EN)) p s
  else (p, stOK)

/-! ## 0x2300–0x23FF: memory and DMA (R340, R344) -/

def writeDma (c k v : Nat) (s : State) : State × Nat :=
  let busy := s.dmaFlag c F.DMA_STATUS_BUSY
  let old := s.reg k
  let p := plain k v s
  match k % 256 with
  | 1 =>
    -- every write other than a change of EN, and of EN alone (R344)
    if busy && (v == old || fset F.DMA_CFG_EN v 0 != fset F.DMA_CFG_EN old 0) then (s, stState)
    else if fget F.DMA_CFG_EN old = 1 ∧ fget F.DMA_CFG_EN v = 0 then ((actDmaDisable c s).1.setReg k v, stOK)
    else (p, stOK)
  | 7 => (p, stOK)
  | _ => writeIf (!busy) p s

def writeMemory (k v : Nat) (s : State) : State × Nat :=
  if 0x2320 ≤ k / 256 ∧ k / 256 < 0x2330 then writeDma (k / 256 - 0x2320) k v s else (plain k v s, stOK)

/-! ## 0x2400–0x25FF: acquisition (R230, R246, R251, R255) -/

/-- SQ_CFG, triggers and entries of a group. -/
def writeSeq (n k v : Nat) (s : State) : State × Nat :=
  let p := plain k v s
  let on := s.flag (Reg.SQ_CFG n) F.SQ_CFG_EN
  let lens (x : Nat) : Nat := fset F.SQ_CFG_CONT (fset F.SQ_CFG_EN x 0) 0
  let fits := p.stepsOk (p.seqEntries (2 * n)) && p.stepsOk (p.seqEntries (2 * n + 1))
  if k = Reg.SQ_STATUS n then (p, stOK)
  else if s.builtin && decide (n < 2) then (s, stState)
  else if k = Reg.SQ_CFG n then writeIf ((!on || lens v == lens (s.reg k)) && fits) p s
  else writeIf ((!on || v == s.reg k) && fits) p s

def writeAdc (k v : Nat) (s : State) : State × Nat :=
  let i := k / 256
  let p := plain k v s
  if k = Reg.ADC_EN then (if v = 1 then actAdcEnable s else actAdcDisable s)
  else if k = Reg.CAL_EN then (calNext p.now p, stOK)
  else if i = 0x2408 then actTrgCfg (k % 256 - 1) v s
  else if i = 0x2409 then (p.setAdc { p.adc with trgRef := tabSet 0 p.adc.trgRef (k % 256 - 1) s.now }, stOK)
  else if 0x2410 ≤ i ∧ i < 0x2418 then writeSeq (i - 0x2410) k v s
  else if 0x2420 ≤ i ∧ i < 0x2428 then writeSeq (i - 0x2420) k v s
  else if 0x2430 ≤ i ∧ i < 0x2438 then writeSeq (i - 0x2430) k v s
  else if i = 0x2444 then
    -- ISEL = 0 ends a test; OW_PERIOD runs from the instant at which the test of the input is enabled (R242, R243)
    let a := k % 256 - 1
    let p := if fget F.OW_CFG_ISEL v = 0 then p.setAdc { p.adc with ow := tabSet none p.adc.ow a none }
      else if s.fld k F.OW_CFG_ISEL = 0 then p.setAdc { p.adc with owDone := tabSet 0 p.adc.owDone a s.now }
      else p
    (p, stOK)
  else if i = 0x2443 then
    -- STALE_TO acts from the next result of the input: until then the value that was in effect does (R255)
    let a := k % 256 - 1
    ((if (tabGet none s.adc.staleOld a).isSome then p
      else p.setAdc { p.adc with staleOld := tabSet none p.adc.staleOld a (some (s.reg k)) }), stOK)
  else if i = 0x2480 then actSdcCfg (k % 256 - 1) v s
  else if i = 0x2490 then
    let d := k % 256 - 1
    let named := s.reg Reg.CBC_EN == 1 && (List.range 12).any fun j => s.reg (Reg.CBC_SRC j) == d
    let on := s.flag k F.SDI_CFG_EN
    writeIf (!(named && v != s.reg k) && (!on || v == fset F.SDI_CFG_EN (s.reg k) 0)) (sdiRefresh p) s
  else (p, stOK)

/-! ## 0x2600–0x26FF: filters (R272 to R274) -/

def writeFilter (k v : Nat) (s : State) : State × Nat :=
  if k / 256 = 0x2601 then actLaneCfg (k % 256 - 1) v s
  else if k / 256 = 0x2613 then writeIf (!s.lawFl (k % 256 - 1)) (plain k v s) s
  else (plain k v s, stOK)

/-! ## 0x2700–0x27FF: recorder (R299) -/

def writeRecorder (k v : Nat) (s : State) : State × Nat :=
  let i := k / 256
  let b := k % 256
  let p := plain k v s
  if 0x2710 ≤ i ∧ i < 0x2714 then
    let n := i - 0x2710
    if b = 1 then actRcCfg n v s
    else if 0x10 ≤ b ∧ b < 0x16 then (condReset n ((b - 0x10) / 3) p, stOK)
    else writeIf (!(s.flag (Reg.RC_CFG n) F.RC_CFG_EN && decide (b < 0x10))) p s
  else if 0x2720 ≤ i ∧ i < 0x2724 then writeIf (!s.flag (Reg.RC_CFG (i - 0x2720)) F.RC_CFG_EN) p s
  else if k = Reg.TB_CFG then writeIf s.tb.cal.isNone p s
  else (p, stOK)

/-! ## 0x2800–0x29FF: the PWM generator (R159, R182) -/

/-- The carrier of a channel is stopped. -/
def State.chStopped (s : State) (c : Nat) : Bool := !(s.carrier (s.chCarrier c)).running

/-- A write of PAIR_DT: DT acts for each channel at the next wrap of its carrier, or at once with the carrier stopped; a LIVE gate unit gets it again (R194). -/
def writePairDt (p v : Nat) (s : State) : State × Nat :=
  let k := Reg.PAIR_DT p
  let law := s.builtin && decide (p < 48)
  let stopped := s.chStopped (2 * p) && s.chStopped (2 * p + 1)
  let legOk := if law then fget F.PAIR_DT_LEG v == 1
    else fget F.PAIR_DT_LEG v == s.fld k F.PAIR_DT_LEG || stopped
  let s' := s.setReg k v
  let s' := s'.forEach ((pairChans p).filter s.chStopped) fun c s =>
    { s with pwm := { s.pwm with dtAct := tabSet 0 s.pwm.dtAct c (v % 2 ^ 18) } }
  writeIf (legOk && (!law || s.inBase)) (requestSetup (p / 2) (1 + p % 2) s') s

/-- A write of CH_MINPULSE. -/
def writeMinPulse (c v : Nat) (s : State) : State × Nat :=
  let s' := s.setReg (Reg.CH_MINPULSE c) v
  let s' := if s.chStopped c then
      let x := s'.chan c
      let s'' := s'.setChan c { x with minpulse := v }
      if v / 2 ^ 30 = x.minpulse / 2 ^ 30 then s'' else zeroCarries c s''
    else s'
  writeIf (!(s.builtin && decide (c < 96)) || s.inBase) s' s

/-- A write of TRIP_MAP: a trip fault that is set forces the channels it now maps. -/
def writeTripMap (i j v : Nat) (s : State) : State × Nat :=
  let old := s.reg (Reg.TRIP_MAP i j)
  let s' := s.setReg (Reg.TRIP_MAP i j) v
  let s' := if s.regBit Reg.TRIP_FAULT i then forceOffAll ((bitsOf 32 (clearMask v old)).map (32 * j + ·)) s' else s'
  writeIf (!(s.builtin && decide (j < 3)) || s.inBase) s' s

def writePwm (k v : Nat) (s : State) : State × Nat :=
  let i := k / 256
  let n := k % 256 - 1
  let c (base : Nat) : Nat := (i - base) * 128 + n
  let p := plain k v s
  if i = 0x2804 then
    let g := s.cgGroup n
    writeIf (!(s.builtin && decide (n < 10)) && !(s.carrier n).running && (fget F.CG_CFG_GROUP v == g || s.lgRef g != n)) p s
  else if i = 0x2805 then
    let p := if v = s.reg k then p else p.setCarrier n { p.carrier n with evtFrom := s.la }
    writeIf (!(s.builtin && decide (n < 10))) p s
  else if i = 0x280A then writeIf (!(s.builtin && n == 0) && s.cgGroup (fget F.LG_CFG_REF v) == n) p s
  else if i = 0x2810 ∨ i = 0x2811 then writeMinPulse (c 0x2810) v s
  else if i = 0x2812 ∨ i = 0x2813 then
    writeIf (!(s.builtin && decide (c 0x2812 < 96)) && s.chStopped (c 0x2812) && !(s.carrier (fget F.CH_CFG_CARRIER v)).running) p s
  else if i = 0x2818 then writePairDt n v s
  else if i = 0x2820 ∨ i = 0x2821 then writeIf (!(decide (c 0x2820 < 48) && s.builtin && (s.law.cbcOwned || s.reg Reg.CBC_EN == 1))) p s
  else if i = 0x2824 then actForceOff n v s
  else if i = 0x2840 then actTripCfg n v s
  else if 0x2850 ≤ i ∧ i < 0x2870 then writeTripMap (i - 0x2850) n v s
  else (p, stOK)

/-! ## 0x2A00–0x2BFF: gate links and drivers (R20, R194, R214, R218, R223, R226) -/

/-- A write of GL_CFG. -/
def writeGlCfg (k v : Nat) (s : State) : State × Nat :=
  let r := Reg.GL_CFG k
  let old := s.reg r
  let law := s.builtin && decide (k < 24)
  let free (x : Nat) : Nat := fset ⟨1, 3⟩ (fset F.GL_CFG_PROFILE (fset F.GL_CFG_TRAIN_EN x 0) 0) 0
  if law && (free v != free old || !s.inBase) then (s, stState)
  else
    let ch (f : Fld) : Bool := fget f v != fget f old
    let s := s.setReg r (fset F.GL_CFG_EN v (fget F.GL_CFG_EN old))
    let s := if ch F.GL_CFG_VON_POS || ch F.GL_CFG_VON_DLY then requestSetup k 3 s else s
    let s := if ch F.GL_CFG_PROFILE then scaleBound k (freezeTrainer k (requestSetup k 4 s)) else s
    let s := if ch F.GL_CFG_PROFILE || ch F.GL_CFG_TRAIN_EN then refreshCodes k s else s
    (if ch F.GL_CFG_EN then laneSetEn k (fget F.GL_CFG_EN v == 1) s else s, stOK)

/-- A write of a trainer profile: the trainers of its lanes start a new block, their codes stay within the bounds (R214, R27). -/
def writeProfile (n k v : Nat) (s : State) : State × Nat :=
  let p := plain k v s
  let lanes := (List.range 64).filter fun j => s.laneProfile j == n
  let p := if k = Reg.SCALE_MIN n then p.forEach lanes scaleBound else p
  let p := p.forEach lanes fun j s =>
    let s := refreshCodes j (freezeTrainer j s)
    if k = Reg.IMIN n then requestSetup j 4 s else s
  writeIf (decide (p.reg (Reg.CODE_MIN n) ≤ p.reg (Reg.CODE_MAX n))) p s

def writeGate (k v : Nat) (s : State) : State × Nat :=
  let i := k / 256
  if k = Reg.LEAD then writeIf (s.inBase || s.mode == mARMED) (lawLead (plain k v s)) s
  else if i = 0x2A01 then writeGlCfg (k % 256 - 1) v s
  else if 0x2A20 ≤ i ∧ i < 0x2A24 then writeProfile (i - 0x2A20) k v s
  else (plain k v s, stOK)

def writeDriver (k v : Nat) (s : State) : State × Nat :=
  let n := k % 256 - 1
  let old := s.reg k
  let p := plain k v s
  if k / 256 = 0x2B00 then
    let ch (f : Fld) : Bool := fget f v != fget f old
    if fget F.LD_CFG_EN old = 1 ∧ (ch F.LD_CFG_SRC ∨ ch F.LD_CFG_REFRESH_EN) then (s, stState)
    else
      let s := if ch F.LD_CFG_MODE || ch F.LD_CFG_SRC then ldModeTake n p else p
      (if ch F.LD_CFG_EN then (if fget F.LD_CFG_EN v = 1 then ldEnable n s else ldDisable n s) else s, stOK)
  else if k / 256 = 0x2B10 then
    let s := if fget F.SD_CFG_EN v = fget F.SD_CFG_EN old then p
      else if fget F.SD_CFG_EN v = 1 then sdEnable n p else sdDisable n p
    (sdApply n s, stOK)
  else (p, stOK)

/-! ## 0x2C00–0x2DFF: engines (R147, R150, R151) -/

def writeEngine (k v : Nat) (s : State) : State × Nat :=
  let i := k / 256
  let b := k % 256
  let p := plain k v s
  if k = Reg.LAW_BUILTIN then actLawBuiltin v s
  else if 0x2C10 ≤ i ∧ i < 0x2C20 then
    let e := i - 0x2C10
    if b = 1 then (if v = 1 then actEngineEnable e s else actEngineDisable e s)
    else writeIf (!s.engLocked e && (b == 5 || s.reg (Reg.ENABLE e) == 0)) p s
  else if i = 0x2C30 then
    writeIf (!(s.builtin && (if k = Reg.IMG_ENGINE then decide (v < 8) else decide (s.reg Reg.IMG_ENGINE < 8)))) p s
  else if 0x2D00 ≤ i ∧ i < 0x2D10 then actMbIn (i - 0x2D00) (b - 9) v s
  else if 0x2C20 ≤ i ∧ i < 0x2C30 ∧ b = 1 then
    -- at behaviour level 0 MISS is cleared by the read of its status object, not by a written 1 (R142, R433)
    (plain k (if s.level1 then v else fset F.ENG_STATUS_MISS v 0) s, stOK)
  else (p, stOK)

/-! ## 0x2E00, 0x2F00: pair and ports (R347, R387, R388) -/

/-- A change of PAIR_EN: the device waits without the baton, or is a single device that holds its committed number, else claims one. -/
def pairEnable (v : Nat) (s : State) : State :=
  if v = s.reg Reg.PAIR_EN then s
  else
    let s := setSynced false (s.setReg Reg.PAIR_EN v)
    if v = 1 then refreshBatonTx (setPairState pWAITING { s with holds := false })
    else
      let s := setPairState pSINGLE s
      if s.reg Reg.BATON_HELD ≠ 0 ∧ s.reg Reg.BATON_KNOWN ≤ s.reg Reg.BATON_HELD then refreshBatonTx { s with holds := true }
      else startClaim 11 s

def writePair (k v : Nat) (s : State) : State × Nat :=
  if k = Reg.PAIR_EN then writeIf s.inBase (pairEnable v s) s
  else if k = Reg.HB_ALARM ∨ k = Reg.VEC_DIV then writeIf s.inBase (plain k v s) s
  else (plain k v s, stOK)

/-! ## 0x3000–0x36FF: the law, modes, black start and cadence (R40, R41, R47, R63, R73, R79, R93, R121) -/

/-- A profile point lies between its neighbours (R79). -/
def State.pointOk (s : State) (i v : Nat) : Bool :=
  (i == 0 || decide (s.reg (Reg.PT_TIME (i - 1)) ≤ v)) && (i == 5 || decide (v ≤ s.reg (Reg.PT_TIME (i + 1))))

/-- CBC_EN = 1 needs a source for every phase of every in-service line thread. -/
def State.cbcReady (s : State) : Bool :=
  (List.range 4).all fun t => !s.threadIn t || (List.range 3).all fun p => s.reg (Reg.CBC_SRC (3 * t + p)) != 0xFF

def writeLaw (k v : Nat) (s : State) : State × Nat :=
  let i := k / 256
  let p := plain k v s
  if i = 0x3000 ∨ i = 0x3001 then actBase (i - 0x3000) (k % 256 - 1) v s
  else if k = Reg.THREAD_MASK then writeIf s.inBase (refreshStaged p) s
  else if isLawParam k then (refreshStaged p, stOK)
  else if k = Reg.I_LIM ∨ k = Reg.I_LIM_FLOOR then
    writeIf (decide (s16 (p.reg Reg.I_LIM_FLOOR) ≤ s16 (p.reg Reg.I_LIM))) (limitBound (s.reg Reg.I_LIM) p) s
  else if i = 0x3440 ∧ 1 ≤ k % 256 ∧ k % 256 ≤ 6 then writeIf (s.pointOk (k % 256 - 1) v) p s
  else if k = Reg.LAW_ENGINES ∨ k = Reg.LAW_GROUPS then writeIf (!s.builtin && s.inBase) p s
  else if k = Reg.CBC_EN then writeIf (s.inBase && (v == 0 || s.cbcReady)) p s
  else if i = 0x3461 then writeIf s.inBase p s
  else if k = Reg.BRK_STATE then (p.setLaw { p.law with brkAt := p.now }, stOK)
  else if i = 0x3604 then writeIf s.inBase p s
  else if k = Reg.UNIT_ID ∨ k = Reg.PEER_MASK then writeIf (s.inBase || s.mode == mARMED) p s
  else if k = Reg.CAD_EN then actCadEn v s
  else (p, stOK)

/-! ## 0x2000, 0x3700: compatibility and networks (R365, R432) -/

/-- BEHAVIOUR_LEVEL: in BASECAMP, and not in a pair. -/
def actLevel (v : Nat) (s : State) : State × Nat :=
  if !valueOk Reg.BEHAVIOUR_LEVEL v then (s, stRange)
  else writeIf (s.inBase && s.reg Reg.PAIR_EN == 0) (s.setReg Reg.BEHAVIOUR_LEVEL v) s

def writeNet (k v : Nat) (s : State) : State × Nat :=
  let p := plain k v s
  if k = Reg.REDUND then actRedund v s
  else if k / 256 = 0x3710 then
    let j := k % 256 - 1
    writeIf (decide (16 ≤ j) || p.mappingOk true j) p s
  else (p, stOK)

/-! ## One write -/

/-- The effect of a write to an object that is not a command, and its status. -/
def writeAct (k v : Nat) (s : State) : State × Nat :=
  match k / 65536 with
  | 0x14 | 0x16 | 0x18 | 0x1A => writePdo k v s
  | 0x20 => actLevel v s
  | 0x21 => writePower k v s
  | 0x22 => writeClock k v s
  | 0x23 => writeMemory k v s
  | 0x24 => writeAdc k v s
  | 0x26 => writeFilter k v s
  | 0x27 => writeRecorder k v s
  | 0x28 => writePwm k v s
  | 0x2A => writeGate k v s
  | 0x2B => writeDriver k v s
  | 0x2C | 0x2D => writeEngine k v s
  | 0x2E => writePair k v s
  | 0x30 | 0x32 | 0x33 | 0x34 | 0x36 => writeLaw k v s
  | 0x37 => writeNet k v s
  | _ => (plain k v s, stOK)

/-! ## FACTORY_RESET (R428) -/

/-- The objects that the value 0x01 leaves as they are. -/
def pairLocal (k : Nat) : Bool :=
  let i := k / 256
  i == 0x2F00 || i == 0x2E00 || (decide (0x3701 ≤ i ∧ i ≤ 0x3704)) || i == 0x3712 || k == Reg.REDUND
    || (decide (0x2210 ≤ i ∧ i ≤ 0x2212) && k % 256 == 5)

/-- The RWS objects that differ from their Default column. -/
def State.rwsListed (s : State) : List Nat :=
  (s.regs.map Prod.fst).filter fun k => match objFind (k / 256) (k % 256) with
    | some o => o.acc == .rws
    | none => false

/-- A value for GL_CFG of a law lane: the law keeps what is not FAULT_EN, PROFILE or TRAIN_EN (R226). -/
def lawGlCfg (old v : Nat) : Nat :=
  fset ⟨1, 3⟩ (fset F.GL_CFG_PROFILE (fset F.GL_CFG_TRAIN_EN old (fget F.GL_CFG_TRAIN_EN v)) (fget F.GL_CFG_PROFILE v)) (fget ⟨1, 3⟩ v)

/-- An RWS object takes a value with the effect of a write in BASECAMP. What the law owns and configures keeps the law's value while it does
(R34, R71): the new value is the stored one. -/
def takeVal (k v : Nat) (s : State) : State :=
  let i := k / 256
  let r := writeAct k v s
  if r.2 = stOK then r.1
  else if s.builtin && lawRegs.contains k then
    if i = 0x2A01 then (writeGlCfg (k % 256 - 1) (lawGlCfg (s.reg k) v) s).1 else s
  else if i = 0x2601 ∧ s.lawFl (k % 256 - 1) = true then
    { s with filt := { s.filt with saved := tabInsert (tabErase s.filt.saved (k % 256 - 1)) (k % 256 - 1) v } }
  else if i = 0x2820 ∧ s.law.cbcOwned = true ∧ k % 256 ≤ 48 then s
  else s.setReg k v

/-- An RWS object takes its Default column (R428, R420). -/
def toDefault (k : Nat) (s : State) : State := takeVal k (objReset k) s

/-- The running configuration has been replaced: the active law set is the given one, and the law configures its resources for it (R34, R40,
R41). -/
def configTaken (active : Tab Nat) (s : State) : State :=
  let s := refreshBases (refreshStaged (setActive active (s.setLaw { s.law with checked := active })))
  if s.builtin && s.mode == mBASECAMP then lawSetup s else s

/-- Engine images, bank-B coefficient sets and trained codes are cleared. -/
def clearStored (s : State) : State :=
  let s := { s with mram := { s.mram with images := [], staged := [], hasImage := [], codes := [], codeProf := [] } }
  let s := s.forEach (List.range 16) fun e s => s.setReg (Reg.IMG_INFO e) 0
  let s := { s with filt := { s.filt with coefs := s.filt.coefs.filter fun e => e.1 % 2 == 0 || decide (80 ≤ e.1) } }
  let s := s.forEach (List.range 40) fun k s => s.setReg (Reg.BANK_B k) 0
  s.forEach (List.range 64) resetCodes

/-- FACTORY_RESET with 1, or with 2 from SVC: only in BASECAMP; the new values are stored as a new slot. -/
def actFactoryReset (full : Bool) (s : State) : State × Nat :=
  if !s.inBase then (s.setReg Reg.FACTORY_RESET 3, stState)
  else
    let stored := (s.mram.config.getD ([], [])).1
    let s := s.forEach (s.rwsListed.filter fun k => full || !pairLocal k) toDefault
    let s := if full then clearStored s else s
    let s := configTaken [] s
    let keep := if full then [] else stored.filter fun e => pairLocal e.1
    let s := writeSlot keep [] s.mram.deltaSeq s
    (s.setReg Reg.FACTORY_RESET 2, stOK)

/-! ## Commands -/

/-- SCRUB_CMD: 1 starts a pass, 2 stops it after the code word in progress, which the spec does not number. -/
def actScrub (v : Nat) (s : State) : State × Nat := if v = 1 then actScrubStart s else actScrubStop (s.freeVal 32) s.useFree

/-- SQ_SWTRIG. -/
def actSwtrig (n v : Nat) (s : State) : State × Nat := if v = 1 then actSwtrigRegular n s else actSwtrigInjected n s

/-- PD0 to PD4 of the commands of 0x2700. -/
def cmdRecorder (k v : Nat) (s : State) : State × Nat :=
  let n := k / 256 - 0x2710
  if k = Reg.TB_CAL then actTbCal v s
  else if k = Reg.IX_READ then actIxRead s
  else if k = Reg.RD_READ then actRdRead s
  else if k = Reg.RC_SWTRIG n then actRcSwtrig n s
  else if k = Reg.RELEASE n then actRelease n v s
  else actArm n s

def cmdPwm (k v : Nat) (s : State) : State × Nat :=
  if k = Reg.PWM_CLEAR then actPwmClear s
  else if k = Reg.CG_START then actCgStart v s
  else if k = Reg.CG_STOP then actCgStop v s
  else if k = Reg.SW_WRITE then actSwWrite s
  else if k = Reg.SW_LOAD_ALL then actSwLoadAll v s
  else actTripClear v s

def cmdGate (k v : Nat) (s : State) : State × Nat :=
  if k = Reg.GL_CLEAR then actGlClear v s
  else if k = Reg.TRAIN_RESET then actTrainReset v s
  else if k = Reg.GU_WRITE then actGu true s
  else actGu false s

def cmdEngine (k : Nat) (s : State) : State × Nat :=
  let i := k / 256
  if k = Reg.IMG_WRITE then actImgWrite s
  else if k = Reg.IMG_COMMIT then actImgCommit s
  else if i < 0x2C20 then actEngineLoad (i - 0x2C10) s
  else actEngineClear (i - 0x2C20) s

def cmdStore (k v : Nat) (s : State) : State × Nat :=
  if k = Reg.FACTORY_RESET then actFactoryReset (v == 2) s
  else if k = Reg.PATCH_WRITE then actPatchWrite s
  else if k = Reg.PATCH_COMMIT then actPatchCommit s
  else if k = Reg.PATCH_SELECT then actPatchSelect v s
  else if k = Reg.PATCH_RESTART then actPatchRestart s
  else actPatchConfirm s

/-- The action that a write of a command object starts, and the status of starting it (R359). -/
def cmdAct (k v : Nat) (replay : Bool) (s : State) : State × Nat :=
  match k / 65536 with
  | 0x21 => if k = Reg.STANDBY then actStandby s else actModBaseline v s
  | 0x22 => if k = Reg.RELOCK then actRelock v s else if k = Reg.TIME_SET then actTimeSet s else actRestep s
  | 0x23 =>
    if k = Reg.ECC_CLEAR then actEccClear s
    else if k = Reg.SCRUB_CMD then actScrub v s
    else if k = Reg.MEM_READ then actMemRead s
    else if k = Reg.MEM_WRITE then actMemWrite s
    else actDmaStart (k / 256 - 0x2320) s
  | 0x24 => if k = Reg.CAL_FORCE then actCalForce v s else if k = Reg.ADC_CLEAR then actAdcClear s else actSwtrig (k / 256 - 0x2410) v s
  | 0x26 =>
    if k = Reg.FILT_CLEAR then actFiltClear s
    else if k = Reg.COEF_WRITE then actCoefWrite s
    else if k = Reg.COEF_COMMIT then actCoefCommit s
    else actBankSel (k % 256 - 1) v s
  | 0x27 => cmdRecorder k v s
  | 0x28 => cmdPwm k v s
  | 0x2A => cmdGate k v s
  | 0x2B => actDrvClear v s
  | 0x2C => cmdEngine k s
  | 0x2E => if k = Reg.SWITCHOVER then actSwitchover s else actBatonRenumber s
  | 0x2F => cmdStore k v s
  | 0x30 => actApply s
  | 0x34 => actModeCmd v replay s
  | 0x36 => actCadCmd v s
  | _ => actEthApply v s

/-- A write that has passed its checks: the effect of an object that is no command, or the start of a command's action. -/
def dictAct (k v : Nat) (replay : Bool) (s : State) : State × Nat :=
  match objAt k with
  | some o => if o.acc = .cmd then cmdAct k v replay s else writeAct k v s
  | none => (s, stNoObject)

end Sys2Proof.Machine
end

