-- ==== Sys2Proof/Machine/LiveRegs.lean ====
section
/-!
DEFINITION. Reads of the dictionary: objects whose value follows another part of the state are computed at the read (R345); every other
object reads as its register.
-/

namespace Sys2Proof.Machine

/-- A one-bit field of a value set or cleared. -/
def withBit (f : Fld) (b : Bool) (v : Nat) : Nat := fset f v (b2n b)

/-! ## Engines (Tables 5-14, 5-15) -/

/-- ENG_STATUS. -/
def State.engStatus (s : State) (e : Nat) : Nat :=
  let x := s.engine e
  let v := fset F.ENG_STATUS_STATE (s.reg (Reg.ENG_STATUS e)) (s.engState e)
  let stalled := match x.wait with
    | .inw .. | .waitp .. | .fence => true
    | _ => false
  let guard := x.slackValid && decide (s.sreg 32 (Reg.SLACK_MIN e) < s.reg Reg.SLACK_WARN)
  [(F.ENG_STATUS_WAITING, stalled), (F.ENG_STATUS_GUARD, guard), (F.ENG_STATUS_IN_CYCLE, x.inCycle), (F.ENG_STATUS_ENGINE_FAULT, x.faulted),
    (F.ENG_STATUS_IMAGE_VALID, x.valid), (F.ENG_STATUS_LOADING, x.loading), (F.ENG_STATUS_SELFTEST, x.selftest),
    (F.ENG_STATUS_PENDING_ENABLE, x.pendEnable)].foldl (fun v p => withBit p.1 p.2 v) v

/-- A mask over the engines. -/
def State.engMask (s : State) (p : Nat → Bool) : Nat := maskOf ((List.range 16).filter p)

/-! ## PWM generator (Tables 6-9, 6-12, 6-15) -/

/-- The latest output of a comparator's lane is UNSETTLED or STALE (R175). -/
def State.cbcBlind (s : State) : Bool :=
  (List.range 256).any fun c =>
    let v := s.reg (Reg.CH_CBC c)
    fget F.CH_CBC_EN v == 1 && decide (fget F.CH_CBC_LANE v < 40) &&
      (let w := s.word (0x100 + fget F.CH_CBC_LANE v); bit w 30 || bit w 31)

def State.pwmStatus (s : State) : Nat :=
  withBit F.PWM_STATUS_TRIP_LATCHED (s.reg Reg.TRIP_LATCHED != 0) (withBit F.PWM_STATUS_TRIP_FAULT (s.reg Reg.TRIP_FAULT != 0)
    (withBit F.PWM_STATUS_CBC_BLIND s.cbcBlind (s.reg Reg.PWM_STATUS)))

def State.chStatus (s : State) (c : Nat) : Nat :=
  let x := s.chan c
  let tripped := (bitsOf 32 (s.reg Reg.TRIP_FAULT)).any fun i => s.regBit (Reg.TRIP_MAP i (c / 32)) (c % 32)
  [(F.CH_STATUS_FORCED, s.forced c), (F.CH_STATUS_CBC, x.cbc), (F.CH_STATUS_CARRY, x.onCarry != 0 || x.offCarry != 0),
    (F.CH_STATUS_TRIPPED, tripped), (F.CH_STATUS_LEVEL, x.out)].foldl (fun v p => withBit p.1 p.2 v) (s.reg (Reg.CH_STATUS c))

def State.lgStatus (s : State) (g : Nat) : Nat :=
  withBit F.LG_STATUS_PENDING (s.snap g).isSome (withBit F.LG_STATUS_REF_RUNNING (s.carrier (s.lgRef g)).running (s.reg (Reg.LG_STATUS g)))

/-- FORCE_OFF reads the written bit or the lane fault (R209). -/
def State.forceOffRead (s : State) (j : Nat) : Nat :=
  maskOf ((List.range 32).filter fun b => s.regBit (Reg.FORCE_OFF j) b || s.regBit Reg.LANE_FAULT ((32 * j + b) / 4))

/-- PAIR_DT: LEG of the law's pairs reads 1 (R182). -/
def State.pairDtRead (s : State) (p : Nat) : Nat := withBit F.PAIR_DT_LEG (s.isLeg (2 * p)) (s.reg (Reg.PAIR_DT p))

/-! ## Drivers, alarms, clocks -/

def State.ldStatus (s : State) (n : Nat) : Nat :=
  let on (x : Side) : Bool := x.on && decide (x.at_ ≤ s.now)
  withBit F.LD_STATUS_HIGH_ON (on (s.ldHigh n s.now)) (withBit F.LD_STATUS_LOW_ON (on (s.ldLow n s.now)) (s.reg (Reg.LD_STATUS n)))

def State.taStatus (s : State) (n : Nat) : Nat :=
  withBit F.TA_STATUS_SCHEDULED (!(tabGet {} s.alarms n).insts.isEmpty) (s.reg (Reg.TA_STATUS n))

/-- TA_NEXT; what it reads without a scheduled instance the spec does not say, so that is the register. -/
def State.taNextRead (s : State) (n : Nat) : Nat :=
  match (tabGet {} s.alarms n).insts with
  | x :: _ => s.time64At x.1
  | [] => s.reg (Reg.TA_NEXT n)

/-- PLL_STATUS: a lock in progress shows its frequency search and then its phase search (R300). -/
def State.pllStatus (s : State) (p : Nat) : Nat :=
  let v := s.reg (Reg.PLL_STATUS p)
  if fget F.PLL_STATUS_STATE v = 1 ∧ tabGet 0 s.clk.lockAt p + us 6 ≤ s.now then fset F.PLL_STATUS_STATE v 2 else v

/-- CLK_OK: the last edge of TRGCLK was within 1 % of its place, and the next is not overdue (R295). -/
def State.trgclkOk (s : State) : Bool :=
  s.flag Reg.TB_STATUS F.TB_STATUS_CLK_OK && s.flag Reg.TB_CFG F.TB_CFG_EN && !s.flag Reg.TB_CFG F.TB_CFG_REF &&
    (s.tb.clkAt.any fun p => decide ((s.now - p) * 99 ≤ us 4))

/-! ## Device and supervision -/

def State.deviceStatus (s : State) : Nat :=
  [(F.DEVICE_STATUS_ENGINE_FAULT, (List.range 16).any fun e => (s.engine e).faulted),
    (F.DEVICE_STATUS_LANE_LATCHED, s.reg Reg.LANE_LATCHED != 0), (F.DEVICE_STATUS_TRIP_LATCHED, s.reg Reg.TRIP_LATCHED != 0),
    (F.DEVICE_STATUS_LAW_ERROR, s.ls F.LAW_STATUS_SENSOR_FAULT || s.ls F.LAW_STATUS_BASES_UNSET),
    (F.DEVICE_STATUS_CLOCK, (List.range 3).any fun p => s.pll p != 3),
    (F.DEVICE_STATUS_JOURNAL, s.flag Reg.J_STATUS F.J_STATUS_MIRROR_LOST || s.flag Reg.J_STATUS F.J_STATUS_ONE_COPY),
    (F.DEVICE_STATUS_STANDBY_ROLE, s.pairState == pSTANDBY)].foldl (fun v p => withBit p.1 p.2 v) (s.reg Reg.DEVICE_STATUS)

/-- ERROR_REG: bit 0 the fault bits 1 to 6 of DEVICE_STATUS, bit 7 a latched trip or lane fault. -/
def State.errorReg (s : State) : Nat :=
  let d := s.deviceStatus
  b2n (d / 2 % 64 != 0) + 128 * b2n (bit d 4 || bit d 5)

def State.supStatus (s : State) : Nat :=
  withBit F.SUP_STATUS_FLOOR_LOW (decide (s.reg Reg.FLOOR < 60)) (withBit F.SUP_STATUS_FSW_OVER s.fswOver
    (withBit F.SUP_STATUS_REFRESH_TIGHT s.refreshTight (s.reg Reg.SUP_STATUS)))

/-- INIT_PROG: the share of the DRAM that the background initialisation has reached (R328). -/
def State.initProg (s : State) : Nat :=
  let st := s.reg Reg.DRAM_STATUS
  if fget F.DRAM_STATUS_TRAINED st = 1 ∧ fget F.DRAM_STATUS_INIT_DONE st = 0 then
    min 100 (100 * (s.now / 1073741824 - s.memo.initTo) / max 1 (s.reg Reg.DRAM_SIZE))
  else s.reg Reg.INIT_PROG

/-- A text followed by another: numbers with the first character lowest. -/
def textLen (v : Nat) : Nat := (List.range 64).countP fun i => decide (256 ^ i ≤ v)
def textCat (a b : Nat) : Nat := a + 256 ^ textLen a * b

/-- SW_VERSION: ROM version, "+", patch version. -/
def State.swVersion (s : State) : Nat :=
  let v := match s.bootInfo.run with
    | some n => s.reg (if n = 0 then Reg.PATCH_VER_A else Reg.PATCH_VER_B)
    | none => 0
  textCat (textCat (s.reg Reg.SW_VERSION) 0x2B) (Config.patchText v)

/-! ## Journal and access (Table 13-10) -/

def accCode : Acc → Nat
  | .ro => 0 | .rw => 1 | .wo => 2 | .rws => 3 | .const => 4 | .cmd => 5

def tyCode : Ty → Nat
  | .bool => 0 | .u8 => 1 | .u16 => 2 | .u32 => 3 | .u64 => 4 | .i16 => 5 | .i32 => 6 | .q15 => 7 | .q31 => 8 | .angle16 => 9
  | .time64 => 10 | .string => 11

def State.accessQuery (s : State) : Nat :=
  let k := s.reg Reg.Q_INDEX * 256 + s.reg Reg.Q_SUB
  match objAt k with
  | none => 0xFFFFFFFF
  | some o =>
    let w := if o.acc = .ro ∨ o.acc = .const then 0xFF else writeLevel k
    lvOBSERVE * 0x1000000 + w * 0x10000 + accCode o.acc * 256 + tyCode o.ty

def Store.session (m : Store) (port id : Nat) : Option Session := m.sessions.find? fun x => x.port == port && x.id == id
def State.session (s : State) (port id : Nat) : Option Session := s.mram.session port id
/-- A journal item by its key; a void record has withdrawn it. -/
def Store.item (m : Store) (port id seq : Nat) : Option JItem :=
  m.journal.find? fun x => x.port == port && x.session == id && x.seq == seq && !x.void

def State.jqLast (s : State) : Nat := ((s.session (s.reg Reg.JQ_PORT) (s.reg Reg.JQ_SESSION)).map (·.last)).getD 0
def State.jqResult (s : State) : Nat :=
  match s.session (s.reg Reg.JQ_PORT) (s.reg Reg.JQ_SESSION) with
  | some x => ((s.mram.item x.port x.id x.last).bind (·.result)).getD 0xFF
  | none => 0xFF

/-! ## One read -/

/-- Objects of several units by index, and single objects, whose value is computed. -/
def State.liveIndexed (s : State) (k : Nat) : Option Nat :=
  let i := k / 256
  let n := k % 256 - 1
  if 0x2C20 ≤ i ∧ i < 0x2C30 ∧ n = 0 then some (s.engStatus (i - 0x2C20))
  else if 0x2210 ≤ i ∧ i < 0x2213 then
    (if n = 0 then some (s.pllStatus (i - 0x2210)) else if n = 7 then some (s.holdoverMs (i - 0x2210)) else none)
  else if 0x2240 ≤ i ∧ i < 0x2250 then
    (if n = 6 then some (s.taNextRead (i - 0x2240)) else if n = 8 then some (s.taStatus (i - 0x2240)) else none)
  else if i = 0x2814 ∨ i = 0x2815 then some (s.chStatus ((i - 0x2814) * 128 + n))
  else if i = 0x280B then some (s.lgStatus n)
  else if i = 0x2808 then some (s.countAt n (s.tickFloor s.now + s.lead))
  else if i = 0x2818 then some (s.pairDtRead n)
  else if i = 0x2824 then some (s.forceOffRead n)
  else if i = 0x2844 then some (min 15 (s.triesAt (tabGet {} s.pwm.trips n) s.now))
  else if i = 0x2A07 then some (min 15 (s.triesAt (s.lane n).retry s.now))
  else if i = 0x2B06 then some (s.ldStatus n)
  else if i = 0x215A then some (tabGet 0 (s.mod (s.reg Reg.RF_LANE)).bins n)
  else none

def State.liveSingle (s : State) : List (Nat × (State → Nat)) :=
  [(Reg.DEVICE_STATUS, State.deviceStatus), (Reg.ERROR_REG, State.errorReg), (Reg.SW_VERSION, State.swVersion),
    (Reg.UPTIME, fun s => (s.now - s.bootInfo.bootAt) / sec 1), (Reg.SUP_STATUS, State.supStatus), (Reg.INIT_PROG, State.initProg),
    (Reg.TIME_NOW, State.time64), (Reg.TIME_FRAC, fun s => s.ptpAt (s.timeTick s.now) / 65536 % 65536), (Reg.CLOCK_ID, State.clockId),
    (Reg.RUNNING, fun s => s.engMask fun e => s.reg (Reg.ENABLE e) == 1 && !(s.engine e).faulted), (Reg.FAULTED, fun s => s.engMask fun e => (s.engine e).faulted),
    (Reg.MISSED, fun s => s.engMask fun e => s.flag (Reg.ENG_STATUS e) F.ENG_STATUS_MISS), (Reg.PWM_STATUS, State.pwmStatus),
    (Reg.ACCESS_QUERY, State.accessQuery), (Reg.J_SESSIONS, fun s => s.mram.sessions.length), (Reg.JQ_LAST_SEQ, State.jqLast),
    (Reg.JQ_LAST_RESULT, State.jqResult), (Reg.BRK_STATE, State.brkRead), (Reg.STEP_MEAS, State.stepMeas),
    (Reg.TB_STATUS, fun s => withBit F.TB_STATUS_CLK_OK s.trgclkOk (s.reg Reg.TB_STATUS)),
    (Reg.TB_OFFSET, fun s => if s.trgclkOk then s.reg Reg.TB_OFFSET else 0),
    (Reg.EST_AGE, fun s => match s.law.est.lastAt with
      | some a => (s.now - a) / Sys2Proof.ms 1
      | none => s.reg Reg.EST_AGE)]

/-- What a read of an object returns. -/
def State.readVal (s : State) (k : Nat) : Nat :=
  match s.liveSingle.find? (·.1 == k) with
  | some e => e.2 s
  | none =>
    match s.liveIndexed k with
    | some v => v
    | none =>
      match objFind (k / 256) (k % 256) with
      | some _ => s.reg k
      | none => objHighest (k / 256)

/-- The bytes of a value as its type lays it out (R3); a STRING is its characters. -/
def valueBytes (ty : Ty) (v : Nat) : List Byte := if ty = .string then toBytes (textLen v) v else toBytes (tyBits ty / 8) v

end Sys2Proof.Machine
end

