-- ==== Sys2Proof/Machine/Journal.lean ====
section
/-!
DEFINITION. Requests to the dictionary (13_object_dictionary.md): the checks of Table 13-3, sessions, the journal, NDP frames and their
operations, PDO contents.
-/

namespace Sys2Proof.Machine

/-! ## Ports -/

/-- A port answers: start-up is complete, standby entry has not begun, SCB runs; SVC needs SERVICE_EN, an Ethernet port PD8, and ETH1 is no
port of its own in a redundant pair; the partner's port is that of a paired device's belay link. While PLL-C relocks, frames on SGMII and
on the belay link are lost (R25, R307, R348, R350, R366, R391, R419). -/
def State.portOpen (s : State) (p : Nat) : Bool :=
  s.phase == .running && s.sup.standbyAt.isNone && s.net.scbAt.isNone
    && (if p < 4 then s.regBit Reg.PD_ON 8 && !(p == 1 && s.reg Reg.REDUND != 0) && !(decide (p < 2) && bit s.clk.relock 2)
        else if p = 8 then s.net.svc
        else if p = 9 then s.paired && s.regBit Reg.PD_ON 8 && !bit s.clk.relock 2
        else true)

/-- The level of a port. -/
def State.portLevel (s : State) (p : Nat) : Nat := s.reg (Reg.PORT_LEVEL p)

/-! ## Pending items (R359) -/

/-- The item waits for application here: committed, not withdrawn, acknowledged, not a mirror of another device's item. -/
def JItem.waits (i : JItem) : Bool := i.result.isNone && !i.void && !i.unacked && !i.mirror

/-- J_PENDING: items committed and not yet applied, on a standby those it mirrors (Table 13-10). -/
def refreshPending (s : State) : State := s.setReg Reg.J_PENDING (s.mram.journal.countP fun i => i.result.isNone && !i.void)

/-! ## The checks of Table 13-3 -/

/-- The object is journaled work: RWS or CMD. -/
def journaled (k : Nat) : Bool :=
  match objAt k with
  | some o => o.acc == .rws || o.acc == .cmd
  | none => false

/-- A read: existence, then access. Every object may be read at every level (Table 13-2). -/
def readCheck (k : Nat) : Nat :=
  match objAt k with
  | none => stNoObject
  | some o => if o.acc = .wo then stAccess else stOK

/-- The level check of a write. -/
def State.levelOk (s : State) (port k v : Nat) : Bool :=
  decide (writeLevel k ≤ s.portLevel port) && !(k / 256 == 0x2F00 && !(port == 8 && s.net.svc))
    && !(k == Reg.FACTORY_RESET && v == 2 && port != 8)

/-- The status of starting the write in the present state: a configuration locked by the BOOT strap refuses RWS writes (R420). -/
def State.stateCheck (s : State) (k v : Nat) : Nat :=
  match objAt k with
  | some o => if o.acc = .rws ∧ s.rwsLocked then stState else (dictAct k v false s).2
  | none => stNoObject

/-- Journaled work finds no room: 256 items wait, or mirroring is unavailable (R359, R381). -/
def State.journalBusy (s : State) : Bool :=
  decide (256 ≤ s.reg Reg.J_PENDING) || s.flag Reg.J_STATUS F.J_STATUS_MIRROR_LOST

/-- The checks of a write up to NOT_ACTIVE, in the order of Table 13-3: `len` bytes with the value `v`. -/
def State.writeCheck (s : State) (port k len v : Nat) : Nat :=
  match objAt k with
  | none => stNoObject
  | some o =>
    if o.acc = .ro ∨ o.acc = .const then stAccess
    else if !s.levelOk port k v then stLevel
    else if 8 * len ≠ tyBits o.ty then stLength
    else if !valueOk k v then stRange
    else
      let r := s.stateCheck k v
      if r ≠ stOK ∧ r ≠ stNotActive then r
      else if journaled k && s.journalBusy then stBusy
      else if s.paired && !s.holds || r == stNotActive then stNotActive
      else stOK

/-- A write refused with STATE changes nothing but what reports the refusal: the outcome that reads "3 refused", COEF_STATUS, RD_STATUS,
MEM_RESULT, PD_REFUSED (log entry 91). -/
def refusedWrite (st k v : Nat) (s : State) : State :=
  let r := dictAct k v false s
  if st = stState ∧ r.2 = stState then r.1 else s

/-- The CANopen abort code of a refusal (Table 13-3); `write` tells the two codes of ACCESS apart. -/
def sdoAbort (k st : Nat) (write : Bool) : Nat :=
  match st with
  | 1 => if knownIndex (k / 256) then 0x06090011 else 0x06020000
  | 2 => if write then 0x06010002 else 0x06010001
  | 3 => 0x06010000
  | 4 => 0x06070010
  | 5 => 0x06090030
  | 6 => 0x08000022
  | 7 => 0x08000021
  | 8 => 0x08000022
  | 10 => 0x05040001
  | _ => 0
where
  /-- Some subindex of the index exists. -/
  knownIndex (i : Nat) : Bool := (objAt (i * 256)).isSome || decide (0 < objHighest i)

/-! ## Sessions (R357, R363) -/

def State.setStore (s : State) (m : Store) : State := { s with mram := m }

/-- A session is stored in place of the one with its key. -/
def putSession (x : Session) (s : State) : State :=
  s.setStore { s.mram with sessions := x :: s.mram.sessions.filter fun y => !(y.port == x.port && y.id == x.id) }

/-- A session ends: its applied items are forgotten. -/
def endSession (port id : Nat) (s : State) : State :=
  s.setStore { s.mram with
    sessions := s.mram.sessions.filter fun y => !(y.port == port && y.id == id)
    journal := s.mram.journal.filter fun i => !(i.port == port && i.session == id && (i.result.isSome || i.void)) }

/-- A request of an open session starts its expiry time anew. -/
def touchSession (port id : Nat) (s : State) : State :=
  match s.session port id with
  | some x => putSession { x with at_ := s.now } s
  | none => s

/-- The open sessions of a port. -/
def State.sessionsOf (s : State) (port : Nat) : Nat := (s.mram.sessions.filter fun x => x.port == port).length

/-- Items with a result that is not among the last 64 of its session are no longer kept (R360). -/
def trimItems (port id last : Nat) (s : State) : State :=
  s.setStore { s.mram with journal := s.mram.journal.filter fun i =>
    !(i.port == port && i.session == id) || i.result.isNone || decide (last < i.seq + 64) }

/-! ## Commit and application (R359, R424, R426) -/

/-- The item is mirrored to the standby before its acknowledgement (R381). -/
def State.mirrors (s : State) : Bool := s.paired && s.holds && !s.ps F.PAIR_STATUS_SOLO

/-- An item is committed in two copies: it takes its place in the journal and the session's sequence number; in a pair it goes to
the standby and waits for its acknowledgement. -/
def commitItem (port id seq k v : Nat) (s : State) : State :=
  let m := s.mirrors
  let it : JItem := { port := port, session := id, seq := seq, obj := k, val := v, at_ := s.now, unacked := m,
                      from_ := tabGet (0, 0) s.net.peer port }
  let s := s.setStore { s.mram with journal := s.mram.journal ++ [it] }
  let s := s.setReg Reg.J_COMMITTED (s.reg Reg.J_COMMITTED + 1)
  let s := refreshPending (trimItems port id seq (putSession ⟨port, id, seq, s.now⟩ s))
  if m then belaySend 0x10 [port, id, seq, k, v] s else s

/-- The journal with one item changed. -/
def mapItem (port id seq : Nat) (f : JItem → JItem) (s : State) : State :=
  s.setStore { s.mram with journal := s.mram.journal.map fun i =>
    if i.port == port && i.session == id && i.seq == seq && !i.void then f i else i }

/-- A delta with the item's key exists (R426). -/
def State.deltaOf (s : State) (i : JItem) : Bool :=
  s.mram.deltas.any fun d => d.port == i.port && d.session == i.session && d.jseq == i.seq && d.port != 0xFF

/-- The RESULT of an item is recorded; the active device of a pair mirrors the record (R362, R382). -/
def resultOut (i : JItem) (r : Nat) (s : State) : State :=
  let s := mapItem i.port i.session i.seq (fun x => { x with result := some r }) s
  if s.mirrors then belaySend 0x10 [noteResult, i.port, i.session, i.seq, r] s else s

/-- An item is applied: refusals in the present state are checked again; an RWS value is stored as a delta; the outcome is recorded. At a
start (`replay`) an item whose delta exists has been applied before (R426). -/
def applyItem (i : JItem) (replay : Bool) (s : State) : State :=
  let s := refreshPending (mapItem i.port i.session i.seq (fun x => { x with result := some 0 }) s)
  let s := s.setStore { s.mram with applied := s.mram.applied + 1 }
  if replay && s.deltaOf i then resultOut i 0 s
  else
    let isRws : Bool := match objAt i.obj with
      | some o => o.acc == .rws
      | none => false
    let r := if isRws && s.rwsLocked then (s, stState) else dictAct i.obj i.val replay s
    let s := if r.2 = stOK ∧ isRws then addDelta ⟨r.1.mram.deltaSeq + 1, i.obj, i.val, none, i.port, i.session, i.seq⟩ r.1 else r.1
    resultOut i r.2 s

/-- The oldest item that waits. -/
def State.oldestItem (s : State) : Option JItem := s.mram.journal.find? (·.waits)

/-- The oldest item is applied, in commit order; an RWS item waits while the delta log is full. -/
def applyOldest (s : State) : State :=
  match s.oldestItem with
  | none => s
  | some i =>
    let rws : Bool := match objAt i.obj with
      | some o => o.acc == .rws
      | none => false
    if rws && s.logFull then s else applyItem i false s

/-! ## NDP frames (R356, Table 13-5) -/

/-- A response frame. -/
def ndpFrame (op status flags session seq : Nat) (payload : List Byte) : List Byte :=
  let b := toBytes 2 0x444E ++ toBytes 1 1 ++ toBytes 1 op ++ toBytes 1 status ++ toBytes 1 flags ++ toBytes 2 payload.length
    ++ toBytes 4 session ++ toBytes 4 seq ++ payload
  b ++ toBytes 4 (crc32 b)

/-- A field of a frame. -/
def fieldOf (f : List Byte) (i n : Nat) : Nat := ofBytes (slice f i n)

/-- The frame passes the checks of R356. -/
def ndpFrameOk (f : List Byte) : Bool :=
  let n := fieldOf f 6 2
  decide (20 ≤ f.length) && f.length == 20 + n && fieldOf f 0 2 == 0x444E && fieldOf f 2 1 == 1
    && crc32 (f.take (16 + n)) == fieldOf f (16 + n) 4

def ndpPayload (f : List Byte) : List Byte := slice f 16 (fieldOf f 6 2)

/-- The request limit of a port is reached in the last second (R358). -/
def State.rateFull (s : State) (p : Nat) : Bool :=
  decide (s.reg Reg.NDP_RATE ≤ ((tabGet [] s.net.reqs p).filter fun a => decide (s.now < a + sec 1)).length)

/-- A request is processed: it counts in RX_FRAMES and in its port's rate. -/
def ndpTake (p : Nat) (s : State) : State :=
  let l := (tabGet [] s.net.reqs p).filter fun a => decide (s.now < a + sec 1)
  (s.setNet { s.net with reqs := tabSet [] s.net.reqs p (s.now :: l) }).bump (Reg.RX_FRAMES p)

/-- A frame as it is sent on SVC: between flag bytes, with 0x7E and 0x7D escaped (R356). -/
def svcEncode (b : List Byte) : List Byte :=
  0x7E#8 :: (b.flatMap fun x => if x = 0x7E#8 ∨ x = 0x7D#8 then [0x7D#8, x ^^^ 0x20#8] else [x]) ++ [0x7E#8]

/-- The frame in the bytes between two flag bytes. -/
def svcUnescape : List Byte → List Byte
  | [] => []
  | a :: t =>
    if a = 0x7D#8 then
      match t with
      | [] => []
      | b :: t => (b ^^^ 0x20#8) :: svcUnescape t
    else a :: svcUnescape t

/-- The frame that bytes on SVC enclose. -/
def svcDecode (l : List Byte) : List Byte := svcUnescape ((l.dropWhile (· == 0x7E#8)).takeWhile (· != 0x7E#8))

/-- The NDP frame in what arrives on a port: on SVC the bytes of the line. -/
def rxFrame (p : Nat) (l : List Byte) : List Byte := if p = 8 then svcDecode l else l

/-- An NDP frame is sent: on UDP to an address and a UDP port, on SVC framed. -/
def ndpSend (p : Nat) (to_ : Nat × Nat) (b : List Byte) (s : State) : State :=
  if p < 4 then ethSend p (fun q h => .ndp q h to_ b) s
  else s.emit (.ndp p {} (0, 0) (if p = 8 then svcEncode b else b))

/-- A response leaves on the port, on UDP to the source of the request; a refusal is counted. -/
def ndpAnswer (p : Nat) (f : List Byte) (status flags : Nat) (payload : List Byte) (s : State) : State :=
  let s := if status ≠ stOK then s.bump (Reg.REFUSED p) else s
  if p = 8 ∧ !s.net.svc then s
  else ndpSend p (tabGet (0, 0) s.net.peer p) (ndpFrame (fieldOf f 3 1 + 0x80) status flags (fieldOf f 8 4) (fieldOf f 12 4) payload) s

/-- Reserved header bits of a request are not zero. -/
def headerBad (f : List Byte) : Bool := fieldOf f 4 2 != 0

/-! ## Ethernet reception (R364, R365) -/

/-- A frame arrives on an Ethernet port: its link is up. ETH2 and ETH3 run at the speed the PHY negotiated. -/
def linkSeen (p : Nat) (s : State) : State :=
  let st := s.reg (Reg.ETH_STATUS p)
  if fget F.ETH_STATUS_LINK st = 1 then s
  else
    let sp := if p < 2 then 3 else 1 + s.freeVal 8 % 3
    (s.setReg (Reg.ETH_STATUS p) (fset F.ETH_STATUS_SPEED (fset F.ETH_STATUS_LINK st 1) sp)).useFree

/-- An entry of the duplicate table that is forgotten with one LAN missing is counted, saturating. -/
def dupForget (s : State) : State :=
  let old := s.net.dups.filter fun d => decide (d.at_ + ms 400 ≤ s.now)
  let s := s.setNet { s.net with dups := s.net.dups.filter fun d => decide (s.now < d.at_ + ms 400) }
  s.forEach old fun d s =>
    if s.reg Reg.REDUND ≠ 1 ∨ d.lans = 3 then s
    else
      let f : Fld := if d.lans = 1 then ⟨16, 16⟩ else ⟨0, 16⟩
      s.setFld Reg.LAN_ERR f (min 0xFFFF (s.fld Reg.LAN_ERR f + 1))

/-- A frame of the redundant pair: a duplicate is discarded and counted (IEC 62439-3); 512 entries are kept. -/
def dupCheck (src seq : Nat) (lan : Nat) (s : State) : Bool × State :=
  let s := dupForget s
  if s.net.dups.any fun d => d.src == src && d.seq == seq then
    let s := s.setNet { s.net with dups := s.net.dups.map fun d =>
      if d.src == src && d.seq == seq then { d with lans := setBit d.lans lan true } else d }
    (true, s.bump Reg.DUP_DISCARD)
  else (false, s.setNet { s.net with dups := (⟨src, seq, s.now, setBit 0 lan true⟩ :: s.net.dups).take 512 })

/-- Whether a frame is accepted on an Ethernet port: the port is enabled, the VID is the port's, no duplicate. -/
def ethIn (p : Nat) (e : EthIn) (s : State) : Bool × State :=
  let cfg := s.ethNow p 3
  if fget F.ETH_CFG_EN cfg = 0 ∨ e.vid.toNat ≠ fget F.ETH_CFG_VID cfg then (false, s)
  else
    let red := s.reg Reg.REDUND != 0 && p == 0
    let s := linkSeen (if red then e.lan else p) s
    if red then let r := dupCheck e.src.toNat e.seq.toNat e.lan s; (!r.1, r.2) else (true, s)

/-- A frame reaches the dictionary on a port. -/
def portIn (p : Nat) (e : EthIn) (s : State) : Bool × State :=
  if !s.portOpen p then (false, s) else if p < 4 then ethIn p e s else (true, s)

/-- Bytes of an IPv4 frame around its UDP or ICMP data: Ethernet, IPv4 and the 8 bytes of UDP or ICMP, check sequence, VLAN tag, redundancy
tag. -/
def State.ipOverhead (s : State) (eth : EthIn) : Nat := 46 + 4 * b2n (eth.vid != 0) + 6 * b2n (s.reg Reg.REDUND != 0)

/-- An NDP frame of `n` bytes reaches the dictionary on a port: CAN carries none; on Ethernet frames of up to 1,522 bytes are accepted,
and fragments and other addresses' datagrams are discarded (R356, R364). -/
def ndpReach (p : Nat) (e : EthIn) (n : Nat) (s : State) : Bool × State :=
  if (4 ≤ p ∧ p < 8) ∨ (p < 4 ∧ 1522 < n + s.ipOverhead e) then (false, s)
  else
    let r := portIn p e s
    (r.1 && (decide (4 ≤ p) || (!e.udp.fragment && e.udp.dst.toNat == r.2.ethNow p 0)), r.2)

/-! ## PDO contents (R355) -/

/-- The objects of a list of mapping entries take the bytes of a frame, in order; whether a value was outside its range. -/
def pdoWrite : List Nat → List Byte → State → State × Bool
  | [], _, s => (s, false)
  | e :: t, b, s =>
    let n := e % 256 / 8
    let v := ofBytes (b.take n)
    let r := if e = 0 then (s, false) else if valueOk (e / 256) v then ((writeAct (e / 256) v s).1, false) else (s, true)
    let r' := pdoWrite t (b.drop n) r.1
    (r'.1, r.2 || r'.2)

/-- The entries of an RPDO, and the bytes they take. -/
def State.rpdoEntries (s : State) (i : Nat) : List Nat := s.pdoEntries (Reg.RPDO_MAP i 0 - 1)
def State.tpdoEntries (s : State) (i : Nat) : List Nat := s.pdoEntries (Reg.TPDO_MAP i 0 - 1)
def entriesLen (l : List Nat) : Nat := (l.map fun e => e % 256 / 8).foldl (· + ·) 0

/-- An RPDO's values are written; RPDO_STATUS shows PDO_RANGE of this frame. -/
def rpdoApply (i : Nat) (data : List Byte) (s : State) : State :=
  let r := pdoWrite (s.rpdoEntries i) data s
  r.1.setFld (Reg.RPDO_STATUS i) ⟨1, 1⟩ (b2n r.2)

/-- A frame of an RPDO has arrived: RPDO_LATE ends. Where older values wait for SYNC on a controller, these take their place (R355). -/
def rpdoSeen (i : Nat) (data : List Byte) (s : State) : State :=
  let s := s.setFld (Reg.RPDO_STATUS i) ⟨0, 1⟩ 0
  let p := tabGet {} s.net.rpdos i
  s.setNet { s.net with rpdos := tabSet {} s.net.rpdos i { p with at_ := some s.now, held := p.held.map fun _ => data } }

/-! ## NDP operations (Table 13-6) -/

/-- READ. -/
def ndpReadOp (p : Nat) (f : List Byte) (s : State) : State :=
  let pl := ndpPayload f
  if pl.length ≠ 4 then ndpAnswer p f stMalformed 0 [] s
  else
    let k := fieldOf pl 0 2 * 256 + fieldOf pl 2 1
    let st := readCheck k
    let st := if st = stOK ∧ (headerBad f ∨ fieldOf pl 3 1 ≠ 0) then stMalformed else st
    match objAt k with
    | some o =>
      if st = stOK then
        let s := ndpAnswer p f stOK 0 (valueBytes o.ty (s.readVal k)) s
        -- at behaviour level 0 the read of an engine's status object clears MISS (R433)
        if s.level0 && 0x2C20 ≤ k / 256 && k / 256 < 0x2C30 && k % 256 == 1 then s.setFlag k F.ENG_STATUS_MISS false else s
      else ndpAnswer p f st 0 [] s
    | none => ndpAnswer p f st 0 [] s

/-- A retransmission is answered from the journal, once its item has been acknowledged (R360, R381). -/
def ndpReplay (p : Nat) (f : List Byte) (last : Nat) (s : State) : State :=
  let seq := fieldOf f 12 4
  let s := s.setReg Reg.J_REPLAYS (s.reg Reg.J_REPLAYS + 1)
  if seq + 64 ≤ last then ndpAnswer p f stOK 3 (toBytes 1 0xFE) s
  else
    match s.mram.item p (fieldOf f 8 4) seq with
    | some i => if i.unacked then s else ndpAnswer p f stOK 3 (toBytes 1 (i.result.getD 0xFF)) s
    | none => ndpAnswer p f stOK 3 (toBytes 1 0xFE) s

/-- A WRITE that is no retransmission. -/
def ndpWriteNew (p : Nat) (f : List Byte) (id seq : Nat) (ses : Option Session) (s : State) : State :=
  let pl := ndpPayload f
  if pl.length < 4 then ndpAnswer p f stMalformed 0 [] s
  else
    let k := fieldOf pl 0 2 * 256 + fieldOf pl 2 1
    let v := ofBytes (pl.drop 4)
    let st := s.writeCheck p k (pl.length - 4) v
    let seqOk := !journaled k || ses.any fun x => seq == x.last + 1
    let st := if st ≠ stOK then st else if !seqOk then stSequence
      else if headerBad f ∨ fieldOf pl 3 1 ≠ 0 then stMalformed else stOK
    if st ≠ stOK then ndpAnswer p f st 0 [] (refusedWrite st k v s)
    else if journaled k then
      let s := commitItem p id seq k v s
      if s.mirrors then s else ndpAnswer p f stOK 1 (toBytes 1 0xFF) s
    else ndpAnswer p f stOK 0 (toBytes 1 0) (writeAct k v s).1

/-- WRITE. -/
def ndpWriteOp (p : Nat) (f : List Byte) (s : State) : State :=
  let id := fieldOf f 8 4
  let seq := fieldOf f 12 4
  match s.session p id with
  | some x =>
    if seq ≠ 0 ∧ seq ≤ x.last then ndpReplay p f x.last s else ndpWriteNew p f id seq (some x) s
  | none => ndpWriteNew p f id seq none s

/-- OPEN. -/
def ndpOpenOp (p : Nat) (f : List Byte) (s : State) : State :=
  let id := fieldOf f 8 4
  let answer (last : Nat) (s : State) : State := ndpAnswer p f stOK 0 (toBytes 4 last ++ toBytes 1 (s.portLevel p)) s
  match s.session p id with
  | some x => if headerBad f ∨ !(ndpPayload f).isEmpty then ndpAnswer p f stMalformed 0 [] s else answer x.last s
  | none =>
    if id ≠ 0 ∧ 16 ≤ s.sessionsOf p then ndpAnswer p f stBusy 0 [] s
    else if headerBad f ∨ id = 0 ∨ !(ndpPayload f).isEmpty then ndpAnswer p f stMalformed 0 [] s
    else answer 0 (putSession ⟨p, id, 0, s.now⟩ s)

/-- CLOSE. -/
def ndpCloseOp (p : Nat) (f : List Byte) (s : State) : State :=
  let id := fieldOf f 8 4
  if id ≠ 0 ∧ (s.session p id).isNone then ndpAnswer p f stSequence 0 [] s
  else if headerBad f ∨ id = 0 ∨ !(ndpPayload f).isEmpty then ndpAnswer p f stMalformed 0 [] s
  else ndpAnswer p f stOK 0 [] (endSession p id s)

/-- PDO: answered only where it is refused. -/
def ndpPdoOp (p : Nat) (f : List Byte) (s : State) : State :=
  let pl := ndpPayload f
  let i := fieldOf pl 0 1
  let l := s.rpdoEntries i
  let st :=
    if pl.isEmpty then stMalformed
    else if 16 ≤ i then stNoObject
    else if l.any fun e => e != 0 && decide (s.portLevel p < writeLevel (e / 256)) then stLevel
    else if pl.length ≠ 1 + entriesLen l then stLength
    else if s.regBit (Reg.RPDO_COBID i) 31 then stState
    else if headerBad f then stMalformed else stOK
  if st ≠ stOK then ndpAnswer p f st 0 [] s else rpdoApply i (pl.drop 1) (rpdoSeen i (pl.drop 1) s)

/-- The operations that the rows of the table name; every other operation is unknown and refused with MALFORMED. -/
def ndpOp (op p : Nat) (f : List Byte) (s : State) : State :=
  match op with
  | 0x01 => ndpReadOp p f s
  | 0x02 => ndpWriteOp p f s
  | 0x10 => ndpOpenOp p f s
  | 0x11 => ndpCloseOp p f s
  | 0x20 => ndpPdoOp p f s
  | _ => ndpAnswer p f stMalformed 0 [] s

/-- The request's source is kept for its answer. -/
def ndpFrom (p : Nat) (e : EthIn) (s : State) : State :=
  s.setNet { s.net with peer := tabSet (0, 0) s.net.peer p (e.udp.src.toNat, e.udp.port.toNat) }

/-- A frame that is not discarded and whose operation is one of a list is handled. -/
def ndpIn (ops : Nat → Bool) (p : Nat) (l : List Byte) (e : EthIn) (t : Instant) (s : State) : State :=
  let f := rxFrame p l
  let op := fieldOf f 3 1
  if !ndpFrameOk f || !ops op then s
  else
    let r := ndpReach p e f.length (s.advance t)
    if !r.1 then r.2
    else if r.2.rateFull p then s
    else ndpOp op p f (touchSession p (fieldOf f 8 4) (ndpTake p (ndpFrom p e r.2)))

/-- NDP_READ, and every operation that no row names. -/
def execNdpRead (port : Fin 10) (frame : List (BitVec 8)) (eth : EthIn) (t : Instant) (s : State) : Host.Outcome State Fault Refusal :=
  .next (ndpIn (fun o => !([0x02, 0x10, 0x11, 0x20].contains o)) port frame eth t s)

def execNdpWrite (port : Fin 10) (frame : List (BitVec 8)) (eth : EthIn) (t : Instant) (s : State) : Host.Outcome State Fault Refusal :=
  .next (ndpIn (· == 0x02) port frame eth t s)

def execOpenSession (port : Fin 10) (frame : List (BitVec 8)) (eth : EthIn) (t : Instant) (s : State) :
    Host.Outcome State Fault Refusal :=
  .next (ndpIn (· == 0x10) port frame eth t s)

def execCloseSession (port : Fin 10) (frame : List (BitVec 8)) (eth : EthIn) (t : Instant) (s : State) :
    Host.Outcome State Fault Refusal :=
  .next (ndpIn (· == 0x11) port frame eth t s)

def execNdpPdo (port : Fin 10) (frame : List (BitVec 8)) (eth : EthIn) (t : Instant) (s : State) : Host.Outcome State Fault Refusal :=
  .next (ndpIn (· == 0x20) port frame eth t s)

/-- NDP_FRAME_DISCARD: a frame that fails R356, or a request beyond the limit of R358, counts in RX_DROPPED. -/
def execNdpFrameDiscard (port : Fin 10) (frame : List (BitVec 8)) (eth : EthIn) (t : Instant) (s : State) :
    Host.Outcome State Fault Refusal :=
  let f := rxFrame port frame
  let r := ndpReach port eth f.length (s.advance t)
  if ndpFrameOk f && !r.2.rateFull port then .next s
  else .next (if r.1 then r.2.bump (Reg.RX_DROPPED port) else r.2)

/-- SESSION_EXPIRY: SESSION_TO without a request. -/
def execSessionExpiry (port : Fin 10) (id : BitVec 32) (t : Instant) (s : State) : Host.Outcome State Fault Refusal :=
  match s.session port id.toNat with
  | some x => if x.at_ + sec (s.reg Reg.SESSION_TO) ≤ t then .next (endSession port id.toNat (s.advance t)) else .next s
  | none => .next s

/-! ## REGISTER_WRITE (R12) -/

/-- A write of an object that has no row of its own, checked and applied at once as its access code states; an RWS value is stored. -/
def execRegisterWrite (port : Fin 10) (idx : BitVec 16) (sub : BitVec 8) (v : BitVec 64) (s : State) :
    Host.Outcome State Fault Refusal :=
  let k := idx.toNat * 256 + sub.toNat
  let len := match objAt k with
    | some o => tyBits o.ty / 8
    | none => 0
  if !s.portOpen port || k == Reg.PATCH_RESTART then .next s
  else if s.writeCheck port k len v.toNat ≠ stOK then
    .next ((refusedWrite (s.writeCheck port k len v.toNat) k v.toNat s).bump (Reg.REFUSED port))
  else
    let r := dictAct k v.toNat false s
    let rws : Bool := match objAt k with
      | some o => o.acc == .rws
      | none => false
    .next (if rws then stored k v.toNat r else r.1)

end Sys2Proof.Machine
end

