-- ==== Sys2Proof/Machine/Boot.lean ====
section
/-!
DEFINITION. Resets, start-up, standby and wake, lockstep mismatches, block start-up and shutdown, the application of journaled items
(16_startup_and_persistence.md; R24, R25, R30 to R32, R329, R359, R361, R391, R392, R400, R401, R403).
-/

namespace Sys2Proof.Machine

/-! ## What a reset leaves (R329, R361, R363, R422; log entry 9) -/

/-- The dictionary objects that eMRAM keeps across a reset beside the stored configuration. -/
def keptReg (k : Nat) : Bool :=
  let i := k / 256
  [Reg.J_COMMITTED, Reg.TAKEOVER_COUNT, Reg.LAST_TAKEOVER, Reg.BATON_HELD, Reg.STANDBY_COUNT, Reg.WL_RETIRED, Reg.PATCH_VER_A,
    Reg.PATCH_VER_B].contains k
    || [0x2153, 0x2154, 0x2155, 0x2162, 0x2163, 0x2610, 0x2611, 0x2C32].contains i

/-- The bytes of DRAM and eMRAM. -/
def keptByte (a : Nat) : Bool := decide (dramBase ≤ a) || (decide (0x20000000 ≤ a) && decide (a < 0x22000000))

/-- The DRAM keeps its contents: before a reset the interface puts it into self-refresh; in self-refresh a loss has been seen or not
(R329). -/
def State.dramKept (s : State) : Bool :=
  if s.phase = .running ∧ !s.flag Reg.DRAM_STATUS F.DRAM_STATUS_SELF_REFRESH then s.flag Reg.DRAM_STATUS F.DRAM_STATUS_TRAINED
  else s.memo.kept

/-- The device in reset: what eMRAM, PD0 and a DRAM in self-refresh keep, everything else at its reset value. `cause` is the RESET_CAUSE
of the next start. -/
def resetState (ph : Phase) (cause : Nat) (s : State) : State :=
  { pending := s.pending
    now := s.now
    epoch := s.epoch
    free := s.free
    regs := s.regs.filter fun e => keptReg e.1
    mem := s.mem.filter fun c => keptByte c.1
    mram := { s.mram with compactAt := none }
    filt := { coefs := s.filt.coefs.filter fun e => decide (e.1 < 80) }
    memo := { kept := s.dramKept, ecc := s.memo.ecc.filter fun e => keptByte e.1 }
    clk := { rtc := s.clk.rtc, rtcAt := s.clk.rtcAt }
    sup := { mods := s.sup.mods.map fun e => (e.1, { e.2 with toSend := 0, toReport := 0 }), retained := s.sup.retained }
    phase := ph
    bootInfo := { cause := cause }
    outs := s.outs }

/-- RST_N has fallen 1 µs before the reset. -/
def rstFell (t : Instant) (s : State) : State := { s with bootInfo := { s.bootInfo with fellAt := some (t - us 1) } }

/-- RST_N_RESET: RST_N has been low for 1 µs; in standby a power-up start follows (R392, R403). -/
def execRstNReset (t : Instant) (s : State) : Host.Outcome State Fault Refusal :=
  match s.phase with
  | .reset => .next s
  | .standby => .next (rstFell t (resetState .reset 0 (s.advance t)))
  | .running | .halted => .next (rstFell t (resetState .reset 1 (s.advance t)))

/-- VDD_UNDERVOLTAGE_RESET: a power-up reset (R401). Less than 2 µs after RST_N has fallen, the contents of the DRAM are lost (R329). -/
def execVddUndervoltageReset (t : Instant) (s : State) : Host.Outcome State Fault Refusal :=
  match s.phase with
  | .reset =>
    if s.now ≤ t ∧ (s.bootInfo.fellAt.any fun x => decide (t < x + us 2)) then
      .next { s.advance t with memo := { s.memo with kept := false } }
    else .next s
  | .standby => .next s
  | .running | .halted => .next (resetState .reset 0 (s.advance t))

/-- VDDQ_LOSS: VDDQ leaves its range while the DRAM is in self-refresh: in a reset, in standby and on its way there, with PD9 off
(R329). -/
def execVddqLoss (t : Instant) (s : State) : Host.Outcome State Fault Refusal :=
  if s.phase = .running ∧ !s.flag Reg.DRAM_STATUS F.DRAM_STATUS_SELF_REFRESH then .next s
  else
    let s := s.advance t
    .next { s with memo := { s.memo with kept := false } }

/-! ## Start-up (Table 16-1) -/

/-- The value of a strap, where its samples agree. -/
def strapValue (l : List (BitVec 5)) (f : Fld) : Option Nat :=
  let v := l.map fun x => fget f x.toNat
  match v with
  | [] => none
  | a :: t => if t.all (· == a) then some a else none

/-- Step 2: straps and behaviour level (R400, R432). The DUPLEX_ID in use where its samples disagree is not stated. -/
def bootStraps (l : List (BitVec 5)) (s : State) : State :=
  let boot := strapValue l ⟨0, 2⟩
  let cmp := strapValue l ⟨2, 2⟩
  let id := strapValue l ⟨4, 1⟩
  let bad := boot.isNone || cmp.isNone || id.isNone
  let s := s.setReg Reg.STRAPS (boot.getD 0 + 4 * cmp.getD 1 + 16 * id.getD (s.freeVal 1))
  let s := (s.useFree.setReg Reg.STRAP_RAW (l.headD 0).toNat).setFlag Reg.SUP_STATUS F.SUP_STATUS_STRAP_UNSTABLE bad
  let s := s.setReg Reg.BEHAVIOUR_LEVEL (if cmp.getD 1 = 0 then 0 else 1)
  { s with bootInfo := { s.bootInfo with idUnstable := id.isNone } }

/-- The settings that blocks act on at their start: dead times, minimum pulses, CIC gains, the current limit, and
the bases derived from the stored ones (R41). -/
def bootSettings (s : State) : State :=
  let s := { s with pwm := { s.pwm with
    dtAct := (List.range 256).foldl (fun t c => tabSet 0 t c (s.reg (Reg.PAIR_DT (c / 2)) % 2 ^ 18)) [] } }
  let s := s.forEach ((List.range 256).filter fun c => s.reg (Reg.CH_MINPULSE c) != 0) fun c s =>
    s.setChan c { s.chan c with minpulse := s.reg (Reg.CH_MINPULSE c) }
  let s := s.forEach (List.range 40) fun k s => (s.setReg (Reg.CIC_GAIN k) (s.cicGain (s.reg (Reg.LANE_CFG k)))).useFree
  seeRegs (refreshBases (deriveBases 1 (deriveBases 0 (s.setReg Reg.I_LIM_CHOSEN (s.reg Reg.I_LIM)))))

/-- The engines: the law from ROM, images with AUTO_LOAD; a stored ENABLE without an image is refused as a write would be (R149 to
R151). -/
def bootEngines (s : State) : State :=
  let s := if s.builtin then lawSetup (s.forEach (List.range 8) romLoad) else s
  s.forEach ((List.range 16).filter fun e => !(s.builtin && decide (e < 8))) fun e s =>
    let s := if s.reg (Reg.AUTO_LOAD e) = 1 ∧ tabGet false s.mram.hasImage e then imageLoad e s else s
    if s.reg (Reg.ENABLE e) = 1 ∧ !((s.engine e).valid && s.reg (Reg.ALARM e) != 0xFF) then s.setReg (Reg.ENABLE e) 0 else s

/-- Step 7: the domains are on, their blocks start. -/
def bootBlocks (s : State) : State :=
  let s := bootEngines (s.setReg Reg.PD_ON (s.reg Reg.PD_REQ))
  let s := dramStart (restoreCodes s)
  let s := if s.reg Reg.ADC_EN = 1 then adcStart s else s
  let s := s.forEach (List.range 40) fun k s => if s.laneCfg k F.LANE_CFG_EN == 1 then flStart k s else s
  let s := s.forEach (List.range 4) fun n s => if s.flag (Reg.RC_CFG n) F.RC_CFG_EN then rcEnable n true s else s
  let own := (List.range 16).filter fun n => s.flag (Reg.TA_CFG n) F.TA_CFG_EN && !(s.builtin && decide (n < 3))
  sdiRefresh (s.forEach own alarmEnable)

/-- Step 8: committed items that are not applied are applied in commit order, acknowledged or not (R361). -/
def bootReplay (s : State) : State :=
  let s := s.setStore { s.mram with journal := s.mram.journal.map fun i => { i with unacked := false } }
  s.forEach (s.mram.journal.filter (·.waits)) fun i s => applyItem i true s

/-- The DEFAULTS starts take the Default column after the replay, and lock RWS writes (R420). -/
def bootDefaults (s : State) : State :=
  let s := s.forEach s.rwsListed toDefault
  -- the chosen values start at those of the set (R51)
  let s := configTaken [] s
  (s.setLaw { s.law with ramp := none }).setFlag Reg.CFG_STATUS F.CFG_STATUS_RWS_LOCKED true

/-- The role at the start: a device of a pair waits without the baton; a single device holds its committed number or claims one (R387). -/
def bootRole (s : State) : State :=
  let s := s.setReg Reg.BATON_KNOWN (s.reg Reg.BATON_HELD)
  let s :=
    if s.paired then setPairState pWAITING s
    else if s.reg Reg.BATON_HELD ≠ 0 then { s with holds := true }
    else startClaim 11 s
  refreshBatonTx s

/-- Step 9: BASECAMP is reached with cause 0, the ports answer, lanes and drivers that are to run start. -/
def bootBasecamp (vdrv : Nat) (s : State) : State :=
  let s := s.setReg Reg.VDRV vdrv
  let s := forceOffAll (List.range 256) (s.setFlag Reg.PWM_STATUS F.PWM_STATUS_BASECAMP_FORCE true)
  let s := (s.setReg Reg.CAUSE 0).setReg Reg.MODE_TIME s.time64
  let s := bootRole s
  let s := s.forEach ((List.range 64).filter fun k => s.flag (Reg.GL_CFG k) F.GL_CFG_EN) laneEnable
  let s := driversStart (driversUv (s.reg Reg.VDRV ≤ 9500) s)
  let s := ptpRestart s
  let s := s.forEach (List.range 4) canStart
  let s := redundStart (s.forEach (List.range 4) ethPort)
  let s := (s.setFlag Reg.DEVICE_STATUS F.DEVICE_STATUS_BOOT_DONE true).setFlag Reg.J_STATUS F.J_STATUS_READY true
  seeRegs s

/-- Steps 5 to 9 for a value of the BOOT strap (Table 16-2). -/
def bootRun (boot vdrv : Nat) (s : State) : State :=
  let s := loadConfig (bootPatch (boot % 2 == 1) { s with phase := .running })
  let s := bootReplay (bootBlocks (bootSettings (compactStart s)))
  bootBasecamp vdrv (if 2 ≤ boot then bootDefaults s else s)

/-- The start-up of a device in reset; BASECAMP is reached at a free instant within 80 ms. A failed ROM check halts the device (R421). -/
def bootDevice (cause : Nat) (start : StartIn) (s : State) : State :=
  let s := ({ s with bootInfo := { cause := 0, bootAt := s.now, codesAt := s.now } }).setReg Reg.RESET_CAUSE cause
  let s := (s.advance (s.now + Config.freeVal s.free % (ms 80 + 1))).useFree
  let s := s.forEach (List.range 3) fun p s => (pllLocked p (s.freeVal 14) s).useFree
  let s := bootStraps start.straps s
  if start.romOk then bootRun (s.reg Reg.STRAPS % 4) start.vdrv.toNat (readRecs start.reads s) else { s with phase := .halted }

/-- The ticks are counted from the present instant. -/
def ticksFrom (s : State) : State := s.setClk { s.clk with inc := 2684354560, tickAt := s.now, tickN := 0 }

/-- TIME64 and FRAC16 are 0 at the start (log entry 6). -/
def timeZero (s : State) : State := ticksFrom { s with epoch := (2 ^ 96 - s.now % 2 ^ 96) % 2 ^ 96 }

/-- RESET_RELEASE: RST_N rises. -/
def execResetRelease (start : StartIn) (s : State) : Host.Outcome State Fault Refusal :=
  if s.phase = .reset then .next (bootDevice s.bootInfo.cause start (timeZero s)) else .next s

/-- A restart from step 1 with RESET_CAUSE 1 (R430). -/
def restartDevice (start : StartIn) (s : State) : State := bootDevice 1 start (timeZero (resetState .reset 1 s))

/-- PATCH_RESTART. -/
def execPatchRestart (start : StartIn) (s : State) : Host.Outcome State Fault Refusal :=
  let r := actPatchRestart s
  if r.2 = stOK then .next (restartDevice start r.1) else .next r.1

/-! ## The journal's work (R359, R25) -/

/-- JOURNAL_APPLY: the oldest item is applied; a restart that an item has started follows once its outcome is recorded. -/
def execJournalApply (start : StartIn) (t : Instant) (s : State) : Host.Outcome State Fault Refusal :=
  if s.phase ≠ .running ∨ s.net.scbAt.isSome then .next s
  else
    let s := s.advance t
    let s := if s.bootInfo.restart then s else applyOldest s
    .next (if s.bootInfo.restart then restartDevice start s else s)

/-- SCB_LOCKSTEP_MISMATCH: SCB restarts; what was on its way is lost, PTP ports listen again and the timebase goes on at r_f. Items that
were committed need no acknowledgement any more. -/
def execScbLockstepMismatch (t : Instant) (s : State) : Host.Outcome State Fault Refusal :=
  if s.phase ≠ .running ∨ s.net.scbAt.isSome then .next s
  else
    let s := (s.advance t).setReg Reg.RESET_CAUSE 4
    let s := ptpRestart (s.setNet { s.net with scbAt := some s.now })
    let s := setRate (clampQ 200000 s.clk.rf) s
    let s := s.setClk { s.clk with oPrev := none, ofs := none, ofsNew := none }
    .next (s.setStore { s.mram with journal := s.mram.journal.map fun i => { i with unacked := false } })

/-- SCB_RESUME: within 50 ms of the mismatch; the items that wait are applied in commit order. -/
def execScbResume (t : Instant) (s : State) : Host.Outcome State Fault Refusal :=
  match s.net.scbAt with
  | some a =>
    if t ≤ a + ms 50 then
      let s := s.advance t
      let s := s.setNet { s.net with scbAt := none }
      .next (s.forEach s.mram.journal fun _ s => if s.bootInfo.restart then s else applyOldest s)
    else .next s
  | none => .next s

/-- SCA_LOCKSTEP_MISMATCH: all-off frames, BASECAMP, the partner is told; SCA restarts from ROM. -/
def execScaLockstepMismatch (t : Instant) (s : State) : Host.Outcome State Fault Refusal :=
  if s.phase ≠ .running then .next s
  else
    let s := (s.advance t).setReg Reg.RESET_CAUSE 3
    let s := if s.paired && s.holds then belaySend 0x03 [2] s else s
    .next (if s.mode = mBASECAMP then
        driversBasecamp (lanesAllOff (if s.arming.isSome then cmdRefused 11 { s with arming := none } else s))
      else enterBasecamp 22 s)

/-! ## Standby and wake (R391, R392, R324) -/

/-- STANDBY_COMPLETE: within 2 ms of the command only PD0 is on; it keeps the wake settings. -/
def execStandbyComplete (t : Instant) (s : State) : Host.Outcome State Fault Refusal :=
  match s.sup.standbyAt with
  | some a =>
    if t ≤ a + ms 2 ∧ s.mode = mBASECAMP then
      let s := s.advance t
      let r := resetState .standby 0 s
      .next (((r.setReg Reg.WAKE_CFG (s.reg Reg.WAKE_CFG)).setReg Reg.WAKE_TIME (s.reg Reg.WAKE_TIME)).setReg Reg.PD_ON 1)
    else .next s
  | none => .next s

/-- The RTC at an instant, in steps of 30.518 µs (2^-15 s). -/
def State.rtcTicks (s : State) (t : Instant) : Nat := (s.clk.rtc + (t - s.clk.rtcAt) / 2 ^ 32) * 32768 / 1000000000

/-- TIME64 takes the value of the RTC at an instant. -/
def timeFromRtc (t : Instant) (s : State) : State :=
  ticksFrom { s with epoch := (s.rtcTicks t * 1000000000 * 2 ^ 32 / 32768 + 2 ^ 96 - t % 2 ^ 96) % 2 ^ 96 }

/-- WAKE: WAKE_N decides, or the RTC reaches WAKE_TIME. -/
def execWake (rtc : Bool) (start : StartIn) (t : Instant) (s : State) : Host.Outcome State Fault Refusal :=
  let reached := decide (s.reg Reg.WAKE_TIME * 32768 / 1000000000 ≤ s.rtcTicks t)
  if s.phase ≠ .standby ∨ !s.regBit Reg.WAKE_CFG (b2n rtc) ∨ (rtc && !reached) ∨ t < s.now then .next s
  else
    let cause := if rtc then 2 else 1
    let s := s.advance t
    let s := { s with sup := { s.sup with retained := s.sup.retained.map fun x => (cause, x.2) } }
    let s := bootDevice 2 start (timeFromRtc s.now (resetState .reset 2 s))
    .next ((s.setReg Reg.WAKE_CAUSE cause).setTf F.TIME_FLAGS_RTC_LOADED true)

/-! ## Blocks (Table 1-7, R30 to R32) -/

/-- The shutdown of a local driver completes. -/
def ldOff (n : Nat) (s : State) : State :=
  if (s.ld n).stopping then
    let pend := s.flag (Reg.LD_STATUS n) F.LD_STATUS_PENDING_ENABLE
    let s := (s.setLd n { s.ld n with stopping := false }).setFlag (Reg.LD_STATUS n) F.LD_STATUS_PENDING_ENABLE false
    if pend then ldEnable n s else s
  else s

/-- The shutdown of a static switch driver completes. -/
def sdOff (n : Nat) (s : State) : State :=
  if (s.sd n).stopping then
    let pend := s.flag (Reg.SD_STATUS n) F.SD_STATUS_PENDING_ENABLE
    let s := (s.setSd n { s.sd n with stopping := false }).setFlag (Reg.SD_STATUS n) F.SD_STATUS_PENDING_ENABLE false
    if pend then sdEnable n s else s
  else s

/-- BLOCK_SHUTDOWN_COMPLETE. An engine's shutdown completes with its cycle (R150). -/
def blockOff (b : Block) (s : State) : State :=
  match b with
  | .filterLane k => if (s.fl k).stopping && (s.fl k).busy.isNone then flOff k s else s
  | .gateLink k => laneOffDone k s
  | .localDriver n => ldOff n s
  | .staticSwitch n => sdOff n s
  | .recorder n => if (s.rc n).stopping then rcOff n s else s
  | .engine e =>
    if (s.engine e).inCycle then s else engStopped e s
  | .adc => if s.adc.stopping && !s.adcBusy then adcOff s else s
  | .domain d => pdOffDone d s

def execBlockShutdownComplete (b : Block) (t : Instant) (s : State) : Host.Outcome State Fault Refusal := .next (blockOff b (s.advance t))

/-- BLOCK_STARTUP_COMPLETE: a pending disable takes effect. The start-up of the other blocks ends with rows of their own
(LD_BOOTSTRAP_READY, CAL_STARTUP_COMPLETE, LOAD_COMPLETE) or at once. -/
def blockOn (b : Block) (s : State) : State :=
  match b with
  | .gateLink k => laneStarted k s
  | .localDriver n =>
    if (s.ld n).pendDisable && !s.flag (Reg.LD_STATUS n) F.LD_STATUS_BST_WAIT then ldShutdown n s else s
  | .staticSwitch n => if (s.sd n).pendDisable && s.flag (Reg.SD_STATUS n) F.SD_STATUS_CP_OK then sdShutdown n s else s
  | .adc => if s.adc.pendDisable && s.flag Reg.ADC_STATUS F.ADC_STATUS_READY then adcShutdown s else s
  | .domain d => if bit s.sup.pdStart d then pdOnDone d s else s
  | .filterLane _ | .recorder _ | .engine _ => s

def execBlockStartupComplete (b : Block) (t : Instant) (s : State) : Host.Outcome State Fault Refusal := .next (blockOn b (s.advance t))

/-! ## FACTORY_RESET (R428) -/

/-- A write of FACTORY_RESET on a port: the level first, then the action. -/
def factoryReset (port v : Nat) (s : State) : State :=
  if !s.portOpen port then s
  else if !s.levelOk port Reg.FACTORY_RESET v then s.bump (Reg.REFUSED port)
  else (actFactoryReset (v == 2) s).1

def execFactoryReset (port : Fin 10) (s : State) : Host.Outcome State Fault Refusal := .next (factoryReset port 1 s)
def execFactoryResetFull (port : Fin 10) (s : State) : Host.Outcome State Fault Refusal := .next (factoryReset port 2 s)

end Sys2Proof.Machine
end

