-- ==== Sys2Proof/Machine/Cycles.lean ====
section
/-!
DEFINITION. The cycles of the engines and of the law: TIME_ALARM, DEADLINE_PASS, END_REGISTERED and CARRIER_EVENT_DELIVER
(02, R37 to R39; 03, R86 to R90; 05, R136 to R143; 06, R156; 11, R320 to R322; 14, R370).
-/

namespace Sys2Proof.Machine

/-! ## The inner deadline (R86 to R89, R370, R383) -/

/-- A counter of 8 bits incremented; past 255 the spec states no value. -/
def State.bump8 (s : State) (k : Nat) : State :=
  if s.reg k + 1 < 256 then s.setReg k (s.reg k + 1) else (s.setReg k (s.freeVal 8)).useFree

/-- The engines whose deadlines make the inner deadline of an instance of alarm `n`: OE1 for TA0, or without the built-in law the law
engines that the alarm starts (log entry 62). -/
def State.innerEngines (s : State) (n : Nat) : List Nat :=
  if s.builtin then (if n = 0 then [1] else [])
  else (List.range 16).filter fun e => s.lawEngine e && s.reg (Reg.ENABLE e) == 1 && s.reg (Reg.ALARM e) == n

/-- A missed inner cycle or one on time is counted, and policy evaluates the counts (R86, R88, R89). -/
def missPolicy (missed : Bool) (s : State) : State :=
  let s := s.setLaw { s.law with recRun := if missed then 0 else s.law.recRun + 1 }
  let s := if missed then s.bump8 Reg.MISS_RUN else s.setReg Reg.MISS_RUN 0
  let s := if missed && s.mode == mHOLD then s.bump8 Reg.HOLD_MISSES else s
  if !s.holds then s
  else if s.holdCause != 0 then enterHold s.holdCause s
  else if s.mode == mHOLD && decide (s.lreg Reg.MISS_M ≤ s.reg Reg.HOLD_MISSES) then enterBasecamp 19 s
  else if s.holdEnds then leaveHold s
  else s

/-- OE1's part of the inner cycle, before the line threads that wait for its references (02, after R38); it is done once a cycle. -/
def innerRefs (s : State) : State := if (s.engine 1).inCycle && !(s.engine 1).late then innerLaw s else s

/-- The current references of the cycle are there: OE2 to OE5 wait for them (R38). -/
def State.refsDone (s : State) : Bool := bit s.law.done 8

/-- The inner part of a law engine that registers END, or whose increment was in time (R38): a line thread's waits for OE1's. -/
def innerPart (e : Nat) (s : State) : State :=
  if e < 6 then
    let s := innerRefs s
    if s.refsDone then threadEngine e s else s
  else threadEngine e s

/-- OE1 has no END at its deadline: OE2 to OE5, which wait for its references, have not incremented either (R38). -/
def State.oe1Late (s : State) : Bool :=
  let x := s.engine 1
  !s.refsDone || (x.inCycle && (x.late || decide (x.deadline ≤ s.now)))

/-- A cycle of a thread engine of the law passes its deadline. Whether its increment of the completion count was in time the programs' timing
decides, which the spec bounds but does not state: it is a free value (log entry 98). Where it was, its writes and the LOAD_ALL that it
completes came before the deadline, and R18 then removes its writes from the snapshot. A late OE1 leaves no line thread in time. -/
def lateIncrement (e : Nat) (s : State) : State :=
  if s.builtin && decide (2 ≤ e) && decide (e < 8) && !(s.engineDue e).isEmpty && (decide (6 ≤ e) || !s.oe1Late) then
    (if s.freeVal 1 = 1 then innerPart e s.useFree else s.useFree)
  else s

/-- Of the port writes of a late law engine, up to `n`, a free number came after the deadline: they are dropped and counted (R137; log
entry 98). -/
def lateDrops (e n : Nat) (s : State) : State :=
  let k := s.freeVal 16 % (n + 1)
  let s := s.useFree
  if k = 0 then s
  else ((s.bumpBy (Reg.LATE_WRITES e) k).setFlag (Reg.ENG_STATUS e) F.ENG_STATUS_LATE_WRITE true)

/-- What OE1's program leaves when its END is late: its states; of its words 0x740 to 0x744 those registered on time stand (R138), and
whether all five were is free (log entry 98). -/
def refsLate (s : State) : State :=
  if bit s.law.done 8 then s
  else
    let r := innerLaw s
    let r := { r with law := { r.law with done := s.law.done } }
    if r.freeVal 1 = 1 then r.useFree
    else lateDrops 1 5 { r.useFree with mem := s.mem, memo := s.memo, serial := s.serial, portSerial := s.portSerial }

/-- What a law engine's program has done when its END is registered; a late one leaves its states in data SRAM, but no port write after
its deadline counts (R137, log entries 60 and 98), and OE0's buffers do not switch (R39). -/
def lawWork (e : Nat) (late : Bool) (s : State) : State :=
  if !s.builtin || 8 ≤ e then s
  else if e = 0 then
    let r := outerLaw s
    if late then lateDrops 0 65535 (r.setLaw { r.law with next := s.law.next }) else r
  else if e = 1 then (if late then refsLate s else innerLaw s)
  else if late then
    let ts := s.engineDue e
    if ts.isEmpty then s
    else
      let r := threadLoops ts s
      lateDrops e ((ts.map fun t => (r.thread t).writes.length).foldl (· + ·) 2) r
  else innerPart e s

/-- A cycle whose deadline lies before `d` passes it: what is registered at the deadline tick itself is still on time (R16). A shutdown that
waits for it ends at the deadline (R138, R150). -/
def passDeadline (d : Instant) (e : Nat) (s : State) : State :=
  let x := s.engine e
  if x.inCycle && !x.late && decide (x.deadline < d) then
    let s := missDeadline e (lateIncrement e s)
    if x.stopping then endPhase e s else s
  else s

/-- The deadline of the inner cycle that alarm `n` started: every law engine that has not ended by its own has missed, then policy and
the pair decide. -/
def innerDeadline (d : Instant) (n : Nat) (s : State) : State :=
  let s := s.setLaw { s.law with innerDue := s.law.innerDue.filter fun d => d.1 != n }
  let s := s.forEach ((List.range 16).filter s.lawEngine) (passDeadline d)
  let missed := s.law.missed.contains n
  let s := missPolicy missed (s.setLaw { s.law with missed := s.law.missed.filter (· != n) })
  if s.builtin then pairDeadline s else s

/-- The inner deadlines before `d`, the oldest cycle first. -/
def innerDeadlineDue (d : Instant) (s : State) : State :=
  s.forEach (s.law.innerDue.filter fun x => decide (x.2 < d)) fun x s => innerDeadline d x.1 s

/-- What has missed its deadline at a tick, before any transfer at its look-ahead instant (R139, R19): END and writes registered at the tick
come before this, a wrap after it. -/
def deadlinesAt (t : Instant) (s : State) : State :=
  innerDeadlineDue (t + 1) (s.forEach (List.range 16) (passDeadline (t + 1)))

/-- DEADLINE_PASS: the deadline tick of an engine's cycle, and of the inner cycle. -/
def execDeadlinePass (e : Fin 16) (t : Instant) (s : State) : Host.Outcome State Fault Refusal :=
  let s := s.advance t
  .next (innerDeadlineDue s.now (passDeadline s.now e s))

/-! ## Alarms (R320 to R322, R136) -/

/-- A delivered instance is counted; the next one of a periodic alarm is placed, a single alarm is disabled (R320, R321). -/
def alarmDelivered (n : Nat) (i : Instant × Bool) (s : State) : State :=
  let s := s.setAlarm n { s.alarm n with insts := (s.alarm n).insts.drop 1, n := (s.alarm n).n + 1 }
  let s := s.bump (Reg.TA_COUNT n)
  let s := if i.2 then s.setFlag (Reg.TA_STATUS n) F.TA_STATUS_LATE true else s
  match s.fld (Reg.TA_CFG n) F.TA_CFG_MODE with
  | 0 => placeInst n (i.1 + s.taPeriod n) false s
  | 2 => s.setFld (Reg.TA_CFG n) F.TA_CFG_EN 0
  | _ => s

/-- An instance of alarm `n` that starts law engines begins an inner cycle: its deadline, the latest of theirs, is fixed. -/
def innerBegin (n : Nat) (i : Instant) (s : State) : State :=
  -- the deadline of the cycle that the last instance began has passed
  let s := if s.law.innerDue.any fun d => d.1 == n then innerDeadline s.now n s else s
  match s.innerEngines n with
  | [] => s
  | es => s.setLaw { s.law with innerDue := s.law.innerDue ++ [(n, es.foldl (fun d e => max d (s.deadlineOf e n i)) 0)] }

/-- An instance of TA0 also applies a state vector that waits, and the angle of the built-in law advances (R378, R39). -/
def innerStart (n : Nat) (i : Instant) (s : State) : State :=
  let s := innerBegin n i s
  if n = 0 then
    let s := vectorDue s
    if s.builtin then advanceTheta s else s
  else s

/-- An instance of the alarm that HB_ALARM names, while the built-in law is disabled: heartbeat, and every VEC_DIV-th time a state
vector (R370, R378). -/
def heartbeatAlarm (s : State) : State :=
  let s := s.setPair { s.pair with hbCount := (s.pair.hbCount + 1) % 2 ^ 32 }
  let s := pairDeadline s
  if s.pair.hbCount % s.reg Reg.VEC_DIV = 0 ∨ s.pair.vecWanted then sendVector s else s

/-- An instance of alarm `n`: it is counted, starts its engines, triggers the acquisition, and carries the heartbeat. -/
def alarmInstance (n : Nat) (i : Instant × Bool) (s : State) : State :=
  let beats := !s.builtin && s.reg Reg.HB_ALARM == n
  let s := innerStart n i.1 (alarmDelivered n i s)
  let s := s.forEach ((List.range 16).filter fun e => s.reg (Reg.ENABLE e) == 1 && s.reg (Reg.ALARM e) == n) fun e s => startCycle e n i.1 s
  let s := raiseTrig (0x10 + n) i.1 s
  if beats then heartbeatAlarm s else s

/-- TIME_ALARM: the next instance of alarm `n` is delivered at `t`. -/
def execTimeAlarm (n : Fin 16) (t : Instant) (s : State) : Host.Outcome State Fault Refusal :=
  match (s.alarm n).insts with
  | [] => .next s
  | i :: _ => if t < i.1 then .next s else .next (alarmInstance n i (s.advance t))

/-! ## End of a cycle (R38, R39, R132) -/

/-- An outer cycle has ended on time (R39, R86, R89, R378). -/
def outerOnTime (s : State) : State :=
  let s := (s.setLs F.LAW_STATUS_OUTER_MISS false).setLaw { s.law with outerMissRun := 0, outerOk := s.law.outerOk || s.mode == mHOLD }
  if s.builtin then sendVector s else s

/-- END_REGISTERED: both queues of an engine that has reached END are empty. -/
def execEndRegistered (e : Fin 16) (t : Instant) (s : State) : Host.Outcome State Fault Refusal :=
  let x := s.engine e
  if !x.inCycle || x.wait != .ending || !x.drained then .next s
  else
    let outer := s.outerEngine e
    let s := s.advance t
    let late := x.late || decide (x.deadline < s.tickCeil s.now)
    let s := slack e (endPhase e (lawWork e late (if late && !x.late then missDeadline e (lateIncrement e s) else s)))
    .next (if !late && outer then outerOnTime s else s)

/-! ## Events of the carriers (R156) -/

/-- CARRIER_EVENT_DELIVER: the oldest event of a carrier reaches its real time, its look-ahead instant plus EDGE_OFS_ACT. -/
def execCarrierEventDeliver (s : State) : Host.Outcome State Fault Refusal :=
  match s.pwm.events with
  | [] => .next s
  | ev :: rest =>
    let at_ : Instant := ((ev.at_ : Int) + s.edgeOfs).toNat
    let s := { s.advance at_ with pwm := { s.pwm with events := rest } }
    .next (raiseTrig ((if ev.isMatch then 0x30 else 0x20) + ev.cg) at_ s)

/-! ## Starts and wraps of carriers (R19, R139, R152, R153) -/

/-- The state at the instant at which look-ahead time reaches `la`, with the deadlines that lie no later passed. -/
def lookAhead (la : Instant) (s : State) : State := deadlinesAt (la - s.lead) (s.advance (la - s.lead))

/-- CARRIER_START: the carriers scheduled for `ts` start together (R153). -/
def execCarrierStart (ts : Instant) (s : State) : Host.Outcome State Fault Refusal :=
  if (s.startingAt ts).isEmpty then .next s
  else
    let s := lookAhead ts s
    .next ((s.forEach (s.startingAt ts) (startCarrier ts)).setReg Reg.CG_START 2)

/-- CARRIER_WRAP: a carrier's count reaches PER (R152); a soft stop ends with the transfer of its snapshot (R65). -/
def execCarrierWrap (n : Fin 16) (s : State) : Host.Outcome State Fault Refusal :=
  if !(s.carrier n).running then .next s
  else
    let s := lookAhead (s.carrier n).wrapAt s
    .next (if (s.carrier n).running then softStopCheck (wrapCarrier n s) else s)

end Sys2Proof.Machine
end

