-- ==== Sys2Proof/Machine/Engines.lean ====
section
/-!
DEFINITION. The instructions of the Octyr engines (05_octyr_engines.md, Table 5-4): each acts where the engine is in its
control phase and waits for nothing.
-/

namespace Sys2Proof.Machine

/-! ## Accumulators (R123) -/

def acc40 (v : Int) : W40 := BitVec.ofInt 40 v

def execMpy (e : Fin 16) (a : Fin 4) (xs xt : Fin 16) (s : State) : Host.Outcome State Fault Refusal :=
  .next (regOp e (fun x => x.setA a (acc40 (mulQ (x.xr xs) (x.xr xt)))) s)

def execMac (e : Fin 16) (a : Fin 4) (xs xt : Fin 16) (s : State) : Host.Outcome State Fault Refusal :=
  .next (regOp e (fun x => x.setA a (acc40 ((x.ar a).toInt + mulQ (x.xr xs) (x.xr xt)))) s)

def execMsu (e : Fin 16) (a : Fin 4) (xs xt : Fin 16) (s : State) : Host.Outcome State Fault Refusal :=
  .next (regOp e (fun x => x.setA a (acc40 ((x.ar a).toInt - mulQ (x.xr xs) (x.xr xt)))) s)

/-- An instruction that reads `n` data words: it goes on with them, or traps with 0x04. -/
def withWords (e : Fin 16) (m : AddrMode) (n : Nat) (f : List W16 → Engine → Engine) (s : State) : State :=
  engExec e (fun s =>
    let x := s.engine e
    let r := dataWords e ((List.range n).map (x.addr m)) s
    match r.1 with
    | some l => engSet e (fun x => ((f l x).postMod m).next) r.2
    | none => engTrap e 4 r.2) s

def execMacm (e : Fin 16) (a : Fin 4) (d : Fin 16) (m : AddrMode) (s : State) : Host.Outcome State Fault Refusal :=
  .next (withWords e m 1 (fun l x => x.setA a (acc40 ((x.ar a).toInt + mulQ (x.xr d) (listGet 0 l 0)))) s)

def execAdda (e : Fin 16) (a b : Fin 4) (s : State) : Host.Outcome State Fault Refusal :=
  .next (regOp e (fun x => x.setA a (x.ar a + x.ar b)) s)

def execSuba (e : Fin 16) (a b : Fin 4) (s : State) : Host.Outcome State Fault Refusal :=
  .next (regOp e (fun x => x.setA a (x.ar a - x.ar b)) s)

def execAddas (e : Fin 16) (a b : Fin 4) (s : State) : Host.Outcome State Fault Refusal :=
  .next (regOp e (fun x =>
    let r := sat40 ((x.ar a).toInt + (x.ar b).toInt)
    (x.setA a r.1).stick flSAT r.2) s)

def execMova (e : Fin 16) (a b : Fin 4) (s : State) : Host.Outcome State Fault Refusal :=
  .next (regOp e (fun x => x.setA a (x.ar b)) s)

def execNega (e : Fin 16) (a : Fin 4) (s : State) : Host.Outcome State Fault Refusal :=
  .next (regOp e (fun x => x.setA a (-x.ar a)) s)

def execAbsa (e : Fin 16) (a : Fin 4) (s : State) : Host.Outcome State Fault Refusal :=
  .next (regOp e (fun x => x.setA a (acc40 (x.ar a).toInt.natAbs)) s)

def execClra (e : Fin 16) (a : Fin 4) (s : State) : Host.Outcome State Fault Refusal :=
  .next (regOp e (fun x => x.setA a 0) s)

/-- A shift count within its range (R127). -/
def shiftIn (sh : BitVec 8) (lo hi : Int) : Bool := decide (lo ≤ sh.toInt) && decide (sh.toInt ≤ hi)

def execSatr (e d : Fin 16) (a : Fin 4) (sh : BitVec 8) (s : State) : Host.Outcome State Fault Refusal :=
  .next (engExec e (needs e (shiftIn sh (-8) 7) (engSet e fun x =>
    let r := sat16 (satrI (x.ar a) sh.toInt)
    ((x.setX d r.1).stick flSAT r.2).next)) s)

def execLda (e : Fin 16) (a : Fin 4) (xs : Fin 16) (sh : BitVec 8) (s : State) : Host.Outcome State Fault Refusal :=
  .next (engExec e (needs e (shiftIn sh (-16) 7) (engSet e fun x =>
    (x.setA a (acc40 (shiftI ((x.xr xs).toInt) (16 + sh.toInt)))).next)) s)

def execSha (e : Fin 16) (a : Fin 4) (sh : BitVec 8) (round : Bool) (s : State) : Host.Outcome State Fault Refusal :=
  .next (engExec e (needs e (shiftIn sh (-32) 31) (engSet e fun x =>
    let v := (x.ar a).toInt
    (x.setA a (acc40 (if round then shiftRoundI v sh.toInt else shiftI v sh.toInt))).next)) s)

/-! ## The ALU and shifts (R450) -/

/-- A wrapping operation of two registers. -/
def wrapOp (e d xs xt : Fin 16) (f : Int → Int → Int) (s : State) : State :=
  regOp e (fun x =>
    let r := wrap16 (f (x.xr xs).toInt (x.xr xt).toInt)
    x.setXF d r.1 r.2) s

/-- A saturating operation. -/
def satOp (e d xs xt : Fin 16) (f : Int → Int → Int) (s : State) : State :=
  regOp e (fun x =>
    let r := sat16 (f (x.xr xs).toInt (x.xr xt).toInt)
    (x.setXF d r.1 false).stick flSAT r.2) s

/-- A logical operation. -/
def bitOp (e d xs xt : Fin 16) (f : W16 → W16 → W16) (s : State) : State :=
  regOp e (fun x => x.setXF d (f (x.xr xs) (x.xr xt)) false) s

def execAdd (e d xs xt : Fin 16) (s : State) : Host.Outcome State Fault Refusal := .next (wrapOp e d xs xt (· + ·) s)
def execSub (e d xs xt : Fin 16) (s : State) : Host.Outcome State Fault Refusal := .next (wrapOp e d xs xt (· - ·) s)
def execAdds (e d xs xt : Fin 16) (s : State) : Host.Outcome State Fault Refusal := .next (satOp e d xs xt (· + ·) s)
def execSubs (e d xs xt : Fin 16) (s : State) : Host.Outcome State Fault Refusal := .next (satOp e d xs xt (· - ·) s)
def execAndX (e d xs xt : Fin 16) (s : State) : Host.Outcome State Fault Refusal := .next (bitOp e d xs xt (· &&& ·) s)
def execOrX (e d xs xt : Fin 16) (s : State) : Host.Outcome State Fault Refusal := .next (bitOp e d xs xt (· ||| ·) s)
def execXorX (e d xs xt : Fin 16) (s : State) : Host.Outcome State Fault Refusal := .next (bitOp e d xs xt (· ^^^ ·) s)
def execMinX (e d xs xt : Fin 16) (s : State) : Host.Outcome State Fault Refusal :=
  .next (bitOp e d xs xt (fun a b => if a.toInt ≤ b.toInt then a else b) s)
def execMaxX (e d xs xt : Fin 16) (s : State) : Host.Outcome State Fault Refusal :=
  .next (bitOp e d xs xt (fun a b => if a.toInt ≤ b.toInt then b else a) s)
def execNegX (e d xs : Fin 16) (s : State) : Host.Outcome State Fault Refusal := .next (wrapOp e d xs xs (fun a _ => -a) s)
def execAbsX (e d xs : Fin 16) (s : State) : Host.Outcome State Fault Refusal := .next (wrapOp e d xs xs (fun a _ => a.natAbs) s)
def execNotX (e d xs : Fin 16) (s : State) : Host.Outcome State Fault Refusal := .next (bitOp e d xs xs (fun a _ => ~~~a) s)
def execAluMov (e d xs : Fin 16) (s : State) : Host.Outcome State Fault Refusal := .next (bitOp e d xs xs (fun a _ => a) s)

/-- A shift of n = 0 to 16 places; any other IMM8 is reserved. -/
def shiftOp (e : Fin 16) (n : BitVec 8) (f : Engine → Engine) (s : State) : State :=
  engExec e (needs e (decide (n.toNat ≤ 16)) (engSet e fun x => (f x).next)) s

def execAsr (e d xs : Fin 16) (n : BitVec 8) (s : State) : Host.Outcome State Fault Refusal :=
  .next (shiftOp e n (fun x => x.setXF d ((x.xr xs).sshiftRight n.toNat) false) s)

def execLsr (e d xs : Fin 16) (n : BitVec 8) (s : State) : Host.Outcome State Fault Refusal :=
  .next (shiftOp e n (fun x => x.setXF d ((x.xr xs) >>> n.toNat) false) s)

def execLsl (e d xs : Fin 16) (n : BitVec 8) (s : State) : Host.Outcome State Fault Refusal :=
  .next (shiftOp e n (fun x =>
    let r := wrap16 ((x.xr xs).toInt * 2 ^ n.toNat)
    x.setXF d r.1 r.2) s)

def execLsls (e d xs : Fin 16) (n : BitVec 8) (s : State) : Host.Outcome State Fault Refusal :=
  .next (shiftOp e n (fun x =>
    let r := sat16 ((x.xr xs).toInt * 2 ^ n.toNat)
    (x.setXF d r.1 false).stick flSAT r.2) s)

/-! ## Limits, residuals, division, sine and cosine -/

/-- A value clamped between two bounds; what comes of a lower bound above the upper one the spec does not say, so it is the
free value `fr`. -/
def clampOpen (v lo hi fr : Int) : Int := if lo ≤ hi then clampI lo hi v else fr

def execLimit (e d xs xt : Fin 16) (s : State) : Host.Outcome State Fault Refusal :=
  .next (engExec e (fun s =>
    let fr := sget 16 (s.freeVal 16)
    engSet e (fun x =>
      let v := (x.xr d).toInt
      let r := clampOpen v (x.xr xs).toInt (x.xr xt).toInt fr
      ((x.setX d (BitVec.ofInt 16 r)).flag flLIM (r != v)).next) s.useFree) s)

def execLima (e : Fin 16) (a : Fin 4) (xs xt : Fin 16) (s : State) : Host.Outcome State Fault Refusal :=
  .next (engExec e (fun s =>
    let fr := sget 40 (s.freeVal 40)
    engSet e (fun x =>
      let v := (x.ar a).toInt
      let r := clampOpen v ((x.xr xs).toInt * 65536) ((x.xr xt).toInt * 65536) fr
      ((x.setA a (acc40 r)).flag flLIM (r != v)).next) s.useFree) s)

def execSlew (e d xs : Fin 16) (s : State) : Host.Outcome State Fault Refusal :=
  .next (regOp e (fun x =>
    let v := (x.xr d).toInt
    let m : Int := min v.natAbs (x.xr xs).toInt.natAbs
    let r := if 0 < v then v - m else v + m
    (x.setX d (BitVec.ofInt 16 r)).flag flRES (r != 0)) s)

def execPreset (e d : Fin 16) (a : Fin 4) (xs xt : Fin 16) (s : State) : Host.Outcome State Fault Refusal :=
  .next (engExec e (needs e (d.1 % 2 == 0) fun s =>
    let fr := sget 16 (s.freeVal 16)
    engSet e (fun x =>
      let q := sat16 (roundQ (x.ar a))
      let r := clampOpen q.1.toInt (x.xr xs).toInt (x.xr xt).toInt fr
      let t := sat16 (q.1.toInt - r)
      let x := (x.setX d (BitVec.ofInt 16 r)).setX (d + 1) t.1
      (((x.stick flSAT (q.2 || t.2)).flag flLIM (r != q.1.toInt)).flag flRES (t.1 != 0)).next) s.useFree) s)

def execDivq (e d xs xt : Fin 16) (s : State) : Host.Outcome State Fault Refusal :=
  .next (regOp e (fun x =>
    let n := x.xr xs
    let v := x.xr xt
    if v = 0 then (x.setX d (if n.msb then 0x8000#16 else 0x7FFF#16)).stick flDZ true
    else
      let r := divQ n v
      (x.setX d r.1).stick flSAT r.2) s)

/-- SCOS: within 2 LSB of cosine and sine; which code it is the spec leaves open. -/
def execScos (e d xs : Fin 16) (s : State) : Host.Outcome State Fault Refusal :=
  .next (engExec e (needs e (d.1 % 2 == 0) fun s =>
    let c1 := s.freeVal 2
    let s := s.useFree
    let c2 := s.freeVal 2
    engSet e (fun x =>
      let n := (x.xr xs).toNat
      ((x.setX d (cosWithin n c1)).setX (d + 1) (cosWithin (n + 49152) c2)).next) s.useFree) s)

/-! ## Immediates, address registers, moves -/

def execLdi (e d : Fin 16) (imm : BitVec 16) (s : State) : Host.Outcome State Fault Refusal :=
  .next (regOp e (fun x => x.setX d imm) s)

def execAddi (e d : Fin 16) (imm : BitVec 16) (s : State) : Host.Outcome State Fault Refusal :=
  .next (regOp e (fun x =>
    let r := wrap16 ((x.xr d).toInt + imm.toInt)
    x.setXF d r.1 r.2) s)

def execCmpi (e d : Fin 16) (imm : BitVec 16) (s : State) : Host.Outcome State Fault Refusal :=
  .next (regOp e (fun x =>
    let r := wrap16 ((x.xr d).toInt - imm.toInt)
    x.setF (setZNV x.flags r.1 r.2)) s)

def execLdai (e : Fin 16) (a : Fin 4) (imm : BitVec 16) (s : State) : Host.Outcome State Fault Refusal :=
  .next (regOp e (fun x => x.setA a (acc40 (imm.toInt * 65536))) s)

def execLdpi (e : Fin 16) (p : Fin 8) (imm : BitVec 16) (s : State) : Host.Outcome State Fault Refusal :=
  .next (engExec e (needs e (decide (imm.toNat < 16384)) (engSet e fun x => (x.setP p (imm.setWidth 14)).next)) s)

def execLdpiK (e : Fin 16) (p : Fin 8) (k : BitVec 16) (s : State) : Host.Outcome State Fault Refusal :=
  .next (engExec e (needs e (decide (k.toNat ≤ 14)) (engSet e fun x => (x.setK p (k.setWidth 4)).next)) s)

def execAddpi (e : Fin 16) (p : Fin 8) (imm : BitVec 16) (s : State) : Host.Outcome State Fault Refusal :=
  .next (regOp e (fun x => x.setP p (formAddr (x.pr p) (x.kr p) imm.toInt)) s)

def execMovXP (e d : Fin 16) (p : Fin 8) (s : State) : Host.Outcome State Fault Refusal :=
  .next (regOp e (fun x => x.setX d ((x.pr p).setWidth 16)) s)

def execMovPX (e : Fin 16) (p : Fin 8) (xs : Fin 16) (s : State) : Host.Outcome State Fault Refusal :=
  .next (regOp e (fun x => x.setP p ((x.xr xs).setWidth 14)) s)

def execMovXAlow (e d : Fin 16) (a : Fin 4) (s : State) : Host.Outcome State Fault Refusal :=
  .next (regOp e (fun x => x.setX d ((x.ar a).extractLsb' 0 16)) s)

def execMovXAhigh (e d : Fin 16) (a : Fin 4) (s : State) : Host.Outcome State Fault Refusal :=
  .next (regOp e (fun x => x.setX d ((x.ar a).extractLsb' 16 16)) s)

def execMovXAguard (e d : Fin 16) (a : Fin 4) (s : State) : Host.Outcome State Fault Refusal :=
  .next (regOp e (fun x => x.setX d (((x.ar a).extractLsb' 32 8).signExtend 16)) s)

/-- An accumulator from its three parts. -/
def accOf (lo hi : W16) (g : BitVec 8) : W40 := g ++ hi ++ lo

def execMovAlowX (e : Fin 16) (a : Fin 4) (xs : Fin 16) (s : State) : Host.Outcome State Fault Refusal :=
  .next (regOp e (fun x => x.setA a (accOf (x.xr xs) ((x.ar a).extractLsb' 16 16) ((x.ar a).extractLsb' 32 8))) s)

def execMovAhighX (e : Fin 16) (a : Fin 4) (xs : Fin 16) (s : State) : Host.Outcome State Fault Refusal :=
  .next (regOp e (fun x => x.setA a (accOf ((x.ar a).extractLsb' 0 16) (x.xr xs) ((x.ar a).extractLsb' 32 8))) s)

def execMovAguardX (e : Fin 16) (a : Fin 4) (xs : Fin 16) (s : State) : Host.Outcome State Fault Refusal :=
  .next (regOp e (fun x => x.setA a (accOf ((x.ar a).extractLsb' 0 16) ((x.ar a).extractLsb' 16 16) ((x.xr xs).setWidth 8))) s)

def execMovXFlags (e d : Fin 16) (s : State) : Host.Outcome State Fault Refusal :=
  .next (regOp e (fun x => x.setX d (x.flags.setWidth 16)) s)

def execCmp (e xs xt : Fin 16) (s : State) : Host.Outcome State Fault Refusal :=
  .next (regOp e (fun x =>
    let r := wrap16 ((x.xr xs).toInt - (x.xr xt).toInt)
    x.setF (setZNV x.flags r.1 r.2)) s)

/-! ## Data SRAM (R125, R144) -/

def execLd (e d : Fin 16) (m : AddrMode) (s : State) : Host.Outcome State Fault Refusal :=
  .next (withWords e m 1 (fun l x => x.setX d (listGet 0 l 0)) s)

/-- A word pair needs an even D (R127): the trap, or the instruction itself. -/
def pairD (e d : Fin 16) (instr : State → State) (s : State) : State :=
  if d.1 % 2 = 0 then instr s else engExec e (engTrap e 2) s

/-- The same for what an instruction does once it is fetched. -/
def evenD (e d : Fin 16) (act : State → State) (s : State) : State := engExec e (needs e (d.1 % 2 == 0) act) s

def execLdd (e d : Fin 16) (m : AddrMode) (s : State) : Host.Outcome State Fault Refusal :=
  .next (pairD e d (withWords e m 2 fun l x => (x.setX d (listGet 0 l 0)).setX (d + 1) (listGet 0 l 1)) s)

def execLdacc (e : Fin 16) (a : Fin 4) (m : AddrMode) (s : State) : Host.Outcome State Fault Refusal :=
  .next (withWords e m 3 (fun l x => x.setA a (accOf (listGet 0 l 0) (listGet 0 l 1) ((listGet 0 l 2).setWidth 8))) s)

/-- An instruction that stores words. -/
def storeWords (e : Fin 16) (m : AddrMode) (l : Engine → List W16) (s : State) : State :=
  engExec e (fun s =>
    let x := s.engine e
    let ws := l x
    let s := dataStore e (List.zip ((List.range ws.length).map (x.addr m)) ws) s
    engSet e (fun x => (x.postMod m).next) s) s

def execSt (e d : Fin 16) (m : AddrMode) (s : State) : Host.Outcome State Fault Refusal :=
  .next (storeWords e m (fun x => [x.xr d]) s)

def execStd (e d : Fin 16) (m : AddrMode) (s : State) : Host.Outcome State Fault Refusal :=
  .next (pairD e d (storeWords e m fun x => [x.xr d, x.xr (d + 1)]) s)

def execStacc (e : Fin 16) (a : Fin 4) (m : AddrMode) (s : State) : Host.Outcome State Fault Refusal :=
  .next (storeWords e m (fun x => [(x.ar a).extractLsb' 0 16, (x.ar a).extractLsb' 16 16, ((x.ar a).extractLsb' 32 8).signExtend 16]) s)

/-! ## Ports (R130 to R133, R145) -/

def execInPort (e d : Fin 16) (port : PortRef) (s : State) : Host.Outcome State Fault Refusal :=
  .next (engExec e (fun s => withPort e ((s.engine e).port port) (fun v x => x.setX d (v.setWidth 16)) s) s)

def execInh (e d : Fin 16) (port : PortRef) (s : State) : Host.Outcome State Fault Refusal :=
  .next (engExec e (fun s => withPort e ((s.engine e).port port) (fun v x => x.setX d ((v >>> 16).setWidth 16)) s) s)

def execInd (e d : Fin 16) (port : PortRef) (s : State) : Host.Outcome State Fault Refusal :=
  .next (evenD e d (fun s => withPort e ((s.engine e).port port) (fun v x => x.setPair d v) s) s)

/-- INW returns its word. -/
def inwTake (e : Nat) (d : Fin 16) (p : Nat) (s : State) : State :=
  withPort e p (fun v x => ({ x with wait := .none }).setPair d v) s

def execInw (e d : Fin 16) (port : PortRef) (s : State) : Host.Outcome State Fault Refusal :=
  .next (evenD e d (fun s =>
    let p := (s.engine e).port port
    if s.inwReady e p then inwTake e d p s else engSet e (fun x => { x with wait := .inw p d }) s) s)

/-- INW_COMPLETE: the awaited word is registered (R130, Table 5-6). -/
def execInwComplete (e : Fin 16) (t : Instant) (s : State) : Host.Outcome State Fault Refusal :=
  match (s.engine e).wait with
  | .inw p d => if s.inwReady e p then .next (inwTake e d p (s.advance t)) else .next s
  | _ => .next s

def execOut (e d : Fin 16) (port : PortRef) (s : State) : Host.Outcome State Fault Refusal :=
  .next (engExec e (fun s =>
    let x := s.engine e
    portWrite e (x.port port) ((x.xr d).signExtend 32) s) s)

def execOutd (e d : Fin 16) (port : PortRef) (s : State) : Host.Outcome State Fault Refusal :=
  .next (evenD e d (fun s =>
    let x := s.engine e
    portWrite e (x.port port) (x.pair d) s) s)

def execOuta (e : Fin 16) (a : Fin 4) (port : PortRef) (s : State) : Host.Outcome State Fault Refusal :=
  .next (engExec e (fun s =>
    let x := s.engine e
    portWrite e (x.port port) ((x.ar a).setWidth 32) s) s)

/-- PORT_QUEUE_ROOM: an entry is free, and the waiting write enters the queue (R130). -/
def execPortQueueRoom (e : Fin 16) (t : Instant) (s : State) : Host.Outcome State Fault Refusal :=
  let x := s.engine e
  match x.wait with
  | .room w =>
    if (if isFabric w.port then x.fabQ.length else x.timedQ.length) < 8 then
      let x := if isFabric w.port then { x with fabQ := x.fabQ ++ [w] } else { x with timedQ := x.timedQ ++ [w] }
      .next ((s.advance t).setEngine e ({ x with wait := .none }).next)
    else .next s
  | _ => .next s

/-- A write of an engine reaches its port at a tick, in its place of the block's order. -/
def deliverAt (e : Nat) (t : Instant) (w : PortWrite) (s : State) : State := deliver e w (takePlace (portBlock w.port) e t s)

/-- ATADD: on fabric memory only; the engine's earlier fabric writes come first; past the deadline the write is dropped (R132,
R133, R137). Where a later writer has registered at the tick, the engine's turn at the fabric is the next tick (R131). -/
def execAtadd (e d : Fin 16) (port : PortRef) (s : State) : Host.Outcome State Fault Refusal :=
  .next (evenD e d (fun s =>
    let p := (s.engine e).port port
    if !isFabric p then engTrap e 10 s
    else
      match s.writeTrap e p 0 with
      | 0 =>
        let q := (s.engine e).fabQ
        let s := s.advance (s.tickCeil s.now)
        let s := if s.inOrder 0 e s.now then s else s.advance (s.now + s.tickLen)
        let t := s.now
        let s := q.foldl (fun s w => deliverAt e t w s) (engSet e (fun x => { x with fabQ := [] }) s)
        let r := portRead e p s
        match r.1 with
        | none => engTrap e 4 r.2
        | some old =>
          let x := r.2.engine e
          let sum : W32 := (old.extractLsb' 16 16) ++ (old.setWidth 16 + x.xr (d + 1))
          let s := deliverAt e t ⟨p, sum.toNat⟩ r.2
          engSet e (fun x => (x.setX d (old.setWidth 16)).next) s
      | c => engTrap e c s) s)

def execWaitp (e d : Fin 16) (port : PortRef) (cond : BitVec 4) (s : State) : Host.Outcome State Fault Refusal :=
  .next (engExec e (needs e (decide (1 ≤ cond.toNat) && decide (cond.toNat ≤ 6)) fun s =>
    let x := s.engine e
    let p := x.port port
    if !isFabric p then engTrap e 10 s
    else
      let r := portRead e p s
      match r.1 with
      | none => engTrap e 4 r.2
      | some v =>
        if waitpHolds (v.setWidth 16) (x.xr d) cond then engSet e (fun x => x.next) r.2
        else engSet e (fun x => { x with wait := .waitp p d cond }) r.2) s)

/-- WAITP_COMPLETE: the condition holds (R133). -/
def execWaitpComplete (e : Fin 16) (t : Instant) (s : State) : Host.Outcome State Fault Refusal :=
  let x := s.engine e
  match x.wait with
  | .waitp p d c =>
    let r := portRead e p (s.advance t)
    match r.1 with
    | none => .next (engTrap e 4 r.2)
    | some v => if waitpHolds (v.setWidth 16) (x.xr d) c then .next (engSet e (fun x => ({ x with wait := .none }).next) r.2) else .next s
  | _ => .next s

/-! ## Program flow (R128) -/

def execBranch (e : Fin 16) (cond : BitVec 4) (target : BitVec 13) (s : State) : Host.Outcome State Fault Refusal :=
  .next (engExec e (needs e (decide (cond.toNat ≤ 12)) (engSet e fun x =>
    if condHolds x.flags cond then x.jump target else x.next)) s)

def execCall (e : Fin 16) (target : BitVec 13) (s : State) : Host.Outcome State Fault Refusal :=
  .next (engExec e (fun s =>
    if (s.engine e).calls.length < 4 then engSet e (fun x => { x with calls := (x.pc + 1) :: x.calls }.jump target) s
    else engTrap e 6 s) s)

def execRet (e : Fin 16) (s : State) : Host.Outcome State Fault Refusal :=
  .next (engExec e (fun s =>
    match (s.engine e).calls with
    | [] => engTrap e 6 s
    | r :: t => engSet e (fun x => { x with calls := t }.jump r) s) s)

def execLoop (e : Fin 16) (n : BitVec 9) (target : BitVec 13) (s : State) : Host.Outcome State Fault Refusal :=
  .next (engExec e (fun s =>
    let x := s.engine e
    if target ≤ x.pc then engTrap e 2 s
    else if n = 0 ∨ target = x.pc + 1 then engSet e (fun x => x.goOn target) s
    else if x.loops.length < 2 then
      engSet e (fun x => { x with pc := x.pc + 1, loops := ⟨x.pc + 1, target, n.toNat⟩ :: x.loops }) s
    else engTrap e 7 s) s)

/-- FENCE: every earlier write of the engine is registered, or it waits (R132). -/
def execFence (e : Fin 16) (s : State) : Host.Outcome State Fault Refusal :=
  .next (engExec e (engSet e fun x => if x.drained then x.next else { x with wait := .fence }) s)

def execFenceComplete (e : Fin 16) (t : Instant) (s : State) : Host.Outcome State Fault Refusal :=
  let x := s.engine e
  if x.wait == .fence && x.drained then .next (engSet e (fun x => ({ x with wait := .none }).next) (s.advance t)) else .next s

/-- END: the queues drain; END_REGISTERED follows (R132). -/
def execEndCycle (e : Fin 16) (s : State) : Host.Outcome State Fault Refusal :=
  .next (engExec e (engSet e fun x => { x with wait := .ending }) s)

def execNop (e : Fin 16) (s : State) : Host.Outcome State Fault Refusal := .next (regOp e (fun x => x) s)

/-- TRAP: FAULT_CODE 0x80 + IMM8[6:0]; bit 7 is reserved (R127, R143). -/
def execTrap (e : Fin 16) (code : BitVec 8) (s : State) : Host.Outcome State Fault Refusal :=
  .next (engExec e (engTrap e (if code.toNat < 128 then 128 + code.toNat else 2)) s)

/-- ILLEGAL_INSTRUCTION: a program word that is not well formed traps (R127). -/
def execIllegalInstruction (e : Fin 16) (w : BitVec 32) (s : State) : Host.Outcome State Fault Refusal :=
  match illegalCode w.toNat with
  | some c => .next (engExec e (engTrap e c) s)
  | none => .next s

/-! ## Delivery (R130, R131) -/

/-- A write to a shadow or LOAD_ALL port, which a run of the timed queue may hold. -/
def isPwm (w : PortWrite) : Bool := decide (0x200 ≤ w.port) && decide (w.port < 0x600)

/-- PORT_WRITE_DELIVER: at a periphery tick the fabric queue of an engine delivers its head, or the timed queue a run of up to 4
PWM writes or one other write; the PWM ports take at most 8 writes a tick. Every block registers the writes of a tick in ascending
engine number, so an engine whose turn is past waits for the next tick. -/
def execPortWriteDeliver (e : Fin 16) (fabric : Bool) (t : Instant) (s : State) : Host.Outcome State Fault Refusal :=
  let x := s.engine e
  let turn (w : PortWrite) : Bool := s.inOrder (portBlock w.port) e t
  if !s.onTick t ∨ t < s.now then .next s
  else if fabric then
    match x.fabQ with
    | [] => .next s
    | w :: q => if turn w then .next (deliverAt e t w (engSet e (fun x => { x with fabQ := q }) (s.advance t))) else .next s
  else
    match x.timedQ with
    | [] => .next s
    | w :: q =>
      if t ≤ x.lastTick ∨ !turn w then .next s
      else if !isPwm w then .next (deliverAt e t w (engSet e (fun x => { x with timedQ := q, lastTick := t }) (s.advance t)))
      else
        let used := if s.pwm.pwmTick == t then s.pwm.pwmCount else 0
        let run := (x.timedQ.takeWhile isPwm).take (min 4 (8 - used))
        let s := engSet e (fun x => { x with timedQ := x.timedQ.drop run.length, lastTick := t }) (s.advance t)
        let s := { s with pwm := { s.pwm with pwmTick := t, pwmCount := used + run.length } }
        .next (run.foldl (fun s w => deliverAt e t w s) s)

/-- LOAD_ALL: an engine's LOAD_ALL is registered for the groups of its mask, in the engine's place at its tick (R131, R160), after the
timed writes that the engine queued before it. Past the deadline of the cycle it is dropped and counted (R137). -/
def execLoadAll (e : Fin 16) (mask : BitVec 8) (s : State) : Host.Outcome State Fault Refusal :=
  let t := s.tickCeil s.now
  if !(s.engine e).inCycle || !s.inOrder 2 e t then .next s
  else
    let q := (s.engine e).timedQ
    .next (deliverAt e t ⟨0x220, mask.toNat⟩
      (q.foldl (fun s w => deliverAt e t w s) (engSet e (fun x => { x with timedQ := [] }) (s.advance t))))

end Sys2Proof.Machine
end

