-- ==== Sys2Proof/Machine/Net.lean ====
section
/-!
DEFINITION. The commands of CANopen, Ethernet and the service port (13_object_dictionary.md, R348, R352 to R355, R364, R365; R432).
-/

namespace Sys2Proof.Machine

/-! ## SDO (R352, R360) -/

/-- The SDO server of a controller answers: the port answers, the controller is on and pre-operational or operational (CiA 301). -/
def State.sdoOn (s : State) (can : Nat) : Bool :=
  s.portOpen (4 + can) && s.canOn can && (s.reg (Reg.CAN_STATE can) == 1 || s.reg (Reg.CAN_STATE can) == 2)

/-- The answer to an SDO request with its status; a refusal is counted. -/
def sdoAnswer (can client k st : Nat) (write : Bool) (data : List Byte) (s : State) : State :=
  let s := if st ≠ stOK then s.bump (Reg.REFUSED (4 + can)) else s
  s.emit (.sdo can client k (sdoAbort k st write) data)

/-- A request to the SDO server is accepted. -/
def sdoTake (can client : Nat) (t : Instant) (s : State) : State :=
  touchSession (4 + can) client ((s.advance t).bump (Reg.RX_FRAMES (4 + can)))

/-- SDO_READ. -/
def execSdoRead (can : Fin 4) (client : BitVec 7) (idx : BitVec 16) (sub : BitVec 8) (t : Instant) (s : State) :
    Host.Outcome State Fault Refusal :=
  let k := idx.toNat * 256 + sub.toNat
  if !s.sdoOn can then .next s
  else
    let s := sdoTake can client.toNat t s
    let st := readCheck k
    match objAt k with
    | some o =>
      if st = stOK then
        let s := sdoAnswer can client.toNat k stOK false (valueBytes o.ty (s.readVal k)) s
        .next (if s.level0 && 0x2C20 ≤ k / 256 && k / 256 < 0x2C30 && k % 256 == 1 then s.setFlag k F.ENG_STATUS_MISS false else s)
      else .next (sdoAnswer can client.toNat k st false [] s)
    | none => .next (sdoAnswer can client.toNat k st false [] s)

/-- The client's last journaled write, where it is the one repeated and its acknowledgement is at most RETRY_WIN ago (R360). -/
def State.sdoRepeat (s : State) (can client k v : Nat) : Option JItem :=
  match s.session (4 + can) client with
  | none => none
  | some x =>
    match s.mram.item (4 + can) client x.last with
    | some i => if i.obj = k ∧ i.val = v ∧ s.now ≤ i.at_ + Sys2Proof.ms (s.reg Reg.RETRY_WIN) then some i else none
    | none => none

/-- The number of a client's last journaled write. A node-ID stays a client's after its session has expired, so that the numbers go on behind
those that a stored delta or an item still carries (R361, R426). -/
def State.sdoLast (s : State) (p client : Nat) : Nat :=
  let used := (s.mram.deltas.filter fun d => d.port == p && d.session == client).map (·.jseq)
    ++ (s.mram.journal.filter fun i => i.port == p && i.session == client).map (·.seq)
  match s.session p client with
  | some x => x.last
  | none => used.foldl max 0

/-- An SDO write that is no retransmission: a client's writes of RWS and CMD objects are numbered here. -/
def sdoWriteNew (can client k : Nat) (data : List Byte) (v p : Nat) (s : State) : State :=
  let st := s.writeCheck p k data.length v
  let ses := s.session p client
  let st := if (st = stOK ∨ st = stNotActive) ∧ journaled k ∧ ses.isNone ∧ 16 ≤ s.sessionsOf p then stBusy else st
  if st ≠ stOK then sdoAnswer can client k st true [] (refusedWrite st k v s)
  else if journaled k then
    let s := commitItem p client (s.sdoLast p client + 1) k v s
    if s.mirrors then s else sdoAnswer can client k stOK true [] s
  else sdoAnswer can client k stOK true [] (writeAct k v s).1

/-- SDO_WRITE: the client's writes of RWS and CMD objects are journaled under its node-ID. -/
def sdoWrite (can client k : Nat) (data : List Byte) (s : State) : State :=
  let v := ofBytes data
  let p := 4 + can
  let size := match objAt k with
    | some o => tyBits o.ty
    | none => 0
  match s.sdoRepeat can client k v with
  | some i =>
    if journaled k && 8 * data.length == size then
      let s := s.setReg Reg.J_REPLAYS (s.reg Reg.J_REPLAYS + 1)
      if i.unacked then s else sdoAnswer can client k stOK true [] s
    else sdoWriteNew can client k data v p s
  | none => sdoWriteNew can client k data v p s

def execSdoWrite (can : Fin 4) (client : BitVec 7) (idx : BitVec 16) (sub : BitVec 8) (data : List (BitVec 8)) (t : Instant) (s : State) :
    Host.Outcome State Fault Refusal :=
  if !s.sdoOn can then .next s
  else .next (sdoWrite can client.toNat (idx.toNat * 256 + sub.toNat) data (sdoTake can client.toNat t s))

/-! ## PDOs (R352 to R355) -/

/-- PDOs run on a controller: it is operational. -/
def State.pdoOn (s : State) (can : Nat) : Bool := s.portOpen (4 + can) && s.canOn can && s.reg (Reg.CAN_STATE can) == 2

/-- The PDO with this COB-ID exists (bit 31 clear) and the controller carries it; RPDOs are 0 to 15, TPDOs 16 to 31. -/
def State.carries (s : State) (can j cob : Nat) : Bool := !bit cob 31 && bit (s.reg (Reg.PDO_PORTS j)) can

/-- A COB-ID names an identifier: bit 29 tells an extended frame. -/
def cobIs (cob : Nat) (ext : Bool) (id : Nat) : Bool :=
  bit cob 29 == ext && (if ext then cob % 2 ^ 29 == id else cob % 2 ^ 11 == id)

/-- A frame for an RPDO: values of a synchronous type wait for SYNC; a frame shorter than the mapping is not processed (CiA 301). -/
def rpdoFrame (can i : Nat) (data : List Byte) (s : State) : State :=
  if data.length < entriesLen (s.rpdoEntries i) then s
  else
    let s := rpdoSeen i data s
    let ty := s.reg (Reg.RPDO_TYPE i)
    if 1 ≤ ty ∧ ty ≤ 240 then
      let p := tabGet {} s.net.rpdos i
      s.setNet { s.net with rpdos := tabSet {} s.net.rpdos i { p with held := some data, waits := setBit p.waits can true } }
    else rpdoApply i data s

/-- RPDO: a frame with an identifier reaches every RPDO that has it. -/
def execRpdo (can : Fin 4) (ext : Bool) (id : BitVec 29) (data : List (BitVec 8)) (t : Instant) (s : State) :
    Host.Outcome State Fault Refusal :=
  if !s.pdoOn can then .next s
  else
    let s := s.advance t
    let hit := (List.range 16).filter fun i =>
      s.carries can i (s.reg (Reg.RPDO_COBID i)) && cobIs (s.reg (Reg.RPDO_COBID i)) ext id.toNat
    .next (s.forEach hit fun i s => rpdoFrame can i data s)

/-- RPDO_LATE: no frame within the event timer. -/
def execRpdoLate (i : Fin 16) (t : Instant) (s : State) : Host.Outcome State Fault Refusal :=
  let timer := s.reg (Reg.RPDO_TIMER i)
  let from_ := (tabGet {} s.net.rpdos i.val).at_.getD s.bootInfo.bootAt
  if s.phase = .running ∧ timer ≠ 0 ∧ !s.regBit (Reg.RPDO_COBID i) 31 ∧ from_ + ms timer ≤ t then
    .next ((s.advance t).setFld (Reg.RPDO_STATUS i) ⟨0, 1⟩ 1)
  else .next s

/-- The bytes of a TPDO: the objects that its entries name, in order. -/
def State.tpdoBytes (s : State) (i : Nat) : List Byte :=
  (s.tpdoEntries i).flatMap fun e => toBytes (e % 256 / 8) (s.readVal (e / 256))

/-- What a controller keeps of a TPDO. -/
def State.tpdo (s : State) (can i : Nat) : Pdo := tabGet {} s.net.tpdos (16 * can + i)
def setTpdo (can i : Nat) (p : Pdo) (s : State) : State := s.setNet { s.net with tpdos := tabSet {} s.net.tpdos (16 * can + i) p }

/-- A TPDO is sent with its bytes on a controller. -/
def tpdoOut (i : Nat) (b : List Byte) (can : Nat) (s : State) : State :=
  let cob := s.reg (Reg.TPDO_COBID i)
  let id := if bit cob 29 then cob % 2 ^ 29 else cob % 2 ^ 11
  setTpdo can i { s.tpdo can i with at_ := some s.now, last := b } (s.emit (.can can id b))

/-- The controllers on which a TPDO can be sent now. -/
def State.tpdoCans (s : State) (i : Nat) : List Nat :=
  (List.range 4).filter fun c => s.pdoOn c && s.carries c (16 + i) (s.reg (Reg.TPDO_COBID i))

/-- An event-driven TPDO is due on a controller: a value has changed or its event timer has run out, and not within its inhibit time. -/
def State.tpdoDue (s : State) (i can : Nat) (t : Instant) : Bool :=
  let p := s.tpdo can i
  let timer := s.reg (Reg.TPDO_TIMER i)
  (s.tpdoBytes i != p.last || timer != 0 && p.at_.all fun a => decide (a + Sys2Proof.ms timer ≤ t))
    && p.at_.all fun a => decide (a + us (100 * s.reg (Reg.TPDO_INHIBIT i)) ≤ t)

/-- TPDO_SEND: an event-driven TPDO is sent on the controllers on which it is due. -/
def execTpdoSend (i : Fin 16) (t : Instant) (s : State) : Host.Outcome State Fault Refusal :=
  let cans := (s.tpdoCans i).filter fun c => s.tpdoDue i c t
  if !cans.isEmpty && decide (0xFE ≤ s.reg (Reg.TPDO_TYPE i)) then
    let s := s.advance t
    .next (s.forEach cans (tpdoOut i (s.tpdoBytes i)))
  else .next s

/-- SYNC reaches an RPDO of a synchronous type on a controller: the newest values are written. -/
def syncRpdo (can i : Nat) (s : State) : State :=
  let p := tabGet {} s.net.rpdos i
  let w := setBit p.waits can false
  match p.held with
  | some d =>
    if bit p.waits can then
      rpdoApply i d (s.setNet { s.net with rpdos := tabSet {} s.net.rpdos i { p with waits := w, held := if w = 0 then none else some d } })
    else s
  | none => s

/-- SYNC reaches a TPDO of type n: every n-th one on the controller sends it. -/
def syncTpdo (can i : Nat) (s : State) : State :=
  let p := s.tpdo can i
  let ty := s.reg (Reg.TPDO_TYPE i)
  if ty = 0 ∨ 240 < ty then s
  else
    let due := decide (ty ≤ p.syncs + 1)
    let r := setTpdo can i { p with syncs := if due then 0 else p.syncs + 1 } s
    if due then tpdoOut i (s.tpdoBytes i) can r else r

/-- CAN_SYNC: the synchronous PDOs that the controller carries. -/
def execCanSync (can : Fin 4) (t : Instant) (s : State) : Host.Outcome State Fault Refusal :=
  if !s.pdoOn can then .next s
  else
    let s := s.advance t
    let s := s.forEach ((List.range 16).filter fun i => s.carries can i (s.reg (Reg.RPDO_COBID i))) (syncRpdo can)
    .next (s.forEach ((List.range 16).filter fun i => s.carries can (16 + i) (s.reg (Reg.TPDO_COBID i))) (syncTpdo can))

/-! ## NMT and bus-off (R352, R353) -/

/-- The state byte of a heartbeat (CiA 301) for CAN_STATE. -/
def nmtByte (n : Nat) : Byte := if n = 2 then 5 else if n = 3 then 4 else 127

/-- HEARTBEAT_PRODUCE: at the period in 0x1017. -/
def execHeartbeatProduce (can : Fin 4) (t : Instant) (s : State) : Host.Outcome State Fault Refusal :=
  let p := s.reg Reg.HEARTBEAT_MS
  if s.portOpen (4 + can) && s.canOn can && p != 0 && decide ((s.can can).hbAt + ms p ≤ t) then
    let s := s.advance t
    .next ((s.setCan can { s.can can with hbAt := s.now }).emit (.can can (0x700 + s.nodeId can) [nmtByte (s.reg (Reg.CAN_STATE can))]))
  else .next s

/-- An NMT command names the controller's node, or all of them. -/
def State.nmtFor (s : State) (can node : Nat) : Bool :=
  s.portOpen (4 + can) && s.canOn can && (node == 0 || node == s.nodeId can)

/-- NMT_RESET_NODE: the communication of the controller restarts. -/
def execNmtResetNode (can : Fin 4) (node : BitVec 8) (t : Instant) (s : State) : Host.Outcome State Fault Refusal :=
  if s.nmtFor can node.toNat then .next (canStart can (s.advance t)) else .next s

/-- NMT_RESET_COMMUNICATION: the same, CAN_CFG takes effect. -/
def execNmtResetCommunication (can : Fin 4) (node : BitVec 8) (t : Instant) (s : State) : Host.Outcome State Fault Refusal :=
  if s.nmtFor can node.toNat then .next (canStart can (s.advance t)) else .next s

/-- NMT_STATE_COMMAND: 1 operational, 2 stopped, 128 pre-operational. -/
def execNmtStateCommand (can : Fin 4) (cmd node : BitVec 8) (t : Instant) (s : State) : Host.Outcome State Fault Refusal :=
  let to_ := if cmd = 1 then 2 else if cmd = 2 then 3 else if cmd = 128 then 1 else 0
  if s.nmtFor can node.toNat && to_ != 0 then .next ((s.advance t).setReg (Reg.CAN_STATE can) to_) else .next s

/-- BUS_OFF: the controller falls silent. -/
def execBusOff (can : Fin 4) (t : Instant) (s : State) : Host.Outcome State Fault Refusal :=
  if s.phase == .running && s.canOn can then
    let s := s.advance t
    .next ((s.setCan can { s.can can with busOff := true, offAt := s.now }).setReg (Reg.CAN_STATE can) 0)
  else .next s

/-- 128 × 11 bits at the nominal bit rate in effect (R353, Table 13-16). -/
def State.busOffTime (s : State) (can : Nat) : Instant := ns (1408 * (8000 / 2 ^ fget F.CAN_CFG_NBR (s.can can).cfg))

/-- BUS_OFF_RESTART: after 128 × 11 recessive bits the controller restarts, pre-operational, with the configuration in effect. -/
def execBusOffRestart (can : Fin 4) (t : Instant) (s : State) : Host.Outcome State Fault Refusal :=
  if (s.can can).busOff && decide ((s.can can).offAt + s.busOffTime can ≤ t) then
    let s := s.advance t
    let s := pdosForget can ((s.setCan can { s.can can with busOff := false, hbAt := s.now }).bump (Reg.BUS_OFF_COUNT can))
    .next ((s.setReg (Reg.CAN_STATE can) 1).emit (.can can (0x700 + s.nodeId can) [0]))
  else .next s

/-! ## SVC (R348) -/

/-- The filtered SERVICE_EN may change at an instant: a periphery tick at which the samples of the last 10 ms show the new level, so that the
last change, or the start, lies that far back (R348; log entry 13). -/
def State.svcRun (s : State) (t : Instant) : Bool := s.onTick t && decide (max s.net.svcAt s.bootInfo.bootAt + Sys2Proof.ms 10 ≤ t)

/-- SERVICE_EN_FALL: SVC stops and its sessions are removed. -/
def execServiceEnFall (t : Instant) (s : State) : Host.Outcome State Fault Refusal :=
  if s.net.svc && s.svcRun t then
    let s := s.advance t
    let s := s.setNet { s.net with svc := false, svcAt := s.now }
    .next (s.forEach ((s.mram.sessions.filter fun x => x.port == 8).map (·.id)) (endSession 8))
  else .next s

/-- SERVICE_EN_RISE: the SVC receiver runs. -/
def execServiceEnRise (t : Instant) (s : State) : Host.Outcome State Fault Refusal :=
  if s.phase == .running && !s.net.svc && s.svcRun t then
    let s := s.advance t
    .next (s.setNet { s.net with svc := true, svcAt := s.now })
  else .next s

/-! ## Ethernet (R364, R365) -/

/-- REDUND_WRITE. -/
def execRedundWrite (v : BitVec 8) (s : State) : Host.Outcome State Fault Refusal := .next (stored Reg.REDUND v.toNat (actRedund v.toNat s))

/-- BEHAVIOUR_LEVEL_WRITE (R432). -/
def execBehaviourLevelWrite (v : BitVec 8) (s : State) : Host.Outcome State Fault Refusal := .next (actLevel v.toNat s).1

/-- The MAC address of a port; the redundant pair has that of ETH0. -/
def State.ethMac (s : State) (p : Nat) : Nat := s.reg (Reg.ETH_MAC (if s.reg Reg.REDUND ≠ 0 ∧ p < 2 then 0 else p))

/-- ARP_REQUEST: a request for the port's address is answered. -/
def execArpRequest (port : Fin 4) (target : BitVec 32) (sender : BitVec 48) (senderIp : BitVec 32) (eth : EthIn) (t : Instant) (s : State) :
    Host.Outcome State Fault Refusal :=
  let r := portIn port eth (s.advance t)
  if !r.1 then .next r.2
  else if target.toNat ≠ r.2.ethNow port 0 then .next r.2
  else .next (ethSend port (fun p h => .eth p 0 h [r.2.ethMac port, target.toNat, sender.toNat, senderIp.toNat]) r.2)

/-- ICMP_ECHO_REQUEST: answered with its data; fragments and frames of more than 1,522 bytes are discarded. -/
def execIcmpEchoRequest (port : Fin 4) (dst src : BitVec 32) (fragment : Bool) (data : List (BitVec 8)) (eth : EthIn) (t : Instant)
    (s : State) : Host.Outcome State Fault Refusal :=
  let r := portIn port eth (s.advance t)
  if !r.1 then .next r.2
  else if fragment || decide (1522 < data.length + r.2.ipOverhead eth) || dst.toNat != r.2.ethNow port 0 then .next r.2
  else .next (ethSend port (fun p h => .eth p 1 h (dst.toNat :: src.toNat :: data.map (·.toNat))) r.2)

/-- PRP_SUPERVISION_SEND: every 2,000 ms on both ports of the redundant pair. -/
def execPrpSupervisionSend (t : Instant) (s : State) : Host.Outcome State Fault Refusal :=
  if s.reg Reg.REDUND != 0 && s.portOpen 0 && decide (s.net.supAt + ms 2000 ≤ t) then
    let s := s.advance t
    let n := s.net.redSeq
    let s := s.setNet { s.net with supAt := s.now }
    .next (ethSend 0 (fun p h => .eth p 2 h [s.reg Reg.REDUND, n]) s)
  else .next s

/-- HSR_RING_FRAME: a ring frame for another device goes on through the other port, once in each direction; the device's own frames and
those seen on this port are discarded. -/
def execHsrRingFrame (arrival : Fin 2) (src : BitVec 48) (seq : BitVec 16) (data : List (BitVec 8)) (t : Instant) (s : State) :
    Host.Outcome State Fault Refusal :=
  if s.reg Reg.REDUND != 2 || !s.portOpen 0 || fget F.ETH_CFG_EN (s.ethNow 0 3) == 0 then .next s
  else
    let s := dupForget (linkSeen arrival (s.advance t))
    if src.toNat = s.ethMac 0 then .next s
    else
      let same (d : Dup) : Bool := d.src == src.toNat && d.seq == seq.toNat
      let out (s : State) : State := s.emit (.eth (1 - arrival.val) 3 ⟨0, some seq.toNat⟩ (src.toNat :: seq.toNat :: data.map (·.toNat)))
      match s.net.dups.find? same with
      | some d =>
        if bit d.lans arrival then .next (s.bump Reg.DUP_DISCARD)
        else
          let l := s.net.dups.map fun d => if same d then { d with lans := setBit d.lans arrival true } else d
          .next (out (s.setNet { s.net with dups := l }))
      | none => .next (out (s.setNet { s.net with dups := (⟨src.toNat, seq.toNat, s.now, setBit 0 arrival true⟩ :: s.net.dups).take 512 }))

end Sys2Proof.Machine
end

