-- ==== Sys2Proof/Machine/Pair.lean ====
section
/-!
DEFINITION. The commands of the duplex pair (14_duplex_pair.md): belay lanes and frames, pair formation and joining, baton commits, solo
claims, the mirrored journal.
-/

namespace Sys2Proof.Machine

/-! ## Lanes and frames (R369, Table 14-1) -/

/-- The belay link runs: the device runs and PD8 is on (R31). -/
def State.belayOn (s : State) : Bool := s.phase == .running && s.regBit Reg.PD_ON 8 && !bit s.clk.relock 2

/-- The UP flag of a belay lane. -/
def blUp (lane : Nat) : Fld := ⟨10 + lane, 1⟩

/-- Something valid arrives on a lane: the lane is UP. -/
def belaySeen (lane : Nat) (s : State) : State :=
  (s.setPs (blUp lane) true).setPair { s.pair with laneAt := tabSet 0 s.pair.laneAt lane s.now }

/-- A valid frame arrives: the first copy of its BSEQ is accepted (none: a copy), the last 64 accepted ones are kept. -/
def belayTake (lane bseq : Nat) (t : Instant) (s : State) : Option State × State :=
  let s := belaySeen lane (s.advance t)
  if s.pair.seqs.contains bseq then (none, s) else (some (s.setPair { s.pair with seqs := (bseq :: s.pair.seqs).take 64 }), s)

/-- A belay frame is received; `f` acts on its first copy in a device of a pair. -/
def belayIn (lane bseq : Nat) (t : Instant) (f : State → State) (s : State) : State :=
  if !s.belayOn then s
  else
    let r := belayTake lane bseq t s
    match r.1 with
    | some s => if s.paired then f s else s
    | none => r.2

/-- The bytes are a belay frame with a correct CRC; the order of the CRC's bytes, most significant first, is that of the header
(log entry 70). -/
def belayFrameOk (f : List Byte) : Bool :=
  let n := fieldBE f 2 2
  f.length == 12 + n && fieldBE f 0 1 == 0xBC && decide (n ≤ 1536) && crc32 (slice f 1 (7 + n)) == fieldBE f (8 + n) 4
where
  /-- A field, most significant byte first. -/
  fieldBE (f : List Byte) (i n : Nat) : Nat := ofBytes (slice f i n).reverse

/-! ## Forming and joining (R368, R375) -/

/-- A device in WAITING whose partner fits, with the link up: it joins a partner that holds the baton; in BASECAMP on both sides
device 0 claims and the other joins. -/
def formPair (s : State) : State :=
  if s.pairState ≠ pWAITING ∨ !s.linkUp ∨ !s.pair.peerOk ∨ s.holds then s
  else
    match s.pair.beat with
    | none => s
    | some b =>
      let join (s : State) : State := (setPairState pJOINING s).setPair { s.pair with joinAt := s.now, joined := 0, errSince := none, vec := none }
      if !s.ps F.PAIR_STATUS_PARTNER_ALIVE then s
      else if bit b.flags 15 then join s
      else if s.mode = mBASECAMP ∧ b.mode = mBASECAMP then if s.duplexId = 0 then startClaim 8 s else join s
      else s

/-- PAIR_FORMATION: what the partner's data show at formation. -/
def pairFormation (idDiffers sameSw sameLevel pEn : Bool) (s : State) : State :=
  if s.pairState ≠ pWAITING ∨ !s.linkUp then s
  else
    let idBad := !idDiffers || s.bootInfo.idUnstable
    let verBad := !(sameSw && sameLevel)
    -- which of the two flags a partner with PAIR_EN = 0 sets the spec does not say
    let open_ := !pEn && !idBad && !verBad
    let pick := decide (s.freeVal 1 = 1)
    let s := if open_ then s.useFree else s
    let idBad := idBad || open_ && pick
    let verBad := verBad || open_ && !pick
    let s := (s.setPs F.PAIR_STATUS_ID_CLASH idBad).setPs F.PAIR_STATUS_VERSION_CLASH verBad
    formPair (s.setPair { s.pair with peerOk := !idBad && !verBad })

def execPairFormation (idDiffers sameSw sameLevel pEn : Bool) (t : Instant) (s : State) : Host.Outcome State Fault Refusal :=
  if s.paired then .next (pairFormation idDiffers sameSw sameLevel pEn (s.advance t)) else .next s

/-- BELAY_LANE_DOWN: nothing valid for 10 µs. A device that joins waits again once the link is down. -/
def execBelayLaneDown (lane : Fin 2) (t : Instant) (s : State) : Host.Outcome State Fault Refusal :=
  if !s.ps (blUp lane) ∨ t < tabGet 0 s.pair.laneAt lane + us 10 then .next s
  else
    let s := ((s.advance t).setPs (blUp lane) false).bump (Reg.BL_DOWN lane)
    if s.linkUp then .next s
    else
      let s := s.setPair { s.pair with downSince := s.now, peerOk := false }
      .next (if s.pairState = pJOINING then setPairState pWAITING s else s)

/-- BELAY_LANE_UP: valid code groups arrive again. -/
def execBelayLaneUp (lane : Fin 2) (t : Instant) (s : State) : Host.Outcome State Fault Refusal :=
  if !s.belayOn then .next s
  else
    let s := belaySeen lane (s.advance t)
    .next (if s.paired then formPair s else s)

/-- PARTNER_JOIN: the configuration, in place of the own one but for the pair-local objects. -/
def joinConfig (vals active : List (Nat × Nat)) (s : State) : State :=
  let isLocal (k : Nat) : Bool := pairLocal k && k != Reg.REDUND
  let rws (k : Nat) : Bool := match objAt k with
    | some o => o.acc == .rws
    | none => false
  let own := (s.mram.config.getD ([], [])).1.filter fun e => isLocal e.1
  let new := vals.filter fun e => rws e.1 && !isLocal e.1
  let s := s.forEach (s.rwsListed.filter fun k => !isLocal k && !(new.any fun e => e.1 == k)) toDefault
  let s := s.forEach (new.filter fun e => s.reg e.1 != e.2) fun e s => takeVal e.1 e.2 s
  let t := new.foldl (fun t e => tabSet (objReset e.1) t e.1 e.2) own
  let a := active.foldl (fun t e => tabSet (objReset e.1) t e.1 e.2) []
  writeSlot t a s.mram.deltaSeq (configTaken a s)

/-- The step of R375 to which a part of JOIN belongs, as `joined` counts them: 1 configuration, 2 journal, 3 carriers. -/
def joinStep (p : JoinPart) : Nat :=
  match p with
  | .config _ _ => 1
  | .image _ _ _ => 1
  | .bank _ _ _ _ => 1
  | .configEnd => 1
  | .item _ _ _ _ _ _ => 2
  | .session _ _ _ => 2
  | .journalEnd => 2
  | .carriers _ _ => 3
  | .carriersEnd => 3

/-- The steps are taken in their order (R375): the one before is complete, the timebase has been stepped first. -/
def State.joinTurn (s : State) (n : Nat) : Bool :=
  s.tf F.TIME_FLAGS_STEPPED && (List.range n).all (fun i => i = 0 || bit s.pair.joined i) && !bit s.pair.joined n

/-- What a part of JOIN does (R375, steps 2 to 4). -/
def joinPart (p : JoinPart) (s : State) : State :=
  let done (i : Nat) (s : State) : State := s.setPair { s.pair with joined := setBit s.pair.joined i true }
  match p with
  | .config vals active => joinConfig vals active s
  | .image e prog data =>
    let tab (l : List (Nat × Nat)) : Tab Nat := l.foldl (fun t x => tabSet 0 t x.1 x.2) []
    let im : Image := ⟨tab prog, tab data⟩
    let m := s.mram
    (s.setStore { m with images := tabSet {} m.images e im, hasImage := tabSet false m.hasImage e true }).setReg (Reg.IMG_INFO e)
      (crc32 (imageBytes im))
  | .bank k b desc coefs =>
    { s with filt := { s.filt with
        coefs := tabSet (if b.val = 0 then [0x4000] else []) s.filt.coefs (2 * k.val + b.val) coefs } }.setReg (bankReg k b) desc
  | .configEnd => done 1 (s.setStore { s.mram with journal := [], sessions := [] })
  | .item port session seq obj val result =>
    let it : JItem := { port := port, session := session, seq := seq, obj := obj, val := val, at_ := s.now, result := result, mirror := true }
    s.setStore { s.mram with journal := s.mram.journal ++ [it] }
  | .session port id last => putSession ⟨port, id, last, s.now⟩ s
  | .journalEnd => done 2 (s.setStore { s.mram with applied := (s.pair.beat.map (·.applied)).getD s.mram.applied })
  | .carriers mask startAt =>
    let ts := s.ofShared startAt
    stepDeferred <| s.forEach ((bitsOf 16 mask.toNat).filter fun n => !(s.carrier n).running) fun n s =>
      let s := s.setCarrier n { s.carrier n with startAt := some ts }
      carrierAlarmFix n 0 (ts + s.reg (Reg.CG_PH_ACT n) % (max 1 (s.per16 n)) * sixteenth) s.now s
  | .carriersEnd => done 3 s

/-- A part of JOIN is taken where its step is the present one. -/
def joinTake (p : JoinPart) (s : State) : State :=
  if s.pairState = pJOINING ∧ s.joinTurn (joinStep p) then refreshPending (joinPart p s) else s

def execPartnerJoin (lane : Fin 2) (bseq : BitVec 32) (part : JoinPart) (t : Instant) (s : State) : Host.Outcome State Fault Refusal :=
  .next (belayIn lane bseq.toNat t (joinTake part) s)

/-- The START_AT at which a stopped carrier wraps with the running carrier `n` of this device: a wrap of it less PH mod PER (R153). Which of
its wraps is the active device's choice, which the spec leaves open. -/
def State.joinStart (s : State) (n : Nat) : Nat :=
  let c := s.carrier n
  let per := max 1 (s.per16 n) * sixteenth
  s.toShared (c.wrapAt + (1 + s.freeVal 16) * per - s.reg (Reg.CG_PH_ACT n) * sixteenth % per)

/-- What the active device sends to one that joins, in the order of R375. -/
def State.joinParts (s : State) : List JoinPart :=
  let m := s.mram
  let banks := (List.finRange 40).flatMap fun k => (List.finRange 2).map fun b => JoinPart.bank k b (s.reg (bankReg k b)) (s.coefs k b)
  [.config ((m.config.getD ([], [])).1.filter fun e => !pairLocal e.1 || e.1 == Reg.REDUND) s.law.active]
    ++ ((List.finRange 16).filter (fun (e : Fin 16) => tabGet false m.hasImage e)).map
      (fun (e : Fin 16) => let im := tabGet {} m.images e; JoinPart.image e im.prog im.data)
    ++ banks ++ [.configEnd] ++ (m.journal.filter (!·.void)).map (fun i => .item i.port i.session i.seq i.obj i.val i.result)
    ++ m.sessions.map (fun x => .session x.port x.id x.last) ++ [.journalEnd]
    ++ ((List.range 16).filter fun n => (s.carrier n).running).map (fun n => .carriers (BitVec.ofNat 16 (2 ^ n)) (s.joinStart n))
    ++ [.carriersEnd]

/-- The partner has entered JOINING: the active device sends it what it joins with (R375, Table 14-2). -/
def joinSend (s : State) : State :=
  s.useFree.forEach s.joinParts fun p s => belayOut (fun q => .join q p s.now) s

/-- JOIN_COMPLETE: the five parts are complete and PAIR_TIME_ERR has held for 100 ms. -/
def execJoinComplete (t : Instant) (s : State) : Host.Outcome State Fault Refusal :=
  let steady := s.pair.errSince.any fun a => decide (a + ms 100 ≤ t)
  if s.pairState = pJOINING ∧ s.pair.joined / 2 % 16 = 15 ∧ s.tf F.TIME_FLAGS_STEPPED ∧ steady then
    .next (setSynced true ((setPairState pSTANDBY (s.advance t)).setPs F.PAIR_STATUS_DIVERGED false))
  else .next s

/-! ## Time transfer (R380) -/

/-- A timestamp at the belay balls: TIME64 and its fraction at the last edge tick (R380). -/
def State.belayStamp (s : State) : Int := ((s.toShared s.now / edgeTick * edgeTick / 65536 : Nat) : Int)

/-- The offset to the active device, in 2^-16 ns, is formed (R380). How PAIR_TIME_ERR rounds it the spec does not say. -/
def pairOffset (o : Int) (s : State) : State :=
  let inside := decide (o.natAbs ≤ 65536)
  let s := (setOpen Reg.PAIR_TIME_ERR 32 true ((o : Rat) * 1000 / 65536) s).setPs F.PAIR_STATUS_TIME_OK inside
  let s := s.setPair { s.pair with errSince := if inside then some (s.pair.errSince.getD s.now) else none }
  validOffset o s.now s

/-- PARTNER_TIME: a TIME frame of the partner. Its reception is kept for the next own frame; with the own frame that it answers it is an
exchange, from which a device without the baton forms its offset as PTP does. -/
def partnerTime (x : TimeIn) (s : State) : State :=
  let own := s.belayStamp
  let sent := s.pair.timeTx
  let s := s.setPair { s.pair with timeRx := some own }
  match x.rx, sent with
  | some r, some t3 =>
    let s := s.setPair { s.pair with timeTx := none }
    if s.holds ∨ s.pairState = pWAITING then s else pairOffset (((own - x.tx) - (r - t3)) / 2) s
  | _, _ => s

def execPartnerTime (lane : Fin 2) (bseq : BitVec 32) (x : TimeIn) (t : Instant) (s : State) : Host.Outcome State Fault Refusal :=
  .next (belayIn lane bseq.toNat t (partnerTime x) s)

/-- TIME_EXCHANGE_SEND: every 1 ms a TIME frame with its own timestamp and that of the partner's last frame. -/
def execTimeExchangeSend (t : Instant) (s : State) : Host.Outcome State Fault Refusal :=
  if s.belayOn && s.paired && s.linkUp && decide (s.pair.timeAt + ms 1 ≤ t) then
    let s := s.advance t
    let rx := match s.pair.timeRx with
      | some r => [1, r.toNat]
      | none => [0, 0]
    .next (belaySend 0x30 (s.belayStamp.toNat :: rx) (s.setPair { s.pair with timeAt := s.now, timeTx := some s.belayStamp }))
  else .next s

/-! ## The mirrored journal (R381, R382) -/

/-- The mirrored items that wait. -/
def JItem.waitsMirror (i : JItem) : Bool := i.result.isNone && !i.void && i.mirror

/-- The oldest mirrored item is applied as the active device has applied it, with its recorded RESULT. The record of that is mirrored
(log entry 75); where it has not arrived the RESULT is free. An RWS item is stored; a CMD item starts nothing. -/
def applyMirrored (s : State) : State :=
  match s.mram.journal.find? JItem.waitsMirror with
  | none => s
  | some i =>
    let r := i.told.getD (s.freeVal 8)
    let s := refreshPending (mapItem i.port i.session i.seq (fun x => { x with result := some r }) (if i.told.isSome then s else s.useFree))
    let s := s.setStore { s.mram with applied := s.mram.applied + 1 }
    let isRws : Bool := match objAt i.obj with
      | some o => o.acc == .rws
      | none => false
    if r = stOK ∧ isRws then
      let w := writeAct i.obj i.val s
      let s := if w.2 = stOK then w.1 else s.setReg i.obj i.val
      addDelta ⟨s.mram.deltaSeq + 1, i.obj, i.val, none, i.port, i.session, i.seq⟩ s
    else s

/-- Items that the active device has applied are applied here, in commit order. -/
def mirrorApplied (applied : Nat) (s : State) : State :=
  let n := min (applied - s.mram.applied) (s.mram.journal.countP JItem.waitsMirror)
  s.forEach (List.range n) fun _ s => applyMirrored s

/-- J_ITEM: an item, or an internal record, is committed by the standby, which answers J_ACK. -/
def jItemIn (port session seq obj val : Nat) (rec_ : Option (Nat × List Nat)) (s : State) : State :=
  let ready := s.pairState == pSTANDBY || (s.pairState == pJOINING && bit s.pair.joined 2)
  if s.holds || !ready then s
  else
    match rec_ with
    | some (what, vals) =>
      match what == noteResult, vals with
      | true, [port, session, seq, result] => mapItem port session seq (fun x => { x with told := some result }) s
      | _, _ => s.setStore { s.mram with notes := ⟨what, s.now, vals⟩ :: s.mram.notes }
    | none =>
      let it : JItem := { port := port, session := session, seq := seq, obj := obj, val := val, at_ := s.now, mirror := true }
      let s := s.setStore { s.mram with journal := s.mram.journal ++ [it] }
      let s := s.setReg Reg.J_COMMITTED (s.reg Reg.J_COMMITTED + 1)
      belaySend 0x11 [port, session, seq] <| refreshPending (trimItems port session seq (putSession ⟨port, session, seq, s.now⟩ s))

def execJItem (lane : Fin 2) (bseq : BitVec 32) (jport : Fin 10) (session seq : BitVec 32) (idx : BitVec 16) (sub : BitVec 8)
    (v : BitVec 64) (rec : Option (Nat × List Nat)) (t : Instant) (s : State) : Host.Outcome State Fault Refusal :=
  .next (belayIn lane bseq.toNat t (jItemIn jport session.toNat seq.toNat (idx.toNat * 256 + sub.toNat) v.toNat rec) s)

/-- The response to a client whose item is acknowledged or refused: an NDP frame, or the SDO answer of a CAN port. -/
def clientAnswer (i : JItem) (status : Nat) (s : State) : State :=
  let s := if status ≠ stOK then s.bump (Reg.REFUSED i.port) else s
  if 4 ≤ i.port ∧ i.port < 8 then s.emit (.sdo (i.port - 4) i.session i.obj (sdoAbort i.obj status true) [])
  else if i.port = 8 ∧ !s.net.svc then s
  else if status = stOK then ndpSend i.port i.from_ (ndpFrame 0x82 stOK 1 i.session i.seq (toBytes 1 0xFF)) s
  else ndpSend i.port i.from_ (ndpFrame 0x82 status 0 i.session i.seq []) s

/-- J_ACK: the active device acknowledges the client; the item may be applied. -/
def jAckIn (port session seq : Nat) (s : State) : State :=
  match s.mram.item port session seq with
  | some i =>
    if i.unacked && !i.void then
      clientAnswer i stOK (mapItem port session seq (fun x => { x with unacked := false, at_ := s.now }) s)
    else s
  | none => s

def execJAck (lane : Fin 2) (bseq : BitVec 32) (jport : Fin 10) (session seq : BitVec 32) (t : Instant) (s : State) :
    Host.Outcome State Fault Refusal :=
  .next (belayIn lane bseq.toNat t (jAckIn jport session.toNat seq.toNat) s)

/-- An item is withdrawn: its void record is committed, its sequence number is not consumed. -/
def voidItem (port session seq : Nat) (s : State) : State :=
  let s := mapItem port session seq (fun x => { x with void := true, unacked := false }) s
  let s := match s.session port session with
    | some x => if seq ≤ x.last then putSession { x with last := seq - 1 } s else s
    | none => s
  refreshPending s

/-- J_ACK_TIMEOUT: no J_ACK within 300 µs. The request is refused with BUSY, and so is journaled work from then on. -/
def execJAckTimeout (t : Instant) (s : State) : Host.Outcome State Fault Refusal :=
  match s.mram.journal.find? fun i => i.unacked && !i.void with
  | none => .next s
  | some i =>
    if t < i.at_ + us 300 then .next s
    else
      let s := belaySend 0x12 [i.port, i.session, i.seq] (voidItem i.port i.session i.seq (s.advance t))
      .next (setMirrorLost true (clientAnswer i stBusy s))

/-- J_VOID: a mirrored item is withdrawn. -/
def jVoidIn (port session seq : Nat) (s : State) : State :=
  match s.mram.item port session seq with
  | some i => if i.mirror && i.result.isNone then voidItem port session seq s else s
  | none => s

def execJVoid (lane : Fin 2) (bseq : BitVec 32) (jport : Fin 10) (session seq : BitVec 32) (t : Instant) (s : State) :
    Host.Outcome State Fault Refusal :=
  .next (belayIn lane bseq.toNat t (jVoidIn jport session.toNat seq.toNat) s)

/-- PARTNER_DICT: an NDP request on port 9; answers to requests of this device are Zeset's own. -/
def partnerDict (f : List Byte) (s : State) : State :=
  if 0x80 ≤ fieldOf f 3 1 then s
  else if !s.portOpen 9 then s
  else if !ndpFrameOk f || s.rateFull 9 then s.bump (Reg.RX_DROPPED 9)
  else ndpIn (fun _ => true) 9 f ⟨0, 0, 0, 0, {}⟩ s.now s

def execPartnerDict (lane : Fin 2) (bseq : BitVec 32) (frame : List (BitVec 8)) (t : Instant) (s : State) :
    Host.Outcome State Fault Refusal :=
  .next (belayIn lane bseq.toNat t (partnerDict frame) s)

/-! ## Heartbeats, vectors, faults (R370, R378, R379, R383) -/

/-- A HEARTBEAT payload (Table 14-3). -/
def beatOf (p : List Byte) (synced : Bool) : Beat :=
  let g (i n : Nat) : Nat := ofBytes (slice p i n).reverse
  { cycle := g 0 4, tx := g 4 2, known := g 6 2, mode := g 8 1, state := g 9 1, flags := g 10 2, modeSeq := g 12 4, applied := g 16 8,
    dcrc := g 24 4, synced := synced }

/-- CYCLE counts the inner cycles of the law; a device that follows takes the count of the active one from a heartbeat, once its own law runs
and while no inner cycle of it is open (log entry 115). -/
def alignCycle (b : Beat) (s : State) : State :=
  if s.holds || !s.builtin || s.pair.aligned || s.mode == mBASECAMP || s.law.cycle == 0 || s.law.innerDue.any (fun d => d.1 == 0) then s
  else
    (s.setLaw { s.law with cycle := b.cycle }).setPair { s.pair with
      aligned := true, snaps := (s.pair.snaps.take 1).map fun x => (b.cycle, x.2), dcrcs := (s.pair.dcrcs.take 1).map fun x => (b.cycle, x.2) }

/-- What a device that holds the baton does for a partner that joins or asks for a vector (R375, R379). -/
def servePartner (b : Beat) (before : Option Beat) (s : State) : State :=
  if !s.holds then s
  else
    let s := if b.state = pSTANDBY && !bit b.flags 14 then s.setPair { s.pair with vecWanted := true } else s
    if b.state = pJOINING && !(before.any fun x => x.state == pJOINING) then joinSend s else s

/-- A received heartbeat: the partner is alive, its baton numbers are learned, mirrored items that it has applied are applied; a SYNCED
partner ends MIRROR_LOST and SOLO; a standby whose partner does not hold the baton has lost sync (R371, R375, R381, R382). -/
def heartbeatIn (b : Beat) (s : State) : State :=
  let before := s.pair.beat
  let s := s.setPair { s.pair with
    beat := some b, beatSeen := true, ignore := if b.known ≤ s.reg Reg.BATON_KNOWN then 0 else s.pair.ignore }
  let s := s.setPs F.PAIR_STATUS_PARTNER_ALIVE true
  let s := servePartner b before (alignCycle b (learnBaton false (max b.tx b.known) s))
  let s := if s.holds && bit b.flags 14 then setMirrorLost false (s.setPs F.PAIR_STATUS_SOLO false) else s
  let s := if !s.holds && bit b.flags 15 then mirrorApplied b.applied s else s
  let s := if s.pairState = pSTANDBY && !bit b.flags 15 && s.pair.claim.isNone then setPairState pWAITING (setSynced false s) else s
  formPair s

/-- PARTNER_HEARTBEAT: the bytes of a frame on a lane. A frame with a wrong CRC is refused and counted. -/
def execPartnerHeartbeat (lane : Fin 2) (frame : List (BitVec 8)) (t : Instant) (s : State) : Host.Outcome State Fault Refusal :=
  if !s.belayOn then .next s
  else if !belayFrameOk frame then .next ((s.advance t).bump (Reg.BL_CRC_ERR lane))
  else
    let bseq := ofBytes (slice frame 4 4).reverse
    let beat (s : State) : State :=
      if ofBytes (slice frame 1 1) = 0x01 ∧ frame.length = 40 then
        heartbeatIn (beatOf (slice frame 8 28) (s.ps F.PAIR_STATUS_SYNCED)) s
      else s
    .next (belayIn lane bseq t beat s)

/-- STATE_VECTOR: it is applied at the start of the next inner cycle; where no inner cycle runs, in BASECAMP, at once (R59; log entry 97). -/
def execPartnerStateVector (lane : Fin 2) (bseq : BitVec 32) (v : StateVec) (t : Instant) (s : State) : Host.Outcome State Fault Refusal :=
  .next (belayIn lane bseq.toNat t
    (fun s =>
      if s.pairState = pJOINING ∧ s.joinTurn 4 ∨ s.pairState = pJOINING ∧ bit s.pair.joined 4 ∨ s.pairState = pSTANDBY then
        let s := s.setPair { s.pair with vec := some v }
        if s.mode = mBASECAMP then vectorDue s else s
      else s) s)

/-- FAULT: a failover cause for the standby's next inner deadline. -/
def execPartnerFault (lane : Fin 2) (bseq : BitVec 32) (cause : BitVec 8) (t : Instant) (s : State) : Host.Outcome State Fault Refusal :=
  .next (belayIn lane bseq.toNat t
    (fun s => if s.pairState = pSTANDBY then s.setPair { s.pair with fault := some cause.toNat } else s) s)

/-- HEARTBEAT_MISS_LIMIT: the partner is alive no longer; a standby decides a takeover. -/
def execHeartbeatMissLimit (t : Instant) (s : State) : Host.Outcome State Fault Refusal :=
  if s.paired && s.pairState != pSINGLE && decide (s.reg Reg.HB_MISS_N ≤ s.pair.missed) then
    let s := s.advance t
    let s :=
      if s.ps F.PAIR_STATUS_PARTNER_ALIVE then
        (s.setPs F.PAIR_STATUS_PARTNER_ALIVE false).setPair { s.pair with deadAt := s.now }
      else s
    .next (takeover 1 s)
  else .next s

/-! ## Batons (R371 to R374, R376, R386) -/

/-- A BATON frame: a number is learned; after a renumbering it replaces the numbers known before. -/
def batonIn (number : Nat) (renum : Bool) (s : State) : State :=
  if renum && !s.holds then
    refreshBatonTx ((s.setPair { s.pair with ignore := s.reg Reg.BATON_KNOWN }).setReg Reg.BATON_KNOWN number)
  else learnBaton false number s

def execPartnerBaton (lane : Fin 2) (bseq : BitVec 32) (number : BitVec 16) (renum : Bool) (t : Instant) (s : State) :
    Host.Outcome State Fault Refusal :=
  .next (belayIn lane bseq.toNat t (batonIn number.toNat renum) s)

/-- The commit of a claim fails: it does not take effect, and the device is without the baton (R372). One that held it has given its number up
with the claim (log entry 115); a device of a pair then waits. -/
def claimFailed (c : Claim) (s : State) : State :=
  let s := if c.cause = 10 then s.setReg Reg.BATON_RENUMBER 3 else s
  let s := (s.setPs F.PAIR_STATUS_BATON_COMMIT_FAIL true).setPair { s.pair with claim := none }
  if !s.holds then s
  else
    let s := armRefused 10 { s with holds := false }
    refreshBatonTx (if s.paired then setPairState pWAITING s else s)

/-- BATON_COMMIT: the commit of a claim completes or fails. -/
def execBatonCommit (ok : Bool) (t : Instant) (s : State) : Host.Outcome State Fault Refusal :=
  match s.pair.claim with
  | none => .next s
  | some c =>
    .next (if ok then claimDone c (s.advance t) else claimFailed c (s.advance t))

/-- SOLO_CLAIM: no up link for PARTNER_WAIT, twice that for device 1, and no enabled lane has shown a baton in that time. -/
def execSoloClaim (t : Instant) (s : State) : Host.Outcome State Fault Refusal :=
  let w := ms (s.reg Reg.PARTNER_WAIT) * (1 + s.duplexId)
  let alone := s.pair.batonSeen.all fun a => decide (a + w ≤ t)
  if s.phase == .running && s.paired && s.pairState == pWAITING && !s.linkUp && s.reg Reg.SOLO_ALLOW == 1 && !s.bootInfo.idUnstable
      && decide (s.pair.downSince + w ≤ t) && alone then .next (startClaim 9 (s.advance t))
  else .next s

/-- SOLO_DELAY_EXPIRY: the active device accepts work alone. -/
def execSoloDelayExpiry (t : Instant) (s : State) : Host.Outcome State Fault Refusal :=
  if s.paired && s.holds && s.reg Reg.SOLO_ALLOW == 1 && !s.ps F.PAIR_STATUS_PARTNER_ALIVE
      && decide (s.pair.deadAt + sec (s.reg Reg.SOLO_DELAY) ≤ t) then
    .next (setMirrorLost false ((s.advance t).setPs F.PAIR_STATUS_SOLO true))
  else .next s

end Sys2Proof.Machine
end

