-- ==== Sys2Proof/Machine/Dispatch.lean ====
section
/-!
DEFINITION. The effect of every command on everything but the queue: one arm per constructor, one call per arm.
-/

namespace Sys2Proof.Machine

def exec (i : Instr) (s : State) : Host.Outcome State Fault Refusal :=
  match i with
  | .registerWrite port idx sub v => Sys2Proof.Machine.execRegisterWrite port idx sub v s
  | .resetRelease start => Sys2Proof.Machine.execResetRelease start s
  | .rstNReset t => Sys2Proof.Machine.execRstNReset t s
  | .vddUndervoltageReset t => Sys2Proof.Machine.execVddUndervoltageReset t s
  | .scaLockstepMismatch t => Sys2Proof.Machine.execScaLockstepMismatch t s
  | .scbLockstepMismatch t => Sys2Proof.Machine.execScbLockstepMismatch t s
  | .scbResume t => Sys2Proof.Machine.execScbResume t s
  | .blockShutdownComplete b t => Sys2Proof.Machine.execBlockShutdownComplete b t s
  | .blockStartupComplete b t => Sys2Proof.Machine.execBlockStartupComplete b t s
  | .timeAlarm n t => Sys2Proof.Machine.execTimeAlarm n t s
  | .deadlinePass e t => Sys2Proof.Machine.execDeadlinePass e t s
  | .endRegistered e t => Sys2Proof.Machine.execEndRegistered e t s
  | .portWriteDeliver e fabric t => Sys2Proof.Machine.execPortWriteDeliver e fabric t s
  | .mpy e a xs xt => Sys2Proof.Machine.execMpy e a xs xt s
  | .mac e a xs xt => Sys2Proof.Machine.execMac e a xs xt s
  | .msu e a xs xt => Sys2Proof.Machine.execMsu e a xs xt s
  | .macm e a d m => Sys2Proof.Machine.execMacm e a d m s
  | .adda e a b => Sys2Proof.Machine.execAdda e a b s
  | .suba e a b => Sys2Proof.Machine.execSuba e a b s
  | .addas e a b => Sys2Proof.Machine.execAddas e a b s
  | .mova e a b => Sys2Proof.Machine.execMova e a b s
  | .nega e a => Sys2Proof.Machine.execNega e a s
  | .absa e a => Sys2Proof.Machine.execAbsa e a s
  | .clra e a => Sys2Proof.Machine.execClra e a s
  | .satr e d a sh => Sys2Proof.Machine.execSatr e d a sh s
  | .lda e a xs sh => Sys2Proof.Machine.execLda e a xs sh s
  | .sha e a sh round => Sys2Proof.Machine.execSha e a sh round s
  | .add e d xs xt => Sys2Proof.Machine.execAdd e d xs xt s
  | .sub e d xs xt => Sys2Proof.Machine.execSub e d xs xt s
  | .adds e d xs xt => Sys2Proof.Machine.execAdds e d xs xt s
  | .subs e d xs xt => Sys2Proof.Machine.execSubs e d xs xt s
  | .andX e d xs xt => Sys2Proof.Machine.execAndX e d xs xt s
  | .orX e d xs xt => Sys2Proof.Machine.execOrX e d xs xt s
  | .xorX e d xs xt => Sys2Proof.Machine.execXorX e d xs xt s
  | .minX e d xs xt => Sys2Proof.Machine.execMinX e d xs xt s
  | .maxX e d xs xt => Sys2Proof.Machine.execMaxX e d xs xt s
  | .negX e d xs => Sys2Proof.Machine.execNegX e d xs s
  | .absX e d xs => Sys2Proof.Machine.execAbsX e d xs s
  | .notX e d xs => Sys2Proof.Machine.execNotX e d xs s
  | .aluMov e d xs => Sys2Proof.Machine.execAluMov e d xs s
  | .asr e d xs n => Sys2Proof.Machine.execAsr e d xs n s
  | .lsr e d xs n => Sys2Proof.Machine.execLsr e d xs n s
  | .lsl e d xs n => Sys2Proof.Machine.execLsl e d xs n s
  | .lsls e d xs n => Sys2Proof.Machine.execLsls e d xs n s
  | .limit e d xs xt => Sys2Proof.Machine.execLimit e d xs xt s
  | .lima e a xs xt => Sys2Proof.Machine.execLima e a xs xt s
  | .slew e d xs => Sys2Proof.Machine.execSlew e d xs s
  | .preset e d a xs xt => Sys2Proof.Machine.execPreset e d a xs xt s
  | .divq e d xs xt => Sys2Proof.Machine.execDivq e d xs xt s
  | .scos e d xs => Sys2Proof.Machine.execScos e d xs s
  | .ldi e d imm => Sys2Proof.Machine.execLdi e d imm s
  | .addi e d imm => Sys2Proof.Machine.execAddi e d imm s
  | .cmpi e d imm => Sys2Proof.Machine.execCmpi e d imm s
  | .ldai e a imm => Sys2Proof.Machine.execLdai e a imm s
  | .ldpi e p imm => Sys2Proof.Machine.execLdpi e p imm s
  | .ldpiK e p k => Sys2Proof.Machine.execLdpiK e p k s
  | .addpi e p imm => Sys2Proof.Machine.execAddpi e p imm s
  | .movXP e d p => Sys2Proof.Machine.execMovXP e d p s
  | .movPX e p xs => Sys2Proof.Machine.execMovPX e p xs s
  | .movXAlow e d a => Sys2Proof.Machine.execMovXAlow e d a s
  | .movXAhigh e d a => Sys2Proof.Machine.execMovXAhigh e d a s
  | .movXAguard e d a => Sys2Proof.Machine.execMovXAguard e d a s
  | .movAlowX e a xs => Sys2Proof.Machine.execMovAlowX e a xs s
  | .movAhighX e a xs => Sys2Proof.Machine.execMovAhighX e a xs s
  | .movAguardX e a xs => Sys2Proof.Machine.execMovAguardX e a xs s
  | .movXFlags e d => Sys2Proof.Machine.execMovXFlags e d s
  | .cmp e xs xt => Sys2Proof.Machine.execCmp e xs xt s
  | .ld e d m => Sys2Proof.Machine.execLd e d m s
  | .st e d m => Sys2Proof.Machine.execSt e d m s
  | .ldd e d m => Sys2Proof.Machine.execLdd e d m s
  | .std e d m => Sys2Proof.Machine.execStd e d m s
  | .ldacc e a m => Sys2Proof.Machine.execLdacc e a m s
  | .stacc e a m => Sys2Proof.Machine.execStacc e a m s
  | .inPort e d port => Sys2Proof.Machine.execInPort e d port s
  | .inh e d port => Sys2Proof.Machine.execInh e d port s
  | .ind e d port => Sys2Proof.Machine.execInd e d port s
  | .inw e d port => Sys2Proof.Machine.execInw e d port s
  | .inwComplete e t => Sys2Proof.Machine.execInwComplete e t s
  | .out e d port => Sys2Proof.Machine.execOut e d port s
  | .outd e d port => Sys2Proof.Machine.execOutd e d port s
  | .outa e a port => Sys2Proof.Machine.execOuta e a port s
  | .portQueueRoom e t => Sys2Proof.Machine.execPortQueueRoom e t s
  | .atadd e d port => Sys2Proof.Machine.execAtadd e d port s
  | .waitp e d port cond => Sys2Proof.Machine.execWaitp e d port cond s
  | .waitpComplete e t => Sys2Proof.Machine.execWaitpComplete e t s
  | .branch e cond target => Sys2Proof.Machine.execBranch e cond target s
  | .call e target => Sys2Proof.Machine.execCall e target s
  | .ret e => Sys2Proof.Machine.execRet e s
  | .loop e n target => Sys2Proof.Machine.execLoop e n target s
  | .fence e => Sys2Proof.Machine.execFence e s
  | .fenceComplete e t => Sys2Proof.Machine.execFenceComplete e t s
  | .endCycle e => Sys2Proof.Machine.execEndCycle e s
  | .nop e => Sys2Proof.Machine.execNop e s
  | .trap e code => Sys2Proof.Machine.execTrap e code s
  | .illegalInstruction e w => Sys2Proof.Machine.execIllegalInstruction e w s
  | .engineLoad e => Sys2Proof.Machine.execEngineLoad e s
  | .loadComplete e t => Sys2Proof.Machine.execLoadComplete e t s
  | .engineEnable e => Sys2Proof.Machine.execEngineEnable e s
  | .engineDisable e => Sys2Proof.Machine.execEngineDisable e s
  | .engineStatusRead e => Sys2Proof.Machine.execEngineStatusRead e s
  | .engineClear e => Sys2Proof.Machine.execEngineClear e s
  | .lawBuiltinSet => Sys2Proof.Machine.execLawBuiltinSet s
  | .lawBuiltinClear => Sys2Proof.Machine.execLawBuiltinClear s
  | .imgWrite => Sys2Proof.Machine.execImgWrite s
  | .imgCommit => Sys2Proof.Machine.execImgCommit s
  | .mbInWrite m n v => Sys2Proof.Machine.execMbInWrite m n v s
  | .applyStaged => Sys2Proof.Machine.execApplyStaged s
  | .baseWrite side sub v => Sys2Proof.Machine.execBaseWrite side sub v s
  | .outerCycleStart t => Sys2Proof.Machine.execOuterCycleStart t s
  | .modeCmdBasecamp => Sys2Proof.Machine.execModeCmdBasecamp s
  | .modeCmdArmed => Sys2Proof.Machine.execModeCmdArmed s
  | .modeCmdForm => Sys2Proof.Machine.execModeCmdForm s
  | .modeCmdStart => Sys2Proof.Machine.execModeCmdStart s
  | .modeCmdSync => Sys2Proof.Machine.execModeCmdSync s
  | .armTimeout t => Sys2Proof.Machine.execArmTimeout t s
  | .detectorConfirm t => Sys2Proof.Machine.execDetectorConfirm t s
  | .limitRecovery t => Sys2Proof.Machine.execLimitRecovery t s
  | .ovTripTimeout t => Sys2Proof.Machine.execOvTripTimeout t s
  | .limitMaxTimeout t => Sys2Proof.Machine.execLimitMaxTimeout t s
  | .holdoverTimeout t => Sys2Proof.Machine.execHoldoverTimeout t s
  | .pjFollowEnd t => Sys2Proof.Machine.execPjFollowEnd t s
  | .kviReturnEnd t => Sys2Proof.Machine.execKviReturnEnd t s
  | .softStopComplete t => Sys2Proof.Machine.execSoftStopComplete t s
  | .dcLinkTrip t => Sys2Proof.Machine.execDcLinkTrip t s
  | .brkStateAged t => Sys2Proof.Machine.execBrkStateAged t s
  | .missRunLimit t => Sys2Proof.Machine.execMissRunLimit t s
  | .holdMissesLimit t => Sys2Proof.Machine.execHoldMissesLimit t s
  | .holdTimeExpiry t => Sys2Proof.Machine.execHoldTimeExpiry t s
  | .holdRecover t => Sys2Proof.Machine.execHoldRecover t s
  | .engineRomReload e t => Sys2Proof.Machine.execEngineRomReload e t s
  | .estimateWindowEnd t => Sys2Proof.Machine.execEstimateWindowEnd t s
  | .estimateStale t => Sys2Proof.Machine.execEstimateStale t s
  | .settleComplete t => Sys2Proof.Machine.execSettleComplete t s
  | .startAbort t => Sys2Proof.Machine.execStartAbort t s
  | .syncHoldExpiry t => Sys2Proof.Machine.execSyncHoldExpiry t s
  | .closeWinExpiry t => Sys2Proof.Machine.execCloseWinExpiry t s
  | .syncAbort t => Sys2Proof.Machine.execSyncAbort t s
  | .frameStartDetect t => Sys2Proof.Machine.execFrameStartDetect t s
  | .cadSlotStart t => Sys2Proof.Machine.execCadSlotStart t s
  | .cadReady u t => Sys2Proof.Machine.execCadReady u t s
  | .cadEnergiseNext u t => Sys2Proof.Machine.execCadEnergiseNext u t s
  | .cadHold u t => Sys2Proof.Machine.execCadHold u t s
  | .cadResync u t => Sys2Proof.Machine.execCadResync u t s
  | .cadDone u t => Sys2Proof.Machine.execCadDone u t s
  | .frameDiscard t => Sys2Proof.Machine.execFrameDiscard t s
  | .holdTExpiry t => Sys2Proof.Machine.execHoldTExpiry t s
  | .resyncTExpiry t => Sys2Proof.Machine.execResyncTExpiry t s
  | .joinTExpiry t => Sys2Proof.Machine.execJoinTExpiry t s
  | .cadCmdReady => Sys2Proof.Machine.execCadCmdReady s
  | .cadCmdEnergiseNext => Sys2Proof.Machine.execCadCmdEnergiseNext s
  | .cadCmdHold => Sys2Proof.Machine.execCadCmdHold s
  | .cadCmdResync => Sys2Proof.Machine.execCadCmdResync s
  | .cadCmdDone => Sys2Proof.Machine.execCadCmdDone s
  | .cadEnClear => Sys2Proof.Machine.execCadEnClear s
  | .cgStart mask => Sys2Proof.Machine.execCgStart mask s
  | .carrierStart ts => Sys2Proof.Machine.execCarrierStart ts s
  | .cgStop mask => Sys2Proof.Machine.execCgStop mask s
  | .carrierWrap n => Sys2Proof.Machine.execCarrierWrap n s
  | .cgEvtMatch n => Sys2Proof.Machine.execCgEvtMatch n s
  | .carrierEventDeliver => Sys2Proof.Machine.execCarrierEventDeliver s
  | .compareMatch c t => Sys2Proof.Machine.execCompareMatch c t s
  | .deadTimeExpiry c => Sys2Proof.Machine.execDeadTimeExpiry c s
  | .interlockRelease c t => Sys2Proof.Machine.execInterlockRelease c t s
  | .loadAll e mask => Sys2Proof.Machine.execLoadAll e mask s
  | .swWrite => Sys2Proof.Machine.execSwWrite s
  | .swLoadAll mask => Sys2Proof.Machine.execSwLoadAll mask s
  | .pwmClear => Sys2Proof.Machine.execPwmClear s
  | .tripDecision n t => Sys2Proof.Machine.execTripDecision n t s
  | .tripAutoClear n t => Sys2Proof.Machine.execTripAutoClear n t s
  | .tripClear mask => Sys2Proof.Machine.execTripClear mask s
  | .tripCfgWrite n v => Sys2Proof.Machine.execTripCfgWrite n v s
  | .forceOffWrite j v => Sys2Proof.Machine.execForceOffWrite j v s
  | .edgeEventEnqueue => Sys2Proof.Machine.execEdgeEventEnqueue s
  | .downlinkFrame k t => Sys2Proof.Machine.execDownlinkFrame k t s
  | .uplinkFrame k bytes t => Sys2Proof.Machine.execUplinkFrame k bytes t s
  | .uplinkTimeout k t => Sys2Proof.Machine.execUplinkTimeout k t s
  | .laneFaultRelease k t => Sys2Proof.Machine.execLaneFaultRelease k t s
  | .glClear mask => Sys2Proof.Machine.execGlClear mask s
  | .guAccessTimeout k t => Sys2Proof.Machine.execGuAccessTimeout k t s
  | .guSetupRetry k t => Sys2Proof.Machine.execGuSetupRetry k t s
  | .guWrite => Sys2Proof.Machine.execGuWrite s
  | .guRead => Sys2Proof.Machine.execGuRead s
  | .laneEnable k => Sys2Proof.Machine.execLaneEnable k s
  | .laneDisable k => Sys2Proof.Machine.execLaneDisable k s
  | .laneStartComplete k t => Sys2Proof.Machine.execLaneStartComplete k t s
  | .trainReset mask => Sys2Proof.Machine.execTrainReset mask s
  | .trainCodeStore t => Sys2Proof.Machine.execTrainCodeStore t s
  | .ldEnable n t => Sys2Proof.Machine.execLdEnable n t s
  | .ldBootstrapReady n vbst t => Sys2Proof.Machine.execLdBootstrapReady n vbst t s
  | .ldBootstrapTimeout n t => Sys2Proof.Machine.execLdBootstrapTimeout n t s
  | .ldModeWrite n m t => Sys2Proof.Machine.execLdModeWrite n m t s
  | .ldFollowEdge n => Sys2Proof.Machine.execLdFollowEdge n s
  | .ldRefresh n vbst t => Sys2Proof.Machine.execLdRefresh n vbst t s
  | .ldBstuv n vbst t => Sys2Proof.Machine.execLdBstuv n vbst t s
  | .ldFaultRetry n t => Sys2Proof.Machine.execLdFaultRetry n t s
  | .sdEnable n t => Sys2Proof.Machine.execSdEnable n t s
  | .sdCpReady n t => Sys2Proof.Machine.execSdCpReady n t s
  | .sdCpuv n t => Sys2Proof.Machine.execSdCpuv n t s
  | .sdFaultRetry n t => Sys2Proof.Machine.execSdFaultRetry n t s
  | .drvClear mask => Sys2Proof.Machine.execDrvClear mask s
  | .vdrvUndervoltage mv t => Sys2Proof.Machine.execVdrvUndervoltage mv t s
  | .vdrvRecover mv t => Sys2Proof.Machine.execVdrvRecover mv t s
  | .adcTrigger => Sys2Proof.Machine.execAdcTrigger s
  | .swtrigRegular n => Sys2Proof.Machine.execSwtrigRegular n s
  | .swtrigInjected n => Sys2Proof.Machine.execSwtrigInjected n s
  | .stepStart => Sys2Proof.Machine.execStepStart s
  | .conversionEnd => Sys2Proof.Machine.execConversionEnd s
  | .resultRegistered a nv raw t => Sys2Proof.Machine.execResultRegistered a nv raw t s
  | .adcTrgDecision p rising t => Sys2Proof.Machine.execAdcTrgDecision p rising t s
  | .trgTimeout p t => Sys2Proof.Machine.execTrgTimeout p t s
  | .inputStale a t => Sys2Proof.Machine.execInputStale a t s
  | .owTestStart a t => Sys2Proof.Machine.execOwTestStart a t s
  | .owPhaseEnd a nv t => Sys2Proof.Machine.execOwPhaseEnd a nv t s
  | .owPeriodExpiry a t => Sys2Proof.Machine.execOwPeriodExpiry a t s
  | .calStartupComplete offs gains t => Sys2Proof.Machine.execCalStartupComplete offs gains t s
  | .calTurnEnd off gain ppm t => Sys2Proof.Machine.execCalTurnEnd off gain ppm t s
  | .calForce mask => Sys2Proof.Machine.execCalForce mask s
  | .calForceWithdraw t => Sys2Proof.Machine.execCalForceWithdraw t s
  | .adcEnable => Sys2Proof.Machine.execAdcEnable s
  | .adcDisable => Sys2Proof.Machine.execAdcDisable s
  | .adcClear => Sys2Proof.Machine.execAdcClear s
  | .trgCfgWrite p v => Sys2Proof.Machine.execTrgCfgWrite p v s
  | .sdcCfgWrite p v => Sys2Proof.Machine.execSdcCfgWrite p v s
  | .sdcFreqMeasure p khz t => Sys2Proof.Machine.execSdcFreqMeasure p khz t s
  | .sdcClockStale p t => Sys2Proof.Machine.execSdcClockStale p t s
  | .sdcClockResume p t => Sys2Proof.Machine.execSdcClockResume p t s
  | .sdiStuck n t => Sys2Proof.Machine.execSdiStuck n t s
  | .sdiUnstuck n t => Sys2Proof.Machine.execSdiUnstuck n t s
  | .cicOutput k bits t => Sys2Proof.Machine.execCicOutput k bits t s
  | .laneOutput k t => Sys2Proof.Machine.execLaneOutput k t s
  | .laneCfgWrite k v => Sys2Proof.Machine.execLaneCfgWrite k v s
  | .coefWrite => Sys2Proof.Machine.execCoefWrite s
  | .coefCommit => Sys2Proof.Machine.execCoefCommit s
  | .bankSel k b => Sys2Proof.Machine.execBankSel k b s
  | .filtClear => Sys2Proof.Machine.execFiltClear s
  | .recorderSample n t => Sys2Proof.Machine.execRecorderSample n t s
  | .rcSwtrig n => Sys2Proof.Machine.execRcSwtrig n s
  | .rcRelease n mask => Sys2Proof.Machine.execRcRelease n mask s
  | .rcArm n => Sys2Proof.Machine.execRcArm n s
  | .rcEnable n => Sys2Proof.Machine.execRcEnable n s
  | .rcDisable n => Sys2Proof.Machine.execRcDisable n s
  | .ixRead => Sys2Proof.Machine.execIxRead s
  | .rdRead => Sys2Proof.Machine.execRdRead s
  | .trgPulseReceived l cap width => Sys2Proof.Machine.execTrgPulseReceived l cap width s
  | .trgLineStuck l t => Sys2Proof.Machine.execTrgLineStuck l t s
  | .tbCal mask => Sys2Proof.Machine.execTbCal mask s
  | .tbCalEcho cap => Sys2Proof.Machine.execTbCalEcho cap s
  | .tbCalRoundTimeout t => Sys2Proof.Machine.execTbCalRoundTimeout t s
  | .pllLocked p band t => Sys2Proof.Machine.execPllLocked p band t s
  | .pllLossOfLock p t => Sys2Proof.Machine.execPllLossOfLock p t s
  | .xinLost t => Sys2Proof.Machine.execXinLost t s
  | .xinRestored t => Sys2Proof.Machine.execXinRestored t s
  | .freqWindowEnd a b c0 c1 limits t => Sys2Proof.Machine.execFreqWindowEnd a b c0 c1 limits t s
  | .relock mask => Sys2Proof.Machine.execRelock mask s
  | .timebaseStep t => Sys2Proof.Machine.execTimebaseStep t s
  | .timeSet => Sys2Proof.Machine.execTimeSet s
  | .restep => Sys2Proof.Machine.execRestep s
  | .ptpOffset => Sys2Proof.Machine.execPtpOffset s
  | .ptpMessage k dom src m res t => Sys2Proof.Machine.execPtpMessage k dom src m res t s
  | .ptpMessageSend k kind t => Sys2Proof.Machine.execPtpMessageSend k kind t s
  | .ptpAnnounceTimeout t => Sys2Proof.Machine.execPtpAnnounceTimeout t s
  | .ptpConfigWrite n v => Sys2Proof.Machine.execPtpConfigWrite n v s
  | .edgeAlignStep err t => Sys2Proof.Machine.execEdgeAlignStep err t s
  | .rtcSet t => Sys2Proof.Machine.execRtcSet t s
  | .taEnable n => Sys2Proof.Machine.execTaEnable n s
  | .taDisable n => Sys2Proof.Machine.execTaDisable n s
  | .dramInitDone t => Sys2Proof.Machine.execDramInitDone t s
  | .scrubStart => Sys2Proof.Machine.execScrubStart s
  | .scrubStop n => Sys2Proof.Machine.execScrubStop n s
  | .scrubPassEnd t => Sys2Proof.Machine.execScrubPassEnd t s
  | .eccClear => Sys2Proof.Machine.execEccClear s
  | .dmaStart c => Sys2Proof.Machine.execDmaStart c s
  | .dmaBeat t => Sys2Proof.Machine.execDmaBeat t s
  | .dmaDone c => Sys2Proof.Machine.execDmaDone c s
  | .dmaStreamTimeout c t => Sys2Proof.Machine.execDmaStreamTimeout c t s
  | .dmaDisable c => Sys2Proof.Machine.execDmaDisable c s
  | .memRead => Sys2Proof.Machine.execMemRead s
  | .memWrite => Sys2Proof.Machine.execMemWrite s
  | .ndpRead port frame eth t => Sys2Proof.Machine.execNdpRead port frame eth t s
  | .ndpWrite port frame eth t => Sys2Proof.Machine.execNdpWrite port frame eth t s
  | .openSession port frame eth t => Sys2Proof.Machine.execOpenSession port frame eth t s
  | .closeSession port frame eth t => Sys2Proof.Machine.execCloseSession port frame eth t s
  | .ndpPdo port frame eth t => Sys2Proof.Machine.execNdpPdo port frame eth t s
  | .ndpFrameDiscard port frame eth t => Sys2Proof.Machine.execNdpFrameDiscard port frame eth t s
  | .journalApply start t => Sys2Proof.Machine.execJournalApply start t s
  | .sessionExpiry port id t => Sys2Proof.Machine.execSessionExpiry port id t s
  | .sdoRead can client idx sub t => Sys2Proof.Machine.execSdoRead can client idx sub t s
  | .sdoWrite can client idx sub data t => Sys2Proof.Machine.execSdoWrite can client idx sub data t s
  | .rpdo can ext id data t => Sys2Proof.Machine.execRpdo can ext id data t s
  | .rpdoLate n t => Sys2Proof.Machine.execRpdoLate n t s
  | .tpdoSend n t => Sys2Proof.Machine.execTpdoSend n t s
  | .canSync can t => Sys2Proof.Machine.execCanSync can t s
  | .heartbeatProduce can t => Sys2Proof.Machine.execHeartbeatProduce can t s
  | .nmtResetNode can node t => Sys2Proof.Machine.execNmtResetNode can node t s
  | .nmtResetCommunication can node t => Sys2Proof.Machine.execNmtResetCommunication can node t s
  | .nmtStateCommand can cmd node t => Sys2Proof.Machine.execNmtStateCommand can cmd node t s
  | .busOff can t => Sys2Proof.Machine.execBusOff can t s
  | .busOffRestart can t => Sys2Proof.Machine.execBusOffRestart can t s
  | .serviceEnFall t => Sys2Proof.Machine.execServiceEnFall t s
  | .serviceEnRise t => Sys2Proof.Machine.execServiceEnRise t s
  | .ethApply mask => Sys2Proof.Machine.execEthApply mask s
  | .redundWrite v => Sys2Proof.Machine.execRedundWrite v s
  | .arpRequest port target sender senderIp eth t => Sys2Proof.Machine.execArpRequest port target sender senderIp eth t s
  | .icmpEchoRequest port dst src fragment data eth t => Sys2Proof.Machine.execIcmpEchoRequest port dst src fragment data eth t s
  | .prpSupervisionSend t => Sys2Proof.Machine.execPrpSupervisionSend t s
  | .behaviourLevelWrite v => Sys2Proof.Machine.execBehaviourLevelWrite v s
  | .partnerHeartbeat lane frame t => Sys2Proof.Machine.execPartnerHeartbeat lane frame t s
  | .partnerStateVector lane bseq v t => Sys2Proof.Machine.execPartnerStateVector lane bseq v t s
  | .partnerFault lane bseq cause t => Sys2Proof.Machine.execPartnerFault lane bseq cause t s
  | .jItem lane bseq jport session seq idx sub v rec t => Sys2Proof.Machine.execJItem lane bseq jport session seq idx sub v rec t s
  | .jAck lane bseq jport session seq t => Sys2Proof.Machine.execJAck lane bseq jport session seq t s
  | .jAckTimeout t => Sys2Proof.Machine.execJAckTimeout t s
  | .jVoid lane bseq jport session seq t => Sys2Proof.Machine.execJVoid lane bseq jport session seq t s
  | .partnerDict lane bseq frame t => Sys2Proof.Machine.execPartnerDict lane bseq frame t s
  | .partnerTime lane bseq offset t => Sys2Proof.Machine.execPartnerTime lane bseq offset t s
  | .timeExchangeSend t => Sys2Proof.Machine.execTimeExchangeSend t s
  | .partnerJoin lane bseq part t => Sys2Proof.Machine.execPartnerJoin lane bseq part t s
  | .joinComplete t => Sys2Proof.Machine.execJoinComplete t s
  | .partnerBaton lane bseq number renum t => Sys2Proof.Machine.execPartnerBaton lane bseq number renum t s
  | .pairFormation idDiffers sameSw sameLevel pEn t => Sys2Proof.Machine.execPairFormation idDiffers sameSw sameLevel pEn t s
  | .belayLaneDown lane t => Sys2Proof.Machine.execBelayLaneDown lane t s
  | .heartbeatMissLimit t => Sys2Proof.Machine.execHeartbeatMissLimit t s
  | .batonCommit ok t => Sys2Proof.Machine.execBatonCommit ok t s
  | .soloClaim t => Sys2Proof.Machine.execSoloClaim t s
  | .soloDelayExpiry t => Sys2Proof.Machine.execSoloDelayExpiry t s
  | .switchover => Sys2Proof.Machine.execSwitchover s
  | .batonRenumber => Sys2Proof.Machine.execBatonRenumber s
  | .pdSwitchOn mask => Sys2Proof.Machine.execPdSwitchOn mask s
  | .pdSwitchOff mask => Sys2Proof.Machine.execPdSwitchOff mask s
  | .pdOnComplete d t => Sys2Proof.Machine.execPdOnComplete d t s
  | .standby => Sys2Proof.Machine.execStandby s
  | .standbyComplete t => Sys2Proof.Machine.execStandbyComplete t s
  | .wake rtc start t => Sys2Proof.Machine.execWake rtc start t s
  | .arbiterEvaluate fixedMw powerMw ctl bg t => Sys2Proof.Machine.execArbiterEvaluate fixedMw powerMw ctl bg t s
  | .vidStep t => Sys2Proof.Machine.execVidStep t s
  | .istStep r => Sys2Proof.Machine.execIstStep r s
  | .istPeriodExpiry item t => Sys2Proof.Machine.execIstPeriodExpiry item t s
  | .supplySample n mv mv2 t => Sys2Proof.Machine.execSupplySample n mv mv2 t s
  | .tjSample tj => Sys2Proof.Machine.execTjSample tj s
  | .ringMeasure loss step t => Sys2Proof.Machine.execRingMeasure loss step t s
  | .mramMarginCheck margin lines t => Sys2Proof.Machine.execMramMarginCheck margin lines t s
  | .thermalEstimate t => Sys2Proof.Machine.execThermalEstimate t s
  | .dvdtDriftTest k t => Sys2Proof.Machine.execDvdtDriftTest k t s
  | .modBaseline mask => Sys2Proof.Machine.execModBaseline mask s
  | .replanEvaluate droops t => Sys2Proof.Machine.execReplanEvaluate droops t s
  | .compactionComplete t => Sys2Proof.Machine.execCompactionComplete t s
  | .factoryReset port => Sys2Proof.Machine.execFactoryReset port s
  | .factoryResetFull port => Sys2Proof.Machine.execFactoryResetFull port s
  | .patchWrite => Sys2Proof.Machine.execPatchWrite s
  | .patchCommit => Sys2Proof.Machine.execPatchCommit s
  | .patchSelect n => Sys2Proof.Machine.execPatchSelect n s
  | .patchRestart start => Sys2Proof.Machine.execPatchRestart start s
  | .patchConfirm => Sys2Proof.Machine.execPatchConfirm s
  | .belayLaneUp lane t => Sys2Proof.Machine.execBelayLaneUp lane t s
  | .tripInputInactive n t => Sys2Proof.Machine.execTripInputInactive n t s
  | .trgLineUnstuck l t => Sys2Proof.Machine.execTrgLineUnstuck l t s
  | .trgclkRisingEdge t => Sys2Proof.Machine.execTrgclkRisingEdge t s
  | .vddqLoss t => Sys2Proof.Machine.execVddqLoss t s
  | .hsrRingFrame arrival src seq data t => Sys2Proof.Machine.execHsrRingFrame arrival src seq data t s

end Sys2Proof.Machine
end

