-- ==== Sys2Proof/Safety.lean ====
section
/-!
DEFINITION. What a run must keep: the canonical forms of the state's sparse tables, and the relation between the states before and
after a command on which every invariant and every frame of the device rests (`Keeps`).
-/

namespace Sys2Proof

open Machine

/-- The parts of the state. -/
inductive Part where
  /-- The instant reached. -/
  | now
  /-- What TIME64 is ahead of it. -/
  | epoch
  /-- The counter of free values. -/
  | free
  /-- The object dictionary. -/
  | regs
  /-- The physical memory. -/
  | mem
  /-- The serial numbers of port writes. -/
  | serial
  /-- The Octyr engines. -/
  | engines
  /-- The PWM generator. -/
  | pwm
  /-- The time alarms. -/
  | alarms
  /-- The gate-link lanes. -/
  | lanes
  /-- The local drivers. -/
  | lds
  /-- The static switch drivers. -/
  | sds
  /-- The power phase. -/
  | phase
  /-- Whether the device holds the baton. -/
  | holds
  /-- The ARMED command in execution. -/
  | arming
  /-- The Zeset law and policy. -/
  | law
  /-- The cadence unit. -/
  | cad
  /-- The read-only port words. -/
  | words
  /-- The eMRAM: configuration, journal, images, patches. -/
  | mram
  /-- The acquisition unit. -/
  | adc
  /-- The filter lanes. -/
  | filt
  /-- DRAM, scrubber, ECC marks and DMA. -/
  | memo
  /-- The recorders. -/
  | recs
  /-- The trigger bus. -/
  | tb
  /-- The PLLs and the timebase. -/
  | clk
  /-- The PTP ports. -/
  | ptp
  /-- Power, supplies, ageing and in-service test. -/
  | sup
  /-- The pair. -/
  | pair
  /-- The network ports. -/
  | net
  /-- What start-up found. -/
  | bootInfo
  /-- What the device has sent out. -/
  | outs
  deriving DecidableEq, Repr

/-- The number of a part: its bit in a set of parts. -/
def Part.num : Part → Nat
  | .now => 0
  | .epoch => 1
  | .free => 2
  | .regs => 3
  | .mem => 4
  | .serial => 5
  | .engines => 6
  | .pwm => 7
  | .alarms => 8
  | .lanes => 9
  | .lds => 10
  | .sds => 11
  | .phase => 12
  | .holds => 13
  | .arming => 14
  | .law => 15
  | .cad => 16
  | .words => 17
  | .mram => 18
  | .adc => 19
  | .filt => 20
  | .memo => 21
  | .recs => 22
  | .tb => 23
  | .clk => 24
  | .ptp => 25
  | .sup => 26
  | .pair => 27
  | .net => 28
  | .bootInfo => 29
  | .outs => 30

/-- A part is the same in two states. -/
def Part.Same : Part → State → State → Prop
  | .now, s, s' => s'.now = s.now
  | .epoch, s, s' => s'.epoch = s.epoch
  | .free, s, s' => s'.free = s.free
  | .regs, s, s' => s'.regs = s.regs
  | .mem, s, s' => s'.mem = s.mem
  | .serial, s, s' => s'.serial = s.serial ∧ s'.portSerial = s.portSerial
  | .engines, s, s' => s'.engines = s.engines
  | .pwm, s, s' => s'.pwm = s.pwm
  | .alarms, s, s' => s'.alarms = s.alarms
  | .lanes, s, s' => s'.lanes = s.lanes
  | .lds, s, s' => s'.lds = s.lds
  | .sds, s, s' => s'.sds = s.sds
  | .phase, s, s' => s'.phase = s.phase
  | .holds, s, s' => s'.holds = s.holds
  | .arming, s, s' => s'.arming = s.arming
  | .law, s, s' => s'.law = s.law
  | .cad, s, s' => s'.cad = s.cad
  | .words, s, s' => s'.words = s.words
  | .mram, s, s' => s'.mram = s.mram
  | .adc, s, s' => s'.adc = s.adc
  | .filt, s, s' => s'.filt = s.filt
  | .memo, s, s' => s'.memo = s.memo
  | .recs, s, s' => s'.recs = s.recs
  | .tb, s, s' => s'.tb = s.tb
  | .clk, s, s' => s'.clk = s.clk
  | .ptp, s, s' => s'.ptp = s.ptp
  | .sup, s, s' => s'.sup = s.sup
  | .pair, s, s' => s'.pair = s.pair
  | .net, s, s' => s'.net = s.net
  | .bootInfo, s, s' => s'.bootInfo = s.bootInfo
  | .outs, s, s' => s'.outs = s.outs

/-- The set of parts as a number. -/
def partSet (l : List Part) : Nat := l.foldl (fun m p => m ||| 2 ^ p.num) 0

/-- The one set of parts lies in the other. -/
def partsIn (a b : Nat) : Bool := a &&& b == a

/-- The dictionary's canonical form from a key on: keys strictly rising, no object listed at its reset value. -/
def dictWfFrom (lo : Nat) : Tab Nat → Bool
  | [] => true
  | (k, v) :: t => decide (lo ≤ k) && decide (v ≠ objReset k) && dictWfFrom (k + 1) t

/-- The dictionary's canonical form. -/
def dictWf (t : Tab Nat) : Bool := dictWfFrom 0 t

/-- The state's canonical forms: memory lists no byte at what an unlisted one reads as, the dictionary no object at its reset value,
and both list in rising order. Equal memories are then equal data, and so are equal dictionaries. -/
structure Inv (s : State) : Prop where
  mem : Memory.wf s.mem = true
  dict : dictWf s.regs = true

/-- What every operation of the device keeps: the queue stands, time does not run back, what has been sent out stays sent, the
canonical forms stay, and every part outside the set `f` is as it was. -/
structure Keeps (f : Nat) (s s' : State) : Prop where
  queue : s'.pending = s.pending
  time : s.now ≤ s'.now
  outs : s.outs <:+ s'.outs
  mem : Memory.wf s.mem = true → Memory.wf s'.mem = true
  dict : dictWf s.regs = true → dictWf s'.regs = true
  parts : ∀ p : Part, f.testBit p.num = false → p.Same s s'

/-- A command answers a next state that keeps what `Keeps` says. -/
def Outcome.Keeps (f : Nat) (s : State) (o : Host.Outcome State Fault Refusal) : Prop := ∃ s', o = .next s' ∧ Sys2Proof.Keeps f s s'

/-! ## The words of the statements -/

/-- Command `c` answers a next state in `s`, and `p` holds of it. -/
def Completes (c : Instr) (s : State) (p : State → Prop) : Prop := ∃ t, exec c s = .next t ∧ p t

/-- Every register of the dictionary but the listed ones reads as before. -/
def RegsKept (ks : List Nat) (s t : State) : Prop := ∀ k, k ∉ ks → t.reg k = s.reg k

/-- Every part of the state but the listed ones is as before, the queue too. -/
def PartsKept (ps : List Part) (s t : State) : Prop := t.pending = s.pending ∧ ∀ p, p ∉ ps → p.Same s t

/-- Engine `e` is in its control phase, waits for nothing, and the code word of its next instruction holds no error (R124, R129,
R144): its next instruction executes. -/
def Runs (e : Nat) (s : State) : Prop :=
  (s.engine e).inCycle = true ∧ (s.engine e).wait = Wait.none ∧ s.eccAt (progAddr e (s.engine e).pc.toNat) = 0

/-- Nothing but engine `e` has changed, the model's own counter of free values aside. -/
def OnlyEngine (e : Nat) (s t : State) : Prop := t = { s.setEngine e (t.engine e) with free := t.free }

/-- Of engine `x`, only the listed X registers, accumulators and address registers, FLAGS and the program flow may have changed in `y`;
the flow is at `pc` with the loop levels `loops`. -/
structure EngineKept (xs as ps : List Nat) (pc : BitVec 13) (loops : List LoopLevel) (x y : Engine) : Prop where
  xr : ∀ i, i ∉ xs → y.xr i = x.xr i
  ar : ∀ i, i ∉ as → y.ar i = x.ar i
  pr : ∀ i, i ∉ ps → y.pr i = x.pr i ∧ y.kr i = x.kr i
  rest : y = { x with x := y.x, a := y.a, p := y.p, pk := y.pk, flags := y.flags, pc := pc, loops := loops }

/-- An instruction of engine `e` executes: it writes at most the listed registers and FLAGS, goes on to the next instruction (R128),
changes nothing else of the device, and what it did to the engine is `q`. -/
def Acts (c : Instr) (e : Nat) (xs as ps : List Nat) (s : State) (q : Engine → Engine → Prop) : Prop :=
  Completes c s fun t => OnlyEngine e s t ∧
    EngineKept xs as ps (s.engine e).next.pc (s.engine e).next.loops (s.engine e) (t.engine e) ∧ q (s.engine e) (t.engine e)

/-- Z, N and V as R450 has them for a 16-bit result `r`; the other flags are kept. -/
def SetsZNV (x y : Engine) (r : W16) (v : Bool) : Prop :=
  y.flags.getLsbD 0 = (r == 0) ∧ y.flags.getLsbD 1 = r.msb ∧ y.flags.getLsbD 2 = v ∧
    ∀ i, 3 ≤ i → y.flags.getLsbD i = x.flags.getLsbD i

/-- Z and N of a 16-bit result, V zero, SAT set where the result was saturated and else kept, the other flags kept (R450, Table 5-3). -/
def SetsZNSat (x y : Engine) (r : W16) (sat : Bool) : Prop :=
  y.flags.getLsbD 0 = (r == 0) ∧ y.flags.getLsbD 1 = r.msb ∧ y.flags.getLsbD 2 = false ∧
    y.flags.getLsbD 3 = (x.flags.getLsbD 3 || sat) ∧ ∀ i, 4 ≤ i → y.flags.getLsbD i = x.flags.getLsbD i

/-- Every flag but flag `i` is kept, and that one is `b`. -/
def SetsFlag (x y : Engine) (i : Nat) (b : Bool) : Prop :=
  y.flags.getLsbD i = b ∧ ∀ j, j ≠ i → y.flags.getLsbD j = x.flags.getLsbD j

/-- The address registers that an address mode moves. -/
def Machine.AddrMode.moves : AddrMode → List Nat
  | .postModified p _ => [p.val]
  | _ => []

/-- Xd is the wrapping code of the true value `v`, with its flags (R450: V where the code differs from the value). -/
def Wraps (d : Fin 16) (v : Engine → Int) (x y : Engine) : Prop :=
  y.xr d = BitVec.ofInt 16 (v x) ∧ SetsZNV x y (BitVec.ofInt 16 (v x)) (decide ((BitVec.ofInt 16 (v x)).toInt ≠ v x))

/-- Xd is the true value `v` saturated to 16 bits, with its flags. -/
def Saturates (d : Fin 16) (v : Engine → Int) (x y : Engine) : Prop :=
  (y.xr d).toInt = max (-32768) (min 32767 (v x)) ∧ SetsZNSat x y (y.xr d) (decide ((y.xr d).toInt ≠ v x))

/-- Xd is `r`, with Z and N of it and V zero. -/
def Gives (d : Fin 16) (r : Engine → W16) (x y : Engine) : Prop := y.xr d = r x ∧ SetsZNV x y (r x) false

/-- A transition is recorded (R60): the mode, the cause, and the mode it came from. -/
def Enters (mode cause : Nat) (s t : State) : Prop :=
  t.reg Reg.MODE = mode ∧ t.reg Reg.CAUSE = cause ∧ t.reg Reg.MODE_PREV = s.reg Reg.MODE

/-- The instruction makes its engine trap with a code (R143): the engine is faulted, its cycle has ended, and where it is no law engine
(one that is puts the converter into HOLD as well) FAULT_CODE holds the code. -/
def Traps (c : Instr) (e code : Nat) (s : State) : Prop :=
  Completes c s fun t => (t.engine e).faulted = true ∧ (t.engine e).inCycle = false ∧
    (s.lawEngine e = false → t.reg (Reg.FAULT_CODE e) = code ∧ t.reg (Reg.FAULT_PC e) = (s.engine e).pc.toNat)

/-- The parts of the state that a command of each row may change. -/
def Instr.touches : Instr → List Part
    | .registerWrite _ _ _ _ => [.epoch, .free, .regs, .mem, .serial, .engines, .pwm, .alarms, .lanes, .lds, .sds, .holds, .law, .cad,
      .words, .mram, .adc, .filt, .memo, .recs, .tb, .clk, .ptp, .sup, .pair, .net, .bootInfo, .outs]
    | .resetRelease _ => [.now, .epoch, .free, .regs, .mem, .serial, .engines, .pwm, .alarms, .lanes, .lds, .sds, .phase, .holds, .law,
      .cad, .words, .mram, .adc, .filt, .memo, .recs, .tb, .clk, .ptp, .sup, .pair, .net, .bootInfo, .outs]
    | .rstNReset _ => [.now, .regs, .mem, .serial, .engines, .pwm, .alarms, .lanes, .lds, .sds, .phase, .holds, .arming, .law, .cad, .words,
      .mram, .adc, .filt, .memo, .recs, .tb, .clk, .ptp, .sup, .pair, .net, .bootInfo]
    | .vddUndervoltageReset _ => [.now, .regs, .mem, .serial, .engines, .pwm, .alarms, .lanes, .lds, .sds, .phase, .holds, .arming, .law,
      .cad, .words, .mram, .adc, .filt, .memo, .recs, .tb, .clk, .ptp, .sup, .pair, .net, .bootInfo]
    | .scaLockstepMismatch _ => [.now, .free, .regs, .engines, .pwm, .alarms, .lanes, .lds, .sds, .arming, .law, .cad, .mram, .pair, .outs]
    | .scbLockstepMismatch _ => [.now, .free, .regs, .mram, .clk, .ptp, .net]
    | .scbResume _ => [.now, .epoch, .free, .regs, .mem, .serial, .engines, .pwm, .alarms, .lanes, .lds, .sds, .holds, .law, .cad, .words,
      .mram, .adc, .filt, .memo, .recs, .tb, .clk, .ptp, .sup, .pair, .net, .bootInfo, .outs]
    | .blockShutdownComplete _ _ => [.now, .free, .regs, .mem, .engines, .lanes, .lds, .sds, .words, .adc, .filt, .memo, .recs, .sup]
    | .blockStartupComplete _ _ => [.now, .free, .regs, .mem, .engines, .lanes, .lds, .sds, .words, .adc, .filt, .memo, .recs, .sup]
    | .timeAlarm _ _ => [.now, .free, .regs, .mem, .serial, .engines, .pwm, .alarms, .lanes, .lds, .sds, .arming, .law, .cad, .mram, .adc,
      .memo, .recs, .pair, .outs]
    | .deadlinePass _ _ => [.now, .free, .regs, .mem, .serial, .engines, .pwm, .alarms, .lanes, .lds, .sds, .arming, .law, .cad, .mram,
      .memo, .recs, .pair, .outs]
    | .endRegistered _ _ => [.now, .free, .regs, .mem, .serial, .engines, .pwm, .lanes, .law, .cad, .memo, .recs, .pair, .outs]
    | .portWriteDeliver _ _ _ => [.now, .free, .regs, .mem, .serial, .engines, .pwm, .adc, .memo, .recs]
    | .mpy _ _ _ _ => [.free, .regs, .engines, .pwm, .lanes, .law, .pair, .outs]
    | .mac _ _ _ _ => [.free, .regs, .engines, .pwm, .lanes, .law, .pair, .outs]
    | .msu _ _ _ _ => [.free, .regs, .engines, .pwm, .lanes, .law, .pair, .outs]
    | .macm _ _ _ _ => [.free, .regs, .engines, .pwm, .lanes, .law, .pair, .outs]
    | .adda _ _ _ => [.free, .regs, .engines, .pwm, .lanes, .law, .pair, .outs]
    | .suba _ _ _ => [.free, .regs, .engines, .pwm, .lanes, .law, .pair, .outs]
    | .addas _ _ _ => [.free, .regs, .engines, .pwm, .lanes, .law, .pair, .outs]
    | .mova _ _ _ => [.free, .regs, .engines, .pwm, .lanes, .law, .pair, .outs]
    | .nega _ _ => [.free, .regs, .engines, .pwm, .lanes, .law, .pair, .outs]
    | .absa _ _ => [.free, .regs, .engines, .pwm, .lanes, .law, .pair, .outs]
    | .clra _ _ => [.free, .regs, .engines, .pwm, .lanes, .law, .pair, .outs]
    | .satr _ _ _ _ => [.free, .regs, .engines, .pwm, .lanes, .law, .pair, .outs]
    | .lda _ _ _ _ => [.free, .regs, .engines, .pwm, .lanes, .law, .pair, .outs]
    | .sha _ _ _ _ => [.free, .regs, .engines, .pwm, .lanes, .law, .pair, .outs]
    | .add _ _ _ _ => [.free, .regs, .engines, .pwm, .lanes, .law, .pair, .outs]
    | .sub _ _ _ _ => [.free, .regs, .engines, .pwm, .lanes, .law, .pair, .outs]
    | .adds _ _ _ _ => [.free, .regs, .engines, .pwm, .lanes, .law, .pair, .outs]
    | .subs _ _ _ _ => [.free, .regs, .engines, .pwm, .lanes, .law, .pair, .outs]
    | .andX _ _ _ _ => [.free, .regs, .engines, .pwm, .lanes, .law, .pair, .outs]
    | .orX _ _ _ _ => [.free, .regs, .engines, .pwm, .lanes, .law, .pair, .outs]
    | .xorX _ _ _ _ => [.free, .regs, .engines, .pwm, .lanes, .law, .pair, .outs]
    | .minX _ _ _ _ => [.free, .regs, .engines, .pwm, .lanes, .law, .pair, .outs]
    | .maxX _ _ _ _ => [.free, .regs, .engines, .pwm, .lanes, .law, .pair, .outs]
    | .negX _ _ _ => [.free, .regs, .engines, .pwm, .lanes, .law, .pair, .outs]
    | .absX _ _ _ => [.free, .regs, .engines, .pwm, .lanes, .law, .pair, .outs]
    | .notX _ _ _ => [.free, .regs, .engines, .pwm, .lanes, .law, .pair, .outs]
    | .aluMov _ _ _ => [.free, .regs, .engines, .pwm, .lanes, .law, .pair, .outs]
    | .asr _ _ _ _ => [.free, .regs, .engines, .pwm, .lanes, .law, .pair, .outs]
    | .lsr _ _ _ _ => [.free, .regs, .engines, .pwm, .lanes, .law, .pair, .outs]
    | .lsl _ _ _ _ => [.free, .regs, .engines, .pwm, .lanes, .law, .pair, .outs]
    | .lsls _ _ _ _ => [.free, .regs, .engines, .pwm, .lanes, .law, .pair, .outs]
    | .limit _ _ _ _ => [.free, .regs, .engines, .pwm, .lanes, .law, .pair, .outs]
    | .lima _ _ _ _ => [.free, .regs, .engines, .pwm, .lanes, .law, .pair, .outs]
    | .slew _ _ _ => [.free, .regs, .engines, .pwm, .lanes, .law, .pair, .outs]
    | .preset _ _ _ _ _ => [.free, .regs, .engines, .pwm, .lanes, .law, .pair, .outs]
    | .divq _ _ _ _ => [.free, .regs, .engines, .pwm, .lanes, .law, .pair, .outs]
    | .scos _ _ _ => [.free, .regs, .engines, .pwm, .lanes, .law, .pair, .outs]
    | .ldi _ _ _ => [.free, .regs, .engines, .pwm, .lanes, .law, .pair, .outs]
    | .addi _ _ _ => [.free, .regs, .engines, .pwm, .lanes, .law, .pair, .outs]
    | .cmpi _ _ _ => [.free, .regs, .engines, .pwm, .lanes, .law, .pair, .outs]
    | .ldai _ _ _ => [.free, .regs, .engines, .pwm, .lanes, .law, .pair, .outs]
    | .ldpi _ _ _ => [.free, .regs, .engines, .pwm, .lanes, .law, .pair, .outs]
    | .ldpiK _ _ _ => [.free, .regs, .engines, .pwm, .lanes, .law, .pair, .outs]
    | .addpi _ _ _ => [.free, .regs, .engines, .pwm, .lanes, .law, .pair, .outs]
    | .movXP _ _ _ => [.free, .regs, .engines, .pwm, .lanes, .law, .pair, .outs]
    | .movPX _ _ _ => [.free, .regs, .engines, .pwm, .lanes, .law, .pair, .outs]
    | .movXAlow _ _ _ => [.free, .regs, .engines, .pwm, .lanes, .law, .pair, .outs]
    | .movXAhigh _ _ _ => [.free, .regs, .engines, .pwm, .lanes, .law, .pair, .outs]
    | .movXAguard _ _ _ => [.free, .regs, .engines, .pwm, .lanes, .law, .pair, .outs]
    | .movAlowX _ _ _ => [.free, .regs, .engines, .pwm, .lanes, .law, .pair, .outs]
    | .movAhighX _ _ _ => [.free, .regs, .engines, .pwm, .lanes, .law, .pair, .outs]
    | .movAguardX _ _ _ => [.free, .regs, .engines, .pwm, .lanes, .law, .pair, .outs]
    | .movXFlags _ _ => [.free, .regs, .engines, .pwm, .lanes, .law, .pair, .outs]
    | .cmp _ _ _ => [.free, .regs, .engines, .pwm, .lanes, .law, .pair, .outs]
    | .ld _ _ _ => [.free, .regs, .engines, .pwm, .lanes, .law, .pair, .outs]
    | .st _ _ _ => [.free, .regs, .mem, .engines, .pwm, .lanes, .law, .memo, .recs, .pair, .outs]
    | .ldd _ _ _ => [.free, .regs, .engines, .pwm, .lanes, .law, .pair, .outs]
    | .std _ _ _ => [.free, .regs, .mem, .engines, .pwm, .lanes, .law, .memo, .recs, .pair, .outs]
    | .ldacc _ _ _ => [.free, .regs, .engines, .pwm, .lanes, .law, .pair, .outs]
    | .stacc _ _ _ => [.free, .regs, .mem, .engines, .pwm, .lanes, .law, .memo, .recs, .pair, .outs]
    | .inPort _ _ _ => [.free, .regs, .engines, .pwm, .lanes, .law, .pair, .outs]
    | .inh _ _ _ => [.free, .regs, .engines, .pwm, .lanes, .law, .pair, .outs]
    | .ind _ _ _ => [.free, .regs, .engines, .pwm, .lanes, .law, .pair, .outs]
    | .inw _ _ _ => [.free, .regs, .engines, .pwm, .lanes, .law, .pair, .outs]
    | .inwComplete _ _ => [.now, .free, .regs, .engines, .pwm, .lanes, .law, .pair, .outs]
    | .out _ _ _ => [.free, .regs, .engines, .pwm, .lanes, .law, .pair, .outs]
    | .outd _ _ _ => [.free, .regs, .engines, .pwm, .lanes, .law, .pair, .outs]
    | .outa _ _ _ => [.free, .regs, .engines, .pwm, .lanes, .law, .pair, .outs]
    | .portQueueRoom _ _ => [.now, .engines]
    | .atadd _ _ _ => [.now, .free, .regs, .mem, .serial, .engines, .pwm, .lanes, .law, .adc, .memo, .recs, .pair, .outs]
    | .waitp _ _ _ _ => [.free, .regs, .engines, .pwm, .lanes, .law, .pair, .outs]
    | .waitpComplete _ _ => [.now, .free, .regs, .engines, .pwm, .lanes, .law, .pair, .outs]
    | .branch _ _ _ => [.free, .regs, .engines, .pwm, .lanes, .law, .pair, .outs]
    | .call _ _ => [.free, .regs, .engines, .pwm, .lanes, .law, .pair, .outs]
    | .ret _ => [.free, .regs, .engines, .pwm, .lanes, .law, .pair, .outs]
    | .loop _ _ _ => [.free, .regs, .engines, .pwm, .lanes, .law, .pair, .outs]
    | .fence _ => [.free, .regs, .engines, .pwm, .lanes, .law, .pair, .outs]
    | .fenceComplete _ _ => [.now, .engines]
    | .endCycle _ => [.free, .regs, .engines, .pwm, .lanes, .law, .pair, .outs]
    | .nop _ => [.free, .regs, .engines, .pwm, .lanes, .law, .pair, .outs]
    | .trap _ _ => [.free, .regs, .engines, .pwm, .lanes, .law, .pair, .outs]
    | .illegalInstruction _ _ => [.free, .regs, .engines, .pwm, .lanes, .law, .pair, .outs]
    | .engineLoad _ => [.regs, .engines]
    | .loadComplete _ _ => [.now, .free, .regs, .mem, .engines, .memo]
    | .engineEnable _ => [.regs, .engines, .mram]
    | .engineDisable _ => [.free, .regs, .engines, .pwm, .mram]
    | .engineStatusRead _ => [.regs]
    | .engineClear _ => [.regs, .engines]
    | .lawBuiltinSet => [.free, .regs, .mem, .engines, .pwm, .alarms, .lanes, .law, .words, .mram, .filt, .memo]
    | .lawBuiltinClear => [.free, .regs, .mem, .engines, .pwm, .alarms, .lanes, .law, .words, .mram, .filt, .memo]
    | .imgWrite => [.regs, .mram]
    | .imgCommit => [.regs, .mram]
    | .mbInWrite _ _ _ => [.free, .regs, .mem, .serial, .memo, .recs]
    | .applyStaged => [.regs, .law]
    | .baseWrite _ _ _ => [.regs, .mram]
    | .outerCycleStart _ => [.now, .free, .regs, .engines, .pwm, .alarms, .lanes, .lds, .sds, .arming, .law, .cad, .words, .mram, .filt,
      .sup, .pair, .outs]
    | .modeCmdBasecamp => [.regs, .law]
    | .modeCmdArmed => [.regs, .law]
    | .modeCmdForm => [.regs, .law]
    | .modeCmdStart => [.regs, .law]
    | .modeCmdSync => [.regs, .law]
    | .armTimeout _ => [.now, .regs, .lanes, .arming]
    | .detectorConfirm _ => [.now, .free, .regs, .lanes, .law, .pair, .outs]
    | .limitRecovery _ => [.now, .free, .regs, .lanes, .law]
    | .ovTripTimeout _ => [.now, .free, .regs, .engines, .pwm, .alarms, .lanes, .lds, .sds, .arming, .law, .cad, .mram]
    | .limitMaxTimeout _ => [.now, .free, .regs, .engines, .pwm, .alarms, .lanes, .lds, .sds, .arming, .law, .cad, .mram]
    | .holdoverTimeout _ => [.now, .free, .regs, .engines, .pwm, .alarms, .lanes, .lds, .sds, .arming, .law, .cad, .mram]
    | .pjFollowEnd _ => [.now, .regs]
    | .kviReturnEnd _ => [.now, .regs, .law]
    | .softStopComplete _ => [.now, .free, .regs, .serial, .engines, .pwm, .lanes, .law, .cad]
    | .dcLinkTrip _ => [.now, .free, .regs, .engines, .pwm, .alarms, .lanes, .lds, .sds, .arming, .law, .cad, .mram]
    | .brkStateAged _ => [.now, .regs]
    | .missRunLimit _ => [.now, .free, .regs, .lanes, .law, .pair, .outs]
    | .holdMissesLimit _ => [.now, .free, .regs, .engines, .pwm, .alarms, .lanes, .lds, .sds, .arming, .law, .cad, .mram]
    | .holdTimeExpiry _ => [.now, .free, .regs, .engines, .pwm, .alarms, .lanes, .lds, .sds, .arming, .law, .cad, .mram]
    | .holdRecover _ => [.now, .free, .regs, .lanes, .law]
    | .engineRomReload _ _ => [.now, .mem, .engines, .memo]
    | .estimateWindowEnd _ => [.now, .free, .regs, .law]
    | .estimateStale _ => [.now, .regs]
    | .settleComplete _ => [.now, .cad]
    | .startAbort _ => [.now, .free, .regs, .pwm, .lanes, .law, .cad]
    | .syncHoldExpiry _ => [.now, .regs, .cad]
    | .closeWinExpiry _ => [.now, .regs, .cad]
    | .syncAbort _ => [.now, .free, .regs, .pwm, .lanes, .law, .cad]
    | .frameStartDetect _ => [.now, .cad]
    | .cadSlotStart _ => [.now, .regs, .cad]
    | .cadReady _ _ => [.now, .free, .regs, .law, .cad]
    | .cadEnergiseNext _ _ => [.now, .free, .regs, .cad]
    | .cadHold _ _ => [.now, .free, .regs, .cad]
    | .cadResync _ _ => [.now, .free, .regs, .cad]
    | .cadDone _ _ => [.now, .free, .regs, .law, .cad]
    | .frameDiscard _ => [.now, .free, .regs, .cad]
    | .holdTExpiry _ => [.now, .regs, .cad]
    | .resyncTExpiry _ => [.now, .regs]
    | .joinTExpiry _ => [.now, .regs, .cad]
    | .cadCmdReady => [.regs, .cad]
    | .cadCmdEnergiseNext => [.regs, .cad]
    | .cadCmdHold => [.regs, .cad]
    | .cadCmdResync => [.regs, .cad]
    | .cadCmdDone => [.regs, .cad]
    | .cadEnClear => [.regs, .cad, .mram]
    | .cgStart _ => [.regs, .engines, .pwm, .alarms]
    | .carrierStart _ => [.now, .free, .regs, .mem, .serial, .engines, .pwm, .alarms, .lanes, .lds, .sds, .arming, .law, .cad, .mram, .memo,
      .recs, .pair, .outs]
    | .cgStop _ => [.free, .regs, .pwm, .alarms]
    | .carrierWrap _ => [.now, .free, .regs, .mem, .serial, .engines, .pwm, .alarms, .lanes, .lds, .sds, .arming, .law, .cad, .mram, .memo,
      .recs, .pair, .outs]
    | .cgEvtMatch _ => [.now, .pwm]
    | .carrierEventDeliver => [.now, .pwm, .adc]
    | .compareMatch _ _ => [.now, .free, .regs, .pwm]
    | .deadTimeExpiry _ => [.now, .free, .regs, .pwm]
    | .interlockRelease _ _ => [.now, .free, .regs, .pwm]
    | .loadAll _ _ => [.now, .free, .regs, .mem, .serial, .engines, .pwm, .adc, .memo, .recs]
    | .swWrite => [.serial, .engines, .pwm]
    | .swLoadAll _ => [.free, .regs, .pwm]
    | .pwmClear => [.regs]
    | .tripDecision _ _ => [.now, .free, .regs, .pwm]
    | .tripAutoClear _ _ => [.now, .regs, .pwm]
    | .tripClear _ => [.regs, .pwm]
    | .tripCfgWrite _ _ => [.regs, .pwm, .mram]
    | .forceOffWrite _ _ => [.free, .regs, .pwm]
    | .edgeEventEnqueue => [.free, .regs, .pwm, .lanes, .lds, .arming, .sup]
    | .downlinkFrame _ _ => [.now, .free, .regs, .lanes, .outs]
    | .uplinkFrame _ _ _ => [.now, .free, .regs, .serial, .engines, .pwm, .alarms, .lanes, .lds, .sds, .holds, .arming, .law, .cad, .words,
      .mram, .sup, .pair, .outs]
    | .uplinkTimeout _ _ => [.now, .free, .regs, .serial, .pwm, .lanes, .arming, .words]
    | .laneFaultRelease _ _ => [.now, .lanes]
    | .glClear _ => [.regs, .lanes]
    | .guAccessTimeout _ _ => [.now, .regs, .lanes]
    | .guSetupRetry _ _ => [.now, .lanes]
    | .guWrite => [.regs, .lanes]
    | .guRead => [.regs, .lanes]
    | .laneEnable _ => [.regs, .lanes, .mram]
    | .laneDisable _ => [.regs, .lanes, .mram]
    | .laneStartComplete _ _ => [.now, .regs, .lanes]
    | .trainReset _ => [.regs, .lanes]
    | .trainCodeStore _ => [.now, .mram, .bootInfo]
    | .ldEnable _ _ => [.now, .regs, .lds, .mram]
    | .ldBootstrapReady _ _ _ => [.now, .regs, .lds]
    | .ldBootstrapTimeout _ _ => [.now, .regs, .lds]
    | .ldModeWrite _ _ _ => [.now, .regs, .lds, .mram]
    | .ldFollowEdge _ => [.now, .regs, .lds]
    | .ldRefresh _ _ _ => [.now, .free, .regs, .lds]
    | .ldBstuv _ _ _ => [.now, .regs, .lds]
    | .ldFaultRetry _ _ => [.now, .regs, .lds]
    | .sdEnable _ _ => [.now, .regs, .sds, .mram]
    | .sdCpReady _ _ => [.now, .regs, .sds]
    | .sdCpuv _ _ => [.now, .regs, .sds]
    | .sdFaultRetry _ _ => [.now, .regs, .sds]
    | .drvClear _ => [.regs, .lds, .sds]
    | .vdrvUndervoltage _ _ => [.now, .regs, .lds, .sds]
    | .vdrvRecover _ _ => [.now, .regs, .lds, .sds]
    | .adcTrigger => [.now, .free, .regs, .adc]
    | .swtrigRegular _ => [.free, .regs, .adc]
    | .swtrigInjected _ => [.free, .regs, .adc]
    | .stepStart => [.now, .free, .regs, .adc]
    | .conversionEnd => [.now, .free, .regs, .serial, .words, .adc]
    | .resultRegistered _ _ _ _ => [.now, .free, .regs, .serial, .words, .adc, .filt, .memo]
    | .adcTrgDecision _ _ _ => [.now, .free, .regs, .adc]
    | .trgTimeout _ _ => [.now, .regs]
    | .inputStale _ _ => [.now, .regs, .words, .filt]
    | .owTestStart _ _ => [.now, .adc]
    | .owPhaseEnd _ _ _ => [.now, .free, .regs, .mram, .adc, .pair, .outs]
    | .owPeriodExpiry _ _ => [.now, .regs]
    | .calStartupComplete _ _ _ => [.now, .regs, .mram, .adc, .pair, .outs]
    | .calTurnEnd _ _ _ _ => [.now, .free, .regs, .mram, .adc, .pair, .outs]
    | .calForce _ => [.regs]
    | .calForceWithdraw _ => [.now, .regs, .adc]
    | .adcEnable => [.regs, .mram, .adc]
    | .adcDisable => [.regs, .mram, .adc]
    | .adcClear => [.regs]
    | .trgCfgWrite _ _ => [.regs, .mram, .adc]
    | .sdcCfgWrite _ _ => [.regs, .words, .mram, .adc, .filt]
    | .sdcFreqMeasure _ _ _ => [.now, .regs]
    | .sdcClockStale _ _ => [.now, .regs, .words, .adc, .filt]
    | .sdcClockResume _ _ => [.now, .free, .regs, .words, .adc, .filt]
    | .sdiStuck _ _ => [.now, .regs, .words, .filt]
    | .sdiUnstuck _ _ => [.now, .free, .regs, .words, .filt]
    | .cicOutput _ _ _ => [.now, .free, .regs, .filt]
    | .laneOutput _ _ => [.now, .free, .regs, .serial, .pwm, .law, .words, .filt, .memo]
    | .laneCfgWrite _ _ => [.free, .regs, .words, .mram, .filt]
    | .coefWrite => [.regs, .filt]
    | .coefCommit => [.regs, .filt]
    | .bankSel _ _ => [.regs, .filt]
    | .filtClear => [.regs]
    | .recorderSample _ _ => [.now, .free, .regs, .mem, .memo, .recs, .tb, .outs]
    | .rcSwtrig _ => [.free, .regs, .recs, .tb, .outs]
    | .rcRelease _ _ => [.free, .regs, .mem, .memo, .recs]
    | .rcArm _ => [.regs, .recs]
    | .rcEnable _ => [.free, .regs, .mem, .mram, .memo, .recs]
    | .rcDisable _ => [.free, .regs, .mem, .mram, .memo, .recs]
    | .ixRead => [.free, .regs, .memo]
    | .rdRead => [.free, .regs, .memo]
    | .trgPulseReceived _ _ _ => [.now, .free, .regs, .recs, .tb, .outs]
    | .trgLineStuck _ _ => [.now, .regs]
    | .tbCal _ => [.regs, .tb, .outs]
    | .tbCalEcho _ => [.now, .free, .regs, .mram, .tb, .outs]
    | .tbCalRoundTimeout _ => [.now, .free, .regs, .mram, .tb, .outs]
    | .pllLocked _ _ _ => [.now, .epoch, .free, .regs, .clk]
    | .pllLossOfLock _ _ => [.now, .free, .regs, .clk, .pair, .outs]
    | .xinLost _ => [.now, .free, .regs, .clk, .pair, .outs]
    | .xinRestored _ => [.now, .regs]
    | .freqWindowEnd _ _ _ _ _ _ => [.now, .free, .regs, .clk, .pair, .outs]
    | .relock _ => [.regs, .clk]
    | .timebaseStep _ => [.now, .epoch, .free, .regs, .alarms, .mram, .clk, .pair, .outs]
    | .timeSet => [.regs, .clk]
    | .restep => [.epoch, .free, .regs, .alarms, .mram, .clk, .pair, .outs]
    | .ptpOffset => [.free, .regs, .clk]
    | .ptpMessage _ _ _ _ _ _ => [.now, .free, .regs, .clk, .ptp, .net, .outs]
    | .ptpMessageSend _ _ _ => [.now, .ptp, .net, .outs]
    | .ptpAnnounceTimeout _ => [.now, .free, .regs, .clk, .ptp]
    | .ptpConfigWrite _ _ => [.regs, .mram, .clk, .ptp]
    | .edgeAlignStep _ _ => [.now, .free, .regs, .clk]
    | .rtcSet _ => [.now, .clk]
    | .taEnable _ => [.regs, .engines, .alarms, .mram]
    | .taDisable _ => [.regs, .engines, .alarms, .mram]
    | .dramInitDone _ => [.now, .free, .regs, .mem, .serial, .memo, .recs]
    | .scrubStart => [.regs, .memo]
    | .scrubStop _ => [.free, .regs, .memo]
    | .scrubPassEnd _ => [.now, .free, .regs, .memo]
    | .eccClear => [.regs]
    | .dmaStart _ => [.free, .regs, .memo, .recs]
    | .dmaBeat _ => [.now, .free, .regs, .mem, .serial, .memo, .recs]
    | .dmaDone _ => [.free, .regs, .memo, .recs]
    | .dmaStreamTimeout _ _ => [.now, .regs, .memo]
    | .dmaDisable _ => [.free, .regs, .mem, .memo]
    | .memRead => [.free, .regs, .memo]
    | .memWrite => [.free, .regs, .mem, .serial, .memo, .recs]
    | .ndpRead _ _ _ _ => [.now, .epoch, .free, .regs, .mem, .serial, .engines, .pwm, .alarms, .lanes, .lds, .sds, .holds, .law, .cad,
      .words, .mram, .adc, .filt, .memo, .recs, .tb, .clk, .ptp, .sup, .pair, .net, .bootInfo, .outs]
    | .ndpWrite _ _ _ _ => [.now, .epoch, .free, .regs, .mem, .serial, .engines, .pwm, .alarms, .lanes, .lds, .sds, .holds, .law, .cad,
      .words, .mram, .adc, .filt, .memo, .recs, .tb, .clk, .ptp, .sup, .pair, .net, .bootInfo, .outs]
    | .openSession _ _ _ _ => [.now, .epoch, .free, .regs, .mem, .serial, .engines, .pwm, .alarms, .lanes, .lds, .sds, .holds, .law, .cad,
      .words, .mram, .adc, .filt, .memo, .recs, .tb, .clk, .ptp, .sup, .pair, .net, .bootInfo, .outs]
    | .closeSession _ _ _ _ => [.now, .epoch, .free, .regs, .mem, .serial, .engines, .pwm, .alarms, .lanes, .lds, .sds, .holds, .law, .cad,
      .words, .mram, .adc, .filt, .memo, .recs, .tb, .clk, .ptp, .sup, .pair, .net, .bootInfo, .outs]
    | .ndpPdo _ _ _ _ => [.now, .epoch, .free, .regs, .mem, .serial, .engines, .pwm, .alarms, .lanes, .lds, .sds, .holds, .law, .cad,
      .words, .mram, .adc, .filt, .memo, .recs, .tb, .clk, .ptp, .sup, .pair, .net, .bootInfo, .outs]
    | .ndpFrameDiscard _ _ _ _ => [.now, .free, .regs, .net]
    | .journalApply _ _ => [.now, .epoch, .free, .regs, .mem, .serial, .engines, .pwm, .alarms, .lanes, .lds, .sds, .phase, .holds, .arming,
      .law, .cad, .words, .mram, .adc, .filt, .memo, .recs, .tb, .clk, .ptp, .sup, .pair, .net, .bootInfo, .outs]
    | .sessionExpiry _ _ _ => [.now, .mram]
    | .sdoRead _ _ _ _ _ => [.now, .free, .regs, .mram, .outs]
    | .sdoWrite _ _ _ _ _ _ => [.now, .epoch, .free, .regs, .mem, .serial, .engines, .pwm, .alarms, .lanes, .lds, .sds, .holds, .law, .cad,
      .words, .mram, .adc, .filt, .memo, .recs, .tb, .clk, .ptp, .sup, .pair, .net, .bootInfo, .outs]
    | .rpdo _ _ _ _ _ => [.now, .free, .regs, .mem, .serial, .engines, .pwm, .alarms, .lanes, .lds, .sds, .holds, .law, .cad, .words, .mram,
      .adc, .filt, .memo, .recs, .clk, .ptp, .sup, .pair, .net, .outs]
    | .rpdoLate _ _ => [.now, .regs]
    | .tpdoSend _ _ => [.now, .net, .outs]
    | .canSync _ _ => [.now, .free, .regs, .mem, .serial, .engines, .pwm, .alarms, .lanes, .lds, .sds, .holds, .law, .cad, .words, .mram,
      .adc, .filt, .memo, .recs, .clk, .ptp, .sup, .pair, .net, .outs]
    | .heartbeatProduce _ _ => [.now, .net, .outs]
    | .nmtResetNode _ _ _ => [.now, .regs, .net, .outs]
    | .nmtResetCommunication _ _ _ => [.now, .regs, .net, .outs]
    | .nmtStateCommand _ _ _ _ => [.now, .regs]
    | .busOff _ _ => [.now, .regs, .net]
    | .busOffRestart _ _ => [.now, .free, .regs, .net, .outs]
    | .serviceEnFall _ => [.now, .mram, .net]
    | .serviceEnRise _ => [.now, .net]
    | .ethApply _ => [.net]
    | .redundWrite _ => [.regs, .mram, .net]
    | .arpRequest _ _ _ _ _ _ => [.now, .free, .regs, .net, .outs]
    | .icmpEchoRequest _ _ _ _ _ _ _ => [.now, .free, .regs, .net, .outs]
    | .prpSupervisionSend _ => [.now, .net, .outs]
    | .behaviourLevelWrite _ => [.regs]
    | .partnerHeartbeat _ _ _ => [.now, .free, .regs, .mem, .serial, .engines, .pwm, .alarms, .lanes, .lds, .sds, .holds, .arming, .law,
      .cad, .words, .mram, .adc, .filt, .memo, .recs, .clk, .ptp, .sup, .pair, .net, .outs]
    | .partnerStateVector _ _ _ _ => [.now, .free, .regs, .mem, .serial, .engines, .pwm, .alarms, .lanes, .lds, .sds, .arming, .law, .cad,
      .mram, .memo, .recs, .pair]
    | .partnerFault _ _ _ _ => [.now, .regs, .pair]
    | .jItem _ _ _ _ _ _ _ _ _ _ => [.now, .free, .regs, .serial, .words, .mram, .adc, .filt, .memo, .pair, .outs]
    | .jAck _ _ _ _ _ _ => [.now, .free, .regs, .mram, .pair, .net, .outs]
    | .jAckTimeout _ => [.now, .free, .regs, .mram, .pair, .net, .outs]
    | .jVoid _ _ _ _ _ _ => [.now, .regs, .mram, .pair]
    | .partnerDict _ _ _ _ => [.now, .epoch, .free, .regs, .mem, .serial, .engines, .pwm, .alarms, .lanes, .lds, .sds, .holds, .law, .cad,
      .words, .mram, .adc, .filt, .memo, .recs, .tb, .clk, .ptp, .sup, .pair, .net, .bootInfo, .outs]
    | .partnerTime _ _ _ _ => [.now, .free, .regs, .clk, .pair]
    | .timeExchangeSend _ => [.now, .pair, .outs]
    | .partnerJoin _ _ _ _ => [.now, .free, .regs, .mem, .serial, .engines, .pwm, .alarms, .lanes, .lds, .sds, .holds, .law, .cad, .words,
      .mram, .adc, .filt, .memo, .recs, .clk, .ptp, .sup, .pair, .net, .outs]
    | .joinComplete _ => [.now, .free, .regs, .cad, .pair]
    | .partnerBaton _ _ _ _ _ => [.now, .free, .regs, .engines, .pwm, .alarms, .lanes, .lds, .sds, .holds, .arming, .law, .cad, .mram,
      .pair]
    | .pairFormation _ _ _ _ _ => [.now, .free, .regs, .cad, .pair]
    | .belayLaneDown _ _ => [.now, .free, .regs, .cad, .pair]
    | .heartbeatMissLimit _ => [.now, .regs, .pair]
    | .batonCommit _ _ => [.now, .free, .regs, .lanes, .holds, .arming, .law, .cad, .mram, .pair, .outs]
    | .soloClaim _ => [.now, .regs, .pair]
    | .soloDelayExpiry _ => [.now, .regs]
    | .switchover => [.regs, .pair, .outs]
    | .batonRenumber => [.regs, .pair]
    | .pdSwitchOn _ => [.free, .regs, .mem, .lanes, .filt, .memo, .recs, .sup]
    | .pdSwitchOff _ => [.free, .regs, .mem, .lanes, .filt, .memo, .recs, .sup]
    | .pdOnComplete _ _ => [.now, .free, .regs, .mem, .engines, .lanes, .lds, .sds, .words, .adc, .filt, .memo, .recs, .sup]
    | .standby => [.free, .regs, .mram, .memo, .clk, .sup]
    | .standbyComplete _ => [.now, .regs, .mem, .serial, .engines, .pwm, .alarms, .lanes, .lds, .sds, .phase, .holds, .arming, .law, .cad,
      .words, .mram, .adc, .filt, .memo, .recs, .tb, .clk, .ptp, .sup, .pair, .net, .bootInfo]
    | .wake _ _ _ => [.now, .epoch, .free, .regs, .mem, .serial, .engines, .pwm, .alarms, .lanes, .lds, .sds, .phase, .holds, .arming, .law,
      .cad, .words, .mram, .adc, .filt, .memo, .recs, .tb, .clk, .ptp, .sup, .pair, .net, .bootInfo, .outs]
    | .arbiterEvaluate _ _ _ _ _ => [.now, .free, .regs, .mem, .words, .filt, .memo, .recs, .sup]
    | .vidStep _ => [.now, .regs, .sup, .outs]
    | .istStep _ => [.free, .regs, .mem, .engines, .lanes, .mram, .adc, .memo, .sup, .pair, .outs]
    | .istPeriodExpiry _ _ => [.now, .regs]
    | .supplySample _ _ _ _ => [.now, .free, .regs, .mram, .sup, .pair, .outs]
    | .tjSample _ => [.regs]
    | .ringMeasure _ _ _ => [.now, .regs, .sup]
    | .mramMarginCheck _ _ _ => [.now, .free, .regs, .mram, .pair, .outs]
    | .thermalEstimate _ => [.now, .free, .regs, .sup]
    | .dvdtDriftTest _ _ => [.now, .sup]
    | .modBaseline _ => [.regs, .sup]
    | .replanEvaluate _ _ => [.now, .free, .regs, .lanes, .law, .mram, .sup, .pair, .outs]
    | .compactionComplete _ => [.now, .regs, .mram]
    | .factoryReset _ => [.free, .regs, .mem, .serial, .engines, .pwm, .alarms, .lanes, .lds, .sds, .holds, .law, .cad, .words, .mram, .adc,
      .filt, .memo, .recs, .clk, .ptp, .sup, .pair, .net, .outs]
    | .factoryResetFull _ => [.free, .regs, .mem, .serial, .engines, .pwm, .alarms, .lanes, .lds, .sds, .holds, .law, .cad, .words, .mram,
      .adc, .filt, .memo, .recs, .clk, .ptp, .sup, .pair, .net, .outs]
    | .patchWrite => [.mram]
    | .patchCommit => [.regs, .mram]
    | .patchSelect _ => [.mram]
    | .patchRestart _ => [.now, .epoch, .free, .regs, .mem, .serial, .engines, .pwm, .alarms, .lanes, .lds, .sds, .phase, .holds, .arming,
      .law, .cad, .words, .mram, .adc, .filt, .memo, .recs, .tb, .clk, .ptp, .sup, .pair, .net, .bootInfo, .outs]
    | .patchConfirm => [.mram, .bootInfo]
    | .belayLaneUp _ _ => [.now, .regs, .cad, .pair]
    | .tripInputInactive _ _ => [.now, .regs, .pwm]
    | .trgLineUnstuck _ _ => [.now, .regs]
    | .trgclkRisingEdge _ => [.now, .free, .regs, .tb]
    | .vddqLoss _ => [.now, .memo]
    | .hsrRingFrame _ _ _ _ _ => [.now, .free, .regs, .net, .outs]

end Sys2Proof
end

