-- ==== Sys2Proof/Certificates/Slice0/Obligations.lean ====
section
/-!
DEFINITION. The statements about the device: results, frames and completion of every command, and the invariant that every step keeps.
Each docstring names what it rests on in spec/.
-/

open Sys2Proof Sys2Proof.Machine

/-- ADD, SUB, ADDI, NEG and ABS: result, flags and frame (05_octyr_engines.md, Table 5-4, R450, 05_octyr_engines.md, Table 5-3). -/
def Obligations.WrappingAluResults : Prop :=
  ∀ (s : State) (e d xs xt : Fin 16) (imm : BitVec 16), Runs e s →
    Acts (.add e d xs xt) e [d] [] [] s (Wraps d fun x => (x.xr xs).toInt + (x.xr xt).toInt) ∧
    Acts (.sub e d xs xt) e [d] [] [] s (Wraps d fun x => (x.xr xs).toInt - (x.xr xt).toInt) ∧
    Acts (.addi e d imm) e [d] [] [] s (Wraps d fun x => (x.xr d).toInt + imm.toInt) ∧
    Acts (.negX e d xs) e [d] [] [] s (Wraps d fun x => -(x.xr xs).toInt) ∧
    Acts (.absX e d xs) e [d] [] [] s (Wraps d fun x => ((x.xr xs).toInt.natAbs : Int))

/-- ADDS, SUBS and LSLS: saturated result, sticky SAT and frame (05_octyr_engines.md, Table 5-4, R450, 05_octyr_engines.md, Table
5-3). -/
def Obligations.SaturatingAluResults : Prop :=
  ∀ (s : State) (e d xs xt : Fin 16) (n : BitVec 8), Runs e s →
    Acts (.adds e d xs xt) e [d] [] [] s (Saturates d fun x => (x.xr xs).toInt + (x.xr xt).toInt) ∧
    Acts (.subs e d xs xt) e [d] [] [] s (Saturates d fun x => (x.xr xs).toInt - (x.xr xt).toInt) ∧
    (n.toNat ≤ 16 → Acts (.lsls e d xs n) e [d] [] [] s (Saturates d fun x => (x.xr xs).toInt * 2 ^ n.toNat))

/-- Logic, MIN, MAX, ALU MOV and the shifts ASR, LSR, LSL: result, flags and frame (05_octyr_engines.md, Table 5-4, R450). -/
def Obligations.LogicAndShiftResults : Prop :=
  ∀ (s : State) (e d xs xt : Fin 16) (n : BitVec 8), Runs e s →
    Acts (.andX e d xs xt) e [d] [] [] s (Gives d fun x => x.xr xs &&& x.xr xt) ∧
    Acts (.orX e d xs xt) e [d] [] [] s (Gives d fun x => x.xr xs ||| x.xr xt) ∧
    Acts (.xorX e d xs xt) e [d] [] [] s (Gives d fun x => x.xr xs ^^^ x.xr xt) ∧
    Acts (.notX e d xs) e [d] [] [] s (Gives d fun x => ~~~x.xr xs) ∧
    Acts (.aluMov e d xs) e [d] [] [] s (Gives d fun x => x.xr xs) ∧
    Acts (.minX e d xs xt) e [d] [] [] s (fun x y => (y.xr d).toInt = min (x.xr xs).toInt (x.xr xt).toInt ∧ SetsZNV x y (y.xr d) false) ∧
    Acts (.maxX e d xs xt) e [d] [] [] s (fun x y => (y.xr d).toInt = max (x.xr xs).toInt (x.xr xt).toInt ∧ SetsZNV x y (y.xr d) false) ∧
    (n.toNat ≤ 16 →
      Acts (.asr e d xs n) e [d] [] [] s (fun x y => (y.xr d).toInt = (x.xr xs).toInt / 2 ^ n.toNat ∧ SetsZNV x y (y.xr d) false) ∧
      Acts (.lsr e d xs n) e [d] [] [] s (fun x y => (y.xr d).toNat = (x.xr xs).toNat / 2 ^ n.toNat ∧ SetsZNV x y (y.xr d) false) ∧
      Acts (.lsl e d xs n) e [d] [] [] s (Wraps d fun x => (x.xr xs).toInt * 2 ^ n.toNat))

/-- CMP, CMPI and NOP write no register (05_octyr_engines.md, Table 5-4, R450). -/
def Obligations.CompareSetsFlagsOnly : Prop :=
  ∀ (s : State) (e d xs xt : Fin 16) (imm : BitVec 16), Runs e s →
    Acts (.cmp e xs xt) e [] [] [] s (fun x y =>
      let v := (x.xr xs).toInt - (x.xr xt).toInt
      SetsZNV x y (BitVec.ofInt 16 v) (decide ((BitVec.ofInt 16 v).toInt ≠ v))) ∧
    Acts (.cmpi e d imm) e [] [] [] s (fun x y =>
      let v := (x.xr d).toInt - imm.toInt
      SetsZNV x y (BitVec.ofInt 16 v) (decide ((BitVec.ofInt 16 v).toInt ≠ v))) ∧
    Acts (.nop e) e [] [] [] s (fun x y => y.flags = x.flags)

/-- The accumulator instructions: results modulo 2^40, no flag (05_octyr_engines.md, Table 5-4, R123). -/
def Obligations.AccumulatorResults : Prop :=
  ∀ (s : State) (e : Fin 16) (a b : Fin 4) (xs xt : Fin 16) (imm : BitVec 16) (sh : BitVec 8), Runs e s →
    let sets (v : Engine → Int) (x y : Engine) : Prop := y.ar a = BitVec.ofInt 40 (v x) ∧ y.flags = x.flags
    let prod (x : Engine) : Int := 2 * (x.xr xs).toInt * (x.xr xt).toInt
    Acts (.mpy e a xs xt) e [] [a] [] s (sets prod) ∧
    Acts (.mac e a xs xt) e [] [a] [] s (sets fun x => (x.ar a).toInt + prod x) ∧
    Acts (.msu e a xs xt) e [] [a] [] s (sets fun x => (x.ar a).toInt - prod x) ∧
    Acts (.adda e a b) e [] [a] [] s (sets fun x => (x.ar a).toInt + (x.ar b).toInt) ∧
    Acts (.suba e a b) e [] [a] [] s (sets fun x => (x.ar a).toInt - (x.ar b).toInt) ∧
    Acts (.mova e a b) e [] [a] [] s (sets fun x => (x.ar b).toInt) ∧
    Acts (.nega e a) e [] [a] [] s (sets fun x => -(x.ar a).toInt) ∧
    Acts (.absa e a) e [] [a] [] s (sets fun x => ((x.ar a).toInt.natAbs : Int)) ∧
    Acts (.clra e a) e [] [a] [] s (sets fun _ => 0) ∧
    Acts (.ldai e a imm) e [] [a] [] s (sets fun x => imm.toInt * 2 ^ 16) ∧
    (-16 ≤ sh.toInt → sh.toInt ≤ 7 →
      Acts (.lda e a xs sh) e [] [a] [] s (sets fun x => (x.xr xs).toInt * 2 ^ (16 + sh.toInt).toNat)) ∧
    (0 ≤ sh.toInt → sh.toInt ≤ 31 → ∀ r : Bool,
      Acts (.sha e a sh r) e [] [a] [] s (sets fun x => (x.ar a).toInt * 2 ^ sh.toInt.toNat)) ∧
    (-32 ≤ sh.toInt → sh.toInt < 0 →
      Acts (.sha e a sh false) e [] [a] [] s (sets fun x => (x.ar a).toInt / 2 ^ (-sh.toInt).toNat) ∧
      Acts (.sha e a sh true) e [] [a] [] s (sets fun x =>
        ((x.ar a).toInt + 2 ^ ((-sh.toInt).toNat - 1)) / 2 ^ (-sh.toInt).toNat))

/-- ADDAS and SATR: saturation and sticky SAT (05_octyr_engines.md, Table 5-4, R123, 05_octyr_engines.md, Table 5-3). -/
def Obligations.SaturatingAccumulatorResults : Prop :=
  ∀ (s : State) (e d : Fin 16) (a b : Fin 4) (sh : BitVec 8), Runs e s →
    let sticky (x y : Engine) (sat : Bool) : Prop :=
      y.flags.getLsbD 3 = (x.flags.getLsbD 3 || sat) ∧ ∀ i, i ≠ 3 → y.flags.getLsbD i = x.flags.getLsbD i
    Acts (.addas e a b) e [] [a] [] s (fun x y =>
      let v := (x.ar a).toInt + (x.ar b).toInt
      (y.ar a).toInt = max (-2 ^ 39) (min (2 ^ 39 - 1) v) ∧ sticky x y (decide ((y.ar a).toInt ≠ v))) ∧
    (0 ≤ sh.toInt → sh.toInt ≤ 7 →
      Acts (.satr e d a sh) e [d] [] [] s (fun x y =>
        let v := ((x.ar a).toInt * 2 ^ sh.toInt.toNat + 2 ^ 15) / 2 ^ 16
        (y.xr d).toInt = max (-2 ^ 15) (min (2 ^ 15 - 1) v) ∧ sticky x y (decide ((y.xr d).toInt ≠ v)))) ∧
    (-8 ≤ sh.toInt → sh.toInt < 0 →
      Acts (.satr e d a sh) e [d] [] [] s (fun x y =>
        let k := (-sh.toInt).toNat
        let v := ((x.ar a).toInt + 2 ^ (15 + k)) / 2 ^ (16 + k)
        (y.xr d).toInt = max (-2 ^ 15) (min (2 ^ 15 - 1) v) ∧ sticky x y (decide ((y.xr d).toInt ≠ v))))

/-- LDI and the moves between X registers, address registers, accumulators and FLAGS (05_octyr_engines.md, Table 5-4, R126, R450). -/
def Obligations.MoveResults : Prop :=
  ∀ (s : State) (e d xs : Fin 16) (a : Fin 4) (p : Fin 8) (imm : BitVec 16), Runs e s →
    Acts (.ldi e d imm) e [d] [] [] s (fun x y => y.xr d = imm ∧ y.flags = x.flags) ∧
    Acts (.movXP e d p) e [d] [] [] s (fun x y => (y.xr d).toNat = (x.pr p).toNat ∧ y.flags = x.flags) ∧
    Acts (.movPX e p xs) e [] [] [p] s (fun x y => (y.pr p).toNat = (x.xr xs).toNat % 2 ^ 14 ∧ y.kr p = x.kr p ∧ y.flags = x.flags) ∧
    Acts (.movXAlow e d a) e [d] [] [] s (fun x y => (y.xr d).toNat = (x.ar a).toNat % 2 ^ 16 ∧ y.flags = x.flags) ∧
    Acts (.movXAhigh e d a) e [d] [] [] s (fun x y => (y.xr d).toNat = (x.ar a).toNat / 2 ^ 16 % 2 ^ 16 ∧ y.flags = x.flags) ∧
    Acts (.movXAguard e d a) e [d] [] [] s (fun x y => (y.xr d).toInt = (x.ar a).toInt / 2 ^ 32 ∧ y.flags = x.flags) ∧
    Acts (.movAlowX e a xs) e [] [a] [] s (fun x y =>
      (y.ar a).toNat = (x.ar a).toNat / 2 ^ 16 * 2 ^ 16 + (x.xr xs).toNat ∧ y.flags = x.flags) ∧
    Acts (.movAhighX e a xs) e [] [a] [] s (fun x y =>
      (y.ar a).toNat = (x.ar a).toNat / 2 ^ 32 * 2 ^ 32 + (x.xr xs).toNat * 2 ^ 16 + (x.ar a).toNat % 2 ^ 16 ∧ y.flags = x.flags) ∧
    Acts (.movAguardX e a xs) e [] [a] [] s (fun x y =>
      (y.ar a).toNat = (x.xr xs).toNat % 2 ^ 8 * 2 ^ 32 + (x.ar a).toNat % 2 ^ 32 ∧ y.flags = x.flags) ∧
    Acts (.movXFlags e d) e [d] [] [] s (fun x y => (y.xr d).toNat = x.flags.toNat ∧ y.flags = x.flags)

/-- LDPI, its k form and ADDPI: address registers under the modulus rule (05_octyr_engines.md, Table 5-4, R125). -/
def Obligations.AddressRegisterRule : Prop :=
  ∀ (s : State) (e : Fin 16) (p : Fin 8) (imm : BitVec 16), Runs e s →
    (imm.toNat < 2 ^ 14 → Acts (.ldpi e p imm) e [] [] [p] s (fun x y =>
      (y.pr p).toNat = imm.toNat ∧ y.kr p = x.kr p ∧ y.flags = x.flags)) ∧
    (imm.toNat ≤ 14 → Acts (.ldpiK e p imm) e [] [] [p] s (fun x y =>
      (y.kr p).toNat = imm.toNat ∧ y.pr p = x.pr p ∧ y.flags = x.flags)) ∧
    Acts (.addpi e p imm) e [] [] [p] s (fun x y =>
      y.kr p = x.kr p ∧ y.flags = x.flags ∧
      (x.kr p = 0 → ((y.pr p).toNat : Int) = ((x.pr p).toNat + imm.toInt) % 2 ^ 14) ∧
      (x.kr p ≠ 0 → (x.kr p).toNat ≤ 14 → ((y.pr p).toNat : Int) =
        ((x.pr p).toNat - (x.pr p).toNat % 2 ^ (x.kr p).toNat : Nat) + ((x.pr p).toNat + imm.toInt) % 2 ^ (x.kr p).toNat))

/-- LIMIT, LIMA, SLEW, PRESET, DIVQ and SCOS (05_octyr_engines.md, Table 5-4, 05_octyr_engines.md, Table 5-3, R450). -/
def Obligations.LimitAndResidualResults : Prop :=
  ∀ (s : State) (e d xs xt : Fin 16) (a : Fin 4), Runs e s →
    let x := s.engine e
    ((x.xr xs).toInt ≤ (x.xr xt).toInt →
      Acts (.limit e d xs xt) e [d] [] [] s (fun x y =>
        (y.xr d).toInt = max (x.xr xs).toInt (min (x.xr xt).toInt (x.xr d).toInt) ∧ SetsFlag x y 4 (decide (y.xr d ≠ x.xr d))) ∧
      Acts (.lima e a xs xt) e [] [a] [] s (fun x y =>
        (y.ar a).toInt = max ((x.xr xs).toInt * 2 ^ 16) (min ((x.xr xt).toInt * 2 ^ 16) (x.ar a).toInt) ∧
        SetsFlag x y 4 (decide (y.ar a ≠ x.ar a))) ∧
      (d.val % 2 = 0 → Acts (.preset e d a xs xt) e [d, d + 1] [] [] s (fun x y =>
        let q := max (-2 ^ 15) (min (2 ^ 15 - 1) (((x.ar a).toInt + 2 ^ 15) / 2 ^ 16))
        let r := max (x.xr xs).toInt (min (x.xr xt).toInt q)
        (y.xr d).toInt = r ∧ (y.xr (d + 1)).toInt = max (-2 ^ 15) (min (2 ^ 15 - 1) (q - r)) ∧
        y.flags.getLsbD 4 = decide (r ≠ q) ∧ y.flags.getLsbD 5 = decide (y.xr (d + 1) ≠ 0) ∧
        ∀ i, i ≠ 3 → i ≠ 4 → i ≠ 5 → y.flags.getLsbD i = x.flags.getLsbD i))) ∧
    ((x.xr xt).toInt < (x.xr xs).toInt →
      Acts (.limit e d xs xt) e [d] [] [] s (fun x y => SetsFlag x y 4 (decide (y.xr d ≠ x.xr d))) ∧
      Acts (.lima e a xs xt) e [] [a] [] s (fun x y => SetsFlag x y 4 (decide (y.ar a ≠ x.ar a))) ∧
      (d.val % 2 = 0 → Acts (.preset e d a xs xt) e [d, d + 1] [] [] s (fun x y =>
        let q := max (-2 ^ 15) (min (2 ^ 15 - 1) (((x.ar a).toInt + 2 ^ 15) / 2 ^ 16))
        (y.xr (d + 1)).toInt = max (-2 ^ 15) (min (2 ^ 15 - 1) (q - (y.xr d).toInt)) ∧
        y.flags.getLsbD 4 = decide ((y.xr d).toInt ≠ q) ∧ y.flags.getLsbD 5 = decide (y.xr (d + 1) ≠ 0) ∧
        ∀ i, i ≠ 3 → i ≠ 4 → i ≠ 5 → y.flags.getLsbD i = x.flags.getLsbD i))) ∧
    Acts (.slew e d xs) e [d] [] [] s (fun x y =>
      (y.xr d).toInt = (x.xr d).toInt - (x.xr d).toInt.sign * (min (x.xr d).toInt.natAbs (x.xr xs).toInt.natAbs : Nat) ∧
      SetsFlag x y 5 (decide (y.xr d ≠ 0))) ∧
    (x.xr xt ≠ 0 → (x.xr xs).toInt.natAbs < (x.xr xt).toInt.natAbs → Acts (.divq e d xs xt) e [d] [] [] s (fun x y =>
      (y.xr d).toInt = Int.tdiv ((x.xr xs).toInt * 2 ^ 15) (x.xr xt).toInt ∧ y.flags = x.flags)) ∧
    (x.xr xt ≠ 0 → (x.xr xs).toInt = -(x.xr xt).toInt → Acts (.divq e d xs xt) e [d] [] [] s (fun x y =>
      y.xr d = 0x8000#16 ∧ y.flags = x.flags)) ∧
    (x.xr xt ≠ 0 → (x.xr xt).toInt.natAbs ≤ (x.xr xs).toInt.natAbs → (x.xr xs).toInt ≠ -(x.xr xt).toInt →
      Acts (.divq e d xs xt) e [d] [] [] s (fun x y =>
        y.xr d = (if (x.xr xs).msb = (x.xr xt).msb then 0x7FFF#16 else 0x8000#16) ∧ SetsFlag x y 3 true)) ∧
    (x.xr xt = 0 → Acts (.divq e d xs xt) e [d] [] [] s (fun x y =>
      y.xr d = (if (x.xr xs).msb then 0x8000#16 else 0x7FFF#16) ∧ SetsFlag x y 6 true)) ∧
    (d.val % 2 = 0 → Acts (.scos e d xs) e [d, d + 1] [] [] s (fun x y => y.flags = x.flags ∧
      (x.xr xs = 0 → 32766 ≤ (y.xr d).toInt ∧ -2 ≤ (y.xr (d + 1)).toInt ∧ (y.xr (d + 1)).toInt ≤ 2)))

/-- How a data address is formed (R125) (R125). -/
def Obligations.DataAddressForming : Prop :=
  ∀ (x : Engine) (p : Fin 8) (a : BitVec 14) (off : BitVec 8) (j : Nat),
    let rule (v : Int) (r : BitVec 14) : Prop :=
      (x.kr p = 0 → (r.toNat : Int) = ((x.pr p).toNat + v) % 2 ^ 14) ∧
      (x.kr p ≠ 0 → (x.kr p).toNat ≤ 14 → (r.toNat : Int) =
        ((x.pr p).toNat - (x.pr p).toNat % 2 ^ (x.kr p).toNat : Nat) + ((x.pr p).toNat + v) % 2 ^ (x.kr p).toNat)
    (x.addr (.absolute a) j).toNat = (a.toNat + j) % 2 ^ 14 ∧
    rule (off.toInt + j) (x.addr (.indexed p off) j) ∧
    rule j (x.addr (.postModified p off) j) ∧
    rule off.toInt ((x.postMod (.postModified p off)).pr p) ∧
    x.postMod (.absolute a) = x ∧ x.postMod (.indexed p off) = x ∧
    ∀ i, i ≠ p.val → (x.postMod (.postModified p off)).pr i = x.pr i

/-- LD, LDD, LDACC and MACM: the words read and what they change (05_octyr_engines.md, Table 5-4, R125, 05_octyr_engines.md, R144). -/
def Obligations.DataLoadResults : Prop :=
  ∀ (s : State) (e d : Fin 16) (a : Fin 4) (m : AddrMode), Runs e s →
    let x := s.engine e
    let w (j : Nat) : W16 := BitVec.ofNat 16 (s.load 2 (dataAddr e (x.addr m j).toNat))
    let sound (n : Nat) : Prop := ∀ j, j < n → s.eccAt (dataAddr e (x.addr m j).toNat) = 0
    let moved (x y : Engine) : Prop := y.flags = x.flags ∧ ∀ p, y.pr p = (x.postMod m).pr p ∧ y.kr p = x.kr p
    let reads (c : Instr) (n : Nat) (xs as : List Nat) (q : Engine → Prop) : Prop :=
      (∀ j, j < n → s.eccAt (dataAddr e (x.addr m j).toNat) ≤ 1) → Completes c s fun t => PartsKept [.free, .regs, .engines] s t ∧
        (∀ i, i ∉ xs → (t.engine e).xr i = x.xr i) ∧ (∀ i, i ∉ as → (t.engine e).ar i = x.ar i) ∧ (t.engine e).pc = x.next.pc ∧
        moved x (t.engine e) ∧ q (t.engine e)
    reads (.ld e d m) 1 [d] [] (fun y => y.xr d = w 0) ∧
    (d.val % 2 = 0 → reads (.ldd e d m) 2 [d, d + 1] [] fun y => y.xr d = w 0 ∧ y.xr (d + 1) = w 1) ∧
    reads (.ldacc e a m) 3 [] [a] (fun y => (y.ar a).toNat = (w 2).toNat % 2 ^ 8 * 2 ^ 32 + (w 1).toNat * 2 ^ 16 + (w 0).toNat) ∧
    reads (.macm e a d m) 1 [] [a] (fun y => y.ar a = BitVec.ofInt 40 ((x.ar a).toInt + 2 * (x.xr d).toInt * (w 0).toInt)) ∧
    (sound 1 → Acts (.ld e d m) e [d] [] m.moves s fun x y => y.xr d = w 0 ∧ moved x y) ∧
    (sound 2 → d.val % 2 = 0 → Acts (.ldd e d m) e [d, d + 1] [] m.moves s fun x y =>
      y.xr d = w 0 ∧ y.xr (d + 1) = w 1 ∧ moved x y) ∧
    (sound 3 → Acts (.ldacc e a m) e [] [a] m.moves s fun x y =>
      (y.ar a).toNat = (w 2).toNat % 2 ^ 8 * 2 ^ 32 + (w 1).toNat * 2 ^ 16 + (w 0).toNat ∧ moved x y) ∧
    (sound 1 → Acts (.macm e a d m) e [] [a] m.moves s fun x y =>
      y.ar a = BitVec.ofInt 40 ((x.ar a).toInt + 2 * (x.xr d).toInt * (w 0).toInt) ∧ moved x y)

/-- ST, STD and STACC: the words stored, and every other byte unchanged (05_octyr_engines.md, Table 5-4, R125, 05_octyr_engines.md,
R133, 05_octyr_engines.md, R144). -/
def Obligations.DataStoreResults : Prop :=
  ∀ (s : State) (e d : Fin 16) (a : Fin 4) (m : AddrMode), Runs e s →
    let x := s.engine e
    let adr (j : Nat) : Nat := dataAddr e (x.addr m j).toNat
    let stores (c : Instr) (n : Nat) (q : State → Prop) : Prop := Completes c s fun t =>
      EngineKept [] [] m.moves (s.engine e).next.pc (s.engine e).next.loops x (t.engine e) ∧
      (t.engine e).flags = x.flags ∧ (∀ p, (t.engine e).pr p = (x.postMod m).pr p ∧ (t.engine e).kr p = x.kr p) ∧
      (∀ b, (∀ j, j < n → b ≠ adr j ∧ b ≠ adr j + 1) → memByte t.mem b = memByte s.mem b) ∧
      ((∀ j, j < n → s.eccAt (adr j) = 0) → t = { s.setEngine e (t.engine e) with mem := t.mem }) ∧ q t
    stores (.st e d m) 1 (fun t => t.load 2 (adr 0) = (x.xr d).toNat) ∧
    (d.val % 2 = 0 → stores (.std e d m) 2 fun t =>
      t.load 2 (adr 1) = (x.xr (d + 1)).toNat ∧ (adr 0 ≠ adr 1 → t.load 2 (adr 0) = (x.xr d).toNat)) ∧
    stores (.stacc e a m) 3 (fun t =>
      t.load 2 (adr 2) = (((x.ar a).toInt / 2 ^ 32) % 2 ^ 16).toNat ∧
      (adr 1 ≠ adr 2 → t.load 2 (adr 1) = (x.ar a).toNat / 2 ^ 16 % 2 ^ 16) ∧
      (adr 0 ≠ adr 1 → adr 0 ≠ adr 2 → t.load 2 (adr 0) = (x.ar a).toNat % 2 ^ 16))

/-- IN, INH, IND and INW: a port word to X registers (05_octyr_engines.md, Table 5-4, R130, 05_octyr_engines.md, Table 5-6). -/
def Obligations.PortReadResults : Prop :=
  ∀ (s : State) (e d : Fin 16) (r : PortRef) (v : W32),
    let x := s.engine e
    let p := x.port r
    let takes (c : Instr) (xs : List Nat) (q : Engine → Prop) : Prop := Completes c s fun t =>
      PartsKept [.engines, .free, .regs, .now] s t ∧ (∀ j, j ≠ e.val → t.engine j = s.engine j) ∧
      (∀ i, i ∉ xs → (t.engine e).xr i = x.xr i) ∧ (t.engine e).a = x.a ∧ (t.engine e).p = x.p ∧ (t.engine e).flags = x.flags ∧
      (t.engine e).pc = x.next.pc ∧ (t.engine e).wait = Wait.none ∧ q (t.engine e)
    (Runs e s → (portRead e p s).1 = some v →
      takes (.inPort e d r) [d] (fun y => (y.xr d).toNat = v.toNat % 2 ^ 16) ∧
      takes (.inh e d r) [d] (fun y => (y.xr d).toNat = v.toNat / 2 ^ 16) ∧
      (d.val % 2 = 0 →
        takes (.ind e d r) [d, d + 1] (fun y => (y.xr d).toNat = v.toNat % 2 ^ 16 ∧ (y.xr (d + 1)).toNat = v.toNat / 2 ^ 16) ∧
        (s.inwReady e p = true →
          takes (.inw e d r) [d, d + 1] (fun y => (y.xr d).toNat = v.toNat % 2 ^ 16 ∧ (y.xr (d + 1)).toNat = v.toNat / 2 ^ 16)))) ∧
    (Runs e s → d.val % 2 = 0 → s.inwReady e p = false →
      Completes (.inw e d r) s fun t => t = s.setEngine e { x with wait := .inw p d }) ∧
    (∀ (n : Instant) (q : Nat), x.wait = .inw q d → d.val % 2 = 0 → s.inwReady e q = true →
      (portRead e q (s.advance n)).1 = some v →
      takes (.inwComplete e n) [d, d + 1] fun y => (y.xr d).toNat = v.toNat % 2 ^ 16 ∧ (y.xr (d + 1)).toNat = v.toNat / 2 ^ 16) ∧
    (Runs e s → (portRead e p s).1 = none → Completes (.inPort e d r) s fun t => (t.engine e).faulted = true)

/-- OUT, OUTD, OUTA, PORT_QUEUE_ROOM: the two write queues of an engine (05_octyr_engines.md, Table 5-4, R130). -/
def Obligations.PortWriteQueues : Prop :=
  ∀ (s : State) (e d : Fin 16) (a : Fin 4) (r : PortRef),
    let x := s.engine e
    let p := x.port r
    let entered (w : PortWrite) (x y : Engine) : Prop :=
      if isFabric p then y = { x.next with fabQ := x.fabQ ++ [w] } else y = { x.next with timedQ := x.timedQ ++ [w] }
    let room : Prop := if isFabric p then x.fabQ.length < 8 else x.timedQ.length < 8
    let queues (c : Instr) (v : W32) : Prop := s.writeTrap e p v = 0 →
      (room → Completes c s fun t => OnlyEngine e s t ∧ entered ⟨p, v.toNat⟩ x (t.engine e)) ∧
      (¬room → Completes c s fun t => OnlyEngine e s t ∧ t.engine e = { x with wait := .room ⟨p, v.toNat⟩ })
    (Runs e s → queues (.out e d r) ((x.xr d).signExtend 32) ∧
      (d.val % 2 = 0 → queues (.outd e d r) (BitVec.ofNat 32 ((x.xr (d + 1)).toNat * 2 ^ 16 + (x.xr d).toNat))) ∧
      queues (.outa e a r) ((x.ar a).setWidth 32)) ∧
    (∀ (n : Instant) (w : PortWrite), x.wait = .room w →
      (isFabric w.port = true → x.fabQ.length < 8 → Completes (.portQueueRoom e n) s fun t =>
        t.engine e = { x.next with fabQ := x.fabQ ++ [w], wait := .none } ∧ t = (s.advance n).setEngine e (t.engine e)) ∧
      (isFabric w.port = false → x.timedQ.length < 8 → Completes (.portQueueRoom e n) s fun t =>
        t.engine e = { x.next with timedQ := x.timedQ ++ [w], wait := .none } ∧ t = (s.advance n).setEngine e (t.engine e)))

/-- ATADD and WAITP on fabric memory, FENCE and their completions (05_octyr_engines.md, Table 5-4, R132, R133, R137). -/
def Obligations.FabricAtomicsAndWaits : Prop :=
  ∀ (s : State) (e d : Fin 16) (r : PortRef) (c : BitVec 4),
    let x := s.engine e
    let p := x.port r
    let a := s.tickCeil s.now
    let b := if s.inOrder 0 e a then s.advance a else s.advance (a + s.tickLen)
    (Runs e s → d.val % 2 = 0 → isFabric p = true → s.writeTrap e p 0 = 0 → x.fabQ = [] → x.late = false → b.now ≤ x.deadline →
      ∀ v, portRead e p b = (some v, b) → s.eccAt (fabricAddr p) = 0 → Completes (.atadd e d r) s fun t =>
        (t.engine e).xr d = v.setWidth 16 ∧ (∀ i, i ≠ d.val → (t.engine e).xr i = x.xr i) ∧ (t.engine e).flags = x.flags ∧
        (t.engine e).pc = x.next.pc ∧
        t.load 4 (fabricAddr p) = v.toNat / 2 ^ 16 * 2 ^ 16 + (v.toNat + (x.xr (d + 1)).toNat) % 2 ^ 16 ∧
        ∀ b, b < fabricAddr p ∨ fabricAddr p + 4 ≤ b → memByte t.mem b = memByte s.mem b) ∧
    (Runs e s → d.val % 2 = 0 → isFabric p = true → s.writeTrap e p 0 = 0 → ∀ v,
      (portRead e p (x.fabQ.foldl (fun u w => deliverAt e b.now w u) (b.setEngine e { x with fabQ := [] }))).1 = some v →
      Completes (.atadd e d r) s fun t => (t.engine e).xr d = v.setWidth 16 ∧ (∀ i, i ≠ d.val → (t.engine e).xr i = x.xr i) ∧
        (t.engine e).flags = x.flags ∧ (t.engine e).pc = x.next.pc ∧ (t.engine e).fabQ = []) ∧
    (Runs e s → isFabric p = false → (d.val % 2 = 0 → Traps (.atadd e d r) e 10 s) ∧
      (1 ≤ c.toNat → c.toNat ≤ 6 → Traps (.waitp e d r c) e 10 s)) ∧
    (Runs e s → isFabric p = true → 1 ≤ c.toNat → c.toNat ≤ 6 → ∀ v, portRead e p s = (some v, s) →
      (waitpHolds (v.setWidth 16) (x.xr d) c = true → Completes (.waitp e d r c) s fun t => t = s.setEngine e x.next) ∧
      (waitpHolds (v.setWidth 16) (x.xr d) c = false → Completes (.waitp e d r c) s fun t =>
        t = s.setEngine e { x with wait := .waitp p d c })) ∧
    (∀ (n : Instant) (q : Nat) (v : W32), x.wait = .waitp q d c → portRead e q (s.advance n) = (some v, s.advance n) →
      waitpHolds (v.setWidth 16) (x.xr d) c = true →
      Completes (.waitpComplete e n) s fun t => t = (s.advance n).setEngine e { x.next with wait := .none }) ∧
    (Runs e s → (x.drained = true → Completes (.fence e) s fun t => t = s.setEngine e x.next) ∧
      (x.drained = false → Completes (.fence e) s fun t => t = s.setEngine e { x with wait := .fence })) ∧
    (∀ n : Instant, x.wait = .fence → x.drained = true →
      Completes (.fenceComplete e n) s fun t => t = (s.advance n).setEngine e { x.next with wait := .none })

/-- B, CALL, RET, LOOP and END: the program counter, the stacks and the loop levels (05_octyr_engines.md, Table 5-4, R128,
05_octyr_engines.md, Table 5-3, 05_octyr_engines.md, Table 5-8). -/
def Obligations.ProgramFlow : Prop :=
  ∀ (s : State) (e : Fin 16) (c : BitVec 4) (n : BitVec 9) (g : BitVec 13), Runs e s →
    let x := s.engine e
    let kept (l : List LoopLevel) (g : BitVec 13) : List LoopLevel := l.filter fun v => decide (v.start ≤ g) && decide (g < v.fin)
    (c.toNat ≤ 12 → condHolds x.flags c = true →
      Completes (.branch e c g) s fun t => t = s.setEngine e { x with pc := g, loops := kept x.loops g }) ∧
    (c.toNat ≤ 12 → condHolds x.flags c = false → Completes (.branch e c g) s fun t => t = s.setEngine e x.next) ∧
    (x.calls.length < 4 → Completes (.call e g) s fun t =>
      t = s.setEngine e { x with pc := g, calls := (x.pc + 1) :: x.calls, loops := kept x.loops g }) ∧
    (∀ r l, x.calls = r :: l → Completes (.ret e) s fun t =>
      t = s.setEngine e { x with pc := r, calls := l, loops := kept x.loops r }) ∧
    (x.pc < g → n ≠ 0 → g ≠ x.pc + 1 → x.loops.length < 2 → Completes (.loop e n g) s fun t =>
      t = s.setEngine e { x with pc := x.pc + 1, loops := ⟨x.pc + 1, g, n.toNat⟩ :: x.loops }) ∧
    (x.pc < g → n = 0 ∨ g = x.pc + 1 → Completes (.loop e n g) s fun t => t = s.setEngine e (x.goOn g)) ∧
    Completes (.endCycle e) s (fun t => t = s.setEngine e { x with wait := .ending }) ∧
    (4 ≤ x.calls.length → Traps (.call e g) e 6 s) ∧ (x.calls = [] → Traps (.ret e) e 6 s) ∧
    (g ≤ x.pc → Traps (.loop e n g) e 2 s) ∧
    (x.pc < g → n ≠ 0 → g ≠ x.pc + 1 → 2 ≤ x.loops.length → Traps (.loop e n g) e 7 s)

/-- TRAP, illegal words and reserved operands fault the engine and end its cycle; what some words spell, one of each format
(05_octyr_engines.md, Table 5-4, R127, R143, 05_octyr_engines.md, Table 5-8, 05_octyr_engines.md, Table 5-2). -/
def Obligations.EngineTraps : Prop :=
  ∀ (s : State) (e d xs xt : Fin 16) (a : Fin 4) (p : Fin 8) (m : AddrMode) (r : PortRef) (n : BitVec 8) (i : BitVec 16) (c : BitVec 4)
    (g : BitVec 13) (w : BitVec 32), Runs e s →
    (n.toNat < 128 → Traps (.trap e n) e (128 + n.toNat) s) ∧
    (∀ k, illegalCode w.toNat = some k → Traps (.illegalInstruction e w) e k s) ∧ illegalCode 0 = some 1 ∧
    (d.val % 2 = 1 → Traps (.ldd e d m) e 2 s ∧ Traps (.std e d m) e 2 s ∧ Traps (.ind e d r) e 2 s ∧ Traps (.inw e d r) e 2 s ∧
      Traps (.outd e d r) e 2 s ∧ Traps (.atadd e d r) e 2 s ∧ Traps (.preset e d a xs xt) e 2 s ∧ Traps (.scos e d xs) e 2 s) ∧
    (16 < n.toNat → Traps (.asr e d xs n) e 2 s ∧ Traps (.lsr e d xs n) e 2 s ∧ Traps (.lsl e d xs n) e 2 s ∧ Traps (.lsls e d xs n) e 2 s) ∧
    (n.toInt < -8 ∨ 7 < n.toInt → Traps (.satr e d a n) e 2 s) ∧ (n.toInt < -16 ∨ 7 < n.toInt → Traps (.lda e a xs n) e 2 s) ∧
    (n.toInt < -32 ∨ 31 < n.toInt → Traps (.sha e a n true) e 2 s ∧ Traps (.sha e a n false) e 2 s) ∧
    (2 ^ 14 ≤ i.toNat → Traps (.ldpi e p i) e 2 s) ∧ (14 < i.toNat → Traps (.ldpiK e p i) e 2 s) ∧
    (12 < c.toNat → Traps (.branch e c g) e 2 s) ∧ (c.toNat = 0 ∨ 6 < c.toNat → Traps (.waitp e d r c) e 2 s) ∧
    ((illegalCode w.toNat).isSome = true → decodeWord e w = .illegalInstruction e w) ∧
    decodeWord e (0b000010#6 ++ 0#26) = .mac e 0 0 0 ∧
    decodeWord e (0b001001#6 ++ 1#4 ++ 2#4 ++ 3#4 ++ 0#2 ++ 1#4 ++ 0#8) = .sub e 1 2 3 ∧
    decodeWord e (0b010000#6 ++ 15#4 ++ 0#6 ++ 0x8001#16) = .ldi e 15 0x8001 ∧
    decodeWord e (0b011000#6 ++ 4#4 ++ 5#3 ++ 2#2 ++ 0#3 ++ 0#6 ++ 0xFE#8) = .ld e 4 (.postModified 5 0xFE) ∧
    decodeWord e (0b100111#6 ++ 6#4 ++ 7#3 ++ 1#1 ++ 0#2 ++ 0#4 ++ 0x123#12) = .atadd e 6 (.plusP 0x123 7) ∧
    decodeWord e (0b110000#6 ++ 12#4 ++ 0#9 ++ 0x1FFF#13) = .branch e 12 0x1FFF ∧
    decodeWord e (0b111001#6 ++ 0#26) = .endCycle e

/-- LOAD, LOAD_COMPLETE, ENABLE, status read and CLEAR of an engine (R149, R150, R142, R394, 05_octyr_engines.md, Table 5-14). -/
def Obligations.EngineLoadAndEnable : Prop :=
  ∀ (s : State) (e : Fin 16) (t : Instant),
    let x := s.engine e
    (s.engLocked e = false → s.reg (Reg.ENABLE e) ≠ 1 ∨ x.faulted = true → tabGet false s.mram.hasImage e = true →
      Completes (.engineLoad e) s fun u => u.engine e = { x with loading := true, valid := false } ∧ u.reg (Reg.LOAD e) = 1 ∧
        RegsKept [Reg.LOAD e] s u ∧ PartsKept [.regs, .engines] s u) ∧
    (s.reg Reg.LAW_BUILTIN = 1 → e.val < 8 → Completes (.engineLoad e) s fun u =>
      u.reg (Reg.LOAD e) = 3 ∧ RegsKept [Reg.LOAD e] s u ∧ PartsKept [.regs] s u) ∧
    ((∀ y ∈ s.memo.ecc, y.2 ≤ 1) → (s.advance t).mramCheck.1 = none) ∧
    (x.loading = true → Completes (.loadComplete e t) s fun u => (u.engine e).loading = false ∧
      PartsKept [.now, .free, .regs, .mem, .engines, .memo] s u ∧
      ((s.advance t).mramCheck.1 ≠ none → u.reg (Reg.LOAD e) = 3 ∧ u.engine e = { x with loading := false } ∧
        PartsKept [.now, .free, .regs, .engines] s u) ∧
      ((s.advance t).mramCheck.1 = none → u.reg (Reg.LOAD e) = 2 ∧ (u.engine e).valid = true ∧ (u.engine e).faulted = false ∧
        (u.engine e).flags = 0 ∧ (u.engine e).pc = 0 ∧
        (∀ i, (u.engine e).xr i = 0 ∧ (u.engine e).ar i = 0 ∧ (u.engine e).pr i = 0 ∧ (u.engine e).kr i = 0) ∧
        (s.memo.ecc = [] → RegsKept [Reg.LOAD e] s u))) ∧
    (s.engLocked e = false → x.valid = true → s.enginePower e = true → s.reg (Reg.ALARM e) ≠ 0xFF → x.stopping = false →
      s.reg (Reg.ENABLE e) ≠ 1 → s.commitMw (s.enabledEngines + 1) (s.reg Reg.FLOOR) ≤ (s.reg Reg.BUDGET : Rat) →
      Completes (.engineEnable e) s fun u => u.reg (Reg.ENABLE e) = 1 ∧ u.engine e = { x with cycle0 := x.cycleNo } ∧
        PartsKept [.regs, .engines, .mram] s u) ∧
    (s.engLocked e = false → x.valid = true → s.enginePower e = true → s.reg (Reg.ALARM e) ≠ 0xFF → x.stopping = true →
      Completes (.engineEnable e) s fun u => u.engine e = { x with pendEnable := true } ∧ PartsKept [.regs, .engines, .mram] s u) ∧
    (s.engLocked e = false → x.valid = true → s.enginePower e = true → s.reg (Reg.ALARM e) ≠ 0xFF → x.stopping = false →
      s.reg (Reg.ENABLE e) = 1 → Completes (.engineEnable e) s fun u => u.engine e = x ∧ PartsKept [.regs, .mram] s u) ∧
    (s.engLocked e = false → x.stopping = false → x.inCycle = false ∨ x.late = false → Completes (.engineDisable e) s fun u =>
      u.reg (Reg.ENABLE e) = 0 ∧ u.engine e = { x with stopping := x.inCycle, pendEnable := false } ∧ PartsKept [.regs, .engines, .mram] s u) ∧
    (s.engLocked e = false → x.stopping = false → x.inCycle = true → x.late = true → Completes (.engineDisable e) s fun u =>
      u.reg (Reg.ENABLE e) = 0 ∧ (u.engine e).inCycle = false ∧ (u.engine e).stopping = false ∧ (u.engine e).timedQ = [] ∧
        PartsKept [.free, .regs, .engines, .pwm, .mram] s u) ∧
    (s.engLocked e = false → x.stopping = true → Completes (.engineDisable e) s fun u => u.engine e = { x with pendEnable := false } ∧
      PartsKept [.regs, .engines, .mram] s u) ∧
    (s.reg Reg.BEHAVIOUR_LEVEL = 0 → Completes (.engineStatusRead e) s fun u =>
      u.flag (Reg.ENG_STATUS e) F.ENG_STATUS_MISS = false ∧ RegsKept [Reg.ENG_STATUS e] s u ∧ PartsKept [.regs] s u) ∧
    (s.reg Reg.BEHAVIOUR_LEVEL ≠ 0 → Completes (.engineStatusRead e) s (· = s)) ∧
    Completes (.engineClear e) s (fun u =>
      u.reg (Reg.MISS_COUNT e) = 0 ∧ u.reg (Reg.OVERRUN_COUNT e) = 0 ∧ u.reg (Reg.LATE_WRITES e) = 0 ∧ u.reg (Reg.ENG_ECC_CORR e) = 0 ∧
        u.engine e = { x with slackValid := false } ∧
        RegsKept [Reg.MISS_COUNT e, Reg.OVERRUN_COUNT e, Reg.LATE_WRITES e, Reg.ENG_ECC_CORR e] s u ∧ PartsKept [.regs, .engines] s u)

/-- LAW_BUILTIN, IMG_WRITE, IMG_COMMIT and MB_IN (R147, R148, R151). -/
def Obligations.ImagesAndMailboxes : Prop :=
  ∀ (s : State) (m : Fin 16) (i : Fin 6) (v : BitVec 32),
    let e := s.reg Reg.IMG_ENGINE
    let a := s.reg Reg.IMG_ADDR
    let im := tabGet {} s.mram.staged e
    let c := crc32 (imageBytes im)
    let free : Prop := s.reg Reg.LAW_BUILTIN ≠ 1 ∨ 8 ≤ e
    (s.reg Reg.MODE = 0 → s.reg Reg.LAW_BUILTIN = 0 → Completes .lawBuiltinSet s fun u =>
      u = stored Reg.LAW_BUILTIN 1 (refreshBases (lawTake s), 0)) ∧
    (s.reg Reg.MODE = 0 → s.reg Reg.LAW_BUILTIN = 1 → Completes .lawBuiltinClear s fun u =>
      u = stored Reg.LAW_BUILTIN 0 (refreshBases (lawLeave s), 0)) ∧
    (∀ c ∈ [(1, Instr.lawBuiltinSet), (0, .lawBuiltinClear)], s.reg Reg.MODE = 0 → s.reg Reg.LAW_BUILTIN = c.1 →
      Completes c.2 s fun u => u.reg Reg.LAW_BUILTIN = c.1 ∧ PartsKept [.regs, .mram] s u) ∧
    (s.reg Reg.MODE ≠ 0 → Completes .lawBuiltinSet s (· = s) ∧ Completes .lawBuiltinClear s (· = s)) ∧
    (free → s.reg Reg.IMG_SPACE ≠ 1 → a % 64 = 0 → a + 64 ≤ 8192 → Completes .imgWrite s fun u =>
      (∀ j, tabGet 0 (tabGet {} u.mram.staged e).prog j = if a ≤ j ∧ j < a + 64 then s.reg (Reg.IMG_BLOCK (j - a)) else tabGet 0 im.prog j) ∧
        (tabGet {} u.mram.staged e).data = im.data ∧ u.reg Reg.IMG_STATUS = 0 ∧
        RegsKept [Reg.IMG_STATUS] s u ∧ PartsKept [.regs, .mram] s u) ∧
    (free → s.reg Reg.IMG_SPACE = 1 → a % 128 = 0 → a + 128 ≤ 16384 → Completes .imgWrite s fun u =>
      (∀ j, j < 64 → tabGet 0 (tabGet {} u.mram.staged e).data (a + 2 * j) = s.reg (Reg.IMG_BLOCK j) % 65536 ∧
        tabGet 0 (tabGet {} u.mram.staged e).data (a + 2 * j + 1) = s.reg (Reg.IMG_BLOCK j) / 65536) ∧
        (∀ j, j < a ∨ a + 128 ≤ j → tabGet 0 (tabGet {} u.mram.staged e).data j = tabGet 0 im.data j) ∧
        (tabGet {} u.mram.staged e).prog = im.prog ∧ u.reg Reg.IMG_STATUS = 0 ∧
        RegsKept [Reg.IMG_STATUS] s u ∧ PartsKept [.regs, .mram] s u) ∧
    (free → s.reg Reg.IMG_SPACE ≠ 1 → a % 64 ≠ 0 ∨ 8192 < a + 64 → Completes .imgWrite s fun u =>
      u.reg Reg.IMG_STATUS = 4 ∧ RegsKept [Reg.IMG_STATUS] s u ∧ PartsKept [.regs] s u) ∧
    (free → c = s.reg Reg.IMG_CRC → Completes .imgCommit s fun u =>
      tabGet {} u.mram.images e = im ∧ tabGet false u.mram.hasImage e = true ∧ u.reg Reg.IMG_STATUS = 2 ∧ u.reg (Reg.IMG_INFO e) = c ∧
        PartsKept [.regs, .mram] s u) ∧
    (free → c ≠ s.reg Reg.IMG_CRC → Completes .imgCommit s fun u =>
      u.reg Reg.IMG_STATUS = 3 ∧ RegsKept [Reg.IMG_STATUS] s u ∧ PartsKept [.regs] s u) ∧
    Completes (.mbInWrite m i v) s (fun u => u.reg (Reg.MB_IN m i) = v.toNat ∧
      u.load 4 (fabricAddr (0x908 + 16 * m + i)) = v.toNat ∧
      u.reg (Reg.MB_IN_SEQ m) = (s.load 4 (fabricAddr (0x90F + 16 * m)) + 1) % 2 ^ 32 ∧
      u.load 4 (fabricAddr (0x90F + 16 * m)) = u.reg (Reg.MB_IN_SEQ m))

/-- APPLY, base writes and mode commands (R40, R41, R56, R59, 02_grid_forming_law.md, Table 2-3). -/
def Obligations.ParametersAndModeCommands : Prop :=
  ∀ (s : State) (side : Fin 2) (sub : Fin 3) (v : BitVec 32),
    (s.applyCheck = 0 → Completes .applyStaged s fun t => t.reg Reg.APPLY = 1 ∧ t.reg Reg.APPLY_RESULT = 0 ∧
      t.law = { s.law with applying := true, checked := s.stagedSet } ∧
      t.ms F.MODE_STATUS_APPLY_DEFERRED = (s.reg Reg.MODE == 3 || s.reg Reg.MODE == 6) ∧
      RegsKept [Reg.APPLY, Reg.APPLY_RESULT, Reg.MODE_STATUS] s t ∧ PartsKept [.regs, .law] s t) ∧
    (s.applyCheck ≠ 0 → Completes .applyStaged s fun t => t.reg Reg.APPLY = 3 ∧ t.reg Reg.APPLY_RESULT = s.applyCheck ∧
      t.law = { s.law with applying := false } ∧ t.ms F.MODE_STATUS_APPLY_DEFERRED = false ∧
      RegsKept [Reg.APPLY, Reg.APPLY_RESULT, Reg.MODE_STATUS] s t ∧ PartsKept [.regs, .law] s t) ∧
    (s.reg Reg.MODE ≠ 0 ∨ valueOk (baseReg side sub) v.toNat = false → Completes (.baseWrite side sub v) s (· = s)) ∧
    (s.reg Reg.MODE = 0 → valueOk (baseReg side sub) v.toNat = true → Completes (.baseWrite side sub v) s fun t =>
      t.reg (baseReg side sub) = v.toNat ∧ PartsKept [.regs, .mram] s t) ∧
    (∀ p ∈ [(0, Instr.modeCmdBasecamp), (1, .modeCmdArmed), (2, .modeCmdForm), (4, .modeCmdStart), (5, .modeCmdSync)],
      (s.holds = true → Completes p.2 s fun t => t.reg Reg.MODE_CMD = 1 ∧
        t.law = { s.law with cmds := s.law.cmds ++ [(p.1, false, s.reg Reg.MODE, s.law.autoSeq)] } ∧
        RegsKept [Reg.MODE_CMD] s t ∧ PartsKept [.regs, .law] s t) ∧
      (s.holds = false → Completes p.2 s (· = s)))

/-- Entry into LIMIT, return from it, and its exits to BASECAMP (R63, R67, R74, R77, R80, R81, 03_ride_through_and_modes.md, Table
3-2). -/
def Obligations.LimitAndProtectionExits : Prop :=
  ∀ (s : State) (t : Instant),
    let n := s.advance t
    let d := if (s.engine 1).inCycle then innerSense n else n
    (∀ k, d.reg Reg.MODE = 2 → d.holds = true → (List.range 8).find? d.detConfirmed = some k →
      Completes (.detectorConfirm t) s fun u => Enters 3 (k + 2) d u) ∧
    Completes (.detectorConfirm t) s (· = limitEntry d) ∧
    (s.holds = true → n.recovered = true → Completes (.limitRecovery t) s fun u =>
      Enters 2 10 s u ∧ u.reg Reg.LIMIT_LAST = (n.now - s.law.limitAt) / Sys2Proof.ms 1) ∧
    (s.holds = true → s.reg Reg.MODE = 3 →
      (heldFor s.law.ovSince (Sys2Proof.ms (s.lreg Reg.OV_TRIP_T)) n.now = true → Completes (.ovTripTimeout t) s (Enters 0 12 s)) ∧
      (s.law.limitAt + Sys2Proof.ms (s.lreg Reg.LIMIT_MAX_T) ≤ n.now → Completes (.limitMaxTimeout t) s (Enters 0 13 s)) ∧
      (heldFor s.law.holdoverSince (Sys2Proof.ms (s.lreg Reg.HOLDOVER_T)) n.now = true → Completes (.holdoverTimeout t) s (Enters 0 14 s))) ∧
    (s.holds = true → 4 ≤ s.law.vdcTrip → s.reg Reg.MODE ≠ 0 → Completes (.dcLinkTrip t) s (Enters 0 24 s)) ∧
    (s.ms F.MODE_STATUS_PJ_FOLLOW = true → s.law.pjN = 0 → Completes (.pjFollowEnd t) s fun u =>
      u.ms F.MODE_STATUS_PJ_FOLLOW = false ∧ RegsKept [Reg.MODE_STATUS] s u ∧ PartsKept [.now, .regs] s u) ∧
    (s.lawMode ≠ 3 → heldFor s.law.kviAt (Sys2Proof.ms (s.lreg Reg.KVI_RET)) n.now = true → Completes (.kviReturnEnd t) s fun u =>
      u.ms F.MODE_STATUS_KVI_ACTIVE = false ∧ u.law = { s.law with kviAt := none } ∧ RegsKept [Reg.MODE_STATUS] s u ∧
        PartsKept [.now, .regs, .law] s u) ∧
    (s.lreg Reg.BRK_MAXAGE ≠ 0 → s.law.brkAt + Sys2Proof.ms (s.lreg Reg.BRK_MAXAGE) < n.now → Completes (.brkStateAged t) s fun u => u.reg Reg.BRK_STATE = 0xFF ∧ RegsKept [Reg.BRK_STATE] s u ∧ PartsKept [.now, .regs] s u)

/-- HOLD: entry, return and exits; the soft stop; an ARMED command that runs out of time (R65, R86, R88, R89, R90, R186,
03_ride_through_and_modes.md, Table 3-2). -/
def Obligations.HoldRules : Prop :=
  ∀ (s : State) (e : Fin 8) (t : Instant),
    let n := s.advance t
    (s.holds = true → s.switching = true →
      let held (cause : Nat) (u : State) : Prop := Enters 6 cause s u ∧ u.reg Reg.HELD_MODE = s.reg Reg.MODE ∧ u.reg Reg.HOLD_MISSES = 0 ∧
        (s.reg Reg.LAW_BUILTIN = 1 → u.ls F.LAW_STATUS_EST_SUSPENDED = true ∧ u.law.use.probe = {}) ∧
        PartsKept [.now, .free, .regs, .lanes, .law, .pair, .outs] s u
      (s.lawFaulted = true → Completes (.missRunLimit t) s (held 17)) ∧
      (s.lawFaulted = false → s.lreg Reg.MISS_N ≤ s.reg Reg.MISS_RUN → Completes (.missRunLimit t) s (held 15)) ∧
      (s.lawFaulted = false → s.reg Reg.MISS_RUN < s.lreg Reg.MISS_N → s.lreg Reg.OUTER_MISS_N ≤ s.law.outerMissRun →
        Completes (.missRunLimit t) s (held 16)) ∧
      (s.lawFaulted = false → s.reg Reg.MISS_RUN < s.lreg Reg.MISS_N → s.law.outerMissRun < s.lreg Reg.OUTER_MISS_N →
        Completes (.missRunLimit t) s (· = s))) ∧
    (s.holds = true → s.switching = true → s.lawFaulted = false → s.reg Reg.MISS_RUN < 255 → s.lreg Reg.MISS_N ≤ s.reg Reg.MISS_RUN + 1 →
      Enters 6 15 s (missPolicy true s)) ∧
    (s.holds = false → s.reg Reg.MISS_RUN < 255 → (missPolicy true s).reg Reg.MISS_RUN = s.reg Reg.MISS_RUN + 1 ∧
      (missPolicy false s).reg Reg.MISS_RUN = 0) ∧
    (s.holds = true → s.reg Reg.MODE = 6 → s.lreg Reg.HOLD_RECOVER ≤ s.law.recRun → s.law.outerOk = true → s.lawFaulted = false →
      Completes (.holdRecover t) s fun u => Enters (s.reg Reg.HELD_MODE) 18 s u ∧ PartsKept [.now, .free, .regs, .lanes, .law] s u) ∧
    (s.holds = true → s.reg Reg.MODE = 6 → s.lreg Reg.MISS_M ≤ s.reg Reg.HOLD_MISSES → Completes (.holdMissesLimit t) s (Enters 0 19 s)) ∧
    (s.holds = true → s.reg Reg.MODE = 6 → s.law.holdAt + Sys2Proof.ms (s.lreg Reg.HOLD_TIME) ≤ n.now →
      Completes (.holdTimeExpiry t) s (Enters 0 20 s)) ∧
    (s.reg Reg.LAW_BUILTIN = 1 → (s.engine e).faulted = true → Completes (.engineRomReload e t) s fun u =>
      (u.engine e).valid = true ∧ (u.engine e).faulted = false ∧ (u.engine e).inCycle = false ∧
        (∀ a, progAddr e 0 ≤ a → a < progAddr e 0 + 0x10000 → memByte u.mem a = 0 ∧ u.eccAt a = 0) ∧
        (∀ a, a < progAddr e 0 ∨ progAddr e 0 + 0x10000 ≤ a → memByte u.mem a = memByte s.mem a) ∧
        PartsKept [.now, .mem, .engines, .memo] s u) ∧
    (∀ a, s.ms F.MODE_STATUS_STOPPING = true → s.law.stopWait = false → s.law.stopAt = some a →
      a + Sys2Proof.ms (s.lreg Reg.STOP_RAMP) ≤ n.now →
      let w := n.forEach n.lawChans fun c y => writeShadow none (modePort c) 1 y
      let w := loadAllGroups none n.lawGroups (w.setLaw { w.law with stopWait := true })
      (∀ g, g ∈ bitsOf 8 n.lawGroups → w.snap g ≠ none → Completes (.softStopComplete t) s fun u =>
        u = w ∧ u.reg Reg.MODE = s.reg Reg.MODE ∧ u.law.stopAt = some a) ∧
      ((∀ g, g ∈ bitsOf 8 n.lawGroups → w.snap g = none) → Completes (.softStopComplete t) s fun u =>
        Enters 1 1 s u ∧ u.law.stopAt = none ∧ u.reg Reg.MODE_CMD = 2 ∧ u.reg Reg.CMD_REFUSAL = 0)) ∧
    (∀ a, s.arming = some a → a + Sys2Proof.ms (s.lreg Reg.ARM_TIMEOUT) ≤ n.now → Completes (.armTimeout t) s fun u =>
      u.arming = none ∧ u.reg Reg.MODE_CMD = 3 ∧ u.reg Reg.CMD_REFUSAL = 4 ∧ PartsKept [.now, .regs, .lanes, .arming] s u)

/-- START, SYNC and the estimator: their windows and aborts (R50, R51, R52, R100, R101, R104, R105, R106, R107). -/
def Obligations.StartSyncAndEstimator : Prop :=
  ∀ (s : State) (t : Instant),
    let n := s.advance t
    (s.reg Reg.MODE = 4 → s.reg Reg.BS_STAGE = 4 → heldFor s.cad.settleSince (Sys2Proof.ms (s.lreg Reg.SETTLE_T)) n.now = true →
      Completes (.settleComplete t) s fun u => u.cad = { s.cad with settled := true } ∧ PartsKept [.now, .cad] s u) ∧
    (s.holds = true → n.startAbort ≠ 0 → Completes (.startAbort t) s fun u => Enters 1 26 s u ∧ u.reg Reg.COND_FAIL = n.startAbort ∧
      (s.ms F.MODE_STATUS_STOPPING = true → u.reg Reg.MODE_CMD = 3 ∧ u.reg Reg.CMD_REFUSAL = 11)) ∧
    (s.holds = true → n.syncAbort ≠ 0 → Completes (.syncAbort t) s fun u => Enters 1 26 s u ∧ u.reg Reg.COND_FAIL = n.syncAbort ∧
      (s.ms F.MODE_STATUS_STOPPING = true → u.reg Reg.MODE_CMD = 3 ∧ u.reg Reg.CMD_REFUSAL = 11)) ∧
    (s.matching = true → s.bs F.BS_STATUS_IN_SYNC = false → heldFor s.cad.inWinSince (Sys2Proof.ms (s.lreg Reg.SYNC_HOLD)) n.now = true →
      Completes (.syncHoldExpiry t) s fun u => u.reg Reg.BS_STAGE = 7 ∧ u.bs F.BS_STATUS_IN_SYNC = true ∧
        RegsKept [Reg.BS_STAGE, Reg.BS_STATUS] s u ∧ PartsKept [.now, .regs, .cad] s u) ∧
    (s.reg Reg.MODE = 5 → s.reg Reg.BS_STAGE = 7 → s.bs F.BS_STATUS_IN_SYNC = false →
      heldFor s.cad.clearedAt (Sys2Proof.ms (s.lreg Reg.CLOSE_WIN)) n.now = true →
      Completes (.closeWinExpiry t) s fun u => u.reg Reg.BS_STAGE = 6 ∧ RegsKept [Reg.BS_STAGE] s u ∧ PartsKept [.now, .regs, .cad] s u) ∧
    (s.estRuns = true → s.law.est.on = true → s.par Reg.WINDOW ≤ s.law.est.chips.length →
      Completes (.estimateWindowEnd t) s (fun u => u.law.est.on = true ∧ u.law.est.chips = [] ∧ u.law.est.startAt = n.now) ∧
      ∀ rg xg zg q, s.estimate = some (rg, xg, zg, q) → (s.par Reg.Q_MIN : Rat) ≤ q * 100 →
        Completes (.estimateWindowEnd t) s fun u => u.reg Reg.R_G = q15Code rg ∧ u.reg Reg.X_G = q15Code xg ∧ u.reg Reg.EST_STATE = 2 ∧
          u.ls F.LAW_STATUS_EST_STALE = false ∧ u.law.est.lastAt = some n.now ∧
          (s.par Reg.RETUNE_EN = 1 → s.targets rg xg ≠ s.target → u.reg Reg.RETUNE_CAUSE = 1 ∧ u.reg Reg.RETUNE_TIME = n.time64 ∧
            u.target = s.targets rg xg) ∧
          (s.par Reg.RETUNE_EN ≠ 1 ∨ s.targets rg xg = s.target → u.law.ramp = s.law.ramp ∧ u.reg Reg.RETUNE_CAUSE = s.reg Reg.RETUNE_CAUSE)) ∧
    (s.law.est.lastAt.getD s.bootInfo.bootAt + sec (s.par Reg.STALE_S) ≤ n.now → Completes (.estimateStale t) s fun u =>
      u.ls F.LAW_STATUS_EST_STALE = true ∧ (s.estRuns = true → u.reg Reg.EST_STATE = 3) ∧
        RegsKept [Reg.LAW_STATUS, Reg.EST_STATE] s u ∧ PartsKept [.now, .regs] s u)

/-- Alarms start cycles, deadlines pass, END ends them, port writes are delivered (R38, R39, R124, R130, R137, R142, R156, R320,
R321). -/
def Obligations.EngineCycles : Prop :=
  ∀ (s : State) (e n : Fin 16) (t : Instant),
    let x := s.engine e
    let r := s.advance t
    (∀ i rest, (s.alarm n).insts = i :: rest → i.1 ≤ t → n ≠ 0 → s.reg Reg.LAW_BUILTIN = 1 ∨ s.reg Reg.HB_ALARM ≠ n →
      (s.law.innerDue.any fun d => d.1 == n.val) = false → Completes (.timeAlarm n t) s fun u => (u.alarm n).n = (s.alarm n).n + 1 ∧
        (s.fld (Reg.TA_CFG n) F.TA_CFG_MODE = 0 → (u.alarm n).insts = insertInst (i.1 + s.taPeriod n, false) rest) ∧
        (s.fld (Reg.TA_CFG n) F.TA_CFG_MODE ≠ 0 → (u.alarm n).insts = rest) ∧
        (s.reg (Reg.ENABLE e) = 1 → s.reg (Reg.ALARM e) = n → x.valid = true → x.faulted = false → x.loading = false → x.stopping = false →
          (u.engine e).inCycle = true ∧ (u.engine e).alarmAt = i.1 ∧ (u.engine e).flags = 0 ∧ (u.engine e).cycleNo = x.cycleNo + 1)) ∧
    (∀ i rest, (s.alarm n).insts = i :: rest → i.1 ≤ t → Completes (.timeAlarm n t) s (· = alarmInstance n i r)) ∧
    (∀ i rest, (s.alarm n).insts = i :: rest → let u := alarmDelivered n i s
      (u.alarm n).n = (s.alarm n).n + 1 ∧ PartsKept [.free, .regs, .engines, .alarms] s u ∧
        (s.reg (Reg.TA_COUNT n) + 1 < 2 ^ 32 → u.reg (Reg.TA_COUNT n) = s.reg (Reg.TA_COUNT n) + 1) ∧
        (i.2 = true → u.flag (Reg.TA_STATUS n) F.TA_STATUS_LATE = true)) ∧
    ((s.alarm n).insts = [] → Completes (.timeAlarm n t) s (· = s)) ∧
    (∀ a, x.valid = true → x.faulted = false → x.loading = false → x.stopping = false → x.inCycle = false →
      ((startCycle e n a s).engine e).pc = BitVec.ofNat 13 (s.reg (Reg.ENTRY e)) ∧ ((startCycle e n a s).engine e).wait = .none) ∧
    (s.reg Reg.LAW_BUILTIN ≠ 1 ∨ 8 ≤ e.val → x.inCycle = true → x.late = false → x.deadline < r.now → x.stopping = false → (s.law.innerDue.any fun d => decide (d.2 < r.now)) = false →
      Completes (.deadlinePass e t) s fun u => (u.engine e).late = true ∧ (u.engine e).inCycle = true ∧
        u.flag (Reg.ENG_STATUS e) F.ENG_STATUS_MISS = true) ∧
    Completes (.deadlinePass e t) s (· = innerDeadlineDue r.now (passDeadline r.now e r)) ∧
    (∀ d, s.reg Reg.LAW_BUILTIN ≠ 1 ∨ 8 ≤ e.val → x.inCycle = true → x.late = false → x.deadline < d → let u := passDeadline d e s
      u.flag (Reg.ENG_STATUS e) F.ENG_STATUS_MISS = true ∧ (u.engine e).inCycle = !x.stopping ∧ (x.stopping = false → (u.engine e).late = true)) ∧
    (∀ d, x.inCycle = false ∨ x.late = true ∨ d ≤ x.deadline → passDeadline d e s = s) ∧
    (x.inCycle = true → x.wait = .ending → x.timedQ = [] → x.fabQ = [] → x.late = false → r.tickCeil r.now ≤ x.deadline → x.stopping = false →
      s.reg Reg.LAW_BUILTIN ≠ 1 ∨ 8 ≤ e.val → s.outerEngine e = false →
      Completes (.endRegistered e t) s fun u => (u.engine e).inCycle = false ∧ (u.engine e).wait = .none ∧
        u.reg (Reg.SLACK_LAST e) = sput 32 (satS 32 ((s.time64At x.deadline : Int) - s.time64At (r.tickCeil r.now)))) ∧
    (x.inCycle = true → x.wait = .ending → x.timedQ = [] → x.fabQ = [] → Completes (.endRegistered e t) s fun u =>
      (u.engine e).inCycle = false ∧ (u.engine e).wait = .none ∧ (u.engine e).timedQ = [] ∧ (u.engine e).fabQ = []) ∧
    (∀ w q, s.onTick t = true → s.now ≤ t → x.fabQ = w :: q → s.inOrder (portBlock w.port) e t = true → Completes (.portWriteDeliver e true t) s
      (· = deliverAt e t w (r.setEngine e { x with fabQ := q }))) ∧
    (∀ w q, s.onTick t = true → s.now ≤ t → x.fabQ = w :: q → isFabric w.port = true → s.inOrder 0 e t = true →
      (x.late = false → t ≤ x.deadline → Completes (.portWriteDeliver e true t) s fun u =>
        u.load 4 (fabricAddr w.port) = w.val % 2 ^ 32 ∧ (u.engine e).fabQ = q) ∧
      (x.late = true → Completes (.portWriteDeliver e true t) s fun u =>
        u.flag (Reg.ENG_STATUS e) F.ENG_STATUS_LATE_WRITE = true ∧ u.mem = s.mem ∧ (u.engine e).fabQ = q)) ∧
    (∀ w q, s.onTick t = true → s.now ≤ t → x.timedQ = w :: q → x.lastTick < t → s.inOrder (portBlock w.port) e t = true →
      (isPwm w = false → Completes (.portWriteDeliver e false t) s (· = deliverAt e t w (r.setEngine e { x with timedQ := q, lastTick := t }))) ∧
      (isPwm w = true → let used := if s.pwm.pwmTick == t then s.pwm.pwmCount else 0
        let run := (x.timedQ.takeWhile isPwm).take (min 4 (8 - used))
        Completes (.portWriteDeliver e false t) s (· = run.foldl (fun y v => deliverAt e t v y)
          { r.setEngine e { x with timedQ := x.timedQ.drop run.length, lastTick := t } with
            pwm := { s.pwm with pwmTick := t, pwmCount := used + run.length } }))) ∧
    (∀ w, s.onTick t = true → s.now ≤ t → x.lastTick < t → x.timedQ = [w] → s.pwm.pwmTick ≠ t → s.inOrder 2 e t = true →
      0x200 ≤ w.port → w.port < 0x600 → w.port ≠ 0x220 → x.late = false → t ≤ x.deadline → Completes (.portWriteDeliver e false t) s fun u =>
        u.shadowVal w.port = w.val ∧ (u.engine e).timedQ = [] ∧ PartsKept [.now, .serial, .engines, .pwm] s u) ∧
    (∀ ev rest, s.pwm.events = ev :: rest → Completes .carrierEventDeliver s fun u =>
      u.pwm.events = rest ∧ PartsKept [.now, .pwm, .adc] s u) ∧
    ((s.carrier n).running = true → let v := lookAhead (s.carrier n).wrapAt s
      Completes (.carrierWrap n) s (· = if (v.carrier n).running then softStopCheck (wrapCarrier n v) else v)) ∧
    (∀ la, lookAhead la s = deadlinesAt (la - s.lead) (s.advance (la - s.lead))) ∧
    ((s.carrier n).running = false → Completes (.carrierWrap n) s (· = s))

/-- An outer-cycle start: policy decides by the first cause that holds; a command by its row (R56, R57, R58, R61, R65,
03_ride_through_and_modes.md, Table 3-2, 03_ride_through_and_modes.md, Table 3-4). -/
def Obligations.PolicyOrder : Prop :=
  ∀ (s : State) (v : Nat) (seen : Nat × Nat) (t : Instant),
    let m := s.reg Reg.MODE
    let r := runCommand v seen s
    let w := measured s
    let refused (c : Nat) : Prop := r.reg Reg.MODE_CMD = 3 ∧ r.reg Reg.CMD_REFUSAL = c ∧ r.reg Reg.MODE = m
    (s.phase = .running → Completes (.outerCycleStart t) s (· = outerCycle (s.advance t))) ∧
    (s.phase ≠ .running → Completes (.outerCycleStart t) s (· = s)) ∧
    (s.holds = true →
      (s.basecampCause ≠ 0 → Enters 0 s.basecampCause s (policyCauses s)) ∧
      (s.basecampCause = 0 → s.switching = true → s.lawFaulted = true → Enters 6 17 s (policyCauses s)) ∧
      (s.basecampCause = 0 → s.switching = false ∨ s.lawFaulted = false → s.limitCause ≠ 0 → Enters 0 s.limitCause s (policyCauses s)) ∧
      (s.basecampCause = 0 → s.switching = false ∨ s.lawFaulted = false → s.limitCause = 0 → s.autoExit.isNone = true →
        policyCauses s = nextCommand s)) ∧
    (s.holds = false → refused 10 ∧ policyCauses s = nextCommand s) ∧
    (s.holds = true →
      (v = m → v = 0 ∨ (m ≠ 6 ∧ s.ms F.MODE_STATUS_STOPPING = false) → r.reg Reg.MODE_CMD = 2 ∧ r.reg Reg.CMD_REFUSAL = 0 ∧ r.reg Reg.MODE = m) ∧
      (v = 0 → m ≠ 0 → Enters 0 1 s r ∧ r.reg Reg.MODE_CMD = 2) ∧
      (v ≠ m → v ≠ 0 → m = 6 → refused 9) ∧
      (v = 1 → m = 0 → s.ms F.MODE_STATUS_STOPPING = false → s.armFail ≠ 0 → refused s.armFail) ∧
      (v = 2 → m = 1 → s.ms F.MODE_STATUS_STOPPING = false → s.brk ≠ 1 → refused 6) ∧
      (v = 4 → m = 1 → s.ms F.MODE_STATUS_STOPPING = false → w.startFail ≠ 0 →
        refused (condCode w.startFail) ∧ r.reg Reg.COND_FAIL = w.startFail) ∧
      (v = 5 → m = 1 → s.ms F.MODE_STATUS_STOPPING = false → w.syncFail false ≠ 0 →
        refused (condCode (w.syncFail false)) ∧ r.reg Reg.COND_FAIL = w.syncFail false) ∧
      (v = 5 → m = 1 → s.ms F.MODE_STATUS_STOPPING = false → w.syncFail false = 0 → s.lreg Reg.PRE_EN = 1 →
        r.reg Reg.MODE_CMD = 2 ∧ r.reg Reg.BS_STAGE = 1) ∧
      (v = 2 ∨ v = 4 ∨ v = 5 → m = 0 → s.ms F.MODE_STATUS_STOPPING = false → refused (if seen.2 ≠ s.law.autoSeq ∧ rowFrom seen.1 v = true then 11 else 1)) ∧
      (v = 1 → 2 ≤ m → m ≤ 5 → s.ms F.MODE_STATUS_STOPPING = false → r.law.stopAt = some s.now ∧ r.ms F.MODE_STATUS_STOPPING = true ∧ r.reg Reg.MODE = m))

/-- Cadence frames: detection, slots, decoding, the five messages, collisions, discards (R113, R114, R115, R116, R117,
04_black_start_and_cadence.md, Table 4-6). -/
def Obligations.CadenceFrames : Prop :=
  ∀ (s : State) (u : Fin 16) (t e : Instant),
    let n := s.advance t
    let from_ := s.cad.slotRef + Sys2Proof.ms 800 + s.unitId * Sys2Proof.ms 400
    let next := (List.range 16).find? fun v => decide (s.reg Reg.TURN_PTR < v) && bit (s.lreg Reg.PEER_MASK) v && !s.regBit Reg.JOINED v
    let heard (m : Nat) (y : State) : Prop := y.reg Reg.LAST_RX = u * 256 + m ∧ y.reg Reg.LAST_RX_TIME = n.time64At e ∧ y.cad.slotRef = e ∧
      y.cad.frameAt = none ∧ PartsKept (if m = 1 ∨ m = 5 then [.now, .free, .regs, .law, .cad] else [.now, .free, .regs, .cad]) s y
    let reads (m : Nat) : Prop := n.frameRead = some (e, some (u.val, m))
    let peer : Prop := bit (s.lreg Reg.PEER_MASK) u = true ∧ u.val ≠ s.unitId
    (∀ d b, s.cad.rx = true → s.frameSince = false → n.frameSeen = some (d, b) → s.cad.slotRef ≤ d → Completes (.frameStartDetect t) s fun y =>
      y.cad = { s.cad with frameAt := some d, baseline := b } ∧ PartsKept [.now, .cad] s y) ∧
    (n.frameSeen = none → Completes (.frameStartDetect t) s (· = s)) ∧
    (∀ d b, s.frameSeen = some (d, b) → ∃ x ∈ s.cad.samples, d = x.1 + Sys2Proof.ms 100 ∧ d ≤ s.now ∧ s.tDec < x.2 - b) ∧
    (∀ tx a m, s.frameDecode tx = some (a, m) → a < 16 ∧ m < 16 ∧ ∀ k, k < 12 → s.frameSymbol tx k = some (listGet false (cadSymbols a m) k)) ∧
    (from_ ≤ t → (t - from_) % (16 * Sys2Proof.ms 400) = 0 → s.now ≤ t → s.cad.rx = true → s.lreg Reg.CAD_EN = 1 → s.mayTransmit = true →
      s.frameSince = false → s.cad.txAt = none → s.cad.queue ≠ [] → s.bs F.BS_STATUS_RESYNC_ACTIVE = false ∨ s.cad.resyncBy = s.unitId →
      s.cad.queue.head? ≠ some 2 ∨ s.bs F.BS_STATUS_HOLD_HEARD = false →
      Completes (.cadSlotStart t) s fun y => y.cad = { s.cad with txAt := some t, own := true } ∧ y.bs F.BS_STATUS_TX_ACTIVE = true ∧
        RegsKept [Reg.BS_STATUS] s y ∧ PartsKept [.now, .regs, .cad] s y) ∧
    (∀ p ∈ [(1, Instr.cadReady u t, hearReady u), (2, .cadEnergiseNext u t, hearNext u), (3, .cadHold u t, hearHold), (4, .cadResync u t, hearResync u),
        (5, .cadDone u t, hearDone u)],
      (reads p.1 → bit (s.lreg Reg.PEER_MASK) u = true → Completes p.2.1 s (· = frameTake p.1 u e p.2.2 n)) ∧
      (n.frameRead = none → Completes p.2.1 s (· = s))) ∧
    (s.cad.own = false → peer →
      (reads 1 → Completes (.cadReady u t) s fun y => heard 1 y ∧ y.regBit Reg.JOINED u = true ∧ y.reg Reg.TURN_PTR = u ∧ y.reg Reg.ISLANDED = 1 ∧
        y.bs F.BS_STATUS_MASTER = false) ∧
      (∀ v, reads 2 → next = some v → Completes (.cadEnergiseNext u t) s fun y => heard 2 y ∧ y.reg Reg.TURN_PTR = v ∧
        y.bs F.BS_STATUS_HAS_TURN = (v == s.unitId)) ∧
      (reads 2 → next = none → Completes (.cadEnergiseNext u t) s fun y => heard 2 y ∧ y.reg Reg.TURN_PTR = 0xFF ∧ y.bs F.BS_STATUS_ALL_JOINED = true ∧
        y.bs F.BS_STATUS_HAS_TURN = false) ∧
      (reads 3 → Completes (.cadHold u t) s fun y => heard 3 y ∧ y.bs F.BS_STATUS_HOLD_HEARD = true ∧
        y.cad.holdUntil = n.now + sec (s.lreg Reg.HOLD_T)) ∧
      (reads 4 → Completes (.cadResync u t) s fun y => heard 4 y ∧ y.bs F.BS_STATUS_RESYNC_ACTIVE = true ∧ y.cad.resyncBy = u ∧
        y.cad.resyncUntil = n.now + sec (s.lreg Reg.RESYNC_T)) ∧
      (reads 5 → Completes (.cadDone u t) s fun y => heard 5 y ∧ y.regBit Reg.JOINED u = true)) ∧
    (∀ q, s.cad.own = true → u.val = s.unitId → bit (s.lreg Reg.PEER_MASK) u = true → s.cad.queue = 1 :: q → reads 1 →
      Completes (.cadReady u t) s fun y => heard 1 y ∧ y.cad.own = false ∧ y.cad.queue = q ∧ y.reg Reg.CAD_CMD = q.length ∧ y.cad.collisions = 0 ∧
        y.bs F.BS_STATUS_MASTER = true) ∧
    (s.cad.own = true → peer → reads 1 → Completes (.cadReady u t) s fun y => heard 1 y ∧ y.cad.own = false ∧ y.regBit Reg.JOINED u = true ∧
      (s.lreg Reg.CAD_RETRY ≤ s.cad.collisions + 1 → y.cad.queue = s.cad.queue.drop 1 ∧ y.bs F.BS_STATUS_CAD_FAIL = true)) ∧
    (s.reg Reg.RX_DISCARD + 1 < 4294967296 →
      let dropped (y : State) : Prop := y.reg Reg.RX_DISCARD = s.reg Reg.RX_DISCARD + 1 ∧ y.cad.slotRef = e ∧ y.cad.frameAt = none ∧
        y.cad.own = false ∧ (s.cad.own = false → RegsKept [Reg.RX_DISCARD] s y) ∧ PartsKept [.now, .free, .regs, .cad] s y
      (n.frameRead = some (e, none) → Completes (.frameDiscard t) s dropped) ∧
      (∀ a m, n.frameRead = some (e, some (a, m)) → m = 0 ∨ 6 ≤ m ∨ bit (s.lreg Reg.PEER_MASK) a = false → Completes (.frameDiscard t) s dropped) ∧
      (bit (s.lreg Reg.PEER_MASK) u = false → (reads 1 → Completes (.cadReady u t) s dropped) ∧ (reads 3 → Completes (.cadHold u t) s dropped)))

/-- Cadence timers, the queue of messages and CAD_EN (R116, R117, R118, R120, R121). -/
def Obligations.CadenceCommands : Prop :=
  ∀ (s : State) (t : Instant),
    let n := s.advance t
    (s.bs F.BS_STATUS_HOLD_HEARD = true → s.cad.holdUntil ≤ n.now → Completes (.holdTExpiry t) s fun y =>
      y.bs F.BS_STATUS_HOLD_HEARD = false ∧ y.bs F.BS_STATUS_RAMP_HELD = false ∧ PartsKept [.now, .regs, .cad] s y) ∧
    (s.bs F.BS_STATUS_RESYNC_ACTIVE = true → s.cad.resyncUntil ≤ n.now → Completes (.resyncTExpiry t) s fun y =>
      y.bs F.BS_STATUS_RESYNC_ACTIVE = false ∧ RegsKept [Reg.BS_STATUS] s y ∧ PartsKept [.now, .regs] s y) ∧
    (∀ d, s.cad.joinBy = some d → d ≤ n.now → Completes (.joinTExpiry t) s fun y => y.cad.joinBy = none ∧ PartsKept [.now, .regs, .cad] s y ∧
      (s.leads = true → s.ls F.LAW_STATUS_DC_LIMIT = false → s.ls F.LAW_STATUS_MACH_LIMIT = false → s.cad.queue.length < 4 →
        y.cad.queue = s.cad.queue ++ [2])) ∧
    (∀ p ∈ [(1, Instr.cadCmdReady), (2, .cadCmdEnergiseNext), (3, .cadCmdHold), (4, .cadCmdResync), (5, .cadCmdDone)],
      (s.cad.queue.length < 4 → Completes p.2 s fun y => y.cad = { s.cad with queue := s.cad.queue ++ [p.1] } ∧
        y.reg Reg.CAD_CMD = s.cad.queue.length + 1 ∧ y.bs F.BS_STATUS_CAD_FAIL = false ∧
        RegsKept [Reg.CAD_CMD, Reg.BS_STATUS] s y ∧ PartsKept [.regs, .cad] s y) ∧
      (4 ≤ s.cad.queue.length → Completes p.2 s (· = s))) ∧
    Completes .cadEnClear s (fun y => y.reg Reg.CAD_EN = 0 ∧ y.bs F.BS_STATUS_CAD_FAIL = false ∧
      y.cad = { s.cad with offDue := s.cad.offDue || s.reg Reg.CAD_EN == 1 } ∧ PartsKept [.regs, .cad, .mram] s y)

/-- Carriers, LOAD_ALL and shadow writes of the dictionary (R87, R137, R153, R154, R156, R160, R161, R162, R182). -/
def Obligations.CarriersAndLoads : Prop :=
  ∀ (s : State) (e n : Fin 16) (mask : BitVec 16) (lm : BitVec 8) (ts : Instant),
    let p := s.reg Reg.SW_PORT
    let v := s.reg Reg.SW_VALUE
    let want := s.instantOf (s.reg Reg.START_AT) 0
    ((∀ k ∈ bitsOf 16 mask.toNat, (s.carrier k).running = false ∧ (s.builtin = true → 10 ≤ k)) →
      Completes (.cgStart mask) s fun u => u.reg Reg.CG_START = 1 ∧ RegsKept [Reg.CG_START, Reg.TIME_FLAGS, Reg.TIME_STATE] s u ∧ PartsKept [.regs, .engines, .pwm, .alarms] s u ∧
        ∀ k ∈ bitsOf 16 mask.toNat, (u.carrier k).startAt = some (if s.reg Reg.START_AT = 0 ∨ want < s.la + us 1 then s.tickCeil (s.now + us 1) + s.lead
          else want)) ∧
    (∀ k ∈ bitsOf 16 mask.toNat, (s.carrier k).running = true ∨ s.builtin = true ∧ k < 10 → Completes (.cgStart mask) s fun u =>
      u.reg Reg.CG_START = 3 ∧ RegsKept [Reg.CG_START] s u ∧ PartsKept [.regs] s u) ∧
    (s.startingAt ts ≠ [] → let v := lookAhead ts s
      Completes (.carrierStart ts) s fun u => u.reg Reg.CG_START = 2 ∧
        u = (v.forEach (v.startingAt ts) (startCarrier ts)).setReg Reg.CG_START 2) ∧
    ((∀ k ∈ bitsOf 16 mask.toNat, (s.carrier k).running = false ∧ (s.builtin = true → 10 ≤ k)) → Completes (.cgStop mask) s fun u =>
      (∀ k ∈ bitsOf 16 mask.toNat, (u.carrier k).startAt = none) ∧ PartsKept [.pwm, .alarms] s u) ∧
    (s.startingAt ts = [] → Completes (.carrierStart ts) s (· = s)) ∧
    (s.builtin = false ∨ (∀ k ∈ bitsOf 16 mask.toNat, 10 ≤ k) → Completes (.cgStop mask) s fun u =>
      ∀ k ∈ bitsOf 16 mask.toNat, (u.carrier k).running = false ∧ (u.carrier k).startAt = none ∧
        ((s.carrier k).running = true → u.regBit Reg.CG_RUNNING k = false)) ∧
    (s.builtin = true → (∃ k ∈ bitsOf 16 mask.toNat, k < 10) → Completes (.cgStop mask) s (· = s)) ∧
    (∀ g, g = s.reg (Reg.CG_EVT n) → 0 < g → g < s.reg (Reg.CG_PER_ACT n) → (s.carrier n).running = true →
      (∀ m, m = (s.carrier n).wrapAt - s.perDur n + g * edgeTick → (s.carrier n).lastWrap ≤ m → (s.carrier n).evtFrom ≤ m →
        Completes (.cgEvtMatch n) s fun u => (u.carrier n).evtFrom = m + 1 ∧ u.pwm.events = s.pwm.events ++ [⟨n, true, m⟩] ∧
          PartsKept [.now, .pwm] s u)) ∧
    (s.evtAhead n = true → Completes (.cgEvtMatch n) s fun u => (u.carrier n).evtFrom = s.evtAt n + 1 ∧
      u.pwm.events = s.pwm.events ++ [⟨n, true, s.evtAt n⟩] ∧ PartsKept [.now, .pwm] s u) ∧
    (s.evtAhead n = false → Completes (.cgEvtMatch n) s (· = s)) ∧
    (s.reg (Reg.CG_PER_ACT n) ≤ s.reg (Reg.CG_EVT n) → Completes (.cgEvtMatch n) s (· = s)) ∧
    (∀ a g, (s.reg Reg.MODE = 6 → bit s.holdGroups g = true → (loadGroup a g s).flag (Reg.LG_STATUS g) F.LG_STATUS_HELD = true ∧
        (loadGroup a g s).snap g = s.snap g) ∧
      (s.reg Reg.MODE ≠ 6 → s.requireComplete g = true → (∃ q ∈ s.armedPorts g, (s.shadow q).written = false) →
        (loadGroup a g s).flag (Reg.LG_STATUS g) F.LG_STATUS_TORN = true ∧ (loadGroup a g s).snap g = s.snap g) ∧
      (s.reg Reg.MODE ≠ 6 → s.requireComplete g = false → s.snap g = none → s.openCycle a = true →
        (loadGroup a g s).snap g = some ⟨s.pwm.shadows.filter fun x => s.portGroup x.1 == g, a, none, s.reg Reg.BEHAVIOUR_LEVEL == 1⟩)) ∧
    (let x := s.engine e; let a := s.tickCeil s.now; let y := (s.advance a).setEngine e { x with timedQ := [] }
      (x.inCycle = true → s.inOrder 2 e a = true → Completes (.loadAll e lm) s
        (· = deliverAt e a ⟨0x220, lm.toNat⟩ (x.timedQ.foldl (fun u w => deliverAt e a w u) y))) ∧
      (x.inCycle = true → s.inOrder 2 e a = true → x.timedQ = [] → x.late = false → a ≤ x.deadline → Completes (.loadAll e lm) s
        (· = (takePlace 2 e a y).forEach (bitsOf 8 lm.toNat) (loadGroup (some (e.val, x.cycleNo))))) ∧
      (x.inCycle = true → s.inOrder 2 e a = true → x.late = true ∨ x.deadline < a → Completes (.loadAll e lm) s fun u =>
        u.flag (Reg.ENG_STATUS e) F.ENG_STATUS_LATE_WRITE = true ∧ u.pwm = { s.pwm with order := u.pwm.order } ∧ u.mem = s.mem) ∧
      (x.inCycle = false ∨ s.inOrder 2 e a = false → Completes (.loadAll e lm) s (· = s))) ∧
    (s.builtin = true → bit lm.toNat 0 = true → Completes (.swLoadAll lm) s (· = s)) ∧
    (s.builtin = false ∨ bit lm.toNat 0 = false → Completes (.swLoadAll lm) s
      (· = (takePlace 2 16 (s.tickCeil s.now) s).forEach (bitsOf 8 lm.toNat) (loadGroup none))) ∧
    (∀ u : State, u = takePlace 2 16 (s.tickCeil s.now) s → u.inOrder 2 e (s.tickCeil s.now) = false) ∧
    (shadowOk p v = true → s.lawPort p = false → Completes .swWrite s fun u => u.shadowVal p = v ∧ (u.shadow p).written = true ∧
      (∀ q, q ≠ p → u.shadow q = s.shadow q) ∧ PartsKept [.serial, .pwm] s u) ∧
    (shadowOk p v = false ∨ s.lawPort p = true → Completes .swWrite s (· = s))

/-- Channels: forced off, interlock, dead time, compares; PWM_CLEAR (R169, R170, R177, 06_pwm_generator.md, Table 6-2,
06_pwm_generator.md, Table 6-7). -/
def Obligations.OutputStages : Prop :=
  ∀ (s : State) (c : Fin 256) (t : Instant),
    let n := s.advance t
    (∀ k, s.forced k = true → ((forceOff k s).chan k).out = false ∧ ((forceOff k s).chan k).onCarry = 0 ∧ ((forceOff k s).chan k).offCarry = 0 ∧
      ∀ j, j ≠ k → (forceOff k s).chan j = s.chan j) ∧
    (∀ k la, s.isLeg k = true → s.interlockFree k la = false → s.oddFirst k la = false → ((stage5On k la s).chan k).out = (s.chan k).out ∧
      ((stage5On k la s).chan k).held = true ∧ (stage5On k la s).flag Reg.PWM_STATUS F.PWM_STATUS_SHOOT = true) ∧
    (∀ k la, (s.chan (pairOf k)).out = true → s.interlockFree k la = false) ∧
    (∀ k la, s.oddFirst k la = true → ((stage5On k la s).chan k).out = true ∧ ((stage5On k la s).chan (k + 1)).out = false ∧
      ((stage5On k la s).chan (k + 1)).held = true ∧ (stage5On k la s).flag Reg.PWM_STATUS F.PWM_STATUS_SHOOT = true) ∧
    (∀ k la, (s.chan k).held = true → s.effVal (modePort k) = 0 → 0 < s.minOn k →
      (stage5Off k la s).flag (Reg.CH_STATUS k) F.CH_STATUS_DROPPED = true ∧ ((stage5Off k la s).chan k).held = false) ∧
    Completes (.compareMatch c t) s (· = evalPair (c / 2) n.la (duePair (c / 2) n.la n)) ∧
    (∀ d, (s.chan c).onAt = some d → Completes (.deadTimeExpiry c) s (· = duePair (c / 2) d (s.advance (d - s.lead)))) ∧
    ((s.chan c).onAt = none → Completes (.deadTimeExpiry c) s (· = s)) ∧
    ((s.chan c).held = true → n.interlockFree c n.la = true → s.minOn c = 0 → (s.chan c).cbc = false → s.forced c = false →
      Completes (.interlockRelease c t) s fun u => (u.chan c).out = true ∧ (u.chan c).held = false ∧
        (∀ j, j ≠ c.val → u.chan j = s.chan j) ∧ PartsKept [.now, .pwm] s u) ∧
    (let kept : Prop := s.effVal (modePort c) ≠ 0 ∨ s.minOn c = 0 ∨ s.minOn c ≤ n.onLeft c n.la;
      (s.chan c).held = true → n.interlockFree c n.la = true →
      (kept → Completes (.interlockRelease c t) s fun u => (u.chan c).held = false ∧
        (u.chan c).out = ((s.chan c).out || !((s.chan c).cbc || s.forced c)) ∧ (∀ j, j ≠ c.val → u.chan j = s.chan j) ∧ PartsKept [.now, .pwm] s u) ∧
      (¬kept → Completes (.interlockRelease c t) s fun u => u.chan c = { s.chan c with held := false, lvl4 := false, plan := [] } ∧
        u.flag (Reg.CH_STATUS c) F.CH_STATUS_DROPPED = true ∧ u.flag Reg.PWM_STATUS F.PWM_STATUS_DROP = true)) ∧
    ((s.chan c).held = true → n.interlockFree c n.la = false → Completes (.interlockRelease c t) s (· = n)) ∧
    ((s.chan c).held = false → Completes (.interlockRelease c t) s (· = n)) ∧
    Completes .pwmClear s (fun u => u.reg Reg.SHOOT_COUNT = 0 ∧ u.reg Reg.CLAMP_COUNT = 0 ∧ u.reg Reg.DROP_COUNT = 0 ∧ u.reg Reg.CARRY_LOST = 0 ∧
      (∀ k, k < 128 → u.reg (Reg.PAIR_SHOOT k) = 0) ∧
      RegsKept ([Reg.SHOOT_COUNT, Reg.CLAMP_COUNT, Reg.DROP_COUNT, Reg.CARRY_LOST] ++ (List.range 128).map Reg.PAIR_SHOOT) s u ∧
      PartsKept [.regs] s u)

/-- Trip inputs: decision, latch, automatic clear, clear by command, configuration, forced channels (R176, R177, R178, R179, R180,
R181, R182, 06_pwm_generator.md, Table 6-5). -/
def Obligations.TripRules : Prop :=
  ∀ (s : State) (i : Fin 32) (j : Fin 8) (m v : BitVec 32) (t : Instant),
    let n := s.advance t
    let r := s.retry i
    let run : Prop := s.onTick t = true ∧
      s.tickNo (tabGet 0 s.pwm.tripAt i) + max 1 (s.fld (Reg.TRIP_CFG i) F.TRIP_CFG_FILTER) ≤ s.tickNo t
    (s.flag (Reg.TRIP_CFG i) F.TRIP_CFG_EN = true → s.regBit Reg.TRIP_ACTIVE i = false → run → Completes (.tripDecision i t) s fun u =>
      u.regBit Reg.TRIP_ACTIVE i = true ∧ u.regBit Reg.TRIP_FAULT i = true ∧ u.reg (Reg.TRIP_TIME i) = n.time64 ∧
        (s.latches r n.now (s.flag (Reg.TRIP_CFG i) F.TRIP_CFG_NO_RETRY) = true → u.regBit Reg.TRIP_LATCHED i = true) ∧
        RegsKept [Reg.TRIP_ACTIVE, Reg.TRIP_COUNT i, Reg.TRIP_TIME i, Reg.TRIP_FAULT, Reg.TRIP_LATCHED] s u ∧
        PartsKept [.now, .free, .regs, .pwm] s u) ∧
    (s.flag (Reg.TRIP_CFG i) F.TRIP_CFG_EN = false → s.regBit Reg.TRIP_ACTIVE i = false → run → Completes (.tripDecision i t) s fun u =>
      u.regBit Reg.TRIP_ACTIVE i = true ∧ RegsKept [Reg.TRIP_ACTIVE] s u ∧ PartsKept [.now, .regs, .pwm] s u) ∧
    (¬ run → Completes (.tripDecision i t) s (· = s) ∧ Completes (.tripInputInactive i t) s (· = s)) ∧
    (s.regBit Reg.TRIP_ACTIVE i = true → run → Completes (.tripInputInactive i t) s fun u =>
      u.reg Reg.TRIP_ACTIVE = setBit (s.reg Reg.TRIP_ACTIVE) i false ∧ RegsKept [Reg.TRIP_ACTIVE] s u ∧ PartsKept [.now, .regs, .pwm] s u) ∧
    (s.regBit Reg.TRIP_FAULT i = true → s.regBit Reg.TRIP_LATCHED i = false → s.regBit Reg.TRIP_ACTIVE i = false →
      r.decision + Sys2Proof.ms (s.reg Reg.TRETRY) ≤ t → Completes (.tripAutoClear i t) s fun u =>
        u.reg Reg.TRIP_FAULT = setBit (s.reg Reg.TRIP_FAULT) i false ∧ u.retry i = s.countTry r n.now ∧
        RegsKept [Reg.TRIP_FAULT, Reg.TRIP_TRIES i] s u ∧ PartsKept [.now, .regs, .pwm] s u) ∧
    Completes (.tripClear m) s (fun u => (∀ k, k < 32 →
        u.regBit Reg.TRIP_LATCHED k = (s.regBit Reg.TRIP_LATCHED k && !(m.getLsbD k && !s.regBit Reg.TRIP_ACTIVE k)) ∧
        (m.getLsbD k = true → s.regBit Reg.TRIP_LATCHED k = true → s.regBit Reg.TRIP_ACTIVE k = false →
          u.regBit Reg.TRIP_FAULT k = false ∧ u.reg (Reg.TRIP_TRIES k) = 0)) ∧ PartsKept [.regs, .pwm] s u) ∧
    (valueOk (Reg.TRIP_CFG i) v.toNat = false → Completes (.tripCfgWrite i v) s (· = s)) ∧
    (valueOk (Reg.TRIP_CFG i) v.toNat = true → Completes (.tripCfgWrite i v) s fun u => u.reg (Reg.TRIP_CFG i) = v.toNat ∧
      (fget F.TRIP_CFG_EN v.toNat = 1 → fget F.TRIP_CFG_EN (s.reg (Reg.TRIP_CFG i)) = 0 → u.regBit Reg.TRIP_ACTIVE i = false ∧
        tabGet 0 u.pwm.tripAt i = s.now) ∧ PartsKept [.regs, .mram, .pwm] s u) ∧
    (s.builtin = true → j.val < 3 → s.reg Reg.MODE ≠ 0 → Completes (.forceOffWrite j v) s (· = s)) ∧
    (s.builtin = false ∨ 3 ≤ j.val ∨ s.reg Reg.MODE = 0 → Completes (.forceOffWrite j v) s fun u => u.reg (Reg.FORCE_OFF j) = v.toNat ∧
      (∀ b : Fin 32, v.getLsbD b = true → s.regBit (Reg.FORCE_OFF j) b = false → (u.chan (32 * j + b)).out = false) ∧
      RegsKept [Reg.FORCE_OFF j] s u ∧ PartsKept [.free, .regs, .pwm] s u)

/-- Acquisition: triggers, steps, conversions, results (R229, R231, R232, R233, R234, R235, R236, R238). -/
def Obligations.AcquisitionRounds : Prop :=
  ∀ (s : State) (g : Fin 8) (a : Fin 64) (p : Fin 4) (nv : Int) (raw : BitVec 16) (up : Bool) (v : BitVec 32) (t : Instant),
    let n := s.advance t
    let ready (q : Nat) : Prop := s.flag (Reg.SQ_CFG (q / 2)) F.SQ_CFG_EN = true ∧ s.seqLen q ≠ 0 ∧
      s.flag Reg.ADC_STATUS F.ADC_STATUS_READY = true ∧ s.adc.stopping = false
    (∀ x ∈ [(2 * g.val, Instr.swtrigRegular g, F.SQ_STATUS_REG_BUSY, F.SQ_STATUS_REG_OVR),
        (2 * g.val + 1, .swtrigInjected g, F.SQ_STATUS_INJ_BUSY, F.SQ_STATUS_INJ_OVR)],
      (ready x.1 → s.round x.1 = none → Completes x.2.1 s fun u => u.round x.1 = some { pendAt := some (s.tickCeil s.now) } ∧
        u.flag (Reg.SQ_STATUS g) x.2.2.1 = true ∧ PartsKept [.free, .regs, .adc] s u) ∧
      (ready x.1 → s.round x.1 ≠ none → Completes x.2.1 s fun u => u.flag (Reg.SQ_STATUS g) x.2.2.2 = true ∧ u.adc = s.adc) ∧
      (s.flag (Reg.SQ_CFG g) F.SQ_CFG_EN = false → Completes x.2.1 s (· = s)) ∧ (¬ready x.1 → Completes x.2.1 s (· = s))) ∧
    (s.adc.trigs = [] → Completes .adcTrigger s (· = s)) ∧
    (∀ q t0, s.firstStep = some (q, t0) → Completes .stepStart s (· = startStep q t0 s)) ∧
    (s.firstStep = none → Completes .stepStart s (· = s)) ∧
    (∀ l x rest, s.adc.owConvs = (l, x) :: rest → s.firstConv = none ∨ (∃ q, s.firstConv = some q ∧ x < s.convAt q) → Completes .conversionEnd s fun u =>
      u.adc.owConvs = rest ∧ u.now = max s.now (x + ns 200) ∧ u.freeSince l = x + ns 200 ∧ u.adc.rounds = s.adc.rounds) ∧
    (s.firstConv = none → s.adc.owConvs = [] → Completes .conversionEnd s (· = s)) ∧
    (∀ c t0 rest, s.adc.trigs = (c, t0) :: rest → Completes .adcTrigger s fun u => u.adc.trigs = rest ∧ PartsKept [.now, .free, .regs, .adc] s u ∧
      ∀ q, q < 16 → s.seqTrig q = c → c ≠ 0 → ready q → s.round q = none → u.round q = some { pendAt := some t0 }) ∧
    (∀ q t0 r ts sl, s.firstStep = some (q, t0) → s.round q = some r → s.stepAt (s.step_ q r.next).length t0 = some (ts, sl) →
      s.lawRoom q (s.step_ q r.next).length ts = true → Completes .stepStart s fun u => u.now = max s.now ts ∧
        ∃ x, u.round q = some x ∧ x.convAt = some ts ∧ x.slices = sl ∧ x.next = r.next + (s.step_ q r.next).length ∧ x.pendAt = none) ∧
    (∀ q r ts, s.firstConv = some q → s.round q = some r → r.convAt = some ts → (∀ x ∈ s.adc.owConvs.head?, ts ≤ x.2) →
      let ends (y : Option Round) : Prop := Completes .conversionEnd s fun u => u.round q = y ∧ u.now = max s.now (ts + ns 200)
      (s.adc.stopping = false → r.next < s.seqLen q → ends (some { r with convAt := none, slices := [], pendAt := some (ts + ns 200) })) ∧
      (s.seqLen q ≤ r.next → r.left = 0 →
        (seqInj q = true ∨ s.flag (Reg.SQ_CFG (q / 2)) F.SQ_CFG_CONT = false ∨ s.adc.stopping = true → ends none) ∧
        (seqInj q = false → s.flag (Reg.SQ_CFG (q / 2)) F.SQ_CFG_CONT = true → ready q →
          ends (some { pendAt := some (max s.now (ts + ns 200)) }))) ∧
      (s.adc.stopping = true → r.next < s.seqLen q → ends none) ∧
      (s.seqLen q ≤ r.next → r.left ≠ 0 → ends (some { r with convAt := none, slices := [], pendAt := none }))) ∧
    (∀ c, s.adc.convs.find? (fun c => c.ain == a.1) = some c → c.at_ + ns 200 ≤ t → t ≤ c.at_ + ns 280 →
      Completes (.resultRegistered a nv raw t) s fun u =>
        u.reg (Reg.RESULT a) % 65536 = sput 16 (max (-32768) (min 32767 (adcCode nv))) ∧ u.reg (Reg.SAMPLE_TIME a) = s.time64At c.at_ ∧
        u.word a = u.reg (Reg.RESULT a)) ∧
    (s.flag (Reg.TRG_CFG p) F.TRG_CFG_EN = true → s.trgEdge p up = true → s.trgRun p up t = true →
      Completes (.adcTrgDecision p up t) s fun u => u.regBit Reg.TRG_LOST p = false ∧ tabGet 0 u.adc.trgRef p = t ∧
        tabGet (none, 0) u.adc.trgFilt p = (some up, t) ∧
        RegsKept [Reg.TRG_COUNT p, Reg.TRG_LOST] s u ∧ PartsKept [.now, .free, .regs, .adc] s u) ∧
    (s.flag (Reg.TRG_CFG p) F.TRG_CFG_EN = true → s.reg (Reg.TRG_TO p) ≠ 0 → tabGet 0 s.adc.trgRef p + us (s.reg (Reg.TRG_TO p)) ≤ t →
      Completes (.trgTimeout p t) s fun u => u.regBit Reg.TRG_LOST p = true ∧ RegsKept [Reg.TRG_LOST] s u ∧ PartsKept [.now, .regs] s u) ∧
    (valueOk (Reg.TRG_CFG p) v.toNat = true → Completes (.trgCfgWrite p v) s fun u => u.reg (Reg.TRG_CFG p) = v.toNat ∧
      tabGet 0 u.adc.trgRef p = s.now ∧ tabGet (none, 0) u.adc.trgFilt p = (none, s.now) ∧ (fget F.TRG_CFG_EN v.toNat = 0 → u.regBit Reg.TRG_LOST p = false) ∧ PartsKept [.regs, .mram, .adc] s u) ∧
    (valueOk (Reg.TRG_CFG p) v.toNat = false → Completes (.trgCfgWrite p v) s (· = s))

/-- Stale inputs, the open-wire test, calibration, enable and shutdown of the acquisition (R240, R242, R243, R246, R247, R249, R254,
08_analogue_acquisition.md, Table 8-4). -/
def Obligations.OpenWireAndCalibration : Prop :=
  ∀ (s : State) (a : Fin 64) (nv : Int) (offs : List (BitVec 16)) (gains : List (BitVec 32)) (off : BitVec 16) (gain ppm : BitVec 32)
    (mask : BitVec 17) (t : Instant),
    let n := s.advance t
    let settle := us (s.reg (Reg.OW_SETTLE))
    (∀ t0, tabGet none s.adc.lastSamp a = some t0 → let lim := (tabGet none s.adc.staleOld a).getD (s.reg (Reg.STALE_TO a))
      lim ≠ 0 → t0 + us lim ≤ t → Completes (.inputStale a t) s fun u => u.reg (Reg.RESULT a) = setBit (setBit (s.word a) 27 true) 31 true ∧ u.word a = u.reg (Reg.RESULT a)) ∧
    (s.fld (Reg.OW_CFG a) F.OW_CFG_ISEL ≠ 0 → tabGet none s.adc.ow a = none → s.flag Reg.ADC_STATUS F.ADC_STATUS_READY = true →
      s.owAllowed a t = true → Completes (.owTestStart a t) s fun u => tabGet none u.adc.ow a = some { at_ := n.now } ∧ PartsKept [.now, .adc] s u) ∧
    (∀ w, tabGet none s.adc.ow a = some w → w.at_ + settle + w.phase * (settle + ns 200) ≤ t →
      (w.phase = 2 → Completes (.owPhaseEnd a nv t) s fun u => u.reg (Reg.OW_DIFF a) = w.code.toNat ∧ u.regBit Reg.OW_MISSED a = false ∧
        u.regBit Reg.OPEN_MASK a = decide (s.fld (Reg.OW_CFG a) F.OW_CFG_OW_THRESH < w.code.toNat) ∧ tabGet none u.adc.ow a = none) ∧
      (w.phase ≠ 2 → n.freeSlice n.now = none → Completes (.owPhaseEnd a nv t) s fun u => tabGet none u.adc.ow a = none ∧ PartsKept [.now, .adc] s u) ∧
      (∀ l, w.phase ≠ 2 → n.freeSlice n.now = some l → Completes (.owPhaseEnd a nv t) s fun u => PartsKept [.now, .adc] s u ∧
        u.adc.owConvs = s.adc.owConvs ++ [(l, n.now)] ∧ (tabGet none u.adc.ow a).map (·.phase) = some (w.phase + 1))) ∧
    (s.fld (Reg.OW_CFG a) F.OW_CFG_ISEL ≠ 0 → tabGet 0 s.adc.owDone a + Sys2Proof.ms (s.reg (Reg.OW_PERIOD)) ≤ t →
      Completes (.owPeriodExpiry a t) s fun u => u.regBit Reg.OW_MISSED a = true ∧ RegsKept [Reg.OW_MISSED] s u ∧ PartsKept [.now, .regs] s u) ∧
    (∀ t0, s.adc.startAt = some t0 → t0 + Sys2Proof.ms (s.reg Reg.CAL_TIME) ≤ t → Completes (.calStartupComplete offs gains t) s fun u =>
      u.adc.startAt = none ∧ (s.adc.pendDisable = true → u.adc.stopping = true) ∧
        (s.adc.pendDisable = false → u.flag Reg.ADC_STATUS F.ADC_STATUS_READY = true) ∧
        (∀ k, k < 17 → s.sliceState k ≠ sliceRetired → calOk (listGet 0#16 offs k) (listGet 0#32 gains k) = true →
          u.reg (Reg.SLICE_OFFSET k) = (listGet 0#16 offs k).toNat ∧ u.reg (Reg.SLICE_GAIN k) = (listGet 0#32 gains k).toNat)) ∧
    (∀ k t0, s.adc.cal = some (k, t0, false) → s.sliceState k = sliceCal → t0 + Sys2Proof.ms (s.reg Reg.CAL_TIME) ≤ t → Completes (.calTurnEnd off gain ppm t) s fun u =>
      u.adc.turn = (k + 1) % 17 ∧ (calOk off gain = false → u.flag Reg.ADC_STATUS F.ADC_STATUS_CAL_STOPPED = true)) ∧
    (∀ k t0 f, s.adc.cal = some (k, t0, f) → s.sliceState k = sliceCal → t0 + Sys2Proof.ms (s.reg Reg.CAL_TIME) ≤ t → k < 17 →
      Completes (.calTurnEnd off gain ppm t) s fun u => u.regBit Reg.CAL_FORCE k = false ∧ (f = true → u.adc.turn = s.adc.turn) ∧
        (calOk off gain = true → u.reg (Reg.SLICE_OFFSET k) = off.toNat ∧ u.reg (Reg.SLICE_GAIN k) = gain.toNat) ∧
        (calOk off gain = false → u.sliceState k = sliceRetired)) ∧
    (s.adc.cal = none → Completes (.calTurnEnd off gain ppm t) s (· = s)) ∧
    (s.spareLeft = false → Completes (.calForce mask) s (· = s)) ∧
    (s.spareLeft = true → Completes (.calForce mask) s fun u => (∀ k ∈ bitsOf 17 mask.toNat, u.regBit Reg.CAL_FORCE k = true) ∧ PartsKept [.regs] s u) ∧
    (∀ k, ((List.range 17).find? fun k => s.flag (Reg.SLICE_STATUS k) F.SLICE_STATUS_CAL_WAIT) = some k → s.injectedWaits = false → s.adc.cal.any (·.2.2) = false →
      s.flag Reg.ADC_STATUS F.ADC_STATUS_READY = true → s.spareLeft = true →
      (s.adc.cal.any (·.1 == k) = false → Completes (.calForceWithdraw t) s fun u => u.adc.cal = some (k, n.now, true)) ∧
      (s.adc.cal.any (·.1 == k) = true → Completes (.calForceWithdraw t) s (· = n))) ∧
    (s.adc.stopping = false → s.adc.startAt = none → s.flag Reg.ADC_STATUS F.ADC_STATUS_READY = false → s.adcPower = true →
      Completes .adcEnable s fun u => u.reg Reg.ADC_EN = 1 ∧ u.adc.startAt = some s.now ∧ u.adc.stopping = false ∧ PartsKept [.regs, .mram, .adc] s u) ∧
    (s.adc.stopping = false → s.adc.startAt = none → s.flag Reg.ADC_STATUS F.ADC_STATUS_READY = true →
      Completes .adcDisable s fun u => u.reg Reg.ADC_EN = 0 ∧ u.adc.stopping = true ∧ u.adc.cal = none ∧ u.adc.trigs = [] ∧
        PartsKept [.regs, .mram, .adc] s u) ∧
    (s.adc.stopping = true → Completes .adcEnable s fun u => u.reg Reg.ADC_EN = 1 ∧ u.flag Reg.ADC_STATUS F.ADC_STATUS_PENDING_ENABLE = true ∧
      u.adc = s.adc ∧ PartsKept [.regs, .mram] s u) ∧
    (s.adc.stopping = false → s.adc.startAt ≠ none → Completes .adcEnable s fun u => u.reg Reg.ADC_EN = 1 ∧
      u.adc = { s.adc with pendDisable := false } ∧ PartsKept [.regs, .mram, .adc] s u) ∧
    (s.adc.stopping = false → s.adc.startAt = none → s.flag Reg.ADC_STATUS F.ADC_STATUS_READY = true ∨ s.adcPower = false →
      Completes .adcEnable s fun u => u.reg Reg.ADC_EN = 1 ∧ u.adc = s.adc ∧ PartsKept [.regs, .mram] s u) ∧
    (s.adc.stopping = true → Completes .adcDisable s fun u => u.reg Reg.ADC_EN = 0 ∧ u.flag Reg.ADC_STATUS F.ADC_STATUS_PENDING_ENABLE = false ∧
      u.adc = s.adc ∧ PartsKept [.regs, .mram] s u) ∧
    (s.adc.stopping = false → s.adc.startAt ≠ none → Completes .adcDisable s fun u => u.reg Reg.ADC_EN = 0 ∧
      u.adc = { s.adc with pendDisable := true } ∧ PartsKept [.regs, .mram, .adc] s u) ∧
    (s.adc.stopping = false → s.adc.startAt = none → s.flag Reg.ADC_STATUS F.ADC_STATUS_READY = false →
      Completes .adcDisable s fun u => u.reg Reg.ADC_EN = 0 ∧ u.adc = s.adc ∧ PartsKept [.regs, .mram] s u) ∧
    Completes .adcClear s (fun u => u.reg Reg.OW_ABORTS = 0 ∧ (∀ k, k < 64 → u.reg (Reg.FAULT_COUNT k) = 0) ∧ (∀ k, k < 4 → u.reg (Reg.TRG_COUNT k) = 0) ∧
      (∀ k, k < 8 → u.reg (Reg.SQ_OVR_COUNT k) = 0 ∧ u.reg (Reg.DELAYED_COUNT k) = 0 ∧ u.reg (Reg.DELAY_MAX k) = 0) ∧ PartsKept [.regs] s u)

/-- Sigma-delta clocks and inputs (R250, R252, R253). -/
def Obligations.SigmaDeltaInputs : Prop :=
  ∀ (s : State) (p : Fin 6) (i : Fin 24) (v khz : BitVec 32) (t : Instant),
    let n := s.advance t
    let e : Rat := 1600000 / s.sdcPeriod p
    let on (k : Nat) : Prop := k < 40 ∧ s.laneIsAin k = false ∧ s.laneSrc k = i.val ∧ s.laneRuns k = true
    (valueOk (Reg.SDC_CFG p) v.toNat = false → Completes (.sdcCfgWrite p v) s (· = s)) ∧
    (valueOk (Reg.SDC_CFG p) v.toNat = true → Completes (.sdcCfgWrite p v) s fun u => u.reg (Reg.SDC_CFG p) = v.toNat ∧ u.adc = { s.adc with sdcGood := setBit s.adc.sdcGood p false }) ∧
    (s.flag (Reg.SDC_CFG p) F.SDC_CFG_EN = true → Completes (.sdcFreqMeasure p khz t) s fun u => u.reg (Reg.SDC_FREQ p) = khz.toNat ∧
      u.flag (Reg.SDC_STATUS p) F.SDC_STATUS_RUNNING = true ∧
      u.flag (Reg.SDC_STATUS p) F.SDC_STATUS_CLK_BAD = (decide (e * 5 / 100 < (khz.toNat : Rat) - e) || decide (e * 5 / 100 < e - khz.toNat)) ∧
      RegsKept [Reg.SDC_FREQ p, Reg.SDC_STATUS p] s u ∧ PartsKept [.now, .regs] s u) ∧
    (s.flag (Reg.SDC_CFG p) F.SDC_CFG_EN = true → s.flag (Reg.SDC_STATUS p) F.SDC_STATUS_CLK_STALE = false →
      Completes (.sdcClockStale p t) s fun u => u.adc = { s.adc with sdcGood := setBit s.adc.sdcGood p false }) ∧
    (s.flag (Reg.SDC_CFG p) F.SDC_CFG_EN = true → bit s.adc.sdcGood p = false → Completes (.sdcClockResume p t) s fun u =>
      u.adc = { s.adc with sdcGood := setBit s.adc.sdcGood p true }) ∧
    (s.flag (Reg.SDI_CFG i) F.SDI_CFG_EN = true → bit s.adc.sdcGood (s.sdiPin i) = true → s.flag (Reg.SDI_STATUS i) F.SDI_STATUS_STUCK = false →
      Completes (.sdiStuck i t) s fun u => ∀ k, on k → (u.fl k).stale = true) ∧
    (s.flag (Reg.SDI_STATUS i) F.SDI_STATUS_STUCK = true → bit s.adc.sdcGood (s.sdiPin i) = true →
      Completes (.sdiUnstuck i t) s fun u => ∀ k, on k → s.laneThrottled k = false →
        (u.fl k).stale = false ∧ (u.fl k).line = [] ∧ (u.fl k).j = 0 ∧ (u.fl k).waiting = none)

/-- Filter lanes: CIC, outputs, configuration, coefficients, banks (R257, R261, R262, R263, R265, R268, R269, R271, R274,
09_filter_chain.md, Table 9-4). -/
def Obligations.FilterLanes : Prop :=
  ∀ (s : State) (k : Fin 40) (b : Fin 2) (bits : List Bool) (v : BitVec 32) (t : Instant),
    let n := s.advance t
    let x := s.fl k
    let m := s.laneCfg k F.LANE_CFG_DECIM
    let a := s.reg Reg.COEF_ADDR
    let cl := s.reg Reg.COEF_LANE
    let cb := s.reg Reg.COEF_BANK
    let h := s.staging.take (s.reg Reg.COEF_TAPS)
    let words := (List.range 32).flatMap fun i => [s.reg (Reg.COEF_BLOCK i) % 65536, s.reg (Reg.COEF_BLOCK i) / 65536]
    (s.laneRuns k = true → s.laneIsAin k = true → m ≤ x.ins.length → x.waiting = none → Completes (.cicOutput k bits t) s fun u =>
      (u.fl k).j = x.j + 1 ∧ (u.fl k).ins = x.ins.drop m ∧ (u.fl k).busy.isSome = true ∧ PartsKept [.filt] s u) ∧
    (s.laneRuns k = true → s.laneIsAin k = true → m ≤ x.ins.length → x.waiting ≠ none → Completes (.cicOutput k bits t) s fun u =>
      (u.fl k).waiting = none ∧ (u.fl k).line = [] ∧ (u.fl k).j = 0) ∧
    (s.laneRuns k = true → s.laneIsAin k = false → s.sdiActive (s.laneSrc k) = true → s.laneThrottled k = false → bits.length = m →
      (x.stale = false → x.waiting = none → Completes (.cicOutput k bits t) s fun u =>
        (u.fl k).j = x.j + 1 ∧ (u.fl k).busy.isSome = true ∧ PartsKept [.now, .filt] s u) ∧
      (x.stale = false → x.waiting ≠ none → Completes (.cicOutput k bits t) s fun u =>
        (u.fl k).waiting = none ∧ (u.fl k).line = [] ∧ (u.fl k).j = 0) ∧
      (x.stale = true → Completes (.cicOutput k bits t) s fun u => (u.fl k).stale = false ∧ (u.fl k).j = 1)) ∧
    (s.laneRuns k = false → Completes (.cicOutput k bits t) s (· = s)) ∧
    (x.busy = none → Completes (.laneOutput k t) s (· = s)) ∧
    (∀ j, x.busy = some j → let own := j.from_.elim 0 (fun f => f + ns (5 * j.ticks));
      j.at_ + ns (s.tLat k j.ticks) ≤ t + ns 10 → own ≤ t → t ≤ max (j.at_ + ns (s.tLat k j.ticks)) own → Completes (.laneOutput k t) s fun u =>
        u.reg (Reg.OUTPUT k) % 65536 = sput 16 (outScale j.acc (sget 5 (s.laneCfg k F.LANE_CFG_OUT_SHIFT))).1 ∧
        u.reg (Reg.OUT_TIME k) = n.time64 ∧ (x.stopping = false → u.reg (Reg.DELAY k) = j.delay) ∧ u.word (0x100 + k) = u.reg (Reg.OUTPUT k)) ∧
    (s.lawFl k = true ∨ valueOk (Reg.LANE_CFG k) v.toNat = false ∨ s.laneCfgOk k v.toNat = false → Completes (.laneCfgWrite k v) s (· = s)) ∧
    (s.lawFl k = false → s.laneCfgOk k v.toNat = true → Completes (.laneCfgWrite k v) s fun u => u.reg (Reg.LANE_CFG k) = v.toNat) ∧
    (a % 64 = 0 → a ≤ 448 → Completes .coefWrite s fun u => u.staging = s.staging.take a ++ words ++ s.staging.drop (a + 64) ∧ PartsKept [.filt] s u) ∧
    (a % 64 ≠ 0 ∨ 448 < a → Completes .coefWrite s fun u => u.reg Reg.COEF_STATUS = 4 ∧ RegsKept [Reg.COEF_STATUS] s u ∧ PartsKept [.regs] s u) ∧
    (s.lawFl cl = false → s.bankInUse cl cb = true → Completes .coefCommit s fun u => u.reg Reg.COEF_STATUS = 5 ∧ PartsKept [.regs] s u) ∧
    (s.lawFl cl = false → s.bankInUse cl cb = false → crc32 (h.flatMap (toBytes 2)) ≠ s.reg Reg.COEF_CRC → Completes .coefCommit s fun u =>
      u.reg Reg.COEF_STATUS = 3 ∧ PartsKept [.regs] s u) ∧
    (s.lawFl cl = false → s.bankInUse cl cb = false → crc32 (h.flatMap (toBytes 2)) = s.reg Reg.COEF_CRC → cl < 40 → cb < 2 →
      s.firFits (s.reg (Reg.LANE_CFG cl)) (s.reg Reg.COEF_TAPS) (if s.bankValid cl (1 - cb) then s.taps cl (1 - cb) else 0) = true →
      Completes .coefCommit s fun u => u.reg Reg.COEF_STATUS = 2 ∧ u.coefs cl cb = h ∧ PartsKept [.regs, .filt] s u) ∧
    (s.lawFl cl = true → Completes .coefCommit s (· = s)) ∧
    (s.lawFl cl = false → s.bankInUse cl cb = false → crc32 (h.flatMap (toBytes 2)) = s.reg Reg.COEF_CRC →
      s.firFits (s.reg (Reg.LANE_CFG cl)) (s.reg Reg.COEF_TAPS) (if s.bankValid cl (1 - cb) then s.taps cl (1 - cb) else 0) = false →
      Completes .coefCommit s (· = s)) ∧
    (s.lawFl k = true ∨ s.bankValid k b = false ∨ s.laneRuns k = false ∨ s.banksFit k = false → Completes (.bankSel k b) s fun u =>
      u.reg (Reg.BANK_SEL k) = 3 ∧ RegsKept [Reg.BANK_SEL k] s u ∧ PartsKept [.regs] s u) ∧
    (s.lawFl k = false → s.bankValid k b = true → s.laneRuns k = true → s.banksFit k = true →
      (x.fade = none → x.bank ≠ b → Completes (.bankSel k b) s fun u => u.reg (Reg.BANK_SEL k) = 1 ∧ u.fl k = { x with fade := some (0, s.reg (Reg.FADE_LEN k)) }) ∧
      (x.fade = none → x.bank = b → Completes (.bankSel k b) s fun u => u.reg (Reg.BANK_SEL k) = 2 ∧ u.filt = s.filt) ∧
      (x.fade ≠ none → Completes (.bankSel k b) s fun u => u.reg (Reg.BANK_SEL k) = 1 ∧ u.fl k = { x with queued := some b.val })) ∧
    Completes .filtClear s (fun u => (∀ j, j < 40 → u.reg (Reg.SAT_COUNT j) = 0 ∧ u.reg (Reg.LANE_OVR_COUNT j) = 0 ∧ u.reg (Reg.RESTART_COUNT j) = 0) ∧
      PartsKept [.regs] s u)

/-- The recorder: samples, software triggers, slots, enable and disable, index and data reads (R276, R281, R282, R285, R286, R289,
R290, R296, R297, R298). -/
def Obligations.RecorderSlots : Prop :=
  ∀ (s : State) (n : Fin 4) (mask : BitVec 16) (t : Instant),
    let m := s.advance t
    let tick := s.tickCeil s.now
    let on := fset F.RC_CFG_EN (s.reg (Reg.RC_CFG n)) 1
    let off := fset F.RC_CFG_EN (s.reg (Reg.RC_CFG n)) 0
    ((s.rc n).on = true → s.now ≤ t → s.ptpAt t % (s.reg (Reg.SPER n) * 2 ^ 32) = 0 → (∀ x, (s.rc n).lastAt = some x → x < t) →
      let y := m.setRc n { m.rc n with trgIn := m.reg (Reg.TRG_IN n), trgOut := m.reg (Reg.TRG_OUT n) }
      Completes (.recorderSample n t) s fun u => (u.rc n).lastAt = some t ∧
        (u.rc n).prev = (rcReadAll n (heldExpire y)).1 ∧
        ((∀ a, s.eccAt a = 0) → s.memo.held = [] →
          (u.rc n).prev = ((List.range (m.nch n)).map fun c => m.rcValue (m.reg (Reg.CH_SRC n c)))) ∧
        PartsKept [.now, .free, .regs, .mem, .memo, .recs, .tb, .outs] s u) ∧
    ((s.rc n).on = false ∨ t < s.now → Completes (.recorderSample n t) s (· = s)) ∧
    (s.rcState n = 1 → Completes (.rcSwtrig n) s (· = driveTrig n tick (rcTrigger n 2 (s.ptpAt tick) tick s).2)) ∧
    (s.rcState n = 2 → Completes (.rcSwtrig n) s (· = ownTrigger n 2 (s.ptpAt tick) tick s)) ∧
    (s.rcState n = 0 ∨ 3 < s.rcState n → Completes (.rcSwtrig n) s (· = s)) ∧
    (∀ b a q, s.rcState n = 1 → let v := (rcTrigger n b a q s).2
      v.rcState n = 2 ∧ v.slotState n (s.reg (Reg.CUR_SLOT n)) = 2 ∧ v.reg (Reg.LAST_SRC n) = 2 ^ b ∧
        (v.rc n).trig.map (fun x => (x.src, x.at_)) = some (2 ^ b, a)) ∧
    (s.rcState n = 3 → Completes (.rcSwtrig n) s fun u => u.flag (Reg.RC_STATUS n) F.RC_STATUS_IGNORED = true ∧
      RegsKept [Reg.TRIG_IGNORED n, Reg.RC_STATUS n] s u ∧ PartsKept [.free, .regs] s u) ∧
    ((∃ i, i < 16 ∧ mask.getLsbD i = true ∧ (s.slotState n i = 1 ∨ s.slotState n i = 2)) → Completes (.rcRelease n mask) s (· = s)) ∧
    ((∀ i, i < 16 → mask.getLsbD i = true → s.slotState n i ≠ 1 ∧ s.slotState n i ≠ 2) →
      (s.rcState n ≠ 3 ∨ s.rcCfg n F.RC_CFG_AUTO_REARM = 0 → Completes (.rcRelease n mask) s fun u =>
        (∀ i, i < 16 → u.slotState n i = if mask.getLsbD i && s.slotState n i == 3 then 0 else s.slotState n i) ∧
          PartsKept [.free, .regs, .mem, .memo, .recs] s u) ∧
      (∀ i, i < 16 → i < s.rcSlots n → mask.getLsbD i = true → s.slotState n i = 3 → s.rcState n = 3 → s.rcCfg n F.RC_CFG_AUTO_REARM = 1 →
        Completes (.rcRelease n mask) s fun u => u.rcState n = 1 ∧ u.slotState n (u.reg (Reg.CUR_SLOT n)) = 1 ∧
          PartsKept [.free, .regs, .mem, .memo, .recs] s u)) ∧
    ((∀ i, i < 16 → mask.getLsbD i = true → s.slotState n i ≠ 1 ∧ s.slotState n i ≠ 2 ∧ s.slotState n i ≠ 3) →
      Completes (.rcRelease n mask) s (· = s)) ∧
    (s.rcState n ≠ 3 → Completes (.rcArm n) s (· = s)) ∧
    (∀ i, s.rcState n = 3 → i < s.rcSlots n → s.slotState n i = 0 → Completes (.rcArm n) s fun u => u.rcState n = 1 ∧
      u.slotState n (u.reg (Reg.CUR_SLOT n)) = 1 ∧ s.slotState n (u.reg (Reg.CUR_SLOT n)) = 0 ∧ PartsKept [.regs, .recs] s u) ∧
    (s.rcState n = 3 → (∀ i, i < s.rcSlots n → s.slotState n i ≠ 0) → s.rcCfg n F.RC_CFG_OVERWRITE = 0 → Completes (.rcArm n) s fun u =>
      u.rcState n = 3 ∧ u.reg (Reg.CUR_SLOT n) = 0xFF ∧ u.recs = s.recs) ∧
    (∀ i, s.rcState n = 3 → (∀ j, j < s.rcSlots n → s.slotState n j ≠ 0) → s.rcCfg n F.RC_CFG_OVERWRITE = 1 →
      (s.rc n).closed.find? (fun j => !s.regBit (Reg.PROTECT n) j) = some i → Completes (.rcArm n) s fun u =>
        u.rcState n = 1 ∧ u.slotState n i = 1 ∧ u.reg (Reg.CUR_SLOT n) = i ∧ PartsKept [.regs, .recs] s u) ∧
    (valueOk (Reg.RC_CFG n) on = false → Completes (.rcEnable n) s (· = s)) ∧
    (valueOk (Reg.RC_CFG n) off = false → Completes (.rcDisable n) s (· = s)) ∧
    (valueOk (Reg.RC_CFG n) on = true → s.rcCfg n F.RC_CFG_EN = 1 → Completes (.rcEnable n) s fun u => u.reg (Reg.RC_CFG n) = on ∧ u.recs = s.recs) ∧
    (valueOk (Reg.RC_CFG n) off = true → s.rcCfg n F.RC_CFG_EN = 0 → Completes (.rcDisable n) s fun u => u.reg (Reg.RC_CFG n) = off ∧ u.recs = s.recs) ∧
    ((s.rc n).stopping = true →
      (valueOk (Reg.RC_CFG n) on = true → s.rcCfg n F.RC_CFG_EN = 0 → (s.setReg (Reg.RC_CFG n) on).rcAllowed n = true → Completes (.rcEnable n) s
        fun u => u.flag (Reg.RC_STATUS n) F.RC_STATUS_PENDING_ENABLE = true ∧ u.recs = s.recs) ∧
      (valueOk (Reg.RC_CFG n) on = true → s.rcCfg n F.RC_CFG_EN = 1 → Completes (.rcEnable n) s
        fun u => u.flag (Reg.RC_STATUS n) F.RC_STATUS_PENDING_ENABLE = true ∧ u.recs = s.recs) ∧
      (valueOk (Reg.RC_CFG n) off = true → s.rcCfg n F.RC_CFG_EN = 1 → Completes (.rcDisable n) s
        fun u => u.flag (Reg.RC_STATUS n) F.RC_STATUS_PENDING_ENABLE = false ∧ u.recs = s.recs)) ∧
    (valueOk (Reg.RC_CFG n) on = true → s.rcCfg n F.RC_CFG_EN = 0 → (s.setReg (Reg.RC_CFG n) on).rcAllowed n = false →
      Completes (.rcEnable n) s (· = s)) ∧
    (valueOk (Reg.RC_CFG n) on = true → s.rcCfg n F.RC_CFG_EN = 0 → (s.setReg (Reg.RC_CFG n) on).rcAllowed n = true → (s.rc n).on = false →
      (s.rc n).stopping = false → (s.rcPower = false → Completes (.rcEnable n) s fun u => u.reg (Reg.RC_CFG n) = on ∧ u.recs = s.recs) ∧
      (s.rcPower = true → Completes (.rcEnable n) s fun u =>
        u.reg (Reg.RC_CFG n) = on ∧ (u.rc n).on = true ∧ (u.rc n).armNext = true ∧ u.rcState n = 0 ∧ u.reg (Reg.CUR_SLOT n) = 0xFF ∧
          (s.rcCfg n F.RC_CFG_KEEP = 0 → u.reg (Reg.SLOT_STATE n) = 0) ∧
          (s.rcCfg n F.RC_CFG_KEEP = 1 → ∀ i, i < 16 → u.slotState n i =
            if (slotsKept n (s.setReg (Reg.RC_CFG n) on)).1.contains i then 3 else 0) ∧
          (s.rcCfg n F.RC_CFG_KEEP = 1 → (∀ a, s.eccAt a = 0) → ∀ i, i < 16 → u.slotState n i =
            if decide (i < s.rcSlots n) && s.slotKept n i then 3 else 0))) ∧
    (valueOk (Reg.RC_CFG n) off = true → s.rcCfg n F.RC_CFG_EN = 1 → (s.rc n).on = true → (s.rc n).stopping = false →
      Completes (.rcDisable n) s fun u => u.reg (Reg.RC_CFG n) = off ∧ (u.rc n).on = false ∧ (u.rc n).stopping = true ∧ u.rcState n = 4 ∧
        (s.rcState n ≠ 2 ∨ (s.setReg (Reg.RC_CFG n) off).rcCanClose n = true → u.reg (Reg.CUR_SLOT n) = 0xFF) ∧ (s.rcState n = 1 → u.slotState n (s.reg (Reg.CUR_SLOT n)) = 0)) ∧
    (let a := s.ixAddr (s.reg Reg.IX_INST) (s.reg Reg.IX_SLOT);
      (s.dmaOk false a (a + 128) = true → s.dramReady (a + 127) = true → Completes .ixRead s fun u => PartsKept [.free, .regs] s u ∧
        ∀ i, i < 32 → u.reg (Reg.IX_DATA i) = ofBytes (slice (((s.eccCheck 128 a).2.physRead 128 a).1) (4 * i) 4)) ∧
      (s.dmaOk false a (a + 128) = true → s.dramReady (a + 127) = false → Completes .ixRead s fun u =>
        u.memo.waits = s.memo.waits ++ [.index a] ∧ PartsKept [.memo] s u) ∧
      (s.dmaOk false a (a + 128) = false → Completes .ixRead s (· = s))) ∧
    (let r := s.reg Reg.RD_REGION
      let ofs := s.reg Reg.RD_OFS
      let k := s.reg Reg.RD_INST
      let i := s.reg Reg.RD_SLOT
      let row := s.rcRow k r
      let pos := s.load 4 (s.ixAddr k i + 32 + 8 * r)
      let valid := s.load 4 (s.ixAddr k i + 36 + 8 * r) * row
      let ready : Prop := s.dramReady (s.regionEnd k i r) = true
      (s.slotState k i ≠ 3 ∨ ready ∧ (∀ a, s.eccAt a = 0) ∧ (ofs % 8 ≠ 0 ∨ valid ≤ ofs) → Completes .rdRead s (· = s.setReg Reg.RD_STATUS 3)) ∧
      (s.slotState k i = 3 → ¬ready → Completes .rdRead s fun u => u.reg Reg.RD_STATUS = 1 ∧
        u.memo.waits = s.memo.waits ++ [.region k i r ofs] ∧ RegsKept [Reg.RD_STATUS] s u ∧ PartsKept [.regs, .memo] s u) ∧
      (s.slotState k i = 3 → ready → s.memCode (s.ixAddr k i + 32 + 8 * r) = some 2 → 2 ≤ s.eccAt (s.ixAddr k i + 32 + 8 * r) → Completes .rdRead s fun u =>
        u.reg Reg.RD_STATUS = 4 ∧ u.reg Reg.RD_LEN = 0 ∧ PartsKept [.free, .regs] s u) ∧
      (s.slotState k i = 3 → ready → ofs % 8 = 0 → ofs < valid → (∀ a, s.eccAt a ≤ 1) → Completes .rdRead s fun u =>
        u.reg Reg.RD_STATUS = 2 ∧ u.reg Reg.RD_LEN = min 256 (valid - ofs) ∧ PartsKept [.free, .regs] s u ∧
          ∀ j, j < 64 → u.reg (Reg.RD_DATA j) = ofBytes (slice (s.regionBytes (s.regionBase k i r) (s.rcRows k r * row) pos row ofs
            (min 256 (valid - ofs))) (4 * j) 4)))

/-- The trigger bus: pulses, stuck lines, calibration, the 25 MHz clock (R292, R293, R294, R295, 10_disturbance_recorder.md, Table
10-13). -/
def Obligations.TriggerBus : Prop :=
  ∀ (s : State) (l : Fin 4) (cap width : Nat) (mask : BitVec 4) (t : Instant),
    let at_ := cap * sixteenth
    let n := s.advance (at_ + width + ns 10)
    let m := s.advance t
    let ready : Prop := s.flag Reg.TB_CFG F.TB_CFG_EN = true ∧ s.fld Reg.TB_STATUS ⟨8 + l, 1⟩ = 0 ∧ s.ownPulse l at_ = false ∧
      s.now ≤ at_ + width + ns 10
    (ready → ns 80 ≤ width → width ≤ ns 200 → s.tbMeasured l = false →
      Completes (.trgPulseReceived l cap width) s fun u =>
        (s.reg (Reg.TRG_EVENTS l) + 1 < 2 ^ 32 → u.reg (Reg.TRG_EVENTS l) = s.reg (Reg.TRG_EVENTS l) + 1) ∧
        (∀ k, k ∈ s.rcOnLine l → s.rcState k = 1 → u.rcState k = 2 ∧ u.reg (Reg.LAST_SRC k) = 2 ^ (3 + l.val)) ∧
        PartsKept [.now, .free, .regs, .recs] s u) ∧
    (ready → ns 80 ≤ width → width ≤ ns 200 → s.tbMeasured l = true → Completes (.trgPulseReceived l cap width) s (· = n)) ∧
    (ready → ns 20 ≤ width → width ≤ ns 60 → Completes (.trgPulseReceived l cap width) s
      (· = if s.flag Reg.TB_CFG F.TB_CFG_REF then drivePulse l (at_ + ns 400) (ns 40) n else n)) ∧
    (ready → width < ns 20 ∨ ns 60 < width ∧ width < ns 80 ∨ ns 200 < width → Completes (.trgPulseReceived l cap width) s (· = n.bump Reg.TRG_DISCARD)) ∧
    (s.flag Reg.TB_CFG F.TB_CFG_EN = false ∨ s.fld Reg.TB_STATUS ⟨8 + l, 1⟩ = 1 ∨ s.ownPulse l at_ = true →
      Completes (.trgPulseReceived l cap width) s (· = s)) ∧
    (s.flag Reg.TB_CFG F.TB_CFG_EN = true → Completes (.trgLineStuck l t) s fun u => u.fld Reg.TB_STATUS ⟨8 + l, 1⟩ = 1 ∧
      (∀ j : Fin 4, j ≠ l → u.fld Reg.TB_STATUS ⟨8 + j, 1⟩ = s.fld Reg.TB_STATUS ⟨8 + j, 1⟩) ∧ RegsKept [Reg.TB_STATUS] s u ∧ PartsKept [.now, .regs] s u) ∧
    (s.flag Reg.TB_CFG F.TB_CFG_EN = false → Completes (.trgLineStuck l t) s (· = s)) ∧
    Completes (.trgLineUnstuck l t) s (fun u => u.fld Reg.TB_STATUS ⟨8 + l, 1⟩ = 0 ∧ RegsKept [Reg.TB_STATUS] s u ∧ PartsKept [.now, .regs] s u) ∧
    (s.tb.cal.isSome = true → Completes (.tbCal mask) s (· = s)) ∧
    (s.tb.cal = none → s.flag Reg.TB_CFG F.TB_CFG_REF = true → Completes (.tbCal mask) s fun u => u.reg Reg.TB_CAL = 3 ∧
      RegsKept [Reg.TB_CAL] s u ∧ PartsKept [.regs] s u) ∧
    (s.tb.cal = none → s.flag Reg.TB_CFG F.TB_CFG_REF = false → mask ≠ 0 → Completes (.tbCal mask) s fun u => u.reg Reg.TB_CAL = 1 ∧
      u.flag Reg.TB_STATUS F.TB_STATUS_CAL_BUSY = true ∧ u.tb.cal.map (fun c => (c.lines, c.good, c.fails)) = some (bitsOf 4 mask.toNat, 0, 0) ∧
      RegsKept [Reg.TB_CAL, Reg.TB_STATUS] s u ∧ PartsKept [.regs, .tb, .outs] s u) ∧
    (s.tb.cal = none → s.flag Reg.TB_CFG F.TB_CFG_REF = false → mask = 0 → Completes (.tbCal mask) s fun u => u.reg Reg.TB_CAL = 2 ∧
      u.flag Reg.TB_STATUS F.TB_STATUS_CAL_BUSY = false ∧ u.tb.cal = none) ∧
    (∀ c, s.tb.cal = some c → c.lines ≠ [] → s.now ≤ at_ → c.t0 ≤ at_ → at_ ≤ c.t0 + us 2 → c.fails < 4 → c.good + c.fails < 15 →
      Completes (.tbCalEcho cap) s fun u => u.tb.cal.map (fun x => (x.lines, x.good, x.fails, x.sum)) =
        some (c.lines, c.good + 1, c.fails, c.sum + (((at_ - c.t0) / sixteenth : Nat) : Int) - 10240) ∧ PartsKept [.now, .tb, .outs] s u) ∧
    (∀ c, s.tb.cal = some c → c.lines ≠ [] → c.t0 + us 2 < t → c.fails < 3 → c.good + c.fails < 15 → Completes (.tbCalRoundTimeout t) s fun u =>
      u.tb.cal.map (fun x => (x.lines, x.good, x.fails, x.sum)) = some (c.lines, c.good, c.fails + 1, c.sum) ∧ PartsKept [.now, .tb, .outs] s u) ∧
    (∀ c k, s.tb.cal = some c → c.lines = [k] → c.t0 + us 2 < t → c.fails = 3 → Completes (.tbCalRoundTimeout t) s fun u =>
      u.tb.cal = none ∧ u.reg Reg.TB_CAL = 3 ∧ u.flag Reg.TB_STATUS F.TB_STATUS_CAL_BUSY = false ∧ PartsKept [.now, .regs, .tb] s u) ∧
    (∀ c, s.tb.cal = some c →
      (c.t0 ≤ at_ → at_ ≤ c.t0 + us 2 → s.now ≤ at_ → Completes (.tbCalEcho cap) s (· = calRound { c with
        good := c.good + 1, sum := c.sum + (((at_ - c.t0) / sixteenth : Nat) : Int) - 10240 } (s.advance at_))) ∧
      (c.t0 + us 2 < t → Completes (.tbCalRoundTimeout t) s (· = calRound { c with fails := c.fails + 1 } m)) ∧
      (at_ < c.t0 ∨ c.t0 + us 2 < at_ ∨ at_ < s.now → Completes (.tbCalEcho cap) s (· = s)) ∧
      (t ≤ c.t0 + us 2 → Completes (.tbCalRoundTimeout t) s (· = s))) ∧
    (s.tb.cal = none → Completes (.tbCalEcho cap) s (· = s) ∧ Completes (.tbCalRoundTimeout t) s (· = s)) ∧
    (s.flag Reg.TB_CFG F.TB_CFG_EN = true → s.flag Reg.TB_CFG F.TB_CFG_REF = false → s.now ≤ t → s.tb.clkAt = none →
      Completes (.trgclkRisingEdge t) s fun u => u.flag Reg.TB_STATUS F.TB_STATUS_CLK_OK = false ∧ u.tb.clkAt = some t ∧ u.tb.clkN = 0 ∧
        u.reg Reg.TB_OFFSET = 0 ∧ RegsKept [Reg.TB_STATUS, Reg.TB_OFFSET] s u) ∧
    (∀ p, s.flag Reg.TB_CFG F.TB_CFG_EN = true → s.flag Reg.TB_CFG F.TB_CFG_REF = false → s.now ≤ t → s.tb.clkAt = some p →
      (us 4 ≤ (t - p) * 101 → (t - p) * 99 ≤ us 4 → 1024 ≤ s.tb.clkN + 1 → Completes (.trgclkRisingEdge t) s fun u =>
        u.flag Reg.TB_STATUS F.TB_STATUS_CLK_OK = true ∧ u.tb.clkAt = some t ∧ u.tb.clkN = 0 ∧ u.tb.clkSum = 0 ∧
        (∃ d : Int, (d = 0 ∨ d = 1) ∧ u.reg Reg.TB_OFFSET = sput 32 ((s.tb.clkSum +
          sget 10 (sput 10 (((m.ptpAt t / sixteenth : Nat) : Int) - s.reg (Reg.TRG_DELAY 0)))) / 1024 + d)) ∧
        RegsKept [Reg.TB_STATUS, Reg.TB_OFFSET] s u) ∧
      (us 4 ≤ (t - p) * 101 → (t - p) * 99 ≤ us 4 → s.tb.clkN + 1 < 1024 → Completes (.trgclkRisingEdge t) s fun u =>
        u.flag Reg.TB_STATUS F.TB_STATUS_CLK_OK = true ∧ u.tb.clkAt = some t ∧ u.tb.clkN = s.tb.clkN + 1 ∧ RegsKept [Reg.TB_STATUS] s u) ∧
      ((t - p) * 101 < us 4 ∨ us 4 < (t - p) * 99 → Completes (.trgclkRisingEdge t) s fun u => u.flag Reg.TB_STATUS F.TB_STATUS_CLK_OK = false ∧
        u.tb.clkN = 0 ∧ u.reg Reg.TB_OFFSET = 0 ∧ RegsKept [Reg.TB_STATUS, Reg.TB_OFFSET] s u)) ∧
    (s.flag Reg.TB_CFG F.TB_CFG_EN = false ∨ s.flag Reg.TB_CFG F.TB_CFG_REF = true ∨ t < s.now → Completes (.trgclkRisingEdge t) s (· = s))

/-- Local drivers: start sequence, mode, follow, refresh, bootstrap undervoltage, retry (R218, R219, R220, R221, R222, R30, R32,
07_gate_links_and_drivers.md, Table 7-21). -/
def Obligations.LocalDrivers : Prop :=
  ∀ (s : State) (n : Fin 8) (vbst : BitVec 16) (md : BitVec 2) (t : Instant),
    let m := s.advance t
    let st (f : Fld) : Bool := s.flag (Reg.LD_STATUS n) f
    let dt := s.ldDt n
    let ref := ns (s.reg (Reg.TREF n))
    let v := vbst.toNat
    ((s.ld n).run = false → (s.ld n).stopping = false → s.ldAllowed n = true → st F.LD_STATUS_LATCHED = false → Completes (.ldEnable n t) s fun u =>
      u.flag (Reg.LD_CFG n) F.LD_CFG_EN = true ∧ (u.ld n).run = true ∧ (u.ld n).waitAt = m.now ∧
        u.flag (Reg.LD_STATUS n) F.LD_STATUS_BST_WAIT = (s.fld (Reg.LD_CFG n) F.LD_CFG_MODE != 2 && !st F.LD_STATUS_VDRV_UV) ∧
        PartsKept [.now, .regs, .lds, .mram] s u) ∧
    ((s.ld n).run = true → (s.ld n).stopping = false → Completes (.ldEnable n t) s fun u =>
      u.flag (Reg.LD_CFG n) F.LD_CFG_EN = true ∧ u.ld n = { s.ld n with pendDisable := false }) ∧
    ((s.ld n).run = false → (s.ld n).stopping = false → s.ldAllowed n = false ∨ st F.LD_STATUS_LATCHED = true → Completes (.ldEnable n t) s fun u =>
      u.flag (Reg.LD_CFG n) F.LD_CFG_EN = true ∧ u.lds = s.lds) ∧
    ((s.ld n).stopping = true → Completes (.ldEnable n t) s fun u => u.flag (Reg.LD_STATUS n) F.LD_STATUS_PENDING_ENABLE = true ∧ u.lds = s.lds) ∧
    (st F.LD_STATUS_BST_WAIT = true → s.ldRefresh n ≤ v → (s.ld n).pendDisable = false → Completes (.ldBootstrapReady n vbst t) s fun u =>
      u.reg (Reg.VBST n) = v ∧ u.flag (Reg.LD_STATUS n) F.LD_STATUS_BST_WAIT = false ∧ u.flag (Reg.LD_STATUS n) F.LD_STATUS_REFRESH_LOW = false ∧
        u.flag (Reg.LD_STATUS n) F.LD_STATUS_BSTUV = false ∧ RegsKept [Reg.VBST n, Reg.LD_STATUS n] s u ∧ PartsKept [.now, .regs, .lds] s u) ∧
    (st F.LD_STATUS_BST_WAIT = true → s.ldRefresh n ≤ v → (s.ld n).pendDisable = true → (s.ld n).run = true →
      Completes (.ldBootstrapReady n vbst t) s fun u => u.reg (Reg.VBST n) = v ∧ u.flag (Reg.LD_STATUS n) F.LD_STATUS_BST_WAIT = false ∧
        (u.ld n).run = false ∧ (u.ld n).stopping = true ∧ (u.ld n).high.on = false ∧ (u.ld n).low.on = false) ∧
    (st F.LD_STATUS_BST_WAIT = false ∨ v < s.ldRefresh n → Completes (.ldBootstrapReady n vbst t) s (· = s)) ∧
    (st F.LD_STATUS_BST_WAIT = true → (s.ld n).waitAt + Sys2Proof.ms 1 ≤ t → Completes (.ldBootstrapTimeout n t) s fun u =>
      u.flag (Reg.LD_STATUS n) F.LD_STATUS_BSTUV = true ∧ u.flag (Reg.LD_STATUS n) F.LD_STATUS_BST_WAIT = false ∧ (u.ld n).high.on = false ∧
        (u.ld n).retry.decision = m.now ∧ ((s.ld n).pendDisable = true → (s.ld n).run = true → (u.ld n).run = false ∧ (u.ld n).stopping = true) ∧
        PartsKept [.now, .regs, .lds] s u) ∧
    (st F.LD_STATUS_BST_WAIT = false ∨ t < (s.ld n).waitAt + Sys2Proof.ms 1 → Completes (.ldBootstrapTimeout n t) s (· = s)) ∧
    (md ≠ 3 → Completes (.ldModeWrite n md t) s fun u => u.fld (Reg.LD_CFG n) F.LD_CFG_MODE = md.toNat ∧ (md = 2 → (u.ld n).high.on = false) ∧
      PartsKept [.now, .regs, .lds, .mram] s u) ∧
    (md = 3 → Completes (.ldModeWrite n md t) s (· = m)) ∧
    ((s.ld n).edges = [] → Completes (.ldFollowEdge n) s (· = s)) ∧
    (∀ e rest, (s.ld n).edges = e :: rest → Completes (.ldFollowEdge n) s fun u => (u.ld n).edges = rest ∧ (u.ld n).level = e.on ∧
      u.now = max s.now ((e.tag : Int) + s.edgeOfs).toNat ∧ RegsKept [Reg.LD_STATUS n] s u ∧ PartsKept [.now, .regs, .lds] s u) ∧
    (v < s.ldRefresh n → s.flag (Reg.LD_CFG n) F.LD_CFG_REFRESH_EN = true → (s.ld n).high.on = true → (s.ld n).high.at_ ≤ t → s.ldBoundary n t = true →
      Completes (.ldRefresh n vbst t) s fun u => (u.ld n).refreshAt = some t ∧ (u.ld n).low = { on := false, at_ := t + dt + ref } ∧
        (u.ld n).high = { on := true, at_ := t + dt + ref + dt } ∧ u.flag (Reg.LD_STATUS n) F.LD_STATUS_REFRESH_LOW = true ∧
        PartsKept [.now, .free, .regs, .lds] s u) ∧
    (s.ldRefresh n ≤ v ∨ s.flag (Reg.LD_CFG n) F.LD_CFG_REFRESH_EN = false ∨ (s.ld n).high.on = false ∨ t < (s.ld n).high.at_ ∨
        s.ldBoundary n t = false → Completes (.ldRefresh n vbst t) s fun u =>
      u.reg (Reg.VBST n) = v ∧ u.flag (Reg.LD_STATUS n) F.LD_STATUS_REFRESH_LOW = decide (v < s.ldRefresh n) ∧
      RegsKept [Reg.VBST n, Reg.LD_STATUS n] s u ∧ PartsKept [.regs] s u) ∧
    ((s.ld n).high.on = true → (s.ld n).high.at_ ≤ t → v < 6500 ∨ s.flag (Reg.LD_CFG n) F.LD_CFG_REFRESH_EN = false ∧ v < s.ldRefresh n →
      Completes (.ldBstuv n vbst t) s fun u => u.flag (Reg.LD_STATUS n) F.LD_STATUS_BSTUV = true ∧
      u.reg (Reg.VBST n) = v ∧ (u.ld n).high.on = false ∧ (u.ld n).retry.decision = m.now ∧ PartsKept [.now, .regs, .lds] s u) ∧
    ((s.ld n).high.on = false ∨ t < (s.ld n).high.at_ ∨ 6500 ≤ v ∧ (s.flag (Reg.LD_CFG n) F.LD_CFG_REFRESH_EN = true ∨ s.ldRefresh n ≤ v) →
      Completes (.ldBstuv n vbst t) s (· = s)) ∧
    (st F.LD_STATUS_BSTUV = true → st F.LD_STATUS_LATCHED = false → st F.LD_STATUS_BST_WAIT = false → st F.LD_STATUS_VDRV_UV = false →
      (s.ld n).run = true → (s.ld n).retry.decision + Sys2Proof.ms (s.reg Reg.TRETRY) ≤ t → Completes (.ldFaultRetry n t) s fun u =>
        u.flag (Reg.LD_STATUS n) F.LD_STATUS_BST_WAIT = (s.fld (Reg.LD_CFG n) F.LD_CFG_MODE != 2) ∧
        u.flag (Reg.LD_STATUS n) F.LD_STATUS_BSTUV = (s.fld (Reg.LD_CFG n) F.LD_CFG_MODE != 2) ∧
        (u.ld n).waitAt = m.now ∧ (u.ld n).low.on = true ∧ (u.ld n).high.on = false ∧
        RegsKept [Reg.LD_STATUS n] s u ∧ PartsKept [.now, .regs, .lds] s u) ∧
    (st F.LD_STATUS_LATCHED = true ∨ st F.LD_STATUS_BSTUV = false ∨ st F.LD_STATUS_BST_WAIT = true ∨ st F.LD_STATUS_VDRV_UV = true ∨
      (s.ld n).run = false ∨ t < (s.ld n).retry.decision + Sys2Proof.ms (s.reg Reg.TRETRY) → Completes (.ldFaultRetry n t) s (· = s))

/-- Static switch drivers, DRV_CLEAR and the driver supply (R223, R224, R225, R30, 07_gate_links_and_drivers.md, Table 7-22). -/
def Obligations.SwitchDriversAndSupply : Prop :=
  ∀ (s : State) (n : Fin 4) (mask : BitVec 12) (mv : BitVec 16) (t : Instant),
    let m := s.advance t
    let st (f : Fld) : Bool := s.flag (Reg.SD_STATUS n) f
    let r : Retry := { (s.sd n).retry with decision := m.now }
    ((s.sd n).run = false → (s.sd n).stopping = false → s.sdAllowed n = true → st F.SD_STATUS_LATCHED = false → Completes (.sdEnable n t) s fun u =>
      u.flag (Reg.SD_CFG n) F.SD_CFG_EN = true ∧ (u.sd n).run = true ∧ (u.sd n).pump = !st F.SD_STATUS_VDRV_UV ∧
        PartsKept [.now, .regs, .sds, .mram] s u) ∧
    ((s.sd n).run = true → (s.sd n).stopping = false → Completes (.sdEnable n t) s fun u =>
      u.flag (Reg.SD_CFG n) F.SD_CFG_EN = true ∧ u.sd n = { s.sd n with pendDisable := false }) ∧
    ((s.sd n).run = false → (s.sd n).stopping = false → s.sdAllowed n = false ∨ st F.SD_STATUS_LATCHED = true → Completes (.sdEnable n t) s fun u =>
      u.flag (Reg.SD_CFG n) F.SD_CFG_EN = true ∧ u.sds = s.sds) ∧
    ((s.sd n).stopping = true → Completes (.sdEnable n t) s fun u =>
      u.flag (Reg.SD_STATUS n) F.SD_STATUS_PENDING_ENABLE = true ∧ u.sds = s.sds) ∧
    ((s.sd n).run = true → (s.sd n).pump = true → st F.SD_STATUS_CP_OK = false → (s.sd n).pendDisable = true → Completes (.sdCpReady n t) s fun u =>
      u.flag (Reg.SD_STATUS n) F.SD_STATUS_CP_OK = false ∧ u.flag (Reg.SD_STATUS n) F.SD_STATUS_OUT_ON = false ∧
        (u.sd n).run = false ∧ (u.sd n).stopping = true) ∧
    ((s.sd n).run = false ∨ (s.sd n).pump = false ∨ st F.SD_STATUS_CP_OK = true → Completes (.sdCpReady n t) s (· = s)) ∧
    (st F.SD_STATUS_CPUV = false ∨ st F.SD_STATUS_LATCHED = true ∨ (s.sd n).run = false ∨
      t < (s.sd n).retry.decision + Sys2Proof.ms (s.reg Reg.TRETRY) → Completes (.sdFaultRetry n t) s (· = s)) ∧
    ((s.sd n).run = true → (s.sd n).pump = true → st F.SD_STATUS_CP_OK = false → (s.sd n).pendDisable = false → Completes (.sdCpReady n t) s fun u =>
      u.flag (Reg.SD_STATUS n) F.SD_STATUS_CP_OK = true ∧ u.flag (Reg.SD_STATUS n) F.SD_STATUS_CPUV = false ∧
        u.flag (Reg.SD_STATUS n) F.SD_STATUS_OUT_ON =
          (s.flag (Reg.SD_CFG n) F.SD_CFG_ON && !st F.SD_STATUS_VDRV_UV && !st F.SD_STATUS_LATCHED) ∧
        RegsKept [Reg.SD_STATUS n] s u ∧ PartsKept [.now, .regs, .sds] s u) ∧
    (st F.SD_STATUS_CP_OK = true → Completes (.sdCpuv n t) s fun u => u.flag (Reg.SD_STATUS n) F.SD_STATUS_CP_OK = false ∧
      u.flag (Reg.SD_STATUS n) F.SD_STATUS_CPUV = true ∧ u.flag (Reg.SD_STATUS n) F.SD_STATUS_OUT_ON = false ∧ (u.sd n).pump = false ∧
        (u.sd n).retry = r ∧ (s.latches r m.now (s.flag (Reg.SD_CFG n) F.SD_CFG_NO_RETRY) = true →
          u.flag (Reg.SD_STATUS n) F.SD_STATUS_LATCHED = true ∧ u.regBit Reg.DRV_LATCHED (8 + n) = true) ∧
        RegsKept [Reg.SD_STATUS n, Reg.DRV_LATCHED] s u ∧ PartsKept [.now, .regs, .sds] s u) ∧
    (st F.SD_STATUS_CP_OK = false → Completes (.sdCpuv n t) s (· = s)) ∧
    (st F.SD_STATUS_CPUV = true → st F.SD_STATUS_LATCHED = false → (s.sd n).run = true →
      (s.sd n).retry.decision + Sys2Proof.ms (s.reg Reg.TRETRY) ≤ t → Completes (.sdFaultRetry n t) s fun u =>
        (u.sd n).run = true ∧ (u.sd n).pump = !st F.SD_STATUS_VDRV_UV ∧ RegsKept [Reg.SD_STATUS n] s u ∧ PartsKept [.now, .regs, .sds] s u) ∧
    Completes (.drvClear mask) s (fun u => u.reg Reg.DRV_CLEAR = 0 ∧ PartsKept [.regs, .lds, .sds] s u ∧
      (∀ k, k < 8 → u.flag (Reg.LD_STATUS k) F.LD_STATUS_LATCHED = (s.flag (Reg.LD_STATUS k) F.LD_STATUS_LATCHED && !mask.getLsbD k) ∧
        (mask.getLsbD k = true → (u.ld k).retry.clears = [])) ∧
      ∀ k, k < 4 → u.flag (Reg.SD_STATUS k) F.SD_STATUS_LATCHED = (s.flag (Reg.SD_STATUS k) F.SD_STATUS_LATCHED && !mask.getLsbD (8 + k)) ∧
        (mask.getLsbD (8 + k) = true → (u.sd k).retry.clears = [])) ∧
    (mv.toNat < 9000 → Completes (.vdrvUndervoltage mv t) s fun u => u.reg Reg.VDRV = mv.toNat ∧ PartsKept [.now, .regs, .lds, .sds] s u ∧
      (∀ k, k < 8 → u.flag (Reg.LD_STATUS k) F.LD_STATUS_VDRV_UV = true ∧ (u.ld k).high.on = false ∧ (u.ld k).low.on = false) ∧
      ∀ k, k < 4 → u.flag (Reg.SD_STATUS k) F.SD_STATUS_VDRV_UV = true ∧ u.flag (Reg.SD_STATUS k) F.SD_STATUS_OUT_ON = false) ∧
    (9000 ≤ mv.toNat → Completes (.vdrvUndervoltage mv t) s (· = s)) ∧
    (9500 < mv.toNat → s.flag (Reg.LD_STATUS 0) F.LD_STATUS_VDRV_UV = true → Completes (.vdrvRecover mv t) s fun u => u.reg Reg.VDRV = mv.toNat ∧
      PartsKept [.now, .regs, .lds, .sds] s u ∧ (∀ k, k < 8 → u.flag (Reg.LD_STATUS k) F.LD_STATUS_VDRV_UV = false) ∧
      ∀ k, k < 4 → u.flag (Reg.SD_STATUS k) F.SD_STATUS_VDRV_UV = false) ∧
    (9500 < mv.toNat → s.flag (Reg.LD_STATUS 0) F.LD_STATUS_VDRV_UV = false → Completes (.vdrvRecover mv t) s (· = m.setReg Reg.VDRV mv.toNat)) ∧
    (mv.toNat ≤ 9500 → Completes (.vdrvRecover mv t) s (· = s))

/-- Gate links: edge events, downlink and uplink frames, the uplink timeout, the edge trainer (R185, R189, R190, R196, R208, R209,
R210, R213, 07_gate_links_and_drivers.md, Table 7-3, 05_octyr_engines.md, Table 5-11). -/
def Obligations.GateFrames : Prop :=
  ∀ (s : State) (k : Fin 64) (bytes : List (BitVec 8)) (t : Instant),
    let m := s.advance t
    let b := bytes.map (·.toNat)
    let silent (u : State) : Prop := PartsKept [.now, .free, .regs, .lanes, .outs] s u
    (s.pwm.edges = [] → Completes .edgeEventEnqueue s (· = s)) ∧
    (∀ e rest, s.pwm.edges = e :: rest → Completes .edgeEventEnqueue s
      (· = enqueueEdge e (feedDrivers e { s with pwm := { s.pwm with
        edges := rest, sent := (s.pwm.sent.filter fun x => decide ((s.now : Int) < x.tag + s.edgeOfs)) ++ [e] } }))) ∧
    (∀ e : EdgeEv, s.holds = false ∨ s.laneState (e.ch / 4) ≠ laneLive → enqueueEdge e s = s) ∧
    (∀ e : EdgeEv, s.holds = true → s.laneState (e.ch / 4) = laneLive → (s.lane (e.ch / 4)).queue.length < 8 → s.driftEdge (e.ch / 4) (e.ch % 4) e.on = false →
      ((enqueueEdge e s).lane (e.ch / 4)).queue = insertEdge ⟨e.ch % 4, e.on, e.tag, s.code (e.ch / 4) (e.ch % 4) true, s.code (e.ch / 4) (e.ch % 4) false⟩
        (s.lane (e.ch / 4)).queue ∧ PartsKept [.lanes] s (enqueueEdge e s)) ∧
    (∀ c, c ≠ 0 → s.laneState k = laneLive → s.regBit Reg.LANE_FAULT k = false → (laneFault k c s).regBit Reg.LANE_FAULT k = true ∧
      (laneFault k c s).fld (Reg.GL_STATUS k) F.GL_STATUS_CAUSE = c % 128 ∧ ((laneFault k c s).lane k).retry.decision = s.now ∧
      (s.laneLatches k = true → (laneFault k c s).regBit Reg.LANE_LATCHED k = true)) ∧
    (s.laneState k ≠ laneLive ∨ s.ptpAt t % ns 200 ≠ 0 → Completes (.downlinkFrame k t) s (· = s)) ∧
    (s.laneState k = laneLive → s.ptpAt t % ns 200 = 0 → (∀ x, (s.lane k).offUntil = some x → t < x) → Completes (.downlinkFrame k t) s fun u =>
      silent u ∧ (∃ f, u.outs = .downlink k t f :: s.outs ∧ f.length = 25 ∧ f.head? = some 0xBC) ∧ (u.lane k).seq = ((s.lane k).seq + 1) % 256 ∧
        (s.arming = none → s.holds = true → (u.lane k).queue = (s.lane k).queue.drop 1 ∧ (u.lane k).slot = (s.lane k).queue.head?) ∧
        (s.arming ≠ none ∨ s.holds = false → (u.lane k).queue = (s.lane k).queue ∧ (u.lane k).slot = none)) ∧
    (∀ x, s.laneState k = laneLive → s.ptpAt t % ns 200 = 0 → (s.lane k).offUntil = some x → x ≤ t → Completes (.downlinkFrame k t) s fun u =>
      u.laneState k = laneIdle ∧ (u.lane k).queue = [] ∧ u.outs = s.outs ∧ silent u) ∧
    (s.laneState k ≠ laneIdle → s.laneState k ≠ laneLive → Completes (.uplinkFrame k bytes t) s (· = s)) ∧
    (s.laneState k = laneIdle ∨ s.laneState k = laneLive → uplinkOk b = false → (s.lane k).checkLeft = 0 → Completes (.uplinkFrame k bytes t) s fun u =>
      u.flag (Reg.GL_STATUS k) F.GL_STATUS_CRC_ERR = true ∧ RegsKept [Reg.CRC_UP k, Reg.GL_STATUS k] s u ∧ PartsKept [.now, .free, .regs] s u) ∧
    (s.laneState k = laneIdle ∨ s.laneState k = laneLive → uplinkOk b = false → Completes (.uplinkFrame k bytes t) s (· = refuseUplink k m)) ∧
    (s.laneState k = laneIdle ∨ s.laneState k = laneLive → uplinkOk b = true → Completes (.uplinkFrame k bytes t) s (· = acceptUplink k b t m)) ∧
    (∀ ok, let w := (uplinkWords k b ok s).word (0x180 + 2 * k.val)
      bit w 31 = true ∧ bit w 26 = ok ∧ (uplinkWords k b ok s).word (0x181 + 2 * k.val) = ofBE (slice b 12 2) * 65536 + ofBE (slice b 8 2)) ∧
    (t < (s.lane k).upAt + ns (s.reg Reg.UPLINK_TO) → Completes (.uplinkTimeout k t) s (· = s)) ∧
    ((s.lane k).upAt + ns (s.reg Reg.UPLINK_TO) ≤ t → Completes (.uplinkTimeout k t) s fun u =>
      u.flag (Reg.GL_STATUS k) F.GL_STATUS_LINK_OK = false ∧ bit (u.word (0x180 + 2 * k.val)) 31 = false ∧
        (s.laneState k = laneLive → (s.lane k).liveAt + ns (s.reg Reg.UPLINK_TO) ≤ t → u.regBit Reg.LANE_FAULT k = true) ∧
        (s.laneState k ≠ laneLive ∨ t < (s.lane k).liveAt + ns (s.reg Reg.UPLINK_TO) → RegsKept [Reg.GL_STATUS k] s u)) ∧
    (∀ p on dvdt ovs, p < 4 → s.reg (Reg.CODE_MAX (s.laneProfile k)) < 16 → s.reg (Reg.CODE_MIN (s.laneProfile k)) ≤ s.code k p on →
      s.code k p on ≤ s.reg (Reg.CODE_MAX (s.laneProfile k)) → let c := (trainStep k p on dvdt ovs s).code k p on
      s.reg (Reg.CODE_MIN (s.laneProfile k)) ≤ c ∧ c ≤ s.reg (Reg.CODE_MAX (s.laneProfile k)) ∧ c ≤ s.code k p on + 1 ∧ s.code k p on ≤ c + 1)

/-- Gate-link lanes: retry and clear, register accesses, enable and disable, codes (R30, R32, R185, R193, R194, R210, R212, R215,
R226, 07_gate_links_and_drivers.md, Table 7-1). -/
def Obligations.LaneAccesses : Prop :=
  ∀ (s : State) (k : Fin 64) (mask : BitVec 64) (t : Instant),
    let m := s.advance t
    let j := s.reg Reg.GU_LANE
    let r := s.reg Reg.GU_REG
    let want := (bitsOf 64 mask.toNat).filter fun i => s.regBit Reg.LANE_LATCHED i
    (s.laneState k = laneLive → s.regBit Reg.LANE_FAULT k = true → s.regBit Reg.LANE_LATCHED k = false → (s.lane k).released = false →
      (s.lane k).retry.decision + Sys2Proof.ms (s.reg Reg.TRETRY) ≤ t → Completes (.laneFaultRelease k t) s fun u =>
        (u.lane k).released = true ∧ (∀ i, i ≠ k.val → u.lane i = s.lane i) ∧ PartsKept [.now, .lanes] s u) ∧
    (s.laneState k ≠ laneLive ∨ s.regBit Reg.LANE_FAULT k = false ∨ s.regBit Reg.LANE_LATCHED k = true ∨ (s.lane k).released = true ∨
      t < (s.lane k).retry.decision + Sys2Proof.ms (s.reg Reg.TRETRY) → Completes (.laneFaultRelease k t) s (· = s)) ∧
    Completes (.glClear mask) s (fun u => u.reg Reg.GL_CLEAR = maskOf want ∧ RegsKept [Reg.GL_CLEAR] s u ∧ PartsKept [.regs, .lanes] s u ∧
      ∀ i, i < 64 → (mask.getLsbD i = true → s.regBit Reg.LANE_LATCHED i = true → clearMask (s.lane i).causesNow (cDESAT + cOC) = 0 →
        (u.lane i).manual = true ∧ (s.laneState i = laneLive → (u.lane i).released = true)) ∧ (mask.getLsbD i = false → u.lane i = s.lane i)) ∧
    ((s.lane k).access = none → Completes (.guAccessTimeout k t) s (· = s)) ∧
    (∀ a, (s.lane k).access = some a → t < a.at_ + us 20 → Completes (.guAccessTimeout k t) s (· = s)) ∧
    (∀ a, (s.lane k).access = some a → a.at_ + us 20 ≤ t → Completes (.guAccessTimeout k t) s fun u => (u.lane k).access = none ∧
      PartsKept [.now, .regs, .lanes] s u ∧ (a.kind = .object → u.reg Reg.GU_RESULT = 4 ∧ RegsKept [Reg.GU_RESULT] s u) ∧
      (a.kind ≠ .object → u.regs = s.regs) ∧ (a.kind = .setup → ∀ x ∈ (u.lane k).setup, x.1 = a.reg → x.2 = m.now + Sys2Proof.ms 1)) ∧
    (∀ q d, s.laneState k = laneLive → (∃ x ∈ (s.lane k).setup, x.2 ≠ 0 ∧ x.2 ≤ t) → (s.lane k).access = none → (s.lane k).waiting = [] →
      (s.lane k).setup.find? (fun x => decide (x.2 ≤ m.now)) = some (q, d) → Completes (.guSetupRetry k t) s fun u =>
        (u.lane k).access = some ⟨q, true, s.setupValue k q, .setup, m.now⟩ ∧ PartsKept [.now, .lanes] s u) ∧
    (s.laneState k = laneLive → (∃ x ∈ (s.lane k).setup, x.2 ≠ 0 ∧ x.2 ≤ t) → Completes (.guSetupRetry k t) s (· = nextAccess k m.now m)) ∧
    (s.laneState k ≠ laneLive ∨ (∀ x ∈ (s.lane k).setup, x.2 = 0 ∨ t < x.2) → Completes (.guSetupRetry k t) s (· = s)) ∧
    (∀ x ∈ [(Instr.guWrite, true), (Instr.guRead, false)],
      (s.laneState j = laneLive → s.reg Reg.GU_RESULT ≠ 1 → (x.2 = true → r = 0 ∨ 5 < r) → Completes x.1 s fun u => u.reg Reg.GU_RESULT = 1 ∧
        (u.lane j).waiting = (s.lane j).waiting ++ [{ reg := r, write := x.2, value := s.reg Reg.GU_VALUE, kind := .object, at_ := s.now }] ∧
        RegsKept [Reg.GU_RESULT] s u ∧ PartsKept [.regs, .lanes] s u) ∧
      (s.laneState j ≠ laneLive ∨ s.reg Reg.GU_RESULT = 1 ∨ x.2 = true ∧ 1 ≤ r ∧ r ≤ 5 → Completes x.1 s (· = s))) ∧
    (s.builtin = true → k.val < 24 → Completes (.laneEnable k) s (· = s) ∧ Completes (.laneDisable k) s (· = s)) ∧
    (s.builtin = false ∨ 24 ≤ k.val →
      Completes (.laneEnable k) s (fun u => u.flag (Reg.GL_CFG k) F.GL_CFG_EN = true ∧ PartsKept [.regs, .lanes, .mram] s u ∧
        (s.laneState k = laneOff → s.regBit Reg.PD_ON 7 = true → u.laneState k = laneStarting ∧ (u.lane k).pendDisable = false) ∧
        (s.laneState k = laneStarting → u.laneState k = laneStarting ∧ (u.lane k).pendDisable = false) ∧
        (s.laneState k = laneIdle ∨ s.laneState k = laneLive ∨ s.laneState k = laneOff ∧ s.regBit Reg.PD_ON 7 = false → u.lanes = s.lanes) ∧
        (s.laneState k = laneStopping → u.flag (Reg.GL_STATUS k) F.GL_STATUS_PENDING_ENABLE = true)) ∧
      Completes (.laneDisable k) s (fun u => u.flag (Reg.GL_CFG k) F.GL_CFG_EN = false ∧ PartsKept [.regs, .lanes, .mram] s u ∧
        (s.laneState k = laneIdle ∨ s.laneState k = laneLive → u.laneState k = laneStopping ∧ (u.lane k).queue = []) ∧
        (s.laneState k = laneStarting → (u.lane k).pendDisable = true) ∧
        (s.laneState k = laneStopping → u.flag (Reg.GL_STATUS k) F.GL_STATUS_PENDING_ENABLE = false ∧ u.lanes = s.lanes) ∧
        (s.laneState k = laneOff → u.lanes = s.lanes))) ∧
    (s.laneState k = laneStarting → (s.lane k).pendDisable = false → Completes (.laneStartComplete k t) s fun u => PartsKept [.now, .regs, .lanes] s u ∧
      (s.reg Reg.MODE = 0 → s.arming = none → u.laneState k = laneIdle) ∧
      (s.reg Reg.MODE ≠ 0 ∨ s.arming ≠ none → u.laneState k = laneLive ∧ (u.lane k).liveAt = m.now ∧
        u.flag (Reg.GL_STATUS k) F.GL_STATUS_LANE_READY = false ∧ (u.lane k).setup.map (·.1) = [1, 2, 3, 4] ∧ (u.lane k).tripN = 0 ∧
        (u.lane k).delay = (s.lane k).delay)) ∧
    (s.laneState k = laneStarting → (s.lane k).pendDisable = true → Completes (.laneStartComplete k t) s fun u => u.laneState k = laneStopping) ∧
    (s.laneState k ≠ laneStarting → Completes (.laneStartComplete k t) s (· = s)) ∧
    Completes (.trainReset mask) s (fun u => PartsKept [.regs, .lanes] s u ∧ ∀ i, i < 64 →
      (mask.getLsbD i = true → u.reg (Reg.CODES i) = s.setCodes i ∧ (u.lane i).train = []) ∧ (mask.getLsbD i = false → u.reg (Reg.CODES i) = s.reg (Reg.CODES i))) ∧
    (t < s.bootInfo.codesAt + sec 3600 → Completes (.trainCodeStore t) s (· = s)) ∧
    (s.bootInfo.codesAt + sec 3600 ≤ t → Completes (.trainCodeStore t) s fun u => u.bootInfo.codesAt = m.now ∧ PartsKept [.now, .mram, .bootInfo] s u ∧ ∀ i, i < 64 → tabGet 0 u.mram.codes i = s.reg (Reg.CODES i) ∧
      tabGet [] u.mram.codeProf i = s.profileValues i)

/-- DRAM initialisation, the scrubber, ECC counters, MEM_READ and MEM_WRITE (R328, R331, R333, R334, R343, R344,
12_memory_ecc_dma.md, Table 12-2). -/
def Obligations.MemoryAccessAndScrub : Prop :=
  ∀ (s : State) (k : Nat) (t : Instant),
    let a := s.reg Reg.SCRUB_ADDR
    let l := s.reg Reg.SCRUB_LEN
    let lo := s.reg Reg.SCRUB_NEXT
    let m := s.reg Reg.MEM_ADDR
    let n := s.reg Reg.MEM_LEN
    let summary := [Reg.WORDS_CHECKED, Reg.CORRECTED, Reg.UNCORRECTABLE, Reg.FIRST_UE, Reg.LAST_UE]
    (s.flag Reg.DRAM_STATUS F.DRAM_STATUS_TRAINED = true → s.flag Reg.DRAM_STATUS F.DRAM_STATUS_INIT_DONE = false →
      Completes (.dramInitDone t) s (fun u => u.memo.waits = [] ∧
        u = memServe (((s.advance t).setFlag Reg.DRAM_STATUS F.DRAM_STATUS_INIT_DONE true).setReg Reg.INIT_PROG 100)) ∧
      (s.memo.waits = [] → s.memo.held = [] → Completes (.dramInitDone t) s fun u =>
        u.flag Reg.DRAM_STATUS F.DRAM_STATUS_INIT_DONE = true ∧ u.reg Reg.INIT_PROG = 100 ∧ RegsKept [Reg.DRAM_STATUS, Reg.INIT_PROG] s u ∧
          PartsKept [.now, .regs] s u)) ∧
    (s.flag Reg.DRAM_STATUS F.DRAM_STATUS_TRAINED = false ∨ s.flag Reg.DRAM_STATUS F.DRAM_STATUS_INIT_DONE = true →
      Completes (.dramInitDone t) s (· = s)) ∧
    (∀ c r, s.memCode a = some c → s.memSpan a = some r → a + l ≤ r.2 → a % scrubUnit c = 0 → l % scrubUnit c = 0 → l ≠ 0 → s.memo.scrubEnd = none →
      Completes .scrubStart s fun u => u.reg Reg.SCRUB_CMD = 1 ∧ u.reg Reg.SCRUB_NEXT = a ∧ u.memo.scrubEnd = some (a + l) ∧
        u.reg Reg.WORDS_CHECKED = 0 ∧ u.reg Reg.CORRECTED = 0 ∧ u.reg Reg.UNCORRECTABLE = 0 ∧ u.reg Reg.FIRST_UE = 0xFFFFFFFFFF ∧
        RegsKept (Reg.SCRUB_CMD :: Reg.SCRUB_NEXT :: summary) s u ∧ PartsKept [.regs, .memo] s u) ∧
    (s.memo.scrubEnd = none → (∀ c r, s.memCode a = some c → s.memSpan a = some r → r.2 < a + l ∨ a % scrubUnit c ≠ 0 ∨ l % scrubUnit c ≠ 0 ∨ l = 0) →
      Completes .scrubStart s (· = s.setReg Reg.SCRUB_CMD 3)) ∧
    (s.memo.scrubEnd.isSome = true → Completes .scrubStart s (· = s)) ∧
    (s.memo.scrubEnd = none → Completes (.scrubStop k) s (· = s) ∧ Completes (.scrubPassEnd t) s (· = s)) ∧
    (∀ e, s.memo.scrubEnd = some e → Completes (.scrubStop k) s fun u => u.reg Reg.SCRUB_CMD = 4 ∧ u.memo.scrubEnd = none ∧
      u.reg Reg.SCRUB_NEXT = min e (min (lo + k * scrubUnit ((s.memCode lo).getD 0)) (s.scrubFront lo)) ∧ PartsKept [.free, .regs, .memo] s u) ∧
    (∀ e, s.memo.scrubEnd = some e → (s.advance t).scrubFront lo < e ∨ s.sramFree lo = false ∨ s.throttled 2 = true →
      Completes (.scrubPassEnd t) s (· = s)) ∧
    (∀ e, s.memo.scrubEnd = some e → e ≤ (s.advance t).scrubFront lo → s.sramFree lo = true → s.throttled 2 = false →
      Completes (.scrubPassEnd t) s fun u => u.reg Reg.SCRUB_CMD = 2 ∧ u.memo.scrubEnd = none ∧ u.reg Reg.SCRUB_NEXT = e ∧
      u.reg Reg.WORDS_CHECKED = (e - lo) / codeBytes ((s.memCode lo).getD 0) ∧ PartsKept [.now, .free, .regs, .memo] s u ∧
      ∀ x, lo ≤ x → x < e → s.memCode lo ≠ some 5 → s.eccAt x = 1 → u.eccAt x = 0) ∧
    Completes .eccClear s (fun u => (∀ c, c < 6 → u.reg (Reg.ECC_CORR c) = 0 ∧ u.reg (Reg.ECC_UNCORR c) = 0) ∧
      RegsKept ((List.range 6).map Reg.ECC_CORR ++ (List.range 6).map Reg.ECC_UNCORR) s u ∧ PartsKept [.regs] s u) ∧
    (s.dmaOk false m (m + n) = false → Completes .memRead s (· = s.setReg Reg.MEM_RESULT 3)) ∧
    (s.dmaOk false m (m + n) = true → s.dramReady (m + n - 1) = true → (∀ x, s.eccAt x = 0) → Completes .memRead s fun u => u.reg Reg.MEM_RESULT = 2 ∧
      (∀ i, i < 64 → 4 * i < n → u.reg (Reg.MEM_DATA i) = ofBytes (slice (s.physRead n m).1 (4 * i) 4)) ∧
      RegsKept (Reg.MEM_RESULT :: (List.range 64).map Reg.MEM_DATA) s u ∧ PartsKept [.free, .regs] s u) ∧
    (s.dmaOk false m (m + n) = true → s.dramReady (m + n - 1) = true → (s.eccCheck n m).1 = none → Completes .memRead s fun u => u.reg Reg.MEM_RESULT = 2 ∧
      (∀ i, i < 64 → 4 * i < n → u.reg (Reg.MEM_DATA i) = ofBytes (slice ((s.eccCheck n m).2.physRead n m).1 (4 * i) 4)) ∧ PartsKept [.free, .regs] s u) ∧
    (s.dmaOk false m (m + n) = true → s.dramReady (m + n - 1) = true → (s.eccCheck n m).1.isSome = true → Completes .memRead s fun u => u.reg Reg.MEM_RESULT = 4 ∧
      (∀ i, i < 64 → u.reg (Reg.MEM_DATA i) = 0) ∧ PartsKept [.free, .regs] s u) ∧
    (s.dmaOk false m (m + n) = true → s.dramReady (m + n - 1) = false → Completes .memRead s fun u => u.reg Reg.MEM_RESULT = 1 ∧
      u.memo.waits = s.memo.waits ++ [.read m n] ∧ RegsKept [Reg.MEM_RESULT] s u ∧ PartsKept [.regs, .memo] s u) ∧
    (s.dmaOk true m (m + n) = true → s.dramReady (m + n - 1) = false → Completes .memWrite s fun u => u.reg Reg.MEM_RESULT = 1 ∧
      u.memo.waits = s.memo.waits ++ [.write m (s.memData n)] ∧ RegsKept [Reg.MEM_RESULT] s u ∧ PartsKept [.regs, .memo] s u) ∧
    (s.dmaOk true m (m + n) = false → Completes .memWrite s (· = s.setReg Reg.MEM_RESULT 3)) ∧
    (s.dmaOk true m (m + n) = true → s.dramReady (m + n - 1) = true → (∀ x, s.eccAt x = 0) → s.memo.held = [] → n ≤ 256 → Completes .memWrite s fun u => u.reg Reg.MEM_RESULT = 2 ∧
      memRead n u.mem m = s.memData n ∧ (∀ x, x < m ∨ m + n ≤ x → memByte u.mem x = memByte s.mem x) ∧
      RegsKept [Reg.MEM_RESULT] s u ∧ PartsKept [.regs, .mem, .serial, .memo] s u) ∧
    (s.dmaOk true m (m + n) = true → s.dramReady (m + n - 1) = true → (s.physWrite m (s.memData n)).1 = none → Completes .memWrite s
      (· = (devWrite m (s.memData n) s).2.setReg Reg.MEM_RESULT 2)) ∧
    (s.dmaOk true m (m + n) = true → s.dramReady (m + n - 1) = true → (s.physWrite m (s.memData n)).1.isSome = true → Completes .memWrite s fun u =>
      u.reg Reg.MEM_RESULT = 4 ∧ ∀ i, i < 64 → u.reg (Reg.MEM_DATA i) = 0)

/-- DMA channels: start, choice of the next beat, one element, completion, stream timeout, disable (R335, R336, R337, R338, R339,
R340, 12_memory_ecc_dma.md, Table 12-10). -/
def Obligations.DmaChannels : Prop :=
  ∀ (s : State) (c : Fin 16) (t : Instant),
    let d := s.dma c
    let busy := s.dmaFlag c F.DMA_STATUS_BUSY
    let en := s.flag (Reg.DMA_CFG c) F.DMA_CFG_EN
    let src := if d.cont && s.flag (Reg.DMA_CFG c) F.DMA_CFG_SRC_CONT then s.reg (Reg.CUR_SRC c) else s.reg (Reg.SRC c)
    let dst := if d.cont && s.flag (Reg.DMA_CFG c) F.DMA_CFG_DST_CONT then s.reg (Reg.CUR_DST c) else s.reg (Reg.DST c)
    let prio (x : Nat) : Nat := s.fld (Reg.DMA_CFG x) F.DMA_CFG_PRIO
    let range := dmaSpan d.dst (s.fld (Reg.DMA_CFG c) F.DMA_CFG_DST_WRAP) (s.dmaElem c) (s.reg (Reg.COUNT c))
    (busy = true ∨ en = false → Completes (.dmaStart c) s (· = s.setFlag (Reg.DMA_STATUS c) F.DMA_STATUS_DB_IGNORED true)) ∧
    (busy = false → en = true → Completes (.dmaStart c) s (· = dmaBegin c s)) ∧
    (busy = false → en = true → (∀ h ∈ s.memo.held, h.owners.contains (.dma c) = false) → Completes (.dmaStart c) s fun u => u.dmaFlag c F.DMA_STATUS_DONE = false ∧ (u.dma c).src = src ∧ (u.dma c).dst = dst ∧
      (u.dma c).i = 0 ∧ u.reg (Reg.REMAIN c) = s.reg (Reg.COUNT c) ∧ u.dmaFlag c F.DMA_STATUS_BUSY = s.dmaCheck c src dst ∧
      u.dmaFlag c F.DMA_STATUS_HALTED = !s.dmaCheck c src dst ∧
      u.fld (Reg.DMA_STATUS c) F.DMA_STATUS_HALT_CAUSE = (if s.dmaCheck c src dst = true then 0 else 3) ∧
      RegsKept [Reg.DMA_STATUS c, Reg.REMAIN c, Reg.CUR_SRC c, Reg.CUR_DST c] s u ∧ PartsKept [.regs, .memo] s u) ∧
    (∀ x, s.dmaNext = some x → x < 16 ∧ s.dmaCan x = true ∧ ∀ y, y < 16 → s.dmaCan y = true → prio y ≤ prio x) ∧
    ((∃ y, y < 16 ∧ s.dmaCan y = true) → s.dmaNext ≠ none) ∧
    (s.dmaNext = none → Completes (.dmaBeat t) s (· = s)) ∧
    (∀ x, s.dmaNext = some x → Completes (.dmaBeat t) s fun u => u = dmaBeat x { s.advance t with
      memo := { s.memo with lastDma := tabSet 15 s.memo.lastDma (prio x) x } } ∧ PartsKept [.now, .free, .regs, .mem, .serial, .memo, .recs] s u) ∧
    (streamOf d.src = none → (∀ a, s.eccAt a = 0) → (dmaElement c s).1 = 0 ∧ ((dmaElement c s).2.dma c).i = d.i + 1 ∧
      (dmaElement c s).2.mem = memWrite (s.physRead (s.dmaElem c) (s.dmaSrc c d.i)).1 s.mem (s.dmaDst c d.i)) ∧
    (d.acking = true → let y := heldOf (.dma c) s
      ((y.dma c).acking = true → Completes (.dmaDone c) s fun u => u.dmaFlag c F.DMA_STATUS_BUSY = false ∧
        u.dmaFlag c F.DMA_STATUS_DONE = true ∧ u.regBit Reg.DMA_DONE_EVT c = true ∧ (u.dma c).acking = false ∧ (u.dma c).cont = true ∧
        RegsKept [Reg.DMA_STATUS c, Reg.DONE_COUNT c, Reg.DMA_DONE_EVT] y u ∧ PartsKept [.free, .regs, .memo] y u) ∧
      ((y.dma c).acking = false → Completes (.dmaDone c) s (· = y)) ∧
      ((∀ h ∈ s.memo.held, h.owners.contains (.dma c) = false) → y = s)) ∧
    (d.acking = false → Completes (.dmaDone c) s (· = s)) ∧
    (∀ x, (s.dmaStream c).isSome = true → s.dmaWords c = [] → d.acking = false → s.dmaPaused c = false → d.emptyAt = some x →
      x + us (s.reg (Reg.TIMEOUT c)) ≤ t + d.spent →
      Completes (.dmaStreamTimeout c t) s fun u => u.dmaFlag c F.DMA_STATUS_BUSY = false ∧ u.dmaFlag c F.DMA_STATUS_HALTED = true ∧
        u.dmaFlag c F.DMA_STATUS_TIMEOUT = true ∧ u.fld (Reg.DMA_STATUS c) F.DMA_STATUS_HALT_CAUSE = 4 ∧
        RegsKept [Reg.DMA_STATUS c, Reg.REMAIN c, Reg.CUR_SRC c, Reg.CUR_DST c] s u ∧ PartsKept [.now, .regs, .memo] s u) ∧
    (s.dmaStream c = none ∨ s.dmaWords c ≠ [] ∨ d.acking = true ∨ s.dmaPaused c = true ∨
      (∀ x, d.emptyAt = some x → t + d.spent < x + us (s.reg (Reg.TIMEOUT c))) →
      Completes (.dmaStreamTimeout c t) s (· = s)) ∧
    (en = false → Completes (.dmaDisable c) s (· = s)) ∧
    (en = true → Completes (.dmaDisable c) s fun u => u.flag (Reg.DMA_CFG c) F.DMA_CFG_EN = false ∧ u.dmaFlag c F.DMA_STATUS_BUSY = false ∧
      u.dmaFlag c F.DMA_STATUS_HALTED = true ∧ u.fld (Reg.DMA_STATUS c) F.DMA_STATUS_HALT_CAUSE = 5 ∧ u.dma c = { disAt := some s.now } ∧
      (busy = false → u.mem = s.mem) ∧ (∀ a, a < range.1 ∨ range.2 ≤ a → memByte u.mem a = memByte s.mem a) ∧
      RegsKept [Reg.DMA_CFG c, Reg.DMA_STATUS c, Reg.REMAIN c, Reg.CUR_SRC c, Reg.CUR_DST c] s u ∧ PartsKept [.free, .regs, .mem, .memo] s u)

/-- PLLs: lock, loss of lock, the reference lost and back, frequency windows, RELOCK (R300, R303, R304, R305, R306, R307,
11_clocks_and_time.md, Table 11-8). -/
def Obligations.PllsAndReference : Prop :=
  ∀ (s : State) (p : Fin 3) (band : BitVec 16) (a b c0 c1 : Nat) (limits mask : BitVec 3) (t : Instant),
    let lockedAll (u : State) : Prop := u.clkFlag F.CLK_STATUS_ALL_LOCKED = (List.range 3).all fun q => u.pll q == 3
    let err : Int := ((a : Int) - 1600000) * 625
    let blocked : Prop := s.reg Reg.MODE ≠ 0 ∨
      (mask.getLsbD 0 = true ∨ mask.getLsbD 1 = true) ∧ ((∃ e, e < 16 ∧ s.reg (Reg.ENABLE e) = 1) ∨ (∃ n, n < 16 ∧ (s.carrier n).running = true) ∨
        ∃ n, n < 8 ∧ s.flag (Reg.SQ_CFG n) F.SQ_CFG_EN = true) ∨
      mask.getLsbD 2 = true ∧ ((∃ n, n < 4 ∧ s.flag (Reg.RC_CFG n) F.RC_CFG_EN = true) ∨ ∃ k, k < 64 ∧ s.fld (Reg.GL_STATUS k) F.GL_STATUS_STATE = 3)
    let ref : Prop := s.clkFlag F.CLK_STATUS_XIN_LOST = false
    (ref → s.pll p = 1 ∨ s.pll p = 2 → tabGet 0 s.clk.lockAt p + ns 16240 ≤ t → t ≤ tabGet 0 s.clk.lockAt p + us 100 →
      Completes (.pllLocked p band t) s fun u => u.pll p = 3 ∧
      u.reg (Reg.PLL_BAND p) = bandOf p band.toNat ∧ tabGet 0 u.clk.dither p = s.reg (Reg.DITHER_SEED p) ∧
      (p ≠ 0 ∨ bit s.clk.relock 0 = false → u.epoch = s.epoch) ∧ u.flag (Reg.PLL_STATUS p) F.PLL_STATUS_LOCK_LOST = false ∧
      u.flag (Reg.PLL_STATUS p) F.PLL_STATUS_DITHER_ON = (s.reg (Reg.DITHER_EN p) == 1) ∧ bit u.clk.relock p = false ∧ lockedAll u ∧
      (∀ q : Fin 3, q ≠ p → u.pll q = s.pll q) ∧ PartsKept [.now, .epoch, .free, .regs, .clk] s u) ∧
    (ref → s.pll p = 5 → Completes (.pllLocked p band t) s fun u => u.pll p = 3 ∧ lockedAll u ∧ RegsKept [Reg.PLL_STATUS p, Reg.CLK_STATUS] s u ∧
      PartsKept [.now, .free, .regs, .clk] s u) ∧
    (s.clkFlag F.CLK_STATUS_XIN_LOST = true ∨ s.pll p ≠ 1 ∧ s.pll p ≠ 2 ∧ s.pll p ≠ 5 → Completes (.pllLocked p band t) s (· = s)) ∧
    (s.pll p = 1 ∨ s.pll p = 2 → t < tabGet 0 s.clk.lockAt p + ns 16240 ∨ tabGet 0 s.clk.lockAt p + us 100 < t → Completes (.pllLocked p band t) s (· = s)) ∧
    (s.pll p = 3 → Completes (.pllLossOfLock p t) s fun u => u.pll p = 4 ∧ u.flag (Reg.PLL_STATUS p) F.PLL_STATUS_LOCK_LOST = true ∧
      u.flag (Reg.PLL_STATUS p) F.PLL_STATUS_LOL_SEEN = true ∧ u.reg (Reg.HOLDOVER_MS p) = 0 ∧ tabGet 0 u.clk.holdAt p = max s.now t ∧
      u.clkFlag F.CLK_STATUS_ALL_LOCKED = false ∧ (s.clkFlag F.CLK_STATUS_XIN_LOST = true → u.clkFlag F.CLK_STATUS_HOLDOVER_EXCEEDED = true)) ∧
    (s.pll p ≠ 3 → Completes (.pllLossOfLock p t) s (· = s)) ∧
    (s.clkFlag F.CLK_STATUS_XIN_LOST = true → Completes (.xinLost t) s (· = s)) ∧
    (s.clkFlag F.CLK_STATUS_XIN_LOST = false → Completes (.xinLost t) s fun u => u.clkFlag F.CLK_STATUS_XIN_LOST = true ∧
      u.clkFlag F.CLK_STATUS_XIN_SEEN = true ∧ (∀ q : Fin 3, u.pll q = if s.pll q = 3 ∨ s.pll q = 5 then 4 else s.pll q) ∧
      ((∃ q : Fin 3, u.pll q = 4) → u.clkFlag F.CLK_STATUS_HOLDOVER_EXCEEDED = true)) ∧
    Completes (.xinRestored t) s (fun u => u.clkFlag F.CLK_STATUS_XIN_LOST = false ∧ RegsKept [Reg.CLK_STATUS] s u ∧ PartsKept [.now, .regs] s u) ∧
    (s.clkFlag F.CLK_STATUS_XIN_LOST = true → Completes (.freqWindowEnd a b c0 c1 limits t) s (· = s)) ∧
    (s.clkFlag F.CLK_STATUS_XIN_LOST = false → Completes (.freqWindowEnd a b c0 c1 limits t) s fun u => u.reg (Reg.FREQ_ERR 0) = sput 32 err ∧
      ((∀ q : Fin 3, s.pll q ≠ 4) → u.clkFlag F.CLK_STATUS_HOLDOVER_EXCEEDED = false ∧ ∀ q : Fin 3, u.pll q = s.pll q) ∧
      (s.pll 0 = 4 → err.natAbs ≤ s.reg Reg.HOLDOVER_BOUND * 1000 → s.flag (Reg.PLL_STATUS 0) F.PLL_STATUS_BAND_LIMIT = false →
        (limits.getLsbD 0 = false → u.pll 0 = 5) ∧
        (limits.getLsbD 0 = true → u.pll 0 = 4 ∧ u.flag (Reg.PLL_STATUS 0) F.PLL_STATUS_BAND_LIMIT = true)) ∧
      (s.pll 0 = 4 → s.reg Reg.HOLDOVER_BOUND * 1000 < err.natAbs → u.pll 0 = 4 ∧ u.clkFlag F.CLK_STATUS_HOLDOVER_EXCEEDED = true)) ∧
    (blocked → Completes (.relock mask) s (· = s.setReg Reg.RELOCK 3)) ∧
    (¬blocked → Completes (.relock mask) s fun u =>
        u.reg Reg.RELOCK = (if mask = 0 ∧ s.clk.relock = 0 then 2 else 1) ∧
        u.clkFlag F.CLK_STATUS_RELOCK_BUSY = (mask != 0 || s.clk.relock != 0) ∧ PartsKept [.regs, .clk] s u ∧
        ∀ q : Fin 3, mask.getLsbD q = true → u.pll q = 1 ∧ tabGet 0 u.clk.lockAt q = s.now ∧ bit u.clk.relock q = true)

/-- The timebase step, TIME_SET, RESTEP, offsets, PTP messages, the announce timeout, PTP configuration (R309, R310, R311, R312,
R313, R316, R317, R318, R319, R380, 11_clocks_and_time.md, Table 11-4). -/
def Obligations.TimebaseAndPtp : Prop :=
  ∀ (s : State) (k : Fin 4) (dom src res : Nat) (m : PtpFrame) (i : Fin 7) (v : BitVec 16) (t : Instant),
    let n := s.advance t
    let me : Int := s.clockId * 65536 + k.val + 1
    let due (x : Nat) : Prop := ∀ y, (s.ptpPort k).sentAt.find? (·.1 == x) = some y → y.2 + sec 1 ≤ t
    let to_ := sec (s.reg Reg.ANN_TO)
    let ring : Prop := s.reg Reg.REDUND = 2 ∧ k.val < 2
    let hdr (kind : Nat) : PtpHdr := ⟨⟨s.reg Reg.VLAN, none⟩, if kind = 2 ∨ kind = 3 ∨ kind = 10 then 0x0180C200000E else 0x011B19000000,
      0x88F7, s.reg Reg.DOMAIN⟩
    let fwd : State := ptpForward k dom src m res n
    let hears : Prop := n.ptpHears k m.vid.toNat = true
    let takes : Prop := s.ptpRuns k = true ∧ dom = s.reg Reg.DOMAIN ∧ src / 65536 ≠ s.clockId
    (s.tf F.TIME_FLAGS_STEPPED = true ∨ s.stepAllowed = false → Completes (.timebaseStep t) s (· = s)) ∧
    (∀ x, s.tf F.TIME_FLAGS_STEPPED = false → s.stepAllowed = true → s.clk.setReq = some x → Completes (.timebaseStep t) s fun u =>
      u.time64 = x % 2 ^ 64 ∧ u.tf F.TIME_FLAGS_STEPPED = true ∧ u.reg Reg.TIME_SET = 2 ∧ u.reg Reg.STEP_OLD = n.time64 ∧
        u.reg Reg.TIME_STATE = (if s.clk.ofsAt.isSome then 2 else 0) ∧ u.clk.setReq = none) ∧
    (∀ o, s.tf F.TIME_FLAGS_STEPPED = false → s.stepAllowed = true → s.clk.setReq = none → s.clk.ofs = some o → Completes (.timebaseStep t) s fun u =>
      (u.ptpAt u.now : Int) = ((s.ptpAt n.now : Int) - o * 65536).emod (2 ^ 96) ∧ u.tf F.TIME_FLAGS_STEPPED = true ∧ u.clk.ofs = none) ∧
    (s.tf F.TIME_FLAGS_STEPPED = false → s.stepAllowed = true → s.clk.setReq = none → s.clk.ofs = none → Completes (.timebaseStep t) s (· = n)) ∧
    (s.tf F.TIME_FLAGS_STEPPED = true ∨ s.stepAllowed = false → Completes .timeSet s (· = s.setReg Reg.TIME_SET 3)) ∧
    (s.tf F.TIME_FLAGS_STEPPED = false → s.stepAllowed = true → Completes .timeSet s fun u => u.clk.setReq = some (s.reg Reg.TIME_SET_VAL) ∧
      PartsKept [.clk] s u) ∧
    (∀ o, s.clk.ofs = some o → s.stepAllowed = true → s.tf F.TIME_FLAGS_PTP_VALID = true → Completes .restep s fun u => u.reg Reg.RESTEP = 2 ∧
      (u.ptpAt u.now : Int) = ((s.ptpAt s.now : Int) - o * 65536).emod (2 ^ 96)) ∧
    (s.clk.ofs = none ∨ s.stepAllowed = false ∨ s.tf F.TIME_FLAGS_PTP_VALID = false → Completes .restep s (· = s.setReg Reg.RESTEP 3)) ∧
    (∀ o x, s.clk.ofsNew = some (o, x) → s.pairState ≠ 2 → s.pairState ≠ 3 → Completes .ptpOffset s fun u => u.clk.ofs = some o ∧
      u.clk.ofsAt = some x ∧ u.clk.ofsNew = none ∧ u.tf F.TIME_FLAGS_PTP_VALID = true ∧ u.tf F.TIME_FLAGS_PTP_LOST = false ∧
      u.reg Reg.OFFSET = sput 32 (satS 32 (o / 65536)) ∧ PartsKept [.free, .regs, .clk] s u ∧
      (s.tf F.TIME_FLAGS_STEPPED = false → s.stepAllowed = false → u.reg Reg.TIME_STATE = 1 ∧ u.tf F.TIME_FLAGS_STEP_DEFERRED = true)) ∧
    (s.clk.ofsNew = none → Completes .ptpOffset s (· = s)) ∧
    (∀ x, s.clk.ofsNew = some x → s.pairState = 2 ∨ s.pairState = 3 → Completes .ptpOffset s (· = s.setClk { s.clk with ofsNew := none })) ∧
    (¬hears → Completes (.ptpMessage k dom src m res t) s (· = n)) ∧
    (hears → takes → Completes (.ptpMessage k dom src m res t) s
      (· = ptpIn k src m.msg (s.stamp t - (s.reg (Reg.RX_LAT k) * 65536 : Nat)) fwd)) ∧
    (hears → ¬takes → Completes (.ptpMessage k dom src m res t) s (· = fwd)) ∧
    (¬ring → fwd = n) ∧
    (ring → (∀ p1 cls acc var p2 gm steps, m.msg = .announce p1 cls acc var p2 gm steps →
        fwd.outs.head?.map (fun o => match o with | .ptp q kind _ l _ => (q, kind, l) | _ => (0, 0, [])) =
          some (1 - k.val, 11, [(dom : Int), src, p1, cls, acc, var, p2, gm, steps])) ∧
      (∀ seq origin corr, m.msg = .sync seq true origin corr → fwd.ptp.resid.head? = some (k.val, src, seq, res)) ∧
      ∀ seq origin corr x, m.msg = .followUp seq origin corr →
        s.ptp.resid.find? (fun y => y.1 == k.val && y.2.1 == src && y.2.2.1 == seq) = some (k.val, src, seq, x) →
        fwd.outs.head?.map (fun o => match o with | .ptp q kind _ l _ => (q, kind, l) | _ => (0, 0, [])) =
          some (1 - k.val, 8, [(dom : Int), src, seq, origin, corr + x])) ∧
    (∀ seq rx, ¬ring → (ptpIn k src (.pdelayReq seq) rx s).outs =
      .ptp k 10 (hdr 10) [me, seq, src, s.stamp s.now + s.reg (Reg.TX_LAT k) * 65536] s.now :: .ptp k 3 (hdr 3) [me, seq, src, rx] s.now :: s.outs) ∧
    (∀ seq two origin corr rx, (s.ptpPort k).parent ≠ some src → ptpIn k src (.sync seq two origin corr) rx s = s) ∧
    (s.ptpRuns k = true → due 0 → Completes (.ptpMessageSend k 0 t) s fun u => PartsKept [.now, .ptp, .net, .outs] s u ∧
      (u.ptpPort k).t1 = some (s.stamp t + (s.reg (Reg.TX_LAT k) * 65536 : Nat)) ∧
      (¬ring → u.outs = .ptp k 2 (hdr 2) [me, ((tabGet 0 (s.ptpPort k).sendSeq 0 + 1) % 65536 : Nat)] t :: s.outs)) ∧
    (s.ptpRuns k = true → due 1 → s.portState k = 6 → Completes (.ptpMessageSend k 1 t) s fun u => PartsKept [.now, .ptp, .net, .outs] s u ∧
      u.outs.length = s.outs.length + 1 ∧ (¬ring → u.outs.head? = some (.ptp k 11 (hdr 11)
        (me :: ((tabGet 0 (s.ptpPort k).sendSeq 1 + 1) % 65536 : Nat) :: (s.ownDs ++ [0]).map fun (x : Nat) => (x : Int)) t)) ∧ tabGet 0 (u.ptpPort k).sendSeq 1 = (tabGet 0 (s.ptpPort k).sendSeq 1 + 1) % 65536) ∧
    (s.ptpRuns k = true → due 2 → s.portState k = 6 → Completes (.ptpMessageSend k 2 t) s fun u => PartsKept [.now, .ptp, .net, .outs] s u ∧
      u.outs.length = s.outs.length + 2) ∧
    (∀ x : Fin 3, s.ptpRuns k = false ∨ ¬due x → Completes (.ptpMessageSend k x t) s (· = s)) ∧
    (∀ x : Fin 3, s.ptpRuns k = true → due x → x.val ≠ 0 → s.portState k ≠ 6 → Completes (.ptpMessageSend k x t) s (· = n)) ∧
    (∀ x, s.clk.ofsAt = some x → x + to_ ≤ n.now → s.tf F.TIME_FLAGS_PTP_VALID = true → Completes (.ptpAnnounceTimeout t) s fun u =>
      u.tf F.TIME_FLAGS_PTP_VALID = false ∧ u.clk.ofs = none ∧ PartsKept [.now, .free, .regs, .clk, .ptp] s u ∧
        (s.reg Reg.TIME_STATE ≠ 0 → u.reg Reg.TIME_STATE = 4 ∧ u.tf F.TIME_FLAGS_PTP_LOST = true ∧
          absR (u.clk.rate - clampQ 200000 s.clk.rf) ≤ 1000000000 / 2684354560)) ∧
    (s.clk.ofsAt = none ∨ (∀ x, s.clk.ofsAt = some x → n.now < x + to_) ∨ s.tf F.TIME_FLAGS_PTP_VALID = false → Completes (.ptpAnnounceTimeout t) s fun u =>
      u.clk = { s.clk with ofs := u.clk.ofs, ofsNew := u.clk.ofsNew } ∧ PartsKept [.now, .regs, .clk, .ptp] s u) ∧
    (valueOk (ptpReg i) v.toNat = false → Completes (.ptpConfigWrite i v) s (· = s)) ∧
    (valueOk (ptpReg i) v.toNat = true → Completes (.ptpConfigWrite i v) s fun u => u.reg (ptpReg i) = v.toNat ∧ u.ptp.foreign = [] ∧
      u.reg Reg.SLAVE_PORT = 0xFF ∧ u.reg Reg.GM_ID = 0 ∧ (∀ q : Fin 4, u.portState q = if u.ptpRuns q then 4 else 3) ∧
      u.clk = { s.clk with ofs := none, ofsNew := none } ∧ PartsKept [.regs, .mram, .clk, .ptp] s u)

/-- Edge alignment, the RTC, time alarms, compaction, patches, SWITCHOVER, BATON_RENUMBER, ETH_APPLY (R314, R315, R320, R321, R322,
R324, R366, R374, R385, R427, R430, R431). -/
def Obligations.AlignmentAlarmsAndRecords : Prop :=
  ∀ (s : State) (n : Fin 16) (w : Fin 2) (err : BitVec 16) (mask : BitVec 4) (t : Instant),
    let want := s.sreg 16 Reg.EDGE_OFS
    let act := s.sreg 16 Reg.EDGE_OFS_ACT
    let old := s.reg (Reg.TA_CFG n)
    let on := fset F.TA_CFG_EN old 1
    let off := fset F.TA_CFG_EN old 0
    let text := (s.mram.patch s.stagingSlot).text (s.reg Reg.PATCH_LEN)
    let free : Prop := s.clk.alignAt + ns 100 ≤ t
    let both : Prop := s.mode = mBASECAMP ∧ ∃ b, s.pair.beat = some b ∧ b.mode = mBASECAMP
    (t < s.clk.alignAt + ns 100 → Completes (.edgeAlignStep err t) s (· = s)) ∧
    (free → act ≠ want → Completes (.edgeAlignStep err t) s fun u => u.reg Reg.EDGE_OFS_ACT = sput 16 (if act < want then act + 1 else act - 1) ∧
      u.reg Reg.ALIGN_ERR = sput 16 err.toInt ∧ u.clk = { s.clk with alignAt := t } ∧
      RegsKept [Reg.EDGE_OFS_ACT, Reg.FINE_STEPS, Reg.ALIGN_ERR, Reg.TIME_FLAGS] s u ∧ PartsKept [.now, .free, .regs, .clk] s u) ∧
    (free → act = want → Completes (.edgeAlignStep err t) s fun u =>
      u.reg Reg.ALIGN_ERR = sput 16 (err.toInt - (if 0 < err.toInt then 1 else if err.toInt < 0 then -1 else 0)) ∧
        RegsKept [Reg.FINE_STEPS, Reg.ALIGN_ERR, Reg.TIME_FLAGS] s u) ∧
    (s.regBit Reg.PD_ON 11 = true → s.ptpAt t % sec 1 = 0 → s.now ≤ t → Completes (.rtcSet t) s fun u => u.clk.rtc = s.time64At t ∧ u.clk.rtcAt = t ∧
      u.now = t ∧ PartsKept [.now, .clk] s u) ∧
    (s.regBit Reg.PD_ON 11 = false ∨ s.ptpAt t % sec 1 ≠ 0 ∨ t < s.now → Completes (.rtcSet t) s (· = s)) ∧
    (s.builtin = true → n.val < 3 → Completes (.taEnable n) s (· = s) ∧ Completes (.taDisable n) s (· = s)) ∧
    (s.builtin = false ∨ 3 ≤ n.val → valueOk (Reg.TA_CFG n) on = true → fget F.TA_CFG_EN old = 0 → Completes (.taEnable n) s fun u =>
      u.reg (Reg.TA_CFG n) = on ∧ u.alarms = (alarmEnable n (s.setReg (Reg.TA_CFG n) on)).alarms ∧
        (fget F.TA_CFG_MODE old = 2 → s.taStart n ≤ s.ptpAt s.now → (s.alarm n).insts = [] → (u.alarm n).insts = [(s.now + us 1, false)])) ∧
    (s.builtin = false ∨ 3 ≤ n.val → valueOk (Reg.TA_CFG n) off = true → fget F.TA_CFG_EN old = 1 → Completes (.taDisable n) s fun u =>
      u.reg (Reg.TA_CFG n) = off ∧ u.alarm n = {} ∧ (∀ j, j ≠ n.val → u.alarm j = s.alarm j) ∧ u.engines = s.engines) ∧
    (s.builtin = false ∨ 3 ≤ n.val → valueOk (Reg.TA_CFG n) off = true → fget F.TA_CFG_EN old = 0 → Completes (.taDisable n) s fun u =>
      u.reg (Reg.TA_CFG n) = off ∧ u.alarms = s.alarms) ∧
    (fget F.TA_CFG_EN old = 1 ∨ valueOk (Reg.TA_CFG n) on = false → Completes (.taEnable n) s (· = s)) ∧
    (valueOk (Reg.TA_CFG n) off = false → Completes (.taDisable n) s (· = s)) ∧
    (∀ a, s.mram.compactAt = some a → t ≤ a + Sys2Proof.ms 100 → Completes (.compactionComplete t) s fun u => PartsKept [.now, .regs, .mram] s u ∧
      (∀ d ∈ u.mram.deltas, s.mram.compactSeq < d.seq) ∧ u.reg Reg.CFG_GEN = ((s.mram.newest.map fun x => x.2.gen).getD 0) + 1 ∧
      (∀ x, s.mram.newest = some x → (x.1 = 0 → u.mram.slotA = s.mram.slotA) ∧ (x.1 = 1 → u.mram.slotB = s.mram.slotB))) ∧
    (s.mram.compactAt = none ∨ (∀ a, s.mram.compactAt = some a → a + Sys2Proof.ms 100 < t) → Completes (.compactionComplete t) s (· = s)) ∧
    (s.patchRefused = true → Completes .patchCommit s (· = s.setReg Reg.PATCH_COMMIT 4)) ∧
    (s.patchRefused = true ∨ s.reg Reg.PATCH_ADDR % 256 ≠ 0 ∨ patchSize ≤ s.reg Reg.PATCH_ADDR → Completes .patchWrite s (· = s)) ∧
    (s.patchRefused = false → s.reg Reg.PATCH_ADDR % 256 = 0 → s.reg Reg.PATCH_ADDR < patchSize → Completes .patchWrite s fun u =>
      PartsKept [.mram] s u ∧ (∀ j, j < 64 → ofBytes (memRead 4 (u.mram.patch s.stagingSlot).bytes (s.reg Reg.PATCH_ADDR + 4 * j)) =
        s.reg (Reg.PATCH_BLOCK j) % 2 ^ 32) ∧ (u.mram.patch (1 - s.stagingSlot) = s.mram.patch (1 - s.stagingSlot))) ∧
    (s.patchRefused = false → crc32 text ≠ s.reg Reg.PATCH_CRC → Completes .patchCommit s (· = s.setReg Reg.PATCH_COMMIT 3)) ∧
    (s.patchRefused = false → crc32 text = s.reg Reg.PATCH_CRC → Config.patchFits text = false → Completes .patchCommit s
      (· = s.setReg Reg.PATCH_COMMIT 4)) ∧
    (s.patchRefused = false → crc32 text = s.reg Reg.PATCH_CRC → Config.patchFits text = true → Completes .patchCommit s fun u =>
      u.reg Reg.PATCH_COMMIT = 2 ∧ PartsKept [.regs, .mram] s u ∧ u.mram.confirmed ≠ some s.stagingSlot ∧
        (let p := u.mram.patch s.stagingSlot; p.committed = true ∧ p.selected = false ∧ p.passes = true)) ∧
    Completes (.patchSelect w) s (fun u => (u.mram.patch w).selected = true ∧ (u.mram.patch w).started = false ∧
      (u.mram.patch (1 - w.val)).selected = false ∧ u.mram.trialSlot = some w.val ∧ PartsKept [.mram] s u) ∧
    (∀ x, s.bootInfo.run = some x → s.bootInfo.trial = true → Completes .patchConfirm s fun u => u.bootInfo.trial = false ∧ u.mram.confirmed = some x ∧
      (u.mram.patch x).selected = false ∧ PartsKept [.mram, .bootInfo] s u) ∧
    (s.bootInfo.run = none ∨ s.bootInfo.trial = false → Completes .patchConfirm s (· = s)) ∧
    (s.holds = false ∨ s.partnerSynced = false ∨ s.mode = mLIMIT ∨ s.mode = mHOLD → Completes .switchover s (· = s.setReg Reg.SWITCHOVER 3)) ∧
    (s.holds = true → s.partnerSynced = true → s.mode ≠ mLIMIT → s.mode ≠ mHOLD → Completes .switchover s
      (· = belaySend 0x03 [7] (s.setReg Reg.SWITCHOVER 1))) ∧
    (s.holds = false ∨ ¬both ∨ s.partnerSynced = false ∨ s.linkUp = false ∨ s.pair.claim ≠ none → Completes .batonRenumber s
      (· = s.setReg Reg.BATON_RENUMBER 3)) ∧
    (s.holds = true → both → s.partnerSynced = true → s.linkUp = true → s.pair.claim = none → Completes .batonRenumber s fun u =>
      u.pair.claim = some ⟨2 + s.duplexId, 10, s.now⟩ ∧ PartsKept [.pair] s u) ∧
    Completes (.ethApply mask) s (fun u => PartsKept [.net] s u ∧ ∀ p, p < 4 → mask.getLsbD p = true →
      tabGet 0 u.net.eth (4 * p) = s.reg (Reg.ETH_IP p) ∧ tabGet 0 u.net.eth (4 * p + 3) = s.reg (Reg.ETH_CFG p))

/-- Power domains, standby, the budget arbiter, the core-voltage step (R28, R389, R390, R391, R393, R394, R395, R396,
15_supervision_and_health.md, Table 15-1). -/
def Obligations.PowerAndBudget : Prop :=
  ∀ (s : State) (mask : BitVec 12) (d : Fin 12) (fixedMw powerMw : BitVec 16) (ctl bg : List Nat) (t : Instant),
    let m := s.advance t
    let req := s.reg Reg.PD_REQ
    let on := req ||| mask.toNat
    let off := clearMask req mask.toNat
    let supplied : Bool := s.regBit Reg.PD_ON 1 && s.regBit Reg.PD_ON 11
    let v := s.reg Reg.VDD_CHOSEN
    let step := m.stepMeas * 100
    let target := s.reg Reg.STEP_SLOW * (100 - s.reg Reg.GUARD_PCT)
    let may : Prop := s.phase = .running ∧ s.sup.vidAt + Sys2Proof.ms 1 ≤ t
    let moved (x : Nat) (u : State) : Prop := u.reg Reg.VDD_CHOSEN = x ∧ u.outs = .vid ((x - 650) / 10) m.now :: s.outs ∧ u.sup.vidAt = m.now ∧
      RegsKept [Reg.VDD_CHOSEN] s u ∧ PartsKept [.now, .regs, .sup, .outs] s u
    ((∃ x, x < 12 ∧ bit (req ^^^ on) x = true ∧ (x ∉ pdSwitched ∨ supplied = false)) → Completes (.pdSwitchOn mask) s
      (· = s.setReg Reg.PD_REFUSED (req ^^^ on))) ∧
    ((∀ x, x < 12 → bit (req ^^^ on) x = true → x ∈ pdSwitched ∧ supplied = true) → Completes (.pdSwitchOn mask) s fun u => u.reg Reg.PD_REQ = on ∧
      (∀ x, x < 12 → bit (req ^^^ on) x = true → bit s.sup.pdStop x = false → s.regBit Reg.PD_ON x = false → bit s.sup.pdStart x = false →
        bit u.sup.pdStart x = true) ∧ PartsKept [.free, .regs, .mem, .lanes, .filt, .memo, .recs, .sup] s u) ∧
    ((∃ x, x < 12 ∧ bit (req ^^^ off) x = true ∧ (x ∉ pdSwitched ∨ s.pdOffRefused x = true)) → Completes (.pdSwitchOff mask) s
      (· = s.setReg Reg.PD_REFUSED (req ^^^ off))) ∧
    (∀ x ∈ [3, 4, 5, 10], mask = 1#12 <<< x → bit req x = true → s.pdOffRefused x = false → s.regBit Reg.PD_PENDING x = false → bit s.sup.pdStart x = false →
      s.regBit Reg.PD_ON x = true → Completes (.pdSwitchOff mask) s fun u => bit (u.reg Reg.PD_REQ) x = false ∧ u.regBit Reg.PD_ON x = false ∧
        bit u.sup.pdStop x = true ∧ RegsKept [Reg.PD_REQ, Reg.PD_ON] s u ∧ PartsKept [.regs, .sup] s u) ∧
    ((∀ x, x < 12 → bit (req ^^^ off) x = true → x ∈ pdSwitched ∧ s.pdOffRefused x = false) → Completes (.pdSwitchOff mask) s fun u =>
      u.reg Reg.PD_REQ = off ∧ ∀ x, x < 12 → bit (req ^^^ off) x = true →
        (s.regBit Reg.PD_PENDING x = true → u.regBit Reg.PD_PENDING x = false) ∧
        (s.regBit Reg.PD_PENDING x = false → bit s.sup.pdStart x = true → bit u.sup.pdDis x = true) ∧
        (s.regBit Reg.PD_PENDING x = false → bit s.sup.pdStart x = false → s.regBit Reg.PD_ON x = true →
          u.regBit Reg.PD_ON x = false ∧ bit u.sup.pdStop x = true)) ∧
    (bit s.sup.pdStart d = false → Completes (.pdOnComplete d t) s (· = s)) ∧
    (bit s.sup.pdStart d = true → Completes (.pdOnComplete d t) s fun u => bit u.sup.pdStart d = false ∧ bit u.sup.pdDis d = false ∧
      u.regBit Reg.PD_ON d = !bit s.sup.pdDis d ∧ (bit s.sup.pdDis d = true → bit u.sup.pdStop d = true)) ∧
    (bit s.sup.pdStart d = true → bit s.sup.pdDis d = false → d.val = 4 ∨ d.val = 5 ∧ s.reg Reg.ADC_EN ≠ 1 → Completes (.pdOnComplete d t) s fun u =>
      u.regBit Reg.PD_ON d = true ∧ bit u.sup.pdStart d = false ∧ RegsKept [Reg.PD_ON] s u ∧ PartsKept [.now, .regs, .sup] s u) ∧
    (∀ j : Fin 8, (driversUv (decide (s.reg Reg.VDRV ≤ 9500)) s).flag (Reg.LD_STATUS j) F.LD_STATUS_VDRV_UV = decide (s.reg Reg.VDRV ≤ 9500)) ∧
    (d.val = 10 → bit s.sup.pdStart d = true → bit s.sup.pdDis d = false → Completes (.pdOnComplete d t) s fun u => u.regBit Reg.PD_ON d = true ∧
      ∃ w, u = driversStart (driversUv (decide (s.reg Reg.VDRV ≤ 9500)) w) ∧ RegsKept [Reg.PD_ON] s w ∧ PartsKept [.now, .regs, .sup] s w) ∧
    (s.pdFlushes d = true → pdOffDone d s = s) ∧
    (s.mode ≠ mBASECAMP ∨ s.reg Reg.J_PENDING ≠ 0 ∨ s.sup.standbyAt.isSome = true → Completes .standby s (· = s.setReg Reg.STANDBY 3)) ∧
    (s.mode = mBASECAMP → s.reg Reg.J_PENDING = 0 → s.sup.standbyAt = none → Completes .standby s fun u => u.sup.standbyAt = some s.now ∧
      u.clk.rtc = s.time64At s.now ∧ u.memo.kept = true ∧ u.flag Reg.DRAM_STATUS F.DRAM_STATUS_SELF_REFRESH = true ∧
      PartsKept [.free, .regs, .mram, .memo, .clk, .sup] s u) ∧
    Completes (.arbiterEvaluate fixedMw powerMw ctl bg t) s (fun u => (∃ x w, u = throttle x w ∧ w.reg Reg.POWER_MEAS = powerMw.toNat ∧
      w.sup.fixedMw = fixedMw.toNat ∧ w.sup.arbAt = m.now ∧ (s.flag Reg.SUP_STATUS F.SUP_STATUS_TJ_HOT = true → x = 0x3E)) ∧
      PartsKept [.now, .free, .regs, .mem, .lanes, .words, .filt, .memo, .recs, .sup] s u) ∧
    (∀ (avail per : Rat) r, 0 ≤ avail → 0 < per → tokensFor avail per r ≤ r ∧ (tokensFor avail per r : Rat) * per ≤ avail) ∧
    (∀ (a b : Rat) x, 0 < a → 0 < b → 1 ≤ x → x ≤ 5 → min (s.rankMost x) (listGet 0 bg (5 - x)) ≠ 0 → bit (s.grantBackground bg 0 a b) x = true) ∧
    (s.phase ≠ .running ∨ t < s.sup.vidAt + Sys2Proof.ms 1 → Completes (.vidStep t) s (· = s)) ∧
    (may → v < s.reg Reg.VDD_FLOOR → v + 10 ≤ s.reg Reg.VDD_MAX → Completes (.vidStep t) s (moved (v + 10))) ∧
    (may → s.reg Reg.VDD_MAX < v → Completes (.vidStep t) s (moved (v - 10))) ∧
    (may → s.reg Reg.VDD_FLOOR ≤ v → v + 10 ≤ s.reg Reg.VDD_MAX → target < step → Completes (.vidStep t) s (moved (v + 10))) ∧
    (may → v ≤ s.reg Reg.VDD_MAX → s.reg Reg.VDD_MAX < v + 10 → target < step → Completes (.vidStep t) s fun u =>
      u.flag Reg.SUP_STATUS F.SUP_STATUS_GUARD_LOST = true ∧ (s.reg Reg.STEP_SLOW * 100 < step → u.flag Reg.SUP_STATUS F.SUP_STATUS_SLOW_CORNER = true) ∧
        RegsKept [Reg.SUP_STATUS] s u ∧ PartsKept [.now, .regs, .sup] s u) ∧
    (may → s.reg Reg.VDD_FLOOR ≤ v ∨ s.reg Reg.VDD_MAX < v + 10 → v ≤ s.reg Reg.VDD_MAX → step ≤ target →
      let low := sinceWhen s.sup.lowSince m.now (decide (step * 100 < target * 95))
      (heldFor low (sec 10) m.now = true → s.reg Reg.VDD_FLOOR + 10 ≤ v → Completes (.vidStep t) s (moved (v - 10))) ∧
      (heldFor low (sec 10) m.now = false ∨ v < s.reg Reg.VDD_FLOOR + 10 → Completes (.vidStep t) s (· = { m with sup := { m.sup with lowSince := low } })))

/-- In-service test, supplies, die temperature, rings, margins, ageing, re-planning (R397, R398, R401, R402, R404, R406, R407, R408,
R409, R410, R411, R413). -/
def Obligations.TestsAndMonitors : Prop :=
  ∀ (s : State) (r : IstStep) (item : Fin 4) (p : Fin 5) (i : Fin 6) (k : Fin 64) (mv mv2 margin : BitVec 16) (step : BitVec 16 × BitVec 16) (tj loss : List (BitVec 16))
    (mask : BitVec 64) (droops : List (Option Nat)) (t : Instant),
    let m := s.advance t
    let lim := s.sreg 16 Reg.TJ_HOT
    ((∀ x, s.istRuns x = false) → Completes (.istStep r) s (· = s)) ∧
    Completes (.istStep .abandoned) s (· = s) ∧
    (s.istRuns p = true → Completes (.istStep (.pass p)) s fun u => tabGet 0 u.sup.istAt p = s.now ∧ RegsKept [Reg.IST_PASS p] s u ∧
      PartsKept [.free, .regs, .sup] s u) ∧
    (∀ (a : Nat) (n : Fin 65), s.istRuns 0 = true → s.reg Reg.IST_SRAM_LO ≠ 0 → s.reg Reg.IST_SRAM_LO ≤ a → a + n ≤ s.reg Reg.IST_SRAM_HI →
      s.memCode a = some 0 → (∃ y, s.memSpan a = some y ∧ a + n ≤ y.2) → Completes (.istStep (.march a n none)) s fun u => (∀ x, x < a ∨ a + n ≤ x → memByte u.mem x = memByte s.mem x) ∧
        (∀ x, x < a ∨ a + n ≤ x → u.eccAt x = s.eccAt x) ∧ PartsKept [.free, .mem, .memo] s u) ∧
    (∀ (e : Fin 16) (g : Fin 64), s.istRuns 1 = true → s.enginePower e = true → (s.engine e).inCycle = false →
      Completes (.istStep (.segment e g false)) s fun u => (u.engine e).selftest = true ∧ tabGet false u.sup.segBad (64 * e.val + g) = false ∧
        PartsKept [.engines, .sup] s u) ∧
    (s.istRuns 3 = true → s.mode = mARMED → s.laneState k = laneLive → (s.lane k).checkLeft = 0 → Completes (.istStep (.gateCheck k)) s fun u =>
      (u.lane k).checkLeft = 1024 ∧ (∀ j, j ≠ k.val → u.lane j = s.lane j) ∧ PartsKept [.lanes] s u) ∧
    (∀ a, s.istRuns 0 = true → s.sup.spareRows.contains a = false → Completes (.istStep (.spareRow a true)) s fun u =>
      u.sup.spareRows = a :: s.sup.spareRows ∧ u.reg Reg.IST_FAIL_ADDR = a % 2 ^ 40 ∧ u.flag Reg.SUP_STATUS F.SUP_STATUS_IST_FAIL = true) ∧
    (∀ (e : Fin 16) (g : Fin 64) (bad : Bool), let was := tabGet false s.sup.segBad (64 * e.val + g)
      (s.istRuns 1 = true → s.enginePower e = true → (s.engine e).inCycle = false → Completes (.istStep (.segment e g bad)) s fun u =>
        (u.engine e).selftest = true ∧ tabGet false u.sup.segBad (64 * e.val + g) = bad ∧
          (bad = true → was = true → u.regBit Reg.ST_FAILED e = true ∧ u.flag Reg.SUP_STATUS F.SUP_STATUS_IST_FAIL = true)) ∧
      (s.enginePower e = false ∨ (s.engine e).inCycle = true → Completes (.istStep (.segment e g bad)) s (· = s))) ∧
    (∀ (a x : Nat) (n : Fin 65), s.istRuns 0 = true → s.reg Reg.IST_SRAM_LO ≠ 0 → s.reg Reg.IST_SRAM_LO ≤ a → a + n ≤ s.reg Reg.IST_SRAM_HI →
      s.memCode a = some 0 → (∃ y, s.memSpan a = some y ∧ a + n ≤ y.2) → Completes (.istStep (.march a n (some x))) s fun u => u.reg Reg.IST_FAIL_ADDR = x % 2 ^ 40 ∧
        u.flag Reg.SUP_STATUS F.SUP_STATUS_IST_FAIL = true ∧ ∀ y, y < a ∨ a + n ≤ y → memByte u.mem y = memByte s.mem y) ∧
    (∀ (q : Fin 17) (e : Nat), s.istRuns 2 = true → s.sliceState q ≠ sliceOff → s.sliceState q ≠ sliceRetired →
      (e ≤ 8 → Completes (.istStep (.slice q e)) s fun u => tabGet 0 u.adc.testFails q = 0 ∧ PartsKept [.adc] s u) ∧
      (8 < e → Completes (.istStep (.slice q e)) s fun u => tabGet 0 u.adc.testFails q = tabGet 0 s.adc.testFails q + 1 ∧
        u.flag Reg.SUP_STATUS F.SUP_STATUS_IST_FAIL = true ∧ (1 ≤ tabGet 0 s.adc.testFails q → u.sliceState q = sliceRetired))) ∧
    (∀ (q : Fin 17) (e : Nat), s.sliceState q = sliceOff ∨ s.sliceState q = sliceRetired → Completes (.istStep (.slice q e)) s (· = s)) ∧
    (s.mode ≠ mARMED ∨ s.laneState k ≠ laneLive ∨ (s.lane k).checkLeft ≠ 0 → Completes (.istStep (.gateCheck k)) s (· = s)) ∧
    (s.regBit Reg.IST_EN item = true → t < tabGet 0 s.sup.istAt item + sec (s.reg Reg.IST_PERIOD) → Completes (.istPeriodExpiry item t) s (· = s)) ∧
    (s.regBit Reg.IST_EN item = true → tabGet 0 s.sup.istAt item + sec (s.reg Reg.IST_PERIOD) ≤ t → Completes (.istPeriodExpiry item t) s fun u =>
      u.flag Reg.SUP_STATUS F.SUP_STATUS_IST_LATE = true ∧ RegsKept [Reg.SUP_STATUS] s u ∧ PartsKept [.now, .regs] s u) ∧
    (s.regBit Reg.IST_EN item = false → Completes (.istPeriodExpiry item t) s (· = s)) ∧
    (i.val ≠ 4 → bit s.sup.supOut i = false → s.supplyOk i mv.toNat mv2.toNat = false → Completes (.supplySample i mv mv2 t) s fun u =>
      u.reg (Reg.SUPPLY_MEAS i) = mv.toNat ∧
        (tabGet 0 s.sup.supRun i < 15 → bit u.sup.supOut i = false ∧ tabGet 0 u.sup.supRun i = tabGet 0 s.sup.supRun i + 1 ∧
          RegsKept [Reg.SUPPLY_MEAS i] s u) ∧
        (15 ≤ tabGet 0 s.sup.supRun i → bit u.sup.supOut i = true ∧ u.flag Reg.SUP_STATUS F.SUP_STATUS_SUPPLY_WARN = true)) ∧
    (i.val ≠ 4 → bit s.sup.supOut i = false → s.supplyOk i mv.toNat mv2.toNat = true → Completes (.supplySample i mv mv2 t) s fun u =>
      tabGet 0 u.sup.supRun i = 0 ∧ u.sup.supOut = s.sup.supOut ∧ RegsKept [Reg.SUPPLY_MEAS i] s u ∧ PartsKept [.now, .regs, .sup] s u) ∧
    (let out := !s.supplyOk i mv.toNat mv2.toNat
      let was := bit s.sup.supOut i
      let c := if out = was then 0 else tabGet 0 s.sup.supRun i + 1
      Completes (.supplySample i mv mv2 t) s fun u => (i.val ≠ 4 → u.reg (Reg.SUPPLY_MEAS i) = mv.toNat) ∧
        (i.val = 4 → u.reg (Reg.SUPPLY_MEAS i) = mv.toNat ∨ u.reg (Reg.SUPPLY_MEAS i) = mv2.toNat) ∧
        (c < 16 → tabGet 0 u.sup.supRun i = c ∧ u.sup.supOut = s.sup.supOut ∧ RegsKept [Reg.SUPPLY_MEAS i] s u) ∧
        (16 ≤ c → tabGet 0 u.sup.supRun i = 0 ∧ bit u.sup.supOut i = out ∧ (out = true → u.flag Reg.SUP_STATUS F.SUP_STATUS_SUPPLY_WARN = true))) ∧
    (tj.length = 8 → Completes (.tjSample tj) s fun u => (∀ j, j < 8 → u.reg (Reg.TJ j) = (listGet 0#16 tj j).toNat) ∧
      u.flag Reg.SUP_STATUS F.SUP_STATUS_TJ_HOT = (if ∃ x ∈ tj, lim < x.toInt then true else if ∀ x ∈ tj, x.toInt ≤ lim - 50 then false
        else s.flag Reg.SUP_STATUS F.SUP_STATUS_TJ_HOT) ∧ RegsKept (Reg.SUP_STATUS :: (List.range 8).map Reg.TJ) s u ∧ PartsKept [.regs] s u) ∧
    (tj.length ≠ 8 → Completes (.tjSample tj) s (· = s)) ∧
    (loss.length = 5 → Completes (.ringMeasure loss step t) s fun u => (∀ j, j < 5 → u.reg (Reg.RING_LOSS j) = (listGet 0#16 loss j).toNat) ∧
      (s.regBit Reg.PD_ON 3 = true → step.1.toNat ≤ u.stepMeas) ∧ (s.regBit Reg.PD_ON 4 = true → step.2.toNat ≤ u.stepMeas) ∧
      (s.regBit Reg.PD_ON 3 = true → s.regBit Reg.PD_ON 4 = true → s.sup.steps = [] → u.stepMeas = max step.1.toNat step.2.toNat) ∧
      RegsKept ((List.range 5).map Reg.RING_LOSS) s u ∧ PartsKept [.now, .regs, .sup] s u) ∧
    (s.regBit Reg.PD_ON 3 = false → s.regBit Reg.PD_ON 4 = false → s.stepMeas = 0) ∧
    (loss.length ≠ 5 → Completes (.ringMeasure loss step t) s (· = s)) ∧
    Completes (.mramMarginCheck margin [] t) s (· = m.setReg Reg.MRAM_MARGIN margin.toNat) ∧
    (∀ l, s.reg Reg.WL_RETIRED < 256 → Completes (.mramMarginCheck margin [l] t) s fun u => u.reg Reg.WL_RETIRED = s.reg Reg.WL_RETIRED + 1 ∧
      u.reg Reg.MRAM_MARGIN = margin.toNat ∧ u.flag Reg.J_STATUS F.J_STATUS_ONE_COPY = true) ∧
    (∀ l, 256 ≤ s.reg Reg.WL_RETIRED → retireLine l s = s) ∧
    (∀ ls, Completes (.mramMarginCheck margin ls t) s (· = (m.setReg Reg.MRAM_MARGIN margin.toNat).forEach ls retireLine)) ∧
    Completes (.thermalEstimate t) s (· = m.forEach (List.range 64) thermalStep) ∧
    Completes (.thermalEstimate t) s (fun u => PartsKept [.now, .free, .regs, .sup] s u ∧
      ∀ j, j < 64 → s.monitored j = false → u.mod j = s.mod j ∧ u.reg (Reg.LIFE_USED j) = s.reg (Reg.LIFE_USED j)) ∧
    (s.driftDue k t = true → Completes (.dvdtDriftTest k t) s fun u => (u.mod k).toSend = 64 ∧ (u.mod k).toReport = 64 ∧
      (u.mod k).testAt = some m.now ∧ (u.mod k).base = (s.mod k).base ∧ PartsKept [.now, .sup] s u) ∧
    (s.driftDue k t = false → Completes (.dvdtDriftTest k t) s (· = s)) ∧
    Completes (.modBaseline mask) s (fun u => PartsKept [.regs, .sup] s u ∧ ∀ j, j < 64 →
      (mask.getLsbD j = true → (u.mod j).base = none ∧ (u.mod j).dvdt = none ∧ (u.mod j).bins = [] ∧ (u.mod j).life = 0 ∧ u.reg (Reg.LIFE_USED j) = 0) ∧
      (mask.getLsbD j = false → u.mod j = s.mod j ∧ u.reg (Reg.LIFE_USED j) = s.reg (Reg.LIFE_USED j))) ∧
    Completes (.replanEvaluate droops t) s (fun u => u = replan droops m ∧ PartsKept [.now, .free, .regs, .lanes, .law, .mram, .sup, .pair, .outs] s u) ∧
    (s.reg Reg.REPLAN_EN = 0 → replan droops s = ageReport s) ∧
    (∀ x, 0 ≤ s.ageA x ∧ s.ageA x ≤ 1) ∧
    (∀ x, x ≠ 5 → s.reg Reg.VDD_FLOOR ≤ (planGuard x s).reg Reg.VDD_FLOOR) ∧
    (∀ x, s.reg Reg.FSW_FLOOR ≤ (planFsw x s).reg Reg.FSW_CEIL)

/-- NDP requests, sessions, the journal, writes of the dictionary and their checks (R346, R347, R356, R357, R358, R359, R360, R363,
13_object_dictionary.md, Table 13-3, 13_object_dictionary.md, Table 13-6). -/
def Obligations.JournalAndNdp : Prop :=
  ∀ (s : State) (port : Fin 10) (l : List (BitVec 8)) (eth : EthIn) (id : BitVec 32) (idx : BitVec 16) (sub : BitVec 8) (val : BitVec 64) (t : Instant),
    let f := rxFrame port l
    let q := ndpReach port eth f.length (s.advance t)
    let op := fieldOf f 3 1
    let pl := ndpPayload f
    let sid := fieldOf f 8 4
    let seq := fieldOf f 12 4
    let v := touchSession port sid (ndpTake port (ndpFrom port eth q.2))
    let handled : Prop := ndpFrameOk f = true ∧ q.1 = true ∧ q.2.rateFull port = false
    let k := idx.toNat * 256 + sub.toNat
    let len := match objAt k with
      | some o => tyBits o.ty / 8
      | none => 0
    let shown (p : Nat) (st : Nat) (x : List Byte) (u : State) : Prop := 
      u.outs = (ndpSend p (tabGet (0, 0) s.net.peer p) (ndpFrame (op + 0x80) st 0 sid seq x) s).outs
    (∀ p to_ b, (p < 4 → ndpSend p to_ b s = ethSend p (fun r h => .ndp r h to_ b) s) ∧
      (4 ≤ p → p ≠ 8 → ndpSend p to_ b s = s.emit (.ndp p {} (0, 0) b)) ∧ ndpSend 8 to_ b s = s.emit (.ndp 8 {} (0, 0) (svcEncode b))) ∧
    (∀ b, rxFrame 8 (svcEncode b) = b) ∧
    (∀ p, p ≠ 8 → rxFrame p l = l) ∧
    (∀ p n e, 4 ≤ p → p < 8 → ndpReach p e n s = (false, s)) ∧
    (∀ p n e, p < 4 → 1522 < n + s.ipOverhead e ∨ e.udp.fragment = true → (ndpReach p e n s).1 = false) ∧
    (∀ p x, (tabGet (0, 0) (ndpFrom p x s).net.peer p) = (x.udp.src.toNat, x.udp.port.toNat)) ∧
    (∀ x ∈ [(0x01, Instr.ndpRead port l eth t), (0x02, .ndpWrite port l eth t), (0x10, .openSession port l eth t), (0x11, .closeSession port l eth t),
        (0x20, .ndpPdo port l eth t)], op = x.1 →
      (handled → Completes x.2 s (· = ndpOp x.1 port f v)) ∧ (ndpFrameOk f = true → q.1 = false → Completes x.2 s (· = q.2)) ∧
      (ndpFrameOk f = false ∨ q.1 = true ∧ q.2.rateFull port = true → Completes x.2 s (· = s))) ∧
    (op ∉ [1, 2, 0x10, 0x11, 0x20] → handled → Completes (.ndpRead port l eth t) s (· = ndpAnswer port f stMalformed 0 [] v)) ∧
    (∀ p, (p = 8 → s.net.svc = true) → ∀ o, objAt (fieldOf pl 0 2 * 256 + fieldOf pl 2 1) = some o → o.acc ≠ .wo → pl.length = 4 → headerBad f = false → fieldOf pl 3 1 = 0 →
      shown p 0 (valueBytes o.ty (s.readVal (fieldOf pl 0 2 * 256 + fieldOf pl 2 1))) (ndpReadOp p f s)) ∧
    (∀ p, (p = 8 → s.net.svc = true) → objAt (fieldOf pl 0 2 * 256 + fieldOf pl 2 1) = none → pl.length = 4 → shown p 1 [] (ndpReadOp p f s)) ∧
    (∀ p x, s.session p sid = some x → seq ≠ 0 → seq ≤ x.last → (ndpWriteOp p f s).mram = s.mram ∧ (ndpWriteOp p f s).reg Reg.J_REPLAYS = s.reg Reg.J_REPLAYS + 1) ∧
    (∀ p x, let w := fieldOf pl 0 2 * 256 + fieldOf pl 2 1
      let a := ofBytes (pl.drop 4)
      (4 ≤ pl.length → s.writeCheck p w (pl.length - 4) a ≠ stOK → (ndpWriteNew p f sid seq x s).mram = s.mram) ∧
      (∀ y, x = some y → 4 ≤ pl.length → s.writeCheck p w (pl.length - 4) a = stOK → journaled w = true → seq = y.last + 1 → headerBad f = false →
        fieldOf pl 3 1 = 0 → s.mirrors = false → let u := ndpWriteNew p f sid seq x s
          (u.session p sid).map (·.last) = some seq ∧ u.reg Reg.J_COMMITTED = s.reg Reg.J_COMMITTED + 1 ∧
          ∃ i ∈ u.mram.journal, i.port = p ∧ i.session = sid ∧ i.seq = seq ∧ i.obj = w ∧ i.val = a ∧ i.result = none ∧ i.unacked = false)) ∧
    (∀ p, s.session p sid = none → sid ≠ 0 → headerBad f = false → pl = [] →
      (s.sessionsOf p < 16 → (ndpOpenOp p f s).session p sid = some ⟨p, sid, 0, s.now⟩) ∧ (16 ≤ s.sessionsOf p → (ndpOpenOp p f s).mram = s.mram)) ∧
    (∀ p, sid ≠ 0 → s.session p sid ≠ none → headerBad f = false → pl = [] → (ndpCloseOp p f s).session p sid = none) ∧
    (q.1 = true → ndpFrameOk f = false ∨ q.2.rateFull port = true → Completes (.ndpFrameDiscard port l eth t) s (· = q.2.bump (Reg.RX_DROPPED port))) ∧
    (q.1 = false → ndpFrameOk f = false ∨ q.2.rateFull port = true → Completes (.ndpFrameDiscard port l eth t) s (· = q.2)) ∧
    (ndpFrameOk f = true → q.2.rateFull port = false → Completes (.ndpFrameDiscard port l eth t) s (· = s)) ∧
    (∀ x, s.session port id.toNat = some x → x.at_ + sec (s.reg Reg.SESSION_TO) ≤ t → Completes (.sessionExpiry port id t) s fun u =>
      u.session port id.toNat = none ∧ (∀ y ∈ u.mram.sessions, y ∈ s.mram.sessions) ∧
        (∀ i ∈ s.mram.journal, i.result = none → i.void = false → i ∈ u.mram.journal) ∧ PartsKept [.now, .mram] s u) ∧
    (s.session port id.toNat = none ∨ (∀ x, s.session port id.toNat = some x → t < x.at_ + sec (s.reg Reg.SESSION_TO)) →
      Completes (.sessionExpiry port id t) s (· = s)) ∧
    (s.portOpen port = false ∨ k = Reg.PATCH_RESTART → Completes (.registerWrite port idx sub val) s (· = s)) ∧
    (s.portOpen port = true → k ≠ Reg.PATCH_RESTART → s.writeCheck port k len val.toNat ≠ stOK → Completes (.registerWrite port idx sub val) s
      (· = (refusedWrite (s.writeCheck port k len val.toNat) k val.toNat s).bump (Reg.REFUSED port))) ∧
    (∀ st w a, (st ≠ stState → refusedWrite st w a s = s) ∧ (refusedWrite st w a s).mram = s.mram) ∧
    (∀ o, s.portOpen port = true → k ≠ Reg.PATCH_RESTART → s.writeCheck port k len val.toNat = stOK → objAt k = some o → o.acc ≠ .rws →
      Completes (.registerWrite port idx sub val) s (· = (dictAct k val.toNat false s).1)) ∧
    (∀ o, s.portOpen port = true → k ≠ Reg.PATCH_RESTART → s.writeCheck port k len val.toNat = stOK → objAt k = some o → o.acc = .rws →
      Completes (.registerWrite port idx sub val) s (· = stored k val.toNat (dictAct k val.toNat false s))) ∧
    (objAt k = none → ∀ n x, s.writeCheck port k n x = stNoObject) ∧
    (∀ o n x, objAt k = some o → (o.acc = .ro ∨ o.acc = .const → s.writeCheck port k n x = stAccess) ∧
      (o.acc ≠ .ro → o.acc ≠ .const → (s.portLevel port < writeLevel k → s.writeCheck port k n x = stLevel) ∧
        (s.levelOk port k x = true → (8 * n ≠ tyBits o.ty → s.writeCheck port k n x = stLength) ∧
          (8 * n = tyBits o.ty → valueOk k x = false → s.writeCheck port k n x = stRange))))

/-- CANopen: SDO, PDOs, SYNC, heartbeat, NMT, bus-off (R352, R353, R354, R355, R360, 13_object_dictionary.md, Table 13-8). -/
def Obligations.CanOpen : Prop :=
  ∀ (s : State) (can : Fin 4) (client : BitVec 7) (idx : BitVec 16) (sub : BitVec 8) (data : List (BitVec 8)) (ext : Bool) (id : BitVec 29) (i : Fin 16)
    (cmd node : BitVec 8) (t : Instant),
    let m := s.advance t
    let c := client.toNat
    let k := idx.toNat * 256 + sub.toNat
    let w := sdoTake can c t s
    let off : Prop := s.sdoOn can = false
    let rx := tabGet {} s.net.rpdos i.val
    let tx := s.tpdo can i
    let due (x : Nat) : Prop := (s.tpdoBytes i ≠ (s.tpdo x i).last ∨ s.reg (Reg.TPDO_TIMER i) ≠ 0 ∧
        ∀ a, (s.tpdo x i).at_ = some a → a + Sys2Proof.ms (s.reg (Reg.TPDO_TIMER i)) ≤ t) ∧
      ∀ a, (s.tpdo x i).at_ = some a → a + us (100 * s.reg (Reg.TPDO_INHIBIT i)) ≤ t
    (off → Completes (.sdoRead can client idx sub t) s (· = s) ∧ Completes (.sdoWrite can client idx sub data t) s (· = s)) ∧
    (∀ o, s.sdoOn can = true → objAt k = some o → o.acc ≠ .wo → Completes (.sdoRead can client idx sub t) s fun u =>
      u.outs = .sdo can c k 0 (valueBytes o.ty (w.readVal k)) :: s.outs ∧ PartsKept [.now, .free, .regs, .mram, .outs] s u) ∧
    (s.sdoOn can = true → objAt k = none → Completes (.sdoRead can client idx sub t) s fun u => (∃ e, u.outs = .sdo can c k e [] :: s.outs ∧
      (e = 0x06020000 ∨ e = 0x06090011)) ∧ PartsKept [.now, .free, .regs, .mram, .outs] s u) ∧
    (∀ o, s.sdoOn can = true → objAt k = some o → o.acc = .wo → Completes (.sdoRead can client idx sub t) s fun u =>
      (∃ e, u.outs = .sdo can c k e [] :: s.outs) ∧ PartsKept [.now, .free, .regs, .mram, .outs] s u) ∧
    (s.sdoOn can = true → Completes (.sdoWrite can client idx sub data t) s (· = sdoWrite can c k data w)) ∧
    (∀ j o, s.sdoRepeat can c k (ofBytes data) = some j → journaled k = true → objAt k = some o → 8 * data.length = tyBits o.ty →
      (sdoWrite can c k data s).mram = s.mram ∧ (sdoWrite can c k data s).reg Reg.J_REPLAYS = s.reg Reg.J_REPLAYS + 1) ∧
    (∀ p v, s.writeCheck p k data.length v ≠ stOK → (sdoWriteNew can c k data v p s).mram = s.mram) ∧
    (∀ p v x, s.session p c = some x → s.writeCheck p k data.length v = stOK → journaled k = true → s.mirrors = false →
      ((sdoWriteNew can c k data v p s).session p c).map (·.last) = some (x.last + 1) ∧
        (sdoWriteNew can c k data v p s).outs = .sdo can c k 0 [] :: s.outs) ∧
    (s.pdoOn can = false → Completes (.rpdo can ext id data t) s (· = s) ∧ Completes (.canSync can t) s (· = s)) ∧
    (s.pdoOn can = true → Completes (.rpdo can ext id data t) s (· = m.forEach
      ((List.range 16).filter fun j => m.carries can j (m.reg (Reg.RPDO_COBID j)) && cobIs (m.reg (Reg.RPDO_COBID j)) ext id.toNat)
      fun j r => rpdoFrame can j data r)) ∧
    (s.phase ≠ .running ∨ s.reg (Reg.RPDO_TIMER i) = 0 ∨ s.regBit (Reg.RPDO_COBID i) 31 = true ∨
      t < rx.at_.getD s.bootInfo.bootAt + Sys2Proof.ms (s.reg (Reg.RPDO_TIMER i)) → Completes (.rpdoLate i t) s (· = s)) ∧
    (s.pdoOn can = true → (∀ j, j < 16 → (s.carries can j (s.reg (Reg.RPDO_COBID j)) && cobIs (s.reg (Reg.RPDO_COBID j)) ext id.toNat) = (j == i.val)) →
      Completes (.rpdo can ext id data t) s (· = rpdoFrame can i data m)) ∧
    (∀ ty, ty = s.reg (Reg.RPDO_TYPE i) → (data.length < entriesLen (s.rpdoEntries i) → rpdoFrame can i data s = s) ∧
      (entriesLen (s.rpdoEntries i) ≤ data.length → 1 ≤ ty → ty ≤ 240 → tabGet {} (rpdoFrame can i data s).net.rpdos i.val =
        { rx with at_ := some s.now, held := some data, waits := setBit rx.waits can true } ∧ RegsKept [Reg.RPDO_STATUS i] s (rpdoFrame can i data s)) ∧
      (entriesLen (s.rpdoEntries i) ≤ data.length → 240 < ty → rpdoFrame can i data s = rpdoApply i data (rpdoSeen i data s))) ∧
    (tabGet {} (rpdoSeen i data s).net.rpdos i.val = { rx with at_ := some s.now, held := rx.held.map fun _ => data }) ∧
    (∀ d, rx.held = some d → (bit rx.waits can = true → ∃ r, syncRpdo can i s = rpdoApply i d r ∧ PartsKept [.net] s r ∧
        bit (tabGet {} r.net.rpdos i.val).waits can = false) ∧ (bit rx.waits can = false → syncRpdo can i s = s)) ∧
    (s.phase = .running → s.reg (Reg.RPDO_TIMER i) ≠ 0 → s.regBit (Reg.RPDO_COBID i) 31 = false →
      rx.at_.getD s.bootInfo.bootAt + Sys2Proof.ms (s.reg (Reg.RPDO_TIMER i)) ≤ t → Completes (.rpdoLate i t) s fun u =>
        u.fld (Reg.RPDO_STATUS i) ⟨0, 1⟩ = 1 ∧ RegsKept [Reg.RPDO_STATUS i] s u ∧ PartsKept [.now, .regs] s u) ∧
    (can.val ∈ s.tpdoCans i → 0xFE ≤ s.reg (Reg.TPDO_TYPE i) → due can → Completes (.tpdoSend i t) s fun u => (u.tpdo can i).at_ = some m.now ∧
      (u.tpdo can i).last = m.tpdoBytes i ∧ u.outs.length = s.outs.length + ((s.tpdoCans i).filter fun x => s.tpdoDue i x t).length ∧
      (∀ x, x < 4 → ¬due x → u.tpdo x i = s.tpdo x i) ∧ PartsKept [.now, .net, .outs] s u) ∧
    (s.reg (Reg.TPDO_TYPE i) < 0xFE ∨ (∀ x ∈ s.tpdoCans i, ¬due x) → Completes (.tpdoSend i t) s (· = s)) ∧
    (s.pdoOn can = true → Completes (.canSync can t) s (· =
      (m.forEach ((List.range 16).filter fun j => m.carries can j (m.reg (Reg.RPDO_COBID j))) (syncRpdo can) |> fun r =>
        r.forEach ((List.range 16).filter fun j => r.carries can (16 + j) (r.reg (Reg.TPDO_COBID j))) (syncTpdo can)))) ∧
    (1 ≤ s.reg (Reg.TPDO_TYPE i) → s.reg (Reg.TPDO_TYPE i) ≤ 240 →
      (tx.syncs + 1 < s.reg (Reg.TPDO_TYPE i) → ((syncTpdo can i s).tpdo can i).syncs = tx.syncs + 1 ∧ (syncTpdo can i s).outs = s.outs) ∧
      (s.reg (Reg.TPDO_TYPE i) ≤ tx.syncs + 1 → ((syncTpdo can i s).tpdo can i).syncs = 0 ∧ (syncTpdo can i s).outs.length = s.outs.length + 1)) ∧
    (s.portOpen (4 + can) = true → s.canOn can = true → s.reg Reg.HEARTBEAT_MS ≠ 0 → (s.can can).hbAt + Sys2Proof.ms (s.reg Reg.HEARTBEAT_MS) ≤ t →
      Completes (.heartbeatProduce can t) s fun u => u.outs = .can can (0x700 + s.nodeId can) [nmtByte (s.reg (Reg.CAN_STATE can))] :: s.outs ∧
        (u.can can).hbAt = m.now ∧ PartsKept [.now, .net, .outs] s u) ∧
    (s.portOpen (4 + can) = false ∨ s.canOn can = false ∨ s.reg Reg.HEARTBEAT_MS = 0 ∨ t < (s.can can).hbAt + Sys2Proof.ms (s.reg Reg.HEARTBEAT_MS) →
      Completes (.heartbeatProduce can t) s (· = s)) ∧
    (s.phase ≠ .running ∨ s.canOn can = false → Completes (.busOff can t) s (· = s)) ∧
    (∀ x ∈ [Instr.nmtResetNode can node t, .nmtResetCommunication can node t],
      (s.nmtFor can node.toNat = true → fget F.CAN_CFG_EN (s.reg (Reg.CAN_CFG can)) = 0 → Completes x s fun u => u.reg (Reg.CAN_STATE can) = 0 ∧
        (u.can can).cfg = s.reg (Reg.CAN_CFG can) ∧ (∀ j, j < 16 → u.tpdo can j = {}) ∧ u.outs = s.outs ∧ RegsKept [Reg.CAN_STATE can] s u ∧ PartsKept [.now, .regs, .net] s u) ∧
      (s.nmtFor can node.toNat = false → Completes x s (· = s)) ∧
      (s.nmtFor can node.toNat = true → fget F.CAN_CFG_EN (s.reg (Reg.CAN_CFG can)) = 1 → Completes x s fun u => u.reg (Reg.CAN_STATE can) = 1 ∧
        (u.can can).cfg = s.reg (Reg.CAN_CFG can) ∧ u.outs = .can can (0x700 + fget F.CAN_CFG_NODE_ID (s.reg (Reg.CAN_CFG can))) [0] :: s.outs ∧
        RegsKept [Reg.CAN_STATE can] s u ∧ PartsKept [.now, .regs, .net, .outs] s u)) ∧
    (∀ x ∈ [(1#8, 2), (2#8, 3), (128#8, 1)], s.nmtFor can node.toNat = true → Completes (.nmtStateCommand can x.1 node t) s
      (· = m.setReg (Reg.CAN_STATE can) x.2)) ∧
    (s.nmtFor can node.toNat = false ∨ cmd ∉ [1#8, 2#8, 128#8] → Completes (.nmtStateCommand can cmd node t) s (· = s)) ∧
    (s.phase = .running → s.canOn can = true → Completes (.busOff can t) s fun u => (u.can can).busOff = true ∧ u.canOn can = false ∧
      (u.can can).offAt = m.now ∧ u.reg (Reg.CAN_STATE can) = 0 ∧ PartsKept [.now, .regs, .net] s u) ∧
    ((s.can can).busOff = true → (s.can can).offAt + s.busOffTime can ≤ t → Completes (.busOffRestart can t) s fun u => (u.can can).busOff = false ∧
      (u.can can).cfg = (s.can can).cfg ∧ (∀ j, j < 16 → u.tpdo can j = {}) ∧ u.reg (Reg.CAN_STATE can) = 1 ∧
      u.outs = .can can (0x700 + s.nodeId can) [0] :: s.outs ∧ PartsKept [.now, .free, .regs, .net, .outs] s u) ∧
    ((s.can can).busOff = false ∨ t < (s.can can).offAt + s.busOffTime can → Completes (.busOffRestart can t) s (· = s)) ∧
    (∀ p d, s.session p c = none → d ∈ s.mram.deltas → d.port = p → d.session = c → d.jseq ≤ s.sdoLast p c)

/-- The service port, REDUND, BEHAVIOUR_LEVEL, ARP, ICMP, PRP supervision, HSR ring frames (R348, R364, R365, R366, R432,
13_object_dictionary.md, Table 13-10). -/
def Obligations.EthernetAndService : Prop :=
  ∀ (s : State) (port : Fin 4) (arrival : Fin 2) (v : BitVec 8) (target senderIp dst sip : BitVec 32) (sender src : BitVec 48) (seq : BitVec 16)
    (fragment : Bool) (data : List (BitVec 8)) (eth : EthIn) (t : Instant),
    let m := s.advance t
    let q := portIn port eth m
    let long : Prop := 1522 < data.length + q.2.ipOverhead eth
    let tag (p : Nat) := if fget F.ETH_CFG_VID (s.ethNow p 3) = 0 then 0 else fget F.ETH_CFG_PCP (s.ethNow p 3) * 8192 + fget F.ETH_CFG_VID (s.ethNow p 3)
    let run : Prop := s.onTick t = true ∧ max s.net.svcAt s.bootInfo.bootAt + Sys2Proof.ms 10 ≤ t
    (∀ p g, s.reg Reg.REDUND = 0 ∨ 2 ≤ p → ethSend p g s = s.emit (g p ⟨tag p, none⟩)) ∧
    (∀ p g, s.reg Reg.REDUND ≠ 0 → p < 2 → (ethSend p g s).outs = g 1 ⟨tag p, some s.net.redSeq⟩ :: g 0 ⟨tag p, some s.net.redSeq⟩ :: s.outs ∧
      (ethSend p g s).net = { s.net with redSeq := (s.net.redSeq + 1) % 65536 } ∧ PartsKept [.net, .outs] s (ethSend p g s)) ∧
    (s.net.svc = true → run → Completes (.serviceEnFall t) s fun u => u.net = { s.net with svc := false, svcAt := m.now } ∧ (∀ x ∈ u.mram.sessions, x.port ≠ 8 ∧ x ∈ s.mram.sessions) ∧
      (∀ x ∈ s.mram.sessions, x.port ≠ 8 → x ∈ u.mram.sessions) ∧ (∀ i ∈ s.mram.journal, i.result = none → i.void = false → i ∈ u.mram.journal) ∧
      PartsKept [.now, .mram, .net] s u) ∧
    (s.net.svc = false ∨ ¬run → Completes (.serviceEnFall t) s (· = s)) ∧
    (s.phase = .running → s.net.svc = false → run → Completes (.serviceEnRise t) s fun u => u.net = { s.net with svc := true, svcAt := m.now } ∧ u.now = m.now ∧ PartsKept [.now, .net] s u) ∧
    (s.phase ≠ .running ∨ s.net.svc = true ∨ ¬run → Completes (.serviceEnRise t) s (· = s)) ∧
    (valueOk Reg.REDUND v.toNat = false ∨ v.toNat ≠ s.reg Reg.REDUND ∧ s.mode ≠ mBASECAMP → Completes (.redundWrite v) s (· = s)) ∧
    (valueOk Reg.REDUND v.toNat = true → v.toNat ≠ s.reg Reg.REDUND → s.mode = mBASECAMP → Completes (.redundWrite v) s fun u =>
      u.reg Reg.REDUND = v.toNat ∧ u.net.dups = [] ∧ u.net.redSeq = 0 ∧ u.net.supAt = s.now ∧ PartsKept [.regs, .mram, .net] s u) ∧
    (valueOk Reg.REDUND v.toNat = true → v.toNat = s.reg Reg.REDUND → Completes (.redundWrite v) s fun u => u.reg Reg.REDUND = v.toNat ∧ u.net = s.net ∧
      PartsKept [.regs, .mram] s u) ∧
    (valueOk Reg.BEHAVIOUR_LEVEL v.toNat = true → s.inBase = true → s.reg Reg.PAIR_EN = 0 → Completes (.behaviourLevelWrite v) s
      (· = s.setReg Reg.BEHAVIOUR_LEVEL v.toNat)) ∧
    (valueOk Reg.BEHAVIOUR_LEVEL v.toNat = false ∨ s.inBase = false ∨ s.reg Reg.PAIR_EN ≠ 0 → Completes (.behaviourLevelWrite v) s (· = s)) ∧
    (q.1 = false → Completes (.arpRequest port target sender senderIp eth t) s (· = q.2) ∧
      Completes (.icmpEchoRequest port dst sip fragment data eth t) s (· = q.2)) ∧
    (q.1 = true → target.toNat = q.2.ethNow port 0 → Completes (.arpRequest port target sender senderIp eth t) s fun u =>
      u = ethSend port (fun p h => .eth p 0 h [q.2.ethMac port, target.toNat, sender.toNat, senderIp.toNat]) q.2 ∧ PartsKept [.now, .free, .regs, .net, .outs] s u) ∧
    (q.1 = true → target.toNat ≠ q.2.ethNow port 0 → Completes (.arpRequest port target sender senderIp eth t) s (· = q.2)) ∧
    (q.1 = true → fragment = false → ¬long → dst.toNat = q.2.ethNow port 0 → Completes (.icmpEchoRequest port dst sip fragment data eth t) s fun u =>
      u = ethSend port (fun p h => .eth p 1 h (dst.toNat :: sip.toNat :: data.map (·.toNat))) q.2 ∧ PartsKept [.now, .free, .regs, .net, .outs] s u) ∧
    (q.1 = true → fragment = true ∨ long ∨ dst.toNat ≠ q.2.ethNow port 0 → Completes (.icmpEchoRequest port dst sip fragment data eth t) s (· = q.2)) ∧
    (s.reg Reg.REDUND ≠ 0 → s.portOpen 0 = true → s.net.supAt + Sys2Proof.ms 2000 ≤ t → Completes (.prpSupervisionSend t) s fun u =>
      u.outs = .eth 1 2 ⟨tag 0, some s.net.redSeq⟩ [s.reg Reg.REDUND, s.net.redSeq] ::
          .eth 0 2 ⟨tag 0, some s.net.redSeq⟩ [s.reg Reg.REDUND, s.net.redSeq] :: s.outs ∧ u.net.supAt = m.now ∧
        u.net.redSeq = (s.net.redSeq + 1) % 65536 ∧ PartsKept [.now, .net, .outs] s u) ∧
    (s.reg Reg.REDUND = 0 ∨ s.portOpen 0 = false ∨ t < s.net.supAt + Sys2Proof.ms 2000 → Completes (.prpSupervisionSend t) s (· = s)) ∧
    (s.reg Reg.REDUND ≠ 2 ∨ s.portOpen 0 = false ∨ fget F.ETH_CFG_EN (s.ethNow 0 3) = 0 → Completes (.hsrRingFrame arrival src seq data t) s (· = s)) ∧
    (s.reg Reg.REDUND = 2 → s.portOpen 0 = true → fget F.ETH_CFG_EN (s.ethNow 0 3) ≠ 0 → let r := dupForget (linkSeen arrival m)
      (src.toNat = s.ethMac 0 → Completes (.hsrRingFrame arrival src seq data t) s fun u => u = r ∧ u.outs = s.outs) ∧
      (src.toNat ≠ s.ethMac 0 → r.net.dups.find? (fun d => d.src == src.toNat && d.seq == seq.toNat) = none →
        Completes (.hsrRingFrame arrival src seq data t) s fun u =>
          u.outs = .eth (1 - arrival.val) 3 ⟨0, some seq.toNat⟩ (src.toNat :: seq.toNat :: data.map (·.toNat)) :: s.outs ∧
          u.net.dups.head? = some ⟨src.toNat, seq.toNat, m.now, setBit 0 arrival true⟩) ∧
      (∀ d, src.toNat ≠ s.ethMac 0 → r.net.dups.find? (fun d => d.src == src.toNat && d.seq == seq.toNat) = some d → bit d.lans arrival = true →
        Completes (.hsrRingFrame arrival src seq data t) s fun u => u = r.bump Reg.DUP_DISCARD ∧ u.outs = s.outs) ∧
      (∀ d, src.toNat ≠ s.ethMac 0 → r.net.dups.find? (fun d => d.src == src.toNat && d.seq == seq.toNat) = some d → bit d.lans arrival = false →
        Completes (.hsrRingFrame arrival src seq data t) s fun u =>
          u.outs = .eth (1 - arrival.val) 3 ⟨0, some seq.toNat⟩ (src.toNat :: seq.toNat :: data.map (·.toNat)) :: s.outs ∧
          u.net.dups = r.net.dups.map fun e => if e.src == src.toNat && e.seq == seq.toNat then { e with lans := setBit e.lans arrival true } else e))

/-- Resets, release, restart, standby and wake (R324, R329, R391, R392, R400, R401, R403, R421, R422, R430, R432,
16_startup_and_persistence.md, Table 16-1). -/
def Obligations.ResetsAndStartup : Prop :=
  ∀ (s : State) (start : StartIn) (rtc : Bool) (x : BitVec 5) (l : List (BitVec 5)) (t : Instant),
    let m := s.advance t
    let resets (ph : Phase) (cause : Nat) (u : State) : Prop := u.phase = ph ∧ u.bootInfo.cause = cause ∧ u.holds = false ∧ u.outs = s.outs ∧
      (∀ k, u.reg k = if keptReg k then s.reg k else objReset k) ∧ (∀ a, memByte u.mem a = if keptByte a then memByte s.mem a else 0) ∧
      u.mram = { s.mram with compactAt := none } ∧ u.engines = [] ∧ u.lanes = [] ∧ u.now = m.now
    let up (u : State) : Prop := u.flag Reg.DEVICE_STATUS F.DEVICE_STATUS_BOOT_DONE = true ∧ u.flag Reg.J_STATUS F.J_STATUS_READY = true
    let reached := s.reg Reg.WAKE_TIME * 32768 / 1000000000 ≤ s.rtcTicks t
    let fell (u : State) : Prop := u.bootInfo.fellAt = some (t - us 1)
    (s.phase = .reset → Completes (.rstNReset t) s (· = s)) ∧
    (∀ y, s.phase = .reset → s.bootInfo.fellAt = some y → s.now ≤ t → t < y + us 2 → Completes (.vddUndervoltageReset t) s fun u =>
      u.memo = { s.memo with kept := false } ∧ PartsKept [.now, .memo] s u) ∧
    (s.phase = .reset → t < s.now ∨ (∀ y, s.bootInfo.fellAt = some y → y + us 2 ≤ t) → Completes (.vddUndervoltageReset t) s (· = s)) ∧
    (s.phase = .standby → Completes (.rstNReset t) s (fun u => resets .reset 0 u ∧ fell u) ∧ Completes (.vddUndervoltageReset t) s (· = s)) ∧
    (s.phase = .running ∨ s.phase = .halted → Completes (.rstNReset t) s (fun u => resets .reset 1 u ∧ fell u) ∧ Completes (.vddUndervoltageReset t) s (resets .reset 0)) ∧
    (s.phase ≠ .running ∨ s.flag Reg.DRAM_STATUS F.DRAM_STATUS_SELF_REFRESH = true → Completes (.vddqLoss t) s fun u => u.memo = { s.memo with kept := false } ∧
      PartsKept [.now, .memo] s u) ∧
    (s.phase = .running → s.flag Reg.DRAM_STATUS F.DRAM_STATUS_SELF_REFRESH = false → Completes (.vddqLoss t) s (· = s)) ∧
    (s.phase ≠ .reset → Completes (.resetRelease start) s (· = s)) ∧
    (s.phase = .reset → start.romOk = false → Completes (.resetRelease start) s fun u => u.phase = .halted ∧
      u.reg Reg.RESET_CAUSE = s.bootInfo.cause ∧ s.now ≤ u.now ∧ u.now ≤ s.now + Sys2Proof.ms 80) ∧
    (s.phase = .reset → start.romOk = true → Completes (.resetRelease start) s up) ∧
    (timeZero s).time64 = 0 ∧
    (l ≠ [] → (∀ y ∈ l, y = x) → (bootStraps l s).reg Reg.STRAPS = x.toNat ∧ (bootStraps l s).flag Reg.SUP_STATUS F.SUP_STATUS_STRAP_UNSTABLE = false ∧
      (bootStraps l s).reg Reg.BEHAVIOUR_LEVEL = (if x.toNat / 4 % 4 = 0 then 0 else 1) ∧ (bootStraps l s).bootInfo.idUnstable = false) ∧
    (s.mode ≠ mBASECAMP → Completes (.patchRestart start) s (· = s)) ∧
    (s.mode = mBASECAMP → start.romOk = true → Completes (.patchRestart start) s up) ∧
    (s.mode = mBASECAMP → start.romOk = false → Completes (.patchRestart start) s fun u => u.phase = .halted ∧ u.reg Reg.RESET_CAUSE = 1) ∧
    (∀ a, s.sup.standbyAt = some a → t ≤ a + Sys2Proof.ms 2 → s.mode = mBASECAMP → Completes (.standbyComplete t) s fun u => u.phase = .standby ∧ u.reg Reg.PD_ON = 1 ∧
      u.reg Reg.WAKE_CFG = s.reg Reg.WAKE_CFG ∧ u.reg Reg.WAKE_TIME = s.reg Reg.WAKE_TIME ∧ u.clk.rtc = s.clk.rtc ∧ u.clk.rtcAt = s.clk.rtcAt ∧
      (∀ b, memByte u.mem b = if keptByte b then memByte s.mem b else 0)) ∧
    (s.sup.standbyAt = none ∨ (∀ a, s.sup.standbyAt = some a → a + Sys2Proof.ms 2 < t) ∨ s.mode ≠ mBASECAMP →
      Completes (.standbyComplete t) s (· = s)) ∧
    (s.phase = .standby → s.regBit Reg.WAKE_CFG (b2n rtc) = true → (rtc = true → reached) → s.now ≤ t → start.romOk = false →
      Completes (.wake rtc start t) s fun u => u.phase = .halted ∧ u.reg Reg.RESET_CAUSE = 2 ∧ u.reg Reg.WAKE_CAUSE = (if rtc then 2 else 1)) ∧
    (s.phase = .standby → s.regBit Reg.WAKE_CFG (b2n rtc) = true → (rtc = true → reached) → s.now ≤ t → start.romOk = true →
      Completes (.wake rtc start t) s fun u => u.reg Reg.WAKE_CAUSE = (if rtc then 2 else 1) ∧ u.tf F.TIME_FLAGS_RTC_LOADED = true ∧ up u) ∧
    (s.phase ≠ .standby ∨ s.regBit Reg.WAKE_CFG (b2n rtc) = false ∨ rtc = true ∧ ¬reached ∨ t < s.now → Completes (.wake rtc start t) s (· = s))

/-- Application of items, lockstep mismatches, blocks that complete, factory reset (R25, R30, R31, R32, R359, R361, R403, R420,
R426, R427, R428, 01_architecture.md, Table 1-7). -/
def Obligations.JournalWorkAndBlocks : Prop :=
  ∀ (s : State) (start : StartIn) (port : Fin 10) (b : Block) (n : Fin 8) (k : Fin 64) (e : Fin 16) (r : Fin 4) (f : Fin 40) (t : Instant),
    let m := s.advance t
    let runs : Prop := s.phase = .running ∧ s.net.scbAt = none
    let rws (i : JItem) : Prop := ∃ o, objAt i.obj = some o ∧ o.acc = .rws
    (s.phase ≠ .running ∨ s.net.scbAt ≠ none → Completes (.journalApply start t) s (· = s) ∧ Completes (.scbLockstepMismatch t) s (· = s)) ∧
    (runs → s.bootInfo.restart = false → s.oldestItem = none → Completes (.journalApply start t) s (· = m)) ∧
    (∀ i, runs → s.bootInfo.restart = false → s.oldestItem = some i → rws i → s.logFull = true → Completes (.journalApply start t) s (· = m)) ∧
    (∀ i, runs → s.bootInfo.restart = false → s.oldestItem = some i → (rws i → s.logFull = false) → (applyItem i false m).bootInfo.restart = false →
      Completes (.journalApply start t) s (· = applyItem i false m)) ∧
    (runs → s.bootInfo.restart = true ∨ (∃ i, s.oldestItem = some i ∧ (rws i → s.logFull = false) ∧ (applyItem i false m).bootInfo.restart = true) →
      (start.romOk = true → Completes (.journalApply start t) s fun u => u.flag Reg.DEVICE_STATUS F.DEVICE_STATUS_BOOT_DONE = true) ∧
      (start.romOk = false → Completes (.journalApply start t) s fun u => u.phase = .halted ∧ u.reg Reg.RESET_CAUSE = 1)) ∧
    (∀ i, s.mirrors = false → s.deltaOf i = true → (applyItem i true s).mram.applied = s.mram.applied + 1 ∧ (applyItem i true s).mram.deltas = s.mram.deltas ∧
      RegsKept [Reg.J_PENDING] s (applyItem i true s) ∧ PartsKept [.regs, .mram] s (applyItem i true s)) ∧
    (∀ i r, let w := mapItem i.port i.session i.seq (fun y => { y with result := some r }) s
      (s.mirrors = true → resultOut i r s = belaySend 0x10 [noteResult, i.port, i.session, i.seq, r] w) ∧ (s.mirrors = false → resultOut i r s = w)) ∧
    (∀ i re, s.mirrors = false → re = false ∨ s.deltaOf i = false → rws i → s.rwsLocked = true → PartsKept [.regs, .mram] s (applyItem i re s) ∧
      ∀ x ∈ (applyItem i re s).mram.journal, x.port = i.port → x.session = i.session → x.seq = i.seq → x.void = false → x.result = some stState) ∧
    (runs → Completes (.scbLockstepMismatch t) s fun u => u.reg Reg.RESET_CAUSE = 4 ∧ u.net.scbAt = some m.now ∧ u.clk.ofs = none ∧
      (∀ p, u.portOpen p = false) ∧ (∀ i ∈ u.mram.journal, i.unacked = false) ∧ PartsKept [.now, .free, .regs, .mram, .clk, .ptp, .net] s u) ∧
    (s.net.scbAt = none → Completes (.scbResume t) s (· = s)) ∧
    (∀ a, s.net.scbAt = some a → a + Sys2Proof.ms 50 < t → Completes (.scbResume t) s (· = s)) ∧
    (∀ a, s.net.scbAt = some a → t ≤ a + Sys2Proof.ms 50 → Completes (.scbResume t) s (· = (m.setNet { m.net with scbAt := none }).forEach s.mram.journal
      fun _ r => if r.bootInfo.restart then r else applyOldest r)) ∧
    (∀ a, s.net.scbAt = some a → t ≤ a + Sys2Proof.ms 50 → s.oldestItem = none → Completes (.scbResume t) s fun u => u.net.scbAt = none ∧
      u.now = m.now ∧ PartsKept [.now, .net] s u) ∧
    (s.phase ≠ .running → Completes (.scaLockstepMismatch t) s (· = s)) ∧
    (s.phase = .running → s.mode ≠ mBASECAMP → Completes (.scaLockstepMismatch t) s (Enters mBASECAMP 22 s)) ∧
    (s.phase = .running → s.mode = mBASECAMP → Completes (.scaLockstepMismatch t) s fun u => u.reg Reg.RESET_CAUSE = 3 ∧ u.arming = none ∧
      (s.arming.isSome = true → u.reg Reg.MODE_CMD = 3 ∧ u.reg Reg.CMD_REFUSAL = 11) ∧
      ∀ j, j < 64 → s.laneState j = laneLive → (u.lane j).offUntil = some (m.now + us 4)) ∧
    Completes (.blockShutdownComplete b t) s (· = blockOff b m) ∧
    Completes (.blockStartupComplete b t) s (· = blockOn b m) ∧
    ((s.engine e).stopping = true → (s.engine e).inCycle = false → (s.engine e).pendEnable = false → Completes (.blockShutdownComplete (.engine e) t) s fun u =>
      (u.engine e).stopping = false ∧ u.reg (Reg.ENABLE e) = 0 ∧ RegsKept [Reg.ENABLE e] s u ∧ PartsKept [.now, .regs, .engines] s u) ∧
    ((s.engine e).inCycle = true → Completes (.blockShutdownComplete (.engine e) t) s (· = m)) ∧
    ((s.ld n).stopping = true → s.flag (Reg.LD_STATUS n) F.LD_STATUS_PENDING_ENABLE = false → Completes (.blockShutdownComplete (.localDriver n) t) s fun u =>
      (u.ld n).stopping = false ∧ (u.ld n).run = (s.ld n).run ∧ RegsKept [Reg.LD_STATUS n] s u ∧ PartsKept [.now, .regs, .lds] s u) ∧
    (s.laneState k = laneStopping → s.flag (Reg.GL_STATUS k) F.GL_STATUS_PENDING_ENABLE = false → Completes (.blockShutdownComplete (.gateLink k) t) s fun u =>
      u.laneState k = laneOff ∧ RegsKept [Reg.GL_STATUS k, Reg.LANES_LIVE] s u ∧ PartsKept [.now, .regs] s u) ∧
    ((s.rc r).stopping = true → s.flag (Reg.RC_STATUS r) F.RC_STATUS_PENDING_ENABLE = false → Completes (.blockShutdownComplete (.recorder r) t) s fun u =>
      (u.rc r).stopping = false ∧ u.rcState r = 0 ∧ RegsKept [Reg.RC_STATUS r] s u ∧ PartsKept [.now, .regs, .recs] s u) ∧
    ((s.engine e).stopping = false ∧ b = .engine e ∨ (s.ld n).stopping = false ∧ b = .localDriver n ∨ s.laneState k ≠ laneStopping ∧ b = .gateLink k ∨
        (s.rc r).stopping = false ∧ b = .recorder r ∨ s.adc.stopping = false ∧ b = .adc → Completes (.blockShutdownComplete b t) s (· = m)) ∧
    ((s.fl f).busy ≠ none → Completes (.blockShutdownComplete (.filterLane f) t) s (· = m)) ∧
    (s.adcBusy = true → Completes (.blockShutdownComplete .adc t) s (· = m)) ∧
    (b = .engine e ∨ b = .recorder r → Completes (.blockStartupComplete b t) s (· = m)) ∧
    (s.laneState k = laneStarting → (s.lane k).pendDisable = true → Completes (.blockStartupComplete (.gateLink k) t) s fun u => u.laneState k = laneStopping) ∧
    ((s.ld n).pendDisable = true → (s.ld n).run = true → s.flag (Reg.LD_STATUS n) F.LD_STATUS_BST_WAIT = false →
      Completes (.blockStartupComplete (.localDriver n) t) s fun u => (u.ld n).run = false ∧ (u.ld n).stopping = true ∧ (u.ld n).high.on = false ∧
        (u.ld n).low.on = false ∧ RegsKept [Reg.LD_STATUS n] s u ∧ PartsKept [.now, .regs, .lds] s u) ∧
    (∀ x ∈ [(Instr.factoryReset port, 1, false), (.factoryResetFull port, 2, true)],
      (s.portOpen port = false → Completes x.1 s (· = s)) ∧
      (s.portOpen port = true → s.levelOk port Reg.FACTORY_RESET x.2.1 = false → Completes x.1 s (· = s.bump (Reg.REFUSED port))) ∧
      (s.portOpen port = true → s.levelOk port Reg.FACTORY_RESET x.2.1 = true → s.inBase = false → Completes x.1 s (· = s.setReg Reg.FACTORY_RESET 3)) ∧
      (s.portOpen port = true → s.levelOk port Reg.FACTORY_RESET x.2.1 = true → s.inBase = true → Completes x.1 s fun u => u.reg Reg.FACTORY_RESET = 2 ∧
        u.law.active = [] ∧ (x.2.2 = true → u.mram.hasImage = [] ∧ u.mram.codes = [])))

/-- The belay link, forming and joining a pair, time transfer, state vectors (R367, R368, R369, R375, R378, R380, 14_duplex_pair.md,
Table 14-1, 14_duplex_pair.md, Table 14-4). -/
def Obligations.PairFormationAndJoin : Prop :=
  ∀ (s : State) (lane : Fin 2) (q : BitVec 32) (part : JoinPart) (vec : StateVec) (frame : List (BitVec 8)) (o : Int) (x : TimeIn) (cause : BitVec 8)
    (jport : Fin 10) (ses seq : BitVec 32) (num : BitVec 16) (differ sw lvl en : Bool) (t : Instant),
    let m := s.advance t
    let seen := belaySeen lane m
    let v := seen.setPair { seen.pair with seqs := (q.toNat :: seen.pair.seqs).take 64 }
    let fresh : Prop := s.belayOn = true ∧ s.pair.seqs.contains q.toNat = false ∧ s.paired = true
    let idBad := !differ || s.bootInfo.idUnstable
    let verBad := !(sw && lvl)
    (∀ c ∈ [Instr.partnerJoin lane q part t, .partnerTime lane q x t, .jAck lane q jport ses seq t, .jVoid lane q jport ses seq t,
        .partnerDict lane q frame t, .partnerStateVector lane q vec t, .partnerFault lane q cause t, .partnerBaton lane q num en t],
      (s.belayOn = false → Completes c s (· = s)) ∧ (s.belayOn = true → s.pair.seqs.contains q.toNat = true → Completes c s (· = seen)) ∧
      (s.belayOn = true → s.pair.seqs.contains q.toNat = false → s.paired = false → Completes c s (· = v))) ∧
    (seen.ps (blUp lane) = true ∧ RegsKept [Reg.PAIR_STATUS] s seen ∧ PartsKept [.now, .regs, .pair] s seen) ∧
    (s.paired = false → Completes (.pairFormation differ sw lvl en t) s (· = s)) ∧
    (s.paired = true → Completes (.pairFormation differ sw lvl en t) s (· = pairFormation differ sw lvl en m)) ∧
    (s.paired = true → s.pairState ≠ pWAITING ∨ s.linkUp = false → Completes (.pairFormation differ sw lvl en t) s (· = m)) ∧
    (s.paired = true → s.pairState = pWAITING → s.linkUp = true → en = false ∨ idBad = true ∨ verBad = true →
      Completes (.pairFormation differ sw lvl en t) s fun u => u.pairState = pWAITING ∧
        (idBad = true ∨ verBad = true → u.ps F.PAIR_STATUS_ID_CLASH = idBad ∧ u.ps F.PAIR_STATUS_VERSION_CLASH = verBad) ∧
        (idBad = false → verBad = false → u.ps F.PAIR_STATUS_ID_CLASH = !u.ps F.PAIR_STATUS_VERSION_CLASH) ∧ u.pair.peerOk = false ∧
        RegsKept [Reg.PAIR_STATUS] s u ∧ PartsKept [.now, .free, .regs, .pair] s u) ∧
    (∀ b, s.paired = true → s.pairState = pWAITING → s.linkUp = true → en = true → differ = true → sw = true → lvl = true → s.bootInfo.idUnstable = false →
      s.holds = false → s.pair.beat = some b → s.ps F.PAIR_STATUS_PARTNER_ALIVE = true → bit b.flags 15 = true →
      Completes (.pairFormation differ sw lvl en t) s fun u => u.pairState = pJOINING ∧ u.ps F.PAIR_STATUS_ID_CLASH = false ∧ u.pair.joinAt = m.now ∧
        u.pair.joined = 0 ∧ RegsKept [Reg.PAIR_STATUS] s u) ∧
    (s.ps (blUp lane) = false ∨ t < tabGet 0 s.pair.laneAt lane + us 10 → Completes (.belayLaneDown lane t) s (· = s)) ∧
    (s.ps (blUp lane) = true → tabGet 0 s.pair.laneAt lane + us 10 ≤ t → Completes (.belayLaneDown lane t) s fun u => u.ps (blUp lane) = false ∧
      (∀ j : Fin 2, j ≠ lane → u.ps (blUp j) = s.ps (blUp j) ∧
        (s.ps (blUp j) = true → u.pair = s.pair) ∧ (s.ps (blUp j) = false → u.pair.downSince = m.now ∧ u.pair.peerOk = false ∧ (s.pairState = pJOINING → u.pairState = pWAITING))) ∧
      RegsKept [Reg.PAIR_STATUS, Reg.BL_DOWN lane] s u) ∧
    (s.belayOn = false → Completes (.belayLaneUp lane t) s (· = s)) ∧
    (s.belayOn = true → s.paired = false ∨ s.pairState ≠ pWAITING → Completes (.belayLaneUp lane t) s (· = seen)) ∧
    (s.belayOn = true → s.paired = true → Completes (.belayLaneUp lane t) s (· = formPair seen)) ∧
    (fresh → s.pairState ≠ pJOINING ∨ s.joinTurn (joinStep part) = false → Completes (.partnerJoin lane q part t) s (· = v)) ∧
    (fresh → s.pairState = pJOINING → s.joinTurn (joinStep part) = true → Completes (.partnerJoin lane q part t) s
      (· = refreshPending (joinPart part v))) ∧
    (∀ n, s.joinTurn n = true ↔ s.tf F.TIME_FLAGS_STEPPED = true ∧ (∀ i, 1 ≤ i → i < n → bit s.pair.joined i = true) ∧ bit s.pair.joined n = false) ∧
    (∀ (mask : BitVec 16) a n, mask.getLsbD n = true → (s.carrier n).running = false →
      ((joinPart (.carriers mask a) s).carrier n).startAt = some (s.ofShared a)) ∧
    (joinSend s).outs.length = s.outs.length + s.joinParts.length ∧
    PartsKept [.free, .pair, .outs] s (joinSend s) ∧
    ((joinPart .configEnd s).mram.journal = [] ∧ (joinPart .configEnd s).mram.sessions = [] ∧ bit (joinPart .configEnd s).pair.joined 1 = true ∧
      bit (joinPart .carriersEnd s).pair.joined 3 = true ∧ PartsKept [.pair] s (joinPart .carriersEnd s)) ∧
    (s.pairState = pJOINING → s.pair.joined / 2 % 16 = 15 → s.tf F.TIME_FLAGS_STEPPED = true → (∃ a, s.pair.errSince = some a ∧ a + Sys2Proof.ms 100 ≤ t) →
      Completes (.joinComplete t) s fun u => u.pairState = pSTANDBY ∧ u.ps F.PAIR_STATUS_SYNCED = true ∧ u.ps F.PAIR_STATUS_DIVERGED = false) ∧
    (s.pairState ≠ pJOINING ∨ s.pair.joined / 2 % 16 ≠ 15 ∨ s.tf F.TIME_FLAGS_STEPPED = false ∨
      (∀ a, s.pair.errSince = some a → t < a + Sys2Proof.ms 100) → Completes (.joinComplete t) s (· = s)) ∧
    (fresh → Completes (.partnerTime lane q x t) s (· = partnerTime x v)) ∧
    (x.rx = none ∨ s.pair.timeTx = none → partnerTime x s = s.setPair { s.pair with timeRx := some s.belayStamp }) ∧
    (∀ r3 t3, x.rx = some r3 → s.pair.timeTx = some t3 → let u := s.setPair { s.pair with timeRx := some s.belayStamp, timeTx := none };
      (s.holds = true ∨ s.pairState = pWAITING → partnerTime x s = u) ∧
      (s.holds = false → s.pairState ≠ pWAITING → partnerTime x s = pairOffset (((s.belayStamp - x.tx) - (r3 - t3)) / 2) u)) ∧
    (let u := pairOffset o s;
      u.ps F.PAIR_STATUS_TIME_OK = decide (o.natAbs ≤ 65536) ∧ u.clk.ofs = some o ∧ u.clk.ofsAt = some s.now ∧
        u.pair.errSince = (if o.natAbs ≤ 65536 then some (s.pair.errSince.getD s.now) else none) ∧ PartsKept [.free, .regs, .clk, .pair] s u) ∧
    (s.belayOn = true → s.paired = true → s.linkUp = true → s.pair.timeAt + Sys2Proof.ms 1 ≤ t → Completes (.timeExchangeSend t) s fun u =>
      (∃ b, u.outs = .belay 0x30 (s.pair.sendSeq :: m.belayStamp.toNat :: b) m.now :: s.outs ∧ (∀ r3, s.pair.timeRx = some r3 → b = [1, r3.toNat]) ∧
        (s.pair.timeRx = none → b = [0, 0])) ∧ u.pair.timeAt = m.now ∧ u.pair.timeTx = some m.belayStamp ∧
        u.pair.sendSeq = (s.pair.sendSeq + 1) % 2 ^ 32 ∧ PartsKept [.now, .pair, .outs] s u) ∧
    (s.belayOn = false ∨ s.paired = false ∨ s.linkUp = false ∨ t < s.pair.timeAt + Sys2Proof.ms 1 → Completes (.timeExchangeSend t) s (· = s)) ∧
    (fresh → s.pairState = pJOINING ∧ (s.joinTurn 4 = true ∨ bit s.pair.joined 4 = true) ∨ s.pairState = pSTANDBY →
      (s.mode ≠ mBASECAMP → Completes (.partnerStateVector lane q vec t) s (· = v.setPair { v.pair with vec := some vec })) ∧
      (s.mode = mBASECAMP → Completes (.partnerStateVector lane q vec t) s (· = vectorDue (v.setPair { v.pair with vec := some vec })))) ∧
    (fresh → s.pairState ≠ pSTANDBY → s.pairState ≠ pJOINING ∨ s.joinTurn 4 = false ∧ bit s.pair.joined 4 = false → Completes (.partnerStateVector lane q vec t) s (· = v)) ∧
    (fresh → 0x80 ≤ fieldOf frame 3 1 → Completes (.partnerDict lane q frame t) s (· = v)) ∧
    (fresh → fieldOf frame 3 1 < 0x80 → Completes (.partnerDict lane q frame t) s (· = partnerDict frame v))

/-- The mirrored journal, heartbeats, faults, takeover, baton numbers, solo work (R371, R372, R373, R374, R376, R379, R381, R382,
R383, R386, 14_duplex_pair.md, Table 14-3). -/
def Obligations.MirrorBatonAndTakeover : Prop :=
  ∀ (s : State) (lane : Fin 2) (q : BitVec 32) (frame : List (BitVec 8)) (cause : BitVec 8) (jport : Fin 10) (ses seq : BitVec 32)
    (idx num : BitVec 16) (sub : BitVec 8) (val : BitVec 64) (ok : Bool) (t : Instant),
    let m := s.advance t
    let seen := belaySeen lane m
    let v := seen.setPair { seen.pair with seqs := (q.toNat :: seen.pair.seqs).take 64 }
    let fresh : Prop := s.belayOn = true ∧ s.pair.seqs.contains q.toNat = false ∧ s.paired = true
    let mine (i : JItem) : Prop := i.port = jport.val ∧ i.session = ses.toNat ∧ i.seq = seq.toNat
    let missed : Prop := s.paired = true ∧ s.pairState ≠ pSINGLE ∧ s.reg Reg.HB_MISS_N ≤ s.pair.missed
    let wait := Sys2Proof.ms (s.reg Reg.PARTNER_WAIT) * (1 + s.duplexId)
    let bseq := ofBytes (slice frame 4 4).reverse
    let dead := if s.ps F.PAIR_STATUS_PARTNER_ALIVE then (m.setPs F.PAIR_STATUS_PARTNER_ALIVE false).setPair { m.pair with deadAt := m.now } else m
    let alone : Prop := s.phase = .running ∧ s.paired = true ∧ s.pairState = pWAITING ∧ s.linkUp = false ∧ s.reg Reg.SOLO_ALLOW = 1 ∧
      s.bootInfo.idUnstable = false ∧ s.pair.downSince + wait ≤ t ∧ ∀ a, s.pair.batonSeen = some a → a + wait ≤ t
    let solo : Prop := s.paired = true ∧ s.holds = true ∧ s.reg Reg.SOLO_ALLOW = 1 ∧ s.ps F.PAIR_STATUS_PARTNER_ALIVE = false ∧
      s.pair.deadAt + sec (s.reg Reg.SOLO_DELAY) ≤ t
    (∀ rec, s.belayOn = false → Completes (.jItem lane q jport ses seq idx sub val rec t) s (· = s)) ∧
    (∀ rec, fresh → s.holds = true → Completes (.jItem lane q jport ses seq idx sub val rec t) s (· = v)) ∧
    (fresh → s.holds = false → s.pairState = pSTANDBY → Completes (.jItem lane q jport ses seq idx sub val none t) s fun u =>
      u.outs = .belay 0x11 [s.pair.sendSeq, jport, ses.toNat, seq.toNat] m.now :: s.outs ∧ u.reg Reg.J_COMMITTED = s.reg Reg.J_COMMITTED + 1 ∧
        ∃ i ∈ u.mram.journal, mine i ∧ i.obj = idx.toNat * 256 + sub.toNat ∧ i.val = val.toNat ∧ i.mirror = true ∧ i.result = none) ∧
    (∀ rec, fresh → Completes (.jItem lane q jport ses seq idx sub val rec t) s
      (· = jItemIn jport ses.toNat seq.toNat (idx.toNat * 256 + sub.toNat) val.toNat rec v)) ∧
    (∀ a b c d, s.holds = false → s.pairState = pSTANDBY → jItemIn jport ses.toNat seq.toNat 0 0 (some (noteResult, [a, b, c, d])) s =
      mapItem a b c (fun y => { y with told := some d }) s) ∧
    (∀ i d, s.mram.journal.find? JItem.waitsMirror = some i → i.told = some d → let rws : Prop := ∃ o, objAt i.obj = some o ∧ o.acc = .rws;
      (d ≠ stOK ∨ ¬rws → PartsKept [.regs, .mram] s (applyMirrored s) ∧ ∀ y ∈ (applyMirrored s).mram.journal,
        y.port = i.port → y.session = i.session → y.seq = i.seq → y.void = false → y.result = some d) ∧
      (d = stOK → rws → ∃ w, applyMirrored s = addDelta ⟨w.mram.deltaSeq + 1, i.obj, i.val, none, i.port, i.session, i.seq⟩ w)) ∧
    (∀ i, fresh → s.mram.item jport ses.toNat seq.toNat = some i →
      (i.unacked = false ∨ i.void = true → Completes (.jAck lane q jport ses seq t) s (· = v)) ∧
      (i.mirror = false ∨ i.result ≠ none → Completes (.jVoid lane q jport ses seq t) s (· = v))) ∧
    (fresh → s.mram.item jport ses.toNat seq.toNat = none → Completes (.jAck lane q jport ses seq t) s (· = v) ∧
      Completes (.jVoid lane q jport ses seq t) s (· = v)) ∧
    (∀ i, fresh → s.mram.item jport ses.toNat seq.toNat = some i → i.unacked = true → i.void = false → Completes (.jAck lane q jport ses seq t) s fun u =>
      (∀ x ∈ u.mram.journal, mine x → x.void = false → x.unacked = false) ∧ PartsKept [.now, .free, .regs, .mram, .pair, .outs] s u) ∧
    (∀ i, fresh → s.mram.item jport ses.toNat seq.toNat = some i → i.mirror = true → i.result = none → Completes (.jVoid lane q jport ses seq t) s fun u =>
      (∀ x ∈ u.mram.journal, mine x → x.void = true) ∧ PartsKept [.now, .regs, .mram, .pair] s u) ∧
    ((∀ i ∈ s.mram.journal, i.unacked = false ∨ i.void = true) → Completes (.jAckTimeout t) s (· = s)) ∧
    (∀ i, s.mram.journal.find? (fun i => i.unacked && !i.void) = some i → t < i.at_ + us 300 → Completes (.jAckTimeout t) s (· = s)) ∧
    (∀ i, s.mram.journal.find? (fun i => i.unacked && !i.void) = some i → i.at_ + us 300 ≤ t → Completes (.jAckTimeout t) s fun u =>
      u.ps F.PAIR_STATUS_MIRROR_LOST = true ∧ u.flag Reg.J_STATUS F.J_STATUS_MIRROR_LOST = true ∧ u.journalBusy = true ∧
        (∀ x ∈ u.mram.journal, x.port = i.port → x.session = i.session → x.seq = i.seq → x.void = true) ∧ PartsKept [.now, .free, .regs, .mram, .pair, .outs] s u) ∧
    (s.belayOn = false → Completes (.partnerHeartbeat lane frame t) s (· = s)) ∧
    (s.belayOn = true → belayFrameOk frame = false → Completes (.partnerHeartbeat lane frame t) s (· = m.bump (Reg.BL_CRC_ERR lane))) ∧
    (s.belayOn = true → belayFrameOk frame = true → let w := seen.setPair { seen.pair with seqs := (bseq :: seen.pair.seqs).take 64 }
      let beat : Prop := fieldOf frame 1 1 = 0x01 ∧ frame.length = 40
      (s.pair.seqs.contains bseq = true → Completes (.partnerHeartbeat lane frame t) s (· = seen)) ∧
      (s.pair.seqs.contains bseq = false → s.paired = false ∨ ¬beat → Completes (.partnerHeartbeat lane frame t) s (· = w)) ∧
      (s.pair.seqs.contains bseq = false → s.paired = true → beat → Completes (.partnerHeartbeat lane frame t) s
        (· = heartbeatIn (beatOf (slice frame 8 28) (w.ps F.PAIR_STATUS_SYNCED)) w))) ∧
    (∀ b, s.holds = true → max b.tx b.known ≤ s.reg Reg.BATON_HELD → s.reg Reg.BATON_HELD ≤ s.reg Reg.BATON_KNOWN → let u := heartbeatIn b s
      u.pair.beat = some b ∧ u.pair.beatSeen = true ∧ u.ps F.PAIR_STATUS_PARTNER_ALIVE = true ∧ u.holds = true ∧
        (bit b.flags 14 = true → u.ps F.PAIR_STATUS_MIRROR_LOST = false ∧ u.ps F.PAIR_STATUS_SOLO = false) ∧
        (b.state = pSTANDBY → bit b.flags 14 = false → u.pair.vecWanted = true) ∧
        (b.state = pJOINING → (∀ y, s.pair.beat = some y → y.state ≠ pJOINING) → s.outs.length < u.outs.length)) ∧
    (fresh → Completes (.partnerFault lane q cause t) s (· = if s.pairState = pSTANDBY then v.setPair { v.pair with fault := some cause.toNat } else v)) ∧
    (¬missed → Completes (.heartbeatMissLimit t) s (· = s)) ∧
    (missed → Completes (.heartbeatMissLimit t) s (· = takeover 1 dead)) ∧
    (∀ b n, missed → s.pairState = pSTANDBY → s.pair.claim = none → s.pair.beat = some b → b.synced = true → s.ps F.PAIR_STATUS_TIME_OK = true →
      s.claimNumber = some n → Completes (.heartbeatMissLimit t) s fun u => u.pair.claim = some ⟨n, 1, m.now⟩ ∧
        u.ps F.PAIR_STATUS_PARTNER_ALIVE = false ∧ RegsKept [Reg.PAIR_STATUS] s u ∧ PartsKept [.now, .regs, .pair] s u) ∧
    (missed → s.pairState = pSTANDBY → s.pair.claim = none → s.ps F.PAIR_STATUS_TIME_OK = false → Completes (.heartbeatMissLimit t) s fun u =>
      u.ps F.PAIR_STATUS_TAKEOVER_BLOCKED = true ∧ u.pair.claim = none ∧ u.ps F.PAIR_STATUS_PARTNER_ALIVE = false ∧ RegsKept [Reg.PAIR_STATUS] s u) ∧
    (∀ renum, fresh → Completes (.partnerBaton lane q num renum t) s (· = batonIn num.toNat renum v)) ∧
    (fresh → s.holds = false → Completes (.partnerBaton lane q num true t) s fun u => u.reg Reg.BATON_KNOWN = num.toNat ∧
      u.reg Reg.BATON_TX = max 1 (num.toNat - 1) ∧ RegsKept (Reg.PAIR_STATUS :: Reg.BATON_KNOWN :: Reg.BATON_TX :: (List.range 64).map Reg.GL_STATUS) s u) ∧
    (fresh → s.holds = false → s.reg Reg.BATON_KNOWN < num.toNat → s.pair.ignore < num.toNat → Completes (.partnerBaton lane q num false t) s fun u =>
      u.reg Reg.BATON_KNOWN = num.toNat ∧ u.reg Reg.BATON_TX = max 1 (num.toNat - 1) ∧ RegsKept (Reg.PAIR_STATUS :: Reg.BATON_KNOWN :: Reg.BATON_TX :: (List.range 64).map Reg.GL_STATUS) s u) ∧
    (fresh → s.holds = true → s.reg Reg.BATON_HELD < num.toNat → s.reg Reg.BATON_KNOWN < num.toNat → s.pair.ignore < num.toNat →
      Completes (.partnerBaton lane q num false t) s fun u => u.reg Reg.BATON_KNOWN = num.toNat ∧
        (s.reg Reg.SWITCHOVER = 1 → u.holds = true) ∧ (s.reg Reg.SWITCHOVER ≠ 1 → u.holds = false ∧ u.ps F.PAIR_STATUS_FENCED = true)) ∧
    ((refreshBatonTx s).ps F.PAIR_STATUS_BATON_EXHAUSTED = s.claimNumber.isNone) ∧
    (s.pair.claim = none → Completes (.batonCommit ok t) s (· = s)) ∧
    (∀ c, s.pair.claim = some c → Completes (.batonCommit false t) s fun u => u.ps F.PAIR_STATUS_BATON_COMMIT_FAIL = true ∧ u.pair.claim = none ∧
      (c.cause = 10 → u.reg Reg.BATON_RENUMBER = 3) ∧ u.holds = false ∧ (s.holds = false → RegsKept [Reg.PAIR_STATUS, Reg.BATON_RENUMBER] s u) ∧
      (s.holds = true → s.paired = true → u.pairState = pWAITING ∧ u.reg Reg.BATON_TX = max 1 (s.reg Reg.BATON_KNOWN - 1))) ∧
    (∀ c, s.pair.claim = some c → Completes (.batonCommit true t) s fun u => u.holds = true ∧ u.reg Reg.BATON_HELD = c.number ∧
      u.reg Reg.BATON_TX = c.number ∧ u.pair.claim = none ∧ u.pairState = (if s.paired then pACTIVE else pSINGLE) ∧
      u.ps F.PAIR_STATUS_FENCED = false ∧ u.ps F.PAIR_STATUS_BATON_COMMIT_FAIL = false ∧ (∀ i ∈ u.mram.journal, i.mirror = false)) ∧
    (∀ n, s.claimNumber = some n → n % 2 = s.duplexId ∧ max 1 (s.reg Reg.BATON_KNOWN) < n ∧ n ≤ max 1 (s.reg Reg.BATON_KNOWN) + 2 ∧ n < 65536) ∧
    (alone → Completes (.soloClaim t) s (· = startClaim 9 m)) ∧
    (∀ n, alone → s.pair.claim = none → s.claimNumber = some n →
      Completes (.soloClaim t) s fun u => u.pair.claim = some ⟨n, 9, m.now⟩ ∧ PartsKept [.now, .pair] s u) ∧
    (¬alone → Completes (.soloClaim t) s (· = s)) ∧
    (solo → Completes (.soloDelayExpiry t) s fun u => u.ps F.PAIR_STATUS_SOLO = true ∧
        u.ps F.PAIR_STATUS_MIRROR_LOST = false ∧ u.flag Reg.J_STATUS F.J_STATUS_MIRROR_LOST = false ∧ RegsKept [Reg.PAIR_STATUS, Reg.J_STATUS] s u) ∧
    (¬solo → Completes (.soloDelayExpiry t) s (· = s))

/-- R58: in a soft stop or in HOLD a BASECAMP command is executed and every other command is refused with code 9 (R58). -/
def Obligations.PolicyRefusesInSoftStopAndHold : Prop :=
  ∀ (s : State) (v : Nat) (seen : Nat × Nat) (rest : List (Nat × Bool × Nat × Nat)),
    s.holds = true → s.arming = none → s.sup.standbyAt = none → s.law.cmds = (v, false, seen) :: rest → (∀ c ∈ rest, c.2.1 = false) →
    s.reg Reg.MODE = 6 ∨ s.ms F.MODE_STATUS_STOPPING = true →
    (v = 0 → (nextCommand s).reg Reg.MODE = 0 ∧ (nextCommand s).reg Reg.MODE_CMD = 2) ∧
    (v ≠ 0 → (nextCommand s).reg Reg.MODE_CMD = 3 ∧ (nextCommand s).reg Reg.CMD_REFUSAL = 9 ∧
      RegsKept [Reg.MODE_CMD, Reg.CMD_REFUSAL] s (nextCommand s) ∧ PartsKept [.regs, .law] s (nextCommand s) ∧
      (nextCommand s).law = { s.law with cmds := rest })

/-- R296: IX_READ copies the index entry of IX_SLOT of IX_INST into IX_DATA, whatever the slot holds; the entry lies in
initialised DRAM, without an error (R296). -/
def Obligations.IxReadCopiesTheIndexEntry : Prop :=
  ∀ (s : State),
    let a := s.reg (Reg.RC_BASE (s.reg Reg.IX_INST)) + 128 * s.reg Reg.IX_SLOT
    0x100000000 ≤ a → s.dmaOk false a (a + 128) = true → s.dramReady (a + 127) = true → (∀ x, s.eccAt x = 0) →
    Completes .ixRead s fun u =>
      (∀ i, i < 32 → u.reg (Reg.IX_DATA i) = s.load 4 (a + 4 * i)) ∧ RegsKept ((List.range 32).map Reg.IX_DATA) s u ∧ PartsKept [.free, .regs] s u

/-- Reset: the canonical forms hold, every object has its reset value, the queue is empty (03_ride_through_and_modes.md, Table 3-1,
10_disturbance_recorder.md, Table 10-6, 13_object_dictionary.md). -/
def Obligations.ResetState : Prop :=
  Inv State.reset ∧ State.reset.pending = [] ∧ State.reset.mem = [] ∧ (∀ k, State.reset.reg k = objReset k) ∧
    State.reset.reg Reg.MODE = 0 ∧ State.reset.reg Reg.MODE_CMD = 0 ∧ State.reset.reg Reg.INNER_RATE = 50000 ∧
    State.reset.reg Reg.OUTER_RATE = 10000 ∧ State.reset.reg Reg.CARRIER_FREQ = 2500 ∧ State.reset.reg Reg.LEAD = 600 ∧
    State.reset.reg Reg.W_MIN = 0x3CCCCCCD ∧ State.reset.reg Reg.W_MAX = 0x43333333 ∧ State.reset.reg Reg.I_LIM = 0x4666 ∧
    State.reset.reg Reg.MISS_M = 5 ∧ State.reset.reg (Reg.V_BASE 0) = 0 ∧ State.reset.reg Reg.TJ_HOT = 1150 ∧ State.reset.reg Reg.VDD_MIN = 650 ∧
    State.reset.reg Reg.CAL_TIME = 20 ∧ State.reset.reg Reg.CAD_EN = 0 ∧ State.reset.reg Reg.PAIR_EN = 0 ∧
    ∀ n : Fin 4, State.reset.reg (Reg.SPER n) = 100000 ∧ State.reset.reg (Reg.RC_CFG n) = 0x00010001 ∧ State.reset.reg (Reg.CUR_SLOT n) = 0xFF

/-- A step runs the command at the front of the queue with its rest; with none, a tick passes and the accesses waiting in the memories proceed (log entry 1)
(01_architecture.md, 95_what_each_step_holds.md). -/
def Obligations.StepTakesTheFront : Prop :=
  ∀ (c : Instr) (q : List Instr) (s : State),
    step { s with pending := c :: q } = exec c { s with pending := q } ∧
    step { s with pending := [] } = .next (memServe { s with pending := [], now := s.now + s.tickLen }) ∧
    (s.memo.held = [] → s.memo.waits = [] → s.idle = { s with now := s.now + s.tickLen })

/-- Every command completes and changes only the parts of the state that its row touches (01_architecture.md, 12_memory_ecc_dma.md). -/
def Obligations.FrameOfEveryCommand : Prop :=
  ∀ (c : Instr) (s : State), Outcome.Keeps (partSet c.touches) s (exec c s)

/-- Every step keeps the canonical forms of memory and dictionary, takes one command, and never runs time or the record of outputs
back (12_memory_ecc_dma.md, 13_object_dictionary.md). -/
def Obligations.StepKeepsTheInvariant : Prop :=
  ∀ (s t : State), Inv s → step s = .next t →
    Inv t ∧ t.pending = s.pending.tail ∧ s.now ≤ t.now ∧ s.outs <:+ t.outs
end

