-- ==== Sys2Proof/Laws/Tab.lean ====
section
/-!
SUPPORT. The sparse tables: reading after writing, and that writing keeps the canonical form.
-/

namespace Sys2Proof.Machine

variable {α : Type}

@[simp] theorem tabGet_nil (d : α) (i : Nat) : tabGet d [] i = d := rfl

theorem tabGet_erase_self (d : α) (t : Tab α) (i : Nat) : tabGet d (tabErase t i) i = d := by
  induction t with
  | nil => rfl
  | cons e t ih => obtain ⟨k, v⟩ := e; by_cases h : k = i <;> simp [tabErase, tabGet, h, ih]

theorem tabGet_erase_other (d : α) (t : Tab α) {i j : Nat} (h : j ≠ i) : tabGet d (tabErase t i) j = tabGet d t j := by
  induction t with
  | nil => rfl
  | cons e t ih =>
    obtain ⟨k, v⟩ := e
    by_cases hk : k = i
    · subst hk; simp [tabErase, tabGet, ih, Ne.symm h]
    · by_cases hj : k = j
      · subst hj; simp [tabErase, tabGet, hk]
      · simp [tabErase, tabGet, hk, hj, ih]

theorem tabGet_insert_self (d : α) (t : Tab α) (i : Nat) (v : α) (h : tabGet d (tabErase t i) i = d) :
    tabGet d (tabInsert (tabErase t i) i v) i = v := by
  clear h
  induction t with
  | nil => simp [tabErase, tabInsert, tabGet]
  | cons e t ih =>
    obtain ⟨k, w⟩ := e
    by_cases hk : k = i
    · simpa [tabErase, hk] using ih
    · by_cases hl : i < k <;> simp [tabErase, tabInsert, tabGet, hk, hl, ih]

theorem tabGet_insert_other (d : α) (t : Tab α) {i j : Nat} (v : α) (h : j ≠ i) : tabGet d (tabInsert t i v) j = tabGet d t j := by
  induction t with
  | nil => simp [tabInsert, tabGet, Ne.symm h]
  | cons e t ih =>
    obtain ⟨k, w⟩ := e
    by_cases hl : i < k
    · simp [tabInsert, tabGet, hl, Ne.symm h]
    · by_cases hj : k = j
      · subst hj; simp [tabInsert, tabGet, hl]
      · simp [tabInsert, tabGet, hl, hj, ih]

/-- Reading what has just been written. -/
@[simp] theorem tabGet_set_self [DecidableEq α] (d : α) (t : Tab α) (i : Nat) (v : α) : tabGet d (tabSet d t i v) i = v := by
  unfold tabSet
  split
  · next h => rw [h]; exact tabGet_erase_self d t i
  · exact tabGet_insert_self d t i v (tabGet_erase_self d t i)

/-- Writing leaves every other entry alone. -/
theorem tabGet_set_other [DecidableEq α] (d : α) (t : Tab α) {i j : Nat} (v : α) (h : j ≠ i) :
    tabGet d (tabSet d t i v) j = tabGet d t j := by
  unfold tabSet
  split
  · exact tabGet_erase_other d t h
  · rw [tabGet_insert_other d _ v h, tabGet_erase_other d t h]

/-- Reading a table of one default where another was written. -/
theorem tabGet_set [DecidableEq α] (d : α) (t : Tab α) (i j : Nat) (v : α) :
    tabGet d (tabSet d t i v) j = if j = i then v else tabGet d t j := by
  split
  · next h => rw [h, tabGet_set_self]
  · next h => exact tabGet_set_other d t v h

/-! ## The canonical form -/

theorem tabWfFrom_le [DecidableEq α] (d : α) {lo lo' : Nat} (t : Tab α) (h : lo' ≤ lo) (w : tabWfFrom d lo t = true) :
    tabWfFrom d lo' t = true := by
  cases t with
  | nil => rfl
  | cons e t => simp [tabWfFrom] at w ⊢; exact ⟨⟨by omega, w.1.2⟩, w.2⟩

theorem tabWfFrom_erase [DecidableEq α] (d : α) (lo : Nat) (t : Tab α) (i : Nat) (w : tabWfFrom d lo t = true) :
    tabWfFrom d lo (tabErase t i) = true := by
  induction t generalizing lo with
  | nil => rfl
  | cons e t ih =>
    simp [tabWfFrom] at w
    by_cases h : e.1 = i
    · simp [tabErase, h]; exact tabWfFrom_le d _ (by omega) (ih _ w.2)
    · simp [tabErase, h, tabWfFrom, w.1.1, w.1.2, ih _ w.2]

theorem tabWfFrom_insert [DecidableEq α] (d : α) (lo : Nat) (t : Tab α) (i : Nat) (v : α) (hl : lo ≤ i) (hv : v ≠ d)
    (w : tabWfFrom d lo (tabErase t i) = true) : tabWfFrom d lo (tabInsert (tabErase t i) i v) = true := by
  induction t generalizing lo with
  | nil => simp [tabErase, tabInsert, tabWfFrom, hl, hv]
  | cons e t ih =>
    by_cases h : e.1 = i
    · simp only [tabErase, h, if_true] at w ⊢; exact ih lo hl w
    · simp only [tabErase, h, if_false] at w ⊢
      simp only [tabWfFrom, Bool.and_eq_true, decide_eq_true_eq] at w
      by_cases hk : i < e.1
      · simpa [tabInsert, hk, tabWfFrom, hl, hv, w.1.2, w.2] using hk
      · simp only [tabInsert, hk, if_false, tabWfFrom, Bool.and_eq_true, decide_eq_true_eq]
        exact ⟨w.1, ih _ (by omega) w.2⟩

/-- A write keeps the canonical form. -/
theorem tabWf_set [DecidableEq α] (d : α) (t : Tab α) (i : Nat) (v : α) (w : tabWf d t = true) : tabWf d (tabSet d t i v) = true := by
  unfold tabSet
  split
  · exact tabWfFrom_erase d 0 t i w
  · next h => exact tabWfFrom_insert d 0 t i v (Nat.zero_le _) h (tabWfFrom_erase d 0 t i w)

theorem tabWfFrom_filter [DecidableEq α] (d : α) (lo : Nat) (t : Tab α) (p : Nat × α → Bool) (w : tabWfFrom d lo t = true) :
    tabWfFrom d lo (t.filter p) = true := by
  induction t generalizing lo with
  | nil => rfl
  | cons e t ih =>
    simp [tabWfFrom] at w
    by_cases h : p e
    · simp [List.filter_cons_of_pos h, tabWfFrom, w.1.1, w.1.2, ih _ w.2]
    · rw [List.filter_cons_of_neg (by simpa using h)]; exact tabWfFrom_le d _ (by omega) (ih _ w.2)

/-- Leaving entries out keeps the canonical form. -/
theorem tabWf_filter [DecidableEq α] (d : α) (t : Tab α) (p : Nat × α → Bool) (w : tabWf d t = true) : tabWf d (t.filter p) = true :=
  tabWfFrom_filter d 0 t p w

/-! ## Lists -/

theorem listGet_set_self (d : α) (l : List α) (i : Nat) (v : α) (h : i < l.length) : listGet d (listSet l i v) i = v := by
  induction l generalizing i with
  | nil => simp at h
  | cons x t ih => cases i with
    | zero => rfl
    | succ i => simpa [listSet, listGet] using ih i (by simpa using h)

@[simp] theorem length_listSet (l : List α) (i : Nat) (v : α) : (listSet l i v).length = l.length := by
  induction l generalizing i with
  | nil => rfl
  | cons x t ih => cases i <;> simp [listSet, ih]

end Sys2Proof.Machine
end

