-- ==== Sys2Proof/Laws/Dict.lean ====
section
/-!
SUPPORT. The dictionary and memory: reading after writing, and that every operation on them keeps the canonical form.
-/

namespace Sys2Proof.Machine

/-! ## Registers -/

@[simp] theorem reg_setReg_self (s : State) (k v : Nat) : (s.setReg k v).reg k = v := tabGet_set_self _ _ _ _

theorem tabGet_default (a b : Nat) (t : Tab Nat) (j : Nat) (h : t.any (fun e => e.1 == j) = true) : tabGet a t j = tabGet b t j := by
  induction t with
  | nil => simp at h
  | cons e t ih =>
    simp only [tabGet]
    split
    · rfl
    · next hk => exact ih (by simpa [hk] using h)

theorem reg_setReg_other (s : State) {k j : Nat} (v : Nat) (h : j ≠ k) : (s.setReg k v).reg j = s.reg j := by
  unfold State.reg State.setReg tabSet
  dsimp only
  split
  · exact tabGet_erase_other _ _ h
  · rw [tabGet_insert_other _ _ _ h, tabGet_erase_other _ _ h]

/-- A register read after a register was written. -/
theorem reg_setReg (s : State) (k j v : Nat) : (s.setReg k v).reg j = if j = k then v else s.reg j := by
  split
  · next h => rw [h, reg_setReg_self]
  · next h => exact reg_setReg_other s v h

theorem dictWfFrom_le {lo lo' : Nat} (t : Tab Nat) (h : lo' ≤ lo) (w : dictWfFrom lo t = true) : dictWfFrom lo' t = true := by
  cases t with
  | nil => rfl
  | cons e t => simp [dictWfFrom] at w ⊢; exact ⟨⟨by omega, w.1.2⟩, w.2⟩

theorem dictWfFrom_erase (lo : Nat) (t : Tab Nat) (i : Nat) (w : dictWfFrom lo t = true) : dictWfFrom lo (tabErase t i) = true := by
  induction t generalizing lo with
  | nil => rfl
  | cons e t ih =>
    simp [dictWfFrom] at w
    by_cases h : e.1 = i
    · simp [tabErase, h]; exact dictWfFrom_le _ (by omega) (ih _ w.2)
    · simp [tabErase, h, dictWfFrom, w.1.1, w.1.2, ih _ w.2]

theorem dictWfFrom_insert (lo : Nat) (t : Tab Nat) (i v : Nat) (hl : lo ≤ i) (hv : v ≠ objReset i)
    (w : dictWfFrom lo (tabErase t i) = true) : dictWfFrom lo (tabInsert (tabErase t i) i v) = true := by
  induction t generalizing lo with
  | nil => simp [tabErase, tabInsert, dictWfFrom, hl, hv]
  | cons e t ih =>
    by_cases h : e.1 = i
    · simp only [tabErase, h, if_true] at w ⊢; exact ih lo hl w
    · simp only [tabErase, h, if_false] at w ⊢
      simp only [dictWfFrom, Bool.and_eq_true, decide_eq_true_eq] at w
      by_cases hk : i < e.1
      · simpa [tabInsert, hk, dictWfFrom, hl, hv, w.1.2, w.2] using hk
      · simp only [tabInsert, hk, if_false, dictWfFrom, Bool.and_eq_true, decide_eq_true_eq]
        exact ⟨w.1, ih _ (by omega) w.2⟩

/-- Writing a register keeps the dictionary canonical. -/
theorem dictWf_set (t : Tab Nat) (k v : Nat) (w : dictWf t = true) : dictWf (tabSet (objReset k) t k v) = true := by
  unfold tabSet
  split
  · exact dictWfFrom_erase 0 t k w
  · next h => exact dictWfFrom_insert 0 t k v (Nat.zero_le _) h (dictWfFrom_erase 0 t k w)

theorem dictWfFrom_filter (lo : Nat) (t : Tab Nat) (p : Nat × Nat → Bool) (w : dictWfFrom lo t = true) :
    dictWfFrom lo (t.filter p) = true := by
  induction t generalizing lo with
  | nil => rfl
  | cons e t ih =>
    simp [dictWfFrom] at w
    by_cases h : p e
    · simp [List.filter_cons_of_pos h, dictWfFrom, w.1.1, w.1.2, ih _ w.2]
    · rw [List.filter_cons_of_neg (by simpa using h)]; exact dictWfFrom_le _ (by omega) (ih _ w.2)

/-- Returning objects to their reset values keeps the dictionary canonical. -/
theorem dictWf_filter (t : Tab Nat) (p : Nat × Nat → Bool) (w : dictWf t = true) : dictWf (t.filter p) = true :=
  dictWfFrom_filter 0 t p w

/-! ## Memory -/

/-- A byte read after a byte was written. -/
theorem memByte_memSet (m : List Host.Cell) (a b : Nat) (v : Byte) : memByte (memSet m a v) b = if b = a then v else memByte m b :=
  tabGet_set _ _ _ _ _

theorem memSet_wf (m : List Host.Cell) (a : Nat) (v : Byte) (w : Memory.wf m = true) : Memory.wf (memSet m a v) = true :=
  tabWf_set _ _ _ _ w

/-- Writing bytes keeps memory canonical. -/
theorem memWrite_wf (l : List Byte) (m : List Host.Cell) (a : Nat) (w : Memory.wf m = true) : Memory.wf (memWrite l m a) = true := by
  induction l generalizing m a with
  | nil => exact w
  | cons b t ih => exact ih _ _ (memSet_wf m a b w)

/-- Leaving bytes out keeps memory canonical. -/
theorem memFilter_wf (m : List Host.Cell) (p : Host.Cell → Bool) (w : Memory.wf m = true) : Memory.wf (m.filter p) = true :=
  tabWf_filter _ _ p w

theorem memZero_wf (lo hi : Nat) (m : List Host.Cell) (w : Memory.wf m = true) : Memory.wf (memZero lo hi m) = true :=
  memFilter_wf m _ w

/-- A byte outside the bytes written reads as before. -/
theorem memByte_memWrite_other (l : List Byte) (m : List Host.Cell) (a b : Nat) (h : b < a ∨ a + l.length ≤ b) :
    memByte (memWrite l m a) b = memByte m b := by
  induction l generalizing m a with
  | nil => rfl
  | cons x t ih =>
    simp only [List.length_cons] at h
    rw [memWrite, ih _ _ (by omega), memByte_memSet, if_neg (by omega)]

/-- A byte among the bytes written reads as written. -/
theorem memByte_memWrite_self (l : List Byte) (m : List Host.Cell) (a i : Nat) (h : i < l.length) :
    memByte (memWrite l m a) (a + i) = l[i] := by
  induction l generalizing m a i with
  | nil => simp at h
  | cons x t ih =>
    cases i with
    | zero => rw [memWrite, memByte_memWrite_other _ _ _ _ (by omega)]; simp [memByte_memSet]
    | succ i =>
      have := ih (memSet m a x) (a + 1) i (by simpa using h)
      rw [memWrite]; simpa [Nat.add_assoc, Nat.add_comm 1] using this

end Sys2Proof.Machine
end

