-- ==== Sys2Proof/Laws/Keeps.lean ====
section
/-!
SUPPORT. What every operation of the device keeps (`Keeps`, Safety.lean): how the relation is put together from the operations a meaning
is made of. The files Laws/Keeps<File>.lean say it for each function of Machine/<File>.lean, once.
-/

namespace Sys2Proof

open Machine

theorem Keeps.refl (f : Nat) (s : State) : Keeps f s s :=
  ⟨rfl, Nat.le_refl _, List.suffix_refl _, id, id, fun p _ => by cases p <;> first | rfl | exact ⟨rfl, rfl⟩⟩

theorem Part.Same.trans {p : Part} {a b c : State} (h : p.Same a b) (k : p.Same b c) : p.Same a c := by
  cases p <;> first | exact Eq.trans k h | exact ⟨k.1.trans h.1, k.2.trans h.2⟩

theorem Keeps.trans {f : Nat} {a b c : State} (h : Keeps f a b) (k : Keeps f b c) : Keeps f a c :=
  ⟨k.queue.trans h.queue, h.time.trans k.time, h.outs.trans k.outs, fun w => k.mem (h.mem w), fun w => k.dict (h.dict w),
    fun p hp => (h.parts p hp).trans (k.parts p hp)⟩

theorem Keeps.mono {f g : Nat} {a b : State} (h : Keeps f a b) (hs : partsIn f g = true) : Keeps g a b :=
  ⟨h.queue, h.time, h.outs, h.mem, h.dict, fun p hp => h.parts p (by
    have e : f &&& g = f := by simpa [partsIn] using hs
    rw [← e, Nat.testBit_land, hp, Bool.and_false])⟩

theorem partsIn_trans {a b c : Nat} (h : partsIn a b = true) (k : partsIn b c = true) : partsIn a c = true := by
  have e : a &&& b = a := by simpa [partsIn] using h
  have g : b &&& c = b := by simpa [partsIn] using k
  have : a &&& c = a := by rw [← e, Nat.land_assoc, g]
  simpa [partsIn] using this

/-- One more operation, which keeps what it keeps. -/
theorem Keeps.step {f g : Nat} {a b c : State} (k : Keeps g b c) (hs : partsIn g f = true) (h : Keeps f a b) : Keeps f a c :=
  h.trans (k.mono hs)

/-- A choice; what is known of the second branch may serve the first. -/
theorem Keeps.ite {f : Nat} {a x y : State} {c : Prop} [Decidable c] (hy : Keeps f a y) (hx : Keeps f a y → Keeps f a x) :
    Keeps f a (if c then x else y) := by split; exacts [hx hy, hy]

theorem Keeps.iteFst {f : Nat} {α : Type} {a : State} {x y : State × α} {c : Prop} [Decidable c] (hy : Keeps f a y.1)
    (hx : Keeps f a y.1 → Keeps f a x.1) : Keeps f a (if c then x else y).1 := by split; exacts [hx hy, hy]

theorem Keeps.iteSnd {f : Nat} {α : Type} {a : State} {x y : α × State} {c : Prop} [Decidable c] (hy : Keeps f a y.2)
    (hx : Keeps f a y.2 → Keeps f a x.2) : Keeps f a (if c then x else y).2 := by split; exacts [hx hy, hy]

/-- A bulk operation. -/
theorem Keeps.forEach {f : Nat} {α : Type} {a b : State} (l : List α) (g : α → State → State)
    (hg : ∀ x s, Keeps f a s → Keeps f a (g x s)) (h : Keeps f a b) : Keeps f a (b.forEach l g) := by
  unfold State.forEach
  induction l generalizing b with
  | nil => exact h
  | cons x t ih => exact ih (hg x b h)

/-- A bulk operation that carries a result. -/
theorem Keeps.foldlFst {f : Nat} {α β : Type} {a : State} {b : State × β} (l : List α) (g : State × β → α → State × β)
    (hg : ∀ x r, Keeps f a r.1 → Keeps f a (g r x).1) (h : Keeps f a b.1) : Keeps f a (l.foldl g b).1 := by
  induction l generalizing b with
  | nil => exact h
  | cons x t ih => exact ih (hg x b h)

theorem Keeps.foldlSnd {f : Nat} {α β : Type} {a : State} {b : β × State} (l : List α) (g : β × State → α → β × State)
    (hg : ∀ x r, Keeps f a r.2 → Keeps f a (g r x).2) (h : Keeps f a b.2) : Keeps f a (l.foldl g b).2 := by
  induction l generalizing b with
  | nil => exact h
  | cons x t ih => exact ih (hg x b h)

theorem Keeps.foldl {f : Nat} {α : Type} {a b : State} (l : List α) (g : State → α → State)
    (hg : ∀ x s, Keeps f a s → Keeps f a (g s x)) (h : Keeps f a b) : Keeps f a (l.foldl g b) := by
  induction l generalizing b with
  | nil => exact h
  | cons x t ih => exact ih (hg x b h)

/-- An answer of a command. -/
theorem Outcome.Keeps.next {f : Nat} {a b : State} (h : Sys2Proof.Keeps f a b) : Outcome.Keeps f a (.next b) := ⟨b, rfl, h⟩

theorem Outcome.Keeps.ite {f : Nat} {a : State} {x y : Host.Outcome State Fault Refusal} {c : Prop} [Decidable c]
    (hx : Outcome.Keeps f a x) (hy : Outcome.Keeps f a y) : Outcome.Keeps f a (if c then x else y) := by split; exacts [hx, hy]

/-- An update of parts of the set that leaves queue, time, dictionary, memory and outputs alone. -/
theorem Keeps.update {f : Nat} {a s : State} {epoch' : Nat} {free' : Nat} {regs' : Tab Nat} {mem' : List Host.Cell} {portSerial' : Tab Nat} {serial' : Nat} {engines' : Tab Engine} {pwm' : Pwm} {alarms' : Tab Alarm} {lanes' : Tab Lane} {lds' : Tab Ldrv} {sds' : Tab Sdrv} {phase' : Phase} {holds' : Bool} {arming' : Option Instant} {law' : Law} {cad' : Cad} {words' : Tab Nat} {mram' : Store} {adc' : Adc} {filt' : Filt} {memo' : Mem} {recs' : Tab Rec} {tb' : TrigBus} {clk' : Clk} {ptp' : Ptp} {sup' : Sup} {pair' : Pair} {net' : Net} {bootInfo' : BootInfo}
    (h : Keeps f a s) (h_epoch : f.testBit 1 = true ∨ epoch' = s.epoch) (h_free : f.testBit 2 = true ∨ free' = s.free) (h_regs : f.testBit 3 = true ∧ (dictWf s.regs = true → dictWf regs' = true) ∨ regs' = s.regs) (h_mem : f.testBit 4 = true ∧ (Memory.wf s.mem = true → Memory.wf mem' = true) ∨ mem' = s.mem) (h_portSerial : f.testBit 5 = true ∨ portSerial' = s.portSerial) (h_serial : f.testBit 5 = true ∨ serial' = s.serial) (h_engines : f.testBit 6 = true ∨ engines' = s.engines) (h_pwm : f.testBit 7 = true ∨ pwm' = s.pwm) (h_alarms : f.testBit 8 = true ∨ alarms' = s.alarms) (h_lanes : f.testBit 9 = true ∨ lanes' = s.lanes) (h_lds : f.testBit 10 = true ∨ lds' = s.lds) (h_sds : f.testBit 11 = true ∨ sds' = s.sds) (h_phase : f.testBit 12 = true ∨ phase' = s.phase) (h_holds : f.testBit 13 = true ∨ holds' = s.holds) (h_arming : f.testBit 14 = true ∨ arming' = s.arming) (h_law : f.testBit 15 = true ∨ law' = s.law) (h_cad : f.testBit 16 = true ∨ cad' = s.cad) (h_words : f.testBit 17 = true ∨ words' = s.words) (h_mram : f.testBit 18 = true ∨ mram' = s.mram) (h_adc : f.testBit 19 = true ∨ adc' = s.adc) (h_filt : f.testBit 20 = true ∨ filt' = s.filt) (h_memo : f.testBit 21 = true ∨ memo' = s.memo) (h_recs : f.testBit 22 = true ∨ recs' = s.recs) (h_tb : f.testBit 23 = true ∨ tb' = s.tb) (h_clk : f.testBit 24 = true ∨ clk' = s.clk) (h_ptp : f.testBit 25 = true ∨ ptp' = s.ptp) (h_sup : f.testBit 26 = true ∨ sup' = s.sup) (h_pair : f.testBit 27 = true ∨ pair' = s.pair) (h_net : f.testBit 28 = true ∨ net' = s.net) (h_bootInfo : f.testBit 29 = true ∨ bootInfo' = s.bootInfo)
    : Keeps f a { pending := s.pending, now := s.now, epoch := epoch', free := free', regs := regs', mem := mem', portSerial := portSerial', serial := serial', engines := engines', pwm := pwm', alarms := alarms', lanes := lanes', lds := lds', sds := sds', phase := phase', holds := holds', arming := arming', law := law', cad := cad', words := words', mram := mram', adc := adc', filt := filt', memo := memo', recs := recs', tb := tb', clk := clk', ptp := ptp', sup := sup', pair := pair', net := net', bootInfo := bootInfo', outs := s.outs } := by
  refine ⟨h.queue, h.time, h.outs, fun w => ?_, fun w => ?_, fun p hp => ?_⟩
  · rcases h_mem with k | k
    · exact k.2 (h.mem w)
    · rw [k]; exact h.mem w
  · rcases h_regs with k | k
    · exact k.2 (h.dict w)
    · rw [k]; exact h.dict w
  cases p
  case now => exact h.parts .now hp
  case epoch => exact (h_epoch.resolve_left (by rw [show f.testBit 1 = false from hp]; decide)).trans (h.parts .epoch hp)
  case free => exact (h_free.resolve_left (by rw [show f.testBit 2 = false from hp]; decide)).trans (h.parts .free hp)
  case regs => exact (h_regs.resolve_left (fun k => by rw [show f.testBit 3 = false from hp] at k; exact absurd k.1 (by decide))).trans (h.parts .regs hp)
  case mem => exact (h_mem.resolve_left (fun k => by rw [show f.testBit 4 = false from hp] at k; exact absurd k.1 (by decide))).trans (h.parts .mem hp)
  case serial => exact ⟨(h_serial.resolve_left (by rw [show f.testBit 5 = false from hp]; decide)).trans (h.parts .serial hp).1, (h_portSerial.resolve_left (by rw [show f.testBit 5 = false from hp]; decide)).trans (h.parts .serial hp).2⟩
  case engines => exact (h_engines.resolve_left (by rw [show f.testBit 6 = false from hp]; decide)).trans (h.parts .engines hp)
  case pwm => exact (h_pwm.resolve_left (by rw [show f.testBit 7 = false from hp]; decide)).trans (h.parts .pwm hp)
  case alarms => exact (h_alarms.resolve_left (by rw [show f.testBit 8 = false from hp]; decide)).trans (h.parts .alarms hp)
  case lanes => exact (h_lanes.resolve_left (by rw [show f.testBit 9 = false from hp]; decide)).trans (h.parts .lanes hp)
  case lds => exact (h_lds.resolve_left (by rw [show f.testBit 10 = false from hp]; decide)).trans (h.parts .lds hp)
  case sds => exact (h_sds.resolve_left (by rw [show f.testBit 11 = false from hp]; decide)).trans (h.parts .sds hp)
  case phase => exact (h_phase.resolve_left (by rw [show f.testBit 12 = false from hp]; decide)).trans (h.parts .phase hp)
  case holds => exact (h_holds.resolve_left (by rw [show f.testBit 13 = false from hp]; decide)).trans (h.parts .holds hp)
  case arming => exact (h_arming.resolve_left (by rw [show f.testBit 14 = false from hp]; decide)).trans (h.parts .arming hp)
  case law => exact (h_law.resolve_left (by rw [show f.testBit 15 = false from hp]; decide)).trans (h.parts .law hp)
  case cad => exact (h_cad.resolve_left (by rw [show f.testBit 16 = false from hp]; decide)).trans (h.parts .cad hp)
  case words => exact (h_words.resolve_left (by rw [show f.testBit 17 = false from hp]; decide)).trans (h.parts .words hp)
  case mram => exact (h_mram.resolve_left (by rw [show f.testBit 18 = false from hp]; decide)).trans (h.parts .mram hp)
  case adc => exact (h_adc.resolve_left (by rw [show f.testBit 19 = false from hp]; decide)).trans (h.parts .adc hp)
  case filt => exact (h_filt.resolve_left (by rw [show f.testBit 20 = false from hp]; decide)).trans (h.parts .filt hp)
  case memo => exact (h_memo.resolve_left (by rw [show f.testBit 21 = false from hp]; decide)).trans (h.parts .memo hp)
  case recs => exact (h_recs.resolve_left (by rw [show f.testBit 22 = false from hp]; decide)).trans (h.parts .recs hp)
  case tb => exact (h_tb.resolve_left (by rw [show f.testBit 23 = false from hp]; decide)).trans (h.parts .tb hp)
  case clk => exact (h_clk.resolve_left (by rw [show f.testBit 24 = false from hp]; decide)).trans (h.parts .clk hp)
  case ptp => exact (h_ptp.resolve_left (by rw [show f.testBit 25 = false from hp]; decide)).trans (h.parts .ptp hp)
  case sup => exact (h_sup.resolve_left (by rw [show f.testBit 26 = false from hp]; decide)).trans (h.parts .sup hp)
  case pair => exact (h_pair.resolve_left (by rw [show f.testBit 27 = false from hp]; decide)).trans (h.parts .pair hp)
  case net => exact (h_net.resolve_left (by rw [show f.testBit 28 = false from hp]; decide)).trans (h.parts .net hp)
  case bootInfo => exact (h_bootInfo.resolve_left (by rw [show f.testBit 29 = false from hp]; decide)).trans (h.parts .bootInfo hp)
  case outs => exact h.parts .outs hp

end Sys2Proof
end

