-- ==== Sys2Proof/Laws/KeepsOps.lean ====
section
/-!
SUPPORT. What each function of Machine/Ops.lean keeps, and which parts of the state it leaves alone.
-/

namespace Sys2Proof.Machine

theorem State.setReg_keeps (s : State) (k v : Nat) : Keeps 8 s (s.setReg k v) :=
  ⟨rfl, Nat.le_refl _, List.suffix_refl _, id, dictWf_set _ _ _, fun p hp => by
    cases p <;> first | rfl | exact ⟨rfl, rfl⟩ | exact absurd hp (by decide)⟩

theorem State.setFld_keeps (s : State) (k : Nat) (f : Fld) (x : Nat) : Keeps 8 s (State.setFld s k f x) := by
  have h0 := Keeps.refl 8 s
  unfold State.setFld
  try dsimp only
  repeat' (first
    | intro _
    | with_reducible assumption
    | ((with_reducible apply Keeps.step (State.setReg_keeps ..)); exact rfl)
    | fail_if_no_progress dsimp only)

theorem State.setFlag_keeps (s : State) (k : Nat) (f : Fld) (b : Bool) : Keeps 8 s (State.setFlag s k f b) := by
  have h0 := Keeps.refl 8 s
  unfold State.setFlag
  try dsimp only
  repeat' (first
    | intro _
    | with_reducible assumption
    | ((with_reducible apply Keeps.step (State.setFld_keeps ..)); exact rfl)
    | fail_if_no_progress dsimp only)

theorem State.setRegBit_keeps (s : State) (k : Nat) (i : Nat) (b : Bool) : Keeps 8 s (State.setRegBit s k i b) := by
  have h0 := Keeps.refl 8 s
  unfold State.setRegBit
  try dsimp only
  repeat' (first
    | intro _
    | with_reducible assumption
    | ((with_reducible apply Keeps.step (State.setReg_keeps ..)); exact rfl)
    | fail_if_no_progress dsimp only)

theorem seeRegs_keeps (s : State) : Keeps 32768 s (seeRegs s) := by
  have h0 := Keeps.refl 32768 s
  unfold seeRegs
  try dsimp only
  repeat' (first
    | intro _
    | with_reducible assumption
    | (fail_if_no_progress with_reducible apply Keeps.update) <;> first | ((with_reducible apply Or.inr); with_reducible rfl) | ((with_reducible apply Or.inl); first | exact rfl) | skip
    | fail_if_no_progress dsimp only)

theorem State.setOwn_keeps (s : State) (k : Nat) (v : Nat) : Keeps 32776 s (State.setOwn s k v) := by
  have h0 := Keeps.refl 32776 s
  unfold State.setOwn
  try dsimp only
  repeat' (first
    | intro _
    | with_reducible assumption
    | ((with_reducible apply Keeps.step (State.setReg_keeps ..)); exact rfl)
    | (fail_if_no_progress with_reducible apply Keeps.update) <;> first | ((with_reducible apply Or.inr); with_reducible rfl) | ((with_reducible apply Or.inl); first | exact rfl) | skip
    | fail_if_no_progress dsimp only)

theorem State.useFree_keeps (s : State) : Keeps 4 s (State.useFree s) := by
  have h0 := Keeps.refl 4 s
  unfold State.useFree
  try dsimp only
  repeat' (first
    | intro _
    | with_reducible assumption
    | (fail_if_no_progress with_reducible apply Keeps.update) <;> first | ((with_reducible apply Or.inr); with_reducible rfl) | ((with_reducible apply Or.inl); first | exact rfl) | skip
    | fail_if_no_progress dsimp only)

theorem State.bump_keeps (s : State) (k : Nat) : Keeps 12 s (State.bump s k) := by
  have h0 := Keeps.refl 12 s
  unfold State.bump
  try dsimp only
  repeat' (first
    | with_reducible apply Keeps.ite
    | with_reducible apply Keeps.iteFst
    | with_reducible apply Keeps.iteSnd
    | intro _
    | with_reducible assumption
    | ((with_reducible apply Keeps.step (State.setReg_keeps ..)); exact rfl)
    | ((with_reducible apply Keeps.step (State.useFree_keeps ..)); exact rfl)
    | fail_if_no_progress dsimp only)

theorem State.bumpBy_keeps (s : State) (k : Nat) (n : Nat) : Keeps 12 s (State.bumpBy s k n) := by
  have h0 := Keeps.refl 12 s
  unfold State.bumpBy
  try dsimp only
  repeat' (first
    | with_reducible apply Keeps.ite
    | with_reducible apply Keeps.iteFst
    | with_reducible apply Keeps.iteSnd
    | intro _
    | with_reducible assumption
    | ((with_reducible apply Keeps.step (State.setReg_keeps ..)); exact rfl)
    | ((with_reducible apply Keeps.step (State.useFree_keeps ..)); exact rfl)
    | fail_if_no_progress dsimp only)

theorem State.openRound_keeps (s : State) (q : Rat) : Keeps 4 s (State.openRound s q).2 := by
  have h0 := Keeps.refl 4 s
  unfold State.openRound
  try dsimp only
  repeat' (first
    | with_reducible apply Keeps.ite
    | with_reducible apply Keeps.iteFst
    | with_reducible apply Keeps.iteSnd
    | intro _
    | with_reducible assumption
    | ((with_reducible apply Keeps.step (State.useFree_keeps ..)); exact rfl)
    | fail_if_no_progress dsimp only)

theorem State.advance_keeps (s : State) (t : Instant) : Keeps 1 s (s.advance t) :=
  ⟨rfl, Nat.le_max_left _ _, List.suffix_refl _, id, id, fun p hp => by
    cases p <;> first | rfl | exact ⟨rfl, rfl⟩ | exact absurd hp (by decide)⟩

theorem State.emit_keeps (s : State) (o : Out) : Keeps 1073741824 s (s.emit o) :=
  ⟨rfl, Nat.le_refl _, List.suffix_cons _ _, id, id, fun p hp => by
    cases p <;> first | rfl | exact ⟨rfl, rfl⟩ | exact absurd hp (by decide)⟩

theorem State.store_keeps (s : State) (n a v : Nat) : Keeps 16 s (s.store n a v) :=
  ⟨rfl, Nat.le_refl _, List.suffix_refl _, memWrite_wf _ _ _, id, fun p hp => by
    cases p <;> first | rfl | exact ⟨rfl, rfl⟩ | exact absurd hp (by decide)⟩

theorem State.portWritten_keeps (s : State) (p : Nat) : Keeps 32 s (State.portWritten s p) := by
  have h0 := Keeps.refl 32 s
  unfold State.portWritten
  try dsimp only
  repeat' (first
    | intro _
    | with_reducible assumption
    | (fail_if_no_progress with_reducible apply Keeps.update) <;> first | ((with_reducible apply Or.inr); with_reducible rfl) | ((with_reducible apply Or.inl); first | exact rfl) | skip
    | fail_if_no_progress dsimp only)

theorem State.setWord_keeps (s : State) (p : Nat) (v : Nat) : Keeps 131104 s (State.setWord s p v) := by
  have h0 := Keeps.refl 131104 s
  unfold State.setWord
  try dsimp only
  repeat' (first
    | intro _
    | with_reducible assumption
    | ((with_reducible apply Keeps.step (State.portWritten_keeps ..)); exact rfl)
    | (fail_if_no_progress with_reducible apply Keeps.update) <;> first | ((with_reducible apply Or.inr); with_reducible rfl) | ((with_reducible apply Or.inl); first | exact rfl) | skip
    | fail_if_no_progress dsimp only)

theorem State.setEngine_keeps (s : State) (e : Nat) (x : Engine) : Keeps 64 s (State.setEngine s e x) := by
  have h0 := Keeps.refl 64 s
  unfold State.setEngine
  try dsimp only
  repeat' (first
    | intro _
    | with_reducible assumption
    | (fail_if_no_progress with_reducible apply Keeps.update) <;> first | ((with_reducible apply Or.inr); with_reducible rfl) | ((with_reducible apply Or.inl); first | exact rfl) | skip
    | fail_if_no_progress dsimp only)

theorem State.setPs_keeps (s : State) (f : Fld) (b : Bool) : Keeps 8 s (State.setPs s f b) := by
  have h0 := Keeps.refl 8 s
  unfold State.setPs
  try dsimp only
  repeat' (first
    | intro _
    | with_reducible assumption
    | ((with_reducible apply Keeps.step (State.setFlag_keeps ..)); exact rfl)
    | fail_if_no_progress dsimp only)

theorem belayOut_keeps (f : Nat → Out) (s : State) : Keeps 1207959552 s (belayOut f s) := by
  have h0 := Keeps.refl 1207959552 s
  unfold belayOut
  try dsimp only
  repeat' (first
    | intro _
    | with_reducible assumption
    | ((with_reducible apply Keeps.step (State.emit_keeps ..)); exact rfl)
    | (fail_if_no_progress with_reducible apply Keeps.update) <;> first | ((with_reducible apply Or.inr); with_reducible rfl) | ((with_reducible apply Or.inl); first | exact rfl) | skip
    | fail_if_no_progress dsimp only)

theorem belaySend_keeps (typ : Nat) (vals : List Nat) (s : State) : Keeps 1207959552 s (belaySend typ vals s) := by
  have h0 := Keeps.refl 1207959552 s
  unfold belaySend
  try dsimp only
  repeat' (first
    | intro _
    | with_reducible assumption
    | ((with_reducible apply Keeps.step (belayOut_keeps ..)); exact rfl)
    | fail_if_no_progress dsimp only)

theorem State.setTf_keeps (s : State) (f : Fld) (b : Bool) : Keeps 8 s (State.setTf s f b) := by
  have h0 := Keeps.refl 8 s
  unfold State.setTf
  try dsimp only
  repeat' (first
    | intro _
    | with_reducible assumption
    | ((with_reducible apply Keeps.step (State.setFlag_keeps ..)); exact rfl)
    | fail_if_no_progress dsimp only)

theorem setTimeState_keeps (n : Nat) (s : State) : Keeps 8 s (setTimeState n s) := by
  have h0 := Keeps.refl 8 s
  unfold setTimeState
  try dsimp only
  repeat' (first
    | intro _
    | with_reducible assumption
    | ((with_reducible apply Keeps.step (State.setReg_keeps ..)); exact rfl)
    | ((with_reducible apply Keeps.step (State.setTf_keeps ..)); exact rfl)
    | fail_if_no_progress dsimp only)

theorem stepDeferred_keeps (s : State) : Keeps 8 s (stepDeferred s) := by
  have h0 := Keeps.refl 8 s
  unfold stepDeferred
  try dsimp only
  repeat' (first
    | with_reducible apply Keeps.ite
    | with_reducible apply Keeps.iteFst
    | with_reducible apply Keeps.iteSnd
    | intro _
    | with_reducible assumption
    | ((with_reducible apply Keeps.step (State.setTf_keeps ..)); exact rfl)
    | ((with_reducible apply Keeps.step (setTimeState_keeps ..)); exact rfl)
    | fail_if_no_progress dsimp only)

theorem State.note_keeps (s : State) (what : Nat) (vals : List Nat) : Keeps 1208221696 s (State.note s what vals) := by
  have h0 := Keeps.refl 1208221696 s
  unfold State.note
  try dsimp only
  repeat' (first
    | with_reducible apply Keeps.ite
    | with_reducible apply Keeps.iteFst
    | with_reducible apply Keeps.iteSnd
    | intro _
    | with_reducible assumption
    | ((with_reducible apply Keeps.step (belaySend_keeps ..)); exact rfl)
    | (fail_if_no_progress with_reducible apply Keeps.update) <;> first | ((with_reducible apply Or.inr); with_reducible rfl) | ((with_reducible apply Or.inl); first | exact rfl) | skip
    | fail_if_no_progress dsimp only)

theorem istFail_keeps (item : Nat) (unit : Nat) (s : State) : Keeps 1208221708 s (istFail item unit s) := by
  have h0 := Keeps.refl 1208221708 s
  unfold istFail
  try dsimp only
  repeat' (first
    | intro _
    | with_reducible assumption
    | ((with_reducible apply Keeps.step (State.bump_keeps ..)); exact rfl)
    | ((with_reducible apply Keeps.step (State.note_keeps ..)); exact rfl)
    | ((with_reducible apply Keeps.step (State.setFlag_keeps ..)); exact rfl)
    | fail_if_no_progress dsimp only)

theorem setOpen_keeps (k : Nat) (w : Nat) (signed : Bool) (q : Rat) (s : State) : Keeps 12 s (setOpen k w signed q s) := by
  have h0 := Keeps.refl 12 s
  unfold setOpen
  try dsimp only
  repeat' (first
    | with_reducible apply Keeps.ite
    | with_reducible apply Keeps.iteFst
    | with_reducible apply Keeps.iteSnd
    | intro _
    | with_reducible assumption
    | ((with_reducible apply Keeps.step (State.openRound_keeps ..)); exact rfl)
    | ((with_reducible apply Keeps.step (State.setReg_keeps ..)); exact rfl)
    | ((with_reducible apply Keeps.step (State.useFree_keeps ..)); exact rfl)
    | fail_if_no_progress dsimp only)

theorem reportFaults_keeps (s : State) : Keeps 1207959552 s (reportFaults s) := by
  have h0 := Keeps.refl 1207959552 s
  unfold reportFaults
  try dsimp only
  repeat' (first
    | with_reducible apply Keeps.ite
    | with_reducible apply Keeps.iteFst
    | with_reducible apply Keeps.iteSnd
    | intro _
    | with_reducible assumption
    | ((with_reducible apply Keeps.step (belaySend_keeps ..)); exact rfl)
    | with_reducible apply Keeps.forEach
    | (fail_if_no_progress with_reducible apply Keeps.update) <;> first | ((with_reducible apply Or.inr); with_reducible rfl) | ((with_reducible apply Or.inl); first | exact rfl) | skip
    | fail_if_no_progress dsimp only)

theorem engEnabled_keeps (e : Nat) (s : State) : Keeps 72 s (engEnabled e s) := by
  have h0 := Keeps.refl 72 s
  unfold engEnabled
  try dsimp only
  repeat' (first
    | intro _
    | with_reducible assumption
    | ((with_reducible apply Keeps.step (State.setEngine_keeps ..)); exact rfl)
    | ((with_reducible apply Keeps.step (State.setReg_keeps ..)); exact rfl)
    | fail_if_no_progress dsimp only)

theorem compactStart_keeps (s : State) : Keeps 262152 s (compactStart s) := by
  have h0 := Keeps.refl 262152 s
  unfold compactStart
  try dsimp only
  repeat' (first
    | with_reducible apply Keeps.ite
    | with_reducible apply Keeps.iteFst
    | with_reducible apply Keeps.iteSnd
    | intro _
    | with_reducible assumption
    | ((with_reducible apply Keeps.step (State.setFlag_keeps ..)); exact rfl)
    | (fail_if_no_progress with_reducible apply Keeps.update) <;> first | ((with_reducible apply Or.inr); with_reducible rfl) | ((with_reducible apply Or.inl); first | exact rfl) | skip
    | fail_if_no_progress dsimp only)

theorem firstSlot_keeps (s : State) : Keeps 262152 s (firstSlot s) := by
  have h0 := Keeps.refl 262152 s
  unfold firstSlot
  try dsimp only
  repeat' (first
    | with_reducible apply Keeps.ite
    | with_reducible apply Keeps.iteFst
    | with_reducible apply Keeps.iteSnd
    | intro _
    | with_reducible assumption
    | ((with_reducible apply Keeps.step (State.setReg_keeps ..)); exact rfl)
    | (fail_if_no_progress with_reducible apply Keeps.update) <;> first | ((with_reducible apply Or.inr); with_reducible rfl) | ((with_reducible apply Or.inl); first | exact rfl) | skip
    | fail_if_no_progress dsimp only)

theorem addDelta_keeps (d : Delta) (s : State) : Keeps 262152 s (addDelta d s) := by
  have h0 := Keeps.refl 262152 s
  unfold addDelta
  try dsimp only
  repeat' (first
    | intro _
    | with_reducible assumption
    | ((with_reducible apply Keeps.step (State.setReg_keeps ..)); exact rfl)
    | ((with_reducible apply Keeps.step (compactStart_keeps ..)); exact rfl)
    | ((with_reducible apply Keeps.step (firstSlot_keeps ..)); exact rfl)
    | (fail_if_no_progress with_reducible apply Keeps.update) <;> first | ((with_reducible apply Or.inr); with_reducible rfl) | ((with_reducible apply Or.inl); first | exact rfl) | skip
    | fail_if_no_progress dsimp only)

theorem storeRws_keeps (k : Nat) (v : Nat) (s : State) : Keeps 262152 s (storeRws k v s) := by
  have h0 := Keeps.refl 262152 s
  unfold storeRws
  try dsimp only
  repeat' (first
    | with_reducible apply Keeps.ite
    | with_reducible apply Keeps.iteFst
    | with_reducible apply Keeps.iteSnd
    | intro _
    | with_reducible assumption
    | ((with_reducible apply Keeps.step (addDelta_keeps ..)); exact rfl)
    | fail_if_no_progress dsimp only)

theorem stored_keeps {f : Nat} {s : State} {r : State × Nat} (k v : Nat) (hs : partsIn 262152 f = true) (h : Keeps f s r.1) :
    Keeps f s (stored k v r) := by
  unfold stored; split
  · exact Keeps.step (storeRws_keeps ..) hs h
  · exact h

end Sys2Proof.Machine
end

