-- ==== Sys2Proof/Laws/KeepsMemOps.lean ====
section
/-!
SUPPORT. What each function of Machine/MemOps.lean keeps, and which parts of the state it leaves alone.
-/

namespace Sys2Proof.Machine

theorem State.physRead_keeps (s : State) (n : Nat) (a : Nat) : Keeps 4 s (State.physRead s n a).2 := by
  have h0 := Keeps.refl 4 s
  unfold State.physRead
  try dsimp only
  repeat' (first
    | intro _
    | with_reducible assumption
    | (fail_if_no_progress with_reducible apply Keeps.update) <;> first | ((with_reducible apply Or.inr); with_reducible rfl) | ((with_reducible apply Or.inl); first | exact rfl) | skip
    | fail_if_no_progress dsimp only)

theorem setEcc_keeps (a : Nat) (v : Nat) (s : State) : Keeps 2097152 s (setEcc a v s) := by
  have h0 := Keeps.refl 2097152 s
  unfold setEcc
  try dsimp only
  repeat' (first
    | intro _
    | with_reducible assumption
    | (fail_if_no_progress with_reducible apply Keeps.update) <;> first | ((with_reducible apply Or.inr); with_reducible rfl) | ((with_reducible apply Or.inl); first | exact rfl) | skip
    | fail_if_no_progress dsimp only)

theorem countCe_keeps (a : Nat) (s : State) : Keeps 12 s (countCe a s) := by
  have h0 := Keeps.refl 12 s
  unfold countCe
  try dsimp only
  repeat' (first
    | intro _
    | with_reducible assumption
    | ((with_reducible apply Keeps.step (State.bump_keeps ..)); exact rfl)
    | ((with_reducible apply Keeps.step (State.setReg_keeps ..)); exact rfl)
    | split
    | fail_if_no_progress dsimp only)

theorem countUe_keeps (a : Nat) (s : State) : Keeps 12 s (countUe a s) := by
  have h0 := Keeps.refl 12 s
  unfold countUe
  try dsimp only
  repeat' (first
    | intro _
    | with_reducible assumption
    | ((with_reducible apply Keeps.step (State.bump_keeps ..)); exact rfl)
    | ((with_reducible apply Keeps.step (State.setReg_keeps ..)); exact rfl)
    | split
    | fail_if_no_progress dsimp only)

theorem State.eccCheck_keeps (s : State) (n a : Nat) : Keeps 12 s (s.eccCheck n a).2 := by
  refine Keeps.foldlSnd _ _ (fun w r h => ?_) (Keeps.refl _ _)
  split
  · exact h
  · exact Keeps.step (countCe_keeps ..) (by decide) h
  · exact Keeps.step (countUe_keeps ..) (by decide) h

theorem State.setDma_keeps (s : State) (c : Nat) (d : Dma) : Keeps 2097152 s (State.setDma s c d) := by
  have h0 := Keeps.refl 2097152 s
  unfold State.setDma
  try dsimp only
  repeat' (first
    | intro _
    | with_reducible assumption
    | (fail_if_no_progress with_reducible apply Keeps.update) <;> first | ((with_reducible apply Or.inr); with_reducible rfl) | ((with_reducible apply Or.inl); first | exact rfl) | skip
    | fail_if_no_progress dsimp only)

theorem dmaHalt_keeps (c : Nat) (cause : Nat) (s : State) : Keeps 2097160 s (dmaHalt c cause s) := by
  have h0 := Keeps.refl 2097160 s
  unfold dmaHalt
  try dsimp only
  repeat' (first
    | intro _
    | with_reducible assumption
    | ((with_reducible apply Keeps.step (State.setDma_keeps ..)); exact rfl)
    | ((with_reducible apply Keeps.step (State.setFlag_keeps ..)); exact rfl)
    | ((with_reducible apply Keeps.step (State.setFld_keeps ..)); exact rfl)
    | fail_if_no_progress dsimp only)

theorem dmaReport_keeps (c : Nat) (s : State) : Keeps 8 s (dmaReport c s) := by
  have h0 := Keeps.refl 8 s
  unfold dmaReport
  try dsimp only
  repeat' (first
    | intro _
    | with_reducible assumption
    | ((with_reducible apply Keeps.step (State.setReg_keeps ..)); exact rfl)
    | fail_if_no_progress dsimp only)

theorem writeFailed_keeps (m : Master) (s : State) : Keeps 6291464 s (writeFailed m s) := by
  have h0 := Keeps.refl 6291464 s
  unfold writeFailed
  try dsimp only
  repeat' (first
    | with_reducible apply Keeps.ite
    | with_reducible apply Keeps.iteFst
    | with_reducible apply Keeps.iteSnd
    | intro _
    | with_reducible assumption
    | ((with_reducible apply Keeps.step (dmaHalt_keeps ..)); exact rfl)
    | ((with_reducible apply Keeps.step (dmaReport_keeps ..)); exact rfl)
    | split
    | (fail_if_no_progress with_reducible apply Keeps.update) <;> first | ((with_reducible apply Or.inr); with_reducible rfl) | ((with_reducible apply Or.inl); first | exact rfl) | skip
    | fail_if_no_progress dsimp only)

theorem heldWrite_keeps (m : Master) (a : Nat) (n : Nat) (s : State) (g : Nat) : Keeps 2097152 s (heldWrite m a n s g) := by
  have h0 := Keeps.refl 2097152 s
  unfold heldWrite
  try dsimp only
  repeat' (first
    | with_reducible apply Keeps.ite
    | with_reducible apply Keeps.iteFst
    | with_reducible apply Keeps.iteSnd
    | intro _
    | with_reducible assumption
    | ((with_reducible apply Keeps.step (setEcc_keeps ..)); exact rfl)
    | with_reducible apply Keeps.forEach
    | (fail_if_no_progress with_reducible apply Keeps.update) <;> first | ((with_reducible apply Or.inr); with_reducible rfl) | ((with_reducible apply Or.inl); first | exact rfl) | skip
    | fail_if_no_progress dsimp only)

theorem heldRmw_keeps (h : Held) (s : State) : Keeps 6291468 s (heldRmw h s).2 := by
  have h0 := Keeps.refl 6291468 s
  unfold heldRmw
  try dsimp only
  repeat' (first
    | with_reducible apply Keeps.ite
    | with_reducible apply Keeps.iteFst
    | with_reducible apply Keeps.iteSnd
    | intro _
    | with_reducible assumption
    | ((with_reducible apply Keeps.step (countCe_keeps ..)); exact rfl)
    | ((with_reducible apply Keeps.step (countUe_keeps ..)); exact rfl)
    | ((with_reducible apply Keeps.step (setEcc_keeps ..)); exact rfl)
    | ((with_reducible apply Keeps.step (writeFailed_keeps ..)); exact rfl)
    | with_reducible apply Keeps.forEach
    | with_reducible apply Keeps.foldl
    | with_reducible apply Keeps.foldlFst
    | with_reducible apply Keeps.foldlSnd
    | split
    | (fail_if_no_progress with_reducible apply Keeps.update) <;> first | ((with_reducible apply Or.inr); with_reducible rfl) | ((with_reducible apply Or.inl); first | exact rfl) | skip
    | fail_if_no_progress dsimp only)

theorem heldFlush_keeps (p : Held → Bool) (s : State) : Keeps 6291468 s (heldFlush p s).2 := by
  have h0 := Keeps.refl 6291468 s
  unfold heldFlush
  try dsimp only
  repeat' (first
    | intro _
    | with_reducible assumption
    | ((with_reducible apply Keeps.step (heldRmw_keeps ..)); exact rfl)
    | with_reducible apply Keeps.foldl
    | with_reducible apply Keeps.foldlFst
    | with_reducible apply Keeps.foldlSnd
    | fail_if_no_progress dsimp only)

theorem heldExpire_keeps (s : State) : Keeps 6291468 s (heldExpire s) := by
  have h0 := Keeps.refl 6291468 s
  unfold heldExpire
  try dsimp only
  repeat' (first
    | intro _
    | with_reducible assumption
    | ((with_reducible apply Keeps.step (heldFlush_keeps ..)); exact rfl)
    | fail_if_no_progress dsimp only)

theorem heldOf_keeps (m : Master) (s : State) : Keeps 6291468 s (heldOf m s) := by
  have h0 := Keeps.refl 6291468 s
  unfold heldOf
  try dsimp only
  repeat' (first
    | intro _
    | with_reducible assumption
    | ((with_reducible apply Keeps.step (heldFlush_keeps ..)); exact rfl)
    | fail_if_no_progress dsimp only)

theorem State.physWriteBy_keeps (s : State) (m : Master) (a : Nat) (l : List Byte) : Keeps 6291484 s (State.physWriteBy s m a l).2 := by
  have h0 := Keeps.refl 6291484 s
  unfold State.physWriteBy
  try dsimp only
  repeat' (first
    | with_reducible apply Keeps.ite
    | with_reducible apply Keeps.iteFst
    | with_reducible apply Keeps.iteSnd
    | intro _
    | with_reducible assumption
    | ((with_reducible apply Keeps.step (countCe_keeps ..)); exact rfl)
    | ((with_reducible apply Keeps.step (countUe_keeps ..)); exact rfl)
    | ((with_reducible apply Keeps.step (heldExpire_keeps ..)); exact rfl)
    | ((with_reducible apply Keeps.step (heldWrite_keeps ..)); exact rfl)
    | ((with_reducible apply Keeps.step (setEcc_keeps ..)); exact rfl)
    | with_reducible apply Keeps.foldl
    | with_reducible apply Keeps.foldlFst
    | with_reducible apply Keeps.foldlSnd
    | split
    | (fail_if_no_progress with_reducible apply Keeps.update) <;> first | ((with_reducible apply Or.inr); with_reducible rfl) | ((with_reducible apply Or.inl); first | exact rfl | exact ⟨rfl, memWrite_wf _ _ _⟩ | exact ⟨rfl, memFilter_wf _ _⟩ | exact ⟨rfl, memZero_wf _ _ _⟩ | exact ⟨rfl, memSet_wf _ _ _⟩) | skip
    | fail_if_no_progress dsimp only)

theorem State.physWrite_keeps (s : State) (a : Nat) (l : List Byte) : Keeps 6291484 s (State.physWrite s a l).2 := by
  have h0 := Keeps.refl 6291484 s
  unfold State.physWrite
  try dsimp only
  repeat' (first
    | intro _
    | with_reducible assumption
    | ((with_reducible apply Keeps.step (State.physWriteBy_keeps ..)); exact rfl)
    | ((with_reducible apply Keeps.step (heldFlush_keeps ..)); exact rfl)
    | fail_if_no_progress dsimp only)

theorem portsWritten_keeps (a : Nat) (n : Nat) (s : State) : Keeps 32 s (portsWritten a n s) := by
  have h0 := Keeps.refl 32 s
  unfold portsWritten
  try dsimp only
  repeat' (first
    | intro _
    | with_reducible assumption
    | ((with_reducible apply Keeps.step (State.portWritten_keeps ..)); exact rfl)
    | with_reducible apply Keeps.foldl
    | with_reducible apply Keeps.foldlFst
    | with_reducible apply Keeps.foldlSnd
    | fail_if_no_progress dsimp only)

theorem devWrite_keeps (a : Nat) (l : List Byte) (s : State) : Keeps 6291516 s (devWrite a l s).2 := by
  have h0 := Keeps.refl 6291516 s
  unfold devWrite
  try dsimp only
  repeat' (first
    | intro _
    | with_reducible assumption
    | ((with_reducible apply Keeps.step (State.physWrite_keeps ..)); exact rfl)
    | ((with_reducible apply Keeps.step (portsWritten_keeps ..)); exact rfl)
    | fail_if_no_progress dsimp only)

theorem fabricStore_keeps (p : Nat) (v : Nat) (s : State) : Keeps 6291516 s (fabricStore p v s) := by
  have h0 := Keeps.refl 6291516 s
  unfold fabricStore
  try dsimp only
  repeat' (first
    | intro _
    | with_reducible assumption
    | ((with_reducible apply Keeps.step (State.physWrite_keeps ..)); exact rfl)
    | ((with_reducible apply Keeps.step (State.portWritten_keeps ..)); exact rfl)
    | fail_if_no_progress dsimp only)

theorem State.setPort_keeps (s : State) (p : Nat) (l : List Nat) : Keeps 2097152 s (State.setPort s p l) := by
  have h0 := Keeps.refl 2097152 s
  unfold State.setPort
  try dsimp only
  repeat' (first
    | intro _
    | with_reducible assumption
    | (fail_if_no_progress with_reducible apply Keeps.update) <;> first | ((with_reducible apply Or.inr); with_reducible rfl) | ((with_reducible apply Or.inl); first | exact rfl) | skip
    | fail_if_no_progress dsimp only)

theorem freeBytes_keeps (n : Nat) (a : Nat) (s : State) : Keeps 20 s (freeBytes n a s) := by
  have h0 := Keeps.refl 20 s
  unfold freeBytes
  try dsimp only
  repeat' (first
    | intro _
    | with_reducible assumption
    | (fail_if_no_progress with_reducible apply Keeps.update) <;> first | ((with_reducible apply Or.inr); with_reducible rfl) | ((with_reducible apply Or.inl); first | exact rfl | exact ⟨rfl, memWrite_wf _ _ _⟩ | exact ⟨rfl, memFilter_wf _ _⟩ | exact ⟨rfl, memZero_wf _ _ _⟩ | exact ⟨rfl, memSet_wf _ _ _⟩) | skip
    | fail_if_no_progress dsimp only)

theorem dmaDrop_keeps (c : Nat) (s : State) : Keeps 2097180 s (dmaDrop c s) := by
  have h0 := Keeps.refl 2097180 s
  unfold dmaDrop
  try dsimp only
  repeat' (first
    | with_reducible apply Keeps.ite
    | with_reducible apply Keeps.iteFst
    | with_reducible apply Keeps.iteSnd
    | intro _
    | with_reducible assumption
    | ((with_reducible apply Keeps.step (State.setDma_keeps ..)); exact rfl)
    | ((with_reducible apply Keeps.step (State.setFlag_keeps ..)); exact rfl)
    | ((with_reducible apply Keeps.step (State.setReg_keeps ..)); exact rfl)
    | ((with_reducible apply Keeps.step (State.useFree_keeps ..)); exact rfl)
    | ((with_reducible apply Keeps.step (dmaHalt_keeps ..)); exact rfl)
    | ((with_reducible apply Keeps.step (freeBytes_keeps ..)); exact rfl)
    | fail_if_no_progress dsimp only)

theorem dmaBegin_keeps (c : Nat) (s : State) : Keeps 6291468 s (dmaBegin c s) := by
  have h0 := Keeps.refl 6291468 s
  unfold dmaBegin
  try dsimp only
  repeat' (first
    | with_reducible apply Keeps.ite
    | with_reducible apply Keeps.iteFst
    | with_reducible apply Keeps.iteSnd
    | intro _
    | with_reducible assumption
    | ((with_reducible apply Keeps.step (State.setDma_keeps ..)); exact rfl)
    | ((with_reducible apply Keeps.step (State.setFlag_keeps ..)); exact rfl)
    | ((with_reducible apply Keeps.step (State.setFld_keeps ..)); exact rfl)
    | ((with_reducible apply Keeps.step (State.setPort_keeps ..)); exact rfl)
    | ((with_reducible apply Keeps.step (dmaHalt_keeps ..)); exact rfl)
    | ((with_reducible apply Keeps.step (dmaReport_keeps ..)); exact rfl)
    | ((with_reducible apply Keeps.step (heldOf_keeps ..)); exact rfl)
    | with_reducible apply Keeps.foldl
    | with_reducible apply Keeps.foldlFst
    | with_reducible apply Keeps.foldlSnd
    | split
    | fail_if_no_progress dsimp only)

theorem dmaStart_keeps (c : Nat) (s : State) : Keeps 6291468 s (dmaStart c s) := by
  have h0 := Keeps.refl 6291468 s
  unfold dmaStart
  try dsimp only
  repeat' (first
    | with_reducible apply Keeps.ite
    | with_reducible apply Keeps.iteFst
    | with_reducible apply Keeps.iteSnd
    | intro _
    | with_reducible assumption
    | ((with_reducible apply Keeps.step (State.setFlag_keeps ..)); exact rfl)
    | ((with_reducible apply Keeps.step (dmaBegin_keeps ..)); exact rfl)
    | fail_if_no_progress dsimp only)

theorem dmaDoorbell_keeps (c : Nat) (s : State) : Keeps 6291484 s (dmaDoorbell c s) := by
  have h0 := Keeps.refl 6291484 s
  unfold dmaDoorbell
  try dsimp only
  repeat' (first
    | with_reducible apply Keeps.ite
    | with_reducible apply Keeps.iteFst
    | with_reducible apply Keeps.iteSnd
    | intro _
    | with_reducible assumption
    | ((with_reducible apply Keeps.step (dmaBegin_keeps ..)); exact rfl)
    | ((with_reducible apply Keeps.step (dmaDrop_keeps ..)); exact rfl)
    | ((with_reducible apply Keeps.step (dmaStart_keeps ..)); exact rfl)
    | fail_if_no_progress dsimp only)

theorem streamPush_keeps (port : Nat) (w : Nat) (s : State) : Keeps 2097160 s (streamPush port w s) := by
  have h0 := Keeps.refl 2097160 s
  unfold streamPush
  try dsimp only
  repeat' (first
    | with_reducible apply Keeps.ite
    | with_reducible apply Keeps.iteFst
    | with_reducible apply Keeps.iteSnd
    | intro _
    | with_reducible assumption
    | ((with_reducible apply Keeps.step (State.setDma_keeps ..)); exact rfl)
    | ((with_reducible apply Keeps.step (State.setFlag_keeps ..)); exact rfl)
    | ((with_reducible apply Keeps.step (State.setPort_keeps ..)); exact rfl)
    | with_reducible apply Keeps.forEach
    | fail_if_no_progress dsimp only)

theorem dmaPause_keeps (on : Bool) (s : State) : Keeps 2097152 s (dmaPause on s) := by
  have h0 := Keeps.refl 2097152 s
  unfold dmaPause
  try dsimp only
  repeat' (first
    | with_reducible apply Keeps.ite
    | with_reducible apply Keeps.iteFst
    | with_reducible apply Keeps.iteSnd
    | intro _
    | with_reducible assumption
    | ((with_reducible apply Keeps.step (State.setDma_keeps ..)); exact rfl)
    | with_reducible apply Keeps.forEach
    | split
    | fail_if_no_progress dsimp only)

theorem dmaElement_keeps (c : Nat) (s : State) : Keeps 6291516 s (dmaElement c s).2 := by
  have h0 := Keeps.refl 6291516 s
  unfold dmaElement
  try dsimp only
  repeat' (first
    | with_reducible apply Keeps.ite
    | with_reducible apply Keeps.iteFst
    | with_reducible apply Keeps.iteSnd
    | intro _
    | with_reducible assumption
    | ((with_reducible apply Keeps.step (State.eccCheck_keeps ..)); exact rfl)
    | ((with_reducible apply Keeps.step (State.physRead_keeps ..)); exact rfl)
    | ((with_reducible apply Keeps.step (State.physWriteBy_keeps ..)); exact rfl)
    | ((with_reducible apply Keeps.step (State.setDma_keeps ..)); exact rfl)
    | ((with_reducible apply Keeps.step (State.setPort_keeps ..)); exact rfl)
    | ((with_reducible apply Keeps.step (portsWritten_keeps ..)); exact rfl)
    | split
    | fail_if_no_progress dsimp only)

theorem dmaBurst_keeps (c n : Nat) (s : State) : Keeps 6291516 s (dmaBurst c n s) := by
  induction n generalizing s with
  | zero => exact Keeps.refl _ _
  | succ n ih =>
    have h : Keeps 6291516 s (dmaElement c s).2 := Keeps.step (dmaElement_keeps ..) rfl (Keeps.refl _ _)
    unfold dmaBurst
    dsimp only
    refine Keeps.ite (Keeps.ite ?_ fun _ => h.trans (ih _)) fun _ => Keeps.refl _ _
    exact Keeps.step (dmaHalt_keeps ..) rfl (Keeps.step (dmaReport_keeps ..) rfl h)

theorem dmaBeat_keeps (c : Nat) (s : State) : Keeps 6291516 s (dmaBeat c s) := by
  have h0 := Keeps.refl 6291516 s
  unfold dmaBeat
  try dsimp only
  repeat' (first
    | with_reducible apply Keeps.ite
    | with_reducible apply Keeps.iteFst
    | with_reducible apply Keeps.iteSnd
    | intro _
    | with_reducible assumption
    | ((with_reducible apply Keeps.step (State.setDma_keeps ..)); exact rfl)
    | ((with_reducible apply Keeps.step (dmaBurst_keeps ..)); exact rfl)
    | ((with_reducible apply Keeps.step (dmaReport_keeps ..)); exact rfl)
    | ((with_reducible apply Keeps.step (heldExpire_keeps ..)); exact rfl)
    | fail_if_no_progress dsimp only)

theorem scrubRun_keeps (lo : Nat) (hi : Nat) (s : State) : Keeps 2097164 s (scrubRun lo hi s) := by
  have h0 := Keeps.refl 2097164 s
  unfold scrubRun
  try dsimp only
  repeat' (first
    | with_reducible apply Keeps.ite
    | with_reducible apply Keeps.iteFst
    | with_reducible apply Keeps.iteSnd
    | intro _
    | with_reducible assumption
    | ((with_reducible apply Keeps.step (State.setReg_keeps ..)); exact rfl)
    | ((with_reducible apply Keeps.step (countUe_keeps ..)); exact rfl)
    | ((with_reducible apply Keeps.step (setEcc_keeps ..)); exact rfl)
    | with_reducible apply Keeps.forEach
    | (fail_if_no_progress with_reducible apply Keeps.update) <;> first | ((with_reducible apply Or.inr); with_reducible rfl) | ((with_reducible apply Or.inl); first | exact rfl) | skip
    | fail_if_no_progress dsimp only)

theorem memWait_keeps (w : MemWait) (s : State) : Keeps 2097152 s (memWait w s) := by
  have h0 := Keeps.refl 2097152 s
  unfold memWait
  try dsimp only
  repeat' (first
    | intro _
    | with_reducible assumption
    | (fail_if_no_progress with_reducible apply Keeps.update) <;> first | ((with_reducible apply Or.inr); with_reducible rfl) | ((with_reducible apply Or.inl); first | exact rfl) | skip
    | fail_if_no_progress dsimp only)

theorem setMemData_keeps (l : List Byte) (s : State) : Keeps 8 s (setMemData l s) := by
  have h0 := Keeps.refl 8 s
  unfold setMemData
  try dsimp only
  repeat' (first
    | with_reducible apply Keeps.ite
    | with_reducible apply Keeps.iteFst
    | with_reducible apply Keeps.iteSnd
    | intro _
    | with_reducible assumption
    | ((with_reducible apply Keeps.step (State.setReg_keeps ..)); exact rfl)
    | with_reducible apply Keeps.forEach
    | fail_if_no_progress dsimp only)

theorem memFailed_keeps (s : State) : Keeps 8 s (memFailed s) := by
  have h0 := Keeps.refl 8 s
  unfold memFailed
  try dsimp only
  repeat' (first
    | intro _
    | with_reducible assumption
    | ((with_reducible apply Keeps.step (State.setReg_keeps ..)); exact rfl)
    | with_reducible apply Keeps.forEach
    | fail_if_no_progress dsimp only)

theorem memReadAt_keeps (a : Nat) (n : Nat) (s : State) : Keeps 12 s (memReadAt a n s) := by
  have h0 := Keeps.refl 12 s
  unfold memReadAt
  try dsimp only
  repeat' (first
    | with_reducible apply Keeps.ite
    | with_reducible apply Keeps.iteFst
    | with_reducible apply Keeps.iteSnd
    | intro _
    | with_reducible assumption
    | ((with_reducible apply Keeps.step (State.eccCheck_keeps ..)); exact rfl)
    | ((with_reducible apply Keeps.step (State.physRead_keeps ..)); exact rfl)
    | ((with_reducible apply Keeps.step (State.setReg_keeps ..)); exact rfl)
    | ((with_reducible apply Keeps.step (memFailed_keeps ..)); exact rfl)
    | ((with_reducible apply Keeps.step (setMemData_keeps ..)); exact rfl)
    | fail_if_no_progress dsimp only)

theorem memWriteAt_keeps (a : Nat) (l : List Byte) (s : State) : Keeps 6291516 s (memWriteAt a l s) := by
  have h0 := Keeps.refl 6291516 s
  unfold memWriteAt
  try dsimp only
  repeat' (first
    | with_reducible apply Keeps.ite
    | with_reducible apply Keeps.iteFst
    | with_reducible apply Keeps.iteSnd
    | intro _
    | with_reducible assumption
    | ((with_reducible apply Keeps.step (State.setReg_keeps ..)); exact rfl)
    | ((with_reducible apply Keeps.step (devWrite_keeps ..)); exact rfl)
    | ((with_reducible apply Keeps.step (memFailed_keeps ..)); exact rfl)
    | fail_if_no_progress dsimp only)

theorem State.mramCheck_keeps (s : State) : Keeps 12 s (State.mramCheck s).2 := by
  have h0 := Keeps.refl 12 s
  unfold State.mramCheck
  try dsimp only
  repeat' (first
    | with_reducible apply Keeps.ite
    | with_reducible apply Keeps.iteFst
    | with_reducible apply Keeps.iteSnd
    | intro _
    | with_reducible assumption
    | ((with_reducible apply Keeps.step (State.useFree_keeps ..)); exact rfl)
    | ((with_reducible apply Keeps.step (countCe_keeps ..)); exact rfl)
    | ((with_reducible apply Keeps.step (countUe_keeps ..)); exact rfl)
    | with_reducible apply Keeps.foldl
    | with_reducible apply Keeps.foldlFst
    | with_reducible apply Keeps.foldlSnd
    | fail_if_no_progress dsimp only)

end Sys2Proof.Machine
end

