-- ==== Sys2Proof/Laws/KeepsAlarmOps.lean ====
section
/-!
SUPPORT. What each function of Machine/AlarmOps.lean keeps, and which parts of the state it leaves alone.
-/

namespace Sys2Proof.Machine

theorem State.setAlarm_keeps (s : State) (n : Nat) (a : Alarm) : Keeps 256 s (State.setAlarm s n a) := by
  have h0 := Keeps.refl 256 s
  unfold State.setAlarm
  try dsimp only
  repeat' (first
    | intro _
    | with_reducible assumption
    | (fail_if_no_progress with_reducible apply Keeps.update) <;> first | ((with_reducible apply Or.inr); with_reducible rfl) | ((with_reducible apply Or.inl); first | exact rfl) | skip
    | fail_if_no_progress dsimp only)

theorem placeInst_keeps (n : Nat) (at_ : Instant) (late : Bool) (s : State) : Keeps 256 s (placeInst n at_ late s) := by
  have h0 := Keeps.refl 256 s
  unfold placeInst
  try dsimp only
  repeat' (first
    | intro _
    | with_reducible assumption
    | ((with_reducible apply Keeps.step (State.setAlarm_keeps ..)); exact rfl)
    | fail_if_no_progress dsimp only)

theorem limitDeadlines_keeps (n : Nat) (at_ : Instant) (s : State) : Keeps 64 s (limitDeadlines n at_ s) := by
  have h0 := Keeps.refl 64 s
  unfold limitDeadlines
  try dsimp only
  repeat' (first
    | with_reducible apply Keeps.ite
    | with_reducible apply Keeps.iteFst
    | with_reducible apply Keeps.iteSnd
    | intro _
    | with_reducible assumption
    | ((with_reducible apply Keeps.step (State.setEngine_keeps ..)); exact rfl)
    | with_reducible apply Keeps.forEach
    | fail_if_no_progress dsimp only)

theorem alarmFix_keeps (n : Nat) (w : Nat) (wAt : Instant) (m : Instant) (s : State) : Keeps 320 s (alarmFix n w wAt m s) := by
  have h0 := Keeps.refl 320 s
  unfold alarmFix
  try dsimp only
  repeat' (first
    | with_reducible apply Keeps.ite
    | with_reducible apply Keeps.iteFst
    | with_reducible apply Keeps.iteSnd
    | intro _
    | with_reducible assumption
    | ((with_reducible apply Keeps.step (limitDeadlines_keeps ..)); exact rfl)
    | ((with_reducible apply Keeps.step (placeInst_keeps ..)); exact rfl)
    | fail_if_no_progress dsimp only)

theorem carrierAlarmFix_keeps (cg : Nat) (w : Nat) (wAt : Instant) (m : Instant) (s : State) : Keeps 320 s (carrierAlarmFix cg w wAt m s) := by
  have h0 := Keeps.refl 320 s
  unfold carrierAlarmFix
  try dsimp only
  repeat' (first
    | with_reducible apply Keeps.ite
    | with_reducible apply Keeps.iteFst
    | with_reducible apply Keeps.iteSnd
    | intro _
    | with_reducible assumption
    | ((with_reducible apply Keeps.step (alarmFix_keeps ..)); exact rfl)
    | with_reducible apply Keeps.forEach
    | fail_if_no_progress dsimp only)

theorem carrierAlarmCancel_keeps (cg : Nat) (s : State) : Keeps 256 s (carrierAlarmCancel cg s) := by
  have h0 := Keeps.refl 256 s
  unfold carrierAlarmCancel
  try dsimp only
  repeat' (first
    | with_reducible apply Keeps.ite
    | with_reducible apply Keeps.iteFst
    | with_reducible apply Keeps.iteSnd
    | intro _
    | with_reducible assumption
    | ((with_reducible apply Keeps.step (State.setAlarm_keeps ..)); exact rfl)
    | with_reducible apply Keeps.forEach
    | fail_if_no_progress dsimp only)

end Sys2Proof.Machine
end

