-- ==== Sys2Proof/Laws/KeepsPwmOps.lean ====
section
/-!
SUPPORT. What each function of Machine/PwmOps.lean keeps, and which parts of the state it leaves alone.
-/

namespace Sys2Proof.Machine

theorem State.setCarrier_keeps (s : State) (n : Nat) (c : Carrier) : Keeps 128 s (State.setCarrier s n c) := by
  have h0 := Keeps.refl 128 s
  unfold State.setCarrier
  try dsimp only
  repeat' (first
    | intro _
    | with_reducible assumption
    | (fail_if_no_progress with_reducible apply Keeps.update) <;> first | ((with_reducible apply Or.inr); with_reducible rfl) | ((with_reducible apply Or.inl); first | exact rfl) | skip
    | fail_if_no_progress dsimp only)

theorem State.setChan_keeps (s : State) (c : Nat) (x : Chan) : Keeps 128 s (State.setChan s c x) := by
  have h0 := Keeps.refl 128 s
  unfold State.setChan
  try dsimp only
  repeat' (first
    | intro _
    | with_reducible assumption
    | (fail_if_no_progress with_reducible apply Keeps.update) <;> first | ((with_reducible apply Or.inr); with_reducible rfl) | ((with_reducible apply Or.inl); first | exact rfl) | skip
    | fail_if_no_progress dsimp only)

theorem State.setShadow_keeps (s : State) (p : Nat) (x : Shadow) : Keeps 128 s (State.setShadow s p x) := by
  have h0 := Keeps.refl 128 s
  unfold State.setShadow
  try dsimp only
  repeat' (first
    | intro _
    | with_reducible assumption
    | (fail_if_no_progress with_reducible apply Keeps.update) <;> first | ((with_reducible apply Or.inr); with_reducible rfl) | ((with_reducible apply Or.inl); first | exact rfl) | skip
    | fail_if_no_progress dsimp only)

theorem State.setSnap_keeps (s : State) (g : Nat) (x : Option Snapshot) : Keeps 128 s (State.setSnap s g x) := by
  have h0 := Keeps.refl 128 s
  unfold State.setSnap
  try dsimp only
  repeat' (first
    | intro _
    | with_reducible assumption
    | (fail_if_no_progress with_reducible apply Keeps.update) <;> first | ((with_reducible apply Or.inr); with_reducible rfl) | ((with_reducible apply Or.inl); first | exact rfl) | skip
    | fail_if_no_progress dsimp only)

theorem State.setEff_keeps (s : State) (p : Nat) (v : Nat) : Keeps 128 s (State.setEff s p v) := by
  have h0 := Keeps.refl 128 s
  unfold State.setEff
  try dsimp only
  repeat' (first
    | with_reducible apply Keeps.ite
    | with_reducible apply Keeps.iteFst
    | with_reducible apply Keeps.iteSnd
    | intro _
    | with_reducible assumption
    | (fail_if_no_progress with_reducible apply Keeps.update) <;> first | ((with_reducible apply Or.inr); with_reducible rfl) | ((with_reducible apply Or.inl); first | exact rfl) | skip
    | fail_if_no_progress dsimp only)

theorem setOutput_keeps (c : Nat) (on : Bool) (la : Instant) (s : State) : Keeps 128 s (setOutput c on la s) := by
  have h0 := Keeps.refl 128 s
  unfold setOutput
  try dsimp only
  repeat' (first
    | with_reducible apply Keeps.ite
    | with_reducible apply Keeps.iteFst
    | with_reducible apply Keeps.iteSnd
    | intro _
    | with_reducible assumption
    | ((with_reducible apply Keeps.step (State.setChan_keeps ..)); exact rfl)
    | (fail_if_no_progress with_reducible apply Keeps.update) <;> first | ((with_reducible apply Or.inr); with_reducible rfl) | ((with_reducible apply Or.inl); first | exact rfl) | skip
    | fail_if_no_progress dsimp only)

theorem dropInterval_keeps (c : Nat) (s : State) : Keeps 12 s (dropInterval c s) := by
  have h0 := Keeps.refl 12 s
  unfold dropInterval
  try dsimp only
  repeat' (first
    | intro _
    | with_reducible assumption
    | ((with_reducible apply Keeps.step (State.bump_keeps ..)); exact rfl)
    | ((with_reducible apply Keeps.step (State.setFlag_keeps ..)); exact rfl)
    | fail_if_no_progress dsimp only)

theorem carryLost_keeps (s : State) : Keeps 12 s (carryLost s) := by
  have h0 := Keeps.refl 12 s
  unfold carryLost
  try dsimp only
  repeat' (first
    | intro _
    | with_reducible assumption
    | ((with_reducible apply Keeps.step (State.bump_keeps ..)); exact rfl)
    | ((with_reducible apply Keeps.step (State.setFlag_keeps ..)); exact rfl)
    | fail_if_no_progress dsimp only)

theorem addCarry_keeps (c : Nat) (on : Bool) (w : Nat) (s : State) : Keeps 140 s (addCarry c on w s) := by
  have h0 := Keeps.refl 140 s
  unfold addCarry
  try dsimp only
  repeat' (first
    | with_reducible apply Keeps.ite
    | with_reducible apply Keeps.iteFst
    | with_reducible apply Keeps.iteSnd
    | intro _
    | with_reducible assumption
    | ((with_reducible apply Keeps.step (State.setChan_keeps ..)); exact rfl)
    | ((with_reducible apply Keeps.step (carryLost_keeps ..)); exact rfl)
    | fail_if_no_progress dsimp only)

theorem zeroCarries_keeps (c : Nat) (s : State) : Keeps 128 s (zeroCarries c s) := by
  have h0 := Keeps.refl 128 s
  unfold zeroCarries
  try dsimp only
  repeat' (first
    | intro _
    | with_reducible assumption
    | ((with_reducible apply Keeps.step (State.setChan_keeps ..)); exact rfl)
    | fail_if_no_progress dsimp only)

theorem holdShoot_keeps (c : Nat) (s : State) : Keeps 140 s (holdShoot c s) := by
  have h0 := Keeps.refl 140 s
  unfold holdShoot
  try dsimp only
  repeat' (first
    | intro _
    | with_reducible assumption
    | ((with_reducible apply Keeps.step (State.bump_keeps ..)); exact rfl)
    | ((with_reducible apply Keeps.step (State.setChan_keeps ..)); exact rfl)
    | ((with_reducible apply Keeps.step (State.setFlag_keeps ..)); exact rfl)
    | fail_if_no_progress dsimp only)

theorem stage67_keeps (c : Nat) (la : Instant) (s : State) : Keeps 128 s (stage67 c la s) := by
  have h0 := Keeps.refl 128 s
  unfold stage67
  try dsimp only
  repeat' (first
    | with_reducible apply Keeps.ite
    | with_reducible apply Keeps.iteFst
    | with_reducible apply Keeps.iteSnd
    | intro _
    | with_reducible assumption
    | ((with_reducible apply Keeps.step (setOutput_keeps ..)); exact rfl)
    | fail_if_no_progress dsimp only)

theorem yieldOdd_keeps (c : Nat) (la : Instant) (s : State) : Keeps 140 s (yieldOdd c la s) := by
  have h0 := Keeps.refl 140 s
  unfold yieldOdd
  try dsimp only
  repeat' (first
    | with_reducible apply Keeps.ite
    | with_reducible apply Keeps.iteFst
    | with_reducible apply Keeps.iteSnd
    | intro _
    | with_reducible assumption
    | ((with_reducible apply Keeps.step (State.setChan_keeps ..)); exact rfl)
    | ((with_reducible apply Keeps.step (holdShoot_keeps ..)); exact rfl)
    | (fail_if_no_progress with_reducible apply Keeps.update) <;> first | ((with_reducible apply Or.inr); with_reducible rfl) | ((with_reducible apply Or.inl); first | exact rfl) | skip
    | fail_if_no_progress dsimp only)

theorem stage5On_keeps (c : Nat) (la : Instant) (s : State) : Keeps 140 s (stage5On c la s) := by
  have h0 := Keeps.refl 140 s
  unfold stage5On
  try dsimp only
  repeat' (first
    | with_reducible apply Keeps.ite
    | with_reducible apply Keeps.iteFst
    | with_reducible apply Keeps.iteSnd
    | intro _
    | with_reducible assumption
    | ((with_reducible apply Keeps.step (State.setChan_keeps ..)); exact rfl)
    | ((with_reducible apply Keeps.step (holdShoot_keeps ..)); exact rfl)
    | ((with_reducible apply Keeps.step (stage67_keeps ..)); exact rfl)
    | ((with_reducible apply Keeps.step (yieldOdd_keeps ..)); exact rfl)
    | fail_if_no_progress dsimp only)

theorem stage5Off_keeps (c : Nat) (la : Instant) (s : State) : Keeps 140 s (stage5Off c la s) := by
  have h0 := Keeps.refl 140 s
  unfold stage5Off
  try dsimp only
  repeat' (first
    | with_reducible apply Keeps.ite
    | with_reducible apply Keeps.iteFst
    | with_reducible apply Keeps.iteSnd
    | intro _
    | with_reducible assumption
    | ((with_reducible apply Keeps.step (State.setChan_keeps ..)); exact rfl)
    | ((with_reducible apply Keeps.step (dropInterval_keeps ..)); exact rfl)
    | ((with_reducible apply Keeps.step (setOutput_keeps ..)); exact rfl)
    | fail_if_no_progress dsimp only)

theorem stage5_keeps (e : Instant × Bool × Nat) (s : State) : Keeps 140 s (stage5 e s) := by
  have h0 := Keeps.refl 140 s
  unfold stage5
  try dsimp only
  repeat' (first
    | with_reducible apply Keeps.ite
    | with_reducible apply Keeps.iteFst
    | with_reducible apply Keeps.iteSnd
    | intro _
    | with_reducible assumption
    | ((with_reducible apply Keeps.step (stage5Off_keeps ..)); exact rfl)
    | ((with_reducible apply Keeps.step (stage5On_keeps ..)); exact rfl)
    | fail_if_no_progress dsimp only)

theorem duePair_keeps (k : Nat) (la : Instant) (s : State) : Keeps 140 s (duePair k la s) := by
  have h0 := Keeps.refl 140 s
  unfold duePair
  try dsimp only
  repeat' (first
    | intro _
    | with_reducible assumption
    | ((with_reducible apply Keeps.step (State.setChan_keeps ..)); exact rfl)
    | ((with_reducible apply Keeps.step (stage5_keeps ..)); exact rfl)
    | with_reducible apply Keeps.forEach
    | with_reducible apply Keeps.foldl
    | with_reducible apply Keeps.foldlFst
    | with_reducible apply Keeps.foldlSnd
    | fail_if_no_progress dsimp only)

theorem turnOnRequest_keeps (c : Nat) (la : Instant) (s : State) : Keeps 140 s (turnOnRequest c la s) := by
  have h0 := Keeps.refl 140 s
  unfold turnOnRequest
  try dsimp only
  repeat' (first
    | with_reducible apply Keeps.ite
    | with_reducible apply Keeps.iteFst
    | with_reducible apply Keeps.iteSnd
    | intro _
    | with_reducible assumption
    | ((with_reducible apply Keeps.step (State.setChan_keeps ..)); exact rfl)
    | ((with_reducible apply Keeps.step (State.setFlag_keeps ..)); exact rfl)
    | ((with_reducible apply Keeps.step (addCarry_keeps ..)); exact rfl)
    | ((with_reducible apply Keeps.step (dropInterval_keeps ..)); exact rfl)
    | ((with_reducible apply Keeps.step (duePair_keeps ..)); exact rfl)
    | fail_if_no_progress dsimp only)

theorem turnOffRequest_keeps (c : Nat) (la : Instant) (s : State) : Keeps 140 s (turnOffRequest c la s) := by
  have h0 := Keeps.refl 140 s
  unfold turnOffRequest
  try dsimp only
  repeat' (first
    | with_reducible apply Keeps.ite
    | with_reducible apply Keeps.iteFst
    | with_reducible apply Keeps.iteSnd
    | intro _
    | with_reducible assumption
    | ((with_reducible apply Keeps.step (State.setChan_keeps ..)); exact rfl)
    | ((with_reducible apply Keeps.step (State.setFlag_keeps ..)); exact rfl)
    | ((with_reducible apply Keeps.step (addCarry_keeps ..)); exact rfl)
    | ((with_reducible apply Keeps.step (dropInterval_keeps ..)); exact rfl)
    | ((with_reducible apply Keeps.step (duePair_keeps ..)); exact rfl)
    | fail_if_no_progress dsimp only)

theorem chanEval_keeps (c : Nat) (la : Instant) (s : State) : Keeps 140 s (chanEval c la s) := by
  have h0 := Keeps.refl 140 s
  unfold chanEval
  try dsimp only
  repeat' (first
    | with_reducible apply Keeps.ite
    | with_reducible apply Keeps.iteFst
    | with_reducible apply Keeps.iteSnd
    | intro _
    | with_reducible assumption
    | ((with_reducible apply Keeps.step (State.setChan_keeps ..)); exact rfl)
    | ((with_reducible apply Keeps.step (turnOffRequest_keeps ..)); exact rfl)
    | ((with_reducible apply Keeps.step (turnOnRequest_keeps ..)); exact rfl)
    | fail_if_no_progress dsimp only)

theorem evalPair_keeps (k : Nat) (la : Instant) (s : State) : Keeps 140 s (evalPair k la s) := by
  have h0 := Keeps.refl 140 s
  unfold evalPair
  try dsimp only
  repeat' (first
    | intro _
    | with_reducible assumption
    | ((with_reducible apply Keeps.step (chanEval_keeps ..)); exact rfl)
    | with_reducible apply Keeps.forEach
    | fail_if_no_progress dsimp only)

theorem forceOff_keeps (c : Nat) (s : State) : Keeps 128 s (forceOff c s) := by
  have h0 := Keeps.refl 128 s
  unfold forceOff
  try dsimp only
  repeat' (first
    | with_reducible apply Keeps.ite
    | with_reducible apply Keeps.iteFst
    | with_reducible apply Keeps.iteSnd
    | intro _
    | with_reducible assumption
    | ((with_reducible apply Keeps.step (State.setChan_keeps ..)); exact rfl)
    | ((with_reducible apply Keeps.step (setOutput_keeps ..)); exact rfl)
    | ((with_reducible apply Keeps.step (zeroCarries_keeps ..)); exact rfl)
    | fail_if_no_progress dsimp only)

theorem forceOffAll_keeps (l : List Nat) (s : State) : Keeps 132 s (forceOffAll l s) := by
  have h0 := Keeps.refl 132 s
  unfold forceOffAll
  try dsimp only
  repeat' (first
    | intro _
    | with_reducible assumption
    | ((with_reducible apply Keeps.step (State.useFree_keeps ..)); exact rfl)
    | ((with_reducible apply Keeps.step (forceOff_keeps ..)); exact rfl)
    | with_reducible apply Keeps.forEach
    | fail_if_no_progress dsimp only)

theorem clampCompares_keeps (c : Nat) (s : State) : Keeps 140 s (clampCompares c s) := by
  have h0 := Keeps.refl 140 s
  unfold clampCompares
  try dsimp only
  repeat' (first
    | with_reducible apply Keeps.ite
    | with_reducible apply Keeps.iteFst
    | with_reducible apply Keeps.iteSnd
    | intro _
    | with_reducible assumption
    | ((with_reducible apply Keeps.step (State.bump_keeps ..)); exact rfl)
    | ((with_reducible apply Keeps.step (State.setEff_keeps ..)); exact rfl)
    | ((with_reducible apply Keeps.step (State.setFlag_keeps ..)); exact rfl)
    | with_reducible apply Keeps.foldl
    | with_reducible apply Keeps.foldlFst
    | with_reducible apply Keeps.foldlSnd
    | fail_if_no_progress dsimp only)

theorem setVals_keeps (vals : List (Nat × Nat)) (c : Nat) (s : State) : Keeps 140 s (setVals vals c s) := by
  have h0 := Keeps.refl 140 s
  unfold setVals
  try dsimp only
  repeat' (first
    | with_reducible apply Keeps.ite
    | with_reducible apply Keeps.iteFst
    | with_reducible apply Keeps.iteSnd
    | intro _
    | with_reducible assumption
    | ((with_reducible apply Keeps.step (State.setChan_keeps ..)); exact rfl)
    | ((with_reducible apply Keeps.step (State.setEff_keeps ..)); exact rfl)
    | ((with_reducible apply Keeps.step (clampCompares_keeps ..)); exact rfl)
    | ((with_reducible apply Keeps.step (zeroCarries_keeps ..)); exact rfl)
    | with_reducible apply Keeps.forEach
    | fail_if_no_progress dsimp only)

theorem limitCarries_keeps (c : Nat) (s : State) : Keeps 140 s (limitCarries c s) := by
  have h0 := Keeps.refl 140 s
  unfold limitCarries
  try dsimp only
  repeat' (first
    | with_reducible apply Keeps.ite
    | with_reducible apply Keeps.iteFst
    | with_reducible apply Keeps.iteSnd
    | intro _
    | with_reducible assumption
    | ((with_reducible apply Keeps.step (State.setChan_keeps ..)); exact rfl)
    | ((with_reducible apply Keeps.step (carryLost_keeps ..)); exact rfl)
    | fail_if_no_progress dsimp only)

theorem applyPend_keeps (n : Nat) (s : State) : Keeps 140 s (applyPend n s).1 := by
  have h0 := Keeps.refl 140 s
  unfold applyPend
  try dsimp only
  repeat' (first
    | intro _
    | with_reducible assumption
    | ((with_reducible apply Keeps.step (State.setCarrier_keeps ..)); exact rfl)
    | ((with_reducible apply Keeps.step (State.setReg_keeps ..)); exact rfl)
    | ((with_reducible apply Keeps.step (limitCarries_keeps ..)); exact rfl)
    | ((with_reducible apply Keeps.step (setVals_keeps ..)); exact rfl)
    | with_reducible apply Keeps.forEach
    | split
    | fail_if_no_progress dsimp only)

theorem carrierTake_keeps (vals : List (Nat × Nat)) (n : Nat) (s : State) : Keeps 140 s (carrierTake vals n s) := by
  have h0 := Keeps.refl 140 s
  unfold carrierTake
  try dsimp only
  repeat' (first
    | with_reducible apply Keeps.ite
    | with_reducible apply Keeps.iteFst
    | with_reducible apply Keeps.iteSnd
    | intro _
    | with_reducible assumption
    | ((with_reducible apply Keeps.step (State.setCarrier_keeps ..)); exact rfl)
    | ((with_reducible apply Keeps.step (applyPend_keeps ..)); exact rfl)
    | ((with_reducible apply Keeps.step (setVals_keeps ..)); exact rfl)
    | with_reducible apply Keeps.forEach
    | fail_if_no_progress dsimp only)

theorem transfer_keeps (g : Nat) (la : Instant) (s : State) : Keeps 140 s (transfer g la s) := by
  have h0 := Keeps.refl 140 s
  unfold transfer
  try dsimp only
  repeat' (first
    | with_reducible apply Keeps.ite
    | with_reducible apply Keeps.iteFst
    | with_reducible apply Keeps.iteSnd
    | intro _
    | with_reducible assumption
    | ((with_reducible apply Keeps.step (State.bump_keeps ..)); exact rfl)
    | ((with_reducible apply Keeps.step (State.setFlag_keeps ..)); exact rfl)
    | ((with_reducible apply Keeps.step (State.setShadow_keeps ..)); exact rfl)
    | ((with_reducible apply Keeps.step (State.setSnap_keeps ..)); exact rfl)
    | ((with_reducible apply Keeps.step (carrierTake_keeps ..)); exact rfl)
    | ((with_reducible apply Keeps.step (evalPair_keeps ..)); exact rfl)
    | with_reducible apply Keeps.forEach
    | split
    | fail_if_no_progress dsimp only)

theorem takePlace_keeps (block : Nat) (place : Nat) (t : Instant) (s : State) : Keeps 128 s (takePlace block place t s) := by
  have h0 := Keeps.refl 128 s
  unfold takePlace
  try dsimp only
  repeat' (first
    | intro _
    | with_reducible assumption
    | (fail_if_no_progress with_reducible apply Keeps.update) <;> first | ((with_reducible apply Or.inr); with_reducible rfl) | ((with_reducible apply Or.inl); first | exact rfl) | skip
    | fail_if_no_progress dsimp only)

theorem snapshotEligible_keeps (t : Instant) (g : Nat) (s : State) : Keeps 140 s (snapshotEligible t g s) := by
  have h0 := Keeps.refl 140 s
  unfold snapshotEligible
  try dsimp only
  repeat' (first
    | with_reducible apply Keeps.ite
    | with_reducible apply Keeps.iteFst
    | with_reducible apply Keeps.iteSnd
    | intro _
    | with_reducible assumption
    | ((with_reducible apply Keeps.step (State.setSnap_keeps ..)); exact rfl)
    | ((with_reducible apply Keeps.step (transfer_keeps ..)); exact rfl)
    | split
    | fail_if_no_progress dsimp only)

theorem setLoadStatus_keeps (i : Nat) (b : Bool) (s : State) : Keeps 128 s (setLoadStatus i b s) := by
  have h0 := Keeps.refl 128 s
  unfold setLoadStatus
  try dsimp only
  repeat' (first
    | intro _
    | with_reducible assumption
    | (fail_if_no_progress with_reducible apply Keeps.update) <;> first | ((with_reducible apply Or.inr); with_reducible rfl) | ((with_reducible apply Or.inl); first | exact rfl) | skip
    | fail_if_no_progress dsimp only)

theorem tornGroup_keeps (g : Nat) (s : State) : Keeps 136 s (tornGroup g s) := by
  have h0 := Keeps.refl 136 s
  unfold tornGroup
  try dsimp only
  repeat' (first
    | intro _
    | with_reducible assumption
    | ((with_reducible apply Keeps.step (State.setFlag_keeps ..)); exact rfl)
    | ((with_reducible apply Keeps.step (setLoadStatus_keeps ..)); exact rfl)
    | fail_if_no_progress dsimp only)

theorem cancelSnapshot_keeps (g : Nat) (s : State) : Keeps 136 s (cancelSnapshot g s) := by
  have h0 := Keeps.refl 136 s
  unfold cancelSnapshot
  try dsimp only
  repeat' (first
    | intro _
    | with_reducible assumption
    | ((with_reducible apply Keeps.step (State.setFlag_keeps ..)); exact rfl)
    | ((with_reducible apply Keeps.step (State.setSnap_keeps ..)); exact rfl)
    | ((with_reducible apply Keeps.step (setLoadStatus_keeps ..)); exact rfl)
    | fail_if_no_progress dsimp only)

theorem loadGroup_keeps (author : Option (Nat × Nat)) (g : Nat) (s : State) : Keeps 140 s (loadGroup author g s) := by
  have h0 := Keeps.refl 140 s
  unfold loadGroup
  try dsimp only
  repeat' (first
    | with_reducible apply Keeps.ite
    | with_reducible apply Keeps.iteFst
    | with_reducible apply Keeps.iteSnd
    | intro _
    | with_reducible assumption
    | ((with_reducible apply Keeps.step (State.setFlag_keeps ..)); exact rfl)
    | ((with_reducible apply Keeps.step (State.setSnap_keeps ..)); exact rfl)
    | ((with_reducible apply Keeps.step (setLoadStatus_keeps ..)); exact rfl)
    | ((with_reducible apply Keeps.step (snapshotEligible_keeps ..)); exact rfl)
    | ((with_reducible apply Keeps.step (tornGroup_keeps ..)); exact rfl)
    | fail_if_no_progress dsimp only)

theorem loadAllGroups_keeps (author : Option (Nat × Nat)) (mask : Nat) (s : State) : Keeps 140 s (loadAllGroups author mask s) := by
  have h0 := Keeps.refl 140 s
  unfold loadAllGroups
  try dsimp only
  repeat' (first
    | intro _
    | with_reducible assumption
    | ((with_reducible apply Keeps.step (loadGroup_keeps ..)); exact rfl)
    | with_reducible apply Keeps.forEach
    | fail_if_no_progress dsimp only)

theorem writeShadow_keeps (author : Option (Nat × Nat)) (p : Nat) (v : Nat) (s : State) : Keeps 224 s (writeShadow author p v s) := by
  have h0 := Keeps.refl 224 s
  unfold writeShadow
  try dsimp only
  repeat' (first
    | with_reducible apply Keeps.ite
    | with_reducible apply Keeps.iteFst
    | with_reducible apply Keeps.iteSnd
    | intro _
    | with_reducible assumption
    | ((with_reducible apply Keeps.step (State.setEngine_keeps ..)); exact rfl)
    | ((with_reducible apply Keeps.step (State.setShadow_keeps ..)); exact rfl)
    | split
    | (fail_if_no_progress with_reducible apply Keeps.update) <;> first | ((with_reducible apply Or.inr); with_reducible rfl) | ((with_reducible apply Or.inl); first | exact rfl) | skip
    | fail_if_no_progress dsimp only)

theorem invalidateWrites_keeps (e : Nat) (s : State) : Keeps 200 s (invalidateWrites e s) := by
  have h0 := Keeps.refl 200 s
  unfold invalidateWrites
  try dsimp only
  repeat' (first
    | with_reducible apply Keeps.ite
    | with_reducible apply Keeps.iteFst
    | with_reducible apply Keeps.iteSnd
    | intro _
    | with_reducible assumption
    | ((with_reducible apply Keeps.step (State.setEngine_keeps ..)); exact rfl)
    | ((with_reducible apply Keeps.step (State.setShadow_keeps ..)); exact rfl)
    | ((with_reducible apply Keeps.step (State.setSnap_keeps ..)); exact rfl)
    | ((with_reducible apply Keeps.step (tornGroup_keeps ..)); exact rfl)
    | with_reducible apply Keeps.forEach
    | split
    | fail_if_no_progress dsimp only)

theorem cancelLoads_keeps (e : Nat) (s : State) : Keeps 136 s (cancelLoads e s) := by
  have h0 := Keeps.refl 136 s
  unfold cancelLoads
  try dsimp only
  repeat' (first
    | with_reducible apply Keeps.ite
    | with_reducible apply Keeps.iteFst
    | with_reducible apply Keeps.iteSnd
    | intro _
    | with_reducible assumption
    | ((with_reducible apply Keeps.step (cancelSnapshot_keeps ..)); exact rfl)
    | with_reducible apply Keeps.forEach
    | split
    | fail_if_no_progress dsimp only)

theorem snapshotsEligible_keeps (t : Instant) (s : State) : Keeps 140 s (snapshotsEligible t s) := by
  have h0 := Keeps.refl 140 s
  unfold snapshotsEligible
  try dsimp only
  repeat' (first
    | intro _
    | with_reducible assumption
    | ((with_reducible apply Keeps.step (snapshotEligible_keeps ..)); exact rfl)
    | with_reducible apply Keeps.forEach
    | fail_if_no_progress dsimp only)

theorem wrapChan_keeps (c : Nat) (s : State) : Keeps 140 s (wrapChan c s) := by
  have h0 := Keeps.refl 140 s
  unfold wrapChan
  try dsimp only
  repeat' (first
    | with_reducible apply Keeps.ite
    | with_reducible apply Keeps.iteFst
    | with_reducible apply Keeps.iteSnd
    | intro _
    | with_reducible assumption
    | ((with_reducible apply Keeps.step (State.setChan_keeps ..)); exact rfl)
    | ((with_reducible apply Keeps.step (carryLost_keeps ..)); exact rfl)
    | ((with_reducible apply Keeps.step (zeroCarries_keeps ..)); exact rfl)
    | (fail_if_no_progress with_reducible apply Keeps.update) <;> first | ((with_reducible apply Or.inr); with_reducible rfl) | ((with_reducible apply Or.inl); first | exact rfl) | skip
    | fail_if_no_progress dsimp only)

theorem wrapResume_keeps (la : Instant) (cut : List Nat) (c : Nat) (s : State) : Keeps 140 s (wrapResume la cut c s) := by
  have h0 := Keeps.refl 140 s
  unfold wrapResume
  try dsimp only
  repeat' (first
    | with_reducible apply Keeps.ite
    | with_reducible apply Keeps.iteFst
    | with_reducible apply Keeps.iteSnd
    | intro _
    | with_reducible assumption
    | ((with_reducible apply Keeps.step (State.setChan_keeps ..)); exact rfl)
    | ((with_reducible apply Keeps.step (stage5On_keeps ..)); exact rfl)
    | ((with_reducible apply Keeps.step (turnOnRequest_keeps ..)); exact rfl)
    | fail_if_no_progress dsimp only)

theorem wrapCarrier_keeps (n : Nat) (s : State) : Keeps 460 s (wrapCarrier n s) := by
  have h0 := Keeps.refl 460 s
  unfold wrapCarrier
  try dsimp only
  repeat' (first
    | intro _
    | with_reducible assumption
    | ((with_reducible apply Keeps.step (State.setCarrier_keeps ..)); exact rfl)
    | ((with_reducible apply Keeps.step (applyPend_keeps ..)); exact rfl)
    | ((with_reducible apply Keeps.step (carrierAlarmFix_keeps ..)); exact rfl)
    | ((with_reducible apply Keeps.step (duePair_keeps ..)); exact rfl)
    | ((with_reducible apply Keeps.step (evalPair_keeps ..)); exact rfl)
    | ((with_reducible apply Keeps.step (transfer_keeps ..)); exact rfl)
    | ((with_reducible apply Keeps.step (wrapChan_keeps ..)); exact rfl)
    | ((with_reducible apply Keeps.step (wrapResume_keeps ..)); exact rfl)
    | with_reducible apply Keeps.forEach
    | (fail_if_no_progress with_reducible apply Keeps.update) <;> first | ((with_reducible apply Or.inr); with_reducible rfl) | ((with_reducible apply Or.inl); first | exact rfl) | skip
    | fail_if_no_progress dsimp only)

theorem startCarrier_keeps (ts : Instant) (n : Nat) (s : State) : Keeps 460 s (startCarrier ts n s) := by
  have h0 := Keeps.refl 460 s
  unfold startCarrier
  try dsimp only
  repeat' (first
    | with_reducible apply Keeps.ite
    | with_reducible apply Keeps.iteFst
    | with_reducible apply Keeps.iteSnd
    | intro _
    | with_reducible assumption
    | ((with_reducible apply Keeps.step (State.setCarrier_keeps ..)); exact rfl)
    | ((with_reducible apply Keeps.step (State.setRegBit_keeps ..)); exact rfl)
    | ((with_reducible apply Keeps.step (evalPair_keeps ..)); exact rfl)
    | ((with_reducible apply Keeps.step (wrapCarrier_keeps ..)); exact rfl)
    | with_reducible apply Keeps.forEach
    | fail_if_no_progress dsimp only)

theorem stopCarrier_keeps (la : Instant) (n : Nat) (s : State) : Keeps 396 s (stopCarrier la n s) := by
  have h0 := Keeps.refl 396 s
  unfold stopCarrier
  try dsimp only
  repeat' (first
    | with_reducible apply Keeps.ite
    | with_reducible apply Keeps.iteFst
    | with_reducible apply Keeps.iteSnd
    | intro _
    | with_reducible assumption
    | ((with_reducible apply Keeps.step (State.setCarrier_keeps ..)); exact rfl)
    | ((with_reducible apply Keeps.step (State.setChan_keeps ..)); exact rfl)
    | ((with_reducible apply Keeps.step (State.setRegBit_keeps ..)); exact rfl)
    | ((with_reducible apply Keeps.step (applyPend_keeps ..)); exact rfl)
    | ((with_reducible apply Keeps.step (carrierAlarmCancel_keeps ..)); exact rfl)
    | ((with_reducible apply Keeps.step (evalPair_keeps ..)); exact rfl)
    | ((with_reducible apply Keeps.step (transfer_keeps ..)); exact rfl)
    | ((with_reducible apply Keeps.step (zeroCarries_keeps ..)); exact rfl)
    | with_reducible apply Keeps.forEach
    | split
    | fail_if_no_progress dsimp only)

end Sys2Proof.Machine
end

