-- ==== Sys2Proof/Laws/KeepsFiltOps.lean ====
section
/-!
SUPPORT. What each function of Machine/FiltOps.lean keeps, and which parts of the state it leaves alone.
-/

namespace Sys2Proof.Machine

theorem State.setFl_keeps (s : State) (k : Nat) (x : Flane) : Keeps 1048576 s (State.setFl s k x) := by
  have h0 := Keeps.refl 1048576 s
  unfold State.setFl
  try dsimp only
  repeat' (first
    | intro _
    | with_reducible assumption
    | (fail_if_no_progress with_reducible apply Keeps.update) <;> first | ((with_reducible apply Or.inr); with_reducible rfl) | ((with_reducible apply Or.inl); first | exact rfl) | skip
    | fail_if_no_progress dsimp only)

theorem setFlState_keeps (k : Nat) (st : Nat) (s : State) : Keeps 8 s (setFlState k st s) := by
  have h0 := Keeps.refl 8 s
  unfold setFlState
  try dsimp only
  repeat' (first
    | intro _
    | with_reducible assumption
    | ((with_reducible apply Keeps.step (State.setFld_keeps ..)); exact rfl)
    | ((with_reducible apply Keeps.step (State.setRegBit_keeps ..)); exact rfl)
    | fail_if_no_progress dsimp only)

theorem flBank_keeps (k : Nat) (b : Nat) (s : State) : Keeps 1048584 s (flBank k b s) := by
  have h0 := Keeps.refl 1048584 s
  unfold flBank
  try dsimp only
  repeat' (first
    | intro _
    | with_reducible assumption
    | ((with_reducible apply Keeps.step (State.setFl_keeps ..)); exact rfl)
    | ((with_reducible apply Keeps.step (State.setFlag_keeps ..)); exact rfl)
    | ((with_reducible apply Keeps.step (State.setFld_keeps ..)); exact rfl)
    | ((with_reducible apply Keeps.step (State.setReg_keeps ..)); exact rfl)
    | fail_if_no_progress dsimp only)

theorem flRestart_keeps (k : Nat) (s : State) : Keeps 1048588 s (flRestart k s) := by
  have h0 := Keeps.refl 1048588 s
  unfold flRestart
  try dsimp only
  repeat' (first
    | with_reducible apply Keeps.ite
    | with_reducible apply Keeps.iteFst
    | with_reducible apply Keeps.iteSnd
    | intro _
    | with_reducible assumption
    | ((with_reducible apply Keeps.step (State.bump_keeps ..)); exact rfl)
    | ((with_reducible apply Keeps.step (State.setFl_keeps ..)); exact rfl)
    | ((with_reducible apply Keeps.step (State.setFlag_keeps ..)); exact rfl)
    | ((with_reducible apply Keeps.step (State.setReg_keeps ..)); exact rfl)
    | ((with_reducible apply Keeps.step (flBank_keeps ..)); exact rfl)
    | ((with_reducible apply Keeps.step (setFlState_keeps ..)); exact rfl)
    | fail_if_no_progress dsimp only)

theorem flStale_keeps (k : Nat) (s : State) : Keeps 1179656 s (flStale k s) := by
  have h0 := Keeps.refl 1179656 s
  unfold flStale
  try dsimp only
  repeat' (first
    | with_reducible apply Keeps.ite
    | with_reducible apply Keeps.iteFst
    | with_reducible apply Keeps.iteSnd
    | intro _
    | with_reducible assumption
    | ((with_reducible apply Keeps.step (State.setFl_keeps ..)); exact rfl)
    | ((with_reducible apply Keeps.step (State.setFlag_keeps ..)); exact rfl)
    | ((with_reducible apply Keeps.step (State.setReg_keeps ..)); exact rfl)
    | ((with_reducible apply Keeps.step (setFlState_keeps ..)); exact rfl)
    | (fail_if_no_progress with_reducible apply Keeps.update) <;> first | ((with_reducible apply Or.inr); with_reducible rfl) | ((with_reducible apply Or.inl); first | exact rfl) | skip
    | fail_if_no_progress dsimp only)

theorem flFresh_keeps (k : Nat) (s : State) : Keeps 1179660 s (flFresh k s) := by
  have h0 := Keeps.refl 1179660 s
  unfold flFresh
  try dsimp only
  repeat' (first
    | with_reducible apply Keeps.ite
    | with_reducible apply Keeps.iteFst
    | with_reducible apply Keeps.iteSnd
    | intro _
    | with_reducible assumption
    | ((with_reducible apply Keeps.step (flRestart_keeps ..)); exact rfl)
    | ((with_reducible apply Keeps.step (flStale_keeps ..)); exact rfl)
    | fail_if_no_progress dsimp only)

theorem flStart_keeps (k : Nat) (s : State) : Keeps 1179660 s (flStart k s) := by
  have h0 := Keeps.refl 1179660 s
  unfold flStart
  try dsimp only
  repeat' (first
    | intro _
    | with_reducible assumption
    | ((with_reducible apply Keeps.step (State.setFl_keeps ..)); exact rfl)
    | ((with_reducible apply Keeps.step (flBank_keeps ..)); exact rfl)
    | ((with_reducible apply Keeps.step (flFresh_keeps ..)); exact rfl)
    | fail_if_no_progress dsimp only)

theorem flShutdown_keeps (k : Nat) (s : State) : Keeps 1048584 s (flShutdown k s) := by
  have h0 := Keeps.refl 1048584 s
  unfold flShutdown
  try dsimp only
  repeat' (first
    | with_reducible apply Keeps.ite
    | with_reducible apply Keeps.iteFst
    | with_reducible apply Keeps.iteSnd
    | intro _
    | with_reducible assumption
    | ((with_reducible apply Keeps.step (State.setFl_keeps ..)); exact rfl)
    | ((with_reducible apply Keeps.step (State.setReg_keeps ..)); exact rfl)
    | ((with_reducible apply Keeps.step (flBank_keeps ..)); exact rfl)
    | ((with_reducible apply Keeps.step (setFlState_keeps ..)); exact rfl)
    | fail_if_no_progress dsimp only)

theorem flEnable_keeps (k : Nat) (on : Bool) (s : State) : Keeps 1179660 s (flEnable k on s) := by
  have h0 := Keeps.refl 1179660 s
  unfold flEnable
  try dsimp only
  repeat' (first
    | with_reducible apply Keeps.ite
    | with_reducible apply Keeps.iteFst
    | with_reducible apply Keeps.iteSnd
    | intro _
    | with_reducible assumption
    | ((with_reducible apply Keeps.step (State.setFlag_keeps ..)); exact rfl)
    | ((with_reducible apply Keeps.step (flShutdown_keeps ..)); exact rfl)
    | ((with_reducible apply Keeps.step (flStart_keeps ..)); exact rfl)
    | fail_if_no_progress dsimp only)

theorem flOff_keeps (k : Nat) (s : State) : Keeps 1179660 s (flOff k s) := by
  have h0 := Keeps.refl 1179660 s
  unfold flOff
  try dsimp only
  repeat' (first
    | with_reducible apply Keeps.ite
    | with_reducible apply Keeps.iteFst
    | with_reducible apply Keeps.iteSnd
    | intro _
    | with_reducible assumption
    | ((with_reducible apply Keeps.step (State.setFl_keeps ..)); exact rfl)
    | ((with_reducible apply Keeps.step (State.setFlag_keeps ..)); exact rfl)
    | ((with_reducible apply Keeps.step (flStart_keeps ..)); exact rfl)
    | ((with_reducible apply Keeps.step (setFlState_keeps ..)); exact rfl)
    | fail_if_no_progress dsimp only)

theorem flInput_keeps (k : Nat) (v : Int) (at_ : Instant) (s : State) : Keeps 1048588 s (flInput k v at_ s) := by
  have h0 := Keeps.refl 1048588 s
  unfold flInput
  try dsimp only
  repeat' (first
    | with_reducible apply Keeps.ite
    | with_reducible apply Keeps.iteFst
    | with_reducible apply Keeps.iteSnd
    | intro _
    | with_reducible assumption
    | ((with_reducible apply Keeps.step (State.setFl_keeps ..)); exact rfl)
    | ((with_reducible apply Keeps.step (flRestart_keeps ..)); exact rfl)
    | fail_if_no_progress dsimp only)

theorem firStart_keeps (k : Nat) (o : CicOut) (from_ : Option Instant) (s : State) : Keeps 1048576 s (firStart k o from_ s) := by
  have h0 := Keeps.refl 1048576 s
  unfold firStart
  try dsimp only
  repeat' (first
    | with_reducible apply Keeps.ite
    | with_reducible apply Keeps.iteFst
    | with_reducible apply Keeps.iteSnd
    | intro _
    | with_reducible assumption
    | ((with_reducible apply Keeps.step (State.setFl_keeps ..)); exact rfl)
    | split
    | fail_if_no_progress dsimp only)

theorem cicArrive_keeps (k : Nat) (o : CicOut) (s : State) : Keeps 1048588 s (cicArrive k o s) := by
  have h0 := Keeps.refl 1048588 s
  unfold cicArrive
  try dsimp only
  repeat' (first
    | with_reducible apply Keeps.ite
    | with_reducible apply Keeps.iteFst
    | with_reducible apply Keeps.iteSnd
    | intro _
    | with_reducible assumption
    | ((with_reducible apply Keeps.step (State.bump_keeps ..)); exact rfl)
    | ((with_reducible apply Keeps.step (State.setFl_keeps ..)); exact rfl)
    | ((with_reducible apply Keeps.step (State.setFlag_keeps ..)); exact rfl)
    | ((with_reducible apply Keeps.step (firStart_keeps ..)); exact rfl)
    | ((with_reducible apply Keeps.step (flRestart_keeps ..)); exact rfl)
    | fail_if_no_progress dsimp only)

theorem cicBlock_keeps (k : Nat) (ins : List Nat) (at_ : Instant) (s : State) : Keeps 1048588 s (cicBlock k ins at_ s) := by
  have h0 := Keeps.refl 1048588 s
  unfold cicBlock
  try dsimp only
  repeat' (first
    | intro _
    | with_reducible assumption
    | ((with_reducible apply Keeps.step (State.setFl_keeps ..)); exact rfl)
    | ((with_reducible apply Keeps.step (cicArrive_keeps ..)); exact rfl)
    | with_reducible apply Keeps.foldl
    | with_reducible apply Keeps.foldlFst
    | with_reducible apply Keeps.foldlSnd
    | fail_if_no_progress dsimp only)

theorem cbcLane_keeps (k : Nat) (y : Int) (s : State) : Keeps 32908 s (cbcLane k y s) := by
  have h0 := Keeps.refl 32908 s
  unfold cbcLane
  try dsimp only
  repeat' (first
    | with_reducible apply Keeps.ite
    | with_reducible apply Keeps.iteFst
    | with_reducible apply Keeps.iteSnd
    | intro _
    | with_reducible assumption
    | ((with_reducible apply Keeps.step (State.bump_keeps ..)); exact rfl)
    | ((with_reducible apply Keeps.step (State.setChan_keeps ..)); exact rfl)
    | ((with_reducible apply Keeps.step (State.useFree_keeps ..)); exact rfl)
    | ((with_reducible apply Keeps.step (setOutput_keeps ..)); exact rfl)
    | with_reducible apply Keeps.forEach
    | (fail_if_no_progress with_reducible apply Keeps.update) <;> first | ((with_reducible apply Or.inr); with_reducible rfl) | ((with_reducible apply Or.inl); first | exact rfl) | skip
    | fail_if_no_progress dsimp only)

theorem fadeEnd_keeps (k : Nat) (s : State) : Keeps 1048584 s (fadeEnd k s) := by
  have h0 := Keeps.refl 1048584 s
  unfold fadeEnd
  try dsimp only
  repeat' (first
    | with_reducible apply Keeps.ite
    | with_reducible apply Keeps.iteFst
    | with_reducible apply Keeps.iteSnd
    | intro _
    | with_reducible assumption
    | ((with_reducible apply Keeps.step (State.setFl_keeps ..)); exact rfl)
    | ((with_reducible apply Keeps.step (State.setReg_keeps ..)); exact rfl)
    | ((with_reducible apply Keeps.step (flBank_keeps ..)); exact rfl)
    | split
    | fail_if_no_progress dsimp only)

theorem laneOutputEffects_keeps (k : Nat) (j : FirJob) (sc : Int × Bool) (stale : Bool) (w : Nat) (s : State) : Keeps 3178636 s (laneOutputEffects k j sc stale w s) := by
  have h0 := Keeps.refl 3178636 s
  unfold laneOutputEffects
  try dsimp only
  repeat' (first
    | with_reducible apply Keeps.ite
    | with_reducible apply Keeps.iteFst
    | with_reducible apply Keeps.iteSnd
    | intro _
    | with_reducible assumption
    | ((with_reducible apply Keeps.step (State.bump_keeps ..)); exact rfl)
    | ((with_reducible apply Keeps.step (State.setFl_keeps ..)); exact rfl)
    | ((with_reducible apply Keeps.step (State.setFlag_keeps ..)); exact rfl)
    | ((with_reducible apply Keeps.step (State.setFld_keeps ..)); exact rfl)
    | ((with_reducible apply Keeps.step (State.setReg_keeps ..)); exact rfl)
    | ((with_reducible apply Keeps.step (cbcLane_keeps ..)); exact rfl)
    | ((with_reducible apply Keeps.step (fadeEnd_keeps ..)); exact rfl)
    | ((with_reducible apply Keeps.step (firStart_keeps ..)); exact rfl)
    | ((with_reducible apply Keeps.step (setFlState_keeps ..)); exact rfl)
    | ((with_reducible apply Keeps.step (streamPush_keeps ..)); exact rfl)
    | split
    | fail_if_no_progress dsimp only)

theorem laneOutput_keeps (k : Nat) (j : FirJob) (s : State) : Keeps 3309740 s (laneOutput k j s) := by
  have h0 := Keeps.refl 3309740 s
  unfold laneOutput
  try dsimp only
  repeat' (first
    | with_reducible apply Keeps.ite
    | with_reducible apply Keeps.iteFst
    | with_reducible apply Keeps.iteSnd
    | intro _
    | with_reducible assumption
    | ((with_reducible apply Keeps.step (State.setReg_keeps ..)); exact rfl)
    | ((with_reducible apply Keeps.step (State.setWord_keeps ..)); exact rfl)
    | ((with_reducible apply Keeps.step (laneOutputEffects_keeps ..)); exact rfl)
    | fail_if_no_progress dsimp only)

theorem laneCfgApply_keeps (k : Nat) (v : Nat) (s : State) : Keeps 1179660 s (laneCfgApply k v s) := by
  have h0 := Keeps.refl 1179660 s
  unfold laneCfgApply
  try dsimp only
  repeat' (first
    | with_reducible apply Keeps.ite
    | with_reducible apply Keeps.iteFst
    | with_reducible apply Keeps.iteSnd
    | intro _
    | with_reducible assumption
    | ((with_reducible apply Keeps.step (State.setReg_keeps ..)); exact rfl)
    | ((with_reducible apply Keeps.step (State.useFree_keeps ..)); exact rfl)
    | ((with_reducible apply Keeps.step (flEnable_keeps ..)); exact rfl)
    | ((with_reducible apply Keeps.step (flFresh_keeps ..)); exact rfl)
    | fail_if_no_progress dsimp only)

end Sys2Proof.Machine
end

