-- ==== Sys2Proof/Laws/KeepsAdcOps.lean ====
section
/-!
SUPPORT. What each function of Machine/AdcOps.lean keeps, and which parts of the state it leaves alone.
-/

namespace Sys2Proof.Machine

theorem State.setAdc_keeps (s : State) (a : Adc) : Keeps 524288 s (State.setAdc s a) := by
  have h0 := Keeps.refl 524288 s
  unfold State.setAdc
  try dsimp only
  repeat' (first
    | intro _
    | with_reducible assumption
    | (fail_if_no_progress with_reducible apply Keeps.update) <;> first | ((with_reducible apply Or.inr); with_reducible rfl) | ((with_reducible apply Or.inl); first | exact rfl) | skip
    | fail_if_no_progress dsimp only)

theorem setSlice_keeps (k : Nat) (st : Nat) (serves : Nat) (s : State) : Keeps 8 s (setSlice k st serves s) := by
  have h0 := Keeps.refl 8 s
  unfold setSlice
  try dsimp only
  repeat' (first
    | intro _
    | with_reducible assumption
    | ((with_reducible apply Keeps.step (State.setFld_keeps ..)); exact rfl)
    | fail_if_no_progress dsimp only)

theorem State.setRound_keeps (s : State) (q : Nat) (r : Option Round) : Keeps 524288 s (State.setRound s q r) := by
  have h0 := Keeps.refl 524288 s
  unfold State.setRound
  try dsimp only
  repeat' (first
    | intro _
    | with_reducible assumption
    | ((with_reducible apply Keeps.step (State.setAdc_keeps ..)); exact rfl)
    | fail_if_no_progress dsimp only)

theorem sliceLeaves_keeps (k : Nat) (s : State) : Keeps 524296 s (sliceLeaves k s) := by
  have h0 := Keeps.refl 524296 s
  unfold sliceLeaves
  try dsimp only
  repeat' (first
    | with_reducible apply Keeps.ite
    | with_reducible apply Keeps.iteFst
    | with_reducible apply Keeps.iteSnd
    | intro _
    | with_reducible assumption
    | ((with_reducible apply Keeps.step (State.setAdc_keeps ..)); exact rfl)
    | ((with_reducible apply Keeps.step (State.setFlag_keeps ..)); exact rfl)
    | ((with_reducible apply Keeps.step (setSlice_keeps ..)); exact rfl)
    | split
    | fail_if_no_progress dsimp only)

theorem handOne_keeps (l : Nat) (s : State) : Keeps 524296 s (handOne l s) := by
  have h0 := Keeps.refl 524296 s
  unfold handOne
  try dsimp only
  repeat' (first
    | with_reducible apply Keeps.ite
    | with_reducible apply Keeps.iteFst
    | with_reducible apply Keeps.iteSnd
    | intro _
    | with_reducible assumption
    | ((with_reducible apply Keeps.step (State.setAdc_keeps ..)); exact rfl)
    | ((with_reducible apply Keeps.step (setSlice_keeps ..)); exact rfl)
    | ((with_reducible apply Keeps.step (sliceLeaves_keeps ..)); exact rfl)
    | split
    | fail_if_no_progress dsimp only)

theorem handOver_keeps (l : Nat) (s : State) : Keeps 524296 s (handOver l s) := by
  have h0 := Keeps.refl 524296 s
  unfold handOver
  try dsimp only
  repeat' (first
    | intro _
    | with_reducible assumption
    | ((with_reducible apply Keeps.step (handOne_keeps ..)); exact rfl)
    | with_reducible apply Keeps.forEach
    | fail_if_no_progress dsimp only)

theorem changeServer_keeps (l : Nat) (k : Nat) (s : State) : Keeps 524296 s (changeServer l k s) := by
  have h0 := Keeps.refl 524296 s
  unfold changeServer
  try dsimp only
  repeat' (first
    | with_reducible apply Keeps.ite
    | with_reducible apply Keeps.iteFst
    | with_reducible apply Keeps.iteSnd
    | intro _
    | with_reducible assumption
    | ((with_reducible apply Keeps.step (State.setAdc_keeps ..)); exact rfl)
    | ((with_reducible apply Keeps.step (handOver_keeps ..)); exact rfl)
    | fail_if_no_progress dsimp only)

theorem State.sqFlag_keeps (s : State) (q : Nat) (reg : Fld) (inj : Fld) (b : Bool) : Keeps 8 s (State.sqFlag s q reg inj b) := by
  have h0 := Keeps.refl 8 s
  unfold State.sqFlag
  try dsimp only
  repeat' (first
    | with_reducible apply Keeps.ite
    | with_reducible apply Keeps.iteFst
    | with_reducible apply Keeps.iteSnd
    | intro _
    | with_reducible assumption
    | ((with_reducible apply Keeps.step (State.setFlag_keeps ..)); exact rfl)
    | fail_if_no_progress dsimp only)

theorem owAbort_keeps (l : List Nat) (t : Instant) (s : State) : Keeps 524300 s (owAbort l t s) := by
  have h0 := Keeps.refl 524300 s
  unfold owAbort
  try dsimp only
  repeat' (first
    | with_reducible apply Keeps.ite
    | with_reducible apply Keeps.iteFst
    | with_reducible apply Keeps.iteSnd
    | intro _
    | with_reducible assumption
    | ((with_reducible apply Keeps.step (State.bump_keeps ..)); exact rfl)
    | ((with_reducible apply Keeps.step (State.setAdc_keeps ..)); exact rfl)
    | ((with_reducible apply Keeps.step (handOver_keeps ..)); exact rfl)
    | with_reducible apply Keeps.forEach
    | split
    | fail_if_no_progress dsimp only)

theorem trigSeq_keeps (q : Nat) (t : Instant) (s : State) : Keeps 524300 s (trigSeq q t s) := by
  have h0 := Keeps.refl 524300 s
  unfold trigSeq
  try dsimp only
  repeat' (first
    | with_reducible apply Keeps.ite
    | with_reducible apply Keeps.iteFst
    | with_reducible apply Keeps.iteSnd
    | intro _
    | with_reducible assumption
    | ((with_reducible apply Keeps.step (State.bump_keeps ..)); exact rfl)
    | ((with_reducible apply Keeps.step (State.setRound_keeps ..)); exact rfl)
    | ((with_reducible apply Keeps.step (State.sqFlag_keeps ..)); exact rfl)
    | ((with_reducible apply Keeps.step (owAbort_keeps ..)); exact rfl)
    | fail_if_no_progress dsimp only)

theorem trigSource_keeps (code : Nat) (t : Instant) (s : State) : Keeps 524300 s (trigSource code t s) := by
  have h0 := Keeps.refl 524300 s
  unfold trigSource
  try dsimp only
  repeat' (first
    | with_reducible apply Keeps.ite
    | with_reducible apply Keeps.iteFst
    | with_reducible apply Keeps.iteSnd
    | intro _
    | with_reducible assumption
    | ((with_reducible apply Keeps.step (trigSeq_keeps ..)); exact rfl)
    | with_reducible apply Keeps.forEach
    | fail_if_no_progress dsimp only)

theorem raiseTrig_keeps (code : Nat) (t : Instant) (s : State) : Keeps 524288 s (raiseTrig code t s) := by
  have h0 := Keeps.refl 524288 s
  unfold raiseTrig
  try dsimp only
  repeat' (first
    | with_reducible apply Keeps.ite
    | with_reducible apply Keeps.iteFst
    | with_reducible apply Keeps.iteSnd
    | intro _
    | with_reducible assumption
    | ((with_reducible apply Keeps.step (State.setAdc_keeps ..)); exact rfl)
    | fail_if_no_progress dsimp only)

theorem roundComplete_keeps (q : Nat) (s : State) : Keeps 655404 s (roundComplete q s) := by
  have h0 := Keeps.refl 655404 s
  unfold roundComplete
  try dsimp only
  repeat' (first
    | with_reducible apply Keeps.ite
    | with_reducible apply Keeps.iteFst
    | with_reducible apply Keeps.iteSnd
    | intro _
    | with_reducible assumption
    | ((with_reducible apply Keeps.step (State.bump_keeps ..)); exact rfl)
    | ((with_reducible apply Keeps.step (State.setRound_keeps ..)); exact rfl)
    | ((with_reducible apply Keeps.step (State.setWord_keeps ..)); exact rfl)
    | ((with_reducible apply Keeps.step (State.sqFlag_keeps ..)); exact rfl)
    | ((with_reducible apply Keeps.step (trigSeq_keeps ..)); exact rfl)
    | fail_if_no_progress dsimp only)

theorem startStep_keeps (q : Nat) (p : Instant) (s : State) : Keeps 524301 s (startStep q p s) := by
  have h0 := Keeps.refl 524301 s
  unfold startStep
  try dsimp only
  repeat' (first
    | with_reducible apply Keeps.ite
    | with_reducible apply Keeps.iteFst
    | with_reducible apply Keeps.iteSnd
    | intro _
    | with_reducible assumption
    | ((with_reducible apply Keeps.step (State.advance_keeps ..)); exact rfl)
    | ((with_reducible apply Keeps.step (State.bump_keeps ..)); exact rfl)
    | ((with_reducible apply Keeps.step (State.setAdc_keeps ..)); exact rfl)
    | ((with_reducible apply Keeps.step (State.setFlag_keeps ..)); exact rfl)
    | ((with_reducible apply Keeps.step (State.setReg_keeps ..)); exact rfl)
    | ((with_reducible apply Keeps.step (State.setRound_keeps ..)); exact rfl)
    | ((with_reducible apply Keeps.step (State.useFree_keeps ..)); exact rfl)
    | with_reducible apply Keeps.foldl
    | with_reducible apply Keeps.foldlFst
    | with_reducible apply Keeps.foldlSnd
    | split
    | fail_if_no_progress dsimp only)

theorem endOw_keeps (l : Nat) (t : Instant) (s : State) : Keeps 524297 s (endOw l t s) := by
  have h0 := Keeps.refl 524297 s
  unfold endOw
  try dsimp only
  repeat' (first
    | intro _
    | with_reducible assumption
    | ((with_reducible apply Keeps.step (State.advance_keeps ..)); exact rfl)
    | ((with_reducible apply Keeps.step (State.setAdc_keeps ..)); exact rfl)
    | ((with_reducible apply Keeps.step (handOver_keeps ..)); exact rfl)
    | fail_if_no_progress dsimp only)

theorem endStep_keeps (q : Nat) (s : State) : Keeps 655405 s (endStep q s) := by
  have h0 := Keeps.refl 655405 s
  unfold endStep
  try dsimp only
  repeat' (first
    | with_reducible apply Keeps.ite
    | with_reducible apply Keeps.iteFst
    | with_reducible apply Keeps.iteSnd
    | intro _
    | with_reducible assumption
    | ((with_reducible apply Keeps.step (State.advance_keeps ..)); exact rfl)
    | ((with_reducible apply Keeps.step (State.setAdc_keeps ..)); exact rfl)
    | ((with_reducible apply Keeps.step (State.setRound_keeps ..)); exact rfl)
    | ((with_reducible apply Keeps.step (handOver_keeps ..)); exact rfl)
    | ((with_reducible apply Keeps.step (roundComplete_keeps ..)); exact rfl)
    | with_reducible apply Keeps.forEach
    | with_reducible apply Keeps.foldl
    | with_reducible apply Keeps.foldlFst
    | with_reducible apply Keeps.foldlSnd
    | split
    | fail_if_no_progress dsimp only)

theorem result_keeps (c : Conv) (nv : Int) (raw : Nat) (s : State) : Keeps 3801132 s (result c nv raw s) := by
  have h0 := Keeps.refl 3801132 s
  unfold result
  try dsimp only
  repeat' (first
    | with_reducible apply Keeps.ite
    | with_reducible apply Keeps.iteFst
    | with_reducible apply Keeps.iteSnd
    | intro _
    | with_reducible assumption
    | ((with_reducible apply Keeps.step (State.bump_keeps ..)); exact rfl)
    | ((with_reducible apply Keeps.step (State.setAdc_keeps ..)); exact rfl)
    | ((with_reducible apply Keeps.step (State.setReg_keeps ..)); exact rfl)
    | ((with_reducible apply Keeps.step (State.setWord_keeps ..)); exact rfl)
    | ((with_reducible apply Keeps.step (flInput_keeps ..)); exact rfl)
    | ((with_reducible apply Keeps.step (streamPush_keeps ..)); exact rfl)
    | with_reducible apply Keeps.forEach
    | split
    | fail_if_no_progress dsimp only)

theorem resultCounts_keeps (c : Conv) (s : State) : Keeps 655404 s (resultCounts c s) := by
  have h0 := Keeps.refl 655404 s
  unfold resultCounts
  try dsimp only
  repeat' (first
    | with_reducible apply Keeps.ite
    | with_reducible apply Keeps.iteFst
    | with_reducible apply Keeps.iteSnd
    | intro _
    | with_reducible assumption
    | ((with_reducible apply Keeps.step (State.setRound_keeps ..)); exact rfl)
    | ((with_reducible apply Keeps.step (roundComplete_keeps ..)); exact rfl)
    | split
    | fail_if_no_progress dsimp only)

theorem calBegin_keeps (k : Nat) (forced : Bool) (t : Instant) (s : State) : Keeps 524296 s (calBegin k forced t s) := by
  have h0 := Keeps.refl 524296 s
  unfold calBegin
  try dsimp only
  repeat' (first
    | with_reducible apply Keeps.ite
    | with_reducible apply Keeps.iteFst
    | with_reducible apply Keeps.iteSnd
    | intro _
    | with_reducible assumption
    | ((with_reducible apply Keeps.step (State.setAdc_keeps ..)); exact rfl)
    | ((with_reducible apply Keeps.step (State.setFlag_keeps ..)); exact rfl)
    | ((with_reducible apply Keeps.step (changeServer_keeps ..)); exact rfl)
    | ((with_reducible apply Keeps.step (setSlice_keeps ..)); exact rfl)
    | fail_if_no_progress dsimp only)

theorem calNext_keeps (t : Instant) (s : State) : Keeps 524296 s (calNext t s) := by
  have h0 := Keeps.refl 524296 s
  unfold calNext
  try dsimp only
  repeat' (first
    | with_reducible apply Keeps.ite
    | with_reducible apply Keeps.iteFst
    | with_reducible apply Keeps.iteSnd
    | intro _
    | with_reducible assumption
    | ((with_reducible apply Keeps.step (calBegin_keeps ..)); exact rfl)
    | fail_if_no_progress dsimp only)

theorem sliceRetire_keeps (k : Nat) (s : State) : Keeps 1208221704 s (sliceRetire k s) := by
  have h0 := Keeps.refl 1208221704 s
  unfold sliceRetire
  try dsimp only
  repeat' (first
    | with_reducible apply Keeps.ite
    | with_reducible apply Keeps.iteFst
    | with_reducible apply Keeps.iteSnd
    | intro _
    | with_reducible assumption
    | ((with_reducible apply Keeps.step (State.note_keeps ..)); exact rfl)
    | ((with_reducible apply Keeps.step (State.setFlag_keeps ..)); exact rfl)
    | ((with_reducible apply Keeps.step (setSlice_keeps ..)); exact rfl)
    | fail_if_no_progress dsimp only)

theorem adcStart_keeps (s : State) : Keeps 524296 s (adcStart s) := by
  have h0 := Keeps.refl 524296 s
  unfold adcStart
  try dsimp only
  repeat' (first
    | with_reducible apply Keeps.ite
    | with_reducible apply Keeps.iteFst
    | with_reducible apply Keeps.iteSnd
    | intro _
    | with_reducible assumption
    | ((with_reducible apply Keeps.step (State.setAdc_keeps ..)); exact rfl)
    | ((with_reducible apply Keeps.step (handOver_keeps ..)); exact rfl)
    | ((with_reducible apply Keeps.step (setSlice_keeps ..)); exact rfl)
    | with_reducible apply Keeps.forEach
    | fail_if_no_progress dsimp only)

theorem adcShutdown_keeps (s : State) : Keeps 524296 s (adcShutdown s) := by
  have h0 := Keeps.refl 524296 s
  unfold adcShutdown
  try dsimp only
  repeat' (first
    | with_reducible apply Keeps.ite
    | with_reducible apply Keeps.iteFst
    | with_reducible apply Keeps.iteSnd
    | intro _
    | with_reducible assumption
    | ((with_reducible apply Keeps.step (State.setAdc_keeps ..)); exact rfl)
    | ((with_reducible apply Keeps.step (State.setFlag_keeps ..)); exact rfl)
    | ((with_reducible apply Keeps.step (State.setRound_keeps ..)); exact rfl)
    | ((with_reducible apply Keeps.step (State.sqFlag_keeps ..)); exact rfl)
    | with_reducible apply Keeps.forEach
    | split
    | fail_if_no_progress dsimp only)

theorem adcOff_keeps (s : State) : Keeps 524296 s (adcOff s) := by
  have h0 := Keeps.refl 524296 s
  unfold adcOff
  try dsimp only
  repeat' (first
    | with_reducible apply Keeps.ite
    | with_reducible apply Keeps.iteFst
    | with_reducible apply Keeps.iteSnd
    | intro _
    | with_reducible assumption
    | ((with_reducible apply Keeps.step (State.setAdc_keeps ..)); exact rfl)
    | ((with_reducible apply Keeps.step (State.setFlag_keeps ..)); exact rfl)
    | ((with_reducible apply Keeps.step (adcStart_keeps ..)); exact rfl)
    | ((with_reducible apply Keeps.step (setSlice_keeps ..)); exact rfl)
    | with_reducible apply Keeps.forEach
    | fail_if_no_progress dsimp only)

theorem sdiRefresh_keeps (s : State) : Keeps 1179656 s (sdiRefresh s) := by
  have h0 := Keeps.refl 1179656 s
  unfold sdiRefresh
  try dsimp only
  repeat' (first
    | with_reducible apply Keeps.ite
    | with_reducible apply Keeps.iteFst
    | with_reducible apply Keeps.iteSnd
    | intro _
    | with_reducible assumption
    | ((with_reducible apply Keeps.step (State.setFlag_keeps ..)); exact rfl)
    | ((with_reducible apply Keeps.step (flStale_keeps ..)); exact rfl)
    | with_reducible apply Keeps.forEach
    | fail_if_no_progress dsimp only)

theorem sdiStale_keeps (i : Nat) (s : State) : Keeps 1179656 s (sdiStale i s) := by
  have h0 := Keeps.refl 1179656 s
  unfold sdiStale
  try dsimp only
  repeat' (first
    | intro _
    | with_reducible assumption
    | ((with_reducible apply Keeps.step (State.setFlag_keeps ..)); exact rfl)
    | ((with_reducible apply Keeps.step (flStale_keeps ..)); exact rfl)
    | ((with_reducible apply Keeps.step (sdiRefresh_keeps ..)); exact rfl)
    | with_reducible apply Keeps.forEach
    | fail_if_no_progress dsimp only)

theorem sdiResume_keeps (i : Nat) (s : State) : Keeps 1179660 s (sdiResume i s) := by
  have h0 := Keeps.refl 1179660 s
  unfold sdiResume
  try dsimp only
  repeat' (first
    | with_reducible apply Keeps.ite
    | with_reducible apply Keeps.iteFst
    | with_reducible apply Keeps.iteSnd
    | intro _
    | with_reducible assumption
    | ((with_reducible apply Keeps.step (State.bump_keeps ..)); exact rfl)
    | ((with_reducible apply Keeps.step (State.setFlag_keeps ..)); exact rfl)
    | ((with_reducible apply Keeps.step (flRestart_keeps ..)); exact rfl)
    | ((with_reducible apply Keeps.step (sdiRefresh_keeps ..)); exact rfl)
    | with_reducible apply Keeps.forEach
    | fail_if_no_progress dsimp only)

end Sys2Proof.Machine
end

