-- ==== Sys2Proof/Laws/KeepsAdc.lean ====
section
/-!
SUPPORT. What each function of Machine/Adc.lean keeps, and which parts of the state it leaves alone.
-/

namespace Sys2Proof.Machine

theorem execAdcTrigger_keeps (s : State) : Outcome.Keeps 524301 s (execAdcTrigger s) := by
  have h0 := Keeps.refl 524301 s
  unfold execAdcTrigger
  try dsimp only
  repeat' (first
    | with_reducible apply Outcome.Keeps.next
    | intro _
    | with_reducible assumption
    | ((with_reducible apply Keeps.step (State.advance_keeps ..)); exact rfl)
    | ((with_reducible apply Keeps.step (State.setAdc_keeps ..)); exact rfl)
    | ((with_reducible apply Keeps.step (trigSource_keeps ..)); exact rfl)
    | split
    | fail_if_no_progress dsimp only)

theorem swTrig_keeps (n : Nat) (v : Nat) (s : State) : Keeps 524300 s (swTrig n v s) := by
  have h0 := Keeps.refl 524300 s
  unfold swTrig
  try dsimp only
  repeat' (first
    | with_reducible apply Keeps.ite
    | with_reducible apply Keeps.iteFst
    | with_reducible apply Keeps.iteSnd
    | intro _
    | with_reducible assumption
    | ((with_reducible apply Keeps.step (trigSeq_keeps ..)); exact rfl)
    | fail_if_no_progress dsimp only)

theorem actSwtrigRegular_keeps (n : Nat) (s : State) : Keeps 524300 s (actSwtrigRegular n s).1 := by
  have h0 := Keeps.refl 524300 s
  unfold actSwtrigRegular
  try dsimp only
  repeat' (first
    | intro _
    | with_reducible assumption
    | ((with_reducible apply Keeps.step (swTrig_keeps ..)); exact rfl)
    | fail_if_no_progress dsimp only)

theorem execSwtrigRegular_keeps (n : Fin 8) (s : State) : Outcome.Keeps 524300 s (execSwtrigRegular n s) := by
  have h0 := Keeps.refl 524300 s
  unfold execSwtrigRegular
  try dsimp only
  repeat' (first
    | with_reducible apply Outcome.Keeps.next
    | intro _
    | with_reducible assumption
    | ((with_reducible apply Keeps.step (actSwtrigRegular_keeps ..)); exact rfl)
    | fail_if_no_progress dsimp only)

theorem actSwtrigInjected_keeps (n : Nat) (s : State) : Keeps 524300 s (actSwtrigInjected n s).1 := by
  have h0 := Keeps.refl 524300 s
  unfold actSwtrigInjected
  try dsimp only
  repeat' (first
    | intro _
    | with_reducible assumption
    | ((with_reducible apply Keeps.step (swTrig_keeps ..)); exact rfl)
    | fail_if_no_progress dsimp only)

theorem execSwtrigInjected_keeps (n : Fin 8) (s : State) : Outcome.Keeps 524300 s (execSwtrigInjected n s) := by
  have h0 := Keeps.refl 524300 s
  unfold execSwtrigInjected
  try dsimp only
  repeat' (first
    | with_reducible apply Outcome.Keeps.next
    | intro _
    | with_reducible assumption
    | ((with_reducible apply Keeps.step (actSwtrigInjected_keeps ..)); exact rfl)
    | fail_if_no_progress dsimp only)

theorem execStepStart_keeps (s : State) : Outcome.Keeps 524301 s (execStepStart s) := by
  have h0 := Keeps.refl 524301 s
  unfold execStepStart
  try dsimp only
  repeat' (first
    | with_reducible apply Outcome.Keeps.next
    | intro _
    | with_reducible assumption
    | ((with_reducible apply Keeps.step (startStep_keeps ..)); exact rfl)
    | split
    | fail_if_no_progress dsimp only)

theorem execConversionEnd_keeps (s : State) : Outcome.Keeps 655405 s (execConversionEnd s) := by
  have h0 := Keeps.refl 655405 s
  unfold execConversionEnd
  try dsimp only
  repeat' (first
    | with_reducible apply Outcome.Keeps.next
    | with_reducible apply Outcome.Keeps.ite
    | with_reducible apply Keeps.ite
    | with_reducible apply Keeps.iteFst
    | with_reducible apply Keeps.iteSnd
    | intro _
    | with_reducible assumption
    | ((with_reducible apply Keeps.step (endOw_keeps ..)); exact rfl)
    | ((with_reducible apply Keeps.step (endStep_keeps ..)); exact rfl)
    | split
    | fail_if_no_progress dsimp only)

theorem execResultRegistered_keeps (a : Fin 64) (nv : Int) (raw : BitVec 16) (t : Instant) (s : State) : Outcome.Keeps 3801133 s (execResultRegistered a nv raw t s) := by
  have h0 := Keeps.refl 3801133 s
  unfold execResultRegistered
  try dsimp only
  repeat' (first
    | with_reducible apply Outcome.Keeps.next
    | with_reducible apply Outcome.Keeps.ite
    | with_reducible apply Keeps.ite
    | with_reducible apply Keeps.iteFst
    | with_reducible apply Keeps.iteSnd
    | intro _
    | with_reducible assumption
    | ((with_reducible apply Keeps.step (State.advance_keeps ..)); exact rfl)
    | ((with_reducible apply Keeps.step (State.setAdc_keeps ..)); exact rfl)
    | ((with_reducible apply Keeps.step (result_keeps ..)); exact rfl)
    | ((with_reducible apply Keeps.step (resultCounts_keeps ..)); exact rfl)
    | split
    | fail_if_no_progress dsimp only)

theorem execAdcTrgDecision_keeps (p : Fin 4) (rising : Bool) (t : Instant) (s : State) : Outcome.Keeps 524301 s (execAdcTrgDecision p rising t s) := by
  have h0 := Keeps.refl 524301 s
  unfold execAdcTrgDecision
  try dsimp only
  repeat' (first
    | with_reducible apply Outcome.Keeps.next
    | with_reducible apply Outcome.Keeps.ite
    | with_reducible apply Keeps.ite
    | with_reducible apply Keeps.iteFst
    | with_reducible apply Keeps.iteSnd
    | intro _
    | with_reducible assumption
    | ((with_reducible apply Keeps.step (State.advance_keeps ..)); exact rfl)
    | ((with_reducible apply Keeps.step (State.bump_keeps ..)); exact rfl)
    | ((with_reducible apply Keeps.step (State.setAdc_keeps ..)); exact rfl)
    | ((with_reducible apply Keeps.step (State.setRegBit_keeps ..)); exact rfl)
    | ((with_reducible apply Keeps.step (raiseTrig_keeps ..)); exact rfl)
    | fail_if_no_progress dsimp only)

theorem execTrgTimeout_keeps (p : Fin 4) (t : Instant) (s : State) : Outcome.Keeps 9 s (execTrgTimeout p t s) := by
  have h0 := Keeps.refl 9 s
  unfold execTrgTimeout
  try dsimp only
  repeat' (first
    | with_reducible apply Outcome.Keeps.next
    | with_reducible apply Outcome.Keeps.ite
    | with_reducible apply Keeps.ite
    | with_reducible apply Keeps.iteFst
    | with_reducible apply Keeps.iteSnd
    | intro _
    | with_reducible assumption
    | ((with_reducible apply Keeps.step (State.advance_keeps ..)); exact rfl)
    | ((with_reducible apply Keeps.step (State.setRegBit_keeps ..)); exact rfl)
    | fail_if_no_progress dsimp only)

theorem actTrgCfg_keeps (p : Nat) (v : Nat) (s : State) : Keeps 524296 s (actTrgCfg p v s).1 := by
  have h0 := Keeps.refl 524296 s
  unfold actTrgCfg
  try dsimp only
  repeat' (first
    | with_reducible apply Keeps.ite
    | with_reducible apply Keeps.iteFst
    | with_reducible apply Keeps.iteSnd
    | intro _
    | with_reducible assumption
    | ((with_reducible apply Keeps.step (State.setAdc_keeps ..)); exact rfl)
    | ((with_reducible apply Keeps.step (State.setReg_keeps ..)); exact rfl)
    | ((with_reducible apply Keeps.step (State.setRegBit_keeps ..)); exact rfl)
    | fail_if_no_progress dsimp only)

theorem execTrgCfgWrite_keeps (p : Fin 4) (v : BitVec 32) (s : State) : Outcome.Keeps 786440 s (execTrgCfgWrite p v s) := by
  have h0 := Keeps.refl 786440 s
  unfold execTrgCfgWrite
  try dsimp only
  repeat' (first
    | with_reducible apply Outcome.Keeps.next
    | intro _
    | with_reducible assumption
    | ((with_reducible apply Keeps.step (actTrgCfg_keeps ..)); exact rfl)
    | ((with_reducible apply stored_keeps); exact rfl)
    | fail_if_no_progress dsimp only)

theorem execInputStale_keeps (a : Fin 64) (t : Instant) (s : State) : Outcome.Keeps 1179657 s (execInputStale a t s) := by
  have h0 := Keeps.refl 1179657 s
  unfold execInputStale
  try dsimp only
  repeat' (first
    | with_reducible apply Outcome.Keeps.next
    | with_reducible apply Outcome.Keeps.ite
    | with_reducible apply Keeps.ite
    | with_reducible apply Keeps.iteFst
    | with_reducible apply Keeps.iteSnd
    | intro _
    | with_reducible assumption
    | ((with_reducible apply Keeps.step (State.advance_keeps ..)); exact rfl)
    | ((with_reducible apply Keeps.step (State.setReg_keeps ..)); exact rfl)
    | ((with_reducible apply Keeps.step (flStale_keeps ..)); exact rfl)
    | with_reducible apply Keeps.forEach
    | split
    | (fail_if_no_progress with_reducible apply Keeps.update) <;> first | ((with_reducible apply Or.inr); with_reducible rfl) | ((with_reducible apply Or.inl); first | exact rfl) | skip
    | fail_if_no_progress dsimp only)

theorem execOwTestStart_keeps (a : Fin 64) (t : Instant) (s : State) : Outcome.Keeps 524289 s (execOwTestStart a t s) := by
  have h0 := Keeps.refl 524289 s
  unfold execOwTestStart
  try dsimp only
  repeat' (first
    | with_reducible apply Outcome.Keeps.next
    | with_reducible apply Outcome.Keeps.ite
    | with_reducible apply Keeps.ite
    | with_reducible apply Keeps.iteFst
    | with_reducible apply Keeps.iteSnd
    | intro _
    | with_reducible assumption
    | ((with_reducible apply Keeps.step (State.advance_keeps ..)); exact rfl)
    | ((with_reducible apply Keeps.step (State.setAdc_keeps ..)); exact rfl)
    | fail_if_no_progress dsimp only)

theorem execOwPhaseEnd_keeps (a : Fin 64) (nv : Int) (t : Instant) (s : State) : Outcome.Keeps 1208745997 s (execOwPhaseEnd a nv t s) := by
  have h0 := Keeps.refl 1208745997 s
  unfold execOwPhaseEnd
  try dsimp only
  repeat' (first
    | with_reducible apply Outcome.Keeps.next
    | with_reducible apply Outcome.Keeps.ite
    | with_reducible apply Keeps.ite
    | with_reducible apply Keeps.iteFst
    | with_reducible apply Keeps.iteSnd
    | intro _
    | with_reducible assumption
    | ((with_reducible apply Keeps.step (State.advance_keeps ..)); exact rfl)
    | ((with_reducible apply Keeps.step (State.setAdc_keeps ..)); exact rfl)
    | ((with_reducible apply Keeps.step (State.setReg_keeps ..)); exact rfl)
    | ((with_reducible apply Keeps.step (State.setRegBit_keeps ..)); exact rfl)
    | ((with_reducible apply Keeps.step (istFail_keeps ..)); exact rfl)
    | split
    | fail_if_no_progress dsimp only)

theorem execOwPeriodExpiry_keeps (a : Fin 64) (t : Instant) (s : State) : Outcome.Keeps 9 s (execOwPeriodExpiry a t s) := by
  have h0 := Keeps.refl 9 s
  unfold execOwPeriodExpiry
  try dsimp only
  repeat' (first
    | with_reducible apply Outcome.Keeps.next
    | with_reducible apply Outcome.Keeps.ite
    | with_reducible apply Keeps.ite
    | with_reducible apply Keeps.iteFst
    | with_reducible apply Keeps.iteSnd
    | intro _
    | with_reducible assumption
    | ((with_reducible apply Keeps.step (State.advance_keeps ..)); exact rfl)
    | ((with_reducible apply Keeps.step (State.setRegBit_keeps ..)); exact rfl)
    | fail_if_no_progress dsimp only)

theorem calCoefs_keeps (k : Nat) (off : BitVec 16) (gain : BitVec 32) (s : State) : Keeps 8 s (calCoefs k off gain s) := by
  have h0 := Keeps.refl 8 s
  unfold calCoefs
  try dsimp only
  repeat' (first
    | intro _
    | with_reducible assumption
    | ((with_reducible apply Keeps.step (State.setReg_keeps ..)); exact rfl)
    | fail_if_no_progress dsimp only)

theorem execCalStartupComplete_keeps (offs : List (BitVec 16)) (gains : List (BitVec 32)) (t : Instant) (s : State) : Outcome.Keeps 1208745993 s (execCalStartupComplete offs gains t s) := by
  have h0 := Keeps.refl 1208745993 s
  unfold execCalStartupComplete
  try dsimp only
  repeat' (first
    | with_reducible apply Outcome.Keeps.next
    | with_reducible apply Outcome.Keeps.ite
    | with_reducible apply Keeps.ite
    | with_reducible apply Keeps.iteFst
    | with_reducible apply Keeps.iteSnd
    | intro _
    | with_reducible assumption
    | ((with_reducible apply Keeps.step (State.advance_keeps ..)); exact rfl)
    | ((with_reducible apply Keeps.step (State.setAdc_keeps ..)); exact rfl)
    | ((with_reducible apply Keeps.step (State.setFlag_keeps ..)); exact rfl)
    | ((with_reducible apply Keeps.step (adcShutdown_keeps ..)); exact rfl)
    | ((with_reducible apply Keeps.step (calCoefs_keeps ..)); exact rfl)
    | ((with_reducible apply Keeps.step (calNext_keeps ..)); exact rfl)
    | ((with_reducible apply Keeps.step (setSlice_keeps ..)); exact rfl)
    | ((with_reducible apply Keeps.step (sliceRetire_keeps ..)); exact rfl)
    | with_reducible apply Keeps.forEach
    | split
    | fail_if_no_progress dsimp only)

theorem calForceClear_keeps (k : Nat) (s : State) : Keeps 8 s (calForceClear k s) := by
  have h0 := Keeps.refl 8 s
  unfold calForceClear
  try dsimp only
  repeat' (first
    | intro _
    | with_reducible assumption
    | ((with_reducible apply Keeps.step (State.setFlag_keeps ..)); exact rfl)
    | ((with_reducible apply Keeps.step (State.setRegBit_keeps ..)); exact rfl)
    | fail_if_no_progress dsimp only)

theorem refDrift_keeps (ppm : Nat) (s : State) : Keeps 8 s (refDrift ppm s) := by
  have h0 := Keeps.refl 8 s
  unfold refDrift
  try dsimp only
  repeat' (first
    | intro _
    | with_reducible assumption
    | ((with_reducible apply Keeps.step (State.setFlag_keeps ..)); exact rfl)
    | ((with_reducible apply Keeps.step (State.setReg_keeps ..)); exact rfl)
    | fail_if_no_progress dsimp only)

theorem execCalTurnEnd_keeps (off : BitVec 16) (gain : BitVec 32) (ppm : BitVec 32) (t : Instant) (s : State) : Outcome.Keeps 1208745997 s (execCalTurnEnd off gain ppm t s) := by
  have h0 := Keeps.refl 1208745997 s
  unfold execCalTurnEnd
  try dsimp only
  repeat' (first
    | with_reducible apply Outcome.Keeps.next
    | with_reducible apply Outcome.Keeps.ite
    | with_reducible apply Keeps.ite
    | with_reducible apply Keeps.iteFst
    | with_reducible apply Keeps.iteSnd
    | intro _
    | with_reducible assumption
    | ((with_reducible apply Keeps.step (State.advance_keeps ..)); exact rfl)
    | ((with_reducible apply Keeps.step (State.bump_keeps ..)); exact rfl)
    | ((with_reducible apply Keeps.step (State.setAdc_keeps ..)); exact rfl)
    | ((with_reducible apply Keeps.step (calCoefs_keeps ..)); exact rfl)
    | ((with_reducible apply Keeps.step (calForceClear_keeps ..)); exact rfl)
    | ((with_reducible apply Keeps.step (calNext_keeps ..)); exact rfl)
    | ((with_reducible apply Keeps.step (changeServer_keeps ..)); exact rfl)
    | ((with_reducible apply Keeps.step (refDrift_keeps ..)); exact rfl)
    | ((with_reducible apply Keeps.step (setSlice_keeps ..)); exact rfl)
    | ((with_reducible apply Keeps.step (sliceRetire_keeps ..)); exact rfl)
    | split
    | fail_if_no_progress dsimp only)

theorem actCalForce_keeps (mask : Nat) (s : State) : Keeps 8 s (actCalForce mask s).1 := by
  have h0 := Keeps.refl 8 s
  unfold actCalForce
  try dsimp only
  repeat' (first
    | with_reducible apply Keeps.ite
    | with_reducible apply Keeps.iteFst
    | with_reducible apply Keeps.iteSnd
    | intro _
    | with_reducible assumption
    | ((with_reducible apply Keeps.step (State.setFlag_keeps ..)); exact rfl)
    | ((with_reducible apply Keeps.step (State.setRegBit_keeps ..)); exact rfl)
    | with_reducible apply Keeps.forEach
    | fail_if_no_progress dsimp only)

theorem execCalForce_keeps (mask : BitVec 17) (s : State) : Outcome.Keeps 8 s (execCalForce mask s) := by
  have h0 := Keeps.refl 8 s
  unfold execCalForce
  try dsimp only
  repeat' (first
    | with_reducible apply Outcome.Keeps.next
    | intro _
    | with_reducible assumption
    | ((with_reducible apply Keeps.step (actCalForce_keeps ..)); exact rfl)
    | fail_if_no_progress dsimp only)

theorem execCalForceWithdraw_keeps (t : Instant) (s : State) : Outcome.Keeps 524297 s (execCalForceWithdraw t s) := by
  have h0 := Keeps.refl 524297 s
  unfold execCalForceWithdraw
  try dsimp only
  repeat' (first
    | with_reducible apply Outcome.Keeps.next
    | with_reducible apply Outcome.Keeps.ite
    | with_reducible apply Keeps.ite
    | with_reducible apply Keeps.iteFst
    | with_reducible apply Keeps.iteSnd
    | intro _
    | with_reducible assumption
    | ((with_reducible apply Keeps.step (State.advance_keeps ..)); exact rfl)
    | ((with_reducible apply Keeps.step (State.setAdc_keeps ..)); exact rfl)
    | ((with_reducible apply Keeps.step (calBegin_keeps ..)); exact rfl)
    | ((with_reducible apply Keeps.step (changeServer_keeps ..)); exact rfl)
    | ((with_reducible apply Keeps.step (setSlice_keeps ..)); exact rfl)
    | split
    | fail_if_no_progress dsimp only)

theorem actAdcEnable_keeps (s : State) : Keeps 524296 s (actAdcEnable s).1 := by
  have h0 := Keeps.refl 524296 s
  unfold actAdcEnable
  try dsimp only
  repeat' (first
    | with_reducible apply Keeps.ite
    | with_reducible apply Keeps.iteFst
    | with_reducible apply Keeps.iteSnd
    | intro _
    | with_reducible assumption
    | ((with_reducible apply Keeps.step (State.setAdc_keeps ..)); exact rfl)
    | ((with_reducible apply Keeps.step (State.setFlag_keeps ..)); exact rfl)
    | ((with_reducible apply Keeps.step (State.setReg_keeps ..)); exact rfl)
    | ((with_reducible apply Keeps.step (adcStart_keeps ..)); exact rfl)
    | fail_if_no_progress dsimp only)

theorem execAdcEnable_keeps (s : State) : Outcome.Keeps 786440 s (execAdcEnable s) := by
  have h0 := Keeps.refl 786440 s
  unfold execAdcEnable
  try dsimp only
  repeat' (first
    | with_reducible apply Outcome.Keeps.next
    | intro _
    | with_reducible assumption
    | ((with_reducible apply Keeps.step (actAdcEnable_keeps ..)); exact rfl)
    | ((with_reducible apply Keeps.step (storeRws_keeps ..)); exact rfl)
    | fail_if_no_progress dsimp only)

theorem actAdcDisable_keeps (s : State) : Keeps 524296 s (actAdcDisable s).1 := by
  have h0 := Keeps.refl 524296 s
  unfold actAdcDisable
  try dsimp only
  repeat' (first
    | with_reducible apply Keeps.ite
    | with_reducible apply Keeps.iteFst
    | with_reducible apply Keeps.iteSnd
    | intro _
    | with_reducible assumption
    | ((with_reducible apply Keeps.step (State.setAdc_keeps ..)); exact rfl)
    | ((with_reducible apply Keeps.step (State.setFlag_keeps ..)); exact rfl)
    | ((with_reducible apply Keeps.step (State.setReg_keeps ..)); exact rfl)
    | ((with_reducible apply Keeps.step (adcShutdown_keeps ..)); exact rfl)
    | fail_if_no_progress dsimp only)

theorem execAdcDisable_keeps (s : State) : Outcome.Keeps 786440 s (execAdcDisable s) := by
  have h0 := Keeps.refl 786440 s
  unfold execAdcDisable
  try dsimp only
  repeat' (first
    | with_reducible apply Outcome.Keeps.next
    | intro _
    | with_reducible assumption
    | ((with_reducible apply Keeps.step (actAdcDisable_keeps ..)); exact rfl)
    | ((with_reducible apply Keeps.step (storeRws_keeps ..)); exact rfl)
    | fail_if_no_progress dsimp only)

theorem actAdcClear_keeps (s : State) : Keeps 8 s (actAdcClear s).1 := by
  have h0 := Keeps.refl 8 s
  unfold actAdcClear
  try dsimp only
  repeat' (first
    | intro _
    | with_reducible assumption
    | ((with_reducible apply Keeps.step (State.setReg_keeps ..)); exact rfl)
    | with_reducible apply Keeps.forEach
    | with_reducible apply Keeps.foldl
    | with_reducible apply Keeps.foldlFst
    | with_reducible apply Keeps.foldlSnd
    | fail_if_no_progress dsimp only)

theorem execAdcClear_keeps (s : State) : Outcome.Keeps 8 s (execAdcClear s) := by
  have h0 := Keeps.refl 8 s
  unfold execAdcClear
  try dsimp only
  repeat' (first
    | with_reducible apply Outcome.Keeps.next
    | intro _
    | with_reducible assumption
    | ((with_reducible apply Keeps.step (actAdcClear_keeps ..)); exact rfl)
    | fail_if_no_progress dsimp only)

theorem actSdcCfg_keeps (p : Nat) (v : Nat) (s : State) : Keeps 1703944 s (actSdcCfg p v s).1 := by
  have h0 := Keeps.refl 1703944 s
  unfold actSdcCfg
  try dsimp only
  repeat' (first
    | with_reducible apply Keeps.ite
    | with_reducible apply Keeps.iteFst
    | with_reducible apply Keeps.iteSnd
    | intro _
    | with_reducible assumption
    | ((with_reducible apply Keeps.step (State.setAdc_keeps ..)); exact rfl)
    | ((with_reducible apply Keeps.step (State.setReg_keeps ..)); exact rfl)
    | ((with_reducible apply Keeps.step (sdiRefresh_keeps ..)); exact rfl)
    | ((with_reducible apply Keeps.step (sdiStale_keeps ..)); exact rfl)
    | with_reducible apply Keeps.forEach
    | fail_if_no_progress dsimp only)

theorem execSdcCfgWrite_keeps (p : Fin 6) (v : BitVec 32) (s : State) : Outcome.Keeps 1966088 s (execSdcCfgWrite p v s) := by
  have h0 := Keeps.refl 1966088 s
  unfold execSdcCfgWrite
  try dsimp only
  repeat' (first
    | with_reducible apply Outcome.Keeps.next
    | intro _
    | with_reducible assumption
    | ((with_reducible apply Keeps.step (actSdcCfg_keeps ..)); exact rfl)
    | ((with_reducible apply stored_keeps); exact rfl)
    | fail_if_no_progress dsimp only)

theorem execSdcFreqMeasure_keeps (p : Fin 6) (khz : BitVec 32) (t : Instant) (s : State) : Outcome.Keeps 9 s (execSdcFreqMeasure p khz t s) := by
  have h0 := Keeps.refl 9 s
  unfold execSdcFreqMeasure
  try dsimp only
  repeat' (first
    | with_reducible apply Outcome.Keeps.next
    | with_reducible apply Outcome.Keeps.ite
    | with_reducible apply Keeps.ite
    | with_reducible apply Keeps.iteFst
    | with_reducible apply Keeps.iteSnd
    | intro _
    | with_reducible assumption
    | ((with_reducible apply Keeps.step (State.advance_keeps ..)); exact rfl)
    | ((with_reducible apply Keeps.step (State.setFlag_keeps ..)); exact rfl)
    | ((with_reducible apply Keeps.step (State.setReg_keeps ..)); exact rfl)
    | fail_if_no_progress dsimp only)

theorem execSdcClockStale_keeps (p : Fin 6) (t : Instant) (s : State) : Outcome.Keeps 1703945 s (execSdcClockStale p t s) := by
  have h0 := Keeps.refl 1703945 s
  unfold execSdcClockStale
  try dsimp only
  repeat' (first
    | with_reducible apply Outcome.Keeps.next
    | with_reducible apply Outcome.Keeps.ite
    | with_reducible apply Keeps.ite
    | with_reducible apply Keeps.iteFst
    | with_reducible apply Keeps.iteSnd
    | intro _
    | with_reducible assumption
    | ((with_reducible apply Keeps.step (State.advance_keeps ..)); exact rfl)
    | ((with_reducible apply Keeps.step (State.setAdc_keeps ..)); exact rfl)
    | ((with_reducible apply Keeps.step (State.setFlag_keeps ..)); exact rfl)
    | ((with_reducible apply Keeps.step (sdiStale_keeps ..)); exact rfl)
    | with_reducible apply Keeps.forEach
    | fail_if_no_progress dsimp only)

theorem execSdcClockResume_keeps (p : Fin 6) (t : Instant) (s : State) : Outcome.Keeps 1703949 s (execSdcClockResume p t s) := by
  have h0 := Keeps.refl 1703949 s
  unfold execSdcClockResume
  try dsimp only
  repeat' (first
    | with_reducible apply Outcome.Keeps.next
    | with_reducible apply Outcome.Keeps.ite
    | with_reducible apply Keeps.ite
    | with_reducible apply Keeps.iteFst
    | with_reducible apply Keeps.iteSnd
    | intro _
    | with_reducible assumption
    | ((with_reducible apply Keeps.step (State.advance_keeps ..)); exact rfl)
    | ((with_reducible apply Keeps.step (State.setAdc_keeps ..)); exact rfl)
    | ((with_reducible apply Keeps.step (State.setFlag_keeps ..)); exact rfl)
    | ((with_reducible apply Keeps.step (sdiRefresh_keeps ..)); exact rfl)
    | ((with_reducible apply Keeps.step (sdiResume_keeps ..)); exact rfl)
    | with_reducible apply Keeps.forEach
    | fail_if_no_progress dsimp only)

theorem execSdiStuck_keeps (i : Fin 24) (t : Instant) (s : State) : Outcome.Keeps 1179657 s (execSdiStuck i t s) := by
  have h0 := Keeps.refl 1179657 s
  unfold execSdiStuck
  try dsimp only
  repeat' (first
    | with_reducible apply Outcome.Keeps.next
    | with_reducible apply Outcome.Keeps.ite
    | with_reducible apply Keeps.ite
    | with_reducible apply Keeps.iteFst
    | with_reducible apply Keeps.iteSnd
    | intro _
    | with_reducible assumption
    | ((with_reducible apply Keeps.step (State.advance_keeps ..)); exact rfl)
    | ((with_reducible apply Keeps.step (State.setFlag_keeps ..)); exact rfl)
    | ((with_reducible apply Keeps.step (sdiStale_keeps ..)); exact rfl)
    | fail_if_no_progress dsimp only)

theorem execSdiUnstuck_keeps (i : Fin 24) (t : Instant) (s : State) : Outcome.Keeps 1179661 s (execSdiUnstuck i t s) := by
  have h0 := Keeps.refl 1179661 s
  unfold execSdiUnstuck
  try dsimp only
  repeat' (first
    | with_reducible apply Outcome.Keeps.next
    | with_reducible apply Outcome.Keeps.ite
    | with_reducible apply Keeps.ite
    | with_reducible apply Keeps.iteFst
    | with_reducible apply Keeps.iteSnd
    | intro _
    | with_reducible assumption
    | ((with_reducible apply Keeps.step (State.advance_keeps ..)); exact rfl)
    | ((with_reducible apply Keeps.step (State.setFlag_keeps ..)); exact rfl)
    | ((with_reducible apply Keeps.step (sdiResume_keeps ..)); exact rfl)
    | fail_if_no_progress dsimp only)

end Sys2Proof.Machine
end

