-- ==== Sys2Proof/Laws/KeepsClockOps.lean ====
section
/-!
SUPPORT. What each function of Machine/ClockOps.lean keeps, and which parts of the state it leaves alone.
-/

namespace Sys2Proof.Machine

theorem State.setClk_keeps (s : State) (c : Clk) : Keeps 16777216 s (State.setClk s c) := by
  have h0 := Keeps.refl 16777216 s
  unfold State.setClk
  try dsimp only
  repeat' (first
    | intro _
    | with_reducible assumption
    | (fail_if_no_progress with_reducible apply Keeps.update) <;> first | ((with_reducible apply Or.inr); with_reducible rfl) | ((with_reducible apply Or.inl); first | exact rfl) | skip
    | fail_if_no_progress dsimp only)

theorem setPll_keeps (p : Nat) (v : Nat) (s : State) : Keeps 8 s (setPll p v s) := by
  have h0 := Keeps.refl 8 s
  unfold setPll
  try dsimp only
  repeat' (first
    | intro _
    | with_reducible assumption
    | ((with_reducible apply Keeps.step (State.setFld_keeps ..)); exact rfl)
    | fail_if_no_progress dsimp only)

theorem allLocked_keeps (s : State) : Keeps 8 s (allLocked s) := by
  have h0 := Keeps.refl 8 s
  unfold allLocked
  try dsimp only
  repeat' (first
    | intro _
    | with_reducible assumption
    | ((with_reducible apply Keeps.step (State.setFlag_keeps ..)); exact rfl)
    | fail_if_no_progress dsimp only)

theorem pllStart_keeps (p : Nat) (s : State) : Keeps 16777224 s (pllStart p s) := by
  have h0 := Keeps.refl 16777224 s
  unfold pllStart
  try dsimp only
  repeat' (first
    | intro _
    | with_reducible assumption
    | ((with_reducible apply Keeps.step (State.setClk_keeps ..)); exact rfl)
    | ((with_reducible apply Keeps.step (allLocked_keeps ..)); exact rfl)
    | ((with_reducible apply Keeps.step (setPll_keeps ..)); exact rfl)
    | fail_if_no_progress dsimp only)

theorem pllHoldover_keeps (p : Nat) (s : State) : Keeps 16777228 s (pllHoldover p s) := by
  have h0 := Keeps.refl 16777228 s
  unfold pllHoldover
  try dsimp only
  repeat' (first
    | intro _
    | with_reducible assumption
    | ((with_reducible apply Keeps.step (State.bump_keeps ..)); exact rfl)
    | ((with_reducible apply Keeps.step (State.setClk_keeps ..)); exact rfl)
    | ((with_reducible apply Keeps.step (State.setFlag_keeps ..)); exact rfl)
    | ((with_reducible apply Keeps.step (State.setReg_keeps ..)); exact rfl)
    | ((with_reducible apply Keeps.step (allLocked_keeps ..)); exact rfl)
    | ((with_reducible apply Keeps.step (setPll_keeps ..)); exact rfl)
    | fail_if_no_progress dsimp only)

theorem pllLose_keeps (p : Nat) (s : State) : Keeps 16777228 s (pllLose p s) := by
  have h0 := Keeps.refl 16777228 s
  unfold pllLose
  try dsimp only
  repeat' (first
    | intro _
    | with_reducible assumption
    | ((with_reducible apply Keeps.step (State.bump_keeps ..)); exact rfl)
    | ((with_reducible apply Keeps.step (State.setFlag_keeps ..)); exact rfl)
    | ((with_reducible apply Keeps.step (pllHoldover_keeps ..)); exact rfl)
    | fail_if_no_progress dsimp only)

theorem ditherMoves_keeps (s : State) : Keeps 16777220 s (ditherMoves s) := by
  have h0 := Keeps.refl 16777220 s
  unfold ditherMoves
  try dsimp only
  repeat' (first
    | intro _
    | with_reducible assumption
    | ((with_reducible apply Keeps.step (State.setClk_keeps ..)); exact rfl)
    | ((with_reducible apply Keeps.step (State.useFree_keeps ..)); exact rfl)
    | with_reducible apply Keeps.forEach
    | fail_if_no_progress dsimp only)

theorem timeRejoins_keeps (s : State) : Keeps 6 s (timeRejoins s) := by
  have h0 := Keeps.refl 6 s
  unfold timeRejoins
  try dsimp only
  repeat' (first
    | intro _
    | with_reducible assumption
    | ((with_reducible apply Keeps.step (State.useFree_keeps ..)); exact rfl)
    | (fail_if_no_progress with_reducible apply Keeps.update) <;> first | ((with_reducible apply Or.inr); with_reducible rfl) | ((with_reducible apply Or.inl); first | exact rfl) | skip
    | fail_if_no_progress dsimp only)

theorem pllLocked_keeps (p : Nat) (band : Nat) (s : State) : Keeps 16777230 s (pllLocked p band s) := by
  have h0 := Keeps.refl 16777230 s
  unfold pllLocked
  try dsimp only
  repeat' (first
    | with_reducible apply Keeps.ite
    | with_reducible apply Keeps.iteFst
    | with_reducible apply Keeps.iteSnd
    | intro _
    | with_reducible assumption
    | ((with_reducible apply Keeps.step (State.bump_keeps ..)); exact rfl)
    | ((with_reducible apply Keeps.step (State.setClk_keeps ..)); exact rfl)
    | ((with_reducible apply Keeps.step (State.setFlag_keeps ..)); exact rfl)
    | ((with_reducible apply Keeps.step (State.setReg_keeps ..)); exact rfl)
    | ((with_reducible apply Keeps.step (allLocked_keeps ..)); exact rfl)
    | ((with_reducible apply Keeps.step (setPll_keeps ..)); exact rfl)
    | ((with_reducible apply Keeps.step (timeRejoins_keeps ..)); exact rfl)
    | fail_if_no_progress dsimp only)

theorem setHoldover_keeps (b : Bool) (s : State) : Keeps 1207959560 s (setHoldover b s) := by
  have h0 := Keeps.refl 1207959560 s
  unfold setHoldover
  try dsimp only
  repeat' (first
    | intro _
    | with_reducible assumption
    | ((with_reducible apply Keeps.step (State.setFlag_keeps ..)); exact rfl)
    | ((with_reducible apply Keeps.step (reportFaults_keeps ..)); exact rfl)
    | fail_if_no_progress dsimp only)

theorem holdoverNoRef_keeps (s : State) : Keeps 1207959560 s (holdoverNoRef s) := by
  have h0 := Keeps.refl 1207959560 s
  unfold holdoverNoRef
  try dsimp only
  repeat' (first
    | with_reducible apply Keeps.ite
    | with_reducible apply Keeps.iteFst
    | with_reducible apply Keeps.iteSnd
    | intro _
    | with_reducible assumption
    | ((with_reducible apply Keeps.step (setHoldover_keeps ..)); exact rfl)
    | fail_if_no_progress dsimp only)

theorem pllReengage_keeps (p : Nat) (s : State) : Keeps 8 s (pllReengage p s) := by
  have h0 := Keeps.refl 8 s
  unfold pllReengage
  try dsimp only
  repeat' (first
    | intro _
    | with_reducible assumption
    | ((with_reducible apply Keeps.step (State.setReg_keeps ..)); exact rfl)
    | ((with_reducible apply Keeps.step (setPll_keeps ..)); exact rfl)
    | fail_if_no_progress dsimp only)

theorem stepTime_keeps (d : Int) (s : State) : Keeps 1224999182 s (stepTime d s) := by
  have h0 := Keeps.refl 1224999182 s
  unfold stepTime
  try dsimp only
  repeat' (first
    | intro _
    | with_reducible assumption
    | ((with_reducible apply Keeps.step (State.bump_keeps ..)); exact rfl)
    | ((with_reducible apply Keeps.step (State.note_keeps ..)); exact rfl)
    | ((with_reducible apply Keeps.step (State.setAlarm_keeps ..)); exact rfl)
    | ((with_reducible apply Keeps.step (State.setClk_keeps ..)); exact rfl)
    | ((with_reducible apply Keeps.step (State.setReg_keeps ..)); exact rfl)
    | with_reducible apply Keeps.forEach
    | (fail_if_no_progress with_reducible apply Keeps.update) <;> first | ((with_reducible apply Or.inr); with_reducible rfl) | ((with_reducible apply Or.inl); first | exact rfl) | skip
    | fail_if_no_progress dsimp only)

theorem stepOnce_keeps (s : State) : Keeps 1224999182 s (stepOnce s) := by
  have h0 := Keeps.refl 1224999182 s
  unfold stepOnce
  try dsimp only
  repeat' (first
    | with_reducible apply Keeps.ite
    | with_reducible apply Keeps.iteFst
    | with_reducible apply Keeps.iteSnd
    | intro _
    | with_reducible assumption
    | ((with_reducible apply Keeps.step (State.setReg_keeps ..)); exact rfl)
    | ((with_reducible apply Keeps.step (State.setTf_keeps ..)); exact rfl)
    | ((with_reducible apply Keeps.step (setTimeState_keeps ..)); exact rfl)
    | ((with_reducible apply Keeps.step (stepTime_keeps ..)); exact rfl)
    | split
    | fail_if_no_progress dsimp only)

theorem setInc_keeps (d : Int) (s : State) : Keeps 16777216 s (setInc d s) := by
  have h0 := Keeps.refl 16777216 s
  unfold setInc
  try dsimp only
  repeat' (first
    | intro _
    | with_reducible assumption
    | ((with_reducible apply Keeps.step (State.setClk_keeps ..)); exact rfl)
    | fail_if_no_progress dsimp only)

theorem setRate_keeps (r : Rat) (s : State) : Keeps 16777228 s (setRate r s) := by
  have h0 := Keeps.refl 16777228 s
  unfold setRate
  try dsimp only
  repeat' (first
    | intro _
    | with_reducible assumption
    | ((with_reducible apply Keeps.step (State.openRound_keeps ..)); exact rfl)
    | ((with_reducible apply Keeps.step (State.setClk_keeps ..)); exact rfl)
    | ((with_reducible apply Keeps.step (State.setReg_keeps ..)); exact rfl)
    | ((with_reducible apply Keeps.step (setInc_keeps ..)); exact rfl)
    | fail_if_no_progress dsimp only)

theorem servo_keeps (o : Int) (at_ : Instant) (s : State) : Keeps 16777228 s (servo o at_ s) := by
  have h0 := Keeps.refl 16777228 s
  unfold servo
  try dsimp only
  repeat' (first
    | with_reducible apply Keeps.ite
    | with_reducible apply Keeps.iteFst
    | with_reducible apply Keeps.iteSnd
    | intro _
    | with_reducible assumption
    | ((with_reducible apply Keeps.step (State.setClk_keeps ..)); exact rfl)
    | ((with_reducible apply Keeps.step (State.setTf_keeps ..)); exact rfl)
    | ((with_reducible apply Keeps.step (setRate_keeps ..)); exact rfl)
    | split
    | fail_if_no_progress dsimp only)

theorem lockRuns_keeps (o : Int) (s : State) : Keeps 16777224 s (lockRuns o s) := by
  have h0 := Keeps.refl 16777224 s
  unfold lockRuns
  try dsimp only
  repeat' (first
    | with_reducible apply Keeps.ite
    | with_reducible apply Keeps.iteFst
    | with_reducible apply Keeps.iteSnd
    | intro _
    | with_reducible assumption
    | ((with_reducible apply Keeps.step (State.setClk_keeps ..)); exact rfl)
    | ((with_reducible apply Keeps.step (setTimeState_keeps ..)); exact rfl)
    | fail_if_no_progress dsimp only)

theorem validOffset_keeps (o : Int) (at_ : Instant) (s : State) : Keeps 16777228 s (validOffset o at_ s) := by
  have h0 := Keeps.refl 16777228 s
  unfold validOffset
  try dsimp only
  repeat' (first
    | with_reducible apply Keeps.ite
    | with_reducible apply Keeps.iteFst
    | with_reducible apply Keeps.iteSnd
    | intro _
    | with_reducible assumption
    | ((with_reducible apply Keeps.step (State.setClk_keeps ..)); exact rfl)
    | ((with_reducible apply Keeps.step (State.setReg_keeps ..)); exact rfl)
    | ((with_reducible apply Keeps.step (State.setTf_keeps ..)); exact rfl)
    | ((with_reducible apply Keeps.step (lockRuns_keeps ..)); exact rfl)
    | ((with_reducible apply Keeps.step (servo_keeps ..)); exact rfl)
    | ((with_reducible apply Keeps.step (setTimeState_keeps ..)); exact rfl)
    | ((with_reducible apply Keeps.step (stepDeferred_keeps ..)); exact rfl)
    | fail_if_no_progress dsimp only)

theorem State.setPtpPort_keeps (s : State) (k : Nat) (p : PtpPort) : Keeps 33554432 s (State.setPtpPort s k p) := by
  have h0 := Keeps.refl 33554432 s
  unfold State.setPtpPort
  try dsimp only
  repeat' (first
    | intro _
    | with_reducible assumption
    | (fail_if_no_progress with_reducible apply Keeps.update) <;> first | ((with_reducible apply Or.inr); with_reducible rfl) | ((with_reducible apply Or.inl); first | exact rfl) | skip
    | fail_if_no_progress dsimp only)

theorem setPortState_keeps (k : Nat) (v : Nat) (s : State) : Keeps 8 s (setPortState k v s) := by
  have h0 := Keeps.refl 8 s
  unfold setPortState
  try dsimp only
  repeat' (first
    | intro _
    | with_reducible assumption
    | ((with_reducible apply Keeps.step (State.setFld_keeps ..)); exact rfl)
    | fail_if_no_progress dsimp only)

theorem dropOffset_keeps (s : State) : Keeps 16777216 s (dropOffset s) := by
  have h0 := Keeps.refl 16777216 s
  unfold dropOffset
  try dsimp only
  repeat' (first
    | intro _
    | with_reducible assumption
    | ((with_reducible apply Keeps.step (State.setClk_keeps ..)); exact rfl)
    | fail_if_no_progress dsimp only)

theorem ptpSend_keeps (k : Nat) (kind : Nat) (vals : List Int) (t : Instant) (s : State) : Keeps 1342177280 s (ptpSend k kind vals t s) := by
  have h0 := Keeps.refl 1342177280 s
  unfold ptpSend
  try dsimp only
  repeat' (first
    | with_reducible apply Keeps.ite
    | with_reducible apply Keeps.iteFst
    | with_reducible apply Keeps.iteSnd
    | intro _
    | with_reducible assumption
    | ((with_reducible apply Keeps.step (State.emit_keeps ..)); exact rfl)
    | (fail_if_no_progress with_reducible apply Keeps.update) <;> first | ((with_reducible apply Or.inr); with_reducible rfl) | ((with_reducible apply Or.inl); first | exact rfl) | skip
    | fail_if_no_progress dsimp only)

theorem ptpRestart_keeps (s : State) : Keeps 50331656 s (ptpRestart s) := by
  have h0 := Keeps.refl 50331656 s
  unfold ptpRestart
  try dsimp only
  repeat' (first
    | with_reducible apply Keeps.ite
    | with_reducible apply Keeps.iteFst
    | with_reducible apply Keeps.iteSnd
    | intro _
    | with_reducible assumption
    | ((with_reducible apply Keeps.step (State.setPtpPort_keeps ..)); exact rfl)
    | ((with_reducible apply Keeps.step (State.setReg_keeps ..)); exact rfl)
    | ((with_reducible apply Keeps.step (State.setTf_keeps ..)); exact rfl)
    | ((with_reducible apply Keeps.step (dropOffset_keeps ..)); exact rfl)
    | ((with_reducible apply Keeps.step (setPortState_keeps ..)); exact rfl)
    | with_reducible apply Keeps.forEach
    | (fail_if_no_progress with_reducible apply Keeps.update) <;> first | ((with_reducible apply Or.inr); with_reducible rfl) | ((with_reducible apply Or.inl); first | exact rfl) | skip
    | fail_if_no_progress dsimp only)

theorem ptpTake_keeps (k : Nat) (v : Nat) (parent : Option Nat) (s : State) : Keeps 50331656 s (ptpTake k v parent s) := by
  have h0 := Keeps.refl 50331656 s
  unfold ptpTake
  try dsimp only
  repeat' (first
    | with_reducible apply Keeps.ite
    | with_reducible apply Keeps.iteFst
    | with_reducible apply Keeps.iteSnd
    | intro _
    | with_reducible assumption
    | ((with_reducible apply Keeps.step (State.setPtpPort_keeps ..)); exact rfl)
    | ((with_reducible apply Keeps.step (dropOffset_keeps ..)); exact rfl)
    | ((with_reducible apply Keeps.step (setPortState_keeps ..)); exact rfl)
    | fail_if_no_progress dsimp only)

theorem ptpDecide_keeps (s : State) : Keeps 50331656 s (ptpDecide s) := by
  have h0 := Keeps.refl 50331656 s
  unfold ptpDecide
  try dsimp only
  repeat' (first
    | with_reducible apply Keeps.ite
    | with_reducible apply Keeps.iteFst
    | with_reducible apply Keeps.iteSnd
    | intro _
    | with_reducible assumption
    | ((with_reducible apply Keeps.step (State.setReg_keeps ..)); exact rfl)
    | ((with_reducible apply Keeps.step (State.setTf_keeps ..)); exact rfl)
    | ((with_reducible apply Keeps.step (ptpTake_keeps ..)); exact rfl)
    | with_reducible apply Keeps.forEach
    | split
    | fail_if_no_progress dsimp only)

theorem announceIn_keeps (k : Nat) (src : Nat) (ds : List Nat) (steps : Nat) (s : State) : Keeps 50331656 s (announceIn k src ds steps s) := by
  have h0 := Keeps.refl 50331656 s
  unfold announceIn
  try dsimp only
  repeat' (first
    | intro _
    | with_reducible assumption
    | ((with_reducible apply Keeps.step (ptpDecide_keeps ..)); exact rfl)
    | (fail_if_no_progress with_reducible apply Keeps.update) <;> first | ((with_reducible apply Or.inr); with_reducible rfl) | ((with_reducible apply Or.inl); first | exact rfl) | skip
    | fail_if_no_progress dsimp only)

theorem syncDone_keeps (k : Nat) (rx : Int) (origin : Int) (corr : Int) (s : State) : Keeps 16777216 s (syncDone k rx origin corr s) := by
  have h0 := Keeps.refl 16777216 s
  unfold syncDone
  try dsimp only
  repeat' (first
    | with_reducible apply Keeps.ite
    | with_reducible apply Keeps.iteFst
    | with_reducible apply Keeps.iteSnd
    | intro _
    | with_reducible assumption
    | ((with_reducible apply Keeps.step (State.setClk_keeps ..)); exact rfl)
    | fail_if_no_progress dsimp only)

theorem exchangeDone_keeps (k : Nat) (t1 : Int) (t4 : Int) (turn : Int) (s : State) : Keeps 33554440 s (exchangeDone k t1 t4 turn s) := by
  have h0 := Keeps.refl 33554440 s
  unfold exchangeDone
  try dsimp only
  repeat' (first
    | with_reducible apply Keeps.ite
    | with_reducible apply Keeps.iteFst
    | with_reducible apply Keeps.iteSnd
    | intro _
    | with_reducible assumption
    | ((with_reducible apply Keeps.step (State.setPtpPort_keeps ..)); exact rfl)
    | ((with_reducible apply Keeps.step (State.setReg_keeps ..)); exact rfl)
    | fail_if_no_progress dsimp only)

theorem ptpIn_keeps (k : Nat) (src : Nat) (m : PtpMsg) (rx : Int) (s : State) : Keeps 1392508940 s (ptpIn k src m rx s) := by
  have h0 := Keeps.refl 1392508940 s
  unfold ptpIn
  try dsimp only
  repeat' (first
    | with_reducible apply Keeps.ite
    | with_reducible apply Keeps.iteFst
    | with_reducible apply Keeps.iteSnd
    | intro _
    | with_reducible assumption
    | ((with_reducible apply Keeps.step (State.bump_keeps ..)); exact rfl)
    | ((with_reducible apply Keeps.step (State.setPtpPort_keeps ..)); exact rfl)
    | ((with_reducible apply Keeps.step (announceIn_keeps ..)); exact rfl)
    | ((with_reducible apply Keeps.step (exchangeDone_keeps ..)); exact rfl)
    | ((with_reducible apply Keeps.step (ptpSend_keeps ..)); exact rfl)
    | ((with_reducible apply Keeps.step (setPortState_keeps ..)); exact rfl)
    | ((with_reducible apply Keeps.step (syncDone_keeps ..)); exact rfl)
    | split
    | fail_if_no_progress dsimp only)

theorem alarmEnable_keeps (n : Nat) (s : State) : Keeps 320 s (alarmEnable n s) := by
  have h0 := Keeps.refl 320 s
  unfold alarmEnable
  try dsimp only
  repeat' (first
    | with_reducible apply Keeps.ite
    | with_reducible apply Keeps.iteFst
    | with_reducible apply Keeps.iteSnd
    | intro _
    | with_reducible assumption
    | ((with_reducible apply Keeps.step (alarmFix_keeps ..)); exact rfl)
    | ((with_reducible apply Keeps.step (placeInst_keeps ..)); exact rfl)
    | split
    | fail_if_no_progress dsimp only)

theorem alarmDisable_keeps (n : Nat) (s : State) : Keeps 256 s (alarmDisable n s) := by
  have h0 := Keeps.refl 256 s
  unfold alarmDisable
  try dsimp only
  repeat' (first
    | intro _
    | with_reducible assumption
    | ((with_reducible apply Keeps.step (State.setAlarm_keeps ..)); exact rfl)
    | fail_if_no_progress dsimp only)

theorem actTaCfg_keeps (n : Nat) (v : Nat) (s : State) : Keeps 328 s (actTaCfg n v s).1 := by
  have h0 := Keeps.refl 328 s
  unfold actTaCfg
  try dsimp only
  repeat' (first
    | with_reducible apply Keeps.ite
    | with_reducible apply Keeps.iteFst
    | with_reducible apply Keeps.iteSnd
    | intro _
    | with_reducible assumption
    | ((with_reducible apply Keeps.step (State.setReg_keeps ..)); exact rfl)
    | ((with_reducible apply Keeps.step (alarmDisable_keeps ..)); exact rfl)
    | ((with_reducible apply Keeps.step (alarmEnable_keeps ..)); exact rfl)
    | fail_if_no_progress dsimp only)

end Sys2Proof.Machine
end

