-- ==== Sys2Proof/Laws/KeepsPwm.lean ====
section
/-!
SUPPORT. What each function of Machine/Pwm.lean keeps, and which parts of the state it leaves alone.
-/

namespace Sys2Proof.Machine

theorem actCgStart_keeps (mask : Nat) (s : State) : Keeps 456 s (actCgStart mask s).1 := by
  have h0 := Keeps.refl 456 s
  unfold actCgStart
  try dsimp only
  repeat' (first
    | with_reducible apply Keeps.ite
    | with_reducible apply Keeps.iteFst
    | with_reducible apply Keeps.iteSnd
    | intro _
    | with_reducible assumption
    | ((with_reducible apply Keeps.step (State.setCarrier_keeps ..)); exact rfl)
    | ((with_reducible apply Keeps.step (State.setReg_keeps ..)); exact rfl)
    | ((with_reducible apply Keeps.step (carrierAlarmFix_keeps ..)); exact rfl)
    | ((with_reducible apply Keeps.step (stepDeferred_keeps ..)); exact rfl)
    | with_reducible apply Keeps.forEach
    | fail_if_no_progress dsimp only)

theorem execCgStart_keeps (mask : BitVec 16) (s : State) : Outcome.Keeps 456 s (execCgStart mask s) := by
  have h0 := Keeps.refl 456 s
  unfold execCgStart
  try dsimp only
  repeat' (first
    | with_reducible apply Outcome.Keeps.next
    | intro _
    | with_reducible assumption
    | ((with_reducible apply Keeps.step (actCgStart_keeps ..)); exact rfl)
    | fail_if_no_progress dsimp only)

theorem actCgStop_keeps (mask : Nat) (s : State) : Keeps 396 s (actCgStop mask s).1 := by
  have h0 := Keeps.refl 396 s
  unfold actCgStop
  try dsimp only
  repeat' (first
    | with_reducible apply Keeps.ite
    | with_reducible apply Keeps.iteFst
    | with_reducible apply Keeps.iteSnd
    | intro _
    | with_reducible assumption
    | ((with_reducible apply Keeps.step (State.setCarrier_keeps ..)); exact rfl)
    | ((with_reducible apply Keeps.step (carrierAlarmCancel_keeps ..)); exact rfl)
    | ((with_reducible apply Keeps.step (stopCarrier_keeps ..)); exact rfl)
    | with_reducible apply Keeps.forEach
    | fail_if_no_progress dsimp only)

theorem execCgStop_keeps (mask : BitVec 16) (s : State) : Outcome.Keeps 396 s (execCgStop mask s) := by
  have h0 := Keeps.refl 396 s
  unfold execCgStop
  try dsimp only
  repeat' (first
    | with_reducible apply Outcome.Keeps.next
    | intro _
    | with_reducible assumption
    | ((with_reducible apply Keeps.step (actCgStop_keeps ..)); exact rfl)
    | fail_if_no_progress dsimp only)

theorem execCgEvtMatch_keeps (n : Fin 16) (s : State) : Outcome.Keeps 129 s (execCgEvtMatch n s) := by
  have h0 := Keeps.refl 129 s
  unfold execCgEvtMatch
  try dsimp only
  repeat' (first
    | with_reducible apply Outcome.Keeps.next
    | with_reducible apply Outcome.Keeps.ite
    | with_reducible apply Keeps.ite
    | with_reducible apply Keeps.iteFst
    | with_reducible apply Keeps.iteSnd
    | intro _
    | with_reducible assumption
    | ((with_reducible apply Keeps.step (State.advance_keeps ..)); exact rfl)
    | ((with_reducible apply Keeps.step (State.setCarrier_keeps ..)); exact rfl)
    | (fail_if_no_progress with_reducible apply Keeps.update) <;> first | ((with_reducible apply Or.inr); with_reducible rfl) | ((with_reducible apply Or.inl); first | exact rfl) | skip
    | fail_if_no_progress dsimp only)

theorem matchAt_keeps (c : Nat) (s : State) : Keeps 140 s (matchAt c s) := by
  have h0 := Keeps.refl 140 s
  unfold matchAt
  try dsimp only
  repeat' (first
    | intro _
    | with_reducible assumption
    | ((with_reducible apply Keeps.step (duePair_keeps ..)); exact rfl)
    | ((with_reducible apply Keeps.step (evalPair_keeps ..)); exact rfl)
    | fail_if_no_progress dsimp only)

theorem execCompareMatch_keeps (c : Fin 256) (t : Instant) (s : State) : Outcome.Keeps 141 s (execCompareMatch c t s) := by
  have h0 := Keeps.refl 141 s
  unfold execCompareMatch
  try dsimp only
  repeat' (first
    | with_reducible apply Outcome.Keeps.next
    | intro _
    | with_reducible assumption
    | ((with_reducible apply Keeps.step (State.advance_keeps ..)); exact rfl)
    | ((with_reducible apply Keeps.step (matchAt_keeps ..)); exact rfl)
    | fail_if_no_progress dsimp only)

theorem execDeadTimeExpiry_keeps (c : Fin 256) (s : State) : Outcome.Keeps 141 s (execDeadTimeExpiry c s) := by
  have h0 := Keeps.refl 141 s
  unfold execDeadTimeExpiry
  try dsimp only
  repeat' (first
    | with_reducible apply Outcome.Keeps.next
    | intro _
    | with_reducible assumption
    | ((with_reducible apply Keeps.step (State.advance_keeps ..)); exact rfl)
    | ((with_reducible apply Keeps.step (duePair_keeps ..)); exact rfl)
    | split
    | fail_if_no_progress dsimp only)

theorem execInterlockRelease_keeps (c : Fin 256) (t : Instant) (s : State) : Outcome.Keeps 141 s (execInterlockRelease c t s) := by
  have h0 := Keeps.refl 141 s
  unfold execInterlockRelease
  try dsimp only
  repeat' (first
    | with_reducible apply Outcome.Keeps.next
    | with_reducible apply Outcome.Keeps.ite
    | with_reducible apply Keeps.ite
    | with_reducible apply Keeps.iteFst
    | with_reducible apply Keeps.iteSnd
    | intro _
    | with_reducible assumption
    | ((with_reducible apply Keeps.step (State.advance_keeps ..)); exact rfl)
    | ((with_reducible apply Keeps.step (State.setChan_keeps ..)); exact rfl)
    | ((with_reducible apply Keeps.step (dropInterval_keeps ..)); exact rfl)
    | ((with_reducible apply Keeps.step (stage67_keeps ..)); exact rfl)
    | fail_if_no_progress dsimp only)

theorem actSwWrite_keeps (s : State) : Keeps 224 s (actSwWrite s).1 := by
  have h0 := Keeps.refl 224 s
  unfold actSwWrite
  try dsimp only
  repeat' (first
    | with_reducible apply Keeps.ite
    | with_reducible apply Keeps.iteFst
    | with_reducible apply Keeps.iteSnd
    | intro _
    | with_reducible assumption
    | ((with_reducible apply Keeps.step (takePlace_keeps ..)); exact rfl)
    | ((with_reducible apply Keeps.step (writeShadow_keeps ..)); exact rfl)
    | fail_if_no_progress dsimp only)

theorem execSwWrite_keeps (s : State) : Outcome.Keeps 224 s (execSwWrite s) := by
  have h0 := Keeps.refl 224 s
  unfold execSwWrite
  try dsimp only
  repeat' (first
    | with_reducible apply Outcome.Keeps.next
    | intro _
    | with_reducible assumption
    | ((with_reducible apply Keeps.step (actSwWrite_keeps ..)); exact rfl)
    | fail_if_no_progress dsimp only)

theorem actSwLoadAll_keeps (mask : Nat) (s : State) : Keeps 140 s (actSwLoadAll mask s).1 := by
  have h0 := Keeps.refl 140 s
  unfold actSwLoadAll
  try dsimp only
  repeat' (first
    | with_reducible apply Keeps.ite
    | with_reducible apply Keeps.iteFst
    | with_reducible apply Keeps.iteSnd
    | intro _
    | with_reducible assumption
    | ((with_reducible apply Keeps.step (loadAllGroups_keeps ..)); exact rfl)
    | ((with_reducible apply Keeps.step (takePlace_keeps ..)); exact rfl)
    | fail_if_no_progress dsimp only)

theorem execSwLoadAll_keeps (mask : BitVec 8) (s : State) : Outcome.Keeps 140 s (execSwLoadAll mask s) := by
  have h0 := Keeps.refl 140 s
  unfold execSwLoadAll
  try dsimp only
  repeat' (first
    | with_reducible apply Outcome.Keeps.next
    | intro _
    | with_reducible assumption
    | ((with_reducible apply Keeps.step (actSwLoadAll_keeps ..)); exact rfl)
    | fail_if_no_progress dsimp only)

theorem actPwmClear_keeps (s : State) : Keeps 8 s (actPwmClear s).1 := by
  have h0 := Keeps.refl 8 s
  unfold actPwmClear
  try dsimp only
  repeat' (first
    | intro _
    | with_reducible assumption
    | ((with_reducible apply Keeps.step (State.setReg_keeps ..)); exact rfl)
    | with_reducible apply Keeps.forEach
    | with_reducible apply Keeps.foldl
    | with_reducible apply Keeps.foldlFst
    | with_reducible apply Keeps.foldlSnd
    | fail_if_no_progress dsimp only)

theorem execPwmClear_keeps (s : State) : Outcome.Keeps 8 s (execPwmClear s) := by
  have h0 := Keeps.refl 8 s
  unfold execPwmClear
  try dsimp only
  repeat' (first
    | with_reducible apply Outcome.Keeps.next
    | intro _
    | with_reducible assumption
    | ((with_reducible apply Keeps.step (actPwmClear_keeps ..)); exact rfl)
    | fail_if_no_progress dsimp only)

theorem State.setRetry_keeps (s : State) (i : Nat) (r : Retry) : Keeps 128 s (State.setRetry s i r) := by
  have h0 := Keeps.refl 128 s
  unfold State.setRetry
  try dsimp only
  repeat' (first
    | intro _
    | with_reducible assumption
    | (fail_if_no_progress with_reducible apply Keeps.update) <;> first | ((with_reducible apply Or.inr); with_reducible rfl) | ((with_reducible apply Or.inl); first | exact rfl) | skip
    | fail_if_no_progress dsimp only)

theorem tripSee_keeps (i : Nat) (b : Bool) (s : State) : Keeps 136 s (tripSee i b s) := by
  have h0 := Keeps.refl 136 s
  unfold tripSee
  try dsimp only
  repeat' (first
    | intro _
    | with_reducible assumption
    | ((with_reducible apply Keeps.step (State.setRegBit_keeps ..)); exact rfl)
    | (fail_if_no_progress with_reducible apply Keeps.update) <;> first | ((with_reducible apply Or.inr); with_reducible rfl) | ((with_reducible apply Or.inl); first | exact rfl) | skip
    | fail_if_no_progress dsimp only)

theorem execTripDecision_keeps (i : Fin 32) (t : Instant) (s : State) : Outcome.Keeps 141 s (execTripDecision i t s) := by
  have h0 := Keeps.refl 141 s
  unfold execTripDecision
  try dsimp only
  repeat' (first
    | with_reducible apply Outcome.Keeps.next
    | with_reducible apply Outcome.Keeps.ite
    | with_reducible apply Keeps.ite
    | with_reducible apply Keeps.iteFst
    | with_reducible apply Keeps.iteSnd
    | intro _
    | with_reducible assumption
    | ((with_reducible apply Keeps.step (State.advance_keeps ..)); exact rfl)
    | ((with_reducible apply Keeps.step (State.bump_keeps ..)); exact rfl)
    | ((with_reducible apply Keeps.step (State.setReg_keeps ..)); exact rfl)
    | ((with_reducible apply Keeps.step (State.setRegBit_keeps ..)); exact rfl)
    | ((with_reducible apply Keeps.step (State.setRetry_keeps ..)); exact rfl)
    | ((with_reducible apply Keeps.step (forceOffAll_keeps ..)); exact rfl)
    | ((with_reducible apply Keeps.step (tripSee_keeps ..)); exact rfl)
    | fail_if_no_progress dsimp only)

theorem execTripInputInactive_keeps (i : Fin 32) (t : Instant) (s : State) : Outcome.Keeps 137 s (execTripInputInactive i t s) := by
  have h0 := Keeps.refl 137 s
  unfold execTripInputInactive
  try dsimp only
  repeat' (first
    | with_reducible apply Outcome.Keeps.next
    | with_reducible apply Outcome.Keeps.ite
    | with_reducible apply Keeps.ite
    | with_reducible apply Keeps.iteFst
    | with_reducible apply Keeps.iteSnd
    | intro _
    | with_reducible assumption
    | ((with_reducible apply Keeps.step (State.advance_keeps ..)); exact rfl)
    | ((with_reducible apply Keeps.step (tripSee_keeps ..)); exact rfl)
    | fail_if_no_progress dsimp only)

theorem execTripAutoClear_keeps (i : Fin 32) (t : Instant) (s : State) : Outcome.Keeps 137 s (execTripAutoClear i t s) := by
  have h0 := Keeps.refl 137 s
  unfold execTripAutoClear
  try dsimp only
  repeat' (first
    | with_reducible apply Outcome.Keeps.next
    | with_reducible apply Outcome.Keeps.ite
    | with_reducible apply Keeps.ite
    | with_reducible apply Keeps.iteFst
    | with_reducible apply Keeps.iteSnd
    | intro _
    | with_reducible assumption
    | ((with_reducible apply Keeps.step (State.advance_keeps ..)); exact rfl)
    | ((with_reducible apply Keeps.step (State.setReg_keeps ..)); exact rfl)
    | ((with_reducible apply Keeps.step (State.setRegBit_keeps ..)); exact rfl)
    | ((with_reducible apply Keeps.step (State.setRetry_keeps ..)); exact rfl)
    | fail_if_no_progress dsimp only)

theorem actTripClear_keeps (mask : Nat) (s : State) : Keeps 136 s (actTripClear mask s).1 := by
  have h0 := Keeps.refl 136 s
  unfold actTripClear
  try dsimp only
  repeat' (first
    | intro _
    | with_reducible assumption
    | ((with_reducible apply Keeps.step (State.setReg_keeps ..)); exact rfl)
    | ((with_reducible apply Keeps.step (State.setRegBit_keeps ..)); exact rfl)
    | ((with_reducible apply Keeps.step (State.setRetry_keeps ..)); exact rfl)
    | with_reducible apply Keeps.forEach
    | fail_if_no_progress dsimp only)

theorem execTripClear_keeps (mask : BitVec 32) (s : State) : Outcome.Keeps 136 s (execTripClear mask s) := by
  have h0 := Keeps.refl 136 s
  unfold execTripClear
  try dsimp only
  repeat' (first
    | with_reducible apply Outcome.Keeps.next
    | intro _
    | with_reducible assumption
    | ((with_reducible apply Keeps.step (actTripClear_keeps ..)); exact rfl)
    | fail_if_no_progress dsimp only)

theorem actTripCfg_keeps (i : Nat) (v : Nat) (s : State) : Keeps 136 s (actTripCfg i v s).1 := by
  have h0 := Keeps.refl 136 s
  unfold actTripCfg
  try dsimp only
  repeat' (first
    | with_reducible apply Keeps.ite
    | with_reducible apply Keeps.iteFst
    | with_reducible apply Keeps.iteSnd
    | intro _
    | with_reducible assumption
    | ((with_reducible apply Keeps.step (State.setReg_keeps ..)); exact rfl)
    | ((with_reducible apply Keeps.step (tripSee_keeps ..)); exact rfl)
    | fail_if_no_progress dsimp only)

theorem execTripCfgWrite_keeps (i : Fin 32) (v : BitVec 32) (s : State) : Outcome.Keeps 262280 s (execTripCfgWrite i v s) := by
  have h0 := Keeps.refl 262280 s
  unfold execTripCfgWrite
  try dsimp only
  repeat' (first
    | with_reducible apply Outcome.Keeps.next
    | intro _
    | with_reducible assumption
    | ((with_reducible apply Keeps.step (actTripCfg_keeps ..)); exact rfl)
    | ((with_reducible apply stored_keeps); exact rfl)
    | fail_if_no_progress dsimp only)

theorem actForceOff_keeps (j : Nat) (v : Nat) (s : State) : Keeps 140 s (actForceOff j v s).1 := by
  have h0 := Keeps.refl 140 s
  unfold actForceOff
  try dsimp only
  repeat' (first
    | with_reducible apply Keeps.ite
    | with_reducible apply Keeps.iteFst
    | with_reducible apply Keeps.iteSnd
    | intro _
    | with_reducible assumption
    | ((with_reducible apply Keeps.step (State.setReg_keeps ..)); exact rfl)
    | ((with_reducible apply Keeps.step (forceOffAll_keeps ..)); exact rfl)
    | fail_if_no_progress dsimp only)

theorem execForceOffWrite_keeps (j : Fin 8) (v : BitVec 32) (s : State) : Outcome.Keeps 140 s (execForceOffWrite j v s) := by
  have h0 := Keeps.refl 140 s
  unfold execForceOffWrite
  try dsimp only
  repeat' (first
    | with_reducible apply Outcome.Keeps.next
    | intro _
    | with_reducible assumption
    | ((with_reducible apply Keeps.step (actForceOff_keeps ..)); exact rfl)
    | fail_if_no_progress dsimp only)

end Sys2Proof.Machine
end

