-- ==== Sys2Proof/Laws/KeepsGateOps.lean ====
section
/-!
SUPPORT. What each function of Machine/GateOps.lean keeps, and which parts of the state it leaves alone.
-/

namespace Sys2Proof.Machine

theorem State.setLane_keeps (s : State) (k : Nat) (l : Lane) : Keeps 512 s (State.setLane s k l) := by
  have h0 := Keeps.refl 512 s
  unfold State.setLane
  try dsimp only
  repeat' (first
    | intro _
    | with_reducible assumption
    | (fail_if_no_progress with_reducible apply Keeps.update) <;> first | ((with_reducible apply Or.inr); with_reducible rfl) | ((with_reducible apply Or.inl); first | exact rfl) | skip
    | fail_if_no_progress dsimp only)

theorem setLaneState_keeps (k : Nat) (st : Nat) (s : State) : Keeps 8 s (setLaneState k st s) := by
  have h0 := Keeps.refl 8 s
  unfold setLaneState
  try dsimp only
  repeat' (first
    | intro _
    | with_reducible assumption
    | ((with_reducible apply Keeps.step (State.setFld_keeps ..)); exact rfl)
    | ((with_reducible apply Keeps.step (State.setRegBit_keeps ..)); exact rfl)
    | fail_if_no_progress dsimp only)

theorem setCode_keeps (k : Nat) (p : Nat) (on : Bool) (v : Nat) (s : State) : Keeps 8 s (setCode k p on v s) := by
  have h0 := Keeps.refl 8 s
  unfold setCode
  try dsimp only
  repeat' (first
    | with_reducible apply Keeps.ite
    | with_reducible apply Keeps.iteFst
    | with_reducible apply Keeps.iteSnd
    | intro _
    | with_reducible assumption
    | ((with_reducible apply Keeps.step (State.setFld_keeps ..)); exact rfl)
    | fail_if_no_progress dsimp only)

theorem resetCodes_keeps (k : Nat) (s : State) : Keeps 8 s (resetCodes k s) := by
  have h0 := Keeps.refl 8 s
  unfold resetCodes
  try dsimp only
  repeat' (first
    | intro _
    | with_reducible assumption
    | ((with_reducible apply Keeps.step (State.setReg_keeps ..)); exact rfl)
    | fail_if_no_progress dsimp only)

theorem freezeTrainer_keeps (k : Nat) (s : State) : Keeps 520 s (freezeTrainer k s) := by
  have h0 := Keeps.refl 520 s
  unfold freezeTrainer
  try dsimp only
  repeat' (first
    | intro _
    | with_reducible assumption
    | ((with_reducible apply Keeps.step (State.setFlag_keeps ..)); exact rfl)
    | ((with_reducible apply Keeps.step (State.setLane_keeps ..)); exact rfl)
    | fail_if_no_progress dsimp only)

theorem refreshCodes_keeps (k : Nat) (s : State) : Keeps 8 s (refreshCodes k s) := by
  have h0 := Keeps.refl 8 s
  unfold refreshCodes
  try dsimp only
  repeat' (first
    | with_reducible apply Keeps.ite
    | with_reducible apply Keeps.iteFst
    | with_reducible apply Keeps.iteSnd
    | intro _
    | with_reducible assumption
    | ((with_reducible apply Keeps.step (resetCodes_keeps ..)); exact rfl)
    | ((with_reducible apply Keeps.step (setCode_keeps ..)); exact rfl)
    | with_reducible apply Keeps.forEach
    | fail_if_no_progress dsimp only)

theorem trainStep_keeps (k : Nat) (p : Nat) (on : Bool) (dvdt : Nat) (ovs : Nat) (s : State) : Keeps 524 s (trainStep k p on dvdt ovs s) := by
  have h0 := Keeps.refl 524 s
  unfold trainStep
  try dsimp only
  repeat' (first
    | with_reducible apply Keeps.ite
    | with_reducible apply Keeps.iteFst
    | with_reducible apply Keeps.iteSnd
    | intro _
    | with_reducible assumption
    | ((with_reducible apply Keeps.step (State.bump_keeps ..)); exact rfl)
    | ((with_reducible apply Keeps.step (State.setFlag_keeps ..)); exact rfl)
    | ((with_reducible apply Keeps.step (State.setLane_keeps ..)); exact rfl)
    | ((with_reducible apply Keeps.step (setCode_keeps ..)); exact rfl)
    | fail_if_no_progress dsimp only)

theorem refreshReady_keeps (k : Nat) (s : State) : Keeps 8 s (refreshReady k s) := by
  have h0 := Keeps.refl 8 s
  unfold refreshReady
  try dsimp only
  repeat' (first
    | intro _
    | with_reducible assumption
    | ((with_reducible apply Keeps.step (State.setFlag_keeps ..)); exact rfl)
    | fail_if_no_progress dsimp only)

theorem requestSetup_keeps (k : Nat) (r : Nat) (s : State) : Keeps 520 s (requestSetup k r s) := by
  have h0 := Keeps.refl 520 s
  unfold requestSetup
  try dsimp only
  repeat' (first
    | with_reducible apply Keeps.ite
    | with_reducible apply Keeps.iteFst
    | with_reducible apply Keeps.iteSnd
    | intro _
    | with_reducible assumption
    | ((with_reducible apply Keeps.step (State.setLane_keeps ..)); exact rfl)
    | ((with_reducible apply Keeps.step (refreshReady_keeps ..)); exact rfl)
    | fail_if_no_progress dsimp only)

theorem sendRelease_keeps (k : Nat) (s : State) : Keeps 512 s (sendRelease k s) := by
  have h0 := Keeps.refl 512 s
  unfold sendRelease
  try dsimp only
  repeat' (first
    | with_reducible apply Keeps.ite
    | with_reducible apply Keeps.iteFst
    | with_reducible apply Keeps.iteSnd
    | intro _
    | with_reducible assumption
    | ((with_reducible apply Keeps.step (State.setLane_keeps ..)); exact rfl)
    | fail_if_no_progress dsimp only)

theorem enterLive_keeps (k : Nat) (s : State) : Keeps 520 s (enterLive k s) := by
  have h0 := Keeps.refl 520 s
  unfold enterLive
  try dsimp only
  repeat' (first
    | with_reducible apply Keeps.ite
    | with_reducible apply Keeps.iteFst
    | with_reducible apply Keeps.iteSnd
    | intro _
    | with_reducible assumption
    | ((with_reducible apply Keeps.step (State.setLane_keeps ..)); exact rfl)
    | ((with_reducible apply Keeps.step (refreshReady_keeps ..)); exact rfl)
    | ((with_reducible apply Keeps.step (sendRelease_keeps ..)); exact rfl)
    | ((with_reducible apply Keeps.step (setLaneState_keeps ..)); exact rfl)
    | fail_if_no_progress dsimp only)

theorem leaveLive_keeps (k : Nat) (st : Nat) (s : State) : Keeps 520 s (leaveLive k st s) := by
  have h0 := Keeps.refl 520 s
  unfold leaveLive
  try dsimp only
  repeat' (first
    | with_reducible apply Keeps.ite
    | with_reducible apply Keeps.iteFst
    | with_reducible apply Keeps.iteSnd
    | intro _
    | with_reducible assumption
    | ((with_reducible apply Keeps.step (State.setLane_keeps ..)); exact rfl)
    | ((with_reducible apply Keeps.step (State.setReg_keeps ..)); exact rfl)
    | ((with_reducible apply Keeps.step (refreshReady_keeps ..)); exact rfl)
    | ((with_reducible apply Keeps.step (setLaneState_keeps ..)); exact rfl)
    | fail_if_no_progress dsimp only)

theorem lanesLive_keeps (s : State) : Keeps 520 s (lanesLive s) := by
  have h0 := Keeps.refl 520 s
  unfold lanesLive
  try dsimp only
  repeat' (first
    | with_reducible apply Keeps.ite
    | with_reducible apply Keeps.iteFst
    | with_reducible apply Keeps.iteSnd
    | intro _
    | with_reducible assumption
    | ((with_reducible apply Keeps.step (State.setLane_keeps ..)); exact rfl)
    | ((with_reducible apply Keeps.step (enterLive_keeps ..)); exact rfl)
    | with_reducible apply Keeps.forEach
    | fail_if_no_progress dsimp only)

theorem lanesAllOff_keeps (s : State) : Keeps 512 s (lanesAllOff s) := by
  have h0 := Keeps.refl 512 s
  unfold lanesAllOff
  try dsimp only
  repeat' (first
    | with_reducible apply Keeps.ite
    | with_reducible apply Keeps.iteFst
    | with_reducible apply Keeps.iteSnd
    | intro _
    | with_reducible assumption
    | ((with_reducible apply Keeps.step (State.setLane_keeps ..)); exact rfl)
    | with_reducible apply Keeps.forEach
    | fail_if_no_progress dsimp only)

theorem lanesIdle_keeps (s : State) : Keeps 520 s (lanesIdle s) := by
  have h0 := Keeps.refl 520 s
  unfold lanesIdle
  try dsimp only
  repeat' (first
    | with_reducible apply Keeps.ite
    | with_reducible apply Keeps.iteFst
    | with_reducible apply Keeps.iteSnd
    | intro _
    | with_reducible assumption
    | ((with_reducible apply Keeps.step (leaveLive_keeps ..)); exact rfl)
    | with_reducible apply Keeps.forEach
    | fail_if_no_progress dsimp only)

theorem nextAccess_keeps (k : Nat) (t : Instant) (s : State) : Keeps 512 s (nextAccess k t s) := by
  have h0 := Keeps.refl 512 s
  unfold nextAccess
  try dsimp only
  repeat' (first
    | with_reducible apply Keeps.ite
    | with_reducible apply Keeps.iteFst
    | with_reducible apply Keeps.iteSnd
    | intro _
    | with_reducible assumption
    | ((with_reducible apply Keeps.step (State.setLane_keeps ..)); exact rfl)
    | split
    | fail_if_no_progress dsimp only)

theorem latchLane_keeps (k : Nat) (s : State) : Keeps 8 s (latchLane k s) := by
  have h0 := Keeps.refl 8 s
  unfold latchLane
  try dsimp only
  repeat' (first
    | intro _
    | with_reducible assumption
    | ((with_reducible apply Keeps.step (State.setFlag_keeps ..)); exact rfl)
    | ((with_reducible apply Keeps.step (State.setRegBit_keeps ..)); exact rfl)
    | fail_if_no_progress dsimp only)

theorem laneFault_keeps (k : Nat) (c : Nat) (s : State) : Keeps 652 s (laneFault k c s) := by
  have h0 := Keeps.refl 652 s
  unfold laneFault
  try dsimp only
  repeat' (first
    | with_reducible apply Keeps.ite
    | with_reducible apply Keeps.iteFst
    | with_reducible apply Keeps.iteSnd
    | intro _
    | with_reducible assumption
    | ((with_reducible apply Keeps.step (State.setFlag_keeps ..)); exact rfl)
    | ((with_reducible apply Keeps.step (State.setFld_keeps ..)); exact rfl)
    | ((with_reducible apply Keeps.step (State.setLane_keeps ..)); exact rfl)
    | ((with_reducible apply Keeps.step (State.setRegBit_keeps ..)); exact rfl)
    | ((with_reducible apply Keeps.step (forceOffAll_keeps ..)); exact rfl)
    | ((with_reducible apply Keeps.step (freezeTrainer_keeps ..)); exact rfl)
    | ((with_reducible apply Keeps.step (latchLane_keeps ..)); exact rfl)
    | fail_if_no_progress dsimp only)

theorem laneTry_keeps (k : Nat) (s : State) : Keeps 520 s (laneTry k s) := by
  have h0 := Keeps.refl 520 s
  unfold laneTry
  try dsimp only
  repeat' (first
    | intro _
    | with_reducible assumption
    | ((with_reducible apply Keeps.step (State.setLane_keeps ..)); exact rfl)
    | ((with_reducible apply Keeps.step (State.setReg_keeps ..)); exact rfl)
    | fail_if_no_progress dsimp only)

theorem clearLaneFault_keeps (k : Nat) (s : State) : Keeps 520 s (clearLaneFault k s) := by
  have h0 := Keeps.refl 520 s
  unfold clearLaneFault
  try dsimp only
  repeat' (first
    | with_reducible apply Keeps.ite
    | with_reducible apply Keeps.iteFst
    | with_reducible apply Keeps.iteSnd
    | intro _
    | with_reducible assumption
    | ((with_reducible apply Keeps.step (State.setFlag_keeps ..)); exact rfl)
    | ((with_reducible apply Keeps.step (State.setLane_keeps ..)); exact rfl)
    | ((with_reducible apply Keeps.step (State.setReg_keeps ..)); exact rfl)
    | ((with_reducible apply Keeps.step (State.setRegBit_keeps ..)); exact rfl)
    | ((with_reducible apply Keeps.step (laneTry_keeps ..)); exact rfl)
    | fail_if_no_progress dsimp only)

theorem releaseFailed_keeps (k : Nat) (s : State) : Keeps 520 s (releaseFailed k s) := by
  have h0 := Keeps.refl 520 s
  unfold releaseFailed
  try dsimp only
  repeat' (first
    | with_reducible apply Keeps.ite
    | with_reducible apply Keeps.iteFst
    | with_reducible apply Keeps.iteSnd
    | intro _
    | with_reducible assumption
    | ((with_reducible apply Keeps.step (State.setLane_keeps ..)); exact rfl)
    | ((with_reducible apply Keeps.step (laneTry_keeps ..)); exact rfl)
    | ((with_reducible apply Keeps.step (latchLane_keeps ..)); exact rfl)
    | fail_if_no_progress dsimp only)

theorem laneEnable_keeps (k : Nat) (s : State) : Keeps 520 s (laneEnable k s) := by
  have h0 := Keeps.refl 520 s
  unfold laneEnable
  try dsimp only
  repeat' (first
    | with_reducible apply Keeps.ite
    | with_reducible apply Keeps.iteFst
    | with_reducible apply Keeps.iteSnd
    | intro _
    | with_reducible assumption
    | ((with_reducible apply Keeps.step (State.setFlag_keeps ..)); exact rfl)
    | ((with_reducible apply Keeps.step (State.setLane_keeps ..)); exact rfl)
    | ((with_reducible apply Keeps.step (setLaneState_keeps ..)); exact rfl)
    | fail_if_no_progress dsimp only)

theorem laneDisable_keeps (k : Nat) (s : State) : Keeps 520 s (laneDisable k s) := by
  have h0 := Keeps.refl 520 s
  unfold laneDisable
  try dsimp only
  repeat' (first
    | with_reducible apply Keeps.ite
    | with_reducible apply Keeps.iteFst
    | with_reducible apply Keeps.iteSnd
    | intro _
    | with_reducible assumption
    | ((with_reducible apply Keeps.step (State.setFlag_keeps ..)); exact rfl)
    | ((with_reducible apply Keeps.step (State.setLane_keeps ..)); exact rfl)
    | ((with_reducible apply Keeps.step (leaveLive_keeps ..)); exact rfl)
    | fail_if_no_progress dsimp only)

theorem laneOffDone_keeps (k : Nat) (s : State) : Keeps 520 s (laneOffDone k s) := by
  have h0 := Keeps.refl 520 s
  unfold laneOffDone
  try dsimp only
  repeat' (first
    | with_reducible apply Keeps.ite
    | with_reducible apply Keeps.iteFst
    | with_reducible apply Keeps.iteSnd
    | intro _
    | with_reducible assumption
    | ((with_reducible apply Keeps.step (State.setFlag_keeps ..)); exact rfl)
    | ((with_reducible apply Keeps.step (laneEnable_keeps ..)); exact rfl)
    | ((with_reducible apply Keeps.step (setLaneState_keeps ..)); exact rfl)
    | fail_if_no_progress dsimp only)

theorem laneStarted_keeps (k : Nat) (s : State) : Keeps 520 s (laneStarted k s) := by
  have h0 := Keeps.refl 520 s
  unfold laneStarted
  try dsimp only
  repeat' (first
    | with_reducible apply Keeps.ite
    | with_reducible apply Keeps.iteFst
    | with_reducible apply Keeps.iteSnd
    | intro _
    | with_reducible assumption
    | ((with_reducible apply Keeps.step (State.setLane_keeps ..)); exact rfl)
    | ((with_reducible apply Keeps.step (enterLive_keeps ..)); exact rfl)
    | ((with_reducible apply Keeps.step (leaveLive_keeps ..)); exact rfl)
    | ((with_reducible apply Keeps.step (setLaneState_keeps ..)); exact rfl)
    | fail_if_no_progress dsimp only)

theorem laneSetEn_keeps (k : Nat) (on : Bool) (s : State) : Keeps 520 s (laneSetEn k on s) := by
  have h0 := Keeps.refl 520 s
  unfold laneSetEn
  try dsimp only
  repeat' (first
    | with_reducible apply Keeps.ite
    | with_reducible apply Keeps.iteFst
    | with_reducible apply Keeps.iteSnd
    | intro _
    | with_reducible assumption
    | ((with_reducible apply Keeps.step (State.setFlag_keeps ..)); exact rfl)
    | ((with_reducible apply Keeps.step (laneDisable_keeps ..)); exact rfl)
    | ((with_reducible apply Keeps.step (laneEnable_keeps ..)); exact rfl)
    | fail_if_no_progress dsimp only)

end Sys2Proof.Machine
end

