-- ==== Sys2Proof/Laws/KeepsDriverOps.lean ====
section
/-!
SUPPORT. What each function of Machine/DriverOps.lean keeps, and which parts of the state it leaves alone.
-/

namespace Sys2Proof.Machine

theorem State.setLd_keeps (s : State) (n : Nat) (d : Ldrv) : Keeps 1024 s (State.setLd s n d) := by
  have h0 := Keeps.refl 1024 s
  unfold State.setLd
  try dsimp only
  repeat' (first
    | intro _
    | with_reducible assumption
    | (fail_if_no_progress with_reducible apply Keeps.update) <;> first | ((with_reducible apply Or.inr); with_reducible rfl) | ((with_reducible apply Or.inl); first | exact rfl) | skip
    | fail_if_no_progress dsimp only)

theorem State.setSd_keeps (s : State) (n : Nat) (d : Sdrv) : Keeps 2048 s (State.setSd s n d) := by
  have h0 := Keeps.refl 2048 s
  unfold State.setSd
  try dsimp only
  repeat' (first
    | intro _
    | with_reducible assumption
    | (fail_if_no_progress with_reducible apply Keeps.update) <;> first | ((with_reducible apply Or.inr); with_reducible rfl) | ((with_reducible apply Or.inl); first | exact rfl) | skip
    | fail_if_no_progress dsimp only)

theorem ldApply_keeps (n : Nat) (t : Instant) (s : State) : Keeps 1032 s (ldApply n t s) := by
  have h0 := Keeps.refl 1032 s
  unfold ldApply
  try dsimp only
  repeat' (first
    | with_reducible apply Keeps.ite
    | with_reducible apply Keeps.iteFst
    | with_reducible apply Keeps.iteSnd
    | intro _
    | with_reducible assumption
    | ((with_reducible apply Keeps.step (State.setFlag_keeps ..)); exact rfl)
    | ((with_reducible apply Keeps.step (State.setLd_keeps ..)); exact rfl)
    | fail_if_no_progress dsimp only)

theorem followTake_keeps (n : Nat) (s : State) : Keeps 1024 s (followTake n s) := by
  have h0 := Keeps.refl 1024 s
  unfold followTake
  try dsimp only
  repeat' (first
    | intro _
    | with_reducible assumption
    | ((with_reducible apply Keeps.step (State.setLd_keeps ..)); exact rfl)
    | split
    | fail_if_no_progress dsimp only)

theorem ldModeTake_keeps (n : Nat) (s : State) : Keeps 1032 s (ldModeTake n s) := by
  have h0 := Keeps.refl 1032 s
  unfold ldModeTake
  try dsimp only
  repeat' (first
    | intro _
    | with_reducible assumption
    | ((with_reducible apply Keeps.step (followTake_keeps ..)); exact rfl)
    | ((with_reducible apply Keeps.step (ldApply_keeps ..)); exact rfl)
    | fail_if_no_progress dsimp only)

theorem ldStart_keeps (n : Nat) (t : Instant) (s : State) : Keeps 1032 s (ldStart n t s) := by
  have h0 := Keeps.refl 1032 s
  unfold ldStart
  try dsimp only
  repeat' (first
    | intro _
    | with_reducible assumption
    | ((with_reducible apply Keeps.step (State.setFlag_keeps ..)); exact rfl)
    | ((with_reducible apply Keeps.step (State.setLd_keeps ..)); exact rfl)
    | ((with_reducible apply Keeps.step (followTake_keeps ..)); exact rfl)
    | ((with_reducible apply Keeps.step (ldApply_keeps ..)); exact rfl)
    | fail_if_no_progress dsimp only)

theorem ldShutdown_keeps (n : Nat) (s : State) : Keeps 1032 s (ldShutdown n s) := by
  have h0 := Keeps.refl 1032 s
  unfold ldShutdown
  try dsimp only
  repeat' (first
    | with_reducible apply Keeps.ite
    | with_reducible apply Keeps.iteFst
    | with_reducible apply Keeps.iteSnd
    | intro _
    | with_reducible assumption
    | ((with_reducible apply Keeps.step (State.setFlag_keeps ..)); exact rfl)
    | ((with_reducible apply Keeps.step (State.setLd_keeps ..)); exact rfl)
    | ((with_reducible apply Keeps.step (ldApply_keeps ..)); exact rfl)
    | fail_if_no_progress dsimp only)

theorem ldEnable_keeps (n : Nat) (s : State) : Keeps 1032 s (ldEnable n s) := by
  have h0 := Keeps.refl 1032 s
  unfold ldEnable
  try dsimp only
  repeat' (first
    | with_reducible apply Keeps.ite
    | with_reducible apply Keeps.iteFst
    | with_reducible apply Keeps.iteSnd
    | intro _
    | with_reducible assumption
    | ((with_reducible apply Keeps.step (State.setFlag_keeps ..)); exact rfl)
    | ((with_reducible apply Keeps.step (State.setLd_keeps ..)); exact rfl)
    | ((with_reducible apply Keeps.step (ldStart_keeps ..)); exact rfl)
    | fail_if_no_progress dsimp only)

theorem ldDisable_keeps (n : Nat) (s : State) : Keeps 1032 s (ldDisable n s) := by
  have h0 := Keeps.refl 1032 s
  unfold ldDisable
  try dsimp only
  repeat' (first
    | with_reducible apply Keeps.ite
    | with_reducible apply Keeps.iteFst
    | with_reducible apply Keeps.iteSnd
    | intro _
    | with_reducible assumption
    | ((with_reducible apply Keeps.step (State.setFlag_keeps ..)); exact rfl)
    | ((with_reducible apply Keeps.step (State.setLd_keeps ..)); exact rfl)
    | ((with_reducible apply Keeps.step (ldShutdown_keeps ..)); exact rfl)
    | fail_if_no_progress dsimp only)

theorem ldLatch_keeps (n : Nat) (s : State) : Keeps 1032 s (ldLatch n s) := by
  have h0 := Keeps.refl 1032 s
  unfold ldLatch
  try dsimp only
  repeat' (first
    | intro _
    | with_reducible assumption
    | ((with_reducible apply Keeps.step (State.setFlag_keeps ..)); exact rfl)
    | ((with_reducible apply Keeps.step (State.setRegBit_keeps ..)); exact rfl)
    | ((with_reducible apply Keeps.step (ldApply_keeps ..)); exact rfl)
    | fail_if_no_progress dsimp only)

theorem ldSuccess_keeps (n : Nat) (s : State) : Keeps 1032 s (ldSuccess n s) := by
  have h0 := Keeps.refl 1032 s
  unfold ldSuccess
  try dsimp only
  repeat' (first
    | with_reducible apply Keeps.ite
    | with_reducible apply Keeps.iteFst
    | with_reducible apply Keeps.iteSnd
    | intro _
    | with_reducible assumption
    | ((with_reducible apply Keeps.step (State.setFlag_keeps ..)); exact rfl)
    | ((with_reducible apply Keeps.step (State.setLd_keeps ..)); exact rfl)
    | fail_if_no_progress dsimp only)

theorem ldBstuv_keeps (n : Nat) (s : State) : Keeps 1032 s (ldBstuv n s) := by
  have h0 := Keeps.refl 1032 s
  unfold ldBstuv
  try dsimp only
  repeat' (first
    | with_reducible apply Keeps.ite
    | with_reducible apply Keeps.iteFst
    | with_reducible apply Keeps.iteSnd
    | intro _
    | with_reducible assumption
    | ((with_reducible apply Keeps.step (State.setFlag_keeps ..)); exact rfl)
    | ((with_reducible apply Keeps.step (State.setLd_keeps ..)); exact rfl)
    | ((with_reducible apply Keeps.step (ldApply_keeps ..)); exact rfl)
    | ((with_reducible apply Keeps.step (ldLatch_keeps ..)); exact rfl)
    | fail_if_no_progress dsimp only)

theorem sdApply_keeps (n : Nat) (s : State) : Keeps 8 s (sdApply n s) := by
  have h0 := Keeps.refl 8 s
  unfold sdApply
  try dsimp only
  repeat' (first
    | intro _
    | with_reducible assumption
    | ((with_reducible apply Keeps.step (State.setFlag_keeps ..)); exact rfl)
    | fail_if_no_progress dsimp only)

theorem sdStart_keeps (n : Nat) (s : State) : Keeps 2056 s (sdStart n s) := by
  have h0 := Keeps.refl 2056 s
  unfold sdStart
  try dsimp only
  repeat' (first
    | intro _
    | with_reducible assumption
    | ((with_reducible apply Keeps.step (State.setSd_keeps ..)); exact rfl)
    | ((with_reducible apply Keeps.step (sdApply_keeps ..)); exact rfl)
    | fail_if_no_progress dsimp only)

theorem sdShutdown_keeps (n : Nat) (s : State) : Keeps 2056 s (sdShutdown n s) := by
  have h0 := Keeps.refl 2056 s
  unfold sdShutdown
  try dsimp only
  repeat' (first
    | with_reducible apply Keeps.ite
    | with_reducible apply Keeps.iteFst
    | with_reducible apply Keeps.iteSnd
    | intro _
    | with_reducible assumption
    | ((with_reducible apply Keeps.step (State.setFlag_keeps ..)); exact rfl)
    | ((with_reducible apply Keeps.step (State.setSd_keeps ..)); exact rfl)
    | ((with_reducible apply Keeps.step (sdApply_keeps ..)); exact rfl)
    | fail_if_no_progress dsimp only)

theorem sdEnable_keeps (n : Nat) (s : State) : Keeps 2056 s (sdEnable n s) := by
  have h0 := Keeps.refl 2056 s
  unfold sdEnable
  try dsimp only
  repeat' (first
    | with_reducible apply Keeps.ite
    | with_reducible apply Keeps.iteFst
    | with_reducible apply Keeps.iteSnd
    | intro _
    | with_reducible assumption
    | ((with_reducible apply Keeps.step (State.setFlag_keeps ..)); exact rfl)
    | ((with_reducible apply Keeps.step (State.setSd_keeps ..)); exact rfl)
    | ((with_reducible apply Keeps.step (sdStart_keeps ..)); exact rfl)
    | fail_if_no_progress dsimp only)

theorem sdDisable_keeps (n : Nat) (s : State) : Keeps 2056 s (sdDisable n s) := by
  have h0 := Keeps.refl 2056 s
  unfold sdDisable
  try dsimp only
  repeat' (first
    | with_reducible apply Keeps.ite
    | with_reducible apply Keeps.iteFst
    | with_reducible apply Keeps.iteSnd
    | intro _
    | with_reducible assumption
    | ((with_reducible apply Keeps.step (State.setFlag_keeps ..)); exact rfl)
    | ((with_reducible apply Keeps.step (State.setSd_keeps ..)); exact rfl)
    | ((with_reducible apply Keeps.step (sdShutdown_keeps ..)); exact rfl)
    | fail_if_no_progress dsimp only)

theorem driversBasecamp_keeps (s : State) : Keeps 3080 s (driversBasecamp s) := by
  have h0 := Keeps.refl 3080 s
  unfold driversBasecamp
  try dsimp only
  repeat' (first
    | with_reducible apply Keeps.ite
    | with_reducible apply Keeps.iteFst
    | with_reducible apply Keeps.iteSnd
    | intro _
    | with_reducible assumption
    | ((with_reducible apply Keeps.step (ldShutdown_keeps ..)); exact rfl)
    | ((with_reducible apply Keeps.step (sdShutdown_keeps ..)); exact rfl)
    | with_reducible apply Keeps.forEach
    | fail_if_no_progress dsimp only)

theorem driversStart_keeps (s : State) : Keeps 3080 s (driversStart s) := by
  have h0 := Keeps.refl 3080 s
  unfold driversStart
  try dsimp only
  repeat' (first
    | with_reducible apply Keeps.ite
    | with_reducible apply Keeps.iteFst
    | with_reducible apply Keeps.iteSnd
    | intro _
    | with_reducible assumption
    | ((with_reducible apply Keeps.step (ldEnable_keeps ..)); exact rfl)
    | ((with_reducible apply Keeps.step (sdEnable_keeps ..)); exact rfl)
    | with_reducible apply Keeps.forEach
    | fail_if_no_progress dsimp only)

theorem driversUv_keeps (uv : Bool) (s : State) : Keeps 3080 s (driversUv uv s) := by
  have h0 := Keeps.refl 3080 s
  unfold driversUv
  try dsimp only
  repeat' (first
    | with_reducible apply Keeps.ite
    | with_reducible apply Keeps.iteFst
    | with_reducible apply Keeps.iteSnd
    | intro _
    | with_reducible assumption
    | ((with_reducible apply Keeps.step (State.setFlag_keeps ..)); exact rfl)
    | ((with_reducible apply Keeps.step (State.setSd_keeps ..)); exact rfl)
    | ((with_reducible apply Keeps.step (ldApply_keeps ..)); exact rfl)
    | ((with_reducible apply Keeps.step (ldStart_keeps ..)); exact rfl)
    | ((with_reducible apply Keeps.step (sdApply_keeps ..)); exact rfl)
    | ((with_reducible apply Keeps.step (sdStart_keeps ..)); exact rfl)
    | with_reducible apply Keeps.forEach
    | fail_if_no_progress dsimp only)

end Sys2Proof.Machine
end

