-- ==== Sys2Proof/Laws/KeepsLawRun.lean ====
section
/-!
SUPPORT. What each function of Machine/LawRun.lean keeps, and which parts of the state it leaves alone.
-/

namespace Sys2Proof.Machine

theorem lawCarrierSet_keeps (n : Nat) (s : State) : Keeps 396 s (lawCarrierSet n s) := by
  have h0 := Keeps.refl 396 s
  unfold lawCarrierSet
  try dsimp only
  repeat' (first
    | with_reducible apply Keeps.ite
    | with_reducible apply Keeps.iteFst
    | with_reducible apply Keeps.iteSnd
    | intro _
    | with_reducible assumption
    | ((with_reducible apply Keeps.step (State.setCarrier_keeps ..)); exact rfl)
    | ((with_reducible apply Keeps.step (State.setReg_keeps ..)); exact rfl)
    | ((with_reducible apply Keeps.step (carrierAlarmCancel_keeps ..)); exact rfl)
    | ((with_reducible apply Keeps.step (clampCompares_keeps ..)); exact rfl)
    | ((with_reducible apply Keeps.step (stopCarrier_keeps ..)); exact rfl)
    | with_reducible apply Keeps.forEach
    | fail_if_no_progress dsimp only)

theorem outerPeriodic_keeps (s : State) : Keeps 328 s (outerPeriodic s) := by
  have h0 := Keeps.refl 328 s
  unfold outerPeriodic
  try dsimp only
  repeat' (first
    | intro _
    | with_reducible assumption
    | ((with_reducible apply Keeps.step (State.setReg_keeps ..)); exact rfl)
    | ((with_reducible apply Keeps.step (alarmDisable_keeps ..)); exact rfl)
    | ((with_reducible apply Keeps.step (alarmEnable_keeps ..)); exact rfl)
    | fail_if_no_progress dsimp only)

theorem lawStop_keeps (s : State) : Keeps 33228 s (lawStop s) := by
  have h0 := Keeps.refl 33228 s
  unfold lawStop
  try dsimp only
  repeat' (first
    | intro _
    | with_reducible assumption
    | ((with_reducible apply Keeps.step (State.setEngine_keeps ..)); exact rfl)
    | ((with_reducible apply Keeps.step (State.setFld_keeps ..)); exact rfl)
    | ((with_reducible apply Keeps.step (State.setReg_keeps ..)); exact rfl)
    | ((with_reducible apply Keeps.step (alarmDisable_keeps ..)); exact rfl)
    | ((with_reducible apply Keeps.step (lawCarrierSet_keeps ..)); exact rfl)
    | ((with_reducible apply Keeps.step (outerPeriodic_keeps ..)); exact rfl)
    | with_reducible apply Keeps.forEach
    | (fail_if_no_progress with_reducible apply Keeps.update) <;> first | ((with_reducible apply Or.inr); with_reducible rfl) | ((with_reducible apply Or.inl); first | exact rfl) | skip
    | fail_if_no_progress dsimp only)

theorem lawCarriersStart_keeps (s : State) : Keeps 460 s (lawCarriersStart s) := by
  have h0 := Keeps.refl 460 s
  unfold lawCarriersStart
  try dsimp only
  repeat' (first
    | intro _
    | with_reducible assumption
    | ((with_reducible apply Keeps.step (State.setCarrier_keeps ..)); exact rfl)
    | ((with_reducible apply Keeps.step (State.setFld_keeps ..)); exact rfl)
    | ((with_reducible apply Keeps.step (alarmDisable_keeps ..)); exact rfl)
    | ((with_reducible apply Keeps.step (carrierAlarmFix_keeps ..)); exact rfl)
    | ((with_reducible apply Keeps.step (lawCarrierSet_keeps ..)); exact rfl)
    | ((with_reducible apply Keeps.step (stepDeferred_keeps ..)); exact rfl)
    | with_reducible apply Keeps.forEach
    | fail_if_no_progress dsimp only)

theorem lawAlarms_keeps (s : State) : Keeps 328 s (lawAlarms s) := by
  have h0 := Keeps.refl 328 s
  unfold lawAlarms
  try dsimp only
  repeat' (first
    | intro _
    | with_reducible assumption
    | ((with_reducible apply Keeps.step (State.setReg_keeps ..)); exact rfl)
    | ((with_reducible apply Keeps.step (alarmEnable_keeps ..)); exact rfl)
    | fail_if_no_progress dsimp only)

theorem lawEngines_keeps (s : State) : Keeps 72 s (lawEngines s) := by
  have h0 := Keeps.refl 72 s
  unfold lawEngines
  try dsimp only
  repeat' (first
    | with_reducible apply Keeps.ite
    | with_reducible apply Keeps.iteFst
    | with_reducible apply Keeps.iteSnd
    | intro _
    | with_reducible assumption
    | ((with_reducible apply Keeps.step (State.setEngine_keeps ..)); exact rfl)
    | ((with_reducible apply Keeps.step (engEnabled_keeps ..)); exact rfl)
    | with_reducible apply Keeps.forEach
    | fail_if_no_progress dsimp only)

theorem lawStart_keeps (s : State) : Keeps 460 s (lawStart s) := by
  have h0 := Keeps.refl 460 s
  unfold lawStart
  try dsimp only
  repeat' (first
    | intro _
    | with_reducible assumption
    | ((with_reducible apply Keeps.step (State.setFld_keeps ..)); exact rfl)
    | ((with_reducible apply Keeps.step (lawAlarms_keeps ..)); exact rfl)
    | ((with_reducible apply Keeps.step (lawCarriersStart_keeps ..)); exact rfl)
    | ((with_reducible apply Keeps.step (lawEngines_keeps ..)); exact rfl)
    | with_reducible apply Keeps.forEach
    | fail_if_no_progress dsimp only)

end Sys2Proof.Machine
end

