-- ==== Sys2Proof/Laws/KeepsLawBase.lean ====
section
/-!
SUPPORT. What each function of Machine/LawBase.lean keeps, and which parts of the state it leaves alone.
-/

namespace Sys2Proof.Machine

theorem State.setLaw_keeps (s : State) (l : Law) : Keeps 32768 s (State.setLaw s l) := by
  have h0 := Keeps.refl 32768 s
  unfold State.setLaw
  try dsimp only
  repeat' (first
    | intro _
    | with_reducible assumption
    | (fail_if_no_progress with_reducible apply Keeps.update) <;> first | ((with_reducible apply Or.inr); with_reducible rfl) | ((with_reducible apply Or.inl); first | exact rfl) | skip
    | fail_if_no_progress dsimp only)

theorem State.setCad_keeps (s : State) (c : Cad) : Keeps 65536 s (State.setCad s c) := by
  have h0 := Keeps.refl 65536 s
  unfold State.setCad
  try dsimp only
  repeat' (first
    | intro _
    | with_reducible assumption
    | (fail_if_no_progress with_reducible apply Keeps.update) <;> first | ((with_reducible apply Or.inr); with_reducible rfl) | ((with_reducible apply Or.inl); first | exact rfl) | skip
    | fail_if_no_progress dsimp only)

theorem State.setMs_keeps (s : State) (f : Fld) (b : Bool) : Keeps 8 s (State.setMs s f b) := by
  have h0 := Keeps.refl 8 s
  unfold State.setMs
  try dsimp only
  repeat' (first
    | intro _
    | with_reducible assumption
    | ((with_reducible apply Keeps.step (State.setFlag_keeps ..)); exact rfl)
    | fail_if_no_progress dsimp only)

theorem State.setLs_keeps (s : State) (f : Fld) (b : Bool) : Keeps 8 s (State.setLs s f b) := by
  have h0 := Keeps.refl 8 s
  unfold State.setLs
  try dsimp only
  repeat' (first
    | intro _
    | with_reducible assumption
    | ((with_reducible apply Keeps.step (State.setFlag_keeps ..)); exact rfl)
    | fail_if_no_progress dsimp only)

theorem refreshStaged_keeps (s : State) : Keeps 8 s (refreshStaged s) := by
  have h0 := Keeps.refl 8 s
  unfold refreshStaged
  try dsimp only
  repeat' (first
    | intro _
    | with_reducible assumption
    | ((with_reducible apply Keeps.step (State.setLs_keeps ..)); exact rfl)
    | fail_if_no_progress dsimp only)

theorem reportChosen_keeps (s : State) : Keeps 8 s (reportChosen s) := by
  have h0 := Keeps.refl 8 s
  unfold reportChosen
  try dsimp only
  repeat' (first
    | intro _
    | with_reducible assumption
    | ((with_reducible apply Keeps.step (State.setLs_keeps ..)); exact rfl)
    | ((with_reducible apply Keeps.step (State.setReg_keeps ..)); exact rfl)
    | fail_if_no_progress dsimp only)

theorem newTarget_keeps (tgt : Rat × Rat × Rat) (cause : Nat) (s : State) : Keeps 32776 s (newTarget tgt cause s) := by
  have h0 := Keeps.refl 32776 s
  unfold newTarget
  try dsimp only
  repeat' (first
    | with_reducible apply Keeps.ite
    | with_reducible apply Keeps.iteFst
    | with_reducible apply Keeps.iteSnd
    | intro _
    | with_reducible assumption
    | ((with_reducible apply Keeps.step (State.setLaw_keeps ..)); exact rfl)
    | ((with_reducible apply Keeps.step (State.setReg_keeps ..)); exact rfl)
    | ((with_reducible apply Keeps.step (reportChosen_keeps ..)); exact rfl)
    | fail_if_no_progress dsimp only)

theorem boundsMove_keeps (s : State) : Keeps 32776 s (boundsMove s) := by
  have h0 := Keeps.refl 32776 s
  unfold boundsMove
  try dsimp only
  repeat' (first
    | with_reducible apply Keeps.ite
    | with_reducible apply Keeps.iteFst
    | with_reducible apply Keeps.iteSnd
    | intro _
    | with_reducible assumption
    | ((with_reducible apply Keeps.step (State.setLaw_keeps ..)); exact rfl)
    | ((with_reducible apply Keeps.step (newTarget_keeps ..)); exact rfl)
    | ((with_reducible apply Keeps.step (reportChosen_keeps ..)); exact rfl)
    | split
    | fail_if_no_progress dsimp only)

theorem setActive_keeps (a : Tab Nat) (s : State) : Keeps 32776 s (setActive a s) := by
  have h0 := Keeps.refl 32776 s
  unfold setActive
  try dsimp only
  repeat' (first
    | with_reducible apply Keeps.ite
    | with_reducible apply Keeps.iteFst
    | with_reducible apply Keeps.iteSnd
    | intro _
    | with_reducible assumption
    | ((with_reducible apply Keeps.step (State.setLaw_keeps ..)); exact rfl)
    | ((with_reducible apply Keeps.step (boundsMove_keeps ..)); exact rfl)
    | ((with_reducible apply Keeps.step (newTarget_keeps ..)); exact rfl)
    | fail_if_no_progress dsimp only)

theorem applySet_keeps (s : State) : Keeps 294920 s (applySet s) := by
  have h0 := Keeps.refl 294920 s
  unfold applySet
  try dsimp only
  repeat' (first
    | with_reducible apply Keeps.ite
    | with_reducible apply Keeps.iteFst
    | with_reducible apply Keeps.iteSnd
    | intro _
    | with_reducible assumption
    | ((with_reducible apply Keeps.step (State.setLaw_keeps ..)); exact rfl)
    | ((with_reducible apply Keeps.step (State.setMs_keeps ..)); exact rfl)
    | ((with_reducible apply Keeps.step (State.setReg_keeps ..)); exact rfl)
    | ((with_reducible apply Keeps.step (addDelta_keeps ..)); exact rfl)
    | ((with_reducible apply Keeps.step (refreshStaged_keeps ..)); exact rfl)
    | ((with_reducible apply Keeps.step (setActive_keeps ..)); exact rfl)
    | fail_if_no_progress dsimp only)

end Sys2Proof.Machine
end

