-- ==== Sys2Proof/Laws/KeepsModeOps.lean ====
section
/-!
SUPPORT. What each function of Machine/ModeOps.lean keeps, and which parts of the state it leaves alone.
-/

namespace Sys2Proof.Machine

theorem pushLog_keeps (f : Nat → Nat) (n : Nat) (v : Nat) (s : State) : Keeps 8 s (pushLog f n v s) := by
  have h0 := Keeps.refl 8 s
  unfold pushLog
  try dsimp only
  repeat' (first
    | intro _
    | with_reducible assumption
    | ((with_reducible apply Keeps.step (State.setReg_keeps ..)); exact rfl)
    | with_reducible apply Keeps.foldl
    | with_reducible apply Keeps.foldlFst
    | with_reducible apply Keeps.foldlSnd
    | fail_if_no_progress dsimp only)

theorem storeCodes_keeps (s : State) : Keeps 262144 s (storeCodes s) := by
  have h0 := Keeps.refl 262144 s
  unfold storeCodes
  try dsimp only
  repeat' (first
    | intro _
    | with_reducible assumption
    | with_reducible apply Keeps.forEach
    | (fail_if_no_progress with_reducible apply Keeps.update) <;> first | ((with_reducible apply Or.inr); with_reducible rfl) | ((with_reducible apply Or.inl); first | exact rfl) | skip
    | fail_if_no_progress dsimp only)

theorem restoreCodes_keeps (s : State) : Keeps 8 s (restoreCodes s) := by
  have h0 := Keeps.refl 8 s
  unfold restoreCodes
  try dsimp only
  repeat' (first
    | with_reducible apply Keeps.ite
    | with_reducible apply Keeps.iteFst
    | with_reducible apply Keeps.iteSnd
    | intro _
    | with_reducible assumption
    | ((with_reducible apply Keeps.step (State.setReg_keeps ..)); exact rfl)
    | ((with_reducible apply Keeps.step (resetCodes_keeps ..)); exact rfl)
    | with_reducible apply Keeps.forEach
    | fail_if_no_progress dsimp only)

theorem limitEnds_keeps (old : Nat) (new : Nat) (s : State) : Keeps 8 s (limitEnds old new s) := by
  have h0 := Keeps.refl 8 s
  unfold limitEnds
  try dsimp only
  repeat' (first
    | with_reducible apply Keeps.ite
    | with_reducible apply Keeps.iteFst
    | with_reducible apply Keeps.iteSnd
    | intro _
    | with_reducible assumption
    | ((with_reducible apply Keeps.step (State.setReg_keeps ..)); exact rfl)
    | fail_if_no_progress dsimp only)

theorem estGate_keeps (s : State) : Keeps 32776 s (estGate s) := by
  have h0 := Keeps.refl 32776 s
  unfold estGate
  try dsimp only
  repeat' (first
    | with_reducible apply Keeps.ite
    | with_reducible apply Keeps.iteFst
    | with_reducible apply Keeps.iteSnd
    | intro _
    | with_reducible assumption
    | ((with_reducible apply Keeps.step (State.setLaw_keeps ..)); exact rfl)
    | ((with_reducible apply Keeps.step (State.setLs_keeps ..)); exact rfl)
    | ((with_reducible apply Keeps.step (State.setReg_keeps ..)); exact rfl)
    | fail_if_no_progress dsimp only)

theorem logMode_keeps (old : Nat) (new : Nat) (cause : Nat) (s : State) : Keeps 33292 s (logMode old new cause s) := by
  have h0 := Keeps.refl 33292 s
  unfold logMode
  try dsimp only
  repeat' (first
    | with_reducible apply Keeps.ite
    | with_reducible apply Keeps.iteFst
    | with_reducible apply Keeps.iteSnd
    | intro _
    | with_reducible assumption
    | ((with_reducible apply Keeps.step (State.bump_keeps ..)); exact rfl)
    | ((with_reducible apply Keeps.step (State.setLaw_keeps ..)); exact rfl)
    | ((with_reducible apply Keeps.step (State.setMs_keeps ..)); exact rfl)
    | ((with_reducible apply Keeps.step (State.setReg_keeps ..)); exact rfl)
    | ((with_reducible apply Keeps.step (estGate_keeps ..)); exact rfl)
    | ((with_reducible apply Keeps.step (freezeTrainer_keeps ..)); exact rfl)
    | ((with_reducible apply Keeps.step (limitEnds_keeps ..)); exact rfl)
    | ((with_reducible apply Keeps.step (pushLog_keeps ..)); exact rfl)
    | ((with_reducible apply Keeps.step (stepDeferred_keeps ..)); exact rfl)
    | with_reducible apply Keeps.forEach
    | fail_if_no_progress dsimp only)

theorem recordMode_keeps (new : Nat) (cause : Nat) (s : State) : Keeps 33292 s (recordMode new cause s) := by
  have h0 := Keeps.refl 33292 s
  unfold recordMode
  try dsimp only
  repeat' (first
    | intro _
    | with_reducible assumption
    | ((with_reducible apply Keeps.step (logMode_keeps ..)); exact rfl)
    | fail_if_no_progress dsimp only)

theorem lawStaticOff_keeps (s : State) : Keeps 140 s (lawStaticOff s) := by
  have h0 := Keeps.refl 140 s
  unfold lawStaticOff
  try dsimp only
  repeat' (first
    | intro _
    | with_reducible assumption
    | ((with_reducible apply Keeps.step (State.setEff_keeps ..)); exact rfl)
    | ((with_reducible apply Keeps.step (State.setShadow_keeps ..)); exact rfl)
    | ((with_reducible apply Keeps.step (chanEval_keeps ..)); exact rfl)
    | ((with_reducible apply Keeps.step (zeroCarries_keeps ..)); exact rfl)
    | with_reducible apply Keeps.forEach
    | fail_if_no_progress dsimp only)

theorem clearLawFlags_keeps (s : State) : Keeps 32776 s (clearLawFlags s) := by
  have h0 := Keeps.refl 32776 s
  unfold clearLawFlags
  try dsimp only
  repeat' (first
    | intro _
    | with_reducible assumption
    | ((with_reducible apply Keeps.step (State.setLaw_keeps ..)); exact rfl)
    | ((with_reducible apply Keeps.step (State.setLs_keeps ..)); exact rfl)
    | ((with_reducible apply Keeps.step (State.setMs_keeps ..)); exact rfl)
    | with_reducible apply Keeps.foldl
    | with_reducible apply Keeps.foldlFst
    | with_reducible apply Keeps.foldlSnd
    | fail_if_no_progress dsimp only)

theorem setStage_keeps (n : Nat) (s : State) : Keeps 65544 s (setStage n s) := by
  have h0 := Keeps.refl 65544 s
  unfold setStage
  try dsimp only
  repeat' (first
    | intro _
    | with_reducible assumption
    | ((with_reducible apply Keeps.step (State.setCad_keeps ..)); exact rfl)
    | ((with_reducible apply Keeps.step (State.setReg_keeps ..)); exact rfl)
    | fail_if_no_progress dsimp only)

theorem cmdDone_keeps (s : State) : Keeps 8 s (cmdDone s) := by
  have h0 := Keeps.refl 8 s
  unfold cmdDone
  try dsimp only
  repeat' (first
    | intro _
    | with_reducible assumption
    | ((with_reducible apply Keeps.step (State.setReg_keeps ..)); exact rfl)
    | fail_if_no_progress dsimp only)

theorem cmdRefused_keeps (code : Nat) (s : State) : Keeps 8 s (cmdRefused code s) := by
  have h0 := Keeps.refl 8 s
  unfold cmdRefused
  try dsimp only
  repeat' (first
    | intro _
    | with_reducible assumption
    | ((with_reducible apply Keeps.step (State.setReg_keeps ..)); exact rfl)
    | fail_if_no_progress dsimp only)

theorem stopLost_keeps (cause : Nat) (s : State) : Keeps 8 s (stopLost cause s) := by
  have h0 := Keeps.refl 8 s
  unfold stopLost
  try dsimp only
  repeat' (first
    | with_reducible apply Keeps.ite
    | with_reducible apply Keeps.iteFst
    | with_reducible apply Keeps.iteSnd
    | intro _
    | with_reducible assumption
    | ((with_reducible apply Keeps.step (cmdRefused_keeps ..)); exact rfl)
    | fail_if_no_progress dsimp only)

theorem txStop_keeps (s : State) : Keeps 65544 s (txStop s) := by
  have h0 := Keeps.refl 65544 s
  unfold txStop
  try dsimp only
  repeat' (first
    | intro _
    | with_reducible assumption
    | ((with_reducible apply Keeps.step (State.setCad_keeps ..)); exact rfl)
    | ((with_reducible apply Keeps.step (State.setFlag_keeps ..)); exact rfl)
    | fail_if_no_progress dsimp only)

theorem busIdle_keeps (s : State) : Keeps 65544 s (busIdle s) := by
  have h0 := Keeps.refl 65544 s
  unfold busIdle
  try dsimp only
  repeat' (first
    | intro _
    | with_reducible assumption
    | ((with_reducible apply Keeps.step (State.setCad_keeps ..)); exact rfl)
    | ((with_reducible apply Keeps.step (State.setFlag_keeps ..)); exact rfl)
    | with_reducible apply Keeps.foldl
    | with_reducible apply Keeps.foldlFst
    | with_reducible apply Keeps.foldlSnd
    | fail_if_no_progress dsimp only)

theorem basecampEffects_keeps (s : State) : Keeps 380876 s (basecampEffects s) := by
  have h0 := Keeps.refl 380876 s
  unfold basecampEffects
  try dsimp only
  repeat' (first
    | with_reducible apply Keeps.ite
    | with_reducible apply Keeps.iteFst
    | with_reducible apply Keeps.iteSnd
    | intro _
    | with_reducible assumption
    | ((with_reducible apply Keeps.step (State.setFlag_keeps ..)); exact rfl)
    | ((with_reducible apply Keeps.step (State.setLs_keeps ..)); exact rfl)
    | ((with_reducible apply Keeps.step (applySet_keeps ..)); exact rfl)
    | ((with_reducible apply Keeps.step (busIdle_keeps ..)); exact rfl)
    | ((with_reducible apply Keeps.step (clearLawFlags_keeps ..)); exact rfl)
    | ((with_reducible apply Keeps.step (driversBasecamp_keeps ..)); exact rfl)
    | ((with_reducible apply Keeps.step (forceOffAll_keeps ..)); exact rfl)
    | ((with_reducible apply Keeps.step (lanesAllOff_keeps ..)); exact rfl)
    | ((with_reducible apply Keeps.step (lawStop_keeps ..)); exact rfl)
    | ((with_reducible apply Keeps.step (setStage_keeps ..)); exact rfl)
    | ((with_reducible apply Keeps.step (storeCodes_keeps ..)); exact rfl)
    | ((with_reducible apply Keeps.step (txStop_keeps ..)); exact rfl)
    | with_reducible apply Keeps.foldl
    | with_reducible apply Keeps.foldlFst
    | with_reducible apply Keeps.foldlSnd
    | (fail_if_no_progress with_reducible apply Keeps.update) <;> first | ((with_reducible apply Or.inr); with_reducible rfl) | ((with_reducible apply Or.inl); first | exact rfl) | skip
    | fail_if_no_progress dsimp only)

theorem enterBasecamp_keeps (cause : Nat) (s : State) : Keeps 380876 s (enterBasecamp cause s) := by
  have h0 := Keeps.refl 380876 s
  unfold enterBasecamp
  try dsimp only
  repeat' (first
    | with_reducible apply Keeps.ite
    | with_reducible apply Keeps.iteFst
    | with_reducible apply Keeps.iteSnd
    | intro _
    | with_reducible assumption
    | ((with_reducible apply Keeps.step (State.setReg_keeps ..)); exact rfl)
    | ((with_reducible apply Keeps.step (basecampEffects_keeps ..)); exact rfl)
    | ((with_reducible apply Keeps.step (logMode_keeps ..)); exact rfl)
    | ((with_reducible apply Keeps.step (stopLost_keeps ..)); exact rfl)
    | fail_if_no_progress dsimp only)

theorem armedEffects_keeps (s : State) : Keeps 36812 s (armedEffects s) := by
  have h0 := Keeps.refl 36812 s
  unfold armedEffects
  try dsimp only
  repeat' (first
    | with_reducible apply Keeps.ite
    | with_reducible apply Keeps.iteFst
    | with_reducible apply Keeps.iteSnd
    | intro _
    | with_reducible assumption
    | ((with_reducible apply Keeps.step (State.setFlag_keeps ..)); exact rfl)
    | ((with_reducible apply Keeps.step (State.setLaw_keeps ..)); exact rfl)
    | ((with_reducible apply Keeps.step (State.setLs_keeps ..)); exact rfl)
    | ((with_reducible apply Keeps.step (driversStart_keeps ..)); exact rfl)
    | ((with_reducible apply Keeps.step (lanesLive_keeps ..)); exact rfl)
    | ((with_reducible apply Keeps.step (lawStart_keeps ..)); exact rfl)
    | ((with_reducible apply Keeps.step (lawStaticOff_keeps ..)); exact rfl)
    | fail_if_no_progress dsimp only)

theorem enterArmed_keeps (s : State) : Keeps 53196 s (enterArmed s) := by
  have h0 := Keeps.refl 53196 s
  unfold enterArmed
  try dsimp only
  repeat' (first
    | intro _
    | with_reducible assumption
    | ((with_reducible apply Keeps.step (State.setReg_keeps ..)); exact rfl)
    | ((with_reducible apply Keeps.step (armedEffects_keeps ..)); exact rfl)
    | ((with_reducible apply Keeps.step (logMode_keeps ..)); exact rfl)
    | (fail_if_no_progress with_reducible apply Keeps.update) <;> first | ((with_reducible apply Or.inr); with_reducible rfl) | ((with_reducible apply Or.inl); first | exact rfl) | skip
    | fail_if_no_progress dsimp only)

theorem backToArmed_keeps (cause : Nat) (s : State) : Keeps 98956 s (backToArmed cause s) := by
  have h0 := Keeps.refl 98956 s
  unfold backToArmed
  try dsimp only
  repeat' (first
    | with_reducible apply Keeps.ite
    | with_reducible apply Keeps.iteFst
    | with_reducible apply Keeps.iteSnd
    | intro _
    | with_reducible assumption
    | ((with_reducible apply Keeps.step (State.setCad_keeps ..)); exact rfl)
    | ((with_reducible apply Keeps.step (State.setFlag_keeps ..)); exact rfl)
    | ((with_reducible apply Keeps.step (clearLawFlags_keeps ..)); exact rfl)
    | ((with_reducible apply Keeps.step (lawStaticOff_keeps ..)); exact rfl)
    | ((with_reducible apply Keeps.step (logMode_keeps ..)); exact rfl)
    | ((with_reducible apply Keeps.step (setStage_keeps ..)); exact rfl)
    | ((with_reducible apply Keeps.step (stopLost_keeps ..)); exact rfl)
    | ((with_reducible apply Keeps.step (txStop_keeps ..)); exact rfl)
    | with_reducible apply Keeps.foldl
    | with_reducible apply Keeps.foldlFst
    | with_reducible apply Keeps.foldlSnd
    | fail_if_no_progress dsimp only)

theorem armRefused_keeps (code : Nat) (s : State) : Keeps 16904 s (armRefused code s) := by
  have h0 := Keeps.refl 16904 s
  unfold armRefused
  try dsimp only
  repeat' (first
    | with_reducible apply Keeps.ite
    | with_reducible apply Keeps.iteFst
    | with_reducible apply Keeps.iteSnd
    | intro _
    | with_reducible assumption
    | ((with_reducible apply Keeps.step (cmdRefused_keeps ..)); exact rfl)
    | ((with_reducible apply Keeps.step (lanesIdle_keeps ..)); exact rfl)
    | (fail_if_no_progress with_reducible apply Keeps.update) <;> first | ((with_reducible apply Or.inr); with_reducible rfl) | ((with_reducible apply Or.inl); first | exact rfl) | skip
    | fail_if_no_progress dsimp only)

theorem pdOnBegin_keeps (d : Nat) (s : State) : Keeps 67108872 s (pdOnBegin d s) := by
  have h0 := Keeps.refl 67108872 s
  unfold pdOnBegin
  try dsimp only
  repeat' (first
    | with_reducible apply Keeps.ite
    | with_reducible apply Keeps.iteFst
    | with_reducible apply Keeps.iteSnd
    | intro _
    | with_reducible assumption
    | ((with_reducible apply Keeps.step (State.setRegBit_keeps ..)); exact rfl)
    | (fail_if_no_progress with_reducible apply Keeps.update) <;> first | ((with_reducible apply Or.inr); with_reducible rfl) | ((with_reducible apply Or.inl); first | exact rfl) | skip
    | fail_if_no_progress dsimp only)

theorem armBegin_keeps (s : State) : Keeps 67125768 s (armBegin s) := by
  have h0 := Keeps.refl 67125768 s
  unfold armBegin
  try dsimp only
  repeat' (first
    | with_reducible apply Keeps.ite
    | with_reducible apply Keeps.iteFst
    | with_reducible apply Keeps.iteSnd
    | intro _
    | with_reducible assumption
    | ((with_reducible apply Keeps.step (State.setRegBit_keeps ..)); exact rfl)
    | ((with_reducible apply Keeps.step (lanesLive_keeps ..)); exact rfl)
    | ((with_reducible apply Keeps.step (pdOnBegin_keeps ..)); exact rfl)
    | (fail_if_no_progress with_reducible apply Keeps.update) <;> first | ((with_reducible apply Or.inr); with_reducible rfl) | ((with_reducible apply Or.inl); first | exact rfl) | skip
    | fail_if_no_progress dsimp only)

theorem armIfReady_keeps (s : State) : Keeps 53196 s (armIfReady s) := by
  have h0 := Keeps.refl 53196 s
  unfold armIfReady
  try dsimp only
  repeat' (first
    | with_reducible apply Keeps.ite
    | with_reducible apply Keeps.iteFst
    | with_reducible apply Keeps.iteSnd
    | intro _
    | with_reducible assumption
    | ((with_reducible apply Keeps.step (cmdDone_keeps ..)); exact rfl)
    | ((with_reducible apply Keeps.step (enterArmed_keeps ..)); exact rfl)
    | fail_if_no_progress dsimp only)

theorem armLatchCheck_keeps (k : Nat) (s : State) : Keeps 16904 s (armLatchCheck k s) := by
  have h0 := Keeps.refl 16904 s
  unfold armLatchCheck
  try dsimp only
  repeat' (first
    | with_reducible apply Keeps.ite
    | with_reducible apply Keeps.iteFst
    | with_reducible apply Keeps.iteSnd
    | intro _
    | with_reducible assumption
    | ((with_reducible apply Keeps.step (armRefused_keeps ..)); exact rfl)
    | fail_if_no_progress dsimp only)

theorem enterHold_keeps (cause : Nat) (s : State) : Keeps 1207992844 s (enterHold cause s) := by
  have h0 := Keeps.refl 1207992844 s
  unfold enterHold
  try dsimp only
  repeat' (first
    | with_reducible apply Keeps.ite
    | with_reducible apply Keeps.iteFst
    | with_reducible apply Keeps.iteSnd
    | intro _
    | with_reducible assumption
    | ((with_reducible apply Keeps.step (State.bump_keeps ..)); exact rfl)
    | ((with_reducible apply Keeps.step (State.setLaw_keeps ..)); exact rfl)
    | ((with_reducible apply Keeps.step (State.setMs_keeps ..)); exact rfl)
    | ((with_reducible apply Keeps.step (State.setReg_keeps ..)); exact rfl)
    | ((with_reducible apply Keeps.step (recordMode_keeps ..)); exact rfl)
    | ((with_reducible apply Keeps.step (reportFaults_keeps ..)); exact rfl)
    | ((with_reducible apply Keeps.step (stopLost_keeps ..)); exact rfl)
    | fail_if_no_progress dsimp only)

end Sys2Proof.Machine
end

