-- ==== Sys2Proof/Laws/KeepsEngOps.lean ====
section
/-!
SUPPORT. What each function of Machine/EngOps.lean keeps, and which parts of the state it leaves alone.
-/

namespace Sys2Proof.Machine

theorem innerMissed_keeps (e : Nat) (s : State) : Keeps 32768 s (innerMissed e s) := by
  have h0 := Keeps.refl 32768 s
  unfold innerMissed
  try dsimp only
  repeat' (first
    | with_reducible apply Keeps.ite
    | with_reducible apply Keeps.iteFst
    | with_reducible apply Keeps.iteSnd
    | intro _
    | with_reducible assumption
    | ((with_reducible apply Keeps.step (State.setLaw_keeps ..)); exact rfl)
    | fail_if_no_progress dsimp only)

theorem countMiss_keeps (e : Nat) (s : State) : Keeps 32780 s (countMiss e s) := by
  have h0 := Keeps.refl 32780 s
  unfold countMiss
  try dsimp only
  repeat' (first
    | with_reducible apply Keeps.ite
    | with_reducible apply Keeps.iteFst
    | with_reducible apply Keeps.iteSnd
    | intro _
    | with_reducible assumption
    | ((with_reducible apply Keeps.step (State.bump_keeps ..)); exact rfl)
    | ((with_reducible apply Keeps.step (State.setFlag_keeps ..)); exact rfl)
    | ((with_reducible apply Keeps.step (State.setLaw_keeps ..)); exact rfl)
    | ((with_reducible apply Keeps.step (State.setLs_keeps ..)); exact rfl)
    | ((with_reducible apply Keeps.step (innerMissed_keeps ..)); exact rfl)
    | fail_if_no_progress dsimp only)

theorem missDeadline_keeps (e : Nat) (s : State) : Keeps 32972 s (missDeadline e s) := by
  have h0 := Keeps.refl 32972 s
  unfold missDeadline
  try dsimp only
  repeat' (first
    | intro _
    | with_reducible assumption
    | ((with_reducible apply Keeps.step (State.setEngine_keeps ..)); exact rfl)
    | ((with_reducible apply Keeps.step (cancelLoads_keeps ..)); exact rfl)
    | ((with_reducible apply Keeps.step (countMiss_keeps ..)); exact rfl)
    | ((with_reducible apply Keeps.step (invalidateWrites_keeps ..)); exact rfl)
    | ((with_reducible apply Keeps.step (snapshotsEligible_keeps ..)); exact rfl)
    | fail_if_no_progress dsimp only)

theorem engStopped_keeps (e : Nat) (s : State) : Keeps 72 s (engStopped e s) := by
  have h0 := Keeps.refl 72 s
  unfold engStopped
  try dsimp only
  repeat' (first
    | with_reducible apply Keeps.ite
    | with_reducible apply Keeps.iteFst
    | with_reducible apply Keeps.iteSnd
    | intro _
    | with_reducible assumption
    | ((with_reducible apply Keeps.step (State.setEngine_keeps ..)); exact rfl)
    | ((with_reducible apply Keeps.step (State.setReg_keeps ..)); exact rfl)
    | ((with_reducible apply Keeps.step (engEnabled_keeps ..)); exact rfl)
    | fail_if_no_progress dsimp only)

theorem endPhase_keeps (e : Nat) (s : State) : Keeps 204 s (endPhase e s) := by
  have h0 := Keeps.refl 204 s
  unfold endPhase
  try dsimp only
  repeat' (first
    | intro _
    | with_reducible assumption
    | ((with_reducible apply Keeps.step (State.setEngine_keeps ..)); exact rfl)
    | ((with_reducible apply Keeps.step (engStopped_keeps ..)); exact rfl)
    | ((with_reducible apply Keeps.step (snapshotsEligible_keeps ..)); exact rfl)
    | fail_if_no_progress dsimp only)

theorem engTrap_keeps (e : Nat) (code : Nat) (s : State) : Keeps 1207993036 s (engTrap e code s) := by
  have h0 := Keeps.refl 1207993036 s
  unfold engTrap
  try dsimp only
  repeat' (first
    | with_reducible apply Keeps.ite
    | with_reducible apply Keeps.iteFst
    | with_reducible apply Keeps.iteSnd
    | intro _
    | with_reducible assumption
    | ((with_reducible apply Keeps.step (State.setEngine_keeps ..)); exact rfl)
    | ((with_reducible apply Keeps.step (State.setReg_keeps ..)); exact rfl)
    | ((with_reducible apply Keeps.step (endPhase_keeps ..)); exact rfl)
    | ((with_reducible apply Keeps.step (enterHold_keeps ..)); exact rfl)
    | ((with_reducible apply Keeps.step (missDeadline_keeps ..)); exact rfl)
    | ((with_reducible apply Keeps.step (reportFaults_keeps ..)); exact rfl)
    | fail_if_no_progress dsimp only)

theorem lateWrite_keeps (e : Nat) (s : State) : Keeps 12 s (lateWrite e s) := by
  have h0 := Keeps.refl 12 s
  unfold lateWrite
  try dsimp only
  repeat' (first
    | intro _
    | with_reducible assumption
    | ((with_reducible apply Keeps.step (State.bump_keeps ..)); exact rfl)
    | ((with_reducible apply Keeps.step (State.setFlag_keeps ..)); exact rfl)
    | fail_if_no_progress dsimp only)

theorem sramCe_keeps (e : Nat) (a : Nat) (s : State) : Keeps 76 s (sramCe e a s) := by
  have h0 := Keeps.refl 76 s
  unfold sramCe
  try dsimp only
  repeat' (first
    | intro _
    | with_reducible assumption
    | ((with_reducible apply Keeps.step (State.bump_keeps ..)); exact rfl)
    | ((with_reducible apply Keeps.step (State.setEngine_keeps ..)); exact rfl)
    | ((with_reducible apply Keeps.step (State.setFlag_keeps ..)); exact rfl)
    | ((with_reducible apply Keeps.step (countCe_keeps ..)); exact rfl)
    | fail_if_no_progress dsimp only)

theorem engExec_keeps {f : Nat} {a : State} (e : Nat) (act : State → State) (s : State) (hf : partsIn 1207993036 f = true) (h_act : ∀ s, Keeps f a s → Keeps f a (act s)) (h0 : Keeps f a s) : Keeps f a (engExec e act s) := by
  unfold engExec
  try dsimp only
  repeat' (first
    | with_reducible apply Keeps.ite
    | intro _
    | with_reducible assumption
    | ((with_reducible apply Keeps.step (sramCe_keeps ..)); exact partsIn_trans rfl hf)
    | ((with_reducible apply Keeps.step (engTrap_keeps ..)); exact partsIn_trans rfl hf)
    | ((with_reducible apply Keeps.step (countUe_keeps ..)); exact partsIn_trans rfl hf)
    | split
    | fail_if_no_progress dsimp only
    | with_reducible apply h_act)

theorem dataWords_keeps (e : Nat) (l : List (BitVec 14)) (s : State) : Keeps 76 s (dataWords e l s).2 := by
  induction l generalizing s with
  | nil => exact Keeps.refl _ _
  | cons a t ih =>
    have h : ∀ p : Nat, Keeps 76 s (if s.eccAt p = 1 then sramCe e p s else s) := fun p =>
      Keeps.ite (Keeps.refl _ _) fun h => Keeps.step (sramCe_keeps ..) rfl h
    unfold dataWords
    dsimp only
    split
    · exact (h _).trans (ih _)
    · exact (h _).trans (ih _)
    · exact Keeps.step (countUe_keeps ..) rfl (Keeps.refl _ _)

theorem dataStore_keeps (e : Nat) (l : List (BitVec 14 × W16)) (s : State) : Keeps 6291484 s (dataStore e l s) := by
  have h0 := Keeps.refl 6291484 s
  unfold dataStore
  try dsimp only
  repeat' (first
    | intro _
    | with_reducible assumption
    | ((with_reducible apply Keeps.step (State.physWrite_keeps ..)); exact rfl)
    | with_reducible apply Keeps.forEach
    | fail_if_no_progress dsimp only)

theorem engSet_keeps (e : Nat) (f : Engine → Engine) (s : State) : Keeps 64 s (engSet e f s) := by
  have h0 := Keeps.refl 64 s
  unfold engSet
  try dsimp only
  repeat' (first
    | intro _
    | with_reducible assumption
    | ((with_reducible apply Keeps.step (State.setEngine_keeps ..)); exact rfl)
    | fail_if_no_progress dsimp only)

theorem regOp_keeps (e : Nat) (f : Engine → Engine) (s : State) : Keeps 1207993036 s (regOp e f s) := by
  have h0 := Keeps.refl 1207993036 s
  unfold regOp
  try dsimp only
  repeat' (first
    | intro _
    | with_reducible assumption
    | ((with_reducible apply engExec_keeps); exact rfl)
    | ((with_reducible apply Keeps.step (engSet_keeps ..)); exact rfl)
    | fail_if_no_progress dsimp only)

theorem needs_keeps {f : Nat} {a : State} (e : Nat) (ok : Bool) (act : State → State) (s : State) (hf : partsIn 1207993036 f = true) (h_act : ∀ s, Keeps f a s → Keeps f a (act s)) (h0 : Keeps f a s) : Keeps f a (needs e ok act s) := by
  unfold needs
  try dsimp only
  repeat' (first
    | with_reducible apply Keeps.ite
    | intro _
    | with_reducible assumption
    | ((with_reducible apply Keeps.step (engTrap_keeps ..)); exact partsIn_trans rfl hf)
    | fail_if_no_progress dsimp only
    | with_reducible apply h_act)

theorem portRead_keeps (e : Nat) (p : Nat) (s : State) : Keeps 76 s (portRead e p s).2 := by
  have h0 := Keeps.refl 76 s
  unfold portRead
  try dsimp only
  repeat' (first
    | with_reducible apply Keeps.ite
    | with_reducible apply Keeps.iteFst
    | with_reducible apply Keeps.iteSnd
    | intro _
    | with_reducible assumption
    | ((with_reducible apply Keeps.step (State.eccCheck_keeps ..)); exact rfl)
    | ((with_reducible apply Keeps.step (State.useFree_keeps ..)); exact rfl)
    | ((with_reducible apply Keeps.step (engSet_keeps ..)); exact rfl)
    | fail_if_no_progress dsimp only)

theorem fabricWrite_keeps (p : Nat) (v : W32) (s : State) : Keeps 6291516 s (fabricWrite p v s) := by
  have h0 := Keeps.refl 6291516 s
  unfold fabricWrite
  try dsimp only
  repeat' (first
    | with_reducible apply Keeps.ite
    | with_reducible apply Keeps.iteFst
    | with_reducible apply Keeps.iteSnd
    | intro _
    | with_reducible assumption
    | ((with_reducible apply Keeps.step (State.setReg_keeps ..)); exact rfl)
    | ((with_reducible apply Keeps.step (fabricStore_keeps ..)); exact rfl)
    | with_reducible apply Keeps.forEach
    | fail_if_no_progress dsimp only)

theorem deliver_keeps (e : Nat) (w : PortWrite) (s : State) : Keeps 6815996 s (deliver e w s) := by
  have h0 := Keeps.refl 6815996 s
  unfold deliver
  try dsimp only
  repeat' (first
    | with_reducible apply Keeps.ite
    | with_reducible apply Keeps.iteFst
    | with_reducible apply Keeps.iteSnd
    | intro _
    | with_reducible assumption
    | ((with_reducible apply Keeps.step (dmaDoorbell_keeps ..)); exact rfl)
    | ((with_reducible apply Keeps.step (fabricWrite_keeps ..)); exact rfl)
    | ((with_reducible apply Keeps.step (lateWrite_keeps ..)); exact rfl)
    | ((with_reducible apply Keeps.step (loadAllGroups_keeps ..)); exact rfl)
    | ((with_reducible apply Keeps.step (swTrig_keeps ..)); exact rfl)
    | ((with_reducible apply Keeps.step (writeShadow_keeps ..)); exact rfl)
    | fail_if_no_progress dsimp only)

theorem portWrite_keeps (e : Nat) (p : Nat) (v : W32) (s : State) : Keeps 1207993036 s (portWrite e p v s) := by
  have h0 := Keeps.refl 1207993036 s
  unfold portWrite
  try dsimp only
  repeat' (first
    | with_reducible apply Keeps.ite
    | with_reducible apply Keeps.iteFst
    | with_reducible apply Keeps.iteSnd
    | intro _
    | with_reducible assumption
    | ((with_reducible apply Keeps.step (State.setEngine_keeps ..)); exact rfl)
    | ((with_reducible apply Keeps.step (engTrap_keeps ..)); exact rfl)
    | split
    | fail_if_no_progress dsimp only)

theorem withPort_keeps (e : Nat) (p : Nat) (f : W32 → Engine → Engine) (s : State) : Keeps 1207993036 s (withPort e p f s) := by
  have h0 := Keeps.refl 1207993036 s
  unfold withPort
  try dsimp only
  repeat' (first
    | intro _
    | with_reducible assumption
    | ((with_reducible apply Keeps.step (engSet_keeps ..)); exact rfl)
    | ((with_reducible apply Keeps.step (engTrap_keeps ..)); exact rfl)
    | ((with_reducible apply Keeps.step (portRead_keeps ..)); exact rfl)
    | split
    | fail_if_no_progress dsimp only)

theorem startCycle_keeps (e : Nat) (n : Nat) (at_ : Instant) (s : State) : Keeps 32972 s (startCycle e n at_ s) := by
  have h0 := Keeps.refl 32972 s
  unfold startCycle
  try dsimp only
  repeat' (first
    | with_reducible apply Keeps.ite
    | with_reducible apply Keeps.iteFst
    | with_reducible apply Keeps.iteSnd
    | intro _
    | with_reducible assumption
    | ((with_reducible apply Keeps.step (State.bump_keeps ..)); exact rfl)
    | ((with_reducible apply Keeps.step (State.setEngine_keeps ..)); exact rfl)
    | ((with_reducible apply Keeps.step (State.setFlag_keeps ..)); exact rfl)
    | ((with_reducible apply Keeps.step (countMiss_keeps ..)); exact rfl)
    | ((with_reducible apply Keeps.step (endPhase_keeps ..)); exact rfl)
    | ((with_reducible apply Keeps.step (missDeadline_keeps ..)); exact rfl)
    | fail_if_no_progress dsimp only)

theorem slack_keeps (e : Nat) (s : State) : Keeps 72 s (slack e s) := by
  have h0 := Keeps.refl 72 s
  unfold slack
  try dsimp only
  repeat' (first
    | with_reducible apply Keeps.ite
    | with_reducible apply Keeps.iteFst
    | with_reducible apply Keeps.iteSnd
    | intro _
    | with_reducible assumption
    | ((with_reducible apply Keeps.step (State.setEngine_keeps ..)); exact rfl)
    | ((with_reducible apply Keeps.step (State.setReg_keeps ..)); exact rfl)
    | fail_if_no_progress dsimp only)

end Sys2Proof.Machine
end

