-- ==== Sys2Proof/Laws/KeepsEngines.lean ====
section
/-!
SUPPORT. What each function of Machine/Engines.lean keeps, and which parts of the state it leaves alone.
-/

namespace Sys2Proof.Machine

theorem execMpy_keeps (e : Fin 16) (a : Fin 4) (xs : Fin 16) (xt : Fin 16) (s : State) : Outcome.Keeps 1207993036 s (execMpy e a xs xt s) := by
  have h0 := Keeps.refl 1207993036 s
  unfold execMpy
  try dsimp only
  repeat' (first
    | with_reducible apply Outcome.Keeps.next
    | intro _
    | with_reducible assumption
    | ((with_reducible apply Keeps.step (regOp_keeps ..)); exact rfl)
    | fail_if_no_progress dsimp only)

theorem execMac_keeps (e : Fin 16) (a : Fin 4) (xs : Fin 16) (xt : Fin 16) (s : State) : Outcome.Keeps 1207993036 s (execMac e a xs xt s) := by
  have h0 := Keeps.refl 1207993036 s
  unfold execMac
  try dsimp only
  repeat' (first
    | with_reducible apply Outcome.Keeps.next
    | intro _
    | with_reducible assumption
    | ((with_reducible apply Keeps.step (regOp_keeps ..)); exact rfl)
    | fail_if_no_progress dsimp only)

theorem execMsu_keeps (e : Fin 16) (a : Fin 4) (xs : Fin 16) (xt : Fin 16) (s : State) : Outcome.Keeps 1207993036 s (execMsu e a xs xt s) := by
  have h0 := Keeps.refl 1207993036 s
  unfold execMsu
  try dsimp only
  repeat' (first
    | with_reducible apply Outcome.Keeps.next
    | intro _
    | with_reducible assumption
    | ((with_reducible apply Keeps.step (regOp_keeps ..)); exact rfl)
    | fail_if_no_progress dsimp only)

theorem withWords_keeps (e : Fin 16) (m : AddrMode) (n : Nat) (f : List W16 → Engine → Engine) (s : State) : Keeps 1207993036 s (withWords e m n f s) := by
  have h0 := Keeps.refl 1207993036 s
  unfold withWords
  try dsimp only
  repeat' (first
    | intro _
    | with_reducible assumption
    | ((with_reducible apply Keeps.step (dataWords_keeps ..)); exact rfl)
    | ((with_reducible apply engExec_keeps); exact rfl)
    | ((with_reducible apply Keeps.step (engSet_keeps ..)); exact rfl)
    | ((with_reducible apply Keeps.step (engTrap_keeps ..)); exact rfl)
    | split
    | fail_if_no_progress dsimp only)

theorem execMacm_keeps (e : Fin 16) (a : Fin 4) (d : Fin 16) (m : AddrMode) (s : State) : Outcome.Keeps 1207993036 s (execMacm e a d m s) := by
  have h0 := Keeps.refl 1207993036 s
  unfold execMacm
  try dsimp only
  repeat' (first
    | with_reducible apply Outcome.Keeps.next
    | intro _
    | with_reducible assumption
    | ((with_reducible apply Keeps.step (withWords_keeps ..)); exact rfl)
    | fail_if_no_progress dsimp only)

theorem execAdda_keeps (e : Fin 16) (a : Fin 4) (b : Fin 4) (s : State) : Outcome.Keeps 1207993036 s (execAdda e a b s) := by
  have h0 := Keeps.refl 1207993036 s
  unfold execAdda
  try dsimp only
  repeat' (first
    | with_reducible apply Outcome.Keeps.next
    | intro _
    | with_reducible assumption
    | ((with_reducible apply Keeps.step (regOp_keeps ..)); exact rfl)
    | fail_if_no_progress dsimp only)

theorem execSuba_keeps (e : Fin 16) (a : Fin 4) (b : Fin 4) (s : State) : Outcome.Keeps 1207993036 s (execSuba e a b s) := by
  have h0 := Keeps.refl 1207993036 s
  unfold execSuba
  try dsimp only
  repeat' (first
    | with_reducible apply Outcome.Keeps.next
    | intro _
    | with_reducible assumption
    | ((with_reducible apply Keeps.step (regOp_keeps ..)); exact rfl)
    | fail_if_no_progress dsimp only)

theorem execAddas_keeps (e : Fin 16) (a : Fin 4) (b : Fin 4) (s : State) : Outcome.Keeps 1207993036 s (execAddas e a b s) := by
  have h0 := Keeps.refl 1207993036 s
  unfold execAddas
  try dsimp only
  repeat' (first
    | with_reducible apply Outcome.Keeps.next
    | intro _
    | with_reducible assumption
    | ((with_reducible apply Keeps.step (regOp_keeps ..)); exact rfl)
    | fail_if_no_progress dsimp only)

theorem execMova_keeps (e : Fin 16) (a : Fin 4) (b : Fin 4) (s : State) : Outcome.Keeps 1207993036 s (execMova e a b s) := by
  have h0 := Keeps.refl 1207993036 s
  unfold execMova
  try dsimp only
  repeat' (first
    | with_reducible apply Outcome.Keeps.next
    | intro _
    | with_reducible assumption
    | ((with_reducible apply Keeps.step (regOp_keeps ..)); exact rfl)
    | fail_if_no_progress dsimp only)

theorem execNega_keeps (e : Fin 16) (a : Fin 4) (s : State) : Outcome.Keeps 1207993036 s (execNega e a s) := by
  have h0 := Keeps.refl 1207993036 s
  unfold execNega
  try dsimp only
  repeat' (first
    | with_reducible apply Outcome.Keeps.next
    | intro _
    | with_reducible assumption
    | ((with_reducible apply Keeps.step (regOp_keeps ..)); exact rfl)
    | fail_if_no_progress dsimp only)

theorem execAbsa_keeps (e : Fin 16) (a : Fin 4) (s : State) : Outcome.Keeps 1207993036 s (execAbsa e a s) := by
  have h0 := Keeps.refl 1207993036 s
  unfold execAbsa
  try dsimp only
  repeat' (first
    | with_reducible apply Outcome.Keeps.next
    | intro _
    | with_reducible assumption
    | ((with_reducible apply Keeps.step (regOp_keeps ..)); exact rfl)
    | fail_if_no_progress dsimp only)

theorem execClra_keeps (e : Fin 16) (a : Fin 4) (s : State) : Outcome.Keeps 1207993036 s (execClra e a s) := by
  have h0 := Keeps.refl 1207993036 s
  unfold execClra
  try dsimp only
  repeat' (first
    | with_reducible apply Outcome.Keeps.next
    | intro _
    | with_reducible assumption
    | ((with_reducible apply Keeps.step (regOp_keeps ..)); exact rfl)
    | fail_if_no_progress dsimp only)

theorem execSatr_keeps (e : Fin 16) (d : Fin 16) (a : Fin 4) (sh : BitVec 8) (s : State) : Outcome.Keeps 1207993036 s (execSatr e d a sh s) := by
  have h0 := Keeps.refl 1207993036 s
  unfold execSatr
  try dsimp only
  repeat' (first
    | with_reducible apply Outcome.Keeps.next
    | intro _
    | with_reducible assumption
    | ((with_reducible apply engExec_keeps); exact rfl)
    | ((with_reducible apply Keeps.step (engSet_keeps ..)); exact rfl)
    | ((with_reducible apply needs_keeps); exact rfl)
    | fail_if_no_progress dsimp only)

theorem execLda_keeps (e : Fin 16) (a : Fin 4) (xs : Fin 16) (sh : BitVec 8) (s : State) : Outcome.Keeps 1207993036 s (execLda e a xs sh s) := by
  have h0 := Keeps.refl 1207993036 s
  unfold execLda
  try dsimp only
  repeat' (first
    | with_reducible apply Outcome.Keeps.next
    | intro _
    | with_reducible assumption
    | ((with_reducible apply engExec_keeps); exact rfl)
    | ((with_reducible apply Keeps.step (engSet_keeps ..)); exact rfl)
    | ((with_reducible apply needs_keeps); exact rfl)
    | fail_if_no_progress dsimp only)

theorem execSha_keeps (e : Fin 16) (a : Fin 4) (sh : BitVec 8) (round : Bool) (s : State) : Outcome.Keeps 1207993036 s (execSha e a sh round s) := by
  have h0 := Keeps.refl 1207993036 s
  unfold execSha
  try dsimp only
  repeat' (first
    | with_reducible apply Outcome.Keeps.next
    | with_reducible apply Outcome.Keeps.ite
    | with_reducible apply Keeps.ite
    | with_reducible apply Keeps.iteFst
    | with_reducible apply Keeps.iteSnd
    | intro _
    | with_reducible assumption
    | ((with_reducible apply engExec_keeps); exact rfl)
    | ((with_reducible apply Keeps.step (engSet_keeps ..)); exact rfl)
    | ((with_reducible apply needs_keeps); exact rfl)
    | fail_if_no_progress dsimp only)

theorem wrapOp_keeps (e : Fin 16) (d : Fin 16) (xs : Fin 16) (xt : Fin 16) (f : Int → Int → Int) (s : State) : Keeps 1207993036 s (wrapOp e d xs xt f s) := by
  have h0 := Keeps.refl 1207993036 s
  unfold wrapOp
  try dsimp only
  repeat' (first
    | intro _
    | with_reducible assumption
    | ((with_reducible apply Keeps.step (regOp_keeps ..)); exact rfl)
    | fail_if_no_progress dsimp only)

theorem satOp_keeps (e : Fin 16) (d : Fin 16) (xs : Fin 16) (xt : Fin 16) (f : Int → Int → Int) (s : State) : Keeps 1207993036 s (satOp e d xs xt f s) := by
  have h0 := Keeps.refl 1207993036 s
  unfold satOp
  try dsimp only
  repeat' (first
    | intro _
    | with_reducible assumption
    | ((with_reducible apply Keeps.step (regOp_keeps ..)); exact rfl)
    | fail_if_no_progress dsimp only)

theorem bitOp_keeps (e : Fin 16) (d : Fin 16) (xs : Fin 16) (xt : Fin 16) (f : W16 → W16 → W16) (s : State) : Keeps 1207993036 s (bitOp e d xs xt f s) := by
  have h0 := Keeps.refl 1207993036 s
  unfold bitOp
  try dsimp only
  repeat' (first
    | intro _
    | with_reducible assumption
    | ((with_reducible apply Keeps.step (regOp_keeps ..)); exact rfl)
    | fail_if_no_progress dsimp only)

theorem execAdd_keeps (e : Fin 16) (d : Fin 16) (xs : Fin 16) (xt : Fin 16) (s : State) : Outcome.Keeps 1207993036 s (execAdd e d xs xt s) := by
  have h0 := Keeps.refl 1207993036 s
  unfold execAdd
  try dsimp only
  repeat' (first
    | with_reducible apply Outcome.Keeps.next
    | intro _
    | with_reducible assumption
    | ((with_reducible apply Keeps.step (wrapOp_keeps ..)); exact rfl)
    | fail_if_no_progress dsimp only)

theorem execSub_keeps (e : Fin 16) (d : Fin 16) (xs : Fin 16) (xt : Fin 16) (s : State) : Outcome.Keeps 1207993036 s (execSub e d xs xt s) := by
  have h0 := Keeps.refl 1207993036 s
  unfold execSub
  try dsimp only
  repeat' (first
    | with_reducible apply Outcome.Keeps.next
    | intro _
    | with_reducible assumption
    | ((with_reducible apply Keeps.step (wrapOp_keeps ..)); exact rfl)
    | fail_if_no_progress dsimp only)

theorem execAdds_keeps (e : Fin 16) (d : Fin 16) (xs : Fin 16) (xt : Fin 16) (s : State) : Outcome.Keeps 1207993036 s (execAdds e d xs xt s) := by
  have h0 := Keeps.refl 1207993036 s
  unfold execAdds
  try dsimp only
  repeat' (first
    | with_reducible apply Outcome.Keeps.next
    | intro _
    | with_reducible assumption
    | ((with_reducible apply Keeps.step (satOp_keeps ..)); exact rfl)
    | fail_if_no_progress dsimp only)

theorem execSubs_keeps (e : Fin 16) (d : Fin 16) (xs : Fin 16) (xt : Fin 16) (s : State) : Outcome.Keeps 1207993036 s (execSubs e d xs xt s) := by
  have h0 := Keeps.refl 1207993036 s
  unfold execSubs
  try dsimp only
  repeat' (first
    | with_reducible apply Outcome.Keeps.next
    | intro _
    | with_reducible assumption
    | ((with_reducible apply Keeps.step (satOp_keeps ..)); exact rfl)
    | fail_if_no_progress dsimp only)

theorem execAndX_keeps (e : Fin 16) (d : Fin 16) (xs : Fin 16) (xt : Fin 16) (s : State) : Outcome.Keeps 1207993036 s (execAndX e d xs xt s) := by
  have h0 := Keeps.refl 1207993036 s
  unfold execAndX
  try dsimp only
  repeat' (first
    | with_reducible apply Outcome.Keeps.next
    | intro _
    | with_reducible assumption
    | ((with_reducible apply Keeps.step (bitOp_keeps ..)); exact rfl)
    | fail_if_no_progress dsimp only)

theorem execOrX_keeps (e : Fin 16) (d : Fin 16) (xs : Fin 16) (xt : Fin 16) (s : State) : Outcome.Keeps 1207993036 s (execOrX e d xs xt s) := by
  have h0 := Keeps.refl 1207993036 s
  unfold execOrX
  try dsimp only
  repeat' (first
    | with_reducible apply Outcome.Keeps.next
    | intro _
    | with_reducible assumption
    | ((with_reducible apply Keeps.step (bitOp_keeps ..)); exact rfl)
    | fail_if_no_progress dsimp only)

theorem execXorX_keeps (e : Fin 16) (d : Fin 16) (xs : Fin 16) (xt : Fin 16) (s : State) : Outcome.Keeps 1207993036 s (execXorX e d xs xt s) := by
  have h0 := Keeps.refl 1207993036 s
  unfold execXorX
  try dsimp only
  repeat' (first
    | with_reducible apply Outcome.Keeps.next
    | intro _
    | with_reducible assumption
    | ((with_reducible apply Keeps.step (bitOp_keeps ..)); exact rfl)
    | fail_if_no_progress dsimp only)

theorem execMinX_keeps (e : Fin 16) (d : Fin 16) (xs : Fin 16) (xt : Fin 16) (s : State) : Outcome.Keeps 1207993036 s (execMinX e d xs xt s) := by
  have h0 := Keeps.refl 1207993036 s
  unfold execMinX
  try dsimp only
  repeat' (first
    | with_reducible apply Outcome.Keeps.next
    | with_reducible apply Outcome.Keeps.ite
    | with_reducible apply Keeps.ite
    | with_reducible apply Keeps.iteFst
    | with_reducible apply Keeps.iteSnd
    | intro _
    | with_reducible assumption
    | ((with_reducible apply Keeps.step (bitOp_keeps ..)); exact rfl)
    | fail_if_no_progress dsimp only)

theorem execMaxX_keeps (e : Fin 16) (d : Fin 16) (xs : Fin 16) (xt : Fin 16) (s : State) : Outcome.Keeps 1207993036 s (execMaxX e d xs xt s) := by
  have h0 := Keeps.refl 1207993036 s
  unfold execMaxX
  try dsimp only
  repeat' (first
    | with_reducible apply Outcome.Keeps.next
    | with_reducible apply Outcome.Keeps.ite
    | with_reducible apply Keeps.ite
    | with_reducible apply Keeps.iteFst
    | with_reducible apply Keeps.iteSnd
    | intro _
    | with_reducible assumption
    | ((with_reducible apply Keeps.step (bitOp_keeps ..)); exact rfl)
    | fail_if_no_progress dsimp only)

theorem execNegX_keeps (e : Fin 16) (d : Fin 16) (xs : Fin 16) (s : State) : Outcome.Keeps 1207993036 s (execNegX e d xs s) := by
  have h0 := Keeps.refl 1207993036 s
  unfold execNegX
  try dsimp only
  repeat' (first
    | with_reducible apply Outcome.Keeps.next
    | intro _
    | with_reducible assumption
    | ((with_reducible apply Keeps.step (wrapOp_keeps ..)); exact rfl)
    | fail_if_no_progress dsimp only)

theorem execAbsX_keeps (e : Fin 16) (d : Fin 16) (xs : Fin 16) (s : State) : Outcome.Keeps 1207993036 s (execAbsX e d xs s) := by
  have h0 := Keeps.refl 1207993036 s
  unfold execAbsX
  try dsimp only
  repeat' (first
    | with_reducible apply Outcome.Keeps.next
    | intro _
    | with_reducible assumption
    | ((with_reducible apply Keeps.step (wrapOp_keeps ..)); exact rfl)
    | fail_if_no_progress dsimp only)

theorem execNotX_keeps (e : Fin 16) (d : Fin 16) (xs : Fin 16) (s : State) : Outcome.Keeps 1207993036 s (execNotX e d xs s) := by
  have h0 := Keeps.refl 1207993036 s
  unfold execNotX
  try dsimp only
  repeat' (first
    | with_reducible apply Outcome.Keeps.next
    | intro _
    | with_reducible assumption
    | ((with_reducible apply Keeps.step (bitOp_keeps ..)); exact rfl)
    | fail_if_no_progress dsimp only)

theorem execAluMov_keeps (e : Fin 16) (d : Fin 16) (xs : Fin 16) (s : State) : Outcome.Keeps 1207993036 s (execAluMov e d xs s) := by
  have h0 := Keeps.refl 1207993036 s
  unfold execAluMov
  try dsimp only
  repeat' (first
    | with_reducible apply Outcome.Keeps.next
    | intro _
    | with_reducible assumption
    | ((with_reducible apply Keeps.step (bitOp_keeps ..)); exact rfl)
    | fail_if_no_progress dsimp only)

theorem shiftOp_keeps (e : Fin 16) (n : BitVec 8) (f : Engine → Engine) (s : State) : Keeps 1207993036 s (shiftOp e n f s) := by
  have h0 := Keeps.refl 1207993036 s
  unfold shiftOp
  try dsimp only
  repeat' (first
    | intro _
    | with_reducible assumption
    | ((with_reducible apply engExec_keeps); exact rfl)
    | ((with_reducible apply Keeps.step (engSet_keeps ..)); exact rfl)
    | ((with_reducible apply needs_keeps); exact rfl)
    | fail_if_no_progress dsimp only)

theorem execAsr_keeps (e : Fin 16) (d : Fin 16) (xs : Fin 16) (n : BitVec 8) (s : State) : Outcome.Keeps 1207993036 s (execAsr e d xs n s) := by
  have h0 := Keeps.refl 1207993036 s
  unfold execAsr
  try dsimp only
  repeat' (first
    | with_reducible apply Outcome.Keeps.next
    | intro _
    | with_reducible assumption
    | ((with_reducible apply Keeps.step (shiftOp_keeps ..)); exact rfl)
    | fail_if_no_progress dsimp only)

theorem execLsr_keeps (e : Fin 16) (d : Fin 16) (xs : Fin 16) (n : BitVec 8) (s : State) : Outcome.Keeps 1207993036 s (execLsr e d xs n s) := by
  have h0 := Keeps.refl 1207993036 s
  unfold execLsr
  try dsimp only
  repeat' (first
    | with_reducible apply Outcome.Keeps.next
    | intro _
    | with_reducible assumption
    | ((with_reducible apply Keeps.step (shiftOp_keeps ..)); exact rfl)
    | fail_if_no_progress dsimp only)

theorem execLsl_keeps (e : Fin 16) (d : Fin 16) (xs : Fin 16) (n : BitVec 8) (s : State) : Outcome.Keeps 1207993036 s (execLsl e d xs n s) := by
  have h0 := Keeps.refl 1207993036 s
  unfold execLsl
  try dsimp only
  repeat' (first
    | with_reducible apply Outcome.Keeps.next
    | intro _
    | with_reducible assumption
    | ((with_reducible apply Keeps.step (shiftOp_keeps ..)); exact rfl)
    | fail_if_no_progress dsimp only)

theorem execLsls_keeps (e : Fin 16) (d : Fin 16) (xs : Fin 16) (n : BitVec 8) (s : State) : Outcome.Keeps 1207993036 s (execLsls e d xs n s) := by
  have h0 := Keeps.refl 1207993036 s
  unfold execLsls
  try dsimp only
  repeat' (first
    | with_reducible apply Outcome.Keeps.next
    | intro _
    | with_reducible assumption
    | ((with_reducible apply Keeps.step (shiftOp_keeps ..)); exact rfl)
    | fail_if_no_progress dsimp only)

theorem execLimit_keeps (e : Fin 16) (d : Fin 16) (xs : Fin 16) (xt : Fin 16) (s : State) : Outcome.Keeps 1207993036 s (execLimit e d xs xt s) := by
  have h0 := Keeps.refl 1207993036 s
  unfold execLimit
  try dsimp only
  repeat' (first
    | with_reducible apply Outcome.Keeps.next
    | intro _
    | with_reducible assumption
    | ((with_reducible apply Keeps.step (State.useFree_keeps ..)); exact rfl)
    | ((with_reducible apply engExec_keeps); exact rfl)
    | ((with_reducible apply Keeps.step (engSet_keeps ..)); exact rfl)
    | fail_if_no_progress dsimp only)

theorem execLima_keeps (e : Fin 16) (a : Fin 4) (xs : Fin 16) (xt : Fin 16) (s : State) : Outcome.Keeps 1207993036 s (execLima e a xs xt s) := by
  have h0 := Keeps.refl 1207993036 s
  unfold execLima
  try dsimp only
  repeat' (first
    | with_reducible apply Outcome.Keeps.next
    | intro _
    | with_reducible assumption
    | ((with_reducible apply Keeps.step (State.useFree_keeps ..)); exact rfl)
    | ((with_reducible apply engExec_keeps); exact rfl)
    | ((with_reducible apply Keeps.step (engSet_keeps ..)); exact rfl)
    | fail_if_no_progress dsimp only)

theorem execSlew_keeps (e : Fin 16) (d : Fin 16) (xs : Fin 16) (s : State) : Outcome.Keeps 1207993036 s (execSlew e d xs s) := by
  have h0 := Keeps.refl 1207993036 s
  unfold execSlew
  try dsimp only
  repeat' (first
    | with_reducible apply Outcome.Keeps.next
    | with_reducible apply Outcome.Keeps.ite
    | with_reducible apply Keeps.ite
    | with_reducible apply Keeps.iteFst
    | with_reducible apply Keeps.iteSnd
    | intro _
    | with_reducible assumption
    | ((with_reducible apply Keeps.step (regOp_keeps ..)); exact rfl)
    | fail_if_no_progress dsimp only)

theorem execPreset_keeps (e : Fin 16) (d : Fin 16) (a : Fin 4) (xs : Fin 16) (xt : Fin 16) (s : State) : Outcome.Keeps 1207993036 s (execPreset e d a xs xt s) := by
  have h0 := Keeps.refl 1207993036 s
  unfold execPreset
  try dsimp only
  repeat' (first
    | with_reducible apply Outcome.Keeps.next
    | intro _
    | with_reducible assumption
    | ((with_reducible apply Keeps.step (State.useFree_keeps ..)); exact rfl)
    | ((with_reducible apply engExec_keeps); exact rfl)
    | ((with_reducible apply Keeps.step (engSet_keeps ..)); exact rfl)
    | ((with_reducible apply needs_keeps); exact rfl)
    | fail_if_no_progress dsimp only)

theorem execDivq_keeps (e : Fin 16) (d : Fin 16) (xs : Fin 16) (xt : Fin 16) (s : State) : Outcome.Keeps 1207993036 s (execDivq e d xs xt s) := by
  have h0 := Keeps.refl 1207993036 s
  unfold execDivq
  try dsimp only
  repeat' (first
    | with_reducible apply Outcome.Keeps.next
    | with_reducible apply Outcome.Keeps.ite
    | with_reducible apply Keeps.ite
    | with_reducible apply Keeps.iteFst
    | with_reducible apply Keeps.iteSnd
    | intro _
    | with_reducible assumption
    | ((with_reducible apply Keeps.step (regOp_keeps ..)); exact rfl)
    | fail_if_no_progress dsimp only)

theorem execScos_keeps (e : Fin 16) (d : Fin 16) (xs : Fin 16) (s : State) : Outcome.Keeps 1207993036 s (execScos e d xs s) := by
  have h0 := Keeps.refl 1207993036 s
  unfold execScos
  try dsimp only
  repeat' (first
    | with_reducible apply Outcome.Keeps.next
    | intro _
    | with_reducible assumption
    | ((with_reducible apply Keeps.step (State.useFree_keeps ..)); exact rfl)
    | ((with_reducible apply engExec_keeps); exact rfl)
    | ((with_reducible apply Keeps.step (engSet_keeps ..)); exact rfl)
    | ((with_reducible apply needs_keeps); exact rfl)
    | fail_if_no_progress dsimp only)

theorem execLdi_keeps (e : Fin 16) (d : Fin 16) (imm : BitVec 16) (s : State) : Outcome.Keeps 1207993036 s (execLdi e d imm s) := by
  have h0 := Keeps.refl 1207993036 s
  unfold execLdi
  try dsimp only
  repeat' (first
    | with_reducible apply Outcome.Keeps.next
    | intro _
    | with_reducible assumption
    | ((with_reducible apply Keeps.step (regOp_keeps ..)); exact rfl)
    | fail_if_no_progress dsimp only)

theorem execAddi_keeps (e : Fin 16) (d : Fin 16) (imm : BitVec 16) (s : State) : Outcome.Keeps 1207993036 s (execAddi e d imm s) := by
  have h0 := Keeps.refl 1207993036 s
  unfold execAddi
  try dsimp only
  repeat' (first
    | with_reducible apply Outcome.Keeps.next
    | intro _
    | with_reducible assumption
    | ((with_reducible apply Keeps.step (regOp_keeps ..)); exact rfl)
    | fail_if_no_progress dsimp only)

theorem execCmpi_keeps (e : Fin 16) (d : Fin 16) (imm : BitVec 16) (s : State) : Outcome.Keeps 1207993036 s (execCmpi e d imm s) := by
  have h0 := Keeps.refl 1207993036 s
  unfold execCmpi
  try dsimp only
  repeat' (first
    | with_reducible apply Outcome.Keeps.next
    | intro _
    | with_reducible assumption
    | ((with_reducible apply Keeps.step (regOp_keeps ..)); exact rfl)
    | fail_if_no_progress dsimp only)

theorem execLdai_keeps (e : Fin 16) (a : Fin 4) (imm : BitVec 16) (s : State) : Outcome.Keeps 1207993036 s (execLdai e a imm s) := by
  have h0 := Keeps.refl 1207993036 s
  unfold execLdai
  try dsimp only
  repeat' (first
    | with_reducible apply Outcome.Keeps.next
    | intro _
    | with_reducible assumption
    | ((with_reducible apply Keeps.step (regOp_keeps ..)); exact rfl)
    | fail_if_no_progress dsimp only)

theorem execLdpi_keeps (e : Fin 16) (p : Fin 8) (imm : BitVec 16) (s : State) : Outcome.Keeps 1207993036 s (execLdpi e p imm s) := by
  have h0 := Keeps.refl 1207993036 s
  unfold execLdpi
  try dsimp only
  repeat' (first
    | with_reducible apply Outcome.Keeps.next
    | intro _
    | with_reducible assumption
    | ((with_reducible apply engExec_keeps); exact rfl)
    | ((with_reducible apply Keeps.step (engSet_keeps ..)); exact rfl)
    | ((with_reducible apply needs_keeps); exact rfl)
    | fail_if_no_progress dsimp only)

theorem execLdpiK_keeps (e : Fin 16) (p : Fin 8) (k : BitVec 16) (s : State) : Outcome.Keeps 1207993036 s (execLdpiK e p k s) := by
  have h0 := Keeps.refl 1207993036 s
  unfold execLdpiK
  try dsimp only
  repeat' (first
    | with_reducible apply Outcome.Keeps.next
    | intro _
    | with_reducible assumption
    | ((with_reducible apply engExec_keeps); exact rfl)
    | ((with_reducible apply Keeps.step (engSet_keeps ..)); exact rfl)
    | ((with_reducible apply needs_keeps); exact rfl)
    | fail_if_no_progress dsimp only)

theorem execAddpi_keeps (e : Fin 16) (p : Fin 8) (imm : BitVec 16) (s : State) : Outcome.Keeps 1207993036 s (execAddpi e p imm s) := by
  have h0 := Keeps.refl 1207993036 s
  unfold execAddpi
  try dsimp only
  repeat' (first
    | with_reducible apply Outcome.Keeps.next
    | intro _
    | with_reducible assumption
    | ((with_reducible apply Keeps.step (regOp_keeps ..)); exact rfl)
    | fail_if_no_progress dsimp only)

theorem execMovXP_keeps (e : Fin 16) (d : Fin 16) (p : Fin 8) (s : State) : Outcome.Keeps 1207993036 s (execMovXP e d p s) := by
  have h0 := Keeps.refl 1207993036 s
  unfold execMovXP
  try dsimp only
  repeat' (first
    | with_reducible apply Outcome.Keeps.next
    | intro _
    | with_reducible assumption
    | ((with_reducible apply Keeps.step (regOp_keeps ..)); exact rfl)
    | fail_if_no_progress dsimp only)

theorem execMovPX_keeps (e : Fin 16) (p : Fin 8) (xs : Fin 16) (s : State) : Outcome.Keeps 1207993036 s (execMovPX e p xs s) := by
  have h0 := Keeps.refl 1207993036 s
  unfold execMovPX
  try dsimp only
  repeat' (first
    | with_reducible apply Outcome.Keeps.next
    | intro _
    | with_reducible assumption
    | ((with_reducible apply Keeps.step (regOp_keeps ..)); exact rfl)
    | fail_if_no_progress dsimp only)

theorem execMovXAlow_keeps (e : Fin 16) (d : Fin 16) (a : Fin 4) (s : State) : Outcome.Keeps 1207993036 s (execMovXAlow e d a s) := by
  have h0 := Keeps.refl 1207993036 s
  unfold execMovXAlow
  try dsimp only
  repeat' (first
    | with_reducible apply Outcome.Keeps.next
    | intro _
    | with_reducible assumption
    | ((with_reducible apply Keeps.step (regOp_keeps ..)); exact rfl)
    | fail_if_no_progress dsimp only)

theorem execMovXAhigh_keeps (e : Fin 16) (d : Fin 16) (a : Fin 4) (s : State) : Outcome.Keeps 1207993036 s (execMovXAhigh e d a s) := by
  have h0 := Keeps.refl 1207993036 s
  unfold execMovXAhigh
  try dsimp only
  repeat' (first
    | with_reducible apply Outcome.Keeps.next
    | intro _
    | with_reducible assumption
    | ((with_reducible apply Keeps.step (regOp_keeps ..)); exact rfl)
    | fail_if_no_progress dsimp only)

theorem execMovXAguard_keeps (e : Fin 16) (d : Fin 16) (a : Fin 4) (s : State) : Outcome.Keeps 1207993036 s (execMovXAguard e d a s) := by
  have h0 := Keeps.refl 1207993036 s
  unfold execMovXAguard
  try dsimp only
  repeat' (first
    | with_reducible apply Outcome.Keeps.next
    | intro _
    | with_reducible assumption
    | ((with_reducible apply Keeps.step (regOp_keeps ..)); exact rfl)
    | fail_if_no_progress dsimp only)

theorem execMovAlowX_keeps (e : Fin 16) (a : Fin 4) (xs : Fin 16) (s : State) : Outcome.Keeps 1207993036 s (execMovAlowX e a xs s) := by
  have h0 := Keeps.refl 1207993036 s
  unfold execMovAlowX
  try dsimp only
  repeat' (first
    | with_reducible apply Outcome.Keeps.next
    | intro _
    | with_reducible assumption
    | ((with_reducible apply Keeps.step (regOp_keeps ..)); exact rfl)
    | fail_if_no_progress dsimp only)

theorem execMovAhighX_keeps (e : Fin 16) (a : Fin 4) (xs : Fin 16) (s : State) : Outcome.Keeps 1207993036 s (execMovAhighX e a xs s) := by
  have h0 := Keeps.refl 1207993036 s
  unfold execMovAhighX
  try dsimp only
  repeat' (first
    | with_reducible apply Outcome.Keeps.next
    | intro _
    | with_reducible assumption
    | ((with_reducible apply Keeps.step (regOp_keeps ..)); exact rfl)
    | fail_if_no_progress dsimp only)

theorem execMovAguardX_keeps (e : Fin 16) (a : Fin 4) (xs : Fin 16) (s : State) : Outcome.Keeps 1207993036 s (execMovAguardX e a xs s) := by
  have h0 := Keeps.refl 1207993036 s
  unfold execMovAguardX
  try dsimp only
  repeat' (first
    | with_reducible apply Outcome.Keeps.next
    | intro _
    | with_reducible assumption
    | ((with_reducible apply Keeps.step (regOp_keeps ..)); exact rfl)
    | fail_if_no_progress dsimp only)

theorem execMovXFlags_keeps (e : Fin 16) (d : Fin 16) (s : State) : Outcome.Keeps 1207993036 s (execMovXFlags e d s) := by
  have h0 := Keeps.refl 1207993036 s
  unfold execMovXFlags
  try dsimp only
  repeat' (first
    | with_reducible apply Outcome.Keeps.next
    | intro _
    | with_reducible assumption
    | ((with_reducible apply Keeps.step (regOp_keeps ..)); exact rfl)
    | fail_if_no_progress dsimp only)

theorem execCmp_keeps (e : Fin 16) (xs : Fin 16) (xt : Fin 16) (s : State) : Outcome.Keeps 1207993036 s (execCmp e xs xt s) := by
  have h0 := Keeps.refl 1207993036 s
  unfold execCmp
  try dsimp only
  repeat' (first
    | with_reducible apply Outcome.Keeps.next
    | intro _
    | with_reducible assumption
    | ((with_reducible apply Keeps.step (regOp_keeps ..)); exact rfl)
    | fail_if_no_progress dsimp only)

theorem execLd_keeps (e : Fin 16) (d : Fin 16) (m : AddrMode) (s : State) : Outcome.Keeps 1207993036 s (execLd e d m s) := by
  have h0 := Keeps.refl 1207993036 s
  unfold execLd
  try dsimp only
  repeat' (first
    | with_reducible apply Outcome.Keeps.next
    | intro _
    | with_reducible assumption
    | ((with_reducible apply Keeps.step (withWords_keeps ..)); exact rfl)
    | fail_if_no_progress dsimp only)

theorem pairD_keeps {f : Nat} {a : State} (e : Fin 16) (d : Fin 16) (instr : State → State) (s : State) (hf : partsIn 1207993036 f = true) (h_instr : ∀ s, Keeps f a s → Keeps f a (instr s)) (h0 : Keeps f a s) : Keeps f a (pairD e d instr s) := by
  unfold pairD
  try dsimp only
  repeat' (first
    | with_reducible apply Keeps.ite
    | intro _
    | with_reducible assumption
    | ((with_reducible apply engExec_keeps); exact partsIn_trans rfl hf)
    | ((with_reducible apply Keeps.step (engTrap_keeps ..)); exact partsIn_trans rfl hf)
    | fail_if_no_progress dsimp only
    | with_reducible apply h_instr)

theorem evenD_keeps {f : Nat} {a : State} (e : Fin 16) (d : Fin 16) (act : State → State) (s : State) (hf : partsIn 1207993036 f = true) (h_act : ∀ s, Keeps f a s → Keeps f a (act s)) (h0 : Keeps f a s) : Keeps f a (evenD e d act s) := by
  unfold evenD
  try dsimp only
  repeat' (first
    | intro _
    | with_reducible assumption
    | ((with_reducible apply engExec_keeps); exact partsIn_trans rfl hf)
    | ((with_reducible apply needs_keeps); exact partsIn_trans rfl hf)
    | fail_if_no_progress dsimp only
    | with_reducible apply h_act)

theorem execLdd_keeps (e : Fin 16) (d : Fin 16) (m : AddrMode) (s : State) : Outcome.Keeps 1207993036 s (execLdd e d m s) := by
  have h0 := Keeps.refl 1207993036 s
  unfold execLdd
  try dsimp only
  repeat' (first
    | with_reducible apply Outcome.Keeps.next
    | intro _
    | with_reducible assumption
    | ((with_reducible apply pairD_keeps); exact rfl)
    | ((with_reducible apply Keeps.step (withWords_keeps ..)); exact rfl)
    | fail_if_no_progress dsimp only)

theorem execLdacc_keeps (e : Fin 16) (a : Fin 4) (m : AddrMode) (s : State) : Outcome.Keeps 1207993036 s (execLdacc e a m s) := by
  have h0 := Keeps.refl 1207993036 s
  unfold execLdacc
  try dsimp only
  repeat' (first
    | with_reducible apply Outcome.Keeps.next
    | intro _
    | with_reducible assumption
    | ((with_reducible apply Keeps.step (withWords_keeps ..)); exact rfl)
    | fail_if_no_progress dsimp only)

theorem storeWords_keeps (e : Fin 16) (m : AddrMode) (l : Engine → List W16) (s : State) : Keeps 1214284508 s (storeWords e m l s) := by
  have h0 := Keeps.refl 1214284508 s
  unfold storeWords
  try dsimp only
  repeat' (first
    | intro _
    | with_reducible assumption
    | ((with_reducible apply Keeps.step (dataStore_keeps ..)); exact rfl)
    | ((with_reducible apply engExec_keeps); exact rfl)
    | ((with_reducible apply Keeps.step (engSet_keeps ..)); exact rfl)
    | fail_if_no_progress dsimp only)

theorem execSt_keeps (e : Fin 16) (d : Fin 16) (m : AddrMode) (s : State) : Outcome.Keeps 1214284508 s (execSt e d m s) := by
  have h0 := Keeps.refl 1214284508 s
  unfold execSt
  try dsimp only
  repeat' (first
    | with_reducible apply Outcome.Keeps.next
    | intro _
    | with_reducible assumption
    | ((with_reducible apply Keeps.step (storeWords_keeps ..)); exact rfl)
    | fail_if_no_progress dsimp only)

theorem execStd_keeps (e : Fin 16) (d : Fin 16) (m : AddrMode) (s : State) : Outcome.Keeps 1214284508 s (execStd e d m s) := by
  have h0 := Keeps.refl 1214284508 s
  unfold execStd
  try dsimp only
  repeat' (first
    | with_reducible apply Outcome.Keeps.next
    | intro _
    | with_reducible assumption
    | ((with_reducible apply pairD_keeps); exact rfl)
    | ((with_reducible apply Keeps.step (storeWords_keeps ..)); exact rfl)
    | fail_if_no_progress dsimp only)

theorem execStacc_keeps (e : Fin 16) (a : Fin 4) (m : AddrMode) (s : State) : Outcome.Keeps 1214284508 s (execStacc e a m s) := by
  have h0 := Keeps.refl 1214284508 s
  unfold execStacc
  try dsimp only
  repeat' (first
    | with_reducible apply Outcome.Keeps.next
    | intro _
    | with_reducible assumption
    | ((with_reducible apply Keeps.step (storeWords_keeps ..)); exact rfl)
    | fail_if_no_progress dsimp only)

theorem execInPort_keeps (e : Fin 16) (d : Fin 16) (port : PortRef) (s : State) : Outcome.Keeps 1207993036 s (execInPort e d port s) := by
  have h0 := Keeps.refl 1207993036 s
  unfold execInPort
  try dsimp only
  repeat' (first
    | with_reducible apply Outcome.Keeps.next
    | intro _
    | with_reducible assumption
    | ((with_reducible apply engExec_keeps); exact rfl)
    | ((with_reducible apply Keeps.step (withPort_keeps ..)); exact rfl)
    | fail_if_no_progress dsimp only)

theorem execInh_keeps (e : Fin 16) (d : Fin 16) (port : PortRef) (s : State) : Outcome.Keeps 1207993036 s (execInh e d port s) := by
  have h0 := Keeps.refl 1207993036 s
  unfold execInh
  try dsimp only
  repeat' (first
    | with_reducible apply Outcome.Keeps.next
    | intro _
    | with_reducible assumption
    | ((with_reducible apply engExec_keeps); exact rfl)
    | ((with_reducible apply Keeps.step (withPort_keeps ..)); exact rfl)
    | fail_if_no_progress dsimp only)

theorem execInd_keeps (e : Fin 16) (d : Fin 16) (port : PortRef) (s : State) : Outcome.Keeps 1207993036 s (execInd e d port s) := by
  have h0 := Keeps.refl 1207993036 s
  unfold execInd
  try dsimp only
  repeat' (first
    | with_reducible apply Outcome.Keeps.next
    | intro _
    | with_reducible assumption
    | ((with_reducible apply Keeps.step (State.setPair_keeps ..)); exact rfl)
    | ((with_reducible apply evenD_keeps); exact rfl)
    | ((with_reducible apply Keeps.step (withPort_keeps ..)); exact rfl)
    | fail_if_no_progress dsimp only)

theorem inwTake_keeps (e : Nat) (d : Fin 16) (p : Nat) (s : State) : Keeps 1207993036 s (inwTake e d p s) := by
  have h0 := Keeps.refl 1207993036 s
  unfold inwTake
  try dsimp only
  repeat' (first
    | intro _
    | with_reducible assumption
    | ((with_reducible apply Keeps.step (State.setPair_keeps ..)); exact rfl)
    | ((with_reducible apply Keeps.step (withPort_keeps ..)); exact rfl)
    | fail_if_no_progress dsimp only)

theorem execInw_keeps (e : Fin 16) (d : Fin 16) (port : PortRef) (s : State) : Outcome.Keeps 1207993036 s (execInw e d port s) := by
  have h0 := Keeps.refl 1207993036 s
  unfold execInw
  try dsimp only
  repeat' (first
    | with_reducible apply Outcome.Keeps.next
    | with_reducible apply Outcome.Keeps.ite
    | with_reducible apply Keeps.ite
    | with_reducible apply Keeps.iteFst
    | with_reducible apply Keeps.iteSnd
    | intro _
    | with_reducible assumption
    | ((with_reducible apply Keeps.step (engSet_keeps ..)); exact rfl)
    | ((with_reducible apply evenD_keeps); exact rfl)
    | ((with_reducible apply Keeps.step (inwTake_keeps ..)); exact rfl)
    | fail_if_no_progress dsimp only)

theorem execInwComplete_keeps (e : Fin 16) (t : Instant) (s : State) : Outcome.Keeps 1207993037 s (execInwComplete e t s) := by
  have h0 := Keeps.refl 1207993037 s
  unfold execInwComplete
  try dsimp only
  repeat' (first
    | with_reducible apply Outcome.Keeps.next
    | with_reducible apply Outcome.Keeps.ite
    | with_reducible apply Keeps.ite
    | with_reducible apply Keeps.iteFst
    | with_reducible apply Keeps.iteSnd
    | intro _
    | with_reducible assumption
    | ((with_reducible apply Keeps.step (State.advance_keeps ..)); exact rfl)
    | ((with_reducible apply Keeps.step (inwTake_keeps ..)); exact rfl)
    | split
    | fail_if_no_progress dsimp only)

theorem execOut_keeps (e : Fin 16) (d : Fin 16) (port : PortRef) (s : State) : Outcome.Keeps 1207993036 s (execOut e d port s) := by
  have h0 := Keeps.refl 1207993036 s
  unfold execOut
  try dsimp only
  repeat' (first
    | with_reducible apply Outcome.Keeps.next
    | intro _
    | with_reducible assumption
    | ((with_reducible apply engExec_keeps); exact rfl)
    | ((with_reducible apply Keeps.step (portWrite_keeps ..)); exact rfl)
    | fail_if_no_progress dsimp only)

theorem execOutd_keeps (e : Fin 16) (d : Fin 16) (port : PortRef) (s : State) : Outcome.Keeps 1207993036 s (execOutd e d port s) := by
  have h0 := Keeps.refl 1207993036 s
  unfold execOutd
  try dsimp only
  repeat' (first
    | with_reducible apply Outcome.Keeps.next
    | intro _
    | with_reducible assumption
    | ((with_reducible apply evenD_keeps); exact rfl)
    | ((with_reducible apply Keeps.step (portWrite_keeps ..)); exact rfl)
    | fail_if_no_progress dsimp only)

theorem execOuta_keeps (e : Fin 16) (a : Fin 4) (port : PortRef) (s : State) : Outcome.Keeps 1207993036 s (execOuta e a port s) := by
  have h0 := Keeps.refl 1207993036 s
  unfold execOuta
  try dsimp only
  repeat' (first
    | with_reducible apply Outcome.Keeps.next
    | intro _
    | with_reducible assumption
    | ((with_reducible apply engExec_keeps); exact rfl)
    | ((with_reducible apply Keeps.step (portWrite_keeps ..)); exact rfl)
    | fail_if_no_progress dsimp only)

theorem execPortQueueRoom_keeps (e : Fin 16) (t : Instant) (s : State) : Outcome.Keeps 65 s (execPortQueueRoom e t s) := by
  have h0 := Keeps.refl 65 s
  unfold execPortQueueRoom
  try dsimp only
  repeat' (first
    | with_reducible apply Outcome.Keeps.next
    | with_reducible apply Outcome.Keeps.ite
    | with_reducible apply Keeps.ite
    | with_reducible apply Keeps.iteFst
    | with_reducible apply Keeps.iteSnd
    | intro _
    | with_reducible assumption
    | ((with_reducible apply Keeps.step (State.advance_keeps ..)); exact rfl)
    | ((with_reducible apply Keeps.step (State.setEngine_keeps ..)); exact rfl)
    | split
    | fail_if_no_progress dsimp only)

theorem deliverAt_keeps (e : Nat) (t : Instant) (w : PortWrite) (s : State) : Keeps 6815996 s (deliverAt e t w s) := by
  have h0 := Keeps.refl 6815996 s
  unfold deliverAt
  try dsimp only
  repeat' (first
    | intro _
    | with_reducible assumption
    | ((with_reducible apply Keeps.step (deliver_keeps ..)); exact rfl)
    | ((with_reducible apply Keeps.step (takePlace_keeps ..)); exact rfl)
    | fail_if_no_progress dsimp only)

theorem execAtadd_keeps (e : Fin 16) (d : Fin 16) (port : PortRef) (s : State) : Outcome.Keeps 1214808829 s (execAtadd e d port s) := by
  have h0 := Keeps.refl 1214808829 s
  unfold execAtadd
  try dsimp only
  repeat' (first
    | with_reducible apply Outcome.Keeps.next
    | with_reducible apply Outcome.Keeps.ite
    | with_reducible apply Keeps.ite
    | with_reducible apply Keeps.iteFst
    | with_reducible apply Keeps.iteSnd
    | intro _
    | with_reducible assumption
    | ((with_reducible apply Keeps.step (State.advance_keeps ..)); exact rfl)
    | ((with_reducible apply Keeps.step (deliverAt_keeps ..)); exact rfl)
    | ((with_reducible apply Keeps.step (engSet_keeps ..)); exact rfl)
    | ((with_reducible apply Keeps.step (engTrap_keeps ..)); exact rfl)
    | ((with_reducible apply evenD_keeps); exact rfl)
    | ((with_reducible apply Keeps.step (portRead_keeps ..)); exact rfl)
    | with_reducible apply Keeps.foldl
    | with_reducible apply Keeps.foldlFst
    | with_reducible apply Keeps.foldlSnd
    | split
    | fail_if_no_progress dsimp only)

theorem execWaitp_keeps (e : Fin 16) (d : Fin 16) (port : PortRef) (cond : BitVec 4) (s : State) : Outcome.Keeps 1207993036 s (execWaitp e d port cond s) := by
  have h0 := Keeps.refl 1207993036 s
  unfold execWaitp
  try dsimp only
  repeat' (first
    | with_reducible apply Outcome.Keeps.next
    | with_reducible apply Outcome.Keeps.ite
    | with_reducible apply Keeps.ite
    | with_reducible apply Keeps.iteFst
    | with_reducible apply Keeps.iteSnd
    | intro _
    | with_reducible assumption
    | ((with_reducible apply engExec_keeps); exact rfl)
    | ((with_reducible apply Keeps.step (engSet_keeps ..)); exact rfl)
    | ((with_reducible apply Keeps.step (engTrap_keeps ..)); exact rfl)
    | ((with_reducible apply needs_keeps); exact rfl)
    | ((with_reducible apply Keeps.step (portRead_keeps ..)); exact rfl)
    | split
    | fail_if_no_progress dsimp only)

theorem execWaitpComplete_keeps (e : Fin 16) (t : Instant) (s : State) : Outcome.Keeps 1207993037 s (execWaitpComplete e t s) := by
  have h0 := Keeps.refl 1207993037 s
  unfold execWaitpComplete
  try dsimp only
  repeat' (first
    | with_reducible apply Outcome.Keeps.next
    | with_reducible apply Outcome.Keeps.ite
    | with_reducible apply Keeps.ite
    | with_reducible apply Keeps.iteFst
    | with_reducible apply Keeps.iteSnd
    | intro _
    | with_reducible assumption
    | ((with_reducible apply Keeps.step (State.advance_keeps ..)); exact rfl)
    | ((with_reducible apply Keeps.step (engSet_keeps ..)); exact rfl)
    | ((with_reducible apply Keeps.step (engTrap_keeps ..)); exact rfl)
    | ((with_reducible apply Keeps.step (portRead_keeps ..)); exact rfl)
    | split
    | fail_if_no_progress dsimp only)

theorem execBranch_keeps (e : Fin 16) (cond : BitVec 4) (target : BitVec 13) (s : State) : Outcome.Keeps 1207993036 s (execBranch e cond target s) := by
  have h0 := Keeps.refl 1207993036 s
  unfold execBranch
  try dsimp only
  repeat' (first
    | with_reducible apply Outcome.Keeps.next
    | with_reducible apply Outcome.Keeps.ite
    | with_reducible apply Keeps.ite
    | with_reducible apply Keeps.iteFst
    | with_reducible apply Keeps.iteSnd
    | intro _
    | with_reducible assumption
    | ((with_reducible apply engExec_keeps); exact rfl)
    | ((with_reducible apply Keeps.step (engSet_keeps ..)); exact rfl)
    | ((with_reducible apply needs_keeps); exact rfl)
    | fail_if_no_progress dsimp only)

theorem execCall_keeps (e : Fin 16) (target : BitVec 13) (s : State) : Outcome.Keeps 1207993036 s (execCall e target s) := by
  have h0 := Keeps.refl 1207993036 s
  unfold execCall
  try dsimp only
  repeat' (first
    | with_reducible apply Outcome.Keeps.next
    | with_reducible apply Outcome.Keeps.ite
    | with_reducible apply Keeps.ite
    | with_reducible apply Keeps.iteFst
    | with_reducible apply Keeps.iteSnd
    | intro _
    | with_reducible assumption
    | ((with_reducible apply engExec_keeps); exact rfl)
    | ((with_reducible apply Keeps.step (engSet_keeps ..)); exact rfl)
    | ((with_reducible apply Keeps.step (engTrap_keeps ..)); exact rfl)
    | fail_if_no_progress dsimp only)

theorem execRet_keeps (e : Fin 16) (s : State) : Outcome.Keeps 1207993036 s (execRet e s) := by
  have h0 := Keeps.refl 1207993036 s
  unfold execRet
  try dsimp only
  repeat' (first
    | with_reducible apply Outcome.Keeps.next
    | intro _
    | with_reducible assumption
    | ((with_reducible apply engExec_keeps); exact rfl)
    | ((with_reducible apply Keeps.step (engSet_keeps ..)); exact rfl)
    | ((with_reducible apply Keeps.step (engTrap_keeps ..)); exact rfl)
    | split
    | fail_if_no_progress dsimp only)

theorem execLoop_keeps (e : Fin 16) (n : BitVec 9) (target : BitVec 13) (s : State) : Outcome.Keeps 1207993036 s (execLoop e n target s) := by
  have h0 := Keeps.refl 1207993036 s
  unfold execLoop
  try dsimp only
  repeat' (first
    | with_reducible apply Outcome.Keeps.next
    | with_reducible apply Outcome.Keeps.ite
    | with_reducible apply Keeps.ite
    | with_reducible apply Keeps.iteFst
    | with_reducible apply Keeps.iteSnd
    | intro _
    | with_reducible assumption
    | ((with_reducible apply engExec_keeps); exact rfl)
    | ((with_reducible apply Keeps.step (engSet_keeps ..)); exact rfl)
    | ((with_reducible apply Keeps.step (engTrap_keeps ..)); exact rfl)
    | fail_if_no_progress dsimp only)

theorem execFence_keeps (e : Fin 16) (s : State) : Outcome.Keeps 1207993036 s (execFence e s) := by
  have h0 := Keeps.refl 1207993036 s
  unfold execFence
  try dsimp only
  repeat' (first
    | with_reducible apply Outcome.Keeps.next
    | with_reducible apply Outcome.Keeps.ite
    | with_reducible apply Keeps.ite
    | with_reducible apply Keeps.iteFst
    | with_reducible apply Keeps.iteSnd
    | intro _
    | with_reducible assumption
    | ((with_reducible apply engExec_keeps); exact rfl)
    | ((with_reducible apply Keeps.step (engSet_keeps ..)); exact rfl)
    | fail_if_no_progress dsimp only)

theorem execFenceComplete_keeps (e : Fin 16) (t : Instant) (s : State) : Outcome.Keeps 65 s (execFenceComplete e t s) := by
  have h0 := Keeps.refl 65 s
  unfold execFenceComplete
  try dsimp only
  repeat' (first
    | with_reducible apply Outcome.Keeps.next
    | with_reducible apply Outcome.Keeps.ite
    | with_reducible apply Keeps.ite
    | with_reducible apply Keeps.iteFst
    | with_reducible apply Keeps.iteSnd
    | intro _
    | with_reducible assumption
    | ((with_reducible apply Keeps.step (State.advance_keeps ..)); exact rfl)
    | ((with_reducible apply Keeps.step (engSet_keeps ..)); exact rfl)
    | fail_if_no_progress dsimp only)

theorem execEndCycle_keeps (e : Fin 16) (s : State) : Outcome.Keeps 1207993036 s (execEndCycle e s) := by
  have h0 := Keeps.refl 1207993036 s
  unfold execEndCycle
  try dsimp only
  repeat' (first
    | with_reducible apply Outcome.Keeps.next
    | intro _
    | with_reducible assumption
    | ((with_reducible apply engExec_keeps); exact rfl)
    | ((with_reducible apply Keeps.step (engSet_keeps ..)); exact rfl)
    | fail_if_no_progress dsimp only)

theorem execNop_keeps (e : Fin 16) (s : State) : Outcome.Keeps 1207993036 s (execNop e s) := by
  have h0 := Keeps.refl 1207993036 s
  unfold execNop
  try dsimp only
  repeat' (first
    | with_reducible apply Outcome.Keeps.next
    | intro _
    | with_reducible assumption
    | ((with_reducible apply Keeps.step (regOp_keeps ..)); exact rfl)
    | fail_if_no_progress dsimp only)

theorem execTrap_keeps (e : Fin 16) (code : BitVec 8) (s : State) : Outcome.Keeps 1207993036 s (execTrap e code s) := by
  have h0 := Keeps.refl 1207993036 s
  unfold execTrap
  try dsimp only
  repeat' (first
    | with_reducible apply Outcome.Keeps.next
    | with_reducible apply Outcome.Keeps.ite
    | with_reducible apply Keeps.ite
    | with_reducible apply Keeps.iteFst
    | with_reducible apply Keeps.iteSnd
    | intro _
    | with_reducible assumption
    | ((with_reducible apply engExec_keeps); exact rfl)
    | ((with_reducible apply Keeps.step (engTrap_keeps ..)); exact rfl)
    | fail_if_no_progress dsimp only)

theorem execIllegalInstruction_keeps (e : Fin 16) (w : BitVec 32) (s : State) : Outcome.Keeps 1207993036 s (execIllegalInstruction e w s) := by
  have h0 := Keeps.refl 1207993036 s
  unfold execIllegalInstruction
  try dsimp only
  repeat' (first
    | with_reducible apply Outcome.Keeps.next
    | intro _
    | with_reducible assumption
    | ((with_reducible apply engExec_keeps); exact rfl)
    | ((with_reducible apply Keeps.step (engTrap_keeps ..)); exact rfl)
    | split
    | fail_if_no_progress dsimp only)

theorem execPortWriteDeliver_keeps (e : Fin 16) (fabric : Bool) (t : Instant) (s : State) : Outcome.Keeps 6815997 s (execPortWriteDeliver e fabric t s) := by
  have h0 := Keeps.refl 6815997 s
  unfold execPortWriteDeliver
  try dsimp only
  repeat' (first
    | with_reducible apply Outcome.Keeps.next
    | with_reducible apply Outcome.Keeps.ite
    | with_reducible apply Keeps.ite
    | with_reducible apply Keeps.iteFst
    | with_reducible apply Keeps.iteSnd
    | intro _
    | with_reducible assumption
    | ((with_reducible apply Keeps.step (State.advance_keeps ..)); exact rfl)
    | ((with_reducible apply Keeps.step (deliverAt_keeps ..)); exact rfl)
    | ((with_reducible apply Keeps.step (engSet_keeps ..)); exact rfl)
    | with_reducible apply Keeps.foldl
    | with_reducible apply Keeps.foldlFst
    | with_reducible apply Keeps.foldlSnd
    | split
    | (fail_if_no_progress with_reducible apply Keeps.update) <;> first | ((with_reducible apply Or.inr); with_reducible rfl) | ((with_reducible apply Or.inl); first | exact rfl) | skip
    | fail_if_no_progress dsimp only)

theorem execLoadAll_keeps (e : Fin 16) (mask : BitVec 8) (s : State) : Outcome.Keeps 6815997 s (execLoadAll e mask s) := by
  have h0 := Keeps.refl 6815997 s
  unfold execLoadAll
  try dsimp only
  repeat' (first
    | with_reducible apply Outcome.Keeps.next
    | with_reducible apply Outcome.Keeps.ite
    | with_reducible apply Keeps.ite
    | with_reducible apply Keeps.iteFst
    | with_reducible apply Keeps.iteSnd
    | intro _
    | with_reducible assumption
    | ((with_reducible apply Keeps.step (State.advance_keeps ..)); exact rfl)
    | ((with_reducible apply Keeps.step (deliverAt_keeps ..)); exact rfl)
    | ((with_reducible apply Keeps.step (engSet_keeps ..)); exact rfl)
    | with_reducible apply Keeps.foldl
    | with_reducible apply Keeps.foldlFst
    | with_reducible apply Keeps.foldlSnd
    | fail_if_no_progress dsimp only)

end Sys2Proof.Machine
end

