-- ==== Sys2Proof/Laws/State.lean ====
section
/-!
SUPPORT. The updates of the state: what each leaves of every field, so that no later proof unfolds a record update.
-/

namespace Sys2Proof.Machine

variable (s : State)

/-! ## setReg -/
@[simp] theorem setReg_pending (k v : Nat) : (s.setReg k v).pending = s.pending := rfl
@[simp] theorem setReg_now (k v : Nat) : (s.setReg k v).now = s.now := rfl
@[simp] theorem setReg_epoch (k v : Nat) : (s.setReg k v).epoch = s.epoch := rfl
@[simp] theorem setReg_free (k v : Nat) : (s.setReg k v).free = s.free := rfl
@[simp] theorem setReg_mem (k v : Nat) : (s.setReg k v).mem = s.mem := rfl
@[simp] theorem setReg_portSerial (k v : Nat) : (s.setReg k v).portSerial = s.portSerial := rfl
@[simp] theorem setReg_serial (k v : Nat) : (s.setReg k v).serial = s.serial := rfl
@[simp] theorem setReg_engines (k v : Nat) : (s.setReg k v).engines = s.engines := rfl
@[simp] theorem setReg_pwm (k v : Nat) : (s.setReg k v).pwm = s.pwm := rfl
@[simp] theorem setReg_alarms (k v : Nat) : (s.setReg k v).alarms = s.alarms := rfl
@[simp] theorem setReg_lanes (k v : Nat) : (s.setReg k v).lanes = s.lanes := rfl
@[simp] theorem setReg_lds (k v : Nat) : (s.setReg k v).lds = s.lds := rfl
@[simp] theorem setReg_sds (k v : Nat) : (s.setReg k v).sds = s.sds := rfl
@[simp] theorem setReg_phase (k v : Nat) : (s.setReg k v).phase = s.phase := rfl
@[simp] theorem setReg_holds (k v : Nat) : (s.setReg k v).holds = s.holds := rfl
@[simp] theorem setReg_arming (k v : Nat) : (s.setReg k v).arming = s.arming := rfl
@[simp] theorem setReg_law (k v : Nat) : (s.setReg k v).law = s.law := rfl
@[simp] theorem setReg_cad (k v : Nat) : (s.setReg k v).cad = s.cad := rfl
@[simp] theorem setReg_words (k v : Nat) : (s.setReg k v).words = s.words := rfl
@[simp] theorem setReg_mram (k v : Nat) : (s.setReg k v).mram = s.mram := rfl
@[simp] theorem setReg_adc (k v : Nat) : (s.setReg k v).adc = s.adc := rfl
@[simp] theorem setReg_filt (k v : Nat) : (s.setReg k v).filt = s.filt := rfl
@[simp] theorem setReg_memo (k v : Nat) : (s.setReg k v).memo = s.memo := rfl
@[simp] theorem setReg_recs (k v : Nat) : (s.setReg k v).recs = s.recs := rfl
@[simp] theorem setReg_tb (k v : Nat) : (s.setReg k v).tb = s.tb := rfl
@[simp] theorem setReg_clk (k v : Nat) : (s.setReg k v).clk = s.clk := rfl
@[simp] theorem setReg_ptp (k v : Nat) : (s.setReg k v).ptp = s.ptp := rfl
@[simp] theorem setReg_sup (k v : Nat) : (s.setReg k v).sup = s.sup := rfl
@[simp] theorem setReg_pair (k v : Nat) : (s.setReg k v).pair = s.pair := rfl
@[simp] theorem setReg_net (k v : Nat) : (s.setReg k v).net = s.net := rfl
@[simp] theorem setReg_bootInfo (k v : Nat) : (s.setReg k v).bootInfo = s.bootInfo := rfl
@[simp] theorem setReg_outs (k v : Nat) : (s.setReg k v).outs = s.outs := rfl
@[simp] theorem setReg_engine (k v : Nat) (j : Nat) : (s.setReg k v).engine j = s.engine j := rfl

/-! ## useFree -/
@[simp] theorem useFree_pending : (s.useFree).pending = s.pending := rfl
@[simp] theorem useFree_now : (s.useFree).now = s.now := rfl
@[simp] theorem useFree_epoch : (s.useFree).epoch = s.epoch := rfl
@[simp] theorem useFree_regs : (s.useFree).regs = s.regs := rfl
@[simp] theorem useFree_mem : (s.useFree).mem = s.mem := rfl
@[simp] theorem useFree_portSerial : (s.useFree).portSerial = s.portSerial := rfl
@[simp] theorem useFree_serial : (s.useFree).serial = s.serial := rfl
@[simp] theorem useFree_engines : (s.useFree).engines = s.engines := rfl
@[simp] theorem useFree_pwm : (s.useFree).pwm = s.pwm := rfl
@[simp] theorem useFree_alarms : (s.useFree).alarms = s.alarms := rfl
@[simp] theorem useFree_lanes : (s.useFree).lanes = s.lanes := rfl
@[simp] theorem useFree_lds : (s.useFree).lds = s.lds := rfl
@[simp] theorem useFree_sds : (s.useFree).sds = s.sds := rfl
@[simp] theorem useFree_phase : (s.useFree).phase = s.phase := rfl
@[simp] theorem useFree_holds : (s.useFree).holds = s.holds := rfl
@[simp] theorem useFree_arming : (s.useFree).arming = s.arming := rfl
@[simp] theorem useFree_law : (s.useFree).law = s.law := rfl
@[simp] theorem useFree_cad : (s.useFree).cad = s.cad := rfl
@[simp] theorem useFree_words : (s.useFree).words = s.words := rfl
@[simp] theorem useFree_mram : (s.useFree).mram = s.mram := rfl
@[simp] theorem useFree_adc : (s.useFree).adc = s.adc := rfl
@[simp] theorem useFree_filt : (s.useFree).filt = s.filt := rfl
@[simp] theorem useFree_memo : (s.useFree).memo = s.memo := rfl
@[simp] theorem useFree_recs : (s.useFree).recs = s.recs := rfl
@[simp] theorem useFree_tb : (s.useFree).tb = s.tb := rfl
@[simp] theorem useFree_clk : (s.useFree).clk = s.clk := rfl
@[simp] theorem useFree_ptp : (s.useFree).ptp = s.ptp := rfl
@[simp] theorem useFree_sup : (s.useFree).sup = s.sup := rfl
@[simp] theorem useFree_pair : (s.useFree).pair = s.pair := rfl
@[simp] theorem useFree_net : (s.useFree).net = s.net := rfl
@[simp] theorem useFree_bootInfo : (s.useFree).bootInfo = s.bootInfo := rfl
@[simp] theorem useFree_outs : (s.useFree).outs = s.outs := rfl
@[simp] theorem useFree_reg (j : Nat) : (s.useFree).reg j = s.reg j := rfl
@[simp] theorem useFree_engine (j : Nat) : (s.useFree).engine j = s.engine j := rfl

/-! ## advance -/
@[simp] theorem advance_pending (t : Instant) : (s.advance t).pending = s.pending := rfl
@[simp] theorem advance_epoch (t : Instant) : (s.advance t).epoch = s.epoch := rfl
@[simp] theorem advance_free (t : Instant) : (s.advance t).free = s.free := rfl
@[simp] theorem advance_regs (t : Instant) : (s.advance t).regs = s.regs := rfl
@[simp] theorem advance_mem (t : Instant) : (s.advance t).mem = s.mem := rfl
@[simp] theorem advance_portSerial (t : Instant) : (s.advance t).portSerial = s.portSerial := rfl
@[simp] theorem advance_serial (t : Instant) : (s.advance t).serial = s.serial := rfl
@[simp] theorem advance_engines (t : Instant) : (s.advance t).engines = s.engines := rfl
@[simp] theorem advance_pwm (t : Instant) : (s.advance t).pwm = s.pwm := rfl
@[simp] theorem advance_alarms (t : Instant) : (s.advance t).alarms = s.alarms := rfl
@[simp] theorem advance_lanes (t : Instant) : (s.advance t).lanes = s.lanes := rfl
@[simp] theorem advance_lds (t : Instant) : (s.advance t).lds = s.lds := rfl
@[simp] theorem advance_sds (t : Instant) : (s.advance t).sds = s.sds := rfl
@[simp] theorem advance_phase (t : Instant) : (s.advance t).phase = s.phase := rfl
@[simp] theorem advance_holds (t : Instant) : (s.advance t).holds = s.holds := rfl
@[simp] theorem advance_arming (t : Instant) : (s.advance t).arming = s.arming := rfl
@[simp] theorem advance_law (t : Instant) : (s.advance t).law = s.law := rfl
@[simp] theorem advance_cad (t : Instant) : (s.advance t).cad = s.cad := rfl
@[simp] theorem advance_words (t : Instant) : (s.advance t).words = s.words := rfl
@[simp] theorem advance_mram (t : Instant) : (s.advance t).mram = s.mram := rfl
@[simp] theorem advance_adc (t : Instant) : (s.advance t).adc = s.adc := rfl
@[simp] theorem advance_filt (t : Instant) : (s.advance t).filt = s.filt := rfl
@[simp] theorem advance_memo (t : Instant) : (s.advance t).memo = s.memo := rfl
@[simp] theorem advance_recs (t : Instant) : (s.advance t).recs = s.recs := rfl
@[simp] theorem advance_tb (t : Instant) : (s.advance t).tb = s.tb := rfl
@[simp] theorem advance_clk (t : Instant) : (s.advance t).clk = s.clk := rfl
@[simp] theorem advance_ptp (t : Instant) : (s.advance t).ptp = s.ptp := rfl
@[simp] theorem advance_sup (t : Instant) : (s.advance t).sup = s.sup := rfl
@[simp] theorem advance_pair (t : Instant) : (s.advance t).pair = s.pair := rfl
@[simp] theorem advance_net (t : Instant) : (s.advance t).net = s.net := rfl
@[simp] theorem advance_bootInfo (t : Instant) : (s.advance t).bootInfo = s.bootInfo := rfl
@[simp] theorem advance_outs (t : Instant) : (s.advance t).outs = s.outs := rfl
@[simp] theorem advance_reg (t : Instant) (j : Nat) : (s.advance t).reg j = s.reg j := rfl
@[simp] theorem advance_engine (t : Instant) (j : Nat) : (s.advance t).engine j = s.engine j := rfl

/-! ## emit -/
@[simp] theorem emit_pending (o : Out) : (s.emit o).pending = s.pending := rfl
@[simp] theorem emit_now (o : Out) : (s.emit o).now = s.now := rfl
@[simp] theorem emit_epoch (o : Out) : (s.emit o).epoch = s.epoch := rfl
@[simp] theorem emit_free (o : Out) : (s.emit o).free = s.free := rfl
@[simp] theorem emit_regs (o : Out) : (s.emit o).regs = s.regs := rfl
@[simp] theorem emit_mem (o : Out) : (s.emit o).mem = s.mem := rfl
@[simp] theorem emit_portSerial (o : Out) : (s.emit o).portSerial = s.portSerial := rfl
@[simp] theorem emit_serial (o : Out) : (s.emit o).serial = s.serial := rfl
@[simp] theorem emit_engines (o : Out) : (s.emit o).engines = s.engines := rfl
@[simp] theorem emit_pwm (o : Out) : (s.emit o).pwm = s.pwm := rfl
@[simp] theorem emit_alarms (o : Out) : (s.emit o).alarms = s.alarms := rfl
@[simp] theorem emit_lanes (o : Out) : (s.emit o).lanes = s.lanes := rfl
@[simp] theorem emit_lds (o : Out) : (s.emit o).lds = s.lds := rfl
@[simp] theorem emit_sds (o : Out) : (s.emit o).sds = s.sds := rfl
@[simp] theorem emit_phase (o : Out) : (s.emit o).phase = s.phase := rfl
@[simp] theorem emit_holds (o : Out) : (s.emit o).holds = s.holds := rfl
@[simp] theorem emit_arming (o : Out) : (s.emit o).arming = s.arming := rfl
@[simp] theorem emit_law (o : Out) : (s.emit o).law = s.law := rfl
@[simp] theorem emit_cad (o : Out) : (s.emit o).cad = s.cad := rfl
@[simp] theorem emit_words (o : Out) : (s.emit o).words = s.words := rfl
@[simp] theorem emit_mram (o : Out) : (s.emit o).mram = s.mram := rfl
@[simp] theorem emit_adc (o : Out) : (s.emit o).adc = s.adc := rfl
@[simp] theorem emit_filt (o : Out) : (s.emit o).filt = s.filt := rfl
@[simp] theorem emit_memo (o : Out) : (s.emit o).memo = s.memo := rfl
@[simp] theorem emit_recs (o : Out) : (s.emit o).recs = s.recs := rfl
@[simp] theorem emit_tb (o : Out) : (s.emit o).tb = s.tb := rfl
@[simp] theorem emit_clk (o : Out) : (s.emit o).clk = s.clk := rfl
@[simp] theorem emit_ptp (o : Out) : (s.emit o).ptp = s.ptp := rfl
@[simp] theorem emit_sup (o : Out) : (s.emit o).sup = s.sup := rfl
@[simp] theorem emit_pair (o : Out) : (s.emit o).pair = s.pair := rfl
@[simp] theorem emit_net (o : Out) : (s.emit o).net = s.net := rfl
@[simp] theorem emit_bootInfo (o : Out) : (s.emit o).bootInfo = s.bootInfo := rfl
@[simp] theorem emit_reg (o : Out) (j : Nat) : (s.emit o).reg j = s.reg j := rfl
@[simp] theorem emit_engine (o : Out) (j : Nat) : (s.emit o).engine j = s.engine j := rfl

/-! ## portWritten -/
@[simp] theorem portWritten_pending (p : Nat) : (s.portWritten p).pending = s.pending := rfl
@[simp] theorem portWritten_now (p : Nat) : (s.portWritten p).now = s.now := rfl
@[simp] theorem portWritten_epoch (p : Nat) : (s.portWritten p).epoch = s.epoch := rfl
@[simp] theorem portWritten_free (p : Nat) : (s.portWritten p).free = s.free := rfl
@[simp] theorem portWritten_regs (p : Nat) : (s.portWritten p).regs = s.regs := rfl
@[simp] theorem portWritten_mem (p : Nat) : (s.portWritten p).mem = s.mem := rfl
@[simp] theorem portWritten_engines (p : Nat) : (s.portWritten p).engines = s.engines := rfl
@[simp] theorem portWritten_pwm (p : Nat) : (s.portWritten p).pwm = s.pwm := rfl
@[simp] theorem portWritten_alarms (p : Nat) : (s.portWritten p).alarms = s.alarms := rfl
@[simp] theorem portWritten_lanes (p : Nat) : (s.portWritten p).lanes = s.lanes := rfl
@[simp] theorem portWritten_lds (p : Nat) : (s.portWritten p).lds = s.lds := rfl
@[simp] theorem portWritten_sds (p : Nat) : (s.portWritten p).sds = s.sds := rfl
@[simp] theorem portWritten_phase (p : Nat) : (s.portWritten p).phase = s.phase := rfl
@[simp] theorem portWritten_holds (p : Nat) : (s.portWritten p).holds = s.holds := rfl
@[simp] theorem portWritten_arming (p : Nat) : (s.portWritten p).arming = s.arming := rfl
@[simp] theorem portWritten_law (p : Nat) : (s.portWritten p).law = s.law := rfl
@[simp] theorem portWritten_cad (p : Nat) : (s.portWritten p).cad = s.cad := rfl
@[simp] theorem portWritten_words (p : Nat) : (s.portWritten p).words = s.words := rfl
@[simp] theorem portWritten_mram (p : Nat) : (s.portWritten p).mram = s.mram := rfl
@[simp] theorem portWritten_adc (p : Nat) : (s.portWritten p).adc = s.adc := rfl
@[simp] theorem portWritten_filt (p : Nat) : (s.portWritten p).filt = s.filt := rfl
@[simp] theorem portWritten_memo (p : Nat) : (s.portWritten p).memo = s.memo := rfl
@[simp] theorem portWritten_recs (p : Nat) : (s.portWritten p).recs = s.recs := rfl
@[simp] theorem portWritten_tb (p : Nat) : (s.portWritten p).tb = s.tb := rfl
@[simp] theorem portWritten_clk (p : Nat) : (s.portWritten p).clk = s.clk := rfl
@[simp] theorem portWritten_ptp (p : Nat) : (s.portWritten p).ptp = s.ptp := rfl
@[simp] theorem portWritten_sup (p : Nat) : (s.portWritten p).sup = s.sup := rfl
@[simp] theorem portWritten_pair (p : Nat) : (s.portWritten p).pair = s.pair := rfl
@[simp] theorem portWritten_net (p : Nat) : (s.portWritten p).net = s.net := rfl
@[simp] theorem portWritten_bootInfo (p : Nat) : (s.portWritten p).bootInfo = s.bootInfo := rfl
@[simp] theorem portWritten_outs (p : Nat) : (s.portWritten p).outs = s.outs := rfl
@[simp] theorem portWritten_reg (p : Nat) (j : Nat) : (s.portWritten p).reg j = s.reg j := rfl
@[simp] theorem portWritten_engine (p : Nat) (j : Nat) : (s.portWritten p).engine j = s.engine j := rfl

/-! ## setEngine -/
@[simp] theorem setEngine_pending (e : Nat) (x : Engine) : (s.setEngine e x).pending = s.pending := rfl
@[simp] theorem setEngine_now (e : Nat) (x : Engine) : (s.setEngine e x).now = s.now := rfl
@[simp] theorem setEngine_epoch (e : Nat) (x : Engine) : (s.setEngine e x).epoch = s.epoch := rfl
@[simp] theorem setEngine_free (e : Nat) (x : Engine) : (s.setEngine e x).free = s.free := rfl
@[simp] theorem setEngine_regs (e : Nat) (x : Engine) : (s.setEngine e x).regs = s.regs := rfl
@[simp] theorem setEngine_mem (e : Nat) (x : Engine) : (s.setEngine e x).mem = s.mem := rfl
@[simp] theorem setEngine_portSerial (e : Nat) (x : Engine) : (s.setEngine e x).portSerial = s.portSerial := rfl
@[simp] theorem setEngine_serial (e : Nat) (x : Engine) : (s.setEngine e x).serial = s.serial := rfl
@[simp] theorem setEngine_pwm (e : Nat) (x : Engine) : (s.setEngine e x).pwm = s.pwm := rfl
@[simp] theorem setEngine_alarms (e : Nat) (x : Engine) : (s.setEngine e x).alarms = s.alarms := rfl
@[simp] theorem setEngine_lanes (e : Nat) (x : Engine) : (s.setEngine e x).lanes = s.lanes := rfl
@[simp] theorem setEngine_lds (e : Nat) (x : Engine) : (s.setEngine e x).lds = s.lds := rfl
@[simp] theorem setEngine_sds (e : Nat) (x : Engine) : (s.setEngine e x).sds = s.sds := rfl
@[simp] theorem setEngine_phase (e : Nat) (x : Engine) : (s.setEngine e x).phase = s.phase := rfl
@[simp] theorem setEngine_holds (e : Nat) (x : Engine) : (s.setEngine e x).holds = s.holds := rfl
@[simp] theorem setEngine_arming (e : Nat) (x : Engine) : (s.setEngine e x).arming = s.arming := rfl
@[simp] theorem setEngine_law (e : Nat) (x : Engine) : (s.setEngine e x).law = s.law := rfl
@[simp] theorem setEngine_cad (e : Nat) (x : Engine) : (s.setEngine e x).cad = s.cad := rfl
@[simp] theorem setEngine_words (e : Nat) (x : Engine) : (s.setEngine e x).words = s.words := rfl
@[simp] theorem setEngine_mram (e : Nat) (x : Engine) : (s.setEngine e x).mram = s.mram := rfl
@[simp] theorem setEngine_adc (e : Nat) (x : Engine) : (s.setEngine e x).adc = s.adc := rfl
@[simp] theorem setEngine_filt (e : Nat) (x : Engine) : (s.setEngine e x).filt = s.filt := rfl
@[simp] theorem setEngine_memo (e : Nat) (x : Engine) : (s.setEngine e x).memo = s.memo := rfl
@[simp] theorem setEngine_recs (e : Nat) (x : Engine) : (s.setEngine e x).recs = s.recs := rfl
@[simp] theorem setEngine_tb (e : Nat) (x : Engine) : (s.setEngine e x).tb = s.tb := rfl
@[simp] theorem setEngine_clk (e : Nat) (x : Engine) : (s.setEngine e x).clk = s.clk := rfl
@[simp] theorem setEngine_ptp (e : Nat) (x : Engine) : (s.setEngine e x).ptp = s.ptp := rfl
@[simp] theorem setEngine_sup (e : Nat) (x : Engine) : (s.setEngine e x).sup = s.sup := rfl
@[simp] theorem setEngine_pair (e : Nat) (x : Engine) : (s.setEngine e x).pair = s.pair := rfl
@[simp] theorem setEngine_net (e : Nat) (x : Engine) : (s.setEngine e x).net = s.net := rfl
@[simp] theorem setEngine_bootInfo (e : Nat) (x : Engine) : (s.setEngine e x).bootInfo = s.bootInfo := rfl
@[simp] theorem setEngine_outs (e : Nat) (x : Engine) : (s.setEngine e x).outs = s.outs := rfl
@[simp] theorem setEngine_reg (e : Nat) (x : Engine) (j : Nat) : (s.setEngine e x).reg j = s.reg j := rfl

/-! ## store -/
@[simp] theorem store_pending (n a v : Nat) : (s.store n a v).pending = s.pending := rfl
@[simp] theorem store_now (n a v : Nat) : (s.store n a v).now = s.now := rfl
@[simp] theorem store_epoch (n a v : Nat) : (s.store n a v).epoch = s.epoch := rfl
@[simp] theorem store_free (n a v : Nat) : (s.store n a v).free = s.free := rfl
@[simp] theorem store_regs (n a v : Nat) : (s.store n a v).regs = s.regs := rfl
@[simp] theorem store_portSerial (n a v : Nat) : (s.store n a v).portSerial = s.portSerial := rfl
@[simp] theorem store_serial (n a v : Nat) : (s.store n a v).serial = s.serial := rfl
@[simp] theorem store_engines (n a v : Nat) : (s.store n a v).engines = s.engines := rfl
@[simp] theorem store_pwm (n a v : Nat) : (s.store n a v).pwm = s.pwm := rfl
@[simp] theorem store_alarms (n a v : Nat) : (s.store n a v).alarms = s.alarms := rfl
@[simp] theorem store_lanes (n a v : Nat) : (s.store n a v).lanes = s.lanes := rfl
@[simp] theorem store_lds (n a v : Nat) : (s.store n a v).lds = s.lds := rfl
@[simp] theorem store_sds (n a v : Nat) : (s.store n a v).sds = s.sds := rfl
@[simp] theorem store_phase (n a v : Nat) : (s.store n a v).phase = s.phase := rfl
@[simp] theorem store_holds (n a v : Nat) : (s.store n a v).holds = s.holds := rfl
@[simp] theorem store_arming (n a v : Nat) : (s.store n a v).arming = s.arming := rfl
@[simp] theorem store_law (n a v : Nat) : (s.store n a v).law = s.law := rfl
@[simp] theorem store_cad (n a v : Nat) : (s.store n a v).cad = s.cad := rfl
@[simp] theorem store_words (n a v : Nat) : (s.store n a v).words = s.words := rfl
@[simp] theorem store_mram (n a v : Nat) : (s.store n a v).mram = s.mram := rfl
@[simp] theorem store_adc (n a v : Nat) : (s.store n a v).adc = s.adc := rfl
@[simp] theorem store_filt (n a v : Nat) : (s.store n a v).filt = s.filt := rfl
@[simp] theorem store_memo (n a v : Nat) : (s.store n a v).memo = s.memo := rfl
@[simp] theorem store_recs (n a v : Nat) : (s.store n a v).recs = s.recs := rfl
@[simp] theorem store_tb (n a v : Nat) : (s.store n a v).tb = s.tb := rfl
@[simp] theorem store_clk (n a v : Nat) : (s.store n a v).clk = s.clk := rfl
@[simp] theorem store_ptp (n a v : Nat) : (s.store n a v).ptp = s.ptp := rfl
@[simp] theorem store_sup (n a v : Nat) : (s.store n a v).sup = s.sup := rfl
@[simp] theorem store_pair (n a v : Nat) : (s.store n a v).pair = s.pair := rfl
@[simp] theorem store_net (n a v : Nat) : (s.store n a v).net = s.net := rfl
@[simp] theorem store_bootInfo (n a v : Nat) : (s.store n a v).bootInfo = s.bootInfo := rfl
@[simp] theorem store_outs (n a v : Nat) : (s.store n a v).outs = s.outs := rfl
@[simp] theorem store_reg (n a v : Nat) (j : Nat) : (s.store n a v).reg j = s.reg j := rfl
@[simp] theorem store_engine (n a v : Nat) (j : Nat) : (s.store n a v).engine j = s.engine j := rfl

/-! ## setDma -/
@[simp] theorem setDma_pending (c : Nat) (x : Dma) : (s.setDma c x).pending = s.pending := rfl
@[simp] theorem setDma_now (c : Nat) (x : Dma) : (s.setDma c x).now = s.now := rfl
@[simp] theorem setDma_epoch (c : Nat) (x : Dma) : (s.setDma c x).epoch = s.epoch := rfl
@[simp] theorem setDma_free (c : Nat) (x : Dma) : (s.setDma c x).free = s.free := rfl
@[simp] theorem setDma_regs (c : Nat) (x : Dma) : (s.setDma c x).regs = s.regs := rfl
@[simp] theorem setDma_mem (c : Nat) (x : Dma) : (s.setDma c x).mem = s.mem := rfl
@[simp] theorem setDma_portSerial (c : Nat) (x : Dma) : (s.setDma c x).portSerial = s.portSerial := rfl
@[simp] theorem setDma_serial (c : Nat) (x : Dma) : (s.setDma c x).serial = s.serial := rfl
@[simp] theorem setDma_engines (c : Nat) (x : Dma) : (s.setDma c x).engines = s.engines := rfl
@[simp] theorem setDma_pwm (c : Nat) (x : Dma) : (s.setDma c x).pwm = s.pwm := rfl
@[simp] theorem setDma_alarms (c : Nat) (x : Dma) : (s.setDma c x).alarms = s.alarms := rfl
@[simp] theorem setDma_lanes (c : Nat) (x : Dma) : (s.setDma c x).lanes = s.lanes := rfl
@[simp] theorem setDma_lds (c : Nat) (x : Dma) : (s.setDma c x).lds = s.lds := rfl
@[simp] theorem setDma_sds (c : Nat) (x : Dma) : (s.setDma c x).sds = s.sds := rfl
@[simp] theorem setDma_phase (c : Nat) (x : Dma) : (s.setDma c x).phase = s.phase := rfl
@[simp] theorem setDma_holds (c : Nat) (x : Dma) : (s.setDma c x).holds = s.holds := rfl
@[simp] theorem setDma_arming (c : Nat) (x : Dma) : (s.setDma c x).arming = s.arming := rfl
@[simp] theorem setDma_law (c : Nat) (x : Dma) : (s.setDma c x).law = s.law := rfl
@[simp] theorem setDma_cad (c : Nat) (x : Dma) : (s.setDma c x).cad = s.cad := rfl
@[simp] theorem setDma_words (c : Nat) (x : Dma) : (s.setDma c x).words = s.words := rfl
@[simp] theorem setDma_mram (c : Nat) (x : Dma) : (s.setDma c x).mram = s.mram := rfl
@[simp] theorem setDma_adc (c : Nat) (x : Dma) : (s.setDma c x).adc = s.adc := rfl
@[simp] theorem setDma_filt (c : Nat) (x : Dma) : (s.setDma c x).filt = s.filt := rfl
@[simp] theorem setDma_recs (c : Nat) (x : Dma) : (s.setDma c x).recs = s.recs := rfl
@[simp] theorem setDma_tb (c : Nat) (x : Dma) : (s.setDma c x).tb = s.tb := rfl
@[simp] theorem setDma_clk (c : Nat) (x : Dma) : (s.setDma c x).clk = s.clk := rfl
@[simp] theorem setDma_ptp (c : Nat) (x : Dma) : (s.setDma c x).ptp = s.ptp := rfl
@[simp] theorem setDma_sup (c : Nat) (x : Dma) : (s.setDma c x).sup = s.sup := rfl
@[simp] theorem setDma_pair (c : Nat) (x : Dma) : (s.setDma c x).pair = s.pair := rfl
@[simp] theorem setDma_net (c : Nat) (x : Dma) : (s.setDma c x).net = s.net := rfl
@[simp] theorem setDma_bootInfo (c : Nat) (x : Dma) : (s.setDma c x).bootInfo = s.bootInfo := rfl
@[simp] theorem setDma_outs (c : Nat) (x : Dma) : (s.setDma c x).outs = s.outs := rfl
@[simp] theorem setDma_reg (c : Nat) (x : Dma) (j : Nat) : (s.setDma c x).reg j = s.reg j := rfl
@[simp] theorem setDma_engine (c : Nat) (x : Dma) (j : Nat) : (s.setDma c x).engine j = s.engine j := rfl

/-! ## setAlarm -/
@[simp] theorem setAlarm_pending (n : Nat) (x : Alarm) : (s.setAlarm n x).pending = s.pending := rfl
@[simp] theorem setAlarm_now (n : Nat) (x : Alarm) : (s.setAlarm n x).now = s.now := rfl
@[simp] theorem setAlarm_epoch (n : Nat) (x : Alarm) : (s.setAlarm n x).epoch = s.epoch := rfl
@[simp] theorem setAlarm_free (n : Nat) (x : Alarm) : (s.setAlarm n x).free = s.free := rfl
@[simp] theorem setAlarm_regs (n : Nat) (x : Alarm) : (s.setAlarm n x).regs = s.regs := rfl
@[simp] theorem setAlarm_mem (n : Nat) (x : Alarm) : (s.setAlarm n x).mem = s.mem := rfl
@[simp] theorem setAlarm_portSerial (n : Nat) (x : Alarm) : (s.setAlarm n x).portSerial = s.portSerial := rfl
@[simp] theorem setAlarm_serial (n : Nat) (x : Alarm) : (s.setAlarm n x).serial = s.serial := rfl
@[simp] theorem setAlarm_engines (n : Nat) (x : Alarm) : (s.setAlarm n x).engines = s.engines := rfl
@[simp] theorem setAlarm_pwm (n : Nat) (x : Alarm) : (s.setAlarm n x).pwm = s.pwm := rfl
@[simp] theorem setAlarm_lanes (n : Nat) (x : Alarm) : (s.setAlarm n x).lanes = s.lanes := rfl
@[simp] theorem setAlarm_lds (n : Nat) (x : Alarm) : (s.setAlarm n x).lds = s.lds := rfl
@[simp] theorem setAlarm_sds (n : Nat) (x : Alarm) : (s.setAlarm n x).sds = s.sds := rfl
@[simp] theorem setAlarm_phase (n : Nat) (x : Alarm) : (s.setAlarm n x).phase = s.phase := rfl
@[simp] theorem setAlarm_holds (n : Nat) (x : Alarm) : (s.setAlarm n x).holds = s.holds := rfl
@[simp] theorem setAlarm_arming (n : Nat) (x : Alarm) : (s.setAlarm n x).arming = s.arming := rfl
@[simp] theorem setAlarm_law (n : Nat) (x : Alarm) : (s.setAlarm n x).law = s.law := rfl
@[simp] theorem setAlarm_cad (n : Nat) (x : Alarm) : (s.setAlarm n x).cad = s.cad := rfl
@[simp] theorem setAlarm_words (n : Nat) (x : Alarm) : (s.setAlarm n x).words = s.words := rfl
@[simp] theorem setAlarm_mram (n : Nat) (x : Alarm) : (s.setAlarm n x).mram = s.mram := rfl
@[simp] theorem setAlarm_adc (n : Nat) (x : Alarm) : (s.setAlarm n x).adc = s.adc := rfl
@[simp] theorem setAlarm_filt (n : Nat) (x : Alarm) : (s.setAlarm n x).filt = s.filt := rfl
@[simp] theorem setAlarm_memo (n : Nat) (x : Alarm) : (s.setAlarm n x).memo = s.memo := rfl
@[simp] theorem setAlarm_recs (n : Nat) (x : Alarm) : (s.setAlarm n x).recs = s.recs := rfl
@[simp] theorem setAlarm_tb (n : Nat) (x : Alarm) : (s.setAlarm n x).tb = s.tb := rfl
@[simp] theorem setAlarm_clk (n : Nat) (x : Alarm) : (s.setAlarm n x).clk = s.clk := rfl
@[simp] theorem setAlarm_ptp (n : Nat) (x : Alarm) : (s.setAlarm n x).ptp = s.ptp := rfl
@[simp] theorem setAlarm_sup (n : Nat) (x : Alarm) : (s.setAlarm n x).sup = s.sup := rfl
@[simp] theorem setAlarm_pair (n : Nat) (x : Alarm) : (s.setAlarm n x).pair = s.pair := rfl
@[simp] theorem setAlarm_net (n : Nat) (x : Alarm) : (s.setAlarm n x).net = s.net := rfl
@[simp] theorem setAlarm_bootInfo (n : Nat) (x : Alarm) : (s.setAlarm n x).bootInfo = s.bootInfo := rfl
@[simp] theorem setAlarm_outs (n : Nat) (x : Alarm) : (s.setAlarm n x).outs = s.outs := rfl
@[simp] theorem setAlarm_reg (n : Nat) (x : Alarm) (j : Nat) : (s.setAlarm n x).reg j = s.reg j := rfl
@[simp] theorem setAlarm_engine (n : Nat) (x : Alarm) (j : Nat) : (s.setAlarm n x).engine j = s.engine j := rfl

/-! ## setCarrier -/
@[simp] theorem setCarrier_pending (n : Nat) (x : Carrier) : (s.setCarrier n x).pending = s.pending := rfl
@[simp] theorem setCarrier_now (n : Nat) (x : Carrier) : (s.setCarrier n x).now = s.now := rfl
@[simp] theorem setCarrier_epoch (n : Nat) (x : Carrier) : (s.setCarrier n x).epoch = s.epoch := rfl
@[simp] theorem setCarrier_free (n : Nat) (x : Carrier) : (s.setCarrier n x).free = s.free := rfl
@[simp] theorem setCarrier_regs (n : Nat) (x : Carrier) : (s.setCarrier n x).regs = s.regs := rfl
@[simp] theorem setCarrier_mem (n : Nat) (x : Carrier) : (s.setCarrier n x).mem = s.mem := rfl
@[simp] theorem setCarrier_portSerial (n : Nat) (x : Carrier) : (s.setCarrier n x).portSerial = s.portSerial := rfl
@[simp] theorem setCarrier_serial (n : Nat) (x : Carrier) : (s.setCarrier n x).serial = s.serial := rfl
@[simp] theorem setCarrier_engines (n : Nat) (x : Carrier) : (s.setCarrier n x).engines = s.engines := rfl
@[simp] theorem setCarrier_alarms (n : Nat) (x : Carrier) : (s.setCarrier n x).alarms = s.alarms := rfl
@[simp] theorem setCarrier_lanes (n : Nat) (x : Carrier) : (s.setCarrier n x).lanes = s.lanes := rfl
@[simp] theorem setCarrier_lds (n : Nat) (x : Carrier) : (s.setCarrier n x).lds = s.lds := rfl
@[simp] theorem setCarrier_sds (n : Nat) (x : Carrier) : (s.setCarrier n x).sds = s.sds := rfl
@[simp] theorem setCarrier_phase (n : Nat) (x : Carrier) : (s.setCarrier n x).phase = s.phase := rfl
@[simp] theorem setCarrier_holds (n : Nat) (x : Carrier) : (s.setCarrier n x).holds = s.holds := rfl
@[simp] theorem setCarrier_arming (n : Nat) (x : Carrier) : (s.setCarrier n x).arming = s.arming := rfl
@[simp] theorem setCarrier_law (n : Nat) (x : Carrier) : (s.setCarrier n x).law = s.law := rfl
@[simp] theorem setCarrier_cad (n : Nat) (x : Carrier) : (s.setCarrier n x).cad = s.cad := rfl
@[simp] theorem setCarrier_words (n : Nat) (x : Carrier) : (s.setCarrier n x).words = s.words := rfl
@[simp] theorem setCarrier_mram (n : Nat) (x : Carrier) : (s.setCarrier n x).mram = s.mram := rfl
@[simp] theorem setCarrier_adc (n : Nat) (x : Carrier) : (s.setCarrier n x).adc = s.adc := rfl
@[simp] theorem setCarrier_filt (n : Nat) (x : Carrier) : (s.setCarrier n x).filt = s.filt := rfl
@[simp] theorem setCarrier_memo (n : Nat) (x : Carrier) : (s.setCarrier n x).memo = s.memo := rfl
@[simp] theorem setCarrier_recs (n : Nat) (x : Carrier) : (s.setCarrier n x).recs = s.recs := rfl
@[simp] theorem setCarrier_tb (n : Nat) (x : Carrier) : (s.setCarrier n x).tb = s.tb := rfl
@[simp] theorem setCarrier_clk (n : Nat) (x : Carrier) : (s.setCarrier n x).clk = s.clk := rfl
@[simp] theorem setCarrier_ptp (n : Nat) (x : Carrier) : (s.setCarrier n x).ptp = s.ptp := rfl
@[simp] theorem setCarrier_sup (n : Nat) (x : Carrier) : (s.setCarrier n x).sup = s.sup := rfl
@[simp] theorem setCarrier_pair (n : Nat) (x : Carrier) : (s.setCarrier n x).pair = s.pair := rfl
@[simp] theorem setCarrier_net (n : Nat) (x : Carrier) : (s.setCarrier n x).net = s.net := rfl
@[simp] theorem setCarrier_bootInfo (n : Nat) (x : Carrier) : (s.setCarrier n x).bootInfo = s.bootInfo := rfl
@[simp] theorem setCarrier_outs (n : Nat) (x : Carrier) : (s.setCarrier n x).outs = s.outs := rfl
@[simp] theorem setCarrier_reg (n : Nat) (x : Carrier) (j : Nat) : (s.setCarrier n x).reg j = s.reg j := rfl
@[simp] theorem setCarrier_engine (n : Nat) (x : Carrier) (j : Nat) : (s.setCarrier n x).engine j = s.engine j := rfl

/-! ## setChan -/
@[simp] theorem setChan_pending (c : Nat) (x : Chan) : (s.setChan c x).pending = s.pending := rfl
@[simp] theorem setChan_now (c : Nat) (x : Chan) : (s.setChan c x).now = s.now := rfl
@[simp] theorem setChan_epoch (c : Nat) (x : Chan) : (s.setChan c x).epoch = s.epoch := rfl
@[simp] theorem setChan_free (c : Nat) (x : Chan) : (s.setChan c x).free = s.free := rfl
@[simp] theorem setChan_regs (c : Nat) (x : Chan) : (s.setChan c x).regs = s.regs := rfl
@[simp] theorem setChan_mem (c : Nat) (x : Chan) : (s.setChan c x).mem = s.mem := rfl
@[simp] theorem setChan_portSerial (c : Nat) (x : Chan) : (s.setChan c x).portSerial = s.portSerial := rfl
@[simp] theorem setChan_serial (c : Nat) (x : Chan) : (s.setChan c x).serial = s.serial := rfl
@[simp] theorem setChan_engines (c : Nat) (x : Chan) : (s.setChan c x).engines = s.engines := rfl
@[simp] theorem setChan_alarms (c : Nat) (x : Chan) : (s.setChan c x).alarms = s.alarms := rfl
@[simp] theorem setChan_lanes (c : Nat) (x : Chan) : (s.setChan c x).lanes = s.lanes := rfl
@[simp] theorem setChan_lds (c : Nat) (x : Chan) : (s.setChan c x).lds = s.lds := rfl
@[simp] theorem setChan_sds (c : Nat) (x : Chan) : (s.setChan c x).sds = s.sds := rfl
@[simp] theorem setChan_phase (c : Nat) (x : Chan) : (s.setChan c x).phase = s.phase := rfl
@[simp] theorem setChan_holds (c : Nat) (x : Chan) : (s.setChan c x).holds = s.holds := rfl
@[simp] theorem setChan_arming (c : Nat) (x : Chan) : (s.setChan c x).arming = s.arming := rfl
@[simp] theorem setChan_law (c : Nat) (x : Chan) : (s.setChan c x).law = s.law := rfl
@[simp] theorem setChan_cad (c : Nat) (x : Chan) : (s.setChan c x).cad = s.cad := rfl
@[simp] theorem setChan_words (c : Nat) (x : Chan) : (s.setChan c x).words = s.words := rfl
@[simp] theorem setChan_mram (c : Nat) (x : Chan) : (s.setChan c x).mram = s.mram := rfl
@[simp] theorem setChan_adc (c : Nat) (x : Chan) : (s.setChan c x).adc = s.adc := rfl
@[simp] theorem setChan_filt (c : Nat) (x : Chan) : (s.setChan c x).filt = s.filt := rfl
@[simp] theorem setChan_memo (c : Nat) (x : Chan) : (s.setChan c x).memo = s.memo := rfl
@[simp] theorem setChan_recs (c : Nat) (x : Chan) : (s.setChan c x).recs = s.recs := rfl
@[simp] theorem setChan_tb (c : Nat) (x : Chan) : (s.setChan c x).tb = s.tb := rfl
@[simp] theorem setChan_clk (c : Nat) (x : Chan) : (s.setChan c x).clk = s.clk := rfl
@[simp] theorem setChan_ptp (c : Nat) (x : Chan) : (s.setChan c x).ptp = s.ptp := rfl
@[simp] theorem setChan_sup (c : Nat) (x : Chan) : (s.setChan c x).sup = s.sup := rfl
@[simp] theorem setChan_pair (c : Nat) (x : Chan) : (s.setChan c x).pair = s.pair := rfl
@[simp] theorem setChan_net (c : Nat) (x : Chan) : (s.setChan c x).net = s.net := rfl
@[simp] theorem setChan_bootInfo (c : Nat) (x : Chan) : (s.setChan c x).bootInfo = s.bootInfo := rfl
@[simp] theorem setChan_outs (c : Nat) (x : Chan) : (s.setChan c x).outs = s.outs := rfl
@[simp] theorem setChan_reg (c : Nat) (x : Chan) (j : Nat) : (s.setChan c x).reg j = s.reg j := rfl
@[simp] theorem setChan_engine (c : Nat) (x : Chan) (j : Nat) : (s.setChan c x).engine j = s.engine j := rfl

/-! ## setFl -/
@[simp] theorem setFl_pending (k : Nat) (x : Flane) : (s.setFl k x).pending = s.pending := rfl
@[simp] theorem setFl_now (k : Nat) (x : Flane) : (s.setFl k x).now = s.now := rfl
@[simp] theorem setFl_epoch (k : Nat) (x : Flane) : (s.setFl k x).epoch = s.epoch := rfl
@[simp] theorem setFl_free (k : Nat) (x : Flane) : (s.setFl k x).free = s.free := rfl
@[simp] theorem setFl_regs (k : Nat) (x : Flane) : (s.setFl k x).regs = s.regs := rfl
@[simp] theorem setFl_mem (k : Nat) (x : Flane) : (s.setFl k x).mem = s.mem := rfl
@[simp] theorem setFl_portSerial (k : Nat) (x : Flane) : (s.setFl k x).portSerial = s.portSerial := rfl
@[simp] theorem setFl_serial (k : Nat) (x : Flane) : (s.setFl k x).serial = s.serial := rfl
@[simp] theorem setFl_engines (k : Nat) (x : Flane) : (s.setFl k x).engines = s.engines := rfl
@[simp] theorem setFl_pwm (k : Nat) (x : Flane) : (s.setFl k x).pwm = s.pwm := rfl
@[simp] theorem setFl_alarms (k : Nat) (x : Flane) : (s.setFl k x).alarms = s.alarms := rfl
@[simp] theorem setFl_lanes (k : Nat) (x : Flane) : (s.setFl k x).lanes = s.lanes := rfl
@[simp] theorem setFl_lds (k : Nat) (x : Flane) : (s.setFl k x).lds = s.lds := rfl
@[simp] theorem setFl_sds (k : Nat) (x : Flane) : (s.setFl k x).sds = s.sds := rfl
@[simp] theorem setFl_phase (k : Nat) (x : Flane) : (s.setFl k x).phase = s.phase := rfl
@[simp] theorem setFl_holds (k : Nat) (x : Flane) : (s.setFl k x).holds = s.holds := rfl
@[simp] theorem setFl_arming (k : Nat) (x : Flane) : (s.setFl k x).arming = s.arming := rfl
@[simp] theorem setFl_law (k : Nat) (x : Flane) : (s.setFl k x).law = s.law := rfl
@[simp] theorem setFl_cad (k : Nat) (x : Flane) : (s.setFl k x).cad = s.cad := rfl
@[simp] theorem setFl_words (k : Nat) (x : Flane) : (s.setFl k x).words = s.words := rfl
@[simp] theorem setFl_mram (k : Nat) (x : Flane) : (s.setFl k x).mram = s.mram := rfl
@[simp] theorem setFl_adc (k : Nat) (x : Flane) : (s.setFl k x).adc = s.adc := rfl
@[simp] theorem setFl_memo (k : Nat) (x : Flane) : (s.setFl k x).memo = s.memo := rfl
@[simp] theorem setFl_recs (k : Nat) (x : Flane) : (s.setFl k x).recs = s.recs := rfl
@[simp] theorem setFl_tb (k : Nat) (x : Flane) : (s.setFl k x).tb = s.tb := rfl
@[simp] theorem setFl_clk (k : Nat) (x : Flane) : (s.setFl k x).clk = s.clk := rfl
@[simp] theorem setFl_ptp (k : Nat) (x : Flane) : (s.setFl k x).ptp = s.ptp := rfl
@[simp] theorem setFl_sup (k : Nat) (x : Flane) : (s.setFl k x).sup = s.sup := rfl
@[simp] theorem setFl_pair (k : Nat) (x : Flane) : (s.setFl k x).pair = s.pair := rfl
@[simp] theorem setFl_net (k : Nat) (x : Flane) : (s.setFl k x).net = s.net := rfl
@[simp] theorem setFl_bootInfo (k : Nat) (x : Flane) : (s.setFl k x).bootInfo = s.bootInfo := rfl
@[simp] theorem setFl_outs (k : Nat) (x : Flane) : (s.setFl k x).outs = s.outs := rfl
@[simp] theorem setFl_reg (k : Nat) (x : Flane) (j : Nat) : (s.setFl k x).reg j = s.reg j := rfl
@[simp] theorem setFl_engine (k : Nat) (x : Flane) (j : Nat) : (s.setFl k x).engine j = s.engine j := rfl

/-! ## setAdc -/
@[simp] theorem setAdc_pending (x : Adc) : (s.setAdc x).pending = s.pending := rfl
@[simp] theorem setAdc_now (x : Adc) : (s.setAdc x).now = s.now := rfl
@[simp] theorem setAdc_epoch (x : Adc) : (s.setAdc x).epoch = s.epoch := rfl
@[simp] theorem setAdc_free (x : Adc) : (s.setAdc x).free = s.free := rfl
@[simp] theorem setAdc_regs (x : Adc) : (s.setAdc x).regs = s.regs := rfl
@[simp] theorem setAdc_mem (x : Adc) : (s.setAdc x).mem = s.mem := rfl
@[simp] theorem setAdc_portSerial (x : Adc) : (s.setAdc x).portSerial = s.portSerial := rfl
@[simp] theorem setAdc_serial (x : Adc) : (s.setAdc x).serial = s.serial := rfl
@[simp] theorem setAdc_engines (x : Adc) : (s.setAdc x).engines = s.engines := rfl
@[simp] theorem setAdc_pwm (x : Adc) : (s.setAdc x).pwm = s.pwm := rfl
@[simp] theorem setAdc_alarms (x : Adc) : (s.setAdc x).alarms = s.alarms := rfl
@[simp] theorem setAdc_lanes (x : Adc) : (s.setAdc x).lanes = s.lanes := rfl
@[simp] theorem setAdc_lds (x : Adc) : (s.setAdc x).lds = s.lds := rfl
@[simp] theorem setAdc_sds (x : Adc) : (s.setAdc x).sds = s.sds := rfl
@[simp] theorem setAdc_phase (x : Adc) : (s.setAdc x).phase = s.phase := rfl
@[simp] theorem setAdc_holds (x : Adc) : (s.setAdc x).holds = s.holds := rfl
@[simp] theorem setAdc_arming (x : Adc) : (s.setAdc x).arming = s.arming := rfl
@[simp] theorem setAdc_law (x : Adc) : (s.setAdc x).law = s.law := rfl
@[simp] theorem setAdc_cad (x : Adc) : (s.setAdc x).cad = s.cad := rfl
@[simp] theorem setAdc_words (x : Adc) : (s.setAdc x).words = s.words := rfl
@[simp] theorem setAdc_mram (x : Adc) : (s.setAdc x).mram = s.mram := rfl
@[simp] theorem setAdc_filt (x : Adc) : (s.setAdc x).filt = s.filt := rfl
@[simp] theorem setAdc_memo (x : Adc) : (s.setAdc x).memo = s.memo := rfl
@[simp] theorem setAdc_recs (x : Adc) : (s.setAdc x).recs = s.recs := rfl
@[simp] theorem setAdc_tb (x : Adc) : (s.setAdc x).tb = s.tb := rfl
@[simp] theorem setAdc_clk (x : Adc) : (s.setAdc x).clk = s.clk := rfl
@[simp] theorem setAdc_ptp (x : Adc) : (s.setAdc x).ptp = s.ptp := rfl
@[simp] theorem setAdc_sup (x : Adc) : (s.setAdc x).sup = s.sup := rfl
@[simp] theorem setAdc_pair (x : Adc) : (s.setAdc x).pair = s.pair := rfl
@[simp] theorem setAdc_net (x : Adc) : (s.setAdc x).net = s.net := rfl
@[simp] theorem setAdc_bootInfo (x : Adc) : (s.setAdc x).bootInfo = s.bootInfo := rfl
@[simp] theorem setAdc_outs (x : Adc) : (s.setAdc x).outs = s.outs := rfl
@[simp] theorem setAdc_reg (x : Adc) (j : Nat) : (s.setAdc x).reg j = s.reg j := rfl
@[simp] theorem setAdc_engine (x : Adc) (j : Nat) : (s.setAdc x).engine j = s.engine j := rfl
@[simp] theorem setAdc_self (x : Adc) : (s.setAdc x).adc = x := rfl

/-! ## setClk -/
@[simp] theorem setClk_pending (x : Clk) : (s.setClk x).pending = s.pending := rfl
@[simp] theorem setClk_now (x : Clk) : (s.setClk x).now = s.now := rfl
@[simp] theorem setClk_epoch (x : Clk) : (s.setClk x).epoch = s.epoch := rfl
@[simp] theorem setClk_free (x : Clk) : (s.setClk x).free = s.free := rfl
@[simp] theorem setClk_regs (x : Clk) : (s.setClk x).regs = s.regs := rfl
@[simp] theorem setClk_mem (x : Clk) : (s.setClk x).mem = s.mem := rfl
@[simp] theorem setClk_portSerial (x : Clk) : (s.setClk x).portSerial = s.portSerial := rfl
@[simp] theorem setClk_serial (x : Clk) : (s.setClk x).serial = s.serial := rfl
@[simp] theorem setClk_engines (x : Clk) : (s.setClk x).engines = s.engines := rfl
@[simp] theorem setClk_pwm (x : Clk) : (s.setClk x).pwm = s.pwm := rfl
@[simp] theorem setClk_alarms (x : Clk) : (s.setClk x).alarms = s.alarms := rfl
@[simp] theorem setClk_lanes (x : Clk) : (s.setClk x).lanes = s.lanes := rfl
@[simp] theorem setClk_lds (x : Clk) : (s.setClk x).lds = s.lds := rfl
@[simp] theorem setClk_sds (x : Clk) : (s.setClk x).sds = s.sds := rfl
@[simp] theorem setClk_phase (x : Clk) : (s.setClk x).phase = s.phase := rfl
@[simp] theorem setClk_holds (x : Clk) : (s.setClk x).holds = s.holds := rfl
@[simp] theorem setClk_arming (x : Clk) : (s.setClk x).arming = s.arming := rfl
@[simp] theorem setClk_law (x : Clk) : (s.setClk x).law = s.law := rfl
@[simp] theorem setClk_cad (x : Clk) : (s.setClk x).cad = s.cad := rfl
@[simp] theorem setClk_words (x : Clk) : (s.setClk x).words = s.words := rfl
@[simp] theorem setClk_mram (x : Clk) : (s.setClk x).mram = s.mram := rfl
@[simp] theorem setClk_adc (x : Clk) : (s.setClk x).adc = s.adc := rfl
@[simp] theorem setClk_filt (x : Clk) : (s.setClk x).filt = s.filt := rfl
@[simp] theorem setClk_memo (x : Clk) : (s.setClk x).memo = s.memo := rfl
@[simp] theorem setClk_recs (x : Clk) : (s.setClk x).recs = s.recs := rfl
@[simp] theorem setClk_tb (x : Clk) : (s.setClk x).tb = s.tb := rfl
@[simp] theorem setClk_ptp (x : Clk) : (s.setClk x).ptp = s.ptp := rfl
@[simp] theorem setClk_sup (x : Clk) : (s.setClk x).sup = s.sup := rfl
@[simp] theorem setClk_pair (x : Clk) : (s.setClk x).pair = s.pair := rfl
@[simp] theorem setClk_net (x : Clk) : (s.setClk x).net = s.net := rfl
@[simp] theorem setClk_bootInfo (x : Clk) : (s.setClk x).bootInfo = s.bootInfo := rfl
@[simp] theorem setClk_outs (x : Clk) : (s.setClk x).outs = s.outs := rfl
@[simp] theorem setClk_reg (x : Clk) (j : Nat) : (s.setClk x).reg j = s.reg j := rfl
@[simp] theorem setClk_engine (x : Clk) (j : Nat) : (s.setClk x).engine j = s.engine j := rfl
@[simp] theorem setClk_self (x : Clk) : (s.setClk x).clk = x := rfl

/-! ## setLane -/
@[simp] theorem setLane_pending (k : Nat) (x : Lane) : (s.setLane k x).pending = s.pending := rfl
@[simp] theorem setLane_now (k : Nat) (x : Lane) : (s.setLane k x).now = s.now := rfl
@[simp] theorem setLane_epoch (k : Nat) (x : Lane) : (s.setLane k x).epoch = s.epoch := rfl
@[simp] theorem setLane_free (k : Nat) (x : Lane) : (s.setLane k x).free = s.free := rfl
@[simp] theorem setLane_regs (k : Nat) (x : Lane) : (s.setLane k x).regs = s.regs := rfl
@[simp] theorem setLane_mem (k : Nat) (x : Lane) : (s.setLane k x).mem = s.mem := rfl
@[simp] theorem setLane_portSerial (k : Nat) (x : Lane) : (s.setLane k x).portSerial = s.portSerial := rfl
@[simp] theorem setLane_serial (k : Nat) (x : Lane) : (s.setLane k x).serial = s.serial := rfl
@[simp] theorem setLane_engines (k : Nat) (x : Lane) : (s.setLane k x).engines = s.engines := rfl
@[simp] theorem setLane_pwm (k : Nat) (x : Lane) : (s.setLane k x).pwm = s.pwm := rfl
@[simp] theorem setLane_alarms (k : Nat) (x : Lane) : (s.setLane k x).alarms = s.alarms := rfl
@[simp] theorem setLane_lds (k : Nat) (x : Lane) : (s.setLane k x).lds = s.lds := rfl
@[simp] theorem setLane_sds (k : Nat) (x : Lane) : (s.setLane k x).sds = s.sds := rfl
@[simp] theorem setLane_phase (k : Nat) (x : Lane) : (s.setLane k x).phase = s.phase := rfl
@[simp] theorem setLane_holds (k : Nat) (x : Lane) : (s.setLane k x).holds = s.holds := rfl
@[simp] theorem setLane_arming (k : Nat) (x : Lane) : (s.setLane k x).arming = s.arming := rfl
@[simp] theorem setLane_law (k : Nat) (x : Lane) : (s.setLane k x).law = s.law := rfl
@[simp] theorem setLane_cad (k : Nat) (x : Lane) : (s.setLane k x).cad = s.cad := rfl
@[simp] theorem setLane_words (k : Nat) (x : Lane) : (s.setLane k x).words = s.words := rfl
@[simp] theorem setLane_mram (k : Nat) (x : Lane) : (s.setLane k x).mram = s.mram := rfl
@[simp] theorem setLane_adc (k : Nat) (x : Lane) : (s.setLane k x).adc = s.adc := rfl
@[simp] theorem setLane_filt (k : Nat) (x : Lane) : (s.setLane k x).filt = s.filt := rfl
@[simp] theorem setLane_memo (k : Nat) (x : Lane) : (s.setLane k x).memo = s.memo := rfl
@[simp] theorem setLane_recs (k : Nat) (x : Lane) : (s.setLane k x).recs = s.recs := rfl
@[simp] theorem setLane_tb (k : Nat) (x : Lane) : (s.setLane k x).tb = s.tb := rfl
@[simp] theorem setLane_clk (k : Nat) (x : Lane) : (s.setLane k x).clk = s.clk := rfl
@[simp] theorem setLane_ptp (k : Nat) (x : Lane) : (s.setLane k x).ptp = s.ptp := rfl
@[simp] theorem setLane_sup (k : Nat) (x : Lane) : (s.setLane k x).sup = s.sup := rfl
@[simp] theorem setLane_pair (k : Nat) (x : Lane) : (s.setLane k x).pair = s.pair := rfl
@[simp] theorem setLane_net (k : Nat) (x : Lane) : (s.setLane k x).net = s.net := rfl
@[simp] theorem setLane_bootInfo (k : Nat) (x : Lane) : (s.setLane k x).bootInfo = s.bootInfo := rfl
@[simp] theorem setLane_outs (k : Nat) (x : Lane) : (s.setLane k x).outs = s.outs := rfl
@[simp] theorem setLane_reg (k : Nat) (x : Lane) (j : Nat) : (s.setLane k x).reg j = s.reg j := rfl
@[simp] theorem setLane_engine (k : Nat) (x : Lane) (j : Nat) : (s.setLane k x).engine j = s.engine j := rfl

/-! ## setLd -/
@[simp] theorem setLd_pending (n : Nat) (x : Ldrv) : (s.setLd n x).pending = s.pending := rfl
@[simp] theorem setLd_now (n : Nat) (x : Ldrv) : (s.setLd n x).now = s.now := rfl
@[simp] theorem setLd_epoch (n : Nat) (x : Ldrv) : (s.setLd n x).epoch = s.epoch := rfl
@[simp] theorem setLd_free (n : Nat) (x : Ldrv) : (s.setLd n x).free = s.free := rfl
@[simp] theorem setLd_regs (n : Nat) (x : Ldrv) : (s.setLd n x).regs = s.regs := rfl
@[simp] theorem setLd_mem (n : Nat) (x : Ldrv) : (s.setLd n x).mem = s.mem := rfl
@[simp] theorem setLd_portSerial (n : Nat) (x : Ldrv) : (s.setLd n x).portSerial = s.portSerial := rfl
@[simp] theorem setLd_serial (n : Nat) (x : Ldrv) : (s.setLd n x).serial = s.serial := rfl
@[simp] theorem setLd_engines (n : Nat) (x : Ldrv) : (s.setLd n x).engines = s.engines := rfl
@[simp] theorem setLd_pwm (n : Nat) (x : Ldrv) : (s.setLd n x).pwm = s.pwm := rfl
@[simp] theorem setLd_alarms (n : Nat) (x : Ldrv) : (s.setLd n x).alarms = s.alarms := rfl
@[simp] theorem setLd_lanes (n : Nat) (x : Ldrv) : (s.setLd n x).lanes = s.lanes := rfl
@[simp] theorem setLd_sds (n : Nat) (x : Ldrv) : (s.setLd n x).sds = s.sds := rfl
@[simp] theorem setLd_phase (n : Nat) (x : Ldrv) : (s.setLd n x).phase = s.phase := rfl
@[simp] theorem setLd_holds (n : Nat) (x : Ldrv) : (s.setLd n x).holds = s.holds := rfl
@[simp] theorem setLd_arming (n : Nat) (x : Ldrv) : (s.setLd n x).arming = s.arming := rfl
@[simp] theorem setLd_law (n : Nat) (x : Ldrv) : (s.setLd n x).law = s.law := rfl
@[simp] theorem setLd_cad (n : Nat) (x : Ldrv) : (s.setLd n x).cad = s.cad := rfl
@[simp] theorem setLd_words (n : Nat) (x : Ldrv) : (s.setLd n x).words = s.words := rfl
@[simp] theorem setLd_mram (n : Nat) (x : Ldrv) : (s.setLd n x).mram = s.mram := rfl
@[simp] theorem setLd_adc (n : Nat) (x : Ldrv) : (s.setLd n x).adc = s.adc := rfl
@[simp] theorem setLd_filt (n : Nat) (x : Ldrv) : (s.setLd n x).filt = s.filt := rfl
@[simp] theorem setLd_memo (n : Nat) (x : Ldrv) : (s.setLd n x).memo = s.memo := rfl
@[simp] theorem setLd_recs (n : Nat) (x : Ldrv) : (s.setLd n x).recs = s.recs := rfl
@[simp] theorem setLd_tb (n : Nat) (x : Ldrv) : (s.setLd n x).tb = s.tb := rfl
@[simp] theorem setLd_clk (n : Nat) (x : Ldrv) : (s.setLd n x).clk = s.clk := rfl
@[simp] theorem setLd_ptp (n : Nat) (x : Ldrv) : (s.setLd n x).ptp = s.ptp := rfl
@[simp] theorem setLd_sup (n : Nat) (x : Ldrv) : (s.setLd n x).sup = s.sup := rfl
@[simp] theorem setLd_pair (n : Nat) (x : Ldrv) : (s.setLd n x).pair = s.pair := rfl
@[simp] theorem setLd_net (n : Nat) (x : Ldrv) : (s.setLd n x).net = s.net := rfl
@[simp] theorem setLd_bootInfo (n : Nat) (x : Ldrv) : (s.setLd n x).bootInfo = s.bootInfo := rfl
@[simp] theorem setLd_outs (n : Nat) (x : Ldrv) : (s.setLd n x).outs = s.outs := rfl
@[simp] theorem setLd_reg (n : Nat) (x : Ldrv) (j : Nat) : (s.setLd n x).reg j = s.reg j := rfl
@[simp] theorem setLd_engine (n : Nat) (x : Ldrv) (j : Nat) : (s.setLd n x).engine j = s.engine j := rfl

/-! ## setSd -/
@[simp] theorem setSd_pending (n : Nat) (x : Sdrv) : (s.setSd n x).pending = s.pending := rfl
@[simp] theorem setSd_now (n : Nat) (x : Sdrv) : (s.setSd n x).now = s.now := rfl
@[simp] theorem setSd_epoch (n : Nat) (x : Sdrv) : (s.setSd n x).epoch = s.epoch := rfl
@[simp] theorem setSd_free (n : Nat) (x : Sdrv) : (s.setSd n x).free = s.free := rfl
@[simp] theorem setSd_regs (n : Nat) (x : Sdrv) : (s.setSd n x).regs = s.regs := rfl
@[simp] theorem setSd_mem (n : Nat) (x : Sdrv) : (s.setSd n x).mem = s.mem := rfl
@[simp] theorem setSd_portSerial (n : Nat) (x : Sdrv) : (s.setSd n x).portSerial = s.portSerial := rfl
@[simp] theorem setSd_serial (n : Nat) (x : Sdrv) : (s.setSd n x).serial = s.serial := rfl
@[simp] theorem setSd_engines (n : Nat) (x : Sdrv) : (s.setSd n x).engines = s.engines := rfl
@[simp] theorem setSd_pwm (n : Nat) (x : Sdrv) : (s.setSd n x).pwm = s.pwm := rfl
@[simp] theorem setSd_alarms (n : Nat) (x : Sdrv) : (s.setSd n x).alarms = s.alarms := rfl
@[simp] theorem setSd_lanes (n : Nat) (x : Sdrv) : (s.setSd n x).lanes = s.lanes := rfl
@[simp] theorem setSd_lds (n : Nat) (x : Sdrv) : (s.setSd n x).lds = s.lds := rfl
@[simp] theorem setSd_phase (n : Nat) (x : Sdrv) : (s.setSd n x).phase = s.phase := rfl
@[simp] theorem setSd_holds (n : Nat) (x : Sdrv) : (s.setSd n x).holds = s.holds := rfl
@[simp] theorem setSd_arming (n : Nat) (x : Sdrv) : (s.setSd n x).arming = s.arming := rfl
@[simp] theorem setSd_law (n : Nat) (x : Sdrv) : (s.setSd n x).law = s.law := rfl
@[simp] theorem setSd_cad (n : Nat) (x : Sdrv) : (s.setSd n x).cad = s.cad := rfl
@[simp] theorem setSd_words (n : Nat) (x : Sdrv) : (s.setSd n x).words = s.words := rfl
@[simp] theorem setSd_mram (n : Nat) (x : Sdrv) : (s.setSd n x).mram = s.mram := rfl
@[simp] theorem setSd_adc (n : Nat) (x : Sdrv) : (s.setSd n x).adc = s.adc := rfl
@[simp] theorem setSd_filt (n : Nat) (x : Sdrv) : (s.setSd n x).filt = s.filt := rfl
@[simp] theorem setSd_memo (n : Nat) (x : Sdrv) : (s.setSd n x).memo = s.memo := rfl
@[simp] theorem setSd_recs (n : Nat) (x : Sdrv) : (s.setSd n x).recs = s.recs := rfl
@[simp] theorem setSd_tb (n : Nat) (x : Sdrv) : (s.setSd n x).tb = s.tb := rfl
@[simp] theorem setSd_clk (n : Nat) (x : Sdrv) : (s.setSd n x).clk = s.clk := rfl
@[simp] theorem setSd_ptp (n : Nat) (x : Sdrv) : (s.setSd n x).ptp = s.ptp := rfl
@[simp] theorem setSd_sup (n : Nat) (x : Sdrv) : (s.setSd n x).sup = s.sup := rfl
@[simp] theorem setSd_pair (n : Nat) (x : Sdrv) : (s.setSd n x).pair = s.pair := rfl
@[simp] theorem setSd_net (n : Nat) (x : Sdrv) : (s.setSd n x).net = s.net := rfl
@[simp] theorem setSd_bootInfo (n : Nat) (x : Sdrv) : (s.setSd n x).bootInfo = s.bootInfo := rfl
@[simp] theorem setSd_outs (n : Nat) (x : Sdrv) : (s.setSd n x).outs = s.outs := rfl
@[simp] theorem setSd_reg (n : Nat) (x : Sdrv) (j : Nat) : (s.setSd n x).reg j = s.reg j := rfl
@[simp] theorem setSd_engine (n : Nat) (x : Sdrv) (j : Nat) : (s.setSd n x).engine j = s.engine j := rfl

/-! ## setLaw -/
@[simp] theorem setLaw_pending (x : Law) : (s.setLaw x).pending = s.pending := rfl
@[simp] theorem setLaw_now (x : Law) : (s.setLaw x).now = s.now := rfl
@[simp] theorem setLaw_epoch (x : Law) : (s.setLaw x).epoch = s.epoch := rfl
@[simp] theorem setLaw_free (x : Law) : (s.setLaw x).free = s.free := rfl
@[simp] theorem setLaw_regs (x : Law) : (s.setLaw x).regs = s.regs := rfl
@[simp] theorem setLaw_mem (x : Law) : (s.setLaw x).mem = s.mem := rfl
@[simp] theorem setLaw_portSerial (x : Law) : (s.setLaw x).portSerial = s.portSerial := rfl
@[simp] theorem setLaw_serial (x : Law) : (s.setLaw x).serial = s.serial := rfl
@[simp] theorem setLaw_engines (x : Law) : (s.setLaw x).engines = s.engines := rfl
@[simp] theorem setLaw_pwm (x : Law) : (s.setLaw x).pwm = s.pwm := rfl
@[simp] theorem setLaw_alarms (x : Law) : (s.setLaw x).alarms = s.alarms := rfl
@[simp] theorem setLaw_lanes (x : Law) : (s.setLaw x).lanes = s.lanes := rfl
@[simp] theorem setLaw_lds (x : Law) : (s.setLaw x).lds = s.lds := rfl
@[simp] theorem setLaw_sds (x : Law) : (s.setLaw x).sds = s.sds := rfl
@[simp] theorem setLaw_phase (x : Law) : (s.setLaw x).phase = s.phase := rfl
@[simp] theorem setLaw_holds (x : Law) : (s.setLaw x).holds = s.holds := rfl
@[simp] theorem setLaw_arming (x : Law) : (s.setLaw x).arming = s.arming := rfl
@[simp] theorem setLaw_cad (x : Law) : (s.setLaw x).cad = s.cad := rfl
@[simp] theorem setLaw_words (x : Law) : (s.setLaw x).words = s.words := rfl
@[simp] theorem setLaw_mram (x : Law) : (s.setLaw x).mram = s.mram := rfl
@[simp] theorem setLaw_adc (x : Law) : (s.setLaw x).adc = s.adc := rfl
@[simp] theorem setLaw_filt (x : Law) : (s.setLaw x).filt = s.filt := rfl
@[simp] theorem setLaw_memo (x : Law) : (s.setLaw x).memo = s.memo := rfl
@[simp] theorem setLaw_recs (x : Law) : (s.setLaw x).recs = s.recs := rfl
@[simp] theorem setLaw_tb (x : Law) : (s.setLaw x).tb = s.tb := rfl
@[simp] theorem setLaw_clk (x : Law) : (s.setLaw x).clk = s.clk := rfl
@[simp] theorem setLaw_ptp (x : Law) : (s.setLaw x).ptp = s.ptp := rfl
@[simp] theorem setLaw_sup (x : Law) : (s.setLaw x).sup = s.sup := rfl
@[simp] theorem setLaw_pair (x : Law) : (s.setLaw x).pair = s.pair := rfl
@[simp] theorem setLaw_net (x : Law) : (s.setLaw x).net = s.net := rfl
@[simp] theorem setLaw_bootInfo (x : Law) : (s.setLaw x).bootInfo = s.bootInfo := rfl
@[simp] theorem setLaw_outs (x : Law) : (s.setLaw x).outs = s.outs := rfl
@[simp] theorem setLaw_reg (x : Law) (j : Nat) : (s.setLaw x).reg j = s.reg j := rfl
@[simp] theorem setLaw_engine (x : Law) (j : Nat) : (s.setLaw x).engine j = s.engine j := rfl
@[simp] theorem setLaw_self (x : Law) : (s.setLaw x).law = x := rfl

/-! ## setCad -/
@[simp] theorem setCad_pending (x : Cad) : (s.setCad x).pending = s.pending := rfl
@[simp] theorem setCad_now (x : Cad) : (s.setCad x).now = s.now := rfl
@[simp] theorem setCad_epoch (x : Cad) : (s.setCad x).epoch = s.epoch := rfl
@[simp] theorem setCad_free (x : Cad) : (s.setCad x).free = s.free := rfl
@[simp] theorem setCad_regs (x : Cad) : (s.setCad x).regs = s.regs := rfl
@[simp] theorem setCad_mem (x : Cad) : (s.setCad x).mem = s.mem := rfl
@[simp] theorem setCad_portSerial (x : Cad) : (s.setCad x).portSerial = s.portSerial := rfl
@[simp] theorem setCad_serial (x : Cad) : (s.setCad x).serial = s.serial := rfl
@[simp] theorem setCad_engines (x : Cad) : (s.setCad x).engines = s.engines := rfl
@[simp] theorem setCad_pwm (x : Cad) : (s.setCad x).pwm = s.pwm := rfl
@[simp] theorem setCad_alarms (x : Cad) : (s.setCad x).alarms = s.alarms := rfl
@[simp] theorem setCad_lanes (x : Cad) : (s.setCad x).lanes = s.lanes := rfl
@[simp] theorem setCad_lds (x : Cad) : (s.setCad x).lds = s.lds := rfl
@[simp] theorem setCad_sds (x : Cad) : (s.setCad x).sds = s.sds := rfl
@[simp] theorem setCad_phase (x : Cad) : (s.setCad x).phase = s.phase := rfl
@[simp] theorem setCad_holds (x : Cad) : (s.setCad x).holds = s.holds := rfl
@[simp] theorem setCad_arming (x : Cad) : (s.setCad x).arming = s.arming := rfl
@[simp] theorem setCad_law (x : Cad) : (s.setCad x).law = s.law := rfl
@[simp] theorem setCad_words (x : Cad) : (s.setCad x).words = s.words := rfl
@[simp] theorem setCad_mram (x : Cad) : (s.setCad x).mram = s.mram := rfl
@[simp] theorem setCad_adc (x : Cad) : (s.setCad x).adc = s.adc := rfl
@[simp] theorem setCad_filt (x : Cad) : (s.setCad x).filt = s.filt := rfl
@[simp] theorem setCad_memo (x : Cad) : (s.setCad x).memo = s.memo := rfl
@[simp] theorem setCad_recs (x : Cad) : (s.setCad x).recs = s.recs := rfl
@[simp] theorem setCad_tb (x : Cad) : (s.setCad x).tb = s.tb := rfl
@[simp] theorem setCad_clk (x : Cad) : (s.setCad x).clk = s.clk := rfl
@[simp] theorem setCad_ptp (x : Cad) : (s.setCad x).ptp = s.ptp := rfl
@[simp] theorem setCad_sup (x : Cad) : (s.setCad x).sup = s.sup := rfl
@[simp] theorem setCad_pair (x : Cad) : (s.setCad x).pair = s.pair := rfl
@[simp] theorem setCad_net (x : Cad) : (s.setCad x).net = s.net := rfl
@[simp] theorem setCad_bootInfo (x : Cad) : (s.setCad x).bootInfo = s.bootInfo := rfl
@[simp] theorem setCad_outs (x : Cad) : (s.setCad x).outs = s.outs := rfl
@[simp] theorem setCad_reg (x : Cad) (j : Nat) : (s.setCad x).reg j = s.reg j := rfl
@[simp] theorem setCad_engine (x : Cad) (j : Nat) : (s.setCad x).engine j = s.engine j := rfl
@[simp] theorem setCad_self (x : Cad) : (s.setCad x).cad = x := rfl

/-! ## setRc -/
@[simp] theorem setRc_pending (n : Nat) (x : Rec) : (s.setRc n x).pending = s.pending := rfl
@[simp] theorem setRc_now (n : Nat) (x : Rec) : (s.setRc n x).now = s.now := rfl
@[simp] theorem setRc_epoch (n : Nat) (x : Rec) : (s.setRc n x).epoch = s.epoch := rfl
@[simp] theorem setRc_free (n : Nat) (x : Rec) : (s.setRc n x).free = s.free := rfl
@[simp] theorem setRc_regs (n : Nat) (x : Rec) : (s.setRc n x).regs = s.regs := rfl
@[simp] theorem setRc_mem (n : Nat) (x : Rec) : (s.setRc n x).mem = s.mem := rfl
@[simp] theorem setRc_portSerial (n : Nat) (x : Rec) : (s.setRc n x).portSerial = s.portSerial := rfl
@[simp] theorem setRc_serial (n : Nat) (x : Rec) : (s.setRc n x).serial = s.serial := rfl
@[simp] theorem setRc_engines (n : Nat) (x : Rec) : (s.setRc n x).engines = s.engines := rfl
@[simp] theorem setRc_pwm (n : Nat) (x : Rec) : (s.setRc n x).pwm = s.pwm := rfl
@[simp] theorem setRc_alarms (n : Nat) (x : Rec) : (s.setRc n x).alarms = s.alarms := rfl
@[simp] theorem setRc_lanes (n : Nat) (x : Rec) : (s.setRc n x).lanes = s.lanes := rfl
@[simp] theorem setRc_lds (n : Nat) (x : Rec) : (s.setRc n x).lds = s.lds := rfl
@[simp] theorem setRc_sds (n : Nat) (x : Rec) : (s.setRc n x).sds = s.sds := rfl
@[simp] theorem setRc_phase (n : Nat) (x : Rec) : (s.setRc n x).phase = s.phase := rfl
@[simp] theorem setRc_holds (n : Nat) (x : Rec) : (s.setRc n x).holds = s.holds := rfl
@[simp] theorem setRc_arming (n : Nat) (x : Rec) : (s.setRc n x).arming = s.arming := rfl
@[simp] theorem setRc_law (n : Nat) (x : Rec) : (s.setRc n x).law = s.law := rfl
@[simp] theorem setRc_cad (n : Nat) (x : Rec) : (s.setRc n x).cad = s.cad := rfl
@[simp] theorem setRc_words (n : Nat) (x : Rec) : (s.setRc n x).words = s.words := rfl
@[simp] theorem setRc_mram (n : Nat) (x : Rec) : (s.setRc n x).mram = s.mram := rfl
@[simp] theorem setRc_adc (n : Nat) (x : Rec) : (s.setRc n x).adc = s.adc := rfl
@[simp] theorem setRc_filt (n : Nat) (x : Rec) : (s.setRc n x).filt = s.filt := rfl
@[simp] theorem setRc_memo (n : Nat) (x : Rec) : (s.setRc n x).memo = s.memo := rfl
@[simp] theorem setRc_tb (n : Nat) (x : Rec) : (s.setRc n x).tb = s.tb := rfl
@[simp] theorem setRc_clk (n : Nat) (x : Rec) : (s.setRc n x).clk = s.clk := rfl
@[simp] theorem setRc_ptp (n : Nat) (x : Rec) : (s.setRc n x).ptp = s.ptp := rfl
@[simp] theorem setRc_sup (n : Nat) (x : Rec) : (s.setRc n x).sup = s.sup := rfl
@[simp] theorem setRc_pair (n : Nat) (x : Rec) : (s.setRc n x).pair = s.pair := rfl
@[simp] theorem setRc_net (n : Nat) (x : Rec) : (s.setRc n x).net = s.net := rfl
@[simp] theorem setRc_bootInfo (n : Nat) (x : Rec) : (s.setRc n x).bootInfo = s.bootInfo := rfl
@[simp] theorem setRc_outs (n : Nat) (x : Rec) : (s.setRc n x).outs = s.outs := rfl
@[simp] theorem setRc_reg (n : Nat) (x : Rec) (j : Nat) : (s.setRc n x).reg j = s.reg j := rfl
@[simp] theorem setRc_engine (n : Nat) (x : Rec) (j : Nat) : (s.setRc n x).engine j = s.engine j := rfl

/-! ## setMod -/
@[simp] theorem setMod_pending (k : Nat) (x : Module) : (s.setMod k x).pending = s.pending := rfl
@[simp] theorem setMod_now (k : Nat) (x : Module) : (s.setMod k x).now = s.now := rfl
@[simp] theorem setMod_epoch (k : Nat) (x : Module) : (s.setMod k x).epoch = s.epoch := rfl
@[simp] theorem setMod_free (k : Nat) (x : Module) : (s.setMod k x).free = s.free := rfl
@[simp] theorem setMod_regs (k : Nat) (x : Module) : (s.setMod k x).regs = s.regs := rfl
@[simp] theorem setMod_mem (k : Nat) (x : Module) : (s.setMod k x).mem = s.mem := rfl
@[simp] theorem setMod_portSerial (k : Nat) (x : Module) : (s.setMod k x).portSerial = s.portSerial := rfl
@[simp] theorem setMod_serial (k : Nat) (x : Module) : (s.setMod k x).serial = s.serial := rfl
@[simp] theorem setMod_engines (k : Nat) (x : Module) : (s.setMod k x).engines = s.engines := rfl
@[simp] theorem setMod_pwm (k : Nat) (x : Module) : (s.setMod k x).pwm = s.pwm := rfl
@[simp] theorem setMod_alarms (k : Nat) (x : Module) : (s.setMod k x).alarms = s.alarms := rfl
@[simp] theorem setMod_lanes (k : Nat) (x : Module) : (s.setMod k x).lanes = s.lanes := rfl
@[simp] theorem setMod_lds (k : Nat) (x : Module) : (s.setMod k x).lds = s.lds := rfl
@[simp] theorem setMod_sds (k : Nat) (x : Module) : (s.setMod k x).sds = s.sds := rfl
@[simp] theorem setMod_phase (k : Nat) (x : Module) : (s.setMod k x).phase = s.phase := rfl
@[simp] theorem setMod_holds (k : Nat) (x : Module) : (s.setMod k x).holds = s.holds := rfl
@[simp] theorem setMod_arming (k : Nat) (x : Module) : (s.setMod k x).arming = s.arming := rfl
@[simp] theorem setMod_law (k : Nat) (x : Module) : (s.setMod k x).law = s.law := rfl
@[simp] theorem setMod_cad (k : Nat) (x : Module) : (s.setMod k x).cad = s.cad := rfl
@[simp] theorem setMod_words (k : Nat) (x : Module) : (s.setMod k x).words = s.words := rfl
@[simp] theorem setMod_mram (k : Nat) (x : Module) : (s.setMod k x).mram = s.mram := rfl
@[simp] theorem setMod_adc (k : Nat) (x : Module) : (s.setMod k x).adc = s.adc := rfl
@[simp] theorem setMod_filt (k : Nat) (x : Module) : (s.setMod k x).filt = s.filt := rfl
@[simp] theorem setMod_memo (k : Nat) (x : Module) : (s.setMod k x).memo = s.memo := rfl
@[simp] theorem setMod_recs (k : Nat) (x : Module) : (s.setMod k x).recs = s.recs := rfl
@[simp] theorem setMod_tb (k : Nat) (x : Module) : (s.setMod k x).tb = s.tb := rfl
@[simp] theorem setMod_clk (k : Nat) (x : Module) : (s.setMod k x).clk = s.clk := rfl
@[simp] theorem setMod_ptp (k : Nat) (x : Module) : (s.setMod k x).ptp = s.ptp := rfl
@[simp] theorem setMod_pair (k : Nat) (x : Module) : (s.setMod k x).pair = s.pair := rfl
@[simp] theorem setMod_net (k : Nat) (x : Module) : (s.setMod k x).net = s.net := rfl
@[simp] theorem setMod_bootInfo (k : Nat) (x : Module) : (s.setMod k x).bootInfo = s.bootInfo := rfl
@[simp] theorem setMod_outs (k : Nat) (x : Module) : (s.setMod k x).outs = s.outs := rfl
@[simp] theorem setMod_reg (k : Nat) (x : Module) (j : Nat) : (s.setMod k x).reg j = s.reg j := rfl
@[simp] theorem setMod_engine (k : Nat) (x : Module) (j : Nat) : (s.setMod k x).engine j = s.engine j := rfl

/-! ## setPair -/
@[simp] theorem setPair_pending (x : Pair) : (s.setPair x).pending = s.pending := rfl
@[simp] theorem setPair_now (x : Pair) : (s.setPair x).now = s.now := rfl
@[simp] theorem setPair_epoch (x : Pair) : (s.setPair x).epoch = s.epoch := rfl
@[simp] theorem setPair_free (x : Pair) : (s.setPair x).free = s.free := rfl
@[simp] theorem setPair_regs (x : Pair) : (s.setPair x).regs = s.regs := rfl
@[simp] theorem setPair_mem (x : Pair) : (s.setPair x).mem = s.mem := rfl
@[simp] theorem setPair_portSerial (x : Pair) : (s.setPair x).portSerial = s.portSerial := rfl
@[simp] theorem setPair_serial (x : Pair) : (s.setPair x).serial = s.serial := rfl
@[simp] theorem setPair_engines (x : Pair) : (s.setPair x).engines = s.engines := rfl
@[simp] theorem setPair_pwm (x : Pair) : (s.setPair x).pwm = s.pwm := rfl
@[simp] theorem setPair_alarms (x : Pair) : (s.setPair x).alarms = s.alarms := rfl
@[simp] theorem setPair_lanes (x : Pair) : (s.setPair x).lanes = s.lanes := rfl
@[simp] theorem setPair_lds (x : Pair) : (s.setPair x).lds = s.lds := rfl
@[simp] theorem setPair_sds (x : Pair) : (s.setPair x).sds = s.sds := rfl
@[simp] theorem setPair_phase (x : Pair) : (s.setPair x).phase = s.phase := rfl
@[simp] theorem setPair_holds (x : Pair) : (s.setPair x).holds = s.holds := rfl
@[simp] theorem setPair_arming (x : Pair) : (s.setPair x).arming = s.arming := rfl
@[simp] theorem setPair_law (x : Pair) : (s.setPair x).law = s.law := rfl
@[simp] theorem setPair_cad (x : Pair) : (s.setPair x).cad = s.cad := rfl
@[simp] theorem setPair_words (x : Pair) : (s.setPair x).words = s.words := rfl
@[simp] theorem setPair_mram (x : Pair) : (s.setPair x).mram = s.mram := rfl
@[simp] theorem setPair_adc (x : Pair) : (s.setPair x).adc = s.adc := rfl
@[simp] theorem setPair_filt (x : Pair) : (s.setPair x).filt = s.filt := rfl
@[simp] theorem setPair_memo (x : Pair) : (s.setPair x).memo = s.memo := rfl
@[simp] theorem setPair_recs (x : Pair) : (s.setPair x).recs = s.recs := rfl
@[simp] theorem setPair_tb (x : Pair) : (s.setPair x).tb = s.tb := rfl
@[simp] theorem setPair_clk (x : Pair) : (s.setPair x).clk = s.clk := rfl
@[simp] theorem setPair_ptp (x : Pair) : (s.setPair x).ptp = s.ptp := rfl
@[simp] theorem setPair_sup (x : Pair) : (s.setPair x).sup = s.sup := rfl
@[simp] theorem setPair_net (x : Pair) : (s.setPair x).net = s.net := rfl
@[simp] theorem setPair_bootInfo (x : Pair) : (s.setPair x).bootInfo = s.bootInfo := rfl
@[simp] theorem setPair_outs (x : Pair) : (s.setPair x).outs = s.outs := rfl
@[simp] theorem setPair_reg (x : Pair) (j : Nat) : (s.setPair x).reg j = s.reg j := rfl
@[simp] theorem setPair_engine (x : Pair) (j : Nat) : (s.setPair x).engine j = s.engine j := rfl
@[simp] theorem setPair_self (x : Pair) : (s.setPair x).pair = x := rfl

/-! ## setNet -/
@[simp] theorem setNet_pending (x : Net) : (s.setNet x).pending = s.pending := rfl
@[simp] theorem setNet_now (x : Net) : (s.setNet x).now = s.now := rfl
@[simp] theorem setNet_epoch (x : Net) : (s.setNet x).epoch = s.epoch := rfl
@[simp] theorem setNet_free (x : Net) : (s.setNet x).free = s.free := rfl
@[simp] theorem setNet_regs (x : Net) : (s.setNet x).regs = s.regs := rfl
@[simp] theorem setNet_mem (x : Net) : (s.setNet x).mem = s.mem := rfl
@[simp] theorem setNet_portSerial (x : Net) : (s.setNet x).portSerial = s.portSerial := rfl
@[simp] theorem setNet_serial (x : Net) : (s.setNet x).serial = s.serial := rfl
@[simp] theorem setNet_engines (x : Net) : (s.setNet x).engines = s.engines := rfl
@[simp] theorem setNet_pwm (x : Net) : (s.setNet x).pwm = s.pwm := rfl
@[simp] theorem setNet_alarms (x : Net) : (s.setNet x).alarms = s.alarms := rfl
@[simp] theorem setNet_lanes (x : Net) : (s.setNet x).lanes = s.lanes := rfl
@[simp] theorem setNet_lds (x : Net) : (s.setNet x).lds = s.lds := rfl
@[simp] theorem setNet_sds (x : Net) : (s.setNet x).sds = s.sds := rfl
@[simp] theorem setNet_phase (x : Net) : (s.setNet x).phase = s.phase := rfl
@[simp] theorem setNet_holds (x : Net) : (s.setNet x).holds = s.holds := rfl
@[simp] theorem setNet_arming (x : Net) : (s.setNet x).arming = s.arming := rfl
@[simp] theorem setNet_law (x : Net) : (s.setNet x).law = s.law := rfl
@[simp] theorem setNet_cad (x : Net) : (s.setNet x).cad = s.cad := rfl
@[simp] theorem setNet_words (x : Net) : (s.setNet x).words = s.words := rfl
@[simp] theorem setNet_mram (x : Net) : (s.setNet x).mram = s.mram := rfl
@[simp] theorem setNet_adc (x : Net) : (s.setNet x).adc = s.adc := rfl
@[simp] theorem setNet_filt (x : Net) : (s.setNet x).filt = s.filt := rfl
@[simp] theorem setNet_memo (x : Net) : (s.setNet x).memo = s.memo := rfl
@[simp] theorem setNet_recs (x : Net) : (s.setNet x).recs = s.recs := rfl
@[simp] theorem setNet_tb (x : Net) : (s.setNet x).tb = s.tb := rfl
@[simp] theorem setNet_clk (x : Net) : (s.setNet x).clk = s.clk := rfl
@[simp] theorem setNet_ptp (x : Net) : (s.setNet x).ptp = s.ptp := rfl
@[simp] theorem setNet_sup (x : Net) : (s.setNet x).sup = s.sup := rfl
@[simp] theorem setNet_pair (x : Net) : (s.setNet x).pair = s.pair := rfl
@[simp] theorem setNet_bootInfo (x : Net) : (s.setNet x).bootInfo = s.bootInfo := rfl
@[simp] theorem setNet_outs (x : Net) : (s.setNet x).outs = s.outs := rfl
@[simp] theorem setNet_reg (x : Net) (j : Nat) : (s.setNet x).reg j = s.reg j := rfl
@[simp] theorem setNet_engine (x : Net) (j : Nat) : (s.setNet x).engine j = s.engine j := rfl
@[simp] theorem setNet_self (x : Net) : (s.setNet x).net = x := rfl

/-! ## setStore -/
@[simp] theorem setStore_pending (x : Store) : (s.setStore x).pending = s.pending := rfl
@[simp] theorem setStore_now (x : Store) : (s.setStore x).now = s.now := rfl
@[simp] theorem setStore_epoch (x : Store) : (s.setStore x).epoch = s.epoch := rfl
@[simp] theorem setStore_free (x : Store) : (s.setStore x).free = s.free := rfl
@[simp] theorem setStore_regs (x : Store) : (s.setStore x).regs = s.regs := rfl
@[simp] theorem setStore_mem (x : Store) : (s.setStore x).mem = s.mem := rfl
@[simp] theorem setStore_portSerial (x : Store) : (s.setStore x).portSerial = s.portSerial := rfl
@[simp] theorem setStore_serial (x : Store) : (s.setStore x).serial = s.serial := rfl
@[simp] theorem setStore_engines (x : Store) : (s.setStore x).engines = s.engines := rfl
@[simp] theorem setStore_pwm (x : Store) : (s.setStore x).pwm = s.pwm := rfl
@[simp] theorem setStore_alarms (x : Store) : (s.setStore x).alarms = s.alarms := rfl
@[simp] theorem setStore_lanes (x : Store) : (s.setStore x).lanes = s.lanes := rfl
@[simp] theorem setStore_lds (x : Store) : (s.setStore x).lds = s.lds := rfl
@[simp] theorem setStore_sds (x : Store) : (s.setStore x).sds = s.sds := rfl
@[simp] theorem setStore_phase (x : Store) : (s.setStore x).phase = s.phase := rfl
@[simp] theorem setStore_holds (x : Store) : (s.setStore x).holds = s.holds := rfl
@[simp] theorem setStore_arming (x : Store) : (s.setStore x).arming = s.arming := rfl
@[simp] theorem setStore_law (x : Store) : (s.setStore x).law = s.law := rfl
@[simp] theorem setStore_cad (x : Store) : (s.setStore x).cad = s.cad := rfl
@[simp] theorem setStore_words (x : Store) : (s.setStore x).words = s.words := rfl
@[simp] theorem setStore_adc (x : Store) : (s.setStore x).adc = s.adc := rfl
@[simp] theorem setStore_filt (x : Store) : (s.setStore x).filt = s.filt := rfl
@[simp] theorem setStore_memo (x : Store) : (s.setStore x).memo = s.memo := rfl
@[simp] theorem setStore_recs (x : Store) : (s.setStore x).recs = s.recs := rfl
@[simp] theorem setStore_tb (x : Store) : (s.setStore x).tb = s.tb := rfl
@[simp] theorem setStore_clk (x : Store) : (s.setStore x).clk = s.clk := rfl
@[simp] theorem setStore_ptp (x : Store) : (s.setStore x).ptp = s.ptp := rfl
@[simp] theorem setStore_sup (x : Store) : (s.setStore x).sup = s.sup := rfl
@[simp] theorem setStore_pair (x : Store) : (s.setStore x).pair = s.pair := rfl
@[simp] theorem setStore_net (x : Store) : (s.setStore x).net = s.net := rfl
@[simp] theorem setStore_bootInfo (x : Store) : (s.setStore x).bootInfo = s.bootInfo := rfl
@[simp] theorem setStore_outs (x : Store) : (s.setStore x).outs = s.outs := rfl
@[simp] theorem setStore_reg (x : Store) (j : Nat) : (s.setStore x).reg j = s.reg j := rfl
@[simp] theorem setStore_engine (x : Store) (j : Nat) : (s.setStore x).engine j = s.engine j := rfl
@[simp] theorem setStore_self (x : Store) : (s.setStore x).mram = x := rfl

/-! ## withPending -/
@[simp] theorem withPending_now (q : List Instr) : (s.withPending q).now = s.now := rfl
@[simp] theorem withPending_epoch (q : List Instr) : (s.withPending q).epoch = s.epoch := rfl
@[simp] theorem withPending_free (q : List Instr) : (s.withPending q).free = s.free := rfl
@[simp] theorem withPending_regs (q : List Instr) : (s.withPending q).regs = s.regs := rfl
@[simp] theorem withPending_mem (q : List Instr) : (s.withPending q).mem = s.mem := rfl
@[simp] theorem withPending_portSerial (q : List Instr) : (s.withPending q).portSerial = s.portSerial := rfl
@[simp] theorem withPending_serial (q : List Instr) : (s.withPending q).serial = s.serial := rfl
@[simp] theorem withPending_engines (q : List Instr) : (s.withPending q).engines = s.engines := rfl
@[simp] theorem withPending_pwm (q : List Instr) : (s.withPending q).pwm = s.pwm := rfl
@[simp] theorem withPending_alarms (q : List Instr) : (s.withPending q).alarms = s.alarms := rfl
@[simp] theorem withPending_lanes (q : List Instr) : (s.withPending q).lanes = s.lanes := rfl
@[simp] theorem withPending_lds (q : List Instr) : (s.withPending q).lds = s.lds := rfl
@[simp] theorem withPending_sds (q : List Instr) : (s.withPending q).sds = s.sds := rfl
@[simp] theorem withPending_phase (q : List Instr) : (s.withPending q).phase = s.phase := rfl
@[simp] theorem withPending_holds (q : List Instr) : (s.withPending q).holds = s.holds := rfl
@[simp] theorem withPending_arming (q : List Instr) : (s.withPending q).arming = s.arming := rfl
@[simp] theorem withPending_law (q : List Instr) : (s.withPending q).law = s.law := rfl
@[simp] theorem withPending_cad (q : List Instr) : (s.withPending q).cad = s.cad := rfl
@[simp] theorem withPending_words (q : List Instr) : (s.withPending q).words = s.words := rfl
@[simp] theorem withPending_mram (q : List Instr) : (s.withPending q).mram = s.mram := rfl
@[simp] theorem withPending_adc (q : List Instr) : (s.withPending q).adc = s.adc := rfl
@[simp] theorem withPending_filt (q : List Instr) : (s.withPending q).filt = s.filt := rfl
@[simp] theorem withPending_memo (q : List Instr) : (s.withPending q).memo = s.memo := rfl
@[simp] theorem withPending_recs (q : List Instr) : (s.withPending q).recs = s.recs := rfl
@[simp] theorem withPending_tb (q : List Instr) : (s.withPending q).tb = s.tb := rfl
@[simp] theorem withPending_clk (q : List Instr) : (s.withPending q).clk = s.clk := rfl
@[simp] theorem withPending_ptp (q : List Instr) : (s.withPending q).ptp = s.ptp := rfl
@[simp] theorem withPending_sup (q : List Instr) : (s.withPending q).sup = s.sup := rfl
@[simp] theorem withPending_pair (q : List Instr) : (s.withPending q).pair = s.pair := rfl
@[simp] theorem withPending_net (q : List Instr) : (s.withPending q).net = s.net := rfl
@[simp] theorem withPending_bootInfo (q : List Instr) : (s.withPending q).bootInfo = s.bootInfo := rfl
@[simp] theorem withPending_outs (q : List Instr) : (s.withPending q).outs = s.outs := rfl
@[simp] theorem withPending_reg (q : List Instr) (j : Nat) : (s.withPending q).reg j = s.reg j := rfl
@[simp] theorem withPending_engine (q : List Instr) (j : Nat) : (s.withPending q).engine j = s.engine j := rfl

@[simp] theorem useFree_free : s.useFree.free = s.free + 1 := rfl
@[simp] theorem advance_now (t : Instant) : (s.advance t).now = max s.now t := rfl
@[simp] theorem emit_outs (o : Out) : (s.emit o).outs = o :: s.outs := rfl
@[simp] theorem withPending_pending (q : List Instr) : (s.withPending q).pending = q := rfl
@[simp] theorem engine_setEngine (e : Nat) (x : Engine) : (s.setEngine e x).engine e = x := tabGet_set_self _ _ _ _

theorem engine_setEngine_other {e j : Nat} (x : Engine) (h : j ≠ e) : (s.setEngine e x).engine j = s.engine j :=
  tabGet_set_other _ _ _ h

/-- A field of a register read after it was written. -/
theorem fget_fset (f : Fld) (v x : Nat) : fget f (fset f v x) = x % 2 ^ f.w := by
  unfold fget fset
  have hp : 0 < 2 ^ f.lo := Nat.two_pow_pos _
  rw [Nat.pow_add, Nat.mul_comm (2 ^ f.lo), ← Nat.mul_assoc, ← Nat.add_mul, Nat.add_comm, Nat.add_mul_div_right _ _ hp,
    Nat.div_eq_of_lt (Nat.mod_lt _ hp), Nat.zero_add, Nat.add_comm, Nat.add_mul_mod_self_right, Nat.mod_mod]

@[simp] theorem fld_setFld_self (k : Nat) (f : Fld) (x : Nat) : (s.setFld k f x).fld k f = x % 2 ^ f.w := by
  simp [State.fld, State.setFld, fget_fset]

theorem reg_setFld_other {k j : Nat} (f : Fld) (x : Nat) (h : j ≠ k) : (s.setFld k f x).reg j = s.reg j := by
  simp [State.setFld, reg_setReg_other _ _ h]

theorem reg_setFlag_other {k j : Nat} (f : Fld) (b : Bool) (h : j ≠ k) : (s.setFlag k f b).reg j = s.reg j :=
  reg_setFld_other s f _ h

theorem reg_bump_other {k j : Nat} (h : j ≠ k) : (s.bump k).reg j = s.reg j := by
  unfold State.bump; split
  · exact reg_setReg_other _ _ h
  · exact reg_setReg_other _ _ h

/-- A counter that is not at its greatest value counts one. -/
theorem reg_bump_self {k : Nat} (h : s.reg k + 1 < 4294967296) : (s.bump k).reg k = s.reg k + 1 := by
  simp [State.bump, h]

end Sys2Proof.Machine
end

