-- ==== Sys2Proof/Laws/Engine.lean ====
section
/-!
SUPPORT. The engines: their registers and flags read after a write, and what an instruction comes to where its engine runs.
-/

namespace Sys2Proof.Machine

/-! ## Registers -/

variable (x : Engine)

theorem xr_setX (i j : Nat) (v : W16) : (x.setX i v).xr j = if j = i then v else x.xr j := tabGet_set _ _ _ _ _
theorem ar_setA (i j : Nat) (v : W40) : (x.setA i v).ar j = if j = i then v else x.ar j := tabGet_set _ _ _ _ _
theorem pr_setP (i j : Nat) (v : BitVec 14) : (x.setP i v).pr j = if j = i then v else x.pr j := tabGet_set _ _ _ _ _
theorem kr_setK (i j : Nat) (v : BitVec 4) : (x.setK i v).kr j = if j = i then v else x.kr j := tabGet_set _ _ _ _ _

@[simp] theorem xr_setX_self (i : Nat) (v : W16) : (x.setX i v).xr i = v := tabGet_set_self _ _ _ _
@[simp] theorem ar_setA_self (i : Nat) (v : W40) : (x.setA i v).ar i = v := tabGet_set_self _ _ _ _
@[simp] theorem pr_setP_self (i : Nat) (v : BitVec 14) : (x.setP i v).pr i = v := tabGet_set_self _ _ _ _
@[simp] theorem kr_setK_self (i : Nat) (v : BitVec 4) : (x.setK i v).kr i = v := tabGet_set_self _ _ _ _

@[simp] theorem xr_next (i : Nat) : x.next.xr i = x.xr i := rfl
@[simp] theorem ar_next (i : Nat) : x.next.ar i = x.ar i := rfl
@[simp] theorem pr_next (i : Nat) : x.next.pr i = x.pr i := rfl
@[simp] theorem kr_next (i : Nat) : x.next.kr i = x.kr i := rfl
@[simp] theorem flags_next : x.next.flags = x.flags := rfl
@[simp] theorem ar_setX (i : Nat) (v : W16) (j : Nat) : (x.setX i v).ar j = x.ar j := rfl
@[simp] theorem pr_setX (i : Nat) (v : W16) (j : Nat) : (x.setX i v).pr j = x.pr j := rfl
@[simp] theorem kr_setX (i : Nat) (v : W16) (j : Nat) : (x.setX i v).kr j = x.kr j := rfl
@[simp] theorem flags_setX (i : Nat) (v : W16) : (x.setX i v).flags = x.flags := rfl
@[simp] theorem pc_setX (i : Nat) (v : W16) : (x.setX i v).pc = x.pc := rfl
@[simp] theorem loops_setX (i : Nat) (v : W16) : (x.setX i v).loops = x.loops := rfl
@[simp] theorem calls_setX (i : Nat) (v : W16) : (x.setX i v).calls = x.calls := rfl
@[simp] theorem wait_setX (i : Nat) (v : W16) : (x.setX i v).wait = x.wait := rfl
@[simp] theorem xr_setA (i : Nat) (v : W40) (j : Nat) : (x.setA i v).xr j = x.xr j := rfl
@[simp] theorem pr_setA (i : Nat) (v : W40) (j : Nat) : (x.setA i v).pr j = x.pr j := rfl
@[simp] theorem kr_setA (i : Nat) (v : W40) (j : Nat) : (x.setA i v).kr j = x.kr j := rfl
@[simp] theorem flags_setA (i : Nat) (v : W40) : (x.setA i v).flags = x.flags := rfl
@[simp] theorem pc_setA (i : Nat) (v : W40) : (x.setA i v).pc = x.pc := rfl
@[simp] theorem loops_setA (i : Nat) (v : W40) : (x.setA i v).loops = x.loops := rfl
@[simp] theorem calls_setA (i : Nat) (v : W40) : (x.setA i v).calls = x.calls := rfl
@[simp] theorem wait_setA (i : Nat) (v : W40) : (x.setA i v).wait = x.wait := rfl
@[simp] theorem xr_setP (i : Nat) (v : BitVec 14) (j : Nat) : (x.setP i v).xr j = x.xr j := rfl
@[simp] theorem ar_setP (i : Nat) (v : BitVec 14) (j : Nat) : (x.setP i v).ar j = x.ar j := rfl
@[simp] theorem kr_setP (i : Nat) (v : BitVec 14) (j : Nat) : (x.setP i v).kr j = x.kr j := rfl
@[simp] theorem flags_setP (i : Nat) (v : BitVec 14) : (x.setP i v).flags = x.flags := rfl
@[simp] theorem pc_setP (i : Nat) (v : BitVec 14) : (x.setP i v).pc = x.pc := rfl
@[simp] theorem loops_setP (i : Nat) (v : BitVec 14) : (x.setP i v).loops = x.loops := rfl
@[simp] theorem calls_setP (i : Nat) (v : BitVec 14) : (x.setP i v).calls = x.calls := rfl
@[simp] theorem wait_setP (i : Nat) (v : BitVec 14) : (x.setP i v).wait = x.wait := rfl
@[simp] theorem xr_setK (i : Nat) (v : BitVec 4) (j : Nat) : (x.setK i v).xr j = x.xr j := rfl
@[simp] theorem ar_setK (i : Nat) (v : BitVec 4) (j : Nat) : (x.setK i v).ar j = x.ar j := rfl
@[simp] theorem pr_setK (i : Nat) (v : BitVec 4) (j : Nat) : (x.setK i v).pr j = x.pr j := rfl
@[simp] theorem flags_setK (i : Nat) (v : BitVec 4) : (x.setK i v).flags = x.flags := rfl
@[simp] theorem pc_setK (i : Nat) (v : BitVec 4) : (x.setK i v).pc = x.pc := rfl
@[simp] theorem loops_setK (i : Nat) (v : BitVec 4) : (x.setK i v).loops = x.loops := rfl
@[simp] theorem calls_setK (i : Nat) (v : BitVec 4) : (x.setK i v).calls = x.calls := rfl
@[simp] theorem wait_setK (i : Nat) (v : BitVec 4) : (x.setK i v).wait = x.wait := rfl
@[simp] theorem xr_setF (f : BitVec 8) (j : Nat) : (x.setF f).xr j = x.xr j := rfl
@[simp] theorem ar_setF (f : BitVec 8) (j : Nat) : (x.setF f).ar j = x.ar j := rfl
@[simp] theorem pr_setF (f : BitVec 8) (j : Nat) : (x.setF f).pr j = x.pr j := rfl
@[simp] theorem kr_setF (f : BitVec 8) (j : Nat) : (x.setF f).kr j = x.kr j := rfl
@[simp] theorem pc_setF (f : BitVec 8) : (x.setF f).pc = x.pc := rfl
@[simp] theorem loops_setF (f : BitVec 8) : (x.setF f).loops = x.loops := rfl
@[simp] theorem calls_setF (f : BitVec 8) : (x.setF f).calls = x.calls := rfl
@[simp] theorem wait_setF (f : BitVec 8) : (x.setF f).wait = x.wait := rfl
@[simp] theorem flags_setF (f : BitVec 8) : (x.setF f).flags = f := rfl

/-! ## Flags (R450) -/

/-- The bits of FLAGS after Z, N and V were set. -/
theorem setZNV_bits (fl : BitVec 8) (r : W16) (v : Bool) :
    (setZNV fl r v).getLsbD 0 = (r == 0) ∧ (setZNV fl r v).getLsbD 1 = r.msb ∧ (setZNV fl r v).getLsbD 2 = v ∧
      ∀ i, 3 ≤ i → (setZNV fl r v).getLsbD i = fl.getLsbD i := by
  unfold setZNV
  generalize (r == 0) = z
  generalize r.msb = n
  refine ⟨?_, ?_, ?_, fun i hi => ?_⟩
  · cases z <;> cases n <;> cases v <;> simp [b2n] <;> decide
  · cases z <;> cases n <;> cases v <;> simp [b2n] <;> decide
  · cases z <;> cases n <;> cases v <;> simp [b2n] <;> decide
  · by_cases h8 : i < 8
    · have : i = 3 ∨ i = 4 ∨ i = 5 ∨ i = 6 ∨ i = 7 := by omega
      rcases this with rfl | rfl | rfl | rfl | rfl <;> cases z <;> cases n <;> cases v <;> simp [b2n] <;> decide
    · rw [BitVec.getLsbD_of_ge _ i (by omega), BitVec.getLsbD_of_ge _ i (by omega)]

/-- A sticky flag is set where its cause holds and else kept; every other flag is kept. -/
theorem stickFlag_bits (fl : BitVec 8) (i : Nat) (b : Bool) (hi : i < 8) :
    (stickFlag fl i b).getLsbD i = (fl.getLsbD i || b) ∧ ∀ j, j ≠ i → (stickFlag fl i b).getLsbD j = fl.getLsbD j := by
  unfold stickFlag
  cases b
  · simp
  · refine ⟨by simp [hi], fun j hj => ?_⟩
    by_cases h8 : j < 8
    · simp only [if_true, BitVec.getLsbD_or, BitVec.getLsbD_shiftLeft, h8]
      by_cases hl : j < i
      · simp [hl]
      · simp [hl, show j - i ≠ 0 by omega]
    · rw [BitVec.getLsbD_of_ge _ j (by omega), BitVec.getLsbD_of_ge _ j (by omega)]

/-- A flag that reflects the last operation; every other flag is kept. -/
theorem setFlag_bits (fl : BitVec 8) (i : Nat) (b : Bool) (hi : i < 8) :
    (setFlag fl i b).getLsbD i = b ∧ ∀ j, j ≠ i → (setFlag fl i b).getLsbD j = fl.getLsbD j := by
  cases b
  · unfold setFlag
    refine ⟨by simp, fun j hj => ?_⟩
    by_cases h8 : j < 8
    · simp only [Bool.false_eq_true, if_false, BitVec.getLsbD_and, BitVec.getLsbD_not, BitVec.getLsbD_shiftLeft, h8]
      by_cases hl : j < i
      · simp [hl]
      · simp [hl, show j - i ≠ 0 by omega]
    · rw [BitVec.getLsbD_of_ge _ j (by omega), BitVec.getLsbD_of_ge _ j (by omega)]
  · simpa [setFlag, stickFlag] using stickFlag_bits fl i true hi

/-! ## An instruction where its engine runs -/

theorem engExec_runs {e : Nat} {s : State} (h : Runs e s) (act : State → State) : engExec e act s = act s := by
  obtain ⟨hc, hw, he⟩ := h
  simp [engExec, hc, hw, he]

theorem regOp_runs {e : Nat} {s : State} (h : Runs e s) (f : Engine → Engine) :
    regOp e f s = s.setEngine e (f (s.engine e)).next := engExec_runs h _

/-- Setting one engine changes nothing but it. -/
theorem onlyEngine_setEngine (e : Nat) (s : State) (y : Engine) : OnlyEngine e s (s.setEngine e y) := by
  unfold OnlyEngine
  rw [engine_setEngine]

/-- What an instruction on registers comes to where its engine runs. -/
theorem acts_regOp {c : Instr} {e : Nat} {xs as ps : List Nat} {s : State} {q : Engine → Engine → Prop} {f : Engine → Engine}
    (h : Runs e s) (hx : exec c s = .next (regOp e f s)) (hk : ∀ x, EngineKept xs as ps x.next.pc x.next.loops x (f x).next)
    (hq : ∀ x, q x (f x).next) : Acts c e xs as ps s q := by
  refine ⟨_, hx, ?_⟩
  rw [regOp_runs h]
  exact ⟨onlyEngine_setEngine .., by simpa using hk _, by simpa using hq _⟩

/-! ## Traps (R143) -/

/-- A function that leaves the engines alone leaves each engine as it was. -/
theorem Keeps.engine {f : Nat} {s t : State} (h : Keeps f s t) (hf : f.testBit 6 = false) (j : Nat) : t.engine j = s.engine j := by
  have e : t.engines = s.engines := h.parts .engines hf
  unfold State.engine; rw [e]

/-- A function that leaves the dictionary alone leaves each register as it was. -/
theorem Keeps.reg {f : Nat} {s t : State} (h : Keeps f s t) (hf : f.testBit 3 = false) (k : Nat) : t.reg k = s.reg k := by
  have e : t.regs = s.regs := h.parts .regs hf
  unfold State.reg; rw [e]

/-- What the end of a control phase leaves of its engine. -/
theorem endPhase_engine (e : Nat) (s : State) :
    ((endPhase e s).engine e).faulted = (s.engine e).faulted ∧ ((endPhase e s).engine e).inCycle = false := by
  unfold endPhase
  extract_lets y s1
  have h1 : (s1.engine e).faulted = (s.engine e).faulted ∧ (s1.engine e).inCycle = false := by simp [s1, y]
  clear_value s1
  unfold engStopped engEnabled
  dsimp only
  rw [Keeps.engine (snapshotsEligible_keeps _ _) rfl]
  split
  · split
    · simpa using h1
    · simpa using h1
  · rw [Keeps.engine (snapshotsEligible_keeps _ _) rfl]; exact h1

/-- A trap: the engine is faulted, its cycle has ended, and where it is no law engine FAULT_CODE and FAULT_PC tell of it (R143). -/
theorem engTrap_spec (e code : Nat) (s : State) :
    ((engTrap e code s).engine e).faulted = true ∧ ((engTrap e code s).engine e).inCycle = false ∧
      (s.lawEngine e = false → (engTrap e code s).reg (Reg.FAULT_CODE e) = code ∧
        (engTrap e code s).reg (Reg.FAULT_PC e) = (s.engine e).pc.toNat) := by
  unfold engTrap
  extract_lets x law s1 _ s2 s3
  clear_value s1
  have h3 : (s3.engine e).faulted = true ∧ (s3.engine e).inCycle = false := by
    simp only [s3, setReg_engine, s2, endPhase_engine, engine_setEngine, and_self]
  have r3 : s3.reg (Reg.FAULT_CODE e) = code ∧ s3.reg (Reg.FAULT_PC e) = x.pc.toNat := by
    have a : Reg.FAULT_CODE e ≠ Reg.FAULT_TIME e := by unfold Reg.FAULT_CODE Reg.FAULT_TIME Reg.key; omega
    have b : Reg.FAULT_PC e ≠ Reg.FAULT_TIME e := by unfold Reg.FAULT_PC Reg.FAULT_TIME Reg.key; omega
    have c : Reg.FAULT_CODE e ≠ Reg.FAULT_PC e := by unfold Reg.FAULT_CODE Reg.FAULT_PC Reg.key; omega
    simp only [s3, reg_setReg, a, b, c, if_true, if_false, and_self]
  clear_value s3
  rw [Keeps.engine (reportFaults_keeps _) rfl, Keeps.reg (reportFaults_keeps _) rfl, Keeps.reg (reportFaults_keeps _) rfl]
  refine ⟨?_, ?_, fun hl => ?_⟩
  · split
    · rw [Keeps.engine (enterHold_keeps ..) rfl]; exact h3.1
    · exact h3.1
  · split
    · rw [Keeps.engine (enterHold_keeps ..) rfl]; exact h3.2
    · exact h3.2
  · rw [if_neg (by simp [law, hl])]; exact r3

end Sys2Proof.Machine
end

