-- ==== Sys2Proof/Laws/KeepsLawOps.lean ====
section
/-!
SUPPORT. What each function of Machine/LawOps.lean keeps, and which parts of the state it leaves alone.
-/

namespace Sys2Proof.Machine

theorem deriveBases_keeps (side : Nat) (s : State) : Keeps 8 s (deriveBases side s) := by
  have h0 := Keeps.refl 8 s
  unfold deriveBases
  try dsimp only
  repeat' (first
    | with_reducible apply Keeps.ite
    | with_reducible apply Keeps.iteFst
    | with_reducible apply Keeps.iteSnd
    | intro _
    | with_reducible assumption
    | ((with_reducible apply Keeps.step (State.setReg_keeps ..)); exact rfl)
    | fail_if_no_progress dsimp only)

theorem refreshBases_keeps (s : State) : Keeps 8 s (refreshBases s) := by
  have h0 := Keeps.refl 8 s
  unfold refreshBases
  try dsimp only
  repeat' (first
    | intro _
    | with_reducible assumption
    | ((with_reducible apply Keeps.step (State.setLs_keeps ..)); exact rfl)
    | fail_if_no_progress dsimp only)

theorem sampleInput_keeps (a : Nat) (s : State) : Keeps 32776 s (sampleInput a s) := by
  have h0 := Keeps.refl 32776 s
  unfold sampleInput
  try dsimp only
  repeat' (first
    | with_reducible apply Keeps.ite
    | with_reducible apply Keeps.iteFst
    | with_reducible apply Keeps.iteSnd
    | intro _
    | with_reducible assumption
    | ((with_reducible apply Keeps.step (State.setLaw_keeps ..)); exact rfl)
    | ((with_reducible apply Keeps.step (State.setLs_keeps ..)); exact rfl)
    | fail_if_no_progress dsimp only)

theorem sampleRound_keeps (b : Bool) (s : State) : Keeps 1207992328 s (sampleRound b s) := by
  have h0 := Keeps.refl 1207992328 s
  unfold sampleRound
  try dsimp only
  repeat' (first
    | intro _
    | with_reducible assumption
    | ((with_reducible apply Keeps.step (State.setLs_keeps ..)); exact rfl)
    | ((with_reducible apply Keeps.step (reportFaults_keeps ..)); exact rfl)
    | ((with_reducible apply Keeps.step (sampleInput_keeps ..)); exact rfl)
    | with_reducible apply Keeps.forEach
    | fail_if_no_progress dsimp only)

theorem State.setThread_keeps (s : State) (t : Nat) (x : Thread) : Keeps 32768 s (State.setThread s t x) := by
  have h0 := Keeps.refl 32768 s
  unfold State.setThread
  try dsimp only
  repeat' (first
    | intro _
    | with_reducible assumption
    | ((with_reducible apply Keeps.step (State.setLaw_keeps ..)); exact rfl)
    | fail_if_no_progress dsimp only)

theorem removeThreads_keeps (s : State) : Keeps 32776 s (removeThreads s) := by
  have h0 := Keeps.refl 32776 s
  unfold removeThreads
  try dsimp only
  repeat' (first
    | with_reducible apply Keeps.ite
    | with_reducible apply Keeps.iteFst
    | with_reducible apply Keeps.iteSnd
    | intro _
    | with_reducible assumption
    | ((with_reducible apply Keeps.step (State.setLs_keeps ..)); exact rfl)
    | ((with_reducible apply Keeps.step (State.setThread_keeps ..)); exact rfl)
    | with_reducible apply Keeps.forEach
    | fail_if_no_progress dsimp only)

theorem State.setResid_keeps (s : State) (b : Nat) (r : Rat) : Keeps 32776 s (State.setResid s b r) := by
  have h0 := Keeps.refl 32776 s
  unfold State.setResid
  try dsimp only
  repeat' (first
    | intro _
    | with_reducible assumption
    | ((with_reducible apply Keeps.step (State.setLaw_keeps ..)); exact rfl)
    | ((with_reducible apply Keeps.step (State.setMs_keeps ..)); exact rfl)
    | fail_if_no_progress dsimp only)

theorem decayResid_keeps (b : Nat) (period : Rat) (s : State) : Keeps 32776 s (decayResid b period s) := by
  have h0 := Keeps.refl 32776 s
  unfold decayResid
  try dsimp only
  repeat' (first
    | with_reducible apply Keeps.ite
    | with_reducible apply Keeps.iteFst
    | with_reducible apply Keeps.iteSnd
    | intro _
    | with_reducible assumption
    | ((with_reducible apply Keeps.step (State.setResid_keeps ..)); exact rfl)
    | fail_if_no_progress dsimp only)

theorem presetBlock_keeps (b : Nat) (yOut : Rat) (yIn0 : Rat) (bound : Rat) (s : State) : Keeps 32776 s (presetBlock b yOut yIn0 bound s).2 := by
  have h0 := Keeps.refl 32776 s
  unfold presetBlock
  try dsimp only
  repeat' (first
    | intro _
    | with_reducible assumption
    | ((with_reducible apply Keeps.step (State.setResid_keeps ..)); exact rfl)
    | fail_if_no_progress dsimp only)

theorem modulate_keeps (t : Nat) (u : List Rat) (u0 : Rat) (unp : Rat) (s : State) : Keeps 32768 s (modulate t u u0 unp s) := by
  have h0 := Keeps.refl 32768 s
  unfold modulate
  try dsimp only
  repeat' (first
    | intro _
    | with_reducible assumption
    | ((with_reducible apply Keeps.step (State.setThread_keeps ..)); exact rfl)
    | fail_if_no_progress dsimp only)

end Sys2Proof.Machine
end

