-- ==== Sys2Proof/Laws/KeepsRecOps.lean ====
section
/-!
SUPPORT. What each function of Machine/RecOps.lean keeps, and which parts of the state it leaves alone.
-/

namespace Sys2Proof.Machine

theorem State.setRc_keeps (s : State) (n : Nat) (r : Rec) : Keeps 4194304 s (State.setRc s n r) := by
  have h0 := Keeps.refl 4194304 s
  unfold State.setRc
  try dsimp only
  repeat' (first
    | intro _
    | with_reducible assumption
    | (fail_if_no_progress with_reducible apply Keeps.update) <;> first | ((with_reducible apply Or.inr); with_reducible rfl) | ((with_reducible apply Or.inl); first | exact rfl) | skip
    | fail_if_no_progress dsimp only)

theorem setRcState_keeps (n : Nat) (v : Nat) (s : State) : Keeps 8 s (setRcState n v s) := by
  have h0 := Keeps.refl 8 s
  unfold setRcState
  try dsimp only
  repeat' (first
    | intro _
    | with_reducible assumption
    | ((with_reducible apply Keeps.step (State.setFld_keeps ..)); exact rfl)
    | fail_if_no_progress dsimp only)

theorem setRcFlag_keeps (n : Nat) (f : Fld) (s : State) : Keeps 8 s (setRcFlag n f s) := by
  have h0 := Keeps.refl 8 s
  unfold setRcFlag
  try dsimp only
  repeat' (first
    | intro _
    | with_reducible assumption
    | ((with_reducible apply Keeps.step (State.setFlag_keeps ..)); exact rfl)
    | fail_if_no_progress dsimp only)

theorem setSlot_keeps (n : Nat) (i : Nat) (v : Nat) (s : State) : Keeps 8 s (setSlot n i v s) := by
  have h0 := Keeps.refl 8 s
  unfold setSlot
  try dsimp only
  repeat' (first
    | intro _
    | with_reducible assumption
    | ((with_reducible apply Keeps.step (State.setFld_keeps ..)); exact rfl)
    | fail_if_no_progress dsimp only)

theorem rcRead_keeps (src : Nat) (s : State) : Keeps 12 s (rcRead src s).2 := by
  have h0 := Keeps.refl 12 s
  unfold rcRead
  try dsimp only
  repeat' (first
    | with_reducible apply Keeps.ite
    | with_reducible apply Keeps.iteFst
    | with_reducible apply Keeps.iteSnd
    | intro _
    | with_reducible assumption
    | ((with_reducible apply Keeps.step (State.eccCheck_keeps ..)); exact rfl)
    | ((with_reducible apply Keeps.step (State.useFree_keeps ..)); exact rfl)
    | split
    | fail_if_no_progress dsimp only)

theorem rcReadAll_keeps (n : Nat) (s : State) : Keeps 12 s (rcReadAll n s).2 := by
  have h0 := Keeps.refl 12 s
  unfold rcReadAll
  try dsimp only
  repeat' (first
    | intro _
    | with_reducible assumption
    | ((with_reducible apply Keeps.step (rcRead_keeps ..)); exact rfl)
    | with_reducible apply Keeps.foldl
    | with_reducible apply Keeps.foldlFst
    | with_reducible apply Keeps.foldlSnd
    | fail_if_no_progress dsimp only)

theorem rcWrite_keeps (n : Nat) (a : Nat) (b : List Byte) (s : State) : Keeps 6291484 s (rcWrite n a b s) := by
  have h0 := Keeps.refl 6291484 s
  unfold rcWrite
  try dsimp only
  repeat' (first
    | with_reducible apply Keeps.ite
    | with_reducible apply Keeps.iteFst
    | with_reducible apply Keeps.iteSnd
    | intro _
    | with_reducible assumption
    | ((with_reducible apply Keeps.step (State.physWriteBy_keeps ..)); exact rfl)
    | ((with_reducible apply Keeps.step (State.setRc_keeps ..)); exact rfl)
    | fail_if_no_progress dsimp only)

theorem drainRows_keeps (n : Nat) (l : List (Nat × List Byte)) (s : State) : Keeps 6291484 s (drainRows n l s).2 := by
  induction l generalizing s with
  | nil => exact Keeps.refl _ _
  | cons e t ih =>
    unfold drainRows
    exact Keeps.iteSnd (Keeps.refl _ _) fun _ => (Keeps.step (rcWrite_keeps ..) rfl (Keeps.refl _ _)).trans (ih _)

theorem rcDrain_keeps (n : Nat) (s : State) : Keeps 6291484 s (rcDrain n s) := by
  have h0 := Keeps.refl 6291484 s
  unfold rcDrain
  try dsimp only
  repeat' (first
    | intro _
    | with_reducible assumption
    | ((with_reducible apply Keeps.step (State.setRc_keeps ..)); exact rfl)
    | ((with_reducible apply Keeps.step (drainRows_keeps ..)); exact rfl)
    | fail_if_no_progress dsimp only)

theorem rcFlush_keeps (n : Nat) (s : State) : Keeps 6291484 s (rcFlush n s) := by
  have h0 := Keeps.refl 6291484 s
  unfold rcFlush
  try dsimp only
  repeat' (first
    | intro _
    | with_reducible assumption
    | ((with_reducible apply Keeps.step (State.setRc_keeps ..)); exact rfl)
    | ((with_reducible apply Keeps.step (heldOf_keeps ..)); exact rfl)
    | ((with_reducible apply Keeps.step (rcWrite_keeps ..)); exact rfl)
    | with_reducible apply Keeps.foldl
    | with_reducible apply Keeps.foldlFst
    | with_reducible apply Keeps.foldlSnd
    | fail_if_no_progress dsimp only)

theorem setRed_keeps (n : Nat) (r : Nat) (x : Red) (s : State) : Keeps 4194304 s (setRed n r x s) := by
  have h0 := Keeps.refl 4194304 s
  unfold setRed
  try dsimp only
  repeat' (first
    | intro _
    | with_reducible assumption
    | ((with_reducible apply Keeps.step (State.setRc_keeps ..)); exact rfl)
    | fail_if_no_progress dsimp only)

theorem writeRow_keeps (n : Nat) (r : Nat) (first : Nat) (mask : Nat) (cnt : Nat) (data : List Int) (s : State) : Keeps 6291484 s (writeRow n r first mask cnt data s) := by
  have h0 := Keeps.refl 6291484 s
  unfold writeRow
  try dsimp only
  repeat' (first
    | with_reducible apply Keeps.ite
    | with_reducible apply Keeps.iteFst
    | with_reducible apply Keeps.iteSnd
    | intro _
    | with_reducible assumption
    | ((with_reducible apply Keeps.step (State.bump_keeps ..)); exact rfl)
    | ((with_reducible apply Keeps.step (State.setRc_keeps ..)); exact rfl)
    | ((with_reducible apply Keeps.step (State.setReg_keeps ..)); exact rfl)
    | ((with_reducible apply Keeps.step (rcDrain_keeps ..)); exact rfl)
    | ((with_reducible apply Keeps.step (setRcFlag_keeps ..)); exact rfl)
    | ((with_reducible apply Keeps.step (setRed_keeps ..)); exact rfl)
    | fail_if_no_progress dsimp only)

theorem endInterval_keeps (n : Nat) (r : Nat) (s : State) : Keeps 6291484 s (endInterval n r s) := by
  have h0 := Keeps.refl 6291484 s
  unfold endInterval
  try dsimp only
  repeat' (first
    | with_reducible apply Keeps.ite
    | with_reducible apply Keeps.iteFst
    | with_reducible apply Keeps.iteSnd
    | intro _
    | with_reducible assumption
    | ((with_reducible apply Keeps.step (setRed_keeps ..)); exact rfl)
    | ((with_reducible apply Keeps.step (writeRow_keeps ..)); exact rfl)
    | fail_if_no_progress dsimp only)

theorem redSample_keeps (n : Nat) (sn : Nat) (vals : List (Int × Bool)) (r : Nat) (s : State) : Keeps 6291484 s (redSample n sn vals r s) := by
  have h0 := Keeps.refl 6291484 s
  unfold redSample
  try dsimp only
  repeat' (first
    | with_reducible apply Keeps.ite
    | with_reducible apply Keeps.iteFst
    | with_reducible apply Keeps.iteSnd
    | intro _
    | with_reducible assumption
    | ((with_reducible apply Keeps.step (endInterval_keeps ..)); exact rfl)
    | ((with_reducible apply Keeps.step (setRed_keeps ..)); exact rfl)
    | ((with_reducible apply Keeps.step (writeRow_keeps ..)); exact rfl)
    | fail_if_no_progress dsimp only)

theorem endPassed_keeps (n : Nat) (sn : Nat) (s : State) : Keeps 6291484 s (endPassed n sn s) := by
  have h0 := Keeps.refl 6291484 s
  unfold endPassed
  try dsimp only
  repeat' (first
    | with_reducible apply Keeps.ite
    | with_reducible apply Keeps.iteFst
    | with_reducible apply Keeps.iteSnd
    | intro _
    | with_reducible assumption
    | ((with_reducible apply Keeps.step (endInterval_keeps ..)); exact rfl)
    | with_reducible apply Keeps.forEach
    | split
    | fail_if_no_progress dsimp only)

theorem rcFull_keeps (n : Nat) (s : State) : Keeps 8 s (rcFull n s) := by
  have h0 := Keeps.refl 8 s
  unfold rcFull
  try dsimp only
  repeat' (first
    | intro _
    | with_reducible assumption
    | ((with_reducible apply Keeps.step (State.setReg_keeps ..)); exact rfl)
    | ((with_reducible apply Keeps.step (setRcState_keeps ..)); exact rfl)
    | fail_if_no_progress dsimp only)

theorem armSlot_keeps (n : Nat) (i : Nat) (s : State) : Keeps 4194312 s (armSlot n i s) := by
  have h0 := Keeps.refl 4194312 s
  unfold armSlot
  try dsimp only
  repeat' (first
    | intro _
    | with_reducible assumption
    | ((with_reducible apply Keeps.step (State.setRc_keeps ..)); exact rfl)
    | ((with_reducible apply Keeps.step (State.setReg_keeps ..)); exact rfl)
    | ((with_reducible apply Keeps.step (setRcState_keeps ..)); exact rfl)
    | ((with_reducible apply Keeps.step (setSlot_keeps ..)); exact rfl)
    | fail_if_no_progress dsimp only)

theorem rearm_keeps (n : Nat) (s : State) : Keeps 4194312 s (rearm n s) := by
  have h0 := Keeps.refl 4194312 s
  unfold rearm
  try dsimp only
  repeat' (first
    | with_reducible apply Keeps.ite
    | with_reducible apply Keeps.iteFst
    | with_reducible apply Keeps.iteSnd
    | intro _
    | with_reducible assumption
    | ((with_reducible apply Keeps.step (armSlot_keeps ..)); exact rfl)
    | ((with_reducible apply Keeps.step (rcFull_keeps ..)); exact rfl)
    | split
    | fail_if_no_progress dsimp only)

theorem closeRecord_keeps (n : Nat) (trunc : Bool) (s : State) : Keeps 6291484 s (closeRecord n trunc s) := by
  have h0 := Keeps.refl 6291484 s
  unfold closeRecord
  try dsimp only
  repeat' (first
    | with_reducible apply Keeps.ite
    | with_reducible apply Keeps.iteFst
    | with_reducible apply Keeps.iteSnd
    | intro _
    | with_reducible assumption
    | ((with_reducible apply Keeps.step (State.bump_keeps ..)); exact rfl)
    | ((with_reducible apply Keeps.step (State.physWrite_keeps ..)); exact rfl)
    | ((with_reducible apply Keeps.step (State.setRc_keeps ..)); exact rfl)
    | ((with_reducible apply Keeps.step (State.setReg_keeps ..)); exact rfl)
    | ((with_reducible apply Keeps.step (rcFlush_keeps ..)); exact rfl)
    | ((with_reducible apply Keeps.step (setRcFlag_keeps ..)); exact rfl)
    | ((with_reducible apply Keeps.step (setSlot_keeps ..)); exact rfl)
    | split
    | fail_if_no_progress dsimp only)

theorem closeCheck_keeps (n : Nat) (s : State) : Keeps 6291484 s (closeCheck n s) := by
  have h0 := Keeps.refl 6291484 s
  unfold closeCheck
  try dsimp only
  repeat' (first
    | with_reducible apply Keeps.ite
    | with_reducible apply Keeps.iteFst
    | with_reducible apply Keeps.iteSnd
    | intro _
    | with_reducible assumption
    | ((with_reducible apply Keeps.step (closeRecord_keeps ..)); exact rfl)
    | ((with_reducible apply Keeps.step (rcFull_keeps ..)); exact rfl)
    | ((with_reducible apply Keeps.step (rearm_keeps ..)); exact rfl)
    | fail_if_no_progress dsimp only)

theorem trigIgnored_keeps (n : Nat) (s : State) : Keeps 12 s (trigIgnored n s) := by
  have h0 := Keeps.refl 12 s
  unfold trigIgnored
  try dsimp only
  repeat' (first
    | intro _
    | with_reducible assumption
    | ((with_reducible apply Keeps.step (State.bump_keeps ..)); exact rfl)
    | ((with_reducible apply Keeps.step (setRcFlag_keeps ..)); exact rfl)
    | fail_if_no_progress dsimp only)

theorem lastTrig_keeps (n : Nat) (t : RecTrig) (s : State) : Keeps 8 s (lastTrig n t s) := by
  have h0 := Keeps.refl 8 s
  unfold lastTrig
  try dsimp only
  repeat' (first
    | with_reducible apply Keeps.ite
    | with_reducible apply Keeps.iteFst
    | with_reducible apply Keeps.iteSnd
    | intro _
    | with_reducible assumption
    | ((with_reducible apply Keeps.step (State.setReg_keeps ..)); exact rfl)
    | fail_if_no_progress dsimp only)

theorem rcTrigger_keeps (n : Nat) (b : Nat) (at_ : Nat) (reg : Instant) (s : State) : Keeps 4194316 s (rcTrigger n b at_ reg s).2 := by
  have h0 := Keeps.refl 4194316 s
  unfold rcTrigger
  try dsimp only
  repeat' (first
    | with_reducible apply Keeps.ite
    | with_reducible apply Keeps.iteFst
    | with_reducible apply Keeps.iteSnd
    | intro _
    | with_reducible assumption
    | ((with_reducible apply Keeps.step (State.bump_keeps ..)); exact rfl)
    | ((with_reducible apply Keeps.step (State.setRc_keeps ..)); exact rfl)
    | ((with_reducible apply Keeps.step (lastTrig_keeps ..)); exact rfl)
    | ((with_reducible apply Keeps.step (setRcFlag_keeps ..)); exact rfl)
    | ((with_reducible apply Keeps.step (setRcState_keeps ..)); exact rfl)
    | ((with_reducible apply Keeps.step (setSlot_keeps ..)); exact rfl)
    | ((with_reducible apply Keeps.step (trigIgnored_keeps ..)); exact rfl)
    | split
    | fail_if_no_progress dsimp only)

theorem drivePulse_keeps (l : Nat) (t0 : Instant) (width : Instant) (s : State) : Keeps 1082130432 s (drivePulse l t0 width s) := by
  have h0 := Keeps.refl 1082130432 s
  unfold drivePulse
  try dsimp only
  repeat' (first
    | intro _
    | with_reducible assumption
    | ((with_reducible apply Keeps.step (State.emit_keeps ..)); exact rfl)
    | (fail_if_no_progress with_reducible apply Keeps.update) <;> first | ((with_reducible apply Or.inr); with_reducible rfl) | ((with_reducible apply Or.inl); first | exact rfl) | skip
    | fail_if_no_progress dsimp only)

theorem driveTrig_keeps (n : Nat) (reg : Instant) (s : State) : Keeps 1086324748 s (driveTrig n reg s) := by
  have h0 := Keeps.refl 1086324748 s
  unfold driveTrig
  try dsimp only
  repeat' (first
    | with_reducible apply Keeps.ite
    | with_reducible apply Keeps.iteFst
    | with_reducible apply Keeps.iteSnd
    | intro _
    | with_reducible assumption
    | ((with_reducible apply Keeps.step (State.setRc_keeps ..)); exact rfl)
    | ((with_reducible apply Keeps.step (drivePulse_keeps ..)); exact rfl)
    | ((with_reducible apply Keeps.step (rcTrigger_keeps ..)); exact rfl)
    | with_reducible apply Keeps.forEach
    | fail_if_no_progress dsimp only)

theorem ownTrigger_keeps (n : Nat) (b : Nat) (at_ : Nat) (reg : Instant) (s : State) : Keeps 1086324748 s (ownTrigger n b at_ reg s) := by
  have h0 := Keeps.refl 1086324748 s
  unfold ownTrigger
  try dsimp only
  repeat' (first
    | with_reducible apply Keeps.ite
    | with_reducible apply Keeps.iteFst
    | with_reducible apply Keeps.iteSnd
    | intro _
    | with_reducible assumption
    | ((with_reducible apply Keeps.step (driveTrig_keeps ..)); exact rfl)
    | ((with_reducible apply Keeps.step (rcTrigger_keeps ..)); exact rfl)
    | fail_if_no_progress dsimp only)

theorem condReset_keeps (n : Nat) (k : Nat) (s : State) : Keeps 4194304 s (condReset n k s) := by
  have h0 := Keeps.refl 4194304 s
  unfold condReset
  try dsimp only
  repeat' (first
    | intro _
    | with_reducible assumption
    | ((with_reducible apply Keeps.step (State.setRc_keeps ..)); exact rfl)
    | fail_if_no_progress dsimp only)

theorem condSample_keeps (n : Nat) (sn : Nat) (vals : List (Int × Bool)) (k : Nat) (s : State) : Keeps 1086324748 s (condSample n sn vals k s) := by
  have h0 := Keeps.refl 1086324748 s
  unfold condSample
  try dsimp only
  repeat' (first
    | with_reducible apply Keeps.ite
    | with_reducible apply Keeps.iteFst
    | with_reducible apply Keeps.iteSnd
    | intro _
    | with_reducible assumption
    | ((with_reducible apply Keeps.step (State.setRc_keeps ..)); exact rfl)
    | ((with_reducible apply Keeps.step (State.useFree_keeps ..)); exact rfl)
    | ((with_reducible apply Keeps.step (ownTrigger_keeps ..)); exact rfl)
    | fail_if_no_progress dsimp only)

theorem trigSample_keeps (n : Nat) (sn : Nat) (s : State) : Keeps 4194304 s (trigSample n sn s) := by
  have h0 := Keeps.refl 4194304 s
  unfold trigSample
  try dsimp only
  repeat' (first
    | with_reducible apply Keeps.ite
    | with_reducible apply Keeps.iteFst
    | with_reducible apply Keeps.iteSnd
    | intro _
    | with_reducible assumption
    | ((with_reducible apply Keeps.step (State.setRc_keeps ..)); exact rfl)
    | ((with_reducible apply Keeps.step (setRed_keeps ..)); exact rfl)
    | with_reducible apply Keeps.forEach
    | split
    | fail_if_no_progress dsimp only)

theorem rcSample_keeps (n : Nat) (s : State) : Keeps 1088421916 s (rcSample n s) := by
  have h0 := Keeps.refl 1088421916 s
  unfold rcSample
  try dsimp only
  repeat' (first
    | with_reducible apply Keeps.ite
    | with_reducible apply Keeps.iteFst
    | with_reducible apply Keeps.iteSnd
    | intro _
    | with_reducible assumption
    | ((with_reducible apply Keeps.step (State.setRc_keeps ..)); exact rfl)
    | ((with_reducible apply Keeps.step (armSlot_keeps ..)); exact rfl)
    | ((with_reducible apply Keeps.step (closeCheck_keeps ..)); exact rfl)
    | ((with_reducible apply Keeps.step (condSample_keeps ..)); exact rfl)
    | ((with_reducible apply Keeps.step (endPassed_keeps ..)); exact rfl)
    | ((with_reducible apply Keeps.step (heldExpire_keeps ..)); exact rfl)
    | ((with_reducible apply Keeps.step (rcDrain_keeps ..)); exact rfl)
    | ((with_reducible apply Keeps.step (rcFull_keeps ..)); exact rfl)
    | ((with_reducible apply Keeps.step (rcReadAll_keeps ..)); exact rfl)
    | ((with_reducible apply Keeps.step (redSample_keeps ..)); exact rfl)
    | ((with_reducible apply Keeps.step (trigSample_keeps ..)); exact rfl)
    | with_reducible apply Keeps.forEach
    | split
    | fail_if_no_progress dsimp only)

theorem slotRead_keeps (n : Nat) (i : Nat) (s : State) : Keeps 12 s (slotRead n i s).2 := by
  have h0 := Keeps.refl 12 s
  unfold slotRead
  try dsimp only
  repeat' (first
    | intro _
    | with_reducible assumption
    | ((with_reducible apply Keeps.step (State.eccCheck_keeps ..)); exact rfl)
    | fail_if_no_progress dsimp only)

theorem slotsKept_keeps (n : Nat) (s : State) : Keeps 12 s (slotsKept n s).2 := by
  have h0 := Keeps.refl 12 s
  unfold slotsKept
  try dsimp only
  repeat' (first
    | with_reducible apply Keeps.ite
    | with_reducible apply Keeps.iteFst
    | with_reducible apply Keeps.iteSnd
    | intro _
    | with_reducible assumption
    | ((with_reducible apply Keeps.step (slotRead_keeps ..)); exact rfl)
    | with_reducible apply Keeps.foldl
    | with_reducible apply Keeps.foldlFst
    | with_reducible apply Keeps.foldlSnd
    | fail_if_no_progress dsimp only)

theorem rcStart_keeps (n : Nat) (s : State) : Keeps 4194316 s (rcStart n s) := by
  have h0 := Keeps.refl 4194316 s
  unfold rcStart
  try dsimp only
  repeat' (first
    | with_reducible apply Keeps.ite
    | with_reducible apply Keeps.iteFst
    | with_reducible apply Keeps.iteSnd
    | intro _
    | with_reducible assumption
    | ((with_reducible apply Keeps.step (State.setFlag_keeps ..)); exact rfl)
    | ((with_reducible apply Keeps.step (State.setRc_keeps ..)); exact rfl)
    | ((with_reducible apply Keeps.step (State.setReg_keeps ..)); exact rfl)
    | ((with_reducible apply Keeps.step (setRcState_keeps ..)); exact rfl)
    | ((with_reducible apply Keeps.step (setSlot_keeps ..)); exact rfl)
    | ((with_reducible apply Keeps.step (slotsKept_keeps ..)); exact rfl)
    | with_reducible apply Keeps.forEach
    | fail_if_no_progress dsimp only)

theorem rcStopped_keeps (n : Nat) (s : State) : Keeps 4194312 s (rcStopped n s) := by
  have h0 := Keeps.refl 4194312 s
  unfold rcStopped
  try dsimp only
  repeat' (first
    | intro _
    | with_reducible assumption
    | ((with_reducible apply Keeps.step (State.setRc_keeps ..)); exact rfl)
    | ((with_reducible apply Keeps.step (State.setReg_keeps ..)); exact rfl)
    | fail_if_no_progress dsimp only)

theorem rcShutdown_keeps (n : Nat) (s : State) : Keeps 6291484 s (rcShutdown n s) := by
  have h0 := Keeps.refl 6291484 s
  unfold rcShutdown
  try dsimp only
  repeat' (first
    | with_reducible apply Keeps.ite
    | with_reducible apply Keeps.iteFst
    | with_reducible apply Keeps.iteSnd
    | intro _
    | with_reducible assumption
    | ((with_reducible apply Keeps.step (State.setRc_keeps ..)); exact rfl)
    | ((with_reducible apply Keeps.step (closeRecord_keeps ..)); exact rfl)
    | ((with_reducible apply Keeps.step (rcStopped_keeps ..)); exact rfl)
    | ((with_reducible apply Keeps.step (setRcState_keeps ..)); exact rfl)
    | ((with_reducible apply Keeps.step (setSlot_keeps ..)); exact rfl)
    | fail_if_no_progress dsimp only)

theorem rcEnable_keeps (n : Nat) (on : Bool) (s : State) : Keeps 6291484 s (rcEnable n on s) := by
  have h0 := Keeps.refl 6291484 s
  unfold rcEnable
  try dsimp only
  repeat' (first
    | with_reducible apply Keeps.ite
    | with_reducible apply Keeps.iteFst
    | with_reducible apply Keeps.iteSnd
    | intro _
    | with_reducible assumption
    | ((with_reducible apply Keeps.step (State.setFlag_keeps ..)); exact rfl)
    | ((with_reducible apply Keeps.step (rcShutdown_keeps ..)); exact rfl)
    | ((with_reducible apply Keeps.step (rcStart_keeps ..)); exact rfl)
    | fail_if_no_progress dsimp only)

theorem rcOff_keeps (n : Nat) (s : State) : Keeps 6291484 s (rcOff n s) := by
  have h0 := Keeps.refl 6291484 s
  unfold rcOff
  try dsimp only
  repeat' (first
    | with_reducible apply Keeps.ite
    | with_reducible apply Keeps.iteFst
    | with_reducible apply Keeps.iteSnd
    | intro _
    | with_reducible assumption
    | ((with_reducible apply Keeps.step (State.setFlag_keeps ..)); exact rfl)
    | ((with_reducible apply Keeps.step (State.setRc_keeps ..)); exact rfl)
    | ((with_reducible apply Keeps.step (closeRecord_keeps ..)); exact rfl)
    | ((with_reducible apply Keeps.step (rcStart_keeps ..)); exact rfl)
    | ((with_reducible apply Keeps.step (rcStopped_keeps ..)); exact rfl)
    | ((with_reducible apply Keeps.step (setRcState_keeps ..)); exact rfl)
    | fail_if_no_progress dsimp only)

theorem calPulse_keeps (c : TbCal) (s : State) : Keeps 1082130432 s (calPulse c s) := by
  have h0 := Keeps.refl 1082130432 s
  unfold calPulse
  try dsimp only
  repeat' (first
    | intro _
    | with_reducible assumption
    | ((with_reducible apply Keeps.step (drivePulse_keeps ..)); exact rfl)
    | split
    | (fail_if_no_progress with_reducible apply Keeps.update) <;> first | ((with_reducible apply Or.inr); with_reducible rfl) | ((with_reducible apply Or.inl); first | exact rfl) | skip
    | fail_if_no_progress dsimp only)

theorem calNextLine_keeps (lines : List Nat) (bad : Bool) (s : State) : Keeps 1082130440 s (calNextLine lines bad s) := by
  have h0 := Keeps.refl 1082130440 s
  unfold calNextLine
  try dsimp only
  repeat' (first
    | with_reducible apply Keeps.ite
    | with_reducible apply Keeps.iteFst
    | with_reducible apply Keeps.iteSnd
    | intro _
    | with_reducible assumption
    | ((with_reducible apply Keeps.step (State.setFlag_keeps ..)); exact rfl)
    | ((with_reducible apply Keeps.step (State.setFld_keeps ..)); exact rfl)
    | ((with_reducible apply Keeps.step (State.setReg_keeps ..)); exact rfl)
    | ((with_reducible apply Keeps.step (calPulse_keeps ..)); exact rfl)
    | split
    | (fail_if_no_progress with_reducible apply Keeps.update) <;> first | ((with_reducible apply Or.inr); with_reducible rfl) | ((with_reducible apply Or.inl); first | exact rfl) | skip
    | fail_if_no_progress dsimp only)

theorem calRound_keeps (c : TbCal) (s : State) : Keeps 1082392588 s (calRound c s) := by
  have h0 := Keeps.refl 1082392588 s
  unfold calRound
  try dsimp only
  repeat' (first
    | with_reducible apply Keeps.ite
    | with_reducible apply Keeps.iteFst
    | with_reducible apply Keeps.iteSnd
    | intro _
    | with_reducible assumption
    | ((with_reducible apply Keeps.step (State.setFld_keeps ..)); exact rfl)
    | ((with_reducible apply Keeps.step (State.setReg_keeps ..)); exact rfl)
    | ((with_reducible apply Keeps.step (State.useFree_keeps ..)); exact rfl)
    | ((with_reducible apply Keeps.step (calNextLine_keeps ..)); exact rfl)
    | ((with_reducible apply Keeps.step (calPulse_keeps ..)); exact rfl)
    | ((with_reducible apply Keeps.step (storeRws_keeps ..)); exact rfl)
    | split
    | fail_if_no_progress dsimp only)

theorem ixReadAt_keeps (a : Nat) (s : State) : Keeps 12 s (ixReadAt a s) := by
  have h0 := Keeps.refl 12 s
  unfold ixReadAt
  try dsimp only
  repeat' (first
    | intro _
    | with_reducible assumption
    | ((with_reducible apply Keeps.step (State.eccCheck_keeps ..)); exact rfl)
    | ((with_reducible apply Keeps.step (State.physRead_keeps ..)); exact rfl)
    | ((with_reducible apply Keeps.step (State.setReg_keeps ..)); exact rfl)
    | with_reducible apply Keeps.forEach
    | fail_if_no_progress dsimp only)

theorem setRdData_keeps (l : List Byte) (s : State) : Keeps 8 s (setRdData l s) := by
  have h0 := Keeps.refl 8 s
  unfold setRdData
  try dsimp only
  repeat' (first
    | intro _
    | with_reducible assumption
    | ((with_reducible apply Keeps.step (State.setReg_keeps ..)); exact rfl)
    | with_reducible apply Keeps.forEach
    | fail_if_no_progress dsimp only)

theorem State.regionIndex_keeps (s : State) (n : Nat) (i : Nat) (r : Nat) : Keeps 12 s (State.regionIndex s n i r).2 := by
  have h0 := Keeps.refl 12 s
  unfold State.regionIndex
  try dsimp only
  repeat' (first
    | intro _
    | with_reducible assumption
    | ((with_reducible apply Keeps.step (State.eccCheck_keeps ..)); exact rfl)
    | fail_if_no_progress dsimp only)

theorem rdFailed_keeps (s : State) : Keeps 8 s (rdFailed s) := by
  have h0 := Keeps.refl 8 s
  unfold rdFailed
  try dsimp only
  repeat' (first
    | intro _
    | with_reducible assumption
    | ((with_reducible apply Keeps.step (State.setReg_keeps ..)); exact rfl)
    | ((with_reducible apply Keeps.step (setRdData_keeps ..)); exact rfl)
    | fail_if_no_progress dsimp only)

theorem rdReadAt_keeps (n : Nat) (i : Nat) (r : Nat) (ofs : Nat) (s : State) : Keeps 12 s (rdReadAt n i r ofs s).1 := by
  have h0 := Keeps.refl 12 s
  unfold rdReadAt
  try dsimp only
  repeat' (first
    | with_reducible apply Keeps.ite
    | with_reducible apply Keeps.iteFst
    | with_reducible apply Keeps.iteSnd
    | intro _
    | with_reducible assumption
    | ((with_reducible apply Keeps.step (State.eccCheck_keeps ..)); exact rfl)
    | ((with_reducible apply Keeps.step (State.regionIndex_keeps ..)); exact rfl)
    | ((with_reducible apply Keeps.step (State.setReg_keeps ..)); exact rfl)
    | ((with_reducible apply Keeps.step (rdFailed_keeps ..)); exact rfl)
    | ((with_reducible apply Keeps.step (setRdData_keeps ..)); exact rfl)
    | fail_if_no_progress dsimp only)

theorem waitDone_keeps (w : MemWait) (s : State) : Keeps 6291516 s (waitDone w s) := by
  have h0 := Keeps.refl 6291516 s
  unfold waitDone
  try dsimp only
  repeat' (first
    | intro _
    | with_reducible assumption
    | ((with_reducible apply Keeps.step (ixReadAt_keeps ..)); exact rfl)
    | ((with_reducible apply Keeps.step (memReadAt_keeps ..)); exact rfl)
    | ((with_reducible apply Keeps.step (memWriteAt_keeps ..)); exact rfl)
    | ((with_reducible apply Keeps.step (rdReadAt_keeps ..)); exact rfl)
    | split
    | fail_if_no_progress dsimp only)

theorem memServe_keeps (s : State) : Keeps 6291516 s (memServe s) := by
  have h0 := Keeps.refl 6291516 s
  unfold memServe
  try dsimp only
  repeat' (first
    | intro _
    | with_reducible assumption
    | ((with_reducible apply Keeps.step (heldExpire_keeps ..)); exact rfl)
    | ((with_reducible apply Keeps.step (waitDone_keeps ..)); exact rfl)
    | with_reducible apply Keeps.forEach
    | (fail_if_no_progress with_reducible apply Keeps.update) <;> first | ((with_reducible apply Or.inr); with_reducible rfl) | ((with_reducible apply Or.inl); first | exact rfl) | skip
    | fail_if_no_progress dsimp only)

end Sys2Proof.Machine
end

