-- ==== Sys2Proof/Laws/KeepsAgeOps.lean ====
section
/-!
SUPPORT. What each function of Machine/AgeOps.lean keeps, and which parts of the state it leaves alone.
-/

namespace Sys2Proof.Machine

theorem State.setMod_keeps (s : State) (k : Nat) (m : Module) : Keeps 67108864 s (State.setMod s k m) := by
  have h0 := Keeps.refl 67108864 s
  unfold State.setMod
  try dsimp only
  repeat' (first
    | intro _
    | with_reducible assumption
    | (fail_if_no_progress with_reducible apply Keeps.update) <;> first | ((with_reducible apply Or.inr); with_reducible rfl) | ((with_reducible apply Or.inl); first | exact rfl) | skip
    | fail_if_no_progress dsimp only)

theorem vonSample_keeps (k : Nat) (s : State) : Keeps 67108876 s (vonSample k s) := by
  have h0 := Keeps.refl 67108876 s
  unfold vonSample
  try dsimp only
  repeat' (first
    | with_reducible apply Keeps.ite
    | with_reducible apply Keeps.iteFst
    | with_reducible apply Keeps.iteSnd
    | intro _
    | with_reducible assumption
    | ((with_reducible apply Keeps.step (State.setMod_keeps ..)); exact rfl)
    | ((with_reducible apply Keeps.step (State.setReg_keeps ..)); exact rfl)
    | ((with_reducible apply Keeps.step (State.useFree_keeps ..)); exact rfl)
    | ((with_reducible apply Keeps.step (setOpen_keeps ..)); exact rfl)
    | split
    | fail_if_no_progress dsimp only)

theorem driftEnd_keeps (k : Nat) (s : State) : Keeps 67108876 s (driftEnd k s) := by
  have h0 := Keeps.refl 67108876 s
  unfold driftEnd
  try dsimp only
  repeat' (first
    | with_reducible apply Keeps.ite
    | with_reducible apply Keeps.iteFst
    | with_reducible apply Keeps.iteSnd
    | intro _
    | with_reducible assumption
    | ((with_reducible apply Keeps.step (State.setMod_keeps ..)); exact rfl)
    | ((with_reducible apply Keeps.step (State.setReg_keeps ..)); exact rfl)
    | ((with_reducible apply Keeps.step (State.useFree_keeps ..)); exact rfl)
    | ((with_reducible apply Keeps.step (setOpen_keeps ..)); exact rfl)
    | split
    | fail_if_no_progress dsimp only)

theorem driftReport_keeps (k : Nat) (p : Nat) (n : Nat) (on : Bool) (code : Nat) (dvdt : Nat) (s : State) : Keeps 67108876 s (driftReport k p n on code dvdt s) := by
  have h0 := Keeps.refl 67108876 s
  unfold driftReport
  try dsimp only
  repeat' (first
    | with_reducible apply Keeps.ite
    | with_reducible apply Keeps.iteFst
    | with_reducible apply Keeps.iteSnd
    | intro _
    | with_reducible assumption
    | ((with_reducible apply Keeps.step (State.setMod_keeps ..)); exact rfl)
    | ((with_reducible apply Keeps.step (driftEnd_keeps ..)); exact rfl)
    | fail_if_no_progress dsimp only)

theorem countCycle_keeps (k : Nat) (r : Rat) (s : State) : Keeps 67108868 s (countCycle k r s) := by
  have h0 := Keeps.refl 67108868 s
  unfold countCycle
  try dsimp only
  repeat' (first
    | with_reducible apply Keeps.ite
    | with_reducible apply Keeps.iteFst
    | with_reducible apply Keeps.iteSnd
    | intro _
    | with_reducible assumption
    | ((with_reducible apply Keeps.step (State.setMod_keeps ..)); exact rfl)
    | ((with_reducible apply Keeps.step (State.useFree_keeps ..)); exact rfl)
    | fail_if_no_progress dsimp only)

theorem rainflow_keeps (k : Nat) (tj : Rat) (s : State) : Keeps 67108868 s (rainflow k tj s) := by
  have h0 := Keeps.refl 67108868 s
  unfold rainflow
  try dsimp only
  repeat' (first
    | with_reducible apply Keeps.ite
    | with_reducible apply Keeps.iteFst
    | with_reducible apply Keeps.iteSnd
    | intro _
    | with_reducible assumption
    | ((with_reducible apply Keeps.step (State.setMod_keeps ..)); exact rfl)
    | ((with_reducible apply Keeps.step (countCycle_keeps ..)); exact rfl)
    | with_reducible apply Keeps.foldl
    | with_reducible apply Keeps.foldlFst
    | with_reducible apply Keeps.foldlSnd
    | split
    | fail_if_no_progress dsimp only)

theorem thermalStep_keeps (k : Nat) (s : State) : Keeps 67108876 s (thermalStep k s) := by
  have h0 := Keeps.refl 67108876 s
  unfold thermalStep
  try dsimp only
  repeat' (first
    | with_reducible apply Keeps.ite
    | with_reducible apply Keeps.iteFst
    | with_reducible apply Keeps.iteSnd
    | intro _
    | with_reducible assumption
    | ((with_reducible apply Keeps.step (State.setMod_keeps ..)); exact rfl)
    | ((with_reducible apply Keeps.step (rainflow_keeps ..)); exact rfl)
    | ((with_reducible apply Keeps.step (setOpen_keeps ..)); exact rfl)
    | fail_if_no_progress dsimp only)

theorem baselineReset_keeps (k : Nat) (s : State) : Keeps 67108872 s (baselineReset k s) := by
  have h0 := Keeps.refl 67108872 s
  unfold baselineReset
  try dsimp only
  repeat' (first
    | intro _
    | with_reducible assumption
    | ((with_reducible apply Keeps.step (State.setMod_keeps ..)); exact rfl)
    | ((with_reducible apply Keeps.step (State.setReg_keeps ..)); exact rfl)
    | fail_if_no_progress dsimp only)

theorem planRecord_keeps (item : Nat) (reason : Nat) (old : Nat) (new : Nat) (s : State) : Keeps 1208221704 s (planRecord item reason old new s) := by
  have h0 := Keeps.refl 1208221704 s
  unfold planRecord
  try dsimp only
  repeat' (first
    | with_reducible apply Keeps.ite
    | with_reducible apply Keeps.iteFst
    | with_reducible apply Keeps.iteSnd
    | intro _
    | with_reducible assumption
    | ((with_reducible apply Keeps.step (State.note_keeps ..)); exact rfl)
    | ((with_reducible apply Keeps.step (pushLog_keeps ..)); exact rfl)
    | fail_if_no_progress dsimp only)

theorem planGuard_keeps (reason : Nat) (s : State) : Keeps 1208221704 s (planGuard reason s) := by
  have h0 := Keeps.refl 1208221704 s
  unfold planGuard
  try dsimp only
  repeat' (first
    | with_reducible apply Keeps.ite
    | with_reducible apply Keeps.iteFst
    | with_reducible apply Keeps.iteSnd
    | intro _
    | with_reducible assumption
    | ((with_reducible apply Keeps.step (State.setReg_keeps ..)); exact rfl)
    | ((with_reducible apply Keeps.step (planRecord_keeps ..)); exact rfl)
    | with_reducible apply Keeps.foldl
    | with_reducible apply Keeps.foldlFst
    | with_reducible apply Keeps.foldlSnd
    | fail_if_no_progress dsimp only)

theorem planLimit_keeps (reason : Nat) (s : State) : Keeps 1208254476 s (planLimit reason s) := by
  have h0 := Keeps.refl 1208254476 s
  unfold planLimit
  try dsimp only
  repeat' (first
    | with_reducible apply Keeps.ite
    | with_reducible apply Keeps.iteFst
    | with_reducible apply Keeps.iteSnd
    | intro _
    | with_reducible assumption
    | ((with_reducible apply Keeps.step (State.openRound_keeps ..)); exact rfl)
    | ((with_reducible apply Keeps.step (State.setLaw_keeps ..)); exact rfl)
    | ((with_reducible apply Keeps.step (planRecord_keeps ..)); exact rfl)
    | fail_if_no_progress dsimp only)

theorem planScale_keeps (k : Nat) (reason : Nat) (s : State) : Keeps 1208222220 s (planScale k reason s) := by
  have h0 := Keeps.refl 1208222220 s
  unfold planScale
  try dsimp only
  repeat' (first
    | with_reducible apply Keeps.ite
    | with_reducible apply Keeps.iteFst
    | with_reducible apply Keeps.iteSnd
    | intro _
    | with_reducible assumption
    | ((with_reducible apply Keeps.step (State.openRound_keeps ..)); exact rfl)
    | ((with_reducible apply Keeps.step (State.setReg_keeps ..)); exact rfl)
    | ((with_reducible apply Keeps.step (freezeTrainer_keeps ..)); exact rfl)
    | ((with_reducible apply Keeps.step (planRecord_keeps ..)); exact rfl)
    | fail_if_no_progress dsimp only)

theorem planFsw_keeps (reason : Nat) (s : State) : Keeps 1208221708 s (planFsw reason s) := by
  have h0 := Keeps.refl 1208221708 s
  unfold planFsw
  try dsimp only
  repeat' (first
    | with_reducible apply Keeps.ite
    | with_reducible apply Keeps.iteFst
    | with_reducible apply Keeps.iteSnd
    | intro _
    | with_reducible assumption
    | ((with_reducible apply Keeps.step (State.openRound_keeps ..)); exact rfl)
    | ((with_reducible apply Keeps.step (State.setReg_keeps ..)); exact rfl)
    | ((with_reducible apply Keeps.step (planRecord_keeps ..)); exact rfl)
    | fail_if_no_progress dsimp only)

theorem planRefresh_keeps (n : Nat) (rate : Nat) (s : State) : Keeps 1208221708 s (planRefresh n rate s) := by
  have h0 := Keeps.refl 1208221708 s
  unfold planRefresh
  try dsimp only
  repeat' (first
    | with_reducible apply Keeps.ite
    | with_reducible apply Keeps.iteFst
    | with_reducible apply Keeps.iteSnd
    | intro _
    | with_reducible assumption
    | ((with_reducible apply Keeps.step (State.setReg_keeps ..)); exact rfl)
    | ((with_reducible apply Keeps.step (State.useFree_keeps ..)); exact rfl)
    | ((with_reducible apply Keeps.step (planRecord_keeps ..)); exact rfl)
    | ((with_reducible apply Keeps.step (setOpen_keeps ..)); exact rfl)
    | fail_if_no_progress dsimp only)

theorem ageReport_keeps (s : State) : Keeps 12 s (ageReport s) := by
  have h0 := Keeps.refl 12 s
  unfold ageReport
  try dsimp only
  repeat' (first
    | intro _
    | with_reducible assumption
    | ((with_reducible apply Keeps.step (setOpen_keeps ..)); exact rfl)
    | with_reducible apply Keeps.forEach
    | fail_if_no_progress dsimp only)

theorem replan_keeps (droops : List (Option Nat)) (s : State) : Keeps 1275363852 s (replan droops s) := by
  have h0 := Keeps.refl 1275363852 s
  unfold replan
  try dsimp only
  repeat' (first
    | with_reducible apply Keeps.ite
    | with_reducible apply Keeps.iteFst
    | with_reducible apply Keeps.iteSnd
    | intro _
    | with_reducible assumption
    | ((with_reducible apply Keeps.step (State.setMod_keeps ..)); exact rfl)
    | ((with_reducible apply Keeps.step (ageReport_keeps ..)); exact rfl)
    | ((with_reducible apply Keeps.step (planFsw_keeps ..)); exact rfl)
    | ((with_reducible apply Keeps.step (planGuard_keeps ..)); exact rfl)
    | ((with_reducible apply Keeps.step (planLimit_keeps ..)); exact rfl)
    | ((with_reducible apply Keeps.step (planRefresh_keeps ..)); exact rfl)
    | ((with_reducible apply Keeps.step (planScale_keeps ..)); exact rfl)
    | with_reducible apply Keeps.forEach
    | split
    | fail_if_no_progress dsimp only)

theorem scaleBound_keeps (k : Nat) (s : State) : Keeps 1208222216 s (scaleBound k s) := by
  have h0 := Keeps.refl 1208222216 s
  unfold scaleBound
  try dsimp only
  repeat' (first
    | with_reducible apply Keeps.ite
    | with_reducible apply Keeps.iteFst
    | with_reducible apply Keeps.iteSnd
    | intro _
    | with_reducible assumption
    | ((with_reducible apply Keeps.step (State.setReg_keeps ..)); exact rfl)
    | ((with_reducible apply Keeps.step (freezeTrainer_keeps ..)); exact rfl)
    | ((with_reducible apply Keeps.step (planRecord_keeps ..)); exact rfl)
    | fail_if_no_progress dsimp only)

theorem vddBound_keeps (s : State) : Keeps 1073741832 s (vddBound s) := by
  have h0 := Keeps.refl 1073741832 s
  unfold vddBound
  try dsimp only
  repeat' (first
    | with_reducible apply Keeps.ite
    | with_reducible apply Keeps.iteFst
    | with_reducible apply Keeps.iteSnd
    | intro _
    | with_reducible assumption
    | ((with_reducible apply Keeps.step (State.emit_keeps ..)); exact rfl)
    | ((with_reducible apply Keeps.step (State.setReg_keeps ..)); exact rfl)
    | fail_if_no_progress dsimp only)

theorem vddMinWritten_keeps (s : State) : Keeps 1208221704 s (vddMinWritten s) := by
  have h0 := Keeps.refl 1208221704 s
  unfold vddMinWritten
  try dsimp only
  repeat' (first
    | intro _
    | with_reducible assumption
    | ((with_reducible apply Keeps.step (planGuard_keeps ..)); exact rfl)
    | ((with_reducible apply Keeps.step (vddBound_keeps ..)); exact rfl)
    | fail_if_no_progress dsimp only)

theorem vddMaxWritten_keeps (s : State) : Keeps 1208221704 s (vddMaxWritten s) := by
  have h0 := Keeps.refl 1208221704 s
  unfold vddMaxWritten
  try dsimp only
  repeat' (first
    | intro _
    | with_reducible assumption
    | ((with_reducible apply Keeps.step (State.setReg_keeps ..)); exact rfl)
    | ((with_reducible apply Keeps.step (planRecord_keeps ..)); exact rfl)
    | ((with_reducible apply Keeps.step (vddBound_keeps ..)); exact rfl)
    | fail_if_no_progress dsimp only)

theorem limitBound_keeps (old : Nat) (s : State) : Keeps 1208254472 s (limitBound old s) := by
  have h0 := Keeps.refl 1208254472 s
  unfold limitBound
  try dsimp only
  repeat' (first
    | with_reducible apply Keeps.ite
    | with_reducible apply Keeps.iteFst
    | with_reducible apply Keeps.iteSnd
    | intro _
    | with_reducible assumption
    | ((with_reducible apply Keeps.step (State.setLaw_keeps ..)); exact rfl)
    | ((with_reducible apply Keeps.step (planRecord_keeps ..)); exact rfl)
    | fail_if_no_progress dsimp only)

theorem fswBound_keeps (s : State) : Keeps 1208221704 s (fswBound s) := by
  have h0 := Keeps.refl 1208221704 s
  unfold fswBound
  try dsimp only
  repeat' (first
    | with_reducible apply Keeps.ite
    | with_reducible apply Keeps.iteFst
    | with_reducible apply Keeps.iteSnd
    | intro _
    | with_reducible assumption
    | ((with_reducible apply Keeps.step (State.setReg_keeps ..)); exact rfl)
    | ((with_reducible apply Keeps.step (planRecord_keeps ..)); exact rfl)
    | fail_if_no_progress dsimp only)

end Sys2Proof.Machine
end

