-- ==== Sys2Proof/Laws/KeepsLawInner.lean ====
section
/-!
SUPPORT. What each function of Machine/LawInner.lean keeps, and which parts of the state it leaves alone.
-/

namespace Sys2Proof.Machine

theorem cbcPeriods_keeps (s : State) : Keeps 32776 s (cbcPeriods s) := by
  have h0 := Keeps.refl 32776 s
  unfold cbcPeriods
  try dsimp only
  repeat' (first
    | with_reducible apply Keeps.ite
    | with_reducible apply Keeps.iteFst
    | with_reducible apply Keeps.iteSnd
    | intro _
    | with_reducible assumption
    | ((with_reducible apply Keeps.step (State.setLaw_keeps ..)); exact rfl)
    | ((with_reducible apply Keeps.step (State.setMs_keeps ..)); exact rfl)
    | with_reducible apply Keeps.forEach
    | fail_if_no_progress dsimp only)

theorem roundA_keeps (s : State) : Keeps 1207992328 s (roundA s) := by
  have h0 := Keeps.refl 1207992328 s
  unfold roundA
  try dsimp only
  repeat' (first
    | with_reducible apply Keeps.ite
    | with_reducible apply Keeps.iteFst
    | with_reducible apply Keeps.iteSnd
    | intro _
    | with_reducible assumption
    | ((with_reducible apply Keeps.step (State.setLaw_keeps ..)); exact rfl)
    | ((with_reducible apply Keeps.step (sampleRound_keeps ..)); exact rfl)
    | fail_if_no_progress dsimp only)

theorem innerMeasure_keeps (s : State) : Keeps 1207992328 s (innerMeasure s) := by
  have h0 := Keeps.refl 1207992328 s
  unfold innerMeasure
  try dsimp only
  repeat' (first
    | with_reducible apply Keeps.ite
    | with_reducible apply Keeps.iteFst
    | with_reducible apply Keeps.iteSnd
    | intro _
    | with_reducible assumption
    | ((with_reducible apply Keeps.step (State.setLaw_keeps ..)); exact rfl)
    | ((with_reducible apply Keeps.step (cbcPeriods_keeps ..)); exact rfl)
    | ((with_reducible apply Keeps.step (removeThreads_keeps ..)); exact rfl)
    | ((with_reducible apply Keeps.step (roundA_keeps ..)); exact rfl)
    | ((with_reducible apply Keeps.step (sampleRound_keeps ..)); exact rfl)
    | fail_if_no_progress dsimp only)

theorem decayVoltage_keeps (s : State) : Keeps 32776 s (decayVoltage s) := by
  have h0 := Keeps.refl 32776 s
  unfold decayVoltage
  try dsimp only
  repeat' (first
    | with_reducible apply Keeps.ite
    | with_reducible apply Keeps.iteFst
    | with_reducible apply Keeps.iteSnd
    | intro _
    | with_reducible assumption
    | ((with_reducible apply Keeps.step (decayResid_keeps ..)); exact rfl)
    | fail_if_no_progress dsimp only)

theorem presetVoltage_keeps (s : State) : Keeps 32776 s (presetVoltage s) := by
  have h0 := Keeps.refl 32776 s
  unfold presetVoltage
  try dsimp only
  repeat' (first
    | with_reducible apply Keeps.ite
    | with_reducible apply Keeps.iteFst
    | with_reducible apply Keeps.iteSnd
    | intro _
    | with_reducible assumption
    | ((with_reducible apply Keeps.step (State.setLaw_keeps ..)); exact rfl)
    | ((with_reducible apply Keeps.step (presetBlock_keeps ..)); exact rfl)
    | fail_if_no_progress dsimp only)

theorem detectorsStep_keeps (s : State) : Keeps 32776 s (detectorsStep s) := by
  have h0 := Keeps.refl 32776 s
  unfold detectorsStep
  try dsimp only
  repeat' (first
    | with_reducible apply Keeps.ite
    | with_reducible apply Keeps.iteFst
    | with_reducible apply Keeps.iteSnd
    | intro _
    | with_reducible assumption
    | ((with_reducible apply Keeps.step (State.setLaw_keeps ..)); exact rfl)
    | ((with_reducible apply Keeps.step (State.setMs_keeps ..)); exact rfl)
    | ((with_reducible apply Keeps.step (State.setReg_keeps ..)); exact rfl)
    | with_reducible apply Keeps.forEach
    | fail_if_no_progress dsimp only)

theorem vdcTripStep_keeps (s : State) : Keeps 32768 s (vdcTripStep s) := by
  have h0 := Keeps.refl 32768 s
  unfold vdcTripStep
  try dsimp only
  repeat' (first
    | with_reducible apply Keeps.ite
    | with_reducible apply Keeps.iteFst
    | with_reducible apply Keeps.iteSnd
    | intro _
    | with_reducible assumption
    | ((with_reducible apply Keeps.step (State.setLaw_keeps ..)); exact rfl)
    | fail_if_no_progress dsimp only)

theorem setE_keeps (e : Rat) (s : State) : Keeps 32768 s (setE e s) := by
  have h0 := Keeps.refl 32768 s
  unfold setE
  try dsimp only
  repeat' (first
    | intro _
    | with_reducible assumption
    | ((with_reducible apply Keeps.step (State.setLaw_keeps ..)); exact rfl)
    | fail_if_no_progress dsimp only)

theorem startRamp_keeps (s : State) : Keeps 98312 s (startRamp s) := by
  have h0 := Keeps.refl 98312 s
  unfold startRamp
  try dsimp only
  repeat' (first
    | intro _
    | with_reducible assumption
    | ((with_reducible apply Keeps.step (State.setCad_keeps ..)); exact rfl)
    | ((with_reducible apply Keeps.step (State.setLaw_keeps ..)); exact rfl)
    | ((with_reducible apply Keeps.step (setE_keeps ..)); exact rfl)
    | ((with_reducible apply Keeps.step (setStage_keeps ..)); exact rfl)
    | fail_if_no_progress dsimp only)

theorem stageInner_keeps (s : State) : Keeps 98312 s (stageInner s) := by
  have h0 := Keeps.refl 98312 s
  unfold stageInner
  try dsimp only
  repeat' (first
    | with_reducible apply Keeps.ite
    | with_reducible apply Keeps.iteFst
    | with_reducible apply Keeps.iteSnd
    | intro _
    | with_reducible assumption
    | ((with_reducible apply Keeps.step (State.setCad_keeps ..)); exact rfl)
    | ((with_reducible apply Keeps.step (State.setLaw_keeps ..)); exact rfl)
    | ((with_reducible apply Keeps.step (setStage_keeps ..)); exact rfl)
    | fail_if_no_progress dsimp only)

theorem voltageLoop_keeps (s : State) : Keeps 32780 s (voltageLoop s) := by
  have h0 := Keeps.refl 32780 s
  unfold voltageLoop
  try dsimp only
  repeat' (first
    | with_reducible apply Keeps.ite
    | with_reducible apply Keeps.iteFst
    | with_reducible apply Keeps.iteSnd
    | intro _
    | with_reducible assumption
    | ((with_reducible apply Keeps.step (State.bump_keeps ..)); exact rfl)
    | ((with_reducible apply Keeps.step (State.setLaw_keeps ..)); exact rfl)
    | ((with_reducible apply Keeps.step (State.setMs_keeps ..)); exact rfl)
    | fail_if_no_progress dsimp only)

theorem publish_keeps (s : State) : Keeps 6291516 s (publish s) := by
  have h0 := Keeps.refl 6291516 s
  unfold publish
  try dsimp only
  repeat' (first
    | intro _
    | with_reducible assumption
    | ((with_reducible apply Keeps.step (fabricStore_keeps ..)); exact rfl)
    | fail_if_no_progress dsimp only)

theorem cbcThresholds_keeps (s : State) : Keeps 12 s (cbcThresholds s) := by
  have h0 := Keeps.refl 12 s
  unfold cbcThresholds
  try dsimp only
  repeat' (first
    | with_reducible apply Keeps.ite
    | with_reducible apply Keeps.iteFst
    | with_reducible apply Keeps.iteSnd
    | intro _
    | with_reducible assumption
    | ((with_reducible apply Keeps.step (State.setFld_keeps ..)); exact rfl)
    | ((with_reducible apply Keeps.step (State.useFree_keeps ..)); exact rfl)
    | with_reducible apply Keeps.forEach
    | fail_if_no_progress dsimp only)

theorem innerSense_keeps (s : State) : Keeps 1207992328 s (innerSense s) := by
  have h0 := Keeps.refl 1207992328 s
  unfold innerSense
  try dsimp only
  repeat' (first
    | with_reducible apply Keeps.ite
    | with_reducible apply Keeps.iteFst
    | with_reducible apply Keeps.iteSnd
    | intro _
    | with_reducible assumption
    | ((with_reducible apply Keeps.step (State.setLaw_keeps ..)); exact rfl)
    | ((with_reducible apply Keeps.step (decayVoltage_keeps ..)); exact rfl)
    | ((with_reducible apply Keeps.step (detectorsStep_keeps ..)); exact rfl)
    | ((with_reducible apply Keeps.step (innerMeasure_keeps ..)); exact rfl)
    | ((with_reducible apply Keeps.step (presetVoltage_keeps ..)); exact rfl)
    | ((with_reducible apply Keeps.step (vdcTripStep_keeps ..)); exact rfl)
    | fail_if_no_progress dsimp only)

theorem innerAct_keeps (s : State) : Keeps 6389820 s (innerAct s) := by
  have h0 := Keeps.refl 6389820 s
  unfold innerAct
  try dsimp only
  repeat' (first
    | with_reducible apply Keeps.ite
    | with_reducible apply Keeps.iteFst
    | with_reducible apply Keeps.iteSnd
    | intro _
    | with_reducible assumption
    | ((with_reducible apply Keeps.step (State.setLaw_keeps ..)); exact rfl)
    | ((with_reducible apply Keeps.step (cbcThresholds_keeps ..)); exact rfl)
    | ((with_reducible apply Keeps.step (publish_keeps ..)); exact rfl)
    | ((with_reducible apply Keeps.step (stageInner_keeps ..)); exact rfl)
    | ((with_reducible apply Keeps.step (voltageLoop_keeps ..)); exact rfl)
    | fail_if_no_progress dsimp only)

theorem loopStep_keeps (t : Nat) (j : Nat) (x : Rat) (y0 : Rat) (err : Rat) (preset : Option Rat) (s : State) : Keeps 32776 s (loopStep t j x y0 err preset s).2 := by
  have h0 := Keeps.refl 32776 s
  unfold loopStep
  try dsimp only
  repeat' (first
    | intro _
    | with_reducible assumption
    | ((with_reducible apply Keeps.step (decayResid_keeps ..)); exact rfl)
    | ((with_reducible apply Keeps.step (presetBlock_keeps ..)); exact rfl)
    | split
    | fail_if_no_progress dsimp only)

theorem circStep_keeps (t : Nat) (i0 : Rat) (x : Rat) (preset : Option Rat) (s : State) : Keeps 32776 s (circStep t i0 x preset s).2 := by
  have h0 := Keeps.refl 32776 s
  unfold circStep
  try dsimp only
  repeat' (first
    | intro _
    | with_reducible assumption
    | ((with_reducible apply Keeps.step (decayResid_keeps ..)); exact rfl)
    | ((with_reducible apply Keeps.step (presetBlock_keeps ..)); exact rfl)
    | split
    | fail_if_no_progress dsimp only)

theorem lineThread_keeps (t : Nat) (s : State) : Keeps 32776 s (lineThread t s) := by
  have h0 := Keeps.refl 32776 s
  unfold lineThread
  try dsimp only
  repeat' (first
    | with_reducible apply Keeps.ite
    | with_reducible apply Keeps.iteFst
    | with_reducible apply Keeps.iteSnd
    | intro _
    | with_reducible assumption
    | ((with_reducible apply Keeps.step (State.setLaw_keeps ..)); exact rfl)
    | ((with_reducible apply Keeps.step (State.setReg_keeps ..)); exact rfl)
    | ((with_reducible apply Keeps.step (State.setThread_keeps ..)); exact rfl)
    | ((with_reducible apply Keeps.step (circStep_keeps ..)); exact rfl)
    | ((with_reducible apply Keeps.step (loopStep_keeps ..)); exact rfl)
    | ((with_reducible apply Keeps.step (modulate_keeps ..)); exact rfl)
    | fail_if_no_progress dsimp only)

theorem machineSlow_keeps (s : State) : Keeps 32776 s (machineSlow s) := by
  have h0 := Keeps.refl 32776 s
  unfold machineSlow
  try dsimp only
  repeat' (first
    | intro _
    | with_reducible assumption
    | ((with_reducible apply Keeps.step (State.setLaw_keeps ..)); exact rfl)
    | ((with_reducible apply Keeps.step (State.setLs_keeps ..)); exact rfl)
    | ((with_reducible apply Keeps.step (State.setReg_keeps ..)); exact rfl)
    | fail_if_no_progress dsimp only)

theorem machineThread_keeps (t : Nat) (s : State) : Keeps 32780 s (machineThread t s) := by
  have h0 := Keeps.refl 32780 s
  unfold machineThread
  try dsimp only
  repeat' (first
    | with_reducible apply Keeps.ite
    | with_reducible apply Keeps.iteFst
    | with_reducible apply Keeps.iteSnd
    | intro _
    | with_reducible assumption
    | ((with_reducible apply Keeps.step (State.setLaw_keeps ..)); exact rfl)
    | ((with_reducible apply Keeps.step (State.setReg_keeps ..)); exact rfl)
    | ((with_reducible apply Keeps.step (State.setThread_keeps ..)); exact rfl)
    | ((with_reducible apply Keeps.step (State.useFree_keeps ..)); exact rfl)
    | ((with_reducible apply Keeps.step (loopStep_keeps ..)); exact rfl)
    | ((with_reducible apply Keeps.step (machineSlow_keeps ..)); exact rfl)
    | ((with_reducible apply Keeps.step (modulate_keeps ..)); exact rfl)
    | fail_if_no_progress dsimp only)

theorem showVsat_keeps (s : State) : Keeps 8 s (showVsat s) := by
  have h0 := Keeps.refl 8 s
  unfold showVsat
  try dsimp only
  repeat' (first
    | intro _
    | with_reducible assumption
    | ((with_reducible apply Keeps.step (State.setLs_keeps ..)); exact rfl)
    | fail_if_no_progress dsimp only)

theorem threadLoops_keeps (ts : List Nat) (s : State) : Keeps 1207992332 s (threadLoops ts s) := by
  have h0 := Keeps.refl 1207992332 s
  unfold threadLoops
  try dsimp only
  repeat' (first
    | with_reducible apply Keeps.ite
    | with_reducible apply Keeps.iteFst
    | with_reducible apply Keeps.iteSnd
    | intro _
    | with_reducible assumption
    | ((with_reducible apply Keeps.step (lineThread_keeps ..)); exact rfl)
    | ((with_reducible apply Keeps.step (machineThread_keeps ..)); exact rfl)
    | ((with_reducible apply Keeps.step (roundA_keeps ..)); exact rfl)
    | ((with_reducible apply Keeps.step (showVsat_keeps ..)); exact rfl)
    | with_reducible apply Keeps.forEach
    | fail_if_no_progress dsimp only)

theorem threadEngine_keeps (e : Nat) (s : State) : Keeps 1207992556 s (threadEngine e s) := by
  have h0 := Keeps.refl 1207992556 s
  unfold threadEngine
  try dsimp only
  repeat' (first
    | with_reducible apply Keeps.ite
    | with_reducible apply Keeps.iteFst
    | with_reducible apply Keeps.iteSnd
    | intro _
    | with_reducible assumption
    | ((with_reducible apply Keeps.step (State.setLaw_keeps ..)); exact rfl)
    | ((with_reducible apply Keeps.step (loadAllGroups_keeps ..)); exact rfl)
    | ((with_reducible apply Keeps.step (threadLoops_keeps ..)); exact rfl)
    | ((with_reducible apply Keeps.step (writeShadow_keeps ..)); exact rfl)
    | with_reducible apply Keeps.forEach
    | with_reducible apply Keeps.foldl
    | with_reducible apply Keeps.foldlFst
    | with_reducible apply Keeps.foldlSnd
    | fail_if_no_progress dsimp only)

theorem advanceTheta_keeps (s : State) : Keeps 98312 s (advanceTheta s) := by
  have h0 := Keeps.refl 98312 s
  unfold advanceTheta
  try dsimp only
  repeat' (first
    | with_reducible apply Keeps.ite
    | with_reducible apply Keeps.iteFst
    | with_reducible apply Keeps.iteSnd
    | intro _
    | with_reducible assumption
    | ((with_reducible apply Keeps.step (State.setCad_keeps ..)); exact rfl)
    | ((with_reducible apply Keeps.step (State.setLaw_keeps ..)); exact rfl)
    | ((with_reducible apply Keeps.step (startRamp_keeps ..)); exact rfl)
    | fail_if_no_progress dsimp only)

end Sys2Proof.Machine
end

