-- ==== Sys2Proof/Laws/KeepsLawOuter.lean ====
section
/-!
SUPPORT. What each function of Machine/LawOuter.lean keeps, and which parts of the state it leaves alone.
-/

namespace Sys2Proof.Machine

theorem State.setBs_keeps (s : State) (f : Fld) (b : Bool) : Keeps 8 s (State.setBs s f b) := by
  have h0 := Keeps.refl 8 s
  unfold State.setBs
  try dsimp only
  repeat' (first
    | intro _
    | with_reducible assumption
    | ((with_reducible apply Keeps.step (State.setFlag_keeps ..)); exact rfl)
    | fail_if_no_progress dsimp only)

theorem busStates_keeps (s : State) : Keeps 65544 s (busStates s) := by
  have h0 := Keeps.refl 65544 s
  unfold busStates
  try dsimp only
  repeat' (first
    | with_reducible apply Keeps.ite
    | with_reducible apply Keeps.iteFst
    | with_reducible apply Keeps.iteSnd
    | intro _
    | with_reducible assumption
    | ((with_reducible apply Keeps.step (State.setBs_keeps ..)); exact rfl)
    | ((with_reducible apply Keeps.step (State.setCad_keeps ..)); exact rfl)
    | fail_if_no_progress dsimp only)

theorem outerMeasure_keeps (s : State) : Keeps 98316 s (outerMeasure s) := by
  have h0 := Keeps.refl 98316 s
  unfold outerMeasure
  try dsimp only
  repeat' (first
    | intro _
    | with_reducible assumption
    | ((with_reducible apply Keeps.step (State.setCad_keeps ..)); exact rfl)
    | ((with_reducible apply Keeps.step (State.setLaw_keeps ..)); exact rfl)
    | ((with_reducible apply Keeps.step (State.setReg_keeps ..)); exact rfl)
    | ((with_reducible apply Keeps.step (setOpen_keeps ..)); exact rfl)
    | fail_if_no_progress dsimp only)

theorem pacer_keeps (s : State) : Keeps 32776 s (pacer s) := by
  have h0 := Keeps.refl 32776 s
  unfold pacer
  try dsimp only
  repeat' (first
    | with_reducible apply Keeps.ite
    | with_reducible apply Keeps.iteFst
    | with_reducible apply Keeps.iteSnd
    | intro _
    | with_reducible assumption
    | ((with_reducible apply Keeps.step (State.setLaw_keeps ..)); exact rfl)
    | ((with_reducible apply Keeps.step (State.setLs_keeps ..)); exact rfl)
    | ((with_reducible apply Keeps.step (State.setReg_keeps ..)); exact rfl)
    | ((with_reducible apply Keeps.step (decayResid_keeps ..)); exact rfl)
    | fail_if_no_progress dsimp only)

theorem rampE_keeps (s : State) : Keeps 65544 s (rampE s).2 := by
  have h0 := Keeps.refl 65544 s
  unfold rampE
  try dsimp only
  repeat' (first
    | with_reducible apply Keeps.ite
    | with_reducible apply Keeps.iteFst
    | with_reducible apply Keeps.iteSnd
    | intro _
    | with_reducible assumption
    | ((with_reducible apply Keeps.step (State.setBs_keeps ..)); exact rfl)
    | ((with_reducible apply Keeps.step (State.setCad_keeps ..)); exact rfl)
    | ((with_reducible apply Keeps.step (setStage_keeps ..)); exact rfl)
    | fail_if_no_progress dsimp only)

theorem syncE_keeps (s : State) : Keeps 65544 s (syncE s).2 := by
  have h0 := Keeps.refl 65544 s
  unfold syncE
  try dsimp only
  repeat' (first
    | intro _
    | with_reducible assumption
    | ((with_reducible apply Keeps.step (State.setCad_keeps ..)); exact rfl)
    | ((with_reducible apply Keeps.step (State.setLs_keeps ..)); exact rfl)
    | fail_if_no_progress dsimp only)

theorem droopE_keeps (s : State) : Keeps 32776 s (droopE s).2 := by
  have h0 := Keeps.refl 32776 s
  unfold droopE
  try dsimp only
  repeat' (first
    | intro _
    | with_reducible assumption
    | ((with_reducible apply Keeps.step (State.setLaw_keeps ..)); exact rfl)
    | ((with_reducible apply Keeps.step (State.setLs_keeps ..)); exact rfl)
    | ((with_reducible apply Keeps.step (decayResid_keeps ..)); exact rfl)
    | fail_if_no_progress dsimp only)

theorem outerE_keeps (s : State) : Keeps 98312 s (outerE s).2 := by
  have h0 := Keeps.refl 98312 s
  unfold outerE
  try dsimp only
  repeat' (first
    | with_reducible apply Keeps.ite
    | with_reducible apply Keeps.iteFst
    | with_reducible apply Keeps.iteSnd
    | intro _
    | with_reducible assumption
    | ((with_reducible apply Keeps.step (State.setLs_keeps ..)); exact rfl)
    | ((with_reducible apply Keeps.step (droopE_keeps ..)); exact rfl)
    | ((with_reducible apply Keeps.step (rampE_keeps ..)); exact rfl)
    | ((with_reducible apply Keeps.step (syncE_keeps ..)); exact rfl)
    | fail_if_no_progress dsimp only)

theorem estStart_keeps (s : State) : Keeps 32768 s (estStart s) := by
  have h0 := Keeps.refl 32768 s
  unfold estStart
  try dsimp only
  repeat' (first
    | intro _
    | with_reducible assumption
    | ((with_reducible apply Keeps.step (State.setLaw_keeps ..)); exact rfl)
    | fail_if_no_progress dsimp only)

theorem estStep_keeps (s : State) : Keeps 32776 s (estStep s) := by
  have h0 := Keeps.refl 32776 s
  unfold estStep
  try dsimp only
  repeat' (first
    | with_reducible apply Keeps.ite
    | with_reducible apply Keeps.iteFst
    | with_reducible apply Keeps.iteSnd
    | intro _
    | with_reducible assumption
    | ((with_reducible apply Keeps.step (State.setLaw_keeps ..)); exact rfl)
    | ((with_reducible apply Keeps.step (State.setReg_keeps ..)); exact rfl)
    | ((with_reducible apply Keeps.step (estGate_keeps ..)); exact rfl)
    | ((with_reducible apply Keeps.step (estStart_keeps ..)); exact rfl)
    | fail_if_no_progress dsimp only)

theorem estDiscard_keeps (s : State) : Keeps 32768 s (estDiscard s) := by
  have h0 := Keeps.refl 32768 s
  unfold estDiscard
  try dsimp only
  repeat' (first
    | with_reducible apply Keeps.ite
    | with_reducible apply Keeps.iteFst
    | with_reducible apply Keeps.iteSnd
    | intro _
    | with_reducible assumption
    | ((with_reducible apply Keeps.step (estStart_keeps ..)); exact rfl)
    | fail_if_no_progress dsimp only)

theorem syncDrop_keeps (s : State) : Keeps 65544 s (syncDrop s) := by
  have h0 := Keeps.refl 65544 s
  unfold syncDrop
  try dsimp only
  repeat' (first
    | with_reducible apply Keeps.ite
    | with_reducible apply Keeps.iteFst
    | with_reducible apply Keeps.iteSnd
    | intro _
    | with_reducible assumption
    | ((with_reducible apply Keeps.step (State.setBs_keeps ..)); exact rfl)
    | ((with_reducible apply Keeps.step (State.setCad_keeps ..)); exact rfl)
    | fail_if_no_progress dsimp only)

theorem outerLaw_keeps (s : State) : Keeps 98316 s (outerLaw s) := by
  have h0 := Keeps.refl 98316 s
  unfold outerLaw
  try dsimp only
  repeat' (first
    | with_reducible apply Keeps.ite
    | with_reducible apply Keeps.iteFst
    | with_reducible apply Keeps.iteSnd
    | intro _
    | with_reducible assumption
    | ((with_reducible apply Keeps.step (State.setCad_keeps ..)); exact rfl)
    | ((with_reducible apply Keeps.step (State.setLaw_keeps ..)); exact rfl)
    | ((with_reducible apply Keeps.step (State.setLs_keeps ..)); exact rfl)
    | ((with_reducible apply Keeps.step (State.setReg_keeps ..)); exact rfl)
    | ((with_reducible apply Keeps.step (busStates_keeps ..)); exact rfl)
    | ((with_reducible apply Keeps.step (decayResid_keeps ..)); exact rfl)
    | ((with_reducible apply Keeps.step (estStep_keeps ..)); exact rfl)
    | ((with_reducible apply Keeps.step (outerE_keeps ..)); exact rfl)
    | ((with_reducible apply Keeps.step (outerMeasure_keeps ..)); exact rfl)
    | ((with_reducible apply Keeps.step (pacer_keeps ..)); exact rfl)
    | ((with_reducible apply Keeps.step (reportChosen_keeps ..)); exact rfl)
    | ((with_reducible apply Keeps.step (syncDrop_keeps ..)); exact rfl)
    | fail_if_no_progress dsimp only)

theorem presetOmega_keeps (w : Rat) (s : State) : Keeps 32776 s (presetOmega w s) := by
  have h0 := Keeps.refl 32776 s
  unfold presetOmega
  try dsimp only
  repeat' (first
    | intro _
    | with_reducible assumption
    | ((with_reducible apply Keeps.step (State.setLaw_keeps ..)); exact rfl)
    | ((with_reducible apply Keeps.step (State.setResid_keeps ..)); exact rfl)
    | fail_if_no_progress dsimp only)

theorem presetOuter_keeps (pOut : Rat) (eOut : Rat) (s : State) : Keeps 32776 s (presetOuter pOut eOut s) := by
  have h0 := Keeps.refl 32776 s
  unfold presetOuter
  try dsimp only
  repeat' (first
    | with_reducible apply Keeps.ite
    | with_reducible apply Keeps.iteFst
    | with_reducible apply Keeps.iteSnd
    | intro _
    | with_reducible assumption
    | ((with_reducible apply Keeps.step (State.setLaw_keeps ..)); exact rfl)
    | ((with_reducible apply Keeps.step (State.setResid_keeps ..)); exact rfl)
    | ((with_reducible apply Keeps.step (presetBlock_keeps ..)); exact rfl)
    | ((with_reducible apply Keeps.step (setE_keeps ..)); exact rfl)
    | fail_if_no_progress dsimp only)

theorem presetInner_keeps (kind : Nat) (s : State) : Keeps 32768 s (presetInner kind s) := by
  have h0 := Keeps.refl 32768 s
  unfold presetInner
  try dsimp only
  repeat' (first
    | with_reducible apply Keeps.ite
    | with_reducible apply Keeps.iteFst
    | with_reducible apply Keeps.iteSnd
    | intro _
    | with_reducible assumption
    | ((with_reducible apply Keeps.step (State.setLaw_keeps ..)); exact rfl)
    | fail_if_no_progress dsimp only)

theorem handoverForm_keeps (fromArmed : Bool) (s : State) : Keeps 32776 s (handoverForm fromArmed s) := by
  have h0 := Keeps.refl 32776 s
  unfold handoverForm
  try dsimp only
  repeat' (first
    | with_reducible apply Keeps.ite
    | with_reducible apply Keeps.iteFst
    | with_reducible apply Keeps.iteSnd
    | intro _
    | with_reducible assumption
    | ((with_reducible apply Keeps.step (State.setLaw_keeps ..)); exact rfl)
    | ((with_reducible apply Keeps.step (presetInner_keeps ..)); exact rfl)
    | ((with_reducible apply Keeps.step (presetOmega_keeps ..)); exact rfl)
    | ((with_reducible apply Keeps.step (presetOuter_keeps ..)); exact rfl)
    | fail_if_no_progress dsimp only)

end Sys2Proof.Machine
end

