-- ==== Sys2Proof/Laws/KeepsModeChecks.lean ====
section
/-!
SUPPORT. What each function of Machine/ModeChecks.lean keeps, and which parts of the state it leaves alone.
-/

namespace Sys2Proof.Machine

theorem abortTo_keeps (code : Nat) (s : State) : Keeps 98956 s (abortTo code s) := by
  have h0 := Keeps.refl 98956 s
  unfold abortTo
  try dsimp only
  repeat' (first
    | intro _
    | with_reducible assumption
    | ((with_reducible apply Keeps.step (State.setReg_keeps ..)); exact rfl)
    | ((with_reducible apply Keeps.step (backToArmed_keeps ..)); exact rfl)
    | fail_if_no_progress dsimp only)

theorem cadQueue_keeps (m : Nat) (s : State) : Keeps 65544 s (cadQueue m s) := by
  have h0 := Keeps.refl 65544 s
  unfold cadQueue
  try dsimp only
  repeat' (first
    | with_reducible apply Keeps.ite
    | with_reducible apply Keeps.iteFst
    | with_reducible apply Keeps.iteSnd
    | intro _
    | with_reducible assumption
    | ((with_reducible apply Keeps.step (State.setCad_keeps ..)); exact rfl)
    | ((with_reducible apply Keeps.step (State.setReg_keeps ..)); exact rfl)
    | fail_if_no_progress dsimp only)

theorem enterForm_keeps (cause : Nat) (s : State) : Keeps 98828 s (enterForm cause s) := by
  have h0 := Keeps.refl 98828 s
  unfold enterForm
  try dsimp only
  repeat' (first
    | intro _
    | with_reducible assumption
    | ((with_reducible apply Keeps.step (estDiscard_keeps ..)); exact rfl)
    | ((with_reducible apply Keeps.step (handoverForm_keeps ..)); exact rfl)
    | ((with_reducible apply Keeps.step (recordMode_keeps ..)); exact rfl)
    | ((with_reducible apply Keeps.step (setStage_keeps ..)); exact rfl)
    | fail_if_no_progress dsimp only)

theorem enterStart_keeps (mode : Nat) (s : State) : Keeps 98828 s (enterStart mode s) := by
  have h0 := Keeps.refl 98828 s
  unfold enterStart
  try dsimp only
  repeat' (first
    | with_reducible apply Keeps.ite
    | with_reducible apply Keeps.iteFst
    | with_reducible apply Keeps.iteSnd
    | intro _
    | with_reducible assumption
    | ((with_reducible apply Keeps.step (State.setCad_keeps ..)); exact rfl)
    | ((with_reducible apply Keeps.step (State.setLaw_keeps ..)); exact rfl)
    | ((with_reducible apply Keeps.step (presetOmega_keeps ..)); exact rfl)
    | ((with_reducible apply Keeps.step (recordMode_keeps ..)); exact rfl)
    | ((with_reducible apply Keeps.step (setE_keeps ..)); exact rfl)
    | ((with_reducible apply Keeps.step (setStage_keeps ..)); exact rfl)
    | ((with_reducible apply Keeps.step (startRamp_keeps ..)); exact rfl)
    | fail_if_no_progress dsimp only)

theorem enterSyncFromForm_keeps (s : State) : Keeps 98828 s (enterSyncFromForm s) := by
  have h0 := Keeps.refl 98828 s
  unfold enterSyncFromForm
  try dsimp only
  repeat' (first
    | with_reducible apply Keeps.ite
    | with_reducible apply Keeps.iteFst
    | with_reducible apply Keeps.iteSnd
    | intro _
    | with_reducible assumption
    | ((with_reducible apply Keeps.step (State.setCad_keeps ..)); exact rfl)
    | ((with_reducible apply Keeps.step (cadQueue_keeps ..)); exact rfl)
    | ((with_reducible apply Keeps.step (recordMode_keeps ..)); exact rfl)
    | ((with_reducible apply Keeps.step (setStage_keeps ..)); exact rfl)
    | fail_if_no_progress dsimp only)

theorem startComplete_keeps (s : State) : Keeps 98828 s (startComplete s) := by
  have h0 := Keeps.refl 98828 s
  unfold startComplete
  try dsimp only
  repeat' (first
    | with_reducible apply Keeps.ite
    | with_reducible apply Keeps.iteFst
    | with_reducible apply Keeps.iteSnd
    | intro _
    | with_reducible assumption
    | ((with_reducible apply Keeps.step (State.setOwn_keeps ..)); exact rfl)
    | ((with_reducible apply Keeps.step (cadQueue_keeps ..)); exact rfl)
    | ((with_reducible apply Keeps.step (enterForm_keeps ..)); exact rfl)
    | fail_if_no_progress dsimp only)

theorem syncComplete_keeps (s : State) : Keeps 98828 s (syncComplete s) := by
  have h0 := Keeps.refl 98828 s
  unfold syncComplete
  try dsimp only
  repeat' (first
    | with_reducible apply Keeps.ite
    | with_reducible apply Keeps.iteFst
    | with_reducible apply Keeps.iteSnd
    | intro _
    | with_reducible assumption
    | ((with_reducible apply Keeps.step (State.setBs_keeps ..)); exact rfl)
    | ((with_reducible apply Keeps.step (State.setOwn_keeps ..)); exact rfl)
    | ((with_reducible apply Keeps.step (cadQueue_keeps ..)); exact rfl)
    | ((with_reducible apply Keeps.step (enterForm_keeps ..)); exact rfl)
    | fail_if_no_progress dsimp only)

theorem enterLimit_keeps (s : State) : Keeps 33292 s (enterLimit s) := by
  have h0 := Keeps.refl 33292 s
  unfold enterLimit
  try dsimp only
  repeat' (first
    | intro _
    | with_reducible assumption
    | ((with_reducible apply Keeps.step (State.bump_keeps ..)); exact rfl)
    | ((with_reducible apply Keeps.step (State.setLaw_keeps ..)); exact rfl)
    | ((with_reducible apply Keeps.step (State.setReg_keeps ..)); exact rfl)
    | ((with_reducible apply Keeps.step (recordMode_keeps ..)); exact rfl)
    | split
    | fail_if_no_progress dsimp only)

theorem phaseJump_keeps (s : State) : Keeps 32776 s (phaseJump s) := by
  have h0 := Keeps.refl 32776 s
  unfold phaseJump
  try dsimp only
  repeat' (first
    | with_reducible apply Keeps.ite
    | with_reducible apply Keeps.iteFst
    | with_reducible apply Keeps.iteSnd
    | intro _
    | with_reducible assumption
    | ((with_reducible apply Keeps.step (State.setLaw_keeps ..)); exact rfl)
    | ((with_reducible apply Keeps.step (State.setMs_keeps ..)); exact rfl)
    | ((with_reducible apply Keeps.step (State.setReg_keeps ..)); exact rfl)
    | fail_if_no_progress dsimp only)

theorem limitEntry_keeps (s : State) : Keeps 33292 s (limitEntry s) := by
  have h0 := Keeps.refl 33292 s
  unfold limitEntry
  try dsimp only
  repeat' (first
    | with_reducible apply Keeps.ite
    | with_reducible apply Keeps.iteFst
    | with_reducible apply Keeps.iteSnd
    | intro _
    | with_reducible assumption
    | ((with_reducible apply Keeps.step (enterLimit_keeps ..)); exact rfl)
    | ((with_reducible apply Keeps.step (phaseJump_keeps ..)); exact rfl)
    | fail_if_no_progress dsimp only)

theorem innerLaw_keeps (s : State) : Keeps 1214349884 s (innerLaw s) := by
  have h0 := Keeps.refl 1214349884 s
  unfold innerLaw
  try dsimp only
  repeat' (first
    | intro _
    | with_reducible assumption
    | ((with_reducible apply Keeps.step (innerAct_keeps ..)); exact rfl)
    | ((with_reducible apply Keeps.step (innerSense_keeps ..)); exact rfl)
    | ((with_reducible apply Keeps.step (limitEntry_keeps ..)); exact rfl)
    | fail_if_no_progress dsimp only)

theorem leaveLimit_keeps (s : State) : Keeps 33292 s (leaveLimit s) := by
  have h0 := Keeps.refl 33292 s
  unfold leaveLimit
  try dsimp only
  repeat' (first
    | intro _
    | with_reducible assumption
    | ((with_reducible apply Keeps.step (State.setLaw_keeps ..)); exact rfl)
    | ((with_reducible apply Keeps.step (presetInner_keeps ..)); exact rfl)
    | ((with_reducible apply Keeps.step (recordMode_keeps ..)); exact rfl)
    | fail_if_no_progress dsimp only)

theorem limitTimers_keeps (s : State) : Keeps 32768 s (limitTimers s) := by
  have h0 := Keeps.refl 32768 s
  unfold limitTimers
  try dsimp only
  repeat' (first
    | intro _
    | with_reducible assumption
    | ((with_reducible apply Keeps.step (State.setLaw_keeps ..)); exact rfl)
    | fail_if_no_progress dsimp only)

theorem leaveHold_keeps (s : State) : Keeps 33292 s (leaveHold s) := by
  have h0 := Keeps.refl 33292 s
  unfold leaveHold
  try dsimp only
  repeat' (first
    | intro _
    | with_reducible assumption
    | ((with_reducible apply Keeps.step (presetInner_keeps ..)); exact rfl)
    | ((with_reducible apply Keeps.step (recordMode_keeps ..)); exact rfl)
    | fail_if_no_progress dsimp only)

theorem measured_keeps (s : State) : Keeps 98316 s (measured s) := by
  have h0 := Keeps.refl 98316 s
  unfold measured
  try dsimp only
  repeat' (first
    | with_reducible apply Keeps.ite
    | with_reducible apply Keeps.iteFst
    | with_reducible apply Keeps.iteSnd
    | intro _
    | with_reducible assumption
    | ((with_reducible apply Keeps.step (State.setBs_keeps ..)); exact rfl)
    | ((with_reducible apply Keeps.step (State.setCad_keeps ..)); exact rfl)
    | ((with_reducible apply Keeps.step (State.setLaw_keeps ..)); exact rfl)
    | ((with_reducible apply Keeps.step (State.useFree_keeps ..)); exact rfl)
    | fail_if_no_progress dsimp only)

theorem runSwitching_keeps (v : Nat) (s : State) : Keeps 98828 s (runSwitching v s) := by
  have h0 := Keeps.refl 98828 s
  unfold runSwitching
  try dsimp only
  repeat' (first
    | with_reducible apply Keeps.ite
    | with_reducible apply Keeps.iteFst
    | with_reducible apply Keeps.iteSnd
    | intro _
    | with_reducible assumption
    | ((with_reducible apply Keeps.step (State.setReg_keeps ..)); exact rfl)
    | ((with_reducible apply Keeps.step (cmdDone_keeps ..)); exact rfl)
    | ((with_reducible apply Keeps.step (cmdRefused_keeps ..)); exact rfl)
    | ((with_reducible apply Keeps.step (enterForm_keeps ..)); exact rfl)
    | ((with_reducible apply Keeps.step (enterStart_keeps ..)); exact rfl)
    | ((with_reducible apply Keeps.step (enterSyncFromForm_keeps ..)); exact rfl)
    | fail_if_no_progress dsimp only)

theorem runCommand_keeps (v : Nat) (seen : Nat × Nat) (s : State) : Keeps 67489740 s (runCommand v seen s) := by
  have h0 := Keeps.refl 67489740 s
  unfold runCommand
  try dsimp only
  repeat' (first
    | with_reducible apply Keeps.ite
    | with_reducible apply Keeps.iteFst
    | with_reducible apply Keeps.iteSnd
    | intro _
    | with_reducible assumption
    | ((with_reducible apply Keeps.step (State.setLaw_keeps ..)); exact rfl)
    | ((with_reducible apply Keeps.step (State.setMs_keeps ..)); exact rfl)
    | ((with_reducible apply Keeps.step (armBegin_keeps ..)); exact rfl)
    | ((with_reducible apply Keeps.step (armIfReady_keeps ..)); exact rfl)
    | ((with_reducible apply Keeps.step (cmdDone_keeps ..)); exact rfl)
    | ((with_reducible apply Keeps.step (cmdRefused_keeps ..)); exact rfl)
    | ((with_reducible apply Keeps.step (enterBasecamp_keeps ..)); exact rfl)
    | ((with_reducible apply Keeps.step (measured_keeps ..)); exact rfl)
    | ((with_reducible apply Keeps.step (runSwitching_keeps ..)); exact rfl)
    | fail_if_no_progress dsimp only)

theorem nextCommand_keeps (s : State) : Keeps 67489740 s (nextCommand s) := by
  have h0 := Keeps.refl 67489740 s
  unfold nextCommand
  try dsimp only
  repeat' (first
    | with_reducible apply Keeps.ite
    | with_reducible apply Keeps.iteFst
    | with_reducible apply Keeps.iteSnd
    | intro _
    | with_reducible assumption
    | ((with_reducible apply Keeps.step (State.setLaw_keeps ..)); exact rfl)
    | ((with_reducible apply Keeps.step (cmdRefused_keeps ..)); exact rfl)
    | ((with_reducible apply Keeps.step (runCommand_keeps ..)); exact rfl)
    | split
    | fail_if_no_progress dsimp only)

theorem queueCommand_keeps (v : Nat) (replay : Bool) (s : State) : Keeps 32776 s (queueCommand v replay s) := by
  have h0 := Keeps.refl 32776 s
  unfold queueCommand
  try dsimp only
  repeat' (first
    | intro _
    | with_reducible assumption
    | ((with_reducible apply Keeps.step (State.setLaw_keeps ..)); exact rfl)
    | ((with_reducible apply Keeps.step (State.setReg_keeps ..)); exact rfl)
    | fail_if_no_progress dsimp only)

end Sys2Proof.Machine
end

