-- ==== Sys2Proof/Laws/KeepsCadOps.lean ====
section
/-!
SUPPORT. What each function of Machine/CadOps.lean keeps, and which parts of the state it leaves alone.
-/

namespace Sys2Proof.Machine

theorem setCadQueue_keeps (q : List Nat) (s : State) : Keeps 65544 s (setCadQueue q s) := by
  have h0 := Keeps.refl 65544 s
  unfold setCadQueue
  try dsimp only
  repeat' (first
    | intro _
    | with_reducible assumption
    | ((with_reducible apply Keeps.step (State.setCad_keeps ..)); exact rfl)
    | ((with_reducible apply Keeps.step (State.setReg_keeps ..)); exact rfl)
    | fail_if_no_progress dsimp only)

theorem cadOffset_keeps (s : State) : Keeps 65548 s (cadOffset s) := by
  have h0 := Keeps.refl 65548 s
  unfold cadOffset
  try dsimp only
  repeat' (first
    | with_reducible apply Keeps.ite
    | with_reducible apply Keeps.iteFst
    | with_reducible apply Keeps.iteSnd
    | intro _
    | with_reducible assumption
    | ((with_reducible apply Keeps.step (State.bump_keeps ..)); exact rfl)
    | ((with_reducible apply Keeps.step (State.setBs_keeps ..)); exact rfl)
    | ((with_reducible apply Keeps.step (State.setCad_keeps ..)); exact rfl)
    | ((with_reducible apply Keeps.step (txStop_keeps ..)); exact rfl)
    | split
    | fail_if_no_progress dsimp only)

theorem refreshNForm_keeps (s : State) : Keeps 8 s (refreshNForm s) := by
  have h0 := Keeps.refl 8 s
  unfold refreshNForm
  try dsimp only
  repeat' (first
    | with_reducible apply Keeps.ite
    | with_reducible apply Keeps.iteFst
    | with_reducible apply Keeps.iteSnd
    | intro _
    | with_reducible assumption
    | ((with_reducible apply Keeps.step (State.setReg_keeps ..)); exact rfl)
    | fail_if_no_progress dsimp only)

theorem frameEnded_keeps (t : Instant) (s : State) : Keeps 65536 s (frameEnded t s) := by
  have h0 := Keeps.refl 65536 s
  unfold frameEnded
  try dsimp only
  repeat' (first
    | intro _
    | with_reducible assumption
    | ((with_reducible apply Keeps.step (State.setCad_keeps ..)); exact rfl)
    | fail_if_no_progress dsimp only)

theorem cadCollision_keeps (s : State) : Keeps 65548 s (cadCollision s) := by
  have h0 := Keeps.refl 65548 s
  unfold cadCollision
  try dsimp only
  repeat' (first
    | with_reducible apply Keeps.ite
    | with_reducible apply Keeps.iteFst
    | with_reducible apply Keeps.iteSnd
    | intro _
    | with_reducible assumption
    | ((with_reducible apply Keeps.step (State.bump_keeps ..)); exact rfl)
    | ((with_reducible apply Keeps.step (State.setBs_keeps ..)); exact rfl)
    | ((with_reducible apply Keeps.step (State.setCad_keeps ..)); exact rfl)
    | ((with_reducible apply Keeps.step (setCadQueue_keeps ..)); exact rfl)
    | fail_if_no_progress dsimp only)

theorem queueNext_keeps (s : State) : Keeps 65544 s (queueNext s) := by
  have h0 := Keeps.refl 65544 s
  unfold queueNext
  try dsimp only
  repeat' (first
    | with_reducible apply Keeps.ite
    | with_reducible apply Keeps.iteFst
    | with_reducible apply Keeps.iteSnd
    | intro _
    | with_reducible assumption
    | ((with_reducible apply Keeps.step (State.setCad_keeps ..)); exact rfl)
    | ((with_reducible apply Keeps.step (cadQueue_keeps ..)); exact rfl)
    | fail_if_no_progress dsimp only)

theorem queueOwed_keeps (s : State) : Keeps 65544 s (queueOwed s) := by
  have h0 := Keeps.refl 65544 s
  unfold queueOwed
  try dsimp only
  repeat' (first
    | with_reducible apply Keeps.ite
    | with_reducible apply Keeps.iteFst
    | with_reducible apply Keeps.iteSnd
    | intro _
    | with_reducible assumption
    | ((with_reducible apply Keeps.step (queueNext_keeps ..)); exact rfl)
    | fail_if_no_progress dsimp only)

theorem joined_keeps (u : Nat) (s : State) : Keeps 65544 s (joined u s) := by
  have h0 := Keeps.refl 65544 s
  unfold joined
  try dsimp only
  repeat' (first
    | intro _
    | with_reducible assumption
    | ((with_reducible apply Keeps.step (State.setCad_keeps ..)); exact rfl)
    | ((with_reducible apply Keeps.step (State.setRegBit_keeps ..)); exact rfl)
    | ((with_reducible apply Keeps.step (refreshNForm_keeps ..)); exact rfl)
    | fail_if_no_progress dsimp only)

theorem hearReady_keeps (u : Nat) (s : State) : Keeps 98312 s (hearReady u s) := by
  have h0 := Keeps.refl 98312 s
  unfold hearReady
  try dsimp only
  repeat' (first
    | intro _
    | with_reducible assumption
    | ((with_reducible apply Keeps.step (State.setBs_keeps ..)); exact rfl)
    | ((with_reducible apply Keeps.step (State.setCad_keeps ..)); exact rfl)
    | ((with_reducible apply Keeps.step (State.setOwn_keeps ..)); exact rfl)
    | ((with_reducible apply Keeps.step (State.setReg_keeps ..)); exact rfl)
    | ((with_reducible apply Keeps.step (joined_keeps ..)); exact rfl)
    | fail_if_no_progress dsimp only)

theorem hearNext_keeps (u : Nat) (s : State) : Keeps 65544 s (hearNext u s) := by
  have h0 := Keeps.refl 65544 s
  unfold hearNext
  try dsimp only
  repeat' (first
    | with_reducible apply Keeps.ite
    | with_reducible apply Keeps.iteFst
    | with_reducible apply Keeps.iteSnd
    | intro _
    | with_reducible assumption
    | ((with_reducible apply Keeps.step (State.setBs_keeps ..)); exact rfl)
    | ((with_reducible apply Keeps.step (State.setCad_keeps ..)); exact rfl)
    | ((with_reducible apply Keeps.step (State.setReg_keeps ..)); exact rfl)
    | split
    | fail_if_no_progress dsimp only)

theorem hearHold_keeps (s : State) : Keeps 65544 s (hearHold s) := by
  have h0 := Keeps.refl 65544 s
  unfold hearHold
  try dsimp only
  repeat' (first
    | with_reducible apply Keeps.ite
    | with_reducible apply Keeps.iteFst
    | with_reducible apply Keeps.iteSnd
    | intro _
    | with_reducible assumption
    | ((with_reducible apply Keeps.step (State.setBs_keeps ..)); exact rfl)
    | ((with_reducible apply Keeps.step (State.setCad_keeps ..)); exact rfl)
    | ((with_reducible apply Keeps.step (syncDrop_keeps ..)); exact rfl)
    | fail_if_no_progress dsimp only)

theorem hearResync_keeps (u : Nat) (s : State) : Keeps 65544 s (hearResync u s) := by
  have h0 := Keeps.refl 65544 s
  unfold hearResync
  try dsimp only
  repeat' (first
    | intro _
    | with_reducible assumption
    | ((with_reducible apply Keeps.step (State.setBs_keeps ..)); exact rfl)
    | ((with_reducible apply Keeps.step (State.setCad_keeps ..)); exact rfl)
    | fail_if_no_progress dsimp only)

theorem hearDone_keeps (u : Nat) (s : State) : Keeps 98312 s (hearDone u s) := by
  have h0 := Keeps.refl 98312 s
  unfold hearDone
  try dsimp only
  repeat' (first
    | with_reducible apply Keeps.ite
    | with_reducible apply Keeps.iteFst
    | with_reducible apply Keeps.iteSnd
    | intro _
    | with_reducible assumption
    | ((with_reducible apply Keeps.step (State.setBs_keeps ..)); exact rfl)
    | ((with_reducible apply Keeps.step (State.setCad_keeps ..)); exact rfl)
    | ((with_reducible apply Keeps.step (State.setOwn_keeps ..)); exact rfl)
    | ((with_reducible apply Keeps.step (joined_keeps ..)); exact rfl)
    | ((with_reducible apply Keeps.step (queueNext_keeps ..)); exact rfl)
    | fail_if_no_progress dsimp only)

theorem frameDrop_keeps (e : Instant) (s : State) : Keeps 65548 s (frameDrop e s) := by
  have h0 := Keeps.refl 65548 s
  unfold frameDrop
  try dsimp only
  repeat' (first
    | with_reducible apply Keeps.ite
    | with_reducible apply Keeps.iteFst
    | with_reducible apply Keeps.iteSnd
    | intro _
    | with_reducible assumption
    | ((with_reducible apply Keeps.step (State.bump_keeps ..)); exact rfl)
    | ((with_reducible apply Keeps.step (cadCollision_keeps ..)); exact rfl)
    | ((with_reducible apply Keeps.step (frameEnded_keeps ..)); exact rfl)
    | fail_if_no_progress dsimp only)

theorem frameTake_keeps {f : Nat} {a : State} (m : Nat) (u : Nat) (e : Instant) (apply_ : State → State) (s : State) (hf : partsIn 65549 f = true) (h_apply_ : ∀ s, Keeps f a s → Keeps f a (apply_ s)) (h0 : Keeps f a s) : Keeps f a (frameTake m u e apply_ s) := by
  unfold frameTake
  try dsimp only
  repeat' (first
    | with_reducible apply Keeps.ite
    | intro _
    | with_reducible assumption
    | ((with_reducible apply Keeps.step (frameEnded_keeps ..)); exact partsIn_trans rfl hf)
    | ((with_reducible apply Keeps.step (State.advance_keeps ..)); exact partsIn_trans rfl hf)
    | ((with_reducible apply Keeps.step (State.bump_keeps ..)); exact partsIn_trans rfl hf)
    | ((with_reducible apply Keeps.step (cadCollision_keeps ..)); exact partsIn_trans rfl hf)
    | ((with_reducible apply Keeps.step (State.setReg_keeps ..)); exact partsIn_trans rfl hf)
    | ((with_reducible apply Keeps.step (setCadQueue_keeps ..)); exact partsIn_trans rfl hf)
    | ((with_reducible apply Keeps.step (State.setCad_keeps ..)); exact partsIn_trans rfl hf)
    | ((with_reducible apply Keeps.step (State.setBs_keeps ..)); exact partsIn_trans rfl hf)
    | fail_if_no_progress dsimp only
    | with_reducible apply h_apply_)

theorem cadFrame_keeps {f : Nat} {a : State} (m : Nat) (u : Nat) (t : Instant) (apply_ : State → State) (s : State) (hf : partsIn 65549 f = true) (h_apply_ : ∀ s, Keeps f a s → Keeps f a (apply_ s)) (h0 : Keeps f a s) : Keeps f a (cadFrame m u t apply_ s) := by
  have hn : Keeps f a (s.advance t) := Keeps.step (State.advance_keeps ..) (partsIn_trans rfl hf) h0
  unfold cadFrame
  dsimp only
  split
  · refine Keeps.ite h0 fun _ => Keeps.ite (frameTake_keeps _ _ _ _ _ hf h_apply_ hn) fun _ => ?_
    exact Keeps.step (frameDrop_keeps ..) (partsIn_trans rfl hf) hn
  · exact h0

theorem cadDiscard_keeps (t : Instant) (s : State) : Keeps 65549 s (cadDiscard t s) := by
  have h0 := Keeps.refl 65549 s
  unfold cadDiscard
  try dsimp only
  repeat' (first
    | with_reducible apply Keeps.ite
    | with_reducible apply Keeps.iteFst
    | with_reducible apply Keeps.iteSnd
    | intro _
    | with_reducible assumption
    | ((with_reducible apply Keeps.step (State.advance_keeps ..)); exact rfl)
    | ((with_reducible apply Keeps.step (frameDrop_keeps ..)); exact rfl)
    | split
    | fail_if_no_progress dsimp only)

theorem actCadCmd_keeps (m : Nat) (s : State) : Keeps 65544 s (actCadCmd m s).1 := by
  have h0 := Keeps.refl 65544 s
  unfold actCadCmd
  try dsimp only
  repeat' (first
    | with_reducible apply Keeps.ite
    | with_reducible apply Keeps.iteFst
    | with_reducible apply Keeps.iteSnd
    | intro _
    | with_reducible assumption
    | ((with_reducible apply Keeps.step (State.setBs_keeps ..)); exact rfl)
    | ((with_reducible apply Keeps.step (cadQueue_keeps ..)); exact rfl)
    | fail_if_no_progress dsimp only)

theorem cadOff_keeps (s : State) : Keeps 65544 s (cadOff s) := by
  have h0 := Keeps.refl 65544 s
  unfold cadOff
  try dsimp only
  repeat' (first
    | intro _
    | with_reducible assumption
    | ((with_reducible apply Keeps.step (State.setBs_keeps ..)); exact rfl)
    | ((with_reducible apply Keeps.step (State.setCad_keeps ..)); exact rfl)
    | ((with_reducible apply Keeps.step (setCadQueue_keeps ..)); exact rfl)
    | ((with_reducible apply Keeps.step (txStop_keeps ..)); exact rfl)
    | with_reducible apply Keeps.foldl
    | with_reducible apply Keeps.foldlFst
    | with_reducible apply Keeps.foldlSnd
    | fail_if_no_progress dsimp only)

end Sys2Proof.Machine
end

