-- ==== Sys2Proof/Laws/KeepsCadence.lean ====
section
/-!
SUPPORT. What each function of Machine/Cadence.lean keeps, and which parts of the state it leaves alone.
-/

namespace Sys2Proof.Machine

theorem execFrameStartDetect_keeps (t : Instant) (s : State) : Outcome.Keeps 65537 s (execFrameStartDetect t s) := by
  have h0 := Keeps.refl 65537 s
  unfold execFrameStartDetect
  try dsimp only
  repeat' (first
    | with_reducible apply Outcome.Keeps.next
    | with_reducible apply Outcome.Keeps.ite
    | with_reducible apply Keeps.ite
    | with_reducible apply Keeps.iteFst
    | with_reducible apply Keeps.iteSnd
    | intro _
    | with_reducible assumption
    | ((with_reducible apply Keeps.step (State.advance_keeps ..)); exact rfl)
    | ((with_reducible apply Keeps.step (State.setCad_keeps ..)); exact rfl)
    | split
    | fail_if_no_progress dsimp only)

theorem execCadSlotStart_keeps (t : Instant) (s : State) : Outcome.Keeps 65545 s (execCadSlotStart t s) := by
  have h0 := Keeps.refl 65545 s
  unfold execCadSlotStart
  try dsimp only
  repeat' (first
    | with_reducible apply Outcome.Keeps.next
    | with_reducible apply Outcome.Keeps.ite
    | with_reducible apply Keeps.ite
    | with_reducible apply Keeps.iteFst
    | with_reducible apply Keeps.iteSnd
    | intro _
    | with_reducible assumption
    | ((with_reducible apply Keeps.step (State.advance_keeps ..)); exact rfl)
    | ((with_reducible apply Keeps.step (State.setBs_keeps ..)); exact rfl)
    | ((with_reducible apply Keeps.step (State.setCad_keeps ..)); exact rfl)
    | fail_if_no_progress dsimp only)

theorem execCadReady_keeps (u : Fin 16) (t : Instant) (s : State) : Outcome.Keeps 98317 s (execCadReady u t s) := by
  have h0 := Keeps.refl 98317 s
  unfold execCadReady
  try dsimp only
  repeat' (first
    | with_reducible apply Outcome.Keeps.next
    | intro _
    | with_reducible assumption
    | ((with_reducible apply cadFrame_keeps); exact rfl)
    | ((with_reducible apply Keeps.step (hearReady_keeps ..)); exact rfl)
    | fail_if_no_progress dsimp only)

theorem execCadEnergiseNext_keeps (u : Fin 16) (t : Instant) (s : State) : Outcome.Keeps 65549 s (execCadEnergiseNext u t s) := by
  have h0 := Keeps.refl 65549 s
  unfold execCadEnergiseNext
  try dsimp only
  repeat' (first
    | with_reducible apply Outcome.Keeps.next
    | intro _
    | with_reducible assumption
    | ((with_reducible apply cadFrame_keeps); exact rfl)
    | ((with_reducible apply Keeps.step (hearNext_keeps ..)); exact rfl)
    | fail_if_no_progress dsimp only)

theorem execCadHold_keeps (u : Fin 16) (t : Instant) (s : State) : Outcome.Keeps 65549 s (execCadHold u t s) := by
  have h0 := Keeps.refl 65549 s
  unfold execCadHold
  try dsimp only
  repeat' (first
    | with_reducible apply Outcome.Keeps.next
    | intro _
    | with_reducible assumption
    | ((with_reducible apply cadFrame_keeps); exact rfl)
    | ((with_reducible apply Keeps.step (hearHold_keeps ..)); exact rfl)
    | fail_if_no_progress dsimp only)

theorem execCadResync_keeps (u : Fin 16) (t : Instant) (s : State) : Outcome.Keeps 65549 s (execCadResync u t s) := by
  have h0 := Keeps.refl 65549 s
  unfold execCadResync
  try dsimp only
  repeat' (first
    | with_reducible apply Outcome.Keeps.next
    | intro _
    | with_reducible assumption
    | ((with_reducible apply cadFrame_keeps); exact rfl)
    | ((with_reducible apply Keeps.step (hearResync_keeps ..)); exact rfl)
    | fail_if_no_progress dsimp only)

theorem execCadDone_keeps (u : Fin 16) (t : Instant) (s : State) : Outcome.Keeps 98317 s (execCadDone u t s) := by
  have h0 := Keeps.refl 98317 s
  unfold execCadDone
  try dsimp only
  repeat' (first
    | with_reducible apply Outcome.Keeps.next
    | intro _
    | with_reducible assumption
    | ((with_reducible apply cadFrame_keeps); exact rfl)
    | ((with_reducible apply Keeps.step (hearDone_keeps ..)); exact rfl)
    | fail_if_no_progress dsimp only)

theorem execFrameDiscard_keeps (t : Instant) (s : State) : Outcome.Keeps 65549 s (execFrameDiscard t s) := by
  have h0 := Keeps.refl 65549 s
  unfold execFrameDiscard
  try dsimp only
  repeat' (first
    | with_reducible apply Outcome.Keeps.next
    | intro _
    | with_reducible assumption
    | ((with_reducible apply Keeps.step (cadDiscard_keeps ..)); exact rfl)
    | fail_if_no_progress dsimp only)

theorem execHoldTExpiry_keeps (t : Instant) (s : State) : Outcome.Keeps 65545 s (execHoldTExpiry t s) := by
  have h0 := Keeps.refl 65545 s
  unfold execHoldTExpiry
  try dsimp only
  repeat' (first
    | with_reducible apply Outcome.Keeps.next
    | with_reducible apply Outcome.Keeps.ite
    | with_reducible apply Keeps.ite
    | with_reducible apply Keeps.iteFst
    | with_reducible apply Keeps.iteSnd
    | intro _
    | with_reducible assumption
    | ((with_reducible apply Keeps.step (State.advance_keeps ..)); exact rfl)
    | ((with_reducible apply Keeps.step (State.setBs_keeps ..)); exact rfl)
    | ((with_reducible apply Keeps.step (queueOwed_keeps ..)); exact rfl)
    | fail_if_no_progress dsimp only)

theorem execResyncTExpiry_keeps (t : Instant) (s : State) : Outcome.Keeps 9 s (execResyncTExpiry t s) := by
  have h0 := Keeps.refl 9 s
  unfold execResyncTExpiry
  try dsimp only
  repeat' (first
    | with_reducible apply Outcome.Keeps.next
    | with_reducible apply Outcome.Keeps.ite
    | with_reducible apply Keeps.ite
    | with_reducible apply Keeps.iteFst
    | with_reducible apply Keeps.iteSnd
    | intro _
    | with_reducible assumption
    | ((with_reducible apply Keeps.step (State.advance_keeps ..)); exact rfl)
    | ((with_reducible apply Keeps.step (State.setBs_keeps ..)); exact rfl)
    | fail_if_no_progress dsimp only)

theorem execJoinTExpiry_keeps (t : Instant) (s : State) : Outcome.Keeps 65545 s (execJoinTExpiry t s) := by
  have h0 := Keeps.refl 65545 s
  unfold execJoinTExpiry
  try dsimp only
  repeat' (first
    | with_reducible apply Outcome.Keeps.next
    | with_reducible apply Outcome.Keeps.ite
    | with_reducible apply Keeps.ite
    | with_reducible apply Keeps.iteFst
    | with_reducible apply Keeps.iteSnd
    | intro _
    | with_reducible assumption
    | ((with_reducible apply Keeps.step (State.advance_keeps ..)); exact rfl)
    | ((with_reducible apply Keeps.step (State.setCad_keeps ..)); exact rfl)
    | ((with_reducible apply Keeps.step (queueNext_keeps ..)); exact rfl)
    | fail_if_no_progress dsimp only)

theorem execCadCmdReady_keeps (s : State) : Outcome.Keeps 65544 s (execCadCmdReady s) := by
  have h0 := Keeps.refl 65544 s
  unfold execCadCmdReady
  try dsimp only
  repeat' (first
    | with_reducible apply Outcome.Keeps.next
    | intro _
    | with_reducible assumption
    | ((with_reducible apply Keeps.step (actCadCmd_keeps ..)); exact rfl)
    | fail_if_no_progress dsimp only)

theorem execCadCmdEnergiseNext_keeps (s : State) : Outcome.Keeps 65544 s (execCadCmdEnergiseNext s) := by
  have h0 := Keeps.refl 65544 s
  unfold execCadCmdEnergiseNext
  try dsimp only
  repeat' (first
    | with_reducible apply Outcome.Keeps.next
    | intro _
    | with_reducible assumption
    | ((with_reducible apply Keeps.step (actCadCmd_keeps ..)); exact rfl)
    | fail_if_no_progress dsimp only)

theorem execCadCmdHold_keeps (s : State) : Outcome.Keeps 65544 s (execCadCmdHold s) := by
  have h0 := Keeps.refl 65544 s
  unfold execCadCmdHold
  try dsimp only
  repeat' (first
    | with_reducible apply Outcome.Keeps.next
    | intro _
    | with_reducible assumption
    | ((with_reducible apply Keeps.step (actCadCmd_keeps ..)); exact rfl)
    | fail_if_no_progress dsimp only)

theorem execCadCmdResync_keeps (s : State) : Outcome.Keeps 65544 s (execCadCmdResync s) := by
  have h0 := Keeps.refl 65544 s
  unfold execCadCmdResync
  try dsimp only
  repeat' (first
    | with_reducible apply Outcome.Keeps.next
    | intro _
    | with_reducible assumption
    | ((with_reducible apply Keeps.step (actCadCmd_keeps ..)); exact rfl)
    | fail_if_no_progress dsimp only)

theorem execCadCmdDone_keeps (s : State) : Outcome.Keeps 65544 s (execCadCmdDone s) := by
  have h0 := Keeps.refl 65544 s
  unfold execCadCmdDone
  try dsimp only
  repeat' (first
    | with_reducible apply Outcome.Keeps.next
    | intro _
    | with_reducible assumption
    | ((with_reducible apply Keeps.step (actCadCmd_keeps ..)); exact rfl)
    | fail_if_no_progress dsimp only)

theorem actCadEn_keeps (v : Nat) (s : State) : Keeps 65544 s (actCadEn v s).1 := by
  have h0 := Keeps.refl 65544 s
  unfold actCadEn
  try dsimp only
  repeat' (first
    | with_reducible apply Keeps.ite
    | with_reducible apply Keeps.iteFst
    | with_reducible apply Keeps.iteSnd
    | intro _
    | with_reducible assumption
    | ((with_reducible apply Keeps.step (State.setBs_keeps ..)); exact rfl)
    | ((with_reducible apply Keeps.step (State.setCad_keeps ..)); exact rfl)
    | ((with_reducible apply Keeps.step (State.setReg_keeps ..)); exact rfl)
    | fail_if_no_progress dsimp only)

theorem execCadEnClear_keeps (s : State) : Outcome.Keeps 327688 s (execCadEnClear s) := by
  have h0 := Keeps.refl 327688 s
  unfold execCadEnClear
  try dsimp only
  repeat' (first
    | with_reducible apply Outcome.Keeps.next
    | intro _
    | with_reducible assumption
    | ((with_reducible apply Keeps.step (actCadEn_keeps ..)); exact rfl)
    | ((with_reducible apply stored_keeps); exact rfl)
    | fail_if_no_progress dsimp only)

end Sys2Proof.Machine
end

