-- ==== Sys2Proof/Laws/KeepsClocks.lean ====
section
/-!
SUPPORT. What each function of Machine/Clocks.lean keeps, and which parts of the state it leaves alone.
-/

namespace Sys2Proof.Machine

theorem execPllLocked_keeps (p : Fin 3) (band : BitVec 16) (t : Instant) (s : State) : Outcome.Keeps 16777231 s (execPllLocked p band t s) := by
  have h0 := Keeps.refl 16777231 s
  unfold execPllLocked
  try dsimp only
  repeat' (first
    | with_reducible apply Outcome.Keeps.next
    | with_reducible apply Outcome.Keeps.ite
    | with_reducible apply Keeps.ite
    | with_reducible apply Keeps.iteFst
    | with_reducible apply Keeps.iteSnd
    | intro _
    | with_reducible assumption
    | ((with_reducible apply Keeps.step (State.advance_keeps ..)); exact rfl)
    | ((with_reducible apply Keeps.step (pllLocked_keeps ..)); exact rfl)
    | fail_if_no_progress dsimp only)

theorem execPllLossOfLock_keeps (p : Fin 3) (t : Instant) (s : State) : Outcome.Keeps 1224736781 s (execPllLossOfLock p t s) := by
  have h0 := Keeps.refl 1224736781 s
  unfold execPllLossOfLock
  try dsimp only
  repeat' (first
    | with_reducible apply Outcome.Keeps.next
    | with_reducible apply Outcome.Keeps.ite
    | with_reducible apply Keeps.ite
    | with_reducible apply Keeps.iteFst
    | with_reducible apply Keeps.iteSnd
    | intro _
    | with_reducible assumption
    | ((with_reducible apply Keeps.step (State.advance_keeps ..)); exact rfl)
    | ((with_reducible apply Keeps.step (holdoverNoRef_keeps ..)); exact rfl)
    | ((with_reducible apply Keeps.step (pllLose_keeps ..)); exact rfl)
    | fail_if_no_progress dsimp only)

theorem execXinLost_keeps (t : Instant) (s : State) : Outcome.Keeps 1224736781 s (execXinLost t s) := by
  have h0 := Keeps.refl 1224736781 s
  unfold execXinLost
  try dsimp only
  repeat' (first
    | with_reducible apply Outcome.Keeps.next
    | with_reducible apply Outcome.Keeps.ite
    | with_reducible apply Keeps.ite
    | with_reducible apply Keeps.iteFst
    | with_reducible apply Keeps.iteSnd
    | intro _
    | with_reducible assumption
    | ((with_reducible apply Keeps.step (State.advance_keeps ..)); exact rfl)
    | ((with_reducible apply Keeps.step (State.bump_keeps ..)); exact rfl)
    | ((with_reducible apply Keeps.step (State.setFlag_keeps ..)); exact rfl)
    | ((with_reducible apply Keeps.step (holdoverNoRef_keeps ..)); exact rfl)
    | ((with_reducible apply Keeps.step (pllHoldover_keeps ..)); exact rfl)
    | ((with_reducible apply Keeps.step (pllLose_keeps ..)); exact rfl)
    | with_reducible apply Keeps.forEach
    | fail_if_no_progress dsimp only)

theorem execXinRestored_keeps (t : Instant) (s : State) : Outcome.Keeps 9 s (execXinRestored t s) := by
  have h0 := Keeps.refl 9 s
  unfold execXinRestored
  try dsimp only
  repeat' (first
    | with_reducible apply Outcome.Keeps.next
    | intro _
    | with_reducible assumption
    | ((with_reducible apply Keeps.step (State.advance_keeps ..)); exact rfl)
    | ((with_reducible apply Keeps.step (State.setFlag_keeps ..)); exact rfl)
    | fail_if_no_progress dsimp only)

theorem windowError_keeps (count : Nat) (ratio : Rat) (s : State) : Keeps 4 s (windowError count ratio s).2 := by
  have h0 := Keeps.refl 4 s
  unfold windowError
  try dsimp only
  repeat' (first
    | intro _
    | with_reducible assumption
    | ((with_reducible apply Keeps.step (State.openRound_keeps ..)); exact rfl)
    | fail_if_no_progress dsimp only)

theorem execFreqWindowEnd_keeps (a : Nat) (b : Nat) (c0 : Nat) (c1 : Nat) (limits : BitVec 3) (t : Instant) (s : State) : Outcome.Keeps 1224736781 s (execFreqWindowEnd a b c0 c1 limits t s) := by
  have h0 := Keeps.refl 1224736781 s
  unfold execFreqWindowEnd
  try dsimp only
  repeat' (first
    | with_reducible apply Outcome.Keeps.next
    | with_reducible apply Outcome.Keeps.ite
    | with_reducible apply Keeps.ite
    | with_reducible apply Keeps.iteFst
    | with_reducible apply Keeps.iteSnd
    | intro _
    | with_reducible assumption
    | ((with_reducible apply Keeps.step (State.advance_keeps ..)); exact rfl)
    | ((with_reducible apply Keeps.step (State.setFlag_keeps ..)); exact rfl)
    | ((with_reducible apply Keeps.step (State.setReg_keeps ..)); exact rfl)
    | ((with_reducible apply Keeps.step (ditherMoves_keeps ..)); exact rfl)
    | ((with_reducible apply Keeps.step (pllReengage_keeps ..)); exact rfl)
    | ((with_reducible apply Keeps.step (setHoldover_keeps ..)); exact rfl)
    | ((with_reducible apply Keeps.step (windowError_keeps ..)); exact rfl)
    | with_reducible apply Keeps.forEach
    | fail_if_no_progress dsimp only)

theorem actRelock_keeps (mask : Nat) (s : State) : Keeps 16777224 s (actRelock mask s).1 := by
  have h0 := Keeps.refl 16777224 s
  unfold actRelock
  try dsimp only
  repeat' (first
    | with_reducible apply Keeps.ite
    | with_reducible apply Keeps.iteFst
    | with_reducible apply Keeps.iteSnd
    | intro _
    | with_reducible assumption
    | ((with_reducible apply Keeps.step (State.setClk_keeps ..)); exact rfl)
    | ((with_reducible apply Keeps.step (State.setFlag_keeps ..)); exact rfl)
    | ((with_reducible apply Keeps.step (State.setReg_keeps ..)); exact rfl)
    | ((with_reducible apply Keeps.step (pllStart_keeps ..)); exact rfl)
    | with_reducible apply Keeps.forEach
    | fail_if_no_progress dsimp only)

theorem execRelock_keeps (mask : BitVec 3) (s : State) : Outcome.Keeps 16777224 s (execRelock mask s) := by
  have h0 := Keeps.refl 16777224 s
  unfold execRelock
  try dsimp only
  repeat' (first
    | with_reducible apply Outcome.Keeps.next
    | intro _
    | with_reducible assumption
    | ((with_reducible apply Keeps.step (actRelock_keeps ..)); exact rfl)
    | fail_if_no_progress dsimp only)

theorem execTimebaseStep_keeps (t : Instant) (s : State) : Outcome.Keeps 1224999183 s (execTimebaseStep t s) := by
  have h0 := Keeps.refl 1224999183 s
  unfold execTimebaseStep
  try dsimp only
  repeat' (first
    | with_reducible apply Outcome.Keeps.next
    | with_reducible apply Outcome.Keeps.ite
    | with_reducible apply Keeps.ite
    | with_reducible apply Keeps.iteFst
    | with_reducible apply Keeps.iteSnd
    | intro _
    | with_reducible assumption
    | ((with_reducible apply Keeps.step (State.advance_keeps ..)); exact rfl)
    | ((with_reducible apply Keeps.step (stepOnce_keeps ..)); exact rfl)
    | fail_if_no_progress dsimp only)

theorem actTimeSet_keeps (s : State) : Keeps 16777224 s (actTimeSet s).1 := by
  have h0 := Keeps.refl 16777224 s
  unfold actTimeSet
  try dsimp only
  repeat' (first
    | with_reducible apply Keeps.ite
    | with_reducible apply Keeps.iteFst
    | with_reducible apply Keeps.iteSnd
    | intro _
    | with_reducible assumption
    | ((with_reducible apply Keeps.step (State.setClk_keeps ..)); exact rfl)
    | ((with_reducible apply Keeps.step (State.setReg_keeps ..)); exact rfl)
    | fail_if_no_progress dsimp only)

theorem execTimeSet_keeps (s : State) : Outcome.Keeps 16777224 s (execTimeSet s) := by
  have h0 := Keeps.refl 16777224 s
  unfold execTimeSet
  try dsimp only
  repeat' (first
    | with_reducible apply Outcome.Keeps.next
    | intro _
    | with_reducible assumption
    | ((with_reducible apply Keeps.step (actTimeSet_keeps ..)); exact rfl)
    | fail_if_no_progress dsimp only)

theorem actRestep_keeps (s : State) : Keeps 1224999182 s (actRestep s).1 := by
  have h0 := Keeps.refl 1224999182 s
  unfold actRestep
  try dsimp only
  repeat' (first
    | with_reducible apply Keeps.ite
    | with_reducible apply Keeps.iteFst
    | with_reducible apply Keeps.iteSnd
    | intro _
    | with_reducible assumption
    | ((with_reducible apply Keeps.step (State.setReg_keeps ..)); exact rfl)
    | ((with_reducible apply Keeps.step (stepTime_keeps ..)); exact rfl)
    | split
    | fail_if_no_progress dsimp only)

theorem execRestep_keeps (s : State) : Outcome.Keeps 1224999182 s (execRestep s) := by
  have h0 := Keeps.refl 1224999182 s
  unfold execRestep
  try dsimp only
  repeat' (first
    | with_reducible apply Outcome.Keeps.next
    | intro _
    | with_reducible assumption
    | ((with_reducible apply Keeps.step (actRestep_keeps ..)); exact rfl)
    | fail_if_no_progress dsimp only)

theorem execPtpOffset_keeps (s : State) : Outcome.Keeps 16777228 s (execPtpOffset s) := by
  have h0 := Keeps.refl 16777228 s
  unfold execPtpOffset
  try dsimp only
  repeat' (first
    | with_reducible apply Outcome.Keeps.next
    | with_reducible apply Outcome.Keeps.ite
    | with_reducible apply Keeps.ite
    | with_reducible apply Keeps.iteFst
    | with_reducible apply Keeps.iteSnd
    | intro _
    | with_reducible assumption
    | ((with_reducible apply Keeps.step (State.setClk_keeps ..)); exact rfl)
    | ((with_reducible apply Keeps.step (validOffset_keeps ..)); exact rfl)
    | split
    | fail_if_no_progress dsimp only)

theorem ptpForward_keeps (k : Nat) (dom : Nat) (src : Nat) (m : PtpFrame) (res : Nat) (s : State) : Keeps 1107296256 s (ptpForward k dom src m res s) := by
  have h0 := Keeps.refl 1107296256 s
  unfold ptpForward
  try dsimp only
  repeat' (first
    | with_reducible apply Keeps.ite
    | with_reducible apply Keeps.iteFst
    | with_reducible apply Keeps.iteSnd
    | intro _
    | with_reducible assumption
    | ((with_reducible apply Keeps.step (State.emit_keeps ..)); exact rfl)
    | split
    | (fail_if_no_progress with_reducible apply Keeps.update) <;> first | ((with_reducible apply Or.inr); with_reducible rfl) | ((with_reducible apply Or.inl); first | exact rfl) | skip
    | fail_if_no_progress dsimp only)

theorem execPtpMessage_keeps (k : Fin 4) (dom : Nat) (src : Nat) (m : PtpFrame) (res : Nat) (t : Instant) (s : State) : Outcome.Keeps 1392508941 s (execPtpMessage k dom src m res t s) := by
  have h0 := Keeps.refl 1392508941 s
  unfold execPtpMessage
  try dsimp only
  repeat' (first
    | with_reducible apply Outcome.Keeps.next
    | with_reducible apply Outcome.Keeps.ite
    | with_reducible apply Keeps.ite
    | with_reducible apply Keeps.iteFst
    | with_reducible apply Keeps.iteSnd
    | intro _
    | with_reducible assumption
    | ((with_reducible apply Keeps.step (State.advance_keeps ..)); exact rfl)
    | ((with_reducible apply Keeps.step (ptpForward_keeps ..)); exact rfl)
    | ((with_reducible apply Keeps.step (ptpIn_keeps ..)); exact rfl)
    | fail_if_no_progress dsimp only)

theorem execPtpMessageSend_keeps (k : Fin 4) (kind : Fin 3) (t : Instant) (s : State) : Outcome.Keeps 1375731713 s (execPtpMessageSend k kind t s) := by
  have h0 := Keeps.refl 1375731713 s
  unfold execPtpMessageSend
  try dsimp only
  repeat' (first
    | with_reducible apply Outcome.Keeps.next
    | with_reducible apply Outcome.Keeps.ite
    | with_reducible apply Keeps.ite
    | with_reducible apply Keeps.iteFst
    | with_reducible apply Keeps.iteSnd
    | intro _
    | with_reducible assumption
    | ((with_reducible apply Keeps.step (State.advance_keeps ..)); exact rfl)
    | ((with_reducible apply Keeps.step (State.setPtpPort_keeps ..)); exact rfl)
    | ((with_reducible apply Keeps.step (ptpSend_keeps ..)); exact rfl)
    | split
    | fail_if_no_progress dsimp only)

theorem execPtpAnnounceTimeout_keeps (t : Instant) (s : State) : Outcome.Keeps 50331661 s (execPtpAnnounceTimeout t s) := by
  have h0 := Keeps.refl 50331661 s
  unfold execPtpAnnounceTimeout
  try dsimp only
  repeat' (first
    | with_reducible apply Outcome.Keeps.next
    | with_reducible apply Outcome.Keeps.ite
    | with_reducible apply Keeps.ite
    | with_reducible apply Keeps.iteFst
    | with_reducible apply Keeps.iteSnd
    | intro _
    | with_reducible assumption
    | ((with_reducible apply Keeps.step (State.advance_keeps ..)); exact rfl)
    | ((with_reducible apply Keeps.step (State.setClk_keeps ..)); exact rfl)
    | ((with_reducible apply Keeps.step (State.setTf_keeps ..)); exact rfl)
    | ((with_reducible apply Keeps.step (ptpDecide_keeps ..)); exact rfl)
    | ((with_reducible apply Keeps.step (setRate_keeps ..)); exact rfl)
    | ((with_reducible apply Keeps.step (setTimeState_keeps ..)); exact rfl)
    | split
    | (fail_if_no_progress with_reducible apply Keeps.update) <;> first | ((with_reducible apply Or.inr); with_reducible rfl) | ((with_reducible apply Or.inl); first | exact rfl) | skip
    | fail_if_no_progress dsimp only)

theorem actPtpConfig_keeps (i : Nat) (v : Nat) (s : State) : Keeps 50331656 s (actPtpConfig i v s).1 := by
  have h0 := Keeps.refl 50331656 s
  unfold actPtpConfig
  try dsimp only
  repeat' (first
    | with_reducible apply Keeps.ite
    | with_reducible apply Keeps.iteFst
    | with_reducible apply Keeps.iteSnd
    | intro _
    | with_reducible assumption
    | ((with_reducible apply Keeps.step (State.setReg_keeps ..)); exact rfl)
    | ((with_reducible apply Keeps.step (ptpRestart_keeps ..)); exact rfl)
    | fail_if_no_progress dsimp only)

theorem execPtpConfigWrite_keeps (i : Fin 7) (v : BitVec 16) (s : State) : Outcome.Keeps 50593800 s (execPtpConfigWrite i v s) := by
  have h0 := Keeps.refl 50593800 s
  unfold execPtpConfigWrite
  try dsimp only
  repeat' (first
    | with_reducible apply Outcome.Keeps.next
    | intro _
    | with_reducible assumption
    | ((with_reducible apply Keeps.step (actPtpConfig_keeps ..)); exact rfl)
    | ((with_reducible apply stored_keeps); exact rfl)
    | fail_if_no_progress dsimp only)

theorem execEdgeAlignStep_keeps (err : BitVec 16) (t : Instant) (s : State) : Outcome.Keeps 16777229 s (execEdgeAlignStep err t s) := by
  have h0 := Keeps.refl 16777229 s
  unfold execEdgeAlignStep
  try dsimp only
  repeat' (first
    | with_reducible apply Outcome.Keeps.next
    | with_reducible apply Outcome.Keeps.ite
    | with_reducible apply Keeps.ite
    | with_reducible apply Keeps.iteFst
    | with_reducible apply Keeps.iteSnd
    | intro _
    | with_reducible assumption
    | ((with_reducible apply Keeps.step (State.advance_keeps ..)); exact rfl)
    | ((with_reducible apply Keeps.step (State.bump_keeps ..)); exact rfl)
    | ((with_reducible apply Keeps.step (State.setClk_keeps ..)); exact rfl)
    | ((with_reducible apply Keeps.step (State.setReg_keeps ..)); exact rfl)
    | ((with_reducible apply Keeps.step (State.setTf_keeps ..)); exact rfl)
    | fail_if_no_progress dsimp only)

theorem execRtcSet_keeps (t : Instant) (s : State) : Outcome.Keeps 16777217 s (execRtcSet t s) := by
  have h0 := Keeps.refl 16777217 s
  unfold execRtcSet
  try dsimp only
  repeat' (first
    | with_reducible apply Outcome.Keeps.next
    | with_reducible apply Outcome.Keeps.ite
    | with_reducible apply Keeps.ite
    | with_reducible apply Keeps.iteFst
    | with_reducible apply Keeps.iteSnd
    | intro _
    | with_reducible assumption
    | ((with_reducible apply Keeps.step (State.advance_keeps ..)); exact rfl)
    | ((with_reducible apply Keeps.step (State.setClk_keeps ..)); exact rfl)
    | fail_if_no_progress dsimp only)

theorem execTaEnable_keeps (n : Fin 16) (s : State) : Outcome.Keeps 262472 s (execTaEnable n s) := by
  have h0 := Keeps.refl 262472 s
  unfold execTaEnable
  try dsimp only
  repeat' (first
    | with_reducible apply Outcome.Keeps.next
    | intro _
    | with_reducible assumption
    | ((with_reducible apply Keeps.step (actTaCfg_keeps ..)); exact rfl)
    | ((with_reducible apply stored_keeps); exact rfl)
    | fail_if_no_progress dsimp only)

theorem execTaDisable_keeps (n : Fin 16) (s : State) : Outcome.Keeps 262472 s (execTaDisable n s) := by
  have h0 := Keeps.refl 262472 s
  unfold execTaDisable
  try dsimp only
  repeat' (first
    | with_reducible apply Outcome.Keeps.next
    | intro _
    | with_reducible assumption
    | ((with_reducible apply Keeps.step (actTaCfg_keeps ..)); exact rfl)
    | ((with_reducible apply stored_keeps); exact rfl)
    | fail_if_no_progress dsimp only)

end Sys2Proof.Machine
end

