-- ==== Sys2Proof/Laws/KeepsFilters.lean ====
section
/-!
SUPPORT. What each function of Machine/Filters.lean keeps, and which parts of the state it leaves alone.
-/

namespace Sys2Proof.Machine

theorem execCicOutput_keeps (k : Fin 40) (bits : List Bool) (t : Instant) (s : State) : Outcome.Keeps 1048589 s (execCicOutput k bits t s) := by
  have h0 := Keeps.refl 1048589 s
  unfold execCicOutput
  try dsimp only
  repeat' (first
    | with_reducible apply Outcome.Keeps.next
    | with_reducible apply Outcome.Keeps.ite
    | with_reducible apply Keeps.ite
    | with_reducible apply Keeps.iteFst
    | with_reducible apply Keeps.iteSnd
    | intro _
    | with_reducible assumption
    | ((with_reducible apply Keeps.step (State.advance_keeps ..)); exact rfl)
    | ((with_reducible apply Keeps.step (State.setFl_keeps ..)); exact rfl)
    | ((with_reducible apply Keeps.step (cicBlock_keeps ..)); exact rfl)
    | ((with_reducible apply Keeps.step (flRestart_keeps ..)); exact rfl)
    | fail_if_no_progress dsimp only)

theorem execLaneOutput_keeps (k : Fin 40) (t : Instant) (s : State) : Outcome.Keeps 3309741 s (execLaneOutput k t s) := by
  have h0 := Keeps.refl 3309741 s
  unfold execLaneOutput
  try dsimp only
  repeat' (first
    | with_reducible apply Outcome.Keeps.next
    | with_reducible apply Outcome.Keeps.ite
    | with_reducible apply Keeps.ite
    | with_reducible apply Keeps.iteFst
    | with_reducible apply Keeps.iteSnd
    | intro _
    | with_reducible assumption
    | ((with_reducible apply Keeps.step (State.advance_keeps ..)); exact rfl)
    | ((with_reducible apply Keeps.step (laneOutput_keeps ..)); exact rfl)
    | split
    | fail_if_no_progress dsimp only)

theorem actLaneCfg_keeps (k : Nat) (v : Nat) (s : State) : Keeps 1179660 s (actLaneCfg k v s).1 := by
  have h0 := Keeps.refl 1179660 s
  unfold actLaneCfg
  try dsimp only
  repeat' (first
    | with_reducible apply Keeps.ite
    | with_reducible apply Keeps.iteFst
    | with_reducible apply Keeps.iteSnd
    | intro _
    | with_reducible assumption
    | ((with_reducible apply Keeps.step (laneCfgApply_keeps ..)); exact rfl)
    | fail_if_no_progress dsimp only)

theorem execLaneCfgWrite_keeps (k : Fin 40) (v : BitVec 32) (s : State) : Outcome.Keeps 1441804 s (execLaneCfgWrite k v s) := by
  have h0 := Keeps.refl 1441804 s
  unfold execLaneCfgWrite
  try dsimp only
  repeat' (first
    | with_reducible apply Outcome.Keeps.next
    | intro _
    | with_reducible assumption
    | ((with_reducible apply Keeps.step (actLaneCfg_keeps ..)); exact rfl)
    | ((with_reducible apply stored_keeps); exact rfl)
    | fail_if_no_progress dsimp only)

theorem actCoefWrite_keeps (s : State) : Keeps 1048584 s (actCoefWrite s).1 := by
  have h0 := Keeps.refl 1048584 s
  unfold actCoefWrite
  try dsimp only
  repeat' (first
    | with_reducible apply Keeps.ite
    | with_reducible apply Keeps.iteFst
    | with_reducible apply Keeps.iteSnd
    | intro _
    | with_reducible assumption
    | ((with_reducible apply Keeps.step (State.setReg_keeps ..)); exact rfl)
    | (fail_if_no_progress with_reducible apply Keeps.update) <;> first | ((with_reducible apply Or.inr); with_reducible rfl) | ((with_reducible apply Or.inl); first | exact rfl) | skip
    | fail_if_no_progress dsimp only)

theorem execCoefWrite_keeps (s : State) : Outcome.Keeps 1048584 s (execCoefWrite s) := by
  have h0 := Keeps.refl 1048584 s
  unfold execCoefWrite
  try dsimp only
  repeat' (first
    | with_reducible apply Outcome.Keeps.next
    | intro _
    | with_reducible assumption
    | ((with_reducible apply Keeps.step (actCoefWrite_keeps ..)); exact rfl)
    | fail_if_no_progress dsimp only)

theorem actCoefCommit_keeps (s : State) : Keeps 1048584 s (actCoefCommit s).1 := by
  have h0 := Keeps.refl 1048584 s
  unfold actCoefCommit
  try dsimp only
  repeat' (first
    | with_reducible apply Keeps.ite
    | with_reducible apply Keeps.iteFst
    | with_reducible apply Keeps.iteSnd
    | intro _
    | with_reducible assumption
    | ((with_reducible apply Keeps.step (State.setReg_keeps ..)); exact rfl)
    | (fail_if_no_progress with_reducible apply Keeps.update) <;> first | ((with_reducible apply Or.inr); with_reducible rfl) | ((with_reducible apply Or.inl); first | exact rfl) | skip
    | fail_if_no_progress dsimp only)

theorem execCoefCommit_keeps (s : State) : Outcome.Keeps 1048584 s (execCoefCommit s) := by
  have h0 := Keeps.refl 1048584 s
  unfold execCoefCommit
  try dsimp only
  repeat' (first
    | with_reducible apply Outcome.Keeps.next
    | intro _
    | with_reducible assumption
    | ((with_reducible apply Keeps.step (actCoefCommit_keeps ..)); exact rfl)
    | fail_if_no_progress dsimp only)

theorem actBankSel_keeps (k : Nat) (b : Nat) (s : State) : Keeps 1048584 s (actBankSel k b s).1 := by
  have h0 := Keeps.refl 1048584 s
  unfold actBankSel
  try dsimp only
  repeat' (first
    | with_reducible apply Keeps.ite
    | with_reducible apply Keeps.iteFst
    | with_reducible apply Keeps.iteSnd
    | intro _
    | with_reducible assumption
    | ((with_reducible apply Keeps.step (State.setFl_keeps ..)); exact rfl)
    | ((with_reducible apply Keeps.step (State.setFlag_keeps ..)); exact rfl)
    | ((with_reducible apply Keeps.step (State.setFld_keeps ..)); exact rfl)
    | ((with_reducible apply Keeps.step (State.setReg_keeps ..)); exact rfl)
    | fail_if_no_progress dsimp only)

theorem execBankSel_keeps (k : Fin 40) (b : Fin 2) (s : State) : Outcome.Keeps 1048584 s (execBankSel k b s) := by
  have h0 := Keeps.refl 1048584 s
  unfold execBankSel
  try dsimp only
  repeat' (first
    | with_reducible apply Outcome.Keeps.next
    | intro _
    | with_reducible assumption
    | ((with_reducible apply Keeps.step (actBankSel_keeps ..)); exact rfl)
    | fail_if_no_progress dsimp only)

theorem actFiltClear_keeps (s : State) : Keeps 8 s (actFiltClear s).1 := by
  have h0 := Keeps.refl 8 s
  unfold actFiltClear
  try dsimp only
  repeat' (first
    | intro _
    | with_reducible assumption
    | ((with_reducible apply Keeps.step (State.setReg_keeps ..)); exact rfl)
    | with_reducible apply Keeps.forEach
    | fail_if_no_progress dsimp only)

theorem execFiltClear_keeps (s : State) : Outcome.Keeps 8 s (execFiltClear s) := by
  have h0 := Keeps.refl 8 s
  unfold execFiltClear
  try dsimp only
  repeat' (first
    | with_reducible apply Outcome.Keeps.next
    | intro _
    | with_reducible assumption
    | ((with_reducible apply Keeps.step (actFiltClear_keeps ..)); exact rfl)
    | fail_if_no_progress dsimp only)

end Sys2Proof.Machine
end

