-- ==== Sys2Proof/Laws/KeepsDrivers.lean ====
section
/-!
SUPPORT. What each function of Machine/Drivers.lean keeps, and which parts of the state it leaves alone.
-/

namespace Sys2Proof.Machine

theorem execLdEnable_keeps (n : Fin 8) (t : Instant) (s : State) : Outcome.Keeps 263177 s (execLdEnable n t s) := by
  have h0 := Keeps.refl 263177 s
  unfold execLdEnable
  try dsimp only
  repeat' (first
    | with_reducible apply Outcome.Keeps.next
    | intro _
    | with_reducible assumption
    | ((with_reducible apply Keeps.step (State.advance_keeps ..)); exact rfl)
    | ((with_reducible apply Keeps.step (State.setFlag_keeps ..)); exact rfl)
    | ((with_reducible apply Keeps.step (ldEnable_keeps ..)); exact rfl)
    | ((with_reducible apply Keeps.step (storeRws_keeps ..)); exact rfl)
    | fail_if_no_progress dsimp only)

theorem execLdBootstrapReady_keeps (n : Fin 8) (vbst : BitVec 16) (t : Instant) (s : State) : Outcome.Keeps 1033 s (execLdBootstrapReady n vbst t s) := by
  have h0 := Keeps.refl 1033 s
  unfold execLdBootstrapReady
  try dsimp only
  repeat' (first
    | with_reducible apply Outcome.Keeps.next
    | with_reducible apply Outcome.Keeps.ite
    | with_reducible apply Keeps.ite
    | with_reducible apply Keeps.iteFst
    | with_reducible apply Keeps.iteSnd
    | intro _
    | with_reducible assumption
    | ((with_reducible apply Keeps.step (State.advance_keeps ..)); exact rfl)
    | ((with_reducible apply Keeps.step (State.setFlag_keeps ..)); exact rfl)
    | ((with_reducible apply Keeps.step (State.setReg_keeps ..)); exact rfl)
    | ((with_reducible apply Keeps.step (ldApply_keeps ..)); exact rfl)
    | ((with_reducible apply Keeps.step (ldShutdown_keeps ..)); exact rfl)
    | ((with_reducible apply Keeps.step (ldSuccess_keeps ..)); exact rfl)
    | fail_if_no_progress dsimp only)

theorem execLdBootstrapTimeout_keeps (n : Fin 8) (t : Instant) (s : State) : Outcome.Keeps 1033 s (execLdBootstrapTimeout n t s) := by
  have h0 := Keeps.refl 1033 s
  unfold execLdBootstrapTimeout
  try dsimp only
  repeat' (first
    | with_reducible apply Outcome.Keeps.next
    | with_reducible apply Outcome.Keeps.ite
    | with_reducible apply Keeps.ite
    | with_reducible apply Keeps.iteFst
    | with_reducible apply Keeps.iteSnd
    | intro _
    | with_reducible assumption
    | ((with_reducible apply Keeps.step (State.advance_keeps ..)); exact rfl)
    | ((with_reducible apply Keeps.step (State.setLd_keeps ..)); exact rfl)
    | ((with_reducible apply Keeps.step (ldBstuv_keeps ..)); exact rfl)
    | ((with_reducible apply Keeps.step (ldShutdown_keeps ..)); exact rfl)
    | fail_if_no_progress dsimp only)

theorem actLdMode_keeps (n : Nat) (m : Nat) (s : State) : Keeps 1032 s (actLdMode n m s).1 := by
  have h0 := Keeps.refl 1032 s
  unfold actLdMode
  try dsimp only
  repeat' (first
    | with_reducible apply Keeps.ite
    | with_reducible apply Keeps.iteFst
    | with_reducible apply Keeps.iteSnd
    | intro _
    | with_reducible assumption
    | ((with_reducible apply Keeps.step (State.setFld_keeps ..)); exact rfl)
    | ((with_reducible apply Keeps.step (ldModeTake_keeps ..)); exact rfl)
    | fail_if_no_progress dsimp only)

theorem execLdModeWrite_keeps (n : Fin 8) (m : BitVec 2) (t : Instant) (s : State) : Outcome.Keeps 263177 s (execLdModeWrite n m t s) := by
  have h0 := Keeps.refl 263177 s
  unfold execLdModeWrite
  try dsimp only
  repeat' (first
    | with_reducible apply Outcome.Keeps.next
    | intro _
    | with_reducible assumption
    | ((with_reducible apply Keeps.step (State.advance_keeps ..)); exact rfl)
    | ((with_reducible apply Keeps.step (actLdMode_keeps ..)); exact rfl)
    | ((with_reducible apply stored_keeps); exact rfl)
    | fail_if_no_progress dsimp only)

theorem execLdFollowEdge_keeps (n : Fin 8) (s : State) : Outcome.Keeps 1033 s (execLdFollowEdge n s) := by
  have h0 := Keeps.refl 1033 s
  unfold execLdFollowEdge
  try dsimp only
  repeat' (first
    | with_reducible apply Outcome.Keeps.next
    | intro _
    | with_reducible assumption
    | ((with_reducible apply Keeps.step (State.advance_keeps ..)); exact rfl)
    | ((with_reducible apply Keeps.step (State.setLd_keeps ..)); exact rfl)
    | ((with_reducible apply Keeps.step (ldApply_keeps ..)); exact rfl)
    | split
    | fail_if_no_progress dsimp only)

theorem execLdRefresh_keeps (n : Fin 8) (vbst : BitVec 16) (t : Instant) (s : State) : Outcome.Keeps 1037 s (execLdRefresh n vbst t s) := by
  have h0 := Keeps.refl 1037 s
  unfold execLdRefresh
  try dsimp only
  repeat' (first
    | with_reducible apply Outcome.Keeps.next
    | with_reducible apply Outcome.Keeps.ite
    | with_reducible apply Keeps.ite
    | with_reducible apply Keeps.iteFst
    | with_reducible apply Keeps.iteSnd
    | intro _
    | with_reducible assumption
    | ((with_reducible apply Keeps.step (State.advance_keeps ..)); exact rfl)
    | ((with_reducible apply Keeps.step (State.bump_keeps ..)); exact rfl)
    | ((with_reducible apply Keeps.step (State.setFlag_keeps ..)); exact rfl)
    | ((with_reducible apply Keeps.step (State.setLd_keeps ..)); exact rfl)
    | ((with_reducible apply Keeps.step (State.setReg_keeps ..)); exact rfl)
    | fail_if_no_progress dsimp only)

theorem execLdBstuv_keeps (n : Fin 8) (vbst : BitVec 16) (t : Instant) (s : State) : Outcome.Keeps 1033 s (execLdBstuv n vbst t s) := by
  have h0 := Keeps.refl 1033 s
  unfold execLdBstuv
  try dsimp only
  repeat' (first
    | with_reducible apply Outcome.Keeps.next
    | with_reducible apply Outcome.Keeps.ite
    | with_reducible apply Keeps.ite
    | with_reducible apply Keeps.iteFst
    | with_reducible apply Keeps.iteSnd
    | intro _
    | with_reducible assumption
    | ((with_reducible apply Keeps.step (State.advance_keeps ..)); exact rfl)
    | ((with_reducible apply Keeps.step (State.setFlag_keeps ..)); exact rfl)
    | ((with_reducible apply Keeps.step (State.setReg_keeps ..)); exact rfl)
    | ((with_reducible apply Keeps.step (ldBstuv_keeps ..)); exact rfl)
    | fail_if_no_progress dsimp only)

theorem execLdFaultRetry_keeps (n : Fin 8) (t : Instant) (s : State) : Outcome.Keeps 1033 s (execLdFaultRetry n t s) := by
  have h0 := Keeps.refl 1033 s
  unfold execLdFaultRetry
  try dsimp only
  repeat' (first
    | with_reducible apply Outcome.Keeps.next
    | with_reducible apply Outcome.Keeps.ite
    | with_reducible apply Keeps.ite
    | with_reducible apply Keeps.iteFst
    | with_reducible apply Keeps.iteSnd
    | intro _
    | with_reducible assumption
    | ((with_reducible apply Keeps.step (State.advance_keeps ..)); exact rfl)
    | ((with_reducible apply Keeps.step (ldApply_keeps ..)); exact rfl)
    | ((with_reducible apply Keeps.step (ldStart_keeps ..)); exact rfl)
    | ((with_reducible apply Keeps.step (ldSuccess_keeps ..)); exact rfl)
    | fail_if_no_progress dsimp only)

theorem execSdEnable_keeps (n : Fin 4) (t : Instant) (s : State) : Outcome.Keeps 264201 s (execSdEnable n t s) := by
  have h0 := Keeps.refl 264201 s
  unfold execSdEnable
  try dsimp only
  repeat' (first
    | with_reducible apply Outcome.Keeps.next
    | intro _
    | with_reducible assumption
    | ((with_reducible apply Keeps.step (State.advance_keeps ..)); exact rfl)
    | ((with_reducible apply Keeps.step (State.setFlag_keeps ..)); exact rfl)
    | ((with_reducible apply Keeps.step (sdEnable_keeps ..)); exact rfl)
    | ((with_reducible apply Keeps.step (storeRws_keeps ..)); exact rfl)
    | fail_if_no_progress dsimp only)

theorem execSdCpReady_keeps (n : Fin 4) (t : Instant) (s : State) : Outcome.Keeps 2057 s (execSdCpReady n t s) := by
  have h0 := Keeps.refl 2057 s
  unfold execSdCpReady
  try dsimp only
  repeat' (first
    | with_reducible apply Outcome.Keeps.next
    | with_reducible apply Outcome.Keeps.ite
    | with_reducible apply Keeps.ite
    | with_reducible apply Keeps.iteFst
    | with_reducible apply Keeps.iteSnd
    | intro _
    | with_reducible assumption
    | ((with_reducible apply Keeps.step (State.advance_keeps ..)); exact rfl)
    | ((with_reducible apply Keeps.step (State.setFlag_keeps ..)); exact rfl)
    | ((with_reducible apply Keeps.step (State.setSd_keeps ..)); exact rfl)
    | ((with_reducible apply Keeps.step (sdApply_keeps ..)); exact rfl)
    | ((with_reducible apply Keeps.step (sdShutdown_keeps ..)); exact rfl)
    | fail_if_no_progress dsimp only)

theorem execSdCpuv_keeps (n : Fin 4) (t : Instant) (s : State) : Outcome.Keeps 2057 s (execSdCpuv n t s) := by
  have h0 := Keeps.refl 2057 s
  unfold execSdCpuv
  try dsimp only
  repeat' (first
    | with_reducible apply Outcome.Keeps.next
    | with_reducible apply Outcome.Keeps.ite
    | with_reducible apply Keeps.ite
    | with_reducible apply Keeps.iteFst
    | with_reducible apply Keeps.iteSnd
    | intro _
    | with_reducible assumption
    | ((with_reducible apply Keeps.step (State.advance_keeps ..)); exact rfl)
    | ((with_reducible apply Keeps.step (State.setFlag_keeps ..)); exact rfl)
    | ((with_reducible apply Keeps.step (State.setRegBit_keeps ..)); exact rfl)
    | ((with_reducible apply Keeps.step (State.setSd_keeps ..)); exact rfl)
    | ((with_reducible apply Keeps.step (sdApply_keeps ..)); exact rfl)
    | fail_if_no_progress dsimp only)

theorem execSdFaultRetry_keeps (n : Fin 4) (t : Instant) (s : State) : Outcome.Keeps 2057 s (execSdFaultRetry n t s) := by
  have h0 := Keeps.refl 2057 s
  unfold execSdFaultRetry
  try dsimp only
  repeat' (first
    | with_reducible apply Outcome.Keeps.next
    | with_reducible apply Outcome.Keeps.ite
    | with_reducible apply Keeps.ite
    | with_reducible apply Keeps.iteFst
    | with_reducible apply Keeps.iteSnd
    | intro _
    | with_reducible assumption
    | ((with_reducible apply Keeps.step (State.advance_keeps ..)); exact rfl)
    | ((with_reducible apply Keeps.step (sdStart_keeps ..)); exact rfl)
    | fail_if_no_progress dsimp only)

theorem actDrvClear_keeps (mask : Nat) (s : State) : Keeps 3080 s (actDrvClear mask s).1 := by
  have h0 := Keeps.refl 3080 s
  unfold actDrvClear
  try dsimp only
  repeat' (first
    | with_reducible apply Keeps.ite
    | with_reducible apply Keeps.iteFst
    | with_reducible apply Keeps.iteSnd
    | intro _
    | with_reducible assumption
    | ((with_reducible apply Keeps.step (State.setFlag_keeps ..)); exact rfl)
    | ((with_reducible apply Keeps.step (State.setLd_keeps ..)); exact rfl)
    | ((with_reducible apply Keeps.step (State.setReg_keeps ..)); exact rfl)
    | ((with_reducible apply Keeps.step (State.setRegBit_keeps ..)); exact rfl)
    | ((with_reducible apply Keeps.step (State.setSd_keeps ..)); exact rfl)
    | ((with_reducible apply Keeps.step (ldEnable_keeps ..)); exact rfl)
    | ((with_reducible apply Keeps.step (ldStart_keeps ..)); exact rfl)
    | ((with_reducible apply Keeps.step (sdEnable_keeps ..)); exact rfl)
    | ((with_reducible apply Keeps.step (sdStart_keeps ..)); exact rfl)
    | with_reducible apply Keeps.forEach
    | fail_if_no_progress dsimp only)

theorem execDrvClear_keeps (mask : BitVec 12) (s : State) : Outcome.Keeps 3080 s (execDrvClear mask s) := by
  have h0 := Keeps.refl 3080 s
  unfold execDrvClear
  try dsimp only
  repeat' (first
    | with_reducible apply Outcome.Keeps.next
    | intro _
    | with_reducible assumption
    | ((with_reducible apply Keeps.step (actDrvClear_keeps ..)); exact rfl)
    | fail_if_no_progress dsimp only)

theorem execVdrvUndervoltage_keeps (mv : BitVec 16) (t : Instant) (s : State) : Outcome.Keeps 3081 s (execVdrvUndervoltage mv t s) := by
  have h0 := Keeps.refl 3081 s
  unfold execVdrvUndervoltage
  try dsimp only
  repeat' (first
    | with_reducible apply Outcome.Keeps.next
    | with_reducible apply Outcome.Keeps.ite
    | with_reducible apply Keeps.ite
    | with_reducible apply Keeps.iteFst
    | with_reducible apply Keeps.iteSnd
    | intro _
    | with_reducible assumption
    | ((with_reducible apply Keeps.step (State.advance_keeps ..)); exact rfl)
    | ((with_reducible apply Keeps.step (State.setReg_keeps ..)); exact rfl)
    | ((with_reducible apply Keeps.step (driversUv_keeps ..)); exact rfl)
    | fail_if_no_progress dsimp only)

theorem execVdrvRecover_keeps (mv : BitVec 16) (t : Instant) (s : State) : Outcome.Keeps 3081 s (execVdrvRecover mv t s) := by
  have h0 := Keeps.refl 3081 s
  unfold execVdrvRecover
  try dsimp only
  repeat' (first
    | with_reducible apply Outcome.Keeps.next
    | with_reducible apply Outcome.Keeps.ite
    | with_reducible apply Keeps.ite
    | with_reducible apply Keeps.iteFst
    | with_reducible apply Keeps.iteSnd
    | intro _
    | with_reducible assumption
    | ((with_reducible apply Keeps.step (State.advance_keeps ..)); exact rfl)
    | ((with_reducible apply Keeps.step (State.setReg_keeps ..)); exact rfl)
    | ((with_reducible apply Keeps.step (driversUv_keeps ..)); exact rfl)
    | fail_if_no_progress dsimp only)

end Sys2Proof.Machine
end

