-- ==== Sys2Proof/Laws/KeepsLawSetup.lean ====
section
/-!
SUPPORT. What each function of Machine/LawSetup.lean keeps, and which parts of the state it leaves alone.
-/

namespace Sys2Proof.Machine

theorem sramClear_keeps (e : Nat) (s : State) : Keeps 2097168 s (sramClear e s) := by
  have h0 := Keeps.refl 2097168 s
  unfold sramClear
  try dsimp only
  repeat' (first
    | intro _
    | with_reducible assumption
    | (fail_if_no_progress with_reducible apply Keeps.update) <;> first | ((with_reducible apply Or.inr); with_reducible rfl) | ((with_reducible apply Or.inl); first | exact rfl | exact ⟨rfl, memWrite_wf _ _ _⟩ | exact ⟨rfl, memFilter_wf _ _⟩ | exact ⟨rfl, memZero_wf _ _ _⟩ | exact ⟨rfl, memSet_wf _ _ _⟩) | skip
    | fail_if_no_progress dsimp only)

theorem imageLoad_keeps (e : Nat) (s : State) : Keeps 2097232 s (imageLoad e s) := by
  have h0 := Keeps.refl 2097232 s
  unfold imageLoad
  try dsimp only
  repeat' (first
    | intro _
    | with_reducible assumption
    | ((with_reducible apply Keeps.step (State.setEngine_keeps ..)); exact rfl)
    | ((with_reducible apply Keeps.step (State.store_keeps ..)); exact rfl)
    | ((with_reducible apply Keeps.step (sramClear_keeps ..)); exact rfl)
    | with_reducible apply Keeps.forEach
    | fail_if_no_progress dsimp only)

theorem romLoad_keeps (e : Nat) (s : State) : Keeps 2097232 s (romLoad e s) := by
  have h0 := Keeps.refl 2097232 s
  unfold romLoad
  try dsimp only
  repeat' (first
    | intro _
    | with_reducible assumption
    | ((with_reducible apply Keeps.step (State.setEngine_keeps ..)); exact rfl)
    | ((with_reducible apply Keeps.step (sramClear_keeps ..)); exact rfl)
    | fail_if_no_progress dsimp only)

theorem engStop_keeps (e : Nat) (s : State) : Keeps 32972 s (engStop e s) := by
  have h0 := Keeps.refl 32972 s
  unfold engStop
  try dsimp only
  repeat' (first
    | with_reducible apply Keeps.ite
    | with_reducible apply Keeps.iteFst
    | with_reducible apply Keeps.iteSnd
    | intro _
    | with_reducible assumption
    | ((with_reducible apply Keeps.step (State.setEngine_keeps ..)); exact rfl)
    | ((with_reducible apply Keeps.step (State.setReg_keeps ..)); exact rfl)
    | ((with_reducible apply Keeps.step (endPhase_keeps ..)); exact rfl)
    | ((with_reducible apply Keeps.step (missDeadline_keeps ..)); exact rfl)
    | fail_if_no_progress dsimp only)

theorem lawRound_keeps (q : Nat) (trig : Nat) (l : List Nat) (s : State) : Keeps 8 s (lawRound q trig l s) := by
  have h0 := Keeps.refl 8 s
  unfold lawRound
  try dsimp only
  repeat' (first
    | with_reducible apply Keeps.ite
    | with_reducible apply Keeps.iteFst
    | with_reducible apply Keeps.iteSnd
    | intro _
    | with_reducible assumption
    | ((with_reducible apply Keeps.step (State.setReg_keeps ..)); exact rfl)
    | with_reducible apply Keeps.forEach
    | fail_if_no_progress dsimp only)

theorem lawSetup_keeps (s : State) : Keeps 33740 s (lawSetup s) := by
  have h0 := Keeps.refl 33740 s
  unfold lawSetup
  try dsimp only
  repeat' (first
    | with_reducible apply Keeps.ite
    | with_reducible apply Keeps.iteFst
    | with_reducible apply Keeps.iteSnd
    | intro _
    | with_reducible assumption
    | ((with_reducible apply Keeps.step (State.setReg_keeps ..)); exact rfl)
    | ((with_reducible apply Keeps.step (laneSetEn_keeps ..)); exact rfl)
    | ((with_reducible apply Keeps.step (lawCarrierSet_keeps ..)); exact rfl)
    | ((with_reducible apply Keeps.step (lawRound_keeps ..)); exact rfl)
    | ((with_reducible apply Keeps.step (lawStop_keeps ..)); exact rfl)
    | with_reducible apply Keeps.forEach
    | fail_if_no_progress dsimp only)

theorem lawLead_keeps (s : State) : Keeps 8 s (lawLead s) := by
  have h0 := Keeps.refl 8 s
  unfold lawLead
  try dsimp only
  repeat' (first
    | with_reducible apply Keeps.ite
    | with_reducible apply Keeps.iteFst
    | with_reducible apply Keeps.iteSnd
    | intro _
    | with_reducible assumption
    | ((with_reducible apply Keeps.step (State.setReg_keeps ..)); exact rfl)
    | fail_if_no_progress dsimp only)

theorem bankFactory_keeps (k : Nat) (s : State) : Keeps 1048584 s (bankFactory k s) := by
  have h0 := Keeps.refl 1048584 s
  unfold bankFactory
  try dsimp only
  repeat' (first
    | intro _
    | with_reducible assumption
    | ((with_reducible apply Keeps.step (State.setReg_keeps ..)); exact rfl)
    | (fail_if_no_progress with_reducible apply Keeps.update) <;> first | ((with_reducible apply Or.inr); with_reducible rfl) | ((with_reducible apply Or.inl); first | exact rfl) | skip
    | fail_if_no_progress dsimp only)

theorem cbcLaneSet_keeps (k : Nat) (s : State) : Keeps 1179660 s (cbcLaneSet k s) := by
  have h0 := Keeps.refl 1179660 s
  unfold cbcLaneSet
  try dsimp only
  repeat' (first
    | with_reducible apply Keeps.ite
    | with_reducible apply Keeps.iteFst
    | with_reducible apply Keeps.iteSnd
    | intro _
    | with_reducible assumption
    | ((with_reducible apply Keeps.step (State.setReg_keeps ..)); exact rfl)
    | ((with_reducible apply Keeps.step (bankFactory_keeps ..)); exact rfl)
    | ((with_reducible apply Keeps.step (flBank_keeps ..)); exact rfl)
    | ((with_reducible apply Keeps.step (flFresh_keeps ..)); exact rfl)
    | ((with_reducible apply Keeps.step (laneCfgApply_keeps ..)); exact rfl)
    | with_reducible apply Keeps.forEach
    | fail_if_no_progress dsimp only)

theorem cbcTake_keeps (s : State) : Keeps 1212428 s (cbcTake s) := by
  have h0 := Keeps.refl 1212428 s
  unfold cbcTake
  try dsimp only
  repeat' (first
    | intro _
    | with_reducible assumption
    | ((with_reducible apply Keeps.step (State.setLaw_keeps ..)); exact rfl)
    | ((with_reducible apply Keeps.step (cbcLaneSet_keeps ..)); exact rfl)
    | ((with_reducible apply Keeps.step (cbcThresholds_keeps ..)); exact rfl)
    | with_reducible apply Keeps.forEach
    | (fail_if_no_progress with_reducible apply Keeps.update) <;> first | ((with_reducible apply Or.inr); with_reducible rfl) | ((with_reducible apply Or.inl); first | exact rfl) | skip
    | fail_if_no_progress dsimp only)

theorem cbcFollow_keeps (s : State) : Keeps 1179660 s (cbcFollow s) := by
  have h0 := Keeps.refl 1179660 s
  unfold cbcFollow
  try dsimp only
  repeat' (first
    | with_reducible apply Keeps.ite
    | with_reducible apply Keeps.iteFst
    | with_reducible apply Keeps.iteSnd
    | intro _
    | with_reducible assumption
    | ((with_reducible apply Keeps.step (cbcLaneSet_keeps ..)); exact rfl)
    | ((with_reducible apply Keeps.step (cbcThresholds_keeps ..)); exact rfl)
    | with_reducible apply Keeps.forEach
    | fail_if_no_progress dsimp only)

theorem cbcRelease_keeps (s : State) : Keeps 1212428 s (cbcRelease s) := by
  have h0 := Keeps.refl 1212428 s
  unfold cbcRelease
  try dsimp only
  repeat' (first
    | with_reducible apply Keeps.ite
    | with_reducible apply Keeps.iteFst
    | with_reducible apply Keeps.iteSnd
    | intro _
    | with_reducible assumption
    | ((with_reducible apply Keeps.step (State.setLaw_keeps ..)); exact rfl)
    | ((with_reducible apply Keeps.step (State.setReg_keeps ..)); exact rfl)
    | ((with_reducible apply Keeps.step (laneCfgApply_keeps ..)); exact rfl)
    | with_reducible apply Keeps.forEach
    | (fail_if_no_progress with_reducible apply Keeps.update) <;> first | ((with_reducible apply Or.inr); with_reducible rfl) | ((with_reducible apply Or.inl); first | exact rfl) | skip
    | fail_if_no_progress dsimp only)

theorem cbcOwnership_keeps (s : State) : Keeps 1212428 s (cbcOwnership s) := by
  have h0 := Keeps.refl 1212428 s
  unfold cbcOwnership
  try dsimp only
  repeat' (first
    | with_reducible apply Keeps.ite
    | with_reducible apply Keeps.iteFst
    | with_reducible apply Keeps.iteSnd
    | intro _
    | with_reducible assumption
    | ((with_reducible apply Keeps.step (cbcFollow_keeps ..)); exact rfl)
    | ((with_reducible apply Keeps.step (cbcRelease_keeps ..)); exact rfl)
    | ((with_reducible apply Keeps.step (cbcTake_keeps ..)); exact rfl)
    | fail_if_no_progress dsimp only)

theorem lawTake_keeps (s : State) : Keeps 2130908 s (lawTake s) := by
  have h0 := Keeps.refl 2130908 s
  unfold lawTake
  try dsimp only
  repeat' (first
    | intro _
    | with_reducible assumption
    | ((with_reducible apply Keeps.step (State.setReg_keeps ..)); exact rfl)
    | ((with_reducible apply Keeps.step (engStop_keeps ..)); exact rfl)
    | ((with_reducible apply Keeps.step (lawSetup_keeps ..)); exact rfl)
    | ((with_reducible apply Keeps.step (romLoad_keeps ..)); exact rfl)
    | with_reducible apply Keeps.forEach
    | fail_if_no_progress dsimp only)

theorem lawLeave_keeps (s : State) : Keeps 3310556 s (lawLeave s) := by
  have h0 := Keeps.refl 3310556 s
  unfold lawLeave
  try dsimp only
  repeat' (first
    | with_reducible apply Keeps.ite
    | with_reducible apply Keeps.iteFst
    | with_reducible apply Keeps.iteSnd
    | intro _
    | with_reducible assumption
    | ((with_reducible apply Keeps.step (State.setCarrier_keeps ..)); exact rfl)
    | ((with_reducible apply Keeps.step (State.setEngine_keeps ..)); exact rfl)
    | ((with_reducible apply Keeps.step (State.setReg_keeps ..)); exact rfl)
    | ((with_reducible apply Keeps.step (alarmDisable_keeps ..)); exact rfl)
    | ((with_reducible apply Keeps.step (alarmEnable_keeps ..)); exact rfl)
    | ((with_reducible apply Keeps.step (carrierAlarmCancel_keeps ..)); exact rfl)
    | ((with_reducible apply Keeps.step (cbcRelease_keeps ..)); exact rfl)
    | ((with_reducible apply Keeps.step (engEnabled_keeps ..)); exact rfl)
    | ((with_reducible apply Keeps.step (engStop_keeps ..)); exact rfl)
    | ((with_reducible apply Keeps.step (imageLoad_keeps ..)); exact rfl)
    | ((with_reducible apply Keeps.step (laneDisable_keeps ..)); exact rfl)
    | ((with_reducible apply Keeps.step (laneEnable_keeps ..)); exact rfl)
    | ((with_reducible apply Keeps.step (sramClear_keeps ..)); exact rfl)
    | ((with_reducible apply Keeps.step (stopCarrier_keeps ..)); exact rfl)
    | with_reducible apply Keeps.forEach
    | fail_if_no_progress dsimp only)

end Sys2Proof.Machine
end

