-- ==== Sys2Proof/Laws/KeepsOuterCycle.lean ====
section
/-!
SUPPORT. What each function of Machine/OuterCycle.lean keeps, and which parts of the state it leaves alone.
-/

namespace Sys2Proof.Machine

theorem softStopCheck_keeps (s : State) : Keeps 98956 s (softStopCheck s) := by
  have h0 := Keeps.refl 98956 s
  unfold softStopCheck
  try dsimp only
  repeat' (first
    | with_reducible apply Keeps.ite
    | with_reducible apply Keeps.iteFst
    | with_reducible apply Keeps.iteSnd
    | intro _
    | with_reducible assumption
    | ((with_reducible apply Keeps.step (backToArmed_keeps ..)); exact rfl)
    | ((with_reducible apply Keeps.step (cmdDone_keeps ..)); exact rfl)
    | fail_if_no_progress dsimp only)

theorem softStopWrite_keeps (s : State) : Keeps 99052 s (softStopWrite s) := by
  have h0 := Keeps.refl 99052 s
  unfold softStopWrite
  try dsimp only
  repeat' (first
    | intro _
    | with_reducible assumption
    | ((with_reducible apply Keeps.step (State.setLaw_keeps ..)); exact rfl)
    | ((with_reducible apply Keeps.step (loadAllGroups_keeps ..)); exact rfl)
    | ((with_reducible apply Keeps.step (softStopCheck_keeps ..)); exact rfl)
    | ((with_reducible apply Keeps.step (writeShadow_keeps ..)); exact rfl)
    | with_reducible apply Keeps.forEach
    | fail_if_no_progress dsimp only)

theorem takeSet_keeps (s : State) : Keeps 295884 s (takeSet s) := by
  have h0 := Keeps.refl 295884 s
  unfold takeSet
  try dsimp only
  repeat' (first
    | with_reducible apply Keeps.ite
    | with_reducible apply Keeps.iteFst
    | with_reducible apply Keeps.iteSnd
    | intro _
    | with_reducible assumption
    | ((with_reducible apply Keeps.step (applySet_keeps ..)); exact rfl)
    | ((with_reducible apply Keeps.step (estDiscard_keeps ..)); exact rfl)
    | ((with_reducible apply Keeps.step (lawSetup_keeps ..)); exact rfl)
    | ((with_reducible apply Keeps.step (refreshBases_keeps ..)); exact rfl)
    | fail_if_no_progress dsimp only)

theorem applyTake_keeps (s : State) : Keeps 295884 s (applyTake s) := by
  have h0 := Keeps.refl 295884 s
  unfold applyTake
  try dsimp only
  repeat' (first
    | with_reducible apply Keeps.ite
    | with_reducible apply Keeps.iteFst
    | with_reducible apply Keeps.iteSnd
    | intro _
    | with_reducible assumption
    | ((with_reducible apply Keeps.step (State.setMs_keeps ..)); exact rfl)
    | ((with_reducible apply Keeps.step (takeSet_keeps ..)); exact rfl)
    | fail_if_no_progress dsimp only)

theorem keepDrivers_keeps (s : State) : Keeps 3080 s (keepDrivers s) := by
  have h0 := Keeps.refl 3080 s
  unfold keepDrivers
  try dsimp only
  repeat' (first
    | with_reducible apply Keeps.ite
    | with_reducible apply Keeps.iteFst
    | with_reducible apply Keeps.iteSnd
    | intro _
    | with_reducible assumption
    | ((with_reducible apply Keeps.step (ldEnable_keeps ..)); exact rfl)
    | ((with_reducible apply Keeps.step (ldShutdown_keeps ..)); exact rfl)
    | ((with_reducible apply Keeps.step (sdEnable_keeps ..)); exact rfl)
    | ((with_reducible apply Keeps.step (sdShutdown_keeps ..)); exact rfl)
    | with_reducible apply Keeps.forEach
    | fail_if_no_progress dsimp only)

theorem ilimTake_keeps (s : State) : Keeps 32776 s (ilimTake s) := by
  have h0 := Keeps.refl 32776 s
  unfold ilimTake
  try dsimp only
  repeat' (first
    | with_reducible apply Keeps.ite
    | with_reducible apply Keeps.iteFst
    | with_reducible apply Keeps.iteSnd
    | intro _
    | with_reducible assumption
    | ((with_reducible apply Keeps.step (State.setLaw_keeps ..)); exact rfl)
    | ((with_reducible apply Keeps.step (State.setReg_keeps ..)); exact rfl)
    | split
    | fail_if_no_progress dsimp only)

theorem cadCycle_keeps (s : State) : Keeps 65548 s (cadCycle s) := by
  have h0 := Keeps.refl 65548 s
  unfold cadCycle
  try dsimp only
  repeat' (first
    | with_reducible apply Keeps.ite
    | with_reducible apply Keeps.iteFst
    | with_reducible apply Keeps.iteSnd
    | intro _
    | with_reducible assumption
    | ((with_reducible apply Keeps.step (State.setCad_keeps ..)); exact rfl)
    | ((with_reducible apply Keeps.step (cadOff_keeps ..)); exact rfl)
    | ((with_reducible apply Keeps.step (cadOffset_keeps ..)); exact rfl)
    | ((with_reducible apply Keeps.step (queueOwed_keeps ..)); exact rfl)
    | ((with_reducible apply Keeps.step (refreshNForm_keeps ..)); exact rfl)
    | ((with_reducible apply Keeps.step (setStage_keeps ..)); exact rfl)
    | fail_if_no_progress dsimp only)

theorem State.autoExit_keeps {s : State} {g : State → State} (h : s.autoExit = some g) (s' : State) : Keeps 98956 s' (g s') := by
  unfold State.autoExit at h
  split at h
  · injection h with h; subst h; exact (leaveLimit_keeps ..).mono rfl
  split at h
  · injection h with h; subst h; exact (abortTo_keeps ..).mono rfl
  split at h
  · injection h with h; subst h; exact (abortTo_keeps ..).mono rfl
  split at h
  · injection h with h; subst h; exact (startComplete_keeps ..).mono rfl
  split at h
  · injection h with h; subst h; exact (syncComplete_keeps ..).mono rfl
  · exact absurd h (by simp)

theorem policyCauses_keeps (s : State) : Keeps 1275449292 s (policyCauses s) := by
  have h0 := Keeps.refl 1275449292 s
  unfold policyCauses
  try dsimp only
  repeat' (first
    | with_reducible apply Keeps.ite
    | intro _
    | with_reducible assumption
    | ((with_reducible apply Keeps.step (nextCommand_keeps ..)); exact rfl)
    | ((with_reducible apply Keeps.step (enterBasecamp_keeps ..)); exact rfl)
    | ((with_reducible apply Keeps.step (enterHold_keeps ..)); exact rfl)
    | ((with_reducible apply Keeps.step (State.autoExit_keeps (by assumption) _)); exact rfl)
    | split
    | fail_if_no_progress dsimp only)

theorem armCheck_keeps (s : State) : Keeps 53196 s (armCheck s) := by
  have h0 := Keeps.refl 53196 s
  unfold armCheck
  try dsimp only
  repeat' (first
    | with_reducible apply Keeps.ite
    | with_reducible apply Keeps.iteFst
    | with_reducible apply Keeps.iteSnd
    | intro _
    | with_reducible assumption
    | ((with_reducible apply Keeps.step (armIfReady_keeps ..)); exact rfl)
    | ((with_reducible apply Keeps.step (armRefused_keeps ..)); exact rfl)
    | fail_if_no_progress dsimp only)

theorem outerEnds_keeps (s : State) : Keeps 32768 s (outerEnds s) := by
  have h0 := Keeps.refl 32768 s
  unfold outerEnds
  try dsimp only
  repeat' (first
    | with_reducible apply Keeps.ite
    | with_reducible apply Keeps.iteFst
    | with_reducible apply Keeps.iteSnd
    | intro _
    | with_reducible assumption
    | ((with_reducible apply Keeps.step (State.setLaw_keeps ..)); exact rfl)
    | fail_if_no_progress dsimp only)

theorem roundFollow_keeps (old : List Nat) (s : State) : Keeps 8 s (roundFollow old s) := by
  have h0 := Keeps.refl 8 s
  unfold roundFollow
  try dsimp only
  repeat' (first
    | with_reducible apply Keeps.ite
    | with_reducible apply Keeps.iteFst
    | with_reducible apply Keeps.iteSnd
    | intro _
    | with_reducible assumption
    | ((with_reducible apply Keeps.step (lawRound_keeps ..)); exact rfl)
    | fail_if_no_progress dsimp only)

theorem outerCycle_keeps (s : State) : Keeps 1276628940 s (outerCycle s) := by
  have h0 := Keeps.refl 1276628940 s
  unfold outerCycle
  try dsimp only
  repeat' (first
    | with_reducible apply Keeps.ite
    | with_reducible apply Keeps.iteFst
    | with_reducible apply Keeps.iteSnd
    | intro _
    | with_reducible assumption
    | ((with_reducible apply Keeps.step (State.setLaw_keeps ..)); exact rfl)
    | ((with_reducible apply Keeps.step (applyTake_keeps ..)); exact rfl)
    | ((with_reducible apply Keeps.step (armCheck_keeps ..)); exact rfl)
    | ((with_reducible apply Keeps.step (cadCycle_keeps ..)); exact rfl)
    | ((with_reducible apply Keeps.step (cbcOwnership_keeps ..)); exact rfl)
    | ((with_reducible apply Keeps.step (cmdRefused_keeps ..)); exact rfl)
    | ((with_reducible apply Keeps.step (estGate_keeps ..)); exact rfl)
    | ((with_reducible apply Keeps.step (ilimTake_keeps ..)); exact rfl)
    | ((with_reducible apply Keeps.step (keepDrivers_keeps ..)); exact rfl)
    | ((with_reducible apply Keeps.step (limitTimers_keeps ..)); exact rfl)
    | ((with_reducible apply Keeps.step (outerEnds_keeps ..)); exact rfl)
    | ((with_reducible apply Keeps.step (policyCauses_keeps ..)); exact rfl)
    | ((with_reducible apply Keeps.step (reportChosen_keeps ..)); exact rfl)
    | ((with_reducible apply Keeps.step (roundFollow_keeps ..)); exact rfl)
    | ((with_reducible apply Keeps.step (seeRegs_keeps ..)); exact rfl)
    | fail_if_no_progress dsimp only)

theorem windowEnd_keeps (s : State) : Keeps 32780 s (windowEnd s) := by
  have h0 := Keeps.refl 32780 s
  unfold windowEnd
  try dsimp only
  repeat' (first
    | with_reducible apply Keeps.ite
    | with_reducible apply Keeps.iteFst
    | with_reducible apply Keeps.iteSnd
    | intro _
    | with_reducible assumption
    | ((with_reducible apply Keeps.step (State.bump_keeps ..)); exact rfl)
    | ((with_reducible apply Keeps.step (State.openRound_keeps ..)); exact rfl)
    | ((with_reducible apply Keeps.step (State.setLaw_keeps ..)); exact rfl)
    | ((with_reducible apply Keeps.step (State.setLs_keeps ..)); exact rfl)
    | ((with_reducible apply Keeps.step (State.setReg_keeps ..)); exact rfl)
    | ((with_reducible apply Keeps.step (estStart_keeps ..)); exact rfl)
    | ((with_reducible apply Keeps.step (newTarget_keeps ..)); exact rfl)
    | ((with_reducible apply Keeps.step (setOpen_keeps ..)); exact rfl)
    | split
    | fail_if_no_progress dsimp only)

end Sys2Proof.Machine
end

