-- ==== Sys2Proof/Laws/KeepsPairOps.lean ====
section
/-!
SUPPORT. What each function of Machine/PairOps.lean keeps, and which parts of the state it leaves alone.
-/

namespace Sys2Proof.Machine

theorem State.setPair_keeps (s : State) (p : Pair) : Keeps 134217728 s (State.setPair s p) := by
  have h0 := Keeps.refl 134217728 s
  unfold State.setPair
  try dsimp only
  repeat' (first
    | intro _
    | with_reducible assumption
    | (fail_if_no_progress with_reducible apply Keeps.update) <;> first | ((with_reducible apply Or.inr); with_reducible rfl) | ((with_reducible apply Or.inl); first | exact rfl) | skip
    | fail_if_no_progress dsimp only)

theorem setPairState_keeps (n : Nat) (s : State) : Keeps 134283272 s (setPairState n s) := by
  have h0 := Keeps.refl 134283272 s
  unfold setPairState
  try dsimp only
  repeat' (first
    | with_reducible apply Keeps.ite
    | with_reducible apply Keeps.iteFst
    | with_reducible apply Keeps.iteSnd
    | intro _
    | with_reducible assumption
    | ((with_reducible apply Keeps.step (State.setFld_keeps ..)); exact rfl)
    | ((with_reducible apply Keeps.step (State.setPair_keeps ..)); exact rfl)
    | ((with_reducible apply Keeps.step (joined_keeps ..)); exact rfl)
    | fail_if_no_progress dsimp only)

theorem setSynced_keeps (b : Bool) (s : State) : Keeps 12 s (setSynced b s) := by
  have h0 := Keeps.refl 12 s
  unfold setSynced
  try dsimp only
  repeat' (first
    | with_reducible apply Keeps.ite
    | with_reducible apply Keeps.iteFst
    | with_reducible apply Keeps.iteSnd
    | intro _
    | with_reducible assumption
    | ((with_reducible apply Keeps.step (State.bump_keeps ..)); exact rfl)
    | ((with_reducible apply Keeps.step (State.setPs_keeps ..)); exact rfl)
    | fail_if_no_progress dsimp only)

theorem setMirrorLost_keeps (b : Bool) (s : State) : Keeps 8 s (setMirrorLost b s) := by
  have h0 := Keeps.refl 8 s
  unfold setMirrorLost
  try dsimp only
  repeat' (first
    | intro _
    | with_reducible assumption
    | ((with_reducible apply Keeps.step (State.setFlag_keeps ..)); exact rfl)
    | ((with_reducible apply Keeps.step (State.setPs_keeps ..)); exact rfl)
    | fail_if_no_progress dsimp only)

theorem refreshBatonOk_keeps (k : Nat) (s : State) : Keeps 8 s (refreshBatonOk k s) := by
  have h0 := Keeps.refl 8 s
  unfold refreshBatonOk
  try dsimp only
  repeat' (first
    | with_reducible apply Keeps.ite
    | with_reducible apply Keeps.iteFst
    | with_reducible apply Keeps.iteSnd
    | intro _
    | with_reducible assumption
    | ((with_reducible apply Keeps.step (State.setFlag_keeps ..)); exact rfl)
    | fail_if_no_progress dsimp only)

theorem refreshBatonTx_keeps (s : State) : Keeps 8 s (refreshBatonTx s) := by
  have h0 := Keeps.refl 8 s
  unfold refreshBatonTx
  try dsimp only
  repeat' (first
    | with_reducible apply Keeps.ite
    | with_reducible apply Keeps.iteFst
    | with_reducible apply Keeps.iteSnd
    | intro _
    | with_reducible assumption
    | ((with_reducible apply Keeps.step (State.setPs_keeps ..)); exact rfl)
    | ((with_reducible apply Keeps.step (State.setReg_keeps ..)); exact rfl)
    | ((with_reducible apply Keeps.step (refreshBatonOk_keeps ..)); exact rfl)
    | with_reducible apply Keeps.forEach
    | fail_if_no_progress dsimp only)

theorem startClaim_keeps (cause : Nat) (s : State) : Keeps 134217736 s (startClaim cause s) := by
  have h0 := Keeps.refl 134217736 s
  unfold startClaim
  try dsimp only
  repeat' (first
    | with_reducible apply Keeps.ite
    | with_reducible apply Keeps.iteFst
    | with_reducible apply Keeps.iteSnd
    | intro _
    | with_reducible assumption
    | ((with_reducible apply Keeps.step (State.setPair_keeps ..)); exact rfl)
    | ((with_reducible apply Keeps.step (State.setPs_keeps ..)); exact rfl)
    | split
    | fail_if_no_progress dsimp only)

theorem fence_keeps (s : State) : Keeps 134606796 s (fence s) := by
  have h0 := Keeps.refl 134606796 s
  unfold fence
  try dsimp only
  repeat' (first
    | with_reducible apply Keeps.ite
    | with_reducible apply Keeps.iteFst
    | with_reducible apply Keeps.iteSnd
    | intro _
    | with_reducible assumption
    | ((with_reducible apply Keeps.step (State.setPs_keeps ..)); exact rfl)
    | ((with_reducible apply Keeps.step (State.setReg_keeps ..)); exact rfl)
    | ((with_reducible apply Keeps.step (armRefused_keeps ..)); exact rfl)
    | ((with_reducible apply Keeps.step (enterBasecamp_keeps ..)); exact rfl)
    | ((with_reducible apply Keeps.step (setPairState_keeps ..)); exact rfl)
    | ((with_reducible apply Keeps.step (startClaim_keeps ..)); exact rfl)
    | (fail_if_no_progress with_reducible apply Keeps.update) <;> first | ((with_reducible apply Or.inr); with_reducible rfl) | ((with_reducible apply Or.inl); first | exact rfl) | skip
    | fail_if_no_progress dsimp only)

theorem learnBaton_keeps (up : Bool) (n : Nat) (s : State) : Keeps 134606796 s (learnBaton up n s) := by
  have h0 := Keeps.refl 134606796 s
  unfold learnBaton
  try dsimp only
  repeat' (first
    | with_reducible apply Keeps.ite
    | with_reducible apply Keeps.iteFst
    | with_reducible apply Keeps.iteSnd
    | intro _
    | with_reducible assumption
    | ((with_reducible apply Keeps.step (State.setReg_keeps ..)); exact rfl)
    | ((with_reducible apply Keeps.step (fence_keeps ..)); exact rfl)
    | ((with_reducible apply Keeps.step (refreshBatonTx_keeps ..)); exact rfl)
    | ((with_reducible apply Keeps.step (startClaim_keeps ..)); exact rfl)
    | fail_if_no_progress dsimp only)

theorem claimDone_keeps (c : Claim) (s : State) : Keeps 1208328204 s (claimDone c s) := by
  have h0 := Keeps.refl 1208328204 s
  unfold claimDone
  try dsimp only
  repeat' (first
    | with_reducible apply Keeps.ite
    | with_reducible apply Keeps.iteFst
    | with_reducible apply Keeps.iteSnd
    | intro _
    | with_reducible assumption
    | ((with_reducible apply Keeps.step (State.bump_keeps ..)); exact rfl)
    | ((with_reducible apply Keeps.step (State.note_keeps ..)); exact rfl)
    | ((with_reducible apply Keeps.step (State.setLaw_keeps ..)); exact rfl)
    | ((with_reducible apply Keeps.step (State.setPair_keeps ..)); exact rfl)
    | ((with_reducible apply Keeps.step (State.setPs_keeps ..)); exact rfl)
    | ((with_reducible apply Keeps.step (State.setReg_keeps ..)); exact rfl)
    | ((with_reducible apply Keeps.step (State.useFree_keeps ..)); exact rfl)
    | ((with_reducible apply Keeps.step (belaySend_keeps ..)); exact rfl)
    | ((with_reducible apply Keeps.step (refreshBatonTx_keeps ..)); exact rfl)
    | ((with_reducible apply Keeps.step (setPairState_keeps ..)); exact rfl)
    | ((with_reducible apply Keeps.step (setSynced_keeps ..)); exact rfl)
    | (fail_if_no_progress with_reducible apply Keeps.update) <;> first | ((with_reducible apply Or.inr); with_reducible rfl) | ((with_reducible apply Or.inl); first | exact rfl) | skip
    | fail_if_no_progress dsimp only)

theorem addLawStates_keeps (d : List Rat) (s : State) : Keeps 32768 s (addLawStates d s) := by
  have h0 := Keeps.refl 32768 s
  unfold addLawStates
  try dsimp only
  repeat' (first
    | intro _
    | with_reducible assumption
    | ((with_reducible apply Keeps.step (State.setLaw_keeps ..)); exact rfl)
    | ((with_reducible apply Keeps.step (State.setThread_keeps ..)); exact rfl)
    | with_reducible apply Keeps.forEach
    | fail_if_no_progress dsimp only)

theorem followMode_keeps (m : Nat) (seq : Nat) (s : State) : Keeps 134598604 s (followMode m seq s) := by
  have h0 := Keeps.refl 134598604 s
  unfold followMode
  try dsimp only
  repeat' (first
    | with_reducible apply Keeps.ite
    | with_reducible apply Keeps.iteFst
    | with_reducible apply Keeps.iteSnd
    | intro _
    | with_reducible assumption
    | ((with_reducible apply Keeps.step (State.setLaw_keeps ..)); exact rfl)
    | ((with_reducible apply Keeps.step (State.setMs_keeps ..)); exact rfl)
    | ((with_reducible apply Keeps.step (State.setPair_keeps ..)); exact rfl)
    | ((with_reducible apply Keeps.step (State.setReg_keeps ..)); exact rfl)
    | ((with_reducible apply Keeps.step (armedEffects_keeps ..)); exact rfl)
    | ((with_reducible apply Keeps.step (basecampEffects_keeps ..)); exact rfl)
    | ((with_reducible apply Keeps.step (clearLawFlags_keeps ..)); exact rfl)
    | ((with_reducible apply Keeps.step (estGate_keeps ..)); exact rfl)
    | ((with_reducible apply Keeps.step (freezeTrainer_keeps ..)); exact rfl)
    | ((with_reducible apply Keeps.step (lawStaticOff_keeps ..)); exact rfl)
    | ((with_reducible apply Keeps.step (setStage_keeps ..)); exact rfl)
    | ((with_reducible apply Keeps.step (stepDeferred_keeps ..)); exact rfl)
    | ((with_reducible apply Keeps.step (txStop_keeps ..)); exact rfl)
    | with_reducible apply Keeps.forEach
    | fail_if_no_progress dsimp only)

theorem alignStates_keeps (v : StateVec) (s : State) : Keeps 32768 s (alignStates v s) := by
  have h0 := Keeps.refl 32768 s
  unfold alignStates
  try dsimp only
  repeat' (first
    | with_reducible apply Keeps.ite
    | with_reducible apply Keeps.iteFst
    | with_reducible apply Keeps.iteSnd
    | intro _
    | with_reducible assumption
    | ((with_reducible apply Keeps.step (addLawStates_keeps ..)); exact rfl)
    | split
    | fail_if_no_progress dsimp only)

theorem applyVector_keeps (v : StateVec) (s : State) : Keeps 140890108 s (applyVector v s) := by
  have h0 := Keeps.refl 140890108 s
  unfold applyVector
  try dsimp only
  repeat' (first
    | with_reducible apply Keeps.ite
    | with_reducible apply Keeps.iteFst
    | with_reducible apply Keeps.iteSnd
    | intro _
    | with_reducible assumption
    | ((with_reducible apply Keeps.step (State.setCad_keeps ..)); exact rfl)
    | ((with_reducible apply Keeps.step (State.setLaw_keeps ..)); exact rfl)
    | ((with_reducible apply Keeps.step (State.setPair_keeps ..)); exact rfl)
    | ((with_reducible apply Keeps.step (State.setReg_keeps ..)); exact rfl)
    | ((with_reducible apply Keeps.step (alignStates_keeps ..)); exact rfl)
    | ((with_reducible apply Keeps.step (fabricWrite_keeps ..)); exact rfl)
    | ((with_reducible apply Keeps.step (followMode_keeps ..)); exact rfl)
    | ((with_reducible apply Keeps.step (joined_keeps ..)); exact rfl)
    | with_reducible apply Keeps.foldl
    | with_reducible apply Keeps.foldlFst
    | with_reducible apply Keeps.foldlSnd
    | fail_if_no_progress dsimp only)

theorem vectorDue_keeps (s : State) : Keeps 140890108 s (vectorDue s) := by
  have h0 := Keeps.refl 140890108 s
  unfold vectorDue
  try dsimp only
  repeat' (first
    | with_reducible apply Keeps.ite
    | with_reducible apply Keeps.iteFst
    | with_reducible apply Keeps.iteSnd
    | intro _
    | with_reducible assumption
    | ((with_reducible apply Keeps.step (State.setPair_keeps ..)); exact rfl)
    | ((with_reducible apply Keeps.step (applyVector_keeps ..)); exact rfl)
    | split
    | fail_if_no_progress dsimp only)

theorem takeover_keeps (cause : Nat) (s : State) : Keeps 134217736 s (takeover cause s) := by
  have h0 := Keeps.refl 134217736 s
  unfold takeover
  try dsimp only
  repeat' (first
    | with_reducible apply Keeps.ite
    | with_reducible apply Keeps.iteFst
    | with_reducible apply Keeps.iteSnd
    | intro _
    | with_reducible assumption
    | ((with_reducible apply Keeps.step (State.setPair_keeps ..)); exact rfl)
    | ((with_reducible apply Keeps.step (State.setPs_keeps ..)); exact rfl)
    | ((with_reducible apply Keeps.step (startClaim_keeps ..)); exact rfl)
    | fail_if_no_progress dsimp only)

theorem dcrcCheck_keeps (b : Beat) (s : State) : Keeps 134283276 s (dcrcCheck b s) := by
  have h0 := Keeps.refl 134283276 s
  unfold dcrcCheck
  try dsimp only
  repeat' (first
    | with_reducible apply Keeps.ite
    | with_reducible apply Keeps.iteFst
    | with_reducible apply Keeps.iteSnd
    | intro _
    | with_reducible assumption
    | ((with_reducible apply Keeps.step (State.setPair_keeps ..)); exact rfl)
    | ((with_reducible apply Keeps.step (State.setPs_keeps ..)); exact rfl)
    | ((with_reducible apply Keeps.step (joined_keeps ..)); exact rfl)
    | ((with_reducible apply Keeps.step (setSynced_keeps ..)); exact rfl)
    | split
    | fail_if_no_progress dsimp only)

theorem pairDeadline_keeps (s : State) : Keeps 1208025100 s (pairDeadline s) := by
  have h0 := Keeps.refl 1208025100 s
  unfold pairDeadline
  try dsimp only
  repeat' (first
    | with_reducible apply Keeps.ite
    | with_reducible apply Keeps.iteFst
    | with_reducible apply Keeps.iteSnd
    | intro _
    | with_reducible assumption
    | ((with_reducible apply Keeps.step (State.bump_keeps ..)); exact rfl)
    | ((with_reducible apply Keeps.step (State.setPair_keeps ..)); exact rfl)
    | ((with_reducible apply Keeps.step (State.setPs_keeps ..)); exact rfl)
    | ((with_reducible apply Keeps.step (belaySend_keeps ..)); exact rfl)
    | ((with_reducible apply Keeps.step (dcrcCheck_keeps ..)); exact rfl)
    | ((with_reducible apply Keeps.step (takeover_keeps ..)); exact rfl)
    | split
    | fail_if_no_progress dsimp only)

theorem sendVector_keeps (s : State) : Keeps 1207959552 s (sendVector s) := by
  have h0 := Keeps.refl 1207959552 s
  unfold sendVector
  try dsimp only
  repeat' (first
    | with_reducible apply Keeps.ite
    | with_reducible apply Keeps.iteFst
    | with_reducible apply Keeps.iteSnd
    | intro _
    | with_reducible assumption
    | ((with_reducible apply Keeps.step (State.setPair_keeps ..)); exact rfl)
    | ((with_reducible apply Keeps.step (belayOut_keeps ..)); exact rfl)
    | fail_if_no_progress dsimp only)

end Sys2Proof.Machine
end

