-- ==== Sys2Proof/Laws/KeepsGate.lean ====
section
/-!
SUPPORT. What each function of Machine/Gate.lean keeps, and which parts of the state it leaves alone.
-/

namespace Sys2Proof.Machine

theorem feedDrivers_keeps (e : EdgeEv) (s : State) : Keeps 1024 s (feedDrivers e s) := by
  have h0 := Keeps.refl 1024 s
  unfold feedDrivers
  try dsimp only
  repeat' (first
    | with_reducible apply Keeps.ite
    | with_reducible apply Keeps.iteFst
    | with_reducible apply Keeps.iteSnd
    | intro _
    | with_reducible assumption
    | ((with_reducible apply Keeps.step (State.setLd_keeps ..)); exact rfl)
    | with_reducible apply Keeps.forEach
    | fail_if_no_progress dsimp only)

theorem enqueueEdge_keeps (e : EdgeEv) (s : State) : Keeps 67125900 s (enqueueEdge e s) := by
  have h0 := Keeps.refl 67125900 s
  unfold enqueueEdge
  try dsimp only
  repeat' (first
    | with_reducible apply Keeps.ite
    | with_reducible apply Keeps.iteFst
    | with_reducible apply Keeps.iteSnd
    | intro _
    | with_reducible assumption
    | ((with_reducible apply Keeps.step (State.setLane_keeps ..)); exact rfl)
    | ((with_reducible apply Keeps.step (State.setMod_keeps ..)); exact rfl)
    | ((with_reducible apply Keeps.step (armLatchCheck_keeps ..)); exact rfl)
    | ((with_reducible apply Keeps.step (laneFault_keeps ..)); exact rfl)
    | fail_if_no_progress dsimp only)

theorem execEdgeEventEnqueue_keeps (s : State) : Outcome.Keeps 67126924 s (execEdgeEventEnqueue s) := by
  have h0 := Keeps.refl 67126924 s
  unfold execEdgeEventEnqueue
  try dsimp only
  repeat' (first
    | with_reducible apply Outcome.Keeps.next
    | intro _
    | with_reducible assumption
    | ((with_reducible apply Keeps.step (enqueueEdge_keeps ..)); exact rfl)
    | ((with_reducible apply Keeps.step (feedDrivers_keeps ..)); exact rfl)
    | split
    | (fail_if_no_progress with_reducible apply Keeps.update) <;> first | ((with_reducible apply Or.inr); with_reducible rfl) | ((with_reducible apply Or.inl); first | exact rfl) | skip
    | fail_if_no_progress dsimp only)

theorem sendFrame_keeps (k : Nat) (t : Instant) (s : State) : Keeps 1073742348 s (sendFrame k t s) := by
  have h0 := Keeps.refl 1073742348 s
  unfold sendFrame
  try dsimp only
  repeat' (first
    | with_reducible apply Keeps.ite
    | with_reducible apply Keeps.iteFst
    | with_reducible apply Keeps.iteSnd
    | intro _
    | with_reducible assumption
    | ((with_reducible apply Keeps.step (State.bump_keeps ..)); exact rfl)
    | ((with_reducible apply Keeps.step (State.emit_keeps ..)); exact rfl)
    | ((with_reducible apply Keeps.step (State.setFlag_keeps ..)); exact rfl)
    | ((with_reducible apply Keeps.step (State.setLane_keeps ..)); exact rfl)
    | ((with_reducible apply Keeps.step (nextAccess_keeps ..)); exact rfl)
    | fail_if_no_progress dsimp only)

theorem execDownlinkFrame_keeps (k : Fin 64) (t : Instant) (s : State) : Outcome.Keeps 1073742349 s (execDownlinkFrame k t s) := by
  have h0 := Keeps.refl 1073742349 s
  unfold execDownlinkFrame
  try dsimp only
  repeat' (first
    | with_reducible apply Outcome.Keeps.next
    | with_reducible apply Outcome.Keeps.ite
    | with_reducible apply Keeps.ite
    | with_reducible apply Keeps.iteFst
    | with_reducible apply Keeps.iteSnd
    | intro _
    | with_reducible assumption
    | ((with_reducible apply Keeps.step (State.advance_keeps ..)); exact rfl)
    | ((with_reducible apply Keeps.step (leaveLive_keeps ..)); exact rfl)
    | ((with_reducible apply Keeps.step (sendFrame_keeps ..)); exact rfl)
    | fail_if_no_progress dsimp only)

theorem checkFail_keeps (k : Nat) (s : State) : Keeps 1208221708 s (checkFail k s) := by
  have h0 := Keeps.refl 1208221708 s
  unfold checkFail
  try dsimp only
  repeat' (first
    | intro _
    | with_reducible assumption
    | ((with_reducible apply Keeps.step (State.setRegBit_keeps ..)); exact rfl)
    | ((with_reducible apply Keeps.step (istFail_keeps ..)); exact rfl)
    | fail_if_no_progress dsimp only)

theorem refuseUplink_keeps (k : Nat) (s : State) : Keeps 1208221708 s (refuseUplink k s) := by
  have h0 := Keeps.refl 1208221708 s
  unfold refuseUplink
  try dsimp only
  repeat' (first
    | with_reducible apply Keeps.ite
    | with_reducible apply Keeps.iteFst
    | with_reducible apply Keeps.iteSnd
    | intro _
    | with_reducible assumption
    | ((with_reducible apply Keeps.step (State.bump_keeps ..)); exact rfl)
    | ((with_reducible apply Keeps.step (State.setFlag_keeps ..)); exact rfl)
    | ((with_reducible apply Keeps.step (checkFail_keeps ..)); exact rfl)
    | fail_if_no_progress dsimp only)

theorem roundTrip_keeps (k : Nat) (echo : Nat) (dly : Nat) (t : Instant) (s : State) : Keeps 524 s (roundTrip k echo dly t s) := by
  have h0 := Keeps.refl 524 s
  unfold roundTrip
  try dsimp only
  repeat' (first
    | with_reducible apply Keeps.ite
    | with_reducible apply Keeps.iteFst
    | with_reducible apply Keeps.iteSnd
    | intro _
    | with_reducible assumption
    | ((with_reducible apply Keeps.step (State.setFlag_keeps ..)); exact rfl)
    | ((with_reducible apply Keeps.step (State.setLane_keeps ..)); exact rfl)
    | ((with_reducible apply Keeps.step (refreshReady_keeps ..)); exact rfl)
    | ((with_reducible apply Keeps.step (setOpen_keeps ..)); exact rfl)
    | with_reducible apply Keeps.foldl
    | with_reducible apply Keeps.foldlFst
    | with_reducible apply Keeps.foldlSnd
    | split
    | fail_if_no_progress dsimp only)

theorem readback_keeps (k : Nat) (reg : Nat) (stat : Nat) (val : Nat) (bad : Bool) (s : State) : Keeps 1208222220 s (readback k reg stat val bad s) := by
  have h0 := Keeps.refl 1208222220 s
  unfold readback
  try dsimp only
  repeat' (first
    | with_reducible apply Keeps.ite
    | with_reducible apply Keeps.iteFst
    | with_reducible apply Keeps.iteSnd
    | intro _
    | with_reducible assumption
    | ((with_reducible apply Keeps.step (State.setLane_keeps ..)); exact rfl)
    | ((with_reducible apply Keeps.step (State.setReg_keeps ..)); exact rfl)
    | ((with_reducible apply Keeps.step (checkFail_keeps ..)); exact rfl)
    | ((with_reducible apply Keeps.step (refreshReady_keeps ..)); exact rfl)
    | ((with_reducible apply Keeps.step (releaseFailed_keeps ..)); exact rfl)
    | split
    | fail_if_no_progress dsimp only)

theorem positionBlock_keeps (k : Nat) (p : Nat) (b : List Nat) (s : State) : Keeps 67109388 s (positionBlock k p b s) := by
  have h0 := Keeps.refl 67109388 s
  unfold positionBlock
  try dsimp only
  repeat' (first
    | with_reducible apply Keeps.ite
    | with_reducible apply Keeps.iteFst
    | with_reducible apply Keeps.iteSnd
    | intro _
    | with_reducible assumption
    | ((with_reducible apply Keeps.step (State.setLane_keeps ..)); exact rfl)
    | ((with_reducible apply Keeps.step (driftReport_keeps ..)); exact rfl)
    | ((with_reducible apply Keeps.step (trainStep_keeps ..)); exact rfl)
    | fail_if_no_progress dsimp only)

theorem uplinkWords_keeps (k : Nat) (b : List Nat) (ok : Bool) (s : State) : Keeps 131104 s (uplinkWords k b ok s) := by
  have h0 := Keeps.refl 131104 s
  unfold uplinkWords
  try dsimp only
  repeat' (first
    | intro _
    | with_reducible assumption
    | ((with_reducible apply Keeps.step (State.setWord_keeps ..)); exact rfl)
    | fail_if_no_progress dsimp only)

theorem acceptUplink_keeps (k : Nat) (b : List Nat) (t : Instant) (s : State) : Keeps 1275588588 s (acceptUplink k b t s) := by
  have h0 := Keeps.refl 1275588588 s
  unfold acceptUplink
  try dsimp only
  repeat' (first
    | with_reducible apply Keeps.ite
    | with_reducible apply Keeps.iteFst
    | with_reducible apply Keeps.iteSnd
    | intro _
    | with_reducible assumption
    | ((with_reducible apply Keeps.step (State.bumpBy_keeps ..)); exact rfl)
    | ((with_reducible apply Keeps.step (State.setFlag_keeps ..)); exact rfl)
    | ((with_reducible apply Keeps.step (State.setLane_keeps ..)); exact rfl)
    | ((with_reducible apply Keeps.step (State.setPair_keeps ..)); exact rfl)
    | ((with_reducible apply Keeps.step (State.setReg_keeps ..)); exact rfl)
    | ((with_reducible apply Keeps.step (armIfReady_keeps ..)); exact rfl)
    | ((with_reducible apply Keeps.step (armLatchCheck_keeps ..)); exact rfl)
    | ((with_reducible apply Keeps.step (checkFail_keeps ..)); exact rfl)
    | ((with_reducible apply Keeps.step (clearLaneFault_keeps ..)); exact rfl)
    | ((with_reducible apply Keeps.step (laneFault_keeps ..)); exact rfl)
    | ((with_reducible apply Keeps.step (learnBaton_keeps ..)); exact rfl)
    | ((with_reducible apply Keeps.step (positionBlock_keeps ..)); exact rfl)
    | ((with_reducible apply Keeps.step (readback_keeps ..)); exact rfl)
    | ((with_reducible apply Keeps.step (roundTrip_keeps ..)); exact rfl)
    | ((with_reducible apply Keeps.step (uplinkWords_keeps ..)); exact rfl)
    | ((with_reducible apply Keeps.step (vonSample_keeps ..)); exact rfl)
    | with_reducible apply Keeps.forEach
    | fail_if_no_progress dsimp only)

theorem execUplinkFrame_keeps (k : Fin 64) (bytes : List (BitVec 8)) (t : Instant) (s : State) : Outcome.Keeps 1275588589 s (execUplinkFrame k bytes t s) := by
  have h0 := Keeps.refl 1275588589 s
  unfold execUplinkFrame
  try dsimp only
  repeat' (first
    | with_reducible apply Outcome.Keeps.next
    | with_reducible apply Outcome.Keeps.ite
    | with_reducible apply Keeps.ite
    | with_reducible apply Keeps.iteFst
    | with_reducible apply Keeps.iteSnd
    | intro _
    | with_reducible assumption
    | ((with_reducible apply Keeps.step (State.advance_keeps ..)); exact rfl)
    | ((with_reducible apply Keeps.step (acceptUplink_keeps ..)); exact rfl)
    | ((with_reducible apply Keeps.step (refuseUplink_keeps ..)); exact rfl)
    | fail_if_no_progress dsimp only)

theorem execUplinkTimeout_keeps (k : Fin 64) (t : Instant) (s : State) : Outcome.Keeps 148141 s (execUplinkTimeout k t s) := by
  have h0 := Keeps.refl 148141 s
  unfold execUplinkTimeout
  try dsimp only
  repeat' (first
    | with_reducible apply Outcome.Keeps.next
    | with_reducible apply Outcome.Keeps.ite
    | with_reducible apply Keeps.ite
    | with_reducible apply Keeps.iteFst
    | with_reducible apply Keeps.iteSnd
    | intro _
    | with_reducible assumption
    | ((with_reducible apply Keeps.step (State.advance_keeps ..)); exact rfl)
    | ((with_reducible apply Keeps.step (State.setFlag_keeps ..)); exact rfl)
    | ((with_reducible apply Keeps.step (State.setWord_keeps ..)); exact rfl)
    | ((with_reducible apply Keeps.step (armLatchCheck_keeps ..)); exact rfl)
    | ((with_reducible apply Keeps.step (laneFault_keeps ..)); exact rfl)
    | fail_if_no_progress dsimp only)

theorem execLaneFaultRelease_keeps (k : Fin 64) (t : Instant) (s : State) : Outcome.Keeps 513 s (execLaneFaultRelease k t s) := by
  have h0 := Keeps.refl 513 s
  unfold execLaneFaultRelease
  try dsimp only
  repeat' (first
    | with_reducible apply Outcome.Keeps.next
    | with_reducible apply Outcome.Keeps.ite
    | with_reducible apply Keeps.ite
    | with_reducible apply Keeps.iteFst
    | with_reducible apply Keeps.iteSnd
    | intro _
    | with_reducible assumption
    | ((with_reducible apply Keeps.step (State.advance_keeps ..)); exact rfl)
    | ((with_reducible apply Keeps.step (sendRelease_keeps ..)); exact rfl)
    | fail_if_no_progress dsimp only)

theorem actGlClear_keeps (mask : Nat) (s : State) : Keeps 520 s (actGlClear mask s).1 := by
  have h0 := Keeps.refl 520 s
  unfold actGlClear
  try dsimp only
  repeat' (first
    | with_reducible apply Keeps.ite
    | with_reducible apply Keeps.iteFst
    | with_reducible apply Keeps.iteSnd
    | intro _
    | with_reducible assumption
    | ((with_reducible apply Keeps.step (State.setLane_keeps ..)); exact rfl)
    | ((with_reducible apply Keeps.step (State.setReg_keeps ..)); exact rfl)
    | ((with_reducible apply Keeps.step (sendRelease_keeps ..)); exact rfl)
    | with_reducible apply Keeps.forEach
    | fail_if_no_progress dsimp only)

theorem execGlClear_keeps (mask : BitVec 64) (s : State) : Outcome.Keeps 520 s (execGlClear mask s) := by
  have h0 := Keeps.refl 520 s
  unfold execGlClear
  try dsimp only
  repeat' (first
    | with_reducible apply Outcome.Keeps.next
    | intro _
    | with_reducible assumption
    | ((with_reducible apply Keeps.step (actGlClear_keeps ..)); exact rfl)
    | fail_if_no_progress dsimp only)

theorem execGuAccessTimeout_keeps (k : Fin 64) (t : Instant) (s : State) : Outcome.Keeps 521 s (execGuAccessTimeout k t s) := by
  have h0 := Keeps.refl 521 s
  unfold execGuAccessTimeout
  try dsimp only
  repeat' (first
    | with_reducible apply Outcome.Keeps.next
    | with_reducible apply Outcome.Keeps.ite
    | with_reducible apply Keeps.ite
    | with_reducible apply Keeps.iteFst
    | with_reducible apply Keeps.iteSnd
    | intro _
    | with_reducible assumption
    | ((with_reducible apply Keeps.step (State.advance_keeps ..)); exact rfl)
    | ((with_reducible apply Keeps.step (State.setLane_keeps ..)); exact rfl)
    | ((with_reducible apply Keeps.step (State.setReg_keeps ..)); exact rfl)
    | split
    | fail_if_no_progress dsimp only)

theorem execGuSetupRetry_keeps (k : Fin 64) (t : Instant) (s : State) : Outcome.Keeps 513 s (execGuSetupRetry k t s) := by
  have h0 := Keeps.refl 513 s
  unfold execGuSetupRetry
  try dsimp only
  repeat' (first
    | with_reducible apply Outcome.Keeps.next
    | with_reducible apply Outcome.Keeps.ite
    | with_reducible apply Keeps.ite
    | with_reducible apply Keeps.iteFst
    | with_reducible apply Keeps.iteSnd
    | intro _
    | with_reducible assumption
    | ((with_reducible apply Keeps.step (State.advance_keeps ..)); exact rfl)
    | ((with_reducible apply Keeps.step (nextAccess_keeps ..)); exact rfl)
    | fail_if_no_progress dsimp only)

theorem actGu_keeps (write : Bool) (s : State) : Keeps 520 s (actGu write s).1 := by
  have h0 := Keeps.refl 520 s
  unfold actGu
  try dsimp only
  repeat' (first
    | with_reducible apply Keeps.ite
    | with_reducible apply Keeps.iteFst
    | with_reducible apply Keeps.iteSnd
    | intro _
    | with_reducible assumption
    | ((with_reducible apply Keeps.step (State.setLane_keeps ..)); exact rfl)
    | ((with_reducible apply Keeps.step (State.setReg_keeps ..)); exact rfl)
    | fail_if_no_progress dsimp only)

theorem execGuWrite_keeps (s : State) : Outcome.Keeps 520 s (execGuWrite s) := by
  have h0 := Keeps.refl 520 s
  unfold execGuWrite
  try dsimp only
  repeat' (first
    | with_reducible apply Outcome.Keeps.next
    | intro _
    | with_reducible assumption
    | ((with_reducible apply Keeps.step (actGu_keeps ..)); exact rfl)
    | fail_if_no_progress dsimp only)

theorem execGuRead_keeps (s : State) : Outcome.Keeps 520 s (execGuRead s) := by
  have h0 := Keeps.refl 520 s
  unfold execGuRead
  try dsimp only
  repeat' (first
    | with_reducible apply Outcome.Keeps.next
    | intro _
    | with_reducible assumption
    | ((with_reducible apply Keeps.step (actGu_keeps ..)); exact rfl)
    | fail_if_no_progress dsimp only)

theorem actLaneEn_keeps (k : Nat) (on : Bool) (s : State) : Keeps 520 s (actLaneEn k on s).1 := by
  have h0 := Keeps.refl 520 s
  unfold actLaneEn
  try dsimp only
  repeat' (first
    | with_reducible apply Keeps.ite
    | with_reducible apply Keeps.iteFst
    | with_reducible apply Keeps.iteSnd
    | intro _
    | with_reducible assumption
    | ((with_reducible apply Keeps.step (laneSetEn_keeps ..)); exact rfl)
    | fail_if_no_progress dsimp only)

theorem execLaneEnable_keeps (k : Fin 64) (s : State) : Outcome.Keeps 262664 s (execLaneEnable k s) := by
  have h0 := Keeps.refl 262664 s
  unfold execLaneEnable
  try dsimp only
  repeat' (first
    | with_reducible apply Outcome.Keeps.next
    | intro _
    | with_reducible assumption
    | ((with_reducible apply Keeps.step (actLaneEn_keeps ..)); exact rfl)
    | ((with_reducible apply stored_keeps); exact rfl)
    | fail_if_no_progress dsimp only)

theorem execLaneDisable_keeps (k : Fin 64) (s : State) : Outcome.Keeps 262664 s (execLaneDisable k s) := by
  have h0 := Keeps.refl 262664 s
  unfold execLaneDisable
  try dsimp only
  repeat' (first
    | with_reducible apply Outcome.Keeps.next
    | intro _
    | with_reducible assumption
    | ((with_reducible apply Keeps.step (actLaneEn_keeps ..)); exact rfl)
    | ((with_reducible apply stored_keeps); exact rfl)
    | fail_if_no_progress dsimp only)

theorem execLaneStartComplete_keeps (k : Fin 64) (t : Instant) (s : State) : Outcome.Keeps 521 s (execLaneStartComplete k t s) := by
  have h0 := Keeps.refl 521 s
  unfold execLaneStartComplete
  try dsimp only
  repeat' (first
    | with_reducible apply Outcome.Keeps.next
    | with_reducible apply Outcome.Keeps.ite
    | with_reducible apply Keeps.ite
    | with_reducible apply Keeps.iteFst
    | with_reducible apply Keeps.iteSnd
    | intro _
    | with_reducible assumption
    | ((with_reducible apply Keeps.step (State.advance_keeps ..)); exact rfl)
    | ((with_reducible apply Keeps.step (laneStarted_keeps ..)); exact rfl)
    | fail_if_no_progress dsimp only)

theorem actTrainReset_keeps (mask : Nat) (s : State) : Keeps 520 s (actTrainReset mask s).1 := by
  have h0 := Keeps.refl 520 s
  unfold actTrainReset
  try dsimp only
  repeat' (first
    | intro _
    | with_reducible assumption
    | ((with_reducible apply Keeps.step (State.setLane_keeps ..)); exact rfl)
    | ((with_reducible apply Keeps.step (resetCodes_keeps ..)); exact rfl)
    | with_reducible apply Keeps.forEach
    | fail_if_no_progress dsimp only)

theorem execTrainReset_keeps (mask : BitVec 64) (s : State) : Outcome.Keeps 520 s (execTrainReset mask s) := by
  have h0 := Keeps.refl 520 s
  unfold execTrainReset
  try dsimp only
  repeat' (first
    | with_reducible apply Outcome.Keeps.next
    | intro _
    | with_reducible assumption
    | ((with_reducible apply Keeps.step (actTrainReset_keeps ..)); exact rfl)
    | fail_if_no_progress dsimp only)

theorem execTrainCodeStore_keeps (t : Instant) (s : State) : Outcome.Keeps 537133057 s (execTrainCodeStore t s) := by
  have h0 := Keeps.refl 537133057 s
  unfold execTrainCodeStore
  try dsimp only
  repeat' (first
    | with_reducible apply Outcome.Keeps.next
    | with_reducible apply Outcome.Keeps.ite
    | with_reducible apply Keeps.ite
    | with_reducible apply Keeps.iteFst
    | with_reducible apply Keeps.iteSnd
    | intro _
    | with_reducible assumption
    | ((with_reducible apply Keeps.step (State.advance_keeps ..)); exact rfl)
    | ((with_reducible apply Keeps.step (storeCodes_keeps ..)); exact rfl)
    | (fail_if_no_progress with_reducible apply Keeps.update) <;> first | ((with_reducible apply Or.inr); with_reducible rfl) | ((with_reducible apply Or.inl); first | exact rfl) | skip
    | fail_if_no_progress dsimp only)

end Sys2Proof.Machine
end

