-- ==== Sys2Proof/Laws/KeepsMemory.lean ====
section
/-!
SUPPORT. What each function of Machine/Memory.lean keeps, and which parts of the state it leaves alone.
-/

namespace Sys2Proof.Machine

theorem execDramInitDone_keeps (t : Instant) (s : State) : Outcome.Keeps 6291517 s (execDramInitDone t s) := by
  have h0 := Keeps.refl 6291517 s
  unfold execDramInitDone
  try dsimp only
  repeat' (first
    | with_reducible apply Outcome.Keeps.next
    | with_reducible apply Outcome.Keeps.ite
    | with_reducible apply Keeps.ite
    | with_reducible apply Keeps.iteFst
    | with_reducible apply Keeps.iteSnd
    | intro _
    | with_reducible assumption
    | ((with_reducible apply Keeps.step (State.advance_keeps ..)); exact rfl)
    | ((with_reducible apply Keeps.step (State.setFlag_keeps ..)); exact rfl)
    | ((with_reducible apply Keeps.step (State.setReg_keeps ..)); exact rfl)
    | ((with_reducible apply Keeps.step (memServe_keeps ..)); exact rfl)
    | fail_if_no_progress dsimp only)

theorem actScrubStart_keeps (s : State) : Keeps 2097160 s (actScrubStart s).1 := by
  have h0 := Keeps.refl 2097160 s
  unfold actScrubStart
  try dsimp only
  repeat' (first
    | with_reducible apply Keeps.ite
    | with_reducible apply Keeps.iteFst
    | with_reducible apply Keeps.iteSnd
    | intro _
    | with_reducible assumption
    | ((with_reducible apply Keeps.step (State.setReg_keeps ..)); exact rfl)
    | with_reducible apply Keeps.foldl
    | with_reducible apply Keeps.foldlFst
    | with_reducible apply Keeps.foldlSnd
    | split
    | (fail_if_no_progress with_reducible apply Keeps.update) <;> first | ((with_reducible apply Or.inr); with_reducible rfl) | ((with_reducible apply Or.inl); first | exact rfl) | skip
    | fail_if_no_progress dsimp only)

theorem execScrubStart_keeps (s : State) : Outcome.Keeps 2097160 s (execScrubStart s) := by
  have h0 := Keeps.refl 2097160 s
  unfold execScrubStart
  try dsimp only
  repeat' (first
    | with_reducible apply Outcome.Keeps.next
    | intro _
    | with_reducible assumption
    | ((with_reducible apply Keeps.step (actScrubStart_keeps ..)); exact rfl)
    | fail_if_no_progress dsimp only)

theorem actScrubStop_keeps (n : Nat) (s : State) : Keeps 2097164 s (actScrubStop n s).1 := by
  have h0 := Keeps.refl 2097164 s
  unfold actScrubStop
  try dsimp only
  repeat' (first
    | intro _
    | with_reducible assumption
    | ((with_reducible apply Keeps.step (State.setReg_keeps ..)); exact rfl)
    | ((with_reducible apply Keeps.step (scrubRun_keeps ..)); exact rfl)
    | split
    | fail_if_no_progress dsimp only)

theorem execScrubStop_keeps (n : Nat) (s : State) : Outcome.Keeps 2097164 s (execScrubStop n s) := by
  have h0 := Keeps.refl 2097164 s
  unfold execScrubStop
  try dsimp only
  repeat' (first
    | with_reducible apply Outcome.Keeps.next
    | intro _
    | with_reducible assumption
    | ((with_reducible apply Keeps.step (actScrubStop_keeps ..)); exact rfl)
    | fail_if_no_progress dsimp only)

theorem execScrubPassEnd_keeps (t : Instant) (s : State) : Outcome.Keeps 2097165 s (execScrubPassEnd t s) := by
  have h0 := Keeps.refl 2097165 s
  unfold execScrubPassEnd
  try dsimp only
  repeat' (first
    | with_reducible apply Outcome.Keeps.next
    | with_reducible apply Outcome.Keeps.ite
    | with_reducible apply Keeps.ite
    | with_reducible apply Keeps.iteFst
    | with_reducible apply Keeps.iteSnd
    | intro _
    | with_reducible assumption
    | ((with_reducible apply Keeps.step (State.advance_keeps ..)); exact rfl)
    | ((with_reducible apply Keeps.step (State.setReg_keeps ..)); exact rfl)
    | ((with_reducible apply Keeps.step (scrubRun_keeps ..)); exact rfl)
    | split
    | fail_if_no_progress dsimp only)

theorem actEccClear_keeps (s : State) : Keeps 8 s (actEccClear s).1 := by
  have h0 := Keeps.refl 8 s
  unfold actEccClear
  try dsimp only
  repeat' (first
    | intro _
    | with_reducible assumption
    | ((with_reducible apply Keeps.step (State.setReg_keeps ..)); exact rfl)
    | with_reducible apply Keeps.forEach
    | fail_if_no_progress dsimp only)

theorem execEccClear_keeps (s : State) : Outcome.Keeps 8 s (execEccClear s) := by
  have h0 := Keeps.refl 8 s
  unfold execEccClear
  try dsimp only
  repeat' (first
    | with_reducible apply Outcome.Keeps.next
    | intro _
    | with_reducible assumption
    | ((with_reducible apply Keeps.step (actEccClear_keeps ..)); exact rfl)
    | fail_if_no_progress dsimp only)

theorem actDmaStart_keeps (c : Nat) (s : State) : Keeps 6291468 s (actDmaStart c s).1 := by
  have h0 := Keeps.refl 6291468 s
  unfold actDmaStart
  try dsimp only
  repeat' (first
    | intro _
    | with_reducible assumption
    | ((with_reducible apply Keeps.step (dmaStart_keeps ..)); exact rfl)
    | fail_if_no_progress dsimp only)

theorem execDmaStart_keeps (c : Fin 16) (s : State) : Outcome.Keeps 6291468 s (execDmaStart c s) := by
  have h0 := Keeps.refl 6291468 s
  unfold execDmaStart
  try dsimp only
  repeat' (first
    | with_reducible apply Outcome.Keeps.next
    | intro _
    | with_reducible assumption
    | ((with_reducible apply Keeps.step (actDmaStart_keeps ..)); exact rfl)
    | fail_if_no_progress dsimp only)

theorem execDmaBeat_keeps (t : Instant) (s : State) : Outcome.Keeps 6291517 s (execDmaBeat t s) := by
  have h0 := Keeps.refl 6291517 s
  unfold execDmaBeat
  try dsimp only
  repeat' (first
    | with_reducible apply Outcome.Keeps.next
    | intro _
    | with_reducible assumption
    | ((with_reducible apply Keeps.step (State.advance_keeps ..)); exact rfl)
    | ((with_reducible apply Keeps.step (dmaBeat_keeps ..)); exact rfl)
    | split
    | (fail_if_no_progress with_reducible apply Keeps.update) <;> first | ((with_reducible apply Or.inr); with_reducible rfl) | ((with_reducible apply Or.inl); first | exact rfl) | skip
    | fail_if_no_progress dsimp only)

theorem execDmaDone_keeps (c : Fin 16) (s : State) : Outcome.Keeps 6291468 s (execDmaDone c s) := by
  have h0 := Keeps.refl 6291468 s
  unfold execDmaDone
  try dsimp only
  repeat' (first
    | with_reducible apply Outcome.Keeps.next
    | with_reducible apply Outcome.Keeps.ite
    | with_reducible apply Keeps.ite
    | with_reducible apply Keeps.iteFst
    | with_reducible apply Keeps.iteSnd
    | intro _
    | with_reducible assumption
    | ((with_reducible apply Keeps.step (State.bump_keeps ..)); exact rfl)
    | ((with_reducible apply Keeps.step (State.setDma_keeps ..)); exact rfl)
    | ((with_reducible apply Keeps.step (State.setFlag_keeps ..)); exact rfl)
    | ((with_reducible apply Keeps.step (State.setRegBit_keeps ..)); exact rfl)
    | ((with_reducible apply Keeps.step (heldOf_keeps ..)); exact rfl)
    | fail_if_no_progress dsimp only)

theorem execDmaStreamTimeout_keeps (c : Fin 16) (t : Instant) (s : State) : Outcome.Keeps 2097161 s (execDmaStreamTimeout c t s) := by
  have h0 := Keeps.refl 2097161 s
  unfold execDmaStreamTimeout
  try dsimp only
  repeat' (first
    | with_reducible apply Outcome.Keeps.next
    | with_reducible apply Outcome.Keeps.ite
    | with_reducible apply Keeps.ite
    | with_reducible apply Keeps.iteFst
    | with_reducible apply Keeps.iteSnd
    | intro _
    | with_reducible assumption
    | ((with_reducible apply Keeps.step (State.advance_keeps ..)); exact rfl)
    | ((with_reducible apply Keeps.step (State.setFlag_keeps ..)); exact rfl)
    | ((with_reducible apply Keeps.step (dmaHalt_keeps ..)); exact rfl)
    | ((with_reducible apply Keeps.step (dmaReport_keeps ..)); exact rfl)
    | fail_if_no_progress dsimp only)

theorem actDmaDisable_keeps (c : Nat) (s : State) : Keeps 2097180 s (actDmaDisable c s).1 := by
  have h0 := Keeps.refl 2097180 s
  unfold actDmaDisable
  try dsimp only
  repeat' (first
    | with_reducible apply Keeps.ite
    | with_reducible apply Keeps.iteFst
    | with_reducible apply Keeps.iteSnd
    | intro _
    | with_reducible assumption
    | ((with_reducible apply Keeps.step (dmaDrop_keeps ..)); exact rfl)
    | fail_if_no_progress dsimp only)

theorem execDmaDisable_keeps (c : Fin 16) (s : State) : Outcome.Keeps 2097180 s (execDmaDisable c s) := by
  have h0 := Keeps.refl 2097180 s
  unfold execDmaDisable
  try dsimp only
  repeat' (first
    | with_reducible apply Outcome.Keeps.next
    | intro _
    | with_reducible assumption
    | ((with_reducible apply Keeps.step (actDmaDisable_keeps ..)); exact rfl)
    | fail_if_no_progress dsimp only)

theorem actMemRead_keeps (s : State) : Keeps 2097164 s (actMemRead s).1 := by
  have h0 := Keeps.refl 2097164 s
  unfold actMemRead
  try dsimp only
  repeat' (first
    | with_reducible apply Keeps.ite
    | with_reducible apply Keeps.iteFst
    | with_reducible apply Keeps.iteSnd
    | intro _
    | with_reducible assumption
    | ((with_reducible apply Keeps.step (State.setReg_keeps ..)); exact rfl)
    | ((with_reducible apply Keeps.step (memReadAt_keeps ..)); exact rfl)
    | ((with_reducible apply Keeps.step (memWait_keeps ..)); exact rfl)
    | fail_if_no_progress dsimp only)

theorem execMemRead_keeps (s : State) : Outcome.Keeps 2097164 s (execMemRead s) := by
  have h0 := Keeps.refl 2097164 s
  unfold execMemRead
  try dsimp only
  repeat' (first
    | with_reducible apply Outcome.Keeps.next
    | intro _
    | with_reducible assumption
    | ((with_reducible apply Keeps.step (actMemRead_keeps ..)); exact rfl)
    | fail_if_no_progress dsimp only)

theorem actMemWrite_keeps (s : State) : Keeps 6291516 s (actMemWrite s).1 := by
  have h0 := Keeps.refl 6291516 s
  unfold actMemWrite
  try dsimp only
  repeat' (first
    | with_reducible apply Keeps.ite
    | with_reducible apply Keeps.iteFst
    | with_reducible apply Keeps.iteSnd
    | intro _
    | with_reducible assumption
    | ((with_reducible apply Keeps.step (State.setReg_keeps ..)); exact rfl)
    | ((with_reducible apply Keeps.step (memWait_keeps ..)); exact rfl)
    | ((with_reducible apply Keeps.step (memWriteAt_keeps ..)); exact rfl)
    | fail_if_no_progress dsimp only)

theorem execMemWrite_keeps (s : State) : Outcome.Keeps 6291516 s (execMemWrite s) := by
  have h0 := Keeps.refl 6291516 s
  unfold execMemWrite
  try dsimp only
  repeat' (first
    | with_reducible apply Outcome.Keeps.next
    | intro _
    | with_reducible assumption
    | ((with_reducible apply Keeps.step (actMemWrite_keeps ..)); exact rfl)
    | fail_if_no_progress dsimp only)

end Sys2Proof.Machine
end

