-- ==== Sys2Proof/Laws/KeepsModes.lean ====
section
/-!
SUPPORT. What each function of Machine/Modes.lean keeps, and which parts of the state it leaves alone.
-/

namespace Sys2Proof.Machine

theorem actApply_keeps (s : State) : Keeps 32776 s (actApply s).1 := by
  have h0 := Keeps.refl 32776 s
  unfold actApply
  try dsimp only
  repeat' (first
    | with_reducible apply Keeps.ite
    | with_reducible apply Keeps.iteFst
    | with_reducible apply Keeps.iteSnd
    | intro _
    | with_reducible assumption
    | ((with_reducible apply Keeps.step (State.setLaw_keeps ..)); exact rfl)
    | ((with_reducible apply Keeps.step (State.setMs_keeps ..)); exact rfl)
    | ((with_reducible apply Keeps.step (State.setReg_keeps ..)); exact rfl)
    | fail_if_no_progress dsimp only)

theorem execApplyStaged_keeps (s : State) : Outcome.Keeps 32776 s (execApplyStaged s) := by
  have h0 := Keeps.refl 32776 s
  unfold execApplyStaged
  try dsimp only
  repeat' (first
    | with_reducible apply Outcome.Keeps.next
    | intro _
    | with_reducible assumption
    | ((with_reducible apply Keeps.step (actApply_keeps ..)); exact rfl)
    | fail_if_no_progress dsimp only)

theorem actBase_keeps (side : Nat) (sub : Nat) (v : Nat) (s : State) : Keeps 8 s (actBase side sub v s).1 := by
  have h0 := Keeps.refl 8 s
  unfold actBase
  try dsimp only
  repeat' (first
    | with_reducible apply Keeps.ite
    | with_reducible apply Keeps.iteFst
    | with_reducible apply Keeps.iteSnd
    | intro _
    | with_reducible assumption
    | ((with_reducible apply Keeps.step (State.setReg_keeps ..)); exact rfl)
    | ((with_reducible apply Keeps.step (deriveBases_keeps ..)); exact rfl)
    | ((with_reducible apply Keeps.step (refreshBases_keeps ..)); exact rfl)
    | fail_if_no_progress dsimp only)

theorem execBaseWrite_keeps (side : Fin 2) (sub : Fin 3) (v : BitVec 32) (s : State) : Outcome.Keeps 262152 s (execBaseWrite side sub v s) := by
  have h0 := Keeps.refl 262152 s
  unfold execBaseWrite
  try dsimp only
  repeat' (first
    | with_reducible apply Outcome.Keeps.next
    | intro _
    | with_reducible assumption
    | ((with_reducible apply Keeps.step (actBase_keeps ..)); exact rfl)
    | ((with_reducible apply stored_keeps); exact rfl)
    | fail_if_no_progress dsimp only)

theorem execOuterCycleStart_keeps (t : Instant) (s : State) : Outcome.Keeps 1276628941 s (execOuterCycleStart t s) := by
  have h0 := Keeps.refl 1276628941 s
  unfold execOuterCycleStart
  try dsimp only
  repeat' (first
    | with_reducible apply Outcome.Keeps.next
    | with_reducible apply Outcome.Keeps.ite
    | with_reducible apply Keeps.ite
    | with_reducible apply Keeps.iteFst
    | with_reducible apply Keeps.iteSnd
    | intro _
    | with_reducible assumption
    | ((with_reducible apply Keeps.step (State.advance_keeps ..)); exact rfl)
    | ((with_reducible apply Keeps.step (outerCycle_keeps ..)); exact rfl)
    | fail_if_no_progress dsimp only)

theorem actModeCmd_keeps (v : Nat) (replay : Bool) (s : State) : Keeps 32776 s (actModeCmd v replay s).1 := by
  have h0 := Keeps.refl 32776 s
  unfold actModeCmd
  try dsimp only
  repeat' (first
    | with_reducible apply Keeps.ite
    | with_reducible apply Keeps.iteFst
    | with_reducible apply Keeps.iteSnd
    | intro _
    | with_reducible assumption
    | ((with_reducible apply Keeps.step (queueCommand_keeps ..)); exact rfl)
    | fail_if_no_progress dsimp only)

theorem execModeCmdBasecamp_keeps (s : State) : Outcome.Keeps 32776 s (execModeCmdBasecamp s) := by
  have h0 := Keeps.refl 32776 s
  unfold execModeCmdBasecamp
  try dsimp only
  repeat' (first
    | with_reducible apply Outcome.Keeps.next
    | intro _
    | with_reducible assumption
    | ((with_reducible apply Keeps.step (actModeCmd_keeps ..)); exact rfl)
    | fail_if_no_progress dsimp only)

theorem execModeCmdArmed_keeps (s : State) : Outcome.Keeps 32776 s (execModeCmdArmed s) := by
  have h0 := Keeps.refl 32776 s
  unfold execModeCmdArmed
  try dsimp only
  repeat' (first
    | with_reducible apply Outcome.Keeps.next
    | intro _
    | with_reducible assumption
    | ((with_reducible apply Keeps.step (actModeCmd_keeps ..)); exact rfl)
    | fail_if_no_progress dsimp only)

theorem execModeCmdForm_keeps (s : State) : Outcome.Keeps 32776 s (execModeCmdForm s) := by
  have h0 := Keeps.refl 32776 s
  unfold execModeCmdForm
  try dsimp only
  repeat' (first
    | with_reducible apply Outcome.Keeps.next
    | intro _
    | with_reducible assumption
    | ((with_reducible apply Keeps.step (actModeCmd_keeps ..)); exact rfl)
    | fail_if_no_progress dsimp only)

theorem execModeCmdStart_keeps (s : State) : Outcome.Keeps 32776 s (execModeCmdStart s) := by
  have h0 := Keeps.refl 32776 s
  unfold execModeCmdStart
  try dsimp only
  repeat' (first
    | with_reducible apply Outcome.Keeps.next
    | intro _
    | with_reducible assumption
    | ((with_reducible apply Keeps.step (actModeCmd_keeps ..)); exact rfl)
    | fail_if_no_progress dsimp only)

theorem execModeCmdSync_keeps (s : State) : Outcome.Keeps 32776 s (execModeCmdSync s) := by
  have h0 := Keeps.refl 32776 s
  unfold execModeCmdSync
  try dsimp only
  repeat' (first
    | with_reducible apply Outcome.Keeps.next
    | intro _
    | with_reducible assumption
    | ((with_reducible apply Keeps.step (actModeCmd_keeps ..)); exact rfl)
    | fail_if_no_progress dsimp only)

theorem execArmTimeout_keeps (t : Instant) (s : State) : Outcome.Keeps 16905 s (execArmTimeout t s) := by
  have h0 := Keeps.refl 16905 s
  unfold execArmTimeout
  try dsimp only
  repeat' (first
    | with_reducible apply Outcome.Keeps.next
    | with_reducible apply Outcome.Keeps.ite
    | with_reducible apply Keeps.ite
    | with_reducible apply Keeps.iteFst
    | with_reducible apply Keeps.iteSnd
    | intro _
    | with_reducible assumption
    | ((with_reducible apply Keeps.step (State.advance_keeps ..)); exact rfl)
    | ((with_reducible apply Keeps.step (armRefused_keeps ..)); exact rfl)
    | fail_if_no_progress dsimp only)

theorem execDetectorConfirm_keeps (t : Instant) (s : State) : Outcome.Keeps 1207992845 s (execDetectorConfirm t s) := by
  have h0 := Keeps.refl 1207992845 s
  unfold execDetectorConfirm
  try dsimp only
  repeat' (first
    | with_reducible apply Outcome.Keeps.next
    | with_reducible apply Outcome.Keeps.ite
    | with_reducible apply Keeps.ite
    | with_reducible apply Keeps.iteFst
    | with_reducible apply Keeps.iteSnd
    | intro _
    | with_reducible assumption
    | ((with_reducible apply Keeps.step (State.advance_keeps ..)); exact rfl)
    | ((with_reducible apply Keeps.step (innerSense_keeps ..)); exact rfl)
    | ((with_reducible apply Keeps.step (limitEntry_keeps ..)); exact rfl)
    | fail_if_no_progress dsimp only)

theorem execLimitRecovery_keeps (t : Instant) (s : State) : Outcome.Keeps 33293 s (execLimitRecovery t s) := by
  have h0 := Keeps.refl 33293 s
  unfold execLimitRecovery
  try dsimp only
  repeat' (first
    | with_reducible apply Outcome.Keeps.next
    | with_reducible apply Outcome.Keeps.ite
    | with_reducible apply Keeps.ite
    | with_reducible apply Keeps.iteFst
    | with_reducible apply Keeps.iteSnd
    | intro _
    | with_reducible assumption
    | ((with_reducible apply Keeps.step (State.advance_keeps ..)); exact rfl)
    | ((with_reducible apply Keeps.step (leaveLimit_keeps ..)); exact rfl)
    | fail_if_no_progress dsimp only)

theorem limitExit_keeps (cause : Nat) (due : State → Bool) (t : Instant) (s : State) : Keeps 380877 s (limitExit cause due t s) := by
  have h0 := Keeps.refl 380877 s
  unfold limitExit
  try dsimp only
  repeat' (first
    | with_reducible apply Keeps.ite
    | with_reducible apply Keeps.iteFst
    | with_reducible apply Keeps.iteSnd
    | intro _
    | with_reducible assumption
    | ((with_reducible apply Keeps.step (State.advance_keeps ..)); exact rfl)
    | ((with_reducible apply Keeps.step (enterBasecamp_keeps ..)); exact rfl)
    | fail_if_no_progress dsimp only)

theorem execOvTripTimeout_keeps (t : Instant) (s : State) : Outcome.Keeps 380877 s (execOvTripTimeout t s) := by
  have h0 := Keeps.refl 380877 s
  unfold execOvTripTimeout
  try dsimp only
  repeat' (first
    | with_reducible apply Outcome.Keeps.next
    | intro _
    | with_reducible assumption
    | ((with_reducible apply Keeps.step (limitExit_keeps ..)); exact rfl)
    | fail_if_no_progress dsimp only)

theorem execLimitMaxTimeout_keeps (t : Instant) (s : State) : Outcome.Keeps 380877 s (execLimitMaxTimeout t s) := by
  have h0 := Keeps.refl 380877 s
  unfold execLimitMaxTimeout
  try dsimp only
  repeat' (first
    | with_reducible apply Outcome.Keeps.next
    | intro _
    | with_reducible assumption
    | ((with_reducible apply Keeps.step (limitExit_keeps ..)); exact rfl)
    | fail_if_no_progress dsimp only)

theorem execHoldoverTimeout_keeps (t : Instant) (s : State) : Outcome.Keeps 380877 s (execHoldoverTimeout t s) := by
  have h0 := Keeps.refl 380877 s
  unfold execHoldoverTimeout
  try dsimp only
  repeat' (first
    | with_reducible apply Outcome.Keeps.next
    | intro _
    | with_reducible assumption
    | ((with_reducible apply Keeps.step (limitExit_keeps ..)); exact rfl)
    | fail_if_no_progress dsimp only)

theorem execPjFollowEnd_keeps (t : Instant) (s : State) : Outcome.Keeps 9 s (execPjFollowEnd t s) := by
  have h0 := Keeps.refl 9 s
  unfold execPjFollowEnd
  try dsimp only
  repeat' (first
    | with_reducible apply Outcome.Keeps.next
    | with_reducible apply Outcome.Keeps.ite
    | with_reducible apply Keeps.ite
    | with_reducible apply Keeps.iteFst
    | with_reducible apply Keeps.iteSnd
    | intro _
    | with_reducible assumption
    | ((with_reducible apply Keeps.step (State.advance_keeps ..)); exact rfl)
    | ((with_reducible apply Keeps.step (State.setMs_keeps ..)); exact rfl)
    | fail_if_no_progress dsimp only)

theorem execKviReturnEnd_keeps (t : Instant) (s : State) : Outcome.Keeps 32777 s (execKviReturnEnd t s) := by
  have h0 := Keeps.refl 32777 s
  unfold execKviReturnEnd
  try dsimp only
  repeat' (first
    | with_reducible apply Outcome.Keeps.next
    | with_reducible apply Outcome.Keeps.ite
    | with_reducible apply Keeps.ite
    | with_reducible apply Keeps.iteFst
    | with_reducible apply Keeps.iteSnd
    | intro _
    | with_reducible assumption
    | ((with_reducible apply Keeps.step (State.advance_keeps ..)); exact rfl)
    | ((with_reducible apply Keeps.step (State.setLaw_keeps ..)); exact rfl)
    | ((with_reducible apply Keeps.step (State.setMs_keeps ..)); exact rfl)
    | fail_if_no_progress dsimp only)

theorem execSoftStopComplete_keeps (t : Instant) (s : State) : Outcome.Keeps 99053 s (execSoftStopComplete t s) := by
  have h0 := Keeps.refl 99053 s
  unfold execSoftStopComplete
  try dsimp only
  repeat' (first
    | with_reducible apply Outcome.Keeps.next
    | with_reducible apply Outcome.Keeps.ite
    | with_reducible apply Keeps.ite
    | with_reducible apply Keeps.iteFst
    | with_reducible apply Keeps.iteSnd
    | intro _
    | with_reducible assumption
    | ((with_reducible apply Keeps.step (State.advance_keeps ..)); exact rfl)
    | ((with_reducible apply Keeps.step (softStopWrite_keeps ..)); exact rfl)
    | fail_if_no_progress dsimp only)

theorem execDcLinkTrip_keeps (t : Instant) (s : State) : Outcome.Keeps 380877 s (execDcLinkTrip t s) := by
  have h0 := Keeps.refl 380877 s
  unfold execDcLinkTrip
  try dsimp only
  repeat' (first
    | with_reducible apply Outcome.Keeps.next
    | with_reducible apply Outcome.Keeps.ite
    | with_reducible apply Keeps.ite
    | with_reducible apply Keeps.iteFst
    | with_reducible apply Keeps.iteSnd
    | intro _
    | with_reducible assumption
    | ((with_reducible apply Keeps.step (State.advance_keeps ..)); exact rfl)
    | ((with_reducible apply Keeps.step (enterBasecamp_keeps ..)); exact rfl)
    | fail_if_no_progress dsimp only)

theorem execBrkStateAged_keeps (t : Instant) (s : State) : Outcome.Keeps 9 s (execBrkStateAged t s) := by
  have h0 := Keeps.refl 9 s
  unfold execBrkStateAged
  try dsimp only
  repeat' (first
    | with_reducible apply Outcome.Keeps.next
    | with_reducible apply Outcome.Keeps.ite
    | with_reducible apply Keeps.ite
    | with_reducible apply Keeps.iteFst
    | with_reducible apply Keeps.iteSnd
    | intro _
    | with_reducible assumption
    | ((with_reducible apply Keeps.step (State.advance_keeps ..)); exact rfl)
    | ((with_reducible apply Keeps.step (State.setReg_keeps ..)); exact rfl)
    | fail_if_no_progress dsimp only)

theorem execMissRunLimit_keeps (t : Instant) (s : State) : Outcome.Keeps 1207992845 s (execMissRunLimit t s) := by
  have h0 := Keeps.refl 1207992845 s
  unfold execMissRunLimit
  try dsimp only
  repeat' (first
    | with_reducible apply Outcome.Keeps.next
    | with_reducible apply Outcome.Keeps.ite
    | with_reducible apply Keeps.ite
    | with_reducible apply Keeps.iteFst
    | with_reducible apply Keeps.iteSnd
    | intro _
    | with_reducible assumption
    | ((with_reducible apply Keeps.step (State.advance_keeps ..)); exact rfl)
    | ((with_reducible apply Keeps.step (enterHold_keeps ..)); exact rfl)
    | fail_if_no_progress dsimp only)

theorem execHoldMissesLimit_keeps (t : Instant) (s : State) : Outcome.Keeps 380877 s (execHoldMissesLimit t s) := by
  have h0 := Keeps.refl 380877 s
  unfold execHoldMissesLimit
  try dsimp only
  repeat' (first
    | with_reducible apply Outcome.Keeps.next
    | with_reducible apply Outcome.Keeps.ite
    | with_reducible apply Keeps.ite
    | with_reducible apply Keeps.iteFst
    | with_reducible apply Keeps.iteSnd
    | intro _
    | with_reducible assumption
    | ((with_reducible apply Keeps.step (State.advance_keeps ..)); exact rfl)
    | ((with_reducible apply Keeps.step (enterBasecamp_keeps ..)); exact rfl)
    | fail_if_no_progress dsimp only)

theorem execHoldTimeExpiry_keeps (t : Instant) (s : State) : Outcome.Keeps 380877 s (execHoldTimeExpiry t s) := by
  have h0 := Keeps.refl 380877 s
  unfold execHoldTimeExpiry
  try dsimp only
  repeat' (first
    | with_reducible apply Outcome.Keeps.next
    | with_reducible apply Outcome.Keeps.ite
    | with_reducible apply Keeps.ite
    | with_reducible apply Keeps.iteFst
    | with_reducible apply Keeps.iteSnd
    | intro _
    | with_reducible assumption
    | ((with_reducible apply Keeps.step (State.advance_keeps ..)); exact rfl)
    | ((with_reducible apply Keeps.step (enterBasecamp_keeps ..)); exact rfl)
    | fail_if_no_progress dsimp only)

theorem execHoldRecover_keeps (t : Instant) (s : State) : Outcome.Keeps 33293 s (execHoldRecover t s) := by
  have h0 := Keeps.refl 33293 s
  unfold execHoldRecover
  try dsimp only
  repeat' (first
    | with_reducible apply Outcome.Keeps.next
    | with_reducible apply Outcome.Keeps.ite
    | with_reducible apply Keeps.ite
    | with_reducible apply Keeps.iteFst
    | with_reducible apply Keeps.iteSnd
    | intro _
    | with_reducible assumption
    | ((with_reducible apply Keeps.step (State.advance_keeps ..)); exact rfl)
    | ((with_reducible apply Keeps.step (leaveHold_keeps ..)); exact rfl)
    | fail_if_no_progress dsimp only)

theorem execEngineRomReload_keeps (e : Fin 8) (t : Instant) (s : State) : Outcome.Keeps 2097233 s (execEngineRomReload e t s) := by
  have h0 := Keeps.refl 2097233 s
  unfold execEngineRomReload
  try dsimp only
  repeat' (first
    | with_reducible apply Outcome.Keeps.next
    | with_reducible apply Outcome.Keeps.ite
    | with_reducible apply Keeps.ite
    | with_reducible apply Keeps.iteFst
    | with_reducible apply Keeps.iteSnd
    | intro _
    | with_reducible assumption
    | ((with_reducible apply Keeps.step (State.advance_keeps ..)); exact rfl)
    | ((with_reducible apply Keeps.step (romLoad_keeps ..)); exact rfl)
    | fail_if_no_progress dsimp only)

theorem execEstimateWindowEnd_keeps (t : Instant) (s : State) : Outcome.Keeps 32781 s (execEstimateWindowEnd t s) := by
  have h0 := Keeps.refl 32781 s
  unfold execEstimateWindowEnd
  try dsimp only
  repeat' (first
    | with_reducible apply Outcome.Keeps.next
    | with_reducible apply Outcome.Keeps.ite
    | with_reducible apply Keeps.ite
    | with_reducible apply Keeps.iteFst
    | with_reducible apply Keeps.iteSnd
    | intro _
    | with_reducible assumption
    | ((with_reducible apply Keeps.step (State.advance_keeps ..)); exact rfl)
    | ((with_reducible apply Keeps.step (windowEnd_keeps ..)); exact rfl)
    | fail_if_no_progress dsimp only)

theorem execEstimateStale_keeps (t : Instant) (s : State) : Outcome.Keeps 9 s (execEstimateStale t s) := by
  have h0 := Keeps.refl 9 s
  unfold execEstimateStale
  try dsimp only
  repeat' (first
    | with_reducible apply Outcome.Keeps.next
    | with_reducible apply Outcome.Keeps.ite
    | with_reducible apply Keeps.ite
    | with_reducible apply Keeps.iteFst
    | with_reducible apply Keeps.iteSnd
    | intro _
    | with_reducible assumption
    | ((with_reducible apply Keeps.step (State.advance_keeps ..)); exact rfl)
    | ((with_reducible apply Keeps.step (State.setLs_keeps ..)); exact rfl)
    | ((with_reducible apply Keeps.step (State.setReg_keeps ..)); exact rfl)
    | fail_if_no_progress dsimp only)

theorem execSettleComplete_keeps (t : Instant) (s : State) : Outcome.Keeps 65537 s (execSettleComplete t s) := by
  have h0 := Keeps.refl 65537 s
  unfold execSettleComplete
  try dsimp only
  repeat' (first
    | with_reducible apply Outcome.Keeps.next
    | with_reducible apply Outcome.Keeps.ite
    | with_reducible apply Keeps.ite
    | with_reducible apply Keeps.iteFst
    | with_reducible apply Keeps.iteSnd
    | intro _
    | with_reducible assumption
    | ((with_reducible apply Keeps.step (State.advance_keeps ..)); exact rfl)
    | ((with_reducible apply Keeps.step (State.setCad_keeps ..)); exact rfl)
    | fail_if_no_progress dsimp only)

theorem execStartAbort_keeps (t : Instant) (s : State) : Outcome.Keeps 98957 s (execStartAbort t s) := by
  have h0 := Keeps.refl 98957 s
  unfold execStartAbort
  try dsimp only
  repeat' (first
    | with_reducible apply Outcome.Keeps.next
    | with_reducible apply Outcome.Keeps.ite
    | with_reducible apply Keeps.ite
    | with_reducible apply Keeps.iteFst
    | with_reducible apply Keeps.iteSnd
    | intro _
    | with_reducible assumption
    | ((with_reducible apply Keeps.step (State.advance_keeps ..)); exact rfl)
    | ((with_reducible apply Keeps.step (abortTo_keeps ..)); exact rfl)
    | fail_if_no_progress dsimp only)

theorem execSyncHoldExpiry_keeps (t : Instant) (s : State) : Outcome.Keeps 65545 s (execSyncHoldExpiry t s) := by
  have h0 := Keeps.refl 65545 s
  unfold execSyncHoldExpiry
  try dsimp only
  repeat' (first
    | with_reducible apply Outcome.Keeps.next
    | with_reducible apply Outcome.Keeps.ite
    | with_reducible apply Keeps.ite
    | with_reducible apply Keeps.iteFst
    | with_reducible apply Keeps.iteSnd
    | intro _
    | with_reducible assumption
    | ((with_reducible apply Keeps.step (State.advance_keeps ..)); exact rfl)
    | ((with_reducible apply Keeps.step (State.setBs_keeps ..)); exact rfl)
    | ((with_reducible apply Keeps.step (setStage_keeps ..)); exact rfl)
    | fail_if_no_progress dsimp only)

theorem execCloseWinExpiry_keeps (t : Instant) (s : State) : Outcome.Keeps 65545 s (execCloseWinExpiry t s) := by
  have h0 := Keeps.refl 65545 s
  unfold execCloseWinExpiry
  try dsimp only
  repeat' (first
    | with_reducible apply Outcome.Keeps.next
    | with_reducible apply Outcome.Keeps.ite
    | with_reducible apply Keeps.ite
    | with_reducible apply Keeps.iteFst
    | with_reducible apply Keeps.iteSnd
    | intro _
    | with_reducible assumption
    | ((with_reducible apply Keeps.step (State.advance_keeps ..)); exact rfl)
    | ((with_reducible apply Keeps.step (setStage_keeps ..)); exact rfl)
    | fail_if_no_progress dsimp only)

theorem execSyncAbort_keeps (t : Instant) (s : State) : Outcome.Keeps 98957 s (execSyncAbort t s) := by
  have h0 := Keeps.refl 98957 s
  unfold execSyncAbort
  try dsimp only
  repeat' (first
    | with_reducible apply Outcome.Keeps.next
    | with_reducible apply Outcome.Keeps.ite
    | with_reducible apply Keeps.ite
    | with_reducible apply Keeps.iteFst
    | with_reducible apply Keeps.iteSnd
    | intro _
    | with_reducible assumption
    | ((with_reducible apply Keeps.step (State.advance_keeps ..)); exact rfl)
    | ((with_reducible apply Keeps.step (abortTo_keeps ..)); exact rfl)
    | fail_if_no_progress dsimp only)

end Sys2Proof.Machine
end

