-- ==== Sys2Proof/Laws/KeepsPersist.lean ====
section
/-!
SUPPORT. What each function of Machine/Persist.lean keeps, and which parts of the state it leaves alone.
-/

namespace Sys2Proof.Machine

theorem loseRec_keeps (r : RecId) (s : State) : Keeps 1310728 s (loseRec r s) := by
  have h0 := Keeps.refl 1310728 s
  unfold loseRec
  try dsimp only
  repeat' (first
    | with_reducible apply Keeps.ite
    | with_reducible apply Keeps.iteFst
    | with_reducible apply Keeps.iteSnd
    | intro _
    | with_reducible assumption
    | ((with_reducible apply Keeps.step (State.setReg_keeps ..)); exact rfl)
    | split
    | (fail_if_no_progress with_reducible apply Keeps.update) <;> first | ((with_reducible apply Or.inr); with_reducible rfl) | ((with_reducible apply Or.inl); first | exact rfl) | skip
    | fail_if_no_progress dsimp only)

theorem recUe_keeps (s : State) : Keeps 12 s (recUe s) := by
  have h0 := Keeps.refl 12 s
  unfold recUe
  try dsimp only
  repeat' (first
    | intro _
    | with_reducible assumption
    | ((with_reducible apply Keeps.step (State.useFree_keeps ..)); exact rfl)
    | ((with_reducible apply Keeps.step (countUe_keeps ..)); exact rfl)
    | fail_if_no_progress dsimp only)

theorem readRec_keeps (x : RecRead) (s : State) : Keeps 1310732 s (readRec x s) := by
  have h0 := Keeps.refl 1310732 s
  unfold readRec
  try dsimp only
  repeat' (first
    | with_reducible apply Keeps.ite
    | with_reducible apply Keeps.iteFst
    | with_reducible apply Keeps.iteSnd
    | intro _
    | with_reducible assumption
    | ((with_reducible apply Keeps.step (State.setFlag_keeps ..)); exact rfl)
    | ((with_reducible apply Keeps.step (loseRec_keeps ..)); exact rfl)
    | ((with_reducible apply Keeps.step (recUe_keeps ..)); exact rfl)
    | split
    | fail_if_no_progress dsimp only)

theorem closeGap_keeps (s : State) : Keeps 4063276 s (closeGap s) := by
  have h0 := Keeps.refl 4063276 s
  unfold closeGap
  try dsimp only
  repeat' (first
    | with_reducible apply Keeps.ite
    | with_reducible apply Keeps.iteFst
    | with_reducible apply Keeps.iteSnd
    | intro _
    | with_reducible assumption
    | ((with_reducible apply Keeps.step (result_keeps ..)); exact rfl)
    | split
    | (fail_if_no_progress with_reducible apply Keeps.update) <;> first | ((with_reducible apply Or.inr); with_reducible rfl) | ((with_reducible apply Or.inl); first | exact rfl) | skip
    | fail_if_no_progress dsimp only)

theorem readRecs_keeps (l : List RecRead) (s : State) : Keeps 4063276 s (readRecs l s) := by
  have h0 := Keeps.refl 4063276 s
  unfold readRecs
  try dsimp only
  repeat' (first
    | with_reducible apply Keeps.ite
    | with_reducible apply Keeps.iteFst
    | with_reducible apply Keeps.iteSnd
    | intro _
    | with_reducible assumption
    | ((with_reducible apply Keeps.step (closeGap_keeps ..)); exact rfl)
    | ((with_reducible apply Keeps.step (readRec_keeps ..)); exact rfl)
    | with_reducible apply Keeps.forEach
    | fail_if_no_progress dsimp only)

theorem writeSlot_keeps (vals : Tab Nat) (active : Tab Nat) (upTo : Nat) (s : State) : Keeps 262152 s (writeSlot vals active upTo s) := by
  have h0 := Keeps.refl 262152 s
  unfold writeSlot
  try dsimp only
  repeat' (first
    | with_reducible apply Keeps.ite
    | with_reducible apply Keeps.iteFst
    | with_reducible apply Keeps.iteSnd
    | intro _
    | with_reducible assumption
    | ((with_reducible apply Keeps.step (State.setReg_keeps ..)); exact rfl)
    | split
    | (fail_if_no_progress with_reducible apply Keeps.update) <;> first | ((with_reducible apply Or.inr); with_reducible rfl) | ((with_reducible apply Or.inl); first | exact rfl) | skip
    | fail_if_no_progress dsimp only)

theorem compactDone_keeps (s : State) : Keeps 262152 s (compactDone s) := by
  have h0 := Keeps.refl 262152 s
  unfold compactDone
  try dsimp only
  repeat' (first
    | intro _
    | with_reducible assumption
    | ((with_reducible apply Keeps.step (State.setFlag_keeps ..)); exact rfl)
    | ((with_reducible apply Keeps.step (compactStart_keeps ..)); exact rfl)
    | ((with_reducible apply Keeps.step (writeSlot_keeps ..)); exact rfl)
    | split
    | (fail_if_no_progress with_reducible apply Keeps.update) <;> first | ((with_reducible apply Or.inr); with_reducible rfl) | ((with_reducible apply Or.inl); first | exact rfl) | skip
    | fail_if_no_progress dsimp only)

theorem execCompactionComplete_keeps (t : Instant) (s : State) : Outcome.Keeps 262153 s (execCompactionComplete t s) := by
  have h0 := Keeps.refl 262153 s
  unfold execCompactionComplete
  try dsimp only
  repeat' (first
    | with_reducible apply Outcome.Keeps.next
    | with_reducible apply Outcome.Keeps.ite
    | with_reducible apply Keeps.ite
    | with_reducible apply Keeps.iteFst
    | with_reducible apply Keeps.iteSnd
    | intro _
    | with_reducible assumption
    | ((with_reducible apply Keeps.step (State.advance_keeps ..)); exact rfl)
    | ((with_reducible apply Keeps.step (compactDone_keeps ..)); exact rfl)
    | split
    | fail_if_no_progress dsimp only)

theorem periodsStart_keeps (s : State) : Keeps 524288 s (periodsStart s) := by
  have h0 := Keeps.refl 524288 s
  unfold periodsStart
  try dsimp only
  repeat' (first
    | with_reducible apply Keeps.ite
    | with_reducible apply Keeps.iteFst
    | with_reducible apply Keeps.iteSnd
    | intro _
    | with_reducible assumption
    | with_reducible apply Keeps.foldl
    | with_reducible apply Keeps.foldlFst
    | with_reducible apply Keeps.foldlSnd
    | (fail_if_no_progress with_reducible apply Keeps.update) <;> first | ((with_reducible apply Or.inr); with_reducible rfl) | ((with_reducible apply Or.inl); first | exact rfl) | skip
    | fail_if_no_progress dsimp only)

theorem loadConfig_keeps (s : State) : Keeps 1208778760 s (loadConfig s) := by
  have h0 := Keeps.refl 1208778760 s
  unfold loadConfig
  try dsimp only
  repeat' (first
    | intro _
    | with_reducible assumption
    | ((with_reducible apply Keeps.step (State.note_keeps ..)); exact rfl)
    | ((with_reducible apply Keeps.step (State.setFlag_keeps ..)); exact rfl)
    | ((with_reducible apply Keeps.step (State.setLaw_keeps ..)); exact rfl)
    | ((with_reducible apply Keeps.step (State.setReg_keeps ..)); exact rfl)
    | ((with_reducible apply Keeps.step (periodsStart_keeps ..)); exact rfl)
    | ((with_reducible apply Keeps.step (refreshStaged_keeps ..)); exact rfl)
    | with_reducible apply Keeps.foldl
    | with_reducible apply Keeps.foldlFst
    | with_reducible apply Keeps.foldlSnd
    | split
    | fail_if_no_progress dsimp only)

theorem State.setPatch_keeps (s : State) (n : Nat) (p : PatchSlot) : Keeps 262144 s (State.setPatch s n p) := by
  have h0 := Keeps.refl 262144 s
  unfold State.setPatch
  try dsimp only
  repeat' (first
    | with_reducible apply Keeps.ite
    | with_reducible apply Keeps.iteFst
    | with_reducible apply Keeps.iteSnd
    | intro _
    | with_reducible assumption
    | (fail_if_no_progress with_reducible apply Keeps.update) <;> first | ((with_reducible apply Or.inr); with_reducible rfl) | ((with_reducible apply Or.inl); first | exact rfl) | skip
    | fail_if_no_progress dsimp only)

theorem actPatchWrite_keeps (s : State) : Keeps 262144 s (actPatchWrite s).1 := by
  have h0 := Keeps.refl 262144 s
  unfold actPatchWrite
  try dsimp only
  repeat' (first
    | with_reducible apply Keeps.ite
    | with_reducible apply Keeps.iteFst
    | with_reducible apply Keeps.iteSnd
    | intro _
    | with_reducible assumption
    | ((with_reducible apply Keeps.step (State.setPatch_keeps ..)); exact rfl)
    | fail_if_no_progress dsimp only)

theorem actPatchCommit_keeps (s : State) : Keeps 262152 s (actPatchCommit s).1 := by
  have h0 := Keeps.refl 262152 s
  unfold actPatchCommit
  try dsimp only
  repeat' (first
    | with_reducible apply Keeps.ite
    | with_reducible apply Keeps.iteFst
    | with_reducible apply Keeps.iteSnd
    | intro _
    | with_reducible assumption
    | ((with_reducible apply Keeps.step (State.setPatch_keeps ..)); exact rfl)
    | ((with_reducible apply Keeps.step (State.setReg_keeps ..)); exact rfl)
    | (fail_if_no_progress with_reducible apply Keeps.update) <;> first | ((with_reducible apply Or.inr); with_reducible rfl) | ((with_reducible apply Or.inl); first | exact rfl) | skip
    | fail_if_no_progress dsimp only)

theorem actPatchSelect_keeps (n : Nat) (s : State) : Keeps 262144 s (actPatchSelect n s).1 := by
  have h0 := Keeps.refl 262144 s
  unfold actPatchSelect
  try dsimp only
  repeat' (first
    | intro _
    | with_reducible assumption
    | ((with_reducible apply Keeps.step (State.setPatch_keeps ..)); exact rfl)
    | fail_if_no_progress dsimp only)

theorem actPatchRestart_keeps (s : State) : Keeps 536870912 s (actPatchRestart s).1 := by
  have h0 := Keeps.refl 536870912 s
  unfold actPatchRestart
  try dsimp only
  repeat' (first
    | with_reducible apply Keeps.ite
    | with_reducible apply Keeps.iteFst
    | with_reducible apply Keeps.iteSnd
    | intro _
    | with_reducible assumption
    | (fail_if_no_progress with_reducible apply Keeps.update) <;> first | ((with_reducible apply Or.inr); with_reducible rfl) | ((with_reducible apply Or.inl); first | exact rfl) | skip
    | fail_if_no_progress dsimp only)

theorem actPatchConfirm_keeps (s : State) : Keeps 537133056 s (actPatchConfirm s).1 := by
  have h0 := Keeps.refl 537133056 s
  unfold actPatchConfirm
  try dsimp only
  repeat' (first
    | with_reducible apply Keeps.ite
    | with_reducible apply Keeps.iteFst
    | with_reducible apply Keeps.iteSnd
    | intro _
    | with_reducible assumption
    | ((with_reducible apply Keeps.step (State.setPatch_keeps ..)); exact rfl)
    | split
    | (fail_if_no_progress with_reducible apply Keeps.update) <;> first | ((with_reducible apply Or.inr); with_reducible rfl) | ((with_reducible apply Or.inl); first | exact rfl) | skip
    | fail_if_no_progress dsimp only)

theorem bootPatch_keeps (noPatch : Bool) (s : State) : Keeps 540934188 s (bootPatch noPatch s) := by
  have h0 := Keeps.refl 540934188 s
  unfold bootPatch
  try dsimp only
  repeat' (first
    | with_reducible apply Keeps.ite
    | with_reducible apply Keeps.iteFst
    | with_reducible apply Keeps.iteSnd
    | intro _
    | with_reducible assumption
    | ((with_reducible apply Keeps.step (State.setPatch_keeps ..)); exact rfl)
    | ((with_reducible apply Keeps.step (State.setReg_keeps ..)); exact rfl)
    | ((with_reducible apply Keeps.step (result_keeps ..)); exact rfl)
    | split
    | (fail_if_no_progress with_reducible apply Keeps.update) <;> first | ((with_reducible apply Or.inr); with_reducible rfl) | ((with_reducible apply Or.inl); first | exact rfl) | skip
    | fail_if_no_progress dsimp only)

theorem execPatchWrite_keeps (s : State) : Outcome.Keeps 262144 s (execPatchWrite s) := by
  have h0 := Keeps.refl 262144 s
  unfold execPatchWrite
  try dsimp only
  repeat' (first
    | with_reducible apply Outcome.Keeps.next
    | intro _
    | with_reducible assumption
    | ((with_reducible apply Keeps.step (actPatchWrite_keeps ..)); exact rfl)
    | fail_if_no_progress dsimp only)

theorem execPatchCommit_keeps (s : State) : Outcome.Keeps 262152 s (execPatchCommit s) := by
  have h0 := Keeps.refl 262152 s
  unfold execPatchCommit
  try dsimp only
  repeat' (first
    | with_reducible apply Outcome.Keeps.next
    | intro _
    | with_reducible assumption
    | ((with_reducible apply Keeps.step (actPatchCommit_keeps ..)); exact rfl)
    | fail_if_no_progress dsimp only)

theorem execPatchSelect_keeps (n : Fin 2) (s : State) : Outcome.Keeps 262144 s (execPatchSelect n s) := by
  have h0 := Keeps.refl 262144 s
  unfold execPatchSelect
  try dsimp only
  repeat' (first
    | with_reducible apply Outcome.Keeps.next
    | intro _
    | with_reducible assumption
    | ((with_reducible apply Keeps.step (actPatchSelect_keeps ..)); exact rfl)
    | fail_if_no_progress dsimp only)

theorem execPatchConfirm_keeps (s : State) : Outcome.Keeps 537133056 s (execPatchConfirm s) := by
  have h0 := Keeps.refl 537133056 s
  unfold execPatchConfirm
  try dsimp only
  repeat' (first
    | with_reducible apply Outcome.Keeps.next
    | intro _
    | with_reducible assumption
    | ((with_reducible apply Keeps.step (actPatchConfirm_keeps ..)); exact rfl)
    | fail_if_no_progress dsimp only)

end Sys2Proof.Machine
end

