-- ==== Sys2Proof/Laws/KeepsNetOps.lean ====
section
/-!
SUPPORT. What each function of Machine/NetOps.lean keeps, and which parts of the state it leaves alone.
-/

namespace Sys2Proof.Machine

theorem State.setNet_keeps (s : State) (n : Net) : Keeps 268435456 s (State.setNet s n) := by
  have h0 := Keeps.refl 268435456 s
  unfold State.setNet
  try dsimp only
  repeat' (first
    | intro _
    | with_reducible assumption
    | (fail_if_no_progress with_reducible apply Keeps.update) <;> first | ((with_reducible apply Or.inr); with_reducible rfl) | ((with_reducible apply Or.inl); first | exact rfl) | skip
    | fail_if_no_progress dsimp only)

theorem State.setCan_keeps (s : State) (k : Nat) (c : Can) : Keeps 268435456 s (State.setCan s k c) := by
  have h0 := Keeps.refl 268435456 s
  unfold State.setCan
  try dsimp only
  repeat' (first
    | intro _
    | with_reducible assumption
    | ((with_reducible apply Keeps.step (State.setNet_keeps ..)); exact rfl)
    | fail_if_no_progress dsimp only)

theorem pdosForget_keeps (k : Nat) (s : State) : Keeps 268435456 s (pdosForget k s) := by
  have h0 := Keeps.refl 268435456 s
  unfold pdosForget
  try dsimp only
  repeat' (first
    | with_reducible apply Keeps.ite
    | with_reducible apply Keeps.iteFst
    | with_reducible apply Keeps.iteSnd
    | intro _
    | with_reducible assumption
    | ((with_reducible apply Keeps.step (State.setNet_keeps ..)); exact rfl)
    | fail_if_no_progress dsimp only)

theorem canStart_keeps (k : Nat) (s : State) : Keeps 1342177288 s (canStart k s) := by
  have h0 := Keeps.refl 1342177288 s
  unfold canStart
  try dsimp only
  repeat' (first
    | with_reducible apply Keeps.ite
    | with_reducible apply Keeps.iteFst
    | with_reducible apply Keeps.iteSnd
    | intro _
    | with_reducible assumption
    | ((with_reducible apply Keeps.step (State.emit_keeps ..)); exact rfl)
    | ((with_reducible apply Keeps.step (State.setCan_keeps ..)); exact rfl)
    | ((with_reducible apply Keeps.step (State.setReg_keeps ..)); exact rfl)
    | ((with_reducible apply Keeps.step (pdosForget_keeps ..)); exact rfl)
    | fail_if_no_progress dsimp only)

theorem ethSend_keeps (p : Nat) (f : Nat → EthHdr → Out) (s : State) : Keeps 1342177280 s (ethSend p f s) := by
  have h0 := Keeps.refl 1342177280 s
  unfold ethSend
  try dsimp only
  repeat' (first
    | with_reducible apply Keeps.ite
    | with_reducible apply Keeps.iteFst
    | with_reducible apply Keeps.iteSnd
    | intro _
    | with_reducible assumption
    | ((with_reducible apply Keeps.step (State.emit_keeps ..)); exact rfl)
    | ((with_reducible apply Keeps.step (State.setNet_keeps ..)); exact rfl)
    | fail_if_no_progress dsimp only)

theorem ethPort_keeps (p : Nat) (s : State) : Keeps 268435456 s (ethPort p s) := by
  have h0 := Keeps.refl 268435456 s
  unfold ethPort
  try dsimp only
  repeat' (first
    | intro _
    | with_reducible assumption
    | ((with_reducible apply Keeps.step (State.setNet_keeps ..)); exact rfl)
    | with_reducible apply Keeps.foldl
    | with_reducible apply Keeps.foldlFst
    | with_reducible apply Keeps.foldlSnd
    | fail_if_no_progress dsimp only)

theorem actEthApply_keeps (mask : Nat) (s : State) : Keeps 268435456 s (actEthApply mask s).1 := by
  have h0 := Keeps.refl 268435456 s
  unfold actEthApply
  try dsimp only
  repeat' (first
    | intro _
    | with_reducible assumption
    | ((with_reducible apply Keeps.step (ethPort_keeps ..)); exact rfl)
    | with_reducible apply Keeps.forEach
    | fail_if_no_progress dsimp only)

theorem redundStart_keeps (s : State) : Keeps 268435464 s (redundStart s) := by
  have h0 := Keeps.refl 268435464 s
  unfold redundStart
  try dsimp only
  repeat' (first
    | intro _
    | with_reducible assumption
    | ((with_reducible apply Keeps.step (State.setNet_keeps ..)); exact rfl)
    | ((with_reducible apply Keeps.step (State.setReg_keeps ..)); exact rfl)
    | with_reducible apply Keeps.forEach
    | fail_if_no_progress dsimp only)

theorem actRedund_keeps (v : Nat) (s : State) : Keeps 268435464 s (actRedund v s).1 := by
  have h0 := Keeps.refl 268435464 s
  unfold actRedund
  try dsimp only
  repeat' (first
    | with_reducible apply Keeps.ite
    | with_reducible apply Keeps.iteFst
    | with_reducible apply Keeps.iteSnd
    | intro _
    | with_reducible assumption
    | ((with_reducible apply Keeps.step (State.setReg_keeps ..)); exact rfl)
    | ((with_reducible apply Keeps.step (redundStart_keeps ..)); exact rfl)
    | fail_if_no_progress dsimp only)

theorem actSwitchover_keeps (s : State) : Keeps 1207959560 s (actSwitchover s).1 := by
  have h0 := Keeps.refl 1207959560 s
  unfold actSwitchover
  try dsimp only
  repeat' (first
    | with_reducible apply Keeps.ite
    | with_reducible apply Keeps.iteFst
    | with_reducible apply Keeps.iteSnd
    | intro _
    | with_reducible assumption
    | ((with_reducible apply Keeps.step (State.setReg_keeps ..)); exact rfl)
    | ((with_reducible apply Keeps.step (belaySend_keeps ..)); exact rfl)
    | fail_if_no_progress dsimp only)

theorem actBatonRenumber_keeps (s : State) : Keeps 134217736 s (actBatonRenumber s).1 := by
  have h0 := Keeps.refl 134217736 s
  unfold actBatonRenumber
  try dsimp only
  repeat' (first
    | with_reducible apply Keeps.ite
    | with_reducible apply Keeps.iteFst
    | with_reducible apply Keeps.iteSnd
    | intro _
    | with_reducible assumption
    | ((with_reducible apply Keeps.step (State.setPair_keeps ..)); exact rfl)
    | ((with_reducible apply Keeps.step (State.setReg_keeps ..)); exact rfl)
    | fail_if_no_progress dsimp only)

theorem execSwitchover_keeps (s : State) : Outcome.Keeps 1207959560 s (execSwitchover s) := by
  have h0 := Keeps.refl 1207959560 s
  unfold execSwitchover
  try dsimp only
  repeat' (first
    | with_reducible apply Outcome.Keeps.next
    | intro _
    | with_reducible assumption
    | ((with_reducible apply Keeps.step (actSwitchover_keeps ..)); exact rfl)
    | fail_if_no_progress dsimp only)

theorem execBatonRenumber_keeps (s : State) : Outcome.Keeps 134217736 s (execBatonRenumber s) := by
  have h0 := Keeps.refl 134217736 s
  unfold execBatonRenumber
  try dsimp only
  repeat' (first
    | with_reducible apply Outcome.Keeps.next
    | intro _
    | with_reducible assumption
    | ((with_reducible apply Keeps.step (actBatonRenumber_keeps ..)); exact rfl)
    | fail_if_no_progress dsimp only)

theorem execEthApply_keeps (mask : BitVec 4) (s : State) : Outcome.Keeps 268435456 s (execEthApply mask s) := by
  have h0 := Keeps.refl 268435456 s
  unfold execEthApply
  try dsimp only
  repeat' (first
    | with_reducible apply Outcome.Keeps.next
    | intro _
    | with_reducible assumption
    | ((with_reducible apply Keeps.step (actEthApply_keeps ..)); exact rfl)
    | fail_if_no_progress dsimp only)

end Sys2Proof.Machine
end

