-- ==== Sys2Proof/Laws/KeepsRecorder.lean ====
section
/-!
SUPPORT. What each function of Machine/Recorder.lean keeps, and which parts of the state it leaves alone.
-/

namespace Sys2Proof.Machine

theorem execRecorderSample_keeps (n : Fin 4) (t : Instant) (s : State) : Outcome.Keeps 1088421917 s (execRecorderSample n t s) := by
  have h0 := Keeps.refl 1088421917 s
  unfold execRecorderSample
  try dsimp only
  repeat' (first
    | with_reducible apply Outcome.Keeps.next
    | with_reducible apply Outcome.Keeps.ite
    | with_reducible apply Keeps.ite
    | with_reducible apply Keeps.iteFst
    | with_reducible apply Keeps.iteSnd
    | intro _
    | with_reducible assumption
    | ((with_reducible apply Keeps.step (State.advance_keeps ..)); exact rfl)
    | ((with_reducible apply Keeps.step (rcSample_keeps ..)); exact rfl)
    | split
    | fail_if_no_progress dsimp only)

theorem actRcSwtrig_keeps (n : Nat) (s : State) : Keeps 1086324748 s (actRcSwtrig n s).1 := by
  have h0 := Keeps.refl 1086324748 s
  unfold actRcSwtrig
  try dsimp only
  repeat' (first
    | intro _
    | with_reducible assumption
    | ((with_reducible apply Keeps.step (ownTrigger_keeps ..)); exact rfl)
    | fail_if_no_progress dsimp only)

theorem execRcSwtrig_keeps (n : Fin 4) (s : State) : Outcome.Keeps 1086324748 s (execRcSwtrig n s) := by
  have h0 := Keeps.refl 1086324748 s
  unfold execRcSwtrig
  try dsimp only
  repeat' (first
    | with_reducible apply Outcome.Keeps.next
    | intro _
    | with_reducible assumption
    | ((with_reducible apply Keeps.step (actRcSwtrig_keeps ..)); exact rfl)
    | fail_if_no_progress dsimp only)

theorem actRelease_keeps (n : Nat) (mask : Nat) (s : State) : Keeps 6291484 s (actRelease n mask s).1 := by
  have h0 := Keeps.refl 6291484 s
  unfold actRelease
  try dsimp only
  repeat' (first
    | with_reducible apply Keeps.ite
    | with_reducible apply Keeps.iteFst
    | with_reducible apply Keeps.iteSnd
    | intro _
    | with_reducible assumption
    | ((with_reducible apply Keeps.step (State.physWrite_keeps ..)); exact rfl)
    | ((with_reducible apply Keeps.step (State.setRc_keeps ..)); exact rfl)
    | ((with_reducible apply Keeps.step (rearm_keeps ..)); exact rfl)
    | ((with_reducible apply Keeps.step (setSlot_keeps ..)); exact rfl)
    | with_reducible apply Keeps.forEach
    | fail_if_no_progress dsimp only)

theorem execRcRelease_keeps (n : Fin 4) (mask : BitVec 16) (s : State) : Outcome.Keeps 6291484 s (execRcRelease n mask s) := by
  have h0 := Keeps.refl 6291484 s
  unfold execRcRelease
  try dsimp only
  repeat' (first
    | with_reducible apply Outcome.Keeps.next
    | intro _
    | with_reducible assumption
    | ((with_reducible apply Keeps.step (actRelease_keeps ..)); exact rfl)
    | fail_if_no_progress dsimp only)

theorem actArm_keeps (n : Nat) (s : State) : Keeps 4194312 s (actArm n s).1 := by
  have h0 := Keeps.refl 4194312 s
  unfold actArm
  try dsimp only
  repeat' (first
    | with_reducible apply Keeps.ite
    | with_reducible apply Keeps.iteFst
    | with_reducible apply Keeps.iteSnd
    | intro _
    | with_reducible assumption
    | ((with_reducible apply Keeps.step (rearm_keeps ..)); exact rfl)
    | fail_if_no_progress dsimp only)

theorem execRcArm_keeps (n : Fin 4) (s : State) : Outcome.Keeps 4194312 s (execRcArm n s) := by
  have h0 := Keeps.refl 4194312 s
  unfold execRcArm
  try dsimp only
  repeat' (first
    | with_reducible apply Outcome.Keeps.next
    | intro _
    | with_reducible assumption
    | ((with_reducible apply Keeps.step (actArm_keeps ..)); exact rfl)
    | fail_if_no_progress dsimp only)

theorem actRcCfg_keeps (n : Nat) (v : Nat) (s : State) : Keeps 6291484 s (actRcCfg n v s).1 := by
  have h0 := Keeps.refl 6291484 s
  unfold actRcCfg
  try dsimp only
  repeat' (first
    | with_reducible apply Keeps.ite
    | with_reducible apply Keeps.iteFst
    | with_reducible apply Keeps.iteSnd
    | intro _
    | with_reducible assumption
    | ((with_reducible apply Keeps.step (State.setReg_keeps ..)); exact rfl)
    | ((with_reducible apply Keeps.step (rcEnable_keeps ..)); exact rfl)
    | fail_if_no_progress dsimp only)

theorem execRcEnable_keeps (n : Fin 4) (s : State) : Outcome.Keeps 6553628 s (execRcEnable n s) := by
  have h0 := Keeps.refl 6553628 s
  unfold execRcEnable
  try dsimp only
  repeat' (first
    | with_reducible apply Outcome.Keeps.next
    | with_reducible apply Outcome.Keeps.ite
    | with_reducible apply Keeps.ite
    | with_reducible apply Keeps.iteFst
    | with_reducible apply Keeps.iteSnd
    | intro _
    | with_reducible assumption
    | ((with_reducible apply Keeps.step (actRcCfg_keeps ..)); exact rfl)
    | ((with_reducible apply Keeps.step (storeRws_keeps ..)); exact rfl)
    | fail_if_no_progress dsimp only)

theorem execRcDisable_keeps (n : Fin 4) (s : State) : Outcome.Keeps 6553628 s (execRcDisable n s) := by
  have h0 := Keeps.refl 6553628 s
  unfold execRcDisable
  try dsimp only
  repeat' (first
    | with_reducible apply Outcome.Keeps.next
    | with_reducible apply Outcome.Keeps.ite
    | with_reducible apply Keeps.ite
    | with_reducible apply Keeps.iteFst
    | with_reducible apply Keeps.iteSnd
    | intro _
    | with_reducible assumption
    | ((with_reducible apply Keeps.step (actRcCfg_keeps ..)); exact rfl)
    | ((with_reducible apply Keeps.step (storeRws_keeps ..)); exact rfl)
    | fail_if_no_progress dsimp only)

theorem actIxRead_keeps (s : State) : Keeps 2097164 s (actIxRead s).1 := by
  have h0 := Keeps.refl 2097164 s
  unfold actIxRead
  try dsimp only
  repeat' (first
    | with_reducible apply Keeps.ite
    | with_reducible apply Keeps.iteFst
    | with_reducible apply Keeps.iteSnd
    | intro _
    | with_reducible assumption
    | ((with_reducible apply Keeps.step (ixReadAt_keeps ..)); exact rfl)
    | ((with_reducible apply Keeps.step (memWait_keeps ..)); exact rfl)
    | fail_if_no_progress dsimp only)

theorem execIxRead_keeps (s : State) : Outcome.Keeps 2097164 s (execIxRead s) := by
  have h0 := Keeps.refl 2097164 s
  unfold execIxRead
  try dsimp only
  repeat' (first
    | with_reducible apply Outcome.Keeps.next
    | intro _
    | with_reducible assumption
    | ((with_reducible apply Keeps.step (actIxRead_keeps ..)); exact rfl)
    | fail_if_no_progress dsimp only)

theorem actRdRead_keeps (s : State) : Keeps 2097164 s (actRdRead s).1 := by
  have h0 := Keeps.refl 2097164 s
  unfold actRdRead
  try dsimp only
  repeat' (first
    | with_reducible apply Keeps.ite
    | with_reducible apply Keeps.iteFst
    | with_reducible apply Keeps.iteSnd
    | intro _
    | with_reducible assumption
    | ((with_reducible apply Keeps.step (State.setReg_keeps ..)); exact rfl)
    | ((with_reducible apply Keeps.step (memWait_keeps ..)); exact rfl)
    | ((with_reducible apply Keeps.step (rdReadAt_keeps ..)); exact rfl)
    | fail_if_no_progress dsimp only)

theorem execRdRead_keeps (s : State) : Outcome.Keeps 2097164 s (execRdRead s) := by
  have h0 := Keeps.refl 2097164 s
  unfold execRdRead
  try dsimp only
  repeat' (first
    | with_reducible apply Outcome.Keeps.next
    | intro _
    | with_reducible assumption
    | ((with_reducible apply Keeps.step (actRdRead_keeps ..)); exact rfl)
    | fail_if_no_progress dsimp only)

theorem execTrgPulseReceived_keeps (l : Fin 4) (cap : Nat) (width : Nat) (s : State) : Outcome.Keeps 1086324749 s (execTrgPulseReceived l cap width s) := by
  have h0 := Keeps.refl 1086324749 s
  unfold execTrgPulseReceived
  try dsimp only
  repeat' (first
    | with_reducible apply Outcome.Keeps.next
    | with_reducible apply Outcome.Keeps.ite
    | with_reducible apply Keeps.ite
    | with_reducible apply Keeps.iteFst
    | with_reducible apply Keeps.iteSnd
    | intro _
    | with_reducible assumption
    | ((with_reducible apply Keeps.step (State.advance_keeps ..)); exact rfl)
    | ((with_reducible apply Keeps.step (State.bump_keeps ..)); exact rfl)
    | ((with_reducible apply Keeps.step (drivePulse_keeps ..)); exact rfl)
    | ((with_reducible apply Keeps.step (rcTrigger_keeps ..)); exact rfl)
    | with_reducible apply Keeps.forEach
    | fail_if_no_progress dsimp only)

theorem execTrgLineStuck_keeps (l : Fin 4) (t : Instant) (s : State) : Outcome.Keeps 9 s (execTrgLineStuck l t s) := by
  have h0 := Keeps.refl 9 s
  unfold execTrgLineStuck
  try dsimp only
  repeat' (first
    | with_reducible apply Outcome.Keeps.next
    | with_reducible apply Outcome.Keeps.ite
    | with_reducible apply Keeps.ite
    | with_reducible apply Keeps.iteFst
    | with_reducible apply Keeps.iteSnd
    | intro _
    | with_reducible assumption
    | ((with_reducible apply Keeps.step (State.advance_keeps ..)); exact rfl)
    | ((with_reducible apply Keeps.step (State.setFld_keeps ..)); exact rfl)
    | fail_if_no_progress dsimp only)

theorem execTrgLineUnstuck_keeps (l : Fin 4) (t : Instant) (s : State) : Outcome.Keeps 9 s (execTrgLineUnstuck l t s) := by
  have h0 := Keeps.refl 9 s
  unfold execTrgLineUnstuck
  try dsimp only
  repeat' (first
    | with_reducible apply Outcome.Keeps.next
    | intro _
    | with_reducible assumption
    | ((with_reducible apply Keeps.step (State.advance_keeps ..)); exact rfl)
    | ((with_reducible apply Keeps.step (State.setFld_keeps ..)); exact rfl)
    | fail_if_no_progress dsimp only)

theorem actTbCal_keeps (mask : Nat) (s : State) : Keeps 1082130440 s (actTbCal mask s).1 := by
  have h0 := Keeps.refl 1082130440 s
  unfold actTbCal
  try dsimp only
  repeat' (first
    | with_reducible apply Keeps.ite
    | with_reducible apply Keeps.iteFst
    | with_reducible apply Keeps.iteSnd
    | intro _
    | with_reducible assumption
    | ((with_reducible apply Keeps.step (State.setFlag_keeps ..)); exact rfl)
    | ((with_reducible apply Keeps.step (State.setReg_keeps ..)); exact rfl)
    | ((with_reducible apply Keeps.step (calNextLine_keeps ..)); exact rfl)
    | fail_if_no_progress dsimp only)

theorem execTbCal_keeps (mask : BitVec 4) (s : State) : Outcome.Keeps 1082130440 s (execTbCal mask s) := by
  have h0 := Keeps.refl 1082130440 s
  unfold execTbCal
  try dsimp only
  repeat' (first
    | with_reducible apply Outcome.Keeps.next
    | intro _
    | with_reducible assumption
    | ((with_reducible apply Keeps.step (actTbCal_keeps ..)); exact rfl)
    | fail_if_no_progress dsimp only)

theorem execTbCalEcho_keeps (cap : Nat) (s : State) : Outcome.Keeps 1082392589 s (execTbCalEcho cap s) := by
  have h0 := Keeps.refl 1082392589 s
  unfold execTbCalEcho
  try dsimp only
  repeat' (first
    | with_reducible apply Outcome.Keeps.next
    | with_reducible apply Outcome.Keeps.ite
    | with_reducible apply Keeps.ite
    | with_reducible apply Keeps.iteFst
    | with_reducible apply Keeps.iteSnd
    | intro _
    | with_reducible assumption
    | ((with_reducible apply Keeps.step (State.advance_keeps ..)); exact rfl)
    | ((with_reducible apply Keeps.step (calRound_keeps ..)); exact rfl)
    | split
    | fail_if_no_progress dsimp only)

theorem execTbCalRoundTimeout_keeps (t : Instant) (s : State) : Outcome.Keeps 1082392589 s (execTbCalRoundTimeout t s) := by
  have h0 := Keeps.refl 1082392589 s
  unfold execTbCalRoundTimeout
  try dsimp only
  repeat' (first
    | with_reducible apply Outcome.Keeps.next
    | with_reducible apply Outcome.Keeps.ite
    | with_reducible apply Keeps.ite
    | with_reducible apply Keeps.iteFst
    | with_reducible apply Keeps.iteSnd
    | intro _
    | with_reducible assumption
    | ((with_reducible apply Keeps.step (State.advance_keeps ..)); exact rfl)
    | ((with_reducible apply Keeps.step (calRound_keeps ..)); exact rfl)
    | split
    | fail_if_no_progress dsimp only)

theorem execTrgclkRisingEdge_keeps (t : Instant) (s : State) : Outcome.Keeps 8388621 s (execTrgclkRisingEdge t s) := by
  have h0 := Keeps.refl 8388621 s
  unfold execTrgclkRisingEdge
  try dsimp only
  repeat' (first
    | with_reducible apply Outcome.Keeps.next
    | with_reducible apply Outcome.Keeps.ite
    | with_reducible apply Keeps.ite
    | with_reducible apply Keeps.iteFst
    | with_reducible apply Keeps.iteSnd
    | intro _
    | with_reducible assumption
    | ((with_reducible apply Keeps.step (State.advance_keeps ..)); exact rfl)
    | ((with_reducible apply Keeps.step (State.setFlag_keeps ..)); exact rfl)
    | ((with_reducible apply Keeps.step (State.setReg_keeps ..)); exact rfl)
    | ((with_reducible apply Keeps.step (State.useFree_keeps ..)); exact rfl)
    | split
    | (fail_if_no_progress with_reducible apply Keeps.update) <;> first | ((with_reducible apply Or.inr); with_reducible rfl) | ((with_reducible apply Or.inl); first | exact rfl) | skip
    | fail_if_no_progress dsimp only)

end Sys2Proof.Machine
end

