-- ==== Sys2Proof/Laws/KeepsEngAdmin.lean ====
section
/-!
SUPPORT. What each function of Machine/EngAdmin.lean keeps, and which parts of the state it leaves alone.
-/

namespace Sys2Proof.Machine

theorem actEngineLoad_keeps (e : Nat) (s : State) : Keeps 72 s (actEngineLoad e s).1 := by
  have h0 := Keeps.refl 72 s
  unfold actEngineLoad
  try dsimp only
  repeat' (first
    | with_reducible apply Keeps.ite
    | with_reducible apply Keeps.iteFst
    | with_reducible apply Keeps.iteSnd
    | intro _
    | with_reducible assumption
    | ((with_reducible apply Keeps.step (State.setEngine_keeps ..)); exact rfl)
    | ((with_reducible apply Keeps.step (State.setReg_keeps ..)); exact rfl)
    | fail_if_no_progress dsimp only)

theorem execEngineLoad_keeps (e : Fin 16) (s : State) : Outcome.Keeps 72 s (execEngineLoad e s) := by
  have h0 := Keeps.refl 72 s
  unfold execEngineLoad
  try dsimp only
  repeat' (first
    | with_reducible apply Outcome.Keeps.next
    | intro _
    | with_reducible assumption
    | ((with_reducible apply Keeps.step (actEngineLoad_keeps ..)); exact rfl)
    | fail_if_no_progress dsimp only)

theorem imageRead_keeps (e : Nat) (s : State) : Keeps 2097244 s (imageRead e s) := by
  have h0 := Keeps.refl 2097244 s
  unfold imageRead
  try dsimp only
  repeat' (first
    | with_reducible apply Keeps.ite
    | with_reducible apply Keeps.iteFst
    | with_reducible apply Keeps.iteSnd
    | intro _
    | with_reducible assumption
    | ((with_reducible apply Keeps.step (State.mramCheck_keeps ..)); exact rfl)
    | ((with_reducible apply Keeps.step (State.setEngine_keeps ..)); exact rfl)
    | ((with_reducible apply Keeps.step (State.setReg_keeps ..)); exact rfl)
    | ((with_reducible apply Keeps.step (imageLoad_keeps ..)); exact rfl)
    | fail_if_no_progress dsimp only)

theorem execLoadComplete_keeps (e : Fin 16) (t : Instant) (s : State) : Outcome.Keeps 2097245 s (execLoadComplete e t s) := by
  have h0 := Keeps.refl 2097245 s
  unfold execLoadComplete
  try dsimp only
  repeat' (first
    | with_reducible apply Outcome.Keeps.next
    | with_reducible apply Outcome.Keeps.ite
    | with_reducible apply Keeps.ite
    | with_reducible apply Keeps.iteFst
    | with_reducible apply Keeps.iteSnd
    | intro _
    | with_reducible assumption
    | ((with_reducible apply Keeps.step (State.advance_keeps ..)); exact rfl)
    | ((with_reducible apply Keeps.step (imageRead_keeps ..)); exact rfl)
    | fail_if_no_progress dsimp only)

theorem actEngineEnable_keeps (e : Nat) (s : State) : Keeps 72 s (actEngineEnable e s).1 := by
  have h0 := Keeps.refl 72 s
  unfold actEngineEnable
  try dsimp only
  repeat' (first
    | with_reducible apply Keeps.ite
    | with_reducible apply Keeps.iteFst
    | with_reducible apply Keeps.iteSnd
    | intro _
    | with_reducible assumption
    | ((with_reducible apply Keeps.step (State.setEngine_keeps ..)); exact rfl)
    | ((with_reducible apply Keeps.step (engEnabled_keeps ..)); exact rfl)
    | fail_if_no_progress dsimp only)

theorem execEngineEnable_keeps (e : Fin 16) (s : State) : Outcome.Keeps 262216 s (execEngineEnable e s) := by
  have h0 := Keeps.refl 262216 s
  unfold execEngineEnable
  try dsimp only
  repeat' (first
    | with_reducible apply Outcome.Keeps.next
    | intro _
    | with_reducible assumption
    | ((with_reducible apply Keeps.step (actEngineEnable_keeps ..)); exact rfl)
    | ((with_reducible apply stored_keeps); exact rfl)
    | fail_if_no_progress dsimp only)

theorem actEngineDisable_keeps (e : Nat) (s : State) : Keeps 204 s (actEngineDisable e s).1 := by
  have h0 := Keeps.refl 204 s
  unfold actEngineDisable
  try dsimp only
  repeat' (first
    | with_reducible apply Keeps.ite
    | with_reducible apply Keeps.iteFst
    | with_reducible apply Keeps.iteSnd
    | intro _
    | with_reducible assumption
    | ((with_reducible apply Keeps.step (State.setEngine_keeps ..)); exact rfl)
    | ((with_reducible apply Keeps.step (State.setReg_keeps ..)); exact rfl)
    | ((with_reducible apply Keeps.step (endPhase_keeps ..)); exact rfl)
    | fail_if_no_progress dsimp only)

theorem execEngineDisable_keeps (e : Fin 16) (s : State) : Outcome.Keeps 262348 s (execEngineDisable e s) := by
  have h0 := Keeps.refl 262348 s
  unfold execEngineDisable
  try dsimp only
  repeat' (first
    | with_reducible apply Outcome.Keeps.next
    | intro _
    | with_reducible assumption
    | ((with_reducible apply Keeps.step (actEngineDisable_keeps ..)); exact rfl)
    | ((with_reducible apply stored_keeps); exact rfl)
    | fail_if_no_progress dsimp only)

theorem execEngineStatusRead_keeps (e : Fin 16) (s : State) : Outcome.Keeps 8 s (execEngineStatusRead e s) := by
  have h0 := Keeps.refl 8 s
  unfold execEngineStatusRead
  try dsimp only
  repeat' (first
    | with_reducible apply Outcome.Keeps.next
    | with_reducible apply Outcome.Keeps.ite
    | with_reducible apply Keeps.ite
    | with_reducible apply Keeps.iteFst
    | with_reducible apply Keeps.iteSnd
    | intro _
    | with_reducible assumption
    | ((with_reducible apply Keeps.step (State.setFlag_keeps ..)); exact rfl)
    | fail_if_no_progress dsimp only)

theorem actEngineClear_keeps (e : Nat) (s : State) : Keeps 72 s (actEngineClear e s).1 := by
  have h0 := Keeps.refl 72 s
  unfold actEngineClear
  try dsimp only
  repeat' (first
    | intro _
    | with_reducible assumption
    | ((with_reducible apply Keeps.step (State.setEngine_keeps ..)); exact rfl)
    | ((with_reducible apply Keeps.step (State.setReg_keeps ..)); exact rfl)
    | fail_if_no_progress dsimp only)

theorem execEngineClear_keeps (e : Fin 16) (s : State) : Outcome.Keeps 72 s (execEngineClear e s) := by
  have h0 := Keeps.refl 72 s
  unfold execEngineClear
  try dsimp only
  repeat' (first
    | with_reducible apply Outcome.Keeps.next
    | intro _
    | with_reducible assumption
    | ((with_reducible apply Keeps.step (actEngineClear_keeps ..)); exact rfl)
    | fail_if_no_progress dsimp only)

theorem actLawBuiltin_keeps (v : Nat) (s : State) : Keeps 3310556 s (actLawBuiltin v s).1 := by
  have h0 := Keeps.refl 3310556 s
  unfold actLawBuiltin
  try dsimp only
  repeat' (first
    | with_reducible apply Keeps.ite
    | with_reducible apply Keeps.iteFst
    | with_reducible apply Keeps.iteSnd
    | intro _
    | with_reducible assumption
    | ((with_reducible apply Keeps.step (lawLeave_keeps ..)); exact rfl)
    | ((with_reducible apply Keeps.step (lawTake_keeps ..)); exact rfl)
    | ((with_reducible apply Keeps.step (refreshBases_keeps ..)); exact rfl)
    | fail_if_no_progress dsimp only)

theorem execLawBuiltinSet_keeps (s : State) : Outcome.Keeps 3572700 s (execLawBuiltinSet s) := by
  have h0 := Keeps.refl 3572700 s
  unfold execLawBuiltinSet
  try dsimp only
  repeat' (first
    | with_reducible apply Outcome.Keeps.next
    | intro _
    | with_reducible assumption
    | ((with_reducible apply Keeps.step (actLawBuiltin_keeps ..)); exact rfl)
    | ((with_reducible apply stored_keeps); exact rfl)
    | fail_if_no_progress dsimp only)

theorem execLawBuiltinClear_keeps (s : State) : Outcome.Keeps 3572700 s (execLawBuiltinClear s) := by
  have h0 := Keeps.refl 3572700 s
  unfold execLawBuiltinClear
  try dsimp only
  repeat' (first
    | with_reducible apply Outcome.Keeps.next
    | intro _
    | with_reducible assumption
    | ((with_reducible apply Keeps.step (actLawBuiltin_keeps ..)); exact rfl)
    | ((with_reducible apply stored_keeps); exact rfl)
    | fail_if_no_progress dsimp only)

theorem actImgWrite_keeps (s : State) : Keeps 262152 s (actImgWrite s).1 := by
  have h0 := Keeps.refl 262152 s
  unfold actImgWrite
  try dsimp only
  repeat' (first
    | with_reducible apply Keeps.ite
    | with_reducible apply Keeps.iteFst
    | with_reducible apply Keeps.iteSnd
    | intro _
    | with_reducible assumption
    | ((with_reducible apply Keeps.step (State.setReg_keeps ..)); exact rfl)
    | with_reducible apply Keeps.foldl
    | with_reducible apply Keeps.foldlFst
    | with_reducible apply Keeps.foldlSnd
    | (fail_if_no_progress with_reducible apply Keeps.update) <;> first | ((with_reducible apply Or.inr); with_reducible rfl) | ((with_reducible apply Or.inl); first | exact rfl) | skip
    | fail_if_no_progress dsimp only)

theorem execImgWrite_keeps (s : State) : Outcome.Keeps 262152 s (execImgWrite s) := by
  have h0 := Keeps.refl 262152 s
  unfold execImgWrite
  try dsimp only
  repeat' (first
    | with_reducible apply Outcome.Keeps.next
    | intro _
    | with_reducible assumption
    | ((with_reducible apply Keeps.step (actImgWrite_keeps ..)); exact rfl)
    | fail_if_no_progress dsimp only)

theorem actImgCommit_keeps (s : State) : Keeps 262152 s (actImgCommit s).1 := by
  have h0 := Keeps.refl 262152 s
  unfold actImgCommit
  try dsimp only
  repeat' (first
    | with_reducible apply Keeps.ite
    | with_reducible apply Keeps.iteFst
    | with_reducible apply Keeps.iteSnd
    | intro _
    | with_reducible assumption
    | ((with_reducible apply Keeps.step (State.setReg_keeps ..)); exact rfl)
    | (fail_if_no_progress with_reducible apply Keeps.update) <;> first | ((with_reducible apply Or.inr); with_reducible rfl) | ((with_reducible apply Or.inl); first | exact rfl) | skip
    | fail_if_no_progress dsimp only)

theorem execImgCommit_keeps (s : State) : Outcome.Keeps 262152 s (execImgCommit s) := by
  have h0 := Keeps.refl 262152 s
  unfold execImgCommit
  try dsimp only
  repeat' (first
    | with_reducible apply Outcome.Keeps.next
    | intro _
    | with_reducible assumption
    | ((with_reducible apply Keeps.step (actImgCommit_keeps ..)); exact rfl)
    | fail_if_no_progress dsimp only)

theorem actMbIn_keeps (m : Nat) (i : Nat) (v : Nat) (s : State) : Keeps 6291516 s (actMbIn m i v s).1 := by
  have h0 := Keeps.refl 6291516 s
  unfold actMbIn
  try dsimp only
  repeat' (first
    | intro _
    | with_reducible assumption
    | ((with_reducible apply Keeps.step (State.setReg_keeps ..)); exact rfl)
    | ((with_reducible apply Keeps.step (fabricWrite_keeps ..)); exact rfl)
    | fail_if_no_progress dsimp only)

theorem execMbInWrite_keeps (m : Fin 16) (i : Fin 6) (v : BitVec 32) (s : State) : Outcome.Keeps 6291516 s (execMbInWrite m i v s) := by
  have h0 := Keeps.refl 6291516 s
  unfold execMbInWrite
  try dsimp only
  repeat' (first
    | with_reducible apply Outcome.Keeps.next
    | intro _
    | with_reducible assumption
    | ((with_reducible apply Keeps.step (actMbIn_keeps ..)); exact rfl)
    | fail_if_no_progress dsimp only)

end Sys2Proof.Machine
end

