-- ==== Sys2Proof/Laws/KeepsSupervision.lean ====
section
/-!
SUPPORT. What each function of Machine/Supervision.lean keeps, and which parts of the state it leaves alone.
-/

namespace Sys2Proof.Machine

theorem pdForget_keeps (d : Nat) (s : State) : Keeps 8 s (pdForget d s) := by
  have h0 := Keeps.refl 8 s
  unfold pdForget
  try dsimp only
  repeat' (first
    | intro _
    | with_reducible assumption
    | (fail_if_no_progress with_reducible apply Keeps.update) <;> first | ((with_reducible apply Or.inr); with_reducible rfl) | ((with_reducible apply Or.inl); first | exact rfl | exact ⟨rfl, dictWf_filter _ _⟩) | skip
    | fail_if_no_progress dsimp only)

theorem dramSleep_keeps (s : State) : Keeps 2097160 s (dramSleep s) := by
  have h0 := Keeps.refl 2097160 s
  unfold dramSleep
  try dsimp only
  repeat' (first
    | intro _
    | with_reducible assumption
    | ((with_reducible apply Keeps.step (State.setFlag_keeps ..)); exact rfl)
    | (fail_if_no_progress with_reducible apply Keeps.update) <;> first | ((with_reducible apply Or.inr); with_reducible rfl) | ((with_reducible apply Or.inl); first | exact rfl) | skip
    | fail_if_no_progress dsimp only)

theorem dramStart_keeps (s : State) : Keeps 2097176 s (dramStart s) := by
  have h0 := Keeps.refl 2097176 s
  unfold dramStart
  try dsimp only
  repeat' (first
    | with_reducible apply Keeps.ite
    | with_reducible apply Keeps.iteFst
    | with_reducible apply Keeps.iteSnd
    | intro _
    | with_reducible assumption
    | ((with_reducible apply Keeps.step (State.setFlag_keeps ..)); exact rfl)
    | ((with_reducible apply Keeps.step (State.setReg_keeps ..)); exact rfl)
    | (fail_if_no_progress with_reducible apply Keeps.update) <;> first | ((with_reducible apply Or.inr); with_reducible rfl) | ((with_reducible apply Or.inl); first | exact rfl | exact ⟨rfl, memWrite_wf _ _ _⟩ | exact ⟨rfl, memFilter_wf _ _⟩ | exact ⟨rfl, memZero_wf _ _ _⟩ | exact ⟨rfl, memSet_wf _ _ _⟩) | skip
    | fail_if_no_progress dsimp only)

theorem rcShutdowns_keeps (s : State) : Keeps 6291484 s (rcShutdowns s) := by
  have h0 := Keeps.refl 6291484 s
  unfold rcShutdowns
  try dsimp only
  repeat' (first
    | with_reducible apply Keeps.ite
    | with_reducible apply Keeps.iteFst
    | with_reducible apply Keeps.iteSnd
    | intro _
    | with_reducible assumption
    | ((with_reducible apply Keeps.step (rcShutdown_keeps ..)); exact rfl)
    | with_reducible apply Keeps.forEach
    | fail_if_no_progress dsimp only)

theorem pdShutdown_keeps (d : Nat) (s : State) : Keeps 74449436 s (pdShutdown d s) := by
  have h0 := Keeps.refl 74449436 s
  unfold pdShutdown
  try dsimp only
  repeat' (first
    | with_reducible apply Keeps.ite
    | with_reducible apply Keeps.iteFst
    | with_reducible apply Keeps.iteSnd
    | intro _
    | with_reducible assumption
    | ((with_reducible apply Keeps.step (State.setRegBit_keeps ..)); exact rfl)
    | ((with_reducible apply Keeps.step (dramSleep_keeps ..)); exact rfl)
    | ((with_reducible apply Keeps.step (flShutdown_keeps ..)); exact rfl)
    | ((with_reducible apply Keeps.step (leaveLive_keeps ..)); exact rfl)
    | ((with_reducible apply Keeps.step (rcShutdowns_keeps ..)); exact rfl)
    | with_reducible apply Keeps.forEach
    | split
    | (fail_if_no_progress with_reducible apply Keeps.update) <;> first | ((with_reducible apply Or.inr); with_reducible rfl) | ((with_reducible apply Or.inl); first | exact rfl) | skip
    | fail_if_no_progress dsimp only)

theorem pdOffBegin_keeps (d : Nat) (s : State) : Keeps 74449436 s (pdOffBegin d s) := by
  have h0 := Keeps.refl 74449436 s
  unfold pdOffBegin
  try dsimp only
  repeat' (first
    | with_reducible apply Keeps.ite
    | with_reducible apply Keeps.iteFst
    | with_reducible apply Keeps.iteSnd
    | intro _
    | with_reducible assumption
    | ((with_reducible apply Keeps.step (State.setRegBit_keeps ..)); exact rfl)
    | ((with_reducible apply Keeps.step (pdShutdown_keeps ..)); exact rfl)
    | (fail_if_no_progress with_reducible apply Keeps.update) <;> first | ((with_reducible apply Or.inr); with_reducible rfl) | ((with_reducible apply Or.inl); first | exact rfl) | skip
    | fail_if_no_progress dsimp only)

theorem pdOnDone_keeps (d : Nat) (s : State) : Keeps 75107932 s (pdOnDone d s) := by
  have h0 := Keeps.refl 75107932 s
  unfold pdOnDone
  try dsimp only
  repeat' (first
    | with_reducible apply Keeps.ite
    | with_reducible apply Keeps.iteFst
    | with_reducible apply Keeps.iteSnd
    | intro _
    | with_reducible assumption
    | ((with_reducible apply Keeps.step (State.setRegBit_keeps ..)); exact rfl)
    | ((with_reducible apply Keeps.step (adcStart_keeps ..)); exact rfl)
    | ((with_reducible apply Keeps.step (dramStart_keeps ..)); exact rfl)
    | ((with_reducible apply Keeps.step (driversStart_keeps ..)); exact rfl)
    | ((with_reducible apply Keeps.step (driversUv_keeps ..)); exact rfl)
    | ((with_reducible apply Keeps.step (flStart_keeps ..)); exact rfl)
    | ((with_reducible apply Keeps.step (laneEnable_keeps ..)); exact rfl)
    | ((with_reducible apply Keeps.step (pdShutdown_keeps ..)); exact rfl)
    | ((with_reducible apply Keeps.step (rcEnable_keeps ..)); exact rfl)
    | ((with_reducible apply Keeps.step (romLoad_keeps ..)); exact rfl)
    | with_reducible apply Keeps.forEach
    | split
    | (fail_if_no_progress with_reducible apply Keeps.update) <;> first | ((with_reducible apply Or.inr); with_reducible rfl) | ((with_reducible apply Or.inl); first | exact rfl) | skip
    | fail_if_no_progress dsimp only)

theorem pdOffDone_keeps (d : Nat) (s : State) : Keeps 74976856 s (pdOffDone d s) := by
  have h0 := Keeps.refl 74976856 s
  unfold pdOffDone
  try dsimp only
  repeat' (first
    | with_reducible apply Keeps.ite
    | with_reducible apply Keeps.iteFst
    | with_reducible apply Keeps.iteSnd
    | intro _
    | with_reducible assumption
    | ((with_reducible apply Keeps.step (State.setEngine_keeps ..)); exact rfl)
    | ((with_reducible apply Keeps.step (State.setFl_keeps ..)); exact rfl)
    | ((with_reducible apply Keeps.step (State.setFlag_keeps ..)); exact rfl)
    | ((with_reducible apply Keeps.step (State.setLane_keeps ..)); exact rfl)
    | ((with_reducible apply Keeps.step (State.setLd_keeps ..)); exact rfl)
    | ((with_reducible apply Keeps.step (State.setRc_keeps ..)); exact rfl)
    | ((with_reducible apply Keeps.step (State.setRegBit_keeps ..)); exact rfl)
    | ((with_reducible apply Keeps.step (State.setSd_keeps ..)); exact rfl)
    | ((with_reducible apply Keeps.step (adcOff_keeps ..)); exact rfl)
    | ((with_reducible apply Keeps.step (pdForget_keeps ..)); exact rfl)
    | ((with_reducible apply Keeps.step (pdOnBegin_keeps ..)); exact rfl)
    | ((with_reducible apply Keeps.step (sramClear_keeps ..)); exact rfl)
    | with_reducible apply Keeps.forEach
    | split
    | (fail_if_no_progress with_reducible apply Keeps.update) <;> first | ((with_reducible apply Or.inr); with_reducible rfl) | ((with_reducible apply Or.inl); first | exact rfl) | skip
    | fail_if_no_progress dsimp only)

theorem actPdReq_keeps (v : Nat) (s : State) : Keeps 74449436 s (actPdReq v s).1 := by
  have h0 := Keeps.refl 74449436 s
  unfold actPdReq
  try dsimp only
  repeat' (first
    | with_reducible apply Keeps.ite
    | with_reducible apply Keeps.iteFst
    | with_reducible apply Keeps.iteSnd
    | intro _
    | with_reducible assumption
    | ((with_reducible apply Keeps.step (State.setReg_keeps ..)); exact rfl)
    | ((with_reducible apply Keeps.step (pdOffBegin_keeps ..)); exact rfl)
    | ((with_reducible apply Keeps.step (pdOnBegin_keeps ..)); exact rfl)
    | with_reducible apply Keeps.forEach
    | fail_if_no_progress dsimp only)

theorem execPdSwitchOn_keeps (mask : BitVec 12) (s : State) : Outcome.Keeps 74449436 s (execPdSwitchOn mask s) := by
  have h0 := Keeps.refl 74449436 s
  unfold execPdSwitchOn
  try dsimp only
  repeat' (first
    | with_reducible apply Outcome.Keeps.next
    | intro _
    | with_reducible assumption
    | ((with_reducible apply Keeps.step (actPdReq_keeps ..)); exact rfl)
    | fail_if_no_progress dsimp only)

theorem execPdSwitchOff_keeps (mask : BitVec 12) (s : State) : Outcome.Keeps 74449436 s (execPdSwitchOff mask s) := by
  have h0 := Keeps.refl 74449436 s
  unfold execPdSwitchOff
  try dsimp only
  repeat' (first
    | with_reducible apply Outcome.Keeps.next
    | intro _
    | with_reducible assumption
    | ((with_reducible apply Keeps.step (actPdReq_keeps ..)); exact rfl)
    | fail_if_no_progress dsimp only)

theorem execPdOnComplete_keeps (d : Fin 12) (t : Instant) (s : State) : Outcome.Keeps 75107933 s (execPdOnComplete d t s) := by
  have h0 := Keeps.refl 75107933 s
  unfold execPdOnComplete
  try dsimp only
  repeat' (first
    | with_reducible apply Outcome.Keeps.next
    | with_reducible apply Outcome.Keeps.ite
    | with_reducible apply Keeps.ite
    | with_reducible apply Keeps.iteFst
    | with_reducible apply Keeps.iteSnd
    | intro _
    | with_reducible assumption
    | ((with_reducible apply Keeps.step (State.advance_keeps ..)); exact rfl)
    | ((with_reducible apply Keeps.step (pdOnDone_keeps ..)); exact rfl)
    | fail_if_no_progress dsimp only)

theorem actStandby_keeps (s : State) : Keeps 86245388 s (actStandby s).1 := by
  have h0 := Keeps.refl 86245388 s
  unfold actStandby
  try dsimp only
  repeat' (first
    | with_reducible apply Keeps.ite
    | with_reducible apply Keeps.iteFst
    | with_reducible apply Keeps.iteSnd
    | intro _
    | with_reducible assumption
    | ((with_reducible apply Keeps.step (State.bump_keeps ..)); exact rfl)
    | ((with_reducible apply Keeps.step (State.setClk_keeps ..)); exact rfl)
    | ((with_reducible apply Keeps.step (State.setReg_keeps ..)); exact rfl)
    | ((with_reducible apply Keeps.step (dramSleep_keeps ..)); exact rfl)
    | ((with_reducible apply Keeps.step (storeCodes_keeps ..)); exact rfl)
    | (fail_if_no_progress with_reducible apply Keeps.update) <;> first | ((with_reducible apply Or.inr); with_reducible rfl) | ((with_reducible apply Or.inl); first | exact rfl) | skip
    | fail_if_no_progress dsimp only)

theorem execStandby_keeps (s : State) : Outcome.Keeps 86245388 s (execStandby s) := by
  have h0 := Keeps.refl 86245388 s
  unfold execStandby
  try dsimp only
  repeat' (first
    | with_reducible apply Outcome.Keeps.next
    | intro _
    | with_reducible assumption
    | ((with_reducible apply Keeps.step (actStandby_keeps ..)); exact rfl)
    | fail_if_no_progress dsimp only)

theorem throttle_keeps (m : Nat) (s : State) : Keeps 7471132 s (throttle m s) := by
  have h0 := Keeps.refl 7471132 s
  unfold throttle
  try dsimp only
  repeat' (first
    | with_reducible apply Keeps.ite
    | with_reducible apply Keeps.iteFst
    | with_reducible apply Keeps.iteSnd
    | intro _
    | with_reducible assumption
    | ((with_reducible apply Keeps.step (State.setFlag_keeps ..)); exact rfl)
    | ((with_reducible apply Keeps.step (State.setReg_keeps ..)); exact rfl)
    | ((with_reducible apply Keeps.step (dmaPause_keeps ..)); exact rfl)
    | ((with_reducible apply Keeps.step (flStale_keeps ..)); exact rfl)
    | ((with_reducible apply Keeps.step (rcDrain_keeps ..)); exact rfl)
    | with_reducible apply Keeps.forEach
    | fail_if_no_progress dsimp only)

theorem execArbiterEvaluate_keeps (fixedMw : BitVec 16) (powerMw : BitVec 16) (ctl : List Nat) (bg : List Nat) (t : Instant) (s : State) : Outcome.Keeps 74579997 s (execArbiterEvaluate fixedMw powerMw ctl bg t s) := by
  have h0 := Keeps.refl 74579997 s
  unfold execArbiterEvaluate
  try dsimp only
  repeat' (first
    | with_reducible apply Outcome.Keeps.next
    | with_reducible apply Outcome.Keeps.ite
    | with_reducible apply Keeps.ite
    | with_reducible apply Keeps.iteFst
    | with_reducible apply Keeps.iteSnd
    | intro _
    | with_reducible assumption
    | ((with_reducible apply Keeps.step (State.advance_keeps ..)); exact rfl)
    | ((with_reducible apply Keeps.step (State.setFlag_keeps ..)); exact rfl)
    | ((with_reducible apply Keeps.step (State.setReg_keeps ..)); exact rfl)
    | ((with_reducible apply Keeps.step (State.useFree_keeps ..)); exact rfl)
    | ((with_reducible apply Keeps.step (setOpen_keeps ..)); exact rfl)
    | ((with_reducible apply Keeps.step (throttle_keeps ..)); exact rfl)
    | (fail_if_no_progress with_reducible apply Keeps.update) <;> first | ((with_reducible apply Or.inr); with_reducible rfl) | ((with_reducible apply Or.inl); first | exact rfl) | skip
    | fail_if_no_progress dsimp only)

theorem vidMove_keeps (up : Bool) (s : State) : Keeps 1140850696 s (vidMove up s) := by
  have h0 := Keeps.refl 1140850696 s
  unfold vidMove
  try dsimp only
  repeat' (first
    | with_reducible apply Keeps.ite
    | with_reducible apply Keeps.iteFst
    | with_reducible apply Keeps.iteSnd
    | intro _
    | with_reducible assumption
    | ((with_reducible apply Keeps.step (State.emit_keeps ..)); exact rfl)
    | ((with_reducible apply Keeps.step (State.setReg_keeps ..)); exact rfl)
    | (fail_if_no_progress with_reducible apply Keeps.update) <;> first | ((with_reducible apply Or.inr); with_reducible rfl) | ((with_reducible apply Or.inl); first | exact rfl) | skip
    | fail_if_no_progress dsimp only)

theorem execVidStep_keeps (t : Instant) (s : State) : Outcome.Keeps 1140850697 s (execVidStep t s) := by
  have h0 := Keeps.refl 1140850697 s
  unfold execVidStep
  try dsimp only
  repeat' (first
    | with_reducible apply Outcome.Keeps.next
    | with_reducible apply Outcome.Keeps.ite
    | with_reducible apply Keeps.ite
    | with_reducible apply Keeps.iteFst
    | with_reducible apply Keeps.iteSnd
    | intro _
    | with_reducible assumption
    | ((with_reducible apply Keeps.step (State.advance_keeps ..)); exact rfl)
    | ((with_reducible apply Keeps.step (State.setFlag_keeps ..)); exact rfl)
    | ((with_reducible apply Keeps.step (vidMove_keeps ..)); exact rfl)
    | (fail_if_no_progress with_reducible apply Keeps.update) <;> first | ((with_reducible apply Or.inr); with_reducible rfl) | ((with_reducible apply Or.inl); first | exact rfl) | skip
    | fail_if_no_progress dsimp only)

theorem execIstStep_keeps (r : IstStep) (s : State) : Outcome.Keeps 1277952604 s (execIstStep r s) := by
  have h0 := Keeps.refl 1277952604 s
  unfold execIstStep
  try dsimp only
  repeat' (first
    | with_reducible apply Outcome.Keeps.next
    | with_reducible apply Outcome.Keeps.ite
    | with_reducible apply Keeps.ite
    | with_reducible apply Keeps.iteFst
    | with_reducible apply Keeps.iteSnd
    | intro _
    | with_reducible assumption
    | ((with_reducible apply Keeps.step (State.bump_keeps ..)); exact rfl)
    | ((with_reducible apply Keeps.step (State.setAdc_keeps ..)); exact rfl)
    | ((with_reducible apply Keeps.step (State.setEngine_keeps ..)); exact rfl)
    | ((with_reducible apply Keeps.step (State.setLane_keeps ..)); exact rfl)
    | ((with_reducible apply Keeps.step (State.setReg_keeps ..)); exact rfl)
    | ((with_reducible apply Keeps.step (State.setRegBit_keeps ..)); exact rfl)
    | ((with_reducible apply Keeps.step (State.useFree_keeps ..)); exact rfl)
    | ((with_reducible apply Keeps.step (istFail_keeps ..)); exact rfl)
    | ((with_reducible apply Keeps.step (setEcc_keeps ..)); exact rfl)
    | ((with_reducible apply Keeps.step (sliceRetire_keeps ..)); exact rfl)
    | with_reducible apply Keeps.forEach
    | split
    | (fail_if_no_progress with_reducible apply Keeps.update) <;> first | ((with_reducible apply Or.inr); with_reducible rfl) | ((with_reducible apply Or.inl); first | exact rfl | exact ⟨rfl, memWrite_wf _ _ _⟩ | exact ⟨rfl, memFilter_wf _ _⟩ | exact ⟨rfl, memZero_wf _ _ _⟩ | exact ⟨rfl, memSet_wf _ _ _⟩) | skip
    | fail_if_no_progress dsimp only)

theorem execIstPeriodExpiry_keeps (item : Fin 4) (t : Instant) (s : State) : Outcome.Keeps 9 s (execIstPeriodExpiry item t s) := by
  have h0 := Keeps.refl 9 s
  unfold execIstPeriodExpiry
  try dsimp only
  repeat' (first
    | with_reducible apply Outcome.Keeps.next
    | with_reducible apply Outcome.Keeps.ite
    | with_reducible apply Keeps.ite
    | with_reducible apply Keeps.iteFst
    | with_reducible apply Keeps.iteSnd
    | intro _
    | with_reducible assumption
    | ((with_reducible apply Keeps.step (State.advance_keeps ..)); exact rfl)
    | ((with_reducible apply Keeps.step (State.setFlag_keeps ..)); exact rfl)
    | fail_if_no_progress dsimp only)

theorem execSupplySample_keeps (i : Fin 6) (mv : BitVec 16) (mv2 : BitVec 16) (t : Instant) (s : State) : Outcome.Keeps 1275330573 s (execSupplySample i mv mv2 t s) := by
  have h0 := Keeps.refl 1275330573 s
  unfold execSupplySample
  try dsimp only
  repeat' (first
    | with_reducible apply Outcome.Keeps.next
    | with_reducible apply Outcome.Keeps.ite
    | with_reducible apply Keeps.ite
    | with_reducible apply Keeps.iteFst
    | with_reducible apply Keeps.iteSnd
    | intro _
    | with_reducible assumption
    | ((with_reducible apply Keeps.step (State.advance_keeps ..)); exact rfl)
    | ((with_reducible apply Keeps.step (State.note_keeps ..)); exact rfl)
    | ((with_reducible apply Keeps.step (State.setFlag_keeps ..)); exact rfl)
    | ((with_reducible apply Keeps.step (State.setReg_keeps ..)); exact rfl)
    | ((with_reducible apply Keeps.step (State.useFree_keeps ..)); exact rfl)
    | (fail_if_no_progress with_reducible apply Keeps.update) <;> first | ((with_reducible apply Or.inr); with_reducible rfl) | ((with_reducible apply Or.inl); first | exact rfl) | skip
    | fail_if_no_progress dsimp only)

theorem execTjSample_keeps (tj : List (BitVec 16)) (s : State) : Outcome.Keeps 8 s (execTjSample tj s) := by
  have h0 := Keeps.refl 8 s
  unfold execTjSample
  try dsimp only
  repeat' (first
    | with_reducible apply Outcome.Keeps.next
    | with_reducible apply Outcome.Keeps.ite
    | with_reducible apply Keeps.ite
    | with_reducible apply Keeps.iteFst
    | with_reducible apply Keeps.iteSnd
    | intro _
    | with_reducible assumption
    | ((with_reducible apply Keeps.step (State.setFlag_keeps ..)); exact rfl)
    | ((with_reducible apply Keeps.step (State.setReg_keeps ..)); exact rfl)
    | with_reducible apply Keeps.forEach
    | fail_if_no_progress dsimp only)

theorem ringStep_keeps (d : Nat) (v : Nat) (s : State) : Keeps 67108864 s (ringStep d v s) := by
  have h0 := Keeps.refl 67108864 s
  unfold ringStep
  try dsimp only
  repeat' (first
    | with_reducible apply Keeps.ite
    | with_reducible apply Keeps.iteFst
    | with_reducible apply Keeps.iteSnd
    | intro _
    | with_reducible assumption
    | (fail_if_no_progress with_reducible apply Keeps.update) <;> first | ((with_reducible apply Or.inr); with_reducible rfl) | ((with_reducible apply Or.inl); first | exact rfl) | skip
    | fail_if_no_progress dsimp only)

theorem execRingMeasure_keeps (loss : List (BitVec 16)) (step : BitVec 16 × BitVec 16) (t : Instant) (s : State) : Outcome.Keeps 67108873 s (execRingMeasure loss step t s) := by
  have h0 := Keeps.refl 67108873 s
  unfold execRingMeasure
  try dsimp only
  repeat' (first
    | with_reducible apply Outcome.Keeps.next
    | with_reducible apply Outcome.Keeps.ite
    | with_reducible apply Keeps.ite
    | with_reducible apply Keeps.iteFst
    | with_reducible apply Keeps.iteSnd
    | intro _
    | with_reducible assumption
    | ((with_reducible apply Keeps.step (State.advance_keeps ..)); exact rfl)
    | ((with_reducible apply Keeps.step (State.setReg_keeps ..)); exact rfl)
    | ((with_reducible apply Keeps.step (ringStep_keeps ..)); exact rfl)
    | with_reducible apply Keeps.forEach
    | fail_if_no_progress dsimp only)

theorem retireLine_keeps (l : Nat) (s : State) : Keeps 1208221708 s (retireLine l s) := by
  have h0 := Keeps.refl 1208221708 s
  unfold retireLine
  try dsimp only
  repeat' (first
    | with_reducible apply Keeps.ite
    | with_reducible apply Keeps.iteFst
    | with_reducible apply Keeps.iteSnd
    | intro _
    | with_reducible assumption
    | ((with_reducible apply Keeps.step (State.note_keeps ..)); exact rfl)
    | ((with_reducible apply Keeps.step (State.setFlag_keeps ..)); exact rfl)
    | ((with_reducible apply Keeps.step (State.setReg_keeps ..)); exact rfl)
    | ((with_reducible apply Keeps.step (State.useFree_keeps ..)); exact rfl)
    | ((with_reducible apply Keeps.step (pushLog_keeps ..)); exact rfl)
    | fail_if_no_progress dsimp only)

theorem execMramMarginCheck_keeps (margin : BitVec 16) (lines : List Nat) (t : Instant) (s : State) : Outcome.Keeps 1208221709 s (execMramMarginCheck margin lines t s) := by
  have h0 := Keeps.refl 1208221709 s
  unfold execMramMarginCheck
  try dsimp only
  repeat' (first
    | with_reducible apply Outcome.Keeps.next
    | intro _
    | with_reducible assumption
    | ((with_reducible apply Keeps.step (State.advance_keeps ..)); exact rfl)
    | ((with_reducible apply Keeps.step (State.setReg_keeps ..)); exact rfl)
    | ((with_reducible apply Keeps.step (retireLine_keeps ..)); exact rfl)
    | with_reducible apply Keeps.forEach
    | fail_if_no_progress dsimp only)

theorem execThermalEstimate_keeps (t : Instant) (s : State) : Outcome.Keeps 67108877 s (execThermalEstimate t s) := by
  have h0 := Keeps.refl 67108877 s
  unfold execThermalEstimate
  try dsimp only
  repeat' (first
    | with_reducible apply Outcome.Keeps.next
    | intro _
    | with_reducible assumption
    | ((with_reducible apply Keeps.step (State.advance_keeps ..)); exact rfl)
    | ((with_reducible apply Keeps.step (thermalStep_keeps ..)); exact rfl)
    | with_reducible apply Keeps.forEach
    | fail_if_no_progress dsimp only)

theorem execDvdtDriftTest_keeps (k : Fin 64) (t : Instant) (s : State) : Outcome.Keeps 67108865 s (execDvdtDriftTest k t s) := by
  have h0 := Keeps.refl 67108865 s
  unfold execDvdtDriftTest
  try dsimp only
  repeat' (first
    | with_reducible apply Outcome.Keeps.next
    | with_reducible apply Outcome.Keeps.ite
    | with_reducible apply Keeps.ite
    | with_reducible apply Keeps.iteFst
    | with_reducible apply Keeps.iteSnd
    | intro _
    | with_reducible assumption
    | ((with_reducible apply Keeps.step (State.advance_keeps ..)); exact rfl)
    | ((with_reducible apply Keeps.step (State.setMod_keeps ..)); exact rfl)
    | fail_if_no_progress dsimp only)

theorem actModBaseline_keeps (mask : Nat) (s : State) : Keeps 67108872 s (actModBaseline mask s).1 := by
  have h0 := Keeps.refl 67108872 s
  unfold actModBaseline
  try dsimp only
  repeat' (first
    | intro _
    | with_reducible assumption
    | ((with_reducible apply Keeps.step (baselineReset_keeps ..)); exact rfl)
    | with_reducible apply Keeps.forEach
    | fail_if_no_progress dsimp only)

theorem execModBaseline_keeps (mask : BitVec 64) (s : State) : Outcome.Keeps 67108872 s (execModBaseline mask s) := by
  have h0 := Keeps.refl 67108872 s
  unfold execModBaseline
  try dsimp only
  repeat' (first
    | with_reducible apply Outcome.Keeps.next
    | intro _
    | with_reducible assumption
    | ((with_reducible apply Keeps.step (actModBaseline_keeps ..)); exact rfl)
    | fail_if_no_progress dsimp only)

theorem execReplanEvaluate_keeps (droops : List (Option Nat)) (t : Instant) (s : State) : Outcome.Keeps 1275363853 s (execReplanEvaluate droops t s) := by
  have h0 := Keeps.refl 1275363853 s
  unfold execReplanEvaluate
  try dsimp only
  repeat' (first
    | with_reducible apply Outcome.Keeps.next
    | intro _
    | with_reducible assumption
    | ((with_reducible apply Keeps.step (State.advance_keeps ..)); exact rfl)
    | ((with_reducible apply Keeps.step (replan_keeps ..)); exact rfl)
    | fail_if_no_progress dsimp only)

end Sys2Proof.Machine
end

