-- ==== Sys2Proof/Laws/KeepsDictOps.lean ====
section
/-!
SUPPORT. What each function of Machine/DictOps.lean keeps, and which parts of the state it leaves alone.
-/

namespace Sys2Proof.Machine

theorem plain_keeps (k : Nat) (v : Nat) (s : State) : Keeps 8 s (plain k v s) := by
  have h0 := Keeps.refl 8 s
  unfold plain
  try dsimp only
  repeat' (first
    | intro _
    | with_reducible assumption
    | ((with_reducible apply Keeps.step (State.setReg_keeps ..)); exact rfl)
    | fail_if_no_progress dsimp only)

theorem writeIf_keeps {f : Nat} {a s s' : State} (c : Bool) (h' : Keeps f a s') (h : Keeps f a s) : Keeps f a (writeIf c s' s).1 :=
  Keeps.iteFst h fun _ => h'

theorem writePdo_keeps (k : Nat) (v : Nat) (s : State) : Keeps 268435464 s (writePdo k v s).1 := by
  have h0 := Keeps.refl 268435464 s
  unfold writePdo
  try dsimp only
  repeat' (first
    | with_reducible apply Keeps.ite
    | with_reducible apply Keeps.iteFst
    | with_reducible apply Keeps.iteSnd
    | with_reducible apply writeIf_keeps
    | intro _
    | with_reducible assumption
    | ((with_reducible apply Keeps.step (State.setNet_keeps ..)); exact rfl)
    | ((with_reducible apply Keeps.step (plain_keeps ..)); exact rfl)
    | split
    | fail_if_no_progress dsimp only)

theorem writePower_keeps (k : Nat) (v : Nat) (s : State) : Keeps 1282671132 s (writePower k v s).1 := by
  have h0 := Keeps.refl 1282671132 s
  unfold writePower
  try dsimp only
  repeat' (first
    | with_reducible apply Keeps.ite
    | with_reducible apply Keeps.iteFst
    | with_reducible apply Keeps.iteSnd
    | with_reducible apply writeIf_keeps
    | intro _
    | with_reducible assumption
    | ((with_reducible apply Keeps.step (actPdReq_keeps ..)); exact rfl)
    | ((with_reducible apply Keeps.step (fswBound_keeps ..)); exact rfl)
    | ((with_reducible apply Keeps.step (plain_keeps ..)); exact rfl)
    | ((with_reducible apply Keeps.step (vddMaxWritten_keeps ..)); exact rfl)
    | ((with_reducible apply Keeps.step (vddMinWritten_keeps ..)); exact rfl)
    | fail_if_no_progress dsimp only)

theorem writeClock_keeps (k : Nat) (v : Nat) (s : State) : Keeps 50331976 s (writeClock k v s).1 := by
  have h0 := Keeps.refl 50331976 s
  unfold writeClock
  try dsimp only
  repeat' (first
    | with_reducible apply Keeps.ite
    | with_reducible apply Keeps.iteFst
    | with_reducible apply Keeps.iteSnd
    | with_reducible apply writeIf_keeps
    | intro _
    | with_reducible assumption
    | ((with_reducible apply Keeps.step (actPtpConfig_keeps ..)); exact rfl)
    | ((with_reducible apply Keeps.step (actTaCfg_keeps ..)); exact rfl)
    | ((with_reducible apply Keeps.step (plain_keeps ..)); exact rfl)
    | fail_if_no_progress dsimp only)

theorem writeDma_keeps (c : Nat) (k : Nat) (v : Nat) (s : State) : Keeps 2097180 s (writeDma c k v s).1 := by
  have h0 := Keeps.refl 2097180 s
  unfold writeDma
  try dsimp only
  repeat' (first
    | with_reducible apply Keeps.ite
    | with_reducible apply Keeps.iteFst
    | with_reducible apply Keeps.iteSnd
    | with_reducible apply writeIf_keeps
    | intro _
    | with_reducible assumption
    | ((with_reducible apply Keeps.step (State.setReg_keeps ..)); exact rfl)
    | ((with_reducible apply Keeps.step (actDmaDisable_keeps ..)); exact rfl)
    | ((with_reducible apply Keeps.step (plain_keeps ..)); exact rfl)
    | split
    | fail_if_no_progress dsimp only)

theorem writeMemory_keeps (k : Nat) (v : Nat) (s : State) : Keeps 2097180 s (writeMemory k v s).1 := by
  have h0 := Keeps.refl 2097180 s
  unfold writeMemory
  try dsimp only
  repeat' (first
    | with_reducible apply Keeps.ite
    | with_reducible apply Keeps.iteFst
    | with_reducible apply Keeps.iteSnd
    | intro _
    | with_reducible assumption
    | ((with_reducible apply Keeps.step (plain_keeps ..)); exact rfl)
    | ((with_reducible apply Keeps.step (writeDma_keeps ..)); exact rfl)
    | fail_if_no_progress dsimp only)

theorem writeSeq_keeps (n : Nat) (k : Nat) (v : Nat) (s : State) : Keeps 8 s (writeSeq n k v s).1 := by
  have h0 := Keeps.refl 8 s
  unfold writeSeq
  try dsimp only
  repeat' (first
    | with_reducible apply Keeps.ite
    | with_reducible apply Keeps.iteFst
    | with_reducible apply Keeps.iteSnd
    | with_reducible apply writeIf_keeps
    | intro _
    | with_reducible assumption
    | ((with_reducible apply Keeps.step (plain_keeps ..)); exact rfl)
    | fail_if_no_progress dsimp only)

theorem writeAdc_keeps (k : Nat) (v : Nat) (s : State) : Keeps 1703944 s (writeAdc k v s).1 := by
  have h0 := Keeps.refl 1703944 s
  unfold writeAdc
  try dsimp only
  repeat' (first
    | with_reducible apply Keeps.ite
    | with_reducible apply Keeps.iteFst
    | with_reducible apply Keeps.iteSnd
    | with_reducible apply writeIf_keeps
    | intro _
    | with_reducible assumption
    | ((with_reducible apply Keeps.step (State.setAdc_keeps ..)); exact rfl)
    | ((with_reducible apply Keeps.step (actAdcDisable_keeps ..)); exact rfl)
    | ((with_reducible apply Keeps.step (actAdcEnable_keeps ..)); exact rfl)
    | ((with_reducible apply Keeps.step (actSdcCfg_keeps ..)); exact rfl)
    | ((with_reducible apply Keeps.step (actTrgCfg_keeps ..)); exact rfl)
    | ((with_reducible apply Keeps.step (calNext_keeps ..)); exact rfl)
    | ((with_reducible apply Keeps.step (plain_keeps ..)); exact rfl)
    | ((with_reducible apply Keeps.step (sdiRefresh_keeps ..)); exact rfl)
    | ((with_reducible apply Keeps.step (writeSeq_keeps ..)); exact rfl)
    | fail_if_no_progress dsimp only)

theorem writeFilter_keeps (k : Nat) (v : Nat) (s : State) : Keeps 1179660 s (writeFilter k v s).1 := by
  have h0 := Keeps.refl 1179660 s
  unfold writeFilter
  try dsimp only
  repeat' (first
    | with_reducible apply Keeps.ite
    | with_reducible apply Keeps.iteFst
    | with_reducible apply Keeps.iteSnd
    | with_reducible apply writeIf_keeps
    | intro _
    | with_reducible assumption
    | ((with_reducible apply Keeps.step (actLaneCfg_keeps ..)); exact rfl)
    | ((with_reducible apply Keeps.step (plain_keeps ..)); exact rfl)
    | fail_if_no_progress dsimp only)

theorem writeRecorder_keeps (k : Nat) (v : Nat) (s : State) : Keeps 6291484 s (writeRecorder k v s).1 := by
  have h0 := Keeps.refl 6291484 s
  unfold writeRecorder
  try dsimp only
  repeat' (first
    | with_reducible apply Keeps.ite
    | with_reducible apply Keeps.iteFst
    | with_reducible apply Keeps.iteSnd
    | with_reducible apply writeIf_keeps
    | intro _
    | with_reducible assumption
    | ((with_reducible apply Keeps.step (actRcCfg_keeps ..)); exact rfl)
    | ((with_reducible apply Keeps.step (condReset_keeps ..)); exact rfl)
    | ((with_reducible apply Keeps.step (plain_keeps ..)); exact rfl)
    | fail_if_no_progress dsimp only)

theorem writePairDt_keeps (p : Nat) (v : Nat) (s : State) : Keeps 648 s (writePairDt p v s).1 := by
  have h0 := Keeps.refl 648 s
  unfold writePairDt
  try dsimp only
  repeat' (first
    | with_reducible apply Keeps.ite
    | with_reducible apply Keeps.iteFst
    | with_reducible apply Keeps.iteSnd
    | with_reducible apply writeIf_keeps
    | intro _
    | with_reducible assumption
    | ((with_reducible apply Keeps.step (State.setReg_keeps ..)); exact rfl)
    | ((with_reducible apply Keeps.step (requestSetup_keeps ..)); exact rfl)
    | with_reducible apply Keeps.forEach
    | (fail_if_no_progress with_reducible apply Keeps.update) <;> first | ((with_reducible apply Or.inr); with_reducible rfl) | ((with_reducible apply Or.inl); first | exact rfl) | skip
    | fail_if_no_progress dsimp only)

theorem writeMinPulse_keeps (c : Nat) (v : Nat) (s : State) : Keeps 136 s (writeMinPulse c v s).1 := by
  have h0 := Keeps.refl 136 s
  unfold writeMinPulse
  try dsimp only
  repeat' (first
    | with_reducible apply Keeps.ite
    | with_reducible apply Keeps.iteFst
    | with_reducible apply Keeps.iteSnd
    | with_reducible apply writeIf_keeps
    | intro _
    | with_reducible assumption
    | ((with_reducible apply Keeps.step (State.setChan_keeps ..)); exact rfl)
    | ((with_reducible apply Keeps.step (State.setReg_keeps ..)); exact rfl)
    | ((with_reducible apply Keeps.step (zeroCarries_keeps ..)); exact rfl)
    | fail_if_no_progress dsimp only)

theorem writeTripMap_keeps (i : Nat) (j : Nat) (v : Nat) (s : State) : Keeps 140 s (writeTripMap i j v s).1 := by
  have h0 := Keeps.refl 140 s
  unfold writeTripMap
  try dsimp only
  repeat' (first
    | with_reducible apply Keeps.ite
    | with_reducible apply Keeps.iteFst
    | with_reducible apply Keeps.iteSnd
    | with_reducible apply writeIf_keeps
    | intro _
    | with_reducible assumption
    | ((with_reducible apply Keeps.step (State.setReg_keeps ..)); exact rfl)
    | ((with_reducible apply Keeps.step (forceOffAll_keeps ..)); exact rfl)
    | fail_if_no_progress dsimp only)

theorem writePwm_keeps (k : Nat) (v : Nat) (s : State) : Keeps 652 s (writePwm k v s).1 := by
  have h0 := Keeps.refl 652 s
  unfold writePwm
  try dsimp only
  repeat' (first
    | with_reducible apply Keeps.ite
    | with_reducible apply Keeps.iteFst
    | with_reducible apply Keeps.iteSnd
    | with_reducible apply writeIf_keeps
    | intro _
    | with_reducible assumption
    | ((with_reducible apply Keeps.step (State.setCarrier_keeps ..)); exact rfl)
    | ((with_reducible apply Keeps.step (actForceOff_keeps ..)); exact rfl)
    | ((with_reducible apply Keeps.step (actTripCfg_keeps ..)); exact rfl)
    | ((with_reducible apply Keeps.step (plain_keeps ..)); exact rfl)
    | ((with_reducible apply Keeps.step (writeMinPulse_keeps ..)); exact rfl)
    | ((with_reducible apply Keeps.step (writePairDt_keeps ..)); exact rfl)
    | ((with_reducible apply Keeps.step (writeTripMap_keeps ..)); exact rfl)
    | fail_if_no_progress dsimp only)

theorem writeGlCfg_keeps (k : Nat) (v : Nat) (s : State) : Keeps 1208222216 s (writeGlCfg k v s).1 := by
  have h0 := Keeps.refl 1208222216 s
  unfold writeGlCfg
  try dsimp only
  repeat' (first
    | with_reducible apply Keeps.ite
    | with_reducible apply Keeps.iteFst
    | with_reducible apply Keeps.iteSnd
    | intro _
    | with_reducible assumption
    | ((with_reducible apply Keeps.step (State.setReg_keeps ..)); exact rfl)
    | ((with_reducible apply Keeps.step (freezeTrainer_keeps ..)); exact rfl)
    | ((with_reducible apply Keeps.step (laneSetEn_keeps ..)); exact rfl)
    | ((with_reducible apply Keeps.step (refreshCodes_keeps ..)); exact rfl)
    | ((with_reducible apply Keeps.step (requestSetup_keeps ..)); exact rfl)
    | ((with_reducible apply Keeps.step (scaleBound_keeps ..)); exact rfl)
    | fail_if_no_progress dsimp only)

theorem writeProfile_keeps (n : Nat) (k : Nat) (v : Nat) (s : State) : Keeps 1208222216 s (writeProfile n k v s).1 := by
  have h0 := Keeps.refl 1208222216 s
  unfold writeProfile
  try dsimp only
  repeat' (first
    | with_reducible apply Keeps.ite
    | with_reducible apply Keeps.iteFst
    | with_reducible apply Keeps.iteSnd
    | with_reducible apply writeIf_keeps
    | intro _
    | with_reducible assumption
    | ((with_reducible apply Keeps.step (freezeTrainer_keeps ..)); exact rfl)
    | ((with_reducible apply Keeps.step (plain_keeps ..)); exact rfl)
    | ((with_reducible apply Keeps.step (refreshCodes_keeps ..)); exact rfl)
    | ((with_reducible apply Keeps.step (requestSetup_keeps ..)); exact rfl)
    | ((with_reducible apply Keeps.step (scaleBound_keeps ..)); exact rfl)
    | with_reducible apply Keeps.forEach
    | fail_if_no_progress dsimp only)

theorem writeGate_keeps (k : Nat) (v : Nat) (s : State) : Keeps 1208222216 s (writeGate k v s).1 := by
  have h0 := Keeps.refl 1208222216 s
  unfold writeGate
  try dsimp only
  repeat' (first
    | with_reducible apply Keeps.ite
    | with_reducible apply Keeps.iteFst
    | with_reducible apply Keeps.iteSnd
    | with_reducible apply writeIf_keeps
    | intro _
    | with_reducible assumption
    | ((with_reducible apply Keeps.step (lawLead_keeps ..)); exact rfl)
    | ((with_reducible apply Keeps.step (plain_keeps ..)); exact rfl)
    | ((with_reducible apply Keeps.step (writeGlCfg_keeps ..)); exact rfl)
    | ((with_reducible apply Keeps.step (writeProfile_keeps ..)); exact rfl)
    | fail_if_no_progress dsimp only)

theorem writeDriver_keeps (k : Nat) (v : Nat) (s : State) : Keeps 3080 s (writeDriver k v s).1 := by
  have h0 := Keeps.refl 3080 s
  unfold writeDriver
  try dsimp only
  repeat' (first
    | with_reducible apply Keeps.ite
    | with_reducible apply Keeps.iteFst
    | with_reducible apply Keeps.iteSnd
    | intro _
    | with_reducible assumption
    | ((with_reducible apply Keeps.step (ldDisable_keeps ..)); exact rfl)
    | ((with_reducible apply Keeps.step (ldEnable_keeps ..)); exact rfl)
    | ((with_reducible apply Keeps.step (ldModeTake_keeps ..)); exact rfl)
    | ((with_reducible apply Keeps.step (plain_keeps ..)); exact rfl)
    | ((with_reducible apply Keeps.step (sdApply_keeps ..)); exact rfl)
    | ((with_reducible apply Keeps.step (sdDisable_keeps ..)); exact rfl)
    | ((with_reducible apply Keeps.step (sdEnable_keeps ..)); exact rfl)
    | fail_if_no_progress dsimp only)

theorem writeEngine_keeps (k : Nat) (v : Nat) (s : State) : Keeps 7504892 s (writeEngine k v s).1 := by
  have h0 := Keeps.refl 7504892 s
  unfold writeEngine
  try dsimp only
  repeat' (first
    | with_reducible apply Keeps.ite
    | with_reducible apply Keeps.iteFst
    | with_reducible apply Keeps.iteSnd
    | with_reducible apply writeIf_keeps
    | intro _
    | with_reducible assumption
    | ((with_reducible apply Keeps.step (actEngineDisable_keeps ..)); exact rfl)
    | ((with_reducible apply Keeps.step (actEngineEnable_keeps ..)); exact rfl)
    | ((with_reducible apply Keeps.step (actLawBuiltin_keeps ..)); exact rfl)
    | ((with_reducible apply Keeps.step (actMbIn_keeps ..)); exact rfl)
    | ((with_reducible apply Keeps.step (plain_keeps ..)); exact rfl)
    | fail_if_no_progress dsimp only)

theorem pairEnable_keeps (v : Nat) (s : State) : Keeps 134291468 s (pairEnable v s) := by
  have h0 := Keeps.refl 134291468 s
  unfold pairEnable
  try dsimp only
  repeat' (first
    | with_reducible apply Keeps.ite
    | with_reducible apply Keeps.iteFst
    | with_reducible apply Keeps.iteSnd
    | intro _
    | with_reducible assumption
    | ((with_reducible apply Keeps.step (State.setReg_keeps ..)); exact rfl)
    | ((with_reducible apply Keeps.step (refreshBatonTx_keeps ..)); exact rfl)
    | ((with_reducible apply Keeps.step (setPairState_keeps ..)); exact rfl)
    | ((with_reducible apply Keeps.step (setSynced_keeps ..)); exact rfl)
    | ((with_reducible apply Keeps.step (startClaim_keeps ..)); exact rfl)
    | (fail_if_no_progress with_reducible apply Keeps.update) <;> first | ((with_reducible apply Or.inr); with_reducible rfl) | ((with_reducible apply Or.inl); first | exact rfl) | skip
    | fail_if_no_progress dsimp only)

theorem writePair_keeps (k : Nat) (v : Nat) (s : State) : Keeps 134291468 s (writePair k v s).1 := by
  have h0 := Keeps.refl 134291468 s
  unfold writePair
  try dsimp only
  repeat' (first
    | with_reducible apply Keeps.ite
    | with_reducible apply Keeps.iteFst
    | with_reducible apply Keeps.iteSnd
    | with_reducible apply writeIf_keeps
    | intro _
    | with_reducible assumption
    | ((with_reducible apply Keeps.step (pairEnable_keeps ..)); exact rfl)
    | ((with_reducible apply Keeps.step (plain_keeps ..)); exact rfl)
    | fail_if_no_progress dsimp only)

theorem writeLaw_keeps (k : Nat) (v : Nat) (s : State) : Keeps 1208320008 s (writeLaw k v s).1 := by
  have h0 := Keeps.refl 1208320008 s
  unfold writeLaw
  try dsimp only
  repeat' (first
    | with_reducible apply Keeps.ite
    | with_reducible apply Keeps.iteFst
    | with_reducible apply Keeps.iteSnd
    | with_reducible apply writeIf_keeps
    | intro _
    | with_reducible assumption
    | ((with_reducible apply Keeps.step (State.setLaw_keeps ..)); exact rfl)
    | ((with_reducible apply Keeps.step (actBase_keeps ..)); exact rfl)
    | ((with_reducible apply Keeps.step (actCadEn_keeps ..)); exact rfl)
    | ((with_reducible apply Keeps.step (limitBound_keeps ..)); exact rfl)
    | ((with_reducible apply Keeps.step (plain_keeps ..)); exact rfl)
    | ((with_reducible apply Keeps.step (refreshStaged_keeps ..)); exact rfl)
    | fail_if_no_progress dsimp only)

theorem actLevel_keeps (v : Nat) (s : State) : Keeps 8 s (actLevel v s).1 := by
  have h0 := Keeps.refl 8 s
  unfold actLevel
  try dsimp only
  repeat' (first
    | with_reducible apply Keeps.ite
    | with_reducible apply Keeps.iteFst
    | with_reducible apply Keeps.iteSnd
    | with_reducible apply writeIf_keeps
    | intro _
    | with_reducible assumption
    | ((with_reducible apply Keeps.step (State.setReg_keeps ..)); exact rfl)
    | fail_if_no_progress dsimp only)

theorem writeNet_keeps (k : Nat) (v : Nat) (s : State) : Keeps 268435464 s (writeNet k v s).1 := by
  have h0 := Keeps.refl 268435464 s
  unfold writeNet
  try dsimp only
  repeat' (first
    | with_reducible apply Keeps.ite
    | with_reducible apply Keeps.iteFst
    | with_reducible apply Keeps.iteSnd
    | with_reducible apply writeIf_keeps
    | intro _
    | with_reducible assumption
    | ((with_reducible apply Keeps.step (actRedund_keeps ..)); exact rfl)
    | ((with_reducible apply Keeps.step (plain_keeps ..)); exact rfl)
    | fail_if_no_progress dsimp only)

theorem writeAct_keeps (k : Nat) (v : Nat) (s : State) : Keeps 1602203644 s (writeAct k v s).1 := by
  have h0 := Keeps.refl 1602203644 s
  unfold writeAct
  try dsimp only
  repeat' (first
    | intro _
    | with_reducible assumption
    | ((with_reducible apply Keeps.step (actLevel_keeps ..)); exact rfl)
    | ((with_reducible apply Keeps.step (plain_keeps ..)); exact rfl)
    | ((with_reducible apply Keeps.step (writeAdc_keeps ..)); exact rfl)
    | ((with_reducible apply Keeps.step (writeClock_keeps ..)); exact rfl)
    | ((with_reducible apply Keeps.step (writeDriver_keeps ..)); exact rfl)
    | ((with_reducible apply Keeps.step (writeEngine_keeps ..)); exact rfl)
    | ((with_reducible apply Keeps.step (writeFilter_keeps ..)); exact rfl)
    | ((with_reducible apply Keeps.step (writeGate_keeps ..)); exact rfl)
    | ((with_reducible apply Keeps.step (writeLaw_keeps ..)); exact rfl)
    | ((with_reducible apply Keeps.step (writeMemory_keeps ..)); exact rfl)
    | ((with_reducible apply Keeps.step (writeNet_keeps ..)); exact rfl)
    | ((with_reducible apply Keeps.step (writePair_keeps ..)); exact rfl)
    | ((with_reducible apply Keeps.step (writePdo_keeps ..)); exact rfl)
    | ((with_reducible apply Keeps.step (writePower_keeps ..)); exact rfl)
    | ((with_reducible apply Keeps.step (writePwm_keeps ..)); exact rfl)
    | ((with_reducible apply Keeps.step (writeRecorder_keeps ..)); exact rfl)
    | split
    | fail_if_no_progress dsimp only)

theorem takeVal_keeps (k : Nat) (v : Nat) (s : State) : Keeps 1602203644 s (takeVal k v s) := by
  have h0 := Keeps.refl 1602203644 s
  unfold takeVal
  try dsimp only
  repeat' (first
    | with_reducible apply Keeps.ite
    | with_reducible apply Keeps.iteFst
    | with_reducible apply Keeps.iteSnd
    | intro _
    | with_reducible assumption
    | ((with_reducible apply Keeps.step (State.setReg_keeps ..)); exact rfl)
    | ((with_reducible apply Keeps.step (writeAct_keeps ..)); exact rfl)
    | ((with_reducible apply Keeps.step (writeGlCfg_keeps ..)); exact rfl)
    | (fail_if_no_progress with_reducible apply Keeps.update) <;> first | ((with_reducible apply Or.inr); with_reducible rfl) | ((with_reducible apply Or.inl); first | exact rfl) | skip
    | fail_if_no_progress dsimp only)

theorem toDefault_keeps (k : Nat) (s : State) : Keeps 1602203644 s (toDefault k s) := by
  have h0 := Keeps.refl 1602203644 s
  unfold toDefault
  try dsimp only
  repeat' (first
    | intro _
    | with_reducible assumption
    | ((with_reducible apply Keeps.step (takeVal_keeps ..)); exact rfl)
    | fail_if_no_progress dsimp only)

theorem configTaken_keeps (active : Tab Nat) (s : State) : Keeps 33740 s (configTaken active s) := by
  have h0 := Keeps.refl 33740 s
  unfold configTaken
  try dsimp only
  repeat' (first
    | with_reducible apply Keeps.ite
    | with_reducible apply Keeps.iteFst
    | with_reducible apply Keeps.iteSnd
    | intro _
    | with_reducible assumption
    | ((with_reducible apply Keeps.step (State.setLaw_keeps ..)); exact rfl)
    | ((with_reducible apply Keeps.step (lawSetup_keeps ..)); exact rfl)
    | ((with_reducible apply Keeps.step (refreshBases_keeps ..)); exact rfl)
    | ((with_reducible apply Keeps.step (refreshStaged_keeps ..)); exact rfl)
    | ((with_reducible apply Keeps.step (setActive_keeps ..)); exact rfl)
    | fail_if_no_progress dsimp only)

theorem clearStored_keeps (s : State) : Keeps 1310728 s (clearStored s) := by
  have h0 := Keeps.refl 1310728 s
  unfold clearStored
  try dsimp only
  repeat' (first
    | intro _
    | with_reducible assumption
    | ((with_reducible apply Keeps.step (State.setReg_keeps ..)); exact rfl)
    | ((with_reducible apply Keeps.step (resetCodes_keeps ..)); exact rfl)
    | with_reducible apply Keeps.forEach
    | (fail_if_no_progress with_reducible apply Keeps.update) <;> first | ((with_reducible apply Or.inr); with_reducible rfl) | ((with_reducible apply Or.inl); first | exact rfl) | skip
    | fail_if_no_progress dsimp only)

theorem actFactoryReset_keeps (full : Bool) (s : State) : Keeps 1602203644 s (actFactoryReset full s).1 := by
  have h0 := Keeps.refl 1602203644 s
  unfold actFactoryReset
  try dsimp only
  repeat' (first
    | with_reducible apply Keeps.ite
    | with_reducible apply Keeps.iteFst
    | with_reducible apply Keeps.iteSnd
    | intro _
    | with_reducible assumption
    | ((with_reducible apply Keeps.step (State.setReg_keeps ..)); exact rfl)
    | ((with_reducible apply Keeps.step (clearStored_keeps ..)); exact rfl)
    | ((with_reducible apply Keeps.step (configTaken_keeps ..)); exact rfl)
    | ((with_reducible apply stored_keeps); exact rfl)
    | ((with_reducible apply Keeps.step (toDefault_keeps ..)); exact rfl)
    | ((with_reducible apply Keeps.step (writeSlot_keeps ..)); exact rfl)
    | with_reducible apply Keeps.forEach
    | fail_if_no_progress dsimp only)

theorem actScrub_keeps (v : Nat) (s : State) : Keeps 2097164 s (actScrub v s).1 := by
  have h0 := Keeps.refl 2097164 s
  unfold actScrub
  try dsimp only
  repeat' (first
    | with_reducible apply Keeps.ite
    | with_reducible apply Keeps.iteFst
    | with_reducible apply Keeps.iteSnd
    | intro _
    | with_reducible assumption
    | ((with_reducible apply Keeps.step (State.useFree_keeps ..)); exact rfl)
    | ((with_reducible apply Keeps.step (actScrubStart_keeps ..)); exact rfl)
    | ((with_reducible apply Keeps.step (actScrubStop_keeps ..)); exact rfl)
    | fail_if_no_progress dsimp only)

theorem actSwtrig_keeps (n : Nat) (v : Nat) (s : State) : Keeps 524300 s (actSwtrig n v s).1 := by
  have h0 := Keeps.refl 524300 s
  unfold actSwtrig
  try dsimp only
  repeat' (first
    | with_reducible apply Keeps.ite
    | with_reducible apply Keeps.iteFst
    | with_reducible apply Keeps.iteSnd
    | intro _
    | with_reducible assumption
    | ((with_reducible apply Keeps.step (actSwtrigInjected_keeps ..)); exact rfl)
    | ((with_reducible apply Keeps.step (actSwtrigRegular_keeps ..)); exact rfl)
    | fail_if_no_progress dsimp only)

theorem cmdRecorder_keeps (k : Nat) (v : Nat) (s : State) : Keeps 1088421916 s (cmdRecorder k v s).1 := by
  have h0 := Keeps.refl 1088421916 s
  unfold cmdRecorder
  try dsimp only
  repeat' (first
    | with_reducible apply Keeps.ite
    | with_reducible apply Keeps.iteFst
    | with_reducible apply Keeps.iteSnd
    | intro _
    | with_reducible assumption
    | ((with_reducible apply Keeps.step (actArm_keeps ..)); exact rfl)
    | ((with_reducible apply Keeps.step (actIxRead_keeps ..)); exact rfl)
    | ((with_reducible apply Keeps.step (actRcSwtrig_keeps ..)); exact rfl)
    | ((with_reducible apply Keeps.step (actRdRead_keeps ..)); exact rfl)
    | ((with_reducible apply Keeps.step (actRelease_keeps ..)); exact rfl)
    | ((with_reducible apply Keeps.step (actTbCal_keeps ..)); exact rfl)
    | fail_if_no_progress dsimp only)

theorem cmdPwm_keeps (k : Nat) (v : Nat) (s : State) : Keeps 492 s (cmdPwm k v s).1 := by
  have h0 := Keeps.refl 492 s
  unfold cmdPwm
  try dsimp only
  repeat' (first
    | with_reducible apply Keeps.ite
    | with_reducible apply Keeps.iteFst
    | with_reducible apply Keeps.iteSnd
    | intro _
    | with_reducible assumption
    | ((with_reducible apply Keeps.step (actCgStart_keeps ..)); exact rfl)
    | ((with_reducible apply Keeps.step (actCgStop_keeps ..)); exact rfl)
    | ((with_reducible apply Keeps.step (actPwmClear_keeps ..)); exact rfl)
    | ((with_reducible apply Keeps.step (actSwLoadAll_keeps ..)); exact rfl)
    | ((with_reducible apply Keeps.step (actSwWrite_keeps ..)); exact rfl)
    | ((with_reducible apply Keeps.step (actTripClear_keeps ..)); exact rfl)
    | fail_if_no_progress dsimp only)

theorem cmdGate_keeps (k : Nat) (v : Nat) (s : State) : Keeps 520 s (cmdGate k v s).1 := by
  have h0 := Keeps.refl 520 s
  unfold cmdGate
  try dsimp only
  repeat' (first
    | with_reducible apply Keeps.ite
    | with_reducible apply Keeps.iteFst
    | with_reducible apply Keeps.iteSnd
    | intro _
    | with_reducible assumption
    | ((with_reducible apply Keeps.step (actGlClear_keeps ..)); exact rfl)
    | ((with_reducible apply Keeps.step (actGu_keeps ..)); exact rfl)
    | ((with_reducible apply Keeps.step (actTrainReset_keeps ..)); exact rfl)
    | fail_if_no_progress dsimp only)

theorem cmdEngine_keeps (k : Nat) (s : State) : Keeps 262216 s (cmdEngine k s).1 := by
  have h0 := Keeps.refl 262216 s
  unfold cmdEngine
  try dsimp only
  repeat' (first
    | with_reducible apply Keeps.ite
    | with_reducible apply Keeps.iteFst
    | with_reducible apply Keeps.iteSnd
    | intro _
    | with_reducible assumption
    | ((with_reducible apply Keeps.step (actEngineClear_keeps ..)); exact rfl)
    | ((with_reducible apply Keeps.step (actEngineLoad_keeps ..)); exact rfl)
    | ((with_reducible apply Keeps.step (actImgCommit_keeps ..)); exact rfl)
    | ((with_reducible apply Keeps.step (actImgWrite_keeps ..)); exact rfl)
    | fail_if_no_progress dsimp only)

theorem cmdStore_keeps (k : Nat) (v : Nat) (s : State) : Keeps 2139074556 s (cmdStore k v s).1 := by
  have h0 := Keeps.refl 2139074556 s
  unfold cmdStore
  try dsimp only
  repeat' (first
    | with_reducible apply Keeps.ite
    | with_reducible apply Keeps.iteFst
    | with_reducible apply Keeps.iteSnd
    | intro _
    | with_reducible assumption
    | ((with_reducible apply Keeps.step (actFactoryReset_keeps ..)); exact rfl)
    | ((with_reducible apply Keeps.step (actPatchCommit_keeps ..)); exact rfl)
    | ((with_reducible apply Keeps.step (actPatchConfirm_keeps ..)); exact rfl)
    | ((with_reducible apply Keeps.step (actPatchRestart_keeps ..)); exact rfl)
    | ((with_reducible apply Keeps.step (actPatchSelect_keeps ..)); exact rfl)
    | ((with_reducible apply Keeps.step (actPatchWrite_keeps ..)); exact rfl)
    | fail_if_no_progress dsimp only)

theorem cmdAct_keeps (k : Nat) (v : Nat) (replay : Bool) (s : State) : Keeps 2147463166 s (cmdAct k v replay s).1 := by
  have h0 := Keeps.refl 2147463166 s
  unfold cmdAct
  try dsimp only
  repeat' (first
    | with_reducible apply Keeps.ite
    | with_reducible apply Keeps.iteFst
    | with_reducible apply Keeps.iteSnd
    | intro _
    | with_reducible assumption
    | ((with_reducible apply Keeps.step (actAdcClear_keeps ..)); exact rfl)
    | ((with_reducible apply Keeps.step (actApply_keeps ..)); exact rfl)
    | ((with_reducible apply Keeps.step (actBankSel_keeps ..)); exact rfl)
    | ((with_reducible apply Keeps.step (actBatonRenumber_keeps ..)); exact rfl)
    | ((with_reducible apply Keeps.step (actCadCmd_keeps ..)); exact rfl)
    | ((with_reducible apply Keeps.step (actCalForce_keeps ..)); exact rfl)
    | ((with_reducible apply Keeps.step (actCoefCommit_keeps ..)); exact rfl)
    | ((with_reducible apply Keeps.step (actCoefWrite_keeps ..)); exact rfl)
    | ((with_reducible apply Keeps.step (actDmaStart_keeps ..)); exact rfl)
    | ((with_reducible apply Keeps.step (actDrvClear_keeps ..)); exact rfl)
    | ((with_reducible apply Keeps.step (actEccClear_keeps ..)); exact rfl)
    | ((with_reducible apply Keeps.step (actEthApply_keeps ..)); exact rfl)
    | ((with_reducible apply Keeps.step (actFiltClear_keeps ..)); exact rfl)
    | ((with_reducible apply Keeps.step (actMemRead_keeps ..)); exact rfl)
    | ((with_reducible apply Keeps.step (actMemWrite_keeps ..)); exact rfl)
    | ((with_reducible apply Keeps.step (actModBaseline_keeps ..)); exact rfl)
    | ((with_reducible apply Keeps.step (actModeCmd_keeps ..)); exact rfl)
    | ((with_reducible apply Keeps.step (actRelock_keeps ..)); exact rfl)
    | ((with_reducible apply Keeps.step (actRestep_keeps ..)); exact rfl)
    | ((with_reducible apply Keeps.step (actScrub_keeps ..)); exact rfl)
    | ((with_reducible apply Keeps.step (actStandby_keeps ..)); exact rfl)
    | ((with_reducible apply Keeps.step (actSwitchover_keeps ..)); exact rfl)
    | ((with_reducible apply Keeps.step (actSwtrig_keeps ..)); exact rfl)
    | ((with_reducible apply Keeps.step (actTimeSet_keeps ..)); exact rfl)
    | ((with_reducible apply Keeps.step (cmdEngine_keeps ..)); exact rfl)
    | ((with_reducible apply Keeps.step (cmdGate_keeps ..)); exact rfl)
    | ((with_reducible apply Keeps.step (cmdPwm_keeps ..)); exact rfl)
    | ((with_reducible apply Keeps.step (cmdRecorder_keeps ..)); exact rfl)
    | ((with_reducible apply Keeps.step (cmdStore_keeps ..)); exact rfl)
    | split
    | fail_if_no_progress dsimp only)

theorem dictAct_keeps (k : Nat) (v : Nat) (replay : Bool) (s : State) : Keeps 2147463166 s (dictAct k v replay s).1 := by
  have h0 := Keeps.refl 2147463166 s
  unfold dictAct
  try dsimp only
  repeat' (first
    | with_reducible apply Keeps.ite
    | with_reducible apply Keeps.iteFst
    | with_reducible apply Keeps.iteSnd
    | intro _
    | with_reducible assumption
    | ((with_reducible apply Keeps.step (cmdAct_keeps ..)); exact rfl)
    | ((with_reducible apply Keeps.step (writeAct_keeps ..)); exact rfl)
    | split
    | fail_if_no_progress dsimp only)

end Sys2Proof.Machine
end

