-- ==== Sys2Proof/Laws/KeepsJournal.lean ====
section
/-!
SUPPORT. What each function of Machine/Journal.lean keeps, and which parts of the state it leaves alone.
-/

namespace Sys2Proof.Machine

theorem refreshPending_keeps (s : State) : Keeps 8 s (refreshPending s) := by
  have h0 := Keeps.refl 8 s
  unfold refreshPending
  try dsimp only
  repeat' (first
    | intro _
    | with_reducible assumption
    | ((with_reducible apply Keeps.step (State.setReg_keeps ..)); exact rfl)
    | fail_if_no_progress dsimp only)

theorem refusedWrite_keeps (st : Nat) (k : Nat) (v : Nat) (s : State) : Keeps 2147463166 s (refusedWrite st k v s) := by
  have h0 := Keeps.refl 2147463166 s
  unfold refusedWrite
  exact Keeps.ite h0 fun _ => dictAct_keeps ..

theorem State.setStore_keeps (s : State) (m : Store) : Keeps 262144 s (State.setStore s m) := by
  have h0 := Keeps.refl 262144 s
  unfold State.setStore
  try dsimp only
  repeat' (first
    | intro _
    | with_reducible assumption
    | (fail_if_no_progress with_reducible apply Keeps.update) <;> first | ((with_reducible apply Or.inr); with_reducible rfl) | ((with_reducible apply Or.inl); first | exact rfl) | skip
    | fail_if_no_progress dsimp only)

theorem putSession_keeps (x : Session) (s : State) : Keeps 262144 s (putSession x s) := by
  have h0 := Keeps.refl 262144 s
  unfold putSession
  try dsimp only
  repeat' (first
    | intro _
    | with_reducible assumption
    | ((with_reducible apply Keeps.step (State.setStore_keeps ..)); exact rfl)
    | fail_if_no_progress dsimp only)

theorem endSession_keeps (port : Nat) (id : Nat) (s : State) : Keeps 262144 s (endSession port id s) := by
  have h0 := Keeps.refl 262144 s
  unfold endSession
  try dsimp only
  repeat' (first
    | intro _
    | with_reducible assumption
    | ((with_reducible apply Keeps.step (State.setStore_keeps ..)); exact rfl)
    | fail_if_no_progress dsimp only)

theorem touchSession_keeps (port : Nat) (id : Nat) (s : State) : Keeps 262144 s (touchSession port id s) := by
  have h0 := Keeps.refl 262144 s
  unfold touchSession
  try dsimp only
  repeat' (first
    | intro _
    | with_reducible assumption
    | ((with_reducible apply Keeps.step (putSession_keeps ..)); exact rfl)
    | split
    | fail_if_no_progress dsimp only)

theorem trimItems_keeps (port : Nat) (id : Nat) (last : Nat) (s : State) : Keeps 262144 s (trimItems port id last s) := by
  have h0 := Keeps.refl 262144 s
  unfold trimItems
  try dsimp only
  repeat' (first
    | intro _
    | with_reducible assumption
    | ((with_reducible apply Keeps.step (State.setStore_keeps ..)); exact rfl)
    | fail_if_no_progress dsimp only)

theorem commitItem_keeps (port : Nat) (id : Nat) (seq : Nat) (k : Nat) (v : Nat) (s : State) : Keeps 1208221704 s (commitItem port id seq k v s) := by
  have h0 := Keeps.refl 1208221704 s
  unfold commitItem
  try dsimp only
  repeat' (first
    | with_reducible apply Keeps.ite
    | with_reducible apply Keeps.iteFst
    | with_reducible apply Keeps.iteSnd
    | intro _
    | with_reducible assumption
    | ((with_reducible apply Keeps.step (State.setReg_keeps ..)); exact rfl)
    | ((with_reducible apply Keeps.step (State.setStore_keeps ..)); exact rfl)
    | ((with_reducible apply Keeps.step (belaySend_keeps ..)); exact rfl)
    | ((with_reducible apply Keeps.step (putSession_keeps ..)); exact rfl)
    | ((with_reducible apply Keeps.step (refreshPending_keeps ..)); exact rfl)
    | ((with_reducible apply Keeps.step (trimItems_keeps ..)); exact rfl)
    | fail_if_no_progress dsimp only)

theorem mapItem_keeps (port : Nat) (id : Nat) (seq : Nat) (f : JItem → JItem) (s : State) : Keeps 262144 s (mapItem port id seq f s) := by
  have h0 := Keeps.refl 262144 s
  unfold mapItem
  try dsimp only
  repeat' (first
    | with_reducible apply Keeps.ite
    | with_reducible apply Keeps.iteFst
    | with_reducible apply Keeps.iteSnd
    | intro _
    | with_reducible assumption
    | ((with_reducible apply Keeps.step (State.setStore_keeps ..)); exact rfl)
    | fail_if_no_progress dsimp only)

theorem resultOut_keeps (i : JItem) (r : Nat) (s : State) : Keeps 1212022828 s (resultOut i r s) := by
  have h0 := Keeps.refl 1212022828 s
  unfold resultOut
  try dsimp only
  repeat' (first
    | with_reducible apply Keeps.ite
    | with_reducible apply Keeps.iteFst
    | with_reducible apply Keeps.iteSnd
    | intro _
    | with_reducible assumption
    | ((with_reducible apply Keeps.step (belaySend_keeps ..)); exact rfl)
    | ((with_reducible apply Keeps.step (mapItem_keeps ..)); exact rfl)
    | ((with_reducible apply Keeps.step (result_keeps ..)); exact rfl)
    | fail_if_no_progress dsimp only)

theorem applyItem_keeps (i : JItem) (replay : Bool) (s : State) : Keeps 2147463166 s (applyItem i replay s) := by
  have h0 := Keeps.refl 2147463166 s
  unfold applyItem
  try dsimp only
  repeat' (first
    | with_reducible apply Keeps.ite
    | with_reducible apply Keeps.iteFst
    | with_reducible apply Keeps.iteSnd
    | intro _
    | with_reducible assumption
    | ((with_reducible apply Keeps.step (State.setStore_keeps ..)); exact rfl)
    | ((with_reducible apply Keeps.step (addDelta_keeps ..)); exact rfl)
    | ((with_reducible apply Keeps.step (dictAct_keeps ..)); exact rfl)
    | ((with_reducible apply Keeps.step (mapItem_keeps ..)); exact rfl)
    | ((with_reducible apply Keeps.step (refreshPending_keeps ..)); exact rfl)
    | ((with_reducible apply Keeps.step (result_keeps ..)); exact rfl)
    | ((with_reducible apply Keeps.step (resultOut_keeps ..)); exact rfl)
    | split
    | fail_if_no_progress dsimp only)

theorem applyOldest_keeps (s : State) : Keeps 2147463166 s (applyOldest s) := by
  have h0 := Keeps.refl 2147463166 s
  unfold applyOldest
  try dsimp only
  repeat' (first
    | with_reducible apply Keeps.ite
    | with_reducible apply Keeps.iteFst
    | with_reducible apply Keeps.iteSnd
    | intro _
    | with_reducible assumption
    | ((with_reducible apply Keeps.step (applyItem_keeps ..)); exact rfl)
    | split
    | fail_if_no_progress dsimp only)

theorem ndpTake_keeps (p : Nat) (s : State) : Keeps 268435468 s (ndpTake p s) := by
  have h0 := Keeps.refl 268435468 s
  unfold ndpTake
  try dsimp only
  repeat' (first
    | intro _
    | with_reducible assumption
    | ((with_reducible apply Keeps.step (State.bump_keeps ..)); exact rfl)
    | ((with_reducible apply Keeps.step (State.setNet_keeps ..)); exact rfl)
    | fail_if_no_progress dsimp only)

theorem ndpSend_keeps (p : Nat) (to_ : Nat × Nat) (b : List Byte) (s : State) : Keeps 1342177280 s (ndpSend p to_ b s) := by
  have h0 := Keeps.refl 1342177280 s
  unfold ndpSend
  try dsimp only
  repeat' (first
    | with_reducible apply Keeps.ite
    | with_reducible apply Keeps.iteFst
    | with_reducible apply Keeps.iteSnd
    | intro _
    | with_reducible assumption
    | ((with_reducible apply Keeps.step (State.emit_keeps ..)); exact rfl)
    | ((with_reducible apply Keeps.step (ethSend_keeps ..)); exact rfl)
    | fail_if_no_progress dsimp only)

theorem ndpAnswer_keeps (p : Nat) (f : List Byte) (status : Nat) (flags : Nat) (payload : List Byte) (s : State) : Keeps 1342177292 s (ndpAnswer p f status flags payload s) := by
  have h0 := Keeps.refl 1342177292 s
  unfold ndpAnswer
  try dsimp only
  repeat' (first
    | with_reducible apply Keeps.ite
    | with_reducible apply Keeps.iteFst
    | with_reducible apply Keeps.iteSnd
    | intro _
    | with_reducible assumption
    | ((with_reducible apply Keeps.step (State.bump_keeps ..)); exact rfl)
    | ((with_reducible apply Keeps.step (ndpSend_keeps ..)); exact rfl)
    | fail_if_no_progress dsimp only)

theorem linkSeen_keeps (p : Nat) (s : State) : Keeps 12 s (linkSeen p s) := by
  have h0 := Keeps.refl 12 s
  unfold linkSeen
  try dsimp only
  repeat' (first
    | with_reducible apply Keeps.ite
    | with_reducible apply Keeps.iteFst
    | with_reducible apply Keeps.iteSnd
    | intro _
    | with_reducible assumption
    | ((with_reducible apply Keeps.step (State.setReg_keeps ..)); exact rfl)
    | ((with_reducible apply Keeps.step (State.useFree_keeps ..)); exact rfl)
    | fail_if_no_progress dsimp only)

theorem dupForget_keeps (s : State) : Keeps 268435464 s (dupForget s) := by
  have h0 := Keeps.refl 268435464 s
  unfold dupForget
  try dsimp only
  repeat' (first
    | with_reducible apply Keeps.ite
    | with_reducible apply Keeps.iteFst
    | with_reducible apply Keeps.iteSnd
    | intro _
    | with_reducible assumption
    | ((with_reducible apply Keeps.step (State.setFld_keeps ..)); exact rfl)
    | ((with_reducible apply Keeps.step (State.setNet_keeps ..)); exact rfl)
    | with_reducible apply Keeps.forEach
    | fail_if_no_progress dsimp only)

theorem dupCheck_keeps (src : Nat) (seq : Nat) (lan : Nat) (s : State) : Keeps 268435468 s (dupCheck src seq lan s).2 := by
  have h0 := Keeps.refl 268435468 s
  unfold dupCheck
  try dsimp only
  repeat' (first
    | with_reducible apply Keeps.ite
    | with_reducible apply Keeps.iteFst
    | with_reducible apply Keeps.iteSnd
    | intro _
    | with_reducible assumption
    | ((with_reducible apply Keeps.step (State.bump_keeps ..)); exact rfl)
    | ((with_reducible apply Keeps.step (State.setNet_keeps ..)); exact rfl)
    | ((with_reducible apply Keeps.step (dupForget_keeps ..)); exact rfl)
    | fail_if_no_progress dsimp only)

theorem ethIn_keeps (p : Nat) (e : EthIn) (s : State) : Keeps 268435468 s (ethIn p e s).2 := by
  have h0 := Keeps.refl 268435468 s
  unfold ethIn
  try dsimp only
  repeat' (first
    | with_reducible apply Keeps.ite
    | with_reducible apply Keeps.iteFst
    | with_reducible apply Keeps.iteSnd
    | intro _
    | with_reducible assumption
    | ((with_reducible apply Keeps.step (dupCheck_keeps ..)); exact rfl)
    | ((with_reducible apply Keeps.step (linkSeen_keeps ..)); exact rfl)
    | fail_if_no_progress dsimp only)

theorem portIn_keeps (p : Nat) (e : EthIn) (s : State) : Keeps 268435468 s (portIn p e s).2 := by
  have h0 := Keeps.refl 268435468 s
  unfold portIn
  try dsimp only
  repeat' (first
    | with_reducible apply Keeps.ite
    | with_reducible apply Keeps.iteFst
    | with_reducible apply Keeps.iteSnd
    | intro _
    | with_reducible assumption
    | ((with_reducible apply Keeps.step (ethIn_keeps ..)); exact rfl)
    | fail_if_no_progress dsimp only)

theorem ndpReach_keeps (p : Nat) (e : EthIn) (n : Nat) (s : State) : Keeps 268435468 s (ndpReach p e n s).2 := by
  have h0 := Keeps.refl 268435468 s
  unfold ndpReach
  try dsimp only
  repeat' (first
    | with_reducible apply Keeps.ite
    | with_reducible apply Keeps.iteFst
    | with_reducible apply Keeps.iteSnd
    | intro _
    | with_reducible assumption
    | ((with_reducible apply Keeps.step (portIn_keeps ..)); exact rfl)
    | fail_if_no_progress dsimp only)

theorem pdoWrite_keeps (l : List Nat) (b : List Byte) (s : State) : Keeps 1602203644 s (pdoWrite l b s).1 := by
  induction l generalizing b s with
  | nil => exact Keeps.refl _ _
  | cons e t ih =>
    unfold pdoWrite
    dsimp only
    refine Keeps.trans ?_ (ih _ _)
    refine Keeps.iteFst (Keeps.iteFst (Keeps.refl _ _) fun _ => ?_) fun _ => Keeps.refl _ _
    exact Keeps.step (writeAct_keeps ..) rfl (Keeps.refl _ _)

theorem rpdoApply_keeps (i : Nat) (data : List Byte) (s : State) : Keeps 1602203644 s (rpdoApply i data s) := by
  have h0 := Keeps.refl 1602203644 s
  unfold rpdoApply
  try dsimp only
  repeat' (first
    | intro _
    | with_reducible assumption
    | ((with_reducible apply Keeps.step (State.setFld_keeps ..)); exact rfl)
    | ((with_reducible apply Keeps.step (pdoWrite_keeps ..)); exact rfl)
    | fail_if_no_progress dsimp only)

theorem rpdoSeen_keeps (i : Nat) (data : List Byte) (s : State) : Keeps 268435464 s (rpdoSeen i data s) := by
  have h0 := Keeps.refl 268435464 s
  unfold rpdoSeen
  try dsimp only
  repeat' (first
    | intro _
    | with_reducible assumption
    | ((with_reducible apply Keeps.step (State.setFld_keeps ..)); exact rfl)
    | ((with_reducible apply Keeps.step (State.setNet_keeps ..)); exact rfl)
    | fail_if_no_progress dsimp only)

theorem ndpReadOp_keeps (p : Nat) (f : List Byte) (s : State) : Keeps 1342177292 s (ndpReadOp p f s) := by
  have h0 := Keeps.refl 1342177292 s
  unfold ndpReadOp
  try dsimp only
  repeat' (first
    | with_reducible apply Keeps.ite
    | with_reducible apply Keeps.iteFst
    | with_reducible apply Keeps.iteSnd
    | intro _
    | with_reducible assumption
    | ((with_reducible apply Keeps.step (State.setFlag_keeps ..)); exact rfl)
    | ((with_reducible apply Keeps.step (ndpAnswer_keeps ..)); exact rfl)
    | split
    | fail_if_no_progress dsimp only)

theorem ndpReplay_keeps (p : Nat) (f : List Byte) (last : Nat) (s : State) : Keeps 1342177292 s (ndpReplay p f last s) := by
  have h0 := Keeps.refl 1342177292 s
  unfold ndpReplay
  try dsimp only
  repeat' (first
    | with_reducible apply Keeps.ite
    | with_reducible apply Keeps.iteFst
    | with_reducible apply Keeps.iteSnd
    | intro _
    | with_reducible assumption
    | ((with_reducible apply Keeps.step (State.setReg_keeps ..)); exact rfl)
    | ((with_reducible apply Keeps.step (ndpAnswer_keeps ..)); exact rfl)
    | split
    | fail_if_no_progress dsimp only)

theorem ndpWriteNew_keeps (p : Nat) (f : List Byte) (id : Nat) (seq : Nat) (ses : Option Session) (s : State) : Keeps 2147463166 s (ndpWriteNew p f id seq ses s) := by
  have h0 := Keeps.refl 2147463166 s
  unfold ndpWriteNew
  try dsimp only
  repeat' (first
    | with_reducible apply Keeps.ite
    | with_reducible apply Keeps.iteFst
    | with_reducible apply Keeps.iteSnd
    | intro _
    | with_reducible assumption
    | ((with_reducible apply Keeps.step (commitItem_keeps ..)); exact rfl)
    | ((with_reducible apply Keeps.step (ndpAnswer_keeps ..)); exact rfl)
    | ((with_reducible apply Keeps.step (refusedWrite_keeps ..)); exact rfl)
    | ((with_reducible apply Keeps.step (writeAct_keeps ..)); exact rfl)
    | fail_if_no_progress dsimp only)

theorem ndpWriteOp_keeps (p : Nat) (f : List Byte) (s : State) : Keeps 2147463166 s (ndpWriteOp p f s) := by
  have h0 := Keeps.refl 2147463166 s
  unfold ndpWriteOp
  try dsimp only
  repeat' (first
    | with_reducible apply Keeps.ite
    | with_reducible apply Keeps.iteFst
    | with_reducible apply Keeps.iteSnd
    | intro _
    | with_reducible assumption
    | ((with_reducible apply Keeps.step (ndpReplay_keeps ..)); exact rfl)
    | ((with_reducible apply Keeps.step (ndpWriteNew_keeps ..)); exact rfl)
    | split
    | fail_if_no_progress dsimp only)

theorem ndpOpenOp_keeps (p : Nat) (f : List Byte) (s : State) : Keeps 1342439436 s (ndpOpenOp p f s) := by
  have h0 := Keeps.refl 1342439436 s
  unfold ndpOpenOp
  try dsimp only
  repeat' (first
    | with_reducible apply Keeps.ite
    | with_reducible apply Keeps.iteFst
    | with_reducible apply Keeps.iteSnd
    | intro _
    | with_reducible assumption
    | ((with_reducible apply Keeps.step (ndpAnswer_keeps ..)); exact rfl)
    | ((with_reducible apply Keeps.step (putSession_keeps ..)); exact rfl)
    | split
    | fail_if_no_progress dsimp only)

theorem ndpCloseOp_keeps (p : Nat) (f : List Byte) (s : State) : Keeps 1342439436 s (ndpCloseOp p f s) := by
  have h0 := Keeps.refl 1342439436 s
  unfold ndpCloseOp
  try dsimp only
  repeat' (first
    | with_reducible apply Keeps.ite
    | with_reducible apply Keeps.iteFst
    | with_reducible apply Keeps.iteSnd
    | intro _
    | with_reducible assumption
    | ((with_reducible apply Keeps.step (endSession_keeps ..)); exact rfl)
    | ((with_reducible apply Keeps.step (ndpAnswer_keeps ..)); exact rfl)
    | fail_if_no_progress dsimp only)

theorem ndpPdoOp_keeps (p : Nat) (f : List Byte) (s : State) : Keeps 1602203644 s (ndpPdoOp p f s) := by
  have h0 := Keeps.refl 1602203644 s
  unfold ndpPdoOp
  try dsimp only
  repeat' (first
    | with_reducible apply Keeps.ite
    | with_reducible apply Keeps.iteFst
    | with_reducible apply Keeps.iteSnd
    | intro _
    | with_reducible assumption
    | ((with_reducible apply Keeps.step (ndpAnswer_keeps ..)); exact rfl)
    | ((with_reducible apply Keeps.step (rpdoApply_keeps ..)); exact rfl)
    | ((with_reducible apply Keeps.step (rpdoSeen_keeps ..)); exact rfl)
    | fail_if_no_progress dsimp only)

theorem ndpOp_keeps (op : Nat) (p : Nat) (f : List Byte) (s : State) : Keeps 2147463166 s (ndpOp op p f s) := by
  have h0 := Keeps.refl 2147463166 s
  unfold ndpOp
  try dsimp only
  repeat' (first
    | intro _
    | with_reducible assumption
    | ((with_reducible apply Keeps.step (ndpAnswer_keeps ..)); exact rfl)
    | ((with_reducible apply Keeps.step (ndpCloseOp_keeps ..)); exact rfl)
    | ((with_reducible apply Keeps.step (ndpOpenOp_keeps ..)); exact rfl)
    | ((with_reducible apply Keeps.step (ndpPdoOp_keeps ..)); exact rfl)
    | ((with_reducible apply Keeps.step (ndpReadOp_keeps ..)); exact rfl)
    | ((with_reducible apply Keeps.step (ndpWriteOp_keeps ..)); exact rfl)
    | split
    | fail_if_no_progress dsimp only)

theorem ndpFrom_keeps (p : Nat) (e : EthIn) (s : State) : Keeps 268435456 s (ndpFrom p e s) := by
  have h0 := Keeps.refl 268435456 s
  unfold ndpFrom
  try dsimp only
  repeat' (first
    | intro _
    | with_reducible assumption
    | ((with_reducible apply Keeps.step (State.setNet_keeps ..)); exact rfl)
    | fail_if_no_progress dsimp only)

theorem ndpIn_keeps (ops : Nat → Bool) (p : Nat) (l : List Byte) (e : EthIn) (t : Instant) (s : State) : Keeps 2147463167 s (ndpIn ops p l e t s) := by
  have h0 := Keeps.refl 2147463167 s
  unfold ndpIn
  try dsimp only
  repeat' (first
    | with_reducible apply Keeps.ite
    | with_reducible apply Keeps.iteFst
    | with_reducible apply Keeps.iteSnd
    | intro _
    | with_reducible assumption
    | ((with_reducible apply Keeps.step (State.advance_keeps ..)); exact rfl)
    | ((with_reducible apply Keeps.step (ndpFrom_keeps ..)); exact rfl)
    | ((with_reducible apply Keeps.step (ndpOp_keeps ..)); exact rfl)
    | ((with_reducible apply Keeps.step (ndpReach_keeps ..)); exact rfl)
    | ((with_reducible apply Keeps.step (ndpTake_keeps ..)); exact rfl)
    | ((with_reducible apply Keeps.step (touchSession_keeps ..)); exact rfl)
    | fail_if_no_progress dsimp only)

theorem execNdpRead_keeps (port : Fin 10) (frame : List (BitVec 8)) (eth : EthIn) (t : Instant) (s : State) : Outcome.Keeps 2147463167 s (execNdpRead port frame eth t s) := by
  have h0 := Keeps.refl 2147463167 s
  unfold execNdpRead
  try dsimp only
  repeat' (first
    | with_reducible apply Outcome.Keeps.next
    | intro _
    | with_reducible assumption
    | ((with_reducible apply Keeps.step (ndpIn_keeps ..)); exact rfl)
    | fail_if_no_progress dsimp only)

theorem execNdpWrite_keeps (port : Fin 10) (frame : List (BitVec 8)) (eth : EthIn) (t : Instant) (s : State) : Outcome.Keeps 2147463167 s (execNdpWrite port frame eth t s) := by
  have h0 := Keeps.refl 2147463167 s
  unfold execNdpWrite
  try dsimp only
  repeat' (first
    | with_reducible apply Outcome.Keeps.next
    | intro _
    | with_reducible assumption
    | ((with_reducible apply Keeps.step (ndpIn_keeps ..)); exact rfl)
    | fail_if_no_progress dsimp only)

theorem execOpenSession_keeps (port : Fin 10) (frame : List (BitVec 8)) (eth : EthIn) (t : Instant) (s : State) : Outcome.Keeps 2147463167 s (execOpenSession port frame eth t s) := by
  have h0 := Keeps.refl 2147463167 s
  unfold execOpenSession
  try dsimp only
  repeat' (first
    | with_reducible apply Outcome.Keeps.next
    | intro _
    | with_reducible assumption
    | ((with_reducible apply Keeps.step (ndpIn_keeps ..)); exact rfl)
    | fail_if_no_progress dsimp only)

theorem execCloseSession_keeps (port : Fin 10) (frame : List (BitVec 8)) (eth : EthIn) (t : Instant) (s : State) : Outcome.Keeps 2147463167 s (execCloseSession port frame eth t s) := by
  have h0 := Keeps.refl 2147463167 s
  unfold execCloseSession
  try dsimp only
  repeat' (first
    | with_reducible apply Outcome.Keeps.next
    | intro _
    | with_reducible assumption
    | ((with_reducible apply Keeps.step (ndpIn_keeps ..)); exact rfl)
    | fail_if_no_progress dsimp only)

theorem execNdpPdo_keeps (port : Fin 10) (frame : List (BitVec 8)) (eth : EthIn) (t : Instant) (s : State) : Outcome.Keeps 2147463167 s (execNdpPdo port frame eth t s) := by
  have h0 := Keeps.refl 2147463167 s
  unfold execNdpPdo
  try dsimp only
  repeat' (first
    | with_reducible apply Outcome.Keeps.next
    | intro _
    | with_reducible assumption
    | ((with_reducible apply Keeps.step (ndpIn_keeps ..)); exact rfl)
    | fail_if_no_progress dsimp only)

theorem execNdpFrameDiscard_keeps (port : Fin 10) (frame : List (BitVec 8)) (eth : EthIn) (t : Instant) (s : State) : Outcome.Keeps 268435469 s (execNdpFrameDiscard port frame eth t s) := by
  have h0 := Keeps.refl 268435469 s
  unfold execNdpFrameDiscard
  try dsimp only
  repeat' (first
    | with_reducible apply Outcome.Keeps.next
    | with_reducible apply Outcome.Keeps.ite
    | with_reducible apply Keeps.ite
    | with_reducible apply Keeps.iteFst
    | with_reducible apply Keeps.iteSnd
    | intro _
    | with_reducible assumption
    | ((with_reducible apply Keeps.step (State.advance_keeps ..)); exact rfl)
    | ((with_reducible apply Keeps.step (State.bump_keeps ..)); exact rfl)
    | ((with_reducible apply Keeps.step (ndpReach_keeps ..)); exact rfl)
    | fail_if_no_progress dsimp only)

theorem execSessionExpiry_keeps (port : Fin 10) (id : BitVec 32) (t : Instant) (s : State) : Outcome.Keeps 262145 s (execSessionExpiry port id t s) := by
  have h0 := Keeps.refl 262145 s
  unfold execSessionExpiry
  try dsimp only
  repeat' (first
    | with_reducible apply Outcome.Keeps.next
    | with_reducible apply Outcome.Keeps.ite
    | with_reducible apply Keeps.ite
    | with_reducible apply Keeps.iteFst
    | with_reducible apply Keeps.iteSnd
    | intro _
    | with_reducible assumption
    | ((with_reducible apply Keeps.step (State.advance_keeps ..)); exact rfl)
    | ((with_reducible apply Keeps.step (endSession_keeps ..)); exact rfl)
    | split
    | fail_if_no_progress dsimp only)

theorem execRegisterWrite_keeps (port : Fin 10) (idx : BitVec 16) (sub : BitVec 8) (v : BitVec 64) (s : State) : Outcome.Keeps 2147463166 s (execRegisterWrite port idx sub v s) := by
  have h0 := Keeps.refl 2147463166 s
  unfold execRegisterWrite
  try dsimp only
  repeat' (first
    | with_reducible apply Outcome.Keeps.next
    | with_reducible apply Outcome.Keeps.ite
    | with_reducible apply Keeps.ite
    | with_reducible apply Keeps.iteFst
    | with_reducible apply Keeps.iteSnd
    | intro _
    | with_reducible assumption
    | ((with_reducible apply Keeps.step (State.bump_keeps ..)); exact rfl)
    | ((with_reducible apply Keeps.step (dictAct_keeps ..)); exact rfl)
    | ((with_reducible apply Keeps.step (refusedWrite_keeps ..)); exact rfl)
    | ((with_reducible apply stored_keeps); exact rfl)
    | split
    | fail_if_no_progress dsimp only)

end Sys2Proof.Machine
end

