-- ==== Sys2Proof/Laws/KeepsBoot.lean ====
section
/-!
SUPPORT. What each function of Machine/Boot.lean keeps, and which parts of the state it leaves alone.
-/

namespace Sys2Proof.Machine

theorem resetState_keeps (ph : Phase) (cause : Nat) (s : State) : Keeps 1073741816 s (resetState ph cause s) :=
  ⟨rfl, Nat.le_refl _, List.suffix_refl _, memFilter_wf _ _, dictWf_filter _ _, fun p hp => by
    cases p <;> first | rfl | exact absurd hp (by decide)⟩

theorem rstFell_keeps (t : Instant) (s : State) : Keeps 536870912 s (rstFell t s) := by
  have h0 := Keeps.refl 536870912 s
  unfold rstFell
  try dsimp only
  repeat' (first
    | intro _
    | with_reducible assumption
    | (fail_if_no_progress with_reducible apply Keeps.update) <;> first | ((with_reducible apply Or.inr); with_reducible rfl) | ((with_reducible apply Or.inl); first | exact rfl) | skip
    | fail_if_no_progress dsimp only)

theorem execRstNReset_keeps (t : Instant) (s : State) : Outcome.Keeps 1073741817 s (execRstNReset t s) := by
  have h0 := Keeps.refl 1073741817 s
  unfold execRstNReset
  try dsimp only
  repeat' (first
    | with_reducible apply Outcome.Keeps.next
    | intro _
    | with_reducible assumption
    | ((with_reducible apply Keeps.step (State.advance_keeps ..)); exact rfl)
    | ((with_reducible apply Keeps.step (resetState_keeps ..)); exact rfl)
    | ((with_reducible apply Keeps.step (rstFell_keeps ..)); exact rfl)
    | split
    | fail_if_no_progress dsimp only)

theorem execVddUndervoltageReset_keeps (t : Instant) (s : State) : Outcome.Keeps 1073741817 s (execVddUndervoltageReset t s) := by
  have h0 := Keeps.refl 1073741817 s
  unfold execVddUndervoltageReset
  try dsimp only
  repeat' (first
    | with_reducible apply Outcome.Keeps.next
    | with_reducible apply Outcome.Keeps.ite
    | with_reducible apply Keeps.ite
    | with_reducible apply Keeps.iteFst
    | with_reducible apply Keeps.iteSnd
    | intro _
    | with_reducible assumption
    | ((with_reducible apply Keeps.step (State.advance_keeps ..)); exact rfl)
    | ((with_reducible apply Keeps.step (resetState_keeps ..)); exact rfl)
    | split
    | (fail_if_no_progress with_reducible apply Keeps.update) <;> first | ((with_reducible apply Or.inr); with_reducible rfl) | ((with_reducible apply Or.inl); first | exact rfl) | skip
    | fail_if_no_progress dsimp only)

theorem execVddqLoss_keeps (t : Instant) (s : State) : Outcome.Keeps 2097153 s (execVddqLoss t s) := by
  have h0 := Keeps.refl 2097153 s
  unfold execVddqLoss
  try dsimp only
  repeat' (first
    | with_reducible apply Outcome.Keeps.next
    | with_reducible apply Outcome.Keeps.ite
    | with_reducible apply Keeps.ite
    | with_reducible apply Keeps.iteFst
    | with_reducible apply Keeps.iteSnd
    | intro _
    | with_reducible assumption
    | ((with_reducible apply Keeps.step (State.advance_keeps ..)); exact rfl)
    | (fail_if_no_progress with_reducible apply Keeps.update) <;> first | ((with_reducible apply Or.inr); with_reducible rfl) | ((with_reducible apply Or.inl); first | exact rfl) | skip
    | fail_if_no_progress dsimp only)

theorem bootStraps_keeps (l : List (BitVec 5)) (s : State) : Keeps 536870924 s (bootStraps l s) := by
  have h0 := Keeps.refl 536870924 s
  unfold bootStraps
  try dsimp only
  repeat' (first
    | with_reducible apply Keeps.ite
    | with_reducible apply Keeps.iteFst
    | with_reducible apply Keeps.iteSnd
    | intro _
    | with_reducible assumption
    | ((with_reducible apply Keeps.step (State.setFlag_keeps ..)); exact rfl)
    | ((with_reducible apply Keeps.step (State.setReg_keeps ..)); exact rfl)
    | ((with_reducible apply Keeps.step (State.useFree_keeps ..)); exact rfl)
    | (fail_if_no_progress with_reducible apply Keeps.update) <;> first | ((with_reducible apply Or.inr); with_reducible rfl) | ((with_reducible apply Or.inl); first | exact rfl) | skip
    | fail_if_no_progress dsimp only)

theorem bootSettings_keeps (s : State) : Keeps 32908 s (bootSettings s) := by
  have h0 := Keeps.refl 32908 s
  unfold bootSettings
  try dsimp only
  repeat' (first
    | intro _
    | with_reducible assumption
    | ((with_reducible apply Keeps.step (State.setChan_keeps ..)); exact rfl)
    | ((with_reducible apply Keeps.step (State.setReg_keeps ..)); exact rfl)
    | ((with_reducible apply Keeps.step (State.useFree_keeps ..)); exact rfl)
    | ((with_reducible apply Keeps.step (deriveBases_keeps ..)); exact rfl)
    | ((with_reducible apply Keeps.step (refreshBases_keeps ..)); exact rfl)
    | ((with_reducible apply Keeps.step (seeRegs_keeps ..)); exact rfl)
    | with_reducible apply Keeps.forEach
    | with_reducible apply Keeps.foldl
    | with_reducible apply Keeps.foldlFst
    | with_reducible apply Keeps.foldlSnd
    | (fail_if_no_progress with_reducible apply Keeps.update) <;> first | ((with_reducible apply Or.inr); with_reducible rfl) | ((with_reducible apply Or.inl); first | exact rfl) | skip
    | fail_if_no_progress dsimp only)

theorem bootEngines_keeps (s : State) : Keeps 2130908 s (bootEngines s) := by
  have h0 := Keeps.refl 2130908 s
  unfold bootEngines
  try dsimp only
  repeat' (first
    | with_reducible apply Keeps.ite
    | with_reducible apply Keeps.iteFst
    | with_reducible apply Keeps.iteSnd
    | intro _
    | with_reducible assumption
    | ((with_reducible apply Keeps.step (State.setReg_keeps ..)); exact rfl)
    | ((with_reducible apply Keeps.step (imageLoad_keeps ..)); exact rfl)
    | ((with_reducible apply Keeps.step (lawSetup_keeps ..)); exact rfl)
    | ((with_reducible apply Keeps.step (romLoad_keeps ..)); exact rfl)
    | with_reducible apply Keeps.forEach
    | fail_if_no_progress dsimp only)

theorem bootBlocks_keeps (s : State) : Keeps 8029148 s (bootBlocks s) := by
  have h0 := Keeps.refl 8029148 s
  unfold bootBlocks
  try dsimp only
  repeat' (first
    | with_reducible apply Keeps.ite
    | with_reducible apply Keeps.iteFst
    | with_reducible apply Keeps.iteSnd
    | intro _
    | with_reducible assumption
    | ((with_reducible apply Keeps.step (State.setReg_keeps ..)); exact rfl)
    | ((with_reducible apply Keeps.step (adcStart_keeps ..)); exact rfl)
    | ((with_reducible apply Keeps.step (alarmEnable_keeps ..)); exact rfl)
    | ((with_reducible apply Keeps.step (bootEngines_keeps ..)); exact rfl)
    | ((with_reducible apply Keeps.step (dramStart_keeps ..)); exact rfl)
    | ((with_reducible apply Keeps.step (flStart_keeps ..)); exact rfl)
    | ((with_reducible apply Keeps.step (rcEnable_keeps ..)); exact rfl)
    | ((with_reducible apply Keeps.step (restoreCodes_keeps ..)); exact rfl)
    | ((with_reducible apply Keeps.step (sdiRefresh_keeps ..)); exact rfl)
    | with_reducible apply Keeps.forEach
    | fail_if_no_progress dsimp only)

theorem bootReplay_keeps (s : State) : Keeps 2147463166 s (bootReplay s) := by
  have h0 := Keeps.refl 2147463166 s
  unfold bootReplay
  try dsimp only
  repeat' (first
    | intro _
    | with_reducible assumption
    | ((with_reducible apply Keeps.step (State.setStore_keeps ..)); exact rfl)
    | ((with_reducible apply Keeps.step (applyItem_keeps ..)); exact rfl)
    | with_reducible apply Keeps.forEach
    | fail_if_no_progress dsimp only)

theorem bootDefaults_keeps (s : State) : Keeps 1602203644 s (bootDefaults s) := by
  have h0 := Keeps.refl 1602203644 s
  unfold bootDefaults
  try dsimp only
  repeat' (first
    | intro _
    | with_reducible assumption
    | ((with_reducible apply Keeps.step (State.setFlag_keeps ..)); exact rfl)
    | ((with_reducible apply Keeps.step (State.setLaw_keeps ..)); exact rfl)
    | ((with_reducible apply Keeps.step (configTaken_keeps ..)); exact rfl)
    | ((with_reducible apply Keeps.step (toDefault_keeps ..)); exact rfl)
    | with_reducible apply Keeps.forEach
    | fail_if_no_progress dsimp only)

theorem bootRole_keeps (s : State) : Keeps 134291464 s (bootRole s) := by
  have h0 := Keeps.refl 134291464 s
  unfold bootRole
  try dsimp only
  repeat' (first
    | with_reducible apply Keeps.ite
    | with_reducible apply Keeps.iteFst
    | with_reducible apply Keeps.iteSnd
    | intro _
    | with_reducible assumption
    | ((with_reducible apply Keeps.step (State.setReg_keeps ..)); exact rfl)
    | ((with_reducible apply Keeps.step (refreshBatonTx_keeps ..)); exact rfl)
    | ((with_reducible apply Keeps.step (setPairState_keeps ..)); exact rfl)
    | ((with_reducible apply Keeps.step (startClaim_keeps ..)); exact rfl)
    | (fail_if_no_progress with_reducible apply Keeps.update) <;> first | ((with_reducible apply Or.inr); with_reducible rfl) | ((with_reducible apply Or.inl); first | exact rfl) | skip
    | fail_if_no_progress dsimp only)

theorem bootBasecamp_keeps (vdrv : Nat) (s : State) : Keeps 1526836876 s (bootBasecamp vdrv s) := by
  have h0 := Keeps.refl 1526836876 s
  unfold bootBasecamp
  try dsimp only
  repeat' (first
    | intro _
    | with_reducible assumption
    | ((with_reducible apply Keeps.step (State.setFlag_keeps ..)); exact rfl)
    | ((with_reducible apply Keeps.step (State.setReg_keeps ..)); exact rfl)
    | ((with_reducible apply Keeps.step (bootRole_keeps ..)); exact rfl)
    | ((with_reducible apply Keeps.step (canStart_keeps ..)); exact rfl)
    | ((with_reducible apply Keeps.step (driversStart_keeps ..)); exact rfl)
    | ((with_reducible apply Keeps.step (driversUv_keeps ..)); exact rfl)
    | ((with_reducible apply Keeps.step (ethPort_keeps ..)); exact rfl)
    | ((with_reducible apply Keeps.step (forceOffAll_keeps ..)); exact rfl)
    | ((with_reducible apply Keeps.step (laneEnable_keeps ..)); exact rfl)
    | ((with_reducible apply Keeps.step (ptpRestart_keeps ..)); exact rfl)
    | ((with_reducible apply Keeps.step (redundStart_keeps ..)); exact rfl)
    | ((with_reducible apply Keeps.step (seeRegs_keeps ..)); exact rfl)
    | with_reducible apply Keeps.forEach
    | fail_if_no_progress dsimp only)

theorem bootRun_keeps (boot : Nat) (vdrv : Nat) (s : State) : Keeps 2147467262 s (bootRun boot vdrv s) := by
  have h0 := Keeps.refl 2147467262 s
  unfold bootRun
  try dsimp only
  repeat' (first
    | with_reducible apply Keeps.ite
    | with_reducible apply Keeps.iteFst
    | with_reducible apply Keeps.iteSnd
    | intro _
    | with_reducible assumption
    | ((with_reducible apply Keeps.step (bootBasecamp_keeps ..)); exact rfl)
    | ((with_reducible apply Keeps.step (bootBlocks_keeps ..)); exact rfl)
    | ((with_reducible apply Keeps.step (bootDefaults_keeps ..)); exact rfl)
    | ((with_reducible apply Keeps.step (bootPatch_keeps ..)); exact rfl)
    | ((with_reducible apply Keeps.step (bootReplay_keeps ..)); exact rfl)
    | ((with_reducible apply Keeps.step (bootSettings_keeps ..)); exact rfl)
    | ((with_reducible apply Keeps.step (compactStart_keeps ..)); exact rfl)
    | ((with_reducible apply Keeps.step (loadConfig_keeps ..)); exact rfl)
    | (fail_if_no_progress with_reducible apply Keeps.update) <;> first | ((with_reducible apply Or.inr); with_reducible rfl) | ((with_reducible apply Or.inl); first | exact rfl) | skip
    | fail_if_no_progress dsimp only)

theorem bootDevice_keeps (cause : Nat) (start : StartIn) (s : State) : Keeps 2147467263 s (bootDevice cause start s) := by
  have h0 := Keeps.refl 2147467263 s
  unfold bootDevice
  try dsimp only
  repeat' (first
    | with_reducible apply Keeps.ite
    | with_reducible apply Keeps.iteFst
    | with_reducible apply Keeps.iteSnd
    | intro _
    | with_reducible assumption
    | ((with_reducible apply Keeps.step (State.advance_keeps ..)); exact rfl)
    | ((with_reducible apply Keeps.step (State.setReg_keeps ..)); exact rfl)
    | ((with_reducible apply Keeps.step (State.useFree_keeps ..)); exact rfl)
    | ((with_reducible apply Keeps.step (bootRun_keeps ..)); exact rfl)
    | ((with_reducible apply Keeps.step (bootStraps_keeps ..)); exact rfl)
    | ((with_reducible apply Keeps.step (pllLocked_keeps ..)); exact rfl)
    | ((with_reducible apply Keeps.step (readRecs_keeps ..)); exact rfl)
    | with_reducible apply Keeps.forEach
    | (fail_if_no_progress with_reducible apply Keeps.update) <;> first | ((with_reducible apply Or.inr); with_reducible rfl) | ((with_reducible apply Or.inl); first | exact rfl) | skip
    | fail_if_no_progress dsimp only)

theorem ticksFrom_keeps (s : State) : Keeps 16777216 s (ticksFrom s) := by
  have h0 := Keeps.refl 16777216 s
  unfold ticksFrom
  try dsimp only
  repeat' (first
    | intro _
    | with_reducible assumption
    | ((with_reducible apply Keeps.step (State.setClk_keeps ..)); exact rfl)
    | fail_if_no_progress dsimp only)

theorem timeZero_keeps (s : State) : Keeps 16777218 s (timeZero s) := by
  have h0 := Keeps.refl 16777218 s
  unfold timeZero
  try dsimp only
  repeat' (first
    | intro _
    | with_reducible assumption
    | ((with_reducible apply Keeps.step (ticksFrom_keeps ..)); exact rfl)
    | (fail_if_no_progress with_reducible apply Keeps.update) <;> first | ((with_reducible apply Or.inr); with_reducible rfl) | ((with_reducible apply Or.inl); first | exact rfl) | skip
    | fail_if_no_progress dsimp only)

theorem execResetRelease_keeps (start : StartIn) (s : State) : Outcome.Keeps 2147467263 s (execResetRelease start s) := by
  have h0 := Keeps.refl 2147467263 s
  unfold execResetRelease
  try dsimp only
  repeat' (first
    | with_reducible apply Outcome.Keeps.next
    | with_reducible apply Outcome.Keeps.ite
    | with_reducible apply Keeps.ite
    | with_reducible apply Keeps.iteFst
    | with_reducible apply Keeps.iteSnd
    | intro _
    | with_reducible assumption
    | ((with_reducible apply Keeps.step (bootDevice_keeps ..)); exact rfl)
    | ((with_reducible apply Keeps.step (timeZero_keeps ..)); exact rfl)
    | fail_if_no_progress dsimp only)

theorem restartDevice_keeps (start : StartIn) (s : State) : Keeps 2147483647 s (restartDevice start s) := by
  have h0 := Keeps.refl 2147483647 s
  unfold restartDevice
  try dsimp only
  repeat' (first
    | intro _
    | with_reducible assumption
    | ((with_reducible apply Keeps.step (bootDevice_keeps ..)); exact rfl)
    | ((with_reducible apply Keeps.step (resetState_keeps ..)); exact rfl)
    | ((with_reducible apply Keeps.step (timeZero_keeps ..)); exact rfl)
    | fail_if_no_progress dsimp only)

theorem execPatchRestart_keeps (start : StartIn) (s : State) : Outcome.Keeps 2147483647 s (execPatchRestart start s) := by
  have h0 := Keeps.refl 2147483647 s
  unfold execPatchRestart
  try dsimp only
  repeat' (first
    | with_reducible apply Outcome.Keeps.next
    | with_reducible apply Outcome.Keeps.ite
    | with_reducible apply Keeps.ite
    | with_reducible apply Keeps.iteFst
    | with_reducible apply Keeps.iteSnd
    | intro _
    | with_reducible assumption
    | ((with_reducible apply Keeps.step (actPatchRestart_keeps ..)); exact rfl)
    | ((with_reducible apply Keeps.step (restartDevice_keeps ..)); exact rfl)
    | fail_if_no_progress dsimp only)

theorem execJournalApply_keeps (start : StartIn) (t : Instant) (s : State) : Outcome.Keeps 2147483647 s (execJournalApply start t s) := by
  have h0 := Keeps.refl 2147483647 s
  unfold execJournalApply
  try dsimp only
  repeat' (first
    | with_reducible apply Outcome.Keeps.next
    | with_reducible apply Outcome.Keeps.ite
    | with_reducible apply Keeps.ite
    | with_reducible apply Keeps.iteFst
    | with_reducible apply Keeps.iteSnd
    | intro _
    | with_reducible assumption
    | ((with_reducible apply Keeps.step (State.advance_keeps ..)); exact rfl)
    | ((with_reducible apply Keeps.step (applyOldest_keeps ..)); exact rfl)
    | ((with_reducible apply Keeps.step (restartDevice_keeps ..)); exact rfl)
    | fail_if_no_progress dsimp only)

theorem execScbLockstepMismatch_keeps (t : Instant) (s : State) : Outcome.Keeps 319029261 s (execScbLockstepMismatch t s) := by
  have h0 := Keeps.refl 319029261 s
  unfold execScbLockstepMismatch
  try dsimp only
  repeat' (first
    | with_reducible apply Outcome.Keeps.next
    | with_reducible apply Outcome.Keeps.ite
    | with_reducible apply Keeps.ite
    | with_reducible apply Keeps.iteFst
    | with_reducible apply Keeps.iteSnd
    | intro _
    | with_reducible assumption
    | ((with_reducible apply Keeps.step (State.advance_keeps ..)); exact rfl)
    | ((with_reducible apply Keeps.step (State.setClk_keeps ..)); exact rfl)
    | ((with_reducible apply Keeps.step (State.setNet_keeps ..)); exact rfl)
    | ((with_reducible apply Keeps.step (State.setReg_keeps ..)); exact rfl)
    | ((with_reducible apply Keeps.step (State.setStore_keeps ..)); exact rfl)
    | ((with_reducible apply Keeps.step (ptpRestart_keeps ..)); exact rfl)
    | ((with_reducible apply Keeps.step (setRate_keeps ..)); exact rfl)
    | fail_if_no_progress dsimp only)

theorem execScbResume_keeps (t : Instant) (s : State) : Outcome.Keeps 2147463167 s (execScbResume t s) := by
  have h0 := Keeps.refl 2147463167 s
  unfold execScbResume
  try dsimp only
  repeat' (first
    | with_reducible apply Outcome.Keeps.next
    | with_reducible apply Outcome.Keeps.ite
    | with_reducible apply Keeps.ite
    | with_reducible apply Keeps.iteFst
    | with_reducible apply Keeps.iteSnd
    | intro _
    | with_reducible assumption
    | ((with_reducible apply Keeps.step (State.advance_keeps ..)); exact rfl)
    | ((with_reducible apply Keeps.step (State.setNet_keeps ..)); exact rfl)
    | ((with_reducible apply Keeps.step (applyOldest_keeps ..)); exact rfl)
    | with_reducible apply Keeps.forEach
    | split
    | fail_if_no_progress dsimp only)

theorem execScaLockstepMismatch_keeps (t : Instant) (s : State) : Outcome.Keeps 1208340429 s (execScaLockstepMismatch t s) := by
  have h0 := Keeps.refl 1208340429 s
  unfold execScaLockstepMismatch
  try dsimp only
  repeat' (first
    | with_reducible apply Outcome.Keeps.next
    | with_reducible apply Outcome.Keeps.ite
    | with_reducible apply Keeps.ite
    | with_reducible apply Keeps.iteFst
    | with_reducible apply Keeps.iteSnd
    | intro _
    | with_reducible assumption
    | ((with_reducible apply Keeps.step (State.advance_keeps ..)); exact rfl)
    | ((with_reducible apply Keeps.step (State.setReg_keeps ..)); exact rfl)
    | ((with_reducible apply Keeps.step (belaySend_keeps ..)); exact rfl)
    | ((with_reducible apply Keeps.step (cmdRefused_keeps ..)); exact rfl)
    | ((with_reducible apply Keeps.step (driversBasecamp_keeps ..)); exact rfl)
    | ((with_reducible apply Keeps.step (enterBasecamp_keeps ..)); exact rfl)
    | ((with_reducible apply Keeps.step (lanesAllOff_keeps ..)); exact rfl)
    | (fail_if_no_progress with_reducible apply Keeps.update) <;> first | ((with_reducible apply Or.inr); with_reducible rfl) | ((with_reducible apply Or.inl); first | exact rfl) | skip
    | fail_if_no_progress dsimp only)

theorem execStandbyComplete_keeps (t : Instant) (s : State) : Outcome.Keeps 1073741817 s (execStandbyComplete t s) := by
  have h0 := Keeps.refl 1073741817 s
  unfold execStandbyComplete
  try dsimp only
  repeat' (first
    | with_reducible apply Outcome.Keeps.next
    | with_reducible apply Outcome.Keeps.ite
    | with_reducible apply Keeps.ite
    | with_reducible apply Keeps.iteFst
    | with_reducible apply Keeps.iteSnd
    | intro _
    | with_reducible assumption
    | ((with_reducible apply Keeps.step (State.advance_keeps ..)); exact rfl)
    | ((with_reducible apply Keeps.step (State.setReg_keeps ..)); exact rfl)
    | ((with_reducible apply Keeps.step (resetState_keeps ..)); exact rfl)
    | split
    | fail_if_no_progress dsimp only)

theorem timeFromRtc_keeps (t : Instant) (s : State) : Keeps 16777218 s (timeFromRtc t s) := by
  have h0 := Keeps.refl 16777218 s
  unfold timeFromRtc
  try dsimp only
  repeat' (first
    | intro _
    | with_reducible assumption
    | ((with_reducible apply Keeps.step (ticksFrom_keeps ..)); exact rfl)
    | (fail_if_no_progress with_reducible apply Keeps.update) <;> first | ((with_reducible apply Or.inr); with_reducible rfl) | ((with_reducible apply Or.inl); first | exact rfl) | skip
    | fail_if_no_progress dsimp only)

theorem execWake_keeps (rtc : Bool) (start : StartIn) (t : Instant) (s : State) : Outcome.Keeps 2147483647 s (execWake rtc start t s) := by
  have h0 := Keeps.refl 2147483647 s
  unfold execWake
  try dsimp only
  repeat' (first
    | with_reducible apply Outcome.Keeps.next
    | with_reducible apply Outcome.Keeps.ite
    | with_reducible apply Keeps.ite
    | with_reducible apply Keeps.iteFst
    | with_reducible apply Keeps.iteSnd
    | intro _
    | with_reducible assumption
    | ((with_reducible apply Keeps.step (State.advance_keeps ..)); exact rfl)
    | ((with_reducible apply Keeps.step (State.setReg_keeps ..)); exact rfl)
    | ((with_reducible apply Keeps.step (State.setTf_keeps ..)); exact rfl)
    | ((with_reducible apply Keeps.step (bootDevice_keeps ..)); exact rfl)
    | ((with_reducible apply Keeps.step (resetState_keeps ..)); exact rfl)
    | ((with_reducible apply Keeps.step (timeFromRtc_keeps ..)); exact rfl)
    | (fail_if_no_progress with_reducible apply Keeps.update) <;> first | ((with_reducible apply Or.inr); with_reducible rfl) | ((with_reducible apply Or.inl); first | exact rfl) | skip
    | fail_if_no_progress dsimp only)

theorem ldOff_keeps (n : Nat) (s : State) : Keeps 1032 s (ldOff n s) := by
  have h0 := Keeps.refl 1032 s
  unfold ldOff
  try dsimp only
  repeat' (first
    | with_reducible apply Keeps.ite
    | with_reducible apply Keeps.iteFst
    | with_reducible apply Keeps.iteSnd
    | intro _
    | with_reducible assumption
    | ((with_reducible apply Keeps.step (State.setFlag_keeps ..)); exact rfl)
    | ((with_reducible apply Keeps.step (State.setLd_keeps ..)); exact rfl)
    | ((with_reducible apply Keeps.step (ldEnable_keeps ..)); exact rfl)
    | fail_if_no_progress dsimp only)

theorem sdOff_keeps (n : Nat) (s : State) : Keeps 2056 s (sdOff n s) := by
  have h0 := Keeps.refl 2056 s
  unfold sdOff
  try dsimp only
  repeat' (first
    | with_reducible apply Keeps.ite
    | with_reducible apply Keeps.iteFst
    | with_reducible apply Keeps.iteSnd
    | intro _
    | with_reducible assumption
    | ((with_reducible apply Keeps.step (State.setFlag_keeps ..)); exact rfl)
    | ((with_reducible apply Keeps.step (State.setSd_keeps ..)); exact rfl)
    | ((with_reducible apply Keeps.step (sdEnable_keeps ..)); exact rfl)
    | fail_if_no_progress dsimp only)

theorem blockOff_keeps (b : Block) (s : State) : Keeps 75107932 s (blockOff b s) := by
  have h0 := Keeps.refl 75107932 s
  unfold blockOff
  try dsimp only
  repeat' (first
    | with_reducible apply Keeps.ite
    | with_reducible apply Keeps.iteFst
    | with_reducible apply Keeps.iteSnd
    | intro _
    | with_reducible assumption
    | ((with_reducible apply Keeps.step (adcOff_keeps ..)); exact rfl)
    | ((with_reducible apply Keeps.step (engStopped_keeps ..)); exact rfl)
    | ((with_reducible apply Keeps.step (flOff_keeps ..)); exact rfl)
    | ((with_reducible apply Keeps.step (laneOffDone_keeps ..)); exact rfl)
    | ((with_reducible apply Keeps.step (ldOff_keeps ..)); exact rfl)
    | ((with_reducible apply Keeps.step (pdOffDone_keeps ..)); exact rfl)
    | ((with_reducible apply Keeps.step (rcOff_keeps ..)); exact rfl)
    | ((with_reducible apply Keeps.step (sdOff_keeps ..)); exact rfl)
    | split
    | fail_if_no_progress dsimp only)

theorem execBlockShutdownComplete_keeps (b : Block) (t : Instant) (s : State) : Outcome.Keeps 75107933 s (execBlockShutdownComplete b t s) := by
  have h0 := Keeps.refl 75107933 s
  unfold execBlockShutdownComplete
  try dsimp only
  repeat' (first
    | with_reducible apply Outcome.Keeps.next
    | intro _
    | with_reducible assumption
    | ((with_reducible apply Keeps.step (State.advance_keeps ..)); exact rfl)
    | ((with_reducible apply Keeps.step (blockOff_keeps ..)); exact rfl)
    | fail_if_no_progress dsimp only)

theorem blockOn_keeps (b : Block) (s : State) : Keeps 75107932 s (blockOn b s) := by
  have h0 := Keeps.refl 75107932 s
  unfold blockOn
  try dsimp only
  repeat' (first
    | with_reducible apply Keeps.ite
    | with_reducible apply Keeps.iteFst
    | with_reducible apply Keeps.iteSnd
    | intro _
    | with_reducible assumption
    | ((with_reducible apply Keeps.step (adcShutdown_keeps ..)); exact rfl)
    | ((with_reducible apply Keeps.step (laneStarted_keeps ..)); exact rfl)
    | ((with_reducible apply Keeps.step (ldShutdown_keeps ..)); exact rfl)
    | ((with_reducible apply Keeps.step (pdOnDone_keeps ..)); exact rfl)
    | ((with_reducible apply Keeps.step (sdShutdown_keeps ..)); exact rfl)
    | split
    | fail_if_no_progress dsimp only)

theorem execBlockStartupComplete_keeps (b : Block) (t : Instant) (s : State) : Outcome.Keeps 75107933 s (execBlockStartupComplete b t s) := by
  have h0 := Keeps.refl 75107933 s
  unfold execBlockStartupComplete
  try dsimp only
  repeat' (first
    | with_reducible apply Outcome.Keeps.next
    | intro _
    | with_reducible assumption
    | ((with_reducible apply Keeps.step (State.advance_keeps ..)); exact rfl)
    | ((with_reducible apply Keeps.step (blockOn_keeps ..)); exact rfl)
    | fail_if_no_progress dsimp only)

theorem factoryReset_keeps (port : Nat) (v : Nat) (s : State) : Keeps 1602203644 s (factoryReset port v s) := by
  have h0 := Keeps.refl 1602203644 s
  unfold factoryReset
  try dsimp only
  repeat' (first
    | with_reducible apply Keeps.ite
    | with_reducible apply Keeps.iteFst
    | with_reducible apply Keeps.iteSnd
    | intro _
    | with_reducible assumption
    | ((with_reducible apply Keeps.step (State.bump_keeps ..)); exact rfl)
    | ((with_reducible apply Keeps.step (actFactoryReset_keeps ..)); exact rfl)
    | fail_if_no_progress dsimp only)

theorem execFactoryReset_keeps (port : Fin 10) (s : State) : Outcome.Keeps 1602203644 s (execFactoryReset port s) := by
  have h0 := Keeps.refl 1602203644 s
  unfold execFactoryReset
  try dsimp only
  repeat' (first
    | with_reducible apply Outcome.Keeps.next
    | intro _
    | with_reducible assumption
    | ((with_reducible apply Keeps.step (factoryReset_keeps ..)); exact rfl)
    | fail_if_no_progress dsimp only)

theorem execFactoryResetFull_keeps (port : Fin 10) (s : State) : Outcome.Keeps 1602203644 s (execFactoryResetFull port s) := by
  have h0 := Keeps.refl 1602203644 s
  unfold execFactoryResetFull
  try dsimp only
  repeat' (first
    | with_reducible apply Outcome.Keeps.next
    | intro _
    | with_reducible assumption
    | ((with_reducible apply Keeps.step (factoryReset_keeps ..)); exact rfl)
    | fail_if_no_progress dsimp only)

end Sys2Proof.Machine
end

