-- ==== Sys2Proof/Laws/KeepsCycles.lean ====
section
/-!
SUPPORT. What each function of Machine/Cycles.lean keeps, and which parts of the state it leaves alone.
-/

namespace Sys2Proof.Machine

theorem State.bump8_keeps (s : State) (k : Nat) : Keeps 12 s (State.bump8 s k) := by
  have h0 := Keeps.refl 12 s
  unfold State.bump8
  try dsimp only
  repeat' (first
    | with_reducible apply Keeps.ite
    | with_reducible apply Keeps.iteFst
    | with_reducible apply Keeps.iteSnd
    | intro _
    | with_reducible assumption
    | ((with_reducible apply Keeps.step (State.setReg_keeps ..)); exact rfl)
    | ((with_reducible apply Keeps.step (State.useFree_keeps ..)); exact rfl)
    | fail_if_no_progress dsimp only)

theorem missPolicy_keeps (missed : Bool) (s : State) : Keeps 1208340428 s (missPolicy missed s) := by
  have h0 := Keeps.refl 1208340428 s
  unfold missPolicy
  try dsimp only
  repeat' (first
    | with_reducible apply Keeps.ite
    | with_reducible apply Keeps.iteFst
    | with_reducible apply Keeps.iteSnd
    | intro _
    | with_reducible assumption
    | ((with_reducible apply Keeps.step (State.bump8_keeps ..)); exact rfl)
    | ((with_reducible apply Keeps.step (State.setLaw_keeps ..)); exact rfl)
    | ((with_reducible apply Keeps.step (State.setReg_keeps ..)); exact rfl)
    | ((with_reducible apply Keeps.step (enterBasecamp_keeps ..)); exact rfl)
    | ((with_reducible apply Keeps.step (enterHold_keeps ..)); exact rfl)
    | ((with_reducible apply Keeps.step (leaveHold_keeps ..)); exact rfl)
    | fail_if_no_progress dsimp only)

theorem innerRefs_keeps (s : State) : Keeps 1214349884 s (innerRefs s) := by
  have h0 := Keeps.refl 1214349884 s
  unfold innerRefs
  try dsimp only
  repeat' (first
    | with_reducible apply Keeps.ite
    | with_reducible apply Keeps.iteFst
    | with_reducible apply Keeps.iteSnd
    | intro _
    | with_reducible assumption
    | ((with_reducible apply Keeps.step (innerLaw_keeps ..)); exact rfl)
    | fail_if_no_progress dsimp only)

theorem innerPart_keeps (e : Nat) (s : State) : Keeps 1214350076 s (innerPart e s) := by
  have h0 := Keeps.refl 1214350076 s
  unfold innerPart
  try dsimp only
  repeat' (first
    | with_reducible apply Keeps.ite
    | with_reducible apply Keeps.iteFst
    | with_reducible apply Keeps.iteSnd
    | intro _
    | with_reducible assumption
    | ((with_reducible apply Keeps.step (innerRefs_keeps ..)); exact rfl)
    | ((with_reducible apply Keeps.step (threadEngine_keeps ..)); exact rfl)
    | fail_if_no_progress dsimp only)

theorem lateIncrement_keeps (e : Nat) (s : State) : Keeps 1214350076 s (lateIncrement e s) := by
  have h0 := Keeps.refl 1214350076 s
  unfold lateIncrement
  try dsimp only
  repeat' (first
    | with_reducible apply Keeps.ite
    | with_reducible apply Keeps.iteFst
    | with_reducible apply Keeps.iteSnd
    | intro _
    | with_reducible assumption
    | ((with_reducible apply Keeps.step (State.useFree_keeps ..)); exact rfl)
    | ((with_reducible apply Keeps.step (innerPart_keeps ..)); exact rfl)
    | fail_if_no_progress dsimp only)

theorem lateDrops_keeps (e : Nat) (n : Nat) (s : State) : Keeps 12 s (lateDrops e n s) := by
  have h0 := Keeps.refl 12 s
  unfold lateDrops
  try dsimp only
  repeat' (first
    | with_reducible apply Keeps.ite
    | with_reducible apply Keeps.iteFst
    | with_reducible apply Keeps.iteSnd
    | intro _
    | with_reducible assumption
    | ((with_reducible apply Keeps.step (State.bumpBy_keeps ..)); exact rfl)
    | ((with_reducible apply Keeps.step (State.setFlag_keeps ..)); exact rfl)
    | ((with_reducible apply Keeps.step (State.useFree_keeps ..)); exact rfl)
    | fail_if_no_progress dsimp only)

/-- Memory, its annotations and the port numbering put back as they were. -/
theorem Keeps.withMemory {f : Nat} {a r : State} (h : Keeps f a r) (hm : f.testBit 4 = true) (ho : f.testBit 21 = true)
    (hs : f.testBit 5 = true) :
    Keeps f a { r with mem := a.mem, memo := a.memo, serial := a.serial, portSerial := a.portSerial } :=
  ⟨h.queue, h.time, h.outs, id, h.dict, fun p hp => by
    have k := h.parts p hp
    cases p
    case mem => rw [show f.testBit 4 = false from hp] at hm; cases hm
    case memo => rw [show f.testBit 21 = false from hp] at ho; cases ho
    case serial => rw [show f.testBit 5 = false from hp] at hs; cases hs
    all_goals exact k⟩

theorem refsLate_keeps (s : State) : Keeps 1214349884 s (refsLate s) := by
  have h0 := Keeps.refl 1214349884 s
  have hi : Keeps 1214349884 s (innerLaw s) := Keeps.step (innerLaw_keeps ..) rfl h0
  have hl : Keeps 1214349884 s { innerLaw s with law := { (innerLaw s).law with done := s.law.done } } :=
    Keeps.step (State.setLaw_keeps (innerLaw s) { (innerLaw s).law with done := s.law.done }) rfl hi
  have hu := Keeps.step (State.useFree_keeps _) rfl hl
  unfold refsLate
  dsimp only
  refine Keeps.ite (Keeps.ite ?_ fun _ => hu) fun _ => h0
  exact Keeps.step (lateDrops_keeps ..) rfl (Keeps.withMemory hu rfl rfl rfl)

theorem lawWork_keeps (e : Nat) (late : Bool) (s : State) : Keeps 1214350076 s (lawWork e late s) := by
  have h0 := Keeps.refl 1214350076 s
  unfold lawWork
  try dsimp only
  repeat' (first
    | with_reducible apply Keeps.ite
    | with_reducible apply Keeps.iteFst
    | with_reducible apply Keeps.iteSnd
    | intro _
    | with_reducible assumption
    | ((with_reducible apply Keeps.step (State.setLaw_keeps ..)); exact rfl)
    | ((with_reducible apply Keeps.step (innerLaw_keeps ..)); exact rfl)
    | ((with_reducible apply Keeps.step (innerPart_keeps ..)); exact rfl)
    | ((with_reducible apply Keeps.step (lateDrops_keeps ..)); exact rfl)
    | ((with_reducible apply Keeps.step (outerLaw_keeps ..)); exact rfl)
    | ((with_reducible apply Keeps.step (refsLate_keeps ..)); exact rfl)
    | ((with_reducible apply Keeps.step (threadLoops_keeps ..)); exact rfl)
    | with_reducible apply Keeps.foldl
    | with_reducible apply Keeps.foldlFst
    | with_reducible apply Keeps.foldlSnd
    | fail_if_no_progress dsimp only)

theorem passDeadline_keeps (d : Instant) (e : Nat) (s : State) : Keeps 1214350076 s (passDeadline d e s) := by
  have h0 := Keeps.refl 1214350076 s
  unfold passDeadline
  try dsimp only
  repeat' (first
    | with_reducible apply Keeps.ite
    | with_reducible apply Keeps.iteFst
    | with_reducible apply Keeps.iteSnd
    | intro _
    | with_reducible assumption
    | ((with_reducible apply Keeps.step (endPhase_keeps ..)); exact rfl)
    | ((with_reducible apply Keeps.step (lateIncrement_keeps ..)); exact rfl)
    | ((with_reducible apply Keeps.step (missDeadline_keeps ..)); exact rfl)
    | fail_if_no_progress dsimp only)

theorem innerDeadline_keeps (d : Instant) (n : Nat) (s : State) : Keeps 1214631932 s (innerDeadline d n s) := by
  have h0 := Keeps.refl 1214631932 s
  unfold innerDeadline
  try dsimp only
  repeat' (first
    | with_reducible apply Keeps.ite
    | with_reducible apply Keeps.iteFst
    | with_reducible apply Keeps.iteSnd
    | intro _
    | with_reducible assumption
    | ((with_reducible apply Keeps.step (State.setLaw_keeps ..)); exact rfl)
    | ((with_reducible apply Keeps.step (missPolicy_keeps ..)); exact rfl)
    | ((with_reducible apply Keeps.step (pairDeadline_keeps ..)); exact rfl)
    | ((with_reducible apply Keeps.step (passDeadline_keeps ..)); exact rfl)
    | with_reducible apply Keeps.forEach
    | fail_if_no_progress dsimp only)

theorem innerDeadlineDue_keeps (d : Instant) (s : State) : Keeps 1214631932 s (innerDeadlineDue d s) := by
  have h0 := Keeps.refl 1214631932 s
  unfold innerDeadlineDue
  try dsimp only
  repeat' (first
    | intro _
    | with_reducible assumption
    | ((with_reducible apply Keeps.step (innerDeadline_keeps ..)); exact rfl)
    | with_reducible apply Keeps.forEach
    | fail_if_no_progress dsimp only)

theorem deadlinesAt_keeps (t : Instant) (s : State) : Keeps 1214631932 s (deadlinesAt t s) := by
  have h0 := Keeps.refl 1214631932 s
  unfold deadlinesAt
  try dsimp only
  repeat' (first
    | intro _
    | with_reducible assumption
    | ((with_reducible apply Keeps.step (innerDeadlineDue_keeps ..)); exact rfl)
    | ((with_reducible apply Keeps.step (passDeadline_keeps ..)); exact rfl)
    | with_reducible apply Keeps.forEach
    | fail_if_no_progress dsimp only)

theorem execDeadlinePass_keeps (e : Fin 16) (t : Instant) (s : State) : Outcome.Keeps 1214631933 s (execDeadlinePass e t s) := by
  have h0 := Keeps.refl 1214631933 s
  unfold execDeadlinePass
  try dsimp only
  repeat' (first
    | with_reducible apply Outcome.Keeps.next
    | intro _
    | with_reducible assumption
    | ((with_reducible apply Keeps.step (State.advance_keeps ..)); exact rfl)
    | ((with_reducible apply Keeps.step (innerDeadlineDue_keeps ..)); exact rfl)
    | ((with_reducible apply Keeps.step (passDeadline_keeps ..)); exact rfl)
    | fail_if_no_progress dsimp only)

theorem alarmDelivered_keeps (n : Nat) (i : Instant × Bool) (s : State) : Keeps 268 s (alarmDelivered n i s) := by
  have h0 := Keeps.refl 268 s
  unfold alarmDelivered
  try dsimp only
  repeat' (first
    | with_reducible apply Keeps.ite
    | with_reducible apply Keeps.iteFst
    | with_reducible apply Keeps.iteSnd
    | intro _
    | with_reducible assumption
    | ((with_reducible apply Keeps.step (State.bump_keeps ..)); exact rfl)
    | ((with_reducible apply Keeps.step (State.setAlarm_keeps ..)); exact rfl)
    | ((with_reducible apply Keeps.step (State.setFlag_keeps ..)); exact rfl)
    | ((with_reducible apply Keeps.step (State.setFld_keeps ..)); exact rfl)
    | ((with_reducible apply Keeps.step (placeInst_keeps ..)); exact rfl)
    | split
    | fail_if_no_progress dsimp only)

theorem innerBegin_keeps (n : Nat) (i : Instant) (s : State) : Keeps 1214631932 s (innerBegin n i s) := by
  have h0 := Keeps.refl 1214631932 s
  unfold innerBegin
  try dsimp only
  repeat' (first
    | with_reducible apply Keeps.ite
    | with_reducible apply Keeps.iteFst
    | with_reducible apply Keeps.iteSnd
    | intro _
    | with_reducible assumption
    | ((with_reducible apply Keeps.step (State.setLaw_keeps ..)); exact rfl)
    | ((with_reducible apply Keeps.step (innerDeadline_keeps ..)); exact rfl)
    | with_reducible apply Keeps.foldl
    | with_reducible apply Keeps.foldlFst
    | with_reducible apply Keeps.foldlSnd
    | split
    | fail_if_no_progress dsimp only)

theorem innerStart_keeps (n : Nat) (i : Instant) (s : State) : Keeps 1214631932 s (innerStart n i s) := by
  have h0 := Keeps.refl 1214631932 s
  unfold innerStart
  try dsimp only
  repeat' (first
    | with_reducible apply Keeps.ite
    | with_reducible apply Keeps.iteFst
    | with_reducible apply Keeps.iteSnd
    | intro _
    | with_reducible assumption
    | ((with_reducible apply Keeps.step (advanceTheta_keeps ..)); exact rfl)
    | ((with_reducible apply Keeps.step (innerBegin_keeps ..)); exact rfl)
    | ((with_reducible apply Keeps.step (vectorDue_keeps ..)); exact rfl)
    | fail_if_no_progress dsimp only)

theorem heartbeatAlarm_keeps (s : State) : Keeps 1208025100 s (heartbeatAlarm s) := by
  have h0 := Keeps.refl 1208025100 s
  unfold heartbeatAlarm
  try dsimp only
  repeat' (first
    | with_reducible apply Keeps.ite
    | with_reducible apply Keeps.iteFst
    | with_reducible apply Keeps.iteSnd
    | intro _
    | with_reducible assumption
    | ((with_reducible apply Keeps.step (State.setPair_keeps ..)); exact rfl)
    | ((with_reducible apply Keeps.step (pairDeadline_keeps ..)); exact rfl)
    | ((with_reducible apply Keeps.step (sendVector_keeps ..)); exact rfl)
    | fail_if_no_progress dsimp only)

theorem alarmInstance_keeps (n : Nat) (i : Instant × Bool) (s : State) : Keeps 1215156220 s (alarmInstance n i s) := by
  have h0 := Keeps.refl 1215156220 s
  unfold alarmInstance
  try dsimp only
  repeat' (first
    | with_reducible apply Keeps.ite
    | with_reducible apply Keeps.iteFst
    | with_reducible apply Keeps.iteSnd
    | intro _
    | with_reducible assumption
    | ((with_reducible apply Keeps.step (alarmDelivered_keeps ..)); exact rfl)
    | ((with_reducible apply Keeps.step (heartbeatAlarm_keeps ..)); exact rfl)
    | ((with_reducible apply Keeps.step (innerStart_keeps ..)); exact rfl)
    | ((with_reducible apply Keeps.step (raiseTrig_keeps ..)); exact rfl)
    | ((with_reducible apply Keeps.step (startCycle_keeps ..)); exact rfl)
    | with_reducible apply Keeps.forEach
    | fail_if_no_progress dsimp only)

theorem execTimeAlarm_keeps (n : Fin 16) (t : Instant) (s : State) : Outcome.Keeps 1215156221 s (execTimeAlarm n t s) := by
  have h0 := Keeps.refl 1215156221 s
  unfold execTimeAlarm
  try dsimp only
  repeat' (first
    | with_reducible apply Outcome.Keeps.next
    | with_reducible apply Outcome.Keeps.ite
    | with_reducible apply Keeps.ite
    | with_reducible apply Keeps.iteFst
    | with_reducible apply Keeps.iteSnd
    | intro _
    | with_reducible assumption
    | ((with_reducible apply Keeps.step (State.advance_keeps ..)); exact rfl)
    | ((with_reducible apply Keeps.step (alarmInstance_keeps ..)); exact rfl)
    | split
    | fail_if_no_progress dsimp only)

theorem outerOnTime_keeps (s : State) : Keeps 1207992328 s (outerOnTime s) := by
  have h0 := Keeps.refl 1207992328 s
  unfold outerOnTime
  try dsimp only
  repeat' (first
    | with_reducible apply Keeps.ite
    | with_reducible apply Keeps.iteFst
    | with_reducible apply Keeps.iteSnd
    | intro _
    | with_reducible assumption
    | ((with_reducible apply Keeps.step (State.setLaw_keeps ..)); exact rfl)
    | ((with_reducible apply Keeps.step (State.setLs_keeps ..)); exact rfl)
    | ((with_reducible apply Keeps.step (sendVector_keeps ..)); exact rfl)
    | fail_if_no_progress dsimp only)

theorem execEndRegistered_keeps (e : Fin 16) (t : Instant) (s : State) : Outcome.Keeps 1214350077 s (execEndRegistered e t s) := by
  have h0 := Keeps.refl 1214350077 s
  unfold execEndRegistered
  try dsimp only
  repeat' (first
    | with_reducible apply Outcome.Keeps.next
    | with_reducible apply Outcome.Keeps.ite
    | with_reducible apply Keeps.ite
    | with_reducible apply Keeps.iteFst
    | with_reducible apply Keeps.iteSnd
    | intro _
    | with_reducible assumption
    | ((with_reducible apply Keeps.step (State.advance_keeps ..)); exact rfl)
    | ((with_reducible apply Keeps.step (endPhase_keeps ..)); exact rfl)
    | ((with_reducible apply Keeps.step (lateIncrement_keeps ..)); exact rfl)
    | ((with_reducible apply Keeps.step (lawWork_keeps ..)); exact rfl)
    | ((with_reducible apply Keeps.step (missDeadline_keeps ..)); exact rfl)
    | ((with_reducible apply Keeps.step (outerOnTime_keeps ..)); exact rfl)
    | ((with_reducible apply Keeps.step (slack_keeps ..)); exact rfl)
    | fail_if_no_progress dsimp only)

theorem execCarrierEventDeliver_keeps (s : State) : Outcome.Keeps 524417 s (execCarrierEventDeliver s) := by
  have h0 := Keeps.refl 524417 s
  unfold execCarrierEventDeliver
  try dsimp only
  repeat' (first
    | with_reducible apply Outcome.Keeps.next
    | with_reducible apply Outcome.Keeps.ite
    | with_reducible apply Keeps.ite
    | with_reducible apply Keeps.iteFst
    | with_reducible apply Keeps.iteSnd
    | intro _
    | with_reducible assumption
    | ((with_reducible apply Keeps.step (State.advance_keeps ..)); exact rfl)
    | ((with_reducible apply Keeps.step (raiseTrig_keeps ..)); exact rfl)
    | split
    | (fail_if_no_progress with_reducible apply Keeps.update) <;> first | ((with_reducible apply Or.inr); with_reducible rfl) | ((with_reducible apply Or.inl); first | exact rfl) | skip
    | fail_if_no_progress dsimp only)

theorem lookAhead_keeps (la : Instant) (s : State) : Keeps 1214631933 s (lookAhead la s) := by
  have h0 := Keeps.refl 1214631933 s
  unfold lookAhead
  try dsimp only
  repeat' (first
    | intro _
    | with_reducible assumption
    | ((with_reducible apply Keeps.step (State.advance_keeps ..)); exact rfl)
    | ((with_reducible apply Keeps.step (deadlinesAt_keeps ..)); exact rfl)
    | fail_if_no_progress dsimp only)

theorem execCarrierStart_keeps (ts : Instant) (s : State) : Outcome.Keeps 1214631933 s (execCarrierStart ts s) := by
  have h0 := Keeps.refl 1214631933 s
  unfold execCarrierStart
  try dsimp only
  repeat' (first
    | with_reducible apply Outcome.Keeps.next
    | with_reducible apply Outcome.Keeps.ite
    | with_reducible apply Keeps.ite
    | with_reducible apply Keeps.iteFst
    | with_reducible apply Keeps.iteSnd
    | intro _
    | with_reducible assumption
    | ((with_reducible apply Keeps.step (State.setReg_keeps ..)); exact rfl)
    | ((with_reducible apply Keeps.step (lookAhead_keeps ..)); exact rfl)
    | ((with_reducible apply Keeps.step (startCarrier_keeps ..)); exact rfl)
    | with_reducible apply Keeps.forEach
    | fail_if_no_progress dsimp only)

theorem execCarrierWrap_keeps (n : Fin 16) (s : State) : Outcome.Keeps 1214631933 s (execCarrierWrap n s) := by
  have h0 := Keeps.refl 1214631933 s
  unfold execCarrierWrap
  try dsimp only
  repeat' (first
    | with_reducible apply Outcome.Keeps.next
    | with_reducible apply Outcome.Keeps.ite
    | with_reducible apply Keeps.ite
    | with_reducible apply Keeps.iteFst
    | with_reducible apply Keeps.iteSnd
    | intro _
    | with_reducible assumption
    | ((with_reducible apply Keeps.step (lookAhead_keeps ..)); exact rfl)
    | ((with_reducible apply Keeps.step (softStopCheck_keeps ..)); exact rfl)
    | ((with_reducible apply Keeps.step (wrapCarrier_keeps ..)); exact rfl)
    | fail_if_no_progress dsimp only)

end Sys2Proof.Machine
end

