-- ==== Sys2Proof/Laws/KeepsNet.lean ====
section
/-!
SUPPORT. What each function of Machine/Net.lean keeps, and which parts of the state it leaves alone.
-/

namespace Sys2Proof.Machine

theorem sdoAnswer_keeps (can : Nat) (client : Nat) (k : Nat) (st : Nat) (write : Bool) (data : List Byte) (s : State) : Keeps 1073741836 s (sdoAnswer can client k st write data s) := by
  have h0 := Keeps.refl 1073741836 s
  unfold sdoAnswer
  try dsimp only
  repeat' (first
    | with_reducible apply Keeps.ite
    | with_reducible apply Keeps.iteFst
    | with_reducible apply Keeps.iteSnd
    | intro _
    | with_reducible assumption
    | ((with_reducible apply Keeps.step (State.bump_keeps ..)); exact rfl)
    | ((with_reducible apply Keeps.step (State.emit_keeps ..)); exact rfl)
    | fail_if_no_progress dsimp only)

theorem sdoTake_keeps (can : Nat) (client : Nat) (t : Instant) (s : State) : Keeps 262157 s (sdoTake can client t s) := by
  have h0 := Keeps.refl 262157 s
  unfold sdoTake
  try dsimp only
  repeat' (first
    | intro _
    | with_reducible assumption
    | ((with_reducible apply Keeps.step (State.advance_keeps ..)); exact rfl)
    | ((with_reducible apply Keeps.step (State.bump_keeps ..)); exact rfl)
    | ((with_reducible apply Keeps.step (touchSession_keeps ..)); exact rfl)
    | fail_if_no_progress dsimp only)

theorem execSdoRead_keeps (can : Fin 4) (client : BitVec 7) (idx : BitVec 16) (sub : BitVec 8) (t : Instant) (s : State) : Outcome.Keeps 1074003981 s (execSdoRead can client idx sub t s) := by
  have h0 := Keeps.refl 1074003981 s
  unfold execSdoRead
  try dsimp only
  repeat' (first
    | with_reducible apply Outcome.Keeps.next
    | with_reducible apply Outcome.Keeps.ite
    | with_reducible apply Keeps.ite
    | with_reducible apply Keeps.iteFst
    | with_reducible apply Keeps.iteSnd
    | intro _
    | with_reducible assumption
    | ((with_reducible apply Keeps.step (State.setFlag_keeps ..)); exact rfl)
    | ((with_reducible apply Keeps.step (sdoAnswer_keeps ..)); exact rfl)
    | ((with_reducible apply Keeps.step (sdoTake_keeps ..)); exact rfl)
    | split
    | fail_if_no_progress dsimp only)

theorem sdoWriteNew_keeps (can : Nat) (client : Nat) (k : Nat) (data : List Byte) (v : Nat) (p : Nat) (s : State) : Keeps 2147463166 s (sdoWriteNew can client k data v p s) := by
  have h0 := Keeps.refl 2147463166 s
  unfold sdoWriteNew
  try dsimp only
  repeat' (first
    | with_reducible apply Keeps.ite
    | with_reducible apply Keeps.iteFst
    | with_reducible apply Keeps.iteSnd
    | intro _
    | with_reducible assumption
    | ((with_reducible apply Keeps.step (commitItem_keeps ..)); exact rfl)
    | ((with_reducible apply Keeps.step (refusedWrite_keeps ..)); exact rfl)
    | ((with_reducible apply Keeps.step (sdoAnswer_keeps ..)); exact rfl)
    | ((with_reducible apply Keeps.step (writeAct_keeps ..)); exact rfl)
    | fail_if_no_progress dsimp only)

theorem sdoWrite_keeps (can : Nat) (client : Nat) (k : Nat) (data : List Byte) (s : State) : Keeps 2147463166 s (sdoWrite can client k data s) := by
  have h0 := Keeps.refl 2147463166 s
  unfold sdoWrite
  try dsimp only
  repeat' (first
    | with_reducible apply Keeps.ite
    | with_reducible apply Keeps.iteFst
    | with_reducible apply Keeps.iteSnd
    | intro _
    | with_reducible assumption
    | ((with_reducible apply Keeps.step (State.setReg_keeps ..)); exact rfl)
    | ((with_reducible apply Keeps.step (sdoAnswer_keeps ..)); exact rfl)
    | ((with_reducible apply Keeps.step (sdoWriteNew_keeps ..)); exact rfl)
    | split
    | fail_if_no_progress dsimp only)

theorem execSdoWrite_keeps (can : Fin 4) (client : BitVec 7) (idx : BitVec 16) (sub : BitVec 8) (data : List (BitVec 8)) (t : Instant) (s : State) : Outcome.Keeps 2147463167 s (execSdoWrite can client idx sub data t s) := by
  have h0 := Keeps.refl 2147463167 s
  unfold execSdoWrite
  try dsimp only
  repeat' (first
    | with_reducible apply Outcome.Keeps.next
    | with_reducible apply Outcome.Keeps.ite
    | with_reducible apply Keeps.ite
    | with_reducible apply Keeps.iteFst
    | with_reducible apply Keeps.iteSnd
    | intro _
    | with_reducible assumption
    | ((with_reducible apply Keeps.step (sdoTake_keeps ..)); exact rfl)
    | ((with_reducible apply Keeps.step (sdoWrite_keeps ..)); exact rfl)
    | fail_if_no_progress dsimp only)

theorem rpdoFrame_keeps (can : Nat) (i : Nat) (data : List Byte) (s : State) : Keeps 1602203644 s (rpdoFrame can i data s) := by
  have h0 := Keeps.refl 1602203644 s
  unfold rpdoFrame
  try dsimp only
  repeat' (first
    | with_reducible apply Keeps.ite
    | with_reducible apply Keeps.iteFst
    | with_reducible apply Keeps.iteSnd
    | intro _
    | with_reducible assumption
    | ((with_reducible apply Keeps.step (State.setNet_keeps ..)); exact rfl)
    | ((with_reducible apply Keeps.step (rpdoApply_keeps ..)); exact rfl)
    | ((with_reducible apply Keeps.step (rpdoSeen_keeps ..)); exact rfl)
    | fail_if_no_progress dsimp only)

theorem execRpdo_keeps (can : Fin 4) (ext : Bool) (id : BitVec 29) (data : List (BitVec 8)) (t : Instant) (s : State) : Outcome.Keeps 1602203645 s (execRpdo can ext id data t s) := by
  have h0 := Keeps.refl 1602203645 s
  unfold execRpdo
  try dsimp only
  repeat' (first
    | with_reducible apply Outcome.Keeps.next
    | with_reducible apply Outcome.Keeps.ite
    | with_reducible apply Keeps.ite
    | with_reducible apply Keeps.iteFst
    | with_reducible apply Keeps.iteSnd
    | intro _
    | with_reducible assumption
    | ((with_reducible apply Keeps.step (State.advance_keeps ..)); exact rfl)
    | ((with_reducible apply Keeps.step (rpdoFrame_keeps ..)); exact rfl)
    | with_reducible apply Keeps.forEach
    | fail_if_no_progress dsimp only)

theorem execRpdoLate_keeps (i : Fin 16) (t : Instant) (s : State) : Outcome.Keeps 9 s (execRpdoLate i t s) := by
  have h0 := Keeps.refl 9 s
  unfold execRpdoLate
  try dsimp only
  repeat' (first
    | with_reducible apply Outcome.Keeps.next
    | with_reducible apply Outcome.Keeps.ite
    | with_reducible apply Keeps.ite
    | with_reducible apply Keeps.iteFst
    | with_reducible apply Keeps.iteSnd
    | intro _
    | with_reducible assumption
    | ((with_reducible apply Keeps.step (State.advance_keeps ..)); exact rfl)
    | ((with_reducible apply Keeps.step (State.setFld_keeps ..)); exact rfl)
    | fail_if_no_progress dsimp only)

theorem setTpdo_keeps (can : Nat) (i : Nat) (p : Pdo) (s : State) : Keeps 268435456 s (setTpdo can i p s) := by
  have h0 := Keeps.refl 268435456 s
  unfold setTpdo
  try dsimp only
  repeat' (first
    | intro _
    | with_reducible assumption
    | ((with_reducible apply Keeps.step (State.setNet_keeps ..)); exact rfl)
    | fail_if_no_progress dsimp only)

theorem tpdoOut_keeps (i : Nat) (b : List Byte) (can : Nat) (s : State) : Keeps 1342177280 s (tpdoOut i b can s) := by
  have h0 := Keeps.refl 1342177280 s
  unfold tpdoOut
  try dsimp only
  repeat' (first
    | with_reducible apply Keeps.ite
    | with_reducible apply Keeps.iteFst
    | with_reducible apply Keeps.iteSnd
    | intro _
    | with_reducible assumption
    | ((with_reducible apply Keeps.step (State.emit_keeps ..)); exact rfl)
    | ((with_reducible apply Keeps.step (setTpdo_keeps ..)); exact rfl)
    | fail_if_no_progress dsimp only)

theorem execTpdoSend_keeps (i : Fin 16) (t : Instant) (s : State) : Outcome.Keeps 1342177281 s (execTpdoSend i t s) := by
  have h0 := Keeps.refl 1342177281 s
  unfold execTpdoSend
  try dsimp only
  repeat' (first
    | with_reducible apply Outcome.Keeps.next
    | with_reducible apply Outcome.Keeps.ite
    | with_reducible apply Keeps.ite
    | with_reducible apply Keeps.iteFst
    | with_reducible apply Keeps.iteSnd
    | intro _
    | with_reducible assumption
    | ((with_reducible apply Keeps.step (State.advance_keeps ..)); exact rfl)
    | ((with_reducible apply Keeps.step (tpdoOut_keeps ..)); exact rfl)
    | with_reducible apply Keeps.forEach
    | fail_if_no_progress dsimp only)

theorem syncRpdo_keeps (can : Nat) (i : Nat) (s : State) : Keeps 1602203644 s (syncRpdo can i s) := by
  have h0 := Keeps.refl 1602203644 s
  unfold syncRpdo
  try dsimp only
  repeat' (first
    | with_reducible apply Keeps.ite
    | with_reducible apply Keeps.iteFst
    | with_reducible apply Keeps.iteSnd
    | intro _
    | with_reducible assumption
    | ((with_reducible apply Keeps.step (State.setNet_keeps ..)); exact rfl)
    | ((with_reducible apply Keeps.step (rpdoApply_keeps ..)); exact rfl)
    | split
    | fail_if_no_progress dsimp only)

theorem syncTpdo_keeps (can : Nat) (i : Nat) (s : State) : Keeps 1342177280 s (syncTpdo can i s) := by
  have h0 := Keeps.refl 1342177280 s
  unfold syncTpdo
  try dsimp only
  repeat' (first
    | with_reducible apply Keeps.ite
    | with_reducible apply Keeps.iteFst
    | with_reducible apply Keeps.iteSnd
    | intro _
    | with_reducible assumption
    | ((with_reducible apply Keeps.step (setTpdo_keeps ..)); exact rfl)
    | ((with_reducible apply Keeps.step (tpdoOut_keeps ..)); exact rfl)
    | fail_if_no_progress dsimp only)

theorem execCanSync_keeps (can : Fin 4) (t : Instant) (s : State) : Outcome.Keeps 1602203645 s (execCanSync can t s) := by
  have h0 := Keeps.refl 1602203645 s
  unfold execCanSync
  try dsimp only
  repeat' (first
    | with_reducible apply Outcome.Keeps.next
    | with_reducible apply Outcome.Keeps.ite
    | with_reducible apply Keeps.ite
    | with_reducible apply Keeps.iteFst
    | with_reducible apply Keeps.iteSnd
    | intro _
    | with_reducible assumption
    | ((with_reducible apply Keeps.step (State.advance_keeps ..)); exact rfl)
    | ((with_reducible apply Keeps.step (syncRpdo_keeps ..)); exact rfl)
    | ((with_reducible apply Keeps.step (syncTpdo_keeps ..)); exact rfl)
    | with_reducible apply Keeps.forEach
    | fail_if_no_progress dsimp only)

theorem execHeartbeatProduce_keeps (can : Fin 4) (t : Instant) (s : State) : Outcome.Keeps 1342177281 s (execHeartbeatProduce can t s) := by
  have h0 := Keeps.refl 1342177281 s
  unfold execHeartbeatProduce
  try dsimp only
  repeat' (first
    | with_reducible apply Outcome.Keeps.next
    | with_reducible apply Outcome.Keeps.ite
    | with_reducible apply Keeps.ite
    | with_reducible apply Keeps.iteFst
    | with_reducible apply Keeps.iteSnd
    | intro _
    | with_reducible assumption
    | ((with_reducible apply Keeps.step (State.advance_keeps ..)); exact rfl)
    | ((with_reducible apply Keeps.step (State.emit_keeps ..)); exact rfl)
    | ((with_reducible apply Keeps.step (State.setCan_keeps ..)); exact rfl)
    | fail_if_no_progress dsimp only)

theorem execNmtResetNode_keeps (can : Fin 4) (node : BitVec 8) (t : Instant) (s : State) : Outcome.Keeps 1342177289 s (execNmtResetNode can node t s) := by
  have h0 := Keeps.refl 1342177289 s
  unfold execNmtResetNode
  try dsimp only
  repeat' (first
    | with_reducible apply Outcome.Keeps.next
    | with_reducible apply Outcome.Keeps.ite
    | with_reducible apply Keeps.ite
    | with_reducible apply Keeps.iteFst
    | with_reducible apply Keeps.iteSnd
    | intro _
    | with_reducible assumption
    | ((with_reducible apply Keeps.step (State.advance_keeps ..)); exact rfl)
    | ((with_reducible apply Keeps.step (canStart_keeps ..)); exact rfl)
    | fail_if_no_progress dsimp only)

theorem execNmtResetCommunication_keeps (can : Fin 4) (node : BitVec 8) (t : Instant) (s : State) : Outcome.Keeps 1342177289 s (execNmtResetCommunication can node t s) := by
  have h0 := Keeps.refl 1342177289 s
  unfold execNmtResetCommunication
  try dsimp only
  repeat' (first
    | with_reducible apply Outcome.Keeps.next
    | with_reducible apply Outcome.Keeps.ite
    | with_reducible apply Keeps.ite
    | with_reducible apply Keeps.iteFst
    | with_reducible apply Keeps.iteSnd
    | intro _
    | with_reducible assumption
    | ((with_reducible apply Keeps.step (State.advance_keeps ..)); exact rfl)
    | ((with_reducible apply Keeps.step (canStart_keeps ..)); exact rfl)
    | fail_if_no_progress dsimp only)

theorem execNmtStateCommand_keeps (can : Fin 4) (cmd : BitVec 8) (node : BitVec 8) (t : Instant) (s : State) : Outcome.Keeps 9 s (execNmtStateCommand can cmd node t s) := by
  have h0 := Keeps.refl 9 s
  unfold execNmtStateCommand
  try dsimp only
  repeat' (first
    | with_reducible apply Outcome.Keeps.next
    | with_reducible apply Outcome.Keeps.ite
    | with_reducible apply Keeps.ite
    | with_reducible apply Keeps.iteFst
    | with_reducible apply Keeps.iteSnd
    | intro _
    | with_reducible assumption
    | ((with_reducible apply Keeps.step (State.advance_keeps ..)); exact rfl)
    | ((with_reducible apply Keeps.step (State.setReg_keeps ..)); exact rfl)
    | fail_if_no_progress dsimp only)

theorem execBusOff_keeps (can : Fin 4) (t : Instant) (s : State) : Outcome.Keeps 268435465 s (execBusOff can t s) := by
  have h0 := Keeps.refl 268435465 s
  unfold execBusOff
  try dsimp only
  repeat' (first
    | with_reducible apply Outcome.Keeps.next
    | with_reducible apply Outcome.Keeps.ite
    | with_reducible apply Keeps.ite
    | with_reducible apply Keeps.iteFst
    | with_reducible apply Keeps.iteSnd
    | intro _
    | with_reducible assumption
    | ((with_reducible apply Keeps.step (State.advance_keeps ..)); exact rfl)
    | ((with_reducible apply Keeps.step (State.setCan_keeps ..)); exact rfl)
    | ((with_reducible apply Keeps.step (State.setReg_keeps ..)); exact rfl)
    | fail_if_no_progress dsimp only)

theorem execBusOffRestart_keeps (can : Fin 4) (t : Instant) (s : State) : Outcome.Keeps 1342177293 s (execBusOffRestart can t s) := by
  have h0 := Keeps.refl 1342177293 s
  unfold execBusOffRestart
  try dsimp only
  repeat' (first
    | with_reducible apply Outcome.Keeps.next
    | with_reducible apply Outcome.Keeps.ite
    | with_reducible apply Keeps.ite
    | with_reducible apply Keeps.iteFst
    | with_reducible apply Keeps.iteSnd
    | intro _
    | with_reducible assumption
    | ((with_reducible apply Keeps.step (State.advance_keeps ..)); exact rfl)
    | ((with_reducible apply Keeps.step (State.bump_keeps ..)); exact rfl)
    | ((with_reducible apply Keeps.step (State.emit_keeps ..)); exact rfl)
    | ((with_reducible apply Keeps.step (State.setCan_keeps ..)); exact rfl)
    | ((with_reducible apply Keeps.step (State.setReg_keeps ..)); exact rfl)
    | ((with_reducible apply Keeps.step (pdosForget_keeps ..)); exact rfl)
    | fail_if_no_progress dsimp only)

theorem execServiceEnFall_keeps (t : Instant) (s : State) : Outcome.Keeps 268697601 s (execServiceEnFall t s) := by
  have h0 := Keeps.refl 268697601 s
  unfold execServiceEnFall
  try dsimp only
  repeat' (first
    | with_reducible apply Outcome.Keeps.next
    | with_reducible apply Outcome.Keeps.ite
    | with_reducible apply Keeps.ite
    | with_reducible apply Keeps.iteFst
    | with_reducible apply Keeps.iteSnd
    | intro _
    | with_reducible assumption
    | ((with_reducible apply Keeps.step (State.advance_keeps ..)); exact rfl)
    | ((with_reducible apply Keeps.step (State.setNet_keeps ..)); exact rfl)
    | ((with_reducible apply Keeps.step (endSession_keeps ..)); exact rfl)
    | with_reducible apply Keeps.forEach
    | fail_if_no_progress dsimp only)

theorem execServiceEnRise_keeps (t : Instant) (s : State) : Outcome.Keeps 268435457 s (execServiceEnRise t s) := by
  have h0 := Keeps.refl 268435457 s
  unfold execServiceEnRise
  try dsimp only
  repeat' (first
    | with_reducible apply Outcome.Keeps.next
    | with_reducible apply Outcome.Keeps.ite
    | with_reducible apply Keeps.ite
    | with_reducible apply Keeps.iteFst
    | with_reducible apply Keeps.iteSnd
    | intro _
    | with_reducible assumption
    | ((with_reducible apply Keeps.step (State.advance_keeps ..)); exact rfl)
    | ((with_reducible apply Keeps.step (State.setNet_keeps ..)); exact rfl)
    | fail_if_no_progress dsimp only)

theorem execRedundWrite_keeps (v : BitVec 8) (s : State) : Outcome.Keeps 268697608 s (execRedundWrite v s) := by
  have h0 := Keeps.refl 268697608 s
  unfold execRedundWrite
  try dsimp only
  repeat' (first
    | with_reducible apply Outcome.Keeps.next
    | intro _
    | with_reducible assumption
    | ((with_reducible apply Keeps.step (actRedund_keeps ..)); exact rfl)
    | ((with_reducible apply stored_keeps); exact rfl)
    | fail_if_no_progress dsimp only)

theorem execBehaviourLevelWrite_keeps (v : BitVec 8) (s : State) : Outcome.Keeps 8 s (execBehaviourLevelWrite v s) := by
  have h0 := Keeps.refl 8 s
  unfold execBehaviourLevelWrite
  try dsimp only
  repeat' (first
    | with_reducible apply Outcome.Keeps.next
    | intro _
    | with_reducible assumption
    | ((with_reducible apply Keeps.step (actLevel_keeps ..)); exact rfl)
    | fail_if_no_progress dsimp only)

theorem execArpRequest_keeps (port : Fin 4) (target : BitVec 32) (sender : BitVec 48) (senderIp : BitVec 32) (eth : EthIn) (t : Instant) (s : State) : Outcome.Keeps 1342177293 s (execArpRequest port target sender senderIp eth t s) := by
  have h0 := Keeps.refl 1342177293 s
  unfold execArpRequest
  try dsimp only
  repeat' (first
    | with_reducible apply Outcome.Keeps.next
    | with_reducible apply Outcome.Keeps.ite
    | with_reducible apply Keeps.ite
    | with_reducible apply Keeps.iteFst
    | with_reducible apply Keeps.iteSnd
    | intro _
    | with_reducible assumption
    | ((with_reducible apply Keeps.step (State.advance_keeps ..)); exact rfl)
    | ((with_reducible apply Keeps.step (ethSend_keeps ..)); exact rfl)
    | ((with_reducible apply Keeps.step (portIn_keeps ..)); exact rfl)
    | fail_if_no_progress dsimp only)

theorem execIcmpEchoRequest_keeps (port : Fin 4) (dst : BitVec 32) (src : BitVec 32) (fragment : Bool) (data : List (BitVec 8)) (eth : EthIn) (t : Instant) (s : State) : Outcome.Keeps 1342177293 s (execIcmpEchoRequest port dst src fragment data eth t s) := by
  have h0 := Keeps.refl 1342177293 s
  unfold execIcmpEchoRequest
  try dsimp only
  repeat' (first
    | with_reducible apply Outcome.Keeps.next
    | with_reducible apply Outcome.Keeps.ite
    | with_reducible apply Keeps.ite
    | with_reducible apply Keeps.iteFst
    | with_reducible apply Keeps.iteSnd
    | intro _
    | with_reducible assumption
    | ((with_reducible apply Keeps.step (State.advance_keeps ..)); exact rfl)
    | ((with_reducible apply Keeps.step (ethSend_keeps ..)); exact rfl)
    | ((with_reducible apply Keeps.step (portIn_keeps ..)); exact rfl)
    | fail_if_no_progress dsimp only)

theorem execPrpSupervisionSend_keeps (t : Instant) (s : State) : Outcome.Keeps 1342177281 s (execPrpSupervisionSend t s) := by
  have h0 := Keeps.refl 1342177281 s
  unfold execPrpSupervisionSend
  try dsimp only
  repeat' (first
    | with_reducible apply Outcome.Keeps.next
    | with_reducible apply Outcome.Keeps.ite
    | with_reducible apply Keeps.ite
    | with_reducible apply Keeps.iteFst
    | with_reducible apply Keeps.iteSnd
    | intro _
    | with_reducible assumption
    | ((with_reducible apply Keeps.step (State.advance_keeps ..)); exact rfl)
    | ((with_reducible apply Keeps.step (State.setNet_keeps ..)); exact rfl)
    | ((with_reducible apply Keeps.step (ethSend_keeps ..)); exact rfl)
    | fail_if_no_progress dsimp only)

theorem execHsrRingFrame_keeps (arrival : Fin 2) (src : BitVec 48) (seq : BitVec 16) (data : List (BitVec 8)) (t : Instant) (s : State) : Outcome.Keeps 1342177293 s (execHsrRingFrame arrival src seq data t s) := by
  have h0 := Keeps.refl 1342177293 s
  unfold execHsrRingFrame
  try dsimp only
  repeat' (first
    | with_reducible apply Outcome.Keeps.next
    | with_reducible apply Outcome.Keeps.ite
    | with_reducible apply Keeps.ite
    | with_reducible apply Keeps.iteFst
    | with_reducible apply Keeps.iteSnd
    | intro _
    | with_reducible assumption
    | ((with_reducible apply Keeps.step (State.advance_keeps ..)); exact rfl)
    | ((with_reducible apply Keeps.step (State.bump_keeps ..)); exact rfl)
    | ((with_reducible apply Keeps.step (State.emit_keeps ..)); exact rfl)
    | ((with_reducible apply Keeps.step (State.setNet_keeps ..)); exact rfl)
    | ((with_reducible apply Keeps.step (dupForget_keeps ..)); exact rfl)
    | ((with_reducible apply Keeps.step (linkSeen_keeps ..)); exact rfl)
    | split
    | fail_if_no_progress dsimp only)

end Sys2Proof.Machine
end

