-- ==== Sys2Proof/Laws/KeepsPair.lean ====
section
/-!
SUPPORT. What each function of Machine/Pair.lean keeps, and which parts of the state it leaves alone.
-/

namespace Sys2Proof.Machine

theorem belaySeen_keeps (lane : Nat) (s : State) : Keeps 134217736 s (belaySeen lane s) := by
  have h0 := Keeps.refl 134217736 s
  unfold belaySeen
  try dsimp only
  repeat' (first
    | intro _
    | with_reducible assumption
    | ((with_reducible apply Keeps.step (State.setPair_keeps ..)); exact rfl)
    | ((with_reducible apply Keeps.step (State.setPs_keeps ..)); exact rfl)
    | fail_if_no_progress dsimp only)

theorem belayTake_keeps (lane bseq : Nat) (t : Instant) (s : State) : Keeps 134217737 s (belayTake lane bseq t s).2 := by
  have h : Keeps 134217737 s (belaySeen lane (s.advance t)) :=
    Keeps.step (belaySeen_keeps ..) rfl (Keeps.step (State.advance_keeps ..) rfl (Keeps.refl _ _))
  exact Keeps.iteSnd h fun _ => h

theorem belayTake_some_keeps (lane bseq : Nat) (t : Instant) {s s' : State} (e : (belayTake lane bseq t s).1 = some s') :
    Keeps 134217737 s s' := by
  have h : Keeps 134217737 s (belaySeen lane (s.advance t)) :=
    Keeps.step (belaySeen_keeps ..) rfl (Keeps.step (State.advance_keeps ..) rfl (Keeps.refl _ _))
  unfold belayTake at e
  dsimp only at e
  split at e
  · exact absurd e (by simp)
  · injection e with e; subst e; exact Keeps.step (State.setPair_keeps ..) rfl h

theorem belayIn_keeps {f : Nat} {a s : State} (lane bseq : Nat) (t : Instant) (g : State → State) (hf : partsIn 134217737 f = true)
    (hg : ∀ s, Keeps f a s → Keeps f a (g s)) (h : Keeps f a s) : Keeps f a (belayIn lane bseq t g s) := by
  unfold belayIn
  dsimp only
  refine Keeps.ite ?_ fun _ => h
  split
  · next s' e =>
    have h' := Keeps.step (belayTake_some_keeps _ _ _ e) (partsIn_trans rfl hf) h
    exact Keeps.ite h' fun _ => hg _ h'
  · exact Keeps.step (belayTake_keeps ..) (partsIn_trans rfl hf) h

theorem formPair_keeps (s : State) : Keeps 134283272 s (formPair s) := by
  have h0 := Keeps.refl 134283272 s
  unfold formPair
  try dsimp only
  repeat' (first
    | with_reducible apply Keeps.ite
    | with_reducible apply Keeps.iteFst
    | with_reducible apply Keeps.iteSnd
    | intro _
    | with_reducible assumption
    | ((with_reducible apply Keeps.step (State.setPair_keeps ..)); exact rfl)
    | ((with_reducible apply Keeps.step (joined_keeps ..)); exact rfl)
    | ((with_reducible apply Keeps.step (setPairState_keeps ..)); exact rfl)
    | ((with_reducible apply Keeps.step (startClaim_keeps ..)); exact rfl)
    | split
    | fail_if_no_progress dsimp only)

theorem pairFormation_keeps (idDiffers : Bool) (sameSw : Bool) (sameLevel : Bool) (pEn : Bool) (s : State) : Keeps 134283276 s (pairFormation idDiffers sameSw sameLevel pEn s) := by
  have h0 := Keeps.refl 134283276 s
  unfold pairFormation
  try dsimp only
  repeat' (first
    | with_reducible apply Keeps.ite
    | with_reducible apply Keeps.iteFst
    | with_reducible apply Keeps.iteSnd
    | intro _
    | with_reducible assumption
    | ((with_reducible apply Keeps.step (State.setPair_keeps ..)); exact rfl)
    | ((with_reducible apply Keeps.step (State.setPs_keeps ..)); exact rfl)
    | ((with_reducible apply Keeps.step (State.useFree_keeps ..)); exact rfl)
    | ((with_reducible apply Keeps.step (formPair_keeps ..)); exact rfl)
    | fail_if_no_progress dsimp only)

theorem execPairFormation_keeps (idDiffers : Bool) (sameSw : Bool) (sameLevel : Bool) (pEn : Bool) (t : Instant) (s : State) : Outcome.Keeps 134283277 s (execPairFormation idDiffers sameSw sameLevel pEn t s) := by
  have h0 := Keeps.refl 134283277 s
  unfold execPairFormation
  try dsimp only
  repeat' (first
    | with_reducible apply Outcome.Keeps.next
    | with_reducible apply Outcome.Keeps.ite
    | with_reducible apply Keeps.ite
    | with_reducible apply Keeps.iteFst
    | with_reducible apply Keeps.iteSnd
    | intro _
    | with_reducible assumption
    | ((with_reducible apply Keeps.step (State.advance_keeps ..)); exact rfl)
    | ((with_reducible apply Keeps.step (pairFormation_keeps ..)); exact rfl)
    | fail_if_no_progress dsimp only)

theorem execBelayLaneDown_keeps (lane : Fin 2) (t : Instant) (s : State) : Outcome.Keeps 134283277 s (execBelayLaneDown lane t s) := by
  have h0 := Keeps.refl 134283277 s
  unfold execBelayLaneDown
  try dsimp only
  repeat' (first
    | with_reducible apply Outcome.Keeps.next
    | with_reducible apply Outcome.Keeps.ite
    | with_reducible apply Keeps.ite
    | with_reducible apply Keeps.iteFst
    | with_reducible apply Keeps.iteSnd
    | intro _
    | with_reducible assumption
    | ((with_reducible apply Keeps.step (State.advance_keeps ..)); exact rfl)
    | ((with_reducible apply Keeps.step (State.bump_keeps ..)); exact rfl)
    | ((with_reducible apply Keeps.step (State.setPair_keeps ..)); exact rfl)
    | ((with_reducible apply Keeps.step (State.setPs_keeps ..)); exact rfl)
    | ((with_reducible apply Keeps.step (setPairState_keeps ..)); exact rfl)
    | fail_if_no_progress dsimp only)

theorem execBelayLaneUp_keeps (lane : Fin 2) (t : Instant) (s : State) : Outcome.Keeps 134283273 s (execBelayLaneUp lane t s) := by
  have h0 := Keeps.refl 134283273 s
  unfold execBelayLaneUp
  try dsimp only
  repeat' (first
    | with_reducible apply Outcome.Keeps.next
    | with_reducible apply Outcome.Keeps.ite
    | with_reducible apply Keeps.ite
    | with_reducible apply Keeps.iteFst
    | with_reducible apply Keeps.iteSnd
    | intro _
    | with_reducible assumption
    | ((with_reducible apply Keeps.step (State.advance_keeps ..)); exact rfl)
    | ((with_reducible apply Keeps.step (belaySeen_keeps ..)); exact rfl)
    | ((with_reducible apply Keeps.step (formPair_keeps ..)); exact rfl)
    | fail_if_no_progress dsimp only)

theorem joinConfig_keeps (vals : List (Nat × Nat)) (active : List (Nat × Nat)) (s : State) : Keeps 1602203644 s (joinConfig vals active s) := by
  have h0 := Keeps.refl 1602203644 s
  unfold joinConfig
  try dsimp only
  repeat' (first
    | intro _
    | with_reducible assumption
    | ((with_reducible apply Keeps.step (configTaken_keeps ..)); exact rfl)
    | ((with_reducible apply Keeps.step (takeVal_keeps ..)); exact rfl)
    | ((with_reducible apply Keeps.step (toDefault_keeps ..)); exact rfl)
    | ((with_reducible apply Keeps.step (writeSlot_keeps ..)); exact rfl)
    | with_reducible apply Keeps.forEach
    | with_reducible apply Keeps.foldl
    | with_reducible apply Keeps.foldlFst
    | with_reducible apply Keeps.foldlSnd
    | split
    | fail_if_no_progress dsimp only)

theorem joinPart_keeps (p : JoinPart) (s : State) : Keeps 1602203644 s (joinPart p s) := by
  have h0 := Keeps.refl 1602203644 s
  unfold joinPart
  try dsimp only
  repeat' (first
    | with_reducible apply Keeps.ite
    | with_reducible apply Keeps.iteFst
    | with_reducible apply Keeps.iteSnd
    | intro _
    | with_reducible assumption
    | ((with_reducible apply Keeps.step (State.setCarrier_keeps ..)); exact rfl)
    | ((with_reducible apply Keeps.step (State.setPair_keeps ..)); exact rfl)
    | ((with_reducible apply Keeps.step (State.setReg_keeps ..)); exact rfl)
    | ((with_reducible apply Keeps.step (State.setStore_keeps ..)); exact rfl)
    | ((with_reducible apply Keeps.step (carrierAlarmFix_keeps ..)); exact rfl)
    | ((with_reducible apply Keeps.step (joinConfig_keeps ..)); exact rfl)
    | ((with_reducible apply Keeps.step (joined_keeps ..)); exact rfl)
    | ((with_reducible apply Keeps.step (putSession_keeps ..)); exact rfl)
    | ((with_reducible apply Keeps.step (result_keeps ..)); exact rfl)
    | ((with_reducible apply Keeps.step (stepDeferred_keeps ..)); exact rfl)
    | with_reducible apply Keeps.forEach
    | with_reducible apply Keeps.foldl
    | with_reducible apply Keeps.foldlFst
    | with_reducible apply Keeps.foldlSnd
    | split
    | (fail_if_no_progress with_reducible apply Keeps.update) <;> first | ((with_reducible apply Or.inr); with_reducible rfl) | ((with_reducible apply Or.inl); first | exact rfl) | skip
    | fail_if_no_progress dsimp only)

theorem joinTake_keeps (p : JoinPart) (s : State) : Keeps 1602203644 s (joinTake p s) := by
  have h0 := Keeps.refl 1602203644 s
  unfold joinTake
  try dsimp only
  repeat' (first
    | with_reducible apply Keeps.ite
    | with_reducible apply Keeps.iteFst
    | with_reducible apply Keeps.iteSnd
    | intro _
    | with_reducible assumption
    | ((with_reducible apply Keeps.step (joinPart_keeps ..)); exact rfl)
    | ((with_reducible apply Keeps.step (refreshPending_keeps ..)); exact rfl)
    | fail_if_no_progress dsimp only)

theorem execPartnerJoin_keeps (lane : Fin 2) (bseq : BitVec 32) (part : JoinPart) (t : Instant) (s : State) : Outcome.Keeps 1602203645 s (execPartnerJoin lane bseq part t s) := by
  have h0 := Keeps.refl 1602203645 s
  unfold execPartnerJoin
  try dsimp only
  repeat' (first
    | with_reducible apply Outcome.Keeps.next
    | intro _
    | with_reducible assumption
    | ((with_reducible apply belayIn_keeps); exact rfl)
    | ((with_reducible apply Keeps.step (joinTake_keeps ..)); exact rfl)
    | fail_if_no_progress dsimp only)

theorem joinSend_keeps (s : State) : Keeps 1207959556 s (joinSend s) := by
  have h0 := Keeps.refl 1207959556 s
  unfold joinSend
  try dsimp only
  repeat' (first
    | intro _
    | with_reducible assumption
    | ((with_reducible apply Keeps.step (State.useFree_keeps ..)); exact rfl)
    | ((with_reducible apply Keeps.step (belayOut_keeps ..)); exact rfl)
    | with_reducible apply Keeps.forEach
    | fail_if_no_progress dsimp only)

theorem execJoinComplete_keeps (t : Instant) (s : State) : Outcome.Keeps 134283277 s (execJoinComplete t s) := by
  have h0 := Keeps.refl 134283277 s
  unfold execJoinComplete
  try dsimp only
  repeat' (first
    | with_reducible apply Outcome.Keeps.next
    | with_reducible apply Outcome.Keeps.ite
    | with_reducible apply Keeps.ite
    | with_reducible apply Keeps.iteFst
    | with_reducible apply Keeps.iteSnd
    | intro _
    | with_reducible assumption
    | ((with_reducible apply Keeps.step (State.advance_keeps ..)); exact rfl)
    | ((with_reducible apply Keeps.step (State.setPs_keeps ..)); exact rfl)
    | ((with_reducible apply Keeps.step (setPairState_keeps ..)); exact rfl)
    | ((with_reducible apply Keeps.step (setSynced_keeps ..)); exact rfl)
    | fail_if_no_progress dsimp only)

theorem pairOffset_keeps (o : Int) (s : State) : Keeps 150994956 s (pairOffset o s) := by
  have h0 := Keeps.refl 150994956 s
  unfold pairOffset
  try dsimp only
  repeat' (first
    | with_reducible apply Keeps.ite
    | with_reducible apply Keeps.iteFst
    | with_reducible apply Keeps.iteSnd
    | intro _
    | with_reducible assumption
    | ((with_reducible apply Keeps.step (State.setPair_keeps ..)); exact rfl)
    | ((with_reducible apply Keeps.step (State.setPs_keeps ..)); exact rfl)
    | ((with_reducible apply Keeps.step (setOpen_keeps ..)); exact rfl)
    | ((with_reducible apply Keeps.step (validOffset_keeps ..)); exact rfl)
    | fail_if_no_progress dsimp only)

theorem partnerTime_keeps (x : TimeIn) (s : State) : Keeps 150994956 s (partnerTime x s) := by
  have h0 := Keeps.refl 150994956 s
  unfold partnerTime
  try dsimp only
  repeat' (first
    | with_reducible apply Keeps.ite
    | with_reducible apply Keeps.iteFst
    | with_reducible apply Keeps.iteSnd
    | intro _
    | with_reducible assumption
    | ((with_reducible apply Keeps.step (State.setPair_keeps ..)); exact rfl)
    | ((with_reducible apply Keeps.step (pairOffset_keeps ..)); exact rfl)
    | split
    | fail_if_no_progress dsimp only)

theorem execPartnerTime_keeps (lane : Fin 2) (bseq : BitVec 32) (x : TimeIn) (t : Instant) (s : State) : Outcome.Keeps 150994957 s (execPartnerTime lane bseq x t s) := by
  have h0 := Keeps.refl 150994957 s
  unfold execPartnerTime
  try dsimp only
  repeat' (first
    | with_reducible apply Outcome.Keeps.next
    | intro _
    | with_reducible assumption
    | ((with_reducible apply belayIn_keeps); exact rfl)
    | ((with_reducible apply Keeps.step (partnerTime_keeps ..)); exact rfl)
    | fail_if_no_progress dsimp only)

theorem execTimeExchangeSend_keeps (t : Instant) (s : State) : Outcome.Keeps 1207959553 s (execTimeExchangeSend t s) := by
  have h0 := Keeps.refl 1207959553 s
  unfold execTimeExchangeSend
  try dsimp only
  repeat' (first
    | with_reducible apply Outcome.Keeps.next
    | with_reducible apply Outcome.Keeps.ite
    | with_reducible apply Keeps.ite
    | with_reducible apply Keeps.iteFst
    | with_reducible apply Keeps.iteSnd
    | intro _
    | with_reducible assumption
    | ((with_reducible apply Keeps.step (State.advance_keeps ..)); exact rfl)
    | ((with_reducible apply Keeps.step (State.setPair_keeps ..)); exact rfl)
    | ((with_reducible apply Keeps.step (belaySend_keeps ..)); exact rfl)
    | split
    | fail_if_no_progress dsimp only)

theorem applyMirrored_keeps (s : State) : Keeps 1602203644 s (applyMirrored s) := by
  have h0 := Keeps.refl 1602203644 s
  unfold applyMirrored
  try dsimp only
  repeat' (first
    | with_reducible apply Keeps.ite
    | with_reducible apply Keeps.iteFst
    | with_reducible apply Keeps.iteSnd
    | intro _
    | with_reducible assumption
    | ((with_reducible apply Keeps.step (State.setReg_keeps ..)); exact rfl)
    | ((with_reducible apply Keeps.step (State.setStore_keeps ..)); exact rfl)
    | ((with_reducible apply Keeps.step (State.useFree_keeps ..)); exact rfl)
    | ((with_reducible apply Keeps.step (addDelta_keeps ..)); exact rfl)
    | ((with_reducible apply Keeps.step (mapItem_keeps ..)); exact rfl)
    | ((with_reducible apply Keeps.step (refreshPending_keeps ..)); exact rfl)
    | ((with_reducible apply Keeps.step (result_keeps ..)); exact rfl)
    | ((with_reducible apply Keeps.step (writeAct_keeps ..)); exact rfl)
    | split
    | fail_if_no_progress dsimp only)

theorem mirrorApplied_keeps (applied : Nat) (s : State) : Keeps 1602203644 s (mirrorApplied applied s) := by
  have h0 := Keeps.refl 1602203644 s
  unfold mirrorApplied
  try dsimp only
  repeat' (first
    | intro _
    | with_reducible assumption
    | ((with_reducible apply Keeps.step (applyMirrored_keeps ..)); exact rfl)
    | with_reducible apply Keeps.forEach
    | fail_if_no_progress dsimp only)

theorem jItemIn_keeps (port : Nat) (session : Nat) (seq : Nat) (obj : Nat) (val : Nat) (rec_ : Option (Nat × List Nat)) (s : State) : Keeps 1212022828 s (jItemIn port session seq obj val rec_ s) := by
  have h0 := Keeps.refl 1212022828 s
  unfold jItemIn
  try dsimp only
  repeat' (first
    | with_reducible apply Keeps.ite
    | with_reducible apply Keeps.iteFst
    | with_reducible apply Keeps.iteSnd
    | intro _
    | with_reducible assumption
    | ((with_reducible apply Keeps.step (State.setReg_keeps ..)); exact rfl)
    | ((with_reducible apply Keeps.step (State.setStore_keeps ..)); exact rfl)
    | ((with_reducible apply Keeps.step (belaySend_keeps ..)); exact rfl)
    | ((with_reducible apply Keeps.step (mapItem_keeps ..)); exact rfl)
    | ((with_reducible apply Keeps.step (putSession_keeps ..)); exact rfl)
    | ((with_reducible apply Keeps.step (refreshPending_keeps ..)); exact rfl)
    | ((with_reducible apply Keeps.step (result_keeps ..)); exact rfl)
    | ((with_reducible apply Keeps.step (trimItems_keeps ..)); exact rfl)
    | split
    | fail_if_no_progress dsimp only)

theorem execJItem_keeps (lane : Fin 2) (bseq : BitVec 32) (jport : Fin 10) (session : BitVec 32) (seq : BitVec 32) (idx : BitVec 16) (sub : BitVec 8) (v : BitVec 64) (rec : Option (Nat × List Nat)) (t : Instant) (s : State) : Outcome.Keeps 1212022829 s (execJItem lane bseq jport session seq idx sub v rec t s) := by
  have h0 := Keeps.refl 1212022829 s
  unfold execJItem
  try dsimp only
  repeat' (first
    | with_reducible apply Outcome.Keeps.next
    | intro _
    | with_reducible assumption
    | ((with_reducible apply belayIn_keeps); exact rfl)
    | ((with_reducible apply Keeps.step (jItemIn_keeps ..)); exact rfl)
    | fail_if_no_progress dsimp only)

theorem clientAnswer_keeps (i : JItem) (status : Nat) (s : State) : Keeps 1342177292 s (clientAnswer i status s) := by
  have h0 := Keeps.refl 1342177292 s
  unfold clientAnswer
  try dsimp only
  repeat' (first
    | with_reducible apply Keeps.ite
    | with_reducible apply Keeps.iteFst
    | with_reducible apply Keeps.iteSnd
    | intro _
    | with_reducible assumption
    | ((with_reducible apply Keeps.step (State.bump_keeps ..)); exact rfl)
    | ((with_reducible apply Keeps.step (State.emit_keeps ..)); exact rfl)
    | ((with_reducible apply Keeps.step (ndpSend_keeps ..)); exact rfl)
    | fail_if_no_progress dsimp only)

theorem jAckIn_keeps (port : Nat) (session : Nat) (seq : Nat) (s : State) : Keeps 1342439436 s (jAckIn port session seq s) := by
  have h0 := Keeps.refl 1342439436 s
  unfold jAckIn
  try dsimp only
  repeat' (first
    | with_reducible apply Keeps.ite
    | with_reducible apply Keeps.iteFst
    | with_reducible apply Keeps.iteSnd
    | intro _
    | with_reducible assumption
    | ((with_reducible apply Keeps.step (clientAnswer_keeps ..)); exact rfl)
    | ((with_reducible apply Keeps.step (mapItem_keeps ..)); exact rfl)
    | split
    | fail_if_no_progress dsimp only)

theorem execJAck_keeps (lane : Fin 2) (bseq : BitVec 32) (jport : Fin 10) (session : BitVec 32) (seq : BitVec 32) (t : Instant) (s : State) : Outcome.Keeps 1476657165 s (execJAck lane bseq jport session seq t s) := by
  have h0 := Keeps.refl 1476657165 s
  unfold execJAck
  try dsimp only
  repeat' (first
    | with_reducible apply Outcome.Keeps.next
    | intro _
    | with_reducible assumption
    | ((with_reducible apply belayIn_keeps); exact rfl)
    | ((with_reducible apply Keeps.step (jAckIn_keeps ..)); exact rfl)
    | fail_if_no_progress dsimp only)

theorem voidItem_keeps (port : Nat) (session : Nat) (seq : Nat) (s : State) : Keeps 262152 s (voidItem port session seq s) := by
  have h0 := Keeps.refl 262152 s
  unfold voidItem
  try dsimp only
  repeat' (first
    | with_reducible apply Keeps.ite
    | with_reducible apply Keeps.iteFst
    | with_reducible apply Keeps.iteSnd
    | intro _
    | with_reducible assumption
    | ((with_reducible apply Keeps.step (mapItem_keeps ..)); exact rfl)
    | ((with_reducible apply Keeps.step (putSession_keeps ..)); exact rfl)
    | ((with_reducible apply Keeps.step (refreshPending_keeps ..)); exact rfl)
    | split
    | fail_if_no_progress dsimp only)

theorem execJAckTimeout_keeps (t : Instant) (s : State) : Outcome.Keeps 1476657165 s (execJAckTimeout t s) := by
  have h0 := Keeps.refl 1476657165 s
  unfold execJAckTimeout
  try dsimp only
  repeat' (first
    | with_reducible apply Outcome.Keeps.next
    | with_reducible apply Outcome.Keeps.ite
    | with_reducible apply Keeps.ite
    | with_reducible apply Keeps.iteFst
    | with_reducible apply Keeps.iteSnd
    | intro _
    | with_reducible assumption
    | ((with_reducible apply Keeps.step (State.advance_keeps ..)); exact rfl)
    | ((with_reducible apply Keeps.step (belaySend_keeps ..)); exact rfl)
    | ((with_reducible apply Keeps.step (clientAnswer_keeps ..)); exact rfl)
    | ((with_reducible apply Keeps.step (setMirrorLost_keeps ..)); exact rfl)
    | ((with_reducible apply Keeps.step (voidItem_keeps ..)); exact rfl)
    | split
    | fail_if_no_progress dsimp only)

theorem jVoidIn_keeps (port : Nat) (session : Nat) (seq : Nat) (s : State) : Keeps 262152 s (jVoidIn port session seq s) := by
  have h0 := Keeps.refl 262152 s
  unfold jVoidIn
  try dsimp only
  repeat' (first
    | with_reducible apply Keeps.ite
    | with_reducible apply Keeps.iteFst
    | with_reducible apply Keeps.iteSnd
    | intro _
    | with_reducible assumption
    | ((with_reducible apply Keeps.step (voidItem_keeps ..)); exact rfl)
    | split
    | fail_if_no_progress dsimp only)

theorem execJVoid_keeps (lane : Fin 2) (bseq : BitVec 32) (jport : Fin 10) (session : BitVec 32) (seq : BitVec 32) (t : Instant) (s : State) : Outcome.Keeps 134479881 s (execJVoid lane bseq jport session seq t s) := by
  have h0 := Keeps.refl 134479881 s
  unfold execJVoid
  try dsimp only
  repeat' (first
    | with_reducible apply Outcome.Keeps.next
    | intro _
    | with_reducible assumption
    | ((with_reducible apply belayIn_keeps); exact rfl)
    | ((with_reducible apply Keeps.step (jVoidIn_keeps ..)); exact rfl)
    | fail_if_no_progress dsimp only)

theorem partnerDict_keeps (f : List Byte) (s : State) : Keeps 2147463167 s (partnerDict f s) := by
  have h0 := Keeps.refl 2147463167 s
  unfold partnerDict
  try dsimp only
  repeat' (first
    | with_reducible apply Keeps.ite
    | with_reducible apply Keeps.iteFst
    | with_reducible apply Keeps.iteSnd
    | intro _
    | with_reducible assumption
    | ((with_reducible apply Keeps.step (State.bump_keeps ..)); exact rfl)
    | ((with_reducible apply Keeps.step (ndpIn_keeps ..)); exact rfl)
    | fail_if_no_progress dsimp only)

theorem execPartnerDict_keeps (lane : Fin 2) (bseq : BitVec 32) (frame : List (BitVec 8)) (t : Instant) (s : State) : Outcome.Keeps 2147463167 s (execPartnerDict lane bseq frame t s) := by
  have h0 := Keeps.refl 2147463167 s
  unfold execPartnerDict
  try dsimp only
  repeat' (first
    | with_reducible apply Outcome.Keeps.next
    | intro _
    | with_reducible assumption
    | ((with_reducible apply belayIn_keeps); exact rfl)
    | ((with_reducible apply Keeps.step (partnerDict_keeps ..)); exact rfl)
    | fail_if_no_progress dsimp only)

theorem alignCycle_keeps (b : Beat) (s : State) : Keeps 134250496 s (alignCycle b s) := by
  have h0 := Keeps.refl 134250496 s
  unfold alignCycle
  try dsimp only
  repeat' (first
    | with_reducible apply Keeps.ite
    | with_reducible apply Keeps.iteFst
    | with_reducible apply Keeps.iteSnd
    | intro _
    | with_reducible assumption
    | ((with_reducible apply Keeps.step (State.setLaw_keeps ..)); exact rfl)
    | ((with_reducible apply Keeps.step (State.setPair_keeps ..)); exact rfl)
    | fail_if_no_progress dsimp only)

theorem servePartner_keeps (b : Beat) (before : Option Beat) (s : State) : Keeps 1207959556 s (servePartner b before s) := by
  have h0 := Keeps.refl 1207959556 s
  unfold servePartner
  try dsimp only
  repeat' (first
    | with_reducible apply Keeps.ite
    | with_reducible apply Keeps.iteFst
    | with_reducible apply Keeps.iteSnd
    | intro _
    | with_reducible assumption
    | ((with_reducible apply Keeps.step (State.setPair_keeps ..)); exact rfl)
    | ((with_reducible apply Keeps.step (joinSend_keeps ..)); exact rfl)
    | fail_if_no_progress dsimp only)

theorem heartbeatIn_keeps (b : Beat) (s : State) : Keeps 1602220028 s (heartbeatIn b s) := by
  have h0 := Keeps.refl 1602220028 s
  unfold heartbeatIn
  try dsimp only
  repeat' (first
    | with_reducible apply Keeps.ite
    | with_reducible apply Keeps.iteFst
    | with_reducible apply Keeps.iteSnd
    | intro _
    | with_reducible assumption
    | ((with_reducible apply Keeps.step (State.setPair_keeps ..)); exact rfl)
    | ((with_reducible apply Keeps.step (State.setPs_keeps ..)); exact rfl)
    | ((with_reducible apply Keeps.step (alignCycle_keeps ..)); exact rfl)
    | ((with_reducible apply Keeps.step (formPair_keeps ..)); exact rfl)
    | ((with_reducible apply Keeps.step (learnBaton_keeps ..)); exact rfl)
    | ((with_reducible apply Keeps.step (mirrorApplied_keeps ..)); exact rfl)
    | ((with_reducible apply Keeps.step (servePartner_keeps ..)); exact rfl)
    | ((with_reducible apply Keeps.step (setMirrorLost_keeps ..)); exact rfl)
    | ((with_reducible apply Keeps.step (setPairState_keeps ..)); exact rfl)
    | ((with_reducible apply Keeps.step (setSynced_keeps ..)); exact rfl)
    | fail_if_no_progress dsimp only)

theorem execPartnerHeartbeat_keeps (lane : Fin 2) (frame : List (BitVec 8)) (t : Instant) (s : State) : Outcome.Keeps 1602220029 s (execPartnerHeartbeat lane frame t s) := by
  have h0 := Keeps.refl 1602220029 s
  unfold execPartnerHeartbeat
  try dsimp only
  repeat' (first
    | with_reducible apply Outcome.Keeps.next
    | with_reducible apply Outcome.Keeps.ite
    | with_reducible apply Keeps.ite
    | with_reducible apply Keeps.iteFst
    | with_reducible apply Keeps.iteSnd
    | intro _
    | with_reducible assumption
    | ((with_reducible apply Keeps.step (State.advance_keeps ..)); exact rfl)
    | ((with_reducible apply Keeps.step (State.bump_keeps ..)); exact rfl)
    | ((with_reducible apply belayIn_keeps); exact rfl)
    | ((with_reducible apply Keeps.step (heartbeatIn_keeps ..)); exact rfl)
    | fail_if_no_progress dsimp only)

theorem execPartnerStateVector_keeps (lane : Fin 2) (bseq : BitVec 32) (v : StateVec) (t : Instant) (s : State) : Outcome.Keeps 140890109 s (execPartnerStateVector lane bseq v t s) := by
  have h0 := Keeps.refl 140890109 s
  unfold execPartnerStateVector
  try dsimp only
  repeat' (first
    | with_reducible apply Outcome.Keeps.next
    | with_reducible apply Outcome.Keeps.ite
    | with_reducible apply Keeps.ite
    | with_reducible apply Keeps.iteFst
    | with_reducible apply Keeps.iteSnd
    | intro _
    | with_reducible assumption
    | ((with_reducible apply Keeps.step (State.setPair_keeps ..)); exact rfl)
    | ((with_reducible apply belayIn_keeps); exact rfl)
    | ((with_reducible apply Keeps.step (vectorDue_keeps ..)); exact rfl)
    | fail_if_no_progress dsimp only)

theorem execPartnerFault_keeps (lane : Fin 2) (bseq : BitVec 32) (cause : BitVec 8) (t : Instant) (s : State) : Outcome.Keeps 134217737 s (execPartnerFault lane bseq cause t s) := by
  have h0 := Keeps.refl 134217737 s
  unfold execPartnerFault
  try dsimp only
  repeat' (first
    | with_reducible apply Outcome.Keeps.next
    | with_reducible apply Outcome.Keeps.ite
    | with_reducible apply Keeps.ite
    | with_reducible apply Keeps.iteFst
    | with_reducible apply Keeps.iteSnd
    | intro _
    | with_reducible assumption
    | ((with_reducible apply Keeps.step (State.setPair_keeps ..)); exact rfl)
    | ((with_reducible apply belayIn_keeps); exact rfl)
    | fail_if_no_progress dsimp only)

theorem execHeartbeatMissLimit_keeps (t : Instant) (s : State) : Outcome.Keeps 134217737 s (execHeartbeatMissLimit t s) := by
  have h0 := Keeps.refl 134217737 s
  unfold execHeartbeatMissLimit
  try dsimp only
  repeat' (first
    | with_reducible apply Outcome.Keeps.next
    | with_reducible apply Outcome.Keeps.ite
    | with_reducible apply Keeps.ite
    | with_reducible apply Keeps.iteFst
    | with_reducible apply Keeps.iteSnd
    | intro _
    | with_reducible assumption
    | ((with_reducible apply Keeps.step (State.advance_keeps ..)); exact rfl)
    | ((with_reducible apply Keeps.step (State.setPair_keeps ..)); exact rfl)
    | ((with_reducible apply Keeps.step (State.setPs_keeps ..)); exact rfl)
    | ((with_reducible apply Keeps.step (takeover_keeps ..)); exact rfl)
    | fail_if_no_progress dsimp only)

theorem batonIn_keeps (number : Nat) (renum : Bool) (s : State) : Keeps 134606796 s (batonIn number renum s) := by
  have h0 := Keeps.refl 134606796 s
  unfold batonIn
  try dsimp only
  repeat' (first
    | with_reducible apply Keeps.ite
    | with_reducible apply Keeps.iteFst
    | with_reducible apply Keeps.iteSnd
    | intro _
    | with_reducible assumption
    | ((with_reducible apply Keeps.step (State.setPair_keeps ..)); exact rfl)
    | ((with_reducible apply Keeps.step (State.setReg_keeps ..)); exact rfl)
    | ((with_reducible apply Keeps.step (learnBaton_keeps ..)); exact rfl)
    | ((with_reducible apply Keeps.step (refreshBatonTx_keeps ..)); exact rfl)
    | fail_if_no_progress dsimp only)

theorem execPartnerBaton_keeps (lane : Fin 2) (bseq : BitVec 32) (number : BitVec 16) (renum : Bool) (t : Instant) (s : State) : Outcome.Keeps 134606797 s (execPartnerBaton lane bseq number renum t s) := by
  have h0 := Keeps.refl 134606797 s
  unfold execPartnerBaton
  try dsimp only
  repeat' (first
    | with_reducible apply Outcome.Keeps.next
    | intro _
    | with_reducible assumption
    | ((with_reducible apply Keeps.step (batonIn_keeps ..)); exact rfl)
    | ((with_reducible apply belayIn_keeps); exact rfl)
    | fail_if_no_progress dsimp only)

theorem claimFailed_keeps (c : Claim) (s : State) : Keeps 134308360 s (claimFailed c s) := by
  have h0 := Keeps.refl 134308360 s
  unfold claimFailed
  try dsimp only
  repeat' (first
    | with_reducible apply Keeps.ite
    | with_reducible apply Keeps.iteFst
    | with_reducible apply Keeps.iteSnd
    | intro _
    | with_reducible assumption
    | ((with_reducible apply Keeps.step (State.setPair_keeps ..)); exact rfl)
    | ((with_reducible apply Keeps.step (State.setPs_keeps ..)); exact rfl)
    | ((with_reducible apply Keeps.step (State.setReg_keeps ..)); exact rfl)
    | ((with_reducible apply Keeps.step (armRefused_keeps ..)); exact rfl)
    | ((with_reducible apply Keeps.step (refreshBatonTx_keeps ..)); exact rfl)
    | ((with_reducible apply Keeps.step (setPairState_keeps ..)); exact rfl)
    | (fail_if_no_progress with_reducible apply Keeps.update) <;> first | ((with_reducible apply Or.inr); with_reducible rfl) | ((with_reducible apply Or.inl); first | exact rfl) | skip
    | fail_if_no_progress dsimp only)

theorem execBatonCommit_keeps (ok : Bool) (t : Instant) (s : State) : Outcome.Keeps 1208345101 s (execBatonCommit ok t s) := by
  have h0 := Keeps.refl 1208345101 s
  unfold execBatonCommit
  try dsimp only
  repeat' (first
    | with_reducible apply Outcome.Keeps.next
    | with_reducible apply Outcome.Keeps.ite
    | with_reducible apply Keeps.ite
    | with_reducible apply Keeps.iteFst
    | with_reducible apply Keeps.iteSnd
    | intro _
    | with_reducible assumption
    | ((with_reducible apply Keeps.step (State.advance_keeps ..)); exact rfl)
    | ((with_reducible apply Keeps.step (claimDone_keeps ..)); exact rfl)
    | ((with_reducible apply Keeps.step (claimFailed_keeps ..)); exact rfl)
    | split
    | fail_if_no_progress dsimp only)

theorem execSoloClaim_keeps (t : Instant) (s : State) : Outcome.Keeps 134217737 s (execSoloClaim t s) := by
  have h0 := Keeps.refl 134217737 s
  unfold execSoloClaim
  try dsimp only
  repeat' (first
    | with_reducible apply Outcome.Keeps.next
    | with_reducible apply Outcome.Keeps.ite
    | with_reducible apply Keeps.ite
    | with_reducible apply Keeps.iteFst
    | with_reducible apply Keeps.iteSnd
    | intro _
    | with_reducible assumption
    | ((with_reducible apply Keeps.step (State.advance_keeps ..)); exact rfl)
    | ((with_reducible apply Keeps.step (startClaim_keeps ..)); exact rfl)
    | fail_if_no_progress dsimp only)

theorem execSoloDelayExpiry_keeps (t : Instant) (s : State) : Outcome.Keeps 9 s (execSoloDelayExpiry t s) := by
  have h0 := Keeps.refl 9 s
  unfold execSoloDelayExpiry
  try dsimp only
  repeat' (first
    | with_reducible apply Outcome.Keeps.next
    | with_reducible apply Outcome.Keeps.ite
    | with_reducible apply Keeps.ite
    | with_reducible apply Keeps.iteFst
    | with_reducible apply Keeps.iteSnd
    | intro _
    | with_reducible assumption
    | ((with_reducible apply Keeps.step (State.advance_keeps ..)); exact rfl)
    | ((with_reducible apply Keeps.step (State.setPs_keeps ..)); exact rfl)
    | ((with_reducible apply Keeps.step (setMirrorLost_keeps ..)); exact rfl)
    | fail_if_no_progress dsimp only)

end Sys2Proof.Machine
end

