-- ==== Sys2Proof/Laws/Statements.lean ====
section
/-!
SUPPORT. What the statements' words give and what gives them: `Completes`, `RegsKept`, `PartsKept` (Safety.lean).
-/

namespace Sys2Proof

open Machine

theorem Completes.of {c : Instr} {s u : State} {p : State → Prop} (h : exec c s = .next u) (hp : p u) : Completes c s p := ⟨u, h, hp⟩

/-- A command that answers a state answers it with what it keeps. -/
theorem Completes.ofKeeps {c : Instr} {s u : State} {f : Nat} {p : State → Prop} (k : Outcome.Keeps f s (exec c s))
    (h : exec c s = .next u) (hp : Keeps f s u → p u) : Completes c s p := by
  obtain ⟨v, e, hk⟩ := k
  rw [h] at e
  cases e
  exact ⟨u, h, hp hk⟩

/-- Which parts an operation leaves alone. -/
theorem Keeps.partsKept {f : Nat} {ps : List Part} {s u : State} (h : Keeps f s u)
    (hp : ∀ p : Part, p ∉ ps → f.testBit p.num = false) : PartsKept ps s u :=
  ⟨h.queue, fun p q => h.parts p (hp p q)⟩

theorem RegsKept.setReg (s : State) (k v : Nat) : RegsKept [k] s (s.setReg k v) := fun j h => by
  rw [reg_setReg_other _ _ (by simpa using h)]

theorem RegsKept.trans {ks : List Nat} {s t u : State} (h : RegsKept ks s t) (k : RegsKept ks t u) : RegsKept ks s u :=
  fun j hj => (k j hj).trans (h j hj)

/-- A register set among those named. -/
theorem RegsKept.step {ks : List Nat} {s t : State} {k v : Nat} (h : RegsKept ks s t) (hk : k ∈ ks) : RegsKept ks s (t.setReg k v) :=
  fun j hj => by rw [reg_setReg_other _ _ (by rintro rfl; exact hj hk)]; exact h j hj

theorem RegsKept.of_regs {ks : List Nat} {s t : State} (h : t.regs = s.regs) : RegsKept ks s t := fun j _ => by
  unfold State.reg; rw [h]

theorem reg_of_regs {s t : State} (h : t.regs = s.regs) (k : Nat) : t.reg k = s.reg k := by unfold State.reg; rw [h]

theorem engine_of_engines {s t : State} (h : t.engines = s.engines) (e : Nat) : t.engine e = s.engine e := by unfold State.engine; rw [h]

theorem forEach_frame {α β : Type} (g : State → β) (l : List α) (f : α → State → State) (h : ∀ x s, g (f x s) = g s) (a : State) :
    g (a.forEach l f) = g a := by
  unfold State.forEach
  induction l generalizing a with
  | nil => rfl
  | cons x t ih => exact (ih (f x a)).trans (h x a)

/-! ## Storing an RWS value -/

/-- The registers that storing a value writes. -/
def storeKeys : List Nat := [Reg.CFG_SEQ, Reg.CFG_GEN, Reg.CFG_STATUS]

theorem compactStart_reg {j : Nat} (h : j ∉ storeKeys) (s : State) : (compactStart s).reg j = s.reg j := by
  unfold compactStart; split
  · rw [reg_setFlag_other _ _ _ (by rintro rfl; exact h (by simp [storeKeys]))]; rfl
  · rfl

theorem firstSlot_reg {j : Nat} (h : j ∉ storeKeys) (s : State) : (firstSlot s).reg j = s.reg j := by
  unfold firstSlot; split
  · rw [reg_setReg_other _ _ (by rintro rfl; exact h (by simp [storeKeys]))]; rfl
  · rfl

theorem addDelta_reg {j : Nat} (h : j ∉ storeKeys) (d : Delta) (s : State) : (addDelta d s).reg j = s.reg j := by
  unfold addDelta
  rw [compactStart_reg h, reg_setReg_other _ _ (by rintro rfl; exact h (by simp [storeKeys]))]
  exact firstSlot_reg h s

theorem stored_reg {j : Nat} (h : j ∉ storeKeys) (k v : Nat) (r : State × Nat) : (stored k v r).reg j = r.1.reg j := by
  unfold stored storeRws
  split
  · split
    · rfl
    · exact addDelta_reg h _ _
  · rfl

theorem stored_engine (k v : Nat) (r : State × Nat) (e : Nat) : (stored k v r).engine e = r.1.engine e :=
  engine_of_engines ((stored_keeps (f := 262152) k v rfl (Keeps.refl _ r.1)).parts .engines (by decide)) e

/-! ## Loading an engine -/

theorem imageLoad_engine (e : Nat) (s : State) : (imageLoad e s).engine e = (s.engine e).cleared true := by
  unfold imageLoad
  simp only [engine_setEngine]
  congr 1
  refine engine_of_engines ?_ e
  refine (forEach_frame State.engines _ _ ?_ _).trans ((forEach_frame State.engines _ _ ?_ _).trans rfl)
  all_goals intros; rfl

theorem imageLoad_regs (e : Nat) (s : State) : (imageLoad e s).regs = s.regs := (imageLoad_keeps e s).parts .regs (by decide)

end Sys2Proof
end

