-- ==== Sys2Proof/Laws/Modes.lean ====
section
/-!
SUPPORT. What a recorded transition leaves in the registers of the modes (03_ride_through_and_modes.md, R60).
-/

namespace Sys2Proof.Machine

theorem forEach_mem_frame {α β : Type} (g : State → β) (l : List α) (f : α → State → State) (h : ∀ x ∈ l, ∀ s, g (f x s) = g s) (a : State) :
    g (a.forEach l f) = g a := by
  unfold State.forEach
  induction l generalizing a with
  | nil => rfl
  | cons x t ih =>
    exact (ih (fun y hy => h y (List.mem_cons_of_mem _ hy)) (f x a)).trans (h x (List.mem_cons_self ..) a)

theorem pushLog_reg (f : Nat → Nat) (n v j : Nat) (s : State) (h : ∀ i, i < n → j ≠ f i) : (pushLog f n v s).reg j = s.reg j := by
  unfold pushLog
  simp only
  have k : ∀ (l : List (Nat × Nat)) (s : State), (∀ x ∈ l, x.1 < n) → (l.foldl (fun s x => s.setReg (f x.1) x.2) s).reg j = s.reg j := by
    intro l
    induction l with
    | nil => intro s _; rfl
    | cons x t ih =>
      intro s hl
      rw [List.foldl_cons, ih _ fun y hy => hl y (List.mem_cons_of_mem _ hy), reg_setReg_other _ _ (h _ (hl x (List.mem_cons_self ..)))]
  exact k _ s fun x hx => by simpa using List.of_mem_zip hx |>.1

/-- A register that neither the logs, nor the trainers, nor the estimator's, time's or the mode's own flags concern. -/
def OffLog (j : Nat) : Prop :=
  (j ≠ Reg.HELD_MODE ∧ j ≠ Reg.TIME_FLAGS ∧ j ≠ Reg.TIME_STATE ∧ j ≠ Reg.LAW_STATUS ∧ j ≠ Reg.EST_STATE) ∧
    j ≠ Reg.LIMIT_LAST ∧ j ≠ Reg.MODE_STATUS ∧ (∀ i, i < 16 → j ≠ Reg.TRANS_LOG i ∧ j ≠ Reg.TRANS_LOG_TIME i) ∧ ∀ i, i < 64 → j ≠ Reg.GL_STATUS i

theorem limitEnds_reg (old new : Nat) (s : State) {j : Nat} (h : j ≠ Reg.LIMIT_LAST) : (limitEnds old new s).reg j = s.reg j := by
  unfold limitEnds
  simp only
  rw [apply_ite (fun s : State => s.reg j), reg_setReg_other _ _ h, ite_self]

/-- A deferred step shows in the flags and the state of time alone (R309, R313). -/
theorem stepDeferred_reg (s : State) {j : Nat} (h : j ≠ Reg.TIME_FLAGS) (h' : j ≠ Reg.TIME_STATE) : (stepDeferred s).reg j = s.reg j := by
  unfold stepDeferred setTimeState State.setTf
  simp only
  split
  · split
    · rw [reg_setFlag_other _ _ _ h, reg_setReg_other _ _ h', reg_setFlag_other _ _ _ h]
    · rw [reg_setFlag_other _ _ _ h]
  · rfl

/-- The gate of the estimator shows in EST_SUSPENDED and EST_STATE alone (R50). -/
theorem estGate_reg (s : State) {j : Nat} (h : j ≠ Reg.LAW_STATUS) (h' : j ≠ Reg.EST_STATE) : (estGate s).reg j = s.reg j := by
  unfold estGate State.setLs
  simp only
  split
  · rw [reg_setFlag_other _ _ _ h]
  · rw [setLaw_reg, reg_setReg_other _ _ h', reg_setFlag_other _ _ _ h]

theorem logMode_reg (old new cause : Nat) (s : State) (j : Nat) (h : OffLog j) :
    (logMode old new cause s).reg j =
      ((((((s.setReg Reg.MODE_PREV old).setReg Reg.MODE new).setReg Reg.CAUSE cause)).setReg Reg.MODE_TIME s.time64).bump
        Reg.TRANS_COUNT).reg j := by
  obtain ⟨⟨h1, h5, h6, h7, h8⟩, h0, h2, h3, h4⟩ := h
  unfold logMode
  simp only
  rw [stepDeferred_reg _ h5 h6, reg_setReg_other _ _ h1, apply_ite (fun s : State => s.reg j), estGate_reg _ h7 h8, ite_self, limitEnds_reg _ _ _ h0]
  have hg : ∀ a : State, (a.forEach (List.range 64) freezeTrainer).reg j = a.reg j := fun a =>
    forEach_mem_frame (fun s => s.reg j) _ _ (fun x hx s => by
      unfold freezeTrainer
      exact reg_setFlag_other _ _ _ (h4 x (by simpa using hx))) a
  rw [apply_ite (fun s : State => s.reg j), hg, ite_self]
  unfold State.setMs
  rw [reg_setFlag_other _ _ _ h2]
  rw [show ∀ (a : State) (l : Law), (a.setLaw l).reg j = a.reg j from fun _ _ => rfl, pushLog_reg _ _ _ _ _ fun i hi => (h3 i hi).2,
    pushLog_reg _ _ _ _ _ fun i hi => (h3 i hi).1]
  rfl

theorem logMode_held (old new cause : Nat) (s : State) :
    (logMode old new cause s).reg Reg.HELD_MODE = if new = mHOLD then old else 0xFF :=
  (stepDeferred_reg _ (by decide) (by decide)).trans (reg_setReg_self _ _ _)

/-- What a recorded transition leaves: the modes, the cause, the time and the count (R60). -/
theorem logMode_regs (old new cause : Nat) (s : State) :
    (logMode old new cause s).reg Reg.MODE = new ∧ (logMode old new cause s).reg Reg.MODE_PREV = old ∧
      (logMode old new cause s).reg Reg.CAUSE = cause ∧ (logMode old new cause s).reg Reg.MODE_TIME = s.time64 ∧
      (s.reg Reg.TRANS_COUNT + 1 < 4294967296 → (logMode old new cause s).reg Reg.TRANS_COUNT = s.reg Reg.TRANS_COUNT + 1) := by
  have off : OffLog Reg.MODE ∧ OffLog Reg.MODE_PREV ∧ OffLog Reg.CAUSE ∧ OffLog Reg.MODE_TIME ∧ OffLog Reg.TRANS_COUNT := by
    simp only [OffLog, Reg.MODE, Reg.MODE_PREV, Reg.CAUSE, Reg.MODE_TIME, Reg.TRANS_COUNT, Reg.HELD_MODE, Reg.LIMIT_LAST, Reg.MODE_STATUS, Reg.TRANS_LOG,
      Reg.TIME_FLAGS, Reg.TIME_STATE, Reg.LAW_STATUS, Reg.EST_STATE, Reg.TRANS_LOG_TIME, Reg.GL_STATUS, Reg.key]
    refine ⟨?_, ?_, ?_, ?_, ?_⟩ <;> refine ⟨by decide, by decide, by decide, fun i hi => ⟨?_, ?_⟩, fun i hi => ?_⟩ <;> omega
  obtain ⟨a, b, c, d, e⟩ := off
  have b1 (t : State) (j : Nat) (h : j ≠ Reg.TRANS_COUNT) : (t.bump Reg.TRANS_COUNT).reg j = t.reg j := reg_bump_other t h
  refine ⟨?_, ?_, ?_, ?_, fun h => ?_⟩
  · rw [logMode_reg _ _ _ _ _ a, b1 _ _ (by decide)]; simp [reg_setReg, Reg.MODE, Reg.MODE_PREV, Reg.CAUSE, Reg.MODE_TIME, Reg.key]
  · rw [logMode_reg _ _ _ _ _ b, b1 _ _ (by decide)]; simp [reg_setReg, Reg.MODE, Reg.MODE_PREV, Reg.CAUSE, Reg.MODE_TIME, Reg.key]
  · rw [logMode_reg _ _ _ _ _ c, b1 _ _ (by decide)]; simp [reg_setReg, Reg.MODE, Reg.MODE_PREV, Reg.CAUSE, Reg.MODE_TIME, Reg.key]
  · rw [logMode_reg _ _ _ _ _ d, b1 _ _ (by decide)]; simp
  · have k : ((((s.setReg Reg.MODE_PREV old).setReg Reg.MODE new).setReg Reg.CAUSE cause).setReg Reg.MODE_TIME s.time64).reg
        Reg.TRANS_COUNT = s.reg Reg.TRANS_COUNT := by
      simp only [reg_setReg]
      rw [if_neg (by decide), if_neg (by decide), if_neg (by decide), if_neg (by decide)]
    rw [logMode_reg _ _ _ _ _ e, reg_bump_self _ (by rw [k]; exact h), k]

end Sys2Proof.Machine

namespace Sys2Proof

open Machine

/-- Entry to BASECAMP from another mode (R60, R64). -/
theorem enterBasecamp_enters (cause : Nat) (s : State) (h : s.reg Reg.MODE ≠ 0) : Enters 0 cause s (enterBasecamp cause s) := by
  unfold enterBasecamp
  rw [if_neg (show ¬s.mode = mBASECAMP from h)]
  exact ⟨(logMode_regs ..).1, (logMode_regs ..).2.2.1, (logMode_regs ..).2.1⟩

theorem recordMode_enters (m cause : Nat) (s : State) : Enters m cause s (recordMode m cause s) :=
  ⟨(logMode_regs ..).1, (logMode_regs ..).2.2.1, (logMode_regs ..).2.1⟩

theorem stopLost_mode (cause : Nat) (s : State) : (stopLost cause s).reg Reg.MODE = s.reg Reg.MODE := by
  unfold stopLost cmdRefused
  split
  · rw [reg_setReg_other _ _ (by decide), reg_setReg_other _ _ (by decide)]
  · rfl

theorem backToArmed_enters (cause : Nat) (s : State) : Enters 1 cause s (backToArmed cause s) :=
  ⟨(logMode_regs ..).1, (logMode_regs ..).2.2.1, (logMode_regs ..).2.1.trans (stopLost_mode ..)⟩

theorem enterArmed_enters (s : State) : Enters 1 1 s (enterArmed s) :=
  ⟨(logMode_regs ..).1, (logMode_regs ..).2.2.1, (logMode_regs ..).2.1⟩

/-- The registers of a transition stay where others are written. -/
theorem Enters.of_regs {m c : Nat} {s t u : State} (h : Enters m c s t)
    (k : ∀ j, j = Reg.MODE ∨ j = Reg.CAUSE ∨ j = Reg.MODE_PREV → u.reg j = t.reg j) : Enters m c s u :=
  ⟨(k _ (.inl rfl)).trans h.1, (k _ (.inr (.inl rfl))).trans h.2.1, (k _ (.inr (.inr rfl))).trans h.2.2⟩

theorem Enters.setReg {m c : Nat} {s t : State} (h : Enters m c s t) {k : Nat} (v : Nat)
    (hk : k ≠ Reg.MODE ∧ k ≠ Reg.CAUSE ∧ k ≠ Reg.MODE_PREV) : Enters m c s (t.setReg k v) :=
  h.of_regs fun j hj => reg_setReg_other _ _ (by rcases hj with rfl | rfl | rfl; exacts [hk.1.symm, hk.2.1.symm, hk.2.2.symm])

theorem Enters.setLaw {m c : Nat} {s t : State} (h : Enters m c s t) (l : Law) : Enters m c s (t.setLaw l) :=
  h.of_regs fun _ _ => rfl

theorem Enters.bump {m c : Nat} {s t : State} (h : Enters m c s t) {k : Nat}
    (hk : k ≠ Reg.MODE ∧ k ≠ Reg.CAUSE ∧ k ≠ Reg.MODE_PREV) : Enters m c s (t.bump k) :=
  h.of_regs fun j hj => reg_bump_other _ (by rcases hj with rfl | rfl | rfl; exacts [hk.1.symm, hk.2.1.symm, hk.2.2.symm])

/-- Entry to HOLD from a switching mode by the device that holds the baton (R86). -/
theorem enterHold_enters (cause : Nat) (s : State) (h : s.switching = true) (hb : s.holds = true) :
    Enters 6 cause s (enterHold cause s) ∧ (enterHold cause s).reg Reg.HELD_MODE = s.reg Reg.MODE ∧
      (enterHold cause s).reg Reg.HOLD_MISSES = 0 := by
  unfold enterHold
  rw [if_pos (by simp [h, hb])]
  simp only
  have hm := stopLost_mode cause s
  have hr : ∀ (a : State) (j : Nat), (reportFaults a).reg j = a.reg j := fun a j =>
    reg_of_regs ((reportFaults_keeps a).parts .regs (by decide)) j
  have h0 : Enters 6 cause s (recordMode mHOLD cause (stopLost cause s)) :=
    ⟨(recordMode_enters ..).1, (recordMode_enters ..).2.1, (recordMode_enters ..).2.2.trans hm⟩
  refine ⟨?_, ?_, ?_⟩
  · refine Enters.of_regs ?_ fun j _ => hr _ j
    unfold State.setMs
    refine Enters.setReg (k := Reg.MODE_STATUS) ?_ _ (by decide)
    refine Enters.setLaw ?_ _
    exact Enters.setReg (k := Reg.HOLD_MISSES)
      (Enters.bump (k := Reg.HOLD_COUNT) (Enters.setReg (k := Reg.HELD_MODE) h0 _ (by decide)) (by decide)) _ (by decide)
  · rw [hr, State.setMs, reg_setFlag_other _ _ _ (by decide), setLaw_reg, reg_setReg_other _ _ (by decide), reg_bump_other _ (by decide),
      reg_setReg_self]
    rfl
  · rw [hr, State.setMs, reg_setFlag_other _ _ _ (by decide), setLaw_reg, reg_setReg_self]

end Sys2Proof
end

