-- ==== Sys2Proof/WellFormed.lean ====
section
/-!
DEFINITION. Which commands can occur at the device's pins and links: lists of as many values as the device has units, frames no
longer than their link carries, identifiers that exist. A command that is not well-formed spells nothing the hardware
can meet; the meanings are total on it all the same.
-/

namespace Sys2Proof

/-- The straps are sampled 16 times at most between the release of RST_N and the decision (16, step 1). -/
def Machine.StartIn.wf (x : Machine.StartIn) : Bool := x.straps.length == 16

/-- The command can occur. -/
def Instr.wf : Instr → Bool
  | .registerWrite _ _ _ _ => true
  | .resetRelease start => start.wf
  | .rstNReset _ => true
  | .vddUndervoltageReset _ => true
  | .scaLockstepMismatch _ => true
  | .scbLockstepMismatch _ => true
  | .scbResume _ => true
  | .blockShutdownComplete _ _ => true
  | .blockStartupComplete _ _ => true
  | .timeAlarm _ _ => true
  | .deadlinePass _ _ => true
  | .endRegistered _ _ => true
  | .portWriteDeliver _ _ _ => true
  | .mpy _ _ _ _ => true
  | .mac _ _ _ _ => true
  | .msu _ _ _ _ => true
  | .macm _ _ _ _ => true
  | .adda _ _ _ => true
  | .suba _ _ _ => true
  | .addas _ _ _ => true
  | .mova _ _ _ => true
  | .nega _ _ => true
  | .absa _ _ => true
  | .clra _ _ => true
  | .satr _ _ _ _ => true
  | .lda _ _ _ _ => true
  | .sha _ _ _ _ => true
  | .add _ _ _ _ => true
  | .sub _ _ _ _ => true
  | .adds _ _ _ _ => true
  | .subs _ _ _ _ => true
  | .andX _ _ _ _ => true
  | .orX _ _ _ _ => true
  | .xorX _ _ _ _ => true
  | .minX _ _ _ _ => true
  | .maxX _ _ _ _ => true
  | .negX _ _ _ => true
  | .absX _ _ _ => true
  | .notX _ _ _ => true
  | .aluMov _ _ _ => true
  | .asr _ _ _ _ => true
  | .lsr _ _ _ _ => true
  | .lsl _ _ _ _ => true
  | .lsls _ _ _ _ => true
  | .limit _ _ _ _ => true
  | .lima _ _ _ _ => true
  | .slew _ _ _ => true
  | .preset _ _ _ _ _ => true
  | .divq _ _ _ _ => true
  | .scos _ _ _ => true
  | .ldi _ _ _ => true
  | .addi _ _ _ => true
  | .cmpi _ _ _ => true
  | .ldai _ _ _ => true
  | .ldpi _ _ _ => true
  | .ldpiK _ _ _ => true
  | .addpi _ _ _ => true
  | .movXP _ _ _ => true
  | .movPX _ _ _ => true
  | .movXAlow _ _ _ => true
  | .movXAhigh _ _ _ => true
  | .movXAguard _ _ _ => true
  | .movAlowX _ _ _ => true
  | .movAhighX _ _ _ => true
  | .movAguardX _ _ _ => true
  | .movXFlags _ _ => true
  | .cmp _ _ _ => true
  | .ld _ _ _ => true
  | .st _ _ _ => true
  | .ldd _ _ _ => true
  | .std _ _ _ => true
  | .ldacc _ _ _ => true
  | .stacc _ _ _ => true
  | .inPort _ _ _ => true
  | .inh _ _ _ => true
  | .ind _ _ _ => true
  | .inw _ _ _ => true
  | .inwComplete _ _ => true
  | .out _ _ _ => true
  | .outd _ _ _ => true
  | .outa _ _ _ => true
  | .portQueueRoom _ _ => true
  | .atadd _ _ _ => true
  | .waitp _ _ _ _ => true
  | .waitpComplete _ _ => true
  | .branch _ _ _ => true
  | .call _ _ => true
  | .ret _ => true
  | .loop _ _ _ => true
  | .fence _ => true
  | .fenceComplete _ _ => true
  | .endCycle _ => true
  | .nop _ => true
  | .trap _ _ => true
  | .illegalInstruction _ _ => true
  | .engineLoad _ => true
  | .loadComplete _ _ => true
  | .engineEnable _ => true
  | .engineDisable _ => true
  | .engineStatusRead _ => true
  | .engineClear _ => true
  | .lawBuiltinSet => true
  | .lawBuiltinClear => true
  | .imgWrite => true
  | .imgCommit => true
  | .mbInWrite _ _ _ => true
  | .applyStaged => true
  | .baseWrite _ _ _ => true
  | .outerCycleStart _ => true
  | .modeCmdBasecamp => true
  | .modeCmdArmed => true
  | .modeCmdForm => true
  | .modeCmdStart => true
  | .modeCmdSync => true
  | .armTimeout _ => true
  | .detectorConfirm _ => true
  | .limitRecovery _ => true
  | .ovTripTimeout _ => true
  | .limitMaxTimeout _ => true
  | .holdoverTimeout _ => true
  | .pjFollowEnd _ => true
  | .kviReturnEnd _ => true
  | .softStopComplete _ => true
  | .dcLinkTrip _ => true
  | .brkStateAged _ => true
  | .missRunLimit _ => true
  | .holdMissesLimit _ => true
  | .holdTimeExpiry _ => true
  | .holdRecover _ => true
  | .engineRomReload _ _ => true
  | .estimateWindowEnd _ => true
  | .estimateStale _ => true
  | .settleComplete _ => true
  | .startAbort _ => true
  | .syncHoldExpiry _ => true
  | .closeWinExpiry _ => true
  | .syncAbort _ => true
  | .frameStartDetect _ => true
  | .cadSlotStart _ => true
  | .cadReady _ _ => true
  | .cadEnergiseNext _ _ => true
  | .cadHold _ _ => true
  | .cadResync _ _ => true
  | .cadDone _ _ => true
  | .frameDiscard _ => true
  | .holdTExpiry _ => true
  | .resyncTExpiry _ => true
  | .joinTExpiry _ => true
  | .cadCmdReady => true
  | .cadCmdEnergiseNext => true
  | .cadCmdHold => true
  | .cadCmdResync => true
  | .cadCmdDone => true
  | .cadEnClear => true
  | .cgStart _ => true
  | .carrierStart _ => true
  | .cgStop _ => true
  | .carrierWrap _ => true
  | .cgEvtMatch _ => true
  | .carrierEventDeliver => true
  | .compareMatch _ _ => true
  | .deadTimeExpiry _ => true
  | .interlockRelease _ _ => true
  | .loadAll _ _ => true
  | .swWrite => true
  | .swLoadAll _ => true
  | .pwmClear => true
  | .tripDecision _ _ => true
  | .tripAutoClear _ _ => true
  | .tripClear _ => true
  | .tripCfgWrite _ _ => true
  | .forceOffWrite _ _ => true
  | .edgeEventEnqueue => true
  | .downlinkFrame _ _ => true
  | .uplinkFrame _ _ _ => true
  | .uplinkTimeout _ _ => true
  | .laneFaultRelease _ _ => true
  | .glClear _ => true
  | .guAccessTimeout _ _ => true
  | .guSetupRetry _ _ => true
  | .guWrite => true
  | .guRead => true
  | .laneEnable _ => true
  | .laneDisable _ => true
  | .laneStartComplete _ _ => true
  | .trainReset _ => true
  | .trainCodeStore _ => true
  | .ldEnable _ _ => true
  | .ldBootstrapReady _ _ _ => true
  | .ldBootstrapTimeout _ _ => true
  | .ldModeWrite _ _ _ => true
  | .ldFollowEdge _ => true
  | .ldRefresh _ _ _ => true
  | .ldBstuv _ _ _ => true
  | .ldFaultRetry _ _ => true
  | .sdEnable _ _ => true
  | .sdCpReady _ _ => true
  | .sdCpuv _ _ => true
  | .sdFaultRetry _ _ => true
  | .drvClear _ => true
  | .vdrvUndervoltage _ _ => true
  | .vdrvRecover _ _ => true
  | .adcTrigger => true
  | .swtrigRegular _ => true
  | .swtrigInjected _ => true
  | .stepStart => true
  | .conversionEnd => true
  | .resultRegistered _ _ _ _ => true
  | .adcTrgDecision _ _ _ => true
  | .trgTimeout _ _ => true
  | .inputStale _ _ => true
  | .owTestStart _ _ => true
  | .owPhaseEnd _ _ _ => true
  | .owPeriodExpiry _ _ => true
  | .calStartupComplete offs gains _ => offs.length == 17 && gains.length == 17
  | .calTurnEnd _ _ _ _ => true
  | .calForce _ => true
  | .calForceWithdraw _ => true
  | .adcEnable => true
  | .adcDisable => true
  | .adcClear => true
  | .trgCfgWrite _ _ => true
  | .sdcCfgWrite _ _ => true
  | .sdcFreqMeasure _ _ _ => true
  | .sdcClockStale _ _ => true
  | .sdcClockResume _ _ => true
  | .sdiStuck _ _ => true
  | .sdiUnstuck _ _ => true
  | .cicOutput _ _ _ => true
  | .laneOutput _ _ => true
  | .laneCfgWrite _ _ => true
  | .coefWrite => true
  | .coefCommit => true
  | .bankSel _ _ => true
  | .filtClear => true
  | .recorderSample _ _ => true
  | .rcSwtrig _ => true
  | .rcRelease _ _ => true
  | .rcArm _ => true
  | .rcEnable _ => true
  | .rcDisable _ => true
  | .ixRead => true
  | .rdRead => true
  | .trgPulseReceived _ _ _ => true
  | .trgLineStuck _ _ => true
  | .tbCal _ => true
  | .tbCalEcho _ => true
  | .tbCalRoundTimeout _ => true
  | .pllLocked _ _ _ => true
  | .pllLossOfLock _ _ => true
  | .xinLost _ => true
  | .xinRestored _ => true
  | .freqWindowEnd _ _ _ _ _ _ => true
  | .relock _ => true
  | .timebaseStep _ => true
  | .timeSet => true
  | .restep => true
  | .ptpOffset => true
  | .ptpMessage _ _ _ _ _ _ => true
  | .ptpMessageSend _ _ _ => true
  | .ptpAnnounceTimeout _ => true
  | .ptpConfigWrite _ _ => true
  | .edgeAlignStep _ _ => true
  | .rtcSet _ => true
  | .taEnable _ => true
  | .taDisable _ => true
  | .dramInitDone _ => true
  | .scrubStart => true
  | .scrubStop _ => true
  | .scrubPassEnd _ => true
  | .eccClear => true
  | .dmaStart _ => true
  | .dmaBeat _ => true
  | .dmaDone _ => true
  | .dmaStreamTimeout _ _ => true
  | .dmaDisable _ => true
  | .memRead => true
  | .memWrite => true
  | .ndpRead _ _ _ _ => true
  | .ndpWrite _ _ _ _ => true
  | .openSession _ _ _ _ => true
  | .closeSession _ _ _ _ => true
  | .ndpPdo _ _ _ _ => true
  | .ndpFrameDiscard _ _ _ _ => true
  | .journalApply start _ => start.wf
  | .sessionExpiry _ id _ => id != 0
  | .sdoRead _ client _ _ _ => client != 0
  | .sdoWrite _ client _ _ data _ => client != 0 && data.length ≤ 255
  | .rpdo _ ext id data _ => data.length ≤ 64 && (ext || id.toNat < 2048)
  | .rpdoLate _ _ => true
  | .tpdoSend _ _ => true
  | .canSync _ _ => true
  | .heartbeatProduce _ _ => true
  | .nmtResetNode _ _ _ => true
  | .nmtResetCommunication _ _ _ => true
  | .nmtStateCommand _ _ _ _ => true
  | .busOff _ _ => true
  | .busOffRestart _ _ => true
  | .serviceEnFall _ => true
  | .serviceEnRise _ => true
  | .ethApply _ => true
  | .redundWrite _ => true
  | .arpRequest _ _ _ _ _ _ => true
  | .icmpEchoRequest _ _ _ _ _ _ _ => true
  | .prpSupervisionSend _ => true
  | .behaviourLevelWrite _ => true
  | .partnerHeartbeat _ _ _ => true
  | .partnerStateVector _ _ v _ => v.ports.length == 112 && (v.law.length == 0 || v.law.length == 92)
  | .partnerFault _ _ _ _ => true
  | .jItem _ _ _ _ _ _ _ _ _ _ => true
  | .jAck _ _ _ _ _ _ => true
  | .jAckTimeout _ => true
  | .jVoid _ _ _ _ _ _ => true
  | .partnerDict _ _ _ _ => true
  | .partnerTime _ _ _ _ => true
  | .timeExchangeSend _ => true
  | .partnerJoin _ _ _ _ => true
  | .joinComplete _ => true
  | .partnerBaton _ _ _ _ _ => true
  | .pairFormation _ _ _ _ _ => true
  | .belayLaneDown _ _ => true
  | .heartbeatMissLimit _ => true
  | .batonCommit _ _ => true
  | .soloClaim _ => true
  | .soloDelayExpiry _ => true
  | .switchover => true
  | .batonRenumber => true
  | .pdSwitchOn _ => true
  | .pdSwitchOff _ => true
  | .pdOnComplete _ _ => true
  | .standby => true
  | .standbyComplete _ => true
  | .wake _ start _ => start.wf
  | .arbiterEvaluate _ _ ctl bg _ => ctl.length == 16 && bg.length == 5
  | .vidStep _ => true
  | .istStep _ => true
  | .istPeriodExpiry _ _ => true
  | .supplySample _ _ _ _ => true
  | .tjSample tj => tj.length == 8
  | .ringMeasure loss _ _ => loss.length == 5
  | .mramMarginCheck _ _ _ => true
  | .thermalEstimate _ => true
  | .dvdtDriftTest _ _ => true
  | .modBaseline _ => true
  | .replanEvaluate droops _ => droops.length == 8
  | .compactionComplete _ => true
  | .factoryReset _ => true
  | .factoryResetFull _ => true
  | .patchWrite => true
  | .patchCommit => true
  | .patchSelect _ => true
  | .patchRestart start => start.wf
  | .patchConfirm => true
  | .belayLaneUp _ _ => true
  | .tripInputInactive _ _ => true
  | .trgLineUnstuck _ _ => true
  | .trgclkRisingEdge _ => true
  | .vddqLoss _ => true
  | .hsrRingFrame _ _ _ _ _ => true

end Sys2Proof
end

