-- ==== Sys2Proof/Tests/Slice0.lean ====
section
/-!
SUPPORT. Tests: what WellFormed refuses, a state that meets the hypotheses of every statement (`witness_…`, clause by clause), and single
commands on small states against the manual's tables and examples (`test_…`).
-/

/- Each theorem that the kernel evaluates would wait in a thread of its own for the one before: they are elaborated in order. -/
set_option Elab.async false

namespace Sys2Proof.Tests

open Machine

/-- A state with registers set. -/
def withRegs (l : List (Nat × Nat)) (s : State := {}) : State := l.foldl (fun s e => s.setReg e.1 e.2) s

/-- The same, with the values that act from the next outer-cycle start taken up. -/
def seenRegs (l : List (Nat × Nat)) (s : State := {}) : State := seeRegs (withRegs l s)

/-- Engine 3 in its control phase with some registers. -/
def runsE : Engine :=
  { inCycle := true, pc := 5, x := [(1, 0x7FFF), (2, 1), (3, 0x8000), (4, 0xC000)], a := [(0, 0x0012345678), (1, 0x7FFFFFFFFF)], deadline := 1000 }

/-- Engine 3 runs. -/
def runsS : State := ({} : State).setEngine 3 runsE

/-! ## Ill-formed commands are refused -/

theorem test_wf_reset_release : Instr.wf (.resetRelease ⟨List.replicate 15 0, true, 15000, []⟩) = false := by decide
theorem test_wf_reset_release_ok : Instr.wf (.resetRelease ⟨List.replicate 16 0, true, 15000, []⟩) = true := by decide
theorem test_wf_patch_restart : Instr.wf (.patchRestart ⟨[], true, 15000, []⟩) = false := by decide
theorem test_wf_journal_apply : Instr.wf (.journalApply ⟨List.replicate 17 0, true, 15000, []⟩ 0) = false := by decide
theorem test_wf_wake : Instr.wf (.wake false ⟨List.replicate 1 0, true, 15000, []⟩ 0) = false := by decide
theorem test_wf_cal_startup : Instr.wf (.calStartupComplete (List.replicate 16 0) (List.replicate 17 0) 0) = false := by decide
theorem test_wf_cal_startup_gains : Instr.wf (.calStartupComplete (List.replicate 17 0) (List.replicate 18 0) 0) = false := by decide
theorem test_wf_tj_sample : Instr.wf (.tjSample (List.replicate 7 0)) = false := by decide
theorem test_wf_ring_measure : Instr.wf (.ringMeasure (List.replicate 6 0) 0 0) = false := by decide
theorem test_wf_arbiter_control : Instr.wf (.arbiterEvaluate 0 0 (List.replicate 15 0) (List.replicate 5 0) 0) = false := by decide
theorem test_wf_arbiter_background : Instr.wf (.arbiterEvaluate 0 0 (List.replicate 16 0) (List.replicate 4 0) 0) = false := by decide
theorem test_wf_replan : Instr.wf (.replanEvaluate [none] 0) = false := by decide
theorem test_wf_session_expiry : Instr.wf (.sessionExpiry 0 0 0) = false := by decide
theorem test_wf_sdo_read : Instr.wf (.sdoRead 0 0 0x2000 1 0) = false := by decide
theorem test_wf_sdo_write_client : Instr.wf (.sdoWrite 0 0 0x2000 1 [] 0) = false := by decide
theorem test_wf_sdo_write_data : Instr.wf (.sdoWrite 0 1 0x2000 1 (List.replicate 256 0) 0) = false := by decide +kernel
theorem test_wf_rpdo_data : Instr.wf (.rpdo 0 false 0x200 (List.replicate 65 0) 0) = false := by decide
theorem test_wf_rpdo_id : Instr.wf (.rpdo 0 false 0x800 [] 0) = false := by decide
theorem test_wf_rpdo_extended : Instr.wf (.rpdo 0 true 0x800 [] 0) = true := by decide
theorem test_wf_state_vector_ports : Instr.wf (.partnerStateVector 0 0 { ports := List.replicate 111 0 } 0) = false := by decide
theorem test_wf_state_vector_law : Instr.wf (.partnerStateVector 0 0 { law := [0], ports := List.replicate 112 0 } 0) = false := by decide

/-! ## Stored records (16) -/

/-- Table 16-3 with the CRC-32 of a library over the bytes of header and payload. -/
def copyC : RecCopy :=
  { header := 0x20000000000070000a0f700000003, payload := [0x61, 0x62, 0x63], sum := 0x7d0d23c2, commit := 0x434D495400000007 }
theorem test_copy_valid : copyC.valid = true := by decide +kernel
theorem test_copy_uncommitted : { copyC with commit := 0 }.valid = false := by decide
theorem test_copy_repaired : (readRec ⟨.slot 0, some copyC, some { copyC with commit := 0 }⟩ { mram := { slotA := some ⟨7, 0, [], []⟩ } }).flag Reg.CFG_STATUS
    F.CFG_STATUS_COPY_REPAIRED = true := by decide +kernel
theorem test_record_lost : (readRec ⟨.slot 0, none, none⟩ { mram := { slotA := some ⟨7, 0, [], []⟩ } }).mram.slotA = none := by decide

/-! ## Engines (05) -/

theorem witness_engine_runs : Runs 3 runsS := by refine ⟨?_, ?_, ?_⟩ <;> decide
theorem witness_shift_16 : (16#8).toNat ≤ 16 := by decide
theorem witness_AccumulatorResults : Runs 3 runsS ∧ (-16 ≤ (0xF0#8).toInt ∧ (0xF0#8).toInt ≤ 7) ∧ (0 ≤ (31#8).toInt ∧ (31#8).toInt ≤ 31) ∧
    -32 ≤ (0xE0#8).toInt ∧ (0xE0#8).toInt < 0 := ⟨witness_engine_runs, by decide⟩
theorem witness_SaturatingAccumulatorResults : Runs 3 runsS ∧ (0 ≤ (7#8).toInt ∧ (7#8).toInt ≤ 7) ∧ -8 ≤ (0xF8#8).toInt ∧ (0xF8#8).toInt < 0 :=
  ⟨witness_engine_runs, by decide⟩
theorem witness_AddressRegisterRule : Runs 3 runsS ∧ (0x3FFF#16).toNat < 2 ^ 14 ∧ (14#16).toNat ≤ 14 ∧ (runsS.engine 3).kr 7 = 0 :=
  ⟨witness_engine_runs, by decide⟩
theorem witness_address_modulus : let x := runsE.setK 7 14; x.kr 7 ≠ 0 ∧ (x.kr 7).toNat ≤ 14 := by decide
theorem witness_LimitAndResidualResults : let x := runsS.engine 3
    (x.xr 3).toInt ≤ (x.xr 2).toInt ∧ (x.xr 1 ≠ 0 ∧ (x.xr 2).toInt.natAbs < (x.xr 1).toInt.natAbs) ∧
    ((runsE.setX 5 0xFFFF).xr 2).toInt = -((runsE.setX 5 0xFFFF).xr 5).toInt ∧ (runsE.setX 5 0xFFFF).xr 5 ≠ 0 ∧
    (x.xr 2 ≠ 0 ∧ (x.xr 2).toInt.natAbs ≤ (x.xr 3).toInt.natAbs ∧ (x.xr 3).toInt ≠ -(x.xr 2).toInt) ∧ x.xr 0 = 0 := by decide
theorem witness_data_sound : ∀ j, j < 3 → runsS.eccAt (dataAddr 3 ((runsS.engine 3).addr (.postModified 7 0xFF#8) j).toNat) = 0 := fun _ _ => rfl
theorem witness_data_apart : dataAddr 3 ((runsS.engine 3).addr (.absolute 0x3FFE) 0).toNat ≠ dataAddr 3 ((runsS.engine 3).addr (.absolute 0x3FFE) 1).toNat ∧
    dataAddr 3 ((runsS.engine 3).addr (.absolute 0x3FFE) 0).toNat ≠ dataAddr 3 ((runsS.engine 3).addr (.absolute 0x3FFE) 2).toNat ∧
    dataAddr 3 ((runsS.engine 3).addr (.absolute 0x3FFE) 1).toNat ≠ dataAddr 3 ((runsS.engine 3).addr (.absolute 0x3FFE) 2).toNat := by decide
/-- A wait of engine 3. -/
def waitS (w : Wait) : State := ({} : State).setEngine 3 { runsE with wait := w }
theorem witness_PortReadResults : (portRead 3 0x780 runsS).1 = some 0#32 ∧ runsS.inwReady 3 0x100 = false ∧
    { runsS with portSerial := [(0x100, 1)] }.inwReady 3 0x100 = true ∧
    ((waitS (.inw 0x780 4)).engine 3).wait = .inw 0x780 4 ∧ { waitS (.inw 0x780 4) with portSerial := [(0x780, 1)] }.inwReady 3 0x780 = true := by decide
theorem witness_port_read_error : (portRead 3 0x780 (setEcc (fabricAddr 0x780) 2 runsS)).1 = none := by decide
theorem witness_PortWriteQueues : isFabric 0x780 = true ∧ runsS.writeTrap 3 0x780 5#32 = 0 ∧ (runsS.engine 3).fabQ.length < 8 ∧
    isFabric 0x300 = false ∧ runsS.writeTrap 3 0x300 5#32 = 0 ∧ (runsS.engine 3).timedQ.length < 8 ∧
    ¬(runsE.timedQ ++ List.replicate 8 (⟨0x300, 1⟩ : PortWrite)).length < 8 ∧
    ((waitS (.room ⟨0x780, 1⟩)).engine 3).wait = .room ⟨0x780, 1⟩ ∧ ((waitS (.room ⟨0x300, 1⟩)).engine 3).wait = .room ⟨0x300, 1⟩ := by decide
theorem witness_FabricAtomicsAndWaits : isFabric 0x780 = true ∧ runsS.writeTrap 3 0x780 0 = 0 ∧ (runsS.engine 3).fabQ = [] ∧
    (runsS.engine 3).late = false ∧ runsS.now ≤ (runsS.engine 3).deadline ∧ portRead 3 0x780 runsS = (some 0#32, runsS) ∧
    runsS.eccAt (fabricAddr 0x780) = 0 ∧ isFabric 0x100 = false ∧ waitpHolds 0 0 1 = true ∧ waitpHolds 0 1 1 = false ∧
    ((waitS (.waitp 0x780 4 1)).engine 3).wait = .waitp 0x780 4 1 ∧ (runsS.engine 3).drained = true ∧
    { runsE with fabQ := [⟨0x780, 1⟩] }.drained = false ∧ ((waitS .fence).engine 3).wait = .fence := by decide
theorem witness_ProgramFlow : let x := runsS.engine 3
    condHolds x.flags 0 = true ∧ condHolds x.flags 1 = false ∧ x.calls.length < 4 ∧ x.calls = [] ∧ x.pc < 7#13 ∧ (7#13) ≠ x.pc + 1 ∧ x.loops.length < 2 ∧
    (5#13) ≤ x.pc ∧ 4 ≤ (List.replicate 4 x.pc).length ∧ 2 ≤ (List.replicate 2 (⟨1, 2, 3⟩ : LoopLevel)).length := by decide
theorem witness_EngineTraps : illegalCode 0 = some 1 ∧ 16 < (17#8).toNat ∧ (-9 : Int) = (0xF7#8).toInt ∧ (-17 : Int) = (0xEF#8).toInt ∧
    31 < (32#8).toInt ∧ 2 ^ 14 ≤ (0x4000#16).toNat ∧ 14 < (15#16).toNat ∧ 12 < (13#4).toNat ∧ 6 < (7#4).toNat := by decide

/-- Bounds in reversed order, ends even: LIMIT, LIMA, PRESET with lo above hi. -/
theorem witness_reversed_bounds : Runs 3 runsS ∧ ((runsS.engine 3).xr 2).toInt < ((runsS.engine 3).xr 1).toInt ∧ (4 : Fin 16).val % 2 = 0 :=
  ⟨witness_engine_runs, by decide⟩
theorem witness_corrected_read : ∀ j, j < 1 → (setEcc (dataAddr 3 5) 1 runsS).eccAt (dataAddr 3 ((runsS.engine 3).addr (.absolute 5) j).toNat) ≤ 1 :=
  fun j hj => by cases j with
    | zero => decide
    | succ => omega
theorem witness_atadd_behind_writes : let x := { runsE with fabQ := [⟨0x780, 7⟩] }
    let s := ({} : State).setEngine 3 x
    Runs 3 s ∧ s.writeTrap 3 0x780 0 = 0 ∧ (portRead 3 0x780 (x.fabQ.foldl (fun u w => deliver 3 w u) (s.setEngine 3 { x with fabQ := [] }))).1 = some 7#32 := by
  refine ⟨⟨?_, ?_, ?_⟩, ?_, ?_⟩ <;> decide +kernel

/-! ## Images, mode commands and modes (02 to 05) -/

theorem witness_EngineLoadAndEnable :
    let s := { withRegs [(Reg.ALARM 9, 3), (Reg.PD_ON, 0xFFF), (Reg.BUDGET, 60000)] (({} : State).setEngine 9 { valid := true }) with
      mram := { hasImage := [(9, true)] } }
    s.engLocked 9 = false ∧ s.reg (Reg.ENABLE 9) ≠ 1 ∧ tabGet false s.mram.hasImage 9 = true ∧ (s.engine 9).valid = true ∧ s.enginePower 9 = true ∧
    s.reg (Reg.ALARM 9) ≠ 0xFF ∧ (s.engine 9).stopping = false ∧ s.commitMw (s.enabledEngines + 1) (s.reg Reg.FLOOR) ≤ (s.reg Reg.BUDGET : Rat) ∧
    s.reg Reg.BEHAVIOUR_LEVEL ≠ 0 ∧ (withRegs [(Reg.BEHAVIOUR_LEVEL, 0)]).reg Reg.BEHAVIOUR_LEVEL = 0 ∧
    (withRegs [(Reg.LAW_BUILTIN, 1)]).reg Reg.LAW_BUILTIN = 1 ∧ ((s.setEngine 9 { loading := true }).engine 9).loading = true := by decide +kernel
theorem witness_ImagesAndMailboxes :
    let s := withRegs [(Reg.LAW_BUILTIN, 0), (Reg.IMG_ENGINE, 15), (Reg.IMG_ADDR, 8128)]
    let d := withRegs [(Reg.LAW_BUILTIN, 0), (Reg.IMG_SPACE, 1), (Reg.IMG_ADDR, 16256)]
    s.reg Reg.MODE = 0 ∧ s.reg Reg.LAW_BUILTIN = 0 ∧ (withRegs [(Reg.LAW_BUILTIN, 1)]).reg Reg.LAW_BUILTIN = 1 ∧ (withRegs [(Reg.MODE, 1)]).reg Reg.MODE ≠ 0 ∧
    s.reg Reg.IMG_SPACE ≠ 1 ∧ s.reg Reg.IMG_ADDR % 64 = 0 ∧ s.reg Reg.IMG_ADDR + 64 ≤ 8192 ∧
    d.reg Reg.IMG_SPACE = 1 ∧ d.reg Reg.IMG_ADDR % 128 = 0 ∧ d.reg Reg.IMG_ADDR + 128 ≤ 16384 ∧
    8192 < (withRegs [(Reg.IMG_ADDR, 8192)]).reg Reg.IMG_ADDR + 64 := by decide
theorem witness_image_crc (s : State) (c : Nat) : c = (s.setReg Reg.IMG_CRC c).reg Reg.IMG_CRC ∧ c ≠ (s.setReg Reg.IMG_CRC (c + 1)).reg Reg.IMG_CRC := by
  rw [reg_setReg_self, reg_setReg_self]
  exact ⟨rfl, Nat.ne_of_lt (Nat.lt_succ_self _)⟩
theorem witness_ParametersAndModeCommands : (withRegs [(Reg.EC_MODE, 0), (Reg.S_BASE 0, 22000000), (Reg.V_BASE 0, 3300)]).applyCheck = 0 ∧ (withRegs [(Reg.D_MIN, 5), (Reg.D_MAX, 1)]).applyCheck ≠ 0 ∧
    valueOk (baseReg 0 1) 40000 = true ∧ valueOk (baseReg 1 1) 99 = false ∧ (withRegs [(Reg.MODE, 1)]).reg Reg.MODE ≠ 0 := by decide
/-- A running device that holds the baton, in a mode. -/
def modeS (m : Nat) (l : List (Nat × Nat) := []) : State := { seenRegs ((Reg.MODE, m) :: l) with holds := true, phase := .running, now := sec 100000 }
theorem witness_LimitAndProtectionExits :
    let s := (modeS 2).setLaw { (modeS 2).law with det := [(7, 1000)] }
    let m := (modeS 3).setLaw { (modeS 3).law with ovSince := some 1, holdoverSince := some 1, recSince := (List.range 8).map fun i => (i, 1) }
    (s.engine 1).inCycle = false ∧ s.reg Reg.MODE = 2 ∧ s.holds = true ∧ (List.range 8).find? s.detConfirmed = some 7 ∧
    m.recovered = true ∧ m.reg Reg.MODE = 3 ∧ heldFor m.law.ovSince (Sys2Proof.ms (m.lreg Reg.OV_TRIP_T)) m.now = true ∧
    m.law.limitAt + Sys2Proof.ms (m.lreg Reg.LIMIT_MAX_T) ≤ m.now ∧ heldFor m.law.holdoverSince (Sys2Proof.ms (m.lreg Reg.HOLDOVER_T)) m.now = true ∧
    4 ≤ (s.setLaw { s.law with vdcTrip := 4 }).law.vdcTrip ∧
    (withRegs [(Reg.MODE_STATUS, fset F.MODE_STATUS_PJ_FOLLOW 0 1)]).ms F.MODE_STATUS_PJ_FOLLOW = true ∧ ({} : State).law.pjN = 0 ∧
    heldFor ((modeS 2).setLaw { (modeS 2).law with kviAt := some 0 }).law.kviAt (Sys2Proof.ms ((modeS 2).lreg Reg.KVI_RET)) (modeS 2).now = true ∧
    (modeS 2 [(Reg.BRK_MAXAGE, 1000)]).lreg Reg.BRK_MAXAGE ≠ 0 ∧
    (modeS 2).law.brkAt + Sys2Proof.ms ((modeS 2 [(Reg.BRK_MAXAGE, 1000)]).lreg Reg.BRK_MAXAGE) < (modeS 2).now := by decide
theorem witness_HoldRules :
    let f := (modeS 2 [(Reg.LAW_BUILTIN, 1)]).setEngine 7 { faulted := true }
    let s := modeS 2 [(Reg.MISS_RUN, 255)]
    let o := (modeS 2).setLaw { (modeS 2).law with outerMissRun := 255 }
    let h := (modeS 6 [(Reg.HOLD_MISSES, 255), (Reg.HELD_MODE, 2)]).setLaw { (modeS 6).law with recRun := 100000, outerOk := true }
    let k := modeS 2 [(Reg.MISS_RUN, 254)]
    f.holds = true ∧ f.switching = true ∧ f.lawFaulted = true ∧
    s.holds = true ∧ s.switching = true ∧ s.lawFaulted = false ∧ s.lreg Reg.MISS_N ≤ s.reg Reg.MISS_RUN ∧
    o.lawFaulted = false ∧ o.reg Reg.MISS_RUN < o.lreg Reg.MISS_N ∧ o.lreg Reg.OUTER_MISS_N ≤ o.law.outerMissRun ∧
    (modeS 2).lawFaulted = false ∧ (modeS 2).reg Reg.MISS_RUN < (modeS 2).lreg Reg.MISS_N ∧ (modeS 2).law.outerMissRun < (modeS 2).lreg Reg.OUTER_MISS_N ∧
    k.holds = true ∧ k.switching = true ∧ k.lawFaulted = false ∧ k.reg Reg.MISS_RUN < 255 ∧ k.lreg Reg.MISS_N ≤ k.reg Reg.MISS_RUN + 1 ∧
    State.reset.holds = false ∧ State.reset.reg Reg.MISS_RUN < 255 ∧
    h.holds = true ∧ h.reg Reg.MODE = 6 ∧ h.lreg Reg.HOLD_RECOVER ≤ h.law.recRun ∧ h.law.outerOk = true ∧ h.lawFaulted = false ∧
    h.lreg Reg.MISS_M ≤ h.reg Reg.HOLD_MISSES ∧ h.law.holdAt + Sys2Proof.ms (h.lreg Reg.HOLD_TIME) ≤ h.now ∧
    (withRegs [(Reg.LAW_BUILTIN, 1)]).reg Reg.LAW_BUILTIN = 1 ∧ (f.engine 7).faulted = true ∧
    { modeS 0 with arming := some 0 }.arming = some 0 ∧ 0 + Sys2Proof.ms ((modeS 0).lreg Reg.ARM_TIMEOUT) ≤ (modeS 0).now := by decide
/-- A soft stop whose ramp has ended: load group 0 arms the carriers of the law where it is given them. -/
def stopS (l : List (Nat × Nat)) : State :=
  let s := modeS 2 ((Reg.MODE_STATUS, fset F.MODE_STATUS_STOPPING 0 1) :: l)
  s.setLaw { s.law with stopAt := some 0 }
/-- The static-off and the LOAD_ALL of a soft stop. -/
def stopped (s : State) : State :=
  let w := s.forEach s.lawChans fun c y => writeShadow none (modePort c) 1 y
  loadAllGroups none s.lawGroups (w.setLaw { w.law with stopWait := true })
theorem witness_soft_stop : let s := stopS []
    let r : State := { s with pwm := { s.pwm with carriers := [(0, { running := true, wrapAt := sec 100001 })] } }
    s.ms F.MODE_STATUS_STOPPING = true ∧ s.law.stopWait = false ∧ s.law.stopAt = some 0 ∧ 0 + Sys2Proof.ms (s.lreg Reg.STOP_RAMP) ≤ s.now ∧
    (∀ g ∈ bitsOf 8 s.lawGroups, (stopped s).snap g = none) ∧ r.ms F.MODE_STATUS_STOPPING = true ∧ r.law.stopWait = false ∧ r.law.stopAt = some 0 ∧
    0 ∈ bitsOf 8 r.lawGroups ∧ (stopped r).snap 0 ≠ none := by decide +kernel
theorem witness_StartSyncAndEstimator :
    let s := (modeS 4 [(Reg.BS_STAGE, 4)]).setCad { settleSince := some 0 }
    let y := (modeS 5 [(Reg.BS_STAGE, 7)]).setCad { inWinSince := some 0, clearedAt := some 0 }
    s.reg Reg.BS_STAGE = 4 ∧ heldFor s.cad.settleSince (Sys2Proof.ms (s.lreg Reg.SETTLE_T)) s.now = true ∧ s.startAbort ≠ 0 ∧ y.syncAbort ≠ 0 ∧
    y.matching = true ∧ y.bs F.BS_STATUS_IN_SYNC = false ∧ heldFor y.cad.inWinSince (Sys2Proof.ms (y.lreg Reg.SYNC_HOLD)) y.now = true ∧
    heldFor y.cad.clearedAt (Sys2Proof.ms (y.lreg Reg.CLOSE_WIN)) y.now = true ∧
    ({} : State).law.est.lastAt.getD 0 + sec ((modeS 2).par Reg.STALE_S) ≤ (modeS 2).now ∧
    (modeS 2).law.est.lastAt.getD (modeS 2).bootInfo.bootAt + sec ((modeS 2).par Reg.STALE_S) ≤ (modeS 2).now := by decide +kernel
theorem witness_stopping_abort : ∀ p ∈ [(4, 4), (5, 7)],
    let s := (modeS p.1 [(Reg.BS_STAGE, p.2), (Reg.MODE_STATUS, fset F.MODE_STATUS_STOPPING 0 1)]).setCad { settleSince := some 0 }
    s.holds = true ∧ s.ms F.MODE_STATUS_STOPPING = true ∧ (p.1 = 4 → s.startAbort ≠ 0) ∧ (p.1 = 5 → s.syncAbort ≠ 0) := by decide +kernel

/-- Fifty-two chips whose voltage averages equal their current averages: R_g = 1, X_g = 0. -/
def probeChips : List (Dq × Dq × Dq) :=
  (List.replicate 13 [(1, 1), (1, -1), (-1, 1), (-1, -1)]).flatten.map fun p : Rat × Rat => (⟨p.1, p.2⟩, ⟨p.1, p.2⟩, ⟨p.1, p.2⟩)
/-- FORM with the estimator's window full. -/
def probeS : State :=
  let s := modeS 2
  s.setLaw { s.law with est := { s.law.est with on := true, chips := probeChips }, active := [(Reg.WINDOW, 52)] }

theorem witness_estimate_window : probeS.estRuns = true ∧ probeS.law.est.on = true ∧ probeS.par Reg.WINDOW ≤ probeS.law.est.chips.length ∧
    (probeS.par Reg.Q_MIN : Rat) ≤ 1 * 100 ∧ probeS.par Reg.RETUNE_EN ≠ 1 := by decide +kernel
theorem sqrtR_one : sqrtR 1 = 1 := by
  have h : isqrt 1 = 1 := by decide +kernel
  norm_num [sqrtR, h]
/-- The derived quantities of Real.lean at values whose exact result is known: square roots, a quarter turn, a diagonal. -/
theorem test_real : sqrtR (9 / 4) = 3 / 2 ∧ cosR (1 / 2) = -1 ∧ sinR (3 / 4) = -1 ∧ atan2R (-1) 1 = -(1 / 8) := by decide +kernel
theorem witness_estimate : probeS.estimate = some (1, 0, 1, 1) := by
  have hv : correlate (probeS.law.est.chips.map fun x => (x.1, x.2.1)) = ⟨52, 0, 0, 52⟩ := by
    have e : ∀ m : M2, m.a = 52 ∧ m.b = 0 ∧ m.c = 0 ∧ m.d = 52 → m = ⟨52, 0, 0, 52⟩ := fun ⟨a, b, c, d⟩ h => by simp_all
    exact e _ (by decide +kernel)
  have hi : correlate (probeS.law.est.chips.map fun x => (x.1, x.2.2)) = ⟨52, 0, 0, 52⟩ := by
    have e : ∀ m : M2, m.a = 52 ∧ m.b = 0 ∧ m.c = 0 ∧ m.d = 52 → m = ⟨52, 0, 0, 52⟩ := fun ⟨a, b, c, d⟩ h => by simp_all
    exact e _ (by decide +kernel)
  unfold State.estimate
  dsimp only
  rw [hv, hi]
  norm_num [sqrtR_one, absR, clampR]

theorem witness_EngineCycles :
    let s := withRegs [(Reg.ENABLE 9, 1), (Reg.ALARM 9, 2)] (({} : State).setEngine 9 { valid := true })
    let a : State := { s with alarms := [(2, { insts := [(5, false)] })] }
    let x : Engine := { inCycle := true, deadline := perTick * 9, wait := .ending }
    let f : Engine := { x with wait := .none, fabQ := [⟨0x780, 7⟩], timedQ := [⟨0x200, 7⟩] }
    (a.alarm 2).insts = [(5, false)] ∧ (s.reg Reg.LAW_BUILTIN = 1 ∨ s.reg Reg.HB_ALARM ≠ 2) ∧ s.fld (Reg.TA_CFG 2) F.TA_CFG_MODE = 0 ∧
    (withRegs [(Reg.TA_CFG 2, fset F.TA_CFG_MODE 0 2)]).fld (Reg.TA_CFG 2) F.TA_CFG_MODE ≠ 0 ∧
    s.reg (Reg.ENABLE 9) = 1 ∧ s.reg (Reg.ALARM 9) = 2 ∧ (s.engine 9).valid = true ∧ (s.engine 9).inCycle = false ∧ (s.engine 9).faulted = false ∧
    x.late = false ∧ x.deadline ≤ (s.advance (perTick * 9)).now ∧ (s.law.innerDue.any fun d => decide (d.2 ≤ perTick * 9)) = false ∧
    (s.setLaw { s.law with innerDue := [(0, perTick * 9 + 1), (3, perTick * 10)] }).law.innerDue.any (fun d => decide (d.2 ≤ perTick * 9)) = false ∧
    (a.setLaw { a.law with innerDue := [(1, 6), (3, 7)] }).law.innerDue.any (fun d => d.1 == 2) = false ∧
    s.tickCeil (s.advance (perTick * 9)).now ≤ x.deadline ∧ x.timedQ = [] ∧ x.fabQ = [] ∧ s.outerEngine 9 = false ∧
    s.onTick (perTick * 9) = true ∧ s.now ≤ perTick * 9 ∧ (s.engine 9).loading = false ∧ (s.engine 9).stopping = false ∧ f.fabQ = [⟨0x780, 7⟩] ∧ isFabric 0x780 = true ∧ { f with late := true }.late = true ∧ f.lastTick < perTick * 9 ∧
    s.pwm.pwmTick ≠ perTick * 9 ∧ s.inOrder 0 9 (perTick * 9) = true ∧ s.inOrder 2 9 (perTick * 9) = true := by decide
theorem witness_carrier_events :
    let s : State := { pwm := { events := [⟨0, true, 0⟩], carriers := [(3, { running := true })] } }
    s.pwm.events = [⟨0, true, 0⟩] ∧ (s.carrier 3).running = true ∧ (s.carrier 4).running = false := by decide
theorem witness_PolicyOrder :
    let b := (modeS 2).setLaw { (modeS 2).law with vdcTrip := 4 }
    let e := (modeS 2 [(Reg.LAW_BUILTIN, 1)]).setEngine 7 { faulted := true }
    let l := (modeS 3).setLaw { (modeS 3).law with holdoverSince := some 0 }
    let ready := modeS 1 [(Reg.BRK_STATE, 0), (Reg.BRK_MAXAGE, 0), (Reg.PRE_EN, 1), (Reg.VB_AB, 5), (Reg.VB_BC, 6), (Reg.VDC_MIN_FORM, 0),
      (Reg.BS_STATUS, fset F.BS_STATUS_EXT_LIVE 0 1)]
    (modeS 2).phase = .running ∧ State.reset.phase ≠ .running ∧ b.basecampCause ≠ 0 ∧
    e.holds = true ∧ e.basecampCause = 0 ∧ e.switching = true ∧ e.lawFaulted = true ∧
    l.basecampCause = 0 ∧ l.switching = true ∧ l.lawFaulted = false ∧ l.limitCause ≠ 0 ∧
    (modeS 1).basecampCause = 0 ∧ (modeS 1).switching = false ∧ (modeS 1).limitCause = 0 ∧ (modeS 1).autoExit.isNone = true ∧
    State.reset.holds = false ∧ (modeS 6).reg Reg.MODE = 6 ∧ (modeS 0).ms F.MODE_STATUS_STOPPING = false ∧ (modeS 0).armFail ≠ 0 ∧
    (modeS 1).brk ≠ 1 ∧ (modeS 1).builtin = true ∧ (measured (modeS 1)).startFail ≠ 0 ∧ (measured (modeS 1)).syncFail false ≠ 0 ∧ ready.lreg Reg.PRE_EN = 1 ∧ (measured ready).syncFail false = 0 := by decide +kernel
theorem witness_CadenceFrames :
    let s := (modeS 4 [(Reg.CAD_EN, 1), (Reg.UNIT_ID, 15), (Reg.PEER_MASK, 0xFFFF)]).setCad { rx := true, slotRef := sec 99990, queue := [1] }
    let r := s.setCad { rx := true, slotRef := sec 99990, frameAt := some (sec 99995) }
    let from_ := s.cad.slotRef + Sys2Proof.ms 800 + s.unitId * Sys2Proof.ms 400
    s.frameSince = false ∧ from_ ≤ from_ + 16 * Sys2Proof.ms 400 ∧ (from_ + 16 * Sys2Proof.ms 400 - from_) % (16 * Sys2Proof.ms 400) = 0 ∧
    s.now ≤ from_ + 16 * Sys2Proof.ms 400 ∧ s.cad.rx = true ∧ s.lreg Reg.CAD_EN = 1 ∧ s.mayTransmit = true ∧ s.cad.txAt = none ∧ s.cad.queue ≠ [] ∧
    s.bs F.BS_STATUS_RESYNC_ACTIVE = false ∧ s.bs F.BS_STATUS_HOLD_HEARD = false ∧
    r.frameSince = true ∧ r.cad.own = false ∧ bit (r.lreg Reg.PEER_MASK) 14 = true ∧ (14 : Nat) ≠ r.unitId ∧
    r.reg Reg.RX_DISCARD + 1 < 4294967296 ∧ bit ((modeS 4).lreg Reg.PEER_MASK) 14 = false ∧
    ((List.range 16).find? fun v => decide (r.reg Reg.TURN_PTR < v) && bit (r.lreg Reg.PEER_MASK) v && !r.regBit Reg.JOINED v) = none ∧
    ((List.range 16).find? fun v => decide (2 < v) && bit (r.lreg Reg.PEER_MASK) v && !r.regBit Reg.JOINED v) = some 3 := by decide
/-- Samples of the deviation, newest first, that read as unit 2 with message m after a detection at d: t_x is d + 350 ms. -/
def cadSamples (m : Nat) (d : Instant) : List (Instant × Rat) :=
  let symbol (k : Nat) : Instant × Rat := (d + Sys2Proof.ms (250 + 400 * k), if listGet false (cadSymbols 2 m) k then 1 else -1)
  ((symbol 0 :: (d + Sys2Proof.ms 350, 0) :: (List.range 11).map fun k => symbol (k + 1))).reverse
/-- A receiver whose frame in progress was detected at 99,990 s. -/
def frameS (m : Nat) (own : Bool) (unit : Nat := 15) : State :=
  (modeS 4 [(Reg.CAD_EN, 1), (Reg.UNIT_ID, unit), (Reg.PEER_MASK, 0xFFFF)]).setCad
    { rx := true, own := own, queue := [1], frameAt := some (sec 99990), samples := cadSamples m (sec 99990) }
/-- t_x + 4.4 s. -/
def frameEnd : Instant := sec 99990 + Sys2Proof.ms 4750
theorem witness_frame_reads : (frameS 1 false).frameRead = some (frameEnd, some (2, 1)) ∧ (frameS 5 true).frameRead = some (frameEnd, some (2, 5)) ∧
    bit ((frameS 1 true).lreg Reg.PEER_MASK) 2 = true ∧ (2 : Nat) ≠ (frameS 1 true).unitId := by decide +kernel
theorem witness_frame_bad : ((frameS 1 false).setCad { (frameS 1 false).cad with samples := [] }).frameRead = some (sec 99990 + Sys2Proof.ms 800, none) ∧
    (frameS 7 false).frameRead = some (frameEnd, some (2, 7)) ∧ (frameS 1 false).reg Reg.RX_DISCARD + 1 < 4294967296 := by decide +kernel
theorem witness_own_frame : let s := frameS 1 true 2
    s.unitId = 2 ∧ bit (s.lreg Reg.PEER_MASK) 2 = true ∧ s.cad.queue = [1] ∧ s.frameRead = some (frameEnd, some (2, 1)) := by decide +kernel
theorem witness_frame_start :
    let s := (frameS 1 false).setCad { rx := true, samples := [(sec 9 + Sys2Proof.ms 100, 2), (sec 9, 2), (sec 8 + Sys2Proof.ms 600, 0), (sec 8, 0)] }
    s.frameSince = false ∧ s.frameSeen = some (sec 9 + Sys2Proof.ms 100, 0) ∧ ({} : State).frameSeen = none := by decide +kernel
theorem witness_CadenceCommands :
    let s := (modeS 4 [(Reg.BS_STATUS, fset F.BS_STATUS_HOLD_HEARD (fset F.BS_STATUS_RESYNC_ACTIVE (fset F.BS_STATUS_MASTER 0 1) 1) 1), (Reg.CAD_EN, 1),
      (Reg.AUTO_MASTER, 1)]).setCad { joinBy := some 0 }
    s.bs F.BS_STATUS_HOLD_HEARD = true ∧ s.cad.holdUntil ≤ s.now ∧ s.bs F.BS_STATUS_RESYNC_ACTIVE = true ∧ s.cad.resyncUntil ≤ s.now ∧
    s.cad.joinBy = some 0 ∧ s.leads = true ∧ s.ls F.LAW_STATUS_DC_LIMIT = false ∧ s.ls F.LAW_STATUS_MACH_LIMIT = false ∧ s.cad.queue.length < 4 ∧
    4 ≤ (s.setCad { queue := [1, 2, 3, 4] }).cad.queue.length := by decide
theorem witness_CarriersAndLoads :
    let s := withRegs [(Reg.LAW_BUILTIN, 1)]
    let run := { s with pwm := { carriers := [(10, { running := true, startAt := some 5 })] } }
    (∀ k ∈ bitsOf 16 0x8000, (s.carrier k).running = false ∧ (s.builtin = true → 10 ≤ k)) ∧ s.reg Reg.START_AT = 0 ∧
    (∀ k ∈ bitsOf 16 0x200, (s.carrier k).running = true ∨ s.builtin = true ∧ k < 10) ∧ run.startingAt 5 ≠ [] ∧
    (∃ k ∈ bitsOf 16 0x200, k < 10) ∧ (run.carrier 10).running = true ∧ (run.carrier 10).evtFrom = 0 ∧
    (modeS 6).reg Reg.MODE = 6 ∧ (runsS.engine 3).inCycle = true ∧ (runsS.engine 3).late = false ∧ s.builtin = true ∧
    (withRegs [(Reg.LAW_BUILTIN, 0)]).builtin = false ∧ bit 0x81 0 = true ∧ bit 0x80 0 = false ∧ shadowOk 0x200 1600 = true ∧ shadowOk 0x200 1599 = false ∧ shadowOk 0x5FF 3 = false ∧
    s.lawPort 0x200 = true ∧ (withRegs [(Reg.LAW_BUILTIN, 0)]).lawPort 0x200 = false ∧ bit (modeS 6 [(Reg.LAW_BUILTIN, 1)]).holdGroups 0 = true := by decide
theorem witness_torn_and_open_load :
    let s := withRegs [(Reg.LG_CFG 2, fset F.LG_CFG_REQUIRE_COMPLETE 0 1), (Reg.CG_CFG 10, fset F.CG_CFG_ARM_PER (fset F.CG_CFG_GROUP 0 2) 1)]
      (({} : State).setEngine 9 { inCycle := true, cycleNo := 4 })
    s.reg Reg.MODE ≠ 6 ∧ s.requireComplete 2 = true ∧ (∃ q ∈ s.armedPorts 2, (s.shadow q).written = false) ∧
    s.requireComplete 1 = false ∧ s.snap 1 = none ∧ s.openCycle (some (9, 4)) = true := by decide

theorem witness_engine_admin :
    let on := fun y : Engine => withRegs [(Reg.ENABLE 9, 1), (Reg.ALARM 9, 3), (Reg.PD_ON, 0xFFF)] (({} : State).setEngine 9 { y with valid := true })
    let s := on {}
    let z := on { stopping := true }
    let l := on { inCycle := true, late := true }
    s.engLocked 9 = false ∧ s.enginePower 9 = true ∧ s.reg (Reg.ALARM 9) ≠ 0xFF ∧ s.reg (Reg.ENABLE 9) = 1 ∧ (s.engine 9).stopping = false ∧
    (z.engine 9).stopping = true ∧ (z.engine 9).valid = true ∧ z.enginePower 9 = true ∧ (l.engine 9).stopping = false ∧ (l.engine 9).inCycle = true ∧
    (l.engine 9).late = true ∧ (s.engine 9).inCycle = false := by decide +kernel
theorem witness_passed_deadline :
    let x : Engine := { inCycle := true, deadline := perTick * 9 }
    let s := ({} : State).setEngine 9 x
    x.late = false ∧ x.stopping = false ∧ x.deadline < (s.advance (perTick * 9 + 1)).now ∧ (s.law.innerDue.any fun d => decide (d.2 < perTick * 9 + 1)) = false ∧
    (({} : State).alarm 2).insts = [] ∧ isPwm ⟨0x100, 7⟩ = false ∧ isPwm ⟨0x200, 7⟩ = true ∧ isPwm ⟨0x5FF, 7⟩ = true ∧ isPwm ⟨0x600, 7⟩ = false ∧
    (s.engine 9).lastTick < perTick ∧ s.inOrder (portBlock 0x100) 9 perTick = true := by decide
theorem witness_kvi_outside_limit : (modeS 2).lawMode ≠ 3 ∧ (modeS 2 [(Reg.MODE_STATUS, fset F.MODE_STATUS_STOPPING 0 1)]).law.stopWait = false := by decide
/-- RETUNE_EN set, a ramp to the given values. -/
def retuneS (x : Rat × Rat × Rat) : State :=
  probeS.setLaw { probeS.law with active := [(Reg.WINDOW, 52), (Reg.RETUNE_EN, 1)], ramp := some ⟨(0, 0, 0), x, 0, 1⟩ }
theorem witness_retune : (retuneS (7, 7, 7)).par Reg.RETUNE_EN = 1 ∧ (retuneS (7, 7, 7)).estRuns = true ∧
    (retuneS (7, 7, 7)).par Reg.WINDOW ≤ (retuneS (7, 7, 7)).law.est.chips.length := by decide +kernel
theorem witness_retune_changes : (retuneS (7, 7, 7)).targets 1 0 ≠ (retuneS (7, 7, 7)).target :=
  fun h => absurd (congrArg Prod.fst h) (by decide +kernel)
theorem witness_retune_same (x : Rat × Rat × Rat) : (retuneS x).targets 1 0 = (retuneS ((retuneS x).targets 1 0)).target := rfl
theorem witness_policy_rows : rowFrom 1 2 = true ∧ rowFrom 0 2 = false ∧ (modeS 2).reg Reg.MODE = 2 ∧ (modeS 2).ms F.MODE_STATUS_STOPPING = false := by decide
theorem witness_carrier_matches :
    let s : State := { withRegs [(Reg.CG_PER_ACT 3, 1000), (Reg.CG_EVT 3, 999)] with pwm := { carriers := [(3, { running := true, wrapAt := 1000 * edgeTick })] } }
    let l : State := { s with pwm := { carriers := [(3, { running := true, wrapAt := 1000 * edgeTick, evtFrom := 999 * edgeTick + 1 })] } }
    s.evtAhead 3 = true ∧ s.evtAt 3 = 999 * edgeTick ∧ l.evtAhead 3 = false ∧ (withRegs [(Reg.CG_PER_ACT 3, 999)] s).reg (Reg.CG_PER_ACT 3) ≤ s.reg (Reg.CG_EVT 3) ∧
    0 < s.reg (Reg.CG_EVT 3) ∧ (s.carrier 3).wrapAt - s.perDur 3 + 999 * edgeTick = 999 * edgeTick ∧ s.startingAt 5 = [] ∧
    s.inOrder 2 3 (s.tickCeil s.now) = true := by decide
theorem witness_load_all :
    let s := runsS
    let d : State := { runsS with now := perTick }
    (s.engine 3).inCycle = true ∧ s.inOrder 2 3 (s.tickCeil s.now) = true ∧ (s.engine 3).timedQ = [] ∧ (s.engine 3).late = false ∧
    s.tickCeil s.now ≤ (s.engine 3).deadline ∧ d.inOrder 2 3 (d.tickCeil d.now) = true ∧ (d.engine 3).deadline < d.tickCeil d.now ∧
    ((d.setEngine 3 { runsE with late := true }).engine 3).late = true ∧ (d.engine 4).inCycle = false := by decide
theorem witness_odd_first :
    let s : State := { withRegs [(Reg.PWM_STATUS, 0), (Reg.PAIR_DT 100, fset F.PAIR_DT_LEG 0 1)] with pwm := { chans := [(201, { out := true })], edges := [⟨201, true, 5⟩] } }
    s.oddFirst 200 5 = true ∧ s.isLeg 200 = true ∧ s.interlockFree 200 6 = false ∧ s.oddFirst 200 6 = false := by decide
theorem witness_output_edges :
    let s : State := { ({} : State) with
      pwm := { eff := [(modePort 202, some 0)], chans := [(202, { held := true, minpulse := fset F.CH_MINPULSE_MINON 0 2 }), (200, { plan := [(7, true)] })] } }
    (s.chan 200).onAt = some 7 ∧ (s.chan 202).onAt = none ∧ (s.chan 202).held = true ∧ s.interlockFree 202 0 = true ∧ s.effVal (modePort 202) = 0 ∧
    s.minOn 202 ≠ 0 ∧ ¬s.minOn 202 ≤ s.onLeft 202 0 ∧ (s.chan 200).held = false := by decide

/-! ## PWM, acquisition, filters, recorder (06, 08 to 10) -/

theorem witness_OutputStages :
    let s : State := { withRegs [(Reg.PWM_STATUS, 0)] with pwm := { chans := [(200, { held := true, plan := [(7, true)] }), (203, { out := true })] } }
    (withRegs [(Reg.FORCE_OFF 7, 0x80000000)]).forced 255 = true ∧ (withRegs [(Reg.PAIR_DT 100, fset F.PAIR_DT_LEG 0 1)]).isLeg 200 = true ∧
    s.interlockFree 202 0 = false ∧ (s.chan (pairOf 202)).out = true ∧ (s.chan 200).plan = [(7, true)] ∧ (s.chan 200).held = true ∧
    s.interlockFree 200 0 = true ∧ s.minOn 200 = 0 ∧ (s.chan 200).cbc = false ∧ s.forced 200 = false ∧
    { s with pwm := { chans := [(202, { held := true }), (203, { out := true })] } }.interlockFree 202 0 = false := by decide
theorem witness_TripRules :
    let s := withRegs [(Reg.TRIP_CFG 31, fset F.TRIP_CFG_EN 0 1), (Reg.TRIP_FAULT, 3), (Reg.TRIP_LATCHED, 2), (Reg.TRIP_ACTIVE, 4), (Reg.LAW_BUILTIN, 1), (Reg.MODE, 1)]
    s.flag (Reg.TRIP_CFG 31) F.TRIP_CFG_EN = true ∧ s.regBit Reg.TRIP_ACTIVE 31 = false ∧ s.latches (s.retry 31) 0 true = true ∧
    s.regBit Reg.TRIP_ACTIVE 2 = true ∧ s.regBit Reg.TRIP_FAULT 0 = true ∧ s.regBit Reg.TRIP_LATCHED 0 = false ∧ s.regBit Reg.TRIP_ACTIVE 0 = false ∧
    (s.retry 0).decision + Sys2Proof.ms (s.reg Reg.TRETRY) ≤ sec 10 ∧ s.regBit Reg.TRIP_LATCHED 1 = true ∧ s.regBit Reg.TRIP_ACTIVE 1 = false ∧
    valueOk (Reg.TRIP_CFG 31) 0xFFFFFFFF = false ∧ valueOk (Reg.TRIP_CFG 31) (fset F.TRIP_CFG_EN (objReset (Reg.TRIP_CFG 31)) 1) = true ∧ fget F.TRIP_CFG_EN (s.reg (Reg.TRIP_CFG 0)) = 0 ∧
    s.builtin = true ∧ s.reg Reg.MODE ≠ 0 ∧ 1 ≠ s.reg (Reg.FORCE_OFF 2) ∧ (withRegs [(Reg.LAW_BUILTIN, 0)]).builtin = false := by decide
/-- Group 2 of the acquisition with one injected input and one regular one. -/
def adcS : State := withRegs [(Reg.SQ_CFG 2, fset F.SQ_CFG_EN (fset F.SQ_CFG_REG_LEN (fset F.SQ_CFG_INJ_LEN 0 1) 1) 1), (Reg.INJ_TRIG 2, 1),
  (Reg.ADC_STATUS, fset F.ADC_STATUS_READY 0 1), (Reg.LAW_BUILTIN, 0)]
theorem witness_AcquisitionRounds :
    let ready := fun q : Nat => adcS.flag (Reg.SQ_CFG (q / 2)) F.SQ_CFG_EN = true ∧ adcS.seqLen q ≠ 0 ∧
      adcS.flag Reg.ADC_STATUS F.ADC_STATUS_READY = true ∧ adcS.adc.stopping = false
    let p : State := { setSlice 0 sliceHome 0 adcS with adc := { rounds := [(5, some { pendAt := some 7 })], trigs := [(1, 7)] } }
    let c : State := { adcS with adc := { rounds := [(5, some { convAt := some 7, next := 1 })], convs := [⟨63, 2, true, 7, false, true, true⟩] } }
    let c4 : State := { adcS with adc := { rounds := [(4, some { convAt := some 7, next := 0 })] } }
    let tr := fset F.TRG_CFG_EN (adcS.reg (Reg.TRG_CFG 3)) 1
    ready 4 ∧ ready 5 ∧ adcS.round 5 = none ∧ p.round 5 ≠ none ∧ ({} : State).flag (Reg.SQ_CFG 2) F.SQ_CFG_EN = false ∧
    p.adc.trigs = [(1, 7)] ∧ p.seqTrig 5 = 1 ∧ p.firstStep = some (5, 7) ∧ (p.stepAt (p.step_ 5 0).length 7).isSome = true ∧
    p.lawRoom 5 (p.step_ 5 0).length (gridCeil 7) = true ∧ c.firstConv = some 5 ∧ c.seqLen 5 ≤ 1 ∧ seqInj 5 = true ∧
    c4.firstConv = some 4 ∧ 0 < c4.seqLen 4 ∧
    (c.adc.convs.find? (fun c => c.ain == 63)).map (·.at_) = some 7 ∧ 7 + ns 200 ≤ 7 + ns 280 ∧
    (withRegs [(Reg.TRG_CFG 3, tr)]).flag (Reg.TRG_CFG 3) F.TRG_CFG_EN = true ∧ (withRegs [(Reg.TRG_CFG 3, tr)]).trgEdge 3 true = true ∧
    (withRegs [(Reg.TRG_CFG 3, tr)]).trgRun 3 true (5 * perTick) = true ∧ (withRegs [(Reg.TRG_CFG 3, tr)]).trgRun 3 true (4 * perTick) = false ∧
    (withRegs [(Reg.TRG_TO 3, 1000)]).reg (Reg.TRG_TO 3) ≠ 0 ∧ valueOk (Reg.TRG_CFG 3) tr = true ∧ valueOk (Reg.TRG_CFG 3) 0xFFFFFFFF = false := by decide
theorem witness_OpenWireAndCalibration :
    let s := { withRegs [(Reg.OW_CFG 63, fset F.OW_CFG_ISEL 0 1), (Reg.STALE_TO 63, 5), (Reg.ADC_STATUS, fset F.ADC_STATUS_READY 0 1), (Reg.PD_ON, 0xFFF)] with
      adc := { lastSamp := [(63, some 0)] } }
    let w : State := { s with adc := { ow := [(63, some { at_ := 0, phase := 2 })] } }
    let cw := withRegs [(Reg.SLICE_STATUS 4, fset F.SLICE_STATUS_CAL_WAIT 0 1), (Reg.ADC_STATUS, fset F.ADC_STATUS_READY 0 1)]
    tabGet none s.adc.lastSamp 63 = some 0 ∧ s.reg (Reg.STALE_TO 63) ≠ 0 ∧ 0 + us (s.reg (Reg.STALE_TO 63)) ≤ us 5 ∧
    s.fld (Reg.OW_CFG 63) F.OW_CFG_ISEL ≠ 0 ∧ tabGet none s.adc.ow 63 = none ∧ s.flag Reg.ADC_STATUS F.ADC_STATUS_READY = true ∧ s.owAllowed 63 0 = true ∧
    (tabGet none w.adc.ow 63).map (·.phase) = some 2 ∧ (setSlice 16 sliceStandIn 15 s).freeSlice 0 = some 15 ∧
    { s with adc := { rounds := [(0, some { slices := List.range 17, convAt := some 0 })] } }.freeSlice 0 = none ∧
    tabGet 0 s.adc.owDone 63 + Sys2Proof.ms (s.reg (Reg.OW_PERIOD)) ≤ sec 100000000 ∧
    { s with adc := { startAt := some 0, pendDisable := true } }.adc.startAt = some 0 ∧ { s with adc := { cal := some (16, 0, false) } }.adc.cal = some (16, 0, false) ∧ (setSlice 16 sliceCal 0x1F s).sliceState 16 = sliceCal ∧
    calOk 0x7FFF 0 = false ∧ s.spareLeft = true ∧
    ((List.range 17).find? fun k => cw.flag (Reg.SLICE_STATUS k) F.SLICE_STATUS_CAL_WAIT) = some 4 ∧ cw.injectedWaits = false ∧ cw.adc.cal = none ∧
    s.adcPower = true ∧ s.adc.stopping = false ∧ s.adc.startAt = none ∧ ({} : State).flag Reg.ADC_STATUS F.ADC_STATUS_READY = false := by decide
theorem witness_stale_limit : let s := withRegs [(Reg.STALE_TO 63, 5)]
    let o : State := { s with adc := { lastSamp := [(63, some 0)], staleOld := [(63, some 9)] } }
    (tabGet none s.adc.staleOld 63).getD (s.reg (Reg.STALE_TO 63)) = 5 ∧ (tabGet none o.adc.staleOld 63).getD (o.reg (Reg.STALE_TO 63)) = 9 ∧
    tabGet none o.adc.lastSamp 63 = some 0 ∧ (0 : Instant) + us 9 ≤ us 9 := by decide
theorem witness_force_during_turn :
    let s := { withRegs [(Reg.SLICE_STATUS 4, fset F.SLICE_STATUS_CAL_WAIT 0 1), (Reg.ADC_STATUS, fset F.ADC_STATUS_READY 0 1)] with
      adc := { cal := some (4, 0, false) } }
    ((List.range 17).find? fun k => s.flag (Reg.SLICE_STATUS k) F.SLICE_STATUS_CAL_WAIT) = some 4 ∧ s.injectedWaits = false ∧
    s.adc.cal.any (·.2.2) = false ∧ s.flag Reg.ADC_STATUS F.ADC_STATUS_READY = true ∧ s.spareLeft = true ∧ s.adc.cal.any (·.1 == 4) = true := by decide
theorem witness_spare_gone : (withRegs [(Reg.SLICE_STATUS 16, fset F.SLICE_STATUS_STATE 0 sliceRetired)]).spareLeft = false := by decide
theorem witness_SigmaDeltaInputs :
    let s := { withRegs [(Reg.SDC_CFG 5, fset F.SDC_CFG_EN (objReset (Reg.SDC_CFG 5)) 1), (Reg.SDI_CFG 23, fset F.SDI_CFG_CLK (fset F.SDI_CFG_EN 0 1) 5),
      (Reg.LANE_CFG 39, fset F.LANE_CFG_SRC 0 23), (Reg.LANE_STATUS 39, fset F.LANE_STATUS_STATE 0 1)] with adc := { sdcGood := 0x20 } }
    valueOk (Reg.SDC_CFG 5) 0xFFFFFFFF = false ∧ valueOk (Reg.SDC_CFG 5) (s.reg (Reg.SDC_CFG 5)) = true ∧ s.flag (Reg.SDC_CFG 5) F.SDC_CFG_EN = true ∧
    s.flag (Reg.SDC_STATUS 5) F.SDC_STATUS_CLK_STALE = false ∧ bit ({} : State).adc.sdcGood 5 = false ∧
    s.flag (Reg.SDI_CFG 23) F.SDI_CFG_EN = true ∧ bit s.adc.sdcGood (s.sdiPin 23) = true ∧ s.flag (Reg.SDI_STATUS 23) F.SDI_STATUS_STUCK = false ∧
    (s.laneIsAin 39 = false ∧ s.laneSrc 39 = 23 ∧ s.laneRuns 39 = true ∧ s.laneThrottled 39 = false) ∧
    (s.setFlag (Reg.SDI_STATUS 23) F.SDI_STATUS_STUCK true).flag (Reg.SDI_STATUS 23) F.SDI_STATUS_STUCK = true := by decide
theorem witness_FilterLanes :
    let s := withRegs [(Reg.LANE_STATUS 39, fset F.LANE_STATUS_STATE 0 2), (Reg.LANE_CFG 39, fset F.LANE_CFG_DECIM (fset F.LANE_CFG_SRC_TYPE 0 1) 2),
      (Reg.BANK_A 39, fset F.BANK_TAPS (fset F.BANK_VALID 0 1) 1), (Reg.COEF_LANE, 39), (Reg.COEF_BANK, 1), (Reg.COEF_ADDR, 448)]
    let x := s.setFl 39 { ins := [1, 2], waiting := none, bank := 0 }
    let w : FirJob := { acc := 0, at_ := 0, from_ := some (us 3), ticks := 1, unsettled := false, bank := 0, k := 0, endsFade := false, delay := 0 }
    let own := w.from_.elim 0 fun f => f + ns (5 * w.ticks)
    let j : FirJob := { acc := 0, at_ := 0, from_ := none, ticks := 1, unsettled := false, bank := 0, k := 0, endsFade := false, delay := 0 }
    x.laneRuns 39 = true ∧ x.laneIsAin 39 = true ∧ x.laneCfg 39 F.LANE_CFG_DECIM ≤ (x.fl 39).ins.length ∧ (x.fl 39).waiting = none ∧
    ((x.setFl 39 { ins := [1, 2], waiting := some { x := 1, j := 0, at_ := 0 } }).fl 39).waiting ≠ none ∧
    ((x.setFl 39 { busy := some j }).fl 39).busy = some j ∧ j.at_ + ns (x.tLat 39 j.ticks) ≤ ns 300 + ns 10 ∧ ns 295 ≤ j.at_ + ns (x.tLat 39 j.ticks) ∧
    (w.at_ + ns (x.tLat 39 w.ticks) ≤ us 3 + ns 5 + ns 10 ∧ own ≤ us 3 + ns 5 ∧ us 3 + ns 5 ≤ max (w.at_ + ns (x.tLat 39 w.ticks)) own) ∧
    { s with law := { s.law with cbcOwned := true } }.lawFl 11 = true ∧ s.lawFl 39 = false ∧ valueOk (Reg.LANE_CFG 39) 0xFFFFFFFF = false ∧
    s.laneCfgOk 39 (objReset (Reg.LANE_CFG 39)) = true ∧
    s.reg Reg.COEF_ADDR % 64 = 0 ∧ s.reg Reg.COEF_ADDR ≤ 448 ∧ (withRegs [(Reg.COEF_ADDR, 63)]).reg Reg.COEF_ADDR % 64 ≠ 0 ∧
    s.bankInUse 39 0 = true ∧ s.bankInUse 39 1 = false ∧ s.bankValid 39 0 = true ∧ s.bankValid 39 1 = false ∧
    ({} : State).laneRuns 39 = false ∧ (x.fl 39).fade = none ∧ (x.fl 39).bank = 0 ∧ ((x.setFl 39 { fade := some (0, 8) }).fl 39).fade ≠ none := by decide +kernel
theorem witness_coefficients (s : State) (c : Nat) : c = (s.setReg Reg.COEF_CRC c).reg Reg.COEF_CRC ∧
    c ≠ (s.setReg Reg.COEF_CRC (c + 1)).reg Reg.COEF_CRC := by
  rw [reg_setReg_self, reg_setReg_self]
  exact ⟨rfl, Nat.ne_of_lt (Nat.lt_succ_self _)⟩
theorem witness_fir_fits : ({} : State).firFits (objReset (Reg.LANE_CFG 0)) 1 0 = true := by decide +kernel
theorem witness_RecorderSlots :
    let s := { withRegs [(Reg.RC_STATUS 3, fset F.RC_STATUS_STATE 0 1), (Reg.SLOT_STATE 3, 1)] with recs := [(3, { on := true, lastAt := some 0 })] }
    let p := withRegs [(Reg.RC_STATUS 3, fset F.RC_STATUS_STATE 0 1), (Reg.SLOT_STATE 3, 0x80000003)]
    let f := withRegs [(Reg.RC_STATUS 3, fset F.RC_STATUS_STATE 0 3), (Reg.SLOT_STATE 3, 0)]
    let g := withRegs [(Reg.RC_STATUS 3, fset F.RC_STATUS_STATE 0 3), (Reg.SLOT_STATE 3, 0xFFFFFFFF), (Reg.RD_INST, 3), (Reg.RD_SLOT, 15)]
    let on := fset F.RC_CFG_EN (({} : State).reg (Reg.RC_CFG 3)) 1
    let off := fset F.RC_CFG_EN (({} : State).reg (Reg.RC_CFG 3)) 0
    let t := ns 100000
    (s.rc 3).on = true ∧ s.now ≤ t ∧ s.ptpAt t % (s.reg (Reg.SPER 3) * 2 ^ 32) = 0 ∧ (s.rc 3).lastAt = some 0 ∧ 0 < t ∧ (({} : State).rc 3).on = false ∧
    s.rcState 3 = 1 ∧ f.rcState 3 = 3 ∧ p.slotState 3 15 = 2 ∧ (0x8000#16).getLsbD 15 = true ∧ p.rcState 3 ≠ 3 ∧ p.slotState 3 0 = 3 ∧
    0 < f.rcSlots 3 ∧ f.slotState 3 0 = 0 ∧ (∀ i, i < g.rcSlots 3 → g.slotState 3 i ≠ 0) ∧ g.rcCfg 3 F.RC_CFG_OVERWRITE = 0 ∧
    valueOk (Reg.RC_CFG 3) on = true ∧ ({} : State).rcCfg 3 F.RC_CFG_EN = 0 ∧ (({} : State).rc 3).stopping = false ∧ ({} : State).rcCfg 3 F.RC_CFG_KEEP = 0 ∧
    (withRegs [(Reg.PD_ON, 0xFFF)]).rcPower = true ∧ valueOk (Reg.RC_CFG 3) off = true ∧ (withRegs [(Reg.RC_CFG 3, on)]).rcCfg 3 F.RC_CFG_EN = 1 ∧
    g.slotState 3 15 = 3 ∧ g.reg Reg.RD_OFS % 8 = 0 ∧ s.slotState 3 0 = 1 := by decide
theorem witness_recorder_allowed :
    let s := withRegs [(Reg.RC_BASE 3, dramBase), (Reg.ROWS 3 0, 1000), (Reg.POST 3 0, 10), (Reg.SPER 3, 100000),
      (Reg.ROWS 3 1, 0), (Reg.ROWS 3 2, 0), (Reg.ROWS 3 3, 0)]
    let s : State := { s with regs := (Reg.DRAM_SIZE, 0x10000000) :: s.regs }
    s.rcAllowed 3 = true ∧ (s.setReg (Reg.RC_BASE 3) 0).rcAllowed 3 = false := by decide +kernel
/-- A device with initialised DRAM, one closed record in slot 15 of RC3 and its index entry. -/
def recordS (l : List (Nat × Nat) := []) : State :=
  let s : State := withRegs ([(Reg.PD_ON, 0xFFF), (Reg.RC_BASE 3, dramBase), (Reg.SLOT_STATE 3, 0xC0000000), (Reg.RD_INST, 3), (Reg.RD_SLOT, 15),
    (Reg.DRAM_STATUS, fset F.DRAM_STATUS_INIT_DONE 0 1), (Reg.IX_INST, 3), (Reg.IX_SLOT, 15)] ++ l)
  let s : State := { s with regs := (Reg.DRAM_SIZE, 0x10000000) :: s.regs }
  s.store 4 (s.ixAddr 3 15 + 36) 2
theorem witness_record_read :
    let u := recordS
    u.slotState 3 15 = 3 ∧ 0 < u.load 4 (u.ixAddr 3 15 + 36) * u.rcRow 3 0 ∧ u.dramReady (u.regionEnd 3 15 0) = true ∧
    (recordS [(Reg.DRAM_STATUS, 0)]).dramReady ((recordS [(Reg.DRAM_STATUS, 0)]).regionEnd 3 15 0) = false ∧
    u.memCode (u.ixAddr 3 15 + 32) = some 2 ∧ 2 ≤ (setEcc (u.ixAddr 3 15 + 32) 2 u).eccAt ((setEcc (u.ixAddr 3 15 + 32) 2 u).ixAddr 3 15 + 32) := by
  decide +kernel
theorem witness_record_sound (a : Nat) : recordS.eccAt a = 0 := rfl
theorem witness_IxReadCopiesTheIndexEntry :
    let u := recordS
    let a := u.reg (Reg.RC_BASE (u.reg Reg.IX_INST)) + 128 * u.reg Reg.IX_SLOT
    0x100000000 ≤ a ∧ u.dmaOk false a (a + 128) = true ∧ u.dramReady (a + 127) = true ∧
    (recordS [(Reg.DRAM_STATUS, 0)]).dmaOk false a (a + 128) = true ∧ (recordS [(Reg.DRAM_STATUS, 0)]).dramReady (a + 127) = false ∧
    (recordS [(Reg.RC_BASE 3, 0x10FFF400)]).dmaOk false 0x10FFF400 0x10FFF480 = false := by decide +kernel
theorem witness_recorder_stops :
    let c := objReset (Reg.RC_CFG 3)
    let on := fset F.RC_CFG_EN c 1
    let off := fset F.RC_CFG_EN c 0
    let st : State := { withRegs [(Reg.RC_CFG 3, off)] with recs := [(3, { stopping := true })] }
    let e : State := { withRegs [(Reg.RC_CFG 3, on)] with recs := [(3, { stopping := true })] }
    let k := fset F.RC_CFG_KEEP off 1
    let f : State := { withRegs [(Reg.DRAM_STATUS, fset F.DRAM_STATUS_INIT_DONE 0 1), (Reg.RC_CFG 3, on), (Reg.RC_STATUS 3, fset F.RC_STATUS_STATE 0 2), (Reg.CUR_SLOT 3, 0)] with recs := [(3, { on := true })] }
    (st.rc 3).stopping = true ∧ st.rcCfg 3 F.RC_CFG_EN = 0 ∧ valueOk (Reg.RC_CFG 3) on = true ∧ valueOk (Reg.RC_CFG 3) off = true ∧
    (e.rc 3).stopping = true ∧ e.rcCfg 3 F.RC_CFG_EN = 1 ∧ (withRegs [(Reg.RC_CFG 3, k)]).rcCfg 3 F.RC_CFG_KEEP = 1 ∧
    (f.rc 3).on = true ∧ (f.rc 3).stopping = false ∧ f.rcState 3 = 2 ∧ (f.setReg (Reg.RC_CFG 3) off).rcCanClose 3 = true := by decide +kernel
theorem witness_TriggerBus :
    let s := withRegs [(Reg.TB_CFG, fset F.TB_CFG_EN 0 1)]
    let c : TbCal := { lines := [3], good := 11, fails := 3, t0 := 0 }
    let d : State := { s with tb := { cal := some { c with good := 14, fails := 0 }, clkAt := some 0, clkN := 1022 } }
    s.flag Reg.TB_CFG F.TB_CFG_EN = true ∧ s.fld Reg.TB_STATUS ⟨8 + 3, 1⟩ = 0 ∧ s.now ≤ 0 + ns 80 + ns 10 ∧ s.tbMeasured 3 = false ∧ d.tbMeasured 3 = true ∧
    s.reg (Reg.TRG_EVENTS 3) + 1 < 2 ^ 32 ∧ ns 20 ≤ ns 60 ∧ ns 60 < ns 61 ∧ ns 200 < ns 201 ∧ ({} : State).flag Reg.TB_CFG F.TB_CFG_EN = false ∧
    d.tb.cal.isSome = true ∧ s.tb.cal = none ∧ (withRegs [(Reg.TB_CFG, fset F.TB_CFG_REF 0 1)]).flag Reg.TB_CFG F.TB_CFG_REF = true ∧
    s.flag Reg.TB_CFG F.TB_CFG_REF = false ∧ (8#4) ≠ 0 ∧
    (c.lines ≠ [] ∧ c.t0 ≤ 0 * sixteenth ∧ 32000 * sixteenth ≤ c.t0 + us 2 ∧ c.fails < 4 ∧ c.good + c.fails < 15 ∧ c.lines = [3] ∧ c.fails = 3 ∧ c.t0 + us 2 < us 3) ∧
    d.tb.clkAt = some 0 ∧ us 4 ≤ (ns 40 - 0) * 101 ∧ (ns 40 - 0) * 99 ≤ us 4 ∧ d.tb.clkN + 1 < 1024 ∧ us 4 < (ns 41 - 0) * 99 ∧ (ns 39 - 0) * 101 < us 4 := by decide

theorem witness_own_pulse :
    let s : State := { withRegs [(Reg.TB_CFG, fset F.TB_CFG_EN 0 1)] with tb := { pulses := [(3, [(ns 5, ns 105)])] } }
    s.ownPulse 3 (ns 5) = true ∧ s.ownPulse 3 (ns 105) = false ∧ ({} : State).ownPulse 3 0 = false := by decide
theorem witness_trip_ticks : let s := withRegs [(Reg.TRIP_CFG 31, fset F.TRIP_CFG_FILTER 0 4)]
    let run := fun t : Instant => s.onTick t = true ∧
      s.tickNo (tabGet 0 s.pwm.tripAt 31) + max 1 (s.fld (Reg.TRIP_CFG 31) F.TRIP_CFG_FILTER) ≤ s.tickNo t
    run (4 * perTick) ∧ ¬run (3 * perTick) ∧ ¬run (4 * perTick + 1) ∧
    s.flag (Reg.TRIP_CFG 31) F.TRIP_CFG_EN = false ∧ s.regBit Reg.TRIP_ACTIVE 31 = false ∧ (3 : Fin 8).val = 3 := by decide
theorem witness_round_ends :
    let r : Round := { convAt := some 7, next := 1 }
    let s : State := { adcS with adc := { rounds := [(4, some r)] } }
    let c := withRegs [(Reg.SQ_CFG 2, fset F.SQ_CFG_CONT (fset F.SQ_CFG_EN (fset F.SQ_CFG_REG_LEN 0 1) 1) 1)] s
    s.firstConv = some 4 ∧ s.round 4 = some r ∧ s.seqLen 4 ≤ r.next ∧ r.left = 0 ∧ s.adc.stopping = false ∧ seqInj 4 = false ∧
    s.flag (Reg.SQ_CFG 2) F.SQ_CFG_CONT = false ∧ c.flag (Reg.SQ_CFG 2) F.SQ_CFG_CONT = true ∧ c.flag (Reg.SQ_CFG 2) F.SQ_CFG_EN = true ∧ c.seqLen 4 ≠ 0 ∧
    c.flag Reg.ADC_STATUS F.ADC_STATUS_READY = true ∧ ({ s with adc := { stopping := true } } : State).adc.stopping = true ∧
    ({ r with left := 2 } : Round).left ≠ 0 ∧ s.firstStep = none ∧ s.adc.owConvs = [] ∧ ({} : State).firstConv = none ∧ ({} : State).adc.trigs = [] ∧
    ({ s with adc := { s.adc with owConvs := [(3, 5)] } } : State).firstConv = some 4 ∧
    5 < ({ s with adc := { s.adc with owConvs := [(3, 5)] } } : State).convAt 4 ∧ (∀ x ∈ [((3 : Nat), (7 : Instant))].head?, 7 ≤ x.2) := by decide
theorem witness_adc_administration :
    let s : State := { ({} : State) with adc := { startAt := some 0 } }
    let d : State := { ({} : State) with adc := { stopping := true, ow := [(63, some { at_ := 0 })] } }
    s.adc.startAt ≠ none ∧ s.adc.stopping = false ∧ s.adc.pendDisable = false ∧ d.adc.stopping = true ∧ ({} : State).adc.startAt = none ∧
    ({} : State).adcPower = false ∧ adcS.flag Reg.ADC_STATUS F.ADC_STATUS_READY = true ∧ ({} : State).flag Reg.ADC_STATUS F.ADC_STATUS_READY = false ∧
    tabGet none d.adc.ow 63 = some { at_ := 0 } ∧ (setSlice 16 sliceStandIn 15 d).freeSlice 0 = some 15 ∧ d.freeSlice 0 = none ∧ calOk 256 20000 = true ∧ (16 : Nat) < 17 ∧
    ({ s with adc := { cal := some (16, 0, true) } } : State).adc.cal = some (16, 0, true) ∧ ({ s with adc := { cal := some (16, 0, false) } } : State).adc.cal.any (·.2.2) = false := by decide
theorem witness_sigma_delta_lane :
    let s := { withRegs [(Reg.SDI_CFG 23, fset F.SDI_CFG_CLK (fset F.SDI_CFG_EN 0 1) 5), (Reg.LANE_CFG 39, fset F.LANE_CFG_DECIM (fset F.LANE_CFG_SRC 0 23) 2),
      (Reg.LANE_STATUS 39, fset F.LANE_STATUS_STATE 0 1)] with adc := { sdcGood := 0x20 } }
    let w (x : Flane) := s.setFl 39 x
    s.laneRuns 39 = true ∧ s.laneIsAin 39 = false ∧ s.sdiActive (s.laneSrc 39) = true ∧ s.laneThrottled 39 = false ∧ [true, false].length = s.laneCfg 39 F.LANE_CFG_DECIM ∧
    (s.fl 39).stale = false ∧ (s.fl 39).waiting = none ∧ ((w { stale := true }).fl 39).stale = true ∧
    ((w { waiting := some { x := 1, j := 0, at_ := 0 } }).fl 39).waiting ≠ none ∧ (s.fl 39).busy = none := by decide
theorem witness_fir_too_long : ({} : State).firFits (fset F.LANE_CFG_DECIM (objReset (Reg.LANE_CFG 0)) 1) 512 512 = false := by decide +kernel
theorem witness_recorder_states :
    let st := fun n : Nat => withRegs [(Reg.RC_STATUS 3, fset F.RC_STATUS_STATE 0 n)]
    let f := withRegs [(Reg.SLOT_STATE 3, 3), (Reg.RC_CFG 3, fset F.RC_CFG_SLOTS (fset F.RC_CFG_AUTO_REARM (fset F.RC_CFG_OVERWRITE (fset F.RC_CFG_KEEP (objReset (Reg.RC_CFG 3)) 1) 1) 1) 1)]
      { st 3 with recs := [(3, { closed := [0], stopping := true })] }
    let on := fset F.RC_CFG_EN (f.reg (Reg.RC_CFG 3)) 1
    (st 2).rcState 3 = 2 ∧ (st 0).rcState 3 = 0 ∧ 3 < (st 4).rcState 3 ∧ f.rcState 3 = 3 ∧ f.rcCfg 3 F.RC_CFG_AUTO_REARM = 1 ∧ f.rcCfg 3 F.RC_CFG_OVERWRITE = 1 ∧
    f.rcCfg 3 F.RC_CFG_KEEP = 1 ∧ (0 : Nat) < f.rcSlots 3 ∧ f.slotState 3 0 = 3 ∧ (∀ j, j < f.rcSlots 3 → f.slotState 3 j ≠ 0) ∧
    (f.rc 3).closed.find? (fun j => !f.regBit (Reg.PROTECT 3) j) = some 0 ∧ (f.rc 3).stopping = true ∧ f.rcCfg 3 F.RC_CFG_EN = 0 ∧
    valueOk (Reg.RC_CFG 3) on = true ∧ valueOk (Reg.RC_CFG 3) (fset F.RC_CFG_SLOTS on 31) = false ∧ ({} : State).rcPower = false ∧ (({} : State).rc 3).on = false := by decide
theorem witness_trigger_bus_calibration :
    let c : TbCal := { lines := [3], good := 10, fails := 2, t0 := us 5 }
    let s : State := { ({} : State) with tb := { cal := some c } }
    s.tb.cal = some c ∧ c.lines ≠ [] ∧ c.fails < 3 ∧ c.good + c.fails < 15 ∧ c.t0 + us 2 < us 8 ∧ 0 * sixteenth < c.t0 ∧ us 7 ≤ c.t0 + us 2 ∧
    s.tb.clkAt = none ∧ (0#4) = 0 ∧ 1024 ≤ ({ s with tb := { clkAt := some 0, clkN := 1023 } } : State).tb.clkN + 1 := by decide

/-! ## Drivers, gate links, memory and DMA (07, 12) -/

theorem witness_LocalDrivers :
    let f := fun (x : Fld) => (Reg.LD_STATUS 7, fset x 0 1)
    let s := withRegs [(Reg.PD_ON, 0xFFF), (Reg.MODE, 1), (Reg.VDRV, 15000)]
    let e : State := { s with lds := [(7, { high := ⟨true, 0⟩, run := true, edges := [⟨0, true, 5⟩] })] }
    let u := withRegs [f F.LD_STATUS_BSTUV] { s with lds := [(7, { run := true })] }
    let w := withRegs [f F.LD_STATUS_BST_WAIT] s
    (s.ld 7).run = false ∧ (s.ld 7).stopping = false ∧ s.ldAllowed 7 = true ∧ s.flag (Reg.LD_STATUS 7) F.LD_STATUS_LATCHED = false ∧
    (({ s with lds := [(7, { stopping := true })] } : State).ld 7).stopping = true ∧
    w.flag (Reg.LD_STATUS 7) F.LD_STATUS_BST_WAIT = true ∧ w.ldRefresh 7 ≤ 15000 ∧ (w.ld 7).pendDisable = false ∧ 0 < w.ldRefresh 7 ∧
    (w.ld 7).waitAt + Sys2Proof.ms 1 ≤ Sys2Proof.ms 1 ∧ (2#2) ≠ 3 ∧ (e.ld 7).edges = [⟨0, true, 5⟩] ∧
    (e.ld 7).high.on = true ∧ (e.ld 7).high.at_ ≤ 0 ∧ (6499 : Nat) < 6500 ∧ (s.ld 7).high.on = false ∧
    u.flag (Reg.LD_STATUS 7) F.LD_STATUS_BSTUV = true ∧ u.flag (Reg.LD_STATUS 7) F.LD_STATUS_LATCHED = false ∧
    u.flag (Reg.LD_STATUS 7) F.LD_STATUS_BST_WAIT = false ∧ u.flag (Reg.LD_STATUS 7) F.LD_STATUS_VDRV_UV = false ∧ (u.ld 7).run = true ∧
    (u.ld 7).retry.decision + Sys2Proof.ms (u.reg Reg.TRETRY) ≤ sec 10 ∧
    (withRegs [f F.LD_STATUS_LATCHED]).flag (Reg.LD_STATUS 7) F.LD_STATUS_LATCHED = true := by decide
theorem witness_driver_refresh :
    let s : State := { withRegs [(Reg.VDRV, 15000), (Reg.LD_CFG 7, fset F.LD_CFG_MODE (fset F.LD_CFG_REFRESH_EN 0 1) 1)] with lds := [(7, { high := ⟨true, 0⟩, run := true })] }
    (0 : Nat) < s.ldRefresh 7 ∧ s.flag (Reg.LD_CFG 7) F.LD_CFG_REFRESH_EN = true ∧ (s.ld 7).high.on = true ∧ s.ldBoundary 7 0 = true := by decide
theorem witness_SwitchDriversAndSupply :
    let f := fun (x : Fld) => (Reg.SD_STATUS 3, fset x 0 1)
    let s := withRegs [(Reg.PD_ON, 0xFFF), (Reg.MODE, 1), (Reg.LD_STATUS 0, fset F.LD_STATUS_VDRV_UV 0 1)]
    let r : State := { s with sds := [(3, { run := true, pump := true })] }
    (s.sd 3).run = false ∧ (s.sd 3).stopping = false ∧ s.sdAllowed 3 = true ∧ s.flag (Reg.SD_STATUS 3) F.SD_STATUS_LATCHED = false ∧
    (r.sd 3).run = true ∧ (r.sd 3).pump = true ∧ r.flag (Reg.SD_STATUS 3) F.SD_STATUS_CP_OK = false ∧ (r.sd 3).pendDisable = false ∧
    (withRegs [f F.SD_STATUS_CP_OK]).flag (Reg.SD_STATUS 3) F.SD_STATUS_CP_OK = true ∧ s.latches (s.sd 3).retry 0 true = true ∧
    (withRegs [f F.SD_STATUS_CPUV] r).flag (Reg.SD_STATUS 3) F.SD_STATUS_CPUV = true ∧
    (withRegs [f F.SD_STATUS_CPUV] r).flag (Reg.SD_STATUS 3) F.SD_STATUS_LATCHED = false ∧
    (r.sd 3).retry.decision + Sys2Proof.ms (r.reg Reg.TRETRY) ≤ sec 10 ∧ (8999#16).toNat < 9000 ∧ 9500 < (9501#16).toNat ∧
    s.flag (Reg.LD_STATUS 0) F.LD_STATUS_VDRV_UV = true ∧ (9500#16).toNat ≤ 9500 := by decide
/-- Lane 63 in a state, with a lane record. -/
def laneS (st : Nat) (l : Lane := {}) (regs : List (Nat × Nat) := []) : State :=
  { withRegs ((Reg.GL_STATUS 63, fset F.GL_STATUS_STATE 0 st) :: regs) with lanes := [(63, l)], holds := true }
/-- A valid uplink frame of 37 data bytes: its version in the first, its CRC in the last two (R196). -/
def upBytes : List (BitVec 8) :=
  let d := 0x10 :: List.replicate 35 0
  (0xBC :: d ++ [crc16 d / 256, crc16 d % 256]).map (BitVec.ofNat 8)
theorem witness_GateFrames :
    let s := laneS laneLive {} [(Reg.CODES 63, 0x88888888)]
    let e : EdgeEv := ⟨252, true, 0⟩
    ({} : State).pwm.edges = [] ∧ ({ s with pwm := { edges := [e] } } : State).pwm.edges = [e] ∧ ({} : State).holds = false ∧
    s.holds = true ∧ s.laneState (e.ch / 4) = laneLive ∧ (s.lane (e.ch / 4)).queue.length < 8 ∧ s.driftEdge (e.ch / 4) (e.ch % 4) e.on = false ∧
    s.regBit Reg.LANE_FAULT 63 = false ∧ (laneS laneLive {} [(Reg.GL_CFG 63, fset F.GL_CFG_NO_RETRY 0 1)]).laneLatches 63 = true ∧
    s.ptpAt (ns 200) % ns 200 = 0 ∧ s.ptpAt (ns 201) % ns 200 ≠ 0 ∧ (s.lane 63).offUntil = none ∧ s.arming = none ∧
    ((laneS laneLive { offUntil := some 0 }).lane 63).offUntil = some 0 ∧ (laneS laneOff).laneState 63 ≠ laneIdle ∧ (laneS laneOff).laneState 63 ≠ laneLive ∧
    uplinkOk [] = false ∧ (s.lane 63).checkLeft = 0 ∧ uplinkOk (upBytes.map (·.toNat)) = true ∧
    0 < max (s.lane 63).liveAt (s.lane 63).upAt + ns (s.reg Reg.UPLINK_TO) ∧
    max (s.lane 63).liveAt (s.lane 63).upAt + ns (s.reg Reg.UPLINK_TO) ≤ sec 1 ∧
    s.reg (Reg.CODE_MAX (s.laneProfile 63)) < 16 ∧ s.reg (Reg.CODE_MIN (s.laneProfile 63)) ≤ s.code 63 3 true ∧
    s.code 63 3 true ≤ s.reg (Reg.CODE_MAX (s.laneProfile 63)) := by decide +kernel
theorem witness_LaneAccesses :
    let s := laneS laneLive { setup := [(1, 5)] } [(Reg.LANE_FAULT, 1 <<< 63), (Reg.GU_LANE, 63), (Reg.GU_REG, 6)]
    let a : Access := ⟨6, true, 0, .object, 0⟩
    s.regBit Reg.LANE_FAULT 63 = true ∧ s.regBit Reg.LANE_LATCHED 63 = false ∧ (s.lane 63).released = false ∧
    (s.lane 63).retry.decision + Sys2Proof.ms (s.reg Reg.TRETRY) ≤ sec 10 ∧ (withRegs [(Reg.LANE_LATCHED, 1 <<< 63)]).regBit Reg.LANE_LATCHED 63 = true ∧
    clearMask (s.lane 63).causesNow (cDESAT + cOC) = 0 ∧ (s.lane 63).access = none ∧ ((laneS laneLive { access := some a }).lane 63).access = some a ∧
    a.at_ + us 20 ≤ us 20 ∧ ({ a with kind := .setup } : Access).kind ≠ .object ∧
    (∃ x ∈ (s.lane 63).setup, x.2 ≠ 0 ∧ x.2 ≤ 5) ∧ (s.lane 63).waiting = [] ∧ (s.lane 63).setup.find? (fun x => decide (x.2 ≤ 5)) = some (1, 5) ∧
    s.laneState (s.reg Reg.GU_LANE) = laneLive ∧ s.reg Reg.GU_RESULT ≠ 1 ∧ 5 < s.reg Reg.GU_REG ∧ (laneS laneIdle).laneState 63 ≠ laneLive ∧
    (withRegs [(Reg.LAW_BUILTIN, 1)]).builtin = true ∧ (laneS laneOff {} [(Reg.PD_ON, 0xFFF)]).regBit Reg.PD_ON 7 = true ∧
    (laneS laneStopping).laneState 63 = laneStopping ∧ (laneS laneStarting).laneState 63 = laneStarting ∧ (laneS laneStarting).reg Reg.MODE = 0 ∧
    (laneS laneStarting).arming = none ∧ (laneS laneStarting {} [(Reg.MODE, 1)]).reg Reg.MODE ≠ 0 := by decide
theorem witness_MemoryAccessAndScrub :
    let s := withRegs [(Reg.DRAM_STATUS, fset F.DRAM_STATUS_TRAINED 0 1), (Reg.SCRUB_ADDR, sramBase), (Reg.SCRUB_LEN, 64), (Reg.MEM_ADDR, sramBase + 0x1000), (Reg.MEM_LEN, 256),
      (Reg.PD_ON, 0xFFF)]
    s.flag Reg.DRAM_STATUS F.DRAM_STATUS_TRAINED = true ∧ s.flag Reg.DRAM_STATUS F.DRAM_STATUS_INIT_DONE = false ∧
    s.memCode sramBase = some 0 ∧ s.memSpan sramBase = some (sramBase, fabricBase) ∧ sramBase + 64 ≤ fabricBase ∧ sramBase % scrubUnit 0 = 0 ∧ 64 % scrubUnit 0 = 0 ∧
    s.memo.scrubEnd = none ∧ (withRegs [(Reg.SCRUB_ADDR, 0x12000000)]).memCode 0x12000000 = none ∧
    ({ s with memo := { scrubEnd := some 5 } } : State).memo.scrubEnd.isSome = true ∧
    s.dmaOk false 0x12000000 0x12000001 = false ∧ s.dmaOk true 0x12000000 0x12000001 = false ∧
    s.dmaOk false 0x10001000 0x10001100 = true ∧ s.dmaOk true 0x10001000 0x10001100 = true ∧ ((setEcc 0x10001000 2 s).eccCheck 256 0x10001000).1.isSome = true := by decide +kernel
/-- A device with DRAM, its initialisation not done. -/
def dramS (l : List (Nat × Nat) := []) : State :=
  let s := withRegs ([(Reg.PD_ON, 0xFFF), (Reg.MEM_ADDR, dramBase), (Reg.MEM_LEN, 256)] ++ l)
  { s with regs := (Reg.DRAM_SIZE, 0x10000000) :: s.regs }
theorem witness_waiting_accesses :
    let i := dramS [(Reg.DRAM_STATUS, fset F.DRAM_STATUS_INIT_DONE 0 1)]
    dramS.dmaOk false dramBase (dramBase + 256) = true ∧ dramS.dmaOk true dramBase (dramBase + 256) = true ∧ dramS.dramReady (dramBase + 256 - 1) = false ∧
    i.dmaOk false dramBase (dramBase + 256) = true ∧ i.dramReady (dramBase + 256 - 1) = true ∧ dramS.memo.waits = [] ∧ dramS.memo.held = [] ∧
    dramS.flag Reg.DRAM_STATUS F.DRAM_STATUS_TRAINED = false := by decide +kernel
theorem witness_scrub_waits :
    let s : State := { dramS [(Reg.SCRUB_NEXT, dramBase)] with memo := { scrubEnd := some (dramBase + 64) } }
    let i : State := { dramS [(Reg.SCRUB_NEXT, dramBase), (Reg.DRAM_STATUS, fset F.DRAM_STATUS_INIT_DONE 0 1)] with memo := { scrubEnd := some (dramBase + 64) } }
    let r : State := ({} : State).setEngine 3 { inCycle := true }
    s.memo.scrubEnd = some (dramBase + 64) ∧ (s.advance 0).scrubFront dramBase < dramBase + 64 ∧ dramBase + 64 ≤ (i.advance 0).scrubFront dramBase ∧
    i.sramFree dramBase = true ∧ i.throttled 2 = false ∧ r.sramFree (dataAddr 3 0) = false ∧ (withRegs [(Reg.THROTTLE, 4)]).throttled 2 = true := by decide +kernel
theorem witness_held_granules :
    let z : State := { withRegs [(Reg.DMA_STATUS 15, fset F.DMA_STATUS_BUSY 0 1)] with memo := { dmas := [(15, { acking := true })] } }
    let h : State := { z with memo := { z.memo with held := [⟨dramBase, 0, 1, [.dma 15]⟩] } }
    (∀ x ∈ z.memo.held, x.owners.contains (.dma 15) = false) ∧ (heldOf (.dma 15) z).memo.dmas = z.memo.dmas ∧
    ((heldOf (.dma 15) h).dma 15).acking = true ∧ (h.memo.held.any fun x => x.owners.contains (.dma 15)) = true := by decide +kernel
theorem witness_DmaChannels :
    let busy := withRegs [(Reg.DMA_STATUS 15, fset F.DMA_STATUS_BUSY 0 1), (Reg.DMA_CFG 15, fset F.DMA_CFG_EN 0 1)]
    let x : State := { busy with memo := { dmas := [(15, { src := 0x10001000, dst := 0x10002000 })] } }
    let y : State := { busy with memo := { dmas := [(15, { src := flStream, emptyAt := some 0 })] } }
    let z : State := { busy with memo := { dmas := [(15, { acking := true })] } }
    busy.dmaFlag 15 F.DMA_STATUS_BUSY = true ∧ (withRegs [(Reg.DMA_CFG 15, fset F.DMA_CFG_EN 0 1)]).flag (Reg.DMA_CFG 15) F.DMA_CFG_EN = true ∧
    ({} : State).dmaFlag 15 F.DMA_STATUS_BUSY = false ∧ x.dmaNext = some 15 ∧ ({} : State).dmaNext = none ∧ (∃ c, c < 16 ∧ x.dmaCan c = true) ∧
    streamOf (x.dma 15).src = none ∧ (z.dma 15).acking = true ∧ (x.dma 15).acking = false ∧
    (y.dmaStream 15).isSome = true ∧ y.dmaWords 15 = [] ∧ (y.dma 15).acking = false ∧ y.dmaPaused 15 = false ∧ (y.dma 15).emptyAt = some 0 ∧ 0 + us (y.reg (Reg.TIMEOUT 15)) ≤ sec 1 ∧ x.dmaStream 15 = none := by decide

theorem witness_local_driver_states :
    let f := fun x : Fld => (Reg.LD_STATUS 7, fset x 0 1)
    let d (x : Ldrv) : State := { withRegs [(Reg.PD_ON, 0xFFF), (Reg.VDRV, 15000)] with lds := [(7, x)] }
    let w := withRegs [f F.LD_STATUS_BST_WAIT] (d { run := true, pendDisable := true })
    ((d { run := true }).ld 7).run = true ∧ ((d { run := true }).ld 7).stopping = false ∧ ({} : State).ldAllowed 7 = false ∧
    w.flag (Reg.LD_STATUS 7) F.LD_STATUS_BST_WAIT = true ∧ (w.ld 7).pendDisable = true ∧ (w.ld 7).run = true ∧ w.ldRefresh 7 ≤ 15000 ∧ 0 < w.ldRefresh 7 ∧
    (d {}).flag (Reg.LD_STATUS 7) F.LD_STATUS_BST_WAIT = false ∧ ((d { high := ⟨true, 9⟩ }).ld 7).high.on = true ∧
    (8 : Instant) < ((d { high := ⟨true, 9⟩ }).ld 7).high.at_ ∧ ((d {}).ld 7).edges = [] ∧ (withRegs [(Reg.LD_CFG 7, 0)]).flag (Reg.LD_CFG 7) F.LD_CFG_REFRESH_EN = false ∧
    (d {}).ldBoundary 7 0 = false ∧ 6500 ≤ (6500#16).toNat ∧ (3#2) = 3 ∧
    (withRegs [f F.LD_STATUS_VDRV_UV]).flag (Reg.LD_STATUS 7) F.LD_STATUS_VDRV_UV = true := by decide
theorem witness_switch_driver_states :
    let f := fun x : Fld => (Reg.SD_STATUS 3, fset x 0 1)
    let d (x : Sdrv) : State := { withRegs [(Reg.PD_ON, 0xFFF), (Reg.VDRV, 15000)] with sds := [(3, x)] }
    let p := d { run := true, pump := true, pendDisable := true }
    (p.sd 3).run = true ∧ (p.sd 3).pump = true ∧ p.flag (Reg.SD_STATUS 3) F.SD_STATUS_CP_OK = false ∧ (p.sd 3).pendDisable = true ∧ (p.sd 3).stopping = false ∧
    ((d { stopping := true }).sd 3).stopping = true ∧ ((d {}).sd 3).run = false ∧ ({} : State).sdAllowed 3 = false ∧
    (withRegs [f F.SD_STATUS_LATCHED]).flag (Reg.SD_STATUS 3) F.SD_STATUS_LATCHED = true ∧ (d {}).flag (Reg.SD_STATUS 3) F.SD_STATUS_CPUV = false ∧
    9000 ≤ (9000#16).toNat ∧ (d {}).flag (Reg.LD_STATUS 0) F.LD_STATUS_VDRV_UV = false := by decide
theorem witness_lane_states :
    let a : Access := ⟨6, true, 0, .object, 5⟩
    (laneS laneIdle).laneState 63 = laneIdle ∧ (laneS laneStarting { pendDisable := true }).laneState 63 = laneStarting ∧
    ((laneS laneStarting { pendDisable := true }).lane 63).pendDisable = true ∧ (laneS laneOff).regBit Reg.PD_ON 7 = false ∧
    ((laneS laneLive { access := some a }).lane 63).access = some a ∧ us 20 < a.at_ + us 20 ∧ ({ a with kind := .setup } : Access).kind ≠ .object ∧
    ((laneS laneLive { released := true }).lane 63).released = true ∧ (laneS laneLive {} [(Reg.GU_RESULT, 1)]).reg Reg.GU_RESULT = 1 ∧
    (laneS laneLive { setup := [(1, 0)] }).lane 63 = { setup := [(1, 0)] } ∧ (7 : Nat) < ns 1 ∧
    us 8 < ((laneS laneLive { upAt := us 8 }).lane 63).upAt + ns ((laneS laneLive).reg Reg.UPLINK_TO) ∧
    ((laneS laneIdle { upAt := 0 }).lane 63).upAt + ns ((laneS laneIdle).reg Reg.UPLINK_TO) ≤ sec 1 ∧
    us 8 < ((laneS laneLive { liveAt := us 8 }).lane 63).liveAt + ns ((laneS laneLive).reg Reg.UPLINK_TO) ∧
    ({} : State).bootInfo.codesAt + sec 3600 ≤ sec 3600 ∧ sec 3599 < ({} : State).bootInfo.codesAt + sec 3600 ∧
    ({ laneS laneLive with arming := some 0 } : State).arming ≠ none ∧ uplinkOk [0xBC] = false := by decide
theorem witness_memory_errors :
    let s := withRegs [(Reg.PD_ON, 0xFFF), (Reg.MEM_ADDR, sramBase + 0x1000), (Reg.MEM_LEN, 8)]
    let data : List Byte := s.memData 8
    let bad := setEcc (sramBase + 0x1000) 2 s
    let m := sramBase + 0x1000
    s.dmaOk false m (m + 8) = true ∧ s.dmaOk true m (m + 8) = true ∧ (s.eccCheck 8 m).1 = none ∧ (bad.eccCheck 8 m).1.isSome = true ∧
    (s.physWrite m data).1 = none ∧ (bad.physWrite m (data.take 1)).1.isSome = true ∧ (8 : Nat) ≤ 256 ∧
    ({} : State).flag Reg.DRAM_STATUS F.DRAM_STATUS_TRAINED = false ∧ ({} : State).memo.scrubEnd = none ∧ s.memCode m = some 0 := by decide +kernel

/-! ## Clocks, records, supervision (11, 15, 16) -/

theorem witness_PllsAndReference :
    let p := fun n : Nat => withRegs [(Reg.PLL_STATUS 0, fset F.PLL_STATUS_STATE 0 n), (Reg.PLL_STATUS 2, fset F.PLL_STATUS_STATE 0 n)]
    let lost := withRegs [(Reg.CLK_STATUS, fset F.CLK_STATUS_XIN_LOST 0 1)]
    (p 1).pll 2 = 1 ∧ tabGet 0 (p 1).clk.lockAt 2 + ns 16240 ≤ ns 16240 ∧ ns 16240 ≤ tabGet 0 (p 1).clk.lockAt 2 + us 100 ∧
    tabGet 0 (p 1).clk.lockAt 2 + us 100 < us 100 + 1 ∧ bit (p 1).clk.relock 0 = false ∧ (p 5).pll 2 = 5 ∧ (p 0).pll 2 = 0 ∧ (p 3).pll 2 = 3 ∧ (p 4).pll 0 = 4 ∧
    lost.clkFlag F.CLK_STATUS_XIN_LOST = true ∧ ({} : State).clkFlag F.CLK_STATUS_XIN_LOST = false ∧
    (((1600000 : Int) - 1600000) * 625).natAbs ≤ (p 4).reg Reg.HOLDOVER_BOUND * 1000 ∧ (p 4).reg Reg.HOLDOVER_BOUND * 1000 < (((1700000 : Int) - 1600000) * 625).natAbs ∧
    (p 4).flag (Reg.PLL_STATUS 0) F.PLL_STATUS_BAND_LIMIT = false ∧ (withRegs [(Reg.MODE, 1)]).reg Reg.MODE ≠ 0 := by decide
theorem witness_relock : let s : State := withRegs ((List.range 4).map fun n => (Reg.RC_CFG n, 0))
    s.reg Reg.MODE = 0 ∧ (∀ e, e < 16 → s.reg (Reg.ENABLE e) ≠ 1) ∧ (∀ n, n < 16 → (s.carrier n).running = false) ∧
    (∀ n, n < 8 → s.flag (Reg.SQ_CFG n) F.SQ_CFG_EN = false) ∧ (∀ n, n < 4 → s.flag (Reg.RC_CFG n) F.RC_CFG_EN = false) := by decide
theorem witness_relock_lanes : ∀ k, k < 64 → ({} : State).fld (Reg.GL_STATUS k) F.GL_STATUS_STATE ≠ 3 := by decide +kernel
theorem witness_TimebaseAndPtp :
    let st := withRegs [(Reg.TIME_FLAGS, fset F.TIME_FLAGS_STEPPED 0 1)]
    let v := withRegs [(Reg.TIME_FLAGS, fset F.TIME_FLAGS_PTP_VALID 0 1)] { clk := { ofs := some 5, ofsAt := some 0 } }
    let run := withRegs [(Reg.PTP_PORTS, 15), (Reg.PORT_STATE, 0x6666)]
    let red := withRegs [(Reg.REDUND, 2)]
    let paired := withRegs [(Reg.PAIR_STATUS, fset F.PAIR_STATUS_STATE 0 2)]
    let macd : State := { run with regs := run.regs ++ [(Reg.ETH_MAC 0, 5)] }
    st.tf F.TIME_FLAGS_STEPPED = true ∧ (withRegs [(Reg.MODE, 1)]).stepAllowed = false ∧ ({} : State).tf F.TIME_FLAGS_STEPPED = false ∧ ({} : State).stepAllowed = true ∧
    ({ clk := { setReq := some 9 } } : State).clk.setReq = some 9 ∧ v.clk.setReq = none ∧ v.clk.ofs = some 5 ∧ v.tf F.TIME_FLAGS_PTP_VALID = true ∧
    ({} : State).clk.ofs = none ∧ ({ clk := { ofsNew := some (5, 0) } } : State).clk.ofsNew = some (5, 0) ∧ ({} : State).pairState ≠ 2 ∧ paired.pairState = 2 ∧
    ({} : State).ptpRuns 3 = false ∧ run.ptpRuns 3 = true ∧ run.reg Reg.REDUND ≠ 2 ∧ (0 : Nat) = run.reg Reg.DOMAIN ∧ red.reg Reg.REDUND = 2 ∧ (withRegs [(Reg.REDUND, 2), (Reg.PTP_PORTS, 1)]).ptpRuns 1 = false ∧
    7 / 65536 ≠ macd.clockId ∧ (run.ptpPort 3).parent ≠ some 7 ∧ (run.ptpPort 3).sentAt.find? (·.1 == 0) = none ∧ run.portState 3 = 6 ∧
    v.clk.ofsAt = some 0 ∧ 0 + sec (v.reg Reg.ANN_TO) ≤ sec 100 ∧ ({} : State).clk.ofsAt = none ∧
    valueOk (ptpReg 0) 0xFFFF = false ∧ valueOk (ptpReg 0) 0 = true := by decide
theorem witness_ptp_frames :
    let run := withRegs [(Reg.PTP_PORTS, 15), (Reg.PORT_STATE, 0x6666)]
    let ring := withRegs [(Reg.REDUND, 2)]
    let r : State := { ring with ptp := { resid := [(0, 7, 3, 40)] } }
    let set : State := { withRegs [(Reg.MODE, 1)] with clk := { ofsNew := some (5, 0) } }
    run.ptpHears 3 0 = true ∧ run.ptpHears 3 1 = false ∧ run.ptpRuns 3 = true ∧ (0 : Nat) = run.reg Reg.DOMAIN ∧ 7 / 65536 ≠ ({ run with regs := run.regs ++ [(Reg.ETH_MAC 0, 5)] } : State).clockId ∧
    ring.reg Reg.REDUND = 2 ∧ r.ptp.resid.find? (fun y => y.1 == 0 && y.2.1 == 7 && y.2.2.1 == 3) = some (0, 7, 3, 40) ∧
    set.clk.ofsNew = some (5, 0) ∧ set.tf F.TIME_FLAGS_STEPPED = false ∧ set.stepAllowed = false ∧ set.pairState ≠ 2 ∧ set.pairState ≠ 3 := by decide
theorem witness_announce_lost :
    let v : State := { withRegs [(Reg.TIME_FLAGS, fset F.TIME_FLAGS_PTP_VALID 0 1), (Reg.TIME_STATE, 3)] with clk := { ofs := some 5, ofsAt := some 0 } }
    v.clk.ofsAt = some 0 ∧ 0 + sec (v.reg Reg.ANN_TO) ≤ (v.advance (sec 100)).now ∧ v.tf F.TIME_FLAGS_PTP_VALID = true ∧ v.reg Reg.TIME_STATE ≠ 0 ∧
    ({} : State).tf F.TIME_FLAGS_PTP_VALID = false := by decide
theorem witness_AlignmentAlarmsAndRecords :
    let s := withRegs [(Reg.EDGE_OFS, 1600)]
    let on := fset F.TA_CFG_EN (s.reg (Reg.TA_CFG 15)) 1
    let sel : State := { bootInfo := { run := some 1, trial := true } }
    let beat : Beat := { cycle := 0, tx := 2, known := 2, mode := 0, state := 2, flags := 1 <<< 14, modeSeq := 0, applied := 0, dcrc := 0, synced := true }
    let pr : State := { withRegs [(Reg.PAIR_STATUS, fset F.PAIR_STATUS_PARTNER_ALIVE (fset F.PAIR_STATUS_BL0_UP 0 1) 1)] with pair := { beat := some beat }, holds := true }
    ns 99 < s.clk.alignAt + ns 100 ∧ s.clk.alignAt + ns 100 ≤ ns 100 ∧ s.sreg 16 Reg.EDGE_OFS_ACT ≠ s.sreg 16 Reg.EDGE_OFS ∧
    ({} : State).sreg 16 Reg.EDGE_OFS_ACT = ({} : State).sreg 16 Reg.EDGE_OFS ∧ (withRegs [(Reg.PD_ON, 0xFFF)]).regBit Reg.PD_ON 11 = true ∧
    s.ptpAt (sec 1) % sec 1 = 0 ∧ (withRegs [(Reg.PD_ON, 0)]).regBit Reg.PD_ON 11 = false ∧ (withRegs [(Reg.LAW_BUILTIN, 1)]).builtin = true ∧
    valueOk (Reg.TA_CFG 15) on = true ∧ fget F.TA_CFG_EN (s.reg (Reg.TA_CFG 15)) = 0 ∧ fget F.TA_CFG_MODE (fset F.TA_CFG_MODE on 2) = 2 ∧ fget F.TA_CFG_EN on = 1 ∧
    valueOk (Reg.TA_CFG 15) (fset F.TA_CFG_EN on 0) = true ∧ (s.alarm 15).insts = [] ∧
    ({ mram := { compactAt := some 0 } } : State).mram.compactAt = some 0 ∧ s.mram.compactAt = none ∧ sel.patchRefused = true ∧ s.patchRefused = false ∧
    s.reg Reg.PATCH_ADDR % 256 = 0 ∧ s.reg Reg.PATCH_ADDR < patchSize ∧ sel.bootInfo.run = some 1 ∧ sel.bootInfo.trial = true ∧ s.bootInfo.run = none ∧
    s.holds = false ∧ pr.holds = true ∧ pr.partnerSynced = true ∧ pr.mode ≠ mLIMIT ∧ pr.mode ≠ mHOLD ∧ pr.mode = mBASECAMP ∧ pr.pair.beat = some beat ∧ beat.mode = mBASECAMP ∧
    pr.linkUp = true ∧ pr.pair.claim = none := by decide
theorem witness_PowerAndBudget :
    let s : State := { withRegs [(Reg.PD_REQ, 0xFFF), (Reg.PD_ON, 0xFFF), (Reg.ADC_EN, 0)] with phase := .running }
    let slow := withRegs [(Reg.STEP_MEAS, 60000), (Reg.VDD_CHOSEN, 700), (Reg.VDD_FLOOR, 650), (Reg.VDD_MAX, 800)] s
    bit (s.reg Reg.PD_REQ ^^^ (s.reg Reg.PD_REQ &&& 0xFFE)) 0 = true ∧ (0 : Nat) ∉ pdSwitched ∧ (∀ x ∈ [3, 4, 5, 10], x ∈ pdSwitched) ∧
    (s.regBit Reg.PD_ON 1 && s.regBit Reg.PD_ON 11) = true ∧ s.pdOffRefused 5 = false ∧ s.regBit Reg.PD_PENDING 5 = false ∧ bit s.sup.pdStart 5 = false ∧ s.regBit Reg.PD_ON 5 = true ∧
    bit ({ sup := { pdStart := 0x20 } } : State).sup.pdStart 5 = true ∧ bit s.sup.pdDis 5 = false ∧ (modeS 1).mode ≠ mBASECAMP ∧ s.mode = mBASECAMP ∧
    s.reg Reg.J_PENDING = 0 ∧ s.sup.standbyAt = none ∧ s.phase = .running ∧ s.sup.vidAt + Sys2Proof.ms 1 ≤ Sys2Proof.ms 1 ∧ s.reg Reg.VDD_CHOSEN < (withRegs [(Reg.VDD_FLOOR, 850)]).reg Reg.VDD_FLOOR ∧
    slow.reg Reg.VDD_FLOOR ≤ 700 ∧ (withRegs [(Reg.VDD_MAX, 690)] slow).reg Reg.VDD_MAX < 700 ∧ 700 + 10 ≤ slow.reg Reg.VDD_MAX ∧
    slow.reg Reg.STEP_SLOW * (100 - slow.reg Reg.GUARD_PCT) < slow.reg Reg.STEP_MEAS * 100 ∧ (withRegs [(Reg.VDD_MAX, 705)] slow).reg Reg.VDD_MAX < 700 + 10 ∧
    slow.reg Reg.STEP_SLOW * 100 < slow.reg Reg.STEP_MEAS * 100 := by decide

theorem witness_relock_blocked :
    (withRegs [(Reg.ENABLE 15, 1)]).reg (Reg.ENABLE 15) = 1 ∧ (1#3).getLsbD 0 = true ∧ (4#3).getLsbD 2 = true ∧
    (withRegs [(Reg.RC_CFG 3, fset F.RC_CFG_EN 0 1)]).flag (Reg.RC_CFG 3) F.RC_CFG_EN = true ∧ (laneS laneLive).fld (Reg.GL_STATUS 63) F.GL_STATUS_STATE = 3 ∧
    (withRegs [(Reg.PLL_STATUS 2, fset F.PLL_STATUS_STATE 0 2)]).pll 2 = 2 ∧ ns 16239 < tabGet 0 ({} : State).clk.lockAt 2 + ns 16240 := by decide
theorem witness_ptp_ports :
    let run := withRegs [(Reg.PTP_PORTS, 15), (Reg.PORT_STATE, 0x4444), (Reg.REDUND, 2)]
    let sent : State := { run with ptp := { ports := [(3, { sentAt := [(0, sec 5)] })] } }
    run.reg Reg.REDUND = 2 ∧ (1 : Fin 4).val < 2 ∧ run.portState 3 ≠ 6 ∧ (1 : Fin 3).val ≠ 0 ∧ run.ptpRuns 3 = true ∧
    (sent.ptpPort 3).sentAt.find? (·.1 == 0) = some (0, sec 5) ∧ ¬(sec 5 + sec 1 ≤ sec 6 - 1) ∧ sec 5 + sec 1 ≤ sec 6 ∧
    ({ clk := { ofsNew := some (5, 0) } } : State).clk.ofsNew = some (5, 0) ∧ (withRegs [(Reg.PAIR_STATUS, fset F.PAIR_STATUS_STATE 0 3)]).pairState = 3 ∧
    ({ clk := { ofs := some 7 } } : State).clk.ofs = some 7 ∧ ({} : State).clk.setReq = none := by decide
theorem witness_alarm_states :
    let on := fset F.TA_CFG_EN (objReset (Reg.TA_CFG 15)) 1
    let s := withRegs [(Reg.TA_CFG 15, on)]
    let z := withRegs [(Reg.TA_CFG 15, fset F.TA_CFG_MODE on 2)]
    fget F.TA_CFG_EN (s.reg (Reg.TA_CFG 15)) = 1 ∧ valueOk (Reg.TA_CFG 15) 0xFFFFFFFF = false ∧ z.taStart 15 ≤ z.ptpAt z.now ∧ (z.alarm 15).insts = [] ∧
    (15 : Fin 16).val ≥ 3 ∧ ({ mram := { compactAt := some 0 } } : State).mram.compactAt = some 0 ∧ (0 : Instant) + Sys2Proof.ms 100 < Sys2Proof.ms 101 := by decide
theorem witness_power_states :
    let s := withRegs [(Reg.PD_REQ, 0xFFF), (Reg.PD_ON, 0xFDF), (Reg.PD_PENDING, 0x20), (Reg.ADC_EN, 0)]
    let r := { withRegs [(Reg.PD_REQ, 0xFDF), (Reg.PD_ON, 0xFDF), (Reg.ADC_EN, 0)] with sup := { pdStart := 0x20, pdDis := 0x20 } }
    s.regBit Reg.PD_PENDING 5 = true ∧ s.regBit Reg.PD_ON 5 = false ∧ bit r.sup.pdStart 5 = true ∧ bit r.sup.pdDis 5 = true ∧ r.reg Reg.ADC_EN ≠ 1 ∧
    bit (0xFDF ^^^ 0xFFF) 5 = true ∧ bit r.sup.pdStop 5 = false ∧ bit s.sup.pdStart 4 = false ∧ (5 : Nat) ∈ pdSwitched ∧ s.pdOffRefused 5 = false := by decide
theorem witness_vid_bounds :
    let s : State := { withRegs [(Reg.VDD_CHOSEN, 750), (Reg.VDD_FLOOR, 755), (Reg.VDD_MAX, 755), (Reg.PD_ON, 0xFFF)] with phase := .running }
    s.phase = .running ∧ s.sup.vidAt + Sys2Proof.ms 1 ≤ Sys2Proof.ms 1 ∧ s.reg Reg.VDD_CHOSEN < s.reg Reg.VDD_FLOOR ∧
    s.reg Reg.VDD_MAX < s.reg Reg.VDD_CHOSEN + 10 ∧ s.reg Reg.VDD_CHOSEN ≤ s.reg Reg.VDD_MAX ∧ (withRegs [(Reg.VDD_MAX, 740)] s).reg Reg.VDD_MAX < 750 ∧
    (withRegs [(Reg.VDD_MAX, 765)] s).reg Reg.VDD_CHOSEN + 10 ≤ (withRegs [(Reg.VDD_MAX, 765)] s).reg Reg.VDD_MAX := by decide
theorem witness_domains :
    let p : State := { sup := { pdStart := 0x400 } }
    let b : State := { withRegs [(Reg.PD_ON, 0xFFF)] with sup := { pdStop := 0x20 }, adc := { convs := [⟨63, 2, true, 7, false, true, true⟩] } }
    bit p.sup.pdStart 10 = true ∧ bit p.sup.pdDis 10 = false ∧ b.pdFlushes 5 = true ∧ ({} : State).pdFlushes 5 = false := by decide
theorem witness_vid_lower :
    let s : State := { withRegs [(Reg.VDD_CHOSEN, 800), (Reg.VDD_FLOOR, 650), (Reg.VDD_MAX, 850), (Reg.PD_ON, 0xFFF)] with
      phase := .running, sup := { lowSince := some 0, steps := [(3, sec 20, 1)] } }
    let m := s.advance (sec 20)
    let target := s.reg Reg.STEP_SLOW * (100 - s.reg Reg.GUARD_PCT)
    let low := sinceWhen s.sup.lowSince m.now (decide (m.stepMeas * 100 * 100 < target * 95))
    m.stepMeas * 100 ≤ target ∧ heldFor low (sec 10) m.now = true ∧ s.reg Reg.VDD_FLOOR + 10 ≤ s.reg Reg.VDD_CHOSEN ∧ s.reg Reg.VDD_CHOSEN ≤ s.reg Reg.VDD_MAX ∧
    heldFor (sinceWhen none m.now true) (sec 10) m.now = false := by decide
theorem witness_in_service_tests :
    let s : State := { withRegs [(Reg.IST_EN, 0xF), (Reg.SLICE_STATUS 16, fset F.SLICE_STATUS_STATE 0 sliceStandIn), (Reg.PD_ON, 0xFFF)] with
      phase := .running, adc := { testFails := [(16, 1)] } , sup := { segBad := [(64 * 15 + 63, true)], supRun := [(5, 15)] } }
    s.istRuns 2 = true ∧ s.sliceState 16 ≠ sliceOff ∧ s.sliceState 16 ≠ sliceRetired ∧ 1 ≤ tabGet 0 s.adc.testFails 16 ∧ s.istRuns 1 = true ∧
    s.enginePower 15 = true ∧ tabGet false s.sup.segBad (64 * (15 : Fin 16).val + (63 : Fin 64).val) = true ∧ ({} : State).enginePower 15 = false ∧
    s.laneState 0 ≠ laneLive ∧ ({} : State).sliceState 0 = sliceOff ∧ (8 : Nat) < 9 ∧ (withRegs [(Reg.IST_EN, 7)]).regBit Reg.IST_EN 3 = false ∧
    sec 0 < tabGet 0 s.sup.istAt 3 + sec (s.reg Reg.IST_PERIOD) ∧ tabGet 0 s.sup.supRun 5 + 1 = 16 ∧ s.sup.steps = [] ∧
    ({} : State).regBit Reg.PD_ON 3 = false ∧ s.regBit Reg.PD_ON 3 = true := by decide

/-! ## In-service test, networks, start-up, pair (13 to 16) -/

theorem witness_TestsAndMonitors :
    let s : State := { withRegs [(Reg.IST_EN, 0xF), (Reg.IST_SRAM_LO, 0x10000000), (Reg.IST_SRAM_HI, 0x10001000), (Reg.PD_ON, 0xFFF), (Reg.MODE, 1)] with phase := .running }
    let d : State := { withRegs [(Reg.MODE, 2), (Reg.MOD_IREF 63, 100)] with sup := { mods := [(63, { code := some 5 })] } }
    (∀ x ∈ List.range 5, ({} : State).istRuns x = false) ∧ (∀ x ∈ List.range 4, s.istRuns x = true) ∧ s.reg Reg.IST_SRAM_LO ≠ 0 ∧ s.reg Reg.IST_SRAM_LO ≤ 0x10000FC0 ∧
    0x10000FC0 + 64 ≤ s.reg Reg.IST_SRAM_HI ∧ s.memCode 0x10000FC0 = some 0 ∧ s.enginePower 15 = true ∧ (s.engine 15).inCycle = false ∧ s.mode = mARMED ∧
    (laneS laneLive).laneState 63 = laneLive ∧ ((laneS laneLive).lane 63).checkLeft = 0 ∧ s.sup.spareRows.contains 5 = false ∧ s.regBit Reg.IST_EN 3 = true ∧
    tabGet 0 s.sup.istAt 3 + sec (s.reg Reg.IST_PERIOD) ≤ sec 100000000 ∧ ({} : State).supplyOk 1 1709 0 = false ∧ ({} : State).supplyOk 1 1710 0 = true ∧
    bit s.sup.supOut 1 = false ∧ tabGet 0 s.sup.supRun 1 < 15 ∧ 15 ≤ tabGet 0 ({ sup := { supRun := [(1, 15)] } } : State).sup.supRun 1 ∧
    (List.replicate 8 (0x047F#16)).length = 8 ∧ (List.replicate 5 (0#16)).length = 5 ∧ s.reg Reg.WL_RETIRED < 256 ∧ 256 ≤ (withRegs [(Reg.WL_RETIRED, 256)]).reg Reg.WL_RETIRED ∧
    s.monitored 0 = false ∧ d.driftDue 63 0 = true ∧ s.driftDue 63 0 = false ∧ (withRegs [(Reg.REPLAN_EN, 0)]).reg Reg.REPLAN_EN = 0 := by decide
/-- A running device whose service port and Ethernet are open, with one session on port 0. -/
def netS (l : List (Nat × Nat) := []) : State :=
  { withRegs ([(Reg.PD_ON, 0xFFF), (Reg.PORT_LEVEL 0, 2), (Reg.PORT_LEVEL 8, 3)] ++ l) with
    phase := .running, net := { svc := true }, mram := { sessions := [⟨0, 7, 3, 0⟩] }, now := sec 5 }
/-- NDP read of 0x3400:02 in session 7. -/
def readFrame : List (BitVec 8) := ndpFrame 1 0 0 7 0 [0x00, 0x34, 0x02, 0x00]
/-- NDP write of LEAD in session 7 with sequence number 4. -/
def writeFrame : List (BitVec 8) := ndpFrame 2 0 0 7 4 ([0x00, 0x2A, 0x01, 0x00] ++ toBytes 2 600)
theorem witness_ndp_frames : ndpFrameOk readFrame = true ∧ ndpFrameOk writeFrame = true ∧ ndpFrameOk [] = false ∧ ndpFrameOk (readFrame.dropLast ++ [0]) = false ∧
    fieldOf readFrame 3 1 = 1 ∧ ndpPayload readFrame = [0x00, 0x34, 0x02, 0x00] ∧ headerBad readFrame = false := by decide +kernel
theorem witness_JournalAndNdp :
    let s := netS
    let e : EthIn := ⟨0, 0, 0, 0, {}⟩
    let a : State := { s with net := { s.net with eth := [(3, fset F.ETH_CFG_EN 0 1)] } }
    (ndpReach 0 e 25 a).1 = true ∧ (ndpReach 9 e 25 s).1 = false ∧ (ndpReach 8 e 25 s).1 = true ∧ (ndpReach 4 e 25 s).1 = false ∧ (ndpReach 0 e 1477 a).1 = false ∧
    (ndpReach 0 { e with udp := { e.udp with fragment := true } } 25 a).1 = false ∧ s.rateFull 0 = false ∧ (netS [(Reg.NDP_RATE, 0)]).rateFull 0 = true ∧
    (objAt Reg.MODE).map (·.acc) = some .ro ∧ objAt 0x60000001 = none ∧ s.session 0 7 = some ⟨0, 7, 3, 0⟩ ∧ s.session 0 8 = none ∧ s.sessionsOf 0 < 16 ∧
    16 ≤ ({ s with mram := { sessions := (List.range 16).map fun i => ⟨0, i + 1, 0, 0⟩ } } : State).sessionsOf 0 ∧
    (5 : Nat) ≠ 8 ∧ 0 + sec (s.reg Reg.SESSION_TO) ≤ sec 10000000 ∧ State.reset.portOpen 0 = false ∧ s.portOpen 0 = true ∧
    s.writeCheck 0 Reg.MODE 1 0 ≠ stOK ∧ s.writeCheck 0 Reg.COEF_ADDR 2 64 = stOK ∧ (objAt Reg.COEF_ADDR).map (·.acc) = some .rw ∧
    s.writeCheck 0 Reg.I_LIM 2 0x4000 = stOK ∧ journaled Reg.I_LIM = true ∧ s.mirrors = false ∧
    s.portLevel 5 < writeLevel Reg.I_LIM ∧ s.levelOk 0 Reg.I_LIM 1 = true ∧ valueOk Reg.I_LIM 0xFFFF = false := by decide +kernel
/-- CAN controller 3 enabled as node 5 and operational. -/
def canS (l : List (Nat × Nat) := []) : State :=
  { netS ([(Reg.CAN_STATE 3, 2), (Reg.HEARTBEAT_MS, 1000)] ++ l) with
    net := { svc := true, cans := [(3, { cfg := fset F.CAN_CFG_NODE_ID (fset F.CAN_CFG_EN 0 1) 5 })] } }
theorem witness_CanOpen :
    let s := canS
    let r := canS [(Reg.RPDO_COBID 15, 0x205), (Reg.TPDO_COBID 15, 0x185), (Reg.PDO_PORTS 15, 8), (Reg.PDO_PORTS 31, 8), (Reg.TPDO_TYPE 15, 0xFF), (Reg.RPDO_TIMER 15, 10), (Reg.RPDO_TYPE 15, 240),
      (Reg.TPDO_MAP 15 0, 0x34000208), (Reg.RPDO_MAP 15 0, 0x34700808)]
    State.reset.sdoOn 3 = false ∧ s.sdoOn 3 = true ∧ s.pdoOn 3 = true ∧ objAt 0x60000001 = none ∧ (objAt Reg.MODE).map (·.acc) = some .ro ∧
    (∀ j, j < 16 → (r.carries 3 j (r.reg (Reg.RPDO_COBID j)) && cobIs (r.reg (Reg.RPDO_COBID j)) false 0x205) = (j == 15)) ∧
    r.reg (Reg.RPDO_TIMER 15) ≠ 0 ∧ r.regBit (Reg.RPDO_COBID 15) 31 = false ∧ r.tpdoCans 15 = [3] ∧ 0xFE ≤ r.reg (Reg.TPDO_TYPE 15) ∧ s.tpdoCans 15 = [] ∧
    r.reg (Reg.RPDO_TYPE 15) = 240 ∧ s.portOpen 7 = true ∧ s.canOn 3 = true ∧ s.reg Reg.HEARTBEAT_MS ≠ 0 ∧ s.nmtFor 3 5 = true ∧ s.nmtFor 3 6 = false ∧
    fget F.CAN_CFG_EN (fset F.CAN_CFG_EN 0 1) = 1 ∧ ({ s with net := { cans := [(3, { busOff := true })] } } : State).net.cans ≠ [] := by decide +kernel
theorem witness_sdo_repeat :
    let s : State := { canS with mram := { sessions := [⟨7, 5, 1, 0⟩], journal := [{ port := 7, session := 5, seq := 1, obj := Reg.I_LIM, val := 0x4000, at_ := sec 5 }] } }
    (s.sdoRepeat 3 5 Reg.I_LIM 0x4000).isSome = true ∧ s.session 7 5 = some ⟨7, 5, 1, 0⟩ := by decide
theorem witness_EthernetAndService :
    let s := netS
    let h := netS [(Reg.REDUND, 2)]
    let a : State := { netS with net := { svc := true, eth := [(12, 0x0A000001), (15, 1)] } }
    s.net.svc = true ∧ State.reset.net.svc = false ∧ s.phase = .running ∧ State.reset.phase ≠ .running ∧ valueOk Reg.REDUND 3 = false ∧ valueOk Reg.REDUND 2 = true ∧
    2 ≠ s.reg Reg.REDUND ∧ s.mode = mBASECAMP ∧ (modeS 1).mode ≠ mBASECAMP ∧ valueOk Reg.BEHAVIOUR_LEVEL 1 = true ∧ valueOk Reg.BEHAVIOUR_LEVEL 2 = false ∧
    s.inBase = true ∧ s.reg Reg.PAIR_EN = 0 ∧ (withRegs [(Reg.PAIR_EN, 1)]).reg Reg.PAIR_EN ≠ 0 ∧
    a.ethNow 3 0 = 0x0A000001 ∧ h.reg Reg.REDUND = 2 ∧ h.portOpen 0 = true ∧ h.net.supAt + Sys2Proof.ms 2000 ≤ sec 5 ∧ s.reg Reg.REDUND = 0 ∧
    1522 < 1500 + s.ipOverhead ⟨0, 0, 0, 0, {}⟩ ∧ ¬1522 < 1476 + s.ipOverhead ⟨0, 0, 0, 0, {}⟩ := by decide
theorem witness_service_pin :
    netS.onTick (sec 5) = true ∧ max netS.net.svcAt netS.bootInfo.bootAt + Sys2Proof.ms 10 ≤ sec 5 ∧ ¬(max netS.net.svcAt netS.bootInfo.bootAt + Sys2Proof.ms 10 ≤ Sys2Proof.ms 9) ∧
    netS.net.svc = true ∧ ({ netS with net := {} } : State).net.svc = false ∧ netS.phase = .running := by decide
theorem witness_frames_in :
    let s : State := { netS with net := { eth := [(0, 0x0A000001), (3, fset F.ETH_CFG_EN 0 1)] } }
    let e : EthIn := ⟨0, 0, 0, 0, {}⟩
    (portIn 0 e s).1 = true ∧ (portIn 0 e s).2.ethNow 0 0 = 0x0A000001 ∧ (portIn 1 e s).1 = false ∧ (portIn 0 { e with vid := 5 } s).1 = false := by decide
theorem witness_redundant_ports : (0 : Nat) < 2 ∧ (netS [(Reg.REDUND, 1)]).reg Reg.REDUND ≠ 0 ∧ netS.reg Reg.REDUND = 0 := by decide
theorem witness_hsr :
    let h : State := { netS [(Reg.REDUND, 2)] with net := { eth := [(3, fset F.ETH_CFG_EN 0 1)], dups := [⟨9, 1, sec 5, 2⟩] } }
    let h : State := { h with regs := (Reg.ETH_MAC 0, 5) :: h.regs }
    fget F.ETH_CFG_EN (h.ethNow 0 3) ≠ 0 ∧ h.ethMac 0 = 5 ∧ (9 : Nat) ≠ h.ethMac 0 ∧
    (dupForget h).net.dups.find? (fun d => d.src == 9 && d.seq == 1) = some ⟨9, 1, sec 5, 2⟩ ∧ bit 2 1 = true ∧
    (dupForget h).net.dups.find? (fun d => d.src == 9 && d.seq == 2) = none := by decide
theorem witness_ResetsAndStartup :
    let sb : State := { withRegs [(Reg.WAKE_CFG, 3), (Reg.WAKE_TIME, 5)] with phase := .standby }
    State.reset.phase = .reset ∧ sb.phase = .standby ∧ netS.phase = .running ∧ ({ netS with phase := .halted } : State).phase = .halted ∧
    (withRegs [(Reg.PD_ON, 0)]).regBit Reg.PD_ON 9 = false ∧ netS.regBit Reg.PD_ON 9 = true ∧ (⟨[], false, 15000, []⟩ : StartIn).romOk = false ∧
    (List.replicate 16 (0x1F#5)) ≠ [] ∧ (∀ y ∈ List.replicate 16 (0x1F#5), y = 0x1F#5) ∧ (modeS 1).mode ≠ mBASECAMP ∧ netS.mode = mBASECAMP ∧
    ({ sup := { standbyAt := some 0 } } : State).sup.standbyAt = some 0 ∧ netS.sup.standbyAt = none ∧ sb.regBit Reg.WAKE_CFG (b2n true) = true ∧ sb.regBit Reg.WAKE_CFG (b2n false) = true ∧
    sb.reg Reg.WAKE_TIME * 32768 / 1000000000 ≤ sb.rtcTicks (sec 1) ∧ (withRegs [(Reg.WAKE_CFG, 0)]).regBit Reg.WAKE_CFG (b2n true) = false := by decide
/-- An item of port 0 that waits to be applied. -/
def itemX : JItem := { port := 0, session := 7, seq := 3, obj := Reg.I_LIM, val := 0x4000, at_ := 0 }
theorem witness_JournalWorkAndBlocks :
    let s : State := { netS with mram := { journal := [itemX] } }
    let full : State := { s with mram := { s.mram with deltas := (List.range 4096).map fun i => ⟨i + 1, Reg.I_LIM, 0, none, 0, 7, 3⟩ } }
    s.phase = .running ∧ s.net.scbAt = none ∧ s.bootInfo.restart = false ∧ s.oldestItem = some itemX ∧ netS.oldestItem = none ∧ s.logFull = false ∧
    (objAt itemX.obj).map (·.acc) = some .rws ∧ s.deltaOf itemX = false ∧ (withRegs [(Reg.CFG_STATUS, fset F.CFG_STATUS_RWS_LOCKED 0 1)]).rwsLocked = true ∧
    ({ bootInfo := { restart := true } } : State).bootInfo.restart = true ∧ ({ net := { scbAt := some 0 } } : State).net.scbAt = some 0 ∧
    s.mode = mBASECAMP ∧ s.arming = none ∧ (modeS 1).mode ≠ mBASECAMP ∧ ((({} : State).setEngine 15 { stopping := true }).engine 15).stopping = true ∧
    (({ lds := [(7, { stopping := true })] } : State).ld 7).stopping = true ∧ (laneS laneStopping).laneState 63 = laneStopping ∧
    (laneS laneStopping).flag (Reg.GL_STATUS 63) F.GL_STATUS_PENDING_ENABLE = false ∧ (({ recs := [(3, { stopping := true })] } : State).rc 3).stopping = true ∧
    ((laneS laneStarting { pendDisable := true }).lane 63).pendDisable = true ∧ (({ lds := [(7, { pendDisable := true, run := true })] } : State).ld 7).run = true ∧
    State.reset.portOpen 8 = false ∧ s.portOpen 8 = true ∧ s.levelOk 8 Reg.FACTORY_RESET 2 = true ∧ s.levelOk 5 Reg.FACTORY_RESET 1 = false ∧ s.inBase = true ∧
    (modeS 1).inBase = false ∧ full.logFull = true ∧ full.deltaOf itemX = true := by decide +kernel
/-- A running device of a pair, with its link up, in a pair state. -/
def pairS (st : Nat) (l : List (Nat × Nat) := []) : State :=
  { withRegs ([(Reg.PD_ON, 0xFFF), (Reg.PAIR_EN, 1), (Reg.PAIR_STATUS, fset F.PAIR_STATUS_TIME_OK (fset F.PAIR_STATUS_PARTNER_ALIVE (fset F.PAIR_STATUS_BL0_UP (fset F.PAIR_STATUS_STATE 0 st) 1) 1) 1),
    (Reg.BATON_KNOWN, 4), (Reg.BATON_HELD, 4)] ++ l) with phase := .running, now := sec 5 }
/-- A heartbeat of a partner that holds the baton and mirrors the journal. -/
def beatX : Beat := { cycle := 0, tx := 4, known := 4, mode := 0, state := 4, flags := 0xC000, modeSeq := 0, applied := 0, dcrc := 0, synced := true }
theorem witness_PairFormationAndJoin :
    let w : State := { pairS pWAITING with pair := { beat := some beatX } }
    let j : State := { pairS pJOINING [(Reg.TIME_FLAGS, fset F.TIME_FLAGS_STEPPED 0 1)] with pair := { joined := 30, errSince := some 0 } }
    State.reset.belayOn = false ∧ w.belayOn = true ∧ w.pair.seqs.contains 5 = false ∧ ({ w with pair := { seqs := [5] } } : State).pair.seqs.contains 5 = true ∧
    State.reset.paired = false ∧ w.paired = true ∧ w.pairState = pWAITING ∧ w.linkUp = true ∧ State.reset.linkUp = false ∧ (pairS pSTANDBY).pairState ≠ pWAITING ∧
    w.bootInfo.idUnstable = false ∧ w.holds = false ∧ w.pair.beat = some beatX ∧ w.ps F.PAIR_STATUS_PARTNER_ALIVE = true ∧ bit beatX.flags 15 = true ∧
    w.ps (blUp 0) = true ∧ w.ps (blUp 1) = false ∧ tabGet 0 w.pair.laneAt 0 + us 10 ≤ us 10 ∧ us 9 < tabGet 0 w.pair.laneAt 0 + us 10 ∧
    j.pairState = pJOINING ∧ j.pair.joined / 2 % 16 = 15 ∧ j.tf F.TIME_FLAGS_STEPPED = true ∧ (∃ a, j.pair.errSince = some a ∧ a + Sys2Proof.ms 100 ≤ sec 5) ∧
    w.pair.errSince = none ∧ (pairS pSTANDBY).holds = false ∧ ({ pairS pACTIVE with holds := true } : State).holds = true ∧
    w.pair.timeAt + Sys2Proof.ms 1 ≤ Sys2Proof.ms 1 ∧ 0x80 ≤ fieldOf (ndpFrame 0x81 0 0 0 0 []) 3 1 ∧ fieldOf readFrame 3 1 < 0x80 := by
  refine ⟨?_, ?_, ?_, ?_, ?_, ?_, ?_, ?_, ?_, ?_, ?_, ?_, ?_, ?_, ?_, ?_, ?_, ?_, ?_, ?_, ?_, ?_, ⟨0, ?_, ?_⟩, ?_, ?_, ?_, ?_, ?_, ?_⟩ <;> decide
theorem witness_MirrorBatonAndTakeover :
    let s : State := { pairS pSTANDBY with pair := { beat := some beatX, missed := 255 } }
    let h : State := { pairS pACTIVE [(Reg.SOLO_ALLOW, 1)] with holds := true, mram := { journal := [{ itemX with unacked := true }] } }
    let m : State := { s with mram := { journal := [{ itemX with mirror := true }] } }
    let solo : State := withRegs [(Reg.PAIR_STATUS, fset F.PAIR_STATUS_STATE 0 pWAITING), (Reg.SOLO_ALLOW, 1)] (pairS pWAITING)
    State.reset.belayOn = false ∧ s.pairState = pSTANDBY ∧ s.holds = false ∧ h.holds = true ∧ s.mram.item 0 7 3 = none ∧
    h.mram.item 0 7 3 = some { itemX with unacked := true } ∧ m.mram.item 0 7 3 = some { itemX with mirror := true } ∧
    (∀ i ∈ s.mram.journal, i.unacked = false ∨ i.void = true) ∧ h.mram.journal.find? (fun i => i.unacked && !i.void) = some { itemX with unacked := true } ∧
    (0 : Instant) + us 300 ≤ sec 5 ∧ belayFrameOk [] = false ∧ max beatX.tx beatX.known ≤ h.reg Reg.BATON_HELD ∧ h.reg Reg.BATON_HELD ≤ h.reg Reg.BATON_KNOWN ∧
    (s.paired = true ∧ s.pairState ≠ pSINGLE ∧ s.reg Reg.HB_MISS_N ≤ s.pair.missed) ∧ ¬State.reset.paired = true ∧ s.pair.claim = none ∧ s.pair.beat = some beatX ∧
    beatX.synced = true ∧ s.ps F.PAIR_STATUS_TIME_OK = true ∧ State.reset.ps F.PAIR_STATUS_TIME_OK = false ∧ s.claimNumber = some 6 ∧
    s.reg Reg.BATON_KNOWN < (5#16).toNat ∧ s.pair.ignore < (5#16).toNat ∧ ({ pair := { claim := some ⟨6, 1, 0⟩ } } : State).pair.claim = some ⟨6, 1, 0⟩ ∧
    solo.phase = .running ∧ solo.paired = true ∧ solo.pairState = pWAITING ∧ solo.linkUp = false ∧ solo.reg Reg.SOLO_ALLOW = 1 ∧ solo.bootInfo.idUnstable = false ∧
    solo.pair.downSince + Sys2Proof.ms (solo.reg Reg.PARTNER_WAIT) * (1 + solo.duplexId) ≤ sec 1000000 ∧ solo.pair.batonSeen = none ∧
    solo.pair.claim = none ∧ solo.claimNumber = some 6 ∧ solo.ps F.PAIR_STATUS_PARTNER_ALIVE = false ∧ h.pair.deadAt + sec (h.reg Reg.SOLO_DELAY) ≤ sec 1000000 := by decide
theorem witness_PolicyRefusesInSoftStopAndHold :
    let s := (modeS 6).setLaw { (modeS 6).law with cmds := [(2, false, 6, 0)] }
    let z := (modeS 2 [(Reg.MODE_STATUS, fset F.MODE_STATUS_STOPPING 0 1)]).setLaw { (modeS 2).law with cmds := [(0, false, 2, 0)] }
    s.holds = true ∧ s.arming = none ∧ s.law.cmds = [(2, false, 6, 0)] ∧ s.reg Reg.MODE = 6 ∧ z.law.cmds = [(0, false, 2, 0)] ∧
    z.ms F.MODE_STATUS_STOPPING = true := by decide
theorem witness_StepKeepsTheInvariant : Inv State.reset ∧ step State.reset = .next State.reset.idle := ⟨⟨rfl, rfl⟩, rfl⟩
theorem witness_StepKeepsTheInvariant_command : step { State.reset with pending := [.swLoadAll 0] } = exec (.swLoadAll 0) State.reset := rfl

theorem witness_dictionary_states :
    let s := netS
    let idle : State := { s with mram := { sessions := [⟨0, 7, 3, sec 5⟩] } }
    s.writeCheck 0 Reg.I_LIM 2 0x4000 = stOK ∧ (objAt Reg.I_LIM).map (·.acc) = some .rws ∧ s.writeCheck 0 Reg.MODE 1 0 = stAccess ∧
    (idle.session 0 7).map (fun x => decide (sec 5 < x.at_ + sec (s.reg Reg.SESSION_TO))) = some true ∧ fieldOf (ndpFrame 0x30 0 0 7 0 []) 3 1 ∉ [1, 2, 0x10, 0x11, 0x20] ∧
    ndpFrameOk (ndpFrame 0x30 0 0 7 0 []) = true ∧ Reg.I_LIM ≠ Reg.PATCH_RESTART := by decide +kernel
theorem witness_tpdo_event : let r := canS [(Reg.TPDO_COBID 15, 0x185), (Reg.PDO_PORTS 31, 8), (Reg.TPDO_TYPE 15, 0xFF), (Reg.TPDO_TIMER 15, 10), (Reg.TPDO_MAP 15 0 - 1, 1), (Reg.TPDO_MAP 15 0, 0x34000208)]
    let old : State := { r with net := { r.net with tpdos := [(16 * 3 + 15, { at_ := some (sec 4), last := r.tpdoBytes 15 })] } }
    r.tpdoBytes 15 ≠ [] ∧ (r.tpdo 3 15).last = [] ∧ (r.tpdo 3 15).at_ = none ∧ (old.tpdo 3 15).last = old.tpdoBytes 15 ∧ r.tpdoCans 15 = [3] ∧
    (old.tpdo 3 15).at_ = some (sec 4) ∧ old.reg (Reg.TPDO_TIMER 15) ≠ 0 ∧ sec 4 + us (100 * old.reg (Reg.TPDO_INHIBIT 15)) ≤ sec 5 ∧
    sec 4 + Sys2Proof.ms (old.reg (Reg.TPDO_TIMER 15)) ≤ sec 5 ∧ ¬(sec 4 + Sys2Proof.ms (old.reg (Reg.TPDO_TIMER 15)) ≤ sec 4) ∧
    fget F.CAN_CFG_EN (r.reg (Reg.CAN_CFG 3)) = 0 ∧ fget F.CAN_CFG_EN ((withRegs [(Reg.CAN_CFG 3, fset F.CAN_CFG_EN 0 1)] r).reg (Reg.CAN_CFG 3)) = 1 := by decide +kernel
theorem witness_synchronous_pdos :
    let s : State := { canS [(Reg.RPDO_TYPE 15, 240), (Reg.TPDO_TYPE 15, 2)] with net := { rpdos := [(15, { held := some [1], waits := 8 })], tpdos := [(63, { syncs := 1 })] } }
    (tabGet {} s.net.rpdos 15).held = some [1] ∧ bit (tabGet {} s.net.rpdos 15).waits 3 = true ∧ bit (tabGet {} s.net.rpdos 15).waits 2 = false ∧
    s.reg (Reg.TPDO_TYPE 15) ≤ (s.tpdo 3 15).syncs + 1 ∧ (s.tpdo 2 15).syncs + 1 < s.reg (Reg.TPDO_TYPE 15) ∧
    entriesLen (s.rpdoEntries 15) ≤ [(1 : Byte)].length ∧ 1 ≤ s.reg (Reg.RPDO_TYPE 15) := by decide +kernel
theorem witness_rpdo_late : let s := canS [(Reg.RPDO_COBID 15, 0x205), (Reg.RPDO_TIMER 15, 10)]
    s.phase = .running ∧ s.reg (Reg.RPDO_TIMER 15) ≠ 0 ∧ s.regBit (Reg.RPDO_COBID 15) 31 = false ∧
    (tabGet {} s.net.rpdos 15).at_.getD s.bootInfo.bootAt + Sys2Proof.ms (s.reg (Reg.RPDO_TIMER 15)) ≤ sec 5 := by decide
theorem witness_can_bus_off :
    let s : State := { canS with net := { svc := true, cans := [(3, { busOff := true })] } }
    (s.can 3).busOff = true ∧ (canS.can 3).busOff = false ∧ s.canOn 3 = false ∧ (s.can 3).offAt + s.busOffTime 3 ≤ sec 5 ∧
    ¬((s.can 3).offAt + s.busOffTime 3 ≤ us 1) ∧ canS.canOn 3 = true ∧ canS.phase = .running := by decide
theorem witness_client_numbers :
    let s : State := { canS with mram := { deltas := [⟨1, Reg.I_LIM, 0x4000, none, 7, 5, 9⟩] } }
    s.session 7 5 = none ∧ s.sdoLast 7 5 = 9 := by decide
theorem witness_hsr_other_lan : let d : Dup := ⟨9, 1, sec 5, 2⟩
    bit d.lans 0 = false ∧ bit d.lans 1 = true ∧ (netS [(Reg.REDUND, 2)]).reg Reg.REDUND = 2 := by decide
theorem witness_supply_lost :
    let s : State := { bootInfo := { fellAt := some (us 1) } }
    let r : State := { netS with regs := (Reg.DRAM_STATUS, fset F.DRAM_STATUS_SELF_REFRESH 0 1) :: netS.regs }
    s.phase = .reset ∧ s.bootInfo.fellAt = some (us 1) ∧ s.now ≤ us 2 ∧ us 2 < us 1 + us 2 ∧ ¬(us 3 < us 1 + us 2) ∧ State.reset.bootInfo.fellAt = none ∧
    r.phase = .running ∧ r.flag Reg.DRAM_STATUS F.DRAM_STATUS_SELF_REFRESH = true ∧ netS.flag Reg.DRAM_STATUS F.DRAM_STATUS_SELF_REFRESH = false := by decide
theorem witness_startup_failures : (⟨[], false, 15000, []⟩ : StartIn).romOk = false ∧ (modeS 0).mode = mBASECAMP ∧
    (⟨[], true, 15000, []⟩ : StartIn).romOk = true ∧ Sys2Proof.ms 2 ≤ 0 + Sys2Proof.ms 2 := by decide
theorem witness_journal_restart :
    let i := { itemX with obj := Reg.PATCH_RESTART, val := 1 }
    let s : State := { netS with mram := { journal := [i] } }
    let late : State := { netS with net := { scbAt := some 0 } }
    s.oldestItem = some i ∧ (applyItem i false s).bootInfo.restart = true ∧ late.net.scbAt = some 0 ∧ 0 + Sys2Proof.ms 50 < Sys2Proof.ms 51 ∧ late.oldestItem = none := by decide
theorem witness_replayed_item :
    let s : State := { netS with mram := { journal := [itemX], deltas := [⟨1, Reg.I_LIM, 0, none, 0, 7, 3⟩] } }
    let l : State := { netS with regs := (Reg.CFG_STATUS, fset F.CFG_STATUS_RWS_LOCKED 0 1) :: netS.regs }
    s.deltaOf itemX = true ∧ s.mirrors = false ∧ netS.deltaOf itemX = false ∧ l.rwsLocked = true ∧ l.mirrors = false := by decide
theorem witness_flushing_blocks :
    let j : FirJob := { acc := 0, at_ := 0, from_ := none, ticks := 1, unsettled := false, bank := 0, k := 0, endsFade := false, delay := 0 }
    ((({} : State).setFl 39 { busy := some j }).fl 39).busy ≠ none ∧ ({ adc := { convs := [⟨63, 2, true, 7, false, true, true⟩] } } : State).adcBusy = true := by decide
theorem witness_blocks :
    let g (x : Engine) := ({} : State).setEngine 15 x
    ((g { inCycle := true, stopping := true }).engine 15).inCycle = true ∧ ((g { stopping := true }).engine 15).pendEnable = false ∧
    ((g { stopping := true }).engine 15).inCycle = false ∧ ({} : State).adc.stopping = false ∧ (laneS laneOff).laneState 63 ≠ laneStopping ∧
    (({ lds := [(7, { stopping := true })] } : State)).flag (Reg.LD_STATUS 7) F.LD_STATUS_PENDING_ENABLE = false ∧
    (({ lds := [(7, { pendDisable := true, run := true })] } : State)).flag (Reg.LD_STATUS 7) F.LD_STATUS_BST_WAIT = false := by decide
theorem witness_pair_states :
    let s : State := { pairS pSTANDBY with pair := { beat := some beatX } }
    let j : State := { pairS pJOINING with pair := { errSince := some (sec 5) } }
    s.belayOn = true ∧ s.paired = true ∧ s.pair.seqs.contains 5 = false ∧ s.holds = false ∧ s.pairState ≠ pWAITING ∧ s.pairState ≠ pJOINING ∧
    s.mode = mBASECAMP ∧ (withRegs [(Reg.MODE, 2)] s).mode ≠ mBASECAMP ∧ (pairS pACTIVE).pairState ≠ pJOINING ∧ (pairS pACTIVE).pairState ≠ pSTANDBY ∧
    (∃ a, j.pair.errSince = some a ∧ sec 5 < a + Sys2Proof.ms 100) ∧ j.pair.joined / 2 % 16 ≠ 15 ∧ (0 : Int).natAbs ≤ 65536 ∧ ¬(65537 : Int).natAbs ≤ 65536 :=
  ⟨by decide, by decide, by decide, by decide, by decide, by decide, by decide, by decide, by decide, by decide, ⟨_, rfl, by decide⟩, by decide, by decide, by decide⟩
theorem witness_join_turn :
    let j (n : Nat) : State := { pairS pJOINING [(Reg.TIME_FLAGS, fset F.TIME_FLAGS_STEPPED 0 1)] with pair := { joined := n } }
    (j 0).joinTurn (joinStep .configEnd) = true ∧ (j 0).joinTurn (joinStep .journalEnd) = false ∧ (j 2).joinTurn (joinStep .journalEnd) = true ∧
    (j 14).joinTurn 4 = true ∧ bit (j 30).pair.joined 4 = true ∧ (j 2).joinTurn 1 = false ∧ (j 0).pairState = pJOINING ∧
    (1#16).getLsbD 0 = true ∧ ((j 0).carrier 0).running = false := by decide
theorem witness_formation : let w : State := { pairS pWAITING with pair := { beat := some beatX } }
    w.belayOn = true ∧ w.paired = true ∧ w.pairState = pWAITING ∧ w.linkUp = true ∧ w.bootInfo.idUnstable = false ∧
    (!true || ({ w with bootInfo := { idUnstable := true } } : State).bootInfo.idUnstable) = true ∧ (!(true && false)) = true := by decide
theorem witness_offset_exchange :
    let s : State := { pairS pSTANDBY with pair := { timeTx := some 5, timeRx := some 7 } }
    let h : State := { pairS pACTIVE with holds := true, pair := { timeTx := some 5 } }
    (⟨9, some 8⟩ : TimeIn).rx = some 8 ∧ s.pair.timeTx = some 5 ∧ s.holds = false ∧ s.pairState ≠ pWAITING ∧ h.holds = true ∧ h.pair.timeTx = some 5 ∧
    s.pair.timeRx = some 7 ∧ h.pair.timeRx = none ∧ (⟨9, none⟩ : TimeIn).rx = none := by decide
theorem witness_told_results :
    let t (d : Nat) : State := { pairS pSTANDBY with mram := { journal := [{ itemX with mirror := true, told := some d }] } }
    (t 0).mram.journal.find? JItem.waitsMirror = some { itemX with mirror := true, told := some 0 } ∧
    (t 5).mram.journal.find? JItem.waitsMirror = some { itemX with mirror := true, told := some 5 } ∧ (objAt itemX.obj).map (·.acc) = some .rws ∧
    stOK = 0 ∧ (t 0).holds = false ∧ (t 0).pairState = pSTANDBY := by decide +kernel
theorem witness_higher_number :
    let h (sw : Nat) : State := { pairS pACTIVE [(Reg.SWITCHOVER, sw)] with holds := true }
    let c : State := { h 0 with pair := { claim := some ⟨6, 10, 0⟩ } }
    (h 1).holds = true ∧ (h 1).reg Reg.BATON_HELD < (5#16).toNat ∧ (h 1).reg Reg.BATON_KNOWN < (5#16).toNat ∧ (h 1).pair.ignore < (5#16).toNat ∧
    (h 1).reg Reg.SWITCHOVER = 1 ∧ (h 0).reg Reg.SWITCHOVER ≠ 1 ∧ (h 0).belayOn = true ∧ (h 0).pair.seqs.contains 5 = false ∧ (h 0).paired = true ∧
    c.pair.claim = some ⟨6, 10, 0⟩ ∧ c.holds = true ∧ c.paired = true ∧ (State.reset).holds = false ∧
    bit beatX.flags 14 = true ∧ bit ({ beatX with flags := 0 } : Beat).flags 14 = false ∧ ({ beatX with state := pSTANDBY } : Beat).state = pSTANDBY ∧
    ({ beatX with state := pJOINING } : Beat).state = pJOINING ∧ (∀ y, (h 0).pair.beat = some y → y.state ≠ pJOINING) := by
  refine ⟨?_, ?_, ?_, ?_, ?_, ?_, ?_, ?_, ?_, ?_, ?_, ?_, ?_, ?_, ?_, ?_, ?_, nofun⟩ <;> decide
/-- A heartbeat frame of the belay link with BSEQ 5 (Table 14-3, R375). -/
def beatFrame : List (BitVec 8) :=
  let body := [1, 0, 28, 0, 0, 0, 5] ++ List.replicate 28 0
  (0xBC :: body ++ beBytes 4 (crc32 (body.map (BitVec.ofNat 8)))).map (BitVec.ofNat 8)
theorem witness_heartbeat_frame : belayFrameOk beatFrame = true ∧ fieldOf beatFrame 1 1 = 0x01 ∧ beatFrame.length = 40 ∧
    ofBytes (slice beatFrame 4 4).reverse = 5 := by decide +kernel
theorem witness_solo :
    let s : State := { pairS pACTIVE [(Reg.SOLO_ALLOW, 1), (Reg.PAIR_STATUS, fset F.PAIR_STATUS_STATE 0 pACTIVE)] with holds := true }
    let w := { withRegs [(Reg.PAIR_STATUS, fset F.PAIR_STATUS_STATE 0 pWAITING), (Reg.SOLO_ALLOW, 1)] (pairS pWAITING) with pair := { claim := some ⟨6, 10, 0⟩ } }
    s.paired = true ∧ s.holds = true ∧ s.reg Reg.SOLO_ALLOW = 1 ∧ s.ps F.PAIR_STATUS_PARTNER_ALIVE = false ∧ s.pair.deadAt + sec (s.reg Reg.SOLO_DELAY) ≤ sec 1000000 ∧
    w.pair.claim = some ⟨6, 10, 0⟩ ∧ w.pairState = pWAITING ∧ (pairS pWAITING).reg Reg.SOLO_ALLOW ≠ 1 := by decide

/-! ## Single commands and functions against the manual's examples, tables and rules -/

/-- The next state of a command, the state itself where there is none. -/
def after (c : Instr) (s : State) : State := match exec c s with | .next t => t | _ => s

/-- Example after R110: unit 2 sends DONE as 1 0 | 0 0 1 0 | 0 1 0 1 | 1 0. -/
theorem test_cadence_done_of_unit_2 :
    cadSymbols 2 5 = [true, false, false, false, true, false, false, true, false, true, true, false] := by decide
/-- Chapter 9's example: FL20 from SDI12 on SDC2, ORDER 5, DECIM 64, bank A of 63 taps, bank B of 127. -/
def fl20 : State :=
  let b (l d : Nat) : Nat := fset F.BANK_FIR_DELAY (fset F.BANK_TAPS (fset F.BANK_VALID 0 1) l) d
  withRegs [(Reg.SDI_CFG 12, 2), (Reg.LANE_CFG 20, fset F.LANE_CFG_SRC (fset F.LANE_CFG_ORDER (fset F.LANE_CFG_DECIM 1 64) 5) 12),
    (Reg.BANK_A 20, b 63 (16 * 31)), (Reg.BANK_B 20, b 127 (16 * 63))]
theorem test_filter_delay_example : fl20.laneDelay 20 [0] = 171432 ∧ fl20.laneDelay 20 [0, 1] = 335400 ∧
    fl20.laneDelay 20 [1] = 335336 := by decide +kernel
theorem test_filter_gain_example : fl20.cicGain (fl20.reg (Reg.LANE_CFG 20)) = 0x80000000 ∧ fl20.firFits (fl20.reg (Reg.LANE_CFG 20)) 63 127 = true := by
  decide +kernel
/-- The same example: 66 unsettled outputs, the 67th settled. -/
theorem test_filter_settling : unsettled 5 66 63 = true ∧ unsettled 5 67 63 = false := by decide
/-- Chapter 15's example: A = 0.40 sets the limit to 0x3EB8, the ceiling to 2,000 Hz and the lane's scale to 92.0 %. -/
def agedS : State :=
  withRegs [(Reg.LAW_BUILTIN, 1), (Reg.MOD_IREF 0, 2000), (Reg.VON_DRIFT 0, 110), (Reg.DVDT_DRIFT 0, 65536 - 40), (Reg.LIFE_USED 0, 2300), (Reg.FSW_REF, 2500)]
theorem test_age_example_limit : (planLimit 1 agedS).law.ilimNext = some 0x3EB8 := by decide +kernel
theorem test_age_example_ceiling : (planFsw 1 agedS).reg Reg.FSW_CEIL = 2000 := by decide +kernel
theorem test_age_example_scale : (planScale 0 1 agedS).reg (Reg.TGT_SCALE 0) = 920 := by decide +kernel
/-- The check values of the two CRCs over the digits 1 to 9: 0xCBF43926 (IEEE 802.3), 0x29B1 (R184's parameters). -/
theorem test_crc32 : crc32 [0x31, 0x32, 0x33, 0x34, 0x35, 0x36, 0x37, 0x38, 0x39] = 0xCBF43926 := by decide +kernel
theorem test_crc16 : crc16 [0x31, 0x32, 0x33, 0x34, 0x35, 0x36, 0x37, 0x38, 0x39] = 0x29B1 := by decide +kernel
/-- R450: NEG of 0x8000 gives 0x8000 with V = 1. -/
theorem test_neg_most_negative : ((after (.negX 3 5 3) runsS).engine 3).xr 5 = 0x8000 := by decide
theorem test_neg_sets_v : bit ((after (.negX 3 5 3) runsS).engine 3).flags.toNat flV = true := by decide
/-- Table 5-4, opcode 0x0E: Xs = −Xt gives 0x8000 without SAT; a zero divisor gives 0x7FFF for Xs ≥ 0 and sets DZ. -/
theorem test_divq_minus_one : ((after (.divq 3 5 1 6) ((runsS.setEngine 3 (runsE.setX 6 0x8001)))).engine 3).xr 5 = 0x8000 := by decide
theorem test_divq_by_zero : ((after (.divq 3 5 1 0) runsS).engine 3).xr 5 = 0x7FFF := by decide
/-- The NDP request of chapter 13's example: FORM written to 0x3400:01 in session 0x1A2B3C4D with SEQ = 7, 25 bytes. -/
def formFrame : List (BitVec 8) :=
  let b : List (BitVec 8) := [0x4E, 0x44, 0x01, 0x02, 0x00, 0x00, 0x05, 0x00, 0x4D, 0x3C, 0x2B, 0x1A, 0x07, 0x00, 0x00, 0x00, 0x00, 0x34, 0x01, 0x00, 0x02]
  b ++ toBytes 4 (crc32 b)
/-- A port at level 2 with that session open and LAST_SEQ = 6, in ARMED. -/
def formS : State :=
  { netS [(Reg.MODE, 1), (Reg.PORT_LEVEL 0, 2)] with holds := true, mram := { sessions := [⟨0, 0x1A2B3C4D, 6, 0⟩] } }
theorem test_ndp_form_frame : formFrame.length = 25 ∧ ndpFrameOk formFrame = true := by decide +kernel
theorem test_ndp_form_commits :
    let u := ndpWriteOp 0 formFrame formS
    u.session 0 0x1A2B3C4D = some ⟨0, 0x1A2B3C4D, 7, sec 5⟩ ∧ u.mram.journal.map (fun i => (i.seq, i.obj, i.val, i.result)) = [(7, Reg.MODE_CMD, 2, none)] := by
  decide +kernel
/-- R166's example: with PER = 40,000 a compare of 50,000 acts as 40,000, on from count 10,000 until the wrap. -/
theorem test_compare_clamps :
    let s := withRegs [(Reg.CG_PER_ACT 0, 40000)]
    let s := (s.setEff (cmpaPort 0) (10000 * 16)).setEff (cmpbPort 0) (50000 * 16)
    s.onEdge 0 = 10000 * 16 ∧ s.offEdge 0 = 40000 * 16 := by decide
/-- R3: least significant byte first; R183: most significant byte first on the gate links. -/
theorem test_byte_orders : toBytes 4 0x11223344 = [0x44, 0x33, 0x22, 0x11] ∧ beBytes 2 0x1122 = [0x11, 0x22] := by decide
/-- An empty queue lets a tick pass. -/
theorem test_idle_step : (match step {} with | .next t => t.now | _ => 0) = perTick := by decide
theorem witness_idle : ({} : State).memo.held = [] ∧ ({} : State).memo.waits = [] ∧ ({} : State).tickLen = perTick := by decide

end Sys2Proof.Tests
end

section
/-!
SUPPORT. Fields, bits and lanes read after a write, and what a `Keeps` gives of the parts that a statement names.
-/

namespace Sys2Proof.Machine

/-! ## Bits and fields -/

/-- A field read after a disjoint one was written. -/
theorem fget_fset_other {f g : Fld} (v x : Nat) (h : f.lo + f.w ≤ g.lo ∨ g.lo + g.w ≤ f.lo) : fget f (fset g v x) = fget f v := by
  have tb : ∀ i, (fset g v x).testBit i = if g.lo ≤ i ∧ i < g.lo + g.w then x.testBit (i - g.lo) else v.testBit i := by
    intro i
    have e : fset g v x = 2 ^ g.lo * (2 ^ g.w * (v / 2 ^ (g.lo + g.w)) + x % 2 ^ g.w) + v % 2 ^ g.lo := by
      unfold fset; rw [Nat.pow_add]; ring
    rw [e, Nat.testBit_two_pow_mul_add _ (Nat.mod_lt _ (Nat.two_pow_pos _))]
    split
    · rw [if_neg (by omega), Nat.testBit_mod_two_pow]; simp [*]
    · rw [Nat.testBit_two_pow_mul_add _ (Nat.mod_lt _ (Nat.two_pow_pos _))]
      split
      · rw [if_pos (by omega), Nat.testBit_mod_two_pow]; simp [*]
      · rw [if_neg (by omega), Nat.testBit_div_two_pow]; congr 1; omega
  unfold fget
  apply Nat.eq_of_testBit_eq
  intro i
  simp only [Nat.testBit_mod_two_pow, Nat.testBit_div_two_pow, tb]
  by_cases hi : i < f.w
  · rw [if_neg (by omega)]
  · simp [hi]

theorem bit_eq_testBit (v i : Nat) : bit v i = v.testBit i := by
  rw [Nat.testBit_eq_decide_div_mod_eq]; rfl

/-- A bit is the field of width 1 at its place. -/
theorem bit_eq_fget (v i : Nat) : bit v i = (fget ⟨i, 1⟩ v == 1) := rfl

@[simp] theorem b2n_beq_one (b : Bool) : (b2n b == 1) = b := by cases b <;> rfl

theorem b2n_lt {w : Nat} (hw : 0 < w) (b : Bool) : b2n b < 2 ^ w := by
  have := Nat.one_lt_two_pow (n := w) (by omega)
  cases b <;> simp [b2n]; omega

/-- A bit read after a bit was written. -/
theorem bit_setBit (v i j : Nat) (b : Bool) : bit (setBit v i b) j = if j = i then b else bit v j := by
  rw [bit_eq_fget, bit_eq_fget, setBit]
  split
  · next h => rw [h, fget_fset, Nat.mod_eq_of_lt (b2n_lt (by simp) b), b2n_beq_one]
  · rw [fget_fset_other]; simp only; omega

/-- The numbers listed for a mask are those of its set bits. -/
theorem mem_bitsOf {n v i : Nat} : i ∈ bitsOf n v ↔ i < n ∧ bit v i = true := by simp [bitsOf]

theorem bit_toNat {w : Nat} (m : BitVec w) (i : Nat) : bit m.toNat i = m.getLsbD i := bit_eq_testBit _ _

variable (s : State)

/-- A field read after another field of its register was written. -/
theorem fld_setFld_disjoint (k : Nat) {f g : Fld} (x : Nat) (h : f.lo + f.w ≤ g.lo ∨ g.lo + g.w ≤ f.lo) :
    (s.setFld k g x).fld k f = s.fld k f := by
  unfold State.fld State.setFld; rw [reg_setReg_self, fget_fset_other _ _ h]

theorem flag_setFlag_self (k : Nat) (f : Fld) (b : Bool) (h : 0 < f.w) : (s.setFlag k f b).flag k f = b := by
  rw [State.flag, State.setFlag, fld_setFld_self, Nat.mod_eq_of_lt (b2n_lt h b), b2n_beq_one]

theorem regBit_setRegBit (k i j : Nat) (b : Bool) : (s.setRegBit k i b).regBit k j = if j = i then b else s.regBit k j := by
  unfold State.regBit State.setRegBit; rw [reg_setReg_self, bit_setBit]

theorem reg_setRegBit_other {k j : Nat} (i : Nat) (b : Bool) (h : j ≠ k) : (s.setRegBit k i b).reg j = s.reg j := reg_setReg_other _ _ h

/-! ## Lanes -/

theorem lane_setLane (k i : Nat) (l : Lane) : (s.setLane k l).lane i = if i = k then l else s.lane i := tabGet_set _ _ _ _ _

@[simp] theorem lane_setLane_self (k : Nat) (l : Lane) : (s.setLane k l).lane k = l := tabGet_set_self _ _ _ _

theorem lane_of_lanes {s u : State} (h : u.lanes = s.lanes) (k : Nat) : u.lane k = s.lane k := by unfold State.lane; rw [h]

theorem laneState_of_reg {s u : State} {k : Nat} (h : u.reg (Reg.GL_STATUS k) = s.reg (Reg.GL_STATUS k)) : u.laneState k = s.laneState k := by
  unfold State.laneState State.fld; rw [h]

theorem flag_of_reg {s u : State} {k : Nat} (f : Fld) (h : u.reg k = s.reg k) : u.flag k f = s.flag k f := by
  unfold State.flag State.fld; rw [h]

theorem regBit_of_reg {s u : State} {k : Nat} (i : Nat) (h : u.reg k = s.reg k) : u.regBit k i = s.regBit k i := by
  unfold State.regBit; rw [h]

end Sys2Proof.Machine

namespace Sys2Proof

open Machine

/-! ## The parts a statement names -/

theorem Part.num_injective {p q : Part} (h : p.num = q.num) : p = q := by
  revert h; cases p <;> cases q <;> first | exact fun _ => rfl | exact fun h => absurd h (by decide)

theorem testBit_partSet (l : List Part) (p : Part) : (partSet l).testBit p.num = decide (p ∈ l) := by
  have acc : ∀ m : Nat, (l.foldl (fun m p => m ||| 2 ^ p.num) m).testBit p.num = (m.testBit p.num || decide (p ∈ l)) := by
    induction l with
    | nil => simp
    | cons q l ih =>
      intro m
      have hq : q.num = p.num ↔ p = q := ⟨fun h => (Part.num_injective h).symm, fun h => by rw [h]⟩
      rw [List.foldl_cons, ih, Nat.testBit_or, Nat.testBit_two_pow]
      simp only [hq, List.mem_cons, Bool.decide_or, Bool.or_assoc]
  simpa [partSet] using acc 0

/-- What an operation keeps of the parts, in the words of a statement. -/
theorem Keeps.partsKept_of {f : Nat} {ps : List Part} {s u : State} (h : Keeps f s u) (hf : partsIn f (partSet ps) = true := by decide) :
    PartsKept ps s u :=
  (h.mono hf).partsKept fun p hp => by rw [testBit_partSet, decide_eq_false hp]

end Sys2Proof
end

section
/-!
SUPPORT. The gate-link lanes: what each operation of a lane leaves of its state, its registers and the other lanes.
-/

namespace Sys2Proof.Machine

/-! ## Bulk operations on numbered units -/

/-- In a bulk operation whose step on unit `x` touches the view `g` of unit `x` alone and keeps `inv`, the view of a unit outside the list
stands. -/
theorem forEach_view_other {β : Type} (g : Nat → State → β) {f : Nat → State → State}
    (hg : ∀ x i s, i ≠ x → g i (f x s) = g i s) {l : List Nat} {i : Nat} (hi : i ∉ l) (s : State) : g i (s.forEach l f) = g i s := by
  unfold State.forEach
  induction l generalizing s with
  | nil => rfl
  | cons x l ih =>
    rw [List.mem_cons, not_or] at hi
    exact (ih hi.2 (f x s)).trans (hg x i s hi.1)

/-- The view of a listed unit is that of one step from a state in which the unit and `inv` are still as they were. -/
theorem forEach_view_mem {β γ : Type} (g : Nat → State → β) (inv : State → γ) {f : Nat → State → State}
    (hg : ∀ x i s, i ≠ x → g i (f x s) = g i s) (hinv : ∀ x s, inv (f x s) = inv s) {l : List Nat} (hl : l.Nodup) {i : Nat} (hi : i ∈ l)
    (s : State) : ∃ t, inv t = inv s ∧ g i t = g i s ∧ g i (s.forEach l f) = g i (f i t) := by
  induction l generalizing s with
  | nil => cases hi
  | cons x l ih =>
    rw [List.nodup_cons] at hl
    by_cases h : i = x
    · subst h
      exact ⟨s, rfl, rfl, forEach_view_other g hg hl.1 (f i s)⟩
    · obtain ⟨t, h1, h2, h3⟩ := ih hl.2 ((List.mem_cons.1 hi).resolve_left h) (f x s)
      exact ⟨t, h1.trans (hinv x s), h2.trans (hg x i s h), h3⟩

theorem nodup_bitsOf (n v : Nat) : (bitsOf n v).Nodup := List.nodup_range.filter _

/-! ## Releases (R210) -/

variable (k : Nat) (s : State)

@[simp] theorem sendRelease_lane_self : ∃ w, (sendRelease k s).lane k = { s.lane k with released := true, waiting := w } :=
  ⟨_, lane_setLane_self ..⟩

theorem sendRelease_lane_other {i : Nat} (h : i ≠ k) : (sendRelease k s).lane i = s.lane i := (lane_setLane ..).trans (if_neg h)

/-- What GL_CLEAR does to one of its lanes: where the causes are gone, the lane is released. -/
def glClearLane : State :=
  if clearMask (s.lane k).causesNow (cDESAT + cOC) = 0 then
    let s := s.setLane k { s.lane k with manual := true }
    if s.laneState k = laneLive then sendRelease k s else s
  else s

theorem actGlClear_eq (mask : Nat) : (actGlClear mask s).1 =
    (s.setReg Reg.GL_CLEAR (maskOf ((bitsOf 64 mask).filter fun i => s.regBit Reg.LANE_LATCHED i))).forEach
      ((bitsOf 64 mask).filter fun i => s.regBit Reg.LANE_LATCHED i) glClearLane := rfl

theorem glClearLane_regs : (glClearLane k s).regs = s.regs := by
  unfold glClearLane; dsimp only; split
  · split <;> rfl
  · rfl

theorem glClearLane_lane_other {i : Nat} (h : i ≠ k) : (glClearLane k s).lane i = s.lane i := by
  unfold glClearLane; dsimp only; split
  · split
    · rw [sendRelease_lane_other _ _ h, lane_setLane, if_neg h]
    · rw [lane_setLane, if_neg h]
  · rfl

theorem glClearLane_lane_self (h : clearMask (s.lane k).causesNow (cDESAT + cOC) = 0) :
    ((glClearLane k s).lane k).manual = true ∧ (s.laneState k = laneLive → ((glClearLane k s).lane k).released = true) := by
  unfold glClearLane
  rw [if_pos h]
  dsimp only
  split
  · obtain ⟨w, hw⟩ := sendRelease_lane_self k (s.setLane k { s.lane k with manual := true })
    rw [hw, lane_setLane_self]
    exact ⟨rfl, fun _ => rfl⟩
  · next hl => exact ⟨by rw [lane_setLane_self], fun hs => absurd hs hl⟩

/-! ## Lane states (Table 7-1) -/

/-- The registers that a change of a lane's state writes. -/
def laneKeys (k : Nat) : List Nat := [Reg.GL_STATUS k, Reg.LANES_LIVE, Reg.GU_RESULT]

theorem GL_STATUS_ne_LANES_LIVE : Reg.GL_STATUS k ≠ Reg.LANES_LIVE := by
  simp only [Reg.GL_STATUS, Reg.LANES_LIVE, Reg.key]; omega

theorem GL_STATUS_ne_GU_RESULT (hk : k < 64) : Reg.GL_STATUS k ≠ Reg.GU_RESULT := by
  simp only [Reg.GL_STATUS, Reg.GU_RESULT, Reg.key]; omega

theorem regsKept_refl (ks : List Nat) : RegsKept ks s s := fun _ _ => rfl

theorem regsKept_setLane {ks : List Nat} {s t : State} (h : RegsKept ks s t) (i : Nat) (l : Lane) : RegsKept ks s (t.setLane i l) := h

theorem regsKept_setFlag {ks : List Nat} {s t : State} (h : RegsKept ks s t) {j : Nat} (f : Fld) (b : Bool) (hj : j ∈ ks) :
    RegsKept ks s (t.setFlag j f b) := h.step hj

theorem laneState_setLane (i j : Nat) (l : Lane) : (s.setLane i l).laneState j = s.laneState j := rfl

theorem setLaneState_regsKept (st : Nat) : RegsKept (laneKeys k) s (setLaneState k st s) :=
  RegsKept.step (t := s.setFld (Reg.GL_STATUS k) F.GL_STATUS_STATE st) (RegsKept.step (regsKept_refl s _) (by simp [laneKeys])) (by simp [laneKeys])

theorem setLaneState_laneState {st : Nat} (h : st < 8) : (setLaneState k st s).laneState k = st := by
  unfold setLaneState
  rw [laneState_of_reg (reg_setRegBit_other _ _ _ (GL_STATUS_ne_LANES_LIVE k)), State.laneState, fld_setFld_self]
  exact Nat.mod_eq_of_lt h

theorem refreshReady_laneState : (refreshReady k s).laneState k = s.laneState k := fld_setFld_disjoint _ _ _ (by decide)

theorem refreshReady_lane (i : Nat) : (refreshReady k s).lane i = s.lane i := lane_of_lanes ((refreshReady_keeps k s).parts .lanes (by decide)) i

theorem refreshReady_regsKept : RegsKept (laneKeys k) s (refreshReady k s) :=
  regsKept_setFlag (regsKept_refl s _) _ _ (by simp [laneKeys])

theorem refreshReady_ready :
    (refreshReady k s).flag (Reg.GL_STATUS k) F.GL_STATUS_LANE_READY = (s.laneState k == laneLive && (s.lane k).setup.isEmpty && decide (64 ≤ (s.lane k).tripN)) :=
  flag_setFlag_self _ _ _ _ (by decide)

theorem sendRelease_laneState (i : Nat) : (sendRelease k s).laneState i = s.laneState i := rfl

/-- What a lane shows that has entered LIVE at an instant: its set-up is to be written, its trips are to be counted. -/
def LiveFrom (t : Instant) (old l : Lane) : Prop :=
  l.liveAt = t ∧ l.setup.map (·.1) = [1, 2, 3, 4] ∧ l.tripN = 0 ∧ l.delay = old.delay

theorem LiveFrom.sendRelease {t : Instant} {old : Lane} {k : Nat} {s : State} (h : LiveFrom t old (s.lane k)) :
    LiveFrom t old ((sendRelease k s).lane k) := by
  obtain ⟨w, hw⟩ := sendRelease_lane_self k s
  rw [hw]; exact h

theorem LiveFrom.not_ready {t : Instant} {old : Lane} {k : Nat} {s : State} (h : LiveFrom t old (s.lane k)) :
    (refreshReady k s).flag (Reg.GL_STATUS k) F.GL_STATUS_LANE_READY = false := by
  have : (s.lane k).setup ≠ [] := fun e => by simpa [e] using h.2.1
  rw [refreshReady_ready]; simp [this]

/-- A lane that enters LIVE is LIVE, not ready, and starts anew. -/
theorem enterLive_spec : (enterLive k s).laneState k = laneLive ∧ (enterLive k s).flag (Reg.GL_STATUS k) F.GL_STATUS_LANE_READY = false ∧
    LiveFrom s.now (s.lane k) ((enterLive k s).lane k) := by
  have key : ∀ u : State, u.laneState k = laneLive → LiveFrom s.now (s.lane k) (u.lane k) →
      (refreshReady k u).laneState k = laneLive ∧ (refreshReady k u).flag (Reg.GL_STATUS k) F.GL_STATUS_LANE_READY = false ∧
        LiveFrom s.now (s.lane k) ((refreshReady k u).lane k) := fun u hu hl =>
    ⟨(refreshReady_laneState k u).trans hu, hl.not_ready, by rw [refreshReady_lane]; exact hl⟩
  unfold enterLive
  dsimp only
  have live := setLaneState_laneState k s (st := laneLive) (by decide)
  have hn : (setLaneState k laneLive s).now = s.now := (setLaneState_keeps ..).parts .now (by decide)
  have hd : ((setLaneState k laneLive s).lane k).delay = (s.lane k).delay :=
    congrArg Lane.delay (lane_of_lanes ((setLaneState_keeps ..).parts .lanes (by decide)) k)
  generalize setLaneState k laneLive s = v at live hn hd
  split
  · refine key _ ?_ (LiveFrom.sendRelease ?_)
    · rw [sendRelease_laneState, laneState_setLane, live]
    · rw [lane_setLane_self]; exact ⟨hn, rfl, rfl, hd⟩
  · refine key _ ?_ ?_
    · rw [laneState_setLane, live]
    · rw [lane_setLane_self]; exact ⟨hn, rfl, rfl, hd⟩

theorem leaveLive_regsKept (st : Nat) : RegsKept (laneKeys k) s (leaveLive k st s) := by
  unfold leaveLive
  dsimp only
  refine RegsKept.trans ?_ (refreshReady_regsKept k _)
  split
  · exact RegsKept.step (regsKept_setLane (setLaneState_regsKept k s st) k _) (by simp [laneKeys])
  · exact regsKept_setLane (setLaneState_regsKept k s st) k _

/-- A lane that leaves LIVE: it is in the new state, its queue is empty. -/
theorem leaveLive_spec {st : Nat} (hk : k < 64) (h : st < 8) : (leaveLive k st s).laneState k = st ∧ ((leaveLive k st s).lane k).queue = [] := by
  unfold leaveLive
  dsimp only
  have hv := setLaneState_laneState k s h
  generalize setLaneState k st s = v at hv
  rw [refreshReady_laneState, refreshReady_lane]
  split
  · rw [laneState_of_reg (reg_setReg_other _ _ (GL_STATUS_ne_GU_RESULT k hk)), laneState_setLane,
      lane_of_lanes (setReg_lanes _ _ _), lane_setLane_self]
    exact ⟨hv, rfl⟩
  · rw [laneState_setLane, lane_setLane_self]
    exact ⟨hv, rfl⟩

/-! ## Enabling and disabling a lane (R30 to R32) -/

variable {k s}

theorem laneEnable_of_stopping (h : s.laneState k = laneStopping) : laneEnable k s = s.setFlag (Reg.GL_STATUS k) F.GL_STATUS_PENDING_ENABLE true := by
  simp [laneEnable, h]

theorem laneEnable_of_starting (h : s.laneState k = laneStarting) : laneEnable k s = s.setLane k { s.lane k with pendDisable := false } := by
  simp [laneEnable, h, laneStarting, laneStopping]

theorem laneEnable_of_off (h : s.laneState k = laneOff) (hp : s.regBit Reg.PD_ON 7 = true) :
    laneEnable k s = setLaneState k laneStarting (s.setLane k { s.lane k with pendDisable := false }) := by
  simp [laneEnable, h, hp, laneStarting, laneStopping, laneOff]

theorem laneEnable_of_runs (h : s.laneState k = laneIdle ∨ s.laneState k = laneLive ∨ s.laneState k = laneOff ∧ s.regBit Reg.PD_ON 7 = false) :
    laneEnable k s = s := by
  obtain h | h | ⟨h, hp⟩ := h <;> simp [laneEnable, laneStarting, laneStopping, laneOff, laneIdle, laneLive, *]

theorem laneDisable_of_runs (h : s.laneState k = laneIdle ∨ s.laneState k = laneLive) : laneDisable k s = leaveLive k laneStopping s := by
  obtain h | h := h <;> simp [laneDisable, laneStarting, laneStopping, laneIdle, laneLive, h]

theorem laneDisable_of_starting (h : s.laneState k = laneStarting) : laneDisable k s = s.setLane k { s.lane k with pendDisable := true } := by
  simp [laneDisable, h, laneStarting, laneStopping]

theorem laneDisable_of_stopping (h : s.laneState k = laneStopping) :
    laneDisable k s = s.setFlag (Reg.GL_STATUS k) F.GL_STATUS_PENDING_ENABLE false := by
  simp [laneDisable, h]

theorem laneDisable_of_off (h : s.laneState k = laneOff) : laneDisable k s = s := by
  simp [laneDisable, h, laneStarting, laneStopping, laneIdle, laneLive, laneOff]

variable (k s)

theorem laneEnable_regsKept : RegsKept (laneKeys k) s (laneEnable k s) := by
  have h0 := regsKept_refl s (laneKeys k)
  unfold laneEnable
  dsimp only
  split
  · exact h0.step (by simp [laneKeys])
  · split
    · exact h0
    · split
      · exact setLaneState_regsKept k s _
      · exact h0

theorem laneDisable_regsKept : RegsKept (laneKeys k) s (laneDisable k s) := by
  have h0 := regsKept_refl s (laneKeys k)
  unfold laneDisable
  dsimp only
  split
  · exact h0.step (by simp [laneKeys])
  · split
    · exact h0
    · split
      · exact leaveLive_regsKept k s _
      · exact h0

theorem GL_CFG_not_mem_laneKeys (hk : k < 64) : Reg.GL_CFG k ∉ laneKeys k := by
  simp only [laneKeys, Reg.GL_CFG, Reg.GL_STATUS, Reg.LANES_LIVE, Reg.GU_RESULT, Reg.key, List.mem_cons, List.not_mem_nil, or_false]; omega

end Sys2Proof.Machine
end

section
/-!
The gate-link lanes' commands (O40): retry and clear, register accesses, enable and disable, start, drive codes.
-/

namespace Sys2Proof

open Machine

variable (s : State) (k : Fin 64) (t : Instant)

/-! ## Retry and clear (R210) -/

theorem laneFaultRelease_due (hl : s.laneState k = laneLive) (hf : s.regBit Reg.LANE_FAULT k = true) (hn : s.regBit Reg.LANE_LATCHED k = false)
    (hr : (s.lane k).released = false) (ht : (s.lane k).retry.decision + Sys2Proof.ms (s.reg Reg.TRETRY) ≤ t) :
    Completes (.laneFaultRelease k t) s fun u =>
      (u.lane k).released = true ∧ (∀ i, i ≠ k.val → u.lane i = s.lane i) ∧ PartsKept [.now, .lanes] s u := by
  refine Completes.ofKeeps (execLaneFaultRelease_keeps k t s) (u := sendRelease k (s.advance t)) ?_ fun hk => ⟨?_, ?_, hk.partsKept_of⟩
  · exact if_pos (by simp [hl, hf, hn, hr, ht])
  · obtain ⟨w, hw⟩ := sendRelease_lane_self k (s.advance t)
    rw [hw]
  · exact fun i hi => sendRelease_lane_other k (s.advance t) hi

theorem laneFaultRelease_idle (h : s.laneState k ≠ laneLive ∨ s.regBit Reg.LANE_FAULT k = false ∨ s.regBit Reg.LANE_LATCHED k = true ∨
    (s.lane k).released = true ∨ t < (s.lane k).retry.decision + Sys2Proof.ms (s.reg Reg.TRETRY)) :
    Completes (.laneFaultRelease k t) s (· = s) := by
  refine Completes.of (u := s) (if_neg ?_) rfl
  rw [Bool.and_eq_true, Bool.and_eq_true, Bool.and_eq_true, Bool.and_eq_true, decide_eq_true_eq, ← Nat.not_lt]
  rintro ⟨⟨⟨⟨hl, hf⟩, hn⟩, hr⟩, ht⟩
  obtain h | h | h | h | h := h <;> simp_all

theorem glClear_spec (mask : BitVec 64) :
    let want := (bitsOf 64 mask.toNat).filter fun i => s.regBit Reg.LANE_LATCHED i
    Completes (.glClear mask) s (fun u => u.reg Reg.GL_CLEAR = maskOf want ∧ RegsKept [Reg.GL_CLEAR] s u ∧ PartsKept [.regs, .lanes] s u ∧
      ∀ i, i < 64 → (mask.getLsbD i = true → s.regBit Reg.LANE_LATCHED i = true → clearMask (s.lane i).causesNow (cDESAT + cOC) = 0 →
        (u.lane i).manual = true ∧ (s.laneState i = laneLive → (u.lane i).released = true)) ∧ (mask.getLsbD i = false → u.lane i = s.lane i)) := by
  intro want
  refine Completes.ofKeeps (execGlClear_keeps mask s) (u := (actGlClear mask.toNat s).1) rfl fun hk => ?_
  rw [actGlClear_eq] at hk ⊢
  change Keeps _ s ((s.setReg Reg.GL_CLEAR (maskOf want)).forEach want glClearLane) at hk
  change (State.forEach (s.setReg Reg.GL_CLEAR (maskOf want)) want glClearLane).reg _ = _ ∧ _
  generalize hv : s.setReg Reg.GL_CLEAR (maskOf want) = v at hk
  have hregs : (v.forEach want glClearLane).regs = v.regs := forEach_frame State.regs _ _ glClearLane_regs v
  have hlane : ∀ i, v.lane i = s.lane i := fun i => by rw [← hv]; rfl
  have hmem : ∀ i, i ∈ want ↔ (i < 64 ∧ mask.getLsbD i = true) ∧ s.regBit Reg.LANE_LATCHED i = true := fun i => by
    rw [List.mem_filter, mem_bitsOf, bit_toNat]
  refine ⟨?_, ?_, hk.partsKept_of, fun i hi => ⟨fun hm hl hc => ?_, fun hm => ?_⟩⟩
  · rw [reg_of_regs hregs, ← hv, reg_setReg_self]
  · refine (RegsKept.setReg s Reg.GL_CLEAR (maskOf want)).trans ?_
    rw [hv]; exact RegsKept.of_regs hregs
  · obtain ⟨w, hr, hw, he⟩ := forEach_view_mem (fun i s => s.lane i) State.regs (fun x _ s h => glClearLane_lane_other x s h) glClearLane_regs
      ((nodup_bitsOf 64 mask.toNat).filter _) ((hmem i).2 ⟨⟨hi, hm⟩, hl⟩) v
    have hst : w.laneState i = s.laneState i := laneState_of_reg <| (reg_of_regs hr _).trans <| by
      rw [← hv]
      exact reg_setReg_other _ _ (by simp only [Reg.GL_STATUS, Reg.GL_CLEAR, Reg.key]; omega)
    have hc' : clearMask (w.lane i).causesNow (cDESAT + cOC) = 0 := by rw [hw, hlane]; exact hc
    obtain ⟨h1, h2⟩ := glClearLane_lane_self i w hc'
    rw [show (v.forEach want glClearLane).lane i = (glClearLane i w).lane i from he]
    exact ⟨h1, fun h => h2 (hst.trans h)⟩
  · exact (forEach_view_other (fun i s => s.lane i) (fun x _ s h => glClearLane_lane_other x s h)
      (fun h => by rw [hmem, hm] at h; simp at h) v).trans (hlane i)

/-! ## Register accesses (R193, R194) -/

theorem guAccessTimeout_early (h : ∀ a, (s.lane k).access = some a → t < a.at_ + us 20) : Completes (.guAccessTimeout k t) s (· = s) := by
  refine Completes.of (u := s) ?_ rfl
  show execGuAccessTimeout k t s = _
  unfold execGuAccessTimeout
  split
  · rfl
  · next a ha => rw [if_pos (h a ha)]

/-- What the end of an unanswered access leaves, by the kind of the access. -/
theorem guAccessTimeout_due {a : Access} (ha : (s.lane k).access = some a) (ht : a.at_ + us 20 ≤ t) :
    Completes (.guAccessTimeout k t) s fun u => (u.lane k).access = none ∧ PartsKept [.now, .regs, .lanes] s u ∧
      (a.kind = .object → u.reg Reg.GU_RESULT = 4 ∧ RegsKept [Reg.GU_RESULT] s u) ∧ (a.kind ≠ .object → u.regs = s.regs) ∧
      (a.kind = .setup → ∀ x ∈ (u.lane k).setup, x.1 = a.reg → x.2 = (s.advance t).now + Sys2Proof.ms 1) := by
  obtain ⟨u, he, hk⟩ := execGuAccessTimeout_keeps k t s
  refine ⟨u, he, ?_⟩
  unfold execGuAccessTimeout at he
  rw [ha] at he
  simp only [if_neg (Nat.not_lt.2 ht)] at he
  refine ⟨?_, hk.partsKept_of, ?_⟩
  · cases hkind : a.kind <;> rw [hkind] at he <;> cases he
    case object.refl => rw [lane_of_lanes (setReg_lanes _ _ _), lane_setLane_self]
    all_goals rw [lane_setLane_self]
  · cases hkind : a.kind <;> rw [hkind] at he <;> cases he
    case object.refl => exact ⟨fun _ => ⟨reg_setReg_self _ _ _, RegsKept.step (RegsKept.of_regs rfl) (by simp)⟩, fun h => absurd rfl h, nofun⟩
    case setup.refl =>
      refine ⟨nofun, fun _ => rfl, fun _ x hx hreg => ?_⟩
      rw [lane_setLane_self, List.mem_map] at hx
      obtain ⟨y, -, rfl⟩ := hx
      split at hreg
      · next h => rw [if_pos h]
      · next h => exact absurd hreg h
    all_goals exact ⟨nofun, fun _ => rfl, nofun⟩

theorem guSetupRetry_due (hl : s.laneState k = laneLive) (h : ∃ x ∈ (s.lane k).setup, x.2 ≠ 0 ∧ x.2 ≤ t) :
    exec (.guSetupRetry k t) s = .next (nextAccess k (s.advance t).now (s.advance t)) :=
  if_pos ⟨hl, List.any_eq_true.2 (by obtain ⟨x, hx, h0, ht⟩ := h; exact ⟨x, hx, by simp [h0, ht]⟩)⟩

theorem guSetupRetry_idle (h : s.laneState k ≠ laneLive ∨ ∀ x ∈ (s.lane k).setup, x.2 = 0 ∨ t < x.2) :
    Completes (.guSetupRetry k t) s (· = s) := by
  refine Completes.of (u := s) (if_neg ?_) rfl
  rintro ⟨hl, ha⟩
  obtain ⟨x, hx, h2⟩ := List.any_eq_true.1 ha
  rw [Bool.and_eq_true, bne_iff_ne, decide_eq_true_eq] at h2
  obtain h | h := h
  · exact h hl
  · obtain h | h := h x hx
    · exact h2.1 h
    · exact Nat.not_le.2 h h2.2

/-- With nothing under way or waiting, the first set-up write that is due is made. -/
theorem nextAccess_setup (k : Nat) (t : Instant) (ha : (s.lane k).access = none) (hw : (s.lane k).waiting = []) {q : Nat} {d : Instant}
    (hf : (s.lane k).setup.find? (fun x => decide (x.2 ≤ t)) = some (q, d)) :
    nextAccess k t s = s.setLane k { s.lane k with access := some ⟨q, true, s.setupValue k q, .setup, t⟩ } := by
  simp [nextAccess, ha, hw, hf]

theorem guSetupRetry_again {q : Nat} {d : Instant} (hl : s.laneState k = laneLive) (h : ∃ x ∈ (s.lane k).setup, x.2 ≠ 0 ∧ x.2 ≤ t)
    (ha : (s.lane k).access = none) (hw : (s.lane k).waiting = [])
    (hf : (s.lane k).setup.find? (fun x => decide (x.2 ≤ (s.advance t).now)) = some (q, d)) :
    Completes (.guSetupRetry k t) s fun u =>
      (u.lane k).access = some ⟨q, true, s.setupValue k q, .setup, (s.advance t).now⟩ ∧ PartsKept [.now, .lanes] s u := by
  refine Completes.ofKeeps (execGuSetupRetry_keeps k t s) (guSetupRetry_due s k t hl h) fun hk => ⟨?_, hk.partsKept_of⟩
  rw [nextAccess_setup (s.advance t) k _ ha hw hf, lane_setLane_self]
  rfl

/-- An access of GU_WRITE or GU_READ is taken: it waits, GU_RESULT shows 1. -/
theorem actGu_taken {w : Bool} (hl : s.laneState (s.reg Reg.GU_LANE) = laneLive) (hr : s.reg Reg.GU_RESULT ≠ 1)
    (hw : w = true → s.reg Reg.GU_REG = 0 ∨ 5 < s.reg Reg.GU_REG) :
    let j := s.reg Reg.GU_LANE
    let u := (actGu w s).1
    u.reg Reg.GU_RESULT = 1 ∧ (u.lane j).waiting = (s.lane j).waiting ++
        [{ reg := s.reg Reg.GU_REG, write := w, value := s.reg Reg.GU_VALUE, kind := .object, at_ := s.now }] ∧
      RegsKept [Reg.GU_RESULT] s u := by
  intro j u
  have hc : ((w && decide (1 ≤ s.reg Reg.GU_REG) && decide (s.reg Reg.GU_REG ≤ 5)) || s.laneState (s.reg Reg.GU_LANE) != laneLive ||
      s.reg Reg.GU_RESULT == 1) = false := by
    simp only [hl, bne_self_eq_false, Bool.or_false, Bool.or_eq_false_iff, beq_eq_false_iff_ne]
    refine ⟨?_, hr⟩
    cases w with
    | false => rfl
    | true =>
      have := hw rfl
      rw [Bool.true_and, Bool.and_eq_false_iff, decide_eq_false_iff_not, decide_eq_false_iff_not]; omega
  have hu : u = (s.setLane j { s.lane j with waiting := (s.lane j).waiting ++
      [{ reg := s.reg Reg.GU_REG, write := w, value := s.reg Reg.GU_VALUE, kind := .object, at_ := s.now }] }).setReg Reg.GU_RESULT 1 := by
    simp only [u, actGu, hc]; rfl
  rw [hu]
  refine ⟨reg_setReg_self _ _ _, ?_, RegsKept.step (regsKept_setLane (regsKept_refl s _) j _) (by simp)⟩
  rw [lane_of_lanes (setReg_lanes _ _ _), lane_setLane_self]

theorem actGu_refused {w : Bool} (h : s.laneState (s.reg Reg.GU_LANE) ≠ laneLive ∨ s.reg Reg.GU_RESULT = 1 ∨
    w = true ∧ 1 ≤ s.reg Reg.GU_REG ∧ s.reg Reg.GU_REG ≤ 5) : (actGu w s).1 = s := by
  unfold actGu
  dsimp only
  rw [if_pos]
  obtain h | h | ⟨h1, h2, h3⟩ := h
  · simp [h]
  · simp [h]
  · simp [h1, h2, h3]

/-! ## Enable and disable (R30 to R32, R185) -/

/-- A lane whose enable bit is set has otherwise what the operation on it gives: the enable bit lies outside the lane's state. -/
theorem setFlag_EN_laneState (b : Bool) : (s.setFlag (Reg.GL_CFG k) F.GL_CFG_EN b).laneState k = s.laneState k :=
  laneState_of_reg (reg_setFlag_other _ _ _ (by have := k.isLt; simp only [Reg.GL_STATUS, Reg.GL_CFG, Reg.key]; omega))

theorem setFlag_EN_domain (b : Bool) : (s.setFlag (Reg.GL_CFG k) F.GL_CFG_EN b).regBit Reg.PD_ON 7 = s.regBit Reg.PD_ON 7 :=
  regBit_of_reg 7 (reg_setFlag_other _ _ _ (by simp only [Reg.PD_ON, Reg.GL_CFG, Reg.key]; omega))

theorem setFlag_EN_lanes (b : Bool) : (s.setFlag (Reg.GL_CFG k) F.GL_CFG_EN b).lanes = s.lanes := setReg_lanes _ _ _

theorem GL_CFG_not_mem_storeKeys : Reg.GL_CFG k ∉ storeKeys ∧ Reg.GL_STATUS k ∉ storeKeys := by
  have := k.isLt
  simp only [storeKeys, Reg.GL_CFG, Reg.GL_STATUS, Reg.CFG_SEQ, Reg.CFG_GEN, Reg.CFG_STATUS, Reg.key, List.mem_cons, List.not_mem_nil, or_false]
  omega

theorem stored_lanes (j v : Nat) (r : State × Nat) : (stored j v r).lanes = r.1.lanes :=
  (stored_keeps (f := 262152) j v rfl (Keeps.refl _ r.1)).parts .lanes (by decide)

/-- A write of GL_CFG.EN to a lane that is not the law's: the bit is stored, and the lane is enabled or disabled. -/
theorem stored_laneEn_spec (b : Bool) (v : Nat) (h : s.builtin = false ∨ 24 ≤ k.val) :
    let w := s.setFlag (Reg.GL_CFG k) F.GL_CFG_EN b
    let u := stored (Reg.GL_CFG k) v (actLaneEn k b s)
    let r := if b then laneEnable k w else laneDisable k w
    u.flag (Reg.GL_CFG k) F.GL_CFG_EN = b ∧ u.reg (Reg.GL_STATUS k) = r.reg (Reg.GL_STATUS k) ∧ u.lanes = r.lanes := by
  intro w u r
  have hact : actLaneEn k b s = (r, stOK) := by
    unfold actLaneEn
    rw [if_neg (by rintro ⟨hb, hk⟩; obtain h | h := h; exacts [absurd (h.symm.trans hb) (by decide), by omega])]
    rfl
  have hu : u = stored (Reg.GL_CFG k) v (r, stOK) := by rw [← hact]
  obtain ⟨hc, hs⟩ := GL_CFG_not_mem_storeKeys k
  have hr : r.reg (Reg.GL_CFG k) = w.reg (Reg.GL_CFG k) := by
    show (if b then laneEnable k w else laneDisable k w).reg _ = _
    split
    · exact laneEnable_regsKept k w _ (GL_CFG_not_mem_laneKeys k k.isLt)
    · exact laneDisable_regsKept k w _ (GL_CFG_not_mem_laneKeys k k.isLt)
  rw [hu]
  refine ⟨?_, stored_reg hs _ _ _, stored_lanes _ _ _⟩
  rw [flag_of_reg _ ((stored_reg hc _ _ _).trans hr)]
  exact flag_setFlag_self _ _ _ _ (by decide)

theorem laneEn_of_law (hb : s.builtin = true) (hk : k.val < 24) :
    Completes (.laneEnable k) s (· = s) ∧ Completes (.laneDisable k) s (· = s) := by
  have hact : ∀ b, actLaneEn k b s = (s, stState) := fun b => if_pos ⟨hb, hk⟩
  have hst : ∀ v b, stored (Reg.GL_CFG k) v (actLaneEn k b s) = s := fun v b => by rw [hact]; rfl
  exact ⟨⟨_, rfl, hst _ true⟩, ⟨_, rfl, hst _ false⟩⟩

theorem laneEnable_spec (h : s.builtin = false ∨ 24 ≤ k.val) :
    Completes (.laneEnable k) s fun u => u.flag (Reg.GL_CFG k) F.GL_CFG_EN = true ∧ PartsKept [.regs, .lanes, .mram] s u ∧
      (s.laneState k = laneOff → s.regBit Reg.PD_ON 7 = true → u.laneState k = laneStarting ∧ (u.lane k).pendDisable = false) ∧
      (s.laneState k = laneStarting → u.laneState k = laneStarting ∧ (u.lane k).pendDisable = false) ∧
      (s.laneState k = laneIdle ∨ s.laneState k = laneLive ∨ s.laneState k = laneOff ∧ s.regBit Reg.PD_ON 7 = false → u.lanes = s.lanes) ∧
      (s.laneState k = laneStopping → u.flag (Reg.GL_STATUS k) F.GL_STATUS_PENDING_ENABLE = true) := by
  refine Completes.ofKeeps (execLaneEnable_keeps k s) rfl fun hk => ?_
  obtain ⟨he, hs, hl⟩ := stored_laneEn_spec s k true (fset F.GL_CFG_EN (s.reg (Reg.GL_CFG k)) 1) h
  rw [if_pos rfl] at hs hl
  have hw := setFlag_EN_laneState s k true
  have hd := setFlag_EN_domain s k true
  have hwl := setFlag_EN_lanes s k true
  generalize s.setFlag (Reg.GL_CFG k) F.GL_CFG_EN true = w at hs hl hw hd hwl
  refine ⟨he, hk.partsKept_of, fun h0 hp => ?_, fun h0 => ?_, fun h0 => ?_, fun h0 => ?_⟩
  · rw [laneEnable_of_off (hw.trans h0) (hd.trans hp)] at hs hl
    rw [laneState_of_reg hs, lane_of_lanes hl, lane_of_lanes ((setLaneState_keeps ..).parts .lanes (by decide)), lane_setLane_self]
    exact ⟨setLaneState_laneState _ _ (by decide), rfl⟩
  · rw [laneEnable_of_starting (hw.trans h0)] at hs hl
    rw [laneState_of_reg hs, lane_of_lanes hl, lane_setLane_self]
    exact ⟨hw.trans h0, rfl⟩
  · rw [laneEnable_of_runs (by rw [hw, hd]; exact h0)] at hl
    exact hl.trans hwl
  · rw [laneEnable_of_stopping (hw.trans h0)] at hs
    rw [flag_of_reg _ hs, flag_setFlag_self _ _ _ _ (by decide)]

theorem laneDisable_spec (h : s.builtin = false ∨ 24 ≤ k.val) :
    Completes (.laneDisable k) s fun u => u.flag (Reg.GL_CFG k) F.GL_CFG_EN = false ∧ PartsKept [.regs, .lanes, .mram] s u ∧
      (s.laneState k = laneIdle ∨ s.laneState k = laneLive → u.laneState k = laneStopping ∧ (u.lane k).queue = []) ∧
      (s.laneState k = laneStarting → (u.lane k).pendDisable = true) ∧
      (s.laneState k = laneStopping → u.flag (Reg.GL_STATUS k) F.GL_STATUS_PENDING_ENABLE = false ∧ u.lanes = s.lanes) ∧
      (s.laneState k = laneOff → u.lanes = s.lanes) := by
  refine Completes.ofKeeps (execLaneDisable_keeps k s) rfl fun hk => ?_
  obtain ⟨he, hs, hl⟩ := stored_laneEn_spec s k false (fset F.GL_CFG_EN (s.reg (Reg.GL_CFG k)) 0) h
  rw [if_neg (by decide)] at hs hl
  have hw := setFlag_EN_laneState s k false
  have hwl := setFlag_EN_lanes s k false
  generalize s.setFlag (Reg.GL_CFG k) F.GL_CFG_EN false = w at hs hl hw hwl
  refine ⟨he, hk.partsKept_of, fun h0 => ?_, fun h0 => ?_, fun h0 => ?_, fun h0 => ?_⟩
  · rw [laneDisable_of_runs (by rw [hw]; exact h0)] at hs hl
    rw [laneState_of_reg hs, lane_of_lanes hl]
    exact leaveLive_spec k w k.isLt (by decide)
  · rw [laneDisable_of_starting (hw.trans h0)] at hl
    rw [lane_of_lanes hl, lane_setLane_self]
  · rw [laneDisable_of_stopping (hw.trans h0)] at hs hl
    rw [flag_of_reg _ hs, flag_setFlag_self _ _ _ _ (by decide)]
    exact ⟨rfl, hl.trans ((setReg_lanes _ _ _).trans hwl)⟩
  · rw [laneDisable_of_off (hw.trans h0)] at hl
    exact hl.trans hwl

/-! ## Start (R185) -/

theorem laneStartComplete_live (hs : s.laneState k = laneStarting) (hp : (s.lane k).pendDisable = false) :
    Completes (.laneStartComplete k t) s fun u => PartsKept [.now, .regs, .lanes] s u ∧
      (s.reg Reg.MODE = 0 → s.arming = none → u.laneState k = laneIdle) ∧
      (s.reg Reg.MODE ≠ 0 ∨ s.arming ≠ none → u.laneState k = laneLive ∧ (u.lane k).liveAt = (s.advance t).now ∧
        u.flag (Reg.GL_STATUS k) F.GL_STATUS_LANE_READY = false ∧ (u.lane k).setup.map (·.1) = [1, 2, 3, 4] ∧ (u.lane k).tripN = 0 ∧
        (u.lane k).delay = (s.lane k).delay) := by
  refine Completes.ofKeeps (execLaneStartComplete_keeps k t s) (if_pos hs) fun hk => ⟨hk.partsKept_of, fun hm ha => ?_, fun hm => ?_⟩
  all_goals
    unfold laneStarted
    rw [if_pos (show (s.advance t).laneState k = laneStarting from hs), if_neg (show ¬((s.advance t).lane k).pendDisable = true by
      rw [show ((s.advance t).lane k).pendDisable = false from hp]; decide)]
  · rw [if_neg (by simp [hm, ha])]
    exact setLaneState_laneState _ _ (by decide)
  · rw [if_pos (by
      obtain h | h := hm
      · simp [h]
      · simp [Option.isSome_iff_ne_none, h])]
    obtain ⟨h1, h2, h3, h4, h5, h6⟩ := enterLive_spec k (s.advance t)
    exact ⟨h1, h3, h2, h4, h5, h6⟩

theorem laneStarted_pendDisable (k : Nat) (hk : k < 64) (hs : s.laneState k = laneStarting) (hp : (s.lane k).pendDisable = true) :
    (laneStarted k s).laneState k = laneStopping := by
  unfold laneStarted
  rw [if_pos hs, if_pos hp]
  exact (leaveLive_spec k _ hk (by decide)).1

/-! ## Drive codes (R212, R215) -/

/-- TRAIN_RESET on one lane. -/
def trainResetLane (k : Nat) (s : State) : State := resetCodes k (s.setLane k { s.lane k with train := [] })

theorem actTrainReset_eq (mask : Nat) : (actTrainReset mask s).1 = s.forEach (bitsOf 64 mask) trainResetLane := rfl

theorem CODES_injective {i k : Nat} (h : i ≠ k) : Reg.CODES i ≠ Reg.CODES k := by simp only [Reg.CODES, Reg.key]; omega

theorem trainResetLane_self (k : Nat) :
    (trainResetLane k s).reg (Reg.CODES k) = s.setCodes k ∧ ((trainResetLane k s).lane k).train = [] := by
  unfold trainResetLane resetCodes
  rw [reg_setReg_self, lane_of_lanes (setReg_lanes _ _ _), lane_setLane_self]
  exact ⟨rfl, rfl⟩

/-- What TRAIN_RESET concerns of a lane: its codes, and its partial sums. -/
def laneCodes (i : Nat) (u : State) : Nat × Lane := (u.reg (Reg.CODES i), u.lane i)

theorem trainResetLane_other (k : Nat) {i : Nat} (h : i ≠ k) : laneCodes i (trainResetLane k s) = laneCodes i s := by
  unfold laneCodes trainResetLane resetCodes
  rw [reg_setReg_other _ _ (CODES_injective h), lane_of_lanes (setReg_lanes _ _ _), lane_setLane, if_neg h]
  rfl

/-- The SET values do not lie in CODES. -/
theorem setCodes_of_regs {s u : State} (h : ∀ j, j < Reg.CODES 0 → u.reg j = s.reg j) {i : Nat} (hi : i < 64) : u.setCodes i = s.setCodes i := by
  have hp : u.laneProfile i = s.laneProfile i :=
    congrArg (fget F.GL_CFG_PROFILE) (h (Reg.GL_CFG i) (by simp only [Reg.GL_CFG, Reg.CODES, Reg.key]; omega))
  have h4 : s.laneProfile i < 4 := Nat.mod_lt _ (by decide)
  have hm (j : Nat) (hj : j < 16) : u.reg (Reg.key (0x2A20 + s.laneProfile i) j) = s.reg (Reg.key (0x2A20 + s.laneProfile i) j) :=
    h _ (by simp only [Reg.CODES, Reg.key]; omega)
  unfold State.setCodes State.clampCode
  have h5 : u.reg (Reg.CODE_MIN (s.laneProfile i)) = _ := hm 5 (by decide)
  have h6 : u.reg (Reg.CODE_MAX (s.laneProfile i)) = _ := hm 6 (by decide)
  have h7 : u.reg (Reg.CODE_ON_SET (s.laneProfile i)) = _ := hm 7 (by decide)
  have h8 : u.reg (Reg.CODE_OFF_SET (s.laneProfile i)) = _ := hm 8 (by decide)
  dsimp only
  rw [hp, h5, h6, h7, h8]
  rfl

theorem trainResetLane_setCodes (k : Nat) {i : Nat} (hi : i < 64) : (trainResetLane k s).setCodes i = s.setCodes i :=
  setCodes_of_regs (fun _ hj => reg_setReg_other _ _ (by revert hj; simp only [Reg.CODES, Reg.key]; omega)) hi

theorem trainReset_spec (mask : BitVec 64) :
    Completes (.trainReset mask) s (fun u => PartsKept [.regs, .lanes] s u ∧ ∀ i, i < 64 →
      (mask.getLsbD i = true → u.reg (Reg.CODES i) = s.setCodes i ∧ (u.lane i).train = []) ∧
      (mask.getLsbD i = false → u.reg (Reg.CODES i) = s.reg (Reg.CODES i))) := by
  refine Completes.ofKeeps (execTrainReset_keeps mask s) (u := (actTrainReset mask.toNat s).1) rfl fun hk => ⟨hk.partsKept_of, fun i hi => ?_⟩
  rw [actTrainReset_eq]
  refine ⟨fun hm => ?_, fun hm => ?_⟩
  · obtain ⟨w, hw, -, he⟩ := forEach_view_mem laneCodes (fun u => u.setCodes i) (fun x i u => trainResetLane_other u x) (fun x u => trainResetLane_setCodes u x hi)
      (nodup_bitsOf 64 mask.toNat) (mem_bitsOf.2 ⟨hi, (bit_toNat mask i).trans hm⟩) s
    obtain ⟨h1, h2⟩ := trainResetLane_self w i
    obtain ⟨e1, e2⟩ := Prod.ext_iff.1 he
    exact ⟨e1.trans (h1.trans hw), (congrArg Lane.train e2).trans h2⟩
  · have hn : i ∉ bitsOf 64 mask.toNat := fun h => by
      rw [mem_bitsOf, bit_toNat, hm] at h
      exact absurd h.2 (by decide)
    exact congrArg Prod.fst (forEach_view_other laneCodes (fun x i u => trainResetLane_other u x) hn s)

/-- TRAIN_CODE_STORE on one lane. -/
def storeLaneCodes (k : Nat) (s : State) : State :=
  { s with mram := { s.mram with
      codes := tabSet 0 s.mram.codes k (s.reg (Reg.CODES k))
      codeProf := tabSet [] s.mram.codeProf k (s.profileValues k) } }

/-- What eMRAM holds of a lane's codes. -/
def storedCodes (i : Nat) (u : State) : Nat × List Nat := (tabGet 0 u.mram.codes i, tabGet [] u.mram.codeProf i)

theorem storeLaneCodes_other (k : Nat) {i : Nat} (h : i ≠ k) : storedCodes i (storeLaneCodes k s) = storedCodes i s :=
  congrArg₂ Prod.mk (tabGet_set_other _ _ _ h) (tabGet_set_other [] s.mram.codeProf (s.profileValues k) h)

theorem profileValues_of_regs {s u : State} (h : u.regs = s.regs) (i : Nat) : u.profileValues i = s.profileValues i := by
  unfold State.profileValues State.laneProfile State.fld State.reg; rw [h]

theorem storeCodes_eq : storeCodes s = s.forEach (List.range 64) storeLaneCodes := rfl

/-- The codes stored are those chosen, with the values of the lane's profile. -/
theorem storeCodes_spec {i : Nat} (hi : i < 64) :
    tabGet 0 (storeCodes s).mram.codes i = s.reg (Reg.CODES i) ∧ tabGet [] (storeCodes s).mram.codeProf i = s.profileValues i := by
  rw [storeCodes_eq]
  obtain ⟨w, hw, -, he⟩ := forEach_view_mem storedCodes State.regs (fun x i u => storeLaneCodes_other u x) (fun _ _ => rfl) List.nodup_range (List.mem_range.2 hi) s
  have hs : storedCodes i (storeLaneCodes i w) = (w.reg (Reg.CODES i), w.profileValues i) :=
    congrArg₂ Prod.mk (tabGet_set_self ..) (tabGet_set_self [] w.mram.codeProf i (w.profileValues i))
  rw [reg_of_regs hw, profileValues_of_regs hw] at hs
  exact Prod.mk.inj (he.trans hs)

theorem trainCodeStore_due (h : s.bootInfo.codesAt + sec 3600 ≤ t) :
    Completes (.trainCodeStore t) s fun u => u.bootInfo.codesAt = (s.advance t).now ∧ PartsKept [.now, .mram, .bootInfo] s u ∧
      ∀ i, i < 64 → tabGet 0 u.mram.codes i = s.reg (Reg.CODES i) ∧ tabGet [] u.mram.codeProf i = s.profileValues i := by
  refine Completes.ofKeeps (execTrainCodeStore_keeps t s) (if_pos h) fun hk => ⟨?_, hk.partsKept_of, fun i hi => ?_⟩
  · exact congrArg BootInfo.codesAt ((storeCodes_keeps _).parts .bootInfo (by decide))
  · obtain ⟨h1, h2⟩ := storeCodes_spec { s.advance t with bootInfo := { (s.advance t).bootInfo with codesAt := (s.advance t).now } } hi
    exact ⟨h1, h2.trans (profileValues_of_regs rfl i)⟩

end Sys2Proof

namespace Sys2Proof

open Machine

/-- Settles O40, clause by clause from the lemma of each of the lanes' commands. -/
theorem laneAccesses : Obligations.LaneAccesses := by
  unfold Obligations.LaneAccesses
  intro s k mask t m j r want
  refine ⟨laneFaultRelease_due s k t, laneFaultRelease_idle s k t, glClear_spec s mask, fun ha => ?_, fun a ha ht => ?_,
    fun a => guAccessTimeout_due s k t, fun q d hl h ha hw => guSetupRetry_again s k t hl h ha hw, fun hl h => ?_, guSetupRetry_idle s k t,
    fun x hx => ?_, laneEn_of_law s k, fun h => ⟨laneEnable_spec s k h, laneDisable_spec s k h⟩, laneStartComplete_live s k t, fun hs hp => ?_,
    fun hs => ?_, trainReset_spec s mask, fun ht => ?_, trainCodeStore_due s t⟩
  · exact guAccessTimeout_early s k t fun a h => absurd (ha.symm.trans h) nofun
  · exact guAccessTimeout_early s k t fun b h => by cases ha.symm.trans h; exact ht
  · exact ⟨_, guSetupRetry_due s k t hl h, rfl⟩
  · have taken : ∀ w, s.laneState j = laneLive → s.reg Reg.GU_RESULT ≠ 1 → (w = true → r = 0 ∨ 5 < r) → (actGu w s).1.reg Reg.GU_RESULT = 1 ∧
        ((actGu w s).1.lane j).waiting = (s.lane j).waiting ++ [{ reg := r, write := w, value := s.reg Reg.GU_VALUE, kind := .object, at_ := s.now }] ∧
        RegsKept [Reg.GU_RESULT] s (actGu w s).1 ∧ PartsKept [.regs, .lanes] s (actGu w s).1 := fun w hl hr hw => by
      obtain ⟨h1, h2, h3⟩ := actGu_taken s hl hr hw
      exact ⟨h1, h2, h3, (actGu_keeps w s).partsKept_of⟩
    rw [List.mem_cons, List.mem_singleton] at hx
    obtain rfl | rfl := hx
    · exact ⟨fun hl hr hw => ⟨_, rfl, taken true hl hr hw⟩, fun h => ⟨_, rfl, actGu_refused s h⟩⟩
    · exact ⟨fun hl hr hw => ⟨_, rfl, taken false hl hr hw⟩, fun h => ⟨_, rfl, actGu_refused s h⟩⟩
  · exact ⟨_, if_pos hs, laneStarted_pendDisable (s.advance t) k k.isLt hs hp⟩
  · exact ⟨s, if_neg hs, rfl⟩
  · exact ⟨s, if_neg (Nat.not_le.2 ht), rfl⟩

end Sys2Proof
end

section
/-!
SUPPORT. The blocks leave the supervision alone: what they do when their domain is switched keeps its state and every register below
0x2200, where the objects of the power domains lie (13, "Structure").
-/

namespace Sys2Proof.Machine

/-- The supervision's state and every register below 0x2200 are as before. -/
structure SupKept (s u : State) : Prop where
  sup : u.sup = s.sup
  low : ∀ j, j < Reg.key 0x2200 0 → u.reg j = s.reg j

theorem key_top {i b : Nat} (h : 0x2200 ≤ i) : Reg.key 0x2200 0 ≤ Reg.key i b := by unfold Reg.key; omega

/- The default proofs of the rules below are checked in order, not each in a thread of its own that waits for the one before. -/
set_option Elab.async false

variable {s t : State}

theorem SupKept.refl (s : State) : SupKept s s := ⟨rfl, fun _ _ => rfl⟩

theorem SupKept.trans {u : State} (h : SupKept s t) (k : SupKept t u) : SupKept s u :=
  ⟨k.sup.trans h.sup, fun j hj => (k.low j hj).trans (h.low j hj)⟩

/-- An operation that writes neither registers nor supervision. -/
theorem SupKept.keeps {f : Nat} {u : State} (h : SupKept s t) (k : Keeps f t u) (hf : (f.testBit 3 || f.testBit 26) = false := by decide) :
    SupKept s u := by
  rw [Bool.or_eq_false_iff] at hf
  exact ⟨Eq.trans (k.parts .sup hf.2) h.sup, fun j hj => (reg_of_regs (k.parts .regs hf.1) j).trans (h.low j hj)⟩

/-- An update of other parts of the state. -/
theorem SupKept.update {u : State} (h : SupKept s t) (hr : u.regs = t.regs) (hs : u.sup = t.sup) : SupKept s u :=
  ⟨hs.trans h.sup, fun j hj => (reg_of_regs hr j).trans (h.low j hj)⟩

theorem SupKept.ite {u : State} {c : Prop} [Decidable c] (h : SupKept s t) (k : SupKept s u) : SupKept s (if c then t else u) := by
  split <;> assumption

theorem SupKept.iteSnd {α : Type} {x y : α × State} {c : Prop} [Decidable c] (h : SupKept s x.2) (k : SupKept s y.2) :
    SupKept s (if c then x else y).2 := by
  split <;> assumption

theorem SupKept.forEach {α : Type} {l : List α} {f : α → State → State} (h : SupKept s t) (hf : ∀ x u, SupKept u (f x u)) :
    SupKept s (t.forEach l f) := by
  unfold State.forEach
  induction l generalizing t with
  | nil => exact h
  | cons x l ih => exact ih (h.trans (hf x t))

theorem SupKept.foldl {α : Type} {l : List α} {f : State → α → State} (h : SupKept s t) (hf : ∀ x u, SupKept u (f u x)) :
    SupKept s (l.foldl f t) := SupKept.forEach (f := fun x s => f s x) h hf

theorem SupKept.foldlSnd {α β : Type} {l : List α} {f : β × State → α → β × State} {r : β × State} (h : SupKept s r.2)
    (hf : ∀ x u, SupKept u.2 (f u x).2) : SupKept s (l.foldl f r).2 := by
  induction l generalizing r with
  | nil => exact h
  | cons x l ih => exact ih (h.trans (hf x r))

/-! ## Updates of the state -/

theorem SupKept.setReg (h : SupKept s t) {k v : Nat} (hk : Reg.key 0x2200 0 ≤ k := by exact key_top (by omega)) : SupKept s (t.setReg k v) :=
  ⟨h.sup, fun j hj => (reg_setReg_other _ _ (Nat.ne_of_lt (Nat.lt_of_lt_of_le hj hk))).trans (h.low j hj)⟩

theorem SupKept.setFld (h : SupKept s t) {k x : Nat} {f : Fld} (hk : Reg.key 0x2200 0 ≤ k := by exact key_top (by omega)) :
    SupKept s (t.setFld k f x) := h.setReg hk

theorem SupKept.setFlag (h : SupKept s t) {k : Nat} {f : Fld} {b : Bool} (hk : Reg.key 0x2200 0 ≤ k := by exact key_top (by omega)) :
    SupKept s (t.setFlag k f b) := h.setReg hk

theorem SupKept.setRegBit (h : SupKept s t) {k i : Nat} {b : Bool} (hk : Reg.key 0x2200 0 ≤ k := by exact key_top (by omega)) :
    SupKept s (t.setRegBit k i b) := h.setReg hk

theorem SupKept.bump (h : SupKept s t) {k : Nat} (hk : Reg.key 0x2200 0 ≤ k := by exact key_top (by omega)) : SupKept s (t.bump k) := by
  unfold State.bump
  exact SupKept.ite (h.setReg hk) ((h.setReg hk).update rfl rfl)

theorem SupKept.setFl (h : SupKept s t) {k : Nat} {x : Flane} : SupKept s (t.setFl k x) := h.update rfl rfl
theorem SupKept.setRc (h : SupKept s t) {k : Nat} {x : Rec} : SupKept s (t.setRc k x) := h.update rfl rfl
theorem SupKept.setLane (h : SupKept s t) {k : Nat} {x : Lane} : SupKept s (t.setLane k x) := h.update rfl rfl
theorem SupKept.setLd (h : SupKept s t) {k : Nat} {x : Ldrv} : SupKept s (t.setLd k x) := h.update rfl rfl
theorem SupKept.setSd (h : SupKept s t) {k : Nat} {x : Sdrv} : SupKept s (t.setSd k x) := h.update rfl rfl
theorem SupKept.setDma (h : SupKept s t) {k : Nat} {x : Dma} : SupKept s (t.setDma k x) := h.update rfl rfl

theorem SupKept.setWords (h : SupKept s t) (w : Tab Nat) : SupKept s { t with words := w } := h.update rfl rfl
theorem SupKept.setMemory (h : SupKept s t) (m : List Host.Cell) (x : Mem) : SupKept s { t with mem := m, memo := x } := h.update rfl rfl
theorem SupKept.setMemo (h : SupKept s t) (m : Mem) : SupKept s { t with memo := m } := h.update rfl rfl

/-! ## Memory, DMA (12) -/

theorem supKept_countCe (a : Nat) (s : State) : SupKept s (countCe a s) := by
  unfold countCe
  split
  · exact (SupKept.refl s).bump.setReg
  · exact SupKept.refl s

theorem supKept_countUe (a : Nat) (s : State) : SupKept s (countUe a s) := by
  unfold countUe
  split
  · exact (SupKept.refl s).bump.setReg
  · exact SupKept.refl s

theorem supKept_eccCheck (n a : Nat) (s : State) : SupKept s (s.eccCheck n a).2 := by
  unfold State.eccCheck
  refine SupKept.foldlSnd (SupKept.refl s) fun w r => ?_
  split
  · exact SupKept.refl _
  · exact supKept_countCe _ _
  · exact supKept_countUe _ _

theorem supKept_writeFailed (m : Master) (s : State) : SupKept s (writeFailed m s) := by
  unfold writeFailed dmaHalt dmaReport
  split
  · exact SupKept.ite (SupKept.refl s).setReg.setReg.setReg.setFlag.setFlag.setFld.setDma (SupKept.refl s)
  · exact (SupKept.refl s).update rfl rfl
  · exact SupKept.refl s

theorem supKept_heldRmw (h : Held) (s : State) : SupKept s (heldRmw h s).2 := by
  have words : SupKept s (((List.range 8).filter fun k => !wordWhole h.mask k).foldl (fun (r : Option Nat × State) k =>
      let w := h.addr + 8 * k
      match r.2.eccAt w with
      | 0 => r
      | 1 => (r.1, setEcc w 0 (countCe w r.2))
      | _ => (r.1 <|> some w, countUe w r.2)) (none, { s with memo := { s.memo with held := s.memo.held.erase h } })).2 := by
    refine SupKept.foldlSnd ((SupKept.refl s).update rfl rfl) fun k r => ?_
    dsimp only
    split
    · exact SupKept.refl _
    · exact (supKept_countCe _ _).keeps (setEcc_keeps ..)
    · exact supKept_countUe _ _
  unfold heldRmw
  exact SupKept.ite (words.forEach supKept_writeFailed) words

theorem supKept_heldFlush (p : Held → Bool) (s : State) : SupKept s (heldFlush p s).2 :=
  SupKept.foldlSnd (SupKept.refl s) fun h r => supKept_heldRmw h r.2

theorem supKept_physWriteBy (m : Master) (a : Nat) (l : List Byte) (s : State) : SupKept s (s.physWriteBy m a l).2 := by
  unfold State.physWriteBy
  dsimp only
  split
  · refine SupKept.update (t := (granules a l.length).foldl (heldWrite m a l.length) (heldExpire s)) ?_ rfl rfl
    exact SupKept.foldl (supKept_heldFlush _ s) fun g u => (SupKept.refl u).keeps (heldWrite_keeps ..)
  · refine SupKept.update (SupKept.foldlSnd (r := (none, s)) (SupKept.refl s) ?_) rfl rfl
    intro w r
    split
    · exact SupKept.refl _
    · exact SupKept.keeps (SupKept.ite (SupKept.refl _) (supKept_countCe _ _)) (setEcc_keeps ..)
    · exact SupKept.iteSnd ((SupKept.refl _).keeps (setEcc_keeps ..)) (supKept_countUe _ _)

theorem supKept_physWrite (a : Nat) (l : List Byte) (s : State) : SupKept s (s.physWrite a l).2 :=
  (supKept_physWriteBy .zeset a l s).trans (supKept_heldFlush _ _)

/-! ## Recorders (10) -/

theorem supKept_closeRecord (n : Nat) (trunc : Bool) (s : State) : SupKept s (closeRecord n trunc s) := by
  have flush : SupKept s (rcFlush n s) := by
    unfold rcFlush heldOf
    refine SupKept.trans (SupKept.setRc (SupKept.foldl (SupKept.refl s) fun r u => ?_)) (supKept_heldFlush _ _)
    unfold rcWrite
    exact SupKept.ite (supKept_physWriteBy _ _ _ _).setRc (supKept_physWriteBy _ _ _ _)
  unfold closeRecord
  dsimp only
  generalize rcFlush n s = v at flush
  split
  · exact flush
  · next t _ =>
    refine SupKept.setRc (SupKept.setReg (SupKept.ite (SupKept.setFlag ?closed) ?closed))
    exact ((SupKept.ite flush.setReg.setReg flush).trans (supKept_physWrite _ _ _)).setFld.bump

theorem supKept_rcStopped (n : Nat) (s : State) : SupKept s (rcStopped n s) := (SupKept.refl s).setReg.setRc

theorem supKept_setRcState (n v : Nat) (s : State) : SupKept s (setRcState n v s) := (SupKept.refl s).setFld

theorem supKept_rcShutdown (n : Nat) (s : State) : SupKept s (rcShutdown n s) := by
  unfold rcShutdown
  dsimp only
  split
  · refine SupKept.ite ?_ (supKept_setRcState n 4 s).setRc
    exact ((supKept_closeRecord n true s).trans (supKept_setRcState n 4 _)).trans (supKept_rcStopped n _)
  · refine SupKept.trans (SupKept.trans (SupKept.ite (SupKept.refl s).setFld (SupKept.refl s)) (supKept_setRcState n 4 _)) (supKept_rcStopped n _)

theorem supKept_rcStart (n : Nat) (s : State) : SupKept s (rcStart n s) := by
  have kept : SupKept s (slotsKept n s).2 := SupKept.foldlSnd (SupKept.refl s) fun i r => supKept_eccCheck _ _ r.2
  have slots : ∀ (l : List Nat) (u : State), SupKept s u → SupKept s (u.forEach l fun i u => setSlot n i 3 u) :=
    fun l u h => h.forEach fun i u => (SupKept.refl u).setFld
  unfold rcStart
  refine SupKept.setRc (SupKept.setFld (SupKept.setReg (SupKept.setFlag (slots _ _ (SupKept.setReg ?_)))))
  split
  · exact kept
  · exact SupKept.refl s

theorem supKept_rcEnable (n : Nat) (on : Bool) (s : State) : SupKept s (rcEnable n on s) := by
  have h0 := SupKept.refl s
  unfold rcEnable
  exact SupKept.ite h0.setFlag (SupKept.ite (SupKept.ite h0 (supKept_rcStart n s)) (SupKept.ite (supKept_rcShutdown n s) h0))

/-! ## Filter lanes (9) -/

theorem supKept_flBank (k b : Nat) (s : State) : SupKept s (flBank k b s) := (SupKept.refl s).setFl.setFld.setFlag.setFlag.setReg.setFld

theorem supKept_setFlState (k st : Nat) (s : State) : SupKept s (setFlState k st s) := (SupKept.refl s).setFld.setRegBit

theorem supKept_flShutdown (k : Nat) (s : State) : SupKept s (flShutdown k s) := by
  have h := supKept_flBank k (s.fl k).bank s
  unfold flShutdown
  exact ((SupKept.ite h.setReg h).setFl.trans (supKept_setFlState k 4 _)).setReg

theorem supKept_flStale (k : Nat) (s : State) : SupKept s (flStale k s) := by
  have h0 := SupKept.refl s
  unfold flStale
  refine SupKept.ite ?_ h0
  have h1 : SupKept s _ := h0.setFl (k := k) (x := { s.fl k with stale := true })
    |>.setFlag (k := Reg.LANE_STATUS k) (f := F.LANE_STATUS_STALE) (b := true) |>.trans (supKept_setFlState k 3 _)
  exact SupKept.setReg (h1.setWords _)

theorem supKept_flRestart (k : Nat) (s : State) : SupKept s (flRestart k s) := by
  have h : ∀ x, SupKept s (s.setFl k x) := fun _ => (SupKept.refl s).setFl
  unfold flRestart
  refine SupKept.trans (SupKept.setFlag (SupKept.bump (SupKept.setFlag (SupKept.ite (SupKept.setReg ?bank) ?bank)))) (supKept_setFlState k 1 _)
  exact (SupKept.ite (h _).setReg (h _)).trans (supKept_flBank k _ _)

theorem supKept_flStart (k : Nat) (s : State) : SupKept s (flStart k s) := by
  have h : SupKept s (flRestart k (flBank k (s.laneCfg k F.LANE_CFG_START_BANK) (s.setFl k {}))) :=
    ((SupKept.refl s).setFl.trans (supKept_flBank k _ _)).trans (supKept_flRestart k _)
  unfold flStart flFresh
  exact SupKept.ite (h.trans (supKept_flStale k _)) h

/-! ## Gate links and drivers (7) -/

theorem supKept_setLaneState (k st : Nat) (s : State) : SupKept s (setLaneState k st s) := (SupKept.refl s).setFld.setRegBit

theorem supKept_leaveLive (k st : Nat) (s : State) : SupKept s (leaveLive k st s) := by
  have h : ∀ x, SupKept s ((setLaneState k st s).setLane k x) := fun _ => (supKept_setLaneState k st s).setLane
  unfold leaveLive refreshReady
  exact (SupKept.ite (h _).setReg (h _)).setFlag

theorem supKept_laneEnable (k : Nat) (s : State) : SupKept s (laneEnable k s) := by
  have h0 := SupKept.refl s
  unfold laneEnable
  exact SupKept.ite h0.setFlag (SupKept.ite h0.setLane (SupKept.ite (h0.setLane.trans (supKept_setLaneState k _ _)) h0))

theorem supKept_ldApply (n : Nat) (t : Instant) (s : State) : SupKept s (ldApply n t s) := by
  have h : ∀ x, SupKept s (s.setLd n x) := fun _ => (SupKept.refl s).setLd
  unfold ldApply
  exact SupKept.ite (h _).setFlag (h _)

theorem supKept_ldStart (n : Nat) (t : Instant) (s : State) : SupKept s (ldStart n t s) := by
  unfold ldStart followTake
  exact (SupKept.refl s).setLd.setLd.setFlag.trans (supKept_ldApply n t _)

theorem supKept_ldEnable (n : Nat) (s : State) : SupKept s (ldEnable n s) := by
  have h0 := SupKept.refl s
  unfold ldEnable
  exact SupKept.ite h0.setFlag (SupKept.ite h0.setLd (SupKept.ite (supKept_ldStart n s.now s) h0))

theorem supKept_sdApply (n : Nat) (s : State) : SupKept s (sdApply n s) := (SupKept.refl s).setFlag

theorem supKept_sdStart (n : Nat) (s : State) : SupKept s (sdStart n s) := (SupKept.refl s).setSd.trans (supKept_sdApply n _)

theorem supKept_sdEnable (n : Nat) (s : State) : SupKept s (sdEnable n s) := by
  have h0 := SupKept.refl s
  unfold sdEnable
  exact SupKept.ite h0.setFlag (SupKept.ite h0.setSd (SupKept.ite (supKept_sdStart n s) h0))

theorem supKept_driversStart (s : State) : SupKept s (driversStart s) := by
  unfold driversStart
  refine SupKept.forEach (SupKept.forEach (SupKept.refl s) fun n u => ?_) fun n u => ?_
  · exact SupKept.ite (supKept_ldEnable n u) (SupKept.refl u)
  · exact SupKept.ite (supKept_sdEnable n u) (SupKept.refl u)

theorem supKept_driversUv (uv : Bool) (s : State) : SupKept s (driversUv uv s) := by
  unfold driversUv
  refine SupKept.forEach (SupKept.forEach (SupKept.refl s) fun n u => ?_) fun n u => ?_
  · have h := (SupKept.refl u).setFlag (k := Reg.LD_STATUS n) (f := F.LD_STATUS_VDRV_UV) (b := uv)
    exact SupKept.ite (h.setFlag.trans (supKept_ldApply n _ _)) (SupKept.ite (h.trans (supKept_ldStart n _ _)) h)
  · have h := (SupKept.refl u).setFlag (k := Reg.SD_STATUS n) (f := F.SD_STATUS_VDRV_UV) (b := uv)
    exact SupKept.ite (h.setSd.setFlag.trans (supKept_sdApply n _)) (SupKept.ite (h.trans (supKept_sdStart n _)) h)

/-! ## Acquisition (8) and DRAM (12) -/

theorem supKept_adcStart (s : State) : SupKept s (adcStart s) := by
  unfold adcStart
  refine SupKept.update (SupKept.forEach (SupKept.refl s) fun k u => ?_) rfl rfl
  exact SupKept.ite (SupKept.refl u) (SupKept.refl u).setFld.setFld

theorem supKept_dramSleep (s : State) : SupKept s (dramSleep s) := by
  unfold dramSleep
  refine SupKept.setFlag ?_
  exact (SupKept.refl s).setMemo _

theorem supKept_dramStart (s : State) : SupKept s (dramStart s) := by
  have h := (SupKept.refl s).setFlag (k := Reg.DRAM_STATUS) (f := F.DRAM_STATUS_SELF_REFRESH) (b := false)
    |>.setFlag (k := Reg.DRAM_STATUS) (f := F.DRAM_STATUS_TRAINED) (b := true)
  unfold dramStart
  exact SupKept.ite h.setFlag.setFlag.setReg (h.setMemory _ _)

/-! ## The blocks of a domain (R390) -/

/-- What the blocks of a domain do when it begins to switch off. -/
def pdBlocksOff (d : Nat) (s : State) : State :=
  match d with
  | 6 => rcShutdowns s |> fun s => s.forEach (List.range 40) fun k s => if s.laneRuns k then flShutdown k s else s
  | 7 => s.forEach (List.range 64) fun k s =>
      if s.laneState k = laneIdle ∨ s.laneState k = laneLive then leaveLive k laneStopping s else s
  | 9 => dramSleep (rcShutdowns s)
  | _ => s

/-- A domain switches off: PD_ON falls, its shutdown is noted, its blocks start theirs. -/
theorem pdShutdown_eq (d : Nat) (s : State) : pdShutdown d s =
    pdBlocksOff d { s.setRegBit Reg.PD_ON d false with sup := { s.sup with pdStop := setBit s.sup.pdStop d true } } := rfl

theorem supKept_rcShutdowns (s : State) : SupKept s (rcShutdowns s) :=
  SupKept.forEach (SupKept.refl s) fun n u => SupKept.ite (supKept_rcShutdown n u) (SupKept.refl u)

theorem supKept_pdBlocksOff (d : Nat) (s : State) : SupKept s (pdBlocksOff d s) := by
  unfold pdBlocksOff
  split
  · exact SupKept.forEach (supKept_rcShutdowns s) fun k u => SupKept.ite (supKept_flShutdown k u) (SupKept.refl u)
  · exact SupKept.forEach (SupKept.refl s) fun k u => SupKept.ite (supKept_leaveLive k _ u) (SupKept.refl u)
  · exact (supKept_rcShutdowns s).trans (supKept_dramSleep _)
  · exact SupKept.refl s

/-- The recorders whose enable is set start with their domain. -/
def rcStarts (s : State) : State :=
  s.forEach (List.range 4) fun n s => if s.rcCfg n F.RC_CFG_EN == 1 && s.rcPower then rcEnable n true s else s

/-- What the blocks of a domain do when it is on. -/
def pdBlocksOn (d : Nat) (s : State) : State :=
  match d with
  | 3 => if s.builtin then s.forEach (List.range 8) romLoad else s
  | 5 => if s.reg Reg.ADC_EN = 1 then adcStart s else s
  | 6 => rcStarts (s.forEach (List.range 40) fun k s => if s.laneCfg k F.LANE_CFG_EN == 1 then flStart k s else s)
  | 7 => s.forEach (List.range 64) fun k s => if s.flag (Reg.GL_CFG k) F.GL_CFG_EN then laneEnable k s else s
  | 9 => rcStarts (dramStart s)
  | 10 => driversStart (driversUv (s.reg Reg.VDRV ≤ 9500) s)
  | _ => s

/-- The start of a domain completes: PD_ON rises; a held switch-off follows, else its blocks start. -/
theorem pdOnDone_eq (d : Nat) (s : State) : pdOnDone d s =
    let v := State.setRegBit { s with sup := { s.sup with pdStart := setBit s.sup.pdStart d false } } Reg.PD_ON d true
    if bit s.sup.pdDis d then pdShutdown d { v with sup := { v.sup with pdDis := setBit v.sup.pdDis d false } } else pdBlocksOn d v := rfl

theorem supKept_rcStarts (s : State) : SupKept s (rcStarts s) :=
  SupKept.forEach (SupKept.refl s) fun n u => SupKept.ite (supKept_rcEnable n true u) (SupKept.refl u)

theorem supKept_pdBlocksOn (d : Nat) (s : State) : SupKept s (pdBlocksOn d s) := by
  have h0 := SupKept.refl s
  unfold pdBlocksOn
  split
  · exact SupKept.ite (h0.forEach fun e u => (SupKept.refl u).keeps (romLoad_keeps ..)) h0
  · exact SupKept.ite (supKept_adcStart s) h0
  · exact (h0.forEach fun k u => SupKept.ite (supKept_flStart k u) (SupKept.refl u)).trans (supKept_rcStarts _)
  · exact h0.forEach fun k u => SupKept.ite (supKept_laneEnable k u) (SupKept.refl u)
  · exact (supKept_dramStart s).trans (supKept_rcStarts _)
  · exact (supKept_driversUv _ s).trans (supKept_driversStart _)
  · exact h0

end Sys2Proof.Machine
end

section
/-!
SUPPORT. Power domains: what a request, the start and the shutdown of a domain leave of every domain (R28, R389, R390).
-/

namespace Sys2Proof.Machine

/-! ## Masks -/

theorem and_mod_two (v m : Nat) : (v &&& m) % 2 = v % 2 &&& m % 2 := by
  simpa using Nat.and_mod_two_pow (a := v) (b := m) (n := 1)

theorem testBit_clearMask (v m i : Nat) : (clearMask v m).testBit i = (v.testBit i && !m.testBit i) := by
  unfold clearMask
  have hle := Nat.and_le_left (n := v) (m := m)
  have h : (v &&& m) % 2 ≤ v % 2 := by rw [and_mod_two]; exact Nat.and_le_left
  induction i generalizing v m with
  | zero =>
    have hs : (v - (v &&& m)) % 2 = v % 2 - (v &&& m) % 2 := by omega
    rw [Nat.testBit_zero, Nat.testBit_zero, Nat.testBit_zero, hs, and_mod_two]
    obtain h1 | h1 := Nat.mod_two_eq_zero_or_one v <;> obtain h2 | h2 := Nat.mod_two_eq_zero_or_one m <;> rw [h1, h2] <;> rfl
  | succ i ih =>
    have hd : (v - (v &&& m)) / 2 = v / 2 - (v / 2 &&& m / 2) := by rw [← Nat.and_div_two]; omega
    rw [Nat.testBit_succ, hd, ih _ _ Nat.and_le_left (by rw [and_mod_two]; exact Nat.and_le_left), Nat.testBit_succ, Nat.testBit_succ]

/-- The bits that an OR with a mask changes are set by it. -/
theorem bit_or_of_changed {v m d : Nat} (h : bit (v ^^^ (v ||| m)) d = true) : bit (v ||| m) d = true := by
  rw [bit_eq_testBit, Nat.testBit_xor, Nat.testBit_or] at h
  rw [bit_eq_testBit, Nat.testBit_or]
  revert h
  cases v.testBit d <;> cases m.testBit d <;> decide

/-- The bits that the clearing of a mask changes were set and are cleared by it. -/
theorem bit_clearMask_of_changed {v m d : Nat} (h : bit (v ^^^ clearMask v m) d = true) : bit v d = true ∧ bit (clearMask v m) d = false := by
  rw [bit_eq_testBit, Nat.testBit_xor, testBit_clearMask] at h
  rw [bit_eq_testBit, bit_eq_testBit, testBit_clearMask]
  revert h
  cases v.testBit d <;> cases m.testBit d <;> decide

/-! ## What a domain shows -/

/-- A domain as its requests see it. -/
structure PdView where
  on : Bool
  pending : Bool
  start : Bool
  stop : Bool
  dis : Bool

/-- Domain `x` of a device. -/
def pdView (x : Nat) (s : State) : PdView :=
  ⟨s.regBit Reg.PD_ON x, s.regBit Reg.PD_PENDING x, bit s.sup.pdStart x, bit s.sup.pdStop x, bit s.sup.pdDis x⟩

theorem pdView_of_supKept {s u : State} (h : SupKept s u) (x : Nat) : pdView x u = pdView x s := by
  unfold pdView
  rw [regBit_of_reg x (h.low Reg.PD_ON (by decide)), regBit_of_reg x (h.low Reg.PD_PENDING (by decide)), h.sup]

theorem regBit_setRegBit_other {k j : Nat} (i x : Nat) (b : Bool) (h : j ≠ k) (s : State) : (s.setRegBit k i b).regBit j x = s.regBit j x :=
  regBit_of_reg x (reg_setRegBit_other s i b h)

/-- A domain that switches off falls from PD_ON, and its shutdown is noted; every other domain stands. -/
theorem pdView_pdShutdown (d x : Nat) (s : State) : pdView x (pdShutdown d s) =
    if x = d then { pdView x s with on := false, stop := true } else pdView x s := by
  rw [pdShutdown_eq, pdView_of_supKept (supKept_pdBlocksOff d _)]
  have hon : (State.setRegBit s Reg.PD_ON d false).regBit Reg.PD_ON x = _ := regBit_setRegBit ..
  have hpend : (State.setRegBit s Reg.PD_ON d false).regBit Reg.PD_PENDING x = _ := regBit_setRegBit_other d x false (by decide) s
  show PdView.mk ((s.setRegBit Reg.PD_ON d false).regBit Reg.PD_ON x) ((s.setRegBit Reg.PD_ON d false).regBit Reg.PD_PENDING x)
    (bit s.sup.pdStart x) (bit (setBit s.sup.pdStop d true) x) (bit s.sup.pdDis x) = _
  rw [hon, hpend, bit_setBit]
  split <;> rfl

theorem reg_PD_REQ_pdShutdown (d : Nat) (s : State) : (pdShutdown d s).reg Reg.PD_REQ = s.reg Reg.PD_REQ := by
  rw [pdShutdown_eq, (supKept_pdBlocksOff d _).low Reg.PD_REQ (by decide)]
  exact reg_setRegBit_other s d false (by decide)

/-! ## Requests (R28, R389) -/

/-- One domain of a granted request. -/
def pdRequest (v d : Nat) (s : State) : State := if bit v d then pdOnBegin d s else pdOffBegin d s

/-- The request is refused: a changed domain may not be switched. -/
def State.pdReqBad (s : State) (v : Nat) : Prop :=
  ∃ d, d < 12 ∧ bit (s.reg Reg.PD_REQ ^^^ v) d = true ∧ (d ∉ pdSwitched ∨ bit v d = false ∧ s.pdOffRefused d = true ∨
    bit v d = true ∧ (s.regBit Reg.PD_ON 1 && s.regBit Reg.PD_ON 11) = false)

theorem pdReqBad_iff (s : State) (v : Nat) : s.pdReqBad v ↔ ((bitsOf 12 (s.reg Reg.PD_REQ ^^^ v)).any fun d =>
    !pdSwitched.contains d || (!bit v d && s.pdOffRefused d) || (bit v d && !(s.regBit Reg.PD_ON 1 && s.regBit Reg.PD_ON 11))) = true := by
  rw [List.any_eq_true]
  refine exists_congr fun d => ?_
  rw [mem_bitsOf, and_assoc]
  refine and_congr_right fun _ => and_congr_right fun _ => ?_
  rw [Bool.or_eq_true, Bool.or_eq_true, Bool.and_eq_true, Bool.and_eq_true, Bool.not_eq_true', Bool.not_eq_true', Bool.not_eq_true', or_assoc,
    show d ∉ pdSwitched ↔ pdSwitched.contains d = false by rw [← List.contains_iff_mem, Bool.not_eq_true]]

theorem actPdReq_refused {s : State} {v : Nat} (h : s.pdReqBad v) : (actPdReq v s).1 = s.setReg Reg.PD_REFUSED (s.reg Reg.PD_REQ ^^^ v) :=
  congrArg Prod.fst (if_pos ((pdReqBad_iff s v).1 h))

theorem actPdReq_granted {s : State} {v : Nat} (h : ¬s.pdReqBad v) :
    (actPdReq v s).1 = (s.setReg Reg.PD_REQ v).forEach (bitsOf 12 (s.reg Reg.PD_REQ ^^^ v)) (pdRequest v) :=
  congrArg Prod.fst (if_neg fun k => h ((pdReqBad_iff s v).2 k))

/-- A switch-on is refused where a changed domain is none that PD_REQ switches, or the supply is off. -/
theorem pdReqBad_on (s : State) (mask : Nat) : s.pdReqBad (s.reg Reg.PD_REQ ||| mask) ↔
    ∃ x, x < 12 ∧ bit (s.reg Reg.PD_REQ ^^^ (s.reg Reg.PD_REQ ||| mask)) x = true ∧
      (x ∉ pdSwitched ∨ (s.regBit Reg.PD_ON 1 && s.regBit Reg.PD_ON 11) = false) := by
  refine exists_congr fun d => and_congr_right fun _ => and_congr_right fun hd => or_congr_right ?_
  rw [bit_or_of_changed hd]
  simp

/-- A switch-off is refused where a changed domain is none that PD_REQ switches, or its blocks forbid it. -/
theorem pdReqBad_off (s : State) (mask : Nat) : s.pdReqBad (clearMask (s.reg Reg.PD_REQ) mask) ↔
    ∃ x, x < 12 ∧ bit (s.reg Reg.PD_REQ ^^^ clearMask (s.reg Reg.PD_REQ) mask) x = true ∧ (x ∉ pdSwitched ∨ s.pdOffRefused x = true) := by
  refine exists_congr fun d => and_congr_right fun _ => and_congr_right fun hd => or_congr_right ?_
  rw [(bit_clearMask_of_changed hd).2]
  simp

theorem pdView_setReg {k : Nat} (v x : Nat) (s : State) (h : k ≠ Reg.PD_ON) (h' : k ≠ Reg.PD_PENDING) : pdView x (s.setReg k v) = pdView x s := by
  unfold pdView
  rw [regBit_of_reg x (reg_setReg_other s v h.symm), regBit_of_reg x (reg_setReg_other s v h'.symm)]
  rfl

/-- A request of one domain leaves every other domain alone. -/
theorem pdView_pdRequest_other (v d x : Nat) (s : State) (h : x ≠ d) : pdView x (pdRequest v d s) = pdView x s := by
  have sup : ∀ p : Sup, bit p.pdStart x = bit s.sup.pdStart x → bit p.pdStop x = bit s.sup.pdStop x → bit p.pdDis x = bit s.sup.pdDis x →
      pdView x { s with sup := p } = pdView x s := fun p h1 h2 h3 => by
    show PdView.mk _ _ (bit p.pdStart x) (bit p.pdStop x) (bit p.pdDis x) = _
    rw [h1, h2, h3]; rfl
  have bits : ∀ w b, bit (setBit w d b) x = bit w x := fun w b => by rw [bit_setBit, if_neg h]
  have pend : ∀ b, pdView x (s.setRegBit Reg.PD_PENDING d b) = pdView x s := fun b => by
    unfold pdView
    rw [regBit_setRegBit, if_neg h, regBit_setRegBit_other d x b (by decide)]
    rfl
  unfold pdRequest
  split
  · unfold pdOnBegin
    split
    · exact pend true
    · split
      · exact sup _ rfl rfl (bits ..)
      · split
        · rfl
        · exact sup _ (bits ..) rfl rfl
  · unfold pdOffBegin
    split
    · exact pend false
    · split
      · exact sup _ rfl rfl (bits ..)
      · split
        · rw [pdView_pdShutdown, if_neg h]
        · rfl

theorem reg_PD_REQ_pdRequest (v d : Nat) (s : State) : (pdRequest v d s).reg Reg.PD_REQ = s.reg Reg.PD_REQ := by
  have pend : ∀ b, (s.setRegBit Reg.PD_PENDING d b).reg Reg.PD_REQ = s.reg Reg.PD_REQ := fun b => reg_setRegBit_other s d b (by decide)
  unfold pdRequest pdOnBegin pdOffBegin
  split
  · split
    · exact pend true
    · split
      · rfl
      · split <;> rfl
  · split
    · exact pend false
    · split
      · rfl
      · split
        · exact reg_PD_REQ_pdShutdown d s
        · rfl

/-- A granted request: PD_REQ holds it, and each changed domain is as its own request leaves it. -/
theorem actPdReq_spec {s : State} {v : Nat} (h : ¬s.pdReqBad v) : (actPdReq v s).1.reg Reg.PD_REQ = v ∧
    ∀ x, x < 12 → bit (s.reg Reg.PD_REQ ^^^ v) x = true → ∃ w, pdView x w = pdView x s ∧ pdView x (actPdReq v s).1 = pdView x (pdRequest v x w) := by
  rw [actPdReq_granted h]
  refine ⟨?_, fun x hx hd => ?_⟩
  · exact (forEach_frame (fun u => u.reg Reg.PD_REQ) _ _ (fun d u => reg_PD_REQ_pdRequest v d u) _).trans (reg_setReg_self s _ v)
  · obtain ⟨w, -, h1, h2⟩ := forEach_view_mem pdView (fun _ => ()) (fun d i u => pdView_pdRequest_other v d i u) (fun _ _ => rfl)
      (nodup_bitsOf 12 _) (mem_bitsOf.2 ⟨hx, hd⟩) (s.setReg Reg.PD_REQ v)
    exact ⟨w, h1.trans (pdView_setReg v x s (by decide) (by decide)), h2⟩

/-- A domain that is off starts on a switch-on. -/
theorem pdOnBegin_starts {d : Nat} {s : State} (h : (pdView d s).stop = false ∧ (pdView d s).start = false ∧ (pdView d s).on = false) :
    (pdView d (pdOnBegin d s)).start = true := by
  obtain ⟨h1, h2, h3⟩ := h
  unfold pdOnBegin
  rw [if_neg (by rw [show bit s.sup.pdStop d = false from h1]; decide), if_neg (by rw [show bit s.sup.pdStart d = false from h2]; decide),
    if_neg (by rw [show s.regBit Reg.PD_ON d = false from h3]; decide)]
  exact (bit_setBit ..).trans (if_pos rfl)

/-- A domain that is on, and neither starting nor to start, switches off. -/
theorem pdOffBegin_of_on {d : Nat} {s : State} (hp : (pdView d s).pending = false) (hs : (pdView d s).start = false)
    (ho : (pdView d s).on = true) : pdOffBegin d s = pdShutdown d s := by
  unfold pdOffBegin
  rw [if_neg (by rw [show s.regBit Reg.PD_PENDING d = false from hp]; decide), if_neg (by rw [show bit s.sup.pdStart d = false from hs]; decide),
    if_pos (show s.regBit Reg.PD_ON d = true from ho)]

/-- What a switch-off makes of a domain: a held enable is dropped, a start is held to stop again, a domain that is on switches off. -/
theorem pdOffBegin_spec (d : Nat) (s : State) :
    ((pdView d s).pending = true → (pdView d (pdOffBegin d s)).pending = false) ∧
    ((pdView d s).pending = false → (pdView d s).start = true → (pdView d (pdOffBegin d s)).dis = true) ∧
    ((pdView d s).pending = false → (pdView d s).start = false → (pdView d s).on = true →
      (pdView d (pdOffBegin d s)).on = false ∧ (pdView d (pdOffBegin d s)).stop = true) := by
  refine ⟨fun hp => ?_, fun hp hs => ?_, fun hp hs ho => ?_⟩
  · unfold pdOffBegin
    rw [if_pos (show s.regBit Reg.PD_PENDING d = true from hp)]
    exact (regBit_setRegBit ..).trans (if_pos rfl)
  · unfold pdOffBegin
    rw [if_neg (by rw [show s.regBit Reg.PD_PENDING d = false from hp]; decide), if_pos (show bit s.sup.pdStart d = true from hs)]
    exact (bit_setBit ..).trans (if_pos rfl)
  · rw [pdOffBegin_of_on hp hs ho, pdView_pdShutdown, if_pos rfl]
    exact ⟨rfl, rfl⟩

/-! ## The start of a domain completes (R390) -/

/-- A domain whose start completes is on and no longer starting; where a switch-off was held it stops at once. -/
theorem pdView_pdOnDone (d : Nat) (s : State) : pdView d (pdOnDone d s) =
    if bit s.sup.pdDis d then ⟨false, s.regBit Reg.PD_PENDING d, false, true, false⟩
    else ⟨true, s.regBit Reg.PD_PENDING d, false, bit s.sup.pdStop d, false⟩ := by
  rw [pdOnDone_eq]
  dsimp only
  generalize hw : State.setRegBit { s with sup := { s.sup with pdStart := setBit s.sup.pdStart d false } } Reg.PD_ON d true = w
  have hv : pdView d w = ⟨true, s.regBit Reg.PD_PENDING d, false, bit s.sup.pdStop d, bit s.sup.pdDis d⟩ := by
    have hon : w.regBit Reg.PD_ON d = true := by rw [← hw, regBit_setRegBit, if_pos rfl]
    have hpend : w.regBit Reg.PD_PENDING d = s.regBit Reg.PD_PENDING d := by rw [← hw, regBit_setRegBit_other _ _ _ (by decide)]; rfl
    have hsup : w.sup = { s.sup with pdStart := setBit s.sup.pdStart d false } := by rw [← hw]; rfl
    unfold pdView
    rw [hon, hpend, hsup, bit_setBit, if_pos rfl]
  split
  · rw [pdView_pdShutdown, if_pos rfl]
    have hd : bit (setBit w.sup.pdDis d false) d = false := (bit_setBit ..).trans (if_pos rfl)
    show PdView.mk false (pdView d w).pending (pdView d w).start true (bit (setBit w.sup.pdDis d false) d) = _
    rw [hd, hv]
  · next hn => rw [pdView_of_supKept (supKept_pdBlocksOn d w), hv, Bool.eq_false_iff.2 hn]

end Sys2Proof.Machine
end

section
/-!
Power domains, standby, the budget arbiter and the core-voltage step (O46).
-/

namespace Sys2Proof

open Machine

variable (s : State) (t : Instant)

/-! ## Requests (R28, R389) -/

theorem pdSwitchOn_refused (mask : BitVec 12) (h : s.pdReqBad (s.reg Reg.PD_REQ ||| mask.toNat)) :
    Completes (.pdSwitchOn mask) s (· = s.setReg Reg.PD_REFUSED (s.reg Reg.PD_REQ ^^^ (s.reg Reg.PD_REQ ||| mask.toNat))) :=
  ⟨_, rfl, actPdReq_refused h⟩

theorem pdSwitchOff_refused (mask : BitVec 12) (h : s.pdReqBad (clearMask (s.reg Reg.PD_REQ) mask.toNat)) :
    Completes (.pdSwitchOff mask) s (· = s.setReg Reg.PD_REFUSED (s.reg Reg.PD_REQ ^^^ clearMask (s.reg Reg.PD_REQ) mask.toNat)) :=
  ⟨_, rfl, actPdReq_refused h⟩

theorem pdSwitchOn_granted (mask : BitVec 12) (h : ¬s.pdReqBad (s.reg Reg.PD_REQ ||| mask.toNat)) :
    let on := s.reg Reg.PD_REQ ||| mask.toNat
    Completes (.pdSwitchOn mask) s fun u => u.reg Reg.PD_REQ = on ∧
      (∀ x, x < 12 → bit (s.reg Reg.PD_REQ ^^^ on) x = true → bit s.sup.pdStop x = false → s.regBit Reg.PD_ON x = false →
        bit s.sup.pdStart x = false → bit u.sup.pdStart x = true) ∧ PartsKept [.free, .regs, .mem, .lanes, .filt, .memo, .recs, .sup] s u := by
  intro on
  refine Completes.ofKeeps (execPdSwitchOn_keeps mask s) rfl fun hk => ?_
  obtain ⟨hreq, hdom⟩ := actPdReq_spec h
  refine ⟨hreq, fun x hx hd h1 h2 h3 => ?_, hk.partsKept_of⟩
  obtain ⟨w, hw, he⟩ := hdom x hx hd
  refine (congrArg PdView.start he).trans ?_
  rw [pdRequest, if_pos (bit_or_of_changed hd)]
  exact pdOnBegin_starts (by rw [hw]; exact ⟨h1, h3, h2⟩)

theorem pdSwitchOff_granted (mask : BitVec 12) (h : ¬s.pdReqBad (clearMask (s.reg Reg.PD_REQ) mask.toNat)) :
    let off := clearMask (s.reg Reg.PD_REQ) mask.toNat
    Completes (.pdSwitchOff mask) s fun u => u.reg Reg.PD_REQ = off ∧ ∀ x, x < 12 → bit (s.reg Reg.PD_REQ ^^^ off) x = true →
      (s.regBit Reg.PD_PENDING x = true → u.regBit Reg.PD_PENDING x = false) ∧
      (s.regBit Reg.PD_PENDING x = false → bit s.sup.pdStart x = true → bit u.sup.pdDis x = true) ∧
      (s.regBit Reg.PD_PENDING x = false → bit s.sup.pdStart x = false → s.regBit Reg.PD_ON x = true →
        u.regBit Reg.PD_ON x = false ∧ bit u.sup.pdStop x = true) := by
  intro off
  obtain ⟨hreq, hdom⟩ := actPdReq_spec h
  refine ⟨_, rfl, hreq, fun x hx hd => ?_⟩
  obtain ⟨w, hw, he⟩ := hdom x hx hd
  rw [pdRequest, if_neg (by rw [(bit_clearMask_of_changed hd).2]; decide)] at he
  have hv := pdOffBegin_spec x w
  rw [hw, ← he] at hv
  exact hv

/-- A switch-off of one domain alone: the one changed domain. -/
theorem bitsOf_clearMask_single {v x : Nat} (hx : x ∈ [3, 4, 5, 10]) (hv : bit v x = true) :
    bitsOf 12 (v ^^^ clearMask v (1#12 <<< x).toNat) = [x] := by
  have hm : (1#12 <<< x).toNat = 2 ^ x := by
    simp only [List.mem_cons, List.not_mem_nil, or_false] at hx
    obtain rfl | rfl | rfl | rfl := hx <;> rfl
  have hb : ∀ d, bit (v ^^^ clearMask v (1#12 <<< x).toNat) d = decide (x = d) := fun d => by
    rw [bit_eq_testBit, Nat.testBit_xor, testBit_clearMask, hm, Nat.testBit_two_pow]
    by_cases h : x = d
    · rw [bit_eq_testBit, h] at hv; simp [h, hv]
    · simp [h]
  unfold bitsOf
  rw [show (fun d => bit (v ^^^ clearMask v (1#12 <<< x).toNat) d) = fun d => decide (x = d) from funext hb]
  simp only [List.mem_cons, List.not_mem_nil, or_false] at hx
  obtain rfl | rfl | rfl | rfl := hx <;> decide

theorem pdBlocksOff_of_plain {d : Nat} (hd : d ∈ [3, 4, 5, 10]) (s : State) : pdBlocksOff d s = s := by
  simp only [List.mem_cons, List.not_mem_nil, or_false] at hd
  obtain rfl | rfl | rfl | rfl := hd <;> rfl

theorem pdSwitchOff_single {x : Nat} (hx : x ∈ [3, 4, 5, 10]) (hr : bit (s.reg Reg.PD_REQ) x = true) (hf : s.pdOffRefused x = false)
    (hp : s.regBit Reg.PD_PENDING x = false) (hs : bit s.sup.pdStart x = false) (ho : s.regBit Reg.PD_ON x = true) :
    Completes (.pdSwitchOff (1#12 <<< x)) s fun u => bit (u.reg Reg.PD_REQ) x = false ∧ u.regBit Reg.PD_ON x = false ∧
      bit u.sup.pdStop x = true ∧ RegsKept [Reg.PD_REQ, Reg.PD_ON] s u ∧ PartsKept [.regs, .sup] s u := by
  have hbits := bitsOf_clearMask_single hx hr
  have hsw : x ∈ pdSwitched := by
    simp only [List.mem_cons, List.not_mem_nil, or_false] at hx
    obtain rfl | rfl | rfl | rfl := hx <;> decide
  obtain ⟨hx12, hd⟩ := mem_bitsOf.1 (hbits ▸ List.mem_singleton_self x)
  have hbad : ¬s.pdReqBad (clearMask (s.reg Reg.PD_REQ) (1#12 <<< x).toNat) := by
    rw [pdReqBad_off]
    rintro ⟨d, hd12, hdiff, h⟩
    obtain rfl := List.mem_singleton.1 (hbits ▸ mem_bitsOf.2 ⟨hd12, hdiff⟩)
    obtain h | h := h
    · exact h hsw
    · exact absurd (hf.symm.trans h) (by decide)
  have hoff := (bit_clearMask_of_changed hd).2
  obtain ⟨w, hw⟩ : ∃ w, w = s.setReg Reg.PD_REQ (clearMask (s.reg Reg.PD_REQ) (1#12 <<< x).toNat) := ⟨_, rfl⟩
  have hact : (actPdReq (clearMask (s.reg Reg.PD_REQ) (1#12 <<< x).toNat) s).1 = pdShutdown x w := by
    rw [actPdReq_granted hbad, hbits, ← hw]
    have hv : pdView x w = pdView x s := hw ▸ pdView_setReg _ x s (by decide) (by decide)
    show pdRequest _ x w = _
    rw [pdRequest, if_neg (by rw [hoff]; decide)]
    exact pdOffBegin_of_on (by rw [hv]; exact hp) (by rw [hv]; exact hs) (by rw [hv]; exact ho)
  refine ⟨_, rfl, ?_⟩
  rw [hact]
  have hview := pdView_pdShutdown x x w
  rw [if_pos rfl] at hview
  refine ⟨?_, congrArg PdView.on hview, congrArg PdView.stop hview, ?_⟩
  · rw [reg_PD_REQ_pdShutdown, hw, reg_setReg_self]; exact hoff
  · rw [pdShutdown_eq, pdBlocksOff_of_plain hx]
    have hregs : RegsKept [Reg.PD_REQ, Reg.PD_ON] s (w.setRegBit Reg.PD_ON x false) :=
      RegsKept.step (t := w) (by rw [hw]; exact (regsKept_refl s _).step (by simp)) (by simp)
    refine ⟨hregs, ?_⟩
    have hk : Keeps 67108872 s (w.setRegBit Reg.PD_ON x false) :=
      ((hw ▸ State.setReg_keeps s _ _ : Keeps 8 s w).trans (State.setRegBit_keeps ..)).mono (by decide)
    obtain ⟨hq, hparts⟩ := hk.partsKept_of (ps := [.regs, .sup])
    exact ⟨hq, fun p hp => by have := hparts p hp; revert hp this; cases p <;> simp [Part.Same]⟩


/-! ## The start of a domain completes (R390) -/

theorem pdOnComplete_idle (d : Fin 12) (h : bit s.sup.pdStart d = false) : Completes (.pdOnComplete d t) s (· = s) :=
  ⟨s, if_neg (by rw [h]; decide), rfl⟩

theorem exec_pdOnComplete (d : Fin 12) (h : bit s.sup.pdStart d = true) : exec (.pdOnComplete d t) s = .next (pdOnDone d (s.advance t)) := if_pos h

theorem pdOnComplete_view (d : Fin 12) (h : bit s.sup.pdStart d = true) :
    Completes (.pdOnComplete d t) s fun u => bit u.sup.pdStart d = false ∧ bit u.sup.pdDis d = false ∧
      u.regBit Reg.PD_ON d = !bit s.sup.pdDis d ∧ (bit s.sup.pdDis d = true → bit u.sup.pdStop d = true) := by
  refine ⟨_, exec_pdOnComplete s t d h, ?_⟩
  have hv := pdView_pdOnDone d (s.advance t)
  rw [show (s.advance t).sup = s.sup from rfl] at hv
  cases hd : bit s.sup.pdDis d <;> simp only [hd, Bool.false_eq_true, if_true, if_false] at hv
  · exact ⟨congrArg PdView.start hv, congrArg PdView.dis hv, congrArg PdView.on hv, nofun⟩
  · exact ⟨congrArg PdView.start hv, congrArg PdView.dis hv, congrArg PdView.on hv, fun _ => congrArg PdView.stop hv⟩

/-- A domain is on, before its blocks start. -/
def pdNowOn (d : Nat) (s : State) : State :=
  State.setRegBit { s with sup := { s.sup with pdStart := setBit s.sup.pdStart d false } } Reg.PD_ON d true

theorem pdOnDone_of_wanted {d : Nat} {s : State} (h : bit s.sup.pdDis d = false) : pdOnDone d s = pdBlocksOn d (pdNowOn d s) := by
  rw [pdOnDone_eq]
  exact if_neg (by rw [h]; decide)

theorem pdNowOn_spec (d : Nat) (s : State) : (pdNowOn d s).regBit Reg.PD_ON d = true ∧ RegsKept [Reg.PD_ON] s (pdNowOn d s) := by
  obtain ⟨w, hw⟩ : ∃ w, w = { s with sup := { s.sup with pdStart := setBit s.sup.pdStart d false } } := ⟨_, rfl⟩
  have e : pdNowOn d s = w.setRegBit Reg.PD_ON d true := by rw [hw]; rfl
  rw [e, regBit_setRegBit, if_pos rfl]
  exact ⟨rfl, RegsKept.step (t := w) (RegsKept.of_regs (by rw [hw])) (by simp)⟩

theorem pdNowOn_advance_keeps (d : Nat) : Keeps 67108873 s (pdNowOn d (s.advance t)) := by
  refine Keeps.trans ((State.advance_keeps s t).mono (by decide)) ?_
  refine Keeps.trans (b := { s.advance t with sup := { s.sup with pdStart := setBit s.sup.pdStart d false } }) ?_
    ((State.setRegBit_keeps ..).mono (by decide))
  exact ⟨rfl, Nat.le_refl _, List.suffix_refl _, id, id, fun p hp => by
    cases p <;> first | rfl | exact ⟨rfl, rfl⟩ | exact absurd hp (by decide)⟩

/-- A domain without further blocks: PD_ON rises, nothing else happens. -/
theorem pdOnComplete_plain (d : Fin 12) (h : bit s.sup.pdStart d = true) (hd : bit s.sup.pdDis d = false)
    (hb : d.val = 4 ∨ d.val = 5 ∧ s.reg Reg.ADC_EN ≠ 1) : Completes (.pdOnComplete d t) s fun u =>
      u.regBit Reg.PD_ON d = true ∧ bit u.sup.pdStart d = false ∧ RegsKept [Reg.PD_ON] s u ∧ PartsKept [.now, .regs, .sup] s u := by
  obtain ⟨hon, hregs⟩ := pdNowOn_spec d (s.advance t)
  have hblocks : pdBlocksOn d (pdNowOn d (s.advance t)) = pdNowOn d (s.advance t) := by
    obtain h4 | ⟨h5, ha⟩ := hb
    · rw [h4]; rfl
    · have : (pdNowOn d (s.advance t)).reg Reg.ADC_EN ≠ 1 := by
        rw [hregs Reg.ADC_EN (by decide)]
        exact ha
      rw [h5] at this ⊢
      exact if_neg this
  refine ⟨_, exec_pdOnComplete s t d h, ?_⟩
  rw [pdOnDone_of_wanted (s := s.advance t) hd, hblocks]
  exact ⟨hon, (bit_setBit ..).trans (if_pos rfl), fun j hj => hregs j hj, (pdNowOn_advance_keeps s t d).partsKept_of⟩

theorem pdOnComplete_drivers (d : Fin 12) (h10 : d.val = 10) (h : bit s.sup.pdStart d = true) (hd : bit s.sup.pdDis d = false) :
    Completes (.pdOnComplete d t) s fun u => u.regBit Reg.PD_ON d = true ∧
      ∃ w, u = driversStart (driversUv (decide (s.reg Reg.VDRV ≤ 9500)) w) ∧ RegsKept [Reg.PD_ON] s w ∧ PartsKept [.now, .regs, .sup] s w := by
  obtain ⟨hon, hregs⟩ := pdNowOn_spec d (s.advance t)
  have hblocks : pdBlocksOn d (pdNowOn d (s.advance t)) =
      driversStart (driversUv (decide (s.reg Reg.VDRV ≤ 9500)) (pdNowOn d (s.advance t))) := by
    rw [show s.reg Reg.VDRV = (pdNowOn d (s.advance t)).reg Reg.VDRV from (hregs Reg.VDRV (by decide)).symm, h10]
    rfl
  refine ⟨_, exec_pdOnComplete s t d h, ?_⟩
  rw [pdOnDone_of_wanted (s := s.advance t) hd]
  refine ⟨?_, pdNowOn d (s.advance t), hblocks, fun j hj => hregs j hj, (pdNowOn_advance_keeps s t d).partsKept_of⟩
  rw [regBit_of_reg d ((supKept_pdBlocksOn d _).low Reg.PD_ON (by decide)), hon]

/-! ## Undervoltage of the drivers (R225) -/

/-- One local driver takes the undervoltage mark. -/
def ldUvStep (uv : Bool) (n : Nat) (s : State) : State :=
  let s := s.setFlag (Reg.LD_STATUS n) F.LD_STATUS_VDRV_UV uv
  if uv then ldApply n s.now (s.setFlag (Reg.LD_STATUS n) F.LD_STATUS_BST_WAIT false)
  else if (s.ld n).run && !s.flag (Reg.LD_STATUS n) F.LD_STATUS_LATCHED then ldStart n s.now s else s

/-- One static switch driver takes it. -/
def sdUvStep (uv : Bool) (n : Nat) (s : State) : State :=
  let s := s.setFlag (Reg.SD_STATUS n) F.SD_STATUS_VDRV_UV uv
  if uv then sdApply n ((s.setSd n { s.sd n with pump := false }).setFlag (Reg.SD_STATUS n) F.SD_STATUS_CP_OK false)
  else if (s.sd n).run && !s.flag (Reg.SD_STATUS n) F.SD_STATUS_LATCHED then sdStart n s else s

theorem driversUv_eq (uv : Bool) : driversUv uv s = (s.forEach (List.range 8) (ldUvStep uv)).forEach (List.range 4) (sdUvStep uv) := rfl

theorem LD_STATUS_injective {i n : Nat} (h : i ≠ n) : Reg.LD_STATUS i ≠ Reg.LD_STATUS n := by simp only [Reg.LD_STATUS, Reg.key]; omega

/-- What applying a local driver's outputs can do: it moves the driver, and may show SHOOT. -/
theorem ldApply_cases (n : Nat) (at_ : Instant) : ∃ x, ldApply n at_ s = s.setLd n x ∨
    ldApply n at_ s = (s.setLd n x).setFlag (Reg.LD_STATUS n) F.LD_STATUS_SHOOT true := by
  obtain ⟨x, c, h⟩ : ∃ x, ∃ c : Bool, ldApply n at_ s =
      if c then (s.setLd n x).setFlag (Reg.LD_STATUS n) F.LD_STATUS_SHOOT true else s.setLd n x := ⟨_, _, rfl⟩
  cases c
  · exact ⟨x, .inl h⟩
  · exact ⟨x, .inr h⟩

theorem ldApply_reg_other (n : Nat) (at_ : Instant) {j : Nat} (h : j ≠ Reg.LD_STATUS n) : (ldApply n at_ s).reg j = s.reg j := by
  obtain ⟨x, e | e⟩ := ldApply_cases s n at_ <;> rw [e]
  · rfl
  · exact reg_setFlag_other _ _ _ h

theorem ldApply_uv (n : Nat) (at_ : Instant) :
    (ldApply n at_ s).flag (Reg.LD_STATUS n) F.LD_STATUS_VDRV_UV = s.flag (Reg.LD_STATUS n) F.LD_STATUS_VDRV_UV := by
  obtain ⟨x, e | e⟩ := ldApply_cases s n at_ <;> rw [e]
  · rfl
  · exact congrArg (· == 1) (fld_setFld_disjoint _ _ _ (by decide))

theorem ldStart_reg_other (n : Nat) (at_ : Instant) {j : Nat} (h : j ≠ Reg.LD_STATUS n) : (ldStart n at_ s).reg j = s.reg j := by
  unfold ldStart
  exact (ldApply_reg_other _ n at_ h).trans (reg_setFlag_other _ _ _ h)

theorem ldStart_uv (n : Nat) (at_ : Instant) :
    (ldStart n at_ s).flag (Reg.LD_STATUS n) F.LD_STATUS_VDRV_UV = s.flag (Reg.LD_STATUS n) F.LD_STATUS_VDRV_UV := by
  unfold ldStart
  exact (ldApply_uv _ n at_).trans (congrArg (· == 1) (fld_setFld_disjoint _ _ _ (by decide)))

theorem ldUvStep_reg_other (uv : Bool) (n : Nat) {j : Nat} (h : j ≠ Reg.LD_STATUS n) : (ldUvStep uv n s).reg j = s.reg j := by
  have h1 := reg_setFlag_other s F.LD_STATUS_VDRV_UV uv h
  unfold ldUvStep
  dsimp only
  split
  · rw [ldApply_reg_other _ _ _ h, reg_setFlag_other _ _ _ h, h1]
  · split
    · rw [ldStart_reg_other _ _ _ h, h1]
    · exact h1

theorem ldUvStep_uv (uv : Bool) (n : Nat) : (ldUvStep uv n s).flag (Reg.LD_STATUS n) F.LD_STATUS_VDRV_UV = uv := by
  have h1 := flag_setFlag_self s (Reg.LD_STATUS n) F.LD_STATUS_VDRV_UV uv (by decide)
  unfold ldUvStep
  dsimp only
  split
  · exact (ldApply_uv _ _ _).trans ((congrArg (· == 1) (fld_setFld_disjoint _ _ _ (by decide))).trans h1)
  · split
    · rw [ldStart_uv, h1]
    · exact h1

theorem sdUvStep_reg_other (uv : Bool) (n : Nat) {j : Nat} (h : j ≠ Reg.SD_STATUS n) : (sdUvStep uv n s).reg j = s.reg j := by
  have h1 := reg_setFlag_other s F.SD_STATUS_VDRV_UV uv h
  unfold sdUvStep sdStart sdApply
  dsimp only
  split
  · rw [reg_setFlag_other _ _ _ h, reg_setFlag_other _ _ _ h]; exact h1
  · split
    · rw [reg_setFlag_other _ _ _ h]; exact h1
    · exact h1

theorem driversUv_flag (uv : Bool) (j : Fin 8) : (driversUv uv s).flag (Reg.LD_STATUS j) F.LD_STATUS_VDRV_UV = uv := by
  rw [driversUv_eq]
  have hsd : ∀ u : State, (u.forEach (List.range 4) (sdUvStep uv)).reg (Reg.LD_STATUS j) = u.reg (Reg.LD_STATUS j) := fun u =>
    forEach_frame (fun u => u.reg (Reg.LD_STATUS j)) _ _ (fun n u => sdUvStep_reg_other u uv n
      (by have := j.isLt; simp only [Reg.LD_STATUS, Reg.SD_STATUS, Reg.key]; omega)) u
  obtain ⟨w, -, -, he⟩ := forEach_view_mem (fun i u => u.reg (Reg.LD_STATUS i)) (fun _ => ())
    (fun n i u h => ldUvStep_reg_other u uv n (LD_STATUS_injective h)) (fun _ _ => rfl) List.nodup_range (List.mem_range.2 j.isLt) s
  rw [flag_of_reg _ ((hsd _).trans he), ldUvStep_uv]

theorem pdOffDone_of_flushes (d : Nat) (h : s.pdFlushes d = true) : pdOffDone d s = s := by
  unfold pdOffDone
  rw [if_pos (by rw [h, Bool.or_true])]

/-! ## Standby (R391) -/

theorem standby_refused (h : s.mode ≠ mBASECAMP ∨ s.reg Reg.J_PENDING ≠ 0 ∨ s.sup.standbyAt.isSome = true) :
    Completes .standby s (· = s.setReg Reg.STANDBY 3) :=
  ⟨_, rfl, congrArg Prod.fst (if_pos h)⟩

theorem dramSleep_spec : (dramSleep s).memo.kept = true ∧ (dramSleep s).flag Reg.DRAM_STATUS F.DRAM_STATUS_SELF_REFRESH = true :=
  ⟨rfl, flag_setFlag_self _ _ _ _ (by decide)⟩

theorem standby_enters (hm : s.mode = mBASECAMP) (hj : s.reg Reg.J_PENDING = 0) (hs : s.sup.standbyAt = none) :
    Completes .standby s fun u => u.sup.standbyAt = some s.now ∧ u.clk.rtc = s.time64At s.now ∧ u.memo.kept = true ∧
      u.flag Reg.DRAM_STATUS F.DRAM_STATUS_SELF_REFRESH = true ∧ PartsKept [.free, .regs, .mram, .memo, .clk, .sup] s u := by
  refine Completes.ofKeeps (execStandby_keeps s) rfl fun hk => ?_
  have hact : (actStandby s).1 = _ := congrArg Prod.fst (if_neg (by rw [hm, hj, hs]; simp))
  rw [hact] at hk ⊢
  have hw : Keeps 2359308 s (dramSleep (storeCodes (s.bump Reg.STANDBY_COUNT))) :=
    (((State.bump_keeps s _).mono (by decide)).trans ((storeCodes_keeps _).mono (by decide))).trans ((dramSleep_keeps _).mono (by decide))
  have hsr := dramSleep_spec (storeCodes (s.bump Reg.STANDBY_COUNT))
  generalize dramSleep (storeCodes (s.bump Reg.STANDBY_COUNT)) = w at hw hsr hk
  have hnow : w.now = s.now := hw.parts .now (by decide)
  have hep : w.epoch = s.epoch := hw.parts .epoch (by decide)
  refine ⟨congrArg some hnow, ?_, hsr.1, hsr.2, hk.partsKept_of⟩
  show (w.now + w.epoch) % 2 ^ 96 / 2 ^ 32 = (s.now + s.epoch) % 2 ^ 96 / 2 ^ 32
  rw [hnow, hep]

/-! ## The budget arbiter (R393 to R395) -/

theorem tokensFor_le {avail per : Rat} {r : Nat} (ha : 0 ≤ avail) (hp : 0 < per) :
    tokensFor avail per r ≤ r ∧ (tokensFor avail per r : Rat) * per ≤ avail := by
  unfold tokensFor
  rw [if_neg (not_le.2 hp)]
  refine ⟨Nat.min_le_left _ _, ?_⟩
  have hq : 0 ≤ avail / per := div_nonneg ha hp.le
  have hf : ((avail / per).floor.toNat : Rat) ≤ avail / per := by
    have h0 : 0 ≤ (avail / per).floor := Rat.le_floor_iff.2 (by simpa using hq)
    have h1 : (((avail / per).floor.toNat : Int) : Rat) = (avail / per).floor := by rw [Int.toNat_of_nonneg h0]
    calc ((avail / per).floor.toNat : Rat) = (avail / per).floor := by exact_mod_cast h1
      _ ≤ avail / per := Rat.floor_le _
  calc ((min r (avail / per).floor.toNat : Nat) : Rat) * per
      ≤ ((avail / per).floor.toNat : Rat) * per := by gcongr; exact_mod_cast Nat.min_le_right _ _
    _ ≤ avail / per * per := by gcongr
    _ = avail := div_mul_cancel₀ _ hp.ne'

end Sys2Proof
end

section
/-!
The budget arbiter's evaluation and the core-voltage step, and the statement that closes O46.
-/

namespace Sys2Proof

open Machine

variable (s : State) (t : Instant)

/-! ## The arbiter's evaluation (R393 to R395) -/

/-- The time throttled so far as THROTTLE_MS shows it. -/
def showThrottled (n : Nat) (s : State) : State :=
  if n < 2 ^ 32 then s.setReg Reg.THROTTLE_MS n else (s.setReg Reg.THROTTLE_MS (s.freeVal 32)).useFree

/-- What the evaluation records first: when it ran, the time throttled so far and what was measured. -/
def arbMeasured (fixedMw powerMw : BitVec 16) (s : State) : State :=
  let sum := s.sup.throttled + (if s.reg Reg.THROTTLE != 0 then s.now - s.sup.arbAt else 0)
  (showThrottled (sum / ms 1) { s with sup := { s.sup with arbAt := s.now, throttled := sum, fixedMw := fixedMw.toNat } }).setReg
    Reg.POWER_MEAS powerMw.toNat

/-- What it commits to, and whether the budget pays for it. -/
def arbPriced (commit avail : Rat) (s : State) : State :=
  let s := setOpen Reg.POWER_COMMIT 16 false commit s
  if avail < 0 then s.setFlag Reg.SUP_STATUS F.SUP_STATUS_OVER_BUDGET true else s

theorem showThrottled_spec (n : Nat) : (showThrottled n s).sup = s.sup ∧ (showThrottled n s).reg Reg.SUP_STATUS = s.reg Reg.SUP_STATUS := by
  unfold showThrottled
  split
  · exact ⟨rfl, reg_setReg_other _ _ (by decide)⟩
  · exact ⟨rfl, reg_setReg_other _ _ (by decide)⟩

theorem arbMeasured_spec (fixedMw powerMw : BitVec 16) : (arbMeasured fixedMw powerMw s).reg Reg.POWER_MEAS = powerMw.toNat ∧
    (arbMeasured fixedMw powerMw s).sup.fixedMw = fixedMw.toNat ∧ (arbMeasured fixedMw powerMw s).sup.arbAt = s.now ∧
    (arbMeasured fixedMw powerMw s).reg Reg.SUP_STATUS = s.reg Reg.SUP_STATUS := by
  unfold arbMeasured
  obtain ⟨hsup, hstatus⟩ := showThrottled_spec _ _
  exact ⟨reg_setReg_self .., congrArg (·.fixedMw) hsup, congrArg (·.arbAt) hsup, (reg_setReg_other _ _ (by decide)).trans hstatus⟩

theorem setOpen_reg_other (k w : Nat) (signed : Bool) (q : Rat) {j : Nat} (h : j ≠ k) : (setOpen k w signed q s).reg j = s.reg j := by
  have hr : (s.openRound q).2.reg j = s.reg j := by unfold State.openRound; split <;> rfl
  have hite : ∀ (c : Prop) [Decidable c] (x y : Nat) (u : State),
      (if c then u.setReg k x else (u.setReg k y).useFree).reg j = u.reg j := fun c _ x y u => by
    split
    · exact reg_setReg_other _ _ h
    · exact reg_setReg_other _ _ h
  exact (hite _ _ _ _).trans hr

theorem setOpen_sup (k w : Nat) (signed : Bool) (q : Rat) : (setOpen k w signed q s).sup = s.sup :=
  (setOpen_keeps k w signed q s).parts .sup (by decide)

theorem arbPriced_spec (commit avail : Rat) : (arbPriced commit avail s).reg Reg.POWER_MEAS = s.reg Reg.POWER_MEAS ∧
    (arbPriced commit avail s).sup = s.sup ∧
    (arbPriced commit avail s).flag Reg.SUP_STATUS F.SUP_STATUS_TJ_HOT = s.flag Reg.SUP_STATUS F.SUP_STATUS_TJ_HOT := by
  have hmeas := setOpen_reg_other s Reg.POWER_COMMIT 16 false commit (j := Reg.POWER_MEAS) (by decide)
  have hsup := setOpen_sup s Reg.POWER_COMMIT 16 false commit
  have hhot := flag_of_reg F.SUP_STATUS_TJ_HOT (setOpen_reg_other s Reg.POWER_COMMIT 16 false commit (j := Reg.SUP_STATUS) (by decide))
  unfold arbPriced
  dsimp only
  split
  · exact ⟨(reg_setFlag_other _ _ _ (by decide)).trans hmeas, hsup, (congrArg (· == 1) (fld_setFld_disjoint _ _ _ (by decide))).trans hhot⟩
  · exact ⟨hmeas, hsup, hhot⟩

/-- An evaluation ends in a throttle mask; while the die is hot it is the mask of every rank. -/
theorem exec_arbiterEvaluate (fixedMw powerMw : BitVec 16) (ctl bg : List Nat) :
    ∃ commit avail x, exec (.arbiterEvaluate fixedMw powerMw ctl bg t) s =
        .next (throttle x (arbPriced commit avail (arbMeasured fixedMw powerMw (s.advance t))).useFree) ∧
      ((arbPriced commit avail (arbMeasured fixedMw powerMw (s.advance t))).flag Reg.SUP_STATUS F.SUP_STATUS_TJ_HOT = true → x = 0x3E) :=
  ⟨_, _, _, rfl, fun h => if_pos h⟩

theorem arbiterEvaluate_records (fixedMw powerMw : BitVec 16) (ctl bg : List Nat) :
    Completes (.arbiterEvaluate fixedMw powerMw ctl bg t) s fun u => (∃ x w, u = throttle x w ∧ w.reg Reg.POWER_MEAS = powerMw.toNat ∧
      w.sup.fixedMw = fixedMw.toNat ∧ w.sup.arbAt = (s.advance t).now ∧ (s.flag Reg.SUP_STATUS F.SUP_STATUS_TJ_HOT = true → x = 0x3E)) ∧
      PartsKept [.now, .free, .regs, .mem, .lanes, .words, .filt, .memo, .recs, .sup] s u := by
  obtain ⟨commit, avail, x, he, hx⟩ := exec_arbiterEvaluate s t fixedMw powerMw ctl bg
  refine Completes.ofKeeps (execArbiterEvaluate_keeps fixedMw powerMw ctl bg t s) he fun hk => ⟨?_, hk.partsKept_of⟩
  obtain ⟨hmeas, hfixed, hat, hstatus⟩ := arbMeasured_spec (s.advance t) fixedMw powerMw
  obtain ⟨hmeas', hsup, hhot⟩ := arbPriced_spec (arbMeasured fixedMw powerMw (s.advance t)) commit avail
  refine ⟨x, _, rfl, hmeas'.trans hmeas, (congrArg (·.fixedMw) hsup).trans hfixed, (congrArg (·.arbAt) hsup).trans hat, fun h => hx ?_⟩
  rw [hhot, flag_of_reg _ hstatus]
  exact h

/-! ## Tokens of the lower ranks (R394) -/

theorem tokensFor_zero {per : Rat} (req : Nat) (h : 0 < per) : tokensFor 0 per req = 0 := by
  rw [tokensFor, if_neg (not_le.2 h), zero_div, show (0 : Rat).floor.toNat = 0 by rfl, Nat.min_zero]

/-- One rank of the background takes its tokens: the power left, and the mask of the ranks that get none. -/
def grantStep (req : Nat → Nat) (per : Nat → Rat) (r : Rat × Nat) (rank : Nat) : Rat × Nat :=
  let got := tokensFor r.1 (per rank) (req rank)
  (r.1 - got * per rank, if req rank ≠ 0 ∧ got = 0 then setBit r.2 rank true else r.2)

/-- With no power left, the ranks marked are those that request. -/
theorem foldl_grantStep_zero {req : Nat → Nat} {per : Nat → Rat} (hp : ∀ n, 0 < per n) {x : Nat} (hx : req x ≠ 0) (l : List Nat) (m : Nat) :
    x ∈ l ∨ bit m x = true → bit (l.foldl (grantStep req per) (0, m)).2 x = true := by
  induction l generalizing m with
  | nil => exact fun h => h.resolve_left (by simp)
  | cons n l ih =>
    intro h
    have hstep : grantStep req per (0, m) n = (0, if req n ≠ 0 then setBit m n true else m) := by
      simp [grantStep, tokensFor_zero _ (hp n)]
    rw [List.foldl_cons, hstep]
    refine ih _ ?_
    obtain h | h := h
    · obtain rfl | h := List.mem_cons.1 h
      · exact .inr (by rw [if_pos hx, bit_setBit, if_pos rfl])
      · exact .inl h
    · refine .inr ?_
      split
      · rw [bit_setBit, h, ite_self]
      · exact h

theorem grantBackground_zero (bg : List Nat) {a b : Rat} (ha : 0 < a) (hb : 0 < b) {x : Nat} (h1 : 1 ≤ x) (h5 : x ≤ 5)
    (hreq : min (s.rankMost x) (listGet 0 bg (5 - x)) ≠ 0) : bit (s.grantBackground bg 0 a b) x = true :=
  foldl_grantStep_zero (req := fun n => min (s.rankMost n) (listGet 0 bg (5 - n))) (per := fun n => if n = 3 then b else a)
    (fun n => by split <;> assumption) hreq [5, 4, 3, 2, 1] 0
    (.inl (by simp only [List.mem_cons, List.not_mem_nil, or_false]; omega))

/-! ## The core-voltage step (R396) -/

/-- The state in which a step is decided: the time, and since when the margin is more than 5 % high. -/
def vidReady (s : State) : State :=
  let low := sinceWhen s.sup.lowSince s.now (decide (s.stepMeas * 100 * 100 < s.reg Reg.STEP_SLOW * (100 - s.reg Reg.GUARD_PCT) * 95))
  { s with sup := { s.sup with lowSince := low } }

/-- The guard is lost at the highest voltage, and past `slow` the die is at its slow corner. -/
def vidLost (slow : Nat) (s : State) : State :=
  let u := s.setFlag Reg.SUP_STATUS F.SUP_STATUS_GUARD_LOST true
  if u.reg Reg.STEP_SLOW * 100 < slow then u.setFlag Reg.SUP_STATUS F.SUP_STATUS_SLOW_CORNER true else u

theorem vidStep_idle (h : s.phase ≠ .running ∨ t < s.sup.vidAt + ms 1) : Completes (.vidStep t) s (· = s) :=
  ⟨s, if_pos h, rfl⟩

/-- A step that is due, by where the voltage and the margin stand. -/
theorem exec_vidStep (hr : s.phase = .running) (hd : s.sup.vidAt + ms 1 ≤ t) :
    let m := s.advance t
    let v := s.reg Reg.VDD_CHOSEN
    exec (.vidStep t) s =
      if v < s.reg Reg.VDD_FLOOR && decide (v + 10 ≤ s.reg Reg.VDD_MAX) then .next (vidMove true (vidReady m))
      else if s.reg Reg.VDD_MAX < v then .next (vidMove false (vidReady m))
      else if s.reg Reg.STEP_SLOW * (100 - s.reg Reg.GUARD_PCT) < m.stepMeas * 100 then
        if v + 10 ≤ s.reg Reg.VDD_MAX then .next (vidMove true (vidReady m)) else .next (vidLost (m.stepMeas * 100) (vidReady m))
      else if heldFor (vidReady m).sup.lowSince (sec 10) m.now && decide (s.reg Reg.VDD_FLOOR + 10 ≤ v) then .next (vidMove false (vidReady m))
      else .next (vidReady m) :=
  if_neg (by rw [hr]; simp [hd])

/-- VDD_CHOSEN stands at `x`, and the step to it was sent at the time of the state (R396). -/
def VidMoved (x : Nat) (s u : State) : Prop :=
  u.reg Reg.VDD_CHOSEN = x ∧ u.outs = .vid ((x - 650) / 10) s.now :: s.outs ∧ u.sup.vidAt = s.now ∧ RegsKept [Reg.VDD_CHOSEN] s u

theorem vidMove_moves (up : Bool) :
    VidMoved (if up then s.reg Reg.VDD_CHOSEN + 10 else s.reg Reg.VDD_CHOSEN - 10) s (vidMove up s) :=
  ⟨reg_setReg_self .., rfl, rfl, fun _ hj => reg_setReg_other _ _ (by simpa using hj)⟩

theorem vidLost_spec (slow : Nat) : (vidLost slow s).flag Reg.SUP_STATUS F.SUP_STATUS_GUARD_LOST = true ∧
    (s.reg Reg.STEP_SLOW * 100 < slow → (vidLost slow s).flag Reg.SUP_STATUS F.SUP_STATUS_SLOW_CORNER = true) ∧
    RegsKept [Reg.SUP_STATUS] s (vidLost slow s) ∧ Keeps 8 s (vidLost slow s) := by
  have hlost := flag_setFlag_self s Reg.SUP_STATUS F.SUP_STATUS_GUARD_LOST true (by decide)
  have hregs : RegsKept [Reg.SUP_STATUS] s (s.setFlag Reg.SUP_STATUS F.SUP_STATUS_GUARD_LOST true) :=
    regsKept_setFlag (regsKept_refl s _) _ _ (by simp)
  have hkeeps := State.setFlag_keeps s Reg.SUP_STATUS F.SUP_STATUS_GUARD_LOST true
  unfold vidLost
  dsimp only
  rw [hregs Reg.STEP_SLOW (by decide)]
  split
  · exact ⟨(congrArg (· == 1) (fld_setFld_disjoint _ _ _ (by decide))).trans hlost, fun _ => flag_setFlag_self _ _ _ _ (by decide),
      regsKept_setFlag hregs _ _ (by simp), hkeeps.trans (State.setFlag_keeps ..)⟩
  · next hn => exact ⟨hlost, fun h => absurd h hn, hregs, hkeeps⟩

theorem vidReady_keeps : Keeps 67108864 s (vidReady s) :=
  ⟨rfl, Nat.le_refl _, List.suffix_refl _, id, id, fun p hp => by
    cases p <;> first | rfl | exact ⟨rfl, rfl⟩ | exact absurd hp (by decide)⟩

theorem vidStep_moves {up : Bool} {x : Nat} (hx : (if up then s.reg Reg.VDD_CHOSEN + 10 else s.reg Reg.VDD_CHOSEN - 10) = x)
    (he : exec (.vidStep t) s = .next (vidMove up (vidReady (s.advance t)))) :
    Completes (.vidStep t) s fun u => u.reg Reg.VDD_CHOSEN = x ∧ u.outs = .vid ((x - 650) / 10) (s.advance t).now :: s.outs ∧
      u.sup.vidAt = (s.advance t).now ∧ RegsKept [Reg.VDD_CHOSEN] s u ∧ PartsKept [.now, .regs, .sup, .outs] s u := by
  obtain ⟨hv, ho, ha, hr⟩ := hx ▸ vidMove_moves (vidReady (s.advance t)) up
  exact Completes.ofKeeps (execVidStep_keeps t s) he fun hk => ⟨hv, ho, ha, hr, hk.partsKept_of⟩

theorem vidStep_loses (he : exec (.vidStep t) s = .next (vidLost ((s.advance t).stepMeas * 100) (vidReady (s.advance t)))) :
    Completes (.vidStep t) s fun u => u.flag Reg.SUP_STATUS F.SUP_STATUS_GUARD_LOST = true ∧
      (s.reg Reg.STEP_SLOW * 100 < (s.advance t).stepMeas * 100 → u.flag Reg.SUP_STATUS F.SUP_STATUS_SLOW_CORNER = true) ∧
      RegsKept [Reg.SUP_STATUS] s u ∧ PartsKept [.now, .regs, .sup] s u := by
  obtain ⟨hlost, hslow, hregs, hkeeps⟩ := vidLost_spec (vidReady (s.advance t)) ((s.advance t).stepMeas * 100)
  have hready : Keeps 67108865 s (vidReady (s.advance t)) :=
    ((State.advance_keeps s t).mono (by decide)).trans ((vidReady_keeps _).mono (by decide))
  exact ⟨_, he, hlost, hslow, hregs, ((hready.mono (by decide)).trans (hkeeps.mono (by decide)) : Keeps 67108873 s _).partsKept_of⟩

section Due

variable (hr : s.phase = .running) (hd : s.sup.vidAt + ms 1 ≤ t)

include hr hd

theorem exec_vidStep_toFloor (hf : s.reg Reg.VDD_CHOSEN < s.reg Reg.VDD_FLOOR) (hm : s.reg Reg.VDD_CHOSEN + 10 ≤ s.reg Reg.VDD_MAX) :
    exec (.vidStep t) s = .next (vidMove true (vidReady (s.advance t))) := by
  rw [exec_vidStep s t hr hd, if_pos (by simp [hf, hm])]

theorem exec_vidStep_toMax (hm : s.reg Reg.VDD_MAX < s.reg Reg.VDD_CHOSEN) :
    exec (.vidStep t) s = .next (vidMove false (vidReady (s.advance t))) := by
  rw [exec_vidStep s t hr hd, if_neg (by simp; omega), if_pos hm]

theorem exec_vidStep_guard (hf : s.reg Reg.VDD_FLOOR ≤ s.reg Reg.VDD_CHOSEN) (hm : s.reg Reg.VDD_CHOSEN + 10 ≤ s.reg Reg.VDD_MAX)
    (hg : s.reg Reg.STEP_SLOW * (100 - s.reg Reg.GUARD_PCT) < (s.advance t).stepMeas * 100) :
    exec (.vidStep t) s = .next (vidMove true (vidReady (s.advance t))) := by
  rw [exec_vidStep s t hr hd, if_neg (by simp; omega), if_neg (by omega), if_pos hg, if_pos hm]

theorem exec_vidStep_guardLost (hv : s.reg Reg.VDD_CHOSEN ≤ s.reg Reg.VDD_MAX) (hm : s.reg Reg.VDD_MAX < s.reg Reg.VDD_CHOSEN + 10)
    (hg : s.reg Reg.STEP_SLOW * (100 - s.reg Reg.GUARD_PCT) < (s.advance t).stepMeas * 100) :
    exec (.vidStep t) s = .next (vidLost ((s.advance t).stepMeas * 100) (vidReady (s.advance t))) := by
  rw [exec_vidStep s t hr hd, if_neg (by simp; omega), if_neg (by omega), if_pos hg, if_neg (by omega)]

/-- Within range and guard only a margin that has been high for 10 s moves the voltage, and not below its floor. -/
theorem exec_vidStep_held (hf : s.reg Reg.VDD_FLOOR ≤ s.reg Reg.VDD_CHOSEN ∨ s.reg Reg.VDD_MAX < s.reg Reg.VDD_CHOSEN + 10)
    (hv : s.reg Reg.VDD_CHOSEN ≤ s.reg Reg.VDD_MAX)
    (hg : (s.advance t).stepMeas * 100 ≤ s.reg Reg.STEP_SLOW * (100 - s.reg Reg.GUARD_PCT)) :
    exec (.vidStep t) s =
      if heldFor (vidReady (s.advance t)).sup.lowSince (sec 10) (s.advance t).now && decide (s.reg Reg.VDD_FLOOR + 10 ≤ s.reg Reg.VDD_CHOSEN)
      then .next (vidMove false (vidReady (s.advance t))) else .next (vidReady (s.advance t)) := by
  rw [exec_vidStep s t hr hd, if_neg (by simp; omega), if_neg (by omega), if_neg (by omega)]

end Due

/-- No changed domain is one that may not be switched. -/
theorem not_exists_bad_of_forall {n v : Nat} {sw : Nat → Prop} {ok : Nat → Bool} {b : Bool} (h : ∀ x, x < n → bit v x = true → sw x ∧ ok x = b) :
    ¬∃ x, x < n ∧ bit v x = true ∧ (¬sw x ∨ ok x = !b) := by
  rintro ⟨x, hx, hd, hsw | hok⟩
  · exact hsw (h x hx hd).1
  · exact absurd ((h x hx hd).2.symm.trans hok) (by cases b <;> decide)

/-- Settles O46, by one lemma for each command of the power domains, the arbiter and the voltage step. -/
theorem powerAndBudget : Obligations.PowerAndBudget := by
  unfold Obligations.PowerAndBudget
  intro s mask d fixedMw powerMw ctl bg t m req on off supplied v step target may moved
  refine ⟨fun h => pdSwitchOn_refused s mask ((pdReqBad_on s _).2 h),
    fun h => pdSwitchOn_granted s mask fun hb => not_exists_bad_of_forall h ((pdReqBad_on s _).1 hb),
    fun h => pdSwitchOff_refused s mask ((pdReqBad_off s _).2 h),
    ?_,
    fun h => pdSwitchOff_granted s mask fun hb => not_exists_bad_of_forall h ((pdReqBad_off s _).1 hb),
    pdOnComplete_idle s t d, pdOnComplete_view s t d, pdOnComplete_plain s t d, driversUv_flag s _, pdOnComplete_drivers s t d,
    pdOffDone_of_flushes s d, standby_refused s, standby_enters s, arbiterEvaluate_records s t fixedMw powerMw ctl bg,
    fun _ _ _ => tokensFor_le, fun _ _ _ ha hb h1 h5 => grantBackground_zero s bg ha hb h1 h5, vidStep_idle s t, ?_, ?_, ?_, ?_, ?_⟩
  case refine_1 =>
    rintro x hx rfl hr hf hp hs ho
    exact pdSwitchOff_single s hx hr hf hp hs ho
  case refine_2 => exact fun ⟨hr, hd⟩ hf hm => vidStep_moves s t (up := true) rfl (exec_vidStep_toFloor s t hr hd hf hm)
  case refine_3 => exact fun ⟨hr, hd⟩ hm => vidStep_moves s t (up := false) rfl (exec_vidStep_toMax s t hr hd hm)
  case refine_4 => exact fun ⟨hr, hd⟩ hf hm hg => vidStep_moves s t (up := true) rfl (exec_vidStep_guard s t hr hd hf hm hg)
  case refine_5 => exact fun ⟨hr, hd⟩ hv hm hg => vidStep_loses s t (exec_vidStep_guardLost s t hr hd hv hm hg)
  case refine_6 =>
    intro ⟨hr, hd⟩ hf hv hg low
    have he := exec_vidStep_held s t hr hd hf hv hg
    refine ⟨fun hl hfl => vidStep_moves s t (up := false) rfl (he.trans (if_pos ?_)), fun h => ⟨_, he.trans (if_neg ?_), rfl⟩⟩
    · exact Bool.and_eq_true_iff.2 ⟨hl, decide_eq_true hfl⟩
    · intro hb
      obtain ⟨hl, hfl⟩ := Bool.and_eq_true_iff.1 hb
      obtain h | h := h
      · exact absurd (h.symm.trans hl) (by decide)
      · exact absurd (of_decide_eq_true hfl) (Nat.not_le.2 h)

end Sys2Proof
end

section
/-!
SUPPORT. The recorder whose record waits for the DRAM while it shuts down (R328, Table 1-7), the case that refutes O52.
-/

namespace Sys2Proof.Machine

/-- A recorder in POST that shuts down while its record's slot lies in DRAM that is not yet initialised: its record waits (R328). -/
def recorderWaitsForDram : State :=
  rcShutdown 0 (setRcState 0 2 ((State.setReg { phase := .running, recs := [(0, { on := true })] } (Reg.RC_BASE 0) dramBase).setReg (Reg.CUR_SLOT 0) 0))

/-- It is stopping, no enable waits for its shutdown, and its record cannot be closed yet. -/
theorem recorderWaitsForDram_spec :
    (recorderWaitsForDram.rc 0).stopping = true ∧ recorderWaitsForDram.flag (Reg.RC_STATUS 0) F.RC_STATUS_PENDING_ENABLE = false ∧
      (recorderWaitsForDram.rc 0).closing = true ∧ (recorderWaitsForDram.advance 0).rcCanClose 0 = false := by
  decide

/-- A recorder whose record waits for the DRAM does not end its shutdown (Table 1-7). -/
theorem rcOff_eq_self_of_waits (n : Nat) (s : State) (hc : (s.rc n).closing = true) (hw : s.rcCanClose n = false) : rcOff n s = s := by
  simp [rcOff, hc, hw]

/-- BLOCK_SHUTDOWN_COMPLETE of a recorder whose record waits: only time passes. -/
theorem exec_recorderShutdown_of_waits (r : Fin 4) (t : Instant) (s : State) (hc : (s.rc r).closing = true)
    (hw : (s.advance t).rcCanClose r = false) : exec (.blockShutdownComplete (.recorder r) t) s = .next (s.advance t) := by
  show Host.Outcome.next (if ((s.advance t).rc r).stopping then rcOff r (s.advance t) else s.advance t) = _
  rw [rcOff_eq_self_of_waits r (s.advance t) hc hw, ite_self]

end Sys2Proof.Machine

namespace Sys2Proof

open Machine

/-- Refutes O52: its clause on a recorder's shutdown lets every stopping recorder without a waiting enable complete it, but one whose record
still waits for DRAM goes on stopping (R328, Table 1-7; `recorderWaitsForDram`). -/
theorem not_journalWorkAndBlocks : ¬ Obligations.JournalWorkAndBlocks := by
  unfold Obligations.JournalWorkAndBlocks
  intro h
  obtain ⟨hstop, hpend, hclosing, hwait⟩ := recorderWaitsForDram_spec
  obtain ⟨-, -, -, -, -, -, -, -, -, -, -, -, -, -, -, -, -, -, -, -, -, -, hrec, -⟩ :=
    h recorderWaitsForDram ⟨[], true, 0, []⟩ 0 .adc 0 0 0 0 0 0
  obtain ⟨u, hexec, hu, -⟩ := hrec hstop hpend
  cases (exec_recorderShutdown_of_waits 0 0 recorderWaitsForDram hclosing hwait).symm.trans hexec
  exact absurd (hstop.symm.trans hu) (by decide)

end Sys2Proof
end

section
/-!
SUPPORT. Parameters and mode commands (R40, R41, R56, R59): what APPLY, a base write and a mode command leave.
-/

namespace Sys2Proof.Machine

variable (s : State)

theorem ms_setMs_self {f : Fld} (b : Bool) (h : 0 < f.w) : (s.setMs f b).ms f = b := flag_setFlag_self s _ _ _ h

/-- The derived bases and BASES_UNSET follow a base write; the base itself stays as written (R41). -/
theorem reg_baseReg_derived (side : Fin 2) (sub : Fin 3) : (refreshBases (deriveBases side s)).reg (baseReg side sub) = s.reg (baseReg side sub) := by
  have hsub := sub.isLt
  have hside := side.isLt
  unfold refreshBases State.setLs deriveBases
  dsimp only
  rw [reg_setFlag_other, reg_setReg_other, reg_setReg_other, reg_setReg_other] <;>
    simp only [baseReg, Reg.I_BASE, Reg.Z_BASE, Reg.VDC_BASE, Reg.LAW_STATUS, Reg.key] <;> omega

theorem baseReg_not_mem_storeKeys (side : Fin 2) (sub : Fin 3) : baseReg side sub ∉ storeKeys := by
  revert side sub; decide

/-- A refused base write leaves the state as it is. -/
theorem actBase_refused {side sub v : Nat} (h : s.mode ≠ mBASECAMP ∨ valueOk (baseReg side sub) v = false) :
    (actBase side sub v s).1 = s ∧ (actBase side sub v s).2 ≠ stOK := by
  unfold actBase
  dsimp only
  split
  · exact ⟨rfl, show stState ≠ stOK by decide⟩
  · next hm =>
    rw [if_pos (by rw [h.resolve_left hm]; rfl)]
    exact ⟨rfl, show stRange ≠ stOK by decide⟩

theorem actBase_taken {side sub v : Nat} (hm : s.mode = mBASECAMP) (hv : valueOk (baseReg side sub) v = true) :
    actBase side sub v s = (refreshBases (deriveBases side (s.setReg (baseReg side sub) v)), stOK) := by
  unfold actBase
  dsimp only
  rw [if_neg (not_not.2 hm), if_neg (by simp [hv])]

end Sys2Proof.Machine

namespace Sys2Proof

open Machine

variable (s : State)

/-- What APPLY leaves: its outcome, the checked set that waits, and APPLY_DEFERRED. -/
theorem applyAnswer_spec {a r : Nat} {l : Law} {b : Bool} {u : State}
    (hu : u = (((s.setReg Reg.APPLY a).setReg Reg.APPLY_RESULT r).setLaw l).setMs F.MODE_STATUS_APPLY_DEFERRED b)
    (he : exec .applyStaged s = .next u) :
    Completes .applyStaged s fun t => t.reg Reg.APPLY = a ∧ t.reg Reg.APPLY_RESULT = r ∧ t.law = l ∧
      t.ms F.MODE_STATUS_APPLY_DEFERRED = b ∧ RegsKept [Reg.APPLY, Reg.APPLY_RESULT, Reg.MODE_STATUS] s t ∧ PartsKept [.regs, .law] s t := by
  subst hu
  refine Completes.ofKeeps (execApplyStaged_keeps s) he fun hk => ⟨?_, ?_, rfl, ms_setMs_self _ _ (by decide), ?_, hk.partsKept_of⟩
  · unfold State.setMs
    rw [reg_setFlag_other _ _ _ (by decide), setLaw_reg, reg_setReg_other _ _ (by decide), reg_setReg_self]
  · unfold State.setMs
    rw [reg_setFlag_other _ _ _ (by decide), setLaw_reg, reg_setReg_self]
  · have h : RegsKept [Reg.APPLY, Reg.APPLY_RESULT, Reg.MODE_STATUS] s ((s.setReg Reg.APPLY a).setReg Reg.APPLY_RESULT r) :=
      ((regsKept_refl s _).step (by simp)).step (by simp)
    exact regsKept_setFlag (t := State.setLaw _ l) h _ _ (by simp)

theorem applyStaged_accepted (h : s.applyCheck = 0) : Completes .applyStaged s fun t => t.reg Reg.APPLY = 1 ∧ t.reg Reg.APPLY_RESULT = 0 ∧
    t.law = { s.law with applying := true, checked := s.stagedSet } ∧
    t.ms F.MODE_STATUS_APPLY_DEFERRED = (s.reg Reg.MODE == 3 || s.reg Reg.MODE == 6) ∧
    RegsKept [Reg.APPLY, Reg.APPLY_RESULT, Reg.MODE_STATUS] s t ∧ PartsKept [.regs, .law] s t := by
  have hm (l : Law) : (((s.setReg Reg.APPLY 1).setReg Reg.APPLY_RESULT 0).setLaw l).mode = s.mode := by
    unfold State.mode
    rw [setLaw_reg, reg_setReg_other _ _ (by decide), reg_setReg_other _ _ (by decide)]
  refine applyAnswer_spec s ?_ rfl
  unfold actApply
  dsimp only
  rw [if_neg (by simp [h]), hm]
  rfl

theorem applyStaged_refused (h : s.applyCheck ≠ 0) : Completes .applyStaged s fun t => t.reg Reg.APPLY = 3 ∧
    t.reg Reg.APPLY_RESULT = s.applyCheck ∧ t.law = { s.law with applying := false } ∧ t.ms F.MODE_STATUS_APPLY_DEFERRED = false ∧
    RegsKept [Reg.APPLY, Reg.APPLY_RESULT, Reg.MODE_STATUS] s t ∧ PartsKept [.regs, .law] s t := by
  refine applyAnswer_spec s ?_ rfl
  unfold actApply
  dsimp only
  rw [if_pos (by simp [h])]

theorem baseWrite_refused (side : Fin 2) (sub : Fin 3) (v : BitVec 32)
    (h : s.reg Reg.MODE ≠ 0 ∨ valueOk (baseReg side sub) v.toNat = false) : Completes (.baseWrite side sub v) s (· = s) := by
  obtain ⟨hs, hst⟩ := actBase_refused s h
  exact ⟨_, rfl, (if_neg hst).trans hs⟩

theorem baseWrite_taken (side : Fin 2) (sub : Fin 3) (v : BitVec 32) (hm : s.reg Reg.MODE = 0)
    (hv : valueOk (baseReg side sub) v.toNat = true) :
    Completes (.baseWrite side sub v) s fun t => t.reg (baseReg side sub) = v.toNat ∧ PartsKept [.regs, .mram] s t := by
  refine Completes.ofKeeps (execBaseWrite_keeps side sub v s) rfl fun hk => ⟨?_, hk.partsKept_of⟩
  rw [stored_reg (baseReg_not_mem_storeKeys side sub), actBase_taken s hm hv, reg_baseReg_derived, reg_setReg_self]

/-- A mode command enters the policy queue of the device that holds the baton (R56, R59). -/
theorem modeCmd_spec {c : Instr} {v : Nat} (hc : exec c s = .next (actModeCmd v false s).1) :
    (s.holds = true → Completes c s fun t => t.reg Reg.MODE_CMD = 1 ∧
      t.law = { s.law with cmds := s.law.cmds ++ [(v, false, s.reg Reg.MODE, s.law.autoSeq)] } ∧
      RegsKept [Reg.MODE_CMD] s t ∧ PartsKept [.regs, .law] s t) ∧
    (s.holds = false → Completes c s (· = s)) := by
  refine ⟨fun h => ?_, fun h => ⟨_, hc, by simp [actModeCmd, h]⟩⟩
  have hq : (actModeCmd v false s).1 = queueCommand v false s := by simp [actModeCmd, h]
  rw [hq] at hc
  exact ⟨_, hc, reg_setReg_self s Reg.MODE_CMD 1, rfl, RegsKept.setReg s _ 1, (queueCommand_keeps v false s).partsKept_of⟩

/-- Settles O20, clause by clause from the lemma of each command; the five mode commands are one. -/
theorem parametersAndModeCommands : Obligations.ParametersAndModeCommands := by
  unfold Obligations.ParametersAndModeCommands
  intro s side sub v
  refine ⟨applyStaged_accepted s, applyStaged_refused s, baseWrite_refused s side sub v, baseWrite_taken s side sub v, ?_⟩
  simp only [List.forall_mem_cons, List.not_mem_nil, false_implies, implies_true, and_true]
  exact ⟨modeCmd_spec s rfl, modeCmd_spec s rfl, modeCmd_spec s rfl, modeCmd_spec s rfl, modeCmd_spec s rfl⟩

end Sys2Proof
end

section
/-!
SUPPORT. The PWM generator writes registers of its own page alone (13_object_dictionary.md, "Structure": 0x2800 to 0x28FF): a snapshot's transfer,
the requested levels and the output stages leave every other register as it was.
-/

namespace Sys2Proof.Machine

/-- The registers of the PWM generator. -/
def pwmPage (k : Nat) : Prop := Reg.key 0x2800 0 ≤ k ∧ k < Reg.key 0x2900 0

/-- Every register but those of the PWM generator is as before. -/
structure PwmRegs (s u : State) : Prop where
  reg : ∀ j, ¬pwmPage j → u.reg j = s.reg j

theorem pwmPage_key {i b : Nat} (h : 0x2800 ≤ i ∧ i < 0x2900) (hb : b < 256) : pwmPage (Reg.key i b) := by
  unfold pwmPage Reg.key; omega

theorem pwmPage_chStatus {c : Nat} (hc : c < 256) : pwmPage (Reg.CH_STATUS c) := pwmPage_key (by omega) (by omega)
theorem pwmPage_pairShoot {c : Nat} (hc : c < 256) : pwmPage (Reg.PAIR_SHOOT (c / 2)) := pwmPage_key (by omega) (by omega)
theorem pwmPage_lgStatus {g : Nat} (hg : g < 8) : pwmPage (Reg.LG_STATUS g) := pwmPage_key (by omega) (by omega)
theorem pwmPage_lgTransfers {g : Nat} (hg : g < 8) : pwmPage (Reg.LG_TRANSFERS g) := pwmPage_key (by omega) (by omega)
theorem pwmPage_cgPerAct {n : Nat} (hn : n < 16) : pwmPage (Reg.CG_PER_ACT n) := pwmPage_key (by omega) (by omega)
theorem pwmPage_cgPhAct {n : Nat} (hn : n < 16) : pwmPage (Reg.CG_PH_ACT n) := pwmPage_key (by omega) (by omega)
theorem pwmPage_status : pwmPage Reg.PWM_STATUS := pwmPage_key (by omega) (by omega)

section

variable {s t u : State}

theorem PwmRegs.refl (s : State) : PwmRegs s s := ⟨fun _ _ => rfl⟩

theorem PwmRegs.trans (h : PwmRegs s t) (k : PwmRegs t u) : PwmRegs s u := ⟨fun j hj => (k.reg j hj).trans (h.reg j hj)⟩

/-- An operation that writes no register. -/
theorem PwmRegs.keeps {f : Nat} (h : PwmRegs s t) (k : Keeps f t u) (hf : f.testBit 3 = false := by decide) : PwmRegs s u :=
  h.trans ⟨fun j _ => Keeps.reg k hf j⟩

/-- An update of other parts of the state. -/
theorem PwmRegs.update (h : PwmRegs s t) (hr : u.regs = t.regs) : PwmRegs s u := h.trans ⟨fun j _ => reg_of_regs hr j⟩

theorem PwmRegs.ite {c : Prop} [Decidable c] (h : PwmRegs s t) (k : PwmRegs s u) : PwmRegs s (if c then t else u) := by
  split <;> assumption

theorem PwmRegs.forEach {α : Type} {l : List α} {f : α → State → State} (h : PwmRegs s t) (hf : ∀ x ∈ l, ∀ u, PwmRegs u (f x u)) :
    PwmRegs s (t.forEach l f) :=
  h.trans ⟨fun j hj => forEach_mem_frame (fun s => s.reg j) l f (fun x hx u => (hf x hx u).reg j hj) t⟩

theorem PwmRegs.setReg (h : PwmRegs s t) {k : Nat} (v : Nat) (hk : pwmPage k) : PwmRegs s (t.setReg k v) :=
  h.trans ⟨fun _ hj => reg_setReg_other _ _ (by rintro rfl; exact hj hk)⟩

theorem PwmRegs.setFlag (h : PwmRegs s t) {k : Nat} (f : Fld) (b : Bool) (hk : pwmPage k) : PwmRegs s (t.setFlag k f b) := h.setReg _ hk

theorem PwmRegs.bump (h : PwmRegs s t) {k : Nat} (hk : pwmPage k) : PwmRegs s (t.bump k) :=
  h.trans ⟨fun _ hj => reg_bump_other _ (by rintro rfl; exact hj hk)⟩

theorem PwmRegs.setChan (h : PwmRegs s t) (c : Nat) (x : Chan) : PwmRegs s (t.setChan c x) := h.update rfl

end

/-! mf short d v' at_ Output stages (Table 6-2) -/

variable {c : Nat} (hc : c < 256) (la : Instant) (s : State)

theorem carryLost_pwmRegs : PwmRegs s (carryLost s) :=
  ((PwmRegs.refl s).bump (pwmPage_key (by omega) (by omega))).setFlag _ _ pwmPage_status

theorem addCarry_pwmRegs (c : Nat) (on : Bool) (w : Nat) : PwmRegs s (addCarry c on w s) := by
  unfold addCarry
  exact PwmRegs.ite (((PwmRegs.refl s).setChan _ _).trans (carryLost_pwmRegs _)) ((PwmRegs.refl s).setChan _ _)

include hc

theorem dropInterval_pwmRegs : PwmRegs s (dropInterval c s) :=
  (((PwmRegs.refl s).bump (pwmPage_key (by omega) (by omega))).setFlag _ _ (pwmPage_chStatus hc)).setFlag _ _ pwmPage_status

theorem holdShoot_pwmRegs : PwmRegs s (holdShoot c s) :=
  (((((PwmRegs.refl s).setChan _ _).setFlag _ _ (pwmPage_chStatus hc)).setFlag _ _ pwmPage_status).bump
    (pwmPage_key (by omega) (by omega))).bump (pwmPage_pairShoot hc)

/-- The odd channel of a pair among the first 256 is one of them. -/
theorem yieldOdd_pwmRegs : PwmRegs s (yieldOdd c la s) := by
  unfold yieldOdd
  split
  · next h =>
    have heven : c % 2 = 0 := by
      simp only [State.oddFirst, Bool.and_eq_true, beq_iff_eq] at h
      tauto
    refine PwmRegs.trans (PwmRegs.update (PwmRegs.refl s) ?_) (holdShoot_pwmRegs (c := c + 1) (by omega) _)
    rfl
  · exact PwmRegs.refl s

theorem stage5On_pwmRegs : PwmRegs s (stage5On c la s) := by
  have h : PwmRegs s (yieldOdd c la (s.setChan c { s.chan c with lvl4 := true })) :=
    ((PwmRegs.refl s).setChan _ _).trans (yieldOdd_pwmRegs hc la _)
  exact PwmRegs.ite (h.trans (holdShoot_pwmRegs hc _)) (h.keeps (stage67_keeps ..))

theorem stage5Off_pwmRegs : PwmRegs s (stage5Off c la s) :=
  ((PwmRegs.ite (dropInterval_pwmRegs hc s) (PwmRegs.refl s)).setChan _ _).keeps (setOutput_keeps ..)

omit hc

theorem stage5_pwmRegs {e : Instant × Bool × Nat} (he : e.2.2 < 256) : PwmRegs s (stage5 e s) :=
  PwmRegs.ite (stage5On_pwmRegs he _ s) (stage5Off_pwmRegs he _ s)

theorem mem_insertDue {x e : Instant × Bool × Nat} {l : List (Instant × Bool × Nat)} : e ∈ insertDue x l ↔ e = x ∨ e ∈ l := by
  induction l with
  | nil => simp [insertDue]
  | cons y t ih =>
    unfold insertDue
    split
    · rw [List.mem_cons]
    · rw [List.mem_cons, ih, List.mem_cons, or_left_comm]

theorem mem_foldr_insertDue {e : Instant × Bool × Nat} {l : List (Instant × Bool × Nat)} : e ∈ l.foldr insertDue [] ↔ e ∈ l := by
  induction l with
  | nil => rfl
  | cons x t ih => rw [List.foldr_cons, mem_insertDue, ih, List.mem_cons]

theorem lt_of_mem_pairChans {c k : Nat} (h : c ∈ pairChans k) (hk : k < 128) : c < 256 := by
  simp only [pairChans, List.mem_cons, List.not_mem_nil, or_false] at h
  omega

theorem duePair_pwmRegs {k : Nat} (hk : k < 128) : PwmRegs s (duePair k la s) := by
  refine PwmRegs.forEach (PwmRegs.forEach (PwmRegs.refl s) fun c _ u => (PwmRegs.refl u).setChan _ _) fun e he u => ?_
  rw [mem_foldr_insertDue, List.mem_flatMap] at he
  obtain ⟨c, hc, he⟩ := he
  obtain ⟨p, -, rfl⟩ := List.mem_map.1 he
  exact stage5_pwmRegs u (lt_of_mem_pairChans hc hk)

include hc

theorem turnOnRequest_pwmRegs : PwmRegs s (turnOnRequest c la s) := by
  unfold turnOnRequest
  extract_lets x n per a b cnt cmp edge h1 h2 w x v dt mn short d v' at_ y
  have hv : PwmRegs s v := (PwmRegs.refl s).setChan _ _
  clear_value v
  refine PwmRegs.ite hv ?_
  have hd : PwmRegs s d := (hv.setChan _ _).trans (dropInterval_pwmRegs hc _)
  refine PwmRegs.ite (PwmRegs.ite (hd.trans (addCarry_pwmRegs ..)) hd) ?_
  refine PwmRegs.trans (PwmRegs.setChan ?_ _ _) (duePair_pwmRegs la _ (by omega))
  exact PwmRegs.ite (hv.setFlag _ _ (pwmPage_chStatus hc)) hv

theorem turnOffRequest_pwmRegs : PwmRegs s (turnOffRequest c la s) := by
  unfold turnOffRequest
  extract_lets x n per a b cnt cmp edge h1 h2 w x v mf short d v' at_
  have hv : PwmRegs s v := (PwmRegs.refl s).setChan _ _
  clear_value v
  refine PwmRegs.ite hv ?_
  have hd : PwmRegs s d := (hv.setChan _ _).trans (dropInterval_pwmRegs hc _)
  refine PwmRegs.ite (PwmRegs.ite (hd.trans (addCarry_pwmRegs ..)) hd) ?_
  refine PwmRegs.trans (PwmRegs.setChan ?_ _ _) (duePair_pwmRegs la _ (by omega))
  exact PwmRegs.ite (hv.setFlag _ _ (pwmPage_chStatus hc)) hv

theorem chanEval_pwmRegs : PwmRegs s (chanEval c la s) := by
  have h (x : Chan) : PwmRegs s (s.setChan c x) := (PwmRegs.refl s).setChan c x
  unfold chanEval
  exact PwmRegs.ite (PwmRegs.refl s) (PwmRegs.ite (h _) (PwmRegs.ite ((h _).trans (turnOnRequest_pwmRegs hc la _))
    ((h _).trans (turnOffRequest_pwmRegs hc la _))))

omit hc

theorem evalPair_pwmRegs {k : Nat} (hk : k < 128) : PwmRegs s (evalPair k la s) := by
  refine PwmRegs.forEach (PwmRegs.forEach (PwmRegs.refl s) fun c hc u => ?_) fun c hc u => ?_
  · exact chanEval_pwmRegs (lt_of_mem_pairChans (List.mem_of_mem_filter (List.mem_of_mem_filter hc)) hk) la u
  · exact chanEval_pwmRegs (lt_of_mem_pairChans (List.mem_of_mem_filter hc) hk) la u

/-! mf short d v' at_ Snapshots and their transfer (R164 to R167) -/

theorem cgGroup_lt (n : Nat) : s.cgGroup n < 8 := Nat.mod_lt _ (by decide)

theorem lt_of_mem_chansOf {n c : Nat} (h : c ∈ s.chansOf n) : c < 256 := List.mem_range.1 (List.mem_of_mem_filter h)

theorem clampCompares_pwmRegs (hc : c < 256) : PwmRegs s (clampCompares c s) := by
  unfold clampCompares
  refine PwmRegs.forEach (f := fun p s => _) (PwmRegs.refl s) fun p _ u => PwmRegs.ite ?_ (PwmRegs.refl u)
  exact (((((PwmRegs.refl u).keeps (State.setEff_keeps ..)).setFlag _ _ (pwmPage_chStatus hc)).setFlag _ _
    (pwmPage_lgStatus (cgGroup_lt ..))).setFlag _ _ pwmPage_status).bump (pwmPage_key (by omega) (by omega))

theorem setVals_pwmRegs (vals : List (Nat × Nat)) (hc : c < 256) : PwmRegs s (setVals vals c s) := by
  have h (l : List (Nat × Nat)) : PwmRegs s (clampCompares c (s.forEach l fun v s => s.setEff v.1 v.2)) :=
    (PwmRegs.forEach (PwmRegs.refl s) fun v _ u => (PwmRegs.refl u).keeps (State.setEff_keeps ..)).trans (clampCompares_pwmRegs _ hc)
  have h' (l : List (Nat × Nat)) (x : Chan) (p : Prop) [Decidable p] :
      PwmRegs s (if p then clampCompares c (s.forEach l fun v s => s.setEff v.1 v.2) else
        (clampCompares c (s.forEach l fun v s => s.setEff v.1 v.2)).setChan c x) := PwmRegs.ite (h l) ((h l).setChan c x)
  unfold setVals
  exact PwmRegs.ite (h' _ _ _) ((h' _ _ _).keeps (zeroCarries_keeps ..))

theorem limitCarries_pwmRegs (c : Nat) : PwmRegs s (limitCarries c s) := by
  have h (u : State) (p : Prop) [Decidable p] : PwmRegs u (if p then carryLost u else u) := PwmRegs.ite (carryLost_pwmRegs u) (PwmRegs.refl u)
  exact PwmRegs.setChan ((h s _).trans (h _ _)) _ _

theorem applyPend_pwmRegs {n : Nat} (hn : n < 16) : PwmRegs s (applyPend n s).1 := by
  unfold applyPend
  split
  · exact PwmRegs.refl s
  · refine PwmRegs.forEach ?_ fun c hc u => (limitCarries_pwmRegs u c).trans (setVals_pwmRegs _ _ (lt_of_mem_chansOf _ hc))
    exact (((PwmRegs.refl s).keeps (State.setCarrier_keeps ..)).setReg _ (pwmPage_cgPerAct hn)).setReg _ (pwmPage_cgPhAct hn)

theorem carrierTake_pwmRegs (vals : List (Nat × Nat)) {n : Nat} (hn : n < 16) : PwmRegs s (carrierTake vals n s) := by
  have h (x : Carrier) : PwmRegs s (s.setCarrier n x) := (PwmRegs.refl s).keeps (State.setCarrier_keeps ..)
  unfold carrierTake
  refine PwmRegs.ite (PwmRegs.ite (h _) ((h _).trans (applyPend_pwmRegs _ hn))) (PwmRegs.forEach (h _) fun c hc u => ?_)
  exact setVals_pwmRegs u _ (lt_of_mem_chansOf _ (List.mem_of_mem_filter hc))

theorem transfer_pwmRegs {g : Nat} (hg : g < 8) : PwmRegs s (transfer g la s) := by
  unfold transfer
  split
  · exact PwmRegs.refl s
  · refine PwmRegs.forEach (PwmRegs.forEach (PwmRegs.forEach ?_ fun v _ u => ?_) fun n hn u => ?_) fun c hc u => ?_
    · exact (((PwmRegs.refl s).keeps (State.setSnap_keeps ..)).bump (pwmPage_lgTransfers hg)).setFlag _ _ (pwmPage_lgStatus hg)
    · exact PwmRegs.ite ((PwmRegs.refl u).keeps (State.setShadow_keeps ..)) (PwmRegs.refl u)
    · exact carrierTake_pwmRegs u _ (List.mem_range.1 (List.mem_of_mem_filter hn))
    · obtain ⟨n, -, hc⟩ := List.mem_flatMap.1 hc
      have := lt_of_mem_chansOf _ hc
      exact evalPair_pwmRegs la u (by omega)

theorem snapshotEligible_pwmRegs (t : Instant) {g : Nat} (hg : g < 8) : PwmRegs s (snapshotEligible t g s) := by
  have h (x : Option Snapshot) : PwmRegs s (s.setSnap g x) := (PwmRegs.refl s).keeps (State.setSnap_keeps ..)
  unfold snapshotEligible
  split
  · exact PwmRegs.refl s
  · exact PwmRegs.ite (PwmRegs.refl s) (PwmRegs.ite (h _) ((h _).trans (transfer_pwmRegs _ _ hg)))

theorem snapshotsEligible_pwmRegs (t : Instant) : PwmRegs s (snapshotsEligible t s) :=
  PwmRegs.forEach (PwmRegs.refl s) fun _ hg u => snapshotEligible_pwmRegs u t (List.mem_range.1 hg)

/-- Static-off of every law channel. -/
theorem lawStaticOff_pwmRegs : PwmRegs s (lawStaticOff s) := by
  refine PwmRegs.forEach (PwmRegs.refl s) fun c hc u => ?_
  refine PwmRegs.trans ?_ (chanEval_pwmRegs (List.mem_range.1 (List.mem_of_mem_filter hc)) _ _)
  exact (((PwmRegs.refl u).keeps (State.setShadow_keeps ..)).keeps (State.setEff_keeps ..)).keeps (zeroCarries_keeps ..)

end Sys2Proof.Machine
end

section
/-!
SUPPORT. START, SYNC and the estimator (R50 to R52, R100 to R107): what an abort leaves of the outcome of a mode command, what a new target and an
accepted estimate leave of the law.
-/

namespace Sys2Proof.Machine

/-! ## Aborts (R101, R102, R106, R107) -/

/-- The outcome of a mode command (R56). -/
def cmdRegs : List Nat := [Reg.MODE_CMD, Reg.CMD_REFUSAL]

theorem ne_of_mem_cmdRegs {j k : Nat} (hj : j ∈ cmdRegs) (hk : k ∉ cmdRegs) : j ≠ k := by rintro rfl; exact hk hj

theorem offLog_of_mem_cmdRegs {j : Nat} (hj : j ∈ cmdRegs) : OffLog j := by
  simp only [cmdRegs, List.mem_cons, List.not_mem_nil, or_false] at hj
  rcases hj with rfl | rfl <;>
    exact ⟨by decide, by decide, by decide, fun i hi => by simp only [Reg.MODE_CMD, Reg.CMD_REFUSAL, Reg.TRANS_LOG, Reg.TRANS_LOG_TIME, Reg.key]; omega,
      fun i hi => by simp only [Reg.MODE_CMD, Reg.CMD_REFUSAL, Reg.GL_STATUS, Reg.key]; omega⟩

theorem not_pwmPage_of_mem_cmdRegs {j : Nat} (hj : j ∈ cmdRegs) : ¬pwmPage j := by
  simp only [cmdRegs, List.mem_cons, List.not_mem_nil, or_false] at hj
  rcases hj with rfl | rfl <;> simp only [pwmPage, Reg.MODE_CMD, Reg.CMD_REFUSAL, Reg.key] <;> omega

section

variable {j : Nat} (hj : j ∈ cmdRegs) (s : State)
include hj

/-- A recorded transition leaves the outcome of a mode command as it was. -/
theorem logMode_cmdReg (old new cause : Nat) : (logMode old new cause s).reg j = s.reg j := by
  rw [logMode_reg _ _ _ _ _ (offLog_of_mem_cmdRegs hj), reg_bump_other _ (ne_of_mem_cmdRegs hj (by decide)),
    reg_setReg_other _ _ (ne_of_mem_cmdRegs hj (by decide)), reg_setReg_other _ _ (ne_of_mem_cmdRegs hj (by decide)),
    reg_setReg_other _ _ (ne_of_mem_cmdRegs hj (by decide)), reg_setReg_other _ _ (ne_of_mem_cmdRegs hj (by decide))]

/-- Clearing flags of a status register. -/
theorem clearFlags_cmdReg {k : Nat} (hk : k ∉ cmdRegs) (l : List Fld) : (l.foldl (fun s f => s.setFlag k f false) s).reg j = s.reg j :=
  forEach_frame (fun s => s.reg j) l (fun f s => s.setFlag k f false) (fun _ _ => reg_setFlag_other _ _ _ (ne_of_mem_cmdRegs hj hk)) s

theorem clearLawFlags_cmdReg : (clearLawFlags s).reg j = s.reg j := by
  unfold clearLawFlags State.setMs State.setLs
  dsimp only
  rw [setLaw_reg, clearFlags_cmdReg hj _ (k := Reg.LAW_STATUS) (by decide), clearFlags_cmdReg hj _ (k := Reg.MODE_STATUS) (by decide)]

theorem setStage_cmdReg (n : Nat) : (setStage n s).reg j = s.reg j := reg_setReg_other _ _ (ne_of_mem_cmdRegs hj (by decide))

theorem txStop_cmdReg : (txStop s).reg j = s.reg j := reg_setFlag_other _ _ _ (ne_of_mem_cmdRegs hj (by decide))

/-- A transition to ARMED leaves the outcome of a mode command as the lost soft stop left it. -/
theorem backToArmed_cmdReg (cause : Nat) : (backToArmed cause s).reg j = (stopLost cause s).reg j := by
  have hoff (u : State) : (if cause = 26 then lawStaticOff u else u).reg j = u.reg j := by
    split
    · exact (lawStaticOff_pwmRegs u).reg j (not_pwmPage_of_mem_cmdRegs hj)
    · rfl
  unfold backToArmed
  dsimp only
  rw [logMode_cmdReg hj, show ∀ (u : State) (c : Cad), (u.setCad c).reg j = u.reg j from fun _ _ => rfl, clearFlags_cmdReg hj _ (by decide),
    txStop_cmdReg hj, setStage_cmdReg hj, clearLawFlags_cmdReg hj, hoff]

end

/-- A soft stop that an abort overtakes is refused with code 11 (log entry 43). -/
theorem stopLost_refused {s : State} (h : s.ms F.MODE_STATUS_STOPPING = true) :
    (stopLost 26 s).reg Reg.MODE_CMD = 3 ∧ (stopLost 26 s).reg Reg.CMD_REFUSAL = 11 := by
  rw [show stopLost 26 s = (s.setReg Reg.MODE_CMD 3).setReg Reg.CMD_REFUSAL 11 from if_pos (by rw [h]; rfl)]
  exact ⟨by rw [reg_setReg_other _ _ (by decide), reg_setReg_self], reg_setReg_self _ _ _⟩

/-! ## Chosen values (R51, R52) -/

variable (s : State)

/-- A flag of LAW_STATUS read after another one was written. -/
theorem ls_setLs_other {f g : Fld} (b : Bool) (h : f.lo + f.w ≤ g.lo ∨ g.lo + g.w ≤ f.lo) : (s.setLs g b).ls f = s.ls f := by
  unfold State.ls State.flag
  exact congrArg (· == 1) (fld_setFld_disjoint s _ _ h)

theorem ls_of_reg {s u : State} (f : Fld) (h : u.reg Reg.LAW_STATUS = s.reg Reg.LAW_STATUS) : u.ls f = s.ls f := flag_of_reg f h

/-- The registers that report the chosen values. -/
def chosenRegs : List Nat := [Reg.RV_CHOSEN, Reg.XV_CHOSEN, Reg.D_CHOSEN, Reg.LAW_STATUS]

theorem reportChosen_regsKept : RegsKept chosenRegs s (reportChosen s) :=
  regsKept_setFlag ((((regsKept_refl s _).step (by simp [chosenRegs])).step (by simp [chosenRegs])).step (by simp [chosenRegs])) _ _
    (by simp [chosenRegs])

theorem reportChosen_estStale : (reportChosen s).ls F.LAW_STATUS_EST_STALE = s.ls F.LAW_STATUS_EST_STALE := by
  unfold reportChosen
  dsimp only
  rw [ls_setLs_other _ _ (by decide)]
  refine ls_of_reg _ ?_
  rw [reg_setReg_other _ _ (by decide), reg_setReg_other _ _ (by decide), reg_setReg_other _ _ (by decide)]

theorem reportChosen_law : (reportChosen s).law = s.law := (reportChosen_keeps s).parts .law (by decide)

theorem newTarget_self {tgt : Rat × Rat × Rat} (cause : Nat) (h : tgt = s.target) : newTarget tgt cause s = s := if_pos h

theorem target_of_ramp {s : State} {r : Ramp} (h : s.law.ramp = some r) : s.target = r.to_ := by unfold State.target; rw [h]

/-- What a new target leaves: a ramp to it, its time and its cause (R51, R52). -/
theorem newTarget_spec {tgt : Rat × Rat × Rat} (cause : Nat) (h : tgt ≠ s.target) :
    (newTarget tgt cause s).reg Reg.RETUNE_CAUSE = cause ∧ (newTarget tgt cause s).reg Reg.RETUNE_TIME = s.time64 ∧
      (newTarget tgt cause s).target = tgt := by
  rw [show newTarget tgt cause s = reportChosen _ from if_neg h]
  refine ⟨?_, ?_, target_of_ramp (r := ⟨s.chosen, tgt, s.now, ms (s.par Reg.RAMP)⟩) (congrArg (·.ramp) (reportChosen_law _))⟩
  · rw [reportChosen_regsKept _ _ (by decide)]
    exact reg_setReg_self _ _ _
  · rw [reportChosen_regsKept _ _ (by decide)]
    exact (reg_setReg_other _ _ (by decide)).trans (reg_setReg_self _ _ _)

/-- What a target leaves alone, be it new or not. -/
theorem newTarget_frame (tgt : Rat × Rat × Rat) (cause : Nat) :
    RegsKept (Reg.RETUNE_TIME :: Reg.RETUNE_CAUSE :: chosenRegs) s (newTarget tgt cause s) ∧
      (newTarget tgt cause s).ls F.LAW_STATUS_EST_STALE = s.ls F.LAW_STATUS_EST_STALE ∧
      (newTarget tgt cause s).law.est = s.law.est := by
  unfold newTarget
  split
  · exact ⟨regsKept_refl s _, rfl, rfl⟩
  · dsimp only
    refine ⟨fun k hk => ?_, ?_, congrArg (·.est) (reportChosen_law _)⟩
    · simp only [List.mem_cons, not_or] at hk
      obtain ⟨ht, hc, hr⟩ := hk
      rw [reportChosen_regsKept _ _ hr, reg_setReg_other _ _ hc, reg_setReg_other _ _ ht, setLaw_reg]
    · rw [reportChosen_estStale]
      refine ls_of_reg _ ?_
      rw [reg_setReg_other _ _ (by decide), reg_setReg_other _ _ (by decide), setLaw_reg]

/-! ## The estimator's window (R50) -/

theorem estStart_reg (j : Nat) : (estStart s).reg j = s.reg j := rfl

theorem estStart_ls (f : Fld) : (estStart s).ls f = s.ls f := rfl

theorem estStart_ramp : (estStart s).law.ramp = s.law.ramp := rfl

theorem estStart_lastAt : (estStart s).law.est.lastAt = s.law.est.lastAt := rfl

theorem estStart_target : (estStart s).target = s.target := rfl

/-- However a window ends, a new one starts. -/
theorem windowEnd_starts : ∃ w, windowEnd s = estStart w := by
  unfold windowEnd
  split
  · exact ⟨_, rfl⟩
  · dsimp only
    split <;> exact ⟨_, rfl⟩

/-- The objects that show an accepted estimate. -/
def estReport (rg xg zg q : Rat) (s : State) : State :=
  let r := s.openRound (q * 100)
  let s := setOpen Reg.SCR 16 false (100 / zg) (r.2.setReg Reg.QUALITY r.1.toNat)
  ((s.setReg Reg.R_G (q15Code rg)).setReg Reg.X_G (q15Code xg)).bump Reg.EST_COUNT

/-- An estimate is accepted: its objects, its instant and its state (R50). -/
def estAccept (rg xg zg q : Rat) (s : State) : State :=
  let s := estReport rg xg zg q s
  ((s.setLaw { s.law with est := { s.law.est with lastAt := some s.now } }).setLs F.LAW_STATUS_EST_STALE false).setReg Reg.EST_STATE 2

variable {rg xg zg q : Rat}

theorem openRound_law (x : Rat) : (s.openRound x).2.law = s.law := (State.openRound_keeps s x).parts .law (by decide)

/-- The window whose estimate has enough QUALITY ends with its acceptance, and with RETUNE_EN with its targets (R50, R51). -/
theorem windowEnd_accepted (he : s.estimate = some (rg, xg, zg, q)) (hq : (s.par Reg.Q_MIN : Rat) ≤ q * 100) :
    windowEnd s = estStart (if (estAccept rg xg zg q s).par Reg.RETUNE_EN = 1
      then newTarget ((estAccept rg xg zg q s).targets rg xg) 1 (estAccept rg xg zg q s) else estAccept rg xg zg q s) := by
  have hpar (v : Nat) : ((s.openRound (q * 100)).2.setReg Reg.QUALITY v).par Reg.Q_MIN = s.par Reg.Q_MIN := by
    unfold State.par
    rw [setReg_law, openRound_law]
  unfold windowEnd
  rw [he]
  dsimp only
  rw [hpar, if_neg (not_lt.2 hq)]
  rfl

theorem estReport_keeps : Keeps 12 s (estReport rg xg zg q s) := by
  unfold estReport
  dsimp only
  refine Keeps.step (State.bump_keeps ..) (by decide) (Keeps.step (State.setReg_keeps ..) (by decide) (Keeps.step (State.setReg_keeps ..) (by decide) ?_))
  exact Keeps.step (setOpen_keeps ..) (by decide) (Keeps.step (State.setReg_keeps ..) (by decide) ((State.openRound_keeps s _).mono (by decide)))

theorem estAccept_law : (estAccept rg xg zg q s).law = { s.law with est := { s.law.est with lastAt := some s.now } } := by
  have hk := estReport_keeps s (rg := rg) (xg := xg) (zg := zg) (q := q)
  have hlaw : (estReport rg xg zg q s).law = s.law := hk.parts .law (by decide)
  have hnow : (estReport rg xg zg q s).now = s.now := hk.parts .now (by decide)
  show ({ (estReport rg xg zg q s).law with est := { (estReport rg xg zg q s).law.est with lastAt := some (estReport rg xg zg q s).now } } : Law) = _
  rw [hlaw, hnow]

theorem estAccept_keeps : Keeps 32780 s (estAccept rg xg zg q s) :=
  Keeps.step (State.setReg_keeps ..) (by decide) (Keeps.step (State.setLs_keeps ..) (by decide)
    (Keeps.step (State.setLaw_keeps ..) (by decide) ((estReport_keeps s).mono (by decide))))

theorem estAccept_regs : (estAccept rg xg zg q s).reg Reg.R_G = q15Code rg ∧ (estAccept rg xg zg q s).reg Reg.X_G = q15Code xg ∧
    (estAccept rg xg zg q s).reg Reg.EST_STATE = 2 ∧ (estAccept rg xg zg q s).ls F.LAW_STATUS_EST_STALE = false := by
  have after {j : Nat} (h : j ≠ Reg.EST_STATE) (h' : j ≠ Reg.LAW_STATUS) :
      (estAccept rg xg zg q s).reg j = (estReport rg xg zg q s).reg j :=
    (reg_setReg_other _ _ h).trans (reg_setFlag_other _ _ _ h')
  refine ⟨?_, ?_, ?_, ?_⟩
  · rw [after (by decide) (by decide)]
    exact (reg_bump_other _ (by decide)).trans ((reg_setReg_other _ _ (by decide)).trans (reg_setReg_self _ _ _))
  · rw [after (by decide) (by decide)]
    exact (reg_bump_other _ (by decide)).trans (reg_setReg_self _ _ _)
  · unfold estAccept
    exact reg_setReg_self _ _ _
  · exact (ls_of_reg _ (reg_setReg_other _ _ (by decide))).trans (flag_setFlag_self _ _ _ _ (by decide))

/-- A register that acceptance leaves alone. -/
theorem estAccept_reg_other {j : Nat}
    (h : j ∉ [Reg.QUALITY, Reg.SCR, Reg.R_G, Reg.X_G, Reg.EST_COUNT, Reg.LAW_STATUS, Reg.EST_STATE]) :
    (estAccept rg xg zg q s).reg j = s.reg j := by
  simp only [List.mem_cons, List.not_mem_nil, or_false, not_or] at h
  obtain ⟨hq, hs, hr, hx, hc, hl, he⟩ := h
  have hround : (s.openRound (q * 100)).2.reg j = s.reg j := Keeps.reg (State.openRound_keeps s _) (by decide) j
  unfold estAccept estReport State.setLs
  dsimp only
  rw [reg_setReg_other _ _ he, reg_setFlag_other _ _ _ hl, setLaw_reg, reg_bump_other _ hc, reg_setReg_other _ _ hx, reg_setReg_other _ _ hr,
    setOpen_reg_other _ _ _ _ _ hs, reg_setReg_other _ _ hq, hround]

/-- The active parameters, the target and the targets of an estimate do not depend on acceptance (R51). -/
theorem estAccept_par (k : Nat) : (estAccept rg xg zg q s).par k = s.par k := by
  unfold State.par
  rw [estAccept_law]

theorem estAccept_target : (estAccept rg xg zg q s).target = s.target := by
  unfold State.target State.setTargets State.inBounds State.q15 State.parU
  simp only [estAccept_par]
  rw [estAccept_law]

theorem estAccept_targets (r x : Rat) : (estAccept rg xg zg q s).targets r x = s.targets r x := by
  unfold State.targets State.q15 State.parU State.fBase
  simp only [estAccept_par]
  rw [estAccept_reg_other s (by decide)]

theorem estAccept_time64 : (estAccept rg xg zg q s).time64 = s.time64 := by
  have hk := estAccept_keeps s (rg := rg) (xg := xg) (zg := zg) (q := q)
  have hnow : (estAccept rg xg zg q s).now = s.now := hk.parts .now (by decide)
  have hepoch : (estAccept rg xg zg q s).epoch = s.epoch := hk.parts .epoch (by decide)
  have hclk : (estAccept rg xg zg q s).clk = s.clk := hk.parts .clk (by decide)
  unfold State.time64 State.time64At State.ptpAt State.timeTick
  rw [hnow, hepoch, hclk]

/-- What an accepted window leaves in the objects of the estimator (R50). -/
theorem windowEnd_objects (he : s.estimate = some (rg, xg, zg, q)) (hq : (s.par Reg.Q_MIN : Rat) ≤ q * 100) :
    (windowEnd s).reg Reg.R_G = q15Code rg ∧ (windowEnd s).reg Reg.X_G = q15Code xg ∧ (windowEnd s).reg Reg.EST_STATE = 2 ∧
      (windowEnd s).ls F.LAW_STATUS_EST_STALE = false ∧ (windowEnd s).law.est.lastAt = some s.now := by
  obtain ⟨hr, hx, hstate, hstale⟩ := estAccept_regs s (rg := rg) (xg := xg) (zg := zg) (q := q)
  have hlast : (estAccept rg xg zg q s).law.est.lastAt = some s.now := by rw [estAccept_law]
  rw [windowEnd_accepted s he hq]
  simp only [estStart_reg, estStart_ls, estStart_lastAt]
  split
  · obtain ⟨hregs, hls, hest⟩ := newTarget_frame (estAccept rg xg zg q s) ((estAccept rg xg zg q s).targets rg xg) 1
    exact ⟨(hregs _ (by decide)).trans hr, (hregs _ (by decide)).trans hx, (hregs _ (by decide)).trans hstate, hls.trans hstale,
      (congrArg (·.lastAt) hest).trans hlast⟩
  · exact ⟨hr, hx, hstate, hstale, hlast⟩

/-- With RETUNE_EN new targets of an accepted estimate are taken (R51, R52). -/
theorem windowEnd_retunes (he : s.estimate = some (rg, xg, zg, q)) (hq : (s.par Reg.Q_MIN : Rat) ≤ q * 100)
    (hen : s.par Reg.RETUNE_EN = 1) (ht : s.targets rg xg ≠ s.target) :
    (windowEnd s).reg Reg.RETUNE_CAUSE = 1 ∧ (windowEnd s).reg Reg.RETUNE_TIME = s.time64 ∧ (windowEnd s).target = s.targets rg xg := by
  obtain ⟨hcause, htime, htarget⟩ := newTarget_spec (estAccept rg xg zg q s) 1 (tgt := s.targets rg xg) (by rwa [estAccept_target])
  rw [windowEnd_accepted s he hq, if_pos (by rwa [estAccept_par]), estAccept_targets, estStart_reg, estStart_reg, estStart_target, hcause, htime,
    htarget, estAccept_time64]
  exact ⟨rfl, rfl, rfl⟩

/-- Without RETUNE_EN, or at the target in use, nothing moves (R51). -/
theorem windowEnd_keepsTarget (he : s.estimate = some (rg, xg, zg, q)) (hq : (s.par Reg.Q_MIN : Rat) ≤ q * 100)
    (h : s.par Reg.RETUNE_EN ≠ 1 ∨ s.targets rg xg = s.target) :
    (windowEnd s).law.ramp = s.law.ramp ∧ (windowEnd s).reg Reg.RETUNE_CAUSE = s.reg Reg.RETUNE_CAUSE := by
  have hsame : windowEnd s = estStart (estAccept rg xg zg q s) := by
    rw [windowEnd_accepted s he hq, estAccept_par]
    split
    · next hen => rw [newTarget_self _ _ (by rw [estAccept_targets, estAccept_target]; exact h.resolve_left (not_not.2 hen))]
    · rfl
  rw [hsame, estStart_ramp, estStart_reg, estAccept_law, estAccept_reg_other s (by decide)]
  exact ⟨rfl, rfl⟩

end Sys2Proof.Machine

namespace Sys2Proof

open Machine

variable (s : State) (t : Instant)

theorem setStage_stage (n : Nat) : (setStage n s).reg Reg.BS_STAGE = n := by
  show (s.setReg Reg.BS_STAGE n).reg Reg.BS_STAGE = n
  exact reg_setReg_self s Reg.BS_STAGE n

theorem setStage_regsKept (n : Nat) : RegsKept [Reg.BS_STAGE] s (setStage n s) := fun k hk => by
  show (s.setReg Reg.BS_STAGE n).reg k = s.reg k
  exact reg_setReg_other s n (List.ne_of_not_mem_cons hk)

/-- Whether the estimator may run does not depend on EST_STALE. -/
theorem estRuns_setLs (f : Fld) (b : Bool) : (s.setLs f b).estRuns = s.estRuns := by
  have hreg {j : Nat} (h : j ≠ Reg.LAW_STATUS) : (s.setLs f b).reg j = s.reg j := reg_setFlag_other s f b h
  have hlaw : (s.setLs f b).law = s.law := (State.setLs_keeps s f b).parts .law (by decide)
  unfold State.estRuns State.lreg State.par State.mode
  rw [hreg (by decide), hreg (by decide), hlaw]

theorem settleComplete_spec (hm : s.reg Reg.MODE = 4) (hst : s.reg Reg.BS_STAGE = 4)
    (hh : heldFor s.cad.settleSince (Sys2Proof.ms (s.lreg Reg.SETTLE_T)) (s.advance t).now = true) :
    Completes (.settleComplete t) s fun u => u.cad = { s.cad with settled := true } ∧ PartsKept [.now, .cad] s u := by
  have he : exec (.settleComplete t) s = .next ((s.advance t).setCad { s.cad with settled := true }) :=
    if_pos (by simp only [State.mode, mSTART, hm, hst, hh]; decide)
  exact Completes.ofKeeps (execSettleComplete_keeps t s) he fun hk => ⟨rfl, hk.partsKept_of⟩

/-- An abort of START or SYNC (R102, R107); the soft stop that it overtakes is refused (log entry 43). -/
theorem abort_spec {c : Instr} {code : Nat} (he : exec c s = .next (abortTo code (s.advance t))) :
    Completes c s fun u => Enters 1 26 s u ∧ u.reg Reg.COND_FAIL = code ∧
      (s.ms F.MODE_STATUS_STOPPING = true → u.reg Reg.MODE_CMD = 3 ∧ u.reg Reg.CMD_REFUSAL = 11) := by
  refine ⟨_, he, (backToArmed_enters 26 (s.advance t)).setReg code (by decide), reg_setReg_self _ _ _, fun h => ?_⟩
  obtain ⟨hcmd, hcode⟩ := stopLost_refused (s := s.advance t) h
  unfold abortTo
  rw [reg_setReg_other _ _ (by decide), reg_setReg_other _ _ (by decide), backToArmed_cmdReg (by decide), backToArmed_cmdReg (by decide)]
  exact ⟨hcmd, hcode⟩

theorem startAbort_spec (hb : s.holds = true) (hc : (s.advance t).startAbort ≠ 0) :
    Completes (.startAbort t) s fun u => Enters 1 26 s u ∧ u.reg Reg.COND_FAIL = (s.advance t).startAbort ∧
      (s.ms F.MODE_STATUS_STOPPING = true → u.reg Reg.MODE_CMD = 3 ∧ u.reg Reg.CMD_REFUSAL = 11) :=
  abort_spec s t (if_pos (by simp [hb, hc]))

theorem syncAbort_spec (hb : s.holds = true) (hc : (s.advance t).syncAbort ≠ 0) :
    Completes (.syncAbort t) s fun u => Enters 1 26 s u ∧ u.reg Reg.COND_FAIL = (s.advance t).syncAbort ∧
      (s.ms F.MODE_STATUS_STOPPING = true → u.reg Reg.MODE_CMD = 3 ∧ u.reg Reg.CMD_REFUSAL = 11) :=
  abort_spec s t (if_pos (by simp [hb, hc]))

theorem syncHoldExpiry_spec (hm : s.matching = true) (hi : s.bs F.BS_STATUS_IN_SYNC = false)
    (hh : heldFor s.cad.inWinSince (Sys2Proof.ms (s.lreg Reg.SYNC_HOLD)) (s.advance t).now = true) :
    Completes (.syncHoldExpiry t) s fun u => u.reg Reg.BS_STAGE = 7 ∧ u.bs F.BS_STATUS_IN_SYNC = true ∧
      RegsKept [Reg.BS_STAGE, Reg.BS_STATUS] s u ∧ PartsKept [.now, .regs, .cad] s u := by
  have he : exec (.syncHoldExpiry t) s = .next ((setStage 7 (s.advance t)).setBs F.BS_STATUS_IN_SYNC true) := if_pos (by rw [hm, hi, hh]; rfl)
  refine Completes.ofKeeps (execSyncHoldExpiry_keeps t s) he fun hk => ⟨?_, flag_setFlag_self _ _ _ _ (by decide), ?_, hk.partsKept_of⟩
  · exact (reg_setFlag_other _ _ _ (by decide)).trans (setStage_stage _ _)
  · have h : RegsKept [Reg.BS_STAGE, Reg.BS_STATUS] s (setStage 7 (s.advance t)) := fun k hk =>
      setStage_regsKept (s.advance t) 7 k fun hm => hk (List.mem_cons.2 (.inl (List.mem_singleton.1 hm)))
    exact regsKept_setFlag h _ _ (by simp)

theorem closeWinExpiry_spec (hm : s.reg Reg.MODE = 5) (hst : s.reg Reg.BS_STAGE = 7) (hi : s.bs F.BS_STATUS_IN_SYNC = false)
    (hh : heldFor s.cad.clearedAt (Sys2Proof.ms (s.lreg Reg.CLOSE_WIN)) (s.advance t).now = true) :
    Completes (.closeWinExpiry t) s fun u => u.reg Reg.BS_STAGE = 6 ∧ RegsKept [Reg.BS_STAGE] s u ∧ PartsKept [.now, .regs, .cad] s u := by
  have he : exec (.closeWinExpiry t) s = .next (setStage 6 (s.advance t)) := if_pos (by simp only [State.mode, mSYNC, hm, hst, hi, hh]; decide)
  exact Completes.ofKeeps (execCloseWinExpiry_keeps t s) he fun hk => ⟨setStage_stage _ _, setStage_regsKept (s.advance t) 6, hk.partsKept_of⟩

theorem exec_estimateWindowEnd (hr : s.estRuns = true) (ho : s.law.est.on = true) (hw : s.par Reg.WINDOW ≤ s.law.est.chips.length) :
    exec (.estimateWindowEnd t) s = .next (windowEnd (s.advance t)) :=
  if_pos (by simp [hr, ho, hw])

theorem estimateWindowEnd_starts (he : exec (.estimateWindowEnd t) s = .next (windowEnd (s.advance t))) :
    Completes (.estimateWindowEnd t) s fun u => u.law.est.on = true ∧ u.law.est.chips = [] ∧ u.law.est.startAt = (s.advance t).now := by
  have hnow : (windowEnd (s.advance t)).now = (s.advance t).now := (windowEnd_keeps _).parts .now (by decide)
  obtain ⟨w, hw⟩ := windowEnd_starts (s.advance t)
  rw [hw] at he hnow
  exact ⟨_, he, rfl, rfl, hnow⟩

theorem estimateStale_spec (h : s.law.est.lastAt.getD s.bootInfo.bootAt + sec (s.par Reg.STALE_S) ≤ (s.advance t).now) :
    Completes (.estimateStale t) s fun u => u.ls F.LAW_STATUS_EST_STALE = true ∧ (s.estRuns = true → u.reg Reg.EST_STATE = 3) ∧
      RegsKept [Reg.LAW_STATUS, Reg.EST_STATE] s u ∧ PartsKept [.now, .regs] s u := by
  let w := (s.advance t).setLs F.LAW_STATUS_EST_STALE true
  have he : exec (.estimateStale t) s = .next (if w.estRuns then w.setReg Reg.EST_STATE 3 else w) := if_pos h
  have hruns : w.estRuns = s.estRuns := estRuns_setLs (s.advance t) _ _
  have hflag : w.ls F.LAW_STATUS_EST_STALE = true := flag_setFlag_self (s.advance t) _ _ _ (by decide)
  have hregs : RegsKept [Reg.LAW_STATUS, Reg.EST_STATE] s w := regsKept_setFlag (regsKept_refl s _) _ _ (by simp)
  refine Completes.ofKeeps (execEstimateStale_keeps t s) he fun hk => ⟨?_, fun hr => ?_, ?_, hk.partsKept_of⟩
  · split
    · exact (ls_of_reg _ (reg_setReg_other w 3 (by decide))).trans hflag
    · exact hflag
  · rw [if_pos (hruns.trans hr)]
    exact reg_setReg_self w Reg.EST_STATE 3
  · split
    · exact hregs.step (by simp)
    · exact hregs

/-- Settles O23, clause by clause from the lemma of each command. -/
theorem startSyncAndEstimator : Obligations.StartSyncAndEstimator := by
  unfold Obligations.StartSyncAndEstimator
  intro s t n
  refine ⟨settleComplete_spec s t, startAbort_spec s t, syncAbort_spec s t, syncHoldExpiry_spec s t, closeWinExpiry_spec s t, ?_,
    estimateStale_spec s t⟩
  intro hr ho hw
  have hexec := exec_estimateWindowEnd s t hr ho hw
  refine ⟨estimateWindowEnd_starts s t hexec, fun rg xg zg q he hq => ⟨_, hexec, ?_⟩⟩
  obtain ⟨hrg, hxg, hstate, hstale, hlast⟩ := windowEnd_objects (s.advance t) he hq
  exact ⟨hrg, hxg, hstate, hstale, hlast, windowEnd_retunes (s.advance t) he hq, windowEnd_keepsTarget (s.advance t) he hq⟩

end Sys2Proof
end

section
/-!
SUPPORT. The cycles of the engines (R124, R136 to R143, R150): what a missed deadline, the end of a control phase and the start of a cycle leave
of the engine itself and of the others.
-/

namespace Sys2Proof.Machine

/-! ## Missed deadlines (R137 to R140) -/

/-- R139 acts on the PWM generator and on the dictionary, then the engine's record of the shadows it has replaced is empty. -/
theorem invalidateWrites_spec (e : Nat) (s : State) :
    ∃ w, Keeps 136 s w ∧ invalidateWrites e s = w.setEngine e { w.engine e with before := [] } := by
  refine ⟨_, Keeps.forEach _ _ (fun g u hu => ?_) (Keeps.forEach _ _ (fun b u hu => ?_) (Keeps.refl 136 s)), rfl⟩
  · dsimp only
    split
    · exact hu
    · exact Keeps.ite hu fun _ => Keeps.ite (hu.trans ((State.setSnap_keeps ..).mono (by decide))) fun _ =>
        Keeps.step (tornGroup_keeps ..) (by decide) (hu.trans ((State.setSnap_keeps ..).mono (by decide)))
  · exact Keeps.ite hu fun _ => hu.trans ((State.setShadow_keeps ..).mono (by decide))

theorem invalidateWrites_engine (e : Nat) (s : State) : (invalidateWrites e s).engine e = { s.engine e with before := [] } := by
  obtain ⟨w, hk, hw⟩ := invalidateWrites_spec e s
  rw [hw, engine_setEngine, Keeps.engine hk rfl]

theorem invalidateWrites_engine_other {e j : Nat} (h : j ≠ e) (s : State) : (invalidateWrites e s).engine j = s.engine j := by
  obtain ⟨w, hk, hw⟩ := invalidateWrites_spec e s
  rw [hw, engine_setEngine_other _ _ h, Keeps.engine hk rfl]

theorem missDeadline_engine (e : Nat) (s : State) :
    (missDeadline e s).engine e = { s.engine e with before := [], late := true, missNow := true } := by
  unfold missDeadline
  dsimp only
  rw [Keeps.engine (countMiss_keeps ..) rfl, Keeps.engine (snapshotsEligible_keeps ..) rfl, engine_setEngine,
    Keeps.engine (cancelLoads_keeps ..) rfl, invalidateWrites_engine]

theorem missDeadline_engine_other {e j : Nat} (h : j ≠ e) (s : State) : (missDeadline e s).engine j = s.engine j := by
  unfold missDeadline
  dsimp only
  rw [Keeps.engine (countMiss_keeps ..) rfl, Keeps.engine (snapshotsEligible_keeps ..) rfl, engine_setEngine_other _ _ h,
    Keeps.engine (cancelLoads_keeps ..) rfl, invalidateWrites_engine_other h]

/-- An engine outside the law of the device (R34). -/
def Outside (e : Nat) (s : State) : Prop := s.reg Reg.LAW_BUILTIN ≠ 1 ∨ 8 ≤ e

theorem Outside.of_reg {e : Nat} {s u : State} (h : Outside e s) (hr : u.reg Reg.LAW_BUILTIN = s.reg Reg.LAW_BUILTIN) : Outside e u := by
  unfold Outside; rwa [hr]

theorem Outside.cond {e : Nat} {s : State} (h : Outside e s) : (!s.builtin || decide (8 ≤ e)) = true := by
  unfold State.builtin
  rcases h with h | h <;> simp [h]

/-- It has no part in the outer cycle (R39). -/
theorem Outside.outerEngine {e : Nat} {s : State} (h : Outside e s) : s.outerEngine e = false := by
  unfold State.outerEngine State.builtin
  rcases h with h | h
  · simp [h]
  · simp [show e ≠ 0 by omega]

theorem Outside.lateIncrement {e : Nat} {s : State} (h : Outside e s) : lateIncrement e s = s := by
  refine if_neg ?_
  unfold State.builtin
  rcases h with h | h
  · simp [h]
  · simp [show ¬e < 8 by omega]

theorem Outside.lawWork {e : Nat} {s : State} (h : Outside e s) (late : Bool) : lawWork e late s = s := if_pos h.cond

theorem engKey_ne_builtin (e : Nat) {b : Nat} (hb : b < 256) : Reg.LAW_BUILTIN ≠ Reg.key (0x2C20 + e) b := by
  unfold Reg.LAW_BUILTIN Reg.key; omega

/-- A missed cycle of an engine outside the law sets its MISS; of the law it touches `missed` at most (R142). -/
theorem countMiss_spec {e : Nat} {s : State} (h : Outside e s) :
    (countMiss e s).flag (Reg.ENG_STATUS e) F.ENG_STATUS_MISS = true ∧ (countMiss e s).law.innerDue = s.law.innerDue := by
  have hinner (u : State) : (innerMissed e u).law.innerDue = u.law.innerDue := by
    unfold innerMissed; split <;> rfl
  unfold countMiss
  extract_lets u v
  have hv : v.regs = u.regs ∧ v.law.innerDue = u.law.innerDue := by
    unfold v
    split
    · exact ⟨(innerMissed_keeps e u).parts .regs (by decide), hinner u⟩
    · exact ⟨rfl, rfl⟩
  obtain ⟨hregs, hdue⟩ := hv
  have hout : Outside e v := h.of_reg <| by
    rw [reg_of_regs hregs]
    exact (reg_setFlag_other _ _ _ (engKey_ne_builtin e (by decide))).trans (reg_bump_other _ (engKey_ne_builtin e (by decide)))
  have hlaw : u.law = s.law := (Keeps.step (State.setFlag_keeps ..) (by decide) (State.bump_keeps s (Reg.MISS_COUNT e))).parts .law (by decide)
  rw [hout.outerEngine, if_neg Bool.false_ne_true]
  exact ⟨(flag_of_reg _ (reg_of_regs hregs _)).trans (flag_setFlag_self _ _ _ _ (by decide)), by rw [hdue, hlaw]⟩

theorem tornGroup_pwmRegs {g : Nat} (hg : g < 8) {s u : State} (h : PwmRegs s u) : PwmRegs s (tornGroup g u) :=
  (h.update (u := setLoadStatus (8 + g) true u) rfl).setFlag _ _ (pwmPage_lgStatus hg)

theorem cancelSnapshot_pwmRegs {g : Nat} (hg : g < 8) {s u : State} (h : PwmRegs s u) : PwmRegs s (cancelSnapshot g u) :=
  (h.update (u := (setLoadStatus (16 + g) true u).setSnap g none) rfl).setFlag _ _ (pwmPage_lgStatus hg)

theorem invalidateWrites_pwmRegs (e : Nat) (s : State) : PwmRegs s (invalidateWrites e s) := by
  unfold invalidateWrites
  dsimp only
  refine PwmRegs.keeps (PwmRegs.forEach (PwmRegs.forEach (PwmRegs.refl s) fun b _ u => ?_) fun g hg u => ?_) (State.setEngine_keeps ..)
  · exact PwmRegs.ite ((PwmRegs.refl u).keeps (State.setShadow_keeps ..)) (PwmRegs.refl u)
  · have hu := PwmRegs.refl u
    split
    · exact hu
    · have hsnap (v : Option Snapshot) : PwmRegs u (u.setSnap g v) := hu.keeps (State.setSnap_keeps ..)
      exact PwmRegs.ite (PwmRegs.ite (tornGroup_pwmRegs (List.mem_range.1 hg) (hsnap _)) (hsnap _)) hu

theorem cancelLoads_pwmRegs (e : Nat) (s : State) : PwmRegs s (cancelLoads e s) := by
  unfold cancelLoads
  refine PwmRegs.forEach (PwmRegs.refl s) fun g hg u => ?_
  have hu := PwmRegs.refl u
  split
  · exact PwmRegs.ite (cancelSnapshot_pwmRegs (List.mem_range.1 hg) hu) hu
  · exact hu

/-- What comes before the count of a missed deadline. -/
theorem missDeadline_eq (e : Nat) (s : State) : ∃ w, Keeps 204 s w ∧ PwmRegs s w ∧ missDeadline e s = countMiss e w := by
  have hc := Keeps.step (cancelLoads_keeps e (invalidateWrites e s)) (f := 204) (by decide) ((invalidateWrites_keeps e s).mono (by decide))
  have hp := (invalidateWrites_pwmRegs e s).trans (cancelLoads_pwmRegs e _)
  unfold missDeadline
  dsimp only
  generalize cancelLoads e (invalidateWrites e s) = u at hc hp ⊢
  refine ⟨_, Keeps.step (snapshotsEligible_keeps ..) (by decide) (Keeps.step (State.setEngine_keeps ..) (by decide) hc), ?_, rfl⟩
  exact (hp.keeps (State.setEngine_keeps ..)).trans (snapshotsEligible_pwmRegs _ _)

theorem not_pwmPage_builtin : ¬pwmPage Reg.LAW_BUILTIN := by unfold pwmPage Reg.LAW_BUILTIN Reg.key; omega

theorem not_pwmPage_eng (e : Nat) {b : Nat} (hb : b < 256) : ¬pwmPage (Reg.key (0x2C20 + e) b) := by unfold pwmPage Reg.key; omega

theorem missDeadline_spec {e : Nat} {s : State} (h : Outside e s) :
    (missDeadline e s).flag (Reg.ENG_STATUS e) F.ENG_STATUS_MISS = true ∧ (missDeadline e s).law.innerDue = s.law.innerDue := by
  obtain ⟨w, hk, hp, hw⟩ := missDeadline_eq e s
  obtain ⟨hflag, hdue⟩ := countMiss_spec (h.of_reg (hp.reg _ not_pwmPage_builtin))
  have hlaw : w.law = s.law := hk.parts .law (by decide)
  rw [hw]
  exact ⟨hflag, by rw [hdue, hlaw]⟩

/-! ## The end of a control phase (R38, R150) -/

/-- The engine after its control phase, before a shutdown that waited for it completes. -/
def Engine.ended (x : Engine) : Engine := { x with inCycle := false, wait := .none, timedQ := [], fabQ := [], before := [] }

/-- The state in which a shutdown that waited for the end of the phase completes. -/
def phaseEnded (e : Nat) (s : State) : State :=
  snapshotsEligible (s.tickCeil s.now) (s.setEngine e (s.engine e).ended)

theorem endPhase_eq (e : Nat) (s : State) : endPhase e s = engStopped e (phaseEnded e s) := rfl

theorem phaseEnded_engine (e : Nat) (s : State) : (phaseEnded e s).engine e = (s.engine e).ended := by
  unfold phaseEnded
  rw [Keeps.engine (snapshotsEligible_keeps ..) rfl, engine_setEngine]

theorem phaseEnded_engine_other {e j : Nat} (h : j ≠ e) (s : State) : (phaseEnded e s).engine j = s.engine j := by
  unfold phaseEnded
  rw [Keeps.engine (snapshotsEligible_keeps ..) rfl, engine_setEngine_other _ _ h]

theorem phaseEnded_pwmRegs (e : Nat) (s : State) : PwmRegs s (phaseEnded e s) :=
  ((PwmRegs.refl s).keeps (State.setEngine_keeps ..)).trans (snapshotsEligible_pwmRegs _ _)

theorem engStopped_running {e : Nat} {s : State} (h : (s.engine e).stopping = false) : engStopped e s = s := if_neg (by simp [h])

theorem endPhase_running {e : Nat} {s : State} (h : (s.engine e).stopping = false) : endPhase e s = phaseEnded e s := by
  rw [endPhase_eq, engStopped_running]
  rw [phaseEnded_engine]
  exact h

/-- A shutdown leaves of its engine all but its own marks, and writes ENABLE alone. -/
theorem engStopped_spec (e : Nat) (s : State) :
    (∃ a b c, (engStopped e s).engine e = { s.engine e with stopping := a, pendEnable := b, cycle0 := c }) ∧
      (∀ j, j ≠ e → (engStopped e s).engine j = s.engine j) ∧ RegsKept [Reg.ENABLE e] s (engStopped e s) := by
  unfold engStopped
  dsimp only
  split
  · split
    · refine ⟨⟨false, false, (s.engine e).cycleNo, ?_⟩, fun j h => ?_, fun k hk => ?_⟩
      · unfold engEnabled
        dsimp only
        rw [setReg_engine, engine_setEngine, setReg_engine, engine_setEngine]
      · unfold engEnabled
        dsimp only
        rw [setReg_engine, engine_setEngine_other _ _ h, setReg_engine, engine_setEngine_other _ _ h]
      · have hk' := List.ne_of_not_mem_cons hk
        unfold engEnabled
        dsimp only
        rw [reg_setReg_other _ _ hk', setEngine_reg, reg_setReg_other _ _ hk', setEngine_reg]
    · refine ⟨⟨false, false, (s.engine e).cycle0, ?_⟩, fun j h => ?_, fun k hk => ?_⟩
      · rw [setReg_engine, engine_setEngine]
      · rw [setReg_engine, engine_setEngine_other _ _ h]
      · rw [reg_setReg_other _ _ (List.ne_of_not_mem_cons hk), setEngine_reg]
  · exact ⟨⟨(s.engine e).stopping, (s.engine e).pendEnable, (s.engine e).cycle0, rfl⟩, fun _ _ => rfl, fun _ _ => rfl⟩

theorem endPhase_engine_other {e j : Nat} (h : j ≠ e) (s : State) : (endPhase e s).engine j = s.engine j := by
  obtain ⟨-, hother, -⟩ := engStopped_spec e (phaseEnded e s)
  rw [endPhase_eq, hother j h, phaseEnded_engine_other h]

/-- Nothing of the control phase stands after its end. -/
theorem endPhase_ended (e : Nat) (s : State) :
    ((endPhase e s).engine e).inCycle = false ∧ ((endPhase e s).engine e).wait = .none ∧ ((endPhase e s).engine e).timedQ = [] ∧
      ((endPhase e s).engine e).fabQ = [] := by
  obtain ⟨⟨a, b, c, hself⟩, -, -⟩ := engStopped_spec e (phaseEnded e s)
  rw [endPhase_eq, hself, phaseEnded_engine]
  exact ⟨rfl, rfl, rfl, rfl⟩

/-- The flags of ENG_STATUS stand through the end of a control phase. -/
theorem endPhase_flag (e : Nat) (s : State) (f : Fld) : (endPhase e s).flag (Reg.ENG_STATUS e) f = s.flag (Reg.ENG_STATUS e) f := by
  obtain ⟨-, -, hregs⟩ := engStopped_spec e (phaseEnded e s)
  refine flag_of_reg f ?_
  rw [endPhase_eq, hregs _ fun hm => ?_, (phaseEnded_pwmRegs e s).reg (Reg.ENG_STATUS e) (not_pwmPage_eng e (by decide))]
  have heq := List.mem_singleton.1 hm
  unfold Reg.ENG_STATUS Reg.ENABLE Reg.key at heq
  omega

theorem endPhase_cycleNo (e : Nat) (s : State) : ((endPhase e s).engine e).cycleNo = (s.engine e).cycleNo := by
  obtain ⟨⟨a, b, c, hself⟩, -, -⟩ := engStopped_spec e (phaseEnded e s)
  rw [endPhase_eq, hself, phaseEnded_engine]
  rfl

/-! ## The start of a cycle (R124, R136) -/

theorem startCycle_engine_other {e j : Nat} (h : j ≠ e) (n : Nat) (a : Instant) (s : State) : (startCycle e n a s).engine j = s.engine j := by
  unfold startCycle
  dsimp only
  split
  · exact Keeps.engine (countMiss_keeps e s) rfl j
  · split
    · rfl
    · rw [engine_setEngine_other _ _ h, Keeps.engine (State.bump_keeps ..) rfl]
      split
      · rw [engine_setEngine_other _ _ h, Keeps.engine (State.setFlag_keeps ..) rfl, Keeps.engine (State.bump_keeps ..) rfl,
          endPhase_engine_other h]
        split
        · rfl
        · exact missDeadline_engine_other h s
      · rfl

/-- An engine in which a cycle may start. -/
structure Ready (x : Engine) : Prop where
  valid : x.valid = true
  sound : x.faulted = false
  loaded : x.loading = false
  stays : x.stopping = false

/-- A new cycle of an engine begins, after the abort of one that still executes (R124, R136). -/
theorem startCycle_begins {e : Nat} {s : State} (hx : Ready (s.engine e)) (n : Nat) (a : Instant) :
    ((startCycle e n a s).engine e).inCycle = true ∧ ((startCycle e n a s).engine e).alarmAt = a ∧
      ((startCycle e n a s).engine e).flags = 0 ∧ ((startCycle e n a s).engine e).cycleNo = (s.engine e).cycleNo + 1 := by
  obtain ⟨hv, hf, hl, hs⟩ := hx
  unfold startCycle
  dsimp only
  rw [if_neg (by simp [hf]), if_neg (by simp [hv, hl, hs]), engine_setEngine]
  refine ⟨rfl, rfl, rfl, congrArg (· + 1) ?_⟩
  split
  · rw [engine_setEngine]
    dsimp only
    rw [Keeps.engine (State.setFlag_keeps ..) rfl, Keeps.engine (State.bump_keeps ..) rfl, endPhase_cycleNo]
    split
    · rfl
    · rw [missDeadline_engine]
  · rfl

/-- It begins at ENTRY and waits for nothing. -/
theorem startCycle_entry {e : Nat} {s : State} (hx : Ready (s.engine e)) (hc : (s.engine e).inCycle = false) (n : Nat) (a : Instant) :
    ((startCycle e n a s).engine e).pc = BitVec.ofNat 13 (s.reg (Reg.ENTRY e)) ∧ ((startCycle e n a s).engine e).wait = .none := by
  obtain ⟨hv, hf, hl, hs⟩ := hx
  have hne : Reg.ENTRY e ≠ Reg.CYCLES e := by unfold Reg.ENTRY Reg.CYCLES Reg.key; omega
  unfold startCycle
  dsimp only
  rw [if_neg (by simp [hf]), if_neg (by simp [hv, hl, hs]), if_neg (by simp [hc]), engine_setEngine, reg_bump_other _ hne]
  exact ⟨rfl, rfl⟩

/-! ## Deadlines (R137 to R140, R150) -/

theorem passDeadline_kept {d : Instant} {e : Nat} {s : State}
    (h : (s.engine e).inCycle = false ∨ (s.engine e).late = true ∨ d ≤ (s.engine e).deadline) : passDeadline d e s = s := by
  refine if_neg ?_
  rcases h with h | h | h
  · simp [h]
  · simp [h]
  · simp [not_lt.2 h]

/-- An engine outside the law passes its deadline: it is late and MISS is set; a shutdown that waited ends its cycle. -/
theorem passDeadline_spec {d : Instant} {e : Nat} {s : State} (ho : Outside e s) (hc : (s.engine e).inCycle = true)
    (hl : (s.engine e).late = false) (hd : (s.engine e).deadline < d) :
    (passDeadline d e s).flag (Reg.ENG_STATUS e) F.ENG_STATUS_MISS = true ∧
      ((passDeadline d e s).engine e).inCycle = !(s.engine e).stopping ∧
      ((s.engine e).stopping = false → ((passDeadline d e s).engine e).late = true ∧
        (passDeadline d e s).law.innerDue = s.law.innerDue) := by
  obtain ⟨hflag, hdue⟩ := missDeadline_spec ho
  rw [show passDeadline d e s = _ from if_pos (by simp [hc, hl, hd])]
  rw [ho.lateIncrement]
  split
  · next hst =>
    rw [endPhase_flag, (endPhase_ended _ _).1, hst]
    exact ⟨hflag, rfl, nofun⟩
  · next hst =>
    rw [Bool.not_eq_true] at hst
    rw [missDeadline_engine, hst, hc]
    exact ⟨hflag, rfl, fun _ => ⟨rfl, hdue⟩⟩

theorem innerDeadlineDue_none {d : Instant} {s : State} (h : (s.law.innerDue.any fun x => decide (x.2 < d)) = false) :
    innerDeadlineDue d s = s := by
  have hnil : (s.law.innerDue.filter fun x => decide (x.2 < d)) = [] := List.filter_eq_nil_iff.2 (List.any_eq_false.1 h)
  unfold innerDeadlineDue
  rw [hnil]
  rfl

/-! ## Slack (Table 5-14) -/

theorem slack_engine (e : Nat) (s : State) : ∃ b, (slack e s).engine e = { s.engine e with slackValid := b } := by
  unfold slack
  dsimp only
  split
  · exact ⟨(s.engine e).slackValid, setReg_engine ..⟩
  · refine ⟨true, ?_⟩
    rw [engine_setEngine, setReg_engine]

theorem slack_last (e : Nat) (s : State) : (slack e s).reg (Reg.SLACK_LAST e) =
    sput 32 (satS 32 ((s.time64At (s.engine e).deadline : Int) - s.time64At (s.tickCeil s.now))) := by
  have hne : Reg.SLACK_LAST e ≠ Reg.SLACK_MIN e := by unfold Reg.SLACK_LAST Reg.SLACK_MIN Reg.key; omega
  unfold slack
  dsimp only
  split
  · exact reg_setReg_self _ _ _
  · rw [setEngine_reg, reg_setReg_other _ _ hne, reg_setReg_self]

end Sys2Proof.Machine
end

section
/-!
SUPPORT. Time alarms (R320 to R322) and the delivery of port writes (R130, R131, R137): what a delivery leaves of its alarm, and
what a registered write leaves of memory, the shadows and the queues.
-/

namespace Sys2Proof.Machine

/-! ## Instances of an alarm (R320, R321) -/

/-- The registers of an alarm that a delivery writes. -/
def alarmRegs (n : Nat) : List Nat := [Reg.TA_CFG n, Reg.TA_COUNT n, Reg.TA_STATUS n]

/-- A due time is taken from its alarm and counted, before the next one is placed. -/
def alarmCounted (n : Nat) (i : Instant × Bool) (s : State) : State :=
  let s := s.setAlarm n { s.alarm n with insts := (s.alarm n).insts.drop 1, n := (s.alarm n).n + 1 }
  let s := s.bump (Reg.TA_COUNT n)
  if i.2 then s.setFlag (Reg.TA_STATUS n) F.TA_STATUS_LATE true else s

theorem taKey_ne {a b : Nat} (n : Nat) (h : a < b) : Reg.key (0x2240 + n) a ≠ Reg.key (0x2240 + n) b := by unfold Reg.key; omega

section

variable (n : Nat) (i : Instant × Bool) (s : State)

theorem alarm_setAlarm (a : Alarm) : (s.setAlarm n a).alarm n = a := tabGet_set_self _ _ _ _

theorem alarm_of_alarms {s u : State} (h : u.alarms = s.alarms) : u.alarm n = s.alarm n := by unfold State.alarm; rw [h]

theorem alarm_setFld (k : Nat) (f : Fld) (v : Nat) : (s.setFld k f v).alarm n = s.alarm n := alarm_of_alarms n rfl

theorem alarmCounted_alarm :
    (alarmCounted n i s).alarm n = { s.alarm n with insts := (s.alarm n).insts.drop 1, n := (s.alarm n).n + 1 } := by
  have hb (u : State) : (u.bump (Reg.TA_COUNT n)).alarm n = u.alarm n := alarm_of_alarms n ((State.bump_keeps ..).parts .alarms (by decide))
  unfold alarmCounted
  dsimp only
  split
  · exact (hb _).trans (alarm_setAlarm ..)
  · exact (hb _).trans (alarm_setAlarm ..)

theorem alarmCounted_reg_other {j : Nat} (hc : j ≠ Reg.TA_COUNT n) (hs : j ≠ Reg.TA_STATUS n) :
    (alarmCounted n i s).reg j = s.reg j := by
  unfold alarmCounted
  dsimp only
  split
  · rw [reg_setFlag_other _ _ _ hs, reg_bump_other _ hc, setAlarm_reg]
  · rw [reg_bump_other _ hc, setAlarm_reg]

/-- The alarm's configuration is not among what it writes. -/
theorem alarmCounted_config {b : Nat} (hb : b < 8) : (alarmCounted n i s).reg (Reg.key (0x2240 + n) b) = s.reg (Reg.key (0x2240 + n) b) :=
  alarmCounted_reg_other n i s (taKey_ne n hb) (taKey_ne n (hb.trans (by decide)))

theorem alarmCounted_count (h : s.reg (Reg.TA_COUNT n) + 1 < 2 ^ 32) :
    (alarmCounted n i s).reg (Reg.TA_COUNT n) = s.reg (Reg.TA_COUNT n) + 1 := by
  have hne : Reg.TA_COUNT n ≠ Reg.TA_STATUS n := taKey_ne n (by decide)
  unfold alarmCounted
  dsimp only
  split
  · rw [reg_setFlag_other _ _ _ hne]
    exact reg_bump_self _ h
  · exact reg_bump_self _ h

theorem alarmCounted_late (h : i.2 = true) : (alarmCounted n i s).flag (Reg.TA_STATUS n) F.TA_STATUS_LATE = true := by
  unfold alarmCounted
  dsimp only
  rw [if_pos h]
  exact flag_setFlag_self _ _ _ _ (by decide)

/-- The next due time of a periodic alarm is placed, a single one is disabled. -/
theorem alarmDelivered_cases :
    (s.fld (Reg.TA_CFG n) F.TA_CFG_MODE = 0 ∧
        alarmDelivered n i s = placeInst n (i.1 + s.taPeriod n) false (alarmCounted n i s)) ∨
      (s.fld (Reg.TA_CFG n) F.TA_CFG_MODE ≠ 0 ∧ (alarmDelivered n i s = alarmCounted n i s ∨
        alarmDelivered n i s = (alarmCounted n i s).setFld (Reg.TA_CFG n) F.TA_CFG_EN 0)) := by
  have hcfg : (alarmCounted n i s).fld (Reg.TA_CFG n) F.TA_CFG_MODE = s.fld (Reg.TA_CFG n) F.TA_CFG_MODE := by
    unfold State.fld Reg.TA_CFG
    rw [alarmCounted_config n i s (by decide)]
  have hper : (alarmCounted n i s).taPeriod n = s.taPeriod n := by
    unfold State.taPeriod Reg.TA_PERIOD Reg.TA_PERIOD_FRAC
    rw [alarmCounted_config n i s (by decide), alarmCounted_config n i s (by decide)]
  unfold alarmDelivered
  dsimp only
  split
  · next h => exact .inl ⟨hcfg.symm.trans h, by rw [← hper]; rfl⟩
  · next h => exact .inr ⟨fun h0 => absurd (h0.symm.trans (hcfg.symm.trans h)) (by decide), .inr rfl⟩
  · next h0 _ => exact .inr ⟨fun h => h0 (hcfg.trans h), .inl rfl⟩

theorem alarmDelivered_reg_other {j : Nat} (hj : j ∉ alarmRegs n) : (alarmDelivered n i s).reg j = s.reg j := by
  simp only [alarmRegs, List.mem_cons, List.not_mem_nil, or_false, not_or] at hj
  obtain ⟨hcfg, hcount, hstatus⟩ := hj
  have hc := alarmCounted_reg_other n i s hcount hstatus
  rcases alarmDelivered_cases n i s with ⟨-, h⟩ | ⟨-, h | h⟩ <;> rw [h]
  · exact hc
  · exact hc
  · rw [reg_setFld_other _ _ _ hcfg, hc]

/-- The count and the flags of the alarm are those left by the count. -/
theorem alarmDelivered_reg {j : Nat} (hj : j ≠ Reg.TA_CFG n) : (alarmDelivered n i s).reg j = (alarmCounted n i s).reg j := by
  rcases alarmDelivered_cases n i s with ⟨-, h⟩ | ⟨-, h | h⟩ <;> rw [h]
  · rfl
  · exact reg_setFld_other _ _ _ hj

theorem alarmDelivered_alarm_n : ((alarmDelivered n i s).alarm n).n = (s.alarm n).n + 1 := by
  have hc : ((alarmCounted n i s).alarm n).n = (s.alarm n).n + 1 := by rw [alarmCounted_alarm]
  rcases alarmDelivered_cases n i s with ⟨-, h⟩ | ⟨-, h | h⟩ <;> rw [h]
  · unfold placeInst
    dsimp only
    rw [alarm_setAlarm, hc]
  · exact hc
  · rw [alarm_setFld, hc]

theorem alarmDelivered_insts {rest : List (Instant × Bool)} (hi : (s.alarm n).insts = i :: rest) :
    (s.fld (Reg.TA_CFG n) F.TA_CFG_MODE = 0 → ((alarmDelivered n i s).alarm n).insts = insertInst (i.1 + s.taPeriod n, false) rest) ∧
      (s.fld (Reg.TA_CFG n) F.TA_CFG_MODE ≠ 0 → ((alarmDelivered n i s).alarm n).insts = rest) := by
  have hc : ((alarmCounted n i s).alarm n).insts = rest := by rw [alarmCounted_alarm, hi, List.drop_one, List.tail_cons]
  rcases alarmDelivered_cases n i s with ⟨hm, h⟩ | ⟨hm, h | h⟩ <;> rw [h]
  · refine ⟨fun _ => ?_, fun h0 => absurd hm h0⟩
    unfold placeInst
    dsimp only
    rw [alarm_setAlarm, hc]
  · exact ⟨fun h0 => absurd h0 hm, fun _ => hc⟩
  · rw [alarm_setFld, hc]
    exact ⟨fun h0 => absurd h0 hm, fun _ => rfl⟩

/-! ## Cycles that a delivery starts (R38, R136) -/

/-- A delivery of an alarm with no inner cycle in progress fixes at most the inner deadline. -/
theorem innerBegin_keepsLaw (a : Instant) (h : (s.law.innerDue.any fun d => d.1 == n) = false) : Keeps 32768 s (innerBegin n a s) := by
  unfold innerBegin
  rw [h]
  simp only [Bool.false_eq_true, if_false]
  split
  · exact Keeps.refl _ s
  · exact State.setLaw_keeps ..

/-- The engines that a delivery starts. -/
def State.startedBy (s : State) (n : Nat) : List Nat :=
  (List.range 16).filter fun e => s.reg (Reg.ENABLE e) == 1 && s.reg (Reg.ALARM e) == n

/-- A delivery of an alarm other than TA0 that carries no heartbeat: it is counted, it starts its engines, it triggers. -/
theorem alarmInstance_starts (hn : n ≠ 0) (hb : s.reg Reg.LAW_BUILTIN = 1 ∨ s.reg Reg.HB_ALARM ≠ n)
    (hd : (s.law.innerDue.any fun d => d.1 == n) = false) :
    ∃ v, Keeps 32768 (alarmDelivered n i s) v ∧
      alarmInstance n i s = raiseTrig (0x10 + n) i.1 (v.forEach (v.startedBy n) fun e s => startCycle e n i.1 s) := by
  have hbeats : (!s.builtin && s.reg Reg.HB_ALARM == n) = false := by
    unfold State.builtin
    rcases hb with h | h <;> simp [h]
  have hlaw : (alarmDelivered n i s).law = s.law := (alarmDelivered_keeps n i s).parts .law (by decide)
  refine ⟨_, innerBegin_keepsLaw n _ i.1 (by rw [hlaw]; exact hd), ?_⟩
  unfold alarmInstance innerStart
  dsimp only
  rw [hbeats, if_neg hn, if_neg Bool.false_ne_true]
  rfl

theorem mem_startedBy {e : Nat} (he : e < 16) (hen : s.reg (Reg.ENABLE e) = 1) (ha : s.reg (Reg.ALARM e) = n) : e ∈ s.startedBy n :=
  List.mem_filter.2 ⟨List.mem_range.2 he, by simp [hen, ha]⟩

/-- Each engine that a delivery starts begins its cycle. -/
theorem startedBy_begins {e : Nat} (he : e ∈ s.startedBy n) (hx : Ready (s.engine e)) (a : Instant) :
    let y := (s.forEach (s.startedBy n) fun e s => startCycle e n a s).engine e
    y.inCycle = true ∧ y.alarmAt = a ∧ y.flags = 0 ∧ y.cycleNo = (s.engine e).cycleNo + 1 := by
  obtain ⟨t, -, hsame, hend⟩ := forEach_view_mem (fun j (u : State) => u.engine j) (fun _ => ()) (f := fun e s => startCycle e n a s)
    (fun x j u hj => startCycle_engine_other hj n a u) (fun _ _ => rfl) (List.nodup_range.filter _) he s
  have h := startCycle_begins (s := t) (e := e) (hsame ▸ hx) n a
  rw [hsame] at h
  dsimp only at hend ⊢
  rw [show (s.forEach (s.startedBy n) fun e s => startCycle e n a s).engine e = (startCycle e n a t).engine e from hend]
  exact h

end

/-! ## Words in memory (R134) -/

theorem memRead_memWrite (l : List Byte) (m : List Host.Cell) (a : Nat) : memRead l.length (memWrite l m a) a = l := by
  induction l generalizing m a with
  | nil => rfl
  | cons b t ih =>
    rw [List.length_cons, memRead, memWrite, memByte_memWrite_other _ _ _ _ (by omega), memByte_memSet, if_pos rfl, ih]

theorem length_toBytes (n v : Nat) : (toBytes n v).length = n := by
  induction n generalizing v with
  | zero => rfl
  | succ n ih => rw [toBytes, List.length_cons, ih]

theorem ofBytes_toBytes (n v : Nat) : ofBytes (toBytes n v) = v % 256 ^ n := by
  induction n generalizing v with
  | zero => rw [toBytes, ofBytes, pow_zero, Nat.mod_one]
  | succ n ih =>
    rw [toBytes, ofBytes, ih, BitVec.toNat_ofNat, pow_succ' 256 n]
    exact (Nat.mod_mul (x := v) (a := 256)).symm

theorem physWriteBy_mem (m : Master) (a : Nat) (l : List Byte) (s : State) : (s.physWriteBy m a l).2.mem = memWrite l s.mem a := by
  unfold State.physWriteBy
  dsimp only
  split
  · have hk : Keeps 6291468 s ((granules a l.length).foldl (heldWrite m a l.length) (heldExpire s)) :=
      Keeps.foldl _ _ (fun g u hu => Keeps.step (heldWrite_keeps ..) (by decide) hu) (heldExpire_keeps s)
    exact congrArg (memWrite l · a) (hk.parts .mem (by decide))
  · refine congrArg (memWrite l · a) (Keeps.parts (f := 2097164) (s := s) ?_ .mem (by decide))
    refine Keeps.foldlSnd _ _ (fun w r hr => ?_) (Keeps.refl _ s)
    split
    · exact hr
    · exact Keeps.step (setEcc_keeps ..) (by decide) (Keeps.ite (Keeps.step (countCe_keeps ..) (by decide) hr) fun _ => hr)
    · exact Keeps.iteSnd (Keeps.step (countUe_keeps ..) (by decide) hr) fun _ => Keeps.step (setEcc_keeps ..) (by decide) hr

theorem physWrite_mem (a : Nat) (l : List Byte) (s : State) : (s.physWrite a l).2.mem = memWrite l s.mem a := by
  have hflush (p : Held → Bool) (u : State) : (heldFlush p u).2.mem = u.mem := (heldFlush_keeps p u).parts .mem (by decide)
  unfold State.physWrite
  dsimp only
  rw [hflush, physWriteBy_mem]

/-- The mailbox copies words of fabric memory, it writes none (R147). -/
theorem fabricWrite_mem (p : Nat) (v : W32) (s : State) : (fabricWrite p v s).mem = memWrite (toBytes 4 v.toNat) s.mem (fabricAddr p) := by
  have hs : (fabricStore p v.toNat s).mem = memWrite (toBytes 4 v.toNat) s.mem (fabricAddr p) := physWrite_mem ..
  unfold fabricWrite
  dsimp only
  split
  · rw [setReg_mem]
    exact (forEach_frame State.mem _ _ (fun i u => setReg_mem ..) _).trans hs
  · exact hs

theorem fabricWrite_load (p : Nat) (v : W32) (s : State) : (fabricWrite p v s).load 4 (fabricAddr p) = v.toNat := by
  have h := memRead_memWrite (toBytes 4 v.toNat) s.mem (fabricAddr p)
  rw [length_toBytes] at h
  unfold State.load
  rw [fabricWrite_mem, h, ofBytes_toBytes]
  exact Nat.mod_eq_of_lt v.isLt

/-! ## Port writes (R130, R131, R137) -/

section

variable {e : Nat} {w : PortWrite} {s : State} {t : Instant}

theorem isFabric_range (h : isFabric w.port = true) : 0x700 ≤ w.port ∧ w.port < 0x800 ∨ 0x900 ≤ w.port ∧ w.port < 0xA00 := by
  unfold isFabric at h
  simpa using h

theorem portBlock_fabric (h : isFabric w.port = true) : portBlock w.port = 0 := by
  have := isFabric_range h
  unfold portBlock
  rw [if_neg (by omega), if_neg (by omega), if_neg (by omega)]

theorem portBlock_shadow (h : 0x200 ≤ w.port) (h' : w.port < 0x600) : portBlock w.port = 2 := by
  unfold portBlock
  rw [if_neg (by omega), if_pos h']

theorem deliver_late (h : (s.engine e).late = true) : deliver e w s = lateWrite e s := if_pos (by simp [h])

/-- Within the deadline a write of fabric memory is registered. -/
theorem deliver_fabric (hl : (s.engine e).late = false) (hd : s.now ≤ (s.engine e).deadline) (hf : isFabric w.port = true) :
    deliver e w s = fabricWrite w.port (BitVec.ofNat 32 w.val) s := by
  unfold deliver
  dsimp only
  rw [if_neg (by simp [hl, not_lt.2 hd]), if_pos hf]

/-- Within the deadline a write of a shadow is registered. -/
theorem deliver_shadow (hl : (s.engine e).late = false) (hd : s.now ≤ (s.engine e).deadline) (h : 0x200 ≤ w.port) (h' : w.port < 0x600)
    (hne : w.port ≠ 0x220) : deliver e w s = writeShadow (some (e, (s.engine e).cycleNo)) w.port w.val s := by
  have hf : ¬isFabric w.port = true := fun hf => by have := isFabric_range hf; omega
  unfold deliver
  dsimp only
  rw [if_neg (by simp [hl, not_lt.2 hd]), if_neg hf, if_neg (by omega), if_neg hne, if_pos h']

theorem lateWrite_flag (e : Nat) (s : State) : (lateWrite e s).flag (Reg.ENG_STATUS e) F.ENG_STATUS_LATE_WRITE = true :=
  flag_setFlag_self _ _ _ _ (by decide)

theorem writeShadow_val (a : Option (Nat × Nat)) (p v : Nat) (s : State) : (writeShadow a p v s).shadowVal p = v := by
  have hset (u : State) (x : Shadow) : (u.setShadow p x).shadow p = x := tabGet_set_self _ _ _ _
  unfold writeShadow State.shadowVal
  dsimp only
  rw [hset]
  dsimp only
  split
  · next h => rw [h]; rfl
  · rfl

/-- A shadow write changes of the engine the record of what it replaced alone. -/
theorem writeShadow_timedQ (c p v : Nat) (s : State) : ((writeShadow (some (e, c)) p v s).engine e).timedQ = (s.engine e).timedQ := by
  have hset (u : State) (x : Shadow) : (u.setShadow p x).engine e = u.engine e := rfl
  unfold writeShadow
  dsimp only
  rw [hset]
  split
  · rfl
  · exact congrArg (·.timedQ) (engine_setEngine ..)

end

end Sys2Proof.Machine

namespace Sys2Proof

open Machine

section

variable (s : State) (e n : Fin 16) (t : Instant)

/-! ## TIME_ALARM -/

theorem exec_timeAlarm {i : Instant × Bool} {rest : List (Instant × Bool)} (hi : (s.alarm n).insts = i :: rest) (ht : i.1 ≤ t) :
    exec (.timeAlarm n t) s = .next (alarmInstance n i (s.advance t)) := by
  show execTimeAlarm n t s = _
  unfold execTimeAlarm
  rw [hi]
  exact if_neg (not_lt.2 ht)

theorem exec_timeAlarm_none (hi : (s.alarm n).insts = []) : exec (.timeAlarm n t) s = .next s := by
  show execTimeAlarm n t s = _
  unfold execTimeAlarm
  rw [hi]

theorem alarmDelivered_spec {i : Instant × Bool} :
    ((alarmDelivered n i s).alarm n).n = (s.alarm n).n + 1 ∧ PartsKept [.free, .regs, .engines, .alarms] s (alarmDelivered n i s) ∧
      (s.reg (Reg.TA_COUNT n) + 1 < 2 ^ 32 → (alarmDelivered n i s).reg (Reg.TA_COUNT n) = s.reg (Reg.TA_COUNT n) + 1) ∧
      (i.2 = true → (alarmDelivered n i s).flag (Reg.TA_STATUS n) F.TA_STATUS_LATE = true) := by
  refine ⟨alarmDelivered_alarm_n n.val i s, (alarmDelivered_keeps n i s).partsKept_of, fun h => ?_, fun h => ?_⟩
  · exact (alarmDelivered_reg n.val i s (taKey_ne n.val (by decide)).symm).trans (alarmCounted_count n.val i s h)
  · exact (flag_of_reg _ (alarmDelivered_reg n.val i s (taKey_ne n.val (by decide)).symm)).trans (alarmCounted_late n.val i s h)

section

variable {i : Instant × Bool} (hn : n ≠ 0) (hb : s.reg Reg.LAW_BUILTIN = 1 ∨ s.reg Reg.HB_ALARM ≠ n)
  (hd : (s.law.innerDue.any fun d => d.1 == n.val) = false)
include hn hb hd

/-- The cycles that a delivery starts leave its alarm as it was delivered. -/
theorem alarmInstance_alarm : (alarmInstance n i s).alarm n = (alarmDelivered n i s).alarm n := by
  obtain ⟨v, hv, hinst⟩ := alarmInstance_starts n.val i s (fun h => hn (Fin.ext h)) hb hd
  have hcycles : Keeps 32972 v (v.forEach (v.startedBy n) fun e s => startCycle e n i.1 s) :=
    Keeps.forEach _ _ (fun e u hu => Keeps.step (startCycle_keeps ..) (by decide) hu) (Keeps.refl _ v)
  rw [hinst, alarm_of_alarms n.val ((raiseTrig_keeps ..).parts .alarms (by decide)),
    alarm_of_alarms n.val (hcycles.parts .alarms (by decide)), alarm_of_alarms n.val (hv.parts .alarms (by decide))]

/-- An enabled engine that names the alarm begins a cycle (R38, R136). -/
theorem alarmInstance_begins (hen : s.reg (Reg.ENABLE e) = 1) (ha : s.reg (Reg.ALARM e) = n) (hx : Ready (s.engine e)) :
    let y := (alarmInstance n i s).engine e
    y.inCycle = true ∧ y.alarmAt = i.1 ∧ y.flags = 0 ∧ y.cycleNo = (s.engine e).cycleNo + 1 := by
  obtain ⟨v, hv, hinst⟩ := alarmInstance_starts n.val i s (fun h => hn (Fin.ext h)) hb hd
  have hreg {b : Nat} : v.reg (Reg.key (0x2C10 + e) b) = s.reg (Reg.key (0x2C10 + e) b) := by
    rw [Keeps.reg hv rfl]
    refine alarmDelivered_reg_other n.val i s ?_
    simp only [alarmRegs, Reg.TA_CFG, Reg.TA_COUNT, Reg.TA_STATUS, Reg.key, List.mem_cons, List.not_mem_nil, or_false]
    omega
  have hsame : v.engine e = s.engine e := by rw [Keeps.engine hv rfl, Keeps.engine (alarmDelivered_keeps ..) rfl]
  have h := startedBy_begins n.val v (mem_startedBy n.val v e.isLt (hreg.trans hen) (hreg.trans ha)) (hsame ▸ hx) i.1
  rw [hinst, Keeps.engine (raiseTrig_keeps ..) rfl, ← hsame]
  exact h

end

/-- A delivery of an alarm other than TA0 (R38, R136, R320, R321). -/
theorem timeAlarm_spec {i : Instant × Bool} {rest : List (Instant × Bool)} (hi : (s.alarm n).insts = i :: rest) (ht : i.1 ≤ t)
    (hn : n ≠ 0) (hb : s.reg Reg.LAW_BUILTIN = 1 ∨ s.reg Reg.HB_ALARM ≠ n) (hd : (s.law.innerDue.any fun d => d.1 == n.val) = false) :
    Completes (.timeAlarm n t) s fun u => (u.alarm n).n = (s.alarm n).n + 1 ∧
      (s.fld (Reg.TA_CFG n) F.TA_CFG_MODE = 0 → (u.alarm n).insts = insertInst (i.1 + s.taPeriod n, false) rest) ∧
      (s.fld (Reg.TA_CFG n) F.TA_CFG_MODE ≠ 0 → (u.alarm n).insts = rest) ∧
      (s.reg (Reg.ENABLE e) = 1 → s.reg (Reg.ALARM e) = n → (s.engine e).valid = true → (s.engine e).faulted = false →
        (s.engine e).loading = false → (s.engine e).stopping = false →
        (u.engine e).inCycle = true ∧ (u.engine e).alarmAt = i.1 ∧ (u.engine e).flags = 0 ∧
          (u.engine e).cycleNo = (s.engine e).cycleNo + 1) := by
  obtain ⟨hperiodic, hsingle⟩ := alarmDelivered_insts n.val i (s.advance t) hi
  refine ⟨_, exec_timeAlarm s n t hi ht, ?_⟩
  dsimp only
  rw [alarmInstance_alarm (s.advance t) n hn hb hd]
  exact ⟨alarmDelivered_alarm_n n.val i (s.advance t), hperiodic, hsingle, fun hen ha hvalid hsound hload hstop =>
    alarmInstance_begins (s.advance t) e n hn hb hd hen ha ⟨hvalid, hsound, hload, hstop⟩⟩

/-! ## DEADLINE_PASS -/

/-- An engine outside the law passes its deadline (R137 to R142). -/
theorem deadlinePass_spec (ho : Outside e s) (hc : (s.engine e).inCycle = true) (hl : (s.engine e).late = false)
    (hd : (s.engine e).deadline < (s.advance t).now) (hst : (s.engine e).stopping = false)
    (hdue : (s.law.innerDue.any fun d => decide (d.2 < (s.advance t).now)) = false) :
    Completes (.deadlinePass e t) s fun u => (u.engine e).late = true ∧ (u.engine e).inCycle = true ∧
      u.flag (Reg.ENG_STATUS e) F.ENG_STATUS_MISS = true := by
  obtain ⟨hflag, hcycle, hlate⟩ := passDeadline_spec (s := s.advance t) ho hc hl hd
  obtain ⟨hlate, hkept⟩ := hlate hst
  refine ⟨_, rfl, ?_⟩
  rw [innerDeadlineDue_none (by rw [hkept]; exact hdue)]
  exact ⟨hlate, hcycle.trans (congrArg (!·) hst), hflag⟩

/-! ## END_REGISTERED -/

theorem exec_endRegistered (hc : (s.engine e).inCycle = true) (hw : (s.engine e).wait = .ending) (htq : (s.engine e).timedQ = [])
    (hfq : (s.engine e).fabQ = []) : exec (.endRegistered e t) s =
      let late := (s.engine e).late || decide ((s.engine e).deadline < (s.advance t).tickCeil (s.advance t).now)
      let r := s.advance t
      let u := endPhase e (lawWork e late (if late && !(s.engine e).late then missDeadline e (lateIncrement e r) else r))
      .next (if !late && s.outerEngine e then outerOnTime (slack e u) else slack e u) :=
  if_neg (by simp [hc, hw, Engine.drained, htq, hfq])

/-- Nothing stands of the control phase of an engine (R38). -/
def CycleEnded (e : Nat) (u : State) : Prop :=
  (u.engine e).inCycle = false ∧ (u.engine e).wait = .none ∧ (u.engine e).timedQ = [] ∧ (u.engine e).fabQ = []

theorem CycleEnded.of_engine {e : Nat} {u v : State} (h : CycleEnded e u) (hv : v.engine e = u.engine e) : CycleEnded e v := by
  unfold CycleEnded
  rwa [hv]

theorem slack_endPhase_ended (e : Nat) (u : State) : CycleEnded e (slack e (endPhase e u)) := by
  obtain ⟨b, hb⟩ := slack_engine e (endPhase e u)
  have hended := endPhase_ended e u
  unfold CycleEnded
  rw [hb]
  generalize (endPhase e u).engine e = x at hended
  exact hended

theorem endRegistered_ends (hc : (s.engine e).inCycle = true) (hw : (s.engine e).wait = .ending) (htq : (s.engine e).timedQ = [])
    (hfq : (s.engine e).fabQ = []) : Completes (.endRegistered e t) s (CycleEnded e) := by
  have he := exec_endRegistered s e t hc hw htq hfq
  extract_lets late r u at he
  have hends (u : State) (b : Bool) : CycleEnded e (if b then outerOnTime (slack e (endPhase e u)) else slack e (endPhase e u)) := by
    have h := slack_endPhase_ended e u
    split
    · exact h.of_engine (Keeps.engine (outerOnTime_keeps _) rfl e)
    · exact h
  exact ⟨_, he, hends _ _⟩

/-- A cycle of an engine outside the law that ends on time shows its slack (Table 5-14). -/
theorem endRegistered_onTime (hc : (s.engine e).inCycle = true) (hw : (s.engine e).wait = .ending) (htq : (s.engine e).timedQ = [])
    (hfq : (s.engine e).fabQ = []) (hl : (s.engine e).late = false)
    (hd : (s.advance t).tickCeil (s.advance t).now ≤ (s.engine e).deadline) (hst : (s.engine e).stopping = false) (ho : Outside e s) :
    Completes (.endRegistered e t) s fun u => (u.engine e).inCycle = false ∧ (u.engine e).wait = .none ∧
      u.reg (Reg.SLACK_LAST e) =
        sput 32 (satS 32 ((s.time64At (s.engine e).deadline : Int) - s.time64At ((s.advance t).tickCeil (s.advance t).now))) := by
  have he : exec (.endRegistered e t) s = .next (slack e (endPhase e (s.advance t))) := by
    have hout : Outside e (s.advance t) := ho
    rw [exec_endRegistered s e t hc hw htq hfq, hl, decide_eq_false (not_lt.2 hd), ho.outerEngine]
    simp only [Bool.or_self, Bool.false_and, Bool.and_false, Bool.false_eq_true, if_false, hout.lawWork]
  obtain ⟨hcycle, hwait, -, -⟩ := slack_endPhase_ended e (s.advance t)
  refine ⟨_, he, hcycle, hwait, ?_⟩
  have hk := endPhase_keeps e (s.advance t)
  have hnow : (endPhase e (s.advance t)).now = (s.advance t).now := hk.parts .now (by decide)
  have hepoch : (endPhase e (s.advance t)).epoch = s.epoch := hk.parts .epoch (by decide)
  have hclk : (endPhase e (s.advance t)).clk = (s.advance t).clk := hk.parts .clk (by decide)
  have htime (a : Instant) : (endPhase e (s.advance t)).time64At a = s.time64At a := by
    unfold State.time64At State.ptpAt
    rw [hepoch]
  have htick (a : Instant) : (endPhase e (s.advance t)).tickCeil a = (s.advance t).tickCeil a := by
    unfold State.tickCeil State.onTick State.tickFloor State.tickLen
    rw [hclk]
  have hdead : ((endPhase e (s.advance t)).engine e).deadline = (s.engine e).deadline := by
    rw [endPhase_running (show ((s.advance t).engine e).stopping = false from hst), phaseEnded_engine]
    rfl
  rw [slack_last, hdead, htime, htime, htick, hnow]

/-! ## PORT_WRITE_DELIVER -/

/-- The state in which an engine's write has its place at its block. -/
def placed (w : PortWrite) (x : Engine) : State := takePlace (portBlock w.port) e t ((s.advance t).setEngine e x)

theorem placed_engine (w : PortWrite) (x : Engine) : (placed s e t w x).engine e = x := engine_setEngine (s.advance t) e x

theorem placed_now (w : PortWrite) (x : Engine) (hn : s.now ≤ t) : (placed s e t w x).now = t := max_eq_right hn

/-- The state in which a single write of the PWM ports has taken its share of a tick. -/
def runOfOne : State :=
  { (s.advance t).setEngine e { s.engine e with timedQ := [], lastTick := t } with pwm := { s.pwm with pwmTick := t, pwmCount := 1 } }

theorem runOfOne_keeps : Keeps 193 s (runOfOne s e t) := by
  have hp (u : State) (p : Pwm) : Keeps 128 u { u with pwm := p } := ⟨rfl, le_refl _, List.suffix_refl _, id, id, fun q hq => by
    cases q
    case pwm => cases hq
    case serial => exact ⟨rfl, rfl⟩
    all_goals rfl⟩
  exact Keeps.step (hp _ _) (by decide) (Keeps.step (State.setEngine_keeps ..) (by decide) ((State.advance_keeps s t).mono (by decide)))

section

variable {w : PortWrite} {q : List PortWrite} (ht : s.onTick t = true) (hn : s.now ≤ t)
include ht hn

theorem exec_fabricDeliver (hq : (s.engine e).fabQ = w :: q) (ho : s.inOrder (portBlock w.port) e t = true) :
    exec (.portWriteDeliver e true t) s = .next (deliverAt e t w ((s.advance t).setEngine e { s.engine e with fabQ := q })) := by
  show execPortWriteDeliver e true t s = _
  unfold execPortWriteDeliver
  dsimp only
  rw [if_neg (by simp [ht, hn]), if_pos rfl, hq]
  exact if_pos ho

theorem exec_timedDeliver (hq : (s.engine e).timedQ = w :: q) (hl : (s.engine e).lastTick < t)
    (ho : s.inOrder (portBlock w.port) e t = true) (hp : isPwm w = false) : exec (.portWriteDeliver e false t) s =
      .next (deliverAt e t w ((s.advance t).setEngine e { s.engine e with timedQ := q, lastTick := t })) := by
  show execPortWriteDeliver e false t s = _
  unfold execPortWriteDeliver
  dsimp only
  rw [if_neg (by simp [ht, hn]), if_neg Bool.false_ne_true]
  split
  · next h => exact absurd (hq.symm.trans h) (List.cons_ne_nil _ _)
  · next h =>
    obtain ⟨rfl, rfl⟩ := List.cons.inj (hq.symm.trans h)
    rw [if_neg (by simp [hl, ho]), if_pos (by simp [hp])]
    rfl

theorem exec_runDeliver (hq : (s.engine e).timedQ = w :: q) (hl : (s.engine e).lastTick < t)
    (ho : s.inOrder (portBlock w.port) e t = true) (hp : isPwm w = true) : exec (.portWriteDeliver e false t) s =
      let used := if s.pwm.pwmTick == t then s.pwm.pwmCount else 0
      let run := ((s.engine e).timedQ.takeWhile isPwm).take (min 4 (8 - used))
      .next (run.foldl (fun y v => deliverAt e t v y)
        { (s.advance t).setEngine e { s.engine e with timedQ := (s.engine e).timedQ.drop run.length, lastTick := t } with
          pwm := { s.pwm with pwmTick := t, pwmCount := used + run.length } }) := by
  show execPortWriteDeliver e false t s = _
  unfold execPortWriteDeliver
  dsimp only
  rw [if_neg (by simp [ht, hn]), if_neg Bool.false_ne_true]
  split
  · next h => exact absurd (hq.symm.trans h) (List.cons_ne_nil _ _)
  · next h =>
    obtain ⟨rfl, rfl⟩ := List.cons.inj (hq.symm.trans h)
    rw [if_neg (by simp [hl, ho]), if_neg (by simp [hp])]
    rfl

/-- A write of fabric memory (R130, R137, R147). -/
theorem fabricDeliver_onTime (hq : (s.engine e).fabQ = w :: q) (hf : isFabric w.port = true) (ho : s.inOrder 0 e t = true)
    (hl : (s.engine e).late = false) (hd : t ≤ (s.engine e).deadline) :
    Completes (.portWriteDeliver e true t) s fun u => u.load 4 (fabricAddr w.port) = w.val % 2 ^ 32 ∧ (u.engine e).fabQ = q := by
  have hw : deliver e w (placed s e t w { s.engine e with fabQ := q }) = fabricWrite w.port (BitVec.ofNat 32 w.val) _ :=
    deliver_fabric (by rw [placed_engine]; exact hl) (by rw [placed_engine, placed_now _ _ _ _ _ hn]; exact hd) hf
  refine ⟨_, exec_fabricDeliver s e t ht hn hq (by rwa [portBlock_fabric hf]), ?_⟩
  rw [show deliverAt e t w _ = _ from hw]
  refine ⟨fabricWrite_load .., ?_⟩
  rw [Keeps.engine (fabricWrite_keeps ..) rfl, placed_engine]

theorem fabricDeliver_late (hq : (s.engine e).fabQ = w :: q) (hf : isFabric w.port = true) (ho : s.inOrder 0 e t = true)
    (hl : (s.engine e).late = true) : Completes (.portWriteDeliver e true t) s fun u =>
      u.flag (Reg.ENG_STATUS e) F.ENG_STATUS_LATE_WRITE = true ∧ u.mem = s.mem ∧ (u.engine e).fabQ = q := by
  have hw : deliver e w (placed s e t w { s.engine e with fabQ := q }) = lateWrite e _ := deliver_late (by rw [placed_engine]; exact hl)
  refine ⟨_, exec_fabricDeliver s e t ht hn hq (by rwa [portBlock_fabric hf]), ?_⟩
  rw [show deliverAt e t w _ = _ from hw]
  refine ⟨lateWrite_flag .., (lateWrite_keeps ..).parts .mem (by decide), ?_⟩
  rw [Keeps.engine (lateWrite_keeps ..) rfl, placed_engine]

theorem exec_oneDeliver (hq : (s.engine e).timedQ = [w]) (hl : (s.engine e).lastTick < t) (ho : s.inOrder (portBlock w.port) e t = true)
    (hp : isPwm w = true) (hs : s.pwm.pwmTick ≠ t) :
    exec (.portWriteDeliver e false t) s = .next (deliverAt e t w (runOfOne s e t)) := by
  have hused : (if s.pwm.pwmTick == t then s.pwm.pwmCount else 0) = 0 := if_neg (by simpa using hs)
  have hrun : ((s.engine e).timedQ.takeWhile isPwm).take (min 4 (8 - 0)) = [w] := by
    rw [hq, List.takeWhile_cons_of_pos hp]
    rfl
  rw [exec_runDeliver s e t ht hn hq hl ho hp]
  dsimp only
  rw [hused, hrun, hq]
  rfl

/-- A write of a shadow that is alone in its queue (R130, R161). -/
theorem shadowDeliver_spec (hl : (s.engine e).lastTick < t) (hq : (s.engine e).timedQ = [w]) (hp : s.pwm.pwmTick ≠ t)
    (ho : s.inOrder 2 e t = true) (h : 0x200 ≤ w.port) (h' : w.port < 0x600) (hne : w.port ≠ 0x220) (hlate : (s.engine e).late = false)
    (hd : t ≤ (s.engine e).deadline) : Completes (.portWriteDeliver e false t) s fun u =>
      u.shadowVal w.port = w.val ∧ (u.engine e).timedQ = [] ∧ PartsKept [.now, .serial, .engines, .pwm] s u := by
  have hpwm : isPwm w = true := by unfold isPwm; simp [h, h']
  have hexec := exec_oneDeliver s e t ht hn hq hl (by rwa [portBlock_shadow h h']) hpwm hp
  have hx : (takePlace (portBlock w.port) e t (runOfOne s e t)).engine e = { s.engine e with timedQ := [], lastTick := t } :=
    engine_setEngine (s.advance t) e _
  have hnow : (takePlace (portBlock w.port) e t (runOfOne s e t)).now = t := max_eq_right hn
  have hk : Keeps 193 s (takePlace (portBlock w.port) e t (runOfOne s e t)) :=
    Keeps.step (takePlace_keeps ..) (by decide) (runOfOne_keeps s e t)
  refine ⟨_, hexec, ?_⟩
  unfold deliverAt
  generalize takePlace (portBlock w.port) e t (runOfOne s e t) = u at hx hnow hk ⊢
  rw [deliver_shadow (by rw [hx]; exact hlate) (by rw [hx, hnow]; exact hd) h h' hne]
  refine ⟨writeShadow_val .., ?_, ?_⟩
  · rw [writeShadow_timedQ, hx]
  · exact (Keeps.step (writeShadow_keeps ..) (by decide) (hk.mono (by decide))).partsKept_of (f := 225)

end

/-! ## CARRIER_EVENT_DELIVER and CARRIER_WRAP -/

/-- The oldest event of the carriers raises its trigger (R156). -/
theorem carrierEventDeliver_spec {ev : CarrierEv} {rest : List CarrierEv} (h : s.pwm.events = ev :: rest) :
    Completes .carrierEventDeliver s fun u => u.pwm.events = rest ∧ PartsKept [.now, .pwm, .adc] s u := by
  have he : ∃ u code at_, exec .carrierEventDeliver s = .next (raiseTrig code at_ u) ∧ u.pwm.events = rest := by
    show ∃ u code at_, execCarrierEventDeliver s = .next (raiseTrig code at_ u) ∧ u.pwm.events = rest
    unfold execCarrierEventDeliver
    rw [h]
    exact ⟨_, _, _, rfl, rfl⟩
  obtain ⟨u, code, at_, he, hev⟩ := he
  have hpwm : (raiseTrig code at_ u).pwm = u.pwm := (raiseTrig_keeps ..).parts .pwm (by decide)
  exact Completes.ofKeeps (execCarrierEventDeliver_keeps s) he fun hk => ⟨by rw [hpwm]; exact hev, hk.partsKept_of⟩

theorem carrierWrap_running (h : (s.carrier n).running = true) : let v := lookAhead (s.carrier n).wrapAt s
    Completes (.carrierWrap n) s (· = if (v.carrier n).running then softStopCheck (wrapCarrier n v) else v) :=
  ⟨_, if_neg (by simp [h]), rfl⟩

theorem carrierWrap_stopped (h : (s.carrier n).running = false) : Completes (.carrierWrap n) s (· = s) :=
  ⟨_, if_pos (by simp [h]), rfl⟩

end

/-- Settles O24, clause by clause from the lemma of each command. -/
theorem engineCycles : Obligations.EngineCycles := by
  unfold Obligations.EngineCycles
  intro s e n t
  refine ⟨fun i rest hi ht hn hb hd => timeAlarm_spec s e n t hi ht hn hb hd, fun i rest hi ht => ⟨_, exec_timeAlarm s n t hi ht, rfl⟩,
    fun i rest _ => alarmDelivered_spec s n, fun hi => ⟨_, exec_timeAlarm_none s n t hi, rfl⟩,
    fun a hv hf hl hs hc => startCycle_entry ⟨hv, hf, hl, hs⟩ hc n a,
    fun ho hc hl hd hs hdue => deadlinePass_spec s e t ho hc hl hd hs hdue, ⟨_, rfl, rfl⟩, fun d ho hc hl hd => ?_,
    fun d h => passDeadline_kept h, fun hc hw htq hfq hl hd hs ho _ => endRegistered_onTime s e t hc hw htq hfq hl hd hs ho,
    endRegistered_ends s e t, fun w q ht hn hq ho => ⟨_, exec_fabricDeliver s e t ht hn hq ho, rfl⟩,
    fun w q ht hn hq hf ho => ⟨fabricDeliver_onTime s e t ht hn hq hf ho, fabricDeliver_late s e t ht hn hq hf ho⟩,
    fun w q ht hn hq hl ho => ⟨fun hp => ⟨_, exec_timedDeliver s e t ht hn hq hl ho hp, rfl⟩,
      fun hp => ⟨_, exec_runDeliver s e t ht hn hq hl ho hp, rfl⟩⟩,
    fun w ht hn hl hq hp ho h h' hne hlate hd => shadowDeliver_spec s e t ht hn hl hq hp ho h h' hne hlate hd,
    fun ev rest h => carrierEventDeliver_spec s h, carrierWrap_running s n, fun _ => rfl, carrierWrap_stopped s n⟩
  obtain ⟨hflag, hcycle, hlate⟩ := passDeadline_spec ho hc hl hd
  exact ⟨hflag, hcycle, fun hs => (hlate hs).1⟩

end Sys2Proof
end

section
/-!
SUPPORT. The record of a transition (03_ride_through_and_modes.md, R60): what it leaves of the law beside its own registers.
-/

namespace Sys2Proof.Machine

variable (s : State)

theorem limitEnds_law (old new : Nat) : (limitEnds old new s).law = s.law := (limitEnds_keeps old new s).parts .law (by decide)

theorem freezeTrainers_law (c : Prop) [Decidable c] : (if c then s.forEach (List.range 64) freezeTrainer else s).law = s.law := by
  split
  · exact forEach_frame State.law _ _ (fun k u => (freezeTrainer_keeps k u).parts .law (by decide)) s
  · rfl

theorem pushLog_law (f : Nat → Nat) (n v : Nat) : (pushLog f n v s).law = s.law := (pushLog_keeps f n v s).parts .law (by decide)

theorem bump_law (k : Nat) : (s.bump k).law = s.law := (State.bump_keeps s k).parts .law (by decide)

/-- What a transition counts in the law. -/
theorem countMode_law {s w : State} (h : w.law = s.law) (x : Nat) (f : Fld) (b : Bool) : ∃ q a n,
    ((w.setLaw { w.law with modeSeq := (w.law.modeSeq + 1) % 2 ^ 32, modeAt := w.now, autoSeq := w.law.autoSeq + x, recSince := [] }).setMs f b).law =
      { s.law with modeSeq := q, modeAt := a, autoSeq := n, recSince := [] } := by
  rw [h]
  exact ⟨_, _, _, rfl⟩

/-- The transition is recorded in a state `w`; then the gate of the estimator, HELD_MODE and the timebase follow. -/
theorem logMode_eq (old new cause : Nat) : ∃ w : State, (∃ q a n, w.law = { s.law with modeSeq := q, modeAt := a, autoSeq := n, recSince := [] }) ∧
    logMode old new cause s = stepDeferred ((if w.builtin then estGate w else w).setReg Reg.HELD_MODE (if new = mHOLD then old else 0xFF)) := by
  refine ⟨_, ?_, rfl⟩
  rw [limitEnds_law, freezeTrainers_law]
  refine countMode_law ?_ _ _ _
  rw [pushLog_law, pushLog_law, bump_law]
  rfl

/-- The law after a recorded transition: its counts, and where the estimator stops the estimate and the probe voltage (R50). -/
theorem logMode_law (old new cause : Nat) : ∃ q a n e p r, (logMode old new cause s).law =
    { s.law with modeSeq := q, modeAt := a, autoSeq := n, recSince := [], est := e, use := { s.law.use with probe := p },
                 next := { s.law.next with probe := r } } := by
  obtain ⟨w, ⟨q, a, n, hw⟩, heq⟩ := logMode_eq s old new cause
  have hstep (u : State) : (stepDeferred u).law = u.law := (stepDeferred_keeps u).parts .law (by decide)
  rw [heq, hstep, setReg_law]
  split
  · unfold estGate
    dsimp only
    split
    · exact ⟨q, a, n, _, _, _, hw⟩
    · exact ⟨q, a, n, _, _, _, congrArg (fun l : Law => ({ l with
        est := { lastAt := l.est.lastAt }, use := { l.use with probe := {} }, next := { l.next with probe := {} } } : Law)) hw⟩
  · exact ⟨q, a, n, _, _, _, hw⟩

end Sys2Proof.Machine
end

section
/-!
SUPPORT. Mode commands (R56 to R59, Table 3-2, Table 3-4): what policy does with its oldest command, branch by branch, and what the outcome of a command
leaves.
-/

namespace Sys2Proof.Machine

/-! ## Outcomes (R56) -/

variable (s : State)

theorem cmdRefused_spec (code : Nat) : (cmdRefused code s).reg Reg.MODE_CMD = 3 ∧ (cmdRefused code s).reg Reg.CMD_REFUSAL = code ∧
    RegsKept cmdRegs s (cmdRefused code s) :=
  ⟨(reg_setReg_other _ _ (by decide)).trans (reg_setReg_self _ _ _), reg_setReg_self _ _ _, ((regsKept_refl s _).step (by decide)).step (by decide)⟩

theorem cmdDone_spec : (cmdDone s).reg Reg.MODE_CMD = 2 ∧ (cmdDone s).reg Reg.CMD_REFUSAL = 0 ∧ RegsKept cmdRegs s (cmdDone s) :=
  ⟨(reg_setReg_other _ _ (by decide)).trans (reg_setReg_self _ _ _), reg_setReg_self _ _ _, ((regsKept_refl s _).step (by decide)).step (by decide)⟩

/-- The outcome of a command that policy refuses with a code, in mode `m`. -/
def Refused (m code : Nat) (u : State) : Prop := u.reg Reg.MODE_CMD = 3 ∧ u.reg Reg.CMD_REFUSAL = code ∧ u.reg Reg.MODE = m

theorem cmdRefused_refused {m : Nat} (code : Nat) (h : s.reg Reg.MODE = m) : Refused m code (cmdRefused code s) := by
  obtain ⟨hcmd, hcode, hregs⟩ := cmdRefused_spec s code
  exact ⟨hcmd, hcode, (hregs _ (by decide)).trans h⟩

theorem cmdDone_enters {m c : Nat} {s t : State} (h : Enters m c s t) : Enters m c s (cmdDone t) :=
  (h.setReg 2 (by decide)).setReg 0 (by decide)

/-! ## Commands (R57, R58) -/

/-- Policy may execute a command: BASECAMP always, every other one outside HOLD and a soft stop (R58). -/
def State.mayRun (s : State) (v : Nat) : Prop := v = 0 ∨ s.reg Reg.MODE ≠ 6 ∧ s.ms F.MODE_STATUS_STOPPING = false

variable {s} {v : Nat} {seen : Nat × Nat}

theorem State.mayRun.not_barred (h : s.mayRun v) : ¬(v ≠ mBASECAMP ∧ (s.mode = mHOLD ∨ s.ms F.MODE_STATUS_STOPPING = true)) := by
  rintro ⟨hv, hbar⟩
  obtain ⟨hm, hs⟩ := h.resolve_left hv
  rcases hbar with h6 | hstop
  · exact hm h6
  · rw [hs] at hstop
    exact Bool.false_ne_true hstop

theorem runCommand_withoutBaton (hb : s.holds = false) : runCommand v seen s = cmdRefused 10 s := if_pos (by rw [hb]; rfl)

section

variable (hb : s.holds = true)
include hb

theorem runCommand_barred (hv : v ≠ 0) (h : s.reg Reg.MODE = 6 ∨ s.ms F.MODE_STATUS_STOPPING = true) :
    runCommand v seen s = cmdRefused 9 s :=
  (if_neg (by simp [hb])).trans (if_pos ⟨hv, h⟩)

theorem runCommand_ownMode (hv : v = s.reg Reg.MODE) (hr : s.mayRun v) : runCommand v seen s = cmdDone s :=
  (if_neg (by simp [hb])).trans ((if_neg hr.not_barred).trans (if_pos hv))

theorem runCommand_noRow (hv : v ≠ s.reg Reg.MODE) (hr : s.mayRun v) (hrow : rowFrom (s.reg Reg.MODE) v = false) :
    runCommand v seen s = cmdRefused (s.noRowCode v seen) s :=
  (if_neg (by simp [hb])).trans ((if_neg hr.not_barred).trans ((if_neg hv).trans (if_pos (by rw [State.mode, hrow]; rfl))))

/-- A command with a row in Table 3-2. -/
theorem runCommand_row (hv : v ≠ s.reg Reg.MODE) (hr : s.mayRun v) (hrow : rowFrom (s.reg Reg.MODE) v = true) :
    runCommand v seen s =
      if v = mBASECAMP then cmdDone (enterBasecamp 1 s)
      else if v = mARMED then
        if s.mode = mBASECAMP then (if s.armFail != 0 then cmdRefused s.armFail s else armIfReady (armBegin s))
        else (s.setMs F.MODE_STATUS_STOPPING true).setLaw { s.law with stopAt := some s.now, stopWait := false }
      else runSwitching v (measured s) :=
  (if_neg (by simp [hb])).trans ((if_neg hr.not_barred).trans ((if_neg hv).trans (if_neg (by rw [State.mode, hrow]; decide))))

/-- BASECAMP is entered from every other mode. -/
theorem runCommand_basecamp (hm : s.reg Reg.MODE ≠ 0) : runCommand 0 seen s = cmdDone (enterBasecamp 1 s) :=
  (runCommand_row hb hm.symm (.inl rfl) (by simp [rowFrom, mBASECAMP, hm])).trans (if_pos rfl)

end

/-- A BASECAMP command leaves the device in BASECAMP, done. -/
theorem runCommand_basecamp_spec (hb : s.holds = true) :
    (runCommand 0 seen s).reg Reg.MODE = 0 ∧ (runCommand 0 seen s).reg Reg.MODE_CMD = 2 := by
  by_cases hm : s.reg Reg.MODE = 0
  · obtain ⟨hcmd, -, hregs⟩ := cmdDone_spec s
    rw [runCommand_ownMode hb hm.symm (.inl rfl)]
    exact ⟨(hregs _ (by decide)).trans hm, hcmd⟩
  · obtain ⟨hmode, -, -⟩ := cmdDone_enters (enterBasecamp_enters 1 s hm)
    rw [runCommand_basecamp hb hm]
    exact ⟨hmode, (cmdDone_spec _).1⟩

/-- With no command of a replay in the queue, none in execution and no standby ahead, policy takes its oldest command (R56, R62). -/
theorem nextCommand_takes {rest : List (Nat × Bool × Nat × Nat)} (hc : s.law.cmds = (v, false, seen) :: rest)
    (hrest : ∀ c ∈ rest, c.2.1 = false) (ha : s.arming = none) (hs : s.sup.standbyAt = none) :
    nextCommand s = runCommand v seen (s.setLaw { s.law with cmds := rest }) := by
  have hlive : s.law.cmds.any (·.2.1) = false := by
    rw [hc, List.any_cons, List.any_eq_false.2 fun c h => by rw [hrest c h]; decide]
    rfl
  unfold nextCommand
  simp only [hlive, Bool.false_eq_true, if_false]
  rw [if_neg (by simp [ha, hs]), hc]

end Sys2Proof.Machine

namespace Sys2Proof.Machine

/-! ## Commands to FORM, START and SYNC (Table 3-2, Table 4-4) -/

variable {s : State} {m : Nat}

/-- The value of an object that acts from the next outer cycle. -/
theorem lreg_of {s u : State} {k : Nat} (hl : u.law.seen = s.law.seen) (hr : u.reg k = s.reg k) : u.lreg k = s.lreg k := by
  unfold State.lreg
  rw [hl, hr]

theorem measured_law (s : State) : (measured s).law.brkUse = s.law.brkUse ∧ (measured s).law.seen = s.law.seen := by
  have hset (u : State) (f : Fld) (b : Bool) : (u.setBs f b).useFree.law = u.law := rfl
  have hcad (u : State) (c : Cad) : (u.setCad c).useFree.law = u.law := rfl
  have hlaw (u : State) (l : Law) : (u.setLaw l).useFree.law = l := rfl
  unfold measured
  split
  · exact ⟨rfl, rfl⟩
  · simp only [hset, hcad, hlaw, and_self]

theorem measured_reg (s : State) {j : Nat} (h : j ≠ Reg.BS_STATUS) : (measured s).reg j = s.reg j := by
  have hset (u : State) (b : Bool) : (u.setBs F.BS_STATUS_EXT_LIVE b).reg j = u.reg j := reg_setFlag_other _ _ _ h
  unfold measured
  split
  · rfl
  · simp only [useFree_reg, setCad_reg, setLaw_reg, hset]

theorem measured_lreg (s : State) {j : Nat} (h : j ≠ Reg.BS_STATUS) : (measured s).lreg j = s.lreg j :=
  lreg_of (measured_law s).2 (measured_reg s h)

/-- The breaker does not depend on what is measured (R63). -/
theorem measured_brk (s : State) : (measured s).brk = s.brk := by
  obtain ⟨huse, -⟩ := measured_law s
  have hnow : (measured s).now = s.now := (measured_keeps s).parts .now (by decide)
  unfold State.brk
  rw [measured_lreg s (by decide), measured_lreg s (by decide), huse, hnow]

theorem runSwitching_form (h : s.brk ≠ 1) : runSwitching 2 s = cmdRefused 6 s := by
  unfold runSwitching
  dsimp only
  rw [if_pos (show 2 = mFORM from rfl), if_pos (by simp [h])]

theorem runSwitching_start (h : s.startFail ≠ 0) :
    runSwitching 4 s = cmdRefused (condCode s.startFail) (s.setReg Reg.COND_FAIL s.startFail) := by
  unfold runSwitching
  dsimp only
  rw [if_neg (show 4 ≠ mFORM by decide), if_pos (show 4 = mSTART from rfl), if_pos (by simp [h])]

/-- A SYNC command from another mode than FORM. -/
theorem runSwitching_sync (hm : s.reg Reg.MODE ≠ 2) : runSwitching 5 s =
    if s.syncFail false != 0 then cmdRefused (condCode (s.syncFail false)) (s.setReg Reg.COND_FAIL (s.syncFail false))
    else cmdDone (enterStart mSYNC s) := by
  have hform : (s.mode == mFORM) = false := beq_eq_false_iff_ne.2 hm
  unfold runSwitching
  dsimp only
  rw [if_neg (show 5 ≠ mFORM by decide), if_neg (show 5 ≠ mSTART by decide), hform, if_neg (show ¬s.mode = mFORM from hm)]

/-- A command refused by a condition of Table 4-4 records it in COND_FAIL. -/
theorem condRefused {f code : Nat} (h : s.reg Reg.MODE = m) : Refused m code (cmdRefused code (s.setReg Reg.COND_FAIL f)) ∧
    (cmdRefused code (s.setReg Reg.COND_FAIL f)).reg Reg.COND_FAIL = f := by
  obtain ⟨-, -, hregs⟩ := cmdRefused_spec (s.setReg Reg.COND_FAIL f) code
  exact ⟨cmdRefused_refused _ code ((reg_setReg_other _ _ (by decide)).trans h), (hregs _ (by decide)).trans (reg_setReg_self _ _ _)⟩

theorem presetOmega_lreg (w : Rat) (s : State) {k : Nat} (h : k ≠ Reg.MODE_STATUS) : (presetOmega w s).lreg k = s.lreg k :=
  lreg_of rfl (reg_setFlag_other _ _ _ h)

theorem offLog_preEn : OffLog Reg.PRE_EN := by
  unfold OffLog
  decide

/-- An object that a recorded transition does not concern acts on the law as before. -/
theorem recordMode_lreg (new cause : Nat) (s : State) : (recordMode new cause s).lreg Reg.PRE_EN = s.lreg Reg.PRE_EN := by
  obtain ⟨q, a, n, e, p, r, hl⟩ := logMode_law s s.mode new cause
  refine lreg_of (congrArg (·.seen) hl) ((logMode_reg _ _ _ _ _ offLog_preEn).trans ?_)
  rw [reg_bump_other _ (by decide), reg_setReg_other _ _ (by decide), reg_setReg_other _ _ (by decide), reg_setReg_other _ _ (by decide),
    reg_setReg_other _ _ (by decide)]

/-- With PRE_EN the stages begin at SATURATE (R98, R103). -/
theorem enterStart_saturates (mode : Nat) (h : s.lreg Reg.PRE_EN = 1) : (enterStart mode s).reg Reg.BS_STAGE = 1 := by
  have hpre (w : Rat) (c : Cad) : (presetOmega w ((recordMode mode 1 s).setCad c)).lreg Reg.PRE_EN = 1 :=
    (presetOmega_lreg _ _ (by decide)).trans ((recordMode_lreg mode 1 s).trans h)
  exact (congrArg (fun u : State => u.reg Reg.BS_STAGE) (if_pos (hpre _ _))).trans (setStage_stage _ _)

end Sys2Proof.Machine

namespace Sys2Proof

open Machine

section

variable {s : State}

/-- The first cause that holds decides (R61). -/
theorem policyCauses_basecamp (hb : s.holds = true) (hc : s.basecampCause ≠ 0) : policyCauses s = enterBasecamp s.basecampCause s :=
  (if_neg (by simp [hb])).trans (if_pos (by simp [hc]))

theorem policyCauses_lawFault (hb : s.holds = true) (hc : s.basecampCause = 0) (hs : s.switching = true) (hf : s.lawFaulted = true) :
    policyCauses s = enterHold 17 s :=
  (if_neg (by simp [hb])).trans ((if_neg (by simp [hc])).trans (if_pos (by simp [hs, hf])))

theorem policyCauses_later (hb : s.holds = true) (hc : s.basecampCause = 0) (hf : s.switching = false ∨ s.lawFaulted = false) :
    policyCauses s = if s.limitCause != 0 then enterBasecamp s.limitCause s else
      match s.autoExit with
      | some f => f s
      | none => nextCommand s :=
  (if_neg (by simp [hb])).trans ((if_neg (by simp [hc])).trans (if_neg (by rcases hf with h | h <;> simp [h])))

theorem policyCauses_withoutBaton (hb : s.holds = false) : policyCauses s = nextCommand s := if_pos (by simp [hb])

theorem policyCauses_command (hb : s.holds = true) (hc : s.basecampCause = 0) (hf : s.switching = false ∨ s.lawFaulted = false)
    (hl : s.limitCause = 0) (ha : s.autoExit.isNone = true) : policyCauses s = nextCommand s := by
  rw [policyCauses_later hb hc hf, if_neg (by simp [hl]), Option.isNone_iff_eq_none.1 ha]

theorem basecampCause_mode (h : s.basecampCause ≠ 0) : s.reg Reg.MODE ≠ 0 := fun hm => h (if_pos hm)

theorem limitCause_mode (h : s.limitCause ≠ 0) : s.reg Reg.MODE = 3 := by
  by_contra hm
  exact h (if_pos (by simpa [State.mode, mLIMIT] using hm))

end

/-- Settles O55: policy takes its oldest command, which is BASECAMP, or is refused with code 9. -/
theorem policyRefusesInSoftStopAndHold : Obligations.PolicyRefusesInSoftStopAndHold := by
  unfold Obligations.PolicyRefusesInSoftStopAndHold
  intro s v seen rest hb ha hs hc hrest hbar
  rw [nextCommand_takes hc hrest ha hs]
  refine ⟨fun hv => ?_, fun hv => ?_⟩
  · subst hv
    exact runCommand_basecamp_spec hb
  · rw [runCommand_barred (s := s.setLaw { s.law with cmds := rest }) hb hv hbar]
    obtain ⟨hcmd, hcode, hregs⟩ := cmdRefused_spec (s.setLaw { s.law with cmds := rest }) 9
    have hk : Keeps 32776 s (cmdRefused 9 (s.setLaw { s.law with cmds := rest })) :=
      Keeps.step (cmdRefused_keeps ..) (by decide) ((State.setLaw_keeps ..).mono (by decide))
    exact ⟨hcmd, hcode, hregs, hk.partsKept_of, rfl⟩

section

variable {s : State} {v : Nat} {seen : Nat × Nat}

theorem measured_mode {m : Nat} (hm : s.reg Reg.MODE = m) : (measured s).reg Reg.MODE = m := (measured_reg s (by decide)).trans hm

theorem runCommand_withoutBaton_refused (hb : s.holds = false) : Refused (s.reg Reg.MODE) 10 (runCommand v seen s) := by
  rw [runCommand_withoutBaton hb]
  exact cmdRefused_refused s 10 rfl

variable (hb : s.holds = true)
include hb

theorem runCommand_ownMode_done (hv : v = s.reg Reg.MODE) (hr : s.mayRun v) : (runCommand v seen s).reg Reg.MODE_CMD = 2 ∧
    (runCommand v seen s).reg Reg.CMD_REFUSAL = 0 ∧ (runCommand v seen s).reg Reg.MODE = s.reg Reg.MODE := by
  obtain ⟨hcmd, hcode, hregs⟩ := cmdDone_spec s
  rw [runCommand_ownMode hb hv hr]
  exact ⟨hcmd, hcode, hregs _ (by decide)⟩

theorem runCommand_basecamp_enters (hm : s.reg Reg.MODE ≠ 0) :
    Enters 0 1 s (runCommand 0 seen s) ∧ (runCommand 0 seen s).reg Reg.MODE_CMD = 2 := by
  rw [runCommand_basecamp hb hm]
  exact ⟨cmdDone_enters (enterBasecamp_enters 1 s hm), (cmdDone_spec _).1⟩

theorem runCommand_hold_refused (hv : v ≠ 0) (hm : s.reg Reg.MODE = 6) : Refused (s.reg Reg.MODE) 9 (runCommand v seen s) := by
  rw [runCommand_barred hb hv (.inl hm)]
  exact cmdRefused_refused s 9 rfl

variable (hs : s.ms F.MODE_STATUS_STOPPING = false)
include hs

theorem runCommand_arm_refused (hm : s.reg Reg.MODE = 0) (hf : s.armFail ≠ 0) : Refused (s.reg Reg.MODE) s.armFail (runCommand 1 seen s) := by
  have hrun : runCommand 1 seen s = cmdRefused s.armFail s := by
    rw [runCommand_row hb (by rw [hm]; decide) (.inr ⟨by rw [hm]; decide, hs⟩) (by rw [hm]; decide), if_neg (by decide),
      if_pos (show 1 = mARMED from rfl), if_pos (show s.mode = mBASECAMP from hm), if_pos (by simp [hf])]
  rw [hrun]
  exact cmdRefused_refused s _ rfl

/-- FORM, START and SYNC have no row in BASECAMP. -/
theorem runCommand_noRow_refused (hv : v = 2 ∨ v = 4 ∨ v = 5) (hm : s.reg Reg.MODE = 0) :
    Refused (s.reg Reg.MODE) (s.noRowCode v seen) (runCommand v seen s) := by
  rw [runCommand_noRow hb (by omega) (.inr ⟨by omega, hs⟩) (by rw [hm]; rcases hv with rfl | rfl | rfl <;> rfl)]
  exact cmdRefused_refused s _ rfl

/-- An ARMED command in a switching mode begins the soft stop (R65). -/
theorem runCommand_softStop (hm : 2 ≤ s.reg Reg.MODE) (hm' : s.reg Reg.MODE ≤ 5) : (runCommand 1 seen s).law.stopAt = some s.now ∧
    (runCommand 1 seen s).ms F.MODE_STATUS_STOPPING = true ∧ (runCommand 1 seen s).reg Reg.MODE = s.reg Reg.MODE := by
  have hrow : rowFrom (s.reg Reg.MODE) 1 = true := by simp [rowFrom, mBASECAMP, mARMED, mFORM, mSYNC, hm, hm']
  have hbase : ¬s.mode = mBASECAMP := show ¬s.reg Reg.MODE = 0 by omega
  have hrun : runCommand 1 seen s = (s.setMs F.MODE_STATUS_STOPPING true).setLaw { s.law with stopAt := some s.now, stopWait := false } := by
    rw [runCommand_row hb (by omega) (.inr ⟨by omega, hs⟩) hrow, if_neg (by decide), if_pos (show 1 = mARMED from rfl),
      if_neg hbase]
  rw [hrun]
  exact ⟨rfl, ms_setMs_self s true (by decide), reg_setFlag_other s _ _ (by decide)⟩

/-! ## Commands in ARMED -/

variable (hm : s.reg Reg.MODE = 1)
include hm

theorem runCommand_fromArmed (hv : v = 2 ∨ v = 4 ∨ v = 5) : runCommand v seen s = runSwitching v (measured s) := by
  have hrow : rowFrom (s.reg Reg.MODE) v = true := by
    rw [hm]
    rcases hv with rfl | rfl | rfl <;> rfl
  have hbase : v ≠ mBASECAMP := show v ≠ 0 by omega
  have harmed : v ≠ mARMED := show v ≠ 1 by omega
  rw [runCommand_row hb (by omega) (.inr ⟨by omega, hs⟩) hrow, if_neg hbase, if_neg harmed]

theorem runCommand_form_refused (hf : s.brk ≠ 1) : Refused (s.reg Reg.MODE) 6 (runCommand 2 seen s) := by
  rw [runCommand_fromArmed hb hs hm (by decide), runSwitching_form (by rwa [measured_brk])]
  exact cmdRefused_refused _ 6 (measured_mode rfl)

theorem runCommand_start_refused (hf : (measured s).startFail ≠ 0) :
    Refused (s.reg Reg.MODE) (condCode (measured s).startFail) (runCommand 4 seen s) ∧
      (runCommand 4 seen s).reg Reg.COND_FAIL = (measured s).startFail := by
  rw [runCommand_fromArmed hb hs hm (by decide), runSwitching_start hf]
  exact condRefused (measured_mode rfl)

theorem runCommand_sync_refused (hf : (measured s).syncFail false ≠ 0) :
    Refused (s.reg Reg.MODE) (condCode ((measured s).syncFail false)) (runCommand 5 seen s) ∧
      (runCommand 5 seen s).reg Reg.COND_FAIL = (measured s).syncFail false := by
  rw [runCommand_fromArmed hb hs hm (by decide), runSwitching_sync (by rw [measured_mode hm]; decide), if_pos (by simp [hf])]
  exact condRefused (measured_mode rfl)

theorem runCommand_sync_saturates (hf : (measured s).syncFail false = 0) (hp : s.lreg Reg.PRE_EN = 1) :
    (runCommand 5 seen s).reg Reg.MODE_CMD = 2 ∧ (runCommand 5 seen s).reg Reg.BS_STAGE = 1 := by
  obtain ⟨hcmd, -, hregs⟩ := cmdDone_spec (enterStart mSYNC (measured s))
  rw [runCommand_fromArmed hb hs hm (by decide), runSwitching_sync (by rw [measured_mode hm]; decide), if_neg (by simp [hf])]
  exact ⟨hcmd, (hregs _ (by decide)).trans (enterStart_saturates mSYNC (by rwa [measured_lreg s (by decide)]))⟩

end

/-- Settles O25: the causes of policy in their order, then the commands, row by row. -/
theorem policyOrder : Obligations.PolicyOrder := by
  unfold Obligations.PolicyOrder
  intro s v seen t
  refine ⟨fun h => ⟨_, if_pos h, rfl⟩, fun h => ⟨_, if_neg h, rfl⟩, fun hb => ⟨fun hc => ?_, fun hc hs hf => ?_, fun hc hf hl => ?_,
    policyCauses_command hb⟩, fun hb => ⟨runCommand_withoutBaton_refused hb, policyCauses_withoutBaton hb⟩, fun hb => ?_⟩
  · rw [policyCauses_basecamp hb hc]
    exact enterBasecamp_enters _ s (basecampCause_mode hc)
  · rw [policyCauses_lawFault hb hc hs hf]
    exact (enterHold_enters 17 s hs hb).1
  · rw [policyCauses_later hb hc hf, if_pos (by simp [hl])]
    exact enterBasecamp_enters _ s (by rw [limitCause_mode hl]; decide)
  · refine ⟨runCommand_ownMode_done hb, ?_, fun _ => runCommand_hold_refused hb, ?_, ?_, ?_, ?_, ?_,
      fun hv hm hs => runCommand_noRow_refused hb hs hv hm, ?_⟩
    · rintro rfl hm
      exact runCommand_basecamp_enters hb hm
    · rintro rfl hm hs
      exact runCommand_arm_refused hb hs hm
    · rintro rfl hm hs
      exact runCommand_form_refused hb hs hm
    · rintro rfl hm hs
      exact runCommand_start_refused hb hs hm
    · rintro rfl hm hs
      exact runCommand_sync_refused hb hs hm
    · rintro rfl hm hs
      exact runCommand_sync_saturates hb hs hm
    · rintro rfl hm hm' hs
      exact runCommand_softStop hb hs hm hm'

end Sys2Proof

end

section
/-!
SUPPORT. LIMIT (R67, R77 to R81): its entry by a detector, its return to FORM, and its exits to BASECAMP.
-/

namespace Sys2Proof.Machine

variable (s : State)

theorem pushLog_now (f : Nat → Nat) (n v : Nat) : (pushLog f n v s).now = s.now := (pushLog_keeps f n v s).parts .now (by decide)

theorem bump_now (k : Nat) : (s.bump k).now = s.now := (State.bump_keeps s k).parts .now (by decide)

/-- A LIMIT period that ends with a return to FORM shows its duration (Table 3-14). -/
theorem limitEnds_limitLast : (limitEnds mLIMIT mFORM s).reg Reg.LIMIT_LAST = (s.now - s.law.limitAt) / Sys2Proof.ms 1 :=
  reg_setReg_self s Reg.LIMIT_LAST _

theorem logMode_limitLast (cause : Nat) :
    (logMode mLIMIT mFORM cause s).reg Reg.LIMIT_LAST = (s.now - s.law.limitAt) / Sys2Proof.ms 1 := by
  have hnow (u : State) (l : Law) (f : Fld) (b : Bool) : ((u.setLaw l).setMs f b).now = u.now := rfl
  have hlaw (u : State) (l : Law) (f : Fld) (b : Bool) : ((u.setLaw l).setMs f b).law = l := rfl
  unfold logMode
  dsimp only
  rw [stepDeferred_reg _ (by decide) (by decide), reg_setReg_other _ _ (by decide), apply_ite (fun s : State => s.reg Reg.LIMIT_LAST),
    estGate_reg _ (by decide) (by decide), ite_self, limitEnds_limitLast, if_neg (by decide)]
  rw [hnow, hlaw, pushLog_now, pushLog_now, bump_now, pushLog_law, pushLog_law, bump_law]
  rfl

/-! ## Entry (R67) -/

theorem enterLimit_of_confirmed {k : Nat} (h : (List.range 8).find? s.detConfirmed = some k) : ∃ u mask v l, Enters 3 (k + 2) s u ∧
    enterLimit s = ((u.setReg Reg.LIMIT_CAUSES mask).setReg Reg.V1_MIN v).setLaw l := by
  unfold enterLimit
  rw [h]
  exact ⟨_, _, _, _, (recordMode_enters 3 (k + 2) s).bump (k := Reg.LIMIT_COUNT) (by decide), rfl⟩

theorem enterLimit_enters {k : Nat} (h : (List.range 8).find? s.detConfirmed = some k) : Enters 3 (k + 2) s (enterLimit s) := by
  obtain ⟨u, mask, v, l, hu, heq⟩ := enterLimit_of_confirmed s h
  rw [heq]
  exact ((hu.setReg mask (by decide)).setReg v (by decide)).setLaw l

/-- A phase jump shows in its own objects alone (R77). -/
theorem phaseJump_reg {j : Nat} (h : j ≠ Reg.PJ_LAST) (h' : j ≠ Reg.MODE_STATUS) : (phaseJump s).reg j = s.reg j := by
  unfold phaseJump
  dsimp only
  split
  · exact (reg_setFlag_other _ _ _ h').trans (reg_setReg_other _ _ h)
  · exact reg_setReg_other _ _ h

/-- A detector that confirms in FORM enters LIMIT with its cause; a phase jump that it records leaves the transition as it was. -/
theorem limitEntry_enters {k : Nat} (hm : s.reg Reg.MODE = 2) (hb : s.holds = true) (h : (List.range 8).find? s.detConfirmed = some k) :
    Enters 3 (k + 2) s (limitEntry s) := by
  have he : (if s.mode = mFORM && s.holds then enterLimit s else s) = enterLimit s :=
    if_pos (by simp [State.mode, mFORM, hm, hb])
  unfold limitEntry
  dsimp only
  rw [he]
  split
  · refine (enterLimit_enters s h).of_regs ?_
    rintro j (rfl | rfl | rfl) <;> exact phaseJump_reg _ (by decide) (by decide)
  · exact enterLimit_enters s h

/-! ## Return and exits (R80, R81) -/

theorem leaveLimit_enters : Enters 2 10 s (leaveLimit s) := ((recordMode_enters 2 10 s).setLaw _).setLaw _

theorem leaveLimit_limitLast (hm : s.mode = mLIMIT) : (leaveLimit s).reg Reg.LIMIT_LAST = (s.now - s.law.limitAt) / Sys2Proof.ms 1 := by
  unfold leaveLimit presetInner recordMode
  dsimp only
  rw [setLaw_reg, setLaw_reg, hm, logMode_limitLast]

theorem recovered_mode (h : s.recovered = true) : s.mode = mLIMIT := by
  unfold State.recovered at h
  rw [Bool.and_eq_true, beq_iff_eq] at h
  exact h.1

theorem limitExit_due {cause : Nat} {due : State → Bool} {t : Instant} (hb : s.holds = true) (hm : s.reg Reg.MODE = 3)
    (hd : due (s.advance t) = true) : Enters 0 cause s (limitExit cause due t s) := by
  have he : limitExit cause due t s = enterBasecamp cause (s.advance t) := if_pos (by simp [State.mode, mLIMIT, hb, hm, hd])
  rw [he]
  exact enterBasecamp_enters cause (s.advance t) (by rw [advance_reg, hm]; decide)

end Sys2Proof.Machine

namespace Sys2Proof

open Machine

variable (s : State) (t : Instant)

theorem limitRecovery_spec (hb : s.holds = true) (hr : (s.advance t).recovered = true) : Completes (.limitRecovery t) s fun u =>
    Enters 2 10 s u ∧ u.reg Reg.LIMIT_LAST = ((s.advance t).now - s.law.limitAt) / Sys2Proof.ms 1 :=
  ⟨_, if_pos (by rw [hb, hr]; rfl), leaveLimit_enters (s.advance t), leaveLimit_limitLast (s.advance t) (recovered_mode _ hr)⟩

theorem dcLinkTrip_spec (hb : s.holds = true) (hv : 4 ≤ s.law.vdcTrip) (hm : s.reg Reg.MODE ≠ 0) :
    Completes (.dcLinkTrip t) s (Enters 0 24 s) :=
  ⟨_, if_pos (by simp [State.mode, mBASECAMP, hb, hv, hm]), enterBasecamp_enters 24 (s.advance t) hm⟩

theorem pjFollowEnd_spec (hf : s.ms F.MODE_STATUS_PJ_FOLLOW = true) (hn : s.law.pjN = 0) : Completes (.pjFollowEnd t) s fun u =>
    u.ms F.MODE_STATUS_PJ_FOLLOW = false ∧ RegsKept [Reg.MODE_STATUS] s u ∧ PartsKept [.now, .regs] s u := by
  have he : exec (.pjFollowEnd t) s = .next ((s.advance t).setMs F.MODE_STATUS_PJ_FOLLOW false) := if_pos (by rw [hf, hn]; rfl)
  exact Completes.ofKeeps (execPjFollowEnd_keeps t s) he fun hk =>
    ⟨ms_setMs_self _ _ (by decide), RegsKept.setReg (s.advance t) _ _, hk.partsKept_of⟩

theorem kviReturnEnd_spec (hm : s.lawMode ≠ 3) (hh : heldFor s.law.kviAt (Sys2Proof.ms (s.lreg Reg.KVI_RET)) (s.advance t).now = true) :
    Completes (.kviReturnEnd t) s fun u => u.ms F.MODE_STATUS_KVI_ACTIVE = false ∧ u.law = { s.law with kviAt := none } ∧
      RegsKept [Reg.MODE_STATUS] s u ∧ PartsKept [.now, .regs, .law] s u := by
  have he : exec (.kviReturnEnd t) s =
      .next (((s.advance t).setLaw { s.law with kviAt := none }).setMs F.MODE_STATUS_KVI_ACTIVE false) :=
    if_pos (by rw [hh, Bool.and_true]; exact bne_iff_ne.2 hm)
  exact Completes.ofKeeps (execKviReturnEnd_keeps t s) he fun hk =>
    ⟨ms_setMs_self _ _ (by decide), rfl, RegsKept.setReg ((s.advance t).setLaw { s.law with kviAt := none }) _ _, hk.partsKept_of⟩

theorem brkStateAged_spec (ha : s.lreg Reg.BRK_MAXAGE ≠ 0) (ht : s.law.brkAt + Sys2Proof.ms (s.lreg Reg.BRK_MAXAGE) < (s.advance t).now) :
    Completes (.brkStateAged t) s fun u => u.reg Reg.BRK_STATE = 0xFF ∧ RegsKept [Reg.BRK_STATE] s u ∧ PartsKept [.now, .regs] s u := by
  have he : exec (.brkStateAged t) s = .next ((s.advance t).setReg Reg.BRK_STATE 0xFF) :=
    if_pos (by unfold brkAged; rw [decide_eq_true ht, Bool.and_true]; exact bne_iff_ne.2 ha)
  exact Completes.ofKeeps (execBrkStateAged_keeps t s) he fun hk =>
    ⟨reg_setReg_self _ _ _, RegsKept.setReg (s.advance t) _ _, hk.partsKept_of⟩

/-- Settles O21, clause by clause from the lemma of each command. -/
theorem limitAndProtectionExits : Obligations.LimitAndProtectionExits := by
  unfold Obligations.LimitAndProtectionExits
  intro s t n d
  refine ⟨fun k hm hb h => ⟨_, rfl, limitEntry_enters d hm hb h⟩, ⟨_, rfl, rfl⟩, limitRecovery_spec s t, fun hb hm => ⟨fun h => ?_, fun h => ?_,
    fun h => ?_⟩, dcLinkTrip_spec s t, pjFollowEnd_spec s t, kviReturnEnd_spec s t, brkStateAged_spec s t⟩
  · exact ⟨_, rfl, limitExit_due s hb hm h⟩
  · exact ⟨_, rfl, limitExit_due s hb hm (decide_eq_true h)⟩
  · exact ⟨_, rfl, limitExit_due s hb hm h⟩

end Sys2Proof
end

section
/-!
SUPPORT. HOLD (R86 to R90): its entry with the estimator suspended, the counts of misses, its exits, and a law engine's load from the ROM.
-/

namespace Sys2Proof.Machine

/-! ## The estimator outside FORM (R50) -/

variable {s : State}

theorem estGate_suspends (h : s.estRuns = false) :
    (estGate s).ls F.LAW_STATUS_EST_SUSPENDED = true ∧ (estGate s).law.use.probe = {} := by
  have heq : estGate s = ((s.setLs F.LAW_STATUS_EST_SUSPENDED (!s.estRuns)).setReg Reg.EST_STATE
      (if (s.setLs F.LAW_STATUS_EST_SUSPENDED (!s.estRuns)).par Reg.EST_EN = 1 then 4 else 0)).setLaw
      { s.law with est := { lastAt := s.law.est.lastAt }, use := { s.law.use with probe := {} }, next := { s.law.next with probe := {} } } :=
    if_neg (by rw [estRuns_setLs, h]; decide)
  have hflag := flag_setFlag_self (s := s) Reg.LAW_STATUS F.LAW_STATUS_EST_SUSPENDED (!s.estRuns) (by decide)
  rw [heq]
  exact ⟨(ls_of_reg _ ((setLaw_reg ..).trans (reg_setReg_other _ _ (by decide)))).trans (hflag.trans (by rw [h]; rfl)), rfl⟩

theorem offLog_lawBuiltin : OffLog Reg.LAW_BUILTIN := by
  unfold OffLog
  decide

/-- A recorded transition leaves a register that it does not concern as it was. -/
theorem logMode_reg_other (old new cause : Nat) (s : State) {j : Nat} (h : OffLog j)
    (h' : j ∉ [Reg.MODE_PREV, Reg.MODE, Reg.CAUSE, Reg.MODE_TIME, Reg.TRANS_COUNT]) : (logMode old new cause s).reg j = s.reg j := by
  simp only [List.mem_cons, List.not_mem_nil, or_false, not_or] at h'
  obtain ⟨hprev, hmode, hcause, htime, hcount⟩ := h'
  rw [logMode_reg _ _ _ _ _ h, reg_bump_other _ hcount, reg_setReg_other _ _ htime, reg_setReg_other _ _ hcause, reg_setReg_other _ _ hmode,
    reg_setReg_other _ _ hprev]

/-- A transition of the built-in law to another mode than FORM suspends the estimator. -/
theorem logMode_suspends (old cause : Nat) {new : Nat} (hl : s.reg Reg.LAW_BUILTIN = 1) (hn : new ≠ 2) :
    (logMode old new cause s).ls F.LAW_STATUS_EST_SUSPENDED = true ∧ (logMode old new cause s).law.use.probe = {} := by
  obtain ⟨w, -, heq⟩ := logMode_eq s old new cause
  have hreg {j : Nat} (ho : OffLog j) : (logMode old new cause s).reg j = w.reg j := by
    obtain ⟨⟨h1, h5, h6, h7, h8⟩, -⟩ := ho
    rw [heq, stepDeferred_reg _ h5 h6, reg_setReg_other _ _ h1, apply_ite (fun s : State => s.reg j), estGate_reg _ h7 h8, ite_self]
  have hb : w.builtin = true := by
    unfold State.builtin
    rw [← hreg offLog_lawBuiltin, logMode_reg_other _ _ _ _ offLog_lawBuiltin (by decide), hl]
    rfl
  have hm : w.mode = new := (hreg (by unfold OffLog; decide)).symm.trans (logMode_regs ..).1
  have hr : w.estRuns = false := by
    unfold State.estRuns
    rw [hm, beq_eq_false_iff_ne.2 (show new ≠ mFORM from hn)]
    rfl
  obtain ⟨hflag, hprobe⟩ := estGate_suspends hr
  rw [if_pos hb] at heq
  rw [heq]
  have hstep (v : State) : (stepDeferred v).law = v.law := (stepDeferred_keeps v).parts .law (by decide)
  exact ⟨(ls_of_reg _ ((stepDeferred_reg _ (by decide) (by decide)).trans (reg_setReg_other _ _ (by decide)))).trans hflag, by
    rw [hstep]
    exact hprobe⟩

/-! ## Entry to HOLD (R86) -/

theorem stopLost_reg (cause : Nat) (s : State) {j : Nat} (h : j ∉ cmdRegs) : (stopLost cause s).reg j = s.reg j := by
  unfold stopLost
  split
  · obtain ⟨-, -, hregs⟩ := cmdRefused_spec s 11
    exact hregs j h
  · rfl

theorem reportFaults_reg (s : State) (j : Nat) : (reportFaults s).reg j = s.reg j :=
  reg_of_regs ((reportFaults_keeps s).parts .regs (by decide)) j

/-- The built-in law's estimator is suspended in HOLD (R50). -/
theorem enterHold_suspends (cause : Nat) (hs : s.switching = true) (hb : s.holds = true) (hl : s.reg Reg.LAW_BUILTIN = 1) :
    (enterHold cause s).ls F.LAW_STATUS_EST_SUSPENDED = true ∧ (enterHold cause s).law.use.probe = {} := by
  obtain ⟨hflag, hprobe⟩ := logMode_suspends (s := stopLost cause s) (stopLost cause s).mode cause (new := mHOLD)
    ((stopLost_reg cause s (by decide)).trans hl) (by decide)
  have hlaw (u : State) : (reportFaults u).law = u.law := (reportFaults_keeps u).parts .law (by decide)
  have hset (u : State) (f : Fld) (b : Bool) : (u.setMs f b).law = u.law := rfl
  have hsetReg (u : State) (l : Law) : (u.setLaw l).law = l := rfl
  unfold enterHold recordMode
  dsimp only
  rw [if_pos (by rw [hs, hb]; rfl)]
  constructor
  · refine (ls_of_reg _ ?_).trans hflag
    rw [reportFaults_reg, State.setMs, reg_setFlag_other _ _ _ (by decide), setLaw_reg, reg_setReg_other _ _ (by decide),
      reg_bump_other _ (by decide), reg_setReg_other _ _ (by decide)]
  · rw [hlaw, hset, hsetReg, setReg_law, bump_law, setReg_law]
    exact hprobe

/-- Which cause of HOLD holds first (R86). -/
theorem holdCause_lawFault (hs : s.switching = true) (hf : s.lawFaulted = true) : s.holdCause = 17 :=
  (if_neg (by simp [hs])).trans (if_pos hf)

theorem holdCause_counts (hs : s.switching = true) (hf : s.lawFaulted = false) : s.holdCause =
    if s.lreg Reg.MISS_N ≤ s.reg Reg.MISS_RUN then 15 else if s.lreg Reg.OUTER_MISS_N ≤ s.law.outerMissRun then 16 else 0 :=
  (if_neg (by simp [hs])).trans (if_neg (by simp [hf]))

/-- HOLD entered from a switching mode: the mode held, no miss counted in it, the built-in law's estimator suspended. -/
def HoldEntered (cause : Nat) (s u : State) : Prop :=
  Enters 6 cause s u ∧ u.reg Reg.HELD_MODE = s.reg Reg.MODE ∧ u.reg Reg.HOLD_MISSES = 0 ∧
    (s.reg Reg.LAW_BUILTIN = 1 → u.ls F.LAW_STATUS_EST_SUSPENDED = true ∧ u.law.use.probe = {}) ∧
    PartsKept [.now, .free, .regs, .lanes, .law, .pair, .outs] s u

section

variable (t : Instant) (hb : s.holds = true) (hs : s.switching = true)
include hb hs

theorem missRunLimit_holds {cause : Nat} (hc : s.holdCause = cause) (h0 : cause ≠ 0) :
    Completes (.missRunLimit t) s (HoldEntered cause s) := by
  have he : exec (.missRunLimit t) s = .next (enterHold cause (s.advance t)) := (if_pos (by simp [hc, h0])).trans (by rw [hc])
  refine Completes.ofKeeps (execMissRunLimit_keeps t s) he fun hk => ?_
  obtain ⟨henter, hheld, hmiss⟩ := enterHold_enters cause (s.advance t) hs hb
  exact ⟨henter, hheld, hmiss, enterHold_suspends (s := s.advance t) cause hs hb, hk.partsKept_of⟩

theorem missRunLimit_lawFault (hf : s.lawFaulted = true) : Completes (.missRunLimit t) s (HoldEntered 17 s) :=
  missRunLimit_holds t hb hs (holdCause_lawFault hs hf) (by decide)

variable (hf : s.lawFaulted = false)
include hf

theorem missRunLimit_misses (h : s.lreg Reg.MISS_N ≤ s.reg Reg.MISS_RUN) : Completes (.missRunLimit t) s (HoldEntered 15 s) :=
  missRunLimit_holds t hb hs ((holdCause_counts hs hf).trans (if_pos h)) (by decide)

theorem missRunLimit_outerMisses (h : s.reg Reg.MISS_RUN < s.lreg Reg.MISS_N) (h' : s.lreg Reg.OUTER_MISS_N ≤ s.law.outerMissRun) :
    Completes (.missRunLimit t) s (HoldEntered 16 s) :=
  missRunLimit_holds t hb hs ((holdCause_counts hs hf).trans ((if_neg (by omega)).trans (if_pos h'))) (by decide)

omit hb in
theorem missRunLimit_none (h : s.reg Reg.MISS_RUN < s.lreg Reg.MISS_N) (h' : s.law.outerMissRun < s.lreg Reg.OUTER_MISS_N) :
    Completes (.missRunLimit t) s (· = s) := by
  have hc : s.holdCause = 0 := (holdCause_counts hs hf).trans ((if_neg (by omega)).trans (if_neg (by omega)))
  exact ⟨s, if_neg (by simp [hc]), rfl⟩

end

/-! ## The counts at an inner deadline (R86, R88, R89) -/

/-- A cycle that missed or was on time, as it is counted. -/
def missCounted (missed : Bool) (s : State) : State :=
  let s := s.setLaw { s.law with recRun := if missed then 0 else s.law.recRun + 1 }
  let s := if missed then s.bump8 Reg.MISS_RUN else s.setReg Reg.MISS_RUN 0
  if missed && s.mode == mHOLD then s.bump8 Reg.HOLD_MISSES else s

/-- What policy makes of the counts. -/
def missEvaluated (s : State) : State :=
  if !s.holds then s
  else if s.holdCause != 0 then enterHold s.holdCause s
  else if s.mode == mHOLD && decide (s.lreg Reg.MISS_M ≤ s.reg Reg.HOLD_MISSES) then enterBasecamp 19 s
  else if s.holdEnds then leaveHold s
  else s

theorem missPolicy_eq (missed : Bool) (s : State) : missPolicy missed s = missEvaluated (missCounted missed s) := rfl

theorem bump8_below {k : Nat} (s : State) (h : s.reg k < 255) : s.bump8 k = s.setReg k (s.reg k + 1) := if_pos (by omega)

theorem bump8_reg_other {j k : Nat} (s : State) (h : j ≠ k) : (s.bump8 k).reg j = s.reg j := by
  unfold State.bump8
  split
  · exact reg_setReg_other _ _ h
  · exact reg_setReg_other _ _ h

theorem bump8_holds (k : Nat) (s : State) : (s.bump8 k).holds = s.holds := by
  unfold State.bump8
  split <;> rfl

theorem bump8_missRun (s : State) (l : Law) (h : s.reg Reg.MISS_RUN < 255) :
    (s.setLaw l).bump8 Reg.MISS_RUN = (s.setLaw l).setReg Reg.MISS_RUN (s.reg Reg.MISS_RUN + 1) := bump8_below _ h

theorem missCounted_holds (missed : Bool) (s : State) : (missCounted missed s).holds = s.holds := by
  unfold missCounted
  simp only [apply_ite State.holds, bump8_holds, setReg_holds, setLaw_holds, ite_self]

/-- A missed cycle counts in MISS_RUN. -/
theorem missCounted_missed (h : s.reg Reg.MISS_RUN < 255) : (missCounted true s).reg Reg.MISS_RUN = s.reg Reg.MISS_RUN + 1 := by
  unfold missCounted
  simp only [if_true]
  rw [bump8_missRun s _ h]
  split
  · exact (bump8_reg_other _ (by decide)).trans (reg_setReg_self _ _ _)
  · exact reg_setReg_self _ _ _

/-- An on-time cycle returns MISS_RUN to zero. -/
theorem missCounted_onTime (s : State) : (missCounted false s).reg Reg.MISS_RUN = 0 := reg_setReg_self _ _ _

/-- The device without the baton counts alone. -/
theorem missPolicy_withoutBaton (missed : Bool) (hb : s.holds = false) : missPolicy missed s = missCounted missed s := by
  rw [missPolicy_eq, missEvaluated, if_pos (by rw [missCounted_holds, hb]; rfl)]

/-- Outside HOLD a missed cycle counts in MISS_RUN and ends the run of recovery alone. -/
theorem missCounted_outsideHold (hm : s.reg Reg.MODE ≠ 6) (h : s.reg Reg.MISS_RUN < 255) : missCounted true s =
    (s.setLaw { s.law with recRun := 0 }).setReg Reg.MISS_RUN (s.reg Reg.MISS_RUN + 1) := by
  have hmode : ((s.setLaw { s.law with recRun := 0 }).setReg Reg.MISS_RUN (s.reg Reg.MISS_RUN + 1)).mode ≠ mHOLD :=
    fun h6 => hm ((reg_setReg_other (s.setLaw _) _ (by decide)).symm.trans h6)
  unfold missCounted
  simp only [if_true]
  rw [bump8_missRun s _ h]
  exact if_neg (by simp [hmode])

theorem switching_not_hold (hs : s.switching = true) : s.reg Reg.MODE ≠ 6 := by
  intro h
  unfold State.switching State.mode at hs
  rw [h] at hs
  exact absurd hs (by decide)

/-- The miss that reaches MISS_N enters HOLD at that deadline. -/
theorem missPolicy_enters (hb : s.holds = true) (hs : s.switching = true) (hf : s.lawFaulted = false) (h : s.reg Reg.MISS_RUN < 255)
    (hn : s.lreg Reg.MISS_N ≤ s.reg Reg.MISS_RUN + 1) : Enters 6 15 s (missPolicy true s) := by
  have heq := missCounted_outsideHold (switching_not_hold hs) h
  have hreg {j : Nat} (hj : j ≠ Reg.MISS_RUN) : (missCounted true s).reg j = s.reg j := by
    rw [heq, reg_setReg_other _ _ hj, setLaw_reg]
  have hseen : (missCounted true s).law.seen = s.law.seen := by rw [heq]; rfl
  have hlreg {j : Nat} (hj : j ≠ Reg.MISS_RUN) : (missCounted true s).lreg j = s.lreg j := lreg_of hseen (hreg hj)
  have hswitch : (missCounted true s).switching = true := by
    unfold State.switching State.mode
    rw [hreg (by decide)]
    exact hs
  have hfault : (missCounted true s).lawFaulted = false := by
    have heng (e : Nat) : (missCounted true s).engine e = s.engine e := by rw [heq]; rfl
    unfold State.lawFaulted State.lawEngine State.builtin
    simp only [hreg (show Reg.LAW_BUILTIN ≠ Reg.MISS_RUN by decide), hlreg (show Reg.LAW_ENGINES ≠ Reg.MISS_RUN by decide), heng]
    exact hf
  have hcause : (missCounted true s).holdCause = 15 := by
    rw [holdCause_counts hswitch hfault, if_pos]
    rw [hlreg (by decide), missCounted_missed h]
    exact hn
  have hholds : (missCounted true s).holds = true := (missCounted_holds true s).trans hb
  have henter : missPolicy true s = enterHold 15 (missCounted true s) := by
    rw [missPolicy_eq, missEvaluated, if_neg (by rw [hholds]; decide), if_pos (by rw [hcause]; decide), hcause]
  rw [henter]
  obtain ⟨⟨hmode, hcode, hprev⟩, -, -⟩ := enterHold_enters 15 (missCounted true s) hswitch hholds
  exact ⟨hmode, hcode, hprev.trans (hreg (by decide))⟩

/-! ## Exits of HOLD (R88, R89) -/

theorem holdRecover_spec (t : Instant) (hb : s.holds = true) (hm : s.reg Reg.MODE = 6) (hr : s.lreg Reg.HOLD_RECOVER ≤ s.law.recRun)
    (ho : s.law.outerOk = true) (hf : s.lawFaulted = false) : Completes (.holdRecover t) s fun u =>
      Enters (s.reg Reg.HELD_MODE) 18 s u ∧ PartsKept [.now, .free, .regs, .lanes, .law] s u := by
  have he : exec (.holdRecover t) s = .next (leaveHold (s.advance t)) :=
    if_pos (by simp [State.holdEnds, State.mode, mHOLD, hb, hm, hr, ho, hf])
  exact Completes.ofKeeps (execHoldRecover_keeps t s) he fun hk =>
    ⟨(recordMode_enters (s.reg Reg.HELD_MODE) 18 (s.advance t)).setLaw _, hk.partsKept_of⟩

theorem holdMissesLimit_spec (t : Instant) (hb : s.holds = true) (hm : s.reg Reg.MODE = 6) (hn : s.lreg Reg.MISS_M ≤ s.reg Reg.HOLD_MISSES) :
    Completes (.holdMissesLimit t) s (Enters 0 19 s) :=
  ⟨_, if_pos (by simp [State.mode, mHOLD, hb, hm, hn]), enterBasecamp_enters 19 (s.advance t) (by rw [advance_reg, hm]; decide)⟩

theorem holdTimeExpiry_spec (t : Instant) (hb : s.holds = true) (hm : s.reg Reg.MODE = 6)
    (ht : s.law.holdAt + Sys2Proof.ms (s.lreg Reg.HOLD_TIME) ≤ (s.advance t).now) : Completes (.holdTimeExpiry t) s (Enters 0 20 s) :=
  ⟨_, if_pos (by rw [hb, decide_eq_true ht, Bool.and_true]; exact beq_iff_eq.2 hm),
    enterBasecamp_enters 20 (s.advance t) (by rw [advance_reg, hm]; decide)⟩

/-! ## A law engine reloaded from the ROM (R90) -/

theorem tabGet_filter {α : Type} (d : α) (t : Tab α) (p : Nat → Bool) (k : Nat) :
    tabGet d (t.filter fun e => p e.1) k = if p k then tabGet d t k else d := by
  induction t with
  | nil => exact (ite_self d).symm
  | cons e t ih =>
    obtain ⟨j, v⟩ := e
    by_cases hj : j = k
    · subst hj
      cases hp : p j <;> simp_all [tabGet]
    · cases hp : p j <;> simp_all [tabGet]

/-- Outside a range of addresses. -/
def outside (lo hi a : Nat) : Bool := decide (a < lo) || decide (hi ≤ a)

theorem outside_false {lo hi a : Nat} (h : lo ≤ a) (h' : a < hi) : outside lo hi a = false := by
  rw [outside, decide_eq_false (by omega), decide_eq_false (by omega), Bool.or_self]

theorem outside_true {lo hi a : Nat} (h : a < lo ∨ hi ≤ a) : outside lo hi a = true := by
  simpa [outside] using h

theorem sramClear_parts (e : Nat) (s : State) :
    (sramClear e s).mem = s.mem.filter (fun c => outside (progAddr e 0) (progAddr e 0 + 0x10000) c.1) ∧
      (sramClear e s).memo.ecc = s.memo.ecc.filter fun x => outside (progAddr e 0) (progAddr e 0 + 0x10000) x.1 := ⟨rfl, rfl⟩

theorem sramClear_inside (e : Nat) (s : State) {a : Nat} (h : progAddr e 0 ≤ a) (h' : a < progAddr e 0 + 0x10000) :
    memByte (sramClear e s).mem a = 0 ∧ (sramClear e s).eccAt a = 0 := by
  obtain ⟨hmem, hecc⟩ := sramClear_parts e s
  have hout : ¬outside (progAddr e 0) (progAddr e 0 + 0x10000) a = true := by
    rw [outside_false h h']
    decide
  unfold memByte State.eccAt
  rw [hmem, hecc]
  exact ⟨(tabGet_filter ..).trans (if_neg hout), (tabGet_filter ..).trans (if_neg hout)⟩

theorem sramClear_outside (e : Nat) (s : State) {a : Nat} (h : a < progAddr e 0 ∨ progAddr e 0 + 0x10000 ≤ a) :
    memByte (sramClear e s).mem a = memByte s.mem a := by
  unfold memByte
  rw [(sramClear_parts e s).1]
  exact (tabGet_filter ..).trans (if_pos (outside_true h))

theorem engineRomReload_spec (e : Fin 8) (t : Instant) (hl : s.reg Reg.LAW_BUILTIN = 1) (hf : (s.engine e).faulted = true) :
    Completes (.engineRomReload e t) s fun u =>
      (u.engine e).valid = true ∧ (u.engine e).faulted = false ∧ (u.engine e).inCycle = false ∧
        (∀ a, progAddr e 0 ≤ a → a < progAddr e 0 + 0x10000 → memByte u.mem a = 0 ∧ u.eccAt a = 0) ∧
        (∀ a, a < progAddr e 0 ∨ progAddr e 0 + 0x10000 ≤ a → memByte u.mem a = memByte s.mem a) ∧
        PartsKept [.now, .mem, .engines, .memo] s u := by
  have hb : s.builtin = true := beq_iff_eq.2 hl
  have he : exec (.engineRomReload e t) s = .next (romLoad e (s.advance t)) := if_pos (by rw [hb, hf]; rfl)
  refine Completes.ofKeeps (execEngineRomReload_keeps e t s) he fun hk => ?_
  have hx : (romLoad e (s.advance t)).engine e = ((sramClear e (s.advance t)).engine e).cleared true := engine_setEngine _ _ _
  rw [hx]
  exact ⟨rfl, rfl, rfl, fun a h h' => sramClear_inside e (s.advance t) h h', fun a h => sramClear_outside e (s.advance t) h, hk.partsKept_of⟩

/-! ## An ARMED command that runs out of time (R186) -/

theorem armTimeout_spec (t : Instant) {a : Instant} (ha : s.arming = some a)
    (ht : a + Sys2Proof.ms (s.lreg Reg.ARM_TIMEOUT) ≤ (s.advance t).now) : Completes (.armTimeout t) s fun u =>
      u.arming = none ∧ u.reg Reg.MODE_CMD = 3 ∧ u.reg Reg.CMD_REFUSAL = 4 ∧ PartsKept [.now, .regs, .lanes, .arming] s u := by
  have hr : armRefused 4 (s.advance t) = cmdRefused 4 (lanesIdle { s.advance t with arming := none }) :=
    if_pos (by rw [advance_arming, ha]; rfl)
  have he : exec (.armTimeout t) s = .next (armRefused 4 (s.advance t)) := if_pos (by rw [ha, Option.any_some, decide_eq_true ht])
  refine Completes.ofKeeps (execArmTimeout_keeps t s) he fun hk => ?_
  rw [hr] at hk ⊢
  obtain ⟨hcmd, hcode, -⟩ := cmdRefused_spec (lanesIdle { s.advance t with arming := none }) 4
  exact ⟨(lanesIdle_keeps { s.advance t with arming := none }).parts .arming (by decide), hcmd, hcode, hk.partsKept_of⟩

/-! ## The end of the soft stop (R65) -/

theorem loadGroup_pwmRegs (author : Option (Nat × Nat)) {g : Nat} (hg : g < 8) (s : State) : PwmRegs s (loadGroup author g s) := by
  have hst : pwmPage (Reg.LG_STATUS g) := pwmPage_lgStatus hg
  unfold loadGroup
  refine PwmRegs.ite ?_ (PwmRegs.ite (tornGroup_pwmRegs hg (PwmRegs.refl s)) ?_)
  · exact PwmRegs.setFlag ((PwmRegs.refl s).update (u := setLoadStatus (24 + g) true s) rfl) _ _ hst
  · refine PwmRegs.trans (PwmRegs.keeps (PwmRegs.keeps (PwmRegs.keeps (PwmRegs.keeps ?_ (setLoadStatus_keeps ..)) (setLoadStatus_keeps ..))
      (setLoadStatus_keeps ..)) (State.setSnap_keeps ..)) (snapshotEligible_pwmRegs _ _ hg)
    exact PwmRegs.ite ((PwmRegs.refl s).setFlag _ _ hst) (PwmRegs.refl s)

theorem loadAllGroups_pwmRegs (author : Option (Nat × Nat)) (mask : Nat) (s : State) : PwmRegs s (loadAllGroups author mask s) :=
  PwmRegs.forEach (PwmRegs.refl s) fun _ hg u => loadGroup_pwmRegs author (mem_bitsOf.1 hg).1 u

/-- Static-off registered in the mode shadow of every law channel. -/
def staticOffWritten (s : State) : State := s.forEach s.lawChans fun c y => writeShadow none (modePort c) 1 y

/-- Static-off loaded, the transfer awaited. -/
def staticOffLoaded (s : State) : State :=
  loadAllGroups none s.lawGroups ((staticOffWritten s).setLaw { (staticOffWritten s).law with stopWait := true })

theorem staticOffWritten_keeps (s : State) : Keeps 224 s (staticOffWritten s) :=
  Keeps.forEach _ _ (fun c u h => Keeps.step (writeShadow_keeps none (modePort c) 1 u) (by decide) h) (Keeps.refl 224 s)

/-- Loading static-off writes no register but those of the PWM generator. -/
theorem staticOffLoaded_pwmRegs (s : State) : PwmRegs s (staticOffLoaded s) := by
  have hset (l : Law) : PwmRegs s ((staticOffWritten s).setLaw l) :=
    ((PwmRegs.refl s).keeps (staticOffWritten_keeps s)).keeps (State.setLaw_keeps ..)
  exact (hset _).trans (loadAllGroups_pwmRegs none _ _)

theorem staticOffLoaded_law (s : State) : (staticOffLoaded s).law = { s.law with stopWait := true } := by
  have hlaw (u : State) (l : Law) : (u.setLaw l).law = l := rfl
  unfold staticOffLoaded
  rw [(loadAllGroups_keeps ..).parts .law (by decide), hlaw, (staticOffWritten_keeps s).parts .law (by decide)]

theorem not_pwmPage_lawGroups : ¬pwmPage Reg.LAW_GROUPS := by unfold pwmPage Reg.LAW_GROUPS Reg.key; omega

theorem not_pwmPage_mode : ¬pwmPage Reg.MODE := by unfold pwmPage Reg.MODE Reg.key; omega

theorem lawGroups_pwmRegs {u : State} (h : PwmRegs s u) : u.lawGroups = s.lawGroups := by
  unfold State.lawGroups State.builtin
  rw [h.reg _ not_pwmPage_builtin, h.reg _ not_pwmPage_lawGroups]

/-- The groups are the same before and after the shadows are written. -/
theorem softStopWrite_eq (s : State) : softStopWrite s = softStopCheck (staticOffLoaded s) := by
  have hgroups : (staticOffWritten s).lawGroups = s.lawGroups := lawGroups_pwmRegs ((PwmRegs.refl s).keeps (staticOffWritten_keeps s))
  unfold staticOffLoaded
  rw [← hgroups]
  rfl

theorem clearLawFlags_stopAt (s : State) : (clearLawFlags s).law.stopAt = none := rfl

/-- A transition back to ARMED ends the soft stop. -/
theorem backToArmed_stopAt (s : State) : (backToArmed 1 s).law.stopAt = none := by
  have hcad (u : State) (c : Cad) : (u.setCad c).law = u.law := rfl
  have hflags (u : State) (l : List Fld) : (l.foldl (fun s f => s.setFlag Reg.BS_STATUS f false) u).law = u.law :=
    forEach_frame State.law l (fun f s => s.setFlag Reg.BS_STATUS f false) (fun _ _ => rfl) u
  have hstop (u : State) : (txStop u).law = u.law := rfl
  have hstage (u : State) : (setStage 0 u).law = u.law := rfl
  have hlog (old new cause : Nat) (u : State) : (logMode old new cause u).law.stopAt = u.law.stopAt := by
    obtain ⟨_, _, _, _, _, _, h⟩ := logMode_law u old new cause
    rw [h]
  unfold backToArmed
  dsimp only
  rw [hlog, hcad, hflags, hstop, hstage, clearLawFlags_stopAt]

section

variable (t : Instant) {a : Instant} (hs : s.ms F.MODE_STATUS_STOPPING = true) (hw : s.law.stopWait = false) (ha : s.law.stopAt = some a)
  (ht : a + Sys2Proof.ms (s.lreg Reg.STOP_RAMP) ≤ (s.advance t).now)
include hs hw ha ht

theorem softStopComplete_writes : exec (.softStopComplete t) s = .next (softStopCheck (staticOffLoaded (s.advance t))) := by
  have he : exec (.softStopComplete t) s = .next (softStopWrite (s.advance t)) :=
    if_pos (by rw [hs, hw, ha, heldFor, Option.any_some, decide_eq_true ht]; rfl)
  rw [he, softStopWrite_eq]

/-- A group that waits for its transfer keeps the device in its mode. -/
theorem softStopComplete_waits {g : Nat} (hg : g ∈ bitsOf 8 (s.advance t).lawGroups) (hsnap : (staticOffLoaded (s.advance t)).snap g ≠ none) :
    Completes (.softStopComplete t) s fun u =>
      u = staticOffLoaded (s.advance t) ∧ u.reg Reg.MODE = s.reg Reg.MODE ∧ u.law.stopAt = some a := by
  have hregs := staticOffLoaded_pwmRegs (s.advance t)
  refine ⟨_, softStopComplete_writes t hs hw ha ht, ?_⟩
  rw [softStopCheck, if_neg]
  · refine ⟨rfl, hregs.reg _ not_pwmPage_mode, ?_⟩
    rw [staticOffLoaded_law]
    exact ha
  · rw [lawGroups_pwmRegs hregs, Bool.and_eq_true, List.all_eq_true]
    rintro ⟨-, hall⟩
    exact hsnap (Option.isNone_iff_eq_none.1 (hall g hg))

/-- With every group transferred the device is in ARMED and its command done. -/
theorem softStopComplete_arms (hsnap : ∀ g, g ∈ bitsOf 8 (s.advance t).lawGroups → (staticOffLoaded (s.advance t)).snap g = none) :
    Completes (.softStopComplete t) s fun u =>
      Enters 1 1 s u ∧ u.law.stopAt = none ∧ u.reg Reg.MODE_CMD = 2 ∧ u.reg Reg.CMD_REFUSAL = 0 := by
  have hregs := staticOffLoaded_pwmRegs (s.advance t)
  have hwait : (staticOffLoaded (s.advance t)).law.stopWait = true := by rw [staticOffLoaded_law]
  have hall : (bitsOf 8 (staticOffLoaded (s.advance t)).lawGroups).all (fun g => ((staticOffLoaded (s.advance t)).snap g).isNone) = true := by
    rw [lawGroups_pwmRegs hregs, List.all_eq_true]
    exact fun g hg => Option.isNone_iff_eq_none.2 (hsnap g hg)
  refine ⟨_, softStopComplete_writes t hs hw ha ht, ?_⟩
  rw [softStopCheck, if_pos (by rw [hwait, hall]; rfl)]
  obtain ⟨hcmd, hcode, -⟩ := cmdDone_spec (backToArmed 1 (staticOffLoaded (s.advance t)))
  obtain ⟨hmode, hcause, hprev⟩ := cmdDone_enters (backToArmed_enters 1 (staticOffLoaded (s.advance t)))
  exact ⟨⟨hmode, hcause, hprev.trans (hregs.reg _ not_pwmPage_mode)⟩, backToArmed_stopAt _, hcmd, hcode⟩

end

end Sys2Proof.Machine

namespace Sys2Proof

open Machine

/-- Settles O22, clause by clause from the lemma of each command. -/
theorem holdRules : Obligations.HoldRules := by
  unfold Obligations.HoldRules
  intro s e t
  refine ⟨fun hb hs => ⟨missRunLimit_lawFault t hb hs, missRunLimit_misses t hb hs, missRunLimit_outerMisses t hb hs,
      fun hf => missRunLimit_none t hs hf⟩, missPolicy_enters, fun hb h => ⟨?_, ?_⟩, holdRecover_spec t, holdMissesLimit_spec t,
    holdTimeExpiry_spec t, engineRomReload_spec e t, fun a hs hw ha ht => ⟨fun g hg hsnap => softStopComplete_waits t hs hw ha ht hg hsnap,
      softStopComplete_arms t hs hw ha ht⟩, fun a ha ht => armTimeout_spec t ha ht⟩
  · rw [missPolicy_withoutBaton true hb]
    exact missCounted_missed h
  · rw [missPolicy_withoutBaton false hb]
    exact missCounted_onTime s

end Sys2Proof
end

section
/-!
SUPPORT. A LOAD_ALL while the timebase does not advance (R130, R137, R161, R308).
-/

namespace Sys2Proof.Machine

/-- INC is 0, so that no periphery tick follows the one at 0. At 10 the deadline of engine 0, at 5, has gone by without DEADLINE_PASS, and no
write of its cycle waits. -/
def stoppedTimebase : State := { now := 10, clk := { inc := 0 }, engines := [(0, { inCycle := true, deadline := 5 })] }

/-- The engine is in a cycle that does not count as late, its LOAD_ALL comes in turn, and the tick that it takes lies before its deadline;
LATE_WRITE is clear. -/
theorem stoppedTimebase_spec :
    (stoppedTimebase.engine 0).inCycle = true ∧ stoppedTimebase.inOrder 2 0 (stoppedTimebase.tickCeil stoppedTimebase.now) = true ∧
      (stoppedTimebase.engine 0).timedQ = [] ∧ (stoppedTimebase.engine 0).late = false ∧
      stoppedTimebase.tickCeil stoppedTimebase.now ≤ (stoppedTimebase.engine 0).deadline ∧
      stoppedTimebase.flag (Reg.ENG_STATUS 0) F.ENG_STATUS_LATE_WRITE = false := by
  decide

variable {s : State}

/-- A LOAD_ALL in turn with no write before it is delivered at its tick. -/
theorem exec_loadAll_of_inOrder (e : Fin 16) (mask : BitVec 8) (hc : (s.engine e).inCycle = true) (ho : s.inOrder 2 e (s.tickCeil s.now) = true)
    (hq : (s.engine e).timedQ = []) : exec (.loadAll e mask) s = .next (deliverAt e (s.tickCeil s.now) ⟨0x220, mask.toNat⟩
      ((s.advance (s.tickCeil s.now)).setEngine e { s.engine e with timedQ := [] })) := by
  refine (if_neg (by rw [hc, ho]; decide)).trans ?_
  dsimp only
  rw [hq]
  rfl

/-- A write delivered past the deadline is dropped, even where its tick lies before it (R137). -/
theorem deliver_pastDeadline (e : Nat) (w : PortWrite) (h : (s.engine e).deadline < s.now) : deliver e w s = lateWrite e s :=
  if_pos (by simp [h])

/-- The load is delivered at 10, past the deadline. -/
theorem stoppedTimebase_dropsLoad {u : State} (h : exec (.loadAll 0 0) stoppedTimebase = .next u) :
    u.flag (Reg.ENG_STATUS 0) F.ENG_STATUS_LATE_WRITE = true := by
  obtain ⟨hcycle, horder, hqueue, -⟩ := stoppedTimebase_spec
  cases (exec_loadAll_of_inOrder 0 0 hcycle horder hqueue).symm.trans h
  rw [deliverAt, deliver_pastDeadline (0 : Fin 16).val _ (by decide)]
  exact lateWrite_flag 0 _

/-- A LOAD_ALL of no group takes its place in the order of writes and no more. -/
theorem takePlace_forEach_noGroup (t : Instant) (y : State) (f : Nat → State → State) (k : Nat) :
    ((takePlace 2 0 t y).forEach (bitsOf 8 (0 : BitVec 8).toNat) f).reg k = y.reg k := rfl

end Sys2Proof.Machine

namespace Sys2Proof

open Machine

/-- Refutes O28: a LOAD_ALL whose tick lies within its engine's deadline is to be accepted, but the deadline is compared with the instant of the
delivery. In `stoppedTimebase` that tick lies in the past, and the load is dropped with LATE_WRITE. INC is 0 there, which the servo of R308, near its
nominal value, never gives: the clause lacks the hypothesis that the timebase advances. -/
theorem not_carriersAndLoads : ¬ Obligations.CarriersAndLoads := by
  unfold Obligations.CarriersAndLoads
  intro h
  obtain ⟨hcycle, horder, hqueue, hlate, htick, hclear⟩ := stoppedTimebase_spec
  obtain ⟨-, -, -, -, -, -, -, -, -, -, -, -, ⟨-, hload, -⟩, -⟩ := h stoppedTimebase 0 0 0 0 0
  obtain ⟨u, hexec, hu⟩ := hload hcycle horder hqueue hlate htick
  have hkept := (flag_of_reg F.ENG_STATUS_LATE_WRITE (congrArg (State.reg · (Reg.ENG_STATUS 0)) hu)).trans
    ((flag_of_reg F.ENG_STATUS_LATE_WRITE (takePlace_forEach_noGroup _ _ _ _)).trans hclear)
  exact Bool.false_ne_true (hkept.symm.trans (stoppedTimebase_dropsLoad hexec))

end Sys2Proof
end

section
/-!
SUPPORT. Cadence signalling (R111 to R121): the queue of messages, what a frame shows, and what each message, a collision and a discard leave.
-/

namespace Sys2Proof

open Machine

/-- What keeps all but some registers keeps all but more. -/
theorem RegsKept.mono {ks ls : List Nat} {s u : State} (h : RegsKept ks s u) (hs : ks ⊆ ls) : RegsKept ls s u := fun j hj => h j fun hk => hj (hs hk)

end Sys2Proof

namespace Sys2Proof.Machine

variable (s : State)

/-! ## The flags of BS_STATUS, and counters -/

theorem bs_setBs_self {f : Fld} (b : Bool) (h : 0 < f.w) : (s.setBs f b).bs f = b := flag_setFlag_self s _ _ _ h

theorem bs_setBs_other {f g : Fld} (b : Bool) (h : f.lo + f.w ≤ g.lo ∨ g.lo + g.w ≤ f.lo) : (s.setBs g b).bs f = s.bs f :=
  congrArg (· == 1) (fld_setFld_disjoint s _ _ h)

variable {s} in
theorem bs_of_regsKept {ks : List Nat} {u : State} (h : RegsKept ks s u) (hk : Reg.BS_STATUS ∉ ks) (f : Fld) : u.bs f = s.bs f :=
  flag_of_reg f (h _ hk)

theorem setBs_regsKept (f : Fld) (b : Bool) : RegsKept [Reg.BS_STATUS] s (s.setBs f b) := RegsKept.setReg s _ _

theorem bump_cad (k : Nat) : (s.bump k).cad = s.cad := (State.bump_keeps s k).parts .cad (by decide)

theorem bump_regsKept (k : Nat) : RegsKept [k] s (s.bump k) := fun _ h => reg_bump_other s (List.ne_of_not_mem_cons h)

/-! ## The queue of messages (R118, R120) -/

theorem setCadQueue_regsKept (q : List Nat) : RegsKept [Reg.CAD_CMD] s (setCadQueue q s) :=
  RegsKept.setReg (s.setCad { s.cad with queue := q }) _ _

section

variable {s} {m : Nat}

theorem cadQueue_room (h : s.cad.queue.length < 4) : cadQueue m s = setCadQueue (s.cad.queue ++ [m]) s := if_pos h

theorem cadQueue_full (h : 4 ≤ s.cad.queue.length) : cadQueue m s = s := if_neg (by omega)

end

/-- Queueing a message shows in CAD_CMD alone and changes the queue alone. -/
theorem cadQueue_spec (m : Nat) : RegsKept [Reg.CAD_CMD] s (cadQueue m s) ∧ ∃ q, (cadQueue m s).cad = { s.cad with queue := q } := by
  by_cases h : s.cad.queue.length < 4
  · rw [cadQueue_room h]
    exact ⟨setCadQueue_regsKept s _, _, rfl⟩
  · rw [cadQueue_full (by omega)]
    exact ⟨regsKept_refl s _, _, rfl⟩

/-- The turn master queues a message, and notes whether it owes ENERGISE_NEXT, or does nothing. -/
theorem queueNext_spec : RegsKept [Reg.CAD_CMD] s (queueNext s) ∧ ∃ q o, (queueNext s).cad = { s.cad with queue := q, owed := o } := by
  have hqueued (m : Nat) (o : Bool) : RegsKept [Reg.CAD_CMD] s (cadQueue m (s.setCad { s.cad with owed := o })) ∧
      ∃ q o', (cadQueue m (s.setCad { s.cad with owed := o })).cad = { s.cad with queue := q, owed := o' } := by
    obtain ⟨hregs, q, hcad⟩ := cadQueue_spec (s.setCad { s.cad with owed := o }) m
    exact ⟨hregs, q, o, hcad⟩
  unfold queueNext
  split
  · exact ⟨regsKept_refl s _, _, _, rfl⟩
  · split
    · exact hqueued 3 true
    · exact hqueued 2 false

theorem queueOwed_regsKept : RegsKept [Reg.CAD_CMD] s (queueOwed s) := by
  unfold queueOwed
  split
  · exact (queueNext_spec s).1
  · exact regsKept_refl s _

/-- While no limit is active the leading turn master queues ENERGISE_NEXT (R118). -/
theorem queueNext_queue {s : State} (hl : s.leads = true) (hd : s.ls F.LAW_STATUS_DC_LIMIT = false) (hm : s.ls F.LAW_STATUS_MACH_LIMIT = false)
    (hr : s.cad.queue.length < 4) : (queueNext s).cad.queue = s.cad.queue ++ [2] := by
  have heq : queueNext s = cadQueue 2 (s.setCad { s.cad with owed := false }) := by
    unfold queueNext
    rw [hl, hd, hm]
    rfl
  have hroom : cadQueue 2 (s.setCad { s.cad with owed := false }) = setCadQueue (s.cad.queue ++ [2]) (s.setCad { s.cad with owed := false }) :=
    cadQueue_room hr
  rw [heq, hroom]
  rfl

end Sys2Proof.Machine

namespace Sys2Proof

open Machine

section

variable (s : State) (t : Instant)

theorem holdTExpiry_spec (hh : s.bs F.BS_STATUS_HOLD_HEARD = true) (ht : s.cad.holdUntil ≤ (s.advance t).now) :
    Completes (.holdTExpiry t) s fun y =>
      y.bs F.BS_STATUS_HOLD_HEARD = false ∧ y.bs F.BS_STATUS_RAMP_HELD = false ∧ PartsKept [.now, .regs, .cad] s y := by
  have he : exec (.holdTExpiry t) s =
      .next (queueOwed (((s.advance t).setBs F.BS_STATUS_HOLD_HEARD false).setBs F.BS_STATUS_RAMP_HELD false)) :=
    if_pos (by rw [hh, decide_eq_true ht]; rfl)
  refine Completes.ofKeeps (execHoldTExpiry_keeps t s) he fun hk => ⟨?_, ?_, hk.partsKept_of (by decide)⟩
  · rw [bs_of_regsKept (queueOwed_regsKept _) (by decide), bs_setBs_other _ _ (by decide), bs_setBs_self _ _ (by decide)]
  · rw [bs_of_regsKept (queueOwed_regsKept _) (by decide), bs_setBs_self _ _ (by decide)]

theorem resyncTExpiry_spec (hr : s.bs F.BS_STATUS_RESYNC_ACTIVE = true) (ht : s.cad.resyncUntil ≤ (s.advance t).now) :
    Completes (.resyncTExpiry t) s fun y =>
      y.bs F.BS_STATUS_RESYNC_ACTIVE = false ∧ RegsKept [Reg.BS_STATUS] s y ∧ PartsKept [.now, .regs] s y := by
  have he : exec (.resyncTExpiry t) s = .next ((s.advance t).setBs F.BS_STATUS_RESYNC_ACTIVE false) :=
    if_pos (by rw [hr, decide_eq_true ht]; rfl)
  exact Completes.ofKeeps (execResyncTExpiry_keeps t s) he fun hk =>
    ⟨bs_setBs_self _ _ (by decide), setBs_regsKept (s.advance t) _ _, hk.partsKept_of (by decide)⟩

theorem joinTExpiry_spec {d : Instant} (hd : s.cad.joinBy = some d) (ht : d ≤ (s.advance t).now) :
    Completes (.joinTExpiry t) s fun y => y.cad.joinBy = none ∧ PartsKept [.now, .regs, .cad] s y ∧
      (s.leads = true → s.ls F.LAW_STATUS_DC_LIMIT = false → s.ls F.LAW_STATUS_MACH_LIMIT = false → s.cad.queue.length < 4 →
        y.cad.queue = s.cad.queue ++ [2]) := by
  have he : exec (.joinTExpiry t) s = .next (queueNext ((s.advance t).setCad { s.cad with joinBy := none })) :=
    if_pos (by rw [hd, Option.any_some, decide_eq_true ht])
  refine Completes.ofKeeps (execJoinTExpiry_keeps t s) he fun hk => ⟨?_, hk.partsKept_of (by decide), fun hl hd hm hr => queueNext_queue hl hd hm hr⟩
  obtain ⟨-, q, o, hcad⟩ := queueNext_spec ((s.advance t).setCad { s.cad with joinBy := none })
  rw [hcad]
  rfl

variable {s} in
/-- A cadence command (R120). -/
theorem cadCmd_spec {c : Instr} {m : Nat} (he : exec c s = .next (actCadCmd m s).1) :
    (s.cad.queue.length < 4 → Completes c s fun y => y.cad = { s.cad with queue := s.cad.queue ++ [m] } ∧
      y.reg Reg.CAD_CMD = s.cad.queue.length + 1 ∧ y.bs F.BS_STATUS_CAD_FAIL = false ∧
      RegsKept [Reg.CAD_CMD, Reg.BS_STATUS] s y ∧ PartsKept [.regs, .cad] s y) ∧
    (4 ≤ s.cad.queue.length → Completes c s (· = s)) := by
  refine ⟨fun h => ?_, fun h => ?_⟩
  · have hact : (actCadCmd m s).1 = setCadQueue (s.cad.queue ++ [m]) (s.setBs F.BS_STATUS_CAD_FAIL false) := by
      unfold actCadCmd
      rw [if_pos h]
      exact cadQueue_room h
    have hk := (actCadCmd_keeps m s).partsKept_of (ps := [.regs, .cad]) (by decide)
    have hregs := setCadQueue_regsKept (s.setBs F.BS_STATUS_CAD_FAIL false) (s.cad.queue ++ [m])
    rw [hact] at he hk
    refine ⟨_, he, rfl, ?_, ?_, ?_, hk⟩
    · exact (reg_setReg_self _ _ _).trans List.length_append
    · rw [bs_of_regsKept hregs (by decide), bs_setBs_self _ _ (by decide)]
    · exact ((setBs_regsKept s _ _).mono (by simp)).trans (hregs.mono (by simp))
  · have hact : (actCadCmd m s).1 = s := by
      unfold actCadCmd
      rw [if_neg (by omega)]
    exact ⟨s, he.trans (congrArg _ hact), rfl⟩

/-- CAD_EN = 0 is taken in every mode (R121). -/
theorem cadEnClear_spec : Completes .cadEnClear s fun y => y.reg Reg.CAD_EN = 0 ∧ y.bs F.BS_STATUS_CAD_FAIL = false ∧
    y.cad = { s.cad with offDue := s.cad.offDue || s.reg Reg.CAD_EN == 1 } ∧ PartsKept [.regs, .cad, .mram] s y := by
  have hact : actCadEn 0 s = (((s.setReg Reg.CAD_EN 0).setBs F.BS_STATUS_CAD_FAIL false).setCad
      { s.cad with offDue := s.cad.offDue || s.reg Reg.CAD_EN == 1 }, stOK) := by
    unfold actCadEn
    rw [if_neg (by simp)]
    rfl
  have hcad (r : State × Nat) : (stored Reg.CAD_EN 0 r).cad = r.1.cad :=
    (stored_keeps (f := 262152) _ _ rfl (Keeps.refl _ r.1)).parts .cad (by decide)
  refine Completes.ofKeeps (execCadEnClear_keeps s) rfl fun hk => ⟨?_, ?_, ?_, hk.partsKept_of (by decide)⟩
  · rw [stored_reg (by decide), hact, setCad_reg]
    exact (reg_setFlag_other _ _ _ (by decide)).trans (reg_setReg_self _ _ _)
  · refine (flag_of_reg _ (stored_reg (by decide) _ _ _)).trans ?_
    rw [hact]
    exact bs_setBs_self (s.setReg Reg.CAD_EN 0) false (by decide)
  · rw [hcad, hact]
    rfl

end

/-- Settles O27, clause by clause from the lemma of each timer and command; the five cadence commands are one. -/
theorem cadenceCommands : Obligations.CadenceCommands := by
  unfold Obligations.CadenceCommands
  intro s t n
  refine ⟨holdTExpiry_spec s t, resyncTExpiry_spec s t, fun d => joinTExpiry_spec s t, fun p hp => ?_, cadEnClear_spec s⟩
  simp only [List.mem_cons, List.not_mem_nil, or_false] at hp
  rcases hp with rfl | rfl | rfl | rfl | rfl <;> exact cadCmd_spec rfl

end Sys2Proof
end

section
/-!
SUPPORT. Frames of cadence signalling (R112 to R117): detection, decoding, and what a frame that has ended leaves.
-/

namespace Sys2Proof.Machine

/-! ## Detection and decoding (R112, R113) -/

/-- A frame start is seen 100 ms after a sample that lies above the threshold. -/
theorem frameFirst_spec {T b : Rat} {now d : Instant} {later before : List (Instant × Rat)} {x : Instant × Rat}
    (h : frameFirst T now later x before = some (d, b)) : d = x.1 + Sys2Proof.ms 100 ∧ d ≤ now ∧ T < x.2 - b := by
  unfold frameFirst at h
  dsimp only at h
  split at h
  · cases h
  · split at h
    · next hc =>
      cases h
      simp only [Bool.and_eq_true, List.all_cons, decide_eq_true_eq] at hc
      obtain ⟨⟨⟨-, habove, -⟩, -⟩, hnow⟩ := hc
      exact ⟨rfl, hnow, habove⟩
    · cases h

theorem frameSearch_spec {T b : Rat} {now d : Instant} {later l : List (Instant × Rat)} (h : frameSearch T now later l = some (d, b)) :
    ∃ x ∈ l, d = x.1 + Sys2Proof.ms 100 ∧ d ≤ now ∧ T < x.2 - b := by
  induction l generalizing later with
  | nil => cases h
  | cons x l ih =>
    unfold frameSearch at h
    split at h
    · next r hr =>
      cases h
      exact ⟨x, List.mem_cons_self, frameFirst_spec hr⟩
    · obtain ⟨y, hy, hspec⟩ := ih h
      exact ⟨y, List.mem_cons_of_mem _ hy, hspec⟩

/-- Four bits, most significant first, are a number below 16. -/
theorem fourBits_lt (p : Nat → Bool) : ((List.range 4).map fun i => 2 ^ (3 - i) * b2n (p i)).foldl (· + ·) 0 < 16 := by
  have hb (i : Nat) : b2n (p i) < 2 := b2n_lt (w := 1) (by decide) (p i)
  have h0 := hb 0
  have h1 := hb 1
  have h2 := hb 2
  have h3 := hb 3
  show 0 + 2 ^ 3 * b2n (p 0) + 2 ^ 2 * b2n (p 1) + 2 ^ 1 * b2n (p 2) + 2 ^ 0 * b2n (p 3) < 16
  omega

/-- A symbol of a list that equals a frame's symbols, none an erasure. -/
theorem symbol_of_eq {f : Nat → Option Bool} {l : List Bool} {n k : Nat} (h : (List.range n).map f = l.map some) (hk : k < n) :
    f k = some (listGet false l k) := by
  have hget := congrArg (·[k]?) h
  simp only [List.getElem?_map, List.getElem?_range hk, Option.map_some] at hget
  unfold listGet
  cases hl : l[k]? with
  | none => rw [hl] at hget; cases hget
  | some v => rw [hl] at hget; exact Option.some.inj hget

theorem frameDecode_spec {s : State} {tx : Instant} {a m : Nat} (h : s.frameDecode tx = some (a, m)) :
    a < 16 ∧ m < 16 ∧ ∀ k, k < 12 → s.frameSymbol tx k = some (listGet false (cadSymbols a m) k) := by
  unfold State.frameDecode at h
  dsimp only at h
  split at h
  · next heq =>
    cases h
    exact ⟨fourBits_lt _, fourBits_lt _, fun k hk => symbol_of_eq (beq_iff_eq.1 heq) hk⟩
  · cases h

/-! ## The record of a valid frame (R113) -/

/-- The frame in progress has ended at `e` and is recorded as valid: message `m` of unit `u`. -/
def frameNoted (m u : Nat) (e : Instant) (s : State) : State :=
  (((frameEnded e s).bump Reg.RX_VALID).setReg Reg.LAST_RX (u * 256 + m)).setReg Reg.LAST_RX_TIME (s.time64At e)

/-- The registers that record a valid frame. -/
def frameRegs : List Nat := [Reg.RX_VALID, Reg.LAST_RX, Reg.LAST_RX_TIME]

/-- What the last valid frame has left: LAST_RX, LAST_RX_TIME, the slot reference and the frame in progress. -/
def lastFrame (s : State) : Nat × Nat × Instant × Option Instant :=
  (s.reg Reg.LAST_RX, s.reg Reg.LAST_RX_TIME, s.cad.slotRef, s.cad.frameAt)

section

variable (m u : Nat) (e : Instant) (s : State)

theorem frameNoted_regsKept : RegsKept frameRegs s (frameNoted m u e s) :=
  (((bump_regsKept (frameEnded e s) Reg.RX_VALID).mono (by simp [frameRegs])).step (by simp [frameRegs])).step (by simp [frameRegs])

theorem frameNoted_cad : (frameNoted m u e s).cad = { s.cad with slotRef := e, frameAt := none, lastStart := s.cad.frameAt } :=
  bump_cad (frameEnded e s) _

theorem frameNoted_law : (frameNoted m u e s).law = s.law := bump_law (frameEnded e s) _

theorem frameNoted_now : (frameNoted m u e s).now = s.now := bump_now (frameEnded e s) _

theorem frameNoted_lreg {k : Nat} (h : k ∉ frameRegs) : (frameNoted m u e s).lreg k = s.lreg k :=
  lreg_of (by rw [frameNoted_law]) (frameNoted_regsKept m u e s k h)

theorem frameNoted_unitId : (frameNoted m u e s).unitId = s.unitId := frameNoted_lreg m u e s (by decide)

theorem lastFrame_frameNoted : lastFrame (frameNoted m u e s) = (u * 256 + m, s.time64At e, e, none) := by
  have hrx : (frameNoted m u e s).reg Reg.LAST_RX = u * 256 + m :=
    (reg_setReg_other _ _ (by decide)).trans (reg_setReg_self _ _ _)
  have htime : (frameNoted m u e s).reg Reg.LAST_RX_TIME = s.time64At e := reg_setReg_self _ _ _
  unfold lastFrame
  rw [hrx, htime, frameNoted_cad]

end

theorem lastFrame_of {ks : List Nat} {s u : State} (hr : RegsKept ks s u) (hk : Reg.LAST_RX ∉ ks ∧ Reg.LAST_RX_TIME ∉ ks)
    (hs : u.cad.slotRef = s.cad.slotRef) (hf : u.cad.frameAt = s.cad.frameAt) : lastFrame u = lastFrame s := by
  unfold lastFrame
  rw [hr _ hk.1, hr _ hk.2, hs, hf]

/-! ## What each message does (R117, Table 4-6) -/

section

variable (u : Nat) (s : State)

theorem refreshNForm_regsKept : RegsKept [Reg.N_FORM] s (refreshNForm s) := RegsKept.setReg s _ _

/-- A unit has joined (JOINED) and counts as heard. -/
theorem joined_spec : (joined u s).regBit Reg.JOINED u = true ∧ RegsKept [Reg.JOINED, Reg.N_FORM] s (joined u s) ∧
    (joined u s).cad = { s.cad with heard := setBit s.cad.heard u true } := by
  have hn : RegsKept [Reg.N_FORM] (s.setRegBit Reg.JOINED u true) (joined u s) := refreshNForm_regsKept _
  refine ⟨?_, ?_, rfl⟩
  · exact (regBit_of_reg u (hn _ (by decide))).trans ((regBit_setRegBit s _ _ _ _).trans (if_pos rfl))
  · exact ((RegsKept.setReg s Reg.JOINED _).mono (by simp)).trans (hn.mono (by simp))

theorem setOwn_reg (k v j : Nat) : (s.setOwn k v).reg j = (s.setReg k v).reg j := rfl

theorem setOwn_regsKept (k v : Nat) : RegsKept [k] s (s.setOwn k v) := RegsKept.setReg s k v

/-- READY has been heard since the receiver started. -/
def readyNoted (s : State) : State := s.setCad { s.cad with readyHeard := true }

/-- The turn goes to `u`, in an island; `x` says whether that is this unit. -/
def turnTaken (u : Nat) (x : Bool) (s : State) : State := ((s.setBs F.BS_STATUS_MASTER x).setReg Reg.TURN_PTR u).setOwn Reg.ISLANDED 1

theorem hearReady_eq : hearReady u s = turnTaken u (u == s.unitId) (joined u (readyNoted s)) := rfl

theorem turnTaken_spec (x : Bool) : (turnTaken u x s).reg Reg.TURN_PTR = u ∧ (turnTaken u x s).reg Reg.ISLANDED = 1 ∧
    (turnTaken u x s).reg Reg.BS_STATUS = (s.setBs F.BS_STATUS_MASTER x).reg Reg.BS_STATUS := by
  unfold turnTaken
  refine ⟨?_, ?_, ?_⟩
  · rw [setOwn_reg, reg_setReg_other _ _ (by decide), reg_setReg_self]
  · rw [setOwn_reg, reg_setReg_self]
  · rw [setOwn_reg, reg_setReg_other _ _ (by decide), reg_setReg_other _ _ (by decide)]

theorem turnTaken_regsKept (x : Bool) : RegsKept [Reg.BS_STATUS, Reg.TURN_PTR, Reg.ISLANDED] s (turnTaken u x s) :=
  (((setBs_regsKept s F.BS_STATUS_MASTER x).mono (by simp)).step (by simp)).trans ((setOwn_regsKept _ _ _).mono (by simp))

/-- READY joins its unit, gives it the turn pointer and sets ISLANDED; it makes its own sender the turn master. -/
theorem hearReady_spec : (hearReady u s).regBit Reg.JOINED u = true ∧ (hearReady u s).reg Reg.TURN_PTR = u ∧
    (hearReady u s).reg Reg.ISLANDED = 1 ∧ (hearReady u s).bs F.BS_STATUS_MASTER = (u == s.unitId) := by
  obtain ⟨hjoined, -, -⟩ := joined_spec u (readyNoted s)
  obtain ⟨hturn, hisland, hstatus⟩ := turnTaken_spec u (joined u (readyNoted s)) (u == s.unitId)
  have hregs := turnTaken_regsKept u (joined u (readyNoted s)) (u == s.unitId)
  rw [hearReady_eq]
  exact ⟨(regBit_of_reg u (hregs _ (by decide))).trans hjoined, hturn, hisland, (flag_of_reg _ hstatus).trans (bs_setBs_self _ _ (by decide))⟩

/-- READY leaves the other flags, and all of the cadence state but who was heard. -/
theorem hearReady_frame : lastFrame (hearReady u s) = lastFrame s ∧ (hearReady u s).reg Reg.CAD_CMD = s.reg Reg.CAD_CMD ∧
    (hearReady u s).bs F.BS_STATUS_CAD_FAIL = s.bs F.BS_STATUS_CAD_FAIL ∧
    (hearReady u s).cad = { s.cad with readyHeard := true, heard := setBit s.cad.heard u true } := by
  obtain ⟨-, hregs, hcad⟩ := joined_spec u (readyNoted s)
  obtain ⟨-, -, hstatus⟩ := turnTaken_spec u (joined u (readyNoted s)) (u == s.unitId)
  have hturn := turnTaken_regsKept u (joined u (readyNoted s)) (u == s.unitId)
  have hcad' : (hearReady u s).cad = { s.cad with readyHeard := true, heard := setBit s.cad.heard u true } := hcad
  have hall : RegsKept [Reg.JOINED, Reg.N_FORM, Reg.BS_STATUS, Reg.TURN_PTR, Reg.ISLANDED] s (hearReady u s) :=
    RegsKept.trans (hregs.mono (by simp)) (hturn.mono (by simp))
  refine ⟨lastFrame_of hall (by decide) (by rw [hcad']) (by rw [hcad']), hall _ (by decide), ?_, hcad'⟩
  exact (flag_of_reg _ hstatus).trans ((bs_setBs_other _ _ (by decide)).trans (flag_of_reg _ (hregs _ (by decide))))

/-- The unit that ENERGISE_NEXT gives the turn: the lowest peer above TURN_PTR that has not joined. -/
def nextUnit (s : State) : Option Nat :=
  (List.range 16).find? fun v => decide (s.reg Reg.TURN_PTR < v) && bit (s.lreg Reg.PEER_MASK) v && !s.regBit Reg.JOINED v

variable {u s}

theorem nextUnit_of {s t : State} (hr : RegsKept frameRegs s t) (hl : t.law = s.law) : nextUnit t = nextUnit s := by
  unfold nextUnit
  rw [hr Reg.TURN_PTR (by decide), lreg_of (by rw [hl]) (hr Reg.PEER_MASK (by decide))]
  simp only [regBit_of_reg _ (hr Reg.JOINED (by decide))]

/-- The sequence ends: no unit is left to take the turn. -/
def sequenceEnded (s : State) : State :=
  ((s.setReg Reg.TURN_PTR 0xFF).setBs F.BS_STATUS_ALL_JOINED true).setBs F.BS_STATUS_HAS_TURN false

/-- ENERGISE_NEXT of another unit. -/
theorem hearNext_other (hu : u ≠ s.unitId) : hearNext u s = match nextUnit s with
    | some v => (s.setReg Reg.TURN_PTR v).setBs F.BS_STATUS_HAS_TURN (v == s.unitId)
    | none => (sequenceEnded s).setCad { s.cad with joinBy := none, owed := false } := by
  unfold hearNext nextUnit
  dsimp only
  rw [if_neg hu]
  rfl

theorem hearNext_some (hu : u ≠ s.unitId) {v : Nat} (hv : nextUnit s = some v) : lastFrame (hearNext u s) = lastFrame s ∧
    (hearNext u s).reg Reg.TURN_PTR = v ∧ (hearNext u s).bs F.BS_STATUS_HAS_TURN = (v == s.unitId) := by
  have hregs : RegsKept [Reg.TURN_PTR, Reg.BS_STATUS] s ((s.setReg Reg.TURN_PTR v).setBs F.BS_STATUS_HAS_TURN (v == s.unitId)) :=
    regsKept_setFlag ((regsKept_refl s _).step (by simp)) _ _ (by simp)
  rw [hearNext_other hu, hv]
  exact ⟨lastFrame_of hregs (by decide) rfl rfl, (reg_setFlag_other _ _ _ (by decide)).trans (reg_setReg_self _ _ _),
    bs_setBs_self _ _ (by decide)⟩

theorem sequenceEnded_spec (s : State) : (sequenceEnded s).reg Reg.TURN_PTR = 0xFF ∧ (sequenceEnded s).bs F.BS_STATUS_ALL_JOINED = true ∧
    (sequenceEnded s).bs F.BS_STATUS_HAS_TURN = false ∧ RegsKept [Reg.TURN_PTR, Reg.BS_STATUS] s (sequenceEnded s) := by
  unfold sequenceEnded
  refine ⟨?_, ?_, bs_setBs_self _ _ (by decide), ?_⟩
  · exact (reg_setFlag_other _ _ _ (by decide)).trans ((reg_setFlag_other _ _ _ (by decide)).trans (reg_setReg_self _ _ _))
  · exact (bs_setBs_other _ _ (by decide)).trans (bs_setBs_self _ _ (by decide))
  · exact regsKept_setFlag (regsKept_setFlag ((regsKept_refl s _).step (by simp)) _ _ (by simp)) _ _ (by simp)

theorem hearNext_none (hu : u ≠ s.unitId) (hv : nextUnit s = none) : lastFrame (hearNext u s) = lastFrame s ∧
    (hearNext u s).reg Reg.TURN_PTR = 0xFF ∧ (hearNext u s).bs F.BS_STATUS_ALL_JOINED = true ∧
    (hearNext u s).bs F.BS_STATUS_HAS_TURN = false := by
  obtain ⟨hturn, hall, hhas, hregs⟩ := sequenceEnded_spec s
  rw [hearNext_other hu, hv]
  exact ⟨lastFrame_of (u := (sequenceEnded s).setCad _) hregs (by decide) rfl rfl, hturn, hall, hhas⟩

variable (u s)

/-- IN_SYNC may clear, and the instant of it is noted; nothing else changes (R104). -/
theorem syncDrop_spec : RegsKept [Reg.BS_STATUS] s (syncDrop s) ∧ (∃ c, (syncDrop s).cad = { s.cad with clearedAt := c }) ∧
    ∀ f : Fld, f.lo + f.w ≤ F.BS_STATUS_IN_SYNC.lo ∨ F.BS_STATUS_IN_SYNC.lo + F.BS_STATUS_IN_SYNC.w ≤ f.lo → (syncDrop s).bs f = s.bs f := by
  unfold syncDrop
  split
  · exact ⟨setBs_regsKept s _ _, ⟨_, rfl⟩, fun f hf => bs_setBs_other s false hf⟩
  · exact ⟨regsKept_refl s _, ⟨_, rfl⟩, fun f _ => rfl⟩

/-- HOLD is noted: HOLD_HEARD with its end, and a ramp is held. -/
def holdNoted (s : State) : State :=
  let s := (s.setBs F.BS_STATUS_HOLD_HEARD true).setCad { s.cad with holdUntil := s.now + Sys2Proof.sec (s.lreg Reg.HOLD_T), inWinSince := none }
  if (s.mode == mSTART || s.mode == mSYNC) && s.reg Reg.BS_STAGE == 3 then s.setBs F.BS_STATUS_RAMP_HELD true else s

theorem hearHold_eq : hearHold s = syncDrop (holdNoted s) := rfl

theorem holdNoted_spec : RegsKept [Reg.BS_STATUS] s (holdNoted s) ∧ (holdNoted s).bs F.BS_STATUS_HOLD_HEARD = true ∧
    (holdNoted s).cad = { s.cad with holdUntil := s.now + Sys2Proof.sec (s.lreg Reg.HOLD_T), inWinSince := none } := by
  have hflag : (s.setBs F.BS_STATUS_HOLD_HEARD true).bs F.BS_STATUS_HOLD_HEARD = true := bs_setBs_self s _ (by decide)
  unfold holdNoted
  dsimp only
  split
  · exact ⟨regsKept_setFlag (setBs_regsKept s _ _) _ _ (by simp), (bs_setBs_other _ _ (by decide)).trans hflag, rfl⟩
  · exact ⟨setBs_regsKept s _ _, hflag, rfl⟩

/-- HOLD shows in HOLD_HEARD for HOLD_T. -/
theorem hearHold_spec : lastFrame (hearHold s) = lastFrame s ∧ (hearHold s).bs F.BS_STATUS_HOLD_HEARD = true ∧
    (hearHold s).cad.holdUntil = s.now + Sys2Proof.sec (s.lreg Reg.HOLD_T) := by
  obtain ⟨hregs, hheard, hcad⟩ := holdNoted_spec s
  obtain ⟨hregs', ⟨c, hcad'⟩, hflags⟩ := syncDrop_spec (holdNoted s)
  rw [hcad] at hcad'
  rw [hearHold_eq]
  exact ⟨lastFrame_of (hregs.trans hregs') (by decide) (by rw [hcad']) (by rw [hcad']), (hflags _ (by decide)).trans hheard, by rw [hcad']⟩

/-- RESYNC shows in RESYNC_ACTIVE, for its unit, for RESYNC_T. -/
theorem hearResync_spec : lastFrame (hearResync u s) = lastFrame s ∧ (hearResync u s).bs F.BS_STATUS_RESYNC_ACTIVE = true ∧
    (hearResync u s).cad.resyncBy = u ∧ (hearResync u s).cad.resyncUntil = s.now + Sys2Proof.sec (s.lreg Reg.RESYNC_T) :=
  ⟨lastFrame_of (setBs_regsKept s F.BS_STATUS_RESYNC_ACTIVE true) (by decide) rfl rfl, bs_setBs_self s _ (by decide), rfl, rfl⟩

/-- DONE of a unit ends its own RESYNC. -/
def resyncEnded (u : Nat) (s : State) : State :=
  if s.bs F.BS_STATUS_RESYNC_ACTIVE && s.cad.resyncBy == u then (s.setBs F.BS_STATUS_RESYNC_ACTIVE false).setOwn Reg.ISLANDED 0 else s

theorem resyncEnded_spec : RegsKept [Reg.BS_STATUS, Reg.ISLANDED] s (resyncEnded u s) ∧ (resyncEnded u s).cad = s.cad := by
  unfold resyncEnded
  split
  · exact ⟨((setBs_regsKept s _ _).mono (by simp)).trans ((setOwn_regsKept _ _ _).mono (by simp)), rfl⟩
  · exact ⟨regsKept_refl s _, rfl⟩

theorem hearDone_eq : hearDone u s = if (s.reg Reg.TURN_PTR == u) = true then
    queueNext ((resyncEnded u (joined u s)).setCad { (resyncEnded u (joined u s)).cad with joinBy := none }) else resyncEnded u (joined u s) := rfl

/-- DONE joins its unit. -/
theorem hearDone_spec : lastFrame (hearDone u s) = lastFrame s ∧ (hearDone u s).regBit Reg.JOINED u = true := by
  obtain ⟨hjoined, hregs, hcad⟩ := joined_spec u s
  obtain ⟨hregs', hcad'⟩ := resyncEnded_spec u (joined u s)
  have hlast : lastFrame (resyncEnded u (joined u s)) = lastFrame s :=
    (lastFrame_of hregs' (by decide) (by rw [hcad']) (by rw [hcad'])).trans (lastFrame_of hregs (by decide) (by rw [hcad]) (by rw [hcad]))
  have hbit : (resyncEnded u (joined u s)).regBit Reg.JOINED u = true := (regBit_of_reg u (hregs' _ (by decide))).trans hjoined
  rw [hearDone_eq]
  split
  · obtain ⟨hq, q, o, hqcad⟩ := queueNext_spec ((resyncEnded u (joined u s)).setCad { (resyncEnded u (joined u s)).cad with joinBy := none })
    exact ⟨(lastFrame_of hq (by decide) (by rw [hqcad]) (by rw [hqcad])).trans hlast, (regBit_of_reg u (hq _ (by decide))).trans hbit⟩
  · exact ⟨hlast, hbit⟩

end

/-! ## Collisions and discards (R113, R116) -/

section

variable (s : State)

/-- A collision is counted and ends the judgement of the own frame. -/
def collided (s : State) : State := (s.setCad { s.cad with own := false, collisions := s.cad.collisions + 1 }).bump Reg.TX_COLLIDE

/-- The oldest message is given up. -/
def messageDropped (s : State) : State :=
  (setCadQueue (s.cad.queue.drop 1) (s.setCad { s.cad with collisions := 0 })).setBs F.BS_STATUS_CAD_FAIL true

theorem cadCollision_eq : cadCollision s =
    if (collided s).lreg Reg.CAD_RETRY ≤ s.cad.collisions + 1 then messageDropped (collided s) else collided s := rfl

theorem collided_regsKept : RegsKept [Reg.TX_COLLIDE] s (collided s) := bump_regsKept (s.setCad _) _

theorem collided_cad : (collided s).cad = { s.cad with own := false, collisions := s.cad.collisions + 1 } := bump_cad _ _

theorem collided_lreg {k : Nat} (h : k ≠ Reg.TX_COLLIDE) : (collided s).lreg k = s.lreg k :=
  lreg_of (congrArg Law.seen (bump_law (s.setCad _) _)) (collided_regsKept s k (by simpa using h))

theorem messageDropped_regsKept : RegsKept [Reg.CAD_CMD, Reg.BS_STATUS] s (messageDropped s) :=
  regsKept_setFlag ((setCadQueue_regsKept (s.setCad _) _).mono (by simp)) _ _ (by simp)

/-- A collision ends the judgement of the own frame. -/
theorem cadCollision_spec : RegsKept [Reg.TX_COLLIDE, Reg.CAD_CMD, Reg.BS_STATUS] s (cadCollision s) ∧
    ∃ q n, (cadCollision s).cad = { s.cad with own := false, queue := q, collisions := n } := by
  have hregs := (collided_regsKept s).mono (ls := [Reg.TX_COLLIDE, Reg.CAD_CMD, Reg.BS_STATUS]) (by simp)
  rw [cadCollision_eq]
  split
  · have hcad : (messageDropped (collided s)).cad = { (collided s).cad with queue := (collided s).cad.queue.drop 1, collisions := 0 } := rfl
    exact ⟨hregs.trans ((messageDropped_regsKept (collided s)).mono (by simp)), _, _, by rw [hcad, collided_cad]⟩
  · exact ⟨hregs, _, _, collided_cad s⟩

variable {s} in
/-- After CAD_RETRY collisions the oldest message is dropped, with CAD_FAIL. -/
theorem cadCollision_drops (h : s.lreg Reg.CAD_RETRY ≤ s.cad.collisions + 1) :
    (cadCollision s).cad.queue = s.cad.queue.drop 1 ∧ (cadCollision s).bs F.BS_STATUS_CAD_FAIL = true := by
  have hqueue : (messageDropped (collided s)).cad.queue = (collided s).cad.queue.drop 1 := rfl
  rw [cadCollision_eq, if_pos (by rwa [collided_lreg s (by decide)])]
  exact ⟨by rw [hqueue, collided_cad], bs_setBs_self _ _ (by decide)⟩

theorem lastFrame_cadCollision : lastFrame (cadCollision s) = lastFrame s := by
  obtain ⟨hregs, q, n, hcad⟩ := cadCollision_spec s
  exact lastFrame_of hregs (by decide) (by rw [hcad]) (by rw [hcad])

theorem cadCollision_law : (cadCollision s).law = s.law := (cadCollision_keeps s).parts .law (by decide)

variable (e : Instant)

/-- The frame in progress has ended at `e` and is counted as discarded. -/
def discarded (e : Instant) (s : State) : State := (frameEnded e s).bump Reg.RX_DISCARD

theorem frameDrop_eq : frameDrop e s = if (discarded e s).cad.own = true then cadCollision (discarded e s) else discarded e s := rfl

theorem discarded_cad : (discarded e s).cad = { s.cad with slotRef := e, frameAt := none, lastStart := s.cad.frameAt } := bump_cad (frameEnded e s) _

/-- A discarded frame is counted and is the slot reference; while an own frame is judged, it is a collision as well. -/
theorem frameDrop_spec (hc : s.reg Reg.RX_DISCARD + 1 < 4294967296) : (frameDrop e s).reg Reg.RX_DISCARD = s.reg Reg.RX_DISCARD + 1 ∧
    (frameDrop e s).cad.slotRef = e ∧ (frameDrop e s).cad.frameAt = none ∧ (frameDrop e s).cad.own = false ∧
    (s.cad.own = false → RegsKept [Reg.RX_DISCARD] s (frameDrop e s)) := by
  have hcount : (discarded e s).reg Reg.RX_DISCARD = s.reg Reg.RX_DISCARD + 1 := reg_bump_self (frameEnded e s) hc
  have hown : (discarded e s).cad.own = s.cad.own := by rw [discarded_cad]
  rw [frameDrop_eq, hown]
  cases ho : s.cad.own with
  | true =>
    obtain ⟨hregs, q, n, hcad⟩ := cadCollision_spec (discarded e s)
    rw [discarded_cad] at hcad
    rw [if_pos rfl]
    exact ⟨(hregs _ (by decide)).trans hcount, by rw [hcad], by rw [hcad], by rw [hcad], fun h => absurd h (by decide)⟩
  | false =>
    rw [if_neg (by decide), discarded_cad]
    exact ⟨hcount, rfl, rfl, ho, fun _ => bump_regsKept (frameEnded e s) _⟩

end

/-! ## A frame that has ended (R113, R116, R117) -/

section

variable {s : State} {m u : Nat} {e : Instant} (f : State → State)

/-- The own frame has been read back: its message leaves the queue, in which `q` stays. -/
def messageSent (q : List Nat) (s : State) : State := setCadQueue q (s.setCad { s.cad with own := false, collisions := 0 })

theorem messageSent_regsKept (q : List Nat) (s : State) : RegsKept [Reg.CAD_CMD] s (messageSent q s) := setCadQueue_regsKept (s.setCad _) q

theorem messageSent_cad (q : List Nat) (s : State) : (messageSent q s).cad = { s.cad with own := false, collisions := 0, queue := q } := rfl

theorem messageSent_unitId (q : List Nat) (s : State) : (messageSent q s).unitId = s.unitId := rfl

theorem lastFrame_messageSent (q : List Nat) (s : State) : lastFrame (messageSent q s) = lastFrame s :=
  lastFrame_of (messageSent_regsKept q s) (by decide) (by rw [messageSent_cad]) (by rw [messageSent_cad])

/-- What a recorded frame does: a collision while an own frame is judged and this is another one, else the effect of its message; the own one
leaves the queue first. -/
def frameActs (m u : Nat) (f : State → State) (s : State) : State :=
  let mine := s.cad.own && u == s.unitId && s.cad.queue.head? == some m
  if s.cad.own && !mine then
    let s := cadCollision s
    if u = s.unitId then s else f s
  else if mine then f (messageSent (s.cad.queue.drop 1) s)
  else f (if u = s.unitId then s.setBs F.BS_STATUS_DUP_UNIT true else s)

theorem frameTake_eq (m u : Nat) (e : Instant) (s : State) : frameTake m u e f s = frameActs m u f (frameNoted m u e s) := rfl

theorem frameActs_peer (ho : s.cad.own = false) (hu : u ≠ s.unitId) : frameActs m u f s = f s := by
  simp [frameActs, ho, hu]

theorem frameActs_own {q : List Nat} (ho : s.cad.own = true) (hu : u = s.unitId) (hq : s.cad.queue = m :: q) :
    frameActs m u f s = f (messageSent q s) := by
  simp [frameActs, ho, hu, hq]

theorem cadCollision_unitId (s : State) : (cadCollision s).unitId = s.unitId :=
  lreg_of (by rw [cadCollision_law]) ((cadCollision_spec s).1 _ (by decide))

theorem frameActs_collision (ho : s.cad.own = true) (hu : u ≠ s.unitId) : frameActs m u f s = f (cadCollision s) := by
  simp [frameActs, ho, hu, cadCollision_unitId]

theorem frameBad_of_reserved (h : m = 0 ∨ 6 ≤ m ∨ bit (s.lreg Reg.PEER_MASK) u = false) : s.frameBad u m = true := by
  simpa [State.frameBad, or_assoc] using h

theorem frameBad_of_peer (hm : 1 ≤ m ∧ m ≤ 5) (hp : bit (s.lreg Reg.PEER_MASK) u = true) : s.frameBad u m = false := by
  have hcode : m ≠ 0 ∧ ¬6 ≤ m := by omega
  simp [State.frameBad, hp, hcode]

variable (t : Instant)

theorem cadFrame_valid (hr : (s.advance t).frameRead = some (e, some (u, m))) (hm : 1 ≤ m ∧ m ≤ 5) (hp : bit (s.lreg Reg.PEER_MASK) u = true) :
    cadFrame m u t f s = frameTake m u e f (s.advance t) := by
  have hb : (s.advance t).frameBad u m = false := frameBad_of_peer hm hp
  simp [cadFrame, hr, hb]

theorem cadFrame_bad (hr : (s.advance t).frameRead = some (e, some (u, m))) (hp : bit (s.lreg Reg.PEER_MASK) u = false) :
    cadFrame m u t f s = frameDrop e (s.advance t) := by
  have hb : (s.advance t).frameBad u m = true := frameBad_of_reserved (.inr (.inr hp))
  simp [cadFrame, hr, hb]

theorem cadFrame_none (hr : (s.advance t).frameRead = none) : cadFrame m u t f s = s := by
  simp [cadFrame, hr]

theorem cadDiscard_failed (hr : (s.advance t).frameRead = some (e, none)) : cadDiscard t s = frameDrop e (s.advance t) := by
  simp [cadDiscard, hr]

theorem cadDiscard_bad (hr : (s.advance t).frameRead = some (e, some (u, m)))
    (h : m = 0 ∨ 6 ≤ m ∨ bit (s.lreg Reg.PEER_MASK) u = false) : cadDiscard t s = frameDrop e (s.advance t) := by
  have hb : (s.advance t).frameBad u m = true := frameBad_of_reserved h
  simp [cadDiscard, hr, hb]

end

end Sys2Proof.Machine

namespace Sys2Proof

open Machine

section

variable {s : State} {u : Fin 16} {t e : Instant}

theorem frameStartDetect_spec {d : Instant} {b : Rat} (hx : s.cad.rx = true) (hf : s.frameSince = false)
    (hd : (s.advance t).frameSeen = some (d, b)) (hs : s.cad.slotRef ≤ d) : Completes (.frameStartDetect t) s fun y =>
      y.cad = { s.cad with frameAt := some d, baseline := b } ∧ PartsKept [.now, .cad] s y := by
  have he : exec (.frameStartDetect t) s = .next ((s.advance t).setCad { s.cad with frameAt := some d, baseline := b }) := by
    show execFrameStartDetect t s = _
    unfold execFrameStartDetect
    dsimp only
    rw [hd]
    exact if_pos (by rw [hx, hf, decide_eq_true hs]; rfl)
  exact Completes.ofKeeps (execFrameStartDetect_keeps t s) he fun hk => ⟨rfl, hk.partsKept_of (by decide)⟩

theorem frameStartDetect_none (hd : (s.advance t).frameSeen = none) : Completes (.frameStartDetect t) s (· = s) := by
  have he : exec (.frameStartDetect t) s = .next s := by
    show execFrameStartDetect t s = _
    unfold execFrameStartDetect
    dsimp only
    rw [hd]
  exact ⟨s, he, rfl⟩

/-- The slot 0 of the units begins 800 ms after the slot reference, that of unit k 400 ms later each (R114). -/
def ownSlotFrom (s : State) : Instant := s.cad.slotRef + Sys2Proof.ms 800 + s.unitId * Sys2Proof.ms 400

theorem cadSlotStart_spec (hf : ownSlotFrom s ≤ t) (hm : (t - ownSlotFrom s) % (16 * Sys2Proof.ms 400) = 0) (hn : s.now ≤ t)
    (hx : s.cad.rx = true) (hen : s.lreg Reg.CAD_EN = 1) (hmay : s.mayTransmit = true) (hs : s.frameSince = false) (htx : s.cad.txAt = none)
    (hq : s.cad.queue ≠ []) (hr : s.bs F.BS_STATUS_RESYNC_ACTIVE = false ∨ s.cad.resyncBy = s.unitId)
    (hh : s.cad.queue.head? ≠ some 2 ∨ s.bs F.BS_STATUS_HOLD_HEARD = false) :
    Completes (.cadSlotStart t) s fun y => y.cad = { s.cad with txAt := some t, own := true } ∧ y.bs F.BS_STATUS_TX_ACTIVE = true ∧
      RegsKept [Reg.BS_STATUS] s y ∧ PartsKept [.now, .regs, .cad] s y := by
  have hslot : (decide (ownSlotFrom s ≤ t) && (t - ownSlotFrom s) % (16 * Sys2Proof.ms 400) == 0) = true := by
    rw [decide_eq_true hf, hm]
    rfl
  have hresync : (s.bs F.BS_STATUS_RESYNC_ACTIVE && s.cad.resyncBy != s.unitId) = false := by
    rcases hr with h | h <;> simp [h]
  have hhold : (s.cad.queue.head? == some 2 && s.bs F.BS_STATUS_HOLD_HEARD) = false := by
    rcases hh with h | h <;> simp [h]
  have hqueue : s.cad.queue.isEmpty = false := by simpa using hq
  have he : exec (.cadSlotStart t) s =
      .next (((s.advance t).setCad { s.cad with txAt := some t, own := true }).setBs F.BS_STATUS_TX_ACTIVE true) := by
    refine if_pos ?_
    show (decide (ownSlotFrom s ≤ t) && (t - ownSlotFrom s) % (16 * Sys2Proof.ms 400) == 0 && decide (s.now ≤ t) && s.cad.rx &&
      s.lreg Reg.CAD_EN == 1 && s.mayTransmit && !s.frameSince && s.cad.txAt.isNone && !s.cad.queue.isEmpty &&
      !(s.bs F.BS_STATUS_RESYNC_ACTIVE && s.cad.resyncBy != s.unitId || s.cad.queue.head? == some 2 && s.bs F.BS_STATUS_HOLD_HEARD)) = true
    rw [hslot, decide_eq_true hn, hx, hen, hmay, hs, htx, hqueue, hresync, hhold]
    rfl
  exact Completes.ofKeeps (execCadSlotStart_keeps t s) he fun hk =>
    ⟨rfl, bs_setBs_self _ _ (by decide), setBs_regsKept ((s.advance t).setCad _) _ _, hk.partsKept_of (by decide)⟩

/-! ## Valid frames -/

/-- What a valid frame leaves besides the effect of its message (R113): LAST_RX, its time and the slot reference. -/
def FrameHeard (m : Nat) (u : Fin 16) (e : Instant) (s y : State) : Prop :=
  y.reg Reg.LAST_RX = u * 256 + m ∧ y.reg Reg.LAST_RX_TIME = s.time64At e ∧ y.cad.slotRef = e ∧ y.cad.frameAt = none ∧
    PartsKept (if m = 1 ∨ m = 5 then [.now, .free, .regs, .law, .cad] else [.now, .free, .regs, .cad]) s y

theorem FrameHeard.of {m : Nat} {y : State} (h : lastFrame y = lastFrame (frameNoted m u e (s.advance t)))
    (hk : PartsKept (if m = 1 ∨ m = 5 then [.now, .free, .regs, .law, .cad] else [.now, .free, .regs, .cad]) s y) : FrameHeard m u e s y := by
  rw [lastFrame_frameNoted] at h
  simp only [lastFrame, Prod.mk.injEq] at h
  obtain ⟨hrx, htime, hslot, hframe⟩ := h
  exact ⟨hrx, htime, hslot, hframe, hk⟩

/-- A frame of a peer while no own frame is judged is recorded and acts. -/
theorem cadFrame_peer {m : Nat} (f : State → State) (hm : 1 ≤ m ∧ m ≤ 5) (ho : s.cad.own = false)
    (hp : bit (s.lreg Reg.PEER_MASK) u = true ∧ u.val ≠ s.unitId) (hr : (s.advance t).frameRead = some (e, some (u.val, m))) :
    cadFrame m u t f s = f (frameNoted m u e (s.advance t)) := by
  obtain ⟨hp, hu⟩ := hp
  rw [cadFrame_valid f t hr hm hp, frameTake_eq, frameActs_peer f (by rw [frameNoted_cad]; exact ho) (by rw [frameNoted_unitId]; exact hu)]

section

variable (ho : s.cad.own = false) (hp : bit (s.lreg Reg.PEER_MASK) u = true ∧ u.val ≠ s.unitId)
include ho hp

theorem cadReady_peer (hr : (s.advance t).frameRead = some (e, some (u.val, 1))) : Completes (.cadReady u t) s fun y =>
    FrameHeard 1 u e s y ∧ y.regBit Reg.JOINED u = true ∧ y.reg Reg.TURN_PTR = u ∧ y.reg Reg.ISLANDED = 1 ∧ y.bs F.BS_STATUS_MASTER = false := by
  have hmaster : (u.val == (frameNoted 1 u e (s.advance t)).unitId) = false := by
    rw [frameNoted_unitId]
    exact beq_false_of_ne hp.2
  obtain ⟨hjoined, hturn, hisland, hstatus⟩ := hearReady_spec u (frameNoted 1 u e (s.advance t))
  obtain ⟨hlast, -⟩ := hearReady_frame u (frameNoted 1 u e (s.advance t))
  exact Completes.ofKeeps (execCadReady_keeps u t s) (congrArg Host.Outcome.next (cadFrame_peer _ (by decide) ho hp hr)) fun hk =>
    ⟨.of hlast (hk.partsKept_of (by decide)), hjoined, hturn, hisland, hstatus.trans hmaster⟩

theorem cadEnergiseNext_some {v : Nat} (hr : (s.advance t).frameRead = some (e, some (u.val, 2))) (hv : nextUnit s = some v) :
    Completes (.cadEnergiseNext u t) s fun y => FrameHeard 2 u e s y ∧ y.reg Reg.TURN_PTR = v ∧
      y.bs F.BS_STATUS_HAS_TURN = (v == s.unitId) := by
  have hnext : nextUnit (frameNoted 2 u e (s.advance t)) = some v :=
    (nextUnit_of (frameNoted_regsKept 2 u e (s.advance t)) (frameNoted_law 2 u e (s.advance t))).trans hv
  have hunit : (frameNoted 2 u e (s.advance t)).unitId = s.unitId := frameNoted_unitId 2 u e (s.advance t)
  obtain ⟨hlast, hturn, hhas⟩ := hearNext_some (by rw [hunit]; exact hp.2) hnext
  exact Completes.ofKeeps (execCadEnergiseNext_keeps u t s) (congrArg Host.Outcome.next (cadFrame_peer _ (by decide) ho hp hr)) fun hk =>
    ⟨.of hlast (hk.partsKept_of (by decide)), hturn, by rw [hhas, hunit]⟩

theorem cadEnergiseNext_none (hr : (s.advance t).frameRead = some (e, some (u.val, 2))) (hv : nextUnit s = none) :
    Completes (.cadEnergiseNext u t) s fun y => FrameHeard 2 u e s y ∧ y.reg Reg.TURN_PTR = 0xFF ∧ y.bs F.BS_STATUS_ALL_JOINED = true ∧
      y.bs F.BS_STATUS_HAS_TURN = false := by
  have hnext : nextUnit (frameNoted 2 u e (s.advance t)) = none :=
    (nextUnit_of (frameNoted_regsKept 2 u e (s.advance t)) (frameNoted_law 2 u e (s.advance t))).trans hv
  obtain ⟨hlast, hspec⟩ := hearNext_none (by rw [frameNoted_unitId]; exact hp.2) hnext
  exact Completes.ofKeeps (execCadEnergiseNext_keeps u t s) (congrArg Host.Outcome.next (cadFrame_peer _ (by decide) ho hp hr)) fun hk =>
    ⟨.of hlast (hk.partsKept_of (by decide)), hspec⟩

theorem cadHold_peer (hr : (s.advance t).frameRead = some (e, some (u.val, 3))) : Completes (.cadHold u t) s fun y =>
    FrameHeard 3 u e s y ∧ y.bs F.BS_STATUS_HOLD_HEARD = true ∧ y.cad.holdUntil = (s.advance t).now + sec (s.lreg Reg.HOLD_T) := by
  obtain ⟨hlast, hheard, huntil⟩ := hearHold_spec (frameNoted 3 u e (s.advance t))
  rw [frameNoted_now, frameNoted_lreg _ _ _ _ (by decide)] at huntil
  exact Completes.ofKeeps (execCadHold_keeps u t s) (congrArg Host.Outcome.next (cadFrame_peer _ (by decide) ho hp hr)) fun hk =>
    ⟨.of hlast (hk.partsKept_of (by decide)), hheard, huntil⟩

theorem cadResync_peer (hr : (s.advance t).frameRead = some (e, some (u.val, 4))) : Completes (.cadResync u t) s fun y =>
    FrameHeard 4 u e s y ∧ y.bs F.BS_STATUS_RESYNC_ACTIVE = true ∧ y.cad.resyncBy = u ∧
      y.cad.resyncUntil = (s.advance t).now + sec (s.lreg Reg.RESYNC_T) := by
  obtain ⟨hlast, hactive, hby, huntil⟩ := hearResync_spec u (frameNoted 4 u e (s.advance t))
  rw [frameNoted_now, frameNoted_lreg _ _ _ _ (by decide)] at huntil
  exact Completes.ofKeeps (execCadResync_keeps u t s) (congrArg Host.Outcome.next (cadFrame_peer _ (by decide) ho hp hr)) fun hk =>
    ⟨.of hlast (hk.partsKept_of (by decide)), hactive, hby, huntil⟩

theorem cadDone_peer (hr : (s.advance t).frameRead = some (e, some (u.val, 5))) : Completes (.cadDone u t) s fun y =>
    FrameHeard 5 u e s y ∧ y.regBit Reg.JOINED u = true := by
  obtain ⟨hlast, hjoined⟩ := hearDone_spec u (frameNoted 5 u e (s.advance t))
  exact Completes.ofKeeps (execCadDone_keeps u t s) (congrArg Host.Outcome.next (cadFrame_peer _ (by decide) ho hp hr)) fun hk =>
    ⟨.of hlast (hk.partsKept_of (by decide)), hjoined⟩

end

/-- Its own READY read back leaves the queue (R116). -/
theorem cadReady_own {q : List Nat} (ho : s.cad.own = true) (hu : u.val = s.unitId) (hp : bit (s.lreg Reg.PEER_MASK) u = true)
    (hq : s.cad.queue = 1 :: q) (hr : (s.advance t).frameRead = some (e, some (u.val, 1))) : Completes (.cadReady u t) s fun y =>
      FrameHeard 1 u e s y ∧ y.cad.own = false ∧ y.cad.queue = q ∧ y.reg Reg.CAD_CMD = q.length ∧ y.cad.collisions = 0 ∧
        y.bs F.BS_STATUS_MASTER = true := by
  obtain ⟨x, hx⟩ : ∃ x, x = frameNoted 1 u e (s.advance t) := ⟨_, rfl⟩
  have hcad : x.cad = { s.cad with slotRef := e, frameAt := none, lastStart := s.cad.frameAt } := by rw [hx, frameNoted_cad]; rfl
  have hunit : x.unitId = s.unitId := by rw [hx, frameNoted_unitId]; rfl
  have hnoted : lastFrame x = lastFrame (frameNoted 1 u e (s.advance t)) := by rw [hx]
  have he : exec (.cadReady u t) s = .next (hearReady u (messageSent q x)) := congrArg Host.Outcome.next <| by
    rw [cadFrame_valid _ t hr (by decide) hp, frameTake_eq, ← hx]
    exact frameActs_own _ (by rw [hcad]; exact ho) (hu.trans hunit.symm) (by rw [hcad]; exact hq)
  obtain ⟨-, -, -, hmaster⟩ := hearReady_spec u (messageSent q x)
  obtain ⟨hlast, hcmd, -, hsent⟩ := hearReady_frame u (messageSent q x)
  rw [messageSent_cad] at hsent
  rw [lastFrame_messageSent, hnoted] at hlast
  refine Completes.ofKeeps (execCadReady_keeps u t s) he fun hk =>
    ⟨.of hlast (hk.partsKept_of (by decide)), by rw [hsent], by rw [hsent], hcmd.trans (reg_setReg_self _ _ _), by rw [hsent], ?_⟩
  rw [hmaster, messageSent_unitId, hunit, hu]
  exact beq_self_eq_true _

/-- READY of a peer while an own frame is judged is a collision, and acts (R116). -/
theorem cadReady_collision (ho : s.cad.own = true) (hp : bit (s.lreg Reg.PEER_MASK) u = true ∧ u.val ≠ s.unitId)
    (hr : (s.advance t).frameRead = some (e, some (u.val, 1))) : Completes (.cadReady u t) s fun y =>
      FrameHeard 1 u e s y ∧ y.cad.own = false ∧ y.regBit Reg.JOINED u = true ∧
        (s.lreg Reg.CAD_RETRY ≤ s.cad.collisions + 1 → y.cad.queue = s.cad.queue.drop 1 ∧ y.bs F.BS_STATUS_CAD_FAIL = true) := by
  obtain ⟨hp, hu⟩ := hp
  obtain ⟨x, hx⟩ : ∃ x, x = frameNoted 1 u e (s.advance t) := ⟨_, rfl⟩
  have hcad : x.cad = { s.cad with slotRef := e, frameAt := none, lastStart := s.cad.frameAt } := by rw [hx, frameNoted_cad]; rfl
  have hunit : x.unitId = s.unitId := by rw [hx, frameNoted_unitId]; rfl
  have hnoted : lastFrame x = lastFrame (frameNoted 1 u e (s.advance t)) := by rw [hx]
  have hretry : x.lreg Reg.CAD_RETRY = s.lreg Reg.CAD_RETRY := by rw [hx, frameNoted_lreg _ _ _ _ (by decide)]; rfl
  have he : exec (.cadReady u t) s = .next (hearReady u (cadCollision x)) := congrArg Host.Outcome.next <| by
    rw [cadFrame_valid _ t hr (by decide) hp, frameTake_eq, ← hx]
    exact frameActs_collision _ (by rw [hcad]; exact ho) (by rw [hunit]; exact hu)
  obtain ⟨-, q, n, hcol⟩ := cadCollision_spec x
  obtain ⟨hjoined, -⟩ := hearReady_spec u (cadCollision x)
  obtain ⟨hlast, -, hfail, hheard⟩ := hearReady_frame u (cadCollision x)
  rw [lastFrame_cadCollision, hnoted] at hlast
  refine Completes.ofKeeps (execCadReady_keeps u t s) he fun hk =>
    ⟨.of hlast (hk.partsKept_of (by decide)), by rw [hheard, hcol], hjoined, fun h => ?_⟩
  obtain ⟨hqueue, hset⟩ := cadCollision_drops (s := x) (by rwa [hretry, hcad])
  rw [hcad] at hqueue
  exact ⟨by rw [hheard]; exact hqueue, hfail.trans hset⟩

/-! ## Discarded frames -/

/-- What a discarded frame leaves (R113). -/
def FrameDropped (e : Instant) (s y : State) : Prop :=
  y.reg Reg.RX_DISCARD = s.reg Reg.RX_DISCARD + 1 ∧ y.cad.slotRef = e ∧ y.cad.frameAt = none ∧
    y.cad.own = false ∧ (s.cad.own = false → RegsKept [Reg.RX_DISCARD] s y) ∧ PartsKept [.now, .free, .regs, .cad] s y

theorem FrameDropped.of_exec {c : Instr} (hc : s.reg Reg.RX_DISCARD + 1 < 4294967296) (he : exec c s = .next (frameDrop e (s.advance t))) :
    Completes c s (FrameDropped e s) := by
  have hk : Keeps 65549 s (frameDrop e (s.advance t)) :=
    Keeps.step (frameDrop_keeps e (s.advance t)) (by decide) ((State.advance_keeps s t).mono (by decide))
  obtain ⟨hcount, hslot, hframe, hown, hregs⟩ := frameDrop_spec (s.advance t) e hc
  exact ⟨_, he, hcount, hslot, hframe, hown, hregs, hk.partsKept_of (by decide)⟩

/-- The five messages are those of their commands, and act on a frame that is read (R113, R117). -/
theorem cadMessage_spec (s : State) (u : Fin 16) (t e : Instant) {p : Nat × Instr × (State → State)}
    (hp : p ∈ [(1, Instr.cadReady u t, hearReady u), (2, .cadEnergiseNext u t, hearNext u), (3, .cadHold u t, hearHold),
      (4, .cadResync u t, hearResync u), (5, .cadDone u t, hearDone u)]) :
    ((s.advance t).frameRead = some (e, some (u.val, p.1)) → bit (s.lreg Reg.PEER_MASK) u = true →
      Completes p.2.1 s (· = frameTake p.1 u e p.2.2 (s.advance t))) ∧
    ((s.advance t).frameRead = none → Completes p.2.1 s (· = s)) := by
  have hexec : exec p.2.1 s = .next (cadFrame p.1 u t p.2.2 s) ∧ 1 ≤ p.1 ∧ p.1 ≤ 5 := by
    simp only [List.mem_cons, List.not_mem_nil, or_false] at hp
    rcases hp with rfl | rfl | rfl | rfl | rfl <;> exact ⟨rfl, by simp⟩
  obtain ⟨he, hm⟩ := hexec
  exact ⟨fun hr hb => ⟨_, he, cadFrame_valid _ t hr hm hb⟩, fun hr => ⟨_, he, cadFrame_none _ t hr⟩⟩

end

/-- Settles O26, clause by clause from the lemma of each command. -/
theorem cadenceFrames : Obligations.CadenceFrames := by
  unfold Obligations.CadenceFrames
  intro s u t e n from_ next heard reads peer
  refine ⟨fun d b => frameStartDetect_spec, frameStartDetect_none, fun d b => frameSearch_spec, fun tx a m => frameDecode_spec, cadSlotStart_spec,
    fun p hp => cadMessage_spec s u t e hp, fun ho hp => ⟨cadReady_peer ho hp, fun v => cadEnergiseNext_some ho hp, cadEnergiseNext_none ho hp,
      cadHold_peer ho hp, cadResync_peer ho hp, cadDone_peer ho hp⟩, fun q ho hu hp => cadReady_own ho hu hp, cadReady_collision,
    fun hc => ⟨fun hr => ?_, fun a m hr h => ?_, fun hp => ⟨fun hr => ?_, fun hr => ?_⟩⟩⟩
  · exact FrameDropped.of_exec hc (congrArg Host.Outcome.next (cadDiscard_failed t hr))
  · exact FrameDropped.of_exec hc (congrArg Host.Outcome.next (cadDiscard_bad t hr h))
  · exact FrameDropped.of_exec hc (congrArg Host.Outcome.next (cadFrame_bad _ t hr hp))
  · exact FrameDropped.of_exec hc (congrArg Host.Outcome.next (cadFrame_bad _ t hr hp))

end Sys2Proof
end

section
/-!
SUPPORT. The engines' instructions on registers: what each kind of result leaves of the other registers, and the exact arithmetic
that they narrow at the end (05, R123, R125, R450).
-/

namespace Sys2Proof

open Machine

/-! ## What an instruction keeps of its engine -/

section

variable {xs as ps : List Nat} {pc : BitVec 13} {loops : List LoopLevel} {x y : Engine}

theorem EngineKept.refl (x : Engine) : EngineKept xs as ps x.pc x.loops x x :=
  ⟨fun _ _ => rfl, fun _ _ => rfl, fun _ _ => ⟨rfl, rfl⟩, rfl⟩

theorem EngineKept.setX (h : EngineKept xs as ps pc loops x y) {i : Nat} (v : W16) (hi : i ∈ xs) :
    EngineKept xs as ps pc loops x (y.setX i v) where
  xr j hj := by rw [xr_setX, if_neg (ne_of_mem_of_not_mem hi hj).symm, h.xr j hj]
  ar := h.ar
  pr := h.pr
  rest := by rw [h.rest]; rfl

theorem EngineKept.setA (h : EngineKept xs as ps pc loops x y) {i : Nat} (v : W40) (hi : i ∈ as) :
    EngineKept xs as ps pc loops x (y.setA i v) where
  xr := h.xr
  ar j hj := by rw [ar_setA, if_neg (ne_of_mem_of_not_mem hi hj).symm, h.ar j hj]
  pr := h.pr
  rest := by rw [h.rest]; rfl

theorem EngineKept.setP (h : EngineKept xs as ps pc loops x y) {i : Nat} (v : BitVec 14) (hi : i ∈ ps) :
    EngineKept xs as ps pc loops x (y.setP i v) where
  xr := h.xr
  ar := h.ar
  pr j hj := by rw [pr_setP, if_neg (ne_of_mem_of_not_mem hi hj).symm, kr_setP]; exact h.pr j hj
  rest := by rw [h.rest]; rfl

theorem EngineKept.setK (h : EngineKept xs as ps pc loops x y) {i : Nat} (v : BitVec 4) (hi : i ∈ ps) :
    EngineKept xs as ps pc loops x (y.setK i v) where
  xr := h.xr
  ar := h.ar
  pr j hj := by rw [kr_setK, if_neg (ne_of_mem_of_not_mem hi hj).symm, pr_setK]; exact h.pr j hj
  rest := by rw [h.rest]; rfl

theorem EngineKept.setF (h : EngineKept xs as ps pc loops x y) (f : BitVec 8) : EngineKept xs as ps pc loops x (y.setF f) :=
  ⟨h.xr, h.ar, h.pr, by rw [h.rest]; rfl⟩

/-- The flow goes on from where it was (R128). -/
theorem EngineKept.next (h : EngineKept xs as ps x.pc x.loops x y) : EngineKept xs as ps x.next.pc x.next.loops x y.next :=
  ⟨h.xr, h.ar, h.pr, by rw [h.rest]; rfl⟩

end

/-! ## Instructions by the kind of their result -/

section

variable {c : Instr} {e : Nat} {s : State}

/-- An instruction whose operand is not reserved acts on the registers alone (R127). -/
theorem regOp_of_needs {b : Bool} (hb : b = true) (f : Engine → Engine) :
    engExec e (needs e b (engSet e fun x => (f x).next)) s = regOp e f s := by rw [hb]; rfl

/-- Xd takes the wrapping code of a value, with its flags (R450). -/
theorem acts_wraps {d : Fin 16} (h : Runs e s) (v : Engine → Int)
    (hx : exec c s = .next (regOp e (fun x => x.setXF d (wrap16 (v x)).1 (wrap16 (v x)).2) s)) : Acts c e [d] [] [] s (Wraps d v) :=
  acts_regOp h hx (fun x => (((EngineKept.refl x).setX _ (by simp)).setF _).next)
    fun x => ⟨xr_setX_self x d _, setZNV_bits x.flags _ _⟩

/-- Xd takes a code, with Z and N of it and V zero. -/
theorem acts_setsX {d : Fin 16} {q : Engine → Engine → Prop} (h : Runs e s) (r : Engine → W16)
    (hx : exec c s = .next (regOp e (fun x => x.setXF d (r x) false) s))
    (hq : ∀ x y : Engine, y.xr d = r x → SetsZNV x y (r x) false → q x y) : Acts c e [d] [] [] s q :=
  acts_regOp h hx (fun x => (((EngineKept.refl x).setX _ (by simp)).setF _).next)
    fun x => hq x _ (xr_setX_self x d _) (setZNV_bits x.flags _ _)

theorem acts_gives {d : Fin 16} (h : Runs e s) (r : Engine → W16)
    (hx : exec c s = .next (regOp e (fun x => x.setXF d (r x) false) s)) : Acts c e [d] [] [] s (Gives d r) :=
  acts_setsX h r hx fun _ _ => And.intro

/-- Only FLAGS changes: Z, N and V of the wrapping code of a value (R450). -/
theorem acts_compares (h : Runs e s) (v : Engine → Int)
    (hx : exec c s = .next (regOp e (fun x => x.setF (setZNV x.flags (wrap16 (v x)).1 (wrap16 (v x)).2)) s)) :
    Acts c e [] [] [] s fun x y => SetsZNV x y (BitVec.ofInt 16 (v x)) (decide ((BitVec.ofInt 16 (v x)).toInt ≠ v x)) :=
  acts_regOp h hx (fun x => ((EngineKept.refl x).setF _).next) fun x => setZNV_bits x.flags _ _

/-- An accumulator takes a value modulo 2^40; no flag changes (R123). -/
theorem acts_setsAcc {a : Fin 4} (h : Runs e s) (v : Engine → Int) {w : Engine → W40}
    (hx : exec c s = .next (regOp e (fun x => x.setA a (w x)) s)) (hw : ∀ x, w x = BitVec.ofInt 40 (v x)) :
    Acts c e [] [a] [] s fun x y => y.ar a = BitVec.ofInt 40 (v x) ∧ y.flags = x.flags :=
  acts_regOp h hx (fun x => ((EngineKept.refl x).setA _ (by simp)).next) fun x => ⟨(ar_setA_self x a _).trans (hw x), rfl⟩

/-- Xd takes a code; no flag changes. -/
theorem acts_movesX {d : Fin 16} {q : Engine → W16 → Prop} (h : Runs e s) (r : Engine → W16)
    (hx : exec c s = .next (regOp e (fun x => x.setX d (r x)) s)) (hq : ∀ x, q x (r x)) :
    Acts c e [d] [] [] s fun x y => q x (y.xr d) ∧ y.flags = x.flags :=
  acts_regOp h hx (fun x => ((EngineKept.refl x).setX _ (by simp)).next) fun x => ⟨by rw [xr_next, xr_setX_self]; exact hq x, rfl⟩

/-- An accumulator takes a code; no flag changes. -/
theorem acts_movesA {a : Fin 4} {q : Engine → W40 → Prop} (h : Runs e s) (r : Engine → W40)
    (hx : exec c s = .next (regOp e (fun x => x.setA a (r x)) s)) (hq : ∀ x, q x (r x)) :
    Acts c e [] [a] [] s fun x y => q x (y.ar a) ∧ y.flags = x.flags :=
  acts_regOp h hx (fun x => ((EngineKept.refl x).setA _ (by simp)).next) fun x => ⟨by rw [ar_next, ar_setA_self]; exact hq x, rfl⟩

/-- Pn takes an address; its modulus exponent and the flags stay. -/
theorem acts_movesP {p : Fin 8} {q : Engine → BitVec 14 → Prop} (h : Runs e s) (r : Engine → BitVec 14)
    (hx : exec c s = .next (regOp e (fun x => x.setP p (r x)) s)) (hq : ∀ x, q x (r x)) :
    Acts c e [] [] [p] s fun x y => q x (y.pr p) ∧ y.kr p = x.kr p ∧ y.flags = x.flags :=
  acts_regOp h hx (fun x => ((EngineKept.refl x).setP _ (by simp)).next) fun x => ⟨by rw [pr_next, pr_setP_self]; exact hq x, rfl, rfl⟩

end

/-! ## Saturation (R123, Table 5-3) -/

/-- The saturated code of a value, and that SAT says whether it differs from the value. -/
theorem sat16_spec (v : Int) :
    (sat16 v).1.toInt = max (-32768) (min 32767 v) ∧ (sat16 v).2 = decide ((sat16 v).1.toInt ≠ v) := by
  unfold sat16
  split
  · next h => exact ⟨by rw [show (0x7FFF#16).toInt = 32767 from rfl]; omega, by simp [show (0x7FFF#16).toInt = 32767 from rfl]; omega⟩
  · split
    · next h => exact ⟨by rw [show (0x8000#16).toInt = -32768 from rfl]; omega, by simp [show (0x8000#16).toInt = -32768 from rfl]; omega⟩
    · have h : (BitVec.ofInt 16 v).toInt = v := BitVec.toInt_ofInt_eq_self (by decide) (by omega) (by omega)
      exact ⟨by rw [h]; omega, by simp [h]⟩

theorem sat40_spec (v : Int) :
    (sat40 v).1.toInt = max (-2 ^ 39) (min (2 ^ 39 - 1) v) ∧ (sat40 v).2 = decide ((sat40 v).1.toInt ≠ v) := by
  unfold sat40
  split
  · next h =>
    have e : (BitVec.ofInt 40 549755813887).toInt = 549755813887 := by decide
    exact ⟨by rw [e]; omega, by simp only [e]; simp; omega⟩
  · split
    · next h =>
      have e : (BitVec.ofInt 40 (-549755813888)).toInt = -549755813888 := by decide
      exact ⟨by rw [e]; omega, by simp only [e]; simp; omega⟩
    · have h : (BitVec.ofInt 40 v).toInt = v := BitVec.toInt_ofInt_eq_self (by decide) (by omega) (by omega)
      exact ⟨by rw [h]; omega, by simp [h]⟩

/-- Z and N of a saturated result, V zero and SAT sticky. -/
theorem setsZNSat_bits (fl : BitVec 8) (r : W16) (sat : Bool) :
    let f := stickFlag (setZNV fl r false) flSAT sat
    f.getLsbD 0 = (r == 0) ∧ f.getLsbD 1 = r.msb ∧ f.getLsbD 2 = false ∧ f.getLsbD 3 = (fl.getLsbD 3 || sat) ∧
      ∀ i, 4 ≤ i → f.getLsbD i = fl.getLsbD i := by
  obtain ⟨hz, hn, hv, hk⟩ := setZNV_bits fl r false
  obtain ⟨hs, ho⟩ := stickFlag_bits (setZNV fl r false) flSAT sat (by decide)
  unfold flSAT at *
  refine ⟨(ho 0 (by decide)).trans hz, (ho 1 (by decide)).trans hn, (ho 2 (by decide)).trans hv, ?_, fun i hi => ?_⟩
  · rw [hs, hk 3 (by decide)]
  · rw [ho i (by omega), hk i (by omega)]

/-- Xd takes the saturated code of a value, with its flags and the sticky SAT. -/
theorem acts_saturates {c : Instr} {e : Nat} {d : Fin 16} {s : State} (h : Runs e s) (v : Engine → Int)
    (hx : exec c s = .next (regOp e (fun x => (x.setXF d (sat16 (v x)).1 false).stick flSAT (sat16 (v x)).2) s)) :
    Acts c e [d] [] [] s (Saturates d v) :=
  acts_regOp h hx (fun x => ((((EngineKept.refl x).setX _ (by simp)).setF _).setF _).next) fun x => by
    obtain ⟨hval, hsat⟩ := sat16_spec (v x)
    have hr : ((x.setXF d (sat16 (v x)).1 false).stick flSAT (sat16 (v x)).2).next.xr d = (sat16 (v x)).1 := xr_setX_self x d _
    unfold Saturates
    rw [hr, ← hsat]
    exact ⟨hval, setsZNSat_bits x.flags _ _⟩

/-! ## The ALU -/

/-- Settles O1: each is the wrapping code of its true value. -/
theorem wrappingAluResults : Obligations.WrappingAluResults := by
  unfold Obligations.WrappingAluResults
  intro s e d xs xt imm h
  exact ⟨acts_wraps h _ rfl, acts_wraps h _ rfl, acts_wraps h _ rfl, acts_wraps h _ rfl, acts_wraps h _ rfl⟩

/-- Settles O2: each is the saturated code of its true value. -/
theorem saturatingAluResults : Obligations.SaturatingAluResults := by
  unfold Obligations.SaturatingAluResults
  intro s e d xs xt n h
  exact ⟨acts_saturates h _ rfl, acts_saturates h _ rfl,
    fun hn => acts_saturates h _ (congrArg Host.Outcome.next (regOp_of_needs (decide_eq_true hn) _))⟩

/-- Settles O4: the flags are those of the wrapping difference. -/
theorem compareSetsFlagsOnly : Obligations.CompareSetsFlagsOnly := by
  unfold Obligations.CompareSetsFlagsOnly
  intro s e d xs xt imm h
  exact ⟨acts_compares h _ rfl, acts_compares h _ rfl, acts_regOp h rfl (fun x => (EngineKept.refl x).next) fun _ => rfl⟩

end Sys2Proof
end

section
/-!
SUPPORT. The results of the logic, shift, accumulator and move instructions on codes and on whole numbers (05, Table 5-4).
-/

namespace Sys2Proof

open Machine

/-! ## Codes of whole numbers -/

/-- The smaller of two codes. -/
theorem toInt_min (a b : W16) : (if a.toInt ≤ b.toInt then a else b).toInt = min a.toInt b.toInt := by
  rw [apply_ite BitVec.toInt, min_def]

theorem toInt_max (a b : W16) : (if a.toInt ≤ b.toInt then b else a).toInt = max a.toInt b.toInt := by
  rw [apply_ite BitVec.toInt, max_def]

theorem toInt_sshiftRight_div (a : W16) (n : Nat) : (a.sshiftRight n).toInt = a.toInt / 2 ^ n := by
  rw [BitVec.toInt_sshiftRight, Int.shiftRight_eq_div_pow]; norm_cast

theorem toNat_ushiftRight_div (a : W16) (n : Nat) : (a >>> n).toNat = a.toNat / 2 ^ n := by
  rw [BitVec.toNat_ushiftRight, Nat.shiftRight_eq_div_pow]

/-- Settles O3: each result as a code or as the whole number that the code stands for. -/
theorem logicAndShiftResults : Obligations.LogicAndShiftResults := by
  unfold Obligations.LogicAndShiftResults
  intro s e d xs xt n h
  refine ⟨acts_gives h _ rfl, acts_gives h _ rfl, acts_gives h _ rfl, acts_gives h _ rfl, acts_gives h _ rfl,
    acts_setsX h _ rfl fun x y hr hf => ?_, acts_setsX h _ rfl fun x y hr hf => ?_, fun hn => ?_⟩
  · exact ⟨by rw [hr, toInt_min], hr ▸ hf⟩
  · exact ⟨by rw [hr, toInt_max], hr ▸ hf⟩
  · have hx (f : Engine → Engine) : shiftOp e n f s = regOp e f s := regOp_of_needs (decide_eq_true hn) f
    exact ⟨acts_setsX h _ (congrArg Host.Outcome.next (hx _)) fun x y hr hf => ⟨by rw [hr, toInt_sshiftRight_div], hr ▸ hf⟩,
      acts_setsX h _ (congrArg Host.Outcome.next (hx _)) fun x y hr hf => ⟨by rw [hr, toNat_ushiftRight_div], hr ▸ hf⟩,
      acts_wraps h _ (congrArg Host.Outcome.next (hx _))⟩

/-! ## Accumulators (R123) -/

theorem add_eq_ofInt {w : Nat} (a b : BitVec w) : a + b = BitVec.ofInt w (a.toInt + b.toInt) := by
  rw [BitVec.ofInt_add, BitVec.ofInt_toInt, BitVec.ofInt_toInt]

theorem neg_eq_ofInt {w : Nat} (a : BitVec w) : -a = BitVec.ofInt w (-a.toInt) := by
  rw [BitVec.ofInt_neg, BitVec.ofInt_toInt]

theorem sub_eq_ofInt {w : Nat} (a b : BitVec w) : a - b = BitVec.ofInt w (a.toInt - b.toInt) := by
  rw [Int.sub_eq_add_neg, BitVec.ofInt_add, BitVec.ofInt_neg, BitVec.ofInt_toInt, BitVec.ofInt_toInt, BitVec.sub_eq_add_neg]

theorem shiftI_left (v : Int) {sh : Int} (h : 0 ≤ sh) : shiftI v sh = v * 2 ^ sh.toNat := if_pos h
theorem shiftI_right (v : Int) {sh : Int} (h : sh < 0) : shiftI v sh = v / 2 ^ (-sh).toNat := if_neg (by omega)
theorem shiftRoundI_left (v : Int) {sh : Int} (h : 0 ≤ sh) : shiftRoundI v sh = v * 2 ^ sh.toNat := if_pos h
theorem shiftRoundI_right (v : Int) {sh : Int} (h : sh < 0) :
    shiftRoundI v sh = (v + 2 ^ ((-sh).toNat - 1)) / 2 ^ (-sh).toNat := if_neg (by omega)

theorem shiftIn_of {sh : BitVec 8} {lo hi : Int} (hl : lo ≤ sh.toInt) (hh : sh.toInt ≤ hi) : shiftIn sh lo hi = true := by
  simp [shiftIn, hl, hh]

/-- What SHA of a count within its range is. -/
theorem execSha_eq (e : Fin 16) (a : Fin 4) {sh : BitVec 8} (r : Bool) (s : State) (hl : -32 ≤ sh.toInt) (hh : sh.toInt ≤ 31) :
    exec (.sha e a sh r) s = .next (regOp e (fun x =>
      x.setA a (acc40 (if r then shiftRoundI (x.ar a).toInt sh.toInt else shiftI (x.ar a).toInt sh.toInt))) s) :=
  congrArg Host.Outcome.next (regOp_of_needs (shiftIn_of hl hh) _)

/-- Settles O5: each is the code of its value modulo 2^40. -/
theorem accumulatorResults : Obligations.AccumulatorResults := by
  unfold Obligations.AccumulatorResults
  intro s e a b xs xt imm sh h sets prod
  refine ⟨acts_setsAcc h _ rfl fun _ => rfl, acts_setsAcc h _ rfl fun _ => rfl, acts_setsAcc h _ rfl fun _ => rfl,
    acts_setsAcc h _ rfl fun _ => add_eq_ofInt .., acts_setsAcc h _ rfl fun _ => sub_eq_ofInt ..,
    acts_setsAcc h _ rfl fun _ => BitVec.ofInt_toInt.symm, acts_setsAcc h _ rfl fun _ => neg_eq_ofInt _,
    acts_setsAcc h _ rfl fun _ => rfl, acts_setsAcc h _ rfl fun _ => rfl, acts_setsAcc h _ rfl fun _ => rfl,
    fun hl hh => ?_, fun hl hh r => ?_, fun hl hh => ⟨?_, ?_⟩⟩
  · exact acts_setsAcc h _ (congrArg Host.Outcome.next (regOp_of_needs (shiftIn_of hl hh) _)) fun x =>
      congrArg acc40 (shiftI_left _ (by omega))
  · refine acts_setsAcc h _ (execSha_eq e a r s (by omega) hh) fun x => congrArg acc40 ?_
    rw [shiftI_left _ hl, shiftRoundI_left _ hl, ite_self]
  · exact acts_setsAcc h _ (execSha_eq e a false s hl (by omega)) fun x => congrArg acc40 (shiftI_right _ hh)
  · exact acts_setsAcc h _ (execSha_eq e a true s hl (by omega)) fun x => congrArg acc40 (shiftRoundI_right _ hh)

theorem satrI_left (a : W40) {sh : Int} (h : 0 ≤ sh) : satrI a sh = (a.toInt * 2 ^ sh.toNat + 2 ^ 15) / 2 ^ 16 := if_pos h

theorem satrI_right (a : W40) {sh : Int} (h : sh < 0) :
    satrI a sh = (a.toInt + 2 ^ (15 + (-sh).toNat)) / 2 ^ (16 + (-sh).toNat) := by
  rw [pow_add, pow_add]; exact if_neg (by omega)

/-- SATR of a count within its range: Xd is the saturated code of the rounded value, SAT is sticky. -/
theorem acts_satr {s : State} {e d : Fin 16} {a : Fin 4} {sh : BitVec 8} (h : Runs e s) (hl : -8 ≤ sh.toInt) (hh : sh.toInt ≤ 7)
    (v : Engine → Int) (hv : ∀ x, satrI (x.ar a) sh.toInt = v x) :
    Acts (.satr e d a sh) e [d] [] [] s fun x y => (y.xr d).toInt = max (-2 ^ 15) (min (2 ^ 15 - 1) (v x)) ∧
      y.flags.getLsbD 3 = (x.flags.getLsbD 3 || decide ((y.xr d).toInt ≠ v x)) ∧
        ∀ i, i ≠ 3 → y.flags.getLsbD i = x.flags.getLsbD i := by
  refine acts_regOp h (congrArg Host.Outcome.next (regOp_of_needs (shiftIn_of hl hh) _))
    (fun x => (((EngineKept.refl x).setX _ (by simp)).setF _).next) fun x => ?_
  obtain ⟨hval, hsat⟩ := sat16_spec (v x)
  rw [hv x]
  have hr : (((x.setX d (sat16 (v x)).1).stick flSAT (sat16 (v x)).2).next).xr d = (sat16 (v x)).1 := xr_setX_self x d _
  rw [hr, ← hsat]
  exact ⟨hval, stickFlag_bits x.flags flSAT _ (by decide)⟩

/-- Settles O6: the codes are those of the saturated values. -/
theorem saturatingAccumulatorResults : Obligations.SaturatingAccumulatorResults := by
  unfold Obligations.SaturatingAccumulatorResults
  intro s e d a b sh h sticky
  refine ⟨acts_regOp h rfl (fun x => (((EngineKept.refl x).setA _ (by simp)).setF _).next) fun x => ?_,
    fun hl hh => acts_satr h (by omega) hh _ fun x => satrI_left _ hl, fun hl hh => acts_satr h hl (by omega) _ fun x => satrI_right _ hh⟩
  obtain ⟨hval, hsat⟩ := sat40_spec ((x.ar a).toInt + (x.ar b).toInt)
  dsimp only
  rw [ar_next, show ∀ y b, (Engine.stick flSAT b y).ar a = y.ar a from fun _ _ => rfl, ar_setA_self, ← hsat]
  exact ⟨hval, stickFlag_bits x.flags flSAT _ (by decide)⟩

end Sys2Proof
end

section
/-!
SUPPORT. Moves between the engines' registers, and the addresses that address registers form (05, Table 5-4, R125).
-/

namespace Sys2Proof

open Machine

/-! ## Parts of an accumulator (R126) -/

theorem toNat_accOf (lo hi : W16) (g : BitVec 8) : (accOf lo hi g).toNat = g.toNat * 2 ^ 32 + hi.toNat * 2 ^ 16 + lo.toNat := by
  unfold accOf
  rw [BitVec.toNat_append, BitVec.toNat_append, ← Nat.shiftLeft_add_eq_or_of_lt lo.isLt, ← Nat.shiftLeft_add_eq_or_of_lt hi.isLt,
    Nat.shiftLeft_eq, Nat.shiftLeft_eq]
  ring

theorem toNat_accLow (a : W40) : (a.extractLsb' 0 16).toNat = a.toNat % 2 ^ 16 := by
  rw [BitVec.extractLsb'_toNat, Nat.shiftRight_zero]

theorem toNat_accHigh (a : W40) : (a.extractLsb' 16 16).toNat = a.toNat / 2 ^ 16 % 2 ^ 16 := by
  rw [BitVec.extractLsb'_toNat, Nat.shiftRight_eq_div_pow]

theorem toNat_accGuard (a : W40) : (a.extractLsb' 32 8).toNat = a.toNat / 2 ^ 32 := by
  rw [BitVec.extractLsb'_toNat, Nat.shiftRight_eq_div_pow]
  have := a.isLt
  omega

/-- The guard bits of an accumulator, sign-extended. -/
theorem toInt_accGuard (a : W40) : ((a.extractLsb' 32 8).signExtend 16).toInt = a.toInt / 2 ^ 32 := by
  rw [BitVec.toInt_signExtend_of_le (by decide), BitVec.toInt_eq_toNat_cond, BitVec.toInt_eq_toNat_cond, toNat_accGuard]
  have := a.isLt
  split <;> split <;> omega

/-- Settles O7: the code or the whole number that each move writes. -/
theorem moveResults : Obligations.MoveResults := by
  unfold Obligations.MoveResults
  intro s e d xs a p imm h
  refine ⟨acts_movesX (q := fun _ r => r = imm) h _ rfl fun _ => rfl,
    acts_movesX (q := fun x r => r.toNat = (x.pr p).toNat) h _ rfl fun x => ?_,
    acts_movesP (q := fun x r => r.toNat = (x.xr xs).toNat % 2 ^ 14) h _ rfl fun x => BitVec.toNat_setWidth ..,
    acts_movesX (q := fun x r => r.toNat = (x.ar a).toNat % 2 ^ 16) h _ rfl fun x => toNat_accLow _,
    acts_movesX (q := fun x r => r.toNat = (x.ar a).toNat / 2 ^ 16 % 2 ^ 16) h _ rfl fun x => toNat_accHigh _,
    acts_movesX (q := fun x r => r.toInt = (x.ar a).toInt / 2 ^ 32) h _ rfl fun x => toInt_accGuard _,
    acts_movesA (q := fun x r => r.toNat = (x.ar a).toNat / 2 ^ 16 * 2 ^ 16 + (x.xr xs).toNat) h _ rfl fun x => ?_,
    acts_movesA (q := fun x r => r.toNat = (x.ar a).toNat / 2 ^ 32 * 2 ^ 32 + (x.xr xs).toNat * 2 ^ 16 + (x.ar a).toNat % 2 ^ 16) h _ rfl
      fun x => ?_,
    acts_movesA (q := fun x r => r.toNat = (x.xr xs).toNat % 2 ^ 8 * 2 ^ 32 + (x.ar a).toNat % 2 ^ 32) h _ rfl fun x => ?_,
    acts_movesX (q := fun x r => r.toNat = x.flags.toNat) h _ rfl fun x => ?_⟩
  · exact BitVec.toNat_setWidth_of_le (by decide)
  · rw [toNat_accOf, toNat_accHigh, toNat_accGuard]; omega
  · rw [toNat_accOf, toNat_accLow, toNat_accGuard]
  · rw [toNat_accOf, toNat_accLow, toNat_accHigh, BitVec.toNat_setWidth]; omega
  · exact BitVec.toNat_setWidth_of_le (by decide)

/-! ## Address registers (R125) -/

/-- Without a modulus an address is formed modulo the SRAM. -/
theorem formAddr_linear {p : BitVec 14} {k : BitVec 4} {off : Int} (h : k = 0) :
    ((formAddr p k off).toNat : Int) = (p.toNat + off) % 2 ^ 14 := by
  unfold formAddr
  rw [if_pos h, BitVec.toNat_ofInt]
  omega

/-- With a modulus exponent an address stays in the aligned block of its register. -/
theorem formAddr_block {p : BitVec 14} {k : BitVec 4} {off : Int} (h : k ≠ 0) (hk : k.toNat ≤ 14) :
    ((formAddr p k off).toNat : Int) = (p.toNat - p.toNat % 2 ^ k.toNat : Nat) + (p.toNat + off) % 2 ^ k.toNat := by
  unfold formAddr
  rw [if_neg h]
  dsimp only
  obtain ⟨c, hc⟩ : (2 ^ k.toNat : Nat) ∣ 2 ^ 14 := Nat.pow_dvd_pow 2 hk
  generalize hm : (2 ^ k.toNat : Nat) = m at hc ⊢
  have hmi : (2 ^ k.toNat : Int) = m := by rw [← hm]; norm_cast
  have hpos : 0 < m := hm ▸ Nat.two_pow_pos _
  have hlt : p.toNat < m * c := hc ▸ p.isLt
  have hblock : p.toNat - p.toNat % m = p.toNat / m * m := by
    have := Nat.div_add_mod' p.toNat m
    omega
  have hq : p.toNat / m * m + m ≤ 2 ^ 14 := by
    have : p.toNat / m < c := Nat.div_lt_of_lt_mul hlt
    calc p.toNat / m * m + m = (p.toNat / m + 1) * m := by ring
      _ ≤ c * m := Nat.mul_le_mul_right m this
      _ = 2 ^ 14 := by rw [hc, Nat.mul_comm]
  have h0 := Int.emod_nonneg (p.toNat + off) (b := m) (by omega)
  have h1 := Int.emod_lt_of_pos (p.toNat + off) (b := m) (by omega)
  rw [BitVec.toNat_ofInt, hmi, hblock, ← Int.natCast_ediv, ← Int.natCast_mul]
  generalize p.toNat / m * m = q at hq ⊢
  omega

/-- Settles O8: the addresses are those that `formAddr` forms. -/
theorem addressRegisterRule : Obligations.AddressRegisterRule := by
  unfold Obligations.AddressRegisterRule
  intro s e p imm h
  refine ⟨fun hi => ?_, fun hi => ?_, ?_⟩
  · refine acts_movesP (q := fun _ r => r.toNat = imm.toNat) h (fun _ => imm.setWidth 14)
      (congrArg Host.Outcome.next (regOp_of_needs (decide_eq_true hi) _)) fun x => ?_
    rw [BitVec.toNat_setWidth, Nat.mod_eq_of_lt hi]
  · refine acts_regOp h (congrArg Host.Outcome.next (regOp_of_needs (decide_eq_true hi) _))
      (fun x => ((EngineKept.refl x).setK _ (by simp)).next) fun x => ⟨?_, rfl, rfl⟩
    rw [kr_next, kr_setK_self, BitVec.toNat_setWidth, Nat.mod_eq_of_lt (by omega)]
  · refine acts_regOp h rfl (fun x => ((EngineKept.refl x).setP _ (by simp)).next) fun x => ⟨rfl, rfl, fun hk => ?_, fun hk hle => ?_⟩
    · rw [pr_next, pr_setP_self, formAddr_linear hk]
    · rw [pr_next, pr_setP_self, formAddr_block hk hle]

/-- Settles O10: each mode's address is one that `formAddr` forms. -/
theorem dataAddressForming : Obligations.DataAddressForming := by
  unfold Obligations.DataAddressForming
  intro x p a off j rule
  have hrule (v : Int) : rule v (formAddr (x.pr p) (x.kr p) v) := ⟨formAddr_linear, formAddr_block⟩
  refine ⟨?_, hrule _, hrule _, ?_, rfl, rfl, fun i hi => ?_⟩
  · show (a + BitVec.ofNat 14 j).toNat = _
    rw [BitVec.toNat_add, BitVec.toNat_ofNat, Nat.add_mod_mod]
  · rw [show (x.postMod (.postModified p off)).pr p = _ from pr_setP_self ..]
    exact hrule _
  · exact (pr_setP ..).trans (if_neg hi)

end Sys2Proof
end

section
/-!
SUPPORT. The instructions that limit, divide and compute residuals, and the ones that use a free value where the spec leaves the
result open (05, Table 5-4).
-/

namespace Sys2Proof

open Machine

section

variable {c : Instr} {e : Nat} {xs as ps : List Nat} {s : State} {q q' : Engine → Engine → Prop}

theorem Acts.imp (h : Acts c e xs as ps s q) (hq : ∀ y, q (s.engine e) y → q' (s.engine e) y) : Acts c e xs as ps s q' := by
  obtain ⟨t, hx, hs, hk, hp⟩ := h
  exact ⟨t, hx, hs, hk, hq _ hp⟩

/-- An instruction on registers that uses free values. -/
theorem acts_regOpFree {f : Engine → Engine} (n : Nat) (hx : exec c s = .next (engSet e (fun x => (f x).next) { s with free := n }))
    (hk : ∀ x, EngineKept xs as ps x.pc x.loops x (f x)) (hq : q (s.engine e) (f (s.engine e)).next) : Acts c e xs as ps s q := by
  have hy : ({ s with free := n }.setEngine e (f (s.engine e)).next).engine e = (f (s.engine e)).next := engine_setEngine ..
  refine ⟨_, hx, ?_⟩
  show OnlyEngine e s ({ s with free := n }.setEngine e (f (s.engine e)).next) ∧ _
  unfold OnlyEngine
  simp only [engSet, hy, show State.engine { s with free := n } e = s.engine e from rfl]
  exact ⟨rfl, (hk _).next, hq⟩

/-- The same where the register operation is known of the present engine alone. -/
theorem acts_regOpAt {f : Engine → Engine} (h : Runs e s) (hx : exec c s = .next (regOp e f s))
    (hk : ∀ x, EngineKept xs as ps x.pc x.loops x (f x)) (hq : q (s.engine e) (f (s.engine e)).next) : Acts c e xs as ps s q :=
  acts_regOpFree s.free (hx.trans (congrArg Host.Outcome.next (engExec_runs h _))) hk hq

end

@[simp] theorem xr_flag (x : Engine) (i : Nat) (b : Bool) (j : Nat) : (x.flag i b).xr j = x.xr j := rfl
@[simp] theorem ar_flag (x : Engine) (i : Nat) (b : Bool) (j : Nat) : (x.flag i b).ar j = x.ar j := rfl
@[simp] theorem xr_stick (x : Engine) (i : Nat) (b : Bool) (j : Nat) : (x.stick i b).xr j = x.xr j := rfl
@[simp] theorem flags_flag (x : Engine) (i : Nat) (b : Bool) : (x.flag i b).flags = setFlag x.flags i b := rfl
@[simp] theorem flags_stick (x : Engine) (i : Nat) (b : Bool) : (x.stick i b).flags = stickFlag x.flags i b := rfl

/-! ## Clamping -/

theorem sget_range16 (n : Nat) : -32768 ≤ sget 16 n ∧ sget 16 n ≤ 32767 := by
  unfold sget; dsimp only; split <;> omega

theorem sget_range40 (n : Nat) : -549755813888 ≤ sget 40 n ∧ sget 40 n ≤ 549755813887 := by
  unfold sget; dsimp only; split <;> omega

theorem toInt_range16 (a : W16) : -32768 ≤ a.toInt ∧ a.toInt ≤ 32767 := by
  have := a.le_toInt
  have := a.toInt_lt
  omega

theorem toInt_range40 (a : W40) : -549755813888 ≤ a.toInt ∧ a.toInt ≤ 549755813887 := by
  have := a.le_toInt
  have := a.toInt_lt
  omega

theorem toInt_ofInt16 {r : Int} (h : -32768 ≤ r ∧ r ≤ 32767) : (BitVec.ofInt 16 r).toInt = r :=
  BitVec.toInt_ofInt_eq_self (by decide) (by omega) (by omega)

theorem toInt_acc40 {r : Int} (h : -549755813888 ≤ r ∧ r ≤ 549755813887) : (acc40 r).toInt = r :=
  BitVec.toInt_ofInt_eq_self (by decide) (by omega) (by omega)

/-- A clamped value lies where the value, the bounds and the free value lie. -/
theorem clampOpen_range {l u v lo hi fr : Int} (hv : l ≤ v ∧ v ≤ u) (hlo : l ≤ lo ∧ lo ≤ u) (hhi : l ≤ hi ∧ hi ≤ u)
    (hf : l ≤ fr ∧ fr ≤ u) : l ≤ clampOpen v lo hi fr ∧ clampOpen v lo hi fr ≤ u := by
  unfold clampOpen clampI
  split <;> omega

theorem clampOpen_of_le {v lo hi fr : Int} (h : lo ≤ hi) : clampOpen v lo hi fr = max lo (min hi v) := if_pos h

/-- Whether a code differs from the one of a value shows on the whole numbers. -/
theorem bne_toInt {w : Nat} {a b : BitVec w} {r : Int} (h : a.toInt = r) : (r != b.toInt) = decide (a ≠ b) := by
  rw [← h, bne, beq_eq_decide, decide_eq_decide.2 BitVec.toInt_inj, decide_not]

/-- LIMIT: LIM says whether Xd changes, whatever the bounds. -/
theorem acts_limit {s : State} {e : Fin 16} (d xs xt : Fin 16) (h : Runs e s) :
    Acts (.limit e d xs xt) e [d] [] [] s fun x y =>
      ((x.xr xs).toInt ≤ (x.xr xt).toInt → (y.xr d).toInt = max (x.xr xs).toInt (min (x.xr xt).toInt (x.xr d).toInt)) ∧
      SetsFlag x y 4 (decide (y.xr d ≠ x.xr d)) := by
  refine acts_regOpFree _ (congrArg Host.Outcome.next (engExec_runs h _)) (fun x => ((EngineKept.refl x).setX _ (by simp)).setF _) ?_
  generalize s.engine e = x
  have hr := toInt_ofInt16 (clampOpen_range (toInt_range16 (x.xr d)) (toInt_range16 (x.xr xs)) (toInt_range16 (x.xr xt))
    (sget_range16 (s.freeVal 16)))
  rw [xr_next, xr_flag, xr_setX_self, hr, ← bne_toInt hr]
  exact ⟨clampOpen_of_le, setFlag_bits _ flLIM _ (by decide)⟩

/-- LIMA: the same for an accumulator. -/
theorem acts_lima {s : State} {e : Fin 16} (a : Fin 4) (xs xt : Fin 16) (h : Runs e s) :
    Acts (.lima e a xs xt) e [] [a] [] s fun x y =>
      ((x.xr xs).toInt ≤ (x.xr xt).toInt →
        (y.ar a).toInt = max ((x.xr xs).toInt * 2 ^ 16) (min ((x.xr xt).toInt * 2 ^ 16) (x.ar a).toInt)) ∧
      SetsFlag x y 4 (decide (y.ar a ≠ x.ar a)) := by
  refine acts_regOpFree _ (congrArg Host.Outcome.next (engExec_runs h _)) (fun x => ((EngineKept.refl x).setA _ (by simp)).setF _) ?_
  generalize s.engine e = x
  have hs := toInt_range16 (x.xr xs)
  have ht := toInt_range16 (x.xr xt)
  have hr := toInt_acc40 (clampOpen_range (lo := (x.xr xs).toInt * 65536) (hi := (x.xr xt).toInt * 65536)
    (toInt_range40 (x.ar a)) (by omega) (by omega) (sget_range40 (s.freeVal 40)))
  rw [ar_next, ar_flag, ar_setA_self, hr, ← bne_toInt hr]
  exact ⟨fun hle => clampOpen_of_le (by omega), setFlag_bits _ flLIM _ (by decide)⟩

/-! ## Residuals -/

/-- FLAGS after PRESET: LIM and RES as given, SAT left open. -/
theorem presetFlags_bits (fl : BitVec 8) (b3 b4 b5 : Bool) :
    let f := setFlag (setFlag (stickFlag fl flSAT b3) flLIM b4) flRES b5
    f.getLsbD 4 = b4 ∧ f.getLsbD 5 = b5 ∧ ∀ i, i ≠ 3 → i ≠ 4 → i ≠ 5 → f.getLsbD i = fl.getLsbD i := by
  obtain ⟨-, o3⟩ := stickFlag_bits fl flSAT b3 (by decide)
  obtain ⟨h4, o4⟩ := setFlag_bits (stickFlag fl flSAT b3) flLIM b4 (by decide)
  obtain ⟨h5, o5⟩ := setFlag_bits (setFlag (stickFlag fl flSAT b3) flLIM b4) flRES b5 (by decide)
  exact ⟨(o5 4 (by decide)).trans h4, h5, fun i n3 n4 n5 => (o5 i n5).trans ((o4 i n4).trans (o3 i n3))⟩

/-- PRESET: the rounded accumulator clamped, what was cut off, and their flags, whatever the bounds. -/
theorem acts_preset {s : State} {e d : Fin 16} (a : Fin 4) (xs xt : Fin 16) (h : Runs e s) (hd : d.val % 2 = 0) :
    Acts (.preset e d a xs xt) e [d, d + 1] [] [] s fun x y =>
      let q := max (-2 ^ 15) (min (2 ^ 15 - 1) (((x.ar a).toInt + 2 ^ 15) / 2 ^ 16))
      ((x.xr xs).toInt ≤ (x.xr xt).toInt → (y.xr d).toInt = max (x.xr xs).toInt (min (x.xr xt).toInt q)) ∧
      (y.xr (d + 1)).toInt = max (-2 ^ 15) (min (2 ^ 15 - 1) (q - (y.xr d).toInt)) ∧
      y.flags.getLsbD 4 = decide ((y.xr d).toInt ≠ q) ∧ y.flags.getLsbD 5 = decide (y.xr (d + 1) ≠ 0) ∧
      ∀ i, i ≠ 3 → i ≠ 4 → i ≠ 5 → y.flags.getLsbD i = x.flags.getLsbD i := by
  refine acts_regOpFree _ (congrArg Host.Outcome.next ((engExec_runs h _).trans (if_pos (by simp [hd]))))
    (fun x => (((((EngineKept.refl x).setX _ (by simp)).setX _ (by simp)).setF _).setF _).setF _) ?_
  generalize s.engine e = x
  obtain ⟨hq, -⟩ := sat16_spec (roundQ (x.ar a))
  have hq' : max (-2 ^ 15) (min (2 ^ 15 - 1) (((x.ar a).toInt + 2 ^ 15) / 2 ^ 16)) = (sat16 (roundQ (x.ar a))).1.toInt := hq.symm
  dsimp only
  rw [hq']
  generalize sat16 (roundQ (x.ar a)) = q
  have hr := toInt_ofInt16 (clampOpen_range (toInt_range16 q.1) (toInt_range16 (x.xr xs)) (toInt_range16 (x.xr xt))
    (sget_range16 (s.freeVal 16)))
  have hle : (x.xr xs).toInt ≤ (x.xr xt).toInt → clampOpen q.1.toInt (x.xr xs).toInt (x.xr xt).toInt (sget 16 (s.freeVal 16)) = _ :=
    clampOpen_of_le
  generalize clampOpen q.1.toInt (x.xr xs).toInt (x.xr xt).toInt (sget 16 (s.freeVal 16)) = r at hr hle ⊢
  obtain ⟨ht, -⟩ := sat16_spec (q.1.toInt - r)
  obtain ⟨h4, h5, hk⟩ := presetFlags_bits x.flags (q.2 || (sat16 (q.1.toInt - r)).2) (r != q.1.toInt) ((sat16 (q.1.toInt - r)).1 != 0)
  simp only [xr_next, xr_flag, xr_stick, xr_setX_self, xr_setX, if_neg (show ¬(d : Nat) = d + 1 by omega), hr]
  exact ⟨hle, ht, h4.trans (by simp [bne, beq_eq_decide]), h5.trans (by simp [bne, beq_eq_decide]), hk⟩

/-- What SLEW leaves of a value: its distance from zero less the step. -/
theorem slew_value (v : Int) (k : Nat) :
    (if 0 < v then v - min (v.natAbs : Int) k else v + min (v.natAbs : Int) k) = v - v.sign * (min v.natAbs k : Nat) := by
  rw [Nat.cast_min]
  rcases lt_trichotomy v 0 with h | h | h
  · rw [if_neg (by omega), Int.sign_eq_neg_one_of_neg h]; ring
  · subst h; simp
  · rw [if_pos h, Int.sign_eq_one_of_pos h, one_mul]

/-- RES says of a value written whether it is zero. -/
theorem setsFlag_residual (x : Engine) (d : Nat) {r : Int} (hr : (BitVec.ofInt 16 r).toInt = r) :
    let y := ((x.setX d (BitVec.ofInt 16 r)).flag flRES (r != 0)).next
    (y.xr d).toInt = r ∧ SetsFlag x y 5 (decide (y.xr d ≠ 0)) := by
  dsimp only
  rw [xr_next, xr_flag, xr_setX_self, ← bne_toInt (b := 0) hr]
  exact ⟨hr, setFlag_bits _ flRES _ (by decide)⟩

theorem acts_slew {s : State} {e : Fin 16} (d xs : Fin 16) (h : Runs e s) :
    Acts (.slew e d xs) e [d] [] [] s fun x y =>
      (y.xr d).toInt = (x.xr d).toInt - (x.xr d).toInt.sign * (min (x.xr d).toInt.natAbs (x.xr xs).toInt.natAbs : Nat) ∧
      SetsFlag x y 5 (decide (y.xr d ≠ 0)) := by
  refine acts_regOp h rfl (fun x => (((EngineKept.refl x).setX _ (by simp)).setF _).next) fun x => ?_
  have hv := toInt_range16 (x.xr d)
  have hy := setsFlag_residual x d (toInt_ofInt16 (r := if 0 < (x.xr d).toInt
    then (x.xr d).toInt - min ((x.xr d).toInt.natAbs : Int) (x.xr xs).toInt.natAbs
    else (x.xr d).toInt + min ((x.xr d).toInt.natAbs : Int) (x.xr xs).toInt.natAbs) (by split <;> omega))
  exact ⟨hy.1.trans (slew_value ..), hy.2⟩

/-! ## DIVQ -/

theorem divq_kept (d xs xt : Fin 16) (x : Engine) : EngineKept [d] [] [] x.pc x.loops x
    (if x.xr xt = 0 then (x.setX d (if (x.xr xs).msb then 0x8000#16 else 0x7FFF#16)).stick flDZ true
      else (x.setX d (divQ (x.xr xs) (x.xr xt)).1).stick flSAT (divQ (x.xr xs) (x.xr xt)).2) := by
  split
  · exact ((EngineKept.refl x).setX _ (by simp)).setF _
  · exact ((EngineKept.refl x).setX _ (by simp)).setF _

/-- DIVQ of a divisor that is not zero. -/
theorem acts_divq {s : State} {e : Fin 16} (d xs xt : Fin 16) {r : W16 × Bool} (h : Runs e s) (hz : (s.engine e).xr xt ≠ 0)
    (hr : divQ ((s.engine e).xr xs) ((s.engine e).xr xt) = r) :
    Acts (.divq e d xs xt) e [d] [] [] s fun x y => y.xr d = r.1 ∧ y.flags = stickFlag x.flags flSAT r.2 := by
  refine acts_regOpAt h rfl (divq_kept d xs xt) ?_
  dsimp only
  rw [if_neg hz, hr]
  exact ⟨xr_setX_self .., rfl⟩

/-- The exact quotient of a smaller dividend fits its Q15 code. -/
theorem toInt_quotient {n t : W16} (h : n.toInt.natAbs < t.toInt.natAbs) :
    (BitVec.ofInt 16 (Int.tdiv (n.toInt * 32768) t.toInt)).toInt = Int.tdiv (n.toInt * 32768) t.toInt := by
  have hq : (Int.tdiv (n.toInt * 32768) t.toInt).natAbs < 32768 := by
    rw [Int.natAbs_tdiv, Int.natAbs_mul]
    exact Nat.div_lt_of_lt_mul (Nat.mul_lt_mul_of_pos_right h (by decide))
  exact toInt_ofInt16 (by omega)

/-- Where the quotient is out of range the extreme is that of the signs. -/
theorem divq_saturated (n t : W16) :
    (if decide (n.toInt < 0) = decide (t.toInt < 0) then (0x7FFF#16, true) else (0x8000#16, true)) =
      (if n.msb = t.msb then 0x7FFF#16 else 0x8000#16, true) := by
  rw [BitVec.msb_eq_toInt, BitVec.msb_eq_toInt]
  split <;> rfl

theorem acts_divq_zero {s : State} {e : Fin 16} (d xs xt : Fin 16) (h : Runs e s) (hz : (s.engine e).xr xt = 0) :
    Acts (.divq e d xs xt) e [d] [] [] s fun x y =>
      y.xr d = (if (x.xr xs).msb then 0x8000#16 else 0x7FFF#16) ∧ y.flags = stickFlag x.flags flDZ true := by
  refine acts_regOpAt h rfl (divq_kept d xs xt) ?_
  dsimp only
  rw [if_pos hz]
  exact ⟨xr_setX_self .., rfl⟩

/-- A sticky flag whose cause holds is set. -/
theorem setsFlag_of_stick {x y : Engine} {i : Nat} (hi : i < 8) (h : y.flags = stickFlag x.flags i true) : SetsFlag x y i true := by
  obtain ⟨hb, ho⟩ := stickFlag_bits x.flags i true hi
  exact ⟨h ▸ hb.trans (Bool.or_true _), h ▸ ho⟩

/-! ## SCOS -/

/-- The cosine of the angle 0 and the sine of it, within 2 LSB, whatever is chosen within the bound. -/
theorem cosWithin_zero (c : Nat) : 32766 ≤ (cosWithin 0 c).toInt := by
  rw [cosWithin, (sat16_spec _).1, show cosFloor 0 = 32768 from rfl]
  omega

theorem cosWithin_quarter (c : Nat) : -2 ≤ (cosWithin (0 + 49152) c).toInt ∧ (cosWithin (0 + 49152) c).toInt ≤ 2 := by
  rw [cosWithin, (sat16_spec _).1, show cosFloor (0 + 49152) = 0 from rfl]
  omega

/-- Settles O9, instruction by instruction. -/
theorem limitAndResidualResults : Obligations.LimitAndResidualResults := by
  unfold Obligations.LimitAndResidualResults
  intro s e d xs xt a h x
  refine ⟨fun hle => ⟨?_, ?_, fun hd => ?_⟩, fun _ => ⟨?_, ?_, fun hd => ?_⟩, acts_slew d xs h, fun hz hlt => ?_, fun hz heq => ?_,
    fun hz hge hne => ?_, fun hz => ?_, fun hd => ?_⟩
  · exact (acts_limit d xs xt h).imp fun y hy => ⟨hy.1 hle, hy.2⟩
  · exact (acts_lima a xs xt h).imp fun y hy => ⟨hy.1 hle, hy.2⟩
  · refine (acts_preset a xs xt h hd).imp fun y hy => ?_
    obtain ⟨hr, ht, h4, hrest⟩ := hy
    dsimp only
    rw [← hr hle]
    exact ⟨rfl, ht, h4, hrest⟩
  · exact (acts_limit d xs xt h).imp fun y hy => hy.2
  · exact (acts_lima a xs xt h).imp fun y hy => hy.2
  · exact (acts_preset a xs xt h hd).imp fun y hy => hy.2
  · refine (acts_divq d xs xt h hz (if_pos hlt)).imp fun y hy => ?_
    exact ⟨hy.1 ▸ toInt_quotient hlt, hy.2⟩
  · exact acts_divq d xs xt h hz ((if_neg (not_lt.2 (by rw [heq, Int.natAbs_neg]))).trans (if_pos heq))
  · refine (acts_divq d xs xt h hz (((if_neg (not_lt.2 hge)).trans (if_neg hne)).trans (divq_saturated ..))).imp fun y hy => ?_
    exact ⟨hy.1, setsFlag_of_stick (by decide) hy.2⟩
  · exact (acts_divq_zero d xs xt h hz).imp fun y hy => ⟨hy.1, setsFlag_of_stick (by decide) hy.2⟩
  · refine acts_regOpFree _ (congrArg Host.Outcome.next ((engExec_runs h _).trans (if_pos (by simp [hd]))))
      (fun x => ((EngineKept.refl x).setX _ (by simp)).setX _ (by simp)) ?_
    rw [flags_next, flags_setX, flags_setX]
    refine ⟨rfl, fun hz => ?_⟩
    have hzero : ((s.engine e).xr xs).toNat = 0 := by rw [show (s.engine e).xr xs = 0 from hz]; rfl
    rw [xr_next, xr_next, xr_setX_self, xr_setX, if_neg (by omega), xr_setX_self, hzero]
    exact ⟨cosWithin_zero _, cosWithin_quarter _⟩

end Sys2Proof
end

section
/-!
SUPPORT. The instructions of the flow, and the traps of reserved operands and illegal words (05, R127, R128, R143).
-/

namespace Sys2Proof

open Machine

section

variable {c : Instr} {e : Nat} {s : State}

/-- What an instruction comes to where its engine runs. -/
theorem completes_runs {p : State → Prop} {act : State → State} (h : Runs e s) (hx : exec c s = .next (engExec e act s))
    (hp : p (act s)) : Completes c s p :=
  ⟨_, hx.trans (congrArg Host.Outcome.next (engExec_runs h act)), hp⟩

theorem needs_true {b : Bool} (hb : b = true) (act : State → State) : needs e b act s = act s := if_pos hb
theorem needs_false {b : Bool} (hb : b = false) (act : State → State) : needs e b act s = engTrap e 2 s := if_neg (by simp [hb])

theorem traps_runs {code : Nat} {act : State → State} (h : Runs e s) (hx : exec c s = .next (engExec e act s))
    (ha : act s = engTrap e code s) : Traps c e code s :=
  completes_runs h hx (by rw [ha]; exact engTrap_spec e code s)

/-- An instruction with a reserved operand traps (R127). -/
theorem traps_needs {b : Bool} {act : State → State} (h : Runs e s) (hx : exec c s = .next (engExec e (needs e b act) s))
    (hb : b = false) : Traps c e 2 s := traps_runs h hx (needs_false hb act)

end

theorem shiftIn_false {sh : BitVec 8} {lo hi : Int} (h : sh.toInt < lo ∨ hi < sh.toInt) : shiftIn sh lo hi = false := by
  unfold shiftIn
  simp only [Bool.and_eq_false_iff, decide_eq_false_iff_not]
  omega

/-! ## Program flow (R128) -/

/-- Settles O16: where each instruction goes on, and its traps. -/
theorem programFlow : Obligations.ProgramFlow := by
  unfold Obligations.ProgramFlow
  intro s e c n g h x kept
  refine ⟨fun hc hh => ?_, fun hc hh => ?_, fun hl => ?_, fun r l hl => ?_, fun hg hn hne hl => ?_, fun hg hz => ?_, ?_, fun hl => ?_,
    fun hl => ?_, fun hg => ?_, fun hg hn hne hl => ?_⟩
  · exact completes_runs h rfl ((needs_true (decide_eq_true hc) _).trans (congrArg (s.setEngine e) (if_pos hh)))
  · exact completes_runs h rfl ((needs_true (decide_eq_true hc) _).trans (congrArg (s.setEngine e) (if_neg (by rw [hh]; decide))))
  · exact completes_runs h rfl (if_pos hl)
  · refine completes_runs h rfl ?_
    rw [show (s.engine e).calls = r :: l from hl]
    rfl
  · exact completes_runs h rfl ((if_neg (BitVec.not_le.2 hg)).trans ((if_neg (by rintro (rfl | he); exacts [hn rfl, hne he])).trans (if_pos hl)))
  · exact completes_runs h rfl ((if_neg (BitVec.not_le.2 hg)).trans (if_pos hz))
  · exact completes_runs h rfl rfl
  · exact traps_runs h rfl (if_neg (not_lt.2 hl))
  · refine traps_runs h rfl ?_
    rw [show (s.engine e).calls = [] from hl]
  · exact traps_runs h rfl (if_pos hg)
  · exact traps_runs h rfl ((if_neg (BitVec.not_le.2 hg)).trans
      ((if_neg (by rintro (rfl | he); exacts [hn rfl, hne he])).trans (if_neg (not_lt.2 hl))))

/-! ## Traps (R127, R143) -/

/-- Settles O17: each trap is that of its reserved operand, and the words are decoded field by field. -/
theorem engineTraps : Obligations.EngineTraps := by
  unfold Obligations.EngineTraps
  intro s e d xs xt a p m r n i c g w h
  refine ⟨fun hn => traps_runs h rfl (congrArg (engTrap e · s) (if_pos hn)), fun k hk => ?_, by decide, fun hd => ?_, fun hn => ?_,
    fun hn => traps_needs h rfl (shiftIn_false hn), fun hn => traps_needs h rfl (shiftIn_false hn), fun hn => ?_,
    fun hi => traps_needs h rfl (decide_eq_false (not_lt.2 hi)), fun hi => traps_needs h rfl (decide_eq_false (not_le.2 hi)),
    fun hc => traps_needs h rfl (decide_eq_false (not_le.2 hc)), fun hc => traps_needs h rfl ?_, fun hw => if_pos hw,
    rfl, rfl, rfl, rfl, rfl, rfl, rfl⟩
  · refine traps_runs (act := engTrap e k) h ?_ rfl
    show execIllegalInstruction e w s = _
    unfold execIllegalInstruction
    rw [hk]
  · have hodd : (d.1 % 2 == 0) = false := by simp [hd]
    have hpair (f : State → State) : pairD e d f s = engExec e (engTrap e 2) s := if_neg (by omega)
    exact ⟨traps_runs h (congrArg Host.Outcome.next (hpair _)) rfl, traps_runs h (congrArg Host.Outcome.next (hpair _)) rfl,
      traps_needs h rfl hodd, traps_needs h rfl hodd, traps_needs h rfl hodd, traps_needs h rfl hodd, traps_needs h rfl hodd,
      traps_needs h rfl hodd⟩
  · have hout : decide (n.toNat ≤ 16) = false := decide_eq_false (not_le.2 hn)
    exact ⟨traps_needs h rfl hout, traps_needs h rfl hout, traps_needs h rfl hout, traps_needs h rfl hout⟩
  · exact ⟨traps_needs h rfl (shiftIn_false hn), traps_needs h rfl (shiftIn_false hn)⟩
  · rcases hc with hc | hc
    · simp [hc]
    · simp [not_le.2 hc]

end Sys2Proof
end

section
/-!
SUPPORT. The instructions that read words: of an engine's data SRAM and of its ports (05, R125, R130, R144).
-/

namespace Sys2Proof

open Machine

/-! ## Post-modification (R125) -/

section

variable (m : AddrMode) (x : Engine)

@[simp] theorem xr_postMod (i : Nat) : (x.postMod m).xr i = x.xr i := by cases m <;> rfl
@[simp] theorem ar_postMod (i : Nat) : (x.postMod m).ar i = x.ar i := by cases m <;> rfl
@[simp] theorem kr_postMod (i : Nat) : (x.postMod m).kr i = x.kr i := by cases m <;> rfl
@[simp] theorem flags_postMod : (x.postMod m).flags = x.flags := by cases m <;> rfl
@[simp] theorem pc_postMod : (x.postMod m).pc = x.pc := by cases m <;> rfl
@[simp] theorem loops_postMod : (x.postMod m).loops = x.loops := by cases m <;> rfl

variable {m x}

/-- The post-modification depends on the address registers alone. -/
theorem pr_postMod_congr {y : Engine} (h : ∀ p, y.pr p = x.pr p ∧ y.kr p = x.kr p) (p : Nat) : (y.postMod m).pr p = (x.postMod m).pr p := by
  cases m with
  | absolute _ | indexed _ _ => exact (h p).1
  | postModified q off =>
    show (y.setP q _).pr p = (x.setP q _).pr p
    rw [pr_setP, pr_setP, (h q).1, (h q).2, (h p).1]

/-- The mode moves at most its own address register. -/
theorem EngineKept.postMod {xs as ps : List Nat} {pc : BitVec 13} {loops : List LoopLevel} {y : Engine}
    (h : EngineKept xs as ps pc loops x y) (hm : ∀ p ∈ m.moves, p ∈ ps) : EngineKept xs as ps pc loops x (y.postMod m) := by
  cases m with
  | absolute _ | indexed _ _ => exact h
  | postModified q off => exact h.setP _ (hm q (by simp [AddrMode.moves]))

end

/-! ## Data words (R125, R144) -/

/-- What a correction of engine SRAM leaves of its engine. -/
theorem sramCe_engine (e a : Nat) (s : State) : (sramCe e a s).engine e = { s.engine e with eccNow := true } := by
  have h : Keeps 12 s (((countCe a s).bump (Reg.ENG_ECC_CORR e)).setFlag (Reg.ENG_STATUS e) F.ENG_STATUS_ECC_CORRECTED true) :=
    Keeps.step (State.setFlag_keeps ..) (by decide) (Keeps.step (State.bump_keeps ..) (by decide) (countCe_keeps a s))
  refine (engine_setEngine ..).trans ?_
  rw [Keeps.engine h rfl]

/-- Reading words at data addresses: the words, and of the engine at most the mark of a correction. -/
theorem dataWords_read (e : Nat) (l : List (BitVec 14)) (s : State) (h : ∀ a ∈ l, s.eccAt (dataAddr e a.toNat) ≤ 1) :
    (dataWords e l s).1 = some (l.map fun a => BitVec.ofNat 16 (s.load 2 (dataAddr e a.toNat))) ∧
      ∃ b, (dataWords e l s).2.engine e = { s.engine e with eccNow := b } := by
  induction l generalizing s with
  | nil => exact ⟨rfl, (s.engine e).eccNow, rfl⟩
  | cons a t ih =>
    have ha := h a (by simp)
    have hk : Keeps 76 s (if s.eccAt (dataAddr e a.toNat) = 1 then sramCe e (dataAddr e a.toNat) s else s) :=
      Keeps.ite (Keeps.refl _ s) fun _ => sramCe_keeps ..
    have he : ∃ b, (if s.eccAt (dataAddr e a.toNat) = 1 then sramCe e (dataAddr e a.toNat) s else s).engine e =
        { s.engine e with eccNow := b } := by
      split
      · exact ⟨true, sramCe_engine ..⟩
      · exact ⟨(s.engine e).eccNow, rfl⟩
    have hstep : dataWords e (a :: t) s = (let r := dataWords e t (if s.eccAt (dataAddr e a.toNat) = 1 then sramCe e (dataAddr e a.toNat) s
        else s); (r.1.map (BitVec.ofNat 16 (s.load 2 (dataAddr e a.toNat)) :: ·), r.2)) := by
      rw [dataWords]
      have : s.eccAt (dataAddr e a.toNat) = 0 ∨ s.eccAt (dataAddr e a.toNat) = 1 := by omega
      rcases this with hz | hz <;> · rw [hz]; rfl
    generalize (if s.eccAt (dataAddr e a.toNat) = 1 then sramCe e (dataAddr e a.toNat) s else s) = u at hk he hstep
    have hecc (b : Nat) : u.eccAt b = s.eccAt b := congrArg (fun x : Mem => tabGet 0 x.ecc b) (hk.parts .memo (by decide))
    have hload (b : Nat) : u.load 2 b = s.load 2 b := congrArg (fun x => ofBytes (memRead 2 x b)) (hk.parts .mem (by decide))
    obtain ⟨hw, b, hb⟩ := ih u fun b hb => by rw [hecc]; exact h b (List.mem_cons_of_mem _ hb)
    obtain ⟨b', hb'⟩ := he
    rw [hstep]
    exact ⟨by simp only [hw, hload, Option.map_some, List.map_cons], b, by rw [hb, hb']⟩

theorem dataWords_sound (e : Nat) (l : List (BitVec 14)) (s : State) (h : ∀ a ∈ l, s.eccAt (dataAddr e a.toNat) = 0) :
    (dataWords e l s).2 = s := by
  induction l with
  | nil => rfl
  | cons a t ih =>
    rw [dataWords, h a (by simp)]
    exact ih fun b hb => h b (List.mem_cons_of_mem _ hb)

/-- The words that an address mode names. -/
def dataRead (e : Nat) (m : AddrMode) (s : State) (j : Nat) : W16 := BitVec.ofNat 16 (s.load 2 (dataAddr e ((s.engine e).addr m j).toNat))

section

variable {c : Instr} {e : Fin 16} {m : AddrMode} {n : Nat} {f : List W16 → Engine → Engine} {s : State} {xs as : List Nat}

/-- An instruction that reads words without an uncorrectable error goes on with them. -/
theorem withWords_reads (h : Runs e s) (hs : ∀ j, j < n → s.eccAt (dataAddr e ((s.engine e).addr m j).toNat) ≤ 1) :
    ∃ u b, withWords e m n f s = engSet e (fun x => ((f ((List.range n).map (dataRead e m s)) x).postMod m).next) u ∧ Keeps 76 s u ∧
      u.engine e = { s.engine e with eccNow := b } ∧
        ((∀ j, j < n → s.eccAt (dataAddr e ((s.engine e).addr m j).toNat) = 0) → u = s) := by
  obtain ⟨hw, b, hb⟩ := dataWords_read e ((List.range n).map ((s.engine e).addr m)) s fun a ha => by
    obtain ⟨j, hj, rfl⟩ := List.mem_map.1 ha
    exact hs j (List.mem_range.1 hj)
  refine ⟨_, b, ?_, dataWords_keeps e ((List.range n).map ((s.engine e).addr m)) s, hb, fun h0 => dataWords_sound _ _ _ fun a ha => ?_⟩
  · rw [List.map_map] at hw
    refine (engExec_runs h _).trans ?_
    dsimp only
    rw [hw]
    rfl
  · obtain ⟨j, hj, rfl⟩ := List.mem_map.1 ha
    exact h0 j (List.mem_range.1 hj)

/-- What an instruction that reads words does to its engine: `f` writes registers only, then the address register moves. -/
theorem completes_reads {q : Engine → Prop} (h : Runs e s) (hx : exec c s = .next (withWords e m n f s))
    (hf : ∀ l (y : Engine), EngineKept xs as [] y.pc y.loops y (f l y) ∧ (f l y).flags = y.flags)
    (hs : ∀ j, j < n → s.eccAt (dataAddr e ((s.engine e).addr m j).toNat) ≤ 1)
    (hq : ∀ b, q (((f ((List.range n).map (dataRead e m s)) { s.engine e with eccNow := b }).postMod m).next)) :
    Completes c s fun t => PartsKept [.free, .regs, .engines] s t ∧ (∀ i, i ∉ xs → (t.engine e).xr i = (s.engine e).xr i) ∧
      (∀ i, i ∉ as → (t.engine e).ar i = (s.engine e).ar i) ∧ (t.engine e).pc = (s.engine e).next.pc ∧
      ((t.engine e).flags = (s.engine e).flags ∧
        ∀ p, (t.engine e).pr p = ((s.engine e).postMod m).pr p ∧ (t.engine e).kr p = (s.engine e).kr p) ∧ q (t.engine e) := by
  obtain ⟨u, b, ht, hk, hu, -⟩ := withWords_reads (f := f) h hs
  obtain ⟨hy, hfl⟩ := hf ((List.range n).map (dataRead e m s)) { s.engine e with eccNow := b }
  have hp (p : Nat) := hy.pr p (by simp)
  have hrest := hy.rest
  refine ⟨_, hx.trans (congrArg Host.Outcome.next ht), ?_⟩
  have he : (engSet e (fun x => ((f ((List.range n).map (dataRead e m s)) x).postMod m).next) u).engine e = _ := engine_setEngine ..
  rw [hu] at he
  dsimp only
  rw [he]
  refine ⟨(Keeps.step (engSet_keeps ..) (by decide) hk).partsKept_of (by decide), fun i hi => ?_, fun i hi => ?_, ?_, ⟨?_, fun p => ⟨?_, ?_⟩⟩,
    hq b⟩
  · rw [xr_next, xr_postMod]; exact hy.xr i hi
  · rw [ar_next, ar_postMod]; exact hy.ar i hi
  · show (loopEnd _ _).1 = _
    rw [pc_postMod, loops_postMod, hrest]; rfl
  · rw [flags_next, flags_postMod]; exact hfl
  · rw [pr_next]; exact pr_postMod_congr (x := s.engine e) hp p
  · rw [kr_next, kr_postMod]; exact (hp p).2

/-- The same where no word holds an error: nothing but the engine changes. -/
theorem acts_reads {q : Engine → Engine → Prop} (h : Runs e s) (hx : exec c s = .next (withWords e m n f s))
    (hf : ∀ ps l (y : Engine), EngineKept xs as ps y.pc y.loops y (f l y) ∧ (f l y).flags = y.flags)
    (hs : ∀ j, j < n → s.eccAt (dataAddr e ((s.engine e).addr m j).toNat) = 0)
    (hq : q (s.engine e) (((f ((List.range n).map (dataRead e m s)) (s.engine e)).postMod m).next)) :
    Acts c e xs as m.moves s fun x y => q x y ∧ y.flags = x.flags ∧ ∀ p, y.pr p = (x.postMod m).pr p ∧ y.kr p = x.kr p := by
  obtain ⟨u, b, ht, -, -, h0⟩ := withWords_reads (f := f) h fun j hj => by rw [hs j hj]; omega
  rw [h0 hs] at ht
  obtain ⟨hy, hfl⟩ := hf [] ((List.range n).map (dataRead e m s)) (s.engine e)
  have hp (p : Nat) := hy.pr p (by simp)
  refine acts_regOpFree s.free (hx.trans (congrArg Host.Outcome.next ht))
    (fun x => (hf m.moves ((List.range n).map (dataRead e m s)) x).1.postMod fun _ => id) ⟨hq, ?_, fun p => ⟨?_, ?_⟩⟩
  · rw [flags_next, flags_postMod]; exact hfl
  · rw [pr_next]; exact pr_postMod_congr hp p
  · rw [kr_next, kr_postMod]; exact (hp p).2

end

theorem listGet_words {n : Nat} (g : Nat → W16) {j : Nat} (hj : j < n) : listGet 0 ((List.range n).map g) j = g j := by
  simp [listGet, hj]

/-! ## What each load writes (Table 5-4) -/

/-- Xd and X(d+1) hold two words. -/
def PairOfWords (d : Nat) (w : Nat → W16) (y : Engine) : Prop := y.xr d = w 0 ∧ y.xr (d + 1) = w 1

/-- An accumulator holds three words, bits [39:32] in the low byte of the third. -/
def AccOfWords (a : Nat) (w : Nat → W16) (y : Engine) : Prop :=
  (y.ar a).toNat = (w 2).toNat % 2 ^ 8 * 2 ^ 32 + (w 1).toNat * 2 ^ 16 + (w 0).toNat

/-- An accumulator holds what it did in `x`, plus the product of Xd and a word. -/
def AccPlusProduct (a d : Nat) (x : Engine) (w : Nat → W16) (y : Engine) : Prop :=
  y.ar a = BitVec.ofInt 40 ((x.ar a).toInt + 2 * (x.xr d).toInt * (w 0).toInt)

section

variable (d a : Nat) (m : AddrMode) (w : Nat → W16) (y : Engine)

theorem ld_word : (((y.setX d (listGet 0 ((List.range 1).map w) 0)).postMod m).next).xr d = w 0 := by
  rw [xr_next, xr_postMod, xr_setX_self, listGet_words _ (by decide)]

theorem ldd_words : PairOfWords d w
    (((y.setX d (listGet 0 ((List.range 2).map w) 0)).setX (d + 1) (listGet 0 ((List.range 2).map w) 1)).postMod m).next := by
  unfold PairOfWords
  rw [xr_next, xr_next, xr_postMod, xr_postMod, xr_setX, if_neg (by omega), xr_setX_self, xr_setX_self, listGet_words _ (by decide),
    listGet_words _ (by decide)]
  exact ⟨rfl, rfl⟩

theorem ldacc_words : AccOfWords a w ((y.setA a (accOf (listGet 0 ((List.range 3).map w) 0) (listGet 0 ((List.range 3).map w) 1)
    ((listGet 0 ((List.range 3).map w) 2).setWidth 8))).postMod m).next := by
  unfold AccOfWords
  rw [ar_next, ar_postMod, ar_setA_self, listGet_words _ (by decide), listGet_words _ (by decide), listGet_words _ (by decide), toNat_accOf,
    BitVec.toNat_setWidth]

theorem macm_word {x : Engine} (hd : y.xr d = x.xr d) (ha : y.ar a = x.ar a) : AccPlusProduct a d x w
    ((y.setA a (acc40 ((y.ar a).toInt + mulQ (y.xr d) (listGet 0 ((List.range 1).map w) 0)))).postMod m).next := by
  unfold AccPlusProduct
  rw [ar_next, ar_postMod, ar_setA_self, listGet_words _ (by decide), hd, ha]
  rfl

variable (l : List W16) (ps : List Nat)

theorem ld_kept : EngineKept [d] [] ps y.pc y.loops y (y.setX d (listGet 0 l 0)) ∧ (y.setX d (listGet 0 l 0)).flags = y.flags :=
  ⟨(EngineKept.refl y).setX _ (by simp), rfl⟩

theorem ldd_kept : EngineKept [d, d + 1] [] ps y.pc y.loops y ((y.setX d (listGet 0 l 0)).setX (d + 1) (listGet 0 l 1)) ∧
    ((y.setX d (listGet 0 l 0)).setX (d + 1) (listGet 0 l 1)).flags = y.flags :=
  ⟨((EngineKept.refl y).setX _ (by simp)).setX _ (by simp), rfl⟩

theorem setA_kept (v : W40) : EngineKept [] [a] ps y.pc y.loops y (y.setA a v) ∧ (y.setA a v).flags = y.flags :=
  ⟨(EngineKept.refl y).setA _ (by simp), rfl⟩

end

/-- Settles O11: each load takes its words, first with corrections, then where no word holds an error. -/
theorem dataLoadResults : Obligations.DataLoadResults := by
  unfold Obligations.DataLoadResults
  intro s e d a m h x w sound moved reads
  have hpair (hd : d.val % 2 = 0) : exec (.ldd e d m) s = .next (withWords e m 2
      (fun l x => (x.setX d (listGet 0 l 0)).setX (d + 1) (listGet 0 l 1)) s) := congrArg Host.Outcome.next (if_pos hd)
  refine ⟨?_, fun hd => ?_, ?_, ?_, fun hs => ?_, fun hs hd => ?_, fun hs => ?_, fun hs => ?_⟩
  · exact fun hs => completes_reads (q := fun y => y.xr d = w 0) h rfl (fun l y => ld_kept d y l []) hs fun _ => ld_word d m w _
  · exact fun hs => completes_reads (q := PairOfWords d w) h (hpair hd) (fun l y => ldd_kept d y l []) hs fun _ => ldd_words d m w _
  · exact fun hs => completes_reads (q := AccOfWords a w) h rfl (fun l y => setA_kept a y [] _) hs fun _ => ldacc_words a m w _
  · exact fun hs => completes_reads (q := AccPlusProduct a d x w) h rfl (fun l y => setA_kept a y [] _) hs fun _ => macm_word d a m w _ rfl rfl
  · exact acts_reads (q := fun _ y => y.xr d = w 0) h rfl (fun ps l y => ld_kept d y l ps) hs (ld_word d m w _)
  · exact (acts_reads (q := fun _ => PairOfWords d w) h (hpair hd) (fun ps l y => ldd_kept d y l ps) hs (ldd_words d m w _)).imp fun y hy =>
      ⟨hy.1.1, hy.1.2, hy.2⟩
  · exact acts_reads (q := fun _ => AccOfWords a w) h rfl (fun ps l y => setA_kept a y ps _) hs (ldacc_words a m w _)
  · exact acts_reads (q := fun x => AccPlusProduct a d x w) h rfl (fun ps l y => setA_kept a y ps _) hs (macm_word d a m w _ rfl rfl)

end Sys2Proof
end

section
/-!
SUPPORT. The engines' ports: the words that IN, INH, IND and INW take, and the two queues of port writes (05, R130).
-/

namespace Sys2Proof

open Machine

/-! ## Reading a port -/

section

variable {e p : Nat} {s : State} {v : W32} {f : W32 → Engine → Engine}

/-- Reading a port changes of the engines at most the latched half of the time (port 0x600). -/
theorem portRead_engine (e p : Nat) (s : State) : (∃ hi, (portRead e p s).2.engine e = { s.engine e with timeHi := hi }) ∧
    ∀ j, j ≠ e → (portRead e p s).2.engine j = s.engine j := by
  have hsame {u : State} (hu : u.engines = s.engines) :
      (∃ hi, u.engine e = { s.engine e with timeHi := hi }) ∧ ∀ j, j ≠ e → u.engine j = s.engine j :=
    ⟨⟨(s.engine e).timeHi, engine_of_engines hu e⟩, fun j _ => engine_of_engines hu j⟩
  have hecc : (s.eccCheck 4 (fabricAddr p)).2.engines = s.engines := (s.eccCheck_keeps 4 (fabricAddr p)).parts .engines (by decide)
  unfold portRead
  split
  · exact hsame rfl
  · split
    · split
      · exact hsame rfl
      · dsimp only
        split
        · exact hsame hecc
        · exact hsame hecc
    · dsimp only
      split
      · exact ⟨⟨_, engine_setEngine ..⟩, fun j hj => engine_setEngine_other _ _ hj⟩
      · exact hsame rfl

theorem withPort_some (hv : (portRead e p s).1 = some v) : withPort e p f s = engSet e (fun x => (f v x).next) (portRead e p s).2 := by
  unfold withPort; dsimp only; rw [hv]

theorem withPort_none (hv : (portRead e p s).1 = none) : withPort e p f s = engTrap e 4 (portRead e p s).2 := by
  unfold withPort; dsimp only; rw [hv]

/-- An instruction that takes a port word into X registers and goes on. -/
theorem completes_takes {c : Instr} {u : State} {xs : List Nat} {q : Engine → Prop} (hx : exec c s = .next (withPort e p f u))
    (hk : Keeps 1 s u) (hv : (portRead e p u).1 = some v)
    (hf : ∀ hi, let x : Engine := { s.engine e with timeHi := hi }; (∀ i, i ∉ xs → (f v x).xr i = x.xr i) ∧
      f v x = { x with x := (f v x).x, wait := .none } ∧ q (f v x).next) :
    Completes c s fun t => PartsKept [.engines, .free, .regs, .now] s t ∧ (∀ j, j ≠ e → t.engine j = s.engine j) ∧
      (∀ i, i ∉ xs → (t.engine e).xr i = (s.engine e).xr i) ∧ (t.engine e).a = (s.engine e).a ∧ (t.engine e).p = (s.engine e).p ∧
      (t.engine e).flags = (s.engine e).flags ∧ (t.engine e).pc = (s.engine e).next.pc ∧ (t.engine e).wait = Wait.none ∧ q (t.engine e) := by
  obtain ⟨⟨hi, hme⟩, hother⟩ := portRead_engine e p u
  rw [Keeps.engine hk rfl] at hme
  obtain ⟨hxr, hrest, hq⟩ := hf hi
  generalize hy : ({ s.engine e with timeHi := hi } : Engine) = y at hme hxr hrest hq
  have he : (engSet e (fun x => (f v x).next) (portRead e p u).2).engine e = _ := engine_setEngine ..
  rw [hme] at he
  refine ⟨_, hx.trans (congrArg Host.Outcome.next (withPort_some hv)), ?_⟩
  dsimp only
  rw [he]
  refine ⟨(Keeps.step (engSet_keeps ..) (by decide) (Keeps.step (portRead_keeps ..) (by decide) (hk.mono (g := 77) (by decide)))).partsKept_of
      (by decide), fun j hj => ?_, fun i hi => (hxr i hi).trans (hy ▸ rfl), (congrArg Engine.a hrest).trans (hy ▸ rfl),
      (congrArg Engine.p hrest).trans (hy ▸ rfl), (congrArg Engine.flags hrest).trans (hy ▸ rfl), ?_, congrArg Engine.wait hrest, hq⟩
  · exact (engine_setEngine_other _ _ hj).trans ((hother j hj).trans (Keeps.engine hk rfl j))
  · show (loopEnd (f v y).loops ((f v y).pc + 1)).1 = _
    rw [congrArg Engine.loops hrest, congrArg Engine.pc hrest, ← hy]
    rfl

end

/-! ## Halves of a word -/

theorem toNat_lowHalf (v : W32) : (v.setWidth 16).toNat = v.toNat % 2 ^ 16 := BitVec.toNat_setWidth ..

theorem toNat_highHalf (v : W32) : ((v >>> 16).setWidth 16).toNat = v.toNat / 2 ^ 16 := by
  rw [BitVec.toNat_setWidth, BitVec.toNat_ushiftRight, Nat.shiftRight_eq_div_pow]
  have := v.isLt
  omega

/-- Xd and X(d+1) hold the two halves of a word. -/
def HalvesOf (d : Nat) (v : W32) (y : Engine) : Prop := (y.xr d).toNat = v.toNat % 2 ^ 16 ∧ (y.xr (d + 1)).toNat = v.toNat / 2 ^ 16

/-- What taking a word into a pair of X registers leaves. -/
theorem setPair_spec (d : Nat) (v : W32) (x : Engine) : (∀ i, i ∉ [d, d + 1] → (x.setPair d v).xr i = x.xr i) ∧
    x.setPair d v = { x with x := (x.setPair d v).x } ∧ HalvesOf d v (x.setPair d v).next := by
  unfold HalvesOf Engine.setPair
  refine ⟨fun i hi => ?_, rfl, ?_⟩
  · simp only [List.mem_cons, List.not_mem_nil, or_false, not_or] at hi
    rw [xr_setX, if_neg hi.2, xr_setX, if_neg hi.1]
  · rw [xr_next, xr_next, xr_setX, if_neg (by omega), xr_setX_self, xr_setX_self]
    exact ⟨toNat_lowHalf v, toNat_highHalf v⟩

theorem setX_frame (d : Nat) (v : W16) (x : Engine) (i : Nat) (hi : i ∉ [d]) : (x.setX d v).xr i = x.xr i := by
  rw [xr_setX, if_neg (by simpa using hi)]

theorem evenD_runs {e d : Fin 16} {s : State} (h : Runs e s) (hd : d.val % 2 = 0) (act : State → State) : evenD e d act s = act s :=
  (engExec_runs h _).trans (if_pos (by simp [hd]))

/-- Settles O13: each takes the halves that it names of the word read. -/
theorem portReadResults : Obligations.PortReadResults := by
  unfold Obligations.PortReadResults
  intro s e d r v x p takes
  refine ⟨fun h hv => ⟨?_, ?_, fun hd => ⟨?_, fun hready => ?_⟩⟩, fun h hd hready => ?_, fun n q hw hd hready hv => ?_, fun h hv => ?_⟩
  · refine completes_takes (q := fun y => (y.xr d).toNat = v.toNat % 2 ^ 16) (congrArg Host.Outcome.next (engExec_runs h _)) (Keeps.refl _ s) hv
      fun hi => ⟨setX_frame d _ _, ?_, ?_⟩
    · rw [← h.2.1]; rfl
    · rw [xr_next, xr_setX_self, toNat_lowHalf]
  · refine completes_takes (q := fun y => (y.xr d).toNat = v.toNat / 2 ^ 16) (congrArg Host.Outcome.next (engExec_runs h _)) (Keeps.refl _ s) hv
      fun hi => ⟨setX_frame d _ _, ?_, ?_⟩
    · rw [← h.2.1]; rfl
    · rw [xr_next, xr_setX_self, toNat_highHalf]
  · refine completes_takes (q := HalvesOf d v) (congrArg Host.Outcome.next (evenD_runs h hd _)) (Keeps.refl _ s) hv fun hi => ?_
    obtain ⟨hfr, hrest, hval⟩ := setPair_spec d v { s.engine e with timeHi := hi }
    refine ⟨hfr, ?_, hval⟩
    rw [← h.2.1]; exact hrest
  · refine completes_takes (q := HalvesOf d v) (congrArg Host.Outcome.next ((evenD_runs h hd _).trans (if_pos hready))) (Keeps.refl _ s) hv
      fun hi => setPair_spec d v { s.engine e with timeHi := hi, wait := .none }
  · exact ⟨_, congrArg Host.Outcome.next ((evenD_runs h hd _).trans (if_neg (by rw [hready]; decide))), rfl⟩
  · have hx : exec (.inwComplete e n) s = .next (inwTake e d q (s.advance n)) := by
      show execInwComplete e n s = _
      unfold execInwComplete
      rw [show (s.engine e).wait = _ from hw]
      exact if_pos hready
    exact completes_takes (q := HalvesOf d v) hx (State.advance_keeps s n) hv
      fun hi => setPair_spec d v { s.engine e with timeHi := hi, wait := .none }
  · refine completes_runs h rfl ?_
    rw [withPort_none hv]
    exact (engTrap_spec ..).1

/-! ## The queues of port writes (R130) -/

/-- A write that its port takes enters the queue of its kind of port, and the engine goes on. -/
theorem portWrite_enters {e p : Nat} {v : W32} {s : State} (hv : s.writeTrap e p v = 0)
    (hroom : if isFabric p then (s.engine e).fabQ.length < 8 else (s.engine e).timedQ.length < 8) :
    ∃ y, portWrite e p v s = s.setEngine e y ∧ if isFabric p then y = { (s.engine e).next with fabQ := (s.engine e).fabQ ++ [⟨p, v.toNat⟩] }
      else y = { (s.engine e).next with timedQ := (s.engine e).timedQ ++ [⟨p, v.toNat⟩] } := by
  unfold portWrite
  rw [hv]
  dsimp only
  split at hroom
  · next hf => exact ⟨_, (if_pos hf).trans (if_pos hroom), by rw [if_pos hf]; rfl⟩
  · next hf => exact ⟨_, (if_neg hf).trans (if_pos hroom), by rw [if_neg hf]; rfl⟩

/-- Where its queue is full the engine waits with the write. -/
theorem portWrite_waits {e p : Nat} {v : W32} {s : State} (hv : s.writeTrap e p v = 0)
    (hroom : ¬if isFabric p then (s.engine e).fabQ.length < 8 else (s.engine e).timedQ.length < 8) :
    portWrite e p v s = s.setEngine e { s.engine e with wait := .room ⟨p, v.toNat⟩ } := by
  unfold portWrite
  rw [hv]
  dsimp only
  split at hroom
  · next hf => exact (if_pos hf).trans (if_neg hroom)
  · next hf => exact (if_neg hf).trans (if_neg hroom)

/-- PORT_QUEUE_ROOM: the waiting write enters, and the engine goes on. -/
theorem completes_portQueueRoom {e : Fin 16} {n : Instant} {s : State} {w : PortWrite} (hw : (s.engine e).wait = .room w)
    (hroom : (if isFabric w.port then (s.engine e).fabQ.length else (s.engine e).timedQ.length) < 8) (y : Engine)
    (hy : ({ (if isFabric w.port then { s.engine e with fabQ := (s.engine e).fabQ ++ [w] }
      else { s.engine e with timedQ := (s.engine e).timedQ ++ [w] }) with wait := .none } : Engine).next = y) :
    Completes (.portQueueRoom e n) s fun t => t.engine e = y ∧ t = (s.advance n).setEngine e (t.engine e) := by
  refine ⟨(s.advance n).setEngine e y, ?_, ?_⟩
  · show execPortQueueRoom e n s = _
    unfold execPortQueueRoom
    dsimp only
    split
    · next v hv =>
      obtain rfl := Wait.room.inj (hv.symm.trans hw)
      exact (if_pos hroom).trans (by rw [← hy])
    · next hne => exact absurd hw (hne w)
  · have hset : ((s.advance n).setEngine e y).engine e = y := engine_setEngine ..
    exact ⟨hset, congrArg ((s.advance n).setEngine e) hset.symm⟩

/-- Settles O14: the three writes are one, of different words. -/
theorem portWriteQueues : Obligations.PortWriteQueues := by
  unfold Obligations.PortWriteQueues
  intro s e d a r x p entered room queues
  have hq {c : Instr} {v : W32} (hx : exec c s = .next (portWrite e p v s)) : queues c v := by
    refine fun hv => ⟨fun hroom => ?_, fun hroom => ?_⟩
    · obtain ⟨y, hy, hent⟩ := portWrite_enters hv hroom
      refine ⟨_, hx.trans (congrArg Host.Outcome.next hy), onlyEngine_setEngine .., ?_⟩
      rw [engine_setEngine]; exact hent
    · refine ⟨_, hx.trans (congrArg Host.Outcome.next (portWrite_waits hv hroom)), onlyEngine_setEngine .., ?_⟩
      exact engine_setEngine ..
  refine ⟨fun h => ⟨hq (congrArg Host.Outcome.next (engExec_runs h _)), fun hd => hq (congrArg Host.Outcome.next (evenD_runs h hd _)),
    hq (congrArg Host.Outcome.next (engExec_runs h _))⟩, fun n w hw => ?_⟩
  exact ⟨fun hf hl => completes_portQueueRoom hw (by rw [if_pos hf]; exact hl) _ (by rw [if_pos hf]; rfl),
    fun hf hl => completes_portQueueRoom hw (by rw [hf]; exact hl) _ (by rw [hf]; rfl)⟩

end Sys2Proof
end

section
/-!
SUPPORT. ATADD and WAITP on fabric memory, FENCE, and how they complete (05, R131 to R133, R137).
-/

namespace Sys2Proof

open Machine

/-! ## The engine's turn at the fabric (R131) -/

/-- A multiple of the tick's length, rounded up, exceeds by less than a tick. -/
theorem roundUp_lt (k : Nat) {n : Nat} (h : 0 < n) : (k + n - 1) / n * n < k + n := by
  have := Nat.div_mul_le_self (k + n - 1) n
  omega

/-- The first tick at or after an instant is not before it, where the ticks have a length. -/
theorem le_tickCeil {s : State} (h : s.tickLen ≠ 0) (t : Instant) : t ≤ s.tickCeil t := by
  have hpos : 0 < s.tickLen := Nat.pos_of_ne_zero h
  unfold State.tickCeil
  split
  · exact le_rfl
  · unfold State.tickFloor
    split
    · have := Nat.mod_lt (t - s.clk.tickAt) hpos
      unfold Instant at *
      omega
    · next hlt =>
      have := roundUp_lt (s.clk.tickAt - t) hpos
      have hlt : t < s.clk.tickAt := Nat.lt_of_not_le hlt
      unfold Instant at *
      omega

/-- The state in which engine `e` has its turn at the fabric: at the next tick, or the one after where a later writer has registered. -/
def fabricTurn (e : Nat) (s : State) : State :=
  let a := s.tickCeil s.now
  if s.inOrder 0 e a then s.advance a else s.advance (a + s.tickLen)

section

variable {e j p : Nat} {s u : State} {v : W32} {w : PortWrite} {t : Instant}

theorem advance_advance (s : State) (a b : Instant) : (s.advance a).advance b = s.advance (max a b) :=
  congrArg (fun n => { s with now := n }) (Nat.max_assoc ..)

theorem advance_of_le {a : Instant} (h : a ≤ s.now) : s.advance a = s :=
  congrArg (fun n => { s with now := n }) (Nat.max_eq_left h)

/-- ATADD waits for the engine's turn in two steps. -/
theorem fabricTurn_steps (e : Nat) (s : State) :
    (let u := s.advance (s.tickCeil s.now)
     if u.inOrder 0 e u.now then u else u.advance (u.now + u.tickLen)) = fabricTurn e s := by
  have hL (t : Instant) : (s.advance t).tickLen = s.tickLen := rfl
  unfold fabricTurn
  by_cases hlen : s.tickLen = 0
  · have h0 (u : State) (h : u.tickLen = 0) : u.advance (u.now + u.tickLen) = u := advance_of_le (by rw [h]; exact le_rfl)
    dsimp only
    rw [h0 (s.advance _) hlen, hlen, Nat.add_zero, ite_self, ite_self]
  · have hle := le_tickCeil hlen s.now
    have hnow : (s.advance (s.tickCeil s.now)).now = s.tickCeil s.now := Nat.max_eq_right hle
    dsimp only
    rw [hnow, hL, advance_advance, Nat.max_eq_right (Nat.le_add_right _ _)]
    rfl

theorem fabricTurn_engine (e : Nat) (s : State) (j : Nat) : (fabricTurn e s).engine j = s.engine j := by
  unfold fabricTurn; dsimp only; split <;> rfl

theorem fabricTurn_mem (e : Nat) (s : State) : (fabricTurn e s).mem = s.mem := by unfold fabricTurn; dsimp only; split <;> rfl

theorem fabricTurn_memo (e : Nat) (s : State) : (fabricTurn e s).memo = s.memo := by unfold fabricTurn; dsimp only; split <;> rfl

/-! ## What a delivered write leaves of its engine -/

/-- Two states of an engine that differ at most in the latched half of the time and in the record of the shadows replaced. -/
def SameCourse (x y : Engine) : Prop := ∃ hi b, y = { x with timeHi := hi, before := b }

theorem SameCourse.refl (x : Engine) : SameCourse x x := ⟨x.timeHi, x.before, rfl⟩

theorem SameCourse.of_eq {x y : Engine} (h : y = x) : SameCourse x y := h ▸ .refl x

theorem SameCourse.trans {x y z : Engine} (h : SameCourse x y) (h' : SameCourse y z) : SameCourse x z := by
  obtain ⟨_, _, rfl⟩ := h
  obtain ⟨hi, b, rfl⟩ := h'
  exact ⟨hi, b, rfl⟩

theorem writeShadow_course (e c p v : Nat) (s : State) :
    SameCourse (s.engine e) ((writeShadow (some (e, c)) p v s).engine e) := by
  have hset (u : State) (x : Shadow) : (u.setShadow p x).engine e = u.engine e := rfl
  unfold writeShadow
  dsimp only
  rw [hset]
  split
  · exact .refl _
  · exact ⟨(s.engine e).timeHi, _, engine_setEngine ..⟩

theorem deliver_course (e : Nat) (w : PortWrite) (s : State) : SameCourse (s.engine e) ((deliver e w s).engine e) := by
  unfold deliver
  dsimp only
  split
  · exact .of_eq (Keeps.engine (lateWrite_keeps ..) rfl e)
  split
  · exact .of_eq (Keeps.engine (fabricWrite_keeps ..) rfl e)
  split
  · exact .of_eq (Keeps.engine (swTrig_keeps ..) rfl e)
  split
  · exact .of_eq (Keeps.engine (loadAllGroups_keeps ..) rfl e)
  split
  · exact writeShadow_course ..
  · exact .of_eq (Keeps.engine (dmaDoorbell_keeps ..) rfl e)

theorem deliverAt_course (e : Nat) (t : Instant) (w : PortWrite) (s : State) :
    SameCourse (s.engine e) ((deliverAt e t w s).engine e) :=
  (SameCourse.of_eq (Keeps.engine (takePlace_keeps ..) rfl e)).trans (deliver_course ..)

theorem deliverAll_course (e : Nat) (t : Instant) (l : List PortWrite) (s : State) :
    SameCourse (s.engine e) ((l.foldl (fun u w => deliverAt e t w u) s).engine e) := by
  induction l generalizing s with
  | nil => exact .refl _
  | cons w l ih => exact (deliverAt_course e t w s).trans (ih _)

theorem portRead_course (e p : Nat) (s : State) : SameCourse (s.engine e) ((portRead e p s).2.engine e) := by
  obtain ⟨⟨hi, h⟩, -⟩ := portRead_engine e p s
  exact ⟨hi, (s.engine e).before, h⟩

/-! ## ATADD -/

/-- The engine has its turn, and its earlier fabric writes are registered (R132). -/
def fabricDrained (e : Nat) (s : State) : State :=
  (s.engine e).fabQ.foldl (fun u w => deliverAt e (fabricTurn e s).now w u) ((fabricTurn e s).setEngine e { s.engine e with fabQ := [] })

/-- The word that ATADD leaves: the low half is added to, the high half stays. -/
def ataddSum (v : W32) (n : W16) : W32 := v.extractLsb' 16 16 ++ (v.setWidth 16 + n)

theorem toNat_ataddSum (v : W32) (n : W16) : (ataddSum v n).toNat = v.toNat / 2 ^ 16 * 2 ^ 16 + (v.toNat + n.toNat) % 2 ^ 16 := by
  have hlow : (v.setWidth 16 + n).toNat = (v.toNat + n.toNat) % 2 ^ 16 := by
    rw [BitVec.toNat_add, toNat_lowHalf, Nat.mod_add_mod]
  have hhigh : (v.extractLsb' 16 16).toNat = v.toNat / 2 ^ 16 := by
    have := v.isLt
    rw [BitVec.extractLsb'_toNat, Nat.shiftRight_eq_div_pow]
    omega
  have hlt := (v.setWidth 16 + n).isLt
  rw [ataddSum, BitVec.toNat_append, hhigh, ← Nat.shiftLeft_add_eq_or_of_lt hlt, hlow, Nat.shiftLeft_eq]

/-- ATADD in the state that its read leaves: the sum is registered, and the old low half is Xd. -/
def ataddDone (e d p : Nat) (v : W32) (t : Instant) (u : State) : State :=
  engSet e (fun x => (x.setX d (v.setWidth 16)).next) (deliverAt e t ⟨p, (ataddSum v ((u.engine e).xr (d + 1))).toNat⟩ u)

theorem exec_atadd {e d : Fin 16} {r : PortRef} (h : Runs e s) (hd : d.val % 2 = 0) (hf : isFabric ((s.engine e).port r) = true)
    (hw : s.writeTrap e ((s.engine e).port r) 0 = 0) (hv : (portRead e ((s.engine e).port r) (fabricDrained e s)).1 = some v) :
    exec (.atadd e d r) s = .next (ataddDone e d ((s.engine e).port r) v (fabricTurn e s).now
      (portRead e ((s.engine e).port r) (fabricDrained e s)).2) := by
  have hturn := fabricTurn_steps e s
  have hdrain : (s.engine e).fabQ.foldl (fun u w => deliverAt e (fabricTurn e s).now w u)
      (engSet e (fun x => { x with fabQ := [] }) (fabricTurn e s)) = fabricDrained e s := by
    unfold engSet; rw [fabricTurn_engine]; rfl
  refine congrArg Host.Outcome.next ((evenD_runs h hd _).trans ?_)
  rw [if_neg (by simp [hf]), hw]
  dsimp only
  rw [hturn, hdrain, hv]
  rfl

/-- What ATADD leaves of its engine. -/
theorem ataddDone_engine (e d p : Nat) (v : W32) (t : Instant) (u : State) : ∃ y, SameCourse (u.engine e) y ∧
    (ataddDone e d p v t u).engine e = (y.setX d (v.setWidth 16)).next :=
  ⟨_, deliverAt_course .., engine_setEngine ..⟩

/-- The engine's registers and flow after ATADD, where the state it reads in has the engine as it was, its fabric queue empty. -/
theorem ataddDone_spec {d : Nat} {x : Engine} (h : SameCourse { x with fabQ := [] } (u.engine e)) :
    let y := (ataddDone e d p v t u).engine e
    y.xr d = v.setWidth 16 ∧ (∀ i, i ≠ d → y.xr i = x.xr i) ∧ y.flags = x.flags ∧ y.pc = x.next.pc ∧ y.fabQ = [] := by
  obtain ⟨y, hy, he⟩ := ataddDone_engine e d p v t u
  obtain ⟨hi, b, rfl⟩ := h.trans hy
  dsimp only
  rw [he]
  refine ⟨?_, fun i hi => ?_, rfl, rfl, rfl⟩
  · rw [xr_next, xr_setX_self]
  · rw [xr_next, xr_setX, if_neg hi]
    rfl

/-! ## A word of fabric memory -/

theorem isFabric_port (h : isFabric p = true) : 0x700 ≤ p ∧ p < 0x800 ∨ 0x900 ≤ p ∧ p < 0xA00 := isFabric_range (w := ⟨p, 0⟩) h

/-- A port of fabric memory that takes writes is not a policy word. -/
theorem not_policy_of_writeTrap (hf : isFabric p = true) (hw : s.writeTrap e p 0 = 0) : p < 0x7F0 ∨ 0x900 ≤ p := by
  have hr := isFabric_port hf
  by_contra hp
  unfold State.writeTrap at hw
  dsimp only at hw
  rw [if_neg (by omega), if_neg (by omega), if_neg (by omega), if_neg (by omega), if_neg (by omega), if_neg (by omega),
    if_neg (by omega)] at hw
  exact absurd hw (by decide)

/-- Such a word is one code word of the SRAM. -/
theorem codeWords_fabric (hf : isFabric p = true) (s : State) :
    s.codeWords 4 (fabricAddr p) = [fabricAddr p] := by
  have hr := isFabric_port hf
  have haddr : fabricAddr p % 4 = 0 ∧ (sramBase ≤ fabricAddr p ∧ fabricAddr p < fabricBase + 0x400 ∨
      fabricBase + 0x800 ≤ fabricAddr p ∧ fabricAddr p < fabricBase + 0xC00) ∧ ¬fabricAddr p < 0x40000 := by
    unfold fabricAddr fabricBase sramBase
    split <;> omega
  obtain ⟨hmod, hmem, hrom⟩ := haddr
  have hcode : s.memCode (fabricAddr p) = some 0 := (if_neg hrom).trans (if_pos hmem)
  have hdiv : fabricAddr p / 4 * 4 = fabricAddr p := Nat.div_mul_cancel (Nat.dvd_of_mod_eq_zero hmod)
  unfold State.codeWords
  rw [hcode]
  show List.map (fun i => fabricAddr p / 4 * 4 + i * 4) (List.range ((fabricAddr p % 4 + 4 + 4 - 1) / 4)) = _
  rw [hmod, hdiv]
  rfl

/-- What a read of such a word answers to an engine: one outside the law reads zero in the words that the law has. -/
def fabricWord (e p : Nat) (s : State) : W32 :=
  if s.builtin && decide (8 ≤ e) && decide (p < 0x780) && !(decide (0x740 ≤ p) && decide (p ≤ 0x744)) then 0
  else BitVec.ofNat 32 (s.load 4 (fabricAddr p))

/-- A read of such a word without an error changes nothing. -/
theorem portRead_fabric (hf : isFabric p = true) (hp : p < 0x7F0 ∨ 0x900 ≤ p) (hecc : s.eccAt (fabricAddr p) = 0) :
    portRead e p s = (some (fabricWord e p s), s) := by
  have hr := isFabric_port hf
  have hcheck : s.eccCheck 4 (fabricAddr p) = (none, s) := by
    unfold State.eccCheck
    rw [codeWords_fabric hf, List.foldl_cons, List.foldl_nil]
    dsimp only
    rw [hecc]
    rfl
  unfold portRead fabricWord
  rw [if_neg (by omega), if_pos hf, hcheck]
  dsimp only
  split <;> rfl

/-- Within the deadline ATADD stores the sum in its word, and no other byte. -/
theorem ataddDone_mem {d : Nat} (hf : isFabric p = true) (hl : (u.engine e).late = false) (hd : u.now ≤ (u.engine e).deadline) :
    (ataddDone e d p v t u).mem = memWrite (toBytes 4 (ataddSum v ((u.engine e).xr (d + 1))).toNat) u.mem (fabricAddr p) ∧
    (ataddDone e d p v t u).load 4 (fabricAddr p) = (ataddSum v ((u.engine e).xr (d + 1))).toNat := by
  have hdel (w : PortWrite) (hw : isFabric w.port = true) :
      deliverAt e t w u = fabricWrite w.port (BitVec.ofNat 32 w.val) (takePlace (portBlock w.port) e t u) := deliver_fabric hl hd hw
  unfold ataddDone
  rw [hdel _ hf]
  dsimp only
  rw [BitVec.ofNat_toNat, BitVec.setWidth_eq]
  exact ⟨fabricWrite_mem .., fabricWrite_load ..⟩

end

/-- Settles O15: ATADD in the state in which the engine has its turn and its queue has drained; the others at once. -/
theorem fabricAtomicsAndWaits : Obligations.FabricAtomicsAndWaits := by
  unfold Obligations.FabricAtomicsAndWaits
  intro s e d r c x p a b
  have hstart : (b.setEngine e { x with fabQ := [] }).engine e = { x with fabQ := [] } := engine_setEngine ..
  refine ⟨fun h hd hf hw hq hl hdl v hv hecc => ?_, fun h hd hf hw v hv => ?_, fun h hf => ⟨fun hd => ?_, fun h1 h6 => ?_⟩,
    fun h hf h1 h6 v hv => ?_, fun n q v hw hv hh => ?_, fun h => ⟨fun hdr => ?_, fun hdr => ?_⟩, fun n hw hdr => ?_⟩
  · have hp := not_policy_of_writeTrap hf hw
    have heccb : b.eccAt (fabricAddr p) = 0 := (congrArg (fun m : Mem => tabGet 0 m.ecc (fabricAddr p)) (fabricTurn_memo e s)).trans hecc
    have hempty : fabricDrained e s = b.setEngine e { x with fabQ := [] } := by
      unfold fabricDrained; rw [show (s.engine e).fabQ = [] from hq]; rfl
    have hread : portRead e p (fabricDrained e s) = (some v, b.setEngine e { x with fabQ := [] }) := by
      have hvb : v = fabricWord e p b := by
        rw [portRead_fabric hf hp heccb] at hv
        exact (Option.some.inj (congrArg Prod.fst hv)).symm
      rw [hempty, hvb]
      exact portRead_fabric hf hp heccb
    have hx := exec_atadd h hd hf hw (congrArg Prod.fst hread)
    rw [hread] at hx
    obtain ⟨hxd, hxr, hfl, hpc, -⟩ := ataddDone_spec (e := e) (d := d) (p := p) (v := v) (t := b.now) (SameCourse.of_eq hstart)
    obtain ⟨hmem, hload⟩ := ataddDone_mem (v := v) (t := b.now) (d := d) (u := b.setEngine e { x with fabQ := [] }) hf
      (by rw [hstart]; exact hl) (by rw [hstart]; exact hdl)
    rw [hstart] at hmem hload
    refine ⟨_, hx, hxd, hxr, hfl, hpc, hload.trans (toNat_ataddSum ..), fun i hi => ?_⟩
    have hms : (b.setEngine e { x with fabQ := [] }).mem = s.mem := fabricTurn_mem e s
    have hout := memByte_memWrite_other (toBytes 4 (ataddSum v (x.xr (d + 1))).toNat) s.mem (fabricAddr p) i (by rw [length_toBytes]; exact hi)
    exact (congrArg (memByte · i) hmem).trans (by rw [hms]; exact hout)
  · have hcourse : SameCourse { x with fabQ := [] } ((portRead e p (fabricDrained e s)).2.engine e) :=
      (SameCourse.of_eq hstart).trans ((deliverAll_course e b.now x.fabQ _).trans (portRead_course e p _))
    obtain ⟨hxd, hxr, hfl, hpc, hfq⟩ := ataddDone_spec (e := e) (d := d) (p := p) (v := v) (t := b.now) hcourse
    exact ⟨_, exec_atadd h hd hf hw hv, hxd, hxr, hfl, hpc, hfq⟩
  · exact traps_runs h rfl ((needs_true (by simp [hd]) _).trans (if_pos (congrArg Bool.not hf)))
  · exact traps_runs h rfl ((needs_true (by simp [h1, h6]) _).trans (if_pos (congrArg Bool.not hf)))
  · have hx {u : State} (hu : (if waitpHolds (v.setWidth 16) (x.xr d) c then s.setEngine e x.next
        else s.setEngine e { x with wait := .waitp p d c }) = u) : exec (.waitp e d r c) s = .next u := by
      refine congrArg Host.Outcome.next ((engExec_runs h _).trans ((needs_true (by simp [h1, h6]) _).trans ?_))
      dsimp only
      rw [if_neg (by rw [show isFabric _ = true from hf]; decide), show portRead e ((s.engine e).port r) s = _ from hv]
      exact hu
    exact ⟨fun hh => ⟨_, hx (if_pos hh), rfl⟩, fun hh => ⟨_, hx (if_neg (by rw [hh]; decide)), rfl⟩⟩
  · refine ⟨_, ?_, rfl⟩
    show execWaitpComplete e n s = _
    unfold execWaitpComplete
    dsimp only
    split
    · next q' d' c' hw' =>
      obtain ⟨rfl, rfl, rfl⟩ := Wait.waitp.inj (hw'.symm.trans hw)
      rw [hv]
      exact if_pos hh
    · next hne => exact absurd hw (hne q d c)
  · exact completes_runs h rfl (congrArg (s.setEngine e) (if_pos hdr))
  · exact completes_runs h rfl (congrArg (s.setEngine e) (if_neg (by rw [show (s.engine e).drained = _ from hdr]; decide)))
  · refine ⟨_, if_pos ?_, rfl⟩
    rw [show (s.engine e).wait = _ from hw, show (s.engine e).drained = _ from hdr]
    rfl

end Sys2Proof
end

section
/-!
SUPPORT. Two statements that fail: a write by Zeset serves the held granules at its address (`State.physWrite`, R330), and in a state that
lists one where no DRAM is, that changes more than the statements say. The invariant of the state does not exclude such a state.
-/

namespace Sys2Proof

open Machine

/-! ## A granule held in the data SRAM of OE0 -/

/-- OE0 runs, and a granule at the first word of its data SRAM is held for Zeset, all of it written. -/
def heldInSram : State :=
  { engines := [(0, { inCycle := true })], memo := { held := [⟨dataAddr 0 0, 0, 2 ^ 64 - 1, [.zeset]⟩] } }

theorem heldInSram_runs : Runs 0 heldInSram := ⟨rfl, rfl, rfl⟩

/-- A store to that word serves the granule. -/
theorem heldInSram_st : (storeWords 0 (.absolute 0) (fun x => [x.xr 0]) heldInSram).memo.held = [] := by decide

/-- Refutes O12: in `heldInSram` ST of a word without an error leaves no granule held, where the statement keeps all but memory and the
engine. -/
theorem not_dataStoreResults : ¬ Obligations.DataStoreResults := by
  unfold Obligations.DataStoreResults
  intro h
  obtain ⟨⟨t, hx, -, -, -, -, hframe, -⟩, -⟩ := h heldInSram 0 0 0 (.absolute 0) heldInSram_runs
  obtain rfl : storeWords 0 (.absolute 0) (fun x => [x.xr 0]) heldInSram = t := Host.Outcome.next.inj hx
  have hheld := congrArg (fun u : State => u.memo.held) (hframe fun _ _ => rfl)
  rw [heldInSram_st] at hheld
  exact absurd hheld (by decide)

/-! ## A granule held in the mailbox of OE0 -/

/-- A granule at the mailbox of OE0 is held for Zeset and for a DMA channel whose number is beyond the device's 16 and whose CUR_SRC, the
channel being BUSY, lies at MB_IN of OE0; one of the granule's words holds an error that cannot be corrected. -/
def heldInMailbox : State :=
  { regs := [(Reg.DMA_STATUS 0x9E0, 1)]
    memo := { ecc := [(fabricAddr 0x902, 2)], held := [⟨fabricAddr 0x900, 0, 0, [.zeset, .dma 0x9E0]⟩] } }

/-- The halt of that channel writes its CUR_SRC after MB_IN has taken its value. -/
theorem heldInMailbox_mbIn : (actMbIn 0 0 1 heldInMailbox).1.reg (Reg.MB_IN 0 0) = 0 := by decide

/-- Refutes O19: in `heldInMailbox` a write of 1 leaves MB_IN at 0. -/
theorem not_imagesAndMailboxes : ¬ Obligations.ImagesAndMailboxes := by
  unfold Obligations.ImagesAndMailboxes
  intro h
  obtain ⟨-, -, -, -, -, -, -, -, -, t, hx, hin, -⟩ := h heldInMailbox 0 0 1
  obtain rfl : (actMbIn 0 0 1 heldInMailbox).1 = t := Host.Outcome.next.inj hx
  exact absurd (heldInMailbox_mbIn.symm.trans hin) (by decide)

end Sys2Proof
end

section
/-!
SUPPORT. A channel's output (06_pwm_generator.md, Table 6-2) and its forcing (Table 6-5, R177): what a change of the output and a forcing
leave of each channel and of the dictionary.
-/

namespace Sys2Proof.Machine

variable (s : State)

/-! ## Channels -/

theorem chan_setChan (c j : Nat) (x : Chan) : (s.setChan c x).chan j = if j = c then x else s.chan j := tabGet_set ..

theorem setOutput_chan_other {c j : Nat} (h : j ≠ c) (on : Bool) (la : Instant) : (setOutput c on la s).chan j = s.chan j := by
  unfold setOutput
  dsimp only
  split
  · rfl
  · exact (chan_setChan ..).trans (if_neg h)

theorem setOutput_out (c : Nat) (on : Bool) (la : Instant) : ((setOutput c on la s).chan c).out = on := by
  unfold setOutput
  dsimp only
  split
  · assumption
  · exact congrArg Chan.out ((chan_setChan ..).trans (if_pos rfl))

/-! ## Forcing (R177) -/

/-- Whether a channel is forced off is read from the dictionary alone. -/
theorem forced_of_regs {s u : State} (h : u.regs = s.regs) (c : Nat) : u.forced c = s.forced c := by
  unfold State.forced State.flag State.fld State.regBit
  simp only [reg_of_regs h]

/-- A bit of FORCE_OFF forces its channel off (Table 6-5). -/
theorem forced_of_forceOff {j b : Nat} (hb : b < 32) (h : s.regBit (Reg.FORCE_OFF j) b = true) : s.forced (32 * j + b) = true := by
  have hd : (32 * j + b) / 32 = j := by omega
  have hm : (32 * j + b) % 32 = b := by omega
  simp [State.forced, hd, hm, h]

theorem forceOff_regs (c : Nat) : (forceOff c s).regs = s.regs := (forceOff_keeps c s).parts .regs (by decide)

theorem forceOff_chan_other {c j : Nat} (h : j ≠ c) : (forceOff c s).chan j = s.chan j := by
  unfold forceOff
  split
  · rw [chan_setChan, if_neg h, setOutput_chan_other _ h, zeroCarries, chan_setChan, if_neg h]
  · rfl

theorem forceOff_out {c : Nat} (h : s.forced c = true) : ((forceOff c s).chan c).out = false := by
  unfold forceOff
  rw [if_pos h, chan_setChan, if_pos rfl]
  exact setOutput_out ..

theorem forceOffAll_regs (l : List Nat) : (forceOffAll l s).regs = s.regs := (forceOffAll_keeps l s).parts .regs (by decide)

/-- Every listed channel that is forced is off afterwards. -/
theorem forceOffAll_out {l : List Nat} (hl : l.Nodup) {c : Nat} (hc : c ∈ l) (h : s.forced c = true) : ((forceOffAll l s).chan c).out = false := by
  obtain ⟨t, hr, -, he⟩ := forEach_view_mem (fun c u => u.chan c) State.regs (fun _ _ u hj => forceOff_chan_other u hj)
    (fun c u => forceOff_regs u c) hl hc s
  exact (congrArg Chan.out he).trans (forceOff_out t ((forced_of_regs hr c).trans h))

end Sys2Proof.Machine
end

section
/-!
The trip inputs (O30): the filtered state, the decision, the two clears, the configuration, and the channels forced off by command.
-/

namespace Sys2Proof.Machine

variable (s : State)

theorem key_ne_of_index {i j a b : Nat} (h : i ≠ j) (ha : a < 256) (hb : b < 256) : Reg.key i a ≠ Reg.key j b := by
  unfold Reg.key; omega

/-! ## The filtered state (R176, R181) -/

theorem tripRun_iff {i : Nat} {t : Instant} : s.tripRun i t = true ↔ s.onTick t = true ∧
    s.tickNo (tabGet 0 s.pwm.tripAt i) + max 1 (s.fld (Reg.TRIP_CFG i) F.TRIP_CFG_FILTER) ≤ s.tickNo t := by
  rw [State.tripRun, Bool.and_eq_true, decide_eq_true_eq]

theorem tripSee_regsKept (i : Nat) (b : Bool) : RegsKept [Reg.TRIP_ACTIVE] s (tripSee i b s) := RegsKept.setReg s _ _

theorem TRIP_CFG_ne_TRIP_ACTIVE {i : Nat} (hi : i < 32) : Reg.TRIP_CFG i ≠ Reg.TRIP_ACTIVE := key_ne_of_index (by decide) (by omega) (by decide)

theorem tripSee_cfgFlag {i : Nat} (hi : i < 32) (b : Bool) (f : Fld) : (tripSee i b s).flag (Reg.TRIP_CFG i) f = s.flag (Reg.TRIP_CFG i) f :=
  flag_of_reg f (tripSee_regsKept s i b _ (by simpa using TRIP_CFG_ne_TRIP_ACTIVE hi))

theorem tripSee_active (i : Nat) (b : Bool) : (tripSee i b s).regBit Reg.TRIP_ACTIVE i = b :=
  (regBit_setRegBit s Reg.TRIP_ACTIVE i i b).trans (if_pos rfl)

theorem tripSee_at (i : Nat) (b : Bool) : tabGet 0 (tripSee i b s).pwm.tripAt i = s.now := tabGet_set_self ..

/-! ## The decision (R176, R177, R179) -/

theorem retry_of_pwm {s u : State} (h : u.pwm = s.pwm) (i : Nat) : u.retry i = s.retry i := by unfold State.retry; rw [h]

/-- What the decision of an enabled trip input records: its count, its time, its history and its fault. -/
def tripRecord (i : Nat) (s : State) : State :=
  let u := (s.bump (Reg.TRIP_COUNT i)).setReg (Reg.TRIP_TIME i) s.time64
  (u.setRetry i { u.retry i with decision := u.now }).setRegBit Reg.TRIP_FAULT i true

/-- The latch that the check of a decision with a history may set. -/
def tripLatch (i : Nat) (r : Retry) (s : State) : State :=
  if s.latches r s.now (s.flag (Reg.TRIP_CFG i) F.TRIP_CFG_NO_RETRY) then s.setRegBit Reg.TRIP_LATCHED i true else s

/-- The decision of an enabled trip input whose history is `r`. -/
def tripDecided (i : Nat) (r : Retry) (s : State) : State :=
  let u := tripLatch i r (tripRecord i s)
  forceOffAll (u.tripChans i) u

/-- The registers that a decision writes beside TRIP_ACTIVE. -/
def tripKeys (i : Nat) : List Nat := [Reg.TRIP_COUNT i, Reg.TRIP_TIME i, Reg.TRIP_FAULT, Reg.TRIP_LATCHED]

variable {i : Nat} (r : Retry)

theorem tripRecord_regs : (tripRecord i s).regs =
    (((s.bump (Reg.TRIP_COUNT i)).setReg (Reg.TRIP_TIME i) s.time64).setRegBit Reg.TRIP_FAULT i true).regs := rfl

theorem tripRecord_regsKept : RegsKept [Reg.TRIP_COUNT i, Reg.TRIP_TIME i, Reg.TRIP_FAULT] s (tripRecord i s) := by
  have hcount : RegsKept [Reg.TRIP_COUNT i, Reg.TRIP_TIME i, Reg.TRIP_FAULT] s (s.bump (Reg.TRIP_COUNT i)) := (bump_regsKept s _).mono (by simp)
  have htime := hcount.step (k := Reg.TRIP_TIME i) (v := s.time64) (by simp)
  exact (htime.trans (RegsKept.step (regsKept_refl _ _) (by simp))).trans (.of_regs (tripRecord_regs s))

theorem tripRecord_fault : (tripRecord i s).regBit Reg.TRIP_FAULT i = true := (regBit_setRegBit _ Reg.TRIP_FAULT i i true).trans (if_pos rfl)

theorem tripRecord_time (hi : i < 32) : (tripRecord i s).reg (Reg.TRIP_TIME i) = s.time64 :=
  (reg_setRegBit_other _ _ _ (key_ne_of_index (by decide) (by omega) (by decide))).trans (reg_setReg_self ..)

theorem tripRecord_now : (tripRecord i s).now = s.now := bump_now s (Reg.TRIP_COUNT i)

theorem tripLatch_regsKept : RegsKept [Reg.TRIP_LATCHED] s (tripLatch i r s) := by
  unfold tripLatch
  split
  · exact RegsKept.setReg s _ _
  · exact regsKept_refl s _

/-- The latch check reads no register that the record of a decision writes. -/
theorem latches_tripRecord (hi : i < 32) :
    (tripRecord i s).latches r (tripRecord i s).now ((tripRecord i s).flag (Reg.TRIP_CFG i) F.TRIP_CFG_NO_RETRY) =
      s.latches r s.now (s.flag (Reg.TRIP_CFG i) F.TRIP_CFG_NO_RETRY) := by
  have hreg {a b : Nat} (ha : a = 0x2840 ∨ a = 0x2841 ∧ b < 4) (hb : b < 256) : (tripRecord i s).reg (Reg.key a b) = s.reg (Reg.key a b) := by
    refine tripRecord_regsKept s _ ?_
    simp only [Reg.TRIP_COUNT, Reg.TRIP_TIME, Reg.TRIP_FAULT, Reg.key, List.mem_cons, List.not_mem_nil, or_false]
    omega
  have hcfg : (tripRecord i s).reg (Reg.TRIP_CFG i) = s.reg (Reg.TRIP_CFG i) := hreg (.inl rfl) (by omega)
  have hntry : (tripRecord i s).reg Reg.NTRY = s.reg Reg.NTRY := hreg (.inr (by decide)) (by decide)
  have htwin : (tripRecord i s).reg Reg.TWIN = s.reg Reg.TWIN := hreg (.inr (by decide)) (by decide)
  unfold State.latches State.triesAt
  rw [tripRecord_now, flag_of_reg _ hcfg, hntry, htwin]

theorem tripDecided_regs : (tripDecided i r s).regs = (tripLatch i r (tripRecord i s)).regs := forceOffAll_regs ..

theorem tripDecided_regsKept : RegsKept (tripKeys i) s (tripDecided i r s) := by
  have h : RegsKept (tripKeys i) s (tripLatch i r (tripRecord i s)) :=
    ((tripRecord_regsKept s).mono (by simp [tripKeys])).trans ((tripLatch_regsKept _ r).mono (by simp [tripKeys]))
  exact h.trans (.of_regs (tripDecided_regs s r))

/-- A decision sets its fault, shows its time, and latches where the check says so. -/
theorem tripDecided_spec (hi : i < 32) : (tripDecided i r s).regBit Reg.TRIP_FAULT i = true ∧
    (tripDecided i r s).reg (Reg.TRIP_TIME i) = s.time64 ∧
    (s.latches r s.now (s.flag (Reg.TRIP_CFG i) F.TRIP_CFG_NO_RETRY) = true → (tripDecided i r s).regBit Reg.TRIP_LATCHED i = true) := by
  have hreg (k : Nat) : (tripDecided i r s).reg k = (tripLatch i r (tripRecord i s)).reg k := reg_of_regs (tripDecided_regs s r) k
  refine ⟨?_, ?_, fun hl => ?_⟩
  · rw [regBit_of_reg i (hreg _), regBit_of_reg i (tripLatch_regsKept _ r _ (by decide)), tripRecord_fault]
  · have hne : Reg.TRIP_TIME i ∉ [Reg.TRIP_LATCHED] := fun hm => key_ne_of_index (by decide) (by omega) (by decide) (List.mem_singleton.1 hm)
    rw [hreg, tripLatch_regsKept _ r _ hne, tripRecord_time s hi]
  · rw [regBit_of_reg i (hreg _), tripLatch, if_pos ((latches_tripRecord s r hi).trans hl), regBit_setRegBit, if_pos rfl]

/-! ## The clear by command (R180) -/

/-- What TRIP_CLEAR does to an input whose latched fault it clears. -/
def tripReset (i : Nat) (s : State) : State :=
  let u := (s.setRegBit Reg.TRIP_FAULT i false).setRegBit Reg.TRIP_LATCHED i false
  (u.setRetry i { u.retry i with clears := [] }).setReg (Reg.TRIP_TRIES i) 0

/-- The inputs that TRIP_CLEAR clears. -/
def State.tripClears (s : State) (mask : Nat) : List Nat :=
  (bitsOf 32 mask).filter fun i => s.regBit Reg.TRIP_LATCHED i && !s.regBit Reg.TRIP_ACTIVE i

theorem actTripClear_eq (mask : Nat) : ∃ v,
    (actTripClear mask s).1 = (s.forEach (s.tripClears mask) tripReset).setReg Reg.TRIP_CLEAR v := ⟨_, rfl⟩

/-- The latch, the fault and the tries of an input. -/
def tripFaults (i : Nat) (s : State) : Bool × Bool × Nat := (s.regBit Reg.TRIP_LATCHED i, s.regBit Reg.TRIP_FAULT i, s.reg (Reg.TRIP_TRIES i))

theorem TRIP_TRIES_gt (i : Nat) : Reg.TRIP_LATCHED < Reg.TRIP_TRIES i := by simp only [Reg.TRIP_LATCHED, Reg.TRIP_TRIES, Reg.key]; omega

theorem tripFaults_setReg_of_lt {k : Nat} (hk : k < Reg.TRIP_FAULT) (v i : Nat) : tripFaults i (s.setReg k v) = tripFaults i s := by
  have hl : Reg.TRIP_FAULT < Reg.TRIP_LATCHED := by decide
  have ht := TRIP_TRIES_gt i
  unfold tripFaults State.regBit
  rw [reg_setReg_other _ _ (by omega), reg_setReg_other _ _ (by omega), reg_setReg_other _ _ (by omega)]

theorem TRIP_TRIES_inj {i j : Nat} : Reg.TRIP_TRIES j = Reg.TRIP_TRIES i ↔ j = i := by simp only [Reg.TRIP_TRIES, Reg.key]; omega

theorem tripFaults_of_regs {s u : State} (h : u.regs = s.regs) (i : Nat) : tripFaults i u = tripFaults i s := by
  unfold tripFaults State.regBit
  simp only [reg_of_regs h]

theorem tripReset_regs (i : Nat) : (tripReset i s).regs =
    (((s.setRegBit Reg.TRIP_FAULT i false).setRegBit Reg.TRIP_LATCHED i false).setReg (Reg.TRIP_TRIES i) 0).regs := rfl

theorem tripFaults_tripReset (i j : Nat) : tripFaults j (tripReset i s) = if j = i then (false, false, 0) else tripFaults j s := by
  have hne : Reg.TRIP_LATCHED ≠ Reg.TRIP_FAULT := by decide
  have hlt : Reg.TRIP_FAULT < Reg.TRIP_LATCHED := by decide
  have hi := TRIP_TRIES_gt i
  have hj := TRIP_TRIES_gt j
  rw [tripFaults_of_regs (tripReset_regs s i)]
  unfold tripFaults
  rw [regBit_of_reg j (reg_setReg_other _ _ hi.ne), regBit_setRegBit, regBit_of_reg j (reg_setRegBit_other s i false hne),
    regBit_of_reg j (reg_setReg_other _ _ (hlt.trans hi).ne), regBit_of_reg j (reg_setRegBit_other _ i false hne.symm), regBit_setRegBit,
    reg_setReg, reg_setRegBit_other _ _ _ hj.ne', reg_setRegBit_other _ _ _ (hlt.trans hj).ne']
  simp only [TRIP_TRIES_inj]
  split <;> rfl

theorem tripFaults_actTripClear (mask i : Nat) :
    tripFaults i (actTripClear mask s).1 = if i ∈ s.tripClears mask then (false, false, 0) else tripFaults i s := by
  have hother (x i : Nat) (u : State) (h : i ≠ x) : tripFaults i (tripReset x u) = tripFaults i u := by rw [tripFaults_tripReset, if_neg h]
  obtain ⟨v, hv⟩ := actTripClear_eq s mask
  rw [hv, tripFaults_setReg_of_lt _ (by decide)]
  split
  · next hm =>
    obtain ⟨t, -, -, ht⟩ := forEach_view_mem tripFaults (fun _ => ()) hother (fun _ _ => rfl) ((nodup_bitsOf 32 mask).filter _) hm s
    exact ht.trans ((tripFaults_tripReset ..).trans (if_pos rfl))
  · next hm => exact forEach_view_other tripFaults hother hm s

theorem mem_tripClears {m : BitVec 32} {i : Nat} : i ∈ s.tripClears m.toNat ↔
    i < 32 ∧ m.getLsbD i = true ∧ s.regBit Reg.TRIP_LATCHED i = true ∧ s.regBit Reg.TRIP_ACTIVE i = false := by
  rw [State.tripClears, List.mem_filter, mem_bitsOf, bit_toNat, Bool.and_eq_true, Bool.not_eq_true', and_assoc]

/-! ## The configuration (R181) -/

/-- A configuration in range is stored in its register, and one that enables the input restarts its filter. -/
theorem actTripCfg_spec {i v : Nat} (hi : i < 32) (hv : valueOk (Reg.TRIP_CFG i) v = true) :
    (actTripCfg i v s).1.reg (Reg.TRIP_CFG i) = v ∧
    (fget F.TRIP_CFG_EN v = 1 → fget F.TRIP_CFG_EN (s.reg (Reg.TRIP_CFG i)) = 0 →
      (actTripCfg i v s).1 = tripSee i false (s.setReg (Reg.TRIP_CFG i) v)) := by
  unfold actTripCfg
  rw [if_neg (by simp [hv])]
  refine ⟨?_, fun hn ho => congrArg Prod.fst (if_pos (.inl ⟨hn, ho⟩))⟩
  dsimp only
  split
  · exact (reg_setRegBit_other _ _ _ (TRIP_CFG_ne_TRIP_ACTIVE hi)).trans (reg_setReg_self ..)
  · exact reg_setReg_self ..

/-! ## The channels forced off by command (Table 6-5, R182) -/

/-- A write of FORCE_OFF forces its channels off, those of bits newly set among them. -/
theorem actForceOff_spec {j v : Nat} (hv : v < 2 ^ 32) (h : s.builtin = false ∨ 3 ≤ j ∨ s.reg Reg.MODE = 0) :
    (actForceOff j v s).1.regs = (s.setReg (Reg.FORCE_OFF j) v).regs ∧
    ∀ b, b < 32 → bit v b = true → s.regBit (Reg.FORCE_OFF j) b = false → ((actForceOff j v s).1.chan (32 * j + b)).out = false := by
  have hrefuse : ¬(s.builtin && decide (j < 3) && s.reg Reg.MODE != 0) = true := by
    simp only [Bool.and_eq_true, decide_eq_true_eq, bne_iff_ne]
    rintro ⟨⟨hb, hj⟩, hm⟩
    obtain h | h | h := h
    · rw [h] at hb; cases hb
    · omega
    · exact hm h
  unfold actForceOff
  rw [if_neg hrefuse, Nat.mod_eq_of_lt hv]
  refine ⟨forceOffAll_regs .., fun b hb hn ho => ?_⟩
  refine forceOffAll_out _ ((nodup_bitsOf 32 _).map fun x y e => by omega) (List.mem_map.2 ⟨b, mem_bitsOf.2 ⟨hb, ?_⟩, rfl⟩)
    (forced_of_forceOff _ hb ?_)
  · rw [bit_eq_testBit, testBit_clearMask, ← bit_eq_testBit, ← bit_eq_testBit, hn, show bit (s.reg (Reg.FORCE_OFF j)) b = false from ho]
    rfl
  · rw [State.regBit, reg_setReg_self, hn]

end Sys2Proof.Machine

namespace Sys2Proof

open Machine

variable (s : State) (i : Fin 32) (j : Fin 8) (m v : BitVec 32) (t : Instant)

/-! ## The commands -/

theorem TRIP_ACTIVE_not_mem_tripKeys (i : Nat) : Reg.TRIP_ACTIVE ∉ tripKeys i := by
  simp only [tripKeys, Reg.TRIP_ACTIVE, Reg.TRIP_COUNT, Reg.TRIP_TIME, Reg.TRIP_FAULT, Reg.TRIP_LATCHED, Reg.key, List.mem_cons, List.not_mem_nil,
    or_false]
  omega

/-- Seeing an input active changes nothing that its latch check reads. -/
theorem latches_tripSee (i : Fin 32) (r : Retry) : (tripSee i true (s.advance t)).latches r (tripSee i true (s.advance t)).now
      ((tripSee i true (s.advance t)).flag (Reg.TRIP_CFG i) F.TRIP_CFG_NO_RETRY) =
    s.latches r (s.advance t).now (s.flag (Reg.TRIP_CFG i) F.TRIP_CFG_NO_RETRY) := by
  have hreg := tripSee_regsKept (s.advance t) i true
  unfold State.latches State.triesAt
  rw [tripSee_cfgFlag _ i.2, hreg _ (by decide), hreg _ (by decide)]
  rfl

theorem exec_tripDecision_fault (ha : s.regBit Reg.TRIP_ACTIVE i = false) (hr : s.tripRun i t = true)
    (he : s.flag (Reg.TRIP_CFG i) F.TRIP_CFG_EN = true) :
    exec (.tripDecision i t) s = .next (tripDecided i (s.retry i) (tripSee i true (s.advance t))) := by
  have hflag : (tripSee i true (s.advance t)).flag (Reg.TRIP_CFG i) F.TRIP_CFG_EN = true := (tripSee_cfgFlag _ i.2 ..).trans he
  have hretry (k v : Nat) : s.retry i = (((tripSee i true (s.advance t)).bump (Reg.TRIP_COUNT i)).setReg k v).retry i :=
    (retry_of_pwm (s := tripSee i true (s.advance t)) ((State.bump_keeps _ _).parts .pwm (by decide)) i).symm
  rw [hretry]
  exact (if_pos (by rw [ha, hr]; rfl)).trans (if_pos hflag)

theorem tripDecision_fault (ha : s.regBit Reg.TRIP_ACTIVE i = false) (hr : s.tripRun i t = true)
    (he : s.flag (Reg.TRIP_CFG i) F.TRIP_CFG_EN = true) :
    Completes (.tripDecision i t) s fun u =>
      u.regBit Reg.TRIP_ACTIVE i = true ∧ u.regBit Reg.TRIP_FAULT i = true ∧ u.reg (Reg.TRIP_TIME i) = (s.advance t).time64 ∧
        (s.latches (s.retry i) (s.advance t).now (s.flag (Reg.TRIP_CFG i) F.TRIP_CFG_NO_RETRY) = true → u.regBit Reg.TRIP_LATCHED i = true) ∧
        RegsKept (Reg.TRIP_ACTIVE :: tripKeys i) s u ∧ PartsKept [.now, .free, .regs, .pwm] s u := by
  refine Completes.ofKeeps (execTripDecision_keeps i t s) (exec_tripDecision_fault s i t ha hr he) fun hk => ?_
  have hregs := tripDecided_regsKept (i := i) (tripSee i true (s.advance t)) (s.retry i)
  obtain ⟨hfault, htime, hlatch⟩ := tripDecided_spec (tripSee i true (s.advance t)) (s.retry i) i.2
  refine ⟨?_, hfault, htime, fun hl => hlatch ((latches_tripSee s t i _).trans hl), ?_, hk.partsKept_of⟩
  · rw [regBit_of_reg i (hregs _ (TRIP_ACTIVE_not_mem_tripKeys i)), tripSee_active]
  · have hsee : RegsKept (Reg.TRIP_ACTIVE :: tripKeys i) s (tripSee i true (s.advance t)) :=
      (tripSee_regsKept (s.advance t) i true).mono (by simp)
    exact hsee.trans (hregs.mono (List.subset_cons_self _ _))

theorem tripDecision_disabled (ha : s.regBit Reg.TRIP_ACTIVE i = false) (hr : s.tripRun i t = true)
    (he : s.flag (Reg.TRIP_CFG i) F.TRIP_CFG_EN = false) :
    Completes (.tripDecision i t) s fun u =>
      u.regBit Reg.TRIP_ACTIVE i = true ∧ RegsKept [Reg.TRIP_ACTIVE] s u ∧ PartsKept [.now, .regs, .pwm] s u := by
  have hflag : (tripSee i true (s.advance t)).flag (Reg.TRIP_CFG i) F.TRIP_CFG_EN = false := (tripSee_cfgFlag _ i.2 ..).trans he
  have hx : exec (.tripDecision i t) s = .next (tripSee i true (s.advance t)) :=
    (if_pos (by rw [ha, hr]; rfl)).trans (if_neg (by rw [hflag]; decide))
  have hk : Keeps 137 s (tripSee i true (s.advance t)) :=
    ((State.advance_keeps s t).mono (by decide)).trans ((tripSee_keeps i true _).mono (by decide))
  exact Completes.of hx ⟨tripSee_active .., tripSee_regsKept (s.advance t) i true, hk.partsKept_of⟩

theorem trip_notRun (h : s.tripRun i t = false) : Completes (.tripDecision i t) s (· = s) ∧ Completes (.tripInputInactive i t) s (· = s) :=
  ⟨.of (if_neg (by simp [h])) rfl, .of (if_neg (by simp [h])) rfl⟩

theorem tripInputInactive_spec (ha : s.regBit Reg.TRIP_ACTIVE i = true) (hr : s.tripRun i t = true) :
    Completes (.tripInputInactive i t) s fun u =>
      u.reg Reg.TRIP_ACTIVE = setBit (s.reg Reg.TRIP_ACTIVE) i false ∧ RegsKept [Reg.TRIP_ACTIVE] s u ∧ PartsKept [.now, .regs, .pwm] s u :=
  Completes.ofKeeps (execTripInputInactive_keeps i t s) (if_pos (by rw [ha, hr]; rfl)) fun hk =>
    ⟨reg_setReg_self .., tripSee_regsKept (s.advance t) i false, hk.partsKept_of⟩

theorem tripAutoClear_spec (hf : s.regBit Reg.TRIP_FAULT i = true) (hl : s.regBit Reg.TRIP_LATCHED i = false) (ha : s.regBit Reg.TRIP_ACTIVE i = false)
    (ht : (s.retry i).decision + Sys2Proof.ms (s.reg Reg.TRETRY) ≤ t) :
    Completes (.tripAutoClear i t) s fun u =>
      u.reg Reg.TRIP_FAULT = setBit (s.reg Reg.TRIP_FAULT) i false ∧ u.retry i = s.countTry (s.retry i) (s.advance t).now ∧
        RegsKept [Reg.TRIP_FAULT, Reg.TRIP_TRIES i] s u ∧ PartsKept [.now, .regs, .pwm] s u := by
  refine Completes.ofKeeps (execTripAutoClear_keeps i t s) (if_pos (by simp [hf, hl, ha, ht])) fun hk =>
    ⟨?_, tabGet_set_self .., ?_, hk.partsKept_of⟩
  · exact (reg_setReg_other _ _ (((show Reg.TRIP_FAULT < Reg.TRIP_LATCHED by decide).trans (TRIP_TRIES_gt i)).ne)).trans (reg_setReg_self ..)
  · have h0 : RegsKept [Reg.TRIP_FAULT, Reg.TRIP_TRIES i] s
        (((s.advance t).setRetry i ((s.advance t).countTry (s.retry i) (s.advance t).now)).setRegBit Reg.TRIP_FAULT i false) :=
      RegsKept.step (t := s) (regsKept_refl s _) (by simp)
    exact h0.step (by simp)

theorem tripClear_spec : Completes (.tripClear m) s (fun u => (∀ k, k < 32 →
    u.regBit Reg.TRIP_LATCHED k = (s.regBit Reg.TRIP_LATCHED k && !(m.getLsbD k && !s.regBit Reg.TRIP_ACTIVE k)) ∧
    (m.getLsbD k = true → s.regBit Reg.TRIP_LATCHED k = true → s.regBit Reg.TRIP_ACTIVE k = false →
      u.regBit Reg.TRIP_FAULT k = false ∧ u.reg (Reg.TRIP_TRIES k) = 0)) ∧ PartsKept [.regs, .pwm] s u) := by
  refine Completes.ofKeeps (execTripClear_keeps m s) rfl fun hk => ⟨fun k hlt => ?_, hk.partsKept_of⟩
  have hv := tripFaults_actTripClear s m.toNat k
  by_cases hm : k ∈ s.tripClears m.toNat
  · rw [if_pos hm] at hv
    obtain ⟨hlatched, hrest⟩ := Prod.ext_iff.1 hv
    obtain ⟨hfault, htries⟩ := Prod.ext_iff.1 hrest
    obtain ⟨-, hb, hl, ha⟩ := (mem_tripClears s).1 hm
    exact ⟨hlatched.trans (by rw [hb, hl, ha]; rfl), fun _ _ _ => ⟨hfault, htries⟩⟩
  · rw [if_neg hm] at hv
    refine ⟨(congrArg Prod.fst hv).trans ?_, fun hb hl ha => absurd ((mem_tripClears s).2 ⟨hlt, hb, hl, ha⟩) hm⟩
    have hkept : ¬(m.getLsbD k = true ∧ s.regBit Reg.TRIP_LATCHED k = true ∧ s.regBit Reg.TRIP_ACTIVE k = false) :=
      fun h => hm ((mem_tripClears s).2 ⟨hlt, h⟩)
    change s.regBit Reg.TRIP_LATCHED k = _
    revert hkept
    generalize m.getLsbD k = b, s.regBit Reg.TRIP_LATCHED k = l, s.regBit Reg.TRIP_ACTIVE k = a
    revert b l a
    decide

theorem tripCfgWrite_refused (hv : valueOk (Reg.TRIP_CFG i) v.toNat = false) : Completes (.tripCfgWrite i v) s (· = s) := by
  have hact : actTripCfg i v.toNat s = (s, stRange) := if_pos (by rw [hv]; rfl)
  exact Completes.of rfl (by rw [hact]; rfl)

theorem tripCfgWrite_stored (hv : valueOk (Reg.TRIP_CFG i) v.toNat = true) : Completes (.tripCfgWrite i v) s fun u =>
    u.reg (Reg.TRIP_CFG i) = v.toNat ∧
    (fget F.TRIP_CFG_EN v.toNat = 1 → fget F.TRIP_CFG_EN (s.reg (Reg.TRIP_CFG i)) = 0 → u.regBit Reg.TRIP_ACTIVE i = false ∧
      tabGet 0 u.pwm.tripAt i = s.now) ∧ PartsKept [.regs, .mram, .pwm] s u := by
  obtain ⟨hcfg, hen⟩ := actTripCfg_spec s i.2 hv
  have hkey : Reg.TRIP_CFG i ∉ storeKeys := by
    simp only [storeKeys, Reg.TRIP_CFG, Reg.CFG_SEQ, Reg.CFG_GEN, Reg.CFG_STATUS, Reg.key, List.mem_cons, List.not_mem_nil, or_false]
    omega
  have hpwm (r : State × Nat) : (stored (Reg.TRIP_CFG i) v.toNat r).pwm = r.1.pwm :=
    (stored_keeps (f := 262152) _ _ rfl (Keeps.refl _ r.1)).parts .pwm (by decide)
  refine Completes.ofKeeps (execTripCfgWrite_keeps i v s) rfl fun hk => ⟨(stored_reg hkey ..).trans hcfg, fun hn ho => ?_, hk.partsKept_of⟩
  rw [hpwm, regBit_of_reg i (stored_reg (by decide) ..), hen hn ho]
  exact ⟨tripSee_active .., tripSee_at ..⟩

theorem forceOffWrite_refused (hb : s.builtin = true) (hj : j.val < 3) (hm : s.reg Reg.MODE ≠ 0) : Completes (.forceOffWrite j v) s (· = s) :=
  Completes.of rfl (congrArg Prod.fst (if_pos (by simp [hb, hj, hm])))

theorem forceOffWrite_taken (h : s.builtin = false ∨ 3 ≤ j.val ∨ s.reg Reg.MODE = 0) : Completes (.forceOffWrite j v) s fun u =>
    u.reg (Reg.FORCE_OFF j) = v.toNat ∧
    (∀ b : Fin 32, v.getLsbD b = true → s.regBit (Reg.FORCE_OFF j) b = false → (u.chan (32 * j + b)).out = false) ∧
    RegsKept [Reg.FORCE_OFF j] s u ∧ PartsKept [.free, .regs, .pwm] s u := by
  obtain ⟨hregs, hoff⟩ := actForceOff_spec s v.isLt h
  refine Completes.ofKeeps (execForceOffWrite_keeps j v s) rfl fun hk =>
    ⟨?_, fun b hb ho => hoff b b.2 ((bit_toNat v b).trans hb) ho, ?_, hk.partsKept_of⟩
  · exact (reg_of_regs hregs _).trans (reg_setReg_self ..)
  · exact (RegsKept.setReg s _ _).trans (.of_regs hregs)

/-- Settles O30: each command by the lemma on what it does; the filter's condition is `State.tripRun`. -/
theorem tripRules : Obligations.TripRules := by
  unfold Obligations.TripRules
  intro s i j m v t n r run
  have hrun : run ↔ s.tripRun i t = true := (tripRun_iff s).symm
  exact ⟨fun he ha hr => tripDecision_fault s i t ha (hrun.1 hr) he, fun he ha hr => tripDecision_disabled s i t ha (hrun.1 hr) he,
    fun hr => trip_notRun s i t (Bool.eq_false_iff.2 fun h => hr (hrun.2 h)), fun ha hr => tripInputInactive_spec s i t ha (hrun.1 hr),
    tripAutoClear_spec s i t, tripClear_spec s m, tripCfgWrite_refused s i v, tripCfgWrite_stored s i v, forceOffWrite_refused s j v,
    forceOffWrite_taken s j v⟩

end Sys2Proof
end

section
/-!
The output stages (O29) fail: their clause on a leg's two turn-ons speaks of every number of an even channel, beyond the device's 256 as well,
where the registers of a channel are those of another object.
-/

namespace Sys2Proof

open Machine

/-- Pair 3003 is a leg, and both its turn-ons come at instant 0, that of channel 6007 first. PAIR_SHOOT of this pair is FORCE_OFF of channels
5984 to 6015; it is one count below the value that names channel 6006. -/
def beyondChannels : State :=
  { regs := [(Reg.PWM_STATUS, 0), (Reg.PAIR_DT 3003, 2 ^ 31), (Reg.PAIR_SHOOT 3003, 2 ^ 22 - 1)]
    pwm := { chans := [(6007, { out := true })], edges := [⟨6007, true, 0⟩] } }

theorem beyondChannels_oddFirst : beyondChannels.oddFirst 6006 0 = true := by decide +kernel

/-- The turn-on held of channel 6007 is counted, and the count forces channel 6006 off. -/
theorem beyondChannels_stage5On : ((stage5On 6006 0 beyondChannels).chan 6006).out = false := by decide +kernel

/-- Refutes O29: in `beyondChannels` the turn-on of channel 6006, which comes before that of 6007, does not reach its output. -/
theorem not_outputStages : ¬ Obligations.OutputStages := by
  unfold Obligations.OutputStages
  intro h
  obtain ⟨-, -, -, hboth, -⟩ := h beyondChannels 0 0
  obtain ⟨hout, -⟩ := hboth 6006 0 beyondChannels_oddFirst
  rw [beyondChannels_stage5On] at hout
  cases hout

end Sys2Proof
end

section
/-!
SUPPORT. The drivers (07_gate_links_and_drivers.md, R217 to R225): what each operation of a local driver leaves of its state and of its
status register.
-/

namespace Sys2Proof.Machine

variable (s : State)

/-! ## Flags -/

/-- A flag read after another field of its register was written. -/
theorem flag_setFlag_disjoint (k : Nat) {f g : Fld} (b : Bool) (h : f.lo + f.w ≤ g.lo ∨ g.lo + g.w ≤ f.lo) :
    (s.setFlag k g b).flag k f = s.flag k f :=
  congrArg (· == 1) (fld_setFld_disjoint s k (b2n b) h)

theorem fget_eq_one_iff (k : Nat) (f : Fld) : fget f (s.reg k) = 1 ↔ s.flag k f = true := beq_iff_eq.symm

/-- A field of one bit is 0 where it is not 1. -/
theorem fget_eq_zero_iff (k : Nat) {f : Fld} (h : f.w = 1) : fget f (s.reg k) = 0 ↔ s.flag k f = false := by
  have hlt : fget f (s.reg k) < 2 ^ f.w := Nat.mod_lt _ (Nat.two_pow_pos f.w)
  rw [h] at hlt
  rw [← Bool.not_eq_true, ← fget_eq_one_iff]
  omega

/-! ## The commanded level of a side (R218, R220, R222, R225) -/

theorem ld_setLd (n i : Nat) (d : Ldrv) : (s.setLd n d).ld i = if i = n then d else s.ld i := tabGet_set _ _ _ _ _

@[simp] theorem ld_setLd_self (n : Nat) (d : Ldrv) : (s.setLd n d).ld n = d := tabGet_set_self _ _ _ _

theorem ld_of_lds {s u : State} (h : u.lds = s.lds) (n : Nat) : u.ld n = s.ld n := by unfold State.ld; rw [h]

variable {s} {n : Nat}

/-- A driver that does not run, or without its supply, is off. -/
theorem ldWant_off (h : (s.ld n).run = false ∨ s.flag (Reg.LD_STATUS n) F.LD_STATUS_VDRV_UV = true) : s.ldWant n = (false, false) := by
  unfold State.ldWant
  simp only [fget_eq_one_iff]
  rw [if_pos]
  obtain h | h := h <;> simp [h]

/-- With BSTUV raised, or in STATIC_LOW, the high side is off. -/
theorem ldWant_high (h : s.flag (Reg.LD_STATUS n) F.LD_STATUS_BSTUV = true ∨ s.fld (Reg.LD_CFG n) F.LD_CFG_MODE = 2) :
    (s.ldWant n).1 = false := by
  unfold State.ldWant
  simp only [fget_eq_zero_iff s (Reg.LD_STATUS n) (f := F.LD_STATUS_BSTUV) rfl]
  split
  · rfl
  · split
    · rfl
    · obtain h | h := h
      · simp [h]
      · simp [State.ldLevel, h]

/-- A driver that waits for its bootstrap capacitor, or is in STATIC_LOW, has its low side on. -/
theorem ldWant_low (hr : (s.ld n).run = true) (hv : s.flag (Reg.LD_STATUS n) F.LD_STATUS_VDRV_UV = false)
    (hl : s.flag (Reg.LD_STATUS n) F.LD_STATUS_LATCHED = false)
    (h : s.flag (Reg.LD_STATUS n) F.LD_STATUS_BST_WAIT = true ∨ s.fld (Reg.LD_CFG n) F.LD_CFG_MODE = 2) : s.ldWant n = (false, true) := by
  unfold State.ldWant
  simp only [fget_eq_one_iff]
  rw [if_neg (by simp [hr, hv, hl])]
  split
  · rfl
  · next hw =>
    obtain h | h := h
    · exact absurd h hw
    · simp [State.ldLevel, h]

/-! ## The outputs (R218, R219) -/

/-- Of a driver, its sides and its refresh may have changed alone. -/
structure OutputsOnly (d d' : Ldrv) : Prop where
  run : d'.run = d.run
  stopping : d'.stopping = d.stopping
  pendDisable : d'.pendDisable = d.pendDisable
  level : d'.level = d.level
  edges : d'.edges = d.edges
  waitAt : d'.waitAt = d.waitAt
  retry : d'.retry = d.retry

theorem OutputsOnly.trans {d d' d'' : Ldrv} (h : OutputsOnly d d') (k : OutputsOnly d' d'') : OutputsOnly d d'' :=
  ⟨k.run.trans h.run, k.stopping.trans h.stopping, k.pendDisable.trans h.pendDisable, k.level.trans h.level, k.edges.trans h.edges,
    k.waitAt.trans h.waitAt, k.retry.trans h.retry⟩

theorem ldOn_on (x other : Side) (dt t : Instant) : (ldOn x other dt t).1.on = true := by
  unfold ldOn
  split
  · assumption
  · split <;> rfl

/-- A turn-off leaves a side off. -/
theorem sideOff_on (x : Side) (t : Instant) : (if x.on && !false then ({ on := false, at_ := t } : Side) else x).on = false := by
  split
  · rfl
  · next h => simpa using h

variable (s n) (t : Instant)

/-- What applying the outputs does to the driver: each side is as it is commanded. -/
theorem ldApply_ld : OutputsOnly (s.ld n) ((ldApply n t s).ld n) ∧ ((ldApply n t s).ld n).high.on = (s.ldWant n).1 ∧
    ((ldApply n t s).ld n).low.on = (s.ldWant n).2 := by
  obtain ⟨h, l, r, c, e, hh, hl⟩ : ∃ h l r, ∃ c : Bool, ldApply n t s =
      (if c then (s.setLd n { s.ld n with high := h, low := l, refreshAt := r }).setFlag (Reg.LD_STATUS n) F.LD_STATUS_SHOOT true
        else s.setLd n { s.ld n with high := h, low := l, refreshAt := r }) ∧ h.on = (s.ldWant n).1 ∧ l.on = (s.ldWant n).2 := by
    refine ⟨_, _, _, _, rfl, ?_, ?_⟩
    · cases (s.ldWant n).1
      · exact sideOff_on _ t
      · exact ldOn_on ..
    · cases (s.ldWant n).2
      · exact sideOff_on _ t
      · exact ldOn_on ..
  have hld : (ldApply n t s).ld n = { s.ld n with high := h, low := l, refreshAt := r } := by
    rw [e]
    split <;> exact ld_setLd_self ..
  rw [hld]
  exact ⟨⟨rfl, rfl, rfl, rfl, rfl, rfl, rfl⟩, hh, hl⟩

theorem ldApply_ld_other {i : Nat} (h : i ≠ n) : (ldApply n t s).ld i = s.ld i := by
  obtain ⟨x, e | e⟩ := ldApply_cases s n t <;> rw [e] <;> exact (ld_setLd ..).trans (if_neg h)

/-- The fields of LD_STATUS but SHOOT stand. -/
theorem ldApply_flag {f : Fld} (h : f.lo + f.w ≤ 2 ∨ 3 ≤ f.lo) : (ldApply n t s).flag (Reg.LD_STATUS n) f = s.flag (Reg.LD_STATUS n) f := by
  obtain ⟨x, e | e⟩ := ldApply_cases s n t <;> rw [e]
  · rfl
  · exact flag_setFlag_disjoint _ _ _ h

theorem ldApply_regsKept : RegsKept [Reg.LD_STATUS n] s (ldApply n t s) := fun _ h => ldApply_reg_other s n t (List.ne_of_not_mem_cons h)

/-! ## The start sequence (R220) -/

/-- Whether a start waits for the bootstrap capacitor: in a mode with the high side, with the drivers' supply present. -/
def State.ldWaits : Bool := s.fld (Reg.LD_CFG n) F.LD_CFG_MODE != 2 && !s.flag (Reg.LD_STATUS n) F.LD_STATUS_VDRV_UV

/-- The driver runs from an instant on, with its channel followed and its wait shown. -/
def ldStarting : State := (followTake n (s.setLd n { s.ld n with run := true, waitAt := t })).setFlag (Reg.LD_STATUS n) F.LD_STATUS_BST_WAIT (s.ldWaits n)

theorem ldStart_eq : ldStart n t s = ldApply n t (ldStarting s n t) := rfl

theorem followTake_ld : ∃ lv es, (followTake n s).ld n = { s.ld n with level := lv, edges := es } := ⟨_, _, ld_setLd_self ..⟩

theorem ldStarting_ld : ∃ lv es, (ldStarting s n t).ld n = { s.ld n with run := true, waitAt := t, level := lv, edges := es } := by
  obtain ⟨lv, es, h⟩ := followTake_ld (s.setLd n { s.ld n with run := true, waitAt := t }) n
  rw [ld_setLd_self] at h
  exact ⟨lv, es, h⟩

theorem ldStarting_reg (j : Nat) :
    (ldStarting s n t).reg j = (s.setFlag (Reg.LD_STATUS n) F.LD_STATUS_BST_WAIT (s.ldWaits n)).reg j := rfl

theorem ldStart_ld : ((ldStart n t s).ld n).run = true ∧ ((ldStart n t s).ld n).waitAt = t ∧ ((ldStart n t s).ld n).retry = (s.ld n).retry := by
  obtain ⟨lv, es, hw⟩ := ldStarting_ld s n t
  obtain ⟨ho, -⟩ := ldApply_ld (ldStarting s n t) n t
  rw [ldStart_eq, ho.run, ho.waitAt, ho.retry, hw]
  exact ⟨rfl, rfl, rfl⟩

theorem ldStart_wait : (ldStart n t s).flag (Reg.LD_STATUS n) F.LD_STATUS_BST_WAIT = s.ldWaits n := by
  rw [ldStart_eq, ldApply_flag _ _ _ (by decide), flag_of_reg _ (ldStarting_reg ..), flag_setFlag_self _ _ _ _ (by decide)]

/-- The fields of LD_STATUS but SHOOT and BST_WAIT stand. -/
theorem ldStart_flag {f : Fld} (h : f.lo + f.w ≤ 2 ∨ 3 ≤ f.lo) (hb : f.lo + f.w ≤ 4 ∨ 5 ≤ f.lo) :
    (ldStart n t s).flag (Reg.LD_STATUS n) f = s.flag (Reg.LD_STATUS n) f := by
  rw [ldStart_eq, ldApply_flag _ _ _ h, flag_of_reg _ (ldStarting_reg ..), flag_setFlag_disjoint _ _ _ hb]

theorem ldStart_regsKept : RegsKept [Reg.LD_STATUS n] s (ldStart n t s) := fun _ h => ldStart_reg_other s n t (List.ne_of_not_mem_cons h)

theorem ldStart_ld_other {i : Nat} (h : i ≠ n) : (ldStart n t s).ld i = s.ld i := by
  unfold ldStart followTake
  rw [ldApply_ld_other _ _ _ h]
  exact ((ld_setLd ..).trans (if_neg h)).trans ((ld_setLd ..).trans (if_neg h))

/-- With its supply and no latched fault, a driver that starts has its low side on and its high side off. -/
theorem ldStart_sides (hn : n < 8) (hv : s.flag (Reg.LD_STATUS n) F.LD_STATUS_VDRV_UV = false)
    (hl : s.flag (Reg.LD_STATUS n) F.LD_STATUS_LATCHED = false) :
    ((ldStart n t s).ld n).high.on = false ∧ ((ldStart n t s).ld n).low.on = true := by
  obtain ⟨lv, es, hld⟩ := ldStarting_ld s n t
  have hcfg : (ldStarting s n t).reg (Reg.LD_CFG n) = s.reg (Reg.LD_CFG n) :=
    (ldStarting_reg ..).trans (reg_setFlag_other _ _ _ (key_ne_of_index (by decide) (by omega) (by omega)))
  have hmode : (ldStarting s n t).fld (Reg.LD_CFG n) F.LD_CFG_MODE = s.fld (Reg.LD_CFG n) F.LD_CFG_MODE := congrArg (fget _) hcfg
  have hwant : (ldStarting s n t).ldWant n = (false, true) := by
    refine ldWant_low (by rw [hld]) ?_ ?_ ?_
    · rw [flag_of_reg _ (ldStarting_reg ..), flag_setFlag_disjoint _ _ _ (by decide), hv]
    · rw [flag_of_reg _ (ldStarting_reg ..), flag_setFlag_disjoint _ _ _ (by decide), hl]
    · rw [flag_of_reg _ (ldStarting_reg ..), flag_setFlag_self _ _ _ _ (by decide), State.ldWaits, hv, hmode]
      by_cases hm : s.fld (Reg.LD_CFG n) F.LD_CFG_MODE = 2
      · exact .inr hm
      · exact .inl (by simp [hm])
  obtain ⟨-, hhigh, hlow⟩ := ldApply_ld (ldStarting s n t) n t
  rw [ldStart_eq, hhigh, hlow, hwant]
  exact ⟨rfl, rfl⟩

/-! ## Success, BSTUV, shutdown (R222, R224, Table 1-7) -/

theorem ldSuccess_ld : ∃ r, (ldSuccess n s).ld n = { s.ld n with retry := r } := by
  unfold ldSuccess
  dsimp only
  split
  · exact ⟨_, ld_setLd_self ..⟩
  · exact ⟨_, rfl⟩

/-- A start that has succeeded shows neither the wait nor BSTUV. -/
theorem ldSuccess_clears : (ldSuccess n s).flag (Reg.LD_STATUS n) F.LD_STATUS_BST_WAIT = false ∧
    (ldSuccess n s).flag (Reg.LD_STATUS n) F.LD_STATUS_BSTUV = false := by
  have hw := flag_setFlag_self s (Reg.LD_STATUS n) F.LD_STATUS_BST_WAIT false (by decide)
  unfold ldSuccess
  dsimp only
  split
  · exact ⟨(flag_setFlag_disjoint _ _ _ (by decide)).trans hw, flag_setFlag_self _ _ _ _ (by decide)⟩
  · next h => exact ⟨hw, by simpa using h⟩

theorem ldSuccess_flag {f : Fld} (hw : f.lo + f.w ≤ 4 ∨ 5 ≤ f.lo) (hb : f.lo + f.w ≤ 6 ∨ 7 ≤ f.lo) :
    (ldSuccess n s).flag (Reg.LD_STATUS n) f = s.flag (Reg.LD_STATUS n) f := by
  have h0 := flag_setFlag_disjoint s (Reg.LD_STATUS n) (g := F.LD_STATUS_BST_WAIT) false hw
  unfold ldSuccess
  dsimp only
  split
  · exact (flag_setFlag_disjoint _ _ _ hb).trans h0
  · exact h0

theorem ldSuccess_regsKept : RegsKept [Reg.LD_STATUS n] s (ldSuccess n s) := by
  have h0 : RegsKept [Reg.LD_STATUS n] s (s.setFlag (Reg.LD_STATUS n) F.LD_STATUS_BST_WAIT false) := RegsKept.setReg s _ _
  unfold ldSuccess
  dsimp only
  split
  · exact h0.trans (RegsKept.setReg _ _ _)
  · exact h0

/-- A driver's latched fault shown, before its outputs follow. -/
def ldLatched : State := (s.setFlag (Reg.LD_STATUS n) F.LD_STATUS_LATCHED true).setRegBit Reg.DRV_LATCHED n true

theorem ldLatch_eq : ldLatch n s = ldApply n s.now (ldLatched s n) := rfl

theorem ldLatched_flag (hn : n < 8) {f : Fld} (hf : f.lo + f.w ≤ 7) :
    (ldLatched s n).flag (Reg.LD_STATUS n) f = s.flag (Reg.LD_STATUS n) f := by
  have hreg : (ldLatched s n).reg (Reg.LD_STATUS n) = _ :=
    reg_setRegBit_other _ n true (key_ne_of_index (by decide) (by omega) (by decide))
  rw [flag_of_reg _ hreg, flag_setFlag_disjoint _ _ _ (.inl hf)]

theorem ldLatch_flag (hn : n < 8) {f : Fld} (h : f.lo + f.w ≤ 2 ∨ 3 ≤ f.lo) (hf : f.lo + f.w ≤ 7) :
    (ldLatch n s).flag (Reg.LD_STATUS n) f = s.flag (Reg.LD_STATUS n) f :=
  (ldApply_flag (ldLatched s n) n s.now h).trans (ldLatched_flag s n hn hf)

theorem ldLatch_regsKept : RegsKept [Reg.LD_STATUS n, Reg.DRV_LATCHED] s (ldLatch n s) := by
  have h : RegsKept [Reg.LD_STATUS n, Reg.DRV_LATCHED] s (ldLatched s n) :=
    RegsKept.step (RegsKept.step (regsKept_refl s _) (by simp)) (by simp)
  exact h.trans ((ldApply_regsKept (ldLatched s n) n s.now).mono (by simp))

/-- The latch of BSTUV leaves the high side off, and of the driver nothing but its outputs changes. -/
theorem ldLatch_ld (hn : n < 8) (hb : s.flag (Reg.LD_STATUS n) F.LD_STATUS_BSTUV = true) :
    OutputsOnly (s.ld n) ((ldLatch n s).ld n) ∧ ((ldLatch n s).ld n).high.on = false := by
  obtain ⟨ho, hh, -⟩ := ldApply_ld (ldLatched s n) n s.now
  exact ⟨ho, hh.trans (ldWant_high (.inl ((ldLatched_flag s n hn (by decide)).trans hb)))⟩

/-- A decision of BSTUV shown, before the outputs follow. -/
def ldDecided : State :=
  (State.setLd (s.setFlag (Reg.LD_STATUS n) F.LD_STATUS_BSTUV true) n
    { s.ld n with retry := { (s.ld n).retry with decision := s.now }, refreshAt := none }).setFlag (Reg.LD_STATUS n) F.LD_STATUS_BST_WAIT false

theorem ldBstuv_eq : ∃ latch : Bool, ldBstuv n s =
    if latch then ldLatch n (ldApply n s.now (ldDecided s n)) else ldApply n s.now (ldDecided s n) := ⟨_, rfl⟩

theorem ldDecided_ld : (ldDecided s n).ld n = { s.ld n with retry := { (s.ld n).retry with decision := s.now }, refreshAt := none } :=
  (ld_of_lds (setReg_lds ..) n).trans (ld_setLd_self ..)

theorem ldDecided_status : (ldDecided s n).flag (Reg.LD_STATUS n) F.LD_STATUS_BSTUV = true ∧
    (ldDecided s n).flag (Reg.LD_STATUS n) F.LD_STATUS_BST_WAIT = false :=
  ⟨(flag_setFlag_disjoint _ _ _ (by decide)).trans (flag_setFlag_self s _ _ true (by decide)), flag_setFlag_self _ _ _ _ (by decide)⟩

theorem ldDecided_regsKept : RegsKept [Reg.LD_STATUS n] s (ldDecided s n) :=
  (RegsKept.setReg s _ _).trans (RegsKept.setReg (State.setLd (s.setFlag (Reg.LD_STATUS n) F.LD_STATUS_BSTUV true) n _) _ _)

theorem ldBstuv_regsKept : RegsKept [Reg.LD_STATUS n, Reg.DRV_LATCHED] s (ldBstuv n s) := by
  have h : RegsKept [Reg.LD_STATUS n, Reg.DRV_LATCHED] s (ldApply n s.now (ldDecided s n)) :=
    ((ldDecided_regsKept s n).trans (ldApply_regsKept _ n s.now)).mono (by simp)
  obtain ⟨latch, e⟩ := ldBstuv_eq s n
  rw [e]
  split
  · exact h.trans (ldLatch_regsKept _ n)
  · exact h

/-- A decision of BSTUV is shown, and the wait has ended. -/
theorem ldBstuv_status (hn : n < 8) : (ldBstuv n s).flag (Reg.LD_STATUS n) F.LD_STATUS_BSTUV = true ∧
    (ldBstuv n s).flag (Reg.LD_STATUS n) F.LD_STATUS_BST_WAIT = false := by
  obtain ⟨hb, hw⟩ := ldDecided_status s n
  have hb' := (ldApply_flag (ldDecided s n) n s.now (by decide)).trans hb
  have hw' := (ldApply_flag (ldDecided s n) n s.now (by decide)).trans hw
  obtain ⟨latch, e⟩ := ldBstuv_eq s n
  rw [e]
  split
  · exact ⟨(ldLatch_flag _ n hn (by decide) (by decide)).trans hb', (ldLatch_flag _ n hn (by decide) (by decide)).trans hw'⟩
  · exact ⟨hb', hw'⟩

/-- Of the driver, a decision of BSTUV changes its outputs and its history's last decision: the high side is off. -/
theorem ldBstuv_ld (hn : n < 8) : OutputsOnly { s.ld n with retry := { (s.ld n).retry with decision := s.now } } ((ldBstuv n s).ld n) ∧
    ((ldBstuv n s).ld n).high.on = false := by
  obtain ⟨hb, -⟩ := ldDecided_status s n
  obtain ⟨ho, hh, -⟩ := ldApply_ld (ldDecided s n) n s.now
  have hb' := (ldApply_flag (ldDecided s n) n s.now (by decide)).trans hb
  rw [ldWant_high (.inl hb)] at hh
  rw [ldDecided_ld] at ho
  have ho' : OutputsOnly { s.ld n with retry := { (s.ld n).retry with decision := s.now } } ((ldApply n s.now (ldDecided s n)).ld n) :=
    ⟨ho.run, ho.stopping, ho.pendDisable, ho.level, ho.edges, ho.waitAt, ho.retry⟩
  obtain ⟨latch, e⟩ := ldBstuv_eq s n
  rw [e]
  split
  · obtain ⟨hl, hoff⟩ := ldLatch_ld _ n hn hb'
    exact ⟨ho'.trans hl, hoff⟩
  · exact ⟨ho', hh⟩

/-- A driver that shuts down, before its outputs follow. -/
def ldStopped : State :=
  (s.setLd n { s.ld n with run := false, stopping := true, pendDisable := false, refreshAt := none }).setFlag (Reg.LD_STATUS n)
    F.LD_STATUS_BST_WAIT false

theorem ldShutdown_eq (h : (s.ld n).run = true) : ldShutdown n s = ldApply n s.now (ldStopped s n) := if_pos h

theorem ldStopped_ld : (ldStopped s n).ld n = { s.ld n with run := false, stopping := true, pendDisable := false, refreshAt := none } :=
  (ld_of_lds (setReg_lds ..) n).trans (ld_setLd_self ..)

theorem ldShutdown_flag {f : Fld} (h : f.lo + f.w ≤ 2 ∨ 3 ≤ f.lo) (hb : f.lo + f.w ≤ 4 ∨ 5 ≤ f.lo) :
    (ldShutdown n s).flag (Reg.LD_STATUS n) f = s.flag (Reg.LD_STATUS n) f := by
  by_cases hr : (s.ld n).run = true
  · rw [ldShutdown_eq s n hr, ldApply_flag _ _ _ h]
    exact flag_setFlag_disjoint (s.setLd n _) _ _ hb
  · rw [ldShutdown, if_neg hr]

theorem ldShutdown_regsKept : RegsKept [Reg.LD_STATUS n] s (ldShutdown n s) := by
  by_cases hr : (s.ld n).run = true
  · rw [ldShutdown_eq s n hr]
    exact (RegsKept.setReg (s.setLd n _) _ _).trans (ldApply_regsKept (ldStopped s n) n s.now)
  · rw [ldShutdown, if_neg hr]
    exact regsKept_refl s _

/-- A driver that runs shuts down: it stops with both sides off, and its wait ends. -/
theorem ldShutdown_spec (hrun : (s.ld n).run = true) :
    ((ldShutdown n s).ld n).run = false ∧ ((ldShutdown n s).ld n).stopping = true ∧ ((ldShutdown n s).ld n).retry = (s.ld n).retry ∧
    ((ldShutdown n s).ld n).high.on = false ∧ ((ldShutdown n s).ld n).low.on = false ∧
    (ldShutdown n s).flag (Reg.LD_STATUS n) F.LD_STATUS_BST_WAIT = false := by
  have hld := ldStopped_ld s n
  obtain ⟨ho, hh, hl⟩ := ldApply_ld (ldStopped s n) n s.now
  rw [ldWant_off (.inl (by rw [hld]))] at hh hl
  rw [ldShutdown_eq s n hrun, ho.run, ho.stopping, ho.retry, hld]
  exact ⟨rfl, rfl, rfl, hh, hl, (ldApply_flag _ n s.now (by decide)).trans (flag_setFlag_self _ _ _ _ (by decide))⟩

/-- A driver that does not run is off, and a shutdown leaves its high side so. -/
theorem ldShutdown_high (h : (s.ld n).high.on = false) : ((ldShutdown n s).ld n).high.on = false := by
  by_cases hr : (s.ld n).run = true
  · obtain ⟨-, -, -, hh, -⟩ := ldShutdown_spec s n hr
    exact hh
  · rw [ldShutdown, if_neg hr, h]

theorem ldShutdown_retry : ((ldShutdown n s).ld n).retry = (s.ld n).retry := by
  by_cases hr : (s.ld n).run = true
  · obtain ⟨-, -, h, -⟩ := ldShutdown_spec s n hr
    exact h
  · rw [ldShutdown, if_neg hr]

theorem ldShutdown_wait (h : s.flag (Reg.LD_STATUS n) F.LD_STATUS_BST_WAIT = false) :
    (ldShutdown n s).flag (Reg.LD_STATUS n) F.LD_STATUS_BST_WAIT = false := by
  by_cases hr : (s.ld n).run = true
  · obtain ⟨-, -, -, -, -, hw⟩ := ldShutdown_spec s n hr
    exact hw
  · rw [ldShutdown, if_neg hr, h]

end Sys2Proof.Machine
end

section
/-!
SUPPORT. A driver's enable bit written and stored (R30, R424), and what an enable then does by the driver's state.
-/

namespace Sys2Proof.Machine

/-- What a write of an enable bit leaves at an instant, before the unit takes it: the bit is set and stored. -/
structure EnableWritten (k : Nat) (f : Fld) (t : Instant) (s x : State) : Prop where
  now : x.now = (s.advance t).now
  lds : x.lds = s.lds
  sds : x.sds = s.sds
  law : x.law = s.law
  en : x.flag k f = true
  fld : ∀ g : Fld, (g.lo + g.w ≤ f.lo ∨ f.lo + f.w ≤ g.lo) → x.fld k g = s.fld k g
  reg : ∀ j, j ≠ k → j ∉ storeKeys → x.reg j = s.reg j

theorem enableWritten_storeRws (s : State) {k v : Nat} (t : Instant) {f : Fld} (hk : k ∉ storeKeys) (hf : 0 < f.w) :
    EnableWritten k f t s (storeRws k v ((s.advance t).setFlag k f true)) := by
  have hreg {j : Nat} (h : j ∉ storeKeys) : (storeRws k v ((s.advance t).setFlag k f true)).reg j = ((s.advance t).setFlag k f true).reg j :=
    stored_reg h k v (_, 0)
  have hkeep := stored_keeps (f := 262152) k v rfl (Keeps.refl _ ((s.advance t).setFlag k f true, 0).1)
  refine ⟨?_, hkeep.parts .lds (by decide), hkeep.parts .sds (by decide), hkeep.parts .law (by decide), ?_, fun g hg => ?_, fun j hj h => ?_⟩
  · exact hkeep.parts .now (by decide)
  · rw [flag_of_reg _ (hreg hk), flag_setFlag_self _ _ _ _ hf]
  · rw [State.fld, hreg hk]
    exact fld_setFld_disjoint _ _ _ hg
  · rw [hreg h, reg_setFlag_other _ _ _ hj]
    rfl

theorem EnableWritten.flag {k : Nat} {f : Fld} {t : Instant} {s x : State} (h : EnableWritten k f t s x) {j : Nat} (hj : j ≠ k) (hs : j ∉ storeKeys)
    (g : Fld) : x.flag j g = s.flag j g := flag_of_reg g (h.reg j hj hs)

/-- A value that the law and policy act on is as before where its register and the law's copy are. -/
theorem lbit_of_reg {s u : State} {k : Nat} (i : Nat) (hr : u.reg k = s.reg k) (hl : u.law = s.law) : u.lbit k i = s.lbit k i := by
  unfold State.lbit State.lreg
  rw [hr, hl]

theorem key_notMem_storeKeys {i a : Nat} (hi : i ≠ 0x2F30) (ha : a < 256) : Reg.key i a ∉ storeKeys := by
  simp only [storeKeys, Reg.CFG_SEQ, Reg.CFG_GEN, Reg.CFG_STATUS, Reg.key, List.mem_cons, List.not_mem_nil, or_false]
  omega

variable {s : State} {n : Nat}

/-! ## An enable of a local driver (R30, R32) -/

/-- A driver may run after its enable bit is written where it might before. -/
theorem EnableWritten.ldAllowed {t : Instant} {x : State} (h : EnableWritten (Reg.LD_CFG n) F.LD_CFG_EN t s x) (hn : n < 8) :
    x.ldAllowed n = s.ldAllowed n := by
  have hreg {i a : Nat} (hi : i ≠ 0x2F30 ∧ i ≠ 0x2B00) (ha : a < 256) : x.reg (Reg.key i a) = s.reg (Reg.key i a) :=
    h.reg _ (key_ne_of_index hi.2 ha (by omega)) (key_notMem_storeKeys hi.1 ha)
  have hon : x.reg Reg.PD_ON = s.reg Reg.PD_ON := hreg (by decide) (by decide)
  have hmode : x.reg Reg.MODE = s.reg Reg.MODE := hreg (by decide) (by decide)
  have hkeep : x.reg Reg.KEEP_LD = s.reg Reg.KEEP_LD := hreg (by decide) (by decide)
  unfold State.ldAllowed
  rw [regBit_of_reg _ hon, hmode, lbit_of_reg _ hkeep h.law]

theorem EnableWritten.ldStatus {t : Instant} {x : State} (h : EnableWritten (Reg.LD_CFG n) F.LD_CFG_EN t s x) (hn : n < 8) (f : Fld) :
    x.flag (Reg.LD_STATUS n) f = s.flag (Reg.LD_STATUS n) f :=
  h.flag (key_ne_of_index (by decide) (by omega) (by omega)) (key_notMem_storeKeys (by decide) (by omega)) f

theorem ldEnable_of_stopping (h : (s.ld n).stopping = true) : ldEnable n s = s.setFlag (Reg.LD_STATUS n) F.LD_STATUS_PENDING_ENABLE true :=
  if_pos h

theorem ldEnable_of_run (hs : (s.ld n).stopping = false) (h : (s.ld n).run = true) :
    ldEnable n s = s.setLd n { s.ld n with pendDisable := false } :=
  (if_neg (by simp [hs])).trans (if_pos h)

theorem ldEnable_of_allowed (hs : (s.ld n).stopping = false) (hr : (s.ld n).run = false) (ha : s.ldAllowed n = true)
    (hl : s.flag (Reg.LD_STATUS n) F.LD_STATUS_LATCHED = false) : ldEnable n s = ldStart n s.now s := by
  simp [ldEnable, hs, hr, ha, hl]

theorem ldEnable_of_refused (hs : (s.ld n).stopping = false) (hr : (s.ld n).run = false)
    (h : s.ldAllowed n = false ∨ s.flag (Reg.LD_STATUS n) F.LD_STATUS_LATCHED = true) : ldEnable n s = s := by
  obtain h | h := h <;> simp [ldEnable, hs, hr, h]

end Sys2Proof.Machine
end

section
/-!
The local drivers' commands (O37): enable, bootstrap, mode, followed edges, refresh, bootstrap undervoltage and its retry.
-/

namespace Sys2Proof

open Machine

variable (s : State) (n : Fin 8) (t : Instant)

/-! ## Enable (R220) -/

theorem LD_CFG_ne_LD_STATUS : Reg.LD_CFG n ≠ Reg.LD_STATUS n := key_ne_of_index (by decide) (by omega) (by omega)

theorem LD_CFG_notMem_storeKeys : Reg.LD_CFG n ∉ storeKeys := key_notMem_storeKeys (by decide) (by omega)

theorem exec_ldEnable : ∃ x, exec (.ldEnable n t) s = .next (ldEnable n x) ∧ EnableWritten (Reg.LD_CFG n) F.LD_CFG_EN t s x :=
  ⟨_, rfl, enableWritten_storeRws s t (LD_CFG_notMem_storeKeys n) (by decide)⟩

theorem ldEnable_starts (hr : (s.ld n).run = false) (hs : (s.ld n).stopping = false) (ha : s.ldAllowed n = true)
    (hl : s.flag (Reg.LD_STATUS n) F.LD_STATUS_LATCHED = false) :
    Completes (.ldEnable n t) s fun u => u.flag (Reg.LD_CFG n) F.LD_CFG_EN = true ∧ (u.ld n).run = true ∧ (u.ld n).waitAt = (s.advance t).now ∧
      u.flag (Reg.LD_STATUS n) F.LD_STATUS_BST_WAIT =
        (s.fld (Reg.LD_CFG n) F.LD_CFG_MODE != 2 && !s.flag (Reg.LD_STATUS n) F.LD_STATUS_VDRV_UV) ∧
      PartsKept [.now, .regs, .lds, .mram] s u := by
  obtain ⟨x, e, h⟩ := exec_ldEnable s n t
  have hld := ld_of_lds h.lds n
  rw [ldEnable_of_allowed (by rw [hld, hs]) (by rw [hld, hr]) ((h.ldAllowed n.isLt).trans ha) ((h.ldStatus n.isLt _).trans hl)] at e
  refine Completes.ofKeeps (execLdEnable_keeps n t s) e fun hk => ?_
  obtain ⟨hrun, hat, -⟩ := ldStart_ld x n x.now
  refine ⟨?_, hrun, hat.trans h.now, ?_, hk.partsKept_of⟩
  · rw [flag_of_reg _ (ldStart_reg_other x n _ (LD_CFG_ne_LD_STATUS n)), h.en]
  · rw [ldStart_wait, State.ldWaits, h.fld _ (by decide), h.ldStatus n.isLt]

theorem ldEnable_running (hr : (s.ld n).run = true) (hs : (s.ld n).stopping = false) :
    Completes (.ldEnable n t) s fun u => u.flag (Reg.LD_CFG n) F.LD_CFG_EN = true ∧ u.ld n = { s.ld n with pendDisable := false } := by
  obtain ⟨x, e, h⟩ := exec_ldEnable s n t
  have hld := ld_of_lds h.lds n
  rw [ldEnable_of_run (by rw [hld, hs]) (by rw [hld, hr])] at e
  exact Completes.of e ⟨h.en, by rw [ld_setLd_self, hld]⟩

theorem ldEnable_refused (hr : (s.ld n).run = false) (hs : (s.ld n).stopping = false)
    (ha : s.ldAllowed n = false ∨ s.flag (Reg.LD_STATUS n) F.LD_STATUS_LATCHED = true) :
    Completes (.ldEnable n t) s fun u => u.flag (Reg.LD_CFG n) F.LD_CFG_EN = true ∧ u.lds = s.lds := by
  obtain ⟨x, e, h⟩ := exec_ldEnable s n t
  have hld := ld_of_lds h.lds n
  rw [ldEnable_of_refused (by rw [hld, hs]) (by rw [hld, hr]) (by rwa [h.ldAllowed n.isLt, h.ldStatus n.isLt])] at e
  exact Completes.of e ⟨h.en, h.lds⟩

theorem ldEnable_stopping (hs : (s.ld n).stopping = true) :
    Completes (.ldEnable n t) s fun u => u.flag (Reg.LD_STATUS n) F.LD_STATUS_PENDING_ENABLE = true ∧ u.lds = s.lds := by
  obtain ⟨x, e, h⟩ := exec_ldEnable s n t
  rw [ldEnable_of_stopping (by rw [ld_of_lds h.lds, hs])] at e
  exact Completes.of e ⟨flag_setFlag_self _ _ _ _ (by decide), (setReg_lds _ _ _).trans h.lds⟩

/-! ## The bootstrap capacitor (R220, R222) -/

theorem VBST_ne_LD_STATUS : Reg.VBST n ≠ Reg.LD_STATUS n := key_ne_of_index (by decide) (by omega) (by omega)

/-- A measurement of VBST: the register and its mark of a low voltage. -/
def vbstShown (n v : Nat) (low : Bool) (s : State) : State := (s.setReg (Reg.VBST n) v).setFlag (Reg.LD_STATUS n) F.LD_STATUS_REFRESH_LOW low

theorem vbstShown_regsKept (v : Nat) (low : Bool) : RegsKept [Reg.VBST n, Reg.LD_STATUS n] s (vbstShown n v low s) :=
  RegsKept.step (RegsKept.step (regsKept_refl s _) (by simp)) (by simp)

theorem vbstShown_vbst (v : Nat) (low : Bool) : (vbstShown n v low s).reg (Reg.VBST n) = v :=
  (reg_setFlag_other _ _ _ (VBST_ne_LD_STATUS n)).trans (reg_setReg_self ..)

theorem vbstShown_low (v : Nat) (low : Bool) : (vbstShown n v low s).flag (Reg.LD_STATUS n) F.LD_STATUS_REFRESH_LOW = low :=
  flag_setFlag_self _ _ _ _ (by decide)

/-- A start that has succeeded at an instant, with the voltage that ended its wait. -/
def bootstrapped (n v : Nat) (t : Instant) (s : State) : State := ldSuccess n (vbstShown n v false (s.advance t))

theorem bootstrapped_regsKept (v : Nat) : RegsKept [Reg.VBST n, Reg.LD_STATUS n] s (bootstrapped n v t s) :=
  (vbstShown_regsKept (s.advance t) n v false).trans ((ldSuccess_regsKept _ n).mono (by simp))

theorem bootstrapped_vbst (v : Nat) : (bootstrapped n v t s).reg (Reg.VBST n) = v :=
  (ldSuccess_regsKept _ n _ (by simpa using VBST_ne_LD_STATUS n)).trans (vbstShown_vbst (s.advance t) n v false)

theorem bootstrapped_ld (v : Nat) : ∃ r, (bootstrapped n v t s).ld n = { s.ld n with retry := r } := ldSuccess_ld ..

theorem exec_ldBootstrapReady {v : BitVec 16} (hw : s.flag (Reg.LD_STATUS n) F.LD_STATUS_BST_WAIT = true) (hv : s.ldRefresh n ≤ v.toNat) :
    exec (.ldBootstrapReady n v t) s = .next (if (s.ld n).pendDisable then ldShutdown n (bootstrapped n v.toNat t s)
      else ldApply n (bootstrapped n v.toNat t s).now (bootstrapped n v.toNat t s)) := by
  have e : exec (.ldBootstrapReady n v t) s = if ((bootstrapped n v.toNat t s).ld n).pendDisable then
      .next (ldShutdown n (bootstrapped n v.toNat t s)) else .next (ldApply n (bootstrapped n v.toNat t s).now (bootstrapped n v.toNat t s)) :=
    if_pos (by simp [hw, hv])
  obtain ⟨r, hr⟩ := bootstrapped_ld s n t v.toNat
  rw [e, hr]
  split <;> rfl

theorem ldBootstrapReady_done {v : BitVec 16} (hw : s.flag (Reg.LD_STATUS n) F.LD_STATUS_BST_WAIT = true) (hv : s.ldRefresh n ≤ v.toNat)
    (hp : (s.ld n).pendDisable = false) :
    Completes (.ldBootstrapReady n v t) s fun u => u.reg (Reg.VBST n) = v.toNat ∧ u.flag (Reg.LD_STATUS n) F.LD_STATUS_BST_WAIT = false ∧
      u.flag (Reg.LD_STATUS n) F.LD_STATUS_REFRESH_LOW = false ∧ u.flag (Reg.LD_STATUS n) F.LD_STATUS_BSTUV = false ∧
      RegsKept [Reg.VBST n, Reg.LD_STATUS n] s u ∧ PartsKept [.now, .regs, .lds] s u := by
  have e := exec_ldBootstrapReady s n t hw hv
  rw [if_neg (by simp [hp])] at e
  refine Completes.ofKeeps (execLdBootstrapReady_keeps n v t s) e fun hk => ?_
  obtain ⟨hwait, hbstuv⟩ := ldSuccess_clears (vbstShown n v.toNat false (s.advance t)) n
  have hlow : (bootstrapped n v.toNat t s).flag (Reg.LD_STATUS n) F.LD_STATUS_REFRESH_LOW = false :=
    (ldSuccess_flag _ n (by decide) (by decide)).trans (vbstShown_low ..)
  refine ⟨?_, (ldApply_flag _ n _ (by decide)).trans hwait, (ldApply_flag _ n _ (by decide)).trans hlow,
    (ldApply_flag _ n _ (by decide)).trans hbstuv, ?_, hk.partsKept_of⟩
  · exact (ldApply_reg_other _ n _ (VBST_ne_LD_STATUS n)).trans (bootstrapped_vbst ..)
  · exact (bootstrapped_regsKept s n t v.toNat).trans ((ldApply_regsKept _ n _).mono (by simp))

theorem ldBootstrapReady_disabled {v : BitVec 16} (hw : s.flag (Reg.LD_STATUS n) F.LD_STATUS_BST_WAIT = true) (hv : s.ldRefresh n ≤ v.toNat)
    (hp : (s.ld n).pendDisable = true) (hr : (s.ld n).run = true) :
    Completes (.ldBootstrapReady n v t) s fun u => u.reg (Reg.VBST n) = v.toNat ∧ u.flag (Reg.LD_STATUS n) F.LD_STATUS_BST_WAIT = false ∧
      (u.ld n).run = false ∧ (u.ld n).stopping = true ∧ (u.ld n).high.on = false ∧ (u.ld n).low.on = false := by
  have e := exec_ldBootstrapReady s n t hw hv
  rw [if_pos hp] at e
  obtain ⟨r, hld⟩ := bootstrapped_ld s n t v.toNat
  obtain ⟨hrun, hstop, -, hhigh, hlow, hwait⟩ := ldShutdown_spec (bootstrapped n v.toNat t s) n (by rw [hld, hr])
  have hvbst := ldShutdown_regsKept (bootstrapped n v.toNat t s) n _ (by simpa using VBST_ne_LD_STATUS n)
  exact Completes.of e ⟨hvbst.trans (bootstrapped_vbst ..), hwait, hrun, hstop, hhigh, hlow⟩

theorem ldBootstrapReady_idle {v : BitVec 16} (h : s.flag (Reg.LD_STATUS n) F.LD_STATUS_BST_WAIT = false ∨ v.toNat < s.ldRefresh n) :
    Completes (.ldBootstrapReady n v t) s (· = s) := by
  refine Completes.of (if_neg ?_) rfl
  obtain h | h := h <;> simp [h]

/-- The wait of a start has lasted 1 ms: a failed retry is counted, BSTUV decided. -/
def bootstrapFailed (n : Nat) (t : Instant) (s : State) : State :=
  ldBstuv n (if s.flag (Reg.LD_STATUS n) F.LD_STATUS_BSTUV then
    (s.advance t).setLd n { s.ld n with retry := (s.advance t).countTry (s.ld n).retry (s.advance t).now } else s.advance t)

theorem bootstrapFailed_spec : (bootstrapFailed n t s).flag (Reg.LD_STATUS n) F.LD_STATUS_BSTUV = true ∧
    (bootstrapFailed n t s).flag (Reg.LD_STATUS n) F.LD_STATUS_BST_WAIT = false ∧ ((bootstrapFailed n t s).ld n).high.on = false ∧
    ((bootstrapFailed n t s).ld n).retry.decision = (s.advance t).now ∧ ((bootstrapFailed n t s).ld n).run = (s.ld n).run ∧
    ((bootstrapFailed n t s).ld n).pendDisable = (s.ld n).pendDisable := by
  have hx (x : State) (hnow : x.now = (s.advance t).now) (hrun : (x.ld n).run = (s.ld n).run)
      (hpend : (x.ld n).pendDisable = (s.ld n).pendDisable) : (ldBstuv n x).flag (Reg.LD_STATUS n) F.LD_STATUS_BSTUV = true ∧
      (ldBstuv n x).flag (Reg.LD_STATUS n) F.LD_STATUS_BST_WAIT = false ∧ ((ldBstuv n x).ld n).high.on = false ∧
      ((ldBstuv n x).ld n).retry.decision = (s.advance t).now ∧ ((ldBstuv n x).ld n).run = (s.ld n).run ∧
      ((ldBstuv n x).ld n).pendDisable = (s.ld n).pendDisable := by
    obtain ⟨hb, hw⟩ := ldBstuv_status x n n.isLt
    obtain ⟨ho, hh⟩ := ldBstuv_ld x n n.isLt
    exact ⟨hb, hw, hh, by rw [ho.retry, hnow], ho.run.trans hrun, ho.pendDisable.trans hpend⟩
  unfold bootstrapFailed
  split
  · exact hx _ rfl (by rw [ld_setLd_self]) (by rw [ld_setLd_self])
  · exact hx _ rfl rfl rfl

theorem ldBootstrapTimeout_due (hw : s.flag (Reg.LD_STATUS n) F.LD_STATUS_BST_WAIT = true) (ht : (s.ld n).waitAt + Sys2Proof.ms 1 ≤ t) :
    Completes (.ldBootstrapTimeout n t) s fun u => u.flag (Reg.LD_STATUS n) F.LD_STATUS_BSTUV = true ∧
      u.flag (Reg.LD_STATUS n) F.LD_STATUS_BST_WAIT = false ∧ (u.ld n).high.on = false ∧ (u.ld n).retry.decision = (s.advance t).now ∧
      ((s.ld n).pendDisable = true → (s.ld n).run = true → (u.ld n).run = false ∧ (u.ld n).stopping = true) ∧
      PartsKept [.now, .regs, .lds] s u := by
  obtain ⟨hb, hwait, hhigh, hdec, hrun, hpend⟩ := bootstrapFailed_spec s n t
  have e : exec (.ldBootstrapTimeout n t) s = if ((bootstrapFailed n t s).ld n).pendDisable then .next (ldShutdown n (bootstrapFailed n t s))
      else .next (bootstrapFailed n t s) := if_pos (by simp [hw, ht])
  rw [hpend] at e
  by_cases hp : (s.ld n).pendDisable = true
  · rw [if_pos hp] at e
    refine Completes.ofKeeps (execLdBootstrapTimeout_keeps n t s) e fun hk =>
      ⟨(ldShutdown_flag _ n (by decide) (by decide)).trans hb, ldShutdown_wait _ n hwait, ldShutdown_high _ n hhigh, ?_, fun _ hr => ?_,
        hk.partsKept_of⟩
    · rw [ldShutdown_retry, hdec]
    · obtain ⟨h1, h2, -⟩ := ldShutdown_spec (bootstrapFailed n t s) n (hrun.trans hr)
      exact ⟨h1, h2⟩
  · rw [if_neg hp] at e
    exact Completes.ofKeeps (execLdBootstrapTimeout_keeps n t s) e fun hk =>
      ⟨hb, hwait, hhigh, hdec, fun h => absurd h hp, hk.partsKept_of⟩

theorem ldBootstrapTimeout_idle (h : s.flag (Reg.LD_STATUS n) F.LD_STATUS_BST_WAIT = false ∨ t < (s.ld n).waitAt + Sys2Proof.ms 1) :
    Completes (.ldBootstrapTimeout n t) s (· = s) := by
  refine Completes.of (if_neg ?_) rfl
  obtain h | h := h
  · simp [h]
  · simpa [-not_le] using fun _ => Nat.not_le.2 h

/-! ## Mode and followed edges (R218) -/

theorem ldModeWrite_taken {m : BitVec 2} (hm : m ≠ 3) :
    Completes (.ldModeWrite n m t) s fun u => u.fld (Reg.LD_CFG n) F.LD_CFG_MODE = m.toNat ∧ (m = 2 → (u.ld n).high.on = false) ∧
      PartsKept [.now, .regs, .lds, .mram] s u := by
  have hlt : m.toNat < 3 := by
    have h3 : m.toNat ≠ 3 := fun h => hm (BitVec.eq_of_toNat_eq h)
    have := m.isLt
    omega
  obtain ⟨x, hx⟩ : ∃ x, x = followTake n ((s.advance t).setFld (Reg.LD_CFG n) F.LD_CFG_MODE m.toNat) := ⟨_, rfl⟩
  have hact : actLdMode n m.toNat (s.advance t) = (ldApply n (s.advance t).now x, stOK) := by
    rw [hx]
    exact if_neg (by omega)
  have hmode : x.fld (Reg.LD_CFG n) F.LD_CFG_MODE = m.toNat := by
    rw [hx]
    exact (fld_setFld_self (s.advance t) _ F.LD_CFG_MODE m.toNat).trans (Nat.mod_eq_of_lt (by have := m.isLt; exact this))
  have hreg (v : Nat) : (stored (Reg.LD_CFG n) v (ldApply n (s.advance t).now x, stOK)).reg (Reg.LD_CFG n) = x.reg (Reg.LD_CFG n) :=
    (stored_reg (LD_CFG_notMem_storeKeys n) ..).trans (ldApply_reg_other x n _ (LD_CFG_ne_LD_STATUS n))
  have hlds (v : Nat) : (stored (Reg.LD_CFG n) v (ldApply n (s.advance t).now x, stOK)).lds = (ldApply n (s.advance t).now x).lds :=
    (stored_keeps (f := 262152) _ v rfl (Keeps.refl _ (ldApply n (s.advance t).now x, stOK).1)).parts .lds (by decide)
  refine Completes.ofKeeps (execLdModeWrite_keeps n m t s) rfl fun hk => ?_
  rw [hact] at hk ⊢
  refine ⟨(congrArg (fget _) (hreg _)).trans hmode, fun h2 => ?_, hk.partsKept_of⟩
  obtain ⟨-, hh, -⟩ := ldApply_ld x n (s.advance t).now
  rw [ld_of_lds (hlds _), hh]
  exact ldWant_high (.inr (by rw [hmode, h2]; rfl))

theorem ldModeWrite_refused {m : BitVec 2} (hm : m = 3) : Completes (.ldModeWrite n m t) s (· = s.advance t) := by
  subst hm
  exact ⟨_, rfl, rfl⟩

theorem ldFollowEdge_idle (h : (s.ld n).edges = []) : Completes (.ldFollowEdge n) s (· = s) := by
  refine Completes.of (u := s) ?_ rfl
  show execLdFollowEdge n s = _
  unfold execLdFollowEdge
  dsimp only
  rw [h]

theorem ldFollowEdge_next {e : EdgeEv} {rest : List EdgeEv} (h : (s.ld n).edges = e :: rest) :
    Completes (.ldFollowEdge n) s fun u => (u.ld n).edges = rest ∧ (u.ld n).level = e.on ∧ u.now = max s.now ((e.tag : Int) + s.edgeOfs).toNat ∧
      RegsKept [Reg.LD_STATUS n] s u ∧ PartsKept [.now, .regs, .lds] s u := by
  obtain ⟨at_, hat⟩ : ∃ at_, at_ = ((e.tag : Int) + s.edgeOfs).toNat := ⟨_, rfl⟩
  have he : exec (.ldFollowEdge n) s = .next (ldApply n at_ ((s.advance at_).setLd n { s.ld n with edges := rest, level := e.on })) := by
    show execLdFollowEdge n s = _
    unfold execLdFollowEdge
    dsimp only
    rw [h, hat]
  refine Completes.ofKeeps (execLdFollowEdge_keeps n s) he fun hk => ?_
  obtain ⟨ho, -⟩ := ldApply_ld ((s.advance at_).setLd n { s.ld n with edges := rest, level := e.on }) n at_
  rw [ld_setLd_self] at ho
  refine ⟨ho.edges, ho.level, ?_, ldApply_regsKept _ n at_, hk.partsKept_of⟩
  rw [← hat]
  exact (ldApply_keeps n at_ _).parts .now (by decide)

/-! ## Refresh (R221) -/

/-- The registers of other objects than the voltage and the status stand. -/
theorem reg_of_vbstKept {s u : State} {n : Nat} (h : RegsKept [Reg.VBST n, Reg.LD_STATUS n] s u) {i a : Nat} (hi : i ≠ 0x2B06 ∧ i ≠ 0x2B07)
    (hn : n < 8) (ha : a < 256) : u.reg (Reg.key i a) = s.reg (Reg.key i a) := by
  refine h _ ?_
  simp only [Reg.VBST, Reg.LD_STATUS, Reg.key, List.mem_cons, List.not_mem_nil, or_false]
  omega

/-- A boundary of a driver is read from registers beside its status and its voltage, from the carriers and from the time. -/
theorem ldBoundary_of_regsKept {s u : State} {n : Nat} (hn : n < 8) (h : RegsKept [Reg.VBST n, Reg.LD_STATUS n] s u) (hp : u.pwm = s.pwm)
    (he : u.epoch = s.epoch) (t : Instant) : u.ldBoundary n t = s.ldBoundary n t := by
  have hcfg : u.reg (Reg.LD_CFG n) = s.reg (Reg.LD_CFG n) := reg_of_vbstKept h (by decide) hn (by omega)
  have hper : u.reg (Reg.RPER n) = s.reg (Reg.RPER n) := reg_of_vbstKept h (by decide) hn (by omega)
  have hofs : u.reg Reg.EDGE_OFS_ACT = s.reg Reg.EDGE_OFS_ACT := reg_of_vbstKept h (by decide) hn (by decide)
  have hfld (f : Fld) : u.fld (Reg.LD_CFG n) f = s.fld (Reg.LD_CFG n) f := congrArg (fget f) hcfg
  have hsrc : s.fld (Reg.LD_CFG n) F.LD_CFG_SRC < 256 := Nat.mod_lt _ (by decide)
  have hch : u.chCarrier (s.fld (Reg.LD_CFG n) F.LD_CFG_SRC) = s.chCarrier (s.fld (Reg.LD_CFG n) F.LD_CFG_SRC) :=
    congrArg (fget _) (reg_of_vbstKept h (by omega) hn (by omega))
  unfold State.ldBoundary State.carrier State.ptpAt State.edgeOfs State.sreg
  rw [hfld, hfld, hch, hper, hofs, hp, he]

variable {v : BitVec 16}

/-- The register and the mark that a command of a refresh shows first. -/
theorem exec_ldRefresh : exec (.ldRefresh n v t) s =
    let x := vbstShown n v.toNat (decide (v.toNat < s.ldRefresh n)) s
    let u := (x.advance t).bump (Reg.REFRESH_COUNT n)
    if decide (v.toNat < s.ldRefresh n) && x.flag (Reg.LD_CFG n) F.LD_CFG_REFRESH_EN && (s.ld n).high.on && decide ((s.ld n).high.at_ ≤ t) &&
        x.ldBoundary n t then
      .next (u.setLd n { s.ld n with
        refreshAt := some t
        lowOff := (s.ld n).low.at_
        low := { on := false, at_ := t + u.ldDt n + ns (u.reg (Reg.TREF n)) }
        high := { on := true, at_ := t + u.ldDt n + ns (u.reg (Reg.TREF n)) + u.ldDt n } })
    else .next x := by
  have h : (s.setReg (Reg.VBST n) v.toNat).ldRefresh n = s.ldRefresh n := by
    have h1 : Reg.VDRV ≠ Reg.VBST n := key_ne_of_index (by decide) (by decide) (by omega)
    have h2 : Reg.REF_TH n ≠ Reg.VBST n := key_ne_of_index (by decide) (by omega) (by omega)
    unfold State.ldRefresh
    rw [reg_setReg_other _ _ h1, reg_setReg_other _ _ h2]
  rw [← h]
  rfl

theorem ldRefresh_runs (hv : v.toNat < s.ldRefresh n) (hen : s.flag (Reg.LD_CFG n) F.LD_CFG_REFRESH_EN = true) (hh : (s.ld n).high.on = true)
    (hat : (s.ld n).high.at_ ≤ t) (hb : s.ldBoundary n t = true) :
    Completes (.ldRefresh n v t) s fun u => (u.ld n).refreshAt = some t ∧
      (u.ld n).low = { on := false, at_ := t + s.ldDt n + ns (s.reg (Reg.TREF n)) } ∧
      (u.ld n).high = { on := true, at_ := t + s.ldDt n + ns (s.reg (Reg.TREF n)) + s.ldDt n } ∧
      u.flag (Reg.LD_STATUS n) F.LD_STATUS_REFRESH_LOW = true ∧ PartsKept [.now, .free, .regs, .lds] s u := by
  have e := exec_ldRefresh s n t (v := v)
  rw [decide_eq_true hv] at e
  have hx := vbstShown_regsKept s n v.toNat true
  have hlow := vbstShown_low s n v.toNat true
  have hbound := ldBoundary_of_regsKept n.isLt hx rfl rfl t
  generalize vbstShown n v.toNat true s = x at e hx hlow hbound
  have hcfg : x.reg (Reg.LD_CFG n) = s.reg (Reg.LD_CFG n) := reg_of_vbstKept hx (by decide) n.isLt (by omega)
  dsimp only at e
  rw [if_pos (by simp [flag_of_reg _ hcfg, hen, hh, hat, hbound, hb])] at e
  have hcount {i a : Nat} (hi : i ≠ 0x2B08) (ha : a < 256) :
      ((x.advance t).bump (Reg.REFRESH_COUNT n)).reg (Reg.key i a) = x.reg (Reg.key i a) :=
    reg_bump_other (x.advance t) (key_ne_of_index hi ha (by omega))
  have hdt : ((x.advance t).bump (Reg.REFRESH_COUNT n)).ldDt n = s.ldDt n :=
    congrArg (· * sixteenth) ((hcount (by decide) (by omega)).trans (reg_of_vbstKept hx (by decide) n.isLt (by omega)))
  have htref : ((x.advance t).bump (Reg.REFRESH_COUNT n)).reg (Reg.TREF n) = s.reg (Reg.TREF n) :=
    (hcount (by decide) (by omega)).trans (reg_of_vbstKept hx (by decide) n.isLt (by omega))
  rw [hdt, htref] at e
  refine Completes.ofKeeps (execLdRefresh_keeps n v t s) e fun hk => ?_
  have hstat : ((x.advance t).bump (Reg.REFRESH_COUNT n)).reg (Reg.LD_STATUS n) = x.reg (Reg.LD_STATUS n) := hcount (by decide) (by omega)
  rw [ld_setLd_self]
  exact ⟨rfl, rfl, rfl, (flag_of_reg F.LD_STATUS_REFRESH_LOW hstat).trans hlow, hk.partsKept_of⟩

theorem ldRefresh_none (h : s.ldRefresh n ≤ v.toNat ∨ s.flag (Reg.LD_CFG n) F.LD_CFG_REFRESH_EN = false ∨ (s.ld n).high.on = false ∨
      t < (s.ld n).high.at_ ∨ s.ldBoundary n t = false) :
    Completes (.ldRefresh n v t) s fun u => u.reg (Reg.VBST n) = v.toNat ∧
      u.flag (Reg.LD_STATUS n) F.LD_STATUS_REFRESH_LOW = decide (v.toNat < s.ldRefresh n) ∧
      RegsKept [Reg.VBST n, Reg.LD_STATUS n] s u ∧ PartsKept [.regs] s u := by
  have hx := vbstShown_regsKept s n v.toNat (decide (v.toNat < s.ldRefresh n))
  have hcfg : (vbstShown n v.toNat (decide (v.toNat < s.ldRefresh n)) s).reg (Reg.LD_CFG n) = s.reg (Reg.LD_CFG n) :=
    reg_of_vbstKept hx (by decide) n.isLt (by omega)
  have e : exec (.ldRefresh n v t) s = .next (vbstShown n v.toNat (decide (v.toNat < s.ldRefresh n)) s) := by
    refine (exec_ldRefresh s n t).trans (if_neg ?_)
    rw [ldBoundary_of_regsKept n.isLt hx rfl rfl t, flag_of_reg _ hcfg]
    simp only [Bool.and_eq_true, decide_eq_true_eq]
    rintro ⟨⟨⟨⟨h1, h2⟩, h3⟩, h4⟩, h5⟩
    obtain h | h | h | h | h := h
    · omega
    · simp [h] at h2
    · simp [h] at h3
    · exact Nat.not_le.2 h h4
    · simp [h] at h5
  have hk : Keeps 8 s (vbstShown n v.toNat (decide (v.toNat < s.ldRefresh n)) s) := (State.setReg_keeps ..).trans (State.setFlag_keeps ..)
  exact Completes.of e ⟨vbstShown_vbst .., vbstShown_low .., hx, hk.partsKept_of⟩

/-! ## Bootstrap undervoltage and its retry (R222) -/

theorem ldBstuv_due (hh : (s.ld n).high.on = true) (hat : (s.ld n).high.at_ ≤ t)
    (hv : v.toNat < 6500 ∨ s.flag (Reg.LD_CFG n) F.LD_CFG_REFRESH_EN = false ∧ v.toNat < s.ldRefresh n) :
    Completes (.ldBstuv n v t) s fun u => u.flag (Reg.LD_STATUS n) F.LD_STATUS_BSTUV = true ∧ u.reg (Reg.VBST n) = v.toNat ∧
      (u.ld n).high.on = false ∧ (u.ld n).retry.decision = (s.advance t).now ∧ PartsKept [.now, .regs, .lds] s u := by
  obtain ⟨low, e⟩ : ∃ low, exec (.ldBstuv n v t) s = .next (ldBstuv n (vbstShown n v.toNat low (s.advance t))) := by
    refine ⟨_, if_pos ?_⟩
    obtain hv | ⟨hr, hv⟩ := hv <;> simp [hh, hat, hv]
    exact .inr hr
  have hvbst : Reg.VBST n ∉ [Reg.LD_STATUS n, Reg.DRV_LATCHED] := by
    simp only [Reg.VBST, Reg.LD_STATUS, Reg.DRV_LATCHED, Reg.key, List.mem_cons, List.not_mem_nil, or_false]
    omega
  obtain ⟨hb, -⟩ := ldBstuv_status (vbstShown n v.toNat low (s.advance t)) n n.isLt
  obtain ⟨ho, hoff⟩ := ldBstuv_ld (vbstShown n v.toNat low (s.advance t)) n n.isLt
  refine Completes.ofKeeps (execLdBstuv_keeps n v t s) e fun hk => ⟨hb, ?_, hoff, ?_, hk.partsKept_of⟩
  · exact (ldBstuv_regsKept _ n _ hvbst).trans (vbstShown_vbst ..)
  · rw [ho.retry]
    rfl

theorem ldBstuv_idle (h : (s.ld n).high.on = false ∨ t < (s.ld n).high.at_ ∨
      6500 ≤ v.toNat ∧ (s.flag (Reg.LD_CFG n) F.LD_CFG_REFRESH_EN = true ∨ s.ldRefresh n ≤ v.toNat)) :
    Completes (.ldBstuv n v t) s (· = s) := by
  refine Completes.of (if_neg ?_) rfl
  simp only [Bool.and_eq_true, Bool.or_eq_true, Bool.not_eq_true', decide_eq_true_eq]
  rintro ⟨⟨h1, h2⟩, h3⟩
  obtain h | h | ⟨h, h'⟩ := h
  · simp [h] at h1
  · exact Nat.not_le.2 h h2
  · obtain h3 | ⟨h3, h4⟩ := h3
    · omega
    · obtain h' | h' := h'
      · simp [h'] at h3
      · omega

/-- A retry of a start that need not wait succeeds at once. -/
def ldRetried (n : Nat) (s : State) : State :=
  if s.flag (Reg.LD_STATUS n) F.LD_STATUS_BST_WAIT then s else ldApply n s.now (ldSuccess n s)

theorem ldRetried_ld {s : State} (hv : s.flag (Reg.LD_STATUS n) F.LD_STATUS_VDRV_UV = false)
    (hl : s.flag (Reg.LD_STATUS n) F.LD_STATUS_LATCHED = false) (hr : (s.ld n).run = true)
    (hm : s.flag (Reg.LD_STATUS n) F.LD_STATUS_BST_WAIT = false → s.fld (Reg.LD_CFG n) F.LD_CFG_MODE = 2)
    (hs : (s.ld n).high.on = false ∧ (s.ld n).low.on = true) : ((ldRetried n s).ld n).waitAt = (s.ld n).waitAt ∧
      ((ldRetried n s).ld n).high.on = false ∧ ((ldRetried n s).ld n).low.on = true := by
  unfold ldRetried
  split
  · exact ⟨rfl, hs⟩
  · next hw =>
    obtain ⟨r, hld⟩ := ldSuccess_ld s n
    obtain ⟨ho, hh, hlow⟩ := ldApply_ld (ldSuccess n s) n s.now
    have hcfg : (ldSuccess n s).fld (Reg.LD_CFG n) F.LD_CFG_MODE = s.fld (Reg.LD_CFG n) F.LD_CFG_MODE :=
      congrArg (fget _) (ldSuccess_regsKept s n _ (by simpa using LD_CFG_ne_LD_STATUS n))
    rw [ldWant_low (by rw [hld, hr]) ((ldSuccess_flag s n (by decide) (by decide)).trans hv)
      ((ldSuccess_flag s n (by decide) (by decide)).trans hl) (.inr (hcfg.trans (hm (by simpa using hw))))] at hh hlow
    exact ⟨by rw [ho.waitAt, hld], hh, hlow⟩

theorem ldRetried_flags (s : State) : let w := s.flag (Reg.LD_STATUS n) F.LD_STATUS_BST_WAIT
    (ldRetried n s).flag (Reg.LD_STATUS n) F.LD_STATUS_BST_WAIT = w ∧
    (ldRetried n s).flag (Reg.LD_STATUS n) F.LD_STATUS_BSTUV = (w && s.flag (Reg.LD_STATUS n) F.LD_STATUS_BSTUV) ∧
    RegsKept [Reg.LD_STATUS n] s (ldRetried n s) := by
  intro w
  unfold ldRetried
  split
  · next h => exact ⟨rfl, by rw [show w = true from h, Bool.true_and], regsKept_refl s _⟩
  · next h =>
    obtain ⟨hw, hb⟩ := ldSuccess_clears s n
    rw [show w = false from Bool.eq_false_iff.2 h, Bool.false_and]
    exact ⟨(ldApply_flag _ n _ (by decide)).trans hw, (ldApply_flag _ n _ (by decide)).trans hb,
      (ldSuccess_regsKept s n).trans (ldApply_regsKept _ n s.now)⟩

theorem ldFaultRetry_due (hb : s.flag (Reg.LD_STATUS n) F.LD_STATUS_BSTUV = true) (hl : s.flag (Reg.LD_STATUS n) F.LD_STATUS_LATCHED = false)
    (hw : s.flag (Reg.LD_STATUS n) F.LD_STATUS_BST_WAIT = false) (hv : s.flag (Reg.LD_STATUS n) F.LD_STATUS_VDRV_UV = false)
    (hr : (s.ld n).run = true) (ht : (s.ld n).retry.decision + Sys2Proof.ms (s.reg Reg.TRETRY) ≤ t) :
    Completes (.ldFaultRetry n t) s fun u =>
      u.flag (Reg.LD_STATUS n) F.LD_STATUS_BST_WAIT = (s.fld (Reg.LD_CFG n) F.LD_CFG_MODE != 2) ∧
      u.flag (Reg.LD_STATUS n) F.LD_STATUS_BSTUV = (s.fld (Reg.LD_CFG n) F.LD_CFG_MODE != 2) ∧
      (u.ld n).waitAt = (s.advance t).now ∧ (u.ld n).low.on = true ∧ (u.ld n).high.on = false ∧
      RegsKept [Reg.LD_STATUS n] s u ∧ PartsKept [.now, .regs, .lds] s u := by
  have e : exec (.ldFaultRetry n t) s = .next (ldRetried n (ldStart n (s.advance t).now (s.advance t))) := by
    refine if_pos ⟨(fget_eq_one_iff ..).2 hb, (fget_eq_zero_iff _ _ rfl).2 hl, (fget_eq_zero_iff _ _ rfl).2 hw,
      (fget_eq_zero_iff _ _ rfl).2 hv, hr, ht⟩
  obtain ⟨hrun, hat, -⟩ := ldStart_ld (s.advance t) n (s.advance t).now
  have hsides := ldStart_sides (s.advance t) n (s.advance t).now n.isLt hv hl
  have hflag {f : Fld} (h : f.lo + f.w ≤ 2 ∨ 3 ≤ f.lo) (hb : f.lo + f.w ≤ 4 ∨ 5 ≤ f.lo) := ldStart_flag (s.advance t) n (s.advance t).now h hb
  have hstart := ldStart_regsKept (s.advance t) n (s.advance t).now
  have hwait : (ldStart n (s.advance t).now (s.advance t)).flag (Reg.LD_STATUS n) F.LD_STATUS_BST_WAIT =
      (s.fld (Reg.LD_CFG n) F.LD_CFG_MODE != 2) := by
    have hv' : (s.advance t).flag (Reg.LD_STATUS n) F.LD_STATUS_VDRV_UV = false := hv
    rw [ldStart_wait, State.ldWaits, hv', Bool.not_false, Bool.and_true]
    rfl
  have hmode : (ldStart n (s.advance t).now (s.advance t)).fld (Reg.LD_CFG n) F.LD_CFG_MODE = s.fld (Reg.LD_CFG n) F.LD_CFG_MODE :=
    congrArg (fget _) (hstart _ (by simpa using LD_CFG_ne_LD_STATUS n))
  obtain ⟨h1, h2, h3⟩ := ldRetried_flags n (ldStart n (s.advance t).now (s.advance t))
  obtain ⟨h4, h5, h6⟩ := ldRetried_ld n ((hflag (by decide) (by decide)).trans hv) ((hflag (by decide) (by decide)).trans hl) hrun
    (fun h => by rw [hwait] at h; rw [hmode]; simpa using h) hsides
  have hbstuv := (hflag (f := F.LD_STATUS_BSTUV) (by decide) (by decide)).trans hb
  refine Completes.ofKeeps (execLdFaultRetry_keeps n t s) e fun hk =>
    ⟨h1.trans hwait, ?_, h4.trans hat, h6, h5, hstart.trans h3, hk.partsKept_of⟩
  rw [h2, hwait, hbstuv, Bool.and_true]

theorem ldFaultRetry_idle (h : s.flag (Reg.LD_STATUS n) F.LD_STATUS_LATCHED = true ∨ s.flag (Reg.LD_STATUS n) F.LD_STATUS_BSTUV = false ∨
      s.flag (Reg.LD_STATUS n) F.LD_STATUS_BST_WAIT = true ∨ s.flag (Reg.LD_STATUS n) F.LD_STATUS_VDRV_UV = true ∨ (s.ld n).run = false ∨
      t < (s.ld n).retry.decision + Sys2Proof.ms (s.reg Reg.TRETRY)) :
    Completes (.ldFaultRetry n t) s (· = s) := by
  refine Completes.of (if_neg ?_) rfl
  rintro ⟨hb, hl, hw, hv, hr, ht⟩
  rw [fget_eq_one_iff] at hb
  rw [fget_eq_zero_iff _ _ rfl] at hl hw hv
  obtain h | h | h | h | h | h := h
  · exact absurd (hl.symm.trans h) (by decide)
  · exact absurd (hb.symm.trans h) (by decide)
  · exact absurd (hw.symm.trans h) (by decide)
  · exact absurd (hv.symm.trans h) (by decide)
  · exact absurd (hr.symm.trans h) (by decide)
  · exact Nat.not_le.2 h ht

/-- Settles O37, clause by clause from the lemma of each command. -/
theorem localDrivers : Obligations.LocalDrivers := by
  unfold Obligations.LocalDrivers
  intro s n v md t m st dt ref w
  exact ⟨ldEnable_starts s n t, ldEnable_running s n t, ldEnable_refused s n t, ldEnable_stopping s n t, ldBootstrapReady_done s n t,
    ldBootstrapReady_disabled s n t, ldBootstrapReady_idle s n t, ldBootstrapTimeout_due s n t, ldBootstrapTimeout_idle s n t,
    ldModeWrite_taken s n t, ldModeWrite_refused s n t, ldFollowEdge_idle s n, fun e rest => ldFollowEdge_next s n, ldRefresh_runs s n t,
    ldRefresh_none s n t, ldBstuv_due s n t, ldBstuv_idle s n t, ldFaultRetry_due s n t, ldFaultRetry_idle s n t⟩

end Sys2Proof
end

section
/-!
SUPPORT. The static switch drivers (07_gate_links_and_drivers.md, R223 to R225), and what an operation of one driver leaves of the others.
-/

namespace Sys2Proof.Machine

variable (s : State)

/-! ## The output (R223) -/

theorem sd_setSd (n i : Nat) (d : Sdrv) : (s.setSd n d).sd i = if i = n then d else s.sd i := tabGet_set _ _ _ _ _

@[simp] theorem sd_setSd_self (n : Nat) (d : Sdrv) : (s.setSd n d).sd n = d := tabGet_set_self _ _ _ _

theorem sd_of_sds {s u : State} (h : u.sds = s.sds) (n : Nat) : u.sd n = s.sd n := by unfold State.sd; rw [h]

/-- Whether the output of a switch driver is to be on. -/
def State.sdOut (s : State) (n : Nat) : Bool :=
  (s.sd n).run && s.flag (Reg.SD_CFG n) F.SD_CFG_ON && s.flag (Reg.SD_STATUS n) F.SD_STATUS_CP_OK &&
    !s.flag (Reg.SD_STATUS n) F.SD_STATUS_VDRV_UV && !s.flag (Reg.SD_STATUS n) F.SD_STATUS_LATCHED

theorem fget_beq_zero (k : Nat) {f : Fld} (h : f.w = 1) : (fget f (s.reg k) == 0) = !s.flag k f := by
  rw [Bool.eq_iff_iff, beq_iff_eq, fget_eq_zero_iff s k h, Bool.not_eq_true']

theorem sdApply_eq (n : Nat) : sdApply n s = s.setFlag (Reg.SD_STATUS n) F.SD_STATUS_OUT_ON (s.sdOut n) := by
  unfold sdApply State.sdOut
  dsimp only
  rw [fget_beq_zero s _ rfl, fget_beq_zero s _ rfl]
  rfl

variable (n : Nat)

theorem sdApply_out : (sdApply n s).flag (Reg.SD_STATUS n) F.SD_STATUS_OUT_ON = s.sdOut n := by
  rw [sdApply_eq, flag_setFlag_self _ _ _ _ (by decide)]

/-- The fields of SD_STATUS but OUT_ON stand. -/
theorem sdApply_flag {f : Fld} (h : 1 ≤ f.lo) : (sdApply n s).flag (Reg.SD_STATUS n) f = s.flag (Reg.SD_STATUS n) f :=
  flag_setFlag_disjoint _ _ _ (.inr h)

theorem sdApply_regsKept : RegsKept [Reg.SD_STATUS n] s (sdApply n s) := RegsKept.setReg s _ _

theorem sdApply_sd (i : Nat) : (sdApply n s).sd i = s.sd i := rfl

/-- The charge pump of a driver that runs. -/
def sdStarting : State := s.setSd n { s.sd n with run := true, pump := !s.flag (Reg.SD_STATUS n) F.SD_STATUS_VDRV_UV }

theorem sdStart_eq : sdStart n s = sdApply n (sdStarting s n) := rfl

theorem sdStart_sd : (sdStart n s).sd n = { s.sd n with run := true, pump := !s.flag (Reg.SD_STATUS n) F.SD_STATUS_VDRV_UV } :=
  (sd_of_sds (setReg_sds ..) n).trans (sd_setSd_self ..)

theorem sdStart_flag {f : Fld} (h : 1 ≤ f.lo) : (sdStart n s).flag (Reg.SD_STATUS n) f = s.flag (Reg.SD_STATUS n) f :=
  sdApply_flag (sdStarting s n) n h

theorem sdStart_regsKept : RegsKept [Reg.SD_STATUS n] s (sdStart n s) := sdApply_regsKept (sdStarting s n) n

/-- A switch driver that runs shuts down: it stops with its pump and its output off. -/
theorem sdShutdown_spec (hr : (s.sd n).run = true) : ((sdShutdown n s).sd n).run = false ∧ ((sdShutdown n s).sd n).stopping = true ∧
    (sdShutdown n s).flag (Reg.SD_STATUS n) F.SD_STATUS_CP_OK = false ∧ (sdShutdown n s).flag (Reg.SD_STATUS n) F.SD_STATUS_OUT_ON = false := by
  obtain ⟨w, hw⟩ : ∃ w, w = (s.setSd n { s.sd n with run := false, stopping := true, pump := false, pendDisable := false }).setFlag
      (Reg.SD_STATUS n) F.SD_STATUS_CP_OK false := ⟨_, rfl⟩
  have e : sdShutdown n s = sdApply n w := by rw [hw]; exact if_pos hr
  have hsd : w.sd n = { s.sd n with run := false, stopping := true, pump := false, pendDisable := false } := by
    rw [hw]
    exact (sd_of_sds (setReg_sds ..) n).trans (sd_setSd_self ..)
  have hcp : w.flag (Reg.SD_STATUS n) F.SD_STATUS_CP_OK = false := by rw [hw]; exact flag_setFlag_self _ _ _ _ (by decide)
  rw [e, sdApply_sd, hsd, sdApply_flag _ _ (by decide), sdApply_out, State.sdOut, hsd]
  exact ⟨rfl, rfl, hcp, rfl⟩

/-! ## Enables (R30, R32) -/

variable {s n}

theorem sdEnable_of_stopping (h : (s.sd n).stopping = true) : sdEnable n s = s.setFlag (Reg.SD_STATUS n) F.SD_STATUS_PENDING_ENABLE true :=
  if_pos h

theorem sdEnable_of_run (hs : (s.sd n).stopping = false) (h : (s.sd n).run = true) :
    sdEnable n s = s.setSd n { s.sd n with pendDisable := false } :=
  (if_neg (by simp [hs])).trans (if_pos h)

theorem sdEnable_of_allowed (hs : (s.sd n).stopping = false) (hr : (s.sd n).run = false) (ha : s.sdAllowed n = true)
    (hl : s.flag (Reg.SD_STATUS n) F.SD_STATUS_LATCHED = false) : sdEnable n s = sdStart n s := by
  simp [sdEnable, hs, hr, ha, hl]

theorem sdEnable_of_refused (hs : (s.sd n).stopping = false) (hr : (s.sd n).run = false)
    (h : s.sdAllowed n = false ∨ s.flag (Reg.SD_STATUS n) F.SD_STATUS_LATCHED = true) : sdEnable n s = s := by
  obtain h | h := h <;> simp [sdEnable, hs, hr, h]

variable (s n)

/-- What an enable of a local driver can do. -/
theorem ldEnable_cases : ldEnable n s = s.setFlag (Reg.LD_STATUS n) F.LD_STATUS_PENDING_ENABLE true ∨
    ldEnable n s = s.setLd n { s.ld n with pendDisable := false } ∨ ldEnable n s = ldStart n s.now s ∨ ldEnable n s = s := by
  unfold ldEnable
  dsimp only
  split
  · exact .inl rfl
  · split
    · exact .inr (.inl rfl)
    · split
      · exact .inr (.inr (.inl rfl))
      · exact .inr (.inr (.inr rfl))

/-- What an enable of a switch driver can do. -/
theorem sdEnable_cases : sdEnable n s = s.setFlag (Reg.SD_STATUS n) F.SD_STATUS_PENDING_ENABLE true ∨
    sdEnable n s = s.setSd n { s.sd n with pendDisable := false } ∨ sdEnable n s = sdStart n s ∨ sdEnable n s = s := by
  unfold sdEnable
  dsimp only
  split
  · exact .inl rfl
  · split
    · exact .inr (.inl rfl)
    · split
      · exact .inr (.inr (.inl rfl))
      · exact .inr (.inr (.inr rfl))

theorem ldEnable_latched : (ldEnable n s).flag (Reg.LD_STATUS n) F.LD_STATUS_LATCHED = s.flag (Reg.LD_STATUS n) F.LD_STATUS_LATCHED := by
  obtain e | e | e | e := ldEnable_cases s n <;> rw [e]
  · exact flag_setFlag_disjoint _ _ _ (by decide)
  · rfl
  · exact ldStart_flag _ _ _ (by decide) (by decide)

theorem sdEnable_latched : (sdEnable n s).flag (Reg.SD_STATUS n) F.SD_STATUS_LATCHED = s.flag (Reg.SD_STATUS n) F.SD_STATUS_LATCHED := by
  obtain e | e | e | e := sdEnable_cases s n <;> rw [e]
  · exact flag_setFlag_disjoint _ _ _ (by decide)
  · rfl
  · exact sdStart_flag _ _ (by decide)

theorem ldEnable_retry : ((ldEnable n s).ld n).retry = (s.ld n).retry := by
  obtain e | e | e | e := ldEnable_cases s n <;> rw [e]
  · rfl
  · rw [ld_setLd_self]
  · obtain ⟨-, -, h⟩ := ldStart_ld s n s.now
    exact h

theorem sdEnable_retry : ((sdEnable n s).sd n).retry = (s.sd n).retry := by
  obtain e | e | e | e := sdEnable_cases s n <;> rw [e]
  · rfl
  · rw [sd_setSd_self]
  · rw [sdStart_sd]

/-! ## Operations of one driver -/

/-- Of the drivers, only local driver `n`, its status and DRV_LATCHED may have changed. -/
structure LdOnly (n : Nat) (s u : State) : Prop where
  regs : RegsKept [Reg.LD_STATUS n, Reg.DRV_LATCHED] s u
  ld : ∀ i, i ≠ n → u.ld i = s.ld i
  sds : u.sds = s.sds

/-- Of the drivers, only switch driver `n`, its status and DRV_LATCHED may have changed. -/
structure SdOnly (n : Nat) (s u : State) : Prop where
  regs : RegsKept [Reg.SD_STATUS n, Reg.DRV_LATCHED] s u
  sd : ∀ i, i ≠ n → u.sd i = s.sd i
  lds : u.lds = s.lds

variable {s n} {u w : State}

theorem LdOnly.refl (s : State) : LdOnly n s s := ⟨regsKept_refl s _, fun _ _ => rfl, rfl⟩

theorem LdOnly.trans (h : LdOnly n s u) (k : LdOnly n u w) : LdOnly n s w :=
  ⟨h.regs.trans k.regs, fun i hi => (k.ld i hi).trans (h.ld i hi), k.sds.trans h.sds⟩

theorem LdOnly.setFlag (h : LdOnly n s u) (f : Fld) (b : Bool) : LdOnly n s (u.setFlag (Reg.LD_STATUS n) f b) :=
  h.trans ⟨RegsKept.step (regsKept_refl u _) (by simp), fun _ _ => rfl, rfl⟩

theorem LdOnly.setRegBit (h : LdOnly n s u) (i : Nat) (b : Bool) : LdOnly n s (u.setRegBit Reg.DRV_LATCHED i b) :=
  h.trans ⟨RegsKept.step (regsKept_refl u _) (by simp), fun _ _ => rfl, rfl⟩

theorem LdOnly.setLd (h : LdOnly n s u) (d : Ldrv) : LdOnly n s (u.setLd n d) :=
  h.trans ⟨regsKept_refl u _, fun _ hi => (ld_setLd ..).trans (if_neg hi), rfl⟩

theorem LdOnly.apply (h : LdOnly n s u) (t : Instant) : LdOnly n s (ldApply n t u) :=
  h.trans ⟨(ldApply_regsKept u n t).mono (by simp), fun _ hi => ldApply_ld_other u n t hi, (ldApply_keeps n t u).parts .sds (by decide)⟩

theorem LdOnly.start (h : LdOnly n s u) (t : Instant) : LdOnly n s (ldStart n t u) :=
  h.trans ⟨(ldStart_regsKept u n t).mono (by simp), fun _ hi => ldStart_ld_other u n t hi, (ldStart_keeps n t u).parts .sds (by decide)⟩

theorem LdOnly.enable (h : LdOnly n s u) : LdOnly n s (ldEnable n u) := by
  obtain e | e | e | e := ldEnable_cases u n <;> rw [e]
  · exact h.setFlag _ _
  · exact h.setLd _
  · exact h.start _
  · exact h

theorem SdOnly.refl (s : State) : SdOnly n s s := ⟨regsKept_refl s _, fun _ _ => rfl, rfl⟩

theorem SdOnly.trans (h : SdOnly n s u) (k : SdOnly n u w) : SdOnly n s w :=
  ⟨h.regs.trans k.regs, fun i hi => (k.sd i hi).trans (h.sd i hi), k.lds.trans h.lds⟩

theorem SdOnly.setFlag (h : SdOnly n s u) (f : Fld) (b : Bool) : SdOnly n s (u.setFlag (Reg.SD_STATUS n) f b) :=
  h.trans ⟨RegsKept.step (regsKept_refl u _) (by simp), fun _ _ => rfl, rfl⟩

theorem SdOnly.setRegBit (h : SdOnly n s u) (i : Nat) (b : Bool) : SdOnly n s (u.setRegBit Reg.DRV_LATCHED i b) :=
  h.trans ⟨RegsKept.step (regsKept_refl u _) (by simp), fun _ _ => rfl, rfl⟩

theorem SdOnly.setSd (h : SdOnly n s u) (d : Sdrv) : SdOnly n s (u.setSd n d) :=
  h.trans ⟨regsKept_refl u _, fun _ hi => (sd_setSd ..).trans (if_neg hi), rfl⟩

theorem SdOnly.start (h : SdOnly n s u) : SdOnly n s (sdStart n u) := (h.setSd _).setFlag _ _

theorem SdOnly.enable (h : SdOnly n s u) : SdOnly n s (sdEnable n u) := by
  obtain e | e | e | e := sdEnable_cases u n <;> rw [e]
  · exact h.setFlag _ _
  · exact h.setSd _
  · exact h.start
  · exact h

/-- A register of neither status nor DRV_LATCHED stands through an operation of one driver. -/
theorem LdOnly.reg (h : LdOnly n s u) {i a : Nat} (hi : i ≠ 0x2B06) (hn : n < 8) (ha : a < 256) (hd : Reg.key i a ≠ Reg.DRV_LATCHED) :
    u.reg (Reg.key i a) = s.reg (Reg.key i a) := by
  refine h.regs _ ?_
  rw [List.mem_cons, List.mem_singleton, not_or]
  exact ⟨key_ne_of_index hi ha (by omega), hd⟩

theorem SdOnly.reg (h : SdOnly n s u) {i a : Nat} (hi : i ≠ 0x2B11) (hn : n < 4) (ha : a < 256) (hd : Reg.key i a ≠ Reg.DRV_LATCHED) :
    u.reg (Reg.key i a) = s.reg (Reg.key i a) := by
  refine h.regs _ ?_
  rw [List.mem_cons, List.mem_singleton, not_or]
  exact ⟨key_ne_of_index hi ha (by omega), hd⟩

/-- What an operation on each of the listed local drivers leaves: the status of a switch driver, and a register of none of them. -/
theorem forEach_ldOnly {f : Nat → State → State} (hf : ∀ n u, LdOnly n u (f n u)) {l : List Nat} (hl : ∀ n ∈ l, n < 8) {i a : Nat}
    (hi : i ≠ 0x2B06) (ha : a < 256) (hd : Reg.key i a ≠ Reg.DRV_LATCHED) (s : State) :
    (s.forEach l f).reg (Reg.key i a) = s.reg (Reg.key i a) ∧ (s.forEach l f).sds = s.sds :=
  ⟨forEach_mem_frame (fun u => u.reg (Reg.key i a)) l f (fun n hn u => (hf n u).reg hi (hl n hn) ha hd) s,
    forEach_frame State.sds l f (fun n u => (hf n u).sds) s⟩

theorem forEach_sdOnly {f : Nat → State → State} (hf : ∀ n u, SdOnly n u (f n u)) {l : List Nat} (hl : ∀ n ∈ l, n < 4) {i a : Nat}
    (hi : i ≠ 0x2B11) (ha : a < 256) (hd : Reg.key i a ≠ Reg.DRV_LATCHED) (s : State) :
    (s.forEach l f).reg (Reg.key i a) = s.reg (Reg.key i a) ∧ (s.forEach l f).lds = s.lds :=
  ⟨forEach_mem_frame (fun u => u.reg (Reg.key i a)) l f (fun n hn u => (hf n u).reg hi (hl n hn) ha hd) s,
    forEach_frame State.lds l f (fun n u => (hf n u).lds) s⟩

/-- What a local driver shows: its status register (of the numbers below 8), and its state. -/
def ldView (i : Nat) (u : State) : Nat × Ldrv := (if i < 8 then u.reg (Reg.LD_STATUS i) else 0, u.ld i)

/-- What a switch driver shows: its status register (of the numbers below 4), and its state. -/
def sdView (i : Nat) (u : State) : Nat × Sdrv := (if i < 4 then u.reg (Reg.SD_STATUS i) else 0, u.sd i)

theorem LdOnly.view (h : LdOnly n s u) {i : Nat} (hi : i ≠ n) : ldView i u = ldView i s := by
  unfold ldView
  rw [h.ld i hi]
  split
  · rw [h.regs]
    simp only [Reg.LD_STATUS, Reg.DRV_LATCHED, Reg.key, List.mem_cons, List.not_mem_nil, or_false]
    omega
  · rfl

theorem SdOnly.view (h : SdOnly n s u) {i : Nat} (hi : i ≠ n) : sdView i u = sdView i s := by
  unfold sdView
  rw [h.sd i hi]
  split
  · rw [h.regs]
    simp only [Reg.SD_STATUS, Reg.DRV_LATCHED, Reg.key, List.mem_cons, List.not_mem_nil, or_false]
    omega
  · rfl

/-- What two states show of a local driver alike is its status and its state. -/
theorem ldView_eq {i : Nat} (hi : i < 8) (h : ldView i u = ldView i s) :
    u.reg (Reg.LD_STATUS i) = s.reg (Reg.LD_STATUS i) ∧ u.ld i = s.ld i := by
  unfold ldView at h
  rw [if_pos hi, if_pos hi] at h
  exact Prod.mk.inj h

theorem sdView_eq {i : Nat} (hi : i < 4) (h : sdView i u = sdView i s) :
    u.reg (Reg.SD_STATUS i) = s.reg (Reg.SD_STATUS i) ∧ u.sd i = s.sd i := by
  unfold sdView at h
  rw [if_pos hi, if_pos hi] at h
  exact Prod.mk.inj h

end Sys2Proof.Machine
end

section
/-!
The switch drivers' commands, DRV_CLEAR and the drivers' supply (O38).
-/

namespace Sys2Proof

open Machine

variable (s : State) (n : Fin 4) (t : Instant)

/-! ## Enable (R223, R30) -/

theorem SD_CFG_ne_SD_STATUS : Reg.SD_CFG n ≠ Reg.SD_STATUS n := key_ne_of_index (by decide) (by omega) (by omega)

theorem exec_sdEnable : ∃ x, exec (.sdEnable n t) s = .next (sdEnable n x) ∧ EnableWritten (Reg.SD_CFG n) F.SD_CFG_EN t s x :=
  ⟨_, rfl, enableWritten_storeRws s t (key_notMem_storeKeys (by decide) (by omega)) (by decide)⟩

variable {s n t}

theorem sdAllowed_of_enableWritten {x : State} (h : EnableWritten (Reg.SD_CFG n) F.SD_CFG_EN t s x) : x.sdAllowed n = s.sdAllowed n := by
  have hreg {i a : Nat} (hi : i ≠ 0x2F30 ∧ i ≠ 0x2B10) (ha : a < 256) : x.reg (Reg.key i a) = s.reg (Reg.key i a) :=
    h.reg _ (key_ne_of_index hi.2 ha (by omega)) (key_notMem_storeKeys hi.1 ha)
  have hon : x.reg Reg.PD_ON = s.reg Reg.PD_ON := hreg (by decide) (by decide)
  have hmode : x.reg Reg.MODE = s.reg Reg.MODE := hreg (by decide) (by decide)
  have hkeep : x.reg Reg.KEEP_SD = s.reg Reg.KEEP_SD := hreg (by decide) (by decide)
  unfold State.sdAllowed
  rw [regBit_of_reg _ hon, hmode, lbit_of_reg _ hkeep h.law]

theorem sdStatus_of_enableWritten {x : State} (h : EnableWritten (Reg.SD_CFG n) F.SD_CFG_EN t s x) (f : Fld) :
    x.flag (Reg.SD_STATUS n) f = s.flag (Reg.SD_STATUS n) f :=
  h.flag (SD_CFG_ne_SD_STATUS n).symm (key_notMem_storeKeys (by decide) (by omega)) f

variable (s n t)

theorem sdEnable_starts (hr : (s.sd n).run = false) (hs : (s.sd n).stopping = false) (ha : s.sdAllowed n = true)
    (hl : s.flag (Reg.SD_STATUS n) F.SD_STATUS_LATCHED = false) :
    Completes (.sdEnable n t) s fun u => u.flag (Reg.SD_CFG n) F.SD_CFG_EN = true ∧ (u.sd n).run = true ∧
      (u.sd n).pump = !s.flag (Reg.SD_STATUS n) F.SD_STATUS_VDRV_UV ∧ PartsKept [.now, .regs, .sds, .mram] s u := by
  obtain ⟨x, e, h⟩ := exec_sdEnable s n t
  have hsd := sd_of_sds h.sds n
  rw [sdEnable_of_allowed (by rw [hsd, hs]) (by rw [hsd, hr]) ((sdAllowed_of_enableWritten h).trans ha)
    ((sdStatus_of_enableWritten h _).trans hl)] at e
  refine Completes.ofKeeps (execSdEnable_keeps n t s) e fun hk => ⟨?_, ?_, ?_, hk.partsKept_of⟩
  · rw [flag_of_reg _ (sdStart_regsKept x n _ (by simpa using SD_CFG_ne_SD_STATUS n)), h.en]
  · rw [sdStart_sd]
  · rw [sdStart_sd, sdStatus_of_enableWritten h]

theorem sdEnable_running (hr : (s.sd n).run = true) (hs : (s.sd n).stopping = false) :
    Completes (.sdEnable n t) s fun u => u.flag (Reg.SD_CFG n) F.SD_CFG_EN = true ∧ u.sd n = { s.sd n with pendDisable := false } := by
  obtain ⟨x, e, h⟩ := exec_sdEnable s n t
  have hsd := sd_of_sds h.sds n
  rw [sdEnable_of_run (by rw [hsd, hs]) (by rw [hsd, hr])] at e
  exact Completes.of e ⟨h.en, by rw [sd_setSd_self, hsd]⟩

theorem sdEnable_refused (hr : (s.sd n).run = false) (hs : (s.sd n).stopping = false)
    (ha : s.sdAllowed n = false ∨ s.flag (Reg.SD_STATUS n) F.SD_STATUS_LATCHED = true) :
    Completes (.sdEnable n t) s fun u => u.flag (Reg.SD_CFG n) F.SD_CFG_EN = true ∧ u.sds = s.sds := by
  obtain ⟨x, e, h⟩ := exec_sdEnable s n t
  have hsd := sd_of_sds h.sds n
  rw [sdEnable_of_refused (by rw [hsd, hs]) (by rw [hsd, hr])
    (by rwa [sdAllowed_of_enableWritten h, sdStatus_of_enableWritten h])] at e
  exact Completes.of e ⟨h.en, h.sds⟩

theorem sdEnable_stopping (hs : (s.sd n).stopping = true) :
    Completes (.sdEnable n t) s fun u => u.flag (Reg.SD_STATUS n) F.SD_STATUS_PENDING_ENABLE = true ∧ u.sds = s.sds := by
  obtain ⟨x, e, h⟩ := exec_sdEnable s n t
  rw [sdEnable_of_stopping (by rw [sd_of_sds h.sds, hs])] at e
  exact Completes.of e ⟨flag_setFlag_self _ _ _ _ (by decide), (setReg_sds _ _ _).trans h.sds⟩

/-! ## The charge pump (R223, R224) -/

/-- The pump reports its output: CP_OK is shown, and a fault being retried clears with one try. -/
def pumpReady (n : Nat) (s : State) : State :=
  let s := s.setFlag (Reg.SD_STATUS n) F.SD_STATUS_CP_OK true
  if s.flag (Reg.SD_STATUS n) F.SD_STATUS_CPUV then
    (s.setSd n { s.sd n with retry := s.countTry (s.sd n).retry s.now }).setFlag (Reg.SD_STATUS n) F.SD_STATUS_CPUV false
  else s

theorem pumpReady_sd (n : Nat) : ∃ r, (pumpReady n s).sd n = { s.sd n with retry := r } := by
  unfold pumpReady
  dsimp only
  split
  · exact ⟨_, sd_setSd_self ..⟩
  · exact ⟨_, rfl⟩

theorem pumpReady_status (n : Nat) : (pumpReady n s).flag (Reg.SD_STATUS n) F.SD_STATUS_CP_OK = true ∧
    (pumpReady n s).flag (Reg.SD_STATUS n) F.SD_STATUS_CPUV = false ∧
    (pumpReady n s).flag (Reg.SD_STATUS n) F.SD_STATUS_VDRV_UV = s.flag (Reg.SD_STATUS n) F.SD_STATUS_VDRV_UV ∧
    (pumpReady n s).flag (Reg.SD_STATUS n) F.SD_STATUS_LATCHED = s.flag (Reg.SD_STATUS n) F.SD_STATUS_LATCHED := by
  have hok := flag_setFlag_self s (Reg.SD_STATUS n) F.SD_STATUS_CP_OK true (by decide)
  have huv := flag_setFlag_disjoint s (Reg.SD_STATUS n) (f := F.SD_STATUS_VDRV_UV) (g := F.SD_STATUS_CP_OK) true (by decide)
  have hl := flag_setFlag_disjoint s (Reg.SD_STATUS n) (f := F.SD_STATUS_LATCHED) (g := F.SD_STATUS_CP_OK) true (by decide)
  unfold pumpReady
  dsimp only
  split
  · exact ⟨(flag_setFlag_disjoint _ _ _ (by decide)).trans hok, flag_setFlag_self _ _ _ _ (by decide),
      (flag_setFlag_disjoint _ _ _ (by decide)).trans huv, (flag_setFlag_disjoint _ _ _ (by decide)).trans hl⟩
  · next h => exact ⟨hok, by simpa using h, huv, hl⟩

theorem pumpReady_regsKept (n : Nat) : RegsKept [Reg.SD_STATUS n] s (pumpReady n s) := by
  have h0 : RegsKept [Reg.SD_STATUS n] s (s.setFlag (Reg.SD_STATUS n) F.SD_STATUS_CP_OK true) := RegsKept.setReg s _ _
  unfold pumpReady
  dsimp only
  split
  · exact h0.trans (RegsKept.setReg _ _ _)
  · exact h0

theorem exec_sdCpReady (hr : (s.sd n).run = true) (hp : (s.sd n).pump = true) (hc : s.flag (Reg.SD_STATUS n) F.SD_STATUS_CP_OK = false) :
    exec (.sdCpReady n t) s = .next (if (s.sd n).pendDisable then sdShutdown n (pumpReady n (s.advance t))
      else sdApply n (pumpReady n (s.advance t))) := by
  have e : exec (.sdCpReady n t) s = if ((pumpReady n (s.advance t)).sd n).pendDisable then .next (sdShutdown n (pumpReady n (s.advance t)))
      else .next (sdApply n (pumpReady n (s.advance t))) := if_pos (by simp [hr, hp, hc])
  obtain ⟨r, hsd⟩ := pumpReady_sd (s.advance t) n
  have hpend : ((pumpReady n (s.advance t)).sd n).pendDisable = (s.sd n).pendDisable := by rw [hsd]; rfl
  rw [e, hpend]
  split <;> rfl

theorem sdCpReady_disabled (hr : (s.sd n).run = true) (hp : (s.sd n).pump = true) (hc : s.flag (Reg.SD_STATUS n) F.SD_STATUS_CP_OK = false)
    (hd : (s.sd n).pendDisable = true) :
    Completes (.sdCpReady n t) s fun u => u.flag (Reg.SD_STATUS n) F.SD_STATUS_CP_OK = false ∧
      u.flag (Reg.SD_STATUS n) F.SD_STATUS_OUT_ON = false ∧ (u.sd n).run = false ∧ (u.sd n).stopping = true := by
  have e := exec_sdCpReady s n t hr hp hc
  rw [if_pos hd] at e
  obtain ⟨r, hsd⟩ := pumpReady_sd (s.advance t) n
  obtain ⟨hrun, hstop, hok, hout⟩ := sdShutdown_spec (pumpReady n (s.advance t)) n (by rw [hsd]; exact hr)
  exact Completes.of e ⟨hok, hout, hrun, hstop⟩

theorem sdCpReady_done (hr : (s.sd n).run = true) (hp : (s.sd n).pump = true) (hc : s.flag (Reg.SD_STATUS n) F.SD_STATUS_CP_OK = false)
    (hd : (s.sd n).pendDisable = false) :
    Completes (.sdCpReady n t) s fun u => u.flag (Reg.SD_STATUS n) F.SD_STATUS_CP_OK = true ∧
      u.flag (Reg.SD_STATUS n) F.SD_STATUS_CPUV = false ∧ u.flag (Reg.SD_STATUS n) F.SD_STATUS_OUT_ON =
        (s.flag (Reg.SD_CFG n) F.SD_CFG_ON && !s.flag (Reg.SD_STATUS n) F.SD_STATUS_VDRV_UV && !s.flag (Reg.SD_STATUS n) F.SD_STATUS_LATCHED) ∧
      RegsKept [Reg.SD_STATUS n] s u ∧ PartsKept [.now, .regs, .sds] s u := by
  have e := exec_sdCpReady s n t hr hp hc
  rw [if_neg (by simp [hd])] at e
  obtain ⟨r, hsd⟩ := pumpReady_sd (s.advance t) n
  obtain ⟨hok, hcpuv, huv, hl⟩ := pumpReady_status (s.advance t) n
  have hregs := pumpReady_regsKept (s.advance t) n
  have hon := flag_of_reg F.SD_CFG_ON (hregs (Reg.SD_CFG n) (by simpa using SD_CFG_ne_SD_STATUS n))
  refine Completes.ofKeeps (execSdCpReady_keeps n t s) e fun hk =>
    ⟨(sdApply_flag _ _ (by decide)).trans hok, (sdApply_flag _ _ (by decide)).trans hcpuv, ?_, hregs.trans (sdApply_regsKept _ n),
      hk.partsKept_of⟩
  have hrun : ((pumpReady n (s.advance t)).sd n).run = true := by rw [hsd]; exact hr
  rw [sdApply_out, State.sdOut, hrun, hok, huv, hl, hon, Bool.true_and, Bool.and_true]
  rfl

theorem sdCpReady_idle (h : (s.sd n).run = false ∨ (s.sd n).pump = false ∨ s.flag (Reg.SD_STATUS n) F.SD_STATUS_CP_OK = true) :
    Completes (.sdCpReady n t) s (· = s) := by
  refine Completes.of (if_neg ?_) rfl
  obtain h | h | h := h <;> simp [h]

/-- The pump has failed: CPUV is shown, and the driver has a history. -/
def pumpDown (n : Nat) (r : Retry) (s : State) : State :=
  State.setSd ((s.setFlag (Reg.SD_STATUS n) F.SD_STATUS_CP_OK false).setFlag (Reg.SD_STATUS n) F.SD_STATUS_CPUV true) n
    { s.sd n with retry := r, pump := false }

/-- A failure of the pump latches where the check says so. -/
def pumpFailed (n : Nat) (r : Retry) (latch : Bool) (s : State) : State :=
  if latch then ((pumpDown n r s).setFlag (Reg.SD_STATUS n) F.SD_STATUS_LATCHED true).setRegBit Reg.DRV_LATCHED (8 + n) true
  else pumpDown n r s

theorem pumpDown_status (r : Retry) : (pumpDown n r s).flag (Reg.SD_STATUS n) F.SD_STATUS_CP_OK = false ∧
    (pumpDown n r s).flag (Reg.SD_STATUS n) F.SD_STATUS_CPUV = true := by
  have hflag (f : Fld) : (pumpDown n r s).flag (Reg.SD_STATUS n) f =
    ((s.setFlag (Reg.SD_STATUS n) F.SD_STATUS_CP_OK false).setFlag (Reg.SD_STATUS n) F.SD_STATUS_CPUV true).flag (Reg.SD_STATUS n) f := rfl
  rw [hflag, hflag, flag_setFlag_disjoint _ _ _ (by decide), flag_setFlag_self _ _ _ _ (by decide), flag_setFlag_self _ _ _ _ (by decide)]
  exact ⟨rfl, rfl⟩

theorem pumpFailed_status (r : Retry) (latch : Bool) : (pumpFailed n r latch s).flag (Reg.SD_STATUS n) F.SD_STATUS_CP_OK = false ∧
    (pumpFailed n r latch s).flag (Reg.SD_STATUS n) F.SD_STATUS_CPUV = true ∧
    (latch = true → (pumpFailed n r latch s).flag (Reg.SD_STATUS n) F.SD_STATUS_LATCHED = true ∧
      (pumpFailed n r latch s).regBit Reg.DRV_LATCHED (8 + n) = true) := by
  obtain ⟨hok, hcpuv⟩ := pumpDown_status s n r
  cases latch
  · exact ⟨hok, hcpuv, nofun⟩
  · have hne : Reg.SD_STATUS n ≠ Reg.DRV_LATCHED := key_ne_of_index (by decide) (by omega) (by decide)
    have hreg : (pumpFailed n r true s).reg (Reg.SD_STATUS n) =
      ((pumpDown n r s).setFlag (Reg.SD_STATUS n) F.SD_STATUS_LATCHED true).reg (Reg.SD_STATUS n) := reg_setRegBit_other _ _ _ hne
    rw [flag_of_reg _ hreg, flag_of_reg _ hreg, flag_of_reg _ hreg, flag_setFlag_disjoint _ _ _ (by decide),
      flag_setFlag_disjoint _ _ _ (by decide), flag_setFlag_self _ _ _ _ (by decide)]
    exact ⟨hok, hcpuv, fun _ => ⟨rfl, (regBit_setRegBit ..).trans (if_pos rfl)⟩⟩

theorem pumpFailed_sd (r : Retry) (latch : Bool) : (pumpFailed n r latch s).sd n = { s.sd n with retry := r, pump := false } := by
  have h : (pumpDown n r s).sd n = { s.sd n with retry := r, pump := false } := by
    unfold pumpDown
    rw [sd_setSd_self]
  cases latch
  · exact h
  · exact (sd_of_sds ((setReg_sds ..).trans (setReg_sds ..)) n).trans h

theorem pumpFailed_regsKept (r : Retry) (latch : Bool) : RegsKept [Reg.SD_STATUS n, Reg.DRV_LATCHED] s (pumpFailed n r latch s) := by
  have h : SdOnly n s (pumpDown n r s) := (((SdOnly.refl s).setFlag _ _).setFlag _ _).setSd _
  cases latch
  · exact h.regs
  · exact ((h.setFlag _ _).setRegBit _ _).regs

theorem exec_sdCpuv (hc : s.flag (Reg.SD_STATUS n) F.SD_STATUS_CP_OK = true) {r : Retry}
    (hr : r = { (s.sd n).retry with decision := (s.advance t).now }) :
    exec (.sdCpuv n t) s =
      .next (sdApply n (pumpFailed n r (s.latches r (s.advance t).now (s.flag (Reg.SD_CFG n) F.SD_CFG_NO_RETRY)) (s.advance t))) := by
  obtain ⟨w, hw⟩ : ∃ w, w = pumpDown n r (s.advance t) := ⟨_, rfl⟩
  have hkept : RegsKept [Reg.SD_STATUS n, Reg.DRV_LATCHED] s (pumpDown n r (s.advance t)) := pumpFailed_regsKept (s.advance t) n r false
  have hreg {i a : Nat} (hi : i ≠ 0x2B11 ∧ i ≠ 0x2B20) (ha : a < 256) : w.reg (Reg.key i a) = s.reg (Reg.key i a) := by
    rw [hw]
    refine hkept _ ?_
    simp only [Reg.SD_STATUS, Reg.DRV_LATCHED, Reg.key, List.mem_cons, List.not_mem_nil, or_false]
    omega
  have hcfg : w.reg (Reg.SD_CFG n) = s.reg (Reg.SD_CFG n) := hreg (by decide) (by omega)
  have hntry : w.reg Reg.NTRY = s.reg Reg.NTRY := hreg (by decide) (by decide)
  have htwin : w.reg Reg.TWIN = s.reg Reg.TWIN := hreg (by decide) (by decide)
  have hlatch : w.latches r (s.advance t).now (w.flag (Reg.SD_CFG n) F.SD_CFG_NO_RETRY) =
      s.latches r (s.advance t).now (s.flag (Reg.SD_CFG n) F.SD_CFG_NO_RETRY) := by
    unfold State.latches State.triesAt
    rw [hntry, htwin, flag_of_reg _ hcfg]
  rw [← hlatch, hw, hr]
  exact if_pos hc

theorem sdCpuv_due (hc : s.flag (Reg.SD_STATUS n) F.SD_STATUS_CP_OK = true) :
    let r : Retry := { (s.sd n).retry with decision := (s.advance t).now }
    Completes (.sdCpuv n t) s fun u => u.flag (Reg.SD_STATUS n) F.SD_STATUS_CP_OK = false ∧ u.flag (Reg.SD_STATUS n) F.SD_STATUS_CPUV = true ∧
      u.flag (Reg.SD_STATUS n) F.SD_STATUS_OUT_ON = false ∧ (u.sd n).pump = false ∧ (u.sd n).retry = r ∧
      (s.latches r (s.advance t).now (s.flag (Reg.SD_CFG n) F.SD_CFG_NO_RETRY) = true →
        u.flag (Reg.SD_STATUS n) F.SD_STATUS_LATCHED = true ∧ u.regBit Reg.DRV_LATCHED (8 + n) = true) ∧
      RegsKept [Reg.SD_STATUS n, Reg.DRV_LATCHED] s u ∧ PartsKept [.now, .regs, .sds] s u := by
  intro r
  have e := exec_sdCpuv s n t hc (r := r) rfl
  generalize s.latches r (s.advance t).now (s.flag (Reg.SD_CFG n) F.SD_CFG_NO_RETRY) = latch at e
  obtain ⟨hok, hcpuv, hl⟩ := pumpFailed_status (s.advance t) n r latch
  have hsd := pumpFailed_sd (s.advance t) n r latch
  have hregs := pumpFailed_regsKept (s.advance t) n r latch
  refine Completes.ofKeeps (execSdCpuv_keeps n t s) e fun hk =>
    ⟨(sdApply_flag _ _ (by decide)).trans hok, (sdApply_flag _ _ (by decide)).trans hcpuv, ?_, ?_, ?_, fun h => ?_,
      hregs.trans ((sdApply_regsKept _ n).mono (by simp)), hk.partsKept_of⟩
  · rw [sdApply_out, State.sdOut, hok, Bool.and_false]
    rfl
  · rw [sdApply_sd, hsd]
  · rw [sdApply_sd, hsd]
  · obtain ⟨h1, h2⟩ := hl h
    have hne : Reg.DRV_LATCHED ∉ [Reg.SD_STATUS n] := by
      rw [List.mem_singleton]
      exact key_ne_of_index (by decide) (by decide) (by omega)
    exact ⟨(sdApply_flag _ _ (by decide)).trans h1, (regBit_of_reg _ (sdApply_regsKept _ n _ hne)).trans h2⟩

theorem sdCpuv_idle (hc : s.flag (Reg.SD_STATUS n) F.SD_STATUS_CP_OK = false) : Completes (.sdCpuv n t) s (· = s) :=
  Completes.of (if_neg (by rw [hc]; decide)) rfl

theorem sdFaultRetry_due (hc : s.flag (Reg.SD_STATUS n) F.SD_STATUS_CPUV = true) (hl : s.flag (Reg.SD_STATUS n) F.SD_STATUS_LATCHED = false)
    (hr : (s.sd n).run = true) (ht : (s.sd n).retry.decision + Sys2Proof.ms (s.reg Reg.TRETRY) ≤ t) :
    Completes (.sdFaultRetry n t) s fun u => (u.sd n).run = true ∧ (u.sd n).pump = !s.flag (Reg.SD_STATUS n) F.SD_STATUS_VDRV_UV ∧
      RegsKept [Reg.SD_STATUS n] s u ∧ PartsKept [.now, .regs, .sds] s u := by
  refine Completes.ofKeeps (execSdFaultRetry_keeps n t s) (if_pos (by simp [hc, hl, hr, ht])) fun hk =>
    ⟨?_, ?_, sdStart_regsKept (s.advance t) n, hk.partsKept_of⟩
  · rw [sdStart_sd]
  · rw [sdStart_sd]
    rfl

theorem sdFaultRetry_idle (h : s.flag (Reg.SD_STATUS n) F.SD_STATUS_CPUV = false ∨ s.flag (Reg.SD_STATUS n) F.SD_STATUS_LATCHED = true ∨
      (s.sd n).run = false ∨ t < (s.sd n).retry.decision + Sys2Proof.ms (s.reg Reg.TRETRY)) :
    Completes (.sdFaultRetry n t) s (· = s) := by
  refine Completes.of (if_neg ?_) rfl
  simp only [Bool.and_eq_true, Bool.not_eq_true', decide_eq_true_eq]
  rintro ⟨⟨⟨hc, hl⟩, hr⟩, ht⟩
  obtain h | h | h | h := h
  · exact absurd (hc.symm.trans h) (by decide)
  · exact absurd (hl.symm.trans h) (by decide)
  · exact absurd (hr.symm.trans h) (by decide)
  · exact Nat.not_le.2 h ht

/-! ## DRV_CLEAR (R224) -/

/-- The history of a local driver emptied. -/
def ldEmptied (n : Nat) (s : State) : State := s.setLd n { s.ld n with retry := { (s.ld n).retry with clears := [] } }

/-- The latched fault of a local driver cleared. -/
def ldUnlatched (n : Nat) (s : State) : State :=
  ((s.setFlag (Reg.LD_STATUS n) F.LD_STATUS_LATCHED false).setFlag (Reg.LD_STATUS n) F.LD_STATUS_BSTUV false).setRegBit Reg.DRV_LATCHED n false

/-- A local driver whose fault has cleared starts again. -/
def ldRestart (n : Nat) (s : State) : State :=
  if (s.ld n).run then ldStart n s.now s else if s.flag (Reg.LD_CFG n) F.LD_CFG_EN then ldEnable n s else s

/-- DRV_CLEAR on one local driver. -/
def ldClearStep (n : Nat) (s : State) : State :=
  if (ldEmptied n s).flag (Reg.LD_STATUS n) F.LD_STATUS_LATCHED then ldRestart n (ldUnlatched n (ldEmptied n s)) else ldEmptied n s

/-- The history of a switch driver emptied. -/
def sdEmptied (n : Nat) (s : State) : State := s.setSd n { s.sd n with retry := { (s.sd n).retry with clears := [] } }

/-- The latched fault of a switch driver cleared. -/
def sdUnlatched (n : Nat) (s : State) : State :=
  ((s.setFlag (Reg.SD_STATUS n) F.SD_STATUS_LATCHED false).setFlag (Reg.SD_STATUS n) F.SD_STATUS_CPUV false).setRegBit Reg.DRV_LATCHED (8 + n)
    false

/-- A switch driver whose fault has cleared starts again. -/
def sdRestart (n : Nat) (s : State) : State :=
  if (s.sd n).run then sdStart n s else if s.flag (Reg.SD_CFG n) F.SD_CFG_EN then sdEnable n s else s

/-- DRV_CLEAR on one switch driver. -/
def sdClearStep (n : Nat) (s : State) : State :=
  if (sdEmptied n s).flag (Reg.SD_STATUS n) F.SD_STATUS_LATCHED then sdRestart n (sdUnlatched n (sdEmptied n s)) else sdEmptied n s

theorem actDrvClear_eq (mask : Nat) : (actDrvClear mask s).1 =
    ((s.forEach (bitsOf 8 mask) ldClearStep).forEach (bitsOf 4 (mask / 256)) sdClearStep).setReg Reg.DRV_CLEAR 0 := rfl

theorem ldRestart_spec (n : Nat) :
    (ldRestart n s).flag (Reg.LD_STATUS n) F.LD_STATUS_LATCHED = s.flag (Reg.LD_STATUS n) F.LD_STATUS_LATCHED ∧
    ((ldRestart n s).ld n).retry = (s.ld n).retry ∧ LdOnly n s (ldRestart n s) := by
  unfold ldRestart
  split
  · obtain ⟨-, -, hr⟩ := ldStart_ld s n s.now
    exact ⟨ldStart_flag _ _ _ (by decide) (by decide), hr, (LdOnly.refl s).start _⟩
  · split
    · exact ⟨ldEnable_latched s n, ldEnable_retry s n, (LdOnly.refl s).enable⟩
    · exact ⟨rfl, rfl, LdOnly.refl s⟩

theorem sdRestart_spec (n : Nat) :
    (sdRestart n s).flag (Reg.SD_STATUS n) F.SD_STATUS_LATCHED = s.flag (Reg.SD_STATUS n) F.SD_STATUS_LATCHED ∧
    ((sdRestart n s).sd n).retry = (s.sd n).retry ∧ SdOnly n s (sdRestart n s) := by
  unfold sdRestart
  split
  · exact ⟨sdStart_flag _ _ (by decide), by rw [sdStart_sd], (SdOnly.refl s).start⟩
  · split
    · exact ⟨sdEnable_latched s n, sdEnable_retry s n, (SdOnly.refl s).enable⟩
    · exact ⟨rfl, rfl, SdOnly.refl s⟩

theorem ldEmptied_clears (n : Nat) : ((ldEmptied n s).ld n).retry.clears = [] := congrArg (·.retry.clears) (ld_setLd_self ..)

theorem sdEmptied_clears (n : Nat) : ((sdEmptied n s).sd n).retry.clears = [] := congrArg (·.retry.clears) (sd_setSd_self ..)

theorem ldUnlatched_ld (n i : Nat) : (ldUnlatched n s).ld i = s.ld i := rfl

theorem ldUnlatched_latched {n : Nat} (hn : n < 8) : (ldUnlatched n s).flag (Reg.LD_STATUS n) F.LD_STATUS_LATCHED = false := by
  have hreg : (ldUnlatched n s).reg (Reg.LD_STATUS n) = ((s.setFlag (Reg.LD_STATUS n) F.LD_STATUS_LATCHED false).setFlag (Reg.LD_STATUS n)
      F.LD_STATUS_BSTUV false).reg (Reg.LD_STATUS n) :=
    reg_setRegBit_other _ _ _ (key_ne_of_index (by decide) (by omega) (by decide))
  rw [flag_of_reg _ hreg, flag_setFlag_disjoint _ _ _ (by decide), flag_setFlag_self _ _ _ _ (by decide)]

theorem sdUnlatched_sd (n i : Nat) : (sdUnlatched n s).sd i = s.sd i := rfl

theorem sdUnlatched_latched {n : Nat} (hn : n < 4) : (sdUnlatched n s).flag (Reg.SD_STATUS n) F.SD_STATUS_LATCHED = false := by
  have hreg : (sdUnlatched n s).reg (Reg.SD_STATUS n) = ((s.setFlag (Reg.SD_STATUS n) F.SD_STATUS_LATCHED false).setFlag (Reg.SD_STATUS n)
      F.SD_STATUS_CPUV false).reg (Reg.SD_STATUS n) :=
    reg_setRegBit_other _ _ _ (key_ne_of_index (by decide) (by omega) (by decide))
  rw [flag_of_reg _ hreg, flag_setFlag_disjoint _ _ _ (by decide), flag_setFlag_self _ _ _ _ (by decide)]

theorem ldClearStep_only (n : Nat) : LdOnly n s (ldClearStep n s) := by
  have h : LdOnly n s (ldEmptied n s) := (LdOnly.refl s).setLd _
  obtain ⟨-, -, hr⟩ := ldRestart_spec (ldUnlatched n (ldEmptied n s)) n
  unfold ldClearStep
  split
  · exact (((h.setFlag _ _).setFlag _ _).setRegBit _ _).trans hr
  · exact h

theorem sdClearStep_only (n : Nat) : SdOnly n s (sdClearStep n s) := by
  have h : SdOnly n s (sdEmptied n s) := (SdOnly.refl s).setSd _
  obtain ⟨-, -, hr⟩ := sdRestart_spec (sdUnlatched n (sdEmptied n s)) n
  unfold sdClearStep
  split
  · exact (((h.setFlag _ _).setFlag _ _).setRegBit _ _).trans hr
  · exact h

/-- A driver of the mask has no latched fault and an empty history afterwards. -/
theorem ldClearStep_spec {n : Nat} (hn : n < 8) : (ldClearStep n s).flag (Reg.LD_STATUS n) F.LD_STATUS_LATCHED = false ∧
    ((ldClearStep n s).ld n).retry.clears = [] := by
  obtain ⟨hl, hr, -⟩ := ldRestart_spec (ldUnlatched n (ldEmptied n s)) n
  unfold ldClearStep
  split
  · exact ⟨hl.trans (ldUnlatched_latched _ hn), by rw [hr, ldUnlatched_ld, ldEmptied_clears]⟩
  · next h => exact ⟨by simpa using h, ldEmptied_clears s n⟩

theorem sdClearStep_spec {n : Nat} (hn : n < 4) : (sdClearStep n s).flag (Reg.SD_STATUS n) F.SD_STATUS_LATCHED = false ∧
    ((sdClearStep n s).sd n).retry.clears = [] := by
  obtain ⟨hl, hr, -⟩ := sdRestart_spec (sdUnlatched n (sdEmptied n s)) n
  unfold sdClearStep
  split
  · exact ⟨hl.trans (sdUnlatched_latched _ hn), by rw [hr, sdUnlatched_sd, sdEmptied_clears]⟩
  · next h => exact ⟨by simpa using h, sdEmptied_clears s n⟩

theorem lt_of_mem_bitsOf {m v i : Nat} (h : i ∈ bitsOf m v) : i < m := (mem_bitsOf.1 h).1

/-- What DRV_CLEAR leaves of a local driver: its latch where it is not of the mask. -/
theorem actDrvClear_ld (mask : Nat) {k : Nat} (hk : k < 8) :
    (actDrvClear mask s).1.flag (Reg.LD_STATUS k) F.LD_STATUS_LATCHED = (s.flag (Reg.LD_STATUS k) F.LD_STATUS_LATCHED && !bit mask k) ∧
    (bit mask k = true → (((actDrvClear mask s).1.ld k).retry.clears = [])) := by
  obtain ⟨x, hx⟩ : ∃ x, x = s.forEach (bitsOf 8 mask) ldClearStep := ⟨_, rfl⟩
  obtain ⟨hreg, hlds⟩ := forEach_sdOnly (i := 0x2B06) (a := 1 + k) (fun n u => sdClearStep_only u n) (l := bitsOf 4 (mask / 256))
    (fun _ => lt_of_mem_bitsOf) (by decide) (by omega) (key_ne_of_index (by decide) (by omega) (by decide)) x
  have hreg' : (actDrvClear mask s).1.reg (Reg.LD_STATUS k) = x.reg (Reg.LD_STATUS k) := by
    have hne : Reg.LD_STATUS k ≠ Reg.DRV_CLEAR := key_ne_of_index (by decide) (by omega) (by decide)
    rw [actDrvClear_eq, ← hx, reg_setReg_other _ _ hne]
    exact hreg
  have hlds' : (actDrvClear mask s).1.lds = x.lds := by
    rw [actDrvClear_eq, ← hx]
    exact hlds
  have hother (n i : Nat) (u : State) (h : i ≠ n) : ldView i (ldClearStep n u) = ldView i u := (ldClearStep_only u n).view h
  rw [flag_of_reg _ hreg', ld_of_lds hlds', hx]
  by_cases hm : bit mask k = true
  · obtain ⟨w, -, -, he⟩ := forEach_view_mem ldView (fun _ => ()) hother (fun _ _ => rfl) (nodup_bitsOf 8 mask) (mem_bitsOf.2 ⟨hk, hm⟩) s
    obtain ⟨h1, h2⟩ := ldView_eq hk he
    obtain ⟨hl, hc⟩ := ldClearStep_spec w hk
    rw [flag_of_reg _ h1, h2, hl, hm, Bool.not_true, Bool.and_false]
    exact ⟨rfl, fun _ => hc⟩
  · have he := forEach_view_other ldView hother (fun h : k ∈ bitsOf 8 mask => hm (mem_bitsOf.1 h).2) s
    obtain ⟨h1, -⟩ := ldView_eq hk he
    rw [flag_of_reg _ h1, Bool.eq_false_iff.2 hm, Bool.not_false, Bool.and_true]
    exact ⟨rfl, nofun⟩

theorem bit_div_256 (v k : Nat) : bit (v / 256) k = bit v (8 + k) := by
  unfold bit
  rw [Nat.div_div_eq_div_mul, Nat.pow_add]

/-- What DRV_CLEAR leaves of a switch driver: its latch where it is not of the mask. -/
theorem actDrvClear_sd (mask : Nat) {k : Nat} (hk : k < 4) :
    (actDrvClear mask s).1.flag (Reg.SD_STATUS k) F.SD_STATUS_LATCHED = (s.flag (Reg.SD_STATUS k) F.SD_STATUS_LATCHED && !bit mask (8 + k)) ∧
    (bit mask (8 + k) = true → (((actDrvClear mask s).1.sd k).retry.clears = [])) := by
  obtain ⟨x, hx⟩ : ∃ x, x = s.forEach (bitsOf 8 mask) ldClearStep := ⟨_, rfl⟩
  obtain ⟨hxreg, hxsds⟩ := forEach_ldOnly (i := 0x2B11) (a := 1 + k) (fun n u => ldClearStep_only u n) (l := bitsOf 8 mask)
    (fun _ => lt_of_mem_bitsOf) (by decide) (by omega) (key_ne_of_index (by decide) (by omega) (by decide)) s
  rw [← hx] at hxreg hxsds
  have hreg : (actDrvClear mask s).1.reg (Reg.SD_STATUS k) = (x.forEach (bitsOf 4 (mask / 256)) sdClearStep).reg (Reg.SD_STATUS k) := by
    have hne : Reg.SD_STATUS k ≠ Reg.DRV_CLEAR := key_ne_of_index (by decide) (by omega) (by decide)
    rw [actDrvClear_eq, ← hx, reg_setReg_other _ _ hne]
  have hsds : (actDrvClear mask s).1.sds = (x.forEach (bitsOf 4 (mask / 256)) sdClearStep).sds := by
    rw [actDrvClear_eq, ← hx]
    rfl
  have hother (n i : Nat) (u : State) (h : i ≠ n) : sdView i (sdClearStep n u) = sdView i u := (sdClearStep_only u n).view h
  rw [flag_of_reg _ hreg, sd_of_sds hsds, ← bit_div_256]
  by_cases hm : bit (mask / 256) k = true
  · obtain ⟨w, -, -, he⟩ :=
      forEach_view_mem sdView (fun _ => ()) hother (fun _ _ => rfl) (nodup_bitsOf 4 (mask / 256)) (mem_bitsOf.2 ⟨hk, hm⟩) x
    obtain ⟨h1, h2⟩ := sdView_eq hk he
    obtain ⟨hl, hc⟩ := sdClearStep_spec w hk
    rw [flag_of_reg _ h1, h2, hl, hm, Bool.not_true, Bool.and_false]
    exact ⟨rfl, fun _ => hc⟩
  · have he := forEach_view_other sdView hother (fun h : k ∈ bitsOf 4 (mask / 256) => hm (mem_bitsOf.1 h).2) x
    obtain ⟨h1, -⟩ := sdView_eq hk he
    rw [flag_of_reg _ (h1.trans hxreg), Bool.eq_false_iff.2 hm, Bool.not_false, Bool.and_true]
    exact ⟨rfl, nofun⟩

theorem drvClear_spec (mask : BitVec 12) :
    Completes (.drvClear mask) s (fun u => u.reg Reg.DRV_CLEAR = 0 ∧ PartsKept [.regs, .lds, .sds] s u ∧
      (∀ k, k < 8 → u.flag (Reg.LD_STATUS k) F.LD_STATUS_LATCHED = (s.flag (Reg.LD_STATUS k) F.LD_STATUS_LATCHED && !mask.getLsbD k) ∧
        (mask.getLsbD k = true → (u.ld k).retry.clears = [])) ∧
      ∀ k, k < 4 → u.flag (Reg.SD_STATUS k) F.SD_STATUS_LATCHED = (s.flag (Reg.SD_STATUS k) F.SD_STATUS_LATCHED && !mask.getLsbD (8 + k)) ∧
        (mask.getLsbD (8 + k) = true → (u.sd k).retry.clears = [])) := by
  refine Completes.ofKeeps (execDrvClear_keeps mask s) (u := (actDrvClear mask.toNat s).1) rfl fun hk =>
    ⟨?_, hk.partsKept_of, fun k h => ?_, fun k h => ?_⟩
  · rw [actDrvClear_eq, reg_setReg_self]
  · rw [← bit_toNat]
    exact actDrvClear_ld s mask.toNat h
  · rw [← bit_toNat]
    exact actDrvClear_sd s mask.toNat h

/-! ## The drivers' supply (R225) -/

theorem ldUvStep_only (uv : Bool) (n : Nat) : LdOnly n s (ldUvStep uv n s) := by
  have h := (LdOnly.refl (n := n) s).setFlag F.LD_STATUS_VDRV_UV uv
  unfold ldUvStep
  dsimp only
  split
  · exact (h.setFlag _ _).apply _
  · split
    · exact h.start _
    · exact h

theorem sdUvStep_only (uv : Bool) (n : Nat) : SdOnly n s (sdUvStep uv n s) := by
  have h := (SdOnly.refl (n := n) s).setFlag F.SD_STATUS_VDRV_UV uv
  unfold sdUvStep
  dsimp only
  split
  · exact ((h.setSd _).setFlag _ _).setFlag _ _
  · split
    · exact h.start
    · exact h

/-- Without its supply a local driver has both sides off. -/
theorem ldUvStep_off (n : Nat) : ((ldUvStep true n s).ld n).high.on = false ∧ ((ldUvStep true n s).ld n).low.on = false := by
  obtain ⟨w, hw⟩ : ∃ w, w = (s.setFlag (Reg.LD_STATUS n) F.LD_STATUS_VDRV_UV true).setFlag (Reg.LD_STATUS n) F.LD_STATUS_BST_WAIT false :=
    ⟨_, rfl⟩
  have huv : w.flag (Reg.LD_STATUS n) F.LD_STATUS_VDRV_UV = true := by
    rw [hw, flag_setFlag_disjoint _ _ _ (by decide), flag_setFlag_self _ _ _ _ (by decide)]
  have e : ldUvStep true n s = ldApply n s.now w := by rw [hw]; rfl
  obtain ⟨-, hh, hl⟩ := ldApply_ld w n s.now
  rw [e, hh, hl, ldWant_off (.inr huv)]
  exact ⟨rfl, rfl⟩

/-- A switch driver shows the mark of its supply, without which its output is off. -/
theorem sdUvStep_status (uv : Bool) (n : Nat) : (sdUvStep uv n s).flag (Reg.SD_STATUS n) F.SD_STATUS_VDRV_UV = uv ∧
    (uv = true → (sdUvStep uv n s).flag (Reg.SD_STATUS n) F.SD_STATUS_OUT_ON = false) := by
  have huv := flag_setFlag_self s (Reg.SD_STATUS n) F.SD_STATUS_VDRV_UV uv (by decide)
  unfold sdUvStep
  dsimp only
  generalize s.setFlag (Reg.SD_STATUS n) F.SD_STATUS_VDRV_UV uv = x at huv
  split
  · next h =>
    have hx : ((x.setSd n { x.sd n with pump := false }).setFlag (Reg.SD_STATUS n) F.SD_STATUS_CP_OK false).flag (Reg.SD_STATUS n)
        F.SD_STATUS_VDRV_UV = uv := (flag_setFlag_disjoint (x.setSd n { x.sd n with pump := false }) _ _ (by decide)).trans huv
    refine ⟨(sdApply_flag _ n (by decide)).trans hx, fun _ => ?_⟩
    rw [sdApply_out, State.sdOut, hx, h, Bool.not_true, Bool.and_false, Bool.false_and]
  · next h =>
    refine ⟨?_, fun h' => absurd h' h⟩
    split
    · exact (sdStart_flag _ n (by decide)).trans huv
    · exact huv

theorem driversUv_ld {k : Nat} (hk : k < 8) : ((driversUv true s).ld k).high.on = false ∧ ((driversUv true s).ld k).low.on = false := by
  have hsd : (driversUv true s).lds = (s.forEach (List.range 8) (ldUvStep true)).lds :=
    forEach_frame State.lds _ _ (fun n u => (sdUvStep_only u true n).lds) _
  obtain ⟨w, -, -, he⟩ := forEach_view_mem ldView (fun _ => ()) (fun n i u h => (ldUvStep_only u true n).view h) (fun _ _ => rfl)
    List.nodup_range (List.mem_range.2 hk) s
  obtain ⟨-, hld⟩ := ldView_eq hk he
  rw [ld_of_lds hsd, hld]
  exact ldUvStep_off w k

theorem driversUv_sd (uv : Bool) {k : Nat} (hk : k < 4) : (driversUv uv s).flag (Reg.SD_STATUS k) F.SD_STATUS_VDRV_UV = uv ∧
    (uv = true → (driversUv uv s).flag (Reg.SD_STATUS k) F.SD_STATUS_OUT_ON = false) := by
  obtain ⟨w, -, -, he⟩ := forEach_view_mem sdView (fun _ => ()) (fun n i u h => (sdUvStep_only u uv n).view h) (fun _ _ => rfl)
    List.nodup_range (List.mem_range.2 hk) (s.forEach (List.range 8) (ldUvStep uv))
  obtain ⟨hreg, -⟩ := sdView_eq hk he
  rw [driversUv_eq, flag_of_reg _ hreg, flag_of_reg _ hreg]
  exact sdUvStep_status w uv k

theorem driversUv_vdrv (uv : Bool) : (driversUv uv s).reg Reg.VDRV = s.reg Reg.VDRV := by
  obtain ⟨h1, -⟩ := forEach_ldOnly (i := 0x2B20) (a := 1) (fun n u => ldUvStep_only u uv n) (l := List.range 8) (fun _ => List.mem_range.1)
    (by decide) (by decide) (by decide) s
  obtain ⟨h2, -⟩ := forEach_sdOnly (i := 0x2B20) (a := 1) (fun n u => sdUvStep_only u uv n) (l := List.range 4) (fun _ => List.mem_range.1)
    (by decide) (by decide) (by decide) (s.forEach (List.range 8) (ldUvStep uv))
  exact h2.trans h1

variable {mv : BitVec 16}

theorem vdrvUndervoltage_due (h : mv.toNat < 9000) :
    Completes (.vdrvUndervoltage mv t) s fun u => u.reg Reg.VDRV = mv.toNat ∧ PartsKept [.now, .regs, .lds, .sds] s u ∧
      (∀ k, k < 8 → u.flag (Reg.LD_STATUS k) F.LD_STATUS_VDRV_UV = true ∧ (u.ld k).high.on = false ∧ (u.ld k).low.on = false) ∧
      ∀ k, k < 4 → u.flag (Reg.SD_STATUS k) F.SD_STATUS_VDRV_UV = true ∧ u.flag (Reg.SD_STATUS k) F.SD_STATUS_OUT_ON = false := by
  refine Completes.ofKeeps (execVdrvUndervoltage_keeps mv t s) (if_pos h) fun hk =>
    ⟨(driversUv_vdrv ..).trans (reg_setReg_self ..), hk.partsKept_of, fun k h8 => ?_, fun k h4 => ?_⟩
  · exact ⟨driversUv_flag _ true ⟨k, h8⟩, driversUv_ld _ h8⟩
  · obtain ⟨h1, h2⟩ := driversUv_sd ((s.advance t).setReg Reg.VDRV mv.toNat) true h4
    exact ⟨h1, h2 rfl⟩

theorem LD_STATUS_zero_flag (f : Fld) (v : Nat) : ((s.advance t).setReg Reg.VDRV v).flag (Reg.LD_STATUS 0) f = s.flag (Reg.LD_STATUS 0) f :=
  flag_of_reg f (reg_setReg_other (s.advance t) v (by decide))

theorem vdrvRecover_marked (h : 9500 < mv.toNat) (hu : s.flag (Reg.LD_STATUS 0) F.LD_STATUS_VDRV_UV = true) :
    Completes (.vdrvRecover mv t) s fun u => u.reg Reg.VDRV = mv.toNat ∧ PartsKept [.now, .regs, .lds, .sds] s u ∧
      (∀ k, k < 8 → u.flag (Reg.LD_STATUS k) F.LD_STATUS_VDRV_UV = false) ∧ ∀ k, k < 4 → u.flag (Reg.SD_STATUS k) F.SD_STATUS_VDRV_UV = false := by
  have e : exec (.vdrvRecover mv t) s = .next (driversUv false ((s.advance t).setReg Reg.VDRV mv.toNat)) :=
    (if_pos h).trans (if_pos ((LD_STATUS_zero_flag s t _ _).trans hu))
  refine Completes.ofKeeps (execVdrvRecover_keeps mv t s) e fun hk =>
    ⟨(driversUv_vdrv ..).trans (reg_setReg_self ..), hk.partsKept_of, fun k h8 => driversUv_flag _ false ⟨k, h8⟩, fun k h4 => ?_⟩
  obtain ⟨h1, -⟩ := driversUv_sd ((s.advance t).setReg Reg.VDRV mv.toNat) false h4
  exact h1

theorem vdrvRecover_unmarked (h : 9500 < mv.toNat) (hu : s.flag (Reg.LD_STATUS 0) F.LD_STATUS_VDRV_UV = false) :
    Completes (.vdrvRecover mv t) s (· = (s.advance t).setReg Reg.VDRV mv.toNat) :=
  Completes.of ((if_pos h).trans (if_neg (by rw [LD_STATUS_zero_flag, hu]; decide))) rfl

/-- Settles O38, clause by clause from the lemma of each command. -/
theorem switchDriversAndSupply : Obligations.SwitchDriversAndSupply := by
  unfold Obligations.SwitchDriversAndSupply
  intro s n mask mv t m st r
  exact ⟨sdEnable_starts s n t, sdEnable_running s n t, sdEnable_refused s n t, sdEnable_stopping s n t, sdCpReady_disabled s n t,
    sdCpReady_idle s n t, sdFaultRetry_idle s n t, sdCpReady_done s n t, sdCpuv_due s n t, sdCpuv_idle s n t, sdFaultRetry_due s n t,
    drvClear_spec s mask, vdrvUndervoltage_due s t, fun h => .of (if_neg (Nat.not_lt.2 h)) rfl, vdrvRecover_marked s t,
    vdrvRecover_unmarked s t, fun h => .of (if_neg (Nat.not_lt.2 h)) rfl⟩

end Sys2Proof
end

section
/-!
SUPPORT. The gate links (07_gate_links_and_drivers.md, R185 to R213): the edge queue, the downlink frame, lane faults, the uplink's port words and
the edge trainer.
-/

namespace Sys2Proof.Machine

/-! ## Lengths of a frame's fields (Table 7-3) -/

@[simp] theorem length_beBytes (n v : Nat) : (beBytes n v).length = n := by
  induction n with
  | zero => rfl
  | succ n ih => exact congrArg (· + 1) ih

variable (s : State)

@[simp] theorem length_slotBytes (e : Option QEdge) : (s.slotBytes e).length = 5 := by
  cases e with
  | none => rfl
  | some e => exact length_beBytes 5 _

@[simp] theorem length_mgmt (k : Nat) (t : Instant) : (s.mgmt k t).length = 6 := by
  unfold State.mgmt
  split
  · exact length_beBytes 6 _
  · split
    · rfl
    · exact length_beBytes 6 _

/-! ## Edge events (R189, R190) -/

variable {s} {e : EdgeEv}

theorem enqueueEdge_of_closed (h : s.holds = false ∨ s.laneState (e.ch / 4) ≠ laneLive) : enqueueEdge e s = s :=
  if_pos (by simpa using h)

theorem enqueueEdge_of_room (hh : s.holds = true) (hl : s.laneState (e.ch / 4) = laneLive) (hq : (s.lane (e.ch / 4)).queue.length < 8)
    (hd : s.driftEdge (e.ch / 4) (e.ch % 4) e.on = false) : enqueueEdge e s = s.setLane (e.ch / 4) { s.lane (e.ch / 4) with
      queue := insertEdge ⟨e.ch % 4, e.on, e.tag, s.code (e.ch / 4) (e.ch % 4) true, s.code (e.ch / 4) (e.ch % 4) false⟩
        (s.lane (e.ch / 4)).queue } := by
  unfold enqueueEdge
  dsimp only
  rw [if_neg (by simp [hh, hl]), if_neg (Nat.not_le.2 hq), hd]
  rfl

/-! ## The downlink frame (R188, R189, R193) -/

variable (s) (k : Nat) (t : Instant)

/-- The next access of a lane leaves all of the lane but its accesses as it is. -/
theorem nextAccess_lane : ∃ a w, (nextAccess k t s).lane k = { s.lane k with access := a, waiting := w } := by
  unfold nextAccess
  dsimp only
  split
  · exact ⟨_, _, rfl⟩
  · split
    · exact ⟨_, _, lane_setLane_self ..⟩
    · split
      · exact ⟨_, _, lane_setLane_self ..⟩
      · split
        · exact ⟨_, _, lane_setLane_self ..⟩
        · exact ⟨_, _, rfl⟩

/-- No slot of a frame carries an edge while an ARMED command executes or without the baton (R186, R191). -/
def State.muted (s : State) : Bool := s.arming.isSome || !s.holds

theorem muted_iff : s.muted = true ↔ s.arming ≠ none ∨ s.holds = false := by
  rw [State.muted, Bool.or_eq_true, Option.isSome_iff_ne_none, Bool.not_eq_true']

theorem nextAccess_muted : (nextAccess k t s).muted = s.muted := by
  have hk := nextAccess_keeps k t s
  have ha : (nextAccess k t s).arming = s.arming := hk.parts .arming (by decide)
  have hh : (nextAccess k t s).holds = s.holds := hk.parts .holds (by decide)
  rw [State.muted, ha, hh, State.muted]

/-- A late slot is counted and marked (R195). -/
theorem lateCounted_keeps (late : Bool) :
    Keeps 12 s (if late then (s.bump (Reg.LATE_TX k)).setFlag (Reg.GL_STATUS k) F.GL_STATUS_LATE true else s) := by
  split
  · exact (State.bump_keeps s _).trans ((State.setFlag_keeps ..).mono rfl)
  · exact Keeps.refl 12 s

/-- A frame ends with what it did to its lane, and a count of late slots apart it does nothing else. -/
theorem sendFrame_lane : ((sendFrame k t s).lane k).seq = ((s.lane k).seq + 1) % 256 ∧
    ((sendFrame k t s).lane k).queue = (if s.muted then (s.lane k).queue else (s.lane k).queue.drop 1) ∧
    ((sendFrame k t s).lane k).slot = if s.muted then none else (s.lane k).queue.head? := by
  obtain ⟨a, w, hl⟩ := nextAccess_lane s k t
  have hm := nextAccess_muted s k t
  unfold sendFrame
  dsimp only
  generalize nextAccess k t s = x at hl hm
  rw [show (x.arming.isSome || !x.holds) = s.muted from hm]
  have hlate := fun (late : Bool) (u : State) => (lateCounted_keeps u k late).parts .lanes (by decide)
  rw [lane_of_lanes ((emit_lanes _ _).trans (hlate _ _)), lane_setLane_self, hl]
  exact ⟨rfl, rfl, rfl⟩

theorem sendFrame_outs : ∃ f, (sendFrame k t s).outs = .downlink k t f :: s.outs ∧ f.length = 25 ∧ f.head? = some 0xBC := by
  have ho : (nextAccess k t s).outs = s.outs := (nextAccess_keeps k t s).parts .outs (by decide)
  unfold sendFrame
  dsimp only
  generalize nextAccess k t s = x at ho
  refine ⟨_, congrArg (List.cons _) ?_, ?_, rfl⟩
  · have hlate := fun (late : Bool) (u : State) => (lateCounted_keeps u k late).parts .outs (by decide)
    exact Eq.trans (hlate _ _) ho
  · simp

/-! ## Lane faults (R208 to R210) -/

variable {s k}

theorem LANE_FAULT_ne_GL_STATUS (hk : k < 64) : Reg.LANE_FAULT ≠ Reg.GL_STATUS k := key_ne_of_index (by decide) (by decide) (by omega)

theorem LANE_LATCHED_ne_GL_STATUS (hk : k < 64) : Reg.LANE_LATCHED ≠ Reg.GL_STATUS k := key_ne_of_index (by decide) (by decide) (by omega)

/-- The registers of a lane that shows a fault. -/
def laneShown (k c : Nat) (s : State) : State :=
  ((s.setFlag (Reg.GL_STATUS k) F.GL_STATUS_FAULT true).setFld (Reg.GL_STATUS k) F.GL_STATUS_CAUSE c).setRegBit Reg.LANE_FAULT k true

/-- The decision of a lane fault, before its latch check. -/
def laneDecided (k c : Nat) (s : State) : State :=
  let x := laneShown k c s
  x.setLane k { x.lane k with retry := { (x.lane k).retry with decision := x.now }, released := false, manual := false }

/-- The decision with its latch check. -/
def laneChecked (k c : Nat) (s : State) : State :=
  if (laneDecided k c s).laneLatches k then latchLane k (laneDecided k c s) else laneDecided k c s

theorem laneFault_of_idle {c : Nat} (h : c = 0 ∨ s.laneState k ≠ laneLive) : laneFault k c s = s := if_pos (by simpa using h)

theorem laneFault_of_known {c : Nat} (hc : c ≠ 0) (hl : s.laneState k = laneLive) (hf : s.regBit Reg.LANE_FAULT k = true) :
    laneFault k c s = s.setFld (Reg.GL_STATUS k) F.GL_STATUS_CAUSE (s.fld (Reg.GL_STATUS k) F.GL_STATUS_CAUSE ||| c) :=
  (if_neg (by simp [hc, hl])).trans (if_pos hf)

theorem laneFault_of_new {c : Nat} (hc : c ≠ 0) (hl : s.laneState k = laneLive) (hf : s.regBit Reg.LANE_FAULT k = false) :
    laneFault k c s = forceOffAll (laneChans k) (freezeTrainer k (laneChecked k c s)) :=
  (if_neg (by simp [hc, hl])).trans (if_neg (by simp [hf]))

variable (s k) (c : Nat)

theorem laneShown_regsKept : RegsKept [Reg.GL_STATUS k, Reg.LANE_FAULT] s (laneShown k c s) := by
  have h1 : RegsKept [Reg.GL_STATUS k, Reg.LANE_FAULT] s (s.setFlag (Reg.GL_STATUS k) F.GL_STATUS_FAULT true) :=
    regsKept_setFlag (regsKept_refl s _) _ _ (by simp)
  have h2 : RegsKept [Reg.GL_STATUS k, Reg.LANE_FAULT] s
      ((s.setFlag (Reg.GL_STATUS k) F.GL_STATUS_FAULT true).setFld (Reg.GL_STATUS k) F.GL_STATUS_CAUSE c) := h1.step (by simp)
  exact h2.step (by simp)

theorem laneShown_fault : (laneShown k c s).regBit Reg.LANE_FAULT k = true :=
  (regBit_setRegBit _ _ _ _ _).trans (if_pos rfl)

theorem laneShown_fld (hk : k < 64) (f : Fld) : (laneShown k c s).fld (Reg.GL_STATUS k) f =
    ((s.setFlag (Reg.GL_STATUS k) F.GL_STATUS_FAULT true).setFld (Reg.GL_STATUS k) F.GL_STATUS_CAUSE c).fld (Reg.GL_STATUS k) f :=
  congrArg (fget f) (reg_setRegBit_other _ k true (LANE_FAULT_ne_GL_STATUS hk).symm)

theorem laneShown_lanes : (laneShown k c s).lanes = s.lanes :=
  (setReg_lanes ..).trans ((setReg_lanes ..).trans (setReg_lanes ..))

theorem laneShown_now : (laneShown k c s).now = s.now :=
  (setReg_now ..).trans ((setReg_now ..).trans (setReg_now ..))

theorem laneDecided_reg (j : Nat) : (laneDecided k c s).reg j = (laneShown k c s).reg j := reg_of_regs (setLane_regs ..) j

theorem laneDecided_now : (laneDecided k c s).now = s.now := (setLane_now ..).trans (laneShown_now s k c)

theorem laneDecided_lane : (laneDecided k c s).lane k = { s.lane k with
    retry := { (s.lane k).retry with decision := s.now }, released := false, manual := false } := by
  unfold laneDecided
  rw [lane_setLane_self, lane_of_lanes (laneShown_lanes s k c), laneShown_now]

theorem laneDecided_latches (hk : k < 64) : (laneDecided k c s).laneLatches k = s.laneLatches k := by
  have hreg {i a : Nat} (hi : i = 0x2A01 ∨ i = 0x2841) (ha : a < 256) : (laneDecided k c s).reg (Reg.key i a) = s.reg (Reg.key i a) := by
    refine (laneDecided_reg s k c _).trans (laneShown_regsKept s k c _ ?_)
    simp only [Reg.GL_STATUS, Reg.LANE_FAULT, Reg.key, List.mem_cons, List.not_mem_nil, or_false]
    omega
  have hcfg : (laneDecided k c s).reg (Reg.GL_CFG k) = s.reg (Reg.GL_CFG k) := hreg (.inl rfl) (by omega)
  have hntry : (laneDecided k c s).reg Reg.NTRY = s.reg Reg.NTRY := hreg (.inr rfl) (by decide)
  have htwin : (laneDecided k c s).reg Reg.TWIN = s.reg Reg.TWIN := hreg (.inr rfl) (by decide)
  unfold State.laneLatches State.latches State.triesAt
  rw [laneDecided_lane, laneDecided_now, flag_of_reg _ hcfg, hntry, htwin]

theorem latchLane_fld (hk : k < 64) {f : Fld}
    (h : f.lo + f.w ≤ F.GL_STATUS_LATCHED.lo ∨ F.GL_STATUS_LATCHED.lo + F.GL_STATUS_LATCHED.w ≤ f.lo) :
    (latchLane k s).fld (Reg.GL_STATUS k) f = s.fld (Reg.GL_STATUS k) f :=
  (congrArg (fget f) (reg_setRegBit_other _ k true (LANE_LATCHED_ne_GL_STATUS hk).symm)).trans (fld_setFld_disjoint s _ _ h)

theorem latchLane_latched : (latchLane k s).regBit Reg.LANE_LATCHED k = true :=
  (regBit_setRegBit _ _ _ _ _).trans (if_pos rfl)

theorem latchLane_regsKept : RegsKept [Reg.GL_STATUS k, Reg.LANE_LATCHED] s (latchLane k s) :=
  RegsKept.step (t := s.setFlag (Reg.GL_STATUS k) F.GL_STATUS_LATCHED true) (RegsKept.step (regsKept_refl s _) (by simp)) (by simp)

/-- What a decided fault shows once its latch check is made. -/
theorem laneChecked_spec (hk : k < 64) : (laneChecked k c s).regBit Reg.LANE_FAULT k = true ∧
    (laneChecked k c s).fld (Reg.GL_STATUS k) F.GL_STATUS_CAUSE = c % 128 ∧ ((laneChecked k c s).lane k).retry.decision = s.now ∧
    (s.laneLatches k = true → (laneChecked k c s).regBit Reg.LANE_LATCHED k = true) := by
  have hcause : (laneDecided k c s).fld (Reg.GL_STATUS k) F.GL_STATUS_CAUSE = c % 128 :=
    (congrArg (fget _) (laneDecided_reg s k c _)).trans ((laneShown_fld s k c hk _).trans (fld_setFld_self ..))
  have hfault : (laneDecided k c s).regBit Reg.LANE_FAULT k = true :=
    (regBit_of_reg k (laneDecided_reg s k c _)).trans (laneShown_fault s k c)
  have hdec := congrArg (·.retry.decision) (laneDecided_lane s k c)
  unfold laneChecked
  rw [laneDecided_latches s k c hk]
  split
  · have hlf : Reg.LANE_FAULT ∉ [Reg.GL_STATUS k, Reg.LANE_LATCHED] := by
      simpa using ⟨LANE_FAULT_ne_GL_STATUS hk, (by decide : Reg.LANE_FAULT ≠ Reg.LANE_LATCHED)⟩
    have hlane := lane_of_lanes ((latchLane_keeps k (laneDecided k c s)).parts .lanes (by decide)) k
    refine ⟨?_, (latchLane_fld _ k hk (by decide)).trans hcause, ?_, fun _ => latchLane_latched _ k⟩
    · rw [regBit_of_reg _ (latchLane_regsKept _ k _ hlf), hfault]
    · rw [hlane]
      exact hdec
  · next h => exact ⟨hfault, hcause, hdec, fun hl => absurd hl h⟩

theorem freezeTrainer_lane : (freezeTrainer k s).lane k = { s.lane k with train := [] } :=
  (lane_of_lanes (setReg_lanes ..) k).trans (lane_setLane_self ..)

/-- Freezing the trainer and forcing the channels off leave a lane's fault and its record as they are. -/
theorem freezeOff_spec : RegsKept [Reg.GL_STATUS k] s (forceOffAll (laneChans k) (freezeTrainer k s)) ∧
    (∀ f : Fld, f.lo + f.w ≤ F.GL_STATUS_TRAIN_FROZEN.lo ∨ F.GL_STATUS_TRAIN_FROZEN.lo + F.GL_STATUS_TRAIN_FROZEN.w ≤ f.lo →
      (forceOffAll (laneChans k) (freezeTrainer k s)).fld (Reg.GL_STATUS k) f = s.fld (Reg.GL_STATUS k) f) ∧
    ((forceOffAll (laneChans k) (freezeTrainer k s)).lane k).retry = (s.lane k).retry := by
  have hreg (j : Nat) := reg_of_regs (forceOffAll_regs (freezeTrainer k s) (laneChans k)) j
  have hlane := lane_of_lanes ((forceOffAll_keeps (laneChans k) (freezeTrainer k s)).parts .lanes (by decide)) k
  have hfrozen : RegsKept [Reg.GL_STATUS k] s (freezeTrainer k s) :=
    RegsKept.step (regsKept_setLane (regsKept_refl s _) k _) (List.mem_singleton.2 rfl)
  refine ⟨fun j hj => (hreg j).trans (hfrozen j hj), fun f hf => ?_, ?_⟩
  · exact (congrArg (fget f) (hreg _)).trans (fld_setFld_disjoint (s.setLane k { s.lane k with train := [] }) _ _ hf)
  · rw [hlane, freezeTrainer_lane]

variable {s k c}

theorem laneFault_new (hk : k < 64) (hc : c ≠ 0) (hl : s.laneState k = laneLive) (hf : s.regBit Reg.LANE_FAULT k = false) :
    (laneFault k c s).regBit Reg.LANE_FAULT k = true ∧ (laneFault k c s).fld (Reg.GL_STATUS k) F.GL_STATUS_CAUSE = c % 128 ∧
      ((laneFault k c s).lane k).retry.decision = s.now ∧ (s.laneLatches k = true → (laneFault k c s).regBit Reg.LANE_LATCHED k = true) := by
  obtain ⟨hfault, hcause, hdec, hlatch⟩ := laneChecked_spec s k c hk
  obtain ⟨hregs, hfld, hretry⟩ := freezeOff_spec (laneChecked k c s) k
  rw [laneFault_of_new hc hl hf, regBit_of_reg _ (hregs Reg.LANE_FAULT (by simpa using LANE_FAULT_ne_GL_STATUS hk)),
    regBit_of_reg _ (hregs Reg.LANE_LATCHED (by simpa using LANE_LATCHED_ne_GL_STATUS hk)), hfld _ (by decide), hretry]
  exact ⟨hfault, hcause, hdec, hlatch⟩

/-- A LIVE lane shows a fault after a cause. -/
theorem laneFault_shown (hk : k < 64) (hc : c ≠ 0) (hl : s.laneState k = laneLive) : (laneFault k c s).regBit Reg.LANE_FAULT k = true := by
  cases hf : s.regBit Reg.LANE_FAULT k with
  | false => exact (laneFault_new hk hc hl hf).1
  | true =>
    rw [laneFault_of_known hc hl hf, ← hf]
    exact regBit_of_reg k (reg_setFld_other s _ _ (LANE_FAULT_ne_GL_STATUS hk))

theorem laneChecked_linkOk (hk : k < 64) : (laneChecked k c s).flag (Reg.GL_STATUS k) F.GL_STATUS_LINK_OK =
    s.flag (Reg.GL_STATUS k) F.GL_STATUS_LINK_OK := by
  have hdec : (laneDecided k c s).fld (Reg.GL_STATUS k) F.GL_STATUS_LINK_OK = s.fld (Reg.GL_STATUS k) F.GL_STATUS_LINK_OK :=
    calc (laneDecided k c s).fld (Reg.GL_STATUS k) F.GL_STATUS_LINK_OK
      _ = (laneShown k c s).fld (Reg.GL_STATUS k) F.GL_STATUS_LINK_OK := congrArg (fget _) (laneDecided_reg s k c _)
      _ = (s.setFlag (Reg.GL_STATUS k) F.GL_STATUS_FAULT true).fld (Reg.GL_STATUS k) F.GL_STATUS_LINK_OK :=
        (laneShown_fld s k c hk _).trans (fld_setFld_disjoint _ _ _ (by decide))
      _ = s.fld (Reg.GL_STATUS k) F.GL_STATUS_LINK_OK := fld_setFld_disjoint _ _ _ (by decide)
  unfold State.flag laneChecked
  split
  · rw [latchLane_fld _ k hk (by decide), hdec]
  · rw [hdec]

/-- A lane fault says nothing of the link. -/
theorem laneFault_linkOk (hk : k < 64) : (laneFault k c s).flag (Reg.GL_STATUS k) F.GL_STATUS_LINK_OK =
    s.flag (Reg.GL_STATUS k) F.GL_STATUS_LINK_OK := by
  by_cases h : c = 0 ∨ s.laneState k ≠ laneLive
  · rw [laneFault_of_idle h]
  · rw [not_or, not_not] at h
    obtain ⟨hc, hl⟩ := h
    cases hf : s.regBit Reg.LANE_FAULT k with
    | false =>
      obtain ⟨-, hfld, -⟩ := freezeOff_spec (laneChecked k c s) k
      rw [laneFault_of_new hc hl hf]
      exact (congrArg (· == 1) (hfld F.GL_STATUS_LINK_OK (by decide))).trans (laneChecked_linkOk hk)
    | true =>
      rw [laneFault_of_known hc hl hf]
      exact congrArg (· == 1) (fld_setFld_disjoint s _ _ (by decide))

/-! ## A refused ARMED command (R186) -/

theorem flag_setLane (s : State) (k j : Nat) (l : Lane) (f : Fld) : (s.setLane k l).flag j f = s.flag j f :=
  flag_of_reg f (reg_of_regs (setLane_regs ..) j)

/-- What a lane that goes idle leaves of a lane's link and of the lane faults. -/
theorem leaveLive_link {i : Nat} (hi : i < 64) (hk : k < 64) (st : Nat) :
    (leaveLive i st s).flag (Reg.GL_STATUS k) F.GL_STATUS_LINK_OK = s.flag (Reg.GL_STATUS k) F.GL_STATUS_LINK_OK ∧
      (leaveLive i st s).reg Reg.LANE_FAULT = s.reg Reg.LANE_FAULT := by
  have hne : Reg.LANE_FAULT ∉ laneKeys i := by
    simpa [laneKeys] using ⟨LANE_FAULT_ne_GL_STATUS hi, (by decide : Reg.LANE_FAULT ≠ Reg.LANES_LIVE),
      (by decide : Reg.LANE_FAULT ≠ Reg.GU_RESULT)⟩
  refine ⟨?_, leaveLive_regsKept i s st _ hne⟩
  by_cases e : k = i
  · subst e
    have hst : (setLaneState k st s).flag (Reg.GL_STATUS k) F.GL_STATUS_LINK_OK = s.flag (Reg.GL_STATUS k) F.GL_STATUS_LINK_OK :=
      (flag_of_reg _ (reg_setRegBit_other _ _ _ (GL_STATUS_ne_LANES_LIVE k))).trans
        (congrArg (· == 1) (fld_setFld_disjoint s _ st (by decide)))
    unfold leaveLive
    dsimp only
    generalize setLaneState k st s = v at hst
    refine (flag_setFlag_disjoint _ _ _ (by decide)).trans ?_
    split
    · rw [flag_of_reg _ (reg_setReg_other _ _ (GL_STATUS_ne_GU_RESULT k hk)), flag_setLane, hst]
    · rw [flag_setLane, hst]
  · refine flag_of_reg _ (leaveLive_regsKept i s st _ ?_)
    simp only [laneKeys, Reg.GL_STATUS, Reg.LANES_LIVE, Reg.GU_RESULT, Reg.key, List.mem_cons, List.not_mem_nil, or_false]
    omega

theorem lanesIdle_link (hk : k < 64) :
    (lanesIdle s).flag (Reg.GL_STATUS k) F.GL_STATUS_LINK_OK = s.flag (Reg.GL_STATUS k) F.GL_STATUS_LINK_OK ∧
      (lanesIdle s).reg Reg.LANE_FAULT = s.reg Reg.LANE_FAULT := by
  have h := forEach_mem_frame (fun u => (u.flag (Reg.GL_STATUS k) F.GL_STATUS_LINK_OK, u.reg Reg.LANE_FAULT)) (List.range 64)
    (fun i u => if u.laneState i = laneLive then leaveLive i laneIdle u else u) (fun i hi u => ?_) s
  · exact Prod.mk.inj h
  · split
    · obtain ⟨h1, h2⟩ := leaveLive_link (s := u) (List.mem_range.1 hi) hk laneIdle
      rw [h1, h2]
    · rfl

theorem armLatchCheck_link {i : Nat} (hk : k < 64) :
    (armLatchCheck i s).flag (Reg.GL_STATUS k) F.GL_STATUS_LINK_OK = s.flag (Reg.GL_STATUS k) F.GL_STATUS_LINK_OK ∧
      (armLatchCheck i s).reg Reg.LANE_FAULT = s.reg Reg.LANE_FAULT := by
  have hcmd {u : State} {j : Nat} (h1 : j ≠ Reg.MODE_CMD) (h2 : j ≠ Reg.CMD_REFUSAL) : (cmdRefused 5 u).reg j = u.reg j :=
    (reg_setReg_other _ _ h2).trans (reg_setReg_other _ _ h1)
  unfold armLatchCheck armRefused
  split
  · split
    · obtain ⟨h1, h2⟩ := lanesIdle_link (s := { s with arming := none }) hk
      have hcmdKey : Reg.GL_STATUS k ≠ Reg.MODE_CMD := key_ne_of_index (by decide) (by omega) (by decide)
      have hrefKey : Reg.GL_STATUS k ≠ Reg.CMD_REFUSAL := key_ne_of_index (by decide) (by omega) (by decide)
      exact ⟨(flag_of_reg _ (hcmd hcmdKey hrefKey)).trans h1, (hcmd (by decide) (by decide)).trans h2⟩
    · exact ⟨rfl, rfl⟩
  · exact ⟨rfl, rfl⟩

/-! ## The port words of an uplink (Table 5-11) -/

variable (s)

theorem word_setWord_self (p v : Nat) : (s.setWord p v).word p = v := tabGet_set_self _ _ _ _

theorem word_setWord_other {p i : Nat} (v : Nat) (h : i ≠ p) : (s.setWord p v).word i = s.word i := by
  unfold State.word State.setWord State.portWritten tabSet
  dsimp only
  split
  · exact tabGet_erase_other _ _ h
  · rw [tabGet_insert_other _ _ _ h, tabGet_erase_other _ _ h]

theorem word_of_words {s u : State} (h : u.words = s.words) (p : Nat) : u.word p = s.word p := by unfold State.word; rw [h]

/-- An octet of a frame is below 256. -/
theorem listGet_bytes_lt (bytes : List (BitVec 8)) (i : Nat) : listGet 0 (bytes.map (·.toNat)) i < 256 := by
  unfold listGet
  rw [List.getElem?_map]
  cases bytes[i]? with
  | none => decide
  | some b => exact b.isLt

theorem b2n_le_one (b : Bool) : b2n b ≤ 1 := by cases b <;> decide

/-- Bits 31 and 26 of a word put together from fields that do not reach them. -/
theorem bits_of_uplinkWord (a b c d ok : Bool) {q tag x y : Nat} (hq : q < 4) (ht : tag < 256) (hx : x < 256) (hy : y < 256) :
    let w := 2 ^ 31 + b2n a * 2 ^ 30 + b2n b * 2 ^ 29 + b2n c * 2 ^ 28 + b2n d * 2 ^ 27 + b2n ok * 2 ^ 26 + q * 2 ^ 24 + tag * 2 ^ 16 + x * 256 + y
    bit w 31 = true ∧ bit w 26 = ok := by
  intro w
  have ha := b2n_le_one a
  have hb := b2n_le_one b
  have hc := b2n_le_one c
  have hd := b2n_le_one d
  have hok := b2n_le_one ok
  have h31 : w / 2 ^ 31 % 2 = 1 := by omega
  have h26 : w / 2 ^ 26 % 2 = b2n ok := by omega
  exact ⟨by rw [bit, h31]; rfl, by rw [bit, h26, b2n_beq_one]⟩

theorem uplinkWords_spec (k : Nat) (bytes : List (BitVec 8)) (ok : Bool) :
    let b := bytes.map (·.toNat)
    let w := (uplinkWords k b ok s).word (0x180 + 2 * k)
    bit w 31 = true ∧ bit w 26 = ok ∧ (uplinkWords k b ok s).word (0x181 + 2 * k) = ofBE (slice b 12 2) * 65536 + ofBE (slice b 8 2) := by
  intro b w
  have hw : w = _ := (word_setWord_other _ _ (by omega : 0x180 + 2 * k ≠ 0x181 + 2 * k)).trans (word_setWord_self ..)
  obtain ⟨h31, h26⟩ := bits_of_uplinkWord (bit (listGet 0 b 6) 6) (listGet 0 b 7 / 16 != 0) (listGet 0 b 7 % 16 != 0) (bit (listGet 0 b 6) 5) ok
    (Nat.mod_lt (listGet 0 b 14 / 64) (by decide : 0 < 4)) (Nat.mod_lt (s.word (0x180 + 2 * k) / 2 ^ 16 + 1) (by decide : 0 < 256))
    (listGet_bytes_lt bytes 10) (listGet_bytes_lt bytes 11)
  rw [hw]
  exact ⟨h31, h26, word_setWord_self ..⟩

/-! ## The edge trainer (R213) -/

/-- Where the trainer would move a code: down on overshoot or a steep edge, up on a shallow one. -/
def State.trainAim (s : State) (k p : Nat) (on : Bool) (tr : Trainer) : Int :=
  let pr := s.laneProfile k
  let mean2 := tr.sum * 25 * 1000 * 100
  let tgt := (if on then s.reg (Reg.DVDT_ON_TGT pr) else s.reg (Reg.DVDT_OFF_TGT pr)) * 10 * s.reg (Reg.TGT_SCALE k) * tr.n
  let band := s.reg (Reg.TP_BAND pr)
  if tr.ovs * 5 > s.reg (Reg.OVS_LIM pr) then (s.code k p on : Int) - 1
  else if mean2 > tgt * (100 + band) then (s.code k p on : Int) - 1
  else if mean2 < tgt * (100 - band) then (s.code k p on : Int) + 1
  else s.code k p on

theorem trainAim_near (k p : Nat) (on : Bool) (tr : Trainer) :
    (s.code k p on : Int) - 1 ≤ s.trainAim k p on tr ∧ s.trainAim k p on tr ≤ s.code k p on + 1 := by
  unfold State.trainAim
  dsimp only
  split_ifs <;> omega

/-- The code that the trainer sets. -/
def State.trainedCode (s : State) (k p : Nat) (on : Bool) (tr : Trainer) : Nat :=
  (clampI (s.reg (Reg.CODE_MIN (s.laneProfile k))) (s.reg (Reg.CODE_MAX (s.laneProfile k))) (s.trainAim k p on tr)).toNat

theorem trainedCode_near {k p : Nat} {on : Bool} (tr : Trainer) (hlo : s.reg (Reg.CODE_MIN (s.laneProfile k)) ≤ s.code k p on)
    (hhi : s.code k p on ≤ s.reg (Reg.CODE_MAX (s.laneProfile k))) :
    s.reg (Reg.CODE_MIN (s.laneProfile k)) ≤ s.trainedCode k p on tr ∧ s.trainedCode k p on tr ≤ s.reg (Reg.CODE_MAX (s.laneProfile k)) ∧
      s.trainedCode k p on tr ≤ s.code k p on + 1 ∧ s.code k p on ≤ s.trainedCode k p on tr + 1 := by
  obtain ⟨h1, h2⟩ := trainAim_near s k p on tr
  unfold State.trainedCode clampI
  omega

/-- The sums of a position of a lane after one more qualifying edge. -/
def State.trainCount (s : State) (k i dvdt ovs : Nat) : Trainer :=
  let tr := tabGet {} (s.lane k).train i
  { n := tr.n + 1, sum := tr.sum + dvdt, ovs := max tr.ovs ovs }

/-- A lane with the sums of a position set. -/
def State.withTrain (s : State) (k i : Nat) (tr : Trainer) : Lane := { s.lane k with train := tabSet {} (s.lane k).train i tr }

/-- The trainer of a lane runs again. -/
def unfrozen (k : Nat) (s : State) : State := s.setFlag (Reg.GL_STATUS k) F.GL_STATUS_TRAIN_FROZEN false

theorem unfrozen_reg {k j : Nat} (h : j ≠ Reg.GL_STATUS k) : (unfrozen k s).reg j = s.reg j := reg_setFlag_other s _ _ h

theorem trainStep_eq (k p : Nat) (on : Bool) (dvdt ovs : Nat) : trainStep k p on dvdt ovs s =
    let i := 2 * p + b2n on
    let tr := s.trainCount k i dvdt ovs
    let x := unfrozen k s
    if tr.n < x.reg (Reg.TRAIN_N (x.laneProfile k)) then x.setLane k (s.withTrain k i tr)
    else if x.trainedCode k p on tr = x.code k p on then x.setLane k (s.withTrain k i {})
    else (setCode k p on (x.trainedCode k p on tr) (x.setLane k (s.withTrain k i {}))).bump (Reg.TRAIN_STEPS k) := rfl

/-- A training step leaves the code of its position or sets the trained one. -/
theorem trainStep_code {k : Nat} (hk : k < 64) (p : Nat) (on : Bool) (dvdt ovs : Nat) :
    (trainStep k p on dvdt ovs s).code k p on = s.code k p on ∨ ∃ tr, (trainStep k p on dvdt ovs s).code k p on =
      (unfrozen k s).trainedCode k p on tr % 16 := by
  have hst : Reg.CODES k ≠ Reg.GL_STATUS k := key_ne_of_index (by decide) (by omega) (by omega)
  have hsteps : Reg.CODES k ≠ Reg.TRAIN_STEPS k := key_ne_of_index (by decide) (by omega) (by omega)
  have hcode : (unfrozen k s).code k p on = s.code k p on :=
    congrArg (fget _) (unfrozen_reg s hst)
  have hlane (l : Lane) : ((unfrozen k s).setLane k l).code k p on = s.code k p on :=
    (congrArg (fget _) (reg_of_regs (setLane_regs ..) _)).trans hcode
  rw [trainStep_eq]
  dsimp only
  split
  · exact .inl (hlane _)
  · split
    · exact .inl (hlane _)
    · exact .inr ⟨_, (congrArg (fget _) (reg_bump_other _ hsteps)).trans (fld_setFld_self ..)⟩

theorem trainStep_bounds {k : Nat} (hk : k < 64) (p : Nat) (on : Bool) (dvdt ovs : Nat) (hmax : s.reg (Reg.CODE_MAX (s.laneProfile k)) < 16)
    (hlo : s.reg (Reg.CODE_MIN (s.laneProfile k)) ≤ s.code k p on) (hhi : s.code k p on ≤ s.reg (Reg.CODE_MAX (s.laneProfile k))) :
    let c := (trainStep k p on dvdt ovs s).code k p on
    s.reg (Reg.CODE_MIN (s.laneProfile k)) ≤ c ∧ c ≤ s.reg (Reg.CODE_MAX (s.laneProfile k)) ∧ c ≤ s.code k p on + 1 ∧
      s.code k p on ≤ c + 1 := by
  intro c
  obtain h | ⟨tr, h⟩ := trainStep_code s hk p on dvdt ovs
  · change c = _ at h
    omega
  · have hreg {i a : Nat} (hi : i ≠ 0x2A02) (ha : a < 256) :
        (unfrozen k s).reg (Reg.key i a) = s.reg (Reg.key i a) :=
      reg_setFlag_other s _ _ (key_ne_of_index hi ha (by omega))
    have hprofile : (unfrozen k s).laneProfile k = s.laneProfile k :=
      congrArg (fget _) (hreg (by decide) (by omega))
    have hmin (n : Nat) : (unfrozen k s).reg (Reg.CODE_MIN n) = s.reg (Reg.CODE_MIN n) :=
      hreg (by omega) (by decide)
    have hmax' (n : Nat) : (unfrozen k s).reg (Reg.CODE_MAX n) = s.reg (Reg.CODE_MAX n) :=
      hreg (by omega) (by decide)
    have hcode : (unfrozen k s).code k p on = s.code k p on :=
      congrArg (fget _) (hreg (by decide) (by omega))
    have hnear := trainedCode_near (unfrozen k s) (k := k) (p := p) (on := on) tr
    rw [hprofile, hmin, hmax', hcode] at hnear
    obtain ⟨h1, h2, h3, h4⟩ := hnear hlo hhi
    have hc : c = _ := h.trans (Nat.mod_eq_of_lt (Nat.lt_of_le_of_lt h2 hmax))
    rw [hc]
    exact ⟨h1, h2, h3, h4⟩

end Sys2Proof.Machine
end

section
/-!
The gate links' frames: edge events, the downlink, the uplink and its timeout (O39).
-/

namespace Sys2Proof

open Machine

variable (s : State) (k : Fin 64) (t : Instant)

/-! ## Edge events (R189, R190) -/

theorem edgeEventEnqueue_idle (h : s.pwm.edges = []) : Completes .edgeEventEnqueue s (· = s) := by
  refine Completes.of (u := s) ?_ rfl
  change execEdgeEventEnqueue s = _
  unfold execEdgeEventEnqueue
  rw [h]

theorem edgeEventEnqueue_edge (e : EdgeEv) (rest : List EdgeEv) (h : s.pwm.edges = e :: rest) : Completes .edgeEventEnqueue s
    (· = enqueueEdge e (feedDrivers e { s with pwm := { s.pwm with
      edges := rest, sent := (s.pwm.sent.filter fun x => decide ((s.now : Int) < x.tag + s.edgeOfs)) ++ [e] } })) := by
  refine Completes.of ?_ rfl
  change execEdgeEventEnqueue s = _
  unfold execEdgeEventEnqueue
  rw [h]

theorem enqueueEdge_queued (e : EdgeEv) (hh : s.holds = true) (hl : s.laneState (e.ch / 4) = laneLive) (hq : (s.lane (e.ch / 4)).queue.length < 8)
    (hd : s.driftEdge (e.ch / 4) (e.ch % 4) e.on = false) :
    ((enqueueEdge e s).lane (e.ch / 4)).queue =
        insertEdge ⟨e.ch % 4, e.on, e.tag, s.code (e.ch / 4) (e.ch % 4) true, s.code (e.ch / 4) (e.ch % 4) false⟩ (s.lane (e.ch / 4)).queue ∧
      PartsKept [.lanes] s (enqueueEdge e s) := by
  rw [enqueueEdge_of_room hh hl hq hd, lane_setLane_self]
  exact ⟨rfl, (State.setLane_keeps ..).partsKept_of⟩

/-! ## The downlink (R185, R188, R189) -/

theorem downlinkFrame_idle (h : s.laneState k ≠ laneLive ∨ s.ptpAt t % ns 200 ≠ 0) : Completes (.downlinkFrame k t) s (· = s) :=
  Completes.of (if_pos h) rfl

theorem exec_downlinkFrame (hl : s.laneState k = laneLive) (ht : s.ptpAt t % ns 200 = 0) : exec (.downlinkFrame k t) s =
    if (s.lane k).offUntil.any fun u => decide (u ≤ t) then .next (leaveLive k laneIdle (s.advance (t - ns 8)))
    else .next (sendFrame k t (s.advance (t - ns 8))) :=
  if_neg (by simp [hl, ht])

theorem downlinkFrame_sent (hl : s.laneState k = laneLive) (ht : s.ptpAt t % ns 200 = 0) (ho : ∀ x, (s.lane k).offUntil = some x → t < x) :
    Completes (.downlinkFrame k t) s fun u => PartsKept [.now, .free, .regs, .lanes, .outs] s u ∧
      (∃ f, u.outs = .downlink k t f :: s.outs ∧ f.length = 25 ∧ f.head? = some 0xBC) ∧ (u.lane k).seq = ((s.lane k).seq + 1) % 256 ∧
      (s.arming = none → s.holds = true → (u.lane k).queue = (s.lane k).queue.drop 1 ∧ (u.lane k).slot = (s.lane k).queue.head?) ∧
      (s.arming ≠ none ∨ s.holds = false → (u.lane k).queue = (s.lane k).queue ∧ (u.lane k).slot = none) := by
  have hoff : ¬((s.lane k).offUntil.any fun u => decide (u ≤ t)) = true := by
    cases h : (s.lane k).offUntil with
    | none => simp
    | some x => simpa using ho x h
  refine Completes.ofKeeps (execDownlinkFrame_keeps k t s) ((exec_downlinkFrame s k t hl ht).trans (if_neg hoff)) fun hk =>
    ⟨hk.partsKept_of, sendFrame_outs (s.advance (t - ns 8)) k t, ?_⟩
  obtain ⟨hseq, hqueue, hslot⟩ := sendFrame_lane (s.advance (t - ns 8)) k t
  rw [lane_of_lanes (advance_lanes ..)] at hseq hqueue hslot
  change _ = if s.muted then _ else _ at hqueue hslot
  rw [hqueue, hslot]
  refine ⟨hseq, fun ha hh => ?_, fun h => ?_⟩
  · have hm : ¬s.muted = true := by rw [muted_iff]; simp [ha, hh]
    rw [if_neg hm, if_neg hm]
    exact ⟨rfl, rfl⟩
  · have hm : s.muted = true := (muted_iff s).2 h
    rw [if_pos hm, if_pos hm]
    exact ⟨rfl, rfl⟩

theorem downlinkFrame_off (x : Instant) (hl : s.laneState k = laneLive) (ht : s.ptpAt t % ns 200 = 0) (ho : (s.lane k).offUntil = some x)
    (hx : x ≤ t) : Completes (.downlinkFrame k t) s fun u =>
      u.laneState k = laneIdle ∧ (u.lane k).queue = [] ∧ u.outs = s.outs ∧ PartsKept [.now, .free, .regs, .lanes, .outs] s u := by
  have hoff : ((s.lane k).offUntil.any fun u => decide (u ≤ t)) = true := by rw [ho]; simpa using hx
  obtain ⟨hidle, hqueue⟩ := leaveLive_spec k (s.advance (t - ns 8)) k.isLt (by decide : laneIdle < 8)
  exact Completes.ofKeeps (execDownlinkFrame_keeps k t s) ((exec_downlinkFrame s k t hl ht).trans (if_pos hoff)) fun hk =>
    ⟨hidle, hqueue, (leaveLive_keeps k laneIdle (s.advance (t - ns 8))).parts .outs (by decide), hk.partsKept_of⟩

/-! ## The uplink (R196) -/

theorem uplinkFrame_unused (bytes : List (BitVec 8)) (hi : s.laneState k ≠ laneIdle) (hl : s.laneState k ≠ laneLive) :
    Completes (.uplinkFrame k bytes t) s (· = s) :=
  Completes.of (if_pos ⟨hi, hl⟩) rfl

theorem exec_uplinkFrame (bytes : List (BitVec 8)) (h : s.laneState k = laneIdle ∨ s.laneState k = laneLive) : exec (.uplinkFrame k bytes t) s =
    .next (if uplinkOk (bytes.map (·.toNat)) then acceptUplink k (bytes.map (·.toNat)) t (s.advance t) else refuseUplink k (s.advance t)) :=
  if_neg (by tauto)

theorem uplinkFrame_accepted (bytes : List (BitVec 8)) (h : s.laneState k = laneIdle ∨ s.laneState k = laneLive)
    (hok : uplinkOk (bytes.map (·.toNat)) = true) :
    Completes (.uplinkFrame k bytes t) s (· = acceptUplink k (bytes.map (·.toNat)) t (s.advance t)) :=
  Completes.of ((exec_uplinkFrame s k t bytes h).trans (by rw [if_pos hok])) rfl

theorem uplinkFrame_refused (bytes : List (BitVec 8)) (h : s.laneState k = laneIdle ∨ s.laneState k = laneLive)
    (hok : uplinkOk (bytes.map (·.toNat)) = false) : Completes (.uplinkFrame k bytes t) s (· = refuseUplink k (s.advance t)) :=
  Completes.of ((exec_uplinkFrame s k t bytes h).trans (by rw [if_neg (by simp [hok])])) rfl

theorem refuseUplink_unchecked {u : State} {i : Nat} (h : (u.lane i).checkLeft = 0) :
    refuseUplink i u = (u.bump (Reg.CRC_UP i)).setFlag (Reg.GL_STATUS i) F.GL_STATUS_CRC_ERR true := by
  have hl : ((u.bump (Reg.CRC_UP i)).setFlag (Reg.GL_STATUS i) F.GL_STATUS_CRC_ERR true).lane i = u.lane i :=
    lane_of_lanes ((setReg_lanes ..).trans ((State.bump_keeps u _).parts .lanes (by decide))) i
  exact if_neg (by rw [hl, h]; decide)

theorem uplinkFrame_crc (bytes : List (BitVec 8)) (h : s.laneState k = laneIdle ∨ s.laneState k = laneLive)
    (hok : uplinkOk (bytes.map (·.toNat)) = false) (hc : (s.lane k).checkLeft = 0) : Completes (.uplinkFrame k bytes t) s fun u =>
      u.flag (Reg.GL_STATUS k) F.GL_STATUS_CRC_ERR = true ∧ RegsKept [Reg.CRC_UP k, Reg.GL_STATUS k] s u ∧
        PartsKept [.now, .free, .regs] s u := by
  obtain ⟨u, e, hu⟩ := uplinkFrame_refused s k t bytes h hok
  rw [hu, refuseUplink_unchecked (u := s.advance t) hc] at e
  have hkeeps : Keeps 13 s (((s.advance t).bump (Reg.CRC_UP k)).setFlag (Reg.GL_STATUS k) F.GL_STATUS_CRC_ERR true) :=
    ((State.advance_keeps s t).mono rfl).trans (((State.bump_keeps ..).mono rfl).trans ((State.setFlag_keeps ..).mono rfl))
  have hbump : RegsKept [Reg.CRC_UP k, Reg.GL_STATUS k] s ((s.advance t).bump (Reg.CRC_UP k)) :=
    (bump_regsKept (s.advance t) (Reg.CRC_UP k)).mono (by simp)
  exact Completes.of e ⟨flag_setFlag_self _ _ _ _ (by decide), regsKept_setFlag hbump _ _ (by simp), hkeeps.partsKept_of⟩

/-! ## The uplink's timeout (R196, R208) -/

theorem uplinkTimeout_early (h : t < (s.lane k).upAt + ns (s.reg Reg.UPLINK_TO)) : Completes (.uplinkTimeout k t) s (· = s) :=
  Completes.of (if_pos (by simpa using h)) rfl

/-- A lane without its uplink: LINK_OK and the valid bit of its port word are clear. -/
def unlinked : State :=
  let x := (s.advance t).setFlag (Reg.GL_STATUS k) F.GL_STATUS_LINK_OK false
  let p := 0x180 + 2 * k.val
  if bit (x.word p) 31 then x.setWord p (setBit (x.word p) 31 false) else x

theorem unlinked_regs : (unlinked s k t).regs = ((s.advance t).setFlag (Reg.GL_STATUS k) F.GL_STATUS_LINK_OK false).regs := by
  unfold unlinked
  dsimp only
  split
  · exact (State.setWord_keeps ..).parts .regs (by decide)
  · rfl

theorem unlinked_word : bit ((unlinked s k t).word (0x180 + 2 * k.val)) 31 = false := by
  unfold unlinked
  dsimp only
  split
  · rw [word_setWord_self, bit_setBit, if_pos rfl]
  · next h => simpa using h

theorem unlinked_linkOk : (unlinked s k t).flag (Reg.GL_STATUS k) F.GL_STATUS_LINK_OK = false :=
  (flag_of_reg _ (reg_of_regs (unlinked_regs s k t) _)).trans (flag_setFlag_self _ _ _ _ (by decide))

theorem unlinked_regsKept : RegsKept [Reg.GL_STATUS k] s (unlinked s k t) := fun j hj =>
  (reg_of_regs (unlinked_regs s k t) j).trans (reg_setFlag_other _ _ _ (by simpa using hj))

theorem unlinked_laneState : (unlinked s k t).laneState k = s.laneState k :=
  (laneState_of_reg (reg_of_regs (unlinked_regs s k t) _)).trans (fld_setFld_disjoint (s.advance t) _ _ (by decide))

theorem exec_uplinkTimeout (h : (s.lane k).upAt + ns (s.reg Reg.UPLINK_TO) ≤ t) : exec (.uplinkTimeout k t) s =
    .next (if s.laneState k == laneLive && decide (max (s.lane k).liveAt (s.lane k).upAt + ns (s.reg Reg.UPLINK_TO) ≤ t) then
      armLatchCheck k (laneFault k cUPLINK (unlinked s k t)) else unlinked s k t) :=
  if_neg (by simpa using h)

/-- A lane is lost where the uplink's timeout has passed since its LIVE entry too. -/
theorem lost_iff {x y a b n t : Nat} (h : b + n ≤ t) : (x == y && decide (max a b + n ≤ t)) = true ↔ x = y ∧ a + n ≤ t := by
  rw [Bool.and_eq_true, beq_iff_eq, decide_eq_true_eq]
  omega

theorem uplinkTimeout_late (h : (s.lane k).upAt + ns (s.reg Reg.UPLINK_TO) ≤ t) : Completes (.uplinkTimeout k t) s fun u =>
    u.flag (Reg.GL_STATUS k) F.GL_STATUS_LINK_OK = false ∧ bit (u.word (0x180 + 2 * k.val)) 31 = false ∧
      (s.laneState k = laneLive → (s.lane k).liveAt + ns (s.reg Reg.UPLINK_TO) ≤ t → u.regBit Reg.LANE_FAULT k = true) ∧
      (s.laneState k ≠ laneLive ∨ t < (s.lane k).liveAt + ns (s.reg Reg.UPLINK_TO) → RegsKept [Reg.GL_STATUS k] s u) := by
  by_cases hlost : s.laneState k = laneLive ∧ (s.lane k).liveAt + ns (s.reg Reg.UPLINK_TO) ≤ t
  · have ⟨hl, ht⟩ := hlost
    obtain ⟨hlink, hfault⟩ := armLatchCheck_link (s := laneFault k cUPLINK (unlinked s k t)) (i := k) k.isLt
    have hwords : (armLatchCheck k (laneFault k cUPLINK (unlinked s k t))).words = (unlinked s k t).words :=
      Eq.trans ((armLatchCheck_keeps ..).parts .words (by decide)) ((laneFault_keeps ..).parts .words (by decide))
    refine Completes.of ((exec_uplinkTimeout s k t h).trans (by rw [if_pos ((lost_iff h).2 hlost)])) ⟨?_, ?_, fun _ _ => ?_, fun hn => ?_⟩
    · rw [hlink, laneFault_linkOk k.isLt, unlinked_linkOk]
    · rw [word_of_words hwords, unlinked_word]
    · rw [regBit_of_reg _ hfault]
      exact laneFault_shown k.isLt (by decide) ((unlinked_laneState s k t).trans hl)
    · exact hn.elim (fun hi => absurd hl hi) fun hi => absurd ht (Nat.not_le.2 hi)
  · exact Completes.of ((exec_uplinkTimeout s k t h).trans (by rw [if_neg ((lost_iff h).not.2 hlost)]))
      ⟨unlinked_linkOk s k t, unlinked_word s k t, fun hl ht => absurd ⟨hl, ht⟩ hlost, fun _ => unlinked_regsKept s k t⟩

/-- Settles O39, clause by clause from the lemma of each command. -/
theorem gateFrames : Obligations.GateFrames := by
  unfold Obligations.GateFrames
  intro s k bytes t m b silent
  exact ⟨edgeEventEnqueue_idle s, edgeEventEnqueue_edge s, fun e => enqueueEdge_of_closed, enqueueEdge_queued s,
    fun c hc hl hf => laneFault_new k.isLt hc hl hf, downlinkFrame_idle s k t, downlinkFrame_sent s k t,
    downlinkFrame_off s k t, uplinkFrame_unused s k t bytes, uplinkFrame_crc s k t bytes,
    uplinkFrame_refused s k t bytes, uplinkFrame_accepted s k t bytes, uplinkWords_spec s k bytes, uplinkTimeout_early s k t,
    uplinkTimeout_late s k t, fun p on dvdt ovs _ => trainStep_bounds s k.isLt p on dvdt ovs⟩

end Sys2Proof
end

section
/-!
The three statements on the acquisition (08_analogue_acquisition.md) fail in states that lack an invariant they do not state: that waiting hand-overs
of service name slices that exist, and that a clock pin that counts as having met the resume condition is enabled and not stale.
-/

/- Each proof is checked in order, not in a thread of its own that waits for those before it. -/
set_option Elab.async false

/-! ## Triggers (R227, R233, R244) -/

namespace Sys2Proof.Machine

/-- ADC_TRG0 has triggered the regular sequence of group 0 and the injected one of group 1, one entry each. The input of the former is in an
open-wire test that converts on logical slice 0, and the service of that slice waits to go over to a slice 4096. -/
def strayHandOver : State :=
  { (({} : State).setFlag Reg.ADC_STATUS F.ADC_STATUS_READY true
      |>.setFlag (Reg.SQ_CFG 0) F.SQ_CFG_EN true |>.setFld (Reg.SQ_CFG 0) F.SQ_CFG_REG_LEN 1 |>.setReg (Reg.REG_TRIG 0) 1
      |>.setFlag (Reg.SQ_CFG 1) F.SQ_CFG_EN true |>.setFld (Reg.SQ_CFG 1) F.SQ_CFG_INJ_LEN 1 |>.setReg (Reg.INJ_TRIG 1) 1) with
    adc := { trigs := [(1, 0)], ow := [(0, some { at_ := 0, conv := some (0, 0) })], owConvs := [(0, 0)], handOver := [(0, 4096)] } }

/-- The injected sequence of group 1 names ADC_TRG0, is enabled and not empty, the block is ready, and no round of the sequence runs. -/
theorem strayHandOver_ready : strayHandOver.seqTrig 3 = 1 ∧
    (strayHandOver.flag (Reg.SQ_CFG 1) F.SQ_CFG_EN = true ∧ strayHandOver.seqLen 3 ≠ 0 ∧
      strayHandOver.flag Reg.ADC_STATUS F.ADC_STATUS_READY = true ∧ strayHandOver.adc.stopping = false) ∧ strayHandOver.round 3 = none := by
  decide

/-- The state in which the trigger acts on the sequences. -/
def strayTaken : State := (strayHandOver.setAdc { strayHandOver.adc with trigs := [] }).advance 0

/-- The trigger of group 0 abandons the test. The hand-over that follows writes the status of slice 4096, which is SQ_CFG of group 1: the injected
sequence there loses its entry, and its trigger is ignored. -/
theorem strayTaken_ignores : (trigSource 1 0 strayTaken).round 3 = none := by decide +kernel

end Sys2Proof.Machine

namespace Sys2Proof

open Machine

/-- Refutes O31: a trigger is to start a round of every ready sequence that names its source, but the sequences take it one after the other, and
in `strayHandOver` what the first one does leaves a later one without entries. A hand-over to slice 4096 waits there, which no command of the
model gives: the clause lacks the hypothesis that waiting hand-overs name slices up to 16. -/
theorem not_acquisitionRounds : ¬ Obligations.AcquisitionRounds := by
  unfold Obligations.AcquisitionRounds
  intro h
  obtain ⟨hsource, hready, hidle⟩ := strayHandOver_ready
  obtain ⟨-, -, -, -, -, -, htrigger, -⟩ := h strayHandOver 0 0 0 0 0 false 0 0
  obtain ⟨u, hexec, -, -, hstarts⟩ := htrigger 1 0 [] rfl
  have hu : u = trigSource 1 0 strayTaken := (Host.Outcome.next.inj hexec).symm
  have hround := hstarts 3 (by decide) hsource (by decide) hready hidle
  rw [hu, strayTaken_ignores] at hround
  exact nomatch hround

end Sys2Proof

/-! ## Calibration turns (R227, R246, R247) -/

namespace Sys2Proof.Machine

/-- Slice 0 is in a forced calibration. Two hand-overs of logical slice 5 wait, to a slice 256 and to S16. -/
def strayCalibration : State :=
  { setSlice 0 sliceCal 0x1F {} with adc := { cal := some (0, 0, true), handOver := [(5, 256), (5, 16)] } }

theorem strayCalibration_due : strayCalibration.sliceState 0 = sliceCal ∧ 0 + ms (strayCalibration.reg Reg.CAL_TIME) ≤ ms 20 := by decide

/-- A home slice that has passed its calibration takes its coefficients and its logical slice back. -/
def calReturned (k : Nat) (off : BitVec 16) (gain : BitVec 32) (t : Instant) (s : State) : State :=
  changeServer k k (calCoefs k off gain (calForceClear k ((s.advance t).setAdc { s.adc with cal := none })))

/-- A forced calibration of a home slice that passes ends with the slice's return and the next turn. -/
theorem exec_calTurnEnd_forced {s : State} {k : Nat} {t0 t : Instant} {off : BitVec 16} {gain ppm : BitVec 32}
    (hc : s.adc.cal = some (k, t0, true)) (hk : k ≠ 16) (hs : s.sliceState k = sliceCal) (ht : t0 + ms (s.reg Reg.CAL_TIME) ≤ t)
    (hok : calOk off gain = true) : exec (.calTurnEnd off gain ppm t) s =
      .next (calNext (calReturned k off gain t s).now (calReturned k off gain t s)) := by
  show execCalTurnEnd off gain ppm t s = _
  unfold execCalTurnEnd calReturned
  rw [hc]
  simp [hs, Nat.not_lt.2 ht, hok, hk]

/-- After the return the hand-over of logical slice 5 takes effect: it writes the status of slice 256, which is SLICE_OFFSET of slice 0. -/
theorem strayCalibration_offset : (calNext (calReturned 0 0 0 (ms 20) strayCalibration).now (calReturned 0 0 0 (ms 20) strayCalibration)).reg
    (Reg.SLICE_OFFSET 0) ≠ 0 := by
  decide +kernel

end Sys2Proof.Machine

namespace Sys2Proof

open Machine

/-- Refutes O32: a slice that passes its calibration is to show the offset found, but in `strayCalibration` a hand-over that follows its return
overwrites it. That hand-over names slice 256, which no command of the model gives: the clause lacks the hypothesis that waiting hand-overs name
slices up to 16. -/
theorem not_openWireAndCalibration : ¬ Obligations.OpenWireAndCalibration := by
  unfold Obligations.OpenWireAndCalibration
  intro h
  obtain ⟨hstate, hdue⟩ := strayCalibration_due
  obtain ⟨-, -, -, -, -, -, hturn, -⟩ := h strayCalibration 0 0 [] [] 0 0 0 0 (ms 20)
  obtain ⟨u, hexec, -, -, hpassed, -⟩ := hturn 0 0 true rfl hstate hdue (by decide)
  cases (exec_calTurnEnd_forced rfl (by decide) hstate hdue (by decide)).symm.trans hexec
  exact strayCalibration_offset (hpassed (by decide)).1

end Sys2Proof

/-! ## Stuck inputs (R252, R253) -/

namespace Sys2Proof.Machine

/-- SDI0 is enabled and stuck, and a lane runs on it. Its pin SDC0 counts as one that has met the resume condition although it is disabled. -/
def disabledClock : State :=
  { (({} : State).setFlag (Reg.SDI_CFG 0) F.SDI_CFG_EN true |>.setFlag (Reg.SDI_STATUS 0) F.SDI_STATUS_STUCK true
      |>.setFld (Reg.LANE_STATUS 0) F.LANE_STATUS_STATE 1) with adc := { sdcGood := 1 } }

theorem disabledClock_stuck : disabledClock.flag (Reg.SDI_STATUS 0) F.SDI_STATUS_STUCK = true ∧
    bit disabledClock.adc.sdcGood (disabledClock.sdiPin 0) = true := by
  decide

/-- Lane 0 runs on SDI0 and is not throttled. -/
theorem disabledClock_lane : (disabledClock.laneIsAin 0 = false ∧ disabledClock.laneSrc 0 = 0 ∧ disabledClock.laneRuns 0 = true) ∧
    disabledClock.laneThrottled 0 = false := by
  decide

/-- The state in which a stuck SDI has changed its data again. -/
def sdiChanged (i : Nat) (t : Instant) (s : State) : State := (s.advance t).setFlag (Reg.SDI_STATUS i) F.SDI_STATUS_STUCK false

theorem exec_sdiUnstuck {s : State} {i : Fin 24} (t : Instant) (hs : s.flag (Reg.SDI_STATUS i) F.SDI_STATUS_STUCK = true)
    (hp : bit s.adc.sdcGood (s.sdiPin i) = true) : exec (.sdiUnstuck i t) s = .next (sdiResume i (sdiChanged i t s)) := by
  show execSdiUnstuck i t s = _
  exact if_pos (by rw [hs, hp]; rfl)

/-- The lane restarts and is stale again at once, as its input's pin is disabled. -/
theorem disabledClock_stale : ((sdiResume 0 (sdiChanged 0 0 disabledClock)).fl 0).stale = true := by decide +kernel

end Sys2Proof.Machine

namespace Sys2Proof

open Machine

/-- Refutes O33: the lanes on a stuck input whose data changes again are to restart where the pin has met the resume condition, but those on a
disabled pin are stale again at once (R252). In `disabledClock` the pin is both, although a write of SDC_CFG that disables it takes the mark away:
the clause lacks the hypothesis that the pin is enabled and CLK_STALE clear. -/
theorem not_sigmaDeltaInputs : ¬ Obligations.SigmaDeltaInputs := by
  unfold Obligations.SigmaDeltaInputs
  intro h
  obtain ⟨hstuck, hpin⟩ := disabledClock_stuck
  obtain ⟨⟨hsdi, hsrc, hruns⟩, hthrottled⟩ := disabledClock_lane
  obtain ⟨-, -, -, -, -, -, hresumes⟩ := h disabledClock 0 0 0 0 0
  obtain ⟨u, hexec, hlanes⟩ := hresumes hstuck hpin
  have hu : u = sdiResume 0 (sdiChanged 0 0 disabledClock) :=
    (Host.Outcome.next.inj ((exec_sdiUnstuck (i := 0) 0 hstuck hpin).symm.trans hexec)).symm
  obtain ⟨hfresh, -⟩ := hlanes 0 ⟨by decide, hsdi, hsrc, hruns⟩ hthrottled
  rw [hu, disabledClock_stale] at hfresh
  exact Bool.false_ne_true hfresh.symm

end Sys2Proof

end

section
/-!
SUPPORT. The filter lanes (09_filter_chain.md): what each of their operations leaves of the lane's own state and of the registers, and what a
lane output shows.
-/

/- Each proof is checked in order, not in a thread of its own that waits for those before it. -/
set_option Elab.async false

namespace Sys2Proof.Machine

variable (s : State) (k : Nat)

/-! ## The state of a lane -/

@[simp] theorem fl_setFl_self (x : Flane) : (s.setFl k x).fl k = x := tabGet_set_self _ _ _ _

theorem fl_of_filt {s u : State} (h : u.filt = s.filt) (k : Nat) : u.fl k = s.fl k := by unfold State.fl; rw [h]

/-- An operation that leaves the filter chain alone leaves each lane as it was. -/
theorem fl_of_keeps {f : Nat} {s u : State} (h : Keeps f s u) (hf : f.testBit 20 = false) (i : Nat) : u.fl i = s.fl i :=
  fl_of_filt (h.parts .filt hf) i

@[simp] theorem setReg_fl (r v i : Nat) : (s.setReg r v).fl i = s.fl i := fl_of_keeps (State.setReg_keeps s r v) (by decide) i
@[simp] theorem setFld_fl (r : Nat) (f : Fld) (v i : Nat) : (s.setFld r f v).fl i = s.fl i := setReg_fl ..
@[simp] theorem setFlag_fl (r : Nat) (f : Fld) (b : Bool) (i : Nat) : (s.setFlag r f b).fl i = s.fl i := setReg_fl ..
@[simp] theorem setFlState_fl (n st i : Nat) : (setFlState n st s).fl i = s.fl i := fl_of_keeps (setFlState_keeps n st s) (by decide) i
@[simp] theorem bump_fl (r i : Nat) : (s.bump r).fl i = s.fl i := fl_of_keeps (State.bump_keeps s r) (by decide) i
@[simp] theorem streamPush_fl (p w i : Nat) : (streamPush p w s).fl i = s.fl i := fl_of_keeps (streamPush_keeps p w s) (by decide) i
@[simp] theorem cbcLane_fl (y : Int) (i : Nat) : (cbcLane k y s).fl i = s.fl i := fl_of_keeps (cbcLane_keeps k y s) (by decide) i

/-! ## Banks and restarts (R265, R271, R272) -/

@[simp] theorem flBank_fl (b : Nat) : (flBank k b s).fl k = { s.fl k with bank := b, fade := none, queued := none } := by
  unfold flBank
  simp only [setFld_fl, setReg_fl, setFlag_fl, fl_setFl_self]

/-- A restarted lane is fresh: it counts from 0, its delay line is empty, and no output waits. -/
theorem flRestart_fl : ((flRestart k s).fl k).stale = false ∧ ((flRestart k s).fl k).j = 0 ∧ ((flRestart k s).fl k).line = [] ∧
    ((flRestart k s).fl k).waiting = none := by
  unfold flRestart
  dsimp only
  simp only [setFlState_fl, setFlag_fl, bump_fl, apply_ite (fun u : State => u.fl k), setReg_fl, ite_self, flBank_fl, fl_setFl_self, and_self]

theorem fadeEnd_stopping : ((fadeEnd k s).fl k).stopping = (s.fl k).stopping := by
  have hbank : (((flBank k (1 - (s.fl k).bank) s).setReg (Reg.BANK_SEL k) 2).fl k).stopping = (s.fl k).stopping := by
    rw [setReg_fl, flBank_fl]
  unfold fadeEnd
  dsimp only
  split
  · split
    · exact hbank
    · rw [setReg_fl, fl_setFl_self]; exact hbank
  · exact hbank

/-! ## The CIC outputs (R257, R261) -/

/-- The FIR starts: it is busy, and only the delay line and the fade's count change beside. -/
theorem firStart_fl (o : CicOut) (f : Option Instant) : ∃ line job fade,
    (firStart k o f s).fl k = { s.fl k with line := line, busy := some job, fade := fade } :=
  ⟨_, _, _, fl_setFl_self ..⟩

theorem firStart_stopping (o : CicOut) (f : Option Instant) : ((firStart k o f s).fl k).stopping = (s.fl k).stopping := by
  obtain ⟨line, job, fade, h⟩ := firStart_fl s k o f
  rw [h]

variable {s k}

/-- A CIC output that meets no waiting one: the FIR computes it or the one before, and the CIC stage stands. -/
theorem cicArrive_taken {o : CicOut} (h : (s.fl k).waiting = none) : ((cicArrive k o s).fl k).busy.isSome = true ∧
    ((cicArrive k o s).fl k).j = (s.fl k).j ∧ ((cicArrive k o s).fl k).ins = (s.fl k).ins ∧
    ((cicArrive k o s).fl k).stale = (s.fl k).stale ∧ Keeps 1048576 s (cicArrive k o s) := by
  unfold cicArrive
  rw [if_neg (by simp [h])]
  split
  · next hb => exact ⟨by rw [fl_setFl_self]; exact hb, by simp, by simp, by simp, State.setFl_keeps ..⟩
  · obtain ⟨line, job, fade, hf⟩ := firStart_fl s k o none
    rw [hf]
    exact ⟨rfl, rfl, rfl, rfl, firStart_keeps ..⟩

/-- A CIC output that meets a waiting one restarts the lane. -/
theorem cicArrive_overflow {o : CicOut} (h : (s.fl k).waiting ≠ none) : ((cicArrive k o s).fl k).waiting = none ∧
    ((cicArrive k o s).fl k).line = [] ∧ ((cicArrive k o s).fl k).j = 0 := by
  have hx : cicArrive k o s = flRestart k ((s.setFlag (Reg.LANE_STATUS k) F.LANE_STATUS_FIR_OVR true).bump (Reg.LANE_OVR_COUNT k)) :=
    if_pos (Option.isSome_iff_ne_none.2 h)
  obtain ⟨-, hj, hline, hwait⟩ := flRestart_fl ((s.setFlag (Reg.LANE_STATUS k) F.LANE_STATUS_FIR_OVR true).bump (Reg.LANE_OVR_COUNT k)) k
  rw [hx]
  exact ⟨hwait, hline, hj⟩

/-- M inputs have passed the CIC stage: its output arrives at a lane with the same FIR. -/
theorem cicBlock_eq (ins : List Nat) (t : Instant) : ∃ o integ comb,
    cicBlock k ins t s = cicArrive k o (s.setFl k { s.fl k with integ := integ, comb := comb, j := (s.fl k).j + 1 }) :=
  ⟨_, _, _, rfl⟩

theorem cicBlock_taken {ins : List Nat} {t : Instant} (h : (s.fl k).waiting = none) : ((cicBlock k ins t s).fl k).busy.isSome = true ∧
    ((cicBlock k ins t s).fl k).j = (s.fl k).j + 1 ∧ ((cicBlock k ins t s).fl k).ins = (s.fl k).ins ∧
    ((cicBlock k ins t s).fl k).stale = (s.fl k).stale ∧ Keeps 1048576 s (cicBlock k ins t s) := by
  obtain ⟨o, integ, comb, hx⟩ := cicBlock_eq (s := s) (k := k) ins t
  obtain ⟨hbusy, hj, hins, hstale, hk⟩ :=
    cicArrive_taken (o := o) (s := s.setFl k { s.fl k with integ := integ, comb := comb, j := (s.fl k).j + 1 }) (k := k) (by simpa using h)
  rw [fl_setFl_self] at hj hins hstale
  rw [hx]
  exact ⟨hbusy, hj, hins, hstale, (State.setFl_keeps ..).trans hk⟩

theorem cicBlock_overflow {ins : List Nat} {t : Instant} (h : (s.fl k).waiting ≠ none) : ((cicBlock k ins t s).fl k).waiting = none ∧
    ((cicBlock k ins t s).fl k).line = [] ∧ ((cicBlock k ins t s).fl k).j = 0 := by
  obtain ⟨o, integ, comb, hx⟩ := cicBlock_eq (s := s) (k := k) ins t
  rw [hx]
  exact cicArrive_overflow (by simpa using h)

/-! ## The lane outputs (R262, R263) -/

variable (s k)

/-- What a lane output does beside its word does not end a shutdown. -/
theorem laneOutputEffects_stopping (j : FirJob) (sc : Int × Bool) (stale : Bool) (w : Nat) :
    ((laneOutputEffects k j sc stale w s).fl k).stopping = (s.fl k).stopping := by
  unfold laneOutputEffects
  extract_lets sat mark state fade lane idle ended pushed acted last
  have hsat : sat.fl k = s.fl k := by simp only [sat, apply_ite (fun u : State => u.fl k), bump_fl, setFlag_fl, ite_self]
  have hstate : state.fl k = s.fl k := by
    simp only [state, mark, apply_ite (fun u : State => u.fl k), setFlState_fl, setFlag_fl, ite_self, hsat]
  have hfade : fade.fl k = s.fl k := by simp only [fade, apply_ite (fun u : State => u.fl k), setReg_fl, setFlag_fl, setFld_fl, ite_self, hstate]
  have hidle : (idle.fl k).stopping = (s.fl k).stopping := by simp only [idle, lane, fl_setFl_self, hfade]
  have hended : (ended.fl k).stopping = (s.fl k).stopping := by
    unfold ended
    split
    · rw [fadeEnd_stopping, hidle]
    · exact hidle
  have hacted : (acted.fl k).stopping = (s.fl k).stopping := by
    simp only [acted, pushed, apply_ite (fun u : State => u.fl k), cbcLane_fl, streamPush_fl, ite_self, hended]
  split
  · rw [firStart_stopping, fl_setFl_self]; exact hacted
  · exact hacted

theorem sput_lt (w : Nat) (x : Int) : sput w x < 2 ^ w := by
  have hpos : (0 : Int) < ((2 ^ w : Nat) : Int) := by exact_mod_cast Nat.two_pow_pos w
  have hlt := Int.emod_lt_of_pos x hpos
  have hnonneg := Int.emod_nonneg x hpos.ne'
  unfold sput
  omega

/-- The word of a lane output and its time on the lane's ports. -/
def outputPorted (w : Nat) : State := (s.setWord (0x100 + k) w).setWord (0x128 + k) (s.time64 % 2 ^ 32)

/-- The word of a lane output and its time on the lane's ports and in its registers. -/
def outputShown (w : Nat) : State :=
  ((outputPorted s k w).setReg (Reg.OUTPUT k) w).setReg (Reg.OUT_TIME k) (outputPorted s k w).time64

theorem time64_of_keeps {f : Nat} {s u : State} (h : Keeps f s u) (hf : (f.testBit 0 || f.testBit 1 || f.testBit 24) = false) :
    u.time64 = s.time64 := by
  simp only [Bool.or_eq_false_iff] at hf
  obtain ⟨⟨h0, h1⟩, h24⟩ := hf
  have hnow : u.now = s.now := h.parts .now h0
  have hepoch : u.epoch = s.epoch := h.parts .epoch h1
  have hclk : u.clk = s.clk := h.parts .clk h24
  unfold State.time64 State.time64At State.ptpAt State.timeTick
  rw [hnow, hepoch, hclk]

theorem outputPorted_time64 (w : Nat) : (outputPorted s k w).time64 = s.time64 :=
  time64_of_keeps (f := 131104) ((State.setWord_keeps ..).trans (State.setWord_keeps ..)) (by decide)

theorem OUTPUT_ne_OUT_TIME {k : Nat} (hk : k < 40) : Reg.OUTPUT k ≠ Reg.OUT_TIME k := key_ne_of_index (by decide) (by omega) (by omega)
theorem OUTPUT_ne_DELAY {k : Nat} (hk : k < 40) : Reg.OUTPUT k ≠ Reg.DELAY k := key_ne_of_index (by decide) (by omega) (by omega)
theorem OUT_TIME_ne_DELAY {k : Nat} (hk : k < 40) : Reg.OUT_TIME k ≠ Reg.DELAY k := key_ne_of_index (by decide) (by omega) (by omega)

theorem outputShown_spec (hk : k < 40) (w : Nat) : (outputShown s k w).reg (Reg.OUTPUT k) = w ∧
    (outputShown s k w).reg (Reg.OUT_TIME k) = s.time64 ∧ (outputShown s k w).word (0x100 + k) = w :=
  ⟨(reg_setReg_other _ _ (OUTPUT_ne_OUT_TIME hk)).trans (reg_setReg_self ..), (reg_setReg_self ..).trans (outputPorted_time64 ..),
    (word_setWord_other _ _ (by omega)).trans (word_setWord_self ..)⟩

/-- Showing a word does not end a shutdown. -/
theorem outputShown_fl (w : Nat) : (outputShown s k w).fl k = s.fl k := by
  unfold outputShown outputPorted
  rw [setReg_fl, setReg_fl, fl_of_keeps (State.setWord_keeps ..) (by decide), fl_of_keeps (State.setWord_keeps ..) (by decide)]

/-- A lane output shows its word, whose low half is the value, after its other effects; DELAY follows but in a shutdown. -/
theorem laneOutput_eq (j : FirJob) : ∃ u w, Keeps 3178636 s u ∧ (u.fl k).stopping = (s.fl k).stopping ∧
    w % 65536 = sput 16 (outScale j.acc (sget 5 (s.laneCfg k F.LANE_CFG_OUT_SHIFT))).1 ∧
    laneOutput k j s =
      if ((outputShown u k w).fl k).stopping then outputShown u k w else (outputShown u k w).setReg (Reg.DELAY k) j.delay := by
  unfold laneOutput
  extract_lets sc p tag stale fading w u ported shown
  refine ⟨u, w, laneOutputEffects_keeps .., laneOutputEffects_stopping .., ?_, rfl⟩
  have hlt := sput_lt 16 sc.1
  change w % 65536 = sput 16 sc.1
  omega

theorem laneOutput_spec (hk : k < 40) (j : FirJob) :
    (laneOutput k j s).reg (Reg.OUTPUT k) % 65536 = sput 16 (outScale j.acc (sget 5 (s.laneCfg k F.LANE_CFG_OUT_SHIFT))).1 ∧
    (laneOutput k j s).reg (Reg.OUT_TIME k) = s.time64 ∧ ((s.fl k).stopping = false → (laneOutput k j s).reg (Reg.DELAY k) = j.delay) ∧
    (laneOutput k j s).word (0x100 + k) = (laneOutput k j s).reg (Reg.OUTPUT k) := by
  obtain ⟨u, w, hkeeps, hstop, hval, hx⟩ := laneOutput_eq s k j
  obtain ⟨hout, htime, hword⟩ := outputShown_spec u k hk w
  rw [time64_of_keeps hkeeps (by decide)] at htime
  rw [hx, outputShown_fl, hstop]
  split
  · next hs => exact ⟨by rw [hout, hval], htime, fun h => absurd hs (by simp [h]), hword.trans hout.symm⟩
  · have hout' := (reg_setReg_other (outputShown u k w) j.delay (OUTPUT_ne_DELAY hk)).trans hout
    exact ⟨by rw [hout', hval], (reg_setReg_other _ _ (OUT_TIME_ne_DELAY hk)).trans htime, fun _ => reg_setReg_self .., hword.trans hout'.symm⟩

/-! ## The registers of a lane -/

/-- The registers that starts, restarts and shutdowns of a lane write. -/
def flKeys (k : Nat) : List Nat :=
  [Reg.LANE_STATUS k, Reg.LANES_ACTIVE, Reg.DELAY k, Reg.OUTPUT k, Reg.RESTART_COUNT k, Reg.BANK_SEL k, Reg.FADE_POS k]

theorem LANE_CFG_not_mem_flKeys {k : Nat} (hk : k < 40) : Reg.LANE_CFG k ∉ flKeys k := by
  simp only [flKeys, Reg.LANE_CFG, Reg.LANE_STATUS, Reg.LANES_ACTIVE, Reg.DELAY, Reg.OUTPUT, Reg.RESTART_COUNT, Reg.BANK_SEL, Reg.FADE_POS,
    Reg.key, List.mem_cons, List.not_mem_nil, or_false]
  omega

theorem setFl_regsKept (x : Flane) (ks : List Nat) : RegsKept ks s (s.setFl k x) := .of_regs rfl

theorem regsKept_ite {s t u : State} {ks : List Nat} {c : Prop} [Decidable c] (h : RegsKept ks s t) (h' : RegsKept ks s u) :
    RegsKept ks s (if c then t else u) := by
  split <;> assumption

theorem setFlState_regsKept (st : Nat) : RegsKept (flKeys k) s (setFlState k st s) :=
  RegsKept.step (t := s.setFld (Reg.LANE_STATUS k) F.LANE_STATUS_STATE st)
    (RegsKept.step (regsKept_refl s _) (by simp [flKeys])) (by simp [flKeys])

theorem flBank_regsKept (b : Nat) : RegsKept (flKeys k) s (flBank k b s) := by
  have hstatus : Reg.LANE_STATUS k ∈ flKeys k := by simp [flKeys]
  unfold flBank
  extract_lets x lane cleared shown
  have hlane : RegsKept (flKeys k) s lane := setFl_regsKept s k _ _
  have hcleared : RegsKept (flKeys k) s cleared := RegsKept.step (t := lane.setFld ..) (hlane.step hstatus) hstatus
  have hshown : RegsKept (flKeys k) s shown := RegsKept.step (t := cleared.setFlag ..) (hcleared.step hstatus) (by simp [flKeys])
  exact hshown.step hstatus

theorem flRestart_regsKept : RegsKept (flKeys k) s (flRestart k s) := by
  have hstatus : Reg.LANE_STATUS k ∈ flKeys k := by simp [flKeys]
  unfold flRestart
  extract_lets x b was n cic delay bank answered counted
  have hcic : RegsKept (flKeys k) s cic := setFl_regsKept s k _ _
  have hdelay : RegsKept (flKeys k) s delay := regsKept_ite (hcic.step (by simp [flKeys])) hcic
  have hbank : RegsKept (flKeys k) s bank := hdelay.trans (flBank_regsKept _ _ _)
  have hanswered : RegsKept (flKeys k) s answered := regsKept_ite (hbank.step (by simp [flKeys])) hbank
  have hcounted : RegsKept (flKeys k) s counted := RegsKept.trans (t := answered.setFlag ..) (hanswered.step hstatus)
    ((bump_regsKept _ _).mono (by simp [flKeys]))
  exact RegsKept.trans (t := counted.setFlag ..) (hcounted.step hstatus) (setFlState_regsKept _ _ _)

theorem flStale_regsKept : RegsKept (flKeys k) s (flStale k s) := by
  unfold flStale
  split
  · extract_lets y lane shown w
    have hlane : RegsKept (flKeys k) s lane := setFl_regsKept s k _ _
    have hshown : RegsKept (flKeys k) s shown :=
      RegsKept.trans (t := lane.setFlag ..) (hlane.step (by simp [flKeys])) (setFlState_regsKept _ _ _)
    exact RegsKept.step (t := { shown with words := _ }) (hshown.trans (.of_regs rfl)) (by simp [flKeys])
  · exact regsKept_refl s _

theorem flFresh_regsKept : RegsKept (flKeys k) s (flFresh k s) :=
  regsKept_ite ((flRestart_regsKept s k).trans (flStale_regsKept _ _)) (flRestart_regsKept s k)

theorem flStart_regsKept : RegsKept (flKeys k) s (flStart k s) :=
  ((setFl_regsKept s k {} _).trans (flBank_regsKept _ _ _)).trans (flFresh_regsKept _ _)

theorem flShutdown_regsKept : RegsKept (flKeys k) s (flShutdown k s) := by
  unfold flShutdown
  extract_lets busy bank answered x lane
  have hbank : RegsKept (flKeys k) s bank := flBank_regsKept _ _ _
  have hanswered : RegsKept (flKeys k) s answered := regsKept_ite (hbank.step (by simp [flKeys])) hbank
  have hlane : RegsKept (flKeys k) s lane := hanswered.trans (setFl_regsKept _ _ _ _)
  exact (hlane.trans (setFlState_regsKept _ _ _)).step (by simp [flKeys])

theorem flEnable_regsKept (on : Bool) : RegsKept (flKeys k) s (flEnable k on s) :=
  regsKept_ite ((regsKept_refl s _).step (by simp [flKeys])) <|
    regsKept_ite (regsKept_ite (regsKept_refl s _) (flStart_regsKept s k)) <| regsKept_ite (flShutdown_regsKept s k) (regsKept_refl s _)

/-- A configuration that takes effect is stored in its register. -/
theorem laneCfgApply_cfg {k : Nat} (hk : k < 40) (v : Nat) : (laneCfgApply k v s).reg (Reg.LANE_CFG k) = v := by
  have hkey := LANE_CFG_not_mem_flKeys hk
  unfold laneCfgApply
  extract_lets old on moved gain cfg
  have hcfg : cfg.reg (Reg.LANE_CFG k) = v := reg_setReg_self ..
  split
  · split
    · exact (flFresh_regsKept cfg k _ hkey).trans hcfg
    · exact hcfg
  · exact (flEnable_regsKept cfg k on _ hkey).trans hcfg

/-! ## Coefficients (R268, R269) -/

/-- Coefficients stored at a place of the coefficient memory, whose default is `d`. -/
def State.setCoefs (d : List Nat) (i : Nat) (h : List Nat) : State :=
  { s with filt := { s.filt with coefs := tabSet d s.filt.coefs i h } }

theorem setCoefs_keeps (d : List Nat) (i : Nat) (h : List Nat) : Keeps 1048576 s (s.setCoefs d i h) :=
  ⟨rfl, Nat.le_refl _, List.suffix_refl _, id, id, fun p hp => by
    cases p <;> first | rfl | exact ⟨rfl, rfl⟩ | exact absurd hp (by decide)⟩

theorem coefs_of_filt {s u : State} (h : u.filt = s.filt) (i b : Nat) : u.coefs i b = s.coefs i b := by unfold State.coefs; rw [h]

/-- The coefficients of the staging buffer that COEF_COMMIT takes. -/
def State.staged : List Nat := s.staging.take (s.reg Reg.COEF_TAPS)

/-- They fit into the lane's FIR beside its other bank (R261). -/
def State.stagedFits : Bool :=
  s.firFits (s.reg (Reg.LANE_CFG (s.reg Reg.COEF_LANE))) (s.reg Reg.COEF_TAPS)
    (if s.bankValid (s.reg Reg.COEF_LANE) (1 - s.reg Reg.COEF_BANK) then s.taps (s.reg Reg.COEF_LANE) (1 - s.reg Reg.COEF_BANK) else 0)

variable {s}

theorem actCoefCommit_law (hl : s.lawFl (s.reg Reg.COEF_LANE) = true) : actCoefCommit s = (s, stState) := if_pos hl

section
variable (hl : s.lawFl (s.reg Reg.COEF_LANE) = false)
include hl

theorem actCoefCommit_inUse (hu : s.bankInUse (s.reg Reg.COEF_LANE) (s.reg Reg.COEF_BANK) = true) :
    actCoefCommit s = (s.setReg Reg.COEF_STATUS 5, stState) :=
  (if_neg (by simp [hl])).trans (if_pos hu)

variable (hu : s.bankInUse (s.reg Reg.COEF_LANE) (s.reg Reg.COEF_BANK) = false)
include hu

theorem actCoefCommit_badCrc (hc : crc32 (s.staged.flatMap (toBytes 2)) ≠ s.reg Reg.COEF_CRC) :
    actCoefCommit s = (s.setReg Reg.COEF_STATUS 3, stOK) :=
  ((if_neg (by simp [hl])).trans (if_neg (by simp [hu]))).trans (if_pos hc)

variable (hc : crc32 (s.staged.flatMap (toBytes 2)) = s.reg Reg.COEF_CRC)
include hc

theorem actCoefCommit_unfit (hf : s.stagedFits = false) : actCoefCommit s = (s, stState) :=
  (((if_neg (by simp [hl])).trans (if_neg (by simp [hu]))).trans (if_neg (not_not.2 hc))).trans
    (if_pos (show (!s.stagedFits) = true by rw [hf]; rfl))

theorem actCoefCommit_taken (hf : s.stagedFits = true) : ∃ d, actCoefCommit s =
    (((s.setCoefs (if s.reg Reg.COEF_BANK = 0 then [0x4000] else []) (2 * s.reg Reg.COEF_LANE + s.reg Reg.COEF_BANK) s.staged).setReg
      (bankReg (s.reg Reg.COEF_LANE) (s.reg Reg.COEF_BANK)) d).setReg Reg.COEF_STATUS 2, stOK) :=
  ⟨_, (((if_neg (by simp [hl])).trans (if_neg (by simp [hu]))).trans (if_neg (not_not.2 hc))).trans
    (if_neg (show ¬(!s.stagedFits) = true by rw [hf]; decide))⟩

end

/-! ## The counters (Table 9-4) -/

/-- What FILT_CLEAR does to one lane. -/
def filtZero (k : Nat) (s : State) : State := ((s.setReg (Reg.SAT_COUNT k) 0).setReg (Reg.LANE_OVR_COUNT k) 0).setReg (Reg.RESTART_COUNT k) 0

theorem actFiltClear_eq (s : State) : (actFiltClear s).1 = s.forEach (List.range 40) filtZero := rfl

/-- Clearing a lane's counters leaves a register at 0 that is at 0 or among them. -/
theorem filtZero_reg {s : State} {k r : Nat} (h : s.reg r = 0 ∨ r = Reg.SAT_COUNT k ∨ r = Reg.LANE_OVR_COUNT k ∨ r = Reg.RESTART_COUNT k) :
    (filtZero k s).reg r = 0 := by
  unfold filtZero
  rw [reg_setReg, reg_setReg, reg_setReg]
  split_ifs with hrestart hover hsat
  · rfl
  · rfl
  · rfl
  · simpa [hrestart, hover, hsat] using h

/-- What one step of a bulk operation reaches and every step keeps holds at its end. -/
theorem forEach_reaches {α : Type} {P : State → Prop} {f : α → State → State} (hkeep : ∀ x s, P s → P (f x s)) {l : List α} {i : α}
    (hi : i ∈ l) (hreach : ∀ s, P (f i s)) (s : State) : P (s.forEach l f) := by
  have hall : ∀ (l : List α) (s : State), P s → P (s.forEach l f) := by
    intro l
    induction l with
    | nil => exact fun _ h => h
    | cons x l ih => exact fun s h => ih _ (hkeep x s h)
  induction l generalizing s with
  | nil => cases hi
  | cons x l ih =>
    obtain rfl | h := List.mem_cons.1 hi
    · exact hall l _ (hreach s)
    · exact ih h (f x s)

theorem actFiltClear_reg {s : State} {k r : Nat} (hk : k < 40)
    (hr : r = Reg.SAT_COUNT k ∨ r = Reg.LANE_OVR_COUNT k ∨ r = Reg.RESTART_COUNT k) : (actFiltClear s).1.reg r = 0 := by
  rw [actFiltClear_eq]
  exact forEach_reaches (P := fun u => u.reg r = 0) (f := filtZero) (l := List.range 40) (fun _ _ h => filtZero_reg (.inl h))
    (List.mem_range.2 hk) (fun _ => filtZero_reg (.inr hr)) s

end Sys2Proof.Machine
end

section
/-! The filter lanes (O34): each command by what it does to its lane. -/

/- Each proof is checked in order, not in a thread of its own that waits for those before it. -/
set_option Elab.async false

namespace Sys2Proof

open Machine

variable {s : State} {k : Fin 40} {b : Fin 2} {bits : List Bool} {v : BitVec 32} {t : Instant}

/-! ## CIC_OUTPUT (R257, R261) -/

theorem cicOutput_off (hr : s.laneRuns k = false) : Completes (.cicOutput k bits t) s (· = s) := .of (if_pos (by simp [hr])) rfl

/-- The lane without the inputs that its next CIC output takes. -/
def inputsTaken (k : Nat) (s : State) : State :=
  s.setFl k { s.fl k with ins := (s.fl k).ins.drop (s.laneCfg k F.LANE_CFG_DECIM) }

section
variable (hr : s.laneRuns k = true) (ha : s.laneIsAin k = true) (hm : s.laneCfg k F.LANE_CFG_DECIM ≤ (s.fl k).ins.length)
include hr ha hm

theorem exec_cicOutput_ain (bits : List Bool) (t : Instant) : ∃ ins at_, exec (.cicOutput k bits t) s =
    .next (cicBlock k ins at_ (inputsTaken k s)) :=
  ⟨_, _, ((if_neg (by simp [hr])).trans (if_pos ha)).trans (if_neg (Nat.not_lt.2 hm))⟩

theorem cicOutput_ain_taken (hw : (s.fl k).waiting = none) : Completes (.cicOutput k bits t) s fun u => (u.fl k).j = (s.fl k).j + 1 ∧
    (u.fl k).ins = (s.fl k).ins.drop (s.laneCfg k F.LANE_CFG_DECIM) ∧ (u.fl k).busy.isSome = true ∧ PartsKept [.filt] s u := by
  obtain ⟨ins, at_, hx⟩ := exec_cicOutput_ain hr ha hm bits t
  obtain ⟨hbusy, hj, hins, -, hk⟩ := cicBlock_taken (s := inputsTaken k s) (k := k) (ins := ins) (t := at_) (by simpa [inputsTaken] using hw)
  exact .of hx ⟨hj.trans (by simp [inputsTaken]), hins.trans (by simp [inputsTaken]), hbusy, ((State.setFl_keeps ..).trans hk).partsKept_of⟩

theorem cicOutput_ain_overflow (hw : (s.fl k).waiting ≠ none) : Completes (.cicOutput k bits t) s fun u => (u.fl k).waiting = none ∧
    (u.fl k).line = [] ∧ (u.fl k).j = 0 := by
  obtain ⟨ins, at_, hx⟩ := exec_cicOutput_ain hr ha hm bits t
  exact .of hx (cicBlock_overflow (s := inputsTaken k s) (by simpa [inputsTaken] using hw))

end

section
variable (hr : s.laneRuns k = true) (ha : s.laneIsAin k = false) (hs : s.sdiActive (s.laneSrc k) = true) (ht : s.laneThrottled k = false)
  (hm : bits.length = s.laneCfg k F.LANE_CFG_DECIM)
include hr ha hs ht hm

theorem exec_cicOutput_sdi (t : Instant) : exec (.cicOutput k bits t) s =
    .next (cicBlock k (bits.map b2n) t (if (s.fl k).stale then flRestart k (s.advance t) else s.advance t)) :=
  ((if_neg (by simp [hr])).trans (if_neg (by simp [ha]))).trans (if_pos (by simp [hs, ht, hm]))

theorem cicOutput_sdi_taken (hf : (s.fl k).stale = false) (hw : (s.fl k).waiting = none) : Completes (.cicOutput k bits t) s fun u =>
    (u.fl k).j = (s.fl k).j + 1 ∧ (u.fl k).busy.isSome = true ∧ PartsKept [.now, .filt] s u := by
  have hx := exec_cicOutput_sdi hr ha hs ht hm t
  rw [if_neg (by simp [hf])] at hx
  obtain ⟨hbusy, hj, -, -, hk⟩ := cicBlock_taken (s := s.advance t) (k := k) (ins := bits.map b2n) (t := t) hw
  have hkeeps : Keeps 1048577 s (cicBlock k (bits.map b2n) t (s.advance t)) :=
    ((State.advance_keeps s t).mono (by decide)).trans (hk.mono (by decide))
  exact .of hx ⟨hj, hbusy, hkeeps.partsKept_of⟩

theorem cicOutput_sdi_overflow (hf : (s.fl k).stale = false) (hw : (s.fl k).waiting ≠ none) : Completes (.cicOutput k bits t) s fun u =>
    (u.fl k).waiting = none ∧ (u.fl k).line = [] ∧ (u.fl k).j = 0 := by
  have hx := exec_cicOutput_sdi hr ha hs ht hm t
  rw [if_neg (by simp [hf])] at hx
  exact .of hx (cicBlock_overflow (s := s.advance t) hw)

theorem cicOutput_sdi_stale (hf : (s.fl k).stale = true) : Completes (.cicOutput k bits t) s fun u =>
    (u.fl k).stale = false ∧ (u.fl k).j = 1 := by
  have hx := exec_cicOutput_sdi hr ha hs ht hm t
  rw [if_pos hf] at hx
  obtain ⟨hstale, hcount, -, hwait⟩ := flRestart_fl (s.advance t) k
  obtain ⟨-, hj, -, hkept, -⟩ := cicBlock_taken (ins := bits.map b2n) (t := t) hwait
  exact .of hx ⟨hkept.trans hstale, hj.trans (by rw [hcount])⟩

end

/-! ## LANE_OUTPUT (R262, R263) -/

theorem laneOutput_idle (hb : (s.fl k).busy = none) : Completes (.laneOutput k t) s (· = s) := by
  refine .of ?_ rfl
  show execLaneOutput k t s = _
  unfold execLaneOutput
  rw [hb]

theorem exec_laneOutput_due {j : FirJob} (hb : (s.fl k).busy = some j)
    (hlat : j.at_ + ns (s.tLat k j.ticks) ≤ t + ns 10) (hown : j.from_.elim 0 (fun f => f + ns (5 * j.ticks)) ≤ t)
    (hlast : t ≤ max (j.at_ + ns (s.tLat k j.ticks)) (j.from_.elim 0 fun f => f + ns (5 * j.ticks))) :
    exec (.laneOutput k t) s = .next (laneOutput k j (s.advance t)) := by
  show execLaneOutput k t s = _
  unfold execLaneOutput
  rw [hb]
  -- `own` is rewritten, not unfolded: to see by computation that two instants agree, the kernel would count nanoseconds.
  cases hfrom : j.from_ with
  | none =>
    rw [hfrom, Option.elim_none] at hown hlast
    simp only [hfrom]
    exact if_pos ⟨hlat, hown, hlast⟩
  | some f =>
    rw [hfrom, Option.elim_some] at hown hlast
    simp only [hfrom]
    exact if_pos ⟨hlat, hown, hlast⟩

theorem laneOutput_due {j : FirJob} (hb : (s.fl k).busy = some j)
    (hlat : j.at_ + ns (s.tLat k j.ticks) ≤ t + ns 10) (hown : j.from_.elim 0 (fun f => f + ns (5 * j.ticks)) ≤ t)
    (hlast : t ≤ max (j.at_ + ns (s.tLat k j.ticks)) (j.from_.elim 0 fun f => f + ns (5 * j.ticks))) :
    Completes (.laneOutput k t) s fun u =>
      u.reg (Reg.OUTPUT k) % 65536 = sput 16 (outScale j.acc (sget 5 (s.laneCfg k F.LANE_CFG_OUT_SHIFT))).1 ∧
      u.reg (Reg.OUT_TIME k) = (s.advance t).time64 ∧ ((s.fl k).stopping = false → u.reg (Reg.DELAY k) = j.delay) ∧
      u.word (0x100 + k) = u.reg (Reg.OUTPUT k) :=
  .of (exec_laneOutput_due hb hlat hown hlast) (laneOutput_spec (s.advance t) k k.isLt j)

/-! ## LANE_CFG_WRITE (R258, R261, R274) -/

theorem laneCfgWrite_refused (h : s.lawFl k = true ∨ valueOk (Reg.LANE_CFG k) v.toNat = false ∨ s.laneCfgOk k v.toNat = false) :
    Completes (.laneCfgWrite k v) s (· = s) := by
  have hact : actLaneCfg k v.toNat s = (s, stState) ∨ actLaneCfg k v.toNat s = (s, stRange) := by
    unfold actLaneCfg
    split_ifs with hlaw hvalue hcfg
    · exact .inl rfl
    · exact .inr rfl
    · exact .inl rfl
    · rw [Bool.not_eq_true', Bool.not_eq_false] at hvalue hcfg
      simp [hlaw, hvalue, hcfg] at h
  refine .of rfl ?_
  obtain hact | hact := hact <;> rw [hact] <;> rfl

theorem valueOk_of_laneCfgOk {k v : Nat} (h : s.laneCfgOk k v = true) : valueOk (Reg.LANE_CFG k) v = true := by
  simp only [State.laneCfgOk, Bool.and_eq_true] at h
  obtain ⟨⟨⟨hvalue, -⟩, -⟩, -⟩ := h
  exact hvalue

theorem laneCfgWrite_taken (hl : s.lawFl k = false) (ho : s.laneCfgOk k v.toNat = true) : Completes (.laneCfgWrite k v) s fun u =>
    u.reg (Reg.LANE_CFG k) = v.toNat := by
  have hv := valueOk_of_laneCfgOk ho
  have hact : actLaneCfg k v.toNat s = (laneCfgApply k v.toNat s, stOK) :=
    ((if_neg (by simp [hl])).trans (if_neg (by simp [hv]))).trans (if_neg (by simp [ho]))
  have hkey : Reg.LANE_CFG k ∉ storeKeys := by
    simp only [storeKeys, Reg.LANE_CFG, Reg.CFG_SEQ, Reg.CFG_GEN, Reg.CFG_STATUS, Reg.key, List.mem_cons, List.not_mem_nil, or_false]
    omega
  exact .of rfl ((stored_reg hkey ..).trans (by rw [hact]; exact laneCfgApply_cfg s k.isLt _))

/-! ## COEF_WRITE and COEF_COMMIT (R261, R268, R269) -/

theorem exec_coefWrite {r : State × Nat} (h : actCoefWrite s = r) : exec .coefWrite s = .next r.1 := by rw [← h]; rfl

theorem exec_coefCommit {r : State × Nat} (h : actCoefCommit s = r) : exec .coefCommit s = .next r.1 := by rw [← h]; rfl

theorem coefWrite_taken (ha : s.reg Reg.COEF_ADDR % 64 = 0) (hm : s.reg Reg.COEF_ADDR ≤ 448) : Completes .coefWrite s fun u =>
    u.staging = s.staging.take (s.reg Reg.COEF_ADDR) ++
        ((List.range 32).flatMap fun i => [s.reg (Reg.COEF_BLOCK i) % 65536, s.reg (Reg.COEF_BLOCK i) / 65536]) ++
        s.staging.drop (s.reg Reg.COEF_ADDR + 64) ∧ PartsKept [.filt] s u := by
  have hok : ¬(s.reg Reg.COEF_ADDR % 64 ≠ 0 ∨ 448 < s.reg Reg.COEF_ADDR) := by omega
  exact .of (exec_coefWrite (if_neg hok))
    ⟨tabGet_set_self .., (setCoefs_keeps s (List.replicate 512 0) 80 _).partsKept_of⟩

theorem coefWrite_refused (h : s.reg Reg.COEF_ADDR % 64 ≠ 0 ∨ 448 < s.reg Reg.COEF_ADDR) : Completes .coefWrite s fun u =>
    u.reg Reg.COEF_STATUS = 4 ∧ RegsKept [Reg.COEF_STATUS] s u ∧ PartsKept [.regs] s u :=
  .of (exec_coefWrite (if_pos h))
    ⟨reg_setReg_self .., RegsKept.setReg s _ _, (State.setReg_keeps s _ _).partsKept_of⟩

/-- A refused COEF_COMMIT shows its cause in COEF_STATUS alone. -/
theorem coefStatus_shown (n : Nat) : (s.setReg Reg.COEF_STATUS n).reg Reg.COEF_STATUS = n ∧ PartsKept [.regs] s (s.setReg Reg.COEF_STATUS n) :=
  ⟨reg_setReg_self .., (State.setReg_keeps s _ _).partsKept_of⟩

theorem coefCommit_taken (hl : s.lawFl (s.reg Reg.COEF_LANE) = false) (hu : s.bankInUse (s.reg Reg.COEF_LANE) (s.reg Reg.COEF_BANK) = false)
    (hc : crc32 (s.staged.flatMap (toBytes 2)) = s.reg Reg.COEF_CRC) (hf : s.stagedFits = true) : Completes .coefCommit s fun u =>
    u.reg Reg.COEF_STATUS = 2 ∧ u.coefs (s.reg Reg.COEF_LANE) (s.reg Reg.COEF_BANK) = s.staged ∧ PartsKept [.regs, .filt] s u := by
  obtain ⟨d, hact⟩ := actCoefCommit_taken hl hu hc hf
  refine .of (exec_coefCommit hact) ⟨reg_setReg_self .., ?_, ?_⟩
  · exact (coefs_of_filt ((setReg_filt _ _ _).trans (setReg_filt _ _ _)) _ _).trans (tabGet_set_self ..)
  · exact (((setCoefs_keeps s _ _ _).step (by decide) (Keeps.refl 1048584 s)).trans
      (((State.setReg_keeps ..).trans (State.setReg_keeps ..)).mono (by decide))).partsKept_of

/-! ## BANK_SEL (R261, R271) -/

theorem exec_bankSel {r : State × Nat} (h : actBankSel k b s = r) : exec (.bankSel k b) s = .next r.1 := by rw [← h]; rfl

theorem bankSel_refused (h : s.lawFl k = true ∨ s.bankValid k b = false ∨ s.laneRuns k = false ∨ s.banksFit k = false) :
    Completes (.bankSel k b) s fun u => u.reg (Reg.BANK_SEL k) = 3 ∧ RegsKept [Reg.BANK_SEL k] s u ∧ PartsKept [.regs] s u := by
  have hcond : (s.lawFl k || !s.bankValid k b || !s.laneRuns k || !s.banksFit k) = true := by
    obtain h | h | h | h := h <;> simp [h]
  exact .of (exec_bankSel (if_pos hcond))
    ⟨reg_setReg_self .., RegsKept.setReg s _ _, (State.setReg_keeps s _ _).partsKept_of⟩

section
variable (hl : s.lawFl k = false) (hv : s.bankValid k b = true) (hr : s.laneRuns k = true) (hb : s.banksFit k = true)
include hl hv hr hb

theorem bankSel_fades (hf : (s.fl k).fade = none) (hn : (s.fl k).bank ≠ b) : Completes (.bankSel k b) s fun u =>
    u.reg (Reg.BANK_SEL k) = 1 ∧ u.fl k = { s.fl k with fade := some (0, s.reg (Reg.FADE_LEN k)) } :=
  .of (exec_bankSel (((if_neg (by simp [hl, hv, hr, hb])).trans (if_neg (by simp [hf]))).trans (if_neg hn))) ⟨reg_setReg_self .., by simp⟩

theorem bankSel_inUse (hf : (s.fl k).fade = none) (he : (s.fl k).bank = b) : Completes (.bankSel k b) s fun u =>
    u.reg (Reg.BANK_SEL k) = 2 ∧ u.filt = s.filt :=
  .of (exec_bankSel (((if_neg (by simp [hl, hv, hr, hb])).trans (if_neg (by simp [hf]))).trans (if_pos he)))
    ⟨reg_setReg_self .., setReg_filt _ _ _⟩

theorem bankSel_queued (hf : (s.fl k).fade ≠ none) : Completes (.bankSel k b) s fun u =>
    u.reg (Reg.BANK_SEL k) = 1 ∧ u.fl k = { s.fl k with queued := some b.val } :=
  .of (exec_bankSel ((if_neg (by simp [hl, hv, hr, hb])).trans (if_pos (Option.isSome_iff_ne_none.2 hf)))) ⟨reg_setReg_self .., by simp⟩

end

/-! ## FILT_CLEAR (Table 9-4) -/

theorem filtClear_spec (s : State) : Completes .filtClear s fun u =>
    (∀ j, j < 40 → u.reg (Reg.SAT_COUNT j) = 0 ∧ u.reg (Reg.LANE_OVR_COUNT j) = 0 ∧ u.reg (Reg.RESTART_COUNT j) = 0) ∧ PartsKept [.regs] s u :=
  .ofKeeps (execFiltClear_keeps s) rfl fun hk =>
    ⟨fun _ hj => ⟨actFiltClear_reg hj (.inl rfl), actFiltClear_reg hj (.inr (.inl rfl)), actFiltClear_reg hj (.inr (.inr rfl))⟩, hk.partsKept_of⟩

/-- Settles O34: each command by the lemmas on what it does in each of its cases. -/
theorem filterLanes : Obligations.FilterLanes := by
  unfold Obligations.FilterLanes
  intro s k b bits v t n x m a cl cb h words
  exact ⟨cicOutput_ain_taken, cicOutput_ain_overflow,
    fun hr ha hs ht hm => ⟨cicOutput_sdi_taken hr ha hs ht hm, cicOutput_sdi_overflow hr ha hs ht hm, cicOutput_sdi_stale hr ha hs ht hm⟩,
    cicOutput_off, laneOutput_idle, fun _ hb => laneOutput_due hb, laneCfgWrite_refused, laneCfgWrite_taken, coefWrite_taken, coefWrite_refused,
    fun hl hu => .of (exec_coefCommit (actCoefCommit_inUse hl hu)) (coefStatus_shown 5),
    fun hl hu hc => .of (exec_coefCommit (actCoefCommit_badCrc hl hu hc)) (coefStatus_shown 3),
    fun hl hu hc _ _ hf => coefCommit_taken hl hu hc hf, fun hl => .of (exec_coefCommit (actCoefCommit_law hl)) rfl,
    fun hl hu hc hf => .of (exec_coefCommit (actCoefCommit_unfit hl hu hc hf)) rfl, bankSel_refused,
    fun hl hv hr hb => ⟨bankSel_fades hl hv hr hb, bankSel_inUse hl hv hr hb, bankSel_queued hl hv hr hb⟩, filtClear_spec s⟩

end Sys2Proof
end
